-- ==== Sys2Proof/Word.lean ====
section
/-!
DEFINITION. The word types of the part and their plainest arithmetic (R3 to R5): 32-bit words,
bytes, signed readings of a field, saturation and rounding.
-/

namespace Sys2Proof

/-- A 32-bit word: an Utper register, an I/O register as a whole (R8). -/
abbrev Word := BitVec 32

/-- A byte of memory. -/
abbrev Byte := BitVec 8

/-- The signed two's-complement reading of an `n`-bit field (R4). -/
def sx (n v : Nat) : Int := if 2 ^ (n - 1) ≤ v % 2 ^ n then (v % 2 ^ n : Nat) - (2 ^ n : Nat) else (v % 2 ^ n : Nat)

/-- The `n`-bit two's-complement pattern of an integer (R4). -/
def ux (n : Nat) (x : Int) : Nat := (x % (2 ^ n : Nat)).toNat

/-- Saturation of an integer to the closed range `lo..hi` (R5). -/
def satI (lo hi x : Int) : Int := if x < lo then lo else if hi < x then hi else x

/-- Saturation of a natural number at `hi` (R5). -/
def satN (hi x : Nat) : Nat := if hi < x then hi else x

/-- Saturation to a signed `n`-bit field (R5). -/
def satS (n : Nat) (x : Int) : Int := satI (-(2 ^ (n - 1) : Nat)) ((2 ^ (n - 1) : Nat) - 1) x

/-- Truncation by `k` bits: the result moves toward minus infinity (R5). -/
def trunc (k : Nat) (x : Int) : Int := x.fdiv (2 ^ k : Nat)

/-- Division by `d`, rounding halves to the even neighbour (R5). -/
def divRHE (x : Int) (d : Nat) : Int :=
  let q := x.fdiv d
  let r := x.fmod d
  if 2 * r < d then q else if (d : Int) < 2 * r then q + 1 else if q % 2 = 0 then q else q + 1

/-- Round-half-even by `k` bits (R5). -/
def rhe (k : Nat) (x : Int) : Int := divRHE x (2 ^ k)

/-- A Boolean as a bit. -/
def b2n (b : Bool) : Nat := if b then 1 else 0

/-- Bits `hi..lo` of a number. -/
def bitsOf (v hi lo : Nat) : Nat := v / 2 ^ lo % 2 ^ (hi + 1 - lo)

end Sys2Proof
end

