-- ==== Sys2Proof/Syntax.lean ====
section
/-!
DEFINITION. The commands of the part: one constructor for every row of the table of operations and
events, with the operands the spec gives the row. A row that is a write carries its requester and
the word written; a row that is an event of the board, of a ball, of a link or of time carries what
the part sees of it.
-/

namespace Sys2Proof

/-- A superframe's frame (Table 7.2): the type, its SUB and its payload fields. -/
inductive Frame where
  | empty
  | time (step : Bool) (tb : BitVec 64)
  | gstart (g : Fin 16) (target : BitVec 64)
  | msg (kind : BitVec 2) (first last mpass : Bool) (dst src xid frag : BitVec 8) (data : BitVec 32)
  | enum (count : BitVec 9) (tag : BitVec 7) (dev : BitVec 48)
  | calMeasure (seq : BitVec 16) (acc : BitVec 32)
  | calResult (seq : BitVec 16) (lbar : BitVec 32) (n : BitVec 16)
  | bypass (sub : BitVec 5) (node : BitVec 8)
  | reserved (sub : BitVec 5) (payload : BitVec 64)
deriving DecidableEq, Repr, Inhabited


/-- Who can issue a command: the equipment outside and the part's own agents. The requesters of an
I/O access, one high-word latch each (R129); SYS_LOCKINFO.REQ numbers them in this order (R432). -/
inductive Req where
  | strandA | strandB | strandC | dma | crerus | debug
deriving DecidableEq, Repr

/-- A requester with its world: `sealedW` is the SEALED world of a strand (R286). -/
structure Who where
  req : Req
  sealedW : Bool
deriving DecidableEq, Repr

/-- The wide values (R129): TB, the captured TB of a timer, and the pairs of other frames. -/
inductive Wide where
  | tb | captb (n : Fin 16) | gsnext | lastrs | evrtc | rtc
deriving DecidableEq, Repr

/-- The registers of a PWM pair whose writes follow the update mode (R83). -/
inductive PwmReg where
  | per | cmpa | cmpb | phase | dtr | dtf | trg
deriving DecidableEq, Repr

/-- The edges of a pair's output references: A or B, and in CENTRE mode on the down-count (R76). -/
inductive PwmEdge where
  | aUp | aDown | bUp | bDown
deriving DecidableEq, Repr

/-- What stands at the three AIN balls of an ADC core (Table 2.1), in microvolts. -/
structure PinVolts where
  a0 : Nat
  a1 : Nat
  a2 : Nat
deriving DecidableEq, Repr

/-- What stands at the inputs of an ADC core within the die (Table 2.1), in microvolts: its temperature sensor and a
quarter of VDD. -/
structure DieVolts where
  temp : Nat
  vdd : Nat
deriving DecidableEq, Repr

/-- The voltages of REF_INT, REFA and REFB (R22), in microvolts. -/
structure RefVolts where
  int : Nat
  a : Nat
  b : Nat
deriving DecidableEq, Repr

/-- The voltage of an AIN ball, in microvolts (R29). -/
structure AinVolts where
  ball : Fin 24
  v : Nat
deriving DecidableEq, Repr

/-- What the tamper supervisor meets at a detection (Table 17.6): the sources active now, and the die temperature in
°C. -/
structure TamperSense where
  live : BitVec 9
  deg : Int
deriving DecidableEq, Repr

/-- A tamper switch (R377): its number, the level it stands at, and for how many milliseconds. -/
structure SwitchSense where
  n : Fin 2
  level : Bool
  ms : Nat
deriving DecidableEq, Repr

/-- A command. The rule in brackets is the row's own; the sentence after it is the table's. -/
inductive Instr where
  /-- REGISTER_WRITE (R8): A write to an I/O register that has no row of its own sets its fields under the access codes. -/
  | registerWrite (q : Who) (addr : BitVec 20) (v : Word)
  /-- WIDE_VALUE_LOW_READ (R129): An ACTIVE read of the low word of a wide value returns the low half and loads the requester's high-word latch. -/
  | wideValueLowRead (q : Req) (w : Wide)
  /-- WIDE_VALUE_LOW_WRITE (R131): A write of the low word of a writable wide value is held in the requester's write latch. -/
  | wideValueLowWrite (q : Who) (v : Word)
  /-- WIDE_VALUE_HIGH_WRITE (R131): A write of the high word commits both halves of a writable wide value and clears the write latch. -/
  | wideValueHighWrite (q : Who) (v : Word)
  /-- ADC_SOFTWARE_START (R44): A write of SWSTART triggers the named slots of an ADC core. -/
  | adcSoftwareStart (q : Who) (i : Fin 8) (v : Word)
  /-- ADC_PENDING_SLOT_START (R25): A free core opens the aperture of its lowest pending slot. -/
  | adcPendingSlotStart (i : Fin 8)
  /-- ADC_CONVERSION_DONE (R24): A result is written to the slot register and the Loom, the completion event fires and the core becomes free. -/
  | adcConversionDone (i : Fin 8) (v : PinVolts) (e : DieVolts) (r : RefVolts)
  /-- ADC_AVERAGE_DONE (R27): An averaging sequence ends and its rounded mean is delivered with the completion event. -/
  | adcAverageDone (i : Fin 8) (v : PinVolts) (e : DieVolts) (r : RefVolts)
  /-- ADC_RESULT_READ (R44): An ACTIVE read of ADCn_RESm returns the result and clears NEW. -/
  | adcResultRead (q : Who) (i : Fin 8) (m : Fin 4)
  /-- COMPARATOR_CROSSING (R31): The input at a comparator's ball crosses its threshold or hysteresis level and the unfiltered output changes. -/
  | comparatorCrossing (j : Fin 16) (a : AinVolts) (r : RefVolts) (edges : Nat)
  /-- CMP_FILTER_SETTLED (R31): The new comparator level has been sampled on FILT consecutive LOOM edges and the filtered output changes. -/
  | cmpFilterSettled (j : Fin 16)
  /-- CMP_BLANKING_END (R32): A blanking window ends and a comparator still above threshold rises and trips from that instant. -/
  | cmpBlankingEnd (j : Fin 16)
  /-- DAC_WRITE (R33): A write of DAC data or EN starts driving and settling the DAC ball. -/
  | dacWrite (q : Who) (r : Fin 3) (v : Word)
  /-- RFM_MEASUREMENT_CYCLE_END (R36): A reference-monitor cycle ends: deviations are published, GCORR slews, windows, majority and self-check are judged. -/
  | rfmMeasurementCycleEnd (vi va vb : Nat) (selfOk : Bool)
  /-- RFM_REFERENCE_SWITCH (R37): At the first eligible pick boundary the selected reference is switched and GCORR set to the new deviation. -/
  | rfmReferenceSwitch (spans : BitVec 8)
  /-- RFM_SWITCH_DEADLINE (R37): No eligible boundary came within 125 picks, so the switch is made at the 125th boundary. -/
  | rfmSwitchDeadline (spans : BitVec 8)
  /-- RFM_HOLDOFF_END (R38): The 10 s switch hold-off ends. -/
  | rfmHoldoffEnd
  /-- RFM_WIN_WRITE (R46): A write of RFM_WIN saturates the windows and lowers INNER when OUTER falls below it. -/
  | rfmWinWrite (q : Who) (v : Word)
  /-- LANE_PENDING_RUN_START (R48): A run held pending starts on the first edge the lane accepts a new run. -/
  | lanePendingRunStart (k : Fin 16)
  /-- LANE_MAXAGE_EXPIRY (R66): No fresh sample came for MAXAGE picks and the lane becomes input-missing. -/
  | laneMaxageExpiry (k : Fin 16)
  /-- LANE_ENABLE (R65): Setting EN enables a lane with cleared history, or is refused with DSTBUSY. -/
  | laneEnable (q : Who) (k : Fin 16) (v : Word)
  /-- LANE_DISABLE (R65): Clearing EN discards a pending trigger and starts no further run. -/
  | laneDisable (q : Who) (k : Fin 16) (v : Word)
  /-- LANE_UPD (R65): Setting UPD commits the shadow coefficient set at the next run, or refuses it on OMIN > OMAX. -/
  | laneUpd (q : Who) (k : Fin 16) (v : Word)
  /-- LANE_HCLR (R65): Writing HCLR clears the lane's history at its next run. -/
  | laneHclr (q : Who) (k : Fin 16) (v : Word)
  /-- SHED_GROUP_ENABLE (R64): Enabling a shedding group starts it at NNOM phases or refuses it with CFGERR. -/
  | shedGroupEnable (q : Who) (g : Fin 2) (v : Word)
  /-- HEDDLE_DESTINATION_WRITE (R58): A write of HED_DSTn reconfigures a destination and restarts its divider. -/
  | heddleDestinationWrite (q : Who) (n : Fin 96) (v : Word)
  /-- HEDDLE_SOFTWARE_STROBE (R58): A write of HED_SWSTB fires software strobe sources 120-123. -/
  | heddleSoftwareStrobe (q : Who) (m : BitVec 4)
  /-- HEDDLE_TICK (R128): Source 119 fires at each pick boundary where TB mod HED_TICK is 0. -/
  | heddleTick
  /-- PWM_PERIOD_START (R74): A pair's counter wraps to zero: period start, shadow transfers, burst decision, trip release and deferred values take effect. -/
  | pwmPeriodStart (p : Fin 12)
  /-- PWM_EDGE_COMMIT (R84): The counter reaches an edge position less 3 and the governing value is fixed and the HR line armed. -/
  | pwmEdgeCommit (p : Fin 12) (e : PwmEdge)
  /-- PWM_COMPARE_EDGE (R75): The counter reaches a compare position and the output reference edge and compare event are taken. -/
  | pwmCompareEdge (p : Fin 12) (e : PwmEdge)
  /-- PWM_CENTRE_PEAK (R76): A centre-aligned counter reaches its peak and transfers shadows when SHPEAK is set. -/
  | pwmCentrePeak (p : Fin 12)
  /-- PWM_TRIGGER_COMPARE (R87): The counter reaches TRG0 or TRG1 and fires its Heddle source. -/
  | pwmTriggerCompare (p : Fin 12) (t : Fin 2) (down : Bool)
  /-- PWM_CT_TERMINATION (R79): The terminating comparator rises and ends output A's pulse in CT mode. -/
  | pwmCtTermination (p : Fin 12)
  /-- PWM_DEAD_TIME_EXPIRY (R81): A dead-time delay ends and the delayed output rises. -/
  | pwmDeadTimeExpiry (p : Fin 12) (outB : Bool)
  /-- ADT_SWITCH_NODE_TRANSITION (R82): The switch-node comparator changes and the measured transition time is taken for adaptive dead time. -/
  | adtSwitchNodeTransition (p : Fin 12) (fall : Bool) (count : Nat)
  /-- ADT_MISS_TIMEOUT (R82): No switch-node transition is seen within ADTMAX + 4 cycles and ADTMISS is set. -/
  | adtMissTimeout (p : Fin 12) (fall : Bool)
  /-- PWM_SHADOW_WRITE (R83): A write to a pair value in SHADOW mode sets the shadow. -/
  | pwmShadowWrite (q : Who) (p : Fin 12) (r : PwmReg) (v : Word)
  /-- PWM_GUARDED_WRITE (R85): A GUARDED-IMMEDIATE write becomes active and each governed edge follows the guard rule or is deferred. -/
  | pwmGuardedWrite (q : Who) (p : Fin 12) (r : PwmReg) (v : Word) (n : Nat)
  /-- PWM_VALUE_LOAD (R84): A value waiting for the port or the commit is loaded on the first free edge. -/
  | pwmValueLoad (p : Fin 12) (n : Nat)
  /-- PWM_ENABLE (R89): Setting EN without GSARM starts a pair from PHASE. -/
  | pwmEnable (q : Who) (p : Fin 12) (v : Word)
  /-- TRIP_ZONE_INPUT (R94): A TZ ball or trip source goes active and mapped pairs enter the safe state and latch the trip. -/
  | tripZoneInput (t : Fin 14) (lvl : Bool) (ps : Nat)
  /-- SOFTWARE_TRIP_SET (R102): A write of SWSET sets the software trip source of pairs. -/
  | softwareTripSet (q : Who) (setm clrm : BitVec 12)
  /-- SOFTWARE_TRIP_CLEAR (R102): A write of SWCLR clears the software trip source of pairs. -/
  | softwareTripClear (q : Who) (clrm setm : BitVec 12)
  /-- TRIP_CLEAR_REQUEST (R95): A write of CLR to a tripped latched pair requests its release at the next suitable period start. -/
  | tripClearRequest (q : Who) (p : Fin 12)
  /-- GOVERNOR_SAMPLE (R104): At each TB multiple of 125 the governor triggers its voltage slot. -/
  | governorSample
  /-- GOVERNOR_COMPUTATION (R107): The governor forms energies, applies ceiling, floor and released-energy actions and updates the adaptor. -/
  | governorComputation
  /-- GOVERNOR_CEILING_TIMEOUT (R107): E_HI stayed above CEIL for 10 ms and the charging pairs are governor-tripped. -/
  | governorCeilingTimeout
  /-- CAP_MEASUREMENT_TIMEOUT (R113): VB was not reached within 500 ms and the capacitance measurement ends with CMSKIP. -/
  | capMeasurementTimeout
  /-- TMR_ENABLE (R127): Setting EN on a timer without GSARM loads START and drives INIT. -/
  | tmrEnable (q : Who) (n : Fin 16) (v : Word)
  /-- TMR_COMPARE_MATCH (R124): A timer counter takes CMPA or CMPB and fires its event and pin action. -/
  | tmrCompareMatch (n : Fin 16) (b : Bool)
  /-- TMR_OVERFLOW (R124): A timer counter goes from TOP to 0, fires its event and stops in ONESHOT. -/
  | tmrOverflow (n : Fin 16)
  /-- TMR_CAPTURE (R126): A filtered TMRIO edge captures CNT and TB. -/
  | tmrCapture (n : Fin 16) (rise : Bool) (held : Nat)
  /-- TMR_CAPTURE_READ (R126): An ACTIVE read of TMRn_CAP clears CAPNEW. -/
  | tmrCaptureRead (q : Who) (n : Fin 16)
  /-- TMR_COUNTER_WRITE (R127): A write to CNT loads on the next tick in place of the increment. -/
  | tmrCounterWrite (q : Who) (n : Fin 16) (v : Word)
  /-- TMR_PIN_FORCE (R125): A write of FORCE applies a software pin action on the next PERI edge. -/
  | tmrPinForce (q : Who) (n : Fin 16) (v : Word)
  /-- TB_STEP (R128): TB is replaced at the step pick and TB-keyed events are re-evaluated. -/
  | tbStep (tb : BitVec 64)
  /-- STAGGER_LOAD (R132): A write of LOAD writes stagger offsets into members' PHASE or START, or is refused. -/
  | staggerLoad (q : Who) (g : Fin 4) (v : Word)
  /-- GLOBAL_START_GO (R134): A write of GO requests a release at the next pick boundary. -/
  | globalStartGo (q : Who)
  /-- GLOBAL_START_ARM (R134): A write of ARMAT schedules a release at TMR_GSPICK, or sets LATE. -/
  | globalStartArm (q : Who)
  /-- GLOBAL_START_CANCEL (R134): A write of CANCEL withdraws a pending scheduled release. -/
  | globalStartCancel (q : Who)
  /-- GLOBAL_START_RELEASE (R133): Waiting timers and pairs start on one LOOM edge and source 118 fires. -/
  | globalStartRelease
  /-- WARP_SUPERFRAME_SLOT (R147): An originating node sends a superframe choosing TIME, forwarded, own or EMPTY frame. -/
  | warpSuperframeSlot
  /-- WARP_TIME_FRAME (R151): A NORMAL TIME frame is received and used for phase and TB alignment or removed by node 0. -/
  | warpTimeFrame (tb : BitVec 64) (m : Nat) (err : Int)
  /-- WARP_TIME_STEP_FRAME (R154): A TIME STEP frame is received and gives the step pick. -/
  | warpTimeStepFrame (tb : BitVec 64)
  /-- WARP_GSTART_FRAME (R154): A GSTART frame is received and arms a release for its group. -/
  | warpGstartFrame (g : Fin 16) (t : BitVec 64)
  /-- WARP_MSG_DATA (R155): A DATA fragment is received, reassembled and on LAST checked, ACKed and passed to Crerus. -/
  | warpMsgData (first last mpass : Bool) (dst src xid frag : BitVec 8) (data : BitVec 32)
  /-- WARP_MSG_ACK (R155): An ACK is received and ends a transfer successfully. -/
  | warpMsgAck (mpass : Bool) (dst src xid : BitVec 8)
  /-- WARP_MSG_NAK_RESET (R155): A NAK_RESET is received and ends the request ABORTED with reason RESET. -/
  | warpMsgNakReset (mpass : Bool) (dst src xid : BitVec 8)
  /-- WARP_MSG_NAK_BUSY (R155): A NAK_BUSY is received and schedules a resend of FIRST. -/
  | warpMsgNakBusy (mpass : Bool) (dst src xid : BitVec 8)
  /-- WARP_ENUM_FRAME (R148): An ENUM frame is received: a member takes its ID, node 0 takes the node count. -/
  | warpEnumFrame (count : BitVec 9) (tag : BitVec 7) (dev : BitVec 48)
  /-- WARP_CAL_MEASURE_FRAME (R149): A CAL MEASURE frame is received and accumulated, or timed at node 0. -/
  | warpCalMeasureFrame (num : BitVec 16) (acc t : BitVec 32)
  /-- WARP_CAL_RESULT_FRAME (R149): A CAL RESULT frame is received and each member computes its delay D_k. -/
  | warpCalResultFrame (num : BitVec 16) (lbar : BitVec 32) (n : BitVec 16)
  /-- WARP_BYPASS_ENTER_FRAME (R157): A BYPASS ENTER frame is received and noted. -/
  | warpBypassEnterFrame (node : BitVec 8)
  /-- WARP_BYPASS_LEAVE_FRAME (R157): A BYPASS LEAVE frame reaches node 0, which enumerates and calibrates. -/
  | warpBypassLeaveFrame (node : BitVec 8)
  /-- WARP_BYPASS_BREAK_FRAME (R159): A BYPASS BREAK frame naming the broken node is received. -/
  | warpBypassBreakFrame (node : BitVec 8)
  /-- WARP_BYPASS_HEALED_FRAME (R160): A BYPASS HEALED frame is received. -/
  | warpBypassHealedFrame (node : BitVec 8)
  /-- WARP_BYPASS_RESET_FRAME (R157): A BYPASS RESET frame naming this node asserts its Warp remote reset when RRSTEN is set. -/
  | warpBypassResetFrame (node : BitVec 8)
  /-- WARP_EMPTY_FRAME (R147): An EMPTY frame passes and a member may insert its own frame. -/
  | warpEmptyFrame
  /-- WARP_RESERVED_FRAME (R146): A frame of type 7 is discarded and counted. -/
  | warpReservedFrame (sub : BitVec 5) (payload : BitVec 64)
  /-- WARP_CRC_FAILURE (R147): A frame with a bad CRC is replaced with EMPTY and counted. -/
  | warpCrcFailure
  /-- WARP_TIME_EVENT (R152): At TB = TIME value + 512 source 116 fires on a locked node. -/
  | warpTimeEvent
  /-- WARP_CALIBRATION_TIMER (R149): Every 1 s node 0 starts a calibration. -/
  | warpCalibrationTimer
  /-- WARP_CALIBRATION_RETRY (R149): 1 ms after a failed calibration node 0 repeats it. -/
  | warpCalibrationRetry
  /-- WARP_MSG_RETRY_TIMEOUT (R155): 100 µs without ACK and the source resends the whole transfer. -/
  | warpMsgRetryTimeout (xid : BitVec 8)
  /-- WARP_MSG_BUSY_RESEND (R155): 10 µs after NAK_BUSY the source resends FIRST. -/
  | warpMsgBusyResend (xid : BitVec 8)
  /-- WARP_MSG_DEADLINE (R155): The transfer deadline passes and the request ends ABORTED. -/
  | warpMsgDeadline (xid : BitVec 8)
  /-- WARP_LINK_DOWN (R159): No valid sync for 8 superframes: LINKDOWN and own origination. -/
  | warpLinkDown
  /-- WARP_TIME_LOST (R159): No valid TIME frame for 32.768 µs: TIME_LOST and free-running time. -/
  | warpTimeLost
  /-- WARP_RING_OPEN (R159): A launched TIME frame does not return in R + 1.024 µs and node 0 sets RINGOPEN. -/
  | warpRingOpen
  /-- WARP_LINK_RESTORED (R160): After 8 valid superframes a LINKDOWN node returns to forwarding. -/
  | warpLinkRestored
  /-- WARP_SYNC_TIMEOUT (R162): TB still unsynchronised 1 s after reset release sets TIME_LOST. -/
  | warpSyncTimeout
  /-- WARP_PHASE_SLEW_STEP (R151): The node shifts its PLL phase by one HR step at the slew rate. -/
  | warpPhaseSlewStep
  /-- WARP_GLOBAL_START_RELEASE (R154): At an armed target pick the node releases waiting timers and pairs and fires source 117. -/
  | warpGlobalStartRelease
  /-- WARP_SLOT_LOAD (R153): A slot load writes slot offsets into the pairs' PHASE, or is refused. -/
  | warpSlotLoad (q : Who) (v : Word)
  /-- PLY_MISMATCH (R172): A compared output differs and an odd strand is isolated and resync begins, or the strand is retired or the fault is unrecoverable. -/
  | plyMismatch (ab ac bc : BitVec 7)
  /-- PLY_RESYNC_COPY_DONE (R172): The state copy into the odd strand ends and the remaining strands stall. -/
  | plyResyncCopyDone
  /-- PLY_RESYNC_COMPLETE (R172): After the stall all three strands issue under the voter and RSDONE is set. -/
  | plyResyncComplete
  /-- PLY_SCRUB (R170): Every 32 PLY cycles the scrubber reads one word of all copies and rewrites the majority. -/
  | plyScrub
  /-- PLY_SPLIT_COMPLETE (R178): 1,000 cycles after a split HANDOVER the leaving strands start and CUR takes TARGET. -/
  | plySplitComplete
  /-- PLY_JOIN_TCM_COPY_DONE (R179): The TCM copy of a join ends and the state copy begins. -/
  | plyJoinTcmCopyDone
  /-- PLY_JOIN_COMPLETE (R179): The join ends and the new group issues voted. -/
  | plyJoinComplete
  /-- PLY_UNRECOVERABLE_FAULT (R183): Every strand is held and the CONTINUE or SAFE response begins. -/
  | plyUnrecoverableFault (cause : Fin 6)
  /-- PLY_RESTART_RELEASE (R183): After quiesce, reset and reload the Ply restarts in its boot mode. -/
  | plyRestartRelease
  /-- PLY_WATCHDOG_KICK (R185): A write of 0x0000_C35A to PLY_WDKICK restarts the requester's watchdog. -/
  | plyWatchdogKick (q : Who) (v : Word)
  /-- PLY_WATCHDOG_WARNING (R185): Half the timeout passes and ICU 153 is raised. -/
  | plyWatchdogWarning (c : Fin 3)
  /-- PLY_WATCHDOG_EXPIRY (R185): The watchdog expires and an unrecoverable fault of CAUSE 5 follows. -/
  | plyWatchdogExpiry (c : Fin 3)
  /-- ADD (R214): Register add. -/
  | add (c : Fin 3) (rd ra rb : Fin 32)
  /-- SUB (R214): Register subtract. -/
  | sub (c : Fin 3) (rd ra rb : Fin 32)
  /-- AND (R214): Bitwise and. -/
  | and (c : Fin 3) (rd ra rb : Fin 32)
  /-- OR (R214): Bitwise or. -/
  | or (c : Fin 3) (rd ra rb : Fin 32)
  /-- XOR (R214): Bitwise exclusive or. -/
  | xor (c : Fin 3) (rd ra rb : Fin 32)
  /-- SLT (R214): Signed set-less-than. -/
  | slt (c : Fin 3) (rd ra rb : Fin 32)
  /-- SLTU (R214): Unsigned set-less-than. -/
  | sltu (c : Fin 3) (rd ra rb : Fin 32)
  /-- SLL (R214): Shift left by register. -/
  | sll (c : Fin 3) (rd ra rb : Fin 32)
  /-- SRL (R214): Logical shift right by register. -/
  | srl (c : Fin 3) (rd ra rb : Fin 32)
  /-- SRA (R214): Arithmetic shift right by register. -/
  | sra (c : Fin 3) (rd ra rb : Fin 32)
  /-- SLLI (R214): Shift left by immediate. -/
  | slli (c : Fin 3) (rd ra n : Fin 32)
  /-- SRLI (R214): Logical shift right by immediate. -/
  | srli (c : Fin 3) (rd ra n : Fin 32)
  /-- SRAI (R214): Arithmetic shift right by immediate. -/
  | srai (c : Fin 3) (rd ra n : Fin 32)
  /-- MIN (R214): Signed minimum. -/
  | min (c : Fin 3) (rd ra rb : Fin 32)
  /-- MAX (R214): Signed maximum. -/
  | max (c : Fin 3) (rd ra rb : Fin 32)
  /-- MINU (R214): Unsigned minimum. -/
  | minu (c : Fin 3) (rd ra rb : Fin 32)
  /-- MAXU (R214): Unsigned maximum. -/
  | maxu (c : Fin 3) (rd ra rb : Fin 32)
  /-- ADDI (R215): Add sign-extended immediate. -/
  | addi (c : Fin 3) (rd ra : Fin 32) (imm : BitVec 16)
  /-- SLTI (R215): Signed set-less-than immediate. -/
  | slti (c : Fin 3) (rd ra : Fin 32) (imm : BitVec 16)
  /-- SLTIU (R215): Unsigned set-less-than immediate. -/
  | sltiu (c : Fin 3) (rd ra : Fin 32) (imm : BitVec 16)
  /-- ANDI (R215): And with zero-extended immediate. -/
  | andi (c : Fin 3) (rd ra : Fin 32) (imm : BitVec 16)
  /-- ORI (R215): Or with zero-extended immediate. -/
  | ori (c : Fin 3) (rd ra : Fin 32) (imm : BitVec 16)
  /-- XORI (R215): Exclusive or with zero-extended immediate. -/
  | xori (c : Fin 3) (rd ra : Fin 32) (imm : BitVec 16)
  /-- LUI (R215): Load upper immediate. -/
  | lui (c : Fin 3) (rd : Fin 32) (imm : BitVec 16)
  /-- MUL (R216): Low 32 bits of a product. -/
  | mul (c : Fin 3) (rd ra rb : Fin 32)
  /-- MULH (R216): High word of a signed product. -/
  | mulh (c : Fin 3) (rd ra rb : Fin 32)
  /-- MULHU (R216): High word of an unsigned product. -/
  | mulhu (c : Fin 3) (rd ra rb : Fin 32)
  /-- DIV (R216): Signed division. -/
  | div (c : Fin 3) (rd ra rb : Fin 32)
  /-- DIVU (R216): Unsigned division. -/
  | divu (c : Fin 3) (rd ra rb : Fin 32)
  /-- REM (R216): Signed remainder. -/
  | rem (c : Fin 3) (rd ra rb : Fin 32)
  /-- REMU (R216): Unsigned remainder. -/
  | remu (c : Fin 3) (rd ra rb : Fin 32)
  /-- SADD (R217): Saturating signed add. -/
  | sadd (c : Fin 3) (rd ra rb : Fin 32)
  /-- SSUB (R217): Saturating signed subtract. -/
  | ssub (c : Fin 3) (rd ra rb : Fin 32)
  /-- SABS (R217): Saturating absolute value. -/
  | sabs (c : Fin 3) (rd ra : Fin 32)
  /-- SAT (R217): Saturate to a signed width. -/
  | sat (c : Fin 3) (rd ra n : Fin 32)
  /-- SSLLI (R217): Saturating left shift. -/
  | sslli (c : Fin 3) (rd ra n : Fin 32)
  /-- QMUL (R217): Q1.31 multiply with rounding and saturation. -/
  | qmul (c : Fin 3) (rd ra rb : Fin 32)
  /-- QMUL15 (R217): Q1.15 multiply with rounding and saturation. -/
  | qmul15 (c : Fin 3) (rd ra rb : Fin 32)
  /-- LDB (R218): Load sign-extended byte under the load delay. -/
  | ldb (c : Fin 3) (rd base : Fin 32) (disp : BitVec 16)
  /-- LDBU (R218): Load zero-extended byte. -/
  | ldbu (c : Fin 3) (rd base : Fin 32) (disp : BitVec 16)
  /-- LDH (R218): Load sign-extended halfword. -/
  | ldh (c : Fin 3) (rd base : Fin 32) (disp : BitVec 16)
  /-- LDHU (R218): Load zero-extended halfword. -/
  | ldhu (c : Fin 3) (rd base : Fin 32) (disp : BitVec 16)
  /-- LDW (R218): Load word. -/
  | ldw (c : Fin 3) (rd base : Fin 32) (disp : BitVec 16)
  /-- STB (R218): Store byte. -/
  | stb (c : Fin 3) (rs base : Fin 32) (disp : BitVec 16)
  /-- STH (R218): Store halfword. -/
  | sth (c : Fin 3) (rs base : Fin 32) (disp : BitVec 16)
  /-- STW (R218): Store word. -/
  | stw (c : Fin 3) (rs base : Fin 32) (disp : BitVec 16)
  /-- LDX (R221): Load word and set the reservation. -/
  | ldx (c : Fin 3) (rd base : Fin 32) (disp : BitVec 16)
  /-- STX (R221): Store word if the reservation holds and write the outcome. -/
  | stx (c : Fin 3) (rs base : Fin 32) (disp : BitVec 16)
  /-- LDX_RESERVATION_TIMEOUT (R221): 32 PLY cycles after LDX the reservation is cleared and the locked sequence ends. -/
  | ldxReservationTimeout (c : Fin 3)
  /-- IOLD (R219): Load a word from I/O space. -/
  | iold (c : Fin 3) (rd base : Fin 32) (disp : BitVec 16)
  /-- IOST (R219): Store a word to I/O space. -/
  | iost (c : Fin 3) (rs base : Fin 32) (disp : BitVec 16)
  /-- BEQ (R220): Branch if equal. -/
  | beq (c : Fin 3) (ra rb : Fin 32) (off : BitVec 16)
  /-- BNE (R220): Branch if not equal. -/
  | bne (c : Fin 3) (ra rb : Fin 32) (off : BitVec 16)
  /-- BLT (R220): Branch if signed less. -/
  | blt (c : Fin 3) (ra rb : Fin 32) (off : BitVec 16)
  /-- BGE (R220): Branch if signed greater or equal. -/
  | bge (c : Fin 3) (ra rb : Fin 32) (off : BitVec 16)
  /-- BLTU (R220): Branch if unsigned less. -/
  | bltu (c : Fin 3) (ra rb : Fin 32) (off : BitVec 16)
  /-- BGEU (R220): Branch if unsigned greater or equal. -/
  | bgeu (c : Fin 3) (ra rb : Fin 32) (off : BitVec 16)
  /-- J (R220): Relative jump. -/
  | j (c : Fin 3) (off : BitVec 26)
  /-- CALL (R220): Relative call writing lk. -/
  | call (c : Fin 3) (off : BitVec 26)
  /-- JR (R220): Jump to register. -/
  | jr (c : Fin 3) (ra : Fin 32)
  /-- CALLR (R220): Call to register writing lk. -/
  | callr (c : Fin 3) (ra : Fin 32)
  /-- FENCE (R222): Wait until earlier writes are in force. -/
  | fence (c : Fin 3)
  /-- WFI (R222): Stop issue until the ICU signals a wake. -/
  | wfi (c : Fin 3)
  /-- ERET (R204): Return from exception or interrupt. -/
  | eret (c : Fin 3)
  /-- HANDOVER (R176): Request a Ply mode hand-over, refused under R177. -/
  | handover (c : Fin 3)
  /-- JOINWAIT (R176): Stop the strand to wait for a join. -/
  | joinwait (c : Fin 3)
  /-- WRET (R222): Return from Selvedge to the calling world. -/
  | wret (c : Fin 3)
  /-- CSRRD (R224): Read a CSR. -/
  | csrrd (c : Fin 3) (rd : Fin 32) (n : BitVec 12)
  /-- CSRWR (R224): Write a CSR. -/
  | csrwr (c : Fin 3) (n : BitVec 12) (ra : Fin 32)
  /-- CACHE_INVALIDATE (R196): Setting CACHECTL.INVAL invalidates the instruction cache. -/
  | cacheInvalidate (c : Fin 3) (ra : Fin 32)
  /-- MPU_LOCK (R205): Setting MPUCFG.LOCK locks the world's MPU CSRs. -/
  | mpuLock (c : Fin 3) (ra : Fin 32)
  /-- TLD (R226): Load rows of a tile from data space. -/
  | tld (c : Fin 3) (t : Fin 8) (gs base : Fin 32) (disp : BitVec 12) (stop : Nat)
  /-- TST (R226): Store rows of a tile to data space. -/
  | tst (c : Fin 3) (t : Fin 8) (gs base : Fin 32) (disp : BitVec 12) (stop : Nat)
  /-- TSAVE (R227): Save one tile or ACC. -/
  | tsave (c : Fin 3) (acc : Bool) (t : Fin 8) (base : Fin 32) (disp : BitVec 12) (stop : Nat)
  /-- TREST (R227): Restore one tile or ACC. -/
  | trest (c : Fin 3) (acc : Bool) (t : Fin 8) (base : Fin 32) (disp : BitVec 12) (stop : Nat)
  /-- TMAC (R228): Accumulate a tile matrix product into ACC. -/
  | tmac (c : Fin 3) (ta tb : Fin 8)
  /-- TMACV (R228): Accumulate one column product into ACC. -/
  | tmacv (c : Fin 3) (ta tb col : Fin 8)
  /-- ADRAIN (R228): Drain ACC into a tile with scaling, rounding and saturation. -/
  | adrain (c : Fin 3) (td : Fin 8) (sh : Fin 16) (z : Bool)
  /-- AZERO (R228): Clear ACC. -/
  | azero (c : Fin 3)
  /-- TREL (R228): Release a tile and zero it. -/
  | trel (c : Fin 3) (t : Fin 8)
  /-- UNASSIGNED_ENCODING (R212): An unassigned instruction word raises ILLEGAL. -/
  | unassignedEncoding (c : Fin 3) (w : Word)
  /-- CACHE_LINE_FILL (R196): An instruction-cache miss fill from flash bank 0 completes. -/
  | cacheLineFill (c : Fin 3) (a : Word)
  /-- ACCESS_RETRY_REISSUE (R198): An access answered RETRY is reissued, and after 4,096 reissues faults. -/
  | accessRetryReissue (c : Fin 3)
  /-- ICU_SOURCE_EVENT (R251): A source request rises, setting PEND and counting EVC, and may request HOLD exit. -/
  | icuSourceEvent (n : Fin 224)
  /-- ICU_COALESCE_TIMER_EXPIRY (R252): A source's coalescing timer expires and it becomes ready. -/
  | icuCoalesceTimerExpiry (n : Fin 224)
  /-- ICU_HOLDOFF_END (R254): A hold-off interval ends and the held member counts as asserted. -/
  | icuHoldoffEnd (g : Fin 16)
  /-- INTERRUPT_ENTRY (R202): A delivered candidate is taken at an instruction boundary, acknowledged and vectored. -/
  | interruptEntry (c : Fin 3) (raced : Bool)
  /-- ICU_COMPLETION (R257): A write of ICOMP clears ACT or counts a stray completion. -/
  | icuCompletion (c : Fin 3) (ra : Fin 32)
  /-- ICU_ACTCLR (R257): A write of ACTCLR completes a source for the core in ACTBY. -/
  | icuActclr (q : Who) (n : Fin 224)
  /-- ICU_PEND_CLEAR (R267): A write of 1 to PEND withdraws the pending event and clears EVC. -/
  | icuPendClear (q : Who) (n : Fin 224)
  /-- ICU_SGI_SET (R258): A write of ICU_SGISET raises software-generated interrupts. -/
  | icuSgiSet (q : Who) (v : Word)
  /-- WFI_WAKE (R259): A routed ready source wakes a core stopped in WFI. -/
  | wfiWake (c : Fin 3)
  /-- DMA_ENABLE (R278): Setting EN on an idle channel loads the descriptor at DESC, or sets ENERR while BUSY. -/
  | dmaEnable (q : Who) (c : Fin 16) (v : Word)
  /-- DMA_DISABLE (R278): Clearing EN stops the channel without completion and sets ABORT if moving data. -/
  | dmaDisable (q : Who) (c : Fin 16) (v : Word)
  /-- DMA_SOFTWARE_TRIGGER (R273): A write of SWTRIG gives one trigger or reloads an idle ended channel. -/
  | dmaSoftwareTrigger (q : Who) (c : Fin 16) (v : Word)
  /-- DMA_DESCRIPTOR_LOAD (R272): A channel reads and checks a descriptor. -/
  | dmaDescriptorLoad (c : Fin 16)
  /-- DMA_BEAT (R274): The arbiter issues one read or write beat of the winning channel. -/
  | dmaBeat
  /-- DMA_DESCRIPTOR_COMPLETE (R276): After all responses and read-backs a descriptor completes. -/
  | dmaDescriptorComplete (c : Fin 16)
  /-- DMA_NEXT_FETCH (R277): The channel re-reads NEXT and loads the next descriptor or sets END. -/
  | dmaNextFetch (c : Fin 16)
  /-- DMA_RETRY_REISSUE (R282): A RETRY access is reissued and after 4,096 reissues the channel stops. -/
  | dmaRetryReissue (c : Fin 16)
  /-- WGATE_ENTRY (R297): An entry gate call saves OPEN state and enters sealed code, or returns a status. -/
  | wgateEntry (c : Fin 3) (n : Fin 64)
  /-- WGATE_RETURN (R298): WG_RETURN ends a sealed call and restores the OPEN world. -/
  | wgateReturn (c : Fin 3)
  /-- WGATE_INFO (R295): WG_INFO returns world status without a switch. -/
  | wgateInfo (c : Fin 3)
  /-- WGATE_UNASSIGNED (R296): An unassigned gate index raises the GATE exception. -/
  | wgateUnassigned (c : Fin 3) (idx : BitVec 16)
  /-- SEALED_WATCHDOG_EXPIRY (R302): The sealed watchdog expires and the call is aborted and a load begun. -/
  | sealedWatchdogExpiry
  /-- SEALED_RELOAD (R294): An OPEN write of RELOAD begins a sealed load. -/
  | sealedReload (q : Who) (v : Word)
  /-- SEALED_LOAD_COMPLETE (R293): The load ends: MEAS is extended and LOADED set, or LOADFAIL is set. -/
  | sealedLoadComplete
  /-- XSPI_READ (R314): xSPI READ returns host window bytes. -/
  | xspiRead (a : BitVec 32) (n : Nat)
  /-- XSPI_WRITE (R314): xSPI WRITE writes host window bytes. -/
  | xspiWrite (a : BitVec 32) (l : List (BitVec 8))
  /-- XSPI_READ_STATUS (R314): xSPI READ STATUS returns HIF_STATUS bits [31:24]. -/
  | xspiReadStatus (n : Nat)
  /-- XSPI_READ_ID (R314): xSPI READ ID returns HIF_ID. -/
  | xspiReadId (n : Nat)
  /-- XSPI_RESET_ENABLE (R314): xSPI RESET ENABLE arms the xSPI reset. -/
  | xspiResetEnable
  /-- XSPI_RESET (R314): xSPI RESET after RESET ENABLE returns the xSPI logic to 1S-1S-1S. -/
  | xspiReset
  /-- XSPI_UNKNOWN_COMMAND (R314): An unknown command is ignored until HCS# rises. -/
  | xspiUnknownCommand (code : BitVec 16)
  /-- XSPI_MODE_CHANGE (R314): A write of HIF_CFG.MODE changes the profile at the rise of HCS#. -/
  | xspiModeChange
  /-- MAILBOX_BUFFER_WRITE (R315): A write to a mailbox buffer is accepted when FREE and otherwise discarded with an error flag. -/
  | mailboxBufferWrite (q : Option Who) (n : Fin 8) (o : BitVec 9) (d : BitVec 8)
  /-- MAILBOX_DOORBELL (R315): A doorbell posts a FREE mailbox, or is ignored with DBERR. -/
  | mailboxDoorbell (q : Option Who) (v : Word)
  /-- MAILBOX_ACKNOWLEDGE (R315): An acknowledge returns a DONE mailbox to FREE. -/
  | mailboxAcknowledge (q : Option Who) (v : Word)
  /-- MAILBOX_REQUEST_TAKE (R322): Crerus takes the next request in arrival order and checks header, CRC, class and authorisation. -/
  | mailboxRequestTake
  /-- REQUEST_RESUME (R322): A request suspended on flash, the engine or a Warp reply continues and replies. -/
  | requestResume
  /-- GET (R319): GET returns the Noun's LIVE, PENDING or BOOT value. -/
  | get
  /-- SET (R320): SET checks and stores the class's pending value, and with modifier 1 applies it. -/
  | set
  /-- APPLY (R320): APPLY puts the pending value in force through the Noun's register writes. -/
  | apply
  /-- COMMIT_STAGE (R319): COMMIT modifier 0 copies the LIVE value into the working Draft. -/
  | commitStage
  /-- COMMIT_WRITE (R322): COMMIT modifier 1 also writes the working Draft into the target slot. -/
  | commitWrite
  /-- STAGE (R324): STAGE moves staging-buffer bytes into the Noun's store. -/
  | stage
  /-- ATTEST (R376): ATTEST returns the Noun payload and nonce signed under the attestation key. -/
  | attest
  /-- WIPE (R319): WIPE erases the Noun's store, such as a key slot. -/
  | wipe
  /-- WATCH (R321): WATCH subscribes the requester to changes of the Noun. -/
  | watch
  /-- FORGET (R319): FORGET ends a subscription or all of them. -/
  | forget
  /-- NOTICE_DELIVERY (R321): A waiting notice is written into its notice mailbox once it is FREE. -/
  | noticeDelivery (i : Nat)
  /-- DO_PING (R334): PING returns its payload unchanged. -/
  | doPing
  /-- DO_POWER_STATE (R483): A power-state request is checked and entry into LEAN, HOLD, SLEEP or RUN begins. -/
  | doPowerState
  /-- DO_WARP_GSTART (R154): Node 0 sends a GSTART frame; a member forwards the request to node 0. -/
  | doWarpGstart
  /-- DO_WARP_SEND (R155): A mailbox message is sent to another node as a fragmented transfer. -/
  | doWarpSend
  /-- DO_WARP_RESET (R157): Node 0 sends a BYPASS RESET frame naming a node. -/
  | doWarpReset
  /-- DO_WARP_CAL (R148): Node 0 enumerates and calibrates now. -/
  | doWarpCal
  /-- DO_LC_TRANSITION (R420): A plain life-cycle transition is requested and checked. -/
  | doLcTransition
  /-- DO_LC_TOKEN (R421): A token transition is requested and the token checked. -/
  | doLcToken
  /-- DO_LC_SCRAP (R422): A class S SCRAP request with both confirmation words. -/
  | doLcScrap
  /-- DO_FW_VERIFY (R326): The staged firmware slot is verified and VERIFIED set. -/
  | doFwVerify
  /-- DO_FW_ACTIVATE (R326): A verified slot is armed and Crerus restarts into it. -/
  | doFwActivate
  /-- FW_STATUS_COMMIT (R326): COMMIT on FW_STATUS programs CONFIRMED and burns thermometer bits. -/
  | fwStatusCommit
  /-- DO_DRBG_RANDOM (R375): The DRBG returns random bytes, reseeding as required. -/
  | doDrbgRandom
  /-- DO_DRBG_GENERATE (R373): A key slot is filled with a DRBG-generated key. -/
  | doDrbgGenerate
  /-- DO_TAMPER_CLEAR (R383): The tamper response is cleared, ZEROIZE released and keys and DRBG re-formed, or BUSY. -/
  | doTamperClear (live : BitVec 9)
  /-- DO_DRAFT_IMAGE (R336): A staged Draft image is checked and written into the target slot. -/
  | doDraftImage
  /-- DO_SEQ_RUN (R337): SEQ_RUN modifier 0 runs the sequence steps in order. -/
  | doSeqRun
  /-- DO_SEQ_UNDO (R337): SEQ_RUN modifier 1 disables the sequence's lanes in reverse order. -/
  | doSeqUndo
  /-- SEQUENCE_STEP (R337): A sequence wait or timeout ends and the next step runs or the sequence aborts. -/
  | sequenceStep (timeout : Bool)
  /-- FAN_SERVICE_TICK (R337): Every 10 ms the fan service sets duties and checks stalls. -/
  | fanServiceTick (a b c d : BitVec 16)
  /-- CRERUS_RESTART_COMPLETE (R327): New Crerus firmware runs after an activation and takes held requests. -/
  | crerusRestartComplete (kat : Bool)
  /-- CRERUS_WATCHDOG_EXPIRY (R330): The Crerus watchdog expires and Crerus restarts from ROM, or a second expiry resets the part. -/
  | crerusWatchdogExpiry
  /-- VENDOR_FIRMWARE_START (R503): Vendor firmware starts: KATs, DRBG, journal scan, advisory restore, NOUN entries and FWREADY. -/
  | vendorFirmwareStart (kat : Bool)
  /-- QUEUE_SUBMIT (R342): A write of Q_SQTAIL submits entries or is ignored with SQERR. -/
  | queueSubmit (v : Word)
  /-- QUEUE_TAKE (R343): Crerus takes the next submission entry, checking tag and form. -/
  | queueTake
  /-- JAPPEND (R351): Append one journal record, durable or deferred. -/
  | jappend
  /-- JREAD (R352): Copy durable journal records to the output range. -/
  | jread
  /-- KSTORE (R353): Unwrap a key and write it into a slot. -/
  | kstore
  /-- KFETCH (R353): Write a slot's key wrapped into the output range. -/
  | kfetch
  /-- BWRITE (R354): Seal plaintext into a blob. -/
  | bwrite
  /-- BREAD (R354): Open a blob into plaintext. -/
  | bread
  /-- FLUSH (R355): Program the journal page buffer and make deferred records durable. -/
  | flush
  /-- BARRIER (R355): Order later commands after earlier completions. -/
  | barrier
  /-- QUEUE_COMPLETION_POST (R348): A command's completion is written once the completion ring has room. -/
  | queueCompletionPost
  /-- QUEUE_CONSUME (R348): A write of Q_CQHEAD consumes completions or is ignored with CQERR. -/
  | queueConsume (v : Word)
  /-- QUEUE_RESET (R360): A write of Q_CTRL.RESET resets the queue. -/
  | queueReset (v : Word)
  /-- JOURNAL_DEFER_TIMEOUT (R351): 100 ms after the first deferred record the page buffer is programmed. -/
  | journalDeferTimeout
  /-- JOURNAL_PAGE_DONE (R351): A journal page program and read-back ends and its records become durable. -/
  | journalPageDone (r : Fin 3)
  /-- JOURNAL_SCAN_COMPLETE (R402): The journal scan ends, fixing the write position and next record number. -/
  | journalScanComplete
  /-- TAMPER_DETECTION (R378): A tamper source is latched and the response or report begins. -/
  | tamperDetection (src : Fin 9) (now : TamperSense)
  /-- TAMPER_SWITCH_FILTER_EXPIRY (R377): A tamper switch has held its active level for FILT ms. -/
  | tamperSwitchFilterExpiry (w : SwitchSense)
  /-- MESH_BIT_PERIOD (R379): Each 1 µs a mesh channel drives its next bit and samples the sense, counting mismatches. -/
  | meshBitPeriod (n : Fin 2) (sense : Bool)
  /-- MESH_RESEED (R379): Every 1 s vendor firmware reseeds the mesh LFSRs from the DRBG. -/
  | meshReseed
  /-- TAMPER_WIPE_COMPLETE (R378): The sealed partitions, monitor area and custody buffers are wiped. -/
  | tamperWipeComplete
  /-- TAMPER_JOURNAL_RECORD (R378): Once flash is idle the tamper record is journalled and notices sent. -/
  | tamperJournalRecord
  /-- ENTROPY_HEALTH_FAILURE (R374): An entropy health test fails: ESFAIL, restart, and stop after three. -/
  | entropyHealthFailure (again : Bool)
  /-- FLASH_ARM (R395): A write of the key to FLC_ARM begins the locked flash sequence. -/
  | flashArm (q : Who) (v : Word)
  /-- FLASH_PROGRAM (R396): FLC_CMD OP 1 checks and starts programming a 32-byte unit. -/
  | flashProgram (q : Who)
  /-- FLASH_ERASE (R396): FLC_CMD OP 2 checks and starts erasing a sector. -/
  | flashErase (q : Who)
  /-- FLASH_BADCMD (R396): FLC_CMD with OP 0 or 3 is refused BADCMD. -/
  | flashBadcmd (q : Who) (three : Bool)
  /-- FLASH_SEQUENCE_LAPSE (R395): The 32 cycles pass without a valid CMD write and CMDSTAT becomes LAPSED. -/
  | flashSequenceLapse
  /-- FLASH_OPERATION_COMPLETE (R396): A flash program or erase ends OK, VERIFY or STOPPED. -/
  | flashOperationComplete (bank : Fin 2) (ok : Bool)
  /-- LC_REQUEST (R420): A protected write of LCS_REQ requests a life-cycle transition. -/
  | lcRequest (q : Who) (v : Word)
  /-- LC_SCRAP_ARM (R422): A SEALED write of 0x0000_5C4A arms a SCRAP request. -/
  | lcScrapArm (q : Who)
  /-- LC_SCRAP_CONFIRM (R422): A SEALED write of SYS_DEVID0 confirms SCRAP, or disarms it. -/
  | lcScrapConfirm (q : Who) (v : Word)
  /-- LC_SCRAP_TIMEOUT (R422): 1 µs without confirmation disarms the SCRAP request. -/
  | lcScrapTimeout
  /-- LC_TRANSITION_STEP_DONE (R424): A transition step ends, its progress bit burns and the next step runs or the SYS reset follows. -/
  | lcTransitionStepDone
  /-- FUSE_PROGRAM (R430): LCS_FCMD PROGRAM burns bits into a fuse row after checks. -/
  | fuseProgram (q : Who)
  /-- FUSE_LOCKROW (R430): LCS_FCMD LOCKROW burns a row lock after checks. -/
  | fuseLockrow (q : Who)
  /-- FUSE_PROGRAM_DONE (R430): A fuse program request ends DONE or FLASH_FAIL. -/
  | fuseProgramDone (bad : Word)
  /-- SYS_KEY_WRITE (R432): A write of SYS_KEY advances the unlock pair and may grant an unlock. -/
  | sysKeyWrite (q : Who) (v : Word)
  /-- SYS_KEY_UNLOCK_EXPIRY (R432): An unlock or an unfinished pair times out unused. -/
  | sysKeyUnlockExpiry (q : Req)
  /-- TAP_RESET (R435): Test-Logic-Reset selects IDCODE and ends any unissued DBGAP operation. -/
  | tapReset
  /-- JTAG_EXTEST (R437): EXTEST drives covered outputs from the boundary register. -/
  | jtagExtest (b : List Bool)
  /-- JTAG_SAMPLE_PRELOAD (R435): SAMPLE/PRELOAD captures and loads the boundary register. -/
  | jtagSamplePreload (b : List Bool)
  /-- JTAG_IDCODE (R436): IDCODE returns 0x2714_4001. -/
  | jtagIdcode
  /-- JTAG_CLAMP (R437): CLAMP holds balls from the boundary register. -/
  | jtagClamp
  /-- JTAG_HIGHZ (R437): HIGHZ makes boundary-controlled outputs high-impedance. -/
  | jtagHighz
  /-- JTAG_DBGSTAT (R436): DBGSTAT returns debug status. -/
  | jtagDbgstat
  /-- JTAG_BYPASS (R435): BYPASS selects the 1-bit bypass register. -/
  | jtagBypass
  /-- DBGAP_READ (R438): A DBGAP READ issues a QUIET or ACTIVE bus read within debug authority. -/
  | dbgapRead (act : Bool) (a : BitVec 32)
  /-- DBGAP_WRITE (R438): A DBGAP WRITE issues a bus write within debug authority. -/
  | dbgapWrite (a v : BitVec 32)
  /-- DBGAP_NOP (R438): A DBGAP NOP returns the previous operation's result. -/
  | dbgapNop
  /-- DBGAUTH_READ_CHALLENGE (R441): DBGAUTH OP 1 returns the next challenge word. -/
  | dbgauthReadChallenge
  /-- DBGAUTH_WRITE_CERTIFICATE (R441): DBGAUTH OP 2 writes the next certificate word. -/
  | dbgauthWriteCertificate (w : Word)
  /-- DBGAUTH_NEWCHAL (R441): NEWCHAL draws a fresh nonce and resets the word pointers. -/
  | dbgauthNewchal
  /-- DBGAUTH_SUBMIT (R443): SUBMIT starts the certificate check. -/
  | dbgauthSubmit
  /-- DEBUG_CERT_CHECK_DONE (R443): The certificate check ends with GRANTED or a failure result. -/
  | debugCertCheckDone
  /-- DEBUG_GRANT_EXPIRY (R444): A FIELD grant's LIFETIME runs out and the grant ends. -/
  | debugGrantExpiry
  /-- DEBUG_REVOKE (R444): A write of REVOKE ends the grant. -/
  | debugRevoke
  /-- DEBUG_HALT_REQUEST (R447): A write of HALT requests a halt of a core. -/
  | debugHaltRequest (v : Word)
  /-- DEBUG_HALT (R447): A core halts at its first eligible boundary. -/
  | debugHalt (c : Fin 3)
  /-- DEBUG_HALT_DEFERRAL_EXPIRY (R451): 64 cycles pass inside a locked sequence and the core halts, abandoning it. -/
  | debugHaltDeferralExpiry (c : Fin 3)
  /-- DEBUG_RESUME (R447): A write of RESUME restarts a halted core. -/
  | debugResume (v : Word)
  /-- DEBUG_STEP (R447): A write of STEP issues one instruction and halts again. -/
  | debugStep (v : Word)
  /-- DEBUG_REGISTER_ACCESS (R454): A DBG_REGDATA access reads or writes a halted core's register. -/
  | debugRegisterAccess (w : Bool) (v : Word)
  /-- DEBUG_BURST (R452): A write of GO issues the burst writes back to back. -/
  | debugBurst (v : Word)
  /-- CLOCK_MONITOR_WINDOW_END (R463): A 1 ms monitor window ends: deviations, estimate and switch decision. -/
  | clockMonitorWindowEnd (nx nw nr nt : Nat) (good : BitVec 3)
  /-- CLOCK_REFERENCE_LOST (R467): A reference shows no edge or leaves ±3 % and the PLL enters HOLDOVER and switches. -/
  | clockReferenceLost (r : Fin 3)
  /-- PLL_RELOCK_DONE (R465): RELOCK ends and LOCK is set. -/
  | pllRelockDone
  /-- PLL_LOCK_LOSS (R468): The PLL loses lock on a live reference and tries RELOCK. -/
  | pllLockLoss
  /-- PLL_RELOCK_TIMEOUT (R468): Lock is not regained in 1 ms and the reference counts as lost. -/
  | pllRelockTimeout
  /-- CLOCK_HOLDOFF_END (R466): The 10 s clock-switch hold-off ends. -/
  | clockHoldoffEnd
  /-- POWER_ACK_READY (R485): A write of PWR_ACK.READY arms a core's acknowledged stop at its next WFI. -/
  | powerAckReady (q : Who) (v : Word)
  /-- POWER_FORCED_STOP_TIMEOUT (R485): ACKTO passes and a core is forced to stop. -/
  | powerForcedStopTimeout (c : Fin 3)
  /-- POWER_ENTRY_CONTINUE (R484): Once cores are stopped and work drained, the entry quiesces domains and replies. -/
  | powerEntryContinue
  /-- DOMAIN_QUIESCE_COMPLETE (R479): A domain's accepted requests drain and it goes OFF or RET. -/
  | domainQuiesceComplete (d : Fin 12)
  /-- DOMAIN_POWER_UP_COMPLETE (R478): A switched-on domain reaches ON. -/
  | domainPowerUpComplete (d : Fin 12)
  /-- DOMAIN_UNPLANNED_LOSS (R481): A domain falls below its supply threshold and becomes FAULT with its dependents. -/
  | domainUnplannedLoss (lost : BitVec 12)
  /-- DOMAIN_RESTART (R481): 1 ms after a loss the sequencer switches the domain on again. -/
  | domainRestart (d : Fin 12)
  /-- POWER_WAKE (R487): A wake event starts the HOLD or SLEEP exit. -/
  | powerWake (n : Fin 224)
  /-- POWER_EXIT_COMPLETE (R487): The exit ends with PSTATE RUN and cores released. -/
  | powerExitComplete
  /-- PD7_POWER_REQUEST (R492): A write of PD7OFF switches PD7 off or on, or is refused. -/
  | pd7PowerRequest (q : Who) (v : Word)
  /-- PD11_POWER_REQUEST (R492): A write of PD11OFF switches PD11 off or on. -/
  | pd11PowerRequest (q : Who) (v : Word)
  /-- SRAM_BANK_POWER_REQUEST (R492): A write of PWR_SRAM.OFF switches SRAM banks off or on. -/
  | sramBankPowerRequest (q : Who) (v : Word)
  /-- MAIN_SUPPLY_LOSS (R491): VDDA falls and PD0 switches to VBAT, entering BATTERY. -/
  | mainSupplyLoss
  /-- POWER_ON_RESET (R499): The main supply rises and asserts a power-on reset. -/
  | powerOnReset
  /-- BROWN_OUT (R538): A supply stays below its threshold for the filter time and asserts a SYS reset. -/
  | brownOut (supply : Fin 5)
  /-- RESET_PIN (R499): RESET# held low asserts a SYS reset. -/
  | resetPin
  /-- SOFTWARE_RESET (R499): A write of 0x0000_52A7 to RST_SWRST starts a SYS reset. -/
  | softwareReset (q : Who) (v : Word)
  /-- RESET_RELEASE (R500): The reset is released and the boot sequence runs. -/
  | resetRelease (margin : BitVec 16) (bootsel vioa33 : Bool) (refs : BitVec 3)
  /-- GPIO_INPUT_EVENT (R525): A filtered GPIO edge sets GPIO_EVT and raises ICU 170 + n, and feeds the decoder. -/
  | gpioInputEvent (lv : BitVec 16)
  /-- ENCODER_COUNT_WRITE (R526): A write of GPIO_ENCCNT replaces the count on the next PERI edge. -/
  | encoderCountWrite (q : Who) (v : Word)
  /-- GPIO_OUTPUT_SET (R546): A write of GPIO_OUTSET sets output bits. -/
  | gpioOutputSet (q : Who) (v : Word)
  /-- GPIO_OUTPUT_CLEAR (R546): A write of GPIO_OUTCLR clears output bits. -/
  | gpioOutputClear (q : Who) (v : Word)
  /-- GPIO_MUX_WRITE (R522): A write of GPIO_MUXn changes a ball's function on the next PERI edge. -/
  | gpioMuxWrite (q : Who) (n : Fin 16) (v : Word)
  /-- UART_TRANSMIT_DATA (R528): A write of UART0_TXDATA queues a character or sets TXOVR. -/
  | uartTransmitData (q : Who) (v : Word)
  /-- UART_TRANSMIT_CHARACTER (R528): The transmitter starts the next queued character. -/
  | uartTransmitCharacter
  /-- UART_RECEIVE_CHARACTER (R529): A received character is pushed with its error flags, or lost on overrun. -/
  | uartReceiveCharacter (d : BitVec 8) (par stop : Bool)
  /-- UART_BREAK (R529): URX stays low for 20 bit periods after a zero character and BREAK is set. -/
  | uartBreak
  /-- UART_RECEIVE_TIMEOUT (R530): No character for 4 character times with entries waiting raises the receive request. -/
  | uartReceiveTimeout
  /-- UART_RECEIVE_DATA_READ (R529): An ACTIVE read of UART0_RXDATA pops the head entry. -/
  | uartReceiveDataRead (q : Who)
  /-- I2C_TRANSFER_START (R532): A write of XFER with GO starts a controller transfer, or sets XERR. -/
  | i2cTransferStart (q : Who) (v : Word)
  /-- I2C_CONTROLLER_BYTE (R532): The controller sends or receives the next address or data byte once the FIFO allows. -/
  | i2cControllerByte (ack : Bool) (d : BitVec 8)
  /-- I2C_TRANSFER_COMPLETE (R532): A controller transfer ends with DONE, sending STOP or keeping the bus. -/
  | i2cTransferComplete
  /-- I2C_ARBITRATION_LOST (R533): The controller loses arbitration and ends its transfer. -/
  | i2cArbitrationLost
  /-- I2C_CONTROLLER_DISABLE (R532): Clearing CTLEN while owning the bus sends STOP. -/
  | i2cControllerDisable (q : Who) (v : Word)
  /-- I2C_TARGET_ADDRESSED (R534): An address byte matching TADDR is ACKed and the target becomes addressed. -/
  | i2cTargetAddressed (a : BitVec 7) (rd : Bool)
  /-- I2C_TARGET_BYTE (R534): The addressed target receives or sends a byte. -/
  | i2cTargetByte (ack : Bool) (d : BitVec 8)
  /-- I2C_STOP (R534): A STOP or repeated START ends the addressed state. -/
  | i2cStop (again : Bool)
  /-- I2C_STRETCH_LIMIT (R534): The target has held SCL 25 ms and releases it with TXUND or RXOVR. -/
  | i2cStretchLimit
  /-- I2C_TRANSMIT_DATA (R534): A write of I2C0_TXDATA queues a byte or sets TXOVR. -/
  | i2cTransmitData (q : Who) (v : Word)
  /-- I2C_RECEIVE_DATA_READ (R534): An ACTIVE read of I2C0_RXDATA pops the head entry. -/
  | i2cReceiveDataRead (q : Who)
  /-- THERMAL_SAMPLE (R573): Every 1 ms the die sensor is sampled and an excursion counted. -/
  | thermalSample (t : Int)
  /-- ADVISORY_RECORD (R575): Vendor firmware handles a newly set cause bit with ICU 144, notices and journal records. -/
  | advisoryRecord
  /-- BOARD_SERVICE_SET (R579): Vendor firmware sets a board-service bit, notifies and journals it. -/
  | boardServiceSet (b : Fin 3)
  /-- LANE_APPLY_TIMEOUT (R335): A LANE APPLY whose lane has not run within 10 ms is answered ABORTED. -/
  | laneApplyTimeout
  /-- UART_TRANSMIT_COMPLETE (R528): The stop bit of a transmitted character ends with the transmit FIFO empty, and TXIDLE becomes 1. -/
  | uartTransmitComplete
  /-- I2C_START_CONDITION (R532): A START from another controller is seen on SCL and SDA, BUSBUSY is set and the bus is no longer free. -/
  | i2cStartCondition
  /-- I2C_BUS_FREE (R532): SCL and SDA have been seen high for the bus free time since CTLEN was set, so the bus counts as free and a waiting controller transfer sends START. -/
  | i2cBusFree
  /-- JOURNAL_CHAIN_VERIFY_DONE (R402): The background check of the journal MAC chain ends, counting and journalling each break, and sets the scan-and-verification-complete flag. -/
  | journalChainVerifyDone
deriving DecidableEq, Repr

end Sys2Proof
end

