-- ==== Sys2Proof/Decode.lean ====
section
/-!
DEFINITION. The command that a word spells. The table of operations and events gives its rows no bits: a
command of this block arrives as what it is (a write, a frame, an event), so no word spells one. The instruction words
of a strand (R211) are read by Machine.utperRow, where a strand fetches them.
-/

namespace Sys2Proof

/-- The command that the low `nbits` bits of `w` spell by the bits of the table: none, for no row has bits
(assumption 1). -/
def decodeTableWord (_nbits _w : Nat) : Option Instr := none

end Sys2Proof
end

