-- ==== Sys2Proof/Crypto.lean ====
section
/-!
DEFINITION. The cryptographic functions of the custody engine (R364) as constants with no body: the spec
names their standards and gives no definition of its own. Every byte string is a list of numbers below 256.
-/

namespace Sys2Proof.Config

/-- SHA-384 (FIPS 180-4). -/
opaque sha384 : List Nat → Vector Byte 48

/-- HMAC-SHA-384 (FIPS 198-1) of a message under a key. -/
opaque hmac384 : List Nat → List Nat → Vector Byte 48

/-- ECDSA P-384 verification (FIPS 186-5): public key, message, signature. -/
opaque ecdsaVerify : List Nat → List Nat → List Nat → Bool

/-- ECDSA P-384 signature: private scalar, message, and the DRBG draw the per-signature value comes from. -/
opaque ecdsaSign : List Nat → List Nat → Nat → Vector Byte 96

/-- The P-384 public key, x then y, of a private scalar. -/
opaque p384Public : List Nat → Vector Byte 96

/-- The P-384 private scalar that FIPS 186-5, A.2.1, makes of 448 random bits. -/
opaque p384Scalar : List Nat → Vector Byte 48

/-- AES-KWP wrap (SP 800-38F) of a plaintext under a 256-bit key. -/
opaque kwpWrap : List Nat → List Nat → List Byte

/-- AES-KWP unwrap: none when the integrity check fails. -/
opaque kwpUnwrap : List Nat → List Nat → Option (List Byte)

/-- Byte `i` of the AES-256-GCM key stream (SP 800-38D) of a key and a nonce. -/
opaque gcmStream : List Nat → List Nat → Nat → Byte

/-- AES-256-GCM tag: key, nonce, additional data, ciphertext. -/
opaque gcmTag : List Nat → List Nat → List Nat → List Nat → Vector Byte 16

/-- The next state of a mesh channel's 31-bit LFSR (R379 names no polynomial). -/
opaque meshNext : BitVec 31 → BitVec 31

/-- The bit a mesh channel takes from its LFSR (R379). -/
opaque meshBit : BitVec 31 → Bool

end Sys2Proof.Config

namespace Sys2Proof

/-- Bytes as numbers. -/
def natsOf (l : List Byte) : List Nat := l.map BitVec.toNat

/-- SHA-384 of a byte string. -/
def sha384 (m : List Nat) : List Nat := natsOf (Config.sha384 m).toList

/-- HMAC-SHA-384 of a byte string. -/
def hmac384 (k m : List Nat) : List Nat := natsOf (Config.hmac384 k m).toList

/-- The GCM key stream applied to a text: encryption and decryption are the same sum, bit by bit. -/
def gcmCrypt (k n t : List Nat) : List Nat :=
  ((List.range t.length).zip t).map fun x => x.2 ^^^ (Config.gcmStream k n x.1).toNat

/-- The GCM tag of a ciphertext. -/
def gcmTag (k n aad c : List Nat) : List Nat := natsOf (Config.gcmTag k n aad c).toList

end Sys2Proof
end

