-- ==== Sys2Proof/Config.lean ====
section
/-!
DEFINITION. The free values of the part: constants with no body, so that no proof can see what they
are. Each stands where the spec leaves a value open or names a standard function it does not give.
-/

namespace Sys2Proof.Config

/-- A level or a value the spec leaves open, fresh at each index of `State.free`. -/
opaque freeValue : Nat → Nat

/-- A choice the spec leaves open between two outcomes, fresh at each index of `State.free`. -/
opaque freeBool : Nat → Bool

/-- Whether the mean of these deviations, when it is not whole, is published rounded up (R34 states no
rounding). -/
opaque meanRoundsUp : List Int → Bool

/-- The type of a vendor journal record that a rule asks for and no table names (R351, R400). -/
opaque vendorType : Nat → Nat

/-- The payload of such a record, from the rule, what it holds and the TB of its cause (R400). -/
opaque vendorPayload : Nat → List Nat → Nat → List Byte

/-- The cell of the boundary register that drives a covered ball (R437 gives the register no order). -/
opaque scanCell : Nat → Nat

/-- The ROM copy of the digest of the vendor image-signing key, used while rows 179 to 190 are 0 (R412). -/
opaque vendorKeyDigest : Vector Byte 48

end Sys2Proof.Config
end

