-- ==== Sys2Proof/Machine/Fields.lean ====
section
/-!
DEFINITION. How the registers of the part are held: a register is a set of fields (R8, R9), and the
store of all registers lists the value of every field that has left its reset value (R11).
-/

namespace Sys2Proof.Machine

/-- The access codes of Table 0.3 (R8). -/
inductive Acc where
  | rw | ro | wo | w1c | w1s | rs | once | lock
deriving DecidableEq, Repr

/-- The reset domains of Table 0.4 (R12). -/
inductive RstDom where
  | aon | sys | dom
deriving DecidableEq, Repr

/-- The Reset column (R11): a value, F (fuses), D (Draft) or X (undefined until written). -/
inductive Rst where
  | val (n : Nat) | fuse | draft | undef
deriving DecidableEq, Repr

/-- The value a field holds before anything has loaded or written it. A field marked F, D or X
holds 0 until its load or its first write (DESIGN CHOICE, assumption 3). -/
def Rst.value : Rst → Nat
  | .val n => n
  | .fuse => 0
  | .draft => 0
  | .undef => 0

/-- One field of one register: the register's address, the field's lowest bit and width, its
access code, its reset column, the power domain and the reset domain that hold it. -/
structure Fld where
  addr : Nat
  lo : Nat
  w : Nat
  acc : Acc
  rst : Rst
  pd : Nat
  rd : RstDom
deriving DecidableEq, Repr

/-- The place of a field in the order of the store. -/
def Fld.key (f : Fld) : Nat := f.addr * 32 + f.lo

/-- A row of the register table: the base address, two strides with their counts, and the fields
of the first instance. -/
structure RegT where
  base : Nat
  s1 : Nat
  n1 : Nat
  s2 : Nat
  n2 : Nat
  fields : List Fld

/-- Does register row `r` place a register at address `a`? -/
def RegT.hit (r : RegT) (a : Nat) : Bool :=
  (List.range r.n2).any fun j =>
    let b := r.base + r.s2 * j
    decide (b ≤ a) && (if r.s1 = 0 then decide (a = b)
      else decide ((a - b) % r.s1 = 0) && decide ((a - b) / r.s1 < r.n1))

/-- The fields of the register that row `r` places at address `a`. -/
def RegT.inst (r : RegT) (a : Nat) : List Fld := r.fields.map fun f => { f with addr := a }

/-- The store of register fields: the fields that have been loaded or written, in the order of
`Fld.key`, each with its value. A field not listed holds its reset value. -/
abbrev Regs := List (Fld × Nat)

/-- The value of a field in the store. -/
def Regs.get : Regs → Fld → Nat
  | [], f => f.rst.value
  | (g, v) :: r, f => if g = f then v else Regs.get r f

/-- Put a value into a field: the value is taken modulo the field's width. -/
def Regs.set : Regs → Fld → Nat → Regs
  | [], f, v => [(f, v % 2 ^ f.w)]
  | (g, u) :: r, f, v =>
    if g = f then (f, v % 2 ^ f.w) :: r
    else if f.key < g.key then (f, v % 2 ^ f.w) :: (g, u) :: r
    else (g, u) :: Regs.set r f v

/-- Return every field that `p` selects to its reset value. -/
def Regs.reset : Regs → (Fld → Bool) → Regs
  | [], _ => []
  | (g, v) :: r, p => if p g then Regs.reset r p else (g, v) :: Regs.reset r p

end Sys2Proof.Machine
end

