-- ==== Sys2Proof/Machine/Blocks.lean ====
section
/-!
DEFINITION. What the blocks of the part hold beside their registers: one structure per kind of
block, plain data. The registers themselves are in the store of Fields.lean. A value that the spec
gives no reset starts at the default of its type (assumption 3 names them).
-/

namespace Sys2Proof.Machine

/-- A fixed number of like blocks. -/
abbrev Bank (α : Type) (n : Nat) := Vector α n

/-- The block at index `i`; an index past the end reads the default. -/
def Bank.at {α : Type} {n : Nat} [Inhabited α] (b : Bank α n) (i : Nat) : α := b.getD i default

/-- The bank with block `i` replaced. -/
def Bank.put {α : Type} {n : Nat} (b : Bank α n) (i : Nat) (x : α) : Bank α n := b.setIfInBounds i x

/-- The bank with block `i` changed by `f`. -/
def Bank.upd {α : Type} {n : Nat} [Inhabited α] (b : Bank α n) (i : Nat) (f : α → α) : Bank α n :=
  b.put i (f (b.at i))

/-- The answer to a requester's access (Table 22.2, R10, R427). -/
inductive RespCode where
  | ok | busErr | retry | absent
deriving DecidableEq, Repr, Inhabited

/-- The last answer a requester received: its code and the word read, 0 for a write. -/
structure BusResp where
  code : RespCode := .ok
  data : Nat := 0
deriving DecidableEq, Repr, Inhabited

/-- An ADC core (R24, R25, R27): the slot it serves and which aperture of that slot, the source and averaging taken
there, the conversions and the sum so far, and whether a reference switch fell inside (R37). -/
structure AdcCore where
  busy : Bool := false
  slot : Nat := 0
  num : Nat := 0
  sel : Nat := 0
  avg : Nat := 0
  cnt : Nat := 0
  sum : Int := 0
  spans : Bool := false
deriving DecidableEq, Repr, Inhabited

/-- A slot's apertures and results: how many, whether one came since PD7 last became ON (R66), and whether the last
is differential, with the source it was taken on (R105). -/
structure AdcRes where
  opens : Nat := 0
  count : Nat := 0
  seen : Bool := false
  diff : Bool := false
  sel : Nat := 0
deriving DecidableEq, Repr, Inhabited

/-- A comparator (R30, R31): filtered level, blanking, and whether the ramp has met its first zero. -/
structure CmpSt where
  filt : Bool := false
  blank : Bool := false
  armed : Bool := false
deriving DecidableEq, Repr, Inhabited

/-- A DAC output (R33): the picks until its ball has settled, and the index of the free level it
drives until then. -/
structure DacSt where
  settle : Nat := 0
  free : Nat := 0
deriving DecidableEq, Repr, Inhabited

/-- The reference monitor (R34 to R38): the last cycles of each pair, newest first; the reference
chosen and awaiting its boundary; the hold-off; and whether a switch was made since the last SYS reset. -/
structure RfmSt where
  ia : List Int := []
  ib : List Int := []
  ab : List Int := []
  next : Option Nat := none
  holdoff : Bool := false
  switched : Bool := false
deriving DecidableEq, Repr, Inhabited

/-- A lane (R47 to R66): the coefficient set in force, the histories, the integrator with 43
fraction bits, the cascade reference, the flags of a run to come, and, for the input-missing state, the results its slot had
produced when it began and whether a condition of the lane's own input holds it (R66). -/
structure Lane where
  b0 : Int := 0
  b1 : Int := 0
  b2 : Int := 0
  b3 : Int := 0
  a1 : Int := 0
  a2 : Int := 0
  a3 : Int := 0
  omin : Int := 0
  omax : Int := 0
  bthr : Nat := 0
  bk : Nat := 0
  oofs : Nat := 0
  ospan : Nat := 0
  e1 : Int := 0
  e2 : Int := 0
  e3 : Int := 0
  y1 : Int := 0
  y2 : Int := 0
  y3 : Int := 0
  integ : Int := 0
  casc : Int := 0
  hot : Bool := false
  pend : Bool := false
  hclr : Bool := false
  first : Bool := false
  shed : Bool := false
  missMark : Nat := 0
  missOwn : Bool := false
deriving DecidableEq, Repr, Inhabited

/-- A shedding group (R64): owner runs below DROP in a row, owner runs since the last change, and a nominal
count written since the last owner run (R61). -/
structure Shed where
  below : Nat := 0
  since : Nat := 0
  nom : Bool := false
deriving DecidableEq, Repr, Inhabited

/-- The level of an output (R73, R97). -/
inductive Level where
  | low | high | hiz
deriving DecidableEq, Repr, Inhabited

/-- The fields of a pair that the update mode governs (R83, R85). -/
inductive PwmField where
  | per | cmpa | cmpb | phase | trg0 | trg1
deriving DecidableEq, Repr, Inhabited

/-- A value waiting to be loaded into force (R84): its field, its value in 1/32 and the lane that
wrote it. -/
structure PwmLoad where
  fld : PwmField := .per
  val : Nat := 0
  lane : Option Nat := none
deriving DecidableEq, Repr, Inhabited

/-- The position in 1/32 that governs each edge of the present period (R84, R85). -/
structure EdgePos where
  aUp : Nat := 0
  aDown : Nat := 0
  bUp : Nat := 0
  bDown : Nat := 0
  endp : Nat := 0
deriving DecidableEq, Repr, Inhabited

/-- A PWM pair (R71 to R92): the control fields and triggers in force (a trigger compare apart for the
down-count, R85), the values deferred and waiting, the lane that last wrote each value (R63), the edges
of the coming period that are committed already, with their positions (R84), the residue, the burst
count, the levels, and the adaptive dead time. -/
structure Pwm where
  run : Bool := false
  mode : Nat := 0
  bmode : Nat := 0
  presc : Nat := 0
  ctcmp : Nat := 0
  trg0 : Nat := 0
  trg1 : Nat := 0
  trgd0 : Nat := 0
  trgd1 : Nat := 0
  lanes : List (PwmField × Nat) := []
  held : List (PwmEdge × Nat) := []
  defer : List PwmLoad := []
  loads : List PwmLoad := []
  pos : EdgePos := {}
  fixed : List PwmEdge := []
  idle : Bool := true
  res : Nat := 0
  burst : Nat := 0
  ctDone : Bool := false
  aRef : Bool := false
  bRef : Bool := false
  aOut : Level := .low
  bOut : Level := .low
  aWait : Bool := false
  bWait : Bool := false
  tf : Option Nat := none
  tr : Option Nat := none
  nomR : Bool := false
  nomF : Bool := false
  clr : Bool := false
  hard : Bool := false
  vcode : Nat := 4095
  offLocal : Nat := 0
  offSlot : Nat := 0
  shedNext : Option Bool := none
  shedLane : Nat := 0
  respread : Option Nat := none
deriving DecidableEq, Repr, Inhabited

/-- The trip sources (R93, R96): the TZ inputs that are active and the level last met at each TZ ball that
has had one, the software sources, the governor, the Ply's SAFE response and the lanes' SAFE actions, each
pair by pair. -/
structure TripSt where
  tz : List Nat := []
  ball : List (Nat × Bool) := []
  sw : Nat := 0
  gov : Nat := 0
  ply : Bool := false
  laneSafe : List Nat := []
deriving DecidableEq, Repr, Inhabited

/-- The energy governor (R104 to R117). A sample instant names the aperture of the voltage slot, and of the charge
slot, that its trigger opens; 0 is none, where the trigger was dropped. The code of the voltage result with its source,
and the code of the charge result, come with those apertures (R105, R113, R117). -/
structure GovSt where
  started : Bool := false
  vMark : Option Nat := none
  qMark : Option Nat := none
  vGot : Option (Int × Nat) := none
  qGot : Option Int := none
  valid : Bool := false
  hist : List Nat := []
  inhibSamples : Nat := 0
  above : Bool := false
  invalid : Nat := 0
  everValid : Bool := false
  startInh : Bool := false
  ceilInh : Bool := false
  eHi : Nat := 0
  eLo : Nat := 0
  m : Int := 0
  p : Int := 0
  nomWrite : Bool := false
  clamped : Bool := false
  cmPhase : Nat := 0
  charge : Int := 0
  condCeil : Bool := false
  condFloor : Bool := false
  condRel : Bool := false
deriving DecidableEq, Repr, Inhabited

/-- A general timer (R123 to R127): running, the prescaler count, a CNT write that waits for its tick, the values in
force, the TB captured, and the pin action of this PERI edge: its rank and the level before it (R125). -/
structure Tmr where
  run : Bool := false
  psc : Nat := 0
  load : Option Nat := none
  edge : Option (Nat × Bool) := none
  top : Nat := 0
  cmpa : Nat := 0
  cmpb : Nat := 0
  captb : BitVec 64 := 0
deriving DecidableEq, Repr, Inhabited

/-- The timebase, the global start and the wide latches (R128 to R134): TB, the RTC and the
time since its last microsecond, a GO request, the HED_TICK that governs this pick and whether source 119 has fired in
it, and the read and write latches, one per wide value and requester. -/
structure TimeSt where
  tb : BitVec 64 := 0
  rtc : BitVec 64 := 0
  usFrac : Nat := 0
  go : Bool := false
  hed : Nat := 0
  ticked : Bool := false
  rlatch : List ((Wide × Req) × Nat) := []
  wlatch : List (Req × Nat) := []
deriving DecidableEq, Repr, Inhabited

/-- The interrupt controller beside its registers (R251 to R254, R265): sources whose coalescing
timer runs or has expired, groups whose interval runs with the picks it has run, the registers saved for SLEEP, the wake
latch, and the candidates a write has just withdrawn: core, source and the priority it was resolved with (R256). -/
structure IcuSt where
  timer : List Nat := []
  expired : List Nat := []
  grp : List (Nat × Nat) := []
  saved : Option Regs := none
  wake : List Nat := []
  raced : List (Nat × Nat × Nat) := []
deriving DecidableEq, Repr, Inhabited

/-- A DMA channel (R270 to R283): the descriptor loaded, the next element to read and to write, the
elements read and not yet written, the unit in progress, the access answered RETRY (a write or not) with its
reissues, the NEXT word to fetch, and a stop by an error. -/
structure Dma where
  daddr : Nat := 0
  src : Nat := 0
  dst : Nat := 0
  xcnt : Nat := 0
  ycnt : Nat := 0
  sxstep : Int := 0
  systride : Int := 0
  dxstep : Int := 0
  dystride : Int := 0
  ie : Bool := false
  wb : Bool := false
  trig : Nat := 0
  esize : Nat := 0
  id : Nat := 0
  loadPend : Bool := false
  moving : Bool := false
  rx : Nat := 0
  ry : Nat := 0
  wx : Nat := 0
  wy : Nat := 0
  buf : List Nat := []
  stopped : Bool := false
  wait : Option Bool := none
  retries : Nat := 0
  fetch : Bool := false
  lastDst : Nat := 0
deriving DecidableEq, Repr, Inhabited

/-- Advisory bits whose notice and record vendor firmware owes, and the RTC of the first record since the
AON reset (R575); whether the advisory summary was restored at this Crerus start (R585); an excursion in
progress (R573). -/
structure HealthSt where
  owed : List Nat := []
  first : Nat := 0
  restored : Bool := false
  hotAbove : Bool := false
deriving DecidableEq, Repr, Inhabited

/-- Frozen fields (R427, R429): a ONCE field after its first write, and whether that write came from
the SEALED world. -/
structure Frozen where
  fld : Fld
  sealedOwned : Bool
deriving DecidableEq, Repr

/-- SYS_KEY (R432): a first key write seen, an unlock in force, each by requester. -/
structure KeySt where
  first : List Req := []
  unlocked : List Req := []
  errLockSealed : Bool := false
deriving DecidableEq, Repr, Inhabited

end Sys2Proof.Machine
end

