-- ==== Sys2Proof/Machine/BlocksCore.lean ====
section
/-!
DEFINITION. What a strand, the Ply and the worlds hold: general registers, control and status
registers, tiles, the MPU sets, and the context a gate call saves (chapters 08 to 11 and 14).
-/

namespace Sys2Proof.Machine

/-- One world's MPU set (R205): eight regions as their words, the lock and the default. -/
structure Mpu where
  base : Vector Word 8 := Vector.replicate 8 0
  lim : Vector Word 8 := Vector.replicate 8 0
  attr : Vector Word 8 := Vector.replicate 8 0
  lock : Bool := false
  defAllow : Bool := false
deriving DecidableEq, Repr

/-- What a strand is doing: held in reset or by the Ply, issuing, in WFI, in JOINWAIT, or stopped for a
power state (R183, R204, R176, R485). -/
inductive Strand where
  | held | issuing | wfi | joinWait | stopped
deriving DecidableEq, Repr, Inhabited

/-- What an access of a strand does once it is answered: the forms of Table 10.8's loads, stores, I/O
accesses and tile moves. -/
inductive AccKind where
  | fetch
  | load (rd : Fin 32) (n : Nat) (signed : Bool)
  | store (n : Nat) (v : Word)
  | loadx (rd : Fin 32)
  | storex (rs : Fin 32)
  | ioLoad (rd : Fin 32)
  | ioStore (v : Word)
  | tileMove (op : BitVec 3) (acc : Bool) (t : BitVec 3) (stride : Int) (rows row moved stop : Nat) (cont : Bool)
deriving DecidableEq, Repr, Inhabited

/-- An access of a strand: what it does and its address, or the address of row 0 of a move. -/
structure Access where
  kind : AccKind := .store 0 0
  ea : Word := 0
deriving DecidableEq, Repr, Inhabited

/-- What an access that waits waits for: its reissue after RETRY (R198), the end of an operation of flash bank 0 (R394),
or, at a row boundary of a tile move, its next row (R237, R245). -/
inductive WaitFor where
  | retry | flash | row
deriving DecidableEq, Repr, Inhabited

/-- A logical core of the Ply: the registers of R190 and Table 9.7, the load delay of R195, the
reservation and the locked sequence of R221, the tile unit of R233 and its TIL set of R249, the lines
its instruction cache holds with the world that filled each (R196, R301), and an access that waits
with what it waits for and the reissues so far (R198). A debugger's halt that waits for an eligible boundary is held
with its cause and comparator, beside a step and a resume in progress (R447). -/
structure Core where
  run : Strand := .held
  g : Vector Word 32 := Vector.replicate 32 0
  pc : Word := 0
  dblf : Bool := false
  world : Bool := false
  exl : Bool := false
  ie : Bool := false
  pexl : Bool := false
  pie : Bool := false
  epc : Word := 0
  ecInt : Bool := false
  ecCode : BitVec 8 := 0
  eaddr : Word := 0
  einfo : BitVec 8 := 0
  evec : Word := 0
  ivec : Word := 0
  escr0 : Word := 0
  escr1 : Word := 0
  ipri : BitVec 4 := 0
  pipri : BitVec 4 := 0
  isrc : BitVec 8 := 0
  cycle : Word := 0
  pfen : Bool := true
  inval : Option Word := none
  mpuO : Mpu := { defAllow := true }
  mpuS : Mpu := {}
  fetchO : Mpu := { defAllow := true }
  fetchS : Mpu := {}
  tuse : BitVec 8 := 0
  tprog : Word := 0
  tiles : Vector (Vector (BitVec 16) 64) 8 := Vector.replicate 8 (Vector.replicate 64 0)
  acc : Vector (BitVec 48) 64 := Vector.replicate 64 0
  ld : Option (Fin 32 × Word) := none
  ldNext : Option (Fin 32 × Word) := none
  res : Option Nat := none
  locked : Bool := false
  fromEret : Bool := false
  fresh : Bool := false
  save : Option (Word × Bool) := none
  step : Bool := false
  tAccSat : Bool := false
  tDrnSat : Bool := false
  tAccCnt : BitVec 16 := 0
  tDrnCnt : BitVec 16 := 0
  tStops : BitVec 16 := 0
  tResumes : BitVec 16 := 0
  cache : List (Nat × Bool) := []
  wait : Option Access := none
  why : WaitFor := .retry
  retries : Nat := 0
  haltReq : Option (Nat × Nat) := none
  resumed : Bool := false
deriving DecidableEq, Repr

/-- The core with the TIL set of another (R249). -/
def Core.withTil (k o : Core) : Core :=
  { k with
    tAccSat := o.tAccSat, tDrnSat := o.tDrnSat, tAccCnt := o.tAccCnt, tDrnCnt := o.tDrnCnt, tStops := o.tStops
    tResumes := o.tResumes }

/-- The Ply beside its registers (R172 to R185): the target of a
hand-over in progress, what a resync or a join waits for, the cores whose watchdog is past half, the times of
the resyncs of the last 10 ms and of the last hour, and the place of the scrubber. -/
structure PlySt where
  target : Nat := 0
  copied : Bool := false
  joinTcm : Bool := false
  wdHalf : List Nat := []
  odd : List (Nat × Nat) := []
  hour : List Nat := []
  scrub : Nat := 0
  fault : Bool := false
deriving DecidableEq, Repr, Inhabited

/-- A record vendor firmware owes the journal: the rule that asks for it, what it holds, and the time it was
raised (R356, R400). -/
structure VRec where
  rule : Nat := 0
  data : List Nat := []
  rtc : Nat := 0
  tb : Nat := 0
deriving DecidableEq, Repr, Inhabited

/-- The requesters that have armed a flash sequence (R395) and a SCRAP request (R422). -/
structure SeqSt where
  flc : Option Req := none
  scrap : Option Req := none
deriving DecidableEq, Repr, Inhabited

/-- The worlds beside their registers (R290 to R302): the context an entry gate saved and its gate, the
loaded image's gate table, end and initial pointers, a load that waits for the call in progress, the cause
of the load in progress, and whether Selvedge has programmed the SEALED MPU set since
reset, and the sealed-held mailboxes to wipe when their reply arrives (R317). -/
structure WldSt where
  saved : Option Core := none
  gate : Nat := 0
  gates : List Nat := []
  imgEnd : Nat := 0
  sp : Word := 0
  wp : Word := 0
  waiting : Option Nat := none
  mpuDone : Bool := false
  wipeMb : List Nat := []
deriving DecidableEq, Repr

end Sys2Proof.Machine
end

