-- ==== Sys2Proof/Machine/BlocksSys.lean ====
section
/-!
DEFINITION. What the Warp bus, Crerus, the custody queue, the journal, the flash controller, the custody
engine and the life-cycle controller hold beside their registers (chapters 07 and 15 to 19).
-/

namespace Sys2Proof.Machine

/-- A message transfer this node has open as its source (R155): its XID, destination and bytes, the address
of the request it serves, and whether it waits after a NAK_BUSY or for the reply after its ACK. -/
structure Send where
  xid : Nat := 0
  dst : Nat := 0
  bytes : List Nat := []
  job : Nat := 0
  busy : Bool := false
  acked : Bool := false
  reply : Bool := false
deriving DecidableEq, Repr, Inhabited

/-- A reassembly buffer (R155): the source, the XID, the bytes so far, the next fragment, and whether the
sequence broke. -/
structure Reasm where
  src : Nat := 0
  xid : Nat := 0
  bytes : List Nat := []
  next : Nat := 0
  bad : Bool := false
deriving DecidableEq, Repr, Inhabited

/-- The Warp node beside its registers (R147 to R161). -/
structure Warp where
  path : Bool := false
  own : List Frame := []
  fwd : List Frame := []
  tx : Frame := .empty
  passed : Nat := 4
  launched : List Nat := []
  enumTag : Option (BitVec 7) := none
  n : Nat := 1
  cal : Option (List Int × Int) := none
  calSeq : Nat := 0
  part : Nat := 0
  stepPick : Option Nat := none
  stepDue : Bool := false
  synced : Bool := false
  aligned : Bool := false
  demoted : Bool := false
  events : List Nat := []
  stepped : Bool := false
  lastId : Option Nat := none
  armed : List Nat := []
  sends : List Send := []
  bufs : List Reasm := []
  crc : List Nat := []
  bypassed : List Nat := []
deriving DecidableEq, Repr, Inhabited

/-- The requester classes (R312). -/
inductive Cls where
  | h | o | s | r
deriving DecidableEq, Repr, Inhabited

/-- The path a request arrived on (R312). -/
inductive Src where
  | host (n : Nat) | loc (b : Nat) | warp (src xid : Nat)
deriving DecidableEq, Repr, Inhabited

/-- A request in arrival order (R322): its path, whether its doorbell was rung in the SEALED world, the message itself
where it came over the bus, and its place among the arrivals of requests and queue commands (R356). -/
structure Arrival where
  src : Src := .host 0
  sealedW : Bool := false
  bytes : List Nat := []
  stamp : Nat := 0
deriving DecidableEq, Repr, Inhabited

/-- What a started request waits for (R322): nothing, flash, the custody engine, a Warp reply, the launch of its GSTART
frame, a lane's UPD, a sequence, a power state or a transition; or its result is ready. -/
inductive JobWait where
  | none | flash (code : Option Nat) | engine | warp (xid : Nat) | gstart (f : Frame) | upd (k : Nat) | seq | power (st : Nat) | lc
  | ready (status : Nat) (data : List Nat)
deriving DecidableEq, Repr, Inhabited

/-- A request Crerus has taken (R322): its number, its path and class, the header fields and the payload. -/
structure Job where
  id : Nat := 0
  src : Src := .host 0
  cls : Cls := .h
  sealedHeld : Bool := false
  verb : Nat := 0
  md : Nat := 0
  noun : Nat := 0
  seq : Nat := 0
  flags : Nat := 0
  pay : List Nat := []
  wait : JobWait := .none
  stamp : Nat := 0
deriving DecidableEq, Repr, Inhabited

/-- A subscription (R321): the class, the notice mailbox of a local one, the minimum interval, when its last notice was
written, and the Noun's value last told. -/
structure Sub where
  cls : Cls := .h
  mb : Nat := 0
  noun : Nat := 0
  interval : Nat := 0
  last : Option Nat := none
  told : List Nat := []
  waiting : Bool := false
deriving DecidableEq, Repr, Inhabited

/-- An entry of a Draft body (R502): its target, whether it names a Noun, and its data bytes. -/
structure Entry where
  target : Nat := 0
  noun : Bool := false
  data : List Nat := []
deriving DecidableEq, Repr, Inhabited

/-- A Draft (R501, R502): its sequence number, its BOOT block and its entries. -/
structure Draft where
  seq : Nat := 0
  boot : List Nat := List.replicate 72 0
  entries : List Entry := []
deriving DecidableEq, Repr, Inhabited

/-- A run of the SEQUENCE service (R337): the step, and the lanes enabled so far, newest first. -/
structure SeqRun where
  on : Bool := false
  step : Nat := 0
  lanes : List Nat := []
deriving DecidableEq, Repr, Inhabited

/-- One fan as FAN_STATUS shows it (R337). -/
structure Fan where
  rpm : Nat := 0
  duty : Nat := 0
  stalled : Bool := false
deriving DecidableEq, Repr, Inhabited

/-- Crerus and vendor firmware beside their registers (R312 to R337, R503 to R511). `alive`: vendor firmware runs;
`started`: it has run since the SYS reset. -/
structure Crerus where
  alive : Bool := false
  started : Bool := false
  recovery : Bool := false
  arr : List Arrival := []
  stamp : Nat := 0
  cur : Option Job := none
  susp : List Job := []
  nextId : Nat := 0
  pend : List ((Cls × Nat) × List Nat) := []
  subs : List Sub := []
  notes : List Sub := []
  work : Draft := {}
  bootDraft : Draft := {}
  draftSlot : Nat := 2
  verified : Bool := false
  version : Nat := 0
  svn : Nat := 0
  slot : Nat := 0
  trial : Bool := false
  activating : Bool := false
  authctr : Nat := 0
  fanPolicy : List Nat := List.replicate 64 0
  fans : List Fan := List.replicate 4 {}
  sequence : List Nat := List.replicate 128 0
  run : SeqRun := {}
  wdLast : Option Nat := none
deriving DecidableEq, Repr, Inhabited

/-- A custody-queue command as taken (R340, R343); `discard` is one whose completion is discarded (R360, R362), `rn` the number its
record was given and `inp` the input read at its start (R343, R351). -/
structure QCmd where
  opc : Nat := 0
  tag : Nat := 0
  order : Nat := 0
  auth : Bool := false
  deferred : Bool := false
  inOfs : Nat := 0
  inLen : Nat := 0
  outOfs : Nat := 0
  outLen : Nat := 0
  param : List Nat := []
  idx : Nat := 0
  raw : List Nat := []
  num : Nat := 0
  held : Bool := false
  stamp : Nat := 0
  discard : Bool := false
  rn : Option Nat := none
  inp : List Nat := []
deriving DecidableEq, Repr, Inhabited

/-- A completion that waits for room in the ring (R341, R348). -/
structure QDone where
  num : Nat := 0
  tag : Nat := 0
  idx : Nat := 0
  status : Nat := 0
  r0 : Nat := 0
  r1 : Nat := 0
  reason : Nat := 0
  flags : Nat := 0
  usesTag : Bool := true
  discard : Bool := false
  barrier : Bool := false
deriving DecidableEq, Repr, Inhabited

/-- The custody queue beside its registers and rings (R342 to R348, R357); `stamps` are the places in the arrival order
of the entries the ring holds (R356). -/
structure Queue where
  taken : List QCmd := []
  running : List QCmd := []
  done : List QDone := []
  num : Nat := 0
  heldTo : Nat := 0
  stamps : List Nat := []
deriving DecidableEq, Repr, Inhabited

/-- The journal (R351, R399 to R403): K_J, the records of the page buffer and of the page being programmed, the
next record number with the MAC before it, the newest durable record with its MAC, the write position and PSN,
whether the scan and the check of the chain have ended, the retention lock and LOWMARK, and the counts of
JOURNAL_STATUS. -/
structure Jrnl where
  key : List Nat := []
  buf : List (List Nat) := []
  prog : Option (List (List Nat)) := none
  next : Nat := 0
  mac : List Nat := List.replicate 48 0
  durable : Nat := 0
  durMac : List Nat := List.replicate 48 0
  wpos : Nat := 0
  psn : Nat := 0
  scanned : Bool := false
  verified : Bool := false
  lock : Bool := false
  lowmark : Nat := 0
  torn : Nat := 0
  breaks : Nat := 0
  lost : Nat := 0
  eraseFail : Bool := false
deriving DecidableEq, Repr, Inhabited

/-- An operation of a flash bank (R393, R396): the range it erases, the bytes it programs, and whether a
strand command started it. -/
structure FlashOp where
  strand : Bool := false
  erase : List (Nat × Nat) := []
  prog : List (Nat × List Nat) := []
deriving DecidableEq, Repr, Inhabited

/-- The flash controller beside its registers (R395 to R397): the operation of each bank, and the 128-bit
words in error, correctable and not. -/
structure FlashSt where
  op0 : Option FlashOp := none
  op1 : Option FlashOp := none
  corr : List Nat := []
  unc : List Nat := []
  events : List Nat := []
deriving DecidableEq, Repr, Inhabited

/-- A key slot (R366). -/
structure KeySlot where
  occ : Bool := false
  typ : Nat := 0
  len : Nat := 0
  policy : Nat := 0
  key : List Nat := []
deriving DecidableEq, Repr, Inhabited

/-- A mesh channel (R379): its LFSR, and the mismatches in a row. -/
structure MeshCh where
  lfsr : BitVec 31 := 1
  run : Nat := 0
deriving DecidableEq, Repr, Inhabited

/-- The custody subsystem beside its registers (R364 to R386). -/
structure Custody where
  slots : Bank KeySlot 64 := Vector.replicate 64 {}
  keys : Bool := false
  drbg : Bool := false
  generated : Nat := 0
  reseeds : Nat := 0
  aborted : Nat := 0
  esReady : Bool := false
  esFail : Bool := false
  esFails : Nat := 0
  esStopped : Bool := false
  slotLoss : Bool := true
  katFail : Bool := false
  mesh : Bank MeshCh 2 := Vector.replicate 2 {}
  wiping : Bool := false
  recordDue : Bool := false
deriving DecidableEq, Repr, Inhabited

/-- A life-cycle transition in progress, a fuse program request, and the requester a transition answers
(R420, R424, R430). -/
structure LcSt where
  slot : Option Nat := none
  step : Nat := 0
  fuse : Option (Nat × Nat) := none
  job : Option Nat := none
deriving DecidableEq, Repr, Inhabited

end Sys2Proof.Machine
end

