-- ==== Sys2Proof/Machine/BlocksPer.lean ====
section
/-!
DEFINITION. What the power sequencer, the reset logic, the clock monitor, the debug port, the host
interface and the serial peripherals hold beside their registers (chapters 15 and 20 to 24).
-/

namespace Sys2Proof.Machine

/-- The power sequencer (R479 to R493): the entry in progress with its request, whether its reply has been
written, the domains being quiesced with the state each goes to, a wake latched during the entry, the losses
of each domain since the SYS reset, the strand domains that are OFF and to be switched on at the next exit (R481, R490), the domains that hold
their contents in retention (R479), the cores stopped at a WFI, and whether
step 4 of R484 has been reached. -/
structure PwrSt where
  entry : Option Nat := none
  job : Option Nat := none
  past : Bool := false
  quiet : List (Nat × Nat) := []
  wake : Option (Nat × Nat) := none
  losses : List Nat := []
  leanOff : List Nat := []
  retained : List Nat := []
  wfi : List Nat := []
  noFlash : Bool := false
deriving DecidableEq, Repr, Inhabited

/-- The reset logic (R499, R500): whether a reset is asserted, whether it is an AON reset, its causes, and
the internal causes that wait for a flash operation to end. -/
structure RstSt where
  asserted : Bool := true
  aon : Bool := true
  causes : List Nat := [0]
  waiting : List Nat := []
deriving DecidableEq, Repr, Inhabited

/-- The clock monitor (R463 to R468): the reference that qualified at the last window end, the hold-off, and
a RELOCK after a loss of lock. -/
structure ClkSt where
  prev : Option Nat := none
  holdoff : Bool := false
  loss : Bool := false
deriving DecidableEq, Repr, Inhabited

/-- An operation of DBGAP (R438): a write or a read, whether a read is ACTIVE, the address and the data. -/
structure DbgOp where
  write : Bool := false
  active : Bool := false
  addr : Nat := 0
  val : Nat := 0
deriving DecidableEq, Repr, Inhabited

/-- The debug port (R435 to R444): the instruction selected, the boundary register, the last DBGAP
operation's ACK and read data, the operation that has not completed, the data register last captured, the nonce, the certificate words, the word pointers, the end of a grant on
RTC, and a check in progress. -/
structure DbgSt where
  ir : Nat := 2
  boundary : List Bool := []
  ack : Nat := 0
  data : Nat := 0
  op : Option DbgOp := none
  dr : Nat := 0
  nonce : Option (List Nat) := none
  chal : Nat := 0
  chalOut : Nat := 0
  cert : List Nat := []
  checking : Bool := false
  grantEnd : Option Nat := none
deriving DecidableEq, Repr, Inhabited

/-- The xSPI target (R314): a RESET ENABLE just seen, a profile that waits for HCS# to rise, the bytes last
driven, and the status byte last sent. -/
structure XspiSt where
  armed : Bool := false
  mode : Bool := false
  next : Option Bool := none
  out : List Nat := []
  status : Nat := 0
deriving DecidableEq, Repr, Inhabited

/-- The UART beside its registers (R528 to R530): the FIFOs, oldest first, the character being sent, the
receive timeout, a break awaited, and the requests of its three sources. -/
structure UartSt where
  tx : List Nat := []
  rx : List (Nat × Bool × Bool) := []
  sending : Option Nat := none
  idle : Bool := false
  brk : Bool := false
  req : List Nat := []
deriving DecidableEq, Repr, Inhabited

/-- The I²C block beside its registers (R532 to R535): the FIFOs, oldest first, whether the bus counts as
free, whether the transfer has sent START and its address, the next target byte being the first after a match,
the address byte, the direction and STOP bit of the transfer, whether a NACK ends it, whether the target has
been NACKed, and the requests of its three sources. -/
structure I2cSt where
  tx : List Nat := []
  rx : List (Nat × Bool) := []
  free : Bool := false
  started : Bool := false
  addressed : Bool := false
  first : Bool := false
  out : Nat := 0
  rd : Bool := false
  stp : Bool := false
  ending : Bool := false
  silent : Bool := false
  req : List Nat := []
deriving DecidableEq, Repr, Inhabited

end Sys2Proof.Machine
end

