-- ==== Sys2Proof/Machine/RegMap.lean ====
section
/-!
DEFINITION. The register map: every register of the I/O space and of the host window, field by
field, as the register tables of the spec list them (address, bits, access code, reset column),
with the power domain and the reset domain of each. One definition names each field; `regTable`
lists every register for accesses by address. Host-window registers stand at `hostBase` plus
their host address.
-/

namespace Sys2Proof.Machine

namespace R

/-! SYS_ID: R2, Table 0.1 of chapter 00. -/
def SYS_ID_PART : Fld := ⟨0x0, 16, 16, .ro, (.val 28996), 0, .aon⟩
def SYS_ID_MAJOR : Fld := ⟨0x0, 8, 8, .ro, (.val 10), 0, .aon⟩
def SYS_ID_MINOR : Fld := ⟨0x0, 0, 8, .ro, (.val 1), 0, .aon⟩
/-! ADC_CTRL: R44, Table 2.3 of chapter 02. -/
def ADC_CTRL_EN (i : Nat) : Fld := ⟨0xd000 + 0x100 * i, 31, 1, .rw, .draft, 7, .dom⟩
def ADC_CTRL_OVRIE (i : Nat) : Fld := ⟨0xd000 + 0x100 * i, 30, 1, .rw, .draft, 7, .dom⟩
def ADC_CTRL_SWSTART (i : Nat) : Fld := ⟨0xd000 + 0x100 * i, 8, 4, .wo, (.val 0), 7, .dom⟩
def ADC_CTRL_DONEIE (i : Nat) : Fld := ⟨0xd000 + 0x100 * i, 0, 4, .rw, .draft, 7, .dom⟩
/-! ADC_SLOT: R44, Table 2.4 of chapter 02. -/
def ADC_SLOT_AVG (i j : Nat) : Fld := ⟨0xd010 + 0x100 * i + 0x4 * j, 3, 3, .rw, .draft, 7, .dom⟩
def ADC_SLOT_SEL (i j : Nat) : Fld := ⟨0xd010 + 0x100 * i + 0x4 * j, 0, 3, .rw, .draft, 7, .dom⟩
/-! ADC_RES: R44, Table 2.5 of chapter 02. -/
def ADC_RES_NEW (i j : Nat) : Fld := ⟨0xd020 + 0x100 * i + 0x4 * j, 31, 1, .rs, (.val 0), 7, .dom⟩
def ADC_RES_REFSW (i j : Nat) : Fld := ⟨0xd020 + 0x100 * i + 0x4 * j, 30, 1, .ro, (.val 0), 7, .dom⟩
def ADC_RES_AVGD (i j : Nat) : Fld := ⟨0xd020 + 0x100 * i + 0x4 * j, 29, 1, .ro, (.val 0), 7, .dom⟩
def ADC_RES_DATA (i j : Nat) : Fld := ⟨0xd020 + 0x100 * i + 0x4 * j, 0, 16, .ro, (.val 0), 7, .dom⟩
/-! ADC_STAT: R44, Table 2.6 of chapter 02. -/
def ADC_STAT_PEND (i : Nat) : Fld := ⟨0xd030 + 0x100 * i, 16, 4, .ro, (.val 0), 7, .dom⟩
def ADC_STAT_OVR (i : Nat) : Fld := ⟨0xd030 + 0x100 * i, 8, 4, .w1c, (.val 0), 7, .dom⟩
def ADC_STAT_DONE (i : Nat) : Fld := ⟨0xd030 + 0x100 * i, 0, 4, .w1c, (.val 0), 7, .dom⟩
/-! ADC_OVRCNT: R44, Table 2.7 of chapter 02. -/
def ADC_OVRCNT (i : Nat) : Fld := ⟨0xd034 + 0x100 * i, 0, 16, .rw, (.val 0), 7, .dom⟩
/-! CMP_CFG: R45, Table 2.8 of chapter 02. -/
def CMP_CFG_EN (i : Nat) : Fld := ⟨0xe000 + 0x20 * i, 31, 1, .rw, .draft, 7, .dom⟩
def CMP_CFG_TRIPEN (i : Nat) : Fld := ⟨0xe000 + 0x20 * i, 30, 1, .rw, .draft, 7, .dom⟩
def CMP_CFG_HYST (i : Nat) : Fld := ⟨0xe000 + 0x20 * i, 28, 2, .rw, .draft, 7, .dom⟩
def CMP_CFG_INSEL (i : Nat) : Fld := ⟨0xe000 + 0x20 * i, 26, 2, .rw, .draft, 7, .dom⟩
def CMP_CFG_SLPEN (i : Nat) : Fld := ⟨0xe000 + 0x20 * i, 25, 1, .rw, .draft, 7, .dom⟩
def CMP_CFG_SLPPAIR (i : Nat) : Fld := ⟨0xe000 + 0x20 * i, 20, 4, .rw, .draft, 7, .dom⟩
def CMP_CFG_FILT (i : Nat) : Fld := ⟨0xe000 + 0x20 * i, 16, 4, .rw, .draft, 7, .dom⟩
def CMP_CFG_BLANK (i : Nat) : Fld := ⟨0xe000 + 0x20 * i, 8, 8, .rw, .draft, 7, .dom⟩
def CMP_CFG_BLKPAIR (i : Nat) : Fld := ⟨0xe000 + 0x20 * i, 4, 4, .rw, .draft, 7, .dom⟩
/-! CMP_THR: R45, Table 2.9 of chapter 02. -/
def CMP_THR (i : Nat) : Fld := ⟨0xe004 + 0x20 * i, 0, 12, .rw, .draft, 7, .dom⟩
/-! CMP_SLOPE: R45, Table 2.10 of chapter 02. -/
def CMP_SLOPE (i : Nat) : Fld := ⟨0xe008 + 0x20 * i, 0, 16, .rw, .draft, 7, .dom⟩
/-! CMP_STAT: R45, Table 2.11 of chapter 02. -/
def CMP_STAT_OUT (i : Nat) : Fld := ⟨0xe00c + 0x20 * i, 31, 1, .ro, (.val 0), 7, .dom⟩
def CMP_STAT_RAW (i : Nat) : Fld := ⟨0xe00c + 0x20 * i, 30, 1, .ro, (.val 0), 7, .dom⟩
def CMP_STAT_FALL (i : Nat) : Fld := ⟨0xe00c + 0x20 * i, 1, 1, .w1c, (.val 0), 7, .dom⟩
def CMP_STAT_RISE (i : Nat) : Fld := ⟨0xe00c + 0x20 * i, 0, 1, .w1c, (.val 0), 7, .dom⟩
/-! DAC_DATA: R45, Table 2.12 of chapter 02. -/
def DAC_DATA (i : Nat) : Fld := ⟨0xe800 + 0x4 * i, 0, 12, .rw, .draft, 7, .dom⟩
/-! DAC_EN: R45, Table 2.12 of chapter 02. -/
def DAC_EN_EN1 : Fld := ⟨0xe808, 1, 1, .rw, .draft, 7, .dom⟩
def DAC_EN_EN0 : Fld := ⟨0xe808, 0, 1, .rw, .draft, 7, .dom⟩
/-! RFM_CFG: R46, Table 2.13 of chapter 02. -/
def RFM_CFG_SWEN : Fld := ⟨0xf000, 31, 1, .rw, .draft, 7, .dom⟩
def RFM_CFG_INITSEL : Fld := ⟨0xf000, 4, 2, .rw, .draft, 7, .dom⟩
def RFM_CFG_FITB : Fld := ⟨0xf000, 2, 1, .rw, .draft, 7, .dom⟩
def RFM_CFG_FITA : Fld := ⟨0xf000, 1, 1, .rw, .draft, 7, .dom⟩
/-! RFM_NOMA: R46, Table 2.13 of chapter 02. -/
def RFM_NOMA : Fld := ⟨0xf004, 0, 21, .rw, .draft, 7, .dom⟩
/-! RFM_NOMB: R46, Table 2.13 of chapter 02. -/
def RFM_NOMB : Fld := ⟨0xf008, 0, 21, .rw, .draft, 7, .dom⟩
/-! RFM_WIN: R46, Table 2.13 of chapter 02. -/
def RFM_WIN_OUTER : Fld := ⟨0xf00c, 16, 12, .rw, .draft, 7, .dom⟩
def RFM_WIN_INNER : Fld := ⟨0xf00c, 0, 12, .rw, .draft, 7, .dom⟩
/-! RFM_STAT: R46, Table 2.13 of chapter 02. -/
def RFM_STAT_ACTIVE : Fld := ⟨0xf010, 28, 2, .ro, (.val 0), 7, .dom⟩
def RFM_STAT_NOMAJ : Fld := ⟨0xf010, 11, 1, .ro, (.val 0), 7, .dom⟩
def RFM_STAT_SELFCHK : Fld := ⟨0xf010, 10, 1, .ro, (.val 0), 7, .dom⟩
def RFM_STAT_HELD : Fld := ⟨0xf010, 3, 1, .w1c, (.val 0), 7, .dom⟩
def RFM_STAT_FAULT : Fld := ⟨0xf010, 2, 1, .w1c, (.val 0), 7, .dom⟩
def RFM_STAT_SWITCHED : Fld := ⟨0xf010, 1, 1, .w1c, (.val 0), 7, .dom⟩
def RFM_STAT_INNER : Fld := ⟨0xf010, 0, 1, .w1c, (.val 0), 7, .dom⟩
/-! RFM_DEV_IA: R46, Table 2.13 of chapter 02. -/
def RFM_DEV_IA : Fld := ⟨0xf014, 0, 16, .ro, (.val 0), 7, .dom⟩
/-! RFM_DEV_IB: R46, Table 2.13 of chapter 02. -/
def RFM_DEV_IB : Fld := ⟨0xf018, 0, 16, .ro, (.val 0), 7, .dom⟩
/-! RFM_DEV_AB: R46, Table 2.13 of chapter 02. -/
def RFM_DEV_AB : Fld := ⟨0xf01c, 0, 16, .ro, (.val 0), 7, .dom⟩
/-! RFM_GCORR: R46, Table 2.13 of chapter 02. -/
def RFM_GCORR : Fld := ⟨0xf020, 0, 16, .ro, (.val 0), 7, .dom⟩
/-! RFM_SWCNT: R46, Table 2.13 of chapter 02. -/
def RFM_SWCNT : Fld := ⟨0xf024, 0, 8, .ro, (.val 0), 7, .dom⟩
/-! RFM_LASTSW: R46, Table 2.13 of chapter 02. -/
def RFM_LASTSW : Fld := ⟨0xf028, 0, 32, .ro, (.val 0), 7, .dom⟩
/-! LN_CTRL: R69, Table 3.7 of chapter 03. -/
def LN_CTRL_EN (i : Nat) : Fld := ⟨0xc000 + 0x100 * i, 31, 1, .rw, .draft, 6, .dom⟩
def LN_CTRL_UPD (i : Nat) : Fld := ⟨0xc000 + 0x100 * i, 30, 1, .w1s, (.val 0), 6, .dom⟩
def LN_CTRL_HCLR (i : Nat) : Fld := ⟨0xc000 + 0x100 * i, 29, 1, .wo, (.val 0), 6, .dom⟩
def LN_CTRL_MODE (i : Nat) : Fld := ⟨0xc000 + 0x100 * i, 28, 1, .rw, .draft, 6, .dom⟩
def LN_CTRL_RUNSRC (i : Nat) : Fld := ⟨0xc000 + 0x100 * i, 27, 1, .rw, .draft, 6, .dom⟩
def LN_CTRL_INV (i : Nat) : Fld := ⟨0xc000 + 0x100 * i, 26, 1, .rw, .draft, 6, .dom⟩
def LN_CTRL_REFSEL (i : Nat) : Fld := ⟨0xc000 + 0x100 * i, 24, 2, .rw, .draft, 6, .dom⟩
def LN_CTRL_BOOSTEN (i : Nat) : Fld := ⟨0xc000 + 0x100 * i, 23, 1, .rw, .draft, 6, .dom⟩
def LN_CTRL_MISSACT (i : Nat) : Fld := ⟨0xc000 + 0x100 * i, 22, 1, .rw, .draft, 6, .dom⟩
def LN_CTRL_FRZBOOST (i : Nat) : Fld := ⟨0xc000 + 0x100 * i, 21, 1, .rw, .draft, 6, .dom⟩
def LN_CTRL_FRZLVL (i : Nat) : Fld := ⟨0xc000 + 0x100 * i, 20, 1, .rw, .draft, 6, .dom⟩
def LN_CTRL_DSTTYPE (i : Nat) : Fld := ⟨0xc000 + 0x100 * i, 13, 3, .rw, .draft, 6, .dom⟩
def LN_CTRL_DSTIDX (i : Nat) : Fld := ⟨0xc000 + 0x100 * i, 4, 4, .rw, .draft, 6, .dom⟩
/-! LN_IN: R69, Table 3.7 of chapter 03. -/
def LN_IN_INEN (i : Nat) : Fld := ⟨0xc004 + 0x100 * i, 31, 1, .rw, .draft, 6, .dom⟩
def LN_IN_MAXAGE (i : Nat) : Fld := ⟨0xc004 + 0x100 * i, 8, 16, .rw, .draft, 6, .dom⟩
def LN_IN_SLOT (i : Nat) : Fld := ⟨0xc004 + 0x100 * i, 0, 5, .rw, .draft, 6, .dom⟩
/-! LN_OFFS: R69, Table 3.7 of chapter 03. -/
def LN_OFFS (i : Nat) : Fld := ⟨0xc008 + 0x100 * i, 0, 24, .rw, .draft, 6, .dom⟩
/-! LN_GAIN: R69, Table 3.7 of chapter 03. -/
def LN_GAIN (i : Nat) : Fld := ⟨0xc00c + 0x100 * i, 0, 16, .rw, .draft, 6, .dom⟩
/-! LN_REF: R69, Table 3.7 of chapter 03. -/
def LN_REF (i : Nat) : Fld := ⟨0xc010 + 0x100 * i, 0, 24, .rw, .draft, 6, .dom⟩
/-! LN_RSLEW: R69, Table 3.7 of chapter 03. -/
def LN_RSLEW (i : Nat) : Fld := ⟨0xc014 + 0x100 * i, 0, 23, .rw, .draft, 6, .dom⟩
/-! LN_REFNOW: R69, Table 3.7 of chapter 03. -/
def LN_REFNOW (i : Nat) : Fld := ⟨0xc018 + 0x100 * i, 0, 24, .ro, (.val 0), 6, .dom⟩
/-! LN_DSTMASK: R69, Table 3.7 of chapter 03. -/
def LN_DSTMASK (i : Nat) : Fld := ⟨0xc01c + 0x100 * i, 0, 16, .rw, .draft, 6, .dom⟩
/-! LN_B: R69, Table 3.7 of chapter 03. -/
def LN_B (i j : Nat) : Fld := ⟨0xc020 + 0x100 * i + 0x4 * j, 0, 24, .rw, .draft, 6, .dom⟩
/-! LN_A: R69, Table 3.7 of chapter 03. -/
def LN_A (i j : Nat) : Fld := ⟨0xc030 + 0x100 * i + 0x4 * j, 0, 24, .rw, .draft, 6, .dom⟩
/-! LN_OMIN: R69, Table 3.7 of chapter 03. -/
def LN_OMIN (i : Nat) : Fld := ⟨0xc040 + 0x100 * i, 0, 24, .rw, .draft, 6, .dom⟩
/-! LN_OMAX: R69, Table 3.7 of chapter 03. -/
def LN_OMAX (i : Nat) : Fld := ⟨0xc044 + 0x100 * i, 0, 24, .rw, .draft, 6, .dom⟩
/-! LN_BTHR: R69, Table 3.7 of chapter 03. -/
def LN_BTHR (i : Nat) : Fld := ⟨0xc048 + 0x100 * i, 0, 23, .rw, .draft, 6, .dom⟩
/-! LN_BK: R69, Table 3.7 of chapter 03. -/
def LN_BK (i : Nat) : Fld := ⟨0xc04c + 0x100 * i, 0, 8, .rw, .draft, 6, .dom⟩
/-! LN_OOFS: R69, Table 3.7 of chapter 03. -/
def LN_OOFS (i : Nat) : Fld := ⟨0xc050 + 0x100 * i, 0, 21, .rw, .draft, 6, .dom⟩
/-! LN_OSPAN: R69, Table 3.7 of chapter 03. -/
def LN_OSPAN (i : Nat) : Fld := ⟨0xc054 + 0x100 * i, 0, 21, .rw, .draft, 6, .dom⟩
/-! LN_OUT: R69, Table 3.7 of chapter 03. -/
def LN_OUT (i : Nat) : Fld := ⟨0xc060 + 0x100 * i, 0, 24, .ro, (.val 0), 6, .dom⟩
/-! LN_ERR: R69, Table 3.7 of chapter 03. -/
def LN_ERR (i : Nat) : Fld := ⟨0xc064 + 0x100 * i, 0, 24, .ro, (.val 0), 6, .dom⟩
/-! LN_STAT: R69, Table 3.7 of chapter 03. -/
def LN_STAT_WINERR (i : Nat) : Fld := ⟨0xc068 + 0x100 * i, 10, 1, .w1c, (.val 0), 6, .dom⟩
def LN_STAT_FCLAMP (i : Nat) : Fld := ⟨0xc068 + 0x100 * i, 9, 1, .w1c, (.val 0), 6, .dom⟩
def LN_STAT_INHIB (i : Nat) : Fld := ⟨0xc068 + 0x100 * i, 8, 1, .ro, (.val 0), 6, .dom⟩
def LN_STAT_BACT (i : Nat) : Fld := ⟨0xc068 + 0x100 * i, 7, 1, .ro, (.val 0), 6, .dom⟩
def LN_STAT_DSTBUSY (i : Nat) : Fld := ⟨0xc068 + 0x100 * i, 6, 1, .w1c, (.val 0), 6, .dom⟩
def LN_STAT_RUNOVR (i : Nat) : Fld := ⟨0xc068 + 0x100 * i, 5, 1, .w1c, (.val 0), 6, .dom⟩
def LN_STAT_INMISS (i : Nat) : Fld := ⟨0xc068 + 0x100 * i, 4, 1, .ro, (.val 0), 6, .dom⟩
def LN_STAT_MISS (i : Nat) : Fld := ⟨0xc068 + 0x100 * i, 2, 1, .w1c, (.val 0), 6, .dom⟩
def LN_STAT_CONF (i : Nat) : Fld := ⟨0xc068 + 0x100 * i, 1, 1, .w1c, (.val 0), 6, .dom⟩
def LN_STAT_SAT (i : Nat) : Fld := ⟨0xc068 + 0x100 * i, 0, 1, .w1c, (.val 0), 6, .dom⟩
/-! LN_CONFLICT: R69, Table 3.7 of chapter 03. -/
def LN_CONFLICT (i : Nat) : Fld := ⟨0xc06c + 0x100 * i, 0, 16, .rw, (.val 0), 6, .dom⟩
/-! HED_DST: R70, Table 3.8 of chapter 03. -/
def HED_DST_EN (i : Nat) : Fld := ⟨0x7000 + 0x4 * i, 31, 1, .rw, .draft, 6, .dom⟩
def HED_DST_DIV (i : Nat) : Fld := ⟨0x7000 + 0x4 * i, 8, 8, .rw, .draft, 6, .dom⟩
def HED_DST_SRC (i : Nat) : Fld := ⟨0x7000 + 0x4 * i, 0, 7, .rw, .draft, 6, .dom⟩
/-! HED_SWSTB: R70, Table 3.8 of chapter 03. -/
def HED_SWSTB : Fld := ⟨0x7180, 0, 4, .wo, (.val 0), 6, .dom⟩
/-! HED_TICK: R70, Table 3.8 of chapter 03. -/
def HED_TICK : Fld := ⟨0x7184, 0, 16, .rw, .draft, 6, .dom⟩
/-! SHED_CFG: R70, Table 3.8 of chapter 03. -/
def SHED_CFG_EN (i : Nat) : Fld := ⟨0x7200 + 0x20 * i, 31, 1, .rw, .draft, 6, .dom⟩
def SHED_CFG_FREEZE (i : Nat) : Fld := ⟨0x7200 + 0x20 * i, 30, 1, .rw, .draft, 6, .dom⟩
def SHED_CFG_OWNER (i : Nat) : Fld := ⟨0x7200 + 0x20 * i, 24, 4, .rw, .draft, 6, .dom⟩
def SHED_CFG_DWELL (i : Nat) : Fld := ⟨0x7200 + 0x20 * i, 16, 8, .rw, .draft, 6, .dom⟩
def SHED_CFG_NMAX (i : Nat) : Fld := ⟨0x7200 + 0x20 * i, 12, 4, .rw, .draft, 6, .dom⟩
def SHED_CFG_NMIN (i : Nat) : Fld := ⟨0x7200 + 0x20 * i, 8, 4, .rw, .draft, 6, .dom⟩
def SHED_CFG_NNOM (i : Nat) : Fld := ⟨0x7200 + 0x20 * i, 4, 4, .rw, .draft, 6, .dom⟩
/-! SHED_MEMB: R70, Table 3.8 of chapter 03. -/
def SHED_MEMB (i : Nat) : Fld := ⟨0x7204 + 0x20 * i, 0, 16, .rw, .draft, 6, .dom⟩
/-! SHED_DROP: R70, Table 3.8 of chapter 03. -/
def SHED_DROP (i : Nat) : Fld := ⟨0x7208 + 0x20 * i, 0, 24, .rw, .draft, 6, .dom⟩
/-! SHED_ADD: R70, Table 3.8 of chapter 03. -/
def SHED_ADD (i : Nat) : Fld := ⟨0x720c + 0x20 * i, 0, 24, .rw, .draft, 6, .dom⟩
/-! SHED_STAT: R70, Table 3.8 of chapter 03. -/
def SHED_STAT_N (i : Nat) : Fld := ⟨0x7210 + 0x20 * i, 16, 4, .ro, (.val 0), 6, .dom⟩
def SHED_STAT_CFGERR (i : Nat) : Fld := ⟨0x7210 + 0x20 * i, 1, 1, .w1c, (.val 0), 6, .dom⟩
def SHED_STAT_CHANGE (i : Nat) : Fld := ⟨0x7210 + 0x20 * i, 0, 1, .w1c, (.val 0), 6, .dom⟩
/-! PWM_CTRL: R101, Table 4.9 of chapter 04. -/
def PWM_CTRL_EN (i : Nat) : Fld := ⟨0x8000 + 0x400 * i, 31, 1, .rw, .draft, 6, .dom⟩
def PWM_CTRL_MODE (i : Nat) : Fld := ⟨0x8000 + 0x400 * i, 28, 3, .rw, .draft, 6, .dom⟩
def PWM_CTRL_BMODE (i : Nat) : Fld := ⟨0x8000 + 0x400 * i, 27, 1, .rw, .draft, 6, .dom⟩
def PWM_CTRL_UPDMODE (i : Nat) : Fld := ⟨0x8000 + 0x400 * i, 26, 1, .rw, .draft, 6, .dom⟩
def PWM_CTRL_SHHOLD (i : Nat) : Fld := ⟨0x8000 + 0x400 * i, 25, 1, .rw, (.val 0), 6, .dom⟩
def PWM_CTRL_SHPEAK (i : Nat) : Fld := ⟨0x8000 + 0x400 * i, 24, 1, .rw, .draft, 6, .dom⟩
def PWM_CTRL_SYNCSRC (i : Nat) : Fld := ⟨0x8000 + 0x400 * i, 22, 2, .rw, .draft, 6, .dom⟩
def PWM_CTRL_MASTER (i : Nat) : Fld := ⟨0x8000 + 0x400 * i, 16, 4, .rw, .draft, 6, .dom⟩
def PWM_CTRL_GSARM (i : Nat) : Fld := ⟨0x8000 + 0x400 * i, 15, 1, .rw, .draft, 6, .dom⟩
def PWM_CTRL_PRESC (i : Nat) : Fld := ⟨0x8000 + 0x400 * i, 8, 4, .rw, .draft, 6, .dom⟩
def PWM_CTRL_CTCMP (i : Nat) : Fld := ⟨0x8000 + 0x400 * i, 4, 4, .rw, .draft, 6, .dom⟩
/-! PWM_PER: R101, Table 4.9 of chapter 04. -/
def PWM_PER (i : Nat) : Fld := ⟨0x8004 + 0x400 * i, 0, 21, .rw, .draft, 6, .dom⟩
/-! PWM_CMPA: R101, Table 4.9 of chapter 04. -/
def PWM_CMPA (i : Nat) : Fld := ⟨0x8008 + 0x400 * i, 0, 21, .rw, .draft, 6, .dom⟩
/-! PWM_CMPB: R101, Table 4.9 of chapter 04. -/
def PWM_CMPB (i : Nat) : Fld := ⟨0x800c + 0x400 * i, 0, 21, .rw, .draft, 6, .dom⟩
/-! PWM_PHASE: R101, Table 4.9 of chapter 04. -/
def PWM_PHASE (i : Nat) : Fld := ⟨0x8010 + 0x400 * i, 0, 21, .rw, .draft, 6, .dom⟩
/-! PWM_DTR: R101, Table 4.9 of chapter 04. -/
def PWM_DTR (i : Nat) : Fld := ⟨0x8014 + 0x400 * i, 0, 17, .rw, .draft, 6, .dom⟩
/-! PWM_DTF: R101, Table 4.9 of chapter 04. -/
def PWM_DTF (i : Nat) : Fld := ⟨0x8018 + 0x400 * i, 0, 17, .rw, .draft, 6, .dom⟩
/-! PWM_TRG: R101, Table 4.9 of chapter 04. -/
def PWM_TRG_TRG1 (i : Nat) : Fld := ⟨0x801c + 0x400 * i, 16, 16, .rw, .draft, 6, .dom⟩
def PWM_TRG_TRG0 (i : Nat) : Fld := ⟨0x801c + 0x400 * i, 0, 16, .rw, .draft, 6, .dom⟩
/-! PWM_TRGCFG: R101, Table 4.9 of chapter 04. -/
def PWM_TRGCFG_TRG1DIR (i : Nat) : Fld := ⟨0x8020 + 0x400 * i, 2, 2, .rw, .draft, 6, .dom⟩
def PWM_TRGCFG_TRG0DIR (i : Nat) : Fld := ⟨0x8020 + 0x400 * i, 0, 2, .rw, .draft, 6, .dom⟩
/-! PWM_BURST: R101, Table 4.9 of chapter 04. -/
def PWM_BURST_BOFF (i : Nat) : Fld := ⟨0x8024 + 0x400 * i, 8, 8, .rw, .draft, 6, .dom⟩
def PWM_BURST_BON (i : Nat) : Fld := ⟨0x8024 + 0x400 * i, 0, 8, .rw, .draft, 6, .dom⟩
/-! PWM_SKIPMIN: R101, Table 4.9 of chapter 04. -/
def PWM_SKIPMIN (i : Nat) : Fld := ⟨0x8028 + 0x400 * i, 0, 21, .rw, .draft, 6, .dom⟩
/-! PWM_SAFE: R101, Table 4.9 of chapter 04. -/
def PWM_SAFE_POLB (i : Nat) : Fld := ⟨0x802c + 0x400 * i, 13, 1, .ro, .fuse, 6, .dom⟩
def PWM_SAFE_POLA (i : Nat) : Fld := ⟨0x802c + 0x400 * i, 12, 1, .ro, .fuse, 6, .dom⟩
def PWM_SAFE_EFFB (i : Nat) : Fld := ⟨0x802c + 0x400 * i, 10, 2, .ro, .fuse, 6, .dom⟩
def PWM_SAFE_EFFA (i : Nat) : Fld := ⟨0x802c + 0x400 * i, 8, 2, .ro, .fuse, 6, .dom⟩
def PWM_SAFE_FUSEB (i : Nat) : Fld := ⟨0x802c + 0x400 * i, 6, 2, .ro, .fuse, 6, .dom⟩
def PWM_SAFE_FUSEA (i : Nat) : Fld := ⟨0x802c + 0x400 * i, 4, 2, .ro, .fuse, 6, .dom⟩
def PWM_SAFE_SAFEB (i : Nat) : Fld := ⟨0x802c + 0x400 * i, 2, 2, .rw, .draft, 6, .dom⟩
def PWM_SAFE_SAFEA (i : Nat) : Fld := ⟨0x802c + 0x400 * i, 0, 2, .rw, .draft, 6, .dom⟩
/-! PWM_ADT: R101, Table 4.9 of chapter 04. -/
def PWM_ADT_EN (i : Nat) : Fld := ⟨0x8030 + 0x400 * i, 31, 1, .rw, .draft, 6, .dom⟩
def PWM_ADT_FRZ (i : Nat) : Fld := ⟨0x8030 + 0x400 * i, 30, 1, .rw, .draft, 6, .dom⟩
def PWM_ADT_OWNER (i : Nat) : Fld := ⟨0x8030 + 0x400 * i, 24, 4, .rw, .draft, 6, .dom⟩
def PWM_ADT_CMP (i : Nat) : Fld := ⟨0x8030 + 0x400 * i, 20, 4, .rw, .draft, 6, .dom⟩
def PWM_ADT_STEP (i : Nat) : Fld := ⟨0x8030 + 0x400 * i, 8, 8, .rw, .draft, 6, .dom⟩
def PWM_ADT_MARGIN (i : Nat) : Fld := ⟨0x8030 + 0x400 * i, 0, 4, .rw, .draft, 6, .dom⟩
/-! PWM_ADTMIN: R101, Table 4.9 of chapter 04. -/
def PWM_ADTMIN (i : Nat) : Fld := ⟨0x8034 + 0x400 * i, 0, 17, .rw, .draft, 6, .dom⟩
/-! PWM_ADTMAX: R101, Table 4.9 of chapter 04. -/
def PWM_ADTMAX (i : Nat) : Fld := ⟨0x8038 + 0x400 * i, 0, 17, .rw, .draft, 6, .dom⟩
/-! PWM_LIMIT: R101, Table 4.9 of chapter 04. -/
def PWM_LIMIT_VSMAX (i : Nat) : Fld := ⟨0x8040 + 0x400 * i, 16, 16, .ro, .fuse, 6, .dom⟩
def PWM_LIMIT_VSSLOT (i : Nat) : Fld := ⟨0x8040 + 0x400 * i, 8, 5, .once, .draft, 6, .dom⟩
def PWM_LIMIT_DMAX (i : Nat) : Fld := ⟨0x8040 + 0x400 * i, 0, 8, .ro, .fuse, 6, .dom⟩
/-! PWM_CNT: R101, Table 4.9 of chapter 04. -/
def PWM_CNT_DOWN (i : Nat) : Fld := ⟨0x8044 + 0x400 * i, 16, 1, .ro, (.val 0), 6, .dom⟩
def PWM_CNT_CNT (i : Nat) : Fld := ⟨0x8044 + 0x400 * i, 0, 16, .ro, (.val 0), 6, .dom⟩
/-! PWM_STAT: R101, Table 4.9 of chapter 04. -/
def PWM_STAT_CFGERR (i : Nat) : Fld := ⟨0x8048 + 0x400 * i, 7, 1, .w1c, (.val 0), 6, .dom⟩
def PWM_STAT_ADTMISS (i : Nat) : Fld := ⟨0x8048 + 0x400 * i, 6, 1, .w1c, (.val 0), 6, .dom⟩
def PWM_STAT_FCLAMP (i : Nat) : Fld := ⟨0x8048 + 0x400 * i, 5, 1, .w1c, (.val 0), 6, .dom⟩
def PWM_STAT_DEFER (i : Nat) : Fld := ⟨0x8048 + 0x400 * i, 4, 1, .w1c, (.val 0), 6, .dom⟩
def PWM_STAT_SKIP (i : Nat) : Fld := ⟨0x8048 + 0x400 * i, 3, 1, .ro, (.val 0), 6, .dom⟩
def PWM_STAT_SHED (i : Nat) : Fld := ⟨0x8048 + 0x400 * i, 2, 1, .ro, (.val 0), 6, .dom⟩
def PWM_STAT_TRIPPED (i : Nat) : Fld := ⟨0x8048 + 0x400 * i, 1, 1, .ro, (.val 0), 6, .dom⟩
def PWM_STAT_GSWAIT (i : Nat) : Fld := ⟨0x8048 + 0x400 * i, 0, 1, .ro, (.val 0), 6, .dom⟩
/-! PWM_DEFERCNT: R101, Table 4.9 of chapter 04. -/
def PWM_DEFERCNT (i : Nat) : Fld := ⟨0x804c + 0x400 * i, 0, 16, .rw, (.val 0), 6, .dom⟩
/-! PWM_IE: R101, Table 4.9 of chapter 04. -/
def PWM_IE_CMPBIE (i : Nat) : Fld := ⟨0x8050 + 0x400 * i, 2, 1, .rw, .draft, 6, .dom⟩
def PWM_IE_CMPAIE (i : Nat) : Fld := ⟨0x8050 + 0x400 * i, 1, 1, .rw, .draft, 6, .dom⟩
def PWM_IE_PERIE (i : Nat) : Fld := ⟨0x8050 + 0x400 * i, 0, 1, .rw, .draft, 6, .dom⟩
/-! PWM_PERNOW: R101, Table 4.9 of chapter 04. -/
def PWM_PERNOW (i : Nat) : Fld := ⟨0x8060 + 0x400 * i, 0, 21, .ro, (.val 0), 6, .dom⟩
/-! PWM_CMPANOW: R101, Table 4.9 of chapter 04. -/
def PWM_CMPANOW (i : Nat) : Fld := ⟨0x8064 + 0x400 * i, 0, 21, .ro, (.val 0), 6, .dom⟩
/-! PWM_CMPBNOW: R101, Table 4.9 of chapter 04. -/
def PWM_CMPBNOW (i : Nat) : Fld := ⟨0x8068 + 0x400 * i, 0, 21, .ro, (.val 0), 6, .dom⟩
/-! PWM_PHASENOW: R101, Table 4.9 of chapter 04. -/
def PWM_PHASENOW (i : Nat) : Fld := ⟨0x806c + 0x400 * i, 0, 21, .ro, (.val 0), 6, .dom⟩
/-! PWM_DTRNOW: R101, Table 4.9 of chapter 04. -/
def PWM_DTRNOW (i : Nat) : Fld := ⟨0x8070 + 0x400 * i, 0, 21, .ro, (.val 0), 6, .dom⟩
/-! PWM_DTFNOW: R101, Table 4.9 of chapter 04. -/
def PWM_DTFNOW (i : Nat) : Fld := ⟨0x8074 + 0x400 * i, 0, 21, .ro, (.val 0), 6, .dom⟩
/-! TRP_TZCFG: R102, Table 4.10 of chapter 04. -/
def TRP_TZCFG_POL : Fld := ⟨0xb000, 16, 14, .rw, .draft, 6, .dom⟩
def TRP_TZCFG_GTZEN : Fld := ⟨0xb000, 0, 8, .rw, .draft, 6, .dom⟩
/-! TRP_MAP: R102, Table 4.10 of chapter 04. -/
def TRP_MAP_SW (i : Nat) : Fld := ⟨0xb010 + 0x4 * i, 30, 1, .rw, .draft, 6, .dom⟩
def TRP_MAP_TZ (i : Nat) : Fld := ⟨0xb010 + 0x4 * i, 16, 14, .rw, .draft, 6, .dom⟩
def TRP_MAP_CMP (i : Nat) : Fld := ⟨0xb010 + 0x4 * i, 0, 16, .rw, .draft, 6, .dom⟩
/-! TRP_CFG: R102, Table 4.10 of chapter 04. -/
def TRP_CFG_TRIPIE (i : Nat) : Fld := ⟨0xb040 + 0x4 * i, 1, 1, .rw, .draft, 6, .dom⟩
def TRP_CFG_LATCH (i : Nat) : Fld := ⟨0xb040 + 0x4 * i, 0, 1, .rw, .draft, 6, .dom⟩
/-! TRP_STAT: R102, Table 4.10 of chapter 04. -/
def TRP_STAT_CLR (i : Nat) : Fld := ⟨0xb070 + 0x4 * i, 31, 1, .wo, (.val 0), 6, .dom⟩
def TRP_STAT_TRIPPED (i : Nat) : Fld := ⟨0xb070 + 0x4 * i, 16, 1, .ro, (.val 0), 6, .dom⟩
def TRP_STAT_CAUSE (i : Nat) : Fld := ⟨0xb070 + 0x4 * i, 0, 6, .ro, (.val 63), 6, .dom⟩
/-! TRP_SWTRIP: R102, Table 4.10 of chapter 04. -/
def TRP_SWTRIP_SWCLR : Fld := ⟨0xb0a0, 16, 12, .wo, (.val 0), 6, .dom⟩
def TRP_SWTRIP_SWSET : Fld := ⟨0xb0a0, 0, 12, .wo, (.val 0), 6, .dom⟩
/-! EGV_CFG: R121, Table 5.4 of chapter 05. -/
def EGV_CFG_EN : Fld := ⟨0x10000, 31, 1, .once, .draft, 6, .dom⟩
def EGV_CFG_CHLANE : Fld := ⟨0x10000, 24, 4, .once, .draft, 6, .dom⟩
def EGV_CFG_BLDPAIR : Fld := ⟨0x10000, 20, 4, .once, .draft, 6, .dom⟩
def EGV_CFG_BLDLY : Fld := ⟨0x10000, 12, 8, .once, .draft, 6, .dom⟩
def EGV_CFG_VSLOT : Fld := ⟨0x10000, 0, 5, .once, .draft, 6, .dom⟩
/-! EGV_CHGMAP: R121, Table 5.4 of chapter 05. -/
def EGV_CHGMAP : Fld := ⟨0x10004, 0, 12, .once, .draft, 6, .dom⟩
/-! EGV_LOADMAP: R121, Table 5.4 of chapter 05. -/
def EGV_LOADMAP : Fld := ⟨0x10008, 0, 12, .once, .draft, 6, .dom⟩
/-! EGV_FCAP: R121, Table 5.4 of chapter 05. -/
def EGV_FCAP : Fld := ⟨0x10010, 0, 20, .ro, .fuse, 6, .dom⟩
/-! EGV_FLIM: R121, Table 5.4 of chapter 05. -/
def EGV_FLIM_EMAX : Fld := ⟨0x10014, 16, 12, .ro, .fuse, 6, .dom⟩
def EGV_FLIM_EZMIN : Fld := ⟨0x10014, 0, 12, .ro, .fuse, 6, .dom⟩
/-! EGV_FREL: R121, Table 5.4 of chapter 05. -/
def EGV_FREL_RMAX : Fld := ⟨0x10018, 16, 12, .ro, .fuse, 6, .dom⟩
def EGV_FREL_VAIN : Fld := ⟨0x10018, 8, 5, .ro, .fuse, 6, .dom⟩
def EGV_FREL_MESHEMAX : Fld := ⟨0x10018, 0, 6, .ro, .fuse, 6, .dom⟩
/-! EGV_FVSCALE: R121, Table 5.4 of chapter 05. -/
def EGV_FVSCALE : Fld := ⟨0x1001c, 0, 24, .ro, .fuse, 6, .dom⟩
/-! EGV_ECEIL: R121, Table 5.4 of chapter 05. -/
def EGV_ECEIL : Fld := ⟨0x10020, 0, 28, .rw, .draft, 6, .dom⟩
/-! EGV_EFLOOR: R121, Table 5.4 of chapter 05. -/
def EGV_EFLOOR : Fld := ⟨0x10024, 0, 28, .rw, .draft, 6, .dom⟩
/-! EGV_EHYS: R121, Table 5.4 of chapter 05. -/
def EGV_EHYS : Fld := ⟨0x10028, 0, 24, .rw, .draft, 6, .dom⟩
/-! EGV_RLIM: R121, Table 5.4 of chapter 05. -/
def EGV_RLIM : Fld := ⟨0x1002c, 0, 28, .rw, .draft, 6, .dom⟩
/-! EGV_EHI: R121, Table 5.4 of chapter 05. -/
def EGV_EHI : Fld := ⟨0x10030, 0, 28, .ro, (.val 0), 6, .dom⟩
/-! EGV_ELO: R121, Table 5.4 of chapter 05. -/
def EGV_ELO : Fld := ⟨0x10034, 0, 28, .ro, (.val 0), 6, .dom⟩
/-! EGV_CMEAS: R121, Table 5.4 of chapter 05. -/
def EGV_CMEAS : Fld := ⟨0x10038, 0, 20, .ro, (.val 0), 0, .aon⟩
/-! EGV_CMCFG: R121, Table 5.4 of chapter 05. -/
def EGV_CMCFG_EN : Fld := ⟨0x1003c, 31, 1, .rw, .draft, 6, .dom⟩
def EGV_CMCFG_CMSLOT : Fld := ⟨0x1003c, 24, 5, .rw, .draft, 6, .dom⟩
def EGV_CMCFG_VB : Fld := ⟨0x1003c, 12, 12, .rw, .draft, 6, .dom⟩
def EGV_CMCFG_VA : Fld := ⟨0x1003c, 0, 12, .rw, .draft, 6, .dom⟩
/-! EGV_QSCALE: R121, Table 5.4 of chapter 05. -/
def EGV_QSCALE : Fld := ⟨0x10040, 0, 24, .rw, .draft, 6, .dom⟩
/-! EGV_REL: R121, Table 5.4 of chapter 05. -/
def EGV_REL : Fld := ⟨0x10044, 0, 28, .ro, (.val 0), 6, .dom⟩
/-! EGV_STAT: R121, Table 5.4 of chapter 05. -/
def EGV_STAT_LVLERR : Fld := ⟨0x10048, 18, 1, .ro, (.val 0), 6, .dom⟩
def EGV_STAT_LIMERR : Fld := ⟨0x10048, 17, 1, .ro, (.val 0), 6, .dom⟩
def EGV_STAT_LQ : Fld := ⟨0x10048, 16, 1, .ro, (.val 0), 6, .dom⟩
def EGV_STAT_MEASFAIL : Fld := ⟨0x10048, 15, 1, .ro, (.val 0), 6, .dom⟩
def EGV_STAT_FLOOROVR : Fld := ⟨0x10048, 14, 1, .ro, (.val 0), 6, .dom⟩
def EGV_STAT_BLEED : Fld := ⟨0x10048, 13, 1, .ro, (.val 0), 6, .dom⟩
def EGV_STAT_INHIB : Fld := ⟨0x10048, 12, 1, .ro, (.val 0), 6, .dom⟩
def EGV_STAT_TRIPPED : Fld := ⟨0x10048, 11, 1, .ro, (.val 0), 6, .dom⟩
def EGV_STAT_CMDONE : Fld := ⟨0x10048, 8, 1, .w1c, (.val 0), 6, .dom⟩
def EGV_STAT_CMSKIP : Fld := ⟨0x10048, 7, 1, .w1c, (.val 0), 6, .dom⟩
def EGV_STAT_BSVC : Fld := ⟨0x10048, 6, 1, .w1c, (.val 0), 6, .dom⟩
def EGV_STAT_RELTRIP : Fld := ⟨0x10048, 5, 1, .w1c, (.val 0), 6, .dom⟩
def EGV_STAT_FLRTRIP : Fld := ⟨0x10048, 4, 1, .w1c, (.val 0), 6, .dom⟩
def EGV_STAT_CEILTRIP : Fld := ⟨0x10048, 3, 1, .w1c, (.val 0), 6, .dom⟩
def EGV_STAT_LQDROP : Fld := ⟨0x10048, 2, 1, .w1c, (.val 0), 6, .dom⟩
def EGV_STAT_FLOOR : Fld := ⟨0x10048, 1, 1, .w1c, (.val 0), 6, .dom⟩
def EGV_STAT_CEIL : Fld := ⟨0x10048, 0, 1, .w1c, (.val 0), 6, .dom⟩
/-! EGV_LQCNT: R121, Table 5.4 of chapter 05. -/
def EGV_LQCNT : Fld := ⟨0x1004c, 0, 16, .rw, (.val 0), 6, .dom⟩
/-! EGV_LVLCFG: R121, Table 5.4 of chapter 05. -/
def EGV_LVLCFG_EN : Fld := ⟨0x10050, 31, 1, .rw, .draft, 6, .dom⟩
def EGV_LVLCFG_LANE : Fld := ⟨0x10050, 24, 4, .rw, .draft, 6, .dom⟩
def EGV_LVLCFG_TAUSEL : Fld := ⟨0x10050, 16, 3, .rw, .draft, 6, .dom⟩
/-! EGV_LVLSET: R121, Table 5.4 of chapter 05. -/
def EGV_LVLSET : Fld := ⟨0x10054, 0, 28, .rw, .draft, 6, .dom⟩
/-! EGV_LVLWGAIN: R121, Table 5.4 of chapter 05. -/
def EGV_LVLWGAIN : Fld := ⟨0x10058, 0, 24, .rw, .draft, 6, .dom⟩
/-! EGV_LVLRMIN: R121, Table 5.4 of chapter 05. -/
def EGV_LVLRMIN : Fld := ⟨0x1005c, 0, 24, .rw, .draft, 6, .dom⟩
/-! EGV_LVLRMAX: R121, Table 5.4 of chapter 05. -/
def EGV_LVLRMAX : Fld := ⟨0x10060, 0, 24, .rw, .draft, 6, .dom⟩
/-! EGV_LVLSLEW: R121, Table 5.4 of chapter 05. -/
def EGV_LVLSLEW : Fld := ⟨0x10064, 0, 23, .rw, .draft, 6, .dom⟩
/-! EGV_LVLFLM: R121, Table 5.4 of chapter 05. -/
def EGV_LVLFLM : Fld := ⟨0x10068, 0, 24, .rw, .draft, 6, .dom⟩
/-! EGV_LVLREF: R121, Table 5.4 of chapter 05. -/
def EGV_LVLREF : Fld := ⟨0x1006c, 0, 24, .ro, (.val 0), 6, .dom⟩
/-! EGV_LVLP: R121, Table 5.4 of chapter 05. -/
def EGV_LVLP : Fld := ⟨0x10070, 0, 32, .ro, (.val 0), 6, .dom⟩
/-! EGV_LVLM: R121, Table 5.4 of chapter 05. -/
def EGV_LVLM : Fld := ⟨0x10074, 0, 32, .ro, (.val 0), 6, .dom⟩
/-! TMR_CTRL: R140, Table 6.2 of chapter 06. -/
def TMR_CTRL_EN (i : Nat) : Fld := ⟨0x6000 + 0x40 * i, 31, 1, .rw, .draft, 6, .dom⟩
def TMR_CTRL_GSARM (i : Nat) : Fld := ⟨0x6000 + 0x40 * i, 30, 1, .rw, .draft, 6, .dom⟩
def TMR_CTRL_MODE (i : Nat) : Fld := ⟨0x6000 + 0x40 * i, 28, 2, .rw, .draft, 6, .dom⟩
def TMR_CTRL_SHADOW (i : Nat) : Fld := ⟨0x6000 + 0x40 * i, 27, 1, .rw, .draft, 6, .dom⟩
def TMR_CTRL_DBGFRZ (i : Nat) : Fld := ⟨0x6000 + 0x40 * i, 26, 1, .rw, .draft, 6, .dom⟩
def TMR_CTRL_EVSEL (i : Nat) : Fld := ⟨0x6000 + 0x40 * i, 24, 2, .rw, .draft, 6, .dom⟩
def TMR_CTRL_PSC (i : Nat) : Fld := ⟨0x6000 + 0x40 * i, 16, 8, .rw, .draft, 6, .dom⟩
def TMR_CTRL_FILT (i : Nat) : Fld := ⟨0x6000 + 0x40 * i, 12, 4, .rw, .draft, 6, .dom⟩
def TMR_CTRL_CAPEDGE (i : Nat) : Fld := ⟨0x6000 + 0x40 * i, 10, 2, .rw, .draft, 6, .dom⟩
def TMR_CTRL_CAPCLR (i : Nat) : Fld := ⟨0x6000 + 0x40 * i, 9, 1, .rw, .draft, 6, .dom⟩
def TMR_CTRL_DIR (i : Nat) : Fld := ⟨0x6000 + 0x40 * i, 8, 1, .rw, .draft, 6, .dom⟩
def TMR_CTRL_IE (i : Nat) : Fld := ⟨0x6000 + 0x40 * i, 0, 4, .rw, .draft, 6, .dom⟩
/-! TMR_CNT: R140, Table 6.2 of chapter 06. -/
def TMR_CNT (i : Nat) : Fld := ⟨0x6004 + 0x40 * i, 0, 32, .rw, (.val 0), 6, .dom⟩
/-! TMR_TOP: R140, Table 6.2 of chapter 06. -/
def TMR_TOP (i : Nat) : Fld := ⟨0x6008 + 0x40 * i, 0, 32, .rw, .draft, 6, .dom⟩
/-! TMR_CMPA: R140, Table 6.2 of chapter 06. -/
def TMR_CMPA (i : Nat) : Fld := ⟨0x600c + 0x40 * i, 0, 32, .rw, .draft, 6, .dom⟩
/-! TMR_CMPB: R140, Table 6.2 of chapter 06. -/
def TMR_CMPB (i : Nat) : Fld := ⟨0x6010 + 0x40 * i, 0, 32, .rw, .draft, 6, .dom⟩
/-! TMR_START: R140, Table 6.2 of chapter 06. -/
def TMR_START (i : Nat) : Fld := ⟨0x6014 + 0x40 * i, 0, 32, .rw, .draft, 6, .dom⟩
/-! TMR_CAP: R140, Table 6.2 of chapter 06. -/
def TMR_CAP (i : Nat) : Fld := ⟨0x6018 + 0x40 * i, 0, 32, .rs, (.val 0), 6, .dom⟩
/-! TMR_CAPTB_LO: R140, Table 6.2 of chapter 06. -/
def TMR_CAPTB_LO (i : Nat) : Fld := ⟨0x601c + 0x40 * i, 0, 32, .rs, (.val 0), 6, .dom⟩
/-! TMR_CAPTB_HI: R140, Table 6.2 of chapter 06. -/
def TMR_CAPTB_HI (i : Nat) : Fld := ⟨0x6020 + 0x40 * i, 0, 32, .ro, (.val 0), 6, .dom⟩
/-! TMR_STAT: R140, Table 6.2 of chapter 06. -/
def TMR_STAT_DONE (i : Nat) : Fld := ⟨0x6024 + 0x40 * i, 10, 1, .w1c, (.val 0), 6, .dom⟩
def TMR_STAT_GSWAIT (i : Nat) : Fld := ⟨0x6024 + 0x40 * i, 9, 1, .ro, (.val 0), 6, .dom⟩
def TMR_STAT_PINLVL (i : Nat) : Fld := ⟨0x6024 + 0x40 * i, 8, 1, .ro, (.val 0), 6, .dom⟩
def TMR_STAT_CAPOVR (i : Nat) : Fld := ⟨0x6024 + 0x40 * i, 5, 1, .w1c, (.val 0), 6, .dom⟩
def TMR_STAT_CAPNEW (i : Nat) : Fld := ⟨0x6024 + 0x40 * i, 4, 1, .ro, (.val 0), 6, .dom⟩
def TMR_STAT_CAP (i : Nat) : Fld := ⟨0x6024 + 0x40 * i, 3, 1, .w1c, (.val 0), 6, .dom⟩
def TMR_STAT_OVF (i : Nat) : Fld := ⟨0x6024 + 0x40 * i, 2, 1, .w1c, (.val 0), 6, .dom⟩
def TMR_STAT_CMPB (i : Nat) : Fld := ⟨0x6024 + 0x40 * i, 1, 1, .w1c, (.val 0), 6, .dom⟩
def TMR_STAT_CMPA (i : Nat) : Fld := ⟨0x6024 + 0x40 * i, 0, 1, .w1c, (.val 0), 6, .dom⟩
/-! TMR_PIN: R140, Table 6.2 of chapter 06. -/
def TMR_PIN_FORCE (i : Nat) : Fld := ⟨0x6028 + 0x40 * i, 16, 3, .wo, (.val 0), 6, .dom⟩
def TMR_PIN_IDLE (i : Nat) : Fld := ⟨0x6028 + 0x40 * i, 14, 1, .rw, .draft, 6, .dom⟩
def TMR_PIN_INIT (i : Nat) : Fld := ⟨0x6028 + 0x40 * i, 13, 1, .rw, .draft, 6, .dom⟩
def TMR_PIN_ACTO (i : Nat) : Fld := ⟨0x6028 + 0x40 * i, 8, 3, .rw, .draft, 6, .dom⟩
def TMR_PIN_ACTB (i : Nat) : Fld := ⟨0x6028 + 0x40 * i, 4, 3, .rw, .draft, 6, .dom⟩
def TMR_PIN_ACTA (i : Nat) : Fld := ⟨0x6028 + 0x40 * i, 0, 3, .rw, .draft, 6, .dom⟩
/-! TB_LO: R141, Table 6.3 of chapter 06. -/
def TB_LO : Fld := ⟨0x6800, 0, 32, .rs, (.val 0), 9, .dom⟩
/-! TB_HI: R141, Table 6.3 of chapter 06. -/
def TB_HI : Fld := ⟨0x6804, 0, 32, .ro, (.val 0), 9, .dom⟩
/-! TB_STAT: R141, Table 6.3 of chapter 06. -/
def TB_STAT : Fld := ⟨0x6808, 0, 1, .w1c, (.val 0), 9, .dom⟩
/-! TMR_GSTART: R141, Table 6.3 of chapter 06. -/
def TMR_GSTART_REL : Fld := ⟨0x6810, 10, 1, .w1c, (.val 0), 6, .dom⟩
def TMR_GSTART_LATE : Fld := ⟨0x6810, 9, 1, .w1c, (.val 0), 6, .dom⟩
def TMR_GSTART_PEND : Fld := ⟨0x6810, 8, 1, .ro, (.val 0), 6, .dom⟩
def TMR_GSTART_CANCEL : Fld := ⟨0x6810, 2, 1, .wo, (.val 0), 6, .dom⟩
def TMR_GSTART_ARMAT : Fld := ⟨0x6810, 1, 1, .wo, (.val 0), 6, .dom⟩
def TMR_GSTART_GO : Fld := ⟨0x6810, 0, 1, .wo, (.val 0), 6, .dom⟩
/-! TMR_GSPICK_LO: R141, Table 6.3 of chapter 06. -/
def TMR_GSPICK_LO : Fld := ⟨0x6814, 0, 32, .rw, (.val 0), 6, .dom⟩
/-! TMR_GSPICK_HI: R141, Table 6.3 of chapter 06. -/
def TMR_GSPICK_HI : Fld := ⟨0x6818, 0, 32, .rw, (.val 0), 6, .dom⟩
/-! STG_CFG: R141, Table 6.3 of chapter 06. -/
def STG_CFG_LOAD (i : Nat) : Fld := ⟨0x6900 + 0x10 * i, 31, 1, .wo, (.val 0), 6, .dom⟩
def STG_CFG_TYPE (i : Nat) : Fld := ⟨0x6900 + 0x10 * i, 30, 1, .rw, .draft, 6, .dom⟩
def STG_CFG_AUTO (i : Nat) : Fld := ⟨0x6900 + 0x10 * i, 29, 1, .rw, .draft, 6, .dom⟩
def STG_CFG_MEMB (i : Nat) : Fld := ⟨0x6900 + 0x10 * i, 0, 16, .rw, .draft, 6, .dom⟩
/-! STG_STAT: R141, Table 6.3 of chapter 06. -/
def STG_STAT_N (i : Nat) : Fld := ⟨0x6904 + 0x10 * i, 16, 5, .ro, (.val 0), 6, .dom⟩
def STG_STAT_CFGERR (i : Nat) : Fld := ⟨0x6904 + 0x10 * i, 1, 1, .w1c, (.val 0), 6, .dom⟩
def STG_STAT_LOADED (i : Nat) : Fld := ⟨0x6904 + 0x10 * i, 0, 1, .ro, (.val 0), 6, .dom⟩
/-! WRP_CFG: R163, Table 7.5 of chapter 07. -/
def WRP_CFG_EN : Fld := ⟨0x11000, 31, 1, .rw, .draft, 9, .dom⟩
def WRP_CFG_ROLE : Fld := ⟨0x11000, 30, 1, .once, .draft, 9, .dom⟩
def WRP_CFG_RRSTEN : Fld := ⟨0x11000, 29, 1, .once, .draft, 9, .dom⟩
/-! WRP_ID: R163, Table 7.5 of chapter 07. -/
def WRP_ID_VALID : Fld := ⟨0x11004, 16, 1, .ro, (.val 0), 9, .dom⟩
def WRP_ID_ID : Fld := ⟨0x11004, 0, 8, .ro, (.val 0), 9, .dom⟩
/-! WRP_STAT: R163, Table 7.5 of chapter 07. -/
def WRP_STAT_TIMELOCK : Fld := ⟨0x11008, 15, 1, .ro, (.val 0), 9, .dom⟩
def WRP_STAT_TIME_LOST : Fld := ⟨0x11008, 14, 1, .ro, (.val 0), 9, .dom⟩
def WRP_STAT_LINKDOWN : Fld := ⟨0x11008, 13, 1, .ro, (.val 0), 9, .dom⟩
def WRP_STAT_RINGOPEN : Fld := ⟨0x11008, 12, 1, .ro, (.val 0), 9, .dom⟩
def WRP_STAT_BYPASS : Fld := ⟨0x11008, 11, 1, .ro, (.val 0), 9, .dom⟩
def WRP_STAT_NOID : Fld := ⟨0x11008, 10, 1, .ro, (.val 0), 9, .dom⟩
def WRP_STAT_TOOMANY : Fld := ⟨0x11008, 9, 1, .ro, (.val 0), 9, .dom⟩
def WRP_STAT_LONG : Fld := ⟨0x11008, 8, 1, .ro, (.val 0), 9, .dom⟩
def WRP_STAT_CALFAIL : Fld := ⟨0x11008, 6, 1, .w1c, (.val 0), 9, .dom⟩
def WRP_STAT_DUALM : Fld := ⟨0x11008, 5, 1, .w1c, (.val 0), 9, .dom⟩
def WRP_STAT_IDCHG : Fld := ⟨0x11008, 4, 1, .w1c, (.val 0), 9, .dom⟩
def WRP_STAT_SLOTERR : Fld := ⟨0x11008, 3, 1, .w1c, (.val 0), 9, .dom⟩
def WRP_STAT_SLOTLD : Fld := ⟨0x11008, 2, 1, .w1c, (.val 0), 9, .dom⟩
def WRP_STAT_GSOVF : Fld := ⟨0x11008, 1, 1, .w1c, (.val 0), 9, .dom⟩
def WRP_STAT_GSARMED : Fld := ⟨0x11008, 0, 1, .ro, (.val 0), 9, .dom⟩
/-! WRP_NODES: R163, Table 7.5 of chapter 07. -/
def WRP_NODES : Fld := ⟨0x1100c, 0, 9, .ro, (.val 0), 9, .dom⟩
/-! WRP_LINKTRIM: R163, Table 7.5 of chapter 07. -/
def WRP_LINKTRIM : Fld := ⟨0x11010, 0, 16, .rw, .draft, 9, .dom⟩
/-! WRP_FWD: R163, Table 7.5 of chapter 07. -/
def WRP_FWD : Fld := ⟨0x11014, 0, 32, .ro, (.val 0), 9, .dom⟩
/-! WRP_DELAY: R163, Table 7.5 of chapter 07. -/
def WRP_DELAY : Fld := ⟨0x11018, 0, 32, .ro, (.val 0), 9, .dom⟩
/-! WRP_LBAR: R163, Table 7.5 of chapter 07. -/
def WRP_LBAR : Fld := ⟨0x1101c, 0, 32, .ro, (.val 0), 9, .dom⟩
/-! WRP_RTT: R163, Table 7.5 of chapter 07. -/
def WRP_RTT : Fld := ⟨0x11020, 0, 32, .ro, (.val 0), 9, .dom⟩
/-! WRP_PHERR: R163, Table 7.5 of chapter 07. -/
def WRP_PHERR : Fld := ⟨0x11024, 0, 16, .ro, (.val 0), 9, .dom⟩
/-! WRP_SLOT: R163, Table 7.5 of chapter 07. -/
def WRP_SLOT_LOAD : Fld := ⟨0x11028, 31, 1, .wo, (.val 0), 9, .dom⟩
def WRP_SLOT_N : Fld := ⟨0x11028, 16, 9, .rw, .draft, 9, .dom⟩
def WRP_SLOT_K : Fld := ⟨0x11028, 0, 8, .rw, .draft, 9, .dom⟩
/-! WRP_SLOTPAIRS: R163, Table 7.5 of chapter 07. -/
def WRP_SLOTPAIRS : Fld := ⟨0x1102c, 0, 12, .rw, .draft, 9, .dom⟩
/-! WRP_GSMASK: R163, Table 7.5 of chapter 07. -/
def WRP_GSMASK : Fld := ⟨0x11030, 0, 16, .rw, .draft, 9, .dom⟩
/-! WRP_GSNEXT_LO: R163, Table 7.5 of chapter 07. -/
def WRP_GSNEXT_LO : Fld := ⟨0x11034, 0, 32, .rs, (.val 0), 9, .dom⟩
/-! WRP_GSNEXT_HI: R163, Table 7.5 of chapter 07. -/
def WRP_GSNEXT_HI : Fld := ⟨0x11038, 0, 32, .ro, (.val 0), 9, .dom⟩
/-! WRP_CRCCNT: R163, Table 7.5 of chapter 07. -/
def WRP_CRCCNT : Fld := ⟨0x1103c, 0, 16, .rw, (.val 0), 9, .dom⟩
/-! WRP_ORPHAN: R163, Table 7.5 of chapter 07. -/
def WRP_ORPHAN : Fld := ⟨0x11040, 0, 16, .rw, (.val 0), 9, .dom⟩
/-! WRP_TIMEERR: R163, Table 7.5 of chapter 07. -/
def WRP_TIMEERR : Fld := ⟨0x11044, 0, 16, .rw, (.val 0), 9, .dom⟩
/-! PLY_MODE: R189, Table 8.7 of chapter 08. -/
def PLY_MODE_FORCED : Fld := ⟨0x12000, 31, 1, .ro, .fuse, 0, .sys⟩
def PLY_MODE_TARGET : Fld := ⟨0x12000, 4, 2, .rw, .draft, 0, .sys⟩
def PLY_MODE_CUR : Fld := ⟨0x12000, 0, 2, .ro, .draft, 0, .sys⟩
/-! PLY_CFG: R189, Table 8.7 of chapter 08. -/
def PLY_CFG_UNREC : Fld := ⟨0x12004, 31, 1, .once, .draft, 0, .sys⟩
def PLY_CFG_BOOTMODE : Fld := ⟨0x12004, 28, 2, .ro, .draft, 0, .sys⟩
def PLY_CFG_RSTHR : Fld := ⟨0x12004, 8, 6, .rw, .draft, 0, .sys⟩
/-! PLY_STATUS: R189, Table 8.7 of chapter 08. -/
def PLY_STATUS_EXPOSED : Fld := ⟨0x12008, 15, 1, .ro, (.val 0), 0, .sys⟩
def PLY_STATUS_JOINING : Fld := ⟨0x12008, 14, 1, .ro, (.val 0), 0, .sys⟩
def PLY_STATUS_SPLITTING : Fld := ⟨0x12008, 13, 1, .ro, (.val 0), 0, .sys⟩
def PLY_STATUS_RESYNC : Fld := ⟨0x12008, 12, 1, .ro, (.val 0), 0, .sys⟩
def PLY_STATUS_ODD : Fld := ⟨0x12008, 10, 2, .ro, (.val 3), 0, .sys⟩
def PLY_STATUS_RETIRED : Fld := ⟨0x12008, 8, 2, .ro, (.val 3), 0, .sys⟩
def PLY_STATUS_WAITC : Fld := ⟨0x12008, 5, 1, .ro, (.val 0), 0, .sys⟩
def PLY_STATUS_WAITB : Fld := ⟨0x12008, 4, 1, .ro, (.val 0), 0, .sys⟩
def PLY_STATUS_HOERR : Fld := ⟨0x12008, 3, 1, .w1c, (.val 0), 0, .sys⟩
def PLY_STATUS_RSDONE : Fld := ⟨0x12008, 2, 1, .w1c, (.val 0), 0, .sys⟩
def PLY_STATUS_MISM : Fld := ⟨0x12008, 1, 1, .w1c, (.val 0), 0, .sys⟩
/-! PLY_BSTART: R189, Table 8.7 of chapter 08. -/
def PLY_BSTART : Fld := ⟨0x1200c, 2, 30, .rw, .draft, 0, .sys⟩
/-! PLY_CSTART: R189, Table 8.7 of chapter 08. -/
def PLY_CSTART : Fld := ⟨0x12010, 2, 30, .rw, .draft, 0, .sys⟩
/-! PLY_MISCLASS: R189, Table 8.7 of chapter 08. -/
def PLY_MISCLASS : Fld := ⟨0x12014, 0, 7, .ro, (.val 0), 0, .sys⟩
/-! PLY_RSCNT: R189, Table 8.7 of chapter 08. -/
def PLY_RSCNT_C : Fld := ⟨0x12018, 16, 8, .rw, (.val 0), 0, .sys⟩
def PLY_RSCNT_B : Fld := ⟨0x12018, 8, 8, .rw, (.val 0), 0, .sys⟩
def PLY_RSCNT_A : Fld := ⟨0x12018, 0, 8, .rw, (.val 0), 0, .sys⟩
/-! PLY_LASTRS_LO: R189, Table 8.7 of chapter 08. -/
def PLY_LASTRS_LO : Fld := ⟨0x1201c, 0, 32, .rs, (.val 0), 0, .sys⟩
/-! PLY_LASTRS_HI: R189, Table 8.7 of chapter 08. -/
def PLY_LASTRS_HI : Fld := ⟨0x12020, 0, 32, .ro, (.val 0), 0, .sys⟩
/-! PLY_SCRUB: R189, Table 8.7 of chapter 08. -/
def PLY_SCRUB_PASSES : Fld := ⟨0x12024, 16, 16, .rw, (.val 0), 0, .sys⟩
def PLY_SCRUB_FIXES : Fld := ⟨0x12024, 0, 16, .rw, (.val 0), 0, .sys⟩
/-! PLY_FAULT: R189, Table 8.7 of chapter 08. -/
def PLY_FAULT_CAUSE : Fld := ⟨0x12028, 28, 4, .ro, (.val 0), 0, .sys⟩
def PLY_FAULT_COUNT : Fld := ⟨0x12028, 0, 16, .rw, (.val 0), 0, .sys⟩
/-! PLY_WDT: R189, Table 8.7 of chapter 08. -/
def PLY_WDT_EN (i : Nat) : Fld := ⟨0x1202c + 0x4 * i, 31, 1, .rw, .draft, 0, .sys⟩
def PLY_WDT_TIMEOUT (i : Nat) : Fld := ⟨0x1202c + 0x4 * i, 0, 16, .rw, .draft, 0, .sys⟩
/-! PLY_WDKICK: R189, Table 8.7 of chapter 08. -/
def PLY_WDKICK : Fld := ⟨0x12038, 0, 32, .wo, (.val 0), 0, .sys⟩
/-! TIL_STAT: R249, Table 11.4 of chapter 11. -/
def TIL_STAT_USE : Fld := ⟨0x13000, 16, 8, .ro, (.val 0), 3, .dom⟩
def TIL_STAT_PROGV : Fld := ⟨0x13000, 8, 1, .ro, (.val 0), 3, .dom⟩
def TIL_STAT_DRNSAT : Fld := ⟨0x13000, 1, 1, .w1c, (.val 0), 3, .dom⟩
def TIL_STAT_ACCSAT : Fld := ⟨0x13000, 0, 1, .w1c, (.val 0), 3, .dom⟩
/-! TIL_ACCSATCNT: R249, Table 11.4 of chapter 11. -/
def TIL_ACCSATCNT : Fld := ⟨0x13004, 0, 16, .rw, (.val 0), 3, .dom⟩
/-! TIL_DRNSATCNT: R249, Table 11.4 of chapter 11. -/
def TIL_DRNSATCNT : Fld := ⟨0x13008, 0, 16, .rw, (.val 0), 3, .dom⟩
/-! TIL_MOVECNT: R249, Table 11.4 of chapter 11. -/
def TIL_MOVECNT_STOPS : Fld := ⟨0x1300c, 16, 16, .rw, (.val 0), 3, .dom⟩
def TIL_MOVECNT_RESUMES : Fld := ⟨0x1300c, 0, 16, .rw, (.val 0), 3, .dom⟩
/-! ICU_SRC: R267, Table 12.2 of chapter 12. -/
def ICU_SRC_EN (i : Nat) : Fld := ⟨0x4000 + 0x4 * i, 31, 1, .rw, .draft, 6, .dom⟩
def ICU_SRC_HWAKE (i : Nat) : Fld := ⟨0x4000 + 0x4 * i, 30, 1, .rw, .draft, 6, .dom⟩
def ICU_SRC_GRPEN (i : Nat) : Fld := ⟨0x4000 + 0x4 * i, 29, 1, .rw, .draft, 6, .dom⟩
def ICU_SRC_TARGET (i : Nat) : Fld := ⟨0x4000 + 0x4 * i, 26, 2, .rw, .draft, 6, .dom⟩
def ICU_SRC_GROUP (i : Nat) : Fld := ⟨0x4000 + 0x4 * i, 20, 4, .rw, .draft, 6, .dom⟩
def ICU_SRC_PRI (i : Nat) : Fld := ⟨0x4000 + 0x4 * i, 16, 4, .rw, .draft, 6, .dom⟩
/-! ICU_COAL: R267, Table 12.3 of chapter 12. -/
def ICU_COAL_COUNT (i : Nat) : Fld := ⟨0x4400 + 0x4 * i, 16, 8, .rw, .draft, 6, .dom⟩
def ICU_COAL_TIME (i : Nat) : Fld := ⟨0x4400 + 0x4 * i, 0, 16, .rw, .draft, 6, .dom⟩
/-! ICU_STS: R267, Table 12.4 of chapter 12. -/
def ICU_STS_PEND (i : Nat) : Fld := ⟨0x4800 + 0x4 * i, 31, 1, .w1c, (.val 0), 6, .dom⟩
def ICU_STS_ACT (i : Nat) : Fld := ⟨0x4800 + 0x4 * i, 30, 1, .ro, (.val 0), 6, .dom⟩
def ICU_STS_ACTCLR (i : Nat) : Fld := ⟨0x4800 + 0x4 * i, 29, 1, .wo, (.val 0), 6, .dom⟩
def ICU_STS_READY (i : Nat) : Fld := ⟨0x4800 + 0x4 * i, 28, 1, .ro, (.val 0), 6, .dom⟩
def ICU_STS_HELD (i : Nat) : Fld := ⟨0x4800 + 0x4 * i, 27, 1, .ro, (.val 0), 6, .dom⟩
def ICU_STS_ACTBY (i : Nat) : Fld := ⟨0x4800 + 0x4 * i, 24, 2, .ro, (.val 0), 6, .dom⟩
def ICU_STS_EVC (i : Nat) : Fld := ⟨0x4800 + 0x4 * i, 8, 8, .ro, (.val 0), 6, .dom⟩
def ICU_STS_LASTCNT (i : Nat) : Fld := ⟨0x4800 + 0x4 * i, 0, 8, .ro, (.val 0), 6, .dom⟩
/-! ICU_GRP: R267, Table 12.5 of chapter 12. -/
def ICU_GRP (i : Nat) : Fld := ⟨0x4c00 + 0x4 * i, 0, 20, .rw, .draft, 6, .dom⟩
/-! ICU_STAT: R267, Table 12.5 of chapter 12. -/
def ICU_STAT_MASKRACE : Fld := ⟨0x4d00, 1, 1, .w1c, (.val 0), 6, .dom⟩
def ICU_STAT_RESTORED : Fld := ⟨0x4d00, 0, 1, .w1c, (.val 0), 6, .dom⟩
/-! ICU_STRAY: R267, Table 12.5 of chapter 12. -/
def ICU_STRAY : Fld := ⟨0x4d04, 0, 16, .rw, (.val 0), 6, .dom⟩
/-! ICU_STRAYTHR: R267, Table 12.5 of chapter 12. -/
def ICU_STRAYTHR : Fld := ⟨0x4d08, 0, 16, .rw, .draft, 6, .dom⟩
/-! ICU_STRAYLAST: R267, Table 12.5 of chapter 12. -/
def ICU_STRAYLAST_VALID : Fld := ⟨0x4d0c, 16, 1, .w1c, (.val 0), 6, .dom⟩
def ICU_STRAYLAST_CORE : Fld := ⟨0x4d0c, 8, 2, .ro, (.val 0), 6, .dom⟩
def ICU_STRAYLAST_SRC : Fld := ⟨0x4d0c, 0, 8, .ro, (.val 0), 6, .dom⟩
/-! ICU_SGISET: R267, Table 12.5 of chapter 12. -/
def ICU_SGISET : Fld := ⟨0x4d10, 0, 32, .wo, (.val 0), 6, .dom⟩
/-! ICU_JOINDROP: R267, Table 12.5 of chapter 12. -/
def ICU_JOINDROP : Fld := ⟨0x4d14, 0, 16, .rw, (.val 0), 6, .dom⟩
/-! DMA_CH_CTRL: R285, Table 13.4 of chapter 13. -/
def DMA_CH_CTRL_EN (i : Nat) : Fld := ⟨0x5000 + 0x40 * i, 31, 1, .rw, (.val 0), 8, .dom⟩
def DMA_CH_CTRL_PRIO (i : Nat) : Fld := ⟨0x5000 + 0x40 * i, 28, 2, .rw, (.val 0), 8, .dom⟩
def DMA_CH_CTRL_DBGFRZ (i : Nat) : Fld := ⟨0x5000 + 0x40 * i, 9, 1, .rw, (.val 0), 8, .dom⟩
def DMA_CH_CTRL_ERRIE (i : Nat) : Fld := ⟨0x5000 + 0x40 * i, 8, 1, .rw, (.val 0), 8, .dom⟩
def DMA_CH_CTRL_SWTRIG (i : Nat) : Fld := ⟨0x5000 + 0x40 * i, 0, 1, .wo, (.val 0), 8, .dom⟩
/-! DMA_CH_DESC: R285, Table 13.4 of chapter 13. -/
def DMA_CH_DESC (i : Nat) : Fld := ⟨0x5004 + 0x40 * i, 5, 27, .rw, (.val 0), 8, .dom⟩
/-! DMA_CH_CUR: R285, Table 13.4 of chapter 13. -/
def DMA_CH_CUR (i : Nat) : Fld := ⟨0x5008 + 0x40 * i, 5, 27, .ro, (.val 0), 8, .dom⟩
/-! DMA_CH_LEFT: R285, Table 13.4 of chapter 13. -/
def DMA_CH_LEFT_YLEFT (i : Nat) : Fld := ⟨0x500c + 0x40 * i, 16, 16, .ro, (.val 0), 8, .dom⟩
def DMA_CH_LEFT_XLEFT (i : Nat) : Fld := ⟨0x500c + 0x40 * i, 0, 16, .ro, (.val 0), 8, .dom⟩
/-! DMA_CH_STAT: R285, Table 13.4 of chapter 13. -/
def DMA_CH_STAT_BUSY (i : Nat) : Fld := ⟨0x5010 + 0x40 * i, 31, 1, .ro, (.val 0), 8, .dom⟩
def DMA_CH_STAT_LOADED (i : Nat) : Fld := ⟨0x5010 + 0x40 * i, 30, 1, .ro, (.val 0), 8, .dom⟩
def DMA_CH_STAT_ID (i : Nat) : Fld := ⟨0x5010 + 0x40 * i, 14, 16, .ro, (.val 0), 8, .dom⟩
def DMA_CH_STAT_TRGPEND (i : Nat) : Fld := ⟨0x5010 + 0x40 * i, 8, 1, .ro, (.val 0), 8, .dom⟩
def DMA_CH_STAT_ENERR (i : Nat) : Fld := ⟨0x5010 + 0x40 * i, 6, 1, .w1c, (.val 0), 8, .dom⟩
def DMA_CH_STAT_TRGOVR (i : Nat) : Fld := ⟨0x5010 + 0x40 * i, 5, 1, .w1c, (.val 0), 8, .dom⟩
def DMA_CH_STAT_END (i : Nat) : Fld := ⟨0x5010 + 0x40 * i, 4, 1, .w1c, (.val 0), 8, .dom⟩
def DMA_CH_STAT_DONE (i : Nat) : Fld := ⟨0x5010 + 0x40 * i, 3, 1, .w1c, (.val 0), 8, .dom⟩
def DMA_CH_STAT_ERR (i : Nat) : Fld := ⟨0x5010 + 0x40 * i, 2, 1, .w1c, (.val 0), 8, .dom⟩
def DMA_CH_STAT_ABORT (i : Nat) : Fld := ⟨0x5010 + 0x40 * i, 1, 1, .w1c, (.val 0), 8, .dom⟩
/-! DMA_CH_ERR: R285, Table 13.4 of chapter 13. -/
def DMA_CH_ERR (i : Nat) : Fld := ⟨0x5014 + 0x40 * i, 0, 4, .ro, (.val 0), 8, .dom⟩
/-! DMA_CH_ERRADDR: R285, Table 13.4 of chapter 13. -/
def DMA_CH_ERRADDR (i : Nat) : Fld := ⟨0x5018 + 0x40 * i, 0, 32, .ro, (.val 0), 8, .dom⟩
/-! DMA_CH_DONECNT: R285, Table 13.4 of chapter 13. -/
def DMA_CH_DONECNT (i : Nat) : Fld := ⟨0x501c + 0x40 * i, 0, 16, .rw, (.val 0), 8, .dom⟩
/-! DMA_GSTAT: R285, Table 13.4 of chapter 13. -/
def DMA_GSTAT : Fld := ⟨0x5400, 0, 16, .ro, (.val 0), 8, .dom⟩
/-! WLD_CFG: R311, Table 14.7 of chapter 14. -/
def WLD_CFG_FORCEC : Fld := ⟨0x14000, 13, 1, .ro, .fuse, 3, .dom⟩
def WLD_CFG_FORCEF : Fld := ⟨0x14000, 12, 1, .ro, .fuse, 3, .dom⟩
def WLD_CFG_EFFPRED : Fld := ⟨0x14000, 9, 1, .ro, .fuse, 3, .dom⟩
def WLD_CFG_EFFCACHE : Fld := ⟨0x14000, 8, 1, .ro, .fuse, 3, .dom⟩
def WLD_CFG_SPSIZE : Fld := ⟨0x14000, 4, 2, .ro, .fuse, 3, .dom⟩
def WLD_CFG_PREDPOL : Fld := ⟨0x14000, 1, 1, .once, .draft, 3, .dom⟩
def WLD_CFG_CACHEPOL : Fld := ⟨0x14000, 0, 1, .once, .draft, 3, .dom⟩
/-! WLD_SWDT: R311, Table 14.7 of chapter 14. -/
def WLD_SWDT : Fld := ⟨0x14004, 0, 10, .once, .draft, 3, .dom⟩
/-! WLD_SIMG: R311, Table 14.7 of chapter 14. -/
def WLD_SIMG : Fld := ⟨0x14008, 4, 28, .once, .draft, 3, .dom⟩
/-! WLD_STAT: R311, Table 14.7 of chapter 14. -/
def WLD_STAT_LOADED : Fld := ⟨0x1400c, 31, 1, .ro, (.val 0), 3, .dom⟩
def WLD_STAT_RESTARTING : Fld := ⟨0x1400c, 30, 1, .ro, (.val 0), 3, .dom⟩
def WLD_STAT_LOADFAIL : Fld := ⟨0x1400c, 29, 1, .ro, (.val 0), 3, .dom⟩
def WLD_STAT_FAILCAUSE : Fld := ⟨0x1400c, 24, 4, .ro, (.val 0), 3, .dom⟩
def WLD_STAT_RSCAUSE : Fld := ⟨0x1400c, 20, 3, .ro, (.val 0), 3, .dom⟩
def WLD_STAT_WDT : Fld := ⟨0x1400c, 3, 1, .w1c, (.val 0), 3, .dom⟩
def WLD_STAT_FAULT : Fld := ⟨0x1400c, 2, 1, .w1c, (.val 0), 3, .dom⟩
def WLD_STAT_RSDONE : Fld := ⟨0x1400c, 1, 1, .w1c, (.val 0), 3, .dom⟩
def WLD_STAT_RSBEGIN : Fld := ⟨0x1400c, 0, 1, .w1c, (.val 0), 3, .dom⟩
/-! WLD_CTRL: R311, Table 14.7 of chapter 14. -/
def WLD_CTRL : Fld := ⟨0x14010, 0, 1, .wo, (.val 0), 3, .dom⟩
/-! WLD_FAULT: R311, Table 14.7 of chapter 14. -/
def WLD_FAULT_GATE : Fld := ⟨0x14014, 16, 6, .ro, (.val 0), 3, .dom⟩
def WLD_FAULT_CODE : Fld := ⟨0x14014, 0, 8, .ro, (.val 0), 3, .dom⟩
/-! WLD_SXBASE: R311, Table 14.7 of chapter 14. -/
def WLD_SXBASE : Fld := ⟨0x14018, 5, 27, .ro, (.val 0), 3, .dom⟩
/-! WLD_SXLIM: R311, Table 14.7 of chapter 14. -/
def WLD_SXLIM : Fld := ⟨0x1401c, 0, 32, .ro, (.val 0), 3, .dom⟩
/-! WLD_NGATE: R311, Table 14.7 of chapter 14. -/
def WLD_NGATE : Fld := ⟨0x14020, 0, 7, .ro, (.val 0), 3, .dom⟩
/-! WLD_VERSION: R311, Table 14.7 of chapter 14. -/
def WLD_VERSION : Fld := ⟨0x14024, 0, 32, .ro, (.val 0), 0, .sys⟩
/-! WLD_LOADS: R311, Table 14.7 of chapter 14. -/
def WLD_LOADS : Fld := ⟨0x14028, 0, 16, .ro, (.val 0), 0, .sys⟩
/-! WLD_MEAS: R311, Table 14.7 of chapter 14. -/
def WLD_MEAS (i : Nat) : Fld := ⟨0x1402c + 0x4 * i, 0, 32, .ro, (.val 0), 0, .sys⟩
/-! HIF_ID: R332, Table 15.8 of chapter 15. -/
def HIF_ID : Fld := ⟨0x10000000, 0, 32, .ro, (.val 1900284417), 10, .dom⟩
/-! HIF_STATUS: R332, Table 15.8 of chapter 15. -/
def HIF_STATUS_FWREADY : Fld := ⟨0x10000004, 31, 1, .ro, (.val 0), 10, .dom⟩
def HIF_STATUS_RESTARTING : Fld := ⟨0x10000004, 30, 1, .ro, (.val 0), 10, .dom⟩
def HIF_STATUS_ENTRY_PENDING : Fld := ⟨0x10000004, 29, 1, .ro, (.val 0), 10, .dom⟩
def HIF_STATUS_PSTATE : Fld := ⟨0x10000004, 24, 3, .ro, (.val 0), 10, .dom⟩
def HIF_STATUS_AUTHFAIL : Fld := ⟨0x10000004, 2, 1, .w1c, (.val 0), 10, .dom⟩
def HIF_STATUS_DBERR : Fld := ⟨0x10000004, 1, 1, .w1c, (.val 0), 10, .dom⟩
def HIF_STATUS_MBWERR : Fld := ⟨0x10000004, 0, 1, .w1c, (.val 0), 10, .dom⟩
/-! HIF_CFG: R332, Table 15.8 of chapter 15. -/
def HIF_CFG : Fld := ⟨0x10000008, 0, 1, .rw, (.val 0), 10, .dom⟩
/-! HIF_MBDB: R332, Table 15.8 of chapter 15. -/
def HIF_MBDB : Fld := ⟨0x1000000c, 0, 7, .w1s, (.val 0), 10, .dom⟩
/-! HIF_MBSTATE: R332, Table 15.8 of chapter 15. -/
/-- The state of host mailbox n (Table 15.2). -/
def HIF_MBST (n : Nat) : Fld := ⟨0x10000010, 2 * n, 2, .ro, (.val 0), 10, .dom⟩
/-! HIF_MBACK: R332, Table 15.8 of chapter 15. -/
def HIF_MBACK : Fld := ⟨0x10000014, 0, 8, .wo, (.val 0), 10, .dom⟩
/-! HIF_IRQSTAT: R332, Table 15.8 of chapter 15. -/
def HIF_IRQSTAT_ERR : Fld := ⟨0x10000018, 10, 1, .w1c, (.val 0), 10, .dom⟩
def HIF_IRQSTAT_FWEVT : Fld := ⟨0x10000018, 9, 1, .w1c, (.val 0), 10, .dom⟩
def HIF_IRQSTAT_QCOMP : Fld := ⟨0x10000018, 8, 1, .ro, (.val 0), 10, .dom⟩
def HIF_IRQSTAT_MBDONE : Fld := ⟨0x10000018, 0, 8, .ro, (.val 0), 10, .dom⟩
/-! HIF_IRQEN: R332, Table 15.8 of chapter 15. -/
def HIF_IRQEN : Fld := ⟨0x1000001c, 0, 11, .rw, (.val 0), 10, .dom⟩
/-! HIF_NOTICELOST: R332, Table 15.8 of chapter 15. -/
def HIF_NOTICELOST : Fld := ⟨0x10000020, 0, 16, .rw, (.val 0), 10, .dom⟩
/-! LMB_DB: R333, Table 15.9 of chapter 15. -/
def LMB_DB : Fld := ⟨0x15000, 0, 4, .w1s, (.val 0), 1, .dom⟩
/-! LMB_STATE: R333, Table 15.9 of chapter 15. -/
/-- The state of local mailbox b. -/
def LMB_ST (b : Nat) : Fld := ⟨0x15004, 2 * b, 2, .ro, (.val 0), 1, .dom⟩
def LMB_STATE_DBERR : Fld := ⟨0x15004, 17, 1, .w1c, (.val 0), 1, .dom⟩
def LMB_STATE_WERR : Fld := ⟨0x15004, 16, 1, .w1c, (.val 0), 1, .dom⟩
def LMB_STATE_SHELD : Fld := ⟨0x15004, 8, 4, .ro, (.val 0), 1, .dom⟩
/-! LMB_ACK: R333, Table 15.9 of chapter 15. -/
def LMB_ACK : Fld := ⟨0x15008, 0, 4, .wo, (.val 0), 1, .dom⟩
/-! Q_CTRL: R363, Table 16.5 of chapter 16. -/
def Q_CTRL : Fld := ⟨0x10000040, 0, 1, .w1s, (.val 0), 10, .dom⟩
/-! Q_SQTAIL: R363, Table 16.5 of chapter 16. -/
def Q_SQTAIL : Fld := ⟨0x10000044, 0, 6, .rw, (.val 0), 10, .dom⟩
/-! Q_SQHEAD: R363, Table 16.5 of chapter 16. -/
def Q_SQHEAD : Fld := ⟨0x10000048, 0, 6, .ro, (.val 0), 10, .dom⟩
/-! Q_CQHEAD: R363, Table 16.5 of chapter 16. -/
def Q_CQHEAD : Fld := ⟨0x1000004c, 0, 6, .rw, (.val 0), 10, .dom⟩
/-! Q_CQTAIL: R363, Table 16.5 of chapter 16. -/
def Q_CQTAIL : Fld := ⟨0x10000050, 0, 6, .ro, (.val 0), 10, .dom⟩
/-! Q_STATUS: R363, Table 16.5 of chapter 16. -/
def Q_STATUS_HELD : Fld := ⟨0x10000054, 31, 1, .ro, (.val 0), 10, .dom⟩
def Q_STATUS_TAMPER : Fld := ⟨0x10000054, 30, 1, .ro, (.val 0), 10, .dom⟩
def Q_STATUS_CQERR : Fld := ⟨0x10000054, 1, 1, .w1c, (.val 0), 10, .dom⟩
def Q_STATUS_SQERR : Fld := ⟨0x10000054, 0, 1, .w1c, (.val 0), 10, .dom⟩
/-! Q_TAGS: R363, Table 16.5 of chapter 16. -/
def Q_TAGS : Fld := ⟨0x10000058, 0, 32, .ro, (.val 0), 10, .dom⟩
/-! Q_TAGBUSY: R363, Table 16.5 of chapter 16. -/
def Q_TAGBUSY : Fld := ⟨0x1000005c, 0, 16, .rw, (.val 0), 10, .dom⟩
/-! TMP_STAT: R389, Table 17.8 of chapter 17. -/
def TMP_STAT_RESP : Fld := ⟨0x1a000, 31, 1, .ro, (.val 1), 0, .aon⟩
def TMP_STAT_ZACT : Fld := ⟨0x1a000, 30, 1, .ro, (.val 1), 0, .aon⟩
def TMP_STAT_LOCKED : Fld := ⟨0x1a000, 29, 1, .ro, (.val 0), 0, .aon⟩
def TMP_STAT_ONVBAT : Fld := ⟨0x1a000, 28, 1, .ro, (.val 0), 0, .aon⟩
def TMP_STAT_ACTIVE : Fld := ⟨0x1a000, 16, 9, .ro, (.val 0), 0, .aon⟩
def TMP_STAT_LATCHED : Fld := ⟨0x1a000, 0, 9, .ro, (.val 256), 0, .aon⟩
/-! TMP_SRCCFG: R389, Table 17.8 of chapter 17. -/
def TMP_SRCCFG_ACTION : Fld := ⟨0x1a004, 16, 9, .ro, (.val 256), 0, .aon⟩
def TMP_SRCCFG_EN : Fld := ⟨0x1a004, 0, 9, .ro, (.val 511), 0, .aon⟩
/-! TMP_MESH: R389, Table 17.8 of chapter 17. -/
def TMP_MESH_FILT (i : Nat) : Fld := ⟨0x1a008 + 0x4 * i, 16, 4, .ro, (.val 2), 0, .aon⟩
def TMP_MESH_VSEL (i : Nat) : Fld := ⟨0x1a008 + 0x4 * i, 12, 1, .ro, (.val 0), 0, .aon⟩
def TMP_MESH_ILIM (i : Nat) : Fld := ⟨0x1a008 + 0x4 * i, 8, 2, .ro, (.val 0), 0, .aon⟩
def TMP_MESH_PWSEL (i : Nat) : Fld := ⟨0x1a008 + 0x4 * i, 0, 4, .ro, (.val 7), 0, .aon⟩
/-! TMP_TSW: R389, Table 17.8 of chapter 17. -/
def TMP_TSW_FILT1 : Fld := ⟨0x1a010, 8, 4, .ro, (.val 0), 0, .aon⟩
def TMP_TSW_FILT0 : Fld := ⟨0x1a010, 4, 4, .ro, (.val 0), 0, .aon⟩
def TMP_TSW_POL : Fld := ⟨0x1a010, 0, 2, .ro, (.val 0), 0, .aon⟩
/-! TMP_TEMP: R389, Table 17.8 of chapter 17. -/
def TMP_TEMP_THI : Fld := ⟨0x1a014, 16, 8, .ro, (.val 135), 0, .aon⟩
def TMP_TEMP_TLO : Fld := ⟨0x1a014, 0, 8, .ro, (.val 206), 0, .aon⟩
/-! TMP_LOCK: R389, Table 17.8 of chapter 17. -/
def TMP_LOCK : Fld := ⟨0x1a018, 0, 1, .ro, (.val 0), 0, .aon⟩
/-! TMP_EVCNT: R389, Table 17.8 of chapter 17. -/
def TMP_EVCNT : Fld := ⟨0x1a01c, 0, 16, .ro, (.val 1), 0, .aon⟩
/-! TMP_MESHERR: R389, Table 17.8 of chapter 17. -/
def TMP_MESHERR_M1 : Fld := ⟨0x1a020, 16, 16, .ro, (.val 0), 0, .aon⟩
def TMP_MESHERR_M0 : Fld := ⟨0x1a020, 0, 16, .ro, (.val 0), 0, .aon⟩
/-! TMP_EVRTC_LO: R389, Table 17.8 of chapter 17. -/
def TMP_EVRTC_LO : Fld := ⟨0x1a024, 0, 32, .rs, (.val 0), 0, .aon⟩
/-! TMP_EVRTC_HI: R389, Table 17.8 of chapter 17. -/
def TMP_EVRTC_HI : Fld := ⟨0x1a028, 0, 32, .ro, (.val 0), 0, .aon⟩
/-! TMP_RTC_LO: R389, Table 17.8 of chapter 17. -/
def TMP_RTC_LO : Fld := ⟨0x1a02c, 0, 32, .rs, (.val 0), 0, .aon⟩
/-! TMP_RTC_HI: R389, Table 17.8 of chapter 17. -/
def TMP_RTC_HI : Fld := ⟨0x1a030, 0, 32, .ro, (.val 0), 0, .aon⟩
/-! TMP_MESHE: R389, Table 17.8 of chapter 17. -/
def TMP_MESHE_CEIL : Fld := ⟨0x1a034, 16, 6, .ro, .fuse, 0, .aon⟩
def TMP_MESHE_E1 : Fld := ⟨0x1a034, 8, 6, .ro, (.val 3), 0, .aon⟩
def TMP_MESHE_E0 : Fld := ⟨0x1a034, 0, 6, .ro, (.val 3), 0, .aon⟩
/-! FLC_ADDR: R409, Table 18.6 of chapter 18. -/
def FLC_ADDR : Fld := ⟨0x16000, 0, 32, .rw, (.val 0), 2, .dom⟩
/-! FLC_DATA: R409, Table 18.6 of chapter 18. -/
def FLC_DATA (i : Nat) : Fld := ⟨0x16004 + 0x4 * i, 0, 32, .rw, (.val 0), 2, .dom⟩
/-! FLC_ARM: R409, Table 18.6 of chapter 18. -/
def FLC_ARM : Fld := ⟨0x16024, 0, 32, .wo, (.val 0), 2, .dom⟩
/-! FLC_CMD: R409, Table 18.6 of chapter 18. -/
def FLC_CMD : Fld := ⟨0x16028, 0, 2, .wo, (.val 0), 2, .dom⟩
/-! FLC_STAT: R409, Table 18.6 of chapter 18. -/
def FLC_STAT_BUSY0 : Fld := ⟨0x1602c, 31, 1, .ro, (.val 0), 2, .dom⟩
def FLC_STAT_BUSY1 : Fld := ⟨0x1602c, 30, 1, .ro, (.val 0), 2, .dom⟩
def FLC_STAT_ARMED : Fld := ⟨0x1602c, 29, 1, .ro, (.val 0), 2, .dom⟩
def FLC_STAT_STRANDOP : Fld := ⟨0x1602c, 28, 1, .ro, (.val 0), 2, .dom⟩
def FLC_STAT_CMDSTAT : Fld := ⟨0x1602c, 8, 8, .ro, (.val 0), 2, .dom⟩
def FLC_STAT_ERR : Fld := ⟨0x1602c, 1, 1, .w1c, (.val 0), 2, .dom⟩
def FLC_STAT_DONE : Fld := ⟨0x1602c, 0, 1, .w1c, (.val 0), 2, .dom⟩
/-! FLC_ECC: R409, Table 18.6 of chapter 18. -/
def FLC_ECC_UNCORR : Fld := ⟨0x16030, 16, 16, .rw, (.val 0), 2, .dom⟩
def FLC_ECC_CORR : Fld := ⟨0x16030, 0, 16, .rw, (.val 0), 2, .dom⟩
/-! FLC_FLAG: R409, Table 18.6 of chapter 18. -/
def FLC_FLAG_UNC : Fld := ⟨0x16034, 1, 1, .w1c, (.val 0), 2, .dom⟩
def FLC_FLAG_CORR : Fld := ⟨0x16034, 0, 1, .w1c, (.val 0), 2, .dom⟩
/-! FLC_CORRADDR: R409, Table 18.6 of chapter 18. -/
def FLC_CORRADDR : Fld := ⟨0x16038, 4, 28, .ro, (.val 0), 2, .dom⟩
/-! FLC_UNCADDR: R409, Table 18.6 of chapter 18. -/
def FLC_UNCADDR : Fld := ⟨0x1603c, 4, 28, .ro, (.val 0), 2, .dom⟩
/-! FLC_ECCTHR: R409, Table 18.6 of chapter 18. -/
def FLC_ECCTHR : Fld := ⟨0x16040, 0, 16, .rw, .draft, 2, .dom⟩
/-! SYS_KEY: R432, Table 19.9 of chapter 19. -/
def SYS_KEY_KEY : Fld := ⟨0x4, 0, 16, .wo, (.val 0), 0, .sys⟩
def SYS_KEY_UNLOCKED : Fld := ⟨0x4, 31, 1, .ro, (.val 0), 0, .sys⟩
/-! SYS_LOCKCFG: R432, Table 19.9 of chapter 19. -/
def SYS_LOCKCFG_LOCK : Fld := ⟨0x8, 1, 1, .w1s, (.val 0), 0, .sys⟩
def SYS_LOCKCFG_ERRRESP : Fld := ⟨0x8, 0, 1, .lock, (.val 0), 0, .sys⟩
/-! SYS_LOCKVIOL: R432, Table 19.9 of chapter 19. -/
def SYS_LOCKVIOL : Fld := ⟨0xc, 0, 16, .rw, (.val 0), 0, .sys⟩
/-! SYS_LOCKADDR: R432, Table 19.9 of chapter 19. -/
def SYS_LOCKADDR : Fld := ⟨0x10, 0, 32, .ro, (.val 0), 0, .sys⟩
/-! SYS_LOCKINFO: R432, Table 19.9 of chapter 19. -/
def SYS_LOCKINFO_SPACE : Fld := ⟨0x14, 8, 2, .ro, (.val 0), 0, .sys⟩
def SYS_LOCKINFO_REQ : Fld := ⟨0x14, 4, 3, .ro, (.val 0), 0, .sys⟩
def SYS_LOCKINFO_WORLD : Fld := ⟨0x14, 0, 1, .ro, (.val 0), 0, .sys⟩
/-! SYS_DEVID: R432, Table 19.9 of chapter 19. -/
def SYS_DEVID (i : Nat) : Fld := ⟨0x20 + 0x4 * i, 0, 32, .ro, .fuse, 0, .sys⟩
/-! LCS_STATE: R433, Table 19.10 of chapter 19. -/
def LCS_STATE_RELOCKS : Fld := ⟨0x1c000, 16, 3, .ro, .fuse, 0, .sys⟩
def LCS_STATE_OPENS : Fld := ⟨0x1c000, 8, 3, .ro, .fuse, 0, .sys⟩
def LCS_STATE_STATE : Fld := ⟨0x1c000, 0, 4, .ro, .fuse, 0, .sys⟩
/-! LCS_PROG: R433, Table 19.10 of chapter 19. -/
def LCS_PROG_INPROG : Fld := ⟨0x1c004, 31, 1, .ro, (.val 0), 0, .sys⟩
def LCS_PROG_SLOT : Fld := ⟨0x1c004, 24, 5, .ro, (.val 0), 0, .sys⟩
def LCS_PROG_STEP : Fld := ⟨0x1c004, 16, 4, .ro, (.val 0), 0, .sys⟩
def LCS_PROG_RESUMED : Fld := ⟨0x1c004, 8, 1, .w1c, .fuse, 0, .aon⟩
/-! LCS_REQ: R433, Table 19.10 of chapter 19. -/
def LCS_REQ : Fld := ⟨0x1c008, 0, 4, .wo, (.val 0), 0, .sys⟩
/-! LCS_RSTAT: R433, Table 19.10 of chapter 19. -/
def LCS_RSTAT : Fld := ⟨0x1c00c, 0, 16, .ro, (.val 0), 0, .sys⟩
/-! LCS_TOKEN: R433, Table 19.10 of chapter 19. -/
def LCS_TOKEN (i : Nat) : Fld := ⟨0x1c010 + 0x4 * i, 0, 32, .wo, (.val 0), 0, .sys⟩
/-! LCS_TOKFAIL: R433, Table 19.10 of chapter 19. -/
def LCS_TOKFAIL : Fld := ⟨0x1c030, 0, 8, .ro, (.val 0), 0, .sys⟩
/-! LCS_SCRAP: R433, Table 19.10 of chapter 19. -/
def LCS_SCRAP : Fld := ⟨0x1c034, 0, 32, .wo, (.val 0), 0, .sys⟩
/-! LCS_FADDR: R433, Table 19.10 of chapter 19. -/
def LCS_FADDR : Fld := ⟨0x1c040, 0, 8, .rw, (.val 0), 0, .sys⟩
/-! LCS_FDATA: R433, Table 19.10 of chapter 19. -/
def LCS_FDATA : Fld := ⟨0x1c044, 0, 32, .rw, (.val 0), 0, .sys⟩
/-! LCS_FCMD: R433, Table 19.10 of chapter 19. -/
def LCS_FCMD : Fld := ⟨0x1c048, 0, 2, .wo, (.val 0), 0, .sys⟩
/-! LCS_FSTAT: R433, Table 19.10 of chapter 19. -/
def LCS_FSTAT_BUSY : Fld := ⟨0x1c04c, 31, 1, .ro, (.val 0), 0, .sys⟩
def LCS_FSTAT_STATUS : Fld := ⟨0x1c04c, 0, 16, .ro, (.val 0), 0, .sys⟩
/-! LCS_FRDADDR: R433, Table 19.10 of chapter 19. -/
def LCS_FRDADDR : Fld := ⟨0x1c050, 0, 8, .rw, (.val 0), 0, .sys⟩
/-! LCS_FRDATA: R433, Table 19.10 of chapter 19. -/
def LCS_FRDATA : Fld := ⟨0x1c054, 0, 32, .ro, (.val 0), 0, .sys⟩
/-! LCS_THERM: R433, Table 19.10 of chapter 19. -/
def LCS_THERM_CUST : Fld := ⟨0x1c058, 8, 8, .ro, .fuse, 0, .sys⟩
def LCS_THERM_CRER : Fld := ⟨0x1c058, 0, 8, .ro, .fuse, 0, .sys⟩
/-! LCS_MARGIN: R433, Table 19.10 of chapter 19. -/
def LCS_MARGIN : Fld := ⟨0x1c05c, 0, 16, .ro, .fuse, 0, .sys⟩
/-! DBG_PARTID: R456, Table 20.7 of chapter 20. -/
def DBG_PARTID : Fld := ⟨0x1b000, 0, 32, .ro, (.val 1900284417), 0, .sys⟩
/-! DBG_AUTH: R456, Table 20.7 of chapter 20. -/
def DBG_AUTH_GRANTED : Fld := ⟨0x1b004, 31, 1, .ro, (.val 0), 0, .sys⟩
def DBG_AUTH_SCTRL : Fld := ⟨0x1b004, 30, 1, .ro, (.val 0), 0, .sys⟩
def DBG_AUTH_SMEM : Fld := ⟨0x1b004, 29, 1, .ro, (.val 0), 0, .sys⟩
def DBG_AUTH_BSCAN : Fld := ⟨0x1b004, 28, 1, .ro, (.val 0), 0, .sys⟩
def DBG_AUTH_FAILS : Fld := ⟨0x1b004, 8, 8, .ro, (.val 0), 0, .sys⟩
def DBG_AUTH_REVOKE : Fld := ⟨0x1b004, 4, 1, .wo, (.val 0), 0, .sys⟩
def DBG_AUTH_RESULT : Fld := ⟨0x1b004, 0, 4, .ro, (.val 0), 0, .sys⟩
/-! DBG_CTRL: R456, Table 20.7 of chapter 20. -/
def DBG_CTRL_HALTALL : Fld := ⟨0x1b008, 17, 1, .rw, (.val 0), 0, .sys⟩
def DBG_CTRL_STEPIE : Fld := ⟨0x1b008, 16, 1, .rw, (.val 0), 0, .sys⟩
def DBG_CTRL_STEP : Fld := ⟨0x1b008, 8, 3, .w1s, (.val 0), 0, .sys⟩
def DBG_CTRL_RESUME : Fld := ⟨0x1b008, 4, 3, .w1s, (.val 0), 0, .sys⟩
def DBG_CTRL_HALT : Fld := ⟨0x1b008, 0, 3, .w1s, (.val 0), 0, .sys⟩
/-! DBG_STAT: R456, Table 20.7 of chapter 20. -/
def DBG_STAT_REGERR : Fld := ⟨0x1b00c, 16, 1, .w1c, (.val 0), 0, .sys⟩
def DBG_STAT_ABANDON : Fld := ⟨0x1b00c, 8, 3, .w1c, (.val 0), 0, .sys⟩
def DBG_STAT_PEND : Fld := ⟨0x1b00c, 4, 3, .ro, (.val 0), 0, .sys⟩
def DBG_STAT_HALTED : Fld := ⟨0x1b00c, 0, 3, .ro, (.val 0), 0, .sys⟩
/-! DBG_CAUSE: R456, Table 20.7 of chapter 20. -/
def DBG_CAUSE_SEQ (i : Nat) : Fld := ⟨0x1b010 + 0x4 * i, 8, 4, .ro, (.val 0), 0, .sys⟩
def DBG_CAUSE_BP (i : Nat) : Fld := ⟨0x1b010 + 0x4 * i, 4, 3, .ro, (.val 0), 0, .sys⟩
def DBG_CAUSE_CAUSE (i : Nat) : Fld := ⟨0x1b010 + 0x4 * i, 0, 4, .ro, (.val 0), 0, .sys⟩
/-! DBG_REGSEL: R456, Table 20.7 of chapter 20. -/
def DBG_REGSEL_CORE : Fld := ⟨0x1b020, 16, 2, .rw, (.val 0), 0, .sys⟩
def DBG_REGSEL_KIND : Fld := ⟨0x1b020, 12, 2, .rw, (.val 0), 0, .sys⟩
def DBG_REGSEL_NUM : Fld := ⟨0x1b020, 0, 12, .rw, (.val 0), 0, .sys⟩
/-! DBG_REGDATA: R456, Table 20.7 of chapter 20. -/
def DBG_REGDATA : Fld := ⟨0x1b024, 0, 32, .rw, (.val 0), 0, .sys⟩
/-! DBG_BP_ADDR: R456, Table 20.7 of chapter 20. -/
def DBG_BP_ADDR (i : Nat) : Fld := ⟨0x1b040 + 0x8 * i, 0, 32, .rw, (.val 0), 0, .sys⟩
/-! DBG_BP_CFG: R456, Table 20.7 of chapter 20. -/
def DBG_BP_CFG_EN (i : Nat) : Fld := ⟨0x1b044 + 0x8 * i, 31, 1, .rw, (.val 0), 0, .sys⟩
def DBG_BP_CFG_KIND (i : Nat) : Fld := ⟨0x1b044 + 0x8 * i, 28, 2, .rw, (.val 0), 0, .sys⟩
def DBG_BP_CFG_CORE (i : Nat) : Fld := ⟨0x1b044 + 0x8 * i, 24, 2, .rw, (.val 0), 0, .sys⟩
def DBG_BP_CFG_WORLD (i : Nat) : Fld := ⟨0x1b044 + 0x8 * i, 20, 1, .rw, (.val 0), 0, .sys⟩
def DBG_BP_CFG_SIZE (i : Nat) : Fld := ⟨0x1b044 + 0x8 * i, 0, 5, .rw, (.val 0), 0, .sys⟩
/-! DBG_BURST_ADDR: R456, Table 20.7 of chapter 20. -/
def DBG_BURST_ADDR (i : Nat) : Fld := ⟨0x1b080 + 0x8 * i, 0, 32, .rw, (.val 0), 0, .sys⟩
/-! DBG_BURST_DATA: R456, Table 20.7 of chapter 20. -/
def DBG_BURST_DATA (i : Nat) : Fld := ⟨0x1b084 + 0x8 * i, 0, 32, .rw, (.val 0), 0, .sys⟩
/-! DBG_BURSTCTL: R456, Table 20.7 of chapter 20. -/
def DBG_BURSTCTL_ERR : Fld := ⟨0x1b0a0, 17, 1, .ro, (.val 0), 0, .sys⟩
def DBG_BURSTCTL_DONE : Fld := ⟨0x1b0a0, 16, 1, .ro, (.val 0), 0, .sys⟩
def DBG_BURSTCTL_GO : Fld := ⟨0x1b0a0, 8, 1, .wo, (.val 0), 0, .sys⟩
def DBG_BURSTCTL_COUNT : Fld := ⟨0x1b0a0, 0, 3, .rw, (.val 0), 0, .sys⟩
/-! CLK_CFG: R475, Table 21.5 of chapter 21. -/
def CLK_CFG_SWEN : Fld := ⟨0x1000, 31, 1, .rw, .draft, 0, .sys⟩
def CLK_CFG_INITSEL : Fld := ⟨0x1000, 8, 2, .rw, .draft, 0, .sys⟩
def CLK_CFG_XMODE : Fld := ⟨0x1000, 4, 1, .rw, .draft, 0, .sys⟩
def CLK_CFG_FITW : Fld := ⟨0x1000, 1, 1, .rw, .draft, 0, .sys⟩
def CLK_CFG_FITX : Fld := ⟨0x1000, 0, 1, .rw, .draft, 0, .sys⟩
/-! CLK_WIN: R475, Table 21.5 of chapter 21. -/
def CLK_WIN_OUTER : Fld := ⟨0x1004, 16, 12, .rw, .draft, 0, .sys⟩
def CLK_WIN_INNER : Fld := ⟨0x1004, 0, 12, .rw, .draft, 0, .sys⟩
/-! CLK_RCWIN: R475, Table 21.5 of chapter 21. -/
def CLK_RCWIN : Fld := ⟨0x1008, 0, 16, .rw, .draft, 0, .sys⟩
/-! CLK_STAT: R475, Table 21.5 of chapter 21. -/
def CLK_STAT_ACTIVE : Fld := ⟨0x100c, 28, 2, .ro, (.val 2), 0, .sys⟩
def CLK_STAT_LOCK : Fld := ⟨0x100c, 15, 1, .ro, (.val 0), 0, .sys⟩
def CLK_STAT_HOLDOVER : Fld := ⟨0x100c, 14, 1, .ro, (.val 0), 0, .sys⟩
def CLK_STAT_RELOCK : Fld := ⟨0x100c, 13, 1, .ro, (.val 0), 0, .sys⟩
def CLK_STAT_ONRC : Fld := ⟨0x100c, 12, 1, .ro, (.val 1), 0, .sys⟩
def CLK_STAT_LOSTR : Fld := ⟨0x100c, 10, 1, .ro, (.val 0), 0, .sys⟩
def CLK_STAT_LOSTW : Fld := ⟨0x100c, 9, 1, .ro, (.val 0), 0, .sys⟩
def CLK_STAT_LOSTX : Fld := ⟨0x100c, 8, 1, .ro, (.val 0), 0, .sys⟩
def CLK_STAT_NOMAJ : Fld := ⟨0x100c, 7, 1, .ro, (.val 0), 0, .sys⟩
def CLK_STAT_PLLERR : Fld := ⟨0x100c, 5, 1, .w1c, (.val 0), 0, .sys⟩
def CLK_STAT_LOST : Fld := ⟨0x100c, 4, 1, .w1c, (.val 0), 0, .sys⟩
def CLK_STAT_HELD : Fld := ⟨0x100c, 3, 1, .w1c, (.val 0), 0, .sys⟩
def CLK_STAT_FAULT : Fld := ⟨0x100c, 2, 1, .w1c, (.val 0), 0, .sys⟩
def CLK_STAT_SWITCHED : Fld := ⟨0x100c, 1, 1, .w1c, (.val 0), 0, .sys⟩
def CLK_STAT_INNER : Fld := ⟨0x100c, 0, 1, .w1c, (.val 0), 0, .sys⟩
/-! CLK_DEVX: R475, Table 21.5 of chapter 21. -/
def CLK_DEVX : Fld := ⟨0x1010, 0, 16, .ro, (.val 0), 0, .sys⟩
/-! CLK_DEVW: R475, Table 21.5 of chapter 21. -/
def CLK_DEVW : Fld := ⟨0x1014, 0, 16, .ro, (.val 0), 0, .sys⟩
/-! CLK_DEVR: R475, Table 21.5 of chapter 21. -/
def CLK_DEVR : Fld := ⟨0x1018, 0, 16, .ro, (.val 0), 0, .sys⟩
/-! CLK_DEVT: R475, Table 21.5 of chapter 21. -/
def CLK_DEVT : Fld := ⟨0x101c, 0, 16, .ro, (.val 0), 0, .sys⟩
/-! CLK_SWCNT: R475, Table 21.5 of chapter 21. -/
def CLK_SWCNT : Fld := ⟨0x1020, 0, 8, .ro, (.val 0), 0, .sys⟩
/-! CLK_LASTSW: R475, Table 21.5 of chapter 21. -/
def CLK_LASTSW : Fld := ⟨0x1024, 0, 32, .ro, (.val 0), 0, .sys⟩
/-! CLK_LEAN: R475, Table 21.5 of chapter 21. -/
def CLK_LEAN : Fld := ⟨0x1028, 0, 2, .rw, .draft, 0, .sys⟩
/-! PWR_STATE: R497, Table 22.7 of chapter 22. -/
def PWR_STATE_ENTRY : Fld := ⟨0x2000, 31, 1, .ro, (.val 0), 0, .sys⟩
def PWR_STATE_EXIT : Fld := ⟨0x2000, 30, 1, .ro, (.val 0), 0, .sys⟩
def PWR_STATE_PSTATE : Fld := ⟨0x2000, 24, 3, .ro, (.val 0), 0, .sys⟩
def PWR_STATE_WAKESRC : Fld := ⟨0x2000, 8, 3, .ro, (.val 0), 0, .sys⟩
/-! PWR_DOMSTAT0: R497, Table 22.7 of chapter 22. -/
/-- The state field of power domain d (R497). -/
def PWR_DOM (d : Nat) : Fld :=
  if d < 8 then ⟨0x2004, 4 * d, 4, .ro, .undef, 0, .sys⟩ else ⟨0x2008, 4 * (d - 8), 4, .ro, .undef, 0, .sys⟩
/-! PWR_DOMSTAT1: R497, Table 22.7 of chapter 22. -/

/-! PWR_DOMREQ: R497, Table 22.7 of chapter 22. -/
def PWR_DOMREQ_REQERR : Fld := ⟨0x200c, 31, 1, .w1c, (.val 0), 0, .sys⟩
def PWR_DOMREQ_PD11OFF : Fld := ⟨0x200c, 1, 1, .rw, (.val 0), 0, .sys⟩
def PWR_DOMREQ_PD7OFF : Fld := ⟨0x200c, 0, 1, .rw, (.val 0), 0, .sys⟩
/-! PWR_SRAM: R497, Table 22.7 of chapter 22. -/
def PWR_SRAM_OFF : Fld := ⟨0x2010, 8, 4, .rw, (.val 0), 0, .sys⟩
def PWR_SRAM_RET : Fld := ⟨0x2010, 0, 4, .rw, .draft, 0, .sys⟩
/-! PWR_CFG: R497, Table 22.7 of chapter 22. -/
def PWR_CFG : Fld := ⟨0x2014, 0, 16, .rw, .draft, 0, .sys⟩
/-! PWR_ACK: R497, Table 22.7 of chapter 22. -/
def PWR_ACK : Fld := ⟨0x2018, 0, 3, .w1s, (.val 0), 0, .sys⟩
/-! PWR_LOSTREPLY: R497, Table 22.7 of chapter 22. -/
def PWR_LOSTREPLY : Fld := ⟨0x201c, 0, 16, .rw, (.val 0), 0, .sys⟩
/-! PWR_FAULT: R497, Table 22.7 of chapter 22. -/
def PWR_FAULT_LAST : Fld := ⟨0x2020, 16, 4, .ro, (.val 0), 0, .sys⟩
def PWR_FAULT_LOST : Fld := ⟨0x2020, 0, 12, .w1c, (.val 0), 0, .sys⟩
/-! PWR_WAKEINFO: R497, Table 22.7 of chapter 22. -/
def PWR_WAKEINFO : Fld := ⟨0x2024, 0, 8, .ro, (.val 0), 0, .sys⟩
/-! PWR_ENTRIES: R497, Table 22.7 of chapter 22. -/
def PWR_ENTRIES_SLEEP : Fld := ⟨0x2028, 16, 16, .rw, (.val 0), 0, .sys⟩
def PWR_ENTRIES_HOLD : Fld := ⟨0x2028, 0, 16, .rw, (.val 0), 0, .sys⟩
/-! RST_CAUSE: R516, Table 23.8 of chapter 23. -/
def RST_CAUSE_AON : Fld := ⟨0x3000, 16, 1, .ro, .undef, 0, .sys⟩
def RST_CAUSE_CAUSE : Fld := ⟨0x3000, 0, 12, .ro, .undef, 0, .sys⟩
/-! RST_SWRST: R516, Table 23.8 of chapter 23. -/
def RST_SWRST : Fld := ⟨0x3004, 0, 32, .wo, (.val 0), 0, .sys⟩
/-! RST_BOOT: R516, Table 23.8 of chapter 23. -/
def RST_BOOT_RECOVERY : Fld := ⟨0x3008, 31, 1, .ro, (.val 0), 0, .sys⟩
def RST_BOOT_IMGFAIL : Fld := ⟨0x3008, 30, 1, .ro, (.val 0), 0, .sys⟩
def RST_BOOT_BOOTSEL : Fld := ⟨0x3008, 29, 1, .ro, (.val 0), 0, .sys⟩
def RST_BOOT_DEFAULT : Fld := ⟨0x3008, 28, 1, .ro, (.val 0), 0, .sys⟩
def RST_BOOT_DRAFTSLOT : Fld := ⟨0x3008, 24, 2, .ro, (.val 0), 0, .sys⟩
def RST_BOOT_DAFAIL : Fld := ⟨0x3008, 20, 4, .ro, (.val 0), 0, .sys⟩
def RST_BOOT_DBFAIL : Fld := ⟨0x3008, 16, 4, .ro, (.val 0), 0, .sys⟩
def RST_BOOT_FWSLOT : Fld := ⟨0x3008, 12, 1, .ro, (.val 0), 0, .sys⟩
def RST_BOOT_FWFAIL : Fld := ⟨0x3008, 8, 4, .ro, (.val 0), 0, .sys⟩
def RST_BOOT_STEP : Fld := ⟨0x3008, 0, 4, .ro, (.val 0), 0, .sys⟩
/-! RST_DSEQ: R516, Table 23.8 of chapter 23. -/
def RST_DSEQ : Fld := ⟨0x300c, 0, 32, .ro, (.val 0), 0, .sys⟩
/-! RST_ASTART: R516, Table 23.8 of chapter 23. -/
def RST_ASTART : Fld := ⟨0x3010, 2, 30, .ro, .draft, 0, .sys⟩
/-! RST_BOOTUS: R516, Table 23.8 of chapter 23. -/
def RST_BOOTUS : Fld := ⟨0x3014, 0, 16, .ro, (.val 0), 0, .sys⟩
/-! RST_DRAFTERR: R516, Table 23.8 of chapter 23. -/
def RST_DRAFTERR : Fld := ⟨0x3018, 0, 16, .ro, (.val 0), 0, .sys⟩
/-! RST_COUNT: R516, Table 23.8 of chapter 23. -/
def RST_COUNT : Fld := ⟨0x301c, 0, 16, .rw, (.val 0), 0, .aon⟩
/-! GPIO_MUX: R546, Table 24.8 of chapter 24. -/
def GPIO_MUX_IRQEDGE (i : Nat) : Fld := ⟨0x17000 + 0x4 * i, 16, 2, .rw, .draft, 10, .dom⟩
def GPIO_MUX_FILT (i : Nat) : Fld := ⟨0x17000 + 0x4 * i, 12, 4, .rw, .draft, 10, .dom⟩
def GPIO_MUX_OD (i : Nat) : Fld := ⟨0x17000 + 0x4 * i, 10, 1, .rw, .draft, 10, .dom⟩
def GPIO_MUX_DS (i : Nat) : Fld := ⟨0x17000 + 0x4 * i, 8, 1, .rw, .draft, 10, .dom⟩
def GPIO_MUX_PULL (i : Nat) : Fld := ⟨0x17000 + 0x4 * i, 4, 2, .rw, .draft, 10, .dom⟩
def GPIO_MUX_FUNC (i : Nat) : Fld := ⟨0x17000 + 0x4 * i, 0, 2, .rw, .draft, 10, .dom⟩
/-! GPIO_DIR: R546, Table 24.8 of chapter 24. -/
def GPIO_DIR : Fld := ⟨0x17040, 0, 16, .rw, .draft, 10, .dom⟩
/-! GPIO_OUT: R546, Table 24.8 of chapter 24. -/
def GPIO_OUT : Fld := ⟨0x17044, 0, 16, .rw, .draft, 10, .dom⟩
/-! GPIO_OUTSET: R546, Table 24.8 of chapter 24. -/
def GPIO_OUTSET : Fld := ⟨0x17048, 0, 16, .wo, (.val 0), 10, .dom⟩
/-! GPIO_OUTCLR: R546, Table 24.8 of chapter 24. -/
def GPIO_OUTCLR : Fld := ⟨0x1704c, 0, 16, .wo, (.val 0), 10, .dom⟩
/-! GPIO_IN: R546, Table 24.8 of chapter 24. -/
def GPIO_IN : Fld := ⟨0x17050, 0, 16, .ro, (.val 0), 10, .dom⟩
/-! GPIO_EVT: R546, Table 24.8 of chapter 24. -/
def GPIO_EVT : Fld := ⟨0x17054, 0, 16, .w1c, (.val 0), 10, .dom⟩
/-! GPIO_ENCCFG: R546, Table 24.8 of chapter 24. -/
def GPIO_ENCCFG_EN : Fld := ⟨0x17060, 31, 1, .rw, .draft, 10, .dom⟩
def GPIO_ENCCFG_REV : Fld := ⟨0x17060, 3, 1, .rw, .draft, 10, .dom⟩
def GPIO_ENCCFG_IDXCLR : Fld := ⟨0x17060, 2, 1, .rw, .draft, 10, .dom⟩
def GPIO_ENCCFG_MODE : Fld := ⟨0x17060, 1, 1, .rw, .draft, 10, .dom⟩
/-! GPIO_ENCCNT: R546, Table 24.8 of chapter 24. -/
def GPIO_ENCCNT : Fld := ⟨0x17064, 0, 32, .rw, (.val 0), 10, .dom⟩
/-! GPIO_ENCSTAT: R546, Table 24.8 of chapter 24. -/
def GPIO_ENCSTAT_HALL : Fld := ⟨0x17068, 16, 3, .ro, (.val 0), 10, .dom⟩
def GPIO_ENCSTAT_HALLERR : Fld := ⟨0x17068, 1, 1, .w1c, (.val 0), 10, .dom⟩
def GPIO_ENCSTAT_QERR : Fld := ⟨0x17068, 0, 1, .w1c, (.val 0), 10, .dom⟩
/-! GPIO_IOSTAT: R546, Table 24.8 of chapter 24. -/
def GPIO_IOSTAT : Fld := ⟨0x17070, 0, 1, .ro, .undef, 10, .dom⟩
/-! UART0_CTRL: R547, Table 24.11 of chapter 24. -/
def UART0_CTRL_EN : Fld := ⟨0x18000, 31, 1, .rw, .draft, 10, .dom⟩
def UART0_CTRL_TXEN : Fld := ⟨0x18000, 30, 1, .rw, .draft, 10, .dom⟩
def UART0_CTRL_RXEN : Fld := ⟨0x18000, 29, 1, .rw, .draft, 10, .dom⟩
def UART0_CTRL_PARITY : Fld := ⟨0x18000, 8, 1, .rw, .draft, 10, .dom⟩
/-! UART0_RXDATA: R547, Table 24.11 of chapter 24. -/
def UART0_RXDATA_FERR : Fld := ⟨0x18004, 10, 1, .rs, (.val 0), 10, .dom⟩
def UART0_RXDATA_PERR : Fld := ⟨0x18004, 9, 1, .rs, (.val 0), 10, .dom⟩
def UART0_RXDATA_VALID : Fld := ⟨0x18004, 8, 1, .rs, (.val 0), 10, .dom⟩
def UART0_RXDATA_DATA : Fld := ⟨0x18004, 0, 8, .rs, (.val 0), 10, .dom⟩
/-! UART0_TXDATA: R547, Table 24.11 of chapter 24. -/
def UART0_TXDATA : Fld := ⟨0x18008, 0, 8, .wo, (.val 0), 10, .dom⟩
/-! UART0_DIV: R547, Table 24.11 of chapter 24. -/
def UART0_DIV : Fld := ⟨0x1800c, 0, 16, .rw, .draft, 10, .dom⟩
/-! UART0_STAT: R547, Table 24.11 of chapter 24. -/
def UART0_STAT_TXLVL : Fld := ⟨0x18010, 16, 5, .ro, (.val 0), 10, .dom⟩
def UART0_STAT_RXLVL : Fld := ⟨0x18010, 8, 5, .ro, (.val 0), 10, .dom⟩
def UART0_STAT_TXIDLE : Fld := ⟨0x18010, 5, 1, .ro, (.val 1), 10, .dom⟩
def UART0_STAT_BREAK : Fld := ⟨0x18010, 4, 1, .w1c, (.val 0), 10, .dom⟩
def UART0_STAT_TXOVR : Fld := ⟨0x18010, 3, 1, .w1c, (.val 0), 10, .dom⟩
def UART0_STAT_RXOVR : Fld := ⟨0x18010, 2, 1, .w1c, (.val 0), 10, .dom⟩
def UART0_STAT_PERR : Fld := ⟨0x18010, 1, 1, .w1c, (.val 0), 10, .dom⟩
def UART0_STAT_FERR : Fld := ⟨0x18010, 0, 1, .w1c, (.val 0), 10, .dom⟩
/-! UART0_IE: R547, Table 24.11 of chapter 24. -/
def UART0_IE_RXIE : Fld := ⟨0x18014, 31, 1, .rw, .draft, 10, .dom⟩
def UART0_IE_TXIE : Fld := ⟨0x18014, 30, 1, .rw, .draft, 10, .dom⟩
def UART0_IE_RXTHR : Fld := ⟨0x18014, 16, 5, .rw, .draft, 10, .dom⟩
def UART0_IE_TXTHR : Fld := ⟨0x18014, 8, 4, .rw, .draft, 10, .dom⟩
def UART0_IE_ERRIE : Fld := ⟨0x18014, 0, 5, .rw, .draft, 10, .dom⟩
/-! I2C0_CTRL: R548, Table 24.12 of chapter 24. -/
def I2C0_CTRL_CTLEN : Fld := ⟨0x19000, 31, 1, .rw, .draft, 10, .dom⟩
def I2C0_CTRL_TGTEN : Fld := ⟨0x19000, 30, 1, .rw, .draft, 10, .dom⟩
def I2C0_CTRL_SPEED : Fld := ⟨0x19000, 0, 2, .rw, .draft, 10, .dom⟩
/-! I2C0_RXDATA: R548, Table 24.12 of chapter 24. -/
def I2C0_RXDATA_FIRST : Fld := ⟨0x19004, 9, 1, .rs, (.val 0), 10, .dom⟩
def I2C0_RXDATA_VALID : Fld := ⟨0x19004, 8, 1, .rs, (.val 0), 10, .dom⟩
def I2C0_RXDATA_DATA : Fld := ⟨0x19004, 0, 8, .rs, (.val 0), 10, .dom⟩
/-! I2C0_TXDATA: R548, Table 24.12 of chapter 24. -/
def I2C0_TXDATA : Fld := ⟨0x19008, 0, 8, .wo, (.val 0), 10, .dom⟩
/-! I2C0_XFER: R548, Table 24.12 of chapter 24. -/
def I2C0_XFER_GO : Fld := ⟨0x1900c, 31, 1, .wo, (.val 0), 10, .dom⟩
def I2C0_XFER_STOP : Fld := ⟨0x1900c, 16, 1, .rw, (.val 0), 10, .dom⟩
def I2C0_XFER_LEN : Fld := ⟨0x1900c, 8, 8, .rw, (.val 0), 10, .dom⟩
def I2C0_XFER_RW : Fld := ⟨0x1900c, 7, 1, .rw, (.val 0), 10, .dom⟩
def I2C0_XFER_ADDR : Fld := ⟨0x1900c, 0, 7, .rw, (.val 0), 10, .dom⟩
/-! I2C0_TADDR: R548, Table 24.12 of chapter 24. -/
def I2C0_TADDR : Fld := ⟨0x19010, 0, 7, .rw, .draft, 10, .dom⟩
/-! I2C0_STAT: R548, Table 24.12 of chapter 24. -/
def I2C0_STAT_BUSBUSY : Fld := ⟨0x19014, 31, 1, .ro, (.val 0), 10, .dom⟩
def I2C0_STAT_CBUSY : Fld := ⟨0x19014, 30, 1, .ro, (.val 0), 10, .dom⟩
def I2C0_STAT_TADDRM : Fld := ⟨0x19014, 29, 1, .ro, (.val 0), 10, .dom⟩
def I2C0_STAT_TDIR : Fld := ⟨0x19014, 28, 1, .ro, (.val 0), 10, .dom⟩
def I2C0_STAT_OWNED : Fld := ⟨0x19014, 27, 1, .ro, (.val 0), 10, .dom⟩
def I2C0_STAT_XLEFT : Fld := ⟨0x19014, 16, 8, .ro, (.val 0), 10, .dom⟩
def I2C0_STAT_TXLVL : Fld := ⟨0x19014, 8, 5, .ro, (.val 0), 10, .dom⟩
def I2C0_STAT_RXLVL : Fld := ⟨0x19014, 0, 5, .ro, (.val 0), 10, .dom⟩
/-! I2C0_FLAG: R548, Table 24.12 of chapter 24. -/
def I2C0_FLAG_TXOVR : Fld := ⟨0x19018, 8, 1, .w1c, (.val 0), 10, .dom⟩
def I2C0_FLAG_XERR : Fld := ⟨0x19018, 7, 1, .w1c, (.val 0), 10, .dom⟩
def I2C0_FLAG_TSTOP : Fld := ⟨0x19018, 6, 1, .w1c, (.val 0), 10, .dom⟩
def I2C0_FLAG_ADDRD : Fld := ⟨0x19018, 5, 1, .w1c, (.val 0), 10, .dom⟩
def I2C0_FLAG_RXOVR : Fld := ⟨0x19018, 4, 1, .w1c, (.val 0), 10, .dom⟩
def I2C0_FLAG_TXUND : Fld := ⟨0x19018, 3, 1, .w1c, (.val 0), 10, .dom⟩
def I2C0_FLAG_ARBLOST : Fld := ⟨0x19018, 2, 1, .w1c, (.val 0), 10, .dom⟩
def I2C0_FLAG_NACK : Fld := ⟨0x19018, 1, 1, .w1c, (.val 0), 10, .dom⟩
def I2C0_FLAG_DONE : Fld := ⟨0x19018, 0, 1, .w1c, (.val 0), 10, .dom⟩
/-! I2C0_IE: R548, Table 24.12 of chapter 24. -/
def I2C0_IE_CIE : Fld := ⟨0x1901c, 31, 1, .rw, .draft, 10, .dom⟩
def I2C0_IE_TIE : Fld := ⟨0x1901c, 30, 1, .rw, .draft, 10, .dom⟩
def I2C0_IE_FIE : Fld := ⟨0x1901c, 29, 1, .rw, .draft, 10, .dom⟩
def I2C0_IE_RXTHR : Fld := ⟨0x1901c, 16, 5, .rw, .draft, 10, .dom⟩
def I2C0_IE_TXTHR : Fld := ⟨0x1901c, 8, 4, .rw, .draft, 10, .dom⟩
/-! HLT_CAUSE: R584, Table 26.4 of chapter 26. -/
def HLT_CAUSE : Fld := ⟨0x1d000, 0, 11, .ro, (.val 0), 0, .aon⟩
/-! HLT_STAT: R584, Table 26.4 of chapter 26. -/
def HLT_STAT_BSVCLIVE : Fld := ⟨0x1d004, 1, 1, .ro, (.val 0), 0, .aon⟩
def HLT_STAT_SVCREQ : Fld := ⟨0x1d004, 0, 1, .ro, (.val 0), 0, .aon⟩
/-! HLT_BSVC: R584, Table 26.4 of chapter 26. -/
def HLT_BSVC : Fld := ⟨0x1d008, 0, 3, .ro, (.val 0), 0, .sys⟩
/-! HLT_THEXC: R584, Table 26.4 of chapter 26. -/
def HLT_THEXC : Fld := ⟨0x1d00c, 0, 16, .ro, (.val 0), 0, .aon⟩
/-! HLT_THTHR: R584, Table 26.4 of chapter 26. -/
def HLT_THTHR : Fld := ⟨0x1d010, 0, 8, .rw, .draft, 0, .sys⟩

end R

/-- Part of the register table. -/
def regTable0 : List RegT := [
  ⟨0x0, 0x0, 1, 0x0, 1, [R.SYS_ID_PART, R.SYS_ID_MAJOR, R.SYS_ID_MINOR]⟩,
  ⟨0xd000, 0x100, 8, 0x0, 1, [R.ADC_CTRL_EN 0, R.ADC_CTRL_OVRIE 0, R.ADC_CTRL_SWSTART 0, R.ADC_CTRL_DONEIE 0]⟩,
  ⟨0xd010, 0x4, 4, 0x100, 8, [R.ADC_SLOT_AVG 0 0, R.ADC_SLOT_SEL 0 0]⟩,
  ⟨0xd020, 0x4, 4, 0x100, 8, [R.ADC_RES_NEW 0 0, R.ADC_RES_REFSW 0 0, R.ADC_RES_AVGD 0 0, R.ADC_RES_DATA 0 0]⟩,
  ⟨0xd030, 0x100, 8, 0x0, 1, [R.ADC_STAT_PEND 0, R.ADC_STAT_OVR 0, R.ADC_STAT_DONE 0]⟩,
  ⟨0xd034, 0x100, 8, 0x0, 1, [R.ADC_OVRCNT 0]⟩,
  ⟨0xe000, 0x20, 16, 0x0, 1, [R.CMP_CFG_EN 0, R.CMP_CFG_TRIPEN 0, R.CMP_CFG_HYST 0, R.CMP_CFG_INSEL 0, R.CMP_CFG_SLPEN 0, R.CMP_CFG_SLPPAIR 0, R.CMP_CFG_FILT 0, R.CMP_CFG_BLANK 0, R.CMP_CFG_BLKPAIR 0]⟩,
  ⟨0xe004, 0x20, 16, 0x0, 1, [R.CMP_THR 0]⟩,
  ⟨0xe008, 0x20, 16, 0x0, 1, [R.CMP_SLOPE 0]⟩,
  ⟨0xe00c, 0x20, 16, 0x0, 1, [R.CMP_STAT_OUT 0, R.CMP_STAT_RAW 0, R.CMP_STAT_FALL 0, R.CMP_STAT_RISE 0]⟩,
  ⟨0xe800, 0x4, 2, 0x0, 1, [R.DAC_DATA 0]⟩,
  ⟨0xe808, 0x0, 1, 0x0, 1, [R.DAC_EN_EN1, R.DAC_EN_EN0]⟩,
  ⟨0xf000, 0x0, 1, 0x0, 1, [R.RFM_CFG_SWEN, R.RFM_CFG_INITSEL, R.RFM_CFG_FITB, R.RFM_CFG_FITA]⟩,
  ⟨0xf004, 0x0, 1, 0x0, 1, [R.RFM_NOMA]⟩,
  ⟨0xf008, 0x0, 1, 0x0, 1, [R.RFM_NOMB]⟩,
  ⟨0xf00c, 0x0, 1, 0x0, 1, [R.RFM_WIN_OUTER, R.RFM_WIN_INNER]⟩,
  ⟨0xf010, 0x0, 1, 0x0, 1, [R.RFM_STAT_ACTIVE, R.RFM_STAT_NOMAJ, R.RFM_STAT_SELFCHK, R.RFM_STAT_HELD, R.RFM_STAT_FAULT, R.RFM_STAT_SWITCHED, R.RFM_STAT_INNER]⟩,
  ⟨0xf014, 0x0, 1, 0x0, 1, [R.RFM_DEV_IA]⟩,
  ⟨0xf018, 0x0, 1, 0x0, 1, [R.RFM_DEV_IB]⟩,
  ⟨0xf01c, 0x0, 1, 0x0, 1, [R.RFM_DEV_AB]⟩,
  ⟨0xf020, 0x0, 1, 0x0, 1, [R.RFM_GCORR]⟩,
  ⟨0xf024, 0x0, 1, 0x0, 1, [R.RFM_SWCNT]⟩,
  ⟨0xf028, 0x0, 1, 0x0, 1, [R.RFM_LASTSW]⟩,
  ⟨0xc000, 0x100, 16, 0x0, 1, [R.LN_CTRL_EN 0, R.LN_CTRL_UPD 0, R.LN_CTRL_HCLR 0, R.LN_CTRL_MODE 0, R.LN_CTRL_RUNSRC 0, R.LN_CTRL_INV 0, R.LN_CTRL_REFSEL 0, R.LN_CTRL_BOOSTEN 0, R.LN_CTRL_MISSACT 0, R.LN_CTRL_FRZBOOST 0, R.LN_CTRL_FRZLVL 0, R.LN_CTRL_DSTTYPE 0, R.LN_CTRL_DSTIDX 0]⟩]

/-- Part of the register table. -/
def regTable1 : List RegT := [
  ⟨0xc004, 0x100, 16, 0x0, 1, [R.LN_IN_INEN 0, R.LN_IN_MAXAGE 0, R.LN_IN_SLOT 0]⟩,
  ⟨0xc008, 0x100, 16, 0x0, 1, [R.LN_OFFS 0]⟩,
  ⟨0xc00c, 0x100, 16, 0x0, 1, [R.LN_GAIN 0]⟩,
  ⟨0xc010, 0x100, 16, 0x0, 1, [R.LN_REF 0]⟩,
  ⟨0xc014, 0x100, 16, 0x0, 1, [R.LN_RSLEW 0]⟩,
  ⟨0xc018, 0x100, 16, 0x0, 1, [R.LN_REFNOW 0]⟩,
  ⟨0xc01c, 0x100, 16, 0x0, 1, [R.LN_DSTMASK 0]⟩,
  ⟨0xc020, 0x4, 4, 0x100, 16, [R.LN_B 0 0]⟩,
  ⟨0xc030, 0x4, 3, 0x100, 16, [R.LN_A 0 0]⟩,
  ⟨0xc040, 0x100, 16, 0x0, 1, [R.LN_OMIN 0]⟩,
  ⟨0xc044, 0x100, 16, 0x0, 1, [R.LN_OMAX 0]⟩,
  ⟨0xc048, 0x100, 16, 0x0, 1, [R.LN_BTHR 0]⟩,
  ⟨0xc04c, 0x100, 16, 0x0, 1, [R.LN_BK 0]⟩,
  ⟨0xc050, 0x100, 16, 0x0, 1, [R.LN_OOFS 0]⟩,
  ⟨0xc054, 0x100, 16, 0x0, 1, [R.LN_OSPAN 0]⟩,
  ⟨0xc060, 0x100, 16, 0x0, 1, [R.LN_OUT 0]⟩,
  ⟨0xc064, 0x100, 16, 0x0, 1, [R.LN_ERR 0]⟩,
  ⟨0xc068, 0x100, 16, 0x0, 1, [R.LN_STAT_WINERR 0, R.LN_STAT_FCLAMP 0, R.LN_STAT_INHIB 0, R.LN_STAT_BACT 0, R.LN_STAT_DSTBUSY 0, R.LN_STAT_RUNOVR 0, R.LN_STAT_INMISS 0, R.LN_STAT_MISS 0, R.LN_STAT_CONF 0, R.LN_STAT_SAT 0]⟩,
  ⟨0xc06c, 0x100, 16, 0x0, 1, [R.LN_CONFLICT 0]⟩,
  ⟨0x7000, 0x4, 96, 0x0, 1, [R.HED_DST_EN 0, R.HED_DST_DIV 0, R.HED_DST_SRC 0]⟩,
  ⟨0x7180, 0x0, 1, 0x0, 1, [R.HED_SWSTB]⟩,
  ⟨0x7184, 0x0, 1, 0x0, 1, [R.HED_TICK]⟩,
  ⟨0x7200, 0x20, 2, 0x0, 1, [R.SHED_CFG_EN 0, R.SHED_CFG_FREEZE 0, R.SHED_CFG_OWNER 0, R.SHED_CFG_DWELL 0, R.SHED_CFG_NMAX 0, R.SHED_CFG_NMIN 0, R.SHED_CFG_NNOM 0]⟩,
  ⟨0x7204, 0x20, 2, 0x0, 1, [R.SHED_MEMB 0]⟩]

/-- Part of the register table. -/
def regTable2 : List RegT := [
  ⟨0x7208, 0x20, 2, 0x0, 1, [R.SHED_DROP 0]⟩,
  ⟨0x720c, 0x20, 2, 0x0, 1, [R.SHED_ADD 0]⟩,
  ⟨0x7210, 0x20, 2, 0x0, 1, [R.SHED_STAT_N 0, R.SHED_STAT_CFGERR 0, R.SHED_STAT_CHANGE 0]⟩,
  ⟨0x8000, 0x400, 12, 0x0, 1, [R.PWM_CTRL_EN 0, R.PWM_CTRL_MODE 0, R.PWM_CTRL_BMODE 0, R.PWM_CTRL_UPDMODE 0, R.PWM_CTRL_SHHOLD 0, R.PWM_CTRL_SHPEAK 0, R.PWM_CTRL_SYNCSRC 0, R.PWM_CTRL_MASTER 0, R.PWM_CTRL_GSARM 0, R.PWM_CTRL_PRESC 0, R.PWM_CTRL_CTCMP 0]⟩,
  ⟨0x8004, 0x400, 12, 0x0, 1, [R.PWM_PER 0]⟩,
  ⟨0x8008, 0x400, 12, 0x0, 1, [R.PWM_CMPA 0]⟩,
  ⟨0x800c, 0x400, 12, 0x0, 1, [R.PWM_CMPB 0]⟩,
  ⟨0x8010, 0x400, 12, 0x0, 1, [R.PWM_PHASE 0]⟩,
  ⟨0x8014, 0x400, 12, 0x0, 1, [R.PWM_DTR 0]⟩,
  ⟨0x8018, 0x400, 12, 0x0, 1, [R.PWM_DTF 0]⟩,
  ⟨0x801c, 0x400, 12, 0x0, 1, [R.PWM_TRG_TRG1 0, R.PWM_TRG_TRG0 0]⟩,
  ⟨0x8020, 0x400, 12, 0x0, 1, [R.PWM_TRGCFG_TRG1DIR 0, R.PWM_TRGCFG_TRG0DIR 0]⟩,
  ⟨0x8024, 0x400, 12, 0x0, 1, [R.PWM_BURST_BOFF 0, R.PWM_BURST_BON 0]⟩,
  ⟨0x8028, 0x400, 12, 0x0, 1, [R.PWM_SKIPMIN 0]⟩,
  ⟨0x802c, 0x400, 12, 0x0, 1, [R.PWM_SAFE_POLB 0, R.PWM_SAFE_POLA 0, R.PWM_SAFE_EFFB 0, R.PWM_SAFE_EFFA 0, R.PWM_SAFE_FUSEB 0, R.PWM_SAFE_FUSEA 0, R.PWM_SAFE_SAFEB 0, R.PWM_SAFE_SAFEA 0]⟩,
  ⟨0x8030, 0x400, 12, 0x0, 1, [R.PWM_ADT_EN 0, R.PWM_ADT_FRZ 0, R.PWM_ADT_OWNER 0, R.PWM_ADT_CMP 0, R.PWM_ADT_STEP 0, R.PWM_ADT_MARGIN 0]⟩,
  ⟨0x8034, 0x400, 12, 0x0, 1, [R.PWM_ADTMIN 0]⟩,
  ⟨0x8038, 0x400, 12, 0x0, 1, [R.PWM_ADTMAX 0]⟩,
  ⟨0x8040, 0x400, 12, 0x0, 1, [R.PWM_LIMIT_VSMAX 0, R.PWM_LIMIT_VSSLOT 0, R.PWM_LIMIT_DMAX 0]⟩,
  ⟨0x8044, 0x400, 12, 0x0, 1, [R.PWM_CNT_DOWN 0, R.PWM_CNT_CNT 0]⟩,
  ⟨0x8048, 0x400, 12, 0x0, 1, [R.PWM_STAT_CFGERR 0, R.PWM_STAT_ADTMISS 0, R.PWM_STAT_FCLAMP 0, R.PWM_STAT_DEFER 0, R.PWM_STAT_SKIP 0, R.PWM_STAT_SHED 0, R.PWM_STAT_TRIPPED 0, R.PWM_STAT_GSWAIT 0]⟩,
  ⟨0x804c, 0x400, 12, 0x0, 1, [R.PWM_DEFERCNT 0]⟩,
  ⟨0x8050, 0x400, 12, 0x0, 1, [R.PWM_IE_CMPBIE 0, R.PWM_IE_CMPAIE 0, R.PWM_IE_PERIE 0]⟩,
  ⟨0x8060, 0x400, 12, 0x0, 1, [R.PWM_PERNOW 0]⟩]

/-- Part of the register table. -/
def regTable3 : List RegT := [
  ⟨0x8064, 0x400, 12, 0x0, 1, [R.PWM_CMPANOW 0]⟩,
  ⟨0x8068, 0x400, 12, 0x0, 1, [R.PWM_CMPBNOW 0]⟩,
  ⟨0x806c, 0x400, 12, 0x0, 1, [R.PWM_PHASENOW 0]⟩,
  ⟨0x8070, 0x400, 12, 0x0, 1, [R.PWM_DTRNOW 0]⟩,
  ⟨0x8074, 0x400, 12, 0x0, 1, [R.PWM_DTFNOW 0]⟩,
  ⟨0xb000, 0x0, 1, 0x0, 1, [R.TRP_TZCFG_POL, R.TRP_TZCFG_GTZEN]⟩,
  ⟨0xb010, 0x4, 12, 0x0, 1, [R.TRP_MAP_SW 0, R.TRP_MAP_TZ 0, R.TRP_MAP_CMP 0]⟩,
  ⟨0xb040, 0x4, 12, 0x0, 1, [R.TRP_CFG_TRIPIE 0, R.TRP_CFG_LATCH 0]⟩,
  ⟨0xb070, 0x4, 12, 0x0, 1, [R.TRP_STAT_CLR 0, R.TRP_STAT_TRIPPED 0, R.TRP_STAT_CAUSE 0]⟩,
  ⟨0xb0a0, 0x0, 1, 0x0, 1, [R.TRP_SWTRIP_SWCLR, R.TRP_SWTRIP_SWSET]⟩,
  ⟨0x10000, 0x0, 1, 0x0, 1, [R.EGV_CFG_EN, R.EGV_CFG_CHLANE, R.EGV_CFG_BLDPAIR, R.EGV_CFG_BLDLY, R.EGV_CFG_VSLOT]⟩,
  ⟨0x10004, 0x0, 1, 0x0, 1, [R.EGV_CHGMAP]⟩,
  ⟨0x10008, 0x0, 1, 0x0, 1, [R.EGV_LOADMAP]⟩,
  ⟨0x10010, 0x0, 1, 0x0, 1, [R.EGV_FCAP]⟩,
  ⟨0x10014, 0x0, 1, 0x0, 1, [R.EGV_FLIM_EMAX, R.EGV_FLIM_EZMIN]⟩,
  ⟨0x10018, 0x0, 1, 0x0, 1, [R.EGV_FREL_RMAX, R.EGV_FREL_VAIN, R.EGV_FREL_MESHEMAX]⟩,
  ⟨0x1001c, 0x0, 1, 0x0, 1, [R.EGV_FVSCALE]⟩,
  ⟨0x10020, 0x0, 1, 0x0, 1, [R.EGV_ECEIL]⟩,
  ⟨0x10024, 0x0, 1, 0x0, 1, [R.EGV_EFLOOR]⟩,
  ⟨0x10028, 0x0, 1, 0x0, 1, [R.EGV_EHYS]⟩,
  ⟨0x1002c, 0x0, 1, 0x0, 1, [R.EGV_RLIM]⟩,
  ⟨0x10030, 0x0, 1, 0x0, 1, [R.EGV_EHI]⟩,
  ⟨0x10034, 0x0, 1, 0x0, 1, [R.EGV_ELO]⟩,
  ⟨0x10038, 0x0, 1, 0x0, 1, [R.EGV_CMEAS]⟩]

/-- Part of the register table. -/
def regTable4 : List RegT := [
  ⟨0x1003c, 0x0, 1, 0x0, 1, [R.EGV_CMCFG_EN, R.EGV_CMCFG_CMSLOT, R.EGV_CMCFG_VB, R.EGV_CMCFG_VA]⟩,
  ⟨0x10040, 0x0, 1, 0x0, 1, [R.EGV_QSCALE]⟩,
  ⟨0x10044, 0x0, 1, 0x0, 1, [R.EGV_REL]⟩,
  ⟨0x10048, 0x0, 1, 0x0, 1, [R.EGV_STAT_LVLERR, R.EGV_STAT_LIMERR, R.EGV_STAT_LQ, R.EGV_STAT_MEASFAIL, R.EGV_STAT_FLOOROVR, R.EGV_STAT_BLEED, R.EGV_STAT_INHIB, R.EGV_STAT_TRIPPED, R.EGV_STAT_CMDONE, R.EGV_STAT_CMSKIP, R.EGV_STAT_BSVC, R.EGV_STAT_RELTRIP, R.EGV_STAT_FLRTRIP, R.EGV_STAT_CEILTRIP, R.EGV_STAT_LQDROP, R.EGV_STAT_FLOOR, R.EGV_STAT_CEIL]⟩,
  ⟨0x1004c, 0x0, 1, 0x0, 1, [R.EGV_LQCNT]⟩,
  ⟨0x10050, 0x0, 1, 0x0, 1, [R.EGV_LVLCFG_EN, R.EGV_LVLCFG_LANE, R.EGV_LVLCFG_TAUSEL]⟩,
  ⟨0x10054, 0x0, 1, 0x0, 1, [R.EGV_LVLSET]⟩,
  ⟨0x10058, 0x0, 1, 0x0, 1, [R.EGV_LVLWGAIN]⟩,
  ⟨0x1005c, 0x0, 1, 0x0, 1, [R.EGV_LVLRMIN]⟩,
  ⟨0x10060, 0x0, 1, 0x0, 1, [R.EGV_LVLRMAX]⟩,
  ⟨0x10064, 0x0, 1, 0x0, 1, [R.EGV_LVLSLEW]⟩,
  ⟨0x10068, 0x0, 1, 0x0, 1, [R.EGV_LVLFLM]⟩,
  ⟨0x1006c, 0x0, 1, 0x0, 1, [R.EGV_LVLREF]⟩,
  ⟨0x10070, 0x0, 1, 0x0, 1, [R.EGV_LVLP]⟩,
  ⟨0x10074, 0x0, 1, 0x0, 1, [R.EGV_LVLM]⟩,
  ⟨0x6000, 0x40, 16, 0x0, 1, [R.TMR_CTRL_EN 0, R.TMR_CTRL_GSARM 0, R.TMR_CTRL_MODE 0, R.TMR_CTRL_SHADOW 0, R.TMR_CTRL_DBGFRZ 0, R.TMR_CTRL_EVSEL 0, R.TMR_CTRL_PSC 0, R.TMR_CTRL_FILT 0, R.TMR_CTRL_CAPEDGE 0, R.TMR_CTRL_CAPCLR 0, R.TMR_CTRL_DIR 0, R.TMR_CTRL_IE 0]⟩,
  ⟨0x6004, 0x40, 16, 0x0, 1, [R.TMR_CNT 0]⟩,
  ⟨0x6008, 0x40, 16, 0x0, 1, [R.TMR_TOP 0]⟩,
  ⟨0x600c, 0x40, 16, 0x0, 1, [R.TMR_CMPA 0]⟩,
  ⟨0x6010, 0x40, 16, 0x0, 1, [R.TMR_CMPB 0]⟩,
  ⟨0x6014, 0x40, 16, 0x0, 1, [R.TMR_START 0]⟩,
  ⟨0x6018, 0x40, 16, 0x0, 1, [R.TMR_CAP 0]⟩,
  ⟨0x601c, 0x40, 16, 0x0, 1, [R.TMR_CAPTB_LO 0]⟩,
  ⟨0x6020, 0x40, 16, 0x0, 1, [R.TMR_CAPTB_HI 0]⟩]

/-- Part of the register table. -/
def regTable5 : List RegT := [
  ⟨0x6024, 0x40, 16, 0x0, 1, [R.TMR_STAT_DONE 0, R.TMR_STAT_GSWAIT 0, R.TMR_STAT_PINLVL 0, R.TMR_STAT_CAPOVR 0, R.TMR_STAT_CAPNEW 0, R.TMR_STAT_CAP 0, R.TMR_STAT_OVF 0, R.TMR_STAT_CMPB 0, R.TMR_STAT_CMPA 0]⟩,
  ⟨0x6028, 0x40, 16, 0x0, 1, [R.TMR_PIN_FORCE 0, R.TMR_PIN_IDLE 0, R.TMR_PIN_INIT 0, R.TMR_PIN_ACTO 0, R.TMR_PIN_ACTB 0, R.TMR_PIN_ACTA 0]⟩,
  ⟨0x6800, 0x0, 1, 0x0, 1, [R.TB_LO]⟩,
  ⟨0x6804, 0x0, 1, 0x0, 1, [R.TB_HI]⟩,
  ⟨0x6808, 0x0, 1, 0x0, 1, [R.TB_STAT]⟩,
  ⟨0x6810, 0x0, 1, 0x0, 1, [R.TMR_GSTART_REL, R.TMR_GSTART_LATE, R.TMR_GSTART_PEND, R.TMR_GSTART_CANCEL, R.TMR_GSTART_ARMAT, R.TMR_GSTART_GO]⟩,
  ⟨0x6814, 0x0, 1, 0x0, 1, [R.TMR_GSPICK_LO]⟩,
  ⟨0x6818, 0x0, 1, 0x0, 1, [R.TMR_GSPICK_HI]⟩,
  ⟨0x6900, 0x10, 4, 0x0, 1, [R.STG_CFG_LOAD 0, R.STG_CFG_TYPE 0, R.STG_CFG_AUTO 0, R.STG_CFG_MEMB 0]⟩,
  ⟨0x6904, 0x10, 4, 0x0, 1, [R.STG_STAT_N 0, R.STG_STAT_CFGERR 0, R.STG_STAT_LOADED 0]⟩,
  ⟨0x11000, 0x0, 1, 0x0, 1, [R.WRP_CFG_EN, R.WRP_CFG_ROLE, R.WRP_CFG_RRSTEN]⟩,
  ⟨0x11004, 0x0, 1, 0x0, 1, [R.WRP_ID_VALID, R.WRP_ID_ID]⟩,
  ⟨0x11008, 0x0, 1, 0x0, 1, [R.WRP_STAT_TIMELOCK, R.WRP_STAT_TIME_LOST, R.WRP_STAT_LINKDOWN, R.WRP_STAT_RINGOPEN, R.WRP_STAT_BYPASS, R.WRP_STAT_NOID, R.WRP_STAT_TOOMANY, R.WRP_STAT_LONG, R.WRP_STAT_CALFAIL, R.WRP_STAT_DUALM, R.WRP_STAT_IDCHG, R.WRP_STAT_SLOTERR, R.WRP_STAT_SLOTLD, R.WRP_STAT_GSOVF, R.WRP_STAT_GSARMED]⟩,
  ⟨0x1100c, 0x0, 1, 0x0, 1, [R.WRP_NODES]⟩,
  ⟨0x11010, 0x0, 1, 0x0, 1, [R.WRP_LINKTRIM]⟩,
  ⟨0x11014, 0x0, 1, 0x0, 1, [R.WRP_FWD]⟩,
  ⟨0x11018, 0x0, 1, 0x0, 1, [R.WRP_DELAY]⟩,
  ⟨0x1101c, 0x0, 1, 0x0, 1, [R.WRP_LBAR]⟩,
  ⟨0x11020, 0x0, 1, 0x0, 1, [R.WRP_RTT]⟩,
  ⟨0x11024, 0x0, 1, 0x0, 1, [R.WRP_PHERR]⟩,
  ⟨0x11028, 0x0, 1, 0x0, 1, [R.WRP_SLOT_LOAD, R.WRP_SLOT_N, R.WRP_SLOT_K]⟩,
  ⟨0x1102c, 0x0, 1, 0x0, 1, [R.WRP_SLOTPAIRS]⟩,
  ⟨0x11030, 0x0, 1, 0x0, 1, [R.WRP_GSMASK]⟩,
  ⟨0x11034, 0x0, 1, 0x0, 1, [R.WRP_GSNEXT_LO]⟩]

/-- Part of the register table. -/
def regTable6 : List RegT := [
  ⟨0x11038, 0x0, 1, 0x0, 1, [R.WRP_GSNEXT_HI]⟩,
  ⟨0x1103c, 0x0, 1, 0x0, 1, [R.WRP_CRCCNT]⟩,
  ⟨0x11040, 0x0, 1, 0x0, 1, [R.WRP_ORPHAN]⟩,
  ⟨0x11044, 0x0, 1, 0x0, 1, [R.WRP_TIMEERR]⟩,
  ⟨0x12000, 0x0, 1, 0x0, 1, [R.PLY_MODE_FORCED, R.PLY_MODE_TARGET, R.PLY_MODE_CUR]⟩,
  ⟨0x12004, 0x0, 1, 0x0, 1, [R.PLY_CFG_UNREC, R.PLY_CFG_BOOTMODE, R.PLY_CFG_RSTHR]⟩,
  ⟨0x12008, 0x0, 1, 0x0, 1, [R.PLY_STATUS_EXPOSED, R.PLY_STATUS_JOINING, R.PLY_STATUS_SPLITTING, R.PLY_STATUS_RESYNC, R.PLY_STATUS_ODD, R.PLY_STATUS_RETIRED, R.PLY_STATUS_WAITC, R.PLY_STATUS_WAITB, R.PLY_STATUS_HOERR, R.PLY_STATUS_RSDONE, R.PLY_STATUS_MISM]⟩,
  ⟨0x1200c, 0x0, 1, 0x0, 1, [R.PLY_BSTART]⟩,
  ⟨0x12010, 0x0, 1, 0x0, 1, [R.PLY_CSTART]⟩,
  ⟨0x12014, 0x0, 1, 0x0, 1, [R.PLY_MISCLASS]⟩,
  ⟨0x12018, 0x0, 1, 0x0, 1, [R.PLY_RSCNT_C, R.PLY_RSCNT_B, R.PLY_RSCNT_A]⟩,
  ⟨0x1201c, 0x0, 1, 0x0, 1, [R.PLY_LASTRS_LO]⟩,
  ⟨0x12020, 0x0, 1, 0x0, 1, [R.PLY_LASTRS_HI]⟩,
  ⟨0x12024, 0x0, 1, 0x0, 1, [R.PLY_SCRUB_PASSES, R.PLY_SCRUB_FIXES]⟩,
  ⟨0x12028, 0x0, 1, 0x0, 1, [R.PLY_FAULT_CAUSE, R.PLY_FAULT_COUNT]⟩,
  ⟨0x1202c, 0x4, 3, 0x0, 1, [R.PLY_WDT_EN 0, R.PLY_WDT_TIMEOUT 0]⟩,
  ⟨0x12038, 0x0, 1, 0x0, 1, [R.PLY_WDKICK]⟩,
  ⟨0x13000, 0x0, 1, 0x0, 1, [R.TIL_STAT_USE, R.TIL_STAT_PROGV, R.TIL_STAT_DRNSAT, R.TIL_STAT_ACCSAT]⟩,
  ⟨0x13004, 0x0, 1, 0x0, 1, [R.TIL_ACCSATCNT]⟩,
  ⟨0x13008, 0x0, 1, 0x0, 1, [R.TIL_DRNSATCNT]⟩,
  ⟨0x1300c, 0x0, 1, 0x0, 1, [R.TIL_MOVECNT_STOPS, R.TIL_MOVECNT_RESUMES]⟩,
  ⟨0x4000, 0x4, 224, 0x0, 1, [R.ICU_SRC_EN 0, R.ICU_SRC_HWAKE 0, R.ICU_SRC_GRPEN 0, R.ICU_SRC_TARGET 0, R.ICU_SRC_GROUP 0, R.ICU_SRC_PRI 0]⟩,
  ⟨0x4400, 0x4, 224, 0x0, 1, [R.ICU_COAL_COUNT 0, R.ICU_COAL_TIME 0]⟩,
  ⟨0x4800, 0x4, 224, 0x0, 1, [R.ICU_STS_PEND 0, R.ICU_STS_ACT 0, R.ICU_STS_ACTCLR 0, R.ICU_STS_READY 0, R.ICU_STS_HELD 0, R.ICU_STS_ACTBY 0, R.ICU_STS_EVC 0, R.ICU_STS_LASTCNT 0]⟩]

/-- Part of the register table. -/
def regTable7 : List RegT := [
  ⟨0x4c00, 0x4, 16, 0x0, 1, [R.ICU_GRP 0]⟩,
  ⟨0x4d00, 0x0, 1, 0x0, 1, [R.ICU_STAT_MASKRACE, R.ICU_STAT_RESTORED]⟩,
  ⟨0x4d04, 0x0, 1, 0x0, 1, [R.ICU_STRAY]⟩,
  ⟨0x4d08, 0x0, 1, 0x0, 1, [R.ICU_STRAYTHR]⟩,
  ⟨0x4d0c, 0x0, 1, 0x0, 1, [R.ICU_STRAYLAST_VALID, R.ICU_STRAYLAST_CORE, R.ICU_STRAYLAST_SRC]⟩,
  ⟨0x4d10, 0x0, 1, 0x0, 1, [R.ICU_SGISET]⟩,
  ⟨0x4d14, 0x0, 1, 0x0, 1, [R.ICU_JOINDROP]⟩,
  ⟨0x5000, 0x40, 16, 0x0, 1, [R.DMA_CH_CTRL_EN 0, R.DMA_CH_CTRL_PRIO 0, R.DMA_CH_CTRL_DBGFRZ 0, R.DMA_CH_CTRL_ERRIE 0, R.DMA_CH_CTRL_SWTRIG 0]⟩,
  ⟨0x5004, 0x40, 16, 0x0, 1, [R.DMA_CH_DESC 0]⟩,
  ⟨0x5008, 0x40, 16, 0x0, 1, [R.DMA_CH_CUR 0]⟩,
  ⟨0x500c, 0x40, 16, 0x0, 1, [R.DMA_CH_LEFT_YLEFT 0, R.DMA_CH_LEFT_XLEFT 0]⟩,
  ⟨0x5010, 0x40, 16, 0x0, 1, [R.DMA_CH_STAT_BUSY 0, R.DMA_CH_STAT_LOADED 0, R.DMA_CH_STAT_ID 0, R.DMA_CH_STAT_TRGPEND 0, R.DMA_CH_STAT_ENERR 0, R.DMA_CH_STAT_TRGOVR 0, R.DMA_CH_STAT_END 0, R.DMA_CH_STAT_DONE 0, R.DMA_CH_STAT_ERR 0, R.DMA_CH_STAT_ABORT 0]⟩,
  ⟨0x5014, 0x40, 16, 0x0, 1, [R.DMA_CH_ERR 0]⟩,
  ⟨0x5018, 0x40, 16, 0x0, 1, [R.DMA_CH_ERRADDR 0]⟩,
  ⟨0x501c, 0x40, 16, 0x0, 1, [R.DMA_CH_DONECNT 0]⟩,
  ⟨0x5400, 0x0, 1, 0x0, 1, [R.DMA_GSTAT]⟩,
  ⟨0x14000, 0x0, 1, 0x0, 1, [R.WLD_CFG_FORCEC, R.WLD_CFG_FORCEF, R.WLD_CFG_EFFPRED, R.WLD_CFG_EFFCACHE, R.WLD_CFG_SPSIZE, R.WLD_CFG_PREDPOL, R.WLD_CFG_CACHEPOL]⟩,
  ⟨0x14004, 0x0, 1, 0x0, 1, [R.WLD_SWDT]⟩,
  ⟨0x14008, 0x0, 1, 0x0, 1, [R.WLD_SIMG]⟩,
  ⟨0x1400c, 0x0, 1, 0x0, 1, [R.WLD_STAT_LOADED, R.WLD_STAT_RESTARTING, R.WLD_STAT_LOADFAIL, R.WLD_STAT_FAILCAUSE, R.WLD_STAT_RSCAUSE, R.WLD_STAT_WDT, R.WLD_STAT_FAULT, R.WLD_STAT_RSDONE, R.WLD_STAT_RSBEGIN]⟩,
  ⟨0x14010, 0x0, 1, 0x0, 1, [R.WLD_CTRL]⟩,
  ⟨0x14014, 0x0, 1, 0x0, 1, [R.WLD_FAULT_GATE, R.WLD_FAULT_CODE]⟩,
  ⟨0x14018, 0x0, 1, 0x0, 1, [R.WLD_SXBASE]⟩,
  ⟨0x1401c, 0x0, 1, 0x0, 1, [R.WLD_SXLIM]⟩]

/-- Part of the register table. -/
def regTable8 : List RegT := [
  ⟨0x14020, 0x0, 1, 0x0, 1, [R.WLD_NGATE]⟩,
  ⟨0x14024, 0x0, 1, 0x0, 1, [R.WLD_VERSION]⟩,
  ⟨0x14028, 0x0, 1, 0x0, 1, [R.WLD_LOADS]⟩,
  ⟨0x1402c, 0x4, 12, 0x0, 1, [R.WLD_MEAS 0]⟩,
  ⟨0x10000000, 0x0, 1, 0x0, 1, [R.HIF_ID]⟩,
  ⟨0x10000004, 0x0, 1, 0x0, 1, [R.HIF_STATUS_FWREADY, R.HIF_STATUS_RESTARTING, R.HIF_STATUS_ENTRY_PENDING, R.HIF_STATUS_PSTATE, R.HIF_STATUS_AUTHFAIL, R.HIF_STATUS_DBERR, R.HIF_STATUS_MBWERR]⟩,
  ⟨0x10000008, 0x0, 1, 0x0, 1, [R.HIF_CFG]⟩,
  ⟨0x1000000c, 0x0, 1, 0x0, 1, [R.HIF_MBDB]⟩,
  ⟨0x10000010, 0x0, 1, 0x0, 1, [R.HIF_MBST 0, R.HIF_MBST 1, R.HIF_MBST 2, R.HIF_MBST 3, R.HIF_MBST 4, R.HIF_MBST 5, R.HIF_MBST 6, R.HIF_MBST 7]⟩,
  ⟨0x10000014, 0x0, 1, 0x0, 1, [R.HIF_MBACK]⟩,
  ⟨0x10000018, 0x0, 1, 0x0, 1, [R.HIF_IRQSTAT_ERR, R.HIF_IRQSTAT_FWEVT, R.HIF_IRQSTAT_QCOMP, R.HIF_IRQSTAT_MBDONE]⟩,
  ⟨0x1000001c, 0x0, 1, 0x0, 1, [R.HIF_IRQEN]⟩,
  ⟨0x10000020, 0x0, 1, 0x0, 1, [R.HIF_NOTICELOST]⟩,
  ⟨0x15000, 0x0, 1, 0x0, 1, [R.LMB_DB]⟩,
  ⟨0x15004, 0x0, 1, 0x0, 1, [R.LMB_STATE_DBERR, R.LMB_STATE_WERR, R.LMB_STATE_SHELD, R.LMB_ST 0, R.LMB_ST 1, R.LMB_ST 2, R.LMB_ST 3]⟩,
  ⟨0x15008, 0x0, 1, 0x0, 1, [R.LMB_ACK]⟩,
  ⟨0x10000040, 0x0, 1, 0x0, 1, [R.Q_CTRL]⟩,
  ⟨0x10000044, 0x0, 1, 0x0, 1, [R.Q_SQTAIL]⟩,
  ⟨0x10000048, 0x0, 1, 0x0, 1, [R.Q_SQHEAD]⟩,
  ⟨0x1000004c, 0x0, 1, 0x0, 1, [R.Q_CQHEAD]⟩,
  ⟨0x10000050, 0x0, 1, 0x0, 1, [R.Q_CQTAIL]⟩,
  ⟨0x10000054, 0x0, 1, 0x0, 1, [R.Q_STATUS_HELD, R.Q_STATUS_TAMPER, R.Q_STATUS_CQERR, R.Q_STATUS_SQERR]⟩,
  ⟨0x10000058, 0x0, 1, 0x0, 1, [R.Q_TAGS]⟩,
  ⟨0x1000005c, 0x0, 1, 0x0, 1, [R.Q_TAGBUSY]⟩]

/-- Part of the register table. -/
def regTable9 : List RegT := [
  ⟨0x1a000, 0x0, 1, 0x0, 1, [R.TMP_STAT_RESP, R.TMP_STAT_ZACT, R.TMP_STAT_LOCKED, R.TMP_STAT_ONVBAT, R.TMP_STAT_ACTIVE, R.TMP_STAT_LATCHED]⟩,
  ⟨0x1a004, 0x0, 1, 0x0, 1, [R.TMP_SRCCFG_ACTION, R.TMP_SRCCFG_EN]⟩,
  ⟨0x1a008, 0x4, 2, 0x0, 1, [R.TMP_MESH_FILT 0, R.TMP_MESH_VSEL 0, R.TMP_MESH_ILIM 0, R.TMP_MESH_PWSEL 0]⟩,
  ⟨0x1a010, 0x0, 1, 0x0, 1, [R.TMP_TSW_FILT1, R.TMP_TSW_FILT0, R.TMP_TSW_POL]⟩,
  ⟨0x1a014, 0x0, 1, 0x0, 1, [R.TMP_TEMP_THI, R.TMP_TEMP_TLO]⟩,
  ⟨0x1a018, 0x0, 1, 0x0, 1, [R.TMP_LOCK]⟩,
  ⟨0x1a01c, 0x0, 1, 0x0, 1, [R.TMP_EVCNT]⟩,
  ⟨0x1a020, 0x0, 1, 0x0, 1, [R.TMP_MESHERR_M1, R.TMP_MESHERR_M0]⟩,
  ⟨0x1a024, 0x0, 1, 0x0, 1, [R.TMP_EVRTC_LO]⟩,
  ⟨0x1a028, 0x0, 1, 0x0, 1, [R.TMP_EVRTC_HI]⟩,
  ⟨0x1a02c, 0x0, 1, 0x0, 1, [R.TMP_RTC_LO]⟩,
  ⟨0x1a030, 0x0, 1, 0x0, 1, [R.TMP_RTC_HI]⟩,
  ⟨0x1a034, 0x0, 1, 0x0, 1, [R.TMP_MESHE_CEIL, R.TMP_MESHE_E1, R.TMP_MESHE_E0]⟩,
  ⟨0x16000, 0x0, 1, 0x0, 1, [R.FLC_ADDR]⟩,
  ⟨0x16004, 0x4, 8, 0x0, 1, [R.FLC_DATA 0]⟩,
  ⟨0x16024, 0x0, 1, 0x0, 1, [R.FLC_ARM]⟩,
  ⟨0x16028, 0x0, 1, 0x0, 1, [R.FLC_CMD]⟩,
  ⟨0x1602c, 0x0, 1, 0x0, 1, [R.FLC_STAT_BUSY0, R.FLC_STAT_BUSY1, R.FLC_STAT_ARMED, R.FLC_STAT_STRANDOP, R.FLC_STAT_CMDSTAT, R.FLC_STAT_ERR, R.FLC_STAT_DONE]⟩,
  ⟨0x16030, 0x0, 1, 0x0, 1, [R.FLC_ECC_UNCORR, R.FLC_ECC_CORR]⟩,
  ⟨0x16034, 0x0, 1, 0x0, 1, [R.FLC_FLAG_UNC, R.FLC_FLAG_CORR]⟩,
  ⟨0x16038, 0x0, 1, 0x0, 1, [R.FLC_CORRADDR]⟩,
  ⟨0x1603c, 0x0, 1, 0x0, 1, [R.FLC_UNCADDR]⟩,
  ⟨0x16040, 0x0, 1, 0x0, 1, [R.FLC_ECCTHR]⟩,
  ⟨0x4, 0x0, 1, 0x0, 1, [R.SYS_KEY_KEY, R.SYS_KEY_UNLOCKED]⟩]

/-- Part of the register table. -/
def regTable10 : List RegT := [
  ⟨0x8, 0x0, 1, 0x0, 1, [R.SYS_LOCKCFG_LOCK, R.SYS_LOCKCFG_ERRRESP]⟩,
  ⟨0xc, 0x0, 1, 0x0, 1, [R.SYS_LOCKVIOL]⟩,
  ⟨0x10, 0x0, 1, 0x0, 1, [R.SYS_LOCKADDR]⟩,
  ⟨0x14, 0x0, 1, 0x0, 1, [R.SYS_LOCKINFO_SPACE, R.SYS_LOCKINFO_REQ, R.SYS_LOCKINFO_WORLD]⟩,
  ⟨0x20, 0x4, 4, 0x0, 1, [R.SYS_DEVID 0]⟩,
  ⟨0x1c000, 0x0, 1, 0x0, 1, [R.LCS_STATE_RELOCKS, R.LCS_STATE_OPENS, R.LCS_STATE_STATE]⟩,
  ⟨0x1c004, 0x0, 1, 0x0, 1, [R.LCS_PROG_INPROG, R.LCS_PROG_SLOT, R.LCS_PROG_STEP, R.LCS_PROG_RESUMED]⟩,
  ⟨0x1c008, 0x0, 1, 0x0, 1, [R.LCS_REQ]⟩,
  ⟨0x1c00c, 0x0, 1, 0x0, 1, [R.LCS_RSTAT]⟩,
  ⟨0x1c010, 0x4, 8, 0x0, 1, [R.LCS_TOKEN 0]⟩,
  ⟨0x1c030, 0x0, 1, 0x0, 1, [R.LCS_TOKFAIL]⟩,
  ⟨0x1c034, 0x0, 1, 0x0, 1, [R.LCS_SCRAP]⟩,
  ⟨0x1c040, 0x0, 1, 0x0, 1, [R.LCS_FADDR]⟩,
  ⟨0x1c044, 0x0, 1, 0x0, 1, [R.LCS_FDATA]⟩,
  ⟨0x1c048, 0x0, 1, 0x0, 1, [R.LCS_FCMD]⟩,
  ⟨0x1c04c, 0x0, 1, 0x0, 1, [R.LCS_FSTAT_BUSY, R.LCS_FSTAT_STATUS]⟩,
  ⟨0x1c050, 0x0, 1, 0x0, 1, [R.LCS_FRDADDR]⟩,
  ⟨0x1c054, 0x0, 1, 0x0, 1, [R.LCS_FRDATA]⟩,
  ⟨0x1c058, 0x0, 1, 0x0, 1, [R.LCS_THERM_CUST, R.LCS_THERM_CRER]⟩,
  ⟨0x1c05c, 0x0, 1, 0x0, 1, [R.LCS_MARGIN]⟩,
  ⟨0x1b000, 0x0, 1, 0x0, 1, [R.DBG_PARTID]⟩,
  ⟨0x1b004, 0x0, 1, 0x0, 1, [R.DBG_AUTH_GRANTED, R.DBG_AUTH_SCTRL, R.DBG_AUTH_SMEM, R.DBG_AUTH_BSCAN, R.DBG_AUTH_FAILS, R.DBG_AUTH_REVOKE, R.DBG_AUTH_RESULT]⟩,
  ⟨0x1b008, 0x0, 1, 0x0, 1, [R.DBG_CTRL_HALTALL, R.DBG_CTRL_STEPIE, R.DBG_CTRL_STEP, R.DBG_CTRL_RESUME, R.DBG_CTRL_HALT]⟩,
  ⟨0x1b00c, 0x0, 1, 0x0, 1, [R.DBG_STAT_REGERR, R.DBG_STAT_ABANDON, R.DBG_STAT_PEND, R.DBG_STAT_HALTED]⟩]

/-- Part of the register table. -/
def regTable11 : List RegT := [
  ⟨0x1b010, 0x4, 3, 0x0, 1, [R.DBG_CAUSE_SEQ 0, R.DBG_CAUSE_BP 0, R.DBG_CAUSE_CAUSE 0]⟩,
  ⟨0x1b020, 0x0, 1, 0x0, 1, [R.DBG_REGSEL_CORE, R.DBG_REGSEL_KIND, R.DBG_REGSEL_NUM]⟩,
  ⟨0x1b024, 0x0, 1, 0x0, 1, [R.DBG_REGDATA]⟩,
  ⟨0x1b040, 0x8, 8, 0x0, 1, [R.DBG_BP_ADDR 0]⟩,
  ⟨0x1b044, 0x8, 8, 0x0, 1, [R.DBG_BP_CFG_EN 0, R.DBG_BP_CFG_KIND 0, R.DBG_BP_CFG_CORE 0, R.DBG_BP_CFG_WORLD 0, R.DBG_BP_CFG_SIZE 0]⟩,
  ⟨0x1b080, 0x8, 4, 0x0, 1, [R.DBG_BURST_ADDR 0]⟩,
  ⟨0x1b084, 0x8, 4, 0x0, 1, [R.DBG_BURST_DATA 0]⟩,
  ⟨0x1b0a0, 0x0, 1, 0x0, 1, [R.DBG_BURSTCTL_ERR, R.DBG_BURSTCTL_DONE, R.DBG_BURSTCTL_GO, R.DBG_BURSTCTL_COUNT]⟩,
  ⟨0x1000, 0x0, 1, 0x0, 1, [R.CLK_CFG_SWEN, R.CLK_CFG_INITSEL, R.CLK_CFG_XMODE, R.CLK_CFG_FITW, R.CLK_CFG_FITX]⟩,
  ⟨0x1004, 0x0, 1, 0x0, 1, [R.CLK_WIN_OUTER, R.CLK_WIN_INNER]⟩,
  ⟨0x1008, 0x0, 1, 0x0, 1, [R.CLK_RCWIN]⟩,
  ⟨0x100c, 0x0, 1, 0x0, 1, [R.CLK_STAT_ACTIVE, R.CLK_STAT_LOCK, R.CLK_STAT_HOLDOVER, R.CLK_STAT_RELOCK, R.CLK_STAT_ONRC, R.CLK_STAT_LOSTR, R.CLK_STAT_LOSTW, R.CLK_STAT_LOSTX, R.CLK_STAT_NOMAJ, R.CLK_STAT_PLLERR, R.CLK_STAT_LOST, R.CLK_STAT_HELD, R.CLK_STAT_FAULT, R.CLK_STAT_SWITCHED, R.CLK_STAT_INNER]⟩,
  ⟨0x1010, 0x0, 1, 0x0, 1, [R.CLK_DEVX]⟩,
  ⟨0x1014, 0x0, 1, 0x0, 1, [R.CLK_DEVW]⟩,
  ⟨0x1018, 0x0, 1, 0x0, 1, [R.CLK_DEVR]⟩,
  ⟨0x101c, 0x0, 1, 0x0, 1, [R.CLK_DEVT]⟩,
  ⟨0x1020, 0x0, 1, 0x0, 1, [R.CLK_SWCNT]⟩,
  ⟨0x1024, 0x0, 1, 0x0, 1, [R.CLK_LASTSW]⟩,
  ⟨0x1028, 0x0, 1, 0x0, 1, [R.CLK_LEAN]⟩,
  ⟨0x2000, 0x0, 1, 0x0, 1, [R.PWR_STATE_ENTRY, R.PWR_STATE_EXIT, R.PWR_STATE_PSTATE, R.PWR_STATE_WAKESRC]⟩,
  ⟨0x2004, 0x0, 1, 0x0, 1, [R.PWR_DOM 0, R.PWR_DOM 1, R.PWR_DOM 2, R.PWR_DOM 3, R.PWR_DOM 4, R.PWR_DOM 5, R.PWR_DOM 6, R.PWR_DOM 7]⟩,
  ⟨0x2008, 0x0, 1, 0x0, 1, [R.PWR_DOM 8, R.PWR_DOM 9, R.PWR_DOM 10, R.PWR_DOM 11]⟩,
  ⟨0x200c, 0x0, 1, 0x0, 1, [R.PWR_DOMREQ_REQERR, R.PWR_DOMREQ_PD11OFF, R.PWR_DOMREQ_PD7OFF]⟩,
  ⟨0x2010, 0x0, 1, 0x0, 1, [R.PWR_SRAM_OFF, R.PWR_SRAM_RET]⟩]

/-- Part of the register table. -/
def regTable12 : List RegT := [
  ⟨0x2014, 0x0, 1, 0x0, 1, [R.PWR_CFG]⟩,
  ⟨0x2018, 0x0, 1, 0x0, 1, [R.PWR_ACK]⟩,
  ⟨0x201c, 0x0, 1, 0x0, 1, [R.PWR_LOSTREPLY]⟩,
  ⟨0x2020, 0x0, 1, 0x0, 1, [R.PWR_FAULT_LAST, R.PWR_FAULT_LOST]⟩,
  ⟨0x2024, 0x0, 1, 0x0, 1, [R.PWR_WAKEINFO]⟩,
  ⟨0x2028, 0x0, 1, 0x0, 1, [R.PWR_ENTRIES_SLEEP, R.PWR_ENTRIES_HOLD]⟩,
  ⟨0x3000, 0x0, 1, 0x0, 1, [R.RST_CAUSE_AON, R.RST_CAUSE_CAUSE]⟩,
  ⟨0x3004, 0x0, 1, 0x0, 1, [R.RST_SWRST]⟩,
  ⟨0x3008, 0x0, 1, 0x0, 1, [R.RST_BOOT_RECOVERY, R.RST_BOOT_IMGFAIL, R.RST_BOOT_BOOTSEL, R.RST_BOOT_DEFAULT, R.RST_BOOT_DRAFTSLOT, R.RST_BOOT_DAFAIL, R.RST_BOOT_DBFAIL, R.RST_BOOT_FWSLOT, R.RST_BOOT_FWFAIL, R.RST_BOOT_STEP]⟩,
  ⟨0x300c, 0x0, 1, 0x0, 1, [R.RST_DSEQ]⟩,
  ⟨0x3010, 0x0, 1, 0x0, 1, [R.RST_ASTART]⟩,
  ⟨0x3014, 0x0, 1, 0x0, 1, [R.RST_BOOTUS]⟩,
  ⟨0x3018, 0x0, 1, 0x0, 1, [R.RST_DRAFTERR]⟩,
  ⟨0x301c, 0x0, 1, 0x0, 1, [R.RST_COUNT]⟩,
  ⟨0x17000, 0x4, 16, 0x0, 1, [R.GPIO_MUX_IRQEDGE 0, R.GPIO_MUX_FILT 0, R.GPIO_MUX_OD 0, R.GPIO_MUX_DS 0, R.GPIO_MUX_PULL 0, R.GPIO_MUX_FUNC 0]⟩,
  ⟨0x17040, 0x0, 1, 0x0, 1, [R.GPIO_DIR]⟩,
  ⟨0x17044, 0x0, 1, 0x0, 1, [R.GPIO_OUT]⟩,
  ⟨0x17048, 0x0, 1, 0x0, 1, [R.GPIO_OUTSET]⟩,
  ⟨0x1704c, 0x0, 1, 0x0, 1, [R.GPIO_OUTCLR]⟩,
  ⟨0x17050, 0x0, 1, 0x0, 1, [R.GPIO_IN]⟩,
  ⟨0x17054, 0x0, 1, 0x0, 1, [R.GPIO_EVT]⟩,
  ⟨0x17060, 0x0, 1, 0x0, 1, [R.GPIO_ENCCFG_EN, R.GPIO_ENCCFG_REV, R.GPIO_ENCCFG_IDXCLR, R.GPIO_ENCCFG_MODE]⟩,
  ⟨0x17064, 0x0, 1, 0x0, 1, [R.GPIO_ENCCNT]⟩,
  ⟨0x17068, 0x0, 1, 0x0, 1, [R.GPIO_ENCSTAT_HALL, R.GPIO_ENCSTAT_HALLERR, R.GPIO_ENCSTAT_QERR]⟩]

/-- Part of the register table. -/
def regTable13 : List RegT := [
  ⟨0x17070, 0x0, 1, 0x0, 1, [R.GPIO_IOSTAT]⟩,
  ⟨0x18000, 0x0, 1, 0x0, 1, [R.UART0_CTRL_EN, R.UART0_CTRL_TXEN, R.UART0_CTRL_RXEN, R.UART0_CTRL_PARITY]⟩,
  ⟨0x18004, 0x0, 1, 0x0, 1, [R.UART0_RXDATA_FERR, R.UART0_RXDATA_PERR, R.UART0_RXDATA_VALID, R.UART0_RXDATA_DATA]⟩,
  ⟨0x18008, 0x0, 1, 0x0, 1, [R.UART0_TXDATA]⟩,
  ⟨0x1800c, 0x0, 1, 0x0, 1, [R.UART0_DIV]⟩,
  ⟨0x18010, 0x0, 1, 0x0, 1, [R.UART0_STAT_TXLVL, R.UART0_STAT_RXLVL, R.UART0_STAT_TXIDLE, R.UART0_STAT_BREAK, R.UART0_STAT_TXOVR, R.UART0_STAT_RXOVR, R.UART0_STAT_PERR, R.UART0_STAT_FERR]⟩,
  ⟨0x18014, 0x0, 1, 0x0, 1, [R.UART0_IE_RXIE, R.UART0_IE_TXIE, R.UART0_IE_RXTHR, R.UART0_IE_TXTHR, R.UART0_IE_ERRIE]⟩,
  ⟨0x19000, 0x0, 1, 0x0, 1, [R.I2C0_CTRL_CTLEN, R.I2C0_CTRL_TGTEN, R.I2C0_CTRL_SPEED]⟩,
  ⟨0x19004, 0x0, 1, 0x0, 1, [R.I2C0_RXDATA_FIRST, R.I2C0_RXDATA_VALID, R.I2C0_RXDATA_DATA]⟩,
  ⟨0x19008, 0x0, 1, 0x0, 1, [R.I2C0_TXDATA]⟩,
  ⟨0x1900c, 0x0, 1, 0x0, 1, [R.I2C0_XFER_GO, R.I2C0_XFER_STOP, R.I2C0_XFER_LEN, R.I2C0_XFER_RW, R.I2C0_XFER_ADDR]⟩,
  ⟨0x19010, 0x0, 1, 0x0, 1, [R.I2C0_TADDR]⟩,
  ⟨0x19014, 0x0, 1, 0x0, 1, [R.I2C0_STAT_BUSBUSY, R.I2C0_STAT_CBUSY, R.I2C0_STAT_TADDRM, R.I2C0_STAT_TDIR, R.I2C0_STAT_OWNED, R.I2C0_STAT_XLEFT, R.I2C0_STAT_TXLVL, R.I2C0_STAT_RXLVL]⟩,
  ⟨0x19018, 0x0, 1, 0x0, 1, [R.I2C0_FLAG_TXOVR, R.I2C0_FLAG_XERR, R.I2C0_FLAG_TSTOP, R.I2C0_FLAG_ADDRD, R.I2C0_FLAG_RXOVR, R.I2C0_FLAG_TXUND, R.I2C0_FLAG_ARBLOST, R.I2C0_FLAG_NACK, R.I2C0_FLAG_DONE]⟩,
  ⟨0x1901c, 0x0, 1, 0x0, 1, [R.I2C0_IE_CIE, R.I2C0_IE_TIE, R.I2C0_IE_FIE, R.I2C0_IE_RXTHR, R.I2C0_IE_TXTHR]⟩,
  ⟨0x1d000, 0x0, 1, 0x0, 1, [R.HLT_CAUSE]⟩,
  ⟨0x1d004, 0x0, 1, 0x0, 1, [R.HLT_STAT_BSVCLIVE, R.HLT_STAT_SVCREQ]⟩,
  ⟨0x1d008, 0x0, 1, 0x0, 1, [R.HLT_BSVC]⟩,
  ⟨0x1d00c, 0x0, 1, 0x0, 1, [R.HLT_THEXC]⟩,
  ⟨0x1d010, 0x0, 1, 0x0, 1, [R.HLT_THTHR]⟩]

/-- Every register of the part, in the order of the spec's tables (R2, R44 to R46, R69, R70, R101, R102,
R121, R140, R141, R163, R189, R249, R267, R285, R311, R332, R333, R363, R389, R409, R432, R433,
R456, R475, R497, R516, R546 to R548, R584). -/
def regTable : List RegT :=
  regTable0 ++ regTable1 ++ regTable2 ++ regTable3 ++ regTable4 ++ regTable5 ++ regTable6 ++ regTable7 ++ regTable8 ++ regTable9 ++ regTable10 ++ regTable11 ++ regTable12 ++ regTable13

end Sys2Proof.Machine
end

