-- ==== Sys2Proof/Machine/State.lean ====
section
/-!
DEFINITION. The state of the part and its state right after reset, and the ways a step can stop.
-/

namespace Sys2Proof.Machine

/-- The ways a step ends in a fault. No command of this block faults: every access the spec answers
with an error is answered so in the requester's response (R10, R427, R477). -/
inductive Fault where
  /-- Raised by no command; safe: it stands so that the outcome type has a fault. -/
  | none_
deriving DecidableEq, Repr

/-- The ways a step refuses a command. -/
inductive Refusal where
  /-- The command has no meaning yet; safe: the run stops. Raised by the dispatch alone. -/
  | notModelled (mnemonic : String)
deriving DecidableEq, Repr

/-- The state of the part. -/
structure State where
  /-- The commands waiting, first in first out (model's own). -/
  pending : List Instr := []
  /-- Every register field of the I/O space and of the host window (R8). -/
  regs : Regs := [(R.PWR_DOM 0, 3)]
  /-- The index of the next free value (model's own, assumption 2). -/
  free : Nat := 0
  /-- The last answer to each requester, in the order of `Req` (R198, R477). -/
  resp : Bank BusResp 6 := Vector.replicate 6 {}
  /-- ONCE fields already written (R427). -/
  frozen : List Frozen := []
  key : KeySt := {}
  time : TimeSt := {}
  icu : IcuSt := {}
  adc : Bank AdcCore 8 := Vector.replicate 8 {}
  res : Bank AdcRes 32 := Vector.replicate 32 {}
  cmp : Bank CmpSt 16 := Vector.replicate 16 {}
  dac : Bank DacSt 2 := Vector.replicate 2 {}
  rfm : RfmSt := {}
  lane : Bank Lane 16 := Vector.replicate 16 {}
  shed : Bank Shed 2 := Vector.replicate 2 {}
  hedCnt : Bank Nat 96 := Vector.replicate 96 0
  pwm : Bank Pwm 12 := Vector.replicate 12 {}
  trip : TripSt := {}
  /-- The pad latch of each PWM ball, output A and B of each pair in turn (R99, R100). -/
  pad : Bank Level 24 := Vector.replicate 24 .hiz
  /-- The Loom has been configured since PD6 was last switched on (R21, R99, R509). -/
  loomCfg : Bool := false
  /-- The fuse shadow has been loaded since the last SYS reset (R99, R408). -/
  fuseLoaded : Bool := false
  gov : GovSt := {}
  tmr : Bank Tmr 16 := Vector.replicate 16 {}
  dma : Bank Dma 16 := Vector.replicate 16 {}
  /-- The channel that last won at each priority (R274). -/
  dmaLast : Bank Nat 4 := Vector.replicate 4 15
  health : HealthSt := {}
  /-- The logical cores: index 0 is the lockstep group or strand A (R165). -/
  core : Vector Core 3 := Vector.replicate 3 {}
  ply : PlySt := {}
  wld : WldSt := {}
  seq : SeqSt := {}
  /-- Records vendor firmware owes the journal, oldest first (R356). -/
  vrec : List VRec := []
  warp : Warp := {}
  crerus : Crerus := {}
  queue : Queue := {}
  jrnl : Jrnl := {}
  flash : FlashSt := {}
  custody : Custody := {}
  lc : LcSt := {}
  /-- The fuse array and its shadow (R411). -/
  fuse : Bank Word 256 := Vector.replicate 256 0
  shadow : Bank Word 256 := Vector.replicate 256 0
  pwr : PwrSt := {}
  rst : RstSt := {}
  clk : ClkSt := {}
  dbg : DbgSt := {}
  xspi : XspiSt := {}
  uart : UartSt := {}
  i2c : I2cSt := {}
  /-- Every byte of every memory that differs from what an unlisted byte reads as (Mem.lean). -/
  mem : List Host.Cell := []
deriving DecidableEq, Repr

/-- The part right after reset: the AON reset of a first power-on is asserted, every register is at its reset
value (R11, R12, R499), PD0 alone is ON, the Warp bypass path is in bypass (R157), every fuse is unprogrammed,
memory lists nothing, and the loss of the custody state is in force and owes its record (R378, R388). -/
def State.reset : State :=
  { regs := Regs.set [(R.PWR_DOM 0, 3)] R.WRP_STAT_BYPASS 1, custody := { recordDue := true } }

/-- What a command answers. -/
abbrev Out := Host.Outcome State Fault Refusal

end Sys2Proof.Machine
end

