-- ==== Sys2Proof/Machine/Ops.lean ====
section
/-!
DEFINITION. The named operations over registers, responses, interrupts and memory that the meanings
share.
-/

namespace Sys2Proof.Machine

/-! ### Lists used as sets -/

/-- `x` in the set `l`, once. -/
def insOnce {α : Type} [DecidableEq α] (l : List α) (x : α) : List α := if x ∈ l then l else x :: l

/-- The elements of `l` once each: what falls on one edge counts once (R58, R250). -/
def onceEach {α : Type} [DecidableEq α] : List α → List α
  | [] => []
  | x :: l => x :: (onceEach l).filter fun y => decide (y ≠ x)

/-- The set `l` without `x`. -/
def without {α : Type} [DecidableEq α] (l : List α) (x : α) : List α := l.filter fun y => decide (y ≠ x)

/-! ### Register fields -/

/-- The value of a register field. -/
def State.get (s : State) (f : Fld) : Nat := s.regs.get f

/-- Is the field nonzero: a one-bit field is set. -/
def State.flag (s : State) (f : Fld) : Bool := decide (s.get f ≠ 0)

/-- Put a value into a register field. -/
def State.set (s : State) (f : Fld) (v : Nat) : State := { s with regs := s.regs.set f v }

/-- Put a Boolean into a one-bit field. -/
def State.setB (s : State) (f : Fld) (b : Bool) : State := s.set f (b2n b)

/-- Add one to a counter field, saturating at all ones (the word "saturating" of the register tables). -/
def State.inc (s : State) (f : Fld) : State := s.set f (satN (2 ^ f.w - 1) (s.get f + 1))

/-- Bit `i` of a field. -/
def State.bit (s : State) (f : Fld) (i : Nat) : Bool := (s.get f).testBit i

/-- Set bit `i` of a field. -/
def State.setBit (s : State) (f : Fld) (i : Nat) : State := s.set f (s.get f ||| 2 ^ i)

/-- Clear bit `i` of a field. -/
def State.clrBit (s : State) (f : Fld) (i : Nat) : State := s.set f (s.get f &&& (2 ^ f.w - 1 ^^^ 2 ^ i))

/-- The signed value of a field (R4). -/
def State.gets (s : State) (f : Fld) : Int := sx f.w (s.get f)

/-- Put a signed value into a field (R4). -/
def State.sets (s : State) (f : Fld) (x : Int) : State := s.set f (ux f.w x)

/-- Set a W1C event flag, and say whether it rose. -/
def State.rises (s : State) (f : Fld) : Bool := decide (s.get f = 0)

/-! ### Requesters, power domains and responses -/

/-- The place of a requester in the order of SYS_LOCKINFO.REQ (R432). -/
def reqIdx : Req → Nat
  | .strandA => 0
  | .strandB => 1
  | .strandC => 2
  | .dma => 3
  | .crerus => 4
  | .debug => 5

/-- Give a requester its answer. -/
def State.reply (s : State) (q : Req) (c : RespCode) (d : Nat) : State :=
  { s with resp := s.resp.put (reqIdx q) { code := c, data := d } }

/-- Power domain `d` is ON (Table 22.2). -/
def State.on (s : State) (d : Nat) : Bool := decide (s.get (R.PWR_DOM d) = 3)

/-- The answer of a domain that is not ON (Table 22.2). -/
def State.offCode (s : State) (d : Nat) : RespCode :=
  if s.get (R.PWR_DOM d) = 2 ∨ s.get (R.PWR_DOM d) = 4 then .retry else .absent

/-- An access by `q` to domain `d`: done by `f` and answered OK when the domain is ON, answered as
Table 22.2 says otherwise (R14, R477). `f` may answer more than OK. -/
def State.via (s : State) (q : Req) (d : Nat) (f : State → State) : State :=
  if s.on d then f (s.reply q .ok 0) else s.reply q (s.offCode d) 0

/-- A free Boolean, and the index moved on. -/
def State.freeB (s : State) : Bool × State := (Config.freeBool s.free, { s with free := s.free + 1 })

/-- A free number, and the index moved on. -/
def State.freeN (s : State) : Nat × State := (Config.freeValue s.free, { s with free := s.free + 1 })

/-! ### Interrupt events (R250 to R252, R265) -/

/-- Sources the wake latch of PD0 registers while PD6 is off (R265). -/
def wakeLatched (n : Nat) : Bool :=
  decide (120 ≤ n ∧ n ≤ 127) || decide (144 ≤ n ∧ n ≤ 147) || decide (164 ≤ n ∧ n ≤ 191)

/-- An event of ICU source `n`: PEND is set whether or not EN is, EVC counts, and the coalescing timer
starts if it does not run (R251, R252). While PD6 is off the wake latch takes it (R265). Sources 190
and 191 never fire (Table 12.1). -/
def State.raise (s : State) (n : Nat) : State :=
  if 224 ≤ n ∨ n = 190 ∨ n = 191 then s
  else if s.get (R.PWR_DOM 6) = 2 ∨ s.get (R.PWR_DOM 6) = 3 ∨ s.get (R.PWR_DOM 6) = 4 then
    let s := (s.set (R.ICU_STS_PEND n) 1).inc (R.ICU_STS_EVC n)
    if s.flag (R.ICU_SRC_EN n) then
      { s with icu := { s.icu with timer := if n ∈ s.icu.expired then s.icu.timer else insOnce s.icu.timer n } }
    else s
  else if wakeLatched n then { s with icu := { s.icu with wake := insOnce s.icu.wake n } }
  else s

/-- Raise source `n` when `b` holds. -/
def State.raiseIf (s : State) (b : Bool) (n : Nat) : State := if b then s.raise n else s

/-- Set a one-bit event flag and raise a source on its change from 0 to 1. -/
def State.flagRise (s : State) (f : Fld) (n : Nat) : State :=
  if s.get f = 0 then (s.set f 1).raise n else s

/-- Subscription `i` is held against what its Noun's change looks at (R321): a change makes a notice wait; one that
replaces a waiting notice, or finds 32 waiting, is counted as lost. -/
def State.noteChange (s : State) (i : Nat) (key : List Nat) : State :=
  match s.crerus.subs[i]? with
  | none => s
  | some x =>
    let n := s.crerus.notes.length + (s.crerus.subs.filter Sub.waiting).length
    if key = x.told then s
    else
      let lost := x.waiting || decide (32 ≤ n)
      let y : Sub := { x with told := key, waiting := x.waiting || decide (n < 32) }
      let s := { s with crerus := { s.crerus with subs := s.crerus.subs.set i y } }
      if lost then s.inc R.HIF_NOTICELOST else s

/-- A cause of the replacement advisory (R572, R574, R575): the bit is sticky, SVC_REQ is driven low,
except by DRAFT_NONE in the states BLANK to MAKER, and vendor firmware owes the notice and the record. -/
def State.advise (s : State) (b : Nat) : State :=
  if s.bit R.HLT_CAUSE b then s
  else
    let s := s.setBit R.HLT_CAUSE b
    let s := { s with health := { s.health with owed := s.health.owed ++ [b] } }
    if b = 8 ∧ s.get R.LCS_STATE_STATE < 4 then s else s.set R.HLT_STAT_SVCREQ 1

/-! ### The rule for locked and write-once fields (R427 to R429) -/

/-- Has the ONCE field had its first write since its reset? -/
def State.isFrozen (s : State) (f : Fld) : Bool := s.frozen.any fun z => decide (z.fld = f)

/-- Record the first write of a ONCE field and the world it came from (R427, R429). -/
def State.freeze (s : State) (f : Fld) (sealedW : Bool) : State :=
  if s.isFrozen f then s else { s with frozen := { fld := f, sealedOwned := sealedW } :: s.frozen }

/-- A request joins the arrival order (R322). -/
def State.arrive (s : State) (a : Arrival) : State :=
  let n := s.crerus.stamp
  { s with crerus := { s.crerus with arr := s.crerus.arr ++ [{ a with stamp := n }], stamp := n + 1 } }

/-- Vendor firmware owes the journal a record (R356). -/
def State.journal (s : State) (rule : Nat) (data : List Nat) : State :=
  { s with vrec := s.vrec ++ [{ rule := rule, data := data, rtc := s.time.rtc.toNat, tb := s.time.tb.toNat }] }

/-- A lock violation by `q` is counted and the first recorded, with source 154 (R427). -/
def State.countViolation (s : State) (q : Who) (space addr : Nat) : State :=
  let first := decide (s.get R.SYS_LOCKVIOL = 0)
  let s := s.inc R.SYS_LOCKVIOL
  let s := if first then
      (((s.set R.SYS_LOCKADDR addr).set R.SYS_LOCKINFO_SPACE space).set R.SYS_LOCKINFO_REQ
        (reqIdx q.req)).setB R.SYS_LOCKINFO_WORLD q.sealedW
    else s
  s.raise 154

/-- A lock violation of an I/O or fuse write by `q` (R427): counted, and answered with the bus error of
ERRRESP in place of OK. -/
def State.lockViolation (s : State) (q : Who) (space addr : Nat) : State :=
  let s := s.countViolation q space addr
  if s.flag R.SYS_LOCKCFG_ERRRESP then s.reply q.req .busErr 0 else s

/-- The safe core, whose number is 0, is halted by a debugger (R135, R447). -/
def State.safeHalted (s : State) : Bool := s.bit R.DBG_STAT_HALTED 0

/-- The mode the Ply protects and issues in (R178, R179): the target from the edge of a split on, the old
mode until a join is done. -/
def State.plyMode (s : State) : Nat :=
  if s.flag R.PLY_STATUS_SPLITTING then s.ply.target else s.get R.PLY_MODE_CUR

/-- The mode interrupts are routed in (R262): the target from the edge of a hand-over on. -/
def State.plyRoute (s : State) : Nat :=
  if s.flag R.PLY_STATUS_SPLITTING || s.flag R.PLY_STATUS_JOINING then s.ply.target
  else s.get R.PLY_MODE_CUR

/-- Logical core `c` exists (R165): A always, C in PAIR, B and C in SPLIT. -/
def State.coreExists (s : State) (c : Nat) : Bool :=
  decide (c = 0) || (decide (c = 2) && decide (s.plyMode = 1)) || decide (s.plyMode = 2)

/-! ### The register map by address -/

/-- The fields of the register at address `a`; none where the frame holds no register (R10). -/
def regFields (a : Nat) : List Fld :=
  (regTable.filter fun r => r.hit a).flatMap fun r => r.inst a

/-- The bits a word gives a field. -/
def presented (v : Nat) (f : Fld) : Nat := v / 2 ^ f.lo % 2 ^ f.w

/-- Can a write change the field by its access code alone (R428)? -/
def Fld.changeable (f : Fld) : Bool :=
  match f.acc with
  | .rw | .w1c | .w1s | .wo => true
  | .ro | .rs | .once | .lock => false

/-- Is the field frozen to a write (R427)? -/
def State.frozenTo (s : State) (f : Fld) : Bool :=
  match f.acc with
  | .once => s.isFrozen f
  | .lock => s.flag R.SYS_LOCKCFG_LOCK
  | _ => false

/-- The effect of a word on one field under its access code (R8, R427). -/
def State.writeFld (s : State) (q : Who) (v : Nat) (f : Fld) : State :=
  match f.acc with
  | .rw | .wo => s.set f (presented v f)
  | .w1c => s.set f (s.get f &&& (2 ^ f.w - 1 ^^^ presented v f))
  | .w1s => s.set f (s.get f ||| presented v f)
  | .ro | .rs => s
  | .once => if s.isFrozen f then s else (s.set f (presented v f)).freeze f q.sealedW
  | .lock => if s.flag R.SYS_LOCKCFG_LOCK then s else s.set f (presented v f)

/-- Is the write a lock violation (R427, R428)? -/
def State.violates (s : State) (v : Nat) (fs : List Fld) : Bool :=
  if fs.any Fld.changeable then fs.any fun f => s.frozenTo f && decide (presented v f ≠ s.get f)
  else fs.any s.frozenTo

/-- The field is frozen and SEALED-owned (R429). -/
def State.sealedOwned (s : State) (f : Fld) : Bool :=
  match f.acc with
  | .once => s.frozen.any fun z => decide (z.fld = f) && z.sealedOwned
  | .lock => s.flag R.SYS_LOCKCFG_LOCK && s.key.errLockSealed
  | _ => false

/-- A write of a whole register: every field under its access code, and the rule of R427. An OPEN
violation of a SEALED-owned field is journalled (R429). -/
def State.writeReg (s : State) (q : Who) (a v : Nat) : State :=
  let fs := regFields a
  let bad := s.violates v fs
  let own := fs.any fun f => s.sealedOwned f && s.frozenTo f
  let s := fs.foldl (fun s f => s.writeFld q v f) s
  if bad then
    let s := s.lockViolation q 0 a
    if own && !q.sealedW then s.journal 429 [a, reqIdx q.req] else s
  else s

/-- The value a field reads as, before any reading rule of its own (R8, R9). -/
def State.readFld (s : State) (f : Fld) : Nat :=
  match f.acc with
  | .wo => 0
  | _ => s.get f

/-- The word of a register: its fields at their places, reserved bits 0 (R9). -/
def State.readReg (s : State) (a : Nat) : Nat :=
  (regFields a).foldl (fun n f => n + s.readFld f * 2 ^ f.lo) 0

/-- The power domain that answers at an I/O address (Table 1.4); none above the last frame (R10). -/
def frameDomain (a : Nat) : Option Nat :=
  match a / 0x1000 with
  | 0x0 | 0x1 | 0x2 | 0x3 => some 0
  | 0x4 | 0x6 | 0x7 | 0x8 | 0x9 | 0xA | 0xB | 0xC | 0x10 => some 6
  | 0x5 => some 8
  | 0xD | 0xE | 0xF => some 7
  | 0x11 => some 9
  | 0x12 | 0x1A | 0x1B | 0x1C | 0x1D => some 0
  | 0x13 | 0x14 => some 3
  | 0x15 => some 1
  | 0x16 => some 2
  | 0x17 | 0x18 | 0x19 => some 10
  | _ => none

/-- Frames whose writes from every requester but the named ones are ignored as for RO: TMP (R389), DBG
(R456) and HLT (R584). -/
def frameIgnores (q : Req) (a : Nat) : Bool :=
  match a / 0x1000 with
  | 0x1A => decide (q ≠ .crerus)
  | 0x1B => decide (q ≠ .debug)
  | 0x1D => decide (q ≠ .crerus)
  | _ => false

end Sys2Proof.Machine
end

