-- ==== Sys2Proof/Machine/Mem.lean ====
section
/-!
DEFINITION. Memory: one list of bytes for every memory of the part, in canonical form. The keys are the
addresses of the flash and the system SRAM, and a place of the model's own for each memory that has no
address of its own on the bus.
-/

namespace Sys2Proof.Machine

/-- The key of byte `a` of the D-TCM of strand `c` (Table 13.1 gives these places to the windows). -/
def dtcmKey (c a : Nat) : Nat := c * 0x100000 + a

/-- The key of byte `a` of the I-TCM of strand `c`. -/
def itcmKey (c a : Nat) : Nat := 0x80000000 + c * 0x100000 + a

/-- The key of byte `a` of the host window (Table 1.3). -/
def hostKey (a : Nat) : Nat := 0x50000000 + a

/-- What a byte nothing has written reads as: erased flash reads ones, every other memory 0 (DESIGN
CHOICE, assumption 4). -/
def memDefault (a : Nat) : Byte := if 0x10000000 ≤ a ∧ a < 0x10800000 then 0xFF else 0

/-- The byte at key `a`. -/
def memGet : List Host.Cell → Nat → Byte
  | [], a => memDefault a
  | (k, v) :: r, a => if k = a then v else memGet r a

/-- The memory with byte `a` set to `v`: the list stays sorted, and a byte at its default is not listed. -/
def memPut : List Host.Cell → Nat → Byte → List Host.Cell
  | [], a, v => if v = memDefault a then [] else [(a, v)]
  | (k, u) :: r, a, v =>
    if k = a then (if v = memDefault a then r else (a, v) :: r)
    else if a < k then (if v = memDefault a then (k, u) :: r else (a, v) :: (k, u) :: r)
    else (k, u) :: memPut r a v

/-- The canonical form: keys rise strictly and no byte stands at its default. -/
def memWf : List Host.Cell → Bool
  | [] => true
  | (k, v) :: r => decide (v ≠ memDefault k) && memWf r && r.all fun x => decide (k < x.1)

/-- The memory with every byte of `lo` to `hi - 1` back at its default. -/
def memClear (m : List Host.Cell) (lo hi : Nat) : List Host.Cell :=
  m.filter fun x => decide (x.1 < lo) || decide (hi ≤ x.1)

/-- Copy `n` bytes from `src` to `dst`, both in memories whose default is 0. -/
def memCopy (m : List Host.Cell) (src dst n : Nat) : List Host.Cell :=
  (m.filter fun x => decide (src ≤ x.1) && decide (x.1 < src + n)).foldl
    (fun a x => memPut a (x.1 - src + dst) x.2) (memClear m dst (dst + n))

/-- A byte of memory. -/
def State.byte (s : State) (a : Nat) : Byte := memGet s.mem a

/-- Set a byte of memory. -/
def State.setByte (s : State) (a : Nat) (v : Byte) : State := { s with mem := memPut s.mem a v }

/-- `n` bytes from `a` upward, as a little-endian number (R3). -/
def State.bytes (s : State) (a : Nat) : Nat → Nat
  | 0 => 0
  | n + 1 => (s.byte a).toNat + 256 * s.bytes (a + 1) n

/-- Write the low `n` bytes of `v` from `a` upward, little-endian (R3). -/
def State.setBytes (s : State) (a : Nat) : Nat → Nat → State
  | 0, _ => s
  | n + 1, v => (s.setByte a (BitVec.ofNat 8 v)).setBytes (a + 1) n (v / 256)

/-- `n` bytes from `a` upward, as a list. -/
def State.byteList (s : State) (a n : Nat) : List Byte := (List.range n).map fun i => s.byte (a + i)

/-- Write a list of bytes from `a` upward. -/
def State.setByteList (s : State) (a : Nat) (l : List Byte) : State :=
  ((List.range l.length).zip l).foldl (fun s x => s.setByte (a + x.1) x.2) s

/-- Bring a range of memory back to its default: a wipe of a memory whose default is 0, an erase of flash. -/
def State.wipe (s : State) (lo hi : Nat) : State := { s with mem := memClear s.mem lo hi }

/-- A write at key `a` by another than core `own` drops the reservations on its granule (R221). -/
def State.dropRes (s : State) (own : Option Nat) (a : Nat) : State :=
  { s with core := Vector.ofFn fun i =>
      let k := s.core[i]
      if decide (own ≠ some i.val) && decide (k.res = some (a / 32)) then { k with res := none } else k }

end Sys2Proof.Machine
end

