-- ==== Sys2Proof/Machine/Bytes.lean ====
section
/-!
DEFINITION. Byte strings: little-endian numbers (R3), words of a byte string, the CRC-32 of messages (R318),
and byte strings in memory.
-/

namespace Sys2Proof.Machine

/-- The little-endian number a byte string spells (R3). -/
def leNat : List Nat → Nat
  | [] => 0
  | b :: r => b + 256 * leNat r

/-- The low `n` bytes of a number, little-endian (R3). -/
def toLE : Nat → Nat → List Nat
  | 0, _ => []
  | n + 1, v => v % 256 :: toLE n (v / 256)

/-- `n` bytes of a byte string from offset `o`. -/
def cut (l : List Nat) (o n : Nat) : List Nat := (l.drop o).take n

/-- The little-endian number in `n` bytes from offset `o`. -/
def fieldOf (l : List Nat) (o n : Nat) : Nat := leNat (cut l o n)

/-- A byte string padded with zeros, or cut, to `n` bytes. -/
def padTo (n : Nat) (l : List Nat) : List Nat := (l ++ List.replicate (n - l.length) 0).take n

/-- Bytes `o` onward of `l` replaced by `x`. -/
def overlay (l : List Nat) (o : Nat) (x : List Nat) : List Nat := l.take o ++ x ++ l.drop (o + x.length)

/-- The words a byte string spells. -/
def wordsOf (l : List Nat) : List Nat := (List.range (l.length / 4)).map fun i => fieldOf l (4 * i) 4

/-- One bit of the reflected CRC-32 (R318). -/
def crcBit (c : Nat) : Nat := if c % 2 = 1 then c / 2 ^^^ 0xEDB88320 else c / 2

/-- One byte of the reflected CRC-32. -/
def crcByte (c b : Nat) : Nat :=
  crcBit (crcBit (crcBit (crcBit (crcBit (crcBit (crcBit (crcBit (c ^^^ b))))))))

/-- CRC-32 as in IEEE 802.3 (R318). -/
def crc32 (l : List Nat) : Nat := l.foldl crcByte 0xFFFFFFFF ^^^ 0xFFFFFFFF

/-- Every byte is zero. -/
def allZero (l : List Nat) : Bool := l.all fun b => decide (b = 0)

/-- Bytes of memory as numbers. -/
def State.rdBytes (s : State) (a n : Nat) : List Nat := (List.range n).map fun i => (s.byte (a + i)).toNat

/-- Write numbers as bytes of memory. -/
def State.wrBytes (s : State) (a : Nat) (l : List Nat) : State := s.setByteList a (l.map fun b => BitVec.ofNat 8 b)

/-- A free byte string of length `n`: the output of the DRBG, or another value the spec leaves open. -/
def State.freeBytes (s : State) (n : Nat) : List Nat × State :=
  ((List.range n).map fun i => Config.freeValue (s.free + i) % 256, { s with free := s.free + n })

/-- Serial-number order (R399, R507): `a` is newer than `b` in 32-bit arithmetic. -/
def newer32 (a b : Nat) : Bool :=
  let d := (a + 2 ^ 32 - b) % 2 ^ 32
  decide (1 ≤ d) && decide (d < 2 ^ 31)

end Sys2Proof.Machine
end

