-- ==== Sys2Proof/Machine/PairOps.lean ====
section
/-!
DEFINITION. The pairs, the trips and the comparator outputs as the other parts of the Loom use them
(R29 to R32, R71 to R98). Positions and values are in 1/32 of a tick (R71). Each operation that can
fire Heddle sources answers the list of them.
-/

namespace Sys2Proof.Machine

/-- Change the internal state of pair `p`. -/
def State.updPwm (s : State) (p : Nat) (f : Pwm → Pwm) : State := { s with pwm := s.pwm.upd p f }

/-- Change the internal state of lane `k`. -/
def State.updLane (s : State) (k : Nat) (f : Lane → Lane) : State := { s with lane := s.lane.upd k f }

/-- A conflict of an adaptation owned by lane `k`: the counter and CONF (R61). -/
def State.conflictFlag (s : State) (k : Nat) : State := (s.inc (R.LN_CONFLICT k)).set (R.LN_STAT_CONF k) 1

/-- A conflict of an adaptation owned by lane `k`, with the lane's source as CONF rises (R61, R67). -/
def State.conflict (s : State) (k : Nat) : State :=
  (s.inc (R.LN_CONFLICT k)).flagRise (R.LN_STAT_CONF k) (48 + k)

/-! ### Safe states and trips (R90, R93 to R97) -/

/-- The safer of a fused default and a SAFE field: LOW over HIZ over HIGH (R97). -/
def safer (fuse safe : Nat) : Nat :=
  let rank (c : Nat) : Nat := if c = 2 then 0 else if c = 1 then 1 else 2
  if rank fuse < rank safe then safe else fuse

/-- The level a safe-state code drives (R97). -/
def safeLevel (c : Nat) : Level := if c = 1 then .hiz else if c = 2 then .high else .low

/-- The function of ball `n` (Table 24.3): a code not offered acts as 0. -/
def State.gpioFunc (s : State) (n : Nat) : Nat :=
  let f := s.get (R.GPIO_MUX_FUNC n)
  if f = 1 then 1 else if f = 2 ∧ 8 ≤ n ∧ n ≤ 10 then 2 else 0

/-- What the part drives onto ball `n` (R523, R123): its output, its timer's pin while PD6 is ON (R136), or nothing. -/
def State.gpioDrive (s : State) (n : Nat) : Level :=
  let lvl (b : Bool) : Level := if b then .high else .low
  match s.gpioFunc n with
  | 0 =>
    if !s.bit R.GPIO_DIR n then .hiz
    else if s.bit R.GPIO_OUT n && s.flag (R.GPIO_MUX_OD n) then .hiz else lvl (s.bit R.GPIO_OUT n)
  | 1 => if s.on 6 && s.flag (R.TMR_CTRL_DIR n) then lvl (s.flag (R.TMR_STAT_PINLVL n)) else .hiz
  | _ => .hiz

/-- Is trip input TZ`t` active at pair maps: TZ0 to TZ5 always, TZ6 to TZ13 with their GTZEN bit (R93). Of a ball the
part drives the trip path sees the driven level (R524). -/
def State.tzActive (s : State) (t : Nat) : Bool :=
  if t < 6 then decide (t ∈ s.trip.tz)
  else
    s.bit R.TRP_TZCFG_GTZEN (t - 6) &&
      match s.gpioDrive (t - 6) with
      | .hiz => decide (t ∈ s.trip.tz)
      | .low => !s.bit R.TRP_TZCFG_POL t
      | .high => s.bit R.TRP_TZCFG_POL t

/-- The lowest-numbered maskable source of pair `p` that is active, as TRPp_STAT.CAUSE numbers it (R93). -/
def State.softCause (s : State) (p : Nat) : Option Nat :=
  match (List.range 16).find? (fun j => s.bit (R.TRP_MAP_CMP p) j && s.flag (R.CMP_CFG_TRIPEN j)
      && s.flag (R.CMP_STAT_OUT j)) with
  | some j => some j
  | none =>
    match (List.range 14).find? (fun t => s.bit (R.TRP_MAP_TZ p) t && s.tzActive t) with
    | some t => some (16 + t)
    | none => if s.flag (R.TRP_MAP_SW p) && s.trip.sw.testBit p then some 30 else none

/-- The lowest-numbered source of pair `p` that cannot be masked and is active (R93). -/
def State.hardCause (s : State) (p : Nat) : Option Nat :=
  if s.trip.gov.testBit p then some 32
  else if s.trip.ply then some 33
  else if s.trip.laneSafe.any (fun k => decide (s.get (R.LN_CTRL_DSTIDX k) = p)) then some 34
  else none

/-- The lowest-numbered active source of pair `p` (R94). -/
def State.tripCause (s : State) (p : Nat) : Option Nat := (s.softCause p).orElse fun _ => s.hardCause p

/-- Both legs of the couple of pair `p` are set to PSFB (R93). -/
def State.psfbCouple (s : State) (p : Nat) : Bool :=
  decide ((s.pwm.at (p / 2 * 2)).mode = 2) && decide ((s.pwm.at (p / 2 * 2 + 1)).mode = 2)

/-- Trip pair `p` for cause `c`: TRIPPED and CAUSE on the registering edge, the trip interrupt (R94). A
pair that is tripped already keeps its cause; a source that cannot be masked holds it as LATCH
(R95). -/
def State.tripPair (s : State) (p c : Nat) : State :=
  let s := s.updPwm p fun w => { w with hard := w.hard || decide (32 ≤ c) }
  if s.flag (R.TRP_STAT_TRIPPED p) then s
  else
    let s := ((s.set (R.TRP_STAT_TRIPPED p) 1).set (R.TRP_STAT_CAUSE p) c).set (R.PWM_STAT_TRIPPED p) 1
    (s.updPwm p fun w => { w with clr := false }).raiseIf (s.flag (R.TRP_CFG_TRIPIE p)) (4 * p + 3)

/-- Trip pair `p` for cause `c`; a couple in PSFB trips together (R93). -/
def State.tripCouple (s : State) (p c : Nat) : State :=
  let s' := s.tripPair p c
  if s.psfbCouple p then s'.tripPair (if p % 2 = 0 then p + 1 else p - 1) c else s'

/-- An edge of output A of pair `p` starts the blanking of every comparator that names it (R31). -/
def State.blankBy (s : State) (p : Nat) : State :=
  (List.range 16).foldl (fun s j =>
    if s.get (R.CMP_CFG_BLKPAIR j) = p ∧ s.get (R.CMP_CFG_BLANK j) ≠ 0 then
      let s := { s with cmp := s.cmp.upd j fun c => { c with blank := true } }
      if s.flag (R.CMP_STAT_OUT j) then (s.set (R.CMP_STAT_OUT j) 0).set (R.CMP_STAT_FALL j) 1 else s
    else s) s

/-- Entry into the safe state moves output A of pair `p` between high and another level (R86, R97): `s` is
the state before it. -/
def State.forcesEdge (s : State) (p : Nat) : Bool :=
  !s.flag (R.TRP_STAT_TRIPPED p) &&
    decide (((s.pwm.at p).aOut = .high) ≠ (safeLevel (s.get (R.PWM_SAFE_EFFA p)) = .high))

/-- Judge the trip sources of the pairs `ps` on one edge (R93, R94): each pair with an active source trips,
and the edges that forces on their outputs A start blanking (R31). Answers Heddle source 126 once when any trip
was latched (R58). -/
def State.judgeOn (s : State) (ps : List Nat) : State × List Nat :=
  let cs := ps.filterMap fun p => (s.tripCause p).map fun c => (p, c)
  let t := cs.foldl (fun u x => u.tripCouple x.1 x.2) s
  let new := (List.range 12).filter fun p => !s.flag (R.TRP_STAT_TRIPPED p) && t.flag (R.TRP_STAT_TRIPPED p)
  ((new.filter fun p => s.forcesEdge p).foldl (fun u p => u.blankBy p) t, if new = [] then [] else [126])

/-- Judge the trip sources of pair `p`. -/
def State.judgeTrip (s : State) (p : Nat) : State × List Nat := s.judgeOn [p]

/-- Judge the trip sources of every pair. -/
def State.judgeTrips (s : State) : State × List Nat := s.judgeOn (List.range 12)

/-- The levels the part drives onto its balls may have changed: the trip path sees those of the trip extensions
(R524). -/
def State.drivenTrips (s : State) : State × List Nat :=
  if s.on 6 && decide (s.get R.TRP_TZCFG_GTZEN ≠ 0) then s.judgeTrips else (s, [])

/-! ### Comparator outputs (R31) -/

/-- Bring the output of comparator `j` to its filtered and blanked level: RISE or FALL, the interrupt,
the trip path, and Heddle source 36 + j on a rise (R31, R32). -/
def State.cmpRefresh (s : State) (j : Nat) : State × List Nat :=
  let c := s.cmp.at j
  let lvl := c.filt && !c.blank && s.flag (R.CMP_CFG_EN j)
  if lvl = s.flag (R.CMP_STAT_OUT j) then (s, [])
  else if lvl then
    let s := ((s.set (R.CMP_STAT_OUT j) 1).set (R.CMP_STAT_RISE j) 1).raise (72 + j)
    let (s, e) := s.judgeTrips
    (s, (36 + j) :: e)
  else ((s.set (R.CMP_STAT_OUT j) 0).set (R.CMP_STAT_FALL j) 1, [])

/-! ### Outputs and dead time (R73, R80, R81) -/

/-- Drive output A of pair `p`; an edge starts blanking (R31). A tripped pair stands in its safe state and has
no edge (R60). -/
def State.outA (s : State) (p : Nat) (l : Level) : State :=
  let w := s.pwm.at p
  let t := s.updPwm p fun w => { w with aOut := l }
  if s.flag (R.TRP_STAT_TRIPPED p) || decide ((w.aOut = .high) = (l = .high)) then t else t.blankBy p

/-- Drive output B of pair `p`. -/
def State.outB (s : State) (p : Nat) (l : Level) : State := s.updPwm p fun w => { w with bOut := l }

/-- Is output B formed on its own (R80)? In PSFB and CT it is always complementary. -/
def Pwm.indep (w : Pwm) : Bool := decide (w.bmode = 1) && decide (w.mode ≠ 2) && decide (w.mode ≠ 4)

/-- The pair whose counter and period pair `p` runs on: the leading leg in PSFB (R77). -/
def State.leader (s : State) (p : Nat) : Nat := if s.psfbCouple p then p / 2 * 2 else p

/-- A value of pair `p` without its fraction when the tick is longer than a LOOM cycle (R72). The lagging leg of
a PSFB couple counts the leading pair's ticks (R77). -/
def State.whole (s : State) (p v : Nat) : Nat := if (s.pwm.at (s.leader p)).presc = 0 then v else v / 32 * 32

/-- Output A of pair `p` rises after its dead time (R81). -/
def State.riseA (s : State) (p : Nat) : State :=
  if s.whole p (s.get (R.PWM_DTRNOW p)) = 0 then s.outA p .high else s.updPwm p fun w => { w with aWait := true }

/-- Output B of pair `p` rises after its dead time (R81). -/
def State.riseB (s : State) (p : Nat) : State :=
  if s.whole p (s.get (R.PWM_DTFNOW p)) = 0 then s.outB p .high else s.updPwm p fun w => { w with bWait := true }

/-- Output A's reference goes to `r` (R80, R81): in COMP operation A rises after DTR, B falls at once and
rises DTF after A's fall; in INDEP operation A follows. A reference that falls first leaves no rise waiting. -/
def State.refA (s : State) (p : Nat) (r : Bool) : State :=
  let w := s.pwm.at p
  if w.aRef = r then s
  else
    let s := s.updPwm p fun w => { w with aRef := r, aWait := false }
    if w.indep then s.outA p (if r then .high else .low)
    else if r then ((s.updPwm p fun w => { w with bWait := false }).outB p .low).riseA p
    else (s.outA p .low).riseB p

/-- Output B's own reference goes to `r` in INDEP operation (R80): a rise that already waits for its dead time
after a release goes on waiting (R81). -/
def State.refB (s : State) (p : Nat) (r : Bool) : State :=
  let w := s.pwm.at p
  if decide (w.bRef = r) && (decide (w.bOut = if r then Level.high else .low) || (r && w.bWait)) then s
  else (s.updPwm p fun w => { w with bRef := r, bWait := false }).outB p (if r then .high else .low)

/-- Output B of a pair in COMP operation is the complement of A's reference (R80, R81): one that was formed on its
own until this period falls, or rises after its dead time. -/
def State.settleB (s : State) (p : Nat) : State :=
  let w := s.pwm.at p
  let s := s.updPwm p fun w => { w with bRef := false }
  if w.aRef then (s.updPwm p fun w => { w with bWait := false }).outB p .low
  else if decide (w.bOut = .high) || w.bWait then s
  else s.riseB p

/-- Both outputs low with nothing waiting: the idle level (R78, R89, R92). -/
def State.idleOut (s : State) (p : Nat) : State :=
  let f (w : Pwm) : Pwm := { w with
    aWait := false
    bWait := false
    aRef := false
    bRef := false
    idle := true }
  ((s.updPwm p f).outA p .low).outB p .low

/-- The outputs leave the idle level or the safe state with the references `a` and `b`: every rise is
delayed by its dead time, counted from here (R81). -/
def State.leaveIdle (s : State) (p : Nat) (a b : Bool) : State :=
  let s := s.idleOut p
  let w := s.pwm.at p
  let s := s.updPwm p fun w => { w with aRef := a, bRef := w.indep && b, idle := false }
  let s := if a then s.riseA p else s
  if (if w.indep then b else !a) then s.riseB p else s

/-! ### Periods, positions and fused bounds (R74 to R79, R91, R98) -/

/-- The period in force, in 1/32 tick: an integer part below 8 acts as 8 (R98). -/
def State.perNow (s : State) (p : Nat) : Nat :=
  let v := s.get (R.PWM_PERNOW p)
  if v / 32 < 8 then 256 else s.whole p v

/-- The fraction a period adds to the residue (R74): none in CENTRE mode. -/
def State.perFrac (s : State) (p : Nat) : Nat := if (s.pwm.at p).mode = 1 then 0 else s.perNow (s.leader p) % 32

/-- The volt-second and duty bound of pair `p` on an on-time within a length `len` (R91). -/
def State.onBound (s : State) (p len : Nat) : Option Nat :=
  let d := s.get (R.PWM_LIMIT_DMAX p)
  let vs := s.get (R.PWM_LIMIT_VSMAX p)
  let duty := if d = 0 then none else some (d * len / 256)
  let volt := if vs = 0 then none
    else some (vs * 4096 * 32 / (s.pwm.at p).vcode / 2 ^ (s.pwm.at (s.leader p)).presc)
  match duty, volt with
  | none, x => x
  | x, none => x
  | some a, some b => some (min a b)

/-- A value limited to a bound, and whether the bound changed it. -/
def limitTo (v : Nat) : Option Nat → Nat × Bool
  | none => (v, false)
  | some b => if b < v then (b, true) else (v, false)

/-- The length of the period of pair `p` (Table 4.1). -/
def State.perLen (s : State) (p : Nat) : Nat :=
  let per := s.perNow (s.leader p)
  if (s.pwm.at p).mode = 1 then 2 * (per / 32 * 32) else per

/-- H of a PSFB couple whose leading pair is `a` (Table 4.1). -/
def State.halfPer (s : State) (a : Nat) : Nat := s.whole a (s.perNow a / 2)

/-- The shift of a PSFB couple: the lagging PHASE, at most a tick less than H, under the bounds of both
legs (R77, R91). -/
def State.phi (s : State) (p : Nat) : Nat × Bool :=
  let a := p / 2 * 2
  let h := s.halfPer a
  let v := min (s.whole a (s.get (R.PWM_PHASENOW (a + 1)))) (h - 32)
  let (v1, c1) := limitTo v (s.onBound a h)
  let (v2, c2) := limitTo v1 (s.onBound (a + 1) h)
  (s.whole a v2, c1 || c2)

/-- The fields a bound changed, of the compare values `a` and `b`. -/
def clampedOf (a b : Bool) : List PwmField := (if a then [.cmpa] else []) ++ if b then [.cmpb] else []

/-- The edge positions of the period of pair `p` from the values in force, and the fields whose value a fused
bound changed (R75 to R79, R91). -/
def State.positions (s : State) (p : Nat) : EdgePos × List PwmField :=
  let w := s.pwm.at p
  let len := s.perLen p
  let va := s.whole p (s.get (R.PWM_CMPANOW p))
  let vb := s.whole p (s.get (R.PWM_CMPBNOW p))
  if w.mode = 2 then
    if s.psfbCouple p then
      if p % 2 = 0 then ({ aUp := s.halfPer p, endp := len }, [])
      else
        let (f, c) := s.phi p
        ({ aUp := f, aDown := f + s.halfPer (s.leader p), endp := len }, if c then [.phase] else [])
    else ({ endp := len }, [])
  else if w.mode = 1 then
    let half := (s.onBound p len).map fun x => x / 2
    let (a, ca) := limitTo va half
    let (b, cb) := limitTo vb (if w.indep then half else none)
    let (a, b) := (s.whole p a, s.whole p b)
    ({ aUp := a, aDown := len - a, bUp := b, bDown := len - b, endp := len }, clampedOf ca cb)
  else
    let (a, ca) := limitTo va (s.onBound p len)
    let (b, cb) := limitTo vb (if w.indep then s.onBound p len else none)
    ({ aUp := s.whole p a, bUp := s.whole p b, endp := len }, clampedOf ca cb)

/-- The level of a reference of pair `p` at position `t`: `x` and `y` are its edge positions. -/
def refLevel (mode t x y : Nat) (lag : Bool) : Bool :=
  if mode = 1 then decide (t < x) || decide (y ≤ t)
  else if mode = 2 && lag then decide (x ≤ t) && decide (t < y)
  else decide (t < x)

/-- A fused bound changed the values of the fields `c`: STAT.FCLAMP, and FCLAMP of the lane whose write gave
the value (R63, R91). -/
def State.clamped (s : State) (p : Nat) (c : List PwmField) : State :=
  if c = [] then s
  else c.foldl (fun s f =>
    match (s.pwm.at p).lanes.find? fun x => decide (x.1 = f) with
    | some x => s.set (R.LN_STAT_FCLAMP x.2) 1
    | none => s) (s.set (R.PWM_STAT_FCLAMP p) 1)

/-- Set the positions of the coming period (R63, R91). -/
def State.placeEdges (s : State) (p : Nat) : State :=
  let x := s.positions p
  (s.updPwm p fun w => { w with pos := x.1 }).clamped p x.2

/-! ### Values into force (R83 to R85) -/

/-- The value in force of a field of the pair. -/
def State.inForce (s : State) (p : Nat) : PwmField → Nat
  | .per => s.get (R.PWM_PERNOW p)
  | .cmpa => s.get (R.PWM_CMPANOW p)
  | .cmpb => s.get (R.PWM_CMPBNOW p)
  | .phase => s.get (R.PWM_PHASENOW p)
  | .trg0 => (s.pwm.at p).trg0
  | .trg1 => (s.pwm.at p).trg1

/-- Bring a value into force. -/
def State.putForce (s : State) (p : Nat) (f : PwmField) (v : Nat) : State :=
  match f with
  | .per => s.set (R.PWM_PERNOW p) v
  | .cmpa => s.set (R.PWM_CMPANOW p) v
  | .cmpb => s.set (R.PWM_CMPBNOW p) v
  | .phase => s.set (R.PWM_PHASENOW p) v
  | .trg0 => s.updPwm p fun w => { w with trg0 := v, trgd0 := v }
  | .trg1 => s.updPwm p fun w => { w with trg1 := v, trgd1 := v }

/-- The value last written to a field of the pair: the shadow in SHADOW mode (R83). -/
def State.written (s : State) (p : Nat) : PwmField → Nat
  | .per => s.get (R.PWM_PER p)
  | .cmpa => s.get (R.PWM_CMPA p)
  | .cmpb => s.get (R.PWM_CMPB p)
  | .phase => s.get (R.PWM_PHASE p)
  | .trg0 => s.get (R.PWM_TRG_TRG0 p)
  | .trg1 => s.get (R.PWM_TRG_TRG1 p)

/-- Write a field of the pair: the value a read returns (R83). -/
def State.putWritten (s : State) (p : Nat) (f : PwmField) (v : Nat) : State :=
  match f with
  | .per => s.set (R.PWM_PER p) v
  | .cmpa => s.set (R.PWM_CMPA p) v
  | .cmpb => s.set (R.PWM_CMPB p) v
  | .phase => s.set (R.PWM_PHASE p) v
  | .trg0 => s.set (R.PWM_TRG_TRG0 p) v
  | .trg1 => s.set (R.PWM_TRG_TRG1 p) v

/-- A write of a field, by lane `lane` or by software: the value a read returns. It replaces a value of the field
that is deferred (R85), and while the pair does not run its counter holds PHASE (R89). -/
def State.writeField (s : State) (p : Nat) (f : PwmField) (v : Nat) (lane : Option Nat) : State :=
  let s := (s.putWritten p f v).updPwm p fun w => { w with
    defer := w.defer.filter fun x => decide (x.fld ≠ f)
    lanes := (lane.map fun k => (f, k)).toList ++ w.lanes.filter fun x => decide (x.1 ≠ f) }
  if f = .phase ∧ (s.pwm.at p).run = false then s.set (R.PWM_CNT_CNT p) (s.get (R.PWM_PHASE p) / 32) else s

/-- The fields of the shadow set (R83). -/
def shadowFields : List PwmField := [.per, .cmpa, .cmpb, .phase, .trg0, .trg1]

/-- Transfer the shadow set into force (R83). -/
def State.shadowIn (s : State) (p : Nat) : State :=
  shadowFields.foldl (fun s f => s.putForce p f (s.written p f)) s

/-- The deferred values of R85 come into force; SHHOLD does not hold them (R83). -/
def State.deferIn (s : State) (p : Nat) : State :=
  let s := (s.pwm.at p).defer.foldl (fun s d => s.putForce p d.fld d.val) s
  s.updPwm p fun w => { w with defer := [] }

/-- One edge under the guard rule of Table 4.7: does the new position govern this period? -/
def guardTakes (n oldE newE : Nat) : Bool := decide (n + 4 ≤ oldE) && decide (n + 4 ≤ newE)

/-- The position of an edge; none is the end of the period. -/
def EdgePos.of (x : EdgePos) : Option PwmEdge → Nat
  | none => x.endp
  | some .aUp => x.aUp
  | some .aDown => x.aDown
  | some .bUp => x.bUp
  | some .bDown => x.bDown

/-- The positions `x` with one edge taken from `e`. -/
def EdgePos.take (x e : EdgePos) : Option PwmEdge → EdgePos
  | none => { x with endp := e.endp }
  | some .aUp => { x with aUp := e.aUp }
  | some .aDown => { x with aDown := e.aDown }
  | some .bUp => { x with bUp := e.bUp }
  | some .bDown => { x with bDown := e.bDown }

/-- The edges a field governs (R85). -/
def State.governed (s : State) (p : Nat) (f : PwmField) : List (Option PwmEdge) :=
  let w := s.pwm.at p
  match f with
  | .cmpa => if w.mode = 2 then [] else if w.mode = 1 then [some .aUp, some .aDown] else [some .aUp]
  | .cmpb =>
    if w.indep then (if w.mode = 1 then [some .bUp, some .bDown] else [some .bUp]) else []
  | .per =>
    if w.mode = 1 then [none, some .aDown] ++ (if w.indep then [some .bDown] else []) else [none]
  | .phase => if w.mode = 2 && decide (p % 2 = 1) then [some .aUp, some .aDown] else []
  | .trg0 | .trg1 => []

/-- The trigger compare `t` in force in a direction (R85, R87). -/
def Pwm.trg (w : Pwm) (t : Nat) (down : Bool) : Nat :=
  if t = 0 then (if down then w.trgd0 else w.trg0) else if down then w.trgd1 else w.trg1

/-- Put a trigger compare in force in one direction. -/
def Pwm.putTrg (w : Pwm) (t : Nat) (down : Bool) (v : Nat) : Pwm :=
  if t = 0 then (if down then { w with trgd0 := v } else { w with trg0 := v })
  else if down then { w with trgd1 := v } else { w with trg1 := v }

/-- The directions in which trigger compare `t` matches (R87): TRGCFG counts in CENTRE mode alone. -/
def State.trgDirs (s : State) (p t : Nat) : List Bool :=
  if (s.pwm.at p).mode = 1 then
    match s.get (if t = 0 then R.PWM_TRGCFG_TRG0DIR p else R.PWM_TRGCFG_TRG1DIR p) with
    | 1 => [true]
    | 2 => [false, true]
    | _ => [false]
  else [false]

/-- The counter value at which a trigger compare of `v` matches: on the down-count 2⌊PER⌋ − v, and the end of the
period where the counter never takes it. -/
def State.trgPos (s : State) (p v : Nat) (down : Bool) : Nat :=
  let top := s.perNow p / 32
  if down then (if v ≤ top then 2 * top - v else 2 * top) else v

/-- A trigger compare becomes active where the counter is `n` (R85): each direction it matches in is decided by the
guard rule. Answers the directions deferred. -/
def State.guardTrg (s : State) (p n t v : Nat) : State × Nat :=
  let w := s.pwm.at p
  let ds := s.trgDirs p t
  let late := ds.filter fun d => !guardTakes n (s.trgPos p (w.trg t d) d) (s.trgPos p v d)
  (s.updPwm p fun x => late.foldl (fun x d => x.putTrg t d (w.trg t d)) ((x.putTrg t false v).putTrg t true v),
    late.length)

/-- A value of PER, CMPA, CMPB or PHASE becomes active where the counter is `n` (R85): each edge its field governs
is decided by the guard rule, an edge committed already stands (R84). Answers the edges deferred. -/
def State.guardEdges (s : State) (p n : Nat) (d : PwmLoad) : State × Nat :=
  let w := s.pwm.at p
  let pos (x : Nat) : Nat := (x + w.res) / 32
  let gs := s.governed p d.fld
  let s' := s.putForce p d.fld d.val
  let x := s'.positions p
  let stands (g : Option PwmEdge) : Bool := match g with
    | some e => decide (e ∈ w.fixed)
    | none => false
  let takes (g : Option PwmEdge) : Bool := guardTakes n (pos (w.pos.of g)) (pos (x.1.of g)) && !stands g
  let ok := gs.filter takes
  let late := gs.filter fun g => !takes g
  let s := if ok ≠ [] ∨ late = [] then s' else s
  let s := s.updPwm p fun w => { w with pos := ok.foldl (fun y g => y.take x.1 g) w.pos }
  let s := if x.2 = [] then s else s.set (R.PWM_STAT_FCLAMP p) 1
  let s := match d.lane with
    | some k => if d.fld ∈ x.2 then s.set (R.LN_STAT_FCLAMP k) 1 else s
    | none => s
  (s, late.length)

/-- A value becomes active on an edge at which the counter is `n` (R85): what the guard rule does not take is
deferred to the next period start and counted. -/
def State.guardLoad (s : State) (p n : Nat) (d : PwmLoad) : State :=
  let s := s.updPwm p fun w => { w with defer := w.defer.filter fun x => decide (x.fld ≠ d.fld) }
  let r := match d.fld with
    | .trg0 => s.guardTrg p n 0 d.val
    | .trg1 => s.guardTrg p n 1 d.val
    | _ => s.guardEdges p n d
  if r.2 = 0 then r.1
  else
    let s := r.1.updPwm p fun w => { w with defer := d :: w.defer }
    let s := s.set (R.PWM_STAT_DEFER p) 1
    s.set (R.PWM_DEFERCNT p) (satN 0xFFFF (s.get (R.PWM_DEFERCNT p) + r.2))

/-- A lane hands a value to the pair (R59, R84): to the shadow in SHADOW mode, else to the loader of a running pair,
which loads it on the first free edge. -/
def State.handValue (s : State) (p : Nat) (d : PwmLoad) : State :=
  let s := s.writeField p d.fld d.val d.lane
  if s.flag (R.PWM_CTRL_UPDMODE p) && (s.pwm.at p).run then s.updPwm p fun w => { w with loads := w.loads ++ [d] }
  else s

/-- Heddle destination 60 + p: every shadow value that differs from the value in force is applied as a
guarded write (R83). -/
def State.immediateTransfer (s : State) (p : Nat) : State :=
  if s.flag (R.PWM_CTRL_SHHOLD p) then s
  else
    let diff := shadowFields.filter fun f => decide (s.written p f ≠ s.inForce p f)
    let ds : List PwmLoad := diff.map fun f => { fld := f, val := s.written p f }
    s.updPwm p fun w => { w with loads := w.loads ++ ds }

/-- The control fields MODE, BMODE, PRESC and CTCMP come into force (R83). MODE 5 to 7 acts as 0, and
PRESC 9 to 15 as 8 (R71, Table 4.1). -/
def State.ctrlIn (s : State) (p : Nat) : State :=
  let m := s.get (R.PWM_CTRL_MODE p)
  s.updPwm p fun w => { w with
    mode := if 5 ≤ m then 0 else m, bmode := s.get (R.PWM_CTRL_BMODE p),
    presc := min 8 (s.get (R.PWM_CTRL_PRESC p)), ctcmp := s.get (R.PWM_CTRL_CTCMP p) }

/-- Move toward a target by at most a step. -/
def toward (x target step : Nat) : Nat :=
  if x < target then min target (x + step) else if target < x then max target (x - step) else x

/-- Adaptive dead time runs on pair `p`: EN with COMP operation and bounds in order (R82, R98). -/
def State.adtOn (s : State) (p : Nat) : Bool :=
  s.flag (R.PWM_ADT_EN p) && decide ((s.pwm.at p).bmode = 0)
    && decide (s.get (R.PWM_ADTMIN p) ≤ s.get (R.PWM_ADTMAX p))

/-- One dead time at the start of a period (R81, R82, R83): the nominal value transfers unless SHHOLD. With
adaptation on, it moves from there toward its target; frozen it stays. Whatever value it is, ADTMIN and ADTMAX
bound it (R19, R61), and a value of the adaptation that they change is a conflict. -/
def State.deadTime (s : State) (p : Nat) (rise : Bool) : State :=
  let nowF := if rise then R.PWM_DTRNOW p else R.PWM_DTFNOW p
  let nom := s.get (if rise then R.PWM_DTR p else R.PWM_DTF p)
  let w := s.pwm.at p
  let hold := s.flag (R.PWM_CTRL_SHHOLD p)
  let adapt := s.adtOn p
  let frz := s.flag (R.PWM_ADT_FRZ p)
  let keep := hold || (adapt && frz)
  let s := s.updPwm p fun w =>
    if rise then { w with tr := none, nomR := w.nomR && keep } else { w with tf := none, nomF := w.nomF && keep }
  if !adapt then (if hold then s else s.set nowF nom)
  else
    let meas := if rise then w.tr else w.tf
    let base := if (if rise then w.nomR else w.nomF) && !keep then nom else s.get nowF
    let x := match meas with
      | some t => if frz then base else toward base (32 * (t + s.get (R.PWM_ADT_MARGIN p))) (s.get (R.PWM_ADT_STEP p))
      | none => base
    let y := min (max x (s.get (R.PWM_ADTMIN p))) (s.get (R.PWM_ADTMAX p))
    let s := s.set nowF y
    if y ≠ x ∧ (frz || meas.isSome) then s.conflict (s.get (R.PWM_ADT_OWNER p)) else s

/-- The governor holds the bleed pair idle while it is active and the bleed is not engaged (R107). -/
def State.govActive (s : State) : Bool :=
  s.flag R.EGV_CFG_EN || decide (s.get R.EGV_FLIM_EMAX ≠ 0) || decide (s.get R.EGV_FLIM_EZMIN ≠ 0)
    || decide (s.get R.EGV_FREL_RMAX ≠ 0)

/-- Is pair `p` the bleed pair, held idle? -/
def State.bleedHeld (s : State) (p : Nat) : Bool :=
  s.govActive && s.gov.started && decide (s.get R.EGV_CFG_BLDPAIR = p) && !s.flag R.EGV_STAT_BLEED

/-- The burst decision at the start of a period, and STAT.SKIP (R78). -/
def State.burstStep (s : State) (p : Nat) : State :=
  let w := s.pwm.at p
  let on := s.get (R.PWM_BURST_BON p)
  let off := s.get (R.PWM_BURST_BOFF p)
  if w.mode ≠ 3 then s.set (R.PWM_STAT_SKIP p) 0
  else
    let counted := decide (on ≠ 0) && decide (off ≠ 0)
    let skip := (counted && decide (on ≤ w.burst)) ||
      decide (s.get (R.PWM_CMPANOW p) < s.get (R.PWM_SKIPMIN p))
    let s := s.updPwm p fun w => { w with burst := if counted then (w.burst + 1) % (on + off) else 0 }
    s.setB (R.PWM_STAT_SKIP p) skip

/-- Judge the release of a trip at a period start (R95). CAUSE keeps the cause (Table 4.10). Each leg of a PSFB
couple is released by its own mapped sources alone, though a source of the other leg tripped it (DESIGN CHOICE,
assumption 67: R95 does not say which sources hold the partner). -/
def State.judgeRelease (s : State) (p : Nat) : State :=
  let w := s.pwm.at p
  if s.flag (R.TRP_STAT_TRIPPED p) && (s.tripCause p).isNone
      && (w.clr || (!s.flag (R.TRP_CFG_LATCH p) && !w.hard)) then
    let a := safeLevel (s.get (R.PWM_SAFE_EFFA p))
    let s := s.updPwm p fun w => { w with clr := false, hard := false, aOut := a }
    ((s.set (R.TRP_STAT_TRIPPED p) 0).set (R.PWM_STAT_TRIPPED p) 0).idleOut p
  else s

/-- The phases of the active pairs of a shedding group are re-spread as k × P ÷ N, with the period P of the
lowest-numbered active member's pair (R64). -/
def State.respread (s : State) (g : Nat) : State :=
  let act := ((List.range 16).filter fun k => s.bit (R.SHED_MEMB g) k).take (s.get (R.SHED_STAT_N g))
  let n := act.length
  let per := s.perNow (s.get (R.LN_CTRL_DSTIDX (act.headD 0)))
  ((List.range n).zip act).foldl (fun s (i, k) =>
    let p := s.get (R.LN_CTRL_DSTIDX k)
    let v := i * per / n
    (s.set (R.PWM_PHASE p) v).set (R.PWM_PHASENOW p) v) s

/-- What a shed or re-added pair does at its next period start (R64, R92). -/
def State.shedStep (s : State) (p : Nat) : State :=
  let w := s.pwm.at p
  let s := match w.shedNext with
    | some b =>
      let s := s.setB (R.PWM_STAT_SHED p) b
      if b then s else s.updLane w.shedLane fun l => { l with shed := false }
    | none => s
  let s := match w.respread with
    | some g => s.respread g
    | none => s
  s.updPwm p fun w => { w with shedNext := none, respread := none }

/-- The voltage code a volt-second bound uses, taken at a period start (R91). -/
def State.takeVolt (s : State) (p : Nat) : State :=
  let slot := s.get (R.PWM_LIMIT_VSSLOT p)
  let r := s.res.at slot
  let v := if !r.seen then 4095 else
    max 1 (if r.diff then (sx 16 (s.get (R.ADC_RES_DATA (slot / 4) (slot % 4)))).natAbs
      else s.get (R.ADC_RES_DATA (slot / 4) (slot % 4)))
  s.updPwm p fun w => { w with vcode := v }

/-- A comparator whose ramp restarts with pair `p` has met a zero of its counter (R30). -/
def State.armRamps (s : State) (p : Nat) : State :=
  (List.range 16).foldl (fun s j =>
    if s.flag (R.CMP_CFG_SLPEN j) && decide (s.get (R.CMP_CFG_SLPPAIR j) = p) then
      { s with cmp := s.cmp.upd j fun c => { c with armed := true } }
    else s) s

/-- The ramps that restart with pair `p` stand at 0 until its next zero (R30). -/
def State.disarmRamps (s : State) (p : Nat) : State :=
  (List.range 16).foldl (fun s j =>
    if s.get (R.CMP_CFG_SLPPAIR j) = p then { s with cmp := s.cmp.upd j fun c => { c with armed := false } }
    else s) s

/-- The control fields, the shadow set and the deferred values come into force for a period (R83, R85). -/
def State.valuesIn (s : State) (p : Nat) : State :=
  let s := s.ctrlIn p
  let s := if s.flag (R.PWM_CTRL_UPDMODE p) || s.flag (R.PWM_CTRL_SHHOLD p) then s else s.shadowIn p
  s.deferIn p

/-- The edges that are committed when a period starts (R84): the counter value of the edge is below 3. -/
def Pwm.early (w : Pwm) : List PwmEdge :=
  [.aUp, .aDown, .bUp, .bDown].filter fun e => decide ((w.pos.of (some e) + w.res) / 32 < 3)

/-- An edge stands at position `x`. -/
def EdgePos.put (y : EdgePos) (e : PwmEdge) (x : Nat) : EdgePos :=
  match e with
  | .aUp => { y with aUp := x }
  | .aDown => { y with aDown := x }
  | .bUp => { y with bUp := x }
  | .bDown => { y with bDown := x }

/-- Everything a new period of pair `p` takes up but its events (R74, R83, R84, R88): the control fields, the
values, the dead times, the burst decision, the bounds and the edge positions. A period that follows another one
(`cont`) keeps the edges that were committed in that one. -/
def State.takePeriod (s : State) (p : Nat) (cont : Bool) : State :=
  let held := if cont then (s.pwm.at p).held else []
  let s := s.valuesIn p
  let s := if s.flag (R.PWM_ADT_EN p) && decide (s.get (R.PWM_ADTMAX p) < s.get (R.PWM_ADTMIN p)) then
      s.set (R.PWM_STAT_CFGERR p) 1 else s
  let s := (s.deadTime p true).deadTime p false
  let s := ((s.takeVolt p).burstStep p).placeEdges p
  s.updPwm p fun w =>
    let w := { w with ctDone := false, held := [], pos := held.foldl (fun y (h : PwmEdge × Nat) => y.put h.1 h.2) w.pos }
    { w with fixed := w.early }

/-- The levels of the outputs at position `t` of the period (R75 to R79, R89). A skipped period, a held bleed pair
and an unpaired PSFB leg stay low (R77, R78, R107), and so do the outputs of a shed pair, whose references go on
(R92). -/
def State.levelsAt (s : State) (p t : Nat) (fresh : Bool) : State :=
  let w := s.pwm.at p
  let lone := decide (w.mode = 2) && !s.psfbCouple p
  let s := if lone then s.set (R.PWM_STAT_CFGERR p) 1 else s
  let a := refLevel w.mode t w.pos.aUp w.pos.aDown (decide (p % 2 = 1))
  let b := refLevel w.mode t w.pos.bUp w.pos.bDown false
  if lone || s.flag (R.PWM_STAT_SKIP p) || s.bleedHeld p then s.idleOut p
  else if s.flag (R.PWM_STAT_SHED p) then
    (s.idleOut p).updPwm p fun w => { w with aRef := a, bRef := w.indep && b }
  else if fresh || w.idle then s.leaveIdle p a b
  else
    let s := s.refA p a
    if w.indep then s.refB p b else s.settleB p

/-- Show the counter of pair `p` at position `x` of its period (Table 4.9). -/
def State.showCount (s : State) (p x : Nat) : State :=
  let w := s.pwm.at p
  let n := (x + w.res) / 32
  let top := s.perNow p / 32
  if w.mode = 1 ∧ top < n then (s.set (R.PWM_CNT_CNT p) (2 * top - n)).set (R.PWM_CNT_DOWN p) 1
  else (s.set (R.PWM_CNT_CNT p) n).set (R.PWM_CNT_DOWN p) 0

/-- The lagging leg of a PSFB couple stands where the leading counter stands, at position `t` of a new period
(R77): it takes the period, its residue with it, and the release of a trip where a period starts (R95). -/
def State.lagAt (s : State) (p t : Nat) (fresh start : Bool) : State :=
  if (s.pwm.at p).run then
    let s := s.updPwm p fun w => { w with res := (s.pwm.at (s.leader p)).res }
    let s := (s.shedStep p).takePeriod p (start && !fresh)
    let s := if start then s.judgeRelease p else s
    (s.showCount p t).levelsAt p t fresh
  else s

/-- A sync of pair `p` (R88): the counter is reloaded with min(PHASE, ⌊PER⌋ − 1); when that changes it a
new period starts there. It fires no event. A running counter between its events stands at a value the model does not
hold, so whether the reload changes it is a free choice (assumption 12). The lagging leg of a PSFB couple has no sync
of its own (R77); a zero that the reload reaches restarts the ramps (R30). -/
def State.syncPair (s : State) (p : Nat) : State :=
  if !(s.pwm.at p).run || (s.psfbCouple p && decide (p % 2 = 1)) then s
  else
    let same := s.freeB
    let s := same.2
    if same.1 then s
    else
      let s := (s.updPwm p fun w => { w with res := 0 }).takePeriod p false
      let t := 32 * min (s.get (R.PWM_PHASENOW p) / 32) (s.perNow p / 32 - 1)
      let s := (s.showCount p t).levelsAt p t false
      let s := if s.psfbCouple p then s.lagAt (p + 1) t false false else s
      if t = 0 then s.armRamps p else s

/-- The events of a period start of pair `p` (R30, R74, R88): the ramp restarts, the period interrupt,
Heddle source p and the sync of the pairs that name it MASTER. A held bleed pair fires none (R107). -/
def State.periodEvents (s : State) (p : Nat) : State × List Nat :=
  if s.bleedHeld p then (s, [])
  else
    let s := (s.armRamps p).raiseIf (s.flag (R.PWM_IE_PERIE p)) (4 * p)
    let s := (List.range 12).foldl (fun s q =>
      if decide (q ≠ p) && decide (s.get (R.PWM_CTRL_SYNCSRC q) = 2)
          && decide (s.get (R.PWM_CTRL_MASTER q) = p) then s.syncPair q else s) s
    (s, [p])

/-- A period start of pair `p` (R74): a new period, the release of a trip, shedding and the events. -/
def State.periodStart (s : State) (p : Nat) (fresh : Bool) : State × List Nat :=
  let frac := s.perFrac p
  let s := s.updPwm p fun w => { w with res := if fresh then 0 else (w.res + frac) % 32 }
  let s := (s.shedStep p).takePeriod p (!fresh)
  let s := s.judgeRelease p
  let s := (s.set (R.PWM_CNT_CNT p) 0).set (R.PWM_CNT_DOWN p) 0
  let s := s.levelsAt p 0 fresh
  let s := if s.psfbCouple p && decide (p % 2 = 0) then s.lagAt (p + 1) 0 fresh true else s
  s.periodEvents p

/-- The values of pair `p` as it starts (R83, R89): a pair in SHADOW mode with SHHOLD set takes none, its dead times
included, and the burst count goes on from where an earlier run left it (DESIGN CHOICE, assumption 67: R78 names no
restart). -/
def State.startValues (s : State) (p : Nat) : State :=
  let hold := s.flag (R.PWM_CTRL_SHHOLD p)
  let s := s.ctrlIn p
  let s := if hold && !s.flag (R.PWM_CTRL_UPDMODE p) then s else s.shadowIn p
  let s := (s.disarmRamps p).updPwm p fun w => { w with
    run := true, defer := [], loads := [], held := [], res := 0, tr := none, tf := none }
  let s := if hold then s
    else (s.set (R.PWM_DTRNOW p) (s.get (R.PWM_DTR p))).set (R.PWM_DTFNOW p) (s.get (R.PWM_DTF p))
  s.set (R.PWM_STAT_GSWAIT p) 0

/-- Pair `p` starts from PHASE at an enable or a release (R89): with PHASE 0 the edge is a period start,
else the outputs take the levels scheduled at PHASE. The lagging leg of a PSFB couple joins the leading counter
where that stands, a position the model does not hold (assumption 12), or waits low until it starts (R77). -/
def State.startPair (s : State) (p : Nat) : State × List Nat :=
  let s := s.startValues p
  if s.psfbCouple p && decide (p % 2 = 1) then
    if (s.pwm.at (p - 1)).run then
      let x := s.freeN
      (x.2.lagAt p (32 * (x.1 % (s.perNow (p - 1) / 32))) true false, [])
    else (s.idleOut p, [])
  else
    let ph := s.whole p (s.get (R.PWM_PHASENOW p))
    if ph = 0 then s.periodStart p true
    else
      let s := ((s.takePeriod p false).showCount p ph).levelsAt p ph true
      (if s.psfbCouple p then s.lagAt (p + 1) ph true false else s, [])

/-- The governor, not its own EN and GSARM, runs the bleed pair while it is active (R107). -/
def State.govOwns (s : State) (p : Nat) : Bool :=
  s.govActive && s.gov.started && decide (s.get R.EGV_CFG_BLDPAIR = p)

/-- Pair `p` stops with low outputs and its counter at PHASE (R89, Table 4.9). -/
def State.haltPair (s : State) (p : Nat) (wait : Bool) : State :=
  let s := (s.ctrlIn p).idleOut p
  let s := s.updPwm p fun w => { w with run := false, defer := [], loads := [], held := [] }
  ((s.setB (R.PWM_STAT_GSWAIT p) wait).set (R.PWM_CNT_CNT p) (s.get (R.PWM_PHASE p) / 32)).set
    (R.PWM_CNT_DOWN p) 0

/-- A write of PWMp_CTRL (R83, R89): EN without GSARM starts a pair that does not run, EN with GSARM
waits, clearing EN stops it; while EN is clear the control fields act at once. -/
def State.writePwmCtrl (s : State) (q : Who) (p v : Nat) : State × List Nat :=
  let s := s.writeReg q (0x8000 + 0x400 * p) v
  if s.govOwns p then (s, [])
  else if !s.flag (R.PWM_CTRL_EN p) then (s.haltPair p false, [])
  else if s.flag (R.PWM_CTRL_GSARM p) then (s.haltPair p true, [])
  else if (s.pwm.at p).run then (s, [])
  else s.startPair p

/-- The level an output with polarity takes (R73). -/
def polar (pol : Bool) : Level → Level
  | .hiz => .hiz
  | .low => if pol then .high else .low
  | .high => if pol then .low else .high

/-- The effective safe state of an output of pair `p` as its ball shows it (R97). -/
def State.safeBall (s : State) (p : Nat) (outB : Bool) : Level :=
  polar (s.flag (if outB then R.PWM_SAFE_POLB p else R.PWM_SAFE_POLA p))
    (safeLevel (s.get (if outB then R.PWM_SAFE_EFFB p else R.PWM_SAFE_EFFA p)))

/-- The pad latches take the effective safe states (R100, R509). -/
def State.latchPads (s : State) : State :=
  { s with pad := Vector.ofFn fun i => s.safeBall (i.val / 2) (decide (i.val % 2 = 1)) }

/-- The level of a PWM ball (R73, R92, R99, R100, R491): the pad latch until the Loom is configured and while
PD6 is off, high-impedance on VBAT, the safe state while tripped, else the output. -/
def State.ballLevel (s : State) (p : Nat) (outB : Bool) : Level :=
  let w := s.pwm.at p
  let pol := s.flag (if outB then R.PWM_SAFE_POLB p else R.PWM_SAFE_POLA p)
  if s.flag R.TMP_STAT_ONVBAT then .hiz
  else if !s.loomCfg || !s.on 6 then s.pad.at (2 * p + b2n outB)
  else if s.flag (R.TRP_STAT_TRIPPED p) then s.safeBall p outB
  else polar pol (if outB then w.bOut else w.aOut)

end Sys2Proof.Machine
end

