-- ==== Sys2Proof/Machine/FuseOps.lean ====
section
/-!
DEFINITION. The fuse array and its shadow (R411 to R417, R426): majority reads, the life-cycle word, the
thermometers, burns, and the register fields that the shadow fills.
-/

namespace Sys2Proof.Machine

/-! ### Reading the array (R411 to R413) -/

/-- A row with the repair entries that name one of its bits in place of the array's read (R413). -/
def repaired (f : Bank Word 256) (r : Nat) : Nat :=
  (List.range 33).foldl (fun v i =>
    let e := (f.at (223 + i)).toNat
    if e.testBit 31 && decide (e % 256 = r) then
      (let b := e / 2 ^ 16 % 32
       if e.testBit 30 then v ||| 2 ^ b else v &&& (2 ^ 32 - 1 - 2 ^ b))
    else v) (f.at r).toNat

/-- The bitwise majority of three words. -/
def majNat (a b c : Nat) : Nat := (a &&& b) ||| (a &&& c) ||| (b &&& c)

/-- The three rows that hold a copy of life-cycle or progress row `r` (R412, R413). -/
def copies (r : Nat) : List Nat := if r < 3 then [0, 1, 2] else if r < 18 then
    [3 + (r - 3) % 5, 8 + (r - 3) % 5, 13 + (r - 3) % 5] else [r]

/-- A row as the part reads it: rows 0 to 17 by majority (R413, R433). -/
def fuseRow (f : Bank Word 256) (r : Nat) : Nat :=
  match copies r with
  | [a, b, c] => majNat (repaired f a) (repaired f b) (repaired f c)
  | _ => repaired f r

/-- `n` rows from `r`, byte 0 in the low bits of the first row (R412). -/
def fuseBytes (f : Bank Word 256) (r n : Nat) : List Nat :=
  (List.range n).flatMap fun i => toLE 4 (fuseRow f (r + i))

/-- The number of burned bits of a word. -/
def popcount (w : Nat) : Nat := (List.range 32).countP fun i => w.testBit i

/-- The value of the thermometer in rows `r` and `r + 1` (R426). -/
def therm (f : Bank Word 256) (r : Nat) : Nat := popcount (fuseRow f r) + popcount (fuseRow f (r + 1))

/-- The bits of rows 0 to 17 whose copies disagree (R413). -/
def disagreements (f : Bank Word 256) : Nat :=
  ([0] ++ (List.range 5).map (· + 3)).foldl (fun n r =>
    let v := (copies r).map fun c => repaired f c
    let a := v.headD 0
    n + popcount ((v.map fun x => x ^^^ a).foldl (· ||| ·) 0)) 0

/-! ### The life-cycle word (R417, Table 19.5) -/

/-- The position of the highest burned bit of a 7-bit field, counting from 1; 0 for none. -/
def highest7 (w lo : Nat) : Nat := ((List.range 7).filter fun i => w.testBit (lo + i)).foldl (fun n i => max n (i + 1)) 0

/-- The state code of a life-cycle word (Table 19.6). -/
def lcCode (w : Nat) : Nat :=
  if w.testBit 18 then 7
  else if w.testBit 17 then 5
  else if w.testBit 16 then 4
  else if w.testBit 15 then 3
  else if w.testBit 0 then (if highest7 w 8 < highest7 w 1 then 2 else 1)
  else 0

/-- The life-cycle state the part is in: the shadow's (R411). -/
def State.lcState (s : State) : Nat := s.get R.LCS_STATE_STATE

/-- Before MAKER there is no device secret (R418). -/
def State.noSecret (s : State) : Bool := decide (s.lcState < 3)

/-- A bit of the 160-bit progress word (R424). -/
def State.progress (s : State) (i : Nat) : Bool := (fuseRow s.fuse (3 + i / 32)).testBit (i % 32)

/-! ### Burns (R411, R416) -/

/-- Burn bits of a row of the array: a burned bit stays burned. -/
def State.burn (s : State) (r bits : Nat) : State :=
  { s with fuse := s.fuse.upd r fun w => w ||| BitVec.ofNat 32 bits }

/-- Burn a bit of a row in every copy of it (R413). -/
def State.burnAll (s : State) (r bits : Nat) : State := (copies r).foldl (fun s c => s.burn c bits) s

/-- The lock of row `r` is burned: it acts at once (R411, R416). -/
def State.rowLocked (s : State) (r : Nat) : Bool := (s.fuse.at (215 + r / 32)).toNat.testBit (r % 32)

/-- Burn the row lock of `r`. -/
def State.lockRow (s : State) (r : Nat) : State := s.burn (215 + r / 32) (2 ^ (r % 32))

/-- Rows of the test group (Table 19.4). -/
def testRow (r : Nat) : Bool :=
  decide (18 ≤ r ∧ r ≤ 101) || decide (122 ≤ r ∧ r ≤ 157) || decide (179 ≤ r ∧ r ≤ 190) || decide (223 ≤ r ∧ r ≤ 255)

/-- Rows of the customer group (Table 19.4). -/
def customerRow (r : Nat) : Bool :=
  decide (102 ≤ r ∧ r ≤ 113) || decide (158 ≤ r ∧ r ≤ 174) || decide (191 ≤ r ∧ r ≤ 214)

/-! ### The shadow and the fields it fills (R411, R414, R415) -/

/-- A field of a shadow row. -/
def State.sh (s : State) (r hi lo : Nat) : Nat := bitsOf (fuseRow s.shadow r) hi lo

/-- The 128-bit device ID (R412). -/
def State.devId (s : State) : List Nat := fuseBytes s.shadow 122 4

/-- A bit field of the 72-bit PWM field: pair `p`, bit `b` (Table 19.3). -/
def State.pwmFuse (s : State) (p b : Nat) : Nat :=
  let i := 6 * p + b
  s.sh (159 + i / 32) (i % 32) (i % 32)

/-- The fields of the pairs that fuses fill: FUSEA, FUSEB, the polarities and the ceilings; the effective
safe state is the fused default until SAFE is loaded (R97). -/
def State.fusePwm (s : State) (p : Nat) : State :=
  let fa := s.pwmFuse p 0 + 2 * s.pwmFuse p 1
  let fb := s.pwmFuse p 2 + 2 * s.pwmFuse p 3
  let s := ((s.set (R.PWM_SAFE_FUSEA p) fa).set (R.PWM_SAFE_FUSEB p) fb).set (R.PWM_SAFE_POLA p) (s.pwmFuse p 4)
  let s := ((s.set (R.PWM_SAFE_POLB p) (s.pwmFuse p 5)).set (R.PWM_SAFE_EFFA p) fa).set (R.PWM_SAFE_EFFB p) fb
  (s.set (R.PWM_LIMIT_DMAX p) (s.sh (166 + p / 4) (8 * (p % 4) + 7) (8 * (p % 4)))).set (R.PWM_LIMIT_VSMAX p)
    (s.sh (169 + p / 2) (16 * (p % 2) + 15) (16 * (p % 2)))

/-- The governor's fused limits (Table 5.3). -/
def State.fuseGov (s : State) : State :=
  ((((((s.set R.EGV_FLIM_EMAX (s.sh 162 11 0)).set R.EGV_FLIM_EZMIN (s.sh 162 23 12)).set R.EGV_FREL_MESHEMAX
    (s.sh 162 29 24)).set R.EGV_FREL_RMAX (s.sh 163 11 0)).set R.EGV_FREL_VAIN (s.sh 163 16 12)).set
    R.EGV_FCAP (s.sh 164 19 0)).set R.EGV_FVSCALE (s.sh 165 23 0)

/-- WLD_CFG as the fuses and the Draft policies set it (R301, R414). -/
def State.worldCfg (s : State) : State :=
  let s := ((s.set R.WLD_CFG_SPSIZE (s.sh 158 1 0)).set R.WLD_CFG_FORCEF (s.sh 158 2 2)).set R.WLD_CFG_FORCEC (s.sh 158 3 3)
  (s.setB R.WLD_CFG_EFFCACHE (s.flag R.WLD_CFG_FORCEF || s.flag R.WLD_CFG_CACHEPOL)).setB R.WLD_CFG_EFFPRED
    (s.flag R.WLD_CFG_FORCEC || s.flag R.WLD_CFG_PREDPOL)

/-- The fields marked F of domain `d`, from the shadow (R411). -/
def State.fuseFields (s : State) (d : Nat) : State :=
  match d with
  | 0 =>
    let w := fuseRow s.shadow 0
    let s := ((s.set R.LCS_STATE_STATE (lcCode w)).set R.LCS_STATE_OPENS (highest7 w 1)).set R.LCS_STATE_RELOCKS (highest7 w 8)
    let s := (s.set R.LCS_THERM_CRER (therm s.shadow 175)).set R.LCS_THERM_CUST (therm s.shadow 177)
    let s := (List.range 4).foldl (fun s i => s.set (R.SYS_DEVID i) (fuseRow s.shadow (122 + i))) s
    let e := s.sh 162 29 24
    (s.set R.PLY_MODE_FORCED (s.sh 158 4 4)).set R.TMP_MESHE_CEIL (if e = 0 then 50 else min e 50)
  | 3 => s.worldCfg
  | 6 => ((List.range 12).foldl (fun s p => s.fusePwm p) s).fuseGov
  | _ => s

/-- The fuse shadow load (R411, R413): `margin` counts the bits whose two margin reads disagree and that a
repair entry supplies. -/
def State.loadShadow (s : State) (margin : Nat) : State :=
  let s := { s with shadow := s.fuse, fuseLoaded := true }
  let s := (s.fuseFields 0).set R.LCS_MARGIN (satN 0xFFFF (disagreements s.fuse + margin))
  if s.get R.LCS_MARGIN = 0 then s else s.advise 5

/-- The level an output of pair `p` drives from the fuse shadow load on: its fused default alone (R97). -/
def State.fusedLevel (s : State) (p : Nat) (outB : Bool) : Level :=
  let b := if outB then 2 else 0
  polar (decide (s.pwmFuse p (4 + b2n outB) ≠ 0)) (safeLevel (s.pwmFuse p b + 2 * s.pwmFuse p (b + 1)))

/-- After a power-on the PWM balls are high-impedance until the fuse shadow load and stand at the fused safe state from
there (R97, R99, Table 23.7). -/
def State.fusedPads (s : State) : State :=
  { s with pad := Vector.ofFn fun i => s.fusedLevel (i.val / 2) (decide (i.val % 2 = 1)) }

/-- The fuse requiring signed Drafts is burned (R414). -/
def State.draftSigned (s : State) : Bool := decide (s.sh 158 5 5 = 1)

end Sys2Proof.Machine
end

