-- ==== Sys2Proof/Machine/IcuRows.lean ====
section
/-!
DEFINITION. The interrupt controller (chapter 12): readiness, resolution, acknowledge, completion, and
the commands that need no strand.
-/

namespace Sys2Proof.Machine

/-! ### Resolution (R252 to R255, R259, R261) -/

/-- A pending source is ready (R252). -/
def State.icuReady (s : State) (n : Nat) : Bool :=
  let c := s.get (R.ICU_COAL_COUNT n)
  let t := s.get (R.ICU_COAL_TIME n)
  s.flag (R.ICU_STS_PEND n) &&
    ((decide (c ≠ 0) && decide (c ≤ s.get (R.ICU_STS_EVC n)))
      || (decide (t ≠ 0) && decide (n ∈ s.icu.expired)) || (decide (c = 0) && decide (t = 0)))

/-- The source is held by its hold-off group (R254). -/
def State.icuHeld (s : State) (n : Nat) : Bool :=
  s.flag (R.ICU_SRC_GRPEN n) && s.icu.grp.any fun x => decide (x.1 = s.get (R.ICU_SRC_GROUP n))

/-- The core a source is routed to (R261); TARGET 3 acts as A. -/
def State.icuRoute (s : State) (n : Nat) : Nat :=
  let t := s.get (R.ICU_SRC_TARGET n)
  match s.plyRoute with
  | 0 => 0
  | 1 => if t = 2 then 2 else 0
  | _ => if t = 3 then 0 else t

/-- Enabled, ready, not held, not active and routed to core `c`: the conditions of a wake (R259). -/
def State.icuOffers (s : State) (c n : Nat) : Bool :=
  s.flag (R.ICU_SRC_EN n) && s.icuReady n && !s.icuHeld n && !s.flag (R.ICU_STS_ACT n)
    && decide (s.icuRoute n = c)

/-- The candidate of core `c` (R255): the highest priority, and the lowest number among equals. -/
def State.icuCandidate (s : State) (c : Nat) : Option Nat :=
  (List.range 224).foldl (fun best n =>
    if s.icuOffers c n && decide (1 ≤ s.get (R.ICU_SRC_PRI n)) then
      match best with
      | none => some n
      | some b => if s.get (R.ICU_SRC_PRI b) < s.get (R.ICU_SRC_PRI n) then some n else best
    else best) none

/-- Some source would wake core `c` (R259). -/
def State.icuWakes (s : State) (c : Nat) : Bool := (List.range 224).any fun n => s.icuOffers c n

/-- Some source requests the exit from HOLD (R260). -/
def State.icuHoldExit (s : State) : Bool :=
  (List.range 224).any fun n => s.flag (R.ICU_SRC_HWAKE n) && s.icuOffers (s.icuRoute n) n

/-! ### Acknowledge and completion (R251, R254, R257) -/

/-- The interval of group `g` ends (R254). -/
def IcuSt.endGrp (i : IcuSt) (g : Nat) : IcuSt := { i with grp := i.grp.filter fun x => decide (x.1 ≠ g) }

/-- The coalescing timer of source `n` starts afresh. -/
def State.icuTimerOff (s : State) (n : Nat) : State :=
  { s with icu := { s.icu with timer := without s.icu.timer n, expired := without s.icu.expired n } }

/-- Core `c` acknowledges source `n` (R251, R252, R254). -/
def State.icuAck (s : State) (c n : Nat) : State :=
  let s := s.set (R.ICU_STS_LASTCNT n) (s.get (R.ICU_STS_EVC n))
  let s := ((s.set (R.ICU_STS_PEND n) 0).set (R.ICU_STS_EVC n) 0).icuTimerOff n
  let s := (s.set (R.ICU_STS_ACT n) 1).set (R.ICU_STS_ACTBY n) c
  let g := s.get (R.ICU_SRC_GROUP n)
  if s.flag (R.ICU_SRC_GRPEN n) && decide (s.get (R.ICU_GRP g) ≠ 0) then
    { s with icu := { s.icu.endGrp g with grp := (g, 0) :: (s.icu.endGrp g).grp } }
  else s

/-- A stray completion (R257): counted; the first since the count was cleared, or since VALID was (Table 12.5), recorded;
and source 155 when the count becomes equal to a nonzero threshold. -/
def State.icuStray (s : State) (c v : Nat) : State :=
  let old := s.get R.ICU_STRAY
  let s := s.inc R.ICU_STRAY
  let s := if s.flag R.ICU_STRAYLAST_VALID && decide (old ≠ 0) then s
    else ((s.set R.ICU_STRAYLAST_VALID 1).set R.ICU_STRAYLAST_CORE c).set R.ICU_STRAYLAST_SRC v
  let now := s.get R.ICU_STRAY
  s.raiseIf (decide (now ≠ old) && decide (now = s.get R.ICU_STRAYTHR)) 155

/-- Core `c` completes source `v` (R257): valid where the source is active on that core, else stray. -/
def State.icuComplete (s : State) (c v : Nat) : State :=
  if v < 224 ∧ s.flag (R.ICU_STS_ACT v) = true ∧ s.get (R.ICU_STS_ACTBY v) = c then s.set (R.ICU_STS_ACT v) 0
  else s.icuStray c v

/-- A pending event is withdrawn (Table 12.4). -/
def State.icuWithdraw (s : State) (n : Nat) : State :=
  ((s.set (R.ICU_STS_PEND n) 0).set (R.ICU_STS_EVC n) 0).icuTimerOff n

/-- A change to the frame by `f`: a candidate it withdraws, offered no more or at a lower priority than another's, stays
open to the acceptance of R256 at the priority it was resolved with. -/
def State.icuChange (s : State) (f : State → State) : State :=
  let t := f s
  let gone := (List.range 3).filterMap fun c =>
    match s.icuCandidate c with
    | some n =>
      if t.icuCandidate c = some n then none
      else if t.icuOffers c n && decide (s.get (R.ICU_SRC_PRI n) ≤ t.get (R.ICU_SRC_PRI n)) then none
      else some (c, n, s.get (R.ICU_SRC_PRI n))
    | none => none
  { t with icu := { t.icu with raced := gone ++ t.icu.raced } }

/-- Source `n` becomes enabled (R252): its timer starts for an event that is pending, else with the first to come. -/
def State.icuEnable (s : State) (n : Nat) : State :=
  let s := s.icuTimerOff n
  if s.flag (R.ICU_STS_PEND n) then { s with icu := { s.icu with timer := n :: s.icu.timer } } else s

/-- A write of ICU_SRCn. -/
def State.writeIcuSrc (s : State) (q : Who) (n v : Nat) : State :=
  let was := s.flag (R.ICU_SRC_EN n)
  let s := s.icuChange fun s => s.writeReg q (0x4000 + 4 * n) v
  if s.flag (R.ICU_SRC_EN n) && !was then s.icuEnable n else s

/-- A write of ICU_GRPg: it applies to the interval in progress, which ends where it has run as long already (R254). -/
def State.writeIcuGrp (s : State) (q : Who) (g v : Nat) : State :=
  let s := s.writeReg q (0x4C00 + 4 * g) v
  if s.icu.grp.any fun x => decide (x.1 = g) && decide (s.get (R.ICU_GRP g) ≤ x.2) then { s with icu := s.icu.endGrp g } else s

/-- A write of ICU_STSn (Table 12.4): PEND withdraws, ACTCLR completes for the core in ACTBY. -/
def State.writeIcuSts (s : State) (n v : Nat) : State :=
  let s := if v.testBit 31 then s.icuChange fun s => s.icuWithdraw n else s
  if v.testBit 29 then s.icuComplete (s.get (R.ICU_STS_ACTBY n)) n else s

/-- A write of ICU_SGISET raises the software-generated interrupts (R258). -/
def State.sgiSet (s : State) (v : Nat) : State :=
  (List.range 32).foldl (fun s b => if v.testBit b then s.raise (192 + b) else s) s

/-! ### The Ply and the power states (R262, R265) -/

/-- At a join, what is active on a joining strand is dropped and counted (R262). -/
def State.icuJoin (s : State) (joining : List Nat) : State :=
  (List.range 224).foldl (fun s n =>
    if s.flag (R.ICU_STS_ACT n) && decide (s.get (R.ICU_STS_ACTBY n) ∈ joining) then
      (s.set (R.ICU_STS_ACT n) 0).inc R.ICU_JOINDROP
    else s) s

/-- At the Ply restart ACT is cleared in every source (R262). -/
def State.icuRestart (s : State) : State := (List.range 224).foldl (fun s n => s.set (R.ICU_STS_ACT n) 0) s

/-- Is the field among those retention keeps (R265)? -/
def icuRetained (f : Fld) : Bool :=
  decide (0x4000 ≤ f.addr) && decide (f.addr < 0x4800)
    || (decide (0x4800 ≤ f.addr) && decide (f.addr < 0x4C00) && decide (f.lo = 31))
    || (decide (0x4C00 ≤ f.addr) && decide (f.addr < 0x4D00))
    || decide (f.addr = 0x4D04) || decide (f.addr = 0x4D08) || decide (f.addr = 0x4D0C) || decide (f.addr = 0x4D14)

/-- Save the frame for SLEEP (R265). -/
def State.icuSave (s : State) : State :=
  { s with icu := { s.icu with saved := some (s.regs.filter fun x => icuRetained x.1), wake := [] } }

/-- Restore the frame at the SLEEP exit (R265): the saved registers, the wake latch into PEND, every
pending source with EVC 1 and its coalescing restarted, and no interval running. -/
def State.icuRestore (s : State) : State :=
  match s.icu.saved with
  | none => s
  | some r =>
    let s := r.foldl (fun s x => s.set x.1 x.2) s
    let w := s.icu.wake
    let s := { s with icu := { saved := none } }
    let s := w.foldl (fun s n => s.set (R.ICU_STS_PEND n) 1) s
    let s := (List.range 224).foldl (fun s n =>
      if s.flag (R.ICU_STS_PEND n) then
        { s.set (R.ICU_STS_EVC n) 1 with icu := { s.icu with timer := n :: s.icu.timer } } else s) s
    s.set R.ICU_STAT_RESTORED 1

/-! ### The rows -/

/-- ICU_SOURCE_EVENT (R251). -/
def execIcuSourceEvent (n : Fin 224) (s : State) : Out := .next (s.raise n)

/-- ICU_COALESCE_TIMER_EXPIRY (R252). -/
def execIcuCoalesceTimerExpiry (n : Fin 224) (s : State) : Out :=
  .next (if n.val ∈ s.icu.timer then
      { s with icu := { s.icu with timer := without s.icu.timer n.val, expired := insOnce s.icu.expired n.val } }
    else s)

/-- ICU_HOLDOFF_END (R254). -/
def execIcuHoldoffEnd (g : Fin 16) (s : State) : Out :=
  .next { s with icu := s.icu.endGrp g.val }

/-- ICU_ACTCLR (R257). -/
def execIcuActclr (q : Who) (n : Fin 224) (s : State) : Out :=
  .next (s.via q.req 6 fun s => s.writeIcuSts n (2 ^ 29))

/-- ICU_PEND_CLEAR (R267). -/
def execIcuPendClear (q : Who) (n : Fin 224) (s : State) : Out :=
  .next (s.via q.req 6 fun s => s.writeIcuSts n (2 ^ 31))

/-- ICU_SGI_SET (R258). -/
def execIcuSgiSet (q : Who) (v : Word) (s : State) : Out := .next (s.via q.req 6 fun s => s.sgiSet v.toNat)

end Sys2Proof.Machine
end

