-- ==== Sys2Proof/Machine/LoomOps.lean ====
section
/-!
DEFINITION. The ADC triggers and results, the lanes and the Heddle matrix (R24 to R28, R47 to R67).
Q1.23 values are integers with 23 fraction bits. Events travel through the matrix as a list of work:
a source that fired, or a lane to run.
-/

namespace Sys2Proof.Machine

/-! ### ADC (R24 to R27, R37, R42, R44) -/

/-- A trigger of slot `m` of core `i` (R25): dropped while PD7 is not ON (R42) or the core is not
enabled (Table 2.3); counted as an overrun when the slot is pending already; else pending. -/
def State.adcTrigger (s : State) (i m : Nat) : State :=
  if !s.on 7 || !s.flag (R.ADC_CTRL_EN i) then s
  else if s.bit (R.ADC_STAT_PEND i) m then
    ((s.setBit (R.ADC_STAT_OVR i) m).inc (R.ADC_OVRCNT i)).raiseIf (s.flag (R.ADC_CTRL_OVRIE i)) (64 + i)
  else s.setBit (R.ADC_STAT_PEND i) m

/-- A trigger of slot `m` of core `i` is taken (R25, R42). -/
def State.adcTakes (s : State) (i m : Nat) : Bool :=
  s.on 7 && s.flag (R.ADC_CTRL_EN i) && !s.bit (R.ADC_STAT_PEND i) m

/-- NOM of a reference in microvolts (R23): 1.500 V for REF_INT, the declared value for REFA and REFB. -/
def State.refNom (s : State) (n : Nat) : Nat :=
  match n with
  | 0 => 1500000
  | 1 => s.get R.RFM_NOMA
  | _ => s.get R.RFM_NOMB

/-- The voltage of a reference: 0 INT, 1 A, 2 B. -/
def refAt (r : RefVolts) : Nat → Nat
  | 0 => r.int
  | 1 => r.a
  | _ => r.b

/-- VREF in microvolts as a fraction (R23): the buffer scales the selected reference by 1.500 V ÷ NOM. -/
def State.vref (s : State) (r : RefVolts) : Nat × Nat :=
  let n := s.get R.RFM_STAT_ACTIVE
  (refAt r n * 1500000, s.refNom n)

/-- The internal output of a DAC in units of VREF ÷ 2^24 (R33): DATA × VREF ÷ 4096 within 1 LSB, and open until it
has settled. `x` is a free number. -/
def dacOut (data settle x : Nat) : Nat :=
  if settle ≠ 0 then x % 2 ^ 24 else 4096 * data + x % 8193 - 4096

/-- The reference that REFCHK reads (R28): REF_INT when it is not selected, else the lowest-numbered external
reference that is fitted; none is VSSA. -/
def State.refChk (s : State) : Option Nat :=
  if s.get R.RFM_STAT_ACTIVE ≠ 0 then some 0
  else if s.flag R.RFM_CFG_FITA then some 1
  else if s.flag R.RFM_CFG_FITB then some 2
  else none

/-- A source of core `i` as a fraction of VREF, `num ÷ den` (Table 2.1, R23, R28): `x` is a free number. REFCHK is a
reference scaled by its own NOM to VREF ÷ 2, so it reads against the selected one as the two deviate. -/
def State.adcRatio (s : State) (i sel x : Nat) (v : PinVolts) (e : DieVolts) (r : RefVolts) : Nat × Nat :=
  let (vn, vd) := s.vref r
  let pin (u : Nat) : Nat × Nat := (u * vd, vn)
  match sel with
  | 0 | 3 => pin v.a0
  | 1 => pin v.a1
  | 2 => pin v.a2
  | 4 => pin e.temp
  | 5 => match s.refChk with
    | some n => (refAt r n * 1500000 * vd, 2 * s.refNom n * vn)
    | none => (0, 1)
  | 6 => (dacOut (s.get (R.DAC_DATA (i % 2))) (s.dac.at (i % 2)).settle x, 2 ^ 24)
  | _ => pin e.vdd

/-- The code of a conversion (R26): truncation of `scale` times the fraction `num ÷ den` of VREF, then saturation. -/
def adcCode (diff : Bool) (num : Int) (den : Nat) : Int :=
  if diff then satI (-2048) 2047 ((2048 * num).fdiv den) else satI 0 4095 ((4096 * num).fdiv den)

/-- The code the busy core `i` forms now (R26); `x` is a free number. Where the selected reference or a declared NOM
is 0, VREF is no voltage of R23 and the rule gives no code: the code is that free number (DESIGN CHOICE,
assumption 30). -/
def State.codeOf (s : State) (i x : Nat) (v : PinVolts) (e : DieVolts) (r : RefVolts) : Int :=
  let sel := (s.adc.at i).sel
  let diff := decide (sel = 3)
  let (num, den) := s.adcRatio i sel x v e r
  if den = 0 ∨ (s.vref r).2 = 0 then adcCode diff x (if diff then 2048 else 4096)
  else adcCode diff (if diff then (num : Int) - v.a1 * (s.vref r).2 else num) den

/-- The code the busy core `i` forms now, and the free index moved on. -/
def State.coreCode (s : State) (i : Nat) (v : PinVolts) (e : DieVolts) (r : RefVolts) : Int × State :=
  let x := s.freeN
  (s.codeOf i x.1 v e r, x.2)

/-- The code of a slot's latest result, signed where it is differential. -/
def State.slotCode (s : State) (slot : Nat) : Int :=
  let d := s.get (R.ADC_RES_DATA (slot / 4) (slot % 4))
  if (s.res.at slot).diff then sx 16 d else d

/-- The governor takes the result of the aperture `num` of `slot`, where its sample instant opened it (R104, R113). -/
def State.govTake (s : State) (slot num sel : Nat) : State :=
  let g := s.gov
  let c := s.slotCode slot
  let g := if decide (slot = s.get R.EGV_CFG_VSLOT) && decide (g.vMark = some num) then { g with vGot := some (c, sel) } else g
  { s with gov := if decide (slot = s.get R.EGV_CMCFG_CMSLOT) && decide (g.qMark = some num) then { g with qGot := some c } else g }

/-- A result of core `i` is delivered (R24, R37, R44): the slot register, DONE and its interrupt, the
completion event, and the core free. A result that spans a reference switch is replaced by the
previous one; a slot with no previous result then shows DATA as it stands at reset, 0, with REFSW set (DESIGN CHOICE,
assumption 67: R37 names no other). -/
def State.adcDeliver (s : State) (i : Nat) (x : Int) : State :=
  let c := s.adc.at i
  let m := c.slot
  let s := if c.spans then s.set (R.ADC_RES_REFSW i m) 1
    else (s.set (R.ADC_RES_DATA i m) (ux 16 x)).set (R.ADC_RES_REFSW i m) 0
  let s := (s.set (R.ADC_RES_NEW i m) 1).setB (R.ADC_RES_AVGD i m) (decide (c.avg ≠ 0))
  let s := (s.setBit (R.ADC_STAT_DONE i) m).raiseIf (s.bit (R.ADC_CTRL_DONEIE i) m) (64 + i)
  let s := { s with adc := s.adc.upd i fun c => { c with busy := false, spans := false } }
  let s := { s with res := s.res.upd (4 * i + m) fun r => { r with
      count := r.count + 1, seen := true, diff := if c.spans then r.diff else decide (c.sel = 3), sel := c.sel } }
  s.govTake (4 * i + m) c.num c.sel

/-! ### DMA triggers (R273) -/

/-- A trigger of channel `c`: dropped with no descriptor or a FREE one, held one deep while a unit
moves, and dropped with TRGOVR past that. -/
def State.dmaTrigger (s : State) (c : Nat) : State :=
  let d := s.dma.at c
  if !s.on 8 || !s.flag (R.DMA_CH_STAT_LOADED c) || decide (d.trig = 0) || d.stopped then s
  else if d.moving then
    (if s.flag (R.DMA_CH_STAT_TRGPEND c) then s.set (R.DMA_CH_STAT_TRGOVR c) 1
      else s.set (R.DMA_CH_STAT_TRGPEND c) 1)
  else { s.set (R.DMA_CH_STAT_BUSY c) 1 with dma := s.dma.upd c fun d => { d with moving := true } }

/-! ### Lanes -/

/-- Work in flight in the Loom: a Heddle source registered, a lane run to start, or the cascade write of lane `k`
with its output `y`, which comes at its S6 edge, after the S2 edges of the runs that started with its own (R56, R57). -/
inductive Work where
  | src (e : Nat) | run (k : Nat) | casc (k : Nat) (y : Int)
deriving DecidableEq, Repr

/-- The Q1.23 range. -/
def satQ (x : Int) : Int := satS 24 x

/-- Lane `k` ignores its own Heddle destination and follows a cascade write (R57). -/
def State.chained (s : State) (k : Nat) : Bool := s.flag (R.LN_CTRL_RUNSRC k)

/-- Lane `u` writes the cascade reference of lane `k` (R55). -/
def State.feeds (s : State) (u k : Nat) : Bool :=
  s.flag (R.LN_CTRL_EN u) && decide (s.get (R.LN_CTRL_DSTTYPE u) = 6) && s.bit (R.LN_DSTMASK u) k

/-- The conditions of R66 on the lane's own input that hold without a clock: PD7 or the core off, or no result
since PD7 came on. -/
def State.missIn (s : State) (k : Nat) : Bool :=
  let slot := s.get (R.LN_IN_SLOT k)
  s.flag (R.LN_IN_INEN k) && (!s.on 7 || !s.flag (R.ADC_CTRL_EN (slot / 4)) || !(s.res.at slot).seen)

/-- The condition of R66 on the chain: a chained lane behind an input-missing one. -/
def State.missChain (s : State) (k : Nat) : Bool :=
  s.chained k && (List.range 16).any fun u => s.feeds u k && s.flag (R.LN_STAT_INMISS u)

/-- A condition of R66 that needs no clock holds. -/
def State.missCond (s : State) (k : Nat) : Bool := s.missIn k || s.missChain k

/-- The pair a lane's SAFE action holds: destination types 1 to 4 with a pair number (R55, R66). -/
def State.lanePair (s : State) (k : Nat) : Option Nat :=
  let t := s.get (R.LN_CTRL_DSTTYPE k)
  let p := s.get (R.LN_CTRL_DSTIDX k)
  if 1 ≤ t ∧ t ≤ 4 ∧ p < 12 then some p else none

/-- LVLERR (R103). -/
def State.levelErr (s : State) : State :=
  s.setB R.EGV_STAT_LVLERR (s.flag R.EGV_LVLCFG_EN &&
    (decide (s.get (R.LN_CTRL_REFSEL (s.get R.EGV_LVLCFG_LANE)) = 2)
      || decide (s.get R.EGV_LVLCFG_LANE = s.get R.EGV_CFG_CHLANE)))

/-- Bits [18:11] of EGV_STAT, whose changes a WATCH on ENERGY reports; a fall of LQ is one (R122). -/
def State.energyKey (s : State) : List Nat := [s.readReg 0x10048 / 2 ^ 11 % 256]

/-- Every subscription to ENERGY takes note of a change as it happens (R122). -/
def State.energyLook (s : State) : State :=
  (List.range s.crerus.subs.length).foldl (fun s i =>
    if (s.crerus.subs.getD i {}).noun = 0x300 then s.noteChange i s.energyKey else s) s

/-- The levelling quality flag follows its conditions (R115): its fall sets LQDROP, counts, raises ICU 131 and is
journalled. The sample and the clamp are those of the last update. What the governor changed is noted (R122). -/
def State.quality (s : State) : State :=
  let q := s.flag R.EGV_LVLCFG_EN && !s.flag R.EGV_STAT_INHIB && !s.flag R.EGV_STAT_BLEED
    && !s.flag R.EGV_STAT_FLOOROVR && !s.flag R.EGV_STAT_TRIPPED && !s.gov.clamped && s.gov.valid
    && !s.flag (R.LN_STAT_INMISS (s.get R.EGV_CFG_CHLANE)) && !s.flag (R.LN_STAT_INMISS (s.get R.EGV_LVLCFG_LANE))
  let was := s.flag R.EGV_STAT_LQ
  let s := s.setB R.EGV_STAT_LQ q
  (if was && !q then (((s.set R.EGV_STAT_LQDROP 1).raise 131).inc R.EGV_LQCNT).journal 115 [s.get R.EGV_STAT_LQ]
    else s).energyLook

/-- The flags of the governor that follow registers (R103, R115). -/
def State.govJudge (s : State) : State := s.levelErr.quality

/-- With MISSACT SAFE an input-missing lane holds the pair it writes in its safe state (R66, R93). -/
def State.missSafe (s : State) (k : Nat) : State × List Nat :=
  match s.lanePair k with
  | some p =>
    if s.flag (R.LN_STAT_INMISS k) && s.flag (R.LN_CTRL_MISSACT k) then
      { s with trip := { s.trip with laneSafe := insOnce s.trip.laneSafe k } }.judgeTrip p
    else ({ s with trip := { s.trip with laneSafe := without s.trip.laneSafe k } }, [])
  | none => ({ s with trip := { s.trip with laneSafe := without s.trip.laneSafe k } }, [])

/-- A condition of the lane's own input holds: a sample that the slot produces from here on ends it (R66). -/
def State.missMark (s : State) (k : Nat) : State :=
  s.updLane k fun l => { l with missOwn := true, missMark := (s.res.at (s.get (R.LN_IN_SLOT k))).count }

/-- Lane `k` becomes input-missing (R66), by its own input or by the chain: INMISS and MISS, and with MISSACT SAFE
the pair it writes trips. The lanes chained behind it follow. -/
def State.missBegin : Nat → State → Nat → Bool → State × List Nat
  | 0, s, _, _ => (s, [])
  | fuel + 1, s, k, own =>
    if !s.flag (R.LN_CTRL_EN k) then (s, [])
    else
      let was := s.flag (R.LN_STAT_INMISS k)
      let s := if own then s.missMark k else if was then s else s.updLane k fun l => { l with missOwn := false }
      if was then (s, [])
      else
        let (s, e) := ((s.set (R.LN_STAT_INMISS k) 1).flagRise (R.LN_STAT_MISS k) (48 + k)).quality.missSafe k
        (List.range 16).foldl (fun a c =>
          if a.1.chained c && a.1.feeds k c then
            (let (s', e') := State.missBegin fuel a.1 c false; (s', a.2 ++ e'))
          else a) (s, e)

/-- Every enabled lane whose input-missing conditions hold becomes so (R66). -/
def State.missCheck (s : State) : State × List Nat :=
  (List.range 16).foldl (fun a k =>
    if a.1.flag (R.LN_CTRL_EN k) && a.1.missCond k then
      (let (s', e) := State.missBegin 16 a.1 k (a.1.missIn k); (s', a.2 ++ e))
    else a) (s, [])

/-- Lane `k` leaves input-missing (R66). -/
def State.missEnd (s : State) (k : Nat) : State :=
  { (s.set (R.LN_STAT_INMISS k) 0).quality with trip := { s.trip with laneSafe := without s.trip.laneSafe k } }

/-- Does the sample a run captures end input-missing (R66)? Where its own input was missing, a result the slot
produced after that; where only the chain was, a cascade write from a lane that is not missing. -/
def State.missEnds (s : State) (k : Nat) : Bool :=
  !s.missCond k && (!(s.lane.at k).missOwn ||
    decide ((s.res.at (s.get (R.LN_IN_SLOT k))).count ≠ (s.lane.at k).missMark))

/-- Clear the histories and the integrator (R65). -/
def Lane.cleared (l : Lane) : Lane :=
  { l with e1 := 0, e2 := 0, e3 := 0, y1 := 0, y2 := 0, y3 := 0, integ := 0 }

/-- The shadow set of lane `k` as its registers hold it (R65). -/
def State.shadowSet (s : State) (k : Nat) (l : Lane) : Lane :=
  { l with
    b0 := s.gets (R.LN_B k 0), b1 := s.gets (R.LN_B k 1), b2 := s.gets (R.LN_B k 2),
    b3 := s.gets (R.LN_B k 3), a1 := s.gets (R.LN_A k 0), a2 := s.gets (R.LN_A k 1),
    a3 := s.gets (R.LN_A k 2), omin := s.gets (R.LN_OMIN k), omax := s.gets (R.LN_OMAX k),
    bthr := s.get (R.LN_BTHR k), bk := s.get (R.LN_BK k), oofs := s.get (R.LN_OOFS k),
    ospan := s.get (R.LN_OSPAN k) }

/-- What the S1 edge of a run takes up (R65): a history clear, and the shadow set when UPD is set; a set
with OMIN above OMAX is refused with WINERR. -/
def State.laneS1 (s : State) (k : Nat) : State :=
  let s := if (s.lane.at k).hclr then s.updLane k fun l => { l.cleared with hclr := false } else s
  if s.flag (R.LN_CTRL_UPD k) then
    let s := s.set (R.LN_CTRL_UPD k) 0
    if s.gets (R.LN_OMAX k) < s.gets (R.LN_OMIN k) then s.set (R.LN_STAT_WINERR k) 1
    else s.updLane k (s.shadowSet k)
  else s

/-- S1: the input x in Q1.23 (R49). Each step truncates to 23 fraction bits and saturates. -/
def laneInput (diff : Bool) (data : Nat) (gcorr offs gain : Int) : Int :=
  let x0 := if diff then sx 16 data * 4096 else (data : Int) * 2048
  let x1 := satQ (trunc 20 (x0 * (2 ^ 20 + gcorr)))
  let x2 := satQ (x1 - offs)
  satQ (trunc 14 (x2 * gain))

/-- The input of lane `k` (R49): 0 with INEN clear. -/
def State.laneX (s : State) (k : Nat) : Int :=
  if s.flag (R.LN_IN_INEN k) then
    let slot := s.get (R.LN_IN_SLOT k)
    laneInput (s.res.at slot).diff (s.get (R.ADC_RES_DATA (slot / 4) (slot % 4)))
      (s.gets R.RFM_GCORR) (s.gets (R.LN_OFFS k)) (s.gets (R.LN_GAIN k))
  else 0

/-- The levelling lane takes the adapted reference in place of LNk_REF (R103). -/
def State.levelling (s : State) (k : Nat) : Bool :=
  s.flag R.EGV_LVLCFG_EN && decide (s.get R.EGV_LVLCFG_LANE = k)
    && decide (s.get (R.LN_CTRL_REFSEL k) ≠ 2) && decide (s.get R.EGV_CFG_CHLANE ≠ k)

/-- S2: the reference (R50, R103). `first` is the first run since the lane's enable, at which a ramp
starts from x. -/
def State.laneRef (s : State) (k : Nat) (x : Int) : Int :=
  let l := s.lane.at k
  let tgt := if s.levelling k then s.gets R.EGV_LVLREF else s.gets (R.LN_REF k)
  match s.get (R.LN_CTRL_REFSEL k) with
  | 1 =>
    if l.first then x
    else
      let now := s.gets (R.LN_REFNOW k)
      let st : Int := s.get (R.LN_RSLEW k)
      if now < tgt then min tgt (now + st) else max tgt (now - st)
  | 2 => l.casc
  | _ => tgt

/-- S2: the boosted error (R51). -/
def boost (e : Int) (thr bk : Nat) : Int :=
  let sgn : Int := if e < 0 then -1 else if e = 0 then 0 else 1
  satQ (trunc 4 (16 * e + bk * (e - sgn * thr)))

/-- S3 to S5 in IIR mode (R52): u in Q1.23. -/
def iirOut (l : Lane) (e : Int) : Int :=
  satQ (rhe 20 (l.b0 * e + l.b1 * l.e1 + l.b2 * l.e2 + l.b3 * l.e3 + l.a1 * l.y1 + l.a2 * l.y2 + l.a3 * l.y3))

/-- The integrator in PI mode (R53): clamped to the window, with 43 fraction bits. -/
def piInteg (l : Lane) (e : Int) : Int :=
  satI (l.omin * 2 ^ 20) (l.omax * 2 ^ 20) (l.integ + l.b1 * e)

/-- S3 to S5 in PI mode (R53). -/
def piOut (l : Lane) (e i : Int) : Int := satQ (rhe 20 (l.b0 * e + i))

/-- S6: the window (R54). -/
def laneWindow (l : Lane) (u : Int) : Int := min (max u l.omin) l.omax

/-- S6: the destination value in 1/32, before its saturation (R55). -/
def destValue (l : Lane) (y : Int) : Int := l.oofs + trunc 23 (y * l.ospan)

/-- The output write of lane `k` (R55, R57): the destination, and the lanes it chains. -/
def State.laneWrite (s : State) (k : Nat) (y : Int) : State × List Work :=
  let l := s.lane.at k
  let d := s.get (R.LN_CTRL_DSTIDX k)
  let v := destValue l y
  let pwm (f : PwmField) : State :=
    if d < 12 then s.handValue d { fld := f, val := (satI 0 (2 ^ 21 - 1) v).toNat, lane := some k } else s
  match s.get (R.LN_CTRL_DSTTYPE k) with
  | 1 => (pwm .cmpa, [])
  | 2 => (pwm .cmpb, [])
  | 3 => (pwm .phase, [])
  | 4 => (pwm .per, [])
  | 5 => (s.set (R.CMP_THR d) (satI 0 4095 (trunc 5 v)).toNat, [])
  | 6 => (s, [.casc k y])
  | _ => (s, [])

/-- The cascade write of lane `k` (R57): the cascade reference of the lanes its DSTMASK names, and a run of those
that follow the chain. -/
def State.cascade (s : State) (k : Nat) (y : Int) : State × List Work :=
  let tgt := (List.range 16).filter fun c => s.bit (R.LN_DSTMASK k) c
  let s := tgt.foldl (fun s c => s.updLane c fun l => { l with casc := y }) s
  (s, (tgt.filter fun c => s.chained c).map Work.run)

/-- A lane leaves or joins the active phases of its group (R64): its history is cleared, and its pair
takes the change at its next period start. -/
def State.shedMember (s : State) (k : Nat) (out : Bool) : State :=
  let s := s.updLane k fun l => { l.cleared with shed := l.shed || out }
  s.updPwm (s.get (R.LN_CTRL_DSTIDX k)) fun w => { w with shedNext := some out, shedLane := k }

/-- The members of a shedding group, in ascending order (R64). -/
def State.members (s : State) (g : Nat) : List Nat :=
  ((List.range 16).filter fun k => s.bit (R.SHED_MEMB g) k).take 8

/-- The number of active phases changes to `n` (R64): the members between the old and the new count
leave or join, and the phases are re-spread at the next period start of the first. -/
def State.shedTo (s : State) (g n : Nat) : State :=
  let old := s.get (R.SHED_STAT_N g)
  let ms := s.members g
  let s := (s.set (R.SHED_STAT_N g) n).set (R.SHED_STAT_CHANGE g) 1
  let s := { s with shed := s.shed.upd g fun h => { h with below := 0, since := 0 } }
  let s := ((ms.take n).drop old).foldl (fun s k => s.shedMember k false) s
  let s := ((ms.take old).drop n).foldl (fun s k => s.shedMember k true) s
  s.updPwm (s.get (R.LN_CTRL_DSTIDX (ms.getD 0 0))) fun w => { w with respread := some g }

/-- An owner run of shedding group `g` with output `y` (R61, R64): the count starts again from an NNOM written since
the last run; NMIN and NMAX bound it, frozen or not; a phase is added above ADD, dropped after DWELL runs below DROP,
never within DWELL runs of a change, and never outside NMIN to NMAX. -/
def State.shedRun (s : State) (g : Nat) (y : Int) : State :=
  let h := s.shed.at g
  let lo := s.get (R.SHED_CFG_NMIN g)
  let hi := s.get (R.SHED_CFG_NMAX g)
  let own := s.get (R.SHED_CFG_OWNER g)
  let n := if h.nom && !s.flag (R.SHED_CFG_FREEZE g) then s.get (R.SHED_CFG_NNOM g) else s.get (R.SHED_STAT_N g)
  let m := min (max n lo) (max lo hi)
  let dwell := s.get (R.SHED_CFG_DWELL g)
  let low := decide (y < s.gets (R.SHED_DROP g))
  let below := if low then h.below + 1 else 0
  let free := decide (dwell ≤ h.since)
  let s := if s.flag (R.SHED_CFG_FREEZE g) then s
    else { s with shed := s.shed.put g { below := below, since := h.since + 1, nom := false } }
  if m ≠ s.get (R.SHED_STAT_N g) then (if m = n then s else s.conflictFlag own).shedTo g m
  else if s.flag (R.SHED_CFG_FREEZE g) then s
  else if free && decide (s.gets (R.SHED_ADD g) < y) then
    (if m < hi then s.shedTo g (m + 1) else s.conflictFlag own)
  else if free && low && decide (dwell ≤ below) then
    (if lo < m then s.shedTo g (m - 1) else s.conflictFlag own)
  else s

/-- A run of lane `k` from S1 to its output write (R47 to R57, R62, R66). An input-missing run writes
nothing and fires nothing. SAT and CONF that rise on its S6 edge are one event of source 48 + k (R67, R250). While
BOOSTEN is clear BACT shows 0, or stays as it stood while FRZBOOST is set (DESIGN CHOICE, assumption 67: R51 does
not say what it shows then). -/
def State.laneRun (s : State) (k : Nat) : State × List Work :=
  let s := (s.updLane k fun l => { l with hot := true, pend := false }).laneS1 k
  let missing := s.flag (R.LN_STAT_INMISS k)
  let s := if missing && s.missEnds k then s.missEnd k else s
  if s.flag (R.LN_STAT_INMISS k) then (s, [])
  else if s.missCond k then
    let (s, e) := State.missBegin 16 s k (s.missIn k)
    (s, e.map Work.src)
  else
    let x := s.laneX k
    let r := s.laneRef k x
    let e := satQ (if s.flag (R.LN_CTRL_INV k) then x - r else r - x)
    let l := s.lane.at k
    let bon := s.flag (R.LN_CTRL_BOOSTEN k)
    let bact := if s.flag (R.LN_CTRL_FRZBOOST k) then s.flag (R.LN_STAT_BACT k)
      else bon && decide ((l.bthr : Int) < e.natAbs)
    let e' := if bon && bact then boost e l.bthr l.bk else e
    let pi := s.flag (R.LN_CTRL_MODE k)
    let inh := s.flag (R.LN_STAT_INHIB k)
    let i := piInteg l e'
    let u := if pi then piOut l e' i else iirOut l e'
    let w := laneWindow l u
    let y := if inh then l.omin else w
    let s := (((s.sets (R.LN_REFNOW k) r).sets (R.LN_ERR k) e').sets (R.LN_OUT k) y).setB
      (R.LN_STAT_BACT k) bact
    let before := s
    let s := if w ≠ u then s.set (R.LN_STAT_SAT k) 1 else s
    let s := if decide (w ≠ u) && bon && bact then s.conflictFlag k else s
    let s := s.updLane k fun l => { l with
      first := false, e1 := e', e2 := l.e1, e3 := l.e2
      y1 := y, y2 := if inh then l.omin else l.y1, y3 := if inh then l.omin else l.y2
      integ := if inh then l.omin * 2 ^ 20 else if pi then i else l.integ }
    let (s, wk) := s.laneWrite k y
    let s := (List.range 2).foldl (fun s g =>
      if s.flag (R.SHED_CFG_EN g) && decide (s.get (R.SHED_CFG_OWNER g) = k) then s.shedRun g y else s) s
    let rose (f : Fld) : Bool := decide (before.get f = 0) && s.flag f
    (s.raiseIf (rose (R.LN_STAT_SAT k) || rose (R.LN_STAT_CONF k)) (48 + k), Work.src (100 + k) :: wk)

/-- A run trigger reaches lane `k` (R48): it runs, or is held one deep while the lane accepts no run, or
is dropped with RUNOVR. A lane that is disabled or shed takes none (R64, R65). -/
def State.laneTrigger (s : State) (k : Nat) : State × List Work :=
  let l := s.lane.at k
  if !s.flag (R.LN_CTRL_EN k) || l.shed then (s, [])
  else if l.pend then (s.set (R.LN_STAT_RUNOVR k) 1, [])
  else if l.hot then (s.updLane k fun l => { l with pend := true }, [])
  else s.laneRun k

/-! ### Heddle matrix (R58, Tables 3.3 and 3.4) -/

/-- What a destination does when it fires (Table 3.4). -/
def State.deliver (s : State) (n : Nat) : State × List Work :=
  if n < 32 then (s.adcTrigger (n / 4) (n % 4), [])
  else if n < 48 then (if s.chained (n - 32) then (s, []) else s.laneTrigger (n - 32))
  else if n < 60 then
    (if s.get (R.PWM_CTRL_SYNCSRC (n - 48)) = 1 then s.syncPair (n - 48) else s, [])
  else if n < 72 then
    (if s.flag (R.PWM_CTRL_UPDMODE (n - 60)) then s else s.immediateTransfer (n - 60), [])
  else if n < 88 then (s.dmaTrigger (n - 72), [])
  else (s.raise (216 + (n - 88)), [])

/-- Destination `n` counts an event of its source and fires on every (DIV + 1)-th (R58). -/
def State.destCount (s : State) (n : Nat) : State × Bool :=
  let c := s.hedCnt.at n
  if s.get (R.HED_DST_DIV n) ≤ c then ({ s with hedCnt := s.hedCnt.put n 0 }, true)
  else ({ s with hedCnt := s.hedCnt.put n (c + 1) }, false)

/-- An event of source `e` reaches every destination that selects it (R58). Source 127 never fires. -/
def State.heddle (s : State) (e : Nat) : State × List Work :=
  if !s.on 6 || decide (127 ≤ e) then (s, [])
  else (List.range 96).foldl (fun a n =>
    if a.1.flag (R.HED_DST_EN n) && decide (a.1.get (R.HED_DST_SRC n) = e) then
      (let (s1, f) := a.1.destCount n
       if f then (let (s2, w) := s1.deliver n; (s2, a.2 ++ w)) else (s1, a.2))
    else a) (s, [])

/-- One piece of work: what it does, and the work that follows. -/
def State.work (s : State) : Work → State × List Work
  | .src e => s.heddle e
  | .run k => s.laneTrigger k
  | .casc k y => s.cascade k y

/-- The work of one edge, in order. -/
def workAll (ws : List Work) (s : State) : State × List Work :=
  ws.foldl (fun a w => (let x := a.1.work w; (x.1, a.2 ++ x.2))) (s, [])

/-- A cascade write. -/
def Work.isCasc : Work → Bool
  | .casc _ _ => true
  | _ => false

/-- Carry out the work in flight, edge by edge: the cascade writes of an edge come before the runs it starts (R57), and
sources that fire on one edge count once each (R58). A lane runs at most once until its next run is accepted (R48),
so the work ends; `fuel` bounds it. -/
def loomWork : Nat → List Work → State → State
  | 0, _, s => s
  | n + 1, ws, s =>
    if ws = [] then s
    else
      let c := workAll (ws.filter Work.isCasc) s
      let r := workAll (c.2 ++ ws.filter fun w => !w.isCasc) c.1
      loomWork n (onceEach r.2) r.1

/-- Fire Heddle sources and carry out everything that follows. -/
def State.fire (s : State) (es : List Nat) : State := loomWork 512 ((onceEach es).map Work.src) s

/-- Carry out a list of work after an operation that answers one. -/
def runWork (a : State × List Work) : State := loomWork 512 (onceEach a.2) a.1

/-- Fire the sources an operation answers. -/
def fireAll (a : State × List Nat) : State := a.1.fire a.2

end Sys2Proof.Machine
end

