-- ==== Sys2Proof/Machine/EntryOps.lean ====
section
/-!
DEFINITION. The table of power domains, switching on, and the abandonment of a power-state entry (chapter 22),
which an unrecoverable Ply fault needs too.
-/

namespace Sys2Proof.Machine

/-! ### The table of domains (R476) -/

/-- The domains a domain requires (Table 22.1). -/
def requires (d : Nat) : List Nat :=
  match d with
  | 0 => []
  | 1 => [0, 2]
  | 3 | 4 | 5 => [0, 6, 8]
  | 6 => [0, 9]
  | 7 => [6]
  | 11 => [1]
  | _ => [0]

/-- The domains that require `d`, directly. -/
def dependents (d : Nat) : List Nat := (List.range 12).filter fun x => decide (d ∈ requires x)

/-- Domain `d` is in state `st` (Table 22.2). -/
def State.domIs (s : State) (d st : Nat) : Bool := decide (s.get (R.PWR_DOM d) = st)

/-- Domain `d` holds something: UP, ON or QUIESCING. -/
def State.domLive (s : State) (d : Nat) : Bool := s.domIs d 2 || s.domIs d 3 || s.domIs d 4

/-! ### Switching on (R476, R478) -/

/-- Domain `d` is switched on where every domain it requires is ON; it is UP until its row (R478). -/
def State.switchOn (s : State) (d : Nat) : State :=
  if (s.domIs d 0 || s.domIs d 1) && (requires d).all s.on then s.set (R.PWR_DOM d) 2 else s

/-- Domain `d` is to be ON in RUN (Table 22.4): not switched off by firmware (R492), and no strand domain that
nothing has released (R510) or that LEAN keeps off (R490). -/
def State.wants (s : State) (d : Nat) : Bool :=
  !(decide (d = 7) && s.flag R.PWR_DOMREQ_PD7OFF) && !(decide (d = 11) && s.flag R.PWR_DOMREQ_PD11OFF)
    && !(decide (3 ≤ d) && decide (d ≤ 5) && s.domIs d 0
      && (decide (d ∉ s.pwr.leanOff) || decide (s.get R.PWR_STATE_PSTATE = 1)))

/-- Domain `d` is still on its way to ON. -/
def State.coming (s : State) (d : Nat) : Bool := s.wants d && (s.domIs d 0 || s.domIs d 1 || s.domIs d 2)

/-- The domains to switch on next: from SLEEP first PD8, then PD6, then PD7, then the rest (R489). -/
def State.nextOn (s : State) : List Nat :=
  if s.get R.PWR_STATE_PSTATE = 3 then
    match [8, 6, 7].find? s.coming with
    | some d => [d]
    | none => List.range 12
  else List.range 12

/-- The sequencer switches on what it wants and can (R476, R487, R489). -/
def State.bringUp (s : State) : State :=
  (s.nextOn.filter s.wants).foldl (fun s d => s.switchOn d) s

/-- The bypass path inserts the frame itself: a BYPASS frame, or a NAK_RESET (R157). -/
def isPathFrame (f : Frame) : Bool :=
  match f with
  | .bypass _ _ => true
  | .msg k _ _ _ _ _ _ _ _ => decide (k = 2)
  | _ => false

/-- The part is in HOLD or SLEEP, or on the way there past the reply (R484). -/
def State.asleep (s : State) : Bool := decide (s.get R.PWR_STATE_PSTATE = 2) || decide (s.get R.PWR_STATE_PSTATE = 3)

/-! ### The strand domains after an unrecoverable fault (R183, R279) -/

/-- Vendor firmware quiesces the strand domains that are ON, on their way to OFF. -/
def State.quiesceStrands (s : State) : State :=
  [3, 4, 5].foldl (fun s d =>
    if s.on d then { s.set (R.PWR_DOM d) 4 with pwr := { s.pwr with quiet := s.pwr.quiet ++ [(d, 0)] } } else s) s

/-! ### An entry abandoned (R493) -/

/-- A stopped core goes on. -/
def Core.unstop (k : Core) : Core := if k.run = .stopped then { k with run := .issuing } else k

/-- Cores stopped for an entry go on: after a WFI as a wake from it, else at their boundary (R485). -/
def State.freeCores (s : State) : State :=
  let s := { s with core := s.core.map Core.unstop }
  { (s.set R.PWR_ACK 0) with pwr := { s.pwr with wfi := [] } }

/-- The request of the entry is answered. -/
def State.tellEntry (s : State) (status : Nat) (data : List Nat) : State :=
  match s.pwr.job with
  | none => s
  | some id => { s with
      crerus := { s.crerus with susp := s.crerus.susp.map fun j => if j.id = id then { j with wait := .ready status data } else j }
      pwr := { s.pwr with job := none } }

/-- The entry in progress is abandoned with a reason (R493): 1 PLY, 2 TAMPER. -/
def State.abandonEntry (s : State) (reason : Nat) : State :=
  if s.pwr.entry.isNone || s.pwr.past then s
  else
    let s := (s.tellEntry 0x61 [reason]).freeCores
    let s := s.pwr.quiet.foldl (fun s x => s.set (R.PWR_DOM x.1) 3) s
    let s := { s with pwr := { s.pwr with entry := none, noFlash := false, quiet := [] } }
    ((s.set R.PWR_STATE_ENTRY 0).set R.HIF_STATUS_ENTRY_PENDING 0).bringUp

end Sys2Proof.Machine
end

