-- ==== Sys2Proof/Machine/ResetOps.lean ====
section
/-!
DEFINITION. The SYS reset (R12, R499, R500): what it keeps, and the internal causes that wait for a flash
operation to end.
-/

namespace Sys2Proof.Machine

/-- The registers a SYS reset keeps: reset domain AON, and the losses recorded during BATTERY (R12, R496). -/
def State.keepsReg (s : State) (f : Fld) : Bool :=
  decide (f.rd = .aon) || (s.flag R.TMP_STAT_ONVBAT && decide (f = R.PWR_FAULT_LOST))

/-- The memory a SYS reset keeps: flash, and system SRAM where the main supply stayed within its ranges (R500). -/
def keepsMem (brown : Bool) (a : Nat) : Bool :=
  (decide (0x10000000 ≤ a) && decide (a < 0x10800000))
    || (!brown && decide (0x20000000 ≤ a) && decide (a < 0x20100000))

/-- A SYS reset is asserted with the causes `cs`: every domain but PD0 goes off, the pad latches take the safe
states where the Loom drove the balls, and the node enters bypass; the bypass path goes on forwarding, and keeps the
frames it owes (R12, R100, R157, R162, R500). -/
def State.sysReset (s : State) (cs : List Nat) : State :=
  let brown := cs.any fun c => decide (c ≤ 5)
  let s := if s.loomCfg then s.latchPads else s
  let own : List Frame := s.warp.own.filter isPathFrame
    ++ if s.flag R.WRP_STAT_BYPASS || !s.on 9 then [] else [.bypass 0 (BitVec.ofNat 8 (s.warp.lastId.getD 0))]
  let regs := s.regs.reset fun f => !s.keepsReg f
  { pending := s.pending, free := s.free, resp := s.resp
    regs := (regs.set (R.PWR_DOM 0) 3).set R.WRP_STAT_BYPASS 1
    frozen := s.frozen.filter fun z => s.keepsReg z.fld
    time := { rtc := s.time.rtc, usFrac := s.time.usFrac }
    pad := s.pad, health := s.health, fuse := s.fuse
    warp := { path := s.on 9 || s.warp.path, own := own, lastId := s.warp.lastId }
    crerus := { authctr := s.crerus.authctr }
    flash := { corr := s.flash.corr, unc := s.flash.unc, events := s.flash.events }
    custody := { slots := s.custody.slots, slotLoss := s.custody.slotLoss, mesh := s.custody.mesh
                 wiping := s.custody.wiping, recordDue := s.custody.recordDue, esFail := s.custody.esFail
                 esFails := s.custody.esFails }
    dbg := { ir := s.dbg.ir, boundary := s.dbg.boundary }
    rst := { asserted := true, aon := s.rst.asserted && s.rst.aon
             causes := cs.foldl insOnce (if s.rst.asserted then s.rst.causes else []) }
    mem := s.mem.filter fun x => keepsMem brown x.1 }

/-- The internal causes that wait are asserted once no flash program or erase is in progress (R500). -/
def State.resetDue (s : State) : State :=
  if s.rst.waiting.isEmpty || s.flash.op0.isSome || s.flash.op1.isSome then s else s.sysReset s.rst.waiting

/-- An internal cause asks for a SYS reset (R499, R500). -/
def State.askReset (s : State) (c : Nat) : State :=
  { s with rst := { s.rst with waiting := insOnce s.rst.waiting c } }.resetDue

end Sys2Proof.Machine
end

