-- ==== Sys2Proof/Machine/PlyRows.lean ====
section
/-!
DEFINITION. The Ply: comparison and voting, resynchronisation, the TCM copies, hand-overs and
watchdogs (chapter 08). A mismatch row carries the classes of Table 8.2 on which each two strands
differ in one cycle.
-/

namespace Sys2Proof.Machine

/-! ### TCM copies (R169, R170, R175) -/

/-- A logical core. -/
def State.coreAt (s : State) (c : Nat) : Core := s.core.getD c {}

/-- Change a logical core. -/
def State.updCore (s : State) (c : Nat) (f : Core → Core) : State :=
  { s with core := s.core.setIfInBounds c (f (s.coreAt c)) }

/-- The strands whose TCM copies a write of core `c` reaches (R169, R175, R179): all of its group that are
not retired, and a joining strand once its TCMs hold the copy. -/
def State.tcmHomes (s : State) (c : Nat) : List Nat :=
  if c ≠ 0 then [c]
  else
    let grp := match s.plyMode with
      | 0 => [0, 1, 2].filter fun k => decide (k ≠ s.get R.PLY_STATUS_RETIRED)
      | 1 => [0, 1]
      | _ => [0]
    if s.flag R.PLY_STATUS_JOINING && s.ply.joinTcm then
      (match s.ply.target with
        | 0 => [0, 1, 2]
        | 1 => [0, 1]
        | _ => grp)
    else grp

/-- The bitwise majority of three bytes (R169). -/
def maj (a b c : Byte) : Byte := (a &&& b) ||| (a &&& c) ||| (b &&& c)

/-- The byte core `c` reads at offset `a` of a TCM whose keys `key` gives (R169, R175). -/
def State.tcmByte (s : State) (key : Nat → Nat → Nat) (c a : Nat) : Byte :=
  if c = 0 ∧ s.plyMode = 0 then
    match s.get R.PLY_STATUS_RETIRED with
    | 0 => s.byte (key 1 a)
    | 1 => s.byte (key 0 a)
    | 2 => s.byte (key 0 a)
    | _ => maj (s.byte (key 0 a)) (s.byte (key 1 a)) (s.byte (key 2 a))
  else s.byte (key c a)

/-- The copies of the 128-bit word at offset `a` have no majority, or differ with a strand retired (R170,
R175). -/
def State.tcmBad (s : State) (key : Nat → Nat → Nat) (c a : Nat) : Bool :=
  let w (k : Nat) : List Byte := s.byteList (key k (a / 16 * 16)) 16
  if c = 0 ∧ s.plyMode = 0 then
    match s.get R.PLY_STATUS_RETIRED with
    | 0 => decide (w 1 ≠ w 2)
    | 1 => decide (w 0 ≠ w 2)
    | 2 => decide (w 0 ≠ w 1)
    | _ => decide (w 0 ≠ w 1) && decide (w 0 ≠ w 2) && decide (w 1 ≠ w 2)
  else false

/-- A byte written by core `c` in every copy it owns (R169). -/
def State.tcmPut (s : State) (key : Nat → Nat → Nat) (c a : Nat) (v : Byte) : State :=
  (s.tcmHomes c).foldl (fun s k => s.setByte (key k a) v) s

/-! ### Faults (R182, R183) -/

/-- A strand that is held: it issues nothing, and holds no reservation. -/
def Core.hold (k : Core) : Core := { k with run := .held, res := none, locked := false, wait := none }

/-- An unrecoverable Ply fault (R183): every strand is held, the fault is counted toward the advisory, and
under SAFE every pair trips. A sealed call ends with no return (R304), a power-state entry is abandoned (R493),
vendor firmware quiesces the strand domains, where it runs (R184), and a fault while the Ply restarts asks for a SYS
reset (Table 23.1). -/
def State.plyFault (s : State) (cause : Nat) : State :=
  let again := s.ply.fault
  let s := if again then s else s.abandonEntry 1
  let s := ((s.set R.PLY_FAULT_CAUSE cause).inc R.PLY_FAULT_COUNT).journal 183 [cause, s.get R.PLY_MISCLASS]
  let s := { s with core := s.core.map Core.hold }
  let s := { s with
    ply := { s.ply with fault := true, hour := s.time.rtc.toNat :: s.ply.hour }, wld := { s.wld with saved := none } }
  let s := if s.flag R.PLY_CFG_UNREC then fireAll { s with trip := { s.trip with ply := true } }.judgeTrips else s
  if again then s.askReset 11 else if s.crerus.alive then s.quiesceStrands else s

/-- The resyncs and faults of the last 3,600 s against RSTHR (R174, R183): an RSTHR of 0 acts as 16. -/
def State.resyncWindow (s : State) : State :=
  let now := s.time.rtc.toNat
  let h := s.ply.hour.filter fun t => decide (now ≤ t + 3600000000)
  let s := { s with ply := { s.ply with hour := h } }
  let thr := if s.get R.PLY_CFG_RSTHR = 0 then 16 else s.get R.PLY_CFG_RSTHR
  if thr < h.length then s.advise 0 else s

/-- PLY_UNRECOVERABLE_FAULT (R183). -/
def execPlyUnrecoverableFault (cause : Fin 6) (s : State) : Out :=
  .next (if cause.val = 0 then s else (s.plyFault cause).resyncWindow)

/-! ### Resynchronisation (R172 to R175) -/

/-- The count of resyncs of a strand. -/
def rscnt (k : Nat) : Fld := if k = 0 then R.PLY_RSCNT_A else if k = 1 then R.PLY_RSCNT_B else R.PLY_RSCNT_C

/-- The wide value PLY_LASTRS takes TB (R172). -/
def State.markRs (s : State) : State :=
  (s.set R.PLY_LASTRS_LO s.time.tb.toNat).set R.PLY_LASTRS_HI (s.time.tb.toNat / 2 ^ 32)

/-- Strand `k` is odd on the classes `cl` (R172, R175): isolated and copied, or retired at the fourth such
edge within 10 ms. -/
def State.oddStrand (s : State) (k cl : Nat) : State :=
  let tb := s.time.tb.toNat
  let s := ((s.set R.PLY_STATUS_MISM 1).set R.PLY_STATUS_ODD k).set R.PLY_MISCLASS cl
  let s := s.markRs.raise 148
  let l := (k, tb) :: s.ply.odd.filter fun x => decide (tb ≤ x.2 + 1250000)
  let s := { s with ply := { s.ply with odd := l, copied := false, hour := s.time.rtc.toNat :: s.ply.hour } }
  let s := s.resyncWindow.journal 174 [k, cl]
  if 4 ≤ (l.filter fun x => decide (x.1 = k)).length then (s.set R.PLY_STATUS_RETIRED k).advise 1
  else (s.set R.PLY_STATUS_RESYNC 1).raise 149

/-- The pair of the two strands other than `k`. -/
def pairBut (k ab ac bc : Nat) : Nat := if k = 0 then bc else if k = 1 then ac else ab

/-- A cycle in which compared outputs differ (R172, R175, R181, R182): PLY_LASTRS is TB at the last mismatch. -/
def State.mismatch (s : State) (ab ac bc : Nat) : State :=
  let fault (s : State) (cause cl : Nat) : State :=
    (((s.set R.PLY_STATUS_MISM 1).set R.PLY_MISCLASS cl).markRs.raise 148 |>.plyFault cause).resyncWindow
  match s.plyMode with
  | 0 =>
    if s.get R.PLY_STATUS_RETIRED ≠ 3 then
      (let d := pairBut (s.get R.PLY_STATUS_RETIRED) ab ac bc
       if d = 0 then s else fault s 3 d)
    else if s.flag R.PLY_STATUS_RESYNC then
      (let d := pairBut (s.get R.PLY_STATUS_ODD) ab ac bc
       if d = 0 then s else fault s 1 d)
    else if ab = 0 ∧ ac = 0 ∧ bc = 0 then s
    else if bc = 0 then s.oddStrand 0 (ab ||| ac)
    else if ac = 0 then s.oddStrand 1 (ab ||| bc)
    else if ab = 0 then s.oddStrand 2 (ac ||| bc)
    else fault s 2 (ab ||| ac ||| bc)
  | 1 => if ab = 0 then s else fault s 3 ab
  | _ => s

/-- The domain of core `c` is ON: with strand A lost and retired, the group lives on in the others. -/
def State.coreOn (s : State) (c : Nat) : Bool :=
  if c = 0 ∧ s.plyMode = 0 ∧ s.get R.PLY_STATUS_RETIRED = 0 then s.on 4 && s.on 5 else s.on (3 + c)

/-- The strands run (R183): no unrecoverable fault holds them. -/
def State.plyRuns (s : State) : Bool := !s.ply.fault && s.coreOn 0

/-- PLY_MISMATCH (R172). -/
def execPlyMismatch (ab ac bc : BitVec 7) (s : State) : Out :=
  .next (if s.plyRuns then s.mismatch ab.toNat ac.toNat bc.toNat else s)

/-- PLY_RESYNC_COPY_DONE (R172): the remaining strands stall for 8 cycles; CYCLE holds while they are halted. -/
def execPlyResyncCopyDone (s : State) : Out :=
  .next (if s.flag R.PLY_STATUS_RESYNC && !s.ply.copied && s.plyRuns then
      { s with ply := { s.ply with copied := true } }.updCore 0 fun k =>
        if s.bit R.DBG_STAT_HALTED 0 then k else { k with cycle := k.cycle + 8 }
    else s)

/-- PLY_RESYNC_COMPLETE (R172). -/
def execPlyResyncComplete (s : State) : Out :=
  .next (if s.flag R.PLY_STATUS_RESYNC && s.ply.copied && s.plyRuns then
      (((s.set R.PLY_STATUS_RESYNC 0).set R.PLY_STATUS_RSDONE 1).inc (rscnt (s.get R.PLY_STATUS_ODD))).raise 150
    else s)

/-! ### Scrubbing (R170) -/

/-- Rewrite one 128-bit word in every copy by the majority, and count it where a copy differed. -/
def State.scrubWord (s : State) (key : Nat → Nat → Nat) (a : Nat) : State :=
  let w (k : Nat) : List Byte := s.byteList (key k a) 16
  if w 0 = w 1 ∧ w 0 = w 2 then s
  else
    let m := (List.range 16).map fun i => maj (s.byte (key 0 (a + i))) (s.byte (key 1 (a + i))) (s.byte (key 2 (a + i)))
    ([0, 1, 2].foldl (fun s k => s.setByteList (key k a) m) s).inc R.PLY_SCRUB_FIXES

/-- One step of the scrubber: a word of the I-TCM and of the D-TCM, and the pass count. -/
def State.scrub (s : State) : State :=
  let a := 16 * s.ply.scrub
  if s.tcmBad dtcmKey 0 a || s.tcmBad itcmKey 0 a then (s.plyFault 4).resyncWindow
  else
    let s := (s.scrubWord itcmKey a).scrubWord dtcmKey a
    if s.ply.scrub = 8191 then { s with ply := { s.ply with scrub := 0 } }.inc R.PLY_SCRUB_PASSES
    else { s with ply := { s.ply with scrub := s.ply.scrub + 1 } }

/-- PLY_SCRUB (R170, R175): in TRIPLE, with no strand retired. -/
def execPlyScrub (s : State) : Out :=
  .next (if s.plyRuns && decide (s.plyMode = 0) && decide (s.get R.PLY_STATUS_RETIRED = 3) then s.scrub else s)

/-! ### Split and join (R176 to R179) -/

/-- The strands a transition names: those outside the group in one mode and inside it in the other. -/
def handStrands (cur target : Nat) : List Nat :=
  match cur, target with
  | 0, 1 | 1, 0 => [2]
  | 0, 2 | 2, 0 => [1, 2]
  | 1, 2 | 2, 1 => [1]
  | _, _ => []

/-- An independent strand starts at its address with its reset state (R178, R209). -/
def startCore (pc : Nat) : Core := { run := .issuing, pc := BitVec.ofNat 32 pc }

/-- The start address of a strand (Table 8.7). -/
def State.startAddr (s : State) (k : Nat) : Nat := 4 * s.get (if k = 1 then R.PLY_BSTART else R.PLY_CSTART)

/-- A leaving strand starts: it keeps its instruction cache, and a halt asked of it during the split (R178, R180). -/
def Core.leave (k : Core) (pc : Nat) : Core := { startCore pc with cache := k.cache, haltReq := k.haltReq }

/-- PLY_SPLIT_COMPLETE (R178). -/
def execPlySplitComplete (s : State) : Out :=
  .next (if s.flag R.PLY_STATUS_SPLITTING && s.plyRuns then
      (let ks := handStrands (s.get R.PLY_MODE_CUR) s.ply.target
       let s := ks.foldl (fun s k => s.updCore k fun l => l.leave (s.startAddr k)) s
       ((s.set R.PLY_MODE_CUR s.ply.target).set R.PLY_STATUS_SPLITTING 0).raise 151)
    else s)

/-- Copy both TCMs of core A into strand `k` (R179). -/
def State.copyTcms (s : State) (k : Nat) : State :=
  { s with mem := memCopy (memCopy s.mem (itcmKey 0 0) (itcmKey k 0) 0x20000) (dtcmKey 0 0) (dtcmKey k 0) 0x20000 }

/-- PLY_JOIN_TCM_COPY_DONE (R179). -/
def execPlyJoinTcmCopyDone (s : State) : Out :=
  .next (if s.flag R.PLY_STATUS_JOINING && !s.ply.joinTcm && s.plyRuns then
      (let ks := handStrands (s.get R.PLY_MODE_CUR) s.ply.target
       let s := ks.foldl (fun s k => s.copyTcms k) s
       { s with ply := { s.ply with joinTcm := true } })
    else s)

/-- PLY_JOIN_COMPLETE (R179): the joining strands become part of the group, which issues on after its
stall. -/
def execPlyJoinComplete (s : State) : Out :=
  .next (if s.flag R.PLY_STATUS_JOINING && s.ply.joinTcm && s.plyRuns then
      (let ks := handStrands (s.get R.PLY_MODE_CUR) s.ply.target
       let s := ks.foldl (fun s k => s.updCore k fun _ => {}) s
       let s := s.updCore 0 fun k => { k with cycle := k.cycle + 8 }
       let s := ks.foldl (fun s k => s.set (if k = 1 then R.PLY_STATUS_WAITB else R.PLY_STATUS_WAITC) 0) s
       let s := { s with ply := { s.ply with joinTcm := false } }
       (((s.set R.PLY_MODE_CUR s.ply.target).set R.PLY_STATUS_JOINING 0).set R.PLY_STATUS_EXPOSED 0).raise 151)
    else s)

/-! ### Watchdogs (R185) -/

/-- The watchdog of core `c` counts: enabled, with its core running. -/
def State.wdCounts (s : State) (c : Nat) : Bool :=
  s.coreExists c && s.flag (R.PLY_WDT_EN c) && s.plyRuns && !s.bit R.DBG_STAT_HALTED c
    && (decide ((s.coreAt c).run = .issuing) || decide ((s.coreAt c).run = .wfi))

/-- The core whose watchdog a requester restarts; none for DMA, Crerus and the debug port. -/
def kickCore : Req → Option Nat
  | .strandA => some 0
  | .strandB => some 1
  | .strandC => some 2
  | .dma => none
  | .crerus => none
  | .debug => none

/-- A write of PLY_WDKICK (R185): the key restarts the writing core's count, any other value nothing. -/
def State.wdKick (s : State) (q : Req) (v : Nat) : State :=
  match kickCore q with
  | some c => if v = 0xC35A then { s with ply := { s.ply with wdHalf := without s.ply.wdHalf c } } else s
  | none => s

/-- PLY_WATCHDOG_KICK (R185). -/
def execPlyWatchdogKick (q : Who) (v : Word) (s : State) : Out :=
  .next (s.via q.req 0 fun s => s.wdKick q.req v.toNat)

/-- PLY_WATCHDOG_WARNING (R185). -/
def execPlyWatchdogWarning (c : Fin 3) (s : State) : Out :=
  .next (if s.wdCounts c then
      { s with ply := { s.ply with wdHalf := insOnce s.ply.wdHalf c.val } }.raise 153 else s)

/-- PLY_WATCHDOG_EXPIRY (R185): the second half passes without a restart. -/
def execPlyWatchdogExpiry (c : Fin 3) (s : State) : Out :=
  .next (if s.wdCounts c && decide (c.val ∈ s.ply.wdHalf) then (s.plyFault 5).resyncWindow else s)

end Sys2Proof.Machine
end

