-- ==== Sys2Proof/Machine/WorldOps.lean ====
section
/-!
DEFINITION. The worlds: the sealed partition, the places a world may fetch from and access, aborts of a
sealed call, and the start of a load (chapter 14).
-/

namespace Sys2Proof.Machine

/-! ### The sealed partition and the memory map (R192, R193, R286) -/

/-- The bytes of the sealed partition (R286): it is fused, whatever became of PD3 and of WLD_CFG, which shows it. -/
def State.spBytes (s : State) : Nat :=
  match s.sh 158 1 0 with
  | 0 => 0
  | 1 => 0x4000
  | 2 => 0x8000
  | _ => 0x10000

/-- Offset `a` of a TCM lies in its sealed partition (R286). -/
def State.sealedTcm (s : State) (a : Nat) : Bool := decide (0x20000 - s.spBytes ≤ a) && decide (a < 0x20000)

/-- Offset `a` of the D-TCM lies in the monitor area (R286). -/
def State.monitorArea (s : State) (a : Nat) : Bool :=
  decide (s.spBytes ≠ 0) && decide (0x1F800 ≤ a) && decide (a < 0x20000)

/-- The start of main sectors 0 to 26 of flash bank 0 (Table 18.1). -/
def mainBase : Nat := 0x10020000

/-- An address in main sectors 0 to 26 of flash bank 0 (Table 18.1). -/
def inMain (a : Nat) : Bool := decide (mainBase ≤ a) && decide (a < mainBase + 27 * 0x20000)

/-- An address in the Selvedge and boot ROM (Table 9.2). -/
def inRom (a : Nat) : Bool := decide (0xFFFF0000 ≤ a)

/-- An address in the flash window of the loaded image (R289). -/
def State.inWindow (s : State) (a : Nat) : Bool :=
  s.flag R.WLD_STAT_LOADED && decide (s.get R.WLD_SXBASE ≠ 0) && decide (32 * s.get R.WLD_SXBASE ≤ a)
    && decide (a ≤ s.get R.WLD_SXLIM)

/-- EINFO.REASON (R199). -/
inductive Reason where
  | mpu | unmapped | world | readonly | busErr | absent | retry
deriving DecidableEq, Repr

/-- The code of a reason (R199). -/
def Reason.code : Reason → Nat
  | .mpu => 0
  | .unmapped => 1
  | .world => 2
  | .readonly => 3
  | .busErr => 4
  | .absent => 5
  | .retry => 6

/-! ### MPU (R205) -/

/-- Region `r` of a set matches an access to `space` at `a`. -/
def Mpu.hit (m : Mpu) (space a : Nat) (r : Fin 8) : Bool :=
  let at_ := m.attr[r].toNat
  at_.testBit 31 && decide (at_ / 16 % 4 = space) && decide (space < 3)
    && decide (m.base[r].toNat / 256 ≤ a / 256) && decide (a / 256 ≤ m.lim[r].toNat / 256)

/-- The set allows an access to `space` at `a` that needs permission bit `p` (0 R, 1 W, 2 X). -/
def Mpu.allows (m : Mpu) (space p a : Nat) : Bool :=
  match (List.finRange 8).find? fun r => m.hit space a r with
  | some r => m.attr[r].toNat.testBit p
  | none => m.defAllow

/-- The MPU set that governs the data and I/O accesses of a core. -/
def Core.mpu (k : Core) : Mpu := if k.world then k.mpuS else k.mpuO

/-- The MPU set that governs the fetches of a core: one instruction behind (R205). -/
def Core.fetchMpu (k : Core) : Mpu := if k.world then k.fetchS else k.fetchO

/-! ### Fetch (R192, R193, R289) -/

/-- Why core `c` may not fetch at `a`, by R193, R289 and the MPU; none where it may. -/
def State.fetchReason (s : State) (k : Core) (a : Nat) : Option Reason :=
  if inRom a then (if k.save.isSome then none else some .world)
  else if a < 0x20000 then
    (if k.world ≠ s.sealedTcm a then some .world
      else if k.fetchMpu.allows 0 2 a then none else some .mpu)
  else if inMain a then
    (if k.world ≠ s.inWindow a then some .world
      else if k.fetchMpu.allows 0 2 a then none else some .mpu)
  else some .unmapped

/-! ### Sealed-held mailboxes (R317) -/

/-- The key of byte 0 of local mailbox `b` (Table 9.3). -/
def lmbKey (b : Nat) : Nat := 0x30000000 + 0x200 * b

/-- Wipe the buffer of mailbox `b` and release it. -/
def State.wipeMb (s : State) (b : Nat) : State :=
  (s.wipe (lmbKey b) (lmbKey b + 0x200)).clrBit R.LMB_STATE_SHELD b

/-- A sealed restart wipes the sealed-held buffers, those whose reply is to come when it arrives (R317). -/
def State.wipeHeld (s : State) : State :=
  (List.range 4).foldl (fun s b =>
    if s.bit R.LMB_STATE_SHELD b then
      (if s.get (R.LMB_ST b) = 1 ∨ s.get (R.LMB_ST b) = 2 then
        { s with wld := { s.wld with wipeMb := insOnce s.wld.wipeMb b } }
      else s.wipeMb b)
    else s) s

/-! ### Loads (R293, R294) -/

/-- Wipe the sealed partitions of both TCMs on every strand (R293). -/
def State.wipeSealed (s : State) : State :=
  [0, 1, 2].foldl (fun s k =>
    (s.wipe (itcmKey k (0x20000 - s.spBytes)) (itcmKey k 0x20000)).wipe
      (dtcmKey k (0x20000 - s.spBytes)) (dtcmKey k 0x20000)) s

/-- A load begins for a cause of Table 14.2, or waits for the call in progress to end; with no partition or
no image address none begins (R294). -/
def State.beginLoad (s : State) (cause : Nat) : State :=
  if s.spBytes = 0 ∨ s.get R.WLD_SIMG = 0 then s
  else if s.wld.saved.isSome then { s with wld := { s.wld with waiting := some cause } }
  else
    let s := ((s.set R.WLD_STAT_RESTARTING 1).set R.WLD_STAT_LOADED 0).set R.WLD_STAT_RSCAUSE cause
    let s := s.wipeSealed.wipeHeld
    { s with wld := { s.wld with waiting := none } }

/-- A load that waited for a call begins (R294). -/
def State.afterCall (s : State) : State :=
  match s.wld.waiting with
  | some c => s.beginLoad c
  | none => s

/-! ### The end of a sealed call (R298, R300) -/

/-- The tiles in use. -/
def Core.tilesUsed (k : Core) : Nat := (List.range 8).countP fun t => k.tuse.toNat.testBit t

/-- The cost of the cache policy at a switch (R300). -/
def State.flushCost (s : State) : Nat := if s.flag R.WLD_CFG_EFFCACHE then 64 else 0

/-- A write of a general register: g0 discards it (R190). -/
def Core.wr (k : Core) (r : Fin 32) (v : Word) : Core := if r = 0 then k else { k with g := k.g.set r v }

/-- A read of a general register: g0 reads 0 (R190). -/
def Core.rd (k : Core) (r : Fin 32) : Word := if r = 0 then 0 else k.g[r]

/-- The OPEN context an entry gate saved comes back with the status in g1 and the sealed results, or zeros,
in g2 to g6; the counters, the SEALED MPU set and what a debugger asked for stay (R298). -/
def Core.reopen (cur old : Core) (status cost : Nat) : Core :=
  let v (r : Fin 32) : Word := if status = 0 then cur.rd r else 0
  { (((((old.wr 1 (BitVec.ofNat 32 status)).wr 2 (v 2)).wr 3 (v 3)).wr 4 (v 4)).wr 5 (v 5)).wr 6 (v 6) with
    run := cur.run
    cycle := cur.cycle + BitVec.ofNat 32 cost
    mpuS := cur.mpuS
    fetchS := cur.mpuS
    cache := cur.cache
    inval := cur.inval
    tAccSat := cur.tAccSat
    tDrnSat := cur.tDrnSat
    tAccCnt := cur.tAccCnt
    tDrnCnt := cur.tDrnCnt
    tStops := cur.tStops
    tResumes := cur.tResumes
    haltReq := cur.haltReq
    step := cur.step
    resumed := false
    fromEret := false
    fresh := false
    res := none
    locked := false
    wait := none
    retries := 0
    ld := none
    ldNext := none
    save := none }

/-- A switch of world applies the cache policy in force (R301). -/
def State.switchWorld (s : State) : State :=
  if s.flag R.WLD_CFG_EFFCACHE then s.updCore 0 fun k => { k with cache := [] } else s

/-- The sealed call in progress ends with `status` at a cost of `base` and the tiles in use (R298). -/
def State.endCall (s : State) (status base : Nat) : State :=
  match s.wld.saved with
  | none => s
  | some old =>
    let cost := base + 8 * old.tilesUsed + s.flushCost
    let s := s.updCore 0 fun k => k.reopen old status cost
    ({ s with wld := { s.wld with saved := none } }.switchWorld).afterCall

/-- An abort edge (R302): WDT, FAULT or a tamper response end the call. -/
def State.abortCall (s : State) (status : Nat) : State := s.endCall status 160

end Sys2Proof.Machine
end

