-- ==== Sys2Proof/Machine/FlashOps.lean ====
section
/-!
DEFINITION. The flash banks (chapter 18): sectors and rights, operations, their ends, and the ECC of a read.
-/

namespace Sys2Proof.Machine

/-! ### Regions (R391, Table 18.1) -/

/-- An address in parameter sectors `lo` to `hi`. -/
def inParam (lo hi a : Nat) : Bool := decide (0x10000000 + lo * 0x4000 ≤ a) && decide (a < 0x10000000 + (hi + 1) * 0x4000)

/-- An address in the Crerus firmware slots, main sectors 27 to 30. -/
def inFwSlots (a : Nat) : Bool := decide (0x10380000 ≤ a) && decide (a < 0x10400000)

/-- An address in flash bank 0. -/
def inBank0 (a : Nat) : Bool := inParam 0 7 a || inMain a || inFwSlots a

/-- An address in flash bank 1. -/
def inBank1 (a : Nat) : Bool := decide (0x10400000 ≤ a) && decide (a < 0x10800000)

/-- The sector of bank 0 that holds `a`: its start and size (R391). -/
def sectorOf (a : Nat) : Nat × Nat :=
  if a < 0x10020000 then (a / 0x4000 * 0x4000, 0x4000) else (a / 0x20000 * 0x20000, 0x20000)

/-- The sector holds part of the loaded sealed image or of its window (R292). -/
def State.holdsImage (s : State) (a : Nat) : Bool :=
  let (b, n) := sectorOf a
  let img := 16 * s.get R.WLD_SIMG
  let win := 32 * s.get R.WLD_SXBASE
  s.flag R.WLD_STAT_LOADED &&
    ((decide (img < b + n) && decide (b < s.wld.imgEnd))
      || (decide (win ≠ 0) && decide (win < b + n) && decide (b ≤ s.get R.WLD_SXLIM)))

/-- May the requester program and erase the sector of `a` (Table 18.1)? -/
def State.flcMay (s : State) (q : Who) (a : Nat) : Bool :=
  match q.req with
  | .crerus => true
  | .dma => false
  | _ => inParam 4 7 a || (inMain a && (q.sealedW || !s.holdsImage a))

/-! ### Operations (R393, R396) -/

/-- The operation of a bank. -/
def State.flashOp (s : State) (b : Nat) : Option FlashOp := if b = 0 then s.flash.op0 else s.flash.op1

/-- Give a bank an operation, or none; BUSY follows. -/
def State.setFlashOp (s : State) (b : Nat) (o : Option FlashOp) : State :=
  if b = 0 then
    (({ s with flash := { s.flash with op0 := o } }.setB R.FLC_STAT_BUSY0 o.isSome).setB R.FLC_STAT_STRANDOP
      ((o.map FlashOp.strand).getD false))
  else { s with flash := { s.flash with op1 := o } }.setB R.FLC_STAT_BUSY1 o.isSome

/-- Some bank performs an operation (R405). -/
def State.flashBusy (s : State) : Bool := s.flash.op0.isSome || s.flash.op1.isSome

/-- Fill a range with bytes the spec leaves open (R406). -/
def State.scramble (s : State) (a n : Nat) : State :=
  let (l, s) := s.freeBytes n
  s.wrBytes a l

/-- The words of a range leave the lists of words in error: an erase restores every bit. -/
def State.clearEcc (s : State) (a n : Nat) : State :=
  let keep (x : Nat) : Bool := decide (x < a) || decide (a + n ≤ x)
  { s with flash := { s.flash with corr := s.flash.corr.filter keep, unc := s.flash.unc.filter keep } }

/-- The effect of an operation that ends OK: its sectors are erased, its units programmed (R392). -/
def State.flashApply (s : State) (o : FlashOp) : State :=
  let s := o.erase.foldl (fun s x => (s.wipe x.1 (x.1 + x.2)).clearEcc x.1 x.2) s
  o.prog.foldl (fun s x => s.wrBytes x.1 x.2) s

/-- The places of an operation that did not read back, or was stopped or cut off, are undefined (R406). -/
def State.flashTorn (s : State) (o : FlashOp) : State :=
  let s := o.erase.foldl (fun s x => s.scramble x.1 x.2) s
  o.prog.foldl (fun s x => s.scramble x.1 x.2.length) s

/-- A strand command ends with a code of Table 18.3 (R396). -/
def State.flcEnd (s : State) (code : Nat) : State :=
  let s := (s.set R.FLC_STAT_CMDSTAT code).flagRise R.FLC_STAT_DONE 156
  if code = 0 then s else s.flagRise R.FLC_STAT_ERR 157

/-- The requests of Crerus that wait for bank 0 learn the code (R396). -/
def State.flashTell (s : State) (code : Nat) : State :=
  { s with crerus := { s.crerus with
      susp := s.crerus.susp.map fun j => if j.wait = .flash none then { j with wait := .flash (some code) } else j } }

/-- The operation of bank `b` ends with a code: 0 OK, 6 VERIFY, 7 STOPPED. -/
def State.flashEnd (s : State) (b code : Nat) : State :=
  match s.flashOp b with
  | none => s
  | some o =>
    let s := (if code = 0 then s.flashApply o else s.flashTorn o).setFlashOp b none
    if o.strand then s.flcEnd code else if b = 0 then s.flashTell code else s

/-- Operations in both banks are stopped (R381, R405). -/
def State.flashStop (s : State) : State := (s.flashEnd 0 7).flashEnd 1 7

/-! ### The command sequence (R395) -/

/-- The sequence ends with no effect on flash (R395). -/
def State.flcLapse (s : State) : State :=
  ({ s with seq := { s.seq with flc := none } }.set R.FLC_STAT_ARMED 0).flcEnd 5

/-- A write of FLC_ARM (R395). -/
def State.flcArm (s : State) (q : Who) (v : Nat) : State :=
  if v ≠ 0xF1A5 then s
  else if q.req = .dma then s.flcLapse
  else { s with seq := { s.seq with flc := some q.req } }.set R.FLC_STAT_ARMED 1

/-- The first check of Table 18.3 that refuses a command. -/
def State.flcCheck (s : State) (q : Who) (op a : Nat) : Option Nat :=
  let unit := s.rdBytes a 32
  if op ≠ 1 ∧ op ≠ 2 then some 8
  else if !inBank0 a || (decide (op = 1) && decide (a % 32 ≠ 0)) then some 3
  else if !s.flcMay q a then some 2
  else if s.flash.op0.isSome || s.pwr.noFlash then some 1
  else if op = 1 ∧ unit.any (fun b => decide (b ≠ 0xFF)) = true then some 4
  else none

/-- The bytes of FLC_DATA0 to FLC_DATA7, FLC_DATA0 lowest. -/
def State.flcData (s : State) : List Nat := (List.range 8).flatMap fun w => toLE 4 (s.get (R.FLC_DATA w))

/-- A write of FLC_CMD (R395, R396). -/
def State.flcCmd (s : State) (q : Who) (v : Nat) : State :=
  let op := v % 4
  if s.seq.flc ≠ some q.req then s.flcLapse
  else
    let s := { s with seq := { s.seq with flc := none } }.set R.FLC_STAT_ARMED 0
    let a := s.get R.FLC_ADDR
    match s.flcCheck q op a with
    | some c => s.flcEnd c
    | none =>
      let o : FlashOp := if op = 1 then { strand := true, prog := [(a, s.flcData)] }
        else { strand := true, erase := [sectorOf a] }
      (s.setFlashOp 0 (some o)).set R.FLC_STAT_CMDSTAT 0xFF

/-! ### ECC (R397, R398) -/

/-- The events of the last 3,600 s against FLC_ECCTHR (R398). -/
def State.eccWindow (s : State) : State :=
  let now := s.time.rtc.toNat
  let h := now :: s.flash.events.filter fun t => decide (now ≤ t + 3600000000)
  let s := { s with flash := { s.flash with events := h } }
  let thr := if s.get R.FLC_ECCTHR = 0 then 64 else s.get R.FLC_ECCTHR
  if thr < h.length then s.advise 4 else s

/-- A read of the word at `a` that counts (R397): true where it is uncorrectable. -/
def State.eccRead (s : State) (a : Nat) : Bool × State :=
  let w := a / 16 * 16
  if w ∈ s.flash.unc then
    let s := s.inc R.FLC_ECC_UNCORR
    let s := if s.flag R.FLC_FLAG_UNC then s else s.set R.FLC_UNCADDR (w / 16)
    (true, s.flagRise R.FLC_FLAG_UNC 159)
  else if w ∈ s.flash.corr then
    let s := s.inc R.FLC_ECC_CORR
    let s := if s.flag R.FLC_FLAG_CORR then s else s.set R.FLC_CORRADDR (w / 16)
    (false, (s.flagRise R.FLC_FLAG_CORR 158).eccWindow)
  else (false, s)

/-- A range holds an uncorrectable word. -/
def State.eccBad (s : State) (a n : Nat) : Bool :=
  s.flash.unc.any fun w => decide (a < w + 16) && decide (w < a + n)

end Sys2Proof.Machine
end

