-- ==== Sys2Proof/Machine/UtperOps.lean ====
section
/-!
DEFINITION. What every instruction of a strand shares: issue, the load delay, the cycle counter,
exception entry, debug halts at a boundary (R195 to R207, R447, R448), and what holds a boundary.
-/

namespace Sys2Proof.Machine

/-! ### Locked sequences and halts (R447, R449 to R451) -/

/-- The requester of a core. -/
def coreReq (c : Nat) : Req := if c = 1 then .strandB else if c = 2 then .strandC else .strandA

/-- Core `c` stands inside a locked sequence that a halt waits for (R450): LDX to STX, the SYS_KEY pair or
unlock, the flash and the SCRAP sequences. -/
def State.inLocked (s : State) (c : Nat) : Bool :=
  (s.coreAt c).locked || decide (coreReq c ∈ s.key.first) || decide (s.seq.flc = some (coreReq c))
    || decide (s.seq.scrap = some (coreReq c))

/-- Core `c` stands inside a sealed call that no halt enters (R303, R440). -/
def State.inSealedCall (s : State) (c : Nat) : Bool :=
  decide (c = 0) && s.wld.saved.isSome && !s.flag R.DBG_AUTH_SCTRL

/-- A tile move of the core is in progress. -/
def Core.moving (k : Core) : Bool :=
  match k.wait with
  | some { kind := .tileMove _ _ _ _ _ _ _ _ _, ea := _ } => true
  | _ => false

/-- A boundary waits for the access in progress: one issued to a busy flash bank is never abandoned (R202), and a tile
move never stops in the middle of a row (R246). A RETRY reissue and a fetch do not hold a boundary. -/
def Core.mustWait (k : Core) : Bool :=
  (k.moving && decide (k.why ≠ .row))
    || (decide (k.why = .flash) && (k.wait.map fun x => decide (x.kind ≠ .fetch)).getD false)

/-- Core `c` stands inside a locked sequence that defers a halt (R450, R451): a tile move is one, which an interrupt
stops at a row boundary (R237). -/
def State.haltLocked (s : State) (c : Nat) : Bool := s.inLocked c || (s.coreAt c).moving

/-- A resync, a split or a join defers every halt (R180). -/
def State.plyBusy (s : State) : Bool :=
  s.flag R.PLY_STATUS_RESYNC || s.flag R.PLY_STATUS_SPLITTING || s.flag R.PLY_STATUS_JOINING

/-- A boundary is eligible for a halt (R447, R180, R303). -/
def State.eligible (s : State) (c : Nat) : Bool :=
  !s.haltLocked c && !s.inSealedCall c && !s.plyBusy && !(s.coreAt c).mustWait

/-- A load whose slot has not issued completes its write (R195). -/
def Core.settle (k : Core) : Core :=
  match k.ld with
  | some (r, v) => { k.wr r v with ld := none }
  | none => k

/-- TPROG records a move with its next row (R237, R238, Table 11.3). -/
def Core.recordMove (k : Core) (op : BitVec 3) (acc : Bool) (t : BitVec 3) (row : Nat) (ea : Word) : Core :=
  let n := 2 ^ 31 + op.toNat * 2 ^ 28 + b2n acc * 2 ^ 27 + (if acc then 0 else t.toNat) * 2 ^ 24 + row % 32 * 2 ^ 16
    + bitsOf ea.toNat 17 2
  { k with tprog := BitVec.ofNat 32 n, tStops := if k.tStops = 0xFFFF then k.tStops else k.tStops + 1 }

/-- A boundary ends what is in progress (R202, R237): a reissue is abandoned; a move stops between two rows, with its
record and without its last cycle, or, with no row moved, is abandoned with no effect. -/
def Core.parkMove (k : Core) : Core :=
  match k.wait with
  | some { kind := .tileMove op acc t _ _ row moved _ _, ea } =>
    if moved = 0 then { k with wait := none, retries := 0 }
    else { k.recordMove op acc t row ea with wait := none, retries := 0, cycle := k.cycle - 1 }
  | _ => { k with wait := none, retries := 0 }

/-- A halt ends a WFI: the instruction at the halted PC issues at the resume (R447). The cycles the WFI took are open. -/
def State.wfiEnds (s : State) (c : Nat) : State :=
  if (s.coreAt c).run = .wfi then
    let (n, s) := s.freeN
    s.updCore c fun k => { k with run := .issuing, cycle := k.cycle + BitVec.ofNat 32 n }
  else s

/-- Core `c` halts at this boundary (R447): the cause and the comparator are recorded. -/
def State.haltOne (s : State) (c cause bp : Nat) : State :=
  let s := (s.wfiEnds c).updCore c fun k => { k.settle.parkMove with step := false, haltReq := none, resumed := false }
  let s := (s.setBit R.DBG_STAT_HALTED c).clrBit R.DBG_STAT_PEND c
  ((s.set (R.DBG_CAUSE_CAUSE c) cause).set (R.DBG_CAUSE_BP c) bp).set (R.DBG_CAUSE_SEQ c) 0

/-- A halt is asked of core `c` and waits for an eligible boundary (R447, R451). -/
def State.askHalt (s : State) (c cause bp : Nat) : State :=
  if s.bit R.DBG_STAT_HALTED c then s
  else
    let s := s.updCore c fun k => { k with haltReq := some (cause, bp) }
    if s.eligible c then s else s.setBit R.DBG_STAT_PEND c

/-- Core `c` halts; in SPLIT with HALTALL the other two are asked to (R449). -/
def State.haltCore (s : State) (c cause bp : Nat) : State :=
  let s := s.haltOne c cause bp
  if s.plyMode = 2 ∧ s.get R.DBG_CTRL_HALTALL = 1 then
    (([0, 1, 2].filter fun k => decide (k ≠ c)).foldl (fun s k => s.askHalt k 5 0) s)
  else s

/-- Halt now where the boundary is eligible, else ask (R447, R448). -/
def State.haltOrAsk (s : State) (c cause bp : Nat) : State :=
  if s.eligible c then s.haltCore c cause bp else s.askHalt c cause bp

/-! ### Breakpoints (R448) -/

/-- Comparator `i` matches an access of core `c` at `a` of one of the kinds `ks`. -/
def State.bpHits (s : State) (c a : Nat) (ks : List Nat) (i : Nat) : Bool :=
  let sz := 2 ^ s.get (R.DBG_BP_CFG_SIZE i)
  s.flag (R.DBG_BP_CFG_EN i) && decide (s.get (R.DBG_BP_CFG_CORE i) = c)
    && decide (s.get (R.DBG_BP_CFG_KIND i) ∈ ks)
    && decide (s.get (R.DBG_BP_ADDR i) ≤ a) && decide (a < s.get (R.DBG_BP_ADDR i) + sz)
    && (if (s.coreAt c).world then s.flag (R.DBG_BP_CFG_WORLD i) && s.flag R.DBG_AUTH_SCTRL
        else !s.flag (R.DBG_BP_CFG_WORLD i))

/-- The comparator that matches an access of core `c`. -/
def State.bpMatch (s : State) (c a : Nat) (ks : List Nat) : Option Nat :=
  (List.range 8).find? fun i => s.bpHits c a ks i

/-! ### Exceptions (R199, R200, R207, R302) -/

/-- Exception entry of core `c` at an instruction (R200): the status is saved, interrupts are off and the
handler at EVEC is next, 8 cycles on. -/
def Core.enter (k : Core) (code : Nat) (eaddr : Word) (einfo : Nat) : Core :=
  { k with
    epc := k.pc &&& 0xFFFFFFFC
    pexl := k.exl, pie := k.ie, pipri := k.ipri
    ie := false, exl := true
    ecInt := false, ecCode := BitVec.ofNat 8 code, eaddr := eaddr, einfo := BitVec.ofNat 8 einfo
    res := none, locked := false, wait := none, retries := 0
    ldNext := none, fromEret := false, fresh := false, resumed := false
    fetchO := k.mpuO, fetchS := k.mpuS
    pc := k.evec, cycle := k.cycle + 8 }

/-- The record of a second exception (R207): EPC keeps the first. -/
def Core.doubleFault (k : Core) (code : Nat) (eaddr : Word) (einfo : Nat) : Core :=
  { k with
    dblf := true, ecInt := false, ecCode := BitVec.ofNat 8 code, eaddr := eaddr
    einfo := BitVec.ofNat 8 einfo, wait := none, retries := 0 }

/-- Core `c` takes an exception (R199): entry at EVEC; a double fault, which counts as the expiry of its
watchdog (R207); or, in sealed code, the abort of the call with WS_FAULT (R302). -/
def State.takeExc (s : State) (c code : Nat) (eaddr : Word) (einfo : Nat) : State :=
  let s := s.updCore c Core.settle
  let k := s.coreAt c
  if k.exl then ((s.updCore c fun k => k.doubleFault code eaddr einfo).plyFault 5).resyncWindow
  else if k.world then
    let s := ((s.set R.WLD_STAT_FAULT 1).set R.WLD_FAULT_GATE s.wld.gate).set R.WLD_FAULT_CODE code
    let s := ((s.updCore c fun k => k.enter code eaddr einfo).raise 160).abortCall 3
    if (s.coreAt c).step then s.haltOrAsk c 2 0 else s
  else
    let s := s.updCore c fun k => k.enter code eaddr einfo
    if k.step then s.haltOrAsk c 2 0 else s

/-- EINFO of a data or I/O access: its space, whether it writes, and the reason (Table 9.7). -/
def einfoOf (r : Reason) (space : Nat) (w : Bool) : Nat := r.code * 16 + b2n w * 4 + space

/-- A FETCH exception at the PC (Table 9.5). -/
def State.fetchExc (s : State) (c : Nat) (r : Reason) : State :=
  s.takeExc c 1 (s.coreAt c).pc (r.code * 16)

/-- An ILLEGAL exception (Table 9.5). -/
def State.illegal (s : State) (c : Nat) : State := s.takeExc c 2 (s.coreAt c).pc 0

/-! ### Fetch from flash (R196, R301) -/

/-- The tag of a line filled by a core: its world under PART, none under FLUSH. -/
def State.lineTag (s : State) (k : Core) : Bool := !s.flag R.WLD_CFG_EFFCACHE && k.world

/-- The lines a fill may use: half of the 16 KiB for each world under PART, all of it under FLUSH. -/
def State.lineCap (s : State) : Nat := if s.flag R.WLD_CFG_EFFCACHE then 512 else 256

/-- The instruction cache of a core with the line of `a` filled; a full cache loses a line the spec does not
name. -/
def State.fillLine (s : State) (c a : Nat) : State :=
  let k := s.coreAt c
  let tag := s.lineTag k
  let own := k.cache.filter fun x => decide (x.2 = tag)
  let others := k.cache.filter fun x => decide (x.2 ≠ tag)
  if (a / 32, tag) ∈ k.cache then s
  else if own.length < s.lineCap then s.updCore c fun k => { k with cache := (a / 32, tag) :: k.cache }
  else
    let (n, s) := s.freeN
    s.updCore c fun k => { k with cache := (a / 32, tag) :: own.eraseIdx (n % own.length) ++ others }

/-- The wait of a miss: at most 48 cycles while bank 0 is idle (R196). -/
def State.missWait (s : State) : Nat × State :=
  let (n, s) := s.freeN
  (n % 49, s)

/-- The fill of the line of `a` reads its two words: true where one is uncorrectable (R397). -/
def State.eccLine (s : State) (a : Nat) : Bool × State :=
  let (b, s) := s.eccRead (a / 32 * 32)
  let (d, s) := s.eccRead (a / 32 * 32 + 16)
  (b || d, s)

/-- The line of the PC is not in the cache of core `c`. -/
def State.misses (s : State) (c : Nat) : Bool :=
  let k := s.coreAt c
  inMain k.pc.toNat && decide ((k.pc.toNat / 32, s.lineTag k) ∉ k.cache)

/-- The count of an instruction, with the miss its fetch meets, is added to CYCLE (R196). -/
def State.spend (s : State) (c n : Nat) : State :=
  if s.misses c then
    let (w, s) := s.missWait
    (s.fillLine c (s.coreAt c).pc.toNat).updCore c fun k => { k with cycle := k.cycle + BitVec.ofNat 32 (n + w) }
  else s.updCore c fun k => { k with cycle := k.cycle + BitVec.ofNat 32 n }

/-- `n` cycles pass for core `c`. -/
def State.cycles (s : State) (c n : Nat) : State := s.updCore c fun k => { k with cycle := k.cycle + BitVec.ofNat 32 n }

/-- The unrecoverable fault of a TCM read with no majority (R170, R175, Table 8.5). -/
def State.tcmFault (s : State) : State := (s.plyFault 4).resyncWindow

/-- The fetch of core `c` at its PC waits. -/
def State.fetchWaits (s : State) (c : Nat) (w : WaitFor) : State :=
  s.updCore c fun k => { k with wait := some { kind := .fetch, ea := k.pc }, why := w }

/-- The PC's line is fetched from flash where it is not in the cache, and `f` goes on (R196, R198, R397): a miss waits
while bank 0 works, and flash that does not answer or answers a bus error refuses the fetch. -/
def State.fetched (s : State) (c : Nat) (f : State → State) : State :=
  if !s.misses c then f s
  else if !s.on 2 then (if s.offCode 2 = .retry then s.fetchWaits c .retry else s.fetchExc c .absent)
  else if (s.flashOp 0).isSome then s.fetchWaits c .flash
  else
    let (bad, s) := s.eccLine (s.coreAt c).pc.toNat
    if bad then s.fetchExc c .busErr else f s

/-! ### Issue and completion (R195, R196, R212) -/

/-- Core `c` can issue: it exists, its domain is on, nothing holds, halts or stops it, and no access waits. -/
def State.canIssue (s : State) (c : Nat) : Bool :=
  s.coreExists c && decide ((s.coreAt c).run = .issuing) && s.coreOn c && !s.ply.fault
    && !s.bit R.DBG_STAT_HALTED c && (s.coreAt c).wait.isNone

/-- Core `c` issues an instruction of `n` cycles whose effect is `f`: a fetch breakpoint halts before it, a
refused fetch is a FETCH exception, an I-TCM word with no majority is an unrecoverable fault, and a miss is fetched
(R170, R193, R196, R448). -/
def State.issue (s : State) (c n : Nat) (f : State → State) : State :=
  if !s.canIssue c then s
  else
    let k := s.coreAt c
    match if k.resumed then none else s.bpMatch c k.pc.toNat [0] with
    | some i => s.haltOrAsk c 3 i
    | none =>
      match s.fetchReason k k.pc.toNat with
      | some r => s.fetchExc c r
      | none =>
        if decide (k.pc.toNat < 0x20000) && s.tcmBad itcmKey c k.pc.toNat then s.tcmFault
        else s.fetched c fun s => f (s.spend c n)

/-- The end of an instruction (R195): `f` is what it does to the core; the load before it writes its
destination unless the instruction wrote it or is itself a load of it; its own load waits for its slot. -/
def Core.retire (k : Core) (dests : List (Fin 32)) (f : Core → Core) : Core :=
  let k' := f { k with ld := none, ldNext := none, fromEret := false, fresh := false, resumed := false }
  let k' := match k.ld with
    | some (r, v) => if r ∈ dests ∨ k'.ldNext.map Prod.fst = some r then k' else k'.wr r v
    | none => k'
  { k' with ld := k'.ldNext, ldNext := none, fetchO := k.mpuO, fetchS := k.mpuS }

/-- A step ends at the first eligible boundary (R447). -/
def State.stepEnd (s : State) (c : Nat) : State :=
  if (s.coreAt c).step && s.eligible c then s.haltCore c 2 0 else s

/-- An instruction of core `c` completes: it wrote the registers `dests` and changed the core by `f`. -/
def State.complete (s : State) (c : Nat) (dests : List (Fin 32)) (f : Core → Core) : State :=
  (s.updCore c fun k => k.retire dests f).stepEnd c

/-- The next instruction in line. -/
def Core.next (k : Core) : Core := { k with pc := k.pc + 4 }

/-- An instruction of `n` cycles that writes one register from the registers it reads, and nothing else. -/
def State.alu (s : State) (c : Nat) (n : Nat) (rd : Fin 32) (v : Core → Word) : State :=
  s.issue c n fun s => s.complete c [rd] fun k => (k.wr rd (v k)).next

/-- A branch: 2 cycles, to `pc` (R220). -/
def State.jump (s : State) (c : Nat) (dests : List (Fin 32)) (f : Core → Core) : State :=
  s.issue c 2 fun s => s.complete c dests f

end Sys2Proof.Machine
end

