-- ==== Sys2Proof/Machine/AluRows.lean ====
section
/-!
DEFINITION. The arithmetic, branch and jump instructions of a strand (R214 to R217, R220). Each is one
function of the operands; issue, the load delay and the cycle count are shared.
-/

namespace Sys2Proof.Machine

/-! ### What each computes (Tables 10.3 to 10.5) -/

/-- Saturation to a signed 32-bit word (R217). -/
def sat32 (x : Int) : Word := BitVec.ofInt 32 (satS 32 x)

/-- The result of ADD (R214). -/
def valAdd (x y : Word) : Word := x + y

/-- The result of SUB (R214). -/
def valSub (x y : Word) : Word := x - y

/-- The result of AND (R214). -/
def valAnd (x y : Word) : Word := x &&& y

/-- The result of OR (R214). -/
def valOr (x y : Word) : Word := x ||| y

/-- The result of XOR (R214). -/
def valXor (x y : Word) : Word := x ^^^ y

/-- The result of SLT (R214). -/
def valSlt (x y : Word) : Word := if x.slt y then 1 else 0

/-- The result of SLTU (R214). -/
def valSltu (x y : Word) : Word := if x.ult y then 1 else 0

/-- The result of SLL (R214). -/
def valSll (x y : Word) : Word := x <<< (y.toNat % 32)

/-- The result of SRL (R214). -/
def valSrl (x y : Word) : Word := x >>> (y.toNat % 32)

/-- The result of SRA (R214). -/
def valSra (x y : Word) : Word := x.sshiftRight (y.toNat % 32)

/-- The result of SLLI (R214). -/
def valSlli (x : Word) (n : Nat) : Word := x <<< n

/-- The result of SRLI (R214). -/
def valSrli (x : Word) (n : Nat) : Word := x >>> n

/-- The result of SRAI (R214). -/
def valSrai (x : Word) (n : Nat) : Word := x.sshiftRight n

/-- The result of MIN (R214). -/
def valMin (x y : Word) : Word := if x.slt y then x else y

/-- The result of MAX (R214). -/
def valMax (x y : Word) : Word := if x.slt y then y else x

/-- The result of MINU (R214). -/
def valMinu (x y : Word) : Word := if x.ult y then x else y

/-- The result of MAXU (R214). -/
def valMaxu (x y : Word) : Word := if x.ult y then y else x

/-- The result of ADDI (R215). -/
def valAddi (x : Word) (imm : BitVec 16) : Word := x + imm.signExtend 32

/-- The result of SLTI (R215). -/
def valSlti (x : Word) (imm : BitVec 16) : Word := if x.slt (imm.signExtend 32) then 1 else 0

/-- The result of SLTIU (R215). -/
def valSltiu (x : Word) (imm : BitVec 16) : Word := if x.ult (imm.signExtend 32) then 1 else 0

/-- The result of ANDI (R215). -/
def valAndi (x : Word) (imm : BitVec 16) : Word := x &&& imm.zeroExtend 32

/-- The result of ORI (R215). -/
def valOri (x : Word) (imm : BitVec 16) : Word := x ||| imm.zeroExtend 32

/-- The result of XORI (R215). -/
def valXori (x : Word) (imm : BitVec 16) : Word := x ^^^ imm.zeroExtend 32

/-- The result of MUL (R216). -/
def valMul (x y : Word) : Word := x * y

/-- The result of MULH (R216). -/
def valMulh (x y : Word) : Word := ((x.signExtend 64 * y.signExtend 64) >>> 32).setWidth 32

/-- The result of MULHU (R216). -/
def valMulhu (x y : Word) : Word := ((x.zeroExtend 64 * y.zeroExtend 64) >>> 32).setWidth 32

/-- The result of DIV (R216). -/
def valDiv (x y : Word) : Word := if y = 0 then 0xFFFFFFFF else x.sdiv y

/-- The result of DIVU (R216). -/
def valDivu (x y : Word) : Word := if y = 0 then 0xFFFFFFFF else x / y

/-- The result of REM (R216). -/
def valRem (x y : Word) : Word := if y = 0 then x else x.srem y

/-- The result of REMU (R216). -/
def valRemu (x y : Word) : Word := if y = 0 then x else x % y

/-- The result of SADD (R217). -/
def valSadd (x y : Word) : Word := sat32 (x.toInt + y.toInt)

/-- The result of SSUB (R217). -/
def valSsub (x y : Word) : Word := sat32 (x.toInt - y.toInt)

/-- The result of QMUL (R217). -/
def valQmul (x y : Word) : Word := sat32 (rhe 31 (x.toInt * y.toInt))

/-- The result of QMUL15 (R217). -/
def valQmul15 (x y : Word) : Word := BitVec.ofInt 32 (satS 16 (rhe 15 ((x.setWidth 16).toInt * (y.setWidth 16).toInt)))

/-- The result of SABS (R217). -/
def valSabs (x : Word) : Word := sat32 x.toInt.natAbs

/-- The result of SAT to width `n` + 1 (R217). -/
def valSat (x : Word) (n : Nat) : Word := BitVec.ofInt 32 (satS (n + 1) x.toInt)

/-- The result of SSLLI (R217). -/
def valSslli (x : Word) (n : Nat) : Word := sat32 (x.toInt * 2 ^ n)

/-! ### The rows -/

/-- ADD (R214). -/
def execAdd (c : Fin 3) (rd ra rb : Fin 32) (s : State) : Out :=
  .next (s.alu c 1 rd fun k => valAdd (k.rd ra) (k.rd rb))

/-- SUB (R214). -/
def execSub (c : Fin 3) (rd ra rb : Fin 32) (s : State) : Out :=
  .next (s.alu c 1 rd fun k => valSub (k.rd ra) (k.rd rb))

/-- AND (R214). -/
def execAnd (c : Fin 3) (rd ra rb : Fin 32) (s : State) : Out :=
  .next (s.alu c 1 rd fun k => valAnd (k.rd ra) (k.rd rb))

/-- OR (R214). -/
def execOr (c : Fin 3) (rd ra rb : Fin 32) (s : State) : Out :=
  .next (s.alu c 1 rd fun k => valOr (k.rd ra) (k.rd rb))

/-- XOR (R214). -/
def execXor (c : Fin 3) (rd ra rb : Fin 32) (s : State) : Out :=
  .next (s.alu c 1 rd fun k => valXor (k.rd ra) (k.rd rb))

/-- SLT (R214). -/
def execSlt (c : Fin 3) (rd ra rb : Fin 32) (s : State) : Out :=
  .next (s.alu c 1 rd fun k => valSlt (k.rd ra) (k.rd rb))

/-- SLTU (R214). -/
def execSltu (c : Fin 3) (rd ra rb : Fin 32) (s : State) : Out :=
  .next (s.alu c 1 rd fun k => valSltu (k.rd ra) (k.rd rb))

/-- SLL (R214). -/
def execSll (c : Fin 3) (rd ra rb : Fin 32) (s : State) : Out :=
  .next (s.alu c 1 rd fun k => valSll (k.rd ra) (k.rd rb))

/-- SRL (R214). -/
def execSrl (c : Fin 3) (rd ra rb : Fin 32) (s : State) : Out :=
  .next (s.alu c 1 rd fun k => valSrl (k.rd ra) (k.rd rb))

/-- SRA (R214). -/
def execSra (c : Fin 3) (rd ra rb : Fin 32) (s : State) : Out :=
  .next (s.alu c 1 rd fun k => valSra (k.rd ra) (k.rd rb))

/-- MIN (R214). -/
def execMin (c : Fin 3) (rd ra rb : Fin 32) (s : State) : Out :=
  .next (s.alu c 1 rd fun k => valMin (k.rd ra) (k.rd rb))

/-- MAX (R214). -/
def execMax (c : Fin 3) (rd ra rb : Fin 32) (s : State) : Out :=
  .next (s.alu c 1 rd fun k => valMax (k.rd ra) (k.rd rb))

/-- MINU (R214). -/
def execMinu (c : Fin 3) (rd ra rb : Fin 32) (s : State) : Out :=
  .next (s.alu c 1 rd fun k => valMinu (k.rd ra) (k.rd rb))

/-- MAXU (R214). -/
def execMaxu (c : Fin 3) (rd ra rb : Fin 32) (s : State) : Out :=
  .next (s.alu c 1 rd fun k => valMaxu (k.rd ra) (k.rd rb))

/-- SLLI (R214). -/
def execSlli (c : Fin 3) (rd ra n : Fin 32) (s : State) : Out :=
  .next (s.alu c 1 rd fun k => valSlli (k.rd ra) n.val)

/-- SRLI (R214). -/
def execSrli (c : Fin 3) (rd ra n : Fin 32) (s : State) : Out :=
  .next (s.alu c 1 rd fun k => valSrli (k.rd ra) n.val)

/-- SRAI (R214). -/
def execSrai (c : Fin 3) (rd ra n : Fin 32) (s : State) : Out :=
  .next (s.alu c 1 rd fun k => valSrai (k.rd ra) n.val)

/-- ADDI (R215). -/
def execAddi (c : Fin 3) (rd ra : Fin 32) (imm : BitVec 16) (s : State) : Out :=
  .next (s.alu c 1 rd fun k => valAddi (k.rd ra) imm)

/-- SLTI (R215). -/
def execSlti (c : Fin 3) (rd ra : Fin 32) (imm : BitVec 16) (s : State) : Out :=
  .next (s.alu c 1 rd fun k => valSlti (k.rd ra) imm)

/-- SLTIU (R215). -/
def execSltiu (c : Fin 3) (rd ra : Fin 32) (imm : BitVec 16) (s : State) : Out :=
  .next (s.alu c 1 rd fun k => valSltiu (k.rd ra) imm)

/-- ANDI (R215). -/
def execAndi (c : Fin 3) (rd ra : Fin 32) (imm : BitVec 16) (s : State) : Out :=
  .next (s.alu c 1 rd fun k => valAndi (k.rd ra) imm)

/-- ORI (R215). -/
def execOri (c : Fin 3) (rd ra : Fin 32) (imm : BitVec 16) (s : State) : Out :=
  .next (s.alu c 1 rd fun k => valOri (k.rd ra) imm)

/-- XORI (R215). -/
def execXori (c : Fin 3) (rd ra : Fin 32) (imm : BitVec 16) (s : State) : Out :=
  .next (s.alu c 1 rd fun k => valXori (k.rd ra) imm)

/-- LUI (R215). -/
def execLui (c : Fin 3) (rd : Fin 32) (imm : BitVec 16) (s : State) : Out :=
  .next (s.alu c 1 rd fun _ => imm.zeroExtend 32 <<< 16)

/-- MUL (R216). -/
def execMul (c : Fin 3) (rd ra rb : Fin 32) (s : State) : Out :=
  .next (s.alu c 1 rd fun k => valMul (k.rd ra) (k.rd rb))

/-- MULH (R216). -/
def execMulh (c : Fin 3) (rd ra rb : Fin 32) (s : State) : Out :=
  .next (s.alu c 2 rd fun k => valMulh (k.rd ra) (k.rd rb))

/-- MULHU (R216). -/
def execMulhu (c : Fin 3) (rd ra rb : Fin 32) (s : State) : Out :=
  .next (s.alu c 2 rd fun k => valMulhu (k.rd ra) (k.rd rb))

/-- DIV (R216). -/
def execDiv (c : Fin 3) (rd ra rb : Fin 32) (s : State) : Out :=
  .next (s.alu c 18 rd fun k => valDiv (k.rd ra) (k.rd rb))

/-- DIVU (R216). -/
def execDivu (c : Fin 3) (rd ra rb : Fin 32) (s : State) : Out :=
  .next (s.alu c 18 rd fun k => valDivu (k.rd ra) (k.rd rb))

/-- REM (R216). -/
def execRem (c : Fin 3) (rd ra rb : Fin 32) (s : State) : Out :=
  .next (s.alu c 18 rd fun k => valRem (k.rd ra) (k.rd rb))

/-- REMU (R216). -/
def execRemu (c : Fin 3) (rd ra rb : Fin 32) (s : State) : Out :=
  .next (s.alu c 18 rd fun k => valRemu (k.rd ra) (k.rd rb))

/-- SADD (R217). -/
def execSadd (c : Fin 3) (rd ra rb : Fin 32) (s : State) : Out :=
  .next (s.alu c 1 rd fun k => valSadd (k.rd ra) (k.rd rb))

/-- SSUB (R217). -/
def execSsub (c : Fin 3) (rd ra rb : Fin 32) (s : State) : Out :=
  .next (s.alu c 1 rd fun k => valSsub (k.rd ra) (k.rd rb))

/-- QMUL (R217). -/
def execQmul (c : Fin 3) (rd ra rb : Fin 32) (s : State) : Out :=
  .next (s.alu c 2 rd fun k => valQmul (k.rd ra) (k.rd rb))

/-- QMUL15 (R217). -/
def execQmul15 (c : Fin 3) (rd ra rb : Fin 32) (s : State) : Out :=
  .next (s.alu c 1 rd fun k => valQmul15 (k.rd ra) (k.rd rb))

/-- SABS (R217). -/
def execSabs (c : Fin 3) (rd ra : Fin 32) (s : State) : Out :=
  .next (s.alu c 1 rd fun k => valSabs (k.rd ra))

/-- SAT (R217). -/
def execSat (c : Fin 3) (rd ra n : Fin 32) (s : State) : Out :=
  .next (s.alu c 1 rd fun k => valSat (k.rd ra) n.val)

/-- SSLLI (R217). -/
def execSslli (c : Fin 3) (rd ra n : Fin 32) (s : State) : Out :=
  .next (s.alu c 1 rd fun k => valSslli (k.rd ra) n.val)

/-- The target of a relative branch (R220). -/
def Core.rel (k : Core) (off : Word) : Word := k.pc + 4 * off

/-- A conditional branch: to PC + 4 × sext(off16) where the condition holds, else to the next instruction
(R220). -/
def State.branch (s : State) (c : Nat) (ra rb : Fin 32) (off : BitVec 16) (p : Word → Word → Bool) : State :=
  s.jump c [] fun k => if p (k.rd ra) (k.rd rb) then { k with pc := k.rel (off.signExtend 32) } else k.next

/-- BEQ (R220). -/
def execBeq (c : Fin 3) (ra rb : Fin 32) (off : BitVec 16) (s : State) : Out :=
  .next (s.branch c ra rb off fun x y => decide (x = y))

/-- BNE (R220). -/
def execBne (c : Fin 3) (ra rb : Fin 32) (off : BitVec 16) (s : State) : Out :=
  .next (s.branch c ra rb off fun x y => decide (x ≠ y))

/-- BLT (R220). -/
def execBlt (c : Fin 3) (ra rb : Fin 32) (off : BitVec 16) (s : State) : Out :=
  .next (s.branch c ra rb off fun x y => decide (x.slt y = true))

/-- BGE (R220). -/
def execBge (c : Fin 3) (ra rb : Fin 32) (off : BitVec 16) (s : State) : Out :=
  .next (s.branch c ra rb off fun x y => decide (x.slt y = false))

/-- BLTU (R220). -/
def execBltu (c : Fin 3) (ra rb : Fin 32) (off : BitVec 16) (s : State) : Out :=
  .next (s.branch c ra rb off fun x y => decide (x.ult y = true))

/-- BGEU (R220). -/
def execBgeu (c : Fin 3) (ra rb : Fin 32) (off : BitVec 16) (s : State) : Out :=
  .next (s.branch c ra rb off fun x y => decide (x.ult y = false))

/-- J (R220). -/
def execJ (c : Fin 3) (off : BitVec 26) (s : State) : Out :=
  .next (s.jump c [] fun k => { k with pc := k.rel (off.signExtend 32) })

/-- CALL (R191, R220). -/
def execCall (c : Fin 3) (off : BitVec 26) (s : State) : Out :=
  .next (s.jump c [31] fun k =>
    { k.wr 31 (k.pc + 4) with pc := k.rel (off.signExtend 32) })

/-- JR (R220). -/
def execJr (c : Fin 3) (ra : Fin 32) (s : State) : Out :=
  .next (s.jump c [] fun k => { k with pc := k.rd ra &&& 0xFFFFFFFC })

/-- CALLR (R191, R220). -/
def execCallr (c : Fin 3) (ra : Fin 32) (s : State) : Out :=
  .next (s.jump c [31] fun k =>
    { k.wr 31 (k.pc + 4) with pc := k.rd ra &&& 0xFFFFFFFC })

end Sys2Proof.Machine
end

