-- ==== Sys2Proof/Machine/ClockRows.lean ====
section
/-!
DEFINITION. The clock monitor and the PLL (chapter 21). A window's row carries the deviations it measured.
-/

namespace Sys2Proof.Machine

/-- Reference `r` is fitted (Table 21.1). -/
def State.clkFitted (s : State) (r : Nat) : Bool :=
  if r = 0 then s.flag R.CLK_CFG_FITX
  else if r = 1 then s.flag R.CLK_CFG_FITW && !s.flag R.WRP_CFG_ROLE
  else true

/-- The flag of a lost reference. -/
def lostFlag (r : Nat) : Fld := if r = 0 then R.CLK_STAT_LOSTX else if r = 1 then R.CLK_STAT_LOSTW else R.CLK_STAT_LOSTR

/-- Reference `r` is available (R457). -/
def State.clkAvail (s : State) (r : Nat) : Bool := s.clkFitted r && !s.flag (lostFlag r)

/-- The deviation register of a reference or, as 3, of the witness. -/
def clkDevReg (r : Nat) : Fld :=
  if r = 0 then R.CLK_DEVX else if r = 1 then R.CLK_DEVW else if r = 2 then R.CLK_DEVR else R.CLK_DEVT

/-- The deviation of a reference as published: the selected one reads 0 (R462). -/
def State.clkDev (s : State) (r : Nat) : Int := if r = s.get R.CLK_STAT_ACTIVE then 0 else s.gets (clkDevReg r)

/-- References `x` and `y` agree (R462). -/
def State.clkAgree (s : State) (x y : Nat) : Bool :=
  let w := if x ≤ 1 ∧ y ≤ 1 then s.get R.CLK_WIN_OUTER else s.get R.CLK_RCWIN
  decide ((s.clkDev x - s.clkDev y).natAbs ≤ w)

/-- A precise reference is available and agrees with the witness. -/
def State.clkGood (s : State) (r : Nat) : Bool := decide (r ≤ 1) && s.clkAvail r && s.clkAgree r 3

/-- The estimate of Table 21.3 and its switch threshold, none in case 3. -/
def State.clkEstimate (s : State) : Option (Nat × Option Nat) :=
  let a := s.get R.CLK_STAT_ACTIVE
  let i := s.get R.CLK_CFG_INITSEL
  if a ≤ 1 ∧ (s.clkAvail (1 - a) && (s.clkAgree (1 - a) 2 || s.clkAgree (1 - a) 3)) = true then
    some (1 - a, some (s.get R.CLK_WIN_OUTER))
  else if a ≤ 1 ∧ s.clkAgree 2 3 = true then some (2, some (s.get R.CLK_RCWIN))
  else if a ≤ 1 then none
  else if s.clkGood i then some (i, none)
  else if s.clkGood 0 then some (0, none)
  else if s.clkGood 1 then some (1, none)
  else none

/-- A switch to reference `e` (R465, R466, R473): the PLL enters RELOCK on it, and its phase stays. -/
def State.clkSwitch (s : State) (e : Nat) : State :=
  let s := ((s.set R.CLK_STAT_RELOCK 1).set R.CLK_STAT_LOCK 0).set R.CLK_STAT_HOLDOVER 0
  let s := ((s.set R.CLK_STAT_ACTIVE e).setB R.CLK_STAT_ONRC (decide (e = 2))).set R.CLK_STAT_SWITCHED 1
  let s := ((s.raise 186).inc R.CLK_SWCNT).set R.CLK_LASTSW s.time.tb.toNat
  let s := { s with clk := { prev := none, holdoff := true, loss := false } }
  if e = 2 ∨ 2 ≤ s.get R.CLK_SWCNT then s.advise 3 else s

/-- What a window end decides (R463 to R466, R472). -/
def State.clkDecide (s : State) : State :=
  match s.clkEstimate with
  | none =>
    let s := ((s.set R.CLK_STAT_NOMAJ 1).flagRise R.CLK_STAT_FAULT 186).advise 3
    { s with clk := { s.clk with prev := none } }
  | some (e, thr) =>
    let s := s.set R.CLK_STAT_NOMAJ 0
    let d := (s.clkDev e).natAbs
    let s := if s.get R.CLK_WIN_INNER < d then s.flagRise R.CLK_STAT_INNER 186 else s
    let ok := match thr with
      | some t => decide (t < d)
      | none => true
    if !ok || !s.flag R.CLK_CFG_SWEN then { s with clk := { s.clk with prev := none } }
    else
      let again := match thr with
        | some _ => s.clk.prev.isSome
        | none => decide (s.clk.prev = some e)
      if !again then { s with clk := { s.clk with prev := some e } }
      else if s.clk.holdoff then s.flagRise R.CLK_STAT_HELD 186
      else s.clkSwitch e

/-- The deviation of a reference whose 25,000 cycles took `n` cycles of ROOT, which is 60 times the selected one:
D = f_X ÷ f_S − 1 in units of 2^(−20), truncated and saturated (R462). -/
def devOfCount (n : Nat) : Int := satI (-32767) 32767 ((2 ^ 20 * ((1500000 : Int) - n)).fdiv n)

/-- A window publishes the deviation of `r`: 0 for the selected reference, and a free value for one that gave no 25,000
cycles, of which R462 states none (DESIGN CHOICE, assumption 61). -/
def State.clkPut (s : State) (r n : Nat) : State :=
  if r = s.get R.CLK_STAT_ACTIVE then s.set (clkDevReg r) 0
  else if n = 0 then (let (x, s) := s.freeN; s.set (clkDevReg r) x)
  else s.sets (clkDevReg r) (devOfCount n)

/-- CLOCK_MONITOR_WINDOW_END (R462, R463): the counts of unshifted ROOT cycles over 25,000 cycles of XTAL, WARP, RC and
the witness, and the references that met neither condition of R467 through the whole window. -/
def execClockMonitorWindowEnd (nx nw nr nt : Nat) (good : BitVec 3) (s : State) : Out :=
  .next (
    let s := (((s.clkPut 0 nx).clkPut 1 nw).clkPut 2 nr).clkPut 3 nt
    let s := (List.range 3).foldl (fun s r => if good.toNat.testBit r then s.set (lostFlag r) 0 else s) s
    s.clkDecide)

/-- A reference is lost (R467): the selected one is left at once, with neither windows nor hold-off awaited. RC
is never treated as lost while the main supply is present. -/
def State.clkLost (s : State) (r : Nat) : State :=
  if r = 2 then s
  else
    let s := ((s.set (lostFlag r) 1).set R.CLK_STAT_LOST 1).raise 186
    if s.get R.CLK_STAT_ACTIVE ≠ r then s
    else
      match s.clkEstimate with
      | some (e, _) => s.clkSwitch e
      | none => s.clkSwitch 2

/-- CLOCK_REFERENCE_LOST (R467). -/
def execClockReferenceLost (r : Fin 3) (s : State) : Out := .next (s.clkLost r)

/-- PLL_RELOCK_DONE (R465). -/
def execPllRelockDone (s : State) : Out :=
  .next (if s.flag R.CLK_STAT_RELOCK then
      { (s.set R.CLK_STAT_RELOCK 0).set R.CLK_STAT_LOCK 1 with clk := { s.clk with loss := false } }
    else s)

/-- PLL_LOCK_LOSS (R468): HOLDOVER, then RELOCK on the same reference. -/
def execPllLockLoss (s : State) : Out :=
  .next (if s.flag R.CLK_STAT_LOCK && s.clkAvail (s.get R.CLK_STAT_ACTIVE) then
      (let s := ((s.set R.CLK_STAT_LOCK 0).set R.CLK_STAT_RELOCK 1).set R.CLK_STAT_PLLERR 1
       { s.raise 187 with clk := { s.clk with loss := true } })
    else s)

/-- PLL_RELOCK_TIMEOUT (R468): the reference counts as lost. -/
def execPllRelockTimeout (s : State) : Out :=
  .next (if s.clk.loss && s.flag R.CLK_STAT_RELOCK then s.clkLost (s.get R.CLK_STAT_ACTIVE) else s)

/-- CLOCK_HOLDOFF_END (R466): the next pair of windows counts. -/
def execClockHoldoffEnd (s : State) : Out := .next { s with clk := { s.clk with holdoff := false, prev := none } }

/-- INNER never stands above OUTER (Table 21.5). -/
def State.boundClk (s : State) : State := s.set R.CLK_WIN_INNER (min (s.get R.CLK_WIN_INNER) (s.get R.CLK_WIN_OUTER))

/-- A write of CLK_WIN (R475). -/
def State.writeClkWin (s : State) (v : Nat) : State :=
  ((s.set R.CLK_WIN_OUTER (bitsOf v 27 16)).set R.CLK_WIN_INNER (bitsOf v 11 0)).boundClk

end Sys2Proof.Machine
end

