-- ==== Sys2Proof/Machine/UtperCode.lean ====
section
/-!
DEFINITION. The instruction words of a strand (R211, R212, R214 to R228): the command that a 32-bit word spells when a
strand issues it.
-/

namespace Sys2Proof.Machine

/-! ### The fields of Table 10.1 -/

/-- Bits [h:l] of a word, `n` of them from `l` upward. -/
def codeAt (w : Word) (l n : Nat) : BitVec n := w.extractLsb' l n

/-- The register field at bit `l`. -/
def regAt (w : Word) (l : Nat) : Fin 32 := (codeAt w l 5).toFin

/-- The tile field at bit `l`. -/
def tileAt (w : Word) (l : Nat) : Fin 8 := (codeAt w l 3).toFin

/-- rd, rs or, in format B, ra. -/
def fieldD (w : Word) : Fin 32 := regAt w 21

/-- ra, base or, in format B, rb. -/
def fieldA (w : Word) : Fin 32 := regAt w 16

/-- rb, or a shift amount. -/
def fieldB (w : Word) : Fin 32 := regAt w 11

/-- The immediate, displacement or offset of 16 bits. -/
def imm16 (w : Word) : BitVec 16 := codeAt w 0 16

/-- The displacement of a tile move. -/
def disp12 (w : Word) : BitVec 12 := codeAt w 1 12

/-! ### The groups with a function field -/

/-- ALU (Table 10.3). -/
def aluRow (c : Fin 3) (w : Word) : Option Instr :=
  let d := fieldD w
  let a := fieldA w
  let b := fieldB w
  match (codeAt w 0 11).toNat with
  | 0x000 => some (.add c d a b)
  | 0x001 => some (.sub c d a b)
  | 0x002 => some (.and c d a b)
  | 0x003 => some (.or c d a b)
  | 0x004 => some (.xor c d a b)
  | 0x005 => some (.slt c d a b)
  | 0x006 => some (.sltu c d a b)
  | 0x008 => some (.sll c d a b)
  | 0x009 => some (.srl c d a b)
  | 0x00A => some (.sra c d a b)
  | 0x00C => some (.slli c d a b)
  | 0x00D => some (.srli c d a b)
  | 0x00E => some (.srai c d a b)
  | 0x010 => some (.min c d a b)
  | 0x011 => some (.max c d a b)
  | 0x012 => some (.minu c d a b)
  | 0x013 => some (.maxu c d a b)
  | _ => none

/-- MULDIV (Table 10.4). -/
def mulRow (c : Fin 3) (w : Word) : Option Instr :=
  let d := fieldD w
  let a := fieldA w
  let b := fieldB w
  match (codeAt w 0 11).toNat with
  | 0x000 => some (.mul c d a b)
  | 0x001 => some (.mulh c d a b)
  | 0x002 => some (.mulhu c d a b)
  | 0x004 => some (.div c d a b)
  | 0x005 => some (.divu c d a b)
  | 0x006 => some (.rem c d a b)
  | 0x007 => some (.remu c d a b)
  | _ => none

/-- QARITH (Table 10.5): the rb field of SABS must be 0. -/
def qarithRow (c : Fin 3) (w : Word) : Option Instr :=
  let d := fieldD w
  let a := fieldA w
  let b := fieldB w
  match (codeAt w 0 11).toNat with
  | 0x000 => some (.sadd c d a b)
  | 0x001 => some (.ssub c d a b)
  | 0x002 => if b = 0 then some (.sabs c d a) else none
  | 0x003 => some (.sat c d a b)
  | 0x004 => some (.sslli c d a b)
  | 0x008 => some (.qmul c d a b)
  | 0x009 => some (.qmul15 c d a b)
  | _ => none

/-- SYS (Table 10.6): rd, ra and rb must be 0. -/
def sysRow (c : Fin 3) (w : Word) : Option Instr :=
  if codeAt w 11 15 ≠ 0 then none
  else
    match (codeAt w 0 11).toNat with
    | 0x000 => some (.fence c)
    | 0x001 => some (.wfi c)
    | 0x002 => some (.eret c)
    | 0x004 => some (.handover c)
    | 0x005 => some (.joinwait c)
    | 0x009 => some (.wret c)
    | _ => none

/-- WGATE (R225, Table 14.3): a row for each kind of index. -/
def gateRow (c : Fin 3) (w : Word) : Option Instr :=
  let g := (imm16 w).toNat
  if codeAt w 16 10 ≠ 0 then none
  else if g = 0 then some (.wgateReturn c)
  else if g = 1 then some (.wgateInfo c)
  else if 0x1000 ≤ g ∧ g < 0x1040 then some (.wgateEntry c (codeAt w 0 6).toFin)
  else some (.wgateUnassigned c (imm16 w))

/-- TSAVE and TREST (R227): bits [21:18] and [0] are 0, and t is 0 where ACC is the operand. -/
def saveRow (w : Word) (f : Bool → Fin 8 → Instr) : Option Instr :=
  let acc := w.getLsbD 22
  if codeAt w 18 4 ≠ 0 ∨ w.getLsbD 0 = true ∨ (acc = true ∧ tileAt w 23 ≠ 0) then none else some (f acc (tileAt w 23))

/-- TOP (Table 10.7): every field a function does not use is 0. -/
def topRow (c : Fin 3) (w : Word) : Option Instr :=
  let x := tileAt w 23
  let y := tileAt w 20
  let imm := codeAt w 16 4
  let z := w.getLsbD 15
  if codeAt w 11 4 ≠ 0 then none
  else
    match (codeAt w 0 11).toNat with
    | 0x000 => if imm = 0 ∧ z = false then some (.tmac c x y) else none
    | 0x001 => if imm.getLsbD 3 = false ∧ z = false then some (.tmacv c x y (tileAt w 16)) else none
    | 0x002 => if y = 0 then some (.adrain c x imm.toFin z) else none
    | 0x003 => if x = 0 ∧ y = 0 ∧ imm = 0 ∧ z = false then some (.azero c) else none
    | 0x004 => if y = 0 ∧ imm = 0 ∧ z = false then some (.trel c x) else none
    | _ => none

/-! ### The opcode map (Table 10.2) -/

/-- The command that word `w` spells on core `c`; none where it is an unassigned encoding (R212). CACHE_INVALIDATE,
MPU_LOCK and ICU_COMPLETION are CSRWR words, and a tile move pauses nowhere unless its command says so. -/
def utperRow (c : Fin 3) (w : Word) : Option Instr :=
  let d := fieldD w
  let a := fieldA w
  match (codeAt w 26 6).toNat with
  | 0x01 => aluRow c w
  | 0x02 => mulRow c w
  | 0x03 => qarithRow c w
  | 0x04 => some (.addi c d a (imm16 w))
  | 0x05 => some (.slti c d a (imm16 w))
  | 0x06 => some (.sltiu c d a (imm16 w))
  | 0x07 => some (.andi c d a (imm16 w))
  | 0x08 => some (.ori c d a (imm16 w))
  | 0x09 => some (.xori c d a (imm16 w))
  | 0x0A => if a = 0 then some (.lui c d (imm16 w)) else none
  | 0x10 => some (.ldb c d a (imm16 w))
  | 0x11 => some (.ldbu c d a (imm16 w))
  | 0x12 => some (.ldh c d a (imm16 w))
  | 0x13 => some (.ldhu c d a (imm16 w))
  | 0x14 => some (.ldw c d a (imm16 w))
  | 0x15 => some (.ldx c d a (imm16 w))
  | 0x18 => some (.stb c d a (imm16 w))
  | 0x19 => some (.sth c d a (imm16 w))
  | 0x1A => some (.stw c d a (imm16 w))
  | 0x1B => some (.stx c d a (imm16 w))
  | 0x1C => some (.iold c d a (imm16 w))
  | 0x1D => some (.iost c d a (imm16 w))
  | 0x20 => some (.beq c d a (imm16 w))
  | 0x21 => some (.bne c d a (imm16 w))
  | 0x22 => some (.blt c d a (imm16 w))
  | 0x23 => some (.bge c d a (imm16 w))
  | 0x24 => some (.bltu c d a (imm16 w))
  | 0x25 => some (.bgeu c d a (imm16 w))
  | 0x28 => some (.j c (codeAt w 0 26))
  | 0x29 => some (.call c (codeAt w 0 26))
  | 0x2A => if d = 0 ∧ codeAt w 0 16 = 0 then some (.jr c a) else none
  | 0x2B => if d = 0 ∧ codeAt w 0 16 = 0 then some (.callr c a) else none
  | 0x30 => sysRow c w
  | 0x31 => if a = 0 ∧ codeAt w 12 4 = 0 then some (.csrrd c d (codeAt w 0 12)) else none
  | 0x32 => if d = 0 ∧ codeAt w 12 4 = 0 then some (.csrwr c (codeAt w 0 12) a) else none
  | 0x33 => gateRow c w
  | 0x38 => if w.getLsbD 0 = true then none else some (.tld c (tileAt w 23) (regAt w 18) (regAt w 13) (disp12 w) 0)
  | 0x39 => if w.getLsbD 0 = true then none else some (.tst c (tileAt w 23) (regAt w 18) (regAt w 13) (disp12 w) 0)
  | 0x3A => saveRow w fun acc t => .tsave c acc t (regAt w 13) (disp12 w) 0
  | 0x3B => saveRow w fun acc t => .trest c acc t (regAt w 13) (disp12 w) 0
  | 0x3C => topRow c w
  | _ => none

/-- A word is an assigned encoding (R212). -/
def assigned (w : Nat) : Bool := (utperRow 0 (BitVec.ofNat 32 w)).isSome

end Sys2Proof.Machine
end

