-- ==== Sys2Proof/Machine/CsrOps.lean ====
section
/-!
DEFINITION. The control and status registers of a strand (R210, R224, Table 9.7), and the tile file they zero
(R236).
-/

namespace Sys2Proof.Machine

/-! ### The tile file (R236) -/

/-- TUSE takes a value: every tile whose bit falls is zeroed. -/
def Core.setTuse (k : Core) (v : BitVec 8) : Core :=
  { k with
    tuse := v
    tiles := Vector.ofFn fun t =>
      if k.tuse.toNat.testBit t.val && !v.toNat.testBit t.val then Vector.replicate 64 0 else k.tiles[t] }

/-! ### Reading (Table 9.7) -/

/-- Reserved bits of MPUBASEr and MPULIMr read 0. -/
def blockMask : Word := 0xFFFFFF00

/-- Defined bits of MPUATTRr. -/
def attrMask : Word := 0x80000037

/-- Defined bits of TPROG (Table 11.3). -/
def tprogMask : Word := 0xFF1FFFFF

/-- A listed CSR: its value, for core number `c`; none where the number is not listed (R210). INVAL is read
by `csrInval`. -/
def Core.csr (k : Core) (c n : Nat) : Option Word :=
  if n = 0x000 then
    some (BitVec.ofNat 32 (b2n k.dblf * 256 + b2n k.world * 16 + b2n k.exl * 2 + b2n k.ie))
  else if n = 0x001 then some (BitVec.ofNat 32 (b2n k.pexl * 2 + b2n k.pie))
  else if n = 0x002 then some k.epc
  else if n = 0x003 then some (BitVec.ofNat 32 (b2n k.ecInt * 2 ^ 31 + k.ecCode.toNat))
  else if n = 0x004 then some k.eaddr
  else if n = 0x005 then some (k.einfo.zeroExtend 32)
  else if n = 0x006 then some k.evec
  else if n = 0x007 then some k.ivec
  else if n = 0x008 then some k.escr0
  else if n = 0x009 then some k.escr1
  else if n = 0x010 then some (k.ipri.zeroExtend 32)
  else if n = 0x011 then some (k.pipri.zeroExtend 32)
  else if n = 0x012 then some (k.isrc.zeroExtend 32)
  else if n = 0x013 then some 0
  else if n = 0x020 then some k.cycle
  else if n = 0x030 then some (BitVec.ofNat 32 (b2n k.pfen * 2 + b2n k.inval.isSome))
  else if 0x040 ≤ n ∧ n < 0x048 then some (k.mpu.base[(⟨n % 8, Nat.mod_lt n (by decide)⟩ : Fin 8)])
  else if 0x048 ≤ n ∧ n < 0x050 then some (k.mpu.lim[(⟨n % 8, Nat.mod_lt n (by decide)⟩ : Fin 8)])
  else if 0x050 ≤ n ∧ n < 0x058 then some (k.mpu.attr[(⟨n % 8, Nat.mod_lt n (by decide)⟩ : Fin 8)])
  else if n = 0x058 then some (BitVec.ofNat 32 (b2n k.mpu.lock * 2 + b2n k.mpu.defAllow))
  else if n = 0x060 then some (k.tuse.zeroExtend 32)
  else if n = 0x061 then some k.tprog
  else if n = 0x070 then some (BitVec.ofNat 32 c)
  else none

/-- INVAL reads 1 until the invalidation is done, at most 512 cycles on: when it ends before is open. -/
def State.csrInval (s : State) (c : Nat) : State :=
  match (s.coreAt c).inval with
  | none => s
  | some t =>
    let (b, s) := s.freeB
    if b || decide (512 ≤ ((s.coreAt c).cycle - t).toNat) then s.updCore c fun k => { k with inval := none } else s

/-- CSRRD (R224): CYCLE as it stood at the issue. -/
def State.csrRead (s : State) (c : Nat) (rd : Fin 32) (n : Nat) : State :=
  let s := if n = 0x030 then s.csrInval c else s
  match (s.coreAt c).csr c n with
  | none => s.illegal c
  | some v => s.complete c [rd] fun k => (k.wr rd (if n = 0x020 then v - 1 else v)).next

/-! ### Writing (R205, R224) -/

/-- The MPU set of the executing world, changed. -/
def Core.setMpu (k : Core) (f : Mpu → Mpu) : Core :=
  if k.world then { k with mpuS := f k.mpuS } else { k with mpuO := f k.mpuO }

/-- What a CSRWR of `v` to CSR `n` changes in the core; ICOMP and the lock of the MPU are decided before. -/
def Core.csrSet (k : Core) (n : Nat) (v : Word) : Core :=
  if n = 0x000 then { k with exl := v.toNat.testBit 1, ie := v.toNat.testBit 0 }
  else if n = 0x001 then { k with pexl := v.toNat.testBit 1, pie := v.toNat.testBit 0 }
  else if n = 0x002 then { k with epc := v &&& 0xFFFFFFFC }
  else if n = 0x006 then { k with evec := v &&& 0xFFFFFFFC }
  else if n = 0x007 then { k with ivec := v &&& 0xFFFFFC00 }
  else if n = 0x008 then { k with escr0 := v }
  else if n = 0x009 then { k with escr1 := v }
  else if n = 0x010 then { k with ipri := v.setWidth 4 }
  else if n = 0x011 then { k with pipri := v.setWidth 4 }
  else if n = 0x020 then { k with cycle := v, inval := k.inval.map fun t => t + (v - k.cycle) }
  else if n = 0x030 then
    { k with
      pfen := v.toNat.testBit 1
      inval := if v.toNat.testBit 0 then some k.cycle else k.inval }
  else if 0x040 ≤ n ∧ n < 0x048 then
    k.setMpu fun m => { m with base := m.base.set (n % 8) (v &&& blockMask) (Nat.mod_lt n (by decide)) }
  else if 0x048 ≤ n ∧ n < 0x050 then
    k.setMpu fun m => { m with lim := m.lim.set (n % 8) (v &&& blockMask) (Nat.mod_lt n (by decide)) }
  else if 0x050 ≤ n ∧ n < 0x058 then
    k.setMpu fun m => { m with attr := m.attr.set (n % 8) (v &&& attrMask) (Nat.mod_lt n (by decide)) }
  else if n = 0x058 then
    k.setMpu fun m =>
      { m with lock := m.lock || v.toNat.testBit 1, defAllow := if m.lock then m.defAllow else v.toNat.testBit 0 }
  else if n = 0x060 then k.setTuse (v.setWidth 8)
  else if n = 0x061 then { k with tprog := v &&& tprogMask }
  else k

/-- INVAL drops the lines of the executing world under PART, and every line under FLUSH (R301). -/
def State.dropLines (s : State) (c : Nat) : State :=
  let tag := s.lineTag (s.coreAt c)
  s.updCore c fun k => { k with cache := k.cache.filter fun x => decide (x.2 ≠ tag) }

/-- A write of CSR `n` reaches a frozen field of the executing world's MPU (R205, R427, R428): MPUCFG holds
LOCK, which a write can change, so only a changed DEFALLOW counts there. -/
def Core.csrFrozen (k : Core) (n : Nat) (v : Word) : Bool :=
  k.mpu.lock && (decide (0x040 ≤ n ∧ n < 0x058) || (decide (n = 0x058) && decide (v.toNat.testBit 0 ≠ k.mpu.defAllow)))

/-- CSRWR (R224): an unlisted number is ILLEGAL; a frozen field is a lock violation, which under ERRRESP is
ILLEGAL too (R428); ICOMP completes at the ICU (R257). -/
def State.csrWrite (s : State) (c n : Nat) (v : Word) : State :=
  let k := s.coreAt c
  if (k.csr c n).isNone then s.illegal c
  else if k.csrFrozen n v then
    let s := s.countViolation { req := coreReq c, sealedW := k.world } 1 n
    if s.flag R.SYS_LOCKCFG_ERRRESP then s.illegal c else s.complete c [] fun k => (k.csrSet 0x1000 v).next
  else
    let s := if n = 0x013 then s.icuComplete c (v.toNat % 256) else s
    let s := if n = 0x030 ∧ v.toNat.testBit 0 = true then s.dropLines c else s
    s.complete c [] fun k => (k.csrSet n v).next

end Sys2Proof.Machine
end

