-- ==== Sys2Proof/Machine/LcOps.lean ====
section
/-!
DEFINITION. The SYS_KEY unlock, the life-cycle requests, their checks and their steps, SCRAP, and fuse
program requests (chapter 19).
-/

namespace Sys2Proof.Machine

/-! ### SYS_KEY (R432) -/

/-- A write of SYS_KEY (R432): the pair 0xA5, 0x5A by one requester gives it an unlock; DMA is granted
nothing. -/
def State.keyWrite (s : State) (q : Who) (v : Nat) : State :=
  let k := s.key
  if q.req = .dma then s
  else if v % 0x10000 = 0xA5 then { s with key := { k with first := insOnce k.first q.req } }
  else if v % 0x10000 = 0x5A ∧ q.req ∈ k.first then
    { s with key := { k with first := without k.first q.req, unlocked := insOnce k.unlocked q.req } }
  else { s with key := { k with first := without k.first q.req } }

/-- The unlock or unfinished pair of a requester ends (R432). -/
def State.keyEnd (s : State) (q : Req) : State :=
  { s with key := { s.key with first := without s.key.first q, unlocked := without s.key.unlocked q } }

/-- A write of a protected register at `a` (R420, R427, R432): with the writer's unlock, which it uses up, `f`;
without, a lock violation. -/
def State.guarded (s : State) (q : Who) (a : Nat) (f : State → State) : State :=
  if q.req ∈ s.key.unlocked then f { s with key := { s.key with unlocked := without s.key.unlocked q.req } }
  else s.lockViolation q 0 a

/-- A write of SYS_LOCKCFG (R432): it records whether its lock was set from the SEALED world (R429). -/
def State.writeLockcfg (s : State) (q : Who) (v : Nat) : State :=
  s.guarded q 0x8 fun s =>
    let was := s.flag R.SYS_LOCKCFG_LOCK
    let s := s.writeReg q 0x8 v
    if !was && s.flag R.SYS_LOCKCFG_LOCK then { s with key := { s.key with errLockSealed := q.sealedW } } else s

/-! ### Transitions (R419 to R425) -/

/-- The progress slot of a transition to `t` from the present state (Table 19.8); none where no such
transition exists (Table 19.7). -/
def State.lcSlot (s : State) (t : Nat) : Option Nat :=
  match s.lcState, t with
  | 0, 1 => some 0
  | 1, 2 => some (s.get R.LCS_STATE_OPENS + 1)
  | 2, 1 => some (s.get R.LCS_STATE_RELOCKS + 8)
  | 1, 3 => some 15
  | 3, 4 => some 16
  | 4, 5 => some 17
  | x, 7 => if x = 7 then none else some 18
  | _, _ => none

/-- The last step of a slot (Table 19.8). -/
def lcSteps (slot : Nat) : Nat :=
  if slot < 15 then 2 else if slot = 15 then 5 else if slot = 18 then 5 else 3

/-- The bit of the life-cycle word a slot burns (Table 19.8). -/
def lcBit (slot : Nat) : Nat := slot

/-- A token passes: its SHA-384 equals the fused digest (R421). -/
def State.tokenGood (s : State) (t : Nat) (tok : List Nat) : Bool :=
  let r := if t = 2 then 18 + 12 * s.get R.LCS_STATE_OPENS else 102
  decide (sha384 tok = fuseBytes s.shadow r 12)

/-- Something in progress refuses a transition with BUSY (R420). -/
def State.lcBusy (s : State) : Bool :=
  s.flag R.LCS_PROG_INPROG || s.crerus.activating || s.flag R.PWR_STATE_ENTRY || s.flag R.LCS_FSTAT_BUSY

/-- The checks of R420 before the token: the code that refuses the request. -/
def State.lcRefusal (s : State) (t : Nat) (scrap : Bool) : Option Nat :=
  if s.lcBusy then some 0x20
  else if (s.lcSlot t).isNone || (decide (t = 7) && !scrap) then some 0x13
  else if t = 2 ∧ s.get R.LCS_STATE_OPENS = 7 then some 0x14
  else if t = 5 ∧ allZero (fuseBytes s.shadow 102 12) = true then some 0x14
  else none

/-- A transition is accepted (R423): Crerus holds the strands; `job` is the request to answer. -/
def State.lcBegin (s : State) (slot : Nat) (job : Option Nat) : State :=
  let s := { s with lc := { s.lc with slot := some slot, step := 1, job := job }, core := s.core.map Core.hold }
  ((s.set R.LCS_PROG_INPROG 1).set R.LCS_PROG_SLOT slot).set R.LCS_PROG_STEP 1

/-- The checks of a request for a transition (R420, R421), and its start: the code that refuses it, or none where it was
accepted. `token` is the token given for a token transition. -/
def State.lcJudge (s : State) (t : Nat) (scrap : Bool) (token : Option (List Nat)) (job : Option Nat) :
    Option Nat × State :=
  match s.lcRefusal t scrap, s.lcSlot t with
  | some c, _ => (some c, s)
  | none, none => (some 0x13, s)
  | none, some slot =>
    if t = 2 ∨ t = 5 then
      match token with
      | none => (some 0x13, s)
      | some tok =>
        if 3 ≤ s.get R.LCS_TOKFAIL then (some 0x13, s)
        else if s.tokenGood t tok then (none, s.lcBegin slot job)
        else (some 0x13, s.inc R.LCS_TOKFAIL)
    else (none, s.lcBegin slot job)

/-- LCS_TOKEN0 to LCS_TOKEN7 as the 32 bytes of a token (R421). -/
def State.tokenRegs (s : State) : List Nat := (List.range 8).flatMap fun w => toLE 4 (s.get (R.LCS_TOKEN w))

/-- The token registers are cleared at the end of every request (R421). -/
def State.clearToken (s : State) : State := (List.range 8).foldl (fun s w => s.set (R.LCS_TOKEN w) 0) s

/-- A request for a transition, at whose end the token registers are cleared (R420, R421). -/
def State.lcRequest (s : State) (t : Nat) (scrap : Bool) (token : Option (List Nat)) (job : Option Nat) :
    Option Nat × State :=
  let (c, s) := s.lcJudge t scrap token job
  (c, s.clearToken)

/-- A write of LCS_REQ (R420). -/
def State.writeLcsReq (s : State) (q : Who) (v : Nat) : State :=
  s.guarded q 0x1C008 fun s =>
    let (c, s) := s.lcRequest (v % 16) false (some s.tokenRegs) none
    match c with
    | some c => s.set R.LCS_RSTAT c
    | none => s

/-- System SRAM (Table 9.3). -/
def sramBase : Nat := 0x20000000

/-- The end of system SRAM. -/
def sramEnd : Nat := 0x20100000

/-- Every key slot and descriptor becomes zero (R378, R424). -/
def State.zeroSlots (s : State) : State := { s with custody := { s.custody with slots := Vector.replicate 64 {} } }

/-- Wipe every TCM of every strand. -/
def State.wipeTcms (s : State) : State :=
  [0, 1, 2].foldl (fun s k => (s.wipe (itcmKey k 0) (itcmKey k 0x20000)).wipe (dtcmKey k 0) (dtcmKey k 0x20000)) s

/-- The flash from `a` to `b` is erased, its words in error with it (R397). -/
def State.eraseRange (s : State) (a b : Nat) : State := (s.wipe a b).clearEcc a (b - a)

/-- Erase bank 1, parameter sectors 4 to 7 and main sectors 0 to 26 (R424). -/
def State.eraseCustomer (s : State) : State :=
  ((s.eraseRange 0x10400000 0x10800000).eraseRange 0x10010000 0x10020000).eraseRange mainBase (mainBase + 27 * 0x20000)

/-- Burn the locks of every row that `p` selects. -/
def State.lockRows (s : State) (p : Nat → Bool) : State :=
  ((List.range 256).filter p).foldl (fun s r => s.lockRow r) s

/-- Burn every bit of rows `lo` to `hi`. -/
def State.burnRows (s : State) (lo hi : Nat) : State :=
  (List.range (hi + 1 - lo)).foldl (fun s i => s.burn (lo + i) 0xFFFFFFFF) s

/-- What step `j` of a slot does beside its mark (Table 19.8, R425). -/
def State.lcEffect (s : State) (slot j : Nat) : State :=
  if slot = 15 ∧ j = 2 then ((s.eraseCustomer.wipe sramBase sramEnd).wipeTcms).zeroSlots
  else if slot = 15 ∧ j = 3 then s.lockRows testRow
  else if slot = 15 ∧ j = 4 then
    (let s := (List.range 8).foldl (fun s i =>
        let (n, s) := s.freeN
        s.burn (114 + i) n) s
     s.lockRows fun r => decide (114 ≤ r ∧ r ≤ 121))
  else if slot = 16 ∧ j = 2 then s.lockRows customerRow
  else if slot = 17 ∧ j = 2 then (s.zeroSlots.wipeSealed).eraseCustomer
  else if slot = 18 ∧ j = 2 then
    (let s := (((s.zeroSlots.wipe sramBase sramEnd).wipeTcms).wipe 0x60000000 0x60008000).eraseRange 0x10000000 0x10800000
     { s with crerus := { authctr := s.crerus.authctr, susp := s.crerus.susp, cur := s.crerus.cur }, jrnl := {} })
  else if slot = 18 ∧ j = 3 then s.burnRows 114 121
  else if slot = 18 ∧ j = 4 then s.burnRows 126 157
  else s

/-- The request a transition answers gets ACCEPTED (R420). -/
def State.lcTell (s : State) : State :=
  let s := s.set R.LCS_RSTAT 1
  match s.lc.job with
  | none => s
  | some id => { s with
      crerus := { s.crerus with susp := s.crerus.susp.map fun j => if j.id = id then { j with wait := .ready 1 [] } else j }
      lc := { s.lc with job := none } }

/-- A step of the transition in progress ends (R424): its effect and its mark; after the last, the part
asks for a SYS reset of cause 8 (R423). -/
def State.lcStep (s : State) : State :=
  match s.lc.slot with
  | none => s
  | some slot =>
    let j := s.lc.step
    let s := s.lcEffect slot j
    if j < lcSteps slot then
      let i := 8 * slot + j - 1
      let s := s.burnAll (3 + i / 32) (2 ^ (i % 32))
      let s := if j = 1 then s.lcTell else s
      { s with lc := { s.lc with step := j + 1 } }.set R.LCS_PROG_STEP (j + 1)
    else
      let s := s.burnAll 0 (2 ^ lcBit slot)
      { s with lc := { s.lc with slot := none } }.askReset 8

/-- A slot of the progress word is in progress: its intent is burned and its life-cycle bit is not (R424). -/
def State.slotOpen (s : State) (slot : Nat) : Bool :=
  s.progress (8 * slot) && !(fuseRow s.fuse 0).testBit (lcBit slot)

/-- The slot boot step 3 resumes: slot 18 first, else the lowest (R424). -/
def State.openSlot (s : State) : Option Nat := ([18] ++ List.range 18).find? s.slotOpen

/-- The step a slot resumes at: the first whose progress bit is unburned, else the last (R424). -/
def State.openStep (s : State) (slot : Nat) : Nat :=
  match ((List.range (lcSteps slot - 1)).map (· + 1)).find? fun j => !s.progress (8 * slot + j - 1) with
  | some j => j
  | none => lcSteps slot

/-! ### SCRAP (R422) -/

/-- The strand's core that a requester is; none for the others. -/
def reqCore : Req → Option Nat := kickCore

/-- A write of LCS_SCRAP (R422): from the OPEN world of a strand it raises ACCESS with reason WORLD; DMA and the
debug port are ignored. -/
def State.writeScrap (s : State) (q : Who) (v : Nat) : State :=
  match reqCore q.req with
  | none => s
  | some c =>
    if !q.sealedW then s.takeExc c 4 0x1C034 (einfoOf .world 2 true)
    else if s.seq.scrap = some q.req then
      let s := { s with seq := { s.seq with scrap := none } }
      if v = s.get (R.SYS_DEVID 0) then
        (let (r, s) := s.lcRequest 7 true none none
         match r with
         | some code => s.set R.LCS_RSTAT code
         | none => s)
      else s
    else if v = 0x5C4A then { s with seq := { s.seq with scrap := some q.req } }
    else s

/-! ### Fuse program requests (R416, R430) -/

/-- May the requester program row `r` in the present state (Table 19.4)? -/
def State.rowAllowed (s : State) (q : Who) (op r : Nat) : Bool :=
  let who := decide (q.req ≠ .dma)
  let st := s.lcState
  if r = 175 ∨ r = 176 then decide (op = 1) && decide (q.req = .crerus) && decide (st ≠ 7)
  else if r = 177 ∨ r = 178 then decide (op = 1) && q.sealedW && (decide (st = 3) || decide (st = 4))
  else if testRow r then who && (decide (st = 0) || decide (st = 2))
  else if customerRow r then who && decide (st = 3)
  else false

/-- A write of LCS_FCMD (R430). -/
def State.writeFcmd (s : State) (q : Who) (v : Nat) : State :=
  s.guarded q 0x1C048 fun s =>
    let op := v % 4
    let r := s.get R.LCS_FADDR
    if op = 0 ∨ op = 3 then s
    else if s.flag R.LCS_FSTAT_BUSY || s.flag R.LCS_PROG_INPROG then s.set R.LCS_FSTAT_STATUS 0x20
    else if s.rowLocked r then (s.lockViolation q 2 0x1C048).set R.LCS_FSTAT_STATUS 0x14
    else if !s.rowAllowed q op r then s.set R.LCS_FSTAT_STATUS 0x13
    else
      let what := if op = 1 then (r, s.get R.LCS_FDATA) else (215 + r / 32, 2 ^ (r % 32))
      { s with lc := { s.lc with fuse := some what } }.set R.LCS_FSTAT_BUSY 1

/-- A fuse program request ends (R430): `bad` are bits that still read 0 after two attempts. -/
def State.fuseEnd (s : State) (bad : Nat) : State :=
  match s.lc.fuse with
  | none => s
  | some (r, bits) =>
    let old := (s.fuse.at r).toNat
    let fails := bits &&& bad &&& (2 ^ 32 - 1 - old)
    let s := s.burn r (bits &&& (2 ^ 32 - 1 - fails))
    let s := { s with lc := { s.lc with fuse := none } }.set R.LCS_FSTAT_BUSY 0
    s.set R.LCS_FSTAT_STATUS (if fails = 0 then 0 else 0x30)

/-- LCS_FRDATA (R425, R433): the secret reads 0; a scrapped part shows rows 0 to 17 alone. -/
def State.readFrdata (s : State) : Nat :=
  let r := s.get R.LCS_FRDADDR
  if 114 ≤ r ∧ r ≤ 121 then 0
  else if s.lcState = 7 ∧ 18 ≤ r then 0
  else fuseRow s.fuse r

end Sys2Proof.Machine
end

