-- ==== Sys2Proof/Machine/DebugOps.lean ====
section
/-!
DEFINITION. Debug authority, halts, steps and register accesses (chapter 20).
-/

namespace Sys2Proof.Machine

/-! ### Authority (R440, R444, Table 20.3) -/

/-- The bus and the OPEN world are open to the debug port (Table 20.3). -/
def State.dbgOpen (s : State) : Bool :=
  match s.lcState with
  | 2 | 3 | 5 => true
  | 4 => s.flag R.DBG_AUTH_GRANTED
  | _ => false

/-- SCTRL, SMEM and BSCAN as the state and the grant give them (Table 20.3). -/
def State.dbgAuthority (s : State) (bscan : Bool) : State :=
  let st := s.lcState
  let s := s.setB R.DBG_AUTH_SCTRL (decide (st = 2 ∨ st = 3 ∨ st = 5))
  let s := s.setB R.DBG_AUTH_SMEM (decide (st = 5))
  s.setB R.DBG_AUTH_BSCAN (decide (st < 4) || decide (st = 5) || (decide (st = 4) && bscan))

/-! ### Halting (R447, R449, R451) -/

/-- Core `c` leaves its halt: the instruction at its PC always issues (R447). -/
def State.resumeCore (s : State) (c : Nat) (step : Bool) : State :=
  if !s.bit R.DBG_STAT_HALTED c then s
  else
    let s := s.clrBit R.DBG_STAT_HALTED c
    s.updCore c fun k => { k with resumed := true, step := step }

/-- A grant ends (R444): every breakpoint is disabled, every halted core resumes, and the operation in progress
completes with ACK DENIED. -/
def State.endGrant (s : State) : State :=
  if !s.flag R.DBG_AUTH_GRANTED then s
  else
    let s := (s.set R.DBG_AUTH_GRANTED 0).dbgAuthority false
    let s := (List.range 8).foldl (fun s i => s.set (R.DBG_BP_CFG_EN i) 0) s
    let s := (List.range 3).foldl (fun s c => s.resumeCore c false) s
    { s with dbg := { s.dbg with grantEnd := none, op := none, ack := 3 } }

/-- A write of DBG_CTRL (R447): HALTALL and STEPIE take their values; RESUME, STEP and HALT act on the cores
they name. -/
def State.writeDbgCtrl (s : State) (v : Nat) : State :=
  let s := (s.set R.DBG_CTRL_HALTALL (bitsOf v 17 17)).set R.DBG_CTRL_STEPIE (bitsOf v 16 16)
  let each (lo : Nat) (f : State → Nat → State) (s : State) : State :=
    (List.range 3).foldl (fun s c => if v.testBit (lo + c) then f s c else s) s
  each 0 (fun s c => s.askHalt c 1 0) (each 8 (fun s c => s.resumeCore c true)
    (each 4 (fun s c => s.resumeCore c false) s))

/-- A requested halt takes place (R447): the core runs and its boundary is eligible. In SPLIT with HALTALL the
other cores are asked too. -/
def State.haltNow (s : State) (c : Nat) : State :=
  let k := s.coreAt c
  let runs := s.coreExists c && s.coreOn c && (decide (k.run = .issuing) || decide (k.run = .wfi)) && !s.ply.fault
  match k.haltReq with
  | none => s
  | some (cause, bp) => if runs && s.eligible c && !s.bit R.DBG_STAT_HALTED c then s.haltCore c cause bp else s

/-- The kind of the sequence core `c` stands in (Table 20.6): the first, 0 for none. -/
def State.seqKind (s : State) (c : Nat) : Nat :=
  let q := coreReq c
  if q ∈ s.key.first then 1
  else if (s.coreAt c).locked then 2
  else if (s.coreAt c).moving then 3
  else if s.seq.flc = some q then 4
  else if s.seq.scrap = some q then 5
  else 0

/-- Every sequence core `c` stands in is abandoned, with its reservation (R221, Table 20.6); a move is recorded as the
core halts. -/
def State.abandon (s : State) (c : Nat) : State :=
  let q := coreReq c
  let s := if q ∈ s.key.first then s.keyEnd q else s
  let s := s.updCore c fun k => { k with res := none, locked := false }
  let s := if s.seq.flc = some q then s.flcLapse else s
  if s.seq.scrap = some q then { s with seq := { s.seq with scrap := none } } else s

/-- 64 cycles pass with a halt deferred inside a locked sequence (R451); a resync, a split or a join defers it beyond
them (R180). The core halts at its next boundary: one that an access holds comes later (R202, R246). -/
def State.deferralEnds (s : State) (c : Nat) : State :=
  let k := s.coreAt c
  match k.haltReq with
  | none => s
  | some (cause, bp) =>
    if !s.haltLocked c || s.inSealedCall c || s.bit R.DBG_STAT_HALTED c || s.plyBusy || k.mustWait then s
    else
      let n := s.seqKind c
      let s := (s.abandon c).haltCore c cause bp
      (s.setBit R.DBG_STAT_ABANDON c).set (R.DBG_CAUSE_SEQ c) n

/-! ### Register access (R454) -/

/-- The register DBG_REGSEL names, of core `c`. -/
def State.dbgReg (s : State) (c : Nat) : Option Word :=
  let k := s.coreAt c
  let n := s.get R.DBG_REGSEL_NUM
  match s.get R.DBG_REGSEL_KIND with
  | 0 => if h : n < 32 then some (k.rd ⟨n, h⟩) else none
  | 1 => k.csr c n
  | 2 => some k.pc
  | _ => none

/-- A read of DBG_REGDATA: 0 with REGERR where the core is not halted or has no such register (R454). -/
def State.readRegdata (s : State) (quiet : Bool) : Nat × State :=
  let c := s.get R.DBG_REGSEL_CORE
  match if s.bit R.DBG_STAT_HALTED c then s.dbgReg c else none with
  | some v => (v.toNat, s)
  | none => (0, if quiet then s else s.set R.DBG_STAT_REGERR 1)

/-- A write of DBG_REGDATA (R428, R454); one of ICOMP does not reach the ICU (R257). -/
def State.writeRegdata (s : State) (v : Nat) : State :=
  let c := s.get R.DBG_REGSEL_CORE
  let n := s.get R.DBG_REGSEL_NUM
  let w := BitVec.ofNat 32 v
  if !s.bit R.DBG_STAT_HALTED c || (s.dbgReg c).isNone then s.set R.DBG_STAT_REGERR 1
  else
    match s.get R.DBG_REGSEL_KIND with
    | 0 => if h : n < 32 then s.updCore c fun k => k.wr ⟨n, h⟩ w else s
    | 1 =>
      if (s.coreAt c).csrFrozen n w then s.countViolation { req := .debug, sealedW := false } 1 n
      else
        let s := if n = 0x030 ∧ v.testBit 0 = true then s.dropLines c else s
        s.updCore c fun k => k.csrSet n w
    | _ => s.updCore c fun k => { k with pc := w &&& 0xFFFFFFFC }

end Sys2Proof.Machine
end

