-- ==== Sys2Proof/Machine/PwmRows.lean ====
section
/-!
DEFINITION. The commands of the PWM pairs and the trips (chapter 04). An event row is the event: the
counter's arrival at the position is the sender's word, and the row acts where the pair's state lets the
event happen.
-/

namespace Sys2Proof.Machine

/-! ### The counter's events -/

/-- PWM_PERIOD_START (R74): of a running pair; the lagging leg of a PSFB couple has taken its period with
the leading one, and its own event follows (R77). -/
def execPwmPeriodStart (p : Fin 12) (s : State) : Out :=
  .next (if !(s.pwm.at p).run then s
    else if s.psfbCouple p && decide (p.val % 2 = 1) then fireAll (s.periodEvents p)
    else fireAll (s.periodStart p false))

/-- The position an edge of pair `p` takes in the coming period, and the counter value it falls on there (R74, R84). -/
def State.nextEdge (s : State) (p : Nat) (e : PwmEdge) : Nat × Nat :=
  let t := s.valuesIn p
  let x := (t.positions p).1.of (some e)
  (x, (x + ((s.pwm.at p).res + s.perFrac p) % 32) / 32)

/-- An edge is committed (R84): the value that governs it is fixed. Where this period's is committed already, it is
the coming period's, which commits before that period starts where its counter value there is below 3. -/
def State.commitEdge (s : State) (p : Nat) (e : PwmEdge) : State :=
  let w := s.pwm.at p
  if !w.run then s
  else if e ∉ w.fixed then s.updPwm p fun w => { w with fixed := insOnce w.fixed e }
  else
    let x := s.nextEdge p e
    if x.2 < 3 ∧ (w.held.all fun h => decide (h.1 ≠ e)) = true then
      s.updPwm p fun w => { w with held := (e, x.1) :: w.held }
    else s

/-- PWM_EDGE_COMMIT (R84). -/
def execPwmEdgeCommit (p : Fin 12) (e : PwmEdge) (s : State) : Out := .next (s.commitEdge p e)

/-- The reference an edge moves goes high (R75 to R79): the down-count edges of CENTRE and the lagging
leg's first edge of PSFB rise, every other falls. -/
def edgeRises (mode p : Nat) (e : PwmEdge) : Bool :=
  match e with
  | .aUp => decide (mode = 2 ∧ p % 2 = 1)
  | .bUp => false
  | .aDown => decide (mode = 1)
  | .bDown => decide (mode = 1)

/-- Is there such an edge in the period (R75 to R80)? A compare of 0 gives no pulse, one at or above the
period no edge. In CENTRE mode each half has its own edge (R76, R85). -/
def Pwm.hasEdge (w : Pwm) (p : Nat) (e : PwmEdge) : Bool :=
  let x := w.pos
  match w.mode, e with
  | 1, .aUp => decide (0 < x.aUp) && decide (2 * x.aUp < x.endp)
  | 1, .aDown => decide (x.endp < 2 * x.aDown) && decide (x.aDown < x.endp)
  | 1, .bUp => w.indep && decide (0 < x.bUp) && decide (2 * x.bUp < x.endp)
  | 1, .bDown => w.indep && decide (x.endp < 2 * x.bDown) && decide (x.bDown < x.endp)
  | 2, .aUp => decide (0 < x.aUp) && decide (x.aUp < x.endp)
  | 2, .aDown => decide (p % 2 = 1) && decide (x.aDown < x.endp)
  | _, .aUp => decide (0 < x.aUp) && decide (x.aUp < x.endp)
  | _, .bUp => w.indep && decide (0 < x.bUp) && decide (x.bUp < x.endp)
  | _, _ => false

/-- The outputs of pair `p` follow its references: it runs, and no idle level holds it (R78, R92). -/
def State.scheduled (s : State) (p : Nat) : Bool := (s.pwm.at (s.leader p)).run && !(s.pwm.at p).idle

/-- The references of pair `p` move: its outputs follow them, or it is shed, which leaves its events as they are
(R92). -/
def State.runsRefs (s : State) (p : Nat) : Bool :=
  s.scheduled p || ((s.pwm.at (s.leader p)).run && s.flag (R.PWM_STAT_SHED p) && !s.flag (R.PWM_STAT_SKIP p)
    && !s.bleedHeld p && !(decide ((s.pwm.at p).mode = 2) && !s.psfbCouple p))

/-- A reference moves, and the outputs with it where they follow. -/
def State.moveRef (s : State) (p : Nat) (outB up : Bool) : State :=
  if s.scheduled p then (if outB then s.refB p up else s.refA p up)
  else s.updPwm p fun w => if outB then { w with bRef := up } else { w with aRef := up }

/-- The compare event of output A or B (R87): none while the pair is tripped, none in PSFB. -/
def State.compareEvent (s : State) (p : Nat) (outB : Bool) : State :=
  if s.flag (R.TRP_STAT_TRIPPED p) || decide ((s.pwm.at p).mode = 2) then s
  else if outB then s.raiseIf (s.flag (R.PWM_IE_CMPBIE p)) (4 * p + 2)
  else s.raiseIf (s.flag (R.PWM_IE_CMPAIE p)) (4 * p + 1)

/-- An edge of a reference is taken (R75 to R81, R86, R87). -/
def State.takeEdge (s : State) (p : Nat) (e : PwmEdge) : State :=
  let w := s.pwm.at p
  let up := edgeRises w.mode p e
  let outB := decide (e = .bUp ∨ e = .bDown)
  if !s.runsRefs p || !w.hasEdge p e || (decide (w.mode = 4) && w.ctDone)
      || decide ((if outB then w.bRef else w.aRef) = up) then s
  else
    let s := s.showCount p (w.pos.of (some e))
    (s.moveRef p outB up).compareEvent p outB

/-- PWM_COMPARE_EDGE (R75). -/
def execPwmCompareEdge (p : Fin 12) (e : PwmEdge) (s : State) : Out := .next (s.takeEdge p e)

/-- The peak of a centre-aligned counter (R76, R83): with SHPEAK the shadow set comes into force, and the
positions still to come move to their new places. The levels follow at once, also where the transfer moves the top
of the count (DESIGN CHOICE, assumption 67: R76 does not say what a new PER does there). -/
def State.peak (s : State) (p : Nat) : State :=
  let s := (s.set (R.PWM_CNT_CNT p) (s.perNow p / 32)).set (R.PWM_CNT_DOWN p) 1
  if !s.flag (R.PWM_CTRL_SHPEAK p) || s.flag (R.PWM_CTRL_UPDMODE p) || s.flag (R.PWM_CTRL_SHHOLD p) then s
  else
    let old := (s.pwm.at p).pos
    let s := (s.shadowIn p).placeEdges p
    let s := s.updPwm p fun w => { w with pos := { w.pos with aUp := old.aUp, bUp := old.bUp } }
    if s.scheduled p then s.levelsAt p (s.perNow p / 32 * 32) false else s

/-- PWM_CENTRE_PEAK (R76). -/
def execPwmCentrePeak (p : Fin 12) (s : State) : Out :=
  .next (if (s.pwm.at p).run && decide ((s.pwm.at p).mode = 1) then s.peak p else s)

/-- A counter reaches TRG0 or TRG1 in a direction (R87): a value the counter never takes has no event. -/
def State.trgCompare (s : State) (p t : Nat) (down : Bool) : State :=
  let w := s.pwm.at p
  let v := w.trg t down
  let top := s.perNow (s.leader p)
  let reach := if w.mode = 1 then decide (v ≤ top / 32) else decide (32 * v < top + w.res)
  if !(s.pwm.at (s.leader p)).run || s.bleedHeld p || !reach || decide (down ∉ s.trgDirs p t) then s
  else
    let s := (s.set (R.PWM_CNT_CNT p) v).setB (R.PWM_CNT_DOWN p) down
    s.fire [12 + 12 * t + p]

/-- PWM_TRIGGER_COMPARE (R87). -/
def execPwmTriggerCompare (p : Fin 12) (t : Fin 2) (down : Bool) (s : State) : Out :=
  .next (s.trgCompare p t down)

/-- PWM_CT_TERMINATION (R79): while CTCMP's output is high, A's reference falls once; the edge at CMPA is
then not taken. -/
def execPwmCtTermination (p : Fin 12) (s : State) : Out :=
  let w := s.pwm.at p
  .next (if s.runsRefs p && decide (w.mode = 4) && w.aRef && !w.ctDone && s.flag (R.CMP_STAT_OUT w.ctcmp) then
      (let s := s.updPwm p fun w => { w with ctDone := true }
       (s.moveRef p false false).compareEvent p false)
    else s)

/-- PWM_DEAD_TIME_EXPIRY (R81): the delayed output rises, if it still waits. -/
def execPwmDeadTimeExpiry (p : Fin 12) (outB : Bool) (s : State) : Out :=
  let w := s.pwm.at p
  .next (if outB then
      (if w.bWait then (s.updPwm p fun w => { w with bWait := false }).outB p .high else s)
    else if w.aWait then (s.updPwm p fun w => { w with aWait := false }).outA p .high
    else s)

/-! ### Adaptive dead time (R82) -/

/-- Adaptive dead time runs on a running pair (R82, R98). -/
def State.adtRuns (s : State) (p : Nat) : Bool := s.adtOn p && (s.pwm.at p).run

/-- ADT_SWITCH_NODE_TRANSITION (R82): the first transition seen within ADTMAX + 4 cycles gives TF or TR. -/
def execAdtSwitchNodeTransition (p : Fin 12) (fall : Bool) (count : Nat) (s : State) : Out :=
  .next (if s.adtRuns p && decide (32 * count ≤ s.get (R.PWM_ADTMAX p) + 128) then
      s.updPwm p fun w => if fall then { w with tf := w.tf.orElse fun _ => some count }
        else { w with tr := w.tr.orElse fun _ => some count }
    else s)

/-- ADT_MISS_TIMEOUT (R82). -/
def execAdtMissTimeout (p : Fin 12) (fall : Bool) (s : State) : Out :=
  let w := s.pwm.at p
  .next (if s.adtRuns p && (if fall then w.tf.isNone else w.tr.isNone) then
      s.set (R.PWM_STAT_ADTMISS p) 1 else s)

/-! ### Writes -/

/-- The address of a pair's value register. -/
def pwmRegAddr (p : Nat) : PwmReg → Nat
  | .per => 0x8004 + 0x400 * p
  | .cmpa => 0x8008 + 0x400 * p
  | .cmpb => 0x800C + 0x400 * p
  | .phase => 0x8010 + 0x400 * p
  | .dtr => 0x8014 + 0x400 * p
  | .dtf => 0x8018 + 0x400 * p
  | .trg => 0x801C + 0x400 * p

/-- The values a register of a pair holds under the update mode (R83). -/
def pwmRegFields : PwmReg → List PwmField
  | .per => [.per]
  | .cmpa => [.cmpa]
  | .cmpb => [.cmpb]
  | .phase => [.phase]
  | .dtr => []
  | .dtf => []
  | .trg => [.trg0, .trg1]

/-- A write of a pair's value (R83, R85): in SHADOW mode it is the shadow; in GUARDED-IMMEDIATE mode of a
running pair it becomes active where the counter is `n`, or waits for the loader. DTR and DTF are always
shadowed and are the nominal values adaptation restarts from (R61). -/
def State.writePwmVal (s : State) (q : Who) (p : Nat) (r : PwmReg) (v : Nat) (n : Option Nat) : State :=
  let s := s.writeReg q (pwmRegAddr p r) v
  let s := s.updPwm p fun w => { w with nomR := w.nomR || decide (r = .dtr), nomF := w.nomF || decide (r = .dtf) }
  let s := (pwmRegFields r).foldl (fun s f => s.writeField p f (s.written p f) none) s
  if !(s.pwm.at p).run || !s.flag (R.PWM_CTRL_UPDMODE p) then s
  else
    let ds : List PwmLoad := (pwmRegFields r).map fun f => { fld := f, val := s.written p f }
    match n with
    | some n => ds.foldl (fun s d => s.guardLoad p n d) s
    | none => s.updPwm p fun w => { w with loads := w.loads ++ ds }

/-- A read of PWMp_CNT (Table 4.9): the count of a running pair between its events is open within its period
(assumption 12). -/
def State.readPwmCnt (s : State) (q : Req) (p : Nat) : State :=
  let a := 0x8044 + 0x400 * p
  if (s.pwm.at (s.leader p)).run then
    let x := s.freeN
    let t := x.1 % ((s.perLen p + (s.pwm.at p).res) / 32)
    x.2.reply q .ok ((s.showCount p (32 * t - (s.pwm.at p).res)).readReg a)
  else s.reply q .ok (s.readReg a)

/-- PWM_SHADOW_WRITE (R83). -/
def execPwmShadowWrite (q : Who) (p : Fin 12) (r : PwmReg) (v : Word) (s : State) : Out :=
  .next (s.via q.req 6 fun s => s.writePwmVal q p r v.toNat none)

/-- PWM_GUARDED_WRITE (R85): the write becomes active where the counter is `n`. -/
def execPwmGuardedWrite (q : Who) (p : Fin 12) (r : PwmReg) (v : Word) (n : Nat) (s : State) : Out :=
  .next (s.via q.req 6 fun s => s.writePwmVal q p r v.toNat (some n))

/-- The loader takes the first value that waits, where the counter is `n` (R59, R84). -/
def State.loadNext (s : State) (p n : Nat) : State :=
  match (s.pwm.at p).loads with
  | [] => s
  | d :: ds => (s.updPwm p fun w => { w with loads := ds }).guardLoad p n d

/-- PWM_VALUE_LOAD (R84). -/
def execPwmValueLoad (p : Fin 12) (n : Nat) (s : State) : Out := .next (s.loadNext p n)

/-- PWM_ENABLE (R89). -/
def execPwmEnable (q : Who) (p : Fin 12) (v : Word) (s : State) : Out :=
  .next (s.via q.req 6 fun s => fireAll (s.writePwmCtrl q p v.toNat))

/-- A write of PWMp_SAFE: the effective states follow (R97). -/
def State.writePwmSafe (s : State) (q : Who) (p v : Nat) : State :=
  let s := s.writeReg q (0x802C + 0x400 * p) v
  (s.set (R.PWM_SAFE_EFFA p) (safer (s.get (R.PWM_SAFE_FUSEA p)) (s.get (R.PWM_SAFE_SAFEA p)))).set
    (R.PWM_SAFE_EFFB p) (safer (s.get (R.PWM_SAFE_FUSEB p)) (s.get (R.PWM_SAFE_SAFEB p)))

/-! ### Trips (R93 to R96, R102) -/

/-- TZ ball `t` stands at level `lvl`: active where that is its POL (R96). -/
def TripSt.seen (x : TripSt) (t : Nat) (lvl pol : Bool) : TripSt :=
  { x with
    ball := (t, lvl) :: x.ball.filter fun b => decide (b.1 ≠ t)
    tz := if lvl = pol then insOnce x.tz t else without x.tz t }

/-- A TZ ball at level `lvl` (R96): an active pulse of 2 ns or more latches, one below 1 ns never does,
one between is open. `ps` is the length of the level in picoseconds. The GPIO extensions reach the trip
path as the balls do. -/
def State.tzInput (s : State) (t : Nat) (lvl : Bool) (ps : Nat) : State × List Nat :=
  let pol := s.bit R.TRP_TZCFG_POL t
  if lvl = pol then
    (if ps < 1000 then (s, [])
     else
       let (take, s) := if ps < 2000 then s.freeB else (true, s)
       if take then { s with trip := s.trip.seen t lvl pol }.judgeTrips else (s, []))
  else ({ s with trip := s.trip.seen t lvl pol }, [])

/-- The TZ balls under the POL that stands now (R96): a steady level becomes active or inactive with it. -/
def State.tzAgain (s : State) : State :=
  { s with trip := s.trip.ball.foldl (fun x b => x.seen b.1 b.2 (s.bit R.TRP_TZCFG_POL b.1)) s.trip }

/-- A write of the trip frame's configuration is judged on the levels that stand (R93, R96). -/
def State.writeTrip (s : State) (q : Who) (a v : Nat) : State := fireAll (s.writeReg q a v).tzAgain.judgeTrips

/-- TRIP_ZONE_INPUT (R94, R96). -/
def execTripZoneInput (t : Fin 14) (lvl : Bool) (ps : Nat) (s : State) : Out :=
  .next (if s.on 6 then fireAll (s.tzInput t lvl ps) else s)

/-- A write of TRP_SWTRIP (R102): a bit in both masks leaves the source set. -/
def State.softTrip (s : State) (setm clrm : Nat) : State :=
  fireAll { s with trip := { s.trip with sw := (s.trip.sw &&& (0xFFF ^^^ clrm)) ||| setm } }.judgeTrips

/-- SOFTWARE_TRIP_SET (R102). -/
def execSoftwareTripSet (q : Who) (setm clrm : BitVec 12) (s : State) : Out :=
  .next (s.via q.req 6 fun s => s.softTrip setm.toNat clrm.toNat)

/-- SOFTWARE_TRIP_CLEAR (R102). -/
def execSoftwareTripClear (q : Who) (clrm setm : BitVec 12) (s : State) : Out :=
  .next (s.via q.req 6 fun s => s.softTrip setm.toNat clrm.toNat)

/-- A write of 1 to TRPp_STAT.CLR counts while the pair is tripped alone (R95). -/
def State.clearTrip (s : State) (p : Nat) : State :=
  if s.flag (R.TRP_STAT_TRIPPED p) then s.updPwm p fun w => { w with clr := true } else s

/-- TRIP_CLEAR_REQUEST (R95). -/
def execTripClearRequest (q : Who) (p : Fin 12) (s : State) : Out :=
  .next (s.via q.req 6 fun s => s.clearTrip p)

end Sys2Proof.Machine
end

