-- ==== Sys2Proof/Machine/GovernorRows.lean ====
section
/-!
DEFINITION. The energy governor, the levelling adaptor and the capacitance measurement (chapter 05).
Energies are in microjoules, the charge in units of 2^(-20) µC.
-/

namespace Sys2Proof.Machine

/-! ### Limits (R106, R118) -/

/-- A fused limit and a software limit, where 0 is none: the smaller of the ones that stand (R106). -/
def minLimit (fused soft : Nat) : Option Nat :=
  if fused = 0 ∧ soft = 0 then none else if fused = 0 then some soft
  else if soft = 0 then some fused else some (min fused soft)

/-- The effective ceiling (R106). -/
def State.govCeil (s : State) : Option Nat := minLimit (10000 * s.get R.EGV_FLIM_EMAX) (s.get R.EGV_ECEIL)

/-- The effective floor (R106). -/
def State.govFloor (s : State) : Nat := max (10000 * s.get R.EGV_FLIM_EZMIN) (s.get R.EGV_EFLOOR)

/-- The effective released-energy limit (R109). -/
def State.govRlim (s : State) : Option Nat := minLimit (10000 * s.get R.EGV_FREL_RMAX) (s.get R.EGV_RLIM)

/-- The limits overlap and the ceiling prevails (R116): a fused maximum counts where it is present. -/
def State.govOverlap (s : State) : Bool :=
  (match s.govCeil with
    | some c => decide (c ≤ s.govFloor + s.get R.EGV_LVLFLM + s.get R.EGV_EHYS)
    | none => false)
  || (decide (s.get R.EGV_FLIM_EMAX ≠ 0) && decide (s.get R.EGV_FLIM_EMAX ≤ s.get R.EGV_FLIM_EZMIN))

/-! ### Energies (R104, R105, R117) -/

/-- The voltage of a code in units of 2^(-40) V (R104). -/
def State.govVolt (s : State) (c : Nat) : Int := c * (2 ^ 20 + s.gets R.RFM_GCORR) * s.get R.EGV_FVSCALE

/-- E_HI: half the larger capacitance times the square of the voltage, rounded up (R104). -/
def State.energyHi (s : State) (c : Nat) : Nat :=
  let v := s.govVolt c
  let cm := s.get R.EGV_CMEAS
  let cn := s.get R.EGV_FCAP
  (-((-((max cn cm : Nat) * (v * v))).fdiv (2 ^ 81))).toNat

/-- E_LO: half the smaller capacitance times the square of the voltage, truncated (R104). -/
def State.energyLo (s : State) (c : Nat) : Nat :=
  let v := s.govVolt c
  let cm := s.get R.EGV_CMEAS
  let cn := s.get R.EGV_FCAP
  (((if cm = 0 then cn else min cn cm : Nat) * (v * v)).fdiv (2 ^ 81)).toNat

/-- The ball a slot's selection reads, single-ended or as the positive input (R105, Table 2.1). -/
def slotBall (slot sel : Nat) : Option Nat :=
  if sel < 3 then some (3 * (slot / 4) + sel) else if sel = 3 then some (3 * (slot / 4)) else none

/-- The sample at hand is valid (R105, R117): the result of its own trigger has come, PD7 is on, its aperture opened on
the fused ball, and the fused scale and capacitance are there. -/
def State.govValid (s : State) : Bool :=
  s.on 7 && decide (s.get R.EGV_FVSCALE ≠ 0) && decide (s.get R.EGV_FCAP ≠ 0)
    && (match s.gov.vGot with
        | some (_, sel) => decide (24 ≤ s.get R.EGV_FREL_VAIN)
            || decide (slotBall (s.get R.EGV_CFG_VSLOT) sel = some (s.get R.EGV_FREL_VAIN))
        | none => false)

/-- The magnitude of the code of the sample at hand (R104). -/
def State.govCode (s : State) : Nat :=
  match s.gov.vGot with
  | some (c, _) => c.natAbs
  | none => 0

/-! ### Actions (R107 to R109) -/

/-- An event flag of EGV_STAT with its interrupt, at the beginning of an action. -/
def State.govFlag (s : State) (f : Fld) (n : Nat) : State := (s.set f 1).raise n

/-- The charging lane is inhibited while either inhibit is in force (R62, R107, R118). -/
def State.inhibit (s : State) : State :=
  let b := s.gov.startInh || s.gov.ceilInh
  (s.setB R.EGV_STAT_INHIB b).setB (R.LN_STAT_INHIB (s.get R.EGV_CFG_CHLANE)) b

/-- The bleed pair starts with a period start, whatever its EN and GSARM hold (R107). -/
def State.bleedStart (s : State) : State × List Nat :=
  let p := s.get R.EGV_CFG_BLDPAIR
  ((s.set R.EGV_STAT_BLEED 1).startValues p).periodStart p true

/-- The bleed releases: the pair holds its outputs low (R107), and waits again where GSARM says so. -/
def State.bleedStop (s : State) : State :=
  let p := s.get R.EGV_CFG_BLDPAIR
  if s.flag R.EGV_STAT_BLEED then
    let wait := s.flag (R.PWM_CTRL_EN p) && s.flag (R.PWM_CTRL_GSARM p)
    (((s.set R.EGV_STAT_BLEED 0).setB (R.PWM_STAT_GSWAIT p) wait).updPwm p fun w =>
      { w with run := s.flag (R.PWM_CTRL_EN p) && !wait }).idleOut p
  else s

/-- The pairs a governor trip holds (R107 to R109): never the bleed pair. -/
def State.govTrips (s : State) : Nat :=
  let b := s.get R.EGV_CFG_BLDPAIR
  let m := (if s.gov.condCeil then s.get R.EGV_CHGMAP else 0)
    ||| (if s.gov.condFloor || s.gov.condRel then s.get R.EGV_LOADMAP else 0)
  if b < 12 then m &&& (0xFFF ^^^ 2 ^ b) else m

/-- Put the governor trip in force and judge the pairs (R93); vendor firmware journals each of the `began` trips that
begin here (R117). -/
def State.govApply (s : State) (began : Nat) : State × List Nat :=
  let s := { s with trip := { s.trip with gov := s.govTrips } }
  let s := (List.range began).foldl (fun s _ => s.journal 117 [s.trip.gov]) s
  let s := s.setB R.EGV_STAT_TRIPPED (s.gov.condCeil || s.gov.condFloor || s.gov.condRel)
  s.judgeTrips

/-- The ceiling actions of one sample (Table 5.2): answers the Heddle sources fired and whether an action
began. `beyond` is E_HI above the ceiling, or MEASFAIL (R117). -/
def State.govCeiling (s : State) (beyond : Bool) : State × List Nat × Bool :=
  let g := s.gov
  let free := !s.flag R.EGV_STAT_MEASFAIL && (match s.govCeil with
    | some c => decide (g.eHi + s.get R.EGV_EHYS ≤ c)
    | none => true)
  let s := { s with gov := { g with above := beyond } }
  let held := g.ceilInh
  if held && free then
    let s := { s.bleedStop with gov := { s.gov with ceilInh := false, condCeil := false, inhibSamples := 0 } }
    (s.inhibit, [], false)
  else
    let s : State := if held then { s with gov := { s.gov with inhibSamples := s.gov.inhibSamples + 1 } } else s
    let start := !held && beyond
    let s : State := if start then
        (let s := s.govFlag R.EGV_STAT_CEIL 128
         { s with gov := { s.gov with ceilInh := true, inhibSamples := 0 } }.inhibit)
      else s
    if s.gov.ceilInh && beyond && !s.flag R.EGV_STAT_BLEED && decide (s.get R.EGV_CFG_BLDPAIR < 12)
        && decide (s.get R.EGV_CFG_BLDLY ≤ s.gov.inhibSamples) then
      (let r := s.bleedStart; (r.1, r.2, true))
    else (s, [], start)

/-- The floor actions of one sample (R108, R116, R117). Before the first valid sample there is no energy to compare, and
no floor or ceiling comparison is made (DESIGN CHOICE, assumption 67: R117 repeats the last valid values alone). -/
def State.govFloorAct (s : State) : State × Bool :=
  let laps := s.govOverlap
  let s := s.setB R.EGV_STAT_LIMERR laps
  if laps then ({ s.set R.EGV_STAT_FLOOROVR 0 with gov := { s.gov with condFloor := false } }, false)
  else if s.flag R.EGV_STAT_MEASFAIL || !s.gov.everValid then (s, false)
  else
    let l := s.gov.eLo
    let fl := s.govFloor
    let m := s.get R.EGV_LVLFLM
    let (s, a) := if s.flag R.EGV_STAT_FLOOROVR then
        ((if fl + 2 * m ≤ l then s.set R.EGV_STAT_FLOOROVR 0 else s), false)
      else if l ≤ fl + m then ((s.set R.EGV_STAT_FLOOROVR 1).govFlag R.EGV_STAT_FLOOR 129, true)
      else (s, false)
    let (s, b) := if s.gov.condFloor then
        ((if fl + m ≤ l then { s with gov := { s.gov with condFloor := false } } else s), false)
      else if l < fl then
        ({ s.govFlag R.EGV_STAT_FLRTRIP 129 with gov := { s.gov with condFloor := true } }, true)
      else (s, false)
    (s, a || b)

/-- The released-energy action of one sample (R109). -/
def State.govRelAct (s : State) : State × Bool :=
  let rel := s.get R.EGV_REL
  match s.govRlim with
  | none => ({ s with gov := { s.gov with condRel := false } }, false)
  | some r =>
    if s.gov.condRel then ((if rel ≤ r then { s with gov := { s.gov with condRel := false } } else s), false)
    else if r < rel then
      ({ s.govFlag R.EGV_STAT_RELTRIP 130 with gov := { s.gov with condRel := true } }, true)
    else (s, false)

/-! ### Levelling adaptor (R110, R111) -/

/-- Saturation to a signed 48-bit value (R110). -/
def sat48 (x : Int) : Int := satS 48 x

/-- A product with a constant num/den, truncated to the fraction bits its operand has (R110). -/
def mulTrunc (x num den : Int) : Int := (x * num).fdiv den

/-- p for a reference of the lane: bound ÷ WGAIN with 32 fraction bits, 0 where WGAIN is 0 (R111). -/
def State.pOf (s : State) (b : Int) : Int :=
  let w := s.get R.EGV_LVLWGAIN
  if w = 0 then 0 else sat48 ((b * 2 ^ 33).fdiv w)

/-- A = p × WGAIN, truncated to 23 fraction bits (R110). -/
def State.aOf (s : State) (p : Int) : Int := (p * s.get R.EGV_LVLWGAIN).fdiv (2 ^ 33)

/-- One integration step (R110): 4τ is the numerator of τ in quarters. -/
def State.integrate (s : State) : Int × Int :=
  let sel := s.get R.EGV_LVLCFG_TAUSEL
  let t4 : Int := 2 ^ (if 5 ≤ sel then 2 else sel)
  let g := s.gov
  let eps := mulTrunc (((s.get R.EGV_LVLSET : Int) - g.eHi) * 2 ^ 32) 1 1000000
  let dm := mulTrunc g.m (-12) t4 + mulTrunc eps (-512) (t4 * t4 * t4)
  let m := sat48 (g.m + mulTrunc dm 1 1000000)
  let dp := mulTrunc eps 48 (t4 * t4) + m
  (m, sat48 (g.p + mulTrunc dp 1 1000000))

/-- Show the adaptor state in mW and mW/s (Table 5.4). -/
def State.showAdaptor (s : State) : State :=
  (s.sets R.EGV_LVLP (satS 32 ((s.gov.p * 1000).fdiv (2 ^ 32)))).sets R.EGV_LVLM
    (satS 32 ((s.gov.m * 1000).fdiv (2 ^ 32)))

/-- ALVL takes the value `v` within its bounds (R61, R111); a clamp counts in the levelling lane and loads the state at
the bound. -/
def State.boundLevel (s : State) (v : Int) : State :=
  let lo := s.gets R.EGV_LVLRMIN
  let hi := s.gets R.EGV_LVLRMAX
  if v < lo ∨ hi < v then
    let b := if v < lo then lo else hi
    let s := (s.sets R.EGV_LVLREF b).conflict (s.get R.EGV_LVLCFG_LANE)
    { s with gov := { s.gov with p := s.pOf b, m := 0, clamped := true } }
  else { s.sets R.EGV_LVLREF v with gov := { s.gov with clamped := false } }

/-- ALVL takes a value (R111): slew, then the bounds. -/
def State.level (s : State) (a : Int) : State :=
  let old := s.gets R.EGV_LVLREF
  let sl : Int := s.get R.EGV_LVLSLEW
  s.boundLevel (if sl = 0 then a else satI (old - sl) (old + sl) a)

/-- A nominal write of the levelling lane's reference loads p and m at this sample (R111). -/
def State.nomLoad (s : State) : State :=
  if s.gov.nomWrite then
    { s with gov := { s.gov with
        nomWrite := false, p := s.pOf (s.gets (R.LN_REF (s.get R.EGV_LVLCFG_LANE))), m := 0 } }
  else s

/-- One update of the adaptor (R108, R110, R111, R117): the governor's override; held while MEASFAIL or FRZLVL is set,
when a bound alone moves ALVL (R61) and a nominal write waits for the next update (R61); a nominal write; and at a
valid sample one integration. -/
def State.adapt (s : State) (valid : Bool) : State :=
  let k := s.get R.EGV_LVLCFG_LANE
  let s := if s.flag R.EGV_STAT_FLOOROVR then
      (let b := s.gets R.EGV_LVLRMAX
       { s.sets R.EGV_LVLREF b with gov := { s.gov with p := s.pOf b, m := 0, nomWrite := false } })
    else if s.flag R.EGV_STAT_MEASFAIL then s
    else if s.flag (R.LN_CTRL_FRZLVL k) then (if valid then s.boundLevel (s.gets R.EGV_LVLREF) else s)
    else if !valid then s.nomLoad
    else if s.gov.nomWrite then
      (let s := s.nomLoad
       s.level (s.aOf s.gov.p))
    else
      (let (m, p) := s.integrate
       let s := { s with gov := { s.gov with m := m, p := p } }
       s.level (s.aOf p))
  s.showAdaptor

/-! ### Capacitance measurement (R113, R114). Phase 0 before the first code, 1 below VA, 2 measuring, 3 ended. -/

/-- The measurement ends. -/
def State.capEnd (s : State) (f : Fld) : State :=
  { s.govFlag f 131 with gov := { s.gov with cmPhase := 3, qMark := none } }

/-- A measured capacitance below 0.8 × CNOM (R114). -/
def State.capCheck (s : State) : State :=
  let c := s.get R.EGV_CMEAS
  if c ≠ 0 ∧ 10 * c < 8 * s.get R.EGV_FCAP then s.govFlag R.EGV_STAT_BSVC 131 else s

/-- A valid code `c` reaches the measurement (R113). VB at or below VA gives no value. -/
def State.capSample (s : State) (c : Nat) : State :=
  let va := s.get R.EGV_CMCFG_VA
  let vb := s.get R.EGV_CMCFG_VB
  if !s.flag R.EGV_CMCFG_EN || decide (s.gov.cmPhase = 3) then s
  else if s.gov.cmPhase = 0 ∧ va ≤ c then s.capEnd R.EGV_STAT_CMSKIP
  else
    let s := if s.gov.cmPhase = 2 then s
      else if va ≤ c then { s with gov := { s.gov with cmPhase := 2, charge := 0 } }
      else { s with gov := { s.gov with cmPhase := 1 } }
    if s.gov.cmPhase = 2 ∧ vb ≤ c then
      let den : Int := ((vb : Int) - va) * s.get R.EGV_FVSCALE
      if den ≤ 0 then s.capEnd R.EGV_STAT_CMSKIP
      else ((s.set R.EGV_CMEAS (satI 0 0xFFFFF (s.gov.charge.fdiv den)).toNat).capEnd R.EGV_STAT_CMDONE).capCheck
    else s

/-- The charge of the last sample's current is added, or the measurement ends because the result of that sample's own
trigger did not come (R113). -/
def State.capCharge (s : State) : State :=
  match s.gov.qMark with
  | none => s
  | some _ =>
    if s.gov.cmPhase ≠ 2 then s
    else match s.gov.qGot with
      | none => s.capEnd R.EGV_STAT_CMSKIP
      | some c => { s with gov := { s.gov with charge := s.gov.charge + c * s.get R.EGV_QSCALE } }

/-! ### The rows -/

/-- The measurement of one sample (R104, R113, R117, Table 5.1). E_HI, E_LO and REL above 28 bits show as the largest value
of their registers, and the limits are compared with the full value (DESIGN CHOICE, assumption 67: R104 and Table 5.4
state no saturation). -/
def State.govMeasure (s : State) : State :=
  let valid := s.govValid
  let c := s.govCode
  let s := { s with gov := { s.gov with vMark := none, vGot := none, valid := valid } }
  let s := if valid then
      (let g := { s.gov with
         invalid := 0, everValid := true, startInh := false, eHi := s.energyHi c, eLo := s.energyLo c }
       ({ s with gov := g }.inhibit.set R.EGV_STAT_MEASFAIL 0).capSample c)
    else
      (let s := { s with gov := { s.gov with invalid := s.gov.invalid + 1 } }
       if s.gov.invalid = 9 ∧ s.govActive then s.govFlag R.EGV_STAT_MEASFAIL 131 else s)
  let s := (s.set R.EGV_EHI (satN (2 ^ 28 - 1) s.gov.eHi)).set R.EGV_ELO (satN (2 ^ 28 - 1) s.gov.eLo)
  let s := { s with gov := { s.gov with hist := (s.gov.eHi :: s.gov.hist).take 1001 } }
  s.set R.EGV_REL (satN (2 ^ 28 - 1) (s.gov.hist.getD 1000 0 - s.gov.eHi))

/-- The energy is above the ceiling, or cannot be measured (R105, R117). -/
def State.govBeyond (s : State) : Bool :=
  s.flag R.EGV_STAT_MEASFAIL || (s.gov.everValid && (match s.govCeil with
    | some c => decide (c < s.gov.eHi)
    | none => false))

/-- The actions of an active governor on the sample just taken, and the sources they fire. -/
def State.govActs (s : State) : State × List Nat :=
  let c0 := s.gov
  let (s, e1, b1) := s.govCeiling s.govBeyond
  let (s, b2) := s.govFloorAct
  let (s, b3) := s.govRelAct
  let began := b2n (s.gov.condFloor && !c0.condFloor) + b2n (s.gov.condRel && !c0.condRel)
  let (s, e2) := s.govApply began
  (s, e1 ++ e2 ++ (if b1 || b2 || b3 then [125] else []))

/-- The computation of one sample (R104 to R117, Table 5.1): the measurement, the actions while the governor is active,
the adaptor, and the sources they fire. -/
def State.govCompute (s : State) : State :=
  let t := s.govMeasure
  let r := if s.govActive then t.govActs else (t, [])
  ((r.1.adapt t.gov.valid).govJudge).fire r.2

/-- The governor starts (R113, R118, R120): the adaptor from its nominal value, the charging lane
inhibited while the governor is active until the first valid sample. -/
def State.govStart (s : State) (boot : Bool) : State :=
  let k := s.get R.EGV_LVLCFG_LANE
  let ph := if boot && s.flag R.EGV_CMCFG_EN then 0 else 3
  let s := { s with gov := { started := true, p := s.pOf (s.gets (R.LN_REF k)), cmPhase := ph } }
  let s := s.sets R.EGV_LVLREF (max (s.gets R.EGV_LVLRMIN) (min (s.gets R.EGV_LVLRMAX) (s.aOf s.gov.p)))
  let s := { s with gov := { s.gov with startInh := s.govActive } }.inhibit
  let b := s.get R.EGV_CFG_BLDPAIR
  let s := if s.govActive && decide (b < 12) then s.idleOut b else s
  s.capCheck.showAdaptor.govJudge

/-- The aperture of `slot` that a trigger now will open; 0 where the trigger is dropped (R25, R42). -/
def State.govMark (s : State) (slot : Nat) : Nat :=
  if s.adcTakes (slot / 4) (slot % 4) then (s.res.at slot).opens + 1 else 0

/-- A sample instant of the governor (R104, R113, R117): a sample whose result has not come is computed as
invalid first; the triggers of the voltage slot and of the charge slot, in ascending order, and source 124. A charge
slot that is the voltage slot is triggered once. -/
def State.govSample (s : State) : State :=
  let s := if s.gov.vMark.isSome then s.govCompute else s
  let s := s.capCharge
  let vs := s.get R.EGV_CFG_VSLOT
  let cs := s.get R.EGV_CMCFG_CMSLOT
  let cm := s.flag R.EGV_CMCFG_EN && decide (s.gov.cmPhase ≠ 3)
  let s := { s with gov := { s.gov with
    vMark := some (s.govMark vs), vGot := none
    qMark := if cm then some (s.govMark cs) else none, qGot := none } }
  let lo := if cm then min vs cs else vs
  let s := s.adcTrigger (lo / 4) (lo % 4)
  let s := if cm && decide (vs ≠ cs) then s.adcTrigger (max vs cs / 4) (max vs cs % 4) else s
  s.fire [124]

/-- GOVERNOR_SAMPLE (R104): at a pick boundary at which TB mod 125 is 0, once the Loom is configured. -/
def execGovernorSample (s : State) : Out :=
  .next (if s.gov.started && s.on 6 && decide (s.time.tb.toNat % 125 = 0) then s.govSample else s)

/-- GOVERNOR_COMPUTATION (R107, R117): once for each sample, when its result has come or none can come; a sample whose
result is late is computed at the next sample instant. -/
def execGovernorComputation (s : State) : Out :=
  .next (if s.gov.started && s.on 6 && s.gov.vMark.isSome
      && (s.gov.vGot.isSome || decide (s.gov.vMark = some 0) || !s.on 7) then s.govCompute else s)

/-- GOVERNOR_CEILING_TIMEOUT (R107): E_HI has been above the ceiling for 10 ms. -/
def execGovernorCeilingTimeout (s : State) : Out :=
  .next (if s.gov.started && s.govActive && s.gov.above && s.gov.ceilInh && !s.gov.condCeil then
      (let s := s.govFlag R.EGV_STAT_CEILTRIP 128
       let (s, e) := { s with gov := { s.gov with condCeil := true } }.govApply 1
       s.quality.fire (e ++ [125]))
    else s)

/-- CAP_MEASUREMENT_TIMEOUT (R113). -/
def execCapMeasurementTimeout (s : State) : Out :=
  .next (if s.gov.started && s.flag R.EGV_CMCFG_EN && decide (s.gov.cmPhase ≠ 3) then
      s.capEnd R.EGV_STAT_CMSKIP else s)

end Sys2Proof.Machine
end

