-- ==== Sys2Proof/Machine/Idle.lean ====
section
/-!
DEFINITION. What a step does when no command waits: one pick of 8 ns passes (assumption 5).
-/

namespace Sys2Proof.Machine

/-- A DAC ball has one pick less to settle (R33). -/
def DacSt.tick (d : DacSt) : DacSt := { d with settle := d.settle - 1 }

/-- A lane's run is over: a later trigger finds the lane free (R58). -/
def Lane.cool (l : Lane) : Lane := { l with hot := false }

/-- TB counts at every pick boundary while PD9 is on and no reset is asserted; RTC counts each microsecond,
which is 125 picks, always (R128, R365). The HED_TICK that stands governs source 119 from here (R128). -/
def TimeSt.tick (t : TimeSt) (counts : Bool) (hed : Nat) : TimeSt :=
  { t with
    tb := if counts then t.tb + 1 else t.tb
    rtc := if t.usFrac + 1 < 125 then t.rtc else t.rtc + 1
    usFrac := if t.usFrac + 1 < 125 then t.usFrac + 1 else 0
    hed := hed
    ticked := false }

/-- A timer held by a debug halt of the safe core (R135). -/
def State.tmrFrozen (s : State) (n : Nat) : Bool := s.flag (R.TMR_CTRL_DBGFRZ n) && s.safeHalted

/-- One PERI cycle of a timer that counts (R123, R127): at a tick CNT takes a value written, or advances. A tick from TOP
is the row TMR_OVERFLOW, which the counter awaits there. -/
def State.countTmr (s : State) (n : Nat) : State :=
  let t := s.tmr.at n
  let put (t : Tmr) : State := { s with tmr := s.tmr.put n t }
  if !t.run || s.tmrFrozen n then s
  else if t.psc < s.get (R.TMR_CTRL_PSC n) then put { t with psc := t.psc + 1 }
  else
    match t.load with
    | some v => (put { t with psc := 0, load := none }).set (R.TMR_CNT n) v
    | none => if s.get (R.TMR_CNT n) < t.top then (put { t with psc := 0 }).set (R.TMR_CNT n) (s.get (R.TMR_CNT n) + 1) else s

/-- The intervals of the hold-off groups run on (R254), and a withdrawn candidate can be taken no more (R256). -/
def IcuSt.tick (i : IcuSt) : IcuSt := { i with grp := i.grp.map fun x => (x.1, x.2 + 1), raced := [] }

/-- The pin actions of a PERI edge are over (R125). -/
def Tmr.edgeEnd (t : Tmr) : Tmr := { t with edge := none }

/-- Every timer counts one PERI cycle. -/
def State.countTimers (s : State) : State :=
  (List.range 16).foldl (fun s n => s.countTmr n) { s with tmr := s.tmr.map Tmr.edgeEnd }

/-- One pick with no command: the timebase and RTC count, the timers count, the DAC balls settle, and what holds only
within a pick ends: a lane's run (R58) and a withdrawn interrupt candidate (R256). Everything else that happens in time
is a command of its own. -/
def State.idlePick (s : State) : State :=
  { s with
    time := s.time.tick (s.on 9 && !s.rst.asserted) (s.get R.HED_TICK)
    dac := s.dac.map DacSt.tick
    lane := s.lane.map Lane.cool
    icu := s.icu.tick }.countTimers

end Sys2Proof.Machine
end

