-- ==== Sys2Proof/Machine/TimerRows.lean ====
section
/-!
DEFINITION. The general timers, the timebase, the stagger groups, the global start and the wide values
(chapter 06). The timers count in idle picks (Idle.lean); a row is an event of the counter.
-/

namespace Sys2Proof.Machine

/-! ### Timers -/

/-- Change the internal state of timer `n`. -/
def State.updTmr (s : State) (n : Nat) (f : Tmr → Tmr) : State := { s with tmr := s.tmr.upd n f }

/-- The values written come into force (R127). A TOP of 0 acts as 1 (R137). -/
def State.tmrLoad (s : State) (n : Nat) : State :=
  s.updTmr n fun t => { t with
    top := max 1 (s.get (R.TMR_TOP n)), cmpa := s.get (R.TMR_CMPA n), cmpb := s.get (R.TMR_CMPB n) }

/-- The level a pin action gives, from the level `was` that stood before the edge (R125). -/
def pinLevel (act : Nat) (idle was : Bool) : Bool :=
  match act with
  | 1 => true
  | 2 => false
  | 3 => idle
  | _ => !was

/-- Does this code act (R125)? -/
def pinActs (act : Nat) : Bool := decide (1 ≤ act) && decide (act ≤ 4)

/-- A pin action on the internal TMRIO level (R125): of the actions on one PERI edge the highest-ranked alone is applied
(force 3, overflow 2, CMPB 1, CMPA 0), to the level that stood before the edge. -/
def State.pinAct (s : State) (n rank act : Nat) : State :=
  if !pinActs act then s
  else
    let was := match (s.tmr.at n).edge with
      | some (_, l) => l
      | none => s.flag (R.TMR_STAT_PINLVL n)
    let outranked := match (s.tmr.at n).edge with
      | some (r, _) => decide (rank < r)
      | none => false
    if outranked then s
    else
      (s.updTmr n fun t => { t with edge := some (rank, was) }).setB (R.TMR_STAT_PINLVL n)
        (pinLevel act (s.flag (R.TMR_PIN_IDLE n)) was)

/-- Timer event `e` (0 CMPA, 1 CMPB, 2 overflow, 3 capture): its interrupt under IE and its Heddle source
when EVSEL selects it (R124, Table 6.1). -/
def State.tmrEvent (s : State) (n e : Nat) : State × List Nat :=
  (s.raiseIf (s.bit (R.TMR_CTRL_IE n) e) (88 + n), if s.get (R.TMR_CTRL_EVSEL n) = e then [84 + n] else [])

/-- Timer event `e` with the pin's new level, which the trip path may see (R524). -/
def State.pinEvent (s : State) (n e : Nat) : State × List Nat :=
  let (s, l) := s.tmrEvent n e
  let (s, m) := s.drivenTrips
  (s, l ++ m)

/-- The counter stands at `v` on this edge: a tick that takes it there restarts the prescaler (R123). -/
def State.countAt (s : State) (n v : Nat) : State :=
  if s.get (R.TMR_CNT n) = v then s else (s.updTmr n fun t => { t with psc := 0 }).set (R.TMR_CNT n) v

/-- The counter takes CMPA or CMPB (R124, R125). -/
def State.tmrMatch (s : State) (n : Nat) (b : Bool) : State × List Nat :=
  let t := s.tmr.at n
  let v := if b then t.cmpb else t.cmpa
  if !t.run || s.tmrFrozen n || decide (t.top < v) then (s, [])
  else
    let s := (s.countAt n v).set (if b then R.TMR_STAT_CMPB n else R.TMR_STAT_CMPA n) 1
    (s.pinAct n (b2n b) (s.get (if b then R.TMR_PIN_ACTB n else R.TMR_PIN_ACTA n))).pinEvent n (if b then 1 else 0)

/-- TMR_COMPARE_MATCH (R124). -/
def execTmrCompareMatch (n : Fin 16) (b : Bool) (s : State) : Out := .next (fireAll (s.tmrMatch n b))

/-- The counter goes from TOP to 0 (R124, R127): the event, the shadow transfer, and in ONESHOT the stop. -/
def State.tmrWrap (s : State) (n : Nat) : State × List Nat :=
  if !(s.tmr.at n).run || s.tmrFrozen n then (s, [])
  else
    let s := ((s.updTmr n fun t => { t with psc := 0 }).set (R.TMR_CNT n) 0).set (R.TMR_STAT_OVF n) 1
    let s := (s.pinAct n 2 (s.get (R.TMR_PIN_ACTO n))).tmrLoad n
    let s := if s.get (R.TMR_CTRL_MODE n) = 1 then
        ((s.set (R.TMR_CTRL_EN n) 0).set (R.TMR_STAT_DONE n) 1).updTmr n fun t => { t with run := false }
      else s
    s.pinEvent n 2

/-- TMR_OVERFLOW (R124). -/
def execTmrOverflow (n : Fin 16) (s : State) : Out := .next (fireAll (s.tmrWrap n))

/-- Does CAPEDGE select this edge of the input (R126)? -/
def State.capSelects (s : State) (n : Nat) (rise : Bool) : Bool :=
  !s.flag (R.TMR_CTRL_DIR n) && (match s.get (R.TMR_CTRL_CAPEDGE n) with
    | 0 => false
    | 1 => rise
    | 2 => !rise
    | _ => true)

/-- The level of timer `n`'s ball has held its new value for `held` samples: an edge is recognised at FILT + 1 of them
(R126). -/
def State.edgeHeld (s : State) (n held : Nat) : Bool := decide (held = s.get (R.TMR_CTRL_FILT n) + 1)

/-- A capture (R126): CAP takes the count of this PERI edge, CAPTB the TB of the same pick boundary. CAPCLR clears a
counter that nothing holds (R133, R135), in place of a value that waits to be loaded. The timer sees its ball only while
FUNC is 1 (R523). -/
def State.tmrCapture (s : State) (n : Nat) (rise : Bool) : State × List Nat :=
  if !s.on 6 || !s.capSelects n rise || decide (s.get (R.GPIO_MUX_FUNC n) ≠ 1) then (s, [])
  else
    let held := s.flag (R.TMR_STAT_GSWAIT n) || s.tmrFrozen n
    let clr := s.flag (R.TMR_CTRL_CAPCLR n) && !held
    let s := ((s.set (R.TMR_CAP n) (s.get (R.TMR_CNT n))).updTmr n fun t => { t with captb := s.time.tb }).set
      (R.TMR_STAT_CAP n) 1
    let s := if s.flag (R.TMR_STAT_CAPNEW n) then s.set (R.TMR_STAT_CAPOVR n) 1 else s
    let s := s.set (R.TMR_STAT_CAPNEW n) 1
    let s := if clr then (s.updTmr n fun t => { t with load := none }).set (R.TMR_CNT n) 0 else s
    s.tmrEvent n 3

/-- TMR_CAPTURE (R126). -/
def execTmrCapture (n : Fin 16) (rise : Bool) (held : Nat) (s : State) : Out :=
  .next (if s.edgeHeld n held then fireAll (s.tmrCapture n rise) else s)

/-- An ACTIVE read of TMRn_CAP clears CAPNEW (R126). -/
def State.readTmrCap (s : State) (q : Req) (n : Nat) : State :=
  (s.reply q .ok (s.get (R.TMR_CAP n))).set (R.TMR_STAT_CAPNEW n) 0

/-- TMR_CAPTURE_READ (R126). -/
def execTmrCaptureRead (q : Who) (n : Fin 16) (s : State) : Out :=
  .next (s.via q.req 6 fun s => s.readTmrCap q.req n)

/-- A write of CNT (R127, R133): a running timer loads it on its next tick, with no event there; a timer that waits for
the global start holds START; one that is stopped takes it at once (assumption 27). -/
def State.writeTmrCnt (s : State) (n v : Nat) : State :=
  if (s.tmr.at n).run then s.updTmr n fun t => { t with load := some v }
  else if s.flag (R.TMR_STAT_GSWAIT n) then s
  else s.set (R.TMR_CNT n) v

/-- TMR_COUNTER_WRITE (R127). -/
def execTmrCounterWrite (q : Who) (n : Fin 16) (v : Word) (s : State) : Out :=
  .next (s.via q.req 6 fun s => s.writeTmrCnt n v.toNat)

/-- A read of CNT: a value written that waits for its tick reads back (R127). -/
def State.readTmrCnt (s : State) (n : Nat) : Nat := (s.tmr.at n).load.getD (s.get (R.TMR_CNT n))

/-- A write of TMRn_PIN applies FORCE (R125). -/
def State.writeTmrPin (s : State) (q : Who) (n v : Nat) : State :=
  let s := s.writeReg q (0x6028 + 0x40 * n) v
  fireAll ((s.pinAct n 3 (s.get (R.TMR_PIN_FORCE n))).set (R.TMR_PIN_FORCE n) 0).drivenTrips

/-- TMR_PIN_FORCE (R125). -/
def execTmrPinForce (q : Who) (n : Fin 16) (v : Word) (s : State) : Out :=
  .next (s.via q.req 6 fun s => s.writeTmrPin q n v.toNat)

/-- A timer takes START, and its prescaler count restarts: on enable and on release (R127, R133). -/
def State.tmrStart (s : State) (n : Nat) : State :=
  ((s.tmrLoad n).set (R.TMR_CNT n) (s.get (R.TMR_START n))).updTmr n fun t => { t with run := true, psc := 0, load := none }

/-- A timer stops counting, at the count it has reached, or at one written that waited for its tick. -/
def State.tmrStop (s : State) (n : Nat) : State :=
  (s.set (R.TMR_CNT n) (s.readTmrCnt n)).updTmr n fun t => { t with run := false, load := none }

/-- A write of TMRn_CTRL (R125, R127, R133): EN without GSARM starts a timer that does not run, EN with
GSARM makes it wait at START; setting EN drives INIT while DIR is set. -/
def State.writeTmrCtrl (s : State) (q : Who) (n v : Nat) : State :=
  let was := s.flag (R.TMR_CTRL_EN n)
  let s := s.writeReg q (0x6000 + 0x40 * n) v
  let en := s.flag (R.TMR_CTRL_EN n)
  let s := if !was && en && s.flag (R.TMR_CTRL_DIR n) then
      s.set (R.TMR_STAT_PINLVL n) (s.get (R.TMR_PIN_INIT n)) else s
  let s :=
    if !en then (s.tmrStop n).set (R.TMR_STAT_GSWAIT n) 0
    else if s.flag (R.TMR_CTRL_GSARM n) then
      ((s.tmrStop n).set (R.TMR_STAT_GSWAIT n) 1).set (R.TMR_CNT n) (s.get (R.TMR_START n))
    else if (s.tmr.at n).run then s
    else (s.set (R.TMR_STAT_GSWAIT n) 0).tmrStart n
  fireAll s.drivenTrips

/-- TMR_ENABLE (R127). -/
def execTmrEnable (q : Who) (n : Fin 16) (v : Word) (s : State) : Out :=
  .next (s.via q.req 6 fun s => s.writeTmrCtrl q n v.toNat)

/-- A write of TOP, CMPA, CMPB or START (R127): with SHADOW clear the compares and TOP apply at once; a
waiting timer shows START. -/
def State.writeTmrVal (s : State) (q : Who) (n r v : Nat) : State :=
  let s := s.writeReg q (0x6000 + 0x40 * n + r) v
  let s := if s.flag (R.TMR_CTRL_SHADOW n) then s else s.tmrLoad n
  if s.flag (R.TMR_STAT_GSWAIT n) then s.set (R.TMR_CNT n) (s.get (R.TMR_START n)) else s

/-! ### Wide values (R129 to R131) -/

/-- The 64-bit value as it stands. -/
def State.wideNow (s : State) : Wide → Nat
  | .tb => s.time.tb.toNat
  | .captb n => (s.tmr.at n).captb.toNat
  | .gsnext => s.get R.WRP_GSNEXT_LO + 2 ^ 32 * s.get R.WRP_GSNEXT_HI
  | .lastrs => s.get R.PLY_LASTRS_LO + 2 ^ 32 * s.get R.PLY_LASTRS_HI
  | .evrtc => s.get R.TMP_EVRTC_LO + 2 ^ 32 * s.get R.TMP_EVRTC_HI
  | .rtc => s.time.rtc.toNat

/-- The domain whose frame holds the wide value. -/
def wideDomain : Wide → Nat
  | .tb => 6
  | .captb _ => 6
  | .gsnext => 9
  | .lastrs => 0
  | .evrtc => 0
  | .rtc => 0

/-- The high-word latch of a requester (R129): 0 before its first low read. -/
def State.highLatch (s : State) (q : Req) (w : Wide) : Nat :=
  match s.time.rlatch.find? fun x => decide (x.1 = (w, q)) with
  | some x => x.2
  | none => 0

/-- The requesters whose latches an access uses (R129): those of every strand of the lockstep group where the group makes
it, its own of any other. -/
def State.latchReqs (s : State) (q : Req) : List Req :=
  if q ≠ .strandA then [q]
  else .strandA :: ((if s.plyMode < 2 ∧ s.get R.PLY_STATUS_RETIRED ≠ 1 then [.strandB] else [])
    ++ if s.plyMode = 0 ∧ s.get R.PLY_STATUS_RETIRED ≠ 2 then [.strandC] else [])

/-- Load the requester's latch with the high half (R129); the strands of a lockstep group load theirs alike. -/
def State.loadLatch (s : State) (q : Req) (w : Wide) : State :=
  let qs := s.latchReqs q
  let l := s.time.rlatch.filter fun x => decide (x.1.1 ≠ w ∨ x.1.2 ∉ qs)
  { s with time := { s.time with rlatch := (qs.map fun q => ((w, q), s.wideNow w / 2 ^ 32)) ++ l } }

/-- An ACTIVE read of the low word (R129). -/
def State.readWideLow (s : State) (q : Req) (w : Wide) : State :=
  (s.reply q .ok (s.wideNow w % 2 ^ 32)).loadLatch q w

/-- WIDE_VALUE_LOW_READ (R129). -/
def execWideValueLowRead (q : Req) (w : Wide) (s : State) : Out :=
  .next (s.via q (wideDomain w) fun s => s.readWideLow q w)

/-- The write latch of a requester (R131). -/
def State.writeLatch (s : State) (q : Req) : Nat :=
  match s.time.wlatch.find? fun x => decide (x.1 = q) with
  | some x => x.2
  | none => 0

/-- Put a value into the write latch of a requester; the strands of a lockstep group write theirs alike. -/
def State.putLatch (s : State) (q : Req) (v : Nat) : State :=
  let qs := s.latchReqs q
  let l := s.time.wlatch.filter fun x => decide (x.1 ∉ qs)
  { s with time := { s.time with wlatch := (qs.map fun q => (q, v)) ++ l } }

/-- WIDE_VALUE_LOW_WRITE (R131): TMR_GSPICK is the writable wide value. -/
def execWideValueLowWrite (q : Who) (v : Word) (s : State) : Out :=
  .next (s.via q.req 6 fun s => s.putLatch q.req v.toNat)

/-- A write of TMR_GSPICK_HI commits both halves (R131). -/
def State.commitWide (s : State) (q : Req) (v : Nat) : State :=
  ((s.set R.TMR_GSPICK_LO (s.writeLatch q)).set R.TMR_GSPICK_HI v).putLatch q 0

/-- WIDE_VALUE_HIGH_WRITE (R131). -/
def execWideValueHighWrite (q : Who) (v : Word) (s : State) : Out :=
  .next (s.via q.req 6 fun s => s.commitWide q.req v.toNat)

/-! ### The timebase -/

/-- The committed target of a scheduled release (R134). -/
def State.gsPick (s : State) : Nat := s.get R.TMR_GSPICK_LO + 2 ^ 32 * s.get R.TMR_GSPICK_HI

/-- The node is node 0: role MASTER, and not given up (R143, R161). -/
def State.isMaster (s : State) : Bool := s.flag R.WRP_CFG_ROLE && !s.warp.demoted

/-- GSARMED, and the earliest armed target (Table 7.5). -/
def State.showArmed (s : State) : State :=
  let t := match s.warp.armed with
    | [] => 0
    | x :: l => l.foldl min x
  ((s.setB R.WRP_STAT_GSARMED (!s.warp.armed.isEmpty)).set R.WRP_GSNEXT_LO (t % 2 ^ 32)).set R.WRP_GSNEXT_HI (t / 2 ^ 32)

/-- Source 119 fires once at a pick (R128): where TB mod HED_TICK is 0, or at a step. HED_TICK is that which stood at the
pick boundary; 0 disables it. -/
def State.tick119 (s : State) (step : Bool) : State :=
  let t := s.time.hed
  if t ≠ 0 ∧ s.time.ticked = false ∧ (step = true ∨ s.time.tb.toNat % t = 0) then
    { s with time := { s.time with ticked := true } }.fire [119]
  else s

/-- HEDDLE_TICK (R128). -/
def execHeddleTick (s : State) : Out := .next (if s.on 6 then s.tick119 false else s)

/-- A step of TB (R128, R134): a governor sample, source 119 while HED_TICK is nonzero, and a scheduled
release whose target the step passes is cancelled with LATE, as is an armed Warp target (R154); the node is
synchronised, and TIMELOCK follows R151. -/
def State.stepTb (s : State) (tb : BitVec 64) : State :=
  let old := s.time.tb.toNat
  let gone (x : Nat) : Bool := decide (old < x) && decide (x ≤ tb.toNat)
  let late := s.warp.armed.any gone
  let s := { s with
    time := { s.time with tb := tb }
    warp := { s.warp with
      armed := s.warp.armed.filter (fun x => !gone x), synced := true, stepPick := none, stepped := true } }
  let s := ((s.set R.TB_STAT 1).set R.WRP_STAT_TIME_LOST 0).showArmed
  let s := s.setB R.WRP_STAT_TIMELOCK (decide ((s.gets R.WRP_PHERR).natAbs ≤ 1))
  let s := if late && s.on 6 then s.set R.TMR_GSTART_LATE 1 else s
  let s := if s.flag R.TMR_GSTART_PEND && decide (old < s.gsPick) && decide (s.gsPick ≤ tb.toNat) then
      (s.set R.TMR_GSTART_PEND 0).set R.TMR_GSTART_LATE 1 else s
  let s := if s.gov.started && s.on 6 then s.govSample else s
  s.tick119 true

/-- The node is to step its TB (R154): a member, with TIME_LOST set or a TB not synchronised, at the step pick,
where node 0's TB is the value the step takes. -/
def State.stepsAt (s : State) (tb : BitVec 64) : Bool :=
  s.on 9 && !s.isMaster && !s.flag R.WRP_STAT_NOID && (s.flag R.WRP_STAT_TIME_LOST || !s.warp.synced) && decide (s.warp.stepPick = some tb.toNat)

/-- TB_STEP (R128). -/
def execTbStep (tb : BitVec 64) (s : State) : Out := .next (if s.stepsAt tb then s.stepTb tb else s)

/-! ### Stagger groups (R132, R138) -/

/-- The members of stagger group `g`, ascending. -/
def State.stgMembers (s : State) (g : Nat) : List Nat :=
  (List.range 16).filter fun k => s.bit (R.STG_CFG_MEMB g) k

/-- Pair `p` is the pair of a member of an enabled shedding group (R138). -/
def State.shedPair (s : State) (p : Nat) : Bool :=
  (List.range 2).any fun g => s.flag (R.SHED_CFG_EN g) &&
    (s.members g).any fun k => decide (s.get (R.LN_CTRL_DSTIDX k) = p)

/-- The conditions that refuse a load (R138). -/
def State.stgBad (s : State) (g : Nat) : Bool :=
  let ms := s.stgMembers g
  let ty := s.flag (R.STG_CFG_TYPE g)
  ms.isEmpty || (ty && ms.any fun k => decide (12 ≤ k))
    || ((List.range 4).any fun h => decide (h ≠ g) && s.flag (R.STG_STAT_LOADED h)
        && (decide (s.get (R.STG_CFG_TYPE h) = s.get (R.STG_CFG_TYPE g)))
        && ms.any fun k => s.bit (R.STG_CFG_MEMB h) k)
    || (ty && ms.any fun k => s.shedPair k)
    || (ty && ms.any fun k => decide (s.get (R.PWM_CTRL_MODE k) = 2) && decide (k % 2 = 1)
        && decide (s.get (R.PWM_CTRL_MODE (k - 1)) = 2))

/-- The period of pair `p` as its register holds it, in 1/32 (R98, R132). -/
def State.perWritten (s : State) (p : Nat) : Nat :=
  let v := s.get (R.PWM_PER p)
  if v / 32 < 8 then 256 else v

/-- PHASE of pair `p` from its local and its Warp slot offsets (R132, R153). -/
def State.writePhase (s : State) (p per : Nat) : State :=
  let w := s.pwm.at p
  let s := s.handValue p { fld := .phase, val := (w.offLocal + w.offSlot) % per }
  if (s.pwm.at p).run then s else s.set (R.PWM_CNT_CNT p) (s.get (R.PWM_PHASE p) / 32)

/-- Load stagger group `g` (R132): member k of N starts at ⌊(N − k) × P ÷ N⌋ mod P. -/
def State.stgLoad (s : State) (g : Nat) : State :=
  if s.stgBad g then s.set (R.STG_STAT_CFGERR g) 1
  else
    let ms := s.stgMembers g
    let n := ms.length
    let m0 := ms.headD 0
    let ks := (List.range n).zip ms
    let s := if s.flag (R.STG_CFG_TYPE g) then
        (let per := s.perWritten m0
         ks.foldl (fun s (k, p) =>
           (s.updPwm p fun w => { w with offLocal := (n - k) * per / n % per }).writePhase p per) s)
      else
        (let per := max 1 (s.get (R.TMR_TOP m0)) + 1
         ks.foldl (fun s (k, t) =>
           let s := s.set (R.TMR_START t) ((n - k) * per / n % per)
           if s.flag (R.TMR_STAT_GSWAIT t) then s.set (R.TMR_CNT t) (s.get (R.TMR_START t)) else s) s)
    (s.set (R.STG_STAT_LOADED g) 1).set (R.STG_STAT_N g) n

/-- A write of STGg_CFG (R132). -/
def State.writeStg (s : State) (q : Who) (g v : Nat) : State :=
  let s := (s.writeReg q (0x6900 + 0x10 * g) v).set (R.STG_CFG_LOAD g) 0
  if v.testBit 31 then s.stgLoad g else s

/-- STAGGER_LOAD (R132). -/
def execStaggerLoad (q : Who) (g : Fin 4) (v : Word) (s : State) : Out :=
  .next (s.via q.req 6 fun s => s.writeStg q g v.toNat)

/-! ### Global start (R133, R134) -/

/-- Release every timer and pair that waits (R133). Answers the period starts. -/
def State.releaseAll (s : State) : State × List Nat :=
  let s := (List.range 16).foldl (fun s n =>
    if s.flag (R.TMR_CTRL_EN n) && s.flag (R.TMR_CTRL_GSARM n) then
      ((s.set (R.TMR_CTRL_GSARM n) 0).set (R.TMR_STAT_GSWAIT n) 0).tmrStart n
    else s) s
  (List.range 12).foldl (fun a p =>
    if a.1.flag (R.PWM_CTRL_EN p) && a.1.flag (R.PWM_CTRL_GSARM p) && !a.1.govOwns p then
      (let (s, e) := (a.1.set (R.PWM_CTRL_GSARM p) 0).startPair p
       (s, a.2 ++ e))
    else a) (s, [])

/-- A release with its Heddle source 118 and the sources `src` that come with it (R133, Table 6.1). -/
def State.releaseNow (s : State) (src : List Nat) : State :=
  let (s, e) := s.releaseAll
  (s.set R.TMR_GSTART_REL 1).fire (src ++ 118 :: e)

/-- The bits of TMR_GSTART that act (R134): CANCEL first, then ARMAT, then GO. -/
def State.writeGstart (s : State) (q : Who) (v : Nat) : State :=
  let s := s.writeReg q 0x6810 v
  let s := if v.testBit 2 then s.set R.TMR_GSTART_PEND 0 else s
  let s := if v.testBit 1 then
      (if s.gsPick ≤ s.time.tb.toNat then s.set R.TMR_GSTART_LATE 1 else s.set R.TMR_GSTART_PEND 1) else s
  if v.testBit 0 then { s with time := { s.time with go := true } } else s

/-- GLOBAL_START_GO (R134). -/
def execGlobalStartGo (q : Who) (s : State) : Out := .next (s.via q.req 6 fun s => s.writeGstart q 1)

/-- GLOBAL_START_ARM (R134). -/
def execGlobalStartArm (q : Who) (s : State) : Out := .next (s.via q.req 6 fun s => s.writeGstart q 2)

/-- GLOBAL_START_CANCEL (R134). -/
def execGlobalStartCancel (q : Who) (s : State) : Out := .next (s.via q.req 6 fun s => s.writeGstart q 4)

/-- A release is due at this pick boundary (R134): after a GO, or at the scheduled pick. -/
def State.gsDue (s : State) : Bool :=
  s.time.go || (s.flag R.TMR_GSTART_PEND && decide (s.time.tb.toNat = s.gsPick))

/-- GLOBAL_START_RELEASE (R133). -/
def execGlobalStartRelease (s : State) : Out :=
  .next (if s.on 6 && s.gsDue then
      (let s := if s.time.tb.toNat = s.gsPick then s.set R.TMR_GSTART_PEND 0 else s
       { s with time := { s.time with go := false } }.releaseNow [])
    else s)

end Sys2Proof.Machine
end

