-- ==== Sys2Proof/Machine/PowerOps.lean ====
section
/-!
DEFINITION. The power sequencer (chapter 22): what a domain loses, quiescing, switching on, wakes, and the
bypass of the Warp node that follows from PD1.
-/

namespace Sys2Proof.Machine

/-! ### The bypass (R157) -/

/-- PD1 is off, lost, or restarts after it was; a domain in RET, or coming back from it, is not off (R157, R477). -/
def State.crerusOff (s : State) : Bool :=
  s.domIs 1 0 || s.domIs 1 5 || (s.domIs 1 2 && decide (1 ∉ s.pwr.retained))

/-- The node is in bypass: EN clear, PD1 off or restarting, or a SYS reset (R157). -/
def State.inBypass (s : State) : Bool := !s.flag R.WRP_CFG_EN || s.crerusOff || s.rst.asserted

/-- The bypass state follows its conditions: on a change the node owes a BYPASS frame, after those it owes already
(R157). -/
def State.bypassCheck (s : State) : State :=
  if !s.on 9 || decide (s.flag R.WRP_STAT_BYPASS = s.inBypass) then s
  else
    let id := BitVec.ofNat 8 (s.warp.lastId.getD 0)
    let f : Frame := .bypass (if s.inBypass then 0 else 1) id
    let s := s.setB R.WRP_STAT_BYPASS s.inBypass
    let own := s.warp.own
    { s with warp := { s.warp with own := own.filter isPathFrame ++ f :: own.filter fun x => !isPathFrame x } }

/-! ### What a domain loses -/

/-- Crerus restarts: what it has started is lost, with the queue commands that had started, the subscriptions and the
pending values (R327, R330, R357); values in force stay. -/
def State.crerusLost (s : State) : State :=
  let tags := (s.queue.running.map QCmd.tag) ++ (s.queue.done.filter QDone.usesTag).map QDone.tag
  let freed := tags.foldl (fun t c => t &&& (2 ^ 32 - 1 - 2 ^ c)) (s.get R.Q_TAGS)
  let s := (s.set R.Q_TAGS freed).set R.HIF_STATUS_FWREADY 0
  let s := if s.on 10 && s.crerus.started then s.set R.HIF_STATUS_RESTARTING 1 else s
  { s with
    crerus := { authctr := s.crerus.authctr, arr := s.crerus.arr, stamp := s.crerus.stamp, wdLast := s.crerus.wdLast, slot := s.crerus.slot,
                started := s.crerus.started, bootDraft := s.crerus.bootDraft, draftSlot := s.crerus.draftSlot
                fanPolicy := s.crerus.fanPolicy, fans := s.crerus.fans, sequence := s.crerus.sequence }
    queue := { s.queue with running := [], done := [] }
    jrnl := { lock := s.jrnl.lock, lowmark := s.jrnl.lowmark } }

/-- The register fields of domain `d` in reset domain DOM return to their reset values (R12). -/
def State.resetDom (s : State) (d : Nat) : State :=
  let sel (f : Fld) : Bool := decide (f.pd = d) && decide (f.rd = .dom)
  { s with regs := s.regs.reset sel, frozen := s.frozen.filter fun z => !sel z.fld }

/-- Strand `k` is a logical core of its own (R165). -/
def State.standsAlone (s : State) (k : Nat) : Bool :=
  decide (s.plyMode = 2) || (decide (s.plyMode = 1) && decide (k = 2))

/-- What strand `k` holds is lost (R490): an independent strand loses its registers too, and waits for a join
where it did before. The TIL sets of every core stand in PD3 (R243, R247): they go with strand A's domain alone. -/
def State.loseStrand (s : State) (k : Nat) : State :=
  let s := (s.wipe (itcmKey k 0) (itcmKey k 0x20000)).wipe (dtcmKey k 0) (dtcmKey k 0x20000)
  let s := if k = 0 then { s with core := s.core.map fun c => c.withTil {} } else s
  if s.standsAlone k then
    s.updCore k fun c => ({ run := if c.run = .joinWait then .joinWait else .held } : Core).withTil c
  else s

/-- The completion of a started command is discarded (R360, R362). -/
def QCmd.void (c : QCmd) : QCmd := { c with discard := true }

/-- Requests that wait in the mailboxes of a domain that is lost are lost with it (R331): the host's alone are held
outside PD1, and the others outside PD10. -/
def State.dropArrivals (s : State) (host : Bool) : State :=
  let isHost (a : Arrival) : Bool := match a.src with
    | .host _ => true
    | _ => false
  { s with crerus := { s.crerus with arr := s.crerus.arr.filter fun a => decide (isHost a ≠ host) } }

/-- The latches of the wide values of domain `d` return to 0 with it (R129, R139). -/
def TimeSt.dropLatches (t : TimeSt) (d : Nat) : TimeSt :=
  { t with rlatch := t.rlatch.filter fun x => decide (wideDomain x.1.1 ≠ d)
           wlatch := if d = 6 then [] else t.wlatch }

/-- The state of the blocks of domain `d` beside their registers is lost. -/
def State.loseBlocks (s : State) (d : Nat) : State :=
  match d with
  | 1 => ((s.crerusLost.dropArrivals false).wipe 0x30000000 0x30001000).wipe 0x60000000 0x60008000
  | 3 => s.loseStrand 0
  | 4 => s.loseStrand 1
  | 5 => s.loseStrand 2
  | 6 => { s with
      lane := Vector.replicate 16 {}, shed := Vector.replicate 2 {}, hedCnt := Vector.replicate 96 0
      pwm := Vector.replicate 12 {}, trip := {}, gov := {}, tmr := Vector.replicate 16 {}
      icu := { wake := s.icu.wake, saved := s.icu.saved }, loomCfg := false
      time := { s.time.dropLatches 6 with go := false, hed := 0 } }
  | 7 => { s with
      adc := Vector.replicate 8 {}, res := Vector.replicate 32 {}, cmp := Vector.replicate 16 {}
      dac := Vector.replicate 2 {}, rfm := { holdoff := s.rfm.holdoff, switched := s.rfm.switched } }
  | 8 => { s with dma := Vector.replicate 16 {}, dmaLast := Vector.replicate 4 15 }
  | 9 => { s with warp := {}, time := { s.time.dropLatches 9 with tb := 0 } }
  | 10 =>
    let s := { s with
      uart := {}, i2c := {}, xspi := {}
      queue := { s.queue with taken := [], done := [], heldTo := 0, stamps := [], running := s.queue.running.map QCmd.void } }
    (s.dropArrivals true).wipe 0x50001000 0x50020000
  | 11 => { s with custody := { s.custody with keys := false, drbg := false } }
  | _ => s

/-- Everything domain `d` holds is lost. -/
def State.loseDomain (s : State) (d : Nat) : State :=
  let s := (s.loseBlocks d).resetDom d
  { s with pwr := { s.pwr with retained := without s.pwr.retained d } }

/-! ### Quiescing (R479, R480, R484, R488) -/

/-- Comparator outputs fall and pending triggers are dropped where PD7 stops being ON, and the lanes on it
become input-missing (R42, R66). -/
def State.analogDown (s : State) : State :=
  let s := { s with cmp := Vector.replicate 16 {} }
  let s := (List.range 16).foldl (fun s j => (s.cmpRefresh j).1) s
  let s := (List.range 8).foldl (fun s i => s.set (R.ADC_STAT_PEND i) 0) s
  if s.on 6 then fireAll s.missCheck else s

/-- DMA channels stop as PD8 stops being ON (R283): as under R278, with ABORT. -/
def State.dmaDown (s : State) : State :=
  (List.range 16).foldl (fun s c =>
    if s.flag (R.DMA_CH_STAT_BUSY c) then
      { ((s.set (R.DMA_CH_STAT_BUSY c) 0).set (R.DMA_CH_CTRL_EN c) 0).set (R.DMA_CH_STAT_ABORT c) 1 with
        dma := s.dma.upd c fun d => { d with stopped := true, moving := false, loadPend := false } }
    else s) s

/-- A configured Loom that stops leaves the effective safe states in the pad latches; they hold until PD6 is configured
again (R100). -/
def State.holdPads (s : State) : State := if s.loomCfg then s.latchPads else s

/-- The timers stop and a pending scheduled release is cancelled as PD6 is quiesced (R136). -/
def State.timersDown (s : State) : State :=
  let s := (List.range 16).foldl (fun s n => s.tmrStop n) s
  { s.set R.TMR_GSTART_PEND 0 with time := { s.time with go := false } }

/-- What the fence of domain `d` brings about (R42, R100, R283). -/
def State.atFence (s : State) (d : Nat) : State :=
  match d with
  | 6 => s.holdPads.timersDown
  | 7 => s.analogDown
  | 8 => s.dmaDown
  | _ => s

/-- A quiesce of domain `d` begins (R479): to OFF, or into retention. Dependents go down first (R476). -/
def State.quiesce (s : State) (d st : Nat) : State :=
  if s.on d then
    let s := (s.set (R.PWR_DOM d) 4).atFence d
    { s with pwr := { s.pwr with quiet := s.pwr.quiet ++ [(d, st)] } }
  else s

/-- Banks of system SRAM that `keep` does not name lose their contents (R482, R492). -/
def State.dropBanks (s : State) (keep : Nat) : State :=
  (List.range 4).foldl (fun s b =>
    if keep.testBit b then s else s.wipe (sramBase + 0x40000 * b) (sramBase + 0x40000 * (b + 1))) s

/-- Domain `d` goes down after its drain (R479): clocks gated at a pick boundary, then OFF or RET. -/
def State.goDown (s : State) (d st : Nat) : State :=
  let s := if d = 6 then s.icuSave else s
  let s := s.set (R.PWR_DOM d) st
  let s := { s with pwr := { s.pwr with quiet := s.pwr.quiet.filter fun x => decide (x.1 ≠ d) } }
  let s := if st = 1 ∧ d ≠ 8 then { s with pwr := { s.pwr with retained := insOnce s.pwr.retained d } } else s.loseDomain d
  let s := if d = 8 then s.dropBanks (if st = 1 then s.get R.PWR_SRAM_RET else 0) else s
  let s := if 3 ≤ d ∧ d ≤ 5 then s.updCore (d - 3) fun k => { k with cache := [] } else s
  s.bypassCheck

/-! ### Wakes (R487, R493) -/

/-- The exit from HOLD or SLEEP starts (R487). -/
def State.beginExit (s : State) (src info : Nat) : State :=
  let s := ((s.set R.PWR_STATE_EXIT 1).set R.PWR_STATE_WAKESRC src).set R.PWR_WAKEINFO info
  { s with pwr := { s.pwr with wake := none, noFlash := false } }.bringUp

/-- A wake event (R487, R493): before the reply of the entry it is no wake; after, it waits until the last
domain has reached its state. -/
def State.wake (s : State) (src info : Nat) : State :=
  if !s.asleep || s.flag R.PWR_STATE_EXIT then s
  else if s.pwr.quiet.isEmpty then s.beginExit src info
  else if s.pwr.wake.isNone then { s with pwr := { s.pwr with wake := some (src, info) } }
  else s

/-- A latched wake acts once every domain has reached its state (R493). -/
def State.wakeLate (s : State) : State :=
  match s.pwr.wake with
  | some (src, info) => if s.pwr.quiet.isEmpty && s.asleep then s.beginExit src info else s
  | none => s

end Sys2Proof.Machine
end

