-- ==== Sys2Proof/Machine/CustodyOps.lean ====
section
/-!
DEFINITION. The custody engine, the key slots and the tamper supervisor (chapter 17).
-/

namespace Sys2Proof.Machine

/-! ### Derived keys (R368, R401) -/

/-- The ASCII codes of a label. -/
def ascii (t : String) : List Nat := t.toList.map Char.toNat

/-- The 256-bit device secret. -/
def State.secret (s : State) : List Nat := fuseBytes s.shadow 114 8

/-- The SP 800-108 counter-mode KDF of R368: `n` bytes under a label. -/
def State.derive (s : State) (label : String) (n : Nat) : List Nat :=
  let block (i : Nat) : List Nat :=
    hmac384 s.secret ([i] ++ ascii label ++ [0] ++ s.devId ++ [8 * n / 256 % 256, 8 * n % 256])
  (block 1 ++ block 2).take n

/-- The device key-encrypting key. -/
def State.kek (s : State) : List Nat := s.derive "KZ-KEK" 32

/-- The blob key. -/
def State.blobKey (s : State) : List Nat := s.derive "KZ-BLOB" 32

/-- The attestation private key. -/
def State.attestKey (s : State) : List Nat := natsOf (Config.p384Scalar (s.derive "KZ-ATTEST" 56)).toList

/-- The attestation public key Q. -/
def State.attestQ (s : State) : List Nat := natsOf (Config.p384Public s.attestKey).toList

/-- The journal key K_J (R401). -/
def State.journalKey (s : State) : List Nat := hmac384 s.blobKey (ascii "KZ-JOURNAL")

/-! ### The engine and the DRBG (R373 to R375, R386, R492) -/

/-- Derived keys and DRBG are formed (R368, R375), where PD11 is ON and Crerus runs. -/
def State.formKeys (s : State) : State :=
  if s.on 11 && s.crerus.alive then
    { s with custody := { s.custody with
        keys := true, drbg := !s.custody.esFail || s.custody.drbg, esReady := !s.custody.esFail, generated := 0 } }
  else s

/-- The engine refuses with BUSY: known-answer tests failed, or PD11 is OFF (R386, R492). -/
def State.engineRefuses (s : State) : Bool := s.custody.katFail || !s.domLive 11

/-- The engine is ready: ON, with its keys. -/
def State.engineReady (s : State) : Bool := s.on 11 && s.custody.keys && !s.custody.katFail

/-- `n` bytes of DRBG output, with the reseeds they need (R375). -/
def State.drbgBytes (s : State) (n : Nat) (fresh : Bool) : List Nat × State :=
  let c := s.custody
  let s := if fresh || decide (65536 ≤ c.generated) then
      { s with custody := { c with generated := 0, reseeds := c.reseeds + 1 } } else s
  let (l, s) := s.freeBytes n
  (l, { s with custody := { s.custody with generated := s.custody.generated + 1 } })

/-! ### Slots (R366, R367, R370) -/

/-- A slot. -/
def State.slot (s : State) (n : Nat) : KeySlot := s.custody.slots.at n

/-- Write a slot. -/
def State.putSlot (s : State) (n : Nat) (k : KeySlot) : State :=
  { s with custody := { s.custody with slots := s.custody.slots.put n k } }

/-- A descriptor keeps Table 17.2. -/
def slotForm (typ len policy : Nat) : Bool :=
  decide (policy < 8) && (match typ with
    | 0 => decide (len = 16)
    | 1 => decide (len = 32)
    | 2 => decide (16 ≤ len ∧ len ≤ 64)
    | 3 => decide (len = 48)
    | 4 => decide (8 ≤ len ∧ len ≤ 64 ∧ len % 8 = 0)
    | _ => false)

/-- The inner header and key of a slot, as AES-KWP wraps them (Table 17.4). -/
def KeySlot.inner (k : KeySlot) : List Nat := toLE 2 k.typ ++ toLE 2 k.policy ++ toLE 2 k.len ++ [0, 0] ++ k.key

/-- The length of WRAPPED for a key of `len` bytes (R370). -/
def wrapLen (len : Nat) : Nat := 8 * ((8 + len + 7) / 8) + 8

/-- The slot's key wrapped under the device KEK (Table 17.4). -/
def State.wrapSlot (s : State) (k : KeySlot) : List Nat :=
  ascii "WKEY" ++ toLE 2 1 ++ toLE 2 (wrapLen k.len) ++ padTo (wrapLen k.len) (natsOf (Config.kwpWrap s.kek k.inner))

/-- A wrapped key opened (R353, R370): none when the header, the integrity check or Table 17.2 fails. -/
def State.unwrapKey (s : State) (w : List Nat) : Option KeySlot :=
  let n := fieldOf w 6 2
  if w.take 6 ≠ ascii "WKEY" ++ [1, 0] ∨ w.length ≠ 8 + n then none
  else
    match Config.kwpUnwrap s.kek (cut w 8 n) with
    | none => none
    | some p =>
      let p := natsOf p
      let k : KeySlot := { occ := true, typ := fieldOf p 0 2, policy := fieldOf p 2 2, len := fieldOf p 4 2, key := p.drop 8 }
      if slotForm k.typ k.len k.policy && decide (fieldOf p 6 2 = 0) && decide (k.key.length = k.len) then some k else none

/-! ### Tamper (R377 to R384) -/

/-- The wipes that follow a detection are owed (Table 17.7). -/
def State.tamperOwe (s : State) : State :=
  { s with custody := { s.custody with wiping := true, recordDue := true } }

/-- Requests and commands on the engine end where a tamper response begins or PD11 is lost (R381, Table 22.3): a
mailbox request with `st`, a queue command with ABORTED and a reason. -/
def State.engineAbort (s : State) (st reason : Nat) : State :=
  let busy := s.crerus.susp.filter fun j => decide (j.wait = .engine)
  let run := s.queue.running.filter fun c => decide (3 ≤ c.opc ∧ c.opc ≤ 6)
  let done := run.map fun c => ({ num := c.num, tag := c.tag, idx := c.idx, status := 0x61, reason := reason, flags := if c.held then 16 else 0, discard := c.discard } : QDone)
  { s with
    crerus := { s.crerus with susp := s.crerus.susp.map fun j => if j.wait = .engine then { j with wait := .ready st [] } else j }
    queue := { s.queue with
      running := s.queue.running.filter fun c => !decide (3 ≤ c.opc ∧ c.opc ≤ 6), done := s.queue.done ++ done.filter fun d => !d.discard }
    custody := { s.custody with aborted := s.custody.aborted + busy.length + run.length } }

/-- The MAC at the end of a record (Table 18.5). -/
def recMac (r : List Nat) : List Nat := r.drop (r.length - 48)

/-- The page being programmed does not become durable (R396, R402): it is skipped, and its records wait for another
page; `own` says that the last of them is that of a command that fails, and is dropped. -/
def Jrnl.pageFails (j : Jrnl) (own : Bool) : Jrnl :=
  match j.prog with
  | none => j
  | some recs =>
    let keep := if own then recs.dropLast else recs
    { j with
      prog := none, buf := keep, wpos := (j.wpos + 1) % 8192, torn := j.torn + 1, next := j.durable + 1 + keep.length
      mac := match keep.getLast? with
        | some r => recMac r
        | none => j.durMac }

/-- The records in the page buffer are lost: their numbers are given again (R359, R402). -/
def Jrnl.dropBuf (j : Jrnl) : Jrnl := { j with buf := [], next := j.durable + 1, mac := j.durMac }

/-- The command that waits for the page being programmed ends with a status and a reason. -/
def State.pageAbort (s : State) (status reason : Nat) : State :=
  let hit := s.queue.running.filter fun c => s.jrnl.prog.isSome && decide (c.opc = 1 ∨ c.opc = 7)
  let done := hit.map fun c => ({ num := c.num, tag := c.tag, idx := c.idx, status := status, reason := reason
                                  flags := if c.held then 16 else 0, discard := c.discard } : QDone)
  { s with
    jrnl := s.jrnl.pageFails (hit.any fun c => c.rn.isSome)
    queue := { s.queue with
      running := s.queue.running.filter fun c => decide (c ∉ hit), done := s.queue.done ++ done.filter fun d => !d.discard } }

/-- The page being programmed is cut off: by a tamper response, which loses the buffered records too (R359), or by a
loss of PD2 (R396). -/
def State.jrnlStop (s : State) (tamper : Bool) : State :=
  if tamper then
    (let s := s.pageAbort 0x61 3
     { s with jrnl := s.jrnl.dropBuf })
  else s.pageAbort 0x30 0

/-- A sealed call caught by a response ends with WS_RESTARTING, and a load of RSCAUSE TAMPER begins (R302,
R378). -/
def State.tamperLoad (s : State) : State :=
  let s := if s.wld.saved.isSome then ((s.set R.WLD_STAT_RSBEGIN 1).raise 161).abortCall 2 else s
  if s.on 3 then s.beginLoad 5 else s

/-- The response of Table 17.7. -/
def State.tamperRespond (s : State) : State :=
  let s := (((s.set R.TMP_STAT_RESP 1).inc R.TMP_EVCNT).set R.TMP_EVRTC_LO s.time.rtc.toNat).set R.TMP_EVRTC_HI
    (s.time.rtc.toNat / 2 ^ 32)
  let s := ((s.set R.TMP_STAT_ZACT 1).zeroSlots).engineAbort 0x40 3
  let s := { s with custody := { s.custody with keys := false, drbg := false } }
  let s := if s.on 10 then s.set R.Q_STATUS_TAMPER 1 else s
  let s := (((s.tamperLoad.jrnlStop true).flashStop).endGrant.abandonEntry 2).tamperOwe
  s.wake 5 0

/-- Source `n` is detected (R377, R378): a RESPOND source starts the response; a REPORT source sets its status
and owes the notice. -/
def State.tamper (s : State) (n : Nat) : State :=
  let s := s.setBit R.TMP_STAT_LATCHED n
  if s.bit R.TMP_SRCCFG_ACTION n then
    let s := s.tamperRespond
    if s.flag R.PWR_STATE_EXIT && decide (s.get R.PWR_STATE_WAKESRC = 5) then s.set R.PWR_WAKEINFO n else s
  else s.raise 146

/-- An enabled source, while PD0 has power. -/
def State.tampEn (s : State) (n : Nat) : Bool := s.on 0 && s.bit R.TMP_SRCCFG_EN n

/-- The drive pulse energy of mesh channel `n` in 0.1 nJ, rounded up (R380): VMESH × ILIM × PW. -/
def meshEnergy (vsel ilim pwsel : Nat) : Nat :=
  let mv := if vsel = 1 then 1800 else 1200
  let ua := if ilim = 0 then 500 else if ilim = 1 then 1000 else 2000
  let ps := 62500 * (min pwsel 14 + 1)
  (mv * ua * ps + 10 ^ 11 - 1) / 10 ^ 11

/-- A bit period of mesh channel `n` ends with the sense sample `sense` (R379). -/
def State.meshBit (s : State) (n : Nat) (sense : Bool) : State :=
  if !s.tampEn n then s
  else
    let m := s.custody.mesh.at n
    let bit := Config.meshBit m.lfsr
    let nxt := Config.meshNext m.lfsr
    let run := if sense = bit then 0 else m.run + 1
    let m : MeshCh := { lfsr := if nxt = 0 then 1 else nxt, run := run }
    let s := { s with custody := { s.custody with mesh := s.custody.mesh.put n m } }
    if run = 0 then s
    else
      let s := s.inc (if n = 0 then R.TMP_MESHERR_M0 else R.TMP_MESHERR_M1)
      if run = max 1 (s.get (R.TMP_MESH_FILT n)) then s.tamper n else s

/-- A channel takes a seed: zero is replaced by 1 (R379). -/
def State.meshSeed (s : State) (n : Nat) : State :=
  let (v, s) := s.freeN
  let x := BitVec.ofNat 31 v
  { s with custody := { s.custody with mesh := s.custody.mesh.put n { lfsr := if x = 0 then 1 else x } } }

/-- The wipes of Table 17.7 end: the sealed partitions, the monitor area, the sealed-held buffers and Crerus
custody buffers. -/
def State.tamperWiped (s : State) : State :=
  if !s.custody.wiping then s
  else { (s.wipeSealed.wipeHeld) with custody := { s.custody with wiping := false } }

/-- Vendor firmware journals the tamper and raises the notices once flash is idle (Table 17.7, R382). -/
def State.tamperRecord (s : State) : State :=
  if !s.custody.recordDue || s.flashBusy || !s.crerus.alive then s
  else
    let s := { s with custody := { s.custody with recordDue := false } }
    (s.journal 378 [s.get R.TMP_STAT_LATCHED]).raise 146

end Sys2Proof.Machine
end

