-- ==== Sys2Proof/Machine/HostRows.lean ====
section
/-!
DEFINITION. The host interface, the mailboxes and the queue registers (R314 to R317, R331 to R333, R338 to R348,
R358 to R363).
-/

namespace Sys2Proof.Machine

/-! ### Status and interrupts of the host (R330, R332, R361) -/

/-- A protocol error: its flag and IRQSTAT.ERR. -/
def State.hifErr (s : State) (f : Fld) : State := (s.set f 1).set R.HIF_IRQSTAT_ERR 1

/-- QCOMP: the completion ring holds an entry (R348). -/
def State.qcomp (s : State) : State := s.setB R.HIF_IRQSTAT_QCOMP (decide (s.get R.Q_CQTAIL ≠ s.get R.Q_CQHEAD))

/-- HIRQ# is driven low (R332). -/
def State.hirq (s : State) : Bool := decide ((s.readReg 0x10000018 &&& s.get R.HIF_IRQEN) ≠ 0)

/-! ### Host mailboxes (R315, R316) -/

/-- The state of MBn, with MBDONE (Table 15.2). -/
def State.setMb (s : State) (n st : Nat) : State :=
  let s := s.set (R.HIF_MBST n) st
  if st = 3 then s.setBit R.HIF_IRQSTAT_MBDONE n else s.clrBit R.HIF_IRQSTAT_MBDONE n

/-- A doorbell of MBn; one on the notice mailbox is refused (R316). -/
def State.ringHost (s : State) (n : Nat) : State :=
  if s.get (R.HIF_MBST n) = 0 ∧ n < 7 then
    ((((s.setMb n 1).setBit R.HIF_MBDB n).arrive { src := .host n }).wake 2 n)
  else s.hifErr R.HIF_STATUS_DBERR

/-- An acknowledge of MBn. -/
def State.ackHost (s : State) (n : Nat) : State :=
  if s.get (R.HIF_MBST n) = 3 then s.setMb n 0 else s.hifErr R.HIF_STATUS_DBERR

/-- Act on each bit of a word, lowest first. -/
def State.eachBit (s : State) (v n : Nat) (f : State → Nat → State) : State :=
  ((List.range n).filter fun i => v.testBit i).foldl f s

/-- A byte of the buffer of MBn from the host. -/
def State.hostBuf (s : State) (n o : Nat) (d : Byte) : State :=
  if s.get (R.HIF_MBST n) = 0 then s.setByte (hostKey (0x1000 + 0x200 * n + o)) d else s.hifErr R.HIF_STATUS_MBWERR

/-! ### Local mailboxes (R315 to R317) -/

/-- A doorbell of LMBb; in the SEALED world the mailbox becomes sealed-held. -/
def State.ringLocal (s : State) (q : Who) (b : Nat) : State :=
  if s.get (R.LMB_ST b) = 0 then
    let s := ((s.set (R.LMB_ST b) 1).setBit R.LMB_DB b).arrive { src := .loc b, sealedW := q.sealedW }
    if q.sealedW then s.setBit R.LMB_STATE_SHELD b else s
  else s.set R.LMB_STATE_DBERR 1

/-- An acknowledge of LMBb. -/
def State.ackLocal (s : State) (q : Who) (b : Nat) : State :=
  if s.get (R.LMB_ST b) = 3 then
    let s := s.set (R.LMB_ST b) 0
    if q.sealedW then s.clrBit R.LMB_STATE_SHELD b else s
  else s.set R.LMB_STATE_DBERR 1

/-- A sealed-held buffer is closed to the OPEN world (R317). -/
def State.lmbClosed (s : State) (q : Who) (b : Nat) : Bool := s.bit R.LMB_STATE_SHELD b && !q.sealedW

/-- A byte of the buffer of LMBb. -/
def State.localBuf (s : State) (b o : Nat) (d : Byte) : State :=
  if s.get (R.LMB_ST b) = 0 then s.setByte (lmbKey b + o) d else s.set R.LMB_STATE_WERR 1

/-- A write of an MBX register. DMA has no access (R317). -/
def State.writeMbx (s : State) (q : Who) (a v : Nat) : State :=
  if q.req = .dma then s.reply q.req .busErr 0
  else if a = 0x15000 then s.eachBit v 4 fun s b => s.ringLocal q b
  else if a = 0x15008 then s.eachBit v 4 fun s b => s.ackLocal q b
  else s.writeReg q a v

/-! ### The queue registers (R339, R342, R348, R360) -/

/-- A tail write: entries are submitted where the ring then holds at most 32 (R342); in HOLD and SLEEP it wakes the
part (R358). -/
def State.queueTail (s : State) (v : Nat) : State :=
  let t := v % 64
  if 32 < (t + 64 - s.get R.Q_SQHEAD) % 64 then s.hifErr R.Q_STATUS_SQERR
  else
    let k := (t + 64 - s.get R.Q_SQTAIL) % 64
    let n := s.crerus.stamp
    let s := { s with
      crerus := { s.crerus with stamp := n + k }
      queue := { s.queue with stamps := s.queue.stamps ++ (List.range k).map fun i => n + i } }
    (s.set R.Q_SQTAIL t).wake 3 t

/-- A write of Q_CQHEAD: completions are consumed, no more than the ring holds (R348). -/
def State.queueHead (s : State) (v : Nat) : State :=
  let h := v % 64
  let old := s.get R.Q_CQHEAD
  if (s.get R.Q_CQTAIL + 64 - old) % 64 < (h + 64 - old) % 64 then s.hifErr R.Q_STATUS_CQERR
  else (s.set R.Q_CQHEAD h).qcomp

/-- The reset of the queue ends once no started command runs (R360). -/
def State.queueCleared (s : State) : State :=
  if s.flag R.Q_CTRL && s.queue.running.isEmpty then
    let s := s.wipe (hostKey 0x2000) (hostKey 0x2A00)
    let s := (((s.set R.Q_SQTAIL 0).set R.Q_SQHEAD 0).set R.Q_CQHEAD 0).set R.Q_CQTAIL 0
    (((s.set R.Q_TAGS 0).set R.Q_STATUS_SQERR 0).set R.Q_STATUS_CQERR 0).set R.Q_CTRL 0 |>.qcomp
  else s

/-- A write of Q_CTRL (R360). -/
def State.queueReset (s : State) (v : Nat) : State :=
  if !v.testBit 0 then s
  else
    let s := s.set R.Q_CTRL 1
    { s with queue := { s.queue with
        taken := [], done := [], heldTo := 0, stamps := [], running := s.queue.running.map QCmd.void } }.queueCleared

/-! ### Writes and reads of the host (R314) -/

/-- A whole word the host writes to a register. -/
def State.hostWord (s : State) (a v : Nat) : State :=
  match a with
  | 0x0C => s.eachBit v 8 State.ringHost
  | 0x14 => s.eachBit v 8 State.ackHost
  | 0x08 =>
    let s := s.writeReg { req := .crerus, sealedW := false } 0x10000008 v
    { s with xspi := { s.xspi with next := some (s.flag R.HIF_CFG) } }
  | 0x40 => s.queueReset v
  | 0x44 => s.queueTail v
  | 0x4C => s.queueHead v
  | _ => s.writeReg { req := .crerus, sealedW := false } (0x10000000 + a) v

/-- A byte the host writes outside the registers: a mailbox buffer, the submission ring, the staging buffer. -/
def State.hostByte (s : State) (a : Nat) (d : Byte) : State :=
  if 0x1000 ≤ a ∧ a < 0x2000 then s.hostBuf ((a - 0x1000) / 0x200) (a % 0x200) d
  else if (0x2000 ≤ a ∧ a < 0x2800) ∨ (0x10000 ≤ a ∧ a < 0x20000) then s.setByte (hostKey a) d
  else s

/-- A WRITE of the host: register words that it covers whole, and the bytes of the other places, upward. -/
def State.hostWrite (s : State) (a : Nat) (l : List Nat) : State :=
  (List.range l.length).foldl (fun s i =>
    let x := a + i
    if x < 0x1000 then
      (if x % 4 = 0 ∧ i + 4 ≤ l.length then s.hostWord x (fieldOf l i 4) else s)
    else s.hostByte x (BitVec.ofNat 8 (l.getD i 0))) s

/-- A byte the host reads: 0 outside the window. -/
def State.hostRead (s : State) (a : Nat) : Nat :=
  if a < 0x1000 then s.readReg (0x10000000 + a / 4 * 4) / 2 ^ (8 * (a % 4)) % 256
  else if a < 0x2A00 ∨ (0x10000 ≤ a ∧ a < 0x20000) then (s.byte (hostKey a)).toNat
  else 0

/-- The xSPI logic: a command other than RESET disarms the reset; PD10 off answers nothing (R314). -/
def State.xspiDo (s : State) (f : State → State) : State :=
  if s.on 10 then f { s with xspi := { s.xspi with armed := false } } else s

/-- What the part drives onto HDQ. -/
def State.drive (s : State) (l : List Nat) : State := { s with xspi := { s.xspi with out := l } }

/-- XSPI_READ (R314). -/
def execXspiRead (a : BitVec 32) (n : Nat) (s : State) : Out :=
  .next (s.xspiDo fun s => s.drive ((List.range n).map fun i => s.hostRead (a.toNat + i)))

/-- XSPI_WRITE (R314). -/
def execXspiWrite (a : BitVec 32) (l : List (BitVec 8)) (s : State) : Out :=
  .next (s.xspiDo fun s => s.hostWrite a.toNat (natsOf l))

/-- READ STATUS: revision A1 returns the previous status byte on the falling edge of each pair in 8D-8D-8D
(R582, A1-03). -/
def State.readStatus (s : State) (n : Nat) : State :=
  let cur := s.readReg 0x10000004 / 2 ^ 24
  let prev := s.xspi.status
  let l := (List.range n).map fun i => if s.xspi.mode ∧ i = 1 then prev else cur
  { s with xspi := { s.xspi with out := l, status := cur } }

/-- XSPI_READ_STATUS (R314). -/
def execXspiReadStatus (n : Nat) (s : State) : Out := .next (s.xspiDo fun s => s.readStatus n)

/-- XSPI_READ_ID (R314). -/
def execXspiReadId (n : Nat) (s : State) : Out :=
  .next (s.xspiDo fun s => s.drive ((List.range n).map fun i => s.get R.HIF_ID / 2 ^ (8 * (i % 4)) % 256))

/-- XSPI_RESET_ENABLE (R314). -/
def execXspiResetEnable (s : State) : Out :=
  .next (s.xspiDo fun s => { s with xspi := { s.xspi with armed := true } })

/-- XSPI_RESET (R314): only directly after RESET ENABLE. -/
def execXspiReset (s : State) : Out :=
  .next (if s.on 10 && s.xspi.armed then { s with xspi := { s.xspi with armed := false, mode := false, next := none, out := [] } }
    else s.xspiDo id)

/-- XSPI_UNKNOWN_COMMAND (R314): HDQ stays high-impedance. -/
def execXspiUnknownCommand (_ : BitVec 16) (s : State) : Out := .next (s.xspiDo fun s => s.drive [])

/-- XSPI_MODE_CHANGE (R314): HCS# rises after a write of HIF_CFG.MODE. -/
def execXspiModeChange (s : State) : Out :=
  .next (match s.xspi.next with
    | some m => { s with xspi := { s.xspi with mode := m, next := none } }
    | none => s)

/-- MAILBOX_BUFFER_WRITE (R315): by the host, or by a strand to a local mailbox. -/
def execMailboxBufferWrite (q : Option Who) (n : Fin 8) (o : BitVec 9) (d : BitVec 8) (s : State) : Out :=
  .next (match q with
    | none => if s.on 10 then s.hostBuf n.val o.toNat d else s
    | some q => if 4 ≤ n.val then s
      else s.via q.req 1 fun s => if s.lmbClosed q n.val then s.reply q.req .busErr 0 else s.localBuf n.val o.toNat d)

/-- MAILBOX_DOORBELL (R315): a write of HIF_MBDB by the host, or of LMB_DB. -/
def execMailboxDoorbell (q : Option Who) (v : Word) (s : State) : Out :=
  .next (match q with
    | none => if s.on 10 then s.hostWord 0x0C v.toNat else s
    | some q => s.via q.req 1 fun s => s.writeMbx q 0x15000 v.toNat)

/-- MAILBOX_ACKNOWLEDGE (R315): a write of HIF_MBACK by the host, or of LMB_ACK. -/
def execMailboxAcknowledge (q : Option Who) (v : Word) (s : State) : Out :=
  .next (match q with
    | none => if s.on 10 then s.hostWord 0x14 v.toNat else s
    | some q => s.via q.req 1 fun s => s.writeMbx q 0x15008 v.toNat)

/-- QUEUE_SUBMIT (R342). -/
def execQueueSubmit (v : Word) (s : State) : Out := .next (if s.on 10 then s.queueTail v.toNat else s)

/-- QUEUE_CONSUME (R348). -/
def execQueueConsume (v : Word) (s : State) : Out := .next (if s.on 10 then s.queueHead v.toNat else s)

/-- QUEUE_RESET (R360). -/
def execQueueReset (v : Word) (s : State) : Out := .next (if s.on 10 then s.queueReset v.toNat else s)

end Sys2Proof.Machine
end

