-- ==== Sys2Proof/Machine/DmaOps.lean ====
section
/-!
DEFINITION. The DMA channels as their registers start and stop them (R273, R277, R278).
-/

namespace Sys2Proof.Machine

/-- Change channel `c`. -/
def State.updDma (s : State) (c : Nat) (f : Dma → Dma) : State := { s with dma := s.dma.upd c f }

/-- The channel is to load the descriptor at `a`: TRGPEND is cleared when it is loaded (R273, R278). -/
def State.dmaAsk (s : State) (c a : Nat) : State :=
  ((s.set (R.DMA_CH_STAT_BUSY c) 1).set (R.DMA_CH_STAT_LOADED c) 0).updDma c fun _ => { daddr := a, loadPend := true }

/-- A disable (R278): data read and not written is lost; CUR, LEFT and DONECNT hold values the spec leaves open. -/
def State.dmaDisable (s : State) (c : Nat) : State :=
  let s := if (s.dma.at c).moving then s.set (R.DMA_CH_STAT_ABORT c) 1 else s
  let s := ((s.set (R.DMA_CH_STAT_BUSY c) 0).set (R.DMA_CH_STAT_LOADED c) 0).set (R.DMA_CH_STAT_TRGPEND c) 0
  let (a, s) := s.freeN
  let (l, s) := s.freeN
  let (n, s) := s.freeN
  let s := (s.set (R.DMA_CH_CUR c) a).set (R.DMA_CH_DONECNT c) n
  ((s.set (R.DMA_CH_LEFT_XLEFT c) l).set (R.DMA_CH_LEFT_YLEFT c) (l / 2 ^ 16)).updDma c fun _ => {}

/-- A software trigger (R273, R277): it reloads an idle channel with END set from DESC. -/
def State.dmaSoft (s : State) (c : Nat) : State :=
  if s.flag (R.DMA_CH_STAT_LOADED c) then s.dmaTrigger c
  else if s.flag (R.DMA_CH_STAT_END c) && !(s.dma.at c).loadPend && !(s.dma.at c).stopped then
    s.dmaAsk c (32 * s.get (R.DMA_CH_DESC c))
  else s

/-- The channel is idle: enabled, with no descriptor loaded or being loaded, and no error holding it (R277, R281). -/
def State.dmaIdle (s : State) (c : Nat) : Bool :=
  !s.flag (R.DMA_CH_STAT_BUSY c) && !s.flag (R.DMA_CH_STAT_LOADED c) && !(s.dma.at c).loadPend && !(s.dma.at c).stopped

/-- A write of DMA_CHc_CTRL (R278): EN = 1 enables nothing while BUSY is set, and sets ENERR; on an idle channel it loads
the descriptor at DESC. The write's other fields act: SWTRIG is written with EN = 1 (R273). -/
def State.writeDmaCtrl (s : State) (q : Who) (c v : Nat) : State :=
  let was := s.flag (R.DMA_CH_CTRL_EN c)
  let busy := s.flag (R.DMA_CH_STAT_BUSY c)
  let s := (s.writeReg q (0x5000 + 0x40 * c) v).set (R.DMA_CH_CTRL_SWTRIG c) 0
  if !s.flag (R.DMA_CH_CTRL_EN c) then (if was then s.dmaDisable c else s)
  else if busy then
    let s := (s.setB (R.DMA_CH_CTRL_EN c) was).set (R.DMA_CH_STAT_ENERR c) 1
    if v.testBit 0 && was then s.dmaSoft c else s
  else if !was || s.dmaIdle c then s.dmaAsk c (32 * s.get (R.DMA_CH_DESC c))
  else if v.testBit 0 then s.dmaSoft c
  else s

/-- The BUSY bits of the channels (R285). -/
def State.dmaBusy (s : State) : Nat :=
  (List.range 16).foldl (fun n c => n + s.get (R.DMA_CH_STAT_BUSY c) * 2 ^ c) 0

/-- DMA_ENABLE (R278). -/
def execDmaEnable (q : Who) (c : Fin 16) (v : Word) (s : State) : Out :=
  .next (s.via q.req 8 fun s => s.writeDmaCtrl q c.val v.toNat)

/-- DMA_DISABLE (R278). -/
def execDmaDisable (q : Who) (c : Fin 16) (v : Word) (s : State) : Out :=
  .next (s.via q.req 8 fun s => s.writeDmaCtrl q c.val v.toNat)

/-- DMA_SOFTWARE_TRIGGER (R273). -/
def execDmaSoftwareTrigger (q : Who) (c : Fin 16) (v : Word) (s : State) : Out :=
  .next (s.via q.req 8 fun s => s.writeDmaCtrl q c.val v.toNat)

end Sys2Proof.Machine
end

