-- ==== Sys2Proof/Machine/GateRows.lean ====
section
/-!
DEFINITION. Gate calls, the sealed watchdog and the load of a sealed image (R225, R290 to R309).
-/

namespace Sys2Proof.Machine

/-! ### Gate calls (R295 to R300) -/

/-- A GATE exception for index `i` (R296), 4 cycles after the issue of WGATE (R229): in sealed code it aborts the call,
whose FAULT raises ICU 160. -/
def State.gateExc (s : State) (c i : Nat) : State :=
  let s := s.cycles c 4
  let s := if (s.coreAt c).world then s else s.raise 160
  s.takeExc c 5 (BitVec.ofNat 32 i) 1

/-- WGATE with EXL set is ILLEGAL (R225), after its 4 cycles. -/
def State.gateIllegal (s : State) (c : Nat) : State := (s.cycles c 4).illegal c

/-- A core as an accepted entry gate leaves it (R297): g1 to g6 kept, g28 and g30 from the image, the rest 0,
no tile in use, in the SEALED world at the entry point; SAVE holds where and to what world the call returns (R225). -/
def Core.enterSealed (k : Core) (pc wp sp : Word) (cost : Nat) : Core :=
  { k with
    g := Vector.ofFn fun r : Fin 32 =>
      if 1 ≤ r.val ∧ r.val ≤ 6 then k.rd r else if r = 28 then wp else if r = 30 then sp else 0
    pc := pc &&& 0xFFFFFFFC
    world := true, ie := false, exl := false
    tuse := 0, tprog := 0
    tiles := Vector.replicate 8 (Vector.replicate 64 0), acc := Vector.replicate 64 0
    res := none, locked := false, ld := none, ldNext := none, save := some (k.pc + 4, k.world)
    fromEret := false, fresh := false, resumed := false
    fetchO := k.mpuO, fetchS := k.mpuS
    cycle := k.cycle + BitVec.ofNat 32 cost }

/-- The status that refuses entry gate `n` called by core `c` (R296). -/
def State.gateStatus (s : State) (c n : Nat) : Option Nat :=
  if s.flag R.WLD_STAT_RESTARTING then some 2
  else if !s.flag R.WLD_STAT_LOADED || decide (s.get R.WLD_NGATE ≤ n) || !(s.wld.gates.getD n 0).testBit 0
    || decide (c ≠ 0) then some 1
  else none

/-- A gate call returns at once with a status in g1 (R296, Table 14.5). -/
def State.gateRefuse (s : State) (c st : Nat) : State :=
  s.complete c [1] fun k =>
    { (k.wr 1 (BitVec.ofNat 32 st)).next with res := none, locked := false, cycle := k.cycle + 40 }

/-- Entry gate `n` is entered (R297): the OPEN context as it stands after the WGATE is saved. -/
def State.enterGate (s : State) (n : Nat) : State :=
  let s := s.updCore 0 Core.settle
  let k := s.coreAt 0
  let cost := 128 + 8 * k.tilesUsed + s.flushCost
  let s := { s with wld := { s.wld with
    saved := some { k with pc := k.pc + 4, fromEret := false, fresh := false, resumed := false }, gate := n } }
  let s := (s.updCore 0 fun k =>
    k.enterSealed (BitVec.ofNat 32 (s.wld.gates.getD n 0)) s.wld.wp s.wld.sp cost).switchWorld
  s.stepEnd 0

/-- WGATE_ENTRY (R297): WGATE with the index of entry gate `n`. -/
def execWgateEntry (c : Fin 3) (n : Fin 64) (s : State) : Out :=
  .next (s.issue c 0 fun s =>
    let k := s.coreAt c
    if k.exl then s.gateIllegal c
    else if k.world then s.gateExc c (0x1000 + n)
    else
      match s.gateStatus c n with
      | some st => s.gateRefuse c st
      | none => s.enterGate n)

/-- WGATE_RETURN (R298): WG_RETURN ends the call with WS_OK; from OPEN it is refused. -/
def execWgateReturn (c : Fin 3) (s : State) : Out :=
  .next (s.issue c 0 fun s =>
    let k := s.coreAt c
    if k.exl then s.gateIllegal c
    else if k.world then ((s.updCore c Core.settle).endCall 0 112).stepEnd c
    else s.gateExc c 0)

/-- WGATE_INFO (R295): WG_INFO answers from either world, with no switch. -/
def execWgateInfo (c : Fin 3) (s : State) : Out :=
  .next (s.issue c 0 fun s =>
    if (s.coreAt c).exl then s.gateIllegal c
    else
      let stat := BitVec.ofNat 32 (s.readReg 0x1400C)
      let n := BitVec.ofNat 32 (s.get R.WLD_NGATE)
      let ver := BitVec.ofNat 32 (s.get R.WLD_VERSION)
      s.complete c [1, 2, 3, 4] fun k =>
        { ((((k.wr 1 0).wr 2 stat).wr 3 n).wr 4 ver).next with res := none, locked := false, cycle := k.cycle + 40 })

/-- A gate index that Table 14.3 assigns. -/
def gateAssigned (i : Nat) : Bool := decide (i = 0) || decide (i = 1) || (decide (0x1000 ≤ i) && decide (i < 0x1040))

/-- WGATE_UNASSIGNED (R296): an index that has a row of its own has no effect here. -/
def execWgateUnassigned (c : Fin 3) (idx : BitVec 16) (s : State) : Out :=
  .next (if gateAssigned idx.toNat then s
    else s.issue c 0 fun s => if (s.coreAt c).exl then s.gateIllegal c else s.gateExc c idx.toNat)

/-! ### The sealed watchdog and loads (R293, R294, R302) -/

/-- SEALED_WATCHDOG_EXPIRY (R302): a halt with sealed debug authority stops the count (R303). -/
def execSealedWatchdogExpiry (s : State) : Out :=
  .next (if s.wld.saved.isSome && !s.bit R.DBG_STAT_HALTED 0 && s.plyRuns then
      (let s := ((s.set R.WLD_STAT_WDT 1).raise 163).set R.WLD_STAT_RSBEGIN 1
       (((s.raise 161).abortCall 2).beginLoad 2).journal 302 [s.wld.gate])
    else s)

/-- SEALED_RELOAD (R294): a write of WLD_CTRL; from the SEALED world it is ignored. -/
def execSealedReload (q : Who) (v : Word) (s : State) : Out :=
  .next (s.via q.req 3 fun s => if v.toNat.testBit 0 && !q.sealedW then s.beginLoad 3 else s)

/-- The header of a sealed image (Table 14.1). -/
structure Image where
  base : Nat
  hdr : List Nat
  gates : List Nat

/-- A word of the header. -/
def Image.word (i : Image) (o : Nat) : Nat := fieldOf i.hdr o 4

/-- The image is signed. -/
def Image.signed (i : Image) : Bool := decide (fieldOf i.hdr 6 2 = 1)

/-- Where ITEXT starts. -/
def Image.text (i : Image) : Nat := i.base + 0x40 + 4 * i.gates.length

/-- Where the hashed part of the image ends: after PUBKEY, or after DDATA (R291). -/
def Image.hashEnd (i : Image) : Nat := i.text + i.word 0xC + i.word 0x10 + (if i.signed then 96 else 0)

/-- Where the image ends. -/
def Image.stop (i : Image) : Nat := i.hashEnd + (if i.signed then 96 else 0)

/-- The image has a flash window. -/
def Image.windowed (i : Image) : Bool := decide (i.word 0x20 ≠ 0)

/-- The number of bytes of the window. -/
def Image.winLen (i : Image) : Nat := if i.windowed then i.word 0x24 + 1 - i.word 0x20 else 0

/-- The image at WLD_SIMG. The gate table is read only where NGATE is in range. -/
def State.image (s : State) : Image :=
  let a := 16 * s.get R.WLD_SIMG
  let h := s.rdBytes a 64
  let n := fieldOf h 0x14 4
  { base := a, hdr := h, gates := if n ≤ 64 then wordsOf (s.rdBytes (a + 0x40) (4 * n)) else [] }

/-- An entry lies in ITEXT, where the partition holds it, or in the window (R291). -/
def State.gateIn (s : State) (i : Image) (g : Nat) : Bool :=
  let e := g / 4 * 4
  let lo := 0x20000 - s.spBytes
  (decide (lo ≤ e) && decide (e < lo + i.word 0xC))
    || (i.windowed && decide (i.word 0x20 ≤ e) && decide (e ≤ i.word 0x24))

/-- The form of the image (Table 14.6, FORMAT). -/
def State.imageForm (s : State) (i : Image) : Bool :=
  decide (i.word 0 = 0x4C414553) && decide (fieldOf i.hdr 4 2 = 1) && decide (fieldOf i.hdr 6 2 ≤ 1)
    && allZero (i.hdr.drop 0x28)
    && decide (i.word 0xC % 16 = 0) && decide (i.word 0xC ≤ s.spBytes)
    && decide (i.word 0x10 % 16 = 0) && decide (i.word 0x10 + 0x800 ≤ s.spBytes)
    && decide (1 ≤ i.word 0x14) && decide (i.word 0x14 ≤ 64) && decide (i.word 0x20 % 32 = 0)
    && i.gates.all (fun g => s.gateIn i g && !g.testBit 1)

/-- The image and its window lie in main sectors 0 to 26 and apart (RANGE). -/
def Image.ranged (i : Image) : Bool :=
  inMain i.base && inMain (i.stop - 1)
    && (!i.windowed || (inMain (i.word 0x20) && inMain (i.word 0x24) && decide (i.word 0x20 ≤ i.word 0x24)
      && (decide (i.stop ≤ i.word 0x20) || decide (i.word 0x24 < i.base))))

/-- The bytes of the digest D (R291). -/
def State.imageHashed (s : State) (i : Image) : List Nat :=
  s.rdBytes i.base (i.hashEnd - i.base) ++ s.rdBytes (i.word 0x20) i.winLen

/-- The signature passes: signing is not fused, or the key and the signature verify (R291). -/
def State.imageSigned (s : State) (i : Image) : Bool :=
  let fused := fuseBytes s.shadow 191 12
  let key := s.rdBytes (i.hashEnd - 96) 96
  allZero fused || (i.signed && decide (sha384 key = fused)
    && Config.ecdsaVerify key (s.imageHashed i) (s.rdBytes i.hashEnd 96))

/-- Crerus reads a range of flash: every word in error counts (R397). -/
def State.eccRange (s : State) (a n : Nat) : State :=
  let ws := (s.flash.corr ++ s.flash.unc).filter fun w => decide (a < w + 16) && decide (w < a + n)
  (ws.insertionSort (· ≤ ·)).foldl (fun s w => (s.eccRead w).2) s

/-- The first cause of Table 14.6 that refuses the image. -/
def State.imageFails (s : State) (i : Image) : Option Nat :=
  if s.eccBad i.base 64 then some 5
  else if !s.imageForm i then some 1
  else if !i.ranged then some 2
  else if s.eccBad i.base (i.stop - i.base) || s.eccBad (i.word 0x20) i.winLen then some 5
  else if !s.imageSigned i then some 3
  else if i.word 8 < s.get R.LCS_THERM_CUST then some 4
  else none

/-- The strands whose TCMs a load writes (R293): the group's and a joining strand's. -/
def State.loadHomes (s : State) : List Nat :=
  let j := if s.flag R.PLY_STATUS_JOINING then handStrands (s.get R.PLY_MODE_CUR) s.ply.target else []
  (s.tcmHomes 0 ++ j).dedup

/-- ITEXT and DDATA are copied into the partitions (R293). -/
def State.copyImage (s : State) (i : Image) : State :=
  let lo := 0x20000 - s.spBytes
  let text := s.rdBytes i.text (i.word 0xC)
  let data := s.rdBytes (i.text + i.word 0xC) (i.word 0x10)
  s.loadHomes.foldl (fun s k => (s.wrBytes (itcmKey k lo) text).wrBytes (dtcmKey k lo) data) s

/-- MEAS as its 48 bytes. -/
def State.meas (s : State) : List Nat := (List.range 12).flatMap fun i => toLE 4 (s.get (R.WLD_MEAS i))

/-- MEAS is extended by a digest (R293). -/
def State.extendMeas (s : State) (d : List Nat) : State :=
  let m := sha384 (s.meas ++ d)
  (List.range 12).foldl (fun s i => s.set (R.WLD_MEAS i) (fieldOf m (4 * i) 4)) s

/-- Selvedge programs regions 6 and 7 of the SEALED MPU set (R309). -/
def Mpu.forSealed (m : Mpu) (part : Nat) : Mpu :=
  { m with
    base := (m.base.set 6 (BitVec.ofNat 32 (0x20000 - part))).set 7 0
    lim := (m.lim.set 6 0x0001F700).set 7 0xFFFFFF00
    attr := (m.attr.set 6 0x80000013).set 7 0x80000004 }

/-- The first load after a SYS reset programs the SEALED MPU set (R309). -/
def State.firstLoad (s : State) : State :=
  if s.wld.mpuDone then s
  else
    let s := s.updCore 0 fun k =>
      { k with mpuS := k.mpuS.forSealed s.spBytes, fetchS := k.mpuS.forSealed s.spBytes }
    { s with wld := { s.wld with mpuDone := true } }

/-- An acceptable image is in (R293, step 5). -/
def State.loadGood (s : State) (i : Image) (d : List Nat) : State :=
  let s := (s.copyImage i).extendMeas d
  let x := if i.windowed then i.word 0x20 else 0
  let s := ((s.set R.WLD_SXBASE (x / 32)).set R.WLD_SXLIM (if i.windowed then i.word 0x24 else 0)).set R.WLD_VERSION (i.word 8)
  let s := ((s.set R.WLD_NGATE i.gates.length).inc R.WLD_LOADS).firstLoad
  let s := { s with wld := { s.wld with
    gates := i.gates, sp := BitVec.ofNat 32 (i.word 0x18), wp := BitVec.ofNat 32 (i.word 0x1C), imgEnd := i.stop } }
  ((s.set R.WLD_STAT_LOADED 1).set R.WLD_STAT_RSDONE 1).set R.WLD_STAT_LOADFAIL 0

/-- The load in progress ends (R293, R308). -/
def State.loadEnds (s : State) : State :=
  let i := s.image
  let d := sha384 (s.imageHashed i)
  let c := s.imageFails i
  let s := s.eccRange i.base (min (i.stop - i.base) 0x40000)
  let s := match c with
    | none => s.loadGood i d
    | some c => (s.wipeSealed.set R.WLD_STAT_LOADFAIL 1).set R.WLD_STAT_FAILCAUSE c
  let s := ((s.set R.WLD_STAT_RESTARTING 0).raise 162)
  s.journal 293 (d ++ toLE 4 (i.word 8) ++ [s.get R.WLD_STAT_RSCAUSE])

/-- SEALED_LOAD_COMPLETE (R293): while Crerus runs (R306). -/
def execSealedLoadComplete (s : State) : Out :=
  .next (if s.flag R.WLD_STAT_RESTARTING && s.crerus.alive then s.loadEnds else s)

end Sys2Proof.Machine
end

