-- ==== Sys2Proof/Machine/HealthRows.lean ====
section
/-!
DEFINITION. The health monitor (chapter 26): thermal excursions, the records of the advisory, the
board-service flag.
-/

namespace Sys2Proof.Machine

/-- A sample of the die sensor, in °C (R573). -/
def State.thermal (s : State) (t : Int) : State :=
  if t ≤ 120 then { s with health := { s.health with hotAbove := false } }
  else if 125 < t ∧ s.health.hotAbove = false then
    let s := { s with health := { s.health with hotAbove := true } }
    let s := (s.inc R.HLT_THEXC).raise 189
    let thr := if s.get R.HLT_THTHR = 0 then 16 else s.get R.HLT_THTHR
    if thr ≤ s.get R.HLT_THEXC then s.advise 6 else s
  else s

/-- THERMAL_SAMPLE (R573). -/
def execThermalSample (t : Int) (s : State) : Out := .next (s.thermal t)

/-- Vendor firmware handles the cause bits that rose (R575, R577): one notice, a record per bit in ascending
order with the causes as they stand, and the summary with FIRSTRTC. -/
def State.advisoryRecord (s : State) : State :=
  if s.health.owed.isEmpty || !s.crerus.alive then s
  else
    let bits := (List.range 11).filter fun b => decide (b ∈ s.health.owed)
    let first := if s.health.first = 0 then s.time.rtc.toNat else s.health.first
    let s := { s with health := { s.health with owed := [], first := first } }
    let s := bits.foldl (fun s b => s.journal 575 [b, s.get R.HLT_CAUSE]) s
    (s.journal 577 [s.get R.HLT_CAUSE, first]).raise 144

/-- ADVISORY_RECORD (R575). -/
def execAdvisoryRecord (s : State) : Out := .next s.advisoryRecord

/-- Vendor firmware sets board-service bit `b` (R579): a bit that stands already gives nothing. -/
def State.boardService (s : State) (b : Nat) : State :=
  if !s.crerus.alive then s
  else
    let s := s.set R.HLT_STAT_BSVCLIVE 1
    if s.bit R.HLT_BSVC b then s
    else ((s.setBit R.HLT_BSVC b).journal 579 [b]).raise 144

/-- BOARD_SERVICE_SET (R579). -/
def execBoardServiceSet (b : Fin 3) (s : State) : Out := .next (s.boardService b)

end Sys2Proof.Machine
end

