-- ==== Sys2Proof/Machine/LaneRows.lean ====
section
/-!
DEFINITION. The commands of the lanes, the shedding groups and the Heddle matrix (chapter 03).
-/

namespace Sys2Proof.Machine

/-! ### Lanes -/

/-- LANE_PENDING_RUN_START (R48): the lane accepts a run again, and a held run starts. -/
def execLanePendingRunStart (k : Fin 16) (s : State) : Out :=
  let l := s.lane.at k
  let s' := s.updLane k fun l => { l with hot := false }
  .next (if l.pend && s.flag (R.LN_CTRL_EN k) && !l.shed then runWork (s'.laneRun k) else s')

/-- LANE_MAXAGE_EXPIRY (R66): MAXAGE 0 disables the check. -/
def execLaneMaxageExpiry (k : Fin 16) (s : State) : Out :=
  .next (if s.get (R.LN_IN_MAXAGE k) ≠ 0 then fireAll (State.missBegin 16 s k true) else s)

/-- The pair or comparator a lane of types 1 to 5 holds (R55, R65). -/
def State.laneDest (s : State) (k : Nat) : Option (Nat × Nat) :=
  let t := s.get (R.LN_CTRL_DSTTYPE k)
  let d := s.get (R.LN_CTRL_DSTIDX k)
  if (1 ≤ t ∧ t ≤ 4 ∧ d < 12) ∨ t = 5 then some (t, d) else none

/-- Another enabled lane holds the destination of lane `k`, or names a lane that its DSTMASK names
(R65). -/
def State.destBusy (s : State) (k : Nat) : Bool :=
  (List.range 16).any fun u => decide (u ≠ k) && s.flag (R.LN_CTRL_EN u) &&
    (((s.laneDest k).isSome && decide (s.laneDest u = s.laneDest k)) ||
     decide (s.get (R.LN_DSTMASK u) &&& s.get (R.LN_DSTMASK k) ≠ 0))

/-- An enable of lane `k` whose EN field is set already (R50, R65): refused with DSTBUSY, or taken with
a history to clear at the first run. -/
def State.enableLane (s : State) (k : Nat) : State :=
  if s.destBusy k then (s.set (R.LN_CTRL_EN k) 0).set (R.LN_STAT_DSTBUSY k) 1
  else fireAll (s.updLane k fun l => { l with hclr := true, first := true, pend := false }).missCheck

/-- The conditions of R66, and the SAFE action of lane `k`, after a write of LNk_CTRL. -/
def State.missSafeNow (s : State) (k : Nat) : State × List Nat :=
  let a := s.missCheck
  let b := a.1.missSafe k
  (b.1, a.2 ++ b.2)

/-- A write of LNk_CTRL (R65): the fields, UPD and HCLR for the next run, and an enable or a disable. An
input-missing lane takes up the MISSACT and the destination written (R66). A disable discards a pending run and ends
input-missing. -/
def State.writeLaneCtrl (s : State) (q : Who) (k v : Nat) : State :=
  let was := s.flag (R.LN_CTRL_EN k)
  let s := s.writeReg q (0xC000 + 0x100 * k) v
  let s := if v.testBit 29 then s.updLane k fun l => { l with hclr := true } else s
  let s := s.set (R.LN_CTRL_HCLR k) 0
  let s := s.govJudge
  if s.flag (R.LN_CTRL_EN k) then (if was then fireAll (s.missSafeNow k) else s.enableLane k)
  else if was then (s.updLane k fun l => { l with pend := false }).missEnd k
  else s

/-- LANE_ENABLE (R65). -/
def execLaneEnable (q : Who) (k : Fin 16) (v : Word) (s : State) : Out :=
  .next (s.via q.req 6 fun s => s.writeLaneCtrl q k v.toNat)

/-- LANE_DISABLE (R65). -/
def execLaneDisable (q : Who) (k : Fin 16) (v : Word) (s : State) : Out :=
  .next (s.via q.req 6 fun s => s.writeLaneCtrl q k v.toNat)

/-- LANE_UPD (R65). -/
def execLaneUpd (q : Who) (k : Fin 16) (v : Word) (s : State) : Out :=
  .next (s.via q.req 6 fun s => s.writeLaneCtrl q k v.toNat)

/-- LANE_HCLR (R65). -/
def execLaneHclr (q : Who) (k : Fin 16) (v : Word) (s : State) : Out :=
  .next (s.via q.req 6 fun s => s.writeLaneCtrl q k v.toNat)

/-- A write of LNk_REF (R111): that of the levelling lane is a nominal write. -/
def State.writeLaneRef (s : State) (q : Who) (k v : Nat) : State :=
  let s := s.writeReg q (0xC010 + 0x100 * k) v
  if s.get R.EGV_LVLCFG_LANE = k then { s with gov := { s.gov with nomWrite := true } } else s

/-! ### Shedding groups (R64) -/

/-- The configuration errors that refuse an enable (R64). -/
def State.shedBad (s : State) (g : Nat) : Bool :=
  decide (s.gets (R.SHED_ADD g) ≤ s.gets (R.SHED_DROP g)) || decide (s.get (R.SHED_CFG_NMIN g) = 0)
    || decide (s.get (R.SHED_CFG_NNOM g) < s.get (R.SHED_CFG_NMIN g))
    || decide (s.get (R.SHED_CFG_NMAX g) < s.get (R.SHED_CFG_NNOM g))
    || decide ((s.members g).length < s.get (R.SHED_CFG_NMAX g))
    || (s.members g).any fun k => !(decide (s.get (R.LN_CTRL_DSTTYPE k) = 1 ∨ s.get (R.LN_CTRL_DSTTYPE k) = 2)
        && decide (s.get (R.LN_CTRL_DSTIDX k) < 12))

/-- The group starts at NNOM phases (R64): the members past them are shed. The enable sets CHANGE, and a first change
need not wait DWELL runs after it (DESIGN CHOICE, assumption 14: R64 does not say whether it counts as a change). -/
def State.enableShed (s : State) (g : Nat) : State :=
  if s.shedBad g then (s.set (R.SHED_CFG_EN g) 0).set (R.SHED_STAT_CFGERR g) 1
  else
    let n := s.get (R.SHED_CFG_NNOM g)
    let s := (s.set (R.SHED_STAT_N g) (s.members g).length).shedTo g n
    { s with shed := s.shed.put g { below := 0, since := s.get (R.SHED_CFG_DWELL g), nom := false } }

/-- A write of SHEDg_CFG (R61, R64): the count of an enabled group starts again from the NNOM written at its owner's
next run. A group that is disabled gives its shed members back (DESIGN CHOICE,
assumption 14). -/
def State.writeShedCfg (s : State) (q : Who) (g v : Nat) : State :=
  let was := s.flag (R.SHED_CFG_EN g)
  let s := s.writeReg q (0x7200 + 0x20 * g) v
  if s.flag (R.SHED_CFG_EN g) then (if was then { s with shed := s.shed.upd g fun h => { h with nom := true } } else s.enableShed g)
  else if was then ((s.members g).drop (s.get (R.SHED_STAT_N g))).foldl (fun s k => s.shedMember k false) s
  else s

/-- SHED_GROUP_ENABLE (R64). -/
def execShedGroupEnable (q : Who) (g : Fin 2) (v : Word) (s : State) : Out :=
  .next (s.via q.req 6 fun s => s.writeShedCfg q g v.toNat)

/-! ### Heddle matrix (R58) -/

/-- A write of HED_DSTn (R58): it writes SRC, so the divider count restarts. -/
def State.writeHedDst (s : State) (q : Who) (n v : Nat) : State :=
  let s := s.writeReg q (0x7000 + 4 * n) v
  { s with hedCnt := s.hedCnt.put n 0 }

/-- HEDDLE_DESTINATION_WRITE (R58). -/
def execHeddleDestinationWrite (q : Who) (n : Fin 96) (v : Word) (s : State) : Out :=
  .next (s.via q.req 6 fun s => s.writeHedDst q n v.toNat)

/-- A write of HED_SWSTB fires sources 120 to 123 (R58, Table 3.8). -/
def State.strobe (s : State) (m : Nat) : State :=
  s.fire (((List.range 4).filter fun b => m.testBit b).map fun b => 120 + b)

/-- HEDDLE_SOFTWARE_STROBE (R58). -/
def execHeddleSoftwareStrobe (q : Who) (m : BitVec 4) (s : State) : Out :=
  .next (s.via q.req 6 fun s => s.strobe m.toNat)

end Sys2Proof.Machine
end

