-- ==== Sys2Proof/Machine/PowerRows.lean ====
section
/-!
DEFINITION. The commands of the power sequencer (chapter 22) that need neither Crerus's replies nor the Draft:
stops, quiescing, losses, wakes and the requests of the PWR frame.
-/

namespace Sys2Proof.Machine

/-! ### Stops (R485) -/

/-- POWER_ACK_READY (R485): a write of PWR_ACK. -/
def execPowerAckReady (q : Who) (v : Word) (s : State) : Out :=
  .next (s.via q.req 0 fun s => s.writeReg q 0x2018 v.toNat)

/-- A core stops at an instruction boundary: a load in its slot completes. -/
def Core.stop (k : Core) : Core := { k.settle.parkMove with run := .stopped }

/-- ACKTO has passed for core `c` (R485): it stops where its boundary lies outside every locked sequence and
sealed call, and no access holds it. -/
def State.forceStop (s : State) (c : Nat) : State :=
  let k := s.coreAt c
  let runs := s.coreExists c && (decide (k.run = .issuing) || decide (k.run = .wfi)) && !s.bit R.DBG_STAT_HALTED c
  let held := s.haltLocked c || k.mustWait || (decide (c = 0) && s.wld.saved.isSome)
  if s.flag R.PWR_STATE_ENTRY && runs && !held then s.updCore c Core.stop else s

/-- POWER_FORCED_STOP_TIMEOUT (R485). -/
def execPowerForcedStopTimeout (c : Fin 3) (s : State) : Out := .next (s.forceStop c)

/-! ### Quiescing (R479, R484, R488) -/

/-- SLEEP stops every lane, pair and timer, and the PWM balls take their latches (R488). -/
def State.sleepLoom (s : State) : State :=
  let s := s.holdPads
  let s := (List.range 16).foldl (fun s k => s.set (R.LN_CTRL_EN k) 0) s
  let s := (List.range 12).foldl (fun s p => (s.updPwm p fun w => { w with run := false, idle := true }).idleOut p) s
  let s := s.timersDown
  { s with loomCfg := false }

/-- The next domain of a HOLD or SLEEP entry, after `d` has gone down (R484, R488). -/
def State.entryNext (s : State) (d : Nat) : State :=
  let sleep := decide (s.get R.PWR_STATE_PSTATE = 3)
  match d with
  | 1 => s.quiesce 2 0
  | 2 => if sleep then (if s.on 7 then s.sleepLoom.quiesce 7 0 else s.sleepLoom.quiesce 6 0) else s
  | 7 => if sleep then s.quiesce 6 0 else s
  | 6 => if sleep then s.quiesce 8 1 else s
  | _ => s

/-- What holds a domain in its drain: a dependent that is still on (R476), a conversion (R42), a flash
operation (R405). -/
def State.draining (s : State) (d : Nat) : Bool :=
  (dependents d).any s.domLive
    || (decide (d = 7) && (List.range 8).any fun i => (s.adc.at i).busy)
    || (decide (d = 2) && s.flashBusy)

/-- Domain `d` has drained (R479): it goes to the state its quiesce names, and what follows in an entry begins. -/
def State.quiesced (s : State) (d : Nat) : State :=
  match s.pwr.quiet.find? fun x => decide (x.1 = d) with
  | none => s
  | some (_, st) =>
    if s.draining d then s
    else
      let s := s.goDown d st
      if s.asleep && !s.flag R.PWR_STATE_EXIT then (s.entryNext d).wakeLate
      else if s.flag R.PWR_STATE_ENTRY then s
      else s.bringUp

/-- DOMAIN_QUIESCE_COMPLETE (R479). -/
def execDomainQuiesceComplete (d : Fin 12) (s : State) : Out := .next (s.quiesced d)

/-! ### Unplanned losses (R481, Table 22.3) -/

/-- Strand `k` loses its power (Table 22.3): retired in TRIPLE, else an unrecoverable fault. -/
def State.strandLost (s : State) (k : Nat) : State :=
  if s.plyMode = 0 then
    if s.get R.PLY_STATUS_RETIRED = k then s
    else if s.get R.PLY_STATUS_RETIRED ≠ 3 then (s.plyFault 3).resyncWindow
    else if s.flag R.PLY_STATUS_RESYNC && decide (s.get R.PLY_STATUS_ODD ≠ k) then (s.plyFault 1).resyncWindow
    else ((s.set R.PLY_STATUS_RETIRED k).set R.PLY_STATUS_RESYNC 0).advise 1
  else if s.plyMode = 1 ∧ k < 2 then (s.plyFault 3).resyncWindow
  else (s.plyFault 5).resyncWindow

/-- What the loss of domain `d` brings about before what it holds is gone (Table 22.3). -/
def State.lossOf (s : State) (d : Nat) : State :=
  match d with
  | 1 => { s with crerus := { s.crerus with alive := false } }
  | 2 => (s.jrnlStop false).flashStop
  | 3 => s.strandLost 0
  | 4 => s.strandLost 1
  | 5 => s.strandLost 2
  | 6 => s.holdPads
  | 7 => s.analogDown
  | 8 => s.dropBanks (s.get R.PWR_SRAM_RET)
  | 11 => s.engineAbort 0x61 0
  | _ => s

/-- Domain `d` is lost: FAULT and PWR_FAULT, with ICU 188 and a record; at the third loss it stays so (R481). -/
def State.domainLost (s : State) (d : Nat) : State :=
  let s := ((s.set (R.PWR_DOM d) 5).lossOf d).loseDomain d
  let s := { s with pwr := { s.pwr with losses := d :: s.pwr.losses, quiet := s.pwr.quiet.filter fun x => decide (x.1 ≠ d) } }
  let s := (((s.setBit R.PWR_FAULT_LOST d).set R.PWR_FAULT_LAST d).raise 188).journal 481 [d]
  let s := if 3 ≤ s.pwr.losses.count d then s.advise 9 else s
  s.bypassCheck

/-- `set` with every domain that requires one of it, directly or not, by three passes over the table (the longest
chain of Table 22.1 has three steps). -/
def withDependents (set : List Nat) : List Nat :=
  let grow (l : List Nat) : List Nat := (List.range 12).filter fun d => decide (d ∈ l) || (requires d).any fun r => decide (r ∈ l) && decide (r ≠ 0)
  grow (grow (grow set))

/-- The domains of `set`, with their dependents, are lost on one edge (R481): dependents first. -/
def State.loseAll (s : State) (set : List Nat) : State :=
  ([3, 4, 5, 7, 11, 1, 6, 8, 2, 9, 10].filter fun d => decide (d ∈ withDependents set)).foldl
    (fun s d => if s.domLive d then s.domainLost d else s) s

/-- PD0 falls below its threshold, which it can on VBAT alone (R384, R477, R521): it is without supply until the main
supply returns. -/
def State.batteryLost (s : State) : State := if s.flag R.TMP_STAT_ONVBAT then s.set (R.PWR_DOM 0) 0 else s

/-- DOMAIN_UNPLANNED_LOSS (R481): the bits of the domains that fell below their threshold. -/
def execDomainUnplannedLoss (lost : BitVec 12) (s : State) : Out :=
  .next ((if lost.getLsbD 0 then s.batteryLost else s).loseAll ((List.range 12).filter fun d => decide (d ≠ 0) && lost.toNat.testBit d))

/-- The sequencer switches a lost domain on again (R481). -/
def State.restartDomain (s : State) (d : Nat) : State :=
  if s.domIs d 5 && decide (s.pwr.losses.count d < 3) then
    let s := s.set (R.PWR_DOM d) 0
    let s := if 3 ≤ d ∧ d ≤ 5 then { s with pwr := { s.pwr with leanOff := insOnce s.pwr.leanOff d } } else s
    s.switchOn d
  else s

/-- DOMAIN_RESTART (R481). -/
def execDomainRestart (d : Fin 12) (s : State) : Out := .next (s.restartDomain d)

/-- The main supply is lost (R491, R539): PD0 goes on from VBAT, every other domain is lost and OFF, and a flash
operation is cut off (R406). -/
def State.toBattery (s : State) : State :=
  if s.flag R.TMP_STAT_ONVBAT then s
  else
    let s := (s.set R.TMP_STAT_ONVBAT 1).loseAll ((List.range 12).drop 1)
    let s := ((List.range 12).drop 1).foldl (fun s d => s.set (R.PWR_DOM d) 0) s
    let s := s.wipe sramBase sramEnd
    { s with core := s.core.map Core.hold }

/-- MAIN_SUPPLY_LOSS (R491). -/
def execMainSupplyLoss (s : State) : Out := .next s.toBattery

/-! ### Wakes (R260, R265, R487) -/

/-- The saved value of an ICU field, in SLEEP. -/
def State.savedIcu (s : State) (f : Fld) : Nat :=
  match s.icu.saved with
  | some r => r.get f
  | none => 0

/-- ICU source `n` wakes the part (Table 22.5): with HWAKE and the conditions of R259, in SLEEP through the wake
latch. -/
def State.sourceWakes (s : State) (n : Nat) : Bool :=
  if s.on 6 then s.flag (R.ICU_SRC_HWAKE n) && s.icuOffers (s.icuRoute n) n
  else decide (n ∈ s.icu.wake) && decide (s.savedIcu (R.ICU_SRC_EN n) ≠ 0) && decide (s.savedIcu (R.ICU_SRC_HWAKE n) ≠ 0)

/-- POWER_WAKE (R487): WAKESRC 1; the other sources wake the part in their own commands. -/
def execPowerWake (n : Fin 224) (s : State) : Out := .next (if s.sourceWakes n then s.wake 1 n else s)

/-! ### Requests of the PWR frame (R492) -/

/-- A domain is switched off by a request, where the state of the part holds it ON. -/
def State.askOff (s : State) (d : Nat) : State := if s.on d then s.quiesce d 0 else s

/-- A write of PWR_DOMREQ (R492): switching PD7 off is refused while the governor is active. -/
def State.writeDomreq (s : State) (q : Who) (v : Nat) : State :=
  let was7 := s.flag R.PWR_DOMREQ_PD7OFF
  let was11 := s.flag R.PWR_DOMREQ_PD11OFF
  let s := s.writeReg q 0x200C v
  let now7 := s.flag R.PWR_DOMREQ_PD7OFF
  let now11 := s.flag R.PWR_DOMREQ_PD11OFF
  let s := if now7 && !was7 then
      (if s.govActive then (s.set R.PWR_DOMREQ_PD7OFF 0).set R.PWR_DOMREQ_REQERR 1 else s.askOff 7)
    else if was7 && !now7 then s.switchOn 7
    else s
  if now11 && !was11 then s.askOff 11
  else if was11 && !now11 then s.switchOn 11
  else s

/-- PD7_POWER_REQUEST (R492). -/
def execPd7PowerRequest (q : Who) (v : Word) (s : State) : Out := .next (s.via q.req 0 fun s => s.writeDomreq q v.toNat)

/-- PD11_POWER_REQUEST (R492). -/
def execPd11PowerRequest (q : Who) (v : Word) (s : State) : Out := .next (s.via q.req 0 fun s => s.writeDomreq q v.toNat)

/-- A write of PWR_SRAM (R492): a bank that is switched off loses its contents. -/
def State.writeSram (s : State) (q : Who) (v : Nat) : State :=
  let s := s.writeReg q 0x2010 v
  s.dropBanks (15 - s.get R.PWR_SRAM_OFF)

/-- SRAM_BANK_POWER_REQUEST (R492). -/
def execSramBankPowerRequest (q : Who) (v : Word) (s : State) : Out :=
  .next (s.via q.req 0 fun s => s.writeSram q v.toNat)

end Sys2Proof.Machine
end

