-- ==== Sys2Proof/Machine/SampleRows.lean ====
section
/-!
DEFINITION. The commands of the sample path (chapter 02): the ADC cores, the comparators, the DAC
balls and the reference monitor. The voltages of the balls, of REF_INT and of the internal sources are operands, in
microvolts; VREF is formed from them (R23).
-/

namespace Sys2Proof.Machine

/-! ### ADC -/

/-- A write of ADCn_CTRL (R44): the fields, the lanes whose core goes off (R66), and the slots that
SWSTART triggers, in ascending order (R25). -/
def State.writeAdcCtrl (s : State) (q : Who) (i v : Nat) : State :=
  let s := s.writeReg q (0xD000 + 0x100 * i) v
  let s := fireAll s.missCheck
  (List.range 4).foldl (fun s m => if (v / 256).testBit m then s.adcTrigger i m else s)
    (s.set (R.ADC_CTRL_SWSTART i) 0)

/-- ADC_SOFTWARE_START (R44, R42). -/
def execAdcSoftwareStart (q : Who) (i : Fin 8) (v : Word) (s : State) : Out :=
  .next (s.via q.req 7 fun s => s.writeAdcCtrl q i v.toNat)

/-- The lowest slot whose pending bit is set (R25). -/
def State.nextSlot (s : State) (i : Nat) : Option Nat :=
  (List.range 4).find? fun m => s.bit (R.ADC_STAT_PEND i) m

/-- A free core opens the aperture of slot `m` (R25, R27): AVG 7 acts as 6. -/
def State.openAperture (s : State) (i m : Nat) : State :=
  let s := s.clrBit (R.ADC_STAT_PEND i) m
  let c : AdcCore := { busy := true, slot := m, num := (s.res.at (4 * i + m)).opens + 1,
                       sel := s.get (R.ADC_SLOT_SEL i m), avg := min 6 (s.get (R.ADC_SLOT_AVG i m)) }
  { s with adc := s.adc.put i c, res := s.res.upd (4 * i + m) fun r => { r with opens := r.opens + 1 } }

/-- ADC_PENDING_SLOT_START (R25). Clearing a core's EN drops further triggers alone: slots that are pending then are
still served, and a conversion that runs ends (DESIGN CHOICE, assumption 67: R44 does not say). -/
def execAdcPendingSlotStart (i : Fin 8) (s : State) : Out :=
  .next (if !s.on 7 || (s.adc.at i).busy then s
    else match s.nextSlot i with
      | some m => s.openAperture i m
      | none => s)

/-- Deliver a result of core `i` and fire the slot's completion source 52 + 4i + m (R24, Table 3.3). -/
def State.adcComplete (s : State) (i : Nat) (x : Int) : State :=
  (s.adcDeliver i x).fire [52 + 4 * i + (s.adc.at i).slot]

/-- ADC_CONVERSION_DONE (R24, R26, R27): a single conversion is delivered; within an averaging sequence
each conversion but the last adds its code to the sum. -/
def execAdcConversionDone (i : Fin 8) (v : PinVolts) (e : DieVolts) (r : RefVolts) (s : State) : Out :=
  let c := s.adc.at i
  let x := s.coreCode i v e r
  .next (if !c.busy then s
    else if c.avg = 0 then x.2.adcComplete i x.1
    else if c.cnt + 1 < 2 ^ c.avg then
      { x.2 with adc := x.2.adc.put i { c with cnt := c.cnt + 1, sum := c.sum + x.1 } }
    else s)

/-- ADC_AVERAGE_DONE (R27): the last conversion of a sequence is coded and the rounded mean delivered. -/
def execAdcAverageDone (i : Fin 8) (v : PinVolts) (e : DieVolts) (r : RefVolts) (s : State) : Out :=
  let c := s.adc.at i
  let x := s.coreCode i v e r
  .next (if c.busy && decide (c.avg ≠ 0) && decide (c.cnt + 1 = 2 ^ c.avg) then
      x.2.adcComplete i (rhe c.avg (c.sum + x.1))
    else s)

/-- An ACTIVE read of ADCn_RESm answers the word and clears NEW (R44). -/
def State.readAdcRes (s : State) (q : Req) (i m : Nat) : State :=
  (s.reply q .ok (s.readReg (0xD020 + 0x100 * i + 4 * m))).set (R.ADC_RES_NEW i m) 0

/-- ADC_RESULT_READ (R44). -/
def execAdcResultRead (q : Who) (i : Fin 8) (m : Fin 4) (s : State) : Out :=
  .next (s.via q.req 7 fun s => s.readAdcRes q.req i m)

/-! ### Comparators -/

/-- The AIN ball of comparator `j` (R29): AIN(j), AIN(j+2), AIN(j+6) or AIN(j+8), for INSEL 0 to 3. -/
def State.cmpBall (s : State) (j : Nat) : Nat :=
  match s.get (R.CMP_CFG_INSEL j) with
  | 0 => j
  | 1 => j + 2
  | 2 => j + 6
  | _ => j + 8

/-- The threshold code (R30): THR less the whole part of the ramp, saturated at 0. `edges` counts the
LOOM edges since the ramp last restarted; the ramp is 0 while SLPEN is clear or until the first zero after it is
set, while pair SLPPAIR does not run, and for SLPPAIR 12 to 15. -/
def State.cmpThreshold (s : State) (j edges : Nat) : Nat :=
  let p := s.get (R.CMP_CFG_SLPPAIR j)
  let ramp := if s.flag (R.CMP_CFG_SLPEN j) && decide (p < 12) && (s.pwm.at (s.leader p)).run && (s.cmp.at j).armed
    then s.get (R.CMP_SLOPE j) * edges / 4096 else 0
  s.get (R.CMP_THR j) - ramp

/-- The hysteresis in microvolts (Table 2.8). -/
def State.hystMicro (s : State) (j : Nat) : Nat :=
  match s.get (R.CMP_CFG_HYST j) with
  | 0 => 0
  | 1 => 10000
  | 2 => 20000
  | _ => 40000

/-- The unfiltered output for an input of `vin` (R31): it rises above the threshold, code × VREF ÷ 4096 (R30), and
falls below the threshold less the hysteresis. -/
def State.cmpRaw (s : State) (j vin : Nat) (r : RefVolts) (edges : Nat) : Bool :=
  let (vn, vd) := s.vref r
  let thr := s.cmpThreshold j edges * vn
  if s.flag (R.CMP_STAT_RAW j) then decide (thr ≤ 4096 * (vin + s.hystMicro j) * vd)
  else decide (thr < 4096 * vin * vd)

/-- The filtered output takes the unfiltered level (R31). -/
def State.cmpFilter (s : State) (j : Nat) : State :=
  let raw := s.flag (R.CMP_STAT_RAW j)
  fireAll ({ s with cmp := s.cmp.upd j fun c => { c with filt := raw } }.cmpRefresh j)

/-- COMPARATOR_CROSSING (R29, R31, R32): the voltage of an AIN ball, which acts where INSEL names that ball. With FILT 0
the filter is bypassed. -/
def execComparatorCrossing (j : Fin 16) (a : AinVolts) (r : RefVolts) (edges : Nat) (s : State) : Out :=
  .next (if !s.on 7 || !s.flag (R.CMP_CFG_EN j) || decide (s.cmpBall j ≠ a.ball) then s
    else
      let s := s.setB (R.CMP_STAT_RAW j) (s.cmpRaw j a.v r edges)
      if s.get (R.CMP_CFG_FILT j) = 0 then s.cmpFilter j else s)

/-- CMP_FILTER_SETTLED (R31). -/
def execCmpFilterSettled (j : Fin 16) (s : State) : Out :=
  .next (if !s.on 7 || !s.flag (R.CMP_CFG_EN j) then s else s.cmpFilter j)

/-- CMP_BLANKING_END (R31, R32): a comparator still above its threshold rises and trips now. -/
def execCmpBlankingEnd (j : Fin 16) (s : State) : Out :=
  .next (fireAll ({ s with cmp := s.cmp.upd j fun c => { c with blank := false } }.cmpRefresh j))

/-- A write of CMPj_CFG (R30, R31, R93): clearing EN takes the output low; setting SLPEN holds the ramp at 0
until the pair's next zero; FILT 0 lets the unfiltered level through at once; and an output that is high feeds the trip
path from the edge that sets TRIPEN. -/
def State.writeCmpCfg (s : State) (q : Who) (j v : Nat) : State :=
  let was := s.flag (R.CMP_CFG_SLPEN j)
  let s := s.writeReg q (0xE000 + 0x20 * j) v
  let s := if !was && s.flag (R.CMP_CFG_SLPEN j) then
      { s with cmp := s.cmp.upd j fun c => { c with armed := false } } else s
  let s := if s.flag (R.CMP_CFG_EN j) then s
    else { s.set (R.CMP_STAT_RAW j) 0 with cmp := s.cmp.upd j fun c => { c with filt := false } }
  let raw := s.flag (R.CMP_STAT_RAW j)
  let s := if s.get (R.CMP_CFG_FILT j) = 0 then { s with cmp := s.cmp.upd j fun c => { c with filt := raw } } else s
  let (s, e) := s.cmpRefresh j
  let (s, f) := s.judgeTrips
  s.fire (e ++ f)

/-! ### DAC outputs (R33) -/

/-- DAC `k` starts settling: until it has settled, its ball stands at a level the spec leaves open. -/
def State.dacSettle (s : State) (k : Nat) : State :=
  { s with dac := s.dac.put k { settle := 125, free := s.free }, free := s.free + 1 }

/-- A write of DAC0_DATA, DAC1_DATA or DAC_EN (R33): a data write, and a write that sets an EN, start
settling. -/
def State.writeDac (s : State) (q : Who) (r v : Nat) : State :=
  let e0 := s.flag R.DAC_EN_EN0
  let e1 := s.flag R.DAC_EN_EN1
  let s := s.writeReg q (0xE800 + 4 * r) v
  if r < 2 then s.dacSettle r
  else
    let s := if !e0 && s.flag R.DAC_EN_EN0 then s.dacSettle 0 else s
    if !e1 && s.flag R.DAC_EN_EN1 then s.dacSettle 1 else s

/-- DAC_WRITE (R33). -/
def execDacWrite (q : Who) (r : Fin 3) (v : Word) (s : State) : Out :=
  .next (s.via q.req 7 fun s => s.writeDac q r v.toNat)

/-- The level at the ball of DAC `k` in units of VREF ÷ 2^24, as it last settled or settles; none is high impedance
(R33). The ball is driven while EN is set and PD7 is ON or quiesces (R42, Table 22.2). -/
def State.dacBall (s : State) (k : Nat) : Option Nat :=
  if (!s.on 7 && decide (s.get (R.PWR_DOM 7) ≠ 4)) || !s.flag (if k = 0 then R.DAC_EN_EN0 else R.DAC_EN_EN1) then none
  else some (dacOut (s.get (R.DAC_DATA k)) (s.dac.at k).settle (Config.freeValue (s.dac.at k).free))

/-! ### Reference monitor -/

/-- The unit of the deviations: 1 in units of 2^(-20) (R34). -/
def unitDev : Int := 2 ^ 20

/-- A mean of measured deviations, rounded to a whole unit in a direction the spec leaves open. -/
def meanDev (xs : List Int) : Int :=
  if xs = [] then 0
  else
    let q := xs.sum.fdiv xs.length
    if xs.sum.fmod xs.length ≠ 0 ∧ Config.meanRoundsUp xs then q + 1 else q

/-- A ratio less 1 in units of 2^(-20), rounded to a whole unit in a direction the spec leaves open. -/
def roundDev (num den : Int) : Int :=
  let q := (unitDev * (num - den)).fdiv den
  if (unitDev * (num - den)).fmod den ≠ 0 ∧ Config.meanRoundsUp [num, den] then q + 1 else q

/-- The deviation of numbered reference `a` against `b` as a ratio V_a/NOM_a : V_b/NOM_b, from the
published deviations (R34): 0 INT, 1 A, 2 B. -/
def State.devRatio (s : State) (a b : Nat) : Int × Int :=
  match a, b with
  | 0, 1 => (unitDev + s.gets R.RFM_DEV_IA, unitDev)
  | 1, 0 => (unitDev, unitDev + s.gets R.RFM_DEV_IA)
  | 0, 2 => (unitDev + s.gets R.RFM_DEV_IB, unitDev)
  | 2, 0 => (unitDev, unitDev + s.gets R.RFM_DEV_IB)
  | 1, 2 => (unitDev + s.gets R.RFM_DEV_AB, unitDev)
  | 2, 1 => (unitDev, unitDev + s.gets R.RFM_DEV_AB)
  | _, _ => (1, 1)

/-- Is reference `n` fitted (Table 2.13)? REF_INT always is. -/
def State.refFitted (s : State) (n : Nat) : Bool :=
  decide (n = 0) || (decide (n = 1) && s.flag R.RFM_CFG_FITA) || (decide (n = 2) && s.flag R.RFM_CFG_FITB)

/-- The published deviation of a pair of references (R34). -/
def State.pairDev (s : State) (a b : Nat) : Int :=
  if a + b = 1 then s.gets R.RFM_DEV_IA else if a + b = 2 then s.gets R.RFM_DEV_IB else s.gets R.RFM_DEV_AB

/-- Two fitted references agree (R34). -/
def State.refAgree (s : State) (a b : Nat) : Bool :=
  s.refFitted a && s.refFitted b && decide ((s.pairDev a b).natAbs ≤ s.get R.RFM_WIN_INNER)

/-- The fitted references other than `n`, in order. -/
def State.refOthers (s : State) (n : Nat) : List Nat := (List.range 3).filter fun m => decide (m ≠ n) && s.refFitted m

/-- The deviation of reference `n` against one other (R35). -/
def State.devOne (s : State) (n m : Nat) : Int := let (a, b) := s.devRatio n m; roundDev a b

/-- The deviation of reference `n` against the mean of two others (R35): 2 ÷ (V_x/V_n + V_y/V_n) − 1. -/
def State.devMean (s : State) (n x y : Nat) : Int :=
  let (a, b) := s.devRatio x n
  let (c, d) := s.devRatio y n
  roundDev (2 * b * d) (a * d + c * b)

/-- The deviation d of reference `n` (R35, R41): none where there is no majority. With two references
fitted it is taken against the other. -/
def State.devOf (s : State) (n : Nat) : Option Int :=
  match s.refOthers n with
  | [m] => some (s.devOne n m)
  | [x, y] =>
    if s.refAgree x y then some (s.devMean n x y)
    else if s.refAgree n x && !s.refAgree n y then some (s.devOne n x)
    else if s.refAgree n y && !s.refAgree n x then some (s.devOne n y)
    else none
  | _ => none

/-- The gain correction moves toward a target by at most 32 units, within ±2,097 (R36). -/
def gcorrStep (now target : Int) : Int :=
  satI (-2097) 2097 (if now < target then min target (now + 32) else max target (now - 32))

/-- The no-majority rule (R39): GCORR is frozen, NOMAJ and FAULT set, ICU 134 and the advisory. -/
def State.noMajority (s : State) : State :=
  ((s.set R.RFM_STAT_NOMAJ 1).flagRise R.RFM_STAT_FAULT 134).advise 2

/-- The deviation of a reference at `v` against one at `w`, DEV = (V_X ÷ NOM_X) ÷ (V_Y ÷ NOM_Y) − 1, in units of
2^(−20) (R34). Where a declared NOM or the other voltage is 0 the rule gives no ratio: the deviation is the free number
`x` (DESIGN CHOICE, assumption 30). -/
def devOfVolts (v nv w nw x : Nat) : Int :=
  if nv = 0 ∨ w = 0 then x else roundDev (v * nw) (w * nv)

/-- Publish the deviations of a cycle (R34): the mean of the last eight, saturating. Until eight cycles lie behind it,
after a start or after a reference is fitted again, the mean is that of the cycles there are (DESIGN CHOICE,
assumption 67: R34 states no other). -/
def State.rfmPublish (s : State) (ia ib ab : Int) : State :=
  let r := s.rfm
  let hist (fit : Bool) (x : Int) (l : List Int) : List Int := if fit then (x :: l).take 8 else []
  let r := { r with
    ia := hist (s.refFitted 1) ia r.ia, ib := hist (s.refFitted 2) ib r.ib,
    ab := hist (s.refFitted 1 && s.refFitted 2) ab r.ab }
  let s := { s with rfm := r }
  let s := if s.refFitted 1 then s.sets R.RFM_DEV_IA (satS 16 (meanDev r.ia)) else s
  let s := if s.refFitted 2 then s.sets R.RFM_DEV_IB (satS 16 (meanDev r.ib)) else s
  if s.refFitted 1 && s.refFitted 2 then s.sets R.RFM_DEV_AB (satS 16 (meanDev r.ab)) else s

/-- The outer window with the two other references in agreement (R37, R38): within the hold-off the
switch is held; with SWEN clear nothing but the flags of R36 is set; else it is decided. -/
def State.rfmDecide (s : State) (d : Int) : State :=
  match s.refOthers (s.get R.RFM_STAT_ACTIVE) with
  | [x, y] =>
    if s.get R.RFM_WIN_OUTER < d.natAbs ∧ s.refAgree x y ∧ s.flag R.RFM_CFG_SWEN then
      (if s.rfm.holdoff then s.flagRise R.RFM_STAT_HELD 135
        else if s.rfm.next = none then { s with rfm := { s.rfm with next := some x } } else s)
    else s
  | _ => s

/-- The judgement of a cycle against the deviation `d` of the selected reference (R36 to R41). -/
def State.rfmJudge (s : State) (d : Int) : State :=
  let two := decide ((s.refOthers (s.get R.RFM_STAT_ACTIVE)).length = 1)
  let beyond := decide (s.get R.RFM_WIN_INNER < d.natAbs)
  let s := if beyond then s.flagRise R.RFM_STAT_INNER 132 else s
  if two && decide (s.get R.RFM_WIN_OUTER < d.natAbs) then s.noMajority
  else
    let s := s.set R.RFM_STAT_NOMAJ 0
    let s := s.sets R.RFM_GCORR (gcorrStep (s.gets R.RFM_GCORR) (if beyond then d else 0))
    s.rfmDecide d

/-- Does any fitted reference agree with the selected one (R38)? -/
def State.refAlone (s : State) : Bool :=
  let a := s.get R.RFM_STAT_ACTIVE
  !(s.refOthers a).isEmpty && (s.refOthers a).all fun m => !s.refAgree a m

/-- The deviations of a cycle from the voltages of the references (R34): INT against A, INT against B, A against B. -/
def State.cycleDevs (s : State) (r : RefVolts) (x : Nat) : Int × Int × Int :=
  (devOfVolts r.int 1500000 r.a (s.refNom 1) x, devOfVolts r.int 1500000 r.b (s.refNom 2) x,
    devOfVolts r.a (s.refNom 1) r.b (s.refNom 2) x)

/-- The judgement of a cycle whose self-check is `selfOk`, after the publication (R36 to R41). -/
def State.rfmCycle (s : State) (selfOk : Bool) : State :=
  let s := s.setB R.RFM_STAT_SELFCHK (!selfOk)
  let s := if s.refAlone then s.advise 2 else s
  if !selfOk then (s.flagRise R.RFM_STAT_FAULT 134).advise 2
  else match s.refOthers (s.get R.RFM_STAT_ACTIVE) with
    | [] => s.set R.RFM_GCORR 0
    | _ => match s.devOf (s.get R.RFM_STAT_ACTIVE) with
      | some d => s.rfmJudge d
      | none => s.noMajority

/-- RFM_MEASUREMENT_CYCLE_END (R34 to R41): the deviations of the cycle, in which REF_INT, REFA and REFB stood at `vi`,
`va` and `vb` microvolts, are published and judged. The deviations of a cycle whose self-check fails are published too and enter the mean (DESIGN CHOICE, assumption 67: R40 does not say). -/
def execRfmMeasurementCycleEnd (vi va vb : Nat) (selfOk : Bool) (s : State) : Out :=
  let x := s.freeN
  let d := s.cycleDevs { int := vi, a := va, b := vb } x.1
  .next (if !s.on 7 then s else (x.2.rfmPublish d.1 d.2.1 d.2.2).rfmCycle selfOk)

/-- The switch of R37 at a pick boundary: the reference, its gain correction, the flag, ICU 133, the
count and the pick; the cores in `spans` have a result that spans the boundary. A second switch since
the last SYS reset is an advisory (R38). -/
def State.rfmSwitch (s : State) (spans : Nat → Bool) : State :=
  match s.rfm.next with
  | none => s
  | some n =>
    if !s.on 7 || s.flag R.RFM_STAT_SELFCHK then s
    else
      let again := s.rfm.switched
      let s := { s with rfm := { s.rfm with next := none, holdoff := true, switched := true } }
      let s := s.set R.RFM_STAT_ACTIVE n
      let s := s.sets R.RFM_GCORR (satS 16 ((s.devOf n).getD (s.gets R.RFM_GCORR)))
      let s := (s.set R.RFM_STAT_SWITCHED 1).raise 133
      let s := if again then s.advise 2 else s
      let s := (s.inc R.RFM_SWCNT).set R.RFM_LASTSW s.time.tb.toNat
      { s with adc := Vector.ofFn fun i => if spans i.val && (s.adc.at i.val).busy
                  then { s.adc.at i.val with spans := true } else s.adc.at i.val }

/-- RFM_REFERENCE_SWITCH (R37): at an eligible boundary no single conversion spans it, so the results
that do are averaging sequences, named by `spans`. -/
def execRfmReferenceSwitch (spans : BitVec 8) (s : State) : Out :=
  .next (s.rfmSwitch fun i => spans.getLsbD i && decide ((s.adc.at i).avg ≠ 0))

/-- RFM_SWITCH_DEADLINE (R37): at the 125th boundary the switch is made whatever spans it. -/
def execRfmSwitchDeadline (spans : BitVec 8) (s : State) : Out :=
  .next (s.rfmSwitch fun i => spans.getLsbD i)

/-- RFM_HOLDOFF_END (R38). -/
def execRfmHoldoffEnd (s : State) : Out := .next { s with rfm := { s.rfm with holdoff := false } }

/-- The windows as RFM_WIN holds them (Table 2.13): OUTER saturates at 2,097, INNER at OUTER. -/
def State.boundWin (s : State) : State :=
  let o := min 2097 (s.get R.RFM_WIN_OUTER)
  (s.set R.RFM_WIN_OUTER o).set R.RFM_WIN_INNER (min o (s.get R.RFM_WIN_INNER))

/-- A write of RFM_WIN (Table 2.13). -/
def State.writeRfmWin (s : State) (q : Who) (v : Nat) : State := (s.writeReg q 0xF00C v).boundWin

/-- RFM_WIN_WRITE (R46). -/
def execRfmWinWrite (q : Who) (v : Word) (s : State) : Out :=
  .next (s.via q.req 7 fun s => s.writeRfmWin q v.toNat)

end Sys2Proof.Machine
end

