-- ==== Sys2Proof/Machine/SerialRows.lean ====
section
/-!
DEFINITION. The GPIO balls, the encoder decoder, the UART and the I²C interface (chapter 24).
-/

namespace Sys2Proof.Machine

/-! ### GPIO (R522 to R525, R546) -/

/-- IRQEDGE selects the edge (R525). -/
def irqSelects (e : Nat) (rise : Bool) : Bool :=
  match e with
  | 0 => false
  | 1 => rise
  | 2 => !rise
  | _ => true

/-- The decoder runs (R526). -/
def State.encRuns (s : State) : Bool := s.flag R.GPIO_ENCCFG_EN && [8, 9, 10].all fun n => decide (s.gpioFunc n = 2)

/-- The step an edge of A or of B gives: +1 where A leads B, swapped by REV (R526). -/
def State.encStep (s : State) (old new : Nat) : Int :=
  let a := new.testBit 8
  let b := new.testBit 9
  let ac := old.testBit 8 != a
  let bc := old.testBit 9 != b
  if ac == bc then 0
  else
    let up := (if ac then a != b else a == b) != s.flag R.GPIO_ENCCFG_REV
    if up then 1 else -1

/-- The decoder takes the filtered levels (R526). -/
def State.decode (s : State) (old new : Nat) : State :=
  if !s.encRuns then s
  else if s.flag R.GPIO_ENCCFG_MODE then
    let h := new / 256 % 8
    let s := s.set R.GPIO_ENCSTAT_HALL h
    if h = 0 ∨ h = 7 then s.set R.GPIO_ENCSTAT_HALLERR 1 else s
  else
    let both := (old.testBit 8 != new.testBit 8) && (old.testBit 9 != new.testBit 9)
    let s := if both then s.set R.GPIO_ENCSTAT_QERR 1 else s
    let clear := s.flag R.GPIO_ENCCFG_IDXCLR && !old.testBit 10 && new.testBit 10
    s.set R.GPIO_ENCCNT (if clear then 0 else ux 32 (s.get R.GPIO_ENCCNT + s.encStep old new))

/-- The filtered levels of the sixteen balls after a PERI edge (R525). -/
def State.gpioIn (s : State) (lv : Nat) : State :=
  let old := s.get R.GPIO_IN
  let s := s.set R.GPIO_IN lv
  let s := (List.range 16).foldl (fun s n =>
    if old.testBit n != lv.testBit n && irqSelects (s.get (R.GPIO_MUX_IRQEDGE n)) (lv.testBit n) then
      (s.setBit R.GPIO_EVT n).raise (170 + n)
    else s) s
  s.decode old lv

/-- GPIO_INPUT_EVENT (R525). -/
def execGpioInputEvent (lv : BitVec 16) (s : State) : Out := .next (if s.on 10 then s.gpioIn lv.toNat else s)

/-- ENCODER_COUNT_WRITE (R526). -/
def execEncoderCountWrite (q : Who) (v : Word) (s : State) : Out :=
  .next (s.via q.req 10 fun s => s.writeReg q 0x17064 v.toNat)

/-- A write of GPIO_OUTSET (R546). -/
def State.writeOutSet (s : State) (v : Nat) : State := s.set R.GPIO_OUT (s.get R.GPIO_OUT ||| v % 2 ^ 16)

/-- A write of GPIO_OUTCLR (R546). -/
def State.writeOutClr (s : State) (v : Nat) : State := s.set R.GPIO_OUT (s.get R.GPIO_OUT &&& (2 ^ 16 - 1 ^^^ v % 2 ^ 16))

/-- GPIO_OUTPUT_SET (R524, R546). -/
def execGpioOutputSet (q : Who) (v : Word) (s : State) : Out :=
  .next (s.via q.req 10 fun s => fireAll (s.writeOutSet v.toNat).drivenTrips)

/-- GPIO_OUTPUT_CLEAR (R524, R546). -/
def execGpioOutputClear (q : Who) (v : Word) (s : State) : Out :=
  .next (s.via q.req 10 fun s => fireAll (s.writeOutClr v.toNat).drivenTrips)

/-- GPIO_MUX_WRITE (R522, R524). -/
def execGpioMuxWrite (q : Who) (n : Fin 16) (v : Word) (s : State) : Out :=
  .next (s.via q.req 10 fun s => fireAll (s.writeReg q (0x17000 + 4 * n.val) v.toNat).drivenTrips)

/-! ### Requests of interrupt sources (R530, R535) -/

/-- The sources whose request rises raise their events (R250). -/
def State.raiseNew (s : State) (old new : List Nat) : State :=
  (new.filter fun n => decide (n ∉ old)).foldl (fun s n => s.raise n) s

/-- A threshold of which 0 acts as 1. -/
def thrOf (n : Nat) : Nat := if n = 0 then 1 else n

/-! ### UART (R527 to R530) -/

/-- The bits of STAT that ERRIE enables. -/
def State.uartErrs (s : State) : Nat :=
  (s.readReg 0x18010 % 32) &&& s.get R.UART0_IE_ERRIE

/-- The sources of UART0 whose request is high. -/
def State.uartReqs (s : State) : List Nat :=
  let u := s.uart
  let rx := s.flag R.UART0_IE_RXIE && (decide (thrOf (s.get R.UART0_IE_RXTHR) ≤ u.rx.length) || (u.idle && !u.rx.isEmpty))
  let tx := s.flag R.UART0_IE_TXIE && decide (u.tx.length ≤ s.get R.UART0_IE_TXTHR)
  (if rx then [164] else []) ++ (if tx then [165] else []) ++ (if s.uartErrs ≠ 0 then [166] else [])

/-- The levels of the FIFOs, TXIDLE and the requests follow. -/
def State.uartSync (s : State) : State :=
  let s := (s.set R.UART0_STAT_TXLVL s.uart.tx.length).set R.UART0_STAT_RXLVL s.uart.rx.length
  let s := s.setB R.UART0_STAT_TXIDLE (s.uart.tx.isEmpty && s.uart.sending.isNone)
  let new := s.uartReqs
  let s := s.raiseNew s.uart.req new
  { s with uart := { s.uart with req := new } }

/-- A write of UART0_TXDATA (R528). -/
def State.writeUartTx (s : State) (v : Nat) : State :=
  (if 16 ≤ s.uart.tx.length then s.set R.UART0_STAT_TXOVR 1
    else { s with uart := { s.uart with tx := s.uart.tx ++ [v % 256] } }).uartSync

/-- A write of another UART0 register: clearing EN ends a character, UTX being high while EN is clear (R528). -/
def State.writeUart (s : State) (q : Who) (a v : Nat) : State :=
  let s := s.writeReg q a v
  let s := if s.flag R.UART0_CTRL_EN then s else { s with uart := { s.uart with sending := none } }
  s.uartSync

/-- UART_TRANSMIT_DATA (R528). -/
def execUartTransmitData (q : Who) (v : Word) (s : State) : Out := .next (s.via q.req 10 fun s => s.writeUartTx v.toNat)

/-- UART_TRANSMIT_CHARACTER (R528): the next character starts, the one before having ended. -/
def execUartTransmitCharacter (s : State) : Out :=
  .next (if s.on 10 && s.flag R.UART0_CTRL_EN && s.flag R.UART0_CTRL_TXEN then
      (match s.uart.tx with
        | [] => s
        | c :: r => { s with uart := { s.uart with tx := r, sending := some c } }.uartSync)
    else s)

/-- UART_TRANSMIT_COMPLETE (R528). -/
def execUartTransmitComplete (s : State) : Out :=
  .next (if s.uart.sending.isSome then { s with uart := { s.uart with sending := none } }.uartSync else s)

/-- The number of ones of a byte. -/
def onesOf (d : Nat) : Nat := (List.range 8).countP fun i => d.testBit i

/-- A character is pushed with its flags, or lost (R529). -/
def State.uartPush (s : State) (d : Nat) (par stop : Bool) : State :=
  let s := { s with uart := { s.uart with brk := decide (d = 0) && !stop } }
  if 16 ≤ s.uart.rx.length then (s.set R.UART0_STAT_RXOVR 1).uartSync
  else
    let pe := s.flag R.UART0_CTRL_PARITY && decide ((onesOf d + b2n par) % 2 = 1)
    let fe := !stop
    let s := if pe then s.set R.UART0_STAT_PERR 1 else s
    let s := if fe then s.set R.UART0_STAT_FERR 1 else s
    { s with uart := { s.uart with rx := s.uart.rx ++ [(d, pe, fe)], idle := false } }.uartSync

/-- UART_RECEIVE_CHARACTER (R529): the data, and the parity and stop bits as sampled. -/
def execUartReceiveCharacter (d : BitVec 8) (par stop : Bool) (s : State) : Out :=
  .next (if s.on 10 && s.flag R.UART0_CTRL_EN && s.flag R.UART0_CTRL_RXEN then s.uartPush d.toNat par stop else s)

/-- UART_BREAK (R529). -/
def execUartBreak (s : State) : Out :=
  .next (if s.uart.brk then
      ({ s with uart := { s.uart with brk := false } }.set R.UART0_STAT_BREAK 1).uartSync
    else s)

/-- UART_RECEIVE_TIMEOUT (R530). -/
def execUartReceiveTimeout (s : State) : Out :=
  .next (if s.uart.rx.isEmpty then s else { s with uart := { s.uart with idle := true } }.uartSync)

/-- UART0_RXDATA as it reads: the head entry (R529). -/
def State.uartHead (s : State) : Nat :=
  match s.uart.rx with
  | [] => 0
  | (d, pe, fe) :: _ => d + 256 + 512 * b2n pe + 1024 * b2n fe

/-- An ACTIVE read of UART0_RXDATA pops the head entry (R529). -/
def State.readUartRx (s : State) (q : Req) : State :=
  let s := s.reply q .ok s.uartHead
  { s with uart := { s.uart with rx := s.uart.rx.tail } }.uartSync

/-- UART_RECEIVE_DATA_READ (R529). -/
def execUartReceiveDataRead (q : Who) (s : State) : Out := .next (s.via q.req 10 fun s => s.readUartRx q.req)

/-! ### I²C (R531 to R535) -/

/-- Change the I²C block. -/
def State.updI2c (s : State) (f : I2cSt → I2cSt) : State := { s with i2c := f s.i2c }

/-- The controller owns the bus: between transfers, or from its START on. -/
def State.i2cOwns (s : State) : Bool := s.flag R.I2C0_STAT_OWNED || (s.flag R.I2C0_STAT_CBUSY && s.i2c.started)

/-- The sources of I2C0 whose request is high (R535). -/
def State.i2cReqs (s : State) : List Nat :=
  let i := s.i2c
  let c := s.flag R.I2C0_IE_CIE && s.flag R.I2C0_FLAG_DONE
  let t := s.flag R.I2C0_IE_TIE && (s.flag R.I2C0_FLAG_ADDRD || s.flag R.I2C0_FLAG_TSTOP || s.flag R.I2C0_FLAG_TXUND
    || s.flag R.I2C0_FLAG_RXOVR)
  let sending := (s.flag R.I2C0_STAT_CBUSY && !i.rd) || (s.flag R.I2C0_STAT_TADDRM && s.flag R.I2C0_STAT_TDIR && !i.silent)
  let f := s.flag R.I2C0_IE_FIE && (decide (thrOf (s.get R.I2C0_IE_RXTHR) ≤ i.rx.length)
    || (sending && decide (i.tx.length ≤ s.get R.I2C0_IE_TXTHR)))
  (if c then [167] else []) ++ (if t then [168] else []) ++ (if f then [169] else [])

/-- The levels of the FIFOs and the requests follow. -/
def State.i2cSync (s : State) : State :=
  let s := (s.set R.I2C0_STAT_TXLVL s.i2c.tx.length).set R.I2C0_STAT_RXLVL s.i2c.rx.length
  let new := s.i2cReqs
  (s.raiseNew s.i2c.req new).updI2c fun i => { i with req := new }

/-- The controller sends START where its transfer waits and the bus is free, or a repeated START (R532). -/
def State.i2cBegin (s : State) : State :=
  if s.flag R.I2C0_STAT_CBUSY && !s.i2c.started && (s.i2c.free || s.flag R.I2C0_STAT_OWNED) then
    (((s.set R.I2C0_STAT_BUSBUSY 1).set R.I2C0_STAT_OWNED 0).updI2c fun i => { i with started := true, free := false })
  else s

/-- The part's STOP: the bus is free. -/
def State.i2cRelease (s : State) : State :=
  ((s.set R.I2C0_STAT_BUSBUSY 0).set R.I2C0_STAT_OWNED 0).updI2c fun i => { i with free := true, started := false }

/-- The controller transfer ends: DONE, and CBUSY clears (R532). -/
def State.i2cEnd (s : State) : State :=
  ((s.set R.I2C0_FLAG_DONE 1).set R.I2C0_STAT_CBUSY 0).updI2c fun i =>
    { i with started := false, addressed := false, ending := false }

/-- A write of I2C0_XFER (R532): GO starts a transfer, or is ignored with XERR. -/
def State.writeXfer (s : State) (q : Who) (v : Nat) : State :=
  if !v.testBit 31 then s.writeReg q 0x1900C v
  else if !s.flag R.I2C0_CTRL_CTLEN || s.flag R.I2C0_STAT_CBUSY then s.set R.I2C0_FLAG_XERR 1
  else
    let s := (s.writeReg q 0x1900C v).set R.I2C0_XFER_GO 0
    let s := (s.set R.I2C0_STAT_CBUSY 1).set R.I2C0_STAT_XLEFT (s.get R.I2C0_XFER_LEN)
    let s := s.updI2c fun i => { i with
      out := 2 * s.get R.I2C0_XFER_ADDR + s.get R.I2C0_XFER_RW, rd := s.flag R.I2C0_XFER_RW
      stp := s.flag R.I2C0_XFER_STOP, started := false, addressed := false, ending := false }
    s.i2cBegin.i2cSync

/-- I2C_TRANSFER_START (R532). -/
def execI2cTransferStart (q : Who) (v : Word) (s : State) : Out := .next (s.via q.req 10 fun s => s.writeXfer q v.toNat)

/-- A NACK ends the transfer with STOP (R532). -/
def State.i2cNack (s : State) : State :=
  (s.set R.I2C0_FLAG_NACK 1).updI2c fun i => { i with ending := true, stp := true }

/-- The next byte of a controller transfer, where the FIFO allows it (R532). -/
def State.i2cByte (s : State) (ack : Bool) (d : Nat) : State :=
  let i := s.i2c
  let left := s.get R.I2C0_STAT_XLEFT
  if !s.flag R.I2C0_STAT_CBUSY || !i.started || i.ending then s
  else if !i.addressed then
    let s := s.updI2c fun i => { i with addressed := true }
    if ack then s else s.i2cNack
  else if left = 0 then s
  else if i.rd then
    (if 16 ≤ i.rx.length then s
      else (s.set R.I2C0_STAT_XLEFT (left - 1)).updI2c fun i => { i with rx := i.rx ++ [(d, false)] })
  else
    match i.tx with
    | [] => s
    | _ :: r =>
      let s := (s.set R.I2C0_STAT_XLEFT (left - 1)).updI2c fun i => { i with tx := r }
      if ack then s else s.i2cNack

/-- I2C_CONTROLLER_BYTE (R532): the acknowledge of a byte sent, or the byte received. -/
def execI2cControllerByte (ack : Bool) (d : BitVec 8) (s : State) : Out := .next (s.i2cByte ack d.toNat).i2cSync

/-- I2C_TRANSFER_COMPLETE (R532). -/
def execI2cTransferComplete (s : State) : Out :=
  .next (if s.flag R.I2C0_STAT_CBUSY && s.i2c.addressed && (s.i2c.ending || decide (s.get R.I2C0_STAT_XLEFT = 0)) then
      (let stp := s.i2c.stp
       let s := s.i2cEnd
       (if stp then s.i2cRelease else s.set R.I2C0_STAT_OWNED 1).i2cSync)
    else s)

/-- I2C_ARBITRATION_LOST (R533). -/
def execI2cArbitrationLost (s : State) : Out :=
  .next (if s.flag R.I2C0_STAT_CBUSY && s.i2c.started then (s.i2cEnd.set R.I2C0_FLAG_ARBLOST 1).i2cSync else s)

/-- A write of I2C0_CTRL: clearing CTLEN while the controller owns the bus sends STOP (R532); a transfer that still
waits for the bus ends too. -/
def State.writeI2cCtrl (s : State) (q : Who) (v : Nat) : State :=
  let s := s.writeReg q 0x19000 v
  let s := if s.flag R.I2C0_CTRL_CTLEN then s
    else
      let owns := s.i2cOwns
      let s := if s.flag R.I2C0_STAT_CBUSY then s.i2cEnd else s
      if owns then s.i2cRelease else s
  s.i2cSync

/-- I2C_CONTROLLER_DISABLE (R532). -/
def execI2cControllerDisable (q : Who) (v : Word) (s : State) : Out :=
  .next (s.via q.req 10 fun s => s.writeI2cCtrl q v.toNat)

/-- The target answers this address byte (R531, R534). -/
def State.i2cMatches (s : State) (a : Nat) : Bool :=
  s.flag R.I2C0_CTRL_TGTEN && decide (a = s.get R.I2C0_TADDR) && decide (a ≠ 0) && decide (a / 4 ≠ 0b11110)
    && !(s.flag R.I2C0_STAT_CBUSY && s.i2c.started)

/-- I2C_TARGET_ADDRESSED (R534). -/
def execI2cTargetAddressed (a : BitVec 7) (rd : Bool) (s : State) : Out :=
  .next (if s.on 10 && s.i2cMatches a.toNat then
      ((((s.set R.I2C0_STAT_TADDRM 1).set R.I2C0_FLAG_ADDRD 1).setB R.I2C0_STAT_TDIR rd).updI2c fun i =>
        { i with first := true, silent := false }).i2cSync
    else s)

/-- A byte of the addressed target, where the FIFO allows it (R534). -/
def State.targetByte (s : State) (ack : Bool) (d : Nat) : State :=
  let i := s.i2c
  if !s.flag R.I2C0_STAT_TADDRM || i.silent then s
  else if s.flag R.I2C0_STAT_TDIR then
    (match i.tx with
      | [] => s
      | _ :: r => s.updI2c fun i => { i with tx := r, silent := !ack })
  else if 16 ≤ i.rx.length then s
  else s.updI2c fun i => { i with rx := i.rx ++ [(d, i.first)], first := false }

/-- I2C_TARGET_BYTE (R534): the byte received, or the controller's acknowledge of the byte sent. -/
def execI2cTargetByte (ack : Bool) (d : BitVec 8) (s : State) : Out := .next (s.targetByte ack d.toNat).i2cSync

/-- A STOP, or a repeated START, of another controller (R532, R534). -/
def State.i2cStopped (s : State) (again : Bool) : State :=
  let s := if s.flag R.I2C0_STAT_TADDRM then (s.set R.I2C0_STAT_TADDRM 0).set R.I2C0_FLAG_TSTOP 1 else s
  if again then s else ((s.set R.I2C0_STAT_BUSBUSY 0).updI2c fun i => { i with free := true }).i2cBegin

/-- I2C_STOP (R534). -/
def execI2cStop (again : Bool) (s : State) : Out := .next (if s.on 10 then (s.i2cStopped again).i2cSync else s)

/-- The target has held SCL for 25 ms (R534). -/
def State.stretchEnd (s : State) : State :=
  if !s.flag R.I2C0_STAT_TADDRM || s.i2c.silent then s
  else if s.flag R.I2C0_STAT_TDIR then (if s.i2c.tx.isEmpty then s.set R.I2C0_FLAG_TXUND 1 else s)
  else if 16 ≤ s.i2c.rx.length then s.set R.I2C0_FLAG_RXOVR 1 else s

/-- I2C_STRETCH_LIMIT (R534). -/
def execI2cStretchLimit (s : State) : Out := .next s.stretchEnd.i2cSync

/-- A write of I2C0_TXDATA (R534). -/
def State.writeI2cTx (s : State) (v : Nat) : State :=
  (if 16 ≤ s.i2c.tx.length then s.set R.I2C0_FLAG_TXOVR 1
    else s.updI2c fun i => { i with tx := i.tx ++ [v % 256] }).i2cSync

/-- A write of another I2C0 register. -/
def State.writeI2c (s : State) (q : Who) (a v : Nat) : State := (s.writeReg q a v).i2cSync

/-- I2C_TRANSMIT_DATA (R534). -/
def execI2cTransmitData (q : Who) (v : Word) (s : State) : Out := .next (s.via q.req 10 fun s => s.writeI2cTx v.toNat)

/-- I2C0_RXDATA as it reads: the head entry (R534). -/
def State.i2cHead (s : State) : Nat :=
  match s.i2c.rx with
  | [] => 0
  | (d, first) :: _ => d + 256 + 512 * b2n first

/-- An ACTIVE read of I2C0_RXDATA pops the head entry (R534). -/
def State.readI2cRx (s : State) (q : Req) : State :=
  ((s.reply q .ok s.i2cHead).updI2c fun i => { i with rx := i.rx.tail }).i2cSync

/-- I2C_RECEIVE_DATA_READ (R534). -/
def execI2cReceiveDataRead (q : Who) (s : State) : Out := .next (s.via q.req 10 fun s => s.readI2cRx q.req)

/-- I2C_START_CONDITION (R532). -/
def execI2cStartCondition (s : State) : Out :=
  .next (if s.on 10 then (s.set R.I2C0_STAT_BUSBUSY 1).updI2c fun i => { i with free := false } else s)

/-- I2C_BUS_FREE (R532). -/
def execI2cBusFree (s : State) : Out :=
  .next (if s.on 10 && s.flag R.I2C0_CTRL_CTLEN then ((s.updI2c fun i => { i with free := true }).i2cBegin).i2cSync else s)

end Sys2Proof.Machine
end

