-- ==== Sys2Proof/Machine/SysRows.lean ====
section
/-!
DEFINITION. The system instructions of a strand, interrupt entry, and hand-overs of the Ply (R176 to
R179, R201 to R204, R222 to R224, R257, R259).
-/

namespace Sys2Proof.Machine

/-! ### Hand-over (R176 to R179) -/

/-- A start address a split may use (R177): in the I-TCM below the sealed partition or in main sectors 0 to
26. -/
def State.goodStart (s : State) (k : Nat) : Bool :=
  let a := s.startAddr k
  decide (a < 0x20000 - s.spBytes) || inMain a

/-- Strand `k` waits in JOINWAIT. -/
def State.waitsJoin (s : State) (k : Nat) : Bool :=
  s.flag (if k = 1 then R.PLY_STATUS_WAITB else R.PLY_STATUS_WAITC)

/-- The transition from the mode `cur` to `t` is a split. -/
def isSplit (cur t : Nat) : Bool := decide (cur < t)

/-- A HANDOVER to mode `t` by core `c` is refused (R177); only the transitions of Table 8.6 exist. -/
def State.handRefused (s : State) (c t : Nat) : Bool :=
  let cur := s.get R.PLY_MODE_CUR
  let ks := handStrands cur t
  decide (t = 3) || decide (c ≠ 0) || (s.flag R.PLY_MODE_FORCED && decide (t ≠ 0))
    || ks.any (fun k => decide (s.get R.PLY_STATUS_RETIRED = k) || !s.on (3 + k))
    || (!isSplit cur t && ks.any fun k => !s.waitsJoin k)
    || (isSplit cur t && ks.any fun k => !s.goodStart k)
    || s.flag R.PLY_STATUS_RESYNC || s.flag R.PLY_STATUS_SPLITTING || s.flag R.PLY_STATUS_JOINING

/-- A core that leaves or joins a group loses its breakpoints and its halt (R449). -/
def State.dropDebug (s : State) (k : Nat) : State :=
  let s := (List.range 8).foldl (fun s i =>
    if s.get (R.DBG_BP_CFG_CORE i) = k then s.set (R.DBG_BP_CFG_EN i) 0 else s) s
  s.clrBit R.DBG_STAT_HALTED k

/-- The strands a hand-over to `t` names, which a split isolates and a join wipes. -/
def State.handOver (s : State) (t : Nat) : State :=
  let cur := s.get R.PLY_MODE_CUR
  let ks := handStrands cur t
  let s := { s with ply := { s.ply with target := t, joinTcm := false } }
  let s := ks.foldl State.dropDebug s
  if isSplit cur t then
    let s := ks.foldl (fun s k => s.updCore k fun _ => { cache := (s.coreAt 0).cache }) s
    s.set R.PLY_STATUS_SPLITTING 1
  else
    let s := ks.foldl (fun s k => (s.wipe (itcmKey k 0) (itcmKey k 0x20000)).wipe (dtcmKey k 0) (dtcmKey k 0x20000)) s
    let s := (s.icuJoin ks).set R.PLY_STATUS_JOINING 1
    if cur = 2 then (s.set R.PLY_STATUS_EXPOSED 1).raise 152 else s

/-- HANDOVER (R176, R177, R223). -/
def execHandover (c : Fin 3) (s : State) : Out :=
  .next (s.issue c 2 fun s =>
    if (s.coreAt c).world then s.illegal c
    else
      let t := s.get R.PLY_MODE_TARGET
      let s := s.complete c [] Core.next
      if t = s.get R.PLY_MODE_CUR then s
      else if s.handRefused c t then (s.set R.PLY_STATUS_HOERR 1).raise 151
      else s.handOver t)

/-- The general registers of core `c` hold values the spec leaves open until a join writes them (R176). -/
def State.loseRegs (s : State) (c : Nat) : State :=
  let g : Vector Word 32 := Vector.ofFn fun i => if i.val = 0 then 0 else BitVec.ofNat 32 (Config.freeValue (s.free + i.val))
  { s.updCore c (fun k => { k with g := g }) with free := s.free + 32 }

/-- JOINWAIT (R176, R223): the strand stops, its registers are lost, and its bit shows that it waits. -/
def execJoinwait (c : Fin 3) (s : State) : Out :=
  .next (s.issue c 1 fun s =>
    if (s.coreAt c).world || (decide (c.val = 0) && decide (s.plyMode ≠ 2)) then s.illegal c
    else
      let s := (s.complete c [] fun k => { k.next with run := .joinWait }).loseRegs c
      if c.val = 1 then s.set R.PLY_STATUS_WAITB 1
      else if c.val = 2 then s.set R.PLY_STATUS_WAITC 1
      else s)

/-! ### System instructions -/

/-- FENCE (R222). -/
def execFence (c : Fin 3) (s : State) : Out := .next (s.issue c 4 fun s => s.complete c [] Core.next)

/-- WFI (R204, R222): the strand waits; with PWR_ACK.READY set it is the acknowledged stop of R485. -/
def execWfi (c : Fin 3) (s : State) : Out :=
  .next (s.issue c 1 fun s =>
    let stop := s.bit R.PWR_ACK c && s.flag R.PWR_STATE_ENTRY
    s.complete c [] fun k => { k.next with run := if stop then .stopped else .wfi })

/-- ERET (R204, R223). -/
def execEret (c : Fin 3) (s : State) : Out :=
  .next (s.issue c 2 fun s =>
    if (s.coreAt c).exl then
      s.complete c [] fun k =>
        { k with pc := k.epc, ie := k.pie, exl := k.pexl, ipri := k.pipri, fromEret := true, fresh := true }
    else s.illegal c)

/-- WRET (R222, R223, R225): inside the Selvedge ROM it returns to what the WGATE saved, which ends the call; elsewhere
it is ILLEGAL. -/
def execWret (c : Fin 3) (s : State) : Out :=
  .next (s.issue c 4 fun s =>
    let k := s.coreAt c
    match if inRom k.pc.toNat then k.save else none with
    | some (pc, w) =>
      { s.complete c [] (fun k => { k with pc := pc, world := w, save := none }) with
        wld := { s.wld with saved := none } }.afterCall
    | none => s.illegal c)

/-- CSRRD (R224). -/
def execCsrrd (c : Fin 3) (rd : Fin 32) (n : BitVec 12) (s : State) : Out :=
  .next (s.issue c 1 fun s => s.csrRead c rd n.toNat)

/-- CSRWR (R224). -/
def execCsrwr (c : Fin 3) (n : BitVec 12) (ra : Fin 32) (s : State) : Out :=
  .next (s.issue c 1 fun s => s.csrWrite c n.toNat ((s.coreAt c).rd ra))

/-- CACHE_INVALIDATE (R196): the CSRWR of CACHECTL. -/
def execCacheInvalidate (c : Fin 3) (ra : Fin 32) (s : State) : Out :=
  .next (s.issue c 1 fun s => s.csrWrite c 0x030 ((s.coreAt c).rd ra))

/-- MPU_LOCK (R205): the CSRWR of MPUCFG. -/
def execMpuLock (c : Fin 3) (ra : Fin 32) (s : State) : Out :=
  .next (s.issue c 1 fun s => s.csrWrite c 0x058 ((s.coreAt c).rd ra))

/-- ICU_COMPLETION (R257): the CSRWR of ICOMP. -/
def execIcuCompletion (c : Fin 3) (ra : Fin 32) (s : State) : Out :=
  .next (s.issue c 1 fun s => s.csrWrite c 0x013 ((s.coreAt c).rd ra))

/-- UNASSIGNED_ENCODING (R212): a word with no meaning raises ILLEGAL. -/
def execUnassignedEncoding (c : Fin 3) (w : Word) (s : State) : Out :=
  .next (if assigned w.toNat then s else s.issue c 1 fun s => s.illegal c)

/-- CACHE_LINE_FILL (R196): a fill from flash bank 0, which waits while the bank works, completes; one that reads an
uncorrectable word fills nothing (R397). -/
def execCacheLineFill (c : Fin 3) (a : Word) (s : State) : Out :=
  .next (if s.coreExists c && s.coreOn c && s.on 2 && inMain a.toNat && (s.flashOp 0).isNone then
      (let (bad, s) := s.eccLine a.toNat
       if bad then s else s.fillLine c a.toNat)
    else s)

/-- LDX_RESERVATION_TIMEOUT (R221). -/
def execLdxReservationTimeout (c : Fin 3) (s : State) : Out :=
  .next (s.updCore c fun k => if k.locked then { k with res := none, locked := false } else k)

/-! ### Interrupts (R201 to R204, R256, R259) -/

/-- Core `c` takes interrupts at this boundary (R201, R202): enabled, no exception level, outside every locked
sequence and sealed call, not in the first instruction after an ERET, not a step without STEPIE, and with no access in
progress that holds the boundary. -/
def State.takesInt (s : State) (c : Nat) : Bool :=
  let k := s.coreAt c
  s.coreExists c && decide (k.run = .issuing) && s.coreOn c && s.on 6 && !s.ply.fault
    && !s.bit R.DBG_STAT_HALTED c && k.ie && !k.exl && !s.inLocked c && !k.fromEret
    && !(decide (c = 0) && s.wld.saved.isSome) && !(k.step && !s.flag R.DBG_CTRL_STEPIE) && !k.mustWait

/-- Interrupt entry for source `n` of priority `p` (R202): the state of R200 with INT set, and the handler at
IVEC + 4 × source, 6 cycles from the boundary. What EADDR and EINFO take is open. -/
def Core.enterInt (k : Core) (n p ea ei : Nat) : Core :=
  let k := k.settle.parkMove
  { k.enter 0 (BitVec.ofNat 32 ea) (ei &&& 0x77) with
    ecInt := true
    isrc := BitVec.ofNat 8 n
    ipri := BitVec.ofNat 4 p
    pc := k.ivec + BitVec.ofNat 32 (4 * n)
    cycle := k.cycle + 6 }

/-- Core `c` takes source `n` at priority `p`: entry and acknowledge (R202, R251). A step in progress halts at the
handler's first instruction (R447). -/
def State.takeInt (s : State) (c n p : Nat) : State :=
  let (ea, s) := s.freeN
  let (ei, s) := s.freeN
  let s := s.updCore c fun k => k.enterInt n p ea ei
  let s := s.icuAck c n
  if (s.coreAt c).step then s.haltOrAsk c 2 0 else s

/-- INTERRUPT_ENTRY (R202): the candidate above IPRI; or, within the window of R256, one a write has just
withdrawn, at the priority it had, which sets MASKRACE. -/
def execInterruptEntry (c : Fin 3) (raced : Bool) (s : State) : Out :=
  .next (if !s.takesInt c then s
    else if raced then
      match s.icu.raced.find? fun x => decide (x.1 = c.val) with
      | some x =>
        if (s.coreAt c).ipri.toNat < x.2.2 then
          (let s := (s.takeInt c x.2.1 x.2.2).set R.ICU_STAT_MASKRACE 1
           { s with icu := { s.icu with raced := without s.icu.raced x } })
        else s
      | none => s
    else
      match s.icuCandidate c with
      | some n => if (s.coreAt c).ipri.toNat < s.get (R.ICU_SRC_PRI n) then s.takeInt c n (s.get (R.ICU_SRC_PRI n)) else s
      | none => s)

/-- WFI_WAKE (R259): the strand issues on after a wait whose length is open. -/
def execWfiWake (c : Fin 3) (s : State) : Out :=
  .next (if s.coreExists c && s.on 6 && !s.bit R.DBG_STAT_HALTED c && s.icuWakes c then s.wfiEnds c else s)

end Sys2Proof.Machine
end

