-- ==== Sys2Proof/Machine/TamperRows.lean ====
section
/-!
DEFINITION. The commands of the tamper supervisor and of the entropy source (R374, R377 to R382).
-/

namespace Sys2Proof.Machine

/-- The sources that PD0 watches at present (Table 17.6): on VBAT neither VGLITCH, CLKGLITCH nor VBATLOW. -/
def State.tampWatched (s : State) (n : Nat) : Bool :=
  s.tampEn n && !(s.flag R.TMP_STAT_ONVBAT && decide (n = 4 ∨ n = 5 ∨ n = 7))

/-- The detection condition of a source that its configuration decides (Table 17.6): the die temperature `deg`, in °C,
below TLO or above THI. -/
def State.tempOut (s : State) (deg : Int) : Bool :=
  decide (deg < s.gets R.TMP_TEMP_TLO) || decide ((s.get R.TMP_TEMP_THI : Int) < deg)

/-- TAMPER_DETECTION (R377, R378): source `src` is latched; the die temperature decides the source TEMP. -/
def execTamperDetection (src : Fin 9) (now : TamperSense) (s : State) : Out :=
  .next (if s.tampWatched src && (decide (src ≠ 6) || s.tempOut now.deg) then
      (s.set R.TMP_STAT_ACTIVE now.live.toNat).tamper src
    else s)

/-- TAMPER_SWITCH_FILTER_EXPIRY (R377): a detection where a switch has stood at its active level for the time of its
FILT. -/
def execTamperSwitchFilterExpiry (w : SwitchSense) (s : State) : Out :=
  let filt := s.get (if w.n = 0 then R.TMP_TSW_FILT0 else R.TMP_TSW_FILT1)
  .next (if s.tampEn (2 + w.n) && decide (w.level = s.bit R.TMP_TSW_POL w.n) && decide (filt ≤ w.ms) then
      (s.setBit R.TMP_STAT_ACTIVE (2 + w.n)).tamper (2 + w.n)
    else s)

/-- MESH_BIT_PERIOD (R379): channel `n` with the level its sense ball shows at the end of the pulse. -/
def execMeshBitPeriod (n : Fin 2) (sense : Bool) (s : State) : Out := .next (s.meshBit n sense)

/-- Every enabled mesh channel takes a seed from the DRBG (R379). -/
def State.meshReseed (s : State) : State :=
  [0, 1].foldl (fun s n => if s.tampEn n then s.meshSeed n else s) s

/-- MESH_RESEED (R379): while vendor firmware runs and the DRBG is instantiated. -/
def execMeshReseed (s : State) : Out :=
  .next (if s.crerus.alive && s.custody.drbg then s.meshReseed else s)

/-- TAMPER_WIPE_COMPLETE (R378). -/
def execTamperWipeComplete (s : State) : Out := .next s.tamperWiped

/-- TAMPER_JOURNAL_RECORD (R378). -/
def execTamperJournalRecord (s : State) : Out := .next s.tamperRecord

/-- A health test of the entropy source fails (R374): `again` where no good output came since the failure
before. The third in a row stops the source and is a cause of the advisory (Table 26.1). -/
def State.entropyFails (s : State) (again : Bool) : State :=
  if s.custody.esStopped || !s.domLive 11 then s
  else
    let n := if again then s.custody.esFails + 1 else 1
    let s := { s with custody := { s.custody with
      esFail := true, esReady := false, esFails := n, esStopped := decide (3 ≤ n) } }
    if 3 ≤ n then s.advise 10 else s

/-- ENTROPY_HEALTH_FAILURE (R374). -/
def execEntropyHealthFailure (again : Bool) (s : State) : Out := .next (s.entropyFails again)

end Sys2Proof.Machine
end

