-- ==== Sys2Proof/Machine/WarpFrames.lean ====
section
/-!
DEFINITION. The superframe on the wire (R145, R146): 96 bits, the first bit sent the most significant, and the frame a
superframe carries.
-/

namespace Sys2Proof.Machine

/-- The TYPE of a frame (Table 7.2). -/
def frameType (f : Frame) : BitVec 3 :=
  match f with
  | .empty => 0
  | .time _ _ => 1
  | .gstart _ _ => 2
  | .msg _ _ _ _ _ _ _ _ _ => 3
  | .enum _ _ _ => 4
  | .calMeasure _ _ => 5
  | .calResult _ _ _ => 5
  | .bypass _ _ => 6
  | .reserved _ _ => 7

/-- The SUB of a frame (Table 7.2). -/
def frameSub (f : Frame) : BitVec 5 :=
  match f with
  | .empty => 0
  | .time step _ => if step then 1 else 0
  | .gstart g _ => BitVec.ofFin (g.castLE (by decide))
  | .msg kind first last mpass _ _ _ _ _ => kind ++ BitVec.ofBool first ++ BitVec.ofBool last ++ BitVec.ofBool mpass
  | .enum _ _ _ => 0
  | .calMeasure _ _ => 0
  | .calResult _ _ _ => 1
  | .bypass sub _ => sub
  | .reserved sub _ => sub

/-- The PAYLOAD of a frame (Table 7.2). -/
def framePayload (f : Frame) : BitVec 64 :=
  match f with
  | .empty => 0
  | .time _ tb => tb
  | .gstart _ t => t
  | .msg _ _ _ _ dst src xid frag data => dst ++ src ++ xid ++ frag ++ data
  | .enum count tag dev => count ++ tag ++ dev
  | .calMeasure num acc => num ++ acc ++ (0 : BitVec 16)
  | .calResult num lbar n => num ++ lbar ++ n
  | .bypass _ node => node ++ (0 : BitVec 56)
  | .reserved _ payload => payload

/-- One bit into the CRC-16 with polynomial 0x1021 (R145). -/
def crc16Bit (c : BitVec 16) (b : Bool) : BitVec 16 := if c.msb = b then c <<< 1 else c <<< 1 ^^^ 0x1021

/-- The CRC-16 of HEADER and PAYLOAD, most significant bit first from 0xFFFF (R145). -/
def crc16 (x : BitVec 72) : BitVec 16 := (List.range 72).foldl (fun c i => crc16Bit c (x.getMsbD i)) 0xFFFF

/-- HEADER and PAYLOAD of a frame. -/
def frameBody (f : Frame) : BitVec 72 := frameType f ++ frameSub f ++ framePayload f

/-- The superframe that carries a frame (Table 7.1): SYNC, HEADER, PAYLOAD and CRC. -/
def superframeOf (f : Frame) : BitVec 96 := (0xD4 : BitVec 8) ++ frameBody f ++ crc16 (frameBody f)

/-- The MSG frame of a SUB and a PAYLOAD. -/
def msgOf (sub : BitVec 5) (p : BitVec 64) : Frame :=
  .msg (sub.extractLsb' 3 2) (sub.getLsbD 2) (sub.getLsbD 1) (sub.getLsbD 0) (p.extractLsb' 56 8) (p.extractLsb' 48 8)
    (p.extractLsb' 40 8) (p.extractLsb' 32 8) (p.extractLsb' 0 32)

/-- The frame of a TYPE, a SUB and a PAYLOAD, where Table 7.2 has one. -/
def frameOf (ty : BitVec 3) (sub : BitVec 5) (p : BitVec 64) : Option Frame :=
  match ty.toNat with
  | 0 => if sub = 0 ∧ p = 0 then some .empty else none
  | 1 => if sub = 0 then some (.time false p) else if sub = 1 then some (.time true p) else none
  | 2 => if sub.getLsbD 4 = true then none else some (.gstart (sub.extractLsb' 0 4).toFin p)
  | 3 => some (msgOf sub p)
  | 4 => if sub = 0 then some (.enum (p.extractLsb' 55 9) (p.extractLsb' 48 7) (p.extractLsb' 0 48)) else none
  | 5 => if sub = 0 then some (.calMeasure (p.extractLsb' 48 16) (p.extractLsb' 16 32))
    else if sub = 1 then some (.calResult (p.extractLsb' 48 16) (p.extractLsb' 16 32) (p.extractLsb' 0 16)) else none
  | 6 => if sub.toNat < 5 then some (.bypass sub (p.extractLsb' 56 8)) else none
  | _ => some (.reserved sub p)

/-- The CRC of a superframe holds (R145, R147). -/
def superframeGood (w : BitVec 96) : Bool := decide (crc16 (w.extractLsb' 16 72) = w.extractLsb' 0 16)

/-- The frame a superframe carries; none where its SYNC or its CRC fails, or no row of Table 7.2 has it. -/
def frameIn (w : BitVec 96) : Option Frame :=
  if w.extractLsb' 88 8 = 0xD4 ∧ superframeGood w = true then
    frameOf (w.extractLsb' 85 3) (w.extractLsb' 80 5) (w.extractLsb' 16 64)
  else none

/-- What the node drives on WDTO: the superframe it sends, or forwards (R144, R145). -/
def State.wdto (s : State) : BitVec 96 := superframeOf s.warp.tx

end Sys2Proof.Machine
end

