-- ==== Sys2Proof/Machine/WarpOps.lean ====
section
/-!
DEFINITION. The Warp node (chapter 07): frames that pass, are inserted and removed, enumeration and
calibration, time, armed targets, and the message service.
-/

namespace Sys2Proof.Machine

/-- Change the Warp node. -/
def State.wrp (s : State) (f : Warp → Warp) : State := { s with warp := f s.warp }

/-- The node originates superframes: node 0 outside bypass, and a node whose input failed (R145, R157, R159). -/
def State.originates (s : State) : Bool := s.flag R.WRP_STAT_LINKDOWN || (s.isMaster && !s.inBypass)

/-- The registers of the node are in reset: a SYS reset, or a boot that has not yet brought PD9 up. Its bypass path alone
acts then (R157, R162). -/
def State.wrpReset (s : State) : Bool := s.rst.asserted || !s.on 9

/-- The ID the node answers to (R143, R148); the bypass path keeps it through a SYS reset (R157). -/
def State.warpId (s : State) : Option Nat :=
  if s.wrpReset then s.warp.lastId
  else if s.isMaster then some 0
  else if s.flag R.WRP_ID_VALID then some (s.get R.WRP_ID_ID) else none

/-- A frame that goes on: node 0 holds it for one of its own superframes, another node forwards it (R144). -/
def State.pass (s : State) (f : Frame) : State :=
  if s.originates then (if f = .empty then s else s.wrp fun w => { w with fwd := w.fwd ++ [f] })
  else s.wrp fun w => { w with tx := f, passed := min 4 (w.passed + 1) }

/-- A frame of the inbound stream acts while PD9 is ON, or its bypass path has power through a SYS reset, and the link is
not lost (R157, R162). -/
def State.inbound (s : State) (f : State → State) : State :=
  if (s.on 9 || s.warp.path) && !s.flag R.WRP_STAT_LINKDOWN then f s else s

/-- A frame of the node's own waits for its place. -/
def State.queueFrame (s : State) (f : Frame) : State := s.wrp fun w => { w with own := w.own ++ [f] }

/-! ### Insertion (R147) -/

/-- A frame a member inserts first: ACK, NAK and BYPASS. -/
def isFirstFrame (f : Frame) : Bool :=
  match f with
  | .msg k _ _ _ _ _ _ _ _ => decide (k ≠ 0)
  | .bypass _ _ => true
  | _ => false

/-- The frame a member puts in place of an EMPTY frame: DATA into at most one of every four superframes. -/
def State.insertable (s : State) : Option Frame :=
  match s.warp.own.find? isFirstFrame with
  | some f => some f
  | none => if 3 ≤ s.warp.passed then s.warp.own.head? else none

/-- An EMPTY frame passes a member (R147). -/
def State.emptyIn (s : State) : State :=
  if s.originates then s
  else
    match s.insertable with
    | none => s.pass .empty
    | some f =>
      let s := (s.pass f).wrp fun w => { w with own := w.own.erase f }
      if isFirstFrame f then s else s.wrp fun w => { w with passed := 0 }

/-! ### Armed targets (R154) -/

/-- Arm a target, in the node's own TB: a late one sets LATE, a fifth is discarded with GSOVF. -/
def State.armTarget (s : State) (t : Nat) : State :=
  if t ≤ s.time.tb.toNat then (if s.on 6 then s.set R.TMR_GSTART_LATE 1 else s)
  else if t ∈ s.warp.armed then s
  else if 4 ≤ s.warp.armed.length then (s.set R.WRP_STAT_GSOVF 1).raise 124
  else (s.wrp fun w => { w with armed := t :: w.armed }).showArmed

/-- The node takes part in time and messages: one beyond position 255 of the ring does not (R148). -/
def State.inRing (s : State) : Bool := !s.flag R.WRP_STAT_NOID

/-- A GSTART frame of group `g` arms the node where its mask has the group's bit. -/
def State.gstartIn (s : State) (g t : Nat) : State :=
  if s.bit R.WRP_GSMASK g && !s.inBypass && s.inRing then s.armTarget t else s

/-! ### Enumeration and calibration at node 0 (R148, R149) -/

/-- The low 48 bits of the device ID. -/
def State.devLow (s : State) : Nat := s.get (R.SYS_DEVID 0) + 2 ^ 32 * (s.get (R.SYS_DEVID 1) % 2 ^ 16)

/-- The frame is an ENUM frame. -/
def isEnumFrame (f : Frame) : Bool :=
  match f with
  | .enum _ _ _ => true
  | _ => false

/-- Node 0 runs an enumeration: an ENUM frame with a fresh TAG, from the DRBG, or from TB without one. -/
def State.startEnum (s : State) : State :=
  let (tag, s) := if s.custody.drbg then
      (let (l, s) := s.drbgBytes 1 false
       (l.headD 0 % 128, s))
    else (s.time.tb.toNat % 128, s)
  s.wrp fun w => { w with
    own := .enum 1 (BitVec.ofNat 7 tag) (BitVec.ofNat 48 s.devLow) :: w.own.filter fun f => !isEnumFrame f }

/-- Node 0 calibrates: sixteen MEASURE frames. -/
def State.startCal (s : State) : State :=
  s.wrp fun w => { w with
    cal := some ([], 0), calSeq := 0
    own := w.own ++ (List.range 16).map fun i => .calMeasure (BitVec.ofNat 16 i) 0 }

/-- The mean of the round trips, in 1/16 ps; R149 states no rounding. -/
def meanTrip (rs : List Int) : Int :=
  let q := rs.foldl (· + ·) 0
  let n : Int := rs.length
  if q.fmod n ≠ 0 && Config.meanRoundsUp rs then q.fdiv n + 1 else q.fdiv n

/-- The calibration ends: LBAR and a RESULT frame, or CALFAIL with fewer than 8 returns. -/
def State.endCal (s : State) : State :=
  match s.warp.cal with
  | none => s
  | some (rs, acc) =>
    let s := s.wrp fun w => { w with cal := none }
    if rs.length < 8 then (s.set R.WRP_STAT_CALFAIL 1).raise 123
    else
      let r := meanTrip rs
      let lbar := (r - acc).fdiv (s.warp.n : Int)
      let s := (s.sets R.WRP_RTT r).sets R.WRP_LBAR lbar
      let long := decide (64000 < lbar)
      let s := s.raiseIf (long && !s.flag R.WRP_STAT_LONG) 123
      let s := s.setB R.WRP_STAT_LONG long
      let (num, s) := s.freeN
      s.queueFrame (.calResult (BitVec.ofNat 16 num) (BitVec.ofInt 32 lbar) (BitVec.ofNat 16 s.warp.n))

/-- The requests whose GSTART frame `sel` picks have their result (R154). -/
def State.gstartReady (s : State) (sel : Frame → Bool) (status : Nat) : State :=
  { s with crerus := { s.crerus with
      susp := s.crerus.susp.map fun j => match j.wait with
        | .gstart f => if sel f then { j with wait := .ready status [] } else j
        | _ => j } }

/-- A GSTART frame whose lead is below 500 picks at the launch is not sent: its request is refused with LIMIT (R154). -/
def State.refuseLate (s : State) : State :=
  let late (f : Frame) : Bool := match f with
    | .gstart _ t => decide (t.toNat < s.time.tb.toNat + 500)
    | _ => false
  (s.wrp fun w => { w with own := w.own.filter fun f => !late f }).gstartReady late 0x50

/-- Node 0's own frame is launched: it arms its own target and answers the request, notes the TAG it has launched, and
after a RESULT chooses the step pick (R154). -/
def State.launched (s : State) (f : Frame) : State :=
  match f with
  | .gstart g t => (s.gstartIn g.val t.toNat).gstartReady (fun x => decide (x = f)) 0
  | .enum _ tag _ => s.wrp fun w => { w with enumTag := some tag }
  | .calMeasure num _ => if num.toNat = 15 then s.wrp fun w => { w with calSeq := s.time.tb.toNat } else s
  | .calResult _ _ n =>
    let (k, s) := s.freeN
    (s.wrp fun w => { w with stepPick := some (s.time.tb.toNat + 25000 + k) }).set R.WRP_NODES n.toNat
  | _ => s

/-! ### Origination (R145, R147) -/

/-- Send a frame. -/
def State.send (s : State) (f : Frame) : State := s.wrp fun w => { w with tx := f }

/-- Send the first of the node's own frames, or EMPTY. -/
def State.sendOwn (s : State) : State :=
  let next := match s.warp.own.find? isFirstFrame with
    | some f => some f
    | none => s.warp.own.head?
  match next with
  | none => s.send .empty
  | some f => ((s.wrp fun w => { w with own := w.own.erase f }).send f).launched f

/-- Node 0 sends a TIME frame; while a step is pending a STEP frame follows it (R147, R154). -/
def State.sendTime (s : State) : State :=
  let tb := s.time.tb.toNat
  let pend := s.warp.stepPick.filter fun p => decide (tb < p)
  (s.wrp fun w => { w with
    launched := tb :: w.launched.filter (fun x => decide (tb ≤ x + 384))
    stepPick := pend, stepDue := pend.isSome }).send (.time false s.time.tb)

/-- One of node 0's own frames, in the order of R147; after it starts it enumerates (R148). -/
def State.sendMaster (s : State) : State :=
  if s.time.tb.toNat % 1024 = 0 then s.sendTime
  else if s.warp.stepDue then
    (s.wrp fun w => { w with stepDue := false }).send (.time true (BitVec.ofNat 64 (s.warp.stepPick.getD 0)))
  else
    match s.warp.fwd with
    | f :: r => (s.wrp fun w => { w with fwd := r }).send f
    | [] =>
      let s := (if s.warp.enumTag.isNone && !s.warp.own.any isEnumFrame then s.startEnum else s).refuseLate
      match s.warp.own with
      | [] => s.send .empty
      | f :: r => ((s.wrp fun w => { w with own := r }).send f).launched f

/-- A slot of an originating node, at TB mod 16 = 0 (R145). -/
def State.superframe (s : State) : State :=
  if !s.on 9 || !s.originates || decide (s.time.tb.toNat % 16 ≠ 0) then s
  else if s.isMaster && !s.inBypass then s.sendMaster else s.sendOwn

/-! ### Messages (R155, R318) -/

/-- A message is whole: its length and its CRC-32. -/
def goodMsg (b : List Nat) : Bool :=
  let n := fieldOf b 6 2
  decide (16 ≤ b.length) && decide (n ≤ 496) && decide (16 + n ≤ b.length)
    && decide (crc32 (cut b 0 12 ++ cut b 16 n) = fieldOf b 12 4)

/-- The length of a message. -/
def msgLen (b : List Nat) : Nat := 16 + fieldOf b 6 2

/-- The fragments of a transfer. -/
def fragments (dst src xid : Nat) (b : List Nat) : List Frame :=
  let n := (b.length + 3) / 4
  (List.range n).map fun i => .msg 0 (decide (i = 0)) (decide (i + 1 = n)) false (BitVec.ofNat 8 dst)
    (BitVec.ofNat 8 src) (BitVec.ofNat 8 xid) (BitVec.ofNat 8 i) (BitVec.ofNat 32 (leNat (cut b (4 * i) 4)))

/-- The frame is a DATA fragment of transfer `xid` to `dst`. -/
def fragOf (dst xid : Nat) (f : Frame) : Bool :=
  match f with
  | .msg k _ _ _ d _ x _ _ => decide (k = 0) && decide (d.toNat = dst) && decide (x.toNat = xid)
  | _ => false

/-- The fragments of a transfer not yet sent are dropped. -/
def State.dropFrags (s : State) (d : Send) : State :=
  s.wrp fun w => { w with own := w.own.filter fun f => !fragOf d.dst d.xid f }

/-- Send a transfer from its first fragment (R155); a node without an ID sends no message (R148). -/
def State.sendFrags (s : State) (d : Send) : State :=
  match s.warpId with
  | some me => (s.dropFrags d).wrp fun w => { w with own := w.own ++ fragments d.dst me d.xid d.bytes }
  | none => s

/-- An XID that no open transfer of the node has. -/
def State.freshXid (s : State) : Nat :=
  ((List.range 256).find? fun x => s.warp.sends.all fun d => decide (d.xid ≠ x)).getD 255

/-- Open a transfer to a node. -/
def State.openSend (s : State) (d : Send) : State :=
  (s.wrp fun w => { w with sends := w.sends ++ [d] }).sendFrags d

/-- The suspended request `id` has its result. -/
def State.jobReady (s : State) (id status : Nat) (data : List Nat) : State :=
  { s with crerus := { s.crerus with
      susp := s.crerus.susp.map fun j => if j.id = id then { j with wait := .ready status data } else j } }

/-- The open transfer with XID `xid` to `dst`. -/
def State.sendOf (s : State) (dst xid : Nat) : Option Send :=
  s.warp.sends.find? fun d => decide (d.xid = xid) && decide (d.dst = dst)

/-- A transfer is closed. -/
def State.closeSend (s : State) (d : Send) : State :=
  (s.dropFrags d).wrp fun w => { w with sends := w.sends.filter fun x => decide (x ≠ d) }

/-- A transfer ends its request with a status; that of a reply ends silently. -/
def State.endSend (s : State) (d : Send) (status : Nat) (data : List Nat) : State :=
  let s := s.closeSend d
  if d.reply then s else s.jobReady d.job status data

/-- Change a transfer. -/
def State.updSend (s : State) (d : Send) (f : Send → Send) : State :=
  s.wrp fun w => { w with sends := w.sends.map fun x => if x = d then f x else x }

/-- Every transfer in progress is abandoned and sent again from its first fragment (R148). -/
def State.restartSends (s : State) : State :=
  let s := s.wrp fun w => { w with bufs := [] }
  (s.warp.sends.filter fun d => !d.acked).foldl (fun s d => s.sendFrags d) s

/-- The node answers a fragment: 1 ACK, 2 NAK_RESET, 3 NAK_BUSY. -/
def State.answer (s : State) (k src xid : Nat) : State :=
  s.queueFrame (.msg (BitVec.ofNat 2 k) false false false (BitVec.ofNat 8 src)
    (BitVec.ofNat 8 (s.warpId.getD 0)) (BitVec.ofNat 8 xid) 0 0)

/-- A whole message has come (R155): the reply to an open request, or a request for Crerus. -/
def State.messageIn (s : State) (src xid : Nat) (b : List Nat) : State :=
  if (fieldOf b 5 1).testBit 0 then
    match s.sendOf src xid with
    | none => s
    | some d => if msgLen b ≤ 496 then s.endSend d 0 b else s.endSend d 0x61 [5]
  else s.arrive { src := .warp src xid, bytes := b }

/-- The last fragment is in: the sequence and the CRC are checked (R155). -/
def State.lastIn (s : State) (r : Reasm) : State :=
  let s := s.wrp fun w => { w with bufs := w.bufs.filter fun x => decide (x.src ≠ r.src) }
  if r.bad || !goodMsg r.bytes then s
  else (s.answer 1 r.src r.xid).messageIn r.src r.xid (r.bytes.take (msgLen r.bytes))

/-- A DATA fragment addressed to the node (R155, R157, R158). -/
def State.dataIn (s : State) (first last : Bool) (src xid frag : Nat) (data : List Nat) : State :=
  if s.inBypass then s.answer 2 src xid
  else if first && s.asleep then (s.answer 3 src xid).wake 4 src
  else if first && s.crerus.activating then s.answer 3 src xid
  else if first then
    let others := s.warp.bufs.filter fun x => decide (x.src ≠ src)
    if 4 ≤ others.length then s.answer 3 src xid
    else
      let r : Reasm := { src := src, xid := xid, bytes := data, next := 1, bad := decide (frag ≠ 0) }
      let s := s.wrp fun w => { w with bufs := others ++ [r] }
      if last then s.lastIn r else s
  else
    match s.warp.bufs.find? fun x => decide (x.src = src) && decide (x.xid = xid) with
    | none => s
    | some r =>
      let r' : Reasm := { r with bytes := r.bytes ++ data, next := r.next + 1, bad := r.bad || decide (frag ≠ r.next) }
      let s := s.wrp fun w => { w with bufs := w.bufs.map fun x => if x = r then r' else x }
      if last then s.lastIn r' else s

/-- A MSG frame (R147): the node takes one addressed to it and one of its own that returns; node 0 forwards the
others once, with MPASS set, and counts an orphan. -/
def State.msgIn (s : State) (mpass : Bool) (dst src : Nat) (out : Bool → Frame) (take back : State → State) : State :=
  if s.warpId = some dst then (take s).pass .empty
  else if s.warpId = some src then (back s).pass .empty
  else if s.originates then (if mpass then s.inc R.WRP_ORPHAN else s.pass (out true))
  else s.pass (out mpass)

end Sys2Proof.Machine
end

