-- ==== Sys2Proof/Machine/WarpRows.lean ====
section
/-!
DEFINITION. The commands of the Warp bus (chapter 07): its frames, its timers, the ring, slots and the system
global start.
-/

namespace Sys2Proof.Machine

/-- WARP_SUPERFRAME_SLOT (R147). -/
def execWarpSuperframeSlot (s : State) : Out := .next s.superframe

/-! ### Time (R151, R152, R154) -/

/-- TIMELOCK: synchronised, with at most one HR step of phase error (R151). -/
def State.lockTime (s : State) : State :=
  s.setB R.WRP_STAT_TIMELOCK (s.warp.synced && !s.flag R.WRP_STAT_TIME_LOST && decide ((s.gets R.WRP_PHERR).natAbs ≤ 1))

/-- A locked node fires source 116 at TIME value + 512 (R152). -/
def State.timeEvent (s : State) (tb : BitVec 64) : State :=
  if s.flag R.WRP_STAT_TIMELOCK then s.wrp fun w => { w with events := w.events ++ [(tb + 512).toNat] } else s

/-- A member aligns to a TIME frame (R151): at once at a first alignment with no pair enabled. The TB of a
synchronised node is compared; revision A1 counts the first frame after a step (R582, A1-05). -/
def State.timeMember (s : State) (tb : BitVec 64) (m : Nat) (err : Int) : State :=
  if s.wrpReset || s.isMaster || !s.inRing then s
  else
    let quiet := (List.range 12).all fun p => !s.flag (R.PWM_CTRL_EN p)
    let e := if !s.warp.aligned && quiet then 0 else err
    let wrong := s.warp.synced && !s.flag R.WRP_STAT_TIME_LOST
      && (s.warp.stepped || decide (s.time.tb ≠ tb + BitVec.ofNat 64 m))
    let s := (s.sets R.WRP_PHERR e).wrp fun w => { w with aligned := true, stepped := false }
    let s := if wrong then s.inc R.WRP_TIMEERR else s
    s.lockTime.timeEvent tb

/-- Node 0's own TIME frame has come back (R147, R160): the ring is closed, and a MEASURE frame still out after it
is lost (R149). -/
def State.timeBack (s : State) (tb : BitVec 64) : State :=
  let s := (s.set R.WRP_STAT_TIMELOCK 1).timeEvent tb
  let s := if s.warp.calSeq ≠ 0 ∧ s.warp.calSeq < tb.toNat then s.endCal else s
  if s.flag R.WRP_STAT_RINGOPEN then (s.set R.WRP_STAT_RINGOPEN 0).startEnum else s

/-- A NORMAL TIME frame (R151, R161). -/
def State.timeIn (s : State) (tb : BitVec 64) (m : Nat) (err : Int) : State :=
  if s.originates then
    if tb.toNat ∈ s.warp.launched ∧ s.time.tb.toNat ≤ tb.toNat + 384 then s.timeBack tb
    else ((s.set R.WRP_STAT_DUALM 1).raise 127).startEnum
  else (s.timeMember tb m err).pass (.time false tb)

/-- WARP_TIME_FRAME (R151): the frame's TB, the picks since the pick boundary it places, and the phase error
measured in HR steps. -/
def execWarpTimeFrame (tb : BitVec 64) (m : Nat) (err : Int) (s : State) : Out :=
  .next (s.inbound fun s => s.timeIn tb m err)

/-- A TIME STEP frame gives the step pick (R154). -/
def State.stepIn (s : State) (tb : BitVec 64) : State :=
  if s.originates then s
  else
    let s := if s.wrpReset || s.isMaster || !s.inRing then s else s.wrp fun w => { w with stepPick := some tb.toNat }
    s.pass (.time true tb)

/-- WARP_TIME_STEP_FRAME (R154). -/
def execWarpTimeStepFrame (tb : BitVec 64) (s : State) : Out := .next (s.inbound fun s => s.stepIn tb)

/-- WARP_TIME_EVENT (R152). -/
def execWarpTimeEvent (s : State) : Out :=
  .next (if s.on 9 && decide (s.time.tb.toNat ∈ s.warp.events) then
      (let s := s.wrp fun w => { w with events := without w.events s.time.tb.toNat }
       if s.on 6 then s.fire [116] else s)
    else s)

/-- WARP_PHASE_SLEW_STEP (R151): one HR step toward alignment. -/
def execWarpPhaseSlewStep (s : State) : Out :=
  .next (if !s.on 9 then s
    else
      let e := s.gets R.WRP_PHERR
      (s.sets R.WRP_PHERR (if 0 < e then e - 1 else if e < 0 then e + 1 else 0)).lockTime)

/-- TIME_LOST at a member (R159, R162): time and phase free-run. -/
def State.timeLost (s : State) : State :=
  if !s.on 9 || s.isMaster || s.flag R.WRP_STAT_TIME_LOST || s.rst.asserted then s
  else ((s.set R.WRP_STAT_TIME_LOST 1).set R.WRP_STAT_TIMELOCK 0).raise 121

/-- WARP_TIME_LOST (R159). -/
def execWarpTimeLost (s : State) : Out := .next s.timeLost

/-- WARP_SYNC_TIMEOUT (R162). -/
def execWarpSyncTimeout (s : State) : Out := .next (if s.warp.synced then s else s.timeLost)

/-! ### The system global start (R154) -/

/-- A GSTART frame: node 0 removes its own, another node arms and forwards. -/
def State.gstartFrame (s : State) (g : Fin 16) (t : BitVec 64) : State :=
  if s.originates then s
  else (if s.wrpReset then s else s.gstartIn g.val t.toNat).pass (.gstart g t)

/-- WARP_GSTART_FRAME (R154). -/
def execWarpGstartFrame (g : Fin 16) (t : BitVec 64) (s : State) : Out := .next (s.inbound fun s => s.gstartFrame g t)

/-- WARP_GLOBAL_START_RELEASE (R154): at an armed target the waiting set is released. -/
def execWarpGlobalStartRelease (s : State) : Out :=
  .next (if s.on 9 && decide (s.time.tb.toNat ∈ s.warp.armed) then
      (let s := (s.wrp fun w => { w with armed := without w.armed s.time.tb.toNat }).showArmed
       if s.on 6 then s.releaseNow [117] else s)
    else s)

/-! ### Messages (R155) -/

/-- WARP_MSG_DATA (R155). -/
def execWarpMsgData (first last mpass : Bool) (dst src xid frag : BitVec 8) (data : BitVec 32) (s : State) : Out :=
  .next (s.inbound fun s => s.msgIn mpass dst.toNat src.toNat
    (fun p => .msg 0 first last p dst src xid frag data)
    (fun s => s.dataIn first last src.toNat xid.toNat frag.toNat (toLE 4 data.toNat))
    (fun s => match s.sendOf dst.toNat xid.toNat with
      | some d => s.endSend d 0x61 [4]
      | none => s))

/-- WARP_MSG_ACK (R155): the transfer has arrived; that of a reply is over. -/
def execWarpMsgAck (mpass : Bool) (dst src xid : BitVec 8) (s : State) : Out :=
  .next (s.inbound fun s => s.msgIn mpass dst.toNat src.toNat
    (fun p => .msg 1 false false p dst src xid 0 0)
    (fun s => match s.sendOf src.toNat xid.toNat with
      | some d => if d.reply then s.closeSend d else (s.dropFrags d).updSend d fun x => { x with acked := true, busy := false }
      | none => s)
    id)

/-- WARP_MSG_NAK_RESET (R155). -/
def execWarpMsgNakReset (mpass : Bool) (dst src xid : BitVec 8) (s : State) : Out :=
  .next (s.inbound fun s => s.msgIn mpass dst.toNat src.toNat
    (fun p => .msg 2 false false p dst src xid 0 0)
    (fun s => match s.sendOf src.toNat xid.toNat with
      | some d => s.endSend d 0x61 [3]
      | none => s)
    id)

/-- WARP_MSG_NAK_BUSY (R155): the transfer waits for its resend. -/
def execWarpMsgNakBusy (mpass : Bool) (dst src xid : BitVec 8) (s : State) : Out :=
  .next (s.inbound fun s => s.msgIn mpass dst.toNat src.toNat
    (fun p => .msg 3 false false p dst src xid 0 0)
    (fun s => match s.sendOf src.toNat xid.toNat with
      | some d => if d.acked then s else (s.dropFrags d).updSend d fun x => { x with busy := true }
      | none => s)
    id)

/-- The open transfer with an XID. -/
def State.sendXid (s : State) (xid : Nat) : Option Send := s.warp.sends.find? fun d => decide (d.xid = xid)

/-- WARP_MSG_RETRY_TIMEOUT (R155): the whole transfer again. -/
def execWarpMsgRetryTimeout (xid : BitVec 8) (s : State) : Out :=
  .next (match s.sendXid xid.toNat with
    | some d => if d.acked || d.busy then s else s.sendFrags d
    | none => s)

/-- WARP_MSG_BUSY_RESEND (R155). -/
def execWarpMsgBusyResend (xid : BitVec 8) (s : State) : Out :=
  .next (match s.sendXid xid.toNat with
    | some d => if d.busy then (s.sendFrags d).updSend d fun x => { x with busy := false } else s
    | none => s)

/-- WARP_MSG_DEADLINE (R155): ABORTED, with reason TIMEOUT or BUSY. -/
def execWarpMsgDeadline (xid : BitVec 8) (s : State) : Out :=
  .next (match s.sendXid xid.toNat with
    | some d => s.endSend d 0x61 [if d.busy then 2 else 1]
    | none => s)

/-! ### Enumeration (R148, R161) -/

/-- A member that held the ID `old` takes its ID. -/
def State.takeId (s : State) (old : Option Nat) (c : Nat) : State :=
  if s.wrpReset || s.isMaster then s
  else if 256 ≤ c then (s.set R.WRP_STAT_NOID 1).set R.WRP_ID_VALID 0
  else
    let changed := old.any fun o => decide (o ≠ c)
    let s := ((s.set R.WRP_ID_ID c).set R.WRP_ID_VALID 1).set R.WRP_STAT_NOID 0
    let s := s.wrp fun w => { w with lastId := some c }
    if changed then ((s.set R.WRP_STAT_IDCHG 1).raise 122).restartSends else s

/-- A member that held the ID `old` handles an ENUM frame. -/
def State.enumMember (s : State) (old : Option Nat) (count : BitVec 9) (tag : BitVec 7) (dev : BitVec 48) : State :=
  (s.takeId old count.toNat).pass (.enum (count + 1) tag dev)

/-- A member sends the frame: a MSG frame, or a BYPASS frame but RESET (R147, R154, R157). -/
def isMemberFrame (f : Frame) : Bool :=
  match f with
  | .msg _ _ _ _ _ _ _ _ _ => true
  | .bypass sub _ => decide (sub ≠ 4)
  | _ => false

/-- Node 0 takes the MEMBER role (R161): what only node 0 does ends with it, the frames it held to forward among it, and
a request whose GSTART frame has not been launched is refused with BUSY. -/
def State.demote (s : State) : State :=
  let s := (s.wrp fun w => { w with
    demoted := true, own := w.own.filter isMemberFrame, fwd := [], launched := [], stepPick := none, stepDue := false
    cal := none, calSeq := 0 }).gstartReady (fun _ => true) 0x20
  ((s.set R.WRP_STAT_TIMELOCK 0).set R.WRP_STAT_RINGOPEN 0).set R.WRP_STAT_TOOMANY 0

/-- Node 0's ENUM frame has come back: the node count, and a calibration (R148, R149). -/
def State.enumBack (s : State) (n : Nat) : State :=
  let s := (s.wrp fun w => { w with n := n, lastId := some 0 }).setB R.WRP_STAT_TOOMANY (decide (256 < n))
  s.startCal

/-- An ENUM frame (R148, R161): node 0's own, a foreign one, or one for a member. -/
def State.enumIn (s : State) (count : BitVec 9) (tag : BitVec 7) (dev : BitVec 48) : State :=
  if s.isMaster && s.originates then
    if s.warp.enumTag = some tag ∧ dev.toNat = s.devLow then s.enumBack count.toNat
    else
      let own := s.devLow * 128 + (s.warp.enumTag.map BitVec.toNat).getD 0
      let s := (s.set R.WRP_STAT_DUALM 1).raise 127
      if dev.toNat * 128 + tag.toNat < own then
        s.demote.enumMember (some 0) count tag dev
      else s
  else s.enumMember s.warpId count tag dev

/-- WARP_ENUM_FRAME (R148). -/
def execWarpEnumFrame (count : BitVec 9) (tag : BitVec 7) (dev : BitVec 48) (s : State) : Out :=
  .next (s.inbound fun s => s.enumIn count tag dev)

/-! ### Calibration (R149) -/

/-- A MEASURE frame: a member adds its trim and its own forwarding latency, `t`; at node 0 `t` is the round trip. -/
def State.measureIn (s : State) (num : BitVec 16) (acc t : BitVec 32) : State :=
  if s.isMaster && s.originates then
    let s := s.wrp fun w => { w with cal := w.cal.map fun x => (t.toInt :: x.1, acc.toInt) }
    if num.toNat = 15 then s.endCal else s
  else
    let part := acc + BitVec.ofInt 32 (16 * s.gets R.WRP_LINKTRIM)
    let s := if s.wrpReset then s else (s.set R.WRP_FWD t.toNat).wrp fun w => { w with part := part.toNat }
    s.pass (.calMeasure num (part + t))

/-- WARP_CAL_MEASURE_FRAME (R149). -/
def execWarpCalMeasureFrame (num : BitVec 16) (acc t : BitVec 32) (s : State) : Out :=
  .next (s.inbound fun s => s.measureIn num acc t)

/-- A RESULT frame: a member computes D_k = k × LBAR + S_k. -/
def State.resultIn (s : State) (num : BitVec 16) (lbar : BitVec 32) (n : BitVec 16) : State :=
  if s.isMaster && s.originates then s
  else
    let s := if s.wrpReset then s
      else
        let s := (s.set R.WRP_LBAR lbar.toNat).set R.WRP_NODES n.toNat
        if s.flag R.WRP_ID_VALID then s.set R.WRP_DELAY (s.get R.WRP_ID_ID * lbar.toNat + s.warp.part) else s
    s.pass (.calResult num lbar n)

/-- WARP_CAL_RESULT_FRAME (R149). -/
def execWarpCalResultFrame (num : BitVec 16) (lbar : BitVec 32) (n : BitVec 16) (s : State) : Out :=
  .next (s.inbound fun s => s.resultIn num lbar n)

/-- Node 0 outside bypass starts a calibration. -/
def State.calDue (s : State) : State := if s.on 9 && s.isMaster && !s.inBypass then s.startCal else s

/-- WARP_CALIBRATION_TIMER (R149). -/
def execWarpCalibrationTimer (s : State) : Out := .next s.calDue

/-- WARP_CALIBRATION_RETRY (R149). -/
def execWarpCalibrationRetry (s : State) : Out := .next (if s.warp.cal.isNone then s.calDue else s)

/-! ### Bypass and the ring (R157, R159, R160) -/

/-- A BYPASS frame: node 0 removes it, another node forwards it. -/
def State.bypassIn (s : State) (sub : BitVec 5) (node : BitVec 8) (f : State → State) : State :=
  if s.isMaster && s.originates then f s else s.pass (.bypass sub node)

/-- WARP_BYPASS_ENTER_FRAME (R157): node 0 notes the node. -/
def execWarpBypassEnterFrame (node : BitVec 8) (s : State) : Out :=
  .next (s.inbound fun s => s.bypassIn 0 node fun s => s.wrp fun w => { w with bypassed := insOnce w.bypassed node.toNat })

/-- WARP_BYPASS_LEAVE_FRAME (R157): node 0 enumerates, and calibrates when its frame is back. -/
def execWarpBypassLeaveFrame (node : BitVec 8) (s : State) : Out :=
  .next (s.inbound fun s => s.bypassIn 1 node fun s =>
    (s.wrp fun w => { w with bypassed := without w.bypassed node.toNat }).startEnum)

/-- WARP_BYPASS_BREAK_FRAME (R159). -/
def execWarpBypassBreakFrame (node : BitVec 8) (s : State) : Out := .next (s.inbound fun s => s.bypassIn 2 node id)

/-- WARP_BYPASS_HEALED_FRAME (R160). -/
def execWarpBypassHealedFrame (node : BitVec 8) (s : State) : Out := .next (s.inbound fun s => s.bypassIn 3 node id)

/-- WARP_BYPASS_RESET_FRAME (R157): a member it names, with RRSTEN set, is reset. -/
def execWarpBypassResetFrame (node : BitVec 8) (s : State) : Out :=
  .next (s.inbound fun s =>
    let s' := s.bypassIn 4 node id
    if !s.isMaster && decide (s.warpId = some node.toNat) && s.flag R.WRP_CFG_RRSTEN && !s.wrpReset then s'.askReset 9
    else s')

/-- WARP_EMPTY_FRAME (R147). -/
def execWarpEmptyFrame (s : State) : Out := .next (s.inbound State.emptyIn)

/-- WRP_CRCCNT counts a frame, outside a SYS reset of the frame's registers. -/
def State.countBad (s : State) : State := if s.wrpReset then s else s.inc R.WRP_CRCCNT

/-- WARP_RESERVED_FRAME (R146): discarded and counted. -/
def execWarpReservedFrame (_ : BitVec 5) (_ : BitVec 64) (s : State) : Out :=
  .next (s.inbound fun s => s.countBad.pass .empty)

/-- A CRC failure (R147, R161): counted; the seventeenth within 1 ms raises ICU 125, and the count begins again. -/
def State.crcFail (s : State) : State :=
  let now := s.time.tb.toNat
  let l := now :: s.warp.crc.filter fun t => decide (t ≤ now) && decide (now < t + 125000)
  let s := s.countBad.pass .empty
  if 16 < l.length then (s.wrp fun w => { w with crc := [] }).raise 125 else s.wrp fun w => { w with crc := l }

/-- WARP_CRC_FAILURE (R147). -/
def execWarpCrcFailure (s : State) : Out := .next (s.inbound State.crcFail)

/-- WARP_LINK_DOWN (R159): the node originates on its own clock, and sends BREAK. -/
def execWarpLinkDown (s : State) : Out :=
  .next (if !s.on 9 || s.flag R.WRP_STAT_LINKDOWN then s
    else
      let s := (s.set R.WRP_STAT_LINKDOWN 1).raise 120
      s.queueFrame (.bypass 2 (BitVec.ofNat 8 (s.warp.lastId.getD 0))))

/-- WARP_RING_OPEN (R159). -/
def execWarpRingOpen (s : State) : Out :=
  .next (if !s.on 9 || !s.isMaster || s.flag R.WRP_STAT_RINGOPEN then s
    else (s.set R.WRP_STAT_RINGOPEN 1).raise 122)

/-- WARP_LINK_RESTORED (R160). -/
def execWarpLinkRestored (s : State) : Out :=
  .next (if !s.on 9 || !s.flag R.WRP_STAT_LINKDOWN then s
    else (s.set R.WRP_STAT_LINKDOWN 0).queueFrame (.bypass 3 (BitVec.ofNat 8 (s.warp.lastId.getD 0))))

/-! ### Stagger slots (R153) -/

/-- Load the slot, or refuse it under the pair conditions of R138, or where k ≥ N. -/
def State.slotLoad (s : State) : State :=
  let n := s.get R.WRP_SLOT_N
  let k := s.get R.WRP_SLOT_K
  let ps := (List.range 12).filter fun p => s.bit R.WRP_SLOTPAIRS p
  let bad := decide (n ≤ k) || ps.any fun p => s.shedPair p
    || (decide (s.get (R.PWM_CTRL_MODE p) = 2) && decide (p % 2 = 1) && decide (s.get (R.PWM_CTRL_MODE (p - 1)) = 2))
  if bad || !s.on 6 then s.set R.WRP_STAT_SLOTERR 1
  else
    let s := ps.foldl (fun s p =>
      let per := s.perWritten p
      (s.updPwm p fun w => { w with offSlot := (n - k) * per / n % per }).writePhase p per) s
    s.set R.WRP_STAT_SLOTLD 1

/-- A write of WRP_SLOT. -/
def State.writeWarpSlot (s : State) (q : Who) (v : Nat) : State :=
  let s := (s.writeReg q 0x11028 v).set R.WRP_SLOT_LOAD 0
  if v.testBit 31 then s.slotLoad else s

/-- WARP_SLOT_LOAD (R153). -/
def execWarpSlotLoad (q : Who) (v : Word) (s : State) : Out :=
  .next (s.via q.req 9 fun s => s.writeWarpSlot q v.toNat)

end Sys2Proof.Machine
end

