-- ==== Sys2Proof/Machine/IoBus.lean ====
section
/-!
DEFINITION. The I/O space (R8 to R10, R14): what a write and a read of a register do, by address, for every
requester.
-/

namespace Sys2Proof.Machine

/-! ### Writes, frame by frame -/

/-- SYS, CLK, PWR and RST. -/
def State.putSys (s : State) (q : Who) (a v : Nat) : State :=
  match a with
  | 0x0004 => s.keyWrite q v
  | 0x0008 => s.writeLockcfg q v
  | 0x1004 => s.writeClkWin v
  | 0x200C => s.writeDomreq q v
  | 0x2010 => s.writeSram q v
  | 0x3004 => if v = 0x52A7 ∧ q.req ≠ .dma then s.askReset 7 else s
  | _ => s.writeReg q a v

/-- ICU (Tables 12.2, 12.4 and 12.5, R252, R254, R256, R258). -/
def State.putIcu (s : State) (q : Who) (a v : Nat) : State :=
  if a < 0x4380 ∧ a % 4 = 0 then s.writeIcuSrc q ((a - 0x4000) / 4) v
  else if 0x4C00 ≤ a ∧ a < 0x4C40 ∧ a % 4 = 0 then s.writeIcuGrp q ((a - 0x4C00) / 4) v
  else if 0x4800 ≤ a ∧ a < 0x4B80 ∧ a % 4 = 0 then s.writeIcuSts ((a - 0x4800) / 4) v
  else if a = 0x4D10 then s.sgiSet v
  else s.icuChange fun s => s.writeReg q a v

/-- A timer, the timebase registers and the stagger groups. -/
def State.putTmr (s : State) (q : Who) (a v : Nat) : State :=
  if a < 0x6400 then
    let n := (a - 0x6000) / 0x40
    match a % 0x40 with
    | 0x00 => s.writeTmrCtrl q n v
    | 0x04 => s.writeTmrCnt n v
    | 0x08 => s.writeTmrVal q n 0x08 v
    | 0x0C => s.writeTmrVal q n 0x0C v
    | 0x10 => s.writeTmrVal q n 0x10 v
    | 0x14 => s.writeTmrVal q n 0x14 v
    | 0x28 => s.writeTmrPin q n v
    | _ => s.writeReg q a v
  else if a = 0x6810 then s.writeGstart q v
  else if a = 0x6814 then s.putLatch q.req v
  else if a = 0x6818 then s.commitWide q.req v
  else if 0x6900 ≤ a ∧ a < 0x6940 ∧ a % 0x10 = 0 then s.writeStg q ((a - 0x6900) / 0x10) v
  else s.writeReg q a v

/-- The Heddle matrix and the shedding groups. -/
def State.putHed (s : State) (q : Who) (a v : Nat) : State :=
  if a < 0x7180 ∧ a % 4 = 0 then s.writeHedDst q ((a - 0x7000) / 4) v
  else if a = 0x7180 then s.strobe (v % 16)
  else if a = 0x7200 ∨ a = 0x7220 then s.writeShedCfg q ((a - 0x7200) / 0x20) v
  else s.writeReg q a v

/-- The value register of a pair at an offset. -/
def pwmRegAt (o : Nat) : Option PwmReg :=
  match o with
  | 0x04 => some .per
  | 0x08 => some .cmpa
  | 0x0C => some .cmpb
  | 0x10 => some .phase
  | 0x14 => some .dtr
  | 0x18 => some .dtf
  | 0x1C => some .trg
  | _ => none

/-- A pair. -/
def State.putPwm (s : State) (q : Who) (a v : Nat) : State :=
  let p := (a - 0x8000) / 0x400
  let o := a % 0x400
  match pwmRegAt o with
  | some r => s.writePwmVal q p r v none
  | none =>
    if o = 0 then fireAll (s.writePwmCtrl q p v)
    else if o = 0x2C then s.writePwmSafe q p v
    else s.writeReg q a v

/-- The trip frame (R94, R95). -/
def State.putTrp (s : State) (q : Who) (a v : Nat) : State :=
  if 0xB070 ≤ a ∧ a < 0xB0A0 ∧ a % 4 = 0 then
    (if v.testBit 31 then s.clearTrip ((a - 0xB070) / 4) else s)
  else if a = 0xB0A0 then s.softTrip (bitsOf v 11 0) (bitsOf v 27 16)
  else s.writeTrip q a v

/-- A lane. -/
def State.putLn (s : State) (q : Who) (a v : Nat) : State :=
  let k := (a - 0xC000) / 0x100
  match a % 0x100 with
  | 0x00 => s.writeLaneCtrl q k v
  | 0x04 => fireAll (s.writeReg q a v).missCheck
  | 0x10 => s.writeLaneRef q k v
  | _ => s.writeReg q a v

/-- ADC cores, comparators, DACs and the reference monitor. -/
def State.putAna (s : State) (q : Who) (a v : Nat) : State :=
  if a < 0xE000 then
    (if a < 0xD800 ∧ a % 0x100 = 0 then s.writeAdcCtrl q ((a - 0xD000) / 0x100) v
      else fireAll (s.writeReg q a v).missCheck)
  else if a < 0xE200 ∧ a % 0x20 = 0 then s.writeCmpCfg q ((a - 0xE000) / 0x20) v
  else if a = 0xE800 ∨ a = 0xE804 ∨ a = 0xE808 then s.writeDac q ((a - 0xE800) / 4) v
  else if a = 0xF00C then s.writeRfmWin q v
  else s.writeReg q a v

/-- The Warp frame. -/
def State.putWrp (s : State) (q : Who) (a v : Nat) : State :=
  match a with
  | 0x11000 => (s.writeReg q a v).bypassCheck
  | 0x11028 => s.writeWarpSlot q v
  | _ => s.writeReg q a v

/-- The TIL set a requester reads (R243, R249): its own core's, or that of the group or strand A. -/
def tilCore (q : Req) : Nat := (reqCore q).getD 0

/-- The TIL frame (R249). -/
def State.putTil (s : State) (q : Who) (a v : Nat) : State :=
  let c := tilCore q.req
  match a with
  | 0x13000 => s.updCore c fun k =>
      { k with tAccSat := k.tAccSat && !v.testBit 0, tDrnSat := k.tDrnSat && !v.testBit 1 }
  | 0x13004 => s.updCore c fun k => { k with tAccCnt := BitVec.ofNat 16 v }
  | 0x13008 => s.updCore c fun k => { k with tDrnCnt := BitVec.ofNat 16 v }
  | 0x1300C => s.updCore c fun k => { k with tResumes := BitVec.ofNat 16 v, tStops := BitVec.ofNat 16 (v / 2 ^ 16) }
  | _ => s

/-- The worlds (R294, R301). -/
def State.putWld (s : State) (q : Who) (a v : Nat) : State :=
  match a with
  | 0x14000 => (s.writeReg q a v).worldCfg
  | 0x14010 => if v.testBit 0 && !q.sealedW then s.beginLoad 3 else s
  | _ => s.writeReg q a v

/-- The flash controller. -/
def State.putFlc (s : State) (q : Who) (a v : Nat) : State :=
  match a with
  | 0x16024 => s.flcArm q v
  | 0x16028 => s.flcCmd q v
  | _ => s.writeReg q a v

/-- GPIO, UART0 and I2C0. -/
def State.putSerial (s : State) (q : Who) (a v : Nat) : State :=
  if a < 0x18000 then
    fireAll (match a with
      | 0x17048 => s.writeOutSet v
      | 0x1704C => s.writeOutClr v
      | _ => s.writeReg q a v).drivenTrips
  else if a < 0x19000 then (if a = 0x18008 then s.writeUartTx v else s.writeUart q a v)
  else
    match a with
    | 0x19000 => s.writeI2cCtrl q v
    | 0x19008 => s.writeI2cTx v
    | 0x1900C => s.writeXfer q v
    | _ => s.writeI2c q a v

/-- The DBG frame, for the debug port (R456): without authority over the bus its writes are answered and control
nothing (R440); a burst is the debug port's own operation (R452). -/
def State.putDbg (s : State) (q : Who) (a v : Nat) : State :=
  match a with
  | 0x1B004 => if v.testBit 4 then s.endGrant else s
  | 0x1B008 => if s.dbgOpen then s.writeDbgCtrl v else s
  | 0x1B024 => if s.dbgOpen then s.writeRegdata v else s
  | _ => if s.dbgOpen || decide (0x1B080 ≤ a) then s.writeReg q a v else s

/-- The life-cycle frame. -/
def State.putLcs (s : State) (q : Who) (a v : Nat) : State :=
  match a with
  | 0x1C008 => s.writeLcsReq q v
  | 0x1C034 => s.writeScrap q v
  | 0x1C048 => s.writeFcmd q v
  | _ => s.writeReg q a v

/-- A write by `q` to the I/O address `a` of a frame that answers. -/
def State.ioPut (s : State) (q : Who) (a v : Nat) : State :=
  if frameIgnores q.req a then s
  else
    match a / 0x1000 with
    | 0x0 | 0x1 | 0x2 | 0x3 => s.putSys q a v
    | 0x4 => s.putIcu q a v
    | 0x5 => if a < 0x5400 ∧ a % 0x40 = 0 then s.writeDmaCtrl q ((a - 0x5000) / 0x40) v else s.writeReg q a v
    | 0x6 => s.putTmr q a v
    | 0x7 => s.putHed q a v
    | 0x8 | 0x9 | 0xA => s.putPwm q a v
    | 0xB => s.putTrp q a v
    | 0xC => s.putLn q a v
    | 0xD | 0xE | 0xF => s.putAna q a v
    | 0x10 => (s.writeReg q a v).govJudge
    | 0x11 => s.putWrp q a v
    | 0x12 => if a = 0x12038 then s.wdKick q.req v else s.writeReg q a v
    | 0x13 => s.putTil q a v
    | 0x14 => s.putWld q a v
    | 0x15 => s.writeMbx q a v
    | 0x16 => s.putFlc q a v
    | 0x17 | 0x18 | 0x19 => s.putSerial q a v
    | 0x1B => s.putDbg q a v
    | 0x1C => s.putLcs q a v
    | _ => s.writeReg q a v

/-- A write of a word to the I/O space (R10, R14, R477): above the last frame a bus error; else as the frame's
domain answers. -/
def State.ioWrite (s : State) (q : Who) (a v : Nat) : State :=
  match frameDomain a with
  | none => s.reply q.req .busErr 0
  | some d => s.via q.req d fun s => s.ioPut q a v

/-- REGISTER_WRITE (R8). -/
def execRegisterWrite (q : Who) (a : BitVec 20) (v : Word) (s : State) : Out := .next (s.ioWrite q a.toNat v.toNat)

/-! ### Reads -/

/-- The wide value whose low word stands at `a` (R129). -/
def wideLow (a : Nat) : Option Wide :=
  if h : 0x6000 ≤ a ∧ a < 0x6400 ∧ a % 0x40 = 0x1C then some (.captb ⟨(a - 0x6000) / 0x40, by omega⟩)
  else
    match a with
    | 0x6800 => some .tb
    | 0x11034 => some .gsnext
    | 0x1201C => some .lastrs
    | 0x1A024 => some .evrtc
    | 0x1A02C => some .rtc
    | _ => none

/-- The wide value whose high word stands at `a` (R129). -/
def wideHigh (a : Nat) : Option Wide :=
  if a < 4 then none else wideLow (a - 4)

/-- ICU_STSn with READY and HELD (R252, R254). -/
def State.readIcuSts (s : State) (a : Nat) : Nat :=
  let n := (a - 0x4800) / 4
  s.readReg a + b2n (s.icuReady n) * 2 ^ 28 + b2n (s.icuHeld n) * 2 ^ 27

/-- A TIL register of core `c` (R249). -/
def State.readTil (s : State) (c a : Nat) : Nat :=
  let k := s.coreAt c
  match a with
  | 0x13000 => b2n k.tAccSat + 2 * b2n k.tDrnSat + 2 ^ 8 * b2n (k.tprog.toNat.testBit 31) + 2 ^ 16 * k.tuse.toNat
  | 0x13004 => k.tAccCnt.toNat
  | 0x13008 => k.tDrnCnt.toNat
  | 0x1300C => k.tResumes.toNat + 2 ^ 16 * k.tStops.toNat
  | _ => 0

/-- An ACTIVE read of a register of a frame that answers. -/
def State.ioActive (s : State) (q : Req) (a : Nat) : State :=
  match wideLow a, wideHigh a with
  | some w, _ => s.readWideLow q w
  | none, some w => s.reply q .ok (s.highLatch q w)
  | none, none =>
    if a = 0x4 then s.reply q .ok (b2n (decide (q ∈ s.key.unlocked)) * 2 ^ 31)
    else if 0x4800 ≤ a ∧ a < 0x4B80 ∧ a % 4 = 0 then s.reply q .ok (s.readIcuSts a)
    else if a = 0x5400 then s.reply q .ok s.dmaBusy
    else if 0x6000 ≤ a ∧ a < 0x6400 ∧ a % 0x40 = 0x04 then s.reply q .ok (s.readTmrCnt ((a - 0x6000) / 0x40))
    else if 0x6000 ≤ a ∧ a < 0x6400 ∧ a % 0x40 = 0x18 then s.readTmrCap q ((a - 0x6000) / 0x40)
    else if 0x8000 ≤ a ∧ a < 0xB000 ∧ a % 0x400 = 0x44 then s.readPwmCnt q ((a - 0x8000) / 0x400)
    else if 0xD000 ≤ a ∧ a < 0xD800 ∧ a % 4 = 0 ∧ 0x20 ≤ a % 0x100 ∧ a % 0x100 < 0x30 then
      s.readAdcRes q ((a - 0xD000) / 0x100) (a % 0x100 / 4 - 8)
    else if a / 0x1000 = 0x13 then s.reply q .ok (s.readTil (tilCore q) a)
    else if a = 0x18004 then s.readUartRx q
    else if a = 0x19004 then s.readI2cRx q
    else if a = 0x1B024 then (let (v, s) := s.readRegdata false; s.reply q .ok v)
    else if a = 0x1C054 then s.reply q .ok s.readFrdata
    else s.reply q .ok (s.readReg a)

/-- A QUIET read: the value of an ACTIVE read, with none of the side effects of Table 20.5 (R445). Revision A1
loads the debug latch of WRP_GSNEXT (R582, A1-04). -/
def State.ioQuiet (s : State) (q : Req) (a : Nat) : State :=
  let t := s.ioActive q a
  if a = 0x1B024 then t
  else if a = 0x11034 ∧ q = .debug then { s with resp := t.resp }.loadLatch q .gsnext
  else { s with resp := t.resp, free := t.free }

/-- A read of a word of the I/O space (R10, R14, R477). -/
def State.ioRead (s : State) (q : Req) (a : Nat) (quiet : Bool) : State :=
  match frameDomain a with
  | none => s.reply q .busErr 0
  | some d =>
    if s.on d then (if a / 0x1000 = 0x15 ∧ q = .dma then s.reply q .busErr 0
      else if quiet then s.ioQuiet q a else s.ioActive q a)
    else s.reply q (s.offCode d) 0

end Sys2Proof.Machine
end

