-- ==== Sys2Proof/Machine/DraftOps.lean ====
section
/-!
DEFINITION. Drafts (chapter 23): their layout and checks, the slots, the fields marked D, and the Loom
configuration.
-/

namespace Sys2Proof.Machine

/-! ### The layout (R501, R502) -/

/-- Where Draft slot `n` stands: 0 A, 1 B. -/
def draftBase (n : Nat) : Nat := 0x10000000 + 0x8000 * n

/-- The Nouns that accept COMMIT (Table 15.6). -/
def nounCommits (n : Nat) : Bool :=
  (decide (0x200 ≤ n) && decide (n < 0x210)) || decide (n = 0x220) || (decide (0x230 ≤ n) && decide (n < 0x23C))
    || decide (n = 0x301) || decide (n = 0x302) || decide (n = 0x401) || decide (n = 0x600) || decide (n = 0x901)
    || decide (n = 0xB00) || decide (n = 0xB02)

/-- The first entry of a byte string, and the rest; none where it breaks R502. -/
def takeEntry (b : List Nat) : Option (Entry × List Nat) :=
  let t := fieldOf b 0 4
  let n := fieldOf b 4 2
  let k := fieldOf b 6 1
  if b.length < 8 ∨ fieldOf b 7 1 ≠ 0 then none
  else if k = 0 then
    (if t % 4 = 0 ∧ t < 0x1E000 ∧ 1 ≤ n ∧ n ≤ 1024 ∧ t / 0x1000 = (t + 4 * n - 4) / 0x1000 ∧ 8 + 4 * n ≤ b.length then
      some ({ target := t, data := cut b 8 (4 * n) }, b.drop (8 + 4 * n))
    else none)
  else if k = 1 then
    (let m := (n + 3) / 4 * 4
     if nounCommits t && decide (8 + m ≤ b.length) && allZero (cut b (8 + n) (m - n)) then
       some ({ target := t, noun := true, data := cut b 8 n }, b.drop (8 + m))
     else none)
  else none

/-- The entries of a body after its BOOT block; none where they do not tile it. `fuel` bounds their number. -/
def parseEntries (fuel : Nat) (b : List Nat) : Option (List Entry) :=
  match fuel, b with
  | _, [] => some []
  | 0, _ => none
  | fuel + 1, b =>
    match takeEntry b with
    | none => none
    | some (e, r) => (parseEntries fuel r).map fun l => e :: l

/-- An image of the BOOT block: none, or wholly in main sectors 0 to 26. -/
def imagePlace (a n : Nat) : Bool := decide (n = 0) || (inMain a && inMain (a + n - 1))

/-- The BOOT block keeps Table 23.3. -/
def State.bootOk (s : State) (b : List Nat) : Bool :=
  let ia := fieldOf b 0 4
  let il := fieldOf b 4 4
  let da := fieldOf b 8 4
  let dl := fieldOf b 12 4
  let st := fieldOf b 16 4
  decide (ia % 16 = 0) && decide (il % 16 = 0) && decide (il ≤ 0x20000 - s.spBytes) && imagePlace ia il
    && decide (da % 16 = 0) && decide (dl % 16 = 0) && decide (dl ≤ 0x10000) && imagePlace da dl
    && decide (st % 4 = 0) && (decide (il = 0) || decide (st < il)) && decide (fieldOf b 20 4 = 0)

/-- LENGTH of a Draft. -/
def draftLen (l : List Nat) : Nat := fieldOf l 0xC 4

/-- The header is as step 1 of R507 asks. -/
def draftHead (l : List Nat) : Bool :=
  let n := draftLen l
  decide (fieldOf l 0 4 = 0x54465244) && decide (fieldOf l 4 2 = 1) && decide (fieldOf l 8 4 ≠ 0xFFFFFFFF)
    && decide (n % 4 = 0) && decide (72 ≤ n) && decide (n ≤ 32480)

/-- The fused digest of the customer image-signing key. -/
def State.customerKey (s : State) : List Nat := fuseBytes s.shadow 191 12

/-- The check of codes 2 to 4 of Table 23.5 that rejects a Draft. -/
def State.draftBad (s : State) (l : List Nat) : Option Nat :=
  let n := draftLen l
  let flags := fieldOf l 6 2
  let body := cut l 0x10 n
  let key := s.customerKey
  let pub := cut l (0x40 + n) 96
  if 1 < flags ∨ s.bootOk (body.take 72) = false ∨ (parseEntries n (body.drop 72)).isNone = true then some 2
  else if cut l (0x10 + n) 48 ≠ sha384 (l.take (0x10 + n)) then some 3
  else if s.draftSigned = true ∧ (flags = 0 ∨ allZero key = true) then some 4
  else if flags = 1 ∧ allZero key = false
      ∧ (sha384 pub ≠ key ∨ Config.ecdsaVerify pub (l.take (0xA0 + n)) (cut l (0xA0 + n) 96) = false) then some 4
  else none

/-- The Draft a byte string holds. -/
def draftOf (l : List Nat) : Draft :=
  let body := cut l 0x10 (draftLen l)
  { seq := fieldOf l 8 4, boot := body.take 72, entries := (parseEntries (draftLen l) (body.drop 72)).getD [] }

/-- The bytes of an entry. -/
def Entry.bytes (e : Entry) : List Nat :=
  let n := e.data.length
  toLE 4 e.target ++ toLE 2 (if e.noun then n else n / 4) ++ [if e.noun then 1 else 0, 0]
    ++ padTo ((n + 3) / 4 * 4) e.data

/-- The bytes of an unsigned Draft with a sequence number, up to its digest. -/
def Draft.bytes (d : Draft) (seq : Nat) : List Nat :=
  let body := d.boot ++ d.entries.flatMap Entry.bytes
  let l := toLE 4 0x54465244 ++ [1, 0, 0, 0] ++ toLE 4 seq ++ toLE 4 body.length ++ body
  l ++ sha384 l

/-! ### The slots (R507, R511) -/

/-- Slot `n` holds a candidate. -/
def State.isCandidate (s : State) (n : Nat) : Bool :=
  decide (fieldOf (s.rdBytes (draftBase n + 0x7FE0) 4) 0 4 = 0x5A5AC3C3) && draftHead (s.rdBytes (draftBase n) 16)

/-- The check of Table 23.5 that slot `n` fails; 0 none. -/
def State.slotFail (s : State) (n : Nat) : Nat :=
  if !s.isCandidate n then 1
  else
    match s.draftBad (s.rdBytes (draftBase n) 0x7FE0) with
    | some c => c
    | none => if s.eccBad (draftBase n) 0x8000 then 5 else 0

/-- The sequence number in the header of slot `n`. -/
def State.slotSeq (s : State) (n : Nat) : Nat := fieldOf (s.rdBytes (draftBase n + 8) 4) 0 4

/-- The candidates, newer first. -/
def State.draftOrder (s : State) : List Nat :=
  (if newer32 (s.slotSeq 1) (s.slotSeq 0) then [1, 0] else [0, 1]).filter s.isCandidate

/-- The slot R507 selects. -/
def State.newestDraft (s : State) : Option Nat := s.draftOrder.find? fun n => decide (s.slotFail n = 0)

/-- The check result boot records of slot `n`: 0 where it passed or was not checked. -/
def State.slotChecked (s : State) (n : Nat) : Nat :=
  if !s.isCandidate n then 1
  else if s.newestDraft.isSome && decide (s.newestDraft ≠ some n) && decide (s.draftOrder.head? ≠ some n) then 0
  else s.slotFail n

/-- The Draft in slot `n`. -/
def State.slotDraft (s : State) (n : Nat) : Draft := draftOf (s.rdBytes (draftBase n) 0x7FE0)

/-- The slot a new Draft goes to (R511). -/
def State.targetSlot (s : State) : Nat := if s.newestDraft = some 0 then 1 else 0

/-- The sequence number of a COMMIT (R511). -/
def State.nextSeq (s : State) : Nat :=
  match s.newestDraft with
  | none => 1
  | some n => if s.slotSeq n + 1 = 0xFFFFFFFF then 0 else s.slotSeq n + 1

/-- The write of a Draft into slot `n` (R511): the sector with the commit unit is erased first, and the commit unit
programmed last. -/
def draftWrite (n : Nat) (l : List Nat) : FlashOp :=
  { erase := [(draftBase n + 0x4000, 0x4000), (draftBase n, 0x4000)]
    prog := [(draftBase n, padTo ((l.length + 31) / 32 * 32) l),
      (draftBase n + 0x7FE0, toLE 4 0x5A5AC3C3 ++ List.replicate 28 0xFF)] }

/-! ### The fields marked D (R502, R508, R513) -/

/-- The ROM default Draft's values that are not 0 (Table 23.6, R475). -/
def draftDefaults : List (Fld × Nat) :=
  [(R.EGV_CFG_BLDPAIR, 15), (R.RFM_WIN_INNER, 524), (R.RFM_WIN_OUTER, 2097), (R.RFM_CFG_SWEN, 1),
   (R.CLK_CFG_FITX, 1), (R.CLK_WIN_INNER, 31), (R.CLK_WIN_OUTER, 41), (R.CLK_RCWIN, 31457), (R.CLK_LEAN, 3),
   (R.PLY_CFG_RSTHR, 16), (R.PLY_CFG_UNREC, 1), (R.WLD_SWDT, 1000), (R.EGV_LVLCFG_TAUSEL, 2), (R.PWR_CFG, 100),
   (R.PWR_SRAM_RET, 15), (R.FLC_ECCTHR, 64)]

/-- The ROM default Draft's value of a field. -/
def draftDefault (f : Fld) : Nat := ((draftDefaults.find? fun x => decide (x.1 = f)).map fun x => x.2).getD 0

/-- The word an entry gives the register at `a`. -/
def Entry.word (e : Entry) (a : Nat) : Option Nat :=
  if !e.noun && decide (e.target ≤ a) && decide (a < e.target + e.data.length) && decide ((a - e.target) % 4 = 0) then
    some (fieldOf e.data (a - e.target) 4)
  else none

/-- The word a Draft gives the register at `a`: that of the last entry that covers it. -/
def Draft.word (d : Draft) (a : Nat) : Option Nat :=
  d.entries.foldl (fun w e => (e.word a).orElse fun _ => w) none

/-- The value a Draft gives a field marked D. -/
def Draft.value (d : Draft) (f : Fld) : Nat :=
  match d.word f.addr with
  | some w => presented w f
  | none => draftDefault f

/-- The addresses a row of the register table names. -/
def RegT.places (r : RegT) : List Nat :=
  (List.range r.n2).flatMap fun j => (List.range r.n1).map fun i => r.base + r.s2 * j + r.s1 * i

/-- A field boot fills by a rule of its own: RST_ASTART and PLY_MODE.CUR (R171, R188, R510). -/
def bootField (f : Fld) : Bool := decide (f.addr = 0x3010) || decide (f = R.PLY_MODE_CUR)

/-- The fields marked D of domain `d`. -/
def draftFields (d : Nat) : List Fld :=
  regTable.flatMap fun r =>
    let fs := r.fields.filter fun f => decide (f.rst = .draft) && decide (f.pd = d) && !bootField f
    if fs.isEmpty then [] else r.places.flatMap fun a => fs.map fun f => { f with addr := a }

/-- A field takes its value of the Draft; for a ONCE field that is its first write (R427). -/
def State.loadField (s : State) (dr : Draft) (f : Fld) : State :=
  let s := s.set f (dr.value f)
  if f.acc = .once then s.freeze f false else s

/-- The fields marked D of domain `d` are loaded. -/
def State.loadDraft (s : State) (dr : Draft) (d : Nat) : State := (draftFields d).foldl (fun s f => s.loadField dr f) s

/-! ### The Loom (R99, R139, R509) -/

/-- The EN bits that step 1 of R509 holds clear. -/
def heldEns : List Fld :=
  (List.range 224).map R.ICU_SRC_EN ++ (List.range 96).map R.HED_DST_EN ++ (List.range 2).map R.SHED_CFG_EN
    ++ (List.range 16).map R.LN_CTRL_EN ++ (List.range 12).map R.PWM_ADT_EN ++ (List.range 12).map R.PWM_CTRL_EN
    ++ (List.range 16).map R.TMR_CTRL_EN ++ [R.EGV_LVLCFG_EN]

/-- A field of the ICU frame. -/
def icuField (f : Fld) : Bool := decide (f.addr / 0x1000 = 4)

/-- A PD6 field is loaded with its EN bit held clear. -/
def State.loadHeld (s : State) (dr : Draft) (f : Fld) : State := if f ∈ heldEns then s.set f 0 else s.loadField dr f

/-- Crerus as the writer of a register. -/
def byCrerus : Who := { req := .crerus, sealedW := false }

/-- The effective safe states follow from the fused defaults and the Draft (R97), and the pad latches take them. -/
def State.effSafe (s : State) : State :=
  let s := (List.range 12).foldl (fun s p =>
    (s.set (R.PWM_SAFE_EFFA p) (safer (s.get (R.PWM_SAFE_FUSEA p)) (s.get (R.PWM_SAFE_SAFEA p)))).set
      (R.PWM_SAFE_EFFB p) (safer (s.get (R.PWM_SAFE_FUSEB p)) (s.get (R.PWM_SAFE_SAFEB p)))) s
  s.latchPads

/-- A Draft write its target refuses is counted (R508). -/
def State.draftErr (s : State) (f : Fld) (was : Bool) : State := if s.flag f && !was then s.inc R.RST_DRAFTERR else s

/-- An ICU source is enabled by the Draft (R252, R266). -/
def State.draftIcu (s : State) (dr : Draft) (n : Nat) : State :=
  if dr.value (R.ICU_SRC_EN n) = 0 then s else (s.set (R.ICU_SRC_EN n) 1).icuEnable n

/-- A shedding group is enabled by the Draft. -/
def State.draftShed (s : State) (dr : Draft) (g : Nat) : State :=
  if dr.value (R.SHED_CFG_EN g) = 0 then s
  else ((s.set (R.SHED_CFG_EN g) 1).enableShed g).draftErr (R.SHED_STAT_CFGERR g) (s.flag (R.SHED_STAT_CFGERR g))

/-- A lane takes its coefficient set, and is enabled by the Draft with cleared history (R68). -/
def State.draftLane (s : State) (dr : Draft) (k : Nat) : State :=
  let s := s.updLane k (s.shadowSet k)
  if dr.value (R.LN_CTRL_EN k) = 0 then s
  else ((s.set (R.LN_CTRL_EN k) 1).enableLane k).draftErr (R.LN_STAT_DSTBUSY k) (s.flag (R.LN_STAT_DSTBUSY k))

/-- A pair is enabled by the Draft. -/
def State.draftPair (s : State) (dr : Draft) (p : Nat) : State :=
  let s := s.set (R.PWM_ADT_EN p) (dr.value (R.PWM_ADT_EN p))
  let v := s.readReg (0x8000 + 0x400 * p) + dr.value (R.PWM_CTRL_EN p) * 2 ^ (R.PWM_CTRL_EN p).lo
  (fireAll (s.writePwmCtrl byCrerus p v)).draftErr (R.PWM_STAT_CFGERR p) (s.flag (R.PWM_STAT_CFGERR p))

/-- A timer is enabled by the Draft. -/
def State.draftTimer (s : State) (dr : Draft) (n : Nat) : State :=
  (s.tmrLoad n).writeTmrCtrl byCrerus n (s.readReg (0x6000 + 0x40 * n) + dr.value (R.TMR_CTRL_EN n) * 2 ^ (R.TMR_CTRL_EN n).lo)

/-- A stagger group with AUTO set is loaded (R139). -/
def State.draftStagger (s : State) (g : Nat) : State :=
  if s.flag (R.STG_CFG_AUTO g) then (s.stgLoad g).draftErr (R.STG_STAT_CFGERR g) (s.flag (R.STG_STAT_CFGERR g)) else s

/-- Step 4 of R509: the held EN bits, in its order. `icu` says that the ICU sources are among them. -/
def State.enableLoom (s : State) (dr : Draft) (icu : Bool) : State :=
  let s := if icu then (List.range 224).foldl (fun s n => s.draftIcu dr n) s else s
  let s := (List.range 96).foldl (fun s n => s.set (R.HED_DST_EN n) (dr.value (R.HED_DST_EN n))) s
  let s := (List.range 2).foldl (fun s g => s.draftShed dr g) s
  let s := s.set R.EGV_LVLCFG_EN (dr.value R.EGV_LVLCFG_EN)
  let s := (List.range 16).foldl (fun s k => s.draftLane dr k) s
  let s := (List.range 12).foldl (fun s p => s.draftPair dr p) s
  (List.range 16).foldl (fun s n => s.draftTimer dr n) s

/-- Step 1 of R509: the fields of PD6 that the fuses and the Draft give, every EN bit held clear; `icu` is false at a
SLEEP exit, whose ICU frame stands as restored. -/
def State.loomFields (s : State) (dr : Draft) (icu : Bool) : State :=
  ((draftFields 6).filter fun f => icu || !icuField f).foldl (fun s f => s.loadHeld dr f) (s.fuseFields 6)

/-- The Loom is configured from a Draft (R509); `boot` asks for a capacitance measurement (R113). The control fields of
every pair are in force before the first pair starts (R77), and the governor's hold on the charging lane and on the
bleed pair before either can run (R107, R118). -/
def State.configureLoom (s : State) (dr : Draft) (icu boot : Bool) : State :=
  let s := (s.loomFields dr icu).effSafe
  let s := (List.range 4).foldl (fun s g => s.draftStagger g) s
  let s := (List.range 12).foldl (fun s p => s.ctrlIn p) (s.govStart boot)
  { s.enableLoom dr icu with loomCfg := true }.levelErr

/-! ### A domain that comes up (R43, R68, R162, R508) -/

/-- The fields of PD7 load: the windows within their bounds (R514, Table 2.13); the reference INITSEL names is selected,
and REF_INT where INITSEL is 3 or names one that is not fitted (DESIGN CHOICE, assumption 67: Table 2.13 does not say);
enabled DAC balls start to settle. -/
def State.analogUp (s : State) (dr : Draft) : State :=
  let s := (s.loadDraft dr 7).boundWin
  let i := s.get R.RFM_CFG_INITSEL
  let s := s.set R.RFM_STAT_ACTIVE (if i ≤ 2 ∧ s.refFitted i = true then i else 0)
  let s := (List.range 16).foldl (fun s j => (s.cmpRefresh j).1) s
  let s := if s.flag R.DAC_EN_EN0 then s.dacSettle 0 else s
  if s.flag R.DAC_EN_EN1 then s.dacSettle 1 else s

/-- The host's status registers show the state of the part as PD10 comes up (Tables 15.8 and 16.5). -/
def State.hostUp (s : State) : State :=
  let s := (s.setB R.HIF_STATUS_FWREADY (s.crerus.alive && !s.crerus.activating)).setB R.HIF_STATUS_RESTARTING s.crerus.activating
  let s := (s.set R.HIF_STATUS_ENTRY_PENDING (s.get R.PWR_STATE_ENTRY)).set R.HIF_STATUS_PSTATE (s.get R.PWR_STATE_PSTATE)
  (s.set R.Q_STATUS_TAMPER (s.get R.TMP_STAT_RESP)).setB R.Q_STATUS_HELD s.crerus.activating

/-- What domain `d` loads as it reaches ON with its contents lost. -/
def State.domainLoads (s : State) (d : Nat) : State :=
  let dr := s.crerus.bootDraft
  match d with
  | 0 => (s.loadDraft dr 0).boundClk
  | 3 => (s.loadDraft dr 3).fuseFields 3
  | 7 => s.analogUp dr
  | 10 => (s.loadDraft dr 10).uartSync.i2cSync.hostUp
  | 6 => s
  | d => s.loadDraft dr d

end Sys2Proof.Machine
end

