-- ==== Sys2Proof/Machine/JournalOps.lean ====
section
/-!
DEFINITION. The journal (chapter 18): pages and records, the page buffer, space and wrap, the records of vendor
firmware, the scan.
-/

namespace Sys2Proof.Machine

/-! ### Pages and records (R399 to R402) -/

/-- Where page `p` of the journal stands. -/
def pageKey (p : Nat) : Nat := 0x10400000 + 512 * p

/-- The bytes of page `p`. -/
def State.page (s : State) (p : Nat) : List Nat := s.rdBytes (pageKey p) 512

/-- Page `p` reads all ones. -/
def State.pageErased (s : State) (p : Nat) : Bool := (s.page p).all fun b => decide (b = 0xFF)

/-- The length of the record at the start of a byte string: 76 + P. -/
def recLen (b : List Nat) : Nat := 76 + (fieldOf b 10 2 + 3) / 4 * 4

/-- The first `n` records of a byte string. -/
def takeRecs : Nat → List Nat → List (List Nat)
  | 0, _ => []
  | n + 1, b => b.take (recLen b) :: takeRecs n (b.drop (recLen b))

/-- The number of a record. -/
def recRn (r : List Nat) : Nat := fieldOf r 0 8

/-- The type of a record. -/
def recType (r : List Nat) : Nat := fieldOf r 8 2

/-- The payload of a record. -/
def recPay (r : List Nat) : List Nat := cut r 28 (fieldOf r 10 2)

/-- The records of a page as bytes, by NREC. -/
def pageRecs (b : List Nat) : List (List Nat) := takeRecs (fieldOf b 8 2) (b.drop 16)

/-- The bytes of a list of records. -/
def recBytes (l : List (List Nat)) : Nat := (l.map List.length).sum

/-- Page `p` is valid (R402). -/
def State.pageValid (s : State) (p : Nat) : Bool :=
  let b := s.page p
  let n := fieldOf b 8 2
  decide (fieldOf b 0 4 = 0x4741504A) && decide (crc32 (b.take 508) = fieldOf b 508 4)
    && decide (1 ≤ n) && decide (n ≤ 6) && decide (fieldOf b 10 2 ≤ 492)
    && decide (((pageRecs b).map recLen).sum = fieldOf b 10 2) && !s.eccBad (pageKey p) 512

/-- The valid pages. -/
def State.validPages (s : State) : List Nat := (List.range 8192).filter s.pageValid

/-- The serial number of page `p`. -/
def State.pagePsn (s : State) (p : Nat) : Nat := fieldOf (s.page p) 4 4

/-- The newest valid page (R402). -/
def State.newestPage (s : State) : Option Nat :=
  s.validPages.foldl (fun best p =>
    match best with
    | none => some p
    | some q => if newer32 (s.pagePsn p) (s.pagePsn q) then some p else best) none

/-- The durable records held, by number. -/
def State.heldRecs (s : State) : List (List Nat) :=
  (s.validPages.flatMap fun p => pageRecs (s.page p)).insertionSort fun a b => decide (recRn a ≤ recRn b)

/-- The block of the oldest record held. -/
def State.oldestBlock (s : State) : Option Nat :=
  match s.heldRecs.head? with
  | none => none
  | some r => (s.validPages.find? fun p => decide (r ∈ pageRecs (s.page p))).map fun p => p / 512

/-- The bytes of a page (Table 18.4). -/
def pageBytes (psn : Nat) (recs : List (List Nat)) : List Nat :=
  let area := recs.flatten
  let b := toLE 4 0x4741504A ++ toLE 4 psn ++ toLE 2 recs.length ++ toLE 2 area.length ++ [0, 0, 0, 0] ++ area
    ++ List.replicate (492 - area.length) 0xFF
  b ++ toLE 4 (crc32 b)

/-- A record joins the page buffer (R400, R401). -/
def Jrnl.append (j : Jrnl) (typ rtc tb : Nat) (pay : List Nat) : Jrnl :=
  let body := toLE 8 j.next ++ toLE 2 typ ++ toLE 2 pay.length ++ toLE 8 rtc ++ toLE 8 tb
    ++ padTo ((pay.length + 3) / 4 * 4) pay
  let mac := hmac384 j.key (j.mac ++ body)
  { j with buf := j.buf ++ [body ++ mac], next := j.next + 1, mac := mac }

/-- The buffer takes a record of a payload of `n` bytes. -/
def Jrnl.fits (j : Jrnl) (n : Nat) : Bool := decide (recBytes j.buf + 76 + (n + 3) / 4 * 4 ≤ 492)

/-! ### Space (R403) -/

/-- The page the buffer goes to: the write position, moved past torn pages inside its block. `fuel` bounds the
walk. -/
def State.pagePlace (s : State) : Nat → Nat → Nat
  | 0, p => p
  | n + 1, p => if p % 512 = 0 || s.pageErased p then p else s.pagePlace n ((p + 1) % 8192)

/-- Where the next page goes. -/
def State.nextPage (s : State) : Nat := s.pagePlace 512 s.jrnl.wpos

/-- Page `p` is one of the last 8 before the block of the oldest record. -/
def State.pageReserved (s : State) (p : Nat) : Bool :=
  match s.oldestBlock with
  | none => false
  | some b =>
    let d := (512 * b + 8192 - p) % 8192
    decide (1 ≤ d) && decide (d ≤ 8)

/-- A page can be had: with the retention lock set, only an erased one, and for the queue none of the reserved. -/
def State.pageFree (s : State) (queue : Bool) : Bool :=
  !s.jrnl.lock || (s.pageErased s.nextPage && !(queue && s.pageReserved s.nextPage))

/-- The programming of the buffer starts; at a wrap the block is erased first (R351, R403). -/
def State.pageStart (s : State) : State :=
  let j := s.jrnl
  if j.buf.isEmpty || j.prog.isSome || s.flash.op1.isSome || !s.on 2 then s
  else
    let p := s.nextPage
    let op : FlashOp := { erase := if s.pageErased p then [] else [(0x10400000 + p / 512 * 0x40000, 0x40000)]
                          prog := [(pageKey p, pageBytes j.psn j.buf)] }
    { s with jrnl := { j with prog := some j.buf, buf := [], wpos := p } }.setFlashOp 1 (some op)

/-- Block `b` holds the newest summary record (R577). -/
def State.summaryIn (s : State) (b : Nat) : Bool :=
  match (s.heldRecs.filter fun r => decide (recType r = 0x11)).getLast? with
  | none => false
  | some r => s.validPages.any fun p => decide (p / 512 = b) && decide (r ∈ pageRecs (s.page p))

/-- Two pages before a wrap erase of the block that holds the newest summary, the summary is appended again
(R577). -/
def State.carrySummary (s : State) : State :=
  let p := s.jrnl.wpos
  if p % 512 = 510 ∧ s.summaryIn ((p / 512 + 1) % 16) = true then s.journal 577 [s.get R.HLT_CAUSE, s.health.first] else s

/-! ### The records of vendor firmware (R356, R400, R575 to R579) -/

/-- The HEALTH payload (Table 26.5). -/
def State.healthPay (s : State) : List Nat :=
  let now := s.time.rtc.toNat
  let near (l : List Nat) : Nat := satN 0xFFFF (l.filter fun t => decide (now ≤ t + 3600000000)).length
  toLE 4 (s.get R.HLT_CAUSE) ++ toLE 4 (s.get R.HLT_BSVC)
    ++ [s.get R.HLT_STAT_SVCREQ + 2 * s.get R.HLT_STAT_BSVCLIVE + 4 * b2n s.health.restored, 0]
    ++ toLE 2 (near s.ply.hour) ++ toLE 2 (s.get R.PLY_FAULT_COUNT) ++ toLE 2 (near s.flash.events)
    ++ toLE 2 (s.get R.HLT_THEXC) ++ toLE 2 (s.get R.LCS_MARGIN) ++ toLE 8 s.health.first ++ [0, 0, 0, 0]

/-- The type of a vendor record (R575, R577, R579); the others have types that the spec does not give. -/
def VRec.typ (v : VRec) : Nat :=
  match v.rule with
  | 575 => 0x10
  | 577 => 0x11
  | 579 => 0x12
  | r => 0x100 + Config.vendorType r % 0x7F00

/-- The payload of a vendor record: the layouts of ADVISORY and its summary are the model's own, the others open. -/
def State.vrecPay (s : State) (v : VRec) : List Nat :=
  match v.rule with
  | 575 => toLE 4 (v.data.getD 0 0) ++ toLE 4 (v.data.getD 1 0) ++ cut s.healthPay 10 10
  | 577 => toLE 4 (v.data.getD 0 0) ++ toLE 8 (v.data.getD 1 0)
  | r =>
    match (natsOf (Config.vendorPayload r v.data v.tb)).take 384 with
    | [] => [0]
    | l => l

/-- The RTC a vendor record carries: TMP_EVRTC in a tamper record (Table 18.5). -/
def State.vrecRtc (s : State) (v : VRec) : Nat :=
  if v.rule = 378 then s.get R.TMP_EVRTC_LO + 2 ^ 32 * s.get R.TMP_EVRTC_HI else s.time.rtc.toNat

/-- A vendor record takes its place in the buffer, or finds no page and is lost (R403); it stays owed while the
buffer has no room. -/
def State.vrecPut (s : State) (v : VRec) : State :=
  let pay := s.vrecPay v
  if !s.vrec.isEmpty || s.jrnl.prog.isSome then { s with vrec := s.vrec ++ [v] }
  else if !s.pageFree false then { s with jrnl := { s.jrnl with lost := s.jrnl.lost + 1 } }
  else if s.jrnl.fits pay.length then { s with jrnl := s.jrnl.append v.typ (s.vrecRtc v) s.time.tb.toNat pay }
  else { s with vrec := [v] }.pageStart

/-- The journal can take records: vendor firmware runs and its scan has ended. -/
def State.jrnlUp (s : State) : Bool := s.crerus.alive && s.jrnl.scanned

/-- The records owed are appended in the order they were raised (R356). -/
def State.vrecDrain (s : State) : State :=
  if s.jrnlUp && s.jrnl.prog.isNone then s.vrec.foldl (fun s v => s.vrecPut v) { s with vrec := [] } else s

/-- Everything owed and buffered is programmed: what 100 ms, an activation and a power-state entry ask for (R351). -/
def State.jrnlPush (s : State) : State := s.vrecDrain.pageStart

/-- Nothing is owed, buffered or being programmed. -/
def State.jrnlClean (s : State) : Bool := s.vrec.isEmpty && s.jrnl.buf.isEmpty && s.jrnl.prog.isNone

/-! ### The scan (R402) -/

/-- The pages passed over after page `p`, and the write position: the first erased page, or the first page of a block
that holds older records. -/
def State.scanFrom (s : State) : Nat → Nat → Nat → Nat × Nat
  | 0, p, t => (p, t)
  | n + 1, p, t =>
    if s.pageErased p then (p, t)
    else if s.pageValid p then (if p % 512 = 0 then (p, t) else s.scanFrom n ((p + 1) % 8192) t)
    else s.scanFrom n ((p + 1) % 8192) (t + 1)

/-- The last page that is not erased. -/
def State.lastUsed (s : State) : Option Nat := ((List.range 8192).filter fun p => !s.pageErased p).getLast?

/-- The scan ends: the newest record, the write position and the next number. -/
def State.jrnlScan (s : State) : State :=
  let j := s.jrnl
  let from_ : Nat := match s.newestPage, s.lastUsed with
    | some p, _ => p + 1
    | none, some p => p + 1
    | none, none => 0
  let (w, t) := s.scanFrom 8192 (from_ % 8192) 0
  let last := s.newestPage.bind fun p => (pageRecs (s.page p)).getLast?
  let n := (last.map recRn).getD 0
  let mac := (last.map recMac).getD (List.replicate 48 0)
  let psn := match s.newestPage with
    | some p => (s.pagePsn p + 1) % 2 ^ 32
    | none => 0
  { s with jrnl := { j with
      scanned := true, wpos := w, torn := t, durable := n, durMac := mac, next := n + 1, mac := mac, psn := psn } }

/-- The numbers of the held records whose MAC does not follow from the record before (R402). -/
def State.chainBreaks (s : State) : List Nat :=
  let l := s.heldRecs
  ((l.zip l.tail).filter fun x =>
    decide (recMac x.2 ≠ hmac384 s.jrnl.key (recMac x.1 ++ x.2.take (x.2.length - 48)))).map fun x => recRn x.2

/-- The check of the chain ends: every break is counted and journalled. -/
def State.jrnlVerify (s : State) : State :=
  let bad := s.chainBreaks
  let s := { s with jrnl := { s.jrnl with verified := true, breaks := s.jrnl.breaks + bad.length } }
  bad.foldl (fun s n => s.journal 402 [n]) s

/-! ### The advisory summary (R577) -/

/-- The causes and FIRSTRTC the journal holds: of the newest summary, and of the ADVISORY records after it. -/
def State.summary (s : State) : Option (Nat × Nat) :=
  let l := s.heldRecs
  let sum := (l.filter fun r => decide (recType r = 0x11)).getLast?
  let n := (sum.map recRn).getD 0
  let adv := l.filter fun r => decide (recType r = 0x10) && decide (n < recRn r)
  let first := match sum, adv with
    | some r, _ => fieldOf (recPay r) 4 8
    | none, r :: _ => fieldOf r 12 8
    | none, [] => 0
  if sum.isNone && adv.isEmpty then none
  else some (adv.foldl (fun c r => c ||| fieldOf (recPay r) 4 4) ((sum.map fun r => fieldOf (recPay r) 0 4).getD 0), first)

/-- The summary is restored at a Crerus start: it raises nothing new. -/
def State.restoreSummary (s : State) : State :=
  match s.summary with
  | none => { s with health := { s.health with restored := false } }
  | some (c, first) =>
    let s := s.set R.HLT_CAUSE (s.get R.HLT_CAUSE ||| c)
    let s := { s with health := { s.health with restored := true, first := first } }
    let asks := (List.range 11).any fun b => s.bit R.HLT_CAUSE b && !(decide (b = 8) && decide (s.lcState < 4))
    if asks then s.set R.HLT_STAT_SVCREQ 1 else s

/-! ### JOURNAL_STATUS and JREAD (R352, R410) -/

/-- The JOURNAL_STATUS payload (Table 18.7). -/
def State.jrnlStatus (s : State) : List Nat :=
  let j := s.jrnl
  let held := s.heldRecs
  let er := (List.range 8192).countP s.pageErased
  toLE 8 ((held.head?.map recRn).getD 0) ++ toLE 8 ((held.getLast?.map recRn).getD 0) ++ toLE 4 er ++ toLE 4 j.torn
    ++ [b2n j.lock + 2 * b2n (!s.pageFree true) + 4 * b2n (decide (j.breaks ≠ 0)) + 8 * b2n (j.scanned && j.verified)
          + 16 * b2n (decide (er < j.lowmark)) + 32 * b2n j.eraseFail,
        s.oldestBlock.getD 0, j.wpos / 512, 0]
    ++ toLE 4 j.breaks ++ toLE 4 j.lost ++ toLE 4 (j.buf.length + (j.prog.getD []).length)

/-- The records that fit in `n` bytes, at most `cnt` of them. -/
def fitRecs : List (List Nat) → Nat → Nat → List (List Nat)
  | [], _, _ => []
  | r :: l, n, cnt => if r.length ≤ n ∧ 0 < cnt then r :: fitRecs l (n - r.length) (cnt - 1) else []

end Sys2Proof.Machine
end

