-- ==== Sys2Proof/Machine/QueueOps.lean ====
section
/-!
DEFINITION. The custody queue (chapter 16): entries, taking, ordering, completions, and the authorisation check that
it shares with the mailboxes (R313, R350).
-/

namespace Sys2Proof.Machine

/-! ### Authorisation (R313, R350) -/

/-- The counter of a trailer that authorises a message. -/
def State.authCounter (s : State) (msg trailer : List Nat) : Option Nat :=
  let k := s.slot 63
  let c := fieldOf trailer 0 8
  if k.occ && decide (s.crerus.authctr < c) && decide (hmac384 k.key (msg ++ toLE 8 c) = cut trailer 8 48) then some c else none

/-- The check of a trailer: AUTHCTR takes the counter, or the failure is flagged and journalled. -/
def State.authorise (s : State) (msg trailer : List Nat) : Bool × State :=
  match s.authCounter msg trailer with
  | some c => (true, { s with crerus := { s.crerus with authctr := c } })
  | none => (false, (s.hifErr R.HIF_STATUS_AUTHFAIL).journal 313 [])

/-! ### Mailbox requests (R322) -/

/-- The bytes of an arrival's message. -/
def State.arrBytes (s : State) (a : Arrival) : List Nat :=
  match a.src with
  | .host n => s.rdBytes (hostKey (0x1000 + 0x200 * n)) 512
  | .loc b => s.rdBytes (lmbKey b) 512
  | .warp _ _ => padTo 512 a.bytes

/-- The Noun an arrival names. -/
def State.arrNoun (s : State) (a : Arrival) : Nat := fieldOf (s.arrBytes a) 2 2

/-- Requests that Crerus has taken, in arrival order. -/
def State.jobs (s : State) : List Job := s.crerus.susp ++ s.crerus.cur.toList

/-- The group of a Noun. -/
def Job.group (j : Job) : Nat := j.noun / 256

/-! ### Entries (R338 to R345) -/

/-- The bytes of entry `i` of the submission ring. -/
def State.ringEntry (s : State) (i : Nat) : List Nat := s.rdBytes (hostKey (0x2000 + 64 * i)) 64

/-- The key of byte `o` of the queue staging area. -/
def stageKey (o : Nat) : Nat := hostKey (0x18000 + o)

/-- A command of an entry: its fields as Table 16.1 places them; `inLen` is without the trailer of AUTH. -/
def cmdOf (b : List Nat) : QCmd :=
  let ctl := fieldOf b 2 1
  let auth := ctl.testBit 2
  { opc := fieldOf b 0 1, tag := fieldOf b 1 1 % 32, order := ctl % 4, auth := auth, deferred := ctl.testBit 3
    inOfs := fieldOf b 4 4, inLen := fieldOf b 8 4 - (if auth then 56 else 0), outOfs := fieldOf b 12 4, outLen := fieldOf b 16 4
    param := cut b 20 40, raw := b }

/-- INLEN of the entry. -/
def QCmd.inAll (c : QCmd) : Nat := fieldOf c.raw 8 4

/-- The slot a key verb names. -/
def QCmd.slot (c : QCmd) : Nat := fieldOf c.param 0 1

/-- The LABEL of a blob verb. -/
def QCmd.label (c : QCmd) : List Nat := cut c.param 2 32

/-- The bytes of PARAM from `lo` to `hi - 1` are zero. -/
def QCmd.zero (c : QCmd) (lo hi : Nat) : Bool := allZero (cut c.param lo (hi - lo))

/-- The lengths and parameters keep the limits of Table 16.3, and the fields a verb does not use are 0. -/
def QCmd.limits (c : QCmd) : Bool :=
  let noIn := decide (c.inLen = 0) && (c.auth || (decide (c.inOfs = 0) && decide (c.inAll = 0)))
  let noOut := decide (c.outOfs = 0) && decide (c.outLen = 0)
  (!c.auth || decide (56 ≤ c.inAll)) &&
  match c.opc with
  | 1 => decide (1 ≤ c.inLen ∧ c.inLen ≤ 384) && noOut && decide (0x8000 ≤ fieldOf c.param 0 2) && c.zero 2 40
  | 2 => noIn && decide (16 ≤ c.outLen) && c.zero 12 40
  | 3 => noOut && decide (c.slot ≤ 62) && decide (fieldOf c.param 1 1 ≤ 1) && c.zero 2 40
  | 4 => noIn && decide (c.slot ≤ 62) && c.zero 1 40
  | 5 => decide (1 ≤ c.inLen ∧ c.inLen ≤ 4032) && decide (c.inLen + 40 ≤ c.outLen) && decide (fieldOf c.param 0 2 ≤ 1) && c.zero 34 40
  | 6 => decide (41 ≤ c.inLen ∧ c.inLen ≤ 4072) && decide (c.inLen ≤ c.outLen + 40) && c.zero 0 2 && c.zero 34 40
  | 7 | 8 => noIn && noOut && !c.auth && c.zero 0 40
  | _ => false

/-- The status of a malformed entry (R345). -/
def QCmd.malformed (c : QCmd) : Option Nat :=
  let ctl := fieldOf c.raw 2 1
  if c.opc = 0 ∨ 8 < c.opc then some 0x10
  else if fieldOf c.raw 60 4 ≠ crc32 (c.raw.take 60) ∨ 32 ≤ fieldOf c.raw 1 1 ∨ 16 ≤ ctl ∨ fieldOf c.raw 3 1 ≠ 0 then
    some 0x12
  else if (c.deferred && decide (c.opc ≠ 1)) || !c.limits then some 0x12
  else none

/-- The status that refuses the staging ranges of an entry (R345). -/
def QCmd.ranges (c : QCmd) : Option Nat :=
  let i := c.inAll
  if (i ≠ 0 ∧ (c.inOfs % 16 ≠ 0 ∨ 0x8000 < c.inOfs + i)) ∨ (c.outLen ≠ 0 ∧ (c.outOfs % 16 ≠ 0 ∨ 0x8000 < c.outOfs + c.outLen)) then
    some 0x50
  else if i ≠ 0 ∧ c.outLen ≠ 0 ∧ c.inOfs < c.outOfs + c.outLen ∧ c.outOfs < c.inOfs + i then some 0x12
  else none

/-- The completion of a command. -/
def QCmd.completion (c : QCmd) (status r0 r1 reason flags : Nat) : QDone :=
  { num := c.num, tag := c.tag, idx := c.idx, status := status, r0 := r0, r1 := r1, reason := reason
    flags := flags + (if c.held then 16 else 0), barrier := decide (c.opc = 8) }

/-- A completion waits for its place in the ring. -/
def State.qDone (s : State) (d : QDone) : State := { s with queue := { s.queue with done := s.queue.done ++ [d] } }

/-- Crerus takes entries: it runs, no activation holds the queue and no reset of the queue is in progress. -/
def State.qServes (s : State) : Bool :=
  s.crerus.alive && !s.crerus.recovery && !s.crerus.activating && s.on 1 && s.on 10 && !s.flag R.Q_CTRL

/-- The next entry is taken (R343 to R345). -/
def State.qTake (s : State) : State :=
  if !s.qServes || decide (s.get R.Q_SQHEAD = s.get R.Q_SQTAIL) then s
  else
    let h := s.get R.Q_SQHEAD
    let q := s.queue
    let c : QCmd := { cmdOf (s.ringEntry (h % 32)) with
      idx := h % 32, num := q.num, held := decide (0 < q.heldTo), stamp := q.stamps.headD 0 }
    let s := { s with queue := { q with num := q.num + 1, heldTo := q.heldTo - 1, stamps := q.stamps.tail } }.set R.Q_SQHEAD ((h + 1) % 64)
    match c.malformed with
    | some st => s.qDone { c.completion st 0 0 0 8 with usesTag := false, barrier := false }
    | none =>
      if s.bit R.Q_TAGS c.tag then
        ((s.inc R.Q_TAGBUSY).qDone { c.completion 0x60 0 0 0 0 with usesTag := false, barrier := false })
      else
        let s := s.setBit R.Q_TAGS c.tag
        match c.ranges with
        | some st => s.qDone { c.completion st 0 0 0 0 with barrier := false }
        | none => { s with queue := { s.queue with taken := s.queue.taken ++ [c] } }

/-! ### Ordering (R346, R347) -/

/-- The resource of a verb: 1 the JOURNAL, 2 the ENGINE, 0 none. -/
def qRes (opc : Nat) : Nat :=
  match opc with
  | 1 | 2 | 7 => 1
  | 3 | 4 | 5 | 6 => 2
  | _ => 0

/-- The command is URGENT. -/
def QCmd.urgent (c : QCmd) : Bool := decide (c.order = 2) && decide (c.opc ≠ 8)

/-- A mailbox request that uses the journal arrived before the command and is still open (R356). -/
def State.behindRequest (s : State) (c : QCmd) : Bool :=
  decide (qRes c.opc = 1) &&
    ((s.crerus.arr.any fun a => decide (a.stamp < c.stamp) && decide (s.arrNoun a / 256 = 8))
      || s.jobs.any fun j => decide (j.stamp < c.stamp) && decide (j.group = 8))

/-- A taken command may start (R347). -/
def State.qMay (s : State) (c : QCmd) : Bool :=
  let q := s.queue
  let same (d : QCmd) : Bool := decide (qRes d.opc = qRes c.opc)
  let before (d : QCmd) : Bool := decide (d.num < c.num)
  let free := !q.running.any same
  let barred := q.taken.any (fun d => decide (d.opc = 8) && before d) || q.done.any (fun d => d.barrier && decide (d.num < c.num))
  let earlier := q.taken.any before || q.running.any before
  if c.opc = 8 then !earlier && !barred
  else if c.urgent then free && !q.taken.any fun d => same d && d.urgent && before d
  else free && !barred && !(q.taken.any fun d => same d && (d.urgent || before d))
    && (decide (c.order = 0) || !earlier)

/-- A command ends: it has left the running ones, and its completion waits, unless it is discarded (R347, R360). -/
def State.qEnd (s : State) (c : QCmd) (status r0 r1 reason flags : Nat) : State :=
  let s := { s with queue := { s.queue with running := s.queue.running.filter fun d => decide (d.num ≠ c.num) } }
  (if c.discard then s else s.qDone (c.completion status r0 r1 reason flags)).queueCleared

/-- The journal is free for a command. -/
def State.jrnlReady (s : State) : Bool := s.jrnlUp && s.jrnl.prog.isNone && s.vrec.isEmpty

/-- The engine work of `opc` can start or be refused: the response answers it, or the engine does. -/
def State.engineAnswers (s : State) : Bool := s.flag R.TMP_STAT_RESP || s.engineRefuses || s.engineReady

/-- The input of a command, without its trailer. -/
def State.qInput (s : State) (c : QCmd) : List Nat := s.rdBytes (stageKey c.inOfs) c.inLen

/-- The checks of a start that every verb shares (R350, R359, R418, R423): the status and reason that end the command. -/
def State.qCheck (s : State) (c : QCmd) : Option (Nat × Nat) × State :=
  if s.flag R.LCS_PROG_INPROG then (some (0x20, 0), s)
  else if s.noSecret && decide (qRes c.opc = 2) then (some (0x13, 0), s)
  else if s.flag R.TMP_STAT_RESP && decide (c.opc = 1 ∨ qRes c.opc = 2) then (some (0x40, 3), s)
  else if c.auth then
    (let (ok, s) := s.authorise (c.raw.take 60 ++ s.qInput c) (s.rdBytes (stageKey (c.inOfs + c.inLen)) 56)
     (if ok then none else some (0x13, 5), s))
  else (none, s)

/-- The first command of a verb that may start runs `f` (R347). -/
def State.qStart (s : State) (opc : Nat) (f : State → QCmd → State) : State :=
  if !s.qServes then s
  else
    let s := if qRes opc = 1 then s.vrecDrain else s
    if (qRes opc = 1 && !s.jrnlReady) || (qRes opc = 2 && !s.engineAnswers) then s
    else
      match s.queue.taken.find? fun c => decide (c.opc = opc) && s.qMay c && !s.behindRequest c with
      | none => s
      | some c =>
        let c : QCmd := { c with inp := s.qInput c }
        let s := { s with queue := { s.queue with
          taken := s.queue.taken.filter fun d => decide (d.num ≠ c.num), running := s.queue.running ++ [c] } }
        match s.qCheck c with
        | (some (st, why), s) => s.qEnd c st 0 0 why 0
        | (none, s) => f s c

/-- A queue command that uses the journal arrived before a request that does, and has not ended (R356); while the queue is
not served none holds a request back. -/
def State.behindCommand (s : State) (j : Job) : Bool :=
  s.qServes && decide (j.group = 8) &&
    (s.queue.stamps.any (fun n => decide (n < j.stamp))
      || (s.queue.taken ++ s.queue.running).any fun c => decide (qRes c.opc = 1) && decide (c.stamp < j.stamp))

/-! ### Completions (R341, R348) -/

/-- The oldest completion that waits is written while the ring has room. -/
def State.qPost (s : State) : State :=
  let t := s.get R.Q_CQTAIL
  match s.queue.done with
  | [] => s
  | d :: r =>
    if !s.crerus.alive || !s.on 1 || !s.on 10 || decide (32 ≤ (t + 64 - s.get R.Q_CQHEAD) % 64) then s
    else
      let b := toLE 2 d.status ++ [d.tag, d.idx] ++ toLE 4 d.r0 ++ toLE 4 d.r1 ++ [d.reason, d.flags, 0, 1 - t / 32 % 2]
      let s := s.wrBytes (hostKey (0x2800 + 16 * (t % 32))) b
      let s := if d.usesTag then s.clrBit R.Q_TAGS d.tag else s
      ({ s with queue := { s.queue with done := r } }.set R.Q_CQTAIL ((t + 1) % 64)).qcomp

/-! ### The journal verbs (R351, R352, R355) -/

/-- A running command changes. -/
def State.qUpd (s : State) (c : QCmd) (f : QCmd → QCmd) : State :=
  { s with queue := { s.queue with running := s.queue.running.map fun d => if d.num = c.num then f d else d } }

/-- The command's record goes into the buffer, after the page that had no room for it. -/
def State.jPut (s : State) (c : QCmd) : State :=
  if !s.pageFree true then s.qEnd c 0x31 0 0 0 0
  else if !s.jrnl.fits c.inp.length then s.pageStart
  else
    let rn := s.jrnl.next
    let s := { s with jrnl := s.jrnl.append (fieldOf c.param 0 2) s.time.rtc.toNat s.time.tb.toNat c.inp }
    if c.deferred then s.qEnd c 0 (rn % 2 ^ 32) (rn / 2 ^ 32) 0 32
    else (s.qUpd c fun d => { d with rn := some rn }).pageStart

/-- The command that waited for the page goes on once it is durable; `n` records became so. -/
def State.jResume (s : State) (n : Nat) : State :=
  match s.queue.running.find? fun c => decide (c.opc = 1 ∨ c.opc = 7) with
  | none => s
  | some c =>
    if c.opc = 7 then s.qEnd c 0 n 0 0 0
    else
      match c.rn with
      | some rn => s.qEnd c 0 (rn % 2 ^ 32) (rn / 2 ^ 32) 0 1
      | none => s.jPut c

/-- The records of a JREAD (R352). -/
def State.jRead (s : State) (c : QCmd) : State :=
  let from_ := fieldOf c.param 0 8
  let cnt := fieldOf c.param 8 4
  let held := s.heldRecs
  let avail := held.filter fun r => decide (from_ ≤ recRn r)
  let gap := match held.head? with
    | some r => decide (from_ < recRn r)
    | none => false
  let out := fitRecs avail c.outLen (if cnt = 0 then avail.length else cnt)
  match avail with
  | r :: _ =>
    if c.outLen < r.length then s.qEnd c 0x50 0 0 0 0
    else
      (s.wrBytes (stageKey c.outOfs) out.flatten).qEnd c 0 (recBytes out) out.length 0
        ((if gap then 2 else 0) + (if out.length < avail.length then 4 else 0))
  | [] => s.qEnd c 0 0 0 0 0

/-- FLUSH (R355). -/
def State.jFlush (s : State) (c : QCmd) : State := if s.jrnl.buf.isEmpty then s.qEnd c 0 0 0 0 0 else s.pageStart

/-! ### The key verbs (R353, R370) -/

/-- KSTORE. -/
def State.kStore (s : State) (c : QCmd) : State :=
  let k := s.slot c.slot
  let replace := (fieldOf c.param 1 1).testBit 0
  if !c.auth then s.qEnd c 0x13 0 0 5 0
  else if s.engineRefuses then s.qEnd c 0x20 0 0 0 0
  else if k.occ && !replace then s.qEnd c 0x31 0 0 0 0
  else if k.occ && !k.policy.testBit 1 then s.qEnd c 0x13 0 0 5 0
  else
    match s.unwrapKey c.inp with
    | none => s.qEnd c 0x13 0 0 2 0
    | some n => (s.putSlot c.slot n).qEnd c 0 0 0 0 0

/-- KFETCH. -/
def State.kFetch (s : State) (c : QCmd) : State :=
  let k := s.slot c.slot
  if !c.auth then s.qEnd c 0x13 0 0 5 0
  else if s.engineRefuses then s.qEnd c 0x20 0 0 0 0
  else if !k.occ then s.qEnd c 0x13 0 0 1 0
  else if !k.policy.testBit 0 then s.qEnd c 0x13 0 0 5 0
  else
    let w := s.wrapSlot k
    if c.outLen < w.length then s.qEnd c 0x50 0 0 0 0
    else (s.wrBytes (stageKey c.outOfs) w).qEnd c 0 w.length 0 0 0

/-! ### The blob verbs (R354, R374) -/

/-- BWRITE. -/
def State.bWrite (s : State) (c : QCmd) : State :=
  if s.engineRefuses || s.custody.esFail || !s.custody.drbg then s.qEnd c 0x20 0 0 0 0
  else
    let (nonce, s) := s.drbgBytes 12 false
    let hdr := ascii "BLOB" ++ [1, 0] ++ toLE 2 (fieldOf c.param 0 2) ++ toLE 4 c.inLen
    let ct := gcmCrypt s.blobKey nonce c.inp
    let blob := hdr ++ nonce ++ ct ++ gcmTag s.blobKey nonce (hdr ++ c.label) ct
    (s.wrBytes (stageKey c.outOfs) blob).qEnd c 0 blob.length 0 0 0

/-- The plaintext of a blob, where its checks pass. -/
def State.openBlob (s : State) (b label : List Nat) : Option (List Nat) :=
  let n := fieldOf b 8 4
  let nonce := cut b 12 12
  let ct := cut b 24 n
  if b.take 6 = ascii "BLOB" ++ [1, 0] ∧ b.length = n + 40 ∧ cut b (24 + n) 16 = gcmTag s.blobKey nonce (b.take 12 ++ label) ct then
    some (gcmCrypt s.blobKey nonce ct)
  else none

/-- BREAD. -/
def State.bRead (s : State) (c : QCmd) : State :=
  if s.engineRefuses then s.qEnd c 0x20 0 0 0 0
  else
    match s.openBlob c.inp c.label with
    | none => s.qEnd c 0x13 0 0 2 0
    | some p =>
      if !(fieldOf c.inp 6 2).testBit 0 && !c.auth then s.qEnd c 0x13 0 0 5 0
      else (s.wrBytes (stageKey c.outOfs) p).qEnd c 0 p.length 0 0 0

end Sys2Proof.Machine
end

