-- ==== Sys2Proof/Machine/CrerusOps.lean ====
section
/-!
DEFINITION. Crerus and the mailbox grammar (chapter 15): messages and replies, the Nouns with their Verbs and classes,
the firmware slots, and the payloads of GET.
-/

namespace Sys2Proof.Machine

/-! ### Replies (R316, R318, R480) -/

/-- The bytes of a message: header fields, flags, status and payload (Table 15.3). -/
def mkMsg (verb md noun seq flags status : Nat) (pay : List Nat) : List Nat :=
  let h := [verb, md] ++ toLE 2 noun ++ [seq, flags] ++ toLE 2 pay.length ++ toLE 4 status
  h ++ toLE 4 (crc32 (h ++ pay)) ++ pay

/-- The reply to a request. -/
def Job.replyMsg (j : Job) (status : Nat) (pay : List Nat) : List Nat :=
  mkMsg j.verb j.md j.noun j.seq (1 + (j.flags &&& 2)) status pay

/-- A message is written into host mailbox `n`. -/
def State.putHost (s : State) (n : Nat) (m : List Nat) : State := (s.wrBytes (hostKey (0x1000 + 0x200 * n)) m).setMb n 3

/-- A message is written into local mailbox `b`, with ICU source 136 + 2b for a notice and 137 + 2b for a reply. -/
def State.putLocal (s : State) (b : Nat) (m : List Nat) (reply : Bool) : State :=
  ((s.wrBytes (lmbKey b) m).set (R.LMB_ST b) 3).raise (136 + 2 * b + b2n reply)

/-- A reply reaches local mailbox `b`; a buffer owed to a sealed restart is wiped (R317). -/
def State.replyLocal (s : State) (b : Nat) (m : List Nat) : State :=
  let s := s.putLocal b m true
  if b ∈ s.wld.wipeMb then
    { s with wld := { s.wld with wipeMb := without s.wld.wipeMb b } }.wipeMb b
  else s

/-- The reply to a request is written where it came from; with that domain not ON it is lost and counted (R480). -/
def State.answerJob (s : State) (j : Job) (status : Nat) (pay : List Nat) : State :=
  let m := j.replyMsg status pay
  match j.src with
  | .host n => if s.on 10 then s.putHost n m else s.inc R.PWR_LOSTREPLY
  | .loc b => if s.on 1 then s.replyLocal b m else s.inc R.PWR_LOSTREPLY
  | .warp src xid => if s.on 9 then s.openSend { xid := xid, dst := src, bytes := m, reply := true } else s.inc R.PWR_LOSTREPLY

/-! ### Jobs (R322) -/

/-- A power-state request whose entry is in progress: its reply waits for the requests taken after it (R328). -/
def Job.entering (j : Job) : Bool :=
  match j.wait with
  | .power _ => true
  | _ => false

/-- An earlier request of the same group is still open (R322), or an earlier queue command of the journal (R356). -/
def State.jobBlocked (s : State) (j : Job) : Bool :=
  s.behindCommand j || s.jobs.any fun x => decide (x.group = j.group) && decide (x.id < j.id) && !x.entering

/-- A request leaves the taken ones. -/
def State.dropJob (s : State) (j : Job) : State :=
  { s with crerus := { s.crerus with
      cur := s.crerus.cur.filter fun x => decide (x.id ≠ j.id), susp := s.crerus.susp.filter fun x => decide (x.id ≠ j.id) } }

/-- A request is answered and is over. -/
def State.finish (s : State) (j : Job) (status : Nat) (pay : List Nat) : State := (s.dropJob j).answerJob j status pay

/-- A request is suspended on something (R322). -/
def State.suspend (s : State) (j : Job) (w : JobWait) : State :=
  let s := s.dropJob j
  { s with crerus := { s.crerus with susp := (s.crerus.susp ++ [{ j with wait := w }]).insertionSort fun a b => decide (a.id ≤ b.id) } }

/-- Crerus serves requests. -/
def State.crerusUp (s : State) : Bool := (s.crerus.alive || s.crerus.recovery) && s.on 1

/-- The first request that waits for nothing, is not held behind its group and is of the kind `p`. -/
def State.pick (s : State) (p : Job → Bool) : Option Job :=
  if s.crerusUp then s.jobs.find? fun j => decide (j.wait = .none) && p j && !s.jobBlocked j else none

/-- A Verb runs on the request that is its turn. -/
def State.serve (s : State) (p : Job → Bool) (f : State → Job → State) : State :=
  match s.pick p with
  | some j => f s j
  | none => s

/-- A request that needs bank 0 starts once no operation uses it (R396). -/
def State.withFlash (s : State) (j : Job) (f : State → State) : State :=
  if s.flash.op0.isNone && s.on 2 then f s else s.suspend j .none

/-- A request that needs the custody engine: refused with BUSY, suspended until it is ready, or run (R386, R492). -/
def State.withEngine (s : State) (j : Job) (f : State → State) : State :=
  if s.engineRefuses || s.flag R.TMP_STAT_RESP then s.finish j 0x20 []
  else if s.engineReady then f s
  else s.suspend j .engine

/-! ### The Nouns (Table 15.6) -/

/-- A LANE Noun. -/
def isLane (n : Nat) : Bool := decide (0x200 ≤ n) && decide (n < 0x210)

/-- A PAIR Noun. -/
def isPair (n : Nat) : Bool := decide (0x230 ≤ n) && decide (n < 0x23C)

/-- The Verbs a Noun lists; none for a Noun that is not in the table. -/
def nounVerbs (n : Nat) : Option (List Nat) :=
  let conf : List Nat := [1, 2, 3, 4]
  if isLane n ∨ n = 0x220 ∨ isPair n then some conf
  else if 0x210 ≤ n ∧ n < 0x220 then some [1, 9]
  else
    match n with
    | 0x0000 => some [1, 7]
    | 0x0001 => some [1, 9]
    | 0x0002 => some [5]
    | 0x0100 => some [1, 5, 9]
    | 0x0101 => some [1]
    | 0x0300 => some [1, 9]
    | 0x0301 => some conf
    | 0x0302 => some conf
    | 0x0303 => some [1]
    | 0x0400 => some [1, 9]
    | 0x0401 => some conf
    | 0x0402 => some [5]
    | 0x0403 => some [5]
    | 0x0404 => some [1]
    | 0x0405 => some [5]
    | 0x0406 => some [5]
    | 0x0500 => some [1, 7]
    | 0x0501 => some [5]
    | 0x0502 => some [5]
    | 0x0503 => some [5]
    | 0x0600 => some [1, 4, 9]
    | 0x0601 => some [6]
    | 0x0602 => some [5]
    | 0x0603 => some [5]
    | 0x0700 => some [1, 9]
    | 0x0701 => some [1, 8]
    | 0x0702 => some [5]
    | 0x0703 => some [7]
    | 0x0800 => some [1, 9]
    | 0x0801 => some [1, 2, 3]
    | 0x0900 => some [1, 9]
    | 0x0901 => some conf
    | 0x0902 => some [5]
    | 0x0A00 => some [1]
    | 0x0A01 => some [6, 5]
    | 0x0B00 => some conf
    | 0x0B01 => some [1, 9]
    | 0x0B02 => some conf
    | 0x0B03 => some [5]
    | _ => none

/-- The classes a Noun accepts for a Verb. -/
def nounClasses (n verb : Nat) : List Cls :=
  if 0x210 ≤ n ∧ n < 0x220 then [.h, .o, .s, .r]
  else
    match n with
    | 0x0000 | 0x0001 | 0x0002 | 0x0A00 | 0x0B01 => [.h, .o, .s, .r]
    | 0x0300 | 0x0301 | 0x0302 | 0x0303 => if verb = 1 then [.h, .o, .s, .r] else [.h, .o, .s]
    | 0x0400 | 0x0401 | 0x0402 | 0x0403 | 0x0404 | 0x0405 | 0x0406 => [.h, .o, .s, .r]
    | 0x0502 | 0x0A01 => [.h, .s]
    | 0x0503 | 0x0701 | 0x0801 | 0x0901 | 0x0902 => [.s]
    | 0x0601 | 0x0602 | 0x0603 => [.h]
    | 0x0702 => [.o, .s]
    | _ => [.h, .o, .s]

/-- The groups class R never reaches (R156). -/
def remoteBarred (n : Nat) : Bool :=
  decide (n / 256 = 5) || decide (n / 256 = 7) || decide (n / 256 = 8) || decide (n / 256 = 9)

/-- The Noun is configurable: it takes SET (R320). -/
def nounSets (n : Nat) : Bool := ((nounVerbs n).getD []).any fun v => decide (v = 2)

/-- The Verb the Noun must list: FORGET goes with WATCH. -/
def verbFor (verb : Nat) : Nat := if verb = 10 then 9 else verb

/-- The Modifier is listed for the Verb (Table 15.4). -/
def modOk (verb md noun : Nat) : Bool :=
  match verb with
  | 1 => decide (md ≤ 2)
  | 2 => decide (md ≤ 1)
  | 4 => decide (md ≤ 1)
  | 5 => if noun = 0x100 then decide (md ≤ 3) else if noun = 0x702 ∨ noun = 0xB03 then decide (md ≤ 1) else decide (md = 0)
  | 9 => true
  | _ => decide (md = 0)

/-- The payload length of a configurable Noun. -/
def nounSize (n : Nat) : Nat :=
  if isLane n then 88 else if isPair n then 60
  else
    match n with
    | 0x220 => 384
    | 0x301 => 16
    | 0x302 => 28
    | 0x401 => 8
    | 0x801 => 8
    | 0x901 => 24
    | 0xB00 => 64
    | 0xB02 => 128
    | _ => 0

/-- LEN matches what the Verb and Noun require. -/
def lenOk (verb md noun len : Nat) : Bool :=
  match verb with
  | 1 => decide (len = if noun = 0x701 then 4 else 0)
  | 2 => decide (len = nounSize noun)
  | 5 =>
    (match noun with
      | 0x0002 => true
      | 0x0100 => decide (len = 4)
      | 0x0402 => decide (len = 12)
      | 0x0403 => decide (20 ≤ len)
      | 0x0405 => decide (len = 1)
      | 0x0501 => decide (len = 4)
      | 0x0502 => decide (len = 36)
      | 0x0503 => decide (len = 20)
      | 0x0702 => decide (len = if md = 0 then 4 else 8)
      | _ => decide (len = 0))
  | 6 => decide (len = 12)
  | 7 => decide (len = 48)
  | 8 => decide (len = 4)
  | _ => decide (len = 0)

/-! ### Firmware slots (R325) -/

/-- Where firmware slot `n` stands. -/
def fwBase (n : Nat) : Nat := 0x10380000 + 0x40000 * n

/-- A mark of a firmware slot: 0 ARMED, 1 TRIED, 2 CONFIRMED. -/
def fwMarkKey (n m : Nat) : Nat := fwBase n + 0x3FFA0 + 0x20 * m

/-- The unit that sets a mark. -/
def fwMarkUnit : List Nat := (List.replicate 8 (toLE 4 0xA5C33C5A)).flatten

/-- A mark is set. -/
def State.fwMark (s : State) (n m : Nat) : Bool := decide (s.rdBytes (fwMarkKey n m) 32 = fwMarkUnit)

/-- The VERSION in the header of slot `n`. -/
def State.fwVersion (s : State) (n : Nat) : Nat := fieldOf (s.rdBytes (fwBase n + 8) 4) 0 4

/-- The SVN in the header of slot `n`. -/
def State.fwSvn (s : State) (n : Nat) : Nat := (s.byte (fwBase n + 6)).toNat

/-- LENGTH of the CODE of slot `n`. -/
def State.fwLen (s : State) (n : Nat) : Nat := fieldOf (s.rdBytes (fwBase n + 0xC) 4) 0 4

/-- The digest of the vendor image-signing key: fuse rows 179 to 190, or the ROM copy (R505). -/
def State.vendorKey (s : State) : List Nat :=
  let f := fuseBytes s.shadow 179 12
  if allZero f then natsOf Config.vendorKeyDigest.toList else f

/-- The check an image in slot `n` fails (R325): 0 none, 1 format, 2 key, 3 signature, 4 SVN, 5 an uncorrectable
word. -/
def State.fwFail (s : State) (n : Nat) : Nat :=
  let b := fwBase n
  let len := s.fwLen n
  let h := s.rdBytes b 64
  let form := decide (fieldOf h 0 4 = 0x57465243) && decide (fieldOf h 4 2 = 1) && decide (s.fwSvn n ≤ 64)
    && decide (fieldOf h 7 1 = 0) && allZero (h.drop 0x10) && decide (len % 32 = 0) && decide (len ≤ 261792)
  let pub := s.rdBytes (b + 0x40 + len) 96
  if s.eccBad b 64 then 5
  else if !form then 1
  else if s.eccBad b (0x100 + len) then 5
  else if sha384 pub ≠ s.vendorKey then 2
  else if !Config.ecdsaVerify pub (s.rdBytes b (0x40 + len)) (s.rdBytes (b + 0xA0 + len) 96) then 3
  else if s.fwSvn n < s.get R.LCS_THERM_CRER then 4
  else 0

/-! ### Payloads of GET LIVE -/

/-- The words of `n` registers from `a`. -/
def State.regWords (s : State) (a n : Nat) : List Nat := (List.range n).flatMap fun i => toLE 4 (s.readReg (a + 4 * i))

/-- The registers of a LANE or a PAIR image. -/
def nounBase (n : Nat) : Nat := if isLane n then 0xC000 + 0x100 * (n - 0x200) else 0x8000 + 0x400 * (n - 0x230)

/-- IDENTITY (Table 15.10). -/
def State.idPay (s : State) : List Nat :=
  toLE 4 (s.readReg 0) ++ s.devId ++ [s.lcState, s.get R.PLY_MODE_CUR, 0, 0] ++ toLE 4 s.crerus.version
    ++ toLE 4 (s.get R.RST_DSEQ) ++ [s.get R.RST_BOOT_DRAFTSLOT, s.crerus.slot, 0, 0, 0, 0, 0, 0]

/-- POWER_STATE (Table 22.8). -/
def State.powerPay (s : State) : List Nat :=
  [s.get R.PWR_STATE_PSTATE, s.get R.PWR_STATE_ENTRY + 2 * s.get R.PWR_STATE_EXIT, s.get R.PWR_STATE_WAKESRC, 0]
    ++ toLE 4 (s.get R.PWR_WAKEINFO) ++ toLE 4 (s.readReg 0x2028) ++ [0, 0, 0, 0]

/-- POWER_DOMAINS (Table 22.8). -/
def State.domainsPay (s : State) : List Nat :=
  s.regWords 0x2004 4 ++ toLE 4 (s.readReg 0x2020) ++ toLE 2 (s.get R.PWR_LOSTREPLY) ++ [0, 0]

/-- ENERGY (Table 5.5). -/
def State.energyPay (s : State) : List Nat :=
  toLE 4 (s.get R.EGV_EHI) ++ toLE 4 (s.get R.EGV_ELO) ++ toLE 4 (s.govCeil.getD 0) ++ toLE 4 s.govFloor
    ++ toLE 4 (s.get R.EGV_REL) ++ toLE 4 (s.readReg 0x10048) ++ toLE 4 (s.get R.EGV_CMEAS) ++ toLE 2 (s.get R.EGV_LQCNT) ++ [0, 0]

/-- LEVELLING (Table 5.5); FRZLVL is that of the levelling lane. -/
def State.levelPay (s : State) : List Nat :=
  let k := s.get R.EGV_LVLCFG_LANE
  [s.get R.EGV_LVLCFG_EN + 2 * s.get (R.LN_CTRL_FRZLVL k), k, s.get R.EGV_LVLCFG_TAUSEL, 0] ++ s.regWords 0x10054 6

/-- CAPACITANCE (Table 5.5). -/
def State.capPay (s : State) : List Nat :=
  toLE 4 (s.get R.EGV_FCAP) ++ toLE 4 (s.get R.EGV_CMEAS)
    ++ toLE 4 (s.get R.EGV_STAT_CMDONE + 2 * s.get R.EGV_STAT_CMSKIP + 4 * s.get R.EGV_STAT_BSVC)

/-- WARP_STATUS (Table 7.6). -/
def State.warpPay (s : State) : List Nat :=
  [s.get R.WRP_ID_ID, s.get R.WRP_ID_VALID + 2 * b2n s.isMaster] ++ toLE 2 (s.get R.WRP_NODES) ++ toLE 4 (s.readReg 0x11008)
    ++ toLE 4 (s.get R.WRP_DELAY) ++ toLE 4 (s.get R.WRP_LBAR) ++ toLE 2 (s.get R.WRP_PHERR) ++ toLE 2 (s.get R.WRP_CRCCNT)
    ++ toLE 2 (s.get R.WRP_TIMEERR) ++ [0, 0]

/-- WARP_SLOT (Table 7.6). -/
def State.slotPay (s : State) : List Nat :=
  [s.get R.WRP_SLOT_K, 0] ++ toLE 2 (s.get R.WRP_SLOT_N) ++ toLE 2 (s.get R.WRP_SLOTPAIRS) ++ [0, 0]

/-- WARP_NODES (Table 7.6). -/
def State.nodesPay (s : State) : List Nat :=
  toLE 2 (s.get R.WRP_NODES) ++ toLE 32 (s.warp.bypassed.foldl (fun n i => n ||| 2 ^ i) 0)

/-- LC_STATE (Table 19.11). -/
def State.lcPay (s : State) : List Nat :=
  let inp := s.flag R.LCS_PROG_INPROG
  let dig (r : Nat) : Nat := b2n (!allZero (fuseBytes s.shadow r 12))
  [s.lcState, s.get R.LCS_STATE_OPENS, s.get R.LCS_STATE_RELOCKS,
    b2n inp + 2 * s.get R.LCS_PROG_RESUMED + 4 * dig 102 + 8 * dig 191 + 16 * dig 203 + 32 * b2n s.draftSigned,
    if inp then s.get R.LCS_PROG_SLOT else 0xFF, s.get R.LCS_PROG_STEP, s.get R.LCS_THERM_CRER, s.get R.LCS_THERM_CUST,
    0, 0, 0, 0, 0, 0, 0, 0]

/-- FW_STATUS (Table 15.11). -/
def State.fwPay (s : State) : List Nat :=
  let c := s.crerus
  let o := 1 - c.slot
  let good := decide (s.fwFail o = 0)
  [c.slot, b2n c.trial + 2 * b2n c.verified + 4 * b2n (s.fwMark o 2), c.svn, therm s.fuse 175]
    ++ toLE 4 c.version ++ toLE 4 (if good then s.fwVersion o else 0) ++ [if good then s.fwSvn o else 0]
    ++ List.replicate 11 0

/-- CUSTODY_STATUS (Table 17.9). -/
def State.custodyPay (s : State) : List Nat :=
  let c := s.custody
  toLE 8 ((List.range 64).foldl (fun n i => if (s.slot i).occ then n + 2 ^ i else n) 0)
    ++ [b2n c.esReady + 2 * b2n c.esFail + 4 * b2n c.drbg + 8 * b2n c.slotLoss + 16 * b2n c.katFail, 0, 0, 0]
    ++ toLE 4 c.reseeds ++ toLE 4 c.aborted

/-- The descriptor of a slot as KEY_SLOT shows it, with the key in clear only to a sealed-held mailbox under SREAD
(R372). -/
def State.keyPay (s : State) (j : Job) (n : Nat) : List Nat :=
  let k := s.slot n
  [n, b2n k.occ, k.typ, 0] ++ toLE 2 k.policy ++ toLE 2 k.len
    ++ (if j.sealedHeld && k.occ && k.policy.testBit 2 then padTo 64 k.key else [])

/-- JOURNAL_RETENTION (Table 18.7). -/
def State.retentionPay (s : State) : List Nat := [b2n s.jrnl.lock, 0] ++ toLE 2 s.jrnl.lowmark ++ [0, 0, 0, 0]

/-- TAMPER_STATUS (Table 17.9). -/
def State.tamperPay (s : State) : List Nat :=
  toLE 4 (s.readReg 0x1A000) ++ toLE 4 (s.get R.TMP_EVCNT) ++ s.regWords 0x1A024 2 ++ toLE 8 s.time.rtc.toNat
    ++ s.regWords 0x1A020 1 ++ s.regWords 0x1A034 1

/-- TAMPER_CONFIG (Table 17.9). -/
def State.tamperCfg (s : State) : List Nat := s.regWords 0x1A004 6

/-- The Draft the next boot selects. -/
def State.nextDraft (s : State) : Draft :=
  match s.newestDraft with
  | some n => s.slotDraft n
  | none => {}

/-- The sequence number of Draft slot `n`, 0 where no Draft stands there. -/
def State.seqShown (s : State) (n : Nat) : Nat := if s.isCandidate n then s.slotSeq n else 0

/-- DRAFT_STATUS (Table 15.12). -/
def State.draftPay (s : State) : List Nat :=
  let w := s.crerus.work
  let d := s.nextDraft
  toLE 4 (s.seqShown 0) ++ toLE 4 (s.seqShown 1)
    ++ [b2n (decide (s.slotFail 0 = 0)) + 2 * b2n (decide (s.slotFail 1 = 0)) + 4 * b2n s.draftSigned, s.crerus.draftSlot,
        b2n (decide (w.boot ≠ d.boot ∨ w.entries ≠ d.entries)), 0, 0, 0, 0, 0]

/-- FAN_STATUS (R337). -/
def State.fanPay (s : State) : List Nat := s.crerus.fans.flatMap fun f => toLE 2 f.rpm ++ [f.duty, b2n f.stalled]

/-- ATTESTATION (Table 17.5). -/
def State.attestPay (s : State) : List Nat :=
  toLE 4 (s.readReg 0) ++ s.devId
    ++ [s.lcState, s.get R.PLY_MODE_CUR,
        b2n (s.flag R.TMP_STAT_RESP) + 2 * b2n (s.flag R.WLD_STAT_LOADED) + 4 * b2n (s.flag R.HLT_STAT_SVCREQ) + 8 * b2n s.custody.slotLoss, 0]
    ++ (List.range 12).flatMap (fun i => toLE 4 (s.get (R.WLD_MEAS i))) ++ toLE 4 (s.get R.WLD_VERSION) ++ toLE 2 (s.get R.WLD_LOADS)
    ++ toLE 2 (s.get R.TMP_EVCNT) ++ toLE 4 s.crerus.version ++ [s.crerus.svn, s.get R.LCS_THERM_CUST, 0, 0]
    ++ toLE 8 s.time.rtc.toNat ++ s.attestQ

/-- The value of a Noun in force. -/
def State.live (s : State) (n : Nat) : List Nat :=
  if isLane n then s.regWords (nounBase n) 22
  else if isPair n then s.regWords (nounBase n) 15
  else if 0x210 ≤ n ∧ n < 0x220 then s.regWords (0xC060 + 0x100 * (n - 0x210)) 3
  else
    match n with
    | 0x0000 => s.idPay
    | 0x0001 => s.healthPay
    | 0x0100 => s.powerPay
    | 0x0101 => s.domainsPay
    | 0x0220 => s.regWords 0x7000 96
    | 0x0300 => s.energyPay
    | 0x0301 => s.regWords 0x10020 4
    | 0x0302 => s.levelPay
    | 0x0303 => s.capPay
    | 0x0400 => s.warpPay
    | 0x0401 => s.slotPay
    | 0x0404 => s.nodesPay
    | 0x0500 => s.lcPay
    | 0x0600 => s.fwPay
    | 0x0700 => s.custodyPay
    | 0x0703 => s.attestPay
    | 0x0800 => s.jrnlStatus
    | 0x0801 => s.retentionPay
    | 0x0900 => s.tamperPay
    | 0x0901 => s.tamperCfg
    | 0x0A00 => s.draftPay
    | 0x0B00 => s.crerus.fanPolicy
    | 0x0B01 => s.fanPay
    | 0x0B02 => s.crerus.sequence
    | _ => []

/-! ### Payloads of GET BOOT -/

/-- The word the boot Draft gives a register: fields marked D from the Draft, the others at their reset value. -/
def bootWord (d : Draft) (a : Nat) : Nat :=
  (regFields a).foldl (fun n f => n + (if f.rst = .draft then d.value f else if f.acc = .wo then 0 else f.rst.value) * 2 ^ f.lo) 0

/-- Words of the boot Draft. -/
def bootWords (d : Draft) (a n : Nat) : List Nat := (List.range n).flatMap fun i => toLE 4 (bootWord d (a + 4 * i))

/-- The data of the last NOUN entry of a Noun. -/
def Draft.nounData (d : Draft) (n : Nat) : Option (List Nat) :=
  ((d.entries.filter fun e => e.noun && decide (e.target = n)).getLast?).map Entry.data

/-- The value of a configurable Noun in the Draft selected at the last boot (R320). -/
def Draft.nounValue (d : Draft) (n : Nat) : List Nat :=
  match d.nounData n with
  | some b => b
  | none =>
    if isLane n then bootWords d (nounBase n) 22
    else if isPair n then bootWords d (nounBase n) 15
    else
      match n with
      | 0x220 => bootWords d 0x7000 96
      | 0x301 => bootWords d 0x10020 4
      | 0x302 =>
        let k := d.value R.EGV_LVLCFG_LANE
        [d.value R.EGV_LVLCFG_EN + 2 * d.value (R.LN_CTRL_FRZLVL k), k, d.value R.EGV_LVLCFG_TAUSEL, 0] ++ bootWords d 0x10054 6
      | 0x401 => [d.value R.WRP_SLOT_K, 0] ++ toLE 2 (d.value R.WRP_SLOT_N) ++ toLE 2 (d.value R.WRP_SLOTPAIRS) ++ [0, 0]
      | 0x901 => bootWords d 0x1A004 6
      | n => List.replicate (nounSize n) 0

/-! ### Changes (R321) -/

/-- What a WATCH on a Noun looks at. -/
def State.watchKey (s : State) (n : Nat) : List Nat :=
  if 0x210 ≤ n ∧ n < 0x220 then [s.readReg (0xC068 + 0x100 * (n - 0x210))]
  else
    match n with
    | 0x0001 => s.healthPay.take 9
    | 0x0100 => s.powerPay.take 2
    | 0x0300 => s.energyKey
    | 0x0400 => [s.readReg 0x11008 / 256 % 256]
    | 0x0600 => [s.fwPay.getD 1 0]
    | 0x0700 => s.custodyPay.take 9
    | 0x0800 => [s.jrnlStatus.getD 24 0]
    | 0x0900 => [s.readReg 0x1A000]
    | 0x0B01 => s.crerus.fans.map fun f => b2n f.stalled
    | _ => []

end Sys2Proof.Machine
end

