-- ==== Sys2Proof/Machine/CrerusSet.lean ====
section
/-!
DEFINITION. Pending values, the checks of SET, the register writes of APPLY, and the working Draft that COMMIT fills
(chapter 15, R122, R320, R335, R337, R380, R385).
-/

namespace Sys2Proof.Machine

/-! ### Pending values (R320) -/

/-- The pending value of a class for a Noun. -/
def State.pendOf (s : State) (c : Cls) (n : Nat) : Option (List Nat) :=
  (s.crerus.pend.find? fun x => decide (x.1 = (c, n))).map fun x => x.2

/-- A class's pending value is replaced. -/
def State.putPend (s : State) (c : Cls) (n : Nat) (p : List Nat) : State :=
  { s with crerus := { s.crerus with pend := ((c, n), p) :: s.crerus.pend.filter fun x => decide (x.1 ≠ (c, n)) } }

/-! ### The checks of SET (R320) -/

/-- The word at offset `o` of a payload. -/
def wordAt (p : List Nat) (o : Nat) : Nat := fieldOf p o 4

/-- A field in the register image of a payload whose offset 0 is the register at `b`. -/
def imageField (p : List Nat) (b : Nat) (f : Fld) : Nat := presented (wordAt p (f.addr - b)) f

/-- The signed reading of a field of an image. -/
def imageInt (p : List Nat) (b : Nat) (f : Fld) : Int := sx f.w (imageField p b f)

/-- The fused duty limit, in 1/32 tick, on the value a lane writes to a destination of type `t` at pair `d`; none where
there is none (R63, R91). -/
def State.dutyLimit (s : State) (t d : Nat) : Option Nat :=
  let m := s.get (R.PWM_LIMIT_DMAX d)
  let per := s.perNow (s.leader d)
  let psfb := decide (s.get (R.PWM_CTRL_MODE d) = 2)
  if 12 ≤ d ∨ m = 0 then none
  else if (t = 1 ∨ t = 2) ∧ psfb = false then some (m * per / 256)
  else if t = 3 ∧ psfb = true then some (m * (per / 2) / 256)
  else none

/-- OMAX of a LANE image maps beyond the fused duty limit of its pair (R63, R335). -/
def State.laneOver (s : State) (k : Nat) (p : List Nat) : Bool :=
  let b := 0xC000 + 0x100 * k
  let f (x : Fld) : Nat := imageField p b x
  match s.dutyLimit (f (R.LN_CTRL_DSTTYPE k)) (f (R.LN_CTRL_DSTIDX k)) with
  | none => false
  | some m => decide ((m : Int) < f (R.LN_OOFS k) + trunc 23 (imageInt p b (R.LN_OMAX k) * f (R.LN_OSPAN k)))

/-- The checks of a LANE image (R335). -/
def State.laneCheck (s : State) (k : Nat) (p : List Nat) : Option Nat :=
  let b := 0xC000 + 0x100 * k
  let f (x : Fld) : Nat := imageField p b x
  let chl : List Fld := [R.LN_OMIN k, R.LN_OOFS k, R.LN_OSPAN k, R.LN_CTRL_DSTTYPE k, R.LN_CTRL_DSTIDX k]
  if f (R.LN_CTRL_UPD k) ≠ 0 ∨ f (R.LN_CTRL_HCLR k) ≠ 0 ∨ wordAt p 0x18 ≠ 0 ∨ wordAt p 0x3C ≠ 0 then some 0x12
  else if imageInt p b (R.LN_OMAX k) < imageInt p b (R.LN_OMIN k) ∨ s.laneOver k p = true then some 0x50
  else if s.get R.EGV_CFG_CHLANE = k ∧ chl.any (fun x => decide (f x ≠ s.get x)) = true then some 0x13
  else none

/-- A maximum is looser than its fused one: larger, or absent (R122). -/
def looserMax (fused v : Nat) : Bool := decide (fused ≠ 0) && (decide (v = 0) || decide (fused < v))

/-- The checks of ENERGY_LIMITS (R122). -/
def State.limitsCheck (s : State) (p : List Nat) : Option Nat :=
  if looserMax (10000 * s.get R.EGV_FLIM_EMAX) (wordAt p 0) || decide (wordAt p 4 < 10000 * s.get R.EGV_FLIM_EZMIN)
      || looserMax (10000 * s.get R.EGV_FREL_RMAX) (wordAt p 12) then some 0x50
  else none

/-- The pulse energy a TMP_MESH word asks for (R380). -/
def meshOf (w : Nat) : Nat := meshEnergy (bitsOf w 12 12) (bitsOf w 9 8) (bitsOf w 3 0)

/-- The checks of TAMPER_CONFIG (R380, R385, Table 17.9). -/
def State.tamperCheck (s : State) (p : List Nat) : Option Nat :=
  let cfg := wordAt p 0
  let ceil := s.get R.TMP_MESHE_CEIL
  let t := wordAt p 16
  let lo := sx 8 (bitsOf t 7 0)
  let hi := bitsOf t 23 16
  if s.flag R.TMP_LOCK then some 0x13
  else if ceil < meshOf (wordAt p 4) ∨ ceil < meshOf (wordAt p 8) ∨ lo < -60 ∨ -40 < lo ∨ hi < 125 ∨ 150 < hi
      ∨ cfg.testBit 8 = false ∨ cfg.testBit 24 = false then some 0x50
  else none

/-- A step of a SEQUENCE payload. -/
def seqStep (p : List Nat) (i : Nat) : List Nat := cut p (8 * i) 8

/-- The checks of SET for a configurable Noun: the status that refuses the value. -/
def State.setCheck (s : State) (n : Nat) (p : List Nat) : Option Nat :=
  if isLane n then s.laneCheck (n - 0x200) p
  else if isPair n then (if bitsOf (wordAt p 0x2C) 13 4 = 0 then none else some 0x12)
  else
    match n with
    | 0x301 => s.limitsCheck p
    | 0x401 => if fieldOf p 2 2 ≤ fieldOf p 0 1 then some 0x50 else none
    | 0x901 => s.tamperCheck p
    | 0xB02 => if (List.range 16).any fun i => decide (4 < fieldOf p (8 * i) 1) || decide (15 < fieldOf p (8 * i + 1) 1)
        then some 0x50 else none
    | _ => none

/-! ### APPLY (R320, R335) -/

/-- The words of a payload from offset `o` are written upward from the register at `a`. -/
def State.putWords (s : State) (a : Nat) (p : List Nat) (o n : Nat) : State :=
  (List.range n).foldl (fun s i => s.ioWrite byCrerus (a + 4 * i) (wordAt p (o + 4 * i))) s

/-- APPLY of LANE k: every register but LNk_CTRL in ascending offset, LNk_CTRL, then UPD. -/
def State.applyLane (s : State) (k : Nat) (p : List Nat) : State :=
  let b := 0xC000 + 0x100 * k
  let s := ((s.putWords (b + 4) p 4 14).putWords (b + 0x40) p 0x40 6).ioWrite byCrerus b (wordAt p 0)
  s.ioWrite byCrerus b (s.readReg b ||| 2 ^ 30)

/-- APPLY of LEVELLING: the levelling registers, then FRZLVL of the lane it names. -/
def State.applyLevelling (s : State) (p : List Nat) : State :=
  let fl := fieldOf p 0 1
  let k := fieldOf p 1 1 % 16
  let cfg := fl % 2 * 2 ^ R.EGV_LVLCFG_EN.lo + k * 2 ^ R.EGV_LVLCFG_LANE.lo
    + fieldOf p 2 1 % 2 ^ R.EGV_LVLCFG_TAUSEL.w * 2 ^ R.EGV_LVLCFG_TAUSEL.lo
  let s := (s.putWords 0x10054 p 4 6).ioWrite byCrerus 0x10050 cfg
  let f := R.LN_CTRL_FRZLVL k
  let w := s.readReg (0xC000 + 0x100 * k)
  s.ioWrite byCrerus (0xC000 + 0x100 * k) (w - s.get f * 2 ^ f.lo + fl / 2 % 2 * 2 ^ f.lo)

/-- APPLY of TAMPER_CONFIG (R379, R380, R385): the configuration fields, the energies shown, the lock, and a seed for a
mesh channel that is enabled by it. -/
def State.applyTamper (s : State) (p : List Nat) : State :=
  let was := s.get R.TMP_SRCCFG_EN
  let s := (List.range 6).foldl (fun s i =>
    (regFields (0x1A004 + 4 * i)).foldl (fun s f => s.set f (presented (wordAt p (4 * i)) f)) s) s
  let s := (s.set R.TMP_MESHE_E0 (meshOf (wordAt p 4))).set R.TMP_MESHE_E1 (meshOf (wordAt p 8))
  let s := s.set R.TMP_STAT_LOCKED (s.get R.TMP_LOCK)
  [0, 1].foldl (fun s n => if s.tampEn n && !was.testBit n then s.meshSeed n else s) s

/-- The power domain a Noun's registers lie in. -/
def nounDomain (n : Nat) : Nat :=
  match n with
  | 0x401 => 9
  | 0x801 | 0x901 | 0xB00 | 0xB02 => 0
  | _ => 6

/-- The writes of APPLY. -/
def State.applyNoun (s : State) (n : Nat) (p : List Nat) : State :=
  if isLane n then s.applyLane (n - 0x200) p
  else if isPair n then
    let b := nounBase n
    (s.putWords (b + 4) p 4 14).ioWrite byCrerus b (wordAt p 0)
  else
    match n with
    | 0x220 => s.putWords 0x7000 p 0 96
    | 0x301 => s.putWords 0x10020 p 0 4
    | 0x302 => s.applyLevelling p
    | 0x401 =>
      (s.ioWrite byCrerus R.WRP_SLOTPAIRS.addr (fieldOf p 4 2)).ioWrite byCrerus 0x11028
        (fieldOf p 0 1 * 2 ^ R.WRP_SLOT_K.lo + fieldOf p 2 2 % 2 ^ R.WRP_SLOT_N.w * 2 ^ R.WRP_SLOT_N.lo + 2 ^ 31)
    | 0x801 => { s with jrnl := { s.jrnl with lock := (fieldOf p 0 1).testBit 0, lowmark := fieldOf p 2 2 } }
    | 0x901 => s.applyTamper p
    | 0xB00 => { s with crerus := { s.crerus with fanPolicy := p } }
    | 0xB02 => { s with crerus := { s.crerus with sequence := p } }
    | _ => s

/-- APPLY of a request: its reply is DONE once the writes are in force, for a lane when UPD reads 0; where the domain of
the registers is not ON it ends with ABORTED. -/
def State.applyJob (s : State) (j : Job) (p : List Nat) : State :=
  if !s.on (nounDomain j.noun) then s.finish j 0x61 []
  else
    let s := s.applyNoun j.noun p
    if isLane j.noun then s.suspend j (.upd (j.noun - 0x200)) else s.finish j 0 []

/-! ### The working Draft (R320 to R322, R511) -/

/-- The fields marked D of the register at `a`, as they stand. -/
def State.dWord (s : State) (a : Nat) : Option Nat :=
  let fs := (regFields a).filter fun f => decide (f.rst = .draft)
  if fs.isEmpty then none else some (fs.foldl (fun n f => n + s.get f * 2 ^ f.lo) 0)

/-- The entry sets the word at `a`. -/
def Entry.covers (e : Entry) (a : Nat) : Bool := (e.word a).isSome

/-- The last entry that covers `a` takes the word. The list stands last entry first. -/
def putLast (a w : Nat) : List Entry → Option (List Entry)
  | [] => none
  | e :: r =>
    if e.covers a then some ({ e with data := overlay e.data (a - e.target) (toLE 4 w) } :: r)
    else (putLast a w r).map fun l => e :: l

/-- A word of a Draft is set: in the last entry that covers it, or in an entry of its own at the end. -/
def Draft.putWord (d : Draft) (a w : Nat) : Draft :=
  match putLast a w d.entries.reverse with
  | some l => { d with entries := l.reverse }
  | none => { d with entries := d.entries ++ [{ target := a, data := toLE 4 w }] }

/-- The NOUN entries of a Noun take a payload; where there is none, one is added at the end. -/
def Draft.putNoun (d : Draft) (n : Nat) (p : List Nat) : Draft :=
  if (d.nounData n).isSome then
    { d with entries := d.entries.map fun e => if e.noun && decide (e.target = n) then { e with data := p } else e }
  else { d with entries := d.entries ++ [{ target := n, noun := true, data := p }] }

/-- The length of a Draft's body. -/
def Draft.bodyLen (d : Draft) : Nat := 72 + (d.entries.flatMap Entry.bytes).length

/-- The LIVE value of a Noun in the form that SET takes. -/
def State.setForm (s : State) (n : Nat) : List Nat :=
  let p := s.live n
  if isLane n then overlay (overlay p 0 (toLE 4 (wordAt p 0 &&& 0xBFFFFFFF))) 0x18 [0, 0, 0, 0]
  else if isPair n then overlay p 0x2C (toLE 4 (wordAt p 0x2C &&& 0xF))
  else p

/-- The registers that COMMIT of a Noun copies as REG entries. -/
def commitRegs (n : Nat) : List Nat :=
  let from_ (a k : Nat) : List Nat := (List.range k).map fun i => a + 4 * i
  if isLane n then from_ (nounBase n) 22
  else if isPair n then from_ (nounBase n) 15
  else
    match n with
    | 0x220 => from_ 0x7000 96
    | 0x301 => from_ 0x10020 4
    | 0x302 => from_ 0x10050 7
    | 0x401 => [0x11028, R.WRP_SLOTPAIRS.addr]
    | _ => []

/-- FRZLVL of the levelling lane in a Draft. -/
def Draft.putFreeze (d : Draft) (s : State) : Draft :=
  let k := s.get R.EGV_LVLCFG_LANE
  let f := R.LN_CTRL_FRZLVL k
  let fs := (regFields f.addr).filter fun g => decide (g.rst = .draft)
  d.putWord f.addr (fs.foldl (fun n g => n + (if g = f then s.get f else d.value g) * 2 ^ g.lo) 0)

/-- The working Draft with the LIVE value of a Noun (R320). -/
def State.staged (s : State) (n : Nat) : Draft :=
  let d := s.crerus.work
  if (d.nounData n).isSome || (commitRegs n).isEmpty then d.putNoun n (s.setForm n)
  else
    let d := (commitRegs n).foldl (fun d a => match s.dWord a with
      | some w => d.putWord a w
      | none => d) d
    if n = 0x302 then d.putFreeze s else d

/-- COMMIT copies the LIVE value into the working Draft; then `f` goes on. Signed Drafts refuse it with DENIED, and a body
that no slot holds with FULL (R322). -/
def State.commitStage (s : State) (j : Job) (f : State → State) : State :=
  let d := s.staged j.noun
  if s.draftSigned then s.finish j 0x13 []
  else if 32480 < d.bodyLen then s.finish j 0x31 []
  else f { s with crerus := { s.crerus with work := d } }

/-- The working Draft goes to its slot (R322, R511). -/
def State.commitWrite (s : State) (j : Job) : State :=
  let op := draftWrite s.targetSlot (s.crerus.work.bytes s.nextSeq)
  (s.setFlashOp 0 (some op)).suspend j (.flash none)

end Sys2Proof.Machine
end

