-- ==== Sys2Proof/Machine/CrerusTake.lean ====
section
/-!
DEFINITION. How Crerus takes a request and how a suspended request goes on (R312 to R334, R423, R506).
-/

namespace Sys2Proof.Machine

/-! ### Taking (R318, R319, R322) -/

/-- Vendor firmware takes a request: FWREADY is set, and RESTARTING ends with the first request after a restart (R327). -/
def State.fwServes (s : State) : State :=
  if s.on 10 && s.crerus.alive && !s.crerus.activating then (s.set R.HIF_STATUS_FWREADY 1).set R.HIF_STATUS_RESTARTING 0 else s

/-- The mailbox of an arrival becomes BUSY, and its doorbell bit clears. -/
def State.beginTake (s : State) (a : Arrival) : State :=
  let s := { s with crerus := { s.crerus with arr := s.crerus.arr.erase a } }.fwServes
  match a.src with
  | .host n => (s.setMb n 2).clrBit R.HIF_MBDB n
  | .loc b => (s.set (R.LMB_ST b) 2).clrBit R.LMB_DB b
  | .warp _ _ => s

/-- The class of an arrival before any authorisation (R312). -/
def Arrival.cls (a : Arrival) : Cls :=
  match a.src with
  | .host _ => .h
  | .loc _ => if a.sealedW then .s else .o
  | .warp _ _ => .r

/-- The request a message spells. -/
def State.jobOf (s : State) (a : Arrival) (b : List Nat) : Job :=
  { id := s.crerus.nextId, src := a.src, cls := a.cls, sealedHeld := a.sealedW, verb := fieldOf b 0 1, md := fieldOf b 1 1
    noun := fieldOf b 2 2, seq := fieldOf b 4 1, flags := fieldOf b 5 1, pay := cut b 16 (fieldOf b 6 2), stamp := a.stamp }

/-- The authorisation of a host message (R313): none where it fails. -/
def State.authJob (s : State) (j : Job) (b : List Nat) : Option Job × State :=
  let n := j.pay.length
  match j.src with
  | .host _ =>
    if !j.flags.testBit 1 then (some j, s)
    else if n < 56 then (none, (s.hifErr R.HIF_STATUS_AUTHFAIL).journal 313 [])
    else
      let (ok, s) := s.authorise (b.take 12 ++ j.pay.take (n - 56)) (j.pay.drop (n - 56))
      (if ok then some { j with cls := .s, pay := j.pay.take (n - 56) } else none, s)
  | _ => (some j, s)

/-- IDENTITY GET and LC_STATE GET. -/
def Job.isIdentity (j : Job) : Bool := decide (j.verb = 1) && (decide (j.noun = 0) || decide (j.noun = 0x500))

/-- What recovery serves (R506). -/
def Job.inRecovery (j : Job) : Bool :=
  j.isIdentity || (decide (j.verb = 6) && decide (j.noun = 0x601))
    || (decide (j.verb = 5) && (decide (j.noun = 0x602) || decide (j.noun = 0x603)))

/-- WARP_NODES, WARP_RESET and WARP_CAL belong to node 0 (Table 7.6). -/
def nodeZero (n : Nat) : Bool := decide (0x404 ≤ n) && decide (n ≤ 0x406)

/-- What the device secret must stand behind: every ATTEST and DRBG GENERATE (R418). -/
def Job.needsSecret (j : Job) : Bool := decide (j.verb = 7) || (decide (j.verb = 5) && decide (j.noun = 0x702) && decide (j.md = 1))

/-- The status that refuses a well-formed request before its Verb runs (R312, R319, R326, R329, R334, R418, R423, R506). -/
def State.refuse (s : State) (j : Job) : Option Nat :=
  let v := verbFor j.verb
  let all := decide (j.verb = 10) && decide (j.noun = 0xFFFF)
  if s.flag R.LCS_PROG_INPROG && !j.isIdentity then some 0x20
  else if s.crerus.recovery && (!j.inRecovery || (decide (s.lcState = 7) && !j.isIdentity)) then some 0x11
  else if (nounVerbs j.noun).isNone && !all then some 0x11
  else if !((nounVerbs j.noun).getD [9]).any fun x => decide (x = v) then some 0x10
  else if (!all && decide (j.cls ∉ nounClasses j.noun v)) || (decide (j.cls = .r) && (remoteBarred j.noun || decide (v = 9)))
      || (nodeZero j.noun && !s.isMaster) then some 0x13
  else if !modOk j.verb j.md j.noun || !lenOk j.verb j.md j.noun j.pay.length then some 0x12
  else if s.noSecret && j.needsSecret then some 0x13
  else if s.flag R.TMP_STAT_RESP && decide (j.noun / 256 = 7 ∨ j.noun / 256 = 8) && decide (j.verb ≠ 1) then some 0x40
  else if s.crerus.activating && decide (j.noun / 256 = 6) then some 0x21
  else none

/-- An arrival that Crerus takes next: in recovery only MB0 is served (R425, R506), and during an activation only what
names group 0x06 (R326, R327). -/
def State.takes (s : State) (a : Arrival) : Bool :=
  (!s.crerus.recovery || decide (a.src = .host 0)) && (!s.crerus.activating || decide (s.arrNoun a / 256 = 6))

/-- A taken request that waits behind its group lets the next one be taken. -/
def State.yieldCur (s : State) : State :=
  match s.crerus.cur with
  | some j => if s.jobBlocked j then s.suspend j .none else s
  | none => s

/-- The next request in arrival order is taken and checked (R318, R322). -/
def State.takeRequest (s : State) : State :=
  let s := s.yieldCur
  if s.crerus.cur.isSome || !s.crerusUp then s
  else
    match s.crerus.arr.find? s.takes with
    | none => s
    | some a =>
      let b := s.arrBytes a
      let s := s.beginTake a
      let j := s.jobOf a b
      let s := { s with crerus := { s.crerus with nextId := s.crerus.nextId + 1 } }
      if !goodMsg b then s.finish { j with pay := [] } 0x12 []
      else
        match s.authJob j b with
        | (none, s) => s.finish j 0x13 []
        | (some j, s) =>
          match s.refuse j with
          | some st => s.finish j st []
          | none => { s with crerus := { s.crerus with cur := some j } }

/-- MAILBOX_REQUEST_TAKE (R322). -/
def execMailboxRequestTake (s : State) : Out := .next s.takeRequest

/-! ### Resuming (R322) -/

/-- Where the 32 KiB image store of DRAFT_IMAGE stands (R336): memory of Crerus that no requester reaches. -/
def imageStore : Nat := 0x60000000

/-- A suspended request can go on. -/
def State.canResume (s : State) (j : Job) : Bool :=
  match j.wait with
  | .ready _ _ => true
  | .engine => s.engineReady || s.engineRefuses
  | .flash (some _) => true
  | .upd k => decide (s.get (R.LN_CTRL_UPD k) = 0)
  | _ => false

/-- The lowest `k` bits of a word that are clear. -/
def clearBits (w : Nat) : Nat → Nat → List Nat
  | _, 0 => []
  | i, n + 1 => if w.testBit i then clearBits w (i + 1) n else i :: clearBits w (i + 1) n

/-- The Crerus thermometer is burned up to `n` bits (R326, R426). -/
def State.burnTherm (s : State) (n : Nat) : State :=
  let w := fuseRow s.fuse 175 + 2 ^ 32 * fuseRow s.fuse 176
  ((clearBits w 0 64).take (n - therm s.fuse 175)).foldl (fun s i => s.burn (175 + i / 32) (2 ^ (i % 32))) s

/-- The running firmware is confirmed (R326). -/
def State.confirmed (s : State) : State :=
  { s.burnTherm s.crerus.svn with crerus := { s.crerus with trial := false } }

/-- What the end of a flash operation does beside its reply. -/
def State.flashDone (s : State) (j : Job) : State :=
  if j.verb = 4 ∧ j.noun = 0x600 then s.confirmed
  else if j.verb = 5 ∧ j.noun = 0xA01 then
    { s with crerus := { s.crerus with work := draftOf (s.rdBytes imageStore 0x8000) } }
  else s

/-- A WARP_GSTART that a member forwarded takes its status from the reply of node 0 (R154). -/
def Job.readyAs (j : Job) (st : Nat) (data : List Nat) : Nat × List Nat :=
  if j.noun = 0x402 ∧ j.verb = 5 then (if st = 0 then (fieldOf data 8 4, []) else (st, [])) else (st, data)

/-- A suspended request goes on. -/
def State.resumeJob (s : State) (j : Job) : State :=
  match j.wait with
  | .ready st data =>
    let (st, data) := j.readyAs st data
    s.finish j st data
  | .engine => s.suspend j .none
  | .flash (some c) => if c = 0 then (s.flashDone j).finish j 0 [] else s.finish j 0x30 []
  | .upd _ => s.finish j 0 []
  | _ => s

/-- REQUEST_RESUME (R322). -/
def execRequestResume (s : State) : Out :=
  .next (if !s.crerusUp then s
    else
      match s.crerus.susp.find? s.canResume with
      | some j => s.resumeJob j
      | none => s)

/-- LANE_APPLY_TIMEOUT (R335): the lane has not run within 10 ms. -/
def execLaneApplyTimeout (s : State) : Out :=
  .next (match s.crerus.susp.find? fun j => match j.wait with
      | .upd k => s.flag (R.LN_CTRL_UPD k)
      | _ => false with
    | some j => if s.crerusUp then s.finish j 0x61 [] else s
    | none => s)

end Sys2Proof.Machine
end

