-- ==== Sys2Proof/Machine/CrerusRows.lean ====
section
/-!
DEFINITION. The Verbs that every Noun shares, the notices, and the DO Nouns of identity, Warp, life cycle and custody
(chapter 15, Tables 7.6, 17.9 and 19.11).
-/

namespace Sys2Proof.Machine

/-! ### GET, SET, APPLY (R319, R320) -/

/-- GET of KEY_SLOT (R372). -/
def State.getKey (s : State) (j : Job) : State :=
  let n := fieldOf j.pay 0 1
  if 63 < n then s.finish j 0x50 [] else s.finish j 0 (s.keyPay j n)

/-- GET: LIVE, PENDING or BOOT. -/
def State.getJob (s : State) (j : Job) : State :=
  if j.noun = 0x701 then (if j.md = 0 then s.getKey j else s.finish j 0x13 [])
  else if j.md = 0 then s.finish j 0 (s.live j.noun)
  else if !nounSets j.noun then s.finish j 0x13 []
  else if j.md = 2 then s.finish j 0 (s.crerus.bootDraft.nounValue j.noun)
  else
    match s.pendOf j.cls j.noun with
    | some p => s.finish j 0 p
    | none => s.finish j 0x13 []

/-- GET (R319). -/
def execGet (s : State) : Out := .next (s.serve (fun j => decide (j.verb = 1)) State.getJob)

/-- SET: a value that passes the checks replaces the class's pending one; with Modifier 1 it is applied. -/
def State.setJob (s : State) (j : Job) : State :=
  match s.setCheck j.noun j.pay with
  | some st => s.finish j st []
  | none =>
    let s := s.putPend j.cls j.noun j.pay
    if j.md = 1 then s.applyJob j j.pay else s.finish j 0 []

/-- SET (R320). -/
def execSet (s : State) : Out := .next (s.serve (fun j => decide (j.verb = 2)) State.setJob)

/-- APPLY: DENIED with nothing pending, and where a lock has frozen the configuration since (R385). -/
def State.applyPending (s : State) (j : Job) : State :=
  match s.pendOf j.cls j.noun with
  | none => s.finish j 0x13 []
  | some p => if j.noun = 0x901 ∧ s.flag R.TMP_LOCK = true then s.finish j 0x13 [] else s.applyJob j p

/-- APPLY (R320). -/
def execApply (s : State) : Out := .next (s.serve (fun j => decide (j.verb = 3)) State.applyPending)

/-! ### COMMIT, STAGE (R320, R322, R324, R326) -/

/-- COMMIT_STAGE (R319): Modifier 0. -/
def execCommitStage (s : State) : Out :=
  .next (s.serve (fun j => decide (j.verb = 4 ∧ j.md = 0 ∧ j.noun ≠ 0x600)) fun s j => s.commitStage j fun s => s.finish j 0 [])

/-- COMMIT_WRITE (R322): Modifier 1. -/
def execCommitWrite (s : State) : Out :=
  .next (s.serve (fun j => decide (j.verb = 4 ∧ j.md = 1 ∧ j.noun ≠ 0x600)) fun s j =>
    if s.draftSigned then s.finish j 0x13 []
    else s.withFlash j fun s => s.commitStage j fun s => s.commitWrite j)

/-- Bytes of the mailbox half of the staging buffer (R324). -/
def State.stagedBytes (s : State) (o n : Nat) : List Nat := s.rdBytes (hostKey (0x10000 + o)) n

/-- A STAGE payload keeps its ranges in a store of `size` bytes. -/
def stageOk (p : List Nat) (size : Nat) : Bool :=
  let o := wordAt p 0
  let n := wordAt p 4
  let t := wordAt p 8
  decide (n % 32 = 0) && decide (32 ≤ n) && decide (o + n ≤ 0x8000) && decide (t % 32 = 0) && decide (t + n ≤ size)

/-- STAGE to FW_IMAGE (R326): into the slot Crerus does not run from; at offset 0 the slot is erased first. -/
def State.stageFw (s : State) (j : Job) : State :=
  if !stageOk j.pay 0x40000 then s.finish j 0x50 []
  else
    s.withFlash j fun s =>
      let base := fwBase (1 - s.crerus.slot)
      let t := wordAt j.pay 8
      let b := s.stagedBytes (wordAt j.pay 0) (wordAt j.pay 4)
      let old := s.rdBytes (base + t) b.length
      let s := if t = 0 then { s with crerus := { s.crerus with verified := false } } else s
      if t ≠ 0 ∧ old.any (fun x => decide (x ≠ 0xFF)) = true then s.finish j 0x30 []
      else
        let op : FlashOp := { erase := if t = 0 then [(base, 0x20000), (base + 0x20000, 0x20000)] else [], prog := [(base + t, b)] }
        (s.setFlashOp 0 (some op)).suspend j (.flash none)

/-- STAGE to DRAFT_IMAGE (R336): into the image store. -/
def State.stageDraft (s : State) (j : Job) : State :=
  if !stageOk j.pay 0x8000 then s.finish j 0x50 []
  else (s.wrBytes (imageStore + wordAt j.pay 8) (s.stagedBytes (wordAt j.pay 0) (wordAt j.pay 4))).finish j 0 []

/-- STAGE (R324). -/
def execStage (s : State) : Out :=
  .next (s.serve (fun j => decide (j.verb = 6)) fun s j => if j.noun = 0x601 then s.stageFw j else s.stageDraft j)

/-! ### ATTEST, WIPE (R319, R376) -/

/-- ATTEST: the LIVE payload, the nonce, and the signature under the attestation key. -/
def State.attest (s : State) (j : Job) : State :=
  s.withEngine j fun s =>
    if !s.custody.drbg then s.finish j 0x20 []
    else
      let body := s.live j.noun ++ j.pay
      let (d, s) := s.freeN
      let sig := natsOf (Config.ecdsaSign s.attestKey ([j.verb, j.md] ++ toLE 2 j.noun ++ body) d).toList
      s.finish j 0 (body ++ sig)

/-- ATTEST (R376). -/
def execAttest (s : State) : Out := .next (s.serve (fun j => decide (j.verb = 7)) State.attest)

/-- WIPE of a key slot, or of every slot. -/
def State.wipeKey (s : State) (j : Job) : State :=
  let n := fieldOf j.pay 0 1
  if n = 0xFF then s.zeroSlots.finish j 0 []
  else if 63 < n then s.finish j 0x50 []
  else (s.putSlot n {}).finish j 0 []

/-- WIPE (R319). -/
def execWipe (s : State) : Out := .next (s.serve (fun j => decide (j.verb = 8)) State.wipeKey)

/-! ### Subscriptions and notices (R321) -/

/-- WATCH: one subscription for each class and Noun. -/
def State.watch (s : State) (j : Job) : State :=
  let sub : Sub := { cls := j.cls, mb := if j.cls = .h then 7 else 8 + j.md / 64, noun := j.noun, interval := j.md % 64
                     told := s.watchKey j.noun }
  let rest := s.crerus.subs.filter fun x => !decide (x.cls = j.cls ∧ x.noun = j.noun)
  { s with crerus := { s.crerus with subs := rest ++ [sub] } }.finish j 0 []

/-- WATCH (R321). -/
def execWatch (s : State) : Out := .next (s.serve (fun j => decide (j.verb = 9)) State.watch)

/-- FORGET. -/
def State.forget (s : State) (j : Job) : State :=
  let gone (x : Sub) : Bool := decide (x.cls = j.cls) && (decide (j.noun = 0xFFFF) || decide (x.noun = j.noun))
  { s with crerus := { s.crerus with subs := s.crerus.subs.filter fun x => !gone x } }.finish j 0 []

/-- FORGET (R319). -/
def execForget (s : State) : Out := .next (s.serve (fun j => decide (j.verb = 10)) State.forget)

/-- A subscription is held against its Noun. -/
def State.lookSub (s : State) (i : Nat) : State := s.noteChange i (s.watchKey (s.crerus.subs.getD i {}).noun)

/-- Every subscription is looked at. -/
def State.lookSubs (s : State) : State := (List.range s.crerus.subs.length).foldl State.lookSub s

/-- The notice mailbox of a subscription is FREE and its domain is ON. -/
def State.noticeRoom (s : State) (mb : Nat) : Bool :=
  if mb = 7 then s.on 10 && decide (s.get (R.HIF_MBST 7) = 0) else s.on 1 && decide (s.get (R.LMB_ST (mb - 8)) = 0)

/-- The minimum interval of a subscription, in units of 10 ms of RTC, has passed since its last notice (R321). -/
def State.noticeDue (s : State) (x : Sub) : Bool :=
  match x.last with
  | some t => decide (t + 10000 * x.interval ≤ s.time.rtc.toNat)
  | none => true

/-- A notice of a Noun as it stands is written (R321). -/
def State.sendNotice (s : State) (x : Sub) : State :=
  let m := mkMsg 9 0 x.noun 0 4 0 (s.live x.noun)
  if x.mb = 7 then s.putHost 7 m else s.putLocal (x.mb - 8) m false

/-- The `i`-th of the notices that wait, whose mailbox is FREE and whose interval has passed is written: first those owed
without a subscription. -/
def State.deliverNotice (s : State) (i : Nat) : State :=
  let s := s.lookSubs
  let owed := s.crerus.notes.filter fun x => s.noticeRoom x.mb
  let waits := s.crerus.subs.filter fun x => x.waiting && s.noticeRoom x.mb && s.noticeDue x
  match owed[i]?, waits[i - owed.length]? with
  | some x, _ => { s with crerus := { s.crerus with notes := s.crerus.notes.erase x } }.sendNotice x
  | none, some x =>
    let y : Sub := { x with waiting := false, last := some s.time.rtc.toNat }
    { s with crerus := { s.crerus with subs := s.crerus.subs.map fun z => if z = x then y else z } }.sendNotice x
  | none, none => s

/-- NOTICE_DELIVERY (R321). -/
def execNoticeDelivery (i : Nat) (s : State) : Out := .next (if s.crerus.alive && s.on 1 then s.deliverNotice i else s)

/-! ### PING -/

/-- A DO request on a Noun. -/
def Job.isDo (n : Nat) (j : Job) : Bool := decide (j.verb = 5) && decide (j.noun = n)

/-- DO_PING (R334). -/
def execDoPing (s : State) : Out := .next (s.serve (Job.isDo 2) fun s j => s.finish j 0 j.pay)

/-! ### The Warp Nouns (Table 7.6) -/

/-- A Warp request on a node whose PD9 is not ON is answered BUSY. -/
def State.withWarp (s : State) (j : Job) (f : State → State) : State := if s.on 9 then f s else s.finish j 0x20 []

/-- A message opens a transfer for a request. -/
def State.sendFor (s : State) (j : Job) (dst : Nat) (b : List Nat) : State :=
  let x := s.freshXid
  (s.openSend { xid := x, dst := dst, bytes := b, job := j.id }).suspend j (.warp x)

/-- WARP_GSTART (R154): node 0 launches the frame, and refuses a lead below 500 picks at the launch, which lies no earlier
than the request; a member passes the request to node 0. -/
def State.gstart (s : State) (j : Job) : State :=
  let t := fieldOf j.pay 0 8
  let g := fieldOf j.pay 8 1
  if s.isMaster then
    if t < s.time.tb.toNat + 500 ∨ 16 ≤ g then s.finish j 0x50 []
    else
      let f : Frame := .gstart (Fin.ofNat 16 g) (BitVec.ofNat 64 t)
      (s.queueFrame f).suspend j (.gstart f)
  else s.sendFor j 0 (mkMsg 5 0 0x402 j.seq 0 0 j.pay)

/-- DO_WARP_GSTART (R154). -/
def execDoWarpGstart (s : State) : Out := .next (s.serve (Job.isDo 0x402) fun s j => s.withWarp j fun s => s.gstart j)

/-- WARP_SEND (R155, Table 7.6). -/
def State.warpSend (s : State) (j : Job) : State :=
  let m := j.pay.drop 4
  if !goodMsg m || decide (msgLen m ≠ m.length) then s.finish j 0x12 []
  else s.sendFor j (fieldOf j.pay 0 1) m

/-- DO_WARP_SEND (R155). -/
def execDoWarpSend (s : State) : Out := .next (s.serve (Job.isDo 0x403) fun s j => s.withWarp j fun s => s.warpSend j)

/-- DO_WARP_RESET (R157). -/
def execDoWarpReset (s : State) : Out :=
  .next (s.serve (Job.isDo 0x405) fun s j => s.withWarp j fun s =>
    (s.queueFrame (.bypass 4 (BitVec.ofNat 8 (fieldOf j.pay 0 1)))).finish j 0 [])

/-- DO_WARP_CAL (R148). -/
def execDoWarpCal (s : State) : Out :=
  .next (s.serve (Job.isDo 0x406) fun s j => s.withWarp j fun s => s.startEnum.finish j 0 [])

/-! ### The life-cycle Nouns (R420 to R422) -/

/-- A transition is asked for; its reply is the refusal, or ACCEPTED once its first step is burned. -/
def State.lcJob (s : State) (j : Job) (t : Nat) (scrap : Bool) (tok : Option (List Nat)) : State :=
  match s.lcRequest t scrap tok (some j.id) with
  | (some c, s) => s.finish j c []
  | (none, s) => s.suspend j .lc

/-- DO_LC_TRANSITION (R420). -/
def execDoLcTransition (s : State) : Out :=
  .next (s.serve (Job.isDo 0x501) fun s j => s.lcJob j (fieldOf j.pay 0 1) false none)

/-- DO_LC_TOKEN (R421): the target is TESTOPEN or RETURN. -/
def execDoLcToken (s : State) : Out :=
  .next (s.serve (Job.isDo 0x502) fun s j =>
    let t := fieldOf j.pay 0 1
    if t = 2 ∨ t = 5 then s.lcJob j t false (some (j.pay.drop 4)) else s.finish j 0x13 [])

/-- DO_LC_SCRAP (R422): both words, of which the second is the device ID. -/
def execDoLcScrap (s : State) : Out :=
  .next (s.serve (Job.isDo 0x503) fun s j =>
    if wordAt j.pay 0 = 0x5C4A ∧ j.pay.drop 4 = s.devId then s.lcJob j 7 true none else s.finish j 0x13 [])

/-! ### DRBG and TAMPER_CLEAR (R373 to R375, R383) -/

/-- DRBG output is refused with BUSY while the entropy source has failed, or without an instantiated DRBG (R374). -/
def State.withDrbg (s : State) (j : Job) (f : State → State) : State :=
  s.withEngine j fun s => if s.custody.esFail || !s.custody.drbg then s.finish j 0x20 [] else f s

/-- RANDOM: 1 to 480 bytes. -/
def State.drbgRandom (s : State) (j : Job) : State :=
  let n := fieldOf j.pay 0 2
  if n = 0 ∨ 480 < n then s.finish j 0x50 []
  else
    s.withDrbg j fun s =>
      let (l, s) := s.drbgBytes n ((fieldOf j.pay 2 1).testBit 0)
      s.finish j 0 l

/-- DO_DRBG_RANDOM (R375). -/
def execDoDrbgRandom (s : State) : Out :=
  .next (s.serve (fun j => j.isDo 0x702 && decide (j.md = 0)) State.drbgRandom)

/-- The key that GENERATE makes, and what its reply carries. -/
def State.newKey (s : State) (typ len : Nat) : (List Nat × List Nat) × State :=
  if typ = 3 then
    let (r, s) := s.drbgBytes 56 false
    let k := natsOf (Config.p384Scalar r).toList
    ((k, natsOf (Config.p384Public k).toList), s)
  else
    let (k, s) := s.drbgBytes len false
    ((k, []), s)

/-- GENERATE (R367, R373). -/
def State.drbgGenerate (s : State) (j : Job) : State :=
  let n := fieldOf j.pay 0 1
  let typ := fieldOf j.pay 1 1
  let pol := fieldOf j.pay 2 2
  let len := fieldOf j.pay 4 2
  let old := s.slot n
  if j.cls ≠ .s then s.finish j 0x13 []
  else if 63 < n ∨ slotForm typ len pol = false ∨ (n = 63 ∧ (typ ≠ 2 ∨ len ≠ 48 ∨ pol ≠ 4)) then s.finish j 0x50 []
  else if old.occ && !((fieldOf j.pay 6 1).testBit 0 && old.policy.testBit 1) then s.finish j 0x31 []
  else
    s.withDrbg j fun s =>
      let ((k, q), s) := s.newKey typ len
      (s.putSlot n { occ := true, typ := typ, len := len, policy := pol, key := k }).finish j 0 q

/-- DO_DRBG_GENERATE (R373). -/
def execDoDrbgGenerate (s : State) : Out :=
  .next (s.serve (fun j => j.isDo 0x702 && decide (j.md = 1)) State.drbgGenerate)

/-- TAMPER_CLEAR: BUSY while an enabled RESPOND source is active or the wipe has not ended (R383). -/
def State.tamperClear (s : State) (j : Job) : State :=
  let live := (List.range 9).any fun n => s.bit R.TMP_STAT_ACTIVE n && s.tampEn n && s.bit R.TMP_SRCCFG_ACTION n
  if live || s.custody.wiping then s.finish j 0x20 []
  else
    let s := ((s.set R.TMP_STAT_RESP 0).set R.TMP_STAT_LATCHED 0).set R.TMP_STAT_ZACT 0
    let s := if s.on 10 then s.set R.Q_STATUS_TAMPER 0 else s
    { s with custody := { s.custody with slotLoss := false } }.formKeys.finish j 0 []

/-- DO_TAMPER_CLEAR (R383): `live` are the sources active now. -/
def execDoTamperClear (live : BitVec 9) (s : State) : Out :=
  .next (s.serve (Job.isDo 0x902) fun s j => (s.set R.TMP_STAT_ACTIVE live.toNat).tamperClear j)

end Sys2Proof.Machine
end

