-- ==== Sys2Proof/Machine/QueueRows.lean ====
section
/-!
DEFINITION. The commands of the custody queue and of the journal (chapters 16 and 18).
-/

namespace Sys2Proof.Machine

/-- QUEUE_TAKE (R343). -/
def execQueueTake (s : State) : Out := .next s.qTake

/-- JAPPEND (R351). -/
def execJappend (s : State) : Out := .next (s.qStart 1 State.jPut)

/-- JREAD (R352). -/
def execJread (s : State) : Out := .next (s.qStart 2 State.jRead)

/-- KSTORE (R353). -/
def execKstore (s : State) : Out := .next (s.qStart 3 State.kStore)

/-- KFETCH (R353). -/
def execKfetch (s : State) : Out := .next (s.qStart 4 State.kFetch)

/-- BWRITE (R354). -/
def execBwrite (s : State) : Out := .next (s.qStart 5 State.bWrite)

/-- BREAD (R354). -/
def execBread (s : State) : Out := .next (s.qStart 6 State.bRead)

/-- FLUSH (R355). -/
def execFlush (s : State) : Out := .next (s.qStart 7 State.jFlush)

/-- BARRIER (R347): once every command before it has completed it completes itself. -/
def execBarrier (s : State) : Out := .next (s.qStart 8 fun s c => s.qEnd c 0 0 0 0 0)

/-- QUEUE_COMPLETION_POST (R348). -/
def execQueueCompletionPost (s : State) : Out := .next s.qPost

/-- A queue command waits for the journal. -/
def State.jrnlHeld (s : State) : Bool := s.queue.running.any fun c => decide (c.opc = 1 ∨ c.opc = 7)

/-- JOURNAL_DEFER_TIMEOUT (R351): what is owed and buffered is programmed. -/
def execJournalDeferTimeout (s : State) : Out := .next (if s.jrnlHeld then s.pageStart else s.jrnlPush)

/-- A page is durable (R351): its records keep their numbers, the write position moves on, and the command that
waited goes on. -/
def State.pageGood (s : State) (op : FlashOp) (recs : List (List Nat)) : State :=
  let s := (s.flashApply op).setFlashOp 1 none
  let j := s.jrnl
  let s := { s with jrnl := { j with
      prog := none, durable := j.durable + recs.length, durMac := j.mac, psn := (j.psn + 1) % 2 ^ 32
      wpos := (j.wpos + 1) % 8192 } }
  let s := s.carrySummary.jResume recs.length
  if s.jrnlHeld then s else s.vrecDrain

/-- The block erase of a wrap ends VERIFY (R403): the block is skipped for this pass, and the append goes on after
it. -/
def State.eraseBad (s : State) (op : FlashOp) : State :=
  if op.erase.isEmpty then s
  else
    let s := (s.flashTorn { op with prog := [] }).setFlashOp 1 none
    let j := s.jrnl
    let s := { s with jrnl := { j with
        prog := none, buf := (j.prog.getD []) ++ j.buf, wpos := (j.wpos / 512 + 1) * 512 % 8192, eraseFail := true } }
    (s.journal 403 [j.wpos / 512]).pageStart

/-- The program of a page ends VERIFY (R396, R402): the page is torn, and the command that waited fails. -/
def State.pageBad (s : State) (op : FlashOp) : State :=
  let t := op.erase.foldl (fun s x => s.wipe x.1 (x.1 + x.2)) s
  let s := ((t.flashTorn { op with erase := [] }).setFlashOp 1 none).pageAbort 0x30 0
  if s.jrnlHeld then s else s.vrecDrain

/-- JOURNAL_PAGE_DONE (R351): the operation in bank 1 ends: 0 the page is durable, 1 the erase, 2 the program did not
read back. -/
def execJournalPageDone (r : Fin 3) (s : State) : Out :=
  .next (match s.flash.op1, s.jrnl.prog with
    | some op, some recs =>
      (match r.val with
        | 0 => s.pageGood op recs
        | 1 => s.eraseBad op
        | _ => s.pageBad op).resetDue
    | some _, none => (s.flashEnd 1 (if r.val = 0 then 0 else 6)).resetDue
    | _, _ => s)

/-- JOURNAL_SCAN_COMPLETE (R402). -/
def execJournalScanComplete (s : State) : Out :=
  .next (if s.crerus.alive && s.on 2 && !s.jrnl.scanned then s.jrnlScan.vrecDrain else s)

/-- JOURNAL_CHAIN_VERIFY_DONE (R402). -/
def execJournalChainVerifyDone (s : State) : Out :=
  .next (if s.jrnlUp && s.on 2 && !s.jrnl.verified then s.jrnlVerify else s)

end Sys2Proof.Machine
end

