-- ==== Sys2Proof/Machine/FirmOps.lean ====
section
/-!
DEFINITION. Firmware slots, the start of vendor firmware and the restarts of Crerus (R325 to R327, R330, R357, R503 to
R506).
-/

namespace Sys2Proof.Machine

/-! ### Slot choice (R325, R505) -/

/-- Program a mark of a firmware slot. -/
def State.putMark (s : State) (n m : Nat) : State := s.wrBytes (fwMarkKey n m) fwMarkUnit

/-- A slot with ARMED set and TRIED clear. -/
def State.fwArmed (s : State) (n : Nat) : Bool := s.fwMark n 0 && !s.fwMark n 1

/-- The slots in the order they are tried: armed ones, then the confirmed ones, the higher VERSION first. -/
def State.fwOrder (s : State) : List Nat :=
  [0, 1].filter s.fwArmed
    ++ (if s.fwVersion 0 < s.fwVersion 1 then [1, 0] else [0, 1]).filter fun n => s.fwMark n 2

/-- The slots are tried in order: an armed one is marked TRIED first, and the first rejection is recorded. -/
def State.fwPick (s : State) : List Nat → Option Nat × State
  | [] => (none, s)
  | n :: r =>
    let s := if s.fwArmed n then s.putMark n 1 else s
    match s.fwFail n with
    | 0 => (some n, s)
    | c => State.fwPick (if s.flag R.RST_BOOT_FWFAIL then s else s.set R.RST_BOOT_FWFAIL c) r

/-- The boot ROM chooses a slot; with none it enters recovery, which raises the advisory (R505, R506). -/
def State.fwChoose (s : State) : State :=
  let s := s.set R.RST_BOOT_FWFAIL 0
  match s.fwPick s.fwOrder with
  | (some n, s) =>
    { (s.set R.RST_BOOT_FWSLOT n).set R.RST_BOOT_RECOVERY 0 with crerus := { s.crerus with slot := n, recovery := false } }
  | (none, s) => { s.set R.RST_BOOT_RECOVERY 1 with crerus := { s.crerus with recovery := true } }.advise 7

/-! ### The start of vendor firmware (R375, R379, R386, R503, R577) -/

/-- A NOUN entry of the boot Draft, as SET and APPLY: a refused one is journalled. -/
def State.nounEntry (s : State) (e : Entry) : State :=
  if !e.noun then s
  else if !nounSets e.target || decide (e.data.length ≠ nounSize e.target) || (s.setCheck e.target e.data).isSome then
    s.journal 503 [e.target]
  else s.applyNoun e.target e.data

/-- Vendor firmware of the chosen slot starts; `kat` says that its known-answer tests passed. -/
def State.fwStart (s : State) (kat : Bool) : State :=
  let n := s.crerus.slot
  let first := !s.crerus.started
  let c := s.crerus
  let s := { s with
    crerus := { c with alive := true, started := true, recovery := false, activating := false, verified := false, work := c.bootDraft
                       version := s.fwVersion n, svn := s.fwSvn n, trial := !s.fwMark n 2 }
    custody := { s.custody with katFail := !kat, esFail := false, esFails := 0, esStopped := false }
    jrnl := { s.jrnl with key := s.journalKey } }
  let s := if s.ply.fault then s.quiesceStrands else s
  let s := s.formKeys.restoreSummary
  let s := if s.custody.drbg then [0, 1].foldl (fun s n => if s.tampEn n then s.meshSeed n else s) s else s
  let s := if s.on 10 then
      (if first then s.set R.HIF_STATUS_FWREADY 1 else s).set R.Q_STATUS_HELD 0 else s
  if first then c.bootDraft.entries.foldl State.nounEntry s else s

/-- VENDOR_FIRMWARE_START (R503): after boot step 10, with a slot that passed. -/
def execVendorFirmwareStart (kat : Bool) (s : State) : Out :=
  .next (if decide (s.get R.RST_BOOT_STEP = 10) && !s.crerus.started && !s.crerus.alive && !s.flag R.RST_BOOT_RECOVERY
      && decide (s.lcState ≠ 7) && s.on 1 then s.fwStart kat else s)

/-! ### Restarts (R327, R330, R357) -/

/-- A taken command, or one in the ring, completes with HELD after a restart (R357). -/
def QCmd.hold (c : QCmd) : QCmd := { c with held := true }

/-- What the queue holds over a restart: the taken commands and the entries of the ring. -/
def State.holdQueue (s : State) : State :=
  let n := (s.get R.Q_SQTAIL + 64 - s.get R.Q_SQHEAD) % 64
  { s with queue := { s.queue with taken := s.queue.taken.map QCmd.hold, heldTo := n } }

/-- A subscription-less FW_STATUS notice goes to MB7 and to every local notice mailbox (R326). -/
def State.trialNotices (s : State) (mbs : List Nat) : State :=
  if s.crerus.trial then
    { s with crerus := { s.crerus with notes := (7 :: mbs).map fun m => { mb := m, noun := 0x600 } } }
  else s

/-- An activation may go on to the restart: every started request and command has ended, and the journal is durable. -/
def State.activated (s : State) : Bool :=
  s.crerus.activating && s.jobs.isEmpty && s.queue.running.isEmpty && s.queue.done.isEmpty && s.flash.op0.isNone && s.jrnlClean

/-- Crerus has lost its firmware and starts again from ROM: after a watchdog expiry, or after PD1 was lost. -/
def State.mustRestart (s : State) : Bool :=
  !s.crerus.alive && !s.crerus.recovery && decide (s.get R.RST_BOOT_STEP = 10) && decide (s.lcState ≠ 7)
    && (s.crerus.started || s.flag R.RST_BOOT_RECOVERY)

/-- Crerus restarts from ROM into the slot R505 chooses, and ends the restart. -/
def State.crerusRestart (s : State) (kat : Bool) : State :=
  let mbs := ((s.crerus.subs.map Sub.mb).filter fun m => decide (m ≠ 7)).dedup
  let s := s.holdQueue.crerusLost.fwChoose
  let s := if s.on 10 then s.set R.HIF_IRQSTAT_FWEVT 1 else s
  if s.crerus.recovery then (if s.on 10 then s.set R.HIF_STATUS_RESTARTING 0 else s)
  else (s.fwStart kat).trialNotices mbs

/-- CRERUS_RESTART_COMPLETE (R327). -/
def execCrerusRestartComplete (kat : Bool) (s : State) : Out :=
  .next (if s.on 1 && (s.activated || s.mustRestart) then s.crerusRestart kat else s)

/-- CRERUS_WATCHDOG_EXPIRY (R330, Table 23.1): a second within 1 s asks for a SYS reset. -/
def execCrerusWatchdogExpiry (s : State) : Out :=
  .next (if !s.crerusUp then s
    else
      let now := s.time.rtc.toNat
      match s.crerus.wdLast with
      | some t =>
        if now ≤ t + 1000000 then s.askReset 10
        else { s with crerus := { s.crerus with wdLast := some now } }.crerusLost
      | none => { s with crerus := { s.crerus with wdLast := some now } }.crerusLost)

/-! ### The firmware Nouns (R326) -/

/-- FW_VERIFY: the staged slot is checked. -/
def State.fwVerify (s : State) (j : Job) : State :=
  match s.fwFail (1 - s.crerus.slot) with
  | 0 => { s with crerus := { s.crerus with verified := true } }.finish j 0 []
  | 4 => s.finish j 0x14 []
  | 5 => s.finish j 0x30 []
  | _ => s.finish j 0x13 []

/-- DO_FW_VERIFY (R326): the read waits for an operation of bank 0. -/
def execDoFwVerify (s : State) : Out :=
  .next (s.serve (Job.isDo 0x602) fun s j => s.withFlash j fun s => s.fwVerify j)

/-- FW_ACTIVATE: ACCEPTED, the ARMED mark, and from then on the restart (R326, R327, R357). -/
def State.fwActivate (s : State) (j : Job) : State :=
  let n := 1 - s.crerus.slot
  let s := s.finish j 1 []
  let s := if s.on 10 then
      ((s.set R.HIF_STATUS_RESTARTING 1).set R.HIF_STATUS_FWREADY 0).set R.Q_STATUS_HELD 1 else s
  let s := { s with crerus := { s.crerus with activating := true } }
  let s := if s.fwMark n 0 then s else s.setFlashOp 0 (some { prog := [(fwMarkKey n 0, fwMarkUnit)] })
  s.jrnlPush

/-- DO_FW_ACTIVATE (R326). -/
def execDoFwActivate (s : State) : Out :=
  .next (s.serve (Job.isDo 0x603) fun s j =>
    if s.flag R.PWR_STATE_ENTRY then s.finish j 0x20 []
    else if !s.crerus.verified then s.finish j 0x13 []
    else s.withFlash j fun s => s.fwActivate j)

/-- FW_STATUS_COMMIT (R326): the CONFIRMED mark of the running slot, then the thermometer. -/
def execFwStatusCommit (s : State) : Out :=
  .next (s.serve (fun j => decide (j.verb = 4) && decide (j.noun = 0x600)) fun s j =>
    if s.fwMark s.crerus.slot 2 then s.confirmed.finish j 0 []
    else s.withFlash j fun s =>
      (s.setFlashOp 0 (some { prog := [(fwMarkKey s.crerus.slot 2, fwMarkUnit)] })).suspend j (.flash none))

/-! ### DRAFT_IMAGE (R336, R511) -/

/-- DO DRAFT_IMAGE: the staged image is checked as a boot checks a slot, and written. -/
def State.draftImage (s : State) (j : Job) : State :=
  let img := s.rdBytes imageStore 0x7FE0
  let n := 0x40 + draftLen img + (if fieldOf img 6 2 = 1 then 192 else 0)
  let newer := match s.newestDraft with
    | none => true
    | some k => newer32 (fieldOf img 8 4) (s.slotSeq k)
  if !draftHead img || (s.draftBad img).isSome then s.finish j 0x13 []
  else if !newer then s.finish j 0x50 []
  else (s.setFlashOp 0 (some (draftWrite s.targetSlot (img.take n)))).suspend j (.flash none)

/-- DO_DRAFT_IMAGE (R336). -/
def execDoDraftImage (s : State) : Out :=
  .next (s.serve (Job.isDo 0xA01) fun s j => s.withFlash j fun s => s.draftImage j)

/-- FLASH_OPERATION_COMPLETE (R396): the operation of a bank ends; `ok` says that it read back. A page of the journal
ends as JOURNAL_PAGE_DONE states. -/
def execFlashOperationComplete (bank : Fin 2) (ok : Bool) (s : State) : Out :=
  .next (match bank.val, s.flash.op1, s.jrnl.prog with
    | 1, some op, some recs => (if ok then s.pageGood op recs else s.pageBad op).resetDue
    | b, _, _ => if (s.flashOp b).isSome then (s.flashEnd b (if ok then 0 else 6)).resetDue else s)

/-- LC_TRANSITION_STEP_DONE (R424). -/
def execLcTransitionStepDone (s : State) : Out := .next s.lcStep

end Sys2Proof.Machine
end

