-- ==== Sys2Proof/Machine/ServiceRows.lean ====
section
/-!
DEFINITION. The service Nouns (R337): sequences and fans.
-/

namespace Sys2Proof.Machine

/-! ### Sequences -/

/-- A lane is enabled or disabled by vendor firmware. -/
def State.laneSwitch (s : State) (k : Nat) (on : Bool) : State :=
  let f := R.LN_CTRL_EN k
  let w := s.readReg (0xC000 + 0x100 * k)
  s.ioWrite byCrerus (0xC000 + 0x100 * k) (w - s.get f * 2 ^ f.lo + b2n on * 2 ^ f.lo)

/-- Action, lane and value of step `i` of the sequence in force. -/
def State.seqAct (s : State) (i : Nat) : Nat × Nat × Nat :=
  let p := seqStep s.crerus.sequence i
  (fieldOf p 0 1, fieldOf p 1 1 % 16, fieldOf p 2 2)

/-- The error of lane `k` is at most a window in Q1.15. -/
def State.inWindowOf (s : State) (k w : Nat) : Bool :=
  let e := s.gets (R.LN_ERR k)
  let m := sx 16 w * 256
  decide (-m ≤ e) && decide (e ≤ m)

/-- The request of the sequence that runs. -/
def State.seqJob (s : State) : Option Job := s.crerus.susp.find? fun j => decide (j.wait = .seq)

/-- Change the sequence's state. -/
def State.putRun (s : State) (r : SeqRun) : State := { s with crerus := { s.crerus with run := r } }

/-- The steps from `i` run until one waits, or until END (R337). -/
def State.seqRun (s : State) (j : Job) : Nat → Nat → State
  | 0, _ => (s.putRun {}).finish j 0 []
  | n + 1, i =>
    match s.seqAct i with
    | (1, k, _) => ((s.laneSwitch k true).putRun { s.crerus.run with lanes := k :: s.crerus.run.lanes }).seqRun j n (i + 1)
    | (2, k, _) => (s.laneSwitch k false).seqRun j n (i + 1)
    | (3, k, w) => if s.inWindowOf k w then s.seqRun j n (i + 1) else s.putRun { s.crerus.run with on := true, step := i }
    | (4, _, t) => if t = 0 then s.seqRun j n (i + 1) else s.putRun { s.crerus.run with on := true, step := i }
    | _ => (s.putRun {}).finish j 0 []

/-- DO_SEQ_RUN (R337): Modifier 0. -/
def execDoSeqRun (s : State) : Out :=
  .next (s.serve (fun j => j.isDo 0xB03 && decide (j.md = 0)) fun s j =>
    ((s.suspend j .seq).putRun { lanes := [] }).seqRun j 16 0)

/-- DO_SEQ_UNDO (R337): every lane the sequence enables is disabled, in reverse order. -/
def execDoSeqUndo (s : State) : Out :=
  .next (s.serve (fun j => j.isDo 0xB03 && decide (j.md = 1)) fun s j =>
    let ks := ((List.range 16).filter fun i => decide ((s.seqAct i).1 = 1)).reverse
    (ks.foldl (fun s i => s.laneSwitch (s.seqAct i).2.1 false) s).finish j 0 [])

/-- A wait of the sequence ends: its condition holds, or its timeout has passed. -/
def State.seqGo (s : State) (j : Job) (timeout : Bool) : State :=
  let r := s.crerus.run
  let (a, k, w) := s.seqAct r.step
  let go (s : State) : State := (s.putRun { r with on := false }).seqRun j (15 - r.step) (r.step + 1)
  if !timeout then (if a = 3 ∧ s.inWindowOf k w = false then s else go s)
  else if fieldOf (seqStep s.crerus.sequence r.step) 6 1 = 1 then go s
  else ((r.lanes.foldl (fun s k => s.laneSwitch k false) s).putRun {}).finish j 0x61 [r.step]

/-- SEQUENCE_STEP (R337). -/
def execSequenceStep (timeout : Bool) (s : State) : Out :=
  .next (match s.seqJob with
    | some j => if s.crerus.run.on && s.crerusUp then s.seqGo j timeout else s
    | none => s)

/-! ### Fans -/

/-- Entry `i` of the fan policy in force. -/
def State.fanEntry (s : State) (i : Nat) : List Nat := cut s.crerus.fanPolicy (16 * i) 16

/-- The duty of a fan by its temperature slot: D_LO, D_HI, and a line between them, truncated. -/
def State.fanDuty (s : State) (p : List Nat) : Nat :=
  let slot := fieldOf p 4 1 % 32
  let c := s.get (R.ADC_RES_DATA (slot / 4) (slot % 4))
  let lo := fieldOf p 6 2
  let hi := fieldOf p 8 2
  let d0 := fieldOf p 10 1
  let d1 := fieldOf p 11 1
  if c ≤ lo then d0
  else if hi ≤ c then d1
  else (d0 + Int.fdiv (((d1 : Int) - d0) * (c - lo)) (hi - lo)).toNat

/-- A fan stalls: enabled, below its limit. -/
def fanStall (p : List Nat) (rpm : Nat) : Bool := (fieldOf p 0 1).testBit 0 && decide (rpm < fieldOf p 12 2)

/-- The compare of a fan's output takes its duty, through the pair's shadow. -/
def State.fanWrite (s : State) (p : List Nat) (duty : Nat) : State :=
  let o := fieldOf p 1 1
  let k := o / 2
  if (fieldOf p 0 1).testBit 0 && decide (k < 12) then
    s.ioWrite byCrerus (0x8008 + 4 * (o % 2) + 0x400 * k) (duty * s.get (R.PWM_PER k) / 255)
  else s

/-- A board-service condition is present (R579). -/
def State.bsvcNow (s : State) : State :=
  s.setB R.HLT_STAT_BSVCLIVE (s.flag R.EGV_STAT_BSVC || s.crerus.fans.any Fan.stalled || s.bit R.TMP_STAT_ACTIVE 7)

/-- Every 10 ms the fan service reads each fan's slot and speed, and sets the duties (R337). -/
def State.fanTick (s : State) (rpm : List Nat) : State :=
  let ps := (List.range 4).map s.fanEntry
  let r (i : Nat) : Nat := rpm.getD i 0
  let st := (List.range 4).map fun i => fanStall (ps.getD i []) (r i)
  let hold := (List.range 4).any fun i => st.getD i false && decide (fieldOf (ps.getD i []) 14 1 = 1)
  let duty (i : Nat) : Nat :=
    let p := ps.getD i []
    if !(fieldOf p 0 1).testBit 0 then 0 else if hold then fieldOf p 11 1 else s.fanDuty p
  let fans : List Fan := (List.range 4).map fun i => { rpm := r i, duty := duty i, stalled := st.getD i false }
  let s := { s with crerus := { s.crerus with fans := fans } }
  let s := (List.range 4).foldl (fun s i => s.fanWrite (ps.getD i []) (duty i)) s
  let s := if st.any id then s.boardService 1 else s
  s.bsvcNow

/-- FAN_SERVICE_TICK (R337): the speeds the tachometer timers show. -/
def execFanServiceTick (a b c d : BitVec 16) (s : State) : Out :=
  .next (if s.crerus.alive && s.on 1 then s.fanTick [a.toNat, b.toNat, c.toNat, d.toNat] else s)

end Sys2Proof.Machine
end

