-- ==== Sys2Proof/Machine/PowerLate.lean ====
section
/-!
DEFINITION. Power-state requests, the steps of an entry, domains that come up, and the end of an exit (R478, R483 to
R490).
-/

namespace Sys2Proof.Machine

/-! ### Requests (R483, R490) -/

/-- A power-state request is refused with BUSY (R483, R488). -/
def State.powerBusy (s : State) (target : Nat) : Bool :=
  s.pwr.entry.isSome || s.flag R.PWR_STATE_EXIT || decide (s.get R.DBG_STAT_HALTED ≠ 0) || s.flag R.LCS_PROG_INPROG
    || s.crerus.activating || s.flag R.LCS_FSTAT_BUSY || s.custody.wiping || s.ply.fault
    || (decide (target = 3) && (s.flag R.EGV_STAT_INHIB || s.flag R.EGV_STAT_BLEED || s.flag R.EGV_STAT_TRIPPED))

/-- PWR_STATE.PSTATE and its copy in HIF_STATUS. -/
def State.setPstate (s : State) (st : Nat) : State :=
  let s := s.set R.PWR_STATE_PSTATE st
  if s.on 10 then s.set R.HIF_STATUS_PSTATE st else s

/-- A strand that waits in JOINWAIT is switched off in LEAN (R490). -/
def State.leanStrand (s : State) (d : Nat) : State :=
  if decide ((s.coreAt (d - 3)).run = .joinWait) && s.on d then
    (let s := s.goDown d 0
     { s with pwr := { s.pwr with leanOff := insOnce s.pwr.leanOff d } })
  else s

/-- An entry into HOLD or SLEEP begins (R484, step 1). -/
def State.beginEntry (s : State) (j : Job) (st : Nat) : State :=
  let s := (s.set R.PWR_STATE_ENTRY 1).raise 145
  let s := if s.on 10 then s.set R.HIF_STATUS_ENTRY_PENDING 1 else s
  { s with pwr := { s.pwr with entry := some st, job := some j.id, past := false } }.suspend j (.power st)

/-- POWER_STATE DO. -/
def State.powerRequest (s : State) (j : Job) : State :=
  let use := fieldOf j.pay 0 1
  if s.get R.PWR_STATE_PSTATE = j.md then s.finish j 0 []
  else if s.powerBusy j.md then s.finish j 0x20 []
  else
    let s := if use.testBit 7 then s.set R.PWR_SRAM_RET (use % 16) else s
    match j.md with
    | 0 => (s.setPstate 0).bringUp.finish j 0 []
    | 1 => (((s.setPstate 1).leanStrand 4).leanStrand 5).finish j 0 []
    | st => s.beginEntry j st

/-- DO_POWER_STATE (R483). -/
def execDoPowerState (s : State) : Out := .next (s.serve (Job.isDo 0x100) State.powerRequest)

/-! ### The steps of an entry (R484, R485) -/

/-- Every core has stopped (R485). -/
def State.coresStopped (s : State) : Bool :=
  (List.range 3).all fun c => !s.coreExists c || (match (s.coreAt c).run with
    | .stopped => true
    | .joinWait => true
    | .held => true
    | _ => false)

/-- Nothing is left to serve but the entry's own request (R484, R358). -/
def State.served (s : State) : Bool :=
  s.crerus.arr.isEmpty && s.jobs.all Job.entering && s.queue.taken.isEmpty && s.queue.running.isEmpty && s.queue.done.isEmpty
    && (decide (s.get R.Q_SQHEAD = s.get R.Q_SQTAIL) || !s.on 10)

/-- Step 5: the reply, PSTATE and the count; then PD1 goes into retention (R484). -/
def State.entryReply (s : State) (st : Nat) : State :=
  let job := s.crerus.susp.find? Job.entering
  let s := match job with
    | some j => s.finish j 0 []
    | none => s
  let s := ((s.set R.PWR_STATE_ENTRY 0).setPstate st).set R.PWR_ACK 0
  let s := if s.on 10 then s.set R.HIF_STATUS_ENTRY_PENDING 0 else s
  let s := s.inc (if st = 3 then R.PWR_ENTRIES_SLEEP else R.PWR_ENTRIES_HOLD)
  { s with pwr := { s.pwr with entry := none, job := none } }.quiesce 1 1

/-- The entry goes on by one stage: the strand domains once no resync, split or join runs (R479), the work still due, PD11
and the flash, the reply. -/
def State.entryStep (s : State) (st : Nat) : State :=
  if !s.coresStopped || s.plyBusy then s
  else if [3, 4, 5].any s.on then [3, 4, 5].foldl (fun s d => s.quiesce d 1) s
  else if [3, 4, 5].any s.domLive || !s.served then s
  else if !s.jrnlClean then s.jrnlPush
  else
    let s := { s with pwr := { s.pwr with noFlash := true } }
    if s.on 11 then s.quiesce 11 0
    else if s.domLive 11 || s.flashBusy then s
    else s.entryReply st

/-- POWER_ENTRY_CONTINUE (R484). -/
def execPowerEntryContinue (s : State) : Out :=
  .next (match s.pwr.entry with
    | some st => s.entryStep st
    | none => s)

/-! ### Domains that come up (R478, R489) -/

/-- PD6 after SLEEP takes the ICU back, and its frames answer with the fields marked D loaded, their EN bits clear until
the Loom is configured at the end of the exit (R68, R99, R139, R265, R489); after a loss it is configured as at boot
(R508, R509). -/
def State.loomUp (s : State) : State :=
  if s.icu.saved.isSome then s.icuRestore.loomFields s.crerus.bootDraft false
  else s.configureLoom s.crerus.bootDraft true false

/-- A domain whose contents were lost takes its fuse and Draft values. -/
def State.loadDomain (s : State) (d : Nat) : State :=
  let s := (s.fuseFields d).domainLoads d
  if d = 6 then s.loomUp else s

/-- Domain `d` reaches ON. -/
def State.domainUp (s : State) (d : Nat) : State :=
  let s := s.set (R.PWR_DOM d) 3
  let s : State := if d ∈ s.pwr.retained then { s with pwr := { s.pwr with retained := without s.pwr.retained d } } else s.loadDomain d
  let s := if d = 11 then s.formKeys else s
  let s := { s with pwr := { s.pwr with leanOff := without s.pwr.leanOff d } }.bypassCheck
  if s.asleep && !s.flag R.PWR_STATE_EXIT then s else s.bringUp

/-- DOMAIN_POWER_UP_COMPLETE (R478). -/
def execDomainPowerUpComplete (d : Fin 12) (s : State) : Out := .next (if s.domIs d 2 then s.domainUp d else s)

/-! ### The end of an exit (R487, R489) -/

/-- Every domain that RUN holds ON has come up. -/
def State.allUp (s : State) : Bool := !(List.range 12).any s.coming

/-- The exit ends: from SLEEP the Loom is configured, then RUN, ICU 145, and the cores go on. -/
def State.endExit (s : State) : State :=
  let s := if s.get R.PWR_STATE_PSTATE = 3 then s.configureLoom s.crerus.bootDraft false false else s
  (((s.setPstate 0).set R.PWR_STATE_EXIT 0).raise 145).freeCores

/-- POWER_EXIT_COMPLETE (R487). -/
def execPowerExitComplete (s : State) : Out :=
  .next (if s.flag R.PWR_STATE_EXIT && s.allUp then s.endExit else s)

end Sys2Proof.Machine
end

