-- ==== Sys2Proof/Machine/BootRows.lean ====
section
/-!
DEFINITION. The causes of a SYS reset, its release with the boot sequence, and the restart of the Ply (R171, R183, R461,
R499 to R512, R537, R538).
-/

namespace Sys2Proof.Machine

/-! ### Causes (R499, R500, R538) -/

/-- An operation of flash is cut off by a reset that does not wait (R406, R500). -/
def State.cutFlash (s : State) : State :=
  let cut (s : State) (o : Option FlashOp) : State := match o with
    | some o => s.flashTorn o
    | none => s
  cut (cut s s.flash.op0) s.flash.op1

/-- Power returns with PD0 unpowered: an AON reset. The fuses and the flash are all that stays; the response of R384 is
in force, and its record is owed. -/
def State.aonReset (s : State) : State :=
  let s := s.cutFlash
  ({ pending := s.pending, free := s.free, fuse := s.fuse, flash := { corr := s.flash.corr, unc := s.flash.unc }
     custody := { recordDue := true }
     mem := s.mem.filter fun x => decide (0x10000000 ≤ x.1) && decide (x.1 < 0x10800000) } : State).set R.WRP_STAT_BYPASS 1

/-- The main supply returns while PD0 runs on VBAT (Table 23.1). -/
def State.batteryReturn (s : State) : State := (s.sysReset [0]).set R.TMP_STAT_ONVBAT 0

/-- POWER_ON_RESET (R384, R499, R521): where PD0 has lost both its supplies, reset domain AON is reset. -/
def execPowerOnReset (s : State) : Out :=
  .next (if s.flag R.TMP_STAT_ONVBAT && s.on 0 then s.batteryReturn else s.aonReset)

/-- BROWN_OUT (R538): VDD, VDDPLL, VDDA, VDDIO_A or VDDIO_B. -/
def execBrownOut (supply : Fin 5) (s : State) : Out := .next (s.cutFlash.sysReset [1 + supply.val])

/-- RESET_PIN (R499). -/
def execResetPin (s : State) : Out := .next (s.cutFlash.sysReset [6])

/-- SOFTWARE_RESET (R499): only its key, and never from DMA. -/
def execSoftwareReset (q : Who) (v : Word) (s : State) : Out :=
  .next (s.via q.req 0 fun s => if v.toNat = 0x52A7 ∧ q.req ≠ .dma then s.askReset 7 else s)

/-! ### Strand release (R171, R510) -/

/-- The boot mode: TRIPLE where it is forced, else BOOTMODE, whose 3 acts as 0. -/
def State.bootMode (s : State) : Nat :=
  let m := s.get R.PLY_CFG_BOOTMODE
  if s.flag R.PLY_MODE_FORCED || decide (m = 3) then 0 else m

/-- A word of the BOOT block. -/
def Draft.bootWord4 (d : Draft) (o : Nat) : Nat := fieldOf d.boot o 4

/-- The images of the boot Draft pass their digest, and no word of them is uncorrectable. -/
def State.imagesGood (s : State) (d : Draft) : Bool :=
  let ia := d.bootWord4 0
  let il := d.bootWord4 4
  let da := d.bootWord4 8
  let dl := d.bootWord4 12
  decide (sha384 (s.rdBytes ia il ++ s.rdBytes da dl) = cut d.boot 24 48) && !s.eccBad ia il && !s.eccBad da dl

/-- Both TCMs of strand `k` below the sealed partition take the images, and zeros above them. -/
def State.loadStrand (s : State) (d : Draft) (k : Nat) : State :=
  let top := 0x20000 - s.spBytes
  let s := (s.wipe (itcmKey k 0) (itcmKey k top)).wipe (dtcmKey k 0) (dtcmKey k top)
  (s.wrBytes (itcmKey k 0) (s.rdBytes (d.bootWord4 0) (d.bootWord4 4))).wrBytes (dtcmKey k 0)
    (s.rdBytes (d.bootWord4 8) (d.bootWord4 12))

/-- A logical core is released: the reset entry has run its 6 cycles, and a halt asked for before waits (R455, R510). -/
def State.releaseCore (s : State) (c pc : Nat) : State :=
  s.updCore c fun k => { startCore pc with cycle := 6, haltReq := k.haltReq }

/-- The address a core starts at: the reset entry's for the group or strand A, the Draft's PLY_BSTART or PLY_CSTART for
an independent strand (R171). -/
def State.entryPc (s : State) (c : Nat) : Nat :=
  4 * (if c = 0 then s.get R.RST_ASTART
    else s.crerus.bootDraft.value (if c = 1 then R.PLY_BSTART else R.PLY_CSTART))

/-- The logical cores of the mode in force are released; a retired strand that stands alone stays held (R175). -/
def State.releaseCores (s : State) : State :=
  ([0, 1, 2].filter fun c => s.coreExists c && !(s.standsAlone c && decide (s.get R.PLY_STATUS_RETIRED = c))).foldl
    (fun s c => s.releaseCore c (s.entryPc c)) s

/-- The mode is set; with a strand image the images are loaded and checked and the cores released, and the sealed load of
`cause` begins. -/
def State.releasePly (s : State) (cause : Nat) : State :=
  let d := s.crerus.bootDraft
  let m := s.bootMode
  let s := s.set R.PLY_MODE_CUR m
  if d.bootWord4 4 = 0 then s
  else
    let s := [3, 4, 5].foldl (fun s k => if s.domIs k 5 then s else (s.set (R.PWR_DOM k) 3).loadDomain k) s
    let good := s.imagesGood d
    let s := [0, 1, 2].foldl (fun s k => s.loadStrand d k) s
    if good then (s.beginLoad cause).releaseCores else (s.set R.RST_BOOT_IMGFAIL 1).journal 510 []

/-- The strand domains have gone OFF and lost what they held before a restart of the Ply. -/
def State.plyClear (s : State) : State :=
  let s := [3, 4, 5].foldl (fun s d => if s.domIs d 5 then s else (s.set (R.PWR_DOM d) 0).loseDomain d) s
  { s with core := Vector.replicate 3 {}
           pwr := { s.pwr with quiet := s.pwr.quiet.filter fun x => !(decide (3 ≤ x.1) && decide (x.1 ≤ 5)) }
           ply := { s.ply with fault := false, copied := false, joinTcm := false, wdHalf := [], scrub := 0 }
           trip := { s.trip with ply := false } }

/-- The debug state a restart of the Ply leaves: no core halted, and the breakpoints of the cores that exist. -/
def State.plyDebug (s : State) : State :=
  let s := (s.set R.DBG_STAT_HALTED 0).set R.DBG_STAT_PEND 0
  (List.range 8).foldl (fun s i =>
    if s.coreExists (s.get (R.DBG_BP_CFG_CORE i)) then s else s.set (R.DBG_BP_CFG_EN i) 0) s

/-- A strand that is not retired has a domain that cannot be switched on. -/
def State.strandDead (s : State) : Bool :=
  [0, 1, 2].any fun k => s.domIs (3 + k) 5 && decide (s.get R.PLY_STATUS_RETIRED ≠ k)

/-- The Ply restarts in its boot mode (R183): retirement stays (R175). -/
def State.plyRestart (s : State) : State :=
  let s := [R.PLY_STATUS_EXPOSED, R.PLY_STATUS_JOINING, R.PLY_STATUS_SPLITTING, R.PLY_STATUS_RESYNC, R.PLY_STATUS_WAITB,
    R.PLY_STATUS_WAITC].foldl (fun s f => s.set f 0) s.plyClear
  let s := if s.on 6 then s.icuRestart else s
  (s.releasePly 4).plyDebug

/-- PLY_RESTART_RELEASE (R183, R184): once vendor firmware runs. -/
def execPlyRestartRelease (s : State) : Out :=
  .next (if s.ply.fault && s.crerus.alive && s.on 1 && s.on 6 && s.on 8 && !s.strandDead then s.plyRestart else s)

/-! ### Boot (R461, R503 to R512) -/

/-- Steps 1 and 2: the causes, the fuse shadow, and the PLL on RC. -/
def State.bootStart (s : State) (margin : Nat) (bootsel : Bool) : State :=
  let r := s.rst
  let s := (s.set R.RST_CAUSE_CAUSE (r.causes.foldl (fun n c => n ||| 2 ^ c) 0)).setB R.RST_CAUSE_AON r.aon
  let s := if r.aon then s else s.inc R.RST_COUNT
  let s : State := { s with rst := { asserted := false, aon := false, causes := [], waiting := [] } }
  let s := (s.setB R.RST_BOOT_BOOTSEL bootsel).loadShadow margin
  let s := (if r.aon then s.fusedPads else s).set R.CLK_STAT_LOCK 1
  (s.set R.CLK_STAT_ACTIVE 2).set R.RST_BOOT_STEP 2

/-- Step 3: a transition in progress is taken up again; it ends in a SYS reset (R424). -/
def State.bootResume (s : State) (slot : Nat) : State :=
  let j := s.openStep slot
  let s : State := { s with lc := { s.lc with slot := some slot, step := j } }
  (((s.set R.LCS_PROG_INPROG 1).set R.LCS_PROG_SLOT slot).set R.LCS_PROG_STEP j).set R.LCS_PROG_RESUMED 1

/-- Step 4: PD1, PD2 and PD8 to PD11 come up; PD6 and PD7 are held UP; the class of VDDIO_A is latched (R537). -/
def State.bootDomains (s : State) (vioa33 : Bool) : State :=
  let s := [1, 2, 8, 9, 10, 11].foldl (fun s d => s.set (R.PWR_DOM d) 3) s
  (((s.set (R.PWR_DOM 6) 2).set (R.PWR_DOM 7) 2).setB R.GPIO_IOSTAT vioa33).set R.RST_BOOT_STEP 4

/-- BOOTSEL keeps both Draft slots out (R504). -/
def State.bootselActs (s : State) : Bool := s.flag R.RST_BOOT_BOOTSEL && decide (s.lcState ≠ 4) && decide (s.lcState ≠ 7)

/-- The boot Draft of a slot. -/
def State.useDraft (s : State) (n : Nat) (d : Draft) : State :=
  let s := (s.set R.RST_BOOT_DRAFTSLOT n).set R.RST_DSEQ d.seq
  { s with crerus := { s.crerus with bootDraft := d, work := d, draftSlot := n } }

/-- Step 6: the Draft is chosen (R507, R512). -/
def State.bootDraft (s : State) : State :=
  if s.bootselActs then (s.useDraft 2 {}).set R.RST_BOOT_DEFAULT 1
  else
    let s := (s.set R.RST_BOOT_DAFAIL (s.slotChecked 0)).set R.RST_BOOT_DBFAIL (s.slotChecked 1)
    match s.newestDraft with
    | some n => s.useDraft n (s.slotDraft n)
    | none => ((s.useDraft 2 {}).set R.RST_BOOT_DEFAULT 1).advise 8

/-- Step 6: the entries of the frames in PD0, PD2, PD8, PD9 and PD10, and the start address (R508). -/
def State.bootLoads (s : State) : State :=
  let d := s.crerus.bootDraft
  let s := [0, 2, 8, 9, 10, 1, 11].foldl (fun s k => s.domainLoads k) s
  ((s.set R.RST_ASTART (d.bootWord4 16 / 4)).bypassCheck).set R.RST_BOOT_STEP 6

/-- Step 7: the PLL takes the reference INITSEL names where it is fitted and `refs` says that it runs; else it stays on
RC, which keeps the advisory (R461, R473). -/
def State.bootPll (s : State) (refs : Nat) : State :=
  let i := s.get R.CLK_CFG_INITSEL
  let a := if i < 3 ∧ s.clkFitted i = true ∧ refs.testBit i = true then i else 2
  let s := (s.set R.CLK_STAT_ACTIVE a).setB R.CLK_STAT_ONRC (decide (a = 2))
  if a = 2 then s.advise 3 else s

/-- Steps 8 and 9: PD7 and PD6 come ON, and the Loom is configured and starts (R509). -/
def State.bootLoom (s : State) : State :=
  let s := ((s.set (R.PWR_DOM 7) 3).domainLoads 7).set (R.PWR_DOM 6) 3
  (s.configureLoom s.crerus.bootDraft true true).set R.RST_BOOT_STEP 9

/-- Step 10: strand release; the time it took is open (R510). -/
def State.bootStrands (s : State) : State :=
  let (n, s) := (s.releasePly 1).freeN
  (s.set R.RST_BOOTUS n).set R.RST_BOOT_STEP 10

/-- Boot from step 4 on. A scrapped part serves MB0 alone: it configures no Loom and releases no strand (R425). -/
def State.bootOn (s : State) (vioa33 : Bool) (refs : Nat) : State :=
  let s := s.bootDomains vioa33
  if s.lcState = 7 then { s with crerus := { s.crerus with recovery := true } }.bypassCheck
  else ((((s.fwChoose.set R.RST_BOOT_STEP 5).bootDraft.bootLoads).bootPll refs).bootLoom).bootStrands

/-- The reset is released, and boot runs. -/
def State.release (s : State) (margin : Nat) (bootsel vioa33 : Bool) (refs : Nat) : State :=
  let s := s.bootStart margin bootsel
  match s.openSlot with
  | some slot => s.bootResume slot
  | none => s.bootOn vioa33 refs

/-- RESET_RELEASE (R500, R503): the margin disagreements of the fuse read, the levels of BOOTSEL and VDDIO_A, and the
references that run. -/
def execResetRelease (margin : BitVec 16) (bootsel vioa33 : Bool) (refs : BitVec 3) (s : State) : Out :=
  .next (if s.rst.asserted then s.release margin.toNat bootsel vioa33 refs.toNat else s)

end Sys2Proof.Machine
end

