-- ==== Sys2Proof/Machine/BusOps.lean ====
section
/-!
DEFINITION. The bus address space of the DMA engine and of the debug port (Table 13.1, R279, R439): which target an
address names, and one access to it.
-/

namespace Sys2Proof.Machine

/-- How an access is answered: by the target, or refused before it is issued (R269). `wait` is a read of flash
bank 0 that waits for an operation to end (R282). -/
inductive BusAns where
  | ok | busErr | absent | retry | unmapped | world | readonly | wait
deriving DecidableEq, Repr

/-- The answer a response code stands for. -/
def RespCode.ans : RespCode → BusAns
  | .ok => .ok
  | .busErr => .busErr
  | .retry => .retry
  | .absent => .absent

/-- What an address names (Table 13.1; the I-TCM of core A for the debug port alone). -/
inductive BusTarget where
  | dtcm (k off : Nat) | itcm (off : Nat) | flash0 | flash1 | sram | io (a : Nat) | none
deriving DecidableEq, Repr

/-- The target of a bus address. -/
def busTarget (a : Nat) : BusTarget :=
  if a < 0x20000 then .dtcm 0 a
  else if 0x100000 ≤ a ∧ a < 0x120000 then .dtcm 1 (a - 0x100000)
  else if 0x200000 ≤ a ∧ a < 0x220000 then .dtcm 2 (a - 0x200000)
  else if 0x400000 ≤ a ∧ a < 0x420000 then .itcm (a - 0x400000)
  else if 0x10000000 ≤ a ∧ a < 0x10400000 then .flash0
  else if 0x10400000 ≤ a ∧ a < 0x10800000 then .flash1
  else if sramBase ≤ a ∧ a < sramEnd then .sram
  else if 0x40000000 ≤ a ∧ a < 0x4001E000 then .io (a - 0x40000000)
  else .none

/-- A hand-over closes the window of strand `k` (R279). -/
def State.handsOver (s : State) (k : Nat) : Bool :=
  let ks := handStrands (s.get R.PLY_MODE_CUR) s.ply.target
  (s.flag R.PLY_STATUS_SPLITTING && decide (k ∈ ks))
    || (s.flag R.PLY_STATUS_JOINING && (decide (k = 0) || decide (k ∈ ks)))

/-- The answer of a TCM of strand `k` at offset `off`: the windows of a group's strands are not available, and the
sealed partition only to `smem`. -/
def State.tcmAns (s : State) (smem : Bool) (k off : Nat) : BusAns :=
  if k ≠ 0 ∧ s.standsAlone k = false then .unmapped
  else if s.sealedTcm off && !smem then .world
  else if s.handsOver k then .retry
  else if !s.coreOn k then (s.offCode (3 + k)).ans
  else .ok

/-- The answer of the system SRAM bank that holds `a` (R492). -/
def State.sramAns (s : State) (a : Nat) : BusAns :=
  if !s.on 8 then (s.offCode 8).ans
  else if s.bit R.PWR_SRAM_OFF ((a - sramBase) / 0x40000) then .absent
  else .ok

/-- The answer of a flash bank to a read (R282). -/
def State.flashAns (s : State) (b : Nat) : BusAns :=
  if !s.on 2 then (s.offCode 2).ans else if (s.flashOp b).isSome then .wait else .ok

/-- `n` bytes at offset `off` of a TCM as core `k` reads them. -/
def State.tcmBytes (s : State) (key : Nat → Nat → Nat) (k off n : Nat) : Nat :=
  leNat ((List.range n).map fun i => (s.tcmByte key k (off + i)).toNat)

/-- Write `n` bytes at offset `off` of a TCM in every copy core `k` owns. -/
def State.tcmWrite (s : State) (key : Nat → Nat → Nat) (k off n v : Nat) : State :=
  ((List.range n).zip (toLE n v)).foldl (fun s x => s.tcmPut key k (off + x.1) (BitVec.ofNat 8 x.2)) s

/-- A read of the I/O space of one word, or of two for 8 bytes, low word first (R275). -/
def State.busIoRead (s : State) (q : Req) (a n : Nat) (quiet : Bool) : BusAns × Nat × State :=
  let s := s.ioRead q a quiet
  let r := s.resp.at (reqIdx q)
  if n ≤ 4 ∨ r.code ≠ .ok then (r.code.ans, r.data, s)
  else
    let s := s.ioRead q (a + 4) quiet
    let h := s.resp.at (reqIdx q)
    (h.code.ans, r.data + 2 ^ 32 * h.data, s)

/-- A write of the I/O space of one word, or of two for 8 bytes, low word first (R275). -/
def State.busIoWrite (s : State) (q : Req) (a n v : Nat) : BusAns × State :=
  let w : Who := { req := q, sealedW := false }
  let s := s.ioWrite w a (v % 2 ^ 32)
  let r := s.resp.at (reqIdx q)
  if n ≤ 4 ∨ r.code ≠ .ok then (r.code.ans, s)
  else
    let s := s.ioWrite w (a + 4) (v / 2 ^ 32)
    ((s.resp.at (reqIdx q)).code.ans, s)

/-- A read of flash: ECC corrects, or answers a bus error; a QUIET read counts nothing (R397). -/
def State.busFlash (s : State) (b a n : Nat) (quiet : Bool) : BusAns × Nat × State :=
  match s.flashAns b with
  | .ok =>
    let (bad, t) := s.eccRead a
    let s := if quiet then s else t
    if bad then (.busErr, 0, s) else (.ok, s.bytes a n, s)
  | x => (x, 0, s)

/-- A read of `n` bytes at `a` by the DMA engine or the debug port; `smem` opens what Table 20.3 gives SMEM. -/
def State.busRead (s : State) (q : Req) (smem : Bool) (a n : Nat) (quiet : Bool) : BusAns × Nat × State :=
  match busTarget a with
  | .dtcm k off =>
    let r := s.tcmAns smem k off
    (r, if r = .ok then s.tcmBytes dtcmKey k off n else 0, s)
  | .itcm off =>
    if q ≠ .debug then (.unmapped, 0, s)
    else
      let r := s.tcmAns smem 0 off
      (r, if r = .ok then s.tcmBytes itcmKey 0 off n else 0, s)
  | .flash0 => s.busFlash 0 a n quiet
  | .flash1 => if smem then s.busFlash 1 a n quiet else (.world, 0, s)
  | .sram =>
    let r := s.sramAns a
    (r, if r = .ok then s.bytes a n else 0, s)
  | .io x => s.busIoRead q x n quiet
  | .none => (.unmapped, 0, s)

/-- A write of `n` bytes at `a` by the DMA engine or the debug port: the reservations on the granule go (R280). -/
def State.busWrite (s : State) (q : Req) (smem : Bool) (a n v : Nat) : BusAns × State :=
  match busTarget a with
  | .dtcm k off =>
    let r := s.tcmAns smem k off
    (r, if r = .ok then (s.tcmWrite dtcmKey k off n v).dropRes none (dtcmKey k off) else s)
  | .itcm _ => (if q = .debug then .readonly else .unmapped, s)
  | .flash0 => (.readonly, s)
  | .flash1 => (if smem then .readonly else .world, s)
  | .sram =>
    let r := s.sramAns a
    (r, if r = .ok then (s.setBytes a n v).dropRes none a else s)
  | .io x => s.busIoWrite q x n v
  | .none => (.unmapped, s)

end Sys2Proof.Machine
end

