-- ==== Sys2Proof/Machine/DebugRows.lean ====
section
/-!
DEFINITION. The test access port, the debug bus port, authorisation, halts, steps, register accesses and bursts
(chapter 20). A row of the TAP selects its instruction; a row of DBGAP or DBGAUTH is one scan of its register.
-/

namespace Sys2Proof.Machine

/-! ### The TAP (R435 to R437) -/

/-- Select an instruction, with the data register it captures. -/
def State.select (s : State) (ir dr : Nat) : State := { s with dbg := { s.dbg with ir := ir, dr := dr } }

/-- Select an instruction of boundary scan: where it is not available it acts as BYPASS (R435, Table 20.3). -/
def State.selectScan (s : State) (ir : Nat) (f : State → State) : State :=
  if s.flag R.DBG_AUTH_BSCAN then f (s.select ir 0) else s.select 0x1F 0

/-- What a covered output carries that the part would drive to `l` (R437): its cell of the boundary register under EXTEST
and CLAMP, nothing under HIGHZ. `b` numbers the ball. -/
def State.carried (s : State) (b : Nat) (l : Level) : Level :=
  match s.dbg.ir with
  | 0x00 | 0x03 => if s.dbg.boundary.getD (Config.scanCell b) false then .high else .low
  | 0x04 => .hiz
  | _ => l

/-- The ball of output A or B of pair `p`: under boundary scan neither the trip path nor a safe state reaches it (R437). -/
def State.pwmBall (s : State) (p : Nat) (outB : Bool) : Level := s.carried (2 * p + b2n outB) (s.ballLevel p outB)

/-- The ball of GPIO `n` (R437, R523). -/
def State.gpioBall (s : State) (n : Nat) : Level := s.carried (24 + n) (s.gpioDrive n)

/-- DBGSTAT as it captures (R436). -/
def State.dbgStat (s : State) : Nat :=
  0x71440000 + s.lcState * 2 ^ 12 + s.get R.DBG_AUTH_GRANTED * 2 ^ 11 + s.get R.DBG_AUTH_SCTRL * 2 ^ 10
    + s.get R.DBG_AUTH_SMEM * 2 ^ 9 + s.get R.DBG_AUTH_BSCAN * 2 ^ 8 + s.get R.DBG_AUTH_RESULT

/-- TAP_RESET (R435): IDCODE is selected; authority, halts and breakpoints stay. -/
def execTapReset (s : State) : Out := .next (s.select 0x02 0)

/-- JTAG_EXTEST (R437): the boundary register takes `b` and drives the covered outputs. -/
def execJtagExtest (b : List Bool) (s : State) : Out :=
  .next (s.selectScan 0x00 fun s => { s with dbg := { s.dbg with boundary := b } })

/-- JTAG_SAMPLE_PRELOAD (R435): what the balls carry is captured, and the boundary register takes `b`. -/
def execJtagSamplePreload (b : List Bool) (s : State) : Out :=
  .next (s.selectScan 0x01 fun s =>
    let (n, s) := s.freeN
    { s with dbg := { s.dbg with boundary := b, dr := n } })

/-- JTAG_IDCODE (R436). -/
def execJtagIdcode (s : State) : Out := .next (s.select 0x02 0x27144001)

/-- JTAG_CLAMP (R437). -/
def execJtagClamp (s : State) : Out := .next (s.selectScan 0x03 id)

/-- JTAG_HIGHZ (R437). -/
def execJtagHighz (s : State) : Out := .next (s.selectScan 0x04 id)

/-- JTAG_DBGSTAT (R436). -/
def execJtagDbgstat (s : State) : Out := .next (s.select 0x0A s.dbgStat)

/-- JTAG_BYPASS (R435). -/
def execJtagBypass (s : State) : Out := .next (s.select 0x1F 0)

/-! ### DBGAP (R438 to R440) -/

/-- Registers the debug port reaches in every state (R418, R440). -/
def dbgAlways (a : Nat) : Bool :=
  match busTarget a with
  | .io x => decide (x = 0x0) || decide (x = 0x4) || decide (x ∈ [0x20, 0x24, 0x28, 0x2C]) || decide (x / 0x1000 = 0x1B)
      || decide (x / 0x1000 = 0x1C)
  | _ => false

/-- The operation lies within the authority of Table 20.3, but for the memories SMEM opens. -/
def State.dbgMay (s : State) (a : Nat) : Bool := dbgAlways a || s.dbgOpen

/-- SMEM authority. -/
def State.dbgSmem (s : State) : Bool := s.flag R.DBG_AUTH_SMEM

/-- The ACK of an answer (R438): 0 OK, 1 WAIT, 2 FAULT, 3 DENIED. Whether a target that answers RETRY does so past
the limit is open. -/
def State.dbgAck (s : State) (r : BusAns) : Nat × State :=
  match r with
  | .ok => (0, s)
  | .wait => (1, s)
  | .retry => (let (b, s) := s.freeB; (if b then 2 else 1, s))
  | .world => (3, s)
  | _ => (2, s)

/-- Record the ACK and data of an operation; one that has not completed stays in hand. -/
def State.dbgDone (s : State) (o : DbgOp) (r : BusAns) (d : Nat) : State :=
  let (k, s) := s.dbgAck r
  { s with dbg := { s.dbg with ack := k, data := d, op := if k = 1 then some o else none } }

/-- A scan of DBGAP captures the result of the operation before (Table 20.2). -/
def State.capture (s : State) : State := s.select 0x08 (s.dbg.ack + s.dbg.data * 2 ^ 37)

/-- An operation outside the authority is answered DENIED (R440). -/
def State.denied (s : State) : State := { s with dbg := { s.dbg with ack := 3, op := none } }

/-- One READ of the debug port. -/
def State.dbgRead (s : State) (act : Bool) (a : Nat) : State :=
  let a := a / 4 * 4
  if !s.dbgMay a || s.rst.asserted then s.denied
  else
    let (r, v, s) := s.busRead .debug s.dbgSmem a 4 !act
    s.dbgDone { active := act, addr := a } r (if r = .ok then v else s.dbg.data)

/-- The writes of a burst in order; a response other than OK stops it (R452). -/
def State.burst : List Nat → State → State
  | [], s => s.set R.DBG_BURSTCTL_DONE 1
  | n :: r, s =>
    let a := s.get (R.DBG_BURST_ADDR n) / 4 * 4
    let ok := s.dbgMay a
    let (x, s) := if ok then s.busWrite .debug s.dbgSmem a 4 (s.get (R.DBG_BURST_DATA n)) else (.world, s)
    if x = .ok then State.burst r s else (s.set R.DBG_BURSTCTL_ERR 1).set R.DBG_BURSTCTL_DONE 1

/-- The number of writes COUNT asks for: 0 acts as 1, 5 to 7 as 4. -/
def burstCount (n : Nat) : Nat := if n = 0 then 1 else min n 4

/-- A write of DBG_BURSTCTL (R452). -/
def State.burstGo (s : State) (v : Nat) : State :=
  let s := s.set R.DBG_BURSTCTL_COUNT (v % 8)
  if v.testBit 8 then
    State.burst (List.range (burstCount (v % 8))) ((s.set R.DBG_BURSTCTL_DONE 0).set R.DBG_BURSTCTL_ERR 0)
  else s

/-- One WRITE of the debug port. -/
def State.dbgWrite (s : State) (a v : Nat) : State :=
  let a := a / 4 * 4
  if !s.dbgMay a || s.rst.asserted then s.denied
  else
    let o : DbgOp := { write := true, addr := a, val := v }
    if a = 0x4001B0A0 then (s.burstGo v).dbgDone o .ok s.dbg.data
    else
      let (r, s) := s.busWrite .debug s.dbgSmem a 4 v
      s.dbgDone o r s.dbg.data

/-- The operation that has not completed is tried once more. -/
def State.dbgRetry (s : State) : State :=
  match s.dbg.op with
  | none => s
  | some o => if o.write then s.dbgWrite o.addr o.val else s.dbgRead o.active o.addr

/-- A scan of DBGAP (R438): it captures the result of the operation before, and while that has not completed the update is
discarded. -/
def State.apScan (s : State) (f : State → State) : State :=
  let s := s.dbgRetry.capture
  if s.dbg.op.isSome then s else f s

/-- DBGAP_READ (R438, R445). -/
def execDbgapRead (act : Bool) (a : BitVec 32) (s : State) : Out := .next (s.apScan fun s => s.dbgRead act a.toNat)

/-- DBGAP_WRITE (R438). -/
def execDbgapWrite (a v : BitVec 32) (s : State) : Out := .next (s.apScan fun s => s.dbgWrite a.toNat v.toNat)

/-- DBGAP_NOP (R438). -/
def execDbgapNop (s : State) : Out :=
  .next (s.apScan fun s => { s with dbg := { s.dbg with ack := 0 } })

/-! ### DBGAUTH (R441 to R444) -/

/-- DBGAUTH operates: in FIELD alone. -/
def State.authOn (s : State) : Bool := decide (s.lcState = 4)

/-- A scan of DBGAUTH captures BUSY and the word read; 0 outside FIELD (R441). An operation acts while no check
runs. -/
def State.authScan (s : State) (f : State → State) : State :=
  let s := s.select 0x09 (if s.authOn then b2n s.dbg.checking + 4 * s.dbg.chalOut else 0)
  if s.authOn && !s.dbg.checking && !s.rst.asserted then f s else s

/-- The challenge (R441). -/
def State.challenge (s : State) : List Nat :=
  s.devId ++ padTo 32 (s.dbg.nonce.getD []) ++ [s.lcState, s.get R.DBG_AUTH_FAILS] ++ List.replicate 14 0

/-- DBGAUTH_READ_CHALLENGE (R441). -/
def execDbgauthReadChallenge (s : State) : Out :=
  .next (s.authScan fun s =>
    { s with dbg := { s.dbg with chalOut := fieldOf s.challenge (4 * s.dbg.chal) 4, chal := s.dbg.chal + 1 } })

/-- DBGAUTH_WRITE_CERTIFICATE (R441). -/
def execDbgauthWriteCertificate (w : Word) (s : State) : Out :=
  .next (s.authScan fun s =>
    if s.dbg.cert.length < 64 then { s with dbg := { s.dbg with cert := s.dbg.cert ++ [w.toNat] } } else s)

/-- NEWCHAL (R441): with no DRBG there is no nonce. -/
def State.newChallenge (s : State) : State :=
  let (n, s) := if s.custody.drbg && s.on 11 then (let (l, s) := s.drbgBytes 32 false; (some l, s)) else (none, s)
  { s with dbg := { s.dbg with nonce := n, chal := 0, cert := [] } }

/-- DBGAUTH_NEWCHAL (R441). -/
def execDbgauthNewchal (s : State) : Out := .next (s.authScan State.newChallenge)

/-- SUBMIT (R441, R443): RESULT reads BUSY until the check ends. -/
def State.submit (s : State) : State :=
  let s := s.set R.DBG_AUTH_RESULT 8
  if s.custody.drbg && s.on 11 then { s with dbg := { s.dbg with checking := true } }
  else { s with dbg := { s.dbg with nonce := none } }

/-- DBGAUTH_SUBMIT (R443). -/
def execDbgauthSubmit (s : State) : Out := .next (s.authScan State.submit)

/-- The certificate's bytes. -/
def State.certBytes (s : State) : List Nat := s.dbg.cert.flatMap (toLE 4)

/-- The result of the check (R443). -/
def State.certResult (s : State) : Nat :=
  let b := s.certBytes
  let key := fuseBytes s.shadow 203 12
  if 3 ≤ s.get R.DBG_AUTH_FAILS then 7
  else if s.dbg.cert.length < 64 ∨ fieldOf b 0 4 ≠ 0x54524344 ∨ fieldOf b 4 2 ≠ 1 ∨ fieldOf b 60 4 ≠ 0
      ∨ fieldOf b 6 2 % 2 = 0 ∨ 4 ≤ fieldOf b 6 2 then 2
  else if cut b 8 16 ≠ s.devId then 3
  else if s.dbg.nonce ≠ some (cut b 24 32) then 4
  else if allZero key then 9
  else if sha384 (cut b 64 96) ≠ key then 5
  else if !Config.ecdsaVerify (cut b 64 96) (cut b 0 160) (cut b 160 96) then 6
  else 1

/-- The check ends (R443): the nonce is used up, and a grant takes SCOPE and LIFETIME. -/
def State.certDone (s : State) : State :=
  let r := s.certResult
  let b := s.certBytes
  let s := (s.set R.DBG_AUTH_RESULT r).journal 443 (r :: s.devId)
  let s := { s with dbg := { s.dbg with checking := false, nonce := none } }
  if r = 1 then
    let life := fieldOf b 56 4
    let s := (s.set R.DBG_AUTH_GRANTED 1).dbgAuthority ((fieldOf b 6 2).testBit 1)
    { s with dbg := { s.dbg with grantEnd := if life = 0 then none else some (s.time.rtc.toNat + 1000000 * life) } }
  else if r = 7 then s
  else s.set R.DBG_AUTH_FAILS (satN 255 (s.get R.DBG_AUTH_FAILS + 1))

/-- DEBUG_CERT_CHECK_DONE (R443). -/
def execDebugCertCheckDone (s : State) : Out := .next (if s.dbg.checking && s.crerus.alive then s.certDone else s)

/-- DEBUG_GRANT_EXPIRY (R444): LIFETIME has passed on RTC. -/
def execDebugGrantExpiry (s : State) : Out :=
  .next (match s.dbg.grantEnd with
    | some t => if t ≤ s.time.rtc.toNat then s.endGrant else s
    | none => s)

/-- DEBUG_REVOKE (R444): a write of DBG_AUTH with REVOKE set. -/
def execDebugRevoke (s : State) : Out := .next (s.apScan fun s => s.dbgWrite 0x4001B004 0x10)

/-! ### Halts, steps and registers (R447, R451, R452, R454) -/

/-- DEBUG_HALT_REQUEST (R447): a write of DBG_CTRL. -/
def execDebugHaltRequest (v : Word) (s : State) : Out := .next (s.apScan fun s => s.dbgWrite 0x4001B008 v.toNat)

/-- DEBUG_HALT (R447). -/
def execDebugHalt (c : Fin 3) (s : State) : Out := .next (s.haltNow c)

/-- DEBUG_HALT_DEFERRAL_EXPIRY (R451). -/
def execDebugHaltDeferralExpiry (c : Fin 3) (s : State) : Out := .next (s.deferralEnds c)

/-- DEBUG_RESUME (R447): a write of DBG_CTRL. -/
def execDebugResume (v : Word) (s : State) : Out := .next (s.apScan fun s => s.dbgWrite 0x4001B008 v.toNat)

/-- DEBUG_STEP (R447): a write of DBG_CTRL. -/
def execDebugStep (v : Word) (s : State) : Out := .next (s.apScan fun s => s.dbgWrite 0x4001B008 v.toNat)

/-- DEBUG_REGISTER_ACCESS (R454): a read of DBG_REGDATA, or a write of `v`. -/
def execDebugRegisterAccess (w : Bool) (v : Word) (s : State) : Out :=
  .next (s.apScan fun s => if w then s.dbgWrite 0x4001B024 v.toNat else s.dbgRead false 0x4001B024)

/-- DEBUG_BURST (R452): a write of DBG_BURSTCTL. -/
def execDebugBurst (v : Word) (s : State) : Out := .next (s.apScan fun s => s.dbgWrite 0x4001B0A0 v.toNat)

end Sys2Proof.Machine
end

