-- ==== Sys2Proof/Machine/DmaRows.lean ====
section
/-!
DEFINITION. The DMA engine's own steps: descriptor loads, beats, completion, the NEXT fetch and reissues (R268 to
R282).
-/

namespace Sys2Proof.Machine

/-! ### The place in a descriptor (R271, R273) -/

/-- The elements of the descriptor. -/
def Dma.total (d : Dma) : Nat := d.xcnt * d.ycnt

/-- Elements read and elements written so far. -/
def Dma.nRead (d : Dma) : Nat := d.ry * d.xcnt + d.rx

/-- Elements written so far. -/
def Dma.nWritten (d : Dma) : Nat := d.wy * d.xcnt + d.wx

/-- Where the unit of the present trigger ends (R273). -/
def Dma.unitEnd (d : Dma) : Nat :=
  match d.trig with
  | 3 => d.nWritten + 1
  | 2 => (d.wy + 1) * d.xcnt
  | _ => d.total

/-- The source address of the next element to read (R271). -/
def Dma.srcNext (d : Dma) : Nat := ux 32 (d.src + d.ry * d.systride + d.rx * d.sxstep)

/-- The destination address of the element at column `x` of row `y`. -/
def Dma.dstOf (d : Dma) (x y : Nat) : Nat := ux 32 (d.dst + y * d.dystride + x * d.dxstep)

/-- The element size in bytes. -/
def Dma.size (d : Dma) : Nat := 2 ^ d.esize

/-- The next place after column `x` of row `y`. -/
def Dma.step (d : Dma) (x y : Nat) : Nat × Nat := if x + 1 < d.xcnt then (x + 1, y) else (0, y + 1)

/-! ### Errors (R281, Table 13.3) -/

/-- The cause of an answer other than OK. -/
def BusAns.cause : BusAns → Nat
  | .unmapped => 1
  | .world => 2
  | .readonly => 3
  | .busErr => 4
  | .absent => 5
  | .retry => 6
  | .ok => 0
  | .wait => 0

/-- Channel `c` stops with an error (R281): the status word is written, without read-back, when WB is set. -/
def State.dmaError (s : State) (c cause a : Nat) : State :=
  let d := s.dma.at c
  let s := ((s.set (R.DMA_CH_STAT_ERR c) 1).set (R.DMA_CH_ERR c) cause).set (R.DMA_CH_ERRADDR c) a
  let s := (s.set (R.DMA_CH_STAT_BUSY c) 0).raiseIf (s.flag (R.DMA_CH_CTRL_ERRIE c)) (104 + c)
  let s := if d.wb then (s.busWrite .dma false (d.daddr + 0x1C) 4 (2 ^ 30 + cause * 2 ^ 24 + d.id)).2 else s
  s.updDma c fun d => { d with stopped := true, moving := false, loadPend := false, fetch := false, wait := none, retries := 0, buf := [] }

/-- An access of channel `c` at `a` was answered: go on with `f`, wait after RETRY for the reissue (R282), or
stop. -/
def State.dmaAnswer (s : State) (c a : Nat) (w : Bool) (r : BusAns) (f : State → State) : State :=
  match r with
  | .ok => f (s.updDma c fun d => { d with wait := none, retries := 0 })
  | .retry =>
    if 4096 ≤ (s.dma.at c).retries then s.dmaError c 6 a else s.updDma c fun d => { d with wait := some w }
  | .wait => s
  | x => s.dmaError c x.cause a

/-! ### Descriptors (R272, R276, R277) -/

/-- An address in the I/O space. -/
def ioAddr (a : Nat) : Bool :=
  match busTarget a with
  | .io _ => true
  | _ => false

/-- The channel's state for the descriptor whose words are `w` (Table 13.2). -/
def dmaFields (a : Nat) (w : List Nat) : Dma :=
  let g (i : Nat) : Nat := w.getD i 0
  { daddr := a, src := g 0, dst := g 1, xcnt := g 2 % 2 ^ 16, ycnt := g 2 / 2 ^ 16
    sxstep := sx 16 (g 3), systride := sx 16 (g 3 / 2 ^ 16), dxstep := sx 16 (g 4), dystride := sx 16 (g 4 / 2 ^ 16)
    ie := (g 5).testBit 31, wb := (g 5).testBit 30, trig := bitsOf (g 5) 29 28, esize := bitsOf (g 5) 26 24
    id := g 5 % 2 ^ 16 }

/-- The descriptor's word at 0x14 or its addresses make it invalid (R272). -/
def dmaInvalid (w : List Nat) (d : Dma) : Bool :=
  decide (5 ≤ d.esize) || decide (bitsOf (w.getD 5 0) 23 16 ≠ 0) || (w.getD 5 0).testBit 27
    || ((ioAddr d.src || ioAddr d.dst) && decide (d.esize ≠ 2) && decide (d.esize ≠ 3))

/-- LEFT shows the elements not yet written. -/
def State.dmaLeft (s : State) (c : Nat) : State :=
  let d := s.dma.at c
  let done := decide (d.total ≤ d.nWritten)
  (s.set (R.DMA_CH_LEFT_XLEFT c) (if done then 0 else d.xcnt - d.wx)).set (R.DMA_CH_LEFT_YLEFT c)
    (if done then 0 else d.ycnt - d.wy)

/-- The descriptor at the channel's address is loaded (R272, R273): FREE runs at once, as does one that moves
nothing. -/
def State.dmaLoad (s : State) (c : Nat) : State :=
  let a := (s.dma.at c).daddr
  if a % 32 ≠ 0 ∨ a < sramBase ∨ sramEnd ≤ a then s.dmaError c 8 a
  else
    s.dmaAnswer c a false (s.sramAns a) fun s =>
      let w := wordsOf (s.rdBytes a 32)
      let d := dmaFields a w
      let s := s.updDma c fun _ => d
      if dmaInvalid w d then s.dmaError c 8 a
      else
        let go := decide (d.trig = 0) || decide (d.total = 0)
        let s := s.updDma c fun d => { d with moving := go }
        let s := (s.set (R.DMA_CH_CUR c) (a / 32)).set (R.DMA_CH_STAT_LOADED c) 1
        ((s.set (R.DMA_CH_STAT_TRGPEND c) 0).setB (R.DMA_CH_STAT_BUSY c) go).dmaLeft c

/-- Channel `c` is enabled, and no error holds it. -/
def State.dmaRuns (s : State) (c : Nat) : Bool :=
  s.on 8 && s.flag (R.DMA_CH_CTRL_EN c) && !(s.dma.at c).stopped

/-- Every element of the descriptor is written, and it has not completed. -/
def State.dmaFull (s : State) (c : Nat) : Bool :=
  let d := s.dma.at c
  s.dmaRuns c && s.flag (R.DMA_CH_STAT_LOADED c) && !d.loadPend && !d.fetch && d.moving && decide (d.total ≤ d.nWritten)

/-- Steps 3 and 4 of R276. -/
def State.dmaStatus (s : State) (c : Nat) : State :=
  let d := s.dma.at c
  let a := d.daddr + 0x1C
  let (r, s) := if d.wb then s.busWrite .dma false a 4 (2 ^ 31 + d.id) else (.ok, s)
  s.dmaAnswer c a true r fun s =>
    let s := ((s.set (R.DMA_CH_STAT_DONE c) 1).set (R.DMA_CH_STAT_ID c) d.id).inc (R.DMA_CH_DONECNT c)
    (s.raiseIf d.ie (104 + c)).updDma c fun d => { d with fetch := true }

/-- The completion of a descriptor (R276): the read-back of its last address, QUIET, and the status. -/
def State.dmaComplete (s : State) (c : Nat) : State :=
  let d := s.dma.at c
  if d.total = 0 then s.dmaStatus c
  else
    let (r, _, s) := s.busRead .dma false d.lastDst d.size true
    s.dmaAnswer c d.lastDst false r fun s => s.dmaStatus c

/-- The NEXT word is read again (R277). -/
def State.dmaNext (s : State) (c : Nat) : State :=
  let a := (s.dma.at c).daddr + 0x18
  s.dmaAnswer c a false (s.sramAns a) fun s =>
    let n := s.bytes a 4
    if n ≠ 0 then s.dmaAsk c n
    else (((s.set (R.DMA_CH_STAT_END c) 1).set (R.DMA_CH_STAT_LOADED c) 0).set (R.DMA_CH_STAT_BUSY c) 0).updDma c fun _ => {}

/-! ### Beats (R268, R274, R275) -/

/-- The source is flash bank 0 with an operation in progress: the read waits for its end (R282). -/
def State.flashWaits (s : State) (a : Nat) : Bool := decide (busTarget a = .flash0) && s.on 2 && s.flash.op0.isSome

/-- Channel `c` has a read beat ready. -/
def State.readReady (s : State) (c : Nat) : Bool :=
  let d := s.dma.at c
  decide (d.nRead < d.unitEnd) && decide (d.buf.length < 4) && !s.flashWaits d.srcNext

/-- Channel `c` has a data beat ready: a unit moves, and no debug halt holds it (R280). -/
def State.dataReady (s : State) (c : Nat) : Bool :=
  let d := s.dma.at c
  d.moving && !d.loadPend && !d.fetch
    && !(s.flag (R.DMA_CH_CTRL_DBGFRZ c) && s.safeHalted) && (s.readReady c || !d.buf.isEmpty)

/-- Channel `c` has a beat ready (R274): a descriptor or its NEXT word to read, a completion, or data, and no access of
it waits for a reissue. -/
def State.beatReady (s : State) (c : Nat) : Bool :=
  let d := s.dma.at c
  s.dmaRuns c && d.wait.isNone && (d.loadPend || d.fetch || s.dmaFull c || s.dataReady c)

/-- A read beat (R275): a misaligned element stops the channel before it is read. -/
def State.dmaReadBeat (s : State) (c : Nat) : State :=
  let d := s.dma.at c
  let a := d.srcNext
  let b := d.dstOf d.rx d.ry
  if a % d.size ≠ 0 then s.dmaError c 7 a
  else if b % d.size ≠ 0 then s.dmaError c 7 b
  else
    let (r, v, s) := s.busRead .dma false a d.size false
    s.dmaAnswer c a false r fun s => s.updDma c fun d =>
      let (x, y) := d.step d.rx d.ry
      { d with buf := d.buf ++ [v], rx := x, ry := y }

/-- The unit of a trigger has moved (R273): a trigger held starts the next, else the channel waits. The last unit
leaves the channel to its completion. -/
def State.dmaUnit (s : State) (c : Nat) : State :=
  let d := s.dma.at c
  if d.total ≤ d.nWritten ∨ d.trig < 2 then s
  else if s.flag (R.DMA_CH_STAT_TRGPEND c) then s.set (R.DMA_CH_STAT_TRGPEND c) 0
  else (s.set (R.DMA_CH_STAT_BUSY c) 0).updDma c fun d => { d with moving := false }

/-- A write beat. -/
def State.dmaWriteBeat (s : State) (c : Nat) : State :=
  let d := s.dma.at c
  match d.buf with
  | [] => s
  | v :: rest =>
    let a := d.dstOf d.wx d.wy
    let last := d.unitEnd
    let (r, s) := s.busWrite .dma false a d.size v
    s.dmaAnswer c a true r fun s =>
      let s := (s.updDma c fun d =>
        let (x, y) := d.step d.wx d.wy
        { d with buf := rest, wx := x, wy := y, lastDst := a }).dmaLeft c
      if last ≤ (s.dma.at c).nWritten then s.dmaUnit c else s

/-- One data beat of channel `c`: of a read and a write both ready, either may go (R274 orders channels, not a
channel's own beats). -/
def State.dmaData (s : State) (c : Nat) : State :=
  let rd := s.readReady c
  let wr := !(s.dma.at c).buf.isEmpty
  if rd && wr then
    let (b, s) := s.freeB
    if b then s.dmaReadBeat c else s.dmaWriteBeat c
  else if rd then s.dmaReadBeat c
  else s.dmaWriteBeat c

/-- The channels of priority `p` in the order of the round-robin: from the one after the last winner (R274). -/
def State.roundRobin (s : State) (p : Nat) : List Nat :=
  let l := s.dmaLast.at p
  ((List.range 16).map fun i => (l + 1 + i) % 16).filter fun c => decide (s.get (R.DMA_CH_CTRL_PRIO c) = p)

/-- The arbiter's choice (R274): the highest priority first. -/
def State.arbitrate (s : State) : Option Nat :=
  ((s.roundRobin 3 ++ s.roundRobin 2) ++ (s.roundRobin 1 ++ s.roundRobin 0)).find? s.beatReady

/-- The beat channel `c` has ready: of its descriptor, its completion, its NEXT word, or its data. -/
def State.dmaBeat (s : State) (c : Nat) : State :=
  let d := s.dma.at c
  if d.loadPend then s.dmaLoad c
  else if d.fetch then s.dmaNext c
  else if s.dmaFull c then s.dmaComplete c
  else s.dmaData c

/-- Channel `c` has won the arbitration and makes its beat. -/
def State.dmaWin (s : State) (c : Nat) : State :=
  { s with dmaLast := s.dmaLast.put (s.get (R.DMA_CH_CTRL_PRIO c)) c }.dmaBeat c

/-- The beat of channel `c` where the arbiter chooses it. -/
def State.dmaTurn (s : State) (c : Nat) : State := if s.arbitrate = some c then s.dmaWin c else s

/-- DMA_DESCRIPTOR_LOAD (R272, R274). -/
def execDmaDescriptorLoad (c : Fin 16) (s : State) : Out :=
  .next (if (s.dma.at c).loadPend then s.dmaTurn c else s)

/-- DMA_DESCRIPTOR_COMPLETE (R274, R276). -/
def execDmaDescriptorComplete (c : Fin 16) (s : State) : Out :=
  .next (if s.dmaFull c then s.dmaTurn c else s)

/-- DMA_NEXT_FETCH (R274, R277). -/
def execDmaNextFetch (c : Fin 16) (s : State) : Out :=
  .next (if (s.dma.at c).fetch then s.dmaTurn c else s)

/-- DMA_BEAT (R274). -/
def execDmaBeat (s : State) : Out :=
  .next (match s.arbitrate with
    | none => s
    | some c => s.dmaWin c)

/-- An access answered RETRY is issued again (R282). -/
def State.dmaReissue (s : State) (c : Nat) : State :=
  let d := s.dma.at c
  match d.wait with
  | none => s
  | some w =>
    let s := s.updDma c fun d => { d with retries := d.retries + 1 }
    if d.loadPend then s.dmaLoad c
    else if d.fetch then s.dmaNext c
    else if d.total ≤ d.nWritten then s.dmaComplete c
    else if w then s.dmaWriteBeat c
    else s.dmaReadBeat c

/-- DMA_RETRY_REISSUE (R282). -/
def execDmaRetryReissue (c : Fin 16) (s : State) : Out := .next (if s.dmaRuns c then s.dmaReissue c else s)

end Sys2Proof.Machine
end

