-- ==== Sys2Proof/Machine/FlashRows.lean ====
section
/-!
DEFINITION. The commands of the flash controller (R395, R396). The end of an operation is in BootRows, since
an internal reset can wait for it.
-/

namespace Sys2Proof.Machine

/-- FLASH_ARM (R395). -/
def execFlashArm (q : Who) (v : Word) (s : State) : Out := .next (s.via q.req 2 fun s => s.flcArm q v.toNat)

/-- FLASH_PROGRAM (R396): FLC_CMD with OP 1. -/
def execFlashProgram (q : Who) (s : State) : Out := .next (s.via q.req 2 fun s => s.flcCmd q 1)

/-- FLASH_ERASE (R396): FLC_CMD with OP 2. -/
def execFlashErase (q : Who) (s : State) : Out := .next (s.via q.req 2 fun s => s.flcCmd q 2)

/-- FLASH_BADCMD (R396): FLC_CMD with OP 0 or 3. -/
def execFlashBadcmd (q : Who) (three : Bool) (s : State) : Out :=
  .next (s.via q.req 2 fun s => s.flcCmd q (if three then 3 else 0))

/-- FLASH_SEQUENCE_LAPSE (R395): the 32 cycles pass with a sequence armed. -/
def execFlashSequenceLapse (s : State) : Out := .next (if s.seq.flc.isSome then s.flcLapse else s)

end Sys2Proof.Machine
end

