-- ==== Sys2Proof/Machine/LcRows.lean ====
section
/-!
DEFINITION. The commands of the SYS and LCS frames (R420 to R432).
-/

namespace Sys2Proof.Machine

/-- SYS_KEY_WRITE (R432). -/
def execSysKeyWrite (q : Who) (v : Word) (s : State) : Out := .next (s.via q.req 0 fun s => s.keyWrite q v.toNat)

/-- SYS_KEY_UNLOCK_EXPIRY (R432). -/
def execSysKeyUnlockExpiry (q : Req) (s : State) : Out := .next (s.keyEnd q)

/-- LC_REQUEST (R420). -/
def execLcRequest (q : Who) (v : Word) (s : State) : Out := .next (s.via q.req 0 fun s => s.writeLcsReq q v.toNat)

/-- LC_SCRAP_ARM (R422): the first write. -/
def execLcScrapArm (q : Who) (s : State) : Out := .next (s.via q.req 0 fun s => s.writeScrap q 0x5C4A)

/-- LC_SCRAP_CONFIRM (R422): the second write. -/
def execLcScrapConfirm (q : Who) (v : Word) (s : State) : Out := .next (s.via q.req 0 fun s => s.writeScrap q v.toNat)

/-- LC_SCRAP_TIMEOUT (R422): an armed request is disarmed. -/
def execLcScrapTimeout (s : State) : Out := .next { s with seq := { s.seq with scrap := none } }

/-- FUSE_PROGRAM (R430): LCS_FCMD command 1. -/
def execFuseProgram (q : Who) (s : State) : Out := .next (s.via q.req 0 fun s => s.writeFcmd q 1)

/-- FUSE_LOCKROW (R430): LCS_FCMD command 2. -/
def execFuseLockrow (q : Who) (s : State) : Out := .next (s.via q.req 0 fun s => s.writeFcmd q 2)

/-- FUSE_PROGRAM_DONE (R430). -/
def execFuseProgramDone (bad : Word) (s : State) : Out := .next (s.fuseEnd bad.toNat)

end Sys2Proof.Machine
end

