-- ==== Sys2Proof/Machine/MemRows.lean ====
section
/-!
DEFINITION. The accesses of a strand: loads, stores, the reservation pair, the I/O space, the tile moves, and
reissues (R192 to R199, R218, R219, R221, R226, R227, R237 to R240).
-/

namespace Sys2Proof.Machine

/-! ### Checks (R193, R205, R317) -/

/-- A local mailbox window, and the mailbox it holds at `a`. -/
def inLmb (a : Nat) : Bool := decide (0x30000000 ≤ a) && decide (a < 0x30001000)

/-- An address in system SRAM. -/
def inSram (a : Nat) : Bool := decide (sramBase ≤ a) && decide (a < sramEnd)

/-- The address is listed in Table 9.3. -/
def dataListed (a : Nat) : Bool :=
  decide (a < 0x20000) || (decide (0x10000000 ≤ a) && decide (a < 0x10800000)) || inSram a || inLmb a

/-- Why core `k` may not access data space at `a`: the first reason in the order of R193; none where it may. -/
def State.dataReason (s : State) (k : Core) (a : Nat) (w : Bool) : Option Reason :=
  if !dataListed a then some .unmapped
  else if (decide (a < 0x20000) && s.sealedTcm a && !k.world)
      || (decide (a < 0x20000) && s.monitorArea a && !inRom k.pc.toNat)
      || (inBank1 a && !k.world)
      || (inLmb a && decide (a < 0x30000800) && s.bit R.LMB_STATE_SHELD ((a - 0x30000000) / 0x200) && !k.world)
    then some .world
  else if w && (inBank0 a || inBank1 a) then some .readonly
  else if k.mpu.allows 1 (b2n w) a then none
  else some .mpu

/-! ### The targets -/

/-- The granule a reservation of core `c` covers at `a` (R221): a D-TCM granule stands at its own key. -/
def granule (c a : Nat) : Nat := (if a < 0x20000 then dtcmKey c a else a) / 32

/-- `n` bytes of a local mailbox window; the places past the four mailboxes are open (assumption 13). -/
def State.lmbRead (s : State) (a n : Nat) : BusAns × Nat × State :=
  if !s.on 1 then ((s.offCode 1).ans, 0, s)
  else if a < 0x30000800 then (.ok, s.bytes a n, s)
  else (let (l, s) := s.freeBytes n; (.ok, leNat l, s))

/-- A store to a local mailbox window (R315). -/
def State.lmbWrite (s : State) (a n v : Nat) : BusAns × State :=
  if !s.on 1 then ((s.offCode 1).ans, s)
  else if a < 0x30000800 then
    (.ok, ((List.range n).zip (toLE n v)).foldl (fun s x =>
      s.localBuf ((a - 0x30000000) / 0x200) ((a + x.1) % 0x200) (BitVec.ofNat 8 x.2)) s)
  else (.ok, s)

/-- A read of `n` bytes of data space by core `c`. -/
def State.dataRead (s : State) (c a n : Nat) : BusAns × Nat × State :=
  if a < 0x20000 then (.ok, s.tcmBytes dtcmKey c a n, s)
  else if inBank0 a then s.busFlash 0 a n false
  else if inBank1 a then s.busFlash 1 a n false
  else if inSram a then
    (let r := s.sramAns a
     (r, if r = .ok then s.bytes a n else 0, s))
  else s.lmbRead a n

/-- A write of `n` bytes of data space by core `c`: other strands' reservations on the granule go (R221). -/
def State.dataWrite (s : State) (c a n v : Nat) : BusAns × State :=
  if a < 0x20000 then (.ok, (s.tcmWrite dtcmKey c a n v).dropRes (some c) (dtcmKey c a))
  else if inSram a then
    (let r := s.sramAns a
     (r, if r = .ok then (s.setBytes a n v).dropRes (some c) a else s))
  else s.lmbWrite a n v

/-- A wait that the spec does not fix: at least 4 cycles. -/
def State.openWait (s : State) (c : Nat) : State :=
  let (n, s) := s.freeN
  s.cycles c (4 + n)

/-- The target wait of a data access (Table 9.4). -/
def State.dataWait (s : State) (c a : Nat) : State := if a < 0x20000 then s else s.openWait c

/-- The target wait of an I/O access (Table 9.4). -/
def State.ioWait (s : State) (c a : Nat) : State :=
  if a / 0x1000 = 0x13 ∨ a / 0x1000 = 0x14 then s.cycles c 1
  else
    match frameDomain a with
    | some d => if d ∈ [0, 6, 7, 9] then s.cycles c 3 else s.openWait c
    | none => s.cycles c 3

/-! ### Answers (R198, R199) -/

/-- An ALIGN exception (R194). -/
def State.alignExc (s : State) (c : Nat) (ea : Word) (space : Nat) (w : Bool) : State :=
  s.takeExc c 3 ea (b2n w * 4 + space)

/-- An ACCESS exception. -/
def State.accessExc (s : State) (c : Nat) (ea : Word) (r : Reason) (space : Nat) (w : Bool) : State :=
  s.takeExc c 4 ea (einfoOf r space w)

/-- The access `x` of core `c` was answered at `ea`: go on with `f`, wait for a reissue or for flash, or fault. -/
def State.answered (s : State) (c : Nat) (x : Access) (ea : Word) (space : Nat) (w : Bool) (r : BusAns)
    (f : State → State) : State :=
  match r with
  | .ok => f (s.updCore c fun k => { k with wait := none, retries := 0 })
  | .retry =>
    if 4096 ≤ (s.coreAt c).retries then s.accessExc c ea .retry space w
    else s.updCore c fun k => { k with wait := some x, why := .retry }
  | .wait => s.updCore c fun k => { k with wait := some x, why := .flash, retries := 0 }
  | .absent => s.accessExc c ea .absent space w
  | .busErr => s.accessExc c ea .busErr space w
  | .unmapped => s.accessExc c ea .unmapped space w
  | .world => s.accessExc c ea .world space w
  | .readonly => s.accessExc c ea .readonly space w

/-- A data match at `ea` halts after the instruction (R448): kind 1 read, 2 write, 3 either. -/
def State.dataMatch (s : State) (c : Nat) (ea : Nat) (w : Bool) : State :=
  match s.bpMatch c ea [if w then 2 else 1, 3] with
  | some i => s.haltOrAsk c 4 i
  | none => s

/-- A load completes under the load delay (R195). -/
def State.loaded (s : State) (c : Nat) (rd : Fin 32) (v : Word) : State :=
  s.complete c [] fun k => { k.next with ldNext := some (rd, v) }

/-- The value of a load of `n` bytes. -/
def loadVal (n : Nat) (signed : Bool) (v : Nat) : Word :=
  if signed then BitVec.ofNat 32 (ux 32 (sx (8 * n) v)) else BitVec.ofNat 32 (v % 2 ^ (8 * n))

/-- The copies of the word core `c` reads at `a` have no majority (R170). -/
def State.tcmFails (s : State) (c a : Nat) : Bool := decide (a < 0x20000) && s.tcmBad dtcmKey c a

/-! ### Loads and stores (R218, R221) -/

/-- A load of `n` bytes at `ea` makes its access. -/
def State.goLoad (s : State) (c : Nat) (x : Access) (rd : Fin 32) (n : Nat) (signed : Bool) : State :=
  let a := x.ea.toNat
  if s.tcmFails c a then s.tcmFault
  else
    let (r, v, s) := s.dataRead c a n
    s.answered c x x.ea 1 false r fun s => (s.loaded c rd (loadVal n signed v)).dataMatch c a false

/-- A store of `n` bytes makes its access. -/
def State.goStore (s : State) (c : Nat) (x : Access) (n : Nat) (v : Word) : State :=
  let a := x.ea.toNat
  let (r, s) := s.dataWrite c a n v.toNat
  s.answered c x x.ea 1 true r fun s => (s.complete c [] Core.next).dataMatch c a true

/-- LDX makes its access (R221): the reservation is set where its locked window has not ended. -/
def State.goLoadx (s : State) (c : Nat) (x : Access) (rd : Fin 32) : State :=
  let a := x.ea.toNat
  if s.tcmFails c a then s.tcmFault
  else
    let (r, v, s) := s.dataRead c a 4
    s.answered c x x.ea 1 false r fun s =>
      let s := s.updCore c fun k => { k with res := if k.locked then some (granule c a) else none }
      (s.loaded c rd (BitVec.ofNat 32 v)).dataMatch c a false

/-- STX ends with its outcome in g[rs] (R221). -/
def State.stxEnd (s : State) (c : Nat) (rs : Fin 32) (a : Nat) (v : Word) : State :=
  (s.complete c [rs] fun k => { (k.wr rs v).next with res := none, locked := false }).dataMatch c a true

/-- STX makes its access where the reservation is held, at a reissue too; else no access is made. -/
def State.goStorex (s : State) (c : Nat) (x : Access) (rs : Fin 32) : State :=
  let a := x.ea.toNat
  if (s.coreAt c).res = some (granule c a) then
    let (r, s) := s.dataWrite c a 4 ((s.coreAt c).rd rs).toNat
    s.answered c x x.ea 1 true r fun s => s.stxEnd c rs a 1
  else s.stxEnd c rs a 0

/-- The effective address: base and displacement (R194). -/
def Core.ea (k : Core) (base : Fin 32) (disp : BitVec 16) : Word := k.rd base + disp.signExtend 32

/-- A load or store of `n` bytes is checked, and makes its access by `f`. -/
def State.checked (s : State) (c n : Nat) (ea : Word) (w : Bool) (f : State → State) : State :=
  if ea.toNat % n ≠ 0 then s.alignExc c ea 1 w
  else
    match s.dataReason (s.coreAt c) ea.toNat w with
    | some r => s.accessExc c ea r 1 w
    | none => f s

/-- A load of `n` bytes. -/
def State.load (s : State) (c n : Nat) (rd base : Fin 32) (disp : BitVec 16) (signed : Bool) : State :=
  s.issue c 1 fun s =>
    let ea := (s.coreAt c).ea base disp
    s.checked c n ea false fun s => (s.dataWait c ea.toNat).goLoad c { kind := .load rd n signed, ea := ea } rd n signed

/-- A store of `n` bytes. -/
def State.store (s : State) (c n : Nat) (rs base : Fin 32) (disp : BitVec 16) : State :=
  s.issue c 1 fun s =>
    let k := s.coreAt c
    let ea := k.ea base disp
    let v := k.rd rs
    s.checked c n ea true fun s => (s.dataWait c ea.toNat).goStore c { kind := .store n v, ea := ea } n v

/-- LDB (R218). -/
def execLdb (c : Fin 3) (rd base : Fin 32) (disp : BitVec 16) (s : State) : Out := .next (s.load c 1 rd base disp true)

/-- LDBU (R218). -/
def execLdbu (c : Fin 3) (rd base : Fin 32) (disp : BitVec 16) (s : State) : Out := .next (s.load c 1 rd base disp false)

/-- LDH (R218). -/
def execLdh (c : Fin 3) (rd base : Fin 32) (disp : BitVec 16) (s : State) : Out := .next (s.load c 2 rd base disp true)

/-- LDHU (R218). -/
def execLdhu (c : Fin 3) (rd base : Fin 32) (disp : BitVec 16) (s : State) : Out := .next (s.load c 2 rd base disp false)

/-- LDW (R218). -/
def execLdw (c : Fin 3) (rd base : Fin 32) (disp : BitVec 16) (s : State) : Out := .next (s.load c 4 rd base disp false)

/-- STB (R218). -/
def execStb (c : Fin 3) (rs base : Fin 32) (disp : BitVec 16) (s : State) : Out := .next (s.store c 1 rs base disp)

/-- STH (R218). -/
def execSth (c : Fin 3) (rs base : Fin 32) (disp : BitVec 16) (s : State) : Out := .next (s.store c 2 rs base disp)

/-- STW (R218). -/
def execStw (c : Fin 3) (rs base : Fin 32) (disp : BitVec 16) (s : State) : Out := .next (s.store c 4 rs base disp)

/-- LDX and STX accept the D-TCM and system SRAM alone (R221). -/
def State.pairChecked (s : State) (c : Nat) (ea : Word) (w : Bool) (f : State → State) : State :=
  let a := ea.toNat
  if a % 4 ≠ 0 then s.alignExc c ea 1 w
  else if !(decide (a < 0x20000) || inSram a) then s.accessExc c ea .unmapped 1 w
  else s.checked c 4 ea w f

/-- LDX (R221): the locked sequence runs from its issue. -/
def execLdx (c : Fin 3) (rd base : Fin 32) (disp : BitVec 16) (s : State) : Out :=
  .next (s.issue c 1 fun s =>
    let ea := (s.coreAt c).ea base disp
    s.pairChecked c ea false fun s =>
      ((s.dataWait c ea.toNat).updCore c fun k => { k with locked := true }).goLoadx c { kind := .loadx rd, ea := ea } rd)

/-- STX (R221): without the reservation no access is made, and no target waits. -/
def execStx (c : Fin 3) (rs base : Fin 32) (disp : BitVec 16) (s : State) : Out :=
  .next (s.issue c 1 fun s =>
    let k := s.coreAt c
    let ea := k.ea base disp
    s.pairChecked c ea true fun s =>
      (if k.res = some (granule c ea.toNat) then s.dataWait c ea.toNat else s).goStorex c { kind := .storex rs, ea := ea } rs)

/-! ### The I/O space (R193, R219) -/

/-- IOLD makes its access. -/
def State.goIoLoad (s : State) (c : Nat) (x : Access) (rd : Fin 32) : State :=
  let a := x.ea.toNat
  let q := coreReq c
  let s := s.ioRead q a false
  let r := s.resp.at (reqIdx q)
  s.answered c x x.ea 2 false r.code.ans fun s => (s.loaded c rd (BitVec.ofNat 32 r.data)).dataMatch c a false

/-- IOST makes its access. A store that resets the part ends with the reset. -/
def State.goIoStore (s : State) (c : Nat) (x : Access) (v : Word) : State :=
  let a := x.ea.toNat
  let q : Who := { req := coreReq c, sealedW := (s.coreAt c).world }
  let s := s.ioWrite q a v.toNat
  if s.rst.asserted then s
  else
    s.answered c x x.ea 2 true (s.resp.at (reqIdx q.req)).code.ans fun s =>
      (s.complete c [] Core.next).dataMatch c a true

/-- An I/O access is checked: aligned, 20 bits, allowed by the MPU; an OPEN store to LCS_SCRAP is refused with WORLD
(R422). -/
def State.ioChecked (s : State) (c : Nat) (ea : Word) (w : Bool) (f : State → State) : State :=
  let a := ea.toNat
  let k := s.coreAt c
  if a % 4 ≠ 0 then s.alignExc c ea 2 w
  else if 0x100000 ≤ a then s.accessExc c ea .unmapped 2 w
  else if w && decide (a = 0x1C034) && !k.world then s.accessExc c ea .world 2 w
  else if !k.mpu.allows 2 (b2n w) a then s.accessExc c ea .mpu 2 w
  else f s

/-- IOLD (R219). -/
def execIold (c : Fin 3) (rd base : Fin 32) (disp : BitVec 16) (s : State) : Out :=
  .next (s.issue c 1 fun s =>
    let ea := (s.coreAt c).ea base disp
    s.ioChecked c ea false fun s => (s.ioWait c ea.toNat).goIoLoad c { kind := .ioLoad rd, ea := ea } rd)

/-- IOST (R219). -/
def execIost (c : Fin 3) (rs base : Fin 32) (disp : BitVec 16) (s : State) : Out :=
  .next (s.issue c 1 fun s =>
    let k := s.coreAt c
    let ea := k.ea base disp
    let v := k.rd rs
    s.ioChecked c ea true fun s => (s.ioWait c ea.toNat).goIoStore c { kind := .ioStore v, ea := ea } v)

/-! ### Tile moves (R226, R227, R237 to R240) -/

/-- A move of rows: its operation (0 TLD, 1 TST, 2 TSAVE, 3 TREST), operand, stride, rows, the next row, the rows
moved since it issued, the rows after which it pauses at a row boundary (0: none), whether it matched TPROG, and
whether the wait of its next row is counted already. -/
structure Move where
  op : BitVec 3
  acc : Bool
  t : BitVec 3
  ea : Word
  stride : Int
  rows : Nat
  row : Nat
  moved : Nat
  stop : Nat
  cont : Bool
  paid : Bool := false

/-- The access that waits at the next row of a move. -/
def Move.access (m : Move) : Access :=
  { kind := .tileMove m.op m.acc m.t m.stride m.rows m.row m.moved m.stop m.cont, ea := m.ea }

/-- The move writes memory. -/
def Move.writes (m : Move) : Bool := decide (m.op = 1) || decide (m.op = 2)

/-- The address of row `r` (R226). -/
def Move.rowEa (m : Move) (r : Nat) : Word := m.ea + BitVec.ofInt 32 (r * m.stride)

/-- The tile a move names. -/
def Move.tile (m : Move) : Fin 8 := ⟨m.t.toNat, m.t.isLt⟩

/-- ACC as bytes (R227). -/
def Core.accBytes (k : Core) : List Nat := (List.finRange 64).flatMap fun x => toLE 6 (k.acc[x]).toNat

/-- Row `r` of a move's operand as bytes. -/
def Core.rowBytes (k : Core) (m : Move) (r : Nat) : List Nat :=
  if m.acc then cut k.accBytes (16 * r) 16
  else if k.tuse.toNat.testBit m.t.toNat then
    (List.range 8).flatMap fun c => toLE 2 ((k.tiles[m.tile]).getD (8 * r + c) 0).toNat
  else List.replicate 16 0

/-- Row `r` of a move's operand takes the bytes `l`; TLD sets TUSE with its first row (R236). -/
def Core.putRow (k : Core) (m : Move) (r : Nat) (l : List Nat) : Core :=
  if m.acc then
    let b := overlay k.accBytes (16 * r) l
    { k with acc := Vector.ofFn fun x => BitVec.ofNat 48 (fieldOf b (6 * x.val) 6) }
  else
    { k with
      tiles := k.tiles.set m.tile (Vector.ofFn fun x =>
        if x.val / 8 = r then BitVec.ofNat 16 (fieldOf l (2 * (x.val % 8)) 2) else (k.tiles[m.tile])[x])
      tuse := if m.op = 0 then k.tuse ||| BitVec.ofNat 8 (2 ^ m.t.toNat) else k.tuse }

/-- A move matches TPROG (R239). -/
def Core.matches (k : Core) (m : Move) : Bool :=
  let p := k.tprog.toNat
  (k.fresh || k.resumed) && p.testBit 31 && decide (bitsOf p 30 28 = m.op.toNat) && decide (p.testBit 27 = m.acc)
    && decide (bitsOf p 26 24 = if m.acc then 0 else m.t.toNat) && decide (bitsOf p 15 0 = bitsOf m.ea.toNat 17 2)
    && decide (bitsOf p 20 16 < m.rows)

/-- A move in its last cycle: a matching move clears TPROG (R240). -/
def State.moveEnd (s : State) (c : Nat) (m : Move) : State :=
  let s := s.complete c [] fun k => { k.next with tprog := if m.cont then 0 else k.tprog }
  let rows := (List.range m.rows).filter fun r => decide (m.row ≤ r + m.moved)
  match rows.findSome? fun r => s.bpMatch c (m.rowEa r).toNat [if m.writes then 2 else 1, 3] with
  | some i => s.haltOrAsk c 4 i
  | none => s

/-- A move pauses between two rows, where another requester's access can fall (R245), an interrupt or a halt stops it
(R237), and ACCESS_RETRY_REISSUE moves its next row. -/
def State.movePause (s : State) (c : Nat) (m : Move) : State :=
  s.updCore c fun k => { k with wait := some m.access, why := .row, retries := 0 }

/-- A row is refused (R238). -/
def State.moveFault (s : State) (c : Nat) (m : Move) (r : Reason) : State :=
  (s.updCore c fun k => k.recordMove m.op m.acc m.t m.row m.ea).accessExc c (m.rowEa m.row) r 1 m.writes

/-- One row of a move makes its access: a cycle and the target wait at its issue. -/
def State.moveRow (s : State) (c : Nat) (m : Move) : BusAns × State :=
  let a := (m.rowEa m.row).toNat
  let s := if m.paid then s else (s.dataWait c a).cycles c 1
  if m.writes then s.dataWrite c a 16 (leNat ((s.coreAt c).rowBytes m m.row))
  else
    let (r, v, s) := s.dataRead c a 16
    (r, if r = .ok then s.updCore c fun k => k.putRow m m.row (toLE 16 v) else s)

/-- The rows of a move from its next one on. -/
def State.moveRows : Nat → State → Nat → Move → State
  | 0, s, _, _ => s
  | n + 1, s, c, m =>
    if m.stop ≠ 0 ∧ m.moved = m.stop then s.movePause c m
    else if m.rows ≤ m.row then s.moveEnd c m
    else
      let ea := m.rowEa m.row
      match s.dataReason (s.coreAt c) ea.toNat m.writes with
      | some r => s.moveFault c m r
      | none =>
        if !m.writes && s.tcmFails c ea.toNat then s.tcmFault
        else
          let (r, s) := s.moveRow c m
          match r with
          | .ok => moveRows n (s.updCore c fun k => { k with wait := none, retries := 0 }) c
              { m with row := m.row + 1, moved := m.moved + 1, paid := false }
          | .retry => if 4096 ≤ (s.coreAt c).retries then s.moveFault c m .retry
              else s.updCore c fun k => { k with wait := some m.access, why := .retry }
          | .wait => s.updCore c fun k => { k with wait := some m.access, why := .flash, retries := 0 }
          | .absent => s.moveFault c m .absent
          | _ => s.moveFault c m .busErr

/-- A move issues: at the recorded row where it matches TPROG, else at row 0 (R239). -/
def State.moveGo (s : State) (c : Nat) (m : Move) : State :=
  let k := s.coreAt c
  let cont := k.matches m
  let m := { m with row := if cont then bitsOf k.tprog.toNat 20 16 else 0, cont := cont }
  let s := if cont then s.updCore c fun k => { k with tResumes := if k.tResumes = 0xFFFF then k.tResumes else k.tResumes + 1 }
    else s
  if !m.acc && decide (m.op = 2 ∨ m.op = 3) && !k.tuse.toNat.testBit m.t.toNat then
    s.complete c [] fun k => { k.next with tprog := if cont then 0 else k.tprog }
  else if m.ea.toNat % 16 ≠ 0 ∨ m.stride % 16 ≠ 0 then s.alignExc c m.ea 1 m.writes
  else State.moveRows (m.rows + 2) s c m

/-- A displacement held in 12 bits (R211). -/
def dispOf (d : BitVec 12) : Word := (d ++ (0#4)).signExtend 32

/-- TLD and TST (R226). -/
def State.tileMove (s : State) (c : Nat) (op : BitVec 3) (t : Fin 8) (gs base : Fin 32) (disp : BitVec 12) (stop : Nat) :
    State :=
  s.issue c 2 fun s =>
    let k := s.coreAt c
    let g := (k.rd gs).toNat
    let n := bitsOf g 19 16
    s.moveGo c { op := op, acc := false, t := BitVec.ofNat 3 t.val, ea := k.rd base + dispOf disp, stride := sx 16 g
                 rows := if n = 0 ∨ 8 < n then 8 else n, row := 0, moved := 0, stop := stop, cont := false }

/-- TSAVE and TREST (R227): ACC is named with tile 0, else the word is unassigned (R212). -/
def State.tileSave (s : State) (c : Nat) (op : BitVec 3) (acc : Bool) (t : Fin 8) (base : Fin 32) (disp : BitVec 12)
    (stop : Nat) : State :=
  s.issue c 2 fun s =>
    let k := s.coreAt c
    if acc && decide (t ≠ 0) then s.illegal c
    else s.moveGo c { op := op, acc := acc, t := BitVec.ofNat 3 t.val, ea := k.rd base + dispOf disp, stride := 16
                      rows := if acc then 24 else 8, row := 0, moved := 0, stop := stop, cont := false }

/-- TLD (R226); `stop` is the rows after which it pauses at a row boundary, 0 for none. -/
def execTld (c : Fin 3) (t : Fin 8) (gs base : Fin 32) (disp : BitVec 12) (stop : Nat) (s : State) : Out :=
  .next (s.tileMove c 0 t gs base disp stop)

/-- TST (R226). -/
def execTst (c : Fin 3) (t : Fin 8) (gs base : Fin 32) (disp : BitVec 12) (stop : Nat) (s : State) : Out :=
  .next (s.tileMove c 1 t gs base disp stop)

/-- TSAVE (R227). -/
def execTsave (c : Fin 3) (acc : Bool) (t : Fin 8) (base : Fin 32) (disp : BitVec 12) (stop : Nat) (s : State) : Out :=
  .next (s.tileSave c 2 acc t base disp stop)

/-- TREST (R227). -/
def execTrest (c : Fin 3) (acc : Bool) (t : Fin 8) (base : Fin 32) (disp : BitVec 12) (stop : Nat) (s : State) : Out :=
  .next (s.tileSave c 3 acc t base disp stop)

/-! ### Reissues (R198) -/

/-- The fetch that waits is answered: the line is filled and the instruction can issue; or it waits on; or it faults. -/
def State.goFetch (s : State) (c : Nat) (x : Access) : State :=
  if s.on 2 then
    (if (s.flashOp 0).isSome then s.fetchWaits c .flash
      else
        let (bad, s) := s.eccLine x.ea.toNat
        if bad then s.fetchExc c .busErr
        else
          let (n, s) := s.missWait
          ((s.cycles c n).fillLine c x.ea.toNat).updCore c fun k => { k with wait := none, retries := 0 })
  else if s.offCode 2 = .retry then
    (if 4096 ≤ (s.coreAt c).retries then s.fetchExc c .retry else s.fetchWaits c .retry)
  else s.fetchExc c .absent

/-- The access of core `c` that waits makes its access again; a move that paused moves one row. -/
def State.again (s : State) (c : Nat) (x : Access) : State :=
  match x.kind with
  | .fetch => s.goFetch c x
  | .load rd n signed => s.goLoad c x rd n signed
  | .store n v => s.goStore c x n v
  | .loadx rd => s.goLoadx c x rd
  | .storex rs => s.goStorex c x rs
  | .ioLoad rd => s.goIoLoad c x rd
  | .ioStore v => s.goIoStore c x v
  | .tileMove op acc t stride rows row moved stop cont =>
    let paused := decide ((s.coreAt c).why = .row)
    State.moveRows (rows + 2) s c
      { op := op, acc := acc, t := t, ea := x.ea, stride := stride, rows := rows, row := row, moved := moved
        stop := if paused then moved + 1 else stop, cont := cont, paid := !paused }

/-- What is in progress goes on: a reissue is 8 cycles on (R198); the wait for a flash bank is open (R394). -/
def State.reissue (s : State) (c : Nat) : State :=
  match (s.coreAt c).wait with
  | none => s
  | some x =>
    match (s.coreAt c).why with
    | .retry => (s.updCore c fun k => { k with retries := k.retries + 1, cycle := k.cycle + 8 }).again c x
    | .flash =>
      let (n, s) := s.freeN
      (s.cycles c n).again c x
    | .row => s.again c x

/-- ACCESS_RETRY_REISSUE (R198). -/
def execAccessRetryReissue (c : Fin 3) (s : State) : Out :=
  .next (if s.coreExists c && s.coreOn c && decide ((s.coreAt c).run = .issuing) && !s.ply.fault
      && !s.bit R.DBG_STAT_HALTED c then s.reissue c else s)

end Sys2Proof.Machine
end

