-- ==== Sys2Proof/Machine/TileRows.lean ====
section
/-!
DEFINITION. Tile arithmetic (R228, R234 to R236, R242). A tile holds Q1.15 elements, ACC Q18.30 ones.
-/

namespace Sys2Proof.Machine

/-- Element [r][c] of tile `t` as a number of units of 2^-15; a tile not in use reads as zero (R228). -/
def Core.elem (k : Core) (t r c : Fin 8) : Int :=
  if k.tuse.toNat.testBit t.val then
    (k.tiles[t][(⟨8 * r.val + c.val, by omega⟩ : Fin 64)]).toInt
  else 0

/-- Element [i][j] of the product of two tiles, exact in units of 2^-30. -/
def Core.prod (k : Core) (ta tb i j : Fin 8) : Int :=
  ((List.finRange 8).map fun n => k.elem ta i n * k.elem tb n j).sum

/-- The exact new value of ACC element `x` of row i, column j before accsat (R228). -/
def Core.accSum (k : Core) (ta tb : Fin 8) (x : Fin 64) : Int :=
  (k.acc[x]).toInt + k.prod ta tb (⟨x.val / 8, by omega⟩) (⟨x.val % 8, by omega⟩)

/-- The sum of an element saturates (R228). -/
def accClips (x : Int) : Bool := decide (satS 48 x ≠ x)

/-- A saturating 16-bit counter. -/
def inc16 (n : BitVec 16) : BitVec 16 := if n = 0xFFFF then n else n + 1

/-- Accumulate the elements that `p` selects: the effect of TMAC and TMACV on ACC and on the TIL set (R228,
R242). -/
def Core.accumulate (k : Core) (ta tb : Fin 8) (p : Fin 64 → Bool) : Core :=
  let clip := (List.finRange 64).any fun x => p x && accClips (k.accSum ta tb x)
  { k with
    acc := Vector.ofFn fun x => if p x then BitVec.ofInt 48 (satS 48 (k.accSum ta tb x)) else k.acc[x]
    tAccSat := k.tAccSat || clip
    tAccCnt := if clip then inc16 k.tAccCnt else k.tAccCnt }

/-- The value ADRAIN rounds to before saturation (R228). -/
def Core.drained (k : Core) (sh : Nat) (x : Fin 64) : Int := rhe 15 ((k.acc[x]).toInt * 2 ^ sh)

/-- The effect of ADRAIN (R228, R236, R242). -/
def Core.drain (k : Core) (td : Fin 8) (sh : Nat) (z : Bool) : Core :=
  let clip := (List.finRange 64).any fun x => decide (satS 16 (k.drained sh x) ≠ k.drained sh x)
  { k with
    tiles := k.tiles.set td (Vector.ofFn fun x => BitVec.ofInt 16 (satS 16 (k.drained sh x)))
    tuse := k.tuse ||| BitVec.ofNat 8 (2 ^ td.val)
    acc := if z then Vector.replicate 64 0 else k.acc
    tDrnSat := k.tDrnSat || clip
    tDrnCnt := if clip then inc16 k.tDrnCnt else k.tDrnCnt }

/-- TPROG records a move of tile `t` (R240). -/
def Core.recordsTile (k : Core) (t : Nat) : Bool :=
  k.tprog.toNat.testBit 31 && !k.tprog.toNat.testBit 27 && decide (bitsOf k.tprog.toNat 26 24 = t)

/-- The effect of TREL (R228, R236, R240). -/
def Core.release (k : Core) (t : Fin 8) : Core :=
  let k' := k.setTuse (k.tuse &&& ~~~(BitVec.ofNat 8 (2 ^ t.val)))
  if k.recordsTile t then { k' with tprog := 0 } else k'

/-- TMAC (R228). -/
def execTmac (c : Fin 3) (ta tb : Fin 8) (s : State) : Out :=
  .next (s.issue c 8 fun s => s.complete c [] fun k => (k.accumulate ta tb fun _ => true).next)

/-- TMACV (R228). -/
def execTmacv (c : Fin 3) (ta tb col : Fin 8) (s : State) : Out :=
  .next (s.issue c 2 fun s => s.complete c [] fun k =>
    (k.accumulate ta tb fun x => decide (x.val % 8 = col.val)).next)

/-- ADRAIN (R228). -/
def execAdrain (c : Fin 3) (td : Fin 8) (sh : Fin 16) (z : Bool) (s : State) : Out :=
  .next (s.issue c 2 fun s => s.complete c [] fun k => (k.drain td sh z).next)

/-- AZERO (R228). -/
def execAzero (c : Fin 3) (s : State) : Out :=
  .next (s.issue c 1 fun s => s.complete c [] fun k => { k.next with acc := Vector.replicate 64 0 })

/-- TREL (R228). -/
def execTrel (c : Fin 3) (t : Fin 8) (s : State) : Out :=
  .next (s.issue c 1 fun s => s.complete c [] fun k => (k.release t).next)

end Sys2Proof.Machine
end

