-- ==== Sys2Proof/Machine/Dispatch.lean ====
section
/-!
DEFINITION. Every command's meaning, one arm per constructor.
-/

namespace Sys2Proof.Machine

def exec (i : Instr) (s : State) : Host.Outcome State Fault Refusal :=
  match i with
  | .registerWrite q addr v => Sys2Proof.Machine.execRegisterWrite q addr v s
  | .wideValueLowRead q w => Sys2Proof.Machine.execWideValueLowRead q w s
  | .wideValueLowWrite q v => Sys2Proof.Machine.execWideValueLowWrite q v s
  | .wideValueHighWrite q v => Sys2Proof.Machine.execWideValueHighWrite q v s
  | .adcSoftwareStart q j v => Sys2Proof.Machine.execAdcSoftwareStart q j v s
  | .adcPendingSlotStart j => Sys2Proof.Machine.execAdcPendingSlotStart j s
  | .adcConversionDone j v e r => Sys2Proof.Machine.execAdcConversionDone j v e r s
  | .adcAverageDone j v e r => Sys2Proof.Machine.execAdcAverageDone j v e r s
  | .adcResultRead q j m => Sys2Proof.Machine.execAdcResultRead q j m s
  | .comparatorCrossing j a r edges => Sys2Proof.Machine.execComparatorCrossing j a r edges s
  | .cmpFilterSettled j => Sys2Proof.Machine.execCmpFilterSettled j s
  | .cmpBlankingEnd j => Sys2Proof.Machine.execCmpBlankingEnd j s
  | .dacWrite q r v => Sys2Proof.Machine.execDacWrite q r v s
  | .rfmMeasurementCycleEnd vi va vb selfOk => Sys2Proof.Machine.execRfmMeasurementCycleEnd vi va vb selfOk s
  | .rfmReferenceSwitch spans => Sys2Proof.Machine.execRfmReferenceSwitch spans s
  | .rfmSwitchDeadline spans => Sys2Proof.Machine.execRfmSwitchDeadline spans s
  | .rfmHoldoffEnd => Sys2Proof.Machine.execRfmHoldoffEnd s
  | .rfmWinWrite q v => Sys2Proof.Machine.execRfmWinWrite q v s
  | .lanePendingRunStart k => Sys2Proof.Machine.execLanePendingRunStart k s
  | .laneMaxageExpiry k => Sys2Proof.Machine.execLaneMaxageExpiry k s
  | .laneEnable q k v => Sys2Proof.Machine.execLaneEnable q k v s
  | .laneDisable q k v => Sys2Proof.Machine.execLaneDisable q k v s
  | .laneUpd q k v => Sys2Proof.Machine.execLaneUpd q k v s
  | .laneHclr q k v => Sys2Proof.Machine.execLaneHclr q k v s
  | .shedGroupEnable q g v => Sys2Proof.Machine.execShedGroupEnable q g v s
  | .heddleDestinationWrite q n v => Sys2Proof.Machine.execHeddleDestinationWrite q n v s
  | .heddleSoftwareStrobe q m => Sys2Proof.Machine.execHeddleSoftwareStrobe q m s
  | .heddleTick => Sys2Proof.Machine.execHeddleTick s
  | .pwmPeriodStart p => Sys2Proof.Machine.execPwmPeriodStart p s
  | .pwmEdgeCommit p e => Sys2Proof.Machine.execPwmEdgeCommit p e s
  | .pwmCompareEdge p e => Sys2Proof.Machine.execPwmCompareEdge p e s
  | .pwmCentrePeak p => Sys2Proof.Machine.execPwmCentrePeak p s
  | .pwmTriggerCompare p t down => Sys2Proof.Machine.execPwmTriggerCompare p t down s
  | .pwmCtTermination p => Sys2Proof.Machine.execPwmCtTermination p s
  | .pwmDeadTimeExpiry p outB => Sys2Proof.Machine.execPwmDeadTimeExpiry p outB s
  | .adtSwitchNodeTransition p fall count => Sys2Proof.Machine.execAdtSwitchNodeTransition p fall count s
  | .adtMissTimeout p fall => Sys2Proof.Machine.execAdtMissTimeout p fall s
  | .pwmShadowWrite q p r v => Sys2Proof.Machine.execPwmShadowWrite q p r v s
  | .pwmGuardedWrite q p r v n => Sys2Proof.Machine.execPwmGuardedWrite q p r v n s
  | .pwmValueLoad p n => Sys2Proof.Machine.execPwmValueLoad p n s
  | .pwmEnable q p v => Sys2Proof.Machine.execPwmEnable q p v s
  | .tripZoneInput t lvl ps => Sys2Proof.Machine.execTripZoneInput t lvl ps s
  | .softwareTripSet q setm clrm => Sys2Proof.Machine.execSoftwareTripSet q setm clrm s
  | .softwareTripClear q clrm setm => Sys2Proof.Machine.execSoftwareTripClear q clrm setm s
  | .tripClearRequest q p => Sys2Proof.Machine.execTripClearRequest q p s
  | .governorSample => Sys2Proof.Machine.execGovernorSample s
  | .governorComputation => Sys2Proof.Machine.execGovernorComputation s
  | .governorCeilingTimeout => Sys2Proof.Machine.execGovernorCeilingTimeout s
  | .capMeasurementTimeout => Sys2Proof.Machine.execCapMeasurementTimeout s
  | .tmrEnable q n v => Sys2Proof.Machine.execTmrEnable q n v s
  | .tmrCompareMatch n b => Sys2Proof.Machine.execTmrCompareMatch n b s
  | .tmrOverflow n => Sys2Proof.Machine.execTmrOverflow n s
  | .tmrCapture n rise held => Sys2Proof.Machine.execTmrCapture n rise held s
  | .tmrCaptureRead q n => Sys2Proof.Machine.execTmrCaptureRead q n s
  | .tmrCounterWrite q n v => Sys2Proof.Machine.execTmrCounterWrite q n v s
  | .tmrPinForce q n v => Sys2Proof.Machine.execTmrPinForce q n v s
  | .tbStep tb => Sys2Proof.Machine.execTbStep tb s
  | .staggerLoad q g v => Sys2Proof.Machine.execStaggerLoad q g v s
  | .globalStartGo q => Sys2Proof.Machine.execGlobalStartGo q s
  | .globalStartArm q => Sys2Proof.Machine.execGlobalStartArm q s
  | .globalStartCancel q => Sys2Proof.Machine.execGlobalStartCancel q s
  | .globalStartRelease => Sys2Proof.Machine.execGlobalStartRelease s
  | .warpSuperframeSlot => Sys2Proof.Machine.execWarpSuperframeSlot s
  | .warpTimeFrame tb m err => Sys2Proof.Machine.execWarpTimeFrame tb m err s
  | .warpTimeStepFrame tb => Sys2Proof.Machine.execWarpTimeStepFrame tb s
  | .warpGstartFrame g t => Sys2Proof.Machine.execWarpGstartFrame g t s
  | .warpMsgData first last mpass dst src xid frag data => Sys2Proof.Machine.execWarpMsgData first last mpass dst src xid frag data s
  | .warpMsgAck mpass dst src xid => Sys2Proof.Machine.execWarpMsgAck mpass dst src xid s
  | .warpMsgNakReset mpass dst src xid => Sys2Proof.Machine.execWarpMsgNakReset mpass dst src xid s
  | .warpMsgNakBusy mpass dst src xid => Sys2Proof.Machine.execWarpMsgNakBusy mpass dst src xid s
  | .warpEnumFrame count tag dev => Sys2Proof.Machine.execWarpEnumFrame count tag dev s
  | .warpCalMeasureFrame num acc t => Sys2Proof.Machine.execWarpCalMeasureFrame num acc t s
  | .warpCalResultFrame num lbar n => Sys2Proof.Machine.execWarpCalResultFrame num lbar n s
  | .warpBypassEnterFrame node => Sys2Proof.Machine.execWarpBypassEnterFrame node s
  | .warpBypassLeaveFrame node => Sys2Proof.Machine.execWarpBypassLeaveFrame node s
  | .warpBypassBreakFrame node => Sys2Proof.Machine.execWarpBypassBreakFrame node s
  | .warpBypassHealedFrame node => Sys2Proof.Machine.execWarpBypassHealedFrame node s
  | .warpBypassResetFrame node => Sys2Proof.Machine.execWarpBypassResetFrame node s
  | .warpEmptyFrame => Sys2Proof.Machine.execWarpEmptyFrame s
  | .warpReservedFrame sub payload => Sys2Proof.Machine.execWarpReservedFrame sub payload s
  | .warpCrcFailure => Sys2Proof.Machine.execWarpCrcFailure s
  | .warpTimeEvent => Sys2Proof.Machine.execWarpTimeEvent s
  | .warpCalibrationTimer => Sys2Proof.Machine.execWarpCalibrationTimer s
  | .warpCalibrationRetry => Sys2Proof.Machine.execWarpCalibrationRetry s
  | .warpMsgRetryTimeout xid => Sys2Proof.Machine.execWarpMsgRetryTimeout xid s
  | .warpMsgBusyResend xid => Sys2Proof.Machine.execWarpMsgBusyResend xid s
  | .warpMsgDeadline xid => Sys2Proof.Machine.execWarpMsgDeadline xid s
  | .warpLinkDown => Sys2Proof.Machine.execWarpLinkDown s
  | .warpTimeLost => Sys2Proof.Machine.execWarpTimeLost s
  | .warpRingOpen => Sys2Proof.Machine.execWarpRingOpen s
  | .warpLinkRestored => Sys2Proof.Machine.execWarpLinkRestored s
  | .warpSyncTimeout => Sys2Proof.Machine.execWarpSyncTimeout s
  | .warpPhaseSlewStep => Sys2Proof.Machine.execWarpPhaseSlewStep s
  | .warpGlobalStartRelease => Sys2Proof.Machine.execWarpGlobalStartRelease s
  | .warpSlotLoad q v => Sys2Proof.Machine.execWarpSlotLoad q v s
  | .plyMismatch ab ac bc => Sys2Proof.Machine.execPlyMismatch ab ac bc s
  | .plyResyncCopyDone => Sys2Proof.Machine.execPlyResyncCopyDone s
  | .plyResyncComplete => Sys2Proof.Machine.execPlyResyncComplete s
  | .plyScrub => Sys2Proof.Machine.execPlyScrub s
  | .plySplitComplete => Sys2Proof.Machine.execPlySplitComplete s
  | .plyJoinTcmCopyDone => Sys2Proof.Machine.execPlyJoinTcmCopyDone s
  | .plyJoinComplete => Sys2Proof.Machine.execPlyJoinComplete s
  | .plyUnrecoverableFault cause => Sys2Proof.Machine.execPlyUnrecoverableFault cause s
  | .plyRestartRelease => Sys2Proof.Machine.execPlyRestartRelease s
  | .plyWatchdogKick q v => Sys2Proof.Machine.execPlyWatchdogKick q v s
  | .plyWatchdogWarning c => Sys2Proof.Machine.execPlyWatchdogWarning c s
  | .plyWatchdogExpiry c => Sys2Proof.Machine.execPlyWatchdogExpiry c s
  | .add c rd ra rb => Sys2Proof.Machine.execAdd c rd ra rb s
  | .sub c rd ra rb => Sys2Proof.Machine.execSub c rd ra rb s
  | .and c rd ra rb => Sys2Proof.Machine.execAnd c rd ra rb s
  | .or c rd ra rb => Sys2Proof.Machine.execOr c rd ra rb s
  | .xor c rd ra rb => Sys2Proof.Machine.execXor c rd ra rb s
  | .slt c rd ra rb => Sys2Proof.Machine.execSlt c rd ra rb s
  | .sltu c rd ra rb => Sys2Proof.Machine.execSltu c rd ra rb s
  | .sll c rd ra rb => Sys2Proof.Machine.execSll c rd ra rb s
  | .srl c rd ra rb => Sys2Proof.Machine.execSrl c rd ra rb s
  | .sra c rd ra rb => Sys2Proof.Machine.execSra c rd ra rb s
  | .slli c rd ra n => Sys2Proof.Machine.execSlli c rd ra n s
  | .srli c rd ra n => Sys2Proof.Machine.execSrli c rd ra n s
  | .srai c rd ra n => Sys2Proof.Machine.execSrai c rd ra n s
  | .min c rd ra rb => Sys2Proof.Machine.execMin c rd ra rb s
  | .max c rd ra rb => Sys2Proof.Machine.execMax c rd ra rb s
  | .minu c rd ra rb => Sys2Proof.Machine.execMinu c rd ra rb s
  | .maxu c rd ra rb => Sys2Proof.Machine.execMaxu c rd ra rb s
  | .addi c rd ra imm => Sys2Proof.Machine.execAddi c rd ra imm s
  | .slti c rd ra imm => Sys2Proof.Machine.execSlti c rd ra imm s
  | .sltiu c rd ra imm => Sys2Proof.Machine.execSltiu c rd ra imm s
  | .andi c rd ra imm => Sys2Proof.Machine.execAndi c rd ra imm s
  | .ori c rd ra imm => Sys2Proof.Machine.execOri c rd ra imm s
  | .xori c rd ra imm => Sys2Proof.Machine.execXori c rd ra imm s
  | .lui c rd imm => Sys2Proof.Machine.execLui c rd imm s
  | .mul c rd ra rb => Sys2Proof.Machine.execMul c rd ra rb s
  | .mulh c rd ra rb => Sys2Proof.Machine.execMulh c rd ra rb s
  | .mulhu c rd ra rb => Sys2Proof.Machine.execMulhu c rd ra rb s
  | .div c rd ra rb => Sys2Proof.Machine.execDiv c rd ra rb s
  | .divu c rd ra rb => Sys2Proof.Machine.execDivu c rd ra rb s
  | .rem c rd ra rb => Sys2Proof.Machine.execRem c rd ra rb s
  | .remu c rd ra rb => Sys2Proof.Machine.execRemu c rd ra rb s
  | .sadd c rd ra rb => Sys2Proof.Machine.execSadd c rd ra rb s
  | .ssub c rd ra rb => Sys2Proof.Machine.execSsub c rd ra rb s
  | .sabs c rd ra => Sys2Proof.Machine.execSabs c rd ra s
  | .sat c rd ra n => Sys2Proof.Machine.execSat c rd ra n s
  | .sslli c rd ra n => Sys2Proof.Machine.execSslli c rd ra n s
  | .qmul c rd ra rb => Sys2Proof.Machine.execQmul c rd ra rb s
  | .qmul15 c rd ra rb => Sys2Proof.Machine.execQmul15 c rd ra rb s
  | .ldb c rd base disp => Sys2Proof.Machine.execLdb c rd base disp s
  | .ldbu c rd base disp => Sys2Proof.Machine.execLdbu c rd base disp s
  | .ldh c rd base disp => Sys2Proof.Machine.execLdh c rd base disp s
  | .ldhu c rd base disp => Sys2Proof.Machine.execLdhu c rd base disp s
  | .ldw c rd base disp => Sys2Proof.Machine.execLdw c rd base disp s
  | .stb c rs base disp => Sys2Proof.Machine.execStb c rs base disp s
  | .sth c rs base disp => Sys2Proof.Machine.execSth c rs base disp s
  | .stw c rs base disp => Sys2Proof.Machine.execStw c rs base disp s
  | .ldx c rd base disp => Sys2Proof.Machine.execLdx c rd base disp s
  | .stx c rs base disp => Sys2Proof.Machine.execStx c rs base disp s
  | .ldxReservationTimeout c => Sys2Proof.Machine.execLdxReservationTimeout c s
  | .iold c rd base disp => Sys2Proof.Machine.execIold c rd base disp s
  | .iost c rs base disp => Sys2Proof.Machine.execIost c rs base disp s
  | .beq c ra rb off => Sys2Proof.Machine.execBeq c ra rb off s
  | .bne c ra rb off => Sys2Proof.Machine.execBne c ra rb off s
  | .blt c ra rb off => Sys2Proof.Machine.execBlt c ra rb off s
  | .bge c ra rb off => Sys2Proof.Machine.execBge c ra rb off s
  | .bltu c ra rb off => Sys2Proof.Machine.execBltu c ra rb off s
  | .bgeu c ra rb off => Sys2Proof.Machine.execBgeu c ra rb off s
  | .j c off => Sys2Proof.Machine.execJ c off s
  | .call c off => Sys2Proof.Machine.execCall c off s
  | .jr c ra => Sys2Proof.Machine.execJr c ra s
  | .callr c ra => Sys2Proof.Machine.execCallr c ra s
  | .fence c => Sys2Proof.Machine.execFence c s
  | .wfi c => Sys2Proof.Machine.execWfi c s
  | .eret c => Sys2Proof.Machine.execEret c s
  | .handover c => Sys2Proof.Machine.execHandover c s
  | .joinwait c => Sys2Proof.Machine.execJoinwait c s
  | .wret c => Sys2Proof.Machine.execWret c s
  | .csrrd c rd n => Sys2Proof.Machine.execCsrrd c rd n s
  | .csrwr c n ra => Sys2Proof.Machine.execCsrwr c n ra s
  | .cacheInvalidate c ra => Sys2Proof.Machine.execCacheInvalidate c ra s
  | .mpuLock c ra => Sys2Proof.Machine.execMpuLock c ra s
  | .tld c t gs base disp stop => Sys2Proof.Machine.execTld c t gs base disp stop s
  | .tst c t gs base disp stop => Sys2Proof.Machine.execTst c t gs base disp stop s
  | .tsave c acc t base disp stop => Sys2Proof.Machine.execTsave c acc t base disp stop s
  | .trest c acc t base disp stop => Sys2Proof.Machine.execTrest c acc t base disp stop s
  | .tmac c ta tb => Sys2Proof.Machine.execTmac c ta tb s
  | .tmacv c ta tb col => Sys2Proof.Machine.execTmacv c ta tb col s
  | .adrain c td sh z => Sys2Proof.Machine.execAdrain c td sh z s
  | .azero c => Sys2Proof.Machine.execAzero c s
  | .trel c t => Sys2Proof.Machine.execTrel c t s
  | .unassignedEncoding c w => Sys2Proof.Machine.execUnassignedEncoding c w s
  | .cacheLineFill c a => Sys2Proof.Machine.execCacheLineFill c a s
  | .accessRetryReissue c => Sys2Proof.Machine.execAccessRetryReissue c s
  | .icuSourceEvent n => Sys2Proof.Machine.execIcuSourceEvent n s
  | .icuCoalesceTimerExpiry n => Sys2Proof.Machine.execIcuCoalesceTimerExpiry n s
  | .icuHoldoffEnd g => Sys2Proof.Machine.execIcuHoldoffEnd g s
  | .interruptEntry c raced => Sys2Proof.Machine.execInterruptEntry c raced s
  | .icuCompletion c ra => Sys2Proof.Machine.execIcuCompletion c ra s
  | .icuActclr q n => Sys2Proof.Machine.execIcuActclr q n s
  | .icuPendClear q n => Sys2Proof.Machine.execIcuPendClear q n s
  | .icuSgiSet q v => Sys2Proof.Machine.execIcuSgiSet q v s
  | .wfiWake c => Sys2Proof.Machine.execWfiWake c s
  | .dmaEnable q c v => Sys2Proof.Machine.execDmaEnable q c v s
  | .dmaDisable q c v => Sys2Proof.Machine.execDmaDisable q c v s
  | .dmaSoftwareTrigger q c v => Sys2Proof.Machine.execDmaSoftwareTrigger q c v s
  | .dmaDescriptorLoad c => Sys2Proof.Machine.execDmaDescriptorLoad c s
  | .dmaBeat => Sys2Proof.Machine.execDmaBeat s
  | .dmaDescriptorComplete c => Sys2Proof.Machine.execDmaDescriptorComplete c s
  | .dmaNextFetch c => Sys2Proof.Machine.execDmaNextFetch c s
  | .dmaRetryReissue c => Sys2Proof.Machine.execDmaRetryReissue c s
  | .wgateEntry c n => Sys2Proof.Machine.execWgateEntry c n s
  | .wgateReturn c => Sys2Proof.Machine.execWgateReturn c s
  | .wgateInfo c => Sys2Proof.Machine.execWgateInfo c s
  | .wgateUnassigned c idx => Sys2Proof.Machine.execWgateUnassigned c idx s
  | .sealedWatchdogExpiry => Sys2Proof.Machine.execSealedWatchdogExpiry s
  | .sealedReload q v => Sys2Proof.Machine.execSealedReload q v s
  | .sealedLoadComplete => Sys2Proof.Machine.execSealedLoadComplete s
  | .xspiRead a n => Sys2Proof.Machine.execXspiRead a n s
  | .xspiWrite a l => Sys2Proof.Machine.execXspiWrite a l s
  | .xspiReadStatus n => Sys2Proof.Machine.execXspiReadStatus n s
  | .xspiReadId n => Sys2Proof.Machine.execXspiReadId n s
  | .xspiResetEnable => Sys2Proof.Machine.execXspiResetEnable s
  | .xspiReset => Sys2Proof.Machine.execXspiReset s
  | .xspiUnknownCommand code => Sys2Proof.Machine.execXspiUnknownCommand code s
  | .xspiModeChange => Sys2Proof.Machine.execXspiModeChange s
  | .mailboxBufferWrite q n o d => Sys2Proof.Machine.execMailboxBufferWrite q n o d s
  | .mailboxDoorbell q v => Sys2Proof.Machine.execMailboxDoorbell q v s
  | .mailboxAcknowledge q v => Sys2Proof.Machine.execMailboxAcknowledge q v s
  | .mailboxRequestTake => Sys2Proof.Machine.execMailboxRequestTake s
  | .requestResume => Sys2Proof.Machine.execRequestResume s
  | .get => Sys2Proof.Machine.execGet s
  | .set => Sys2Proof.Machine.execSet s
  | .apply => Sys2Proof.Machine.execApply s
  | .commitStage => Sys2Proof.Machine.execCommitStage s
  | .commitWrite => Sys2Proof.Machine.execCommitWrite s
  | .stage => Sys2Proof.Machine.execStage s
  | .attest => Sys2Proof.Machine.execAttest s
  | .wipe => Sys2Proof.Machine.execWipe s
  | .watch => Sys2Proof.Machine.execWatch s
  | .forget => Sys2Proof.Machine.execForget s
  | .noticeDelivery j => Sys2Proof.Machine.execNoticeDelivery j s
  | .doPing => Sys2Proof.Machine.execDoPing s
  | .doPowerState => Sys2Proof.Machine.execDoPowerState s
  | .doWarpGstart => Sys2Proof.Machine.execDoWarpGstart s
  | .doWarpSend => Sys2Proof.Machine.execDoWarpSend s
  | .doWarpReset => Sys2Proof.Machine.execDoWarpReset s
  | .doWarpCal => Sys2Proof.Machine.execDoWarpCal s
  | .doLcTransition => Sys2Proof.Machine.execDoLcTransition s
  | .doLcToken => Sys2Proof.Machine.execDoLcToken s
  | .doLcScrap => Sys2Proof.Machine.execDoLcScrap s
  | .doFwVerify => Sys2Proof.Machine.execDoFwVerify s
  | .doFwActivate => Sys2Proof.Machine.execDoFwActivate s
  | .fwStatusCommit => Sys2Proof.Machine.execFwStatusCommit s
  | .doDrbgRandom => Sys2Proof.Machine.execDoDrbgRandom s
  | .doDrbgGenerate => Sys2Proof.Machine.execDoDrbgGenerate s
  | .doTamperClear live => Sys2Proof.Machine.execDoTamperClear live s
  | .doDraftImage => Sys2Proof.Machine.execDoDraftImage s
  | .doSeqRun => Sys2Proof.Machine.execDoSeqRun s
  | .doSeqUndo => Sys2Proof.Machine.execDoSeqUndo s
  | .sequenceStep timeout => Sys2Proof.Machine.execSequenceStep timeout s
  | .fanServiceTick a b c d => Sys2Proof.Machine.execFanServiceTick a b c d s
  | .crerusRestartComplete kat => Sys2Proof.Machine.execCrerusRestartComplete kat s
  | .crerusWatchdogExpiry => Sys2Proof.Machine.execCrerusWatchdogExpiry s
  | .vendorFirmwareStart kat => Sys2Proof.Machine.execVendorFirmwareStart kat s
  | .queueSubmit v => Sys2Proof.Machine.execQueueSubmit v s
  | .queueTake => Sys2Proof.Machine.execQueueTake s
  | .jappend => Sys2Proof.Machine.execJappend s
  | .jread => Sys2Proof.Machine.execJread s
  | .kstore => Sys2Proof.Machine.execKstore s
  | .kfetch => Sys2Proof.Machine.execKfetch s
  | .bwrite => Sys2Proof.Machine.execBwrite s
  | .bread => Sys2Proof.Machine.execBread s
  | .flush => Sys2Proof.Machine.execFlush s
  | .barrier => Sys2Proof.Machine.execBarrier s
  | .queueCompletionPost => Sys2Proof.Machine.execQueueCompletionPost s
  | .queueConsume v => Sys2Proof.Machine.execQueueConsume v s
  | .queueReset v => Sys2Proof.Machine.execQueueReset v s
  | .journalDeferTimeout => Sys2Proof.Machine.execJournalDeferTimeout s
  | .journalPageDone r => Sys2Proof.Machine.execJournalPageDone r s
  | .journalScanComplete => Sys2Proof.Machine.execJournalScanComplete s
  | .tamperDetection src now => Sys2Proof.Machine.execTamperDetection src now s
  | .tamperSwitchFilterExpiry w => Sys2Proof.Machine.execTamperSwitchFilterExpiry w s
  | .meshBitPeriod n sense => Sys2Proof.Machine.execMeshBitPeriod n sense s
  | .meshReseed => Sys2Proof.Machine.execMeshReseed s
  | .tamperWipeComplete => Sys2Proof.Machine.execTamperWipeComplete s
  | .tamperJournalRecord => Sys2Proof.Machine.execTamperJournalRecord s
  | .entropyHealthFailure again => Sys2Proof.Machine.execEntropyHealthFailure again s
  | .flashArm q v => Sys2Proof.Machine.execFlashArm q v s
  | .flashProgram q => Sys2Proof.Machine.execFlashProgram q s
  | .flashErase q => Sys2Proof.Machine.execFlashErase q s
  | .flashBadcmd q three => Sys2Proof.Machine.execFlashBadcmd q three s
  | .flashSequenceLapse => Sys2Proof.Machine.execFlashSequenceLapse s
  | .flashOperationComplete bank ok => Sys2Proof.Machine.execFlashOperationComplete bank ok s
  | .lcRequest q v => Sys2Proof.Machine.execLcRequest q v s
  | .lcScrapArm q => Sys2Proof.Machine.execLcScrapArm q s
  | .lcScrapConfirm q v => Sys2Proof.Machine.execLcScrapConfirm q v s
  | .lcScrapTimeout => Sys2Proof.Machine.execLcScrapTimeout s
  | .lcTransitionStepDone => Sys2Proof.Machine.execLcTransitionStepDone s
  | .fuseProgram q => Sys2Proof.Machine.execFuseProgram q s
  | .fuseLockrow q => Sys2Proof.Machine.execFuseLockrow q s
  | .fuseProgramDone bad => Sys2Proof.Machine.execFuseProgramDone bad s
  | .sysKeyWrite q v => Sys2Proof.Machine.execSysKeyWrite q v s
  | .sysKeyUnlockExpiry q => Sys2Proof.Machine.execSysKeyUnlockExpiry q s
  | .tapReset => Sys2Proof.Machine.execTapReset s
  | .jtagExtest b => Sys2Proof.Machine.execJtagExtest b s
  | .jtagSamplePreload b => Sys2Proof.Machine.execJtagSamplePreload b s
  | .jtagIdcode => Sys2Proof.Machine.execJtagIdcode s
  | .jtagClamp => Sys2Proof.Machine.execJtagClamp s
  | .jtagHighz => Sys2Proof.Machine.execJtagHighz s
  | .jtagDbgstat => Sys2Proof.Machine.execJtagDbgstat s
  | .jtagBypass => Sys2Proof.Machine.execJtagBypass s
  | .dbgapRead act a => Sys2Proof.Machine.execDbgapRead act a s
  | .dbgapWrite a v => Sys2Proof.Machine.execDbgapWrite a v s
  | .dbgapNop => Sys2Proof.Machine.execDbgapNop s
  | .dbgauthReadChallenge => Sys2Proof.Machine.execDbgauthReadChallenge s
  | .dbgauthWriteCertificate w => Sys2Proof.Machine.execDbgauthWriteCertificate w s
  | .dbgauthNewchal => Sys2Proof.Machine.execDbgauthNewchal s
  | .dbgauthSubmit => Sys2Proof.Machine.execDbgauthSubmit s
  | .debugCertCheckDone => Sys2Proof.Machine.execDebugCertCheckDone s
  | .debugGrantExpiry => Sys2Proof.Machine.execDebugGrantExpiry s
  | .debugRevoke => Sys2Proof.Machine.execDebugRevoke s
  | .debugHaltRequest v => Sys2Proof.Machine.execDebugHaltRequest v s
  | .debugHalt c => Sys2Proof.Machine.execDebugHalt c s
  | .debugHaltDeferralExpiry c => Sys2Proof.Machine.execDebugHaltDeferralExpiry c s
  | .debugResume v => Sys2Proof.Machine.execDebugResume v s
  | .debugStep v => Sys2Proof.Machine.execDebugStep v s
  | .debugRegisterAccess w v => Sys2Proof.Machine.execDebugRegisterAccess w v s
  | .debugBurst v => Sys2Proof.Machine.execDebugBurst v s
  | .clockMonitorWindowEnd nx nw nr nt good => Sys2Proof.Machine.execClockMonitorWindowEnd nx nw nr nt good s
  | .clockReferenceLost r => Sys2Proof.Machine.execClockReferenceLost r s
  | .pllRelockDone => Sys2Proof.Machine.execPllRelockDone s
  | .pllLockLoss => Sys2Proof.Machine.execPllLockLoss s
  | .pllRelockTimeout => Sys2Proof.Machine.execPllRelockTimeout s
  | .clockHoldoffEnd => Sys2Proof.Machine.execClockHoldoffEnd s
  | .powerAckReady q v => Sys2Proof.Machine.execPowerAckReady q v s
  | .powerForcedStopTimeout c => Sys2Proof.Machine.execPowerForcedStopTimeout c s
  | .powerEntryContinue => Sys2Proof.Machine.execPowerEntryContinue s
  | .domainQuiesceComplete d => Sys2Proof.Machine.execDomainQuiesceComplete d s
  | .domainPowerUpComplete d => Sys2Proof.Machine.execDomainPowerUpComplete d s
  | .domainUnplannedLoss lost => Sys2Proof.Machine.execDomainUnplannedLoss lost s
  | .domainRestart d => Sys2Proof.Machine.execDomainRestart d s
  | .powerWake n => Sys2Proof.Machine.execPowerWake n s
  | .powerExitComplete => Sys2Proof.Machine.execPowerExitComplete s
  | .pd7PowerRequest q v => Sys2Proof.Machine.execPd7PowerRequest q v s
  | .pd11PowerRequest q v => Sys2Proof.Machine.execPd11PowerRequest q v s
  | .sramBankPowerRequest q v => Sys2Proof.Machine.execSramBankPowerRequest q v s
  | .mainSupplyLoss => Sys2Proof.Machine.execMainSupplyLoss s
  | .powerOnReset => Sys2Proof.Machine.execPowerOnReset s
  | .brownOut supply => Sys2Proof.Machine.execBrownOut supply s
  | .resetPin => Sys2Proof.Machine.execResetPin s
  | .softwareReset q v => Sys2Proof.Machine.execSoftwareReset q v s
  | .resetRelease margin bootsel vioa33 refs => Sys2Proof.Machine.execResetRelease margin bootsel vioa33 refs s
  | .gpioInputEvent lv => Sys2Proof.Machine.execGpioInputEvent lv s
  | .encoderCountWrite q v => Sys2Proof.Machine.execEncoderCountWrite q v s
  | .gpioOutputSet q v => Sys2Proof.Machine.execGpioOutputSet q v s
  | .gpioOutputClear q v => Sys2Proof.Machine.execGpioOutputClear q v s
  | .gpioMuxWrite q n v => Sys2Proof.Machine.execGpioMuxWrite q n v s
  | .uartTransmitData q v => Sys2Proof.Machine.execUartTransmitData q v s
  | .uartTransmitCharacter => Sys2Proof.Machine.execUartTransmitCharacter s
  | .uartReceiveCharacter d par stop => Sys2Proof.Machine.execUartReceiveCharacter d par stop s
  | .uartBreak => Sys2Proof.Machine.execUartBreak s
  | .uartReceiveTimeout => Sys2Proof.Machine.execUartReceiveTimeout s
  | .uartReceiveDataRead q => Sys2Proof.Machine.execUartReceiveDataRead q s
  | .i2cTransferStart q v => Sys2Proof.Machine.execI2cTransferStart q v s
  | .i2cControllerByte ack d => Sys2Proof.Machine.execI2cControllerByte ack d s
  | .i2cTransferComplete => Sys2Proof.Machine.execI2cTransferComplete s
  | .i2cArbitrationLost => Sys2Proof.Machine.execI2cArbitrationLost s
  | .i2cControllerDisable q v => Sys2Proof.Machine.execI2cControllerDisable q v s
  | .i2cTargetAddressed a rd => Sys2Proof.Machine.execI2cTargetAddressed a rd s
  | .i2cTargetByte ack d => Sys2Proof.Machine.execI2cTargetByte ack d s
  | .i2cStop again => Sys2Proof.Machine.execI2cStop again s
  | .i2cStretchLimit => Sys2Proof.Machine.execI2cStretchLimit s
  | .i2cTransmitData q v => Sys2Proof.Machine.execI2cTransmitData q v s
  | .i2cReceiveDataRead q => Sys2Proof.Machine.execI2cReceiveDataRead q s
  | .thermalSample t => Sys2Proof.Machine.execThermalSample t s
  | .advisoryRecord => Sys2Proof.Machine.execAdvisoryRecord s
  | .boardServiceSet b => Sys2Proof.Machine.execBoardServiceSet b s
  | .laneApplyTimeout => Sys2Proof.Machine.execLaneApplyTimeout s
  | .uartTransmitComplete => Sys2Proof.Machine.execUartTransmitComplete s
  | .i2cStartCondition => Sys2Proof.Machine.execI2cStartCondition s
  | .i2cBusFree => Sys2Proof.Machine.execI2cBusFree s
  | .journalChainVerifyDone => Sys2Proof.Machine.execJournalChainVerifyDone s

end Sys2Proof.Machine
end

