-- ==== Sys2Proof/Frame.lean ====
section
/-!
DEFINITION. How statements say what a command leaves unchanged: the parts of the state, the frame `OnlyIn`, and
what a well-kept state is.
-/

namespace Sys2Proof.Machine

/-- The parts of the state beside the queue of commands: one for each field, and the registers by the power
domain that holds them. -/
inductive Part where
  | free | resp | frozen | key | time | icu | adc | res | cmp | dac | rfm | lane | shed | hedCnt | pwm | trip | pad
  | loomCfg | fuseLoaded | gov | tmr | dma | dmaLast | health | core | ply | wld | seq | vrec | warp | crerus | queue
  | jrnl | flash | custody | lc | fuse | shadow | pwr | rst | clk | dbg | xspi | uart | i2c | mem
  | pd (d : Nat)
deriving DecidableEq, Repr

/-- The number of a part. -/
def Part.idx : Part → Nat
  | .free => 0
  | .resp => 1
  | .frozen => 2
  | .key => 3
  | .time => 4
  | .icu => 5
  | .adc => 6
  | .res => 7
  | .cmp => 8
  | .dac => 9
  | .rfm => 10
  | .lane => 11
  | .shed => 12
  | .hedCnt => 13
  | .pwm => 14
  | .trip => 15
  | .pad => 16
  | .loomCfg => 17
  | .fuseLoaded => 18
  | .gov => 19
  | .tmr => 20
  | .dma => 21
  | .dmaLast => 22
  | .health => 23
  | .core => 24
  | .ply => 25
  | .wld => 26
  | .seq => 27
  | .vrec => 28
  | .warp => 29
  | .crerus => 30
  | .queue => 31
  | .jrnl => 32
  | .flash => 33
  | .custody => 34
  | .lc => 35
  | .fuse => 36
  | .shadow => 37
  | .pwr => 38
  | .rst => 39
  | .clk => 40
  | .dbg => 41
  | .xspi => 42
  | .uart => 43
  | .i2c => 44
  | .mem => 45
  | .pd d => 46 + min d 12

/-- The part is equal in both states. -/
def Part.same (p : Part) (s t : State) : Prop :=
  match p with
  | .free => t.free = s.free
  | .resp => t.resp = s.resp
  | .frozen => t.frozen = s.frozen
  | .key => t.key = s.key
  | .time => t.time = s.time
  | .icu => t.icu = s.icu
  | .adc => t.adc = s.adc
  | .res => t.res = s.res
  | .cmp => t.cmp = s.cmp
  | .dac => t.dac = s.dac
  | .rfm => t.rfm = s.rfm
  | .lane => t.lane = s.lane
  | .shed => t.shed = s.shed
  | .hedCnt => t.hedCnt = s.hedCnt
  | .pwm => t.pwm = s.pwm
  | .trip => t.trip = s.trip
  | .pad => t.pad = s.pad
  | .loomCfg => t.loomCfg = s.loomCfg
  | .fuseLoaded => t.fuseLoaded = s.fuseLoaded
  | .gov => t.gov = s.gov
  | .tmr => t.tmr = s.tmr
  | .dma => t.dma = s.dma
  | .dmaLast => t.dmaLast = s.dmaLast
  | .health => t.health = s.health
  | .core => t.core = s.core
  | .ply => t.ply = s.ply
  | .wld => t.wld = s.wld
  | .seq => t.seq = s.seq
  | .vrec => t.vrec = s.vrec
  | .warp => t.warp = s.warp
  | .crerus => t.crerus = s.crerus
  | .queue => t.queue = s.queue
  | .jrnl => t.jrnl = s.jrnl
  | .flash => t.flash = s.flash
  | .custody => t.custody = s.custody
  | .lc => t.lc = s.lc
  | .fuse => t.fuse = s.fuse
  | .shadow => t.shadow = s.shadow
  | .pwr => t.pwr = s.pwr
  | .rst => t.rst = s.rst
  | .clk => t.clk = s.clk
  | .dbg => t.dbg = s.dbg
  | .xspi => t.xspi = s.xspi
  | .uart => t.uart = s.uart
  | .i2c => t.i2c = s.i2c
  | .mem => t.mem = s.mem
  | .pd d => ∀ f : Fld, f.pd = d → t.regs.get f = s.regs.get f

/-- Every value in the store fits its field. -/
def regsFit (r : Regs) : Prop := ∀ x ∈ r, x.2 < 2 ^ x.1.w

/-- The state is well kept: memory is canonical, and every register field holds a value that fits it, in the store
and in the retention of PD0. -/
structure State.Kept (s : State) : Prop where
  mem : memWf s.mem = true
  regs : regsFit s.regs
  saved : ∀ r, s.icu.saved = some r → regsFit r

/-- Every part of the state that `L` does not list is the same in `t` as in `s`, and so is the queue of commands. The
registers of a power domain are one part, so an unlisted domain keeps every register. -/
def OnlyIn (L : List Part) (s t : State) : Prop :=
  t.pending = s.pending ∧ ∀ p : Part, (∀ q ∈ L, q.idx ≠ p.idx) → p.same s t

/-- Every register field that `P` does not hold of reads the same in `t` as in `s`. -/
def RegsOnly (P : Fld → Prop) (s t : State) : Prop := ∀ f : Fld, ¬ P f → t.get f = s.get f

/-- The fields of interrupt source `n` that an event changes (R251). -/
def Fld.ofSource (n : Nat) (f : Fld) : Prop := f = R.ICU_STS_PEND n ∨ f = R.ICU_STS_EVC n

end Sys2Proof.Machine
end

