-- ==== Sys2Proof/Safety.lean ====
section
/-!
DEFINITION. The terms in which statements about the machine are made: the states in which a strand issues an
instruction as written, what the end of an instruction leaves, and the groups of instructions of one shape.
-/

namespace Sys2Proof.Machine

/-! ### Strands -/

/-- Core `c` issues the instruction at its PC with nothing in its way: it can issue, no fetch breakpoint matches
(R448), the fetch is allowed (R193), reads a majority (R170) and finds its line (R196), and no step is in progress
(R447). -/
structure State.Ready (s : State) (c : Nat) : Prop where
  issues : s.canIssue c = true
  noBreak : (s.coreAt c).resumed = true ∨ s.bpMatch c (s.coreAt c).pc.toNat [0] = none
  fetch : s.fetchReason (s.coreAt c) (s.coreAt c).pc.toNat = none
  sound : (s.coreAt c).pc.toNat < 0x20000 → s.tcmBad itcmKey c (s.coreAt c).pc.toNat = false
  cached : s.misses c = false
  noStep : (s.coreAt c).step = false

/-- Nothing but logical core `c` differs between `s` and `t`. -/
def CoreOnly (c : Fin 3) (s t : State) : Prop :=
  OnlyIn [.core] s t ∧ ∀ d : Fin 3, d ≠ c → t.coreAt d = s.coreAt d

/-- The value of register `r` after an instruction that does not write it: a load before the instruction has now
written its destination (R195), and g0 reads 0 (R190). -/
def Core.rest (k : Core) (r : Fin 32) : Word :=
  match k.ld with
  | some (q, w) => if q = r ∧ r ≠ 0 then w else k.rd r
  | none => k.rd r

/-- An instruction of `n` cycles has ended on `k`, which is `k'` now and goes on at `pc`. It wrote general registers
alone: every other register of the core is as it was (R195, R205, R229). -/
def Core.Ran (k k' : Core) (pc : Word) (n : Nat) : Prop :=
  k' = { k with
    g := k'.g, pc := pc, cycle := k.cycle + BitVec.ofNat 32 n, ld := none, ldNext := none
    fromEret := false, fresh := false, resumed := false, fetchO := k.mpuO, fetchS := k.mpuS }

/-- A general register that no instruction has written since holds its value, or the value of a load whose slot has
now passed. -/
def Core.KeepsRegs (k k' : Core) : Prop := ∀ r, k'.rd r = k.rest r

/-- The general registers after a load of `rd`: as `Core.KeepsRegs`, but a load before it of the same register is lost,
since the slot's write prevails (R195). -/
def Core.KeepsLoaded (k k' : Core) (rd : Fin 32) : Prop := ∀ r, k'.rd r = if r = rd then k.rd r else k.rest r

/-- An access to the D-TCM of core `c` of `n` bytes at `ea` has nothing in its way: it is aligned (R194), allowed
(R193, R205), its copies have a majority where it reads (R170), and no data breakpoint matches (R448). -/
structure State.TcmAccess (s : State) (c : Nat) (ea : Word) (n : Nat) (w : Bool) : Prop where
  aligned : ea.toNat % n = 0
  allowed : s.dataReason (s.coreAt c) ea.toNat w = none
  tcm : ea.toNat < 0x20000
  sound : w = false → s.tcmFails c ea.toNat = false
  noBreak : s.bpMatch c ea.toNat [if w then 2 else 1, 3] = none

/-- A core whose instruction made an access and has ended: as `Core.Ran`, with no access waiting, and with the load
`ld` whose destination the next instruction still sees unwritten (R195). -/
def Core.RanMem (k k' : Core) (n : Nat) (ld : Option (Fin 32 × Word)) : Prop :=
  k' = { k with
    g := k'.g, pc := k.pc + 4, cycle := k.cycle + BitVec.ofNat 32 n, ld := ld, ldNext := none
    fromEret := false, fresh := false, resumed := false, fetchO := k.mpuO, fetchS := k.mpuS, wait := none, retries := 0 }

/-- The command `i` runs on core `c` in `n` cycles, goes on at `pc`, writes `v` into `rd` and changes nothing else. -/
def WritesReg (i : Instr) (s : State) (c : Fin 3) (rd : Fin 32) (v : Word) (pc : Word) (n : Nat) : Prop :=
  ∃ t, exec i s = .next t ∧ CoreOnly c s t ∧ (s.coreAt c).Ran (t.coreAt c) pc n
    ∧ ∀ r, (t.coreAt c).rd r = if r = 0 then 0 else if r = rd then v else (s.coreAt c).rest r

/-- Core `k` has taken an exception in an instruction of `n` cycles and is `k'` now (R200): EPC holds the address of the
instruction, PSTAT and PIPRI the status and priority from before, interrupts are off, EXL is set, the cause is written,
the reservation is dropped, and the handler at EVEC is next, 8 cycles on. General registers are as they were. -/
def Core.Entered (k' k : Core) (code : Nat) (eaddr : Word) (einfo n : Nat) : Prop :=
  k.KeepsRegs k' ∧
  k' = { k with
    g := k'.g, pc := k.evec, cycle := k.cycle + BitVec.ofNat 32 n + 8
    epc := BitVec.ofNat 32 (k.pc.toNat / 4 * 4), pexl := k.exl, pie := k.ie, pipri := k.ipri
    ie := false, exl := true, ecInt := false, ecCode := BitVec.ofNat 8 code, eaddr := eaddr, einfo := BitVec.ofNat 8 einfo
    res := none, locked := false, ld := none, ldNext := none, fromEret := false, fresh := false, resumed := false
    fetchO := k.mpuO, fetchS := k.mpuS, wait := none, retries := 0 }

/-- The move a TLD (`op` 0) or TST (`op` 1) of core `k` makes, from row 0 (R226): g[gs] gives the stride and the rows. -/
def tileMoveOf (k : Core) (op : BitVec 3) (u : Fin 8) (gs base : Fin 32) (disp : BitVec 12) : Move :=
  let g := (k.rd gs).toNat
  { op := op, acc := false, t := BitVec.ofNat 3 u.val, ea := k.rd base + dispOf disp, stride := sx 16 g
    rows := if g / 2 ^ 16 % 16 = 0 ∨ 8 < g / 2 ^ 16 % 16 then 8 else g / 2 ^ 16 % 16
    row := 0, moved := 0, stop := 0, cont := false }

/-- The move a TSAVE (`op` 2) or TREST (`op` 3) makes, from row 0 (R227): 8 rows of a tile or 24 of ACC. -/
def tileSaveOf (k : Core) (op : BitVec 3) (acc : Bool) (u : Fin 8) (base : Fin 32) (disp : BitVec 12) : Move :=
  { op := op, acc := acc, t := BitVec.ofNat 3 u.val, ea := k.rd base + dispOf disp, stride := 16
    rows := if acc then 24 else 8, row := 0, moved := 0, stop := 0, cont := false }

/-- Nothing stands in the way of the move `m`: it does not continue an earlier one (R239), it is aligned (R226), every
row lies in the D-TCM, is allowed and reads a majority, and no data breakpoint matches. -/
structure State.MoveClear (s : State) (c : Nat) (m : Move) : Prop where
  fresh : (s.coreAt c).matches m = false
  aligned : m.ea.toNat % 16 = 0 ∧ m.stride % 16 = 0
  allowed : ∀ r, r < m.rows → s.dataReason (s.coreAt c) (m.rowEa r).toNat m.writes = none
  tcm : ∀ r, r < m.rows → (m.rowEa r).toNat < 0x20000
  sound : ∀ r, r < m.rows → m.writes = false → s.tcmFails c (m.rowEa r).toNat = false
  noBreak : ∀ r, r < m.rows → s.bpMatch c (m.rowEa r).toNat [if m.writes then 2 else 1, 3] = none

/-- The register-to-register instructions of Table 10.3: the instruction, its result, its cycles (R214, R216, R217). -/
def regOps : List ((Fin 3 → Fin 32 → Fin 32 → Fin 32 → Instr) × (Word → Word → Word) × Nat) :=
  [(.add, fun x y => x + y, 1), (.sub, fun x y => x - y, 1), (.and, fun x y => x &&& y, 1),
   (.or, fun x y => x ||| y, 1), (.xor, fun x y => x ^^^ y, 1),
   (.slt, fun x y => if x.toInt < y.toInt then 1 else 0, 1), (.sltu, fun x y => if x.toNat < y.toNat then 1 else 0, 1),
   (.sll, fun x y => x <<< (y.toNat % 32), 1), (.srl, fun x y => x >>> (y.toNat % 32), 1),
   (.sra, fun x y => BitVec.ofInt 32 (x.toInt / 2 ^ (y.toNat % 32)), 1),
   (.min, fun x y => if x.toInt < y.toInt then x else y, 1), (.max, fun x y => if x.toInt < y.toInt then y else x, 1),
   (.minu, fun x y => if x.toNat < y.toNat then x else y, 1), (.maxu, fun x y => if x.toNat < y.toNat then y else x, 1)]

/-- The multiplications and divisions (R216). -/
def mulOps : List ((Fin 3 → Fin 32 → Fin 32 → Fin 32 → Instr) × (Word → Word → Word) × Nat) :=
  [(.mul, fun x y => BitVec.ofInt 32 (x.toInt * y.toInt), 1),
   (.mulh, fun x y => BitVec.ofInt 32 (x.toInt * y.toInt / 2 ^ 32), 2),
   (.mulhu, fun x y => BitVec.ofNat 32 (x.toNat * y.toNat / 2 ^ 32), 2),
   (.div, fun x y => if y = 0 then 0xFFFFFFFF else BitVec.ofInt 32 (x.toInt.tdiv y.toInt), 18),
   (.divu, fun x y => if y = 0 then 0xFFFFFFFF else BitVec.ofNat 32 (x.toNat / y.toNat), 18),
   (.rem, fun x y => if y = 0 then x else BitVec.ofInt 32 (x.toInt.tmod y.toInt), 18),
   (.remu, fun x y => if y = 0 then x else BitVec.ofNat 32 (x.toNat % y.toNat), 18)]

/-- The saturating instructions of two registers (R217). -/
def satOps : List ((Fin 3 → Fin 32 → Fin 32 → Fin 32 → Instr) × (Word → Word → Word) × Nat) :=
  [(.sadd, fun x y => BitVec.ofInt 32 (satS 32 (x.toInt + y.toInt)), 1),
   (.ssub, fun x y => BitVec.ofInt 32 (satS 32 (x.toInt - y.toInt)), 1),
   (.qmul, fun x y => BitVec.ofInt 32 (satS 32 (rhe 31 (x.toInt * y.toInt))), 2),
   (.qmul15, fun x y =>
      BitVec.ofInt 32 (satS 16 (rhe 15 ((x.setWidth 16).toInt * (y.setWidth 16).toInt))), 1)]

/-- The shifts by a constant (R214). -/
def shiftOps : List ((Fin 3 → Fin 32 → Fin 32 → Fin 32 → Instr) × (Word → Nat → Word)) :=
  [(.slli, fun x n => x <<< n), (.srli, fun x n => x >>> n), (.srai, fun x n => BitVec.ofInt 32 (x.toInt / 2 ^ n))]

/-- The instructions with a 16-bit immediate (R215). -/
def immOps : List ((Fin 3 → Fin 32 → Fin 32 → BitVec 16 → Instr) × (Word → BitVec 16 → Word)) :=
  [(.addi, fun x i => BitVec.ofInt 32 (x.toInt + i.toInt)),
   (.slti, fun x i => if x.toInt < i.toInt then 1 else 0),
   (.sltiu, fun x i => if x.toNat < (i.signExtend 32).toNat then 1 else 0),
   (.andi, fun x i => x &&& BitVec.ofNat 32 i.toNat), (.ori, fun x i => x ||| BitVec.ofNat 32 i.toNat),
   (.xori, fun x i => x ^^^ BitVec.ofNat 32 i.toNat)]

/-- The branches and their conditions (R220). -/
def branchOps : List ((Fin 3 → Fin 32 → Fin 32 → BitVec 16 → Instr) × (Word → Word → Bool)) :=
  [(.beq, fun x y => decide (x = y)), (.bne, fun x y => decide (x ≠ y)),
   (.blt, fun x y => decide (x.toInt < y.toInt)), (.bge, fun x y => decide (y.toInt ≤ x.toInt)),
   (.bltu, fun x y => decide (x.toNat < y.toNat)), (.bgeu, fun x y => decide (y.toNat ≤ x.toNat))]

/-- The loads: bytes and whether the value is signed (R218). -/
def loadOps : List ((Fin 3 → Fin 32 → Fin 32 → BitVec 16 → Instr) × Nat × Bool) :=
  [(.ldb, 1, true), (.ldbu, 1, false), (.ldh, 2, true), (.ldhu, 2, false), (.ldw, 4, false)]

/-- The stores and their bytes (R218). -/
def storeOps : List ((Fin 3 → Fin 32 → Fin 32 → BitVec 16 → Instr) × Nat) := [(.stb, 1), (.sth, 2), (.stw, 4)]

/-! ### The Loom -/

/-- The state after a write of LNk_CTRL has set its fields and the governor's flags have followed them, before the enable
or disable it asks for (R65). -/
def State.laneWritten (s : State) (q : Who) (k v : Nat) : State :=
  let s := (s.reply q.req .ok 0).writeReg q (0xC000 + 0x100 * k) v
  ((if v.testBit 29 then s.updLane k fun l => { l with hclr := true } else s).set (R.LN_CTRL_HCLR k) 0).govJudge

/-! ### The Warp bus -/

/-- The node is a member of the ring whose inbound frames act: PD9 is ON, its link is there, it is not node 0, and no SYS
reset holds it (R143, R159). -/
structure State.Member (s : State) : Prop where
  on9 : s.on 9 = true
  link : s.flag R.WRP_STAT_LINKDOWN = false
  role : s.isMaster = false
  runs : s.rst.asserted = false

/-- The node is node 0 outside bypass, with its link (R145). -/
structure State.Node0 (s : State) : Prop where
  on9 : s.on 9 = true
  link : s.flag R.WRP_STAT_LINKDOWN = false
  role : s.isMaster = true
  active : s.inBypass = false

/-! ### Crerus and the custody queue -/

/-- The request `j` is the one Crerus serves next: Crerus serves requests, and `j` is the first of those it has taken that
waits for nothing and is not held behind its group (R322). -/
structure State.Serves (s : State) (j : Job) : Prop where
  up : s.crerusUp = true
  first : s.jobs.find? (fun x => decide (x.wait = .none) && !s.jobBlocked x) = some j

/-- The custody engine is ready for a request: no tamper response stands and the engine refuses nothing (R386, R492). -/
structure State.EngineFree (s : State) : Prop where
  calm : s.flag R.TMP_STAT_RESP = false
  works : s.engineRefuses = false
  ready : s.engineReady = true

/-- The command `c` of verb `opc` is the one that starts next: the queue is served, vendor firmware owes no record, the
verb's resource is free, and of the taken commands of the verb that may start, with no earlier mailbox request of the
journal open, `c` is the first (R347, R356). -/
structure State.Starts (s : State) (opc : Nat) (c : QCmd) : Prop where
  serves : s.qServes = true
  drained : s.vrec = []
  journal : qRes opc = 1 → s.jrnlReady = true
  engine : qRes opc = 2 → s.engineAnswers = true
  next : s.queue.taken.find? (fun d => decide (d.opc = opc) && s.qMay d && !s.behindRequest d) = some c

/-- A command with the input it reads at its start. -/
def State.qLoad (s : State) (c : QCmd) : QCmd := { c with inp := s.qInput c }

/-- The state in which the started command `c` runs: it has left the taken ones. -/
def State.qRun (s : State) (c : QCmd) : State :=
  { s with queue := { s.queue with
      taken := s.queue.taken.filter fun d => decide (d.num ≠ c.num), running := s.queue.running ++ [s.qLoad c] } }

end Sys2Proof.Machine
end

