-- ==== Sys2Proof/Touches.lean ====
section
/-!
DEFINITION. What each command may change: for every row of the command table the parts of the state it can reach, and
no others.
-/

namespace Sys2Proof.Machine

/-- Every part of the state. -/
def Part.all : List Part :=
  [.free, .resp, .frozen, .key, .time, .icu, .adc, .res, .cmp, .dac, .rfm, .lane, .shed, .hedCnt, .pwm, .trip,
   .pad, .loomCfg, .fuseLoaded, .gov, .tmr, .dma, .dmaLast, .health, .core, .ply, .wld, .seq, .vrec, .warp,
   .crerus, .queue, .jrnl, .flash, .custody, .lc, .fuse, .shadow, .pwr, .rst, .clk, .dbg, .xspi, .uart, .i2c, .mem,
   .pd 0, .pd 1, .pd 2, .pd 3, .pd 4, .pd 5, .pd 6, .pd 7, .pd 8, .pd 9, .pd 10, .pd 11, .pd 12]

/-- Every part but those of `L`. -/
def Part.allBut (L : List Part) : List Part := Part.all.filter fun p => decide (p ∉ L)

/-- The parts a command may change; `.pd 12` stands for registers of no domain. -/
def Part.ofCommand (i : Instr) : List Part :=
  match i with
  | .registerWrite .. | .iold .. | .iost .. | .accessRetryReissue .. | .dmaDescriptorLoad .. | .dmaBeat
    | .dmaDescriptorComplete .. | .dmaNextFetch .. | .dmaRetryReissue .. | .set | .apply | .doSeqRun
    | .doSeqUndo | .sequenceStep .. | .fanServiceTick .. | .crerusRestartComplete ..
    | .vendorFirmwareStart .. | .lcScrapArm .. | .lcScrapConfirm .. | .dbgapRead .. | .dbgapWrite ..
    | .dbgapNop | .debugRevoke | .debugHaltRequest .. | .debugResume .. | .debugStep ..
    | .debugRegisterAccess .. | .debugBurst .. | .powerOnReset .. =>
    Part.allBut [.fuse]
  | .wideValueLowRead .. | .wideValueLowWrite .. =>
    [.resp, .time]
  | .wideValueHighWrite .. =>
    [.resp, .time, .pd 6]
  | .adcSoftwareStart .. | .laneEnable .. | .laneDisable .. | .laneUpd .. | .laneHclr .. | .pwmEnable ..
    | .gpioMuxWrite .. =>
    [.free, .resp, .frozen, .icu, .cmp, .lane, .shed, .hedCnt, .pwm, .trip, .dma, .vrec, .crerus, .pd 0, .pd 1,
      .pd 2, .pd 3, .pd 4, .pd 5, .pd 6, .pd 7, .pd 8, .pd 9, .pd 10, .pd 11, .pd 12]
  | .adcPendingSlotStart .. =>
    [.adc, .res, .pd 7]
  | .adcConversionDone .. | .adcAverageDone .. =>
    [.free, .icu, .adc, .res, .cmp, .lane, .shed, .hedCnt, .pwm, .trip, .gov, .dma, .vrec, .crerus, .pd 6, .pd 7,
      .pd 8, .pd 10]
  | .adcResultRead .. =>
    [.resp, .pd 7]
  | .comparatorCrossing .. | .cmpFilterSettled .. | .cmpBlankingEnd .. | .lanePendingRunStart ..
    | .laneMaxageExpiry .. | .pwmPeriodStart .. | .pwmTriggerCompare .. | .tripZoneInput .. =>
    [.free, .icu, .cmp, .lane, .shed, .hedCnt, .pwm, .trip, .dma, .vrec, .crerus, .pd 6, .pd 7, .pd 8, .pd 10]
  | .dacWrite .. =>
    [.free, .resp, .frozen, .icu, .dac, .vrec, .pd 0, .pd 1, .pd 2, .pd 3, .pd 4, .pd 5, .pd 6, .pd 7, .pd 8, .pd 9,
      .pd 10, .pd 11, .pd 12]
  | .rfmMeasurementCycleEnd .. =>
    [.free, .icu, .rfm, .health, .pd 0, .pd 6, .pd 7]
  | .rfmReferenceSwitch .. | .rfmSwitchDeadline .. =>
    [.icu, .adc, .rfm, .health, .pd 0, .pd 6, .pd 7]
  | .rfmHoldoffEnd =>
    [.rfm]
  | .rfmWinWrite .. | .powerAckReady .. | .encoderCountWrite .. =>
    [.resp, .frozen, .icu, .vrec, .pd 0, .pd 1, .pd 2, .pd 3, .pd 4, .pd 5, .pd 6, .pd 7, .pd 8, .pd 9, .pd 10,
      .pd 11, .pd 12]
  | .shedGroupEnable .. =>
    [.resp, .frozen, .icu, .lane, .shed, .pwm, .vrec, .pd 0, .pd 1, .pd 2, .pd 3, .pd 4, .pd 5, .pd 6, .pd 7, .pd 8,
      .pd 9, .pd 10, .pd 11, .pd 12]
  | .heddleDestinationWrite .. =>
    [.resp, .frozen, .icu, .hedCnt, .vrec, .pd 0, .pd 1, .pd 2, .pd 3, .pd 4, .pd 5, .pd 6, .pd 7, .pd 8, .pd 9,
      .pd 10, .pd 11, .pd 12]
  | .heddleSoftwareStrobe .. | .softwareTripSet .. | .softwareTripClear .. | .gpioOutputSet ..
    | .gpioOutputClear .. =>
    [.free, .resp, .icu, .cmp, .lane, .shed, .hedCnt, .pwm, .trip, .dma, .vrec, .crerus, .pd 6, .pd 7, .pd 8, .pd 10]
  | .heddleTick =>
    [.free, .time, .icu, .cmp, .lane, .shed, .hedCnt, .pwm, .trip, .dma, .vrec, .crerus, .pd 6, .pd 7, .pd 8, .pd 10]
  | .pwmEdgeCommit .. | .adtSwitchNodeTransition .. =>
    [.pwm]
  | .pwmCompareEdge .. | .pwmCtTermination .. =>
    [.icu, .cmp, .pwm, .pd 6, .pd 7]
  | .pwmCentrePeak .. =>
    [.cmp, .pwm, .pd 6, .pd 7]
  | .pwmDeadTimeExpiry .. =>
    [.cmp, .pwm, .pd 7]
  | .adtMissTimeout .. =>
    [.pd 6]
  | .pwmShadowWrite .. | .pwmGuardedWrite .. | .staggerLoad .. | .warpSlotLoad .. =>
    [.resp, .frozen, .icu, .pwm, .vrec, .pd 0, .pd 1, .pd 2, .pd 3, .pd 4, .pd 5, .pd 6, .pd 7, .pd 8, .pd 9,
      .pd 10, .pd 11, .pd 12]
  | .pwmValueLoad .. =>
    [.pwm, .pd 6]
  | .tripClearRequest .. =>
    [.resp, .pwm]
  | .governorSample | .governorComputation =>
    [.free, .icu, .cmp, .lane, .shed, .hedCnt, .pwm, .trip, .gov, .dma, .vrec, .crerus, .pd 0, .pd 6, .pd 7, .pd 8,
      .pd 10]
  | .governorCeilingTimeout =>
    [.free, .icu, .cmp, .lane, .shed, .hedCnt, .pwm, .trip, .gov, .dma, .vrec, .crerus, .pd 6, .pd 7, .pd 8, .pd 10]
  | .capMeasurementTimeout =>
    [.icu, .gov, .pd 6]
  | .tmrEnable .. | .tmrPinForce .. =>
    [.free, .resp, .frozen, .icu, .cmp, .lane, .shed, .hedCnt, .pwm, .trip, .tmr, .dma, .vrec, .crerus, .pd 0,
      .pd 1, .pd 2, .pd 3, .pd 4, .pd 5, .pd 6, .pd 7, .pd 8, .pd 9, .pd 10, .pd 11, .pd 12]
  | .tmrCompareMatch .. | .tmrOverflow .. | .tmrCapture .. =>
    [.free, .icu, .cmp, .lane, .shed, .hedCnt, .pwm, .trip, .tmr, .dma, .vrec, .crerus, .pd 6, .pd 7, .pd 8, .pd 10]
  | .tmrCaptureRead .. =>
    [.resp, .pd 6]
  | .tmrCounterWrite .. =>
    [.resp, .tmr, .pd 6]
  | .tbStep .. =>
    [.free, .time, .icu, .cmp, .lane, .shed, .hedCnt, .pwm, .trip, .gov, .dma, .vrec, .warp, .crerus, .pd 0, .pd 6,
      .pd 7, .pd 8, .pd 9, .pd 10]
  | .globalStartGo .. | .globalStartArm .. | .globalStartCancel .. =>
    [.resp, .frozen, .time, .icu, .vrec, .pd 0, .pd 1, .pd 2, .pd 3, .pd 4, .pd 5, .pd 6, .pd 7, .pd 8, .pd 9,
      .pd 10, .pd 11, .pd 12]
  | .globalStartRelease =>
    [.free, .time, .icu, .cmp, .lane, .shed, .hedCnt, .pwm, .trip, .tmr, .dma, .vrec, .crerus, .pd 6, .pd 7, .pd 8,
      .pd 10]
  | .warpSuperframeSlot =>
    [.free, .icu, .warp, .crerus, .custody, .pd 6, .pd 9]
  | .warpTimeFrame .. =>
    [.free, .icu, .warp, .custody, .pd 6, .pd 9]
  | .warpTimeStepFrame .. | .warpBypassEnterFrame .. | .warpBypassBreakFrame .. | .warpBypassHealedFrame ..
    | .warpEmptyFrame | .warpCalibrationTimer | .warpCalibrationRetry | .warpMsgRetryTimeout ..
    | .warpMsgBusyResend .. =>
    [.warp]
  | .warpGstartFrame .. | .warpCrcFailure | .warpLinkDown =>
    [.icu, .warp, .pd 6, .pd 9]
  | .warpMsgData .. =>
    [.warp, .crerus, .pwr, .pd 0, .pd 9]
  | .warpMsgAck .. | .warpMsgNakBusy .. | .warpCalResultFrame .. | .warpReservedFrame .. | .warpLinkRestored =>
    [.warp, .pd 9]
  | .warpMsgNakReset .. =>
    [.warp, .crerus, .pd 9]
  | .warpEnumFrame .. =>
    [.icu, .warp, .crerus, .pd 6, .pd 9]
  | .warpCalMeasureFrame .. =>
    [.free, .icu, .warp, .pd 6, .pd 9]
  | .warpBypassLeaveFrame .. =>
    [.free, .warp, .custody]
  | .warpBypassResetFrame .. | .crerusWatchdogExpiry =>
    Part.allBut [.free, .resp, .health, .fuse]
  | .warpTimeEvent =>
    [.free, .icu, .cmp, .lane, .shed, .hedCnt, .pwm, .trip, .dma, .vrec, .warp, .crerus, .pd 6, .pd 7, .pd 8, .pd 10]
  | .warpMsgDeadline .. =>
    [.warp, .crerus]
  | .warpTimeLost | .warpRingOpen | .warpSyncTimeout =>
    [.icu, .pd 6, .pd 9]
  | .warpPhaseSlewStep =>
    [.pd 9]
  | .warpGlobalStartRelease =>
    [.free, .icu, .cmp, .lane, .shed, .hedCnt, .pwm, .trip, .tmr, .dma, .vrec, .warp, .crerus, .pd 6, .pd 7, .pd 8,
      .pd 9, .pd 10]
  | .plyMismatch .. | .plyScrub | .plyUnrecoverableFault .. | .plyWatchdogExpiry .. | .add .. | .sub ..
    | .and .. | .or .. | .xor .. | .slt .. | .sltu .. | .sll .. | .srl .. | .sra .. | .slli .. | .srli ..
    | .srai .. | .min .. | .max .. | .minu .. | .maxu .. | .addi .. | .slti .. | .sltiu .. | .andi ..
    | .ori .. | .xori .. | .lui .. | .mul .. | .mulh .. | .mulhu .. | .div .. | .divu .. | .rem .. | .remu ..
    | .sadd .. | .ssub .. | .sabs .. | .sat .. | .sslli .. | .qmul .. | .qmul15 .. | .ldb .. | .ldbu ..
    | .ldh .. | .ldhu .. | .ldw .. | .stb .. | .sth .. | .stw .. | .ldx .. | .stx .. | .beq .. | .bne ..
    | .blt .. | .bge .. | .bltu .. | .bgeu .. | .j .. | .call .. | .jr .. | .callr .. | .fence .. | .wfi ..
    | .eret .. | .handover .. | .joinwait .. | .wret .. | .csrrd .. | .csrwr .. | .cacheInvalidate ..
    | .mpuLock .. | .tld .. | .tst .. | .tsave .. | .trest .. | .tmac .. | .tmacv .. | .adrain .. | .azero ..
    | .trel .. | .unassignedEncoding .. | .icuCompletion .. | .wgateEntry .. | .wgateReturn ..
    | .wgateInfo .. | .wgateUnassigned .. | .domainUnplannedLoss .. | .mainSupplyLoss =>
    Part.allBut [.resp, .fuse]
  | .plyResyncCopyDone =>
    [.core, .ply]
  | .plyResyncComplete =>
    [.icu, .pd 0, .pd 6]
  | .plySplitComplete =>
    [.icu, .core, .pd 0, .pd 6]
  | .plyJoinTcmCopyDone =>
    [.ply, .mem]
  | .plyJoinComplete =>
    [.icu, .core, .ply, .pd 0, .pd 6]
  | .plyRestartRelease =>
    Part.allBut [.key, .fuseLoaded, .health, .seq, .flash, .lc, .fuse, .shadow, .rst, .clk, .dbg]
  | .plyWatchdogKick .. =>
    [.resp, .ply]
  | .plyWatchdogWarning .. =>
    [.icu, .ply, .pd 6]
  | .ldxReservationTimeout .. | .powerForcedStopTimeout .. =>
    [.core]
  | .cacheLineFill .. =>
    [.free, .icu, .health, .core, .flash, .pd 0, .pd 2, .pd 6]
  | .icuSourceEvent .. =>
    [.icu, .pd 6]
  | .icuCoalesceTimerExpiry .. | .icuHoldoffEnd .. =>
    [.icu]
  | .interruptEntry .. =>
    [.free, .icu, .core, .pd 0, .pd 6]
  | .icuActclr .. | .icuPendClear .. | .icuSgiSet .. =>
    [.resp, .icu, .pd 6]
  | .wfiWake .. =>
    [.free, .core]
  | .dmaEnable .. | .dmaDisable .. | .dmaSoftwareTrigger .. =>
    [.free, .resp, .frozen, .icu, .dma, .vrec, .pd 0, .pd 1, .pd 2, .pd 3, .pd 4, .pd 5, .pd 6, .pd 7, .pd 8, .pd 9,
      .pd 10, .pd 11, .pd 12]
  | .sealedWatchdogExpiry =>
    [.icu, .core, .wld, .vrec, .mem, .pd 1, .pd 3, .pd 6]
  | .sealedReload .. =>
    [.resp, .wld, .mem, .pd 1, .pd 3]
  | .sealedLoadComplete =>
    [.icu, .health, .core, .wld, .vrec, .flash, .mem, .pd 0, .pd 2, .pd 3, .pd 6]
  | .xspiRead .. | .xspiReadStatus .. | .xspiReadId .. | .xspiResetEnable | .xspiReset
    | .xspiUnknownCommand .. | .xspiModeChange =>
    [.xspi]
  | .xspiWrite .. | .mailboxDoorbell .. | .mailboxAcknowledge .. =>
    [.resp, .frozen, .icu, .vrec, .crerus, .queue, .pwr, .xspi, .mem, .pd 0, .pd 1, .pd 2, .pd 3, .pd 4, .pd 5,
      .pd 6, .pd 7, .pd 8, .pd 9, .pd 10, .pd 11, .pd 12]
  | .mailboxBufferWrite .. =>
    [.resp, .mem, .pd 1, .pd 10]
  | .mailboxRequestTake =>
    [.icu, .wld, .vrec, .warp, .crerus, .mem, .pd 0, .pd 1, .pd 6, .pd 10]
  | .requestResume =>
    [.icu, .wld, .warp, .crerus, .fuse, .mem, .pd 0, .pd 1, .pd 6, .pd 10]
  | .get | .commitStage | .watch | .forget | .doPing | .doWarpGstart | .doWarpSend | .doWarpReset
    | .doFwVerify | .laneApplyTimeout =>
    [.icu, .wld, .warp, .crerus, .mem, .pd 0, .pd 1, .pd 6, .pd 10]
  | .commitWrite | .stage | .doDraftImage =>
    [.icu, .wld, .warp, .crerus, .flash, .mem, .pd 0, .pd 1, .pd 2, .pd 6, .pd 10]
  | .attest =>
    [.free, .icu, .wld, .warp, .crerus, .mem, .pd 0, .pd 1, .pd 6, .pd 10]
  | .wipe | .doTamperClear .. =>
    [.icu, .wld, .warp, .crerus, .custody, .mem, .pd 0, .pd 1, .pd 6, .pd 10]
  | .noticeDelivery .. =>
    [.icu, .crerus, .mem, .pd 1, .pd 6, .pd 10]
  | .doPowerState =>
    Part.allBut [.free, .resp, .key, .pad, .fuseLoaded, .health, .ply, .seq, .vrec, .flash, .lc, .fuse, .shadow,
      .rst, .clk, .dbg]
  | .doWarpCal | .doDrbgRandom | .doDrbgGenerate =>
    [.free, .icu, .wld, .warp, .crerus, .custody, .mem, .pd 0, .pd 1, .pd 6, .pd 10]
  | .doLcTransition | .doLcToken | .doLcScrap =>
    [.icu, .core, .wld, .warp, .crerus, .lc, .mem, .pd 0, .pd 1, .pd 6, .pd 10]
  | .doFwActivate =>
    [.icu, .wld, .vrec, .warp, .crerus, .jrnl, .flash, .mem, .pd 0, .pd 1, .pd 2, .pd 6, .pd 10]
  | .fwStatusCommit =>
    [.icu, .wld, .warp, .crerus, .flash, .fuse, .mem, .pd 0, .pd 1, .pd 2, .pd 6, .pd 10]
  | .queueSubmit .. =>
    [.crerus, .queue, .pwr, .pd 0, .pd 10]
  | .queueTake =>
    [.queue, .pd 10]
  | .jappend | .jread | .kfetch | .bread | .flush | .barrier =>
    [.vrec, .crerus, .queue, .jrnl, .flash, .mem, .pd 2, .pd 10]
  | .kstore =>
    [.vrec, .crerus, .queue, .jrnl, .flash, .custody, .mem, .pd 2, .pd 10]
  | .bwrite =>
    [.free, .vrec, .crerus, .queue, .jrnl, .flash, .custody, .mem, .pd 2, .pd 10]
  | .queueCompletionPost | .queueReset .. =>
    [.queue, .mem, .pd 10]
  | .queueConsume .. =>
    [.pd 10]
  | .journalDeferTimeout | .journalScanComplete =>
    [.vrec, .jrnl, .flash, .pd 2]
  | .journalPageDone .. | .flashOperationComplete .. | .brownOut .. | .resetPin =>
    Part.allBut [.resp, .health, .fuse]
  | .tamperDetection .. | .tamperSwitchFilterExpiry .. | .meshBitPeriod .. =>
    [.free, .icu, .core, .wld, .crerus, .queue, .jrnl, .flash, .custody, .pwr, .dbg, .mem, .pd 0, .pd 1, .pd 2,
      .pd 3, .pd 6, .pd 10]
  | .meshReseed =>
    [.free, .custody]
  | .tamperWipeComplete =>
    [.wld, .custody, .mem, .pd 1]
  | .tamperJournalRecord =>
    [.icu, .vrec, .custody, .pd 6]
  | .entropyHealthFailure .. =>
    [.health, .custody, .pd 0]
  | .flashArm .. =>
    [.resp, .icu, .seq, .pd 2, .pd 6]
  | .flashProgram .. | .flashErase .. | .flashBadcmd .. =>
    [.resp, .icu, .seq, .flash, .pd 2, .pd 6]
  | .flashSequenceLapse =>
    [.icu, .seq, .pd 2, .pd 6]
  | .lcRequest .. =>
    [.resp, .key, .icu, .core, .lc, .pd 0, .pd 6]
  | .lcScrapTimeout =>
    [.seq]
  | .lcTransitionStepDone =>
    Part.allBut [.resp, .health]
  | .fuseProgram .. | .fuseLockrow .. =>
    [.resp, .key, .icu, .lc, .pd 0, .pd 6]
  | .fuseProgramDone .. =>
    [.lc, .fuse, .pd 0]
  | .sysKeyWrite .. =>
    [.resp, .key]
  | .sysKeyUnlockExpiry .. =>
    [.key]
  | .tapReset | .jtagExtest .. | .jtagIdcode | .jtagClamp | .jtagHighz | .jtagDbgstat | .jtagBypass
    | .dbgauthReadChallenge | .dbgauthWriteCertificate .. =>
    [.dbg]
  | .jtagSamplePreload .. =>
    [.free, .dbg]
  | .dbgauthNewchal =>
    [.free, .custody, .dbg]
  | .dbgauthSubmit =>
    [.dbg, .pd 0]
  | .debugCertCheckDone =>
    [.vrec, .dbg, .pd 0]
  | .debugGrantExpiry =>
    [.core, .dbg, .pd 0]
  | .debugHalt .. =>
    [.free, .core, .pd 0]
  | .debugHaltDeferralExpiry .. =>
    [.free, .key, .icu, .core, .seq, .pd 0, .pd 2, .pd 6]
  | .clockMonitorWindowEnd .. =>
    [.free, .icu, .health, .clk, .pd 0, .pd 1, .pd 2, .pd 3, .pd 4, .pd 5, .pd 6, .pd 7, .pd 8, .pd 9, .pd 10,
      .pd 11, .pd 12]
  | .clockReferenceLost .. | .pllRelockTimeout =>
    [.icu, .health, .clk, .pd 0, .pd 6]
  | .pllRelockDone =>
    [.clk, .pd 0]
  | .pllLockLoss =>
    [.icu, .clk, .pd 0, .pd 6]
  | .clockHoldoffEnd =>
    [.clk]
  | .powerEntryContinue =>
    [.free, .time, .icu, .cmp, .lane, .shed, .hedCnt, .pwm, .trip, .pad, .tmr, .dma, .wld, .vrec, .warp, .crerus,
      .jrnl, .flash, .pwr, .mem, .pd 0, .pd 1, .pd 2, .pd 6, .pd 7, .pd 8, .pd 10]
  | .domainQuiesceComplete .. =>
    Part.allBut [.resp, .key, .fuseLoaded, .health, .ply, .wld, .seq, .flash, .lc, .fuse, .shadow, .rst, .clk, .dbg]
  | .domainPowerUpComplete .. =>
    [.free, .resp, .frozen, .icu, .cmp, .dac, .lane, .shed, .hedCnt, .pwm, .trip, .pad, .loomCfg, .gov, .tmr, .dma,
      .vrec, .warp, .crerus, .custody, .pwr, .uart, .i2c, .pd 0, .pd 1, .pd 2, .pd 3, .pd 4, .pd 5, .pd 6, .pd 7,
      .pd 8, .pd 9, .pd 10, .pd 11, .pd 12]
  | .domainRestart .. | .powerWake .. =>
    [.pwr, .pd 0]
  | .powerExitComplete =>
    [.free, .resp, .frozen, .icu, .cmp, .lane, .shed, .hedCnt, .pwm, .trip, .pad, .loomCfg, .gov, .tmr, .dma, .core,
      .vrec, .crerus, .pwr, .pd 0, .pd 1, .pd 2, .pd 3, .pd 4, .pd 5, .pd 6, .pd 7, .pd 8, .pd 9, .pd 10, .pd 11,
      .pd 12]
  | .pd7PowerRequest .. | .pd11PowerRequest .. =>
    [.free, .resp, .frozen, .time, .icu, .cmp, .lane, .shed, .hedCnt, .pwm, .trip, .pad, .tmr, .dma, .vrec, .crerus,
      .pwr, .pd 0, .pd 1, .pd 2, .pd 3, .pd 4, .pd 5, .pd 6, .pd 7, .pd 8, .pd 9, .pd 10, .pd 11, .pd 12]
  | .sramBankPowerRequest .. =>
    [.resp, .frozen, .icu, .vrec, .mem, .pd 0, .pd 1, .pd 2, .pd 3, .pd 4, .pd 5, .pd 6, .pd 7, .pd 8, .pd 9,
      .pd 10, .pd 11, .pd 12]
  | .softwareReset .. =>
    Part.allBut [.free, .health, .fuse]
  | .resetRelease .. =>
    [.free, .resp, .frozen, .icu, .cmp, .dac, .lane, .shed, .hedCnt, .pwm, .trip, .pad, .loomCfg, .fuseLoaded, .gov,
      .tmr, .dma, .health, .core, .wld, .vrec, .warp, .crerus, .lc, .shadow, .rst, .uart, .i2c, .mem, .pd 0, .pd 1,
      .pd 2, .pd 3, .pd 4, .pd 5, .pd 6, .pd 7, .pd 8, .pd 9, .pd 10, .pd 11, .pd 12]
  | .gpioInputEvent .. =>
    [.icu, .pd 6, .pd 10]
  | .uartTransmitData .. | .uartReceiveDataRead .. =>
    [.resp, .icu, .uart, .pd 6, .pd 10]
  | .uartTransmitCharacter | .uartReceiveCharacter .. | .uartBreak | .uartReceiveTimeout
    | .uartTransmitComplete =>
    [.icu, .uart, .pd 6, .pd 10]
  | .i2cTransferStart .. | .i2cControllerDisable .. =>
    [.resp, .frozen, .icu, .vrec, .i2c, .pd 0, .pd 1, .pd 2, .pd 3, .pd 4, .pd 5, .pd 6, .pd 7, .pd 8, .pd 9,
      .pd 10, .pd 11, .pd 12]
  | .i2cControllerByte .. | .i2cTransferComplete | .i2cArbitrationLost | .i2cTargetAddressed ..
    | .i2cTargetByte .. | .i2cStop .. | .i2cStretchLimit | .i2cBusFree =>
    [.icu, .i2c, .pd 6, .pd 10]
  | .i2cTransmitData .. | .i2cReceiveDataRead .. =>
    [.resp, .icu, .i2c, .pd 6, .pd 10]
  | .thermalSample .. =>
    [.icu, .health, .pd 0, .pd 6]
  | .advisoryRecord =>
    [.icu, .health, .vrec, .pd 6]
  | .boardServiceSet .. =>
    [.icu, .vrec, .pd 0, .pd 6]
  | .i2cStartCondition =>
    [.i2c, .pd 10]
  | .journalChainVerifyDone =>
    [.vrec, .jrnl]

end Sys2Proof.Machine
end

