-- ==== Sys2Proof/Certificates/Slice0/Obligations.lean ====
section
/-!
DEFINITION. The statements about the part that are to be proved.
-/

open Sys2Proof Sys2Proof.Machine

/-! ### The step, reset and the whole machine -/

/-- A step takes the command at the front of the queue and does it with the rest of the queue waiting. Where a clause
follows a choice of the model, log entry 1 says so. -/
def Obligations.StepTakesFront : Prop :=
  ∀ (i : Instr) (rest : List Instr) (s : State),
    step { s with pending := i :: rest } = exec i { s with pending := rest }

/-- R128, R365: on an empty queue one pick of 8 ns passes: TB counts while PD9 is ON and no reset is asserted, RTC
counts every 125 picks. R123, R127: a timer that counts takes a value written or advances at each tick, and waits at
TOP for its overflow; one that is stopped or held by a debug halt stays. R254: the intervals of the hold-off groups
run. Nothing else but the DAC settling and what holds only within a pick changes. That an empty queue lets a pick
pass, and that a timer counts in it, is the model's choice (log entries 5 and 66). -/
def Obligations.StepIdles : Prop :=
  ∀ s : State, s.pending = [] →
    ∃ t, step s = .next t ∧ OnlyIn [.time, .dac, .lane, .icu, .tmr, .pd 6] s t
      ∧ RegsOnly (fun f => ∃ n : Fin 16, f = R.TMR_CNT n) s t
      ∧ t.time.tb = (if s.on 9 = true ∧ s.rst.asserted = false then s.time.tb + 1 else s.time.tb)
      ∧ t.time.go = s.time.go ∧ t.icu.grp = s.icu.grp.map (fun x => (x.1, x.2 + 1))
      ∧ (s.time.usFrac < 124 → t.time.usFrac = s.time.usFrac + 1 ∧ t.time.rtc = s.time.rtc)
      ∧ (124 ≤ s.time.usFrac → t.time.usFrac = 0 ∧ t.time.rtc = s.time.rtc + 1)
      ∧ ∀ n : Fin 16,
        ((s.tmr.at n).run = false ∨ s.tmrFrozen n = true → t.get (R.TMR_CNT n) = s.get (R.TMR_CNT n)
          ∧ t.tmr.at n = { s.tmr.at n with edge := none })
        ∧ ((s.tmr.at n).run = true → s.tmrFrozen n = false →
          ((s.tmr.at n).psc < s.get (R.TMR_CTRL_PSC n) →
            t.get (R.TMR_CNT n) = s.get (R.TMR_CNT n) ∧ (t.tmr.at n).psc = (s.tmr.at n).psc + 1)
          ∧ (s.get (R.TMR_CTRL_PSC n) ≤ (s.tmr.at n).psc →
            (∀ v, (s.tmr.at n).load = some v →
              t.get (R.TMR_CNT n) = v % 2 ^ 32 ∧ (t.tmr.at n).psc = 0 ∧ (t.tmr.at n).load = none)
            ∧ ((s.tmr.at n).load = none → s.get (R.TMR_CNT n) < (s.tmr.at n).top →
              t.get (R.TMR_CNT n) = (s.get (R.TMR_CNT n) + 1) % 2 ^ 32 ∧ (t.tmr.at n).psc = 0)
            ∧ ((s.tmr.at n).load = none → (s.tmr.at n).top ≤ s.get (R.TMR_CNT n) →
              t.get (R.TMR_CNT n) = s.get (R.TMR_CNT n))))

/-- R11, R499, R500: the state before the first reset release: every field whose Reset column gives a value holds it
(the node is in bypass, R157), a power-on reset is asserted, PD0 alone is ON, and memory lists nothing. Where a clause
follows a choice of the model, log entries 4 and 11 say so. -/
def Obligations.ResetState : Prop :=
  State.reset.pending = [] ∧ State.reset.mem = [] ∧ State.reset.rst.asserted = true ∧ State.reset.rst.aon = true
  ∧ (∀ (f : Fld) (n : Nat), f.rst = .val n → f ≠ R.WRP_STAT_BYPASS → State.reset.get f = n)
  ∧ State.reset.get R.WRP_STAT_BYPASS = 1
  ∧ ∀ d : Fin 12, State.reset.get (R.PWR_DOM d) = if d = 0 then 3 else 0

/-- The state after reset is well kept. Where a clause follows a choice of the model, log entry 4 says so. -/
def Obligations.ResetKept : Prop :=
  State.reset.Kept

/-- Every step keeps a well-kept state well kept (memory canonical, every register value within its field, retention
included), and takes one command off the queue. Where a clause follows a choice of the model, log entry 4 says so. -/
def Obligations.StepKeepsInvariant : Prop :=
  ∀ s t : State, s.Kept → step s = .next t → t.Kept ∧ t.pending = s.pending.tail

/-- Every command answers a next state, from every state, and changes nothing but the parts listed for it. Where a
clause follows a choice of the model, log entries 6 and 8 say so. -/
def Obligations.FrameOfEveryCommand : Prop :=
  ∀ (i : Instr) (s : State), ∃ t, exec i s = .next t ∧ OnlyIn (Part.ofCommand i) s t

/-- R411: no step clears a fuse bit that is burned. -/
def Obligations.FusesNeverUnburn : Prop :=
  ∀ s t : State, step s = .next t → ∀ r : Fin 256, s.fuse.at r ||| t.fuse.at r = t.fuse.at r

/-! ### Strands: arithmetic, branches and jumps (chapters 09 and 10) -/

/-- R214: each register-to-register instruction of Table 10.3 writes its result into rd, goes on at the next word and
adds one cycle; nothing else changes. R216: the multiplications and divisions, with their cycles. R217: the saturating
and Q-format instructions. R214, R215: the shifts by a constant, the instructions with an immediate, and LUI. -/
def Obligations.IntegerArithmetic : Prop :=
  (∀ x ∈ regOps, ∀ (c : Fin 3) (rd ra rb : Fin 32) (s : State), s.Ready c →
      WritesReg (x.1 c rd ra rb) s c rd (x.2.1 ((s.coreAt c).rd ra) ((s.coreAt c).rd rb)) ((s.coreAt c).pc + 4) x.2.2)
  ∧ (∀ x ∈ mulOps, ∀ (c : Fin 3) (rd ra rb : Fin 32) (s : State), s.Ready c →
      WritesReg (x.1 c rd ra rb) s c rd (x.2.1 ((s.coreAt c).rd ra) ((s.coreAt c).rd rb)) ((s.coreAt c).pc + 4) x.2.2)
  ∧ (∀ x ∈ satOps, ∀ (c : Fin 3) (rd ra rb : Fin 32) (s : State), s.Ready c →
    WritesReg (x.1 c rd ra rb) s c rd (x.2.1 ((s.coreAt c).rd ra) ((s.coreAt c).rd rb)) ((s.coreAt c).pc + 4) x.2.2)
  ∧ (∀ (c : Fin 3) (rd ra : Fin 32) (s : State), s.Ready c →
    WritesReg (.sabs c rd ra) s c rd
      (if (s.coreAt c).rd ra = 0x80000000 then 0x7FFFFFFF else BitVec.ofNat 32 ((s.coreAt c).rd ra).toInt.natAbs)
      ((s.coreAt c).pc + 4) 1)
  ∧ (∀ (c : Fin 3) (rd ra n : Fin 32) (s : State), s.Ready c →
    WritesReg (.sat c rd ra n) s c rd (BitVec.ofInt 32 (satS (n.val + 1) ((s.coreAt c).rd ra).toInt))
      ((s.coreAt c).pc + 4) 1)
  ∧ (∀ (c : Fin 3) (rd ra n : Fin 32) (s : State), s.Ready c →
    WritesReg (.sslli c rd ra n) s c rd (BitVec.ofInt 32 (satS 32 (((s.coreAt c).rd ra).toInt * 2 ^ n.val)))
      ((s.coreAt c).pc + 4) 1)
  ∧ (∀ x ∈ shiftOps, ∀ (c : Fin 3) (rd ra n : Fin 32) (s : State), s.Ready c →
    WritesReg (x.1 c rd ra n) s c rd (x.2 ((s.coreAt c).rd ra) n.val) ((s.coreAt c).pc + 4) 1)
  ∧ (∀ x ∈ immOps, ∀ (c : Fin 3) (rd ra : Fin 32) (imm : BitVec 16) (s : State), s.Ready c →
    WritesReg (x.1 c rd ra imm) s c rd (x.2 ((s.coreAt c).rd ra) imm) ((s.coreAt c).pc + 4) 1)
  ∧ (∀ (c : Fin 3) (rd : Fin 32) (imm : BitVec 16) (s : State), s.Ready c →
    WritesReg (.lui c rd imm) s c rd (BitVec.ofNat 32 (imm.toNat * 2 ^ 16)) ((s.coreAt c).pc + 4) 1)

/-- R220: a branch goes to PC + 4 × sext(off16) where its condition holds and to the next word where it does not; J
and JR jump; no general register is written and nothing else changes. Where a clause follows a choice of the model,
log entries 15 and 16 say so. -/
def Obligations.BranchesAndJumps : Prop :=
  (∀ x ∈ branchOps, ∀ (c : Fin 3) (ra rb : Fin 32) (off : BitVec 16) (s : State), s.Ready c →
    let k := s.coreAt c
    ∃ t, exec (x.1 c ra rb off) s = .next t ∧ CoreOnly c s t ∧ k.KeepsRegs (t.coreAt c) ∧ k.Ran (t.coreAt c)
      (if x.2 (k.rd ra) (k.rd rb) then BitVec.ofInt 32 (k.pc.toNat + 4 * off.toInt) else k.pc + 4) 2)
  ∧ (∀ (c : Fin 3) (off : BitVec 26) (s : State), s.Ready c →
    let k := s.coreAt c
    ∃ t, exec (.j c off) s = .next t ∧ CoreOnly c s t ∧ k.KeepsRegs (t.coreAt c)
      ∧ k.Ran (t.coreAt c) (BitVec.ofInt 32 (k.pc.toNat + 4 * off.toInt)) 2)
  ∧ (∀ (c : Fin 3) (ra : Fin 32) (s : State), s.Ready c →
    let k := s.coreAt c
    ∃ t, exec (.jr c ra) s = .next t ∧ CoreOnly c s t ∧ k.KeepsRegs (t.coreAt c)
      ∧ k.Ran (t.coreAt c) (BitVec.ofNat 32 ((k.rd ra).toNat / 4 * 4)) 2)

/-- R191: a call writes the address of the next instruction into lk (g31) and no other register and no memory, and
goes on at its target at once: there is no delay slot, and nothing is pushed, popped or checked. -/
def Obligations.CallsWriteLinkOnly : Prop :=
  (∀ (c : Fin 3) (off : BitVec 26) (s : State), s.Ready c →
    WritesReg (.call c off) s c 31 ((s.coreAt c).pc + 4)
      (BitVec.ofInt 32 ((s.coreAt c).pc.toNat + 4 * off.toInt)) 2)
  ∧ (∀ (c : Fin 3) (ra : Fin 32) (s : State), s.Ready c →
    WritesReg (.callr c ra) s c 31 ((s.coreAt c).pc + 4) (BitVec.ofNat 32 (((s.coreAt c).rd ra).toNat / 4 * 4)) 2)

/-! ### Strands: accesses -/

/-- R218, R195: a load from the D-TCM takes one cycle, leaves every register, memory and unit as it was, and holds its
value for the destination, which the next instruction does not see yet. R218, R169: a store to the D-TCM takes one
cycle and writes the bytes of the register, lowest first, to every copy the core owns; every other byte of memory and
every register stays; another core's reservation on the granule goes (R221). R194: a misaligned load or store raises
ALIGN with its address and makes no access: no byte of memory changes. Where a clause follows a choice of the model,
log entries 15 and 16 say so. -/
def Obligations.LoadsAndStores : Prop :=
  (∀ x ∈ loadOps, ∀ (c : Fin 3) (rd base : Fin 32) (disp : BitVec 16) (s : State), s.Ready c →
      let k := s.coreAt c
      let ea := k.rd base + disp.signExtend 32
      s.TcmAccess c ea x.2.1 false →
      ∃ t, exec (x.1 c rd base disp) s = .next t ∧ CoreOnly c s t ∧ k.KeepsLoaded (t.coreAt c) rd
        ∧ k.RanMem (t.coreAt c) 1 (some (rd,
            if x.2.2 then BitVec.ofInt 32 (sx (8 * x.2.1) (s.tcmBytes dtcmKey c ea.toNat x.2.1))
            else BitVec.ofNat 32 (s.tcmBytes dtcmKey c ea.toNat x.2.1))))
  ∧ (∀ x ∈ storeOps, ∀ (c : Fin 3) (rs base : Fin 32) (disp : BitVec 16) (s : State), s.Ready c →
      let k := s.coreAt c
      let ea := k.rd base + disp.signExtend 32
      s.TcmAccess c ea x.2 true →
      ∃ t, exec (x.1 c rs base disp) s = .next t ∧ OnlyIn [.core, .mem] s t
        ∧ k.KeepsRegs (t.coreAt c) ∧ k.RanMem (t.coreAt c) 1 none
        ∧ (∀ d : Fin 3, d ≠ c → t.coreAt d =
            { s.coreAt d with res := if (s.coreAt d).res = some (granule c ea.toNat) then none else (s.coreAt d).res })
        ∧ (∀ h ∈ s.tcmHomes c, ∀ i, i < x.2 →
            t.byte (dtcmKey h (ea.toNat + i)) = BitVec.ofNat 8 ((k.rd rs).toNat / 2 ^ (8 * i)))
        ∧ (∀ a, (∀ h ∈ s.tcmHomes c, ∀ i, i < x.2 → a ≠ dtcmKey h (ea.toNat + i)) → t.byte a = s.byte a))
  ∧ (∀ x ∈ loadOps, ∀ (c : Fin 3) (rd base : Fin 32) (disp : BitVec 16) (s : State), s.Ready c →
    let k := s.coreAt c
    let ea := k.rd base + disp.signExtend 32
    ea.toNat % x.2.1 ≠ 0 → k.exl = false → k.world = false →
    ∃ t, exec (x.1 c rd base disp) s = .next t ∧ CoreOnly c s t ∧ (t.coreAt c).Entered k 3 ea 1 1)
  ∧ (∀ x ∈ storeOps, ∀ (c : Fin 3) (rs base : Fin 32) (disp : BitVec 16) (s : State), s.Ready c →
    let k := s.coreAt c
    let ea := k.rd base + disp.signExtend 32
    ea.toNat % x.2 ≠ 0 → k.exl = false → k.world = false →
    ∃ t, exec (x.1 c rs base disp) s = .next t ∧ CoreOnly c s t ∧ (t.coreAt c).Entered k 3 ea 5 1)

/-- R221: LDX loads its word as LDW does and sets the reservation of its core; STX with the reservation held stores
its word and writes 1 into its register, without it stores nothing and writes 0; either STX drops the reservation. The
time-out ends the locked sequence and drops the reservation. Where a clause follows a choice of the model, log entries
15 and 16 say so. -/
def Obligations.ReservationPair : Prop :=
  (∀ (c : Fin 3) (rd base : Fin 32) (disp : BitVec 16) (s : State), s.Ready c →
    let k := s.coreAt c
    let ea := k.rd base + disp.signExtend 32
    s.TcmAccess c ea 4 false →
    ∃ t, exec (.ldx c rd base disp) s = .next t ∧ CoreOnly c s t ∧ k.KeepsLoaded (t.coreAt c) rd
      ∧ (t.coreAt c).res = some (granule c ea.toNat) ∧ (t.coreAt c).locked = true
      ∧ { k with res := (t.coreAt c).res, locked := true }.RanMem (t.coreAt c) 1
          (some (rd, BitVec.ofNat 32 (s.tcmBytes dtcmKey c ea.toNat 4))))
  ∧ (∀ (c : Fin 3) (rs base : Fin 32) (disp : BitVec 16) (s : State), s.Ready c →
    let k := s.coreAt c
    let ea := k.rd base + disp.signExtend 32
    s.TcmAccess c ea 4 true → k.res = some (granule c ea.toNat) →
    ∃ t, exec (.stx c rs base disp) s = .next t ∧ OnlyIn [.core, .mem] s t
      ∧ { k with res := none, locked := false }.RanMem (t.coreAt c) 1 none
      ∧ (∀ r, (t.coreAt c).rd r = if r = 0 then 0 else if r = rs then 1 else k.rest r)
      ∧ (∀ h ∈ s.tcmHomes c, ∀ i, i < 4 →
          t.byte (dtcmKey h (ea.toNat + i)) = BitVec.ofNat 8 ((k.rd rs).toNat / 2 ^ (8 * i)))
      ∧ (∀ a, (∀ h ∈ s.tcmHomes c, ∀ i, i < 4 → a ≠ dtcmKey h (ea.toNat + i)) → t.byte a = s.byte a))
  ∧ (∀ (c : Fin 3) (rs base : Fin 32) (disp : BitVec 16) (s : State), s.Ready c →
    let k := s.coreAt c
    let ea := k.rd base + disp.signExtend 32
    s.TcmAccess c ea 4 true → k.res ≠ some (granule c ea.toNat) →
    ∃ t, exec (.stx c rs base disp) s = .next t ∧ CoreOnly c s t
      ∧ { k with res := none, locked := false }.Ran (t.coreAt c) (k.pc + 4) 1
      ∧ (∀ r, (t.coreAt c).rd r = if r = 0 then 0 else if r = rs then 0 else k.rest r))
  ∧ (∀ (c : Fin 3) (s : State), (s.coreAt c).locked = true →
    ∃ t, exec (.ldxReservationTimeout c) s = .next t ∧ CoreOnly c s t
      ∧ t.coreAt c = { s.coreAt c with res := none, locked := false })

/-- R219: IOLD and IOST reach the register at their address as any requester does: the access is the register access
of the I/O space, IOLD holds the word it answered for its destination, and both go on at the next word. Where a clause
follows a choice of the model, log entries 15 and 16 say so. -/
def Obligations.InputOutputAccess : Prop :=
  (∀ (c : Fin 3) (rd base : Fin 32) (disp : BitVec 16) (s : State), s.Ready c →
    let k := s.coreAt c
    let ea := k.rd base + disp.signExtend 32
    let q := coreReq c
    let u := ((s.cycles c 1).ioWait c ea.toNat).ioRead q ea.toNat false
    ea.toNat % 4 = 0 → ea.toNat < 0x100000 → k.mpu.allows 2 0 ea.toNat = true →
    (u.resp.at (reqIdx q)).code = .ok → (u.coreAt c).step = false → u.bpMatch c ea.toNat [1, 3] = none →
    exec (.iold c rd base disp) s = .next (u.updCore c fun k =>
      { k with wait := none, retries := 0 }.retire [] fun k =>
        { k.next with ldNext := some (rd, BitVec.ofNat 32 (u.resp.at (reqIdx q)).data) }))
  ∧ (∀ (c : Fin 3) (rs base : Fin 32) (disp : BitVec 16) (s : State), s.Ready c →
    let k := s.coreAt c
    let ea := k.rd base + disp.signExtend 32
    let q : Who := { req := coreReq c, sealedW := k.world }
    let u := ((s.cycles c 1).ioWait c ea.toNat).ioWrite q ea.toNat (k.rd rs).toNat
    ea.toNat % 4 = 0 → ea.toNat < 0x100000 → k.mpu.allows 2 1 ea.toNat = true → (ea.toNat = 0x1C034 → k.world = true) →
    u.rst.asserted = false → (u.resp.at (reqIdx q.req)).code = .ok → (u.coreAt c).step = false → u.bpMatch c ea.toNat [2, 3] = none →
    exec (.iost c rs base disp) s = .next (u.updCore c fun k =>
      { k with wait := none, retries := 0 }.retire [] Core.next))

/-- R228, R234, R235: the tile arithmetic. TMAC adds the matrix product to every element of ACC and TMACV to one
column, saturated to 48 bits; ADRAIN scales, rounds and saturates ACC into a tile, which is in use then; AZERO clears
ACC; TREL zeroes a tile and takes it out of use. No general register, memory or other unit changes. R226, R227: the
tile moves with every row in the D-TCM, uninterrupted and not a continuation. TLD and TREST put the rows into the tile
or ACC, TLD takes the tile into use; TST and TSAVE write the rows, each over the one before where they overlap. A move
takes two cycles and one for each row; a TLD or TST that pauses after `stop` rows waits there at its PC. Where a
clause follows a choice of the model, log entries 15, 16 and 39 say so. -/
def Obligations.TileInstructions : Prop :=
  (∀ (c : Fin 3) (ta tb : Fin 8) (s : State), s.Ready c →
    let k := s.coreAt c
    ∃ t, exec (.tmac c ta tb) s = .next t ∧ CoreOnly c s t ∧ k.KeepsRegs (t.coreAt c)
      ∧ { k with acc := (t.coreAt c).acc, tAccSat := (t.coreAt c).tAccSat, tAccCnt := (t.coreAt c).tAccCnt }.Ran
          (t.coreAt c) (k.pc + 4) 8
      ∧ ∀ i j : Fin 8, ((t.coreAt c).acc[(8 * i.val + j.val : Nat)]'(by omega)).toInt =
          satS 48 ((k.acc[(8 * i.val + j.val : Nat)]'(by omega)).toInt + k.prod ta tb i j))
  ∧ (∀ (c : Fin 3) (ta tb col : Fin 8) (s : State), s.Ready c →
    let k := s.coreAt c
    ∃ t, exec (.tmacv c ta tb col) s = .next t ∧ CoreOnly c s t ∧ k.KeepsRegs (t.coreAt c)
      ∧ { k with acc := (t.coreAt c).acc, tAccSat := (t.coreAt c).tAccSat, tAccCnt := (t.coreAt c).tAccCnt }.Ran
          (t.coreAt c) (k.pc + 4) 2
      ∧ ∀ i j : Fin 8, ((t.coreAt c).acc[(8 * i.val + j.val : Nat)]'(by omega)).toInt =
          if j = col then satS 48 ((k.acc[(8 * i.val + j.val : Nat)]'(by omega)).toInt + k.prod ta tb i j)
          else (k.acc[(8 * i.val + j.val : Nat)]'(by omega)).toInt)
  ∧ (∀ (c : Fin 3) (td : Fin 8) (sh : Fin 16) (z : Bool) (s : State), s.Ready c →
    let k := s.coreAt c
    ∃ t, exec (.adrain c td sh z) s = .next t ∧ CoreOnly c s t ∧ k.KeepsRegs (t.coreAt c)
      ∧ { k with
            acc := (t.coreAt c).acc, tiles := (t.coreAt c).tiles, tuse := k.tuse ||| BitVec.ofNat 8 (2 ^ td.val)
            tDrnSat := (t.coreAt c).tDrnSat, tDrnCnt := (t.coreAt c).tDrnCnt }.Ran (t.coreAt c) (k.pc + 4) 2
      ∧ (t.coreAt c).acc = (if z then Vector.replicate 64 0 else k.acc)
      ∧ (∀ i j : Fin 8, (t.coreAt c).elem td i j =
          satS 16 (rhe 15 ((k.acc[(8 * i.val + j.val : Nat)]'(by omega)).toInt * 2 ^ sh.val)))
      ∧ (∀ u : Fin 8, u ≠ td → (t.coreAt c).tiles[u] = k.tiles[u]))
  ∧ (∀ (c : Fin 3) (s : State), s.Ready c →
    let k := s.coreAt c
    ∃ t, exec (.azero c) s = .next t ∧ CoreOnly c s t ∧ k.KeepsRegs (t.coreAt c)
      ∧ { k with acc := Vector.replicate 64 0 }.Ran (t.coreAt c) (k.pc + 4) 1)
  ∧ (∀ (c : Fin 3) (u : Fin 8) (s : State), s.Ready c →
    let k := s.coreAt c
    ∃ t, exec (.trel c u) s = .next t ∧ CoreOnly c s t ∧ k.KeepsRegs (t.coreAt c)
      ∧ { k with
            tiles := (t.coreAt c).tiles, tuse := k.tuse &&& ~~~ BitVec.ofNat 8 (2 ^ u.val)
            tprog := if k.recordsTile u then 0 else k.tprog }.Ran (t.coreAt c) (k.pc + 4) 1
      ∧ (∀ i j : Fin 8, (t.coreAt c).elem u i j = 0)
      ∧ (∀ v i j : Fin 8, v ≠ u → (t.coreAt c).elem v i j = k.elem v i j))
  ∧ (∀ (c : Fin 3) (u : Fin 8) (gs base : Fin 32) (disp : BitVec 12) (stop : Nat) (s : State), s.Ready c →
    let k := s.coreAt c
    let m := tileMoveOf k 0 u gs base disp
    s.MoveClear c m → (stop = 0 ∨ m.rows < stop) →
    ∃ t, exec (.tld c u gs base disp stop) s = .next t ∧ CoreOnly c s t ∧ k.KeepsRegs (t.coreAt c)
      ∧ { (List.range m.rows).foldl (fun (k : Core) r => k.putRow { m with row := r } r
            (toLE 16 (s.tcmBytes dtcmKey c (m.rowEa r).toNat 16))) k with wait := none, retries := 0 }.Ran
          (t.coreAt c) (k.pc + 4) (2 + m.rows))
  ∧ (∀ (c : Fin 3) (u : Fin 8) (gs base : Fin 32) (disp : BitVec 12) (stop : Nat) (s : State), s.Ready c →
    let k := s.coreAt c
    let m := tileMoveOf k 1 u gs base disp
    s.MoveClear c m → (stop = 0 ∨ m.rows < stop) →
    ∃ t, exec (.tst c u gs base disp stop) s = .next t ∧ OnlyIn [.core, .mem] s t ∧ k.KeepsRegs (t.coreAt c)
      ∧ { k with wait := none, retries := 0 }.Ran (t.coreAt c) (k.pc + 4) (2 + m.rows)
      ∧ t.mem = ((List.range m.rows).foldl (fun v r =>
          v.tcmWrite dtcmKey c (m.rowEa r).toNat 16 (leNat (k.rowBytes m r))) s).mem)
  ∧ (∀ x ∈ ([(.tld, 0), (.tst, 1)] : List ((Fin 3 → Fin 8 → Fin 32 → Fin 32 → BitVec 12 → Nat → Instr) × BitVec 3)),
    ∀ (c : Fin 3) (u : Fin 8) (gs base : Fin 32) (disp : BitVec 12) (stop : Nat) (s : State), s.Ready c →
    let k := s.coreAt c
    let m := tileMoveOf k x.2 u gs base disp
    s.MoveClear c m → 0 < stop → stop ≤ m.rows →
    ∃ t, exec (x.1 c u gs base disp stop) s = .next t ∧ OnlyIn [.core, .mem] s t ∧ (t.coreAt c).pc = k.pc
      ∧ (t.coreAt c).cycle = k.cycle + BitVec.ofNat 32 (2 + stop) ∧ (t.coreAt c).why = .row
      ∧ (t.coreAt c).wait = some { m with row := stop, moved := stop, stop := stop }.access)
  ∧ (∀ (c : Fin 3) (acc : Bool) (u : Fin 8) (base : Fin 32) (disp : BitVec 12) (stop : Nat) (s : State), s.Ready c →
    let k := s.coreAt c
    let m := tileSaveOf k 2 acc u base disp
    (acc = true → u = 0) → (acc = false → k.tuse.toNat.testBit u = true) → s.MoveClear c m → (stop = 0 ∨ m.rows < stop) →
    ∃ t, exec (.tsave c acc u base disp stop) s = .next t ∧ OnlyIn [.core, .mem] s t ∧ k.KeepsRegs (t.coreAt c)
      ∧ { k with wait := none, retries := 0 }.Ran (t.coreAt c) (k.pc + 4) (2 + m.rows)
      ∧ t.mem = ((List.range m.rows).foldl (fun v r =>
          v.tcmWrite dtcmKey c (m.rowEa r).toNat 16 (leNat (k.rowBytes m r))) s).mem)
  ∧ (∀ (c : Fin 3) (acc : Bool) (u : Fin 8) (base : Fin 32) (disp : BitVec 12) (stop : Nat) (s : State), s.Ready c →
    let k := s.coreAt c
    let m := tileSaveOf k 3 acc u base disp
    (acc = true → u = 0) → (acc = false → k.tuse.toNat.testBit u = true) → s.MoveClear c m → (stop = 0 ∨ m.rows < stop) →
    ∃ t, exec (.trest c acc u base disp stop) s = .next t ∧ CoreOnly c s t ∧ k.KeepsRegs (t.coreAt c)
      ∧ { (List.range m.rows).foldl (fun (k : Core) r => k.putRow { m with row := r } r
            (toLE 16 (s.tcmBytes dtcmKey c (m.rowEa r).toNat 16))) k with wait := none, retries := 0 }.Ran
          (t.coreAt c) (k.pc + 4) (2 + m.rows))
  ∧ (∀ (c : Fin 3) (u : Fin 8) (base : Fin 32) (disp : BitVec 12) (stop : Nat) (s : State), s.Ready c →
    let k := s.coreAt c
    k.tuse.toNat.testBit u = false → k.matches (tileSaveOf k 2 false u base disp) = false →
    k.matches (tileSaveOf k 3 false u base disp) = false →
    ∃ t, exec (.tsave c false u base disp stop) s = .next t ∧ exec (.trest c false u base disp stop) s = .next t
      ∧ CoreOnly c s t ∧ k.KeepsRegs (t.coreAt c) ∧ k.Ran (t.coreAt c) (k.pc + 4) 2)

/-! ### Strands: system instructions and CSRs -/

/-- R222, R223, R204, R176: FENCE adds four cycles; WFI stops issue; ERET restores the status, priority and PC saved
at the entry; WRET, fetched from the Selvedge ROM, returns to the world and PC that SAVE holds and ends the call;
JOINWAIT stops a strand of its own, whose registers are then open, and shows it; a HANDOVER that is not refused goes
on at the next instruction and starts the hand-over to TARGET. Where a clause follows a choice of the model, log
entries 15, 16 and 20 say so. -/
def Obligations.SystemInstructions : Prop :=
  (∀ (c : Fin 3) (s : State), s.Ready c →
    let k := s.coreAt c
    ∃ t, exec (.fence c) s = .next t ∧ CoreOnly c s t ∧ k.KeepsRegs (t.coreAt c) ∧ k.Ran (t.coreAt c) (k.pc + 4) 4)
  ∧ (∀ (c : Fin 3) (s : State), s.Ready c →
    let k := s.coreAt c
    ∃ t, exec (.wfi c) s = .next t ∧ CoreOnly c s t ∧ k.KeepsRegs (t.coreAt c)
      ∧ { k with run := if s.bit R.PWR_ACK c && s.flag R.PWR_STATE_ENTRY then .stopped else .wfi }.Ran
          (t.coreAt c) (k.pc + 4) 1)
  ∧ (∀ (c : Fin 3) (s : State), s.Ready c →
    let k := s.coreAt c
    k.exl = true →
    ∃ t, exec (.eret c) s = .next t ∧ CoreOnly c s t ∧ k.KeepsRegs (t.coreAt c)
      ∧ (t.coreAt c).pc = k.epc ∧ (t.coreAt c).cycle = k.cycle + 2 ∧ (t.coreAt c).ie = k.pie
      ∧ (t.coreAt c).exl = k.pexl ∧ (t.coreAt c).ipri = k.pipri ∧ (t.coreAt c).fromEret = true
      ∧ (t.coreAt c).world = k.world ∧ (t.coreAt c).epc = k.epc)
  ∧ (∀ (c : Fin 3) (pc : Word) (w : Bool) (s : State), s.Ready c →
    let k := s.coreAt c
    inRom k.pc.toNat = true → k.save = some (pc, w) → s.wld.waiting = none →
    ∃ t, exec (.wret c) s = .next t ∧ OnlyIn [.core, .wld] s t ∧ (∀ d : Fin 3, d ≠ c → t.coreAt d = s.coreAt d)
      ∧ t.wld = { s.wld with saved := none } ∧ k.KeepsRegs (t.coreAt c) ∧ { k with world := w, save := none }.Ran (t.coreAt c) pc 4)
  ∧ (∀ (c : Fin 3) (s : State), s.Ready c →
    let k := s.coreAt c
    k.world = false → (c.val ≠ 0 ∨ s.plyMode = 2) →
    ∃ t, exec (.joinwait c) s = .next t ∧ OnlyIn [.core, .free, .pd 0] s t
      ∧ { k with run := .joinWait }.Ran (t.coreAt c) (k.pc + 4) 1
      ∧ RegsOnly (fun f => (c.val = 1 ∧ f = R.PLY_STATUS_WAITB) ∨ (c.val = 2 ∧ f = R.PLY_STATUS_WAITC)) s t
      ∧ (c.val = 1 → t.get R.PLY_STATUS_WAITB = 1) ∧ (c.val = 2 → t.get R.PLY_STATUS_WAITC = 1))
  ∧ (∀ (c : Fin 3) (s : State), s.Ready c →
    let k := s.coreAt c
    let m := s.get R.PLY_MODE_TARGET
    k.world = false → m ≠ s.get R.PLY_MODE_CUR → s.handRefused c m = false →
    ∃ t, exec (.handover c) s = .next t ∧ k.KeepsRegs (t.coreAt c) ∧ k.Ran (t.coreAt c) (k.pc + 4) 2
      ∧ t.ply.target = m ∧ t.get R.PLY_MODE_CUR = s.get R.PLY_MODE_CUR
      ∧ (if s.get R.PLY_MODE_CUR < m then t.get R.PLY_STATUS_SPLITTING = 1 else t.get R.PLY_STATUS_JOINING = 1))

/-- R223: ERET with EXL clear, HANDOVER in the SEALED world, JOINWAIT in the SEALED world or by a lockstep group, and
WRET fetched outside the Selvedge ROM raise ILLEGAL; a refused HANDOVER is no exception: it goes on at the next
instruction with HOERR set. -/
def Obligations.RestrictedInstructions : Prop :=
  (∀ (c : Fin 3) (s : State), s.Ready c → (s.coreAt c).exl = false →
    exec (.eret c) s = .next ((s.cycles c 2).takeExc c 2 (s.coreAt c).pc 0))
  ∧ (∀ (c : Fin 3) (s : State), s.Ready c → (s.coreAt c).world = true →
    exec (.handover c) s = .next ((s.cycles c 2).takeExc c 2 (s.coreAt c).pc 0)
    ∧ exec (.joinwait c) s = .next ((s.cycles c 1).takeExc c 2 (s.coreAt c).pc 0))
  ∧ (∀ (c : Fin 3) (s : State), s.Ready c → (c.val = 0 ∧ s.plyMode ≠ 2) →
    exec (.joinwait c) s = .next ((s.cycles c 1).takeExc c 2 (s.coreAt c).pc 0))
  ∧ (∀ (c : Fin 3) (s : State), s.Ready c → inRom (s.coreAt c).pc.toNat = false →
    exec (.wret c) s = .next ((s.cycles c 4).takeExc c 2 (s.coreAt c).pc 0))
  ∧ (∀ (c : Fin 3) (s : State), s.Ready c →
    let m := s.get R.PLY_MODE_TARGET
    (s.coreAt c).world = false → m ≠ s.get R.PLY_MODE_CUR → s.handRefused c m = true →
    ∃ t, exec (.handover c) s = .next t ∧ (s.coreAt c).KeepsRegs (t.coreAt c)
      ∧ (s.coreAt c).Ran (t.coreAt c) ((s.coreAt c).pc + 4) 2 ∧ t.get R.PLY_STATUS_HOERR = 1)

/-- R199, R200, R207: ILLEGAL taken with EXL clear in the OPEN world enters at EVEC with the status saved; taken with
EXL set it is a double fault, which leaves EPC, sets DBLF, writes the cause, and faults the Ply with cause 5. Where a
clause follows a choice of the model, log entry 16 says so. -/
def Obligations.IllegalInstruction : Prop :=
  (∀ (c : Fin 3) (w : Word) (s : State), s.Ready c → assigned w.toNat = false → (s.coreAt c).exl = false →
    (s.coreAt c).world = false →
    ∃ t, exec (.unassignedEncoding c w) s = .next t ∧ CoreOnly c s t
      ∧ (t.coreAt c).Entered (s.coreAt c) 2 (s.coreAt c).pc 0 1)
  ∧ (∀ (c : Fin 3) (w : Word) (s : State), s.Ready c → assigned w.toNat = false → (s.coreAt c).exl = true →
    let k := s.coreAt c
    ∃ u : State, exec (.unassignedEncoding c w) s = .next ((u.plyFault 5).resyncWindow) ∧ CoreOnly c s u
      ∧ (u.coreAt c).epc = k.epc ∧ (u.coreAt c).dblf = true ∧ (u.coreAt c).ecCode = 2 ∧ (u.coreAt c).ecInt = false
      ∧ (u.coreAt c).eaddr = k.pc ∧ (u.coreAt c).einfo = 0)

/-- R210, R224, Table 9.7: CSRRD writes the value of a listed CSR into its register, CYCLE as it stood at the issue;
CSRWR sets the CSR and nothing else; INVAL may read 0 or 1 while an invalidation is in progress. Where a clause
follows a choice of the model, log entries 15 and 16 say so. -/
def Obligations.ControlRegisters : Prop :=
  (∀ (c : Fin 3) (rd : Fin 32) (n : BitVec 12) (v : Word) (s : State), s.Ready c →
    { s.coreAt c with cycle := (s.coreAt c).cycle + 1 }.csr c n.toNat = some v →
    (n = 0x030 → (s.coreAt c).inval = none) → n ≠ 0x020 →
    WritesReg (.csrrd c rd n) s c rd v ((s.coreAt c).pc + 4) 1)
  ∧ (∀ (c : Fin 3) (rd : Fin 32) (n : BitVec 12) (v : Word) (s : State), s.Ready c →
    (n, v) ∈ [(0x002, (s.coreAt c).epc), (0x004, (s.coreAt c).eaddr), (0x006, (s.coreAt c).evec),
      (0x007, (s.coreAt c).ivec), (0x008, (s.coreAt c).escr0), (0x009, (s.coreAt c).escr1),
      (0x013, 0), (0x020, (s.coreAt c).cycle), (0x061, (s.coreAt c).tprog), (0x070, BitVec.ofNat 32 c.val)] →
    WritesReg (.csrrd c rd n) s c rd v ((s.coreAt c).pc + 4) 1)
  ∧ (∀ (c : Fin 3) (rd : Fin 32) (s : State), s.Ready c → rd ≠ 0 → (s.coreAt c).inval.isSome = true →
    ∃ t b, exec (.csrrd c rd 0x030) s = .next t ∧ OnlyIn [.core, .free] s t
      ∧ (t.coreAt c).rd rd = BitVec.ofNat 32 (b2n (s.coreAt c).pfen * 2 + b2n b))
  ∧ (∀ (c : Fin 3) (n : BitVec 12) (ra : Fin 32) (s : State), s.Ready c →
    let k := s.coreAt c
    (k.csr c n.toNat).isSome = true → k.csrFrozen n.toNat (k.rd ra) = false → n ≠ 0x013 → n ≠ 0x030 →
    exec (.csrwr c n ra) s = .next (s.updCore c fun k =>
      { k with cycle := k.cycle + 1 }.retire [] fun j => (j.csrSet n.toNat (k.rd ra)).next))
  ∧ (∀ (c : Fin 3) (ra : Fin 32) (s : State), s.Ready c →
    let k := s.coreAt c
    (k.rd ra).toNat.testBit 0 = true →
    ∃ t, exec (.cacheInvalidate c ra) s = .next t ∧ CoreOnly c s t ∧ k.KeepsRegs (t.coreAt c)
      ∧ { k with
          cache := k.cache.filter fun x => decide (x.2 ≠ s.lineTag k), pfen := (k.rd ra).toNat.testBit 1
          inval := some (k.cycle + 1) }.Ran (t.coreAt c) (k.pc + 4) 1)
  ∧ (∀ (c : Fin 3) (ra : Fin 32) (s : State), s.Ready c →
    let k := s.coreAt c
    k.mpu.lock = false → (k.rd ra).toNat.testBit 1 = true →
    exec (.mpuLock c ra) s = .next (s.updCore c fun k =>
      { k with cycle := k.cycle + 1 }.retire [] fun j =>
        (j.setMpu fun m => { m with lock := true, defAllow := (k.rd ra).toNat.testBit 0 }).next))
  ∧ (∀ (c : Fin 3) (ra : Fin 32) (s : State), s.Ready c →
    let k := s.coreAt c
    let v := (k.rd ra).toNat % 256
    v < 224 → s.get (R.ICU_STS_ACT v) = 1 → s.get (R.ICU_STS_ACTBY v) = c.val →
    ∃ t, exec (.icuCompletion c ra) s = .next t ∧ OnlyIn [.core, .pd 6] s t ∧ k.KeepsRegs (t.coreAt c)
      ∧ k.Ran (t.coreAt c) (k.pc + 4) 1 ∧ t.get (R.ICU_STS_ACT v) = 0
      ∧ RegsOnly (fun f => f = R.ICU_STS_ACT v) s t)

/-! ### The sample path (chapter 02) -/

/-- R24, R25, R27, R44: an ADC trigger makes its slot pending, or counts an overrun; a free core takes its lowest
pending slot, whose aperture opens; a conversion delivers its code, or within an averaging sequence joins the sum,
whose rounded mean the last one delivers; the delivery sets DONE and NEW, raises 64 + i where DONEIE asks for it,
frees the core and fires source 52 + 4i + m; a read of the result clears NEW. R23, R26: a pin is coded as ⌊4096 × V ÷
VREF⌋, and the differential pair as ⌊2048 × difference ÷ VREF⌋, saturated, where VREF is the selected reference times
1.500 V ÷ NOM. Where a clause follows a choice of the model, log entries 6 and 30 say so. -/
def Obligations.AdcConversions : Prop :=
  (∀ (q : Who) (i : Fin 8) (v : Word) (s : State), s.on 7 = true →
    exec (.adcSoftwareStart q i v) s = .next ((List.range 4).foldl
      (fun u m => if v.toNat.testBit (8 + m) then u.adcTrigger i m else u)
      ((fireAll ((s.reply q.req .ok 0).writeReg q (0xD000 + 0x100 * i.val) v.toNat).missCheck).set (R.ADC_CTRL_SWSTART i) 0)))
  ∧ (∀ (i : Fin 8) (m : Fin 4) (s : State), s.on 7 = true → s.flag (R.ADC_CTRL_EN i) = true →
    (s.bit (R.ADC_STAT_PEND i) m = false → (s.adcTrigger i m).bit (R.ADC_STAT_PEND i) m = true)
    ∧ (s.bit (R.ADC_STAT_PEND i) m = true → (s.adcTrigger i m).bit (R.ADC_STAT_OVR i) m = true
        ∧ (s.adcTrigger i m).get (R.ADC_OVRCNT i) = min 0xFFFF (s.get (R.ADC_OVRCNT i) + 1)))
  ∧ (∀ (i : Fin 8) (m : Fin 4) (s : State), s.on 7 = true → (s.adc.at i).busy = false →
    s.bit (R.ADC_STAT_PEND i) m = true → (∀ j : Fin 4, j < m → s.bit (R.ADC_STAT_PEND i) j = false) →
    ∃ t, exec (.adcPendingSlotStart i) s = .next t ∧ t.bit (R.ADC_STAT_PEND i) m = false
      ∧ RegsOnly (fun f => f = R.ADC_STAT_PEND i) s t ∧ OnlyIn [.adc, .res, .pd 7] s t
      ∧ t.adc.at i = { busy := true, slot := m, num := (s.res.at (4 * i.val + m.val)).opens + 1
                       sel := s.get (R.ADC_SLOT_SEL i m), avg := min 6 (s.get (R.ADC_SLOT_AVG i m)) })
  ∧ (∀ (i : Fin 8) (v : PinVolts) (e : DieVolts) (r : RefVolts) (s : State),
    let c := s.adc.at i
    c.busy = true → c.avg = 0 → c.slot < 4 → c.spans = false →
    ∃ u : State, exec (.adcConversionDone i v e r) s = .next (u.fire [52 + 4 * i.val + c.slot])
      ∧ u.get (R.ADC_RES_DATA i c.slot) = ux 16 (s.coreCode i v e r).1 ∧ u.get (R.ADC_RES_NEW i c.slot) = 1
      ∧ u.get (R.ADC_RES_AVGD i c.slot) = 0 ∧ u.get (R.ADC_RES_REFSW i c.slot) = 0
      ∧ u.bit (R.ADC_STAT_DONE i) c.slot = true ∧ (u.adc.at i).busy = false
      ∧ (s.on 6 = true → s.bit (R.ADC_CTRL_DONEIE i) c.slot = true → u.get (R.ICU_STS_PEND (64 + i.val)) = 1)
      ∧ OnlyIn [.free, .icu, .adc, .res, .gov, .pd 6, .pd 7] s u)
  ∧ (∀ (i : Fin 8) (v : PinVolts) (e : DieVolts) (r : RefVolts) (s : State),
    let c := s.adc.at i
    c.busy = true → c.avg ≠ 0 → c.cnt + 1 < 2 ^ c.avg →
    exec (.adcConversionDone i v e r) s = .next { s with
      free := s.free + 1, adc := s.adc.put i { c with cnt := c.cnt + 1, sum := c.sum + (s.coreCode i v e r).1 } })
  ∧ (∀ (i : Fin 8) (v : PinVolts) (e : DieVolts) (r : RefVolts) (s : State),
    let c := s.adc.at i
    c.busy = true → c.avg ≠ 0 → c.cnt + 1 = 2 ^ c.avg → c.slot < 4 → c.spans = false →
    ∃ u : State, exec (.adcAverageDone i v e r) s = .next (u.fire [52 + 4 * i.val + c.slot])
      ∧ u.get (R.ADC_RES_DATA i c.slot) = ux 16 (rhe c.avg (c.sum + (s.coreCode i v e r).1))
      ∧ u.get (R.ADC_RES_AVGD i c.slot) = 1 ∧ u.get (R.ADC_RES_NEW i c.slot) = 1
      ∧ u.bit (R.ADC_STAT_DONE i) c.slot = true ∧ (u.adc.at i).busy = false
      ∧ OnlyIn [.free, .icu, .adc, .res, .gov, .pd 6, .pd 7] s u)
  ∧ (∀ (i : Fin 8) (v : PinVolts) (e : DieVolts) (r : RefVolts) (s : State),
    let (vn, vd) := s.vref r
    let c := s.adc.at i
    vn ≠ 0 → vd ≠ 0 →
    (c.sel = 0 → (s.coreCode i v e r).1 = satI 0 4095 (4096 * v.a0 * vd / vn : Nat))
    ∧ (c.sel = 1 → (s.coreCode i v e r).1 = satI 0 4095 (4096 * v.a1 * vd / vn : Nat))
    ∧ (c.sel = 2 → (s.coreCode i v e r).1 = satI 0 4095 (4096 * v.a2 * vd / vn : Nat))
    ∧ (c.sel = 3 → (s.coreCode i v e r).1 = satI (-2048) 2047 ((2048 * ((v.a0 : Int) - v.a1) * vd).fdiv vn)))
  ∧ (∀ (q : Who) (i : Fin 8) (m : Fin 4) (s : State), s.on 7 = true →
    ∃ t, exec (.adcResultRead q i m) s = .next t ∧ t.get (R.ADC_RES_NEW i m) = 0
      ∧ (t.resp.at (reqIdx q.req)).code = .ok
      ∧ (t.resp.at (reqIdx q.req)).data = s.get (R.ADC_RES_DATA i m) + 2 ^ 29 * s.get (R.ADC_RES_AVGD i m)
          + 2 ^ 30 * s.get (R.ADC_RES_REFSW i m) + 2 ^ 31 * s.get (R.ADC_RES_NEW i m)
      ∧ RegsOnly (fun f => f = R.ADC_RES_NEW i m) s t)

/-- R29, R31, R32: the voltage of the ball that INSEL names moves the unfiltered output, against THR × VREF ÷ 4096 and
the hysteresis below it; with FILT 0 the filtered output follows, and so it does when the filter settles; a blanking
window ends; and the filtered, blanked output of an enabled comparator becomes CMPj_STAT.OUT, with RISE and source 36
+ j where it rises, or FALL where it falls. R33: a DAC write holds the new code and starts the ball settling for 125
picks at a level the spec leaves open. R34, R36, R38 to R41: a cycle publishes the mean of the last 8 cycles'
deviations of the fitted references; one whose self-check fails sets SELFCHK and FAULT, raises the advisory and keeps
GCORR; one with no majority sets NOMAJ and FAULT, raises the advisory and keeps GCORR; else GCORR moves toward d
beyond the inner window, where INNER is set, and toward 0 within it. R37, R38: beyond the outer window the lower of
two others that agree is chosen, or within the hold-off HELD is set; the chosen reference is switched with its gain
correction, the flag, the count and the pick, at an eligible boundary or at the 125th, and a second one is an
advisory; the hold-off ends. R46: RFM_WIN saturates, and INNER never exceeds OUTER. Where a clause follows a choice of
the model, log entries 22, 23, 29, 30 and 67 say so. -/
def Obligations.ComparatorsAndReferences : Prop :=
  (∀ (j : Fin 16) (a : AinVolts) (r : RefVolts) (edges : Nat) (s : State), s.on 7 = true →
    s.flag (R.CMP_CFG_EN j) = true → a.ball.val = j.val + [0, 2, 6, 8].getD (s.get (R.CMP_CFG_INSEL j)) 8 →
    (s.get (R.CMP_CFG_FILT j) ≠ 0 →
      ∃ t, exec (.comparatorCrossing j a r edges) s = .next t
        ∧ t.flag (R.CMP_STAT_RAW j) = s.cmpRaw j a.v r edges ∧ RegsOnly (fun f => f = R.CMP_STAT_RAW j) s t
        ∧ OnlyIn [.pd 7] s t)
    ∧ (s.get (R.CMP_CFG_FILT j) = 0 →
      ∃ u : State, exec (.comparatorCrossing j a r edges) s = .next (fireAll (u.cmpRefresh j))
        ∧ u.flag (R.CMP_STAT_RAW j) = s.cmpRaw j a.v r edges
        ∧ (u.cmp.at j).filt = s.cmpRaw j a.v r edges ∧ (u.cmp.at j).blank = (s.cmp.at j).blank
        ∧ RegsOnly (fun f => f = R.CMP_STAT_RAW j) s u ∧ OnlyIn [.cmp, .pd 7] s u))
  ∧ (∀ (j : Fin 16) (vin : Nat) (r : RefVolts) (edges : Nat) (s : State), s.flag (R.CMP_CFG_SLPEN j) = false →
    let (vn, vd) := s.vref r
    s.cmpRaw j vin r edges = if s.flag (R.CMP_STAT_RAW j)
      then decide (s.get (R.CMP_THR j) * vn ≤ 4096 * (vin + [0, 10000, 20000, 40000].getD (s.get (R.CMP_CFG_HYST j)) 40000) * vd)
      else decide (s.get (R.CMP_THR j) * vn < 4096 * vin * vd))
  ∧ (∀ (j : Fin 16) (s : State),
    let lvl := (s.cmp.at j).filt && !(s.cmp.at j).blank && s.flag (R.CMP_CFG_EN j)
    (lvl = s.flag (R.CMP_STAT_OUT j) → s.cmpRefresh j = (s, []))
    ∧ (lvl = true → s.flag (R.CMP_STAT_OUT j) = false →
      ∃ v : State, s.cmpRefresh j = (v.judgeTrips.1, (36 + j.val) :: v.judgeTrips.2)
        ∧ v.get (R.CMP_STAT_OUT j) = 1 ∧ v.get (R.CMP_STAT_RISE j) = 1
        ∧ RegsOnly (fun f => f = R.CMP_STAT_OUT j ∨ f = R.CMP_STAT_RISE j ∨ f.ofSource (72 + j.val)) s v
        ∧ OnlyIn [.icu, .pd 6, .pd 7] s v)
    ∧ (lvl = false → s.flag (R.CMP_STAT_OUT j) = true →
      s.cmpRefresh j = ((s.set (R.CMP_STAT_OUT j) 0).set (R.CMP_STAT_FALL j) 1, [])))
  ∧ (∀ (j : Fin 16) (s : State), s.on 7 = true → s.flag (R.CMP_CFG_EN j) = true →
    ∃ u : State, exec (.cmpFilterSettled j) s = .next (fireAll (u.cmpRefresh j))
      ∧ (u.cmp.at j).filt = s.flag (R.CMP_STAT_RAW j) ∧ (u.cmp.at j).blank = (s.cmp.at j).blank ∧ OnlyIn [.cmp] s u)
  ∧ (∀ (j : Fin 16) (s : State),
    ∃ u : State, exec (.cmpBlankingEnd j) s = .next (fireAll (u.cmpRefresh j)) ∧ (u.cmp.at j).blank = false
      ∧ (u.cmp.at j).filt = (s.cmp.at j).filt ∧ OnlyIn [.cmp] s u)
  ∧ (∀ (q : Who) (r : Fin 3) (v : Word) (s : State), s.on 7 = true →
    ∃ t, exec (.dacWrite q r v) s = .next t ∧ (t.resp.at (reqIdx q.req)).code = .ok
      ∧ (r.val < 2 → t.get (R.DAC_DATA r) = v.toNat % 4096 ∧ (t.dac.at r).settle = 125 ∧ (t.dac.at r).free = s.free)
      ∧ (r.val = 2 → t.flag R.DAC_EN_EN0 = v.toNat.testBit 0 ∧ t.flag R.DAC_EN_EN1 = v.toNat.testBit 1
        ∧ (s.flag R.DAC_EN_EN0 = false → v.toNat.testBit 0 = true → (t.dac.at 0).settle = 125)
        ∧ (s.flag R.DAC_EN_EN1 = false → v.toNat.testBit 1 = true → (t.dac.at 1).settle = 125))
      ∧ RegsOnly (fun f => f.addr = 0xE800 + 4 * r.val) s t)
  ∧ (∀ (vi va vb : Nat) (ok : Bool) (s : State), s.on 7 = true →
    let d := s.cycleDevs { int := vi, a := va, b := vb } (Config.freeValue s.free)
    ∃ u : State, exec (.rfmMeasurementCycleEnd vi va vb ok) s = .next (u.rfmCycle ok)
      ∧ (s.refFitted 1 = true → u.rfm.ia = (d.1 :: s.rfm.ia).take 8 ∧ u.gets R.RFM_DEV_IA = satS 16 (meanDev u.rfm.ia))
      ∧ (s.refFitted 2 = true → u.rfm.ib = (d.2.1 :: s.rfm.ib).take 8 ∧ u.gets R.RFM_DEV_IB = satS 16 (meanDev u.rfm.ib))
      ∧ (s.refFitted 1 = true → s.refFitted 2 = true →
          u.rfm.ab = (d.2.2 :: s.rfm.ab).take 8 ∧ u.gets R.RFM_DEV_AB = satS 16 (meanDev u.rfm.ab))
      ∧ RegsOnly (fun f => f = R.RFM_DEV_IA ∨ f = R.RFM_DEV_IB ∨ f = R.RFM_DEV_AB) s u ∧ OnlyIn [.free, .rfm, .pd 7] s u)
  ∧ (∀ u : State,
    let t := u.rfmCycle false
    t.get R.RFM_STAT_SELFCHK = 1 ∧ t.flag R.RFM_STAT_FAULT = true ∧ t.bit R.HLT_CAUSE 2 = true
      ∧ t.get R.RFM_GCORR = u.get R.RFM_GCORR ∧ t.rfm = u.rfm)
  ∧ (∀ u : State,
    let t := u.rfmCycle true
    let l := u.refOthers (u.get R.RFM_STAT_ACTIVE)
    t.get R.RFM_STAT_SELFCHK = 0 ∧ (l = [] → t.get R.RFM_GCORR = 0)
    ∧ ((l ≠ [] ∧ u.devOf (u.get R.RFM_STAT_ACTIVE) = none)
        ∨ (∃ m d, l = [m] ∧ u.devOf (u.get R.RFM_STAT_ACTIVE) = some d ∧ u.get R.RFM_WIN_OUTER < d.natAbs) →
      t.get R.RFM_STAT_NOMAJ = 1 ∧ t.flag R.RFM_STAT_FAULT = true ∧ t.bit R.HLT_CAUSE 2 = true
        ∧ t.get R.RFM_GCORR = u.get R.RFM_GCORR ∧ t.get R.RFM_STAT_ACTIVE = u.get R.RFM_STAT_ACTIVE)
    ∧ (∀ d, l ≠ [] → u.devOf (u.get R.RFM_STAT_ACTIVE) = some d → (l.length = 1 → d.natAbs ≤ u.get R.RFM_WIN_OUTER) →
      t.get R.RFM_STAT_NOMAJ = 0 ∧ (u.get R.RFM_WIN_INNER < d.natAbs → t.flag R.RFM_STAT_INNER = true)
      ∧ t.gets R.RFM_GCORR = gcorrStep (u.gets R.RFM_GCORR) (if u.get R.RFM_WIN_INNER < d.natAbs then d else 0)
      ∧ (∀ x y, l = [x, y] → u.get R.RFM_WIN_OUTER < d.natAbs → u.refAgree x y = true → u.flag R.RFM_CFG_SWEN = true →
        (u.rfm.holdoff = true → t.flag R.RFM_STAT_HELD = true ∧ t.rfm = u.rfm)
        ∧ (u.rfm.holdoff = false → u.rfm.next = none → t.rfm.next = some x))))
  ∧ (∀ (n : Nat) (spans : BitVec 8) (s : State), s.rfm.next = some n → n < 3 → s.on 7 = true →
    s.flag R.RFM_STAT_SELFCHK = false →
    (∃ t, exec (.rfmReferenceSwitch spans) s = .next t ∧ t.get R.RFM_STAT_ACTIVE = n ∧ t.get R.RFM_STAT_SWITCHED = 1
      ∧ t.rfm.next = none ∧ t.rfm.holdoff = true ∧ t.get R.RFM_SWCNT = min 0xFF (s.get R.RFM_SWCNT + 1)
      ∧ t.get R.RFM_LASTSW = s.time.tb.toNat % 2 ^ 32
      ∧ t.gets R.RFM_GCORR = satS 16 ((s.devOf n).getD (s.gets R.RFM_GCORR))
      ∧ (s.rfm.switched = true → t.bit R.HLT_CAUSE 2 = true)
      ∧ ∀ i : Fin 8, (t.adc.at i).spans =
          ((s.adc.at i).spans || (spans.getLsbD i && decide ((s.adc.at i).avg ≠ 0) && (s.adc.at i).busy)))
    ∧ (∃ t, exec (.rfmSwitchDeadline spans) s = .next t ∧ t.get R.RFM_STAT_ACTIVE = n ∧ t.get R.RFM_STAT_SWITCHED = 1
      ∧ t.rfm.next = none ∧ t.rfm.holdoff = true ∧ t.get R.RFM_SWCNT = min 0xFF (s.get R.RFM_SWCNT + 1)
      ∧ t.get R.RFM_LASTSW = s.time.tb.toNat % 2 ^ 32
      ∧ t.gets R.RFM_GCORR = satS 16 ((s.devOf n).getD (s.gets R.RFM_GCORR))
      ∧ (s.rfm.switched = true → t.bit R.HLT_CAUSE 2 = true)
      ∧ ∀ i : Fin 8, (t.adc.at i).spans = ((s.adc.at i).spans || (spans.getLsbD i && (s.adc.at i).busy))))
  ∧ (∀ s : State, exec .rfmHoldoffEnd s = .next { s with rfm := { s.rfm with holdoff := false } })
  ∧ (∀ (q : Who) (v : Word) (s : State), s.on 7 = true →
    ∃ t, exec (.rfmWinWrite q v) s = .next t ∧ t.get R.RFM_WIN_OUTER = min 2097 (v.toNat / 2 ^ 16 % 2 ^ 12)
      ∧ t.get R.RFM_WIN_INNER = min (t.get R.RFM_WIN_OUTER) (v.toNat % 2 ^ 12)
      ∧ RegsOnly (fun f => f = R.RFM_WIN_OUTER ∨ f = R.RFM_WIN_INNER) s t)

/-! ### The Loom (chapter 03) -/

/-- R48, R66: a held run starts when its lane accepts one again, and with no held run the lane is free and nothing
else changes; MAXAGE makes an enabled lane input-missing. R65: a write of LNk_CTRL, which each of its four commands
makes. An enable takes the lane with its history to clear, or is refused with DSTBUSY where another enabled lane holds
the destination or names a lane that the DSTMASK names; a disable discards a pending run and ends input-missing; UPD
waits for the next run and HCLR clears the history there. Where a clause follows a choice of the model, log entry 24
says so. -/
def Obligations.LaneTriggersAndControl : Prop :=
  (∀ (k : Fin 16) (s : State), (s.lane.at k).pend = true → s.flag (R.LN_CTRL_EN k) = true → (s.lane.at k).shed = false →
    exec (.lanePendingRunStart k) s =
      .next (runWork ((s.updLane k fun l => { l with hot := false }).laneRun k)))
  ∧ (∀ (k : Fin 16) (s : State),
    (s.lane.at k).pend = false ∨ s.flag (R.LN_CTRL_EN k) = false ∨ (s.lane.at k).shed = true →
    exec (.lanePendingRunStart k) s = .next (s.updLane k fun l => { l with hot := false }))
  ∧ (∀ (k : Fin 16) (s : State), s.get (R.LN_IN_MAXAGE k) ≠ 0 → s.flag (R.LN_CTRL_EN k) = true →
    exec (.laneMaxageExpiry k) s = .next (fireAll (State.missBegin 16 s k true))
    ∧ (s.flag (R.LN_STAT_INMISS k) = false → (State.missBegin 16 s k true).1.flag (R.LN_STAT_INMISS k) = true
      ∧ (State.missBegin 16 s k true).1.flag (R.LN_STAT_MISS k) = true))
  ∧ (∀ f ∈ [Instr.laneEnable, Instr.laneDisable, Instr.laneUpd, Instr.laneHclr],
    ∀ (q : Who) (k : Fin 16) (v : Word) (s : State), s.on 6 = true →
    let w := s.laneWritten q k v.toNat
    (s.flag (R.LN_CTRL_EN k) = false → v.toNat.testBit 31 = true → w.destBusy k = false →
      exec (f q k v) s = .next (fireAll (w.updLane k fun l => { l with hclr := true, first := true, pend := false }).missCheck))
    ∧ (s.flag (R.LN_CTRL_EN k) = false → v.toNat.testBit 31 = true → w.destBusy k = true →
      exec (f q k v) s = .next ((w.set (R.LN_CTRL_EN k) 0).set (R.LN_STAT_DSTBUSY k) 1))
    ∧ (s.flag (R.LN_CTRL_EN k) = true → v.toNat.testBit 31 = true → exec (f q k v) s = .next (fireAll (w.missSafeNow k)))
    ∧ (s.flag (R.LN_CTRL_EN k) = true → v.toNat.testBit 31 = false →
      ∃ t, exec (f q k v) s = .next t ∧ t.flag (R.LN_CTRL_EN k) = false ∧ (t.lane.at k).pend = false
        ∧ t.get (R.LN_STAT_INMISS k) = 0 ∧ k.val ∉ t.trip.laneSafe)
    ∧ (s.flag (R.LN_CTRL_EN k) = false → v.toNat.testBit 31 = false → exec (f q k v) s = .next w))
  ∧ (∀ (q : Who) (k : Fin 16) (v : Word) (s : State),
    let w := s.laneWritten q k v.toNat
    w.flag (R.LN_CTRL_EN k) = v.toNat.testBit 31 ∧ w.get (R.LN_CTRL_DSTTYPE k) = v.toNat / 2 ^ 13 % 8
    ∧ w.get (R.LN_CTRL_DSTIDX k) = v.toNat / 2 ^ 4 % 16 ∧ w.get (R.LN_CTRL_HCLR k) = 0
    ∧ w.flag (R.LN_CTRL_UPD k) = (s.flag (R.LN_CTRL_UPD k) || v.toNat.testBit 30)
    ∧ (w.lane.at k).hclr = ((s.lane.at k).hclr || v.toNat.testBit 29))
  ∧ (∀ (k : Fin 16) (s : State),
    s.destBusy k = true ↔ ∃ u : Fin 16, u ≠ k ∧ s.flag (R.LN_CTRL_EN u) = true
      ∧ (((s.laneDest k).isSome = true ∧ s.laneDest u = s.laneDest k)
        ∨ s.get (R.LN_DSTMASK u) &&& s.get (R.LN_DSTMASK k) ≠ 0))
  ∧ (∀ (k : Fin 16) (s : State), s.flag (R.LN_CTRL_UPD k) = true →
    let t := s.laneS1 k
    t.get (R.LN_CTRL_UPD k) = 0
    ∧ (s.gets (R.LN_OMAX k) < s.gets (R.LN_OMIN k) → t.get (R.LN_STAT_WINERR k) = 1)
    ∧ (s.gets (R.LN_OMIN k) ≤ s.gets (R.LN_OMAX k) →
        (t.lane.at k).b0 = s.gets (R.LN_B k 0) ∧ (t.lane.at k).omin = s.gets (R.LN_OMIN k)
        ∧ (t.lane.at k).omax = s.gets (R.LN_OMAX k)))
  ∧ (∀ (k : Fin 16) (s : State), (s.lane.at k).hclr = true →
    let l := (s.laneS1 k).lane.at k
    l.hclr = false ∧ l.e1 = 0 ∧ l.e2 = 0 ∧ l.e3 = 0 ∧ l.y1 = 0 ∧ l.y2 = 0 ∧ l.y3 = 0 ∧ l.integ = 0)

/-- R52 to R54: the value a run of an enabled lane writes. With no boost, inhibit, pending set or missing input, the
error goes through the IIR or the PI form, the result is limited to OMIN to OMAX, LN_OUT shows it, and SAT is set
where the window changed it. Where a clause follows a choice of the model, log entry 24 says so. -/
def Obligations.LaneRunComputes : Prop :=
  ∀ (k : Fin 16) (s : State),
    let l := s.lane.at k
    l.hclr = false → s.flag (R.LN_CTRL_UPD k) = false → s.flag (R.LN_STAT_INMISS k) = false → s.missCond k = false →
    s.flag (R.LN_CTRL_BOOSTEN k) = false → s.flag (R.LN_STAT_INHIB k) = false →
    -(2 ^ 23) ≤ l.omin → l.omin ≤ l.omax → l.omax < 2 ^ 23 →
    let x := s.laneX k
    let r := s.laneRef k x
    let e := satQ (if s.flag (R.LN_CTRL_INV k) then x - r else r - x)
    let i := satI (l.omin * 2 ^ 20) (l.omax * 2 ^ 20) (l.integ + l.b1 * e)
    let u := satQ (rhe 20 (if s.flag (R.LN_CTRL_MODE k) then l.b0 * e + i
      else l.b0 * e + l.b1 * l.e1 + l.b2 * l.e2 + l.b3 * l.e3 + l.a1 * l.y1 + l.a2 * l.y2 + l.a3 * l.y3))
    (s.laneRun k).1.gets (R.LN_OUT k) = min (max u l.omin) l.omax
    ∧ (min (max u l.omin) l.omax ≠ u → (s.laneRun k).1.flag (R.LN_STAT_SAT k) = true)

/-- R64, R58: an enable of a shedding group starts it at NNOM phases or is refused with CFGERR; a write of a Heddle
destination sets it and restarts its divider, which fires on every (DIV + 1)-th event; the strobes fire their sources,
and source 119 fires once at a pick where TB mod HED_TICK is 0 (R128). Where a clause follows a choice of the model,
log entry 14 says so. -/
def Obligations.SheddingAndHeddle : Prop :=
  (∀ (q : Who) (g : Fin 2) (v : Word) (s : State), s.on 6 = true → s.flag (R.SHED_CFG_EN g) = false →
    v.toNat.testBit 31 = true →
    let w := (s.reply q.req .ok 0).writeReg q (0x7200 + 0x20 * g.val) v.toNat
    (w.shedBad g = false → ∃ t, exec (.shedGroupEnable q g v) s = .next t ∧ t.get (R.SHED_STAT_N g) = v.toNat / 16 % 16
      ∧ t.shed.at g = { below := 0, since := v.toNat / 2 ^ 16 % 256, nom := false })
    ∧ (w.shedBad g = true → ∃ t, exec (.shedGroupEnable q g v) s = .next t ∧ t.get (R.SHED_CFG_EN g) = 0
      ∧ t.get (R.SHED_STAT_CFGERR g) = 1))
  ∧ (∀ (q : Who) (n : Fin 96) (v : Word) (s : State), s.on 6 = true →
    ∃ t, exec (.heddleDestinationWrite q n v) s = .next t ∧ t.get (R.HED_DST_EN n) = v.toNat / 2 ^ 31 % 2
      ∧ t.get (R.HED_DST_DIV n) = v.toNat / 2 ^ 8 % 256 ∧ t.get (R.HED_DST_SRC n) = v.toNat % 128
      ∧ t.hedCnt.at n = 0
      ∧ RegsOnly (fun f => f = R.HED_DST_EN n ∨ f = R.HED_DST_DIV n ∨ f = R.HED_DST_SRC n) s t)
  ∧ (∀ (q : Who) (m : BitVec 4) (s : State), s.on 6 = true →
    exec (.heddleSoftwareStrobe q m) s = .next ((s.reply q.req .ok 0).fire
      (([0, 1, 2, 3].filter fun b => m.toNat.testBit b).map fun b => 120 + b)))
  ∧ (∀ s : State, s.on 6 = true → s.time.hed ≠ 0 → s.time.tb.toNat % s.time.hed = 0 →
    (s.time.ticked = false →
      exec .heddleTick s = .next ({ s with time := { s.time with ticked := true } }.fire [119]))
    ∧ (s.time.ticked = true → exec .heddleTick s = .next s))
  ∧ (∀ (n : Nat) (s : State),
    (s.get (R.HED_DST_DIV n) ≤ s.hedCnt.at n → s.destCount n = ({ s with hedCnt := s.hedCnt.put n 0 }, true))
    ∧ (s.hedCnt.at n < s.get (R.HED_DST_DIV n) →
      s.destCount n = ({ s with hedCnt := s.hedCnt.put n (s.hedCnt.at n + 1) }, false)))

/-! ### The PWM generators (chapter 04) -/

/-- R74 to R79, R84, R87, R88: the events of a running pair's counter. A period start takes up the new period and
fires its source, and a lagging leg's fires its own events; an edge position fixes its edge, and one below the counter
value 3 of the coming period is held for it; a compare moves its output's reference; the peak shows the count, and
with SHPEAK brings the shadow set into force; a trigger compare fires its source; CT termination drops output A's
reference once. R81 to R83, R85, R89: a dead time that ends raises its output; the first switch-node transition gives
the measured time, none in time sets ADTMISS; a value written in SHADOW mode is the shadow, one written in GUARDED
mode is loaded under the guard rule or waits for the loader, and a value that waits is loaded first come first; an
enable without GSARM starts the pair, one with it makes the pair wait, a disable stops it. R93 to R96, R102: an active
pulse of 2 ns or more at a TZ ball is a trip source, one below 1 ns is not and one between is open, and the inactive
level ends it; the software sources are set and cleared by their masks, and a bit in both is set; the lowest active
source trips a pair and is its cause; a clear request waits for a period start. Where a clause follows a choice of the
model, log entries 12, 28, 31 and 32 say so. -/
def Obligations.PwmPairs : Prop :=
  (∀ (p : Fin 12) (s : State), (s.pwm.at p).run = true →
    256 ≤ s.perNow p
    ∧ (s.psfbCouple p = false ∨ p.val % 2 = 0 → exec (.pwmPeriodStart p) s = .next (fireAll (s.periodStart p false)))
    ∧ (s.psfbCouple p = true → p.val % 2 = 1 → exec (.pwmPeriodStart p) s = .next (fireAll (s.periodEvents p)))
    ∧ (s.bleedHeld p = false → (s.periodEvents p).2 = [p.val]))
  ∧ (∀ (p : Fin 12) (e : PwmEdge) (s : State), (s.pwm.at p).run = true →
    let x := s.nextEdge p e
    (e ∉ (s.pwm.at p).fixed → ∃ t, exec (.pwmEdgeCommit p e) s = .next t ∧ e ∈ (t.pwm.at p).fixed ∧ OnlyIn [.pwm] s t)
    ∧ (e ∈ (s.pwm.at p).fixed → x.2 < 3 → (∀ h ∈ (s.pwm.at p).held, h.1 ≠ e) →
      ∃ t, exec (.pwmEdgeCommit p e) s = .next t ∧ (e, x.1) ∈ (t.pwm.at p).held ∧ OnlyIn [.pwm] s t)
    ∧ (e ∈ (s.pwm.at p).fixed → (3 ≤ x.2 ∨ ∃ h ∈ (s.pwm.at p).held, h.1 = e) → exec (.pwmEdgeCommit p e) s = .next s))
  ∧ (∀ (p : Fin 12) (e : PwmEdge) (s : State), s.runsRefs p = true → (s.pwm.at p).hasEdge p e = true →
    ((s.pwm.at p).mode = 4 → (s.pwm.at p).ctDone = false) →
    (e = .aUp ∨ e = .aDown → (s.pwm.at p).aRef ≠ edgeRises (s.pwm.at p).mode p e →
      ∃ t, exec (.pwmCompareEdge p e) s = .next t ∧ (t.pwm.at p).aRef = edgeRises (s.pwm.at p).mode p e)
    ∧ (e = .bUp ∨ e = .bDown → (s.pwm.at p).bRef ≠ edgeRises (s.pwm.at p).mode p e →
      ∃ t, exec (.pwmCompareEdge p e) s = .next t ∧ (t.pwm.at p).bRef = edgeRises (s.pwm.at p).mode p e))
  ∧ (∀ (p : Fin 12) (s : State), (s.pwm.at p).run = true → (s.pwm.at p).mode = 1 →
    (s.flag (R.PWM_CTRL_SHPEAK p) = false →
      ∃ t, exec (.pwmCentrePeak p) s = .next t ∧ t.get (R.PWM_CNT_CNT p) = s.perNow p / 32 % 2 ^ 16
        ∧ t.get (R.PWM_CNT_DOWN p) = 1
        ∧ RegsOnly (fun f => f = R.PWM_CNT_CNT p ∨ f = R.PWM_CNT_DOWN p) s t)
    ∧ (s.flag (R.PWM_CTRL_SHPEAK p) = true → s.flag (R.PWM_CTRL_UPDMODE p) = false → s.flag (R.PWM_CTRL_SHHOLD p) = false →
      ∃ t, exec (.pwmCentrePeak p) s = .next t ∧ ∀ f, t.inForce p f = (s.shadowIn p).inForce p f))
  ∧ (∀ (p : Fin 12) (u : Fin 2) (down : Bool) (s : State),
    let w := s.pwm.at p
    let x := w.trg u down
    let top := s.perNow (s.leader p)
    (s.pwm.at (s.leader p)).run = true → s.bleedHeld p = false → down ∈ s.trgDirs p u →
    (if w.mode = 1 then x ≤ top / 32 else 32 * x < top + w.res) →
    exec (.pwmTriggerCompare p u down) s = .next
      (((s.set (R.PWM_CNT_CNT p) x).setB (R.PWM_CNT_DOWN p) down).fire [12 + 12 * u.val + p.val]))
  ∧ (∀ (p : Fin 12) (s : State),
    let w := s.pwm.at p
    s.runsRefs p = true → w.mode = 4 → w.aRef = true → w.ctDone = false → s.flag (R.CMP_STAT_OUT w.ctcmp) = true →
    ∃ t, exec (.pwmCtTermination p) s = .next t ∧ (t.pwm.at p).aRef = false ∧ (t.pwm.at p).ctDone = true)
  ∧ (∀ (p : Fin 12) (s : State),
    ((s.pwm.at p).aWait = true → ∃ t, exec (.pwmDeadTimeExpiry p false) s = .next t ∧ (t.pwm.at p).aOut = .high
      ∧ (t.pwm.at p).aWait = false ∧ OnlyIn [.cmp, .pwm, .pd 7] s t)
    ∧ ((s.pwm.at p).bWait = true → ∃ t, exec (.pwmDeadTimeExpiry p true) s = .next t ∧ (t.pwm.at p).bOut = .high
      ∧ (t.pwm.at p).bWait = false ∧ OnlyIn [.pwm] s t))
  ∧ (∀ (p : Fin 12) (n : Nat) (s : State), s.adtRuns p = true → 32 * n ≤ s.get (R.PWM_ADTMAX p) + 128 →
    ((s.pwm.at p).tf = none →
      ∃ t, exec (.adtSwitchNodeTransition p true n) s = .next t ∧ (t.pwm.at p).tf = some n ∧ OnlyIn [.pwm] s t)
    ∧ ((s.pwm.at p).tr = none →
      ∃ t, exec (.adtSwitchNodeTransition p false n) s = .next t ∧ (t.pwm.at p).tr = some n ∧ OnlyIn [.pwm] s t))
  ∧ (∀ (p : Fin 12) (s : State), s.adtRuns p = true →
    ((s.pwm.at p).tf = none → exec (.adtMissTimeout p true) s = .next (s.set (R.PWM_STAT_ADTMISS p) 1))
    ∧ ((s.pwm.at p).tr = none → exec (.adtMissTimeout p false) s = .next (s.set (R.PWM_STAT_ADTMISS p) 1)))
  ∧ (∀ (q : Who) (p : Fin 12) (r : PwmReg) (v : Word) (s : State), s.on 6 = true →
    ∃ t, exec (.pwmShadowWrite q p r v) s = .next t
      ∧ (r = .per → t.get (R.PWM_PER p) = v.toNat % 2 ^ 21) ∧ (r = .cmpa → t.get (R.PWM_CMPA p) = v.toNat % 2 ^ 21)
      ∧ (r = .cmpb → t.get (R.PWM_CMPB p) = v.toNat % 2 ^ 21) ∧ (r = .phase → t.get (R.PWM_PHASE p) = v.toNat % 2 ^ 21)
      ∧ (r = .dtr → t.get (R.PWM_DTR p) = v.toNat % 2 ^ 17) ∧ (r = .dtf → t.get (R.PWM_DTF p) = v.toNat % 2 ^ 17)
      ∧ (∀ f, t.inForce p f = s.inForce p f)
      ∧ (r = .phase → (s.pwm.at p).run = false → t.get (R.PWM_CNT_CNT p) = v.toNat % 2 ^ 21 / 32)
      ∧ ((s.pwm.at p).run = true → s.flag (R.PWM_CTRL_UPDMODE p) = true →
        (t.pwm.at p).loads = (s.pwm.at p).loads ++ (pwmRegFields r).map fun f => { fld := f, val := t.written p f })
      ∧ ((s.pwm.at p).run = false ∨ s.flag (R.PWM_CTRL_UPDMODE p) = false → (t.pwm.at p).loads = (s.pwm.at p).loads))
  ∧ (∀ (q : Who) (p : Fin 12) (r : PwmReg) (v : Word) (n : Nat) (s : State), s.on 6 = true →
    s.flag (R.PWM_CTRL_UPDMODE p) = true → (s.pwm.at p).run = true →
    let w := ((s.reply q.req .ok 0).writeReg q (pwmRegAddr p r) v.toNat).updPwm p fun w =>
      { w with nomR := w.nomR || decide (r = .dtr), nomF := w.nomF || decide (r = .dtf) }
    let w := (pwmRegFields r).foldl (fun u f => u.writeField p f (u.written p f) none) w
    exec (.pwmGuardedWrite q p r v n) s = .next ((pwmRegFields r).foldl
      (fun u f => u.guardLoad p n { fld := f, val := w.written p f }) w))
  ∧ (∀ (p : Fin 12) (n : Nat) (d : PwmLoad) (ds : List PwmLoad) (s : State), (s.pwm.at p).loads = d :: ds →
    exec (.pwmValueLoad p n) s = .next ((s.updPwm p fun w => { w with loads := ds }).guardLoad p n d))
  ∧ (∀ (q : Who) (p : Fin 12) (v : Word) (s : State), s.on 6 = true →
    let w := (s.reply q.req .ok 0).writeReg q (0x8000 + 0x400 * p.val) v.toNat
    w.govOwns p = false →
    (v.toNat.testBit 31 = true → v.toNat.testBit 15 = false → (s.pwm.at p).run = false →
      exec (.pwmEnable q p v) s = .next (fireAll (w.startPair p)))
    ∧ (v.toNat.testBit 31 = true → v.toNat.testBit 15 = false → (s.pwm.at p).run = true → exec (.pwmEnable q p v) s = .next w)
    ∧ (v.toNat.testBit 31 = true → v.toNat.testBit 15 = true → exec (.pwmEnable q p v) s = .next (w.haltPair p true))
    ∧ (v.toNat.testBit 31 = false → exec (.pwmEnable q p v) s = .next (w.haltPair p false)))
  ∧ (∀ (p : Fin 12) (wait : Bool) (s : State),
    let t := s.haltPair p wait
    (t.pwm.at p).run = false ∧ (t.pwm.at p).aOut = .low ∧ (t.pwm.at p).bOut = .low
      ∧ t.get (R.PWM_STAT_GSWAIT p) = b2n wait ∧ t.get (R.PWM_CNT_CNT p) = s.get (R.PWM_PHASE p) / 32 % 2 ^ 16)
  ∧ (∀ (u : Fin 14) (lvl : Bool) (ps : Nat) (s : State), s.on 6 = true →
    let w : State := { s with trip := s.trip.seen u lvl (s.bit R.TRP_TZCFG_POL u) }
    (lvl = s.bit R.TRP_TZCFG_POL u → 2000 ≤ ps → u.val ∈ w.trip.tz ∧ exec (.tripZoneInput u lvl ps) s = .next (fireAll w.judgeTrips))
    ∧ (lvl = s.bit R.TRP_TZCFG_POL u → ps < 1000 → exec (.tripZoneInput u lvl ps) s = .next s)
    ∧ (lvl = s.bit R.TRP_TZCFG_POL u → 1000 ≤ ps → ps < 2000 → exec (.tripZoneInput u lvl ps) s =
      .next (if Config.freeBool s.free then fireAll { w with free := s.free + 1 }.judgeTrips else { s with free := s.free + 1 }))
    ∧ (lvl ≠ s.bit R.TRP_TZCFG_POL u → u.val ∉ w.trip.tz ∧ exec (.tripZoneInput u lvl ps) s = .next w))
  ∧ (∀ (q : Who) (setm clrm : BitVec 12) (s : State), s.on 6 = true →
    let w := { s.reply q.req .ok 0 with
      trip := { s.trip with sw := (s.trip.sw &&& (0xFFF ^^^ clrm.toNat)) ||| setm.toNat } }
    exec (.softwareTripSet q setm clrm) s = .next (fireAll w.judgeTrips)
    ∧ exec (.softwareTripClear q clrm setm) s = .next (fireAll w.judgeTrips))
  ∧ (∀ (p : Fin 12) (c : Nat) (s : State), s.tripCause p = some c → c < 64 → s.flag (R.TRP_STAT_TRIPPED p) = false →
    (s.judgeTrip p).1.flag (R.TRP_STAT_TRIPPED p) = true ∧ (s.judgeTrip p).1.get (R.TRP_STAT_CAUSE p) = c
      ∧ (s.judgeTrip p).2 = [126])
  ∧ (∀ (q : Who) (p : Fin 12) (s : State), s.on 6 = true → s.flag (R.TRP_STAT_TRIPPED p) = true →
    ∃ t, exec (.tripClearRequest q p) s = .next t ∧ (t.pwm.at p).clr = true ∧ OnlyIn [.resp, .pwm] s t)

/-! ### The governor (chapter 05) -/

/-- R104, R107, R113: a governor sample triggers its voltage slot, and while a capacitance is measured its charge
slot, and fires source 124; a sample above the ceiling begins the inhibit with its flag, and 10 ms above it set
CEILTRIP and hold every pair of CHGMAP but the bleed pair; a capacitance measurement without an end is skipped. R104,
R108, R109, R117: the computation of a sample measures, acts where the governor is active, adapts and fires; a valid
sample gives the two energies, EGV_EHI and EGV_ELO show them, and the invalid samples count from 0 again; an invalid
one keeps them, and the ninth in a row sets MEASFAIL; the released energy beyond its limit, the energy below the floor
and the floor margin begin their actions with their flags. Where a clause follows a choice of the model, log entries
25 and 67 say so. -/
def Obligations.Governor : Prop :=
  (∀ s : State, s.gov.started = true → s.on 6 = true → s.time.tb.toNat % 125 = 0 →
    exec .governorSample s = .next s.govSample)
  ∧ (∀ s : State, s.gov.vMark = none → s.gov.qMark = none →
    let v := s.get R.EGV_CFG_VSLOT
    let c := s.get R.EGV_CMCFG_CMSLOT
    (s.flag R.EGV_CMCFG_EN = false ∨ s.gov.cmPhase = 3 →
      let u : State := { s with gov := { s.gov with vMark := some (s.govMark v), vGot := none, qGot := none } }
      s.govSample = (u.adcTrigger (v / 4) (v % 4)).fire [124])
    ∧ (s.flag R.EGV_CMCFG_EN = true → s.gov.cmPhase ≠ 3 →
      let u : State := { s with gov := { s.gov with
        vMark := some (s.govMark v), vGot := none, qMark := some (s.govMark c), qGot := none } }
      let w := u.adcTrigger (min v c / 4) (min v c % 4)
      s.govSample = (if v = c then w else w.adcTrigger (max v c / 4) (max v c % 4)).fire [124]))
  ∧ (∀ s : State, s.gov.started = true → s.govActive = true → s.gov.above = true → s.gov.ceilInh = true →
    s.gov.condCeil = false →
    ∃ w : State, exec .governorCeilingTimeout s = .next ((w.govApply 1).1.quality.fire ((w.govApply 1).2 ++ [125]))
      ∧ w.get R.EGV_STAT_CEILTRIP = 1 ∧ w.gov.condCeil = true
      ∧ ∀ p, p < 12 → p ≠ s.get R.EGV_CFG_BLDPAIR → s.bit R.EGV_CHGMAP p = true → w.govTrips.testBit p = true)
  ∧ (∀ s : State, s.get R.EGV_CFG_BLDPAIR < 12 → s.govTrips.testBit (s.get R.EGV_CFG_BLDPAIR) = false)
  ∧ (∀ s : State, s.gov.started = true → s.flag R.EGV_CMCFG_EN = true → s.gov.cmPhase ≠ 3 →
    ∃ t, exec .capMeasurementTimeout s = .next t ∧ t.flag R.EGV_STAT_CMSKIP = true ∧ t.gov.cmPhase = 3
      ∧ t.get R.EGV_CMEAS = s.get R.EGV_CMEAS)
  ∧ (∀ s : State, s.gov.started = true → s.on 6 = true → s.gov.vMark.isSome = true →
    (s.gov.vGot.isSome = true ∨ s.gov.vMark = some 0 ∨ s.on 7 = false) →
    let t := s.govMeasure
    let r := if s.govActive = true then t.govActs else (t, [])
    exec .governorComputation s = .next (((r.1.adapt t.gov.valid).govJudge).fire r.2))
  ∧ (∀ s : State,
    let t := s.govMeasure
    t.gov.vMark = none ∧ t.gov.valid = s.govValid
    ∧ (s.govValid = true → t.gov.eHi = s.energyHi s.govCode ∧ t.gov.eLo = s.energyLo s.govCode
      ∧ t.get R.EGV_EHI = min (2 ^ 28 - 1) (s.energyHi s.govCode) ∧ t.get R.EGV_ELO = min (2 ^ 28 - 1) (s.energyLo s.govCode)
      ∧ t.gov.invalid = 0 ∧ t.get R.EGV_STAT_MEASFAIL = 0)
    ∧ (s.govValid = false → t.gov.eHi = s.gov.eHi ∧ t.gov.eLo = s.gov.eLo ∧ t.gov.invalid = s.gov.invalid + 1
      ∧ (s.gov.invalid = 8 → s.govActive = true → t.get R.EGV_STAT_MEASFAIL = 1)))
  ∧ (∀ s : State, s.gov.ceilInh = false → (12 ≤ s.get R.EGV_CFG_BLDPAIR ∨ 0 < s.get R.EGV_CFG_BLDLY) →
    (s.govCeiling true).1.get R.EGV_STAT_CEIL = 1 ∧ (s.govCeiling true).1.get R.EGV_STAT_INHIB = 1
    ∧ (s.govCeiling true).1.gov.ceilInh = true ∧ (s.govCeiling true).2.2 = true)
  ∧ (∀ (s : State) (r : Nat), s.govRlim = some r →
    (s.gov.condRel = false → r < s.get R.EGV_REL →
      s.govRelAct.1.get R.EGV_STAT_RELTRIP = 1 ∧ s.govRelAct.1.gov.condRel = true ∧ s.govRelAct.2 = true)
    ∧ (s.gov.condRel = true → s.get R.EGV_REL ≤ r → s.govRelAct.1.gov.condRel = false)
    ∧ (s.gov.condRel = true → r < s.get R.EGV_REL → s.govRelAct.1 = s))
  ∧ (∀ s : State, s.govOverlap = false → s.flag R.EGV_STAT_MEASFAIL = false → s.gov.everValid = true →
    (s.gov.condFloor = false → s.gov.eLo < s.govFloor →
      s.govFloorAct.1.get R.EGV_STAT_FLRTRIP = 1 ∧ s.govFloorAct.1.gov.condFloor = true)
    ∧ (s.flag R.EGV_STAT_FLOOROVR = false → s.gov.eLo ≤ s.govFloor + s.get R.EGV_LVLFLM →
      s.govFloorAct.1.get R.EGV_STAT_FLOOROVR = 1 ∧ s.govFloorAct.1.flag R.EGV_STAT_FLOOR = true)
    ∧ (s.flag R.EGV_STAT_FLOOROVR = true → s.govFloor + 2 * s.get R.EGV_LVLFLM ≤ s.gov.eLo →
      s.govFloorAct.1.get R.EGV_STAT_FLOOROVR = 0))
  ∧ (∀ s : State, s.govOverlap = true → s.govFloorAct.1.get R.EGV_STAT_LIMERR = 1
    ∧ s.govFloorAct.1.get R.EGV_STAT_FLOOROVR = 0 ∧ s.govFloorAct.1.gov.condFloor = false)

/-! ### Timers and the timebase (chapter 06) -/

/-- R124 to R127: a compare match shows the value and sets its STAT bit, an overflow restarts the counter, takes up
the written values, acts on the pin and ends a one-shot run; each raises ICU source 88 + n under IE and answers Heddle
source 84 + n under EVSEL. A capture, of a level that has held for FILT + 1 samples, takes the count and TB, and CAPCLR clears a counter that nothing holds. An ACTIVE
read of CAP clears CAPNEW. A write of CNT waits for the next tick of a running timer, reads back, and acts at once on
a stopped one. R123, R125, R127, R133: a force acts on the pin at once; an enable without GSARM starts the counter at
START with the written values in force, one with GSARM makes it wait there, and a disable stops it; the trip path sees
the level driven (R524). Where a clause follows a choice of the model, log entries 27 and 66 say so. -/
def Obligations.Timers : Prop :=
  (∀ (n : Fin 16) (b : Bool) (s : State),
    let v := if b then (s.tmr.at n).cmpb else (s.tmr.at n).cmpa
    (s.tmr.at n).run = true → s.tmrFrozen n = false → v ≤ (s.tmr.at n).top → v < 2 ^ 32 →
    ∃ w : State, exec (.tmrCompareMatch n b) s = .next (fireAll (w.pinEvent n (if b then 1 else 0)))
      ∧ w.get (R.TMR_CNT n) = v ∧ w.get (if b then R.TMR_STAT_CMPB n else R.TMR_STAT_CMPA n) = 1
      ∧ OnlyIn [.tmr, .pd 6] s w)
  ∧ (∀ (n : Fin 16) (s : State), (s.tmr.at n).run = true → s.tmrFrozen n = false →
    ∃ w : State, exec (.tmrOverflow n) s = .next (fireAll (w.pinEvent n 2)) ∧ w.get (R.TMR_CNT n) = 0
      ∧ w.get (R.TMR_STAT_OVF n) = 1 ∧ (w.tmr.at n).top = max 1 (s.get (R.TMR_TOP n))
      ∧ (w.tmr.at n).cmpa = s.get (R.TMR_CMPA n) ∧ (w.tmr.at n).cmpb = s.get (R.TMR_CMPB n)
      ∧ (s.get (R.TMR_CTRL_MODE n) = 1 → w.get (R.TMR_CTRL_EN n) = 0 ∧ w.get (R.TMR_STAT_DONE n) = 1
          ∧ (w.tmr.at n).run = false)
      ∧ (s.get (R.TMR_CTRL_MODE n) ≠ 1 → (w.tmr.at n).run = true)
      ∧ ((s.tmr.at n).edge = none → pinActs (s.get (R.TMR_PIN_ACTO n)) = true → w.flag (R.TMR_STAT_PINLVL n) =
          pinLevel (s.get (R.TMR_PIN_ACTO n)) (s.flag (R.TMR_PIN_IDLE n)) (s.flag (R.TMR_STAT_PINLVL n)))
      ∧ OnlyIn [.tmr, .pd 6] s w)
  ∧ (∀ (n : Fin 16) (e : Nat) (s : State),
    (s.tmrEvent n e).1 = (if s.bit (R.TMR_CTRL_IE n) e then s.raise (88 + n) else s)
    ∧ ((s.tmrEvent n e).2 = if s.get (R.TMR_CTRL_EVSEL n) = e then [84 + n.val] else [])
    ∧ s.pinEvent n e = ((s.tmrEvent n e).1.drivenTrips.1, (s.tmrEvent n e).2 ++ (s.tmrEvent n e).1.drivenTrips.2)
    ∧ (s.get R.TRP_TZCFG_GTZEN = 0 → s.drivenTrips = (s, [])))
  ∧ (∀ (n : Fin 16) (rise : Bool) (s : State), s.on 6 = true → s.capSelects n rise = true →
    s.get (R.GPIO_MUX_FUNC n) = 1 →
    ∃ w : State, exec (.tmrCapture n rise (s.get (R.TMR_CTRL_FILT n) + 1)) s = .next (fireAll (w.tmrEvent n 3))
      ∧ w.get (R.TMR_CAP n) = s.get (R.TMR_CNT n) % 2 ^ 32 ∧ (w.tmr.at n).captb = s.time.tb
      ∧ w.get (R.TMR_STAT_CAP n) = 1 ∧ w.get (R.TMR_STAT_CAPNEW n) = 1
      ∧ (s.flag (R.TMR_STAT_CAPNEW n) = true → w.get (R.TMR_STAT_CAPOVR n) = 1)
      ∧ (s.flag (R.TMR_STAT_CAPNEW n) = false → w.get (R.TMR_STAT_CAPOVR n) = s.get (R.TMR_STAT_CAPOVR n))
      ∧ w.get (R.TMR_CNT n) = if s.flag (R.TMR_CTRL_CAPCLR n) = true ∧ s.flag (R.TMR_STAT_GSWAIT n) = false
          ∧ s.tmrFrozen n = false then 0 else s.get (R.TMR_CNT n))
  ∧ (∀ (n : Fin 16) (rise : Bool) (held : Nat) (s : State), held ≠ s.get (R.TMR_CTRL_FILT n) + 1 →
    exec (.tmrCapture n rise held) s = .next s)
  ∧ (∀ (q : Who) (n : Fin 16) (s : State), s.on 6 = true →
    exec (.tmrCaptureRead q n) s = .next
      ((s.reply q.req .ok (s.get (R.TMR_CAP n))).set (R.TMR_STAT_CAPNEW n) 0))
  ∧ (∀ (q : Who) (n : Fin 16) (v : Word) (s : State), s.on 6 = true →
    ∃ t, exec (.tmrCounterWrite q n v) s = .next t ∧ (t.resp.at (reqIdx q.req)).code = .ok
      ∧ RegsOnly (fun f => f = R.TMR_CNT n) s t ∧ OnlyIn [.resp, .tmr, .pd 6] s t
      ∧ ((s.tmr.at n).run = true → t.readTmrCnt n = v.toNat ∧ t.get (R.TMR_CNT n) = s.get (R.TMR_CNT n)
        ∧ t.tmr.at n = { s.tmr.at n with load := some v.toNat })
      ∧ ((s.tmr.at n).run = false → s.flag (R.TMR_STAT_GSWAIT n) = false → t.get (R.TMR_CNT n) = v.toNat)
      ∧ ((s.tmr.at n).run = false → s.flag (R.TMR_STAT_GSWAIT n) = true → t.get (R.TMR_CNT n) = s.get (R.TMR_CNT n)))
  ∧ (∀ (q : Who) (n : Fin 16) (v : Word) (s : State), s.on 6 = true → (∀ x, (s.tmr.at n).edge = some x → x.1 ≤ 3) →
    let was := match (s.tmr.at n).edge with
      | some x => x.2
      | none => s.flag (R.TMR_STAT_PINLVL n)
    ∃ w : State, exec (.tmrPinForce q n v) s = .next (fireAll w.drivenTrips) ∧ w.get (R.TMR_PIN_FORCE n) = 0
      ∧ w.get (R.TMR_PIN_IDLE n) = presented v.toNat (R.TMR_PIN_IDLE n)
      ∧ (presented v.toNat (R.TMR_PIN_FORCE n) = 1 → w.get (R.TMR_STAT_PINLVL n) = 1)
      ∧ (presented v.toNat (R.TMR_PIN_FORCE n) = 2 → w.get (R.TMR_STAT_PINLVL n) = 0)
      ∧ (presented v.toNat (R.TMR_PIN_FORCE n) = 3 → w.get (R.TMR_STAT_PINLVL n) = w.get (R.TMR_PIN_IDLE n))
      ∧ (presented v.toNat (R.TMR_PIN_FORCE n) = 4 → w.flag (R.TMR_STAT_PINLVL n) = !was))
  ∧ (∀ (q : Who) (n : Fin 16) (v : Word) (s : State), s.on 6 = true →
    ∃ w : State, exec (.tmrEnable q n v) s = .next (fireAll w.drivenTrips)
      ∧ (presented v.toNat (R.TMR_CTRL_EN n) = 1 → presented v.toNat (R.TMR_CTRL_GSARM n) = 0 → (s.tmr.at n).run = false →
        (w.tmr.at n).run = true ∧ w.get (R.TMR_CNT n) = s.get (R.TMR_START n) % 2 ^ 32
        ∧ (w.tmr.at n).top = max 1 (s.get (R.TMR_TOP n)) ∧ w.get (R.TMR_STAT_GSWAIT n) = 0)
      ∧ (presented v.toNat (R.TMR_CTRL_EN n) = 1 → presented v.toNat (R.TMR_CTRL_GSARM n) = 0 → (s.tmr.at n).run = true →
        w.tmr = s.tmr ∧ w.get (R.TMR_CNT n) = s.get (R.TMR_CNT n))
      ∧ (presented v.toNat (R.TMR_CTRL_EN n) = 1 → presented v.toNat (R.TMR_CTRL_GSARM n) = 1 →
        (w.tmr.at n).run = false ∧ w.get (R.TMR_STAT_GSWAIT n) = 1 ∧ w.get (R.TMR_CNT n) = s.get (R.TMR_START n) % 2 ^ 32)
      ∧ (presented v.toNat (R.TMR_CTRL_EN n) = 1 → s.flag (R.TMR_CTRL_EN n) = false →
        presented v.toNat (R.TMR_CTRL_DIR n) = 1 → w.get (R.TMR_STAT_PINLVL n) = s.get (R.TMR_PIN_INIT n) % 2)
      ∧ (presented v.toNat (R.TMR_CTRL_EN n) = 0 →
        (w.tmr.at n).run = false ∧ w.get (R.TMR_STAT_GSWAIT n) = 0 ∧ w.get (R.TMR_CTRL_EN n) = 0))

/-- R129: a read of the low word of a wide value answers its low half and loads the requester's own latch with the
high half of the same value, and with it those of the strands of its lockstep group; no other latch changes, and
nothing else does. R128, R154: a step replaces TB, sets STEPPED, ends TIME_LOST and cancels a scheduled release it
carries TB past, with LATE set; then the governor samples and source 119 fires, once at a pick. Where a clause follows
a choice of the model, log entry 2 says so. -/
def Obligations.TimebaseReads : Prop :=
  (∀ (q : Req) (w : Wide) (s : State), s.on (wideDomain w) = true →
      ∃ t, exec (.wideValueLowRead q w) s = .next t
        ∧ t.resp.at (reqIdx q) = { code := .ok, data := s.wideNow w % 2 ^ 32 }
        ∧ (∀ q' w', t.highLatch q' w' =
            if w' = w ∧ q' ∈ s.latchReqs q then s.wideNow w / 2 ^ 32 else s.highLatch q' w')
        ∧ OnlyIn [.resp, .time] s t ∧ t.time = { s.time with rlatch := t.time.rlatch })
  ∧ (∀ (q : Req) (s : State), q ∈ s.latchReqs q ∧ (q ≠ .strandA → s.latchReqs q = [q])
      ∧ (s.plyMode = 2 → s.latchReqs q = [q])
      ∧ (s.plyMode = 0 → s.get R.PLY_STATUS_RETIRED ≠ 1 → s.get R.PLY_STATUS_RETIRED ≠ 2 →
        s.latchReqs .strandA = [.strandA, .strandB, .strandC]))
  ∧ (∀ (tb : BitVec 64) (s : State), s.stepsAt tb = true →
      ∃ u : State, exec (.tbStep tb) s =
          .next ((if s.gov.started = true ∧ s.on 6 = true then u.govSample else u).tick119 true)
        ∧ u.time = { s.time with tb := tb } ∧ u.get R.TB_STAT = 1 ∧ u.get R.WRP_STAT_TIME_LOST = 0 ∧ u.warp.synced = true
        ∧ u.warp.stepPick = none ∧ u.tmr = s.tmr ∧ u.pwm = s.pwm
        ∧ (s.flag R.TMR_GSTART_PEND = true → s.time.tb.toNat < s.gsPick → s.gsPick ≤ tb.toNat →
            u.get R.TMR_GSTART_PEND = 0 ∧ u.get R.TMR_GSTART_LATE = 1)
        ∧ (∀ x ∈ u.warp.armed, x ≤ s.time.tb.toNat ∨ tb.toNat < x))
  ∧ (∀ s : State, s.tick119 true =
      if s.time.hed ≠ 0 ∧ s.time.ticked = false then { s with time := { s.time with ticked := true } }.fire [119] else s)

/-- R131: a low-word write of TMR_GSPICK waits in the requester's write latch; a high-word write commits both halves
at once, with 0 in the low half where no low word waits, and returns that latch to 0. The strands of a lockstep group
write as one; other requesters' latches stay. -/
def Obligations.WideWrites : Prop :=
  (∀ (q : Who) (v : Word) (s : State), s.on 6 = true →
    ∃ t, exec (.wideValueLowWrite q v) s = .next t
      ∧ (∀ r, t.writeLatch r = if r ∈ s.latchReqs q.req then v.toNat else s.writeLatch r)
      ∧ t.gsPick = s.gsPick ∧ OnlyIn [.resp, .time] s t)
  ∧ (∀ (q : Who) (v : Word) (s : State), s.on 6 = true →
    ∃ t, exec (.wideValueHighWrite q v) s = .next t
      ∧ t.gsPick = s.writeLatch q.req % 2 ^ 32 + 2 ^ 32 * v.toNat
      ∧ (∀ r, t.writeLatch r = if r ∈ s.latchReqs q.req then 0 else s.writeLatch r)
      ∧ RegsOnly (fun f => f = R.TMR_GSPICK_LO ∨ f = R.TMR_GSPICK_HI) s t)

/-- R132, R138: a load of a timer stagger group gives member k of N the start ⌊(N − k) × P ÷ N⌋ mod P and sets LOADED
and N; one under a condition of R138 sets CFGERR and writes no START and no phase. R133, R134: GO asks for a release
at the next pick, ARMAT arms one at the committed target or sets LATE where the target is not ahead of TB, CANCEL
withdraws it; a release that is due starts every waiting timer at its START, clears GSARM and fires source 118. Where
a clause follows a choice of the model, log entry 26 says so. -/
def Obligations.StaggerAndGlobalStart : Prop :=
  (∀ (q : Who) (g : Fin 4) (v : Word) (s : State), s.on 6 = true → v.toNat.testBit 31 = true →
    let w := ((s.reply q.req .ok 0).writeReg q (0x6900 + 0x10 * g.val) v.toNat).set (R.STG_CFG_LOAD g) 0
    exec (.staggerLoad q g v) s = .next (w.stgLoad g))
  ∧ (∀ (g : Fin 4) (s : State), s.stgBad g = true → s.stgLoad g = s.set (R.STG_STAT_CFGERR g) 1)
  ∧ (∀ (g : Fin 4) (s : State), s.stgBad g = false → s.flag (R.STG_CFG_TYPE g) = false →
    let ms := s.stgMembers g
    let per := max 1 (s.get (R.TMR_TOP (ms.headD 0))) + 1
    (∀ k, k < ms.length → (s.stgLoad g).get (R.TMR_START (ms.getD k 0)) = (ms.length - k) * per / ms.length % per % 2 ^ 32)
    ∧ (s.stgLoad g).get (R.STG_STAT_LOADED g) = 1 ∧ (s.stgLoad g).get (R.STG_STAT_N g) = ms.length)
  ∧ (∀ (g h : Fin 4) (k : Nat) (s : State), k < 16 → g ≠ h → s.bit (R.STG_CFG_MEMB g) k = true →
    s.bit (R.STG_CFG_MEMB h) k = true → s.flag (R.STG_STAT_LOADED h) = true →
    s.get (R.STG_CFG_TYPE h) = s.get (R.STG_CFG_TYPE g) → s.stgBad g = true)
  ∧ (∀ (q : Who) (s : State), s.on 6 = true →
    ∃ t, exec (.globalStartGo q) s = .next t ∧ t.time.go = true ∧ t.get R.TMR_GSTART_PEND = s.get R.TMR_GSTART_PEND)
  ∧ (∀ (q : Who) (s : State), s.on 6 = true →
    ∃ t, exec (.globalStartArm q) s = .next t
      ∧ (s.time.tb.toNat < s.gsPick → t.get R.TMR_GSTART_PEND = 1)
      ∧ (s.gsPick ≤ s.time.tb.toNat → t.get R.TMR_GSTART_LATE = 1 ∧ t.get R.TMR_GSTART_PEND = s.get R.TMR_GSTART_PEND))
  ∧ (∀ (q : Who) (s : State), s.on 6 = true →
    ∃ t, exec (.globalStartCancel q) s = .next t ∧ t.get R.TMR_GSTART_PEND = 0 ∧ t.time = s.time)
  ∧ (∀ s : State, s.on 6 = true → s.gsDue = true →
    ∃ u : State, exec .globalStartRelease s = .next ((u.releaseAll.1.set R.TMR_GSTART_REL 1).fire (118 :: u.releaseAll.2))
      ∧ u.time.go = false ∧ (s.time.tb.toNat = s.gsPick → u.get R.TMR_GSTART_PEND = 0)
      ∧ u.tmr = s.tmr)
  ∧ (∀ (n : Fin 16) (s : State), s.flag (R.TMR_CTRL_EN n) = true → s.flag (R.TMR_CTRL_GSARM n) = true →
    (s.releaseAll.1.tmr.at n).run = true)
  ∧ (∀ (n : Fin 16) (s : State), s.flag (R.TMR_CTRL_EN n) = true → s.flag (R.TMR_CTRL_GSARM n) = false →
    s.releaseAll.1.tmr.at n = s.tmr.at n)

/-! ### The Warp bus (chapter 07) -/

/-- R147, R148, R151, R152, R154, R159, R162: node 0 sends a TIME frame at TB mod 1,024 = 0; a member of the ring
compares its TB with a TIME frame, forwards it and, where locked, fires source 116 at TIME value + 512, and a node
past the ring's 255 forwards it alone; a TIME STEP frame gives the step pick; a slew step moves the phase one HR step;
4,096 picks without TIME set TIME_LOST; a GSTART frame arms a target, at which the waiting set is released with
sources 117 and 118. R153: a load of the Warp slot writes N and K and, where a condition of the rule refuses it, sets
SLOTERR and writes no phase; a load that is not refused sets SLOTLD and leaves each pair the offset ⌊(N − k) × P ÷ N⌋
mod P. Where a clause follows a choice of the model, log entry 33 says so. -/
def Obligations.WarpTimeAndSlots : Prop :=
  (∀ s : State, s.Node0 → s.time.tb.toNat % 1024 = 0 →
    ∃ t, exec .warpSuperframeSlot s = .next t ∧ t.warp.tx = .time false s.time.tb ∧ s.time.tb.toNat ∈ t.warp.launched
      ∧ (t.warp.stepDue = true ↔ ∃ p, s.warp.stepPick = some p ∧ s.time.tb.toNat < p) ∧ OnlyIn [.warp] s t)
  ∧ (∀ (tb : BitVec 64) (m : Nat) (err : Int) (s : State), s.Member → s.inRing = false →
    exec (.warpTimeFrame tb m err) s = .next (s.pass (.time false tb)))
  ∧ (∀ (tb : BitVec 64) (m : Nat) (err : Int) (s : State), s.Member → s.inRing = true →
    ∃ t, exec (.warpTimeFrame tb m err) s = .next t ∧ t.warp.tx = .time false tb ∧ t.warp.aligned = true
      ∧ t.time.tb = s.time.tb
      ∧ (s.warp.synced = true → s.flag R.WRP_STAT_TIME_LOST = false → s.time.tb ≠ tb + BitVec.ofNat 64 m →
          t.get R.WRP_TIMEERR = min 0xFFFF (s.get R.WRP_TIMEERR + 1))
      ∧ (s.warp.stepped = false → s.time.tb = tb + BitVec.ofNat 64 m → t.get R.WRP_TIMEERR = s.get R.WRP_TIMEERR)
      ∧ (t.flag R.WRP_STAT_TIMELOCK = true ↔ s.warp.synced = true ∧ s.flag R.WRP_STAT_TIME_LOST = false
          ∧ (t.gets R.WRP_PHERR).natAbs ≤ 1)
      ∧ (t.flag R.WRP_STAT_TIMELOCK = true → (tb + 512).toNat ∈ t.warp.events)
      ∧ (t.flag R.WRP_STAT_TIMELOCK = false → t.warp.events = s.warp.events))
  ∧ (∀ (tb : BitVec 64) (s : State), s.Member → s.inRing = true →
    ∃ t, exec (.warpTimeStepFrame tb) s = .next t ∧ t.warp.stepPick = some tb.toNat ∧ t.warp.tx = .time true tb
      ∧ OnlyIn [.warp] s t)
  ∧ (∀ s : State, s.on 9 = true → s.on 6 = true → s.time.tb.toNat ∈ s.warp.events →
    ∃ u : State, exec .warpTimeEvent s = .next (u.fire [116]) ∧ s.time.tb.toNat ∉ u.warp.events ∧ OnlyIn [.warp] s u)
  ∧ (∀ s : State, s.on 9 = true →
    ∃ t, exec .warpPhaseSlewStep s = .next t ∧ (t.gets R.WRP_PHERR).natAbs = (s.gets R.WRP_PHERR).natAbs - 1
      ∧ RegsOnly (fun f => f = R.WRP_PHERR ∨ f = R.WRP_STAT_TIMELOCK) s t)
  ∧ (∀ s : State, s.Member → s.flag R.WRP_STAT_TIME_LOST = false →
    let t := ((s.set R.WRP_STAT_TIME_LOST 1).set R.WRP_STAT_TIMELOCK 0).raise 121
    exec .warpTimeLost s = .next t ∧ (s.warp.synced = false → exec .warpSyncTimeout s = .next t))
  ∧ (∀ (g : Fin 16) (x : BitVec 64) (s : State), s.Member → s.inBypass = false → s.inRing = true → s.bit R.WRP_GSMASK g = true →
    s.time.tb.toNat < x.toNat → x.toNat ∉ s.warp.armed →
    ∃ t, exec (.warpGstartFrame g x) s = .next t ∧ t.warp.tx = .gstart g x
      ∧ (s.warp.armed.length < 4 → x.toNat ∈ t.warp.armed ∧ t.get R.WRP_STAT_GSARMED = 1)
      ∧ (4 ≤ s.warp.armed.length → t.warp.armed = s.warp.armed ∧ t.flag R.WRP_STAT_GSOVF = true))
  ∧ (∀ s : State, s.on 9 = true → s.on 6 = true → s.time.tb.toNat ∈ s.warp.armed →
    ∃ u : State, exec .warpGlobalStartRelease s = .next (u.releaseNow [117])
      ∧ u.warp.armed = s.warp.armed.filter (fun x => decide (x ≠ s.time.tb.toNat)) ∧ u.tmr = s.tmr ∧ u.pwm = s.pwm
      ∧ u.releaseNow [117] = (u.releaseAll.1.set R.TMR_GSTART_REL 1).fire (117 :: 118 :: u.releaseAll.2))
  ∧ (∀ (q : Who) (v : Word) (s : State), s.on 9 = true → v.toNat.testBit 31 = true →
    exec (.warpSlotLoad q v) s = .next
      ((((s.reply q.req .ok 0).writeReg q 0x11028 v.toNat).set R.WRP_SLOT_LOAD 0).slotLoad))
  ∧ (∀ (q : Who) (v : Word) (s : State),
    let w := ((s.reply q.req .ok 0).writeReg q 0x11028 v.toNat).set R.WRP_SLOT_LOAD 0
    w.get R.WRP_SLOT_N = v.toNat / 2 ^ 16 % 2 ^ 9 ∧ w.get R.WRP_SLOT_K = v.toNat % 2 ^ 8)
  ∧ (∀ s : State, s.get R.WRP_SLOT_N ≤ s.get R.WRP_SLOT_K → s.slotLoad = s.set R.WRP_STAT_SLOTERR 1)
  ∧ (∀ (p : Fin 12) (s : State), s.get R.WRP_SLOT_K < s.get R.WRP_SLOT_N → s.on 6 = true →
    s.get R.WRP_SLOTPAIRS = 2 ^ p.val → s.shedPair p = false → s.get (R.PWM_CTRL_MODE p) ≠ 2 →
    let n := s.get R.WRP_SLOT_N
    let per := s.perWritten p
    s.slotLoad.get R.WRP_STAT_SLOTLD = 1
    ∧ (s.slotLoad.pwm.at p).offSlot = (n - s.get R.WRP_SLOT_K) * per / n % per)

/-- R155, R157, R158: a fragment addressed to a node in bypass is answered NAK_RESET, a FIRST fragment that finds the
node asleep, which wakes it, or a Draft activating or no buffer NAK_BUSY, and one that finds one opens it; the last
one of a good message brings it to Crerus; the answers of the other side and the deadline end, keep or repeat an open
transfer and its request. Where a clause follows a choice of the model, log entry 34 says so. -/
def Obligations.WarpMessages : Prop :=
  (∀ (mp first last : Bool) (dst src xid frag : BitVec 8) (data : BitVec 32) (s : State),
    s.on 9 = true ∨ s.warp.path = true → s.flag R.WRP_STAT_LINKDOWN = false →
    s.warpId = some dst.toNat → s.inBypass = true →
    ∃ t, exec (.warpMsgData first last mp dst src xid frag data) s = .next t ∧ t.warp.tx = .empty
      ∧ t.warp.own = s.warp.own ++ [.msg 2 false false false src dst xid 0 0] ∧ t.warp.bufs = s.warp.bufs)
  ∧ (∀ (mp last : Bool) (dst src xid frag : BitVec 8) (data : BitVec 32) (s : State), s.Member →
    s.warpId = some dst.toNat → s.inBypass = false →
    (s.asleep = true → exec (.warpMsgData true last mp dst src xid frag data) s =
      .next (((s.answer 3 src.toNat xid.toNat).wake 4 src.toNat).pass .empty))
    ∧ (s.asleep = false → s.crerus.activating = true → exec (.warpMsgData true last mp dst src xid frag data) s =
      .next ((s.answer 3 src.toNat xid.toNat).pass .empty)))
  ∧ (∀ (mp last : Bool) (dst src xid frag : BitVec 8) (data : BitVec 32) (s : State), s.Member →
    s.warpId = some dst.toNat → s.inBypass = false → s.asleep = false → s.crerus.activating = false →
    let others := s.warp.bufs.filter fun x => decide (x.src ≠ src.toNat)
    (4 ≤ others.length →
      ∃ t, exec (.warpMsgData true last mp dst src xid frag data) s = .next t ∧ t.warp.tx = .empty
        ∧ t.warp.own = s.warp.own ++ [.msg 3 false false false src dst xid 0 0] ∧ t.warp.bufs = s.warp.bufs)
    ∧ (others.length < 4 → last = false →
      ∃ t, exec (.warpMsgData true last mp dst src xid frag data) s = .next t ∧ t.warp.tx = .empty
        ∧ t.warp.own = s.warp.own
        ∧ t.warp.bufs = others ++ [{ src := src.toNat, xid := xid.toNat, bytes := toLE 4 data.toNat, next := 1
                                     bad := decide (frag ≠ 0) }]))
  ∧ (∀ (s : State) (r : Reasm), r.bad = false → goodMsg r.bytes = true →
    (fieldOf (r.bytes.take (msgLen r.bytes)) 5 1).testBit 0 = false →
    (s.lastIn r).crerus.arr = s.crerus.arr ++ 
        [{ src := .warp r.src r.xid, bytes := r.bytes.take (msgLen r.bytes), stamp := s.crerus.stamp }]
    ∧ (s.lastIn r).warp.bufs = s.warp.bufs.filter (fun x => decide (x.src ≠ r.src)))
  ∧ (∀ (mp : Bool) (dst src xid : BitVec 8) (d : Send) (s : State), s.Member → s.warpId = some dst.toNat →
    s.sendOf src.toNat xid.toNat = some d → d.reply = false →
    (∃ u : State, exec (.warpMsgAck mp dst src xid) s = .next (u.pass .empty)
      ∧ u.warp.sends = s.warp.sends.map (fun x => if x = d then { x with acked := true, busy := false } else x)
      ∧ u.crerus = s.crerus)
    ∧ exec (.warpMsgNakReset mp dst src xid) s = .next (((s.closeSend d).jobReady d.job 0x61 [3]).pass .empty)
    ∧ (d.acked = false → ∃ u : State, exec (.warpMsgNakBusy mp dst src xid) s = .next (u.pass .empty)
        ∧ u.warp.sends = s.warp.sends.map (fun x => if x = d then { x with busy := true } else x)
        ∧ u.crerus = s.crerus))
  ∧ (∀ (xid : BitVec 8) (d : Send) (me : Nat) (s : State), s.sendXid xid.toNat = some d → d.reply = false →
    s.warpId = some me →
    (d.acked = false → d.busy = false →
      ∃ t, exec (.warpMsgRetryTimeout xid) s = .next t ∧ t.warp.sends = s.warp.sends
        ∧ t.warp.own = s.warp.own.filter (fun f => !fragOf d.dst d.xid f)
            ++ fragments d.dst me d.xid d.bytes ∧ OnlyIn [.warp] s t)
    ∧ (d.busy = true →
      ∃ t, exec (.warpMsgBusyResend xid) s = .next t
        ∧ t.warp.sends = s.warp.sends.map (fun x => if x = d then { x with busy := false } else x)
        ∧ t.warp.own = s.warp.own.filter (fun f => !fragOf d.dst d.xid f)
            ++ fragments d.dst me d.xid d.bytes ∧ OnlyIn [.warp] s t)
    ∧ (∃ t, exec (.warpMsgDeadline xid) s = .next t ∧ d ∉ t.warp.sends
        ∧ t = (s.closeSend d).jobReady d.job 0x61 [if d.busy then 2 else 1]))
  ∧ ∀ (s : State) (id status : Nat) (data : List Nat),
      (s.jobReady id status data).crerus.susp =
        s.crerus.susp.map fun j => if j.id = id then { j with wait := .ready status data } else j

/-- R147 to R149, R157, R159 to R161: enumeration gives a member the count it receives as its ID and passes on the
next; node 0 counts the ring by its own, and with a smaller foreign one becomes a member; calibration accumulates S_k
and gives D_k = k × LBAR + S_k; a member inserts a waiting frame in place of EMPTY; BYPASS frames, CRC failures, a
lost link and its return act as the rules say; a reserved frame is counted. Where a clause follows a choice of the
model, log entries 22, 33 and 35 say so. -/
def Obligations.WarpRing : Prop :=
  (∀ (n : BitVec 9) (tag : BitVec 7) (dev : BitVec 48) (s : State), s.Member →
    ∃ t, exec (.warpEnumFrame n tag dev) s = .next t ∧ t.warp.tx = .enum (n + 1) tag dev
      ∧ (n.toNat < 256 → t.get R.WRP_ID_ID = n.toNat ∧ t.get R.WRP_ID_VALID = 1 ∧ t.get R.WRP_STAT_NOID = 0
          ∧ (s.flag R.WRP_ID_VALID = true → s.get R.WRP_ID_ID ≠ n.toNat → t.flag R.WRP_STAT_IDCHG = true
              ∧ t.warp.bufs = []))
      ∧ (256 ≤ n.toNat → t.get R.WRP_STAT_NOID = 1 ∧ t.get R.WRP_ID_VALID = 0))
  ∧ (∀ (n : BitVec 9) (tag : BitVec 7) (dev : BitVec 48) (s : State), s.Node0 → s.warp.enumTag = some tag →
    dev.toNat = s.devLow →
    ∃ t, exec (.warpEnumFrame n tag dev) s = .next t ∧ t.warp.n = n.toNat ∧ t.warp.cal = some ([], 0)
      ∧ t.flag R.WRP_STAT_TOOMANY = decide (256 < n.toNat)
      ∧ t.warp.own = s.warp.own ++ (List.range 16).map fun i => .calMeasure (BitVec.ofNat 16 i) 0)
  ∧ (∀ (n : BitVec 9) (tag : BitVec 7) (dev : BitVec 48) (s : State), s.Node0 →
    ¬ (s.warp.enumTag = some tag ∧ dev.toNat = s.devLow) →
    let own := s.devLow * 128 + (s.warp.enumTag.map BitVec.toNat).getD 0
    ∃ t, exec (.warpEnumFrame n tag dev) s = .next t ∧ t.get R.WRP_STAT_DUALM = 1
      ∧ (dev.toNat * 128 + tag.toNat < own → t.warp.demoted = true ∧ t.isMaster = false
          ∧ ∀ f ∈ t.warp.own, isMemberFrame f = true)
      ∧ (own ≤ dev.toNat * 128 + tag.toNat → t.warp = s.warp))
  ∧ (∀ (num : BitVec 16) (acc x : BitVec 32) (s : State), s.Member →
    let part := acc + BitVec.ofInt 32 (16 * s.gets R.WRP_LINKTRIM)
    ∃ t, exec (.warpCalMeasureFrame num acc x) s = .next t ∧ t.warp.part = part.toNat ∧ t.get R.WRP_FWD = x.toNat
      ∧ t.warp.tx = .calMeasure num (part + x) ∧ RegsOnly (fun f => f = R.WRP_FWD) s t)
  ∧ (∀ (num : BitVec 16) (lbar : BitVec 32) (n : BitVec 16) (s : State), s.Member → s.flag R.WRP_ID_VALID = true →
    ∃ t, exec (.warpCalResultFrame num lbar n) s = .next t ∧ t.warp.tx = .calResult num lbar n
      ∧ t.get R.WRP_LBAR = lbar.toNat ∧ t.get R.WRP_NODES = n.toNat % 2 ^ 9
      ∧ t.get R.WRP_DELAY = (s.get R.WRP_ID_ID * lbar.toNat + s.warp.part) % 2 ^ 32)
  ∧ (∀ s : State, s.on 9 = true → s.isMaster = true → s.inBypass = false →
    exec .warpCalibrationTimer s = .next s.startCal
    ∧ (s.warp.cal = none → exec .warpCalibrationRetry s = .next s.startCal)
    ∧ s.startCal.warp = { s.warp with
        cal := some ([], 0), calSeq := 0
        own := s.warp.own ++ (List.range 16).map fun i => .calMeasure (BitVec.ofNat 16 i) 0 })
  ∧ (∀ (node : BitVec 8) (s : State), s.Member →
    exec (.warpBypassEnterFrame node) s = .next (s.pass (.bypass 0 node))
    ∧ exec (.warpBypassLeaveFrame node) s = .next (s.pass (.bypass 1 node))
    ∧ exec (.warpBypassBreakFrame node) s = .next (s.pass (.bypass 2 node))
    ∧ exec (.warpBypassHealedFrame node) s = .next (s.pass (.bypass 3 node))
    ∧ exec (.warpBypassResetFrame node) s = .next
        (if s.warpId = some node.toNat ∧ s.flag R.WRP_CFG_RRSTEN = true then (s.pass (.bypass 4 node)).askReset 9
         else s.pass (.bypass 4 node)))
  ∧ (∀ (node : BitVec 8) (s : State), s.Node0 →
    (∃ t, exec (.warpBypassEnterFrame node) s = .next t ∧ node.toNat ∈ t.warp.bypassed ∧ OnlyIn [.warp] s t)
    ∧ (∃ t, exec (.warpBypassLeaveFrame node) s = .next t ∧ node.toNat ∉ t.warp.bypassed
      ∧ ∃ tag, .enum 1 tag (BitVec.ofNat 48 s.devLow) ∈ t.warp.own)
    ∧ exec (.warpBypassBreakFrame node) s = .next s ∧ exec (.warpBypassHealedFrame node) s = .next s
    ∧ exec (.warpBypassResetFrame node) s = .next s)
  ∧ (∀ (f : Frame) (s : State), s.Member → s.warp.own.find? isFirstFrame = some f →
    ∃ t, exec .warpEmptyFrame s = .next t ∧ t.warp.tx = f ∧ t.warp.own = s.warp.own.erase f)
  ∧ (∀ s : State, s.Member → (∀ f ∈ s.warp.own, isFirstFrame f = false) →
    (s.warp.passed < 3 ∨ s.warp.own = [] → exec .warpEmptyFrame s = .next (s.pass .empty))
    ∧ (∀ f r, s.warp.own = f :: r → 3 ≤ s.warp.passed →
        ∃ t, exec .warpEmptyFrame s = .next t ∧ t.warp.tx = f ∧ t.warp.own = r ∧ t.warp.passed = 0))
  ∧ (∀ (ty : BitVec 5) (x : BitVec 64) (s : State), s.Member →
    ∃ t, exec (.warpReservedFrame ty x) s = .next t ∧ t.get R.WRP_CRCCNT = min 0xFFFF (s.get R.WRP_CRCCNT + 1)
      ∧ t.warp.tx = .empty ∧ RegsOnly (fun f => f = R.WRP_CRCCNT) s t)
  ∧ (∀ s : State, s.Member →
    let l := s.time.tb.toNat :: s.warp.crc.filter fun x =>
      decide (x ≤ s.time.tb.toNat) && decide (s.time.tb.toNat < x + 125000)
    ∃ t, exec .warpCrcFailure s = .next t ∧ t.get R.WRP_CRCCNT = min 0xFFFF (s.get R.WRP_CRCCNT + 1)
      ∧ t.warp.tx = .empty
      ∧ (l.length ≤ 16 → t.warp.crc = l ∧ t.icu = s.icu)
      ∧ (16 < l.length → t.warp.crc = [] ∧ (s.on 6 = true → t.flag (R.ICU_STS_PEND 125) = true)))
  ∧ (∀ s : State, s.on 9 = true →
    let id := BitVec.ofNat 8 (s.warp.lastId.getD 0)
    (s.flag R.WRP_STAT_LINKDOWN = false →
      ∃ t, exec .warpLinkDown s = .next t ∧ t.flag R.WRP_STAT_LINKDOWN = true ∧ t.originates = true
        ∧ t.warp.own = s.warp.own ++ [.bypass 2 id])
    ∧ (s.flag R.WRP_STAT_LINKDOWN = true →
      ∃ t, exec .warpLinkRestored s = .next t ∧ t.flag R.WRP_STAT_LINKDOWN = false
        ∧ t.warp.own = s.warp.own ++ [.bypass 3 id] ∧ RegsOnly (fun f => f = R.WRP_STAT_LINKDOWN) s t)
    ∧ (s.isMaster = true → s.flag R.WRP_STAT_RINGOPEN = false →
      exec .warpRingOpen s = .next ((s.set R.WRP_STAT_RINGOPEN 1).raise 122)))

/-- R145, R146: a frame of Table 7.2 comes back whole from the superframe that carries it, which is SYNC, the frame's
HEADER and PAYLOAD, and the CRC over them. -/
def Obligations.WarpFramesRoundTrip : Prop :=
  ∀ f : Frame, (∀ sub node, f = .bypass sub node → sub.toNat < 5) →
    frameIn (superframeOf f) = some f
    ∧ (superframeOf f).extractLsb' 88 8 = 0xD4 ∧ (superframeOf f).extractLsb' 85 3 = frameType f
    ∧ (superframeOf f).extractLsb' 80 5 = frameSub f ∧ (superframeOf f).extractLsb' 16 64 = framePayload f
    ∧ (superframeOf f).extractLsb' 0 16 = crc16 (frameBody f)

/-! ### The Ply (chapter 08) -/

/-- R172, R175, R181 to R183: an odd strand is recorded and copied, or retired at its fourth odd edge within 10 ms; a
mismatch that names none is unrecoverable: in PAIR, with a strand retired, during a resync, or with all three apart.
So are the causes of Table 8.5: every strand is held and the fault counted. The copy stalls the others 8 cycles, which
a halted group's CYCLE does not count, and ends with the strand's count. Where a clause follows a choice of the model,
log entries 20 and 21 say so. -/
def Obligations.PlyVoting : Prop :=
  (∀ (k : Fin 3) (x y : BitVec 7) (s : State), s.plyRuns = true → s.plyMode = 0 → s.get R.PLY_STATUS_RETIRED = 3 →
    s.flag R.PLY_STATUS_RESYNC = false → x ≠ 0 → y ≠ 0 →
    let i : Instr := if k = 0 then .plyMismatch x y 0 else if k = 1 then .plyMismatch x 0 y else .plyMismatch 0 x y
    let seen := (s.ply.odd.filter fun o => decide (s.time.tb.toNat ≤ o.2 + 1250000)).countP fun o => decide (o.1 = k.val)
    ∃ t, exec i s = .next t ∧ t.flag R.PLY_STATUS_MISM = true ∧ t.get R.PLY_STATUS_ODD = k.val
      ∧ t.get R.PLY_MISCLASS = (x ||| y).toNat ∧ t.get R.PLY_LASTRS_LO + 2 ^ 32 * t.get R.PLY_LASTRS_HI = s.time.tb.toNat
      ∧ (seen < 3 → t.get R.PLY_STATUS_RESYNC = 1 ∧ t.ply.copied = false)
      ∧ (3 ≤ seen → t.get R.PLY_STATUS_RETIRED = k.val ∧ t.bit R.HLT_CAUSE 1 = true))
  ∧ (∀ (x y z : BitVec 7) (cause cl : Nat) (s : State), s.plyRuns = true →
    (s.plyMode = 1 ∧ x ≠ 0 ∧ cause = 3 ∧ cl = x.toNat
      ∨ s.plyMode = 0 ∧ s.get R.PLY_STATUS_RETIRED ≠ 3 ∧ cl ≠ 0 ∧ cause = 3
          ∧ cl = pairBut (s.get R.PLY_STATUS_RETIRED) x.toNat y.toNat z.toNat
      ∨ s.plyMode = 0 ∧ s.get R.PLY_STATUS_RETIRED = 3 ∧ s.flag R.PLY_STATUS_RESYNC = true ∧ cl ≠ 0 ∧ cause = 1
          ∧ cl = pairBut (s.get R.PLY_STATUS_ODD) x.toNat y.toNat z.toNat
      ∨ s.plyMode = 0 ∧ s.get R.PLY_STATUS_RETIRED = 3 ∧ s.flag R.PLY_STATUS_RESYNC = false ∧ x ≠ 0 ∧ y ≠ 0 ∧ z ≠ 0
          ∧ cause = 2 ∧ cl = (x ||| y ||| z).toNat) →
    ∃ u : State, exec (.plyMismatch x y z) s = .next (u.plyFault cause).resyncWindow ∧ u.flag R.PLY_STATUS_MISM = true
      ∧ u.get R.PLY_MISCLASS = cl ∧ u.get R.PLY_LASTRS_LO + 2 ^ 32 * u.get R.PLY_LASTRS_HI = s.time.tb.toNat
      ∧ u.ply = s.ply)
  ∧ (∀ (cause : Fin 6) (s : State), cause ≠ 0 →
    exec (.plyUnrecoverableFault cause) s = .next (s.plyFault cause).resyncWindow)
  ∧ (∀ (cause : Nat) (s : State), s.ply.fault = false → s.flag R.PLY_CFG_UNREC = false → s.pwr.entry = none →
    (s.plyFault cause).ply.fault = true ∧ (s.plyFault cause).get R.PLY_FAULT_CAUSE = cause % 16
    ∧ (s.plyFault cause).get R.PLY_FAULT_COUNT = min 0xFFFF (s.get R.PLY_FAULT_COUNT + 1)
    ∧ ∀ c : Fin 3, ((s.plyFault cause).coreAt c).run = .held ∧ ((s.plyFault cause).coreAt c).res = none)
  ∧ (∀ s : State, s.flag R.PLY_STATUS_RESYNC = true → s.ply.copied = false → s.plyRuns = true →
    ∃ t, exec .plyResyncCopyDone s = .next t ∧ t.ply.copied = true ∧ OnlyIn [.ply, .core] s t
      ∧ t.coreAt 0 = if s.bit R.DBG_STAT_HALTED 0 then s.coreAt 0
          else { s.coreAt 0 with cycle := (s.coreAt 0).cycle + 8 })
  ∧ (∀ s : State, s.flag R.PLY_STATUS_RESYNC = true → s.ply.copied = true → s.plyRuns = true →
    let n := rscnt (s.get R.PLY_STATUS_ODD)
    ∃ t, exec .plyResyncComplete s = .next t ∧ t.get R.PLY_STATUS_RESYNC = 0 ∧ t.flag R.PLY_STATUS_RSDONE = true
      ∧ t.get n = min 0xFF (s.get n + 1))

/-- R170, R178 to R180: a split starts its strands fresh at their addresses, each with its instruction cache and a
halt that was asked of it; a join copies both TCMs of core A to the joining strands and ends with them in the group; a
scrub step leaves all three copies of its word with the majority. R185: the key restarts the writing core's watchdog
and any other value does nothing; half of TIMEOUT without a restart raises source 153, and the second half is the
fault of cause 5. Where a clause follows a choice of the model, log entries 19, 20 and 21 say so. -/
def Obligations.PlyModesAndWatchdogs : Prop :=
  (∀ s : State, s.flag R.PLY_STATUS_SPLITTING = true → s.plyRuns = true →
    ∃ t, exec .plySplitComplete s = .next t ∧ t.get R.PLY_MODE_CUR = s.ply.target % 4 ∧ t.get R.PLY_STATUS_SPLITTING = 0
      ∧ ∀ k ∈ handStrands (s.get R.PLY_MODE_CUR) s.ply.target, t.coreAt k =
          { startCore (s.startAddr k) with cache := (s.coreAt k).cache, haltReq := (s.coreAt k).haltReq })
  ∧ (∀ s : State, s.Kept → s.flag R.PLY_STATUS_JOINING = true → s.ply.joinTcm = false → s.plyRuns = true →
    ∃ t, exec .plyJoinTcmCopyDone s = .next t ∧ t.ply.joinTcm = true ∧ OnlyIn [.ply, .mem] s t
      ∧ ∀ k ∈ handStrands (s.get R.PLY_MODE_CUR) s.ply.target, ∀ a, a < 0x20000 →
          t.byte (itcmKey k a) = s.byte (itcmKey 0 a) ∧ t.byte (dtcmKey k a) = s.byte (dtcmKey 0 a))
  ∧ (∀ s : State, s.flag R.PLY_STATUS_JOINING = true → s.ply.joinTcm = true → s.plyRuns = true →
    ∃ t, exec .plyJoinComplete s = .next t ∧ t.get R.PLY_MODE_CUR = s.ply.target % 4 ∧ t.get R.PLY_STATUS_JOINING = 0
      ∧ t.get R.PLY_STATUS_EXPOSED = 0
      ∧ t.coreAt 0 = { s.coreAt 0 with cycle := (s.coreAt 0).cycle + 8 }
      ∧ ∀ k ∈ handStrands (s.get R.PLY_MODE_CUR) s.ply.target, t.coreAt k = {}
          ∧ t.get (if k = 1 then R.PLY_STATUS_WAITB else R.PLY_STATUS_WAITC) = 0)
  ∧ (∀ s : State, s.Kept → s.plyRuns = true → s.plyMode = 0 → s.get R.PLY_STATUS_RETIRED = 3 → s.ply.scrub < 8192 →
    s.tcmBad dtcmKey 0 (16 * s.ply.scrub) = false → s.tcmBad itcmKey 0 (16 * s.ply.scrub) = false →
    ∃ t, exec .plyScrub s = .next t ∧ t.ply.scrub = (s.ply.scrub + 1) % 8192
      ∧ ∀ (k : Fin 3) (i : Fin 16),
          let a := 16 * s.ply.scrub + i.val
          t.byte (dtcmKey k a) = maj (s.byte (dtcmKey 0 a)) (s.byte (dtcmKey 1 a)) (s.byte (dtcmKey 2 a))
          ∧ t.byte (itcmKey k a) = maj (s.byte (itcmKey 0 a)) (s.byte (itcmKey 1 a)) (s.byte (itcmKey 2 a)))
  ∧ (∀ (q : Who) (v : Word) (c : Nat) (s : State), s.on 0 = true → kickCore q.req = some c →
    (v = 0xC35A → ∃ t, exec (.plyWatchdogKick q v) s = .next t ∧ c ∉ t.ply.wdHalf
      ∧ (∀ d, d ≠ c → (d ∈ t.ply.wdHalf ↔ d ∈ s.ply.wdHalf)) ∧ OnlyIn [.ply, .resp] s t)
    ∧ (v ≠ 0xC35A → exec (.plyWatchdogKick q v) s = .next (s.reply q.req .ok 0)))
  ∧ (∀ (c : Fin 3) (s : State), s.wdCounts c = true →
    ∃ u : State, exec (.plyWatchdogWarning c) s = .next (u.raise 153) ∧ c.val ∈ u.ply.wdHalf ∧ OnlyIn [.ply] s u)
  ∧ (∀ (c : Fin 3) (s : State), s.wdCounts c = true → c.val ∈ s.ply.wdHalf →
    exec (.plyWatchdogExpiry c) s = .next (s.plyFault 5).resyncWindow)

/-- R196, R198, R202, R203, R237, R251, R256, R259, R397: a fill puts its line into the core's cache, and one that
reads an uncorrectable word fills nothing; an access answered RETRY is made again 8 cycles on, one that waits for a
flash bank after a time the spec leaves open, and a move that paused between two rows goes on; an interrupt entry
outside a move saves PC and status, masks, and goes to IVEC + 4 × source while the source becomes active on that core,
and abandons the access that waits; a source withdrawn within the window is taken where its priority lies above IPRI;
a source that wakes a waiting core lets it issue on. Where a clause follows a choice of the model, log entries 15, 16
and 18 say so. -/
def Obligations.StrandEvents : Prop :=
  (∀ (c : Fin 3) (a : Word) (s : State), s.coreExists c = true → s.coreOn c = true → s.on 2 = true → inMain a.toNat = true →
    s.flash.op0 = none →
    (s.eccBad (a.toNat / 32 * 32) 32 = false →
      ∃ t, exec (.cacheLineFill c a) s = .next t ∧ (a.toNat / 32, s.lineTag (s.coreAt c)) ∈ (t.coreAt c).cache
        ∧ ((∀ w ∈ s.flash.corr, w ≠ a.toNat / 32 * 32 ∧ w ≠ a.toNat / 32 * 32 + 16) → OnlyIn [.core, .free] s t)
        ∧ ∀ d : Fin 3, d ≠ c → t.coreAt d = s.coreAt d)
    ∧ (a.toNat / 32 * 32 ∈ s.flash.unc → ∃ t, exec (.cacheLineFill c a) s = .next t ∧ t.core = s.core))
  ∧ (∀ (c : Fin 3) (x : Access) (s : State), s.coreExists c = true → s.coreOn c = true → (s.coreAt c).run = .issuing →
    s.ply.fault = false → s.bit R.DBG_STAT_HALTED c = false → (s.coreAt c).wait = some x →
    ((s.coreAt c).why = .retry → exec (.accessRetryReissue c) s = .next
      ((s.updCore c fun k => { k with retries := k.retries + 1, cycle := k.cycle + 8 }).again c x))
    ∧ ((s.coreAt c).why = .flash → ∃ (n : Nat) (u : State), exec (.accessRetryReissue c) s = .next ((u.cycles c n).again c x)
        ∧ OnlyIn [.free] s u)
    ∧ ((s.coreAt c).why = .row → exec (.accessRetryReissue c) s = .next (s.again c x)))
  ∧ (∀ (c : Fin 3) (n : Nat) (s : State), s.takesInt c = true → s.icuCandidate c = some n → (s.coreAt c).step = false →
    (s.coreAt c).ipri.toNat < s.get (R.ICU_SRC_PRI n) → (s.coreAt c).moving = false →
    let k := s.coreAt c
    ∃ t, exec (.interruptEntry c false) s = .next t
      ∧ (t.coreAt c).pc = k.ivec + BitVec.ofNat 32 (4 * n) ∧ (t.coreAt c).epc = k.pc &&& 0xFFFFFFFC
      ∧ (t.coreAt c).pie = true ∧ (t.coreAt c).ie = false ∧ (t.coreAt c).pexl = false ∧ (t.coreAt c).exl = true
      ∧ (t.coreAt c).pipri = k.ipri ∧ (t.coreAt c).ipri = BitVec.ofNat 4 (s.get (R.ICU_SRC_PRI n))
      ∧ (t.coreAt c).ecInt = true ∧ (t.coreAt c).isrc = BitVec.ofNat 8 n ∧ (t.coreAt c).cycle = k.cycle + 6
      ∧ (t.coreAt c).wait = none ∧ k.KeepsRegs (t.coreAt c)
      ∧ t.get (R.ICU_STS_PEND n) = 0 ∧ t.get (R.ICU_STS_ACT n) = 1 ∧ t.get (R.ICU_STS_ACTBY n) = c.val
      ∧ t.get (R.ICU_STS_LASTCNT n) = s.get (R.ICU_STS_EVC n) % 256 ∧ t.get (R.ICU_STS_EVC n) = 0
      ∧ ∀ d : Fin 3, d ≠ c → t.coreAt d = s.coreAt d)
  ∧ (∀ (c : Fin 3) (n : Fin 224) (p : Nat) (s : State), s.takesInt c = true → (s.coreAt c).step = false →
    s.icu.raced.find? (fun x => decide (x.1 = c.val)) = some (c.val, n.val, p) →
    ((s.coreAt c).ipri.toNat < p →
      ∃ t, exec (.interruptEntry c true) s = .next t ∧ t.get R.ICU_STAT_MASKRACE = 1
        ∧ (t.coreAt c).isrc = BitVec.ofNat 8 n ∧ (t.coreAt c).ipri = BitVec.ofNat 4 p ∧ t.get (R.ICU_STS_ACT n) = 1)
    ∧ (p ≤ (s.coreAt c).ipri.toNat → exec (.interruptEntry c true) s = .next s))
  ∧ (∀ (c : Fin 3) (s : State), s.coreExists c = true → s.on 6 = true → s.bit R.DBG_STAT_HALTED c = false →
    (s.coreAt c).run = .wfi → s.icuWakes c = true →
    ∃ t, exec (.wfiWake c) s = .next t ∧ (∃ n, t.coreAt c = { s.coreAt c with run := .issuing, cycle := n })
      ∧ OnlyIn [.core, .free] s t ∧ ∀ d : Fin 3, d ≠ c → t.coreAt d = s.coreAt d)

/-! ### The interrupt control unit (chapter 12) -/

/-- R251 to R254, R256 to R258, R265: an event sets PEND, counts in EVC and starts the coalescing timer of an enabled
source, or is latched while PD6 is off; a coalescing timer expires; an interval ends; ACTCLR completes for the core in
ACTBY, or is stray; PEND is withdrawn, and a candidate withdrawn so stays open to an entry at its priority; SGISET
raises the sources 192 + s. R252, R255, R261: when a pending source is ready, which core it is routed to, and which
source is a core's candidate: of those it is offered with a priority, one of the highest priority, and the lowest
number among equals. Where a clause follows a choice of the model, log entry 62 says so. -/
def Obligations.IcuSources : Prop :=
  (∀ (n : Fin 224) (s : State), n.val ≠ 190 → n.val ≠ 191 →
    (s.on 6 = true → ∃ t, exec (.icuSourceEvent n) s = .next t ∧ t.get (R.ICU_STS_PEND n) = 1
      ∧ t.get (R.ICU_STS_EVC n) = min 255 (s.get (R.ICU_STS_EVC n) + 1)
      ∧ (s.flag (R.ICU_SRC_EN n) = true → n.val ∈ t.icu.timer ∨ n.val ∈ s.icu.expired)
      ∧ (s.flag (R.ICU_SRC_EN n) = false → t.icu = s.icu)
      ∧ RegsOnly (Fld.ofSource n) s t ∧ OnlyIn [.icu, .pd 6] s t)
    ∧ (s.get (R.PWR_DOM 6) = 0 ∨ s.get (R.PWR_DOM 6) = 1 →
      exec (.icuSourceEvent n) s = .next (if wakeLatched n
        then { s with icu := { s.icu with wake := insOnce s.icu.wake n.val } } else s)))
  ∧ (∀ (n : Fin 224) (s : State), n.val ∈ s.icu.timer →
    ∃ t, exec (.icuCoalesceTimerExpiry n) s = .next t ∧ n.val ∈ t.icu.expired ∧ n.val ∉ t.icu.timer ∧ OnlyIn [.icu] s t)
  ∧ (∀ (g : Fin 16) (s : State),
    ∃ t, exec (.icuHoldoffEnd g) s = .next t ∧ (∀ x ∈ t.icu.grp, x.1 ≠ g.val)
      ∧ (∀ x, x.1 ≠ g.val → (x ∈ t.icu.grp ↔ x ∈ s.icu.grp)) ∧ OnlyIn [.icu] s t)
  ∧ (∀ (q : Who) (n : Fin 224) (s : State), s.on 6 = true →
    (s.flag (R.ICU_STS_ACT n) = true →
      exec (.icuActclr q n) s = .next ((s.reply q.req .ok 0).set (R.ICU_STS_ACT n) 0))
    ∧ (s.flag (R.ICU_STS_ACT n) = false →
      ∃ t, exec (.icuActclr q n) s = .next t ∧ t.get R.ICU_STRAY = min 0xFFFF (s.get R.ICU_STRAY + 1)
        ∧ t.flag R.ICU_STRAYLAST_VALID = true
        ∧ (s.flag R.ICU_STRAYLAST_VALID = false ∨ s.get R.ICU_STRAY = 0 → t.get R.ICU_STRAYLAST_SRC = n.val)))
  ∧ (∀ (q : Who) (n : Fin 224) (s : State), s.on 6 = true →
    ∃ t, exec (.icuPendClear q n) s = .next t ∧ t.get (R.ICU_STS_PEND n) = 0 ∧ t.get (R.ICU_STS_EVC n) = 0
      ∧ n.val ∉ t.icu.timer ∧ n.val ∉ t.icu.expired ∧ RegsOnly (Fld.ofSource n) s t
      ∧ ∀ c : Fin 3, s.icuCandidate c = some n.val → (c.val, n.val, s.get (R.ICU_SRC_PRI n)) ∈ t.icu.raced)
  ∧ (∀ (q : Who) (v : Word) (s : State), s.on 6 = true →
    ∃ t, exec (.icuSgiSet q v) s = .next t ∧ OnlyIn [.icu, .resp, .pd 6] s t
      ∧ ∀ b : Fin 32, (v.toNat.testBit b = true → t.get (R.ICU_STS_PEND (192 + b)) = 1)
          ∧ (v.toNat.testBit b = false → t.get (R.ICU_STS_PEND (192 + b)) = s.get (R.ICU_STS_PEND (192 + b))))
  ∧ (∀ (n : Nat) (s : State),
    let c := s.get (R.ICU_COAL_COUNT n)
    let d := s.get (R.ICU_COAL_TIME n)
    s.icuReady n = true ↔ s.flag (R.ICU_STS_PEND n) = true
      ∧ ((c ≠ 0 ∧ c ≤ s.get (R.ICU_STS_EVC n)) ∨ (d ≠ 0 ∧ n ∈ s.icu.expired) ∨ (c = 0 ∧ d = 0)))
  ∧ (∀ (n : Nat) (s : State),
    (s.plyRoute = 0 → s.icuRoute n = 0)
    ∧ (s.plyRoute = 1 → s.icuRoute n = if s.get (R.ICU_SRC_TARGET n) = 2 then 2 else 0)
    ∧ (s.plyRoute = 2 → s.icuRoute n = if s.get (R.ICU_SRC_TARGET n) = 3 then 0 else s.get (R.ICU_SRC_TARGET n)))
  ∧ (∀ (c n : Nat) (s : State),
    let may (m : Nat) : Prop := m < 224 ∧ s.icuOffers c m = true ∧ 1 ≤ s.get (R.ICU_SRC_PRI m)
    s.icuCandidate c = some n ↔ may n ∧ ∀ m, may m → s.get (R.ICU_SRC_PRI m) < s.get (R.ICU_SRC_PRI n)
      ∨ (s.get (R.ICU_SRC_PRI m) = s.get (R.ICU_SRC_PRI n) ∧ n ≤ m))

/-! ### DMA (chapter 13) -/

/-- R272 to R278, R282: an enable loads DESC, EN = 1 over a busy channel sets ENERR and over an idle one loads DESC
again; a load takes the fields of Table 13.2 or stops the channel with cause 8; the engine serves the channel the
arbiter chose, whose beat reads an element or writes the oldest it holds; a descriptor whose writes are done
completes, and a NEXT of 0 leaves the channel idle with END, and any other is loaded; a disable ends the channel; a
software trigger starts it or is held. R274: the channel served next has the highest priority of those with a beat
ready, and among equals it is the first in channel order after the channel that last won at that priority. Where a
clause follows a choice of the model, log entries 37 and 38 say so. -/
def Obligations.DmaChannelsAndBeats : Prop :=
  (∀ (q : Who) (c : Fin 16) (v : Word) (s : State), s.on 8 = true → s.flag (R.DMA_CH_CTRL_EN c) = false →
    s.flag (R.DMA_CH_STAT_BUSY c) = false → presented v.toNat (R.DMA_CH_CTRL_EN c) = 1 →
    ∃ t, exec (.dmaEnable q c v) s = .next t ∧ t.get (R.DMA_CH_CTRL_EN c) = 1 ∧ t.get (R.DMA_CH_STAT_BUSY c) = 1
      ∧ t.dma.at c = { daddr := 32 * s.get (R.DMA_CH_DESC c), loadPend := true })
  ∧ (∀ (q : Who) (c : Fin 16) (v : Word) (s : State), s.on 8 = true → s.flag (R.DMA_CH_CTRL_EN c) = true →
    presented v.toNat (R.DMA_CH_CTRL_EN c) = 1 → v.toNat.testBit 0 = false →
    (s.flag (R.DMA_CH_STAT_BUSY c) = true → ∃ t, exec (.dmaEnable q c v) s = .next t
      ∧ t.get (R.DMA_CH_STAT_ENERR c) = 1 ∧ t.get (R.DMA_CH_CTRL_EN c) = 1 ∧ t.dma = s.dma)
    ∧ (s.dmaIdle c = true → ∃ t, exec (.dmaEnable q c v) s = .next t ∧ t.get (R.DMA_CH_STAT_BUSY c) = 1
      ∧ t.dma.at c = { daddr := 32 * s.get (R.DMA_CH_DESC c), loadPend := true }))
  ∧ (∀ (q : Who) (c : Fin 16) (v : Word) (s : State), s.on 8 = true → s.flag (R.DMA_CH_CTRL_EN c) = true →
    presented v.toNat (R.DMA_CH_CTRL_EN c) = 0 →
    ∃ t, exec (.dmaDisable q c v) s = .next t ∧ t.get (R.DMA_CH_STAT_BUSY c) = 0 ∧ t.get (R.DMA_CH_STAT_LOADED c) = 0
      ∧ t.dma.at c = {} ∧ ((s.dma.at c).moving = true → t.get (R.DMA_CH_STAT_ABORT c) = 1))
  ∧ (∀ (q : Who) (c : Fin 16) (v : Word) (s : State), s.on 8 = true → s.flag (R.DMA_CH_CTRL_EN c) = true →
    presented v.toNat (R.DMA_CH_CTRL_EN c) = 1 → v.toNat.testBit 0 = true → s.flag (R.DMA_CH_STAT_LOADED c) = true →
    (s.dma.at c).trig ≠ 0 → (s.dma.at c).stopped = false →
    ∃ t, exec (.dmaSoftwareTrigger q c v) s = .next t
      ∧ ((s.dma.at c).moving = false → t.get (R.DMA_CH_STAT_BUSY c) = 1 ∧ t.dma.at c = { s.dma.at c with moving := true })
      ∧ ((s.dma.at c).moving = true → s.flag (R.DMA_CH_STAT_TRGPEND c) = false → t.get (R.DMA_CH_STAT_TRGPEND c) = 1)
      ∧ ((s.dma.at c).moving = true → s.flag (R.DMA_CH_STAT_TRGPEND c) = true → t.get (R.DMA_CH_STAT_TRGOVR c) = 1))
  ∧ (∀ (c : Fin 16) (s : State), (s.dma.at c).loadPend = true → s.arbitrate = some c.val →
    let a := (s.dma.at c).daddr
    let w := wordsOf (s.rdBytes a 32)
    let d := dmaFields a w
    sramBase ≤ a → a < sramEnd → a % 32 = 0 → s.sramAns a = .ok →
    (dmaInvalid w d = false →
      ∃ t, exec (.dmaDescriptorLoad c) s = .next t ∧ t.get (R.DMA_CH_STAT_LOADED c) = 1
        ∧ t.get (R.DMA_CH_CUR c) = a / 32 % 2 ^ 27
        ∧ t.dma.at c = { d with moving := decide (d.trig = 0) || decide (d.total = 0) }
        ∧ t.flag (R.DMA_CH_STAT_BUSY c) = (t.dma.at c).moving ∧ t.get (R.DMA_CH_STAT_TRGPEND c) = 0
        ∧ t.dmaLast.at (s.get (R.DMA_CH_CTRL_PRIO c)) = c.val)
    ∧ (dmaInvalid w d = true → d.wb = false →
      ∃ t, exec (.dmaDescriptorLoad c) s = .next t ∧ t.flag (R.DMA_CH_STAT_ERR c) = true ∧ t.get (R.DMA_CH_ERR c) = 8
        ∧ t.get (R.DMA_CH_ERRADDR c) = a % 2 ^ 32 ∧ (t.dma.at c).stopped = true ∧ t.flag (R.DMA_CH_STAT_BUSY c) = false))
  ∧ (∀ (c : Nat) (s : State), s.arbitrate = some c →
    let u : State := { s with dmaLast := s.dmaLast.put (s.get (R.DMA_CH_CTRL_PRIO c)) c }
    let d := s.dma.at c
    exec .dmaBeat s = .next (u.dmaBeat c) ∧ s.beatReady c = true
    ∧ (d.loadPend = false → d.fetch = false → s.dmaFull c = false →
        (d.buf = [] → d.srcNext % d.size = 0 → d.dstOf d.rx d.ry % d.size = 0 →
          let x := u.busRead .dma false d.srcNext d.size false
          x.1 = .ok → ∃ t, exec .dmaBeat s = .next t
            ∧ (t.dma.at c).buf = (x.2.2.dma.at c).buf ++ [x.2.1])
        ∧ (∀ v rest, d.buf = v :: rest → s.readReady c = false →
          (u.busWrite .dma false (d.dstOf d.wx d.wy) d.size v).1 = .ok →
            ∃ t, exec .dmaBeat s = .next t ∧ (t.dma.at c).buf = rest
              ∧ (t.dma.at c).lastDst = d.dstOf d.wx d.wy)))
  ∧ (∀ (c : Fin 16) (s : State), s.dmaFull c = true → s.arbitrate = some c.val →
    let u : State := { s with dmaLast := s.dmaLast.put (s.get (R.DMA_CH_CTRL_PRIO c)) c }
    let x := u.busRead .dma false (s.dma.at c).lastDst (s.dma.at c).size true
    let w := if (s.dma.at c).total = 0 then s else x.2.2
    ((s.dma.at c).total = 0 ∨ x.1 = .ok) → (w.dma.at c).wb = false →
    ∃ t, exec (.dmaDescriptorComplete c) s = .next t ∧ t.get (R.DMA_CH_STAT_DONE c) = 1
      ∧ t.get (R.DMA_CH_STAT_ID c) = (w.dma.at c).id % 2 ^ 16
      ∧ t.get (R.DMA_CH_DONECNT c) = min 0xFFFF (w.get (R.DMA_CH_DONECNT c) + 1) ∧ (t.dma.at c).fetch = true)
  ∧ (∀ (c : Fin 16) (s : State), (s.dma.at c).fetch = true → (s.dma.at c).loadPend = false → s.arbitrate = some c.val →
    let a := (s.dma.at c).daddr + 0x18
    s.sramAns a = .ok →
    (s.bytes a 4 = 0 → ∃ t, exec (.dmaNextFetch c) s = .next t ∧ t.get (R.DMA_CH_STAT_END c) = 1
      ∧ t.get (R.DMA_CH_STAT_LOADED c) = 0 ∧ t.get (R.DMA_CH_STAT_BUSY c) = 0 ∧ t.dma.at c = {})
    ∧ (s.bytes a 4 ≠ 0 → ∃ t, exec (.dmaNextFetch c) s = .next t ∧ t.get (R.DMA_CH_STAT_BUSY c) = 1
        ∧ t.dma.at c = { daddr := s.bytes a 4, loadPend := true }))
  ∧ (∀ (c : Fin 16) (w : Bool) (s : State), s.dmaRuns c = true → (s.dma.at c).wait = some w →
    let u := s.updDma c fun d => { d with retries := d.retries + 1 }
    let d := s.dma.at c
    exec (.dmaRetryReissue c) s = .next (if d.loadPend then u.dmaLoad c else if d.fetch then u.dmaNext c
      else if d.total ≤ d.nWritten then u.dmaComplete c else if w then u.dmaWriteBeat c else u.dmaReadBeat c))
  ∧ (∀ (c : Nat) (s : State), s.arbitrate = some c →
      c < 16 ∧ s.beatReady c = true
      ∧ ∀ d : Fin 16, s.beatReady d = true → s.get (R.DMA_CH_CTRL_PRIO d) < 4 →
          s.get (R.DMA_CH_CTRL_PRIO d) < s.get (R.DMA_CH_CTRL_PRIO c)
          ∨ (s.get (R.DMA_CH_CTRL_PRIO d) = s.get (R.DMA_CH_CTRL_PRIO c)
              ∧ let l := s.dmaLast.at (s.get (R.DMA_CH_CTRL_PRIO c)) + 1
                (c + 16 - l % 16) % 16 ≤ (d.val + 16 - l % 16) % 16))

/-! ### The sealed world (chapter 14) -/

/-- R294 to R299, R302: a gate call that is refused answers its status in g1; one that is accepted keeps g1 to g6,
enters the gate's address in the SEALED world with the return in SAVE, and saves the OPEN context; its return brings
that context back with WS_OK; WG_INFO answers in g1 to g4; an unassigned index raises GATE; the sealed watchdog and a
reload begin a load, which ends with the image in or refused for its cause. Where a clause follows a choice of the
model, log entry 17 says so. -/
def Obligations.SealedGates : Prop :=
  (∀ (c : Fin 3) (n : Fin 64) (st : Nat) (s : State), s.Ready c → (s.coreAt c).exl = false → (s.coreAt c).world = false →
    s.gateStatus c n = some st →
    ∃ t, exec (.wgateEntry c n) s = .next t ∧ CoreOnly c s t ∧ (t.coreAt c).pc = (s.coreAt c).pc + 4
      ∧ (t.coreAt c).cycle = (s.coreAt c).cycle + 40 ∧ (t.coreAt c).world = false
      ∧ ∀ r, (t.coreAt c).rd r = if r = 1 then BitVec.ofNat 32 st else (s.coreAt c).rest r)
  ∧ (∀ (c n : Nat) (s : State), (s.flag R.WLD_STAT_RESTARTING = true → s.gateStatus c n = some 2)
    ∧ (s.flag R.WLD_STAT_RESTARTING = false → s.gateStatus c n ≠ none →
        s.gateStatus c n = some 1 ∧ (s.flag R.WLD_STAT_LOADED = false ∨ s.get R.WLD_NGATE ≤ n
          ∨ (s.wld.gates.getD n 0).testBit 0 = false ∨ c ≠ 0)))
  ∧ (∀ (n : Fin 64) (s : State), s.Ready 0 → (s.coreAt 0).exl = false → (s.coreAt 0).world = false →
    s.gateStatus 0 n = none →
    ∃ t, exec (.wgateEntry 0 n) s = .next t ∧ (t.coreAt 0).world = true ∧ (t.coreAt 0).ie = false
      ∧ (t.coreAt 0).pc = BitVec.ofNat 32 (s.wld.gates.getD n 0) &&& 0xFFFFFFFC
      ∧ (∀ r : Fin 32, (t.coreAt 0).rd r = if 1 ≤ r.val ∧ r.val ≤ 6 then (s.coreAt 0).rest r
          else if r = 28 then s.wld.wp else if r = 30 then s.wld.sp else 0)
      ∧ (t.coreAt 0).save = some ((s.coreAt 0).pc + 4, false)
      ∧ (t.coreAt 0).cycle = (s.coreAt 0).cycle + BitVec.ofNat 32 (128 + 8 * (s.coreAt 0).tilesUsed + s.flushCost)
      ∧ t.wld.gate = n.val ∧ (∃ k, t.wld.saved = some k ∧ k.pc = (s.coreAt 0).pc + 4 ∧ k.world = false
          ∧ (s.coreAt 0).KeepsRegs k)
      ∧ OnlyIn [.core, .wld] s t)
  ∧ (∀ (old : Core) (s : State), s.Ready 0 → (s.coreAt 0).exl = false → (s.coreAt 0).world = true →
    s.wld.saved = some old → s.wld.waiting = none →
    ∃ t, exec (.wgateReturn 0) s = .next t ∧ (t.coreAt 0).pc = old.pc ∧ (t.coreAt 0).world = old.world
      ∧ (t.coreAt 0).rd 1 = 0 ∧ (∀ r : Fin 32, 2 ≤ r.val → r.val ≤ 6 → (t.coreAt 0).rd r = (s.coreAt 0).rest r)
      ∧ (∀ r : Fin 32, 7 ≤ r.val → (t.coreAt 0).rd r = old.rd r) ∧ t.wld.saved = none ∧ (t.coreAt 0).save = none
      ∧ OnlyIn [.core, .wld] s t)
  ∧ (∀ (c : Fin 3) (s : State), s.Ready c → (s.coreAt c).exl = false →
    ∃ t, exec (.wgateInfo c) s = .next t ∧ CoreOnly c s t ∧ (t.coreAt c).pc = (s.coreAt c).pc + 4
      ∧ ∀ r, (t.coreAt c).rd r = if r = 1 then 0 else if r = 2 then BitVec.ofNat 32 (s.readReg 0x1400C)
          else if r = 3 then BitVec.ofNat 32 (s.get R.WLD_NGATE) else if r = 4 then BitVec.ofNat 32 (s.get R.WLD_VERSION)
          else (s.coreAt c).rest r)
  ∧ (∀ (c : Fin 3) (idx : BitVec 16) (s : State), s.Ready c → (s.coreAt c).exl = false → (s.coreAt c).world = false →
    gateAssigned idx.toNat = false →
    ∃ t, exec (.wgateUnassigned c idx) s = .next t
      ∧ (t.coreAt c).Entered (s.coreAt c) 5 (BitVec.ofNat 32 idx.toNat) 1 4
      ∧ OnlyIn [.core, .icu, .pd 6] s t ∧ RegsOnly (Fld.ofSource 160) s t)
  ∧ (∀ (s : State), s.wld.saved.isSome = true → s.bit R.DBG_STAT_HALTED 0 = false → s.plyRuns = true →
    s.spBytes ≠ 0 → s.get R.WLD_SIMG ≠ 0 →
    ∃ t, exec .sealedWatchdogExpiry s = .next t ∧ t.flag R.WLD_STAT_WDT = true ∧ t.flag R.WLD_STAT_RSBEGIN = true
      ∧ t.get R.WLD_STAT_RESTARTING = 1 ∧ t.get R.WLD_STAT_LOADED = 0 ∧ t.get R.WLD_STAT_RSCAUSE = 2
      ∧ t.wld.saved = none ∧ (t.coreAt 0).rd 1 = 2)
  ∧ (∀ (q : Who) (v : Word) (s : State), s.on 3 = true → v.toNat.testBit 0 = true → q.sealedW = false →
    s.spBytes ≠ 0 → s.get R.WLD_SIMG ≠ 0 →
    (s.wld.saved = none → ∃ t, exec (.sealedReload q v) s = .next t ∧ t.get R.WLD_STAT_RESTARTING = 1
      ∧ t.get R.WLD_STAT_LOADED = 0 ∧ t.get R.WLD_STAT_RSCAUSE = 3)
    ∧ (s.wld.saved.isSome = true → ∃ t, exec (.sealedReload q v) s = .next t ∧ t.wld.waiting = some 3
      ∧ t.regs = s.regs))
  ∧ (∀ (s : State), s.flag R.WLD_STAT_RESTARTING = true → s.crerus.alive = true →
    let i := s.image
    ∃ t, exec .sealedLoadComplete s = .next t ∧ t.get R.WLD_STAT_RESTARTING = 0
      ∧ match s.imageFails i with
        | none => t.get R.WLD_STAT_LOADED = 1 ∧ t.get R.WLD_STAT_LOADFAIL = 0
            ∧ t.get R.WLD_VERSION = i.word 8 % 2 ^ 32 ∧ t.wld.gates = i.gates
        | some c => t.get R.WLD_STAT_LOADFAIL = 1 ∧ t.get R.WLD_STAT_FAILCAUSE = c % 16
            ∧ t.get R.WLD_STAT_LOADED = s.get R.WLD_STAT_LOADED)

/-! ### Crerus and the mailboxes (chapter 15) -/

/-- R312, R318, R322: a reply to the host goes into its mailbox, which shows DONE, one to a strand into its local
mailbox; the request is over. The next request is taken in arrival order and one that is whole and not refused is the
one Crerus serves; a suspended request goes on with its result; an APPLY to a lane whose run does not come ends
ABORTED. Where a clause follows a choice of the model, log entries 46 and 47 say so. -/
def Obligations.CrerusRequests : Prop :=
  (∀ (j : Job) (st : Nat) (pay : List Nat) (s : State), (s.finish j st pay).jobs.all (fun x => decide (x.id ≠ j.id)) = true)
  ∧ (∀ (j : Job) (n : Fin 8) (st : Nat) (pay : List Nat) (s : State), s.Kept → s.on 10 = true → j.src = .host n →
    let t := s.finish j st pay
    let m := j.replyMsg st pay
    t.get (R.HIF_MBST n) = 3 ∧ t.rdBytes (hostKey (0x1000 + 0x200 * n.val)) m.length = m.map (· % 256))
  ∧ (∀ (j : Job) (b : Fin 4) (st : Nat) (pay : List Nat) (s : State), s.Kept → s.on 1 = true → s.on 6 = true →
    j.src = .loc b → b.val ∉ s.wld.wipeMb →
    let t := s.finish j st pay
    let m := j.replyMsg st pay
    t.get (R.LMB_ST b) = 3 ∧ t.rdBytes (lmbKey b) m.length = m.map (· % 256)
      ∧ t.flag (R.ICU_STS_PEND (137 + 2 * b)) = true)
  ∧ (∀ (a : Arrival) (s : State), s.crerus.cur = none → s.crerusUp = true → s.crerus.arr.find? s.takes = some a →
    let b := s.arrBytes a
    let u := s.beginTake a
    let j := u.jobOf a b
    let w : State := { u with crerus := { u.crerus with nextId := u.crerus.nextId + 1 } }
    u.crerus.arr = s.crerus.arr.erase a
    ∧ (goodMsg b = false → exec .mailboxRequestTake s = .next (w.finish { j with pay := [] } 0x12 []))
    ∧ (goodMsg b = true → w.authJob j b = (some j, w) →
        (∀ st, w.refuse j = some st → exec .mailboxRequestTake s = .next (w.finish j st []))
        ∧ (w.refuse j = none → ∃ t, exec .mailboxRequestTake s = .next t ∧ t.crerus.cur = some j
            ∧ t.crerus.arr = s.crerus.arr.erase a)))
  ∧ (∀ (j : Job) (s : State), s.crerusUp = true → s.crerus.susp.find? s.canResume = some j →
    (∀ st data, j.wait = .ready st data → j.noun ≠ 0x402 → exec .requestResume s = .next (s.finish j st data))
    ∧ (∀ k, j.wait = .upd k → exec .requestResume s = .next (s.finish j 0 []))
    ∧ (∀ c, j.wait = .flash (some c) → c ≠ 0 → exec .requestResume s = .next (s.finish j 0x30 []))
    ∧ (j.wait = .engine → exec .requestResume s = .next (s.suspend j .none)))
  ∧ (∀ (j : Job) (k : Nat) (s : State), s.crerusUp = true → j.wait = .upd k → s.flag (R.LN_CTRL_UPD k) = true →
    s.crerus.susp = [j] → exec .laneApplyTimeout s = .next (s.finish j 0x61 []))

/-- R319 to R322, R324, R336: the configuration Verbs on the request that is served. GET answers the LIVE, PENDING or
BOOT value; a SET that no check refuses replaces the class's PENDING value and no other; APPLY puts it in force;
COMMIT copies the LIVE value into the working Draft, or writes the Draft to its slot; STAGE copies staged bytes. Where
a clause follows a choice of the model, log entries 45 and 46 say so. -/
def Obligations.CrerusConfiguration : Prop :=
  (∀ (j : Job) (s : State), s.Serves j → j.verb = 1 → j.noun ≠ 0x701 →
    (j.md = 0 → exec .get s = .next (s.finish j 0 (s.live j.noun)))
    ∧ (j.md = 1 → nounSets j.noun = true → ∀ p, s.pendOf j.cls j.noun = some p → exec .get s = .next (s.finish j 0 p))
    ∧ (j.md = 2 → nounSets j.noun = true →
        exec .get s = .next (s.finish j 0 (s.crerus.bootDraft.nounValue j.noun))))
  ∧ (∀ (j : Job) (s : State), s.Serves j → j.verb = 2 → j.md = 0 →
    (s.setCheck j.noun j.pay = none →
      ∃ t, exec .set s = .next t ∧ t.pendOf j.cls j.noun = some j.pay
        ∧ ∀ c n, (c, n) ≠ (j.cls, j.noun) → t.pendOf c n = s.pendOf c n)
    ∧ ∀ st, s.setCheck j.noun j.pay = some st →
        exec .set s = .next (s.finish j st []) ∧ (s.finish j st []).crerus.pend = s.crerus.pend)
  ∧ (∀ (j : Job) (s : State), s.Serves j → j.verb = 3 →
    (s.pendOf j.cls j.noun = none → exec .apply s = .next (s.finish j 0x13 []))
    ∧ ∀ p, s.pendOf j.cls j.noun = some p → j.noun ≠ 0x901 → exec .apply s = .next (s.applyJob j p))
  ∧ (∀ (j : Job) (s : State), s.Serves j → j.verb = 4 → j.noun ≠ 0x600 →
    let u : State := { s with crerus := { s.crerus with work := s.staged j.noun } }
    (j.md = 0 → s.draftSigned = true → exec .commitStage s = .next (s.finish j 0x13 []))
    ∧ (j.md = 0 → s.draftSigned = false → (s.staged j.noun).bodyLen ≤ 32480 → exec .commitStage s = .next (u.finish j 0 []))
    ∧ (j.md = 1 → s.draftSigned = false → (s.staged j.noun).bodyLen ≤ 32480 → s.flash.op0 = none → s.on 2 = true →
        ∃ t, exec .commitWrite s = .next t ∧ t.crerus.work = s.staged j.noun
          ∧ t.flash.op0 = some (draftWrite u.targetSlot (u.crerus.work.bytes u.nextSeq))
          ∧ { j with wait := .flash none } ∈ t.crerus.susp))
  ∧ (∀ (j : Job) (s : State), s.Serves j → j.verb = 6 → j.noun ≠ 0x601 →
    (stageOk j.pay 0x8000 = false → exec .stage s = .next (s.finish j 0x50 []))
    ∧ (stageOk j.pay 0x8000 = true → exec .stage s = .next
        ((s.wrBytes (imageStore + wordAt j.pay 8) (s.stagedBytes (wordAt j.pay 0) (wordAt j.pay 4))).finish j 0 [])))
  ∧ (∀ (j : Job) (s : State), s.Serves j → j.verb = 6 → j.noun = 0x601 → stageOk j.pay 0x40000 = true →
    wordAt j.pay 8 = 0 → s.flash.op0 = none → s.on 2 = true →
    let base := fwBase (1 - s.crerus.slot)
    ∃ t, exec .stage s = .next t ∧ t.crerus.verified = false ∧ { j with wait := .flash none } ∈ t.crerus.susp
      ∧ t.flash.op0 = some { erase := [(base, 0x20000), (base + 0x20000, 0x20000)]
                             prog := [(base, s.stagedBytes (wordAt j.pay 0) (wordAt j.pay 4))] })

/-- R319, R321, R334, R376: ATTEST answers the LIVE payload, the nonce and a signature; WIPE empties a key slot; WATCH
and FORGET keep one subscription for each class and Noun; a waiting notice whose mailbox is FREE and whose interval
has passed is written; PING echoes. R337: a sequence whose first step is END ends at once; UNDO disables the lanes it
enables; a wait that times out with FAIL set ends ABORTED with its step; every 10 ms the fan service takes the speeds.
Where a clause follows a choice of the model, log entries 48 and 51 say so. -/
def Obligations.CrerusServicesAndFans : Prop :=
  (∀ (j : Job) (s : State), s.Serves j → j.verb = 7 → s.EngineFree →
    (s.custody.drbg = false → exec .attest s = .next (s.finish j 0x20 []))
    ∧ (s.custody.drbg = true → ∃ u sig, exec .attest s = .next (State.finish u j 0 (s.live j.noun ++ j.pay ++ sig))
        ∧ OnlyIn [.free] s u))
  ∧ (∀ (j : Job) (s : State), s.Serves j → j.verb = 8 →
    (fieldOf j.pay 0 1 ≤ 63 → exec .wipe s = .next ((s.putSlot (fieldOf j.pay 0 1) {}).finish j 0 []))
    ∧ (fieldOf j.pay 0 1 = 0xFF → exec .wipe s = .next (s.zeroSlots.finish j 0 []))
    ∧ (63 < fieldOf j.pay 0 1 → fieldOf j.pay 0 1 ≠ 0xFF → exec .wipe s = .next (s.finish j 0x50 [])))
  ∧ (∀ (j : Job) (s : State), s.Serves j → j.verb = 9 →
    ∃ t x, exec .watch s = .next t ∧ t.crerus.subs = s.crerus.subs.filter (fun x => !decide (x.cls = j.cls ∧ x.noun = j.noun)) ++ [x]
      ∧ x.cls = j.cls ∧ x.noun = j.noun ∧ x.interval = j.md % 64 ∧ x.told = s.watchKey j.noun ∧ x.waiting = false)
  ∧ (∀ (j : Job) (s : State), s.Serves j → j.verb = 10 →
    ∃ t, exec .forget s = .next t
      ∧ t.crerus.subs = s.crerus.subs.filter fun x => !(decide (x.cls = j.cls) && (decide (j.noun = 0xFFFF) || decide (x.noun = j.noun))))
  ∧ (∀ (i : Nat) (x : Sub) (s : State), s.crerus.alive = true → s.on 1 = true →
    let u := s.lookSubs
    u.crerus.notes = [] → (u.crerus.subs.filter fun x => x.waiting && u.noticeRoom x.mb && u.noticeDue x)[i]? = some x →
    ∃ w : State, exec (.noticeDelivery i) s = .next (w.sendNotice x) ∧ OnlyIn [.crerus] u w
      ∧ w.crerus.subs = u.crerus.subs.map fun z =>
          if z = x then { x with waiting := false, last := some u.time.rtc.toNat } else z)
  ∧ (∀ (j : Job) (s : State), s.Serves j → j.verb = 5 → j.noun = 2 → exec .doPing s = .next (s.finish j 0 j.pay))
  ∧ (∀ (j : Job) (s : State), s.Serves j → j.verb = 5 → j.noun = 0xB03 → j.md = 0 →
    (s.seqAct 0).1 = 0 →
    ∃ t, exec .doSeqRun s = .next t ∧ t.crerus.run = {} ∧ t.jobs.all (fun x => decide (x.id ≠ j.id)) = true)
  ∧ (∀ (j : Job) (s : State), s.Serves j → j.verb = 5 → j.noun = 0xB03 → j.md = 0 → (s.seqAct 0).1 = 4 →
    (s.seqAct 0).2.2 ≠ 0 →
    ∃ t, exec .doSeqRun s = .next t ∧ t.crerus.run = { on := true, step := 0, lanes := [] }
      ∧ { j with wait := .seq } ∈ t.crerus.susp)
  ∧ (∀ (j : Job) (s : State), s.Serves j → j.verb = 5 → j.noun = 0xB03 → j.md = 1 →
    exec .doSeqUndo s = .next (((((List.range 16).filter fun i => decide ((s.seqAct i).1 = 1)).reverse).foldl
      (fun (u : State) i => u.laneSwitch (u.seqAct i).2.1 false) s).finish j 0 []))
  ∧ (∀ (j : Job) (s : State), s.seqJob = some j → s.crerus.run.on = true → s.crerusUp = true →
    let r := s.crerus.run
    (fieldOf (seqStep s.crerus.sequence r.step) 6 1 ≠ 1 → ∃ u : State, exec (.sequenceStep true) s = .next (u.finish j 0x61 [r.step])
      ∧ u.crerus.run = {})
    ∧ ((s.seqAct r.step).1 = 3 → s.inWindowOf (s.seqAct r.step).2.1 (s.seqAct r.step).2.2 = false →
        exec (.sequenceStep false) s = .next s))
  ∧ (∀ (a b c d : BitVec 16) (s : State), s.crerus.alive = true → s.on 1 = true →
    (∀ i, i < 4 → (fieldOf (s.fanEntry i) 0 1).testBit 0 = false) →
    ∃ t, exec (.fanServiceTick a b c d) s = .next t
      ∧ t.crerus.fans = [{ rpm := a.toNat, duty := 0, stalled := false }, { rpm := b.toNat, duty := 0, stalled := false },
          { rpm := c.toNat, duty := 0, stalled := false }, { rpm := d.toNat, duty := 0, stalled := false }]
      ∧ RegsOnly (fun f => f = R.HLT_STAT_BSVCLIVE) s t)

/-- R148, R154, R155, R157, R374, R375, R373, R383, R420 to R422: the DO requests for the Warp bus, the life cycle,
the DRBG and the tamper state, on the request that is served. R326, R327, R330, R336, R503, R505, R506: vendor
firmware starts in the chosen slot; a restart loses what was taken, watched and pending; the first watchdog expiry
loses the firmware and a second within 1 s asks for a reset; FW_VERIFY, FW_ACTIVATE, COMMIT to FW_STATUS and
DRAFT_IMAGE act on the slot Crerus does not run from, on the running slot's mark and on a Draft slot. Where a clause
follows a choice of the model, log entries 43, 44, 45, 49 and 50 say so. -/
def Obligations.CrerusDoAndFirmware : Prop :=
  (∀ (j : Job) (s : State), s.Serves j → j.verb = 5 → j.noun = 0x402 → s.on 9 = true →
    (s.isMaster = true → fieldOf j.pay 0 8 < s.time.tb.toNat + 500 → exec .doWarpGstart s = .next (s.finish j 0x50 []))
    ∧ (s.isMaster = true → s.time.tb.toNat + 500 ≤ fieldOf j.pay 0 8 → ∀ g : Fin 16, fieldOf j.pay 8 1 = g.val →
        let f : Frame := .gstart g (BitVec.ofNat 64 (fieldOf j.pay 0 8))
        exec .doWarpGstart s = .next ((s.queueFrame f).suspend j (.gstart f)))
    ∧ (s.isMaster = false →
        exec .doWarpGstart s = .next (s.sendFor j 0 (mkMsg 5 0 0x402 j.seq 0 0 j.pay))))
  ∧ (∀ (j : Job) (s : State), s.Serves j → j.verb = 5 → s.on 9 = true →
    (j.noun = 0x403 → goodMsg (j.pay.drop 4) = true → msgLen (j.pay.drop 4) = (j.pay.drop 4).length →
      ∃ t, exec .doWarpSend s = .next t
        ∧ { xid := s.freshXid, dst := fieldOf j.pay 0 1, bytes := j.pay.drop 4, job := j.id } ∈ t.warp.sends
        ∧ { j with wait := .warp s.freshXid } ∈ t.crerus.susp)
    ∧ (j.noun = 0x405 → exec .doWarpReset s = .next
        ((s.queueFrame (.bypass 4 (BitVec.ofNat 8 (fieldOf j.pay 0 1)))).finish j 0 []))
    ∧ (j.noun = 0x406 → exec .doWarpCal s = .next (s.startEnum.finish j 0 [])))
  ∧ (∀ (j : Job) (s : State), s.Serves j → j.verb = 5 → s.on 9 = false → j.noun = 0x406 →
    exec .doWarpCal s = .next (s.finish j 0x20 []))
  ∧ (∀ (j : Job) (s : State), s.Serves j → j.verb = 5 →
    (j.noun = 0x501 → ∀ c, s.lcRefusal (fieldOf j.pay 0 1) false = some c → exec .doLcTransition s = .next (s.clearToken.finish j c []))
    ∧ (j.noun = 0x501 → s.lcRefusal (fieldOf j.pay 0 1) false = none → fieldOf j.pay 0 1 ≠ 2 → fieldOf j.pay 0 1 ≠ 5 →
        ∀ n, s.lcSlot (fieldOf j.pay 0 1) = some n → exec .doLcTransition s = .next ((s.lcBegin n (some j.id)).clearToken.suspend j .lc))
    ∧ (j.noun = 0x502 → fieldOf j.pay 0 1 = 2 → s.lcRefusal 2 false = none → ∀ n, s.lcSlot 2 = some n →
        (3 ≤ s.get R.LCS_TOKFAIL → exec .doLcToken s = .next (s.clearToken.finish j 0x13 []))
        ∧ (s.get R.LCS_TOKFAIL < 3 → exec .doLcToken s = .next
            (if s.tokenGood 2 (j.pay.drop 4) then (s.lcBegin n (some j.id)).clearToken.suspend j .lc
             else (s.inc R.LCS_TOKFAIL).clearToken.finish j 0x13 [])))
    ∧ (j.noun = 0x503 → wordAt j.pay 0 = 0x5C4A → j.pay.drop 4 = s.devId → s.lcRefusal 7 true = none →
        ∀ n, s.lcSlot 7 = some n → exec .doLcScrap s = .next ((s.lcBegin n (some j.id)).clearToken.suspend j .lc))
    ∧ (j.noun = 0x503 → wordAt j.pay 0 ≠ 0x5C4A → exec .doLcScrap s = .next (s.finish j 0x13 [])))
  ∧ (∀ (j : Job) (s : State), s.Serves j → j.verb = 5 → j.noun = 0x702 → j.md = 0 →
    let n := fieldOf j.pay 0 2
    ((n = 0 ∨ 480 < n) → exec .doDrbgRandom s = .next (s.finish j 0x50 []))
    ∧ (1 ≤ n → n ≤ 480 → s.EngineFree → s.custody.esFail = false → s.custody.drbg = true →
        ∃ u l, exec .doDrbgRandom s = .next (State.finish u j 0 l) ∧ l.length = n ∧ (∀ x ∈ l, x < 256)
          ∧ OnlyIn [.free, .custody] s u))
  ∧ (∀ (j : Job) (s : State), s.Serves j → j.verb = 5 → j.noun = 0x702 → j.md = 1 →
    let n := fieldOf j.pay 0 1
    let typ := fieldOf j.pay 1 1
    let pol := fieldOf j.pay 2 2
    let len := fieldOf j.pay 4 2
    (j.cls ≠ .s → exec .doDrbgGenerate s = .next (s.finish j 0x13 []))
    ∧ (j.cls = .s → n < 63 → slotForm typ len pol = true → (s.slot n).occ = false → s.EngineFree → s.custody.esFail = false →
        s.custody.drbg = true →
        ∃ t, exec .doDrbgGenerate s = .next t ∧ (t.slot n).occ = true ∧ (t.slot n).typ = typ ∧ (t.slot n).len = len
          ∧ (t.slot n).policy = pol))
  ∧ (∀ (live : BitVec 9) (j : Job) (s : State), s.Serves j → j.verb = 5 → j.noun = 0x902 →
    (s.custody.wiping = false → (∀ n, n < 9 → live.toNat.testBit n = true → s.tampEn n = true →
        s.bit R.TMP_SRCCFG_ACTION n = false) →
      ∃ u : State, exec (.doTamperClear live) s = .next (u.finish j 0 []) ∧ u.get R.TMP_STAT_RESP = 0
        ∧ u.get R.TMP_STAT_LATCHED = 0 ∧ u.get R.TMP_STAT_ACTIVE = live.toNat ∧ u.custody.slotLoss = false)
    ∧ (∀ n, n < 9 → live.toNat.testBit n = true → s.tampEn n = true → s.bit R.TMP_SRCCFG_ACTION n = true →
        exec (.doTamperClear live) s = .next ((s.set R.TMP_STAT_ACTIVE live.toNat).finish j 0x20 [])))
  ∧ (∀ (kat : Bool) (s : State), s.get R.RST_BOOT_STEP = 10 → s.crerus.started = false → s.crerus.alive = false →
    s.flag R.RST_BOOT_RECOVERY = false → s.lcState ≠ 7 → s.on 1 = true →
    ∃ u : State, exec (.vendorFirmwareStart kat) s = .next (s.crerus.bootDraft.entries.foldl State.nounEntry u)
      ∧ u.crerus.alive = true ∧ u.crerus.started = true ∧ u.crerus.verified = false ∧ u.custody.katFail = !kat
      ∧ u.crerus.version = s.fwVersion s.crerus.slot ∧ u.crerus.work = s.crerus.bootDraft
      ∧ (s.on 10 = true → u.get R.HIF_STATUS_FWREADY = 1 ∧ u.get R.Q_STATUS_HELD = 0))
  ∧ (∀ (kat : Bool) (s : State), s.on 1 = true → s.crerus.started = true → (s.activated = true ∨ s.mustRestart = true) →
    ∃ t, exec (.crerusRestartComplete kat) s = .next t ∧ t.crerus.pend = [] ∧ t.crerus.subs = []
      ∧ t.crerus.cur = none ∧ t.crerus.susp = [] ∧ t.crerus.arr = s.crerus.arr ∧ t.crerus.fanPolicy = s.crerus.fanPolicy)
  ∧ (∀ s : State, s.crerusUp = true →
    (s.crerus.wdLast = none → ∃ t, exec .crerusWatchdogExpiry s = .next t ∧ t.crerus.alive = false
      ∧ t.crerus.wdLast = some s.time.rtc.toNat ∧ t.crerus.susp = [] ∧ t.crerus.pend = [])
    ∧ ∀ x, s.crerus.wdLast = some x →
        (s.time.rtc.toNat ≤ x + 1000000 → exec .crerusWatchdogExpiry s = .next (s.askReset 10))
        ∧ (x + 1000000 < s.time.rtc.toNat → ∃ t, exec .crerusWatchdogExpiry s = .next t ∧ t.crerus.alive = false
            ∧ t.crerus.wdLast = some s.time.rtc.toNat))
  ∧ (∀ (j : Job) (s : State), s.Serves j → j.verb = 5 → j.noun = 0x602 → s.flash.op0 = none → s.on 2 = true →
    let r := s.fwFail (1 - s.crerus.slot)
    let u : State := { s with crerus := { s.crerus with verified := true } }
    exec .doFwVerify s = .next (if r = 0 then u.finish j 0 []
      else s.finish j (if r = 4 then 0x14 else if r = 5 then 0x30 else 0x13) []))
  ∧ (∀ (j : Job) (s : State), s.Serves j → j.verb = 5 → j.noun = 0x603 → s.flag R.PWR_STATE_ENTRY = false →
    (s.crerus.verified = false → exec .doFwActivate s = .next (s.finish j 0x13 []))
    ∧ (s.crerus.verified = true → s.flash.op0 = none → s.on 2 = true → s.on 10 = true →
        ∃ u : State, exec .doFwActivate s = .next u.jrnlPush ∧ u.crerus.activating = true
          ∧ u.get R.HIF_STATUS_RESTARTING = 1 ∧ u.get R.HIF_STATUS_FWREADY = 0 ∧ u.get R.Q_STATUS_HELD = 1))
  ∧ (∀ (j : Job) (s : State), s.Serves j → j.verb = 4 → j.noun = 0x600 →
    (s.fwMark s.crerus.slot 2 = true → exec .fwStatusCommit s = .next (s.confirmed.finish j 0 []))
    ∧ (s.fwMark s.crerus.slot 2 = false → s.flash.op0 = none → s.on 2 = true →
        ∃ t, exec .fwStatusCommit s = .next t ∧ t.flash.op0 = some { prog := [(fwMarkKey s.crerus.slot 2, fwMarkUnit)] }
          ∧ { j with wait := .flash none } ∈ t.crerus.susp))
  ∧ (∀ (j : Job) (s : State), s.Serves j → j.verb = 5 → j.noun = 0xA01 → s.flash.op0 = none → s.on 2 = true →
    let img := s.rdBytes imageStore 0x7FE0
    (draftHead img = false → exec .doDraftImage s = .next (s.finish j 0x13 []))
    ∧ (draftHead img = true → s.newestDraft = none → ∃ n, exec .doDraftImage s = .next
        (if (s.draftBad img).isSome then s.finish j 0x13 []
         else (s.setFlashOp 0 (some (draftWrite s.targetSlot (img.take n)))).suspend j (.flash none))))

/-! ### The custody queue and the journal (chapter 16) -/

/-- R342 to R348, R357, R360: the host submits no more than 32 entries, which join the arrival order, and consumes no
more than the ring holds; a take marks the tag of a well-formed entry and completes a malformed one; a completion is
written at the tail and frees its tag; a reset of an idle queue clears the ring. Where a clause follows a choice of
the model, log entry 57 says so. -/
def Obligations.CustodyQueue : Prop :=
  (∀ (v : Word) (s : State), s.on 10 = true → s.asleep = false →
    let x := v.toNat % 64
    let k := (x + 64 - s.get R.Q_SQTAIL) % 64
    ((x + 64 - s.get R.Q_SQHEAD) % 64 ≤ 32 → ∃ t, exec (.queueSubmit v) s = .next t ∧ t.get R.Q_SQTAIL = x
      ∧ t.queue = { s.queue with stamps := s.queue.stamps ++ (List.range k).map fun i => s.crerus.stamp + i }
      ∧ t.crerus = { s.crerus with stamp := s.crerus.stamp + k }
      ∧ RegsOnly (fun f => f = R.Q_SQTAIL) s t ∧ OnlyIn [.crerus, .queue, .pd 10] s t)
    ∧ (32 < (x + 64 - s.get R.Q_SQHEAD) % 64 →
        exec (.queueSubmit v) s = .next ((s.set R.Q_STATUS_SQERR 1).set R.HIF_IRQSTAT_ERR 1)))
  ∧ (∀ (v : Word) (s : State), s.on 10 = true →
    let x := v.toNat % 64
    let used := (s.get R.Q_CQTAIL + 64 - s.get R.Q_CQHEAD) % 64
    ((x + 64 - s.get R.Q_CQHEAD) % 64 ≤ used → ∃ t, exec (.queueConsume v) s = .next t ∧ t.get R.Q_CQHEAD = x
      ∧ (t.flag R.HIF_IRQSTAT_QCOMP = true ↔ s.get R.Q_CQTAIL ≠ x)
      ∧ RegsOnly (fun f => f = R.Q_CQHEAD ∨ f = R.HIF_IRQSTAT_QCOMP) s t)
    ∧ (used < (x + 64 - s.get R.Q_CQHEAD) % 64 →
        exec (.queueConsume v) s = .next ((s.set R.Q_STATUS_CQERR 1).set R.HIF_IRQSTAT_ERR 1)))
  ∧ (∀ (v : Word) (s : State), s.on 10 = true → v.toNat.testBit 0 = true →
    ∃ t, exec (.queueReset v) s = .next t ∧ t.queue.taken = [] ∧ t.queue.done = []
      ∧ (s.queue.running = [] → t.get R.Q_SQTAIL = 0 ∧ t.get R.Q_SQHEAD = 0 ∧ t.get R.Q_CQHEAD = 0 ∧ t.get R.Q_CQTAIL = 0
          ∧ t.get R.Q_TAGS = 0 ∧ t.get R.Q_CTRL = 0)
      ∧ (s.queue.running ≠ [] → t.get R.Q_CTRL = 1 ∧ t.queue.running.all QCmd.discard = true))
  ∧ (∀ s : State, s.qServes = true → s.get R.Q_SQHEAD ≠ s.get R.Q_SQTAIL →
    let h := s.get R.Q_SQHEAD
    let c : QCmd := { cmdOf (s.ringEntry (h % 32)) with
      idx := h % 32, num := s.queue.num, held := decide (0 < s.queue.heldTo), stamp := s.queue.stamps.headD 0 }
    ∃ t, exec .queueTake s = .next t ∧ t.get R.Q_SQHEAD = (h + 1) % 64 ∧ t.queue.stamps = s.queue.stamps.tail
      ∧ (c.malformed = none → s.bit R.Q_TAGS c.tag = false → c.ranges = none →
          t.queue.taken = s.queue.taken ++ [c] ∧ t.bit R.Q_TAGS c.tag = true)
      ∧ (c.malformed = none → s.bit R.Q_TAGS c.tag = true → t.queue.taken = s.queue.taken
          ∧ t.get R.Q_TAGBUSY = min 0xFFFF (s.get R.Q_TAGBUSY + 1)
          ∧ ∃ d, t.queue.done = s.queue.done ++ [d] ∧ d.status = 0x60 ∧ d.tag = c.tag)
      ∧ ∀ st, c.malformed = some st → t.queue.taken = s.queue.taken ∧ t.get R.Q_TAGS = s.get R.Q_TAGS
          ∧ ∃ d, t.queue.done = s.queue.done ++ [d] ∧ d.status = st)
  ∧ (∀ (d : QDone) (r : List QDone) (s : State), s.queue.done = d :: r → s.crerus.alive = true → s.on 1 = true → s.on 10 = true →
    (s.get R.Q_CQTAIL + 64 - s.get R.Q_CQHEAD) % 64 < 32 →
    ∃ t, exec .queueCompletionPost s = .next t ∧ t.queue.done = r ∧ t.get R.Q_CQTAIL = (s.get R.Q_CQTAIL + 1) % 64
      ∧ (d.usesTag = true → d.tag < 32 → t.bit R.Q_TAGS d.tag = false))

/-- R346 to R356: a verb that starts and passes the checks they share acts as its rule says, and one that fails them
completes with their status. JAPPEND gives its record the next number, JREAD answers from the records held, KSTORE and
KFETCH want authority, BWRITE and BREAD the engine, FLUSH programs what is buffered, BARRIER completes. R351, R355,
R402, R403: the deferral time programs what is owed and buffered; the end of a page makes its records durable and
moves the write position on, an erase that fails skips the block, one that ends otherwise tears the page; the scan
finds the newest record and the write position, and the check of the chain journals its breaks. Where a clause follows
a choice of the model, log entries 55, 56 and 57 say so. -/
def Obligations.QueueVerbsAndJournal : Prop :=
  (∀ (i : Instr) (n : Nat) (f : State → QCmd → State) (c : QCmd) (s : State),
    (i, n, f) ∈ ([(.jappend, 1, State.jPut), (.jread, 2, State.jRead), (.kstore, 3, State.kStore), (.kfetch, 4, State.kFetch),
      (.bwrite, 5, State.bWrite), (.bread, 6, State.bRead), (.flush, 7, State.jFlush),
      (.barrier, 8, fun s c => s.qEnd c 0 0 0 0 0)] : List (Instr × Nat × (State → QCmd → State))) →
    s.Starts n c →
    let d := s.qLoad c
    (∀ v, (s.qRun c).qCheck d = (none, v) → exec i s = .next (f v d))
    ∧ ∀ st why v, (s.qRun c).qCheck d = (some (st, why), v) → exec i s = .next (v.qEnd d st 0 0 why 0))
  ∧ (∀ (c : QCmd) (s : State), c.deferred = true → s.pageFree true = true → s.jrnl.fits c.inp.length = true →
    c.discard = false → s.flag R.Q_CTRL = false →
    (s.jPut c).jrnl = s.jrnl.append (fieldOf c.param 0 2) s.time.rtc.toNat s.time.tb.toNat c.inp
    ∧ (s.jPut c).queue.done = s.queue.done ++ [c.completion 0 (s.jrnl.next % 2 ^ 32) (s.jrnl.next / 2 ^ 32) 0 32]
    ∧ (s.jrnl.append (fieldOf c.param 0 2) s.time.rtc.toNat s.time.tb.toNat c.inp).next = s.jrnl.next + 1)
  ∧ (∀ (c : QCmd) (s : State), (c.auth = false → s.kStore c = s.qEnd c 0x13 0 0 5 0 ∧ s.kFetch c = s.qEnd c 0x13 0 0 5 0)
    ∧ (c.auth = true → s.engineRefuses = false → (s.slot c.slot).occ = false →
        (s.kStore c = match s.unwrapKey c.inp with
          | some k => (s.putSlot c.slot k).qEnd c 0 0 0 0 0
          | none => s.qEnd c 0x13 0 0 2 0)
        ∧ s.kFetch c = s.qEnd c 0x13 0 0 1 0))
  ∧ (∀ (c : QCmd) (s : State), s.jrnl.buf = [] → s.jFlush c = s.qEnd c 0 0 0 0 0)
  ∧ (∀ (c : QCmd) (s : State), s.engineRefuses = true → s.bWrite c = s.qEnd c 0x20 0 0 0 0)
  ∧ (∀ s : State, s.jrnlHeld = false → exec .journalDeferTimeout s = .next s.jrnlPush)
  ∧ (∀ s : State, s.vrec = [] → s.jrnl.buf ≠ [] → s.jrnl.prog = none → s.flash.op1 = none → s.on 2 = true →
    ∃ op, s.jrnlPush.flash.op1 = some op ∧ s.jrnlPush.jrnl.prog = some s.jrnl.buf ∧ s.jrnlPush.jrnl.buf = []
      ∧ op.prog = [(pageKey s.nextPage, pageBytes s.jrnl.psn s.jrnl.buf)] ∧ s.jrnlPush.get R.FLC_STAT_BUSY1 = 1)
  ∧ (∀ (op : FlashOp) (recs : List (List Nat)) (s : State), s.flash.op1 = some op → s.jrnl.prog = some recs →
    exec (.journalPageDone 0) s = .next (s.pageGood op recs).resetDue
    ∧ exec (.journalPageDone 1) s = .next (s.eraseBad op).resetDue
    ∧ exec (.journalPageDone 2) s = .next (s.pageBad op).resetDue)
  ∧ (∀ (op : FlashOp) (recs : List (List Nat)) (s : State), s.vrec = [] → s.queue.running = [] →
    s.jrnl.wpos % 512 ≠ 509 →
    (s.pageGood op recs).jrnl.durable = s.jrnl.durable + recs.length
    ∧ (s.pageGood op recs).jrnl.wpos = (s.jrnl.wpos + 1) % 8192 ∧ (s.pageGood op recs).jrnl.prog = none
    ∧ (s.pageGood op recs).flash.op1 = none)
  ∧ (∀ s : State, s.crerus.alive = true → s.on 2 = true → s.jrnl.scanned = false → s.vrec = [] →
    ∃ t, exec .journalScanComplete s = .next t ∧ t.jrnl.scanned = true
      ∧ t.jrnl.next = t.jrnl.durable + 1
      ∧ (s.newestPage = none → t.jrnl.durable = 0 ∧ t.jrnl.psn = 0))
  ∧ (∀ s : State, s.jrnlUp = true → s.on 2 = true → s.jrnl.verified = false →
    ∃ t, exec .journalChainVerifyDone s = .next t ∧ t.jrnl.verified = true
      ∧ t.jrnl.breaks = s.jrnl.breaks + s.chainBreaks.length
      ∧ t.vrec.length = s.vrec.length + s.chainBreaks.length)

/-! ### The host interface (chapter 15) -/

/-- R314: a read drives the bytes the host sees, a write acts on each register word it covers whole and each byte,
READ STATUS and READ ID answer theirs, RESET acts only directly after RESET ENABLE, an unknown command drives nothing,
and a write of MODE acts when HCS# rises. R315, R317: the buffer of a FREE mailbox takes the byte and any other raises
MBWERR; a doorbell rings a FREE mailbox, which joins the arrival order, and else, or on the notice mailbox MB7, sets
DBERR; an acknowledge frees a DONE one. A sealed-held local mailbox is closed to the OPEN world. Where a clause
follows a choice of the model, log entries 58 and 64 say so. -/
def Obligations.HostPortAndMailboxes : Prop :=
  (∀ (a : BitVec 32) (n : Nat) (s : State), s.on 10 = true →
    ∃ t, exec (.xspiRead a n) s = .next t ∧ t.xspi.out = (List.range n).map (fun i => s.hostRead (a.toNat + i))
      ∧ t.xspi.armed = false ∧ OnlyIn [.xspi] s t)
  ∧ (∀ (a : BitVec 32) (d : BitVec 8) (s : State), s.Kept → s.on 10 = true → 0x10000 ≤ a.toNat → a.toNat < 0x20000 →
    ∃ t, exec (.xspiWrite a [d]) s = .next t ∧ t.byte (hostKey a.toNat) = d ∧ OnlyIn [.xspi, .mem] s t
      ∧ ∀ x, x ≠ hostKey a.toNat → t.byte x = s.byte x)
  ∧ (∀ (v : Word) (s : State), s.on 10 = true → v.toNat % 2 = 1 →
    ∃ t, exec (.xspiWrite 0x08 ((toLE 4 v.toNat).map (BitVec.ofNat 8))) s = .next t ∧ t.flag R.HIF_CFG = true
      ∧ t.xspi.next = some true ∧ t.xspi.mode = s.xspi.mode)
  ∧ (∀ (n : Nat) (s : State), s.on 10 = true → s.xspi.mode = false →
    ∃ t, exec (.xspiReadStatus n) s = .next t ∧ t.xspi.out = List.replicate n (s.readReg 0x10000004 / 2 ^ 24))
  ∧ (∀ s : State, s.on 10 = true →
    ∃ t, exec (.xspiReadId 4) s = .next t ∧ t.xspi.out = [s.get R.HIF_ID % 256, s.get R.HIF_ID / 2 ^ 8 % 256,
      s.get R.HIF_ID / 2 ^ 16 % 256, s.get R.HIF_ID / 2 ^ 24 % 256])
  ∧ (∀ s : State, s.on 10 = true →
    (∃ t, exec .xspiResetEnable s = .next t ∧ t.xspi = { s.xspi with armed := true } ∧ OnlyIn [.xspi] s t)
    ∧ (s.xspi.armed = true → ∃ t, exec .xspiReset s = .next t
        ∧ t.xspi = { s.xspi with armed := false, mode := false, next := none, out := [] } ∧ OnlyIn [.xspi] s t)
    ∧ (s.xspi.armed = false → ∃ t, exec .xspiReset s = .next t ∧ t.xspi = s.xspi ∧ OnlyIn [.xspi] s t))
  ∧ (∀ (c : BitVec 16) (s : State), s.on 10 = true →
    ∃ t, exec (.xspiUnknownCommand c) s = .next t ∧ t.xspi.out = [] ∧ t.xspi.armed = false ∧ OnlyIn [.xspi] s t)
  ∧ (∀ (m : Bool) (s : State), s.xspi.next = some m →
    ∃ t, exec .xspiModeChange s = .next t ∧ t.xspi.mode = m ∧ t.xspi.next = none ∧ OnlyIn [.xspi] s t)
  ∧ (∀ (n : Fin 8) (o : BitVec 9) (d : BitVec 8) (s : State), s.Kept → s.on 10 = true →
    (s.get (R.HIF_MBST n) = 0 → ∃ t, exec (.mailboxBufferWrite none n o d) s = .next t
      ∧ t.byte (hostKey (0x1000 + 0x200 * n.val + o.toNat)) = d ∧ OnlyIn [.mem] s t)
    ∧ (s.get (R.HIF_MBST n) ≠ 0 → ∃ t, exec (.mailboxBufferWrite none n o d) s = .next t
      ∧ t.get R.HIF_STATUS_MBWERR = 1 ∧ t.get R.HIF_IRQSTAT_ERR = 1 ∧ t.mem = s.mem))
  ∧ (∀ (q : Who) (n : Fin 8) (o : BitVec 9) (d : BitVec 8) (s : State), s.Kept → s.on 1 = true → n.val < 4 →
    (s.bit R.LMB_STATE_SHELD n = true → q.sealedW = false →
      ∃ t, exec (.mailboxBufferWrite (some q) n o d) s = .next t
        ∧ (t.resp.at (reqIdx q.req)).code = .busErr ∧ t.mem = s.mem ∧ t.regs = s.regs)
    ∧ (s.bit R.LMB_STATE_SHELD n = false → s.get (R.LMB_ST n) = 0 →
      ∃ t, exec (.mailboxBufferWrite (some q) n o d) s = .next t ∧ t.byte (lmbKey n + o.toNat) = d ∧ t.regs = s.regs))
  ∧ (∀ (n : Fin 7) (s : State), s.on 10 = true → s.asleep = false →
    (s.get (R.HIF_MBST n) = 0 → ∃ t, exec (.mailboxDoorbell none (BitVec.ofNat 32 (2 ^ n.val))) s = .next t
      ∧ t.get (R.HIF_MBST n) = 1 ∧ t.bit R.HIF_MBDB n = true ∧ t.crerus.arr = s.crerus.arr ++ [{ src := .host n, stamp := s.crerus.stamp }])
    ∧ (s.get (R.HIF_MBST n) ≠ 0 → ∃ t, exec (.mailboxDoorbell none (BitVec.ofNat 32 (2 ^ n.val))) s = .next t
      ∧ t.get R.HIF_STATUS_DBERR = 1 ∧ t.crerus = s.crerus))
  ∧ (∀ s : State, s.on 10 = true → ∃ t, exec (.mailboxDoorbell none 0x80) s = .next t ∧ t.get R.HIF_STATUS_DBERR = 1
    ∧ t.get (R.HIF_MBST 7) = s.get (R.HIF_MBST 7) ∧ t.crerus = s.crerus)
  ∧ (∀ (n : Fin 8) (s : State), s.on 10 = true → s.get (R.HIF_MBST n) = 3 →
    ∃ t, exec (.mailboxAcknowledge none (BitVec.ofNat 32 (2 ^ n.val))) s = .next t ∧ t.get (R.HIF_MBST n) = 0)
  ∧ (∀ (q : Who) (b : Fin 4) (s : State), s.on 1 = true → q.req ≠ .dma →
    (s.get (R.LMB_ST b) = 0 → ∃ t, exec (.mailboxDoorbell (some q) (BitVec.ofNat 32 (2 ^ b.val))) s = .next t
      ∧ t.get (R.LMB_ST b) = 1 ∧ t.crerus.arr = s.crerus.arr ++ [{ src := .loc b, sealedW := q.sealedW, stamp := s.crerus.stamp }]
      ∧ (q.sealedW = true → t.bit R.LMB_STATE_SHELD b = true))
    ∧ (s.get (R.LMB_ST b) = 3 → ∃ t, exec (.mailboxAcknowledge (some q) (BitVec.ofNat 32 (2 ^ b.val))) s = .next t
      ∧ t.get (R.LMB_ST b) = 0 ∧ (q.sealedW = true → t.bit R.LMB_STATE_SHELD b = false)))

/-! ### Custody and tamper (chapter 17) -/

/-- R374, R377 to R379, R381, R382: the temperature detects outside its limits, and a switch at its active level for
its filter time; a watched RESPOND source starts the response, which zeroizes the key slots and drops the keys; a
REPORT source raises source 146; a mesh period compares the sense with its bit; the wipes and the record follow; a
failure of the entropy source is counted. Where a clause follows a choice of the model, log entry 59 says so. -/
def Obligations.TamperSources : Prop :=
  (∀ (n : Fin 9) (live : BitVec 9) (deg : Int) (s : State), s.tampWatched n = true →
    (n ≠ 6 ∨ deg < s.gets R.TMP_TEMP_TLO ∨ (s.get R.TMP_TEMP_THI : Int) < deg →
      exec (.tamperDetection n { live := live, deg := deg }) s = .next ((s.set R.TMP_STAT_ACTIVE live.toNat).tamper n))
    ∧ (n = 6 → s.gets R.TMP_TEMP_TLO ≤ deg → deg ≤ (s.get R.TMP_TEMP_THI : Int) →
      exec (.tamperDetection n { live := live, deg := deg }) s = .next s))
  ∧ (∀ (n : Fin 2) (level : Bool) (ms : Nat) (s : State), s.tampEn (2 + n) = true →
    let filt := s.get (if n = 0 then R.TMP_TSW_FILT0 else R.TMP_TSW_FILT1)
    (level = s.bit R.TMP_TSW_POL n → filt ≤ ms →
      exec (.tamperSwitchFilterExpiry { n := n, level := level, ms := ms }) s = .next ((s.setBit R.TMP_STAT_ACTIVE (2 + n)).tamper (2 + n)))
    ∧ (level ≠ s.bit R.TMP_TSW_POL n ∨ ms < filt → exec (.tamperSwitchFilterExpiry { n := n, level := level, ms := ms }) s = .next s))
  ∧ (∀ (n : Fin 9) (s : State), s.bit R.TMP_SRCCFG_ACTION n = false →
    s.tamper n = (s.setBit R.TMP_STAT_LATCHED n).raise 146)
  ∧ (∀ s : State, s.asleep = false → s.pwr.entry = none →
    let t := s.tamperRespond
    t.flag R.TMP_STAT_RESP = true ∧ t.custody.slots = Vector.replicate 64 {} ∧ t.custody.keys = false
    ∧ t.custody.drbg = false ∧ t.custody.wiping = true ∧ t.custody.recordDue = true)
  ∧ (∀ (n : Fin 2) (sense : Bool) (s : State), s.tampEn n = true →
    let m := s.custody.mesh.at n
    (sense = Config.meshBit m.lfsr → ∃ t, exec (.meshBitPeriod n sense) s = .next t
      ∧ (t.custody.mesh.at n).run = 0 ∧ (t.custody.mesh.at n).lfsr ≠ 0 ∧ OnlyIn [.custody] s t)
    ∧ (sense ≠ Config.meshBit m.lfsr → m.run + 1 ≠ max 1 (s.get (R.TMP_MESH_FILT n)) →
      ∃ t, exec (.meshBitPeriod n sense) s = .next t ∧ (t.custody.mesh.at n).run = m.run + 1
        ∧ t.get (if n = 0 then R.TMP_MESHERR_M0 else R.TMP_MESHERR_M1)
            = min 0xFFFF (s.get (if n = 0 then R.TMP_MESHERR_M0 else R.TMP_MESHERR_M1) + 1)))
  ∧ (∀ s : State, s.crerus.alive = true → s.custody.drbg = true →
    ∃ t, exec .meshReseed s = .next t ∧ OnlyIn [.free, .custody] s t
      ∧ ∀ n : Fin 2, s.tampEn n = true → (t.custody.mesh.at n).run = 0 ∧ (t.custody.mesh.at n).lfsr ≠ 0)
  ∧ (∀ s : State, s.custody.wiping = true →
    ∃ t, exec .tamperWipeComplete s = .next t ∧ t.custody.wiping = false)
  ∧ (∀ s : State, s.custody.recordDue = true → s.flashBusy = false → s.crerus.alive = true →
    ∃ t, exec .tamperJournalRecord s = .next t ∧ t.custody.recordDue = false ∧ t.vrec.length = s.vrec.length + 1)
  ∧ (∀ (again : Bool) (s : State), s.custody.esStopped = false → s.domLive 11 = true →
    ∃ t, exec (.entropyHealthFailure again) s = .next t ∧ t.custody.esFail = true
      ∧ t.custody.esFails = (if again then s.custody.esFails + 1 else 1)
      ∧ (t.custody.esStopped = true ↔ 3 ≤ t.custody.esFails) ∧ (3 ≤ t.custody.esFails → t.bit R.HLT_CAUSE 10 = true))

/-! ### Flash (chapter 18) -/

/-- R395, R396: the arm word arms the sequence of its requester; a command without it lapses with code 5, and one that
no check refuses starts its operation; the operation's end erases and programs, or leaves the places open. Where a
clause follows a choice of the model, log entry 54 says so. -/
def Obligations.FlashCommands : Prop :=
  (∀ (q : Who) (s : State), s.on 2 = true → q.req ≠ .dma →
    ∃ t, exec (.flashArm q 0xF1A5) s = .next t ∧ t.get R.FLC_STAT_ARMED = 1 ∧ t.seq.flc = some q.req)
  ∧ (∀ (q : Who) (v : Word) (s : State), s.on 2 = true → v ≠ 0xF1A5 →
    exec (.flashArm q v) s = .next (s.reply q.req .ok 0))
  ∧ (∀ (q : Who) (i : Instr) (s : State), i = .flashProgram q ∨ i = .flashErase q ∨ i = .flashBadcmd q true ∨ i = .flashBadcmd q false →
    s.on 2 = true → s.seq.flc ≠ some q.req →
    ∃ t, exec i s = .next t ∧ t.get R.FLC_STAT_CMDSTAT = 5 ∧ t.get R.FLC_STAT_ARMED = 0 ∧ t.seq.flc = none
      ∧ t.flag R.FLC_STAT_DONE = true ∧ t.flag R.FLC_STAT_ERR = true ∧ t.mem = s.mem)
  ∧ (∀ (q : Who) (s : State), s.on 2 = true → s.seq.flc = some q.req →
    let a := s.get R.FLC_ADDR
    (s.flcCheck q 1 a = none → ∃ t, exec (.flashProgram q) s = .next t
      ∧ t.flash.op0 = some { strand := true, prog := [(a, s.flcData)] } ∧ t.get R.FLC_STAT_BUSY0 = 1
      ∧ t.get R.FLC_STAT_STRANDOP = 1 ∧ t.get R.FLC_STAT_CMDSTAT = 0xFF ∧ t.mem = s.mem)
    ∧ (s.flcCheck q 2 a = none → ∃ t, exec (.flashErase q) s = .next t
      ∧ t.flash.op0 = some { strand := true, erase := [sectorOf a] } ∧ t.get R.FLC_STAT_BUSY0 = 1
      ∧ t.get R.FLC_STAT_CMDSTAT = 0xFF ∧ t.mem = s.mem)
    ∧ (∀ three, ∃ t, exec (.flashBadcmd q three) s = .next t ∧ t.get R.FLC_STAT_CMDSTAT = 8 ∧ t.flag R.FLC_STAT_ERR = true
      ∧ t.flash = s.flash ∧ t.mem = s.mem)
    ∧ ∀ c, c < 256 → s.flcCheck q 1 a = some c → ∃ t, exec (.flashProgram q) s = .next t ∧ t.get R.FLC_STAT_CMDSTAT = c
        ∧ t.flag R.FLC_STAT_DONE = true ∧ t.mem = s.mem)
  ∧ (∀ (s : State), s.seq.flc.isSome = true →
    ∃ t, exec .flashSequenceLapse s = .next t ∧ t.get R.FLC_STAT_CMDSTAT = 5 ∧ t.get R.FLC_STAT_ARMED = 0 ∧ t.seq.flc = none
      ∧ t.mem = s.mem)
  ∧ (∀ (a : Nat) (l : List Nat) (s : State), s.Kept → s.flash.op0 = some { strand := true, prog := [(a, l)] } →
    ∃ t : State, exec (.flashOperationComplete 0 true) s = .next t.resetDue ∧ t.flash.op0 = none ∧ t.get R.FLC_STAT_BUSY0 = 0
      ∧ t.get R.FLC_STAT_CMDSTAT = 0 ∧ t.flag R.FLC_STAT_DONE = true
      ∧ t.rdBytes a l.length = l.map (· % 256)
      ∧ ∀ x, x < a ∨ a + l.length ≤ x → t.byte x = s.byte x)
  ∧ (∀ (a n : Nat) (s : State), s.Kept → s.flash.op0 = some { strand := true, erase := [(a, n)] } →
    ∃ t : State, exec (.flashOperationComplete 0 true) s = .next t.resetDue ∧ t.get R.FLC_STAT_CMDSTAT = 0
      ∧ ∀ x, (a ≤ x → x < a + n → t.byte x = memDefault x) ∧ (x < a ∨ a + n ≤ x → t.byte x = s.byte x))

/-! ### Life cycle and fuses (chapter 19) -/

/-- R432: the two key words in a row unlock the requester, any other word ends its pair, and so does the time; R420 to
R424, R430: a request, a scrap and a fuse command act under the unlock they use up, and the steps of a transition and
of a fuse program end as their rules say. Where a clause follows a choice of the model, log entry 60 says so. -/
def Obligations.LifeCycle : Prop :=
  (∀ (q : Who) (s : State), q.req ≠ .dma → s.on 0 = true →
    ∃ t, exec (.sysKeyWrite q 0xA5) s = .next t ∧ q.req ∈ t.key.first ∧ t.key.unlocked = s.key.unlocked
      ∧ OnlyIn [.key, .resp] s t
      ∧ ∃ u, exec (.sysKeyWrite q 0x5A) t = .next u ∧ q.req ∈ u.key.unlocked ∧ q.req ∉ u.key.first)
  ∧ (∀ (q : Who) (s : State), q.req ≠ .dma → s.on 0 = true → q.req ∉ s.key.first →
    ∃ t, exec (.sysKeyWrite q 0x5A) s = .next t ∧ t.key.unlocked = s.key.unlocked)
  ∧ (∀ (q : Req) (s : State),
    ∃ t, exec (.sysKeyUnlockExpiry q) s = .next t ∧ q ∉ t.key.first ∧ q ∉ t.key.unlocked ∧ OnlyIn [.key] s t)
  ∧ (∀ (q : Who) (v : Word) (s : State), s.on 0 = true → q.req ∈ s.key.unlocked →
    let x := v.toNat % 16
    (∀ c, c < 2 ^ 16 → s.lcRefusal x false = some c → ∃ t, exec (.lcRequest q v) s = .next t ∧ t.get R.LCS_RSTAT = c
      ∧ q.req ∉ t.key.unlocked ∧ ∀ w : Fin 8, t.get (R.LCS_TOKEN w) = 0)
    ∧ (s.lcRefusal x false = none → x ≠ 2 → x ≠ 5 → ∀ n, s.lcSlot x = some n →
        ∃ t, exec (.lcRequest q v) s = .next t ∧ t.get R.LCS_PROG_INPROG = 1 ∧ t.get R.LCS_PROG_SLOT = n % 32
          ∧ t.get R.LCS_PROG_STEP = 1 ∧ (∀ c : Fin 3, (t.coreAt c).run = .held) ∧ ∀ w : Fin 8, t.get (R.LCS_TOKEN w) = 0)
    ∧ (s.lcRefusal x false = none → (x = 2 ∨ x = 5) → s.tokenGood x s.tokenRegs = false ∨ 3 ≤ s.get R.LCS_TOKFAIL →
        ∃ t, exec (.lcRequest q v) s = .next t ∧ t.get R.LCS_RSTAT = 0x13 ∧ t.get R.LCS_PROG_INPROG = s.get R.LCS_PROG_INPROG
          ∧ (s.get R.LCS_TOKFAIL < 3 → t.get R.LCS_TOKFAIL = s.get R.LCS_TOKFAIL + 1)
          ∧ ∀ w : Fin 8, t.get (R.LCS_TOKEN w) = 0))
  ∧ (∀ (q : Who) (v : Word) (s : State), s.on 0 = true → q.req ∉ s.key.unlocked →
    exec (.lcRequest q v) s = .next ((s.reply q.req .ok 0).lockViolation q 0 0x1C008))
  ∧ (∀ (q : Who) (c : Nat) (s : State), s.on 0 = true → q.sealedW = true → kickCore q.req = some c →
    (s.seq.scrap ≠ some q.req → ∃ t, exec (.lcScrapArm q) s = .next t ∧ t.seq.scrap = some q.req ∧ OnlyIn [.seq, .resp] s t)
    ∧ (s.seq.scrap = some q.req → ∀ v : Word, v.toNat ≠ s.get (R.SYS_DEVID 0) →
        ∃ t, exec (.lcScrapConfirm q v) s = .next t ∧ t.seq.scrap = none ∧ OnlyIn [.seq, .resp] s t)
    ∧ (s.seq.scrap = some q.req → ∀ v : Word, v.toNat = s.get (R.SYS_DEVID 0) → s.lcRefusal 7 true = none →
        ∀ n, s.lcSlot 7 = some n → ∃ t, exec (.lcScrapConfirm q v) s = .next t ∧ t.get R.LCS_PROG_INPROG = 1
          ∧ t.get R.LCS_PROG_SLOT = n % 32))
  ∧ (∀ s : State, ∃ t, exec .lcScrapTimeout s = .next t ∧ t.seq.scrap = none ∧ OnlyIn [.seq] s t)
  ∧ (∀ (q : Who) (s : State), s.on 0 = true → q.req ∈ s.key.unlocked → s.flag R.LCS_FSTAT_BUSY = false →
    s.flag R.LCS_PROG_INPROG = false → s.rowLocked (s.get R.LCS_FADDR) = false →
    let r := s.get R.LCS_FADDR
    (s.rowAllowed q 1 r = true → ∃ t, exec (.fuseProgram q) s = .next t ∧ t.get R.LCS_FSTAT_BUSY = 1
      ∧ t.lc.fuse = some (r, s.get R.LCS_FDATA) ∧ t.fuse = s.fuse)
    ∧ (s.rowAllowed q 2 r = true → ∃ t, exec (.fuseLockrow q) s = .next t ∧ t.get R.LCS_FSTAT_BUSY = 1
      ∧ t.lc.fuse = some (215 + r / 32, 2 ^ (r % 32)) ∧ t.fuse = s.fuse)
    ∧ (s.rowAllowed q 1 r = false → ∃ t, exec (.fuseProgram q) s = .next t ∧ t.get R.LCS_FSTAT_STATUS = 0x13
      ∧ t.lc.fuse = s.lc.fuse))
  ∧ (∀ (r : Fin 256) (bits : Nat) (s : State), s.lc.fuse = some (r.val, bits) →
    ∃ t, exec (.fuseProgramDone 0) s = .next t ∧ t.fuse.at r = s.fuse.at r ||| BitVec.ofNat 32 bits
      ∧ (∀ k : Fin 256, k ≠ r → t.fuse.at k = s.fuse.at k) ∧ t.get R.LCS_FSTAT_BUSY = 0 ∧ t.get R.LCS_FSTAT_STATUS = 0
      ∧ t.lc.fuse = none)
  ∧ (∀ (n : Nat) (s : State), s.lc.slot = some n → s.lc.step < lcSteps n →
    ∃ t, exec .lcTransitionStepDone s = .next t ∧ t.lc.step = s.lc.step + 1 ∧ t.lc.slot = some n
      ∧ t.get R.LCS_PROG_STEP = (s.lc.step + 1) % 16)
  ∧ (∀ (n : Nat) (s : State), s.lc.slot = some n → lcSteps n ≤ s.lc.step →
    ∃ u : State, exec .lcTransitionStepDone s = .next (u.askReset 8) ∧ u.lc.slot = none)

/-! ### Clocks (chapter 21) -/

/-- R462, R463, R465 to R468, R472: a window end publishes the deviations its counts give, truncated and saturated,
with the selected reference at 0 and a free value for a reference that gave no cycle; with no estimate the selected
reference and the PLL's mode stay, with FAULT and NOMAJ; a qualified estimate at a second window end outside the
hold-off is switched to. A lost reference is marked, and left at once where it was selected. The loss of lock goes
through RELOCK, whose time-out counts as a loss; the end of the hold-off lets switches count again. Where a clause
follows a choice of the model, log entry 61 says so. -/
def Obligations.ClockMonitor : Prop :=
  (∀ (nx nw nr nt : Nat) (good : BitVec 3) (s : State),
    let u := (List.range 3).foldl (fun (s : State) r => if good.toNat.testBit r then s.set (lostFlag r) 0 else s)
      ((((s.clkPut 0 nx).clkPut 1 nw).clkPut 2 nr).clkPut 3 nt)
    ∃ t, exec (.clockMonitorWindowEnd nx nw nr nt good) s = .next t
      ∧ (∀ r n, (r, n) ∈ [(0, nx), (1, nw), (2, nr), (3, nt)] →
          (r = s.get R.CLK_STAT_ACTIVE → t.get (clkDevReg r) = 0)
          ∧ (r ≠ s.get R.CLK_STAT_ACTIVE → n ≠ 0 → t.gets (clkDevReg r) =
              max (-32767) (min 32767 ((2 ^ 20 * ((1500000 : Int) - n)).fdiv n))))
      ∧ (∀ r, r < 3 → good.toNat.testBit r = true → t.flag (lostFlag r) = false)
      ∧ (u.clkEstimate = none →
          t.flag R.CLK_STAT_FAULT = true ∧ t.flag R.CLK_STAT_NOMAJ = true ∧ t.bit R.HLT_CAUSE 3 = true
          ∧ t.get R.CLK_STAT_ACTIVE = s.get R.CLK_STAT_ACTIVE ∧ t.get R.CLK_STAT_LOCK = s.get R.CLK_STAT_LOCK
          ∧ t.get R.CLK_STAT_HOLDOVER = s.get R.CLK_STAT_HOLDOVER ∧ t.get R.CLK_STAT_RELOCK = s.get R.CLK_STAT_RELOCK)
      ∧ (∀ e th, u.clkEstimate = some (e, some th) → t.flag R.CLK_STAT_NOMAJ = false
          ∧ (s.get R.CLK_WIN_INNER < (u.clkDev e).natAbs → t.flag R.CLK_STAT_INNER = true)
          ∧ (s.flag R.CLK_CFG_SWEN = true → th < (u.clkDev e).natAbs → s.clk.prev.isSome = true →
              (s.clk.holdoff = false → t.get R.CLK_STAT_ACTIVE = e ∧ t.flag R.CLK_STAT_RELOCK = true
                ∧ t.flag R.CLK_STAT_LOCK = false ∧ t.flag R.CLK_STAT_SWITCHED = true ∧ t.clk.holdoff = true
                ∧ t.get R.CLK_LASTSW = s.time.tb.toNat % 2 ^ 32
                ∧ t.get R.CLK_SWCNT = min 255 (s.get R.CLK_SWCNT + 1))
              ∧ (s.clk.holdoff = true → t.get R.CLK_STAT_ACTIVE = s.get R.CLK_STAT_ACTIVE
                ∧ t.flag R.CLK_STAT_HELD = true))))
  ∧ (∀ (r : Fin 3) (s : State), r ≠ 2 →
    ∃ t, exec (.clockReferenceLost r) s = .next t ∧ t.flag (lostFlag r) = true ∧ t.flag R.CLK_STAT_LOST = true
      ∧ (s.get R.CLK_STAT_ACTIVE ≠ r.val → t.get R.CLK_STAT_ACTIVE = s.get R.CLK_STAT_ACTIVE
          ∧ t.get R.CLK_STAT_LOCK = s.get R.CLK_STAT_LOCK ∧ t.clk = s.clk)
      ∧ (s.get R.CLK_STAT_ACTIVE = r.val → t.get R.CLK_STAT_ACTIVE ≠ r.val ∧ t.flag R.CLK_STAT_RELOCK = true
          ∧ t.flag R.CLK_STAT_LOCK = false ∧ t.flag R.CLK_STAT_SWITCHED = true ∧ t.clk.holdoff = true))
  ∧ (∀ s : State, exec (.clockReferenceLost 2) s = .next s)
  ∧ (∀ s : State, s.flag R.CLK_STAT_RELOCK = true →
    ∃ t, exec .pllRelockDone s = .next t ∧ t.flag R.CLK_STAT_RELOCK = false ∧ t.flag R.CLK_STAT_LOCK = true
      ∧ OnlyIn [.clk, .pd 0] s t ∧ RegsOnly (fun f => f = R.CLK_STAT_RELOCK ∨ f = R.CLK_STAT_LOCK) s t)
  ∧ (∀ s : State, s.flag R.CLK_STAT_LOCK = true → s.clkAvail (s.get R.CLK_STAT_ACTIVE) = true → s.on 6 = true →
    ∃ t, exec .pllLockLoss s = .next t ∧ t.flag R.CLK_STAT_LOCK = false ∧ t.flag R.CLK_STAT_RELOCK = true
      ∧ t.flag R.CLK_STAT_PLLERR = true ∧ t.flag (R.ICU_STS_PEND 187) = true
      ∧ t.get R.CLK_STAT_ACTIVE = s.get R.CLK_STAT_ACTIVE
      ∧ exec .pllRelockTimeout t = .next (t.clkLost (s.get R.CLK_STAT_ACTIVE)))
  ∧ (∀ s : State, ∃ t, exec .clockHoldoffEnd s = .next t ∧ t.clk = { s.clk with holdoff := false, prev := none }
      ∧ OnlyIn [.clk] s t)

/-! ### Power (chapter 22) -/

/-- R478, R479, R481, R492, Tables 22.2 and 22.3: a drained domain takes the state its quiesce names and, in
retention, keeps its registers; a domain that comes up from retention keeps them too; an unplanned loss puts the
domain into FAULT and is recorded, and the sequencer switches it on again unless it is the third; firmware switches
PD7, PD11 and banks of system SRAM, whose contents are lost, and PD7 is refused while the governor is active. R384:
PD0, on VBAT, that falls below its threshold as well is off. Where a clause follows a choice of the model, log entry 53 says so. -/
def Obligations.PowerDomains : Prop :=
  (∀ (d : Fin 12) (st : Nat) (s : State), s.pwr.quiet.find? (fun x => decide (x.1 = d.val)) = some (d.val, st) →
    (s.draining d = true → exec (.domainQuiesceComplete d) s = .next s)
    ∧ (s.draining d = false → s.asleep = false → s.flag R.PWR_STATE_ENTRY = false →
        exec (.domainQuiesceComplete d) s = .next (s.goDown d st).bringUp))
  ∧ (∀ (d : Fin 12) (s : State), d ≠ 6 → d ≠ 8 → d ≠ 9 →
    let t := s.goDown d 1
    t.get (R.PWR_DOM d) = 1 ∧ t.mem = s.mem ∧ d.val ∈ t.pwr.retained
      ∧ ∀ f : Fld, f.pd ≠ 0 → f.pd ≠ 9 → t.get f = s.get f)
  ∧ (∀ (d : Fin 12) (s : State), s.get (R.PWR_DOM d) ≠ 2 → exec (.domainPowerUpComplete d) s = .next s)
  ∧ (∀ (d : Fin 12) (s : State), s.get (R.PWR_DOM d) = 2 → d.val ∈ s.pwr.retained → d ≠ 11 →
    ∃ t, exec (.domainPowerUpComplete d) s = .next t ∧ t.on d = true ∧ d.val ∉ t.pwr.retained ∧ t.mem = s.mem
      ∧ ∀ f : Fld, f.pd ≠ 0 → f.pd ≠ 9 → t.get f = s.get f)
  ∧ (∀ (d : Fin 12) (s : State), (d = 10 ∨ d = 11) → s.domLive d = true →
    ∃ t, exec (.domainUnplannedLoss (BitVec.ofNat 12 (2 ^ d.val))) s = .next t ∧ t.get (R.PWR_DOM d) = 5
      ∧ t.bit R.PWR_FAULT_LOST d = true ∧ t.get R.PWR_FAULT_LAST = d.val ∧ t.pwr.losses = d.val :: s.pwr.losses)
  ∧ (∀ s : State, s.flag R.TMP_STAT_ONVBAT = true →
    ∃ t, exec (.domainUnplannedLoss 1) s = .next t ∧ t.on 0 = false ∧ RegsOnly (fun f => f = R.PWR_DOM 0) s t ∧ OnlyIn [.pd 0] s t)
  ∧ (∀ (d : Fin 12) (s : State), s.get (R.PWR_DOM d) = 5 → s.pwr.losses.count d.val < 3 → (requires d).all s.on = true →
    ∃ t, exec (.domainRestart d) s = .next t ∧ t.get (R.PWR_DOM d) = 2)
  ∧ (∀ (d : Fin 12) (s : State), 3 ≤ s.pwr.losses.count d.val → exec (.domainRestart d) s = .next s)
  ∧ (∀ (q : Who) (v : Word) (s : State), s.on 0 = true → s.flag R.PWR_DOMREQ_PD7OFF = false → v.toNat.testBit 0 = true →
    v.toNat.testBit 1 = s.flag R.PWR_DOMREQ_PD11OFF →
    (s.govActive = true → ∃ t, exec (.pd7PowerRequest q v) s = .next t ∧ t.flag R.PWR_DOMREQ_PD7OFF = false
        ∧ t.flag R.PWR_DOMREQ_REQERR = true ∧ t.get (R.PWR_DOM 7) = s.get (R.PWR_DOM 7) ∧ OnlyIn [.resp, .pd 0] s t)
    ∧ (s.govActive = false → s.on 7 = true → ∃ u : State, exec (.pd7PowerRequest q v) s = .next (u.quiesce 7 0)
        ∧ u.flag R.PWR_DOMREQ_PD7OFF = true ∧ OnlyIn [.resp, .pd 0] s u ∧ (u.quiesce 7 0).pwr.quiet = s.pwr.quiet ++ [(7, 0)]))
  ∧ (∀ (q : Who) (v : Word) (s : State), s.on 0 = true → s.flag R.PWR_DOMREQ_PD11OFF = false → v.toNat.testBit 1 = true →
    v.toNat.testBit 0 = s.flag R.PWR_DOMREQ_PD7OFF → s.on 11 = true →
    ∃ t, exec (.pd11PowerRequest q v) s = .next t ∧ t.flag R.PWR_DOMREQ_PD11OFF = true ∧ t.get (R.PWR_DOM 11) = 4
      ∧ t.pwr.quiet = s.pwr.quiet ++ [(11, 0)])
  ∧ (∀ (q : Who) (v : Word) (s : State), s.on 0 = true → s.flag R.PWR_DOMREQ_PD11OFF = true → v.toNat.testBit 1 = false →
    v.toNat.testBit 0 = s.flag R.PWR_DOMREQ_PD7OFF → s.on 1 = true → s.get (R.PWR_DOM 11) = 0 →
    ∃ t, exec (.pd11PowerRequest q v) s = .next t ∧ t.flag R.PWR_DOMREQ_PD11OFF = false ∧ t.get (R.PWR_DOM 11) = 2)
  ∧ (∀ (q : Who) (v : Word) (s : State), s.on 0 = true →
    ∃ t, exec (.sramBankPowerRequest q v) s = .next t ∧ t.get R.PWR_SRAM_OFF = v.toNat / 2 ^ 8 % 16
      ∧ t.get R.PWR_SRAM_RET = v.toNat % 16 ∧ OnlyIn [.resp, .mem, .pd 0] s t
      ∧ (∀ b, b < 4 → v.toNat.testBit (8 + b) = true →
          ∀ i, i < 0x40000 → t.byte (sramBase + 0x40000 * b + i) = memDefault (sramBase + 0x40000 * b + i))
      ∧ (∀ a, (∀ b, b < 4 → v.toNat.testBit (8 + b) = true →
          ¬ (sramBase + 0x40000 * b ≤ a ∧ a < sramBase + 0x40000 * (b + 1))) → t.byte a = s.byte a))

/-- R480, R483 to R488, R491, R493: a reply whose requester is not ON is discarded and counted; a request for the
present state is done at once, one that conflicts is refused with BUSY, and one for HOLD or SLEEP begins an entry;
PWR_ACK acknowledges a stop, the time-out forces one, the entry goes on once every core has stopped, a wake event
begins the exit or is latched, and its end frees the cores; without the main supply every domain but PD0 is OFF. Where
a clause follows a choice of the model, log entry 52 says so. -/
def Obligations.PowerStates : Prop :=
  (∀ (j : Job) (st : Nat) (pay : List Nat) (s : State),
    (∀ n, j.src = .host n → s.on 10 = false → s.answerJob j st pay = s.inc R.PWR_LOSTREPLY)
    ∧ (∀ b, j.src = .loc b → s.on 1 = false → s.answerJob j st pay = s.inc R.PWR_LOSTREPLY)
    ∧ (∀ m x, j.src = .warp m x → s.on 9 = false → s.answerJob j st pay = s.inc R.PWR_LOSTREPLY)
    ∧ (∀ n, j.src = .host n → s.on 10 = true → s.answerJob j st pay = s.putHost n (j.replyMsg st pay))
    ∧ (∀ b, j.src = .loc b → s.on 1 = true → s.answerJob j st pay = s.replyLocal b (j.replyMsg st pay))
    ∧ (∀ m x, j.src = .warp m x → s.on 9 = true → s.answerJob j st pay =
        s.openSend { xid := x, dst := m, bytes := j.replyMsg st pay, reply := true })
    ∧ (s.inc R.PWR_LOSTREPLY).get R.PWR_LOSTREPLY = min 0xFFFF (s.get R.PWR_LOSTREPLY + 1))
  ∧ (∀ (j : Job) (s : State), s.Serves j → j.verb = 5 → j.noun = 0x100 →
    (s.get R.PWR_STATE_PSTATE = j.md → exec .doPowerState s = .next (s.finish j 0 []))
    ∧ (s.get R.PWR_STATE_PSTATE ≠ j.md → s.powerBusy j.md = true → exec .doPowerState s = .next (s.finish j 0x20 []))
    ∧ (s.get R.PWR_STATE_PSTATE ≠ j.md → s.powerBusy j.md = false → (j.md = 2 ∨ j.md = 3) →
        ∃ t, exec .doPowerState s = .next t ∧ t.flag R.PWR_STATE_ENTRY = true ∧ t.pwr.entry = some j.md
          ∧ t.pwr.job = some j.id ∧ { j with wait := .power j.md } ∈ t.crerus.susp))
  ∧ (∀ (q : Who) (v : Word) (s : State), s.on 0 = true →
    ∃ t, exec (.powerAckReady q v) s = .next t ∧ t.get R.PWR_ACK = (s.get R.PWR_ACK ||| v.toNat % 8) % 8
      ∧ OnlyIn [.resp, .pd 0] s t ∧ RegsOnly (fun f => f = R.PWR_ACK) s t)
  ∧ (∀ (c : Fin 3) (s : State), s.flag R.PWR_STATE_ENTRY = true → s.coreExists c = true →
    ((s.coreAt c).run = .issuing ∨ (s.coreAt c).run = .wfi) → s.bit R.DBG_STAT_HALTED c = false →
    (s.haltLocked c = true ∨ (s.coreAt c).mustWait = true → exec (.powerForcedStopTimeout c) s = .next s)
    ∧ (s.haltLocked c = false → (s.coreAt c).mustWait = false → (c = 0 → s.wld.saved = none) →
        ∃ t, exec (.powerForcedStopTimeout c) s = .next t ∧ CoreOnly c s t ∧ (t.coreAt c).run = .stopped
          ∧ (t.coreAt c).pc = (s.coreAt c).pc ∧ (s.coreAt c).KeepsRegs (t.coreAt c)))
  ∧ (∀ (st : Nat) (s : State), s.pwr.entry = some st →
    (s.coresStopped = false ∨ s.plyBusy = true → exec .powerEntryContinue s = .next s)
    ∧ (s.coresStopped = true → s.plyBusy = false → (∀ d ∈ [3, 4, 5, 11], s.domLive d = false) → s.served = true → s.jrnlClean = true →
        s.flashBusy = false → s.on 1 = true → (st = 2 ∨ st = 3) →
        ∃ t, exec .powerEntryContinue s = .next t ∧ t.get R.PWR_STATE_PSTATE = st ∧ t.flag R.PWR_STATE_ENTRY = false
          ∧ t.pwr.entry = none ∧ t.get (R.PWR_DOM 1) = 4 ∧ t.get R.PWR_ACK = 0
          ∧ t.get (if st = 3 then R.PWR_ENTRIES_SLEEP else R.PWR_ENTRIES_HOLD) =
              min 0xFFFF (s.get (if st = 3 then R.PWR_ENTRIES_SLEEP else R.PWR_ENTRIES_HOLD) + 1)))
  ∧ (∀ (n : Fin 224) (s : State), s.sourceWakes n = true → s.asleep = true → s.flag R.PWR_STATE_EXIT = false →
    (s.pwr.quiet = [] → ∃ t, exec (.powerWake n) s = .next t ∧ t.flag R.PWR_STATE_EXIT = true
        ∧ t.get R.PWR_STATE_WAKESRC = 1 ∧ t.get R.PWR_WAKEINFO = n.val)
    ∧ (s.pwr.quiet ≠ [] → s.pwr.wake = none →
        ∃ t, exec (.powerWake n) s = .next t ∧ t.pwr.wake = some (1, n.val) ∧ OnlyIn [.pwr] s t))
  ∧ (∀ s : State, s.flag R.PWR_STATE_EXIT = true → s.allUp = true → s.get R.PWR_STATE_PSTATE ≠ 3 → s.on 6 = true →
    ∃ t, exec .powerExitComplete s = .next t ∧ t.get R.PWR_STATE_PSTATE = 0 ∧ t.flag R.PWR_STATE_EXIT = false
      ∧ t.get R.PWR_ACK = 0 ∧ t.flag (R.ICU_STS_PEND 145) = true
      ∧ ∀ c : Fin 3, (t.coreAt c).run = if (s.coreAt c).run = .stopped then .issuing else (s.coreAt c).run)
  ∧ (∀ s : State, s.flag R.TMP_STAT_ONVBAT = false →
    ∃ t, exec .mainSupplyLoss s = .next t ∧ (∀ d : Fin 12, d ≠ 0 → t.get (R.PWR_DOM d) = 0)
      ∧ (∀ a, sramBase ≤ a → a < sramEnd → t.byte a = memDefault a)
      ∧ ∀ c : Fin 3, (t.coreAt c).run = .held)

/-! ### Reset and boot (chapter 23) -/

/-- R499, R500, R521, Table 23.1: a power-on that finds PD0 without power resets everything but the fuses and the
flash; every other cause is a SYS reset, which records itself, keeps the registers of reset domain AON, the fuses, the
pad latches and the flash, leaves every domain but PD0 off, and keeps system SRAM unless a supply failed. The software
reset wants its key, is none to DMA, and waits for a flash operation. R183, R411, R424, R503, R504, R510: the release
of a reset records the causes, leaves the PWM balls at the fused safe state after a power-on, and boots: through every
step, or to the resumed life-cycle transition, or on a scrapped part to the mailbox alone. A released Ply fault
restarts the Ply in the boot mode with no core halted and PLY_MODE.TARGET as it was; a retired strand that stands
alone stays held. Where a clause follows a choice of the model, log entries 41 and 42 say so. -/
def Obligations.ResetsAndBoot : Prop :=
  (∀ s : State, s.flag R.TMP_STAT_ONVBAT = false ∨ s.on 0 = false →
    ∃ t, exec .powerOnReset s = .next t ∧ t.rst = { asserted := true, aon := true, causes := [0], waiting := [] }
      ∧ t.fuse = s.fuse ∧ t.crerus = {} ∧ t.custody = { recordDue := true } ∧ t.time = {}
      ∧ (∀ f : Fld, t.get f = if f = R.PWR_DOM 0 then 3 else if f = R.WRP_STAT_BYPASS then 1 else f.rst.value)
      ∧ (s.flash.op0 = none → s.flash.op1 = none →
          ∀ a, 0x10000000 ≤ a → a < 0x10800000 → t.byte a = s.byte a))
  ∧ (∀ s : State, s.flag R.TMP_STAT_ONVBAT = true → s.on 0 = true → s.loomCfg = false →
    ∃ t, exec .powerOnReset s = .next t ∧ t.rst.asserted = true ∧ 0 ∈ t.rst.causes
      ∧ t.flag R.TMP_STAT_ONVBAT = false ∧ t.custody.slots = s.custody.slots ∧ t.fuse = s.fuse ∧ t.pad = s.pad
      ∧ ∀ f : Fld, f.rd = .aon → f ≠ R.TMP_STAT_ONVBAT → f ≠ R.WRP_STAT_BYPASS → t.get f = s.get f)
  ∧ (∀ (i : Instr) (n : Nat) (s : State), ((i, n) = (.resetPin, 6) ∨ ∃ k : Fin 5, (i, n) = (.brownOut k, 1 + k.val)) →
    s.flash.op0 = none → s.flash.op1 = none → s.loomCfg = false →
    ∃ t, exec i s = .next t ∧ t.rst.asserted = true ∧ n ∈ t.rst.causes
      ∧ (∀ d : Fin 12, t.get (R.PWR_DOM d) = if d = 0 then 3 else 0)
      ∧ t.fuse = s.fuse ∧ t.pad = s.pad ∧ t.custody.slots = s.custody.slots
      ∧ (∀ f : Fld, f.rd = .aon → f ≠ R.WRP_STAT_BYPASS → t.get f = s.get f)
      ∧ (∀ a, 0x10000000 ≤ a → a < 0x10800000 → t.byte a = s.byte a)
      ∧ (∀ a, sramBase ≤ a → a < sramEnd → t.byte a = if n = 6 then s.byte a else memDefault a))
  ∧ (∀ (q : Who) (v : Word) (s : State), s.on 0 = true →
    (v = 0x52A7 → q.req ≠ .dma → s.flash.op0 = none → s.flash.op1 = none →
      ∃ t, exec (.softwareReset q v) s = .next t ∧ t.rst.asserted = true ∧ 7 ∈ t.rst.causes)
    ∧ (v = 0x52A7 → q.req ≠ .dma → (s.flash.op0.isSome = true ∨ s.flash.op1.isSome = true) →
        ∃ t, exec (.softwareReset q v) s = .next t ∧ 7 ∈ t.rst.waiting ∧ t.rst.asserted = s.rst.asserted
          ∧ OnlyIn [.resp, .rst] s t)
    ∧ ((v ≠ 0x52A7 ∨ q.req = .dma) → exec (.softwareReset q v) s = .next (s.reply q.req .ok 0)))
  ∧ (∀ (margin : BitVec 16) (b v33 : Bool) (refs : BitVec 3) (s : State),
    (s.rst.asserted = false → exec (.resetRelease margin b v33 refs) s = .next s)
    ∧ (s.rst.asserted = true →
        let u := s.bootStart margin.toNat b
        u.rst = { asserted := false, aon := false, causes := [], waiting := [] }
        ∧ (s.rst.aon = true → ∀ (p : Fin 12) (b : Bool), u.pad.at (2 * p.val + b2n b) = u.fusedLevel p b)
        ∧ (s.rst.aon = false → u.pad = s.pad)
        ∧ u.flag R.RST_CAUSE_AON = s.rst.aon ∧ u.get R.CLK_STAT_ACTIVE = 2 ∧ u.flag R.CLK_STAT_LOCK = true
        ∧ (u.openSlot = none → u.lcState ≠ 7 →
            ∃ t, exec (.resetRelease margin b v33 refs) s = .next t ∧ t.get R.RST_BOOT_STEP = 10)
        ∧ (u.openSlot = none → u.lcState = 7 →
            ∃ t, exec (.resetRelease margin b v33 refs) s = .next t ∧ t.crerus.recovery = true
              ∧ t.get R.RST_BOOT_STEP = 4 ∧ ∀ d : Fin 12, 3 ≤ d.val → d.val ≤ 5 → t.get (R.PWR_DOM d) = u.get (R.PWR_DOM d))
        ∧ (∀ slot, u.openSlot = some slot →
            ∃ t, exec (.resetRelease margin b v33 refs) s = .next t ∧ t.flag R.LCS_PROG_INPROG = true
              ∧ t.flag R.LCS_PROG_RESUMED = true ∧ t.lc.slot = some slot)))
  ∧ (∀ s : State, s.ply.fault = true → s.crerus.alive = true → s.on 1 = true → s.on 6 = true → s.on 8 = true →
    s.strandDead = false →
    ∃ t, exec .plyRestartRelease s = .next t ∧ t.ply.fault = false ∧ t.get R.DBG_STAT_HALTED = 0
      ∧ t.get R.PLY_MODE_TARGET = s.get R.PLY_MODE_TARGET ∧ t.get R.PLY_STATUS_RETIRED = s.get R.PLY_STATUS_RETIRED
      ∧ (∀ c : Fin 3, t.standsAlone c = true → s.get R.PLY_STATUS_RETIRED = c.val → (t.coreAt c).run = .held)
      ∧ t.get R.PLY_MODE_CUR = if s.flag R.PLY_MODE_FORCED ∨ s.get R.PLY_CFG_BOOTMODE = 3 then 0 else s.get R.PLY_CFG_BOOTMODE % 4)

/-! ### GPIO, UART and I²C (chapter 24) -/

/-- R522, R524 to R526, R546: an input event shows the levels, sets the event bit and raises the source of each ball
whose edge is selected, and the decoder counts an edge of A or B; OUTSET and OUTCLR change the named bits alone; a
write of a mux register or of the encoder count stores its fields. What the part then drives onto its balls reaches
the trip extensions that GTZEN opens, and nothing where it opens none. Where a clause follows a choice of the model,
log entry 63 says so. -/
def Obligations.GpioBalls : Prop :=
  (∀ (lv : BitVec 16) (s : State), s.on 10 = true → s.on 6 = true →
    ∃ t, exec (.gpioInputEvent lv) s = .next t ∧ t.get R.GPIO_IN = lv.toNat
      ∧ (∀ n : Fin 16, (s.get R.GPIO_IN).testBit n ≠ lv.toNat.testBit n →
          irqSelects (s.get (R.GPIO_MUX_IRQEDGE n)) (lv.toNat.testBit n) = true →
          t.bit R.GPIO_EVT n = true ∧ t.flag (R.ICU_STS_PEND (170 + n)) = true)
      ∧ (s.encRuns = false → t.get R.GPIO_ENCCNT = s.get R.GPIO_ENCCNT)
      ∧ (s.encRuns = true → s.flag R.GPIO_ENCCFG_MODE = false → s.flag R.GPIO_ENCCFG_IDXCLR = false →
          t.get R.GPIO_ENCCNT = ux 32 (s.get R.GPIO_ENCCNT + s.encStep (s.get R.GPIO_IN) lv.toNat)))
  ∧ (∀ (q : Who) (v : Word) (s : State), s.on 10 = true →
    (∃ u : State, exec (.gpioOutputSet q v) s = .next (fireAll u.drivenTrips) ∧ OnlyIn [.resp, .pd 10] s u
      ∧ RegsOnly (fun f => f = R.GPIO_OUT) s u
      ∧ ∀ n : Fin 16, u.bit R.GPIO_OUT n = (s.bit R.GPIO_OUT n || v.toNat.testBit n))
    ∧ ∃ u : State, exec (.gpioOutputClear q v) s = .next (fireAll u.drivenTrips) ∧ OnlyIn [.resp, .pd 10] s u
      ∧ RegsOnly (fun f => f = R.GPIO_OUT) s u
      ∧ ∀ n : Fin 16, u.bit R.GPIO_OUT n = (s.bit R.GPIO_OUT n && !v.toNat.testBit n))
  ∧ (∀ (q : Who) (n : Fin 16) (v : Word) (s : State), s.on 10 = true →
    ∃ t : State, exec (.gpioMuxWrite q n v) s = .next (fireAll t.drivenTrips) ∧ OnlyIn [.resp, .pd 10] s t
      ∧ t.get (R.GPIO_MUX_FUNC n) = v.toNat % 4 ∧ t.get (R.GPIO_MUX_PULL n) = v.toNat / 2 ^ 4 % 4
      ∧ t.get (R.GPIO_MUX_DS n) = v.toNat / 2 ^ 8 % 2 ∧ t.get (R.GPIO_MUX_OD n) = v.toNat / 2 ^ 10 % 2
      ∧ t.get (R.GPIO_MUX_FILT n) = v.toNat / 2 ^ 12 % 16 ∧ t.get (R.GPIO_MUX_IRQEDGE n) = v.toNat / 2 ^ 16 % 4
      ∧ ∀ f : Fld, f.addr ≠ 0x17000 + 4 * n.val → t.get f = s.get f)
  ∧ (∀ s : State, s.on 6 = false ∨ s.get R.TRP_TZCFG_GTZEN = 0 → fireAll s.drivenTrips = s)
  ∧ (∀ (q : Who) (v : Word) (s : State), s.on 10 = true →
    ∃ t, exec (.encoderCountWrite q v) s = .next t ∧ OnlyIn [.resp, .pd 10] s t ∧ t.get R.GPIO_ENCCNT = v.toNat
      ∧ RegsOnly (fun f => f = R.GPIO_ENCCNT) s t)

/-- R528 to R530: the transmit FIFO takes 16 characters and drops one more with TXOVR; characters go out in order; a
received character is pushed with its parity and framing flags, or lost with RXOVR; a break of all zeros sets BREAK; a
read of RXDATA answers the oldest character and removes it. Where a clause follows a choice of the model, log entry 63
says so. -/
def Obligations.UartCharacters : Prop :=
  (∀ (q : Who) (v : Word) (s : State), s.on 10 = true →
    (s.uart.tx.length < 16 → ∃ t, exec (.uartTransmitData q v) s = .next t ∧ t.uart.tx = s.uart.tx ++ [v.toNat % 256]
        ∧ t.get R.UART0_STAT_TXLVL = s.uart.tx.length + 1 ∧ t.get R.UART0_STAT_TXIDLE = 0)
    ∧ (16 ≤ s.uart.tx.length → ∃ t, exec (.uartTransmitData q v) s = .next t ∧ t.uart.tx = s.uart.tx
        ∧ t.flag R.UART0_STAT_TXOVR = true))
  ∧ (∀ (c : Nat) (r : List Nat) (s : State), s.on 10 = true → s.flag R.UART0_CTRL_EN = true →
    s.flag R.UART0_CTRL_TXEN = true → s.uart.tx = c :: r →
    ∃ t, exec .uartTransmitCharacter s = .next t ∧ t.uart.tx = r ∧ t.uart.sending = some c
      ∧ t.get R.UART0_STAT_TXLVL = r.length % 32 ∧ t.get R.UART0_STAT_TXIDLE = 0)
  ∧ (∀ s : State, s.uart.sending.isSome = true →
    ∃ t, exec .uartTransmitComplete s = .next t ∧ t.uart.sending = none ∧ t.uart.tx = s.uart.tx
      ∧ t.get R.UART0_STAT_TXIDLE = b2n s.uart.tx.isEmpty)
  ∧ (∀ (d : BitVec 8) (par stop : Bool) (s : State), s.on 10 = true → s.flag R.UART0_CTRL_EN = true →
    s.flag R.UART0_CTRL_RXEN = true →
    (s.uart.rx.length < 16 → ∃ t pe, exec (.uartReceiveCharacter d par stop) s = .next t
        ∧ t.uart.rx = s.uart.rx ++ [(d.toNat, pe, !stop)]
        ∧ pe = (s.flag R.UART0_CTRL_PARITY && decide ((onesOf d.toNat + b2n par) % 2 = 1))
        ∧ (pe = true → t.flag R.UART0_STAT_PERR = true) ∧ (stop = false → t.flag R.UART0_STAT_FERR = true)
        ∧ t.get R.UART0_STAT_RXLVL = s.uart.rx.length + 1)
    ∧ (16 ≤ s.uart.rx.length → ∃ t, exec (.uartReceiveCharacter d par stop) s = .next t ∧ t.uart.rx = s.uart.rx
        ∧ t.flag R.UART0_STAT_RXOVR = true))
  ∧ (∀ s : State, s.uart.brk = true →
    ∃ t, exec .uartBreak s = .next t ∧ t.flag R.UART0_STAT_BREAK = true ∧ t.uart.rx = s.uart.rx)
  ∧ (∀ s : State, s.uart.rx ≠ [] → s.flag R.UART0_IE_RXIE = true → 164 ∉ s.uart.req → s.on 6 = true →
    ∃ t, exec .uartReceiveTimeout s = .next t ∧ t.uart.rx = s.uart.rx ∧ 164 ∈ t.uart.req
      ∧ t.flag (R.ICU_STS_PEND 164) = true)
  ∧ (∀ (q : Who) (s : State), s.on 10 = true →
    ∃ t, exec (.uartReceiveDataRead q) s = .next t ∧ t.uart.rx = s.uart.rx.tail
      ∧ (t.resp.at (reqIdx q.req)) = { code := .ok, data := s.uartHead })

/-- R532, R533: the controller. GO starts a transfer that is not turned away, and is ignored with XERR otherwise; a
byte moves between the FIFO and the bus and counts down XLEFT, and a NACK ends the transfer with STOP; the end of the
transfer, a lost arbitration or a controller that is disabled clears CBUSY with DONE. R531, R534: the target. It
answers its own address and no other; a byte received is pushed, marked where it is the first, and a byte sent leaves
the FIFO; a STOP ends the address match with TSTOP; a stretch at its limit sets TXUND or RXOVR; a read of RXDATA
answers and removes the oldest byte, and a write of TXDATA adds one or sets TXOVR. Where a clause follows a choice of
the model, log entry 63 says so. -/
def Obligations.I2cTransfers : Prop :=
  (∀ (q : Who) (v : Word) (s : State), s.on 10 = true → v.toNat.testBit 31 = true →
    (s.flag R.I2C0_CTRL_CTLEN = true → s.flag R.I2C0_STAT_CBUSY = false →
      ∃ t, exec (.i2cTransferStart q v) s = .next t ∧ t.flag R.I2C0_STAT_CBUSY = true
        ∧ t.get R.I2C0_STAT_XLEFT = v.toNat / 2 ^ 8 % 256 ∧ t.i2c.rd = v.toNat.testBit 7
        ∧ t.i2c.stp = v.toNat.testBit 16 ∧ t.i2c.out = 2 * (v.toNat % 128) + v.toNat / 2 ^ 7 % 2
        ∧ (t.i2c.started = true ↔ s.i2c.free = true ∨ s.flag R.I2C0_STAT_OWNED = true)
        ∧ (t.i2c.started = true → t.flag R.I2C0_STAT_BUSBUSY = true))
    ∧ ((s.flag R.I2C0_CTRL_CTLEN = false ∨ s.flag R.I2C0_STAT_CBUSY = true) →
        ∃ t, exec (.i2cTransferStart q v) s = .next t ∧ t.flag R.I2C0_FLAG_XERR = true ∧ t.i2c = s.i2c
          ∧ RegsOnly (fun f => f = R.I2C0_FLAG_XERR) s t))
  ∧ (∀ (ack : Bool) (d : BitVec 8) (s : State), s.flag R.I2C0_STAT_CBUSY = true → s.i2c.started = true →
    s.i2c.ending = false →
    (s.i2c.addressed = false → ∃ t, exec (.i2cControllerByte ack d) s = .next t ∧ t.i2c.addressed = true
        ∧ (ack = false → t.i2c.ending = true ∧ t.i2c.stp = true ∧ t.flag R.I2C0_FLAG_NACK = true))
    ∧ (s.i2c.addressed = true → s.i2c.rd = true → 0 < s.get R.I2C0_STAT_XLEFT → s.get R.I2C0_STAT_XLEFT < 256 →
        s.i2c.rx.length < 16 → ∃ t, exec (.i2cControllerByte ack d) s = .next t
          ∧ t.i2c.rx = s.i2c.rx ++ [(d.toNat, false)] ∧ t.get R.I2C0_STAT_XLEFT = s.get R.I2C0_STAT_XLEFT - 1)
    ∧ (∀ b r, s.i2c.addressed = true → s.i2c.rd = false → 0 < s.get R.I2C0_STAT_XLEFT → s.get R.I2C0_STAT_XLEFT < 256 →
        s.i2c.tx = b :: r → ∃ t, exec (.i2cControllerByte ack d) s = .next t ∧ t.i2c.tx = r
          ∧ t.get R.I2C0_STAT_XLEFT = s.get R.I2C0_STAT_XLEFT - 1
          ∧ (ack = false → t.i2c.ending = true ∧ t.i2c.stp = true ∧ t.flag R.I2C0_FLAG_NACK = true)))
  ∧ (∀ s : State, s.flag R.I2C0_STAT_CBUSY = true → s.i2c.addressed = true →
    (s.i2c.ending = true ∨ s.get R.I2C0_STAT_XLEFT = 0) →
    ∃ t, exec .i2cTransferComplete s = .next t ∧ t.flag R.I2C0_STAT_CBUSY = false ∧ t.flag R.I2C0_FLAG_DONE = true
      ∧ (s.i2c.stp = true → t.flag R.I2C0_STAT_BUSBUSY = false ∧ t.flag R.I2C0_STAT_OWNED = false ∧ t.i2c.free = true)
      ∧ (s.i2c.stp = false → t.flag R.I2C0_STAT_OWNED = true))
  ∧ (∀ s : State, s.flag R.I2C0_STAT_CBUSY = true → s.i2c.started = true →
    ∃ t, exec .i2cArbitrationLost s = .next t ∧ t.flag R.I2C0_FLAG_ARBLOST = true ∧ t.flag R.I2C0_FLAG_DONE = true
      ∧ t.flag R.I2C0_STAT_CBUSY = false ∧ t.i2c.started = false)
  ∧ (∀ (q : Who) (v : Word) (s : State), s.on 10 = true → v.toNat.testBit 31 = false → s.flag R.I2C0_STAT_CBUSY = true →
    ∃ t, exec (.i2cControllerDisable q v) s = .next t ∧ t.flag R.I2C0_CTRL_CTLEN = false
      ∧ t.flag R.I2C0_STAT_CBUSY = false ∧ t.flag R.I2C0_FLAG_DONE = true
      ∧ (s.i2c.started = true → t.flag R.I2C0_STAT_BUSBUSY = false ∧ t.i2c.free = true))
  ∧ (∀ s : State, s.on 10 = true → s.flag R.I2C0_CTRL_CTLEN = true → s.flag R.I2C0_STAT_CBUSY = true →
    s.i2c.started = false →
    ∃ t, exec .i2cBusFree s = .next t ∧ t.i2c.started = true ∧ t.i2c.free = false ∧ t.flag R.I2C0_STAT_BUSBUSY = true)
  ∧ (∀ s : State, s.on 10 = true →
    ∃ t, exec .i2cStartCondition s = .next t ∧ t.get R.I2C0_STAT_BUSBUSY = 1 ∧ t.i2c = { s.i2c with free := false }
      ∧ OnlyIn [.i2c, .pd 10] s t ∧ RegsOnly (fun f => f = R.I2C0_STAT_BUSBUSY) s t)
  ∧ (∀ (a : BitVec 7) (rd : Bool) (s : State), s.on 10 = true →
    (s.i2cMatches a.toNat = true →
      ∃ t, exec (.i2cTargetAddressed a rd) s = .next t ∧ t.flag R.I2C0_STAT_TADDRM = true
        ∧ t.flag R.I2C0_FLAG_ADDRD = true ∧ t.flag R.I2C0_STAT_TDIR = rd ∧ t.i2c.first = true)
    ∧ (a.toNat ≠ s.get R.I2C0_TADDR → exec (.i2cTargetAddressed a rd) s = .next s))
  ∧ (∀ (ack : Bool) (d : BitVec 8) (s : State), s.flag R.I2C0_STAT_TADDRM = true → s.i2c.silent = false →
    (s.flag R.I2C0_STAT_TDIR = false → s.i2c.rx.length < 16 →
      ∃ t, exec (.i2cTargetByte ack d) s = .next t ∧ t.i2c.rx = s.i2c.rx ++ [(d.toNat, s.i2c.first)] ∧ t.i2c.first = false)
    ∧ (∀ b r, s.flag R.I2C0_STAT_TDIR = true → s.i2c.tx = b :: r →
      ∃ t, exec (.i2cTargetByte ack d) s = .next t ∧ t.i2c.tx = r ∧ t.i2c.silent = !ack))
  ∧ (∀ (again : Bool) (s : State), s.on 10 = true → s.flag R.I2C0_STAT_TADDRM = true →
    ∃ t, exec (.i2cStop again) s = .next t ∧ t.flag R.I2C0_STAT_TADDRM = false ∧ t.flag R.I2C0_FLAG_TSTOP = true)
  ∧ (∀ s : State, s.on 10 = true → s.flag R.I2C0_STAT_CBUSY = false →
    ∃ t, exec (.i2cStop false) s = .next t ∧ t.flag R.I2C0_STAT_BUSBUSY = false ∧ t.i2c.free = true)
  ∧ (∀ s : State, s.flag R.I2C0_STAT_TADDRM = true → s.i2c.silent = false →
    (s.flag R.I2C0_STAT_TDIR = true → s.i2c.tx = [] →
      ∃ t, exec .i2cStretchLimit s = .next t ∧ t.flag R.I2C0_FLAG_TXUND = true)
    ∧ (s.flag R.I2C0_STAT_TDIR = false → 16 ≤ s.i2c.rx.length →
      ∃ t, exec .i2cStretchLimit s = .next t ∧ t.flag R.I2C0_FLAG_RXOVR = true ∧ t.i2c.rx = s.i2c.rx))
  ∧ (∀ (q : Who) (v : Word) (s : State), s.on 10 = true →
    (s.i2c.tx.length < 16 → ∃ t, exec (.i2cTransmitData q v) s = .next t ∧ t.i2c.tx = s.i2c.tx ++ [v.toNat % 256])
    ∧ (16 ≤ s.i2c.tx.length → ∃ t, exec (.i2cTransmitData q v) s = .next t ∧ t.i2c.tx = s.i2c.tx
        ∧ t.flag R.I2C0_FLAG_TXOVR = true))
  ∧ (∀ (q : Who) (s : State), s.on 10 = true →
    ∃ t, exec (.i2cReceiveDataRead q) s = .next t ∧ t.i2c.rx = s.i2c.rx.tail
      ∧ (t.resp.at (reqIdx q.req)) = { code := .ok, data := s.i2cHead })

/-! ### Debug (chapter 20) -/

/-- R435 to R438, R441, R443, R444: a TAP reset selects IDCODE and changes no authority, halt or breakpoint; an
instruction of boundary scan without BSCAN acts as BYPASS; an operation outside the authority is DENIED and a READ
within it answers the bus; in FIELD a new challenge, the certificate's words and SUBMIT lead to a result, which grants
only where every check passes; a grant that ends disables the breakpoints and resumes every halted core. Where a
clause follows a choice of the model, log entry 40 says so. -/
def Obligations.DebugPort : Prop :=
  (∀ (i : Instr) (ir dr : Nat) (s : State),
    (i, ir, dr) ∈ [(.tapReset, 0x02, 0), (.jtagIdcode, 0x02, 0x27144001), (.jtagBypass, 0x1F, 0),
      (.jtagDbgstat, 0x0A, s.dbgStat)] →
    ∃ t, exec i s = .next t ∧ t.dbg = { s.dbg with ir := ir, dr := dr } ∧ OnlyIn [.dbg] s t)
  ∧ (∀ (i : Instr) (ir : Nat) (b : List Bool) (s : State),
    (i, ir) ∈ [(.jtagExtest b, 0x00), (.jtagSamplePreload b, 0x01), (.jtagClamp, 0x03), (.jtagHighz, 0x04)] →
    ∃ t, exec i s = .next t ∧ OnlyIn [.free, .dbg] s t
      ∧ (s.flag R.DBG_AUTH_BSCAN = false → t.dbg = { s.dbg with ir := 0x1F, dr := 0 } ∧ t.free = s.free)
      ∧ (s.flag R.DBG_AUTH_BSCAN = true → t.dbg.ir = ir
          ∧ t.dbg.boundary = if i = .jtagExtest b ∨ i = .jtagSamplePreload b then b else s.dbg.boundary))
  ∧ (∀ (act : Bool) (a v : BitVec 32) (s : State), s.dbg.op = none →
    let p := a.toNat / 4 * 4
    (s.dbgMay p = false → ∃ t, exec (.dbgapRead act a) s = .next t ∧ t.dbg.ack = 3 ∧ OnlyIn [.dbg] s t
      ∧ ∃ t, exec (.dbgapWrite a v) s = .next t ∧ t.dbg.ack = 3 ∧ OnlyIn [.dbg] s t)
    ∧ (∀ d w, s.dbgMay p = true → s.rst.asserted = false →
        s.capture.busRead .debug s.dbgSmem p 4 (!act) = (.ok, d, w) →
        exec (.dbgapRead act a) s = .next { w with dbg := { w.dbg with ack := 0, data := d, op := none } })
    ∧ (∀ d w, s.dbgMay p = true → s.rst.asserted = false →
        s.capture.busRead .debug s.dbgSmem p 4 (!act) = (.wait, d, w) →
        ∃ t, exec (.dbgapRead act a) s = .next t ∧ t.dbg.ack = 1 ∧ t.dbg.op = some { active := act, addr := p })
    ∧ (∀ w, s.dbgMay p = true → s.rst.asserted = false → p ≠ 0x4001B0A0 →
        s.capture.busWrite .debug s.dbgSmem p 4 v.toNat = (.ok, w) →
        exec (.dbgapWrite a v) s = .next { w with dbg := { w.dbg with ack := 0, op := none } }))
  ∧ (∀ (act : Bool) (a v : BitVec 32) (s : State), s.dbgRetry.dbg.op ≠ none →
    exec (.dbgapRead act a) s = .next s.dbgRetry.capture ∧ exec (.dbgapWrite a v) s = .next s.dbgRetry.capture
    ∧ exec .dbgapNop s = .next s.dbgRetry.capture)
  ∧ (∀ s : State, s.dbg.op = none →
    ∃ t, exec .dbgapNop s = .next t ∧ t.dbg = { s.capture.dbg with ack := 0 } ∧ OnlyIn [.dbg] s t)
  ∧ (∀ s : State, s.lcState = 4 → s.dbg.checking = false → s.rst.asserted = false →
    (∃ t, exec .dbgauthReadChallenge s = .next t ∧ OnlyIn [.dbg] s t ∧ t.dbg.chal = s.dbg.chal + 1
      ∧ t.dbg.chalOut = fieldOf s.challenge (4 * s.dbg.chal) 4)
    ∧ (∀ w, s.dbg.cert.length < 64 → ∃ t, exec (.dbgauthWriteCertificate w) s = .next t
        ∧ t.dbg.cert = s.dbg.cert ++ [w.toNat] ∧ OnlyIn [.dbg] s t)
    ∧ (∃ t, exec .dbgauthNewchal s = .next t ∧ t.dbg.chal = 0 ∧ t.dbg.cert = []
        ∧ (t.dbg.nonce.isSome = true ↔ s.custody.drbg = true ∧ s.on 11 = true))
    ∧ ∃ t, exec .dbgauthSubmit s = .next t ∧ t.get R.DBG_AUTH_RESULT = 8
        ∧ (s.custody.drbg = true → s.on 11 = true → t.dbg.checking = true))
  ∧ (∀ s : State, s.lcState ≠ 4 →
    ∃ t, exec .dbgauthReadChallenge s = .next t ∧ exec .dbgauthNewchal s = .next t ∧ exec .dbgauthSubmit s = .next t
      ∧ t.dbg = { s.dbg with ir := 0x09, dr := 0 } ∧ OnlyIn [.dbg] s t)
  ∧ (∀ s : State, s.dbg.checking = true → s.crerus.alive = true →
    ∃ t, exec .debugCertCheckDone s = .next t ∧ t.get R.DBG_AUTH_RESULT = s.certResult ∧ t.dbg.checking = false
      ∧ t.dbg.nonce = none ∧ t.vrec.length = s.vrec.length + 1
      ∧ (t.flag R.DBG_AUTH_GRANTED = true ↔ s.certResult = 1 ∨ s.flag R.DBG_AUTH_GRANTED = true)
      ∧ (s.certResult ≠ 1 → s.certResult ≠ 7 → t.get R.DBG_AUTH_FAILS = min 255 (s.get R.DBG_AUTH_FAILS + 1)))
  ∧ (∀ (i : Instr) (s : State), s.flag R.DBG_AUTH_GRANTED = true →
    (i = .debugGrantExpiry ∧ (∃ e, s.dbg.grantEnd = some e ∧ e ≤ s.time.rtc.toNat)
      ∨ i = .debugRevoke ∧ s.dbg.op = none ∧ s.on 0 = true ∧ s.rst.asserted = false) →
    ∃ t, exec i s = .next t ∧ t.get R.DBG_AUTH_GRANTED = 0 ∧ (∀ b : Fin 8, t.get (R.DBG_BP_CFG_EN b) = 0)
      ∧ ∀ c : Fin 3, t.bit R.DBG_STAT_HALTED c = false
          ∧ (s.bit R.DBG_STAT_HALTED c = true → (t.coreAt c).resumed = true))
  ∧ (∀ (e : Nat) (s : State), s.dbg.grantEnd = some e → s.time.rtc.toNat < e → exec .debugGrantExpiry s = .next s)

/-- R447, R448, R451, R452, R454: a halt is asked of the named cores and takes place at an eligible boundary, where
the core's HALTED bit and cause are set and its load completes; a resume or a step lets it go on; the deferral's end
breaks a locked sequence, with its kind recorded and its reservation dropped; DBG_REGDATA reaches the register of a
halted core and of no other, where it reads 0, ignores the write and sets REGERR; a burst of one write sets DONE.
Where a clause follows a choice of the model, log entry 40 says so. -/
def Obligations.DebugCores : Prop :=
  (∀ (v : Word) (c : Fin 3) (s : State), s.dbg.op = none → s.on 0 = true → s.rst.asserted = false →
    s.dbgOpen = true →
    ∃ t, exec (.debugHaltRequest v) s = .next t ∧ exec (.debugResume v) s = .next t ∧ exec (.debugStep v) s = .next t
      ∧ t.dbg.ack = 0 ∧ t.get R.DBG_CTRL_HALTALL = v.toNat / 2 ^ 17 % 2 ∧ t.get R.DBG_CTRL_STEPIE = v.toNat / 2 ^ 16 % 2
      ∧ (v.toNat.testBit c = true → s.bit R.DBG_STAT_HALTED c = false → (t.coreAt c).haltReq = some (1, 0)
          ∧ (s.eligible c = false → t.bit R.DBG_STAT_PEND c = true))
      ∧ (v.toNat.testBit (4 + c) = true → s.bit R.DBG_STAT_HALTED c = true →
          t.bit R.DBG_STAT_HALTED c = false ∧ (t.coreAt c).resumed = true ∧ (t.coreAt c).step = false)
      ∧ (v.toNat.testBit (8 + c) = true → v.toNat.testBit (4 + c) = false → s.bit R.DBG_STAT_HALTED c = true →
          t.bit R.DBG_STAT_HALTED c = false ∧ (t.coreAt c).resumed = true ∧ (t.coreAt c).step = true)
      ∧ (v.toNat.testBit c = false → v.toNat.testBit (4 + c) = false → v.toNat.testBit (8 + c) = false →
          t.coreAt c = s.coreAt c ∧ t.bit R.DBG_STAT_HALTED c = s.bit R.DBG_STAT_HALTED c))
  ∧ (∀ (c : Fin 3) (cause bp : Nat) (s : State), (s.coreAt c).haltReq = some (cause, bp) →
    (s.eligible c = false → exec (.debugHalt c) s = .next s)
    ∧ (s.eligible c = true → s.bit R.DBG_STAT_HALTED c = false → s.coreExists c = true → s.coreOn c = true →
        s.ply.fault = false → ((s.coreAt c).run = .issuing ∨ (s.coreAt c).run = .wfi) → cause < 16 → bp < 8 →
        ∃ t, exec (.debugHalt c) s = .next t ∧ t.bit R.DBG_STAT_HALTED c = true ∧ t.bit R.DBG_STAT_PEND c = false
          ∧ t.get (R.DBG_CAUSE_CAUSE c) = cause ∧ t.get (R.DBG_CAUSE_BP c) = bp
          ∧ (t.coreAt c).pc = (s.coreAt c).pc ∧ (s.coreAt c).KeepsRegs (t.coreAt c)))
  ∧ (∀ (c : Fin 3) (cause bp : Nat) (s : State), (s.coreAt c).haltReq = some (cause, bp) →
    (s.haltLocked c = false ∨ s.plyBusy = true ∨ (s.coreAt c).mustWait = true →
      exec (.debugHaltDeferralExpiry c) s = .next s)
    ∧ (s.haltLocked c = true → s.plyBusy = false → (s.coreAt c).mustWait = false → s.inSealedCall c = false →
        s.bit R.DBG_STAT_HALTED c = false →
        ∃ t, exec (.debugHaltDeferralExpiry c) s = .next t ∧ t.bit R.DBG_STAT_HALTED c = true
          ∧ t.bit R.DBG_STAT_ABANDON c = true ∧ t.get (R.DBG_CAUSE_SEQ c) = s.seqKind c
          ∧ (t.coreAt c).res = none ∧ (t.coreAt c).locked = false ∧ (t.coreAt c).wait = none))
  ∧ (∀ (c : Fin 3) (n : Fin 32) (v : Word) (s : State), s.dbg.op = none → s.on 0 = true → s.rst.asserted = false →
    s.dbgOpen = true →
    s.get R.DBG_REGSEL_CORE = c.val → s.get R.DBG_REGSEL_KIND = 0 → s.get R.DBG_REGSEL_NUM = n.val →
    (s.bit R.DBG_STAT_HALTED c = true →
      (∃ t, exec (.debugRegisterAccess false v) s = .next t ∧ t.dbg.data = ((s.coreAt c).rd n).toNat ∧ t.core = s.core)
      ∧ ∃ t, exec (.debugRegisterAccess true v) s = .next t ∧ CoreOnly c { s with dbg := t.dbg, resp := t.resp } t
          ∧ ∀ r, (t.coreAt c).rd r = if r = 0 then 0 else if r = n then v else (s.coreAt c).rd r)
    ∧ (s.bit R.DBG_STAT_HALTED c = false →
      (∃ t, exec (.debugRegisterAccess false v) s = .next t ∧ t.dbg.data = 0 ∧ t.flag R.DBG_STAT_REGERR = true
        ∧ t.core = s.core)
      ∧ ∃ t, exec (.debugRegisterAccess true v) s = .next t ∧ t.flag R.DBG_STAT_REGERR = true ∧ t.core = s.core))
  ∧ (∀ (a : Nat) (v : Word) (w : State) (s : State), s.dbg.op = none → s.on 0 = true → s.rst.asserted = false →
    s.dbgOpen = true →
    v.toNat.testBit 8 = true → v.toNat % 8 ≤ 1 → a = s.get (R.DBG_BURST_ADDR 0) / 4 * 4 →
    ((s.capture.set R.DBG_BURSTCTL_COUNT (v.toNat % 8)).set R.DBG_BURSTCTL_DONE 0 |>.set R.DBG_BURSTCTL_ERR 0).busWrite
      .debug s.dbgSmem a 4 (s.get (R.DBG_BURST_DATA 0)) = (.ok, w) →
    ∃ t, exec (.debugBurst v) s = .next t ∧ t.get R.DBG_BURSTCTL_DONE = 1 ∧ t.core = w.core ∧ t.mem = w.mem)

/-! ### Health and the register bus (chapters 26 and 0) -/

/-- R573, R575, R579: a sample above 125 °C after one at or below 120 °C counts one excursion, which raises the
advisory at the threshold, and any other sample counts none; the causes that rose are journalled once and are owed no
more; a board-service bit that is set for the first time is journalled and touches no cause and not SVC_REQ. Where a
clause follows a choice of the model, log entry 56 says so. -/
def Obligations.HealthRecords : Prop :=
  (∀ (x : Int) (s : State),
    (x ≤ 120 → ∃ t, exec (.thermalSample x) s = .next t ∧ t.health = { s.health with hotAbove := false }
        ∧ OnlyIn [.health] s t)
    ∧ (120 < x → (x ≤ 125 ∨ s.health.hotAbove = true) → exec (.thermalSample x) s = .next s)
    ∧ (125 < x → s.health.hotAbove = false → s.on 6 = true →
        let n := min 0xFFFF (s.get R.HLT_THEXC + 1)
        let thr := if s.get R.HLT_THTHR = 0 then 16 else s.get R.HLT_THTHR
        ∃ t, exec (.thermalSample x) s = .next t ∧ t.health.hotAbove = true ∧ t.get R.HLT_THEXC = n
          ∧ t.flag (R.ICU_STS_PEND 189) = true ∧ (thr ≤ n → t.bit R.HLT_CAUSE 6 = true)
          ∧ (n < thr → t.get R.HLT_CAUSE = s.get R.HLT_CAUSE ∧ t.health.owed = s.health.owed)))
  ∧ (∀ s : State, s.crerus.alive = true → s.health.owed ≠ [] → s.on 6 = true →
    ∃ t, exec .advisoryRecord s = .next t ∧ t.health.owed = [] ∧ t.get R.HLT_CAUSE = s.get R.HLT_CAUSE
      ∧ t.flag (R.ICU_STS_PEND 144) = true
      ∧ t.vrec.length = s.vrec.length + ((List.range 11).filter fun b => decide (b ∈ s.health.owed)).length + 1
      ∧ t.health.first = if s.health.first = 0 then s.time.rtc.toNat else s.health.first)
  ∧ (∀ (b : Fin 3) (s : State), s.crerus.alive = true → s.bit R.HLT_BSVC b = false → s.on 6 = true →
    ∃ t, exec (.boardServiceSet b) s = .next t ∧ t.bit R.HLT_BSVC b = true ∧ t.flag R.HLT_STAT_BSVCLIVE = true
      ∧ t.get R.HLT_CAUSE = s.get R.HLT_CAUSE ∧ t.get R.HLT_STAT_SVCREQ = s.get R.HLT_STAT_SVCREQ
      ∧ t.vrec.length = s.vrec.length + 1 ∧ t.flag (R.ICU_STS_PEND 144) = true)

/-- R8, R10, R14, R427, R477, Table 22.2: a register write above the last frame ends with a bus error, one to a frame
whose domain is not ON is answered RETRY or ABSENT, both with no other effect; within a frame an address with no
register ignores it, and a field takes it as its access code says, shown on fields of the governor's frame. Where a
clause follows a choice of the model, log entry 9 says so. -/
def Obligations.RegisterWrites : Prop :=
  (∀ (q : Who) (a : BitVec 20) (v : Word) (s : State), 0x1E000 ≤ a.toNat →
    exec (.registerWrite q a v) s = .next (s.reply q.req .busErr 0))
  ∧ (∀ (q : Who) (a : BitVec 20) (v : Word) (d : Nat) (s : State), frameDomain a.toNat = some d → s.on d = false →
    exec (.registerWrite q a v) s = .next (s.reply q.req
      (if s.get (R.PWR_DOM d) = 2 ∨ s.get (R.PWR_DOM d) = 4 then .retry else .absent) 0))
  ∧ (∀ (q : Who) (a : BitVec 20) (v : Word) (s : State), a.toNat / 0x1000 = 0x12 → regFields a.toNat = [] → a ≠ 0x12038 →
    s.on 0 = true →
    exec (.registerWrite q a v) s = .next (s.reply q.req .ok 0))
  ∧ (∀ f ∈ [R.EGV_ECEIL, R.EGV_RLIM, R.EGV_CMCFG_CMSLOT, R.EGV_LVLCFG_TAUSEL, R.EGV_FCAP, R.EGV_EHI,
        R.EGV_STAT_CEIL, R.EGV_STAT_CMDONE, R.EGV_CFG_CHLANE, R.EGV_CHGMAP],
    ∀ (q : Who) (v : Word) (s : State), s.on 6 = true →
    ∃ t, exec (.registerWrite q (BitVec.ofNat 20 f.addr) v) s = .next t ∧ t.get f =
      match f.acc with
      | .rw => v.toNat / 2 ^ f.lo % 2 ^ f.w
      | .w1c => if v.toNat.testBit f.lo then 0 else s.get f % 2
      | .once => if s.isFrozen f then s.get f else v.toNat / 2 ^ f.lo % 2 ^ f.w
      | _ => s.get f)
end

