-- ==== Sys2Proof/Laws/Moves.lean ====
section
/-!
SUPPORT. What a function of the machine may change: the relation `Moves`, and how it composes. Every shared
operation has one lemma in these terms in the files beside this one.
-/

namespace Sys2Proof.Machine

/-- The set of parts that holds only the registers of domain `d`. A set of parts is a number whose bit `p.idx` says
that it holds `p`. -/
def pdBit (d : Nat) : Nat := 2 ^ (46 + min d 12)

/-- `t` differs from `s` only in parts of `K`, has the same commands waiting, and is well kept if `s` is. -/
structure Moves (K : Nat) (s t : State) : Prop where
  pending : t.pending = s.pending
  same : ∀ p : Part, K.testBit p.idx = false → p.same s t
  kept : s.Kept → t.Kept

theorem Part.same_refl (p : Part) (s : State) : p.same s s := by
  cases p <;> first | rfl | exact fun _ _ => rfl

theorem Part.same_trans {p : Part} {s t u : State} (h : p.same s t) (k : p.same t u) : p.same s u := by
  cases p <;> first | exact Eq.trans k h | exact fun f e => (k f e).trans (h f e)

theorem Moves.refl (K : Nat) (s : State) : Moves K s s :=
  ⟨rfl, fun p _ => p.same_refl s, id⟩

theorem Moves.trans {K : Nat} {s t u : State} (h : Moves K s t) (k : Moves K t u) : Moves K s u :=
  ⟨k.pending.trans h.pending, fun p e => Part.same_trans (h.same p e) (k.same p e), fun w => k.kept (h.kept w)⟩

theorem Moves.mono {K K' : Nat} {s t : State} (h : Moves K s t) (e : K ||| K' = K') : Moves K' s t :=
  ⟨h.pending, fun p b => h.same p (by
    have := congrArg (fun n => n.testBit p.idx) e
    simp only [Nat.testBit_or, b, Bool.or_false] at this
    exact this), h.kept⟩

theorem Moves.step {K K' : Nat} {s t u : State} (h : Moves K s t) (k : Moves K' t u) (e : K' ||| K = K) :
    Moves K s u := h.trans (k.mono e)

theorem Moves.bindV {K : Nat} {s v t : State} (h : Moves K s v) (k : Moves K s v → Moves K s t) : Moves K s t := k h

theorem Moves.ite {K : Nat} {s a b : State} {c : Prop} [Decidable c] (h : Moves K s a) (k : Moves K s b) :
    Moves K s (if c then a else b) := by split <;> assumption

theorem Moves.ite1 {α : Type} {K : Nat} {s : State} {a b : State × α} {c : Prop} [Decidable c] (h : Moves K s a.1)
    (k : Moves K s b.1) : Moves K s (if c then a else b).1 := by split <;> assumption

theorem Moves.ite2 {α : Type} {K : Nat} {s : State} {a b : α × State} {c : Prop} [Decidable c] (h : Moves K s a.2)
    (k : Moves K s b.2) : Moves K s (if c then a else b).2 := by split <;> assumption

theorem Moves.ite22 {α β : Type} {K : Nat} {s : State} {a b : α × β × State} {c : Prop} [Decidable c]
    (h : Moves K s a.2.2) (k : Moves K s b.2.2) : Moves K s (if c then a else b).2.2 := by split <;> assumption

theorem Moves.rec0 {K : Nat} {s : State} {c : Prop} {f : ¬c → State} {g : c → State} {i : Decidable c}
    (h : ∀ x, Moves K s (f x)) (k : ∀ x, Moves K s (g x)) :
    Moves K s (Decidable.rec (motive := fun _ => State) f g i) := by cases i; exacts [h _, k _]

theorem Moves.rec1 {α : Type} {K : Nat} {s : State} {c : Prop} {f : ¬c → State × α} {g : c → State × α} {i : Decidable c}
    (h : ∀ x, Moves K s (f x).1) (k : ∀ x, Moves K s (g x).1) :
    Moves K s (Decidable.rec (motive := fun _ => State × α) f g i).1 := by cases i; exacts [h _, k _]

theorem Moves.rec2 {α : Type} {K : Nat} {s : State} {c : Prop} {f : ¬c → α × State} {g : c → α × State} {i : Decidable c}
    (h : ∀ x, Moves K s (f x).2) (k : ∀ x, Moves K s (g x).2) :
    Moves K s (Decidable.rec (motive := fun _ => α × State) f g i).2 := by cases i; exacts [h _, k _]

theorem Moves.rec22 {α β : Type} {K : Nat} {s : State} {c : Prop} {f : ¬c → α × β × State} {g : c → α × β × State} {i : Decidable c}
    (h : ∀ x, Moves K s (f x).2.2) (k : ∀ x, Moves K s (g x).2.2) :
    Moves K s (Decidable.rec (motive := fun _ => α × β × State) f g i).2.2 := by cases i; exacts [h _, k _]

theorem Moves.foldl {α : Type} {K : Nat} {s t : State} {f : State → α → State} {l : List α}
    (h : Moves K s t) (k : ∀ u a, Moves K u (f u a)) : Moves K s (l.foldl f t) := by
  induction l generalizing t with
  | nil => exact h
  | cons a l ih => exact ih (h.trans (k t a))

theorem Moves.foldl1 {α β : Type} {K : Nat} {s : State} {f : State × β → α → State × β} {l : List α} {t : State × β}
    (h : Moves K s t.1) (k : ∀ u a, Moves K u.1 (f u a).1) : Moves K s (l.foldl f t).1 := by
  induction l generalizing t with
  | nil => exact h
  | cons a l ih => exact ih (h.trans (k t a))

theorem Moves.foldl2 {α β : Type} {K : Nat} {s : State} {f : β × State → α → β × State} {l : List α} {t : β × State}
    (h : Moves K s t.2) (k : ∀ u a, Moves K u.2 (f u a).2) : Moves K s (l.foldl f t).2 := by
  induction l generalizing t with
  | nil => exact h
  | cons a l ih => exact ih (h.trans (k t a))

end Sys2Proof.Machine
end

