-- ==== Sys2Proof/Laws/MovesBase.lean ====
section
/-!
SUPPORT. What the primitive operations may change: one register field, one part of the state, bytes of memory.
-/

namespace Sys2Proof.Machine

theorem Regs.get_set_ne (r : Regs) {f g : Fld} (h : f ≠ g) (v : Nat) : (Regs.set r f v).get g = r.get g := by
  induction r with
  | nil => simp [Regs.set, Regs.get, h]
  | cons a r ih =>
    obtain ⟨k, u⟩ := a
    simp only [Regs.set]
    split
    · subst_vars; simp [Regs.get, h]
    · split
      · simp [Regs.get, h]
      · simp [Regs.get, ih]

theorem regsFit_set {r : Regs} (h : regsFit r) (f : Fld) (v : Nat) : regsFit (r.set f v) := by
  have b : v % 2 ^ f.w < 2 ^ f.w := Nat.mod_lt _ (by positivity)
  induction r with
  | nil => intro x hx; simp [Regs.set] at hx; subst hx; exact b
  | cons a r ih =>
    obtain ⟨k, u⟩ := a
    have h1 := h (k, u) (by simp)
    have h2 : regsFit r := fun x hx => h x (by simp [hx])
    simp only [Regs.set]
    intro x
    split
    · simp only [List.mem_cons]; rintro (rfl | hx); exacts [b, h2 x hx]
    · split
      · simp only [List.mem_cons]; rintro (rfl | rfl | hx); exacts [b, h1, h2 x hx]
      · simp only [List.mem_cons]; rintro (rfl | hx); exacts [h1, ih h2 x hx]

theorem regsFit_reset {r : Regs} (h : regsFit r) (p : Fld → Bool) : regsFit (r.reset p) := by
  induction r with
  | nil => exact h
  | cons a r ih =>
    have h2 : regsFit r := fun x hx => h x (by simp [hx])
    simp only [Regs.reset]
    split
    · exact ih h2
    · intro x hx
      rcases List.mem_cons.mp hx with rfl | hx
      exacts [h _ (by simp), ih h2 x hx]

theorem regsFit_filter {r : Regs} (h : regsFit r) (p : Fld × Nat → Bool) : regsFit (r.filter p) :=
  fun x hx => h x (List.mem_of_mem_filter hx)

/-- Every key of a memory is above `k`. -/
theorem memPut_all {m : List Host.Cell} {a : Nat} {v : Byte} {P : Nat → Prop} (h : ∀ x ∈ m, P x.1) (ha : P a) :
    ∀ x ∈ memPut m a v, P x.1 := by
  induction m with
  | nil => intro x; simp only [memPut]; split <;> simp; rintro rfl; exact ha
  | cons c m ih =>
    obtain ⟨k, u⟩ := c
    have hk : P k := h (k, u) (by simp)
    have hm : ∀ x ∈ m, P x.1 := fun x hx => h x (by simp [hx])
    intro x hx
    simp only [memPut] at hx
    split at hx
    · split at hx
      · exact hm x hx
      · rcases List.mem_cons.mp hx with rfl | hx
        exacts [ha, hm x hx]
    · split at hx
      · split at hx
        · exact h x hx
        · rcases List.mem_cons.mp hx with rfl | hx
          exacts [ha, h x hx]
      · rcases List.mem_cons.mp hx with rfl | hx
        exacts [hk, ih hm x hx]

theorem memWf_cons {k : Nat} {v : Byte} {m : List Host.Cell} :
    memWf ((k, v) :: m) = true ↔ v ≠ memDefault k ∧ memWf m = true ∧ ∀ x ∈ m, k < x.1 := by
  simp [memWf, and_assoc]

theorem memWf_put {m : List Host.Cell} (h : memWf m = true) (a : Nat) (v : Byte) : memWf (memPut m a v) = true := by
  induction m with
  | nil => simp only [memPut]; split <;> simp_all [memWf]
  | cons c m ih =>
    obtain ⟨k, u⟩ := c
    obtain ⟨hu, hm, hk⟩ := memWf_cons.mp h
    simp only [memPut]
    split
    · subst_vars
      split
      · exact hm
      · exact memWf_cons.mpr ⟨by assumption, hm, hk⟩
    · split
      · split
        · exact h
        · refine memWf_cons.mpr ⟨by assumption, h, fun x hx => ?_⟩
          rcases List.mem_cons.mp hx with rfl | hx
          · assumption
          · exact Nat.lt_trans (by assumption) (hk x hx)
      · exact memWf_cons.mpr ⟨hu, ih hm, memPut_all hk (by omega)⟩

theorem memWf_filter {m : List Host.Cell} (h : memWf m = true) (p : Host.Cell → Bool) : memWf (m.filter p) = true := by
  induction m with
  | nil => exact h
  | cons c m ih =>
    obtain ⟨k, u⟩ := c
    obtain ⟨hu, hm, hk⟩ := memWf_cons.mp h
    simp only [List.filter]
    split
    · exact memWf_cons.mpr ⟨hu, ih hm, fun x hx => hk x (List.mem_of_mem_filter hx)⟩
    · exact ih hm

theorem memWf_copy {m : List Host.Cell} (h : memWf m = true) (src dst n : Nat) : memWf (memCopy m src dst n) = true := by
  unfold memCopy
  have : ∀ (l : List Host.Cell) (z : List Host.Cell), memWf z = true →
      memWf (l.foldl (fun a x => memPut a (x.1 - src + dst) x.2) z) = true := by
    intro l
    induction l with
    | nil => exact fun z hz => hz
    | cons x l ih => exact fun z hz => ih _ (memWf_put hz _ _)
  exact this _ _ (memWf_filter h _)

theorem Moves.fst {α : Type} {K : Nat} {s t : State} {p : State × α} {x : α} (h : Moves K s p.1) (e : p = (t, x)) :
    Moves K s t := by subst e; exact h

theorem Moves.snd {α : Type} {K : Nat} {s t : State} {p : α × State} {x : α} (h : Moves K s p.2) (e : p = (x, t)) :
    Moves K s t := by subst e; exact h

theorem Moves.snd2 {α β : Type} {K : Nat} {s t : State} {p : α × β × State} {x : α} {y : β} (h : Moves K s p.2.2)
    (e : p = (x, y, t)) : Moves K s t := by subst e; exact h

theorem sub_of {a b K : Nat} (h : a ||| b = b) (e : b ||| K = K) : a ||| K = K := by
  rw [← e, ← Nat.or_assoc, h]

theorem State.set_moves {s : State} {f : Fld} {v d : Nat} (e : f.pd = d) : Moves (pdBit d) s (s.set f v) := by
  refine ⟨rfl, fun p h => ?_, fun w => ⟨w.mem, regsFit_set w.regs f v, w.saved⟩⟩
  cases p with
  | pd k =>
    intro g eg
    refine Regs.get_set_ne _ ?_ v
    rintro rfl
    subst e eg
    simp [pdBit, Part.idx] at h
  | _ => rfl

theorem State.setB_moves {s : State} {f : Fld} {b : Bool} {d : Nat} (e : f.pd = d) : Moves (pdBit d) s (s.setB f b) :=
  State.set_moves e

theorem State.inc_moves {s : State} {f : Fld} {d : Nat} (e : f.pd = d) : Moves (pdBit d) s (s.inc f) :=
  State.set_moves e

theorem State.setBit_moves {s : State} {f : Fld} {i d : Nat} (e : f.pd = d) : Moves (pdBit d) s (s.setBit f i) :=
  State.set_moves e

theorem State.clrBit_moves {s : State} {f : Fld} {i d : Nat} (e : f.pd = d) : Moves (pdBit d) s (s.clrBit f i) :=
  State.set_moves e

theorem State.sets_moves {s : State} {f : Fld} {x : Int} {d : Nat} (e : f.pd = d) : Moves (pdBit d) s (s.sets f x) :=
  State.set_moves e

theorem State.setByte_moves (s : State) (a : Nat) (v : Byte) : Moves 0x200000000000 s (s.setByte a v) := by
  refine ⟨rfl, fun p h => ?_, fun w => ⟨memWf_put w.mem a v, w.regs, w.saved⟩⟩
  cases p <;> first | rfl | exact fun _ _ => rfl | exact absurd h (by decide)

theorem State.wipe_moves (s : State) (lo hi : Nat) : Moves 0x200000000000 s (s.wipe lo hi) := by
  refine ⟨rfl, fun p h => ?_, fun w => ⟨memWf_filter w.mem _, w.regs, w.saved⟩⟩
  cases p <;> first | rfl | exact fun _ _ => rfl | exact absurd h (by decide)

theorem State.set_any (s : State) (f : Fld) (v : Nat) : Moves (0x7ffc00000000000) s (s.set f v) := by
  refine ⟨rfl, fun p h => ?_, fun w => ⟨w.mem, regsFit_set w.regs f v, w.saved⟩⟩
  cases p with
  | pd k =>
    have : min k 12 < 13 := by omega
    interval_cases e : min k 12 <;> exact absurd h (by simp only [Part.idx, e]; decide)
  | _ => rfl


theorem State.setB_any (s : State) (f : Fld) (v : Bool) : Moves (0x7ffc00000000000) s (s.setB f v) := by
  refine State.set_any ..


theorem State.inc_any (s : State) (f : Fld) : Moves (0x7ffc00000000000) s (s.inc f) := by
  refine State.set_any ..


theorem State.setBit_any (s : State) (f : Fld) (i : Nat) : Moves (0x7ffc00000000000) s (s.setBit f i) := by
  refine State.set_any ..


theorem State.clrBit_any (s : State) (f : Fld) (i : Nat) : Moves (0x7ffc00000000000) s (s.clrBit f i) := by
  refine State.set_any ..


theorem State.sets_any (s : State) (f : Fld) (x : Int) : Moves (0x7ffc00000000000) s (s.sets f x) := by
  refine State.set_any ..


theorem not_pd {K d : Nat} (e : 0x7ffc00000000000 ||| K = K) (h : K.testBit (Part.pd d).idx = false) : False := by
  have k := congrArg (fun n => n.testBit (Part.pd d).idx) e
  simp only [Nat.testBit_or, h, Bool.or_false] at k
  have : min d 12 < 13 := by omega
  interval_cases e : min d 12 <;> simp only [Part.idx, e] at k <;> exact absurd k (by decide)

theorem Moves.mem_upd {s : State} {m : List Host.Cell} (h : memWf s.mem = true → memWf m = true) :
    Moves 0x200000000000 s { s with mem := m } := by
  refine ⟨rfl, fun p h => ?_, fun w => ⟨h w.mem, w.regs, w.saved⟩⟩
  cases p <;> first | rfl | exact fun _ _ => rfl | exact absurd h (by decide)

theorem R.PWR_DOM_pd (d : Nat) : (R.PWR_DOM d).pd = 0 := by unfold R.PWR_DOM; split <;> rfl


theorem State.upd_adc_moves {s : State} {adc_ : Bank AdcCore 8} :
    Moves (0x40) s { s with adc := adc_ } := by
  refine ⟨rfl, fun p h => ?_, fun w => ⟨w.mem, w.regs, w.saved⟩⟩
  cases p <;> first | rfl | exact fun _ _ => rfl | exact absurd h (by decide)

theorem State.upd_adc_res_cmp_dac_rfm_moves {s : State} {adc_ : Bank AdcCore 8} {res_ : Bank AdcRes 32} {cmp_ : Bank CmpSt 16} {dac_ : Bank DacSt 2} {rfm_ : RfmSt} :
    Moves (0x7c0) s { s with adc := adc_, res := res_, cmp := cmp_, dac := dac_, rfm := rfm_ } := by
  refine ⟨rfl, fun p h => ?_, fun w => ⟨w.mem, w.regs, w.saved⟩⟩
  cases p <;> first | rfl | exact fun _ _ => rfl | exact absurd h (by decide)

theorem State.upd_clk_moves {s : State} {clk_ : ClkSt} :
    Moves (0x10000000000) s { s with clk := clk_ } := by
  refine ⟨rfl, fun p h => ?_, fun w => ⟨w.mem, w.regs, w.saved⟩⟩
  cases p <;> first | rfl | exact fun _ _ => rfl | exact absurd h (by decide)

theorem State.upd_cmp_moves {s : State} {cmp_ : Bank CmpSt 16} :
    Moves (0x100) s { s with cmp := cmp_ } := by
  refine ⟨rfl, fun p h => ?_, fun w => ⟨w.mem, w.regs, w.saved⟩⟩
  cases p <;> first | rfl | exact fun _ _ => rfl | exact absurd h (by decide)

theorem State.upd_core_moves {s : State} {core_ : Vector Core 3} :
    Moves (0x1000000) s { s with core := core_ } := by
  refine ⟨rfl, fun p h => ?_, fun w => ⟨w.mem, w.regs, w.saved⟩⟩
  cases p <;> first | rfl | exact fun _ _ => rfl | exact absurd h (by decide)

theorem State.upd_core_lc_moves {s : State} {core_ : Vector Core 3} {lc_ : LcSt} :
    Moves (0x801000000) s { s with core := core_, lc := lc_ } := by
  refine ⟨rfl, fun p h => ?_, fun w => ⟨w.mem, w.regs, w.saved⟩⟩
  cases p <;> first | rfl | exact fun _ _ => rfl | exact absurd h (by decide)

theorem State.upd_crerus_moves {s : State} {crerus_ : Crerus} :
    Moves (0x40000000) s { s with crerus := crerus_ } := by
  refine ⟨rfl, fun p h => ?_, fun w => ⟨w.mem, w.regs, w.saved⟩⟩
  cases p <;> first | rfl | exact fun _ _ => rfl | exact absurd h (by decide)

theorem State.upd_crerus_jrnl_moves {s : State} {crerus_ : Crerus} {jrnl_ : Jrnl} :
    Moves (0x140000000) s { s with crerus := crerus_, jrnl := jrnl_ } := by
  refine ⟨rfl, fun p h => ?_, fun w => ⟨w.mem, w.regs, w.saved⟩⟩
  cases p <;> first | rfl | exact fun _ _ => rfl | exact absurd h (by decide)

theorem State.upd_crerus_jrnl_custody_moves {s : State} {crerus_ : Crerus} {jrnl_ : Jrnl} {custody_ : Custody} :
    Moves (0x540000000) s { s with crerus := crerus_, jrnl := jrnl_, custody := custody_ } := by
  refine ⟨rfl, fun p h => ?_, fun w => ⟨w.mem, w.regs, w.saved⟩⟩
  cases p <;> first | rfl | exact fun _ _ => rfl | exact absurd h (by decide)

theorem State.upd_crerus_lc_moves {s : State} {crerus_ : Crerus} {lc_ : LcSt} :
    Moves (0x840000000) s { s with crerus := crerus_, lc := lc_ } := by
  refine ⟨rfl, fun p h => ?_, fun w => ⟨w.mem, w.regs, w.saved⟩⟩
  cases p <;> first | rfl | exact fun _ _ => rfl | exact absurd h (by decide)

theorem State.upd_crerus_pwr_moves {s : State} {crerus_ : Crerus} {pwr_ : PwrSt} :
    Moves (0x4040000000) s { s with crerus := crerus_, pwr := pwr_ } := by
  refine ⟨rfl, fun p h => ?_, fun w => ⟨w.mem, w.regs, w.saved⟩⟩
  cases p <;> first | rfl | exact fun _ _ => rfl | exact absurd h (by decide)

theorem State.upd_crerus_queue_custody_moves {s : State} {crerus_ : Crerus} {queue_ : Queue} {custody_ : Custody} :
    Moves (0x4c0000000) s { s with crerus := crerus_, queue := queue_, custody := custody_ } := by
  refine ⟨rfl, fun p h => ?_, fun w => ⟨w.mem, w.regs, w.saved⟩⟩
  cases p <;> first | rfl | exact fun _ _ => rfl | exact absurd h (by decide)

theorem State.upd_crerus_queue_jrnl_moves {s : State} {crerus_ : Crerus} {queue_ : Queue} {jrnl_ : Jrnl} :
    Moves (0x1c0000000) s { s with crerus := crerus_, queue := queue_, jrnl := jrnl_ } := by
  refine ⟨rfl, fun p h => ?_, fun w => ⟨w.mem, w.regs, w.saved⟩⟩
  cases p <;> first | rfl | exact fun _ _ => rfl | exact absurd h (by decide)

theorem State.upd_custody_moves {s : State} {custody_ : Custody} :
    Moves (0x400000000) s { s with custody := custody_ } := by
  refine ⟨rfl, fun p h => ?_, fun w => ⟨w.mem, w.regs, w.saved⟩⟩
  cases p <;> first | rfl | exact fun _ _ => rfl | exact absurd h (by decide)

theorem State.upd_dbg_moves {s : State} {dbg_ : DbgSt} :
    Moves (0x20000000000) s { s with dbg := dbg_ } := by
  refine ⟨rfl, fun p h => ?_, fun w => ⟨w.mem, w.regs, w.saved⟩⟩
  cases p <;> first | rfl | exact fun _ _ => rfl | exact absurd h (by decide)

theorem State.upd_dma_moves {s : State} {dma_ : Bank Dma 16} :
    Moves (0x200000) s { s with dma := dma_ } := by
  refine ⟨rfl, fun p h => ?_, fun w => ⟨w.mem, w.regs, w.saved⟩⟩
  cases p <;> first | rfl | exact fun _ _ => rfl | exact absurd h (by decide)

theorem State.upd_dma_dmaLast_moves {s : State} {dma_ : Bank Dma 16} {dmaLast_ : Bank Nat 4} :
    Moves (0x600000) s { s with dma := dma_, dmaLast := dmaLast_ } := by
  refine ⟨rfl, fun p h => ?_, fun w => ⟨w.mem, w.regs, w.saved⟩⟩
  cases p <;> first | rfl | exact fun _ _ => rfl | exact absurd h (by decide)

theorem State.upd_dmaLast_moves {s : State} {dmaLast_ : Bank Nat 4} :
    Moves (0x400000) s { s with dmaLast := dmaLast_ } := by
  refine ⟨rfl, fun p h => ?_, fun w => ⟨w.mem, w.regs, w.saved⟩⟩
  cases p <;> first | rfl | exact fun _ _ => rfl | exact absurd h (by decide)

theorem State.upd_flash_moves {s : State} {flash_ : FlashSt} :
    Moves (0x200000000) s { s with flash := flash_ } := by
  refine ⟨rfl, fun p h => ?_, fun w => ⟨w.mem, w.regs, w.saved⟩⟩
  cases p <;> first | rfl | exact fun _ _ => rfl | exact absurd h (by decide)

theorem State.upd_free_moves {s : State} {free_ : Nat} :
    Moves (0x1) s { s with free := free_ } := by
  refine ⟨rfl, fun p h => ?_, fun w => ⟨w.mem, w.regs, w.saved⟩⟩
  cases p <;> first | rfl | exact fun _ _ => rfl | exact absurd h (by decide)

theorem State.upd_free_dac_moves {s : State} {free_ : Nat} {dac_ : Bank DacSt 2} :
    Moves (0x201) s { s with free := free_, dac := dac_ } := by
  refine ⟨rfl, fun p h => ?_, fun w => ⟨w.mem, w.regs, w.saved⟩⟩
  cases p <;> first | rfl | exact fun _ _ => rfl | exact absurd h (by decide)

theorem State.upd_free_resp_moves {s : State} {free_ : Nat} {resp_ : Bank BusResp 6} :
    Moves (0x3) s { s with free := free_, resp := resp_ } := by
  refine ⟨rfl, fun p h => ?_, fun w => ⟨w.mem, w.regs, w.saved⟩⟩
  cases p <;> first | rfl | exact fun _ _ => rfl | exact absurd h (by decide)

theorem State.upd_frozen_moves {s : State} {frozen_ : List Frozen} :
    Moves (0x4) s { s with frozen := frozen_ } := by
  refine ⟨rfl, fun p h => ?_, fun w => ⟨w.mem, w.regs, w.saved⟩⟩
  cases p <;> first | rfl | exact fun _ _ => rfl | exact absurd h (by decide)

theorem State.upd_fuse_moves {s : State} {fuse_ : Bank Word 256} :
    Moves (0x1000000000) s { s with fuse := fuse_ } := by
  refine ⟨rfl, fun p h => ?_, fun w => ⟨w.mem, w.regs, w.saved⟩⟩
  cases p <;> first | rfl | exact fun _ _ => rfl | exact absurd h (by decide)

theorem State.upd_fuseLoaded_shadow_moves {s : State} {fuseLoaded_ : Bool} {shadow_ : Bank Word 256} :
    Moves (0x2000040000) s { s with fuseLoaded := fuseLoaded_, shadow := shadow_ } := by
  refine ⟨rfl, fun p h => ?_, fun w => ⟨w.mem, w.regs, w.saved⟩⟩
  cases p <;> first | rfl | exact fun _ _ => rfl | exact absurd h (by decide)

theorem State.upd_gov_moves {s : State} {gov_ : GovSt} :
    Moves (0x80000) s { s with gov := gov_ } := by
  refine ⟨rfl, fun p h => ?_, fun w => ⟨w.mem, w.regs, w.saved⟩⟩
  cases p <;> first | rfl | exact fun _ _ => rfl | exact absurd h (by decide)

theorem State.upd_health_moves {s : State} {health_ : HealthSt} :
    Moves (0x800000) s { s with health := health_ } := by
  refine ⟨rfl, fun p h => ?_, fun w => ⟨w.mem, w.regs, w.saved⟩⟩
  cases p <;> first | rfl | exact fun _ _ => rfl | exact absurd h (by decide)

theorem State.upd_hedCnt_moves {s : State} {hedCnt_ : Bank Nat 96} :
    Moves (0x2000) s { s with hedCnt := hedCnt_ } := by
  refine ⟨rfl, fun p h => ?_, fun w => ⟨w.mem, w.regs, w.saved⟩⟩
  cases p <;> first | rfl | exact fun _ _ => rfl | exact absurd h (by decide)

theorem State.upd_i2c_moves {s : State} {i2c_ : I2cSt} :
    Moves (0x100000000000) s { s with i2c := i2c_ } := by
  refine ⟨rfl, fun p h => ?_, fun w => ⟨w.mem, w.regs, w.saved⟩⟩
  cases p <;> first | rfl | exact fun _ _ => rfl | exact absurd h (by decide)

theorem State.upd_icu_moves {s : State} {icu_ : IcuSt} (hs : ∀ r, icu_.saved = some r → s.icu.saved = some r) :
    Moves (0x20) s { s with icu := icu_ } := by
  refine ⟨rfl, fun p h => ?_, fun w => ⟨w.mem, w.regs, fun r k => w.saved r (hs r k)⟩⟩
  cases p <;> first | rfl | exact fun _ _ => rfl | exact absurd h (by decide)

theorem State.upd_jrnl_moves {s : State} {jrnl_ : Jrnl} :
    Moves (0x100000000) s { s with jrnl := jrnl_ } := by
  refine ⟨rfl, fun p h => ?_, fun w => ⟨w.mem, w.regs, w.saved⟩⟩
  cases p <;> first | rfl | exact fun _ _ => rfl | exact absurd h (by decide)

theorem State.upd_key_moves {s : State} {key_ : KeySt} :
    Moves (0x8) s { s with key := key_ } := by
  refine ⟨rfl, fun p h => ?_, fun w => ⟨w.mem, w.regs, w.saved⟩⟩
  cases p <;> first | rfl | exact fun _ _ => rfl | exact absurd h (by decide)

theorem State.upd_lane_moves {s : State} {lane_ : Bank Lane 16} :
    Moves (0x800) s { s with lane := lane_ } := by
  refine ⟨rfl, fun p h => ?_, fun w => ⟨w.mem, w.regs, w.saved⟩⟩
  cases p <;> first | rfl | exact fun _ _ => rfl | exact absurd h (by decide)

theorem State.upd_lc_moves {s : State} {lc_ : LcSt} :
    Moves (0x800000000) s { s with lc := lc_ } := by
  refine ⟨rfl, fun p h => ?_, fun w => ⟨w.mem, w.regs, w.saved⟩⟩
  cases p <;> first | rfl | exact fun _ _ => rfl | exact absurd h (by decide)

theorem State.upd_loomCfg_moves {s : State} {loomCfg_ : Bool} :
    Moves (0x20000) s { s with loomCfg := loomCfg_ } := by
  refine ⟨rfl, fun p h => ?_, fun w => ⟨w.mem, w.regs, w.saved⟩⟩
  cases p <;> first | rfl | exact fun _ _ => rfl | exact absurd h (by decide)

theorem State.upd_pad_moves {s : State} {pad_ : Bank Level 24} :
    Moves (0x10000) s { s with pad := pad_ } := by
  refine ⟨rfl, fun p h => ?_, fun w => ⟨w.mem, w.regs, w.saved⟩⟩
  cases p <;> first | rfl | exact fun _ _ => rfl | exact absurd h (by decide)

theorem State.upd_ply_moves {s : State} {ply_ : PlySt} :
    Moves (0x2000000) s { s with ply := ply_ } := by
  refine ⟨rfl, fun p h => ?_, fun w => ⟨w.mem, w.regs, w.saved⟩⟩
  cases p <;> first | rfl | exact fun _ _ => rfl | exact absurd h (by decide)

theorem State.upd_ply_wld_moves {s : State} {ply_ : PlySt} {wld_ : WldSt} :
    Moves (0x6000000) s { s with ply := ply_, wld := wld_ } := by
  refine ⟨rfl, fun p h => ?_, fun w => ⟨w.mem, w.regs, w.saved⟩⟩
  cases p <;> first | rfl | exact fun _ _ => rfl | exact absurd h (by decide)

theorem State.upd_pwm_moves {s : State} {pwm_ : Bank Pwm 12} :
    Moves (0x4000) s { s with pwm := pwm_ } := by
  refine ⟨rfl, fun p h => ?_, fun w => ⟨w.mem, w.regs, w.saved⟩⟩
  cases p <;> first | rfl | exact fun _ _ => rfl | exact absurd h (by decide)

theorem State.upd_pwr_moves {s : State} {pwr_ : PwrSt} :
    Moves (0x4000000000) s { s with pwr := pwr_ } := by
  refine ⟨rfl, fun p h => ?_, fun w => ⟨w.mem, w.regs, w.saved⟩⟩
  cases p <;> first | rfl | exact fun _ _ => rfl | exact absurd h (by decide)

theorem State.upd_queue_moves {s : State} {queue_ : Queue} :
    Moves (0x80000000) s { s with queue := queue_ } := by
  refine ⟨rfl, fun p h => ?_, fun w => ⟨w.mem, w.regs, w.saved⟩⟩
  cases p <;> first | rfl | exact fun _ _ => rfl | exact absurd h (by decide)

theorem State.upd_queue_jrnl_moves {s : State} {queue_ : Queue} {jrnl_ : Jrnl} :
    Moves (0x180000000) s { s with queue := queue_, jrnl := jrnl_ } := by
  refine ⟨rfl, fun p h => ?_, fun w => ⟨w.mem, w.regs, w.saved⟩⟩
  cases p <;> first | rfl | exact fun _ _ => rfl | exact absurd h (by decide)

theorem State.upd_queue_xspi_uart_i2c_moves {s : State} {queue_ : Queue} {xspi_ : XspiSt} {uart_ : UartSt} {i2c_ : I2cSt} :
    Moves (0x1c0080000000) s { s with queue := queue_, xspi := xspi_, uart := uart_, i2c := i2c_ } := by
  refine ⟨rfl, fun p h => ?_, fun w => ⟨w.mem, w.regs, w.saved⟩⟩
  cases p <;> first | rfl | exact fun _ _ => rfl | exact absurd h (by decide)

theorem State.upd_res_moves {s : State} {res_ : Bank AdcRes 32} :
    Moves (0x80) s { s with res := res_ } := by
  refine ⟨rfl, fun p h => ?_, fun w => ⟨w.mem, w.regs, w.saved⟩⟩
  cases p <;> first | rfl | exact fun _ _ => rfl | exact absurd h (by decide)

theorem State.upd_resp_moves {s : State} {resp_ : Bank BusResp 6} :
    Moves (0x2) s { s with resp := resp_ } := by
  refine ⟨rfl, fun p h => ?_, fun w => ⟨w.mem, w.regs, w.saved⟩⟩
  cases p <;> first | rfl | exact fun _ _ => rfl | exact absurd h (by decide)

theorem State.upd_rfm_moves {s : State} {rfm_ : RfmSt} :
    Moves (0x400) s { s with rfm := rfm_ } := by
  refine ⟨rfl, fun p h => ?_, fun w => ⟨w.mem, w.regs, w.saved⟩⟩
  cases p <;> first | rfl | exact fun _ _ => rfl | exact absurd h (by decide)

theorem State.upd_rst_moves {s : State} {rst_ : RstSt} :
    Moves (0x8000000000) s { s with rst := rst_ } := by
  refine ⟨rfl, fun p h => ?_, fun w => ⟨w.mem, w.regs, w.saved⟩⟩
  cases p <;> first | rfl | exact fun _ _ => rfl | exact absurd h (by decide)

theorem State.upd_seq_moves {s : State} {seq_ : SeqSt} :
    Moves (0x8000000) s { s with seq := seq_ } := by
  refine ⟨rfl, fun p h => ?_, fun w => ⟨w.mem, w.regs, w.saved⟩⟩
  cases p <;> first | rfl | exact fun _ _ => rfl | exact absurd h (by decide)

theorem State.upd_shed_moves {s : State} {shed_ : Bank Shed 2} :
    Moves (0x1000) s { s with shed := shed_ } := by
  refine ⟨rfl, fun p h => ?_, fun w => ⟨w.mem, w.regs, w.saved⟩⟩
  cases p <;> first | rfl | exact fun _ _ => rfl | exact absurd h (by decide)

theorem State.upd_time_moves {s : State} {time_ : TimeSt} :
    Moves (0x10) s { s with time := time_ } := by
  refine ⟨rfl, fun p h => ?_, fun w => ⟨w.mem, w.regs, w.saved⟩⟩
  cases p <;> first | rfl | exact fun _ _ => rfl | exact absurd h (by decide)

theorem State.upd_time_icu_dac_lane_moves {s : State} {time_ : TimeSt} {icu_ : IcuSt} {dac_ : Bank DacSt 2} {lane_ : Bank Lane 16} (hs : ∀ r, icu_.saved = some r → s.icu.saved = some r) :
    Moves (0xa30) s { s with time := time_, icu := icu_, dac := dac_, lane := lane_ } := by
  refine ⟨rfl, fun p h => ?_, fun w => ⟨w.mem, w.regs, fun r k => w.saved r (hs r k)⟩⟩
  cases p <;> first | rfl | exact fun _ _ => rfl | exact absurd h (by decide)

theorem State.upd_time_icu_lane_shed_hedCnt_pwm_trip_loomCfg_gov_tmr_moves {s : State} {time_ : TimeSt} {icu_ : IcuSt} {lane_ : Bank Lane 16} {shed_ : Bank Shed 2} {hedCnt_ : Bank Nat 96} {pwm_ : Bank Pwm 12} {trip_ : TripSt} {loomCfg_ : Bool} {gov_ : GovSt} {tmr_ : Bank Tmr 16} (hs : ∀ r, icu_.saved = some r → s.icu.saved = some r) :
    Moves (0x1af830) s { s with time := time_, icu := icu_, lane := lane_, shed := shed_, hedCnt := hedCnt_, pwm := pwm_, trip := trip_, loomCfg := loomCfg_, gov := gov_, tmr := tmr_ } := by
  refine ⟨rfl, fun p h => ?_, fun w => ⟨w.mem, w.regs, fun r k => w.saved r (hs r k)⟩⟩
  cases p <;> first | rfl | exact fun _ _ => rfl | exact absurd h (by decide)

theorem State.upd_time_warp_moves {s : State} {time_ : TimeSt} {warp_ : Warp} :
    Moves (0x20000010) s { s with time := time_, warp := warp_ } := by
  refine ⟨rfl, fun p h => ?_, fun w => ⟨w.mem, w.regs, w.saved⟩⟩
  cases p <;> first | rfl | exact fun _ _ => rfl | exact absurd h (by decide)

theorem State.upd_tmr_moves {s : State} {tmr_ : Bank Tmr 16} :
    Moves (0x100000) s { s with tmr := tmr_ } := by
  refine ⟨rfl, fun p h => ?_, fun w => ⟨w.mem, w.regs, w.saved⟩⟩
  cases p <;> first | rfl | exact fun _ _ => rfl | exact absurd h (by decide)

theorem State.upd_trip_moves {s : State} {trip_ : TripSt} :
    Moves (0x8000) s { s with trip := trip_ } := by
  refine ⟨rfl, fun p h => ?_, fun w => ⟨w.mem, w.regs, w.saved⟩⟩
  cases p <;> first | rfl | exact fun _ _ => rfl | exact absurd h (by decide)

theorem State.upd_trip_core_ply_moves {s : State} {trip_ : TripSt} {core_ : Vector Core 3} {ply_ : PlySt} :
    Moves (0x3008000) s { s with trip := trip_, core := core_, ply := ply_ } := by
  refine ⟨rfl, fun p h => ?_, fun w => ⟨w.mem, w.regs, w.saved⟩⟩
  cases p <;> first | rfl | exact fun _ _ => rfl | exact absurd h (by decide)

theorem State.upd_uart_moves {s : State} {uart_ : UartSt} :
    Moves (0x80000000000) s { s with uart := uart_ } := by
  refine ⟨rfl, fun p h => ?_, fun w => ⟨w.mem, w.regs, w.saved⟩⟩
  cases p <;> first | rfl | exact fun _ _ => rfl | exact absurd h (by decide)

theorem State.upd_vrec_moves {s : State} {vrec_ : List VRec} :
    Moves (0x10000000) s { s with vrec := vrec_ } := by
  refine ⟨rfl, fun p h => ?_, fun w => ⟨w.mem, w.regs, w.saved⟩⟩
  cases p <;> first | rfl | exact fun _ _ => rfl | exact absurd h (by decide)

theorem State.upd_warp_moves {s : State} {warp_ : Warp} :
    Moves (0x20000000) s { s with warp := warp_ } := by
  refine ⟨rfl, fun p h => ?_, fun w => ⟨w.mem, w.regs, w.saved⟩⟩
  cases p <;> first | rfl | exact fun _ _ => rfl | exact absurd h (by decide)

theorem State.upd_wld_moves {s : State} {wld_ : WldSt} :
    Moves (0x4000000) s { s with wld := wld_ } := by
  refine ⟨rfl, fun p h => ?_, fun w => ⟨w.mem, w.regs, w.saved⟩⟩
  cases p <;> first | rfl | exact fun _ _ => rfl | exact absurd h (by decide)

theorem State.upd_xspi_moves {s : State} {xspi_ : XspiSt} :
    Moves (0x40000000000) s { s with xspi := xspi_ } := by
  refine ⟨rfl, fun p h => ?_, fun w => ⟨w.mem, w.regs, w.saved⟩⟩
  cases p <;> first | rfl | exact fun _ _ => rfl | exact absurd h (by decide)

end Sys2Proof.Machine
end

