-- ==== Sys2Proof/Laws/MovesMem.lean ====
section
/-!
SUPPORT. What each function of Machine/Mem.lean may change.
-/

namespace Sys2Proof.Machine

/-- What `State.setBytes` may change: mem. -/
theorem State.setBytes_moves (s : State) (a : ℕ) (a2 : ℕ) (a3 : ℕ) : Moves 0x200000000000 s (State.setBytes s a a2 a3) := by
  induction a2 generalizing s a a3
  unfold State.setBytes
  exact .refl ..
  rename_i n ih
  unfold State.setBytes
  refine .trans ?_ (ih ..)
  refine .step ?_ (State.setByte_moves ..) (by decide)
  exact .refl ..

/-- What `State.setByteList` may change: mem. -/
theorem State.setByteList_moves (s : State) (a : ℕ) (l : List Byte) : Moves 0x200000000000 s (State.setByteList s a l) := by
  unfold State.setByteList
  refine Moves.foldl ?_ ?_
  exact .refl ..
  intro u4_0 u4_1
  refine .step ?_ (State.setByte_moves ..) (by decide)
  exact .refl ..

/-- What `State.dropRes` may change: core. -/
theorem State.dropRes_moves (s : State) (own : Option ℕ) (a : ℕ) : Moves 0x1000000 s (State.dropRes s own a) := by
  unfold State.dropRes
  refine .step ?_ (State.upd_core_moves ..) (by decide)
  exact .refl ..

end Sys2Proof.Machine
end

