-- ==== Sys2Proof/Laws/MovesBytes.lean ====
section
/-!
SUPPORT. What each function of Machine/Bytes.lean may change.
-/

namespace Sys2Proof.Machine

/-- What `State.wrBytes` may change: mem. -/
theorem State.wrBytes_moves (s : State) (a : ℕ) (l : List ℕ) : Moves 0x200000000000 s (State.wrBytes s a l) := by
  unfold State.wrBytes
  refine .step ?_ (State.setByteList_moves ..) (by decide)
  exact .refl ..

/-- What `State.freeBytes` may change: free. -/
theorem State.freeBytes_moves (s : State) (n : ℕ) : Moves 0x1 s (State.freeBytes s n).2 := by
  unfold State.freeBytes
  refine .step ?_ (State.upd_free_moves ..) (by decide)
  exact .refl ..

end Sys2Proof.Machine
end

