-- ==== Sys2Proof/Laws/MovesOps.lean ====
section
/-!
SUPPORT. What each function of Machine/Ops.lean may change.
-/

namespace Sys2Proof.Machine

/-- What `State.reply` may change: resp. -/
theorem State.reply_moves (s : State) (q : Req) (c : RespCode) (d : ℕ) : Moves 0x2 s (State.reply s q c d) := by
  unfold State.reply
  refine .step ?_ (State.upd_resp_moves ..) (by decide)
  exact .refl ..

/-- What `State.via` may change: resp. -/
theorem State.via_moves {K : Nat} (s : State) (q : Req) (d : ℕ) (f : State → State) (hf : ∀ x0, Moves K x0 (f x0)) (e : 0x2 ||| K = K) : Moves K s (State.via s q d f) := by
  unfold State.via
  apply Moves.ite
  refine .trans ?_ (hf ..)
  refine .step ?_ (State.reply_moves ..) (sub_of (by decide) e)
  exact .refl ..
  refine .step ?_ (State.reply_moves ..) (sub_of (by decide) e)
  exact .refl ..

/-- What `State.freeB` may change: free. -/
theorem State.freeB_moves (s : State) : Moves 0x1 s (State.freeB s).2 := by
  unfold State.freeB
  refine .step ?_ (State.upd_free_moves ..) (by decide)
  exact .refl ..

/-- What `State.freeN` may change: free. -/
theorem State.freeN_moves (s : State) : Moves 0x1 s (State.freeN s).2 := by
  unfold State.freeN
  refine .step ?_ (State.upd_free_moves ..) (by decide)
  exact .refl ..

/-- What `State.raise` may change: icu; registers of PD 6. -/
theorem State.raise_moves (s : State) (n : ℕ) : Moves 0x10000000000020 s (State.raise s n) := by
  unfold State.raise
  apply Moves.ite
  exact .refl ..
  apply Moves.ite
  apply Moves.ite
  refine .step ?_ (State.upd_icu_moves fun _ h => h) (by decide)
  refine .step ?_ (State.inc_moves (d := 6) rfl) (by decide)
  refine .step ?_ (State.set_moves (d := 6) rfl) (by decide)
  exact .refl ..
  refine .step ?_ (State.inc_moves (d := 6) rfl) (by decide)
  refine .step ?_ (State.set_moves (d := 6) rfl) (by decide)
  exact .refl ..
  apply Moves.ite
  refine .step ?_ (State.upd_icu_moves fun _ h => h) (by decide)
  exact .refl ..
  exact .refl ..

/-- What `State.raiseIf` may change: icu; registers of PD 6. -/
theorem State.raiseIf_moves (s : State) (b : Bool) (n : ℕ) : Moves 0x10000000000020 s (State.raiseIf s b n) := by
  unfold State.raiseIf
  apply Moves.ite
  refine .step ?_ (State.raise_moves ..) (by decide)
  exact .refl ..
  exact .refl ..

/-- What `State.flagRise` may change: icu; registers of PD 6. -/
theorem State.flagRise_moves {s : State} {f : Fld} {n d : Nat} (e : f.pd = d) :
    Moves (0x10000000000020 ||| pdBit d) s (s.flagRise f n) := by
  unfold State.flagRise
  apply Moves.ite
  · exact Moves.trans (Moves.mono (State.set_moves e) (by rw [Nat.or_comm, Nat.or_assoc, Nat.or_self]))
      (Moves.mono (State.raise_moves ..) (by rw [← Nat.or_assoc, Nat.or_self]))
  · exact .refl ..

/-- What `State.noteChange` may change: crerus; registers of PD 10. -/
theorem State.noteChange_moves (s : State) (i : ℕ) (key : List ℕ) : Moves 0x100000040000000 s (State.noteChange s i key) := by
  unfold State.noteChange
  split
  exact .refl ..
  apply Moves.ite
  exact .refl ..
  apply Moves.ite
  refine .step ?_ (State.inc_moves (d := 10) rfl) (by decide)
  refine .step ?_ (State.upd_crerus_moves ..) (by decide)
  exact .refl ..
  refine .step ?_ (State.upd_crerus_moves ..) (by decide)
  exact .refl ..

/-- What `State.advise` may change: health; registers of PD 0. -/
theorem State.advise_moves (s : State) (b : ℕ) : Moves 0x400000800000 s (State.advise s b) := by
  unfold State.advise
  apply Moves.ite
  exact .refl ..
  apply Moves.ite
  refine .step ?_ (State.upd_health_moves ..) (by decide)
  refine .step ?_ (State.setBit_moves (d := 0) rfl) (by decide)
  exact .refl ..
  refine .step ?_ (State.set_moves (d := 0) rfl) (by decide)
  refine .step ?_ (State.upd_health_moves ..) (by decide)
  refine .step ?_ (State.setBit_moves (d := 0) rfl) (by decide)
  exact .refl ..

/-- What `State.freeze` may change: frozen. -/
theorem State.freeze_moves (s : State) (f : Fld) (sealedW : Bool) : Moves 0x4 s (State.freeze s f sealedW) := by
  unfold State.freeze
  apply Moves.ite
  exact .refl ..
  refine .step ?_ (State.upd_frozen_moves ..) (by decide)
  exact .refl ..

/-- What `State.arrive` may change: crerus. -/
theorem State.arrive_moves (s : State) (a : Arrival) : Moves 0x40000000 s (State.arrive s a) := by
  unfold State.arrive
  refine .step ?_ (State.upd_crerus_moves ..) (by decide)
  exact .refl ..

/-- What `State.journal` may change: vrec. -/
theorem State.journal_moves (s : State) (rule : ℕ) (data : List ℕ) : Moves 0x10000000 s (State.journal s rule data) := by
  unfold State.journal
  refine .step ?_ (State.upd_vrec_moves ..) (by decide)
  exact .refl ..

/-- What `State.countViolation` may change: icu; registers of PD 0, 6. -/
theorem State.countViolation_moves (s : State) (q : Who) (space : ℕ) (addr : ℕ) : Moves 0x10400000000020 s (State.countViolation s q space addr) := by
  unfold State.countViolation
  refine .step ?_ (State.raise_moves ..) (by decide)
  apply Moves.ite
  refine .step ?_ (State.setB_moves (d := 0) rfl) (by decide)
  refine .step ?_ (State.set_moves (d := 0) rfl) (by decide)
  refine .step ?_ (State.set_moves (d := 0) rfl) (by decide)
  refine .step ?_ (State.set_moves (d := 0) rfl) (by decide)
  refine .step ?_ (State.inc_moves (d := 0) rfl) (by decide)
  exact .refl ..
  refine .step ?_ (State.inc_moves (d := 0) rfl) (by decide)
  exact .refl ..

/-- What `State.lockViolation` may change: resp, icu; registers of PD 0, 6. -/
theorem State.lockViolation_moves (s : State) (q : Who) (space : ℕ) (addr : ℕ) : Moves 0x10400000000022 s (State.lockViolation s q space addr) := by
  unfold State.lockViolation
  apply Moves.ite
  refine .step ?_ (State.reply_moves ..) (by decide)
  refine .step ?_ (State.countViolation_moves ..) (by decide)
  exact .refl ..
  refine .step ?_ (State.countViolation_moves ..) (by decide)
  exact .refl ..

/-- What `State.writeFld` may change: frozen; registers of PD 0, 1, 2, 3, 4, 5, 6, 7, 8, 9, 10, 11. -/
theorem State.writeFld_moves (s : State) (q : Who) (v : ℕ) (f : Fld) : Moves 0x7ffc00000000004 s (State.writeFld s q v f) := by
  unfold State.writeFld
  split
  refine .step ?_ (State.set_any ..) (by decide)
  exact .refl ..
  refine .step ?_ (State.set_any ..) (by decide)
  exact .refl ..
  refine .step ?_ (State.set_any ..) (by decide)
  exact .refl ..
  refine .step ?_ (State.set_any ..) (by decide)
  exact .refl ..
  exact .refl ..
  exact .refl ..
  apply Moves.ite
  exact .refl ..
  refine .step ?_ (State.freeze_moves ..) (by decide)
  refine .step ?_ (State.set_any ..) (by decide)
  exact .refl ..
  apply Moves.ite
  exact .refl ..
  refine .step ?_ (State.set_any ..) (by decide)
  exact .refl ..

/-- What `State.writeReg` may change: resp, frozen, icu, vrec; registers of PD 0, 1, 2, 3, 4, 5, 6, 7, 8, 9, 10, 11. -/
theorem State.writeReg_moves (s : State) (q : Who) (a : ℕ) (v : ℕ) : Moves 0x7ffc00010000026 s (State.writeReg s q a v) := by
  unfold State.writeReg
  apply Moves.ite
  apply Moves.ite
  refine .step ?_ (State.journal_moves ..) (by decide)
  refine .step ?_ (State.lockViolation_moves ..) (by decide)
  refine Moves.foldl ?_ ?_
  exact .refl ..
  intro u5_0 u5_1
  refine .step ?_ (State.writeFld_moves ..) (by decide)
  exact .refl ..
  refine .step ?_ (State.lockViolation_moves ..) (by decide)
  refine Moves.foldl ?_ ?_
  exact .refl ..
  intro u5_0 u5_1
  refine .step ?_ (State.writeFld_moves ..) (by decide)
  exact .refl ..
  refine Moves.foldl ?_ ?_
  exact .refl ..
  intro u5_0 u5_1
  refine .step ?_ (State.writeFld_moves ..) (by decide)
  exact .refl ..

end Sys2Proof.Machine
end

