-- ==== Sys2Proof/Laws/MovesFlashOps.lean ====
section
/-!
SUPPORT. What each function of Machine/FlashOps.lean may change.
-/

namespace Sys2Proof.Machine

/-- What `State.setFlashOp` may change: flash; registers of PD 2. -/
theorem State.setFlashOp_moves (s : State) (b : ℕ) (o : Option FlashOp) : Moves 0x1000200000000 s (State.setFlashOp s b o) := by
  unfold State.setFlashOp
  apply Moves.ite
  refine .step ?_ (State.setB_moves (d := 2) rfl) (by decide)
  refine .step ?_ (State.setB_moves (d := 2) rfl) (by decide)
  refine .step ?_ (State.upd_flash_moves ..) (by decide)
  exact .refl ..
  refine .step ?_ (State.setB_moves (d := 2) rfl) (by decide)
  refine .step ?_ (State.upd_flash_moves ..) (by decide)
  exact .refl ..

/-- What `State.scramble` may change: free, mem. -/
theorem State.scramble_moves (s : State) (a : ℕ) (n : ℕ) : Moves 0x200000000001 s (State.scramble s a n) := by
  unfold State.scramble
  refine .step ?_ (State.wrBytes_moves ..) (by decide)
  refine .step ?_ (State.upd_free_moves ..) (by decide)
  exact .refl ..

/-- What `State.clearEcc` may change: flash. -/
theorem State.clearEcc_moves (s : State) (a : ℕ) (n : ℕ) : Moves 0x200000000 s (State.clearEcc s a n) := by
  unfold State.clearEcc
  refine .step ?_ (State.upd_flash_moves ..) (by decide)
  exact .refl ..

/-- What `State.flashApply` may change: flash, mem. -/
theorem State.flashApply_moves (s : State) (o : FlashOp) : Moves 0x200200000000 s (State.flashApply s o) := by
  unfold State.flashApply
  refine Moves.foldl ?_ ?_
  refine Moves.foldl ?_ ?_
  exact .refl ..
  intro u3_0 u3_1
  refine .step ?_ (State.clearEcc_moves ..) (by decide)
  refine .step ?_ (State.wipe_moves ..) (by decide)
  exact .refl ..
  intro u3_0 u3_1
  refine .step ?_ (State.wrBytes_moves ..) (by decide)
  exact .refl ..

/-- What `State.flashTorn` may change: free, mem. -/
theorem State.flashTorn_moves (s : State) (o : FlashOp) : Moves 0x200000000001 s (State.flashTorn s o) := by
  unfold State.flashTorn
  refine Moves.foldl ?_ ?_
  refine Moves.foldl ?_ ?_
  exact .refl ..
  intro u3_0 u3_1
  refine .step ?_ (State.scramble_moves ..) (by decide)
  exact .refl ..
  intro u3_0 u3_1
  refine .step ?_ (State.scramble_moves ..) (by decide)
  exact .refl ..

/-- What `State.flcEnd` may change: icu; registers of PD 2, 6. -/
theorem State.flcEnd_moves (s : State) (code : ℕ) : Moves 0x11000000000020 s (State.flcEnd s code) := by
  unfold State.flcEnd
  apply Moves.ite
  refine .step ?_ (State.flagRise_moves (d := 2) rfl) (by decide)
  refine .step ?_ (State.set_moves (d := 2) rfl) (by decide)
  exact .refl ..
  refine .step ?_ (State.flagRise_moves (d := 2) rfl) (by decide)
  refine .step ?_ (State.flagRise_moves (d := 2) rfl) (by decide)
  refine .step ?_ (State.set_moves (d := 2) rfl) (by decide)
  exact .refl ..

/-- What `State.flashTell` may change: crerus. -/
theorem State.flashTell_moves (s : State) (code : ℕ) : Moves 0x40000000 s (State.flashTell s code) := by
  unfold State.flashTell
  refine .step ?_ (State.upd_crerus_moves ..) (by decide)
  exact .refl ..

/-- What `State.flashEnd` may change: free, icu, crerus, flash, mem; registers of PD 2, 6. -/
theorem State.flashEnd_moves (s : State) (b : ℕ) (code : ℕ) : Moves 0x11200240000021 s (State.flashEnd s b code) := by
  unfold State.flashEnd
  split
  exact .refl ..
  apply Moves.ite
  refine .step ?_ (State.flcEnd_moves ..) (by decide)
  refine .step ?_ (State.setFlashOp_moves ..) (by decide)
  apply Moves.ite
  refine .step ?_ (State.flashApply_moves ..) (by decide)
  exact .refl ..
  refine .step ?_ (State.flashTorn_moves ..) (by decide)
  exact .refl ..
  apply Moves.ite
  refine .step ?_ (State.flashTell_moves ..) (by decide)
  refine .step ?_ (State.setFlashOp_moves ..) (by decide)
  apply Moves.ite
  refine .step ?_ (State.flashApply_moves ..) (by decide)
  exact .refl ..
  refine .step ?_ (State.flashTorn_moves ..) (by decide)
  exact .refl ..
  refine .step ?_ (State.setFlashOp_moves ..) (by decide)
  apply Moves.ite
  refine .step ?_ (State.flashApply_moves ..) (by decide)
  exact .refl ..
  refine .step ?_ (State.flashTorn_moves ..) (by decide)
  exact .refl ..

/-- What `State.flashStop` may change: free, icu, crerus, flash, mem; registers of PD 2, 6. -/
theorem State.flashStop_moves (s : State) : Moves 0x11200240000021 s (State.flashStop s) := by
  unfold State.flashStop
  refine .step ?_ (State.flashEnd_moves ..) (by decide)
  refine .step ?_ (State.flashEnd_moves ..) (by decide)
  exact .refl ..

/-- What `State.flcLapse` may change: icu, seq; registers of PD 2, 6. -/
theorem State.flcLapse_moves (s : State) : Moves 0x11000008000020 s (State.flcLapse s) := by
  unfold State.flcLapse
  refine .step ?_ (State.flcEnd_moves ..) (by decide)
  refine .step ?_ (State.set_moves (d := 2) rfl) (by decide)
  refine .step ?_ (State.upd_seq_moves ..) (by decide)
  exact .refl ..

/-- What `State.flcArm` may change: icu, seq; registers of PD 2, 6. -/
theorem State.flcArm_moves (s : State) (q : Who) (v : ℕ) : Moves 0x11000008000020 s (State.flcArm s q v) := by
  unfold State.flcArm
  apply Moves.ite
  exact .refl ..
  apply Moves.ite
  refine .step ?_ (State.flcLapse_moves ..) (by decide)
  exact .refl ..
  refine .step ?_ (State.set_moves (d := 2) rfl) (by decide)
  refine .step ?_ (State.upd_seq_moves ..) (by decide)
  exact .refl ..

/-- What `State.flcCmd` may change: icu, seq, flash; registers of PD 2, 6. -/
theorem State.flcCmd_moves (s : State) (q : Who) (v : ℕ) : Moves 0x11000208000020 s (State.flcCmd s q v) := by
  unfold State.flcCmd
  apply Moves.ite
  refine .step ?_ (State.flcLapse_moves ..) (by decide)
  exact .refl ..
  split
  dsimp only
  split
  refine .step ?_ (State.flcEnd_moves ..) (by decide)
  refine .step ?_ (State.set_moves (d := 2) rfl) (by decide)
  refine .step ?_ (State.upd_seq_moves ..) (by decide)
  exact .refl ..
  refine .step ?_ (State.set_moves (d := 2) rfl) (by decide)
  refine .step ?_ (State.setFlashOp_moves ..) (by decide)
  refine .step ?_ (State.set_moves (d := 2) rfl) (by decide)
  refine .step ?_ (State.upd_seq_moves ..) (by decide)
  exact .refl ..
  dsimp only
  split
  refine .step ?_ (State.flcEnd_moves ..) (by decide)
  refine .step ?_ (State.set_moves (d := 2) rfl) (by decide)
  refine .step ?_ (State.upd_seq_moves ..) (by decide)
  exact .refl ..
  refine .step ?_ (State.set_moves (d := 2) rfl) (by decide)
  refine .step ?_ (State.setFlashOp_moves ..) (by decide)
  refine .step ?_ (State.set_moves (d := 2) rfl) (by decide)
  refine .step ?_ (State.upd_seq_moves ..) (by decide)
  exact .refl ..

/-- What `State.eccWindow` may change: health, flash; registers of PD 0. -/
theorem State.eccWindow_moves (s : State) : Moves 0x400200800000 s (State.eccWindow s) := by
  unfold State.eccWindow
  apply Moves.ite
  refine .step ?_ (State.advise_moves ..) (by decide)
  refine .step ?_ (State.upd_flash_moves ..) (by decide)
  exact .refl ..
  refine .step ?_ (State.upd_flash_moves ..) (by decide)
  exact .refl ..

/-- What `State.eccRead` may change: icu, health, flash; registers of PD 0, 2, 6. -/
theorem State.eccRead_moves (s : State) (a : ℕ) : Moves 0x11400200800020 s (State.eccRead s a).2 := by
  unfold State.eccRead
  apply Moves.ite2
  refine .step ?_ (State.flagRise_moves (d := 2) rfl) (by decide)
  apply Moves.ite
  refine .step ?_ (State.inc_moves (d := 2) rfl) (by decide)
  exact .refl ..
  refine .step ?_ (State.set_moves (d := 2) rfl) (by decide)
  refine .step ?_ (State.inc_moves (d := 2) rfl) (by decide)
  exact .refl ..
  apply Moves.ite2
  refine .step ?_ (State.eccWindow_moves ..) (by decide)
  refine .step ?_ (State.flagRise_moves (d := 2) rfl) (by decide)
  apply Moves.ite
  refine .step ?_ (State.inc_moves (d := 2) rfl) (by decide)
  exact .refl ..
  refine .step ?_ (State.set_moves (d := 2) rfl) (by decide)
  refine .step ?_ (State.inc_moves (d := 2) rfl) (by decide)
  exact .refl ..
  exact .refl ..

end Sys2Proof.Machine
end

