-- ==== Sys2Proof/Laws/MovesEntryOps.lean ====
section
/-!
SUPPORT. What each function of Machine/EntryOps.lean may change.
-/

namespace Sys2Proof.Machine

/-- What `State.switchOn` may change: registers of PD 0. -/
theorem State.switchOn_moves (s : State) (d : ℕ) : Moves 0x400000000000 s (State.switchOn s d) := by
  unfold State.switchOn
  apply Moves.ite
  refine .step ?_ (State.set_moves (d := 0) (R.PWR_DOM_pd _)) (by decide)
  exact .refl ..
  exact .refl ..

/-- What `State.bringUp` may change: registers of PD 0. -/
theorem State.bringUp_moves (s : State) : Moves 0x400000000000 s (State.bringUp s) := by
  unfold State.bringUp
  refine Moves.foldl ?_ ?_
  exact .refl ..
  intro u2_0 u2_1
  refine .step ?_ (State.switchOn_moves ..) (by decide)
  exact .refl ..

/-- What `State.quiesceStrands` may change: pwr; registers of PD 0. -/
theorem State.quiesceStrands_moves (s : State) : Moves 0x404000000000 s (State.quiesceStrands s) := by
  unfold State.quiesceStrands
  refine Moves.foldl ?_ ?_
  exact .refl ..
  intro u3_0 u3_1
  apply Moves.ite
  refine .step ?_ (State.upd_pwr_moves ..) (by decide)
  refine .step ?_ (State.set_moves (d := 0) (R.PWR_DOM_pd _)) (by decide)
  exact .refl ..
  exact .refl ..

/-- What `State.freeCores` may change: core, pwr; registers of PD 0. -/
theorem State.freeCores_moves (s : State) : Moves 0x404001000000 s (State.freeCores s) := by
  unfold State.freeCores
  refine .step ?_ (State.upd_pwr_moves ..) (by decide)
  refine .step ?_ (State.set_moves (d := 0) rfl) (by decide)
  refine .step ?_ (State.upd_core_moves ..) (by decide)
  exact .refl ..

/-- What `State.tellEntry` may change: crerus, pwr. -/
theorem State.tellEntry_moves (s : State) (status : ℕ) (data : List ℕ) : Moves 0x4040000000 s (State.tellEntry s status data) := by
  unfold State.tellEntry
  split
  exact .refl ..
  refine .step ?_ (State.upd_crerus_pwr_moves ..) (by decide)
  exact .refl ..

/-- What `State.abandonEntry` may change: core, crerus, pwr; registers of PD 0, 10. -/
theorem State.abandonEntry_moves (s : State) (reason : ℕ) : Moves 0x100404041000000 s (State.abandonEntry s reason) := by
  unfold State.abandonEntry
  apply Moves.ite
  exact .refl ..
  refine .step ?_ (State.bringUp_moves ..) (by decide)
  refine .step ?_ (State.set_moves (d := 10) rfl) (by decide)
  refine .step ?_ (State.set_moves (d := 0) rfl) (by decide)
  refine .step ?_ (State.upd_pwr_moves ..) (by decide)
  refine Moves.foldl ?_ ?_
  refine .step ?_ (State.freeCores_moves ..) (by decide)
  refine .step ?_ (State.tellEntry_moves ..) (by decide)
  exact .refl ..
  intro u3_0 u3_1
  refine .step ?_ (State.set_moves (d := 0) (R.PWR_DOM_pd _)) (by decide)
  exact .refl ..

end Sys2Proof.Machine
end

