-- ==== Sys2Proof/Laws/MovesPairOps.lean ====
section
/-!
SUPPORT. What each function of Machine/PairOps.lean may change.
-/

namespace Sys2Proof.Machine

/-- What `State.updPwm` may change: pwm. -/
theorem State.updPwm_moves (s : State) (p : ℕ) (f : Pwm → Pwm) : Moves 0x4000 s (State.updPwm s p f) := by
  unfold State.updPwm
  refine .step ?_ (State.upd_pwm_moves ..) (by decide)
  exact .refl ..

/-- What `State.updLane` may change: lane. -/
theorem State.updLane_moves (s : State) (k : ℕ) (f : Lane → Lane) : Moves 0x800 s (State.updLane s k f) := by
  unfold State.updLane
  refine .step ?_ (State.upd_lane_moves ..) (by decide)
  exact .refl ..

/-- What `State.conflictFlag` may change: registers of PD 6. -/
theorem State.conflictFlag_moves (s : State) (k : ℕ) : Moves 0x10000000000000 s (State.conflictFlag s k) := by
  unfold State.conflictFlag
  refine .step ?_ (State.set_moves (d := 6) rfl) (by decide)
  refine .step ?_ (State.inc_moves (d := 6) rfl) (by decide)
  exact .refl ..

/-- What `State.conflict` may change: icu; registers of PD 6. -/
theorem State.conflict_moves (s : State) (k : ℕ) : Moves 0x10000000000020 s (State.conflict s k) := by
  unfold State.conflict
  refine .step ?_ (State.flagRise_moves (d := 6) rfl) (by decide)
  refine .step ?_ (State.inc_moves (d := 6) rfl) (by decide)
  exact .refl ..

/-- What `State.tripPair` may change: icu, pwm; registers of PD 6. -/
theorem State.tripPair_moves (s : State) (p : ℕ) (c : ℕ) : Moves 0x10000000004020 s (State.tripPair s p c) := by
  unfold State.tripPair
  apply Moves.ite
  refine .step ?_ (State.updPwm_moves ..) (by decide)
  exact .refl ..
  refine .step ?_ (State.raiseIf_moves ..) (by decide)
  refine .step ?_ (State.updPwm_moves ..) (by decide)
  refine .step ?_ (State.set_moves (d := 6) rfl) (by decide)
  refine .step ?_ (State.set_moves (d := 6) rfl) (by decide)
  refine .step ?_ (State.set_moves (d := 6) rfl) (by decide)
  refine .step ?_ (State.updPwm_moves ..) (by decide)
  exact .refl ..

/-- What `State.tripCouple` may change: icu, pwm; registers of PD 6. -/
theorem State.tripCouple_moves (s : State) (p : ℕ) (c : ℕ) : Moves 0x10000000004020 s (State.tripCouple s p c) := by
  unfold State.tripCouple
  apply Moves.ite
  refine .step ?_ (State.tripPair_moves ..) (by decide)
  refine .step ?_ (State.tripPair_moves ..) (by decide)
  exact .refl ..
  refine .step ?_ (State.tripPair_moves ..) (by decide)
  exact .refl ..

/-- What `State.blankBy` may change: cmp; registers of PD 7. -/
theorem State.blankBy_moves (s : State) (p : ℕ) : Moves 0x20000000000100 s (State.blankBy s p) := by
  unfold State.blankBy
  refine Moves.foldl ?_ ?_
  exact .refl ..
  intro u3_0 u3_1
  apply Moves.ite
  apply Moves.ite
  refine .step ?_ (State.set_moves (d := 7) rfl) (by decide)
  refine .step ?_ (State.set_moves (d := 7) rfl) (by decide)
  refine .step ?_ (State.upd_cmp_moves ..) (by decide)
  exact .refl ..
  refine .step ?_ (State.upd_cmp_moves ..) (by decide)
  exact .refl ..
  exact .refl ..

/-- What `State.judgeOn` may change: icu, cmp, pwm; registers of PD 6, 7. -/
theorem State.judgeOn_moves (s : State) (ps : List ℕ) : Moves 0x30000000004120 s (State.judgeOn s ps).1 := by
  unfold State.judgeOn
  dsimp only
  refine Moves.foldl ?_ ?_
  refine Moves.foldl ?_ ?_
  exact .refl ..
  intro u3_0 u3_1
  refine .step ?_ (State.tripCouple_moves ..) (by decide)
  exact .refl ..
  intro u4_0 u4_1
  refine .step ?_ (State.blankBy_moves ..) (by decide)
  exact .refl ..

/-- What `State.judgeTrip` may change: icu, cmp, pwm; registers of PD 6, 7. -/
theorem State.judgeTrip_moves (s : State) (p : ℕ) : Moves 0x30000000004120 s (State.judgeTrip s p).1 := by
  unfold State.judgeTrip
  refine .step ?_ (State.judgeOn_moves ..) (by decide)
  exact .refl ..

/-- What `State.judgeTrips` may change: icu, cmp, pwm; registers of PD 6, 7. -/
theorem State.judgeTrips_moves (s : State) : Moves 0x30000000004120 s (State.judgeTrips s).1 := by
  unfold State.judgeTrips
  refine .step ?_ (State.judgeOn_moves ..) (by decide)
  exact .refl ..

/-- What `State.drivenTrips` may change: icu, cmp, pwm; registers of PD 6, 7. -/
theorem State.drivenTrips_moves (s : State) : Moves 0x30000000004120 s (State.drivenTrips s).1 := by
  unfold State.drivenTrips
  apply Moves.ite1
  refine .step ?_ (State.judgeTrips_moves ..) (by decide)
  exact .refl ..
  dsimp only
  exact .refl ..

/-- What `State.cmpRefresh` may change: icu, cmp, pwm; registers of PD 6, 7. -/
theorem State.cmpRefresh_moves (s : State) (j : ℕ) : Moves 0x30000000004120 s (State.cmpRefresh s j).1 := by
  unfold State.cmpRefresh
  apply Moves.ite1
  dsimp only
  exact .refl ..
  apply Moves.ite1
  extract_lets +onlyGivenNames v3
  refine Moves.bindV (v := v3) ?_ ?_
  unfold v3
  refine .step ?_ (State.raise_moves ..) (by decide)
  refine .step ?_ (State.set_moves (d := 7) rfl) (by decide)
  refine .step ?_ (State.set_moves (d := 7) rfl) (by decide)
  exact .refl ..
  intro hv3
  clear_value v3
  split
  dsimp only
  refine .step ?_ (Moves.fst (State.judgeTrips_moves ..) (by assumption)) (by decide)
  assumption
  dsimp only
  refine .step ?_ (State.set_moves (d := 7) rfl) (by decide)
  refine .step ?_ (State.set_moves (d := 7) rfl) (by decide)
  exact .refl ..

/-- What `State.outA` may change: cmp, pwm; registers of PD 7. -/
theorem State.outA_moves (s : State) (p : ℕ) (l : Level) : Moves 0x20000000004100 s (State.outA s p l) := by
  unfold State.outA
  apply Moves.ite
  refine .step ?_ (State.updPwm_moves ..) (by decide)
  exact .refl ..
  refine .step ?_ (State.blankBy_moves ..) (by decide)
  refine .step ?_ (State.updPwm_moves ..) (by decide)
  exact .refl ..

/-- What `State.outB` may change: pwm. -/
theorem State.outB_moves (s : State) (p : ℕ) (l : Level) : Moves 0x4000 s (State.outB s p l) := by
  unfold State.outB
  refine .step ?_ (State.updPwm_moves ..) (by decide)
  exact .refl ..

/-- What `State.riseA` may change: cmp, pwm; registers of PD 7. -/
theorem State.riseA_moves (s : State) (p : ℕ) : Moves 0x20000000004100 s (State.riseA s p) := by
  unfold State.riseA
  apply Moves.ite
  refine .step ?_ (State.outA_moves ..) (by decide)
  exact .refl ..
  refine .step ?_ (State.updPwm_moves ..) (by decide)
  exact .refl ..

/-- What `State.riseB` may change: pwm. -/
theorem State.riseB_moves (s : State) (p : ℕ) : Moves 0x4000 s (State.riseB s p) := by
  unfold State.riseB
  apply Moves.ite
  refine .step ?_ (State.outB_moves ..) (by decide)
  exact .refl ..
  refine .step ?_ (State.updPwm_moves ..) (by decide)
  exact .refl ..

/-- What `State.refA` may change: cmp, pwm; registers of PD 7. -/
theorem State.refA_moves (s : State) (p : ℕ) (r : Bool) : Moves 0x20000000004100 s (State.refA s p r) := by
  unfold State.refA
  apply Moves.ite
  exact .refl ..
  apply Moves.ite
  refine .step ?_ (State.outA_moves ..) (by decide)
  refine .step ?_ (State.updPwm_moves ..) (by decide)
  exact .refl ..
  apply Moves.ite
  refine .step ?_ (State.riseA_moves ..) (by decide)
  refine .step ?_ (State.outB_moves ..) (by decide)
  refine .step ?_ (State.updPwm_moves ..) (by decide)
  refine .step ?_ (State.updPwm_moves ..) (by decide)
  exact .refl ..
  refine .step ?_ (State.riseB_moves ..) (by decide)
  refine .step ?_ (State.outA_moves ..) (by decide)
  refine .step ?_ (State.updPwm_moves ..) (by decide)
  exact .refl ..

/-- What `State.refB` may change: pwm. -/
theorem State.refB_moves (s : State) (p : ℕ) (r : Bool) : Moves 0x4000 s (State.refB s p r) := by
  unfold State.refB
  apply Moves.ite
  exact .refl ..
  refine .step ?_ (State.outB_moves ..) (by decide)
  refine .step ?_ (State.updPwm_moves ..) (by decide)
  exact .refl ..

/-- What `State.settleB` may change: pwm. -/
theorem State.settleB_moves (s : State) (p : ℕ) : Moves 0x4000 s (State.settleB s p) := by
  unfold State.settleB
  apply Moves.ite
  refine .step ?_ (State.outB_moves ..) (by decide)
  refine .step ?_ (State.updPwm_moves ..) (by decide)
  refine .step ?_ (State.updPwm_moves ..) (by decide)
  exact .refl ..
  apply Moves.ite
  refine .step ?_ (State.updPwm_moves ..) (by decide)
  exact .refl ..
  refine .step ?_ (State.riseB_moves ..) (by decide)
  refine .step ?_ (State.updPwm_moves ..) (by decide)
  exact .refl ..

/-- What `State.idleOut` may change: cmp, pwm; registers of PD 7. -/
theorem State.idleOut_moves (s : State) (p : ℕ) : Moves 0x20000000004100 s (State.idleOut s p) := by
  unfold State.idleOut
  refine .step ?_ (State.outB_moves ..) (by decide)
  refine .step ?_ (State.outA_moves ..) (by decide)
  refine .step ?_ (State.updPwm_moves ..) (by decide)
  exact .refl ..

/-- What `State.leaveIdle` may change: cmp, pwm; registers of PD 7. -/
theorem State.leaveIdle_moves (s : State) (p : ℕ) (a : Bool) (b : Bool) : Moves 0x20000000004100 s (State.leaveIdle s p a b) := by
  unfold State.leaveIdle
  apply Moves.ite
  apply Moves.ite
  refine .step ?_ (State.outB_moves ..) (by decide)
  apply Moves.ite
  apply Moves.ite
  refine .step ?_ (State.outA_moves ..) (by decide)
  refine .step ?_ (State.updPwm_moves ..) (by decide)
  refine .step ?_ (State.idleOut_moves ..) (by decide)
  exact .refl ..
  refine .step ?_ (State.updPwm_moves ..) (by decide)
  refine .step ?_ (State.updPwm_moves ..) (by decide)
  refine .step ?_ (State.idleOut_moves ..) (by decide)
  exact .refl ..
  refine .step ?_ (State.updPwm_moves ..) (by decide)
  refine .step ?_ (State.idleOut_moves ..) (by decide)
  exact .refl ..
  refine .step ?_ (State.updPwm_moves ..) (by decide)
  apply Moves.ite
  apply Moves.ite
  refine .step ?_ (State.outA_moves ..) (by decide)
  refine .step ?_ (State.updPwm_moves ..) (by decide)
  refine .step ?_ (State.idleOut_moves ..) (by decide)
  exact .refl ..
  refine .step ?_ (State.updPwm_moves ..) (by decide)
  refine .step ?_ (State.updPwm_moves ..) (by decide)
  refine .step ?_ (State.idleOut_moves ..) (by decide)
  exact .refl ..
  refine .step ?_ (State.updPwm_moves ..) (by decide)
  refine .step ?_ (State.idleOut_moves ..) (by decide)
  exact .refl ..
  apply Moves.ite
  apply Moves.ite
  refine .step ?_ (State.outA_moves ..) (by decide)
  refine .step ?_ (State.updPwm_moves ..) (by decide)
  refine .step ?_ (State.idleOut_moves ..) (by decide)
  exact .refl ..
  refine .step ?_ (State.updPwm_moves ..) (by decide)
  refine .step ?_ (State.updPwm_moves ..) (by decide)
  refine .step ?_ (State.idleOut_moves ..) (by decide)
  exact .refl ..
  refine .step ?_ (State.updPwm_moves ..) (by decide)
  refine .step ?_ (State.idleOut_moves ..) (by decide)
  exact .refl ..

/-- What `State.clamped` may change: registers of PD 6. -/
theorem State.clamped_moves (s : State) (p : ℕ) (c : List PwmField) : Moves 0x10000000000000 s (State.clamped s p c) := by
  unfold State.clamped
  apply Moves.ite
  exact .refl ..
  refine Moves.foldl ?_ ?_
  refine .step ?_ (State.set_moves (d := 6) rfl) (by decide)
  exact .refl ..
  intro u3_0 u3_1
  split
  refine .step ?_ (State.set_moves (d := 6) rfl) (by decide)
  exact .refl ..
  exact .refl ..

/-- What `State.placeEdges` may change: pwm; registers of PD 6. -/
theorem State.placeEdges_moves (s : State) (p : ℕ) : Moves 0x10000000004000 s (State.placeEdges s p) := by
  unfold State.placeEdges
  refine .step ?_ (State.clamped_moves ..) (by decide)
  refine .step ?_ (State.updPwm_moves ..) (by decide)
  exact .refl ..

/-- What `State.putForce` may change: pwm; registers of PD 6. -/
theorem State.putForce_moves (s : State) (p : ℕ) (f : PwmField) (v : ℕ) : Moves 0x10000000004000 s (State.putForce s p f v) := by
  unfold State.putForce
  split
  refine .step ?_ (State.set_moves (d := 6) rfl) (by decide)
  exact .refl ..
  refine .step ?_ (State.set_moves (d := 6) rfl) (by decide)
  exact .refl ..
  refine .step ?_ (State.set_moves (d := 6) rfl) (by decide)
  exact .refl ..
  refine .step ?_ (State.set_moves (d := 6) rfl) (by decide)
  exact .refl ..
  refine .step ?_ (State.updPwm_moves ..) (by decide)
  exact .refl ..
  refine .step ?_ (State.updPwm_moves ..) (by decide)
  exact .refl ..

/-- What `State.putWritten` may change: registers of PD 6. -/
theorem State.putWritten_moves (s : State) (p : ℕ) (f : PwmField) (v : ℕ) : Moves 0x10000000000000 s (State.putWritten s p f v) := by
  unfold State.putWritten
  split
  refine .step ?_ (State.set_moves (d := 6) rfl) (by decide)
  exact .refl ..
  refine .step ?_ (State.set_moves (d := 6) rfl) (by decide)
  exact .refl ..
  refine .step ?_ (State.set_moves (d := 6) rfl) (by decide)
  exact .refl ..
  refine .step ?_ (State.set_moves (d := 6) rfl) (by decide)
  exact .refl ..
  refine .step ?_ (State.set_moves (d := 6) rfl) (by decide)
  exact .refl ..
  refine .step ?_ (State.set_moves (d := 6) rfl) (by decide)
  exact .refl ..

/-- What `State.writeField` may change: pwm; registers of PD 6. -/
theorem State.writeField_moves (s : State) (p : ℕ) (f : PwmField) (v : ℕ) (lane : Option ℕ) : Moves 0x10000000004000 s (State.writeField s p f v lane) := by
  unfold State.writeField
  apply Moves.ite
  refine .step ?_ (State.set_moves (d := 6) rfl) (by decide)
  refine .step ?_ (State.updPwm_moves ..) (by decide)
  refine .step ?_ (State.putWritten_moves ..) (by decide)
  exact .refl ..
  refine .step ?_ (State.updPwm_moves ..) (by decide)
  refine .step ?_ (State.putWritten_moves ..) (by decide)
  exact .refl ..

/-- What `State.shadowIn` may change: pwm; registers of PD 6. -/
theorem State.shadowIn_moves (s : State) (p : ℕ) : Moves 0x10000000004000 s (State.shadowIn s p) := by
  unfold State.shadowIn
  refine Moves.foldl ?_ ?_
  exact .refl ..
  intro u3_0 u3_1
  refine .step ?_ (State.putForce_moves ..) (by decide)
  exact .refl ..

/-- What `State.deferIn` may change: pwm; registers of PD 6. -/
theorem State.deferIn_moves (s : State) (p : ℕ) : Moves 0x10000000004000 s (State.deferIn s p) := by
  unfold State.deferIn
  refine .step ?_ (State.updPwm_moves ..) (by decide)
  refine Moves.foldl ?_ ?_
  exact .refl ..
  intro u3_0 u3_1
  refine .step ?_ (State.putForce_moves ..) (by decide)
  exact .refl ..

/-- What `State.guardTrg` may change: pwm. -/
theorem State.guardTrg_moves (s : State) (p : ℕ) (n : ℕ) (t : ℕ) (v : ℕ) : Moves 0x4000 s (State.guardTrg s p n t v).1 := by
  unfold State.guardTrg
  dsimp only
  refine .step ?_ (State.updPwm_moves ..) (by decide)
  exact .refl ..

/-- What `State.guardEdges` may change: pwm; registers of PD 6. -/
theorem State.guardEdges_moves (s : State) (p : ℕ) (n : ℕ) (d : PwmLoad) : Moves 0x10000000004000 s (State.guardEdges s p n d).1 := by
  unfold State.guardEdges
  dsimp only
  split
  apply Moves.ite
  refine .step ?_ (State.set_moves (d := 6) rfl) (by decide)
  apply Moves.ite
  refine .step ?_ (State.updPwm_moves ..) (by decide)
  apply Moves.ite
  refine .step ?_ (State.putForce_moves ..) (by decide)
  exact .refl ..
  exact .refl ..
  refine .step ?_ (State.set_moves (d := 6) rfl) (by decide)
  refine .step ?_ (State.updPwm_moves ..) (by decide)
  apply Moves.ite
  refine .step ?_ (State.putForce_moves ..) (by decide)
  exact .refl ..
  exact .refl ..
  apply Moves.ite
  refine .step ?_ (State.updPwm_moves ..) (by decide)
  apply Moves.ite
  refine .step ?_ (State.putForce_moves ..) (by decide)
  exact .refl ..
  exact .refl ..
  refine .step ?_ (State.set_moves (d := 6) rfl) (by decide)
  refine .step ?_ (State.updPwm_moves ..) (by decide)
  apply Moves.ite
  refine .step ?_ (State.putForce_moves ..) (by decide)
  exact .refl ..
  exact .refl ..
  apply Moves.ite
  refine .step ?_ (State.updPwm_moves ..) (by decide)
  apply Moves.ite
  refine .step ?_ (State.putForce_moves ..) (by decide)
  exact .refl ..
  exact .refl ..
  refine .step ?_ (State.set_moves (d := 6) rfl) (by decide)
  refine .step ?_ (State.updPwm_moves ..) (by decide)
  apply Moves.ite
  refine .step ?_ (State.putForce_moves ..) (by decide)
  exact .refl ..
  exact .refl ..

/-- What `State.guardLoad` may change: pwm; registers of PD 6. -/
theorem State.guardLoad_moves (s : State) (p : ℕ) (n : ℕ) (d : PwmLoad) : Moves 0x10000000004000 s (State.guardLoad s p n d) := by
  unfold State.guardLoad
  apply Moves.ite
  split
  refine .step ?_ (State.guardTrg_moves ..) (by decide)
  refine .step ?_ (State.updPwm_moves ..) (by decide)
  exact .refl ..
  refine .step ?_ (State.guardTrg_moves ..) (by decide)
  refine .step ?_ (State.updPwm_moves ..) (by decide)
  exact .refl ..
  refine .step ?_ (State.guardEdges_moves ..) (by decide)
  refine .step ?_ (State.updPwm_moves ..) (by decide)
  exact .refl ..
  extract_lets +onlyGivenNames v3
  refine Moves.bindV (v := v3) ?_ ?_
  unfold v3
  refine .step ?_ (State.updPwm_moves ..) (by decide)
  split
  refine .step ?_ (State.guardTrg_moves ..) (by decide)
  refine .step ?_ (State.updPwm_moves ..) (by decide)
  exact .refl ..
  refine .step ?_ (State.guardTrg_moves ..) (by decide)
  refine .step ?_ (State.updPwm_moves ..) (by decide)
  exact .refl ..
  refine .step ?_ (State.guardEdges_moves ..) (by decide)
  refine .step ?_ (State.updPwm_moves ..) (by decide)
  exact .refl ..
  intro hv3
  clear_value v3
  refine .step ?_ (State.set_moves (d := 6) rfl) (by decide)
  refine .step ?_ (State.set_moves (d := 6) rfl) (by decide)
  assumption

/-- What `State.handValue` may change: pwm; registers of PD 6. -/
theorem State.handValue_moves (s : State) (p : ℕ) (d : PwmLoad) : Moves 0x10000000004000 s (State.handValue s p d) := by
  unfold State.handValue
  apply Moves.ite
  refine .step ?_ (State.updPwm_moves ..) (by decide)
  refine .step ?_ (State.writeField_moves ..) (by decide)
  exact .refl ..
  refine .step ?_ (State.writeField_moves ..) (by decide)
  exact .refl ..

/-- What `State.immediateTransfer` may change: pwm. -/
theorem State.immediateTransfer_moves (s : State) (p : ℕ) : Moves 0x4000 s (State.immediateTransfer s p) := by
  unfold State.immediateTransfer
  apply Moves.ite
  exact .refl ..
  refine .step ?_ (State.updPwm_moves ..) (by decide)
  exact .refl ..

/-- What `State.ctrlIn` may change: pwm. -/
theorem State.ctrlIn_moves (s : State) (p : ℕ) : Moves 0x4000 s (State.ctrlIn s p) := by
  unfold State.ctrlIn
  refine .step ?_ (State.updPwm_moves ..) (by decide)
  exact .refl ..

/-- What `State.deadTime` may change: icu, pwm; registers of PD 6. -/
theorem State.deadTime_moves (s : State) (p : ℕ) (rise : Bool) : Moves 0x10000000004020 s (State.deadTime s p rise) := by
  unfold State.deadTime
  apply Moves.ite
  apply Moves.ite
  refine .step ?_ (State.updPwm_moves ..) (by decide)
  exact .refl ..
  refine .step ?_ (State.set_moves (d := 6) (by split <;> rfl)) (by decide)
  refine .step ?_ (State.updPwm_moves ..) (by decide)
  exact .refl ..
  apply Moves.ite
  refine .step ?_ (State.conflict_moves ..) (by decide)
  refine .step ?_ (State.set_moves (d := 6) (by split <;> rfl)) (by decide)
  refine .step ?_ (State.updPwm_moves ..) (by decide)
  exact .refl ..
  refine .step ?_ (State.set_moves (d := 6) (by split <;> rfl)) (by decide)
  refine .step ?_ (State.updPwm_moves ..) (by decide)
  exact .refl ..

/-- What `State.burstStep` may change: pwm; registers of PD 6. -/
theorem State.burstStep_moves (s : State) (p : ℕ) : Moves 0x10000000004000 s (State.burstStep s p) := by
  unfold State.burstStep
  apply Moves.ite
  refine .step ?_ (State.set_moves (d := 6) rfl) (by decide)
  exact .refl ..
  refine .step ?_ (State.setB_moves (d := 6) rfl) (by decide)
  refine .step ?_ (State.updPwm_moves ..) (by decide)
  exact .refl ..

/-- What `State.judgeRelease` may change: cmp, pwm; registers of PD 6, 7. -/
theorem State.judgeRelease_moves (s : State) (p : ℕ) : Moves 0x30000000004100 s (State.judgeRelease s p) := by
  unfold State.judgeRelease
  apply Moves.ite
  refine .step ?_ (State.idleOut_moves ..) (by decide)
  refine .step ?_ (State.set_moves (d := 6) rfl) (by decide)
  refine .step ?_ (State.set_moves (d := 6) rfl) (by decide)
  refine .step ?_ (State.updPwm_moves ..) (by decide)
  exact .refl ..
  exact .refl ..

/-- What `State.respread` may change: registers of PD 6. -/
theorem State.respread_moves (s : State) (g : ℕ) : Moves 0x10000000000000 s (State.respread s g) := by
  unfold State.respread
  refine Moves.foldl ?_ ?_
  exact .refl ..
  intro u3_0 u3_1
  refine .step ?_ (State.set_moves (d := 6) rfl) (by decide)
  refine .step ?_ (State.set_moves (d := 6) rfl) (by decide)
  exact .refl ..

/-- What `State.shedStep` may change: lane, pwm; registers of PD 6. -/
theorem State.shedStep_moves (s : State) (p : ℕ) : Moves 0x10000000004800 s (State.shedStep s p) := by
  unfold State.shedStep
  refine .step ?_ (State.updPwm_moves ..) (by decide)
  split
  refine .step ?_ (State.respread_moves ..) (by decide)
  split
  apply Moves.ite
  refine .step ?_ (State.setB_moves (d := 6) rfl) (by decide)
  exact .refl ..
  refine .step ?_ (State.updLane_moves ..) (by decide)
  refine .step ?_ (State.setB_moves (d := 6) rfl) (by decide)
  exact .refl ..
  exact .refl ..
  split
  apply Moves.ite
  refine .step ?_ (State.setB_moves (d := 6) rfl) (by decide)
  exact .refl ..
  refine .step ?_ (State.updLane_moves ..) (by decide)
  refine .step ?_ (State.setB_moves (d := 6) rfl) (by decide)
  exact .refl ..
  exact .refl ..

/-- What `State.takeVolt` may change: pwm. -/
theorem State.takeVolt_moves (s : State) (p : ℕ) : Moves 0x4000 s (State.takeVolt s p) := by
  unfold State.takeVolt
  refine .step ?_ (State.updPwm_moves ..) (by decide)
  exact .refl ..

/-- What `State.armRamps` may change: cmp. -/
theorem State.armRamps_moves (s : State) (p : ℕ) : Moves 0x100 s (State.armRamps s p) := by
  unfold State.armRamps
  refine Moves.foldl ?_ ?_
  exact .refl ..
  intro u3_0 u3_1
  apply Moves.ite
  refine .step ?_ (State.upd_cmp_moves ..) (by decide)
  exact .refl ..
  exact .refl ..

/-- What `State.disarmRamps` may change: cmp. -/
theorem State.disarmRamps_moves (s : State) (p : ℕ) : Moves 0x100 s (State.disarmRamps s p) := by
  unfold State.disarmRamps
  refine Moves.foldl ?_ ?_
  exact .refl ..
  intro u3_0 u3_1
  apply Moves.ite
  refine .step ?_ (State.upd_cmp_moves ..) (by decide)
  exact .refl ..
  exact .refl ..

/-- What `State.valuesIn` may change: pwm; registers of PD 6. -/
theorem State.valuesIn_moves (s : State) (p : ℕ) : Moves 0x10000000004000 s (State.valuesIn s p) := by
  unfold State.valuesIn
  refine .step ?_ (State.deferIn_moves ..) (by decide)
  apply Moves.ite
  refine .step ?_ (State.ctrlIn_moves ..) (by decide)
  exact .refl ..
  refine .step ?_ (State.shadowIn_moves ..) (by decide)
  refine .step ?_ (State.ctrlIn_moves ..) (by decide)
  exact .refl ..

/-- What `State.takePeriod` may change: icu, pwm; registers of PD 6. -/
theorem State.takePeriod_moves (s : State) (p : ℕ) (cont : Bool) : Moves 0x10000000004020 s (State.takePeriod s p cont) := by
  unfold State.takePeriod
  refine .step ?_ (State.updPwm_moves ..) (by decide)
  refine .step ?_ (State.placeEdges_moves ..) (by decide)
  refine .step ?_ (State.burstStep_moves ..) (by decide)
  refine .step ?_ (State.takeVolt_moves ..) (by decide)
  refine .step ?_ (State.deadTime_moves ..) (by decide)
  refine .step ?_ (State.deadTime_moves ..) (by decide)
  apply Moves.ite
  refine .step ?_ (State.set_moves (d := 6) rfl) (by decide)
  refine .step ?_ (State.valuesIn_moves ..) (by decide)
  exact .refl ..
  refine .step ?_ (State.valuesIn_moves ..) (by decide)
  exact .refl ..

/-- What `State.levelsAt` may change: cmp, pwm; registers of PD 6, 7. -/
theorem State.levelsAt_moves (s : State) (p : ℕ) (t : ℕ) (fresh : Bool) : Moves 0x30000000004100 s (State.levelsAt s p t fresh) := by
  unfold State.levelsAt
  apply Moves.ite
  refine .step ?_ (State.idleOut_moves ..) (by decide)
  apply Moves.ite
  refine .step ?_ (State.set_moves (d := 6) rfl) (by decide)
  exact .refl ..
  exact .refl ..
  apply Moves.ite
  refine .step ?_ (State.updPwm_moves ..) (by decide)
  refine .step ?_ (State.idleOut_moves ..) (by decide)
  apply Moves.ite
  refine .step ?_ (State.set_moves (d := 6) rfl) (by decide)
  exact .refl ..
  exact .refl ..
  apply Moves.ite
  refine .step ?_ (State.leaveIdle_moves ..) (by decide)
  apply Moves.ite
  refine .step ?_ (State.set_moves (d := 6) rfl) (by decide)
  exact .refl ..
  exact .refl ..
  extract_lets +onlyGivenNames v3
  refine Moves.bindV (v := v3) ?_ ?_
  unfold v3
  refine .step ?_ (State.refA_moves ..) (by decide)
  apply Moves.ite
  refine .step ?_ (State.set_moves (d := 6) rfl) (by decide)
  exact .refl ..
  exact .refl ..
  intro hv3
  clear_value v3
  apply Moves.ite
  refine .step ?_ (State.refB_moves ..) (by decide)
  assumption
  refine .step ?_ (State.settleB_moves ..) (by decide)
  assumption

/-- What `State.showCount` may change: registers of PD 6. -/
theorem State.showCount_moves (s : State) (p : ℕ) (x : ℕ) : Moves 0x10000000000000 s (State.showCount s p x) := by
  unfold State.showCount
  apply Moves.ite
  refine .step ?_ (State.set_moves (d := 6) rfl) (by decide)
  refine .step ?_ (State.set_moves (d := 6) rfl) (by decide)
  exact .refl ..
  refine .step ?_ (State.set_moves (d := 6) rfl) (by decide)
  refine .step ?_ (State.set_moves (d := 6) rfl) (by decide)
  exact .refl ..

/-- What `State.lagAt` may change: icu, cmp, lane, pwm; registers of PD 6, 7. -/
theorem State.lagAt_moves (s : State) (p : ℕ) (t : ℕ) (fresh : Bool) (start : Bool) : Moves 0x30000000004920 s (State.lagAt s p t fresh start) := by
  unfold State.lagAt
  apply Moves.ite
  refine .step ?_ (State.levelsAt_moves ..) (by decide)
  refine .step ?_ (State.showCount_moves ..) (by decide)
  apply Moves.ite
  refine .step ?_ (State.judgeRelease_moves ..) (by decide)
  refine .step ?_ (State.takePeriod_moves ..) (by decide)
  refine .step ?_ (State.shedStep_moves ..) (by decide)
  refine .step ?_ (State.updPwm_moves ..) (by decide)
  exact .refl ..
  refine .step ?_ (State.takePeriod_moves ..) (by decide)
  refine .step ?_ (State.shedStep_moves ..) (by decide)
  refine .step ?_ (State.updPwm_moves ..) (by decide)
  exact .refl ..
  exact .refl ..

/-- What `State.syncPair` may change: free, icu, cmp, lane, pwm; registers of PD 6, 7. -/
theorem State.syncPair_moves (s : State) (p : ℕ) : Moves 0x30000000004921 s (State.syncPair s p) := by
  unfold State.syncPair
  apply Moves.ite
  exact .refl ..
  apply Moves.ite
  refine .step ?_ (State.freeB_moves ..) (by decide)
  exact .refl ..
  apply Moves.ite
  refine .step ?_ (State.armRamps_moves ..) (by decide)
  apply Moves.ite
  refine .step ?_ (State.lagAt_moves ..) (by decide)
  refine .step ?_ (State.levelsAt_moves ..) (by decide)
  refine .step ?_ (State.showCount_moves ..) (by decide)
  refine .step ?_ (State.takePeriod_moves ..) (by decide)
  refine .step ?_ (State.updPwm_moves ..) (by decide)
  refine .step ?_ (State.freeB_moves ..) (by decide)
  exact .refl ..
  refine .step ?_ (State.levelsAt_moves ..) (by decide)
  refine .step ?_ (State.showCount_moves ..) (by decide)
  refine .step ?_ (State.takePeriod_moves ..) (by decide)
  refine .step ?_ (State.updPwm_moves ..) (by decide)
  refine .step ?_ (State.freeB_moves ..) (by decide)
  exact .refl ..
  apply Moves.ite
  refine .step ?_ (State.lagAt_moves ..) (by decide)
  refine .step ?_ (State.levelsAt_moves ..) (by decide)
  refine .step ?_ (State.showCount_moves ..) (by decide)
  refine .step ?_ (State.takePeriod_moves ..) (by decide)
  refine .step ?_ (State.updPwm_moves ..) (by decide)
  refine .step ?_ (State.freeB_moves ..) (by decide)
  exact .refl ..
  refine .step ?_ (State.levelsAt_moves ..) (by decide)
  refine .step ?_ (State.showCount_moves ..) (by decide)
  refine .step ?_ (State.takePeriod_moves ..) (by decide)
  refine .step ?_ (State.updPwm_moves ..) (by decide)
  refine .step ?_ (State.freeB_moves ..) (by decide)
  exact .refl ..

/-- What `State.periodEvents` may change: free, icu, cmp, lane, pwm; registers of PD 6, 7. -/
theorem State.periodEvents_moves (s : State) (p : ℕ) : Moves 0x30000000004921 s (State.periodEvents s p).1 := by
  unfold State.periodEvents
  apply Moves.ite1
  dsimp only
  exact .refl ..
  dsimp only
  refine Moves.foldl ?_ ?_
  refine .step ?_ (State.raiseIf_moves ..) (by decide)
  refine .step ?_ (State.armRamps_moves ..) (by decide)
  exact .refl ..
  intro u3_0 u3_1
  apply Moves.ite
  refine .step ?_ (State.syncPair_moves ..) (by decide)
  exact .refl ..
  exact .refl ..

/-- What `State.periodStart` may change: free, icu, cmp, lane, pwm; registers of PD 6, 7. -/
theorem State.periodStart_moves (s : State) (p : ℕ) (fresh : Bool) : Moves 0x30000000004921 s (State.periodStart s p fresh).1 := by
  unfold State.periodStart
  refine .step ?_ (State.periodEvents_moves ..) (by decide)
  apply Moves.ite
  refine .step ?_ (State.lagAt_moves ..) (by decide)
  refine .step ?_ (State.levelsAt_moves ..) (by decide)
  refine .step ?_ (State.set_moves (d := 6) rfl) (by decide)
  refine .step ?_ (State.set_moves (d := 6) rfl) (by decide)
  refine .step ?_ (State.judgeRelease_moves ..) (by decide)
  refine .step ?_ (State.takePeriod_moves ..) (by decide)
  refine .step ?_ (State.shedStep_moves ..) (by decide)
  refine .step ?_ (State.updPwm_moves ..) (by decide)
  exact .refl ..
  refine .step ?_ (State.levelsAt_moves ..) (by decide)
  refine .step ?_ (State.set_moves (d := 6) rfl) (by decide)
  refine .step ?_ (State.set_moves (d := 6) rfl) (by decide)
  refine .step ?_ (State.judgeRelease_moves ..) (by decide)
  refine .step ?_ (State.takePeriod_moves ..) (by decide)
  refine .step ?_ (State.shedStep_moves ..) (by decide)
  refine .step ?_ (State.updPwm_moves ..) (by decide)
  exact .refl ..

/-- What `State.startValues` may change: cmp, pwm; registers of PD 6. -/
theorem State.startValues_moves (s : State) (p : ℕ) : Moves 0x10000000004100 s (State.startValues s p) := by
  unfold State.startValues
  refine .step ?_ (State.set_moves (d := 6) rfl) (by decide)
  apply Moves.ite
  refine .step ?_ (State.updPwm_moves ..) (by decide)
  refine .step ?_ (State.disarmRamps_moves ..) (by decide)
  apply Moves.ite
  refine .step ?_ (State.ctrlIn_moves ..) (by decide)
  exact .refl ..
  refine .step ?_ (State.shadowIn_moves ..) (by decide)
  refine .step ?_ (State.ctrlIn_moves ..) (by decide)
  exact .refl ..
  refine .step ?_ (State.set_moves (d := 6) rfl) (by decide)
  refine .step ?_ (State.set_moves (d := 6) rfl) (by decide)
  refine .step ?_ (State.updPwm_moves ..) (by decide)
  refine .step ?_ (State.disarmRamps_moves ..) (by decide)
  apply Moves.ite
  refine .step ?_ (State.ctrlIn_moves ..) (by decide)
  exact .refl ..
  refine .step ?_ (State.shadowIn_moves ..) (by decide)
  refine .step ?_ (State.ctrlIn_moves ..) (by decide)
  exact .refl ..

/-- What `State.startPair` may change: free, icu, cmp, lane, pwm; registers of PD 6, 7. -/
theorem State.startPair_moves (s : State) (p : ℕ) : Moves 0x30000000004921 s (State.startPair s p).1 := by
  unfold State.startPair
  apply Moves.ite1
  apply Moves.ite1
  dsimp only
  refine .step ?_ (State.lagAt_moves ..) (by decide)
  refine .step ?_ (State.freeN_moves ..) (by decide)
  refine .step ?_ (State.startValues_moves ..) (by decide)
  exact .refl ..
  dsimp only
  refine .step ?_ (State.idleOut_moves ..) (by decide)
  refine .step ?_ (State.startValues_moves ..) (by decide)
  exact .refl ..
  apply Moves.ite1
  refine .step ?_ (State.periodStart_moves ..) (by decide)
  refine .step ?_ (State.startValues_moves ..) (by decide)
  exact .refl ..
  dsimp only
  apply Moves.ite
  refine .step ?_ (State.lagAt_moves ..) (by decide)
  refine .step ?_ (State.levelsAt_moves ..) (by decide)
  refine .step ?_ (State.showCount_moves ..) (by decide)
  refine .step ?_ (State.takePeriod_moves ..) (by decide)
  refine .step ?_ (State.startValues_moves ..) (by decide)
  exact .refl ..
  refine .step ?_ (State.levelsAt_moves ..) (by decide)
  refine .step ?_ (State.showCount_moves ..) (by decide)
  refine .step ?_ (State.takePeriod_moves ..) (by decide)
  refine .step ?_ (State.startValues_moves ..) (by decide)
  exact .refl ..

/-- What `State.haltPair` may change: cmp, pwm; registers of PD 6, 7. -/
theorem State.haltPair_moves (s : State) (p : ℕ) (wait : Bool) : Moves 0x30000000004100 s (State.haltPair s p wait) := by
  unfold State.haltPair
  refine .step ?_ (State.set_moves (d := 6) rfl) (by decide)
  refine .step ?_ (State.set_moves (d := 6) rfl) (by decide)
  refine .step ?_ (State.setB_moves (d := 6) rfl) (by decide)
  refine .step ?_ (State.updPwm_moves ..) (by decide)
  refine .step ?_ (State.idleOut_moves ..) (by decide)
  refine .step ?_ (State.ctrlIn_moves ..) (by decide)
  exact .refl ..

/-- What `State.writePwmCtrl` may change: free, resp, frozen, icu, cmp, lane, pwm, vrec; registers of PD 0, 1, 2, 3, 4, 5, 6, 7, 8, 9, 10, 11, 12. -/
theorem State.writePwmCtrl_moves (s : State) (q : Who) (p : ℕ) (v : ℕ) : Moves 0x7ffc00010004927 s (State.writePwmCtrl s q p v).1 := by
  unfold State.writePwmCtrl
  apply Moves.ite1
  dsimp only
  refine .step ?_ (State.writeReg_moves ..) (by decide)
  exact .refl ..
  apply Moves.ite1
  dsimp only
  refine .step ?_ (State.haltPair_moves ..) (by decide)
  refine .step ?_ (State.writeReg_moves ..) (by decide)
  exact .refl ..
  apply Moves.ite1
  dsimp only
  refine .step ?_ (State.haltPair_moves ..) (by decide)
  refine .step ?_ (State.writeReg_moves ..) (by decide)
  exact .refl ..
  apply Moves.ite1
  dsimp only
  refine .step ?_ (State.writeReg_moves ..) (by decide)
  exact .refl ..
  refine .step ?_ (State.startPair_moves ..) (by decide)
  refine .step ?_ (State.writeReg_moves ..) (by decide)
  exact .refl ..

/-- What `State.latchPads` may change: pad. -/
theorem State.latchPads_moves (s : State) : Moves 0x10000 s (State.latchPads s) := by
  unfold State.latchPads
  refine .step ?_ (State.upd_pad_moves ..) (by decide)
  exact .refl ..

end Sys2Proof.Machine
end

