-- ==== Sys2Proof/Laws/MovesLoomOps.lean ====
section
/-!
SUPPORT. What each function of Machine/LoomOps.lean may change.
-/

namespace Sys2Proof.Machine

/-- What `State.adcTrigger` may change: icu; registers of PD 6, 7. -/
theorem State.adcTrigger_moves (s : State) (i : ℕ) (m : ℕ) : Moves 0x30000000000020 s (State.adcTrigger s i m) := by
  unfold State.adcTrigger
  apply Moves.ite
  exact .refl ..
  apply Moves.ite
  refine .step ?_ (State.raiseIf_moves ..) (by decide)
  refine .step ?_ (State.inc_moves (d := 7) rfl) (by decide)
  refine .step ?_ (State.setBit_moves (d := 7) rfl) (by decide)
  exact .refl ..
  refine .step ?_ (State.setBit_moves (d := 7) rfl) (by decide)
  exact .refl ..

/-- What `State.coreCode` may change: free. -/
theorem State.coreCode_moves (s : State) (i : ℕ) (v : PinVolts) (e : DieVolts) (r : RefVolts) : Moves 0x1 s (State.coreCode s i v e r).2 := by
  unfold State.coreCode
  dsimp only
  refine .step ?_ (State.freeN_moves ..) (by decide)
  exact .refl ..

/-- What `State.govTake` may change: gov. -/
theorem State.govTake_moves (s : State) (slot : ℕ) (num : ℕ) (sel : ℕ) : Moves 0x80000 s (State.govTake s slot num sel) := by
  unfold State.govTake
  refine .step ?_ (State.upd_gov_moves ..) (by decide)
  exact .refl ..

/-- What `State.adcDeliver` may change: icu, adc, res, gov; registers of PD 6, 7. -/
theorem State.adcDeliver_moves (s : State) (i : ℕ) (x : ℤ) : Moves 0x300000000800e0 s (State.adcDeliver s i x) := by
  unfold State.adcDeliver
  refine .step ?_ (State.govTake_moves ..) (by decide)
  refine .step ?_ (State.upd_res_moves ..) (by decide)
  refine .step ?_ (State.upd_adc_moves ..) (by decide)
  refine .step ?_ (State.raiseIf_moves ..) (by decide)
  refine .step ?_ (State.setBit_moves (d := 7) rfl) (by decide)
  refine .step ?_ (State.setB_moves (d := 7) rfl) (by decide)
  refine .step ?_ (State.set_moves (d := 7) rfl) (by decide)
  apply Moves.ite
  refine .step ?_ (State.set_moves (d := 7) rfl) (by decide)
  exact .refl ..
  refine .step ?_ (State.set_moves (d := 7) rfl) (by decide)
  refine .step ?_ (State.set_moves (d := 7) rfl) (by decide)
  exact .refl ..

/-- What `State.dmaTrigger` may change: dma; registers of PD 8. -/
theorem State.dmaTrigger_moves (s : State) (c : ℕ) : Moves 0x40000000200000 s (State.dmaTrigger s c) := by
  unfold State.dmaTrigger
  apply Moves.ite
  exact .refl ..
  apply Moves.ite
  apply Moves.ite
  refine .step ?_ (State.set_moves (d := 8) rfl) (by decide)
  exact .refl ..
  refine .step ?_ (State.set_moves (d := 8) rfl) (by decide)
  exact .refl ..
  refine .step ?_ (State.upd_dma_moves ..) (by decide)
  refine .step ?_ (State.set_moves (d := 8) rfl) (by decide)
  exact .refl ..

/-- What `State.levelErr` may change: registers of PD 6. -/
theorem State.levelErr_moves (s : State) : Moves 0x10000000000000 s (State.levelErr s) := by
  unfold State.levelErr
  refine .step ?_ (State.setB_moves (d := 6) rfl) (by decide)
  exact .refl ..

/-- What `State.energyLook` may change: crerus; registers of PD 10. -/
theorem State.energyLook_moves (s : State) : Moves 0x100000040000000 s (State.energyLook s) := by
  unfold State.energyLook
  refine Moves.foldl ?_ ?_
  exact .refl ..
  intro u3_0 u3_1
  apply Moves.ite
  refine .step ?_ (State.noteChange_moves ..) (by decide)
  exact .refl ..
  exact .refl ..

/-- What `State.quality` may change: icu, vrec, crerus; registers of PD 6, 10. -/
theorem State.quality_moves (s : State) : Moves 0x110000050000020 s (State.quality s) := by
  unfold State.quality
  refine .step ?_ (State.energyLook_moves ..) (by decide)
  apply Moves.ite
  refine .step ?_ (State.journal_moves ..) (by decide)
  refine .step ?_ (State.inc_moves (d := 6) rfl) (by decide)
  refine .step ?_ (State.raise_moves ..) (by decide)
  refine .step ?_ (State.set_moves (d := 6) rfl) (by decide)
  refine .step ?_ (State.setB_moves (d := 6) rfl) (by decide)
  exact .refl ..
  refine .step ?_ (State.setB_moves (d := 6) rfl) (by decide)
  exact .refl ..

/-- What `State.govJudge` may change: icu, vrec, crerus; registers of PD 6, 10. -/
theorem State.govJudge_moves (s : State) : Moves 0x110000050000020 s (State.govJudge s) := by
  unfold State.govJudge
  refine .step ?_ (State.quality_moves ..) (by decide)
  refine .step ?_ (State.levelErr_moves ..) (by decide)
  exact .refl ..

/-- What `State.missSafe` may change: icu, cmp, pwm, trip; registers of PD 6, 7. -/
theorem State.missSafe_moves (s : State) (k : ℕ) : Moves 0x3000000000c120 s (State.missSafe s k).1 := by
  unfold State.missSafe
  split
  apply Moves.ite1
  refine .step ?_ (State.judgeTrip_moves ..) (by decide)
  refine .step ?_ (State.upd_trip_moves ..) (by decide)
  exact .refl ..
  dsimp only
  refine .step ?_ (State.upd_trip_moves ..) (by decide)
  exact .refl ..
  dsimp only
  refine .step ?_ (State.upd_trip_moves ..) (by decide)
  exact .refl ..

/-- What `State.missMark` may change: lane. -/
theorem State.missMark_moves (s : State) (k : ℕ) : Moves 0x800 s (State.missMark s k) := by
  unfold State.missMark
  refine .step ?_ (State.updLane_moves ..) (by decide)
  exact .refl ..

/-- What `State.missBegin` may change: icu, cmp, lane, pwm, trip, vrec, crerus; registers of PD 6, 7, 10. -/
theorem State.missBegin_moves (a0 : ℕ) (a1 : State) (a2 : ℕ) (a3 : Bool) : Moves 0x13000005000c920 a1 (State.missBegin a0 a1 a2 a3).1 := by
  induction a0 generalizing a1 a2 a3
  unfold State.missBegin
  dsimp only
  exact .refl ..
  rename_i n ih
  unfold State.missBegin
  apply Moves.ite1
  dsimp only
  exact .refl ..
  apply Moves.ite1
  dsimp only
  apply Moves.ite
  refine .step ?_ (State.missMark_moves ..) (by decide)
  exact .refl ..
  apply Moves.ite
  exact .refl ..
  refine .step ?_ (State.updLane_moves ..) (by decide)
  exact .refl ..
  split
  refine Moves.foldl1 ?_ ?_
  dsimp only
  refine .step ?_ (Moves.fst (State.missSafe_moves ..) (by assumption)) (by decide)
  refine .step ?_ (State.quality_moves ..) (by decide)
  refine .step ?_ (State.flagRise_moves (d := 6) rfl) (by decide)
  refine .step ?_ (State.set_moves (d := 6) rfl) (by decide)
  apply Moves.ite
  refine .step ?_ (State.missMark_moves ..) (by decide)
  exact .refl ..
  apply Moves.ite
  exact .refl ..
  refine .step ?_ (State.updLane_moves ..) (by decide)
  exact .refl ..
  intro u3_0 u3_1
  apply Moves.ite1
  split
  dsimp only
  refine Moves.fst ?_ (by assumption)
  refine .trans ?_ (ih ..)
  exact .refl ..
  exact .refl ..

/-- What `State.missCheck` may change: icu, cmp, lane, pwm, trip, vrec, crerus; registers of PD 6, 7, 10. -/
theorem State.missCheck_moves (s : State) : Moves 0x13000005000c920 s (State.missCheck s).1 := by
  unfold State.missCheck
  refine Moves.foldl1 ?_ ?_
  dsimp only
  exact .refl ..
  intro u3_0 u3_1
  apply Moves.ite1
  split
  dsimp only
  refine .step ?_ (Moves.fst (State.missBegin_moves ..) (by assumption)) (by decide)
  exact .refl ..
  exact .refl ..

/-- What `State.missEnd` may change: icu, trip, vrec, crerus; registers of PD 6, 10. -/
theorem State.missEnd_moves (s : State) (k : ℕ) : Moves 0x110000050008020 s (State.missEnd s k) := by
  unfold State.missEnd
  refine .step ?_ (State.upd_trip_moves ..) (by decide)
  refine .step ?_ (State.quality_moves ..) (by decide)
  refine .step ?_ (State.set_moves (d := 6) rfl) (by decide)
  exact .refl ..

/-- What `State.laneS1` may change: lane; registers of PD 6. -/
theorem State.laneS1_moves (s : State) (k : ℕ) : Moves 0x10000000000800 s (State.laneS1 s k) := by
  unfold State.laneS1
  apply Moves.ite
  apply Moves.ite
  refine .step ?_ (State.set_moves (d := 6) rfl) (by decide)
  refine .step ?_ (State.set_moves (d := 6) rfl) (by decide)
  apply Moves.ite
  refine .step ?_ (State.updLane_moves ..) (by decide)
  exact .refl ..
  exact .refl ..
  refine .step ?_ (State.updLane_moves ..) (by decide)
  refine .step ?_ (State.set_moves (d := 6) rfl) (by decide)
  apply Moves.ite
  refine .step ?_ (State.updLane_moves ..) (by decide)
  exact .refl ..
  exact .refl ..
  apply Moves.ite
  refine .step ?_ (State.updLane_moves ..) (by decide)
  exact .refl ..
  exact .refl ..

/-- What `State.laneWrite` may change: pwm; registers of PD 6, 7. -/
theorem State.laneWrite_moves (s : State) (k : ℕ) (y : ℤ) : Moves 0x30000000004000 s (State.laneWrite s k y).1 := by
  unfold State.laneWrite
  extract_lets +onlyGivenNames v3
  clear_value v3
  extract_lets +onlyGivenNames v4
  clear_value v4
  extract_lets +onlyGivenNames v5
  clear_value v5
  extract_lets +onlyGivenNames v6
  split
  dsimp only
  unfold v6
  apply Moves.ite
  refine .step ?_ (State.handValue_moves ..) (by decide)
  exact .refl ..
  exact .refl ..
  dsimp only
  unfold v6
  apply Moves.ite
  refine .step ?_ (State.handValue_moves ..) (by decide)
  exact .refl ..
  exact .refl ..
  dsimp only
  unfold v6
  apply Moves.ite
  refine .step ?_ (State.handValue_moves ..) (by decide)
  exact .refl ..
  exact .refl ..
  dsimp only
  unfold v6
  apply Moves.ite
  refine .step ?_ (State.handValue_moves ..) (by decide)
  exact .refl ..
  exact .refl ..
  dsimp only
  refine .step ?_ (State.set_moves (d := 7) rfl) (by decide)
  exact .refl ..
  dsimp only
  exact .refl ..
  dsimp only
  exact .refl ..

/-- What `State.cascade` may change: lane. -/
theorem State.cascade_moves (s : State) (k : ℕ) (y : ℤ) : Moves 0x800 s (State.cascade s k y).1 := by
  unfold State.cascade
  dsimp only
  refine Moves.foldl ?_ ?_
  exact .refl ..
  intro u3_0 u3_1
  refine .step ?_ (State.updLane_moves ..) (by decide)
  exact .refl ..

/-- What `State.shedMember` may change: lane, pwm. -/
theorem State.shedMember_moves (s : State) (k : ℕ) (out : Bool) : Moves 0x4800 s (State.shedMember s k out) := by
  unfold State.shedMember
  refine .step ?_ (State.updPwm_moves ..) (by decide)
  refine .step ?_ (State.updLane_moves ..) (by decide)
  exact .refl ..

/-- What `State.shedTo` may change: lane, shed, pwm; registers of PD 6. -/
theorem State.shedTo_moves (s : State) (g : ℕ) (n : ℕ) : Moves 0x10000000005800 s (State.shedTo s g n) := by
  unfold State.shedTo
  refine .step ?_ (State.updPwm_moves ..) (by decide)
  refine Moves.foldl ?_ ?_
  refine Moves.foldl ?_ ?_
  refine .step ?_ (State.upd_shed_moves ..) (by decide)
  refine .step ?_ (State.set_moves (d := 6) rfl) (by decide)
  refine .step ?_ (State.set_moves (d := 6) rfl) (by decide)
  exact .refl ..
  intro u4_0 u4_1
  refine .step ?_ (State.shedMember_moves ..) (by decide)
  exact .refl ..
  intro u4_0 u4_1
  refine .step ?_ (State.shedMember_moves ..) (by decide)
  exact .refl ..

/-- What `State.shedRun` may change: lane, shed, pwm; registers of PD 6. -/
theorem State.shedRun_moves (s : State) (g : ℕ) (y : ℤ) : Moves 0x10000000005800 s (State.shedRun s g y) := by
  unfold State.shedRun
  apply Moves.ite
  refine .step ?_ (State.shedTo_moves ..) (by decide)
  apply Moves.ite
  apply Moves.ite
  exact .refl ..
  refine .step ?_ (State.upd_shed_moves ..) (by decide)
  exact .refl ..
  refine .step ?_ (State.conflictFlag_moves ..) (by decide)
  apply Moves.ite
  exact .refl ..
  refine .step ?_ (State.upd_shed_moves ..) (by decide)
  exact .refl ..
  apply Moves.ite
  apply Moves.ite
  exact .refl ..
  refine .step ?_ (State.upd_shed_moves ..) (by decide)
  exact .refl ..
  apply Moves.ite
  apply Moves.ite
  refine .step ?_ (State.shedTo_moves ..) (by decide)
  apply Moves.ite
  exact .refl ..
  refine .step ?_ (State.upd_shed_moves ..) (by decide)
  exact .refl ..
  refine .step ?_ (State.conflictFlag_moves ..) (by decide)
  apply Moves.ite
  exact .refl ..
  refine .step ?_ (State.upd_shed_moves ..) (by decide)
  exact .refl ..
  apply Moves.ite
  apply Moves.ite
  refine .step ?_ (State.shedTo_moves ..) (by decide)
  apply Moves.ite
  exact .refl ..
  refine .step ?_ (State.upd_shed_moves ..) (by decide)
  exact .refl ..
  refine .step ?_ (State.conflictFlag_moves ..) (by decide)
  apply Moves.ite
  exact .refl ..
  refine .step ?_ (State.upd_shed_moves ..) (by decide)
  exact .refl ..
  apply Moves.ite
  exact .refl ..
  refine .step ?_ (State.upd_shed_moves ..) (by decide)
  exact .refl ..

/-- What `State.laneRun` may change: icu, cmp, lane, shed, pwm, trip, vrec, crerus; registers of PD 6, 7, 10. -/
theorem State.laneRun_moves (s : State) (k : ℕ) : Moves 0x13000005000d920 s (State.laneRun s k).1 := by
  unfold State.laneRun
  apply Moves.ite1
  dsimp only
  apply Moves.ite
  refine .step ?_ (State.missEnd_moves ..) (by decide)
  refine .step ?_ (State.laneS1_moves ..) (by decide)
  refine .step ?_ (State.updLane_moves ..) (by decide)
  exact .refl ..
  refine .step ?_ (State.laneS1_moves ..) (by decide)
  refine .step ?_ (State.updLane_moves ..) (by decide)
  exact .refl ..
  apply Moves.ite1
  split
  dsimp only
  refine .step ?_ (Moves.fst (State.missBegin_moves ..) (by assumption)) (by decide)
  apply Moves.ite
  refine .step ?_ (State.missEnd_moves ..) (by decide)
  refine .step ?_ (State.laneS1_moves ..) (by decide)
  refine .step ?_ (State.updLane_moves ..) (by decide)
  exact .refl ..
  refine .step ?_ (State.laneS1_moves ..) (by decide)
  refine .step ?_ (State.updLane_moves ..) (by decide)
  exact .refl ..
  extract_lets +onlyGivenNames v3
  clear_value v3
  extract_lets +onlyGivenNames v4
  clear_value v4
  extract_lets +onlyGivenNames v5
  clear_value v5
  extract_lets +onlyGivenNames v6
  clear_value v6
  extract_lets +onlyGivenNames v7
  clear_value v7
  extract_lets +onlyGivenNames v8
  clear_value v8
  extract_lets +onlyGivenNames v9
  clear_value v9
  extract_lets +onlyGivenNames v10
  clear_value v10
  extract_lets +onlyGivenNames v11
  clear_value v11
  extract_lets +onlyGivenNames v12
  clear_value v12
  extract_lets +onlyGivenNames v13
  clear_value v13
  extract_lets +onlyGivenNames v14
  clear_value v14
  extract_lets +onlyGivenNames v15
  clear_value v15
  extract_lets +onlyGivenNames v16
  refine Moves.bindV (v := v16) ?_ ?_
  unfold v16
  refine .step ?_ (State.setB_moves (d := 6) rfl) (by decide)
  refine .step ?_ (State.sets_moves (d := 6) rfl) (by decide)
  refine .step ?_ (State.sets_moves (d := 6) rfl) (by decide)
  refine .step ?_ (State.sets_moves (d := 6) rfl) (by decide)
  apply Moves.ite
  refine .step ?_ (State.missEnd_moves ..) (by decide)
  refine .step ?_ (State.laneS1_moves ..) (by decide)
  refine .step ?_ (State.updLane_moves ..) (by decide)
  exact .refl ..
  refine .step ?_ (State.laneS1_moves ..) (by decide)
  refine .step ?_ (State.updLane_moves ..) (by decide)
  exact .refl ..
  intro hv16
  clear_value v16
  extract_lets +onlyGivenNames v17
  refine Moves.bindV (v := v17) ?_ ?_
  unfold v17
  assumption
  intro hv17
  clear_value v17
  extract_lets +onlyGivenNames v18
  refine Moves.bindV (v := v18) ?_ ?_
  unfold v18
  apply Moves.ite
  refine .step ?_ (State.set_moves (d := 6) rfl) (by decide)
  assumption
  assumption
  intro hv18
  clear_value v18
  extract_lets +onlyGivenNames v19
  refine Moves.bindV (v := v19) ?_ ?_
  unfold v19
  apply Moves.ite
  refine .step ?_ (State.conflictFlag_moves ..) (by decide)
  assumption
  assumption
  intro hv19
  clear_value v19
  extract_lets +onlyGivenNames v20
  refine Moves.bindV (v := v20) ?_ ?_
  unfold v20
  refine .step ?_ (State.updLane_moves ..) (by decide)
  assumption
  intro hv20
  clear_value v20
  split
  extract_lets +onlyGivenNames v21
  refine Moves.bindV (v := v21) ?_ ?_
  unfold v21
  refine Moves.foldl ?_ ?_
  refine .step ?_ (Moves.fst (State.laneWrite_moves ..) (by assumption)) (by decide)
  assumption
  intro u22_0 u22_1
  apply Moves.ite
  refine .step ?_ (State.shedRun_moves ..) (by decide)
  exact .refl ..
  exact .refl ..
  intro hv21
  clear_value v21
  dsimp only
  refine .step ?_ (State.raiseIf_moves ..) (by decide)
  assumption

/-- What `State.laneTrigger` may change: icu, cmp, lane, shed, pwm, trip, vrec, crerus; registers of PD 6, 7, 10. -/
theorem State.laneTrigger_moves (s : State) (k : ℕ) : Moves 0x13000005000d920 s (State.laneTrigger s k).1 := by
  unfold State.laneTrigger
  apply Moves.ite1
  dsimp only
  exact .refl ..
  apply Moves.ite1
  dsimp only
  refine .step ?_ (State.set_moves (d := 6) rfl) (by decide)
  exact .refl ..
  apply Moves.ite1
  dsimp only
  refine .step ?_ (State.updLane_moves ..) (by decide)
  exact .refl ..
  refine .step ?_ (State.laneRun_moves ..) (by decide)
  exact .refl ..

/-- What `State.deliver` may change: free, icu, cmp, lane, shed, pwm, trip, dma, vrec, crerus; registers of PD 6, 7, 8, 10. -/
theorem State.deliver_moves (s : State) (n : ℕ) : Moves 0x17000005020d921 s (State.deliver s n).1 := by
  unfold State.deliver
  apply Moves.ite1
  dsimp only
  refine .step ?_ (State.adcTrigger_moves ..) (by decide)
  exact .refl ..
  apply Moves.ite1
  apply Moves.ite1
  dsimp only
  exact .refl ..
  refine .step ?_ (State.laneTrigger_moves ..) (by decide)
  exact .refl ..
  apply Moves.ite1
  dsimp only
  apply Moves.ite
  refine .step ?_ (State.syncPair_moves ..) (by decide)
  exact .refl ..
  exact .refl ..
  apply Moves.ite1
  dsimp only
  apply Moves.ite
  exact .refl ..
  refine .step ?_ (State.immediateTransfer_moves ..) (by decide)
  exact .refl ..
  apply Moves.ite1
  dsimp only
  refine .step ?_ (State.dmaTrigger_moves ..) (by decide)
  exact .refl ..
  dsimp only
  refine .step ?_ (State.raise_moves ..) (by decide)
  exact .refl ..

/-- What `State.destCount` may change: hedCnt. -/
theorem State.destCount_moves (s : State) (n : ℕ) : Moves 0x2000 s (State.destCount s n).1 := by
  unfold State.destCount
  apply Moves.ite1
  refine .step ?_ (State.upd_hedCnt_moves ..) (by decide)
  exact .refl ..
  refine .step ?_ (State.upd_hedCnt_moves ..) (by decide)
  exact .refl ..

/-- What `State.heddle` may change: free, icu, cmp, lane, shed, hedCnt, pwm, trip, dma, vrec, crerus; registers of PD 6, 7, 8, 10. -/
theorem State.heddle_moves (s : State) (e : ℕ) : Moves 0x17000005020f921 s (State.heddle s e).1 := by
  unfold State.heddle
  apply Moves.ite1
  dsimp only
  exact .refl ..
  refine Moves.foldl1 ?_ ?_
  dsimp only
  exact .refl ..
  intro u3_0 u3_1
  apply Moves.ite1
  split
  apply Moves.ite1
  split
  dsimp only
  refine .step ?_ (Moves.fst (State.deliver_moves ..) (by assumption)) (by decide)
  refine .step ?_ (Moves.fst (State.destCount_moves ..) (by assumption)) (by decide)
  exact .refl ..
  dsimp only
  refine .step ?_ (Moves.fst (State.destCount_moves ..) (by assumption)) (by decide)
  exact .refl ..
  exact .refl ..

/-- What `State.work` may change: free, icu, cmp, lane, shed, hedCnt, pwm, trip, dma, vrec, crerus; registers of PD 6, 7, 8, 10. -/
theorem State.work_moves (s : State) (a1 : Work) : Moves 0x17000005020f921 s (State.work s a1).1 := by
  unfold State.work
  split
  refine .step ?_ (State.heddle_moves ..) (by decide)
  exact .refl ..
  refine .step ?_ (State.laneTrigger_moves ..) (by decide)
  exact .refl ..
  refine .step ?_ (State.cascade_moves ..) (by decide)
  exact .refl ..

/-- What `workAll` may change: free, icu, cmp, lane, shed, hedCnt, pwm, trip, dma, vrec, crerus; registers of PD 6, 7, 8, 10. -/
theorem workAll_moves (ws : List Work) (s : State) : Moves 0x17000005020f921 s (workAll ws s).1 := by
  unfold workAll
  refine Moves.foldl1 ?_ ?_
  dsimp only
  exact .refl ..
  intro u3_0 u3_1
  dsimp only
  refine .step ?_ (State.work_moves ..) (by decide)
  exact .refl ..

/-- What `loomWork` may change: free, icu, cmp, lane, shed, hedCnt, pwm, trip, dma, vrec, crerus; registers of PD 6, 7, 8, 10. -/
theorem loomWork_moves (a0 : ℕ) (a1 : List Work) (a2 : State) : Moves 0x17000005020f921 a2 (loomWork a0 a1 a2) := by
  induction a0 generalizing a1 a2
  unfold loomWork
  exact .refl ..
  rename_i n ih
  unfold loomWork
  apply Moves.ite
  exact .refl ..
  refine .trans ?_ (ih ..)
  refine .step ?_ (workAll_moves ..) (by decide)
  refine .step ?_ (workAll_moves ..) (by decide)
  exact .refl ..

/-- What `State.fire` may change: free, icu, cmp, lane, shed, hedCnt, pwm, trip, dma, vrec, crerus; registers of PD 6, 7, 8, 10. -/
theorem State.fire_moves (s : State) (es : List ℕ) : Moves 0x17000005020f921 s (State.fire s es) := by
  unfold State.fire
  refine .step ?_ (loomWork_moves ..) (by decide)
  exact .refl ..

/-- What `runWork` may change: free, icu, cmp, lane, shed, hedCnt, pwm, trip, dma, vrec, crerus; registers of PD 6, 7, 8, 10. -/
theorem runWork_moves {K : Nat} {s : State} {a : State × List Work} (h : Moves K s a.1) (e : 0x17000005020f921 ||| K = K) :
    Moves K s (runWork a) := .step h (loomWork_moves ..) e

/-- What `fireAll` may change: free, icu, cmp, lane, shed, hedCnt, pwm, trip, dma, vrec, crerus; registers of PD 6, 7, 8, 10. -/
theorem fireAll_moves {K : Nat} {s : State} {a : State × List Nat} (h : Moves K s a.1) (e : 0x17000005020f921 ||| K = K) :
    Moves K s (fireAll a) := .step h (State.fire_moves ..) e

end Sys2Proof.Machine
end

