-- ==== Sys2Proof/Laws/MovesResetOps.lean ====
section
/-!
SUPPORT. What each function of Machine/ResetOps.lean may change.
-/

namespace Sys2Proof.Machine

/-- What `State.sysReset` may change: frozen, key, time, icu, adc, res, cmp, dac, rfm, lane, shed, hedCnt, pwm, trip, pad, loomCfg, fuseLoaded, gov, tmr, dma, dmaLast, core, ply, wld, seq, vrec, warp, crerus, queue, jrnl, flash, custody, lc, shadow, pwr, rst, clk, dbg, xspi, uart, i2c, mem; registers of PD 0, 1, 2, 3, 4, 5, 6, 7, 8, 9, 10, 11. -/
theorem State.sysReset_moves (s : State) (cs : List Nat) : Moves 0x7ffffefff7ffffc s (s.sysReset cs) := by
  have h : Moves 0x7ffffefff7ffffc s (if s.loomCfg then s.latchPads else s) :=
    Moves.ite (.step (.refl ..) (State.latchPads_moves ..) (by decide)) (.refl ..)
  refine h.trans ?_
  unfold State.sysReset
  dsimp only
  generalize (if s.loomCfg = true then s.latchPads else s) = u
  refine ⟨rfl, fun p k => ?_, fun w => ⟨memWf_filter w.mem _,
    regsFit_set (regsFit_set (regsFit_reset w.regs _) _ _) _ _, fun r h => nomatch h⟩⟩
  cases p <;> first | exact absurd k (by decide) | rfl | exact (not_pd (by decide) k).elim

/-- What `State.resetDue` may change: frozen, key, time, icu, adc, res, cmp, dac, rfm, lane, shed, hedCnt, pwm, trip, pad, loomCfg, fuseLoaded, gov, tmr, dma, dmaLast, core, ply, wld, seq, vrec, warp, crerus, queue, jrnl, flash, custody, lc, shadow, pwr, rst, clk, dbg, xspi, uart, i2c, mem; registers of PD 0, 1, 2, 3, 4, 5, 6, 7, 8, 9, 10, 11. -/
theorem State.resetDue_moves (s : State) : Moves 0x7ffffefff7ffffc s (State.resetDue s) := by
  unfold State.resetDue
  apply Moves.ite
  exact .refl ..
  refine .step ?_ (State.sysReset_moves ..) (by decide)
  exact .refl ..

/-- What `State.askReset` may change: frozen, key, time, icu, adc, res, cmp, dac, rfm, lane, shed, hedCnt, pwm, trip, pad, loomCfg, fuseLoaded, gov, tmr, dma, dmaLast, core, ply, wld, seq, vrec, warp, crerus, queue, jrnl, flash, custody, lc, shadow, pwr, rst, clk, dbg, xspi, uart, i2c, mem; registers of PD 0, 1, 2, 3, 4, 5, 6, 7, 8, 9, 10, 11. -/
theorem State.askReset_moves (s : State) (c : ℕ) : Moves 0x7ffffefff7ffffc s (State.askReset s c) := by
  unfold State.askReset
  refine .step ?_ (State.resetDue_moves ..) (by decide)
  refine .step ?_ (State.upd_rst_moves ..) (by decide)
  exact .refl ..

end Sys2Proof.Machine
end

