-- ==== Sys2Proof/Laws/MovesPlyRows.lean ====
section
/-!
SUPPORT. What each function of Machine/PlyRows.lean may change.
-/

namespace Sys2Proof.Machine

/-- What `State.updCore` may change: core. -/
theorem State.updCore_moves (s : State) (c : ℕ) (f : Core → Core) : Moves 0x1000000 s (State.updCore s c f) := by
  unfold State.updCore
  refine .step ?_ (State.upd_core_moves ..) (by decide)
  exact .refl ..

/-- What `State.tcmPut` may change: mem. -/
theorem State.tcmPut_moves (s : State) (key : ℕ → ℕ → ℕ) (c : ℕ) (a : ℕ) (v : Byte) : Moves 0x200000000000 s (State.tcmPut s key c a v) := by
  unfold State.tcmPut
  refine Moves.foldl ?_ ?_
  exact .refl ..
  intro u6_0 u6_1
  refine .step ?_ (State.setByte_moves ..) (by decide)
  exact .refl ..

/-- What `State.plyFault` may change: free, frozen, key, time, icu, adc, res, cmp, dac, rfm, lane, shed, hedCnt, pwm, trip, pad, loomCfg, fuseLoaded, gov, tmr, dma, dmaLast, core, ply, wld, seq, vrec, warp, crerus, queue, jrnl, flash, custody, lc, shadow, pwr, rst, clk, dbg, xspi, uart, i2c, mem; registers of PD 0, 1, 2, 3, 4, 5, 6, 7, 8, 9, 10, 11, 12. -/
theorem State.plyFault_moves (s : State) (cause : ℕ) : Moves 0x7ffffefff7ffffd s (State.plyFault s cause) := by
  unfold State.plyFault
  apply Moves.ite
  refine .step ?_ (State.askReset_moves ..) (by decide)
  apply Moves.ite
  refine fireAll_moves ?_ (by decide)
  refine .step ?_ (State.judgeTrips_moves ..) (by decide)
  refine .step ?_ (State.upd_trip_moves ..) (by decide)
  refine .step ?_ (State.upd_ply_wld_moves ..) (by decide)
  refine .step ?_ (State.upd_core_moves ..) (by decide)
  refine .step ?_ (State.journal_moves ..) (by decide)
  refine .step ?_ (State.inc_moves (d := 0) rfl) (by decide)
  refine .step ?_ (State.set_moves (d := 0) rfl) (by decide)
  apply Moves.ite
  exact .refl ..
  refine .step ?_ (State.abandonEntry_moves ..) (by decide)
  exact .refl ..
  refine .step ?_ (State.upd_ply_wld_moves ..) (by decide)
  refine .step ?_ (State.upd_core_moves ..) (by decide)
  refine .step ?_ (State.journal_moves ..) (by decide)
  refine .step ?_ (State.inc_moves (d := 0) rfl) (by decide)
  refine .step ?_ (State.set_moves (d := 0) rfl) (by decide)
  apply Moves.ite
  exact .refl ..
  refine .step ?_ (State.abandonEntry_moves ..) (by decide)
  exact .refl ..
  apply Moves.ite
  refine .step ?_ (State.quiesceStrands_moves ..) (by decide)
  apply Moves.ite
  refine fireAll_moves ?_ (by decide)
  refine .step ?_ (State.judgeTrips_moves ..) (by decide)
  refine .step ?_ (State.upd_trip_moves ..) (by decide)
  refine .step ?_ (State.upd_ply_wld_moves ..) (by decide)
  refine .step ?_ (State.upd_core_moves ..) (by decide)
  refine .step ?_ (State.journal_moves ..) (by decide)
  refine .step ?_ (State.inc_moves (d := 0) rfl) (by decide)
  refine .step ?_ (State.set_moves (d := 0) rfl) (by decide)
  apply Moves.ite
  exact .refl ..
  refine .step ?_ (State.abandonEntry_moves ..) (by decide)
  exact .refl ..
  refine .step ?_ (State.upd_ply_wld_moves ..) (by decide)
  refine .step ?_ (State.upd_core_moves ..) (by decide)
  refine .step ?_ (State.journal_moves ..) (by decide)
  refine .step ?_ (State.inc_moves (d := 0) rfl) (by decide)
  refine .step ?_ (State.set_moves (d := 0) rfl) (by decide)
  apply Moves.ite
  exact .refl ..
  refine .step ?_ (State.abandonEntry_moves ..) (by decide)
  exact .refl ..
  apply Moves.ite
  refine fireAll_moves ?_ (by decide)
  refine .step ?_ (State.judgeTrips_moves ..) (by decide)
  refine .step ?_ (State.upd_trip_moves ..) (by decide)
  refine .step ?_ (State.upd_ply_wld_moves ..) (by decide)
  refine .step ?_ (State.upd_core_moves ..) (by decide)
  refine .step ?_ (State.journal_moves ..) (by decide)
  refine .step ?_ (State.inc_moves (d := 0) rfl) (by decide)
  refine .step ?_ (State.set_moves (d := 0) rfl) (by decide)
  apply Moves.ite
  exact .refl ..
  refine .step ?_ (State.abandonEntry_moves ..) (by decide)
  exact .refl ..
  refine .step ?_ (State.upd_ply_wld_moves ..) (by decide)
  refine .step ?_ (State.upd_core_moves ..) (by decide)
  refine .step ?_ (State.journal_moves ..) (by decide)
  refine .step ?_ (State.inc_moves (d := 0) rfl) (by decide)
  refine .step ?_ (State.set_moves (d := 0) rfl) (by decide)
  apply Moves.ite
  exact .refl ..
  refine .step ?_ (State.abandonEntry_moves ..) (by decide)
  exact .refl ..

/-- What `State.resyncWindow` may change: health, ply; registers of PD 0. -/
theorem State.resyncWindow_moves (s : State) : Moves 0x400002800000 s (State.resyncWindow s) := by
  unfold State.resyncWindow
  apply Moves.ite
  refine .step ?_ (State.advise_moves ..) (by decide)
  refine .step ?_ (State.upd_ply_moves ..) (by decide)
  exact .refl ..
  refine .step ?_ (State.upd_ply_moves ..) (by decide)
  exact .refl ..

/-- What `State.markRs` may change: registers of PD 0. -/
theorem State.markRs_moves (s : State) : Moves 0x400000000000 s (State.markRs s) := by
  unfold State.markRs
  refine .step ?_ (State.set_moves (d := 0) rfl) (by decide)
  refine .step ?_ (State.set_moves (d := 0) rfl) (by decide)
  exact .refl ..

/-- What `State.oddStrand` may change: icu, health, ply, vrec; registers of PD 0, 6. -/
theorem State.oddStrand_moves (s : State) (k : ℕ) (cl : ℕ) : Moves 0x10400012800020 s (State.oddStrand s k cl) := by
  unfold State.oddStrand
  apply Moves.ite
  refine .step ?_ (State.advise_moves ..) (by decide)
  refine .step ?_ (State.set_moves (d := 0) rfl) (by decide)
  refine .step ?_ (State.journal_moves ..) (by decide)
  refine .step ?_ (State.resyncWindow_moves ..) (by decide)
  refine .step ?_ (State.upd_ply_moves ..) (by decide)
  refine .step ?_ (State.raise_moves ..) (by decide)
  refine .step ?_ (State.markRs_moves ..) (by decide)
  refine .step ?_ (State.set_moves (d := 0) rfl) (by decide)
  refine .step ?_ (State.set_moves (d := 0) rfl) (by decide)
  refine .step ?_ (State.set_moves (d := 0) rfl) (by decide)
  exact .refl ..
  refine .step ?_ (State.raise_moves ..) (by decide)
  refine .step ?_ (State.set_moves (d := 0) rfl) (by decide)
  refine .step ?_ (State.journal_moves ..) (by decide)
  refine .step ?_ (State.resyncWindow_moves ..) (by decide)
  refine .step ?_ (State.upd_ply_moves ..) (by decide)
  refine .step ?_ (State.raise_moves ..) (by decide)
  refine .step ?_ (State.markRs_moves ..) (by decide)
  refine .step ?_ (State.set_moves (d := 0) rfl) (by decide)
  refine .step ?_ (State.set_moves (d := 0) rfl) (by decide)
  refine .step ?_ (State.set_moves (d := 0) rfl) (by decide)
  exact .refl ..

/-- What `State.mismatch` may change: free, frozen, key, time, icu, adc, res, cmp, dac, rfm, lane, shed, hedCnt, pwm, trip, pad, loomCfg, fuseLoaded, gov, tmr, dma, dmaLast, health, core, ply, wld, seq, vrec, warp, crerus, queue, jrnl, flash, custody, lc, shadow, pwr, rst, clk, dbg, xspi, uart, i2c, mem; registers of PD 0, 1, 2, 3, 4, 5, 6, 7, 8, 9, 10, 11, 12. -/
theorem State.mismatch_moves (s : State) (ab : ℕ) (ac : ℕ) (bc : ℕ) : Moves 0x7ffffeffffffffd s (State.mismatch s ab ac bc) := by
  unfold State.mismatch
  extract_lets +onlyGivenNames v3
  split
  apply Moves.ite
  apply Moves.ite
  exact .refl ..
  unfold v3
  refine .step ?_ (State.resyncWindow_moves ..) (by decide)
  refine .step ?_ (State.plyFault_moves ..) (by decide)
  refine .step ?_ (State.raise_moves ..) (by decide)
  refine .step ?_ (State.markRs_moves ..) (by decide)
  refine .step ?_ (State.set_moves (d := 0) rfl) (by decide)
  refine .step ?_ (State.set_moves (d := 0) rfl) (by decide)
  exact .refl ..
  apply Moves.ite
  apply Moves.ite
  exact .refl ..
  unfold v3
  refine .step ?_ (State.resyncWindow_moves ..) (by decide)
  refine .step ?_ (State.plyFault_moves ..) (by decide)
  refine .step ?_ (State.raise_moves ..) (by decide)
  refine .step ?_ (State.markRs_moves ..) (by decide)
  refine .step ?_ (State.set_moves (d := 0) rfl) (by decide)
  refine .step ?_ (State.set_moves (d := 0) rfl) (by decide)
  exact .refl ..
  apply Moves.ite
  exact .refl ..
  apply Moves.ite
  refine .step ?_ (State.oddStrand_moves ..) (by decide)
  exact .refl ..
  apply Moves.ite
  refine .step ?_ (State.oddStrand_moves ..) (by decide)
  exact .refl ..
  apply Moves.ite
  refine .step ?_ (State.oddStrand_moves ..) (by decide)
  exact .refl ..
  unfold v3
  refine .step ?_ (State.resyncWindow_moves ..) (by decide)
  refine .step ?_ (State.plyFault_moves ..) (by decide)
  refine .step ?_ (State.raise_moves ..) (by decide)
  refine .step ?_ (State.markRs_moves ..) (by decide)
  refine .step ?_ (State.set_moves (d := 0) rfl) (by decide)
  refine .step ?_ (State.set_moves (d := 0) rfl) (by decide)
  exact .refl ..
  apply Moves.ite
  exact .refl ..
  unfold v3
  refine .step ?_ (State.resyncWindow_moves ..) (by decide)
  refine .step ?_ (State.plyFault_moves ..) (by decide)
  refine .step ?_ (State.raise_moves ..) (by decide)
  refine .step ?_ (State.markRs_moves ..) (by decide)
  refine .step ?_ (State.set_moves (d := 0) rfl) (by decide)
  refine .step ?_ (State.set_moves (d := 0) rfl) (by decide)
  exact .refl ..
  exact .refl ..

/-- What `State.scrubWord` may change: mem; registers of PD 0. -/
theorem State.scrubWord_moves (s : State) (key : ℕ → ℕ → ℕ) (a : ℕ) : Moves 0x600000000000 s (State.scrubWord s key a) := by
  unfold State.scrubWord
  apply Moves.ite
  exact .refl ..
  refine .step ?_ (State.inc_moves (d := 0) rfl) (by decide)
  refine Moves.foldl ?_ ?_
  exact .refl ..
  intro u4_0 u4_1
  refine .step ?_ (State.setByteList_moves ..) (by decide)
  exact .refl ..

/-- What `State.scrub` may change: free, frozen, key, time, icu, adc, res, cmp, dac, rfm, lane, shed, hedCnt, pwm, trip, pad, loomCfg, fuseLoaded, gov, tmr, dma, dmaLast, health, core, ply, wld, seq, vrec, warp, crerus, queue, jrnl, flash, custody, lc, shadow, pwr, rst, clk, dbg, xspi, uart, i2c, mem; registers of PD 0, 1, 2, 3, 4, 5, 6, 7, 8, 9, 10, 11, 12. -/
theorem State.scrub_moves (s : State) : Moves 0x7ffffeffffffffd s (State.scrub s) := by
  unfold State.scrub
  apply Moves.ite
  refine .step ?_ (State.resyncWindow_moves ..) (by decide)
  refine .step ?_ (State.plyFault_moves ..) (by decide)
  exact .refl ..
  apply Moves.ite
  refine .step ?_ (State.inc_moves (d := 0) rfl) (by decide)
  refine .step ?_ (State.upd_ply_moves ..) (by decide)
  refine .step ?_ (State.scrubWord_moves ..) (by decide)
  refine .step ?_ (State.scrubWord_moves ..) (by decide)
  exact .refl ..
  refine .step ?_ (State.upd_ply_moves ..) (by decide)
  refine .step ?_ (State.scrubWord_moves ..) (by decide)
  refine .step ?_ (State.scrubWord_moves ..) (by decide)
  exact .refl ..

/-- What `State.copyTcms` may change: mem. -/
theorem State.copyTcms_moves (s : State) (k : Nat) : Moves 0x200000000000 s (s.copyTcms k) :=
  Moves.mem_upd fun h => memWf_copy (memWf_copy h ..) ..

/-- What `State.wdKick` may change: ply. -/
theorem State.wdKick_moves (s : State) (q : Req) (v : ℕ) : Moves 0x2000000 s (State.wdKick s q v) := by
  unfold State.wdKick
  split
  apply Moves.ite
  refine .step ?_ (State.upd_ply_moves ..) (by decide)
  exact .refl ..
  exact .refl ..
  exact .refl ..

end Sys2Proof.Machine
end

