-- ==== Sys2Proof/Laws/MovesWorldOps.lean ====
section
/-!
SUPPORT. What each function of Machine/WorldOps.lean may change.
-/

namespace Sys2Proof.Machine

/-- What `State.wipeMb` may change: mem; registers of PD 1. -/
theorem State.wipeMb_moves (s : State) (b : ℕ) : Moves 0xa00000000000 s (State.wipeMb s b) := by
  unfold State.wipeMb
  refine .step ?_ (State.clrBit_moves (d := 1) rfl) (by decide)
  refine .step ?_ (State.wipe_moves ..) (by decide)
  exact .refl ..

/-- What `State.wipeHeld` may change: wld, mem; registers of PD 1. -/
theorem State.wipeHeld_moves (s : State) : Moves 0xa00004000000 s (State.wipeHeld s) := by
  unfold State.wipeHeld
  refine Moves.foldl ?_ ?_
  exact .refl ..
  intro u2_0 u2_1
  apply Moves.ite
  apply Moves.ite
  refine .step ?_ (State.upd_wld_moves ..) (by decide)
  exact .refl ..
  refine .step ?_ (State.wipeMb_moves ..) (by decide)
  exact .refl ..
  exact .refl ..

/-- What `State.wipeSealed` may change: mem. -/
theorem State.wipeSealed_moves (s : State) : Moves 0x200000000000 s (State.wipeSealed s) := by
  unfold State.wipeSealed
  refine Moves.foldl ?_ ?_
  exact .refl ..
  intro u2_0 u2_1
  refine .step ?_ (State.wipe_moves ..) (by decide)
  refine .step ?_ (State.wipe_moves ..) (by decide)
  exact .refl ..

/-- What `State.beginLoad` may change: wld, mem; registers of PD 1, 3. -/
theorem State.beginLoad_moves (s : State) (cause : ℕ) : Moves 0x2a00004000000 s (State.beginLoad s cause) := by
  unfold State.beginLoad
  apply Moves.ite
  exact .refl ..
  apply Moves.ite
  refine .step ?_ (State.upd_wld_moves ..) (by decide)
  exact .refl ..
  refine .step ?_ (State.upd_wld_moves ..) (by decide)
  refine .step ?_ (State.wipeHeld_moves ..) (by decide)
  refine .step ?_ (State.wipeSealed_moves ..) (by decide)
  refine .step ?_ (State.set_moves (d := 3) rfl) (by decide)
  refine .step ?_ (State.set_moves (d := 3) rfl) (by decide)
  refine .step ?_ (State.set_moves (d := 3) rfl) (by decide)
  exact .refl ..

/-- What `State.afterCall` may change: wld, mem; registers of PD 1, 3. -/
theorem State.afterCall_moves (s : State) : Moves 0x2a00004000000 s (State.afterCall s) := by
  unfold State.afterCall
  split
  refine .step ?_ (State.beginLoad_moves ..) (by decide)
  exact .refl ..
  exact .refl ..

/-- What `State.switchWorld` may change: core. -/
theorem State.switchWorld_moves (s : State) : Moves 0x1000000 s (State.switchWorld s) := by
  unfold State.switchWorld
  apply Moves.ite
  refine .step ?_ (State.updCore_moves ..) (by decide)
  exact .refl ..
  exact .refl ..

/-- What `State.endCall` may change: core, wld, mem; registers of PD 1, 3. -/
theorem State.endCall_moves (s : State) (status : ℕ) (base : ℕ) : Moves 0x2a00005000000 s (State.endCall s status base) := by
  unfold State.endCall
  split
  exact .refl ..
  refine .step ?_ (State.afterCall_moves ..) (by decide)
  refine .step ?_ (State.switchWorld_moves ..) (by decide)
  refine .step ?_ (State.upd_wld_moves ..) (by decide)
  refine .step ?_ (State.updCore_moves ..) (by decide)
  exact .refl ..

/-- What `State.abortCall` may change: core, wld, mem; registers of PD 1, 3. -/
theorem State.abortCall_moves (s : State) (status : ℕ) : Moves 0x2a00005000000 s (State.abortCall s status) := by
  unfold State.abortCall
  refine .step ?_ (State.endCall_moves ..) (by decide)
  exact .refl ..

end Sys2Proof.Machine
end

