-- ==== Sys2Proof/Laws/MovesUtperOps.lean ====
section
/-!
SUPPORT. What each function of Machine/UtperOps.lean may change.
-/

namespace Sys2Proof.Machine

/-- What `State.wfiEnds` may change: free, core. -/
theorem State.wfiEnds_moves (s : State) (c : ℕ) : Moves 0x1000001 s (State.wfiEnds s c) := by
  unfold State.wfiEnds
  apply Moves.ite
  split
  refine .step ?_ (State.updCore_moves ..) (by decide)
  refine .step ?_ (Moves.snd (State.freeN_moves ..) (by assumption)) (by decide)
  exact .refl ..
  exact .refl ..

/-- What `State.haltOne` may change: free, core; registers of PD 0. -/
theorem State.haltOne_moves (s : State) (c : ℕ) (cause : ℕ) (bp : ℕ) : Moves 0x400001000001 s (State.haltOne s c cause bp) := by
  unfold State.haltOne
  refine .step ?_ (State.set_moves (d := 0) rfl) (by decide)
  refine .step ?_ (State.set_moves (d := 0) rfl) (by decide)
  refine .step ?_ (State.set_moves (d := 0) rfl) (by decide)
  refine .step ?_ (State.clrBit_moves (d := 0) rfl) (by decide)
  refine .step ?_ (State.setBit_moves (d := 0) rfl) (by decide)
  refine .step ?_ (State.updCore_moves ..) (by decide)
  refine .step ?_ (State.wfiEnds_moves ..) (by decide)
  exact .refl ..

/-- What `State.askHalt` may change: core; registers of PD 0. -/
theorem State.askHalt_moves (s : State) (c : ℕ) (cause : ℕ) (bp : ℕ) : Moves 0x400001000000 s (State.askHalt s c cause bp) := by
  unfold State.askHalt
  apply Moves.ite
  exact .refl ..
  apply Moves.ite
  refine .step ?_ (State.updCore_moves ..) (by decide)
  exact .refl ..
  refine .step ?_ (State.setBit_moves (d := 0) rfl) (by decide)
  refine .step ?_ (State.updCore_moves ..) (by decide)
  exact .refl ..

/-- What `State.haltCore` may change: free, core; registers of PD 0. -/
theorem State.haltCore_moves (s : State) (c : ℕ) (cause : ℕ) (bp : ℕ) : Moves 0x400001000001 s (State.haltCore s c cause bp) := by
  unfold State.haltCore
  apply Moves.ite
  refine Moves.foldl ?_ ?_
  refine .step ?_ (State.haltOne_moves ..) (by decide)
  exact .refl ..
  intro u3_0 u3_1
  refine .step ?_ (State.askHalt_moves ..) (by decide)
  exact .refl ..
  refine .step ?_ (State.haltOne_moves ..) (by decide)
  exact .refl ..

/-- What `State.haltOrAsk` may change: free, core; registers of PD 0. -/
theorem State.haltOrAsk_moves (s : State) (c : ℕ) (cause : ℕ) (bp : ℕ) : Moves 0x400001000001 s (State.haltOrAsk s c cause bp) := by
  unfold State.haltOrAsk
  apply Moves.ite
  refine .step ?_ (State.haltCore_moves ..) (by decide)
  exact .refl ..
  refine .step ?_ (State.askHalt_moves ..) (by decide)
  exact .refl ..

/-- What `State.takeExc` may change: free, frozen, key, time, icu, adc, res, cmp, dac, rfm, lane, shed, hedCnt, pwm, trip, pad, loomCfg, fuseLoaded, gov, tmr, dma, dmaLast, health, core, ply, wld, seq, vrec, warp, crerus, queue, jrnl, flash, custody, lc, shadow, pwr, rst, clk, dbg, xspi, uart, i2c, mem; registers of PD 0, 1, 2, 3, 4, 5, 6, 7, 8, 9, 10, 11, 12. -/
theorem State.takeExc_moves (s : State) (c : ℕ) (code : ℕ) (eaddr : Word) (einfo : ℕ) : Moves 0x7ffffeffffffffd s (State.takeExc s c code eaddr einfo) := by
  unfold State.takeExc
  apply Moves.ite
  refine .step ?_ (State.resyncWindow_moves ..) (by decide)
  refine .step ?_ (State.plyFault_moves ..) (by decide)
  refine .step ?_ (State.updCore_moves ..) (by decide)
  refine .step ?_ (State.updCore_moves ..) (by decide)
  exact .refl ..
  apply Moves.ite
  apply Moves.ite
  refine .step ?_ (State.haltOrAsk_moves ..) (by decide)
  refine .step ?_ (State.abortCall_moves ..) (by decide)
  refine .step ?_ (State.raise_moves ..) (by decide)
  refine .step ?_ (State.updCore_moves ..) (by decide)
  refine .step ?_ (State.set_moves (d := 3) rfl) (by decide)
  refine .step ?_ (State.set_moves (d := 3) rfl) (by decide)
  refine .step ?_ (State.set_moves (d := 3) rfl) (by decide)
  refine .step ?_ (State.updCore_moves ..) (by decide)
  exact .refl ..
  refine .step ?_ (State.abortCall_moves ..) (by decide)
  refine .step ?_ (State.raise_moves ..) (by decide)
  refine .step ?_ (State.updCore_moves ..) (by decide)
  refine .step ?_ (State.set_moves (d := 3) rfl) (by decide)
  refine .step ?_ (State.set_moves (d := 3) rfl) (by decide)
  refine .step ?_ (State.set_moves (d := 3) rfl) (by decide)
  refine .step ?_ (State.updCore_moves ..) (by decide)
  exact .refl ..
  apply Moves.ite
  refine .step ?_ (State.haltOrAsk_moves ..) (by decide)
  refine .step ?_ (State.updCore_moves ..) (by decide)
  refine .step ?_ (State.updCore_moves ..) (by decide)
  exact .refl ..
  refine .step ?_ (State.updCore_moves ..) (by decide)
  refine .step ?_ (State.updCore_moves ..) (by decide)
  exact .refl ..

/-- What `State.fetchExc` may change: free, frozen, key, time, icu, adc, res, cmp, dac, rfm, lane, shed, hedCnt, pwm, trip, pad, loomCfg, fuseLoaded, gov, tmr, dma, dmaLast, health, core, ply, wld, seq, vrec, warp, crerus, queue, jrnl, flash, custody, lc, shadow, pwr, rst, clk, dbg, xspi, uart, i2c, mem; registers of PD 0, 1, 2, 3, 4, 5, 6, 7, 8, 9, 10, 11, 12. -/
theorem State.fetchExc_moves (s : State) (c : ℕ) (r : Reason) : Moves 0x7ffffeffffffffd s (State.fetchExc s c r) := by
  unfold State.fetchExc
  refine .step ?_ (State.takeExc_moves ..) (by decide)
  exact .refl ..

/-- What `State.illegal` may change: free, frozen, key, time, icu, adc, res, cmp, dac, rfm, lane, shed, hedCnt, pwm, trip, pad, loomCfg, fuseLoaded, gov, tmr, dma, dmaLast, health, core, ply, wld, seq, vrec, warp, crerus, queue, jrnl, flash, custody, lc, shadow, pwr, rst, clk, dbg, xspi, uart, i2c, mem; registers of PD 0, 1, 2, 3, 4, 5, 6, 7, 8, 9, 10, 11, 12. -/
theorem State.illegal_moves (s : State) (c : ℕ) : Moves 0x7ffffeffffffffd s (State.illegal s c) := by
  unfold State.illegal
  refine .step ?_ (State.takeExc_moves ..) (by decide)
  exact .refl ..

/-- What `State.fillLine` may change: free, core. -/
theorem State.fillLine_moves (s : State) (c : ℕ) (a : ℕ) : Moves 0x1000001 s (State.fillLine s c a) := by
  unfold State.fillLine
  apply Moves.ite
  exact .refl ..
  apply Moves.ite
  refine .step ?_ (State.updCore_moves ..) (by decide)
  exact .refl ..
  refine .step ?_ (State.updCore_moves ..) (by decide)
  refine .step ?_ (State.upd_free_moves ..) (by decide)
  exact .refl ..

/-- What `State.missWait` may change: free. -/
theorem State.missWait_moves (s : State) : Moves 0x1 s (State.missWait s).2 := by
  unfold State.missWait
  refine .step ?_ (State.freeN_moves ..) (by decide)
  exact .refl ..

/-- What `State.eccLine` may change: icu, health, flash; registers of PD 0, 2, 6. -/
theorem State.eccLine_moves (s : State) (a : ℕ) : Moves 0x11400200800020 s (State.eccLine s a).2 := by
  unfold State.eccLine
  split
  split
  dsimp only
  refine .step ?_ (Moves.snd (State.eccRead_moves ..) (by assumption)) (by decide)
  refine .step ?_ (Moves.snd (State.eccRead_moves ..) (by assumption)) (by decide)
  exact .refl ..

/-- What `State.spend` may change: free, core. -/
theorem State.spend_moves (s : State) (c : ℕ) (n : ℕ) : Moves 0x1000001 s (State.spend s c n) := by
  unfold State.spend
  apply Moves.ite
  refine .step ?_ (State.updCore_moves ..) (by decide)
  refine .step ?_ (State.fillLine_moves ..) (by decide)
  refine .step ?_ (State.upd_free_moves ..) (by decide)
  exact .refl ..
  refine .step ?_ (State.updCore_moves ..) (by decide)
  exact .refl ..

/-- What `State.cycles` may change: core. -/
theorem State.cycles_moves (s : State) (c : ℕ) (n : ℕ) : Moves 0x1000000 s (State.cycles s c n) := by
  unfold State.cycles
  refine .step ?_ (State.updCore_moves ..) (by decide)
  exact .refl ..

/-- What `State.tcmFault` may change: free, frozen, key, time, icu, adc, res, cmp, dac, rfm, lane, shed, hedCnt, pwm, trip, pad, loomCfg, fuseLoaded, gov, tmr, dma, dmaLast, health, core, ply, wld, seq, vrec, warp, crerus, queue, jrnl, flash, custody, lc, shadow, pwr, rst, clk, dbg, xspi, uart, i2c, mem; registers of PD 0, 1, 2, 3, 4, 5, 6, 7, 8, 9, 10, 11, 12. -/
theorem State.tcmFault_moves (s : State) : Moves 0x7ffffeffffffffd s (State.tcmFault s) := by
  unfold State.tcmFault
  refine .step ?_ (State.resyncWindow_moves ..) (by decide)
  refine .step ?_ (State.plyFault_moves ..) (by decide)
  exact .refl ..

/-- What `State.fetchWaits` may change: core. -/
theorem State.fetchWaits_moves (s : State) (c : ℕ) (w : WaitFor) : Moves 0x1000000 s (State.fetchWaits s c w) := by
  unfold State.fetchWaits
  refine .step ?_ (State.updCore_moves ..) (by decide)
  exact .refl ..

/-- What `State.fetched` may change: free, frozen, key, time, icu, adc, res, cmp, dac, rfm, lane, shed, hedCnt, pwm, trip, pad, loomCfg, fuseLoaded, gov, tmr, dma, dmaLast, health, core, ply, wld, seq, vrec, warp, crerus, queue, jrnl, flash, custody, lc, shadow, pwr, rst, clk, dbg, xspi, uart, i2c, mem; registers of PD 0, 1, 2, 3, 4, 5, 6, 7, 8, 9, 10, 11, 12. -/
theorem State.fetched_moves {K : Nat} (s : State) (c : ℕ) (f : State → State) (hf : ∀ x0, Moves K x0 (f x0)) (e : 0x7ffffeffffffffd ||| K = K) : Moves K s (State.fetched s c f) := by
  unfold State.fetched
  apply Moves.ite
  refine .trans ?_ (hf ..)
  exact .refl ..
  apply Moves.ite
  apply Moves.ite
  refine .step ?_ (State.fetchWaits_moves ..) (sub_of (by decide) e)
  exact .refl ..
  refine .step ?_ (State.fetchExc_moves ..) (sub_of (by decide) e)
  exact .refl ..
  apply Moves.ite
  refine .step ?_ (State.fetchWaits_moves ..) (sub_of (by decide) e)
  exact .refl ..
  split
  apply Moves.ite
  refine .step ?_ (State.fetchExc_moves ..) (sub_of (by decide) e)
  refine .step ?_ (Moves.snd (State.eccLine_moves ..) (by assumption)) (sub_of (by decide) e)
  exact .refl ..
  refine .trans ?_ (hf ..)
  refine .step ?_ (Moves.snd (State.eccLine_moves ..) (by assumption)) (sub_of (by decide) e)
  exact .refl ..

/-- What `State.issue` may change: free, frozen, key, time, icu, adc, res, cmp, dac, rfm, lane, shed, hedCnt, pwm, trip, pad, loomCfg, fuseLoaded, gov, tmr, dma, dmaLast, health, core, ply, wld, seq, vrec, warp, crerus, queue, jrnl, flash, custody, lc, shadow, pwr, rst, clk, dbg, xspi, uart, i2c, mem; registers of PD 0, 1, 2, 3, 4, 5, 6, 7, 8, 9, 10, 11, 12. -/
theorem State.issue_moves {K : Nat} (s : State) (c : ℕ) (n : ℕ) (f : State → State) (hf : ∀ x0, Moves K x0 (f x0)) (e : 0x7ffffeffffffffd ||| K = K) : Moves K s (State.issue s c n f) := by
  unfold State.issue
  apply Moves.ite
  exact .refl ..
  extract_lets +onlyGivenNames v3
  clear_value v3
  split
  refine .step ?_ (State.haltOrAsk_moves ..) (sub_of (by decide) e)
  exact .refl ..
  split
  refine .step ?_ (State.fetchExc_moves ..) (sub_of (by decide) e)
  exact .refl ..
  apply Moves.ite
  refine .step ?_ (State.tcmFault_moves ..) (sub_of (by decide) e)
  exact .refl ..
  refine .trans ?_ (State.fetched_moves _ _ _ ?_ (sub_of (by decide) e))
  exact .refl ..
  intro u4_0
  refine .trans ?_ (hf ..)
  refine .step ?_ (State.spend_moves ..) (sub_of (by decide) e)
  exact .refl ..

/-- What `State.stepEnd` may change: free, core; registers of PD 0. -/
theorem State.stepEnd_moves (s : State) (c : ℕ) : Moves 0x400001000001 s (State.stepEnd s c) := by
  unfold State.stepEnd
  apply Moves.ite
  refine .step ?_ (State.haltCore_moves ..) (by decide)
  exact .refl ..
  exact .refl ..

/-- What `State.complete` may change: free, core; registers of PD 0. -/
theorem State.complete_moves (s : State) (c : ℕ) (dests : List (Fin 32)) (f : Core → Core) : Moves 0x400001000001 s (State.complete s c dests f) := by
  unfold State.complete
  refine .step ?_ (State.stepEnd_moves ..) (by decide)
  refine .step ?_ (State.updCore_moves ..) (by decide)
  exact .refl ..

/-- What `State.alu` may change: free, frozen, key, time, icu, adc, res, cmp, dac, rfm, lane, shed, hedCnt, pwm, trip, pad, loomCfg, fuseLoaded, gov, tmr, dma, dmaLast, health, core, ply, wld, seq, vrec, warp, crerus, queue, jrnl, flash, custody, lc, shadow, pwr, rst, clk, dbg, xspi, uart, i2c, mem; registers of PD 0, 1, 2, 3, 4, 5, 6, 7, 8, 9, 10, 11. -/
theorem State.alu_moves (s : State) (c : ℕ) (n : ℕ) (rd : Fin 32) (v : Core → Word) : Moves 0x7ffffeffffffffd s (State.alu s c n rd v) := by
  unfold State.alu
  refine .trans ?_ (State.issue_moves _ _ _ _ ?_ (by decide))
  exact .refl ..
  intro u6_0
  refine .step ?_ (State.complete_moves ..) (by decide)
  exact .refl ..

/-- What `State.jump` may change: free, frozen, key, time, icu, adc, res, cmp, dac, rfm, lane, shed, hedCnt, pwm, trip, pad, loomCfg, fuseLoaded, gov, tmr, dma, dmaLast, health, core, ply, wld, seq, vrec, warp, crerus, queue, jrnl, flash, custody, lc, shadow, pwr, rst, clk, dbg, xspi, uart, i2c, mem; registers of PD 0, 1, 2, 3, 4, 5, 6, 7, 8, 9, 10, 11. -/
theorem State.jump_moves (s : State) (c : ℕ) (dests : List (Fin 32)) (f : Core → Core) : Moves 0x7ffffeffffffffd s (State.jump s c dests f) := by
  unfold State.jump
  refine .trans ?_ (State.issue_moves _ _ _ _ ?_ (by decide))
  exact .refl ..
  intro u5_0
  refine .step ?_ (State.complete_moves ..) (by decide)
  exact .refl ..

end Sys2Proof.Machine
end

