-- ==== Sys2Proof/Laws/MovesAluRows.lean ====
section
/-!
SUPPORT. What each function of Machine/AluRows.lean may change.
-/

namespace Sys2Proof.Machine

/-- What `State.branch` may change: free, frozen, key, time, icu, adc, res, cmp, dac, rfm, lane, shed, hedCnt, pwm, trip, pad, loomCfg, fuseLoaded, gov, tmr, dma, dmaLast, health, core, ply, wld, seq, vrec, warp, crerus, queue, jrnl, flash, custody, lc, shadow, pwr, rst, clk, dbg, xspi, uart, i2c, mem; registers of PD 0, 1, 2, 3, 4, 5, 6, 7, 8, 9, 10, 11. -/
theorem State.branch_moves (s : State) (c : ℕ) (ra : Fin 32) (rb : Fin 32) (off : BitVec 16) (p : Word → Word → Bool) : Moves 0x7ffffeffffffffd s (State.branch s c ra rb off p) := by
  unfold State.branch
  refine .step ?_ (State.jump_moves ..) (by decide)
  exact .refl ..

end Sys2Proof.Machine
end

