-- ==== Sys2Proof/Laws/MovesClockRows.lean ====
section
/-!
SUPPORT. What each function of Machine/ClockRows.lean may change.
-/

namespace Sys2Proof.Machine

theorem lostFlag_pd (r : Nat) : (lostFlag r).pd = 0 := by unfold lostFlag; (repeat' split) <;> rfl

theorem clkDevReg_pd (r : Nat) : (clkDevReg r).pd = 0 := by unfold clkDevReg; (repeat' split) <;> rfl

/-- What `State.clkSwitch` may change: icu, health, clk; registers of PD 0, 6. -/
theorem State.clkSwitch_moves (s : State) (e : ℕ) : Moves 0x10410000800020 s (State.clkSwitch s e) := by
  unfold State.clkSwitch
  apply Moves.ite
  refine .step ?_ (State.advise_moves ..) (by decide)
  refine .step ?_ (State.upd_clk_moves ..) (by decide)
  refine .step ?_ (State.set_moves (d := 0) rfl) (by decide)
  refine .step ?_ (State.inc_moves (d := 0) rfl) (by decide)
  refine .step ?_ (State.raise_moves ..) (by decide)
  refine .step ?_ (State.set_moves (d := 0) rfl) (by decide)
  refine .step ?_ (State.setB_moves (d := 0) rfl) (by decide)
  refine .step ?_ (State.set_moves (d := 0) rfl) (by decide)
  refine .step ?_ (State.set_moves (d := 0) rfl) (by decide)
  refine .step ?_ (State.set_moves (d := 0) rfl) (by decide)
  refine .step ?_ (State.set_moves (d := 0) rfl) (by decide)
  exact .refl ..
  refine .step ?_ (State.upd_clk_moves ..) (by decide)
  refine .step ?_ (State.set_moves (d := 0) rfl) (by decide)
  refine .step ?_ (State.inc_moves (d := 0) rfl) (by decide)
  refine .step ?_ (State.raise_moves ..) (by decide)
  refine .step ?_ (State.set_moves (d := 0) rfl) (by decide)
  refine .step ?_ (State.setB_moves (d := 0) rfl) (by decide)
  refine .step ?_ (State.set_moves (d := 0) rfl) (by decide)
  refine .step ?_ (State.set_moves (d := 0) rfl) (by decide)
  refine .step ?_ (State.set_moves (d := 0) rfl) (by decide)
  refine .step ?_ (State.set_moves (d := 0) rfl) (by decide)
  exact .refl ..

/-- What `State.clkDecide` may change: icu, health, clk; registers of PD 0, 6. -/
theorem State.clkDecide_moves (s : State) : Moves 0x10410000800020 s (State.clkDecide s) := by
  unfold State.clkDecide
  split
  refine .step ?_ (State.upd_clk_moves ..) (by decide)
  refine .step ?_ (State.advise_moves ..) (by decide)
  refine .step ?_ (State.flagRise_moves (d := 0) rfl) (by decide)
  refine .step ?_ (State.set_moves (d := 0) rfl) (by decide)
  exact .refl ..
  apply Moves.ite
  refine .step ?_ (State.upd_clk_moves ..) (by decide)
  apply Moves.ite
  refine .step ?_ (State.flagRise_moves (d := 0) rfl) (by decide)
  refine .step ?_ (State.set_moves (d := 0) rfl) (by decide)
  exact .refl ..
  refine .step ?_ (State.set_moves (d := 0) rfl) (by decide)
  exact .refl ..
  apply Moves.ite
  refine .step ?_ (State.upd_clk_moves ..) (by decide)
  apply Moves.ite
  refine .step ?_ (State.flagRise_moves (d := 0) rfl) (by decide)
  refine .step ?_ (State.set_moves (d := 0) rfl) (by decide)
  exact .refl ..
  refine .step ?_ (State.set_moves (d := 0) rfl) (by decide)
  exact .refl ..
  apply Moves.ite
  refine .step ?_ (State.flagRise_moves (d := 0) rfl) (by decide)
  apply Moves.ite
  refine .step ?_ (State.flagRise_moves (d := 0) rfl) (by decide)
  refine .step ?_ (State.set_moves (d := 0) rfl) (by decide)
  exact .refl ..
  refine .step ?_ (State.set_moves (d := 0) rfl) (by decide)
  exact .refl ..
  refine .step ?_ (State.clkSwitch_moves ..) (by decide)
  apply Moves.ite
  refine .step ?_ (State.flagRise_moves (d := 0) rfl) (by decide)
  refine .step ?_ (State.set_moves (d := 0) rfl) (by decide)
  exact .refl ..
  refine .step ?_ (State.set_moves (d := 0) rfl) (by decide)
  exact .refl ..

/-- What `State.clkPut` may change: free; registers of PD 0, 1, 2, 3, 4, 5, 6, 7, 8, 9, 10, 11, 12. -/
theorem State.clkPut_moves (s : State) (r : ℕ) (n : ℕ) : Moves 0x7ffc00000000001 s (State.clkPut s r n) := by
  unfold State.clkPut
  apply Moves.ite
  refine .step ?_ (State.set_any ..) (by decide)
  exact .refl ..
  apply Moves.ite
  split
  refine .step ?_ (State.set_any ..) (by decide)
  refine .step ?_ (Moves.snd (State.freeN_moves ..) (by assumption)) (by decide)
  exact .refl ..
  refine .step ?_ (State.sets_any ..) (by decide)
  exact .refl ..

/-- What `State.clkLost` may change: icu, health, clk; registers of PD 0, 6. -/
theorem State.clkLost_moves (s : State) (r : ℕ) : Moves 0x10410000800020 s (State.clkLost s r) := by
  unfold State.clkLost
  apply Moves.ite
  exact .refl ..
  apply Moves.ite
  refine .step ?_ (State.raise_moves ..) (by decide)
  refine .step ?_ (State.set_moves (d := 0) rfl) (by decide)
  refine .step ?_ (State.set_moves (d := 0) (lostFlag_pd _)) (by decide)
  exact .refl ..
  split
  refine .step ?_ (State.clkSwitch_moves ..) (by decide)
  refine .step ?_ (State.raise_moves ..) (by decide)
  refine .step ?_ (State.set_moves (d := 0) rfl) (by decide)
  refine .step ?_ (State.set_moves (d := 0) (lostFlag_pd _)) (by decide)
  exact .refl ..
  refine .step ?_ (State.clkSwitch_moves ..) (by decide)
  refine .step ?_ (State.raise_moves ..) (by decide)
  refine .step ?_ (State.set_moves (d := 0) rfl) (by decide)
  refine .step ?_ (State.set_moves (d := 0) (lostFlag_pd _)) (by decide)
  exact .refl ..

/-- What `State.boundClk` may change: registers of PD 0. -/
theorem State.boundClk_moves (s : State) : Moves 0x400000000000 s (State.boundClk s) := by
  unfold State.boundClk
  refine .step ?_ (State.set_moves (d := 0) rfl) (by decide)
  exact .refl ..

/-- What `State.writeClkWin` may change: registers of PD 0. -/
theorem State.writeClkWin_moves (s : State) (v : ℕ) : Moves 0x400000000000 s (State.writeClkWin s v) := by
  unfold State.writeClkWin
  refine .step ?_ (State.boundClk_moves ..) (by decide)
  refine .step ?_ (State.set_moves (d := 0) rfl) (by decide)
  refine .step ?_ (State.set_moves (d := 0) rfl) (by decide)
  exact .refl ..

end Sys2Proof.Machine
end

