-- ==== Sys2Proof/Laws/MovesFuseOps.lean ====
section
/-!
SUPPORT. What each function of Machine/FuseOps.lean may change.
-/

namespace Sys2Proof.Machine

/-- What `State.burn` may change: fuse. -/
theorem State.burn_moves (s : State) (r : ℕ) (bits : ℕ) : Moves 0x1000000000 s (State.burn s r bits) := by
  unfold State.burn
  refine .step ?_ (State.upd_fuse_moves ..) (by decide)
  exact .refl ..

/-- What `State.burnAll` may change: fuse. -/
theorem State.burnAll_moves (s : State) (r : ℕ) (bits : ℕ) : Moves 0x1000000000 s (State.burnAll s r bits) := by
  unfold State.burnAll
  refine Moves.foldl ?_ ?_
  exact .refl ..
  intro u4_0 u4_1
  refine .step ?_ (State.burn_moves ..) (by decide)
  exact .refl ..

/-- What `State.lockRow` may change: fuse. -/
theorem State.lockRow_moves (s : State) (r : ℕ) : Moves 0x1000000000 s (State.lockRow s r) := by
  unfold State.lockRow
  refine .step ?_ (State.burn_moves ..) (by decide)
  exact .refl ..

/-- What `State.fusePwm` may change: registers of PD 6. -/
theorem State.fusePwm_moves (s : State) (p : ℕ) : Moves 0x10000000000000 s (State.fusePwm s p) := by
  unfold State.fusePwm
  refine .step ?_ (State.set_moves (d := 6) rfl) (by decide)
  refine .step ?_ (State.set_moves (d := 6) rfl) (by decide)
  refine .step ?_ (State.set_moves (d := 6) rfl) (by decide)
  refine .step ?_ (State.set_moves (d := 6) rfl) (by decide)
  refine .step ?_ (State.set_moves (d := 6) rfl) (by decide)
  refine .step ?_ (State.set_moves (d := 6) rfl) (by decide)
  refine .step ?_ (State.set_moves (d := 6) rfl) (by decide)
  refine .step ?_ (State.set_moves (d := 6) rfl) (by decide)
  exact .refl ..

/-- What `State.fuseGov` may change: registers of PD 6. -/
theorem State.fuseGov_moves (s : State) : Moves 0x10000000000000 s (State.fuseGov s) := by
  unfold State.fuseGov
  refine .step ?_ (State.set_moves (d := 6) rfl) (by decide)
  refine .step ?_ (State.set_moves (d := 6) rfl) (by decide)
  refine .step ?_ (State.set_moves (d := 6) rfl) (by decide)
  refine .step ?_ (State.set_moves (d := 6) rfl) (by decide)
  refine .step ?_ (State.set_moves (d := 6) rfl) (by decide)
  refine .step ?_ (State.set_moves (d := 6) rfl) (by decide)
  refine .step ?_ (State.set_moves (d := 6) rfl) (by decide)
  exact .refl ..

/-- What `State.worldCfg` may change: registers of PD 3. -/
theorem State.worldCfg_moves (s : State) : Moves 0x2000000000000 s (State.worldCfg s) := by
  unfold State.worldCfg
  refine .step ?_ (State.setB_moves (d := 3) rfl) (by decide)
  refine .step ?_ (State.setB_moves (d := 3) rfl) (by decide)
  refine .step ?_ (State.set_moves (d := 3) rfl) (by decide)
  refine .step ?_ (State.set_moves (d := 3) rfl) (by decide)
  refine .step ?_ (State.set_moves (d := 3) rfl) (by decide)
  exact .refl ..

/-- What `State.fuseFields` may change: registers of PD 0, 3, 6. -/
theorem State.fuseFields_moves (s : State) (d : ℕ) : Moves 0x12400000000000 s (State.fuseFields s d) := by
  unfold State.fuseFields
  split
  refine .step ?_ (State.set_moves (d := 0) rfl) (by decide)
  refine .step ?_ (State.set_moves (d := 0) rfl) (by decide)
  refine Moves.foldl ?_ ?_
  refine .step ?_ (State.set_moves (d := 0) rfl) (by decide)
  refine .step ?_ (State.set_moves (d := 0) rfl) (by decide)
  refine .step ?_ (State.set_moves (d := 0) rfl) (by decide)
  refine .step ?_ (State.set_moves (d := 0) rfl) (by decide)
  refine .step ?_ (State.set_moves (d := 0) rfl) (by decide)
  exact .refl ..
  intro u4_0 u4_1
  refine .step ?_ (State.set_moves (d := 0) rfl) (by decide)
  exact .refl ..
  refine .step ?_ (State.worldCfg_moves ..) (by decide)
  exact .refl ..
  refine .step ?_ (State.fuseGov_moves ..) (by decide)
  refine Moves.foldl ?_ ?_
  exact .refl ..
  intro u4_0 u4_1
  refine .step ?_ (State.fusePwm_moves ..) (by decide)
  exact .refl ..
  exact .refl ..

/-- What `State.loadShadow` may change: fuseLoaded, health, shadow; registers of PD 0, 3, 6. -/
theorem State.loadShadow_moves (s : State) (margin : ℕ) : Moves 0x12402000840000 s (State.loadShadow s margin) := by
  unfold State.loadShadow
  apply Moves.ite
  refine .step ?_ (State.set_moves (d := 0) rfl) (by decide)
  refine .step ?_ (State.fuseFields_moves ..) (by decide)
  refine .step ?_ (State.upd_fuseLoaded_shadow_moves ..) (by decide)
  exact .refl ..
  refine .step ?_ (State.advise_moves ..) (by decide)
  refine .step ?_ (State.set_moves (d := 0) rfl) (by decide)
  refine .step ?_ (State.fuseFields_moves ..) (by decide)
  refine .step ?_ (State.upd_fuseLoaded_shadow_moves ..) (by decide)
  exact .refl ..

/-- What `State.fusedPads` may change: pad. -/
theorem State.fusedPads_moves (s : State) : Moves 0x10000 s (State.fusedPads s) := by
  unfold State.fusedPads
  refine .step ?_ (State.upd_pad_moves ..) (by decide)
  exact .refl ..

end Sys2Proof.Machine
end

