-- ==== Sys2Proof/Laws/MovesGovernorRows.lean ====
section
/-!
SUPPORT. What each function of Machine/GovernorRows.lean may change.
-/

namespace Sys2Proof.Machine

/-- What `State.govFlag` may change: icu; registers of PD 6. -/
theorem State.govFlag_moves {s : State} {f : Fld} {n d : Nat} (e : f.pd = d) :
    Moves (0x10000000000020 ||| pdBit d) s (s.govFlag f n) :=
  Moves.trans (Moves.mono (State.set_moves e) (by rw [Nat.or_comm, Nat.or_assoc, Nat.or_self]))
    (Moves.mono (State.raise_moves ..) (by rw [← Nat.or_assoc, Nat.or_self]))

/-- What `State.inhibit` may change: registers of PD 6. -/
theorem State.inhibit_moves (s : State) : Moves 0x10000000000000 s (State.inhibit s) := by
  unfold State.inhibit
  refine .step ?_ (State.setB_moves (d := 6) rfl) (by decide)
  refine .step ?_ (State.setB_moves (d := 6) rfl) (by decide)
  exact .refl ..

/-- What `State.bleedStart` may change: free, icu, cmp, lane, pwm; registers of PD 6, 7. -/
theorem State.bleedStart_moves (s : State) : Moves 0x30000000004921 s (State.bleedStart s).1 := by
  unfold State.bleedStart
  refine .step ?_ (State.periodStart_moves ..) (by decide)
  refine .step ?_ (State.startValues_moves ..) (by decide)
  refine .step ?_ (State.set_moves (d := 6) rfl) (by decide)
  exact .refl ..

/-- What `State.bleedStop` may change: cmp, pwm; registers of PD 6, 7. -/
theorem State.bleedStop_moves (s : State) : Moves 0x30000000004100 s (State.bleedStop s) := by
  unfold State.bleedStop
  apply Moves.ite
  refine .step ?_ (State.idleOut_moves ..) (by decide)
  refine .step ?_ (State.updPwm_moves ..) (by decide)
  refine .step ?_ (State.setB_moves (d := 6) rfl) (by decide)
  refine .step ?_ (State.set_moves (d := 6) rfl) (by decide)
  exact .refl ..
  exact .refl ..

/-- What `State.govApply` may change: icu, cmp, pwm, trip, vrec; registers of PD 6, 7. -/
theorem State.govApply_moves (s : State) (began : ℕ) : Moves 0x3000001000c120 s (State.govApply s began).1 := by
  unfold State.govApply
  refine .step ?_ (State.judgeTrips_moves ..) (by decide)
  refine .step ?_ (State.setB_moves (d := 6) rfl) (by decide)
  refine Moves.foldl ?_ ?_
  refine .step ?_ (State.upd_trip_moves ..) (by decide)
  exact .refl ..
  intro u3_0 u3_1
  refine .step ?_ (State.journal_moves ..) (by decide)
  exact .refl ..

/-- What `State.govCeiling` may change: free, icu, cmp, lane, pwm, gov; registers of PD 6, 7. -/
theorem State.govCeiling_moves (s : State) (beyond : Bool) : Moves 0x30000000084921 s (State.govCeiling s beyond).1 := by
  unfold State.govCeiling
  apply Moves.ite1
  dsimp only
  refine .step ?_ (State.inhibit_moves ..) (by decide)
  refine .step ?_ (State.upd_gov_moves ..) (by decide)
  refine .step ?_ (State.bleedStop_moves ..) (by decide)
  refine .step ?_ (State.upd_gov_moves ..) (by decide)
  exact .refl ..
  extract_lets +onlyGivenNames v3
  clear_value v3
  extract_lets +onlyGivenNames v4
  refine Moves.bindV (v := v4) ?_ ?_
  unfold v4
  apply Moves.ite
  refine .step ?_ (State.upd_gov_moves ..) (by decide)
  refine .step ?_ (State.upd_gov_moves ..) (by decide)
  exact .refl ..
  refine .step ?_ (State.upd_gov_moves ..) (by decide)
  exact .refl ..
  intro hv4
  clear_value v4
  apply Moves.ite1
  dsimp only
  refine .step ?_ (State.bleedStart_moves ..) (by decide)
  apply Moves.ite
  refine .step ?_ (State.inhibit_moves ..) (by decide)
  refine .step ?_ (State.upd_gov_moves ..) (by decide)
  refine .step ?_ (State.govFlag_moves (d := 6) rfl) (by decide)
  assumption
  assumption
  dsimp only
  apply Moves.ite
  refine .step ?_ (State.inhibit_moves ..) (by decide)
  refine .step ?_ (State.upd_gov_moves ..) (by decide)
  refine .step ?_ (State.govFlag_moves (d := 6) rfl) (by decide)
  assumption
  assumption

/-- What `State.govFloorAct` may change: icu, gov; registers of PD 6. -/
theorem State.govFloorAct_moves (s : State) : Moves 0x10000000080020 s (State.govFloorAct s).1 := by
  unfold State.govFloorAct
  extract_lets +onlyGivenNames v2
  clear_value v2
  extract_lets +onlyGivenNames v3
  refine Moves.bindV (v := v3) ?_ ?_
  unfold v3
  refine .step ?_ (State.setB_moves (d := 6) rfl) (by decide)
  exact .refl ..
  intro hv3
  clear_value v3
  apply Moves.ite1
  refine .step ?_ (State.upd_gov_moves ..) (by decide)
  refine .step ?_ (State.set_moves (d := 6) rfl) (by decide)
  assumption
  apply Moves.ite1
  refine .trans ?_ (by assumption)
  exact .refl ..
  extract_lets +onlyGivenNames v5
  clear_value v5
  extract_lets +onlyGivenNames v6
  clear_value v6
  extract_lets +onlyGivenNames v7
  clear_value v7
  apply Moves.ite1
  apply Moves.ite
  refine .step ?_ (State.upd_gov_moves ..) (by decide)
  apply Moves.ite1
  apply Moves.ite
  refine .step ?_ (State.set_moves (d := 6) rfl) (by decide)
  assumption
  assumption
  apply Moves.ite1
  dsimp only
  refine .step ?_ (State.govFlag_moves (d := 6) rfl) (by decide)
  refine .step ?_ (State.set_moves (d := 6) rfl) (by decide)
  assumption
  refine .trans ?_ (by assumption)
  exact .refl ..
  apply Moves.ite1
  apply Moves.ite
  refine .step ?_ (State.set_moves (d := 6) rfl) (by decide)
  assumption
  assumption
  apply Moves.ite1
  dsimp only
  refine .step ?_ (State.govFlag_moves (d := 6) rfl) (by decide)
  refine .step ?_ (State.set_moves (d := 6) rfl) (by decide)
  assumption
  refine .trans ?_ (by assumption)
  exact .refl ..
  apply Moves.ite1
  refine .step ?_ (State.upd_gov_moves ..) (by decide)
  refine .step ?_ (State.govFlag_moves (d := 6) rfl) (by decide)
  apply Moves.ite1
  apply Moves.ite
  refine .step ?_ (State.set_moves (d := 6) rfl) (by decide)
  assumption
  assumption
  apply Moves.ite1
  dsimp only
  refine .step ?_ (State.govFlag_moves (d := 6) rfl) (by decide)
  refine .step ?_ (State.set_moves (d := 6) rfl) (by decide)
  assumption
  refine .trans ?_ (by assumption)
  exact .refl ..
  apply Moves.ite1
  apply Moves.ite
  refine .step ?_ (State.set_moves (d := 6) rfl) (by decide)
  assumption
  assumption
  apply Moves.ite1
  dsimp only
  refine .step ?_ (State.govFlag_moves (d := 6) rfl) (by decide)
  refine .step ?_ (State.set_moves (d := 6) rfl) (by decide)
  assumption
  refine .trans ?_ (by assumption)
  exact .refl ..

/-- What `State.govRelAct` may change: icu, gov; registers of PD 6. -/
theorem State.govRelAct_moves (s : State) : Moves 0x10000000080020 s (State.govRelAct s).1 := by
  unfold State.govRelAct
  split
  refine .step ?_ (State.upd_gov_moves ..) (by decide)
  exact .refl ..
  apply Moves.ite1
  apply Moves.ite
  refine .step ?_ (State.upd_gov_moves ..) (by decide)
  exact .refl ..
  exact .refl ..
  apply Moves.ite1
  refine .step ?_ (State.upd_gov_moves ..) (by decide)
  refine .step ?_ (State.govFlag_moves (d := 6) rfl) (by decide)
  exact .refl ..
  exact .refl ..

/-- What `State.showAdaptor` may change: registers of PD 6. -/
theorem State.showAdaptor_moves (s : State) : Moves 0x10000000000000 s (State.showAdaptor s) := by
  unfold State.showAdaptor
  refine .step ?_ (State.sets_moves (d := 6) rfl) (by decide)
  refine .step ?_ (State.sets_moves (d := 6) rfl) (by decide)
  exact .refl ..

/-- What `State.boundLevel` may change: icu, gov; registers of PD 6. -/
theorem State.boundLevel_moves (s : State) (v : ℤ) : Moves 0x10000000080020 s (State.boundLevel s v) := by
  unfold State.boundLevel
  apply Moves.ite
  refine .step ?_ (State.upd_gov_moves ..) (by decide)
  refine .step ?_ (State.conflict_moves ..) (by decide)
  refine .step ?_ (State.sets_moves (d := 6) rfl) (by decide)
  exact .refl ..
  refine .step ?_ (State.upd_gov_moves ..) (by decide)
  refine .step ?_ (State.sets_moves (d := 6) rfl) (by decide)
  exact .refl ..

/-- What `State.level` may change: icu, gov; registers of PD 6. -/
theorem State.level_moves (s : State) (a : ℤ) : Moves 0x10000000080020 s (State.level s a) := by
  unfold State.level
  apply Moves.ite
  refine .step ?_ (State.upd_gov_moves ..) (by decide)
  refine .step ?_ (State.conflict_moves ..) (by decide)
  refine .step ?_ (State.sets_moves (d := 6) rfl) (by decide)
  exact .refl ..
  refine .step ?_ (State.upd_gov_moves ..) (by decide)
  refine .step ?_ (State.sets_moves (d := 6) rfl) (by decide)
  exact .refl ..

/-- What `State.nomLoad` may change: gov. -/
theorem State.nomLoad_moves (s : State) : Moves 0x80000 s (State.nomLoad s) := by
  unfold State.nomLoad
  apply Moves.ite
  refine .step ?_ (State.upd_gov_moves ..) (by decide)
  exact .refl ..
  exact .refl ..

/-- What `State.adapt` may change: icu, gov; registers of PD 6. -/
theorem State.adapt_moves (s : State) (valid : Bool) : Moves 0x10000000080020 s (State.adapt s valid) := by
  unfold State.adapt
  refine .step ?_ (State.showAdaptor_moves ..) (by decide)
  apply Moves.ite
  refine .step ?_ (State.upd_gov_moves ..) (by decide)
  refine .step ?_ (State.sets_moves (d := 6) rfl) (by decide)
  exact .refl ..
  apply Moves.ite
  exact .refl ..
  apply Moves.ite
  apply Moves.ite
  refine .step ?_ (State.boundLevel_moves ..) (by decide)
  exact .refl ..
  exact .refl ..
  apply Moves.ite
  refine .step ?_ (State.nomLoad_moves ..) (by decide)
  exact .refl ..
  apply Moves.ite
  refine .step ?_ (State.level_moves ..) (by decide)
  refine .step ?_ (State.nomLoad_moves ..) (by decide)
  exact .refl ..
  split
  refine .step ?_ (State.level_moves ..) (by decide)
  refine .step ?_ (State.upd_gov_moves ..) (by decide)
  exact .refl ..

/-- What `State.capEnd` may change: icu, gov; registers of PD 6. -/
theorem State.capEnd_moves {s : State} {f : Fld} {d : Nat} (e : f.pd = d) :
    Moves (0x10000000080020 ||| pdBit d) s (s.capEnd f) :=
  Moves.trans (Moves.mono (State.govFlag_moves e) (by
      rw [show 0x10000000000020 ||| pdBit d ||| (0x10000000080020 ||| pdBit d) = (0x10000000000020 ||| 0x10000000080020) ||| pdBit d from by
        rw [← Nat.or_assoc, Nat.or_assoc 0x10000000000020, Nat.or_comm (pdBit d), ← Nat.or_assoc, Nat.or_assoc, Nat.or_self]]; rfl))
    (Moves.mono State.upd_gov_moves (by rw [← Nat.or_assoc]; rfl))

/-- What `State.capCheck` may change: icu; registers of PD 6. -/
theorem State.capCheck_moves (s : State) : Moves 0x10000000000020 s (State.capCheck s) := by
  unfold State.capCheck
  apply Moves.ite
  refine .step ?_ (State.govFlag_moves (d := 6) rfl) (by decide)
  exact .refl ..
  exact .refl ..

/-- What `State.capSample` may change: icu, gov; registers of PD 0, 6. -/
theorem State.capSample_moves (s : State) (c : ℕ) : Moves 0x10400000080020 s (State.capSample s c) := by
  unfold State.capSample
  apply Moves.ite
  exact .refl ..
  apply Moves.ite
  refine .step ?_ (State.capEnd_moves (d := 6) rfl) (by decide)
  exact .refl ..
  apply Moves.ite
  apply Moves.ite
  refine .step ?_ (State.capEnd_moves (d := 6) rfl) (by decide)
  apply Moves.ite
  exact .refl ..
  apply Moves.ite
  refine .step ?_ (State.upd_gov_moves ..) (by decide)
  exact .refl ..
  refine .step ?_ (State.upd_gov_moves ..) (by decide)
  exact .refl ..
  refine .step ?_ (State.capCheck_moves ..) (by decide)
  refine .step ?_ (State.capEnd_moves (d := 6) rfl) (by decide)
  refine .step ?_ (State.set_moves (d := 0) rfl) (by decide)
  apply Moves.ite
  exact .refl ..
  apply Moves.ite
  refine .step ?_ (State.upd_gov_moves ..) (by decide)
  exact .refl ..
  refine .step ?_ (State.upd_gov_moves ..) (by decide)
  exact .refl ..
  apply Moves.ite
  exact .refl ..
  apply Moves.ite
  refine .step ?_ (State.upd_gov_moves ..) (by decide)
  exact .refl ..
  refine .step ?_ (State.upd_gov_moves ..) (by decide)
  exact .refl ..

/-- What `State.capCharge` may change: icu, gov; registers of PD 6. -/
theorem State.capCharge_moves (s : State) : Moves 0x10000000080020 s (State.capCharge s) := by
  unfold State.capCharge
  split
  exact .refl ..
  apply Moves.ite
  exact .refl ..
  split
  refine .step ?_ (State.capEnd_moves (d := 6) rfl) (by decide)
  exact .refl ..
  refine .step ?_ (State.upd_gov_moves ..) (by decide)
  exact .refl ..

/-- What `State.govMeasure` may change: icu, gov; registers of PD 0, 6. -/
theorem State.govMeasure_moves (s : State) : Moves 0x10400000080020 s (State.govMeasure s) := by
  unfold State.govMeasure
  refine .step ?_ (State.set_moves (d := 6) rfl) (by decide)
  refine .step ?_ (State.upd_gov_moves ..) (by decide)
  refine .step ?_ (State.set_moves (d := 6) rfl) (by decide)
  refine .step ?_ (State.set_moves (d := 6) rfl) (by decide)
  apply Moves.ite
  refine .step ?_ (State.capSample_moves ..) (by decide)
  refine .step ?_ (State.set_moves (d := 6) rfl) (by decide)
  refine .step ?_ (State.inhibit_moves ..) (by decide)
  refine .step ?_ (State.upd_gov_moves ..) (by decide)
  refine .step ?_ (State.upd_gov_moves ..) (by decide)
  exact .refl ..
  apply Moves.ite
  refine .step ?_ (State.govFlag_moves (d := 6) rfl) (by decide)
  refine .step ?_ (State.upd_gov_moves ..) (by decide)
  refine .step ?_ (State.upd_gov_moves ..) (by decide)
  exact .refl ..
  refine .step ?_ (State.upd_gov_moves ..) (by decide)
  refine .step ?_ (State.upd_gov_moves ..) (by decide)
  exact .refl ..

/-- What `State.govActs` may change: free, icu, cmp, lane, pwm, trip, gov, vrec; registers of PD 6, 7. -/
theorem State.govActs_moves (s : State) : Moves 0x3000001008c921 s (State.govActs s).1 := by
  unfold State.govActs
  extract_lets +onlyGivenNames v3
  clear_value v3
  split
  split
  split
  extract_lets +onlyGivenNames v4
  clear_value v4
  split
  dsimp only
  refine .step ?_ (Moves.fst (State.govApply_moves ..) (by assumption)) (by decide)
  refine .step ?_ (Moves.fst (State.govRelAct_moves ..) (by assumption)) (by decide)
  refine .step ?_ (Moves.fst (State.govFloorAct_moves ..) (by assumption)) (by decide)
  refine .step ?_ (Moves.fst (State.govCeiling_moves ..) (by assumption)) (by decide)
  exact .refl ..

/-- What `State.govCompute` may change: free, icu, cmp, lane, shed, hedCnt, pwm, trip, gov, dma, vrec, crerus; registers of PD 0, 6, 7, 8, 10. -/
theorem State.govCompute_moves (s : State) : Moves 0x17040005028f921 s (State.govCompute s) := by
  unfold State.govCompute
  refine .step ?_ (State.fire_moves ..) (by decide)
  refine .step ?_ (State.govJudge_moves ..) (by decide)
  refine .step ?_ (State.adapt_moves ..) (by decide)
  apply Moves.ite1
  refine .step ?_ (State.govActs_moves ..) (by decide)
  refine .step ?_ (State.govMeasure_moves ..) (by decide)
  exact .refl ..
  dsimp only
  refine .step ?_ (State.govMeasure_moves ..) (by decide)
  exact .refl ..

/-- What `State.govStart` may change: icu, cmp, pwm, gov, vrec, crerus; registers of PD 6, 7, 10. -/
theorem State.govStart_moves (s : State) (boot : Bool) : Moves 0x130000050084120 s (State.govStart s boot) := by
  unfold State.govStart
  refine .step ?_ (State.govJudge_moves ..) (by decide)
  refine .step ?_ (State.showAdaptor_moves ..) (by decide)
  refine .step ?_ (State.capCheck_moves ..) (by decide)
  apply Moves.ite
  refine .step ?_ (State.idleOut_moves ..) (by decide)
  refine .step ?_ (State.inhibit_moves ..) (by decide)
  refine .step ?_ (State.upd_gov_moves ..) (by decide)
  refine .step ?_ (State.sets_moves (d := 6) rfl) (by decide)
  refine .step ?_ (State.upd_gov_moves ..) (by decide)
  exact .refl ..
  refine .step ?_ (State.inhibit_moves ..) (by decide)
  refine .step ?_ (State.upd_gov_moves ..) (by decide)
  refine .step ?_ (State.sets_moves (d := 6) rfl) (by decide)
  refine .step ?_ (State.upd_gov_moves ..) (by decide)
  exact .refl ..

/-- What `State.govSample` may change: free, icu, cmp, lane, shed, hedCnt, pwm, trip, gov, dma, vrec, crerus; registers of PD 0, 6, 7, 8, 10. -/
theorem State.govSample_moves (s : State) : Moves 0x17040005028f921 s (State.govSample s) := by
  unfold State.govSample
  extract_lets +onlyGivenNames v3
  refine Moves.bindV (v := v3) ?_ ?_
  unfold v3
  apply Moves.ite
  refine .step ?_ (State.govCompute_moves ..) (by decide)
  exact .refl ..
  exact .refl ..
  intro hv3
  clear_value v3
  refine .step ?_ (State.fire_moves ..) (by decide)
  apply Moves.ite
  refine .step ?_ (State.adcTrigger_moves ..) (by decide)
  refine .step ?_ (State.adcTrigger_moves ..) (by decide)
  refine .step ?_ (State.upd_gov_moves ..) (by decide)
  refine .step ?_ (State.capCharge_moves ..) (by decide)
  assumption
  refine .step ?_ (State.adcTrigger_moves ..) (by decide)
  refine .step ?_ (State.upd_gov_moves ..) (by decide)
  refine .step ?_ (State.capCharge_moves ..) (by decide)
  assumption

end Sys2Proof.Machine
end

