-- ==== Sys2Proof/Laws/MovesIcuRows.lean ====
section
/-!
SUPPORT. What each function of Machine/IcuRows.lean may change.
-/

namespace Sys2Proof.Machine

/-- What `State.icuTimerOff` may change: icu. -/
theorem State.icuTimerOff_moves (s : State) (n : ℕ) : Moves 0x20 s (State.icuTimerOff s n) := by
  unfold State.icuTimerOff
  refine .step ?_ (State.upd_icu_moves fun _ h => h) (by decide)
  exact .refl ..

/-- What `State.icuAck` may change: icu; registers of PD 6. -/
theorem State.icuAck_moves (s : State) (c : ℕ) (n : ℕ) : Moves 0x10000000000020 s (State.icuAck s c n) := by
  unfold State.icuAck
  apply Moves.ite
  refine .step ?_ (State.upd_icu_moves fun _ h => h) (by decide)
  refine .step ?_ (State.set_moves (d := 6) rfl) (by decide)
  refine .step ?_ (State.set_moves (d := 6) rfl) (by decide)
  refine .step ?_ (State.icuTimerOff_moves ..) (by decide)
  refine .step ?_ (State.set_moves (d := 6) rfl) (by decide)
  refine .step ?_ (State.set_moves (d := 6) rfl) (by decide)
  refine .step ?_ (State.set_moves (d := 6) rfl) (by decide)
  exact .refl ..
  refine .step ?_ (State.set_moves (d := 6) rfl) (by decide)
  refine .step ?_ (State.set_moves (d := 6) rfl) (by decide)
  refine .step ?_ (State.icuTimerOff_moves ..) (by decide)
  refine .step ?_ (State.set_moves (d := 6) rfl) (by decide)
  refine .step ?_ (State.set_moves (d := 6) rfl) (by decide)
  refine .step ?_ (State.set_moves (d := 6) rfl) (by decide)
  exact .refl ..

/-- What `State.icuStray` may change: icu; registers of PD 6. -/
theorem State.icuStray_moves (s : State) (c : ℕ) (v : ℕ) : Moves 0x10000000000020 s (State.icuStray s c v) := by
  unfold State.icuStray
  refine .step ?_ (State.raiseIf_moves ..) (by decide)
  apply Moves.ite
  refine .step ?_ (State.inc_moves (d := 6) rfl) (by decide)
  exact .refl ..
  refine .step ?_ (State.set_moves (d := 6) rfl) (by decide)
  refine .step ?_ (State.set_moves (d := 6) rfl) (by decide)
  refine .step ?_ (State.set_moves (d := 6) rfl) (by decide)
  refine .step ?_ (State.inc_moves (d := 6) rfl) (by decide)
  exact .refl ..

/-- What `State.icuComplete` may change: icu; registers of PD 6. -/
theorem State.icuComplete_moves (s : State) (c : ℕ) (v : ℕ) : Moves 0x10000000000020 s (State.icuComplete s c v) := by
  unfold State.icuComplete
  apply Moves.ite
  refine .step ?_ (State.set_moves (d := 6) rfl) (by decide)
  exact .refl ..
  refine .step ?_ (State.icuStray_moves ..) (by decide)
  exact .refl ..

/-- What `State.icuWithdraw` may change: icu; registers of PD 6. -/
theorem State.icuWithdraw_moves (s : State) (n : ℕ) : Moves 0x10000000000020 s (State.icuWithdraw s n) := by
  unfold State.icuWithdraw
  refine .step ?_ (State.icuTimerOff_moves ..) (by decide)
  refine .step ?_ (State.set_moves (d := 6) rfl) (by decide)
  refine .step ?_ (State.set_moves (d := 6) rfl) (by decide)
  exact .refl ..

/-- What `State.icuChange` may change: icu. -/
theorem State.icuChange_moves {K : Nat} (s : State) (f : State → State) (hf : ∀ x0, Moves K x0 (f x0)) (e : 0x20 ||| K = K) : Moves K s (State.icuChange s f) := by
  unfold State.icuChange
  refine .step ?_ (State.upd_icu_moves fun _ h => h) (sub_of (by decide) e)
  refine .trans ?_ (hf ..)
  exact .refl ..

/-- What `State.icuEnable` may change: icu. -/
theorem State.icuEnable_moves (s : State) (n : ℕ) : Moves 0x20 s (State.icuEnable s n) := by
  unfold State.icuEnable
  apply Moves.ite
  refine .step ?_ (State.upd_icu_moves fun _ h => h) (by decide)
  refine .step ?_ (State.icuTimerOff_moves ..) (by decide)
  exact .refl ..
  refine .step ?_ (State.icuTimerOff_moves ..) (by decide)
  exact .refl ..

/-- What `State.writeIcuSrc` may change: resp, frozen, icu, vrec; registers of PD 0, 1, 2, 3, 4, 5, 6, 7, 8, 9, 10, 11, 12. -/
theorem State.writeIcuSrc_moves (s : State) (q : Who) (n : ℕ) (v : ℕ) : Moves 0x7ffc00010000026 s (State.writeIcuSrc s q n v) := by
  unfold State.writeIcuSrc
  apply Moves.ite
  refine .step ?_ (State.icuEnable_moves ..) (by decide)
  refine .trans ?_ (State.icuChange_moves _ _ ?_ (by decide))
  exact .refl ..
  intro u3_0
  refine .step ?_ (State.writeReg_moves ..) (by decide)
  exact .refl ..
  refine .trans ?_ (State.icuChange_moves _ _ ?_ (by decide))
  exact .refl ..
  intro u4_0
  refine .step ?_ (State.writeReg_moves ..) (by decide)
  exact .refl ..

/-- What `State.writeIcuGrp` may change: resp, frozen, icu, vrec; registers of PD 0, 1, 2, 3, 4, 5, 6, 7, 8, 9, 10, 11, 12. -/
theorem State.writeIcuGrp_moves (s : State) (q : Who) (g : ℕ) (v : ℕ) : Moves 0x7ffc00010000026 s (State.writeIcuGrp s q g v) := by
  unfold State.writeIcuGrp
  apply Moves.ite
  refine .step ?_ (State.upd_icu_moves fun _ h => h) (by decide)
  refine .step ?_ (State.writeReg_moves ..) (by decide)
  exact .refl ..
  refine .step ?_ (State.writeReg_moves ..) (by decide)
  exact .refl ..

/-- What `State.writeIcuSts` may change: icu; registers of PD 6. -/
theorem State.writeIcuSts_moves (s : State) (n : ℕ) (v : ℕ) : Moves 0x10000000000020 s (State.writeIcuSts s n v) := by
  unfold State.writeIcuSts
  apply Moves.ite
  refine .step ?_ (State.icuComplete_moves ..) (by decide)
  apply Moves.ite
  refine .trans ?_ (State.icuChange_moves _ _ ?_ (by decide))
  exact .refl ..
  intro u4_0
  refine .step ?_ (State.icuWithdraw_moves ..) (by decide)
  exact .refl ..
  exact .refl ..
  apply Moves.ite
  refine .trans ?_ (State.icuChange_moves _ _ ?_ (by decide))
  exact .refl ..
  intro u4_0
  refine .step ?_ (State.icuWithdraw_moves ..) (by decide)
  exact .refl ..
  exact .refl ..

/-- What `State.sgiSet` may change: icu; registers of PD 6. -/
theorem State.sgiSet_moves (s : State) (v : ℕ) : Moves 0x10000000000020 s (State.sgiSet s v) := by
  unfold State.sgiSet
  refine Moves.foldl ?_ ?_
  exact .refl ..
  intro u3_0 u3_1
  apply Moves.ite
  refine .step ?_ (State.raise_moves ..) (by decide)
  exact .refl ..
  exact .refl ..

/-- What `State.icuJoin` may change: registers of PD 6. -/
theorem State.icuJoin_moves (s : State) (joining : List ℕ) : Moves 0x10000000000000 s (State.icuJoin s joining) := by
  unfold State.icuJoin
  refine Moves.foldl ?_ ?_
  exact .refl ..
  intro u3_0 u3_1
  apply Moves.ite
  refine .step ?_ (State.inc_moves (d := 6) rfl) (by decide)
  refine .step ?_ (State.set_moves (d := 6) rfl) (by decide)
  exact .refl ..
  exact .refl ..

/-- What `State.icuRestart` may change: registers of PD 6. -/
theorem State.icuRestart_moves (s : State) : Moves 0x10000000000000 s (State.icuRestart s) := by
  unfold State.icuRestart
  refine Moves.foldl ?_ ?_
  exact .refl ..
  intro u2_0 u2_1
  refine .step ?_ (State.set_moves (d := 6) rfl) (by decide)
  exact .refl ..

/-- What `State.icuSave` may change: icu. -/
theorem State.icuSave_moves (s : State) : Moves 0x20 s s.icuSave := by
  refine ⟨rfl, fun p h => ?_, fun w => ⟨w.mem, w.regs, fun r h => ?_⟩⟩
  · cases p <;> first | exact absurd h (by decide) | rfl | exact fun _ _ => rfl
  · obtain rfl := Option.some.inj h
    exact regsFit_filter w.regs _

/-- What `State.icuRestore` may change: icu; registers of PD 0, 1, 2, 3, 4, 5, 6, 7, 8, 9, 10, 11. -/
theorem State.icuRestore_moves (s : State) : Moves 0x7ffc00000000020 s (State.icuRestore s) := by
  unfold State.icuRestore
  split
  exact .refl ..
  refine .step ?_ (State.set_moves (d := 6) rfl) (by decide)
  refine Moves.foldl ?_ ?_
  refine Moves.foldl ?_ ?_
  refine .step ?_ (State.upd_icu_moves fun _ h => nomatch h) (by decide)
  refine Moves.foldl ?_ ?_
  exact .refl ..
  intro u7_0 u7_1
  refine .step ?_ (State.set_any ..) (by decide)
  exact .refl ..
  intro u7_0 u7_1
  refine .step ?_ (State.set_moves (d := 6) rfl) (by decide)
  exact .refl ..
  intro u7_0 u7_1
  apply Moves.ite
  refine .step ?_ (State.upd_icu_moves fun _ h => h) (by decide)
  refine .step ?_ (State.set_moves (d := 6) rfl) (by decide)
  exact .refl ..
  exact .refl ..

end Sys2Proof.Machine
end

