-- ==== Sys2Proof/Laws/MovesLaneRows.lean ====
section
/-!
SUPPORT. What each function of Machine/LaneRows.lean may change.
-/

namespace Sys2Proof.Machine

/-- What `State.enableLane` may change: free, icu, cmp, lane, shed, hedCnt, pwm, trip, dma, vrec, crerus; registers of PD 6, 7, 8, 10. -/
theorem State.enableLane_moves (s : State) (k : ℕ) : Moves 0x17000005020f921 s (State.enableLane s k) := by
  unfold State.enableLane
  apply Moves.ite
  refine .step ?_ (State.set_moves (d := 6) rfl) (by decide)
  refine .step ?_ (State.set_moves (d := 6) rfl) (by decide)
  exact .refl ..
  refine fireAll_moves ?_ (by decide)
  refine .step ?_ (State.missCheck_moves ..) (by decide)
  refine .step ?_ (State.updLane_moves ..) (by decide)
  exact .refl ..

/-- What `State.missSafeNow` may change: icu, cmp, lane, pwm, trip, vrec, crerus; registers of PD 6, 7, 10. -/
theorem State.missSafeNow_moves (s : State) (k : ℕ) : Moves 0x13000005000c920 s (State.missSafeNow s k).1 := by
  unfold State.missSafeNow
  dsimp only
  refine .step ?_ (State.missSafe_moves ..) (by decide)
  refine .step ?_ (State.missCheck_moves ..) (by decide)
  exact .refl ..

/-- What `State.writeLaneCtrl` may change: free, resp, frozen, icu, cmp, lane, shed, hedCnt, pwm, trip, dma, vrec, crerus; registers of PD 0, 1, 2, 3, 4, 5, 6, 7, 8, 9, 10, 11, 12. -/
theorem State.writeLaneCtrl_moves (s : State) (q : Who) (k : ℕ) (v : ℕ) : Moves 0x7ffc0005020f927 s (State.writeLaneCtrl s q k v) := by
  unfold State.writeLaneCtrl
  apply Moves.ite
  apply Moves.ite
  refine fireAll_moves ?_ (by decide)
  refine .step ?_ (State.missSafeNow_moves ..) (by decide)
  refine .step ?_ (State.govJudge_moves ..) (by decide)
  refine .step ?_ (State.set_moves (d := 6) rfl) (by decide)
  apply Moves.ite
  refine .step ?_ (State.updLane_moves ..) (by decide)
  refine .step ?_ (State.writeReg_moves ..) (by decide)
  exact .refl ..
  refine .step ?_ (State.writeReg_moves ..) (by decide)
  exact .refl ..
  refine .step ?_ (State.enableLane_moves ..) (by decide)
  refine .step ?_ (State.govJudge_moves ..) (by decide)
  refine .step ?_ (State.set_moves (d := 6) rfl) (by decide)
  apply Moves.ite
  refine .step ?_ (State.updLane_moves ..) (by decide)
  refine .step ?_ (State.writeReg_moves ..) (by decide)
  exact .refl ..
  refine .step ?_ (State.writeReg_moves ..) (by decide)
  exact .refl ..
  apply Moves.ite
  refine .step ?_ (State.missEnd_moves ..) (by decide)
  refine .step ?_ (State.updLane_moves ..) (by decide)
  refine .step ?_ (State.govJudge_moves ..) (by decide)
  refine .step ?_ (State.set_moves (d := 6) rfl) (by decide)
  apply Moves.ite
  refine .step ?_ (State.updLane_moves ..) (by decide)
  refine .step ?_ (State.writeReg_moves ..) (by decide)
  exact .refl ..
  refine .step ?_ (State.writeReg_moves ..) (by decide)
  exact .refl ..
  refine .step ?_ (State.govJudge_moves ..) (by decide)
  refine .step ?_ (State.set_moves (d := 6) rfl) (by decide)
  apply Moves.ite
  refine .step ?_ (State.updLane_moves ..) (by decide)
  refine .step ?_ (State.writeReg_moves ..) (by decide)
  exact .refl ..
  refine .step ?_ (State.writeReg_moves ..) (by decide)
  exact .refl ..

/-- What `State.writeLaneRef` may change: resp, frozen, icu, gov, vrec; registers of PD 0, 1, 2, 3, 4, 5, 6, 7, 8, 9, 10, 11, 12. -/
theorem State.writeLaneRef_moves (s : State) (q : Who) (k : ℕ) (v : ℕ) : Moves 0x7ffc00010080026 s (State.writeLaneRef s q k v) := by
  unfold State.writeLaneRef
  apply Moves.ite
  refine .step ?_ (State.upd_gov_moves ..) (by decide)
  refine .step ?_ (State.writeReg_moves ..) (by decide)
  exact .refl ..
  refine .step ?_ (State.writeReg_moves ..) (by decide)
  exact .refl ..

/-- What `State.enableShed` may change: lane, shed, pwm; registers of PD 6. -/
theorem State.enableShed_moves (s : State) (g : ℕ) : Moves 0x10000000005800 s (State.enableShed s g) := by
  unfold State.enableShed
  apply Moves.ite
  refine .step ?_ (State.set_moves (d := 6) rfl) (by decide)
  refine .step ?_ (State.set_moves (d := 6) rfl) (by decide)
  exact .refl ..
  refine .step ?_ (State.upd_shed_moves ..) (by decide)
  refine .step ?_ (State.shedTo_moves ..) (by decide)
  refine .step ?_ (State.set_moves (d := 6) rfl) (by decide)
  exact .refl ..

/-- What `State.writeShedCfg` may change: resp, frozen, icu, lane, shed, pwm, vrec; registers of PD 0, 1, 2, 3, 4, 5, 6, 7, 8, 9, 10, 11, 12. -/
theorem State.writeShedCfg_moves (s : State) (q : Who) (g : ℕ) (v : ℕ) : Moves 0x7ffc00010005826 s (State.writeShedCfg s q g v) := by
  unfold State.writeShedCfg
  apply Moves.ite
  apply Moves.ite
  refine .step ?_ (State.upd_shed_moves ..) (by decide)
  refine .step ?_ (State.writeReg_moves ..) (by decide)
  exact .refl ..
  refine .step ?_ (State.enableShed_moves ..) (by decide)
  refine .step ?_ (State.writeReg_moves ..) (by decide)
  exact .refl ..
  apply Moves.ite
  refine Moves.foldl ?_ ?_
  refine .step ?_ (State.writeReg_moves ..) (by decide)
  exact .refl ..
  intro u3_0 u3_1
  refine .step ?_ (State.shedMember_moves ..) (by decide)
  exact .refl ..
  refine .step ?_ (State.writeReg_moves ..) (by decide)
  exact .refl ..

/-- What `State.writeHedDst` may change: resp, frozen, icu, hedCnt, vrec; registers of PD 0, 1, 2, 3, 4, 5, 6, 7, 8, 9, 10, 11. -/
theorem State.writeHedDst_moves (s : State) (q : Who) (n : ℕ) (v : ℕ) : Moves 0x7ffc00010002026 s (State.writeHedDst s q n v) := by
  unfold State.writeHedDst
  refine .step ?_ (State.upd_hedCnt_moves ..) (by decide)
  refine .step ?_ (State.writeReg_moves ..) (by decide)
  exact .refl ..

/-- What `State.strobe` may change: free, icu, cmp, lane, shed, hedCnt, pwm, trip, dma, vrec, crerus; registers of PD 6, 7, 8, 10. -/
theorem State.strobe_moves (s : State) (m : ℕ) : Moves 0x17000005020f921 s (State.strobe s m) := by
  unfold State.strobe
  refine .step ?_ (State.fire_moves ..) (by decide)
  exact .refl ..

end Sys2Proof.Machine
end

