-- ==== Sys2Proof/Laws/MovesMore.lean ====
section
/-!
SUPPORT. `Moves` for the record updates that write several parts at once: which part of the state each may change.
They stand beside `Sys2Proof.Laws.MovesBase`, which has the updates of one or two parts.
-/

namespace Sys2Proof.Machine

theorem State.upd_adc_res_moves {s : State} {adc_ : Bank AdcCore 8} {res_ : Bank AdcRes 32} :
    Moves (0xc0) s { s with adc := adc_, res := res_ } := by
  refine ⟨rfl, fun p h => ?_, fun w => ⟨w.mem, w.regs, w.saved⟩⟩
  cases p <;> first | rfl | exact fun _ _ => rfl | exact absurd h (by decide)

theorem State.upd_crerus_queue_moves {s : State} {crerus_ : Crerus} {queue_ : Queue} :
    Moves (0xc0000000) s { s with crerus := crerus_, queue := queue_ } := by
  refine ⟨rfl, fun p h => ?_, fun w => ⟨w.mem, w.regs, w.saved⟩⟩
  cases p <;> first | rfl | exact fun _ _ => rfl | exact absurd h (by decide)

theorem State.upd_trip_core_ply_pwr_moves {s : State} {trip_ : TripSt} {core_ : Vector Core 3} {ply_ : PlySt} {pwr_ : PwrSt} :
    Moves (0x4003008000) s { s with trip := trip_, core := core_, ply := ply_, pwr := pwr_ } := by
  refine ⟨rfl, fun p h => ?_, fun w => ⟨w.mem, w.regs, w.saved⟩⟩
  cases p <;> first | rfl | exact fun _ _ => rfl | exact absurd h (by decide)

end Sys2Proof.Machine
end

