-- ==== Sys2Proof/Laws/MovesSampleRows.lean ====
section
/-!
SUPPORT. What each function of Machine/SampleRows.lean may change.
-/

namespace Sys2Proof.Machine

/-- What `State.writeAdcCtrl` may change: free, resp, frozen, icu, cmp, lane, shed, hedCnt, pwm, trip, dma, vrec, crerus; registers of PD 0, 1, 2, 3, 4, 5, 6, 7, 8, 9, 10, 11, 12. -/
theorem State.writeAdcCtrl_moves (s : State) (q : Who) (i : ℕ) (v : ℕ) : Moves 0x7ffc0005020f927 s (State.writeAdcCtrl s q i v) := by
  unfold State.writeAdcCtrl
  refine Moves.foldl ?_ ?_
  refine .step ?_ (State.set_moves (d := 7) rfl) (by decide)
  refine fireAll_moves ?_ (by decide)
  refine .step ?_ (State.missCheck_moves ..) (by decide)
  refine .step ?_ (State.writeReg_moves ..) (by decide)
  exact .refl ..
  intro u3_0 u3_1
  apply Moves.ite
  refine .step ?_ (State.adcTrigger_moves ..) (by decide)
  exact .refl ..
  exact .refl ..

/-- What `State.openAperture` may change: adc, res; registers of PD 7. -/
theorem State.openAperture_moves (s : State) (i : ℕ) (m : ℕ) : Moves 0x200000000000c0 s (State.openAperture s i m) := by
  unfold State.openAperture
  refine .step ?_ (State.upd_adc_res_moves ..) (by decide)
  refine .step ?_ (State.clrBit_moves (d := 7) rfl) (by decide)
  exact .refl ..

/-- What `State.adcComplete` may change: free, icu, adc, res, cmp, lane, shed, hedCnt, pwm, trip, gov, dma, vrec, crerus; registers of PD 6, 7, 8, 10. -/
theorem State.adcComplete_moves (s : State) (i : ℕ) (x : ℤ) : Moves 0x17000005028f9e1 s (State.adcComplete s i x) := by
  unfold State.adcComplete
  refine .step ?_ (State.fire_moves ..) (by decide)
  refine .step ?_ (State.adcDeliver_moves ..) (by decide)
  exact .refl ..

/-- What `State.readAdcRes` may change: resp; registers of PD 7. -/
theorem State.readAdcRes_moves (s : State) (q : Req) (i : ℕ) (m : ℕ) : Moves 0x20000000000002 s (State.readAdcRes s q i m) := by
  unfold State.readAdcRes
  refine .step ?_ (State.set_moves (d := 7) rfl) (by decide)
  refine .step ?_ (State.reply_moves ..) (by decide)
  exact .refl ..

/-- What `State.cmpFilter` may change: free, icu, cmp, lane, shed, hedCnt, pwm, trip, dma, vrec, crerus; registers of PD 6, 7, 8, 10. -/
theorem State.cmpFilter_moves (s : State) (j : ℕ) : Moves 0x17000005020f921 s (State.cmpFilter s j) := by
  unfold State.cmpFilter
  refine fireAll_moves ?_ (by decide)
  refine .step ?_ (State.cmpRefresh_moves ..) (by decide)
  refine .step ?_ (State.upd_cmp_moves ..) (by decide)
  exact .refl ..

/-- What `State.writeCmpCfg` may change: free, resp, frozen, icu, cmp, lane, shed, hedCnt, pwm, trip, dma, vrec, crerus; registers of PD 0, 1, 2, 3, 4, 5, 6, 7, 8, 9, 10, 11, 12. -/
theorem State.writeCmpCfg_moves (s : State) (q : Who) (j : ℕ) (v : ℕ) : Moves 0x7ffc0005020f927 s (State.writeCmpCfg s q j v) := by
  unfold State.writeCmpCfg
  extract_lets +onlyGivenNames v3
  clear_value v3
  extract_lets +onlyGivenNames v4
  refine Moves.bindV (v := v4) ?_ ?_
  unfold v4
  refine .step ?_ (State.writeReg_moves ..) (by decide)
  exact .refl ..
  intro hv4
  clear_value v4
  extract_lets +onlyGivenNames v5
  refine Moves.bindV (v := v5) ?_ ?_
  unfold v5
  apply Moves.ite
  refine .step ?_ (State.upd_cmp_moves ..) (by decide)
  assumption
  assumption
  intro hv5
  clear_value v5
  extract_lets +onlyGivenNames v6
  refine Moves.bindV (v := v6) ?_ ?_
  unfold v6
  refine .step ?_ (State.set_moves (d := 7) rfl) (by decide)
  assumption
  intro hv6
  clear_value v6
  extract_lets +onlyGivenNames v7
  refine Moves.bindV (v := v7) ?_ ?_
  unfold v7
  apply Moves.ite
  assumption
  refine .step ?_ (State.upd_cmp_moves ..) (by decide)
  assumption
  intro hv7
  clear_value v7
  extract_lets +onlyGivenNames v8
  clear_value v8
  extract_lets +onlyGivenNames v9
  refine Moves.bindV (v := v9) ?_ ?_
  unfold v9
  apply Moves.ite
  refine .step ?_ (State.upd_cmp_moves ..) (by decide)
  assumption
  assumption
  intro hv9
  clear_value v9
  split
  split
  refine .step ?_ (State.fire_moves ..) (by decide)
  refine .step ?_ (Moves.fst (State.judgeTrips_moves ..) (by assumption)) (by decide)
  refine .step ?_ (Moves.fst (State.cmpRefresh_moves ..) (by assumption)) (by decide)
  assumption

/-- What `State.dacSettle` may change: free, dac. -/
theorem State.dacSettle_moves (s : State) (k : ℕ) : Moves 0x201 s (State.dacSettle s k) := by
  unfold State.dacSettle
  refine .step ?_ (State.upd_free_dac_moves ..) (by decide)
  exact .refl ..

/-- What `State.writeDac` may change: free, resp, frozen, icu, dac, vrec; registers of PD 0, 1, 2, 3, 4, 5, 6, 7, 8, 9, 10, 11. -/
theorem State.writeDac_moves (s : State) (q : Who) (r : ℕ) (v : ℕ) : Moves 0x7ffc00010000227 s (State.writeDac s q r v) := by
  unfold State.writeDac
  apply Moves.ite
  refine .step ?_ (State.dacSettle_moves ..) (by decide)
  refine .step ?_ (State.writeReg_moves ..) (by decide)
  exact .refl ..
  apply Moves.ite
  refine .step ?_ (State.dacSettle_moves ..) (by decide)
  apply Moves.ite
  refine .step ?_ (State.dacSettle_moves ..) (by decide)
  refine .step ?_ (State.writeReg_moves ..) (by decide)
  exact .refl ..
  refine .step ?_ (State.writeReg_moves ..) (by decide)
  exact .refl ..
  apply Moves.ite
  refine .step ?_ (State.dacSettle_moves ..) (by decide)
  refine .step ?_ (State.writeReg_moves ..) (by decide)
  exact .refl ..
  refine .step ?_ (State.writeReg_moves ..) (by decide)
  exact .refl ..

/-- What `State.noMajority` may change: icu, health; registers of PD 0, 6, 7. -/
theorem State.noMajority_moves (s : State) : Moves 0x30400000800020 s (State.noMajority s) := by
  unfold State.noMajority
  refine .step ?_ (State.advise_moves ..) (by decide)
  refine .step ?_ (State.flagRise_moves (d := 7) rfl) (by decide)
  refine .step ?_ (State.set_moves (d := 7) rfl) (by decide)
  exact .refl ..

/-- What `State.rfmPublish` may change: rfm; registers of PD 7. -/
theorem State.rfmPublish_moves (s : State) (ia : ℤ) (ib : ℤ) (ab : ℤ) : Moves 0x20000000000400 s (State.rfmPublish s ia ib ab) := by
  unfold State.rfmPublish
  apply Moves.ite
  refine .step ?_ (State.sets_moves (d := 7) rfl) (by decide)
  apply Moves.ite
  refine .step ?_ (State.sets_moves (d := 7) rfl) (by decide)
  apply Moves.ite
  refine .step ?_ (State.sets_moves (d := 7) rfl) (by decide)
  refine .step ?_ (State.upd_rfm_moves ..) (by decide)
  exact .refl ..
  refine .step ?_ (State.upd_rfm_moves ..) (by decide)
  exact .refl ..
  apply Moves.ite
  refine .step ?_ (State.sets_moves (d := 7) rfl) (by decide)
  refine .step ?_ (State.upd_rfm_moves ..) (by decide)
  exact .refl ..
  refine .step ?_ (State.upd_rfm_moves ..) (by decide)
  exact .refl ..
  apply Moves.ite
  refine .step ?_ (State.sets_moves (d := 7) rfl) (by decide)
  apply Moves.ite
  refine .step ?_ (State.sets_moves (d := 7) rfl) (by decide)
  refine .step ?_ (State.upd_rfm_moves ..) (by decide)
  exact .refl ..
  refine .step ?_ (State.upd_rfm_moves ..) (by decide)
  exact .refl ..
  apply Moves.ite
  refine .step ?_ (State.sets_moves (d := 7) rfl) (by decide)
  refine .step ?_ (State.upd_rfm_moves ..) (by decide)
  exact .refl ..
  refine .step ?_ (State.upd_rfm_moves ..) (by decide)
  exact .refl ..

/-- What `State.rfmDecide` may change: icu, rfm; registers of PD 6, 7. -/
theorem State.rfmDecide_moves (s : State) (d : ℤ) : Moves 0x30000000000420 s (State.rfmDecide s d) := by
  unfold State.rfmDecide
  split
  apply Moves.ite
  apply Moves.ite
  refine .step ?_ (State.flagRise_moves (d := 7) rfl) (by decide)
  exact .refl ..
  apply Moves.ite
  refine .step ?_ (State.upd_rfm_moves ..) (by decide)
  exact .refl ..
  exact .refl ..
  exact .refl ..
  exact .refl ..

/-- What `State.rfmJudge` may change: icu, rfm, health; registers of PD 0, 6, 7. -/
theorem State.rfmJudge_moves (s : State) (d : ℤ) : Moves 0x30400000800420 s (State.rfmJudge s d) := by
  unfold State.rfmJudge
  apply Moves.ite
  refine .step ?_ (State.noMajority_moves ..) (by decide)
  apply Moves.ite
  refine .step ?_ (State.flagRise_moves (d := 7) rfl) (by decide)
  exact .refl ..
  exact .refl ..
  refine .step ?_ (State.rfmDecide_moves ..) (by decide)
  refine .step ?_ (State.sets_moves (d := 7) rfl) (by decide)
  refine .step ?_ (State.set_moves (d := 7) rfl) (by decide)
  apply Moves.ite
  refine .step ?_ (State.flagRise_moves (d := 7) rfl) (by decide)
  exact .refl ..
  exact .refl ..

/-- What `State.rfmCycle` may change: icu, rfm, health; registers of PD 0, 6, 7. -/
theorem State.rfmCycle_moves (s : State) (selfOk : Bool) : Moves 0x30400000800420 s (State.rfmCycle s selfOk) := by
  unfold State.rfmCycle
  apply Moves.ite
  refine .step ?_ (State.advise_moves ..) (by decide)
  refine .step ?_ (State.flagRise_moves (d := 7) rfl) (by decide)
  apply Moves.ite
  refine .step ?_ (State.advise_moves ..) (by decide)
  refine .step ?_ (State.setB_moves (d := 7) rfl) (by decide)
  exact .refl ..
  refine .step ?_ (State.setB_moves (d := 7) rfl) (by decide)
  exact .refl ..
  split
  refine .step ?_ (State.set_moves (d := 7) rfl) (by decide)
  apply Moves.ite
  refine .step ?_ (State.advise_moves ..) (by decide)
  refine .step ?_ (State.setB_moves (d := 7) rfl) (by decide)
  exact .refl ..
  refine .step ?_ (State.setB_moves (d := 7) rfl) (by decide)
  exact .refl ..
  split
  refine .step ?_ (State.rfmJudge_moves ..) (by decide)
  apply Moves.ite
  refine .step ?_ (State.advise_moves ..) (by decide)
  refine .step ?_ (State.setB_moves (d := 7) rfl) (by decide)
  exact .refl ..
  refine .step ?_ (State.setB_moves (d := 7) rfl) (by decide)
  exact .refl ..
  refine .step ?_ (State.noMajority_moves ..) (by decide)
  apply Moves.ite
  refine .step ?_ (State.advise_moves ..) (by decide)
  refine .step ?_ (State.setB_moves (d := 7) rfl) (by decide)
  exact .refl ..
  refine .step ?_ (State.setB_moves (d := 7) rfl) (by decide)
  exact .refl ..

/-- What `State.rfmSwitch` may change: icu, adc, rfm, health; registers of PD 0, 6, 7. -/
theorem State.rfmSwitch_moves (s : State) (spans : ℕ → Bool) : Moves 0x30400000800460 s (State.rfmSwitch s spans) := by
  unfold State.rfmSwitch
  split
  exact .refl ..
  apply Moves.ite
  exact .refl ..
  refine .step ?_ (State.upd_adc_moves ..) (by decide)
  refine .step ?_ (State.set_moves (d := 7) rfl) (by decide)
  refine .step ?_ (State.inc_moves (d := 7) rfl) (by decide)
  apply Moves.ite
  refine .step ?_ (State.advise_moves ..) (by decide)
  refine .step ?_ (State.raise_moves ..) (by decide)
  refine .step ?_ (State.set_moves (d := 7) rfl) (by decide)
  refine .step ?_ (State.sets_moves (d := 7) rfl) (by decide)
  refine .step ?_ (State.set_moves (d := 7) rfl) (by decide)
  refine .step ?_ (State.upd_rfm_moves ..) (by decide)
  exact .refl ..
  refine .step ?_ (State.raise_moves ..) (by decide)
  refine .step ?_ (State.set_moves (d := 7) rfl) (by decide)
  refine .step ?_ (State.sets_moves (d := 7) rfl) (by decide)
  refine .step ?_ (State.set_moves (d := 7) rfl) (by decide)
  refine .step ?_ (State.upd_rfm_moves ..) (by decide)
  exact .refl ..

/-- What `State.boundWin` may change: registers of PD 7. -/
theorem State.boundWin_moves (s : State) : Moves 0x20000000000000 s (State.boundWin s) := by
  unfold State.boundWin
  refine .step ?_ (State.set_moves (d := 7) rfl) (by decide)
  refine .step ?_ (State.set_moves (d := 7) rfl) (by decide)
  exact .refl ..

/-- What `State.writeRfmWin` may change: resp, frozen, icu, vrec; registers of PD 0, 1, 2, 3, 4, 5, 6, 7, 8, 9, 10, 11. -/
theorem State.writeRfmWin_moves (s : State) (q : Who) (v : ℕ) : Moves 0x7ffc00010000026 s (State.writeRfmWin s q v) := by
  unfold State.writeRfmWin
  refine .step ?_ (State.set_moves (d := 7) rfl) (by decide)
  refine .step ?_ (State.set_moves (d := 7) rfl) (by decide)
  refine .step ?_ (State.writeReg_moves ..) (by decide)
  exact .refl ..

end Sys2Proof.Machine
end

