-- ==== Sys2Proof/Laws/MovesSerialRows.lean ====
section
/-!
SUPPORT. What each function of Machine/SerialRows.lean may change.
-/

namespace Sys2Proof.Machine

/-- What `State.decode` may change: registers of PD 10. -/
theorem State.decode_moves (s : State) (old : ℕ) (new : ℕ) : Moves 0x100000000000000 s (State.decode s old new) := by
  unfold State.decode
  apply Moves.ite
  exact .refl ..
  apply Moves.ite
  apply Moves.ite
  refine .step ?_ (State.set_moves (d := 10) rfl) (by decide)
  refine .step ?_ (State.set_moves (d := 10) rfl) (by decide)
  exact .refl ..
  refine .step ?_ (State.set_moves (d := 10) rfl) (by decide)
  exact .refl ..
  refine .step ?_ (State.set_moves (d := 10) rfl) (by decide)
  apply Moves.ite
  refine .step ?_ (State.set_moves (d := 10) rfl) (by decide)
  exact .refl ..
  exact .refl ..

/-- What `State.gpioIn` may change: icu; registers of PD 6, 10. -/
theorem State.gpioIn_moves (s : State) (lv : ℕ) : Moves 0x110000000000020 s (State.gpioIn s lv) := by
  unfold State.gpioIn
  refine .step ?_ (State.decode_moves ..) (by decide)
  refine Moves.foldl ?_ ?_
  refine .step ?_ (State.set_moves (d := 10) rfl) (by decide)
  exact .refl ..
  intro u3_0 u3_1
  apply Moves.ite
  refine .step ?_ (State.raise_moves ..) (by decide)
  refine .step ?_ (State.setBit_moves (d := 10) rfl) (by decide)
  exact .refl ..
  exact .refl ..

/-- What `State.writeOutSet` may change: registers of PD 10. -/
theorem State.writeOutSet_moves (s : State) (v : ℕ) : Moves 0x100000000000000 s (State.writeOutSet s v) := by
  unfold State.writeOutSet
  refine .step ?_ (State.set_moves (d := 10) rfl) (by decide)
  exact .refl ..

/-- What `State.writeOutClr` may change: registers of PD 10. -/
theorem State.writeOutClr_moves (s : State) (v : ℕ) : Moves 0x100000000000000 s (State.writeOutClr s v) := by
  unfold State.writeOutClr
  refine .step ?_ (State.set_moves (d := 10) rfl) (by decide)
  exact .refl ..

/-- What `State.raiseNew` may change: icu; registers of PD 6. -/
theorem State.raiseNew_moves (s : State) (old : List ℕ) (new : List ℕ) : Moves 0x10000000000020 s (State.raiseNew s old new) := by
  unfold State.raiseNew
  refine Moves.foldl ?_ ?_
  exact .refl ..
  intro u4_0 u4_1
  refine .step ?_ (State.raise_moves ..) (by decide)
  exact .refl ..

/-- What `State.uartSync` may change: icu, uart; registers of PD 6, 10. -/
theorem State.uartSync_moves (s : State) : Moves 0x110080000000020 s (State.uartSync s) := by
  unfold State.uartSync
  refine .step ?_ (State.upd_uart_moves ..) (by decide)
  refine .step ?_ (State.raiseNew_moves ..) (by decide)
  refine .step ?_ (State.setB_moves (d := 10) rfl) (by decide)
  refine .step ?_ (State.set_moves (d := 10) rfl) (by decide)
  refine .step ?_ (State.set_moves (d := 10) rfl) (by decide)
  exact .refl ..

/-- What `State.writeUartTx` may change: icu, uart; registers of PD 6, 10. -/
theorem State.writeUartTx_moves (s : State) (v : ℕ) : Moves 0x110080000000020 s (State.writeUartTx s v) := by
  unfold State.writeUartTx
  refine .step ?_ (State.uartSync_moves ..) (by decide)
  apply Moves.ite
  refine .step ?_ (State.set_moves (d := 10) rfl) (by decide)
  exact .refl ..
  refine .step ?_ (State.upd_uart_moves ..) (by decide)
  exact .refl ..

/-- What `State.writeUart` may change: resp, frozen, icu, vrec, uart; registers of PD 0, 1, 2, 3, 4, 5, 6, 7, 8, 9, 10, 11. -/
theorem State.writeUart_moves (s : State) (q : Who) (a : ℕ) (v : ℕ) : Moves 0x7ffc80010000026 s (State.writeUart s q a v) := by
  unfold State.writeUart
  refine .step ?_ (State.uartSync_moves ..) (by decide)
  apply Moves.ite
  refine .step ?_ (State.writeReg_moves ..) (by decide)
  exact .refl ..
  refine .step ?_ (State.upd_uart_moves ..) (by decide)
  refine .step ?_ (State.writeReg_moves ..) (by decide)
  exact .refl ..

/-- What `State.uartPush` may change: icu, uart; registers of PD 6, 10. -/
theorem State.uartPush_moves (s : State) (d : ℕ) (par : Bool) (stop : Bool) : Moves 0x110080000000020 s (State.uartPush s d par stop) := by
  unfold State.uartPush
  apply Moves.ite
  refine .step ?_ (State.uartSync_moves ..) (by decide)
  refine .step ?_ (State.set_moves (d := 10) rfl) (by decide)
  refine .step ?_ (State.upd_uart_moves ..) (by decide)
  exact .refl ..
  refine .step ?_ (State.uartSync_moves ..) (by decide)
  refine .step ?_ (State.upd_uart_moves ..) (by decide)
  apply Moves.ite
  refine .step ?_ (State.set_moves (d := 10) rfl) (by decide)
  apply Moves.ite
  refine .step ?_ (State.set_moves (d := 10) rfl) (by decide)
  refine .step ?_ (State.upd_uart_moves ..) (by decide)
  exact .refl ..
  refine .step ?_ (State.upd_uart_moves ..) (by decide)
  exact .refl ..
  apply Moves.ite
  refine .step ?_ (State.set_moves (d := 10) rfl) (by decide)
  refine .step ?_ (State.upd_uart_moves ..) (by decide)
  exact .refl ..
  refine .step ?_ (State.upd_uart_moves ..) (by decide)
  exact .refl ..

/-- What `State.readUartRx` may change: resp, icu, uart; registers of PD 6, 10. -/
theorem State.readUartRx_moves (s : State) (q : Req) : Moves 0x110080000000022 s (State.readUartRx s q) := by
  unfold State.readUartRx
  refine .step ?_ (State.uartSync_moves ..) (by decide)
  refine .step ?_ (State.upd_uart_moves ..) (by decide)
  refine .step ?_ (State.reply_moves ..) (by decide)
  exact .refl ..

/-- What `State.updI2c` may change: i2c. -/
theorem State.updI2c_moves (s : State) (f : I2cSt → I2cSt) : Moves 0x100000000000 s (State.updI2c s f) := by
  unfold State.updI2c
  refine .step ?_ (State.upd_i2c_moves ..) (by decide)
  exact .refl ..

/-- What `State.i2cSync` may change: icu, i2c; registers of PD 6, 10. -/
theorem State.i2cSync_moves (s : State) : Moves 0x110100000000020 s (State.i2cSync s) := by
  unfold State.i2cSync
  refine .step ?_ (State.updI2c_moves ..) (by decide)
  refine .step ?_ (State.raiseNew_moves ..) (by decide)
  refine .step ?_ (State.set_moves (d := 10) rfl) (by decide)
  refine .step ?_ (State.set_moves (d := 10) rfl) (by decide)
  exact .refl ..

/-- What `State.i2cBegin` may change: i2c; registers of PD 10. -/
theorem State.i2cBegin_moves (s : State) : Moves 0x100100000000000 s (State.i2cBegin s) := by
  unfold State.i2cBegin
  apply Moves.ite
  refine .step ?_ (State.updI2c_moves ..) (by decide)
  refine .step ?_ (State.set_moves (d := 10) rfl) (by decide)
  refine .step ?_ (State.set_moves (d := 10) rfl) (by decide)
  exact .refl ..
  exact .refl ..

/-- What `State.i2cRelease` may change: i2c; registers of PD 10. -/
theorem State.i2cRelease_moves (s : State) : Moves 0x100100000000000 s (State.i2cRelease s) := by
  unfold State.i2cRelease
  refine .step ?_ (State.updI2c_moves ..) (by decide)
  refine .step ?_ (State.set_moves (d := 10) rfl) (by decide)
  refine .step ?_ (State.set_moves (d := 10) rfl) (by decide)
  exact .refl ..

/-- What `State.i2cEnd` may change: i2c; registers of PD 10. -/
theorem State.i2cEnd_moves (s : State) : Moves 0x100100000000000 s (State.i2cEnd s) := by
  unfold State.i2cEnd
  refine .step ?_ (State.updI2c_moves ..) (by decide)
  refine .step ?_ (State.set_moves (d := 10) rfl) (by decide)
  refine .step ?_ (State.set_moves (d := 10) rfl) (by decide)
  exact .refl ..

/-- What `State.writeXfer` may change: resp, frozen, icu, vrec, i2c; registers of PD 0, 1, 2, 3, 4, 5, 6, 7, 8, 9, 10, 11. -/
theorem State.writeXfer_moves (s : State) (q : Who) (v : ℕ) : Moves 0x7ffd00010000026 s (State.writeXfer s q v) := by
  unfold State.writeXfer
  apply Moves.ite
  refine .step ?_ (State.writeReg_moves ..) (by decide)
  exact .refl ..
  apply Moves.ite
  refine .step ?_ (State.set_moves (d := 10) rfl) (by decide)
  exact .refl ..
  refine .step ?_ (State.i2cSync_moves ..) (by decide)
  refine .step ?_ (State.i2cBegin_moves ..) (by decide)
  refine .step ?_ (State.updI2c_moves ..) (by decide)
  refine .step ?_ (State.set_moves (d := 10) rfl) (by decide)
  refine .step ?_ (State.set_moves (d := 10) rfl) (by decide)
  refine .step ?_ (State.set_moves (d := 10) rfl) (by decide)
  refine .step ?_ (State.writeReg_moves ..) (by decide)
  exact .refl ..

/-- What `State.i2cNack` may change: i2c; registers of PD 10. -/
theorem State.i2cNack_moves (s : State) : Moves 0x100100000000000 s (State.i2cNack s) := by
  unfold State.i2cNack
  refine .step ?_ (State.updI2c_moves ..) (by decide)
  refine .step ?_ (State.set_moves (d := 10) rfl) (by decide)
  exact .refl ..

/-- What `State.i2cByte` may change: i2c; registers of PD 10. -/
theorem State.i2cByte_moves (s : State) (ack : Bool) (d : ℕ) : Moves 0x100100000000000 s (State.i2cByte s ack d) := by
  unfold State.i2cByte
  apply Moves.ite
  exact .refl ..
  apply Moves.ite
  apply Moves.ite
  refine .step ?_ (State.updI2c_moves ..) (by decide)
  exact .refl ..
  refine .step ?_ (State.i2cNack_moves ..) (by decide)
  refine .step ?_ (State.updI2c_moves ..) (by decide)
  exact .refl ..
  apply Moves.ite
  exact .refl ..
  apply Moves.ite
  apply Moves.ite
  exact .refl ..
  refine .step ?_ (State.updI2c_moves ..) (by decide)
  refine .step ?_ (State.set_moves (d := 10) rfl) (by decide)
  exact .refl ..
  split
  exact .refl ..
  apply Moves.ite
  refine .step ?_ (State.updI2c_moves ..) (by decide)
  refine .step ?_ (State.set_moves (d := 10) rfl) (by decide)
  exact .refl ..
  refine .step ?_ (State.i2cNack_moves ..) (by decide)
  refine .step ?_ (State.updI2c_moves ..) (by decide)
  refine .step ?_ (State.set_moves (d := 10) rfl) (by decide)
  exact .refl ..

/-- What `State.writeI2cCtrl` may change: resp, frozen, icu, vrec, i2c; registers of PD 0, 1, 2, 3, 4, 5, 6, 7, 8, 9, 10, 11. -/
theorem State.writeI2cCtrl_moves (s : State) (q : Who) (v : ℕ) : Moves 0x7ffd00010000026 s (State.writeI2cCtrl s q v) := by
  unfold State.writeI2cCtrl
  refine .step ?_ (State.i2cSync_moves ..) (by decide)
  apply Moves.ite
  refine .step ?_ (State.writeReg_moves ..) (by decide)
  exact .refl ..
  apply Moves.ite
  refine .step ?_ (State.i2cRelease_moves ..) (by decide)
  apply Moves.ite
  refine .step ?_ (State.i2cEnd_moves ..) (by decide)
  refine .step ?_ (State.writeReg_moves ..) (by decide)
  exact .refl ..
  refine .step ?_ (State.writeReg_moves ..) (by decide)
  exact .refl ..
  apply Moves.ite
  refine .step ?_ (State.i2cEnd_moves ..) (by decide)
  refine .step ?_ (State.writeReg_moves ..) (by decide)
  exact .refl ..
  refine .step ?_ (State.writeReg_moves ..) (by decide)
  exact .refl ..

/-- What `State.targetByte` may change: i2c. -/
theorem State.targetByte_moves (s : State) (ack : Bool) (d : ℕ) : Moves 0x100000000000 s (State.targetByte s ack d) := by
  unfold State.targetByte
  apply Moves.ite
  exact .refl ..
  apply Moves.ite
  split
  exact .refl ..
  refine .step ?_ (State.updI2c_moves ..) (by decide)
  exact .refl ..
  apply Moves.ite
  exact .refl ..
  refine .step ?_ (State.updI2c_moves ..) (by decide)
  exact .refl ..

/-- What `State.i2cStopped` may change: i2c; registers of PD 10. -/
theorem State.i2cStopped_moves (s : State) (again : Bool) : Moves 0x100100000000000 s (State.i2cStopped s again) := by
  unfold State.i2cStopped
  apply Moves.ite
  apply Moves.ite
  refine .step ?_ (State.set_moves (d := 10) rfl) (by decide)
  refine .step ?_ (State.set_moves (d := 10) rfl) (by decide)
  exact .refl ..
  exact .refl ..
  refine .step ?_ (State.i2cBegin_moves ..) (by decide)
  refine .step ?_ (State.updI2c_moves ..) (by decide)
  refine .step ?_ (State.set_moves (d := 10) rfl) (by decide)
  apply Moves.ite
  refine .step ?_ (State.set_moves (d := 10) rfl) (by decide)
  refine .step ?_ (State.set_moves (d := 10) rfl) (by decide)
  exact .refl ..
  exact .refl ..

/-- What `State.stretchEnd` may change: registers of PD 10. -/
theorem State.stretchEnd_moves (s : State) : Moves 0x100000000000000 s (State.stretchEnd s) := by
  unfold State.stretchEnd
  apply Moves.ite
  exact .refl ..
  apply Moves.ite
  apply Moves.ite
  refine .step ?_ (State.set_moves (d := 10) rfl) (by decide)
  exact .refl ..
  exact .refl ..
  apply Moves.ite
  refine .step ?_ (State.set_moves (d := 10) rfl) (by decide)
  exact .refl ..
  exact .refl ..

/-- What `State.writeI2cTx` may change: icu, i2c; registers of PD 6, 10. -/
theorem State.writeI2cTx_moves (s : State) (v : ℕ) : Moves 0x110100000000020 s (State.writeI2cTx s v) := by
  unfold State.writeI2cTx
  refine .step ?_ (State.i2cSync_moves ..) (by decide)
  apply Moves.ite
  refine .step ?_ (State.set_moves (d := 10) rfl) (by decide)
  exact .refl ..
  refine .step ?_ (State.updI2c_moves ..) (by decide)
  exact .refl ..

/-- What `State.writeI2c` may change: resp, frozen, icu, vrec, i2c; registers of PD 0, 1, 2, 3, 4, 5, 6, 7, 8, 9, 10, 11. -/
theorem State.writeI2c_moves (s : State) (q : Who) (a : ℕ) (v : ℕ) : Moves 0x7ffd00010000026 s (State.writeI2c s q a v) := by
  unfold State.writeI2c
  refine .step ?_ (State.i2cSync_moves ..) (by decide)
  refine .step ?_ (State.writeReg_moves ..) (by decide)
  exact .refl ..

/-- What `State.readI2cRx` may change: resp, icu, i2c; registers of PD 6, 10. -/
theorem State.readI2cRx_moves (s : State) (q : Req) : Moves 0x110100000000022 s (State.readI2cRx s q) := by
  unfold State.readI2cRx
  refine .step ?_ (State.i2cSync_moves ..) (by decide)
  refine .step ?_ (State.updI2c_moves ..) (by decide)
  refine .step ?_ (State.reply_moves ..) (by decide)
  exact .refl ..

end Sys2Proof.Machine
end

