-- ==== Sys2Proof/Laws/MovesTimerRows.lean ====
section
/-!
SUPPORT. What each function of Machine/TimerRows.lean may change.
-/

namespace Sys2Proof.Machine

/-- What `State.updTmr` may change: tmr. -/
theorem State.updTmr_moves (s : State) (n : ℕ) (f : Tmr → Tmr) : Moves 0x100000 s (State.updTmr s n f) := by
  unfold State.updTmr
  refine .step ?_ (State.upd_tmr_moves ..) (by decide)
  exact .refl ..

/-- What `State.tmrLoad` may change: tmr. -/
theorem State.tmrLoad_moves (s : State) (n : ℕ) : Moves 0x100000 s (State.tmrLoad s n) := by
  unfold State.tmrLoad
  refine .step ?_ (State.updTmr_moves ..) (by decide)
  exact .refl ..

/-- What `State.pinAct` may change: tmr; registers of PD 6. -/
theorem State.pinAct_moves (s : State) (n : ℕ) (rank : ℕ) (act : ℕ) : Moves 0x10000000100000 s (State.pinAct s n rank act) := by
  unfold State.pinAct
  apply Moves.ite
  exact .refl ..
  apply Moves.ite
  exact .refl ..
  refine .step ?_ (State.setB_moves (d := 6) rfl) (by decide)
  refine .step ?_ (State.updTmr_moves ..) (by decide)
  exact .refl ..

/-- What `State.tmrEvent` may change: icu; registers of PD 6. -/
theorem State.tmrEvent_moves (s : State) (n : ℕ) (e : ℕ) : Moves 0x10000000000020 s (State.tmrEvent s n e).1 := by
  unfold State.tmrEvent
  refine .step ?_ (State.raiseIf_moves ..) (by decide)
  exact .refl ..

/-- What `State.pinEvent` may change: icu, cmp, pwm; registers of PD 6, 7. -/
theorem State.pinEvent_moves (s : State) (n : ℕ) (e : ℕ) : Moves 0x30000000004120 s (State.pinEvent s n e).1 := by
  unfold State.pinEvent
  split
  split
  dsimp only
  refine .step ?_ (Moves.fst (State.drivenTrips_moves ..) (by assumption)) (by decide)
  refine .step ?_ (Moves.fst (State.tmrEvent_moves ..) (by assumption)) (by decide)
  exact .refl ..

/-- What `State.countAt` may change: tmr; registers of PD 6. -/
theorem State.countAt_moves (s : State) (n : ℕ) (v : ℕ) : Moves 0x10000000100000 s (State.countAt s n v) := by
  unfold State.countAt
  apply Moves.ite
  exact .refl ..
  refine .step ?_ (State.set_moves (d := 6) rfl) (by decide)
  refine .step ?_ (State.updTmr_moves ..) (by decide)
  exact .refl ..

/-- What `State.tmrMatch` may change: icu, cmp, pwm, tmr; registers of PD 6, 7. -/
theorem State.tmrMatch_moves (s : State) (n : ℕ) (b : Bool) : Moves 0x30000000104120 s (State.tmrMatch s n b).1 := by
  unfold State.tmrMatch
  apply Moves.ite1
  dsimp only
  exact .refl ..
  refine .step ?_ (State.pinEvent_moves ..) (by decide)
  refine .step ?_ (State.pinAct_moves ..) (by decide)
  refine .step ?_ (State.set_moves (d := 6) (by split <;> rfl)) (by decide)
  refine .step ?_ (State.countAt_moves ..) (by decide)
  exact .refl ..

/-- What `State.tmrWrap` may change: icu, cmp, pwm, tmr; registers of PD 6, 7. -/
theorem State.tmrWrap_moves (s : State) (n : ℕ) : Moves 0x30000000104120 s (State.tmrWrap s n).1 := by
  unfold State.tmrWrap
  apply Moves.ite1
  dsimp only
  exact .refl ..
  refine .step ?_ (State.pinEvent_moves ..) (by decide)
  apply Moves.ite
  refine .step ?_ (State.updTmr_moves ..) (by decide)
  refine .step ?_ (State.set_moves (d := 6) rfl) (by decide)
  refine .step ?_ (State.set_moves (d := 6) rfl) (by decide)
  refine .step ?_ (State.tmrLoad_moves ..) (by decide)
  refine .step ?_ (State.pinAct_moves ..) (by decide)
  refine .step ?_ (State.set_moves (d := 6) rfl) (by decide)
  refine .step ?_ (State.set_moves (d := 6) rfl) (by decide)
  refine .step ?_ (State.updTmr_moves ..) (by decide)
  exact .refl ..
  refine .step ?_ (State.tmrLoad_moves ..) (by decide)
  refine .step ?_ (State.pinAct_moves ..) (by decide)
  refine .step ?_ (State.set_moves (d := 6) rfl) (by decide)
  refine .step ?_ (State.set_moves (d := 6) rfl) (by decide)
  refine .step ?_ (State.updTmr_moves ..) (by decide)
  exact .refl ..

/-- What `State.tmrCapture` may change: icu, tmr; registers of PD 6. -/
theorem State.tmrCapture_moves (s : State) (n : ℕ) (rise : Bool) : Moves 0x10000000100020 s (State.tmrCapture s n rise).1 := by
  unfold State.tmrCapture
  apply Moves.ite1
  dsimp only
  exact .refl ..
  refine .step ?_ (State.tmrEvent_moves ..) (by decide)
  apply Moves.ite
  refine .step ?_ (State.set_moves (d := 6) rfl) (by decide)
  refine .step ?_ (State.updTmr_moves ..) (by decide)
  refine .step ?_ (State.set_moves (d := 6) rfl) (by decide)
  apply Moves.ite
  refine .step ?_ (State.set_moves (d := 6) rfl) (by decide)
  refine .step ?_ (State.set_moves (d := 6) rfl) (by decide)
  refine .step ?_ (State.updTmr_moves ..) (by decide)
  refine .step ?_ (State.set_moves (d := 6) rfl) (by decide)
  exact .refl ..
  refine .step ?_ (State.set_moves (d := 6) rfl) (by decide)
  refine .step ?_ (State.updTmr_moves ..) (by decide)
  refine .step ?_ (State.set_moves (d := 6) rfl) (by decide)
  exact .refl ..
  refine .step ?_ (State.set_moves (d := 6) rfl) (by decide)
  apply Moves.ite
  refine .step ?_ (State.set_moves (d := 6) rfl) (by decide)
  refine .step ?_ (State.set_moves (d := 6) rfl) (by decide)
  refine .step ?_ (State.updTmr_moves ..) (by decide)
  refine .step ?_ (State.set_moves (d := 6) rfl) (by decide)
  exact .refl ..
  refine .step ?_ (State.set_moves (d := 6) rfl) (by decide)
  refine .step ?_ (State.updTmr_moves ..) (by decide)
  refine .step ?_ (State.set_moves (d := 6) rfl) (by decide)
  exact .refl ..

/-- What `State.readTmrCap` may change: resp; registers of PD 6. -/
theorem State.readTmrCap_moves (s : State) (q : Req) (n : ℕ) : Moves 0x10000000000002 s (State.readTmrCap s q n) := by
  unfold State.readTmrCap
  refine .step ?_ (State.set_moves (d := 6) rfl) (by decide)
  refine .step ?_ (State.reply_moves ..) (by decide)
  exact .refl ..

/-- What `State.writeTmrCnt` may change: tmr; registers of PD 6. -/
theorem State.writeTmrCnt_moves (s : State) (n : ℕ) (v : ℕ) : Moves 0x10000000100000 s (State.writeTmrCnt s n v) := by
  unfold State.writeTmrCnt
  apply Moves.ite
  refine .step ?_ (State.updTmr_moves ..) (by decide)
  exact .refl ..
  apply Moves.ite
  exact .refl ..
  refine .step ?_ (State.set_moves (d := 6) rfl) (by decide)
  exact .refl ..

/-- What `State.writeTmrPin` may change: free, resp, frozen, icu, cmp, lane, shed, hedCnt, pwm, trip, tmr, dma, vrec, crerus; registers of PD 0, 1, 2, 3, 4, 5, 6, 7, 8, 9, 10, 11, 12. -/
theorem State.writeTmrPin_moves (s : State) (q : Who) (n : ℕ) (v : ℕ) : Moves 0x7ffc0005030f927 s (State.writeTmrPin s q n v) := by
  unfold State.writeTmrPin
  refine fireAll_moves ?_ (by decide)
  refine .step ?_ (State.drivenTrips_moves ..) (by decide)
  refine .step ?_ (State.set_moves (d := 6) rfl) (by decide)
  refine .step ?_ (State.pinAct_moves ..) (by decide)
  refine .step ?_ (State.writeReg_moves ..) (by decide)
  exact .refl ..

/-- What `State.tmrStart` may change: tmr; registers of PD 6. -/
theorem State.tmrStart_moves (s : State) (n : ℕ) : Moves 0x10000000100000 s (State.tmrStart s n) := by
  unfold State.tmrStart
  refine .step ?_ (State.updTmr_moves ..) (by decide)
  refine .step ?_ (State.set_moves (d := 6) rfl) (by decide)
  refine .step ?_ (State.tmrLoad_moves ..) (by decide)
  exact .refl ..

/-- What `State.tmrStop` may change: tmr; registers of PD 6. -/
theorem State.tmrStop_moves (s : State) (n : ℕ) : Moves 0x10000000100000 s (State.tmrStop s n) := by
  unfold State.tmrStop
  refine .step ?_ (State.updTmr_moves ..) (by decide)
  refine .step ?_ (State.set_moves (d := 6) rfl) (by decide)
  exact .refl ..

/-- What `State.writeTmrCtrl` may change: free, resp, frozen, icu, cmp, lane, shed, hedCnt, pwm, trip, tmr, dma, vrec, crerus; registers of PD 0, 1, 2, 3, 4, 5, 6, 7, 8, 9, 10, 11, 12. -/
theorem State.writeTmrCtrl_moves (s : State) (q : Who) (n : ℕ) (v : ℕ) : Moves 0x7ffc0005030f927 s (State.writeTmrCtrl s q n v) := by
  unfold State.writeTmrCtrl
  refine fireAll_moves ?_ (by decide)
  refine .step ?_ (State.drivenTrips_moves ..) (by decide)
  apply Moves.ite
  refine .step ?_ (State.set_moves (d := 6) rfl) (by decide)
  refine .step ?_ (State.tmrStop_moves ..) (by decide)
  apply Moves.ite
  refine .step ?_ (State.set_moves (d := 6) rfl) (by decide)
  refine .step ?_ (State.writeReg_moves ..) (by decide)
  exact .refl ..
  refine .step ?_ (State.writeReg_moves ..) (by decide)
  exact .refl ..
  apply Moves.ite
  refine .step ?_ (State.set_moves (d := 6) rfl) (by decide)
  refine .step ?_ (State.set_moves (d := 6) rfl) (by decide)
  refine .step ?_ (State.tmrStop_moves ..) (by decide)
  apply Moves.ite
  refine .step ?_ (State.set_moves (d := 6) rfl) (by decide)
  refine .step ?_ (State.writeReg_moves ..) (by decide)
  exact .refl ..
  refine .step ?_ (State.writeReg_moves ..) (by decide)
  exact .refl ..
  apply Moves.ite
  apply Moves.ite
  refine .step ?_ (State.set_moves (d := 6) rfl) (by decide)
  refine .step ?_ (State.writeReg_moves ..) (by decide)
  exact .refl ..
  refine .step ?_ (State.writeReg_moves ..) (by decide)
  exact .refl ..
  refine .step ?_ (State.tmrStart_moves ..) (by decide)
  refine .step ?_ (State.set_moves (d := 6) rfl) (by decide)
  apply Moves.ite
  refine .step ?_ (State.set_moves (d := 6) rfl) (by decide)
  refine .step ?_ (State.writeReg_moves ..) (by decide)
  exact .refl ..
  refine .step ?_ (State.writeReg_moves ..) (by decide)
  exact .refl ..

/-- What `State.writeTmrVal` may change: resp, frozen, icu, tmr, vrec; registers of PD 0, 1, 2, 3, 4, 5, 6, 7, 8, 9, 10, 11. -/
theorem State.writeTmrVal_moves (s : State) (q : Who) (n : ℕ) (r : ℕ) (v : ℕ) : Moves 0x7ffc00010100026 s (State.writeTmrVal s q n r v) := by
  unfold State.writeTmrVal
  apply Moves.ite
  refine .step ?_ (State.set_moves (d := 6) rfl) (by decide)
  apply Moves.ite
  refine .step ?_ (State.writeReg_moves ..) (by decide)
  exact .refl ..
  refine .step ?_ (State.tmrLoad_moves ..) (by decide)
  refine .step ?_ (State.writeReg_moves ..) (by decide)
  exact .refl ..
  apply Moves.ite
  refine .step ?_ (State.writeReg_moves ..) (by decide)
  exact .refl ..
  refine .step ?_ (State.tmrLoad_moves ..) (by decide)
  refine .step ?_ (State.writeReg_moves ..) (by decide)
  exact .refl ..

/-- What `State.loadLatch` may change: time. -/
theorem State.loadLatch_moves (s : State) (q : Req) (w : Wide) : Moves 0x10 s (State.loadLatch s q w) := by
  unfold State.loadLatch
  refine .step ?_ (State.upd_time_moves ..) (by decide)
  exact .refl ..

/-- What `State.readWideLow` may change: resp, time. -/
theorem State.readWideLow_moves (s : State) (q : Req) (w : Wide) : Moves 0x12 s (State.readWideLow s q w) := by
  unfold State.readWideLow
  refine .step ?_ (State.loadLatch_moves ..) (by decide)
  refine .step ?_ (State.reply_moves ..) (by decide)
  exact .refl ..

/-- What `State.putLatch` may change: time. -/
theorem State.putLatch_moves (s : State) (q : Req) (v : ℕ) : Moves 0x10 s (State.putLatch s q v) := by
  unfold State.putLatch
  refine .step ?_ (State.upd_time_moves ..) (by decide)
  exact .refl ..

/-- What `State.commitWide` may change: time; registers of PD 6. -/
theorem State.commitWide_moves (s : State) (q : Req) (v : ℕ) : Moves 0x10000000000010 s (State.commitWide s q v) := by
  unfold State.commitWide
  refine .step ?_ (State.putLatch_moves ..) (by decide)
  refine .step ?_ (State.set_moves (d := 6) rfl) (by decide)
  refine .step ?_ (State.set_moves (d := 6) rfl) (by decide)
  exact .refl ..

/-- What `State.showArmed` may change: registers of PD 9. -/
theorem State.showArmed_moves (s : State) : Moves 0x80000000000000 s (State.showArmed s) := by
  unfold State.showArmed
  refine .step ?_ (State.set_moves (d := 9) rfl) (by decide)
  refine .step ?_ (State.set_moves (d := 9) rfl) (by decide)
  refine .step ?_ (State.setB_moves (d := 9) rfl) (by decide)
  exact .refl ..

/-- What `State.tick119` may change: free, time, icu, cmp, lane, shed, hedCnt, pwm, trip, dma, vrec, crerus; registers of PD 6, 7, 8, 10. -/
theorem State.tick119_moves (s : State) (step : Bool) : Moves 0x17000005020f931 s (State.tick119 s step) := by
  unfold State.tick119
  apply Moves.ite
  refine .step ?_ (State.fire_moves ..) (by decide)
  refine .step ?_ (State.upd_time_moves ..) (by decide)
  exact .refl ..
  exact .refl ..

/-- What `State.stepTb` may change: free, time, icu, cmp, lane, shed, hedCnt, pwm, trip, gov, dma, vrec, warp, crerus; registers of PD 0, 6, 7, 8, 9, 10. -/
theorem State.stepTb_moves (s : State) (tb : BitVec 64) : Moves 0x1f040007028f931 s (State.stepTb s tb) := by
  unfold State.stepTb
  refine .step ?_ (State.tick119_moves ..) (by decide)
  apply Moves.ite
  refine .step ?_ (State.govSample_moves ..) (by decide)
  apply Moves.ite
  refine .step ?_ (State.set_moves (d := 6) rfl) (by decide)
  refine .step ?_ (State.set_moves (d := 6) rfl) (by decide)
  apply Moves.ite
  refine .step ?_ (State.set_moves (d := 6) rfl) (by decide)
  refine .step ?_ (State.setB_moves (d := 9) rfl) (by decide)
  refine .step ?_ (State.showArmed_moves ..) (by decide)
  refine .step ?_ (State.set_moves (d := 9) rfl) (by decide)
  refine .step ?_ (State.set_moves (d := 9) rfl) (by decide)
  refine .step ?_ (State.upd_time_warp_moves ..) (by decide)
  exact .refl ..
  refine .step ?_ (State.setB_moves (d := 9) rfl) (by decide)
  refine .step ?_ (State.showArmed_moves ..) (by decide)
  refine .step ?_ (State.set_moves (d := 9) rfl) (by decide)
  refine .step ?_ (State.set_moves (d := 9) rfl) (by decide)
  refine .step ?_ (State.upd_time_warp_moves ..) (by decide)
  exact .refl ..
  apply Moves.ite
  refine .step ?_ (State.set_moves (d := 6) rfl) (by decide)
  refine .step ?_ (State.setB_moves (d := 9) rfl) (by decide)
  refine .step ?_ (State.showArmed_moves ..) (by decide)
  refine .step ?_ (State.set_moves (d := 9) rfl) (by decide)
  refine .step ?_ (State.set_moves (d := 9) rfl) (by decide)
  refine .step ?_ (State.upd_time_warp_moves ..) (by decide)
  exact .refl ..
  refine .step ?_ (State.setB_moves (d := 9) rfl) (by decide)
  refine .step ?_ (State.showArmed_moves ..) (by decide)
  refine .step ?_ (State.set_moves (d := 9) rfl) (by decide)
  refine .step ?_ (State.set_moves (d := 9) rfl) (by decide)
  refine .step ?_ (State.upd_time_warp_moves ..) (by decide)
  exact .refl ..
  apply Moves.ite
  refine .step ?_ (State.set_moves (d := 6) rfl) (by decide)
  refine .step ?_ (State.set_moves (d := 6) rfl) (by decide)
  apply Moves.ite
  refine .step ?_ (State.set_moves (d := 6) rfl) (by decide)
  refine .step ?_ (State.setB_moves (d := 9) rfl) (by decide)
  refine .step ?_ (State.showArmed_moves ..) (by decide)
  refine .step ?_ (State.set_moves (d := 9) rfl) (by decide)
  refine .step ?_ (State.set_moves (d := 9) rfl) (by decide)
  refine .step ?_ (State.upd_time_warp_moves ..) (by decide)
  exact .refl ..
  refine .step ?_ (State.setB_moves (d := 9) rfl) (by decide)
  refine .step ?_ (State.showArmed_moves ..) (by decide)
  refine .step ?_ (State.set_moves (d := 9) rfl) (by decide)
  refine .step ?_ (State.set_moves (d := 9) rfl) (by decide)
  refine .step ?_ (State.upd_time_warp_moves ..) (by decide)
  exact .refl ..
  apply Moves.ite
  refine .step ?_ (State.set_moves (d := 6) rfl) (by decide)
  refine .step ?_ (State.setB_moves (d := 9) rfl) (by decide)
  refine .step ?_ (State.showArmed_moves ..) (by decide)
  refine .step ?_ (State.set_moves (d := 9) rfl) (by decide)
  refine .step ?_ (State.set_moves (d := 9) rfl) (by decide)
  refine .step ?_ (State.upd_time_warp_moves ..) (by decide)
  exact .refl ..
  refine .step ?_ (State.setB_moves (d := 9) rfl) (by decide)
  refine .step ?_ (State.showArmed_moves ..) (by decide)
  refine .step ?_ (State.set_moves (d := 9) rfl) (by decide)
  refine .step ?_ (State.set_moves (d := 9) rfl) (by decide)
  refine .step ?_ (State.upd_time_warp_moves ..) (by decide)
  exact .refl ..

/-- What `State.writePhase` may change: pwm; registers of PD 6. -/
theorem State.writePhase_moves (s : State) (p : ℕ) (per : ℕ) : Moves 0x10000000004000 s (State.writePhase s p per) := by
  unfold State.writePhase
  apply Moves.ite
  refine .step ?_ (State.handValue_moves ..) (by decide)
  exact .refl ..
  refine .step ?_ (State.set_moves (d := 6) rfl) (by decide)
  refine .step ?_ (State.handValue_moves ..) (by decide)
  exact .refl ..

/-- What `State.stgLoad` may change: pwm; registers of PD 6. -/
theorem State.stgLoad_moves (s : State) (g : ℕ) : Moves 0x10000000004000 s (State.stgLoad s g) := by
  unfold State.stgLoad
  apply Moves.ite
  refine .step ?_ (State.set_moves (d := 6) rfl) (by decide)
  exact .refl ..
  refine .step ?_ (State.set_moves (d := 6) rfl) (by decide)
  refine .step ?_ (State.set_moves (d := 6) rfl) (by decide)
  apply Moves.ite
  refine Moves.foldl ?_ ?_
  exact .refl ..
  intro u3_0 u3_1
  refine .step ?_ (State.writePhase_moves ..) (by decide)
  refine .step ?_ (State.updPwm_moves ..) (by decide)
  exact .refl ..
  refine Moves.foldl ?_ ?_
  exact .refl ..
  intro u3_0 u3_1
  apply Moves.ite
  refine .step ?_ (State.set_moves (d := 6) rfl) (by decide)
  refine .step ?_ (State.set_moves (d := 6) rfl) (by decide)
  exact .refl ..
  refine .step ?_ (State.set_moves (d := 6) rfl) (by decide)
  exact .refl ..

/-- What `State.writeStg` may change: resp, frozen, icu, pwm, vrec; registers of PD 0, 1, 2, 3, 4, 5, 6, 7, 8, 9, 10, 11. -/
theorem State.writeStg_moves (s : State) (q : Who) (g : ℕ) (v : ℕ) : Moves 0x7ffc00010004026 s (State.writeStg s q g v) := by
  unfold State.writeStg
  apply Moves.ite
  refine .step ?_ (State.stgLoad_moves ..) (by decide)
  refine .step ?_ (State.set_moves (d := 6) rfl) (by decide)
  refine .step ?_ (State.writeReg_moves ..) (by decide)
  exact .refl ..
  refine .step ?_ (State.set_moves (d := 6) rfl) (by decide)
  refine .step ?_ (State.writeReg_moves ..) (by decide)
  exact .refl ..

/-- What `State.releaseAll` may change: free, icu, cmp, lane, pwm, tmr; registers of PD 6, 7. -/
theorem State.releaseAll_moves (s : State) : Moves 0x30000000104921 s (State.releaseAll s).1 := by
  unfold State.releaseAll
  extract_lets +onlyGivenNames v3
  refine Moves.bindV (v := v3) ?_ ?_
  unfold v3
  refine Moves.foldl ?_ ?_
  exact .refl ..
  intro u4_0 u4_1
  apply Moves.ite
  refine .step ?_ (State.tmrStart_moves ..) (by decide)
  refine .step ?_ (State.set_moves (d := 6) rfl) (by decide)
  refine .step ?_ (State.set_moves (d := 6) rfl) (by decide)
  exact .refl ..
  exact .refl ..
  intro hv3
  clear_value v3
  refine Moves.foldl1 ?_ ?_
  dsimp only
  assumption
  intro u5_0 u5_1
  apply Moves.ite1
  split
  dsimp only
  refine .step ?_ (Moves.fst (State.startPair_moves ..) (by assumption)) (by decide)
  refine .step ?_ (State.set_moves (d := 6) rfl) (by decide)
  exact .refl ..
  exact .refl ..

/-- What `State.releaseNow` may change: free, icu, cmp, lane, shed, hedCnt, pwm, trip, tmr, dma, vrec, crerus; registers of PD 6, 7, 8, 10. -/
theorem State.releaseNow_moves (s : State) (src : List ℕ) : Moves 0x17000005030f921 s (State.releaseNow s src) := by
  unfold State.releaseNow
  split
  refine .step ?_ (State.fire_moves ..) (by decide)
  refine .step ?_ (State.set_moves (d := 6) rfl) (by decide)
  refine .step ?_ (Moves.fst (State.releaseAll_moves ..) (by assumption)) (by decide)
  exact .refl ..

/-- What `State.writeGstart` may change: resp, frozen, time, icu, vrec; registers of PD 0, 1, 2, 3, 4, 5, 6, 7, 8, 9, 10, 11. -/
theorem State.writeGstart_moves (s : State) (q : Who) (v : ℕ) : Moves 0x7ffc00010000036 s (State.writeGstart s q v) := by
  unfold State.writeGstart
  apply Moves.ite
  refine .step ?_ (State.upd_time_moves ..) (by decide)
  apply Moves.ite
  apply Moves.ite
  refine .step ?_ (State.set_moves (d := 6) rfl) (by decide)
  apply Moves.ite
  refine .step ?_ (State.set_moves (d := 6) rfl) (by decide)
  refine .step ?_ (State.writeReg_moves ..) (by decide)
  exact .refl ..
  refine .step ?_ (State.writeReg_moves ..) (by decide)
  exact .refl ..
  refine .step ?_ (State.set_moves (d := 6) rfl) (by decide)
  apply Moves.ite
  refine .step ?_ (State.set_moves (d := 6) rfl) (by decide)
  refine .step ?_ (State.writeReg_moves ..) (by decide)
  exact .refl ..
  refine .step ?_ (State.writeReg_moves ..) (by decide)
  exact .refl ..
  apply Moves.ite
  refine .step ?_ (State.set_moves (d := 6) rfl) (by decide)
  refine .step ?_ (State.writeReg_moves ..) (by decide)
  exact .refl ..
  refine .step ?_ (State.writeReg_moves ..) (by decide)
  exact .refl ..
  apply Moves.ite
  apply Moves.ite
  refine .step ?_ (State.set_moves (d := 6) rfl) (by decide)
  apply Moves.ite
  refine .step ?_ (State.set_moves (d := 6) rfl) (by decide)
  refine .step ?_ (State.writeReg_moves ..) (by decide)
  exact .refl ..
  refine .step ?_ (State.writeReg_moves ..) (by decide)
  exact .refl ..
  refine .step ?_ (State.set_moves (d := 6) rfl) (by decide)
  apply Moves.ite
  refine .step ?_ (State.set_moves (d := 6) rfl) (by decide)
  refine .step ?_ (State.writeReg_moves ..) (by decide)
  exact .refl ..
  refine .step ?_ (State.writeReg_moves ..) (by decide)
  exact .refl ..
  apply Moves.ite
  refine .step ?_ (State.set_moves (d := 6) rfl) (by decide)
  refine .step ?_ (State.writeReg_moves ..) (by decide)
  exact .refl ..
  refine .step ?_ (State.writeReg_moves ..) (by decide)
  exact .refl ..

end Sys2Proof.Machine
end

