-- ==== Sys2Proof/Laws/MovesDraftOps.lean ====
section
/-!
SUPPORT. What each function of Machine/DraftOps.lean may change.
-/

namespace Sys2Proof.Machine

/-- What `State.loadField` may change: frozen; registers of PD 0, 1, 2, 3, 4, 5, 6, 7, 8, 9, 10, 11. -/
theorem State.loadField_moves (s : State) (dr : Draft) (f : Fld) : Moves 0x7ffc00000000004 s (State.loadField s dr f) := by
  unfold State.loadField
  apply Moves.ite
  refine .step ?_ (State.freeze_moves ..) (by decide)
  refine .step ?_ (State.set_any ..) (by decide)
  exact .refl ..
  refine .step ?_ (State.set_any ..) (by decide)
  exact .refl ..

/-- What `State.loadDraft` may change: frozen; registers of PD 0, 1, 2, 3, 4, 5, 6, 7, 8, 9, 10, 11. -/
theorem State.loadDraft_moves (s : State) (dr : Draft) (d : ℕ) : Moves 0x7ffc00000000004 s (State.loadDraft s dr d) := by
  unfold State.loadDraft
  refine Moves.foldl ?_ ?_
  exact .refl ..
  intro u4_0 u4_1
  refine .step ?_ (State.loadField_moves ..) (by decide)
  exact .refl ..

/-- What `State.loadHeld` may change: frozen; registers of PD 0, 1, 2, 3, 4, 5, 6, 7, 8, 9, 10, 11. -/
theorem State.loadHeld_moves (s : State) (dr : Draft) (f : Fld) : Moves 0x7ffc00000000004 s (State.loadHeld s dr f) := by
  unfold State.loadHeld
  apply Moves.ite
  refine .step ?_ (State.set_any ..) (by decide)
  exact .refl ..
  refine .step ?_ (State.loadField_moves ..) (by decide)
  exact .refl ..

/-- What `State.effSafe` may change: pad; registers of PD 6. -/
theorem State.effSafe_moves (s : State) : Moves 0x10000000010000 s (State.effSafe s) := by
  unfold State.effSafe
  refine .step ?_ (State.latchPads_moves ..) (by decide)
  refine Moves.foldl ?_ ?_
  exact .refl ..
  intro u2_0 u2_1
  refine .step ?_ (State.set_moves (d := 6) rfl) (by decide)
  refine .step ?_ (State.set_moves (d := 6) rfl) (by decide)
  exact .refl ..

/-- What `State.draftErr` may change: registers of PD 0. -/
theorem State.draftErr_moves (s : State) (f : Fld) (was : Bool) : Moves 0x400000000000 s (State.draftErr s f was) := by
  unfold State.draftErr
  apply Moves.ite
  refine .step ?_ (State.inc_moves (d := 0) rfl) (by decide)
  exact .refl ..
  exact .refl ..

/-- What `State.draftIcu` may change: icu; registers of PD 6. -/
theorem State.draftIcu_moves (s : State) (dr : Draft) (n : ℕ) : Moves 0x10000000000020 s (State.draftIcu s dr n) := by
  unfold State.draftIcu
  apply Moves.ite
  exact .refl ..
  refine .step ?_ (State.icuEnable_moves ..) (by decide)
  refine .step ?_ (State.set_moves (d := 6) rfl) (by decide)
  exact .refl ..

/-- What `State.draftShed` may change: lane, shed, pwm; registers of PD 0, 6. -/
theorem State.draftShed_moves (s : State) (dr : Draft) (g : ℕ) : Moves 0x10400000005800 s (State.draftShed s dr g) := by
  unfold State.draftShed
  apply Moves.ite
  exact .refl ..
  refine .step ?_ (State.draftErr_moves ..) (by decide)
  refine .step ?_ (State.enableShed_moves ..) (by decide)
  refine .step ?_ (State.set_moves (d := 6) rfl) (by decide)
  exact .refl ..

/-- What `State.draftLane` may change: free, icu, cmp, lane, shed, hedCnt, pwm, trip, dma, vrec, crerus; registers of PD 0, 6, 7, 8, 10. -/
theorem State.draftLane_moves (s : State) (dr : Draft) (k : ℕ) : Moves 0x17040005020f921 s (State.draftLane s dr k) := by
  unfold State.draftLane
  apply Moves.ite
  refine .step ?_ (State.updLane_moves ..) (by decide)
  exact .refl ..
  refine .step ?_ (State.draftErr_moves ..) (by decide)
  refine .step ?_ (State.enableLane_moves ..) (by decide)
  refine .step ?_ (State.set_moves (d := 6) rfl) (by decide)
  refine .step ?_ (State.updLane_moves ..) (by decide)
  exact .refl ..

/-- What `State.draftPair` may change: free, resp, frozen, icu, cmp, lane, shed, hedCnt, pwm, trip, dma, vrec, crerus; registers of PD 0, 1, 2, 3, 4, 5, 6, 7, 8, 9, 10, 11, 12. -/
theorem State.draftPair_moves (s : State) (dr : Draft) (p : ℕ) : Moves 0x7ffc0005020f927 s (State.draftPair s dr p) := by
  unfold State.draftPair
  refine .step ?_ (State.draftErr_moves ..) (by decide)
  refine fireAll_moves ?_ (by decide)
  refine .step ?_ (State.writePwmCtrl_moves ..) (by decide)
  refine .step ?_ (State.set_moves (d := 6) rfl) (by decide)
  exact .refl ..

/-- What `State.draftTimer` may change: free, resp, frozen, icu, cmp, lane, shed, hedCnt, pwm, trip, tmr, dma, vrec, crerus; registers of PD 0, 1, 2, 3, 4, 5, 6, 7, 8, 9, 10, 11, 12. -/
theorem State.draftTimer_moves (s : State) (dr : Draft) (n : ℕ) : Moves 0x7ffc0005030f927 s (State.draftTimer s dr n) := by
  unfold State.draftTimer
  refine .step ?_ (State.writeTmrCtrl_moves ..) (by decide)
  refine .step ?_ (State.tmrLoad_moves ..) (by decide)
  exact .refl ..

/-- What `State.draftStagger` may change: pwm; registers of PD 0, 6. -/
theorem State.draftStagger_moves (s : State) (g : ℕ) : Moves 0x10400000004000 s (State.draftStagger s g) := by
  unfold State.draftStagger
  apply Moves.ite
  refine .step ?_ (State.draftErr_moves ..) (by decide)
  refine .step ?_ (State.stgLoad_moves ..) (by decide)
  exact .refl ..
  exact .refl ..

/-- What `State.enableLoom` may change: free, resp, frozen, icu, cmp, lane, shed, hedCnt, pwm, trip, tmr, dma, vrec, crerus; registers of PD 0, 1, 2, 3, 4, 5, 6, 7, 8, 9, 10, 11, 12. -/
theorem State.enableLoom_moves (s : State) (dr : Draft) (icu : Bool) : Moves 0x7ffc0005030f927 s (State.enableLoom s dr icu) := by
  unfold State.enableLoom
  extract_lets +onlyGivenNames v3
  refine Moves.bindV (v := v3) ?_ ?_
  unfold v3
  apply Moves.ite
  refine Moves.foldl ?_ ?_
  exact .refl ..
  intro u4_0 u4_1
  refine .step ?_ (State.draftIcu_moves ..) (by decide)
  exact .refl ..
  exact .refl ..
  intro hv3
  clear_value v3
  refine Moves.foldl ?_ ?_
  refine Moves.foldl ?_ ?_
  refine Moves.foldl ?_ ?_
  refine .step ?_ (State.set_moves (d := 6) rfl) (by decide)
  refine Moves.foldl ?_ ?_
  refine Moves.foldl ?_ ?_
  assumption
  intro u5_0 u5_1
  refine .step ?_ (State.set_moves (d := 6) rfl) (by decide)
  exact .refl ..
  intro u6_0 u6_1
  refine .step ?_ (State.draftShed_moves ..) (by decide)
  exact .refl ..
  intro u7_0 u7_1
  refine .step ?_ (State.draftLane_moves ..) (by decide)
  exact .refl ..
  intro u8_0 u8_1
  refine .step ?_ (State.draftPair_moves ..) (by decide)
  exact .refl ..
  intro u9_0 u9_1
  refine .step ?_ (State.draftTimer_moves ..) (by decide)
  exact .refl ..

/-- What `State.loomFields` may change: frozen; registers of PD 0, 1, 2, 3, 4, 5, 6, 7, 8, 9, 10, 11, 12. -/
theorem State.loomFields_moves (s : State) (dr : Draft) (icu : Bool) : Moves 0x7ffc00000000004 s (State.loomFields s dr icu) := by
  unfold State.loomFields
  refine Moves.foldl ?_ ?_
  refine .step ?_ (State.fuseFields_moves ..) (by decide)
  exact .refl ..
  intro u3_0 u3_1
  refine .step ?_ (State.loadHeld_moves ..) (by decide)
  exact .refl ..

/-- What `State.configureLoom` may change: free, resp, frozen, icu, cmp, lane, shed, hedCnt, pwm, trip, pad, loomCfg, gov, tmr, dma, vrec, crerus; registers of PD 0, 1, 2, 3, 4, 5, 6, 7, 8, 9, 10, 11, 12. -/
theorem State.configureLoom_moves (s : State) (dr : Draft) (icu : Bool) (boot : Bool) : Moves 0x7ffc000503bf927 s (State.configureLoom s dr icu boot) := by
  unfold State.configureLoom
  refine .step ?_ (State.levelErr_moves ..) (by decide)
  refine .step ?_ (State.upd_loomCfg_moves ..) (by decide)
  refine .step ?_ (State.enableLoom_moves ..) (by decide)
  refine Moves.foldl ?_ ?_
  refine .step ?_ (State.govStart_moves ..) (by decide)
  refine Moves.foldl ?_ ?_
  refine .step ?_ (State.effSafe_moves ..) (by decide)
  refine .step ?_ (State.loomFields_moves ..) (by decide)
  exact .refl ..
  intro u3_0 u3_1
  refine .step ?_ (State.draftStagger_moves ..) (by decide)
  exact .refl ..
  intro u4_0 u4_1
  refine .step ?_ (State.ctrlIn_moves ..) (by decide)
  exact .refl ..

/-- What `State.analogUp` may change: free, frozen, icu, cmp, dac, pwm; registers of PD 0, 1, 2, 3, 4, 5, 6, 7, 8, 9, 10, 11, 12. -/
theorem State.analogUp_moves (s : State) (dr : Draft) : Moves 0x7ffc00000004325 s (State.analogUp s dr) := by
  unfold State.analogUp
  apply Moves.ite
  refine .step ?_ (State.dacSettle_moves ..) (by decide)
  apply Moves.ite
  refine .step ?_ (State.dacSettle_moves ..) (by decide)
  refine Moves.foldl ?_ ?_
  refine .step ?_ (State.set_moves (d := 7) rfl) (by decide)
  refine .step ?_ (State.boundWin_moves ..) (by decide)
  refine .step ?_ (State.loadDraft_moves ..) (by decide)
  exact .refl ..
  intro u3_0 u3_1
  refine .step ?_ (State.cmpRefresh_moves ..) (by decide)
  exact .refl ..
  refine Moves.foldl ?_ ?_
  refine .step ?_ (State.set_moves (d := 7) rfl) (by decide)
  refine .step ?_ (State.boundWin_moves ..) (by decide)
  refine .step ?_ (State.loadDraft_moves ..) (by decide)
  exact .refl ..
  intro u4_0 u4_1
  refine .step ?_ (State.cmpRefresh_moves ..) (by decide)
  exact .refl ..
  apply Moves.ite
  refine .step ?_ (State.dacSettle_moves ..) (by decide)
  refine Moves.foldl ?_ ?_
  refine .step ?_ (State.set_moves (d := 7) rfl) (by decide)
  refine .step ?_ (State.boundWin_moves ..) (by decide)
  refine .step ?_ (State.loadDraft_moves ..) (by decide)
  exact .refl ..
  intro u5_0 u5_1
  refine .step ?_ (State.cmpRefresh_moves ..) (by decide)
  exact .refl ..
  refine Moves.foldl ?_ ?_
  refine .step ?_ (State.set_moves (d := 7) rfl) (by decide)
  refine .step ?_ (State.boundWin_moves ..) (by decide)
  refine .step ?_ (State.loadDraft_moves ..) (by decide)
  exact .refl ..
  intro u6_0 u6_1
  refine .step ?_ (State.cmpRefresh_moves ..) (by decide)
  exact .refl ..

/-- What `State.hostUp` may change: registers of PD 10. -/
theorem State.hostUp_moves (s : State) : Moves 0x100000000000000 s (State.hostUp s) := by
  unfold State.hostUp
  refine .step ?_ (State.setB_moves (d := 10) rfl) (by decide)
  refine .step ?_ (State.set_moves (d := 10) rfl) (by decide)
  refine .step ?_ (State.set_moves (d := 10) rfl) (by decide)
  refine .step ?_ (State.set_moves (d := 10) rfl) (by decide)
  refine .step ?_ (State.setB_moves (d := 10) rfl) (by decide)
  refine .step ?_ (State.setB_moves (d := 10) rfl) (by decide)
  exact .refl ..

/-- What `State.domainLoads` may change: free, frozen, icu, cmp, dac, pwm, uart, i2c; registers of PD 0, 1, 2, 3, 4, 5, 6, 7, 8, 9, 10, 11, 12. -/
theorem State.domainLoads_moves (s : State) (d : ℕ) : Moves 0x7ffd80000004325 s (State.domainLoads s d) := by
  unfold State.domainLoads
  extract_lets +onlyGivenNames v3
  clear_value v3
  split
  refine .step ?_ (State.boundClk_moves ..) (by decide)
  refine .step ?_ (State.loadDraft_moves ..) (by decide)
  exact .refl ..
  refine .step ?_ (State.fuseFields_moves ..) (by decide)
  refine .step ?_ (State.loadDraft_moves ..) (by decide)
  exact .refl ..
  refine .step ?_ (State.analogUp_moves ..) (by decide)
  exact .refl ..
  refine .step ?_ (State.hostUp_moves ..) (by decide)
  refine .step ?_ (State.i2cSync_moves ..) (by decide)
  refine .step ?_ (State.uartSync_moves ..) (by decide)
  refine .step ?_ (State.loadDraft_moves ..) (by decide)
  exact .refl ..
  exact .refl ..
  refine .step ?_ (State.loadDraft_moves ..) (by decide)
  exact .refl ..

end Sys2Proof.Machine
end

