-- ==== Sys2Proof/Laws/MovesPowerOps.lean ====
section
/-!
SUPPORT. What each function of Machine/PowerOps.lean may change.
-/

namespace Sys2Proof.Machine

/-- What `State.bypassCheck` may change: warp; registers of PD 9. -/
theorem State.bypassCheck_moves (s : State) : Moves 0x80000020000000 s (State.bypassCheck s) := by
  unfold State.bypassCheck
  apply Moves.ite
  exact .refl ..
  refine .step ?_ (State.upd_warp_moves ..) (by decide)
  refine .step ?_ (State.setB_moves (d := 9) rfl) (by decide)
  exact .refl ..

/-- What `State.crerusLost` may change: crerus, queue, jrnl; registers of PD 10. -/
theorem State.crerusLost_moves (s : State) : Moves 0x1000001c0000000 s (State.crerusLost s) := by
  unfold State.crerusLost
  refine .step ?_ (State.upd_crerus_queue_jrnl_moves ..) (by decide)
  apply Moves.ite
  refine .step ?_ (State.set_moves (d := 10) rfl) (by decide)
  refine .step ?_ (State.set_moves (d := 10) rfl) (by decide)
  refine .step ?_ (State.set_moves (d := 10) rfl) (by decide)
  exact .refl ..
  refine .step ?_ (State.set_moves (d := 10) rfl) (by decide)
  refine .step ?_ (State.set_moves (d := 10) rfl) (by decide)
  exact .refl ..

/-- What `State.resetDom` may change: frozen; registers of PD 0, 1, 2, 3, 4, 5, 6, 7, 8, 9, 10, 11. -/
theorem State.resetDom_moves (s : State) (d : Nat) : Moves 0x7ffc00000000004 s (s.resetDom d) := by
  refine ⟨rfl, fun p h => ?_, fun w => ⟨w.mem, regsFit_reset w.regs _, w.saved⟩⟩
  cases p <;> first | exact absurd h (by decide) | rfl | exact (not_pd (by decide) h).elim

/-- What `State.loseStrand` may change: core, mem. -/
theorem State.loseStrand_moves (s : State) (k : ℕ) : Moves 0x200001000000 s (State.loseStrand s k) := by
  unfold State.loseStrand
  apply Moves.ite
  refine .step ?_ (State.updCore_moves ..) (by decide)
  apply Moves.ite
  refine .step ?_ (State.upd_core_moves ..) (by decide)
  refine .step ?_ (State.wipe_moves ..) (by decide)
  refine .step ?_ (State.wipe_moves ..) (by decide)
  exact .refl ..
  refine .step ?_ (State.wipe_moves ..) (by decide)
  refine .step ?_ (State.wipe_moves ..) (by decide)
  exact .refl ..
  apply Moves.ite
  refine .step ?_ (State.upd_core_moves ..) (by decide)
  refine .step ?_ (State.wipe_moves ..) (by decide)
  refine .step ?_ (State.wipe_moves ..) (by decide)
  exact .refl ..
  refine .step ?_ (State.wipe_moves ..) (by decide)
  refine .step ?_ (State.wipe_moves ..) (by decide)
  exact .refl ..

/-- What `State.dropArrivals` may change: crerus. -/
theorem State.dropArrivals_moves (s : State) (host : Bool) : Moves 0x40000000 s (State.dropArrivals s host) := by
  unfold State.dropArrivals
  refine .step ?_ (State.upd_crerus_moves ..) (by decide)
  exact .refl ..

/-- What `State.loseBlocks` may change: time, icu, adc, res, cmp, dac, rfm, lane, shed, hedCnt, pwm, trip, loomCfg, gov, tmr, dma, dmaLast, core, warp, crerus, queue, jrnl, custody, xspi, uart, i2c, mem; registers of PD 10. -/
theorem State.loseBlocks_moves (s : State) (d : ℕ) : Moves 0x1003c05e17afff0 s (State.loseBlocks s d) := by
  unfold State.loseBlocks
  split
  refine .step ?_ (State.wipe_moves ..) (by decide)
  refine .step ?_ (State.wipe_moves ..) (by decide)
  refine .step ?_ (State.dropArrivals_moves ..) (by decide)
  refine .step ?_ (State.crerusLost_moves ..) (by decide)
  exact .refl ..
  refine .step ?_ (State.loseStrand_moves ..) (by decide)
  exact .refl ..
  refine .step ?_ (State.loseStrand_moves ..) (by decide)
  exact .refl ..
  refine .step ?_ (State.loseStrand_moves ..) (by decide)
  exact .refl ..
  refine .step ?_ (State.upd_time_icu_lane_shed_hedCnt_pwm_trip_loomCfg_gov_tmr_moves fun _ h => h) (by decide)
  exact .refl ..
  refine .step ?_ (State.upd_adc_res_cmp_dac_rfm_moves ..) (by decide)
  exact .refl ..
  refine .step ?_ (State.upd_dma_dmaLast_moves ..) (by decide)
  exact .refl ..
  refine .step ?_ (State.upd_time_warp_moves ..) (by decide)
  exact .refl ..
  refine .step ?_ (State.wipe_moves ..) (by decide)
  refine .step ?_ (State.dropArrivals_moves ..) (by decide)
  refine .step ?_ (State.upd_queue_xspi_uart_i2c_moves ..) (by decide)
  exact .refl ..
  refine .step ?_ (State.upd_custody_moves ..) (by decide)
  exact .refl ..
  exact .refl ..

/-- What `State.loseDomain` may change: frozen, time, icu, adc, res, cmp, dac, rfm, lane, shed, hedCnt, pwm, trip, loomCfg, gov, tmr, dma, dmaLast, core, warp, crerus, queue, jrnl, custody, pwr, xspi, uart, i2c, mem; registers of PD 0, 1, 2, 3, 4, 5, 6, 7, 8, 9, 10, 11. -/
theorem State.loseDomain_moves (s : State) (d : ℕ) : Moves 0x7fffc45e17afff4 s (State.loseDomain s d) := by
  unfold State.loseDomain
  refine .step ?_ (State.upd_pwr_moves ..) (by decide)
  refine .step ?_ (State.resetDom_moves ..) (by decide)
  refine .step ?_ (State.loseBlocks_moves ..) (by decide)
  exact .refl ..

/-- What `State.analogDown` may change: free, icu, cmp, lane, shed, hedCnt, pwm, trip, dma, vrec, crerus; registers of PD 6, 7, 8, 10. -/
theorem State.analogDown_moves (s : State) : Moves 0x17000005020f921 s (State.analogDown s) := by
  unfold State.analogDown
  apply Moves.ite
  refine fireAll_moves ?_ (by decide)
  refine .step ?_ (State.missCheck_moves ..) (by decide)
  refine Moves.foldl ?_ ?_
  refine Moves.foldl ?_ ?_
  refine .step ?_ (State.upd_cmp_moves ..) (by decide)
  exact .refl ..
  intro u3_0 u3_1
  refine .step ?_ (State.cmpRefresh_moves ..) (by decide)
  exact .refl ..
  intro u4_0 u4_1
  refine .step ?_ (State.set_moves (d := 7) rfl) (by decide)
  exact .refl ..
  refine Moves.foldl ?_ ?_
  refine Moves.foldl ?_ ?_
  refine .step ?_ (State.upd_cmp_moves ..) (by decide)
  exact .refl ..
  intro u5_0 u5_1
  refine .step ?_ (State.cmpRefresh_moves ..) (by decide)
  exact .refl ..
  intro u6_0 u6_1
  refine .step ?_ (State.set_moves (d := 7) rfl) (by decide)
  exact .refl ..

/-- What `State.dmaDown` may change: dma; registers of PD 8. -/
theorem State.dmaDown_moves (s : State) : Moves 0x40000000200000 s (State.dmaDown s) := by
  unfold State.dmaDown
  refine Moves.foldl ?_ ?_
  exact .refl ..
  intro u2_0 u2_1
  apply Moves.ite
  refine .step ?_ (State.upd_dma_moves ..) (by decide)
  refine .step ?_ (State.set_moves (d := 8) rfl) (by decide)
  refine .step ?_ (State.set_moves (d := 8) rfl) (by decide)
  refine .step ?_ (State.set_moves (d := 8) rfl) (by decide)
  exact .refl ..
  exact .refl ..

/-- What `State.holdPads` may change: pad. -/
theorem State.holdPads_moves (s : State) : Moves 0x10000 s (State.holdPads s) := by
  unfold State.holdPads
  apply Moves.ite
  refine .step ?_ (State.latchPads_moves ..) (by decide)
  exact .refl ..
  exact .refl ..

/-- What `State.timersDown` may change: time, tmr; registers of PD 6. -/
theorem State.timersDown_moves (s : State) : Moves 0x10000000100010 s (State.timersDown s) := by
  unfold State.timersDown
  refine .step ?_ (State.upd_time_moves ..) (by decide)
  refine .step ?_ (State.set_moves (d := 6) rfl) (by decide)
  refine Moves.foldl ?_ ?_
  exact .refl ..
  intro u3_0 u3_1
  refine .step ?_ (State.tmrStop_moves ..) (by decide)
  exact .refl ..

/-- What `State.atFence` may change: free, time, icu, cmp, lane, shed, hedCnt, pwm, trip, pad, tmr, dma, vrec, crerus; registers of PD 6, 7, 8, 10. -/
theorem State.atFence_moves (s : State) (d : ℕ) : Moves 0x17000005031f931 s (State.atFence s d) := by
  unfold State.atFence
  split
  refine .step ?_ (State.timersDown_moves ..) (by decide)
  refine .step ?_ (State.holdPads_moves ..) (by decide)
  exact .refl ..
  refine .step ?_ (State.analogDown_moves ..) (by decide)
  exact .refl ..
  refine .step ?_ (State.dmaDown_moves ..) (by decide)
  exact .refl ..
  exact .refl ..

/-- What `State.quiesce` may change: free, time, icu, cmp, lane, shed, hedCnt, pwm, trip, pad, tmr, dma, vrec, crerus, pwr; registers of PD 0, 6, 7, 8, 10. -/
theorem State.quiesce_moves (s : State) (d : ℕ) (st : ℕ) : Moves 0x17040405031f931 s (State.quiesce s d st) := by
  unfold State.quiesce
  apply Moves.ite
  refine .step ?_ (State.upd_pwr_moves ..) (by decide)
  refine .step ?_ (State.atFence_moves ..) (by decide)
  refine .step ?_ (State.set_moves (d := 0) (R.PWR_DOM_pd _)) (by decide)
  exact .refl ..
  exact .refl ..

/-- What `State.dropBanks` may change: mem. -/
theorem State.dropBanks_moves (s : State) (keep : ℕ) : Moves 0x200000000000 s (State.dropBanks s keep) := by
  unfold State.dropBanks
  refine Moves.foldl ?_ ?_
  exact .refl ..
  intro u3_0 u3_1
  apply Moves.ite
  exact .refl ..
  refine .step ?_ (State.wipe_moves ..) (by decide)
  exact .refl ..

/-- What `State.goDown` may change: frozen, time, icu, adc, res, cmp, dac, rfm, lane, shed, hedCnt, pwm, trip, loomCfg, gov, tmr, dma, dmaLast, core, warp, crerus, queue, jrnl, custody, pwr, xspi, uart, i2c, mem; registers of PD 0, 1, 2, 3, 4, 5, 6, 7, 8, 9, 10, 11. -/
theorem State.goDown_moves (s : State) (d : ℕ) (st : ℕ) : Moves 0x7fffc45e17afff4 s (State.goDown s d st) := by
  unfold State.goDown
  refine .step ?_ (State.bypassCheck_moves ..) (by decide)
  apply Moves.ite
  refine .step ?_ (State.updCore_moves ..) (by decide)
  apply Moves.ite
  refine .step ?_ (State.dropBanks_moves ..) (by decide)
  apply Moves.ite
  refine .step ?_ (State.upd_pwr_moves ..) (by decide)
  refine .step ?_ (State.upd_pwr_moves ..) (by decide)
  refine .step ?_ (State.set_moves (d := 0) (R.PWR_DOM_pd _)) (by decide)
  apply Moves.ite
  refine .step ?_ (State.icuSave_moves ..) (by decide)
  exact .refl ..
  exact .refl ..
  refine .step ?_ (State.loseDomain_moves ..) (by decide)
  refine .step ?_ (State.upd_pwr_moves ..) (by decide)
  refine .step ?_ (State.set_moves (d := 0) (R.PWR_DOM_pd _)) (by decide)
  apply Moves.ite
  refine .step ?_ (State.icuSave_moves ..) (by decide)
  exact .refl ..
  exact .refl ..
  apply Moves.ite
  refine .step ?_ (State.upd_pwr_moves ..) (by decide)
  refine .step ?_ (State.upd_pwr_moves ..) (by decide)
  refine .step ?_ (State.set_moves (d := 0) (R.PWR_DOM_pd _)) (by decide)
  apply Moves.ite
  refine .step ?_ (State.icuSave_moves ..) (by decide)
  exact .refl ..
  exact .refl ..
  refine .step ?_ (State.loseDomain_moves ..) (by decide)
  refine .step ?_ (State.upd_pwr_moves ..) (by decide)
  refine .step ?_ (State.set_moves (d := 0) (R.PWR_DOM_pd _)) (by decide)
  apply Moves.ite
  refine .step ?_ (State.icuSave_moves ..) (by decide)
  exact .refl ..
  exact .refl ..
  apply Moves.ite
  refine .step ?_ (State.dropBanks_moves ..) (by decide)
  apply Moves.ite
  refine .step ?_ (State.upd_pwr_moves ..) (by decide)
  refine .step ?_ (State.upd_pwr_moves ..) (by decide)
  refine .step ?_ (State.set_moves (d := 0) (R.PWR_DOM_pd _)) (by decide)
  apply Moves.ite
  refine .step ?_ (State.icuSave_moves ..) (by decide)
  exact .refl ..
  exact .refl ..
  refine .step ?_ (State.loseDomain_moves ..) (by decide)
  refine .step ?_ (State.upd_pwr_moves ..) (by decide)
  refine .step ?_ (State.set_moves (d := 0) (R.PWR_DOM_pd _)) (by decide)
  apply Moves.ite
  refine .step ?_ (State.icuSave_moves ..) (by decide)
  exact .refl ..
  exact .refl ..
  apply Moves.ite
  refine .step ?_ (State.upd_pwr_moves ..) (by decide)
  refine .step ?_ (State.upd_pwr_moves ..) (by decide)
  refine .step ?_ (State.set_moves (d := 0) (R.PWR_DOM_pd _)) (by decide)
  apply Moves.ite
  refine .step ?_ (State.icuSave_moves ..) (by decide)
  exact .refl ..
  exact .refl ..
  refine .step ?_ (State.loseDomain_moves ..) (by decide)
  refine .step ?_ (State.upd_pwr_moves ..) (by decide)
  refine .step ?_ (State.set_moves (d := 0) (R.PWR_DOM_pd _)) (by decide)
  apply Moves.ite
  refine .step ?_ (State.icuSave_moves ..) (by decide)
  exact .refl ..
  exact .refl ..

/-- What `State.beginExit` may change: pwr; registers of PD 0. -/
theorem State.beginExit_moves (s : State) (src : ℕ) (info : ℕ) : Moves 0x404000000000 s (State.beginExit s src info) := by
  unfold State.beginExit
  refine .step ?_ (State.bringUp_moves ..) (by decide)
  refine .step ?_ (State.upd_pwr_moves ..) (by decide)
  refine .step ?_ (State.set_moves (d := 0) rfl) (by decide)
  refine .step ?_ (State.set_moves (d := 0) rfl) (by decide)
  refine .step ?_ (State.set_moves (d := 0) rfl) (by decide)
  exact .refl ..

/-- What `State.wake` may change: pwr; registers of PD 0. -/
theorem State.wake_moves (s : State) (src : ℕ) (info : ℕ) : Moves 0x404000000000 s (State.wake s src info) := by
  unfold State.wake
  apply Moves.ite
  exact .refl ..
  apply Moves.ite
  refine .step ?_ (State.beginExit_moves ..) (by decide)
  exact .refl ..
  apply Moves.ite
  refine .step ?_ (State.upd_pwr_moves ..) (by decide)
  exact .refl ..
  exact .refl ..

/-- What `State.wakeLate` may change: pwr; registers of PD 0. -/
theorem State.wakeLate_moves (s : State) : Moves 0x404000000000 s (State.wakeLate s) := by
  unfold State.wakeLate
  split
  apply Moves.ite
  refine .step ?_ (State.beginExit_moves ..) (by decide)
  exact .refl ..
  exact .refl ..
  exact .refl ..

end Sys2Proof.Machine
end

