-- ==== Sys2Proof/Laws/MovesHostRows.lean ====
section
/-!
SUPPORT. What each function of Machine/HostRows.lean may change.
-/

namespace Sys2Proof.Machine

/-- What `State.hifErr` may change: registers of PD 10. -/
theorem State.hifErr_moves {s : State} {f : Fld} {d : Nat} (e : f.pd = d) :
    Moves (0x100000000000000 ||| pdBit d) s (s.hifErr f) :=
  Moves.trans (Moves.mono (State.set_moves e) (by rw [Nat.or_comm, Nat.or_assoc, Nat.or_self]))
    (Moves.mono (State.set_moves (d := 10) rfl) (by rw [show pdBit 10 = 0x100000000000000 from rfl, ← Nat.or_assoc, Nat.or_self]))

/-- What `State.qcomp` may change: registers of PD 10. -/
theorem State.qcomp_moves (s : State) : Moves 0x100000000000000 s (State.qcomp s) := by
  unfold State.qcomp
  refine .step ?_ (State.setB_moves (d := 10) rfl) (by decide)
  exact .refl ..

/-- What `State.setMb` may change: registers of PD 10. -/
theorem State.setMb_moves (s : State) (n : ℕ) (st : ℕ) : Moves 0x100000000000000 s (State.setMb s n st) := by
  unfold State.setMb
  apply Moves.ite
  refine .step ?_ (State.setBit_moves (d := 10) rfl) (by decide)
  refine .step ?_ (State.set_moves (d := 10) rfl) (by decide)
  exact .refl ..
  refine .step ?_ (State.clrBit_moves (d := 10) rfl) (by decide)
  refine .step ?_ (State.set_moves (d := 10) rfl) (by decide)
  exact .refl ..

/-- What `State.ringHost` may change: crerus, pwr; registers of PD 0, 10. -/
theorem State.ringHost_moves (s : State) (n : ℕ) : Moves 0x100404040000000 s (State.ringHost s n) := by
  unfold State.ringHost
  apply Moves.ite
  refine .step ?_ (State.wake_moves ..) (by decide)
  refine .step ?_ (State.arrive_moves ..) (by decide)
  refine .step ?_ (State.setBit_moves (d := 10) rfl) (by decide)
  refine .step ?_ (State.setMb_moves ..) (by decide)
  exact .refl ..
  refine .step ?_ (State.hifErr_moves (d := 10) rfl) (by decide)
  exact .refl ..

/-- What `State.ackHost` may change: registers of PD 10. -/
theorem State.ackHost_moves (s : State) (n : ℕ) : Moves 0x100000000000000 s (State.ackHost s n) := by
  unfold State.ackHost
  apply Moves.ite
  refine .step ?_ (State.setMb_moves ..) (by decide)
  exact .refl ..
  refine .step ?_ (State.hifErr_moves (d := 10) rfl) (by decide)
  exact .refl ..

/-- What `State.eachBit` may change: nothing. -/
theorem State.eachBit_moves {K : Nat} (s : State) (v : ℕ) (n : ℕ) (f : State → ℕ → State) (hf : ∀ x0 x1, Moves K x0 (f x0 x1)) (_e : 0x0 ||| K = K) : Moves K s (State.eachBit s v n f) := by
  unfold State.eachBit
  refine Moves.foldl ?_ ?_
  exact .refl ..
  intro u8_0 u8_1
  refine .trans ?_ (hf ..)
  exact .refl ..

/-- What `State.hostBuf` may change: mem; registers of PD 10. -/
theorem State.hostBuf_moves (s : State) (n : ℕ) (o : ℕ) (d : Byte) : Moves 0x100200000000000 s (State.hostBuf s n o d) := by
  unfold State.hostBuf
  apply Moves.ite
  refine .step ?_ (State.setByte_moves ..) (by decide)
  exact .refl ..
  refine .step ?_ (State.hifErr_moves (d := 10) rfl) (by decide)
  exact .refl ..

/-- What `State.ringLocal` may change: crerus; registers of PD 1. -/
theorem State.ringLocal_moves (s : State) (q : Who) (b : ℕ) : Moves 0x800040000000 s (State.ringLocal s q b) := by
  unfold State.ringLocal
  apply Moves.ite
  apply Moves.ite
  refine .step ?_ (State.setBit_moves (d := 1) rfl) (by decide)
  refine .step ?_ (State.arrive_moves ..) (by decide)
  refine .step ?_ (State.setBit_moves (d := 1) rfl) (by decide)
  refine .step ?_ (State.set_moves (d := 1) rfl) (by decide)
  exact .refl ..
  refine .step ?_ (State.arrive_moves ..) (by decide)
  refine .step ?_ (State.setBit_moves (d := 1) rfl) (by decide)
  refine .step ?_ (State.set_moves (d := 1) rfl) (by decide)
  exact .refl ..
  refine .step ?_ (State.set_moves (d := 1) rfl) (by decide)
  exact .refl ..

/-- What `State.ackLocal` may change: registers of PD 1. -/
theorem State.ackLocal_moves (s : State) (q : Who) (b : ℕ) : Moves 0x800000000000 s (State.ackLocal s q b) := by
  unfold State.ackLocal
  apply Moves.ite
  apply Moves.ite
  refine .step ?_ (State.clrBit_moves (d := 1) rfl) (by decide)
  refine .step ?_ (State.set_moves (d := 1) rfl) (by decide)
  exact .refl ..
  refine .step ?_ (State.set_moves (d := 1) rfl) (by decide)
  exact .refl ..
  refine .step ?_ (State.set_moves (d := 1) rfl) (by decide)
  exact .refl ..

/-- What `State.localBuf` may change: mem; registers of PD 1. -/
theorem State.localBuf_moves (s : State) (b : ℕ) (o : ℕ) (d : Byte) : Moves 0xa00000000000 s (State.localBuf s b o d) := by
  unfold State.localBuf
  apply Moves.ite
  refine .step ?_ (State.setByte_moves ..) (by decide)
  exact .refl ..
  refine .step ?_ (State.set_moves (d := 1) rfl) (by decide)
  exact .refl ..

/-- What `State.writeMbx` may change: resp, frozen, icu, vrec, crerus; registers of PD 0, 1, 2, 3, 4, 5, 6, 7, 8, 9, 10, 11. -/
theorem State.writeMbx_moves (s : State) (q : Who) (a : ℕ) (v : ℕ) : Moves 0x7ffc00050000026 s (State.writeMbx s q a v) := by
  unfold State.writeMbx
  apply Moves.ite
  refine .step ?_ (State.reply_moves ..) (by decide)
  exact .refl ..
  apply Moves.ite
  refine .trans ?_ (State.eachBit_moves _ _ _ _ ?_ (by decide))
  exact .refl ..
  intro u5_0 u5_1
  refine .step ?_ (State.ringLocal_moves ..) (by decide)
  exact .refl ..
  apply Moves.ite
  refine .trans ?_ (State.eachBit_moves _ _ _ _ ?_ (by decide))
  exact .refl ..
  intro u5_0 u5_1
  refine .step ?_ (State.ackLocal_moves ..) (by decide)
  exact .refl ..
  refine .step ?_ (State.writeReg_moves ..) (by decide)
  exact .refl ..

/-- What `State.queueTail` may change: crerus, queue, pwr; registers of PD 0, 10. -/
theorem State.queueTail_moves (s : State) (v : ℕ) : Moves 0x1004040c0000000 s (State.queueTail s v) := by
  unfold State.queueTail
  apply Moves.ite
  refine .step ?_ (State.hifErr_moves (d := 10) rfl) (by decide)
  exact .refl ..
  refine .step ?_ (State.wake_moves ..) (by decide)
  refine .step ?_ (State.set_moves (d := 10) rfl) (by decide)
  refine .step ?_ (State.upd_crerus_queue_moves ..) (by decide)
  exact .refl ..

/-- What `State.queueHead` may change: registers of PD 10. -/
theorem State.queueHead_moves (s : State) (v : ℕ) : Moves 0x100000000000000 s (State.queueHead s v) := by
  unfold State.queueHead
  apply Moves.ite
  refine .step ?_ (State.hifErr_moves (d := 10) rfl) (by decide)
  exact .refl ..
  refine .step ?_ (State.qcomp_moves ..) (by decide)
  refine .step ?_ (State.set_moves (d := 10) rfl) (by decide)
  exact .refl ..

/-- What `State.queueCleared` may change: mem; registers of PD 10. -/
theorem State.queueCleared_moves (s : State) : Moves 0x100200000000000 s (State.queueCleared s) := by
  unfold State.queueCleared
  apply Moves.ite
  refine .step ?_ (State.qcomp_moves ..) (by decide)
  refine .step ?_ (State.set_moves (d := 10) rfl) (by decide)
  refine .step ?_ (State.set_moves (d := 10) rfl) (by decide)
  refine .step ?_ (State.set_moves (d := 10) rfl) (by decide)
  refine .step ?_ (State.set_moves (d := 10) rfl) (by decide)
  refine .step ?_ (State.set_moves (d := 10) rfl) (by decide)
  refine .step ?_ (State.set_moves (d := 10) rfl) (by decide)
  refine .step ?_ (State.set_moves (d := 10) rfl) (by decide)
  refine .step ?_ (State.set_moves (d := 10) rfl) (by decide)
  refine .step ?_ (State.wipe_moves ..) (by decide)
  exact .refl ..
  exact .refl ..

/-- What `State.queueReset` may change: queue, mem; registers of PD 10. -/
theorem State.queueReset_moves (s : State) (v : ℕ) : Moves 0x100200080000000 s (State.queueReset s v) := by
  unfold State.queueReset
  apply Moves.ite
  exact .refl ..
  refine .step ?_ (State.queueCleared_moves ..) (by decide)
  refine .step ?_ (State.upd_queue_moves ..) (by decide)
  refine .step ?_ (State.set_moves (d := 10) rfl) (by decide)
  exact .refl ..

/-- What `State.hostWord` may change: resp, frozen, icu, vrec, crerus, queue, pwr, xspi, mem; registers of PD 0, 1, 2, 3, 4, 5, 6, 7, 8, 9, 10, 11. -/
theorem State.hostWord_moves (s : State) (a : ℕ) (v : ℕ) : Moves 0x7ffe440d0000026 s (State.hostWord s a v) := by
  unfold State.hostWord
  split
  refine .trans ?_ (State.eachBit_moves _ _ _ _ ?_ (by decide))
  exact .refl ..
  intro u5_0 u5_1
  refine .step ?_ (State.ringHost_moves ..) (by decide)
  exact .refl ..
  refine .trans ?_ (State.eachBit_moves _ _ _ _ ?_ (by decide))
  exact .refl ..
  intro u5_0 u5_1
  refine .step ?_ (State.ackHost_moves ..) (by decide)
  exact .refl ..
  refine .step ?_ (State.upd_xspi_moves ..) (by decide)
  refine .step ?_ (State.writeReg_moves ..) (by decide)
  exact .refl ..
  refine .step ?_ (State.queueReset_moves ..) (by decide)
  exact .refl ..
  refine .step ?_ (State.queueTail_moves ..) (by decide)
  exact .refl ..
  refine .step ?_ (State.queueHead_moves ..) (by decide)
  exact .refl ..
  refine .step ?_ (State.writeReg_moves ..) (by decide)
  exact .refl ..

/-- What `State.hostByte` may change: mem; registers of PD 10. -/
theorem State.hostByte_moves (s : State) (a : ℕ) (d : Byte) : Moves 0x100200000000000 s (State.hostByte s a d) := by
  unfold State.hostByte
  apply Moves.ite
  refine .step ?_ (State.hostBuf_moves ..) (by decide)
  exact .refl ..
  apply Moves.ite
  refine .step ?_ (State.setByte_moves ..) (by decide)
  exact .refl ..
  exact .refl ..

/-- What `State.hostWrite` may change: resp, frozen, icu, vrec, crerus, queue, pwr, xspi, mem; registers of PD 0, 1, 2, 3, 4, 5, 6, 7, 8, 9, 10, 11. -/
theorem State.hostWrite_moves (s : State) (a : ℕ) (l : List ℕ) : Moves 0x7ffe440d0000026 s (State.hostWrite s a l) := by
  unfold State.hostWrite
  refine Moves.foldl ?_ ?_
  exact .refl ..
  intro u4_0 u4_1
  apply Moves.ite
  apply Moves.ite
  refine .step ?_ (State.hostWord_moves ..) (by decide)
  exact .refl ..
  exact .refl ..
  refine .step ?_ (State.hostByte_moves ..) (by decide)
  exact .refl ..

/-- What `State.xspiDo` may change: xspi. -/
theorem State.xspiDo_moves {K : Nat} (s : State) (f : State → State) (hf : ∀ x0, Moves K x0 (f x0)) (e : 0x40000000000 ||| K = K) : Moves K s (State.xspiDo s f) := by
  unfold State.xspiDo
  apply Moves.ite
  refine .trans ?_ (hf ..)
  refine .step ?_ (State.upd_xspi_moves ..) (sub_of (by decide) e)
  exact .refl ..
  exact .refl ..

/-- What `State.drive` may change: xspi. -/
theorem State.drive_moves (s : State) (l : List ℕ) : Moves 0x40000000000 s (State.drive s l) := by
  unfold State.drive
  refine .step ?_ (State.upd_xspi_moves ..) (by decide)
  exact .refl ..

/-- What `State.readStatus` may change: xspi. -/
theorem State.readStatus_moves (s : State) (n : ℕ) : Moves 0x40000000000 s (State.readStatus s n) := by
  unfold State.readStatus
  refine .step ?_ (State.upd_xspi_moves ..) (by decide)
  exact .refl ..

end Sys2Proof.Machine
end

