-- ==== Sys2Proof/Laws/MovesCsrOps.lean ====
section
/-!
SUPPORT. What each function of Machine/CsrOps.lean may change.
-/

namespace Sys2Proof.Machine

/-- What `State.csrInval` may change: free, core. -/
theorem State.csrInval_moves (s : State) (c : ℕ) : Moves 0x1000001 s (State.csrInval s c) := by
  unfold State.csrInval
  split
  exact .refl ..
  apply Moves.ite
  refine .step ?_ (State.updCore_moves ..) (by decide)
  refine .step ?_ (State.upd_free_moves ..) (by decide)
  exact .refl ..
  refine .step ?_ (State.upd_free_moves ..) (by decide)
  exact .refl ..

/-- What `State.csrRead` may change: free, frozen, key, time, icu, adc, res, cmp, dac, rfm, lane, shed, hedCnt, pwm, trip, pad, loomCfg, fuseLoaded, gov, tmr, dma, dmaLast, health, core, ply, wld, seq, vrec, warp, crerus, queue, jrnl, flash, custody, lc, shadow, pwr, rst, clk, dbg, xspi, uart, i2c, mem; registers of PD 0, 1, 2, 3, 4, 5, 6, 7, 8, 9, 10, 11. -/
theorem State.csrRead_moves (s : State) (c : ℕ) (rd : Fin 32) (n : ℕ) : Moves 0x7ffffeffffffffd s (State.csrRead s c rd n) := by
  unfold State.csrRead
  split
  dsimp only
  split
  refine .step ?_ (State.illegal_moves ..) (by decide)
  refine .step ?_ (State.csrInval_moves ..) (by decide)
  exact .refl ..
  refine .step ?_ (State.complete_moves ..) (by decide)
  refine .step ?_ (State.csrInval_moves ..) (by decide)
  exact .refl ..
  dsimp only
  split
  refine .step ?_ (State.illegal_moves ..) (by decide)
  exact .refl ..
  refine .step ?_ (State.complete_moves ..) (by decide)
  exact .refl ..

/-- What `State.dropLines` may change: core. -/
theorem State.dropLines_moves (s : State) (c : ℕ) : Moves 0x1000000 s (State.dropLines s c) := by
  unfold State.dropLines
  refine .step ?_ (State.updCore_moves ..) (by decide)
  exact .refl ..

/-- What `State.csrWrite` may change: free, frozen, key, time, icu, adc, res, cmp, dac, rfm, lane, shed, hedCnt, pwm, trip, pad, loomCfg, fuseLoaded, gov, tmr, dma, dmaLast, health, core, ply, wld, seq, vrec, warp, crerus, queue, jrnl, flash, custody, lc, shadow, pwr, rst, clk, dbg, xspi, uart, i2c, mem; registers of PD 0, 1, 2, 3, 4, 5, 6, 7, 8, 9, 10, 11, 12. -/
theorem State.csrWrite_moves (s : State) (c : ℕ) (n : ℕ) (v : Word) : Moves 0x7ffffeffffffffd s (State.csrWrite s c n v) := by
  unfold State.csrWrite
  apply Moves.ite
  refine .step ?_ (State.illegal_moves ..) (by decide)
  exact .refl ..
  apply Moves.ite
  apply Moves.ite
  refine .step ?_ (State.illegal_moves ..) (by decide)
  refine .step ?_ (State.countViolation_moves ..) (by decide)
  exact .refl ..
  refine .step ?_ (State.complete_moves ..) (by decide)
  refine .step ?_ (State.countViolation_moves ..) (by decide)
  exact .refl ..
  extract_lets +onlyGivenNames v3
  refine Moves.bindV (v := v3) ?_ ?_
  unfold v3
  apply Moves.ite
  refine .step ?_ (State.icuComplete_moves ..) (by decide)
  exact .refl ..
  exact .refl ..
  intro hv3
  clear_value v3
  extract_lets +onlyGivenNames v4
  refine Moves.bindV (v := v4) ?_ ?_
  unfold v4
  apply Moves.ite
  refine .step ?_ (State.dropLines_moves ..) (by decide)
  assumption
  assumption
  intro hv4
  clear_value v4
  refine .step ?_ (State.complete_moves ..) (by decide)
  assumption

end Sys2Proof.Machine
end

