-- ==== Sys2Proof/Laws/MovesLcOps.lean ====
section
/-!
SUPPORT. What each function of Machine/LcOps.lean may change.
-/

namespace Sys2Proof.Machine

/-- What `State.keyWrite` may change: key. -/
theorem State.keyWrite_moves (s : State) (q : Who) (v : ℕ) : Moves 0x8 s (State.keyWrite s q v) := by
  unfold State.keyWrite
  apply Moves.ite
  exact .refl ..
  apply Moves.ite
  refine .step ?_ (State.upd_key_moves ..) (by decide)
  exact .refl ..
  apply Moves.ite
  refine .step ?_ (State.upd_key_moves ..) (by decide)
  exact .refl ..
  refine .step ?_ (State.upd_key_moves ..) (by decide)
  exact .refl ..

/-- What `State.keyEnd` may change: key. -/
theorem State.keyEnd_moves (s : State) (q : Req) : Moves 0x8 s (State.keyEnd s q) := by
  unfold State.keyEnd
  refine .step ?_ (State.upd_key_moves ..) (by decide)
  exact .refl ..

/-- What `State.guarded` may change: resp, key, icu; registers of PD 0, 6. -/
theorem State.guarded_moves {K : Nat} (s : State) (q : Who) (a : ℕ) (f : State → State) (hf : ∀ x0, Moves K x0 (f x0)) (e : 0x1040000000002a ||| K = K) : Moves K s (State.guarded s q a f) := by
  unfold State.guarded
  apply Moves.ite
  refine .trans ?_ (hf ..)
  refine .step ?_ (State.upd_key_moves ..) (sub_of (by decide) e)
  exact .refl ..
  refine .step ?_ (State.lockViolation_moves ..) (sub_of (by decide) e)
  exact .refl ..

/-- What `State.writeLockcfg` may change: resp, frozen, key, icu, vrec; registers of PD 0, 1, 2, 3, 4, 5, 6, 7, 8, 9, 10, 11. -/
theorem State.writeLockcfg_moves (s : State) (q : Who) (v : ℕ) : Moves 0x7ffc0001000002e s (State.writeLockcfg s q v) := by
  unfold State.writeLockcfg
  refine .trans ?_ (State.guarded_moves _ _ _ _ ?_ (by decide))
  exact .refl ..
  intro u4_0
  apply Moves.ite
  refine .step ?_ (State.upd_key_moves ..) (by decide)
  refine .step ?_ (State.writeReg_moves ..) (by decide)
  exact .refl ..
  refine .step ?_ (State.writeReg_moves ..) (by decide)
  exact .refl ..

/-- What `State.lcBegin` may change: core, lc; registers of PD 0. -/
theorem State.lcBegin_moves (s : State) (slot : ℕ) (job : Option ℕ) : Moves 0x400801000000 s (State.lcBegin s slot job) := by
  unfold State.lcBegin
  refine .step ?_ (State.set_moves (d := 0) rfl) (by decide)
  refine .step ?_ (State.set_moves (d := 0) rfl) (by decide)
  refine .step ?_ (State.set_moves (d := 0) rfl) (by decide)
  refine .step ?_ (State.upd_core_lc_moves ..) (by decide)
  exact .refl ..

/-- What `State.lcJudge` may change: core, lc; registers of PD 0. -/
theorem State.lcJudge_moves (s : State) (t : ℕ) (scrap : Bool) (token : Option (List ℕ)) (job : Option ℕ) : Moves 0x400801000000 s (State.lcJudge s t scrap token job).2 := by
  unfold State.lcJudge
  split
  dsimp only
  exact .refl ..
  dsimp only
  exact .refl ..
  apply Moves.ite2
  split
  dsimp only
  exact .refl ..
  apply Moves.ite2
  dsimp only
  exact .refl ..
  apply Moves.ite2
  dsimp only
  refine .step ?_ (State.lcBegin_moves ..) (by decide)
  exact .refl ..
  dsimp only
  refine .step ?_ (State.inc_moves (d := 0) rfl) (by decide)
  exact .refl ..
  dsimp only
  refine .step ?_ (State.lcBegin_moves ..) (by decide)
  exact .refl ..

/-- What `State.clearToken` may change: registers of PD 0. -/
theorem State.clearToken_moves (s : State) : Moves 0x400000000000 s (State.clearToken s) := by
  unfold State.clearToken
  refine Moves.foldl ?_ ?_
  exact .refl ..
  intro u2_0 u2_1
  refine .step ?_ (State.set_moves (d := 0) rfl) (by decide)
  exact .refl ..

/-- What `State.lcRequest` may change: core, lc; registers of PD 0. -/
theorem State.lcRequest_moves (s : State) (t : ℕ) (scrap : Bool) (token : Option (List ℕ)) (job : Option ℕ) : Moves 0x400801000000 s (State.lcRequest s t scrap token job).2 := by
  unfold State.lcRequest
  split
  dsimp only
  refine .step ?_ (State.clearToken_moves ..) (by decide)
  refine .step ?_ (Moves.snd (State.lcJudge_moves ..) (by assumption)) (by decide)
  exact .refl ..

/-- What `State.writeLcsReq` may change: resp, key, icu, core, lc; registers of PD 0, 6. -/
theorem State.writeLcsReq_moves (s : State) (q : Who) (v : ℕ) : Moves 0x1040080100002a s (State.writeLcsReq s q v) := by
  unfold State.writeLcsReq
  refine .trans ?_ (State.guarded_moves _ _ _ _ ?_ (by decide))
  exact .refl ..
  intro u3_0
  split
  split
  refine .step ?_ (State.set_moves (d := 0) rfl) (by decide)
  refine .step ?_ (Moves.snd (State.lcRequest_moves ..) (by assumption)) (by decide)
  exact .refl ..
  refine .step ?_ (Moves.snd (State.lcRequest_moves ..) (by assumption)) (by decide)
  exact .refl ..

/-- What `State.zeroSlots` may change: custody. -/
theorem State.zeroSlots_moves (s : State) : Moves 0x400000000 s (State.zeroSlots s) := by
  unfold State.zeroSlots
  refine .step ?_ (State.upd_custody_moves ..) (by decide)
  exact .refl ..

/-- What `State.wipeTcms` may change: mem. -/
theorem State.wipeTcms_moves (s : State) : Moves 0x200000000000 s (State.wipeTcms s) := by
  unfold State.wipeTcms
  refine Moves.foldl ?_ ?_
  exact .refl ..
  intro u2_0 u2_1
  refine .step ?_ (State.wipe_moves ..) (by decide)
  refine .step ?_ (State.wipe_moves ..) (by decide)
  exact .refl ..

/-- What `State.eraseRange` may change: flash, mem. -/
theorem State.eraseRange_moves (s : State) (a : ℕ) (b : ℕ) : Moves 0x200200000000 s (State.eraseRange s a b) := by
  unfold State.eraseRange
  refine .step ?_ (State.clearEcc_moves ..) (by decide)
  refine .step ?_ (State.wipe_moves ..) (by decide)
  exact .refl ..

/-- What `State.eraseCustomer` may change: flash, mem. -/
theorem State.eraseCustomer_moves (s : State) : Moves 0x200200000000 s (State.eraseCustomer s) := by
  unfold State.eraseCustomer
  refine .step ?_ (State.eraseRange_moves ..) (by decide)
  refine .step ?_ (State.eraseRange_moves ..) (by decide)
  refine .step ?_ (State.eraseRange_moves ..) (by decide)
  exact .refl ..

/-- What `State.lockRows` may change: fuse. -/
theorem State.lockRows_moves (s : State) (p : ℕ → Bool) : Moves 0x1000000000 s (State.lockRows s p) := by
  unfold State.lockRows
  refine Moves.foldl ?_ ?_
  exact .refl ..
  intro u3_0 u3_1
  refine .step ?_ (State.lockRow_moves ..) (by decide)
  exact .refl ..

/-- What `State.burnRows` may change: fuse. -/
theorem State.burnRows_moves (s : State) (lo : ℕ) (hi : ℕ) : Moves 0x1000000000 s (State.burnRows s lo hi) := by
  unfold State.burnRows
  refine Moves.foldl ?_ ?_
  exact .refl ..
  intro u4_0 u4_1
  refine .step ?_ (State.burn_moves ..) (by decide)
  exact .refl ..

/-- What `State.lcEffect` may change: free, crerus, jrnl, flash, custody, fuse, mem. -/
theorem State.lcEffect_moves (s : State) (slot : ℕ) (j : ℕ) : Moves 0x201740000001 s (State.lcEffect s slot j) := by
  unfold State.lcEffect
  apply Moves.ite
  refine .step ?_ (State.zeroSlots_moves ..) (by decide)
  refine .step ?_ (State.wipeTcms_moves ..) (by decide)
  refine .step ?_ (State.wipe_moves ..) (by decide)
  refine .step ?_ (State.eraseCustomer_moves ..) (by decide)
  exact .refl ..
  apply Moves.ite
  refine .step ?_ (State.lockRows_moves ..) (by decide)
  exact .refl ..
  apply Moves.ite
  extract_lets +onlyGivenNames v3
  refine Moves.bindV (v := v3) ?_ ?_
  unfold v3
  refine Moves.foldl ?_ ?_
  exact .refl ..
  intro u4_0 u4_1
  split
  refine .step ?_ (State.burn_moves ..) (by decide)
  refine .step ?_ (Moves.snd (State.freeN_moves ..) (by assumption)) (by decide)
  exact .refl ..
  intro hv3
  clear_value v3
  refine .step ?_ (State.lockRows_moves ..) (by decide)
  assumption
  apply Moves.ite
  refine .step ?_ (State.lockRows_moves ..) (by decide)
  exact .refl ..
  apply Moves.ite
  refine .step ?_ (State.eraseCustomer_moves ..) (by decide)
  refine .step ?_ (State.wipeSealed_moves ..) (by decide)
  refine .step ?_ (State.zeroSlots_moves ..) (by decide)
  exact .refl ..
  apply Moves.ite
  refine .step ?_ (State.upd_crerus_jrnl_moves ..) (by decide)
  refine .step ?_ (State.eraseRange_moves ..) (by decide)
  refine .step ?_ (State.wipe_moves ..) (by decide)
  refine .step ?_ (State.wipeTcms_moves ..) (by decide)
  refine .step ?_ (State.wipe_moves ..) (by decide)
  refine .step ?_ (State.zeroSlots_moves ..) (by decide)
  exact .refl ..
  apply Moves.ite
  refine .step ?_ (State.burnRows_moves ..) (by decide)
  exact .refl ..
  apply Moves.ite
  refine .step ?_ (State.burnRows_moves ..) (by decide)
  exact .refl ..
  exact .refl ..

/-- What `State.lcTell` may change: crerus, lc; registers of PD 0. -/
theorem State.lcTell_moves (s : State) : Moves 0x400840000000 s (State.lcTell s) := by
  unfold State.lcTell
  dsimp only
  split
  refine .step ?_ (State.set_moves (d := 0) rfl) (by decide)
  exact .refl ..
  refine .step ?_ (State.upd_crerus_lc_moves ..) (by decide)
  refine .step ?_ (State.set_moves (d := 0) rfl) (by decide)
  exact .refl ..

/-- What `State.lcStep` may change: free, frozen, key, time, icu, adc, res, cmp, dac, rfm, lane, shed, hedCnt, pwm, trip, pad, loomCfg, fuseLoaded, gov, tmr, dma, dmaLast, core, ply, wld, seq, vrec, warp, crerus, queue, jrnl, flash, custody, lc, fuse, shadow, pwr, rst, clk, dbg, xspi, uart, i2c, mem; registers of PD 0, 1, 2, 3, 4, 5, 6, 7, 8, 9, 10, 11. -/
theorem State.lcStep_moves (s : State) : Moves 0x7ffffffff7ffffd s (State.lcStep s) := by
  unfold State.lcStep
  split
  exact .refl ..
  apply Moves.ite
  refine .step ?_ (State.set_moves (d := 0) rfl) (by decide)
  refine .step ?_ (State.upd_lc_moves ..) (by decide)
  apply Moves.ite
  refine .step ?_ (State.lcTell_moves ..) (by decide)
  refine .step ?_ (State.burnAll_moves ..) (by decide)
  refine .step ?_ (State.lcEffect_moves ..) (by decide)
  exact .refl ..
  refine .step ?_ (State.burnAll_moves ..) (by decide)
  refine .step ?_ (State.lcEffect_moves ..) (by decide)
  exact .refl ..
  refine .step ?_ (State.askReset_moves ..) (by decide)
  refine .step ?_ (State.upd_lc_moves ..) (by decide)
  refine .step ?_ (State.burnAll_moves ..) (by decide)
  refine .step ?_ (State.lcEffect_moves ..) (by decide)
  exact .refl ..

/-- What `State.writeScrap` may change: free, frozen, key, time, icu, adc, res, cmp, dac, rfm, lane, shed, hedCnt, pwm, trip, pad, loomCfg, fuseLoaded, gov, tmr, dma, dmaLast, health, core, ply, wld, seq, vrec, warp, crerus, queue, jrnl, flash, custody, lc, shadow, pwr, rst, clk, dbg, xspi, uart, i2c, mem; registers of PD 0, 1, 2, 3, 4, 5, 6, 7, 8, 9, 10, 11, 12. -/
theorem State.writeScrap_moves (s : State) (q : Who) (v : ℕ) : Moves 0x7ffffeffffffffd s (State.writeScrap s q v) := by
  unfold State.writeScrap
  split
  exact .refl ..
  apply Moves.ite
  refine .step ?_ (State.takeExc_moves ..) (by decide)
  exact .refl ..
  apply Moves.ite
  apply Moves.ite
  split
  split
  refine .step ?_ (State.set_moves (d := 0) rfl) (by decide)
  refine .step ?_ (Moves.snd (State.lcRequest_moves ..) (by assumption)) (by decide)
  refine .step ?_ (State.upd_seq_moves ..) (by decide)
  exact .refl ..
  refine .step ?_ (Moves.snd (State.lcRequest_moves ..) (by assumption)) (by decide)
  refine .step ?_ (State.upd_seq_moves ..) (by decide)
  exact .refl ..
  refine .step ?_ (State.upd_seq_moves ..) (by decide)
  exact .refl ..
  apply Moves.ite
  refine .step ?_ (State.upd_seq_moves ..) (by decide)
  exact .refl ..
  exact .refl ..

/-- What `State.writeFcmd` may change: resp, key, icu, lc; registers of PD 0, 6. -/
theorem State.writeFcmd_moves (s : State) (q : Who) (v : ℕ) : Moves 0x1040080000002a s (State.writeFcmd s q v) := by
  unfold State.writeFcmd
  refine .trans ?_ (State.guarded_moves _ _ _ _ ?_ (by decide))
  exact .refl ..
  intro u4_0
  apply Moves.ite
  exact .refl ..
  apply Moves.ite
  refine .step ?_ (State.set_moves (d := 0) rfl) (by decide)
  exact .refl ..
  apply Moves.ite
  refine .step ?_ (State.set_moves (d := 0) rfl) (by decide)
  refine .step ?_ (State.lockViolation_moves ..) (by decide)
  exact .refl ..
  apply Moves.ite
  refine .step ?_ (State.set_moves (d := 0) rfl) (by decide)
  exact .refl ..
  refine .step ?_ (State.set_moves (d := 0) rfl) (by decide)
  refine .step ?_ (State.upd_lc_moves ..) (by decide)
  exact .refl ..

/-- What `State.fuseEnd` may change: lc, fuse; registers of PD 0. -/
theorem State.fuseEnd_moves (s : State) (bad : ℕ) : Moves 0x401800000000 s (State.fuseEnd s bad) := by
  unfold State.fuseEnd
  split
  exact .refl ..
  refine .step ?_ (State.set_moves (d := 0) rfl) (by decide)
  refine .step ?_ (State.set_moves (d := 0) rfl) (by decide)
  refine .step ?_ (State.upd_lc_moves ..) (by decide)
  refine .step ?_ (State.burn_moves ..) (by decide)
  exact .refl ..

end Sys2Proof.Machine
end

