-- ==== Sys2Proof/Laws/MovesDebugOps.lean ====
section
/-!
SUPPORT. What each function of Machine/DebugOps.lean may change.
-/

namespace Sys2Proof.Machine

/-- What `State.dbgAuthority` may change: registers of PD 0. -/
theorem State.dbgAuthority_moves (s : State) (bscan : Bool) : Moves 0x400000000000 s (State.dbgAuthority s bscan) := by
  unfold State.dbgAuthority
  refine .step ?_ (State.setB_moves (d := 0) rfl) (by decide)
  refine .step ?_ (State.setB_moves (d := 0) rfl) (by decide)
  refine .step ?_ (State.setB_moves (d := 0) rfl) (by decide)
  exact .refl ..

/-- What `State.resumeCore` may change: core; registers of PD 0. -/
theorem State.resumeCore_moves (s : State) (c : ℕ) (step : Bool) : Moves 0x400001000000 s (State.resumeCore s c step) := by
  unfold State.resumeCore
  apply Moves.ite
  exact .refl ..
  refine .step ?_ (State.updCore_moves ..) (by decide)
  refine .step ?_ (State.clrBit_moves (d := 0) rfl) (by decide)
  exact .refl ..

/-- What `State.endGrant` may change: core, dbg; registers of PD 0. -/
theorem State.endGrant_moves (s : State) : Moves 0x420001000000 s (State.endGrant s) := by
  unfold State.endGrant
  apply Moves.ite
  exact .refl ..
  refine .step ?_ (State.upd_dbg_moves ..) (by decide)
  refine Moves.foldl ?_ ?_
  refine Moves.foldl ?_ ?_
  refine .step ?_ (State.dbgAuthority_moves ..) (by decide)
  refine .step ?_ (State.set_moves (d := 0) rfl) (by decide)
  exact .refl ..
  intro u2_0 u2_1
  refine .step ?_ (State.set_moves (d := 0) rfl) (by decide)
  exact .refl ..
  intro u2_0 u2_1
  refine .step ?_ (State.resumeCore_moves ..) (by decide)
  exact .refl ..

/-- What `State.writeDbgCtrl` may change: core; registers of PD 0. -/
theorem State.writeDbgCtrl_moves (s : State) (v : ℕ) : Moves 0x400001000000 s (State.writeDbgCtrl s v) := by
  unfold State.writeDbgCtrl
  refine Moves.foldl ?_ ?_
  refine Moves.foldl ?_ ?_
  refine Moves.foldl ?_ ?_
  refine .step ?_ (State.set_moves (d := 0) rfl) (by decide)
  refine .step ?_ (State.set_moves (d := 0) rfl) (by decide)
  exact .refl ..
  intro u3_0 u3_1
  apply Moves.ite
  refine .step ?_ (State.resumeCore_moves ..) (by decide)
  exact .refl ..
  exact .refl ..
  intro u3_0 u3_1
  apply Moves.ite
  refine .step ?_ (State.resumeCore_moves ..) (by decide)
  exact .refl ..
  exact .refl ..
  intro u3_0 u3_1
  apply Moves.ite
  refine .step ?_ (State.askHalt_moves ..) (by decide)
  exact .refl ..
  exact .refl ..

/-- What `State.haltNow` may change: free, core; registers of PD 0. -/
theorem State.haltNow_moves (s : State) (c : ℕ) : Moves 0x400001000001 s (State.haltNow s c) := by
  unfold State.haltNow
  extract_lets +onlyGivenNames v3
  clear_value v3
  extract_lets +onlyGivenNames v4
  clear_value v4
  split
  exact .refl ..
  apply Moves.ite
  refine .step ?_ (State.haltCore_moves ..) (by decide)
  exact .refl ..
  exact .refl ..

/-- What `State.abandon` may change: key, icu, core, seq; registers of PD 2, 6. -/
theorem State.abandon_moves (s : State) (c : ℕ) : Moves 0x11000009000028 s (State.abandon s c) := by
  unfold State.abandon
  apply Moves.ite
  refine .step ?_ (State.upd_seq_moves ..) (by decide)
  apply Moves.ite
  refine .step ?_ (State.flcLapse_moves ..) (by decide)
  refine .step ?_ (State.updCore_moves ..) (by decide)
  apply Moves.ite
  refine .step ?_ (State.keyEnd_moves ..) (by decide)
  exact .refl ..
  exact .refl ..
  refine .step ?_ (State.updCore_moves ..) (by decide)
  apply Moves.ite
  refine .step ?_ (State.keyEnd_moves ..) (by decide)
  exact .refl ..
  exact .refl ..
  apply Moves.ite
  refine .step ?_ (State.flcLapse_moves ..) (by decide)
  refine .step ?_ (State.updCore_moves ..) (by decide)
  apply Moves.ite
  refine .step ?_ (State.keyEnd_moves ..) (by decide)
  exact .refl ..
  exact .refl ..
  refine .step ?_ (State.updCore_moves ..) (by decide)
  apply Moves.ite
  refine .step ?_ (State.keyEnd_moves ..) (by decide)
  exact .refl ..
  exact .refl ..

/-- What `State.deferralEnds` may change: free, key, icu, core, seq; registers of PD 0, 2, 6. -/
theorem State.deferralEnds_moves (s : State) (c : ℕ) : Moves 0x11400009000029 s (State.deferralEnds s c) := by
  unfold State.deferralEnds
  extract_lets +onlyGivenNames v3
  clear_value v3
  split
  exact .refl ..
  apply Moves.ite
  exact .refl ..
  refine .step ?_ (State.set_moves (d := 0) rfl) (by decide)
  refine .step ?_ (State.setBit_moves (d := 0) rfl) (by decide)
  refine .step ?_ (State.haltCore_moves ..) (by decide)
  refine .step ?_ (State.abandon_moves ..) (by decide)
  exact .refl ..

/-- What `State.readRegdata` may change: registers of PD 0. -/
theorem State.readRegdata_moves (s : State) (quiet : Bool) : Moves 0x400000000000 s (State.readRegdata s quiet).2 := by
  unfold State.readRegdata
  split
  dsimp only
  split
  exact .refl ..
  exact .refl ..
  dsimp only
  split
  exact .refl ..
  refine .step ?_ (State.set_moves (d := 0) rfl) (by decide)
  exact .refl ..

/-- What `State.writeRegdata` may change: icu, core; registers of PD 0, 6. -/
theorem State.writeRegdata_moves (s : State) (v : ℕ) : Moves 0x10400001000020 s (State.writeRegdata s v) := by
  unfold State.writeRegdata
  apply Moves.ite
  refine .step ?_ (State.set_moves (d := 0) rfl) (by decide)
  exact .refl ..
  split
  split
  refine .step ?_ (State.updCore_moves ..) (by decide)
  exact .refl ..
  exact .refl ..
  apply Moves.ite
  refine .step ?_ (State.countViolation_moves ..) (by decide)
  exact .refl ..
  extract_lets +onlyGivenNames v3
  refine Moves.bindV (v := v3) ?_ ?_
  unfold v3
  apply Moves.ite
  refine .step ?_ (State.dropLines_moves ..) (by decide)
  exact .refl ..
  exact .refl ..
  intro hv3
  clear_value v3
  refine .step ?_ (State.updCore_moves ..) (by decide)
  assumption
  refine .step ?_ (State.updCore_moves ..) (by decide)
  exact .refl ..

end Sys2Proof.Machine
end

