-- ==== Sys2Proof/Laws/MovesCustodyOps.lean ====
section
/-!
SUPPORT. What each function of Machine/CustodyOps.lean may change.
-/

namespace Sys2Proof.Machine

/-- What `State.formKeys` may change: custody. -/
theorem State.formKeys_moves (s : State) : Moves 0x400000000 s (State.formKeys s) := by
  unfold State.formKeys
  apply Moves.ite
  refine .step ?_ (State.upd_custody_moves ..) (by decide)
  exact .refl ..
  exact .refl ..

/-- What `State.drbgBytes` may change: free, custody. -/
theorem State.drbgBytes_moves (s : State) (n : ℕ) (fresh : Bool) : Moves 0x400000001 s (State.drbgBytes s n fresh).2 := by
  unfold State.drbgBytes
  refine .step ?_ (State.upd_custody_moves ..) (by decide)
  refine .step ?_ (State.freeBytes_moves ..) (by decide)
  apply Moves.ite
  refine .step ?_ (State.upd_custody_moves ..) (by decide)
  exact .refl ..
  exact .refl ..

/-- What `State.putSlot` may change: custody. -/
theorem State.putSlot_moves (s : State) (n : ℕ) (k : KeySlot) : Moves 0x400000000 s (State.putSlot s n k) := by
  unfold State.putSlot
  refine .step ?_ (State.upd_custody_moves ..) (by decide)
  exact .refl ..

/-- What `State.tamperOwe` may change: custody. -/
theorem State.tamperOwe_moves (s : State) : Moves 0x400000000 s (State.tamperOwe s) := by
  unfold State.tamperOwe
  refine .step ?_ (State.upd_custody_moves ..) (by decide)
  exact .refl ..

/-- What `State.engineAbort` may change: crerus, queue, custody. -/
theorem State.engineAbort_moves (s : State) (st : ℕ) (reason : ℕ) : Moves 0x4c0000000 s (State.engineAbort s st reason) := by
  unfold State.engineAbort
  refine .step ?_ (State.upd_crerus_queue_custody_moves ..) (by decide)
  exact .refl ..

/-- What `State.pageAbort` may change: queue, jrnl. -/
theorem State.pageAbort_moves (s : State) (status : ℕ) (reason : ℕ) : Moves 0x180000000 s (State.pageAbort s status reason) := by
  unfold State.pageAbort
  refine .step ?_ (State.upd_queue_jrnl_moves ..) (by decide)
  exact .refl ..

/-- What `State.jrnlStop` may change: queue, jrnl. -/
theorem State.jrnlStop_moves (s : State) (tamper : Bool) : Moves 0x180000000 s (State.jrnlStop s tamper) := by
  unfold State.jrnlStop
  apply Moves.ite
  refine .step ?_ (State.upd_jrnl_moves ..) (by decide)
  refine .step ?_ (State.pageAbort_moves ..) (by decide)
  exact .refl ..
  refine .step ?_ (State.pageAbort_moves ..) (by decide)
  exact .refl ..

/-- What `State.tamperLoad` may change: icu, core, wld, mem; registers of PD 1, 3, 6. -/
theorem State.tamperLoad_moves (s : State) : Moves 0x12a00005000020 s (State.tamperLoad s) := by
  unfold State.tamperLoad
  apply Moves.ite
  refine .step ?_ (State.beginLoad_moves ..) (by decide)
  apply Moves.ite
  refine .step ?_ (State.abortCall_moves ..) (by decide)
  refine .step ?_ (State.raise_moves ..) (by decide)
  refine .step ?_ (State.set_moves (d := 3) rfl) (by decide)
  exact .refl ..
  exact .refl ..
  apply Moves.ite
  refine .step ?_ (State.abortCall_moves ..) (by decide)
  refine .step ?_ (State.raise_moves ..) (by decide)
  refine .step ?_ (State.set_moves (d := 3) rfl) (by decide)
  exact .refl ..
  exact .refl ..

/-- What `State.tamperRespond` may change: free, icu, core, wld, crerus, queue, jrnl, flash, custody, pwr, dbg, mem; registers of PD 0, 1, 2, 3, 6, 10. -/
theorem State.tamperRespond_moves (s : State) : Moves 0x113e247c5000021 s (State.tamperRespond s) := by
  unfold State.tamperRespond
  refine .step ?_ (State.wake_moves ..) (by decide)
  refine .step ?_ (State.tamperOwe_moves ..) (by decide)
  refine .step ?_ (State.abandonEntry_moves ..) (by decide)
  refine .step ?_ (State.endGrant_moves ..) (by decide)
  refine .step ?_ (State.flashStop_moves ..) (by decide)
  refine .step ?_ (State.jrnlStop_moves ..) (by decide)
  refine .step ?_ (State.tamperLoad_moves ..) (by decide)
  apply Moves.ite
  refine .step ?_ (State.set_moves (d := 10) rfl) (by decide)
  refine .step ?_ (State.upd_custody_moves ..) (by decide)
  refine .step ?_ (State.engineAbort_moves ..) (by decide)
  refine .step ?_ (State.zeroSlots_moves ..) (by decide)
  refine .step ?_ (State.set_moves (d := 0) rfl) (by decide)
  refine .step ?_ (State.set_moves (d := 0) rfl) (by decide)
  refine .step ?_ (State.set_moves (d := 0) rfl) (by decide)
  refine .step ?_ (State.inc_moves (d := 0) rfl) (by decide)
  refine .step ?_ (State.set_moves (d := 0) rfl) (by decide)
  exact .refl ..
  refine .step ?_ (State.upd_custody_moves ..) (by decide)
  refine .step ?_ (State.engineAbort_moves ..) (by decide)
  refine .step ?_ (State.zeroSlots_moves ..) (by decide)
  refine .step ?_ (State.set_moves (d := 0) rfl) (by decide)
  refine .step ?_ (State.set_moves (d := 0) rfl) (by decide)
  refine .step ?_ (State.set_moves (d := 0) rfl) (by decide)
  refine .step ?_ (State.inc_moves (d := 0) rfl) (by decide)
  refine .step ?_ (State.set_moves (d := 0) rfl) (by decide)
  exact .refl ..

/-- What `State.tamper` may change: free, icu, core, wld, crerus, queue, jrnl, flash, custody, pwr, dbg, mem; registers of PD 0, 1, 2, 3, 6, 10. -/
theorem State.tamper_moves (s : State) (n : ℕ) : Moves 0x113e247c5000021 s (State.tamper s n) := by
  unfold State.tamper
  apply Moves.ite
  apply Moves.ite
  refine .step ?_ (State.set_moves (d := 0) rfl) (by decide)
  refine .step ?_ (State.tamperRespond_moves ..) (by decide)
  refine .step ?_ (State.setBit_moves (d := 0) rfl) (by decide)
  exact .refl ..
  refine .step ?_ (State.tamperRespond_moves ..) (by decide)
  refine .step ?_ (State.setBit_moves (d := 0) rfl) (by decide)
  exact .refl ..
  refine .step ?_ (State.raise_moves ..) (by decide)
  refine .step ?_ (State.setBit_moves (d := 0) rfl) (by decide)
  exact .refl ..

/-- What `State.meshBit` may change: free, icu, core, wld, crerus, queue, jrnl, flash, custody, pwr, dbg, mem; registers of PD 0, 1, 2, 3, 6, 10. -/
theorem State.meshBit_moves (s : State) (n : ℕ) (sense : Bool) : Moves 0x113e247c5000021 s (State.meshBit s n sense) := by
  unfold State.meshBit
  apply Moves.ite
  exact .refl ..
  apply Moves.ite
  refine .step ?_ (State.upd_custody_moves ..) (by decide)
  exact .refl ..
  apply Moves.ite
  refine .step ?_ (State.tamper_moves ..) (by decide)
  refine .step ?_ (State.inc_moves (d := 0) (by split <;> rfl)) (by decide)
  refine .step ?_ (State.upd_custody_moves ..) (by decide)
  exact .refl ..
  refine .step ?_ (State.inc_moves (d := 0) (by split <;> rfl)) (by decide)
  refine .step ?_ (State.upd_custody_moves ..) (by decide)
  exact .refl ..

/-- What `State.meshSeed` may change: free, custody. -/
theorem State.meshSeed_moves (s : State) (n : ℕ) : Moves 0x400000001 s (State.meshSeed s n) := by
  unfold State.meshSeed
  refine .step ?_ (State.upd_custody_moves ..) (by decide)
  refine .step ?_ (State.upd_free_moves ..) (by decide)
  exact .refl ..

/-- What `State.tamperWiped` may change: wld, custody, mem; registers of PD 1. -/
theorem State.tamperWiped_moves (s : State) : Moves 0xa00404000000 s (State.tamperWiped s) := by
  unfold State.tamperWiped
  apply Moves.ite
  exact .refl ..
  refine .step ?_ (State.upd_custody_moves ..) (by decide)
  refine .step ?_ (State.wipeHeld_moves ..) (by decide)
  refine .step ?_ (State.wipeSealed_moves ..) (by decide)
  exact .refl ..

/-- What `State.tamperRecord` may change: icu, vrec, custody; registers of PD 6. -/
theorem State.tamperRecord_moves (s : State) : Moves 0x10000410000020 s (State.tamperRecord s) := by
  unfold State.tamperRecord
  apply Moves.ite
  exact .refl ..
  refine .step ?_ (State.raise_moves ..) (by decide)
  refine .step ?_ (State.journal_moves ..) (by decide)
  refine .step ?_ (State.upd_custody_moves ..) (by decide)
  exact .refl ..

end Sys2Proof.Machine
end

