-- ==== Sys2Proof/Laws/MovesWarpOps.lean ====
section
/-!
SUPPORT. What each function of Machine/WarpOps.lean may change.
-/

namespace Sys2Proof.Machine

/-- What `State.wrp` may change: warp. -/
theorem State.wrp_moves (s : State) (f : Warp → Warp) : Moves 0x20000000 s (State.wrp s f) := by
  unfold State.wrp
  refine .step ?_ (State.upd_warp_moves ..) (by decide)
  exact .refl ..

/-- What `State.pass` may change: warp. -/
theorem State.pass_moves (s : State) (f : Frame) : Moves 0x20000000 s (State.pass s f) := by
  unfold State.pass
  apply Moves.ite
  apply Moves.ite
  exact .refl ..
  refine .step ?_ (State.wrp_moves ..) (by decide)
  exact .refl ..
  refine .step ?_ (State.wrp_moves ..) (by decide)
  exact .refl ..

/-- What `State.inbound` may change: nothing. -/
theorem State.inbound_moves {K : Nat} (s : State) (f : State → State) (hf : ∀ x0, Moves K x0 (f x0)) (_e : 0x0 ||| K = K) : Moves K s (State.inbound s f) := by
  unfold State.inbound
  apply Moves.ite
  refine .trans ?_ (hf ..)
  exact .refl ..
  exact .refl ..

/-- What `State.queueFrame` may change: warp. -/
theorem State.queueFrame_moves (s : State) (f : Frame) : Moves 0x20000000 s (State.queueFrame s f) := by
  unfold State.queueFrame
  refine .step ?_ (State.wrp_moves ..) (by decide)
  exact .refl ..

/-- What `State.emptyIn` may change: warp. -/
theorem State.emptyIn_moves (s : State) : Moves 0x20000000 s (State.emptyIn s) := by
  unfold State.emptyIn
  apply Moves.ite
  exact .refl ..
  split
  refine .step ?_ (State.pass_moves ..) (by decide)
  exact .refl ..
  apply Moves.ite
  refine .step ?_ (State.wrp_moves ..) (by decide)
  refine .step ?_ (State.pass_moves ..) (by decide)
  exact .refl ..
  refine .step ?_ (State.wrp_moves ..) (by decide)
  refine .step ?_ (State.wrp_moves ..) (by decide)
  refine .step ?_ (State.pass_moves ..) (by decide)
  exact .refl ..

/-- What `State.armTarget` may change: icu, warp; registers of PD 6, 9. -/
theorem State.armTarget_moves (s : State) (t : ℕ) : Moves 0x90000020000020 s (State.armTarget s t) := by
  unfold State.armTarget
  apply Moves.ite
  apply Moves.ite
  refine .step ?_ (State.set_moves (d := 6) rfl) (by decide)
  exact .refl ..
  exact .refl ..
  apply Moves.ite
  exact .refl ..
  apply Moves.ite
  refine .step ?_ (State.raise_moves ..) (by decide)
  refine .step ?_ (State.set_moves (d := 9) rfl) (by decide)
  exact .refl ..
  refine .step ?_ (State.showArmed_moves ..) (by decide)
  refine .step ?_ (State.wrp_moves ..) (by decide)
  exact .refl ..

/-- What `State.gstartIn` may change: icu, warp; registers of PD 6, 9. -/
theorem State.gstartIn_moves (s : State) (g : ℕ) (t : ℕ) : Moves 0x90000020000020 s (State.gstartIn s g t) := by
  unfold State.gstartIn
  apply Moves.ite
  refine .step ?_ (State.armTarget_moves ..) (by decide)
  exact .refl ..
  exact .refl ..

/-- What `State.startEnum` may change: free, warp, custody. -/
theorem State.startEnum_moves (s : State) : Moves 0x420000001 s (State.startEnum s) := by
  unfold State.startEnum
  refine .step ?_ (State.wrp_moves ..) (by decide)
  refine Moves.rec2 ?_ ?_
  intro u2_0
  exact .refl ..
  intro u2_0
  refine .step ?_ (State.drbgBytes_moves ..) (by decide)
  exact .refl ..

/-- What `State.startCal` may change: warp. -/
theorem State.startCal_moves (s : State) : Moves 0x20000000 s (State.startCal s) := by
  unfold State.startCal
  refine .step ?_ (State.wrp_moves ..) (by decide)
  exact .refl ..

/-- What `State.endCal` may change: free, icu, warp; registers of PD 6, 9. -/
theorem State.endCal_moves (s : State) : Moves 0x90000020000021 s (State.endCal s) := by
  unfold State.endCal
  split
  exact .refl ..
  apply Moves.ite
  refine .step ?_ (State.raise_moves ..) (by decide)
  refine .step ?_ (State.set_moves (d := 9) rfl) (by decide)
  refine .step ?_ (State.wrp_moves ..) (by decide)
  exact .refl ..
  refine .step ?_ (State.queueFrame_moves ..) (by decide)
  refine .step ?_ (State.upd_free_moves ..) (by decide)
  refine .step ?_ (State.setB_moves (d := 9) rfl) (by decide)
  refine .step ?_ (State.raiseIf_moves ..) (by decide)
  refine .step ?_ (State.sets_moves (d := 9) rfl) (by decide)
  refine .step ?_ (State.sets_moves (d := 9) rfl) (by decide)
  refine .step ?_ (State.wrp_moves ..) (by decide)
  exact .refl ..

/-- What `State.gstartReady` may change: crerus. -/
theorem State.gstartReady_moves (s : State) (sel : Frame → Bool) (status : ℕ) : Moves 0x40000000 s (State.gstartReady s sel status) := by
  unfold State.gstartReady
  refine .step ?_ (State.upd_crerus_moves ..) (by decide)
  exact .refl ..

/-- What `State.refuseLate` may change: warp, crerus. -/
theorem State.refuseLate_moves (s : State) : Moves 0x60000000 s (State.refuseLate s) := by
  unfold State.refuseLate
  refine .step ?_ (State.gstartReady_moves ..) (by decide)
  refine .step ?_ (State.wrp_moves ..) (by decide)
  exact .refl ..

/-- What `State.launched` may change: free, icu, warp, crerus; registers of PD 6, 9. -/
theorem State.launched_moves (s : State) (f : Frame) : Moves 0x90000060000021 s (State.launched s f) := by
  unfold State.launched
  split
  refine .step ?_ (State.gstartReady_moves ..) (by decide)
  refine .step ?_ (State.gstartIn_moves ..) (by decide)
  exact .refl ..
  refine .step ?_ (State.wrp_moves ..) (by decide)
  exact .refl ..
  apply Moves.ite
  refine .step ?_ (State.wrp_moves ..) (by decide)
  exact .refl ..
  exact .refl ..
  split
  refine .step ?_ (State.set_moves (d := 9) rfl) (by decide)
  refine .step ?_ (State.wrp_moves ..) (by decide)
  refine .step ?_ (Moves.snd (State.freeN_moves ..) (by assumption)) (by decide)
  exact .refl ..
  exact .refl ..

/-- What `State.send` may change: warp. -/
theorem State.send_moves (s : State) (f : Frame) : Moves 0x20000000 s (State.send s f) := by
  unfold State.send
  refine .step ?_ (State.wrp_moves ..) (by decide)
  exact .refl ..

/-- What `State.sendOwn` may change: free, icu, warp, crerus; registers of PD 6, 9. -/
theorem State.sendOwn_moves (s : State) : Moves 0x90000060000021 s (State.sendOwn s) := by
  unfold State.sendOwn
  extract_lets +onlyGivenNames v3
  clear_value v3
  split
  refine .step ?_ (State.send_moves ..) (by decide)
  exact .refl ..
  refine .step ?_ (State.launched_moves ..) (by decide)
  refine .step ?_ (State.send_moves ..) (by decide)
  refine .step ?_ (State.wrp_moves ..) (by decide)
  exact .refl ..

/-- What `State.sendTime` may change: warp. -/
theorem State.sendTime_moves (s : State) : Moves 0x20000000 s (State.sendTime s) := by
  unfold State.sendTime
  refine .step ?_ (State.send_moves ..) (by decide)
  refine .step ?_ (State.wrp_moves ..) (by decide)
  exact .refl ..

/-- What `State.sendMaster` may change: free, icu, warp, crerus, custody; registers of PD 6, 9. -/
theorem State.sendMaster_moves (s : State) : Moves 0x90000460000021 s (State.sendMaster s) := by
  unfold State.sendMaster
  apply Moves.ite
  refine .step ?_ (State.sendTime_moves ..) (by decide)
  exact .refl ..
  apply Moves.ite
  refine .step ?_ (State.send_moves ..) (by decide)
  refine .step ?_ (State.wrp_moves ..) (by decide)
  exact .refl ..
  split
  refine .step ?_ (State.send_moves ..) (by decide)
  refine .step ?_ (State.wrp_moves ..) (by decide)
  exact .refl ..
  extract_lets +onlyGivenNames v3
  refine Moves.bindV (v := v3) ?_ ?_
  unfold v3
  refine .step ?_ (State.refuseLate_moves ..) (by decide)
  apply Moves.ite
  refine .step ?_ (State.startEnum_moves ..) (by decide)
  exact .refl ..
  exact .refl ..
  intro hv3
  clear_value v3
  split
  refine .step ?_ (State.send_moves ..) (by decide)
  assumption
  refine .step ?_ (State.launched_moves ..) (by decide)
  refine .step ?_ (State.send_moves ..) (by decide)
  refine .step ?_ (State.wrp_moves ..) (by decide)
  assumption

/-- What `State.superframe` may change: free, icu, warp, crerus, custody; registers of PD 6, 9. -/
theorem State.superframe_moves (s : State) : Moves 0x90000460000021 s (State.superframe s) := by
  unfold State.superframe
  apply Moves.ite
  exact .refl ..
  apply Moves.ite
  refine .step ?_ (State.sendMaster_moves ..) (by decide)
  exact .refl ..
  refine .step ?_ (State.sendOwn_moves ..) (by decide)
  exact .refl ..

/-- What `State.dropFrags` may change: warp. -/
theorem State.dropFrags_moves (s : State) (d : Send) : Moves 0x20000000 s (State.dropFrags s d) := by
  unfold State.dropFrags
  refine .step ?_ (State.wrp_moves ..) (by decide)
  exact .refl ..

/-- What `State.sendFrags` may change: warp. -/
theorem State.sendFrags_moves (s : State) (d : Send) : Moves 0x20000000 s (State.sendFrags s d) := by
  unfold State.sendFrags
  split
  refine .step ?_ (State.wrp_moves ..) (by decide)
  refine .step ?_ (State.dropFrags_moves ..) (by decide)
  exact .refl ..
  exact .refl ..

/-- What `State.openSend` may change: warp. -/
theorem State.openSend_moves (s : State) (d : Send) : Moves 0x20000000 s (State.openSend s d) := by
  unfold State.openSend
  refine .step ?_ (State.sendFrags_moves ..) (by decide)
  refine .step ?_ (State.wrp_moves ..) (by decide)
  exact .refl ..

/-- What `State.jobReady` may change: crerus. -/
theorem State.jobReady_moves (s : State) (id : ℕ) (status : ℕ) (data : List ℕ) : Moves 0x40000000 s (State.jobReady s id status data) := by
  unfold State.jobReady
  refine .step ?_ (State.upd_crerus_moves ..) (by decide)
  exact .refl ..

/-- What `State.closeSend` may change: warp. -/
theorem State.closeSend_moves (s : State) (d : Send) : Moves 0x20000000 s (State.closeSend s d) := by
  unfold State.closeSend
  refine .step ?_ (State.wrp_moves ..) (by decide)
  refine .step ?_ (State.dropFrags_moves ..) (by decide)
  exact .refl ..

/-- What `State.endSend` may change: warp, crerus. -/
theorem State.endSend_moves (s : State) (d : Send) (status : ℕ) (data : List ℕ) : Moves 0x60000000 s (State.endSend s d status data) := by
  unfold State.endSend
  apply Moves.ite
  refine .step ?_ (State.closeSend_moves ..) (by decide)
  exact .refl ..
  refine .step ?_ (State.jobReady_moves ..) (by decide)
  refine .step ?_ (State.closeSend_moves ..) (by decide)
  exact .refl ..

/-- What `State.updSend` may change: warp. -/
theorem State.updSend_moves (s : State) (d : Send) (f : Send → Send) : Moves 0x20000000 s (State.updSend s d f) := by
  unfold State.updSend
  refine .step ?_ (State.wrp_moves ..) (by decide)
  exact .refl ..

/-- What `State.restartSends` may change: warp. -/
theorem State.restartSends_moves (s : State) : Moves 0x20000000 s (State.restartSends s) := by
  unfold State.restartSends
  refine Moves.foldl ?_ ?_
  refine .step ?_ (State.wrp_moves ..) (by decide)
  exact .refl ..
  intro u2_0 u2_1
  refine .step ?_ (State.sendFrags_moves ..) (by decide)
  exact .refl ..

/-- What `State.answer` may change: warp. -/
theorem State.answer_moves (s : State) (k : ℕ) (src : ℕ) (xid : ℕ) : Moves 0x20000000 s (State.answer s k src xid) := by
  unfold State.answer
  refine .step ?_ (State.queueFrame_moves ..) (by decide)
  exact .refl ..

/-- What `State.messageIn` may change: warp, crerus. -/
theorem State.messageIn_moves (s : State) (src : ℕ) (xid : ℕ) (b : List ℕ) : Moves 0x60000000 s (State.messageIn s src xid b) := by
  unfold State.messageIn
  apply Moves.ite
  split
  exact .refl ..
  apply Moves.ite
  refine .step ?_ (State.endSend_moves ..) (by decide)
  exact .refl ..
  refine .step ?_ (State.endSend_moves ..) (by decide)
  exact .refl ..
  refine .step ?_ (State.upd_crerus_moves ..) (by decide)
  exact .refl ..

/-- What `State.lastIn` may change: warp, crerus. -/
theorem State.lastIn_moves (s : State) (r : Reasm) : Moves 0x60000000 s (State.lastIn s r) := by
  unfold State.lastIn
  apply Moves.ite
  refine .step ?_ (State.wrp_moves ..) (by decide)
  exact .refl ..
  refine .step ?_ (State.messageIn_moves ..) (by decide)
  refine .step ?_ (State.answer_moves ..) (by decide)
  refine .step ?_ (State.wrp_moves ..) (by decide)
  exact .refl ..

/-- What `State.dataIn` may change: warp, crerus, pwr; registers of PD 0. -/
theorem State.dataIn_moves (s : State) (first : Bool) (last : Bool) (src : ℕ) (xid : ℕ) (frag : ℕ) (data : List ℕ) : Moves 0x404060000000 s (State.dataIn s first last src xid frag data) := by
  unfold State.dataIn
  apply Moves.ite
  refine .step ?_ (State.answer_moves ..) (by decide)
  exact .refl ..
  apply Moves.ite
  refine .step ?_ (State.wake_moves ..) (by decide)
  refine .step ?_ (State.answer_moves ..) (by decide)
  exact .refl ..
  apply Moves.ite
  refine .step ?_ (State.answer_moves ..) (by decide)
  exact .refl ..
  apply Moves.ite
  apply Moves.ite
  refine .step ?_ (State.answer_moves ..) (by decide)
  exact .refl ..
  apply Moves.ite
  refine .step ?_ (State.lastIn_moves ..) (by decide)
  refine .step ?_ (State.wrp_moves ..) (by decide)
  exact .refl ..
  refine .step ?_ (State.wrp_moves ..) (by decide)
  exact .refl ..
  split
  exact .refl ..
  apply Moves.ite
  refine .step ?_ (State.lastIn_moves ..) (by decide)
  refine .step ?_ (State.wrp_moves ..) (by decide)
  exact .refl ..
  refine .step ?_ (State.wrp_moves ..) (by decide)
  exact .refl ..

/-- What `State.msgIn` may change: warp; registers of PD 9. -/
theorem State.msgIn_moves {K : Nat} (s : State) (mpass : Bool) (dst : ℕ) (src : ℕ) (out : Bool → Frame) (take : State → State) (back : State → State) (htake : ∀ x0, Moves K x0 (take x0)) (hback : ∀ x0, Moves K x0 (back x0)) (e : 0x80000020000000 ||| K = K) : Moves K s (State.msgIn s mpass dst src out take back) := by
  unfold State.msgIn
  apply Moves.ite
  refine .step ?_ (State.pass_moves ..) (sub_of (by decide) e)
  refine .trans ?_ (htake ..)
  exact .refl ..
  apply Moves.ite
  refine .step ?_ (State.pass_moves ..) (sub_of (by decide) e)
  refine .trans ?_ (hback ..)
  exact .refl ..
  apply Moves.ite
  apply Moves.ite
  refine .step ?_ (State.inc_moves (d := 9) rfl) (sub_of (by decide) e)
  exact .refl ..
  refine .step ?_ (State.pass_moves ..) (sub_of (by decide) e)
  exact .refl ..
  refine .step ?_ (State.pass_moves ..) (sub_of (by decide) e)
  exact .refl ..

end Sys2Proof.Machine
end

