-- ==== Sys2Proof/Laws/MovesCrerusOps.lean ====
section
/-!
SUPPORT. What each function of Machine/CrerusOps.lean may change.
-/

namespace Sys2Proof.Machine

/-- What `State.putHost` may change: mem; registers of PD 10. -/
theorem State.putHost_moves (s : State) (n : ℕ) (m : List ℕ) : Moves 0x100200000000000 s (State.putHost s n m) := by
  unfold State.putHost
  refine .step ?_ (State.setMb_moves ..) (by decide)
  refine .step ?_ (State.wrBytes_moves ..) (by decide)
  exact .refl ..

/-- What `State.putLocal` may change: icu, mem; registers of PD 1, 6. -/
theorem State.putLocal_moves (s : State) (b : ℕ) (m : List ℕ) (reply : Bool) : Moves 0x10a00000000020 s (State.putLocal s b m reply) := by
  unfold State.putLocal
  refine .step ?_ (State.raise_moves ..) (by decide)
  refine .step ?_ (State.set_moves (d := 1) rfl) (by decide)
  refine .step ?_ (State.wrBytes_moves ..) (by decide)
  exact .refl ..

/-- What `State.replyLocal` may change: icu, wld, mem; registers of PD 1, 6. -/
theorem State.replyLocal_moves (s : State) (b : ℕ) (m : List ℕ) : Moves 0x10a00004000020 s (State.replyLocal s b m) := by
  unfold State.replyLocal
  apply Moves.ite
  refine .step ?_ (State.wipeMb_moves ..) (by decide)
  refine .step ?_ (State.upd_wld_moves ..) (by decide)
  refine .step ?_ (State.putLocal_moves ..) (by decide)
  exact .refl ..
  refine .step ?_ (State.putLocal_moves ..) (by decide)
  exact .refl ..

/-- What `State.answerJob` may change: icu, wld, warp, mem; registers of PD 0, 1, 6, 10. -/
theorem State.answerJob_moves (s : State) (j : Job) (status : ℕ) (pay : List ℕ) : Moves 0x110e00024000020 s (State.answerJob s j status pay) := by
  unfold State.answerJob
  split
  apply Moves.ite
  refine .step ?_ (State.putHost_moves ..) (by decide)
  exact .refl ..
  refine .step ?_ (State.inc_moves (d := 0) rfl) (by decide)
  exact .refl ..
  apply Moves.ite
  refine .step ?_ (State.replyLocal_moves ..) (by decide)
  exact .refl ..
  refine .step ?_ (State.inc_moves (d := 0) rfl) (by decide)
  exact .refl ..
  apply Moves.ite
  refine .step ?_ (State.openSend_moves ..) (by decide)
  exact .refl ..
  refine .step ?_ (State.inc_moves (d := 0) rfl) (by decide)
  exact .refl ..

/-- What `State.dropJob` may change: crerus. -/
theorem State.dropJob_moves (s : State) (j : Job) : Moves 0x40000000 s (State.dropJob s j) := by
  unfold State.dropJob
  refine .step ?_ (State.upd_crerus_moves ..) (by decide)
  exact .refl ..

/-- What `State.finish` may change: icu, wld, warp, crerus, mem; registers of PD 0, 1, 6, 10. -/
theorem State.finish_moves (s : State) (j : Job) (status : ℕ) (pay : List ℕ) : Moves 0x110e00064000020 s (State.finish s j status pay) := by
  unfold State.finish
  refine .step ?_ (State.answerJob_moves ..) (by decide)
  refine .step ?_ (State.dropJob_moves ..) (by decide)
  exact .refl ..

/-- What `State.suspend` may change: crerus. -/
theorem State.suspend_moves (s : State) (j : Job) (w : JobWait) : Moves 0x40000000 s (State.suspend s j w) := by
  unfold State.suspend
  refine .step ?_ (State.upd_crerus_moves ..) (by decide)
  refine .step ?_ (State.dropJob_moves ..) (by decide)
  exact .refl ..

/-- What `State.serve` may change: nothing. -/
theorem State.serve_moves {K : Nat} (s : State) (p : Job → Bool) (f : State → Job → State) (hf : ∀ x0 x1, Moves K x0 (f x0 x1)) (_e : 0x0 ||| K = K) : Moves K s (State.serve s p f) := by
  unfold State.serve
  split
  refine .trans ?_ (hf ..)
  exact .refl ..
  exact .refl ..

/-- What `State.withFlash` may change: crerus. -/
theorem State.withFlash_moves {K : Nat} (s : State) (j : Job) (f : State → State) (hf : ∀ x0, Moves K x0 (f x0)) (e : 0x40000000 ||| K = K) : Moves K s (State.withFlash s j f) := by
  unfold State.withFlash
  apply Moves.ite
  refine .trans ?_ (hf ..)
  exact .refl ..
  refine .step ?_ (State.suspend_moves ..) (sub_of (by decide) e)
  exact .refl ..

/-- What `State.withEngine` may change: icu, wld, warp, crerus, mem; registers of PD 0, 1, 6, 10. -/
theorem State.withEngine_moves {K : Nat} (s : State) (j : Job) (f : State → State) (hf : ∀ x0, Moves K x0 (f x0)) (e : 0x110e00064000020 ||| K = K) : Moves K s (State.withEngine s j f) := by
  unfold State.withEngine
  apply Moves.ite
  refine .step ?_ (State.finish_moves ..) (sub_of (by decide) e)
  exact .refl ..
  apply Moves.ite
  refine .trans ?_ (hf ..)
  exact .refl ..
  refine .step ?_ (State.suspend_moves ..) (sub_of (by decide) e)
  exact .refl ..

end Sys2Proof.Machine
end

