-- ==== Sys2Proof/Laws/MovesDmaOps.lean ====
section
/-!
SUPPORT. What each function of Machine/DmaOps.lean may change.
-/

namespace Sys2Proof.Machine

/-- What `State.updDma` may change: dma. -/
theorem State.updDma_moves (s : State) (c : ℕ) (f : Dma → Dma) : Moves 0x200000 s (State.updDma s c f) := by
  unfold State.updDma
  refine .step ?_ (State.upd_dma_moves ..) (by decide)
  exact .refl ..

/-- What `State.dmaAsk` may change: dma; registers of PD 8. -/
theorem State.dmaAsk_moves (s : State) (c : ℕ) (a : ℕ) : Moves 0x40000000200000 s (State.dmaAsk s c a) := by
  unfold State.dmaAsk
  refine .step ?_ (State.updDma_moves ..) (by decide)
  refine .step ?_ (State.set_moves (d := 8) rfl) (by decide)
  refine .step ?_ (State.set_moves (d := 8) rfl) (by decide)
  exact .refl ..

/-- What `State.dmaDisable` may change: free, dma; registers of PD 8. -/
theorem State.dmaDisable_moves (s : State) (c : ℕ) : Moves 0x40000000200001 s (State.dmaDisable s c) := by
  unfold State.dmaDisable
  refine .step ?_ (State.updDma_moves ..) (by decide)
  refine .step ?_ (State.set_moves (d := 8) rfl) (by decide)
  refine .step ?_ (State.set_moves (d := 8) rfl) (by decide)
  refine .step ?_ (State.set_moves (d := 8) rfl) (by decide)
  refine .step ?_ (State.set_moves (d := 8) rfl) (by decide)
  refine .step ?_ (State.upd_free_moves ..) (by decide)
  refine .step ?_ (State.upd_free_moves ..) (by decide)
  refine .step ?_ (State.upd_free_moves ..) (by decide)
  refine .step ?_ (State.set_moves (d := 8) rfl) (by decide)
  refine .step ?_ (State.set_moves (d := 8) rfl) (by decide)
  refine .step ?_ (State.set_moves (d := 8) rfl) (by decide)
  apply Moves.ite
  refine .step ?_ (State.set_moves (d := 8) rfl) (by decide)
  exact .refl ..
  exact .refl ..

/-- What `State.dmaSoft` may change: dma; registers of PD 8. -/
theorem State.dmaSoft_moves (s : State) (c : ℕ) : Moves 0x40000000200000 s (State.dmaSoft s c) := by
  unfold State.dmaSoft
  apply Moves.ite
  refine .step ?_ (State.dmaTrigger_moves ..) (by decide)
  exact .refl ..
  apply Moves.ite
  refine .step ?_ (State.dmaAsk_moves ..) (by decide)
  exact .refl ..
  exact .refl ..

/-- What `State.writeDmaCtrl` may change: free, resp, frozen, icu, dma, vrec; registers of PD 0, 1, 2, 3, 4, 5, 6, 7, 8, 9, 10, 11, 12. -/
theorem State.writeDmaCtrl_moves (s : State) (q : Who) (c : ℕ) (v : ℕ) : Moves 0x7ffc00010200027 s (State.writeDmaCtrl s q c v) := by
  unfold State.writeDmaCtrl
  apply Moves.ite
  apply Moves.ite
  refine .step ?_ (State.dmaDisable_moves ..) (by decide)
  refine .step ?_ (State.set_moves (d := 8) rfl) (by decide)
  refine .step ?_ (State.writeReg_moves ..) (by decide)
  exact .refl ..
  refine .step ?_ (State.set_moves (d := 8) rfl) (by decide)
  refine .step ?_ (State.writeReg_moves ..) (by decide)
  exact .refl ..
  apply Moves.ite
  apply Moves.ite
  refine .step ?_ (State.dmaSoft_moves ..) (by decide)
  refine .step ?_ (State.set_moves (d := 8) rfl) (by decide)
  refine .step ?_ (State.setB_moves (d := 8) rfl) (by decide)
  refine .step ?_ (State.set_moves (d := 8) rfl) (by decide)
  refine .step ?_ (State.writeReg_moves ..) (by decide)
  exact .refl ..
  refine .step ?_ (State.set_moves (d := 8) rfl) (by decide)
  refine .step ?_ (State.setB_moves (d := 8) rfl) (by decide)
  refine .step ?_ (State.set_moves (d := 8) rfl) (by decide)
  refine .step ?_ (State.writeReg_moves ..) (by decide)
  exact .refl ..
  apply Moves.ite
  refine .step ?_ (State.dmaAsk_moves ..) (by decide)
  refine .step ?_ (State.set_moves (d := 8) rfl) (by decide)
  refine .step ?_ (State.writeReg_moves ..) (by decide)
  exact .refl ..
  apply Moves.ite
  refine .step ?_ (State.dmaSoft_moves ..) (by decide)
  refine .step ?_ (State.set_moves (d := 8) rfl) (by decide)
  refine .step ?_ (State.writeReg_moves ..) (by decide)
  exact .refl ..
  refine .step ?_ (State.set_moves (d := 8) rfl) (by decide)
  refine .step ?_ (State.writeReg_moves ..) (by decide)
  exact .refl ..

end Sys2Proof.Machine
end

