-- ==== Sys2Proof/Laws/MovesPowerRows.lean ====
section
/-!
SUPPORT. What each function of Machine/PowerRows.lean may change.
-/

namespace Sys2Proof.Machine

/-- What `State.forceStop` may change: core. -/
theorem State.forceStop_moves (s : State) (c : ℕ) : Moves 0x1000000 s (State.forceStop s c) := by
  unfold State.forceStop
  apply Moves.ite
  refine .step ?_ (State.updCore_moves ..) (by decide)
  exact .refl ..
  exact .refl ..

/-- What `State.sleepLoom` may change: time, cmp, pwm, pad, loomCfg, tmr; registers of PD 6, 7. -/
theorem State.sleepLoom_moves (s : State) : Moves 0x30000000134110 s (State.sleepLoom s) := by
  unfold State.sleepLoom
  refine .step ?_ (State.upd_loomCfg_moves ..) (by decide)
  refine .step ?_ (State.timersDown_moves ..) (by decide)
  refine Moves.foldl ?_ ?_
  refine Moves.foldl ?_ ?_
  refine .step ?_ (State.holdPads_moves ..) (by decide)
  exact .refl ..
  intro u3_0 u3_1
  refine .step ?_ (State.set_moves (d := 6) rfl) (by decide)
  exact .refl ..
  intro u4_0 u4_1
  refine .step ?_ (State.idleOut_moves ..) (by decide)
  refine .step ?_ (State.updPwm_moves ..) (by decide)
  exact .refl ..

/-- What `State.entryNext` may change: free, time, icu, cmp, lane, shed, hedCnt, pwm, trip, pad, loomCfg, tmr, dma, vrec, crerus, pwr; registers of PD 0, 6, 7, 8, 10. -/
theorem State.entryNext_moves (s : State) (d : ℕ) : Moves 0x17040405033f931 s (State.entryNext s d) := by
  unfold State.entryNext
  extract_lets +onlyGivenNames v3
  clear_value v3
  split
  refine .step ?_ (State.quiesce_moves ..) (by decide)
  exact .refl ..
  apply Moves.ite
  apply Moves.ite
  refine .step ?_ (State.quiesce_moves ..) (by decide)
  refine .step ?_ (State.sleepLoom_moves ..) (by decide)
  exact .refl ..
  refine .step ?_ (State.quiesce_moves ..) (by decide)
  refine .step ?_ (State.sleepLoom_moves ..) (by decide)
  exact .refl ..
  exact .refl ..
  apply Moves.ite
  refine .step ?_ (State.quiesce_moves ..) (by decide)
  exact .refl ..
  exact .refl ..
  apply Moves.ite
  refine .step ?_ (State.quiesce_moves ..) (by decide)
  exact .refl ..
  exact .refl ..
  exact .refl ..

/-- What `State.quiesced` may change: free, frozen, time, icu, adc, res, cmp, dac, rfm, lane, shed, hedCnt, pwm, trip, pad, loomCfg, gov, tmr, dma, dmaLast, core, vrec, warp, crerus, queue, jrnl, custody, pwr, xspi, uart, i2c, mem; registers of PD 0, 1, 2, 3, 4, 5, 6, 7, 8, 9, 10, 11, 12. -/
theorem State.quiesced_moves (s : State) (d : ℕ) : Moves 0x7fffc45f17bfff5 s (State.quiesced s d) := by
  unfold State.quiesced
  split
  exact .refl ..
  apply Moves.ite
  exact .refl ..
  apply Moves.ite
  refine .step ?_ (State.wakeLate_moves ..) (by decide)
  refine .step ?_ (State.entryNext_moves ..) (by decide)
  refine .step ?_ (State.goDown_moves ..) (by decide)
  exact .refl ..
  apply Moves.ite
  refine .step ?_ (State.goDown_moves ..) (by decide)
  exact .refl ..
  refine .step ?_ (State.bringUp_moves ..) (by decide)
  refine .step ?_ (State.goDown_moves ..) (by decide)
  exact .refl ..

/-- What `State.strandLost` may change: free, frozen, key, time, icu, adc, res, cmp, dac, rfm, lane, shed, hedCnt, pwm, trip, pad, loomCfg, fuseLoaded, gov, tmr, dma, dmaLast, health, core, ply, wld, seq, vrec, warp, crerus, queue, jrnl, flash, custody, lc, shadow, pwr, rst, clk, dbg, xspi, uart, i2c, mem; registers of PD 0, 1, 2, 3, 4, 5, 6, 7, 8, 9, 10, 11, 12. -/
theorem State.strandLost_moves (s : State) (k : ℕ) : Moves 0x7ffffeffffffffd s (State.strandLost s k) := by
  unfold State.strandLost
  apply Moves.ite
  apply Moves.ite
  exact .refl ..
  apply Moves.ite
  refine .step ?_ (State.resyncWindow_moves ..) (by decide)
  refine .step ?_ (State.plyFault_moves ..) (by decide)
  exact .refl ..
  apply Moves.ite
  refine .step ?_ (State.resyncWindow_moves ..) (by decide)
  refine .step ?_ (State.plyFault_moves ..) (by decide)
  exact .refl ..
  refine .step ?_ (State.advise_moves ..) (by decide)
  refine .step ?_ (State.set_moves (d := 0) rfl) (by decide)
  refine .step ?_ (State.set_moves (d := 0) rfl) (by decide)
  exact .refl ..
  apply Moves.ite
  refine .step ?_ (State.resyncWindow_moves ..) (by decide)
  refine .step ?_ (State.plyFault_moves ..) (by decide)
  exact .refl ..
  refine .step ?_ (State.resyncWindow_moves ..) (by decide)
  refine .step ?_ (State.plyFault_moves ..) (by decide)
  exact .refl ..

/-- What `State.lossOf` may change: free, frozen, key, time, icu, adc, res, cmp, dac, rfm, lane, shed, hedCnt, pwm, trip, pad, loomCfg, fuseLoaded, gov, tmr, dma, dmaLast, health, core, ply, wld, seq, vrec, warp, crerus, queue, jrnl, flash, custody, lc, shadow, pwr, rst, clk, dbg, xspi, uart, i2c, mem; registers of PD 0, 1, 2, 3, 4, 5, 6, 7, 8, 9, 10, 11, 12. -/
theorem State.lossOf_moves (s : State) (d : ℕ) : Moves 0x7ffffeffffffffd s (State.lossOf s d) := by
  unfold State.lossOf
  split
  refine .step ?_ (State.upd_crerus_moves ..) (by decide)
  exact .refl ..
  refine .step ?_ (State.flashStop_moves ..) (by decide)
  refine .step ?_ (State.jrnlStop_moves ..) (by decide)
  exact .refl ..
  refine .step ?_ (State.strandLost_moves ..) (by decide)
  exact .refl ..
  refine .step ?_ (State.strandLost_moves ..) (by decide)
  exact .refl ..
  refine .step ?_ (State.strandLost_moves ..) (by decide)
  exact .refl ..
  refine .step ?_ (State.holdPads_moves ..) (by decide)
  exact .refl ..
  refine .step ?_ (State.analogDown_moves ..) (by decide)
  exact .refl ..
  refine .step ?_ (State.dropBanks_moves ..) (by decide)
  exact .refl ..
  refine .step ?_ (State.engineAbort_moves ..) (by decide)
  exact .refl ..
  exact .refl ..

/-- What `State.domainLost` may change: free, frozen, key, time, icu, adc, res, cmp, dac, rfm, lane, shed, hedCnt, pwm, trip, pad, loomCfg, fuseLoaded, gov, tmr, dma, dmaLast, health, core, ply, wld, seq, vrec, warp, crerus, queue, jrnl, flash, custody, lc, shadow, pwr, rst, clk, dbg, xspi, uart, i2c, mem; registers of PD 0, 1, 2, 3, 4, 5, 6, 7, 8, 9, 10, 11. -/
theorem State.domainLost_moves (s : State) (d : ℕ) : Moves 0x7ffffeffffffffd s (State.domainLost s d) := by
  unfold State.domainLost
  refine .step ?_ (State.bypassCheck_moves ..) (by decide)
  apply Moves.ite
  refine .step ?_ (State.advise_moves ..) (by decide)
  refine .step ?_ (State.journal_moves ..) (by decide)
  refine .step ?_ (State.raise_moves ..) (by decide)
  refine .step ?_ (State.set_moves (d := 0) rfl) (by decide)
  refine .step ?_ (State.setBit_moves (d := 0) rfl) (by decide)
  refine .step ?_ (State.upd_pwr_moves ..) (by decide)
  refine .step ?_ (State.loseDomain_moves ..) (by decide)
  refine .step ?_ (State.lossOf_moves ..) (by decide)
  refine .step ?_ (State.set_moves (d := 0) (R.PWR_DOM_pd _)) (by decide)
  exact .refl ..
  refine .step ?_ (State.journal_moves ..) (by decide)
  refine .step ?_ (State.raise_moves ..) (by decide)
  refine .step ?_ (State.set_moves (d := 0) rfl) (by decide)
  refine .step ?_ (State.setBit_moves (d := 0) rfl) (by decide)
  refine .step ?_ (State.upd_pwr_moves ..) (by decide)
  refine .step ?_ (State.loseDomain_moves ..) (by decide)
  refine .step ?_ (State.lossOf_moves ..) (by decide)
  refine .step ?_ (State.set_moves (d := 0) (R.PWR_DOM_pd _)) (by decide)
  exact .refl ..

/-- What `State.loseAll` may change: free, frozen, key, time, icu, adc, res, cmp, dac, rfm, lane, shed, hedCnt, pwm, trip, pad, loomCfg, fuseLoaded, gov, tmr, dma, dmaLast, health, core, ply, wld, seq, vrec, warp, crerus, queue, jrnl, flash, custody, lc, shadow, pwr, rst, clk, dbg, xspi, uart, i2c, mem; registers of PD 0, 1, 2, 3, 4, 5, 6, 7, 8, 9, 10, 11. -/
theorem State.loseAll_moves (s : State) (set : List ℕ) : Moves 0x7ffffeffffffffd s (State.loseAll s set) := by
  unfold State.loseAll
  refine Moves.foldl ?_ ?_
  exact .refl ..
  intro u3_0 u3_1
  apply Moves.ite
  refine .step ?_ (State.domainLost_moves ..) (by decide)
  exact .refl ..
  exact .refl ..

/-- What `State.batteryLost` may change: registers of PD 0. -/
theorem State.batteryLost_moves (s : State) : Moves 0x400000000000 s (State.batteryLost s) := by
  unfold State.batteryLost
  apply Moves.ite
  refine .step ?_ (State.set_moves (d := 0) rfl) (by decide)
  exact .refl ..
  exact .refl ..

/-- What `State.restartDomain` may change: pwr; registers of PD 0. -/
theorem State.restartDomain_moves (s : State) (d : ℕ) : Moves 0x404000000000 s (State.restartDomain s d) := by
  unfold State.restartDomain
  apply Moves.ite
  refine .step ?_ (State.switchOn_moves ..) (by decide)
  apply Moves.ite
  refine .step ?_ (State.upd_pwr_moves ..) (by decide)
  refine .step ?_ (State.set_moves (d := 0) (R.PWR_DOM_pd _)) (by decide)
  exact .refl ..
  refine .step ?_ (State.set_moves (d := 0) (R.PWR_DOM_pd _)) (by decide)
  exact .refl ..
  exact .refl ..

/-- What `State.toBattery` may change: free, frozen, key, time, icu, adc, res, cmp, dac, rfm, lane, shed, hedCnt, pwm, trip, pad, loomCfg, fuseLoaded, gov, tmr, dma, dmaLast, health, core, ply, wld, seq, vrec, warp, crerus, queue, jrnl, flash, custody, lc, shadow, pwr, rst, clk, dbg, xspi, uart, i2c, mem; registers of PD 0, 1, 2, 3, 4, 5, 6, 7, 8, 9, 10, 11. -/
theorem State.toBattery_moves (s : State) : Moves 0x7ffffeffffffffd s (State.toBattery s) := by
  unfold State.toBattery
  apply Moves.ite
  exact .refl ..
  refine .step ?_ (State.upd_core_moves ..) (by decide)
  refine .step ?_ (State.wipe_moves ..) (by decide)
  refine Moves.foldl ?_ ?_
  refine .step ?_ (State.loseAll_moves ..) (by decide)
  refine .step ?_ (State.set_moves (d := 0) rfl) (by decide)
  exact .refl ..
  intro u2_0 u2_1
  refine .step ?_ (State.set_moves (d := 0) (R.PWR_DOM_pd _)) (by decide)
  exact .refl ..

/-- What `State.askOff` may change: free, time, icu, cmp, lane, shed, hedCnt, pwm, trip, pad, tmr, dma, vrec, crerus, pwr; registers of PD 0, 6, 7, 8, 10. -/
theorem State.askOff_moves (s : State) (d : ℕ) : Moves 0x17040405031f931 s (State.askOff s d) := by
  unfold State.askOff
  apply Moves.ite
  refine .step ?_ (State.quiesce_moves ..) (by decide)
  exact .refl ..
  exact .refl ..

/-- What `State.writeDomreq` may change: free, resp, frozen, time, icu, cmp, lane, shed, hedCnt, pwm, trip, pad, tmr, dma, vrec, crerus, pwr; registers of PD 0, 1, 2, 3, 4, 5, 6, 7, 8, 9, 10, 11, 12. -/
theorem State.writeDomreq_moves (s : State) (q : Who) (v : ℕ) : Moves 0x7ffc0405031f937 s (State.writeDomreq s q v) := by
  unfold State.writeDomreq
  apply Moves.ite
  refine .step ?_ (State.askOff_moves ..) (by decide)
  apply Moves.ite
  apply Moves.ite
  refine .step ?_ (State.set_moves (d := 0) rfl) (by decide)
  refine .step ?_ (State.set_moves (d := 0) rfl) (by decide)
  refine .step ?_ (State.writeReg_moves ..) (by decide)
  exact .refl ..
  refine .step ?_ (State.askOff_moves ..) (by decide)
  refine .step ?_ (State.writeReg_moves ..) (by decide)
  exact .refl ..
  apply Moves.ite
  refine .step ?_ (State.switchOn_moves ..) (by decide)
  refine .step ?_ (State.writeReg_moves ..) (by decide)
  exact .refl ..
  refine .step ?_ (State.writeReg_moves ..) (by decide)
  exact .refl ..
  apply Moves.ite
  refine .step ?_ (State.switchOn_moves ..) (by decide)
  apply Moves.ite
  apply Moves.ite
  refine .step ?_ (State.set_moves (d := 0) rfl) (by decide)
  refine .step ?_ (State.set_moves (d := 0) rfl) (by decide)
  refine .step ?_ (State.writeReg_moves ..) (by decide)
  exact .refl ..
  refine .step ?_ (State.askOff_moves ..) (by decide)
  refine .step ?_ (State.writeReg_moves ..) (by decide)
  exact .refl ..
  apply Moves.ite
  refine .step ?_ (State.switchOn_moves ..) (by decide)
  refine .step ?_ (State.writeReg_moves ..) (by decide)
  exact .refl ..
  refine .step ?_ (State.writeReg_moves ..) (by decide)
  exact .refl ..
  apply Moves.ite
  apply Moves.ite
  refine .step ?_ (State.set_moves (d := 0) rfl) (by decide)
  refine .step ?_ (State.set_moves (d := 0) rfl) (by decide)
  refine .step ?_ (State.writeReg_moves ..) (by decide)
  exact .refl ..
  refine .step ?_ (State.askOff_moves ..) (by decide)
  refine .step ?_ (State.writeReg_moves ..) (by decide)
  exact .refl ..
  apply Moves.ite
  refine .step ?_ (State.switchOn_moves ..) (by decide)
  refine .step ?_ (State.writeReg_moves ..) (by decide)
  exact .refl ..
  refine .step ?_ (State.writeReg_moves ..) (by decide)
  exact .refl ..

/-- What `State.writeSram` may change: resp, frozen, icu, vrec, mem; registers of PD 0, 1, 2, 3, 4, 5, 6, 7, 8, 9, 10, 11. -/
theorem State.writeSram_moves (s : State) (q : Who) (v : ℕ) : Moves 0x7ffe00010000026 s (State.writeSram s q v) := by
  unfold State.writeSram
  refine .step ?_ (State.dropBanks_moves ..) (by decide)
  refine .step ?_ (State.writeReg_moves ..) (by decide)
  exact .refl ..

end Sys2Proof.Machine
end

