-- ==== Sys2Proof/Laws/MovesPwmRows.lean ====
section
/-!
SUPPORT. What each function of Machine/PwmRows.lean may change.
-/

namespace Sys2Proof.Machine

/-- What `State.commitEdge` may change: pwm. -/
theorem State.commitEdge_moves (s : State) (p : ℕ) (e : PwmEdge) : Moves 0x4000 s (State.commitEdge s p e) := by
  unfold State.commitEdge
  apply Moves.ite
  exact .refl ..
  apply Moves.ite
  refine .step ?_ (State.updPwm_moves ..) (by decide)
  exact .refl ..
  apply Moves.ite
  refine .step ?_ (State.updPwm_moves ..) (by decide)
  exact .refl ..
  exact .refl ..

/-- What `State.moveRef` may change: cmp, pwm; registers of PD 7. -/
theorem State.moveRef_moves (s : State) (p : ℕ) (outB : Bool) (up : Bool) : Moves 0x20000000004100 s (State.moveRef s p outB up) := by
  unfold State.moveRef
  apply Moves.ite
  apply Moves.ite
  refine .step ?_ (State.refB_moves ..) (by decide)
  exact .refl ..
  refine .step ?_ (State.refA_moves ..) (by decide)
  exact .refl ..
  refine .step ?_ (State.updPwm_moves ..) (by decide)
  exact .refl ..

/-- What `State.compareEvent` may change: icu; registers of PD 6. -/
theorem State.compareEvent_moves (s : State) (p : ℕ) (outB : Bool) : Moves 0x10000000000020 s (State.compareEvent s p outB) := by
  unfold State.compareEvent
  apply Moves.ite
  exact .refl ..
  apply Moves.ite
  refine .step ?_ (State.raiseIf_moves ..) (by decide)
  exact .refl ..
  refine .step ?_ (State.raiseIf_moves ..) (by decide)
  exact .refl ..

/-- What `State.takeEdge` may change: icu, cmp, pwm; registers of PD 6, 7. -/
theorem State.takeEdge_moves (s : State) (p : ℕ) (e : PwmEdge) : Moves 0x30000000004120 s (State.takeEdge s p e) := by
  unfold State.takeEdge
  apply Moves.ite
  exact .refl ..
  refine .step ?_ (State.compareEvent_moves ..) (by decide)
  refine .step ?_ (State.moveRef_moves ..) (by decide)
  refine .step ?_ (State.showCount_moves ..) (by decide)
  exact .refl ..

/-- What `State.peak` may change: cmp, pwm; registers of PD 6, 7. -/
theorem State.peak_moves (s : State) (p : ℕ) : Moves 0x30000000004100 s (State.peak s p) := by
  unfold State.peak
  apply Moves.ite
  refine .step ?_ (State.set_moves (d := 6) rfl) (by decide)
  refine .step ?_ (State.set_moves (d := 6) rfl) (by decide)
  exact .refl ..
  apply Moves.ite
  refine .step ?_ (State.levelsAt_moves ..) (by decide)
  refine .step ?_ (State.updPwm_moves ..) (by decide)
  refine .step ?_ (State.placeEdges_moves ..) (by decide)
  refine .step ?_ (State.shadowIn_moves ..) (by decide)
  refine .step ?_ (State.set_moves (d := 6) rfl) (by decide)
  refine .step ?_ (State.set_moves (d := 6) rfl) (by decide)
  exact .refl ..
  refine .step ?_ (State.updPwm_moves ..) (by decide)
  refine .step ?_ (State.placeEdges_moves ..) (by decide)
  refine .step ?_ (State.shadowIn_moves ..) (by decide)
  refine .step ?_ (State.set_moves (d := 6) rfl) (by decide)
  refine .step ?_ (State.set_moves (d := 6) rfl) (by decide)
  exact .refl ..

/-- What `State.trgCompare` may change: free, icu, cmp, lane, shed, hedCnt, pwm, trip, dma, vrec, crerus; registers of PD 6, 7, 8, 10. -/
theorem State.trgCompare_moves (s : State) (p : ℕ) (t : ℕ) (down : Bool) : Moves 0x17000005020f921 s (State.trgCompare s p t down) := by
  unfold State.trgCompare
  apply Moves.ite
  exact .refl ..
  refine .step ?_ (State.fire_moves ..) (by decide)
  refine .step ?_ (State.setB_moves (d := 6) rfl) (by decide)
  refine .step ?_ (State.set_moves (d := 6) rfl) (by decide)
  exact .refl ..

/-- What `State.writePwmVal` may change: resp, frozen, icu, pwm, vrec; registers of PD 0, 1, 2, 3, 4, 5, 6, 7, 8, 9, 10, 11, 12. -/
theorem State.writePwmVal_moves (s : State) (q : Who) (p : ℕ) (r : PwmReg) (v : ℕ) (n : Option ℕ) : Moves 0x7ffc00010004026 s (State.writePwmVal s q p r v n) := by
  unfold State.writePwmVal
  apply Moves.ite
  refine Moves.foldl ?_ ?_
  refine .step ?_ (State.updPwm_moves ..) (by decide)
  refine .step ?_ (State.writeReg_moves ..) (by decide)
  exact .refl ..
  intro u3_0 u3_1
  refine .step ?_ (State.writeField_moves ..) (by decide)
  exact .refl ..
  extract_lets +onlyGivenNames v4
  clear_value v4
  split
  refine Moves.foldl ?_ ?_
  refine Moves.foldl ?_ ?_
  refine .step ?_ (State.updPwm_moves ..) (by decide)
  refine .step ?_ (State.writeReg_moves ..) (by decide)
  exact .refl ..
  intro u5_0 u5_1
  refine .step ?_ (State.writeField_moves ..) (by decide)
  exact .refl ..
  intro u6_0 u6_1
  refine .step ?_ (State.guardLoad_moves ..) (by decide)
  exact .refl ..
  refine .step ?_ (State.updPwm_moves ..) (by decide)
  refine Moves.foldl ?_ ?_
  refine .step ?_ (State.updPwm_moves ..) (by decide)
  refine .step ?_ (State.writeReg_moves ..) (by decide)
  exact .refl ..
  intro u7_0 u7_1
  refine .step ?_ (State.writeField_moves ..) (by decide)
  exact .refl ..

/-- What `State.readPwmCnt` may change: free, resp. -/
theorem State.readPwmCnt_moves (s : State) (q : Req) (p : ℕ) : Moves 0x3 s (State.readPwmCnt s q p) := by
  unfold State.readPwmCnt
  apply Moves.ite
  refine .step ?_ (State.reply_moves ..) (by decide)
  refine .step ?_ (State.freeN_moves ..) (by decide)
  exact .refl ..
  refine .step ?_ (State.reply_moves ..) (by decide)
  exact .refl ..

/-- What `State.loadNext` may change: pwm; registers of PD 6. -/
theorem State.loadNext_moves (s : State) (p : ℕ) (n : ℕ) : Moves 0x10000000004000 s (State.loadNext s p n) := by
  unfold State.loadNext
  split
  exact .refl ..
  refine .step ?_ (State.guardLoad_moves ..) (by decide)
  refine .step ?_ (State.updPwm_moves ..) (by decide)
  exact .refl ..

/-- What `State.writePwmSafe` may change: resp, frozen, icu, vrec; registers of PD 0, 1, 2, 3, 4, 5, 6, 7, 8, 9, 10, 11. -/
theorem State.writePwmSafe_moves (s : State) (q : Who) (p : ℕ) (v : ℕ) : Moves 0x7ffc00010000026 s (State.writePwmSafe s q p v) := by
  unfold State.writePwmSafe
  refine .step ?_ (State.set_moves (d := 6) rfl) (by decide)
  refine .step ?_ (State.set_moves (d := 6) rfl) (by decide)
  refine .step ?_ (State.writeReg_moves ..) (by decide)
  exact .refl ..

/-- What `State.tzInput` may change: free, icu, cmp, pwm, trip; registers of PD 6, 7. -/
theorem State.tzInput_moves (s : State) (t : ℕ) (lvl : Bool) (ps : ℕ) : Moves 0x3000000000c121 s (State.tzInput s t lvl ps).1 := by
  unfold State.tzInput
  apply Moves.ite1
  apply Moves.ite1
  dsimp only
  exact .refl ..
  split
  apply Moves.ite1
  refine .step ?_ (State.judgeTrips_moves ..) (by decide)
  refine .step ?_ (State.upd_trip_moves ..) (by decide)
  refine Moves.snd ?_ (by assumption)
  apply Moves.ite2
  refine .step ?_ (State.freeB_moves ..) (by decide)
  exact .refl ..
  dsimp only
  exact .refl ..
  dsimp only
  refine Moves.snd ?_ (by assumption)
  apply Moves.ite2
  refine .step ?_ (State.freeB_moves ..) (by decide)
  exact .refl ..
  dsimp only
  exact .refl ..
  dsimp only
  refine .step ?_ (State.upd_trip_moves ..) (by decide)
  exact .refl ..

/-- What `State.tzAgain` may change: trip. -/
theorem State.tzAgain_moves (s : State) : Moves 0x8000 s (State.tzAgain s) := by
  unfold State.tzAgain
  refine .step ?_ (State.upd_trip_moves ..) (by decide)
  exact .refl ..

/-- What `State.writeTrip` may change: free, resp, frozen, icu, cmp, lane, shed, hedCnt, pwm, trip, dma, vrec, crerus; registers of PD 0, 1, 2, 3, 4, 5, 6, 7, 8, 9, 10, 11, 12. -/
theorem State.writeTrip_moves (s : State) (q : Who) (a : ℕ) (v : ℕ) : Moves 0x7ffc0005020f927 s (State.writeTrip s q a v) := by
  unfold State.writeTrip
  refine fireAll_moves ?_ (by decide)
  refine .step ?_ (State.judgeTrips_moves ..) (by decide)
  refine .step ?_ (State.tzAgain_moves ..) (by decide)
  refine .step ?_ (State.writeReg_moves ..) (by decide)
  exact .refl ..

/-- What `State.softTrip` may change: free, icu, cmp, lane, shed, hedCnt, pwm, trip, dma, vrec, crerus; registers of PD 6, 7, 8, 10. -/
theorem State.softTrip_moves (s : State) (setm : ℕ) (clrm : ℕ) : Moves 0x17000005020f921 s (State.softTrip s setm clrm) := by
  unfold State.softTrip
  refine fireAll_moves ?_ (by decide)
  refine .step ?_ (State.judgeTrips_moves ..) (by decide)
  refine .step ?_ (State.upd_trip_moves ..) (by decide)
  exact .refl ..

/-- What `State.clearTrip` may change: pwm. -/
theorem State.clearTrip_moves (s : State) (p : ℕ) : Moves 0x4000 s (State.clearTrip s p) := by
  unfold State.clearTrip
  apply Moves.ite
  refine .step ?_ (State.updPwm_moves ..) (by decide)
  exact .refl ..
  exact .refl ..

end Sys2Proof.Machine
end

