-- ==== Sys2Proof/Laws/MovesWarpRows.lean ====
section
/-!
SUPPORT. What each function of Machine/WarpRows.lean may change.
-/

namespace Sys2Proof.Machine

/-- What `State.lockTime` may change: registers of PD 9. -/
theorem State.lockTime_moves (s : State) : Moves 0x80000000000000 s (State.lockTime s) := by
  unfold State.lockTime
  refine .step ?_ (State.setB_moves (d := 9) rfl) (by decide)
  exact .refl ..

/-- What `State.timeEvent` may change: warp. -/
theorem State.timeEvent_moves (s : State) (tb : BitVec 64) : Moves 0x20000000 s (State.timeEvent s tb) := by
  unfold State.timeEvent
  apply Moves.ite
  refine .step ?_ (State.wrp_moves ..) (by decide)
  exact .refl ..
  exact .refl ..

/-- What `State.timeMember` may change: warp; registers of PD 9. -/
theorem State.timeMember_moves (s : State) (tb : BitVec 64) (m : ℕ) (err : ℤ) : Moves 0x80000020000000 s (State.timeMember s tb m err) := by
  unfold State.timeMember
  apply Moves.ite
  exact .refl ..
  refine .step ?_ (State.timeEvent_moves ..) (by decide)
  refine .step ?_ (State.lockTime_moves ..) (by decide)
  apply Moves.ite
  refine .step ?_ (State.inc_moves (d := 9) rfl) (by decide)
  refine .step ?_ (State.wrp_moves ..) (by decide)
  refine .step ?_ (State.sets_moves (d := 9) rfl) (by decide)
  exact .refl ..
  refine .step ?_ (State.wrp_moves ..) (by decide)
  refine .step ?_ (State.sets_moves (d := 9) rfl) (by decide)
  exact .refl ..

/-- What `State.timeBack` may change: free, icu, warp, custody; registers of PD 6, 9. -/
theorem State.timeBack_moves (s : State) (tb : BitVec 64) : Moves 0x90000420000021 s (State.timeBack s tb) := by
  unfold State.timeBack
  apply Moves.ite
  refine .step ?_ (State.startEnum_moves ..) (by decide)
  refine .step ?_ (State.set_moves (d := 9) rfl) (by decide)
  apply Moves.ite
  refine .step ?_ (State.endCal_moves ..) (by decide)
  refine .step ?_ (State.timeEvent_moves ..) (by decide)
  refine .step ?_ (State.set_moves (d := 9) rfl) (by decide)
  exact .refl ..
  refine .step ?_ (State.timeEvent_moves ..) (by decide)
  refine .step ?_ (State.set_moves (d := 9) rfl) (by decide)
  exact .refl ..
  apply Moves.ite
  refine .step ?_ (State.endCal_moves ..) (by decide)
  refine .step ?_ (State.timeEvent_moves ..) (by decide)
  refine .step ?_ (State.set_moves (d := 9) rfl) (by decide)
  exact .refl ..
  refine .step ?_ (State.timeEvent_moves ..) (by decide)
  refine .step ?_ (State.set_moves (d := 9) rfl) (by decide)
  exact .refl ..

/-- What `State.timeIn` may change: free, icu, warp, custody; registers of PD 6, 9. -/
theorem State.timeIn_moves (s : State) (tb : BitVec 64) (m : ℕ) (err : ℤ) : Moves 0x90000420000021 s (State.timeIn s tb m err) := by
  unfold State.timeIn
  apply Moves.ite
  apply Moves.ite
  refine .step ?_ (State.timeBack_moves ..) (by decide)
  exact .refl ..
  refine .step ?_ (State.startEnum_moves ..) (by decide)
  refine .step ?_ (State.raise_moves ..) (by decide)
  refine .step ?_ (State.set_moves (d := 9) rfl) (by decide)
  exact .refl ..
  refine .step ?_ (State.pass_moves ..) (by decide)
  refine .step ?_ (State.timeMember_moves ..) (by decide)
  exact .refl ..

/-- What `State.stepIn` may change: warp. -/
theorem State.stepIn_moves (s : State) (tb : BitVec 64) : Moves 0x20000000 s (State.stepIn s tb) := by
  unfold State.stepIn
  apply Moves.ite
  exact .refl ..
  refine .step ?_ (State.pass_moves ..) (by decide)
  apply Moves.ite
  exact .refl ..
  refine .step ?_ (State.wrp_moves ..) (by decide)
  exact .refl ..

/-- What `State.timeLost` may change: icu; registers of PD 6, 9. -/
theorem State.timeLost_moves (s : State) : Moves 0x90000000000020 s (State.timeLost s) := by
  unfold State.timeLost
  apply Moves.ite
  exact .refl ..
  refine .step ?_ (State.raise_moves ..) (by decide)
  refine .step ?_ (State.set_moves (d := 9) rfl) (by decide)
  refine .step ?_ (State.set_moves (d := 9) rfl) (by decide)
  exact .refl ..

/-- What `State.gstartFrame` may change: icu, warp; registers of PD 6, 9. -/
theorem State.gstartFrame_moves (s : State) (g : Fin 16) (t : BitVec 64) : Moves 0x90000020000020 s (State.gstartFrame s g t) := by
  unfold State.gstartFrame
  apply Moves.ite
  exact .refl ..
  refine .step ?_ (State.pass_moves ..) (by decide)
  apply Moves.ite
  exact .refl ..
  refine .step ?_ (State.gstartIn_moves ..) (by decide)
  exact .refl ..

/-- What `State.takeId` may change: icu, warp; registers of PD 6, 9. -/
theorem State.takeId_moves (s : State) (old : Option ℕ) (c : ℕ) : Moves 0x90000020000020 s (State.takeId s old c) := by
  unfold State.takeId
  apply Moves.ite
  exact .refl ..
  apply Moves.ite
  refine .step ?_ (State.set_moves (d := 9) rfl) (by decide)
  refine .step ?_ (State.set_moves (d := 9) rfl) (by decide)
  exact .refl ..
  apply Moves.ite
  refine .step ?_ (State.restartSends_moves ..) (by decide)
  refine .step ?_ (State.raise_moves ..) (by decide)
  refine .step ?_ (State.set_moves (d := 9) rfl) (by decide)
  refine .step ?_ (State.wrp_moves ..) (by decide)
  refine .step ?_ (State.set_moves (d := 9) rfl) (by decide)
  refine .step ?_ (State.set_moves (d := 9) rfl) (by decide)
  refine .step ?_ (State.set_moves (d := 9) rfl) (by decide)
  exact .refl ..
  refine .step ?_ (State.wrp_moves ..) (by decide)
  refine .step ?_ (State.set_moves (d := 9) rfl) (by decide)
  refine .step ?_ (State.set_moves (d := 9) rfl) (by decide)
  refine .step ?_ (State.set_moves (d := 9) rfl) (by decide)
  exact .refl ..

/-- What `State.enumMember` may change: icu, warp; registers of PD 6, 9. -/
theorem State.enumMember_moves (s : State) (old : Option ℕ) (count : BitVec 9) (tag : BitVec 7) (dev : BitVec 48) : Moves 0x90000020000020 s (State.enumMember s old count tag dev) := by
  unfold State.enumMember
  refine .step ?_ (State.pass_moves ..) (by decide)
  refine .step ?_ (State.takeId_moves ..) (by decide)
  exact .refl ..

/-- What `State.demote` may change: warp, crerus; registers of PD 9. -/
theorem State.demote_moves (s : State) : Moves 0x80000060000000 s (State.demote s) := by
  unfold State.demote
  refine .step ?_ (State.set_moves (d := 9) rfl) (by decide)
  refine .step ?_ (State.set_moves (d := 9) rfl) (by decide)
  refine .step ?_ (State.set_moves (d := 9) rfl) (by decide)
  refine .step ?_ (State.gstartReady_moves ..) (by decide)
  refine .step ?_ (State.wrp_moves ..) (by decide)
  exact .refl ..

/-- What `State.enumBack` may change: warp; registers of PD 9. -/
theorem State.enumBack_moves (s : State) (n : ℕ) : Moves 0x80000020000000 s (State.enumBack s n) := by
  unfold State.enumBack
  refine .step ?_ (State.startCal_moves ..) (by decide)
  refine .step ?_ (State.setB_moves (d := 9) rfl) (by decide)
  refine .step ?_ (State.wrp_moves ..) (by decide)
  exact .refl ..

/-- What `State.enumIn` may change: icu, warp, crerus; registers of PD 6, 9. -/
theorem State.enumIn_moves (s : State) (count : BitVec 9) (tag : BitVec 7) (dev : BitVec 48) : Moves 0x90000060000020 s (State.enumIn s count tag dev) := by
  unfold State.enumIn
  apply Moves.ite
  apply Moves.ite
  refine .step ?_ (State.enumBack_moves ..) (by decide)
  exact .refl ..
  apply Moves.ite
  refine .step ?_ (State.enumMember_moves ..) (by decide)
  refine .step ?_ (State.demote_moves ..) (by decide)
  refine .step ?_ (State.raise_moves ..) (by decide)
  refine .step ?_ (State.set_moves (d := 9) rfl) (by decide)
  exact .refl ..
  refine .step ?_ (State.raise_moves ..) (by decide)
  refine .step ?_ (State.set_moves (d := 9) rfl) (by decide)
  exact .refl ..
  refine .step ?_ (State.enumMember_moves ..) (by decide)
  exact .refl ..

/-- What `State.measureIn` may change: free, icu, warp; registers of PD 6, 9. -/
theorem State.measureIn_moves (s : State) (num : BitVec 16) (acc : BitVec 32) (t : BitVec 32) : Moves 0x90000020000021 s (State.measureIn s num acc t) := by
  unfold State.measureIn
  apply Moves.ite
  apply Moves.ite
  refine .step ?_ (State.endCal_moves ..) (by decide)
  refine .step ?_ (State.wrp_moves ..) (by decide)
  exact .refl ..
  refine .step ?_ (State.wrp_moves ..) (by decide)
  exact .refl ..
  refine .step ?_ (State.pass_moves ..) (by decide)
  apply Moves.ite
  exact .refl ..
  refine .step ?_ (State.wrp_moves ..) (by decide)
  refine .step ?_ (State.set_moves (d := 9) rfl) (by decide)
  exact .refl ..

/-- What `State.resultIn` may change: warp; registers of PD 9. -/
theorem State.resultIn_moves (s : State) (num : BitVec 16) (lbar : BitVec 32) (n : BitVec 16) : Moves 0x80000020000000 s (State.resultIn s num lbar n) := by
  unfold State.resultIn
  apply Moves.ite
  exact .refl ..
  refine .step ?_ (State.pass_moves ..) (by decide)
  apply Moves.ite
  exact .refl ..
  apply Moves.ite
  refine .step ?_ (State.set_moves (d := 9) rfl) (by decide)
  refine .step ?_ (State.set_moves (d := 9) rfl) (by decide)
  refine .step ?_ (State.set_moves (d := 9) rfl) (by decide)
  exact .refl ..
  refine .step ?_ (State.set_moves (d := 9) rfl) (by decide)
  refine .step ?_ (State.set_moves (d := 9) rfl) (by decide)
  exact .refl ..

/-- What `State.calDue` may change: warp. -/
theorem State.calDue_moves (s : State) : Moves 0x20000000 s (State.calDue s) := by
  unfold State.calDue
  apply Moves.ite
  refine .step ?_ (State.startCal_moves ..) (by decide)
  exact .refl ..
  exact .refl ..

/-- What `State.bypassIn` may change: warp. -/
theorem State.bypassIn_moves {K : Nat} (s : State) (sub : BitVec 5) (node : BitVec 8) (f : State → State) (hf : ∀ x0, Moves K x0 (f x0)) (e : 0x20000000 ||| K = K) : Moves K s (State.bypassIn s sub node f) := by
  unfold State.bypassIn
  apply Moves.ite
  refine .trans ?_ (hf ..)
  exact .refl ..
  refine .step ?_ (State.pass_moves ..) (sub_of (by decide) e)
  exact .refl ..

/-- What `State.countBad` may change: registers of PD 9. -/
theorem State.countBad_moves (s : State) : Moves 0x80000000000000 s (State.countBad s) := by
  unfold State.countBad
  apply Moves.ite
  exact .refl ..
  refine .step ?_ (State.inc_moves (d := 9) rfl) (by decide)
  exact .refl ..

/-- What `State.crcFail` may change: icu, warp; registers of PD 6, 9. -/
theorem State.crcFail_moves (s : State) : Moves 0x90000020000020 s (State.crcFail s) := by
  unfold State.crcFail
  apply Moves.ite
  refine .step ?_ (State.raise_moves ..) (by decide)
  refine .step ?_ (State.wrp_moves ..) (by decide)
  refine .step ?_ (State.pass_moves ..) (by decide)
  refine .step ?_ (State.countBad_moves ..) (by decide)
  exact .refl ..
  refine .step ?_ (State.wrp_moves ..) (by decide)
  refine .step ?_ (State.pass_moves ..) (by decide)
  refine .step ?_ (State.countBad_moves ..) (by decide)
  exact .refl ..

/-- What `State.slotLoad` may change: pwm; registers of PD 6, 9. -/
theorem State.slotLoad_moves (s : State) : Moves 0x90000000004000 s (State.slotLoad s) := by
  unfold State.slotLoad
  apply Moves.ite
  refine .step ?_ (State.set_moves (d := 9) rfl) (by decide)
  exact .refl ..
  refine .step ?_ (State.set_moves (d := 9) rfl) (by decide)
  refine Moves.foldl ?_ ?_
  exact .refl ..
  intro u2_0 u2_1
  refine .step ?_ (State.writePhase_moves ..) (by decide)
  refine .step ?_ (State.updPwm_moves ..) (by decide)
  exact .refl ..

/-- What `State.writeWarpSlot` may change: resp, frozen, icu, pwm, vrec; registers of PD 0, 1, 2, 3, 4, 5, 6, 7, 8, 9, 10, 11. -/
theorem State.writeWarpSlot_moves (s : State) (q : Who) (v : ℕ) : Moves 0x7ffc00010004026 s (State.writeWarpSlot s q v) := by
  unfold State.writeWarpSlot
  apply Moves.ite
  refine .step ?_ (State.slotLoad_moves ..) (by decide)
  refine .step ?_ (State.set_moves (d := 9) rfl) (by decide)
  refine .step ?_ (State.writeReg_moves ..) (by decide)
  exact .refl ..
  refine .step ?_ (State.set_moves (d := 9) rfl) (by decide)
  refine .step ?_ (State.writeReg_moves ..) (by decide)
  exact .refl ..

end Sys2Proof.Machine
end

