-- ==== Sys2Proof/Laws/MovesIoBus.lean ====
section
/-!
SUPPORT. What each function of Machine/IoBus.lean may change.
-/

namespace Sys2Proof.Machine

/-- What `State.putSys` may change: free, resp, frozen, key, time, icu, adc, res, cmp, dac, rfm, lane, shed, hedCnt, pwm, trip, pad, loomCfg, fuseLoaded, gov, tmr, dma, dmaLast, core, ply, wld, seq, vrec, warp, crerus, queue, jrnl, flash, custody, lc, shadow, pwr, rst, clk, dbg, xspi, uart, i2c, mem; registers of PD 0, 1, 2, 3, 4, 5, 6, 7, 8, 9, 10, 11, 12. -/
theorem State.putSys_moves (s : State) (q : Who) (a : ℕ) (v : ℕ) : Moves 0x7ffffefff7fffff s (State.putSys s q a v) := by
  unfold State.putSys
  split
  refine .step ?_ (State.keyWrite_moves ..) (by decide)
  exact .refl ..
  refine .step ?_ (State.writeLockcfg_moves ..) (by decide)
  exact .refl ..
  refine .step ?_ (State.writeClkWin_moves ..) (by decide)
  exact .refl ..
  refine .step ?_ (State.writeDomreq_moves ..) (by decide)
  exact .refl ..
  refine .step ?_ (State.writeSram_moves ..) (by decide)
  exact .refl ..
  apply Moves.ite
  refine .step ?_ (State.askReset_moves ..) (by decide)
  exact .refl ..
  exact .refl ..
  refine .step ?_ (State.writeReg_moves ..) (by decide)
  exact .refl ..

/-- What `State.putIcu` may change: resp, frozen, icu, vrec; registers of PD 0, 1, 2, 3, 4, 5, 6, 7, 8, 9, 10, 11, 12. -/
theorem State.putIcu_moves (s : State) (q : Who) (a : ℕ) (v : ℕ) : Moves 0x7ffc00010000026 s (State.putIcu s q a v) := by
  unfold State.putIcu
  apply Moves.ite
  refine .step ?_ (State.writeIcuSrc_moves ..) (by decide)
  exact .refl ..
  apply Moves.ite
  refine .step ?_ (State.writeIcuGrp_moves ..) (by decide)
  exact .refl ..
  apply Moves.ite
  refine .step ?_ (State.writeIcuSts_moves ..) (by decide)
  exact .refl ..
  apply Moves.ite
  refine .step ?_ (State.sgiSet_moves ..) (by decide)
  exact .refl ..
  refine .trans ?_ (State.icuChange_moves _ _ ?_ (by decide))
  exact .refl ..
  intro u3_0
  refine .step ?_ (State.writeReg_moves ..) (by decide)
  exact .refl ..

/-- What `State.putTmr` may change: free, resp, frozen, time, icu, cmp, lane, shed, hedCnt, pwm, trip, tmr, dma, vrec, crerus; registers of PD 0, 1, 2, 3, 4, 5, 6, 7, 8, 9, 10, 11, 12. -/
theorem State.putTmr_moves (s : State) (q : Who) (a : ℕ) (v : ℕ) : Moves 0x7ffc0005030f937 s (State.putTmr s q a v) := by
  unfold State.putTmr
  apply Moves.ite
  extract_lets +onlyGivenNames v3
  clear_value v3
  split
  refine .step ?_ (State.writeTmrCtrl_moves ..) (by decide)
  exact .refl ..
  refine .step ?_ (State.writeTmrCnt_moves ..) (by decide)
  exact .refl ..
  refine .step ?_ (State.writeTmrVal_moves ..) (by decide)
  exact .refl ..
  refine .step ?_ (State.writeTmrVal_moves ..) (by decide)
  exact .refl ..
  refine .step ?_ (State.writeTmrVal_moves ..) (by decide)
  exact .refl ..
  refine .step ?_ (State.writeTmrVal_moves ..) (by decide)
  exact .refl ..
  refine .step ?_ (State.writeTmrPin_moves ..) (by decide)
  exact .refl ..
  refine .step ?_ (State.writeReg_moves ..) (by decide)
  exact .refl ..
  apply Moves.ite
  refine .step ?_ (State.writeGstart_moves ..) (by decide)
  exact .refl ..
  apply Moves.ite
  refine .step ?_ (State.putLatch_moves ..) (by decide)
  exact .refl ..
  apply Moves.ite
  refine .step ?_ (State.commitWide_moves ..) (by decide)
  exact .refl ..
  apply Moves.ite
  refine .step ?_ (State.writeStg_moves ..) (by decide)
  exact .refl ..
  refine .step ?_ (State.writeReg_moves ..) (by decide)
  exact .refl ..

/-- What `State.putHed` may change: free, resp, frozen, icu, cmp, lane, shed, hedCnt, pwm, trip, dma, vrec, crerus; registers of PD 0, 1, 2, 3, 4, 5, 6, 7, 8, 9, 10, 11, 12. -/
theorem State.putHed_moves (s : State) (q : Who) (a : ℕ) (v : ℕ) : Moves 0x7ffc0005020f927 s (State.putHed s q a v) := by
  unfold State.putHed
  apply Moves.ite
  refine .step ?_ (State.writeHedDst_moves ..) (by decide)
  exact .refl ..
  apply Moves.ite
  refine .step ?_ (State.strobe_moves ..) (by decide)
  exact .refl ..
  apply Moves.ite
  refine .step ?_ (State.writeShedCfg_moves ..) (by decide)
  exact .refl ..
  refine .step ?_ (State.writeReg_moves ..) (by decide)
  exact .refl ..

/-- What `State.putPwm` may change: free, resp, frozen, icu, cmp, lane, shed, hedCnt, pwm, trip, dma, vrec, crerus; registers of PD 0, 1, 2, 3, 4, 5, 6, 7, 8, 9, 10, 11, 12. -/
theorem State.putPwm_moves (s : State) (q : Who) (a : ℕ) (v : ℕ) : Moves 0x7ffc0005020f927 s (State.putPwm s q a v) := by
  unfold State.putPwm
  extract_lets +onlyGivenNames v3
  clear_value v3
  extract_lets +onlyGivenNames v4
  clear_value v4
  split
  refine .step ?_ (State.writePwmVal_moves ..) (by decide)
  exact .refl ..
  apply Moves.ite
  refine fireAll_moves ?_ (by decide)
  refine .step ?_ (State.writePwmCtrl_moves ..) (by decide)
  exact .refl ..
  apply Moves.ite
  refine .step ?_ (State.writePwmSafe_moves ..) (by decide)
  exact .refl ..
  refine .step ?_ (State.writeReg_moves ..) (by decide)
  exact .refl ..

/-- What `State.putTrp` may change: free, resp, frozen, icu, cmp, lane, shed, hedCnt, pwm, trip, dma, vrec, crerus; registers of PD 0, 1, 2, 3, 4, 5, 6, 7, 8, 9, 10, 11, 12. -/
theorem State.putTrp_moves (s : State) (q : Who) (a : ℕ) (v : ℕ) : Moves 0x7ffc0005020f927 s (State.putTrp s q a v) := by
  unfold State.putTrp
  apply Moves.ite
  apply Moves.ite
  refine .step ?_ (State.clearTrip_moves ..) (by decide)
  exact .refl ..
  exact .refl ..
  apply Moves.ite
  refine .step ?_ (State.softTrip_moves ..) (by decide)
  exact .refl ..
  refine .step ?_ (State.writeTrip_moves ..) (by decide)
  exact .refl ..

/-- What `State.putLn` may change: free, resp, frozen, icu, cmp, lane, shed, hedCnt, pwm, trip, gov, dma, vrec, crerus; registers of PD 0, 1, 2, 3, 4, 5, 6, 7, 8, 9, 10, 11, 12. -/
theorem State.putLn_moves (s : State) (q : Who) (a : ℕ) (v : ℕ) : Moves 0x7ffc0005028f927 s (State.putLn s q a v) := by
  unfold State.putLn
  extract_lets +onlyGivenNames v3
  clear_value v3
  split
  refine .step ?_ (State.writeLaneCtrl_moves ..) (by decide)
  exact .refl ..
  refine fireAll_moves ?_ (by decide)
  refine .step ?_ (State.missCheck_moves ..) (by decide)
  refine .step ?_ (State.writeReg_moves ..) (by decide)
  exact .refl ..
  refine .step ?_ (State.writeLaneRef_moves ..) (by decide)
  exact .refl ..
  refine .step ?_ (State.writeReg_moves ..) (by decide)
  exact .refl ..

/-- What `State.putAna` may change: free, resp, frozen, icu, cmp, dac, lane, shed, hedCnt, pwm, trip, dma, vrec, crerus; registers of PD 0, 1, 2, 3, 4, 5, 6, 7, 8, 9, 10, 11, 12. -/
theorem State.putAna_moves (s : State) (q : Who) (a : ℕ) (v : ℕ) : Moves 0x7ffc0005020fb27 s (State.putAna s q a v) := by
  unfold State.putAna
  apply Moves.ite
  apply Moves.ite
  refine .step ?_ (State.writeAdcCtrl_moves ..) (by decide)
  exact .refl ..
  refine fireAll_moves ?_ (by decide)
  refine .step ?_ (State.missCheck_moves ..) (by decide)
  refine .step ?_ (State.writeReg_moves ..) (by decide)
  exact .refl ..
  apply Moves.ite
  refine .step ?_ (State.writeCmpCfg_moves ..) (by decide)
  exact .refl ..
  apply Moves.ite
  refine .step ?_ (State.writeDac_moves ..) (by decide)
  exact .refl ..
  apply Moves.ite
  refine .step ?_ (State.writeRfmWin_moves ..) (by decide)
  exact .refl ..
  refine .step ?_ (State.writeReg_moves ..) (by decide)
  exact .refl ..

/-- What `State.putWrp` may change: resp, frozen, icu, pwm, vrec, warp; registers of PD 0, 1, 2, 3, 4, 5, 6, 7, 8, 9, 10, 11. -/
theorem State.putWrp_moves (s : State) (q : Who) (a : ℕ) (v : ℕ) : Moves 0x7ffc00030004026 s (State.putWrp s q a v) := by
  unfold State.putWrp
  split
  refine .step ?_ (State.bypassCheck_moves ..) (by decide)
  refine .step ?_ (State.writeReg_moves ..) (by decide)
  exact .refl ..
  refine .step ?_ (State.writeWarpSlot_moves ..) (by decide)
  exact .refl ..
  refine .step ?_ (State.writeReg_moves ..) (by decide)
  exact .refl ..

/-- What `State.putTil` may change: core. -/
theorem State.putTil_moves (s : State) (q : Who) (a : ℕ) (v : ℕ) : Moves 0x1000000 s (State.putTil s q a v) := by
  unfold State.putTil
  split
  refine .step ?_ (State.updCore_moves ..) (by decide)
  exact .refl ..
  refine .step ?_ (State.updCore_moves ..) (by decide)
  exact .refl ..
  refine .step ?_ (State.updCore_moves ..) (by decide)
  exact .refl ..
  refine .step ?_ (State.updCore_moves ..) (by decide)
  exact .refl ..
  exact .refl ..

/-- What `State.putWld` may change: resp, frozen, icu, wld, vrec, mem; registers of PD 0, 1, 2, 3, 4, 5, 6, 7, 8, 9, 10, 11. -/
theorem State.putWld_moves (s : State) (q : Who) (a : ℕ) (v : ℕ) : Moves 0x7ffe00014000026 s (State.putWld s q a v) := by
  unfold State.putWld
  split
  refine .step ?_ (State.worldCfg_moves ..) (by decide)
  refine .step ?_ (State.writeReg_moves ..) (by decide)
  exact .refl ..
  apply Moves.ite
  refine .step ?_ (State.beginLoad_moves ..) (by decide)
  exact .refl ..
  exact .refl ..
  refine .step ?_ (State.writeReg_moves ..) (by decide)
  exact .refl ..

/-- What `State.putFlc` may change: resp, frozen, icu, seq, vrec, flash; registers of PD 0, 1, 2, 3, 4, 5, 6, 7, 8, 9, 10, 11. -/
theorem State.putFlc_moves (s : State) (q : Who) (a : ℕ) (v : ℕ) : Moves 0x7ffc00218000026 s (State.putFlc s q a v) := by
  unfold State.putFlc
  split
  refine .step ?_ (State.flcArm_moves ..) (by decide)
  exact .refl ..
  refine .step ?_ (State.flcCmd_moves ..) (by decide)
  exact .refl ..
  refine .step ?_ (State.writeReg_moves ..) (by decide)
  exact .refl ..

/-- What `State.putSerial` may change: free, resp, frozen, icu, cmp, lane, shed, hedCnt, pwm, trip, dma, vrec, crerus, uart, i2c; registers of PD 0, 1, 2, 3, 4, 5, 6, 7, 8, 9, 10, 11, 12. -/
theorem State.putSerial_moves (s : State) (q : Who) (a : ℕ) (v : ℕ) : Moves 0x7ffd8005020f927 s (State.putSerial s q a v) := by
  unfold State.putSerial
  apply Moves.ite
  refine fireAll_moves ?_ (by decide)
  refine .step ?_ (State.drivenTrips_moves ..) (by decide)
  split
  refine .step ?_ (State.writeOutSet_moves ..) (by decide)
  exact .refl ..
  refine .step ?_ (State.writeOutClr_moves ..) (by decide)
  exact .refl ..
  refine .step ?_ (State.writeReg_moves ..) (by decide)
  exact .refl ..
  apply Moves.ite
  apply Moves.ite
  refine .step ?_ (State.writeUartTx_moves ..) (by decide)
  exact .refl ..
  refine .step ?_ (State.writeUart_moves ..) (by decide)
  exact .refl ..
  split
  refine .step ?_ (State.writeI2cCtrl_moves ..) (by decide)
  exact .refl ..
  refine .step ?_ (State.writeI2cTx_moves ..) (by decide)
  exact .refl ..
  refine .step ?_ (State.writeXfer_moves ..) (by decide)
  exact .refl ..
  refine .step ?_ (State.writeI2c_moves ..) (by decide)
  exact .refl ..

/-- What `State.putDbg` may change: resp, frozen, icu, core, vrec, dbg; registers of PD 0, 1, 2, 3, 4, 5, 6, 7, 8, 9, 10, 11. -/
theorem State.putDbg_moves (s : State) (q : Who) (a : ℕ) (v : ℕ) : Moves 0x7ffc20011000026 s (State.putDbg s q a v) := by
  unfold State.putDbg
  split
  apply Moves.ite
  refine .step ?_ (State.endGrant_moves ..) (by decide)
  exact .refl ..
  exact .refl ..
  apply Moves.ite
  refine .step ?_ (State.writeDbgCtrl_moves ..) (by decide)
  exact .refl ..
  exact .refl ..
  apply Moves.ite
  refine .step ?_ (State.writeRegdata_moves ..) (by decide)
  exact .refl ..
  exact .refl ..
  apply Moves.ite
  refine .step ?_ (State.writeReg_moves ..) (by decide)
  exact .refl ..
  exact .refl ..

/-- What `State.putLcs` may change: free, resp, frozen, key, time, icu, adc, res, cmp, dac, rfm, lane, shed, hedCnt, pwm, trip, pad, loomCfg, fuseLoaded, gov, tmr, dma, dmaLast, health, core, ply, wld, seq, vrec, warp, crerus, queue, jrnl, flash, custody, lc, shadow, pwr, rst, clk, dbg, xspi, uart, i2c, mem; registers of PD 0, 1, 2, 3, 4, 5, 6, 7, 8, 9, 10, 11, 12. -/
theorem State.putLcs_moves (s : State) (q : Who) (a : ℕ) (v : ℕ) : Moves 0x7ffffefffffffff s (State.putLcs s q a v) := by
  unfold State.putLcs
  split
  refine .step ?_ (State.writeLcsReq_moves ..) (by decide)
  exact .refl ..
  refine .step ?_ (State.writeScrap_moves ..) (by decide)
  exact .refl ..
  refine .step ?_ (State.writeFcmd_moves ..) (by decide)
  exact .refl ..
  refine .step ?_ (State.writeReg_moves ..) (by decide)
  exact .refl ..

/-- What `State.ioPut` may change: free, resp, frozen, key, time, icu, adc, res, cmp, dac, rfm, lane, shed, hedCnt, pwm, trip, pad, loomCfg, fuseLoaded, gov, tmr, dma, dmaLast, health, core, ply, wld, seq, vrec, warp, crerus, queue, jrnl, flash, custody, lc, shadow, pwr, rst, clk, dbg, xspi, uart, i2c, mem; registers of PD 0, 1, 2, 3, 4, 5, 6, 7, 8, 9, 10, 11, 12. -/
theorem State.ioPut_moves (s : State) (q : Who) (a : ℕ) (v : ℕ) : Moves 0x7ffffefffffffff s (State.ioPut s q a v) := by
  unfold State.ioPut
  apply Moves.ite
  exact .refl ..
  split
  refine .step ?_ (State.putSys_moves ..) (by decide)
  exact .refl ..
  refine .step ?_ (State.putSys_moves ..) (by decide)
  exact .refl ..
  refine .step ?_ (State.putSys_moves ..) (by decide)
  exact .refl ..
  refine .step ?_ (State.putSys_moves ..) (by decide)
  exact .refl ..
  refine .step ?_ (State.putIcu_moves ..) (by decide)
  exact .refl ..
  apply Moves.ite
  refine .step ?_ (State.writeDmaCtrl_moves ..) (by decide)
  exact .refl ..
  refine .step ?_ (State.writeReg_moves ..) (by decide)
  exact .refl ..
  refine .step ?_ (State.putTmr_moves ..) (by decide)
  exact .refl ..
  refine .step ?_ (State.putHed_moves ..) (by decide)
  exact .refl ..
  refine .step ?_ (State.putPwm_moves ..) (by decide)
  exact .refl ..
  refine .step ?_ (State.putPwm_moves ..) (by decide)
  exact .refl ..
  refine .step ?_ (State.putPwm_moves ..) (by decide)
  exact .refl ..
  refine .step ?_ (State.putTrp_moves ..) (by decide)
  exact .refl ..
  refine .step ?_ (State.putLn_moves ..) (by decide)
  exact .refl ..
  refine .step ?_ (State.putAna_moves ..) (by decide)
  exact .refl ..
  refine .step ?_ (State.putAna_moves ..) (by decide)
  exact .refl ..
  refine .step ?_ (State.putAna_moves ..) (by decide)
  exact .refl ..
  refine .step ?_ (State.govJudge_moves ..) (by decide)
  refine .step ?_ (State.writeReg_moves ..) (by decide)
  exact .refl ..
  refine .step ?_ (State.putWrp_moves ..) (by decide)
  exact .refl ..
  apply Moves.ite
  refine .step ?_ (State.wdKick_moves ..) (by decide)
  exact .refl ..
  refine .step ?_ (State.writeReg_moves ..) (by decide)
  exact .refl ..
  refine .step ?_ (State.putTil_moves ..) (by decide)
  exact .refl ..
  refine .step ?_ (State.putWld_moves ..) (by decide)
  exact .refl ..
  refine .step ?_ (State.writeMbx_moves ..) (by decide)
  exact .refl ..
  refine .step ?_ (State.putFlc_moves ..) (by decide)
  exact .refl ..
  refine .step ?_ (State.putSerial_moves ..) (by decide)
  exact .refl ..
  refine .step ?_ (State.putSerial_moves ..) (by decide)
  exact .refl ..
  refine .step ?_ (State.putSerial_moves ..) (by decide)
  exact .refl ..
  refine .step ?_ (State.putDbg_moves ..) (by decide)
  exact .refl ..
  refine .step ?_ (State.putLcs_moves ..) (by decide)
  exact .refl ..
  refine .step ?_ (State.writeReg_moves ..) (by decide)
  exact .refl ..

/-- What `State.ioWrite` may change: free, resp, frozen, key, time, icu, adc, res, cmp, dac, rfm, lane, shed, hedCnt, pwm, trip, pad, loomCfg, fuseLoaded, gov, tmr, dma, dmaLast, health, core, ply, wld, seq, vrec, warp, crerus, queue, jrnl, flash, custody, lc, shadow, pwr, rst, clk, dbg, xspi, uart, i2c, mem; registers of PD 0, 1, 2, 3, 4, 5, 6, 7, 8, 9, 10, 11. -/
theorem State.ioWrite_moves (s : State) (q : Who) (a : ℕ) (v : ℕ) : Moves 0x7ffffefffffffff s (State.ioWrite s q a v) := by
  unfold State.ioWrite
  split
  refine .step ?_ (State.reply_moves ..) (by decide)
  exact .refl ..
  refine .trans ?_ (State.via_moves _ _ _ _ ?_ (by decide))
  exact .refl ..
  intro u10_0
  refine .step ?_ (State.ioPut_moves ..) (by decide)
  exact .refl ..

/-- What `State.ioActive` may change: free, resp, time, icu, uart, i2c; registers of PD 0, 6, 7, 10. -/
theorem State.ioActive_moves (s : State) (q : Req) (a : ℕ) : Moves 0x130580000000033 s (State.ioActive s q a) := by
  unfold State.ioActive
  split
  refine .step ?_ (State.readWideLow_moves ..) (by decide)
  exact .refl ..
  refine .step ?_ (State.reply_moves ..) (by decide)
  exact .refl ..
  apply Moves.ite
  refine .step ?_ (State.reply_moves ..) (by decide)
  exact .refl ..
  apply Moves.ite
  refine .step ?_ (State.reply_moves ..) (by decide)
  exact .refl ..
  apply Moves.ite
  refine .step ?_ (State.reply_moves ..) (by decide)
  exact .refl ..
  apply Moves.ite
  refine .step ?_ (State.reply_moves ..) (by decide)
  exact .refl ..
  apply Moves.ite
  refine .step ?_ (State.readTmrCap_moves ..) (by decide)
  exact .refl ..
  apply Moves.ite
  refine .step ?_ (State.readPwmCnt_moves ..) (by decide)
  exact .refl ..
  apply Moves.ite
  refine .step ?_ (State.readAdcRes_moves ..) (by decide)
  exact .refl ..
  apply Moves.ite
  refine .step ?_ (State.reply_moves ..) (by decide)
  exact .refl ..
  apply Moves.ite
  refine .step ?_ (State.readUartRx_moves ..) (by decide)
  exact .refl ..
  apply Moves.ite
  refine .step ?_ (State.readI2cRx_moves ..) (by decide)
  exact .refl ..
  apply Moves.ite
  split
  refine .step ?_ (State.reply_moves ..) (by decide)
  refine .step ?_ (Moves.snd (State.readRegdata_moves ..) (by assumption)) (by decide)
  exact .refl ..
  apply Moves.ite
  refine .step ?_ (State.reply_moves ..) (by decide)
  exact .refl ..
  refine .step ?_ (State.reply_moves ..) (by decide)
  exact .refl ..

/-- What `State.ioQuiet` may change: free, resp, time, icu, uart, i2c; registers of PD 0, 6, 7, 10. -/
theorem State.ioQuiet_moves (s : State) (q : Req) (a : ℕ) : Moves 0x130580000000033 s (State.ioQuiet s q a) := by
  unfold State.ioQuiet
  dsimp only
  split
  · exact .step (.refl ..) (State.ioActive_moves ..) (by decide)
  · split
    · exact .step (.step (.refl ..) (State.upd_resp_moves ..) (by decide)) (State.loadLatch_moves ..) (by decide)
    · exact .step (.refl ..) (State.upd_free_resp_moves ..) (by decide)

/-- What `State.ioRead` may change: free, resp, time, icu, uart, i2c; registers of PD 0, 6, 7, 10. -/
theorem State.ioRead_moves (s : State) (q : Req) (a : ℕ) (quiet : Bool) : Moves 0x130580000000033 s (State.ioRead s q a quiet) := by
  unfold State.ioRead
  split
  refine .step ?_ (State.reply_moves ..) (by decide)
  exact .refl ..
  apply Moves.ite
  apply Moves.ite
  refine .step ?_ (State.reply_moves ..) (by decide)
  exact .refl ..
  apply Moves.ite
  refine .step ?_ (State.ioQuiet_moves ..) (by decide)
  exact .refl ..
  refine .step ?_ (State.ioActive_moves ..) (by decide)
  exact .refl ..
  refine .step ?_ (State.reply_moves ..) (by decide)
  exact .refl ..

end Sys2Proof.Machine
end

