-- ==== Sys2Proof/Laws/MovesCrerusSet.lean ====
section
/-!
SUPPORT. What each function of Machine/CrerusSet.lean may change.
-/

namespace Sys2Proof.Machine

/-- What `State.putPend` may change: crerus. -/
theorem State.putPend_moves (s : State) (c : Cls) (n : ℕ) (p : List ℕ) : Moves 0x40000000 s (State.putPend s c n p) := by
  unfold State.putPend
  refine .step ?_ (State.upd_crerus_moves ..) (by decide)
  exact .refl ..

/-- What `State.putWords` may change: free, resp, frozen, key, time, icu, adc, res, cmp, dac, rfm, lane, shed, hedCnt, pwm, trip, pad, loomCfg, fuseLoaded, gov, tmr, dma, dmaLast, health, core, ply, wld, seq, vrec, warp, crerus, queue, jrnl, flash, custody, lc, shadow, pwr, rst, clk, dbg, xspi, uart, i2c, mem; registers of PD 0, 1, 2, 3, 4, 5, 6, 7, 8, 9, 10, 11. -/
theorem State.putWords_moves (s : State) (a : ℕ) (p : List ℕ) (o : ℕ) (n : ℕ) : Moves 0x7ffffefffffffff s (State.putWords s a p o n) := by
  unfold State.putWords
  refine Moves.foldl ?_ ?_
  exact .refl ..
  intro u6_0 u6_1
  refine .step ?_ (State.ioWrite_moves ..) (by decide)
  exact .refl ..

/-- What `State.applyLane` may change: free, resp, frozen, key, time, icu, adc, res, cmp, dac, rfm, lane, shed, hedCnt, pwm, trip, pad, loomCfg, fuseLoaded, gov, tmr, dma, dmaLast, health, core, ply, wld, seq, vrec, warp, crerus, queue, jrnl, flash, custody, lc, shadow, pwr, rst, clk, dbg, xspi, uart, i2c, mem; registers of PD 0, 1, 2, 3, 4, 5, 6, 7, 8, 9, 10, 11. -/
theorem State.applyLane_moves (s : State) (k : ℕ) (p : List ℕ) : Moves 0x7ffffefffffffff s (State.applyLane s k p) := by
  unfold State.applyLane
  refine .step ?_ (State.ioWrite_moves ..) (by decide)
  refine .step ?_ (State.ioWrite_moves ..) (by decide)
  refine .step ?_ (State.putWords_moves ..) (by decide)
  refine .step ?_ (State.putWords_moves ..) (by decide)
  exact .refl ..

/-- What `State.applyLevelling` may change: free, resp, frozen, key, time, icu, adc, res, cmp, dac, rfm, lane, shed, hedCnt, pwm, trip, pad, loomCfg, fuseLoaded, gov, tmr, dma, dmaLast, health, core, ply, wld, seq, vrec, warp, crerus, queue, jrnl, flash, custody, lc, shadow, pwr, rst, clk, dbg, xspi, uart, i2c, mem; registers of PD 0, 1, 2, 3, 4, 5, 6, 7, 8, 9, 10, 11. -/
theorem State.applyLevelling_moves (s : State) (p : List ℕ) : Moves 0x7ffffefffffffff s (State.applyLevelling s p) := by
  unfold State.applyLevelling
  refine .step ?_ (State.ioWrite_moves ..) (by decide)
  refine .step ?_ (State.ioWrite_moves ..) (by decide)
  refine .step ?_ (State.putWords_moves ..) (by decide)
  exact .refl ..

/-- What `State.applyTamper` may change: free, custody; registers of PD 0, 1, 2, 3, 4, 5, 6, 7, 8, 9, 10, 11, 12. -/
theorem State.applyTamper_moves (s : State) (p : List ℕ) : Moves 0x7ffc00400000001 s (State.applyTamper s p) := by
  unfold State.applyTamper
  refine Moves.foldl ?_ ?_
  refine .step ?_ (State.set_moves (d := 0) rfl) (by decide)
  refine .step ?_ (State.set_moves (d := 0) rfl) (by decide)
  refine .step ?_ (State.set_moves (d := 0) rfl) (by decide)
  refine Moves.foldl ?_ ?_
  exact .refl ..
  intro u3_0 u3_1
  refine Moves.foldl ?_ ?_
  exact .refl ..
  intro u4_0 u4_1
  refine .step ?_ (State.set_any ..) (by decide)
  exact .refl ..
  intro u5_0 u5_1
  apply Moves.ite
  refine .step ?_ (State.meshSeed_moves ..) (by decide)
  exact .refl ..
  exact .refl ..

/-- What `State.applyNoun` may change: free, resp, frozen, key, time, icu, adc, res, cmp, dac, rfm, lane, shed, hedCnt, pwm, trip, pad, loomCfg, fuseLoaded, gov, tmr, dma, dmaLast, health, core, ply, wld, seq, vrec, warp, crerus, queue, jrnl, flash, custody, lc, shadow, pwr, rst, clk, dbg, xspi, uart, i2c, mem; registers of PD 0, 1, 2, 3, 4, 5, 6, 7, 8, 9, 10, 11. -/
theorem State.applyNoun_moves (s : State) (n : ℕ) (p : List ℕ) : Moves 0x7ffffefffffffff s (State.applyNoun s n p) := by
  unfold State.applyNoun
  apply Moves.ite
  refine .step ?_ (State.applyLane_moves ..) (by decide)
  exact .refl ..
  apply Moves.ite
  refine .step ?_ (State.ioWrite_moves ..) (by decide)
  refine .step ?_ (State.putWords_moves ..) (by decide)
  exact .refl ..
  split
  refine .step ?_ (State.putWords_moves ..) (by decide)
  exact .refl ..
  refine .step ?_ (State.putWords_moves ..) (by decide)
  exact .refl ..
  refine .step ?_ (State.applyLevelling_moves ..) (by decide)
  exact .refl ..
  refine .step ?_ (State.ioWrite_moves ..) (by decide)
  refine .step ?_ (State.ioWrite_moves ..) (by decide)
  exact .refl ..
  refine .step ?_ (State.upd_jrnl_moves ..) (by decide)
  exact .refl ..
  refine .step ?_ (State.applyTamper_moves ..) (by decide)
  exact .refl ..
  refine .step ?_ (State.upd_crerus_moves ..) (by decide)
  exact .refl ..
  refine .step ?_ (State.upd_crerus_moves ..) (by decide)
  exact .refl ..
  exact .refl ..

/-- What `State.applyJob` may change: free, resp, frozen, key, time, icu, adc, res, cmp, dac, rfm, lane, shed, hedCnt, pwm, trip, pad, loomCfg, fuseLoaded, gov, tmr, dma, dmaLast, health, core, ply, wld, seq, vrec, warp, crerus, queue, jrnl, flash, custody, lc, shadow, pwr, rst, clk, dbg, xspi, uart, i2c, mem; registers of PD 0, 1, 2, 3, 4, 5, 6, 7, 8, 9, 10, 11. -/
theorem State.applyJob_moves (s : State) (j : Job) (p : List ℕ) : Moves 0x7ffffefffffffff s (State.applyJob s j p) := by
  unfold State.applyJob
  apply Moves.ite
  refine .step ?_ (State.finish_moves ..) (by decide)
  exact .refl ..
  apply Moves.ite
  refine .step ?_ (State.suspend_moves ..) (by decide)
  refine .step ?_ (State.applyNoun_moves ..) (by decide)
  exact .refl ..
  refine .step ?_ (State.finish_moves ..) (by decide)
  refine .step ?_ (State.applyNoun_moves ..) (by decide)
  exact .refl ..

/-- What `State.commitStage` may change: icu, wld, warp, crerus, mem; registers of PD 0, 1, 6, 10. -/
theorem State.commitStage_moves {K : Nat} (s : State) (j : Job) (f : State → State) (hf : ∀ x0, Moves K x0 (f x0)) (e : 0x110e00064000020 ||| K = K) : Moves K s (State.commitStage s j f) := by
  unfold State.commitStage
  apply Moves.ite
  refine .step ?_ (State.finish_moves ..) (sub_of (by decide) e)
  exact .refl ..
  apply Moves.ite
  refine .step ?_ (State.finish_moves ..) (sub_of (by decide) e)
  exact .refl ..
  refine .trans ?_ (hf ..)
  refine .step ?_ (State.upd_crerus_moves ..) (sub_of (by decide) e)
  exact .refl ..

/-- What `State.commitWrite` may change: crerus, flash; registers of PD 2. -/
theorem State.commitWrite_moves (s : State) (j : Job) : Moves 0x1000240000000 s (State.commitWrite s j) := by
  unfold State.commitWrite
  refine .step ?_ (State.suspend_moves ..) (by decide)
  refine .step ?_ (State.setFlashOp_moves ..) (by decide)
  exact .refl ..

end Sys2Proof.Machine
end

