-- ==== Sys2Proof/Laws/MovesJournalOps.lean ====
section
/-!
SUPPORT. What each function of Machine/JournalOps.lean may change.
-/

namespace Sys2Proof.Machine

/-- What `State.pageStart` may change: jrnl, flash; registers of PD 2. -/
theorem State.pageStart_moves (s : State) : Moves 0x1000300000000 s (State.pageStart s) := by
  unfold State.pageStart
  apply Moves.ite
  exact .refl ..
  refine .step ?_ (State.setFlashOp_moves ..) (by decide)
  refine .step ?_ (State.upd_jrnl_moves ..) (by decide)
  exact .refl ..

/-- What `State.carrySummary` may change: vrec. -/
theorem State.carrySummary_moves (s : State) : Moves 0x10000000 s (State.carrySummary s) := by
  unfold State.carrySummary
  apply Moves.ite
  refine .step ?_ (State.journal_moves ..) (by decide)
  exact .refl ..
  exact .refl ..

/-- What `State.vrecPut` may change: vrec, jrnl, flash; registers of PD 2. -/
theorem State.vrecPut_moves (s : State) (v : VRec) : Moves 0x1000310000000 s (State.vrecPut s v) := by
  unfold State.vrecPut
  apply Moves.ite
  refine .step ?_ (State.upd_vrec_moves ..) (by decide)
  exact .refl ..
  apply Moves.ite
  refine .step ?_ (State.upd_jrnl_moves ..) (by decide)
  exact .refl ..
  apply Moves.ite
  refine .step ?_ (State.upd_jrnl_moves ..) (by decide)
  exact .refl ..
  refine .step ?_ (State.pageStart_moves ..) (by decide)
  refine .step ?_ (State.upd_vrec_moves ..) (by decide)
  exact .refl ..

/-- What `State.vrecDrain` may change: vrec, jrnl, flash; registers of PD 2. -/
theorem State.vrecDrain_moves (s : State) : Moves 0x1000310000000 s (State.vrecDrain s) := by
  unfold State.vrecDrain
  apply Moves.ite
  refine Moves.foldl ?_ ?_
  refine .step ?_ (State.upd_vrec_moves ..) (by decide)
  exact .refl ..
  intro u2_0 u2_1
  refine .step ?_ (State.vrecPut_moves ..) (by decide)
  exact .refl ..
  exact .refl ..

/-- What `State.jrnlPush` may change: vrec, jrnl, flash; registers of PD 2. -/
theorem State.jrnlPush_moves (s : State) : Moves 0x1000310000000 s (State.jrnlPush s) := by
  unfold State.jrnlPush
  refine .step ?_ (State.pageStart_moves ..) (by decide)
  refine .step ?_ (State.vrecDrain_moves ..) (by decide)
  exact .refl ..

/-- What `State.jrnlScan` may change: jrnl. -/
theorem State.jrnlScan_moves (s : State) : Moves 0x100000000 s s.jrnlScan := by
  unfold State.jrnlScan
  extract_lets j f
  rcases s.scanFrom 8192 (f % 8192) 0 with ⟨w, t⟩
  exact .step (.refl ..) (State.upd_jrnl_moves ..) (by decide)

/-- What `State.jrnlVerify` may change: vrec, jrnl. -/
theorem State.jrnlVerify_moves (s : State) : Moves 0x110000000 s (State.jrnlVerify s) := by
  unfold State.jrnlVerify
  refine Moves.foldl ?_ ?_
  refine .step ?_ (State.upd_jrnl_moves ..) (by decide)
  exact .refl ..
  intro u2_0 u2_1
  refine .step ?_ (State.journal_moves ..) (by decide)
  exact .refl ..

/-- What `State.restoreSummary` may change: health; registers of PD 0. -/
theorem State.restoreSummary_moves (s : State) : Moves 0x400000800000 s (State.restoreSummary s) := by
  unfold State.restoreSummary
  split
  refine .step ?_ (State.upd_health_moves ..) (by decide)
  exact .refl ..
  apply Moves.ite
  refine .step ?_ (State.set_moves (d := 0) rfl) (by decide)
  refine .step ?_ (State.upd_health_moves ..) (by decide)
  refine .step ?_ (State.set_moves (d := 0) rfl) (by decide)
  exact .refl ..
  refine .step ?_ (State.upd_health_moves ..) (by decide)
  refine .step ?_ (State.set_moves (d := 0) rfl) (by decide)
  exact .refl ..

end Sys2Proof.Machine
end

