-- ==== Sys2Proof/Laws/MovesFirmOps.lean ====
section
/-!
SUPPORT. What each function of Machine/FirmOps.lean may change.
-/

namespace Sys2Proof.Machine

/-- What `State.putMark` may change: mem. -/
theorem State.putMark_moves (s : State) (n : ℕ) (m : ℕ) : Moves 0x200000000000 s (State.putMark s n m) := by
  unfold State.putMark
  refine .step ?_ (State.wrBytes_moves ..) (by decide)
  exact .refl ..

/-- What `State.fwPick` may change: mem; registers of PD 0. -/
theorem State.fwPick_moves (s : State) (a1 : List ℕ) : Moves 0x600000000000 s (State.fwPick s a1).2 := by
  induction a1 generalizing s
  unfold State.fwPick
  exact .refl ..
  rename_i n l ih
  unfold State.fwPick
  split
  dsimp only
  split
  refine .step ?_ (State.putMark_moves ..) (by decide)
  exact .refl ..
  refine .trans ?_ (ih ..)
  apply Moves.ite
  refine .step ?_ (State.putMark_moves ..) (by decide)
  exact .refl ..
  refine .step ?_ (State.set_moves (d := 0) rfl) (by decide)
  refine .step ?_ (State.putMark_moves ..) (by decide)
  exact .refl ..
  dsimp only
  split
  exact .refl ..
  refine .trans ?_ (ih ..)
  apply Moves.ite
  exact .refl ..
  refine .step ?_ (State.set_moves (d := 0) rfl) (by decide)
  exact .refl ..

/-- What `State.fwChoose` may change: health, crerus, mem; registers of PD 0. -/
theorem State.fwChoose_moves (s : State) : Moves 0x600040800000 s (State.fwChoose s) := by
  unfold State.fwChoose
  dsimp only
  split
  refine .step ?_ (State.upd_crerus_moves ..) (by decide)
  refine .step ?_ (State.set_moves (d := 0) rfl) (by decide)
  refine .step ?_ (State.set_moves (d := 0) rfl) (by decide)
  refine .step ?_ (Moves.snd (State.fwPick_moves ..) (by assumption)) (by decide)
  refine .step ?_ (State.set_moves (d := 0) rfl) (by decide)
  exact .refl ..
  refine .step ?_ (State.advise_moves ..) (by decide)
  refine .step ?_ (State.upd_crerus_moves ..) (by decide)
  refine .step ?_ (State.set_moves (d := 0) rfl) (by decide)
  refine .step ?_ (Moves.snd (State.fwPick_moves ..) (by assumption)) (by decide)
  refine .step ?_ (State.set_moves (d := 0) rfl) (by decide)
  exact .refl ..

/-- What `State.nounEntry` may change: free, resp, frozen, key, time, icu, adc, res, cmp, dac, rfm, lane, shed, hedCnt, pwm, trip, pad, loomCfg, fuseLoaded, gov, tmr, dma, dmaLast, health, core, ply, wld, seq, vrec, warp, crerus, queue, jrnl, flash, custody, lc, shadow, pwr, rst, clk, dbg, xspi, uart, i2c, mem; registers of PD 0, 1, 2, 3, 4, 5, 6, 7, 8, 9, 10, 11. -/
theorem State.nounEntry_moves (s : State) (e : Entry) : Moves 0x7ffffefffffffff s (State.nounEntry s e) := by
  unfold State.nounEntry
  apply Moves.ite
  exact .refl ..
  apply Moves.ite
  refine .step ?_ (State.journal_moves ..) (by decide)
  exact .refl ..
  refine .step ?_ (State.applyNoun_moves ..) (by decide)
  exact .refl ..

/-- What `State.fwStart` may change: free, resp, frozen, key, time, icu, adc, res, cmp, dac, rfm, lane, shed, hedCnt, pwm, trip, pad, loomCfg, fuseLoaded, gov, tmr, dma, dmaLast, health, core, ply, wld, seq, vrec, warp, crerus, queue, jrnl, flash, custody, lc, shadow, pwr, rst, clk, dbg, xspi, uart, i2c, mem; registers of PD 0, 1, 2, 3, 4, 5, 6, 7, 8, 9, 10, 11, 12. -/
theorem State.fwStart_moves (s : State) (kat : Bool) : Moves 0x7ffffefffffffff s (State.fwStart s kat) := by
  unfold State.fwStart
  apply Moves.ite
  refine Moves.foldl ?_ ?_
  apply Moves.ite
  refine .step ?_ (State.set_moves (d := 10) rfl) (by decide)
  apply Moves.ite
  refine .step ?_ (State.set_moves (d := 10) rfl) (by decide)
  apply Moves.ite
  refine Moves.foldl ?_ ?_
  refine .step ?_ (State.restoreSummary_moves ..) (by decide)
  refine .step ?_ (State.formKeys_moves ..) (by decide)
  apply Moves.ite
  refine .step ?_ (State.quiesceStrands_moves ..) (by decide)
  refine .step ?_ (State.upd_crerus_jrnl_custody_moves ..) (by decide)
  exact .refl ..
  refine .step ?_ (State.upd_crerus_jrnl_custody_moves ..) (by decide)
  exact .refl ..
  intro u3_0 u3_1
  apply Moves.ite
  refine .step ?_ (State.meshSeed_moves ..) (by decide)
  exact .refl ..
  exact .refl ..
  refine .step ?_ (State.restoreSummary_moves ..) (by decide)
  refine .step ?_ (State.formKeys_moves ..) (by decide)
  apply Moves.ite
  refine .step ?_ (State.quiesceStrands_moves ..) (by decide)
  refine .step ?_ (State.upd_crerus_jrnl_custody_moves ..) (by decide)
  exact .refl ..
  refine .step ?_ (State.upd_crerus_jrnl_custody_moves ..) (by decide)
  exact .refl ..
  apply Moves.ite
  refine Moves.foldl ?_ ?_
  refine .step ?_ (State.restoreSummary_moves ..) (by decide)
  refine .step ?_ (State.formKeys_moves ..) (by decide)
  apply Moves.ite
  refine .step ?_ (State.quiesceStrands_moves ..) (by decide)
  refine .step ?_ (State.upd_crerus_jrnl_custody_moves ..) (by decide)
  exact .refl ..
  refine .step ?_ (State.upd_crerus_jrnl_custody_moves ..) (by decide)
  exact .refl ..
  intro u4_0 u4_1
  apply Moves.ite
  refine .step ?_ (State.meshSeed_moves ..) (by decide)
  exact .refl ..
  exact .refl ..
  refine .step ?_ (State.restoreSummary_moves ..) (by decide)
  refine .step ?_ (State.formKeys_moves ..) (by decide)
  apply Moves.ite
  refine .step ?_ (State.quiesceStrands_moves ..) (by decide)
  refine .step ?_ (State.upd_crerus_jrnl_custody_moves ..) (by decide)
  exact .refl ..
  refine .step ?_ (State.upd_crerus_jrnl_custody_moves ..) (by decide)
  exact .refl ..
  apply Moves.ite
  refine Moves.foldl ?_ ?_
  refine .step ?_ (State.restoreSummary_moves ..) (by decide)
  refine .step ?_ (State.formKeys_moves ..) (by decide)
  apply Moves.ite
  refine .step ?_ (State.quiesceStrands_moves ..) (by decide)
  refine .step ?_ (State.upd_crerus_jrnl_custody_moves ..) (by decide)
  exact .refl ..
  refine .step ?_ (State.upd_crerus_jrnl_custody_moves ..) (by decide)
  exact .refl ..
  intro u5_0 u5_1
  apply Moves.ite
  refine .step ?_ (State.meshSeed_moves ..) (by decide)
  exact .refl ..
  exact .refl ..
  refine .step ?_ (State.restoreSummary_moves ..) (by decide)
  refine .step ?_ (State.formKeys_moves ..) (by decide)
  apply Moves.ite
  refine .step ?_ (State.quiesceStrands_moves ..) (by decide)
  refine .step ?_ (State.upd_crerus_jrnl_custody_moves ..) (by decide)
  exact .refl ..
  refine .step ?_ (State.upd_crerus_jrnl_custody_moves ..) (by decide)
  exact .refl ..
  intro u6_0 u6_1
  refine .step ?_ (State.nounEntry_moves ..) (by decide)
  exact .refl ..
  apply Moves.ite
  refine .step ?_ (State.set_moves (d := 10) rfl) (by decide)
  apply Moves.ite
  refine .step ?_ (State.set_moves (d := 10) rfl) (by decide)
  apply Moves.ite
  refine Moves.foldl ?_ ?_
  refine .step ?_ (State.restoreSummary_moves ..) (by decide)
  refine .step ?_ (State.formKeys_moves ..) (by decide)
  apply Moves.ite
  refine .step ?_ (State.quiesceStrands_moves ..) (by decide)
  refine .step ?_ (State.upd_crerus_jrnl_custody_moves ..) (by decide)
  exact .refl ..
  refine .step ?_ (State.upd_crerus_jrnl_custody_moves ..) (by decide)
  exact .refl ..
  intro u7_0 u7_1
  apply Moves.ite
  refine .step ?_ (State.meshSeed_moves ..) (by decide)
  exact .refl ..
  exact .refl ..
  refine .step ?_ (State.restoreSummary_moves ..) (by decide)
  refine .step ?_ (State.formKeys_moves ..) (by decide)
  apply Moves.ite
  refine .step ?_ (State.quiesceStrands_moves ..) (by decide)
  refine .step ?_ (State.upd_crerus_jrnl_custody_moves ..) (by decide)
  exact .refl ..
  refine .step ?_ (State.upd_crerus_jrnl_custody_moves ..) (by decide)
  exact .refl ..
  apply Moves.ite
  refine Moves.foldl ?_ ?_
  refine .step ?_ (State.restoreSummary_moves ..) (by decide)
  refine .step ?_ (State.formKeys_moves ..) (by decide)
  apply Moves.ite
  refine .step ?_ (State.quiesceStrands_moves ..) (by decide)
  refine .step ?_ (State.upd_crerus_jrnl_custody_moves ..) (by decide)
  exact .refl ..
  refine .step ?_ (State.upd_crerus_jrnl_custody_moves ..) (by decide)
  exact .refl ..
  intro u8_0 u8_1
  apply Moves.ite
  refine .step ?_ (State.meshSeed_moves ..) (by decide)
  exact .refl ..
  exact .refl ..
  refine .step ?_ (State.restoreSummary_moves ..) (by decide)
  refine .step ?_ (State.formKeys_moves ..) (by decide)
  apply Moves.ite
  refine .step ?_ (State.quiesceStrands_moves ..) (by decide)
  refine .step ?_ (State.upd_crerus_jrnl_custody_moves ..) (by decide)
  exact .refl ..
  refine .step ?_ (State.upd_crerus_jrnl_custody_moves ..) (by decide)
  exact .refl ..
  apply Moves.ite
  refine Moves.foldl ?_ ?_
  refine .step ?_ (State.restoreSummary_moves ..) (by decide)
  refine .step ?_ (State.formKeys_moves ..) (by decide)
  apply Moves.ite
  refine .step ?_ (State.quiesceStrands_moves ..) (by decide)
  refine .step ?_ (State.upd_crerus_jrnl_custody_moves ..) (by decide)
  exact .refl ..
  refine .step ?_ (State.upd_crerus_jrnl_custody_moves ..) (by decide)
  exact .refl ..
  intro u9_0 u9_1
  apply Moves.ite
  refine .step ?_ (State.meshSeed_moves ..) (by decide)
  exact .refl ..
  exact .refl ..
  refine .step ?_ (State.restoreSummary_moves ..) (by decide)
  refine .step ?_ (State.formKeys_moves ..) (by decide)
  apply Moves.ite
  refine .step ?_ (State.quiesceStrands_moves ..) (by decide)
  refine .step ?_ (State.upd_crerus_jrnl_custody_moves ..) (by decide)
  exact .refl ..
  refine .step ?_ (State.upd_crerus_jrnl_custody_moves ..) (by decide)
  exact .refl ..

/-- What `State.holdQueue` may change: queue. -/
theorem State.holdQueue_moves (s : State) : Moves 0x80000000 s (State.holdQueue s) := by
  unfold State.holdQueue
  refine .step ?_ (State.upd_queue_moves ..) (by decide)
  exact .refl ..

/-- What `State.trialNotices` may change: crerus. -/
theorem State.trialNotices_moves (s : State) (mbs : List ℕ) : Moves 0x40000000 s (State.trialNotices s mbs) := by
  unfold State.trialNotices
  apply Moves.ite
  refine .step ?_ (State.upd_crerus_moves ..) (by decide)
  exact .refl ..
  exact .refl ..

/-- What `State.crerusRestart` may change: free, resp, frozen, key, time, icu, adc, res, cmp, dac, rfm, lane, shed, hedCnt, pwm, trip, pad, loomCfg, fuseLoaded, gov, tmr, dma, dmaLast, health, core, ply, wld, seq, vrec, warp, crerus, queue, jrnl, flash, custody, lc, shadow, pwr, rst, clk, dbg, xspi, uart, i2c, mem; registers of PD 0, 1, 2, 3, 4, 5, 6, 7, 8, 9, 10, 11. -/
theorem State.crerusRestart_moves (s : State) (kat : Bool) : Moves 0x7ffffefffffffff s (State.crerusRestart s kat) := by
  unfold State.crerusRestart
  apply Moves.ite
  apply Moves.ite
  refine .step ?_ (State.set_moves (d := 10) rfl) (by decide)
  apply Moves.ite
  refine .step ?_ (State.set_moves (d := 10) rfl) (by decide)
  refine .step ?_ (State.fwChoose_moves ..) (by decide)
  refine .step ?_ (State.crerusLost_moves ..) (by decide)
  refine .step ?_ (State.holdQueue_moves ..) (by decide)
  exact .refl ..
  refine .step ?_ (State.fwChoose_moves ..) (by decide)
  refine .step ?_ (State.crerusLost_moves ..) (by decide)
  refine .step ?_ (State.holdQueue_moves ..) (by decide)
  exact .refl ..
  apply Moves.ite
  refine .step ?_ (State.set_moves (d := 10) rfl) (by decide)
  refine .step ?_ (State.fwChoose_moves ..) (by decide)
  refine .step ?_ (State.crerusLost_moves ..) (by decide)
  refine .step ?_ (State.holdQueue_moves ..) (by decide)
  exact .refl ..
  refine .step ?_ (State.fwChoose_moves ..) (by decide)
  refine .step ?_ (State.crerusLost_moves ..) (by decide)
  refine .step ?_ (State.holdQueue_moves ..) (by decide)
  exact .refl ..
  refine .step ?_ (State.trialNotices_moves ..) (by decide)
  refine .step ?_ (State.fwStart_moves ..) (by decide)
  apply Moves.ite
  refine .step ?_ (State.set_moves (d := 10) rfl) (by decide)
  refine .step ?_ (State.fwChoose_moves ..) (by decide)
  refine .step ?_ (State.crerusLost_moves ..) (by decide)
  refine .step ?_ (State.holdQueue_moves ..) (by decide)
  exact .refl ..
  refine .step ?_ (State.fwChoose_moves ..) (by decide)
  refine .step ?_ (State.crerusLost_moves ..) (by decide)
  refine .step ?_ (State.holdQueue_moves ..) (by decide)
  exact .refl ..

/-- What `State.fwVerify` may change: icu, wld, warp, crerus, mem; registers of PD 0, 1, 6, 10. -/
theorem State.fwVerify_moves (s : State) (j : Job) : Moves 0x110e00064000020 s (State.fwVerify s j) := by
  unfold State.fwVerify
  split
  refine .step ?_ (State.finish_moves ..) (by decide)
  refine .step ?_ (State.upd_crerus_moves ..) (by decide)
  exact .refl ..
  refine .step ?_ (State.finish_moves ..) (by decide)
  exact .refl ..
  refine .step ?_ (State.finish_moves ..) (by decide)
  exact .refl ..
  refine .step ?_ (State.finish_moves ..) (by decide)
  exact .refl ..

/-- What `State.fwActivate` may change: icu, wld, vrec, warp, crerus, jrnl, flash, mem; registers of PD 0, 1, 2, 6, 10. -/
theorem State.fwActivate_moves (s : State) (j : Job) : Moves 0x111e00374000020 s (State.fwActivate s j) := by
  unfold State.fwActivate
  refine .step ?_ (State.jrnlPush_moves ..) (by decide)
  apply Moves.ite
  refine .step ?_ (State.upd_crerus_moves ..) (by decide)
  apply Moves.ite
  refine .step ?_ (State.set_moves (d := 10) rfl) (by decide)
  refine .step ?_ (State.set_moves (d := 10) rfl) (by decide)
  refine .step ?_ (State.set_moves (d := 10) rfl) (by decide)
  refine .step ?_ (State.finish_moves ..) (by decide)
  exact .refl ..
  refine .step ?_ (State.finish_moves ..) (by decide)
  exact .refl ..
  refine .step ?_ (State.setFlashOp_moves ..) (by decide)
  refine .step ?_ (State.upd_crerus_moves ..) (by decide)
  apply Moves.ite
  refine .step ?_ (State.set_moves (d := 10) rfl) (by decide)
  refine .step ?_ (State.set_moves (d := 10) rfl) (by decide)
  refine .step ?_ (State.set_moves (d := 10) rfl) (by decide)
  refine .step ?_ (State.finish_moves ..) (by decide)
  exact .refl ..
  refine .step ?_ (State.finish_moves ..) (by decide)
  exact .refl ..

/-- What `State.draftImage` may change: icu, wld, warp, crerus, flash, mem; registers of PD 0, 1, 2, 6, 10. -/
theorem State.draftImage_moves (s : State) (j : Job) : Moves 0x111e00264000020 s (State.draftImage s j) := by
  unfold State.draftImage
  apply Moves.ite
  refine .step ?_ (State.finish_moves ..) (by decide)
  exact .refl ..
  apply Moves.ite
  refine .step ?_ (State.finish_moves ..) (by decide)
  exact .refl ..
  refine .step ?_ (State.suspend_moves ..) (by decide)
  refine .step ?_ (State.setFlashOp_moves ..) (by decide)
  exact .refl ..

end Sys2Proof.Machine
end

