-- ==== Sys2Proof/Laws/MovesPowerLate.lean ====
section
/-!
SUPPORT. What each function of Machine/PowerLate.lean may change.
-/

namespace Sys2Proof.Machine

/-- What `State.setPstate` may change: registers of PD 0, 10. -/
theorem State.setPstate_moves (s : State) (st : ℕ) : Moves 0x100400000000000 s (State.setPstate s st) := by
  unfold State.setPstate
  apply Moves.ite
  refine .step ?_ (State.set_moves (d := 10) rfl) (by decide)
  refine .step ?_ (State.set_moves (d := 0) rfl) (by decide)
  exact .refl ..
  refine .step ?_ (State.set_moves (d := 0) rfl) (by decide)
  exact .refl ..

/-- What `State.leanStrand` may change: frozen, time, icu, adc, res, cmp, dac, rfm, lane, shed, hedCnt, pwm, trip, loomCfg, gov, tmr, dma, dmaLast, core, warp, crerus, queue, jrnl, custody, pwr, xspi, uart, i2c, mem; registers of PD 0, 1, 2, 3, 4, 5, 6, 7, 8, 9, 10, 11. -/
theorem State.leanStrand_moves (s : State) (d : ℕ) : Moves 0x7fffc45e17afff4 s (State.leanStrand s d) := by
  unfold State.leanStrand
  apply Moves.ite
  refine .step ?_ (State.upd_pwr_moves ..) (by decide)
  refine .step ?_ (State.goDown_moves ..) (by decide)
  exact .refl ..
  exact .refl ..

/-- What `State.beginEntry` may change: icu, crerus, pwr; registers of PD 0, 6, 10. -/
theorem State.beginEntry_moves (s : State) (j : Job) (st : ℕ) : Moves 0x110404040000020 s (State.beginEntry s j st) := by
  unfold State.beginEntry
  refine .step ?_ (State.suspend_moves ..) (by decide)
  refine .step ?_ (State.upd_pwr_moves ..) (by decide)
  apply Moves.ite
  refine .step ?_ (State.set_moves (d := 10) rfl) (by decide)
  refine .step ?_ (State.raise_moves ..) (by decide)
  refine .step ?_ (State.set_moves (d := 0) rfl) (by decide)
  exact .refl ..
  refine .step ?_ (State.raise_moves ..) (by decide)
  refine .step ?_ (State.set_moves (d := 0) rfl) (by decide)
  exact .refl ..

/-- What `State.powerRequest` may change: frozen, time, icu, adc, res, cmp, dac, rfm, lane, shed, hedCnt, pwm, trip, loomCfg, gov, tmr, dma, dmaLast, core, wld, warp, crerus, queue, jrnl, custody, pwr, xspi, uart, i2c, mem; registers of PD 0, 1, 2, 3, 4, 5, 6, 7, 8, 9, 10, 11. -/
theorem State.powerRequest_moves (s : State) (j : Job) : Moves 0x7fffc45e57afff4 s (State.powerRequest s j) := by
  unfold State.powerRequest
  apply Moves.ite
  refine .step ?_ (State.finish_moves ..) (by decide)
  exact .refl ..
  apply Moves.ite
  refine .step ?_ (State.finish_moves ..) (by decide)
  exact .refl ..
  split
  split
  refine .step ?_ (State.finish_moves ..) (by decide)
  refine .step ?_ (State.bringUp_moves ..) (by decide)
  refine .step ?_ (State.setPstate_moves ..) (by decide)
  refine .step ?_ (State.set_moves (d := 0) rfl) (by decide)
  exact .refl ..
  refine .step ?_ (State.finish_moves ..) (by decide)
  refine .step ?_ (State.leanStrand_moves ..) (by decide)
  refine .step ?_ (State.leanStrand_moves ..) (by decide)
  refine .step ?_ (State.setPstate_moves ..) (by decide)
  refine .step ?_ (State.set_moves (d := 0) rfl) (by decide)
  exact .refl ..
  refine .step ?_ (State.beginEntry_moves ..) (by decide)
  refine .step ?_ (State.set_moves (d := 0) rfl) (by decide)
  exact .refl ..
  split
  refine .step ?_ (State.finish_moves ..) (by decide)
  refine .step ?_ (State.bringUp_moves ..) (by decide)
  refine .step ?_ (State.setPstate_moves ..) (by decide)
  exact .refl ..
  refine .step ?_ (State.finish_moves ..) (by decide)
  refine .step ?_ (State.leanStrand_moves ..) (by decide)
  refine .step ?_ (State.leanStrand_moves ..) (by decide)
  refine .step ?_ (State.setPstate_moves ..) (by decide)
  exact .refl ..
  refine .step ?_ (State.beginEntry_moves ..) (by decide)
  exact .refl ..

/-- What `State.entryReply` may change: free, time, icu, cmp, lane, shed, hedCnt, pwm, trip, pad, tmr, dma, wld, vrec, warp, crerus, pwr, mem; registers of PD 0, 1, 6, 7, 8, 10. -/
theorem State.entryReply_moves (s : State) (st : ℕ) : Moves 0x170e0407431f931 s (State.entryReply s st) := by
  unfold State.entryReply
  refine .step ?_ (State.quiesce_moves ..) (by decide)
  refine .step ?_ (State.upd_pwr_moves ..) (by decide)
  refine .step ?_ (State.inc_moves (d := 0) (by split <;> rfl)) (by decide)
  apply Moves.ite
  refine .step ?_ (State.set_moves (d := 10) rfl) (by decide)
  refine .step ?_ (State.set_moves (d := 0) rfl) (by decide)
  refine .step ?_ (State.setPstate_moves ..) (by decide)
  refine .step ?_ (State.set_moves (d := 0) rfl) (by decide)
  split
  refine .step ?_ (State.finish_moves ..) (by decide)
  exact .refl ..
  exact .refl ..
  refine .step ?_ (State.set_moves (d := 0) rfl) (by decide)
  refine .step ?_ (State.setPstate_moves ..) (by decide)
  refine .step ?_ (State.set_moves (d := 0) rfl) (by decide)
  split
  refine .step ?_ (State.finish_moves ..) (by decide)
  exact .refl ..
  exact .refl ..

/-- What `State.entryStep` may change: free, time, icu, cmp, lane, shed, hedCnt, pwm, trip, pad, tmr, dma, wld, vrec, warp, crerus, jrnl, flash, pwr, mem; registers of PD 0, 1, 2, 6, 7, 8, 10. -/
theorem State.entryStep_moves (s : State) (st : ℕ) : Moves 0x171e0437431f931 s (State.entryStep s st) := by
  unfold State.entryStep
  apply Moves.ite
  exact .refl ..
  apply Moves.ite
  refine Moves.foldl ?_ ?_
  exact .refl ..
  intro u3_0 u3_1
  refine .step ?_ (State.quiesce_moves ..) (by decide)
  exact .refl ..
  apply Moves.ite
  exact .refl ..
  apply Moves.ite
  refine .step ?_ (State.jrnlPush_moves ..) (by decide)
  exact .refl ..
  apply Moves.ite
  refine .step ?_ (State.quiesce_moves ..) (by decide)
  refine .step ?_ (State.upd_pwr_moves ..) (by decide)
  exact .refl ..
  apply Moves.ite
  refine .step ?_ (State.upd_pwr_moves ..) (by decide)
  exact .refl ..
  refine .step ?_ (State.entryReply_moves ..) (by decide)
  refine .step ?_ (State.upd_pwr_moves ..) (by decide)
  exact .refl ..

/-- What `State.loomUp` may change: free, resp, frozen, icu, cmp, lane, shed, hedCnt, pwm, trip, pad, loomCfg, gov, tmr, dma, vrec, crerus; registers of PD 0, 1, 2, 3, 4, 5, 6, 7, 8, 9, 10, 11, 12. -/
theorem State.loomUp_moves (s : State) : Moves 0x7ffc000503bf927 s (State.loomUp s) := by
  unfold State.loomUp
  apply Moves.ite
  refine .step ?_ (State.loomFields_moves ..) (by decide)
  refine .step ?_ (State.icuRestore_moves ..) (by decide)
  exact .refl ..
  refine .step ?_ (State.configureLoom_moves ..) (by decide)
  exact .refl ..

/-- What `State.loadDomain` may change: free, resp, frozen, icu, cmp, dac, lane, shed, hedCnt, pwm, trip, pad, loomCfg, gov, tmr, dma, vrec, crerus, uart, i2c; registers of PD 0, 1, 2, 3, 4, 5, 6, 7, 8, 9, 10, 11, 12. -/
theorem State.loadDomain_moves (s : State) (d : ℕ) : Moves 0x7ffd800503bfb27 s (State.loadDomain s d) := by
  unfold State.loadDomain
  apply Moves.ite
  refine .step ?_ (State.loomUp_moves ..) (by decide)
  refine .step ?_ (State.domainLoads_moves ..) (by decide)
  refine .step ?_ (State.fuseFields_moves ..) (by decide)
  exact .refl ..
  refine .step ?_ (State.domainLoads_moves ..) (by decide)
  refine .step ?_ (State.fuseFields_moves ..) (by decide)
  exact .refl ..

/-- What `State.domainUp` may change: free, resp, frozen, icu, cmp, dac, lane, shed, hedCnt, pwm, trip, pad, loomCfg, gov, tmr, dma, vrec, warp, crerus, custody, pwr, uart, i2c; registers of PD 0, 1, 2, 3, 4, 5, 6, 7, 8, 9, 10, 11, 12. -/
theorem State.domainUp_moves (s : State) (d : ℕ) : Moves 0x7ffd844703bfb27 s (State.domainUp s d) := by
  unfold State.domainUp
  apply Moves.ite
  refine .step ?_ (State.bypassCheck_moves ..) (by decide)
  refine .step ?_ (State.upd_pwr_moves ..) (by decide)
  apply Moves.ite
  refine .step ?_ (State.formKeys_moves ..) (by decide)
  apply Moves.ite
  refine .step ?_ (State.upd_pwr_moves ..) (by decide)
  refine .step ?_ (State.set_moves (d := 0) (R.PWR_DOM_pd _)) (by decide)
  exact .refl ..
  refine .step ?_ (State.loadDomain_moves ..) (by decide)
  refine .step ?_ (State.set_moves (d := 0) (R.PWR_DOM_pd _)) (by decide)
  exact .refl ..
  apply Moves.ite
  refine .step ?_ (State.upd_pwr_moves ..) (by decide)
  refine .step ?_ (State.set_moves (d := 0) (R.PWR_DOM_pd _)) (by decide)
  exact .refl ..
  refine .step ?_ (State.loadDomain_moves ..) (by decide)
  refine .step ?_ (State.set_moves (d := 0) (R.PWR_DOM_pd _)) (by decide)
  exact .refl ..
  refine .step ?_ (State.bringUp_moves ..) (by decide)
  refine .step ?_ (State.bypassCheck_moves ..) (by decide)
  refine .step ?_ (State.upd_pwr_moves ..) (by decide)
  apply Moves.ite
  refine .step ?_ (State.formKeys_moves ..) (by decide)
  apply Moves.ite
  refine .step ?_ (State.upd_pwr_moves ..) (by decide)
  refine .step ?_ (State.set_moves (d := 0) (R.PWR_DOM_pd _)) (by decide)
  exact .refl ..
  refine .step ?_ (State.loadDomain_moves ..) (by decide)
  refine .step ?_ (State.set_moves (d := 0) (R.PWR_DOM_pd _)) (by decide)
  exact .refl ..
  apply Moves.ite
  refine .step ?_ (State.upd_pwr_moves ..) (by decide)
  refine .step ?_ (State.set_moves (d := 0) (R.PWR_DOM_pd _)) (by decide)
  exact .refl ..
  refine .step ?_ (State.loadDomain_moves ..) (by decide)
  refine .step ?_ (State.set_moves (d := 0) (R.PWR_DOM_pd _)) (by decide)
  exact .refl ..

/-- What `State.endExit` may change: free, resp, frozen, icu, cmp, lane, shed, hedCnt, pwm, trip, pad, loomCfg, gov, tmr, dma, core, vrec, crerus, pwr; registers of PD 0, 1, 2, 3, 4, 5, 6, 7, 8, 9, 10, 11, 12. -/
theorem State.endExit_moves (s : State) : Moves 0x7ffc040513bf927 s (State.endExit s) := by
  unfold State.endExit
  extract_lets +onlyGivenNames v3
  refine Moves.bindV (v := v3) ?_ ?_
  unfold v3
  apply Moves.ite
  refine .step ?_ (State.configureLoom_moves ..) (by decide)
  exact .refl ..
  exact .refl ..
  intro hv3
  clear_value v3
  refine .step ?_ (State.freeCores_moves ..) (by decide)
  refine .step ?_ (State.raise_moves ..) (by decide)
  refine .step ?_ (State.set_moves (d := 0) rfl) (by decide)
  refine .step ?_ (State.setPstate_moves ..) (by decide)
  assumption

end Sys2Proof.Machine
end

