-- ==== Sys2Proof/Laws/MovesBootRows.lean ====
section
/-!
SUPPORT. What each function of Machine/BootRows.lean may change.
-/

namespace Sys2Proof.Machine

/-- What `State.cutFlash` may change: free, mem. -/
theorem State.cutFlash_moves (s : State) : Moves 0x200000000001 s (State.cutFlash s) := by
  unfold State.cutFlash
  dsimp only
  split
  refine .step ?_ (State.flashTorn_moves ..) (by decide)
  split
  refine .step ?_ (State.flashTorn_moves ..) (by decide)
  exact .refl ..
  exact .refl ..
  split
  refine .step ?_ (State.flashTorn_moves ..) (by decide)
  exact .refl ..
  exact .refl ..

/-- What `State.aonReset` may change: free, resp, frozen, key, time, icu, adc, res, cmp, dac, rfm, lane, shed, hedCnt, pwm, trip, pad, loomCfg, fuseLoaded, gov, tmr, dma, dmaLast, health, core, ply, wld, seq, vrec, warp, crerus, queue, jrnl, flash, custody, lc, shadow, pwr, rst, clk, dbg, xspi, uart, i2c, mem; registers of PD 0, 1, 2, 3, 4, 5, 6, 7, 8, 9, 10, 11. -/
theorem State.aonReset_moves (s : State) : Moves 0x7ffffefffffffff s s.aonReset := by
  refine Moves.trans (.step (.refl ..) (State.cutFlash_moves s) (by decide)) ?_
  unfold State.aonReset
  dsimp only
  generalize s.cutFlash = u
  refine ⟨rfl, fun p k => ?_, fun w => ⟨memWf_filter w.mem _, regsFit_set ?_ _ _, fun r h => nomatch h⟩⟩
  · cases p <;> first | exact absurd k (by decide) | rfl | exact (not_pd (by decide) k).elim
  · intro x hx
    obtain rfl := List.mem_singleton.mp hx
    decide

/-- What `State.batteryReturn` may change: frozen, key, time, icu, adc, res, cmp, dac, rfm, lane, shed, hedCnt, pwm, trip, pad, loomCfg, fuseLoaded, gov, tmr, dma, dmaLast, core, ply, wld, seq, vrec, warp, crerus, queue, jrnl, flash, custody, lc, shadow, pwr, rst, clk, dbg, xspi, uart, i2c, mem; registers of PD 0, 1, 2, 3, 4, 5, 6, 7, 8, 9, 10, 11. -/
theorem State.batteryReturn_moves (s : State) : Moves 0x7ffffefff7ffffc s (State.batteryReturn s) := by
  unfold State.batteryReturn
  refine .step ?_ (State.set_moves (d := 0) rfl) (by decide)
  refine .step ?_ (State.sysReset_moves ..) (by decide)
  exact .refl ..

/-- What `State.loadStrand` may change: mem. -/
theorem State.loadStrand_moves (s : State) (d : Draft) (k : ℕ) : Moves 0x200000000000 s (State.loadStrand s d k) := by
  unfold State.loadStrand
  refine .step ?_ (State.wrBytes_moves ..) (by decide)
  refine .step ?_ (State.wrBytes_moves ..) (by decide)
  refine .step ?_ (State.wipe_moves ..) (by decide)
  refine .step ?_ (State.wipe_moves ..) (by decide)
  exact .refl ..

/-- What `State.releaseCore` may change: core. -/
theorem State.releaseCore_moves (s : State) (c : ℕ) (pc : ℕ) : Moves 0x1000000 s (State.releaseCore s c pc) := by
  unfold State.releaseCore
  refine .step ?_ (State.updCore_moves ..) (by decide)
  exact .refl ..

/-- What `State.releaseCores` may change: core. -/
theorem State.releaseCores_moves (s : State) : Moves 0x1000000 s (State.releaseCores s) := by
  unfold State.releaseCores
  refine Moves.foldl ?_ ?_
  exact .refl ..
  intro u3_0 u3_1
  refine .step ?_ (State.releaseCore_moves ..) (by decide)
  exact .refl ..

/-- What `State.releasePly` may change: free, resp, frozen, icu, cmp, dac, lane, shed, hedCnt, pwm, trip, pad, loomCfg, gov, tmr, dma, core, wld, vrec, crerus, uart, i2c, mem; registers of PD 0, 1, 2, 3, 4, 5, 6, 7, 8, 9, 10, 11, 12. -/
theorem State.releasePly_moves (s : State) (cause : ℕ) : Moves 0x7fff800553bfb27 s (State.releasePly s cause) := by
  unfold State.releasePly
  apply Moves.ite
  refine .step ?_ (State.set_moves (d := 0) rfl) (by decide)
  exact .refl ..
  extract_lets +onlyGivenNames v3
  refine Moves.bindV (v := v3) ?_ ?_
  unfold v3
  refine Moves.foldl ?_ ?_
  refine .step ?_ (State.set_moves (d := 0) rfl) (by decide)
  exact .refl ..
  intro u4_0 u4_1
  apply Moves.ite
  exact .refl ..
  refine .step ?_ (State.loadDomain_moves ..) (by decide)
  refine .step ?_ (State.set_moves (d := 0) (R.PWR_DOM_pd _)) (by decide)
  exact .refl ..
  intro hv3
  clear_value v3
  apply Moves.ite
  refine .step ?_ (State.releaseCores_moves ..) (by decide)
  refine .step ?_ (State.beginLoad_moves ..) (by decide)
  refine Moves.foldl ?_ ?_
  assumption
  intro u5_0 u5_1
  refine .step ?_ (State.loadStrand_moves ..) (by decide)
  exact .refl ..
  refine .step ?_ (State.journal_moves ..) (by decide)
  refine .step ?_ (State.set_moves (d := 0) rfl) (by decide)
  refine Moves.foldl ?_ ?_
  assumption
  intro u6_0 u6_1
  refine .step ?_ (State.loadStrand_moves ..) (by decide)
  exact .refl ..

/-- What `State.plyClear` may change: frozen, time, icu, adc, res, cmp, dac, rfm, lane, shed, hedCnt, pwm, trip, loomCfg, gov, tmr, dma, dmaLast, core, ply, warp, crerus, queue, jrnl, custody, pwr, xspi, uart, i2c, mem; registers of PD 0, 1, 2, 3, 4, 5, 6, 7, 8, 9, 10, 11, 12. -/
theorem State.plyClear_moves (s : State) : Moves 0x7fffc45e37afff4 s (State.plyClear s) := by
  unfold State.plyClear
  extract_lets +onlyGivenNames v3
  refine Moves.bindV (v := v3) ?_ ?_
  unfold v3
  refine Moves.foldl ?_ ?_
  exact .refl ..
  intro u4_0 u4_1
  apply Moves.ite
  exact .refl ..
  refine .step ?_ (State.loseDomain_moves ..) (by decide)
  refine .step ?_ (State.set_moves (d := 0) (R.PWR_DOM_pd _)) (by decide)
  exact .refl ..
  intro hv3
  clear_value v3
  refine .step ?_ (State.upd_trip_core_ply_pwr_moves ..) (by decide)
  assumption

/-- What `State.plyDebug` may change: registers of PD 0. -/
theorem State.plyDebug_moves (s : State) : Moves 0x400000000000 s (State.plyDebug s) := by
  unfold State.plyDebug
  refine Moves.foldl ?_ ?_
  refine .step ?_ (State.set_moves (d := 0) rfl) (by decide)
  refine .step ?_ (State.set_moves (d := 0) rfl) (by decide)
  exact .refl ..
  intro u2_0 u2_1
  apply Moves.ite
  exact .refl ..
  refine .step ?_ (State.set_moves (d := 0) rfl) (by decide)
  exact .refl ..

/-- What `State.plyRestart` may change: free, resp, frozen, time, icu, adc, res, cmp, dac, rfm, lane, shed, hedCnt, pwm, trip, pad, loomCfg, gov, tmr, dma, dmaLast, core, ply, wld, vrec, warp, crerus, queue, jrnl, custody, pwr, xspi, uart, i2c, mem; registers of PD 0, 1, 2, 3, 4, 5, 6, 7, 8, 9, 10, 11. -/
theorem State.plyRestart_moves (s : State) : Moves 0x7fffc45f77bfff7 s (State.plyRestart s) := by
  unfold State.plyRestart
  refine .step ?_ (State.plyDebug_moves ..) (by decide)
  refine .step ?_ (State.releasePly_moves ..) (by decide)
  apply Moves.ite
  refine .step ?_ (State.icuRestart_moves ..) (by decide)
  refine Moves.foldl ?_ ?_
  refine .step ?_ (State.plyClear_moves ..) (by decide)
  exact .refl ..
  intro u2_0 u2_1
  refine .step ?_ (State.set_any ..) (by decide)
  exact .refl ..
  refine Moves.foldl ?_ ?_
  refine .step ?_ (State.plyClear_moves ..) (by decide)
  exact .refl ..
  intro u2_0 u2_1
  refine .step ?_ (State.set_any ..) (by decide)
  exact .refl ..

/-- What `State.bootStart` may change: pad, fuseLoaded, health, shadow, rst; registers of PD 0, 3, 6. -/
theorem State.bootStart_moves (s : State) (margin : ℕ) (bootsel : Bool) : Moves 0x1240a000850000 s (State.bootStart s margin bootsel) := by
  unfold State.bootStart
  refine .step ?_ (State.set_moves (d := 0) rfl) (by decide)
  refine .step ?_ (State.set_moves (d := 0) rfl) (by decide)
  refine .step ?_ (State.set_moves (d := 0) rfl) (by decide)
  apply Moves.ite
  refine .step ?_ (State.fusedPads_moves ..) (by decide)
  refine .step ?_ (State.loadShadow_moves ..) (by decide)
  refine .step ?_ (State.setB_moves (d := 0) rfl) (by decide)
  refine .step ?_ (State.upd_rst_moves ..) (by decide)
  apply Moves.ite
  refine .step ?_ (State.setB_moves (d := 0) rfl) (by decide)
  refine .step ?_ (State.set_moves (d := 0) rfl) (by decide)
  exact .refl ..
  refine .step ?_ (State.inc_moves (d := 0) rfl) (by decide)
  refine .step ?_ (State.setB_moves (d := 0) rfl) (by decide)
  refine .step ?_ (State.set_moves (d := 0) rfl) (by decide)
  exact .refl ..
  refine .step ?_ (State.loadShadow_moves ..) (by decide)
  refine .step ?_ (State.setB_moves (d := 0) rfl) (by decide)
  refine .step ?_ (State.upd_rst_moves ..) (by decide)
  apply Moves.ite
  refine .step ?_ (State.setB_moves (d := 0) rfl) (by decide)
  refine .step ?_ (State.set_moves (d := 0) rfl) (by decide)
  exact .refl ..
  refine .step ?_ (State.inc_moves (d := 0) rfl) (by decide)
  refine .step ?_ (State.setB_moves (d := 0) rfl) (by decide)
  refine .step ?_ (State.set_moves (d := 0) rfl) (by decide)
  exact .refl ..

/-- What `State.bootResume` may change: lc; registers of PD 0. -/
theorem State.bootResume_moves (s : State) (slot : ℕ) : Moves 0x400800000000 s (State.bootResume s slot) := by
  unfold State.bootResume
  refine .step ?_ (State.set_moves (d := 0) rfl) (by decide)
  refine .step ?_ (State.set_moves (d := 0) rfl) (by decide)
  refine .step ?_ (State.set_moves (d := 0) rfl) (by decide)
  refine .step ?_ (State.set_moves (d := 0) rfl) (by decide)
  refine .step ?_ (State.upd_lc_moves ..) (by decide)
  exact .refl ..

/-- What `State.bootDomains` may change: registers of PD 0, 10. -/
theorem State.bootDomains_moves (s : State) (vioa33 : Bool) : Moves 0x100400000000000 s (State.bootDomains s vioa33) := by
  unfold State.bootDomains
  refine .step ?_ (State.set_moves (d := 0) rfl) (by decide)
  refine .step ?_ (State.setB_moves (d := 10) rfl) (by decide)
  refine .step ?_ (State.set_moves (d := 0) rfl) (by decide)
  refine .step ?_ (State.set_moves (d := 0) rfl) (by decide)
  refine Moves.foldl ?_ ?_
  exact .refl ..
  intro u3_0 u3_1
  refine .step ?_ (State.set_moves (d := 0) (R.PWR_DOM_pd _)) (by decide)
  exact .refl ..

/-- What `State.useDraft` may change: crerus; registers of PD 0. -/
theorem State.useDraft_moves (s : State) (n : ℕ) (d : Draft) : Moves 0x400040000000 s (State.useDraft s n d) := by
  unfold State.useDraft
  refine .step ?_ (State.upd_crerus_moves ..) (by decide)
  refine .step ?_ (State.set_moves (d := 0) rfl) (by decide)
  refine .step ?_ (State.set_moves (d := 0) rfl) (by decide)
  exact .refl ..

/-- What `State.bootDraft` may change: health, crerus; registers of PD 0. -/
theorem State.bootDraft_moves (s : State) : Moves 0x400040800000 s (State.bootDraft s) := by
  unfold State.bootDraft
  apply Moves.ite
  refine .step ?_ (State.set_moves (d := 0) rfl) (by decide)
  refine .step ?_ (State.useDraft_moves ..) (by decide)
  exact .refl ..
  dsimp only
  split
  refine .step ?_ (State.useDraft_moves ..) (by decide)
  refine .step ?_ (State.set_moves (d := 0) rfl) (by decide)
  refine .step ?_ (State.set_moves (d := 0) rfl) (by decide)
  exact .refl ..
  refine .step ?_ (State.advise_moves ..) (by decide)
  refine .step ?_ (State.set_moves (d := 0) rfl) (by decide)
  refine .step ?_ (State.useDraft_moves ..) (by decide)
  refine .step ?_ (State.set_moves (d := 0) rfl) (by decide)
  refine .step ?_ (State.set_moves (d := 0) rfl) (by decide)
  exact .refl ..

/-- What `State.bootLoads` may change: free, frozen, icu, cmp, dac, pwm, warp, uart, i2c; registers of PD 0, 1, 2, 3, 4, 5, 6, 7, 8, 9, 10, 11, 12. -/
theorem State.bootLoads_moves (s : State) : Moves 0x7ffd80020004325 s (State.bootLoads s) := by
  unfold State.bootLoads
  refine .step ?_ (State.set_moves (d := 0) rfl) (by decide)
  refine .step ?_ (State.bypassCheck_moves ..) (by decide)
  refine .step ?_ (State.set_moves (d := 0) rfl) (by decide)
  refine Moves.foldl ?_ ?_
  exact .refl ..
  intro u3_0 u3_1
  refine .step ?_ (State.domainLoads_moves ..) (by decide)
  exact .refl ..

/-- What `State.bootPll` may change: health; registers of PD 0. -/
theorem State.bootPll_moves (s : State) (refs : ℕ) : Moves 0x400000800000 s (State.bootPll s refs) := by
  unfold State.bootPll
  apply Moves.ite
  refine .step ?_ (State.advise_moves ..) (by decide)
  refine .step ?_ (State.setB_moves (d := 0) rfl) (by decide)
  refine .step ?_ (State.set_moves (d := 0) rfl) (by decide)
  exact .refl ..
  refine .step ?_ (State.setB_moves (d := 0) rfl) (by decide)
  refine .step ?_ (State.set_moves (d := 0) rfl) (by decide)
  exact .refl ..

/-- What `State.bootLoom` may change: free, resp, frozen, icu, cmp, dac, lane, shed, hedCnt, pwm, trip, pad, loomCfg, gov, tmr, dma, vrec, crerus, uart, i2c; registers of PD 0, 1, 2, 3, 4, 5, 6, 7, 8, 9, 10, 11, 12. -/
theorem State.bootLoom_moves (s : State) : Moves 0x7ffd800503bfb27 s (State.bootLoom s) := by
  unfold State.bootLoom
  refine .step ?_ (State.set_moves (d := 0) rfl) (by decide)
  refine .step ?_ (State.configureLoom_moves ..) (by decide)
  refine .step ?_ (State.set_moves (d := 0) rfl) (by decide)
  refine .step ?_ (State.domainLoads_moves ..) (by decide)
  refine .step ?_ (State.set_moves (d := 0) rfl) (by decide)
  exact .refl ..

/-- What `State.bootStrands` may change: free, resp, frozen, icu, cmp, dac, lane, shed, hedCnt, pwm, trip, pad, loomCfg, gov, tmr, dma, core, wld, vrec, crerus, uart, i2c, mem; registers of PD 0, 1, 2, 3, 4, 5, 6, 7, 8, 9, 10, 11, 12. -/
theorem State.bootStrands_moves (s : State) : Moves 0x7fff800553bfb27 s (State.bootStrands s) := by
  unfold State.bootStrands
  split
  refine .step ?_ (State.set_moves (d := 0) rfl) (by decide)
  refine .step ?_ (State.set_moves (d := 0) rfl) (by decide)
  refine .step ?_ (Moves.snd (State.freeN_moves ..) (by assumption)) (by decide)
  refine .step ?_ (State.releasePly_moves ..) (by decide)
  exact .refl ..

/-- What `State.bootOn` may change: free, resp, frozen, icu, cmp, dac, lane, shed, hedCnt, pwm, trip, pad, loomCfg, gov, tmr, dma, health, core, wld, vrec, warp, crerus, uart, i2c, mem; registers of PD 0, 1, 2, 3, 4, 5, 6, 7, 8, 9, 10, 11. -/
theorem State.bootOn_moves (s : State) (vioa33 : Bool) (refs : ℕ) : Moves 0x7fff80075bbfb27 s (State.bootOn s vioa33 refs) := by
  unfold State.bootOn
  apply Moves.ite
  refine .step ?_ (State.bypassCheck_moves ..) (by decide)
  refine .step ?_ (State.upd_crerus_moves ..) (by decide)
  refine .step ?_ (State.bootDomains_moves ..) (by decide)
  exact .refl ..
  refine .step ?_ (State.bootStrands_moves ..) (by decide)
  refine .step ?_ (State.bootLoom_moves ..) (by decide)
  refine .step ?_ (State.bootPll_moves ..) (by decide)
  refine .step ?_ (State.bootLoads_moves ..) (by decide)
  refine .step ?_ (State.bootDraft_moves ..) (by decide)
  refine .step ?_ (State.set_moves (d := 0) rfl) (by decide)
  refine .step ?_ (State.fwChoose_moves ..) (by decide)
  refine .step ?_ (State.bootDomains_moves ..) (by decide)
  exact .refl ..

/-- What `State.release` may change: free, resp, frozen, icu, cmp, dac, lane, shed, hedCnt, pwm, trip, pad, loomCfg, fuseLoaded, gov, tmr, dma, health, core, wld, vrec, warp, crerus, lc, shadow, rst, uart, i2c, mem; registers of PD 0, 1, 2, 3, 4, 5, 6, 7, 8, 9, 10, 11. -/
theorem State.release_moves (s : State) (margin : ℕ) (bootsel : Bool) (vioa33 : Bool) (refs : ℕ) : Moves 0x7fff8a875bffb27 s (State.release s margin bootsel vioa33 refs) := by
  unfold State.release
  dsimp only
  split
  refine .step ?_ (State.bootResume_moves ..) (by decide)
  refine .step ?_ (State.bootStart_moves ..) (by decide)
  exact .refl ..
  refine .step ?_ (State.bootOn_moves ..) (by decide)
  refine .step ?_ (State.bootStart_moves ..) (by decide)
  exact .refl ..

end Sys2Proof.Machine
end

