-- ==== Sys2Proof/Laws/MovesBusOps.lean ====
section
/-!
SUPPORT. What each function of Machine/BusOps.lean may change.
-/

namespace Sys2Proof.Machine

/-- What `State.tcmWrite` may change: mem. -/
theorem State.tcmWrite_moves (s : State) (key : ℕ → ℕ → ℕ) (k : ℕ) (off : ℕ) (n : ℕ) (v : ℕ) : Moves 0x200000000000 s (State.tcmWrite s key k off n v) := by
  unfold State.tcmWrite
  refine Moves.foldl ?_ ?_
  exact .refl ..
  intro u7_0 u7_1
  refine .step ?_ (State.tcmPut_moves ..) (by decide)
  exact .refl ..

/-- What `State.busIoRead` may change: free, resp, time, icu, uart, i2c; registers of PD 0, 6, 7, 10. -/
theorem State.busIoRead_moves (s : State) (q : Req) (a : ℕ) (n : ℕ) (quiet : Bool) : Moves 0x130580000000033 s (State.busIoRead s q a n quiet).2.2 := by
  unfold State.busIoRead
  apply Moves.ite22
  refine .step ?_ (State.ioRead_moves ..) (by decide)
  exact .refl ..
  refine .step ?_ (State.ioRead_moves ..) (by decide)
  refine .step ?_ (State.ioRead_moves ..) (by decide)
  exact .refl ..

/-- What `State.busIoWrite` may change: free, resp, frozen, key, time, icu, adc, res, cmp, dac, rfm, lane, shed, hedCnt, pwm, trip, pad, loomCfg, fuseLoaded, gov, tmr, dma, dmaLast, health, core, ply, wld, seq, vrec, warp, crerus, queue, jrnl, flash, custody, lc, shadow, pwr, rst, clk, dbg, xspi, uart, i2c, mem; registers of PD 0, 1, 2, 3, 4, 5, 6, 7, 8, 9, 10, 11. -/
theorem State.busIoWrite_moves (s : State) (q : Req) (a : ℕ) (n : ℕ) (v : ℕ) : Moves 0x7ffffefffffffff s (State.busIoWrite s q a n v).2 := by
  unfold State.busIoWrite
  apply Moves.ite2
  refine .step ?_ (State.ioWrite_moves ..) (by decide)
  exact .refl ..
  refine .step ?_ (State.ioWrite_moves ..) (by decide)
  refine .step ?_ (State.ioWrite_moves ..) (by decide)
  exact .refl ..

/-- What `State.busFlash` may change: icu, health, flash; registers of PD 0, 2, 6. -/
theorem State.busFlash_moves (s : State) (b : ℕ) (a : ℕ) (n : ℕ) (quiet : Bool) : Moves 0x11400200800020 s (State.busFlash s b a n quiet).2.2 := by
  unfold State.busFlash
  split
  apply Moves.ite22
  apply Moves.ite
  exact .refl ..
  refine Moves.rec2 ?_ ?_
  intro u10_0
  apply Moves.ite2
  refine .step ?_ (State.eccWindow_moves ..) (by decide)
  refine .step ?_ (State.flagRise_moves (d := 2) rfl) (by decide)
  apply Moves.ite
  refine .step ?_ (State.inc_moves (d := 2) rfl) (by decide)
  exact .refl ..
  refine .step ?_ (State.set_moves (d := 2) rfl) (by decide)
  refine .step ?_ (State.inc_moves (d := 2) rfl) (by decide)
  exact .refl ..
  exact .refl ..
  intro u10_0
  refine .step ?_ (State.flagRise_moves (d := 2) rfl) (by decide)
  apply Moves.ite
  refine .step ?_ (State.inc_moves (d := 2) rfl) (by decide)
  exact .refl ..
  refine .step ?_ (State.set_moves (d := 2) rfl) (by decide)
  refine .step ?_ (State.inc_moves (d := 2) rfl) (by decide)
  exact .refl ..
  apply Moves.ite
  exact .refl ..
  refine Moves.rec2 ?_ ?_
  intro u10_0
  apply Moves.ite2
  refine .step ?_ (State.eccWindow_moves ..) (by decide)
  refine .step ?_ (State.flagRise_moves (d := 2) rfl) (by decide)
  apply Moves.ite
  refine .step ?_ (State.inc_moves (d := 2) rfl) (by decide)
  exact .refl ..
  refine .step ?_ (State.set_moves (d := 2) rfl) (by decide)
  refine .step ?_ (State.inc_moves (d := 2) rfl) (by decide)
  exact .refl ..
  exact .refl ..
  intro u10_0
  refine .step ?_ (State.flagRise_moves (d := 2) rfl) (by decide)
  apply Moves.ite
  refine .step ?_ (State.inc_moves (d := 2) rfl) (by decide)
  exact .refl ..
  refine .step ?_ (State.set_moves (d := 2) rfl) (by decide)
  refine .step ?_ (State.inc_moves (d := 2) rfl) (by decide)
  exact .refl ..
  exact .refl ..

/-- What `State.busRead` may change: free, resp, time, icu, health, flash, uart, i2c; registers of PD 0, 2, 6, 7, 10. -/
theorem State.busRead_moves (s : State) (q : Req) (smem : Bool) (a : ℕ) (n : ℕ) (quiet : Bool) : Moves 0x131580200800033 s (State.busRead s q smem a n quiet).2.2 := by
  unfold State.busRead
  split
  exact .refl ..
  apply Moves.ite22
  exact .refl ..
  exact .refl ..
  refine .step ?_ (State.busFlash_moves ..) (by decide)
  exact .refl ..
  apply Moves.ite22
  refine .step ?_ (State.busFlash_moves ..) (by decide)
  exact .refl ..
  exact .refl ..
  exact .refl ..
  refine .step ?_ (State.busIoRead_moves ..) (by decide)
  exact .refl ..
  exact .refl ..

/-- What `State.busWrite` may change: free, resp, frozen, key, time, icu, adc, res, cmp, dac, rfm, lane, shed, hedCnt, pwm, trip, pad, loomCfg, fuseLoaded, gov, tmr, dma, dmaLast, health, core, ply, wld, seq, vrec, warp, crerus, queue, jrnl, flash, custody, lc, shadow, pwr, rst, clk, dbg, xspi, uart, i2c, mem; registers of PD 0, 1, 2, 3, 4, 5, 6, 7, 8, 9, 10, 11. -/
theorem State.busWrite_moves (s : State) (q : Req) (smem : Bool) (a : ℕ) (n : ℕ) (v : ℕ) : Moves 0x7ffffefffffffff s (State.busWrite s q smem a n v).2 := by
  unfold State.busWrite
  split
  apply Moves.ite
  refine .step ?_ (State.dropRes_moves ..) (by decide)
  refine .step ?_ (State.tcmWrite_moves ..) (by decide)
  exact .refl ..
  exact .refl ..
  exact .refl ..
  exact .refl ..
  exact .refl ..
  apply Moves.ite
  refine .step ?_ (State.dropRes_moves ..) (by decide)
  refine .step ?_ (State.setBytes_moves ..) (by decide)
  exact .refl ..
  exact .refl ..
  refine .step ?_ (State.busIoWrite_moves ..) (by decide)
  exact .refl ..
  exact .refl ..

end Sys2Proof.Machine
end

