-- ==== Sys2Proof/Laws/MovesCrerusRows.lean ====
section
/-!
SUPPORT. What each function of Machine/CrerusRows.lean may change.
-/

namespace Sys2Proof.Machine

/-- What `State.getKey` may change: icu, wld, warp, crerus, mem; registers of PD 0, 1, 6, 10. -/
theorem State.getKey_moves (s : State) (j : Job) : Moves 0x110e00064000020 s (State.getKey s j) := by
  unfold State.getKey
  apply Moves.ite
  refine .step ?_ (State.finish_moves ..) (by decide)
  exact .refl ..
  refine .step ?_ (State.finish_moves ..) (by decide)
  exact .refl ..

/-- What `State.getJob` may change: icu, wld, warp, crerus, mem; registers of PD 0, 1, 6, 10. -/
theorem State.getJob_moves (s : State) (j : Job) : Moves 0x110e00064000020 s (State.getJob s j) := by
  unfold State.getJob
  apply Moves.ite
  apply Moves.ite
  refine .step ?_ (State.getKey_moves ..) (by decide)
  exact .refl ..
  refine .step ?_ (State.finish_moves ..) (by decide)
  exact .refl ..
  apply Moves.ite
  refine .step ?_ (State.finish_moves ..) (by decide)
  exact .refl ..
  apply Moves.ite
  refine .step ?_ (State.finish_moves ..) (by decide)
  exact .refl ..
  apply Moves.ite
  refine .step ?_ (State.finish_moves ..) (by decide)
  exact .refl ..
  split
  refine .step ?_ (State.finish_moves ..) (by decide)
  exact .refl ..
  refine .step ?_ (State.finish_moves ..) (by decide)
  exact .refl ..

/-- What `State.setJob` may change: free, resp, frozen, key, time, icu, adc, res, cmp, dac, rfm, lane, shed, hedCnt, pwm, trip, pad, loomCfg, fuseLoaded, gov, tmr, dma, dmaLast, health, core, ply, wld, seq, vrec, warp, crerus, queue, jrnl, flash, custody, lc, shadow, pwr, rst, clk, dbg, xspi, uart, i2c, mem; registers of PD 0, 1, 2, 3, 4, 5, 6, 7, 8, 9, 10, 11. -/
theorem State.setJob_moves (s : State) (j : Job) : Moves 0x7ffffefffffffff s (State.setJob s j) := by
  unfold State.setJob
  split
  refine .step ?_ (State.finish_moves ..) (by decide)
  exact .refl ..
  apply Moves.ite
  refine .step ?_ (State.applyJob_moves ..) (by decide)
  refine .step ?_ (State.putPend_moves ..) (by decide)
  exact .refl ..
  refine .step ?_ (State.finish_moves ..) (by decide)
  refine .step ?_ (State.putPend_moves ..) (by decide)
  exact .refl ..

/-- What `State.applyPending` may change: free, resp, frozen, key, time, icu, adc, res, cmp, dac, rfm, lane, shed, hedCnt, pwm, trip, pad, loomCfg, fuseLoaded, gov, tmr, dma, dmaLast, health, core, ply, wld, seq, vrec, warp, crerus, queue, jrnl, flash, custody, lc, shadow, pwr, rst, clk, dbg, xspi, uart, i2c, mem; registers of PD 0, 1, 2, 3, 4, 5, 6, 7, 8, 9, 10, 11. -/
theorem State.applyPending_moves (s : State) (j : Job) : Moves 0x7ffffefffffffff s (State.applyPending s j) := by
  unfold State.applyPending
  split
  refine .step ?_ (State.finish_moves ..) (by decide)
  exact .refl ..
  apply Moves.ite
  refine .step ?_ (State.finish_moves ..) (by decide)
  exact .refl ..
  refine .step ?_ (State.applyJob_moves ..) (by decide)
  exact .refl ..

/-- What `State.stageFw` may change: icu, wld, warp, crerus, flash, mem; registers of PD 0, 1, 2, 6, 10. -/
theorem State.stageFw_moves (s : State) (j : Job) : Moves 0x111e00264000020 s (State.stageFw s j) := by
  unfold State.stageFw
  apply Moves.ite
  refine .step ?_ (State.finish_moves ..) (by decide)
  exact .refl ..
  refine .trans ?_ (State.withFlash_moves _ _ _ ?_ (by decide))
  exact .refl ..
  intro u3_0
  apply Moves.ite
  refine .step ?_ (State.finish_moves ..) (by decide)
  apply Moves.ite
  refine .step ?_ (State.upd_crerus_moves ..) (by decide)
  exact .refl ..
  exact .refl ..
  refine .step ?_ (State.suspend_moves ..) (by decide)
  refine .step ?_ (State.setFlashOp_moves ..) (by decide)
  apply Moves.ite
  refine .step ?_ (State.upd_crerus_moves ..) (by decide)
  exact .refl ..
  exact .refl ..

/-- What `State.stageDraft` may change: icu, wld, warp, crerus, mem; registers of PD 0, 1, 6, 10. -/
theorem State.stageDraft_moves (s : State) (j : Job) : Moves 0x110e00064000020 s (State.stageDraft s j) := by
  unfold State.stageDraft
  apply Moves.ite
  refine .step ?_ (State.finish_moves ..) (by decide)
  exact .refl ..
  refine .step ?_ (State.finish_moves ..) (by decide)
  refine .step ?_ (State.wrBytes_moves ..) (by decide)
  exact .refl ..

/-- What `State.attest` may change: free, icu, wld, warp, crerus, mem; registers of PD 0, 1, 6, 10. -/
theorem State.attest_moves (s : State) (j : Job) : Moves 0x110e00064000021 s (State.attest s j) := by
  unfold State.attest
  refine .trans ?_ (State.withEngine_moves _ _ _ ?_ (by decide))
  exact .refl ..
  intro u3_0
  apply Moves.ite
  refine .step ?_ (State.finish_moves ..) (by decide)
  exact .refl ..
  refine .step ?_ (State.finish_moves ..) (by decide)
  refine .step ?_ (State.upd_free_moves ..) (by decide)
  exact .refl ..

/-- What `State.wipeKey` may change: icu, wld, warp, crerus, custody, mem; registers of PD 0, 1, 6, 10. -/
theorem State.wipeKey_moves (s : State) (j : Job) : Moves 0x110e00464000020 s (State.wipeKey s j) := by
  unfold State.wipeKey
  apply Moves.ite
  refine .step ?_ (State.finish_moves ..) (by decide)
  refine .step ?_ (State.zeroSlots_moves ..) (by decide)
  exact .refl ..
  apply Moves.ite
  refine .step ?_ (State.finish_moves ..) (by decide)
  exact .refl ..
  refine .step ?_ (State.finish_moves ..) (by decide)
  refine .step ?_ (State.putSlot_moves ..) (by decide)
  exact .refl ..

/-- What `State.watch` may change: icu, wld, warp, crerus, mem; registers of PD 0, 1, 6, 10. -/
theorem State.watch_moves (s : State) (j : Job) : Moves 0x110e00064000020 s (State.watch s j) := by
  unfold State.watch
  refine .step ?_ (State.finish_moves ..) (by decide)
  refine .step ?_ (State.upd_crerus_moves ..) (by decide)
  exact .refl ..

/-- What `State.forget` may change: icu, wld, warp, crerus, mem; registers of PD 0, 1, 6, 10. -/
theorem State.forget_moves (s : State) (j : Job) : Moves 0x110e00064000020 s (State.forget s j) := by
  unfold State.forget
  refine .step ?_ (State.finish_moves ..) (by decide)
  refine .step ?_ (State.upd_crerus_moves ..) (by decide)
  exact .refl ..

/-- What `State.lookSub` may change: crerus; registers of PD 10. -/
theorem State.lookSub_moves (s : State) (i : ℕ) : Moves 0x100000040000000 s (State.lookSub s i) := by
  unfold State.lookSub
  refine .step ?_ (State.noteChange_moves ..) (by decide)
  exact .refl ..

/-- What `State.lookSubs` may change: crerus; registers of PD 10. -/
theorem State.lookSubs_moves (s : State) : Moves 0x100000040000000 s (State.lookSubs s) := by
  unfold State.lookSubs
  refine Moves.foldl ?_ ?_
  exact .refl ..
  intro u2_0 u2_1
  refine .step ?_ (State.lookSub_moves ..) (by decide)
  exact .refl ..

/-- What `State.sendNotice` may change: icu, mem; registers of PD 1, 6, 10. -/
theorem State.sendNotice_moves (s : State) (x : Sub) : Moves 0x110a00000000020 s (State.sendNotice s x) := by
  unfold State.sendNotice
  apply Moves.ite
  refine .step ?_ (State.putHost_moves ..) (by decide)
  exact .refl ..
  refine .step ?_ (State.putLocal_moves ..) (by decide)
  exact .refl ..

/-- What `State.deliverNotice` may change: icu, crerus, mem; registers of PD 1, 6, 10. -/
theorem State.deliverNotice_moves (s : State) (i : ℕ) : Moves 0x110a00040000020 s (State.deliverNotice s i) := by
  unfold State.deliverNotice
  dsimp only
  split
  refine .step ?_ (State.sendNotice_moves ..) (by decide)
  refine .step ?_ (State.upd_crerus_moves ..) (by decide)
  refine .step ?_ (State.lookSubs_moves ..) (by decide)
  exact .refl ..
  refine .step ?_ (State.sendNotice_moves ..) (by decide)
  refine .step ?_ (State.upd_crerus_moves ..) (by decide)
  refine .step ?_ (State.lookSubs_moves ..) (by decide)
  exact .refl ..
  refine .step ?_ (State.lookSubs_moves ..) (by decide)
  exact .refl ..

/-- What `State.withWarp` may change: icu, wld, warp, crerus, mem; registers of PD 0, 1, 6, 10. -/
theorem State.withWarp_moves {K : Nat} (s : State) (j : Job) (f : State → State) (hf : ∀ x0, Moves K x0 (f x0)) (e : 0x110e00064000020 ||| K = K) : Moves K s (State.withWarp s j f) := by
  unfold State.withWarp
  apply Moves.ite
  refine .trans ?_ (hf ..)
  exact .refl ..
  refine .step ?_ (State.finish_moves ..) (sub_of (by decide) e)
  exact .refl ..

/-- What `State.sendFor` may change: warp, crerus. -/
theorem State.sendFor_moves (s : State) (j : Job) (dst : ℕ) (b : List ℕ) : Moves 0x60000000 s (State.sendFor s j dst b) := by
  unfold State.sendFor
  refine .step ?_ (State.suspend_moves ..) (by decide)
  refine .step ?_ (State.openSend_moves ..) (by decide)
  exact .refl ..

/-- What `State.gstart` may change: icu, wld, warp, crerus, mem; registers of PD 0, 1, 6, 10. -/
theorem State.gstart_moves (s : State) (j : Job) : Moves 0x110e00064000020 s (State.gstart s j) := by
  unfold State.gstart
  apply Moves.ite
  apply Moves.ite
  refine .step ?_ (State.finish_moves ..) (by decide)
  exact .refl ..
  refine .step ?_ (State.suspend_moves ..) (by decide)
  refine .step ?_ (State.queueFrame_moves ..) (by decide)
  exact .refl ..
  refine .step ?_ (State.sendFor_moves ..) (by decide)
  exact .refl ..

/-- What `State.warpSend` may change: icu, wld, warp, crerus, mem; registers of PD 0, 1, 6, 10. -/
theorem State.warpSend_moves (s : State) (j : Job) : Moves 0x110e00064000020 s (State.warpSend s j) := by
  unfold State.warpSend
  apply Moves.ite
  refine .step ?_ (State.finish_moves ..) (by decide)
  exact .refl ..
  refine .step ?_ (State.sendFor_moves ..) (by decide)
  exact .refl ..

/-- What `State.lcJob` may change: icu, core, wld, warp, crerus, lc, mem; registers of PD 0, 1, 6, 10. -/
theorem State.lcJob_moves (s : State) (j : Job) (t : ℕ) (scrap : Bool) (tok : Option (List ℕ)) : Moves 0x110e00865000020 s (State.lcJob s j t scrap tok) := by
  unfold State.lcJob
  split
  refine .step ?_ (State.finish_moves ..) (by decide)
  refine .step ?_ (Moves.snd (State.lcRequest_moves ..) (by assumption)) (by decide)
  exact .refl ..
  refine .step ?_ (State.suspend_moves ..) (by decide)
  refine .step ?_ (Moves.snd (State.lcRequest_moves ..) (by assumption)) (by decide)
  exact .refl ..

/-- What `State.withDrbg` may change: icu, wld, warp, crerus, mem; registers of PD 0, 1, 6, 10. -/
theorem State.withDrbg_moves {K : Nat} (s : State) (j : Job) (f : State → State) (hf : ∀ x0, Moves K x0 (f x0)) (e : 0x110e00064000020 ||| K = K) : Moves K s (State.withDrbg s j f) := by
  unfold State.withDrbg
  refine .trans ?_ (State.withEngine_moves _ _ _ ?_ (sub_of (by decide) e))
  exact .refl ..
  intro u7_0
  apply Moves.ite
  refine .step ?_ (State.finish_moves ..) (sub_of (by decide) e)
  exact .refl ..
  refine .trans ?_ (hf ..)
  exact .refl ..

/-- What `State.drbgRandom` may change: free, icu, wld, warp, crerus, custody, mem; registers of PD 0, 1, 6, 10. -/
theorem State.drbgRandom_moves (s : State) (j : Job) : Moves 0x110e00464000021 s (State.drbgRandom s j) := by
  unfold State.drbgRandom
  apply Moves.ite
  refine .step ?_ (State.finish_moves ..) (by decide)
  exact .refl ..
  refine .trans ?_ (State.withDrbg_moves _ _ _ ?_ (by decide))
  exact .refl ..
  intro u3_0
  refine .step ?_ (State.finish_moves ..) (by decide)
  refine .step ?_ (State.upd_custody_moves ..) (by decide)
  refine .step ?_ (State.upd_free_moves ..) (by decide)
  apply Moves.ite
  refine .step ?_ (State.upd_custody_moves ..) (by decide)
  exact .refl ..
  exact .refl ..

/-- What `State.newKey` may change: free, custody. -/
theorem State.newKey_moves (s : State) (typ : ℕ) (len : ℕ) : Moves 0x400000001 s (State.newKey s typ len).2 := by
  unfold State.newKey
  apply Moves.ite2
  refine .step ?_ (State.drbgBytes_moves ..) (by decide)
  exact .refl ..
  refine .step ?_ (State.drbgBytes_moves ..) (by decide)
  exact .refl ..

/-- What `State.drbgGenerate` may change: free, icu, wld, warp, crerus, custody, mem; registers of PD 0, 1, 6, 10. -/
theorem State.drbgGenerate_moves (s : State) (j : Job) : Moves 0x110e00464000021 s (State.drbgGenerate s j) := by
  unfold State.drbgGenerate
  apply Moves.ite
  refine .step ?_ (State.finish_moves ..) (by decide)
  exact .refl ..
  apply Moves.ite
  refine .step ?_ (State.finish_moves ..) (by decide)
  exact .refl ..
  apply Moves.ite
  refine .step ?_ (State.finish_moves ..) (by decide)
  exact .refl ..
  refine .trans ?_ (State.withDrbg_moves _ _ _ ?_ (by decide))
  exact .refl ..
  intro u3_0
  refine .step ?_ (State.finish_moves ..) (by decide)
  refine .step ?_ (State.putSlot_moves ..) (by decide)
  refine Moves.rec2 ?_ ?_
  intro u4_0
  refine .step ?_ (State.drbgBytes_moves ..) (by decide)
  exact .refl ..
  intro u4_0
  refine .step ?_ (State.drbgBytes_moves ..) (by decide)
  exact .refl ..

/-- What `State.tamperClear` may change: icu, wld, warp, crerus, custody, mem; registers of PD 0, 1, 6, 10. -/
theorem State.tamperClear_moves (s : State) (j : Job) : Moves 0x110e00464000020 s (State.tamperClear s j) := by
  unfold State.tamperClear
  apply Moves.ite
  refine .step ?_ (State.finish_moves ..) (by decide)
  exact .refl ..
  refine .step ?_ (State.finish_moves ..) (by decide)
  refine .step ?_ (State.formKeys_moves ..) (by decide)
  refine .step ?_ (State.upd_custody_moves ..) (by decide)
  apply Moves.ite
  refine .step ?_ (State.set_moves (d := 10) rfl) (by decide)
  refine .step ?_ (State.set_moves (d := 0) rfl) (by decide)
  refine .step ?_ (State.set_moves (d := 0) rfl) (by decide)
  refine .step ?_ (State.set_moves (d := 0) rfl) (by decide)
  exact .refl ..
  refine .step ?_ (State.set_moves (d := 0) rfl) (by decide)
  refine .step ?_ (State.set_moves (d := 0) rfl) (by decide)
  refine .step ?_ (State.set_moves (d := 0) rfl) (by decide)
  exact .refl ..

end Sys2Proof.Machine
end

