-- ==== Sys2Proof/Laws/MovesQueueOps.lean ====
section
/-!
SUPPORT. What each function of Machine/QueueOps.lean may change.
-/

namespace Sys2Proof.Machine

/-- What `State.authorise` may change: vrec, crerus; registers of PD 10. -/
theorem State.authorise_moves (s : State) (msg : List ℕ) (trailer : List ℕ) : Moves 0x100000050000000 s (State.authorise s msg trailer).2 := by
  unfold State.authorise
  split
  refine .step ?_ (State.upd_crerus_moves ..) (by decide)
  exact .refl ..
  refine .step ?_ (State.journal_moves ..) (by decide)
  refine .step ?_ (State.hifErr_moves (d := 10) rfl) (by decide)
  exact .refl ..

/-- What `State.qDone` may change: queue. -/
theorem State.qDone_moves (s : State) (d : QDone) : Moves 0x80000000 s (State.qDone s d) := by
  unfold State.qDone
  refine .step ?_ (State.upd_queue_moves ..) (by decide)
  exact .refl ..

/-- What `State.qTake` may change: queue; registers of PD 10. -/
theorem State.qTake_moves (s : State) : Moves 0x100000080000000 s (State.qTake s) := by
  unfold State.qTake
  apply Moves.ite
  exact .refl ..
  dsimp only
  split
  refine .step ?_ (State.qDone_moves ..) (by decide)
  refine .step ?_ (State.set_moves (d := 10) rfl) (by decide)
  refine .step ?_ (State.upd_queue_moves ..) (by decide)
  exact .refl ..
  apply Moves.ite
  refine .step ?_ (State.qDone_moves ..) (by decide)
  refine .step ?_ (State.inc_moves (d := 10) rfl) (by decide)
  refine .step ?_ (State.set_moves (d := 10) rfl) (by decide)
  refine .step ?_ (State.upd_queue_moves ..) (by decide)
  exact .refl ..
  split
  refine .step ?_ (State.qDone_moves ..) (by decide)
  refine .step ?_ (State.setBit_moves (d := 10) rfl) (by decide)
  refine .step ?_ (State.set_moves (d := 10) rfl) (by decide)
  refine .step ?_ (State.upd_queue_moves ..) (by decide)
  exact .refl ..
  refine .step ?_ (State.upd_queue_moves ..) (by decide)
  refine .step ?_ (State.setBit_moves (d := 10) rfl) (by decide)
  refine .step ?_ (State.set_moves (d := 10) rfl) (by decide)
  refine .step ?_ (State.upd_queue_moves ..) (by decide)
  exact .refl ..

/-- What `State.qEnd` may change: queue, mem; registers of PD 10. -/
theorem State.qEnd_moves (s : State) (c : QCmd) (status : ℕ) (r0 : ℕ) (r1 : ℕ) (reason : ℕ) (flags : ℕ) : Moves 0x100200080000000 s (State.qEnd s c status r0 r1 reason flags) := by
  unfold State.qEnd
  refine .step ?_ (State.queueCleared_moves ..) (by decide)
  apply Moves.ite
  refine .step ?_ (State.upd_queue_moves ..) (by decide)
  exact .refl ..
  refine .step ?_ (State.qDone_moves ..) (by decide)
  refine .step ?_ (State.upd_queue_moves ..) (by decide)
  exact .refl ..

/-- What `State.qCheck` may change: vrec, crerus; registers of PD 10. -/
theorem State.qCheck_moves (s : State) (c : QCmd) : Moves 0x100000050000000 s (State.qCheck s c).2 := by
  unfold State.qCheck
  apply Moves.ite2
  dsimp only
  exact .refl ..
  apply Moves.ite2
  dsimp only
  exact .refl ..
  apply Moves.ite2
  dsimp only
  exact .refl ..
  apply Moves.ite2
  split
  dsimp only
  refine .step ?_ (Moves.snd (State.authorise_moves ..) (by assumption)) (by decide)
  exact .refl ..
  dsimp only
  exact .refl ..

/-- What `State.qStart` may change: vrec, crerus, queue, jrnl, flash, mem; registers of PD 2, 10. -/
theorem State.qStart_moves {K : Nat} (s : State) (opc : ℕ) (f : State → QCmd → State) (hf : ∀ x0 x1, Moves K x0 (f x0 x1)) (e : 0x1012003d0000000 ||| K = K) : Moves K s (State.qStart s opc f) := by
  unfold State.qStart
  apply Moves.ite
  exact .refl ..
  apply Moves.ite
  apply Moves.ite
  refine .step ?_ (State.vrecDrain_moves ..) (sub_of (by decide) e)
  exact .refl ..
  exact .refl ..
  split
  apply Moves.ite
  refine .step ?_ (State.vrecDrain_moves ..) (sub_of (by decide) e)
  exact .refl ..
  exact .refl ..
  split
  dsimp only
  split
  refine .step ?_ (State.qEnd_moves ..) (sub_of (by decide) e)
  refine .step ?_ (Moves.snd (State.qCheck_moves ..) (by assumption)) (sub_of (by decide) e)
  refine .step ?_ (State.upd_queue_moves ..) (sub_of (by decide) e)
  refine .step ?_ (State.vrecDrain_moves ..) (sub_of (by decide) e)
  exact .refl ..
  refine .trans ?_ (hf ..)
  refine .step ?_ (Moves.snd (State.qCheck_moves ..) (by assumption)) (sub_of (by decide) e)
  refine .step ?_ (State.upd_queue_moves ..) (sub_of (by decide) e)
  refine .step ?_ (State.vrecDrain_moves ..) (sub_of (by decide) e)
  exact .refl ..
  dsimp only
  split
  refine .step ?_ (State.qEnd_moves ..) (sub_of (by decide) e)
  refine .step ?_ (Moves.snd (State.qCheck_moves ..) (by assumption)) (sub_of (by decide) e)
  refine .step ?_ (State.upd_queue_moves ..) (sub_of (by decide) e)
  exact .refl ..
  refine .trans ?_ (hf ..)
  refine .step ?_ (Moves.snd (State.qCheck_moves ..) (by assumption)) (sub_of (by decide) e)
  refine .step ?_ (State.upd_queue_moves ..) (sub_of (by decide) e)
  exact .refl ..

/-- What `State.qPost` may change: queue, mem; registers of PD 10. -/
theorem State.qPost_moves (s : State) : Moves 0x100200080000000 s (State.qPost s) := by
  unfold State.qPost
  split
  exact .refl ..
  apply Moves.ite
  exact .refl ..
  refine .step ?_ (State.qcomp_moves ..) (by decide)
  refine .step ?_ (State.set_moves (d := 10) rfl) (by decide)
  refine .step ?_ (State.upd_queue_moves ..) (by decide)
  apply Moves.ite
  refine .step ?_ (State.clrBit_moves (d := 10) rfl) (by decide)
  refine .step ?_ (State.wrBytes_moves ..) (by decide)
  exact .refl ..
  refine .step ?_ (State.wrBytes_moves ..) (by decide)
  exact .refl ..

/-- What `State.qUpd` may change: queue. -/
theorem State.qUpd_moves (s : State) (c : QCmd) (f : QCmd → QCmd) : Moves 0x80000000 s (State.qUpd s c f) := by
  unfold State.qUpd
  refine .step ?_ (State.upd_queue_moves ..) (by decide)
  exact .refl ..

/-- What `State.jPut` may change: queue, jrnl, flash, mem; registers of PD 2, 10. -/
theorem State.jPut_moves (s : State) (c : QCmd) : Moves 0x101200380000000 s (State.jPut s c) := by
  unfold State.jPut
  apply Moves.ite
  refine .step ?_ (State.qEnd_moves ..) (by decide)
  exact .refl ..
  apply Moves.ite
  refine .step ?_ (State.pageStart_moves ..) (by decide)
  exact .refl ..
  apply Moves.ite
  refine .step ?_ (State.qEnd_moves ..) (by decide)
  refine .step ?_ (State.upd_jrnl_moves ..) (by decide)
  exact .refl ..
  refine .step ?_ (State.pageStart_moves ..) (by decide)
  refine .step ?_ (State.qUpd_moves ..) (by decide)
  refine .step ?_ (State.upd_jrnl_moves ..) (by decide)
  exact .refl ..

/-- What `State.jResume` may change: queue, jrnl, flash, mem; registers of PD 2, 10. -/
theorem State.jResume_moves (s : State) (n : ℕ) : Moves 0x101200380000000 s (State.jResume s n) := by
  unfold State.jResume
  split
  exact .refl ..
  apply Moves.ite
  refine .step ?_ (State.qEnd_moves ..) (by decide)
  exact .refl ..
  split
  refine .step ?_ (State.qEnd_moves ..) (by decide)
  exact .refl ..
  refine .step ?_ (State.jPut_moves ..) (by decide)
  exact .refl ..

/-- What `State.jRead` may change: queue, mem; registers of PD 10. -/
theorem State.jRead_moves (s : State) (c : QCmd) : Moves 0x100200080000000 s (State.jRead s c) := by
  unfold State.jRead
  dsimp only
  split
  apply Moves.ite
  refine .step ?_ (State.qEnd_moves ..) (by decide)
  exact .refl ..
  refine .step ?_ (State.qEnd_moves ..) (by decide)
  refine .step ?_ (State.wrBytes_moves ..) (by decide)
  exact .refl ..
  refine .step ?_ (State.qEnd_moves ..) (by decide)
  exact .refl ..

/-- What `State.jFlush` may change: queue, jrnl, flash, mem; registers of PD 2, 10. -/
theorem State.jFlush_moves (s : State) (c : QCmd) : Moves 0x101200380000000 s (State.jFlush s c) := by
  unfold State.jFlush
  apply Moves.ite
  refine .step ?_ (State.qEnd_moves ..) (by decide)
  exact .refl ..
  refine .step ?_ (State.pageStart_moves ..) (by decide)
  exact .refl ..

/-- What `State.kStore` may change: queue, custody, mem; registers of PD 10. -/
theorem State.kStore_moves (s : State) (c : QCmd) : Moves 0x100200480000000 s (State.kStore s c) := by
  unfold State.kStore
  apply Moves.ite
  refine .step ?_ (State.qEnd_moves ..) (by decide)
  exact .refl ..
  apply Moves.ite
  refine .step ?_ (State.qEnd_moves ..) (by decide)
  exact .refl ..
  apply Moves.ite
  refine .step ?_ (State.qEnd_moves ..) (by decide)
  exact .refl ..
  apply Moves.ite
  refine .step ?_ (State.qEnd_moves ..) (by decide)
  exact .refl ..
  split
  refine .step ?_ (State.qEnd_moves ..) (by decide)
  exact .refl ..
  refine .step ?_ (State.qEnd_moves ..) (by decide)
  refine .step ?_ (State.putSlot_moves ..) (by decide)
  exact .refl ..

/-- What `State.kFetch` may change: queue, mem; registers of PD 10. -/
theorem State.kFetch_moves (s : State) (c : QCmd) : Moves 0x100200080000000 s (State.kFetch s c) := by
  unfold State.kFetch
  apply Moves.ite
  refine .step ?_ (State.qEnd_moves ..) (by decide)
  exact .refl ..
  apply Moves.ite
  refine .step ?_ (State.qEnd_moves ..) (by decide)
  exact .refl ..
  apply Moves.ite
  refine .step ?_ (State.qEnd_moves ..) (by decide)
  exact .refl ..
  apply Moves.ite
  refine .step ?_ (State.qEnd_moves ..) (by decide)
  exact .refl ..
  apply Moves.ite
  refine .step ?_ (State.qEnd_moves ..) (by decide)
  exact .refl ..
  refine .step ?_ (State.qEnd_moves ..) (by decide)
  refine .step ?_ (State.wrBytes_moves ..) (by decide)
  exact .refl ..

/-- What `State.bWrite` may change: free, queue, custody, mem; registers of PD 10. -/
theorem State.bWrite_moves (s : State) (c : QCmd) : Moves 0x100200480000001 s (State.bWrite s c) := by
  unfold State.bWrite
  apply Moves.ite
  refine .step ?_ (State.qEnd_moves ..) (by decide)
  exact .refl ..
  refine .step ?_ (State.qEnd_moves ..) (by decide)
  refine .step ?_ (State.wrBytes_moves ..) (by decide)
  refine .step ?_ (State.upd_custody_moves ..) (by decide)
  refine .step ?_ (State.upd_free_moves ..) (by decide)
  apply Moves.ite
  refine .step ?_ (State.upd_custody_moves ..) (by decide)
  exact .refl ..
  exact .refl ..

/-- What `State.bRead` may change: queue, mem; registers of PD 10. -/
theorem State.bRead_moves (s : State) (c : QCmd) : Moves 0x100200080000000 s (State.bRead s c) := by
  unfold State.bRead
  apply Moves.ite
  refine .step ?_ (State.qEnd_moves ..) (by decide)
  exact .refl ..
  split
  refine .step ?_ (State.qEnd_moves ..) (by decide)
  exact .refl ..
  apply Moves.ite
  refine .step ?_ (State.qEnd_moves ..) (by decide)
  exact .refl ..
  refine .step ?_ (State.qEnd_moves ..) (by decide)
  refine .step ?_ (State.wrBytes_moves ..) (by decide)
  exact .refl ..

end Sys2Proof.Machine
end

