-- ==== Sys2Proof/Laws/MovesCrerusTake.lean ====
section
/-!
SUPPORT. What each function of Machine/CrerusTake.lean may change.
-/

namespace Sys2Proof.Machine

/-- What `State.fwServes` may change: registers of PD 10. -/
theorem State.fwServes_moves (s : State) : Moves 0x100000000000000 s (State.fwServes s) := by
  unfold State.fwServes
  apply Moves.ite
  refine .step ?_ (State.set_moves (d := 10) rfl) (by decide)
  refine .step ?_ (State.set_moves (d := 10) rfl) (by decide)
  exact .refl ..
  exact .refl ..

/-- What `State.beginTake` may change: crerus; registers of PD 1, 10. -/
theorem State.beginTake_moves (s : State) (a : Arrival) : Moves 0x100800040000000 s (State.beginTake s a) := by
  unfold State.beginTake
  extract_lets +onlyGivenNames v3
  clear_value v3
  extract_lets +onlyGivenNames v4
  refine Moves.bindV (v := v4) ?_ ?_
  unfold v4
  refine .step ?_ (State.fwServes_moves ..) (by decide)
  refine .step ?_ (State.upd_crerus_moves ..) (by decide)
  exact .refl ..
  intro hv4
  clear_value v4
  split
  refine .step ?_ (State.clrBit_moves (d := 10) rfl) (by decide)
  refine .step ?_ (State.setMb_moves ..) (by decide)
  assumption
  refine .step ?_ (State.clrBit_moves (d := 1) rfl) (by decide)
  refine .step ?_ (State.set_moves (d := 1) rfl) (by decide)
  assumption
  assumption

/-- What `State.authJob` may change: vrec, crerus; registers of PD 10. -/
theorem State.authJob_moves (s : State) (j : Job) (b : List ℕ) : Moves 0x100000050000000 s (State.authJob s j b).2 := by
  unfold State.authJob
  split
  apply Moves.ite2
  exact .refl ..
  apply Moves.ite2
  refine .step ?_ (State.journal_moves ..) (by decide)
  refine .step ?_ (State.hifErr_moves (d := 10) rfl) (by decide)
  exact .refl ..
  refine .step ?_ (State.authorise_moves ..) (by decide)
  exact .refl ..
  exact .refl ..

/-- What `State.yieldCur` may change: crerus. -/
theorem State.yieldCur_moves (s : State) : Moves 0x40000000 s (State.yieldCur s) := by
  unfold State.yieldCur
  split
  apply Moves.ite
  refine .step ?_ (State.suspend_moves ..) (by decide)
  exact .refl ..
  exact .refl ..
  exact .refl ..

/-- What `State.takeRequest` may change: icu, wld, vrec, warp, crerus, mem; registers of PD 0, 1, 6, 10. -/
theorem State.takeRequest_moves (s : State) : Moves 0x110e00074000020 s (State.takeRequest s) := by
  unfold State.takeRequest
  apply Moves.ite
  refine .step ?_ (State.yieldCur_moves ..) (by decide)
  exact .refl ..
  split
  refine .step ?_ (State.yieldCur_moves ..) (by decide)
  exact .refl ..
  apply Moves.ite
  refine .step ?_ (State.finish_moves ..) (by decide)
  refine .step ?_ (State.upd_crerus_moves ..) (by decide)
  refine .step ?_ (State.beginTake_moves ..) (by decide)
  refine .step ?_ (State.yieldCur_moves ..) (by decide)
  exact .refl ..
  split
  refine .step ?_ (State.finish_moves ..) (by decide)
  refine .step ?_ (Moves.snd (State.authJob_moves ..) (by assumption)) (by decide)
  refine .step ?_ (State.upd_crerus_moves ..) (by decide)
  refine .step ?_ (State.beginTake_moves ..) (by decide)
  refine .step ?_ (State.yieldCur_moves ..) (by decide)
  exact .refl ..
  split
  refine .step ?_ (State.finish_moves ..) (by decide)
  refine .step ?_ (Moves.snd (State.authJob_moves ..) (by assumption)) (by decide)
  refine .step ?_ (State.upd_crerus_moves ..) (by decide)
  refine .step ?_ (State.beginTake_moves ..) (by decide)
  refine .step ?_ (State.yieldCur_moves ..) (by decide)
  exact .refl ..
  refine .step ?_ (State.upd_crerus_moves ..) (by decide)
  refine .step ?_ (Moves.snd (State.authJob_moves ..) (by assumption)) (by decide)
  refine .step ?_ (State.upd_crerus_moves ..) (by decide)
  refine .step ?_ (State.beginTake_moves ..) (by decide)
  refine .step ?_ (State.yieldCur_moves ..) (by decide)
  exact .refl ..

/-- What `State.burnTherm` may change: fuse. -/
theorem State.burnTherm_moves (s : State) (n : ℕ) : Moves 0x1000000000 s (State.burnTherm s n) := by
  unfold State.burnTherm
  refine Moves.foldl ?_ ?_
  exact .refl ..
  intro u3_0 u3_1
  refine .step ?_ (State.burn_moves ..) (by decide)
  exact .refl ..

/-- What `State.confirmed` may change: crerus, fuse. -/
theorem State.confirmed_moves (s : State) : Moves 0x1040000000 s (State.confirmed s) := by
  unfold State.confirmed
  refine .step ?_ (State.upd_crerus_moves ..) (by decide)
  refine .step ?_ (State.burnTherm_moves ..) (by decide)
  exact .refl ..

/-- What `State.flashDone` may change: crerus, fuse. -/
theorem State.flashDone_moves (s : State) (j : Job) : Moves 0x1040000000 s (State.flashDone s j) := by
  unfold State.flashDone
  apply Moves.ite
  refine .step ?_ (State.confirmed_moves ..) (by decide)
  exact .refl ..
  apply Moves.ite
  refine .step ?_ (State.upd_crerus_moves ..) (by decide)
  exact .refl ..
  exact .refl ..

/-- What `State.resumeJob` may change: icu, wld, warp, crerus, fuse, mem; registers of PD 0, 1, 6, 10. -/
theorem State.resumeJob_moves (s : State) (j : Job) : Moves 0x110e01064000020 s (State.resumeJob s j) := by
  unfold State.resumeJob
  split
  refine .step ?_ (State.finish_moves ..) (by decide)
  exact .refl ..
  refine .step ?_ (State.suspend_moves ..) (by decide)
  exact .refl ..
  apply Moves.ite
  refine .step ?_ (State.finish_moves ..) (by decide)
  refine .step ?_ (State.flashDone_moves ..) (by decide)
  exact .refl ..
  refine .step ?_ (State.finish_moves ..) (by decide)
  exact .refl ..
  refine .step ?_ (State.finish_moves ..) (by decide)
  exact .refl ..
  exact .refl ..

end Sys2Proof.Machine
end

