-- ==== Sys2Proof/Laws/MovesDebugRows.lean ====
section
/-!
SUPPORT. What each function of Machine/DebugRows.lean may change.
-/

namespace Sys2Proof.Machine

/-- What `State.select` may change: dbg. -/
theorem State.select_moves (s : State) (ir : ℕ) (dr : ℕ) : Moves 0x20000000000 s (State.select s ir dr) := by
  unfold State.select
  refine .step ?_ (State.upd_dbg_moves ..) (by decide)
  exact .refl ..

/-- What `State.selectScan` may change: dbg. -/
theorem State.selectScan_moves {K : Nat} (s : State) (ir : ℕ) (f : State → State) (hf : ∀ x0, Moves K x0 (f x0)) (e : 0x20000000000 ||| K = K) : Moves K s (State.selectScan s ir f) := by
  unfold State.selectScan
  apply Moves.ite
  refine .trans ?_ (hf ..)
  refine .step ?_ (State.select_moves ..) (sub_of (by decide) e)
  exact .refl ..
  refine .step ?_ (State.select_moves ..) (sub_of (by decide) e)
  exact .refl ..

/-- What `State.dbgAck` may change: free. -/
theorem State.dbgAck_moves (s : State) (r : BusAns) : Moves 0x1 s (State.dbgAck s r).2 := by
  unfold State.dbgAck
  split
  exact .refl ..
  exact .refl ..
  refine .step ?_ (State.freeB_moves ..) (by decide)
  exact .refl ..
  exact .refl ..
  exact .refl ..

/-- What `State.dbgDone` may change: free, dbg. -/
theorem State.dbgDone_moves (s : State) (o : DbgOp) (r : BusAns) (d : ℕ) : Moves 0x20000000001 s (State.dbgDone s o r d) := by
  unfold State.dbgDone
  split
  refine .step ?_ (State.upd_dbg_moves ..) (by decide)
  refine .step ?_ (Moves.snd (State.dbgAck_moves ..) (by assumption)) (by decide)
  exact .refl ..

/-- What `State.capture` may change: dbg. -/
theorem State.capture_moves (s : State) : Moves 0x20000000000 s (State.capture s) := by
  unfold State.capture
  refine .step ?_ (State.select_moves ..) (by decide)
  exact .refl ..

/-- What `State.denied` may change: dbg. -/
theorem State.denied_moves (s : State) : Moves 0x20000000000 s (State.denied s) := by
  unfold State.denied
  refine .step ?_ (State.upd_dbg_moves ..) (by decide)
  exact .refl ..

/-- What `State.dbgRead` may change: free, resp, time, icu, health, flash, dbg, uart, i2c; registers of PD 0, 2, 6, 7, 10. -/
theorem State.dbgRead_moves (s : State) (act : Bool) (a : ℕ) : Moves 0x1315a0200800033 s (s.dbgRead act a) := by
  unfold State.dbgRead
  apply Moves.ite
  · exact .step (.refl ..) (State.denied_moves ..) (by decide)
  · refine .step ?_ (State.dbgDone_moves ..) (by decide)
    exact .step (.refl ..) (State.busRead_moves ..) (by decide)

/-- What `State.burst` may change: free, resp, frozen, key, time, icu, adc, res, cmp, dac, rfm, lane, shed, hedCnt, pwm, trip, pad, loomCfg, fuseLoaded, gov, tmr, dma, dmaLast, health, core, ply, wld, seq, vrec, warp, crerus, queue, jrnl, flash, custody, lc, shadow, pwr, rst, clk, dbg, xspi, uart, i2c, mem; registers of PD 0, 1, 2, 3, 4, 5, 6, 7, 8, 9, 10, 11. -/
theorem State.burst_moves (a0 : List ℕ) (a1 : State) : Moves 0x7ffffefffffffff a1 (State.burst a0 a1) := by
  induction a0 generalizing a1
  unfold State.burst
  refine .step ?_ (State.set_moves (d := 0) rfl) (by decide)
  exact .refl ..
  rename_i n l ih
  unfold State.burst
  apply Moves.ite
  refine .trans ?_ (ih ..)
  refine Moves.rec2 ?_ ?_
  intro u6_0
  exact .refl ..
  intro u6_0
  refine .step ?_ (State.busWrite_moves ..) (by decide)
  exact .refl ..
  refine .step ?_ (State.set_moves (d := 0) rfl) (by decide)
  refine .step ?_ (State.set_moves (d := 0) rfl) (by decide)
  refine Moves.rec2 ?_ ?_
  intro u6_0
  exact .refl ..
  intro u6_0
  refine .step ?_ (State.busWrite_moves ..) (by decide)
  exact .refl ..

/-- What `State.burstGo` may change: free, resp, frozen, key, time, icu, adc, res, cmp, dac, rfm, lane, shed, hedCnt, pwm, trip, pad, loomCfg, fuseLoaded, gov, tmr, dma, dmaLast, health, core, ply, wld, seq, vrec, warp, crerus, queue, jrnl, flash, custody, lc, shadow, pwr, rst, clk, dbg, xspi, uart, i2c, mem; registers of PD 0, 1, 2, 3, 4, 5, 6, 7, 8, 9, 10, 11. -/
theorem State.burstGo_moves (s : State) (v : ℕ) : Moves 0x7ffffefffffffff s (State.burstGo s v) := by
  unfold State.burstGo
  apply Moves.ite
  refine .step ?_ (State.burst_moves ..) (by decide)
  refine .step ?_ (State.set_moves (d := 0) rfl) (by decide)
  refine .step ?_ (State.set_moves (d := 0) rfl) (by decide)
  refine .step ?_ (State.set_moves (d := 0) rfl) (by decide)
  exact .refl ..
  refine .step ?_ (State.set_moves (d := 0) rfl) (by decide)
  exact .refl ..

/-- What `State.dbgWrite` may change: free, resp, frozen, key, time, icu, adc, res, cmp, dac, rfm, lane, shed, hedCnt, pwm, trip, pad, loomCfg, fuseLoaded, gov, tmr, dma, dmaLast, health, core, ply, wld, seq, vrec, warp, crerus, queue, jrnl, flash, custody, lc, shadow, pwr, rst, clk, dbg, xspi, uart, i2c, mem; registers of PD 0, 1, 2, 3, 4, 5, 6, 7, 8, 9, 10, 11, 12. -/
theorem State.dbgWrite_moves (s : State) (a : ℕ) (v : ℕ) : Moves 0x7ffffefffffffff s (State.dbgWrite s a v) := by
  unfold State.dbgWrite
  apply Moves.ite
  refine .step ?_ (State.denied_moves ..) (by decide)
  exact .refl ..
  apply Moves.ite
  refine .step ?_ (State.dbgDone_moves ..) (by decide)
  refine .step ?_ (State.burstGo_moves ..) (by decide)
  exact .refl ..
  split
  refine .step ?_ (State.dbgDone_moves ..) (by decide)
  refine .step ?_ (Moves.snd (State.busWrite_moves ..) (by assumption)) (by decide)
  exact .refl ..

/-- What `State.dbgRetry` may change: free, resp, frozen, key, time, icu, adc, res, cmp, dac, rfm, lane, shed, hedCnt, pwm, trip, pad, loomCfg, fuseLoaded, gov, tmr, dma, dmaLast, health, core, ply, wld, seq, vrec, warp, crerus, queue, jrnl, flash, custody, lc, shadow, pwr, rst, clk, dbg, xspi, uart, i2c, mem; registers of PD 0, 1, 2, 3, 4, 5, 6, 7, 8, 9, 10, 11, 12. -/
theorem State.dbgRetry_moves (s : State) : Moves 0x7ffffefffffffff s (State.dbgRetry s) := by
  unfold State.dbgRetry
  split
  exact .refl ..
  apply Moves.ite
  refine .step ?_ (State.dbgWrite_moves ..) (by decide)
  exact .refl ..
  refine .step ?_ (State.dbgRead_moves ..) (by decide)
  exact .refl ..

/-- What `State.apScan` may change: free, resp, frozen, key, time, icu, adc, res, cmp, dac, rfm, lane, shed, hedCnt, pwm, trip, pad, loomCfg, fuseLoaded, gov, tmr, dma, dmaLast, health, core, ply, wld, seq, vrec, warp, crerus, queue, jrnl, flash, custody, lc, shadow, pwr, rst, clk, dbg, xspi, uart, i2c, mem; registers of PD 0, 1, 2, 3, 4, 5, 6, 7, 8, 9, 10, 11, 12. -/
theorem State.apScan_moves {K : Nat} (s : State) (f : State → State) (hf : ∀ x0, Moves K x0 (f x0)) (e : 0x7ffffefffffffff ||| K = K) : Moves K s (State.apScan s f) := by
  unfold State.apScan
  apply Moves.ite
  refine .step ?_ (State.capture_moves ..) (sub_of (by decide) e)
  refine .step ?_ (State.dbgRetry_moves ..) (sub_of (by decide) e)
  exact .refl ..
  refine .trans ?_ (hf ..)
  refine .step ?_ (State.capture_moves ..) (sub_of (by decide) e)
  refine .step ?_ (State.dbgRetry_moves ..) (sub_of (by decide) e)
  exact .refl ..

/-- What `State.authScan` may change: dbg. -/
theorem State.authScan_moves {K : Nat} (s : State) (f : State → State) (hf : ∀ x0, Moves K x0 (f x0)) (e : 0x20000000000 ||| K = K) : Moves K s (State.authScan s f) := by
  unfold State.authScan
  apply Moves.ite
  refine .trans ?_ (hf ..)
  refine .step ?_ (State.select_moves ..) (sub_of (by decide) e)
  exact .refl ..
  refine .step ?_ (State.select_moves ..) (sub_of (by decide) e)
  exact .refl ..

/-- What `State.newChallenge` may change: free, custody, dbg. -/
theorem State.newChallenge_moves (s : State) : Moves 0x20400000001 s (State.newChallenge s) := by
  unfold State.newChallenge
  refine .step ?_ (State.upd_dbg_moves ..) (by decide)
  refine Moves.rec2 ?_ ?_
  intro u2_0
  exact .refl ..
  intro u2_0
  refine .step ?_ (State.drbgBytes_moves ..) (by decide)
  exact .refl ..

/-- What `State.submit` may change: dbg; registers of PD 0. -/
theorem State.submit_moves (s : State) : Moves 0x420000000000 s (State.submit s) := by
  unfold State.submit
  apply Moves.ite
  refine .step ?_ (State.upd_dbg_moves ..) (by decide)
  refine .step ?_ (State.set_moves (d := 0) rfl) (by decide)
  exact .refl ..
  refine .step ?_ (State.upd_dbg_moves ..) (by decide)
  refine .step ?_ (State.set_moves (d := 0) rfl) (by decide)
  exact .refl ..

/-- What `State.certDone` may change: vrec, dbg; registers of PD 0. -/
theorem State.certDone_moves (s : State) : Moves 0x420010000000 s (State.certDone s) := by
  unfold State.certDone
  apply Moves.ite
  refine .step ?_ (State.upd_dbg_moves ..) (by decide)
  refine .step ?_ (State.dbgAuthority_moves ..) (by decide)
  refine .step ?_ (State.set_moves (d := 0) rfl) (by decide)
  refine .step ?_ (State.upd_dbg_moves ..) (by decide)
  refine .step ?_ (State.journal_moves ..) (by decide)
  refine .step ?_ (State.set_moves (d := 0) rfl) (by decide)
  exact .refl ..
  apply Moves.ite
  refine .step ?_ (State.upd_dbg_moves ..) (by decide)
  refine .step ?_ (State.journal_moves ..) (by decide)
  refine .step ?_ (State.set_moves (d := 0) rfl) (by decide)
  exact .refl ..
  refine .step ?_ (State.set_moves (d := 0) rfl) (by decide)
  refine .step ?_ (State.upd_dbg_moves ..) (by decide)
  refine .step ?_ (State.journal_moves ..) (by decide)
  refine .step ?_ (State.set_moves (d := 0) rfl) (by decide)
  exact .refl ..

end Sys2Proof.Machine
end

