-- ==== Sys2Proof/Laws/MovesDmaRows.lean ====
section
/-!
SUPPORT. What each function of Machine/DmaRows.lean may change.
-/

namespace Sys2Proof.Machine

/-- What `State.dmaError` may change: free, resp, frozen, key, time, icu, adc, res, cmp, dac, rfm, lane, shed, hedCnt, pwm, trip, pad, loomCfg, fuseLoaded, gov, tmr, dma, dmaLast, health, core, ply, wld, seq, vrec, warp, crerus, queue, jrnl, flash, custody, lc, shadow, pwr, rst, clk, dbg, xspi, uart, i2c, mem; registers of PD 0, 1, 2, 3, 4, 5, 6, 7, 8, 9, 10, 11. -/
theorem State.dmaError_moves (s : State) (c : ℕ) (cause : ℕ) (a : ℕ) : Moves 0x7ffffefffffffff s (State.dmaError s c cause a) := by
  unfold State.dmaError
  refine .step ?_ (State.updDma_moves ..) (by decide)
  apply Moves.ite
  refine .step ?_ (State.busWrite_moves ..) (by decide)
  refine .step ?_ (State.raiseIf_moves ..) (by decide)
  refine .step ?_ (State.set_moves (d := 8) rfl) (by decide)
  refine .step ?_ (State.set_moves (d := 8) rfl) (by decide)
  refine .step ?_ (State.set_moves (d := 8) rfl) (by decide)
  refine .step ?_ (State.set_moves (d := 8) rfl) (by decide)
  exact .refl ..
  refine .step ?_ (State.raiseIf_moves ..) (by decide)
  refine .step ?_ (State.set_moves (d := 8) rfl) (by decide)
  refine .step ?_ (State.set_moves (d := 8) rfl) (by decide)
  refine .step ?_ (State.set_moves (d := 8) rfl) (by decide)
  refine .step ?_ (State.set_moves (d := 8) rfl) (by decide)
  exact .refl ..

/-- What `State.dmaAnswer` may change: free, resp, frozen, key, time, icu, adc, res, cmp, dac, rfm, lane, shed, hedCnt, pwm, trip, pad, loomCfg, fuseLoaded, gov, tmr, dma, dmaLast, health, core, ply, wld, seq, vrec, warp, crerus, queue, jrnl, flash, custody, lc, shadow, pwr, rst, clk, dbg, xspi, uart, i2c, mem; registers of PD 0, 1, 2, 3, 4, 5, 6, 7, 8, 9, 10, 11. -/
theorem State.dmaAnswer_moves {K : Nat} (s : State) (c : ℕ) (a : ℕ) (w : Bool) (r : BusAns) (f : State → State) (hf : ∀ x0, Moves K x0 (f x0)) (e : 0x7ffffefffffffff ||| K = K) : Moves K s (State.dmaAnswer s c a w r f) := by
  unfold State.dmaAnswer
  split
  refine .trans ?_ (hf ..)
  refine .step ?_ (State.updDma_moves ..) (sub_of (by decide) e)
  exact .refl ..
  apply Moves.ite
  refine .step ?_ (State.dmaError_moves ..) (sub_of (by decide) e)
  exact .refl ..
  refine .step ?_ (State.updDma_moves ..) (sub_of (by decide) e)
  exact .refl ..
  exact .refl ..
  refine .step ?_ (State.dmaError_moves ..) (sub_of (by decide) e)
  exact .refl ..

/-- What `State.dmaLeft` may change: registers of PD 8. -/
theorem State.dmaLeft_moves (s : State) (c : ℕ) : Moves 0x40000000000000 s (State.dmaLeft s c) := by
  unfold State.dmaLeft
  refine .step ?_ (State.set_moves (d := 8) rfl) (by decide)
  refine .step ?_ (State.set_moves (d := 8) rfl) (by decide)
  exact .refl ..

/-- What `State.dmaLoad` may change: free, resp, frozen, key, time, icu, adc, res, cmp, dac, rfm, lane, shed, hedCnt, pwm, trip, pad, loomCfg, fuseLoaded, gov, tmr, dma, dmaLast, health, core, ply, wld, seq, vrec, warp, crerus, queue, jrnl, flash, custody, lc, shadow, pwr, rst, clk, dbg, xspi, uart, i2c, mem; registers of PD 0, 1, 2, 3, 4, 5, 6, 7, 8, 9, 10, 11. -/
theorem State.dmaLoad_moves (s : State) (c : ℕ) : Moves 0x7ffffefffffffff s (State.dmaLoad s c) := by
  unfold State.dmaLoad
  apply Moves.ite
  refine .step ?_ (State.dmaError_moves ..) (by decide)
  exact .refl ..
  refine .trans ?_ (State.dmaAnswer_moves _ _ _ _ _ _ ?_ (by decide))
  exact .refl ..
  intro u3_0
  apply Moves.ite
  refine .step ?_ (State.dmaError_moves ..) (by decide)
  refine .step ?_ (State.updDma_moves ..) (by decide)
  exact .refl ..
  refine .step ?_ (State.dmaLeft_moves ..) (by decide)
  refine .step ?_ (State.setB_moves (d := 8) rfl) (by decide)
  refine .step ?_ (State.set_moves (d := 8) rfl) (by decide)
  refine .step ?_ (State.set_moves (d := 8) rfl) (by decide)
  refine .step ?_ (State.set_moves (d := 8) rfl) (by decide)
  refine .step ?_ (State.updDma_moves ..) (by decide)
  refine .step ?_ (State.updDma_moves ..) (by decide)
  exact .refl ..

/-- What `State.dmaStatus` may change: free, resp, frozen, key, time, icu, adc, res, cmp, dac, rfm, lane, shed, hedCnt, pwm, trip, pad, loomCfg, fuseLoaded, gov, tmr, dma, dmaLast, health, core, ply, wld, seq, vrec, warp, crerus, queue, jrnl, flash, custody, lc, shadow, pwr, rst, clk, dbg, xspi, uart, i2c, mem; registers of PD 0, 1, 2, 3, 4, 5, 6, 7, 8, 9, 10, 11. -/
theorem State.dmaStatus_moves (s : State) (c : ℕ) : Moves 0x7ffffefffffffff s (State.dmaStatus s c) := by
  unfold State.dmaStatus
  refine .trans ?_ (State.dmaAnswer_moves _ _ _ _ _ _ ?_ (by decide))
  refine Moves.rec2 ?_ ?_
  intro u3_0
  exact .refl ..
  intro u3_0
  refine .step ?_ (State.busWrite_moves ..) (by decide)
  exact .refl ..
  intro u3_0
  refine .step ?_ (State.updDma_moves ..) (by decide)
  refine .step ?_ (State.raiseIf_moves ..) (by decide)
  refine .step ?_ (State.inc_moves (d := 8) rfl) (by decide)
  refine .step ?_ (State.set_moves (d := 8) rfl) (by decide)
  refine .step ?_ (State.set_moves (d := 8) rfl) (by decide)
  exact .refl ..

/-- What `State.dmaComplete` may change: free, resp, frozen, key, time, icu, adc, res, cmp, dac, rfm, lane, shed, hedCnt, pwm, trip, pad, loomCfg, fuseLoaded, gov, tmr, dma, dmaLast, health, core, ply, wld, seq, vrec, warp, crerus, queue, jrnl, flash, custody, lc, shadow, pwr, rst, clk, dbg, xspi, uart, i2c, mem; registers of PD 0, 1, 2, 3, 4, 5, 6, 7, 8, 9, 10, 11. -/
theorem State.dmaComplete_moves (s : State) (c : ℕ) : Moves 0x7ffffefffffffff s (State.dmaComplete s c) := by
  unfold State.dmaComplete
  apply Moves.ite
  refine .step ?_ (State.dmaStatus_moves ..) (by decide)
  exact .refl ..
  refine .trans ?_ (State.dmaAnswer_moves _ _ _ _ _ _ ?_ (by decide))
  split
  exact .refl ..
  split
  exact .refl ..
  exact .refl ..
  refine .step ?_ (State.busFlash_moves ..) (by decide)
  exact .refl ..
  split
  refine .step ?_ (State.busFlash_moves ..) (by decide)
  exact .refl ..
  exact .refl ..
  exact .refl ..
  refine .step ?_ (State.busIoRead_moves ..) (by decide)
  exact .refl ..
  exact .refl ..
  intro u3_0
  refine .step ?_ (State.dmaStatus_moves ..) (by decide)
  exact .refl ..

/-- What `State.dmaNext` may change: free, resp, frozen, key, time, icu, adc, res, cmp, dac, rfm, lane, shed, hedCnt, pwm, trip, pad, loomCfg, fuseLoaded, gov, tmr, dma, dmaLast, health, core, ply, wld, seq, vrec, warp, crerus, queue, jrnl, flash, custody, lc, shadow, pwr, rst, clk, dbg, xspi, uart, i2c, mem; registers of PD 0, 1, 2, 3, 4, 5, 6, 7, 8, 9, 10, 11. -/
theorem State.dmaNext_moves (s : State) (c : ℕ) : Moves 0x7ffffefffffffff s (State.dmaNext s c) := by
  unfold State.dmaNext
  refine .trans ?_ (State.dmaAnswer_moves _ _ _ _ _ _ ?_ (by decide))
  exact .refl ..
  intro u3_0
  apply Moves.ite
  refine .step ?_ (State.dmaAsk_moves ..) (by decide)
  exact .refl ..
  refine .step ?_ (State.updDma_moves ..) (by decide)
  refine .step ?_ (State.set_moves (d := 8) rfl) (by decide)
  refine .step ?_ (State.set_moves (d := 8) rfl) (by decide)
  refine .step ?_ (State.set_moves (d := 8) rfl) (by decide)
  exact .refl ..

/-- What `State.dmaReadBeat` may change: free, resp, frozen, key, time, icu, adc, res, cmp, dac, rfm, lane, shed, hedCnt, pwm, trip, pad, loomCfg, fuseLoaded, gov, tmr, dma, dmaLast, health, core, ply, wld, seq, vrec, warp, crerus, queue, jrnl, flash, custody, lc, shadow, pwr, rst, clk, dbg, xspi, uart, i2c, mem; registers of PD 0, 1, 2, 3, 4, 5, 6, 7, 8, 9, 10, 11. -/
theorem State.dmaReadBeat_moves (s : State) (c : ℕ) : Moves 0x7ffffefffffffff s (State.dmaReadBeat s c) := by
  unfold State.dmaReadBeat
  apply Moves.ite
  refine .step ?_ (State.dmaError_moves ..) (by decide)
  exact .refl ..
  apply Moves.ite
  refine .step ?_ (State.dmaError_moves ..) (by decide)
  exact .refl ..
  refine .trans ?_ (State.dmaAnswer_moves _ _ _ _ _ _ ?_ (by decide))
  split
  exact .refl ..
  split
  exact .refl ..
  exact .refl ..
  refine .step ?_ (State.busFlash_moves ..) (by decide)
  exact .refl ..
  split
  refine .step ?_ (State.busFlash_moves ..) (by decide)
  exact .refl ..
  exact .refl ..
  exact .refl ..
  refine .step ?_ (State.busIoRead_moves ..) (by decide)
  exact .refl ..
  exact .refl ..
  intro u3_0
  refine .step ?_ (State.updDma_moves ..) (by decide)
  exact .refl ..

/-- What `State.dmaUnit` may change: dma; registers of PD 8. -/
theorem State.dmaUnit_moves (s : State) (c : ℕ) : Moves 0x40000000200000 s (State.dmaUnit s c) := by
  unfold State.dmaUnit
  apply Moves.ite
  exact .refl ..
  apply Moves.ite
  refine .step ?_ (State.set_moves (d := 8) rfl) (by decide)
  exact .refl ..
  refine .step ?_ (State.updDma_moves ..) (by decide)
  refine .step ?_ (State.set_moves (d := 8) rfl) (by decide)
  exact .refl ..

/-- What `State.dmaWriteBeat` may change: free, resp, frozen, key, time, icu, adc, res, cmp, dac, rfm, lane, shed, hedCnt, pwm, trip, pad, loomCfg, fuseLoaded, gov, tmr, dma, dmaLast, health, core, ply, wld, seq, vrec, warp, crerus, queue, jrnl, flash, custody, lc, shadow, pwr, rst, clk, dbg, xspi, uart, i2c, mem; registers of PD 0, 1, 2, 3, 4, 5, 6, 7, 8, 9, 10, 11. -/
theorem State.dmaWriteBeat_moves (s : State) (c : ℕ) : Moves 0x7ffffefffffffff s (State.dmaWriteBeat s c) := by
  unfold State.dmaWriteBeat
  dsimp only
  split
  exact .refl ..
  refine .trans ?_ (State.dmaAnswer_moves _ _ _ _ _ _ ?_ (by decide))
  refine .step ?_ (State.busWrite_moves ..) (by decide)
  exact .refl ..
  intro u9_0
  apply Moves.ite
  refine .step ?_ (State.dmaUnit_moves ..) (by decide)
  refine .step ?_ (State.dmaLeft_moves ..) (by decide)
  refine .step ?_ (State.updDma_moves ..) (by decide)
  exact .refl ..
  refine .step ?_ (State.dmaLeft_moves ..) (by decide)
  refine .step ?_ (State.updDma_moves ..) (by decide)
  exact .refl ..

/-- What `State.dmaData` may change: free, resp, frozen, key, time, icu, adc, res, cmp, dac, rfm, lane, shed, hedCnt, pwm, trip, pad, loomCfg, fuseLoaded, gov, tmr, dma, dmaLast, health, core, ply, wld, seq, vrec, warp, crerus, queue, jrnl, flash, custody, lc, shadow, pwr, rst, clk, dbg, xspi, uart, i2c, mem; registers of PD 0, 1, 2, 3, 4, 5, 6, 7, 8, 9, 10, 11, 12. -/
theorem State.dmaData_moves (s : State) (c : ℕ) : Moves 0x7ffffefffffffff s (State.dmaData s c) := by
  unfold State.dmaData
  apply Moves.ite
  split
  apply Moves.ite
  refine .step ?_ (State.dmaReadBeat_moves ..) (by decide)
  refine .step ?_ (Moves.snd (State.freeB_moves ..) (by assumption)) (by decide)
  exact .refl ..
  refine .step ?_ (State.dmaWriteBeat_moves ..) (by decide)
  refine .step ?_ (Moves.snd (State.freeB_moves ..) (by assumption)) (by decide)
  exact .refl ..
  apply Moves.ite
  refine .step ?_ (State.dmaReadBeat_moves ..) (by decide)
  exact .refl ..
  refine .step ?_ (State.dmaWriteBeat_moves ..) (by decide)
  exact .refl ..

/-- What `State.dmaBeat` may change: free, resp, frozen, key, time, icu, adc, res, cmp, dac, rfm, lane, shed, hedCnt, pwm, trip, pad, loomCfg, fuseLoaded, gov, tmr, dma, dmaLast, health, core, ply, wld, seq, vrec, warp, crerus, queue, jrnl, flash, custody, lc, shadow, pwr, rst, clk, dbg, xspi, uart, i2c, mem; registers of PD 0, 1, 2, 3, 4, 5, 6, 7, 8, 9, 10, 11, 12. -/
theorem State.dmaBeat_moves (s : State) (c : ℕ) : Moves 0x7ffffefffffffff s (State.dmaBeat s c) := by
  unfold State.dmaBeat
  apply Moves.ite
  refine .step ?_ (State.dmaLoad_moves ..) (by decide)
  exact .refl ..
  apply Moves.ite
  refine .step ?_ (State.dmaNext_moves ..) (by decide)
  exact .refl ..
  apply Moves.ite
  refine .step ?_ (State.dmaComplete_moves ..) (by decide)
  exact .refl ..
  refine .step ?_ (State.dmaData_moves ..) (by decide)
  exact .refl ..

/-- What `State.dmaWin` may change: free, resp, frozen, key, time, icu, adc, res, cmp, dac, rfm, lane, shed, hedCnt, pwm, trip, pad, loomCfg, fuseLoaded, gov, tmr, dma, dmaLast, health, core, ply, wld, seq, vrec, warp, crerus, queue, jrnl, flash, custody, lc, shadow, pwr, rst, clk, dbg, xspi, uart, i2c, mem; registers of PD 0, 1, 2, 3, 4, 5, 6, 7, 8, 9, 10, 11, 12. -/
theorem State.dmaWin_moves (s : State) (c : ℕ) : Moves 0x7ffffefffffffff s (State.dmaWin s c) := by
  unfold State.dmaWin
  refine .step ?_ (State.dmaBeat_moves ..) (by decide)
  refine .step ?_ (State.upd_dmaLast_moves ..) (by decide)
  exact .refl ..

/-- What `State.dmaTurn` may change: free, resp, frozen, key, time, icu, adc, res, cmp, dac, rfm, lane, shed, hedCnt, pwm, trip, pad, loomCfg, fuseLoaded, gov, tmr, dma, dmaLast, health, core, ply, wld, seq, vrec, warp, crerus, queue, jrnl, flash, custody, lc, shadow, pwr, rst, clk, dbg, xspi, uart, i2c, mem; registers of PD 0, 1, 2, 3, 4, 5, 6, 7, 8, 9, 10, 11, 12. -/
theorem State.dmaTurn_moves (s : State) (c : ℕ) : Moves 0x7ffffefffffffff s (State.dmaTurn s c) := by
  unfold State.dmaTurn
  apply Moves.ite
  refine .step ?_ (State.dmaWin_moves ..) (by decide)
  exact .refl ..
  exact .refl ..

/-- What `State.dmaReissue` may change: free, resp, frozen, key, time, icu, adc, res, cmp, dac, rfm, lane, shed, hedCnt, pwm, trip, pad, loomCfg, fuseLoaded, gov, tmr, dma, dmaLast, health, core, ply, wld, seq, vrec, warp, crerus, queue, jrnl, flash, custody, lc, shadow, pwr, rst, clk, dbg, xspi, uart, i2c, mem; registers of PD 0, 1, 2, 3, 4, 5, 6, 7, 8, 9, 10, 11. -/
theorem State.dmaReissue_moves (s : State) (c : ℕ) : Moves 0x7ffffefffffffff s (State.dmaReissue s c) := by
  unfold State.dmaReissue
  dsimp only
  split
  exact .refl ..
  apply Moves.ite
  refine .step ?_ (State.dmaLoad_moves ..) (by decide)
  refine .step ?_ (State.updDma_moves ..) (by decide)
  exact .refl ..
  apply Moves.ite
  refine .step ?_ (State.dmaNext_moves ..) (by decide)
  refine .step ?_ (State.updDma_moves ..) (by decide)
  exact .refl ..
  apply Moves.ite
  refine .step ?_ (State.dmaComplete_moves ..) (by decide)
  refine .step ?_ (State.updDma_moves ..) (by decide)
  exact .refl ..
  apply Moves.ite
  refine .step ?_ (State.dmaWriteBeat_moves ..) (by decide)
  refine .step ?_ (State.updDma_moves ..) (by decide)
  exact .refl ..
  refine .step ?_ (State.dmaReadBeat_moves ..) (by decide)
  refine .step ?_ (State.updDma_moves ..) (by decide)
  exact .refl ..

end Sys2Proof.Machine
end

