-- ==== Sys2Proof/Laws/MovesGateRows.lean ====
section
/-!
SUPPORT. What each function of Machine/GateRows.lean may change.
-/

namespace Sys2Proof.Machine

/-- What `State.gateExc` may change: free, frozen, key, time, icu, adc, res, cmp, dac, rfm, lane, shed, hedCnt, pwm, trip, pad, loomCfg, fuseLoaded, gov, tmr, dma, dmaLast, health, core, ply, wld, seq, vrec, warp, crerus, queue, jrnl, flash, custody, lc, shadow, pwr, rst, clk, dbg, xspi, uart, i2c, mem; registers of PD 0, 1, 2, 3, 4, 5, 6, 7, 8, 9, 10, 11, 12. -/
theorem State.gateExc_moves (s : State) (c : ℕ) (i : ℕ) : Moves 0x7ffffeffffffffd s (State.gateExc s c i) := by
  unfold State.gateExc
  refine .step ?_ (State.takeExc_moves ..) (by decide)
  apply Moves.ite
  refine .step ?_ (State.cycles_moves ..) (by decide)
  exact .refl ..
  refine .step ?_ (State.raise_moves ..) (by decide)
  refine .step ?_ (State.cycles_moves ..) (by decide)
  exact .refl ..

/-- What `State.gateIllegal` may change: free, frozen, key, time, icu, adc, res, cmp, dac, rfm, lane, shed, hedCnt, pwm, trip, pad, loomCfg, fuseLoaded, gov, tmr, dma, dmaLast, health, core, ply, wld, seq, vrec, warp, crerus, queue, jrnl, flash, custody, lc, shadow, pwr, rst, clk, dbg, xspi, uart, i2c, mem; registers of PD 0, 1, 2, 3, 4, 5, 6, 7, 8, 9, 10, 11, 12. -/
theorem State.gateIllegal_moves (s : State) (c : ℕ) : Moves 0x7ffffeffffffffd s (State.gateIllegal s c) := by
  unfold State.gateIllegal
  refine .step ?_ (State.illegal_moves ..) (by decide)
  refine .step ?_ (State.cycles_moves ..) (by decide)
  exact .refl ..

/-- What `State.gateRefuse` may change: free, core; registers of PD 0. -/
theorem State.gateRefuse_moves (s : State) (c : ℕ) (st : ℕ) : Moves 0x400001000001 s (State.gateRefuse s c st) := by
  unfold State.gateRefuse
  refine .step ?_ (State.complete_moves ..) (by decide)
  exact .refl ..

/-- What `State.enterGate` may change: free, core, wld; registers of PD 0. -/
theorem State.enterGate_moves (s : State) (n : ℕ) : Moves 0x400005000001 s (State.enterGate s n) := by
  unfold State.enterGate
  refine .step ?_ (State.stepEnd_moves ..) (by decide)
  refine .step ?_ (State.switchWorld_moves ..) (by decide)
  refine .step ?_ (State.updCore_moves ..) (by decide)
  refine .step ?_ (State.upd_wld_moves ..) (by decide)
  refine .step ?_ (State.updCore_moves ..) (by decide)
  exact .refl ..

/-- What `State.eccRange` may change: icu, health, flash; registers of PD 0, 2, 6. -/
theorem State.eccRange_moves (s : State) (a : ℕ) (n : ℕ) : Moves 0x11400200800020 s (State.eccRange s a n) := by
  unfold State.eccRange
  refine Moves.foldl ?_ ?_
  exact .refl ..
  intro u4_0 u4_1
  refine .step ?_ (State.eccRead_moves ..) (by decide)
  exact .refl ..

/-- What `State.copyImage` may change: mem. -/
theorem State.copyImage_moves (s : State) (i : Image) : Moves 0x200000000000 s (State.copyImage s i) := by
  unfold State.copyImage
  refine Moves.foldl ?_ ?_
  exact .refl ..
  intro u3_0 u3_1
  refine .step ?_ (State.wrBytes_moves ..) (by decide)
  refine .step ?_ (State.wrBytes_moves ..) (by decide)
  exact .refl ..

/-- What `State.extendMeas` may change: registers of PD 0. -/
theorem State.extendMeas_moves (s : State) (d : List ℕ) : Moves 0x400000000000 s (State.extendMeas s d) := by
  unfold State.extendMeas
  refine Moves.foldl ?_ ?_
  exact .refl ..
  intro u3_0 u3_1
  refine .step ?_ (State.set_moves (d := 0) rfl) (by decide)
  exact .refl ..

/-- What `State.firstLoad` may change: core, wld. -/
theorem State.firstLoad_moves (s : State) : Moves 0x5000000 s (State.firstLoad s) := by
  unfold State.firstLoad
  apply Moves.ite
  exact .refl ..
  refine .step ?_ (State.upd_wld_moves ..) (by decide)
  refine .step ?_ (State.updCore_moves ..) (by decide)
  exact .refl ..

/-- What `State.loadGood` may change: core, wld, mem; registers of PD 0, 3. -/
theorem State.loadGood_moves (s : State) (i : Image) (d : List ℕ) : Moves 0x2600005000000 s (State.loadGood s i d) := by
  unfold State.loadGood
  refine .step ?_ (State.set_moves (d := 3) rfl) (by decide)
  refine .step ?_ (State.set_moves (d := 3) rfl) (by decide)
  refine .step ?_ (State.set_moves (d := 3) rfl) (by decide)
  refine .step ?_ (State.upd_wld_moves ..) (by decide)
  refine .step ?_ (State.firstLoad_moves ..) (by decide)
  refine .step ?_ (State.inc_moves (d := 0) rfl) (by decide)
  refine .step ?_ (State.set_moves (d := 3) rfl) (by decide)
  refine .step ?_ (State.set_moves (d := 0) rfl) (by decide)
  refine .step ?_ (State.set_moves (d := 3) rfl) (by decide)
  refine .step ?_ (State.set_moves (d := 3) rfl) (by decide)
  refine .step ?_ (State.extendMeas_moves ..) (by decide)
  refine .step ?_ (State.copyImage_moves ..) (by decide)
  exact .refl ..

/-- What `State.loadEnds` may change: icu, health, core, wld, vrec, flash, mem; registers of PD 0, 2, 3, 6. -/
theorem State.loadEnds_moves (s : State) : Moves 0x13600215800020 s (State.loadEnds s) := by
  unfold State.loadEnds
  refine .step ?_ (State.journal_moves ..) (by decide)
  refine .step ?_ (State.raise_moves ..) (by decide)
  refine .step ?_ (State.set_moves (d := 3) rfl) (by decide)
  split
  refine .step ?_ (State.loadGood_moves ..) (by decide)
  refine .step ?_ (State.eccRange_moves ..) (by decide)
  exact .refl ..
  refine .step ?_ (State.set_moves (d := 3) rfl) (by decide)
  refine .step ?_ (State.set_moves (d := 3) rfl) (by decide)
  refine .step ?_ (State.wipeSealed_moves ..) (by decide)
  refine .step ?_ (State.eccRange_moves ..) (by decide)
  exact .refl ..

end Sys2Proof.Machine
end

