-- ==== Sys2Proof/Laws/MovesHealthRows.lean ====
section
/-!
SUPPORT. What each function of Machine/HealthRows.lean may change.
-/

namespace Sys2Proof.Machine

/-- What `State.thermal` may change: icu, health; registers of PD 0, 6. -/
theorem State.thermal_moves (s : State) (t : ℤ) : Moves 0x10400000800020 s (State.thermal s t) := by
  unfold State.thermal
  apply Moves.ite
  refine .step ?_ (State.upd_health_moves ..) (by decide)
  exact .refl ..
  apply Moves.ite
  apply Moves.ite
  refine .step ?_ (State.advise_moves ..) (by decide)
  refine .step ?_ (State.raise_moves ..) (by decide)
  refine .step ?_ (State.inc_moves (d := 0) rfl) (by decide)
  refine .step ?_ (State.upd_health_moves ..) (by decide)
  exact .refl ..
  refine .step ?_ (State.raise_moves ..) (by decide)
  refine .step ?_ (State.inc_moves (d := 0) rfl) (by decide)
  refine .step ?_ (State.upd_health_moves ..) (by decide)
  exact .refl ..
  exact .refl ..

/-- What `State.advisoryRecord` may change: icu, health, vrec; registers of PD 6. -/
theorem State.advisoryRecord_moves (s : State) : Moves 0x10000010800020 s (State.advisoryRecord s) := by
  unfold State.advisoryRecord
  apply Moves.ite
  exact .refl ..
  refine .step ?_ (State.raise_moves ..) (by decide)
  refine .step ?_ (State.journal_moves ..) (by decide)
  refine Moves.foldl ?_ ?_
  refine .step ?_ (State.upd_health_moves ..) (by decide)
  exact .refl ..
  intro u2_0 u2_1
  refine .step ?_ (State.journal_moves ..) (by decide)
  exact .refl ..

/-- What `State.boardService` may change: icu, vrec; registers of PD 0, 6. -/
theorem State.boardService_moves (s : State) (b : ℕ) : Moves 0x10400010000020 s (State.boardService s b) := by
  unfold State.boardService
  apply Moves.ite
  exact .refl ..
  apply Moves.ite
  refine .step ?_ (State.set_moves (d := 0) rfl) (by decide)
  exact .refl ..
  refine .step ?_ (State.raise_moves ..) (by decide)
  refine .step ?_ (State.journal_moves ..) (by decide)
  refine .step ?_ (State.setBit_moves (d := 0) rfl) (by decide)
  refine .step ?_ (State.set_moves (d := 0) rfl) (by decide)
  exact .refl ..

end Sys2Proof.Machine
end

