-- ==== Sys2Proof/Laws/MovesIdle.lean ====
section
/-!
SUPPORT. What each function of Machine/Idle.lean may change.
-/

namespace Sys2Proof.Machine

/-- What `State.countTmr` may change: tmr; registers of PD 6. -/
theorem State.countTmr_moves (s : State) (n : ℕ) : Moves 0x10000000100000 s (State.countTmr s n) := by
  unfold State.countTmr
  apply Moves.ite
  exact .refl ..
  apply Moves.ite
  refine .step ?_ (State.upd_tmr_moves ..) (by decide)
  exact .refl ..
  split
  refine .step ?_ (State.set_moves (d := 6) rfl) (by decide)
  refine .step ?_ (State.upd_tmr_moves ..) (by decide)
  exact .refl ..
  apply Moves.ite
  refine .step ?_ (State.set_moves (d := 6) rfl) (by decide)
  refine .step ?_ (State.upd_tmr_moves ..) (by decide)
  exact .refl ..
  exact .refl ..

/-- What `State.countTimers` may change: tmr; registers of PD 6. -/
theorem State.countTimers_moves (s : State) : Moves 0x10000000100000 s (State.countTimers s) := by
  unfold State.countTimers
  refine Moves.foldl ?_ ?_
  refine .step ?_ (State.upd_tmr_moves ..) (by decide)
  exact .refl ..
  intro u3_0 u3_1
  refine .step ?_ (State.countTmr_moves ..) (by decide)
  exact .refl ..

/-- What `State.idlePick` may change: time, icu, dac, lane, tmr; registers of PD 6. -/
theorem State.idlePick_moves (s : State) : Moves 0x10000000100a30 s (State.idlePick s) := by
  unfold State.idlePick
  refine .step ?_ (State.countTimers_moves ..) (by decide)
  refine .step ?_ (State.upd_time_icu_dac_lane_moves fun _ h => h) (by decide)
  exact .refl ..

end Sys2Proof.Machine
end

