-- ==== Sys2Proof/Laws/MovesMemRows.lean ====
section
/-!
SUPPORT. What each function of Machine/MemRows.lean may change.
-/

namespace Sys2Proof.Machine

/-- What `State.lmbRead` may change: free. -/
theorem State.lmbRead_moves (s : State) (a : ℕ) (n : ℕ) : Moves 0x1 s (State.lmbRead s a n).2.2 := by
  unfold State.lmbRead
  apply Moves.ite22
  exact .refl ..
  apply Moves.ite22
  exact .refl ..
  refine .step ?_ (State.freeBytes_moves ..) (by decide)
  exact .refl ..

/-- What `State.lmbWrite` may change: mem; registers of PD 1. -/
theorem State.lmbWrite_moves (s : State) (a : ℕ) (n : ℕ) (v : ℕ) : Moves 0xa00000000000 s (State.lmbWrite s a n v).2 := by
  unfold State.lmbWrite
  apply Moves.ite2
  exact .refl ..
  apply Moves.ite2
  refine Moves.foldl ?_ ?_
  exact .refl ..
  intro u5_0 u5_1
  refine .step ?_ (State.localBuf_moves ..) (by decide)
  exact .refl ..
  exact .refl ..

/-- What `State.dataRead` may change: free, icu, health, flash; registers of PD 0, 2, 6. -/
theorem State.dataRead_moves (s : State) (c : ℕ) (a : ℕ) (n : ℕ) : Moves 0x11400200800021 s (State.dataRead s c a n).2.2 := by
  unfold State.dataRead
  apply Moves.ite22
  exact .refl ..
  apply Moves.ite22
  refine .step ?_ (State.busFlash_moves ..) (by decide)
  exact .refl ..
  apply Moves.ite22
  refine .step ?_ (State.busFlash_moves ..) (by decide)
  exact .refl ..
  apply Moves.ite22
  exact .refl ..
  refine .step ?_ (State.lmbRead_moves ..) (by decide)
  exact .refl ..

/-- What `State.dataWrite` may change: core, mem; registers of PD 1. -/
theorem State.dataWrite_moves (s : State) (c : ℕ) (a : ℕ) (n : ℕ) (v : ℕ) : Moves 0xa00001000000 s (State.dataWrite s c a n v).2 := by
  unfold State.dataWrite
  apply Moves.ite2
  refine .step ?_ (State.dropRes_moves ..) (by decide)
  refine .step ?_ (State.tcmWrite_moves ..) (by decide)
  exact .refl ..
  apply Moves.ite2
  apply Moves.ite
  refine .step ?_ (State.dropRes_moves ..) (by decide)
  refine .step ?_ (State.setBytes_moves ..) (by decide)
  exact .refl ..
  exact .refl ..
  refine .step ?_ (State.lmbWrite_moves ..) (by decide)
  exact .refl ..

/-- What `State.openWait` may change: free, core. -/
theorem State.openWait_moves (s : State) (c : ℕ) : Moves 0x1000001 s (State.openWait s c) := by
  unfold State.openWait
  refine .step ?_ (State.cycles_moves ..) (by decide)
  refine .step ?_ (State.upd_free_moves ..) (by decide)
  exact .refl ..

/-- What `State.dataWait` may change: free, core. -/
theorem State.dataWait_moves (s : State) (c : ℕ) (a : ℕ) : Moves 0x1000001 s (State.dataWait s c a) := by
  unfold State.dataWait
  apply Moves.ite
  exact .refl ..
  refine .step ?_ (State.openWait_moves ..) (by decide)
  exact .refl ..

/-- What `State.ioWait` may change: free, core. -/
theorem State.ioWait_moves (s : State) (c : ℕ) (a : ℕ) : Moves 0x1000001 s (State.ioWait s c a) := by
  unfold State.ioWait
  apply Moves.ite
  refine .step ?_ (State.cycles_moves ..) (by decide)
  exact .refl ..
  split
  apply Moves.ite
  refine .step ?_ (State.cycles_moves ..) (by decide)
  exact .refl ..
  refine .step ?_ (State.openWait_moves ..) (by decide)
  exact .refl ..
  refine .step ?_ (State.cycles_moves ..) (by decide)
  exact .refl ..

/-- What `State.alignExc` may change: free, frozen, key, time, icu, adc, res, cmp, dac, rfm, lane, shed, hedCnt, pwm, trip, pad, loomCfg, fuseLoaded, gov, tmr, dma, dmaLast, health, core, ply, wld, seq, vrec, warp, crerus, queue, jrnl, flash, custody, lc, shadow, pwr, rst, clk, dbg, xspi, uart, i2c, mem; registers of PD 0, 1, 2, 3, 4, 5, 6, 7, 8, 9, 10, 11, 12. -/
theorem State.alignExc_moves (s : State) (c : ℕ) (ea : Word) (space : ℕ) (w : Bool) : Moves 0x7ffffeffffffffd s (State.alignExc s c ea space w) := by
  unfold State.alignExc
  refine .step ?_ (State.takeExc_moves ..) (by decide)
  exact .refl ..

/-- What `State.accessExc` may change: free, frozen, key, time, icu, adc, res, cmp, dac, rfm, lane, shed, hedCnt, pwm, trip, pad, loomCfg, fuseLoaded, gov, tmr, dma, dmaLast, health, core, ply, wld, seq, vrec, warp, crerus, queue, jrnl, flash, custody, lc, shadow, pwr, rst, clk, dbg, xspi, uart, i2c, mem; registers of PD 0, 1, 2, 3, 4, 5, 6, 7, 8, 9, 10, 11, 12. -/
theorem State.accessExc_moves (s : State) (c : ℕ) (ea : Word) (r : Reason) (space : ℕ) (w : Bool) : Moves 0x7ffffeffffffffd s (State.accessExc s c ea r space w) := by
  unfold State.accessExc
  refine .step ?_ (State.takeExc_moves ..) (by decide)
  exact .refl ..

/-- What `State.answered` may change: free, frozen, key, time, icu, adc, res, cmp, dac, rfm, lane, shed, hedCnt, pwm, trip, pad, loomCfg, fuseLoaded, gov, tmr, dma, dmaLast, health, core, ply, wld, seq, vrec, warp, crerus, queue, jrnl, flash, custody, lc, shadow, pwr, rst, clk, dbg, xspi, uart, i2c, mem; registers of PD 0, 1, 2, 3, 4, 5, 6, 7, 8, 9, 10, 11, 12. -/
theorem State.answered_moves {K : Nat} (s : State) (c : ℕ) (x : Access) (ea : Word) (space : ℕ) (w : Bool) (r : BusAns) (f : State → State) (hf : ∀ x0, Moves K x0 (f x0)) (e : 0x7ffffeffffffffd ||| K = K) : Moves K s (State.answered s c x ea space w r f) := by
  unfold State.answered
  split
  refine .trans ?_ (hf ..)
  refine .step ?_ (State.updCore_moves ..) (sub_of (by decide) e)
  exact .refl ..
  apply Moves.ite
  refine .step ?_ (State.accessExc_moves ..) (sub_of (by decide) e)
  exact .refl ..
  refine .step ?_ (State.updCore_moves ..) (sub_of (by decide) e)
  exact .refl ..
  refine .step ?_ (State.updCore_moves ..) (sub_of (by decide) e)
  exact .refl ..
  refine .step ?_ (State.accessExc_moves ..) (sub_of (by decide) e)
  exact .refl ..
  refine .step ?_ (State.accessExc_moves ..) (sub_of (by decide) e)
  exact .refl ..
  refine .step ?_ (State.accessExc_moves ..) (sub_of (by decide) e)
  exact .refl ..
  refine .step ?_ (State.accessExc_moves ..) (sub_of (by decide) e)
  exact .refl ..
  refine .step ?_ (State.accessExc_moves ..) (sub_of (by decide) e)
  exact .refl ..

/-- What `State.dataMatch` may change: free, core; registers of PD 0. -/
theorem State.dataMatch_moves (s : State) (c : ℕ) (ea : ℕ) (w : Bool) : Moves 0x400001000001 s (State.dataMatch s c ea w) := by
  unfold State.dataMatch
  split
  refine .step ?_ (State.haltOrAsk_moves ..) (by decide)
  exact .refl ..
  exact .refl ..

/-- What `State.loaded` may change: free, core; registers of PD 0. -/
theorem State.loaded_moves (s : State) (c : ℕ) (rd : Fin 32) (v : Word) : Moves 0x400001000001 s (State.loaded s c rd v) := by
  unfold State.loaded
  refine .step ?_ (State.complete_moves ..) (by decide)
  exact .refl ..

/-- What `State.goLoad` may change: free, frozen, key, time, icu, adc, res, cmp, dac, rfm, lane, shed, hedCnt, pwm, trip, pad, loomCfg, fuseLoaded, gov, tmr, dma, dmaLast, health, core, ply, wld, seq, vrec, warp, crerus, queue, jrnl, flash, custody, lc, shadow, pwr, rst, clk, dbg, xspi, uart, i2c, mem; registers of PD 0, 1, 2, 3, 4, 5, 6, 7, 8, 9, 10, 11, 12. -/
theorem State.goLoad_moves (s : State) (c : ℕ) (x : Access) (rd : Fin 32) (n : ℕ) (signed : Bool) : Moves 0x7ffffeffffffffd s (State.goLoad s c x rd n signed) := by
  unfold State.goLoad
  apply Moves.ite
  refine .step ?_ (State.tcmFault_moves ..) (by decide)
  exact .refl ..
  split
  refine .trans ?_ (State.answered_moves _ _ _ _ _ _ _ _ ?_ (by decide))
  refine .step ?_ (Moves.snd2 (State.dataRead_moves ..) (by assumption)) (by decide)
  exact .refl ..
  intro u3_0
  refine .step ?_ (State.dataMatch_moves ..) (by decide)
  refine .step ?_ (State.loaded_moves ..) (by decide)
  exact .refl ..

/-- What `State.goStore` may change: free, frozen, key, time, icu, adc, res, cmp, dac, rfm, lane, shed, hedCnt, pwm, trip, pad, loomCfg, fuseLoaded, gov, tmr, dma, dmaLast, health, core, ply, wld, seq, vrec, warp, crerus, queue, jrnl, flash, custody, lc, shadow, pwr, rst, clk, dbg, xspi, uart, i2c, mem; registers of PD 0, 1, 2, 3, 4, 5, 6, 7, 8, 9, 10, 11, 12. -/
theorem State.goStore_moves (s : State) (c : ℕ) (x : Access) (n : ℕ) (v : Word) : Moves 0x7ffffeffffffffd s (State.goStore s c x n v) := by
  unfold State.goStore
  extract_lets +onlyGivenNames v3
  clear_value v3
  split
  refine .trans ?_ (State.answered_moves _ _ _ _ _ _ _ _ ?_ (by decide))
  refine .step ?_ (Moves.snd (State.dataWrite_moves ..) (by assumption)) (by decide)
  exact .refl ..
  intro u4_0
  refine .step ?_ (State.dataMatch_moves ..) (by decide)
  refine .step ?_ (State.complete_moves ..) (by decide)
  exact .refl ..

/-- What `State.goLoadx` may change: free, frozen, key, time, icu, adc, res, cmp, dac, rfm, lane, shed, hedCnt, pwm, trip, pad, loomCfg, fuseLoaded, gov, tmr, dma, dmaLast, health, core, ply, wld, seq, vrec, warp, crerus, queue, jrnl, flash, custody, lc, shadow, pwr, rst, clk, dbg, xspi, uart, i2c, mem; registers of PD 0, 1, 2, 3, 4, 5, 6, 7, 8, 9, 10, 11, 12. -/
theorem State.goLoadx_moves (s : State) (c : ℕ) (x : Access) (rd : Fin 32) : Moves 0x7ffffeffffffffd s (State.goLoadx s c x rd) := by
  unfold State.goLoadx
  apply Moves.ite
  refine .step ?_ (State.tcmFault_moves ..) (by decide)
  exact .refl ..
  split
  refine .trans ?_ (State.answered_moves _ _ _ _ _ _ _ _ ?_ (by decide))
  refine .step ?_ (Moves.snd2 (State.dataRead_moves ..) (by assumption)) (by decide)
  exact .refl ..
  intro u3_0
  refine .step ?_ (State.dataMatch_moves ..) (by decide)
  refine .step ?_ (State.loaded_moves ..) (by decide)
  refine .step ?_ (State.updCore_moves ..) (by decide)
  exact .refl ..

/-- What `State.stxEnd` may change: free, core; registers of PD 0. -/
theorem State.stxEnd_moves (s : State) (c : ℕ) (rs : Fin 32) (a : ℕ) (v : Word) : Moves 0x400001000001 s (State.stxEnd s c rs a v) := by
  unfold State.stxEnd
  refine .step ?_ (State.dataMatch_moves ..) (by decide)
  refine .step ?_ (State.complete_moves ..) (by decide)
  exact .refl ..

/-- What `State.goStorex` may change: free, frozen, key, time, icu, adc, res, cmp, dac, rfm, lane, shed, hedCnt, pwm, trip, pad, loomCfg, fuseLoaded, gov, tmr, dma, dmaLast, health, core, ply, wld, seq, vrec, warp, crerus, queue, jrnl, flash, custody, lc, shadow, pwr, rst, clk, dbg, xspi, uart, i2c, mem; registers of PD 0, 1, 2, 3, 4, 5, 6, 7, 8, 9, 10, 11, 12. -/
theorem State.goStorex_moves (s : State) (c : ℕ) (x : Access) (rs : Fin 32) : Moves 0x7ffffeffffffffd s (State.goStorex s c x rs) := by
  unfold State.goStorex
  apply Moves.ite
  split
  refine .trans ?_ (State.answered_moves _ _ _ _ _ _ _ _ ?_ (by decide))
  refine .step ?_ (Moves.snd (State.dataWrite_moves ..) (by assumption)) (by decide)
  exact .refl ..
  intro u3_0
  refine .step ?_ (State.stxEnd_moves ..) (by decide)
  exact .refl ..
  refine .step ?_ (State.stxEnd_moves ..) (by decide)
  exact .refl ..

/-- What `State.checked` may change: free, frozen, key, time, icu, adc, res, cmp, dac, rfm, lane, shed, hedCnt, pwm, trip, pad, loomCfg, fuseLoaded, gov, tmr, dma, dmaLast, health, core, ply, wld, seq, vrec, warp, crerus, queue, jrnl, flash, custody, lc, shadow, pwr, rst, clk, dbg, xspi, uart, i2c, mem; registers of PD 0, 1, 2, 3, 4, 5, 6, 7, 8, 9, 10, 11, 12. -/
theorem State.checked_moves {K : Nat} (s : State) (c : ℕ) (n : ℕ) (ea : Word) (w : Bool) (f : State → State) (hf : ∀ x0, Moves K x0 (f x0)) (e : 0x7ffffeffffffffd ||| K = K) : Moves K s (State.checked s c n ea w f) := by
  unfold State.checked
  apply Moves.ite
  refine .step ?_ (State.alignExc_moves ..) (sub_of (by decide) e)
  exact .refl ..
  split
  refine .step ?_ (State.accessExc_moves ..) (sub_of (by decide) e)
  exact .refl ..
  refine .trans ?_ (hf ..)
  exact .refl ..

/-- What `State.load` may change: free, frozen, key, time, icu, adc, res, cmp, dac, rfm, lane, shed, hedCnt, pwm, trip, pad, loomCfg, fuseLoaded, gov, tmr, dma, dmaLast, health, core, ply, wld, seq, vrec, warp, crerus, queue, jrnl, flash, custody, lc, shadow, pwr, rst, clk, dbg, xspi, uart, i2c, mem; registers of PD 0, 1, 2, 3, 4, 5, 6, 7, 8, 9, 10, 11, 12. -/
theorem State.load_moves (s : State) (c : ℕ) (n : ℕ) (rd : Fin 32) (base : Fin 32) (disp : BitVec 16) (signed : Bool) : Moves 0x7ffffeffffffffd s (State.load s c n rd base disp signed) := by
  unfold State.load
  refine .trans ?_ (State.issue_moves _ _ _ _ ?_ (by decide))
  exact .refl ..
  intro u3_0
  refine .trans ?_ (State.checked_moves _ _ _ _ _ _ ?_ (by decide))
  exact .refl ..
  intro u4_0
  refine .step ?_ (State.goLoad_moves ..) (by decide)
  refine .step ?_ (State.dataWait_moves ..) (by decide)
  exact .refl ..

/-- What `State.store` may change: free, frozen, key, time, icu, adc, res, cmp, dac, rfm, lane, shed, hedCnt, pwm, trip, pad, loomCfg, fuseLoaded, gov, tmr, dma, dmaLast, health, core, ply, wld, seq, vrec, warp, crerus, queue, jrnl, flash, custody, lc, shadow, pwr, rst, clk, dbg, xspi, uart, i2c, mem; registers of PD 0, 1, 2, 3, 4, 5, 6, 7, 8, 9, 10, 11, 12. -/
theorem State.store_moves (s : State) (c : ℕ) (n : ℕ) (rs : Fin 32) (base : Fin 32) (disp : BitVec 16) : Moves 0x7ffffeffffffffd s (State.store s c n rs base disp) := by
  unfold State.store
  refine .trans ?_ (State.issue_moves _ _ _ _ ?_ (by decide))
  exact .refl ..
  intro u3_0
  refine .trans ?_ (State.checked_moves _ _ _ _ _ _ ?_ (by decide))
  exact .refl ..
  intro u4_0
  refine .step ?_ (State.goStore_moves ..) (by decide)
  refine .step ?_ (State.dataWait_moves ..) (by decide)
  exact .refl ..

/-- What `State.pairChecked` may change: free, frozen, key, time, icu, adc, res, cmp, dac, rfm, lane, shed, hedCnt, pwm, trip, pad, loomCfg, fuseLoaded, gov, tmr, dma, dmaLast, health, core, ply, wld, seq, vrec, warp, crerus, queue, jrnl, flash, custody, lc, shadow, pwr, rst, clk, dbg, xspi, uart, i2c, mem; registers of PD 0, 1, 2, 3, 4, 5, 6, 7, 8, 9, 10, 11, 12. -/
theorem State.pairChecked_moves {K : Nat} (s : State) (c : ℕ) (ea : Word) (w : Bool) (f : State → State) (hf : ∀ x0, Moves K x0 (f x0)) (e : 0x7ffffeffffffffd ||| K = K) : Moves K s (State.pairChecked s c ea w f) := by
  unfold State.pairChecked
  apply Moves.ite
  refine .step ?_ (State.alignExc_moves ..) (sub_of (by decide) e)
  exact .refl ..
  apply Moves.ite
  refine .step ?_ (State.accessExc_moves ..) (sub_of (by decide) e)
  exact .refl ..
  refine .trans ?_ (State.checked_moves _ _ _ _ _ _ ?_ (sub_of (by decide) e))
  exact .refl ..
  intro u3_0
  refine .trans ?_ (hf ..)
  exact .refl ..

/-- What `State.goIoLoad` may change: free, resp, frozen, key, time, icu, adc, res, cmp, dac, rfm, lane, shed, hedCnt, pwm, trip, pad, loomCfg, fuseLoaded, gov, tmr, dma, dmaLast, health, core, ply, wld, seq, vrec, warp, crerus, queue, jrnl, flash, custody, lc, shadow, pwr, rst, clk, dbg, xspi, uart, i2c, mem; registers of PD 0, 1, 2, 3, 4, 5, 6, 7, 8, 9, 10, 11, 12. -/
theorem State.goIoLoad_moves (s : State) (c : ℕ) (x : Access) (rd : Fin 32) : Moves 0x7ffffefffffffff s (State.goIoLoad s c x rd) := by
  unfold State.goIoLoad
  refine .trans ?_ (State.answered_moves _ _ _ _ _ _ _ _ ?_ (by decide))
  refine .step ?_ (State.ioRead_moves ..) (by decide)
  exact .refl ..
  intro u3_0
  refine .step ?_ (State.dataMatch_moves ..) (by decide)
  refine .step ?_ (State.loaded_moves ..) (by decide)
  exact .refl ..

/-- What `State.goIoStore` may change: free, resp, frozen, key, time, icu, adc, res, cmp, dac, rfm, lane, shed, hedCnt, pwm, trip, pad, loomCfg, fuseLoaded, gov, tmr, dma, dmaLast, health, core, ply, wld, seq, vrec, warp, crerus, queue, jrnl, flash, custody, lc, shadow, pwr, rst, clk, dbg, xspi, uart, i2c, mem; registers of PD 0, 1, 2, 3, 4, 5, 6, 7, 8, 9, 10, 11, 12. -/
theorem State.goIoStore_moves (s : State) (c : ℕ) (x : Access) (v : Word) : Moves 0x7ffffefffffffff s (State.goIoStore s c x v) := by
  unfold State.goIoStore
  apply Moves.ite
  refine .step ?_ (State.ioWrite_moves ..) (by decide)
  exact .refl ..
  refine .trans ?_ (State.answered_moves _ _ _ _ _ _ _ _ ?_ (by decide))
  refine .step ?_ (State.ioWrite_moves ..) (by decide)
  exact .refl ..
  intro u3_0
  refine .step ?_ (State.dataMatch_moves ..) (by decide)
  refine .step ?_ (State.complete_moves ..) (by decide)
  exact .refl ..

/-- What `State.ioChecked` may change: free, frozen, key, time, icu, adc, res, cmp, dac, rfm, lane, shed, hedCnt, pwm, trip, pad, loomCfg, fuseLoaded, gov, tmr, dma, dmaLast, health, core, ply, wld, seq, vrec, warp, crerus, queue, jrnl, flash, custody, lc, shadow, pwr, rst, clk, dbg, xspi, uart, i2c, mem; registers of PD 0, 1, 2, 3, 4, 5, 6, 7, 8, 9, 10, 11, 12. -/
theorem State.ioChecked_moves {K : Nat} (s : State) (c : ℕ) (ea : Word) (w : Bool) (f : State → State) (hf : ∀ x0, Moves K x0 (f x0)) (e : 0x7ffffeffffffffd ||| K = K) : Moves K s (State.ioChecked s c ea w f) := by
  unfold State.ioChecked
  apply Moves.ite
  refine .step ?_ (State.alignExc_moves ..) (sub_of (by decide) e)
  exact .refl ..
  apply Moves.ite
  refine .step ?_ (State.accessExc_moves ..) (sub_of (by decide) e)
  exact .refl ..
  apply Moves.ite
  refine .step ?_ (State.accessExc_moves ..) (sub_of (by decide) e)
  exact .refl ..
  apply Moves.ite
  refine .step ?_ (State.accessExc_moves ..) (sub_of (by decide) e)
  exact .refl ..
  refine .trans ?_ (hf ..)
  exact .refl ..

/-- What `State.moveEnd` may change: free, core; registers of PD 0. -/
theorem State.moveEnd_moves (s : State) (c : ℕ) (m : Move) : Moves 0x400001000001 s (State.moveEnd s c m) := by
  unfold State.moveEnd
  extract_lets +onlyGivenNames v3
  refine Moves.bindV (v := v3) ?_ ?_
  unfold v3
  refine .step ?_ (State.complete_moves ..) (by decide)
  exact .refl ..
  intro hv3
  clear_value v3
  extract_lets +onlyGivenNames v4
  clear_value v4
  split
  refine .step ?_ (State.haltOrAsk_moves ..) (by decide)
  assumption
  assumption

/-- What `State.movePause` may change: core. -/
theorem State.movePause_moves (s : State) (c : ℕ) (m : Move) : Moves 0x1000000 s (State.movePause s c m) := by
  unfold State.movePause
  refine .step ?_ (State.updCore_moves ..) (by decide)
  exact .refl ..

/-- What `State.moveFault` may change: free, frozen, key, time, icu, adc, res, cmp, dac, rfm, lane, shed, hedCnt, pwm, trip, pad, loomCfg, fuseLoaded, gov, tmr, dma, dmaLast, health, core, ply, wld, seq, vrec, warp, crerus, queue, jrnl, flash, custody, lc, shadow, pwr, rst, clk, dbg, xspi, uart, i2c, mem; registers of PD 0, 1, 2, 3, 4, 5, 6, 7, 8, 9, 10, 11, 12. -/
theorem State.moveFault_moves (s : State) (c : ℕ) (m : Move) (r : Reason) : Moves 0x7ffffeffffffffd s (State.moveFault s c m r) := by
  unfold State.moveFault
  refine .step ?_ (State.accessExc_moves ..) (by decide)
  refine .step ?_ (State.updCore_moves ..) (by decide)
  exact .refl ..

/-- What `State.moveRow` may change: free, icu, health, core, flash, mem; registers of PD 0, 1, 2, 6. -/
theorem State.moveRow_moves (s : State) (c : ℕ) (m : Move) : Moves 0x11e00201800021 s (State.moveRow s c m).2 := by
  unfold State.moveRow
  apply Moves.ite2
  refine .step ?_ (State.dataWrite_moves ..) (by decide)
  apply Moves.ite
  exact .refl ..
  refine .step ?_ (State.cycles_moves ..) (by decide)
  refine .step ?_ (State.dataWait_moves ..) (by decide)
  exact .refl ..
  split
  dsimp only
  apply Moves.ite
  refine .step ?_ (State.updCore_moves ..) (by decide)
  refine .step ?_ (Moves.snd2 (State.dataRead_moves ..) (by assumption)) (by decide)
  apply Moves.ite
  exact .refl ..
  refine .step ?_ (State.cycles_moves ..) (by decide)
  refine .step ?_ (State.dataWait_moves ..) (by decide)
  exact .refl ..
  refine .step ?_ (Moves.snd2 (State.dataRead_moves ..) (by assumption)) (by decide)
  apply Moves.ite
  exact .refl ..
  refine .step ?_ (State.cycles_moves ..) (by decide)
  refine .step ?_ (State.dataWait_moves ..) (by decide)
  exact .refl ..

/-- What `State.moveRows` may change: free, frozen, key, time, icu, adc, res, cmp, dac, rfm, lane, shed, hedCnt, pwm, trip, pad, loomCfg, fuseLoaded, gov, tmr, dma, dmaLast, health, core, ply, wld, seq, vrec, warp, crerus, queue, jrnl, flash, custody, lc, shadow, pwr, rst, clk, dbg, xspi, uart, i2c, mem; registers of PD 0, 1, 2, 3, 4, 5, 6, 7, 8, 9, 10, 11, 12. -/
theorem State.moveRows_moves (a0 : ℕ) (a1 : State) (a2 : ℕ) (a3 : Move) : Moves 0x7ffffeffffffffd a1 (State.moveRows a0 a1 a2 a3) := by
  induction a0 generalizing a1 a2 a3
  unfold State.moveRows
  exact .refl ..
  rename_i n ih
  unfold State.moveRows
  apply Moves.ite
  refine .step ?_ (State.movePause_moves ..) (by decide)
  exact .refl ..
  apply Moves.ite
  refine .step ?_ (State.moveEnd_moves ..) (by decide)
  exact .refl ..
  extract_lets +onlyGivenNames v3
  clear_value v3
  split
  refine .step ?_ (State.moveFault_moves ..) (by decide)
  exact .refl ..
  apply Moves.ite
  refine .step ?_ (State.tcmFault_moves ..) (by decide)
  exact .refl ..
  split
  split
  refine .trans ?_ (ih ..)
  refine .step ?_ (State.updCore_moves ..) (by decide)
  refine .step ?_ (Moves.snd (State.moveRow_moves ..) (by assumption)) (by decide)
  exact .refl ..
  apply Moves.ite
  refine .step ?_ (State.moveFault_moves ..) (by decide)
  refine .step ?_ (Moves.snd (State.moveRow_moves ..) (by assumption)) (by decide)
  exact .refl ..
  refine .step ?_ (State.updCore_moves ..) (by decide)
  refine .step ?_ (Moves.snd (State.moveRow_moves ..) (by assumption)) (by decide)
  exact .refl ..
  refine .step ?_ (State.updCore_moves ..) (by decide)
  refine .step ?_ (Moves.snd (State.moveRow_moves ..) (by assumption)) (by decide)
  exact .refl ..
  refine .step ?_ (State.moveFault_moves ..) (by decide)
  refine .step ?_ (Moves.snd (State.moveRow_moves ..) (by assumption)) (by decide)
  exact .refl ..
  refine .step ?_ (State.moveFault_moves ..) (by decide)
  refine .step ?_ (Moves.snd (State.moveRow_moves ..) (by assumption)) (by decide)
  exact .refl ..

/-- What `State.moveGo` may change: free, frozen, key, time, icu, adc, res, cmp, dac, rfm, lane, shed, hedCnt, pwm, trip, pad, loomCfg, fuseLoaded, gov, tmr, dma, dmaLast, health, core, ply, wld, seq, vrec, warp, crerus, queue, jrnl, flash, custody, lc, shadow, pwr, rst, clk, dbg, xspi, uart, i2c, mem; registers of PD 0, 1, 2, 3, 4, 5, 6, 7, 8, 9, 10, 11. -/
theorem State.moveGo_moves (s : State) (c : ℕ) (m : Move) : Moves 0x7ffffeffffffffd s (State.moveGo s c m) := by
  unfold State.moveGo
  apply Moves.ite
  refine .step ?_ (State.complete_moves ..) (by decide)
  apply Moves.ite
  refine .step ?_ (State.updCore_moves ..) (by decide)
  exact .refl ..
  exact .refl ..
  apply Moves.ite
  refine .step ?_ (State.alignExc_moves ..) (by decide)
  apply Moves.ite
  refine .step ?_ (State.updCore_moves ..) (by decide)
  exact .refl ..
  exact .refl ..
  refine .step ?_ (State.moveRows_moves ..) (by decide)
  apply Moves.ite
  refine .step ?_ (State.updCore_moves ..) (by decide)
  exact .refl ..
  exact .refl ..

/-- What `State.tileMove` may change: free, frozen, key, time, icu, adc, res, cmp, dac, rfm, lane, shed, hedCnt, pwm, trip, pad, loomCfg, fuseLoaded, gov, tmr, dma, dmaLast, health, core, ply, wld, seq, vrec, warp, crerus, queue, jrnl, flash, custody, lc, shadow, pwr, rst, clk, dbg, xspi, uart, i2c, mem; registers of PD 0, 1, 2, 3, 4, 5, 6, 7, 8, 9, 10, 11. -/
theorem State.tileMove_moves (s : State) (c : ℕ) (op : BitVec 3) (t : Fin 8) (gs : Fin 32) (base : Fin 32) (disp : BitVec 12) (stop : ℕ) : Moves 0x7ffffeffffffffd s (State.tileMove s c op t gs base disp stop) := by
  unfold State.tileMove
  refine .trans ?_ (State.issue_moves _ _ _ _ ?_ (by decide))
  exact .refl ..
  intro u9_0
  refine .step ?_ (State.moveGo_moves ..) (by decide)
  exact .refl ..

/-- What `State.tileSave` may change: free, frozen, key, time, icu, adc, res, cmp, dac, rfm, lane, shed, hedCnt, pwm, trip, pad, loomCfg, fuseLoaded, gov, tmr, dma, dmaLast, health, core, ply, wld, seq, vrec, warp, crerus, queue, jrnl, flash, custody, lc, shadow, pwr, rst, clk, dbg, xspi, uart, i2c, mem; registers of PD 0, 1, 2, 3, 4, 5, 6, 7, 8, 9, 10, 11. -/
theorem State.tileSave_moves (s : State) (c : ℕ) (op : BitVec 3) (acc : Bool) (t : Fin 8) (base : Fin 32) (disp : BitVec 12) (stop : ℕ) : Moves 0x7ffffeffffffffd s (State.tileSave s c op acc t base disp stop) := by
  unfold State.tileSave
  refine .trans ?_ (State.issue_moves _ _ _ _ ?_ (by decide))
  exact .refl ..
  intro u9_0
  apply Moves.ite
  refine .step ?_ (State.illegal_moves ..) (by decide)
  exact .refl ..
  refine .step ?_ (State.moveGo_moves ..) (by decide)
  exact .refl ..

/-- What `State.goFetch` may change: free, frozen, key, time, icu, adc, res, cmp, dac, rfm, lane, shed, hedCnt, pwm, trip, pad, loomCfg, fuseLoaded, gov, tmr, dma, dmaLast, health, core, ply, wld, seq, vrec, warp, crerus, queue, jrnl, flash, custody, lc, shadow, pwr, rst, clk, dbg, xspi, uart, i2c, mem; registers of PD 0, 1, 2, 3, 4, 5, 6, 7, 8, 9, 10, 11, 12. -/
theorem State.goFetch_moves (s : State) (c : ℕ) (x : Access) : Moves 0x7ffffeffffffffd s (State.goFetch s c x) := by
  unfold State.goFetch
  apply Moves.ite
  apply Moves.ite
  refine .step ?_ (State.fetchWaits_moves ..) (by decide)
  exact .refl ..
  split
  apply Moves.ite
  refine .step ?_ (State.fetchExc_moves ..) (by decide)
  refine .step ?_ (Moves.snd (State.eccLine_moves ..) (by assumption)) (by decide)
  exact .refl ..
  split
  refine .step ?_ (State.updCore_moves ..) (by decide)
  refine .step ?_ (State.fillLine_moves ..) (by decide)
  refine .step ?_ (State.cycles_moves ..) (by decide)
  refine .step ?_ (Moves.snd (State.missWait_moves ..) (by assumption)) (by decide)
  refine .step ?_ (Moves.snd (State.eccLine_moves ..) (by assumption)) (by decide)
  exact .refl ..
  apply Moves.ite
  apply Moves.ite
  refine .step ?_ (State.fetchExc_moves ..) (by decide)
  exact .refl ..
  refine .step ?_ (State.fetchWaits_moves ..) (by decide)
  exact .refl ..
  refine .step ?_ (State.fetchExc_moves ..) (by decide)
  exact .refl ..

/-- What `State.again` may change: free, resp, frozen, key, time, icu, adc, res, cmp, dac, rfm, lane, shed, hedCnt, pwm, trip, pad, loomCfg, fuseLoaded, gov, tmr, dma, dmaLast, health, core, ply, wld, seq, vrec, warp, crerus, queue, jrnl, flash, custody, lc, shadow, pwr, rst, clk, dbg, xspi, uart, i2c, mem; registers of PD 0, 1, 2, 3, 4, 5, 6, 7, 8, 9, 10, 11. -/
theorem State.again_moves (s : State) (c : ℕ) (x : Access) : Moves 0x7ffffefffffffff s (State.again s c x) := by
  unfold State.again
  split
  refine .step ?_ (State.goFetch_moves ..) (by decide)
  exact .refl ..
  refine .step ?_ (State.goLoad_moves ..) (by decide)
  exact .refl ..
  refine .step ?_ (State.goStore_moves ..) (by decide)
  exact .refl ..
  refine .step ?_ (State.goLoadx_moves ..) (by decide)
  exact .refl ..
  refine .step ?_ (State.goStorex_moves ..) (by decide)
  exact .refl ..
  refine .step ?_ (State.goIoLoad_moves ..) (by decide)
  exact .refl ..
  refine .step ?_ (State.goIoStore_moves ..) (by decide)
  exact .refl ..
  refine .step ?_ (State.moveRows_moves ..) (by decide)
  exact .refl ..

/-- What `State.reissue` may change: free, resp, frozen, key, time, icu, adc, res, cmp, dac, rfm, lane, shed, hedCnt, pwm, trip, pad, loomCfg, fuseLoaded, gov, tmr, dma, dmaLast, health, core, ply, wld, seq, vrec, warp, crerus, queue, jrnl, flash, custody, lc, shadow, pwr, rst, clk, dbg, xspi, uart, i2c, mem; registers of PD 0, 1, 2, 3, 4, 5, 6, 7, 8, 9, 10, 11, 12. -/
theorem State.reissue_moves (s : State) (c : ℕ) : Moves 0x7ffffefffffffff s (State.reissue s c) := by
  unfold State.reissue
  split
  exact .refl ..
  split
  refine .step ?_ (State.again_moves ..) (by decide)
  refine .step ?_ (State.updCore_moves ..) (by decide)
  exact .refl ..
  split
  refine .step ?_ (State.again_moves ..) (by decide)
  refine .step ?_ (State.cycles_moves ..) (by decide)
  refine .step ?_ (Moves.snd (State.freeN_moves ..) (by assumption)) (by decide)
  exact .refl ..
  refine .step ?_ (State.again_moves ..) (by decide)
  exact .refl ..

end Sys2Proof.Machine
end

