-- ==== Sys2Proof/Laws/MovesQueueRows.lean ====
section
/-!
SUPPORT. What each function of Machine/QueueRows.lean may change.
-/

namespace Sys2Proof.Machine

/-- What `State.pageGood` may change: vrec, queue, jrnl, flash, mem; registers of PD 2, 10. -/
theorem State.pageGood_moves (s : State) (op : FlashOp) (recs : List (List ℕ)) : Moves 0x101200390000000 s (State.pageGood s op recs) := by
  unfold State.pageGood
  apply Moves.ite
  refine .step ?_ (State.jResume_moves ..) (by decide)
  refine .step ?_ (State.carrySummary_moves ..) (by decide)
  refine .step ?_ (State.upd_jrnl_moves ..) (by decide)
  refine .step ?_ (State.setFlashOp_moves ..) (by decide)
  refine .step ?_ (State.flashApply_moves ..) (by decide)
  exact .refl ..
  refine .step ?_ (State.vrecDrain_moves ..) (by decide)
  refine .step ?_ (State.jResume_moves ..) (by decide)
  refine .step ?_ (State.carrySummary_moves ..) (by decide)
  refine .step ?_ (State.upd_jrnl_moves ..) (by decide)
  refine .step ?_ (State.setFlashOp_moves ..) (by decide)
  refine .step ?_ (State.flashApply_moves ..) (by decide)
  exact .refl ..

/-- What `State.eraseBad` may change: free, vrec, jrnl, flash, mem; registers of PD 2. -/
theorem State.eraseBad_moves (s : State) (op : FlashOp) : Moves 0x1200310000001 s (State.eraseBad s op) := by
  unfold State.eraseBad
  apply Moves.ite
  exact .refl ..
  refine .step ?_ (State.pageStart_moves ..) (by decide)
  refine .step ?_ (State.journal_moves ..) (by decide)
  refine .step ?_ (State.upd_jrnl_moves ..) (by decide)
  refine .step ?_ (State.setFlashOp_moves ..) (by decide)
  refine .step ?_ (State.flashTorn_moves ..) (by decide)
  exact .refl ..

/-- What `State.pageBad` may change: free, vrec, queue, jrnl, flash, mem; registers of PD 2. -/
theorem State.pageBad_moves (s : State) (op : FlashOp) : Moves 0x1200390000001 s (State.pageBad s op) := by
  unfold State.pageBad
  apply Moves.ite
  refine .step ?_ (State.pageAbort_moves ..) (by decide)
  refine .step ?_ (State.setFlashOp_moves ..) (by decide)
  refine .step ?_ (State.flashTorn_moves ..) (by decide)
  refine Moves.foldl ?_ ?_
  exact .refl ..
  intro u3_0 u3_1
  refine .step ?_ (State.wipe_moves ..) (by decide)
  exact .refl ..
  refine .step ?_ (State.vrecDrain_moves ..) (by decide)
  refine .step ?_ (State.pageAbort_moves ..) (by decide)
  refine .step ?_ (State.setFlashOp_moves ..) (by decide)
  refine .step ?_ (State.flashTorn_moves ..) (by decide)
  refine Moves.foldl ?_ ?_
  exact .refl ..
  intro u3_0 u3_1
  refine .step ?_ (State.wipe_moves ..) (by decide)
  exact .refl ..

end Sys2Proof.Machine
end

