-- ==== Sys2Proof/Laws/MovesServiceRows.lean ====
section
/-!
SUPPORT. What each function of Machine/ServiceRows.lean may change.
-/

namespace Sys2Proof.Machine

/-- What `State.laneSwitch` may change: free, resp, frozen, key, time, icu, adc, res, cmp, dac, rfm, lane, shed, hedCnt, pwm, trip, pad, loomCfg, fuseLoaded, gov, tmr, dma, dmaLast, health, core, ply, wld, seq, vrec, warp, crerus, queue, jrnl, flash, custody, lc, shadow, pwr, rst, clk, dbg, xspi, uart, i2c, mem; registers of PD 0, 1, 2, 3, 4, 5, 6, 7, 8, 9, 10, 11. -/
theorem State.laneSwitch_moves (s : State) (k : ℕ) (on : Bool) : Moves 0x7ffffefffffffff s (State.laneSwitch s k on) := by
  unfold State.laneSwitch
  refine .step ?_ (State.ioWrite_moves ..) (by decide)
  exact .refl ..

/-- What `State.putRun` may change: crerus. -/
theorem State.putRun_moves (s : State) (r : SeqRun) : Moves 0x40000000 s (State.putRun s r) := by
  unfold State.putRun
  refine .step ?_ (State.upd_crerus_moves ..) (by decide)
  exact .refl ..

/-- What `State.seqRun` may change: free, resp, frozen, key, time, icu, adc, res, cmp, dac, rfm, lane, shed, hedCnt, pwm, trip, pad, loomCfg, fuseLoaded, gov, tmr, dma, dmaLast, health, core, ply, wld, seq, vrec, warp, crerus, queue, jrnl, flash, custody, lc, shadow, pwr, rst, clk, dbg, xspi, uart, i2c, mem; registers of PD 0, 1, 2, 3, 4, 5, 6, 7, 8, 9, 10, 11. -/
theorem State.seqRun_moves (s : State) (j : Job) (a2 : ℕ) (a3 : ℕ) : Moves 0x7ffffefffffffff s (State.seqRun s j a2 a3) := by
  induction a2 generalizing s a3
  unfold State.seqRun
  refine .step ?_ (State.finish_moves ..) (by decide)
  refine .step ?_ (State.putRun_moves ..) (by decide)
  exact .refl ..
  rename_i n ih
  unfold State.seqRun
  split
  refine .trans ?_ (ih ..)
  refine .step ?_ (State.putRun_moves ..) (by decide)
  refine .step ?_ (State.laneSwitch_moves ..) (by decide)
  exact .refl ..
  refine .trans ?_ (ih ..)
  refine .step ?_ (State.laneSwitch_moves ..) (by decide)
  exact .refl ..
  apply Moves.ite
  refine .trans ?_ (ih ..)
  exact .refl ..
  refine .step ?_ (State.putRun_moves ..) (by decide)
  exact .refl ..
  apply Moves.ite
  refine .trans ?_ (ih ..)
  exact .refl ..
  refine .step ?_ (State.putRun_moves ..) (by decide)
  exact .refl ..
  refine .step ?_ (State.finish_moves ..) (by decide)
  refine .step ?_ (State.putRun_moves ..) (by decide)
  exact .refl ..

/-- What `State.seqGo` may change: free, resp, frozen, key, time, icu, adc, res, cmp, dac, rfm, lane, shed, hedCnt, pwm, trip, pad, loomCfg, fuseLoaded, gov, tmr, dma, dmaLast, health, core, ply, wld, seq, vrec, warp, crerus, queue, jrnl, flash, custody, lc, shadow, pwr, rst, clk, dbg, xspi, uart, i2c, mem; registers of PD 0, 1, 2, 3, 4, 5, 6, 7, 8, 9, 10, 11. -/
theorem State.seqGo_moves (s : State) (j : Job) (timeout : Bool) : Moves 0x7ffffefffffffff s (State.seqGo s j timeout) := by
  unfold State.seqGo
  apply Moves.ite
  apply Moves.ite
  exact .refl ..
  refine .step ?_ (State.seqRun_moves ..) (by decide)
  refine .step ?_ (State.putRun_moves ..) (by decide)
  exact .refl ..
  apply Moves.ite
  refine .step ?_ (State.seqRun_moves ..) (by decide)
  refine .step ?_ (State.putRun_moves ..) (by decide)
  exact .refl ..
  refine .step ?_ (State.finish_moves ..) (by decide)
  refine .step ?_ (State.putRun_moves ..) (by decide)
  refine Moves.foldl ?_ ?_
  exact .refl ..
  intro u4_0 u4_1
  refine .step ?_ (State.laneSwitch_moves ..) (by decide)
  exact .refl ..

/-- What `State.fanWrite` may change: free, resp, frozen, key, time, icu, adc, res, cmp, dac, rfm, lane, shed, hedCnt, pwm, trip, pad, loomCfg, fuseLoaded, gov, tmr, dma, dmaLast, health, core, ply, wld, seq, vrec, warp, crerus, queue, jrnl, flash, custody, lc, shadow, pwr, rst, clk, dbg, xspi, uart, i2c, mem; registers of PD 0, 1, 2, 3, 4, 5, 6, 7, 8, 9, 10, 11. -/
theorem State.fanWrite_moves (s : State) (p : List ℕ) (duty : ℕ) : Moves 0x7ffffefffffffff s (State.fanWrite s p duty) := by
  unfold State.fanWrite
  apply Moves.ite
  refine .step ?_ (State.ioWrite_moves ..) (by decide)
  exact .refl ..
  exact .refl ..

/-- What `State.bsvcNow` may change: registers of PD 0. -/
theorem State.bsvcNow_moves (s : State) : Moves 0x400000000000 s (State.bsvcNow s) := by
  unfold State.bsvcNow
  refine .step ?_ (State.setB_moves (d := 0) rfl) (by decide)
  exact .refl ..

/-- What `State.fanTick` may change: free, resp, frozen, key, time, icu, adc, res, cmp, dac, rfm, lane, shed, hedCnt, pwm, trip, pad, loomCfg, fuseLoaded, gov, tmr, dma, dmaLast, health, core, ply, wld, seq, vrec, warp, crerus, queue, jrnl, flash, custody, lc, shadow, pwr, rst, clk, dbg, xspi, uart, i2c, mem; registers of PD 0, 1, 2, 3, 4, 5, 6, 7, 8, 9, 10, 11. -/
theorem State.fanTick_moves (s : State) (rpm : List ℕ) : Moves 0x7ffffefffffffff s (State.fanTick s rpm) := by
  unfold State.fanTick
  refine .step ?_ (State.bsvcNow_moves ..) (by decide)
  apply Moves.ite
  refine .step ?_ (State.boardService_moves ..) (by decide)
  refine Moves.foldl ?_ ?_
  refine .step ?_ (State.upd_crerus_moves ..) (by decide)
  exact .refl ..
  intro u3_0 u3_1
  refine .step ?_ (State.fanWrite_moves ..) (by decide)
  exact .refl ..
  refine Moves.foldl ?_ ?_
  refine .step ?_ (State.upd_crerus_moves ..) (by decide)
  exact .refl ..
  intro u3_0 u3_1
  refine .step ?_ (State.fanWrite_moves ..) (by decide)
  exact .refl ..

end Sys2Proof.Machine
end

