-- ==== Sys2Proof/Laws/MovesSysRows.lean ====
section
/-!
SUPPORT. What each function of Machine/SysRows.lean may change.
-/

namespace Sys2Proof.Machine

/-- What `State.dropDebug` may change: registers of PD 0. -/
theorem State.dropDebug_moves (s : State) (k : ℕ) : Moves 0x400000000000 s (State.dropDebug s k) := by
  unfold State.dropDebug
  refine .step ?_ (State.clrBit_moves (d := 0) rfl) (by decide)
  refine Moves.foldl ?_ ?_
  exact .refl ..
  intro u3_0 u3_1
  apply Moves.ite
  refine .step ?_ (State.set_moves (d := 0) rfl) (by decide)
  exact .refl ..
  exact .refl ..

/-- What `State.handOver` may change: icu, core, ply, mem; registers of PD 0, 6. -/
theorem State.handOver_moves (s : State) (t : ℕ) : Moves 0x10600003000020 s (State.handOver s t) := by
  unfold State.handOver
  apply Moves.ite
  refine .step ?_ (State.set_moves (d := 0) rfl) (by decide)
  refine Moves.foldl ?_ ?_
  refine Moves.foldl ?_ ?_
  refine .step ?_ (State.upd_ply_moves ..) (by decide)
  exact .refl ..
  intro u3_0 u3_1
  refine .step ?_ (State.dropDebug_moves ..) (by decide)
  exact .refl ..
  intro u3_0 u3_1
  refine .step ?_ (State.updCore_moves ..) (by decide)
  exact .refl ..
  apply Moves.ite
  refine .step ?_ (State.raise_moves ..) (by decide)
  refine .step ?_ (State.set_moves (d := 0) rfl) (by decide)
  refine .step ?_ (State.set_moves (d := 0) rfl) (by decide)
  refine .step ?_ (State.icuJoin_moves ..) (by decide)
  refine Moves.foldl ?_ ?_
  refine Moves.foldl ?_ ?_
  refine .step ?_ (State.upd_ply_moves ..) (by decide)
  exact .refl ..
  intro u3_0 u3_1
  refine .step ?_ (State.dropDebug_moves ..) (by decide)
  exact .refl ..
  intro u3_0 u3_1
  refine .step ?_ (State.wipe_moves ..) (by decide)
  refine .step ?_ (State.wipe_moves ..) (by decide)
  exact .refl ..
  refine .step ?_ (State.set_moves (d := 0) rfl) (by decide)
  refine .step ?_ (State.icuJoin_moves ..) (by decide)
  refine Moves.foldl ?_ ?_
  refine Moves.foldl ?_ ?_
  refine .step ?_ (State.upd_ply_moves ..) (by decide)
  exact .refl ..
  intro u3_0 u3_1
  refine .step ?_ (State.dropDebug_moves ..) (by decide)
  exact .refl ..
  intro u3_0 u3_1
  refine .step ?_ (State.wipe_moves ..) (by decide)
  refine .step ?_ (State.wipe_moves ..) (by decide)
  exact .refl ..

/-- What `State.loseRegs` may change: free, core. -/
theorem State.loseRegs_moves (s : State) (c : ℕ) : Moves 0x1000001 s (State.loseRegs s c) := by
  unfold State.loseRegs
  refine .step ?_ (State.upd_free_moves ..) (by decide)
  refine .step ?_ (State.updCore_moves ..) (by decide)
  exact .refl ..

/-- What `State.takeInt` may change: free, icu, core; registers of PD 0, 6. -/
theorem State.takeInt_moves (s : State) (c : ℕ) (n : ℕ) (p : ℕ) : Moves 0x10400001000021 s (State.takeInt s c n p) := by
  unfold State.takeInt
  split
  split
  apply Moves.ite
  refine .step ?_ (State.haltOrAsk_moves ..) (by decide)
  refine .step ?_ (State.icuAck_moves ..) (by decide)
  refine .step ?_ (State.updCore_moves ..) (by decide)
  refine .step ?_ (Moves.snd (State.freeN_moves ..) (by assumption)) (by decide)
  refine .step ?_ (Moves.snd (State.freeN_moves ..) (by assumption)) (by decide)
  exact .refl ..
  refine .step ?_ (State.icuAck_moves ..) (by decide)
  refine .step ?_ (State.updCore_moves ..) (by decide)
  refine .step ?_ (Moves.snd (State.freeN_moves ..) (by assumption)) (by decide)
  refine .step ?_ (Moves.snd (State.freeN_moves ..) (by assumption)) (by decide)
  exact .refl ..

end Sys2Proof.Machine
end

