-- ==== Sys2Proof/Laws/MovesTamperRows.lean ====
section
/-!
SUPPORT. What each function of Machine/TamperRows.lean may change.
-/

namespace Sys2Proof.Machine

/-- What `State.meshReseed` may change: free, custody. -/
theorem State.meshReseed_moves (s : State) : Moves 0x400000001 s (State.meshReseed s) := by
  unfold State.meshReseed
  refine Moves.foldl ?_ ?_
  exact .refl ..
  intro u2_0 u2_1
  apply Moves.ite
  refine .step ?_ (State.meshSeed_moves ..) (by decide)
  exact .refl ..
  exact .refl ..

/-- What `State.entropyFails` may change: health, custody; registers of PD 0. -/
theorem State.entropyFails_moves (s : State) (again : Bool) : Moves 0x400400800000 s (State.entropyFails s again) := by
  unfold State.entropyFails
  apply Moves.ite
  exact .refl ..
  apply Moves.ite
  refine .step ?_ (State.advise_moves ..) (by decide)
  refine .step ?_ (State.upd_custody_moves ..) (by decide)
  exact .refl ..
  refine .step ?_ (State.upd_custody_moves ..) (by decide)
  exact .refl ..

end Sys2Proof.Machine
end

