-- ==== Sys2Proof/Laws/RowsAluRows.lean ====
section
/-!
SUPPORT. Every command of Machine/AluRows.lean answers a next state, and what it may change.
-/

namespace Sys2Proof.Machine

/-- What `execAdd` may change: free, frozen, key, time, icu, adc, res, cmp, dac, rfm, lane, shed, hedCnt, pwm, trip, pad, loomCfg, fuseLoaded, gov, tmr, dma, dmaLast, health, core, ply, wld, seq, vrec, warp, crerus, queue, jrnl, flash, custody, lc, shadow, pwr, rst, clk, dbg, xspi, uart, i2c, mem; registers of PD 0, 1, 2, 3, 4, 5, 6, 7, 8, 9, 10, 11. -/
theorem execAdd_moves (c : Fin 3) (rd : Fin 32) (ra : Fin 32) (rb : Fin 32) (s : State) : ∃ s₁, execAdd c rd ra rb s = .next s₁ ∧ Moves 0x7ffffeffffffffd s s₁ := by
  unfold execAdd
  refine ⟨_, rfl, ?_⟩
  refine .step ?_ (State.alu_moves ..) (by decide)
  exact .refl ..

/-- What `execSub` may change: free, frozen, key, time, icu, adc, res, cmp, dac, rfm, lane, shed, hedCnt, pwm, trip, pad, loomCfg, fuseLoaded, gov, tmr, dma, dmaLast, health, core, ply, wld, seq, vrec, warp, crerus, queue, jrnl, flash, custody, lc, shadow, pwr, rst, clk, dbg, xspi, uart, i2c, mem; registers of PD 0, 1, 2, 3, 4, 5, 6, 7, 8, 9, 10, 11. -/
theorem execSub_moves (c : Fin 3) (rd : Fin 32) (ra : Fin 32) (rb : Fin 32) (s : State) : ∃ s₁, execSub c rd ra rb s = .next s₁ ∧ Moves 0x7ffffeffffffffd s s₁ := by
  unfold execSub
  refine ⟨_, rfl, ?_⟩
  refine .step ?_ (State.alu_moves ..) (by decide)
  exact .refl ..

/-- What `execAnd` may change: free, frozen, key, time, icu, adc, res, cmp, dac, rfm, lane, shed, hedCnt, pwm, trip, pad, loomCfg, fuseLoaded, gov, tmr, dma, dmaLast, health, core, ply, wld, seq, vrec, warp, crerus, queue, jrnl, flash, custody, lc, shadow, pwr, rst, clk, dbg, xspi, uart, i2c, mem; registers of PD 0, 1, 2, 3, 4, 5, 6, 7, 8, 9, 10, 11. -/
theorem execAnd_moves (c : Fin 3) (rd : Fin 32) (ra : Fin 32) (rb : Fin 32) (s : State) : ∃ s₁, execAnd c rd ra rb s = .next s₁ ∧ Moves 0x7ffffeffffffffd s s₁ := by
  unfold execAnd
  refine ⟨_, rfl, ?_⟩
  refine .step ?_ (State.alu_moves ..) (by decide)
  exact .refl ..

/-- What `execOr` may change: free, frozen, key, time, icu, adc, res, cmp, dac, rfm, lane, shed, hedCnt, pwm, trip, pad, loomCfg, fuseLoaded, gov, tmr, dma, dmaLast, health, core, ply, wld, seq, vrec, warp, crerus, queue, jrnl, flash, custody, lc, shadow, pwr, rst, clk, dbg, xspi, uart, i2c, mem; registers of PD 0, 1, 2, 3, 4, 5, 6, 7, 8, 9, 10, 11. -/
theorem execOr_moves (c : Fin 3) (rd : Fin 32) (ra : Fin 32) (rb : Fin 32) (s : State) : ∃ s₁, execOr c rd ra rb s = .next s₁ ∧ Moves 0x7ffffeffffffffd s s₁ := by
  unfold execOr
  refine ⟨_, rfl, ?_⟩
  refine .step ?_ (State.alu_moves ..) (by decide)
  exact .refl ..

/-- What `execXor` may change: free, frozen, key, time, icu, adc, res, cmp, dac, rfm, lane, shed, hedCnt, pwm, trip, pad, loomCfg, fuseLoaded, gov, tmr, dma, dmaLast, health, core, ply, wld, seq, vrec, warp, crerus, queue, jrnl, flash, custody, lc, shadow, pwr, rst, clk, dbg, xspi, uart, i2c, mem; registers of PD 0, 1, 2, 3, 4, 5, 6, 7, 8, 9, 10, 11. -/
theorem execXor_moves (c : Fin 3) (rd : Fin 32) (ra : Fin 32) (rb : Fin 32) (s : State) : ∃ s₁, execXor c rd ra rb s = .next s₁ ∧ Moves 0x7ffffeffffffffd s s₁ := by
  unfold execXor
  refine ⟨_, rfl, ?_⟩
  refine .step ?_ (State.alu_moves ..) (by decide)
  exact .refl ..

/-- What `execSlt` may change: free, frozen, key, time, icu, adc, res, cmp, dac, rfm, lane, shed, hedCnt, pwm, trip, pad, loomCfg, fuseLoaded, gov, tmr, dma, dmaLast, health, core, ply, wld, seq, vrec, warp, crerus, queue, jrnl, flash, custody, lc, shadow, pwr, rst, clk, dbg, xspi, uart, i2c, mem; registers of PD 0, 1, 2, 3, 4, 5, 6, 7, 8, 9, 10, 11. -/
theorem execSlt_moves (c : Fin 3) (rd : Fin 32) (ra : Fin 32) (rb : Fin 32) (s : State) : ∃ s₁, execSlt c rd ra rb s = .next s₁ ∧ Moves 0x7ffffeffffffffd s s₁ := by
  unfold execSlt
  refine ⟨_, rfl, ?_⟩
  refine .step ?_ (State.alu_moves ..) (by decide)
  exact .refl ..

/-- What `execSltu` may change: free, frozen, key, time, icu, adc, res, cmp, dac, rfm, lane, shed, hedCnt, pwm, trip, pad, loomCfg, fuseLoaded, gov, tmr, dma, dmaLast, health, core, ply, wld, seq, vrec, warp, crerus, queue, jrnl, flash, custody, lc, shadow, pwr, rst, clk, dbg, xspi, uart, i2c, mem; registers of PD 0, 1, 2, 3, 4, 5, 6, 7, 8, 9, 10, 11. -/
theorem execSltu_moves (c : Fin 3) (rd : Fin 32) (ra : Fin 32) (rb : Fin 32) (s : State) : ∃ s₁, execSltu c rd ra rb s = .next s₁ ∧ Moves 0x7ffffeffffffffd s s₁ := by
  unfold execSltu
  refine ⟨_, rfl, ?_⟩
  refine .step ?_ (State.alu_moves ..) (by decide)
  exact .refl ..

/-- What `execSll` may change: free, frozen, key, time, icu, adc, res, cmp, dac, rfm, lane, shed, hedCnt, pwm, trip, pad, loomCfg, fuseLoaded, gov, tmr, dma, dmaLast, health, core, ply, wld, seq, vrec, warp, crerus, queue, jrnl, flash, custody, lc, shadow, pwr, rst, clk, dbg, xspi, uart, i2c, mem; registers of PD 0, 1, 2, 3, 4, 5, 6, 7, 8, 9, 10, 11. -/
theorem execSll_moves (c : Fin 3) (rd : Fin 32) (ra : Fin 32) (rb : Fin 32) (s : State) : ∃ s₁, execSll c rd ra rb s = .next s₁ ∧ Moves 0x7ffffeffffffffd s s₁ := by
  unfold execSll
  refine ⟨_, rfl, ?_⟩
  refine .step ?_ (State.alu_moves ..) (by decide)
  exact .refl ..

/-- What `execSrl` may change: free, frozen, key, time, icu, adc, res, cmp, dac, rfm, lane, shed, hedCnt, pwm, trip, pad, loomCfg, fuseLoaded, gov, tmr, dma, dmaLast, health, core, ply, wld, seq, vrec, warp, crerus, queue, jrnl, flash, custody, lc, shadow, pwr, rst, clk, dbg, xspi, uart, i2c, mem; registers of PD 0, 1, 2, 3, 4, 5, 6, 7, 8, 9, 10, 11. -/
theorem execSrl_moves (c : Fin 3) (rd : Fin 32) (ra : Fin 32) (rb : Fin 32) (s : State) : ∃ s₁, execSrl c rd ra rb s = .next s₁ ∧ Moves 0x7ffffeffffffffd s s₁ := by
  unfold execSrl
  refine ⟨_, rfl, ?_⟩
  refine .step ?_ (State.alu_moves ..) (by decide)
  exact .refl ..

/-- What `execSra` may change: free, frozen, key, time, icu, adc, res, cmp, dac, rfm, lane, shed, hedCnt, pwm, trip, pad, loomCfg, fuseLoaded, gov, tmr, dma, dmaLast, health, core, ply, wld, seq, vrec, warp, crerus, queue, jrnl, flash, custody, lc, shadow, pwr, rst, clk, dbg, xspi, uart, i2c, mem; registers of PD 0, 1, 2, 3, 4, 5, 6, 7, 8, 9, 10, 11. -/
theorem execSra_moves (c : Fin 3) (rd : Fin 32) (ra : Fin 32) (rb : Fin 32) (s : State) : ∃ s₁, execSra c rd ra rb s = .next s₁ ∧ Moves 0x7ffffeffffffffd s s₁ := by
  unfold execSra
  refine ⟨_, rfl, ?_⟩
  refine .step ?_ (State.alu_moves ..) (by decide)
  exact .refl ..

/-- What `execMin` may change: free, frozen, key, time, icu, adc, res, cmp, dac, rfm, lane, shed, hedCnt, pwm, trip, pad, loomCfg, fuseLoaded, gov, tmr, dma, dmaLast, health, core, ply, wld, seq, vrec, warp, crerus, queue, jrnl, flash, custody, lc, shadow, pwr, rst, clk, dbg, xspi, uart, i2c, mem; registers of PD 0, 1, 2, 3, 4, 5, 6, 7, 8, 9, 10, 11. -/
theorem execMin_moves (c : Fin 3) (rd : Fin 32) (ra : Fin 32) (rb : Fin 32) (s : State) : ∃ s₁, execMin c rd ra rb s = .next s₁ ∧ Moves 0x7ffffeffffffffd s s₁ := by
  unfold execMin
  refine ⟨_, rfl, ?_⟩
  refine .step ?_ (State.alu_moves ..) (by decide)
  exact .refl ..

/-- What `execMax` may change: free, frozen, key, time, icu, adc, res, cmp, dac, rfm, lane, shed, hedCnt, pwm, trip, pad, loomCfg, fuseLoaded, gov, tmr, dma, dmaLast, health, core, ply, wld, seq, vrec, warp, crerus, queue, jrnl, flash, custody, lc, shadow, pwr, rst, clk, dbg, xspi, uart, i2c, mem; registers of PD 0, 1, 2, 3, 4, 5, 6, 7, 8, 9, 10, 11. -/
theorem execMax_moves (c : Fin 3) (rd : Fin 32) (ra : Fin 32) (rb : Fin 32) (s : State) : ∃ s₁, execMax c rd ra rb s = .next s₁ ∧ Moves 0x7ffffeffffffffd s s₁ := by
  unfold execMax
  refine ⟨_, rfl, ?_⟩
  refine .step ?_ (State.alu_moves ..) (by decide)
  exact .refl ..

/-- What `execMinu` may change: free, frozen, key, time, icu, adc, res, cmp, dac, rfm, lane, shed, hedCnt, pwm, trip, pad, loomCfg, fuseLoaded, gov, tmr, dma, dmaLast, health, core, ply, wld, seq, vrec, warp, crerus, queue, jrnl, flash, custody, lc, shadow, pwr, rst, clk, dbg, xspi, uart, i2c, mem; registers of PD 0, 1, 2, 3, 4, 5, 6, 7, 8, 9, 10, 11. -/
theorem execMinu_moves (c : Fin 3) (rd : Fin 32) (ra : Fin 32) (rb : Fin 32) (s : State) : ∃ s₁, execMinu c rd ra rb s = .next s₁ ∧ Moves 0x7ffffeffffffffd s s₁ := by
  unfold execMinu
  refine ⟨_, rfl, ?_⟩
  refine .step ?_ (State.alu_moves ..) (by decide)
  exact .refl ..

/-- What `execMaxu` may change: free, frozen, key, time, icu, adc, res, cmp, dac, rfm, lane, shed, hedCnt, pwm, trip, pad, loomCfg, fuseLoaded, gov, tmr, dma, dmaLast, health, core, ply, wld, seq, vrec, warp, crerus, queue, jrnl, flash, custody, lc, shadow, pwr, rst, clk, dbg, xspi, uart, i2c, mem; registers of PD 0, 1, 2, 3, 4, 5, 6, 7, 8, 9, 10, 11. -/
theorem execMaxu_moves (c : Fin 3) (rd : Fin 32) (ra : Fin 32) (rb : Fin 32) (s : State) : ∃ s₁, execMaxu c rd ra rb s = .next s₁ ∧ Moves 0x7ffffeffffffffd s s₁ := by
  unfold execMaxu
  refine ⟨_, rfl, ?_⟩
  refine .step ?_ (State.alu_moves ..) (by decide)
  exact .refl ..

/-- What `execSlli` may change: free, frozen, key, time, icu, adc, res, cmp, dac, rfm, lane, shed, hedCnt, pwm, trip, pad, loomCfg, fuseLoaded, gov, tmr, dma, dmaLast, health, core, ply, wld, seq, vrec, warp, crerus, queue, jrnl, flash, custody, lc, shadow, pwr, rst, clk, dbg, xspi, uart, i2c, mem; registers of PD 0, 1, 2, 3, 4, 5, 6, 7, 8, 9, 10, 11. -/
theorem execSlli_moves (c : Fin 3) (rd : Fin 32) (ra : Fin 32) (n : Fin 32) (s : State) : ∃ s₁, execSlli c rd ra n s = .next s₁ ∧ Moves 0x7ffffeffffffffd s s₁ := by
  unfold execSlli
  refine ⟨_, rfl, ?_⟩
  refine .step ?_ (State.alu_moves ..) (by decide)
  exact .refl ..

/-- What `execSrli` may change: free, frozen, key, time, icu, adc, res, cmp, dac, rfm, lane, shed, hedCnt, pwm, trip, pad, loomCfg, fuseLoaded, gov, tmr, dma, dmaLast, health, core, ply, wld, seq, vrec, warp, crerus, queue, jrnl, flash, custody, lc, shadow, pwr, rst, clk, dbg, xspi, uart, i2c, mem; registers of PD 0, 1, 2, 3, 4, 5, 6, 7, 8, 9, 10, 11. -/
theorem execSrli_moves (c : Fin 3) (rd : Fin 32) (ra : Fin 32) (n : Fin 32) (s : State) : ∃ s₁, execSrli c rd ra n s = .next s₁ ∧ Moves 0x7ffffeffffffffd s s₁ := by
  unfold execSrli
  refine ⟨_, rfl, ?_⟩
  refine .step ?_ (State.alu_moves ..) (by decide)
  exact .refl ..

/-- What `execSrai` may change: free, frozen, key, time, icu, adc, res, cmp, dac, rfm, lane, shed, hedCnt, pwm, trip, pad, loomCfg, fuseLoaded, gov, tmr, dma, dmaLast, health, core, ply, wld, seq, vrec, warp, crerus, queue, jrnl, flash, custody, lc, shadow, pwr, rst, clk, dbg, xspi, uart, i2c, mem; registers of PD 0, 1, 2, 3, 4, 5, 6, 7, 8, 9, 10, 11. -/
theorem execSrai_moves (c : Fin 3) (rd : Fin 32) (ra : Fin 32) (n : Fin 32) (s : State) : ∃ s₁, execSrai c rd ra n s = .next s₁ ∧ Moves 0x7ffffeffffffffd s s₁ := by
  unfold execSrai
  refine ⟨_, rfl, ?_⟩
  refine .step ?_ (State.alu_moves ..) (by decide)
  exact .refl ..

/-- What `execAddi` may change: free, frozen, key, time, icu, adc, res, cmp, dac, rfm, lane, shed, hedCnt, pwm, trip, pad, loomCfg, fuseLoaded, gov, tmr, dma, dmaLast, health, core, ply, wld, seq, vrec, warp, crerus, queue, jrnl, flash, custody, lc, shadow, pwr, rst, clk, dbg, xspi, uart, i2c, mem; registers of PD 0, 1, 2, 3, 4, 5, 6, 7, 8, 9, 10, 11. -/
theorem execAddi_moves (c : Fin 3) (rd : Fin 32) (ra : Fin 32) (imm : BitVec 16) (s : State) : ∃ s₁, execAddi c rd ra imm s = .next s₁ ∧ Moves 0x7ffffeffffffffd s s₁ := by
  unfold execAddi
  refine ⟨_, rfl, ?_⟩
  refine .step ?_ (State.alu_moves ..) (by decide)
  exact .refl ..

/-- What `execSlti` may change: free, frozen, key, time, icu, adc, res, cmp, dac, rfm, lane, shed, hedCnt, pwm, trip, pad, loomCfg, fuseLoaded, gov, tmr, dma, dmaLast, health, core, ply, wld, seq, vrec, warp, crerus, queue, jrnl, flash, custody, lc, shadow, pwr, rst, clk, dbg, xspi, uart, i2c, mem; registers of PD 0, 1, 2, 3, 4, 5, 6, 7, 8, 9, 10, 11. -/
theorem execSlti_moves (c : Fin 3) (rd : Fin 32) (ra : Fin 32) (imm : BitVec 16) (s : State) : ∃ s₁, execSlti c rd ra imm s = .next s₁ ∧ Moves 0x7ffffeffffffffd s s₁ := by
  unfold execSlti
  refine ⟨_, rfl, ?_⟩
  refine .step ?_ (State.alu_moves ..) (by decide)
  exact .refl ..

/-- What `execSltiu` may change: free, frozen, key, time, icu, adc, res, cmp, dac, rfm, lane, shed, hedCnt, pwm, trip, pad, loomCfg, fuseLoaded, gov, tmr, dma, dmaLast, health, core, ply, wld, seq, vrec, warp, crerus, queue, jrnl, flash, custody, lc, shadow, pwr, rst, clk, dbg, xspi, uart, i2c, mem; registers of PD 0, 1, 2, 3, 4, 5, 6, 7, 8, 9, 10, 11. -/
theorem execSltiu_moves (c : Fin 3) (rd : Fin 32) (ra : Fin 32) (imm : BitVec 16) (s : State) : ∃ s₁, execSltiu c rd ra imm s = .next s₁ ∧ Moves 0x7ffffeffffffffd s s₁ := by
  unfold execSltiu
  refine ⟨_, rfl, ?_⟩
  refine .step ?_ (State.alu_moves ..) (by decide)
  exact .refl ..

/-- What `execAndi` may change: free, frozen, key, time, icu, adc, res, cmp, dac, rfm, lane, shed, hedCnt, pwm, trip, pad, loomCfg, fuseLoaded, gov, tmr, dma, dmaLast, health, core, ply, wld, seq, vrec, warp, crerus, queue, jrnl, flash, custody, lc, shadow, pwr, rst, clk, dbg, xspi, uart, i2c, mem; registers of PD 0, 1, 2, 3, 4, 5, 6, 7, 8, 9, 10, 11. -/
theorem execAndi_moves (c : Fin 3) (rd : Fin 32) (ra : Fin 32) (imm : BitVec 16) (s : State) : ∃ s₁, execAndi c rd ra imm s = .next s₁ ∧ Moves 0x7ffffeffffffffd s s₁ := by
  unfold execAndi
  refine ⟨_, rfl, ?_⟩
  refine .step ?_ (State.alu_moves ..) (by decide)
  exact .refl ..

/-- What `execOri` may change: free, frozen, key, time, icu, adc, res, cmp, dac, rfm, lane, shed, hedCnt, pwm, trip, pad, loomCfg, fuseLoaded, gov, tmr, dma, dmaLast, health, core, ply, wld, seq, vrec, warp, crerus, queue, jrnl, flash, custody, lc, shadow, pwr, rst, clk, dbg, xspi, uart, i2c, mem; registers of PD 0, 1, 2, 3, 4, 5, 6, 7, 8, 9, 10, 11. -/
theorem execOri_moves (c : Fin 3) (rd : Fin 32) (ra : Fin 32) (imm : BitVec 16) (s : State) : ∃ s₁, execOri c rd ra imm s = .next s₁ ∧ Moves 0x7ffffeffffffffd s s₁ := by
  unfold execOri
  refine ⟨_, rfl, ?_⟩
  refine .step ?_ (State.alu_moves ..) (by decide)
  exact .refl ..

/-- What `execXori` may change: free, frozen, key, time, icu, adc, res, cmp, dac, rfm, lane, shed, hedCnt, pwm, trip, pad, loomCfg, fuseLoaded, gov, tmr, dma, dmaLast, health, core, ply, wld, seq, vrec, warp, crerus, queue, jrnl, flash, custody, lc, shadow, pwr, rst, clk, dbg, xspi, uart, i2c, mem; registers of PD 0, 1, 2, 3, 4, 5, 6, 7, 8, 9, 10, 11. -/
theorem execXori_moves (c : Fin 3) (rd : Fin 32) (ra : Fin 32) (imm : BitVec 16) (s : State) : ∃ s₁, execXori c rd ra imm s = .next s₁ ∧ Moves 0x7ffffeffffffffd s s₁ := by
  unfold execXori
  refine ⟨_, rfl, ?_⟩
  refine .step ?_ (State.alu_moves ..) (by decide)
  exact .refl ..

/-- What `execLui` may change: free, frozen, key, time, icu, adc, res, cmp, dac, rfm, lane, shed, hedCnt, pwm, trip, pad, loomCfg, fuseLoaded, gov, tmr, dma, dmaLast, health, core, ply, wld, seq, vrec, warp, crerus, queue, jrnl, flash, custody, lc, shadow, pwr, rst, clk, dbg, xspi, uart, i2c, mem; registers of PD 0, 1, 2, 3, 4, 5, 6, 7, 8, 9, 10, 11. -/
theorem execLui_moves (c : Fin 3) (rd : Fin 32) (imm : BitVec 16) (s : State) : ∃ s₁, execLui c rd imm s = .next s₁ ∧ Moves 0x7ffffeffffffffd s s₁ := by
  unfold execLui
  refine ⟨_, rfl, ?_⟩
  refine .step ?_ (State.alu_moves ..) (by decide)
  exact .refl ..

/-- What `execMul` may change: free, frozen, key, time, icu, adc, res, cmp, dac, rfm, lane, shed, hedCnt, pwm, trip, pad, loomCfg, fuseLoaded, gov, tmr, dma, dmaLast, health, core, ply, wld, seq, vrec, warp, crerus, queue, jrnl, flash, custody, lc, shadow, pwr, rst, clk, dbg, xspi, uart, i2c, mem; registers of PD 0, 1, 2, 3, 4, 5, 6, 7, 8, 9, 10, 11. -/
theorem execMul_moves (c : Fin 3) (rd : Fin 32) (ra : Fin 32) (rb : Fin 32) (s : State) : ∃ s₁, execMul c rd ra rb s = .next s₁ ∧ Moves 0x7ffffeffffffffd s s₁ := by
  unfold execMul
  refine ⟨_, rfl, ?_⟩
  refine .step ?_ (State.alu_moves ..) (by decide)
  exact .refl ..

/-- What `execMulh` may change: free, frozen, key, time, icu, adc, res, cmp, dac, rfm, lane, shed, hedCnt, pwm, trip, pad, loomCfg, fuseLoaded, gov, tmr, dma, dmaLast, health, core, ply, wld, seq, vrec, warp, crerus, queue, jrnl, flash, custody, lc, shadow, pwr, rst, clk, dbg, xspi, uart, i2c, mem; registers of PD 0, 1, 2, 3, 4, 5, 6, 7, 8, 9, 10, 11. -/
theorem execMulh_moves (c : Fin 3) (rd : Fin 32) (ra : Fin 32) (rb : Fin 32) (s : State) : ∃ s₁, execMulh c rd ra rb s = .next s₁ ∧ Moves 0x7ffffeffffffffd s s₁ := by
  unfold execMulh
  refine ⟨_, rfl, ?_⟩
  refine .step ?_ (State.alu_moves ..) (by decide)
  exact .refl ..

/-- What `execMulhu` may change: free, frozen, key, time, icu, adc, res, cmp, dac, rfm, lane, shed, hedCnt, pwm, trip, pad, loomCfg, fuseLoaded, gov, tmr, dma, dmaLast, health, core, ply, wld, seq, vrec, warp, crerus, queue, jrnl, flash, custody, lc, shadow, pwr, rst, clk, dbg, xspi, uart, i2c, mem; registers of PD 0, 1, 2, 3, 4, 5, 6, 7, 8, 9, 10, 11. -/
theorem execMulhu_moves (c : Fin 3) (rd : Fin 32) (ra : Fin 32) (rb : Fin 32) (s : State) : ∃ s₁, execMulhu c rd ra rb s = .next s₁ ∧ Moves 0x7ffffeffffffffd s s₁ := by
  unfold execMulhu
  refine ⟨_, rfl, ?_⟩
  refine .step ?_ (State.alu_moves ..) (by decide)
  exact .refl ..

/-- What `execDiv` may change: free, frozen, key, time, icu, adc, res, cmp, dac, rfm, lane, shed, hedCnt, pwm, trip, pad, loomCfg, fuseLoaded, gov, tmr, dma, dmaLast, health, core, ply, wld, seq, vrec, warp, crerus, queue, jrnl, flash, custody, lc, shadow, pwr, rst, clk, dbg, xspi, uart, i2c, mem; registers of PD 0, 1, 2, 3, 4, 5, 6, 7, 8, 9, 10, 11. -/
theorem execDiv_moves (c : Fin 3) (rd : Fin 32) (ra : Fin 32) (rb : Fin 32) (s : State) : ∃ s₁, execDiv c rd ra rb s = .next s₁ ∧ Moves 0x7ffffeffffffffd s s₁ := by
  unfold execDiv
  refine ⟨_, rfl, ?_⟩
  refine .step ?_ (State.alu_moves ..) (by decide)
  exact .refl ..

/-- What `execDivu` may change: free, frozen, key, time, icu, adc, res, cmp, dac, rfm, lane, shed, hedCnt, pwm, trip, pad, loomCfg, fuseLoaded, gov, tmr, dma, dmaLast, health, core, ply, wld, seq, vrec, warp, crerus, queue, jrnl, flash, custody, lc, shadow, pwr, rst, clk, dbg, xspi, uart, i2c, mem; registers of PD 0, 1, 2, 3, 4, 5, 6, 7, 8, 9, 10, 11. -/
theorem execDivu_moves (c : Fin 3) (rd : Fin 32) (ra : Fin 32) (rb : Fin 32) (s : State) : ∃ s₁, execDivu c rd ra rb s = .next s₁ ∧ Moves 0x7ffffeffffffffd s s₁ := by
  unfold execDivu
  refine ⟨_, rfl, ?_⟩
  refine .step ?_ (State.alu_moves ..) (by decide)
  exact .refl ..

/-- What `execRem` may change: free, frozen, key, time, icu, adc, res, cmp, dac, rfm, lane, shed, hedCnt, pwm, trip, pad, loomCfg, fuseLoaded, gov, tmr, dma, dmaLast, health, core, ply, wld, seq, vrec, warp, crerus, queue, jrnl, flash, custody, lc, shadow, pwr, rst, clk, dbg, xspi, uart, i2c, mem; registers of PD 0, 1, 2, 3, 4, 5, 6, 7, 8, 9, 10, 11. -/
theorem execRem_moves (c : Fin 3) (rd : Fin 32) (ra : Fin 32) (rb : Fin 32) (s : State) : ∃ s₁, execRem c rd ra rb s = .next s₁ ∧ Moves 0x7ffffeffffffffd s s₁ := by
  unfold execRem
  refine ⟨_, rfl, ?_⟩
  refine .step ?_ (State.alu_moves ..) (by decide)
  exact .refl ..

/-- What `execRemu` may change: free, frozen, key, time, icu, adc, res, cmp, dac, rfm, lane, shed, hedCnt, pwm, trip, pad, loomCfg, fuseLoaded, gov, tmr, dma, dmaLast, health, core, ply, wld, seq, vrec, warp, crerus, queue, jrnl, flash, custody, lc, shadow, pwr, rst, clk, dbg, xspi, uart, i2c, mem; registers of PD 0, 1, 2, 3, 4, 5, 6, 7, 8, 9, 10, 11. -/
theorem execRemu_moves (c : Fin 3) (rd : Fin 32) (ra : Fin 32) (rb : Fin 32) (s : State) : ∃ s₁, execRemu c rd ra rb s = .next s₁ ∧ Moves 0x7ffffeffffffffd s s₁ := by
  unfold execRemu
  refine ⟨_, rfl, ?_⟩
  refine .step ?_ (State.alu_moves ..) (by decide)
  exact .refl ..

/-- What `execSadd` may change: free, frozen, key, time, icu, adc, res, cmp, dac, rfm, lane, shed, hedCnt, pwm, trip, pad, loomCfg, fuseLoaded, gov, tmr, dma, dmaLast, health, core, ply, wld, seq, vrec, warp, crerus, queue, jrnl, flash, custody, lc, shadow, pwr, rst, clk, dbg, xspi, uart, i2c, mem; registers of PD 0, 1, 2, 3, 4, 5, 6, 7, 8, 9, 10, 11. -/
theorem execSadd_moves (c : Fin 3) (rd : Fin 32) (ra : Fin 32) (rb : Fin 32) (s : State) : ∃ s₁, execSadd c rd ra rb s = .next s₁ ∧ Moves 0x7ffffeffffffffd s s₁ := by
  unfold execSadd
  refine ⟨_, rfl, ?_⟩
  refine .step ?_ (State.alu_moves ..) (by decide)
  exact .refl ..

/-- What `execSsub` may change: free, frozen, key, time, icu, adc, res, cmp, dac, rfm, lane, shed, hedCnt, pwm, trip, pad, loomCfg, fuseLoaded, gov, tmr, dma, dmaLast, health, core, ply, wld, seq, vrec, warp, crerus, queue, jrnl, flash, custody, lc, shadow, pwr, rst, clk, dbg, xspi, uart, i2c, mem; registers of PD 0, 1, 2, 3, 4, 5, 6, 7, 8, 9, 10, 11. -/
theorem execSsub_moves (c : Fin 3) (rd : Fin 32) (ra : Fin 32) (rb : Fin 32) (s : State) : ∃ s₁, execSsub c rd ra rb s = .next s₁ ∧ Moves 0x7ffffeffffffffd s s₁ := by
  unfold execSsub
  refine ⟨_, rfl, ?_⟩
  refine .step ?_ (State.alu_moves ..) (by decide)
  exact .refl ..

/-- What `execQmul` may change: free, frozen, key, time, icu, adc, res, cmp, dac, rfm, lane, shed, hedCnt, pwm, trip, pad, loomCfg, fuseLoaded, gov, tmr, dma, dmaLast, health, core, ply, wld, seq, vrec, warp, crerus, queue, jrnl, flash, custody, lc, shadow, pwr, rst, clk, dbg, xspi, uart, i2c, mem; registers of PD 0, 1, 2, 3, 4, 5, 6, 7, 8, 9, 10, 11. -/
theorem execQmul_moves (c : Fin 3) (rd : Fin 32) (ra : Fin 32) (rb : Fin 32) (s : State) : ∃ s₁, execQmul c rd ra rb s = .next s₁ ∧ Moves 0x7ffffeffffffffd s s₁ := by
  unfold execQmul
  refine ⟨_, rfl, ?_⟩
  refine .step ?_ (State.alu_moves ..) (by decide)
  exact .refl ..

/-- What `execQmul15` may change: free, frozen, key, time, icu, adc, res, cmp, dac, rfm, lane, shed, hedCnt, pwm, trip, pad, loomCfg, fuseLoaded, gov, tmr, dma, dmaLast, health, core, ply, wld, seq, vrec, warp, crerus, queue, jrnl, flash, custody, lc, shadow, pwr, rst, clk, dbg, xspi, uart, i2c, mem; registers of PD 0, 1, 2, 3, 4, 5, 6, 7, 8, 9, 10, 11. -/
theorem execQmul15_moves (c : Fin 3) (rd : Fin 32) (ra : Fin 32) (rb : Fin 32) (s : State) : ∃ s₁, execQmul15 c rd ra rb s = .next s₁ ∧ Moves 0x7ffffeffffffffd s s₁ := by
  unfold execQmul15
  refine ⟨_, rfl, ?_⟩
  refine .step ?_ (State.alu_moves ..) (by decide)
  exact .refl ..

/-- What `execSabs` may change: free, frozen, key, time, icu, adc, res, cmp, dac, rfm, lane, shed, hedCnt, pwm, trip, pad, loomCfg, fuseLoaded, gov, tmr, dma, dmaLast, health, core, ply, wld, seq, vrec, warp, crerus, queue, jrnl, flash, custody, lc, shadow, pwr, rst, clk, dbg, xspi, uart, i2c, mem; registers of PD 0, 1, 2, 3, 4, 5, 6, 7, 8, 9, 10, 11. -/
theorem execSabs_moves (c : Fin 3) (rd : Fin 32) (ra : Fin 32) (s : State) : ∃ s₁, execSabs c rd ra s = .next s₁ ∧ Moves 0x7ffffeffffffffd s s₁ := by
  unfold execSabs
  refine ⟨_, rfl, ?_⟩
  refine .step ?_ (State.alu_moves ..) (by decide)
  exact .refl ..

/-- What `execSat` may change: free, frozen, key, time, icu, adc, res, cmp, dac, rfm, lane, shed, hedCnt, pwm, trip, pad, loomCfg, fuseLoaded, gov, tmr, dma, dmaLast, health, core, ply, wld, seq, vrec, warp, crerus, queue, jrnl, flash, custody, lc, shadow, pwr, rst, clk, dbg, xspi, uart, i2c, mem; registers of PD 0, 1, 2, 3, 4, 5, 6, 7, 8, 9, 10, 11. -/
theorem execSat_moves (c : Fin 3) (rd : Fin 32) (ra : Fin 32) (n : Fin 32) (s : State) : ∃ s₁, execSat c rd ra n s = .next s₁ ∧ Moves 0x7ffffeffffffffd s s₁ := by
  unfold execSat
  refine ⟨_, rfl, ?_⟩
  refine .step ?_ (State.alu_moves ..) (by decide)
  exact .refl ..

/-- What `execSslli` may change: free, frozen, key, time, icu, adc, res, cmp, dac, rfm, lane, shed, hedCnt, pwm, trip, pad, loomCfg, fuseLoaded, gov, tmr, dma, dmaLast, health, core, ply, wld, seq, vrec, warp, crerus, queue, jrnl, flash, custody, lc, shadow, pwr, rst, clk, dbg, xspi, uart, i2c, mem; registers of PD 0, 1, 2, 3, 4, 5, 6, 7, 8, 9, 10, 11. -/
theorem execSslli_moves (c : Fin 3) (rd : Fin 32) (ra : Fin 32) (n : Fin 32) (s : State) : ∃ s₁, execSslli c rd ra n s = .next s₁ ∧ Moves 0x7ffffeffffffffd s s₁ := by
  unfold execSslli
  refine ⟨_, rfl, ?_⟩
  refine .step ?_ (State.alu_moves ..) (by decide)
  exact .refl ..

/-- What `execBeq` may change: free, frozen, key, time, icu, adc, res, cmp, dac, rfm, lane, shed, hedCnt, pwm, trip, pad, loomCfg, fuseLoaded, gov, tmr, dma, dmaLast, health, core, ply, wld, seq, vrec, warp, crerus, queue, jrnl, flash, custody, lc, shadow, pwr, rst, clk, dbg, xspi, uart, i2c, mem; registers of PD 0, 1, 2, 3, 4, 5, 6, 7, 8, 9, 10, 11. -/
theorem execBeq_moves (c : Fin 3) (ra : Fin 32) (rb : Fin 32) (off : BitVec 16) (s : State) : ∃ s₁, execBeq c ra rb off s = .next s₁ ∧ Moves 0x7ffffeffffffffd s s₁ := by
  unfold execBeq
  refine ⟨_, rfl, ?_⟩
  refine .step ?_ (State.branch_moves ..) (by decide)
  exact .refl ..

/-- What `execBne` may change: free, frozen, key, time, icu, adc, res, cmp, dac, rfm, lane, shed, hedCnt, pwm, trip, pad, loomCfg, fuseLoaded, gov, tmr, dma, dmaLast, health, core, ply, wld, seq, vrec, warp, crerus, queue, jrnl, flash, custody, lc, shadow, pwr, rst, clk, dbg, xspi, uart, i2c, mem; registers of PD 0, 1, 2, 3, 4, 5, 6, 7, 8, 9, 10, 11. -/
theorem execBne_moves (c : Fin 3) (ra : Fin 32) (rb : Fin 32) (off : BitVec 16) (s : State) : ∃ s₁, execBne c ra rb off s = .next s₁ ∧ Moves 0x7ffffeffffffffd s s₁ := by
  unfold execBne
  refine ⟨_, rfl, ?_⟩
  refine .step ?_ (State.branch_moves ..) (by decide)
  exact .refl ..

/-- What `execBlt` may change: free, frozen, key, time, icu, adc, res, cmp, dac, rfm, lane, shed, hedCnt, pwm, trip, pad, loomCfg, fuseLoaded, gov, tmr, dma, dmaLast, health, core, ply, wld, seq, vrec, warp, crerus, queue, jrnl, flash, custody, lc, shadow, pwr, rst, clk, dbg, xspi, uart, i2c, mem; registers of PD 0, 1, 2, 3, 4, 5, 6, 7, 8, 9, 10, 11. -/
theorem execBlt_moves (c : Fin 3) (ra : Fin 32) (rb : Fin 32) (off : BitVec 16) (s : State) : ∃ s₁, execBlt c ra rb off s = .next s₁ ∧ Moves 0x7ffffeffffffffd s s₁ := by
  unfold execBlt
  refine ⟨_, rfl, ?_⟩
  refine .step ?_ (State.branch_moves ..) (by decide)
  exact .refl ..

/-- What `execBge` may change: free, frozen, key, time, icu, adc, res, cmp, dac, rfm, lane, shed, hedCnt, pwm, trip, pad, loomCfg, fuseLoaded, gov, tmr, dma, dmaLast, health, core, ply, wld, seq, vrec, warp, crerus, queue, jrnl, flash, custody, lc, shadow, pwr, rst, clk, dbg, xspi, uart, i2c, mem; registers of PD 0, 1, 2, 3, 4, 5, 6, 7, 8, 9, 10, 11. -/
theorem execBge_moves (c : Fin 3) (ra : Fin 32) (rb : Fin 32) (off : BitVec 16) (s : State) : ∃ s₁, execBge c ra rb off s = .next s₁ ∧ Moves 0x7ffffeffffffffd s s₁ := by
  unfold execBge
  refine ⟨_, rfl, ?_⟩
  refine .step ?_ (State.branch_moves ..) (by decide)
  exact .refl ..

/-- What `execBltu` may change: free, frozen, key, time, icu, adc, res, cmp, dac, rfm, lane, shed, hedCnt, pwm, trip, pad, loomCfg, fuseLoaded, gov, tmr, dma, dmaLast, health, core, ply, wld, seq, vrec, warp, crerus, queue, jrnl, flash, custody, lc, shadow, pwr, rst, clk, dbg, xspi, uart, i2c, mem; registers of PD 0, 1, 2, 3, 4, 5, 6, 7, 8, 9, 10, 11. -/
theorem execBltu_moves (c : Fin 3) (ra : Fin 32) (rb : Fin 32) (off : BitVec 16) (s : State) : ∃ s₁, execBltu c ra rb off s = .next s₁ ∧ Moves 0x7ffffeffffffffd s s₁ := by
  unfold execBltu
  refine ⟨_, rfl, ?_⟩
  refine .step ?_ (State.branch_moves ..) (by decide)
  exact .refl ..

/-- What `execBgeu` may change: free, frozen, key, time, icu, adc, res, cmp, dac, rfm, lane, shed, hedCnt, pwm, trip, pad, loomCfg, fuseLoaded, gov, tmr, dma, dmaLast, health, core, ply, wld, seq, vrec, warp, crerus, queue, jrnl, flash, custody, lc, shadow, pwr, rst, clk, dbg, xspi, uart, i2c, mem; registers of PD 0, 1, 2, 3, 4, 5, 6, 7, 8, 9, 10, 11. -/
theorem execBgeu_moves (c : Fin 3) (ra : Fin 32) (rb : Fin 32) (off : BitVec 16) (s : State) : ∃ s₁, execBgeu c ra rb off s = .next s₁ ∧ Moves 0x7ffffeffffffffd s s₁ := by
  unfold execBgeu
  refine ⟨_, rfl, ?_⟩
  refine .step ?_ (State.branch_moves ..) (by decide)
  exact .refl ..

/-- What `execJ` may change: free, frozen, key, time, icu, adc, res, cmp, dac, rfm, lane, shed, hedCnt, pwm, trip, pad, loomCfg, fuseLoaded, gov, tmr, dma, dmaLast, health, core, ply, wld, seq, vrec, warp, crerus, queue, jrnl, flash, custody, lc, shadow, pwr, rst, clk, dbg, xspi, uart, i2c, mem; registers of PD 0, 1, 2, 3, 4, 5, 6, 7, 8, 9, 10, 11. -/
theorem execJ_moves (c : Fin 3) (off : BitVec 26) (s : State) : ∃ s₁, execJ c off s = .next s₁ ∧ Moves 0x7ffffeffffffffd s s₁ := by
  unfold execJ
  refine ⟨_, rfl, ?_⟩
  refine .step ?_ (State.jump_moves ..) (by decide)
  exact .refl ..

/-- What `execCall` may change: free, frozen, key, time, icu, adc, res, cmp, dac, rfm, lane, shed, hedCnt, pwm, trip, pad, loomCfg, fuseLoaded, gov, tmr, dma, dmaLast, health, core, ply, wld, seq, vrec, warp, crerus, queue, jrnl, flash, custody, lc, shadow, pwr, rst, clk, dbg, xspi, uart, i2c, mem; registers of PD 0, 1, 2, 3, 4, 5, 6, 7, 8, 9, 10, 11. -/
theorem execCall_moves (c : Fin 3) (off : BitVec 26) (s : State) : ∃ s₁, execCall c off s = .next s₁ ∧ Moves 0x7ffffeffffffffd s s₁ := by
  unfold execCall
  refine ⟨_, rfl, ?_⟩
  refine .step ?_ (State.jump_moves ..) (by decide)
  exact .refl ..

/-- What `execJr` may change: free, frozen, key, time, icu, adc, res, cmp, dac, rfm, lane, shed, hedCnt, pwm, trip, pad, loomCfg, fuseLoaded, gov, tmr, dma, dmaLast, health, core, ply, wld, seq, vrec, warp, crerus, queue, jrnl, flash, custody, lc, shadow, pwr, rst, clk, dbg, xspi, uart, i2c, mem; registers of PD 0, 1, 2, 3, 4, 5, 6, 7, 8, 9, 10, 11. -/
theorem execJr_moves (c : Fin 3) (ra : Fin 32) (s : State) : ∃ s₁, execJr c ra s = .next s₁ ∧ Moves 0x7ffffeffffffffd s s₁ := by
  unfold execJr
  refine ⟨_, rfl, ?_⟩
  refine .step ?_ (State.jump_moves ..) (by decide)
  exact .refl ..

/-- What `execCallr` may change: free, frozen, key, time, icu, adc, res, cmp, dac, rfm, lane, shed, hedCnt, pwm, trip, pad, loomCfg, fuseLoaded, gov, tmr, dma, dmaLast, health, core, ply, wld, seq, vrec, warp, crerus, queue, jrnl, flash, custody, lc, shadow, pwr, rst, clk, dbg, xspi, uart, i2c, mem; registers of PD 0, 1, 2, 3, 4, 5, 6, 7, 8, 9, 10, 11. -/
theorem execCallr_moves (c : Fin 3) (ra : Fin 32) (s : State) : ∃ s₁, execCallr c ra s = .next s₁ ∧ Moves 0x7ffffeffffffffd s s₁ := by
  unfold execCallr
  refine ⟨_, rfl, ?_⟩
  refine .step ?_ (State.jump_moves ..) (by decide)
  exact .refl ..

end Sys2Proof.Machine
end

