-- ==== Sys2Proof/Laws/RowsBootRows.lean ====
section
/-!
SUPPORT. Every command of Machine/BootRows.lean answers a next state, and what it may change.
-/

namespace Sys2Proof.Machine

/-- What `execPowerOnReset` may change: free, resp, frozen, key, time, icu, adc, res, cmp, dac, rfm, lane, shed, hedCnt, pwm, trip, pad, loomCfg, fuseLoaded, gov, tmr, dma, dmaLast, health, core, ply, wld, seq, vrec, warp, crerus, queue, jrnl, flash, custody, lc, shadow, pwr, rst, clk, dbg, xspi, uart, i2c, mem; registers of PD 0, 1, 2, 3, 4, 5, 6, 7, 8, 9, 10, 11, 12. -/
theorem execPowerOnReset_moves (s : State) : ∃ s₁, execPowerOnReset s = .next s₁ ∧ Moves 0x7ffffefffffffff s s₁ := by
  unfold execPowerOnReset
  refine ⟨_, rfl, ?_⟩
  apply Moves.ite
  refine .step ?_ (State.batteryReturn_moves ..) (by decide)
  exact .refl ..
  refine .step ?_ (State.aonReset_moves ..) (by decide)
  exact .refl ..

/-- What `execBrownOut` may change: free, frozen, key, time, icu, adc, res, cmp, dac, rfm, lane, shed, hedCnt, pwm, trip, pad, loomCfg, fuseLoaded, gov, tmr, dma, dmaLast, core, ply, wld, seq, vrec, warp, crerus, queue, jrnl, flash, custody, lc, shadow, pwr, rst, clk, dbg, xspi, uart, i2c, mem; registers of PD 0, 1, 2, 3, 4, 5, 6, 7, 8, 9, 10, 11. -/
theorem execBrownOut_moves (supply : Fin 5) (s : State) : ∃ s₁, execBrownOut supply s = .next s₁ ∧ Moves 0x7ffffefff7ffffd s s₁ := by
  unfold execBrownOut
  refine ⟨_, rfl, ?_⟩
  refine .step ?_ (State.sysReset_moves ..) (by decide)
  refine .step ?_ (State.cutFlash_moves ..) (by decide)
  exact .refl ..

/-- What `execResetPin` may change: free, frozen, key, time, icu, adc, res, cmp, dac, rfm, lane, shed, hedCnt, pwm, trip, pad, loomCfg, fuseLoaded, gov, tmr, dma, dmaLast, core, ply, wld, seq, vrec, warp, crerus, queue, jrnl, flash, custody, lc, shadow, pwr, rst, clk, dbg, xspi, uart, i2c, mem; registers of PD 0, 1, 2, 3, 4, 5, 6, 7, 8, 9, 10, 11. -/
theorem execResetPin_moves (s : State) : ∃ s₁, execResetPin s = .next s₁ ∧ Moves 0x7ffffefff7ffffd s s₁ := by
  unfold execResetPin
  refine ⟨_, rfl, ?_⟩
  refine .step ?_ (State.sysReset_moves ..) (by decide)
  refine .step ?_ (State.cutFlash_moves ..) (by decide)
  exact .refl ..

/-- What `execSoftwareReset` may change: resp, frozen, key, time, icu, adc, res, cmp, dac, rfm, lane, shed, hedCnt, pwm, trip, pad, loomCfg, fuseLoaded, gov, tmr, dma, dmaLast, core, ply, wld, seq, vrec, warp, crerus, queue, jrnl, flash, custody, lc, shadow, pwr, rst, clk, dbg, xspi, uart, i2c, mem; registers of PD 0, 1, 2, 3, 4, 5, 6, 7, 8, 9, 10, 11. -/
theorem execSoftwareReset_moves (q : Who) (v : Word) (s : State) : ∃ s₁, execSoftwareReset q v s = .next s₁ ∧ Moves 0x7ffffefff7ffffe s s₁ := by
  unfold execSoftwareReset
  refine ⟨_, rfl, ?_⟩
  refine .trans ?_ (State.via_moves _ _ _ _ ?_ (by decide))
  exact .refl ..
  intro u4_0
  apply Moves.ite
  refine .step ?_ (State.askReset_moves ..) (by decide)
  exact .refl ..
  exact .refl ..

/-- What `execPlyRestartRelease` may change: free, resp, frozen, time, icu, adc, res, cmp, dac, rfm, lane, shed, hedCnt, pwm, trip, pad, loomCfg, gov, tmr, dma, dmaLast, core, ply, wld, vrec, warp, crerus, queue, jrnl, custody, pwr, xspi, uart, i2c, mem; registers of PD 0, 1, 2, 3, 4, 5, 6, 7, 8, 9, 10, 11. -/
theorem execPlyRestartRelease_moves (s : State) : ∃ s₁, execPlyRestartRelease s = .next s₁ ∧ Moves 0x7fffc45f77bfff7 s s₁ := by
  unfold execPlyRestartRelease
  refine ⟨_, rfl, ?_⟩
  apply Moves.ite
  refine .step ?_ (State.plyRestart_moves ..) (by decide)
  exact .refl ..
  exact .refl ..

/-- What `execResetRelease` may change: free, resp, frozen, icu, cmp, dac, lane, shed, hedCnt, pwm, trip, pad, loomCfg, fuseLoaded, gov, tmr, dma, health, core, wld, vrec, warp, crerus, lc, shadow, rst, uart, i2c, mem; registers of PD 0, 1, 2, 3, 4, 5, 6, 7, 8, 9, 10, 11. -/
theorem execResetRelease_moves (margin : BitVec 16) (bootsel : Bool) (vioa33 : Bool) (refs : BitVec 3) (s : State) : ∃ s₁, execResetRelease margin bootsel vioa33 refs s = .next s₁ ∧ Moves 0x7fff8a875bffb27 s s₁ := by
  unfold execResetRelease
  refine ⟨_, rfl, ?_⟩
  apply Moves.ite
  refine .step ?_ (State.release_moves ..) (by decide)
  exact .refl ..
  exact .refl ..

end Sys2Proof.Machine
end

