-- ==== Sys2Proof/Laws/RowsClockRows.lean ====
section
/-!
SUPPORT. Every command of Machine/ClockRows.lean answers a next state, and what it may change.
-/

namespace Sys2Proof.Machine

/-- What `execClockMonitorWindowEnd` may change: free, icu, health, clk; registers of PD 0, 1, 2, 3, 4, 5, 6, 7, 8, 9, 10, 11, 12. -/
theorem execClockMonitorWindowEnd_moves (nx : ℕ) (nw : ℕ) (nr : ℕ) (nt : ℕ) (good : BitVec 3) (s : State) : ∃ s₁, execClockMonitorWindowEnd nx nw nr nt good s = .next s₁ ∧ Moves 0x7ffc10000800021 s s₁ := by
  unfold execClockMonitorWindowEnd
  refine ⟨_, rfl, ?_⟩
  refine .step ?_ (State.clkDecide_moves ..) (by decide)
  refine Moves.foldl ?_ ?_
  refine .step ?_ (State.clkPut_moves ..) (by decide)
  refine .step ?_ (State.clkPut_moves ..) (by decide)
  refine .step ?_ (State.clkPut_moves ..) (by decide)
  refine .step ?_ (State.clkPut_moves ..) (by decide)
  exact .refl ..
  intro u3_0 u3_1
  apply Moves.ite
  refine .step ?_ (State.set_moves (d := 0) (lostFlag_pd _)) (by decide)
  exact .refl ..
  exact .refl ..

/-- What `execClockReferenceLost` may change: icu, health, clk; registers of PD 0, 6. -/
theorem execClockReferenceLost_moves (r : Fin 3) (s : State) : ∃ s₁, execClockReferenceLost r s = .next s₁ ∧ Moves 0x10410000800020 s s₁ := by
  unfold execClockReferenceLost
  refine ⟨_, rfl, ?_⟩
  refine .step ?_ (State.clkLost_moves ..) (by decide)
  exact .refl ..

/-- What `execPllRelockDone` may change: clk; registers of PD 0. -/
theorem execPllRelockDone_moves (s : State) : ∃ s₁, execPllRelockDone s = .next s₁ ∧ Moves 0x410000000000 s s₁ := by
  unfold execPllRelockDone
  refine ⟨_, rfl, ?_⟩
  apply Moves.ite
  extract_lets +onlyGivenNames v2
  refine Moves.bindV (v := v2) ?_ ?_
  unfold v2
  refine .step ?_ (State.set_moves (d := 0) rfl) (by decide)
  refine .step ?_ (State.set_moves (d := 0) rfl) (by decide)
  exact .refl ..
  intro hv2
  clear_value v2
  refine .step ?_ (State.upd_clk_moves ..) (by decide)
  assumption
  exact .refl ..

/-- What `execPllLockLoss` may change: icu, clk; registers of PD 0, 6. -/
theorem execPllLockLoss_moves (s : State) : ∃ s₁, execPllLockLoss s = .next s₁ ∧ Moves 0x10410000000020 s s₁ := by
  unfold execPllLockLoss
  refine ⟨_, rfl, ?_⟩
  apply Moves.ite
  extract_lets +onlyGivenNames v2
  refine Moves.bindV (v := v2) ?_ ?_
  unfold v2
  refine .step ?_ (State.set_moves (d := 0) rfl) (by decide)
  refine .step ?_ (State.set_moves (d := 0) rfl) (by decide)
  refine .step ?_ (State.set_moves (d := 0) rfl) (by decide)
  exact .refl ..
  intro hv2
  clear_value v2
  extract_lets +onlyGivenNames v4
  refine Moves.bindV (v := v4) ?_ ?_
  unfold v4
  refine .step ?_ (State.raise_moves ..) (by decide)
  assumption
  intro hv4
  clear_value v4
  refine .step ?_ (State.upd_clk_moves ..) (by decide)
  assumption
  exact .refl ..

/-- What `execPllRelockTimeout` may change: icu, health, clk; registers of PD 0, 6. -/
theorem execPllRelockTimeout_moves (s : State) : ∃ s₁, execPllRelockTimeout s = .next s₁ ∧ Moves 0x10410000800020 s s₁ := by
  unfold execPllRelockTimeout
  refine ⟨_, rfl, ?_⟩
  apply Moves.ite
  refine .step ?_ (State.clkLost_moves ..) (by decide)
  exact .refl ..
  exact .refl ..

/-- What `execClockHoldoffEnd` may change: clk. -/
theorem execClockHoldoffEnd_moves (s : State) : ∃ s₁, execClockHoldoffEnd s = .next s₁ ∧ Moves 0x10000000000 s s₁ := by
  unfold execClockHoldoffEnd
  refine ⟨_, rfl, ?_⟩
  refine .step ?_ (State.upd_clk_moves ..) (by decide)
  exact .refl ..

end Sys2Proof.Machine
end

