-- ==== Sys2Proof/Laws/RowsCrerusRows.lean ====
section
/-!
SUPPORT. Every command of Machine/CrerusRows.lean answers a next state, and what it may change.
-/

namespace Sys2Proof.Machine

/-- What `execGet` may change: icu, wld, warp, crerus, mem; registers of PD 0, 1, 6, 10. -/
theorem execGet_moves (s : State) : ∃ s₁, execGet s = .next s₁ ∧ Moves 0x110e00064000020 s s₁ := by
  unfold execGet
  refine ⟨_, rfl, ?_⟩
  refine .trans ?_ (State.serve_moves _ _ _ ?_ (by decide))
  exact .refl ..
  intro u2_0 u2_1
  refine .step ?_ (State.getJob_moves ..) (by decide)
  exact .refl ..

/-- What `execSet` may change: free, resp, frozen, key, time, icu, adc, res, cmp, dac, rfm, lane, shed, hedCnt, pwm, trip, pad, loomCfg, fuseLoaded, gov, tmr, dma, dmaLast, health, core, ply, wld, seq, vrec, warp, crerus, queue, jrnl, flash, custody, lc, shadow, pwr, rst, clk, dbg, xspi, uart, i2c, mem; registers of PD 0, 1, 2, 3, 4, 5, 6, 7, 8, 9, 10, 11. -/
theorem execSet_moves (s : State) : ∃ s₁, execSet s = .next s₁ ∧ Moves 0x7ffffefffffffff s s₁ := by
  unfold execSet
  refine ⟨_, rfl, ?_⟩
  refine .trans ?_ (State.serve_moves _ _ _ ?_ (by decide))
  exact .refl ..
  intro u2_0 u2_1
  refine .step ?_ (State.setJob_moves ..) (by decide)
  exact .refl ..

/-- What `execApply` may change: free, resp, frozen, key, time, icu, adc, res, cmp, dac, rfm, lane, shed, hedCnt, pwm, trip, pad, loomCfg, fuseLoaded, gov, tmr, dma, dmaLast, health, core, ply, wld, seq, vrec, warp, crerus, queue, jrnl, flash, custody, lc, shadow, pwr, rst, clk, dbg, xspi, uart, i2c, mem; registers of PD 0, 1, 2, 3, 4, 5, 6, 7, 8, 9, 10, 11. -/
theorem execApply_moves (s : State) : ∃ s₁, execApply s = .next s₁ ∧ Moves 0x7ffffefffffffff s s₁ := by
  unfold execApply
  refine ⟨_, rfl, ?_⟩
  refine .trans ?_ (State.serve_moves _ _ _ ?_ (by decide))
  exact .refl ..
  intro u2_0 u2_1
  refine .step ?_ (State.applyPending_moves ..) (by decide)
  exact .refl ..

/-- What `execCommitStage` may change: icu, wld, warp, crerus, mem; registers of PD 0, 1, 6, 10. -/
theorem execCommitStage_moves (s : State) : ∃ s₁, execCommitStage s = .next s₁ ∧ Moves 0x110e00064000020 s s₁ := by
  unfold execCommitStage
  refine ⟨_, rfl, ?_⟩
  refine .trans ?_ (State.serve_moves _ _ _ ?_ (by decide))
  exact .refl ..
  intro u2_0 u2_1
  refine .trans ?_ (State.commitStage_moves _ _ _ ?_ (by decide))
  exact .refl ..
  intro u4_0
  refine .step ?_ (State.finish_moves ..) (by decide)
  exact .refl ..

/-- What `execCommitWrite` may change: icu, wld, warp, crerus, flash, mem; registers of PD 0, 1, 2, 6, 10. -/
theorem execCommitWrite_moves (s : State) : ∃ s₁, execCommitWrite s = .next s₁ ∧ Moves 0x111e00264000020 s s₁ := by
  unfold execCommitWrite
  refine ⟨_, rfl, ?_⟩
  refine .trans ?_ (State.serve_moves _ _ _ ?_ (by decide))
  exact .refl ..
  intro u2_0 u2_1
  apply Moves.ite
  refine .step ?_ (State.finish_moves ..) (by decide)
  exact .refl ..
  refine .trans ?_ (State.withFlash_moves _ _ _ ?_ (by decide))
  exact .refl ..
  intro u4_0
  refine .trans ?_ (State.commitStage_moves _ _ _ ?_ (by decide))
  exact .refl ..
  intro u5_0
  refine .step ?_ (State.commitWrite_moves ..) (by decide)
  exact .refl ..

/-- What `execStage` may change: icu, wld, warp, crerus, flash, mem; registers of PD 0, 1, 2, 6, 10. -/
theorem execStage_moves (s : State) : ∃ s₁, execStage s = .next s₁ ∧ Moves 0x111e00264000020 s s₁ := by
  unfold execStage
  refine ⟨_, rfl, ?_⟩
  refine .trans ?_ (State.serve_moves _ _ _ ?_ (by decide))
  exact .refl ..
  intro u2_0 u2_1
  apply Moves.ite
  refine .step ?_ (State.stageFw_moves ..) (by decide)
  exact .refl ..
  refine .step ?_ (State.stageDraft_moves ..) (by decide)
  exact .refl ..

/-- What `execAttest` may change: free, icu, wld, warp, crerus, mem; registers of PD 0, 1, 6, 10. -/
theorem execAttest_moves (s : State) : ∃ s₁, execAttest s = .next s₁ ∧ Moves 0x110e00064000021 s s₁ := by
  unfold execAttest
  refine ⟨_, rfl, ?_⟩
  refine .trans ?_ (State.serve_moves _ _ _ ?_ (by decide))
  exact .refl ..
  intro u2_0 u2_1
  refine .step ?_ (State.attest_moves ..) (by decide)
  exact .refl ..

/-- What `execWipe` may change: icu, wld, warp, crerus, custody, mem; registers of PD 0, 1, 6, 10. -/
theorem execWipe_moves (s : State) : ∃ s₁, execWipe s = .next s₁ ∧ Moves 0x110e00464000020 s s₁ := by
  unfold execWipe
  refine ⟨_, rfl, ?_⟩
  refine .trans ?_ (State.serve_moves _ _ _ ?_ (by decide))
  exact .refl ..
  intro u2_0 u2_1
  refine .step ?_ (State.wipeKey_moves ..) (by decide)
  exact .refl ..

/-- What `execWatch` may change: icu, wld, warp, crerus, mem; registers of PD 0, 1, 6, 10. -/
theorem execWatch_moves (s : State) : ∃ s₁, execWatch s = .next s₁ ∧ Moves 0x110e00064000020 s s₁ := by
  unfold execWatch
  refine ⟨_, rfl, ?_⟩
  refine .trans ?_ (State.serve_moves _ _ _ ?_ (by decide))
  exact .refl ..
  intro u2_0 u2_1
  refine .step ?_ (State.watch_moves ..) (by decide)
  exact .refl ..

/-- What `execForget` may change: icu, wld, warp, crerus, mem; registers of PD 0, 1, 6, 10. -/
theorem execForget_moves (s : State) : ∃ s₁, execForget s = .next s₁ ∧ Moves 0x110e00064000020 s s₁ := by
  unfold execForget
  refine ⟨_, rfl, ?_⟩
  refine .trans ?_ (State.serve_moves _ _ _ ?_ (by decide))
  exact .refl ..
  intro u2_0 u2_1
  refine .step ?_ (State.forget_moves ..) (by decide)
  exact .refl ..

/-- What `execNoticeDelivery` may change: icu, crerus, mem; registers of PD 1, 6, 10. -/
theorem execNoticeDelivery_moves (i : ℕ) (s : State) : ∃ s₁, execNoticeDelivery i s = .next s₁ ∧ Moves 0x110a00040000020 s s₁ := by
  unfold execNoticeDelivery
  refine ⟨_, rfl, ?_⟩
  apply Moves.ite
  refine .step ?_ (State.deliverNotice_moves ..) (by decide)
  exact .refl ..
  exact .refl ..

/-- What `execDoPing` may change: icu, wld, warp, crerus, mem; registers of PD 0, 1, 6, 10. -/
theorem execDoPing_moves (s : State) : ∃ s₁, execDoPing s = .next s₁ ∧ Moves 0x110e00064000020 s s₁ := by
  unfold execDoPing
  refine ⟨_, rfl, ?_⟩
  refine .trans ?_ (State.serve_moves _ _ _ ?_ (by decide))
  exact .refl ..
  intro u2_0 u2_1
  refine .step ?_ (State.finish_moves ..) (by decide)
  exact .refl ..

/-- What `execDoWarpGstart` may change: icu, wld, warp, crerus, mem; registers of PD 0, 1, 6, 10. -/
theorem execDoWarpGstart_moves (s : State) : ∃ s₁, execDoWarpGstart s = .next s₁ ∧ Moves 0x110e00064000020 s s₁ := by
  unfold execDoWarpGstart
  refine ⟨_, rfl, ?_⟩
  refine .trans ?_ (State.serve_moves _ _ _ ?_ (by decide))
  exact .refl ..
  intro u2_0 u2_1
  refine .trans ?_ (State.withWarp_moves _ _ _ ?_ (by decide))
  exact .refl ..
  intro u4_0
  refine .step ?_ (State.gstart_moves ..) (by decide)
  exact .refl ..

/-- What `execDoWarpSend` may change: icu, wld, warp, crerus, mem; registers of PD 0, 1, 6, 10. -/
theorem execDoWarpSend_moves (s : State) : ∃ s₁, execDoWarpSend s = .next s₁ ∧ Moves 0x110e00064000020 s s₁ := by
  unfold execDoWarpSend
  refine ⟨_, rfl, ?_⟩
  refine .trans ?_ (State.serve_moves _ _ _ ?_ (by decide))
  exact .refl ..
  intro u2_0 u2_1
  refine .trans ?_ (State.withWarp_moves _ _ _ ?_ (by decide))
  exact .refl ..
  intro u4_0
  refine .step ?_ (State.warpSend_moves ..) (by decide)
  exact .refl ..

/-- What `execDoWarpReset` may change: icu, wld, warp, crerus, mem; registers of PD 0, 1, 6, 10. -/
theorem execDoWarpReset_moves (s : State) : ∃ s₁, execDoWarpReset s = .next s₁ ∧ Moves 0x110e00064000020 s s₁ := by
  unfold execDoWarpReset
  refine ⟨_, rfl, ?_⟩
  refine .trans ?_ (State.serve_moves _ _ _ ?_ (by decide))
  exact .refl ..
  intro u2_0 u2_1
  refine .trans ?_ (State.withWarp_moves _ _ _ ?_ (by decide))
  exact .refl ..
  intro u4_0
  refine .step ?_ (State.finish_moves ..) (by decide)
  refine .step ?_ (State.queueFrame_moves ..) (by decide)
  exact .refl ..

/-- What `execDoWarpCal` may change: free, icu, wld, warp, crerus, custody, mem; registers of PD 0, 1, 6, 10. -/
theorem execDoWarpCal_moves (s : State) : ∃ s₁, execDoWarpCal s = .next s₁ ∧ Moves 0x110e00464000021 s s₁ := by
  unfold execDoWarpCal
  refine ⟨_, rfl, ?_⟩
  refine .trans ?_ (State.serve_moves _ _ _ ?_ (by decide))
  exact .refl ..
  intro u2_0 u2_1
  refine .trans ?_ (State.withWarp_moves _ _ _ ?_ (by decide))
  exact .refl ..
  intro u4_0
  refine .step ?_ (State.finish_moves ..) (by decide)
  refine .step ?_ (State.startEnum_moves ..) (by decide)
  exact .refl ..

/-- What `execDoLcTransition` may change: icu, core, wld, warp, crerus, lc, mem; registers of PD 0, 1, 6, 10. -/
theorem execDoLcTransition_moves (s : State) : ∃ s₁, execDoLcTransition s = .next s₁ ∧ Moves 0x110e00865000020 s s₁ := by
  unfold execDoLcTransition
  refine ⟨_, rfl, ?_⟩
  refine .trans ?_ (State.serve_moves _ _ _ ?_ (by decide))
  exact .refl ..
  intro u2_0 u2_1
  refine .step ?_ (State.lcJob_moves ..) (by decide)
  exact .refl ..

/-- What `execDoLcToken` may change: icu, core, wld, warp, crerus, lc, mem; registers of PD 0, 1, 6, 10. -/
theorem execDoLcToken_moves (s : State) : ∃ s₁, execDoLcToken s = .next s₁ ∧ Moves 0x110e00865000020 s s₁ := by
  unfold execDoLcToken
  refine ⟨_, rfl, ?_⟩
  refine .trans ?_ (State.serve_moves _ _ _ ?_ (by decide))
  exact .refl ..
  intro u2_0 u2_1
  extract_lets +onlyGivenNames v4
  clear_value v4
  apply Moves.ite
  refine .step ?_ (State.lcJob_moves ..) (by decide)
  exact .refl ..
  refine .step ?_ (State.finish_moves ..) (by decide)
  exact .refl ..

/-- What `execDoLcScrap` may change: icu, core, wld, warp, crerus, lc, mem; registers of PD 0, 1, 6, 10. -/
theorem execDoLcScrap_moves (s : State) : ∃ s₁, execDoLcScrap s = .next s₁ ∧ Moves 0x110e00865000020 s s₁ := by
  unfold execDoLcScrap
  refine ⟨_, rfl, ?_⟩
  refine .trans ?_ (State.serve_moves _ _ _ ?_ (by decide))
  exact .refl ..
  intro u2_0 u2_1
  apply Moves.ite
  refine .step ?_ (State.lcJob_moves ..) (by decide)
  exact .refl ..
  refine .step ?_ (State.finish_moves ..) (by decide)
  exact .refl ..

/-- What `execDoDrbgRandom` may change: free, icu, wld, warp, crerus, custody, mem; registers of PD 0, 1, 6, 10. -/
theorem execDoDrbgRandom_moves (s : State) : ∃ s₁, execDoDrbgRandom s = .next s₁ ∧ Moves 0x110e00464000021 s s₁ := by
  unfold execDoDrbgRandom
  refine ⟨_, rfl, ?_⟩
  refine .trans ?_ (State.serve_moves _ _ _ ?_ (by decide))
  exact .refl ..
  intro u2_0 u2_1
  refine .step ?_ (State.drbgRandom_moves ..) (by decide)
  exact .refl ..

/-- What `execDoDrbgGenerate` may change: free, icu, wld, warp, crerus, custody, mem; registers of PD 0, 1, 6, 10. -/
theorem execDoDrbgGenerate_moves (s : State) : ∃ s₁, execDoDrbgGenerate s = .next s₁ ∧ Moves 0x110e00464000021 s s₁ := by
  unfold execDoDrbgGenerate
  refine ⟨_, rfl, ?_⟩
  refine .trans ?_ (State.serve_moves _ _ _ ?_ (by decide))
  exact .refl ..
  intro u2_0 u2_1
  refine .step ?_ (State.drbgGenerate_moves ..) (by decide)
  exact .refl ..

/-- What `execDoTamperClear` may change: icu, wld, warp, crerus, custody, mem; registers of PD 0, 1, 6, 10. -/
theorem execDoTamperClear_moves (live : BitVec 9) (s : State) : ∃ s₁, execDoTamperClear live s = .next s₁ ∧ Moves 0x110e00464000020 s s₁ := by
  unfold execDoTamperClear
  refine ⟨_, rfl, ?_⟩
  refine .trans ?_ (State.serve_moves _ _ _ ?_ (by decide))
  exact .refl ..
  intro u3_0 u3_1
  refine .step ?_ (State.tamperClear_moves ..) (by decide)
  refine .step ?_ (State.set_moves (d := 0) rfl) (by decide)
  exact .refl ..

end Sys2Proof.Machine
end

