-- ==== Sys2Proof/Laws/RowsCrerusTake.lean ====
section
/-!
SUPPORT. Every command of Machine/CrerusTake.lean answers a next state, and what it may change.
-/

namespace Sys2Proof.Machine

/-- What `execMailboxRequestTake` may change: icu, wld, vrec, warp, crerus, mem; registers of PD 0, 1, 6, 10. -/
theorem execMailboxRequestTake_moves (s : State) : ∃ s₁, execMailboxRequestTake s = .next s₁ ∧ Moves 0x110e00074000020 s s₁ := by
  unfold execMailboxRequestTake
  refine ⟨_, rfl, ?_⟩
  refine .step ?_ (State.takeRequest_moves ..) (by decide)
  exact .refl ..

/-- What `execRequestResume` may change: icu, wld, warp, crerus, fuse, mem; registers of PD 0, 1, 6, 10. -/
theorem execRequestResume_moves (s : State) : ∃ s₁, execRequestResume s = .next s₁ ∧ Moves 0x110e01064000020 s s₁ := by
  unfold execRequestResume
  refine ⟨_, rfl, ?_⟩
  apply Moves.ite
  exact .refl ..
  split
  refine .step ?_ (State.resumeJob_moves ..) (by decide)
  exact .refl ..
  exact .refl ..

/-- What `execLaneApplyTimeout` may change: icu, wld, warp, crerus, mem; registers of PD 0, 1, 6, 10. -/
theorem execLaneApplyTimeout_moves (s : State) : ∃ s₁, execLaneApplyTimeout s = .next s₁ ∧ Moves 0x110e00064000020 s s₁ := by
  unfold execLaneApplyTimeout
  refine ⟨_, rfl, ?_⟩
  split
  apply Moves.ite
  refine .step ?_ (State.finish_moves ..) (by decide)
  exact .refl ..
  exact .refl ..
  exact .refl ..

end Sys2Proof.Machine
end

