-- ==== Sys2Proof/Laws/RowsDebugRows.lean ====
section
/-!
SUPPORT. Every command of Machine/DebugRows.lean answers a next state, and what it may change.
-/

namespace Sys2Proof.Machine

/-- What `execTapReset` may change: dbg. -/
theorem execTapReset_moves (s : State) : ∃ s₁, execTapReset s = .next s₁ ∧ Moves 0x20000000000 s s₁ := by
  unfold execTapReset
  refine ⟨_, rfl, ?_⟩
  refine .step ?_ (State.select_moves ..) (by decide)
  exact .refl ..

/-- What `execJtagExtest` may change: dbg. -/
theorem execJtagExtest_moves (b : List Bool) (s : State) : ∃ s₁, execJtagExtest b s = .next s₁ ∧ Moves 0x20000000000 s s₁ := by
  unfold execJtagExtest
  refine ⟨_, rfl, ?_⟩
  refine .trans ?_ (State.selectScan_moves _ _ _ ?_ (by decide))
  exact .refl ..
  intro u3_0
  refine .step ?_ (State.upd_dbg_moves ..) (by decide)
  exact .refl ..

/-- What `execJtagSamplePreload` may change: free, dbg. -/
theorem execJtagSamplePreload_moves (b : List Bool) (s : State) : ∃ s₁, execJtagSamplePreload b s = .next s₁ ∧ Moves 0x20000000001 s s₁ := by
  unfold execJtagSamplePreload
  refine ⟨_, rfl, ?_⟩
  refine .trans ?_ (State.selectScan_moves _ _ _ ?_ (by decide))
  exact .refl ..
  intro u3_0
  refine .step ?_ (State.upd_dbg_moves ..) (by decide)
  refine .step ?_ (State.upd_free_moves ..) (by decide)
  exact .refl ..

/-- What `execJtagIdcode` may change: dbg. -/
theorem execJtagIdcode_moves (s : State) : ∃ s₁, execJtagIdcode s = .next s₁ ∧ Moves 0x20000000000 s s₁ := by
  unfold execJtagIdcode
  refine ⟨_, rfl, ?_⟩
  refine .step ?_ (State.select_moves ..) (by decide)
  exact .refl ..

/-- What `execJtagClamp` may change: dbg. -/
theorem execJtagClamp_moves (s : State) : ∃ s₁, execJtagClamp s = .next s₁ ∧ Moves 0x20000000000 s s₁ := by
  unfold execJtagClamp
  refine ⟨_, rfl, ?_⟩
  refine .trans ?_ (State.selectScan_moves _ _ _ ?_ (by decide))
  exact .refl ..
  intro u2_0
  exact .refl ..

/-- What `execJtagHighz` may change: dbg. -/
theorem execJtagHighz_moves (s : State) : ∃ s₁, execJtagHighz s = .next s₁ ∧ Moves 0x20000000000 s s₁ := by
  unfold execJtagHighz
  refine ⟨_, rfl, ?_⟩
  refine .trans ?_ (State.selectScan_moves _ _ _ ?_ (by decide))
  exact .refl ..
  intro u2_0
  exact .refl ..

/-- What `execJtagDbgstat` may change: dbg. -/
theorem execJtagDbgstat_moves (s : State) : ∃ s₁, execJtagDbgstat s = .next s₁ ∧ Moves 0x20000000000 s s₁ := by
  unfold execJtagDbgstat
  refine ⟨_, rfl, ?_⟩
  refine .step ?_ (State.select_moves ..) (by decide)
  exact .refl ..

/-- What `execJtagBypass` may change: dbg. -/
theorem execJtagBypass_moves (s : State) : ∃ s₁, execJtagBypass s = .next s₁ ∧ Moves 0x20000000000 s s₁ := by
  unfold execJtagBypass
  refine ⟨_, rfl, ?_⟩
  refine .step ?_ (State.select_moves ..) (by decide)
  exact .refl ..

/-- What `execDbgapRead` may change: free, resp, frozen, key, time, icu, adc, res, cmp, dac, rfm, lane, shed, hedCnt, pwm, trip, pad, loomCfg, fuseLoaded, gov, tmr, dma, dmaLast, health, core, ply, wld, seq, vrec, warp, crerus, queue, jrnl, flash, custody, lc, shadow, pwr, rst, clk, dbg, xspi, uart, i2c, mem; registers of PD 0, 1, 2, 3, 4, 5, 6, 7, 8, 9, 10, 11, 12. -/
theorem execDbgapRead_moves (act : Bool) (a : BitVec 32) (s : State) : ∃ s₁, execDbgapRead act a s = .next s₁ ∧ Moves 0x7ffffefffffffff s s₁ := by
  unfold execDbgapRead
  refine ⟨_, rfl, ?_⟩
  refine .trans ?_ (State.apScan_moves _ _ ?_ (by decide))
  exact .refl ..
  intro u3_0
  refine .step ?_ (State.dbgRead_moves ..) (by decide)
  exact .refl ..

/-- What `execDbgapWrite` may change: free, resp, frozen, key, time, icu, adc, res, cmp, dac, rfm, lane, shed, hedCnt, pwm, trip, pad, loomCfg, fuseLoaded, gov, tmr, dma, dmaLast, health, core, ply, wld, seq, vrec, warp, crerus, queue, jrnl, flash, custody, lc, shadow, pwr, rst, clk, dbg, xspi, uart, i2c, mem; registers of PD 0, 1, 2, 3, 4, 5, 6, 7, 8, 9, 10, 11, 12. -/
theorem execDbgapWrite_moves (a : BitVec 32) (v : BitVec 32) (s : State) : ∃ s₁, execDbgapWrite a v s = .next s₁ ∧ Moves 0x7ffffefffffffff s s₁ := by
  unfold execDbgapWrite
  refine ⟨_, rfl, ?_⟩
  refine .trans ?_ (State.apScan_moves _ _ ?_ (by decide))
  exact .refl ..
  intro u3_0
  refine .step ?_ (State.dbgWrite_moves ..) (by decide)
  exact .refl ..

/-- What `execDbgapNop` may change: free, resp, frozen, key, time, icu, adc, res, cmp, dac, rfm, lane, shed, hedCnt, pwm, trip, pad, loomCfg, fuseLoaded, gov, tmr, dma, dmaLast, health, core, ply, wld, seq, vrec, warp, crerus, queue, jrnl, flash, custody, lc, shadow, pwr, rst, clk, dbg, xspi, uart, i2c, mem; registers of PD 0, 1, 2, 3, 4, 5, 6, 7, 8, 9, 10, 11, 12. -/
theorem execDbgapNop_moves (s : State) : ∃ s₁, execDbgapNop s = .next s₁ ∧ Moves 0x7ffffefffffffff s s₁ := by
  unfold execDbgapNop
  refine ⟨_, rfl, ?_⟩
  refine .trans ?_ (State.apScan_moves _ _ ?_ (by decide))
  exact .refl ..
  intro u3_0
  refine .step ?_ (State.upd_dbg_moves ..) (by decide)
  exact .refl ..

/-- What `execDbgauthReadChallenge` may change: dbg. -/
theorem execDbgauthReadChallenge_moves (s : State) : ∃ s₁, execDbgauthReadChallenge s = .next s₁ ∧ Moves 0x20000000000 s s₁ := by
  unfold execDbgauthReadChallenge
  refine ⟨_, rfl, ?_⟩
  refine .trans ?_ (State.authScan_moves _ _ ?_ (by decide))
  exact .refl ..
  intro u2_0
  refine .step ?_ (State.upd_dbg_moves ..) (by decide)
  exact .refl ..

/-- What `execDbgauthWriteCertificate` may change: dbg. -/
theorem execDbgauthWriteCertificate_moves (w : Word) (s : State) : ∃ s₁, execDbgauthWriteCertificate w s = .next s₁ ∧ Moves 0x20000000000 s s₁ := by
  unfold execDbgauthWriteCertificate
  refine ⟨_, rfl, ?_⟩
  refine .trans ?_ (State.authScan_moves _ _ ?_ (by decide))
  exact .refl ..
  intro u3_0
  apply Moves.ite
  refine .step ?_ (State.upd_dbg_moves ..) (by decide)
  exact .refl ..
  exact .refl ..

/-- What `execDbgauthNewchal` may change: free, custody, dbg. -/
theorem execDbgauthNewchal_moves (s : State) : ∃ s₁, execDbgauthNewchal s = .next s₁ ∧ Moves 0x20400000001 s s₁ := by
  unfold execDbgauthNewchal
  refine ⟨_, rfl, ?_⟩
  refine .trans ?_ (State.authScan_moves _ _ ?_ (by decide))
  exact .refl ..
  intro u2_0
  refine .step ?_ (State.newChallenge_moves ..) (by decide)
  exact .refl ..

/-- What `execDbgauthSubmit` may change: dbg; registers of PD 0. -/
theorem execDbgauthSubmit_moves (s : State) : ∃ s₁, execDbgauthSubmit s = .next s₁ ∧ Moves 0x420000000000 s s₁ := by
  unfold execDbgauthSubmit
  refine ⟨_, rfl, ?_⟩
  refine .trans ?_ (State.authScan_moves _ _ ?_ (by decide))
  exact .refl ..
  intro u2_0
  refine .step ?_ (State.submit_moves ..) (by decide)
  exact .refl ..

/-- What `execDebugCertCheckDone` may change: vrec, dbg; registers of PD 0. -/
theorem execDebugCertCheckDone_moves (s : State) : ∃ s₁, execDebugCertCheckDone s = .next s₁ ∧ Moves 0x420010000000 s s₁ := by
  unfold execDebugCertCheckDone
  refine ⟨_, rfl, ?_⟩
  apply Moves.ite
  refine .step ?_ (State.certDone_moves ..) (by decide)
  exact .refl ..
  exact .refl ..

/-- What `execDebugGrantExpiry` may change: core, dbg; registers of PD 0. -/
theorem execDebugGrantExpiry_moves (s : State) : ∃ s₁, execDebugGrantExpiry s = .next s₁ ∧ Moves 0x420001000000 s s₁ := by
  unfold execDebugGrantExpiry
  refine ⟨_, rfl, ?_⟩
  split
  apply Moves.ite
  refine .step ?_ (State.endGrant_moves ..) (by decide)
  exact .refl ..
  exact .refl ..
  exact .refl ..

/-- What `execDebugRevoke` may change: free, resp, frozen, key, time, icu, adc, res, cmp, dac, rfm, lane, shed, hedCnt, pwm, trip, pad, loomCfg, fuseLoaded, gov, tmr, dma, dmaLast, health, core, ply, wld, seq, vrec, warp, crerus, queue, jrnl, flash, custody, lc, shadow, pwr, rst, clk, dbg, xspi, uart, i2c, mem; registers of PD 0, 1, 2, 3, 4, 5, 6, 7, 8, 9, 10, 11, 12. -/
theorem execDebugRevoke_moves (s : State) : ∃ s₁, execDebugRevoke s = .next s₁ ∧ Moves 0x7ffffefffffffff s s₁ := by
  unfold execDebugRevoke
  refine ⟨_, rfl, ?_⟩
  refine .trans ?_ (State.apScan_moves _ _ ?_ (by decide))
  exact .refl ..
  intro u3_0
  refine .step ?_ (State.dbgWrite_moves ..) (by decide)
  exact .refl ..

/-- What `execDebugHaltRequest` may change: free, resp, frozen, key, time, icu, adc, res, cmp, dac, rfm, lane, shed, hedCnt, pwm, trip, pad, loomCfg, fuseLoaded, gov, tmr, dma, dmaLast, health, core, ply, wld, seq, vrec, warp, crerus, queue, jrnl, flash, custody, lc, shadow, pwr, rst, clk, dbg, xspi, uart, i2c, mem; registers of PD 0, 1, 2, 3, 4, 5, 6, 7, 8, 9, 10, 11, 12. -/
theorem execDebugHaltRequest_moves (v : Word) (s : State) : ∃ s₁, execDebugHaltRequest v s = .next s₁ ∧ Moves 0x7ffffefffffffff s s₁ := by
  unfold execDebugHaltRequest
  refine ⟨_, rfl, ?_⟩
  refine .trans ?_ (State.apScan_moves _ _ ?_ (by decide))
  exact .refl ..
  intro u3_0
  refine .step ?_ (State.dbgWrite_moves ..) (by decide)
  exact .refl ..

/-- What `execDebugHalt` may change: free, core; registers of PD 0. -/
theorem execDebugHalt_moves (c : Fin 3) (s : State) : ∃ s₁, execDebugHalt c s = .next s₁ ∧ Moves 0x400001000001 s s₁ := by
  unfold execDebugHalt
  refine ⟨_, rfl, ?_⟩
  refine .step ?_ (State.haltNow_moves ..) (by decide)
  exact .refl ..

/-- What `execDebugHaltDeferralExpiry` may change: free, key, icu, core, seq; registers of PD 0, 2, 6. -/
theorem execDebugHaltDeferralExpiry_moves (c : Fin 3) (s : State) : ∃ s₁, execDebugHaltDeferralExpiry c s = .next s₁ ∧ Moves 0x11400009000029 s s₁ := by
  unfold execDebugHaltDeferralExpiry
  refine ⟨_, rfl, ?_⟩
  refine .step ?_ (State.deferralEnds_moves ..) (by decide)
  exact .refl ..

/-- What `execDebugResume` may change: free, resp, frozen, key, time, icu, adc, res, cmp, dac, rfm, lane, shed, hedCnt, pwm, trip, pad, loomCfg, fuseLoaded, gov, tmr, dma, dmaLast, health, core, ply, wld, seq, vrec, warp, crerus, queue, jrnl, flash, custody, lc, shadow, pwr, rst, clk, dbg, xspi, uart, i2c, mem; registers of PD 0, 1, 2, 3, 4, 5, 6, 7, 8, 9, 10, 11, 12. -/
theorem execDebugResume_moves (v : Word) (s : State) : ∃ s₁, execDebugResume v s = .next s₁ ∧ Moves 0x7ffffefffffffff s s₁ := by
  unfold execDebugResume
  refine ⟨_, rfl, ?_⟩
  refine .trans ?_ (State.apScan_moves _ _ ?_ (by decide))
  exact .refl ..
  intro u3_0
  refine .step ?_ (State.dbgWrite_moves ..) (by decide)
  exact .refl ..

/-- What `execDebugStep` may change: free, resp, frozen, key, time, icu, adc, res, cmp, dac, rfm, lane, shed, hedCnt, pwm, trip, pad, loomCfg, fuseLoaded, gov, tmr, dma, dmaLast, health, core, ply, wld, seq, vrec, warp, crerus, queue, jrnl, flash, custody, lc, shadow, pwr, rst, clk, dbg, xspi, uart, i2c, mem; registers of PD 0, 1, 2, 3, 4, 5, 6, 7, 8, 9, 10, 11, 12. -/
theorem execDebugStep_moves (v : Word) (s : State) : ∃ s₁, execDebugStep v s = .next s₁ ∧ Moves 0x7ffffefffffffff s s₁ := by
  unfold execDebugStep
  refine ⟨_, rfl, ?_⟩
  refine .trans ?_ (State.apScan_moves _ _ ?_ (by decide))
  exact .refl ..
  intro u3_0
  refine .step ?_ (State.dbgWrite_moves ..) (by decide)
  exact .refl ..

/-- What `execDebugRegisterAccess` may change: free, resp, frozen, key, time, icu, adc, res, cmp, dac, rfm, lane, shed, hedCnt, pwm, trip, pad, loomCfg, fuseLoaded, gov, tmr, dma, dmaLast, health, core, ply, wld, seq, vrec, warp, crerus, queue, jrnl, flash, custody, lc, shadow, pwr, rst, clk, dbg, xspi, uart, i2c, mem; registers of PD 0, 1, 2, 3, 4, 5, 6, 7, 8, 9, 10, 11, 12. -/
theorem execDebugRegisterAccess_moves (w : Bool) (v : Word) (s : State) : ∃ s₁, execDebugRegisterAccess w v s = .next s₁ ∧ Moves 0x7ffffefffffffff s s₁ := by
  unfold execDebugRegisterAccess
  refine ⟨_, rfl, ?_⟩
  refine .trans ?_ (State.apScan_moves _ _ ?_ (by decide))
  exact .refl ..
  intro u3_0
  apply Moves.ite
  refine .step ?_ (State.dbgWrite_moves ..) (by decide)
  exact .refl ..
  refine .step ?_ (State.dbgRead_moves ..) (by decide)
  exact .refl ..

/-- What `execDebugBurst` may change: free, resp, frozen, key, time, icu, adc, res, cmp, dac, rfm, lane, shed, hedCnt, pwm, trip, pad, loomCfg, fuseLoaded, gov, tmr, dma, dmaLast, health, core, ply, wld, seq, vrec, warp, crerus, queue, jrnl, flash, custody, lc, shadow, pwr, rst, clk, dbg, xspi, uart, i2c, mem; registers of PD 0, 1, 2, 3, 4, 5, 6, 7, 8, 9, 10, 11, 12. -/
theorem execDebugBurst_moves (v : Word) (s : State) : ∃ s₁, execDebugBurst v s = .next s₁ ∧ Moves 0x7ffffefffffffff s s₁ := by
  unfold execDebugBurst
  refine ⟨_, rfl, ?_⟩
  refine .trans ?_ (State.apScan_moves _ _ ?_ (by decide))
  exact .refl ..
  intro u3_0
  refine .step ?_ (State.dbgWrite_moves ..) (by decide)
  exact .refl ..

end Sys2Proof.Machine
end

