-- ==== Sys2Proof/Laws/RowsDmaOps.lean ====
section
/-!
SUPPORT. Every command of Machine/DmaOps.lean answers a next state, and what it may change.
-/

namespace Sys2Proof.Machine

/-- What `execDmaEnable` may change: free, resp, frozen, icu, dma, vrec; registers of PD 0, 1, 2, 3, 4, 5, 6, 7, 8, 9, 10, 11. -/
theorem execDmaEnable_moves (q : Who) (c : Fin 16) (v : Word) (s : State) : ∃ s₁, execDmaEnable q c v s = .next s₁ ∧ Moves 0x7ffc00010200027 s s₁ := by
  unfold execDmaEnable
  refine ⟨_, rfl, ?_⟩
  refine .trans ?_ (State.via_moves _ _ _ _ ?_ (by decide))
  exact .refl ..
  intro u5_0
  refine .step ?_ (State.writeDmaCtrl_moves ..) (by decide)
  exact .refl ..

/-- What `execDmaDisable` may change: free, resp, frozen, icu, dma, vrec; registers of PD 0, 1, 2, 3, 4, 5, 6, 7, 8, 9, 10, 11. -/
theorem execDmaDisable_moves (q : Who) (c : Fin 16) (v : Word) (s : State) : ∃ s₁, execDmaDisable q c v s = .next s₁ ∧ Moves 0x7ffc00010200027 s s₁ := by
  unfold execDmaDisable
  refine ⟨_, rfl, ?_⟩
  refine .trans ?_ (State.via_moves _ _ _ _ ?_ (by decide))
  exact .refl ..
  intro u5_0
  refine .step ?_ (State.writeDmaCtrl_moves ..) (by decide)
  exact .refl ..

/-- What `execDmaSoftwareTrigger` may change: free, resp, frozen, icu, dma, vrec; registers of PD 0, 1, 2, 3, 4, 5, 6, 7, 8, 9, 10, 11. -/
theorem execDmaSoftwareTrigger_moves (q : Who) (c : Fin 16) (v : Word) (s : State) : ∃ s₁, execDmaSoftwareTrigger q c v s = .next s₁ ∧ Moves 0x7ffc00010200027 s s₁ := by
  unfold execDmaSoftwareTrigger
  refine ⟨_, rfl, ?_⟩
  refine .trans ?_ (State.via_moves _ _ _ _ ?_ (by decide))
  exact .refl ..
  intro u5_0
  refine .step ?_ (State.writeDmaCtrl_moves ..) (by decide)
  exact .refl ..

end Sys2Proof.Machine
end

