-- ==== Sys2Proof/Laws/RowsDmaRows.lean ====
section
/-!
SUPPORT. Every command of Machine/DmaRows.lean answers a next state, and what it may change.
-/

namespace Sys2Proof.Machine

/-- What `execDmaDescriptorLoad` may change: free, resp, frozen, key, time, icu, adc, res, cmp, dac, rfm, lane, shed, hedCnt, pwm, trip, pad, loomCfg, fuseLoaded, gov, tmr, dma, dmaLast, health, core, ply, wld, seq, vrec, warp, crerus, queue, jrnl, flash, custody, lc, shadow, pwr, rst, clk, dbg, xspi, uart, i2c, mem; registers of PD 0, 1, 2, 3, 4, 5, 6, 7, 8, 9, 10, 11, 12. -/
theorem execDmaDescriptorLoad_moves (c : Fin 16) (s : State) : ∃ s₁, execDmaDescriptorLoad c s = .next s₁ ∧ Moves 0x7ffffefffffffff s s₁ := by
  unfold execDmaDescriptorLoad
  refine ⟨_, rfl, ?_⟩
  apply Moves.ite
  refine .step ?_ (State.dmaTurn_moves ..) (by decide)
  exact .refl ..
  exact .refl ..

/-- What `execDmaDescriptorComplete` may change: free, resp, frozen, key, time, icu, adc, res, cmp, dac, rfm, lane, shed, hedCnt, pwm, trip, pad, loomCfg, fuseLoaded, gov, tmr, dma, dmaLast, health, core, ply, wld, seq, vrec, warp, crerus, queue, jrnl, flash, custody, lc, shadow, pwr, rst, clk, dbg, xspi, uart, i2c, mem; registers of PD 0, 1, 2, 3, 4, 5, 6, 7, 8, 9, 10, 11, 12. -/
theorem execDmaDescriptorComplete_moves (c : Fin 16) (s : State) : ∃ s₁, execDmaDescriptorComplete c s = .next s₁ ∧ Moves 0x7ffffefffffffff s s₁ := by
  unfold execDmaDescriptorComplete
  refine ⟨_, rfl, ?_⟩
  apply Moves.ite
  refine .step ?_ (State.dmaTurn_moves ..) (by decide)
  exact .refl ..
  exact .refl ..

/-- What `execDmaNextFetch` may change: free, resp, frozen, key, time, icu, adc, res, cmp, dac, rfm, lane, shed, hedCnt, pwm, trip, pad, loomCfg, fuseLoaded, gov, tmr, dma, dmaLast, health, core, ply, wld, seq, vrec, warp, crerus, queue, jrnl, flash, custody, lc, shadow, pwr, rst, clk, dbg, xspi, uart, i2c, mem; registers of PD 0, 1, 2, 3, 4, 5, 6, 7, 8, 9, 10, 11, 12. -/
theorem execDmaNextFetch_moves (c : Fin 16) (s : State) : ∃ s₁, execDmaNextFetch c s = .next s₁ ∧ Moves 0x7ffffefffffffff s s₁ := by
  unfold execDmaNextFetch
  refine ⟨_, rfl, ?_⟩
  apply Moves.ite
  refine .step ?_ (State.dmaTurn_moves ..) (by decide)
  exact .refl ..
  exact .refl ..

/-- What `execDmaBeat` may change: free, resp, frozen, key, time, icu, adc, res, cmp, dac, rfm, lane, shed, hedCnt, pwm, trip, pad, loomCfg, fuseLoaded, gov, tmr, dma, dmaLast, health, core, ply, wld, seq, vrec, warp, crerus, queue, jrnl, flash, custody, lc, shadow, pwr, rst, clk, dbg, xspi, uart, i2c, mem; registers of PD 0, 1, 2, 3, 4, 5, 6, 7, 8, 9, 10, 11. -/
theorem execDmaBeat_moves (s : State) : ∃ s₁, execDmaBeat s = .next s₁ ∧ Moves 0x7ffffefffffffff s s₁ := by
  unfold execDmaBeat
  refine ⟨_, rfl, ?_⟩
  split
  exact .refl ..
  refine .step ?_ (State.dmaBeat_moves ..) (by decide)
  refine .step ?_ (State.upd_dmaLast_moves ..) (by decide)
  exact .refl ..

/-- What `execDmaRetryReissue` may change: free, resp, frozen, key, time, icu, adc, res, cmp, dac, rfm, lane, shed, hedCnt, pwm, trip, pad, loomCfg, fuseLoaded, gov, tmr, dma, dmaLast, health, core, ply, wld, seq, vrec, warp, crerus, queue, jrnl, flash, custody, lc, shadow, pwr, rst, clk, dbg, xspi, uart, i2c, mem; registers of PD 0, 1, 2, 3, 4, 5, 6, 7, 8, 9, 10, 11. -/
theorem execDmaRetryReissue_moves (c : Fin 16) (s : State) : ∃ s₁, execDmaRetryReissue c s = .next s₁ ∧ Moves 0x7ffffefffffffff s s₁ := by
  unfold execDmaRetryReissue
  refine ⟨_, rfl, ?_⟩
  apply Moves.ite
  refine .step ?_ (State.dmaReissue_moves ..) (by decide)
  exact .refl ..
  exact .refl ..

end Sys2Proof.Machine
end

