-- ==== Sys2Proof/Laws/RowsFirmOps.lean ====
section
/-!
SUPPORT. Every command of Machine/FirmOps.lean answers a next state, and what it may change.
-/

namespace Sys2Proof.Machine

/-- What `execVendorFirmwareStart` may change: free, resp, frozen, key, time, icu, adc, res, cmp, dac, rfm, lane, shed, hedCnt, pwm, trip, pad, loomCfg, fuseLoaded, gov, tmr, dma, dmaLast, health, core, ply, wld, seq, vrec, warp, crerus, queue, jrnl, flash, custody, lc, shadow, pwr, rst, clk, dbg, xspi, uart, i2c, mem; registers of PD 0, 1, 2, 3, 4, 5, 6, 7, 8, 9, 10, 11. -/
theorem execVendorFirmwareStart_moves (kat : Bool) (s : State) : ∃ s₁, execVendorFirmwareStart kat s = .next s₁ ∧ Moves 0x7ffffefffffffff s s₁ := by
  unfold execVendorFirmwareStart
  refine ⟨_, rfl, ?_⟩
  apply Moves.ite
  refine .step ?_ (State.fwStart_moves ..) (by decide)
  exact .refl ..
  exact .refl ..

/-- What `execCrerusRestartComplete` may change: free, resp, frozen, key, time, icu, adc, res, cmp, dac, rfm, lane, shed, hedCnt, pwm, trip, pad, loomCfg, fuseLoaded, gov, tmr, dma, dmaLast, health, core, ply, wld, seq, vrec, warp, crerus, queue, jrnl, flash, custody, lc, shadow, pwr, rst, clk, dbg, xspi, uart, i2c, mem; registers of PD 0, 1, 2, 3, 4, 5, 6, 7, 8, 9, 10, 11. -/
theorem execCrerusRestartComplete_moves (kat : Bool) (s : State) : ∃ s₁, execCrerusRestartComplete kat s = .next s₁ ∧ Moves 0x7ffffefffffffff s s₁ := by
  unfold execCrerusRestartComplete
  refine ⟨_, rfl, ?_⟩
  apply Moves.ite
  refine .step ?_ (State.crerusRestart_moves ..) (by decide)
  exact .refl ..
  exact .refl ..

/-- What `execCrerusWatchdogExpiry` may change: frozen, key, time, icu, adc, res, cmp, dac, rfm, lane, shed, hedCnt, pwm, trip, pad, loomCfg, fuseLoaded, gov, tmr, dma, dmaLast, core, ply, wld, seq, vrec, warp, crerus, queue, jrnl, flash, custody, lc, shadow, pwr, rst, clk, dbg, xspi, uart, i2c, mem; registers of PD 0, 1, 2, 3, 4, 5, 6, 7, 8, 9, 10, 11. -/
theorem execCrerusWatchdogExpiry_moves (s : State) : ∃ s₁, execCrerusWatchdogExpiry s = .next s₁ ∧ Moves 0x7ffffefff7ffffc s s₁ := by
  unfold execCrerusWatchdogExpiry
  refine ⟨_, rfl, ?_⟩
  apply Moves.ite
  exact .refl ..
  extract_lets +onlyGivenNames v2
  clear_value v2
  split
  apply Moves.ite
  refine .step ?_ (State.askReset_moves ..) (by decide)
  exact .refl ..
  refine .step ?_ (State.crerusLost_moves ..) (by decide)
  refine .step ?_ (State.upd_crerus_moves ..) (by decide)
  exact .refl ..
  refine .step ?_ (State.crerusLost_moves ..) (by decide)
  refine .step ?_ (State.upd_crerus_moves ..) (by decide)
  exact .refl ..

/-- What `execDoFwVerify` may change: icu, wld, warp, crerus, mem; registers of PD 0, 1, 6, 10. -/
theorem execDoFwVerify_moves (s : State) : ∃ s₁, execDoFwVerify s = .next s₁ ∧ Moves 0x110e00064000020 s s₁ := by
  unfold execDoFwVerify
  refine ⟨_, rfl, ?_⟩
  refine .trans ?_ (State.serve_moves _ _ _ ?_ (by decide))
  exact .refl ..
  intro u2_0 u2_1
  refine .trans ?_ (State.withFlash_moves _ _ _ ?_ (by decide))
  exact .refl ..
  intro u4_0
  refine .step ?_ (State.fwVerify_moves ..) (by decide)
  exact .refl ..

/-- What `execDoFwActivate` may change: icu, wld, vrec, warp, crerus, jrnl, flash, mem; registers of PD 0, 1, 2, 6, 10. -/
theorem execDoFwActivate_moves (s : State) : ∃ s₁, execDoFwActivate s = .next s₁ ∧ Moves 0x111e00374000020 s s₁ := by
  unfold execDoFwActivate
  refine ⟨_, rfl, ?_⟩
  refine .trans ?_ (State.serve_moves _ _ _ ?_ (by decide))
  exact .refl ..
  intro u2_0 u2_1
  apply Moves.ite
  refine .step ?_ (State.finish_moves ..) (by decide)
  exact .refl ..
  apply Moves.ite
  refine .step ?_ (State.finish_moves ..) (by decide)
  exact .refl ..
  refine .trans ?_ (State.withFlash_moves _ _ _ ?_ (by decide))
  exact .refl ..
  intro u4_0
  refine .step ?_ (State.fwActivate_moves ..) (by decide)
  exact .refl ..

/-- What `execFwStatusCommit` may change: icu, wld, warp, crerus, flash, fuse, mem; registers of PD 0, 1, 2, 6, 10. -/
theorem execFwStatusCommit_moves (s : State) : ∃ s₁, execFwStatusCommit s = .next s₁ ∧ Moves 0x111e01264000020 s s₁ := by
  unfold execFwStatusCommit
  refine ⟨_, rfl, ?_⟩
  refine .trans ?_ (State.serve_moves _ _ _ ?_ (by decide))
  exact .refl ..
  intro u2_0 u2_1
  apply Moves.ite
  refine .step ?_ (State.finish_moves ..) (by decide)
  refine .step ?_ (State.confirmed_moves ..) (by decide)
  exact .refl ..
  refine .trans ?_ (State.withFlash_moves _ _ _ ?_ (by decide))
  exact .refl ..
  intro u4_0
  refine .step ?_ (State.suspend_moves ..) (by decide)
  refine .step ?_ (State.setFlashOp_moves ..) (by decide)
  exact .refl ..

/-- What `execDoDraftImage` may change: icu, wld, warp, crerus, flash, mem; registers of PD 0, 1, 2, 6, 10. -/
theorem execDoDraftImage_moves (s : State) : ∃ s₁, execDoDraftImage s = .next s₁ ∧ Moves 0x111e00264000020 s s₁ := by
  unfold execDoDraftImage
  refine ⟨_, rfl, ?_⟩
  refine .trans ?_ (State.serve_moves _ _ _ ?_ (by decide))
  exact .refl ..
  intro u2_0 u2_1
  refine .trans ?_ (State.withFlash_moves _ _ _ ?_ (by decide))
  exact .refl ..
  intro u4_0
  refine .step ?_ (State.draftImage_moves ..) (by decide)
  exact .refl ..

/-- What `execFlashOperationComplete` may change: free, frozen, key, time, icu, adc, res, cmp, dac, rfm, lane, shed, hedCnt, pwm, trip, pad, loomCfg, fuseLoaded, gov, tmr, dma, dmaLast, core, ply, wld, seq, vrec, warp, crerus, queue, jrnl, flash, custody, lc, shadow, pwr, rst, clk, dbg, xspi, uart, i2c, mem; registers of PD 0, 1, 2, 3, 4, 5, 6, 7, 8, 9, 10, 11. -/
theorem execFlashOperationComplete_moves (bank : Fin 2) (ok : Bool) (s : State) : ∃ s₁, execFlashOperationComplete bank ok s = .next s₁ ∧ Moves 0x7ffffefff7ffffd s s₁ := by
  unfold execFlashOperationComplete
  refine ⟨_, rfl, ?_⟩
  split
  refine .step ?_ (State.resetDue_moves ..) (by decide)
  apply Moves.ite
  refine .step ?_ (State.pageGood_moves ..) (by decide)
  exact .refl ..
  refine .step ?_ (State.pageBad_moves ..) (by decide)
  exact .refl ..
  apply Moves.ite
  refine .step ?_ (State.resetDue_moves ..) (by decide)
  refine .step ?_ (State.flashEnd_moves ..) (by decide)
  exact .refl ..
  exact .refl ..

/-- What `execLcTransitionStepDone` may change: free, frozen, key, time, icu, adc, res, cmp, dac, rfm, lane, shed, hedCnt, pwm, trip, pad, loomCfg, fuseLoaded, gov, tmr, dma, dmaLast, core, ply, wld, seq, vrec, warp, crerus, queue, jrnl, flash, custody, lc, fuse, shadow, pwr, rst, clk, dbg, xspi, uart, i2c, mem; registers of PD 0, 1, 2, 3, 4, 5, 6, 7, 8, 9, 10, 11. -/
theorem execLcTransitionStepDone_moves (s : State) : ∃ s₁, execLcTransitionStepDone s = .next s₁ ∧ Moves 0x7ffffffff7ffffd s s₁ := by
  unfold execLcTransitionStepDone
  refine ⟨_, rfl, ?_⟩
  refine .step ?_ (State.lcStep_moves ..) (by decide)
  exact .refl ..

end Sys2Proof.Machine
end

