-- ==== Sys2Proof/Laws/RowsFlashRows.lean ====
section
/-!
SUPPORT. Every command of Machine/FlashRows.lean answers a next state, and what it may change.
-/

namespace Sys2Proof.Machine

/-- What `execFlashArm` may change: resp, icu, seq; registers of PD 2, 6. -/
theorem execFlashArm_moves (q : Who) (v : Word) (s : State) : ∃ s₁, execFlashArm q v s = .next s₁ ∧ Moves 0x11000008000022 s s₁ := by
  unfold execFlashArm
  refine ⟨_, rfl, ?_⟩
  refine .trans ?_ (State.via_moves _ _ _ _ ?_ (by decide))
  exact .refl ..
  intro u4_0
  refine .step ?_ (State.flcArm_moves ..) (by decide)
  exact .refl ..

/-- What `execFlashProgram` may change: resp, icu, seq, flash; registers of PD 2, 6. -/
theorem execFlashProgram_moves (q : Who) (s : State) : ∃ s₁, execFlashProgram q s = .next s₁ ∧ Moves 0x11000208000022 s s₁ := by
  unfold execFlashProgram
  refine ⟨_, rfl, ?_⟩
  refine .trans ?_ (State.via_moves _ _ _ _ ?_ (by decide))
  exact .refl ..
  intro u3_0
  refine .step ?_ (State.flcCmd_moves ..) (by decide)
  exact .refl ..

/-- What `execFlashErase` may change: resp, icu, seq, flash; registers of PD 2, 6. -/
theorem execFlashErase_moves (q : Who) (s : State) : ∃ s₁, execFlashErase q s = .next s₁ ∧ Moves 0x11000208000022 s s₁ := by
  unfold execFlashErase
  refine ⟨_, rfl, ?_⟩
  refine .trans ?_ (State.via_moves _ _ _ _ ?_ (by decide))
  exact .refl ..
  intro u3_0
  refine .step ?_ (State.flcCmd_moves ..) (by decide)
  exact .refl ..

/-- What `execFlashBadcmd` may change: resp, icu, seq, flash; registers of PD 2, 6. -/
theorem execFlashBadcmd_moves (q : Who) (three : Bool) (s : State) : ∃ s₁, execFlashBadcmd q three s = .next s₁ ∧ Moves 0x11000208000022 s s₁ := by
  unfold execFlashBadcmd
  refine ⟨_, rfl, ?_⟩
  refine .trans ?_ (State.via_moves _ _ _ _ ?_ (by decide))
  exact .refl ..
  intro u4_0
  refine .step ?_ (State.flcCmd_moves ..) (by decide)
  exact .refl ..

/-- What `execFlashSequenceLapse` may change: icu, seq; registers of PD 2, 6. -/
theorem execFlashSequenceLapse_moves (s : State) : ∃ s₁, execFlashSequenceLapse s = .next s₁ ∧ Moves 0x11000008000020 s s₁ := by
  unfold execFlashSequenceLapse
  refine ⟨_, rfl, ?_⟩
  apply Moves.ite
  refine .step ?_ (State.flcLapse_moves ..) (by decide)
  exact .refl ..
  exact .refl ..

end Sys2Proof.Machine
end

