-- ==== Sys2Proof/Laws/RowsGateRows.lean ====
section
/-!
SUPPORT. Every command of Machine/GateRows.lean answers a next state, and what it may change.
-/

namespace Sys2Proof.Machine

/-- What `execWgateEntry` may change: free, frozen, key, time, icu, adc, res, cmp, dac, rfm, lane, shed, hedCnt, pwm, trip, pad, loomCfg, fuseLoaded, gov, tmr, dma, dmaLast, health, core, ply, wld, seq, vrec, warp, crerus, queue, jrnl, flash, custody, lc, shadow, pwr, rst, clk, dbg, xspi, uart, i2c, mem; registers of PD 0, 1, 2, 3, 4, 5, 6, 7, 8, 9, 10, 11, 12. -/
theorem execWgateEntry_moves (c : Fin 3) (n : Fin 64) (s : State) : ∃ s₁, execWgateEntry c n s = .next s₁ ∧ Moves 0x7ffffeffffffffd s s₁ := by
  unfold execWgateEntry
  refine ⟨_, rfl, ?_⟩
  refine .trans ?_ (State.issue_moves _ _ _ _ ?_ (by decide))
  exact .refl ..
  intro u3_0
  apply Moves.ite
  refine .step ?_ (State.gateIllegal_moves ..) (by decide)
  exact .refl ..
  apply Moves.ite
  refine .step ?_ (State.gateExc_moves ..) (by decide)
  exact .refl ..
  split
  refine .step ?_ (State.gateRefuse_moves ..) (by decide)
  exact .refl ..
  refine .step ?_ (State.enterGate_moves ..) (by decide)
  exact .refl ..

/-- What `execWgateReturn` may change: free, frozen, key, time, icu, adc, res, cmp, dac, rfm, lane, shed, hedCnt, pwm, trip, pad, loomCfg, fuseLoaded, gov, tmr, dma, dmaLast, health, core, ply, wld, seq, vrec, warp, crerus, queue, jrnl, flash, custody, lc, shadow, pwr, rst, clk, dbg, xspi, uart, i2c, mem; registers of PD 0, 1, 2, 3, 4, 5, 6, 7, 8, 9, 10, 11, 12. -/
theorem execWgateReturn_moves (c : Fin 3) (s : State) : ∃ s₁, execWgateReturn c s = .next s₁ ∧ Moves 0x7ffffeffffffffd s s₁ := by
  unfold execWgateReturn
  refine ⟨_, rfl, ?_⟩
  refine .trans ?_ (State.issue_moves _ _ _ _ ?_ (by decide))
  exact .refl ..
  intro u3_0
  apply Moves.ite
  refine .step ?_ (State.gateIllegal_moves ..) (by decide)
  exact .refl ..
  apply Moves.ite
  refine .step ?_ (State.stepEnd_moves ..) (by decide)
  refine .step ?_ (State.endCall_moves ..) (by decide)
  refine .step ?_ (State.updCore_moves ..) (by decide)
  exact .refl ..
  refine .step ?_ (State.gateExc_moves ..) (by decide)
  exact .refl ..

/-- What `execWgateInfo` may change: free, frozen, key, time, icu, adc, res, cmp, dac, rfm, lane, shed, hedCnt, pwm, trip, pad, loomCfg, fuseLoaded, gov, tmr, dma, dmaLast, health, core, ply, wld, seq, vrec, warp, crerus, queue, jrnl, flash, custody, lc, shadow, pwr, rst, clk, dbg, xspi, uart, i2c, mem; registers of PD 0, 1, 2, 3, 4, 5, 6, 7, 8, 9, 10, 11, 12. -/
theorem execWgateInfo_moves (c : Fin 3) (s : State) : ∃ s₁, execWgateInfo c s = .next s₁ ∧ Moves 0x7ffffeffffffffd s s₁ := by
  unfold execWgateInfo
  refine ⟨_, rfl, ?_⟩
  refine .trans ?_ (State.issue_moves _ _ _ _ ?_ (by decide))
  exact .refl ..
  intro u3_0
  apply Moves.ite
  refine .step ?_ (State.gateIllegal_moves ..) (by decide)
  exact .refl ..
  refine .step ?_ (State.complete_moves ..) (by decide)
  exact .refl ..

/-- What `execWgateUnassigned` may change: free, frozen, key, time, icu, adc, res, cmp, dac, rfm, lane, shed, hedCnt, pwm, trip, pad, loomCfg, fuseLoaded, gov, tmr, dma, dmaLast, health, core, ply, wld, seq, vrec, warp, crerus, queue, jrnl, flash, custody, lc, shadow, pwr, rst, clk, dbg, xspi, uart, i2c, mem; registers of PD 0, 1, 2, 3, 4, 5, 6, 7, 8, 9, 10, 11, 12. -/
theorem execWgateUnassigned_moves (c : Fin 3) (idx : BitVec 16) (s : State) : ∃ s₁, execWgateUnassigned c idx s = .next s₁ ∧ Moves 0x7ffffeffffffffd s s₁ := by
  unfold execWgateUnassigned
  refine ⟨_, rfl, ?_⟩
  apply Moves.ite
  exact .refl ..
  refine .trans ?_ (State.issue_moves _ _ _ _ ?_ (by decide))
  exact .refl ..
  intro u3_0
  apply Moves.ite
  refine .step ?_ (State.gateIllegal_moves ..) (by decide)
  exact .refl ..
  refine .step ?_ (State.gateExc_moves ..) (by decide)
  exact .refl ..

/-- What `execSealedWatchdogExpiry` may change: icu, core, wld, vrec, mem; registers of PD 1, 3, 6. -/
theorem execSealedWatchdogExpiry_moves (s : State) : ∃ s₁, execSealedWatchdogExpiry s = .next s₁ ∧ Moves 0x12a00015000020 s s₁ := by
  unfold execSealedWatchdogExpiry
  refine ⟨_, rfl, ?_⟩
  apply Moves.ite
  extract_lets +onlyGivenNames v2
  refine Moves.bindV (v := v2) ?_ ?_
  unfold v2
  refine .step ?_ (State.set_moves (d := 3) rfl) (by decide)
  refine .step ?_ (State.raise_moves ..) (by decide)
  refine .step ?_ (State.set_moves (d := 3) rfl) (by decide)
  exact .refl ..
  intro hv2
  clear_value v2
  refine .step ?_ (State.journal_moves ..) (by decide)
  refine .step ?_ (State.beginLoad_moves ..) (by decide)
  refine .step ?_ (State.abortCall_moves ..) (by decide)
  refine .step ?_ (State.raise_moves ..) (by decide)
  assumption
  exact .refl ..

/-- What `execSealedReload` may change: resp, wld, mem; registers of PD 1, 3. -/
theorem execSealedReload_moves (q : Who) (v : Word) (s : State) : ∃ s₁, execSealedReload q v s = .next s₁ ∧ Moves 0x2a00004000002 s s₁ := by
  unfold execSealedReload
  refine ⟨_, rfl, ?_⟩
  refine .trans ?_ (State.via_moves _ _ _ _ ?_ (by decide))
  exact .refl ..
  intro u4_0
  apply Moves.ite
  refine .step ?_ (State.beginLoad_moves ..) (by decide)
  exact .refl ..
  exact .refl ..

/-- What `execSealedLoadComplete` may change: icu, health, core, wld, vrec, flash, mem; registers of PD 0, 2, 3, 6. -/
theorem execSealedLoadComplete_moves (s : State) : ∃ s₁, execSealedLoadComplete s = .next s₁ ∧ Moves 0x13600215800020 s s₁ := by
  unfold execSealedLoadComplete
  refine ⟨_, rfl, ?_⟩
  apply Moves.ite
  refine .step ?_ (State.loadEnds_moves ..) (by decide)
  exact .refl ..
  exact .refl ..

end Sys2Proof.Machine
end

