-- ==== Sys2Proof/Laws/RowsGovernorRows.lean ====
section
/-!
SUPPORT. Every command of Machine/GovernorRows.lean answers a next state, and what it may change.
-/

namespace Sys2Proof.Machine

/-- What `execGovernorSample` may change: free, icu, cmp, lane, shed, hedCnt, pwm, trip, gov, dma, vrec, crerus; registers of PD 0, 6, 7, 8, 10. -/
theorem execGovernorSample_moves (s : State) : ∃ s₁, execGovernorSample s = .next s₁ ∧ Moves 0x17040005028f921 s s₁ := by
  unfold execGovernorSample
  refine ⟨_, rfl, ?_⟩
  apply Moves.ite
  refine .step ?_ (State.govSample_moves ..) (by decide)
  exact .refl ..
  exact .refl ..

/-- What `execGovernorComputation` may change: free, icu, cmp, lane, shed, hedCnt, pwm, trip, gov, dma, vrec, crerus; registers of PD 0, 6, 7, 8, 10. -/
theorem execGovernorComputation_moves (s : State) : ∃ s₁, execGovernorComputation s = .next s₁ ∧ Moves 0x17040005028f921 s s₁ := by
  unfold execGovernorComputation
  refine ⟨_, rfl, ?_⟩
  apply Moves.ite
  refine .step ?_ (State.govCompute_moves ..) (by decide)
  exact .refl ..
  exact .refl ..

/-- What `execGovernorCeilingTimeout` may change: free, icu, cmp, lane, shed, hedCnt, pwm, trip, gov, dma, vrec, crerus; registers of PD 6, 7, 8, 10. -/
theorem execGovernorCeilingTimeout_moves (s : State) : ∃ s₁, execGovernorCeilingTimeout s = .next s₁ ∧ Moves 0x17000005028f921 s s₁ := by
  unfold execGovernorCeilingTimeout
  refine ⟨_, rfl, ?_⟩
  apply Moves.ite
  extract_lets +onlyGivenNames v3
  refine Moves.bindV (v := v3) ?_ ?_
  unfold v3
  refine .step ?_ (State.govFlag_moves (d := 6) rfl) (by decide)
  exact .refl ..
  intro hv3
  clear_value v3
  split
  refine .step ?_ (State.fire_moves ..) (by decide)
  refine .step ?_ (State.quality_moves ..) (by decide)
  refine .step ?_ (Moves.fst (State.govApply_moves ..) (by assumption)) (by decide)
  refine .step ?_ (State.upd_gov_moves ..) (by decide)
  assumption
  exact .refl ..

/-- What `execCapMeasurementTimeout` may change: icu, gov; registers of PD 6. -/
theorem execCapMeasurementTimeout_moves (s : State) : ∃ s₁, execCapMeasurementTimeout s = .next s₁ ∧ Moves 0x10000000080020 s s₁ := by
  unfold execCapMeasurementTimeout
  refine ⟨_, rfl, ?_⟩
  apply Moves.ite
  refine .step ?_ (State.capEnd_moves (d := 6) rfl) (by decide)
  exact .refl ..
  exact .refl ..

end Sys2Proof.Machine
end

