-- ==== Sys2Proof/Laws/RowsHealthRows.lean ====
section
/-!
SUPPORT. Every command of Machine/HealthRows.lean answers a next state, and what it may change.
-/

namespace Sys2Proof.Machine

/-- What `execThermalSample` may change: icu, health; registers of PD 0, 6. -/
theorem execThermalSample_moves (t : ℤ) (s : State) : ∃ s₁, execThermalSample t s = .next s₁ ∧ Moves 0x10400000800020 s s₁ := by
  unfold execThermalSample
  refine ⟨_, rfl, ?_⟩
  refine .step ?_ (State.thermal_moves ..) (by decide)
  exact .refl ..

/-- What `execAdvisoryRecord` may change: icu, health, vrec; registers of PD 6. -/
theorem execAdvisoryRecord_moves (s : State) : ∃ s₁, execAdvisoryRecord s = .next s₁ ∧ Moves 0x10000010800020 s s₁ := by
  unfold execAdvisoryRecord
  refine ⟨_, rfl, ?_⟩
  refine .step ?_ (State.advisoryRecord_moves ..) (by decide)
  exact .refl ..

/-- What `execBoardServiceSet` may change: icu, vrec; registers of PD 0, 6. -/
theorem execBoardServiceSet_moves (b : Fin 3) (s : State) : ∃ s₁, execBoardServiceSet b s = .next s₁ ∧ Moves 0x10400010000020 s s₁ := by
  unfold execBoardServiceSet
  refine ⟨_, rfl, ?_⟩
  refine .step ?_ (State.boardService_moves ..) (by decide)
  exact .refl ..

end Sys2Proof.Machine
end

