-- ==== Sys2Proof/Laws/RowsHostRows.lean ====
section
/-!
SUPPORT. Every command of Machine/HostRows.lean answers a next state, and what it may change.
-/

namespace Sys2Proof.Machine

/-- What `execXspiRead` may change: xspi. -/
theorem execXspiRead_moves (a : BitVec 32) (n : ℕ) (s : State) : ∃ s₁, execXspiRead a n s = .next s₁ ∧ Moves 0x40000000000 s s₁ := by
  unfold execXspiRead
  refine ⟨_, rfl, ?_⟩
  refine .trans ?_ (State.xspiDo_moves _ _ ?_ (by decide))
  exact .refl ..
  intro u4_0
  refine .step ?_ (State.drive_moves ..) (by decide)
  exact .refl ..

/-- What `execXspiWrite` may change: resp, frozen, icu, vrec, crerus, queue, pwr, xspi, mem; registers of PD 0, 1, 2, 3, 4, 5, 6, 7, 8, 9, 10, 11. -/
theorem execXspiWrite_moves (a : BitVec 32) (l : List (BitVec 8)) (s : State) : ∃ s₁, execXspiWrite a l s = .next s₁ ∧ Moves 0x7ffe440d0000026 s s₁ := by
  unfold execXspiWrite
  refine ⟨_, rfl, ?_⟩
  refine .trans ?_ (State.xspiDo_moves _ _ ?_ (by decide))
  exact .refl ..
  intro u4_0
  refine .step ?_ (State.hostWrite_moves ..) (by decide)
  exact .refl ..

/-- What `execXspiReadStatus` may change: xspi. -/
theorem execXspiReadStatus_moves (n : ℕ) (s : State) : ∃ s₁, execXspiReadStatus n s = .next s₁ ∧ Moves 0x40000000000 s s₁ := by
  unfold execXspiReadStatus
  refine ⟨_, rfl, ?_⟩
  refine .trans ?_ (State.xspiDo_moves _ _ ?_ (by decide))
  exact .refl ..
  intro u3_0
  refine .step ?_ (State.readStatus_moves ..) (by decide)
  exact .refl ..

/-- What `execXspiReadId` may change: xspi. -/
theorem execXspiReadId_moves (n : ℕ) (s : State) : ∃ s₁, execXspiReadId n s = .next s₁ ∧ Moves 0x40000000000 s s₁ := by
  unfold execXspiReadId
  refine ⟨_, rfl, ?_⟩
  refine .trans ?_ (State.xspiDo_moves _ _ ?_ (by decide))
  exact .refl ..
  intro u3_0
  refine .step ?_ (State.drive_moves ..) (by decide)
  exact .refl ..

/-- What `execXspiResetEnable` may change: xspi. -/
theorem execXspiResetEnable_moves (s : State) : ∃ s₁, execXspiResetEnable s = .next s₁ ∧ Moves 0x40000000000 s s₁ := by
  unfold execXspiResetEnable
  refine ⟨_, rfl, ?_⟩
  refine .trans ?_ (State.xspiDo_moves _ _ ?_ (by decide))
  exact .refl ..
  intro u2_0
  refine .step ?_ (State.upd_xspi_moves ..) (by decide)
  exact .refl ..

/-- What `execXspiReset` may change: xspi. -/
theorem execXspiReset_moves (s : State) : ∃ s₁, execXspiReset s = .next s₁ ∧ Moves 0x40000000000 s s₁ := by
  unfold execXspiReset
  refine ⟨_, rfl, ?_⟩
  apply Moves.ite
  refine .step ?_ (State.upd_xspi_moves ..) (by decide)
  exact .refl ..
  refine .trans ?_ (State.xspiDo_moves _ _ ?_ (by decide))
  exact .refl ..
  intro u2_0
  exact .refl ..

/-- What `execXspiUnknownCommand` may change: xspi. -/
theorem execXspiUnknownCommand_moves (a0 : BitVec 16) (s : State) : ∃ s₁, execXspiUnknownCommand a0 s = .next s₁ ∧ Moves 0x40000000000 s s₁ := by
  unfold execXspiUnknownCommand
  refine ⟨_, rfl, ?_⟩
  refine .trans ?_ (State.xspiDo_moves _ _ ?_ (by decide))
  exact .refl ..
  intro u3_0
  refine .step ?_ (State.drive_moves ..) (by decide)
  exact .refl ..

/-- What `execXspiModeChange` may change: xspi. -/
theorem execXspiModeChange_moves (s : State) : ∃ s₁, execXspiModeChange s = .next s₁ ∧ Moves 0x40000000000 s s₁ := by
  unfold execXspiModeChange
  refine ⟨_, rfl, ?_⟩
  split
  refine .step ?_ (State.upd_xspi_moves ..) (by decide)
  exact .refl ..
  exact .refl ..

/-- What `execMailboxBufferWrite` may change: resp, mem; registers of PD 1, 10. -/
theorem execMailboxBufferWrite_moves (q : Option Who) (n : Fin 8) (o : BitVec 9) (d : BitVec 8) (s : State) : ∃ s₁, execMailboxBufferWrite q n o d s = .next s₁ ∧ Moves 0x100a00000000002 s s₁ := by
  unfold execMailboxBufferWrite
  refine ⟨_, rfl, ?_⟩
  split
  apply Moves.ite
  refine .step ?_ (State.hostBuf_moves ..) (by decide)
  exact .refl ..
  exact .refl ..
  apply Moves.ite
  exact .refl ..
  refine .trans ?_ (State.via_moves _ _ _ _ ?_ (by decide))
  exact .refl ..
  intro u8_0
  apply Moves.ite
  refine .step ?_ (State.reply_moves ..) (by decide)
  exact .refl ..
  refine .step ?_ (State.localBuf_moves ..) (by decide)
  exact .refl ..

/-- What `execMailboxDoorbell` may change: resp, frozen, icu, vrec, crerus, queue, pwr, xspi, mem; registers of PD 0, 1, 2, 3, 4, 5, 6, 7, 8, 9, 10, 11. -/
theorem execMailboxDoorbell_moves (q : Option Who) (v : Word) (s : State) : ∃ s₁, execMailboxDoorbell q v s = .next s₁ ∧ Moves 0x7ffe440d0000026 s s₁ := by
  unfold execMailboxDoorbell
  refine ⟨_, rfl, ?_⟩
  split
  apply Moves.ite
  refine .step ?_ (State.hostWord_moves ..) (by decide)
  exact .refl ..
  exact .refl ..
  refine .trans ?_ (State.via_moves _ _ _ _ ?_ (by decide))
  exact .refl ..
  intro u6_0
  refine .step ?_ (State.writeMbx_moves ..) (by decide)
  exact .refl ..

/-- What `execMailboxAcknowledge` may change: resp, frozen, icu, vrec, crerus, queue, pwr, xspi, mem; registers of PD 0, 1, 2, 3, 4, 5, 6, 7, 8, 9, 10, 11. -/
theorem execMailboxAcknowledge_moves (q : Option Who) (v : Word) (s : State) : ∃ s₁, execMailboxAcknowledge q v s = .next s₁ ∧ Moves 0x7ffe440d0000026 s s₁ := by
  unfold execMailboxAcknowledge
  refine ⟨_, rfl, ?_⟩
  split
  apply Moves.ite
  refine .step ?_ (State.hostWord_moves ..) (by decide)
  exact .refl ..
  exact .refl ..
  refine .trans ?_ (State.via_moves _ _ _ _ ?_ (by decide))
  exact .refl ..
  intro u6_0
  refine .step ?_ (State.writeMbx_moves ..) (by decide)
  exact .refl ..

/-- What `execQueueSubmit` may change: crerus, queue, pwr; registers of PD 0, 10. -/
theorem execQueueSubmit_moves (v : Word) (s : State) : ∃ s₁, execQueueSubmit v s = .next s₁ ∧ Moves 0x1004040c0000000 s s₁ := by
  unfold execQueueSubmit
  refine ⟨_, rfl, ?_⟩
  apply Moves.ite
  refine .step ?_ (State.queueTail_moves ..) (by decide)
  exact .refl ..
  exact .refl ..

/-- What `execQueueConsume` may change: registers of PD 10. -/
theorem execQueueConsume_moves (v : Word) (s : State) : ∃ s₁, execQueueConsume v s = .next s₁ ∧ Moves 0x100000000000000 s s₁ := by
  unfold execQueueConsume
  refine ⟨_, rfl, ?_⟩
  apply Moves.ite
  refine .step ?_ (State.queueHead_moves ..) (by decide)
  exact .refl ..
  exact .refl ..

/-- What `execQueueReset` may change: queue, mem; registers of PD 10. -/
theorem execQueueReset_moves (v : Word) (s : State) : ∃ s₁, execQueueReset v s = .next s₁ ∧ Moves 0x100200080000000 s s₁ := by
  unfold execQueueReset
  refine ⟨_, rfl, ?_⟩
  apply Moves.ite
  refine .step ?_ (State.queueReset_moves ..) (by decide)
  exact .refl ..
  exact .refl ..

end Sys2Proof.Machine
end

