-- ==== Sys2Proof/Laws/RowsIcuRows.lean ====
section
/-!
SUPPORT. Every command of Machine/IcuRows.lean answers a next state, and what it may change.
-/

namespace Sys2Proof.Machine

/-- What `execIcuSourceEvent` may change: icu; registers of PD 6. -/
theorem execIcuSourceEvent_moves (n : Fin 224) (s : State) : ∃ s₁, execIcuSourceEvent n s = .next s₁ ∧ Moves 0x10000000000020 s s₁ := by
  unfold execIcuSourceEvent
  refine ⟨_, rfl, ?_⟩
  refine .step ?_ (State.raise_moves ..) (by decide)
  exact .refl ..

/-- What `execIcuCoalesceTimerExpiry` may change: icu. -/
theorem execIcuCoalesceTimerExpiry_moves (n : Fin 224) (s : State) : ∃ s₁, execIcuCoalesceTimerExpiry n s = .next s₁ ∧ Moves 0x20 s s₁ := by
  unfold execIcuCoalesceTimerExpiry
  refine ⟨_, rfl, ?_⟩
  apply Moves.ite
  refine .step ?_ (State.upd_icu_moves fun _ h => h) (by decide)
  exact .refl ..
  exact .refl ..

/-- What `execIcuHoldoffEnd` may change: icu. -/
theorem execIcuHoldoffEnd_moves (g : Fin 16) (s : State) : ∃ s₁, execIcuHoldoffEnd g s = .next s₁ ∧ Moves 0x20 s s₁ := by
  unfold execIcuHoldoffEnd
  refine ⟨_, rfl, ?_⟩
  refine .step ?_ (State.upd_icu_moves fun _ h => h) (by decide)
  exact .refl ..

/-- What `execIcuActclr` may change: resp, icu; registers of PD 6. -/
theorem execIcuActclr_moves (q : Who) (n : Fin 224) (s : State) : ∃ s₁, execIcuActclr q n s = .next s₁ ∧ Moves 0x10000000000022 s s₁ := by
  unfold execIcuActclr
  refine ⟨_, rfl, ?_⟩
  refine .trans ?_ (State.via_moves _ _ _ _ ?_ (by decide))
  exact .refl ..
  intro u4_0
  refine .step ?_ (State.writeIcuSts_moves ..) (by decide)
  exact .refl ..

/-- What `execIcuPendClear` may change: resp, icu; registers of PD 6. -/
theorem execIcuPendClear_moves (q : Who) (n : Fin 224) (s : State) : ∃ s₁, execIcuPendClear q n s = .next s₁ ∧ Moves 0x10000000000022 s s₁ := by
  unfold execIcuPendClear
  refine ⟨_, rfl, ?_⟩
  refine .trans ?_ (State.via_moves _ _ _ _ ?_ (by decide))
  exact .refl ..
  intro u4_0
  refine .step ?_ (State.writeIcuSts_moves ..) (by decide)
  exact .refl ..

/-- What `execIcuSgiSet` may change: resp, icu; registers of PD 6. -/
theorem execIcuSgiSet_moves (q : Who) (v : Word) (s : State) : ∃ s₁, execIcuSgiSet q v s = .next s₁ ∧ Moves 0x10000000000022 s s₁ := by
  unfold execIcuSgiSet
  refine ⟨_, rfl, ?_⟩
  refine .trans ?_ (State.via_moves _ _ _ _ ?_ (by decide))
  exact .refl ..
  intro u4_0
  refine .step ?_ (State.sgiSet_moves ..) (by decide)
  exact .refl ..

end Sys2Proof.Machine
end

