-- ==== Sys2Proof/Laws/RowsIoBus.lean ====
section
/-!
SUPPORT. Every command of Machine/IoBus.lean answers a next state, and what it may change.
-/

namespace Sys2Proof.Machine

/-- What `execRegisterWrite` may change: free, resp, frozen, key, time, icu, adc, res, cmp, dac, rfm, lane, shed, hedCnt, pwm, trip, pad, loomCfg, fuseLoaded, gov, tmr, dma, dmaLast, health, core, ply, wld, seq, vrec, warp, crerus, queue, jrnl, flash, custody, lc, shadow, pwr, rst, clk, dbg, xspi, uart, i2c, mem; registers of PD 0, 1, 2, 3, 4, 5, 6, 7, 8, 9, 10, 11. -/
theorem execRegisterWrite_moves (q : Who) (a : BitVec 20) (v : Word) (s : State) : ∃ s₁, execRegisterWrite q a v s = .next s₁ ∧ Moves 0x7ffffefffffffff s s₁ := by
  unfold execRegisterWrite
  refine ⟨_, rfl, ?_⟩
  refine .step ?_ (State.ioWrite_moves ..) (by decide)
  exact .refl ..

end Sys2Proof.Machine
end

