-- ==== Sys2Proof/Laws/RowsLaneRows.lean ====
section
/-!
SUPPORT. Every command of Machine/LaneRows.lean answers a next state, and what it may change.
-/

namespace Sys2Proof.Machine

/-- What `execLanePendingRunStart` may change: free, icu, cmp, lane, shed, hedCnt, pwm, trip, dma, vrec, crerus; registers of PD 6, 7, 8, 10. -/
theorem execLanePendingRunStart_moves (k : Fin 16) (s : State) : ∃ s₁, execLanePendingRunStart k s = .next s₁ ∧ Moves 0x17000005020f921 s s₁ := by
  unfold execLanePendingRunStart
  refine ⟨_, rfl, ?_⟩
  apply Moves.ite
  refine runWork_moves ?_ (by decide)
  refine .step ?_ (State.laneRun_moves ..) (by decide)
  refine .step ?_ (State.updLane_moves ..) (by decide)
  exact .refl ..
  refine .step ?_ (State.updLane_moves ..) (by decide)
  exact .refl ..

/-- What `execLaneMaxageExpiry` may change: free, icu, cmp, lane, shed, hedCnt, pwm, trip, dma, vrec, crerus; registers of PD 6, 7, 8, 10. -/
theorem execLaneMaxageExpiry_moves (k : Fin 16) (s : State) : ∃ s₁, execLaneMaxageExpiry k s = .next s₁ ∧ Moves 0x17000005020f921 s s₁ := by
  unfold execLaneMaxageExpiry
  refine ⟨_, rfl, ?_⟩
  apply Moves.ite
  refine fireAll_moves ?_ (by decide)
  refine .step ?_ (State.missBegin_moves ..) (by decide)
  exact .refl ..
  exact .refl ..

/-- What `execLaneEnable` may change: free, resp, frozen, icu, cmp, lane, shed, hedCnt, pwm, trip, dma, vrec, crerus; registers of PD 0, 1, 2, 3, 4, 5, 6, 7, 8, 9, 10, 11, 12. -/
theorem execLaneEnable_moves (q : Who) (k : Fin 16) (v : Word) (s : State) : ∃ s₁, execLaneEnable q k v s = .next s₁ ∧ Moves 0x7ffc0005020f927 s s₁ := by
  unfold execLaneEnable
  refine ⟨_, rfl, ?_⟩
  refine .trans ?_ (State.via_moves _ _ _ _ ?_ (by decide))
  exact .refl ..
  intro u3_0
  refine .step ?_ (State.writeLaneCtrl_moves ..) (by decide)
  exact .refl ..

/-- What `execLaneDisable` may change: free, resp, frozen, icu, cmp, lane, shed, hedCnt, pwm, trip, dma, vrec, crerus; registers of PD 0, 1, 2, 3, 4, 5, 6, 7, 8, 9, 10, 11, 12. -/
theorem execLaneDisable_moves (q : Who) (k : Fin 16) (v : Word) (s : State) : ∃ s₁, execLaneDisable q k v s = .next s₁ ∧ Moves 0x7ffc0005020f927 s s₁ := by
  unfold execLaneDisable
  refine ⟨_, rfl, ?_⟩
  refine .trans ?_ (State.via_moves _ _ _ _ ?_ (by decide))
  exact .refl ..
  intro u3_0
  refine .step ?_ (State.writeLaneCtrl_moves ..) (by decide)
  exact .refl ..

/-- What `execLaneUpd` may change: free, resp, frozen, icu, cmp, lane, shed, hedCnt, pwm, trip, dma, vrec, crerus; registers of PD 0, 1, 2, 3, 4, 5, 6, 7, 8, 9, 10, 11, 12. -/
theorem execLaneUpd_moves (q : Who) (k : Fin 16) (v : Word) (s : State) : ∃ s₁, execLaneUpd q k v s = .next s₁ ∧ Moves 0x7ffc0005020f927 s s₁ := by
  unfold execLaneUpd
  refine ⟨_, rfl, ?_⟩
  refine .trans ?_ (State.via_moves _ _ _ _ ?_ (by decide))
  exact .refl ..
  intro u3_0
  refine .step ?_ (State.writeLaneCtrl_moves ..) (by decide)
  exact .refl ..

/-- What `execLaneHclr` may change: free, resp, frozen, icu, cmp, lane, shed, hedCnt, pwm, trip, dma, vrec, crerus; registers of PD 0, 1, 2, 3, 4, 5, 6, 7, 8, 9, 10, 11, 12. -/
theorem execLaneHclr_moves (q : Who) (k : Fin 16) (v : Word) (s : State) : ∃ s₁, execLaneHclr q k v s = .next s₁ ∧ Moves 0x7ffc0005020f927 s s₁ := by
  unfold execLaneHclr
  refine ⟨_, rfl, ?_⟩
  refine .trans ?_ (State.via_moves _ _ _ _ ?_ (by decide))
  exact .refl ..
  intro u3_0
  refine .step ?_ (State.writeLaneCtrl_moves ..) (by decide)
  exact .refl ..

/-- What `execShedGroupEnable` may change: resp, frozen, icu, lane, shed, pwm, vrec; registers of PD 0, 1, 2, 3, 4, 5, 6, 7, 8, 9, 10, 11. -/
theorem execShedGroupEnable_moves (q : Who) (g : Fin 2) (v : Word) (s : State) : ∃ s₁, execShedGroupEnable q g v s = .next s₁ ∧ Moves 0x7ffc00010005826 s s₁ := by
  unfold execShedGroupEnable
  refine ⟨_, rfl, ?_⟩
  refine .trans ?_ (State.via_moves _ _ _ _ ?_ (by decide))
  exact .refl ..
  intro u5_0
  refine .step ?_ (State.writeShedCfg_moves ..) (by decide)
  exact .refl ..

/-- What `execHeddleDestinationWrite` may change: resp, frozen, icu, hedCnt, vrec; registers of PD 0, 1, 2, 3, 4, 5, 6, 7, 8, 9, 10, 11. -/
theorem execHeddleDestinationWrite_moves (q : Who) (n : Fin 96) (v : Word) (s : State) : ∃ s₁, execHeddleDestinationWrite q n v s = .next s₁ ∧ Moves 0x7ffc00010002026 s s₁ := by
  unfold execHeddleDestinationWrite
  refine ⟨_, rfl, ?_⟩
  refine .trans ?_ (State.via_moves _ _ _ _ ?_ (by decide))
  exact .refl ..
  intro u5_0
  refine .step ?_ (State.writeHedDst_moves ..) (by decide)
  exact .refl ..

/-- What `execHeddleSoftwareStrobe` may change: free, resp, icu, cmp, lane, shed, hedCnt, pwm, trip, dma, vrec, crerus; registers of PD 6, 7, 8, 10. -/
theorem execHeddleSoftwareStrobe_moves (q : Who) (m : BitVec 4) (s : State) : ∃ s₁, execHeddleSoftwareStrobe q m s = .next s₁ ∧ Moves 0x17000005020f923 s s₁ := by
  unfold execHeddleSoftwareStrobe
  refine ⟨_, rfl, ?_⟩
  refine .trans ?_ (State.via_moves _ _ _ _ ?_ (by decide))
  exact .refl ..
  intro u3_0
  refine .step ?_ (State.strobe_moves ..) (by decide)
  exact .refl ..

end Sys2Proof.Machine
end

