-- ==== Sys2Proof/Laws/RowsLcRows.lean ====
section
/-!
SUPPORT. Every command of Machine/LcRows.lean answers a next state, and what it may change.
-/

namespace Sys2Proof.Machine

/-- What `execSysKeyWrite` may change: resp, key. -/
theorem execSysKeyWrite_moves (q : Who) (v : Word) (s : State) : ∃ s₁, execSysKeyWrite q v s = .next s₁ ∧ Moves 0xa s s₁ := by
  unfold execSysKeyWrite
  refine ⟨_, rfl, ?_⟩
  refine .trans ?_ (State.via_moves _ _ _ _ ?_ (by decide))
  exact .refl ..
  intro u4_0
  refine .step ?_ (State.keyWrite_moves ..) (by decide)
  exact .refl ..

/-- What `execSysKeyUnlockExpiry` may change: key. -/
theorem execSysKeyUnlockExpiry_moves (q : Req) (s : State) : ∃ s₁, execSysKeyUnlockExpiry q s = .next s₁ ∧ Moves 0x8 s s₁ := by
  unfold execSysKeyUnlockExpiry
  refine ⟨_, rfl, ?_⟩
  refine .step ?_ (State.keyEnd_moves ..) (by decide)
  exact .refl ..

/-- What `execLcRequest` may change: resp, key, icu, core, lc; registers of PD 0, 6. -/
theorem execLcRequest_moves (q : Who) (v : Word) (s : State) : ∃ s₁, execLcRequest q v s = .next s₁ ∧ Moves 0x1040080100002a s s₁ := by
  unfold execLcRequest
  refine ⟨_, rfl, ?_⟩
  refine .trans ?_ (State.via_moves _ _ _ _ ?_ (by decide))
  exact .refl ..
  intro u4_0
  refine .step ?_ (State.writeLcsReq_moves ..) (by decide)
  exact .refl ..

/-- What `execLcScrapArm` may change: free, resp, frozen, key, time, icu, adc, res, cmp, dac, rfm, lane, shed, hedCnt, pwm, trip, pad, loomCfg, fuseLoaded, gov, tmr, dma, dmaLast, health, core, ply, wld, seq, vrec, warp, crerus, queue, jrnl, flash, custody, lc, shadow, pwr, rst, clk, dbg, xspi, uart, i2c, mem; registers of PD 0, 1, 2, 3, 4, 5, 6, 7, 8, 9, 10, 11, 12. -/
theorem execLcScrapArm_moves (q : Who) (s : State) : ∃ s₁, execLcScrapArm q s = .next s₁ ∧ Moves 0x7ffffefffffffff s s₁ := by
  unfold execLcScrapArm
  refine ⟨_, rfl, ?_⟩
  refine .trans ?_ (State.via_moves _ _ _ _ ?_ (by decide))
  exact .refl ..
  intro u3_0
  refine .step ?_ (State.writeScrap_moves ..) (by decide)
  exact .refl ..

/-- What `execLcScrapConfirm` may change: free, resp, frozen, key, time, icu, adc, res, cmp, dac, rfm, lane, shed, hedCnt, pwm, trip, pad, loomCfg, fuseLoaded, gov, tmr, dma, dmaLast, health, core, ply, wld, seq, vrec, warp, crerus, queue, jrnl, flash, custody, lc, shadow, pwr, rst, clk, dbg, xspi, uart, i2c, mem; registers of PD 0, 1, 2, 3, 4, 5, 6, 7, 8, 9, 10, 11, 12. -/
theorem execLcScrapConfirm_moves (q : Who) (v : Word) (s : State) : ∃ s₁, execLcScrapConfirm q v s = .next s₁ ∧ Moves 0x7ffffefffffffff s s₁ := by
  unfold execLcScrapConfirm
  refine ⟨_, rfl, ?_⟩
  refine .trans ?_ (State.via_moves _ _ _ _ ?_ (by decide))
  exact .refl ..
  intro u3_0
  refine .step ?_ (State.writeScrap_moves ..) (by decide)
  exact .refl ..

/-- What `execLcScrapTimeout` may change: seq. -/
theorem execLcScrapTimeout_moves (s : State) : ∃ s₁, execLcScrapTimeout s = .next s₁ ∧ Moves 0x8000000 s s₁ := by
  unfold execLcScrapTimeout
  refine ⟨_, rfl, ?_⟩
  refine .step ?_ (State.upd_seq_moves ..) (by decide)
  exact .refl ..

/-- What `execFuseProgram` may change: resp, key, icu, lc; registers of PD 0, 6. -/
theorem execFuseProgram_moves (q : Who) (s : State) : ∃ s₁, execFuseProgram q s = .next s₁ ∧ Moves 0x1040080000002a s s₁ := by
  unfold execFuseProgram
  refine ⟨_, rfl, ?_⟩
  refine .trans ?_ (State.via_moves _ _ _ _ ?_ (by decide))
  exact .refl ..
  intro u3_0
  refine .step ?_ (State.writeFcmd_moves ..) (by decide)
  exact .refl ..

/-- What `execFuseLockrow` may change: resp, key, icu, lc; registers of PD 0, 6. -/
theorem execFuseLockrow_moves (q : Who) (s : State) : ∃ s₁, execFuseLockrow q s = .next s₁ ∧ Moves 0x1040080000002a s s₁ := by
  unfold execFuseLockrow
  refine ⟨_, rfl, ?_⟩
  refine .trans ?_ (State.via_moves _ _ _ _ ?_ (by decide))
  exact .refl ..
  intro u3_0
  refine .step ?_ (State.writeFcmd_moves ..) (by decide)
  exact .refl ..

/-- What `execFuseProgramDone` may change: lc, fuse; registers of PD 0. -/
theorem execFuseProgramDone_moves (bad : Word) (s : State) : ∃ s₁, execFuseProgramDone bad s = .next s₁ ∧ Moves 0x401800000000 s s₁ := by
  unfold execFuseProgramDone
  refine ⟨_, rfl, ?_⟩
  refine .step ?_ (State.fuseEnd_moves ..) (by decide)
  exact .refl ..

end Sys2Proof.Machine
end

