-- ==== Sys2Proof/Laws/RowsMemRows.lean ====
section
/-!
SUPPORT. Every command of Machine/MemRows.lean answers a next state, and what it may change.
-/

namespace Sys2Proof.Machine

/-- What `execLdb` may change: free, frozen, key, time, icu, adc, res, cmp, dac, rfm, lane, shed, hedCnt, pwm, trip, pad, loomCfg, fuseLoaded, gov, tmr, dma, dmaLast, health, core, ply, wld, seq, vrec, warp, crerus, queue, jrnl, flash, custody, lc, shadow, pwr, rst, clk, dbg, xspi, uart, i2c, mem; registers of PD 0, 1, 2, 3, 4, 5, 6, 7, 8, 9, 10, 11. -/
theorem execLdb_moves (c : Fin 3) (rd : Fin 32) (base : Fin 32) (disp : BitVec 16) (s : State) : ∃ s₁, execLdb c rd base disp s = .next s₁ ∧ Moves 0x7ffffeffffffffd s s₁ := by
  unfold execLdb
  refine ⟨_, rfl, ?_⟩
  refine .step ?_ (State.load_moves ..) (by decide)
  exact .refl ..

/-- What `execLdbu` may change: free, frozen, key, time, icu, adc, res, cmp, dac, rfm, lane, shed, hedCnt, pwm, trip, pad, loomCfg, fuseLoaded, gov, tmr, dma, dmaLast, health, core, ply, wld, seq, vrec, warp, crerus, queue, jrnl, flash, custody, lc, shadow, pwr, rst, clk, dbg, xspi, uart, i2c, mem; registers of PD 0, 1, 2, 3, 4, 5, 6, 7, 8, 9, 10, 11. -/
theorem execLdbu_moves (c : Fin 3) (rd : Fin 32) (base : Fin 32) (disp : BitVec 16) (s : State) : ∃ s₁, execLdbu c rd base disp s = .next s₁ ∧ Moves 0x7ffffeffffffffd s s₁ := by
  unfold execLdbu
  refine ⟨_, rfl, ?_⟩
  refine .step ?_ (State.load_moves ..) (by decide)
  exact .refl ..

/-- What `execLdh` may change: free, frozen, key, time, icu, adc, res, cmp, dac, rfm, lane, shed, hedCnt, pwm, trip, pad, loomCfg, fuseLoaded, gov, tmr, dma, dmaLast, health, core, ply, wld, seq, vrec, warp, crerus, queue, jrnl, flash, custody, lc, shadow, pwr, rst, clk, dbg, xspi, uart, i2c, mem; registers of PD 0, 1, 2, 3, 4, 5, 6, 7, 8, 9, 10, 11. -/
theorem execLdh_moves (c : Fin 3) (rd : Fin 32) (base : Fin 32) (disp : BitVec 16) (s : State) : ∃ s₁, execLdh c rd base disp s = .next s₁ ∧ Moves 0x7ffffeffffffffd s s₁ := by
  unfold execLdh
  refine ⟨_, rfl, ?_⟩
  refine .step ?_ (State.load_moves ..) (by decide)
  exact .refl ..

/-- What `execLdhu` may change: free, frozen, key, time, icu, adc, res, cmp, dac, rfm, lane, shed, hedCnt, pwm, trip, pad, loomCfg, fuseLoaded, gov, tmr, dma, dmaLast, health, core, ply, wld, seq, vrec, warp, crerus, queue, jrnl, flash, custody, lc, shadow, pwr, rst, clk, dbg, xspi, uart, i2c, mem; registers of PD 0, 1, 2, 3, 4, 5, 6, 7, 8, 9, 10, 11. -/
theorem execLdhu_moves (c : Fin 3) (rd : Fin 32) (base : Fin 32) (disp : BitVec 16) (s : State) : ∃ s₁, execLdhu c rd base disp s = .next s₁ ∧ Moves 0x7ffffeffffffffd s s₁ := by
  unfold execLdhu
  refine ⟨_, rfl, ?_⟩
  refine .step ?_ (State.load_moves ..) (by decide)
  exact .refl ..

/-- What `execLdw` may change: free, frozen, key, time, icu, adc, res, cmp, dac, rfm, lane, shed, hedCnt, pwm, trip, pad, loomCfg, fuseLoaded, gov, tmr, dma, dmaLast, health, core, ply, wld, seq, vrec, warp, crerus, queue, jrnl, flash, custody, lc, shadow, pwr, rst, clk, dbg, xspi, uart, i2c, mem; registers of PD 0, 1, 2, 3, 4, 5, 6, 7, 8, 9, 10, 11. -/
theorem execLdw_moves (c : Fin 3) (rd : Fin 32) (base : Fin 32) (disp : BitVec 16) (s : State) : ∃ s₁, execLdw c rd base disp s = .next s₁ ∧ Moves 0x7ffffeffffffffd s s₁ := by
  unfold execLdw
  refine ⟨_, rfl, ?_⟩
  refine .step ?_ (State.load_moves ..) (by decide)
  exact .refl ..

/-- What `execStb` may change: free, frozen, key, time, icu, adc, res, cmp, dac, rfm, lane, shed, hedCnt, pwm, trip, pad, loomCfg, fuseLoaded, gov, tmr, dma, dmaLast, health, core, ply, wld, seq, vrec, warp, crerus, queue, jrnl, flash, custody, lc, shadow, pwr, rst, clk, dbg, xspi, uart, i2c, mem; registers of PD 0, 1, 2, 3, 4, 5, 6, 7, 8, 9, 10, 11. -/
theorem execStb_moves (c : Fin 3) (rs : Fin 32) (base : Fin 32) (disp : BitVec 16) (s : State) : ∃ s₁, execStb c rs base disp s = .next s₁ ∧ Moves 0x7ffffeffffffffd s s₁ := by
  unfold execStb
  refine ⟨_, rfl, ?_⟩
  refine .step ?_ (State.store_moves ..) (by decide)
  exact .refl ..

/-- What `execSth` may change: free, frozen, key, time, icu, adc, res, cmp, dac, rfm, lane, shed, hedCnt, pwm, trip, pad, loomCfg, fuseLoaded, gov, tmr, dma, dmaLast, health, core, ply, wld, seq, vrec, warp, crerus, queue, jrnl, flash, custody, lc, shadow, pwr, rst, clk, dbg, xspi, uart, i2c, mem; registers of PD 0, 1, 2, 3, 4, 5, 6, 7, 8, 9, 10, 11. -/
theorem execSth_moves (c : Fin 3) (rs : Fin 32) (base : Fin 32) (disp : BitVec 16) (s : State) : ∃ s₁, execSth c rs base disp s = .next s₁ ∧ Moves 0x7ffffeffffffffd s s₁ := by
  unfold execSth
  refine ⟨_, rfl, ?_⟩
  refine .step ?_ (State.store_moves ..) (by decide)
  exact .refl ..

/-- What `execStw` may change: free, frozen, key, time, icu, adc, res, cmp, dac, rfm, lane, shed, hedCnt, pwm, trip, pad, loomCfg, fuseLoaded, gov, tmr, dma, dmaLast, health, core, ply, wld, seq, vrec, warp, crerus, queue, jrnl, flash, custody, lc, shadow, pwr, rst, clk, dbg, xspi, uart, i2c, mem; registers of PD 0, 1, 2, 3, 4, 5, 6, 7, 8, 9, 10, 11. -/
theorem execStw_moves (c : Fin 3) (rs : Fin 32) (base : Fin 32) (disp : BitVec 16) (s : State) : ∃ s₁, execStw c rs base disp s = .next s₁ ∧ Moves 0x7ffffeffffffffd s s₁ := by
  unfold execStw
  refine ⟨_, rfl, ?_⟩
  refine .step ?_ (State.store_moves ..) (by decide)
  exact .refl ..

/-- What `execLdx` may change: free, frozen, key, time, icu, adc, res, cmp, dac, rfm, lane, shed, hedCnt, pwm, trip, pad, loomCfg, fuseLoaded, gov, tmr, dma, dmaLast, health, core, ply, wld, seq, vrec, warp, crerus, queue, jrnl, flash, custody, lc, shadow, pwr, rst, clk, dbg, xspi, uart, i2c, mem; registers of PD 0, 1, 2, 3, 4, 5, 6, 7, 8, 9, 10, 11, 12. -/
theorem execLdx_moves (c : Fin 3) (rd : Fin 32) (base : Fin 32) (disp : BitVec 16) (s : State) : ∃ s₁, execLdx c rd base disp s = .next s₁ ∧ Moves 0x7ffffeffffffffd s s₁ := by
  unfold execLdx
  refine ⟨_, rfl, ?_⟩
  refine .trans ?_ (State.issue_moves _ _ _ _ ?_ (by decide))
  exact .refl ..
  intro u3_0
  refine .trans ?_ (State.pairChecked_moves _ _ _ _ _ ?_ (by decide))
  exact .refl ..
  intro u4_0
  refine .step ?_ (State.goLoadx_moves ..) (by decide)
  refine .step ?_ (State.updCore_moves ..) (by decide)
  refine .step ?_ (State.dataWait_moves ..) (by decide)
  exact .refl ..

/-- What `execStx` may change: free, frozen, key, time, icu, adc, res, cmp, dac, rfm, lane, shed, hedCnt, pwm, trip, pad, loomCfg, fuseLoaded, gov, tmr, dma, dmaLast, health, core, ply, wld, seq, vrec, warp, crerus, queue, jrnl, flash, custody, lc, shadow, pwr, rst, clk, dbg, xspi, uart, i2c, mem; registers of PD 0, 1, 2, 3, 4, 5, 6, 7, 8, 9, 10, 11, 12. -/
theorem execStx_moves (c : Fin 3) (rs : Fin 32) (base : Fin 32) (disp : BitVec 16) (s : State) : ∃ s₁, execStx c rs base disp s = .next s₁ ∧ Moves 0x7ffffeffffffffd s s₁ := by
  unfold execStx
  refine ⟨_, rfl, ?_⟩
  refine .trans ?_ (State.issue_moves _ _ _ _ ?_ (by decide))
  exact .refl ..
  intro u3_0
  refine .trans ?_ (State.pairChecked_moves _ _ _ _ _ ?_ (by decide))
  exact .refl ..
  intro u4_0
  refine .step ?_ (State.goStorex_moves ..) (by decide)
  apply Moves.ite
  refine .step ?_ (State.dataWait_moves ..) (by decide)
  exact .refl ..
  exact .refl ..

/-- What `execIold` may change: free, resp, frozen, key, time, icu, adc, res, cmp, dac, rfm, lane, shed, hedCnt, pwm, trip, pad, loomCfg, fuseLoaded, gov, tmr, dma, dmaLast, health, core, ply, wld, seq, vrec, warp, crerus, queue, jrnl, flash, custody, lc, shadow, pwr, rst, clk, dbg, xspi, uart, i2c, mem; registers of PD 0, 1, 2, 3, 4, 5, 6, 7, 8, 9, 10, 11, 12. -/
theorem execIold_moves (c : Fin 3) (rd : Fin 32) (base : Fin 32) (disp : BitVec 16) (s : State) : ∃ s₁, execIold c rd base disp s = .next s₁ ∧ Moves 0x7ffffefffffffff s s₁ := by
  unfold execIold
  refine ⟨_, rfl, ?_⟩
  refine .trans ?_ (State.issue_moves _ _ _ _ ?_ (by decide))
  exact .refl ..
  intro u3_0
  refine .trans ?_ (State.ioChecked_moves _ _ _ _ _ ?_ (by decide))
  exact .refl ..
  intro u4_0
  refine .step ?_ (State.goIoLoad_moves ..) (by decide)
  refine .step ?_ (State.ioWait_moves ..) (by decide)
  exact .refl ..

/-- What `execIost` may change: free, resp, frozen, key, time, icu, adc, res, cmp, dac, rfm, lane, shed, hedCnt, pwm, trip, pad, loomCfg, fuseLoaded, gov, tmr, dma, dmaLast, health, core, ply, wld, seq, vrec, warp, crerus, queue, jrnl, flash, custody, lc, shadow, pwr, rst, clk, dbg, xspi, uart, i2c, mem; registers of PD 0, 1, 2, 3, 4, 5, 6, 7, 8, 9, 10, 11, 12. -/
theorem execIost_moves (c : Fin 3) (rs : Fin 32) (base : Fin 32) (disp : BitVec 16) (s : State) : ∃ s₁, execIost c rs base disp s = .next s₁ ∧ Moves 0x7ffffefffffffff s s₁ := by
  unfold execIost
  refine ⟨_, rfl, ?_⟩
  refine .trans ?_ (State.issue_moves _ _ _ _ ?_ (by decide))
  exact .refl ..
  intro u3_0
  refine .trans ?_ (State.ioChecked_moves _ _ _ _ _ ?_ (by decide))
  exact .refl ..
  intro u4_0
  refine .step ?_ (State.goIoStore_moves ..) (by decide)
  refine .step ?_ (State.ioWait_moves ..) (by decide)
  exact .refl ..

/-- What `execTld` may change: free, frozen, key, time, icu, adc, res, cmp, dac, rfm, lane, shed, hedCnt, pwm, trip, pad, loomCfg, fuseLoaded, gov, tmr, dma, dmaLast, health, core, ply, wld, seq, vrec, warp, crerus, queue, jrnl, flash, custody, lc, shadow, pwr, rst, clk, dbg, xspi, uart, i2c, mem; registers of PD 0, 1, 2, 3, 4, 5, 6, 7, 8, 9, 10, 11. -/
theorem execTld_moves (c : Fin 3) (t : Fin 8) (gs : Fin 32) (base : Fin 32) (disp : BitVec 12) (stop : ℕ) (s : State) : ∃ s₁, execTld c t gs base disp stop s = .next s₁ ∧ Moves 0x7ffffeffffffffd s s₁ := by
  unfold execTld
  refine ⟨_, rfl, ?_⟩
  refine .step ?_ (State.tileMove_moves ..) (by decide)
  exact .refl ..

/-- What `execTst` may change: free, frozen, key, time, icu, adc, res, cmp, dac, rfm, lane, shed, hedCnt, pwm, trip, pad, loomCfg, fuseLoaded, gov, tmr, dma, dmaLast, health, core, ply, wld, seq, vrec, warp, crerus, queue, jrnl, flash, custody, lc, shadow, pwr, rst, clk, dbg, xspi, uart, i2c, mem; registers of PD 0, 1, 2, 3, 4, 5, 6, 7, 8, 9, 10, 11. -/
theorem execTst_moves (c : Fin 3) (t : Fin 8) (gs : Fin 32) (base : Fin 32) (disp : BitVec 12) (stop : ℕ) (s : State) : ∃ s₁, execTst c t gs base disp stop s = .next s₁ ∧ Moves 0x7ffffeffffffffd s s₁ := by
  unfold execTst
  refine ⟨_, rfl, ?_⟩
  refine .step ?_ (State.tileMove_moves ..) (by decide)
  exact .refl ..

/-- What `execTsave` may change: free, frozen, key, time, icu, adc, res, cmp, dac, rfm, lane, shed, hedCnt, pwm, trip, pad, loomCfg, fuseLoaded, gov, tmr, dma, dmaLast, health, core, ply, wld, seq, vrec, warp, crerus, queue, jrnl, flash, custody, lc, shadow, pwr, rst, clk, dbg, xspi, uart, i2c, mem; registers of PD 0, 1, 2, 3, 4, 5, 6, 7, 8, 9, 10, 11. -/
theorem execTsave_moves (c : Fin 3) (acc : Bool) (t : Fin 8) (base : Fin 32) (disp : BitVec 12) (stop : ℕ) (s : State) : ∃ s₁, execTsave c acc t base disp stop s = .next s₁ ∧ Moves 0x7ffffeffffffffd s s₁ := by
  unfold execTsave
  refine ⟨_, rfl, ?_⟩
  refine .step ?_ (State.tileSave_moves ..) (by decide)
  exact .refl ..

/-- What `execTrest` may change: free, frozen, key, time, icu, adc, res, cmp, dac, rfm, lane, shed, hedCnt, pwm, trip, pad, loomCfg, fuseLoaded, gov, tmr, dma, dmaLast, health, core, ply, wld, seq, vrec, warp, crerus, queue, jrnl, flash, custody, lc, shadow, pwr, rst, clk, dbg, xspi, uart, i2c, mem; registers of PD 0, 1, 2, 3, 4, 5, 6, 7, 8, 9, 10, 11. -/
theorem execTrest_moves (c : Fin 3) (acc : Bool) (t : Fin 8) (base : Fin 32) (disp : BitVec 12) (stop : ℕ) (s : State) : ∃ s₁, execTrest c acc t base disp stop s = .next s₁ ∧ Moves 0x7ffffeffffffffd s s₁ := by
  unfold execTrest
  refine ⟨_, rfl, ?_⟩
  refine .step ?_ (State.tileSave_moves ..) (by decide)
  exact .refl ..

/-- What `execAccessRetryReissue` may change: free, resp, frozen, key, time, icu, adc, res, cmp, dac, rfm, lane, shed, hedCnt, pwm, trip, pad, loomCfg, fuseLoaded, gov, tmr, dma, dmaLast, health, core, ply, wld, seq, vrec, warp, crerus, queue, jrnl, flash, custody, lc, shadow, pwr, rst, clk, dbg, xspi, uart, i2c, mem; registers of PD 0, 1, 2, 3, 4, 5, 6, 7, 8, 9, 10, 11. -/
theorem execAccessRetryReissue_moves (c : Fin 3) (s : State) : ∃ s₁, execAccessRetryReissue c s = .next s₁ ∧ Moves 0x7ffffefffffffff s s₁ := by
  unfold execAccessRetryReissue
  refine ⟨_, rfl, ?_⟩
  apply Moves.ite
  refine .step ?_ (State.reissue_moves ..) (by decide)
  exact .refl ..
  exact .refl ..

end Sys2Proof.Machine
end

