-- ==== Sys2Proof/Laws/RowsPlyRows.lean ====
section
/-!
SUPPORT. Every command of Machine/PlyRows.lean answers a next state, and what it may change.
-/

namespace Sys2Proof.Machine

/-- What `execPlyUnrecoverableFault` may change: free, frozen, key, time, icu, adc, res, cmp, dac, rfm, lane, shed, hedCnt, pwm, trip, pad, loomCfg, fuseLoaded, gov, tmr, dma, dmaLast, health, core, ply, wld, seq, vrec, warp, crerus, queue, jrnl, flash, custody, lc, shadow, pwr, rst, clk, dbg, xspi, uart, i2c, mem; registers of PD 0, 1, 2, 3, 4, 5, 6, 7, 8, 9, 10, 11, 12. -/
theorem execPlyUnrecoverableFault_moves (cause : Fin 6) (s : State) : ∃ s₁, execPlyUnrecoverableFault cause s = .next s₁ ∧ Moves 0x7ffffeffffffffd s s₁ := by
  unfold execPlyUnrecoverableFault
  refine ⟨_, rfl, ?_⟩
  apply Moves.ite
  exact .refl ..
  refine .step ?_ (State.resyncWindow_moves ..) (by decide)
  refine .step ?_ (State.plyFault_moves ..) (by decide)
  exact .refl ..

/-- What `execPlyMismatch` may change: free, frozen, key, time, icu, adc, res, cmp, dac, rfm, lane, shed, hedCnt, pwm, trip, pad, loomCfg, fuseLoaded, gov, tmr, dma, dmaLast, health, core, ply, wld, seq, vrec, warp, crerus, queue, jrnl, flash, custody, lc, shadow, pwr, rst, clk, dbg, xspi, uart, i2c, mem; registers of PD 0, 1, 2, 3, 4, 5, 6, 7, 8, 9, 10, 11, 12. -/
theorem execPlyMismatch_moves (ab : BitVec 7) (ac : BitVec 7) (bc : BitVec 7) (s : State) : ∃ s₁, execPlyMismatch ab ac bc s = .next s₁ ∧ Moves 0x7ffffeffffffffd s s₁ := by
  unfold execPlyMismatch
  refine ⟨_, rfl, ?_⟩
  apply Moves.ite
  refine .step ?_ (State.mismatch_moves ..) (by decide)
  exact .refl ..
  exact .refl ..

/-- What `execPlyResyncCopyDone` may change: core, ply. -/
theorem execPlyResyncCopyDone_moves (s : State) : ∃ s₁, execPlyResyncCopyDone s = .next s₁ ∧ Moves 0x3000000 s s₁ := by
  unfold execPlyResyncCopyDone
  refine ⟨_, rfl, ?_⟩
  apply Moves.ite
  refine .step ?_ (State.updCore_moves ..) (by decide)
  refine .step ?_ (State.upd_ply_moves ..) (by decide)
  exact .refl ..
  exact .refl ..

/-- What `execPlyResyncComplete` may change: icu; registers of PD 0, 6. -/
theorem execPlyResyncComplete_moves (s : State) : ∃ s₁, execPlyResyncComplete s = .next s₁ ∧ Moves 0x10400000000020 s s₁ := by
  refine ⟨_, rfl, ?_⟩
  apply Moves.ite
  · exact .step (.step (.step (.step (.refl ..) (State.set_moves (d := 0) rfl) (by decide))
      (State.set_moves (d := 0) rfl) (by decide))
      (State.inc_moves (d := 0) (by unfold rscnt; (repeat' split) <;> rfl)) (by decide)) (State.raise_moves ..) (by decide)
  · exact .refl ..

/-- What `execPlyScrub` may change: free, frozen, key, time, icu, adc, res, cmp, dac, rfm, lane, shed, hedCnt, pwm, trip, pad, loomCfg, fuseLoaded, gov, tmr, dma, dmaLast, health, core, ply, wld, seq, vrec, warp, crerus, queue, jrnl, flash, custody, lc, shadow, pwr, rst, clk, dbg, xspi, uart, i2c, mem; registers of PD 0, 1, 2, 3, 4, 5, 6, 7, 8, 9, 10, 11, 12. -/
theorem execPlyScrub_moves (s : State) : ∃ s₁, execPlyScrub s = .next s₁ ∧ Moves 0x7ffffeffffffffd s s₁ := by
  unfold execPlyScrub
  refine ⟨_, rfl, ?_⟩
  apply Moves.ite
  refine .step ?_ (State.scrub_moves ..) (by decide)
  exact .refl ..
  exact .refl ..

/-- What `execPlySplitComplete` may change: icu, core; registers of PD 0, 6. -/
theorem execPlySplitComplete_moves (s : State) : ∃ s₁, execPlySplitComplete s = .next s₁ ∧ Moves 0x10400001000020 s s₁ := by
  unfold execPlySplitComplete
  refine ⟨_, rfl, ?_⟩
  apply Moves.ite
  extract_lets +onlyGivenNames v2
  clear_value v2
  extract_lets +onlyGivenNames v3
  refine Moves.bindV (v := v3) ?_ ?_
  unfold v3
  refine Moves.foldl ?_ ?_
  exact .refl ..
  intro u4_0 u4_1
  refine .step ?_ (State.updCore_moves ..) (by decide)
  exact .refl ..
  intro hv3
  clear_value v3
  refine .step ?_ (State.raise_moves ..) (by decide)
  refine .step ?_ (State.set_moves (d := 0) rfl) (by decide)
  refine .step ?_ (State.set_moves (d := 0) rfl) (by decide)
  assumption
  exact .refl ..

/-- What `execPlyJoinTcmCopyDone` may change: ply, mem. -/
theorem execPlyJoinTcmCopyDone_moves (s : State) : ∃ s₁, execPlyJoinTcmCopyDone s = .next s₁ ∧ Moves 0x200002000000 s s₁ := by
  unfold execPlyJoinTcmCopyDone
  refine ⟨_, rfl, ?_⟩
  apply Moves.ite
  extract_lets +onlyGivenNames v2
  clear_value v2
  extract_lets +onlyGivenNames v3
  refine Moves.bindV (v := v3) ?_ ?_
  unfold v3
  refine Moves.foldl ?_ ?_
  exact .refl ..
  intro u4_0 u4_1
  refine .step ?_ (State.copyTcms_moves ..) (by decide)
  exact .refl ..
  intro hv3
  clear_value v3
  refine .step ?_ (State.upd_ply_moves ..) (by decide)
  assumption
  exact .refl ..

/-- What `execPlyJoinComplete` may change: icu, core, ply; registers of PD 0, 6. -/
theorem execPlyJoinComplete_moves (s : State) : ∃ s₁, execPlyJoinComplete s = .next s₁ ∧ Moves 0x10400003000020 s s₁ := by
  unfold execPlyJoinComplete
  refine ⟨_, rfl, ?_⟩
  apply Moves.ite
  extract_lets +onlyGivenNames v2
  clear_value v2
  extract_lets +onlyGivenNames v3
  refine Moves.bindV (v := v3) ?_ ?_
  unfold v3
  refine Moves.foldl ?_ ?_
  exact .refl ..
  intro u4_0 u4_1
  refine .step ?_ (State.updCore_moves ..) (by decide)
  exact .refl ..
  intro hv3
  clear_value v3
  extract_lets +onlyGivenNames v5
  refine Moves.bindV (v := v5) ?_ ?_
  unfold v5
  refine .step ?_ (State.updCore_moves ..) (by decide)
  assumption
  intro hv5
  clear_value v5
  extract_lets +onlyGivenNames v7
  refine Moves.bindV (v := v7) ?_ ?_
  unfold v7
  refine Moves.foldl ?_ ?_
  assumption
  intro u8_0 u8_1
  refine .step ?_ (State.set_moves (d := 0) (by split <;> rfl)) (by decide)
  exact .refl ..
  intro hv7
  clear_value v7
  extract_lets +onlyGivenNames v9
  clear_value v9
  extract_lets +onlyGivenNames v10
  refine Moves.bindV (v := v10) ?_ ?_
  unfold v10
  refine .step ?_ (State.upd_ply_moves ..) (by decide)
  assumption
  intro hv10
  clear_value v10
  refine .step ?_ (State.raise_moves ..) (by decide)
  refine .step ?_ (State.set_moves (d := 0) rfl) (by decide)
  refine .step ?_ (State.set_moves (d := 0) rfl) (by decide)
  refine .step ?_ (State.set_moves (d := 0) rfl) (by decide)
  assumption
  exact .refl ..

/-- What `execPlyWatchdogKick` may change: resp, ply. -/
theorem execPlyWatchdogKick_moves (q : Who) (v : Word) (s : State) : ∃ s₁, execPlyWatchdogKick q v s = .next s₁ ∧ Moves 0x2000002 s s₁ := by
  unfold execPlyWatchdogKick
  refine ⟨_, rfl, ?_⟩
  refine .trans ?_ (State.via_moves _ _ _ _ ?_ (by decide))
  exact .refl ..
  intro u4_0
  refine .step ?_ (State.wdKick_moves ..) (by decide)
  exact .refl ..

/-- What `execPlyWatchdogWarning` may change: icu, ply; registers of PD 6. -/
theorem execPlyWatchdogWarning_moves (c : Fin 3) (s : State) : ∃ s₁, execPlyWatchdogWarning c s = .next s₁ ∧ Moves 0x10000002000020 s s₁ := by
  unfold execPlyWatchdogWarning
  refine ⟨_, rfl, ?_⟩
  apply Moves.ite
  refine .step ?_ (State.raise_moves ..) (by decide)
  refine .step ?_ (State.upd_ply_moves ..) (by decide)
  exact .refl ..
  exact .refl ..

/-- What `execPlyWatchdogExpiry` may change: free, frozen, key, time, icu, adc, res, cmp, dac, rfm, lane, shed, hedCnt, pwm, trip, pad, loomCfg, fuseLoaded, gov, tmr, dma, dmaLast, health, core, ply, wld, seq, vrec, warp, crerus, queue, jrnl, flash, custody, lc, shadow, pwr, rst, clk, dbg, xspi, uart, i2c, mem; registers of PD 0, 1, 2, 3, 4, 5, 6, 7, 8, 9, 10, 11, 12. -/
theorem execPlyWatchdogExpiry_moves (c : Fin 3) (s : State) : ∃ s₁, execPlyWatchdogExpiry c s = .next s₁ ∧ Moves 0x7ffffeffffffffd s s₁ := by
  unfold execPlyWatchdogExpiry
  refine ⟨_, rfl, ?_⟩
  apply Moves.ite
  refine .step ?_ (State.resyncWindow_moves ..) (by decide)
  refine .step ?_ (State.plyFault_moves ..) (by decide)
  exact .refl ..
  exact .refl ..

end Sys2Proof.Machine
end

