-- ==== Sys2Proof/Laws/RowsPowerLate.lean ====
section
/-!
SUPPORT. Every command of Machine/PowerLate.lean answers a next state, and what it may change.
-/

namespace Sys2Proof.Machine

/-- What `execDoPowerState` may change: frozen, time, icu, adc, res, cmp, dac, rfm, lane, shed, hedCnt, pwm, trip, loomCfg, gov, tmr, dma, dmaLast, core, wld, warp, crerus, queue, jrnl, custody, pwr, xspi, uart, i2c, mem; registers of PD 0, 1, 2, 3, 4, 5, 6, 7, 8, 9, 10, 11. -/
theorem execDoPowerState_moves (s : State) : ∃ s₁, execDoPowerState s = .next s₁ ∧ Moves 0x7fffc45e57afff4 s s₁ := by
  unfold execDoPowerState
  refine ⟨_, rfl, ?_⟩
  refine .trans ?_ (State.serve_moves _ _ _ ?_ (by decide))
  exact .refl ..
  intro u2_0 u2_1
  refine .step ?_ (State.powerRequest_moves ..) (by decide)
  exact .refl ..

/-- What `execPowerEntryContinue` may change: free, time, icu, cmp, lane, shed, hedCnt, pwm, trip, pad, tmr, dma, wld, vrec, warp, crerus, jrnl, flash, pwr, mem; registers of PD 0, 1, 2, 6, 7, 8, 10. -/
theorem execPowerEntryContinue_moves (s : State) : ∃ s₁, execPowerEntryContinue s = .next s₁ ∧ Moves 0x171e0437431f931 s s₁ := by
  unfold execPowerEntryContinue
  refine ⟨_, rfl, ?_⟩
  split
  refine .step ?_ (State.entryStep_moves ..) (by decide)
  exact .refl ..
  exact .refl ..

/-- What `execDomainPowerUpComplete` may change: free, resp, frozen, icu, cmp, dac, lane, shed, hedCnt, pwm, trip, pad, loomCfg, gov, tmr, dma, vrec, warp, crerus, custody, pwr, uart, i2c; registers of PD 0, 1, 2, 3, 4, 5, 6, 7, 8, 9, 10, 11, 12. -/
theorem execDomainPowerUpComplete_moves (d : Fin 12) (s : State) : ∃ s₁, execDomainPowerUpComplete d s = .next s₁ ∧ Moves 0x7ffd844703bfb27 s s₁ := by
  unfold execDomainPowerUpComplete
  refine ⟨_, rfl, ?_⟩
  apply Moves.ite
  refine .step ?_ (State.domainUp_moves ..) (by decide)
  exact .refl ..
  exact .refl ..

/-- What `execPowerExitComplete` may change: free, resp, frozen, icu, cmp, lane, shed, hedCnt, pwm, trip, pad, loomCfg, gov, tmr, dma, core, vrec, crerus, pwr; registers of PD 0, 1, 2, 3, 4, 5, 6, 7, 8, 9, 10, 11, 12. -/
theorem execPowerExitComplete_moves (s : State) : ∃ s₁, execPowerExitComplete s = .next s₁ ∧ Moves 0x7ffc040513bf927 s s₁ := by
  unfold execPowerExitComplete
  refine ⟨_, rfl, ?_⟩
  apply Moves.ite
  refine .step ?_ (State.endExit_moves ..) (by decide)
  exact .refl ..
  exact .refl ..

end Sys2Proof.Machine
end

