-- ==== Sys2Proof/Laws/RowsPowerRows.lean ====
section
/-!
SUPPORT. Every command of Machine/PowerRows.lean answers a next state, and what it may change.
-/

namespace Sys2Proof.Machine

/-- What `execPowerAckReady` may change: resp, frozen, icu, vrec; registers of PD 0, 1, 2, 3, 4, 5, 6, 7, 8, 9, 10, 11. -/
theorem execPowerAckReady_moves (q : Who) (v : Word) (s : State) : ∃ s₁, execPowerAckReady q v s = .next s₁ ∧ Moves 0x7ffc00010000026 s s₁ := by
  unfold execPowerAckReady
  refine ⟨_, rfl, ?_⟩
  refine .trans ?_ (State.via_moves _ _ _ _ ?_ (by decide))
  exact .refl ..
  intro u4_0
  refine .step ?_ (State.writeReg_moves ..) (by decide)
  exact .refl ..

/-- What `execPowerForcedStopTimeout` may change: core. -/
theorem execPowerForcedStopTimeout_moves (c : Fin 3) (s : State) : ∃ s₁, execPowerForcedStopTimeout c s = .next s₁ ∧ Moves 0x1000000 s s₁ := by
  unfold execPowerForcedStopTimeout
  refine ⟨_, rfl, ?_⟩
  refine .step ?_ (State.forceStop_moves ..) (by decide)
  exact .refl ..

/-- What `execDomainQuiesceComplete` may change: free, frozen, time, icu, adc, res, cmp, dac, rfm, lane, shed, hedCnt, pwm, trip, pad, loomCfg, gov, tmr, dma, dmaLast, core, vrec, warp, crerus, queue, jrnl, custody, pwr, xspi, uart, i2c, mem; registers of PD 0, 1, 2, 3, 4, 5, 6, 7, 8, 9, 10, 11, 12. -/
theorem execDomainQuiesceComplete_moves (d : Fin 12) (s : State) : ∃ s₁, execDomainQuiesceComplete d s = .next s₁ ∧ Moves 0x7fffc45f17bfff5 s s₁ := by
  unfold execDomainQuiesceComplete
  refine ⟨_, rfl, ?_⟩
  refine .step ?_ (State.quiesced_moves ..) (by decide)
  exact .refl ..

/-- What `execDomainUnplannedLoss` may change: free, frozen, key, time, icu, adc, res, cmp, dac, rfm, lane, shed, hedCnt, pwm, trip, pad, loomCfg, fuseLoaded, gov, tmr, dma, dmaLast, health, core, ply, wld, seq, vrec, warp, crerus, queue, jrnl, flash, custody, lc, shadow, pwr, rst, clk, dbg, xspi, uart, i2c, mem; registers of PD 0, 1, 2, 3, 4, 5, 6, 7, 8, 9, 10, 11, 12. -/
theorem execDomainUnplannedLoss_moves (lost : BitVec 12) (s : State) : ∃ s₁, execDomainUnplannedLoss lost s = .next s₁ ∧ Moves 0x7ffffeffffffffd s s₁ := by
  unfold execDomainUnplannedLoss
  refine ⟨_, rfl, ?_⟩
  refine .step ?_ (State.loseAll_moves ..) (by decide)
  apply Moves.ite
  refine .step ?_ (State.batteryLost_moves ..) (by decide)
  exact .refl ..
  exact .refl ..

/-- What `execDomainRestart` may change: pwr; registers of PD 0. -/
theorem execDomainRestart_moves (d : Fin 12) (s : State) : ∃ s₁, execDomainRestart d s = .next s₁ ∧ Moves 0x404000000000 s s₁ := by
  unfold execDomainRestart
  refine ⟨_, rfl, ?_⟩
  refine .step ?_ (State.restartDomain_moves ..) (by decide)
  exact .refl ..

/-- What `execMainSupplyLoss` may change: free, frozen, key, time, icu, adc, res, cmp, dac, rfm, lane, shed, hedCnt, pwm, trip, pad, loomCfg, fuseLoaded, gov, tmr, dma, dmaLast, health, core, ply, wld, seq, vrec, warp, crerus, queue, jrnl, flash, custody, lc, shadow, pwr, rst, clk, dbg, xspi, uart, i2c, mem; registers of PD 0, 1, 2, 3, 4, 5, 6, 7, 8, 9, 10, 11. -/
theorem execMainSupplyLoss_moves (s : State) : ∃ s₁, execMainSupplyLoss s = .next s₁ ∧ Moves 0x7ffffeffffffffd s s₁ := by
  unfold execMainSupplyLoss
  refine ⟨_, rfl, ?_⟩
  refine .step ?_ (State.toBattery_moves ..) (by decide)
  exact .refl ..

/-- What `execPowerWake` may change: pwr; registers of PD 0. -/
theorem execPowerWake_moves (n : Fin 224) (s : State) : ∃ s₁, execPowerWake n s = .next s₁ ∧ Moves 0x404000000000 s s₁ := by
  unfold execPowerWake
  refine ⟨_, rfl, ?_⟩
  apply Moves.ite
  refine .step ?_ (State.wake_moves ..) (by decide)
  exact .refl ..
  exact .refl ..

/-- What `execPd7PowerRequest` may change: free, resp, frozen, time, icu, cmp, lane, shed, hedCnt, pwm, trip, pad, tmr, dma, vrec, crerus, pwr; registers of PD 0, 1, 2, 3, 4, 5, 6, 7, 8, 9, 10, 11, 12. -/
theorem execPd7PowerRequest_moves (q : Who) (v : Word) (s : State) : ∃ s₁, execPd7PowerRequest q v s = .next s₁ ∧ Moves 0x7ffc0405031f937 s s₁ := by
  unfold execPd7PowerRequest
  refine ⟨_, rfl, ?_⟩
  refine .trans ?_ (State.via_moves _ _ _ _ ?_ (by decide))
  exact .refl ..
  intro u3_0
  refine .step ?_ (State.writeDomreq_moves ..) (by decide)
  exact .refl ..

/-- What `execPd11PowerRequest` may change: free, resp, frozen, time, icu, cmp, lane, shed, hedCnt, pwm, trip, pad, tmr, dma, vrec, crerus, pwr; registers of PD 0, 1, 2, 3, 4, 5, 6, 7, 8, 9, 10, 11, 12. -/
theorem execPd11PowerRequest_moves (q : Who) (v : Word) (s : State) : ∃ s₁, execPd11PowerRequest q v s = .next s₁ ∧ Moves 0x7ffc0405031f937 s s₁ := by
  unfold execPd11PowerRequest
  refine ⟨_, rfl, ?_⟩
  refine .trans ?_ (State.via_moves _ _ _ _ ?_ (by decide))
  exact .refl ..
  intro u3_0
  refine .step ?_ (State.writeDomreq_moves ..) (by decide)
  exact .refl ..

/-- What `execSramBankPowerRequest` may change: resp, frozen, icu, vrec, mem; registers of PD 0, 1, 2, 3, 4, 5, 6, 7, 8, 9, 10, 11. -/
theorem execSramBankPowerRequest_moves (q : Who) (v : Word) (s : State) : ∃ s₁, execSramBankPowerRequest q v s = .next s₁ ∧ Moves 0x7ffe00010000026 s s₁ := by
  unfold execSramBankPowerRequest
  refine ⟨_, rfl, ?_⟩
  refine .trans ?_ (State.via_moves _ _ _ _ ?_ (by decide))
  exact .refl ..
  intro u4_0
  refine .step ?_ (State.writeSram_moves ..) (by decide)
  exact .refl ..

end Sys2Proof.Machine
end

