-- ==== Sys2Proof/Laws/RowsPwmRows.lean ====
section
/-!
SUPPORT. Every command of Machine/PwmRows.lean answers a next state, and what it may change.
-/

namespace Sys2Proof.Machine

/-- What `execPwmPeriodStart` may change: free, icu, cmp, lane, shed, hedCnt, pwm, trip, dma, vrec, crerus; registers of PD 6, 7, 8, 10. -/
theorem execPwmPeriodStart_moves (p : Fin 12) (s : State) : ∃ s₁, execPwmPeriodStart p s = .next s₁ ∧ Moves 0x17000005020f921 s s₁ := by
  unfold execPwmPeriodStart
  refine ⟨_, rfl, ?_⟩
  apply Moves.ite
  exact .refl ..
  apply Moves.ite
  refine fireAll_moves ?_ (by decide)
  refine .step ?_ (State.periodEvents_moves ..) (by decide)
  exact .refl ..
  refine fireAll_moves ?_ (by decide)
  refine .step ?_ (State.periodStart_moves ..) (by decide)
  exact .refl ..

/-- What `execPwmEdgeCommit` may change: pwm. -/
theorem execPwmEdgeCommit_moves (p : Fin 12) (e : PwmEdge) (s : State) : ∃ s₁, execPwmEdgeCommit p e s = .next s₁ ∧ Moves 0x4000 s s₁ := by
  unfold execPwmEdgeCommit
  refine ⟨_, rfl, ?_⟩
  refine .step ?_ (State.commitEdge_moves ..) (by decide)
  exact .refl ..

/-- What `execPwmCompareEdge` may change: icu, cmp, pwm; registers of PD 6, 7. -/
theorem execPwmCompareEdge_moves (p : Fin 12) (e : PwmEdge) (s : State) : ∃ s₁, execPwmCompareEdge p e s = .next s₁ ∧ Moves 0x30000000004120 s s₁ := by
  unfold execPwmCompareEdge
  refine ⟨_, rfl, ?_⟩
  refine .step ?_ (State.takeEdge_moves ..) (by decide)
  exact .refl ..

/-- What `execPwmCentrePeak` may change: cmp, pwm; registers of PD 6, 7. -/
theorem execPwmCentrePeak_moves (p : Fin 12) (s : State) : ∃ s₁, execPwmCentrePeak p s = .next s₁ ∧ Moves 0x30000000004100 s s₁ := by
  unfold execPwmCentrePeak
  refine ⟨_, rfl, ?_⟩
  apply Moves.ite
  refine .step ?_ (State.peak_moves ..) (by decide)
  exact .refl ..
  exact .refl ..

/-- What `execPwmTriggerCompare` may change: free, icu, cmp, lane, shed, hedCnt, pwm, trip, dma, vrec, crerus; registers of PD 6, 7, 8, 10. -/
theorem execPwmTriggerCompare_moves (p : Fin 12) (t : Fin 2) (down : Bool) (s : State) : ∃ s₁, execPwmTriggerCompare p t down s = .next s₁ ∧ Moves 0x17000005020f921 s s₁ := by
  unfold execPwmTriggerCompare
  refine ⟨_, rfl, ?_⟩
  refine .step ?_ (State.trgCompare_moves ..) (by decide)
  exact .refl ..

/-- What `execPwmCtTermination` may change: icu, cmp, pwm; registers of PD 6, 7. -/
theorem execPwmCtTermination_moves (p : Fin 12) (s : State) : ∃ s₁, execPwmCtTermination p s = .next s₁ ∧ Moves 0x30000000004120 s s₁ := by
  unfold execPwmCtTermination
  refine ⟨_, rfl, ?_⟩
  apply Moves.ite
  refine .step ?_ (State.compareEvent_moves ..) (by decide)
  refine .step ?_ (State.moveRef_moves ..) (by decide)
  refine .step ?_ (State.updPwm_moves ..) (by decide)
  exact .refl ..
  exact .refl ..

/-- What `execPwmDeadTimeExpiry` may change: cmp, pwm; registers of PD 7. -/
theorem execPwmDeadTimeExpiry_moves (p : Fin 12) (outB : Bool) (s : State) : ∃ s₁, execPwmDeadTimeExpiry p outB s = .next s₁ ∧ Moves 0x20000000004100 s s₁ := by
  unfold execPwmDeadTimeExpiry
  refine ⟨_, rfl, ?_⟩
  apply Moves.ite
  apply Moves.ite
  refine .step ?_ (State.outB_moves ..) (by decide)
  refine .step ?_ (State.updPwm_moves ..) (by decide)
  exact .refl ..
  exact .refl ..
  apply Moves.ite
  refine .step ?_ (State.outA_moves ..) (by decide)
  refine .step ?_ (State.updPwm_moves ..) (by decide)
  exact .refl ..
  exact .refl ..

/-- What `execAdtSwitchNodeTransition` may change: pwm. -/
theorem execAdtSwitchNodeTransition_moves (p : Fin 12) (fall : Bool) (count : ℕ) (s : State) : ∃ s₁, execAdtSwitchNodeTransition p fall count s = .next s₁ ∧ Moves 0x4000 s s₁ := by
  unfold execAdtSwitchNodeTransition
  refine ⟨_, rfl, ?_⟩
  apply Moves.ite
  refine .step ?_ (State.updPwm_moves ..) (by decide)
  exact .refl ..
  exact .refl ..

/-- What `execAdtMissTimeout` may change: registers of PD 6. -/
theorem execAdtMissTimeout_moves (p : Fin 12) (fall : Bool) (s : State) : ∃ s₁, execAdtMissTimeout p fall s = .next s₁ ∧ Moves 0x10000000000000 s s₁ := by
  unfold execAdtMissTimeout
  refine ⟨_, rfl, ?_⟩
  apply Moves.ite
  refine .step ?_ (State.set_moves (d := 6) rfl) (by decide)
  exact .refl ..
  exact .refl ..

/-- What `execPwmShadowWrite` may change: resp, frozen, icu, pwm, vrec; registers of PD 0, 1, 2, 3, 4, 5, 6, 7, 8, 9, 10, 11. -/
theorem execPwmShadowWrite_moves (q : Who) (p : Fin 12) (r : PwmReg) (v : Word) (s : State) : ∃ s₁, execPwmShadowWrite q p r v s = .next s₁ ∧ Moves 0x7ffc00010004026 s s₁ := by
  unfold execPwmShadowWrite
  refine ⟨_, rfl, ?_⟩
  refine .trans ?_ (State.via_moves _ _ _ _ ?_ (by decide))
  exact .refl ..
  intro u6_0
  refine .step ?_ (State.writePwmVal_moves ..) (by decide)
  exact .refl ..

/-- What `execPwmGuardedWrite` may change: resp, frozen, icu, pwm, vrec; registers of PD 0, 1, 2, 3, 4, 5, 6, 7, 8, 9, 10, 11. -/
theorem execPwmGuardedWrite_moves (q : Who) (p : Fin 12) (r : PwmReg) (v : Word) (n : ℕ) (s : State) : ∃ s₁, execPwmGuardedWrite q p r v n s = .next s₁ ∧ Moves 0x7ffc00010004026 s s₁ := by
  unfold execPwmGuardedWrite
  refine ⟨_, rfl, ?_⟩
  refine .trans ?_ (State.via_moves _ _ _ _ ?_ (by decide))
  exact .refl ..
  intro u7_0
  refine .step ?_ (State.writePwmVal_moves ..) (by decide)
  exact .refl ..

/-- What `execPwmValueLoad` may change: pwm; registers of PD 6. -/
theorem execPwmValueLoad_moves (p : Fin 12) (n : ℕ) (s : State) : ∃ s₁, execPwmValueLoad p n s = .next s₁ ∧ Moves 0x10000000004000 s s₁ := by
  unfold execPwmValueLoad
  refine ⟨_, rfl, ?_⟩
  refine .step ?_ (State.loadNext_moves ..) (by decide)
  exact .refl ..

/-- What `execPwmEnable` may change: free, resp, frozen, icu, cmp, lane, shed, hedCnt, pwm, trip, dma, vrec, crerus; registers of PD 0, 1, 2, 3, 4, 5, 6, 7, 8, 9, 10, 11, 12. -/
theorem execPwmEnable_moves (q : Who) (p : Fin 12) (v : Word) (s : State) : ∃ s₁, execPwmEnable q p v s = .next s₁ ∧ Moves 0x7ffc0005020f927 s s₁ := by
  unfold execPwmEnable
  refine ⟨_, rfl, ?_⟩
  refine .trans ?_ (State.via_moves _ _ _ _ ?_ (by decide))
  exact .refl ..
  intro u3_0
  refine fireAll_moves ?_ (by decide)
  refine .step ?_ (State.writePwmCtrl_moves ..) (by decide)
  exact .refl ..

/-- What `execTripZoneInput` may change: free, icu, cmp, lane, shed, hedCnt, pwm, trip, dma, vrec, crerus; registers of PD 6, 7, 8, 10. -/
theorem execTripZoneInput_moves (t : Fin 14) (lvl : Bool) (ps : ℕ) (s : State) : ∃ s₁, execTripZoneInput t lvl ps s = .next s₁ ∧ Moves 0x17000005020f921 s s₁ := by
  unfold execTripZoneInput
  refine ⟨_, rfl, ?_⟩
  apply Moves.ite
  refine fireAll_moves ?_ (by decide)
  refine .step ?_ (State.tzInput_moves ..) (by decide)
  exact .refl ..
  exact .refl ..

/-- What `execSoftwareTripSet` may change: free, resp, icu, cmp, lane, shed, hedCnt, pwm, trip, dma, vrec, crerus; registers of PD 6, 7, 8, 10. -/
theorem execSoftwareTripSet_moves (q : Who) (setm : BitVec 12) (clrm : BitVec 12) (s : State) : ∃ s₁, execSoftwareTripSet q setm clrm s = .next s₁ ∧ Moves 0x17000005020f923 s s₁ := by
  unfold execSoftwareTripSet
  refine ⟨_, rfl, ?_⟩
  refine .trans ?_ (State.via_moves _ _ _ _ ?_ (by decide))
  exact .refl ..
  intro u3_0
  refine .step ?_ (State.softTrip_moves ..) (by decide)
  exact .refl ..

/-- What `execSoftwareTripClear` may change: free, resp, icu, cmp, lane, shed, hedCnt, pwm, trip, dma, vrec, crerus; registers of PD 6, 7, 8, 10. -/
theorem execSoftwareTripClear_moves (q : Who) (clrm : BitVec 12) (setm : BitVec 12) (s : State) : ∃ s₁, execSoftwareTripClear q clrm setm s = .next s₁ ∧ Moves 0x17000005020f923 s s₁ := by
  unfold execSoftwareTripClear
  refine ⟨_, rfl, ?_⟩
  refine .trans ?_ (State.via_moves _ _ _ _ ?_ (by decide))
  exact .refl ..
  intro u3_0
  refine .step ?_ (State.softTrip_moves ..) (by decide)
  exact .refl ..

/-- What `execTripClearRequest` may change: resp, pwm. -/
theorem execTripClearRequest_moves (q : Who) (p : Fin 12) (s : State) : ∃ s₁, execTripClearRequest q p s = .next s₁ ∧ Moves 0x4002 s s₁ := by
  unfold execTripClearRequest
  refine ⟨_, rfl, ?_⟩
  refine .trans ?_ (State.via_moves _ _ _ _ ?_ (by decide))
  exact .refl ..
  intro u4_0
  refine .step ?_ (State.clearTrip_moves ..) (by decide)
  exact .refl ..

end Sys2Proof.Machine
end

