-- ==== Sys2Proof/Laws/RowsQueueRows.lean ====
section
/-!
SUPPORT. Every command of Machine/QueueRows.lean answers a next state, and what it may change.
-/

namespace Sys2Proof.Machine

/-- What `execQueueTake` may change: queue; registers of PD 10. -/
theorem execQueueTake_moves (s : State) : ∃ s₁, execQueueTake s = .next s₁ ∧ Moves 0x100000080000000 s s₁ := by
  unfold execQueueTake
  refine ⟨_, rfl, ?_⟩
  refine .step ?_ (State.qTake_moves ..) (by decide)
  exact .refl ..

/-- What `execJappend` may change: vrec, crerus, queue, jrnl, flash, mem; registers of PD 2, 10. -/
theorem execJappend_moves (s : State) : ∃ s₁, execJappend s = .next s₁ ∧ Moves 0x1012003d0000000 s s₁ := by
  unfold execJappend
  refine ⟨_, rfl, ?_⟩
  refine .trans ?_ (State.qStart_moves _ _ _ ?_ (by decide))
  exact .refl ..
  intro u2_0 u2_1
  refine .step ?_ (State.jPut_moves ..) (by decide)
  exact .refl ..

/-- What `execJread` may change: vrec, crerus, queue, jrnl, flash, mem; registers of PD 2, 10. -/
theorem execJread_moves (s : State) : ∃ s₁, execJread s = .next s₁ ∧ Moves 0x1012003d0000000 s s₁ := by
  unfold execJread
  refine ⟨_, rfl, ?_⟩
  refine .trans ?_ (State.qStart_moves _ _ _ ?_ (by decide))
  exact .refl ..
  intro u2_0 u2_1
  refine .step ?_ (State.jRead_moves ..) (by decide)
  exact .refl ..

/-- What `execKstore` may change: vrec, crerus, queue, jrnl, flash, custody, mem; registers of PD 2, 10. -/
theorem execKstore_moves (s : State) : ∃ s₁, execKstore s = .next s₁ ∧ Moves 0x1012007d0000000 s s₁ := by
  unfold execKstore
  refine ⟨_, rfl, ?_⟩
  refine .trans ?_ (State.qStart_moves _ _ _ ?_ (by decide))
  exact .refl ..
  intro u2_0 u2_1
  refine .step ?_ (State.kStore_moves ..) (by decide)
  exact .refl ..

/-- What `execKfetch` may change: vrec, crerus, queue, jrnl, flash, mem; registers of PD 2, 10. -/
theorem execKfetch_moves (s : State) : ∃ s₁, execKfetch s = .next s₁ ∧ Moves 0x1012003d0000000 s s₁ := by
  unfold execKfetch
  refine ⟨_, rfl, ?_⟩
  refine .trans ?_ (State.qStart_moves _ _ _ ?_ (by decide))
  exact .refl ..
  intro u2_0 u2_1
  refine .step ?_ (State.kFetch_moves ..) (by decide)
  exact .refl ..

/-- What `execBwrite` may change: free, vrec, crerus, queue, jrnl, flash, custody, mem; registers of PD 2, 10. -/
theorem execBwrite_moves (s : State) : ∃ s₁, execBwrite s = .next s₁ ∧ Moves 0x1012007d0000001 s s₁ := by
  unfold execBwrite
  refine ⟨_, rfl, ?_⟩
  refine .trans ?_ (State.qStart_moves _ _ _ ?_ (by decide))
  exact .refl ..
  intro u2_0 u2_1
  refine .step ?_ (State.bWrite_moves ..) (by decide)
  exact .refl ..

/-- What `execBread` may change: vrec, crerus, queue, jrnl, flash, mem; registers of PD 2, 10. -/
theorem execBread_moves (s : State) : ∃ s₁, execBread s = .next s₁ ∧ Moves 0x1012003d0000000 s s₁ := by
  unfold execBread
  refine ⟨_, rfl, ?_⟩
  refine .trans ?_ (State.qStart_moves _ _ _ ?_ (by decide))
  exact .refl ..
  intro u2_0 u2_1
  refine .step ?_ (State.bRead_moves ..) (by decide)
  exact .refl ..

/-- What `execFlush` may change: vrec, crerus, queue, jrnl, flash, mem; registers of PD 2, 10. -/
theorem execFlush_moves (s : State) : ∃ s₁, execFlush s = .next s₁ ∧ Moves 0x1012003d0000000 s s₁ := by
  unfold execFlush
  refine ⟨_, rfl, ?_⟩
  refine .trans ?_ (State.qStart_moves _ _ _ ?_ (by decide))
  exact .refl ..
  intro u2_0 u2_1
  refine .step ?_ (State.jFlush_moves ..) (by decide)
  exact .refl ..

/-- What `execBarrier` may change: vrec, crerus, queue, jrnl, flash, mem; registers of PD 2, 10. -/
theorem execBarrier_moves (s : State) : ∃ s₁, execBarrier s = .next s₁ ∧ Moves 0x1012003d0000000 s s₁ := by
  unfold execBarrier
  refine ⟨_, rfl, ?_⟩
  refine .trans ?_ (State.qStart_moves _ _ _ ?_ (by decide))
  exact .refl ..
  intro u2_0 u2_1
  refine .step ?_ (State.qEnd_moves ..) (by decide)
  exact .refl ..

/-- What `execQueueCompletionPost` may change: queue, mem; registers of PD 10. -/
theorem execQueueCompletionPost_moves (s : State) : ∃ s₁, execQueueCompletionPost s = .next s₁ ∧ Moves 0x100200080000000 s s₁ := by
  unfold execQueueCompletionPost
  refine ⟨_, rfl, ?_⟩
  refine .step ?_ (State.qPost_moves ..) (by decide)
  exact .refl ..

/-- What `execJournalDeferTimeout` may change: vrec, jrnl, flash; registers of PD 2. -/
theorem execJournalDeferTimeout_moves (s : State) : ∃ s₁, execJournalDeferTimeout s = .next s₁ ∧ Moves 0x1000310000000 s s₁ := by
  unfold execJournalDeferTimeout
  refine ⟨_, rfl, ?_⟩
  apply Moves.ite
  refine .step ?_ (State.pageStart_moves ..) (by decide)
  exact .refl ..
  refine .step ?_ (State.jrnlPush_moves ..) (by decide)
  exact .refl ..

/-- What `execJournalPageDone` may change: free, frozen, key, time, icu, adc, res, cmp, dac, rfm, lane, shed, hedCnt, pwm, trip, pad, loomCfg, fuseLoaded, gov, tmr, dma, dmaLast, core, ply, wld, seq, vrec, warp, crerus, queue, jrnl, flash, custody, lc, shadow, pwr, rst, clk, dbg, xspi, uart, i2c, mem; registers of PD 0, 1, 2, 3, 4, 5, 6, 7, 8, 9, 10, 11. -/
theorem execJournalPageDone_moves (r : Fin 3) (s : State) : ∃ s₁, execJournalPageDone r s = .next s₁ ∧ Moves 0x7ffffefff7ffffd s s₁ := by
  unfold execJournalPageDone
  refine ⟨_, rfl, ?_⟩
  split
  refine .step ?_ (State.resetDue_moves ..) (by decide)
  split
  refine .step ?_ (State.pageGood_moves ..) (by decide)
  exact .refl ..
  refine .step ?_ (State.eraseBad_moves ..) (by decide)
  exact .refl ..
  refine .step ?_ (State.pageBad_moves ..) (by decide)
  exact .refl ..
  refine .step ?_ (State.resetDue_moves ..) (by decide)
  refine .step ?_ (State.flashEnd_moves ..) (by decide)
  exact .refl ..
  exact .refl ..

/-- What `execJournalScanComplete` may change: vrec, jrnl, flash; registers of PD 2. -/
theorem execJournalScanComplete_moves (s : State) : ∃ s₁, execJournalScanComplete s = .next s₁ ∧ Moves 0x1000310000000 s s₁ := by
  unfold execJournalScanComplete
  refine ⟨_, rfl, ?_⟩
  apply Moves.ite
  refine .step ?_ (State.vrecDrain_moves ..) (by decide)
  refine .step ?_ (State.jrnlScan_moves ..) (by decide)
  exact .refl ..
  exact .refl ..

/-- What `execJournalChainVerifyDone` may change: vrec, jrnl. -/
theorem execJournalChainVerifyDone_moves (s : State) : ∃ s₁, execJournalChainVerifyDone s = .next s₁ ∧ Moves 0x110000000 s s₁ := by
  unfold execJournalChainVerifyDone
  refine ⟨_, rfl, ?_⟩
  apply Moves.ite
  refine .step ?_ (State.jrnlVerify_moves ..) (by decide)
  exact .refl ..
  exact .refl ..

end Sys2Proof.Machine
end

