-- ==== Sys2Proof/Laws/RowsSampleRows.lean ====
section
/-!
SUPPORT. Every command of Machine/SampleRows.lean answers a next state, and what it may change.
-/

namespace Sys2Proof.Machine

/-- What `execAdcSoftwareStart` may change: free, resp, frozen, icu, cmp, lane, shed, hedCnt, pwm, trip, dma, vrec, crerus; registers of PD 0, 1, 2, 3, 4, 5, 6, 7, 8, 9, 10, 11, 12. -/
theorem execAdcSoftwareStart_moves (q : Who) (i : Fin 8) (v : Word) (s : State) : ∃ s₁, execAdcSoftwareStart q i v s = .next s₁ ∧ Moves 0x7ffc0005020f927 s s₁ := by
  unfold execAdcSoftwareStart
  refine ⟨_, rfl, ?_⟩
  refine .trans ?_ (State.via_moves _ _ _ _ ?_ (by decide))
  exact .refl ..
  intro u3_0
  refine .step ?_ (State.writeAdcCtrl_moves ..) (by decide)
  exact .refl ..

/-- What `execAdcPendingSlotStart` may change: adc, res; registers of PD 7. -/
theorem execAdcPendingSlotStart_moves (i : Fin 8) (s : State) : ∃ s₁, execAdcPendingSlotStart i s = .next s₁ ∧ Moves 0x200000000000c0 s s₁ := by
  unfold execAdcPendingSlotStart
  refine ⟨_, rfl, ?_⟩
  apply Moves.ite
  exact .refl ..
  split
  refine .step ?_ (State.openAperture_moves ..) (by decide)
  exact .refl ..
  exact .refl ..

/-- What `execAdcConversionDone` may change: free, icu, adc, res, cmp, lane, shed, hedCnt, pwm, trip, gov, dma, vrec, crerus; registers of PD 6, 7, 8, 10. -/
theorem execAdcConversionDone_moves (i : Fin 8) (v : PinVolts) (e : DieVolts) (r : RefVolts) (s : State) : ∃ s₁, execAdcConversionDone i v e r s = .next s₁ ∧ Moves 0x17000005028f9e1 s s₁ := by
  unfold execAdcConversionDone
  refine ⟨_, rfl, ?_⟩
  apply Moves.ite
  exact .refl ..
  apply Moves.ite
  refine .step ?_ (State.adcComplete_moves ..) (by decide)
  refine .step ?_ (State.coreCode_moves ..) (by decide)
  exact .refl ..
  apply Moves.ite
  refine .step ?_ (State.upd_adc_moves ..) (by decide)
  refine .step ?_ (State.coreCode_moves ..) (by decide)
  exact .refl ..
  exact .refl ..

/-- What `execAdcAverageDone` may change: free, icu, adc, res, cmp, lane, shed, hedCnt, pwm, trip, gov, dma, vrec, crerus; registers of PD 6, 7, 8, 10. -/
theorem execAdcAverageDone_moves (i : Fin 8) (v : PinVolts) (e : DieVolts) (r : RefVolts) (s : State) : ∃ s₁, execAdcAverageDone i v e r s = .next s₁ ∧ Moves 0x17000005028f9e1 s s₁ := by
  unfold execAdcAverageDone
  refine ⟨_, rfl, ?_⟩
  apply Moves.ite
  refine .step ?_ (State.adcComplete_moves ..) (by decide)
  refine .step ?_ (State.coreCode_moves ..) (by decide)
  exact .refl ..
  exact .refl ..

/-- What `execAdcResultRead` may change: resp; registers of PD 7. -/
theorem execAdcResultRead_moves (q : Who) (i : Fin 8) (m : Fin 4) (s : State) : ∃ s₁, execAdcResultRead q i m s = .next s₁ ∧ Moves 0x20000000000002 s s₁ := by
  unfold execAdcResultRead
  refine ⟨_, rfl, ?_⟩
  refine .trans ?_ (State.via_moves _ _ _ _ ?_ (by decide))
  exact .refl ..
  intro u5_0
  refine .step ?_ (State.readAdcRes_moves ..) (by decide)
  exact .refl ..

/-- What `execComparatorCrossing` may change: free, icu, cmp, lane, shed, hedCnt, pwm, trip, dma, vrec, crerus; registers of PD 6, 7, 8, 10. -/
theorem execComparatorCrossing_moves (j : Fin 16) (a : AinVolts) (r : RefVolts) (edges : ℕ) (s : State) : ∃ s₁, execComparatorCrossing j a r edges s = .next s₁ ∧ Moves 0x17000005020f921 s s₁ := by
  unfold execComparatorCrossing
  refine ⟨_, rfl, ?_⟩
  apply Moves.ite
  exact .refl ..
  apply Moves.ite
  refine .step ?_ (State.cmpFilter_moves ..) (by decide)
  refine .step ?_ (State.setB_moves (d := 7) rfl) (by decide)
  exact .refl ..
  refine .step ?_ (State.setB_moves (d := 7) rfl) (by decide)
  exact .refl ..

/-- What `execCmpFilterSettled` may change: free, icu, cmp, lane, shed, hedCnt, pwm, trip, dma, vrec, crerus; registers of PD 6, 7, 8, 10. -/
theorem execCmpFilterSettled_moves (j : Fin 16) (s : State) : ∃ s₁, execCmpFilterSettled j s = .next s₁ ∧ Moves 0x17000005020f921 s s₁ := by
  unfold execCmpFilterSettled
  refine ⟨_, rfl, ?_⟩
  apply Moves.ite
  exact .refl ..
  refine .step ?_ (State.cmpFilter_moves ..) (by decide)
  exact .refl ..

/-- What `execCmpBlankingEnd` may change: free, icu, cmp, lane, shed, hedCnt, pwm, trip, dma, vrec, crerus; registers of PD 6, 7, 8, 10. -/
theorem execCmpBlankingEnd_moves (j : Fin 16) (s : State) : ∃ s₁, execCmpBlankingEnd j s = .next s₁ ∧ Moves 0x17000005020f921 s s₁ := by
  unfold execCmpBlankingEnd
  refine ⟨_, rfl, ?_⟩
  refine fireAll_moves ?_ (by decide)
  refine .step ?_ (State.cmpRefresh_moves ..) (by decide)
  refine .step ?_ (State.upd_cmp_moves ..) (by decide)
  exact .refl ..

/-- What `execDacWrite` may change: free, resp, frozen, icu, dac, vrec; registers of PD 0, 1, 2, 3, 4, 5, 6, 7, 8, 9, 10, 11. -/
theorem execDacWrite_moves (q : Who) (r : Fin 3) (v : Word) (s : State) : ∃ s₁, execDacWrite q r v s = .next s₁ ∧ Moves 0x7ffc00010000227 s s₁ := by
  unfold execDacWrite
  refine ⟨_, rfl, ?_⟩
  refine .trans ?_ (State.via_moves _ _ _ _ ?_ (by decide))
  exact .refl ..
  intro u5_0
  refine .step ?_ (State.writeDac_moves ..) (by decide)
  exact .refl ..

/-- What `execRfmMeasurementCycleEnd` may change: free, icu, rfm, health; registers of PD 0, 6, 7. -/
theorem execRfmMeasurementCycleEnd_moves (vi : ℕ) (va : ℕ) (vb : ℕ) (selfOk : Bool) (s : State) : ∃ s₁, execRfmMeasurementCycleEnd vi va vb selfOk s = .next s₁ ∧ Moves 0x30400000800421 s s₁ := by
  unfold execRfmMeasurementCycleEnd
  refine ⟨_, rfl, ?_⟩
  apply Moves.ite
  exact .refl ..
  refine .step ?_ (State.rfmCycle_moves ..) (by decide)
  refine .step ?_ (State.rfmPublish_moves ..) (by decide)
  refine .step ?_ (State.freeN_moves ..) (by decide)
  exact .refl ..

/-- What `execRfmReferenceSwitch` may change: icu, adc, rfm, health; registers of PD 0, 6, 7. -/
theorem execRfmReferenceSwitch_moves (spans : BitVec 8) (s : State) : ∃ s₁, execRfmReferenceSwitch spans s = .next s₁ ∧ Moves 0x30400000800460 s s₁ := by
  unfold execRfmReferenceSwitch
  refine ⟨_, rfl, ?_⟩
  refine .step ?_ (State.rfmSwitch_moves ..) (by decide)
  exact .refl ..

/-- What `execRfmSwitchDeadline` may change: icu, adc, rfm, health; registers of PD 0, 6, 7. -/
theorem execRfmSwitchDeadline_moves (spans : BitVec 8) (s : State) : ∃ s₁, execRfmSwitchDeadline spans s = .next s₁ ∧ Moves 0x30400000800460 s s₁ := by
  unfold execRfmSwitchDeadline
  refine ⟨_, rfl, ?_⟩
  refine .step ?_ (State.rfmSwitch_moves ..) (by decide)
  exact .refl ..

/-- What `execRfmHoldoffEnd` may change: rfm. -/
theorem execRfmHoldoffEnd_moves (s : State) : ∃ s₁, execRfmHoldoffEnd s = .next s₁ ∧ Moves 0x400 s s₁ := by
  unfold execRfmHoldoffEnd
  refine ⟨_, rfl, ?_⟩
  refine .step ?_ (State.upd_rfm_moves ..) (by decide)
  exact .refl ..

/-- What `execRfmWinWrite` may change: resp, frozen, icu, vrec; registers of PD 0, 1, 2, 3, 4, 5, 6, 7, 8, 9, 10, 11. -/
theorem execRfmWinWrite_moves (q : Who) (v : Word) (s : State) : ∃ s₁, execRfmWinWrite q v s = .next s₁ ∧ Moves 0x7ffc00010000026 s s₁ := by
  unfold execRfmWinWrite
  refine ⟨_, rfl, ?_⟩
  refine .trans ?_ (State.via_moves _ _ _ _ ?_ (by decide))
  exact .refl ..
  intro u4_0
  refine .step ?_ (State.writeRfmWin_moves ..) (by decide)
  exact .refl ..

end Sys2Proof.Machine
end

