-- ==== Sys2Proof/Laws/RowsSerialRows.lean ====
section
/-!
SUPPORT. Every command of Machine/SerialRows.lean answers a next state, and what it may change.
-/

namespace Sys2Proof.Machine

/-- What `execGpioInputEvent` may change: icu; registers of PD 6, 10. -/
theorem execGpioInputEvent_moves (lv : BitVec 16) (s : State) : ∃ s₁, execGpioInputEvent lv s = .next s₁ ∧ Moves 0x110000000000020 s s₁ := by
  unfold execGpioInputEvent
  refine ⟨_, rfl, ?_⟩
  apply Moves.ite
  refine .step ?_ (State.gpioIn_moves ..) (by decide)
  exact .refl ..
  exact .refl ..

/-- What `execEncoderCountWrite` may change: resp, frozen, icu, vrec; registers of PD 0, 1, 2, 3, 4, 5, 6, 7, 8, 9, 10, 11. -/
theorem execEncoderCountWrite_moves (q : Who) (v : Word) (s : State) : ∃ s₁, execEncoderCountWrite q v s = .next s₁ ∧ Moves 0x7ffc00010000026 s s₁ := by
  unfold execEncoderCountWrite
  refine ⟨_, rfl, ?_⟩
  refine .trans ?_ (State.via_moves _ _ _ _ ?_ (by decide))
  exact .refl ..
  intro u4_0
  refine .step ?_ (State.writeReg_moves ..) (by decide)
  exact .refl ..

/-- What `execGpioOutputSet` may change: free, resp, icu, cmp, lane, shed, hedCnt, pwm, trip, dma, vrec, crerus; registers of PD 6, 7, 8, 10. -/
theorem execGpioOutputSet_moves (q : Who) (v : Word) (s : State) : ∃ s₁, execGpioOutputSet q v s = .next s₁ ∧ Moves 0x17000005020f923 s s₁ := by
  unfold execGpioOutputSet
  refine ⟨_, rfl, ?_⟩
  refine .trans ?_ (State.via_moves _ _ _ _ ?_ (by decide))
  exact .refl ..
  intro u3_0
  refine fireAll_moves ?_ (by decide)
  refine .step ?_ (State.drivenTrips_moves ..) (by decide)
  refine .step ?_ (State.writeOutSet_moves ..) (by decide)
  exact .refl ..

/-- What `execGpioOutputClear` may change: free, resp, icu, cmp, lane, shed, hedCnt, pwm, trip, dma, vrec, crerus; registers of PD 6, 7, 8, 10. -/
theorem execGpioOutputClear_moves (q : Who) (v : Word) (s : State) : ∃ s₁, execGpioOutputClear q v s = .next s₁ ∧ Moves 0x17000005020f923 s s₁ := by
  unfold execGpioOutputClear
  refine ⟨_, rfl, ?_⟩
  refine .trans ?_ (State.via_moves _ _ _ _ ?_ (by decide))
  exact .refl ..
  intro u3_0
  refine fireAll_moves ?_ (by decide)
  refine .step ?_ (State.drivenTrips_moves ..) (by decide)
  refine .step ?_ (State.writeOutClr_moves ..) (by decide)
  exact .refl ..

/-- What `execGpioMuxWrite` may change: free, resp, frozen, icu, cmp, lane, shed, hedCnt, pwm, trip, dma, vrec, crerus; registers of PD 0, 1, 2, 3, 4, 5, 6, 7, 8, 9, 10, 11, 12. -/
theorem execGpioMuxWrite_moves (q : Who) (n : Fin 16) (v : Word) (s : State) : ∃ s₁, execGpioMuxWrite q n v s = .next s₁ ∧ Moves 0x7ffc0005020f927 s s₁ := by
  unfold execGpioMuxWrite
  refine ⟨_, rfl, ?_⟩
  refine .trans ?_ (State.via_moves _ _ _ _ ?_ (by decide))
  exact .refl ..
  intro u3_0
  refine fireAll_moves ?_ (by decide)
  refine .step ?_ (State.drivenTrips_moves ..) (by decide)
  refine .step ?_ (State.writeReg_moves ..) (by decide)
  exact .refl ..

/-- What `execUartTransmitData` may change: resp, icu, uart; registers of PD 6, 10. -/
theorem execUartTransmitData_moves (q : Who) (v : Word) (s : State) : ∃ s₁, execUartTransmitData q v s = .next s₁ ∧ Moves 0x110080000000022 s s₁ := by
  unfold execUartTransmitData
  refine ⟨_, rfl, ?_⟩
  refine .trans ?_ (State.via_moves _ _ _ _ ?_ (by decide))
  exact .refl ..
  intro u4_0
  refine .step ?_ (State.writeUartTx_moves ..) (by decide)
  exact .refl ..

/-- What `execUartTransmitCharacter` may change: icu, uart; registers of PD 6, 10. -/
theorem execUartTransmitCharacter_moves (s : State) : ∃ s₁, execUartTransmitCharacter s = .next s₁ ∧ Moves 0x110080000000020 s s₁ := by
  unfold execUartTransmitCharacter
  refine ⟨_, rfl, ?_⟩
  apply Moves.ite
  split
  exact .refl ..
  refine .step ?_ (State.uartSync_moves ..) (by decide)
  refine .step ?_ (State.upd_uart_moves ..) (by decide)
  exact .refl ..
  exact .refl ..

/-- What `execUartTransmitComplete` may change: icu, uart; registers of PD 6, 10. -/
theorem execUartTransmitComplete_moves (s : State) : ∃ s₁, execUartTransmitComplete s = .next s₁ ∧ Moves 0x110080000000020 s s₁ := by
  unfold execUartTransmitComplete
  refine ⟨_, rfl, ?_⟩
  apply Moves.ite
  refine .step ?_ (State.uartSync_moves ..) (by decide)
  refine .step ?_ (State.upd_uart_moves ..) (by decide)
  exact .refl ..
  exact .refl ..

/-- What `execUartReceiveCharacter` may change: icu, uart; registers of PD 6, 10. -/
theorem execUartReceiveCharacter_moves (d : BitVec 8) (par : Bool) (stop : Bool) (s : State) : ∃ s₁, execUartReceiveCharacter d par stop s = .next s₁ ∧ Moves 0x110080000000020 s s₁ := by
  unfold execUartReceiveCharacter
  refine ⟨_, rfl, ?_⟩
  apply Moves.ite
  refine .step ?_ (State.uartPush_moves ..) (by decide)
  exact .refl ..
  exact .refl ..

/-- What `execUartBreak` may change: icu, uart; registers of PD 6, 10. -/
theorem execUartBreak_moves (s : State) : ∃ s₁, execUartBreak s = .next s₁ ∧ Moves 0x110080000000020 s s₁ := by
  unfold execUartBreak
  refine ⟨_, rfl, ?_⟩
  apply Moves.ite
  refine .step ?_ (State.uartSync_moves ..) (by decide)
  refine .step ?_ (State.set_moves (d := 10) rfl) (by decide)
  refine .step ?_ (State.upd_uart_moves ..) (by decide)
  exact .refl ..
  exact .refl ..

/-- What `execUartReceiveTimeout` may change: icu, uart; registers of PD 6, 10. -/
theorem execUartReceiveTimeout_moves (s : State) : ∃ s₁, execUartReceiveTimeout s = .next s₁ ∧ Moves 0x110080000000020 s s₁ := by
  unfold execUartReceiveTimeout
  refine ⟨_, rfl, ?_⟩
  apply Moves.ite
  exact .refl ..
  refine .step ?_ (State.uartSync_moves ..) (by decide)
  refine .step ?_ (State.upd_uart_moves ..) (by decide)
  exact .refl ..

/-- What `execUartReceiveDataRead` may change: resp, icu, uart; registers of PD 6, 10. -/
theorem execUartReceiveDataRead_moves (q : Who) (s : State) : ∃ s₁, execUartReceiveDataRead q s = .next s₁ ∧ Moves 0x110080000000022 s s₁ := by
  unfold execUartReceiveDataRead
  refine ⟨_, rfl, ?_⟩
  refine .trans ?_ (State.via_moves _ _ _ _ ?_ (by decide))
  exact .refl ..
  intro u3_0
  refine .step ?_ (State.readUartRx_moves ..) (by decide)
  exact .refl ..

/-- What `execI2cTransferStart` may change: resp, frozen, icu, vrec, i2c; registers of PD 0, 1, 2, 3, 4, 5, 6, 7, 8, 9, 10, 11. -/
theorem execI2cTransferStart_moves (q : Who) (v : Word) (s : State) : ∃ s₁, execI2cTransferStart q v s = .next s₁ ∧ Moves 0x7ffd00010000026 s s₁ := by
  unfold execI2cTransferStart
  refine ⟨_, rfl, ?_⟩
  refine .trans ?_ (State.via_moves _ _ _ _ ?_ (by decide))
  exact .refl ..
  intro u4_0
  refine .step ?_ (State.writeXfer_moves ..) (by decide)
  exact .refl ..

/-- What `execI2cControllerByte` may change: icu, i2c; registers of PD 6, 10. -/
theorem execI2cControllerByte_moves (ack : Bool) (d : BitVec 8) (s : State) : ∃ s₁, execI2cControllerByte ack d s = .next s₁ ∧ Moves 0x110100000000020 s s₁ := by
  unfold execI2cControllerByte
  refine ⟨_, rfl, ?_⟩
  refine .step ?_ (State.i2cSync_moves ..) (by decide)
  refine .step ?_ (State.i2cByte_moves ..) (by decide)
  exact .refl ..

/-- What `execI2cTransferComplete` may change: icu, i2c; registers of PD 6, 10. -/
theorem execI2cTransferComplete_moves (s : State) : ∃ s₁, execI2cTransferComplete s = .next s₁ ∧ Moves 0x110100000000020 s s₁ := by
  unfold execI2cTransferComplete
  refine ⟨_, rfl, ?_⟩
  apply Moves.ite
  extract_lets +onlyGivenNames v2
  clear_value v2
  extract_lets +onlyGivenNames v3
  refine Moves.bindV (v := v3) ?_ ?_
  unfold v3
  refine .step ?_ (State.i2cEnd_moves ..) (by decide)
  exact .refl ..
  intro hv3
  clear_value v3
  refine .step ?_ (State.i2cSync_moves ..) (by decide)
  apply Moves.ite
  refine .step ?_ (State.i2cRelease_moves ..) (by decide)
  assumption
  refine .step ?_ (State.set_moves (d := 10) rfl) (by decide)
  assumption
  exact .refl ..

/-- What `execI2cArbitrationLost` may change: icu, i2c; registers of PD 6, 10. -/
theorem execI2cArbitrationLost_moves (s : State) : ∃ s₁, execI2cArbitrationLost s = .next s₁ ∧ Moves 0x110100000000020 s s₁ := by
  unfold execI2cArbitrationLost
  refine ⟨_, rfl, ?_⟩
  apply Moves.ite
  refine .step ?_ (State.i2cSync_moves ..) (by decide)
  refine .step ?_ (State.set_moves (d := 10) rfl) (by decide)
  refine .step ?_ (State.i2cEnd_moves ..) (by decide)
  exact .refl ..
  exact .refl ..

/-- What `execI2cControllerDisable` may change: resp, frozen, icu, vrec, i2c; registers of PD 0, 1, 2, 3, 4, 5, 6, 7, 8, 9, 10, 11. -/
theorem execI2cControllerDisable_moves (q : Who) (v : Word) (s : State) : ∃ s₁, execI2cControllerDisable q v s = .next s₁ ∧ Moves 0x7ffd00010000026 s s₁ := by
  unfold execI2cControllerDisable
  refine ⟨_, rfl, ?_⟩
  refine .trans ?_ (State.via_moves _ _ _ _ ?_ (by decide))
  exact .refl ..
  intro u4_0
  refine .step ?_ (State.writeI2cCtrl_moves ..) (by decide)
  exact .refl ..

/-- What `execI2cTargetAddressed` may change: icu, i2c; registers of PD 6, 10. -/
theorem execI2cTargetAddressed_moves (a : BitVec 7) (rd : Bool) (s : State) : ∃ s₁, execI2cTargetAddressed a rd s = .next s₁ ∧ Moves 0x110100000000020 s s₁ := by
  unfold execI2cTargetAddressed
  refine ⟨_, rfl, ?_⟩
  apply Moves.ite
  refine .step ?_ (State.i2cSync_moves ..) (by decide)
  refine .step ?_ (State.updI2c_moves ..) (by decide)
  refine .step ?_ (State.setB_moves (d := 10) rfl) (by decide)
  refine .step ?_ (State.set_moves (d := 10) rfl) (by decide)
  refine .step ?_ (State.set_moves (d := 10) rfl) (by decide)
  exact .refl ..
  exact .refl ..

/-- What `execI2cTargetByte` may change: icu, i2c; registers of PD 6, 10. -/
theorem execI2cTargetByte_moves (ack : Bool) (d : BitVec 8) (s : State) : ∃ s₁, execI2cTargetByte ack d s = .next s₁ ∧ Moves 0x110100000000020 s s₁ := by
  unfold execI2cTargetByte
  refine ⟨_, rfl, ?_⟩
  refine .step ?_ (State.i2cSync_moves ..) (by decide)
  refine .step ?_ (State.targetByte_moves ..) (by decide)
  exact .refl ..

/-- What `execI2cStop` may change: icu, i2c; registers of PD 6, 10. -/
theorem execI2cStop_moves (again : Bool) (s : State) : ∃ s₁, execI2cStop again s = .next s₁ ∧ Moves 0x110100000000020 s s₁ := by
  unfold execI2cStop
  refine ⟨_, rfl, ?_⟩
  apply Moves.ite
  refine .step ?_ (State.i2cSync_moves ..) (by decide)
  refine .step ?_ (State.i2cStopped_moves ..) (by decide)
  exact .refl ..
  exact .refl ..

/-- What `execI2cStretchLimit` may change: icu, i2c; registers of PD 6, 10. -/
theorem execI2cStretchLimit_moves (s : State) : ∃ s₁, execI2cStretchLimit s = .next s₁ ∧ Moves 0x110100000000020 s s₁ := by
  unfold execI2cStretchLimit
  refine ⟨_, rfl, ?_⟩
  refine .step ?_ (State.i2cSync_moves ..) (by decide)
  refine .step ?_ (State.stretchEnd_moves ..) (by decide)
  exact .refl ..

/-- What `execI2cTransmitData` may change: resp, icu, i2c; registers of PD 6, 10. -/
theorem execI2cTransmitData_moves (q : Who) (v : Word) (s : State) : ∃ s₁, execI2cTransmitData q v s = .next s₁ ∧ Moves 0x110100000000022 s s₁ := by
  unfold execI2cTransmitData
  refine ⟨_, rfl, ?_⟩
  refine .trans ?_ (State.via_moves _ _ _ _ ?_ (by decide))
  exact .refl ..
  intro u4_0
  refine .step ?_ (State.writeI2cTx_moves ..) (by decide)
  exact .refl ..

/-- What `execI2cReceiveDataRead` may change: resp, icu, i2c; registers of PD 6, 10. -/
theorem execI2cReceiveDataRead_moves (q : Who) (s : State) : ∃ s₁, execI2cReceiveDataRead q s = .next s₁ ∧ Moves 0x110100000000022 s s₁ := by
  unfold execI2cReceiveDataRead
  refine ⟨_, rfl, ?_⟩
  refine .trans ?_ (State.via_moves _ _ _ _ ?_ (by decide))
  exact .refl ..
  intro u3_0
  refine .step ?_ (State.readI2cRx_moves ..) (by decide)
  exact .refl ..

/-- What `execI2cStartCondition` may change: i2c; registers of PD 10. -/
theorem execI2cStartCondition_moves (s : State) : ∃ s₁, execI2cStartCondition s = .next s₁ ∧ Moves 0x100100000000000 s s₁ := by
  unfold execI2cStartCondition
  refine ⟨_, rfl, ?_⟩
  apply Moves.ite
  refine .step ?_ (State.updI2c_moves ..) (by decide)
  refine .step ?_ (State.set_moves (d := 10) rfl) (by decide)
  exact .refl ..
  exact .refl ..

/-- What `execI2cBusFree` may change: icu, i2c; registers of PD 6, 10. -/
theorem execI2cBusFree_moves (s : State) : ∃ s₁, execI2cBusFree s = .next s₁ ∧ Moves 0x110100000000020 s s₁ := by
  unfold execI2cBusFree
  refine ⟨_, rfl, ?_⟩
  apply Moves.ite
  refine .step ?_ (State.i2cSync_moves ..) (by decide)
  refine .step ?_ (State.i2cBegin_moves ..) (by decide)
  refine .step ?_ (State.updI2c_moves ..) (by decide)
  exact .refl ..
  exact .refl ..

end Sys2Proof.Machine
end

