-- ==== Sys2Proof/Laws/RowsServiceRows.lean ====
section
/-!
SUPPORT. Every command of Machine/ServiceRows.lean answers a next state, and what it may change.
-/

namespace Sys2Proof.Machine

/-- What `execDoSeqRun` may change: free, resp, frozen, key, time, icu, adc, res, cmp, dac, rfm, lane, shed, hedCnt, pwm, trip, pad, loomCfg, fuseLoaded, gov, tmr, dma, dmaLast, health, core, ply, wld, seq, vrec, warp, crerus, queue, jrnl, flash, custody, lc, shadow, pwr, rst, clk, dbg, xspi, uart, i2c, mem; registers of PD 0, 1, 2, 3, 4, 5, 6, 7, 8, 9, 10, 11. -/
theorem execDoSeqRun_moves (s : State) : ∃ s₁, execDoSeqRun s = .next s₁ ∧ Moves 0x7ffffefffffffff s s₁ := by
  unfold execDoSeqRun
  refine ⟨_, rfl, ?_⟩
  refine .trans ?_ (State.serve_moves _ _ _ ?_ (by decide))
  exact .refl ..
  intro u2_0 u2_1
  refine .step ?_ (State.seqRun_moves ..) (by decide)
  refine .step ?_ (State.putRun_moves ..) (by decide)
  refine .step ?_ (State.suspend_moves ..) (by decide)
  exact .refl ..

/-- What `execDoSeqUndo` may change: free, resp, frozen, key, time, icu, adc, res, cmp, dac, rfm, lane, shed, hedCnt, pwm, trip, pad, loomCfg, fuseLoaded, gov, tmr, dma, dmaLast, health, core, ply, wld, seq, vrec, warp, crerus, queue, jrnl, flash, custody, lc, shadow, pwr, rst, clk, dbg, xspi, uart, i2c, mem; registers of PD 0, 1, 2, 3, 4, 5, 6, 7, 8, 9, 10, 11. -/
theorem execDoSeqUndo_moves (s : State) : ∃ s₁, execDoSeqUndo s = .next s₁ ∧ Moves 0x7ffffefffffffff s s₁ := by
  unfold execDoSeqUndo
  refine ⟨_, rfl, ?_⟩
  refine .trans ?_ (State.serve_moves _ _ _ ?_ (by decide))
  exact .refl ..
  intro u2_0 u2_1
  extract_lets +onlyGivenNames v4
  clear_value v4
  refine .step ?_ (State.finish_moves ..) (by decide)
  refine Moves.foldl ?_ ?_
  exact .refl ..
  intro u5_0 u5_1
  refine .step ?_ (State.laneSwitch_moves ..) (by decide)
  exact .refl ..

/-- What `execSequenceStep` may change: free, resp, frozen, key, time, icu, adc, res, cmp, dac, rfm, lane, shed, hedCnt, pwm, trip, pad, loomCfg, fuseLoaded, gov, tmr, dma, dmaLast, health, core, ply, wld, seq, vrec, warp, crerus, queue, jrnl, flash, custody, lc, shadow, pwr, rst, clk, dbg, xspi, uart, i2c, mem; registers of PD 0, 1, 2, 3, 4, 5, 6, 7, 8, 9, 10, 11. -/
theorem execSequenceStep_moves (timeout : Bool) (s : State) : ∃ s₁, execSequenceStep timeout s = .next s₁ ∧ Moves 0x7ffffefffffffff s s₁ := by
  unfold execSequenceStep
  refine ⟨_, rfl, ?_⟩
  split
  apply Moves.ite
  refine .step ?_ (State.seqGo_moves ..) (by decide)
  exact .refl ..
  exact .refl ..
  exact .refl ..

/-- What `execFanServiceTick` may change: free, resp, frozen, key, time, icu, adc, res, cmp, dac, rfm, lane, shed, hedCnt, pwm, trip, pad, loomCfg, fuseLoaded, gov, tmr, dma, dmaLast, health, core, ply, wld, seq, vrec, warp, crerus, queue, jrnl, flash, custody, lc, shadow, pwr, rst, clk, dbg, xspi, uart, i2c, mem; registers of PD 0, 1, 2, 3, 4, 5, 6, 7, 8, 9, 10, 11. -/
theorem execFanServiceTick_moves (a : BitVec 16) (b : BitVec 16) (c : BitVec 16) (d : BitVec 16) (s : State) : ∃ s₁, execFanServiceTick a b c d s = .next s₁ ∧ Moves 0x7ffffefffffffff s s₁ := by
  unfold execFanServiceTick
  refine ⟨_, rfl, ?_⟩
  apply Moves.ite
  refine .step ?_ (State.fanTick_moves ..) (by decide)
  exact .refl ..
  exact .refl ..

end Sys2Proof.Machine
end

