-- ==== Sys2Proof/Laws/RowsSysRows.lean ====
section
/-!
SUPPORT. Every command of Machine/SysRows.lean answers a next state, and what it may change.
-/

namespace Sys2Proof.Machine

/-- What `execHandover` may change: free, frozen, key, time, icu, adc, res, cmp, dac, rfm, lane, shed, hedCnt, pwm, trip, pad, loomCfg, fuseLoaded, gov, tmr, dma, dmaLast, health, core, ply, wld, seq, vrec, warp, crerus, queue, jrnl, flash, custody, lc, shadow, pwr, rst, clk, dbg, xspi, uart, i2c, mem; registers of PD 0, 1, 2, 3, 4, 5, 6, 7, 8, 9, 10, 11. -/
theorem execHandover_moves (c : Fin 3) (s : State) : ∃ s₁, execHandover c s = .next s₁ ∧ Moves 0x7ffffeffffffffd s s₁ := by
  unfold execHandover
  refine ⟨_, rfl, ?_⟩
  refine .trans ?_ (State.issue_moves _ _ _ _ ?_ (by decide))
  exact .refl ..
  intro u3_0
  apply Moves.ite
  refine .step ?_ (State.illegal_moves ..) (by decide)
  exact .refl ..
  extract_lets +onlyGivenNames v4
  clear_value v4
  extract_lets +onlyGivenNames v5
  refine Moves.bindV (v := v5) ?_ ?_
  unfold v5
  refine .step ?_ (State.complete_moves ..) (by decide)
  exact .refl ..
  intro hv5
  clear_value v5
  apply Moves.ite
  assumption
  apply Moves.ite
  refine .step ?_ (State.raise_moves ..) (by decide)
  refine .step ?_ (State.set_moves (d := 0) rfl) (by decide)
  assumption
  refine .step ?_ (State.handOver_moves ..) (by decide)
  assumption

/-- What `execJoinwait` may change: free, frozen, key, time, icu, adc, res, cmp, dac, rfm, lane, shed, hedCnt, pwm, trip, pad, loomCfg, fuseLoaded, gov, tmr, dma, dmaLast, health, core, ply, wld, seq, vrec, warp, crerus, queue, jrnl, flash, custody, lc, shadow, pwr, rst, clk, dbg, xspi, uart, i2c, mem; registers of PD 0, 1, 2, 3, 4, 5, 6, 7, 8, 9, 10, 11. -/
theorem execJoinwait_moves (c : Fin 3) (s : State) : ∃ s₁, execJoinwait c s = .next s₁ ∧ Moves 0x7ffffeffffffffd s s₁ := by
  unfold execJoinwait
  refine ⟨_, rfl, ?_⟩
  refine .trans ?_ (State.issue_moves _ _ _ _ ?_ (by decide))
  exact .refl ..
  intro u3_0
  apply Moves.ite
  refine .step ?_ (State.illegal_moves ..) (by decide)
  exact .refl ..
  extract_lets +onlyGivenNames v4
  refine Moves.bindV (v := v4) ?_ ?_
  unfold v4
  refine .step ?_ (State.loseRegs_moves ..) (by decide)
  refine .step ?_ (State.complete_moves ..) (by decide)
  exact .refl ..
  intro hv4
  clear_value v4
  apply Moves.ite
  refine .step ?_ (State.set_moves (d := 0) rfl) (by decide)
  assumption
  apply Moves.ite
  refine .step ?_ (State.set_moves (d := 0) rfl) (by decide)
  assumption
  assumption

/-- What `execFence` may change: free, frozen, key, time, icu, adc, res, cmp, dac, rfm, lane, shed, hedCnt, pwm, trip, pad, loomCfg, fuseLoaded, gov, tmr, dma, dmaLast, health, core, ply, wld, seq, vrec, warp, crerus, queue, jrnl, flash, custody, lc, shadow, pwr, rst, clk, dbg, xspi, uart, i2c, mem; registers of PD 0, 1, 2, 3, 4, 5, 6, 7, 8, 9, 10, 11. -/
theorem execFence_moves (c : Fin 3) (s : State) : ∃ s₁, execFence c s = .next s₁ ∧ Moves 0x7ffffeffffffffd s s₁ := by
  unfold execFence
  refine ⟨_, rfl, ?_⟩
  refine .trans ?_ (State.issue_moves _ _ _ _ ?_ (by decide))
  exact .refl ..
  intro u3_0
  refine .step ?_ (State.complete_moves ..) (by decide)
  exact .refl ..

/-- What `execWfi` may change: free, frozen, key, time, icu, adc, res, cmp, dac, rfm, lane, shed, hedCnt, pwm, trip, pad, loomCfg, fuseLoaded, gov, tmr, dma, dmaLast, health, core, ply, wld, seq, vrec, warp, crerus, queue, jrnl, flash, custody, lc, shadow, pwr, rst, clk, dbg, xspi, uart, i2c, mem; registers of PD 0, 1, 2, 3, 4, 5, 6, 7, 8, 9, 10, 11. -/
theorem execWfi_moves (c : Fin 3) (s : State) : ∃ s₁, execWfi c s = .next s₁ ∧ Moves 0x7ffffeffffffffd s s₁ := by
  unfold execWfi
  refine ⟨_, rfl, ?_⟩
  refine .trans ?_ (State.issue_moves _ _ _ _ ?_ (by decide))
  exact .refl ..
  intro u3_0
  extract_lets +onlyGivenNames v4
  clear_value v4
  refine .step ?_ (State.complete_moves ..) (by decide)
  exact .refl ..

/-- What `execEret` may change: free, frozen, key, time, icu, adc, res, cmp, dac, rfm, lane, shed, hedCnt, pwm, trip, pad, loomCfg, fuseLoaded, gov, tmr, dma, dmaLast, health, core, ply, wld, seq, vrec, warp, crerus, queue, jrnl, flash, custody, lc, shadow, pwr, rst, clk, dbg, xspi, uart, i2c, mem; registers of PD 0, 1, 2, 3, 4, 5, 6, 7, 8, 9, 10, 11. -/
theorem execEret_moves (c : Fin 3) (s : State) : ∃ s₁, execEret c s = .next s₁ ∧ Moves 0x7ffffeffffffffd s s₁ := by
  unfold execEret
  refine ⟨_, rfl, ?_⟩
  refine .trans ?_ (State.issue_moves _ _ _ _ ?_ (by decide))
  exact .refl ..
  intro u3_0
  apply Moves.ite
  refine .step ?_ (State.complete_moves ..) (by decide)
  exact .refl ..
  refine .step ?_ (State.illegal_moves ..) (by decide)
  exact .refl ..

/-- What `execWret` may change: free, frozen, key, time, icu, adc, res, cmp, dac, rfm, lane, shed, hedCnt, pwm, trip, pad, loomCfg, fuseLoaded, gov, tmr, dma, dmaLast, health, core, ply, wld, seq, vrec, warp, crerus, queue, jrnl, flash, custody, lc, shadow, pwr, rst, clk, dbg, xspi, uart, i2c, mem; registers of PD 0, 1, 2, 3, 4, 5, 6, 7, 8, 9, 10, 11, 12. -/
theorem execWret_moves (c : Fin 3) (s : State) : ∃ s₁, execWret c s = .next s₁ ∧ Moves 0x7ffffeffffffffd s s₁ := by
  unfold execWret
  refine ⟨_, rfl, ?_⟩
  refine .trans ?_ (State.issue_moves _ _ _ _ ?_ (by decide))
  exact .refl ..
  intro u3_0
  extract_lets +onlyGivenNames v4
  clear_value v4
  split
  refine .step ?_ (State.afterCall_moves ..) (by decide)
  refine .step ?_ (State.upd_wld_moves ..) (by decide)
  refine .step ?_ (State.complete_moves ..) (by decide)
  exact .refl ..
  refine .step ?_ (State.illegal_moves ..) (by decide)
  exact .refl ..

/-- What `execCsrrd` may change: free, frozen, key, time, icu, adc, res, cmp, dac, rfm, lane, shed, hedCnt, pwm, trip, pad, loomCfg, fuseLoaded, gov, tmr, dma, dmaLast, health, core, ply, wld, seq, vrec, warp, crerus, queue, jrnl, flash, custody, lc, shadow, pwr, rst, clk, dbg, xspi, uart, i2c, mem; registers of PD 0, 1, 2, 3, 4, 5, 6, 7, 8, 9, 10, 11. -/
theorem execCsrrd_moves (c : Fin 3) (rd : Fin 32) (n : BitVec 12) (s : State) : ∃ s₁, execCsrrd c rd n s = .next s₁ ∧ Moves 0x7ffffeffffffffd s s₁ := by
  unfold execCsrrd
  refine ⟨_, rfl, ?_⟩
  refine .trans ?_ (State.issue_moves _ _ _ _ ?_ (by decide))
  exact .refl ..
  intro u5_0
  refine .step ?_ (State.csrRead_moves ..) (by decide)
  exact .refl ..

/-- What `execCsrwr` may change: free, frozen, key, time, icu, adc, res, cmp, dac, rfm, lane, shed, hedCnt, pwm, trip, pad, loomCfg, fuseLoaded, gov, tmr, dma, dmaLast, health, core, ply, wld, seq, vrec, warp, crerus, queue, jrnl, flash, custody, lc, shadow, pwr, rst, clk, dbg, xspi, uart, i2c, mem; registers of PD 0, 1, 2, 3, 4, 5, 6, 7, 8, 9, 10, 11. -/
theorem execCsrwr_moves (c : Fin 3) (n : BitVec 12) (ra : Fin 32) (s : State) : ∃ s₁, execCsrwr c n ra s = .next s₁ ∧ Moves 0x7ffffeffffffffd s s₁ := by
  unfold execCsrwr
  refine ⟨_, rfl, ?_⟩
  refine .trans ?_ (State.issue_moves _ _ _ _ ?_ (by decide))
  exact .refl ..
  intro u5_0
  refine .step ?_ (State.csrWrite_moves ..) (by decide)
  exact .refl ..

/-- What `execCacheInvalidate` may change: free, frozen, key, time, icu, adc, res, cmp, dac, rfm, lane, shed, hedCnt, pwm, trip, pad, loomCfg, fuseLoaded, gov, tmr, dma, dmaLast, health, core, ply, wld, seq, vrec, warp, crerus, queue, jrnl, flash, custody, lc, shadow, pwr, rst, clk, dbg, xspi, uart, i2c, mem; registers of PD 0, 1, 2, 3, 4, 5, 6, 7, 8, 9, 10, 11. -/
theorem execCacheInvalidate_moves (c : Fin 3) (ra : Fin 32) (s : State) : ∃ s₁, execCacheInvalidate c ra s = .next s₁ ∧ Moves 0x7ffffeffffffffd s s₁ := by
  unfold execCacheInvalidate
  refine ⟨_, rfl, ?_⟩
  refine .trans ?_ (State.issue_moves _ _ _ _ ?_ (by decide))
  exact .refl ..
  intro u4_0
  refine .step ?_ (State.csrWrite_moves ..) (by decide)
  exact .refl ..

/-- What `execMpuLock` may change: free, frozen, key, time, icu, adc, res, cmp, dac, rfm, lane, shed, hedCnt, pwm, trip, pad, loomCfg, fuseLoaded, gov, tmr, dma, dmaLast, health, core, ply, wld, seq, vrec, warp, crerus, queue, jrnl, flash, custody, lc, shadow, pwr, rst, clk, dbg, xspi, uart, i2c, mem; registers of PD 0, 1, 2, 3, 4, 5, 6, 7, 8, 9, 10, 11. -/
theorem execMpuLock_moves (c : Fin 3) (ra : Fin 32) (s : State) : ∃ s₁, execMpuLock c ra s = .next s₁ ∧ Moves 0x7ffffeffffffffd s s₁ := by
  unfold execMpuLock
  refine ⟨_, rfl, ?_⟩
  refine .trans ?_ (State.issue_moves _ _ _ _ ?_ (by decide))
  exact .refl ..
  intro u4_0
  refine .step ?_ (State.csrWrite_moves ..) (by decide)
  exact .refl ..

/-- What `execIcuCompletion` may change: free, frozen, key, time, icu, adc, res, cmp, dac, rfm, lane, shed, hedCnt, pwm, trip, pad, loomCfg, fuseLoaded, gov, tmr, dma, dmaLast, health, core, ply, wld, seq, vrec, warp, crerus, queue, jrnl, flash, custody, lc, shadow, pwr, rst, clk, dbg, xspi, uart, i2c, mem; registers of PD 0, 1, 2, 3, 4, 5, 6, 7, 8, 9, 10, 11. -/
theorem execIcuCompletion_moves (c : Fin 3) (ra : Fin 32) (s : State) : ∃ s₁, execIcuCompletion c ra s = .next s₁ ∧ Moves 0x7ffffeffffffffd s s₁ := by
  unfold execIcuCompletion
  refine ⟨_, rfl, ?_⟩
  refine .trans ?_ (State.issue_moves _ _ _ _ ?_ (by decide))
  exact .refl ..
  intro u4_0
  refine .step ?_ (State.csrWrite_moves ..) (by decide)
  exact .refl ..

/-- What `execUnassignedEncoding` may change: free, frozen, key, time, icu, adc, res, cmp, dac, rfm, lane, shed, hedCnt, pwm, trip, pad, loomCfg, fuseLoaded, gov, tmr, dma, dmaLast, health, core, ply, wld, seq, vrec, warp, crerus, queue, jrnl, flash, custody, lc, shadow, pwr, rst, clk, dbg, xspi, uart, i2c, mem; registers of PD 0, 1, 2, 3, 4, 5, 6, 7, 8, 9, 10, 11. -/
theorem execUnassignedEncoding_moves (c : Fin 3) (w : Word) (s : State) : ∃ s₁, execUnassignedEncoding c w s = .next s₁ ∧ Moves 0x7ffffeffffffffd s s₁ := by
  unfold execUnassignedEncoding
  refine ⟨_, rfl, ?_⟩
  apply Moves.ite
  exact .refl ..
  refine .trans ?_ (State.issue_moves _ _ _ _ ?_ (by decide))
  exact .refl ..
  intro u4_0
  refine .step ?_ (State.illegal_moves ..) (by decide)
  exact .refl ..

/-- What `execCacheLineFill` may change: free, icu, health, core, flash; registers of PD 0, 2, 6. -/
theorem execCacheLineFill_moves (c : Fin 3) (a : Word) (s : State) : ∃ s₁, execCacheLineFill c a s = .next s₁ ∧ Moves 0x11400201800021 s s₁ := by
  unfold execCacheLineFill
  refine ⟨_, rfl, ?_⟩
  apply Moves.ite
  split
  apply Moves.ite
  refine .step ?_ (Moves.snd (State.eccLine_moves ..) (by assumption)) (by decide)
  exact .refl ..
  refine .step ?_ (State.fillLine_moves ..) (by decide)
  refine .step ?_ (Moves.snd (State.eccLine_moves ..) (by assumption)) (by decide)
  exact .refl ..
  exact .refl ..

/-- What `execLdxReservationTimeout` may change: core. -/
theorem execLdxReservationTimeout_moves (c : Fin 3) (s : State) : ∃ s₁, execLdxReservationTimeout c s = .next s₁ ∧ Moves 0x1000000 s s₁ := by
  unfold execLdxReservationTimeout
  refine ⟨_, rfl, ?_⟩
  refine .step ?_ (State.updCore_moves ..) (by decide)
  exact .refl ..

/-- What `execInterruptEntry` may change: free, icu, core; registers of PD 0, 6. -/
theorem execInterruptEntry_moves (c : Fin 3) (raced : Bool) (s : State) : ∃ s₁, execInterruptEntry c raced s = .next s₁ ∧ Moves 0x10400001000021 s s₁ := by
  unfold execInterruptEntry
  refine ⟨_, rfl, ?_⟩
  apply Moves.ite
  exact .refl ..
  apply Moves.ite
  split
  apply Moves.ite
  refine .step ?_ (State.upd_icu_moves fun _ h => h) (by decide)
  refine .step ?_ (State.set_moves (d := 6) rfl) (by decide)
  refine .step ?_ (State.takeInt_moves ..) (by decide)
  exact .refl ..
  exact .refl ..
  exact .refl ..
  split
  apply Moves.ite
  refine .step ?_ (State.takeInt_moves ..) (by decide)
  exact .refl ..
  exact .refl ..
  exact .refl ..

/-- What `execWfiWake` may change: free, core. -/
theorem execWfiWake_moves (c : Fin 3) (s : State) : ∃ s₁, execWfiWake c s = .next s₁ ∧ Moves 0x1000001 s s₁ := by
  unfold execWfiWake
  refine ⟨_, rfl, ?_⟩
  apply Moves.ite
  refine .step ?_ (State.wfiEnds_moves ..) (by decide)
  exact .refl ..
  exact .refl ..

end Sys2Proof.Machine
end

