-- ==== Sys2Proof/Laws/RowsTamperRows.lean ====
section
/-!
SUPPORT. Every command of Machine/TamperRows.lean answers a next state, and what it may change.
-/

namespace Sys2Proof.Machine

/-- What `execTamperDetection` may change: free, icu, core, wld, crerus, queue, jrnl, flash, custody, pwr, dbg, mem; registers of PD 0, 1, 2, 3, 6, 10. -/
theorem execTamperDetection_moves (src : Fin 9) (now : TamperSense) (s : State) : ∃ s₁, execTamperDetection src now s = .next s₁ ∧ Moves 0x113e247c5000021 s s₁ := by
  unfold execTamperDetection
  refine ⟨_, rfl, ?_⟩
  apply Moves.ite
  refine .step ?_ (State.tamper_moves ..) (by decide)
  refine .step ?_ (State.set_moves (d := 0) rfl) (by decide)
  exact .refl ..
  exact .refl ..

/-- What `execTamperSwitchFilterExpiry` may change: free, icu, core, wld, crerus, queue, jrnl, flash, custody, pwr, dbg, mem; registers of PD 0, 1, 2, 3, 6, 10. -/
theorem execTamperSwitchFilterExpiry_moves (w : SwitchSense) (s : State) : ∃ s₁, execTamperSwitchFilterExpiry w s = .next s₁ ∧ Moves 0x113e247c5000021 s s₁ := by
  unfold execTamperSwitchFilterExpiry
  refine ⟨_, rfl, ?_⟩
  apply Moves.ite
  refine .step ?_ (State.tamper_moves ..) (by decide)
  refine .step ?_ (State.setBit_moves (d := 0) rfl) (by decide)
  exact .refl ..
  exact .refl ..

/-- What `execMeshBitPeriod` may change: free, icu, core, wld, crerus, queue, jrnl, flash, custody, pwr, dbg, mem; registers of PD 0, 1, 2, 3, 6, 10. -/
theorem execMeshBitPeriod_moves (n : Fin 2) (sense : Bool) (s : State) : ∃ s₁, execMeshBitPeriod n sense s = .next s₁ ∧ Moves 0x113e247c5000021 s s₁ := by
  unfold execMeshBitPeriod
  refine ⟨_, rfl, ?_⟩
  refine .step ?_ (State.meshBit_moves ..) (by decide)
  exact .refl ..

/-- What `execMeshReseed` may change: free, custody. -/
theorem execMeshReseed_moves (s : State) : ∃ s₁, execMeshReseed s = .next s₁ ∧ Moves 0x400000001 s s₁ := by
  unfold execMeshReseed
  refine ⟨_, rfl, ?_⟩
  apply Moves.ite
  refine .step ?_ (State.meshReseed_moves ..) (by decide)
  exact .refl ..
  exact .refl ..

/-- What `execTamperWipeComplete` may change: wld, custody, mem; registers of PD 1. -/
theorem execTamperWipeComplete_moves (s : State) : ∃ s₁, execTamperWipeComplete s = .next s₁ ∧ Moves 0xa00404000000 s s₁ := by
  unfold execTamperWipeComplete
  refine ⟨_, rfl, ?_⟩
  refine .step ?_ (State.tamperWiped_moves ..) (by decide)
  exact .refl ..

/-- What `execTamperJournalRecord` may change: icu, vrec, custody; registers of PD 6. -/
theorem execTamperJournalRecord_moves (s : State) : ∃ s₁, execTamperJournalRecord s = .next s₁ ∧ Moves 0x10000410000020 s s₁ := by
  unfold execTamperJournalRecord
  refine ⟨_, rfl, ?_⟩
  refine .step ?_ (State.tamperRecord_moves ..) (by decide)
  exact .refl ..

/-- What `execEntropyHealthFailure` may change: health, custody; registers of PD 0. -/
theorem execEntropyHealthFailure_moves (again : Bool) (s : State) : ∃ s₁, execEntropyHealthFailure again s = .next s₁ ∧ Moves 0x400400800000 s s₁ := by
  unfold execEntropyHealthFailure
  refine ⟨_, rfl, ?_⟩
  refine .step ?_ (State.entropyFails_moves ..) (by decide)
  exact .refl ..

end Sys2Proof.Machine
end

