-- ==== Sys2Proof/Laws/RowsTileRows.lean ====
section
/-!
SUPPORT. Every command of Machine/TileRows.lean answers a next state, and what it may change.
-/

namespace Sys2Proof.Machine

/-- What `execTmac` may change: free, frozen, key, time, icu, adc, res, cmp, dac, rfm, lane, shed, hedCnt, pwm, trip, pad, loomCfg, fuseLoaded, gov, tmr, dma, dmaLast, health, core, ply, wld, seq, vrec, warp, crerus, queue, jrnl, flash, custody, lc, shadow, pwr, rst, clk, dbg, xspi, uart, i2c, mem; registers of PD 0, 1, 2, 3, 4, 5, 6, 7, 8, 9, 10, 11. -/
theorem execTmac_moves (c : Fin 3) (ta : Fin 8) (tb : Fin 8) (s : State) : ∃ s₁, execTmac c ta tb s = .next s₁ ∧ Moves 0x7ffffeffffffffd s s₁ := by
  unfold execTmac
  refine ⟨_, rfl, ?_⟩
  refine .trans ?_ (State.issue_moves _ _ _ _ ?_ (by decide))
  exact .refl ..
  intro u5_0
  refine .step ?_ (State.complete_moves ..) (by decide)
  exact .refl ..

/-- What `execTmacv` may change: free, frozen, key, time, icu, adc, res, cmp, dac, rfm, lane, shed, hedCnt, pwm, trip, pad, loomCfg, fuseLoaded, gov, tmr, dma, dmaLast, health, core, ply, wld, seq, vrec, warp, crerus, queue, jrnl, flash, custody, lc, shadow, pwr, rst, clk, dbg, xspi, uart, i2c, mem; registers of PD 0, 1, 2, 3, 4, 5, 6, 7, 8, 9, 10, 11. -/
theorem execTmacv_moves (c : Fin 3) (ta : Fin 8) (tb : Fin 8) (col : Fin 8) (s : State) : ∃ s₁, execTmacv c ta tb col s = .next s₁ ∧ Moves 0x7ffffeffffffffd s s₁ := by
  unfold execTmacv
  refine ⟨_, rfl, ?_⟩
  refine .trans ?_ (State.issue_moves _ _ _ _ ?_ (by decide))
  exact .refl ..
  intro u6_0
  refine .step ?_ (State.complete_moves ..) (by decide)
  exact .refl ..

/-- What `execAdrain` may change: free, frozen, key, time, icu, adc, res, cmp, dac, rfm, lane, shed, hedCnt, pwm, trip, pad, loomCfg, fuseLoaded, gov, tmr, dma, dmaLast, health, core, ply, wld, seq, vrec, warp, crerus, queue, jrnl, flash, custody, lc, shadow, pwr, rst, clk, dbg, xspi, uart, i2c, mem; registers of PD 0, 1, 2, 3, 4, 5, 6, 7, 8, 9, 10, 11. -/
theorem execAdrain_moves (c : Fin 3) (td : Fin 8) (sh : Fin 16) (z : Bool) (s : State) : ∃ s₁, execAdrain c td sh z s = .next s₁ ∧ Moves 0x7ffffeffffffffd s s₁ := by
  unfold execAdrain
  refine ⟨_, rfl, ?_⟩
  refine .trans ?_ (State.issue_moves _ _ _ _ ?_ (by decide))
  exact .refl ..
  intro u6_0
  refine .step ?_ (State.complete_moves ..) (by decide)
  exact .refl ..

/-- What `execAzero` may change: free, frozen, key, time, icu, adc, res, cmp, dac, rfm, lane, shed, hedCnt, pwm, trip, pad, loomCfg, fuseLoaded, gov, tmr, dma, dmaLast, health, core, ply, wld, seq, vrec, warp, crerus, queue, jrnl, flash, custody, lc, shadow, pwr, rst, clk, dbg, xspi, uart, i2c, mem; registers of PD 0, 1, 2, 3, 4, 5, 6, 7, 8, 9, 10, 11. -/
theorem execAzero_moves (c : Fin 3) (s : State) : ∃ s₁, execAzero c s = .next s₁ ∧ Moves 0x7ffffeffffffffd s s₁ := by
  unfold execAzero
  refine ⟨_, rfl, ?_⟩
  refine .trans ?_ (State.issue_moves _ _ _ _ ?_ (by decide))
  exact .refl ..
  intro u3_0
  refine .step ?_ (State.complete_moves ..) (by decide)
  exact .refl ..

/-- What `execTrel` may change: free, frozen, key, time, icu, adc, res, cmp, dac, rfm, lane, shed, hedCnt, pwm, trip, pad, loomCfg, fuseLoaded, gov, tmr, dma, dmaLast, health, core, ply, wld, seq, vrec, warp, crerus, queue, jrnl, flash, custody, lc, shadow, pwr, rst, clk, dbg, xspi, uart, i2c, mem; registers of PD 0, 1, 2, 3, 4, 5, 6, 7, 8, 9, 10, 11. -/
theorem execTrel_moves (c : Fin 3) (t : Fin 8) (s : State) : ∃ s₁, execTrel c t s = .next s₁ ∧ Moves 0x7ffffeffffffffd s s₁ := by
  unfold execTrel
  refine ⟨_, rfl, ?_⟩
  refine .trans ?_ (State.issue_moves _ _ _ _ ?_ (by decide))
  exact .refl ..
  intro u4_0
  refine .step ?_ (State.complete_moves ..) (by decide)
  exact .refl ..

end Sys2Proof.Machine
end

