-- ==== Sys2Proof/Laws/RowsTimerRows.lean ====
section
/-!
SUPPORT. Every command of Machine/TimerRows.lean answers a next state, and what it may change.
-/

namespace Sys2Proof.Machine

/-- What `execTmrCompareMatch` may change: free, icu, cmp, lane, shed, hedCnt, pwm, trip, tmr, dma, vrec, crerus; registers of PD 6, 7, 8, 10. -/
theorem execTmrCompareMatch_moves (n : Fin 16) (b : Bool) (s : State) : ∃ s₁, execTmrCompareMatch n b s = .next s₁ ∧ Moves 0x17000005030f921 s s₁ := by
  unfold execTmrCompareMatch
  refine ⟨_, rfl, ?_⟩
  refine fireAll_moves ?_ (by decide)
  refine .step ?_ (State.tmrMatch_moves ..) (by decide)
  exact .refl ..

/-- What `execTmrOverflow` may change: free, icu, cmp, lane, shed, hedCnt, pwm, trip, tmr, dma, vrec, crerus; registers of PD 6, 7, 8, 10. -/
theorem execTmrOverflow_moves (n : Fin 16) (s : State) : ∃ s₁, execTmrOverflow n s = .next s₁ ∧ Moves 0x17000005030f921 s s₁ := by
  unfold execTmrOverflow
  refine ⟨_, rfl, ?_⟩
  refine fireAll_moves ?_ (by decide)
  refine .step ?_ (State.tmrWrap_moves ..) (by decide)
  exact .refl ..

/-- What `execTmrCapture` may change: free, icu, cmp, lane, shed, hedCnt, pwm, trip, tmr, dma, vrec, crerus; registers of PD 6, 7, 8, 10. -/
theorem execTmrCapture_moves (n : Fin 16) (rise : Bool) (held : ℕ) (s : State) : ∃ s₁, execTmrCapture n rise held s = .next s₁ ∧ Moves 0x17000005030f921 s s₁ := by
  unfold execTmrCapture
  refine ⟨_, rfl, ?_⟩
  apply Moves.ite
  refine fireAll_moves ?_ (by decide)
  refine .step ?_ (State.tmrCapture_moves ..) (by decide)
  exact .refl ..
  exact .refl ..

/-- What `execTmrCaptureRead` may change: resp; registers of PD 6. -/
theorem execTmrCaptureRead_moves (q : Who) (n : Fin 16) (s : State) : ∃ s₁, execTmrCaptureRead q n s = .next s₁ ∧ Moves 0x10000000000002 s s₁ := by
  unfold execTmrCaptureRead
  refine ⟨_, rfl, ?_⟩
  refine .trans ?_ (State.via_moves _ _ _ _ ?_ (by decide))
  exact .refl ..
  intro u4_0
  refine .step ?_ (State.readTmrCap_moves ..) (by decide)
  exact .refl ..

/-- What `execTmrCounterWrite` may change: resp, tmr; registers of PD 6. -/
theorem execTmrCounterWrite_moves (q : Who) (n : Fin 16) (v : Word) (s : State) : ∃ s₁, execTmrCounterWrite q n v s = .next s₁ ∧ Moves 0x10000000100002 s s₁ := by
  unfold execTmrCounterWrite
  refine ⟨_, rfl, ?_⟩
  refine .trans ?_ (State.via_moves _ _ _ _ ?_ (by decide))
  exact .refl ..
  intro u3_0
  refine .step ?_ (State.writeTmrCnt_moves ..) (by decide)
  exact .refl ..

/-- What `execTmrPinForce` may change: free, resp, frozen, icu, cmp, lane, shed, hedCnt, pwm, trip, tmr, dma, vrec, crerus; registers of PD 0, 1, 2, 3, 4, 5, 6, 7, 8, 9, 10, 11, 12. -/
theorem execTmrPinForce_moves (q : Who) (n : Fin 16) (v : Word) (s : State) : ∃ s₁, execTmrPinForce q n v s = .next s₁ ∧ Moves 0x7ffc0005030f927 s s₁ := by
  unfold execTmrPinForce
  refine ⟨_, rfl, ?_⟩
  refine .trans ?_ (State.via_moves _ _ _ _ ?_ (by decide))
  exact .refl ..
  intro u3_0
  refine .step ?_ (State.writeTmrPin_moves ..) (by decide)
  exact .refl ..

/-- What `execTmrEnable` may change: free, resp, frozen, icu, cmp, lane, shed, hedCnt, pwm, trip, tmr, dma, vrec, crerus; registers of PD 0, 1, 2, 3, 4, 5, 6, 7, 8, 9, 10, 11, 12. -/
theorem execTmrEnable_moves (q : Who) (n : Fin 16) (v : Word) (s : State) : ∃ s₁, execTmrEnable q n v s = .next s₁ ∧ Moves 0x7ffc0005030f927 s s₁ := by
  unfold execTmrEnable
  refine ⟨_, rfl, ?_⟩
  refine .trans ?_ (State.via_moves _ _ _ _ ?_ (by decide))
  exact .refl ..
  intro u3_0
  refine .step ?_ (State.writeTmrCtrl_moves ..) (by decide)
  exact .refl ..

/-- What `execWideValueLowRead` may change: resp, time. -/
theorem execWideValueLowRead_moves (q : Req) (w : Wide) (s : State) : ∃ s₁, execWideValueLowRead q w s = .next s₁ ∧ Moves 0x12 s s₁ := by
  unfold execWideValueLowRead
  refine ⟨_, rfl, ?_⟩
  refine .trans ?_ (State.via_moves _ _ _ _ ?_ (by decide))
  exact .refl ..
  intro u4_0
  refine .step ?_ (State.readWideLow_moves ..) (by decide)
  exact .refl ..

/-- What `execWideValueLowWrite` may change: resp, time. -/
theorem execWideValueLowWrite_moves (q : Who) (v : Word) (s : State) : ∃ s₁, execWideValueLowWrite q v s = .next s₁ ∧ Moves 0x12 s s₁ := by
  unfold execWideValueLowWrite
  refine ⟨_, rfl, ?_⟩
  refine .trans ?_ (State.via_moves _ _ _ _ ?_ (by decide))
  exact .refl ..
  intro u4_0
  refine .step ?_ (State.putLatch_moves ..) (by decide)
  exact .refl ..

/-- What `execWideValueHighWrite` may change: resp, time; registers of PD 6. -/
theorem execWideValueHighWrite_moves (q : Who) (v : Word) (s : State) : ∃ s₁, execWideValueHighWrite q v s = .next s₁ ∧ Moves 0x10000000000012 s s₁ := by
  unfold execWideValueHighWrite
  refine ⟨_, rfl, ?_⟩
  refine .trans ?_ (State.via_moves _ _ _ _ ?_ (by decide))
  exact .refl ..
  intro u4_0
  refine .step ?_ (State.commitWide_moves ..) (by decide)
  exact .refl ..

/-- What `execHeddleTick` may change: free, time, icu, cmp, lane, shed, hedCnt, pwm, trip, dma, vrec, crerus; registers of PD 6, 7, 8, 10. -/
theorem execHeddleTick_moves (s : State) : ∃ s₁, execHeddleTick s = .next s₁ ∧ Moves 0x17000005020f931 s s₁ := by
  unfold execHeddleTick
  refine ⟨_, rfl, ?_⟩
  apply Moves.ite
  refine .step ?_ (State.tick119_moves ..) (by decide)
  exact .refl ..
  exact .refl ..

/-- What `execTbStep` may change: free, time, icu, cmp, lane, shed, hedCnt, pwm, trip, gov, dma, vrec, warp, crerus; registers of PD 0, 6, 7, 8, 9, 10. -/
theorem execTbStep_moves (tb : BitVec 64) (s : State) : ∃ s₁, execTbStep tb s = .next s₁ ∧ Moves 0x1f040007028f931 s s₁ := by
  unfold execTbStep
  refine ⟨_, rfl, ?_⟩
  apply Moves.ite
  refine .step ?_ (State.stepTb_moves ..) (by decide)
  exact .refl ..
  exact .refl ..

/-- What `execStaggerLoad` may change: resp, frozen, icu, pwm, vrec; registers of PD 0, 1, 2, 3, 4, 5, 6, 7, 8, 9, 10, 11. -/
theorem execStaggerLoad_moves (q : Who) (g : Fin 4) (v : Word) (s : State) : ∃ s₁, execStaggerLoad q g v s = .next s₁ ∧ Moves 0x7ffc00010004026 s s₁ := by
  unfold execStaggerLoad
  refine ⟨_, rfl, ?_⟩
  refine .trans ?_ (State.via_moves _ _ _ _ ?_ (by decide))
  exact .refl ..
  intro u5_0
  refine .step ?_ (State.writeStg_moves ..) (by decide)
  exact .refl ..

/-- What `execGlobalStartGo` may change: resp, frozen, time, icu, vrec; registers of PD 0, 1, 2, 3, 4, 5, 6, 7, 8, 9, 10, 11. -/
theorem execGlobalStartGo_moves (q : Who) (s : State) : ∃ s₁, execGlobalStartGo q s = .next s₁ ∧ Moves 0x7ffc00010000036 s s₁ := by
  unfold execGlobalStartGo
  refine ⟨_, rfl, ?_⟩
  refine .trans ?_ (State.via_moves _ _ _ _ ?_ (by decide))
  exact .refl ..
  intro u3_0
  refine .step ?_ (State.writeGstart_moves ..) (by decide)
  exact .refl ..

/-- What `execGlobalStartArm` may change: resp, frozen, time, icu, vrec; registers of PD 0, 1, 2, 3, 4, 5, 6, 7, 8, 9, 10, 11. -/
theorem execGlobalStartArm_moves (q : Who) (s : State) : ∃ s₁, execGlobalStartArm q s = .next s₁ ∧ Moves 0x7ffc00010000036 s s₁ := by
  unfold execGlobalStartArm
  refine ⟨_, rfl, ?_⟩
  refine .trans ?_ (State.via_moves _ _ _ _ ?_ (by decide))
  exact .refl ..
  intro u3_0
  refine .step ?_ (State.writeGstart_moves ..) (by decide)
  exact .refl ..

/-- What `execGlobalStartCancel` may change: resp, frozen, time, icu, vrec; registers of PD 0, 1, 2, 3, 4, 5, 6, 7, 8, 9, 10, 11. -/
theorem execGlobalStartCancel_moves (q : Who) (s : State) : ∃ s₁, execGlobalStartCancel q s = .next s₁ ∧ Moves 0x7ffc00010000036 s s₁ := by
  unfold execGlobalStartCancel
  refine ⟨_, rfl, ?_⟩
  refine .trans ?_ (State.via_moves _ _ _ _ ?_ (by decide))
  exact .refl ..
  intro u3_0
  refine .step ?_ (State.writeGstart_moves ..) (by decide)
  exact .refl ..

/-- What `execGlobalStartRelease` may change: free, time, icu, cmp, lane, shed, hedCnt, pwm, trip, tmr, dma, vrec, crerus; registers of PD 6, 7, 8, 10. -/
theorem execGlobalStartRelease_moves (s : State) : ∃ s₁, execGlobalStartRelease s = .next s₁ ∧ Moves 0x17000005030f931 s s₁ := by
  unfold execGlobalStartRelease
  refine ⟨_, rfl, ?_⟩
  apply Moves.ite
  extract_lets +onlyGivenNames v3
  refine Moves.bindV (v := v3) ?_ ?_
  unfold v3
  apply Moves.ite
  refine .step ?_ (State.set_moves (d := 6) rfl) (by decide)
  exact .refl ..
  exact .refl ..
  intro hv3
  clear_value v3
  refine .step ?_ (State.releaseNow_moves ..) (by decide)
  refine .step ?_ (State.upd_time_moves ..) (by decide)
  assumption
  exact .refl ..

end Sys2Proof.Machine
end

