-- ==== Sys2Proof/Laws/RowsWarpRows.lean ====
section
/-!
SUPPORT. Every command of Machine/WarpRows.lean answers a next state, and what it may change.
-/

namespace Sys2Proof.Machine

/-- What `execWarpSuperframeSlot` may change: free, icu, warp, crerus, custody; registers of PD 6, 9. -/
theorem execWarpSuperframeSlot_moves (s : State) : ∃ s₁, execWarpSuperframeSlot s = .next s₁ ∧ Moves 0x90000460000021 s s₁ := by
  unfold execWarpSuperframeSlot
  refine ⟨_, rfl, ?_⟩
  refine .step ?_ (State.superframe_moves ..) (by decide)
  exact .refl ..

/-- What `execWarpTimeFrame` may change: free, icu, warp, custody; registers of PD 6, 9. -/
theorem execWarpTimeFrame_moves (tb : BitVec 64) (m : ℕ) (err : ℤ) (s : State) : ∃ s₁, execWarpTimeFrame tb m err s = .next s₁ ∧ Moves 0x90000420000021 s s₁ := by
  unfold execWarpTimeFrame
  refine ⟨_, rfl, ?_⟩
  refine .trans ?_ (State.inbound_moves _ _ ?_ (by decide))
  exact .refl ..
  intro u5_0
  refine .step ?_ (State.timeIn_moves ..) (by decide)
  exact .refl ..

/-- What `execWarpTimeStepFrame` may change: warp. -/
theorem execWarpTimeStepFrame_moves (tb : BitVec 64) (s : State) : ∃ s₁, execWarpTimeStepFrame tb s = .next s₁ ∧ Moves 0x20000000 s s₁ := by
  unfold execWarpTimeStepFrame
  refine ⟨_, rfl, ?_⟩
  refine .trans ?_ (State.inbound_moves _ _ ?_ (by decide))
  exact .refl ..
  intro u3_0
  refine .step ?_ (State.stepIn_moves ..) (by decide)
  exact .refl ..

/-- What `execWarpTimeEvent` may change: free, icu, cmp, lane, shed, hedCnt, pwm, trip, dma, vrec, warp, crerus; registers of PD 6, 7, 8, 10. -/
theorem execWarpTimeEvent_moves (s : State) : ∃ s₁, execWarpTimeEvent s = .next s₁ ∧ Moves 0x17000007020f921 s s₁ := by
  unfold execWarpTimeEvent
  refine ⟨_, rfl, ?_⟩
  apply Moves.ite
  apply Moves.ite
  refine .step ?_ (State.fire_moves ..) (by decide)
  refine .step ?_ (State.wrp_moves ..) (by decide)
  exact .refl ..
  refine .step ?_ (State.wrp_moves ..) (by decide)
  exact .refl ..
  exact .refl ..

/-- What `execWarpPhaseSlewStep` may change: registers of PD 9. -/
theorem execWarpPhaseSlewStep_moves (s : State) : ∃ s₁, execWarpPhaseSlewStep s = .next s₁ ∧ Moves 0x80000000000000 s s₁ := by
  unfold execWarpPhaseSlewStep
  refine ⟨_, rfl, ?_⟩
  apply Moves.ite
  exact .refl ..
  extract_lets +onlyGivenNames v2
  clear_value v2
  refine .step ?_ (State.lockTime_moves ..) (by decide)
  refine .step ?_ (State.sets_moves (d := 9) rfl) (by decide)
  exact .refl ..

/-- What `execWarpTimeLost` may change: icu; registers of PD 6, 9. -/
theorem execWarpTimeLost_moves (s : State) : ∃ s₁, execWarpTimeLost s = .next s₁ ∧ Moves 0x90000000000020 s s₁ := by
  unfold execWarpTimeLost
  refine ⟨_, rfl, ?_⟩
  refine .step ?_ (State.timeLost_moves ..) (by decide)
  exact .refl ..

/-- What `execWarpSyncTimeout` may change: icu; registers of PD 6, 9. -/
theorem execWarpSyncTimeout_moves (s : State) : ∃ s₁, execWarpSyncTimeout s = .next s₁ ∧ Moves 0x90000000000020 s s₁ := by
  unfold execWarpSyncTimeout
  refine ⟨_, rfl, ?_⟩
  apply Moves.ite
  exact .refl ..
  refine .step ?_ (State.timeLost_moves ..) (by decide)
  exact .refl ..

/-- What `execWarpGstartFrame` may change: icu, warp; registers of PD 6, 9. -/
theorem execWarpGstartFrame_moves (g : Fin 16) (t : BitVec 64) (s : State) : ∃ s₁, execWarpGstartFrame g t s = .next s₁ ∧ Moves 0x90000020000020 s s₁ := by
  unfold execWarpGstartFrame
  refine ⟨_, rfl, ?_⟩
  refine .trans ?_ (State.inbound_moves _ _ ?_ (by decide))
  exact .refl ..
  intro u4_0
  refine .step ?_ (State.gstartFrame_moves ..) (by decide)
  exact .refl ..

/-- What `execWarpGlobalStartRelease` may change: free, icu, cmp, lane, shed, hedCnt, pwm, trip, tmr, dma, vrec, warp, crerus; registers of PD 6, 7, 8, 9, 10. -/
theorem execWarpGlobalStartRelease_moves (s : State) : ∃ s₁, execWarpGlobalStartRelease s = .next s₁ ∧ Moves 0x1f000007030f921 s s₁ := by
  unfold execWarpGlobalStartRelease
  refine ⟨_, rfl, ?_⟩
  apply Moves.ite
  apply Moves.ite
  refine .step ?_ (State.releaseNow_moves ..) (by decide)
  refine .step ?_ (State.showArmed_moves ..) (by decide)
  refine .step ?_ (State.wrp_moves ..) (by decide)
  exact .refl ..
  refine .step ?_ (State.showArmed_moves ..) (by decide)
  refine .step ?_ (State.wrp_moves ..) (by decide)
  exact .refl ..
  exact .refl ..

/-- What `execWarpMsgData` may change: warp, crerus, pwr; registers of PD 0, 9. -/
theorem execWarpMsgData_moves (first : Bool) (last : Bool) (mpass : Bool) (dst : BitVec 8) (src : BitVec 8) (xid : BitVec 8) (frag : BitVec 8) (data : BitVec 32) (s : State) : ∃ s₁, execWarpMsgData first last mpass dst src xid frag data s = .next s₁ ∧ Moves 0x80404060000000 s s₁ := by
  unfold execWarpMsgData
  refine ⟨_, rfl, ?_⟩
  refine .trans ?_ (State.inbound_moves _ _ ?_ (by decide))
  exact .refl ..
  intro u10_0
  refine .trans ?_ (State.msgIn_moves _ _ _ _ _ _ _ ?_ ?_ (by decide))
  exact .refl ..
  intro u11_0
  refine .step ?_ (State.dataIn_moves ..) (by decide)
  exact .refl ..
  intro u11_0
  split
  refine .step ?_ (State.endSend_moves ..) (by decide)
  exact .refl ..
  exact .refl ..

/-- What `execWarpMsgAck` may change: warp; registers of PD 9. -/
theorem execWarpMsgAck_moves (mpass : Bool) (dst : BitVec 8) (src : BitVec 8) (xid : BitVec 8) (s : State) : ∃ s₁, execWarpMsgAck mpass dst src xid s = .next s₁ ∧ Moves 0x80000020000000 s s₁ := by
  unfold execWarpMsgAck
  refine ⟨_, rfl, ?_⟩
  refine .trans ?_ (State.inbound_moves _ _ ?_ (by decide))
  exact .refl ..
  intro u6_0
  refine .trans ?_ (State.msgIn_moves _ _ _ _ _ _ _ ?_ ?_ (by decide))
  exact .refl ..
  intro u7_0
  split
  apply Moves.ite
  refine .step ?_ (State.closeSend_moves ..) (by decide)
  exact .refl ..
  refine .step ?_ (State.updSend_moves ..) (by decide)
  refine .step ?_ (State.dropFrags_moves ..) (by decide)
  exact .refl ..
  exact .refl ..
  intro u7_0
  exact .refl ..

/-- What `execWarpMsgNakReset` may change: warp, crerus; registers of PD 9. -/
theorem execWarpMsgNakReset_moves (mpass : Bool) (dst : BitVec 8) (src : BitVec 8) (xid : BitVec 8) (s : State) : ∃ s₁, execWarpMsgNakReset mpass dst src xid s = .next s₁ ∧ Moves 0x80000060000000 s s₁ := by
  unfold execWarpMsgNakReset
  refine ⟨_, rfl, ?_⟩
  refine .trans ?_ (State.inbound_moves _ _ ?_ (by decide))
  exact .refl ..
  intro u6_0
  refine .trans ?_ (State.msgIn_moves _ _ _ _ _ _ _ ?_ ?_ (by decide))
  exact .refl ..
  intro u7_0
  split
  refine .step ?_ (State.endSend_moves ..) (by decide)
  exact .refl ..
  exact .refl ..
  intro u7_0
  exact .refl ..

/-- What `execWarpMsgNakBusy` may change: warp; registers of PD 9. -/
theorem execWarpMsgNakBusy_moves (mpass : Bool) (dst : BitVec 8) (src : BitVec 8) (xid : BitVec 8) (s : State) : ∃ s₁, execWarpMsgNakBusy mpass dst src xid s = .next s₁ ∧ Moves 0x80000020000000 s s₁ := by
  unfold execWarpMsgNakBusy
  refine ⟨_, rfl, ?_⟩
  refine .trans ?_ (State.inbound_moves _ _ ?_ (by decide))
  exact .refl ..
  intro u6_0
  refine .trans ?_ (State.msgIn_moves _ _ _ _ _ _ _ ?_ ?_ (by decide))
  exact .refl ..
  intro u7_0
  split
  apply Moves.ite
  exact .refl ..
  refine .step ?_ (State.updSend_moves ..) (by decide)
  refine .step ?_ (State.dropFrags_moves ..) (by decide)
  exact .refl ..
  exact .refl ..
  intro u7_0
  exact .refl ..

/-- What `execWarpMsgRetryTimeout` may change: warp. -/
theorem execWarpMsgRetryTimeout_moves (xid : BitVec 8) (s : State) : ∃ s₁, execWarpMsgRetryTimeout xid s = .next s₁ ∧ Moves 0x20000000 s s₁ := by
  unfold execWarpMsgRetryTimeout
  refine ⟨_, rfl, ?_⟩
  split
  apply Moves.ite
  exact .refl ..
  refine .step ?_ (State.sendFrags_moves ..) (by decide)
  exact .refl ..
  exact .refl ..

/-- What `execWarpMsgBusyResend` may change: warp. -/
theorem execWarpMsgBusyResend_moves (xid : BitVec 8) (s : State) : ∃ s₁, execWarpMsgBusyResend xid s = .next s₁ ∧ Moves 0x20000000 s s₁ := by
  unfold execWarpMsgBusyResend
  refine ⟨_, rfl, ?_⟩
  split
  apply Moves.ite
  refine .step ?_ (State.updSend_moves ..) (by decide)
  refine .step ?_ (State.sendFrags_moves ..) (by decide)
  exact .refl ..
  exact .refl ..
  exact .refl ..

/-- What `execWarpMsgDeadline` may change: warp, crerus. -/
theorem execWarpMsgDeadline_moves (xid : BitVec 8) (s : State) : ∃ s₁, execWarpMsgDeadline xid s = .next s₁ ∧ Moves 0x60000000 s s₁ := by
  unfold execWarpMsgDeadline
  refine ⟨_, rfl, ?_⟩
  split
  refine .step ?_ (State.endSend_moves ..) (by decide)
  exact .refl ..
  exact .refl ..

/-- What `execWarpEnumFrame` may change: icu, warp, crerus; registers of PD 6, 9. -/
theorem execWarpEnumFrame_moves (count : BitVec 9) (tag : BitVec 7) (dev : BitVec 48) (s : State) : ∃ s₁, execWarpEnumFrame count tag dev s = .next s₁ ∧ Moves 0x90000060000020 s s₁ := by
  unfold execWarpEnumFrame
  refine ⟨_, rfl, ?_⟩
  refine .trans ?_ (State.inbound_moves _ _ ?_ (by decide))
  exact .refl ..
  intro u3_0
  refine .step ?_ (State.enumIn_moves ..) (by decide)
  exact .refl ..

/-- What `execWarpCalMeasureFrame` may change: free, icu, warp; registers of PD 6, 9. -/
theorem execWarpCalMeasureFrame_moves (num : BitVec 16) (acc : BitVec 32) (t : BitVec 32) (s : State) : ∃ s₁, execWarpCalMeasureFrame num acc t s = .next s₁ ∧ Moves 0x90000020000021 s s₁ := by
  unfold execWarpCalMeasureFrame
  refine ⟨_, rfl, ?_⟩
  refine .trans ?_ (State.inbound_moves _ _ ?_ (by decide))
  exact .refl ..
  intro u5_0
  refine .step ?_ (State.measureIn_moves ..) (by decide)
  exact .refl ..

/-- What `execWarpCalResultFrame` may change: warp; registers of PD 9. -/
theorem execWarpCalResultFrame_moves (num : BitVec 16) (lbar : BitVec 32) (n : BitVec 16) (s : State) : ∃ s₁, execWarpCalResultFrame num lbar n s = .next s₁ ∧ Moves 0x80000020000000 s s₁ := by
  unfold execWarpCalResultFrame
  refine ⟨_, rfl, ?_⟩
  refine .trans ?_ (State.inbound_moves _ _ ?_ (by decide))
  exact .refl ..
  intro u5_0
  refine .step ?_ (State.resultIn_moves ..) (by decide)
  exact .refl ..

/-- What `execWarpCalibrationTimer` may change: warp. -/
theorem execWarpCalibrationTimer_moves (s : State) : ∃ s₁, execWarpCalibrationTimer s = .next s₁ ∧ Moves 0x20000000 s s₁ := by
  unfold execWarpCalibrationTimer
  refine ⟨_, rfl, ?_⟩
  refine .step ?_ (State.calDue_moves ..) (by decide)
  exact .refl ..

/-- What `execWarpCalibrationRetry` may change: warp. -/
theorem execWarpCalibrationRetry_moves (s : State) : ∃ s₁, execWarpCalibrationRetry s = .next s₁ ∧ Moves 0x20000000 s s₁ := by
  unfold execWarpCalibrationRetry
  refine ⟨_, rfl, ?_⟩
  apply Moves.ite
  refine .step ?_ (State.calDue_moves ..) (by decide)
  exact .refl ..
  exact .refl ..

/-- What `execWarpBypassEnterFrame` may change: warp. -/
theorem execWarpBypassEnterFrame_moves (node : BitVec 8) (s : State) : ∃ s₁, execWarpBypassEnterFrame node s = .next s₁ ∧ Moves 0x20000000 s s₁ := by
  unfold execWarpBypassEnterFrame
  refine ⟨_, rfl, ?_⟩
  refine .trans ?_ (State.inbound_moves _ _ ?_ (by decide))
  exact .refl ..
  intro u3_0
  refine .trans ?_ (State.bypassIn_moves _ _ _ _ ?_ (by decide))
  exact .refl ..
  intro u4_0
  refine .step ?_ (State.wrp_moves ..) (by decide)
  exact .refl ..

/-- What `execWarpBypassLeaveFrame` may change: free, warp, custody. -/
theorem execWarpBypassLeaveFrame_moves (node : BitVec 8) (s : State) : ∃ s₁, execWarpBypassLeaveFrame node s = .next s₁ ∧ Moves 0x420000001 s s₁ := by
  unfold execWarpBypassLeaveFrame
  refine ⟨_, rfl, ?_⟩
  refine .trans ?_ (State.inbound_moves _ _ ?_ (by decide))
  exact .refl ..
  intro u3_0
  refine .trans ?_ (State.bypassIn_moves _ _ _ _ ?_ (by decide))
  exact .refl ..
  intro u4_0
  refine .step ?_ (State.startEnum_moves ..) (by decide)
  refine .step ?_ (State.wrp_moves ..) (by decide)
  exact .refl ..

/-- What `execWarpBypassBreakFrame` may change: warp. -/
theorem execWarpBypassBreakFrame_moves (node : BitVec 8) (s : State) : ∃ s₁, execWarpBypassBreakFrame node s = .next s₁ ∧ Moves 0x20000000 s s₁ := by
  unfold execWarpBypassBreakFrame
  refine ⟨_, rfl, ?_⟩
  refine .trans ?_ (State.inbound_moves _ _ ?_ (by decide))
  exact .refl ..
  intro u3_0
  refine .trans ?_ (State.bypassIn_moves _ _ _ _ ?_ (by decide))
  exact .refl ..
  intro u4_0
  exact .refl ..

/-- What `execWarpBypassHealedFrame` may change: warp. -/
theorem execWarpBypassHealedFrame_moves (node : BitVec 8) (s : State) : ∃ s₁, execWarpBypassHealedFrame node s = .next s₁ ∧ Moves 0x20000000 s s₁ := by
  unfold execWarpBypassHealedFrame
  refine ⟨_, rfl, ?_⟩
  refine .trans ?_ (State.inbound_moves _ _ ?_ (by decide))
  exact .refl ..
  intro u3_0
  refine .trans ?_ (State.bypassIn_moves _ _ _ _ ?_ (by decide))
  exact .refl ..
  intro u4_0
  exact .refl ..

/-- What `execWarpBypassResetFrame` may change: frozen, key, time, icu, adc, res, cmp, dac, rfm, lane, shed, hedCnt, pwm, trip, pad, loomCfg, fuseLoaded, gov, tmr, dma, dmaLast, core, ply, wld, seq, vrec, warp, crerus, queue, jrnl, flash, custody, lc, shadow, pwr, rst, clk, dbg, xspi, uart, i2c, mem; registers of PD 0, 1, 2, 3, 4, 5, 6, 7, 8, 9, 10, 11. -/
theorem execWarpBypassResetFrame_moves (node : BitVec 8) (s : State) : ∃ s₁, execWarpBypassResetFrame node s = .next s₁ ∧ Moves 0x7ffffefff7ffffc s s₁ := by
  unfold execWarpBypassResetFrame
  refine ⟨_, rfl, ?_⟩
  refine .trans ?_ (State.inbound_moves _ _ ?_ (by decide))
  exact .refl ..
  intro u3_0
  extract_lets +onlyGivenNames v4
  refine Moves.bindV (v := v4) ?_ ?_
  unfold v4
  refine .trans ?_ (State.bypassIn_moves _ _ _ _ ?_ (by decide))
  exact .refl ..
  intro u5_0
  exact .refl ..
  intro hv4
  clear_value v4
  apply Moves.ite
  refine .step ?_ (State.askReset_moves ..) (by decide)
  assumption
  assumption

/-- What `execWarpEmptyFrame` may change: warp. -/
theorem execWarpEmptyFrame_moves (s : State) : ∃ s₁, execWarpEmptyFrame s = .next s₁ ∧ Moves 0x20000000 s s₁ := by
  unfold execWarpEmptyFrame
  refine ⟨_, rfl, ?_⟩
  refine .trans ?_ (State.inbound_moves _ _ ?_ (by decide))
  exact .refl ..
  intro u2_0
  refine .step ?_ (State.emptyIn_moves ..) (by decide)
  exact .refl ..

/-- What `execWarpReservedFrame` may change: warp; registers of PD 9. -/
theorem execWarpReservedFrame_moves (a0 : BitVec 5) (a1 : BitVec 64) (s : State) : ∃ s₁, execWarpReservedFrame a0 a1 s = .next s₁ ∧ Moves 0x80000020000000 s s₁ := by
  unfold execWarpReservedFrame
  refine ⟨_, rfl, ?_⟩
  refine .trans ?_ (State.inbound_moves _ _ ?_ (by decide))
  exact .refl ..
  intro u3_0
  refine .step ?_ (State.pass_moves ..) (by decide)
  refine .step ?_ (State.countBad_moves ..) (by decide)
  exact .refl ..

/-- What `execWarpCrcFailure` may change: icu, warp; registers of PD 6, 9. -/
theorem execWarpCrcFailure_moves (s : State) : ∃ s₁, execWarpCrcFailure s = .next s₁ ∧ Moves 0x90000020000020 s s₁ := by
  unfold execWarpCrcFailure
  refine ⟨_, rfl, ?_⟩
  refine .trans ?_ (State.inbound_moves _ _ ?_ (by decide))
  exact .refl ..
  intro u2_0
  refine .step ?_ (State.crcFail_moves ..) (by decide)
  exact .refl ..

/-- What `execWarpLinkDown` may change: icu, warp; registers of PD 6, 9. -/
theorem execWarpLinkDown_moves (s : State) : ∃ s₁, execWarpLinkDown s = .next s₁ ∧ Moves 0x90000020000020 s s₁ := by
  unfold execWarpLinkDown
  refine ⟨_, rfl, ?_⟩
  apply Moves.ite
  exact .refl ..
  extract_lets +onlyGivenNames v2
  refine Moves.bindV (v := v2) ?_ ?_
  unfold v2
  refine .step ?_ (State.raise_moves ..) (by decide)
  refine .step ?_ (State.set_moves (d := 9) rfl) (by decide)
  exact .refl ..
  intro hv2
  clear_value v2
  refine .step ?_ (State.queueFrame_moves ..) (by decide)
  assumption

/-- What `execWarpRingOpen` may change: icu; registers of PD 6, 9. -/
theorem execWarpRingOpen_moves (s : State) : ∃ s₁, execWarpRingOpen s = .next s₁ ∧ Moves 0x90000000000020 s s₁ := by
  unfold execWarpRingOpen
  refine ⟨_, rfl, ?_⟩
  apply Moves.ite
  exact .refl ..
  refine .step ?_ (State.raise_moves ..) (by decide)
  refine .step ?_ (State.set_moves (d := 9) rfl) (by decide)
  exact .refl ..

/-- What `execWarpLinkRestored` may change: warp; registers of PD 9. -/
theorem execWarpLinkRestored_moves (s : State) : ∃ s₁, execWarpLinkRestored s = .next s₁ ∧ Moves 0x80000020000000 s s₁ := by
  unfold execWarpLinkRestored
  refine ⟨_, rfl, ?_⟩
  apply Moves.ite
  exact .refl ..
  refine .step ?_ (State.queueFrame_moves ..) (by decide)
  refine .step ?_ (State.set_moves (d := 9) rfl) (by decide)
  exact .refl ..

/-- What `execWarpSlotLoad` may change: resp, frozen, icu, pwm, vrec; registers of PD 0, 1, 2, 3, 4, 5, 6, 7, 8, 9, 10, 11. -/
theorem execWarpSlotLoad_moves (q : Who) (v : Word) (s : State) : ∃ s₁, execWarpSlotLoad q v s = .next s₁ ∧ Moves 0x7ffc00010004026 s s₁ := by
  unfold execWarpSlotLoad
  refine ⟨_, rfl, ?_⟩
  refine .trans ?_ (State.via_moves _ _ _ _ ?_ (by decide))
  exact .refl ..
  intro u4_0
  refine .step ?_ (State.writeWarpSlot_moves ..) (by decide)
  exact .refl ..

end Sys2Proof.Machine
end

