-- ==== Sys2Proof/Laws/State.lean ====
section
/-!
SUPPORT. The fields of the state after each named update, and the registers after a write of one field.
-/

namespace Sys2Proof.Machine

/-! ### Register fields -/

theorem Regs.get_set (r : Regs) (f : Fld) (v : Nat) : (Regs.set r f v).get f = v % 2 ^ f.w := by
  induction r with
  | nil => simp [Regs.set, Regs.get]
  | cons a r ih =>
    obtain ⟨k, u⟩ := a
    simp only [Regs.set]
    split
    · simp [Regs.get]
    · split
      · simp [Regs.get]
      · rename_i h _; simp [Regs.get, h, ih]

theorem Regs.get_set_of_ne (r : Regs) {f g : Fld} (h : f ≠ g) (v : Nat) : (Regs.set r f v).get g = r.get g := by
  induction r with
  | nil => simp [Regs.set, Regs.get, h]
  | cons a r ih =>
    obtain ⟨k, u⟩ := a
    simp only [Regs.set]
    split
    · subst_vars; simp [Regs.get, h]
    · split
      · simp [Regs.get, h]
      · simp [Regs.get, ih]

@[simp] theorem State.get_set (s : State) (f : Fld) (v : Nat) : (s.set f v).get f = v % 2 ^ f.w := Regs.get_set ..

theorem State.get_set_ne (s : State) {f g : Fld} (h : f ≠ g) (v : Nat) : (s.set f v).get g = s.get g :=
  Regs.get_set_of_ne _ h _

@[simp] theorem State.get_setB (s : State) (f : Fld) (b : Bool) : (s.setB f b).get f = b2n b % 2 ^ f.w :=
  Regs.get_set ..

theorem State.get_setB_ne (s : State) {f g : Fld} (h : f ≠ g) (b : Bool) : (s.setB f b).get g = s.get g :=
  Regs.get_set_of_ne _ h _

theorem State.get_inc_ne (s : State) {f g : Fld} (h : f ≠ g) : (s.inc f).get g = s.get g := Regs.get_set_of_ne _ h _

theorem State.get_setBit_ne (s : State) {f g : Fld} (h : f ≠ g) (i : Nat) : (s.setBit f i).get g = s.get g :=
  Regs.get_set_of_ne _ h _

theorem State.get_clrBit_ne (s : State) {f g : Fld} (h : f ≠ g) (i : Nat) : (s.clrBit f i).get g = s.get g :=
  Regs.get_set_of_ne _ h _

@[simp] theorem State.get_reply (s : State) (q : Req) (c : RespCode) (d : Nat) (f : Fld) :
    (s.reply q c d).get f = s.get f := rfl

@[simp] theorem State.get_updCore (s : State) (c : Nat) (g : Core → Core) (f : Fld) :
    (s.updCore c g).get f = s.get f := rfl

/-! ### The fields after each named update -/

@[simp] theorem State.set_pending (s : State) (f : Fld) (v : Nat) : (s.set f v).pending = s.pending := rfl
@[simp] theorem State.set_free (s : State) (f : Fld) (v : Nat) : (s.set f v).free = s.free := rfl
@[simp] theorem State.set_resp (s : State) (f : Fld) (v : Nat) : (s.set f v).resp = s.resp := rfl
@[simp] theorem State.set_frozen (s : State) (f : Fld) (v : Nat) : (s.set f v).frozen = s.frozen := rfl
@[simp] theorem State.set_key (s : State) (f : Fld) (v : Nat) : (s.set f v).key = s.key := rfl
@[simp] theorem State.set_time (s : State) (f : Fld) (v : Nat) : (s.set f v).time = s.time := rfl
@[simp] theorem State.set_icu (s : State) (f : Fld) (v : Nat) : (s.set f v).icu = s.icu := rfl
@[simp] theorem State.set_adc (s : State) (f : Fld) (v : Nat) : (s.set f v).adc = s.adc := rfl
@[simp] theorem State.set_res (s : State) (f : Fld) (v : Nat) : (s.set f v).res = s.res := rfl
@[simp] theorem State.set_cmp (s : State) (f : Fld) (v : Nat) : (s.set f v).cmp = s.cmp := rfl
@[simp] theorem State.set_dac (s : State) (f : Fld) (v : Nat) : (s.set f v).dac = s.dac := rfl
@[simp] theorem State.set_rfm (s : State) (f : Fld) (v : Nat) : (s.set f v).rfm = s.rfm := rfl
@[simp] theorem State.set_lane (s : State) (f : Fld) (v : Nat) : (s.set f v).lane = s.lane := rfl
@[simp] theorem State.set_shed (s : State) (f : Fld) (v : Nat) : (s.set f v).shed = s.shed := rfl
@[simp] theorem State.set_hedCnt (s : State) (f : Fld) (v : Nat) : (s.set f v).hedCnt = s.hedCnt := rfl
@[simp] theorem State.set_pwm (s : State) (f : Fld) (v : Nat) : (s.set f v).pwm = s.pwm := rfl
@[simp] theorem State.set_trip (s : State) (f : Fld) (v : Nat) : (s.set f v).trip = s.trip := rfl
@[simp] theorem State.set_pad (s : State) (f : Fld) (v : Nat) : (s.set f v).pad = s.pad := rfl
@[simp] theorem State.set_loomCfg (s : State) (f : Fld) (v : Nat) : (s.set f v).loomCfg = s.loomCfg := rfl
@[simp] theorem State.set_fuseLoaded (s : State) (f : Fld) (v : Nat) : (s.set f v).fuseLoaded = s.fuseLoaded := rfl
@[simp] theorem State.set_gov (s : State) (f : Fld) (v : Nat) : (s.set f v).gov = s.gov := rfl
@[simp] theorem State.set_tmr (s : State) (f : Fld) (v : Nat) : (s.set f v).tmr = s.tmr := rfl
@[simp] theorem State.set_dma (s : State) (f : Fld) (v : Nat) : (s.set f v).dma = s.dma := rfl
@[simp] theorem State.set_dmaLast (s : State) (f : Fld) (v : Nat) : (s.set f v).dmaLast = s.dmaLast := rfl
@[simp] theorem State.set_health (s : State) (f : Fld) (v : Nat) : (s.set f v).health = s.health := rfl
@[simp] theorem State.set_core (s : State) (f : Fld) (v : Nat) : (s.set f v).core = s.core := rfl
@[simp] theorem State.set_ply (s : State) (f : Fld) (v : Nat) : (s.set f v).ply = s.ply := rfl
@[simp] theorem State.set_wld (s : State) (f : Fld) (v : Nat) : (s.set f v).wld = s.wld := rfl
@[simp] theorem State.set_seq (s : State) (f : Fld) (v : Nat) : (s.set f v).seq = s.seq := rfl
@[simp] theorem State.set_vrec (s : State) (f : Fld) (v : Nat) : (s.set f v).vrec = s.vrec := rfl
@[simp] theorem State.set_warp (s : State) (f : Fld) (v : Nat) : (s.set f v).warp = s.warp := rfl
@[simp] theorem State.set_crerus (s : State) (f : Fld) (v : Nat) : (s.set f v).crerus = s.crerus := rfl
@[simp] theorem State.set_queue (s : State) (f : Fld) (v : Nat) : (s.set f v).queue = s.queue := rfl
@[simp] theorem State.set_jrnl (s : State) (f : Fld) (v : Nat) : (s.set f v).jrnl = s.jrnl := rfl
@[simp] theorem State.set_flash (s : State) (f : Fld) (v : Nat) : (s.set f v).flash = s.flash := rfl
@[simp] theorem State.set_custody (s : State) (f : Fld) (v : Nat) : (s.set f v).custody = s.custody := rfl
@[simp] theorem State.set_lc (s : State) (f : Fld) (v : Nat) : (s.set f v).lc = s.lc := rfl
@[simp] theorem State.set_fuse (s : State) (f : Fld) (v : Nat) : (s.set f v).fuse = s.fuse := rfl
@[simp] theorem State.set_shadow (s : State) (f : Fld) (v : Nat) : (s.set f v).shadow = s.shadow := rfl
@[simp] theorem State.set_pwr (s : State) (f : Fld) (v : Nat) : (s.set f v).pwr = s.pwr := rfl
@[simp] theorem State.set_rst (s : State) (f : Fld) (v : Nat) : (s.set f v).rst = s.rst := rfl
@[simp] theorem State.set_clk (s : State) (f : Fld) (v : Nat) : (s.set f v).clk = s.clk := rfl
@[simp] theorem State.set_dbg (s : State) (f : Fld) (v : Nat) : (s.set f v).dbg = s.dbg := rfl
@[simp] theorem State.set_xspi (s : State) (f : Fld) (v : Nat) : (s.set f v).xspi = s.xspi := rfl
@[simp] theorem State.set_uart (s : State) (f : Fld) (v : Nat) : (s.set f v).uart = s.uart := rfl
@[simp] theorem State.set_i2c (s : State) (f : Fld) (v : Nat) : (s.set f v).i2c = s.i2c := rfl
@[simp] theorem State.set_mem (s : State) (f : Fld) (v : Nat) : (s.set f v).mem = s.mem := rfl

@[simp] theorem State.setB_pending (s : State) (f : Fld) (b : Bool) : (s.setB f b).pending = s.pending := rfl
@[simp] theorem State.setB_free (s : State) (f : Fld) (b : Bool) : (s.setB f b).free = s.free := rfl
@[simp] theorem State.setB_resp (s : State) (f : Fld) (b : Bool) : (s.setB f b).resp = s.resp := rfl
@[simp] theorem State.setB_frozen (s : State) (f : Fld) (b : Bool) : (s.setB f b).frozen = s.frozen := rfl
@[simp] theorem State.setB_key (s : State) (f : Fld) (b : Bool) : (s.setB f b).key = s.key := rfl
@[simp] theorem State.setB_time (s : State) (f : Fld) (b : Bool) : (s.setB f b).time = s.time := rfl
@[simp] theorem State.setB_icu (s : State) (f : Fld) (b : Bool) : (s.setB f b).icu = s.icu := rfl
@[simp] theorem State.setB_adc (s : State) (f : Fld) (b : Bool) : (s.setB f b).adc = s.adc := rfl
@[simp] theorem State.setB_res (s : State) (f : Fld) (b : Bool) : (s.setB f b).res = s.res := rfl
@[simp] theorem State.setB_cmp (s : State) (f : Fld) (b : Bool) : (s.setB f b).cmp = s.cmp := rfl
@[simp] theorem State.setB_dac (s : State) (f : Fld) (b : Bool) : (s.setB f b).dac = s.dac := rfl
@[simp] theorem State.setB_rfm (s : State) (f : Fld) (b : Bool) : (s.setB f b).rfm = s.rfm := rfl
@[simp] theorem State.setB_lane (s : State) (f : Fld) (b : Bool) : (s.setB f b).lane = s.lane := rfl
@[simp] theorem State.setB_shed (s : State) (f : Fld) (b : Bool) : (s.setB f b).shed = s.shed := rfl
@[simp] theorem State.setB_hedCnt (s : State) (f : Fld) (b : Bool) : (s.setB f b).hedCnt = s.hedCnt := rfl
@[simp] theorem State.setB_pwm (s : State) (f : Fld) (b : Bool) : (s.setB f b).pwm = s.pwm := rfl
@[simp] theorem State.setB_trip (s : State) (f : Fld) (b : Bool) : (s.setB f b).trip = s.trip := rfl
@[simp] theorem State.setB_pad (s : State) (f : Fld) (b : Bool) : (s.setB f b).pad = s.pad := rfl
@[simp] theorem State.setB_loomCfg (s : State) (f : Fld) (b : Bool) : (s.setB f b).loomCfg = s.loomCfg := rfl
@[simp] theorem State.setB_fuseLoaded (s : State) (f : Fld) (b : Bool) : (s.setB f b).fuseLoaded = s.fuseLoaded := rfl
@[simp] theorem State.setB_gov (s : State) (f : Fld) (b : Bool) : (s.setB f b).gov = s.gov := rfl
@[simp] theorem State.setB_tmr (s : State) (f : Fld) (b : Bool) : (s.setB f b).tmr = s.tmr := rfl
@[simp] theorem State.setB_dma (s : State) (f : Fld) (b : Bool) : (s.setB f b).dma = s.dma := rfl
@[simp] theorem State.setB_dmaLast (s : State) (f : Fld) (b : Bool) : (s.setB f b).dmaLast = s.dmaLast := rfl
@[simp] theorem State.setB_health (s : State) (f : Fld) (b : Bool) : (s.setB f b).health = s.health := rfl
@[simp] theorem State.setB_core (s : State) (f : Fld) (b : Bool) : (s.setB f b).core = s.core := rfl
@[simp] theorem State.setB_ply (s : State) (f : Fld) (b : Bool) : (s.setB f b).ply = s.ply := rfl
@[simp] theorem State.setB_wld (s : State) (f : Fld) (b : Bool) : (s.setB f b).wld = s.wld := rfl
@[simp] theorem State.setB_seq (s : State) (f : Fld) (b : Bool) : (s.setB f b).seq = s.seq := rfl
@[simp] theorem State.setB_vrec (s : State) (f : Fld) (b : Bool) : (s.setB f b).vrec = s.vrec := rfl
@[simp] theorem State.setB_warp (s : State) (f : Fld) (b : Bool) : (s.setB f b).warp = s.warp := rfl
@[simp] theorem State.setB_crerus (s : State) (f : Fld) (b : Bool) : (s.setB f b).crerus = s.crerus := rfl
@[simp] theorem State.setB_queue (s : State) (f : Fld) (b : Bool) : (s.setB f b).queue = s.queue := rfl
@[simp] theorem State.setB_jrnl (s : State) (f : Fld) (b : Bool) : (s.setB f b).jrnl = s.jrnl := rfl
@[simp] theorem State.setB_flash (s : State) (f : Fld) (b : Bool) : (s.setB f b).flash = s.flash := rfl
@[simp] theorem State.setB_custody (s : State) (f : Fld) (b : Bool) : (s.setB f b).custody = s.custody := rfl
@[simp] theorem State.setB_lc (s : State) (f : Fld) (b : Bool) : (s.setB f b).lc = s.lc := rfl
@[simp] theorem State.setB_fuse (s : State) (f : Fld) (b : Bool) : (s.setB f b).fuse = s.fuse := rfl
@[simp] theorem State.setB_shadow (s : State) (f : Fld) (b : Bool) : (s.setB f b).shadow = s.shadow := rfl
@[simp] theorem State.setB_pwr (s : State) (f : Fld) (b : Bool) : (s.setB f b).pwr = s.pwr := rfl
@[simp] theorem State.setB_rst (s : State) (f : Fld) (b : Bool) : (s.setB f b).rst = s.rst := rfl
@[simp] theorem State.setB_clk (s : State) (f : Fld) (b : Bool) : (s.setB f b).clk = s.clk := rfl
@[simp] theorem State.setB_dbg (s : State) (f : Fld) (b : Bool) : (s.setB f b).dbg = s.dbg := rfl
@[simp] theorem State.setB_xspi (s : State) (f : Fld) (b : Bool) : (s.setB f b).xspi = s.xspi := rfl
@[simp] theorem State.setB_uart (s : State) (f : Fld) (b : Bool) : (s.setB f b).uart = s.uart := rfl
@[simp] theorem State.setB_i2c (s : State) (f : Fld) (b : Bool) : (s.setB f b).i2c = s.i2c := rfl
@[simp] theorem State.setB_mem (s : State) (f : Fld) (b : Bool) : (s.setB f b).mem = s.mem := rfl

@[simp] theorem State.inc_pending (s : State) (f : Fld) : (s.inc f).pending = s.pending := rfl
@[simp] theorem State.inc_free (s : State) (f : Fld) : (s.inc f).free = s.free := rfl
@[simp] theorem State.inc_resp (s : State) (f : Fld) : (s.inc f).resp = s.resp := rfl
@[simp] theorem State.inc_frozen (s : State) (f : Fld) : (s.inc f).frozen = s.frozen := rfl
@[simp] theorem State.inc_key (s : State) (f : Fld) : (s.inc f).key = s.key := rfl
@[simp] theorem State.inc_time (s : State) (f : Fld) : (s.inc f).time = s.time := rfl
@[simp] theorem State.inc_icu (s : State) (f : Fld) : (s.inc f).icu = s.icu := rfl
@[simp] theorem State.inc_adc (s : State) (f : Fld) : (s.inc f).adc = s.adc := rfl
@[simp] theorem State.inc_res (s : State) (f : Fld) : (s.inc f).res = s.res := rfl
@[simp] theorem State.inc_cmp (s : State) (f : Fld) : (s.inc f).cmp = s.cmp := rfl
@[simp] theorem State.inc_dac (s : State) (f : Fld) : (s.inc f).dac = s.dac := rfl
@[simp] theorem State.inc_rfm (s : State) (f : Fld) : (s.inc f).rfm = s.rfm := rfl
@[simp] theorem State.inc_lane (s : State) (f : Fld) : (s.inc f).lane = s.lane := rfl
@[simp] theorem State.inc_shed (s : State) (f : Fld) : (s.inc f).shed = s.shed := rfl
@[simp] theorem State.inc_hedCnt (s : State) (f : Fld) : (s.inc f).hedCnt = s.hedCnt := rfl
@[simp] theorem State.inc_pwm (s : State) (f : Fld) : (s.inc f).pwm = s.pwm := rfl
@[simp] theorem State.inc_trip (s : State) (f : Fld) : (s.inc f).trip = s.trip := rfl
@[simp] theorem State.inc_pad (s : State) (f : Fld) : (s.inc f).pad = s.pad := rfl
@[simp] theorem State.inc_loomCfg (s : State) (f : Fld) : (s.inc f).loomCfg = s.loomCfg := rfl
@[simp] theorem State.inc_fuseLoaded (s : State) (f : Fld) : (s.inc f).fuseLoaded = s.fuseLoaded := rfl
@[simp] theorem State.inc_gov (s : State) (f : Fld) : (s.inc f).gov = s.gov := rfl
@[simp] theorem State.inc_tmr (s : State) (f : Fld) : (s.inc f).tmr = s.tmr := rfl
@[simp] theorem State.inc_dma (s : State) (f : Fld) : (s.inc f).dma = s.dma := rfl
@[simp] theorem State.inc_dmaLast (s : State) (f : Fld) : (s.inc f).dmaLast = s.dmaLast := rfl
@[simp] theorem State.inc_health (s : State) (f : Fld) : (s.inc f).health = s.health := rfl
@[simp] theorem State.inc_core (s : State) (f : Fld) : (s.inc f).core = s.core := rfl
@[simp] theorem State.inc_ply (s : State) (f : Fld) : (s.inc f).ply = s.ply := rfl
@[simp] theorem State.inc_wld (s : State) (f : Fld) : (s.inc f).wld = s.wld := rfl
@[simp] theorem State.inc_seq (s : State) (f : Fld) : (s.inc f).seq = s.seq := rfl
@[simp] theorem State.inc_vrec (s : State) (f : Fld) : (s.inc f).vrec = s.vrec := rfl
@[simp] theorem State.inc_warp (s : State) (f : Fld) : (s.inc f).warp = s.warp := rfl
@[simp] theorem State.inc_crerus (s : State) (f : Fld) : (s.inc f).crerus = s.crerus := rfl
@[simp] theorem State.inc_queue (s : State) (f : Fld) : (s.inc f).queue = s.queue := rfl
@[simp] theorem State.inc_jrnl (s : State) (f : Fld) : (s.inc f).jrnl = s.jrnl := rfl
@[simp] theorem State.inc_flash (s : State) (f : Fld) : (s.inc f).flash = s.flash := rfl
@[simp] theorem State.inc_custody (s : State) (f : Fld) : (s.inc f).custody = s.custody := rfl
@[simp] theorem State.inc_lc (s : State) (f : Fld) : (s.inc f).lc = s.lc := rfl
@[simp] theorem State.inc_fuse (s : State) (f : Fld) : (s.inc f).fuse = s.fuse := rfl
@[simp] theorem State.inc_shadow (s : State) (f : Fld) : (s.inc f).shadow = s.shadow := rfl
@[simp] theorem State.inc_pwr (s : State) (f : Fld) : (s.inc f).pwr = s.pwr := rfl
@[simp] theorem State.inc_rst (s : State) (f : Fld) : (s.inc f).rst = s.rst := rfl
@[simp] theorem State.inc_clk (s : State) (f : Fld) : (s.inc f).clk = s.clk := rfl
@[simp] theorem State.inc_dbg (s : State) (f : Fld) : (s.inc f).dbg = s.dbg := rfl
@[simp] theorem State.inc_xspi (s : State) (f : Fld) : (s.inc f).xspi = s.xspi := rfl
@[simp] theorem State.inc_uart (s : State) (f : Fld) : (s.inc f).uart = s.uart := rfl
@[simp] theorem State.inc_i2c (s : State) (f : Fld) : (s.inc f).i2c = s.i2c := rfl
@[simp] theorem State.inc_mem (s : State) (f : Fld) : (s.inc f).mem = s.mem := rfl

@[simp] theorem State.setBit_pending (s : State) (f : Fld) (i : Nat) : (s.setBit f i).pending = s.pending := rfl
@[simp] theorem State.setBit_free (s : State) (f : Fld) (i : Nat) : (s.setBit f i).free = s.free := rfl
@[simp] theorem State.setBit_resp (s : State) (f : Fld) (i : Nat) : (s.setBit f i).resp = s.resp := rfl
@[simp] theorem State.setBit_frozen (s : State) (f : Fld) (i : Nat) : (s.setBit f i).frozen = s.frozen := rfl
@[simp] theorem State.setBit_key (s : State) (f : Fld) (i : Nat) : (s.setBit f i).key = s.key := rfl
@[simp] theorem State.setBit_time (s : State) (f : Fld) (i : Nat) : (s.setBit f i).time = s.time := rfl
@[simp] theorem State.setBit_icu (s : State) (f : Fld) (i : Nat) : (s.setBit f i).icu = s.icu := rfl
@[simp] theorem State.setBit_adc (s : State) (f : Fld) (i : Nat) : (s.setBit f i).adc = s.adc := rfl
@[simp] theorem State.setBit_res (s : State) (f : Fld) (i : Nat) : (s.setBit f i).res = s.res := rfl
@[simp] theorem State.setBit_cmp (s : State) (f : Fld) (i : Nat) : (s.setBit f i).cmp = s.cmp := rfl
@[simp] theorem State.setBit_dac (s : State) (f : Fld) (i : Nat) : (s.setBit f i).dac = s.dac := rfl
@[simp] theorem State.setBit_rfm (s : State) (f : Fld) (i : Nat) : (s.setBit f i).rfm = s.rfm := rfl
@[simp] theorem State.setBit_lane (s : State) (f : Fld) (i : Nat) : (s.setBit f i).lane = s.lane := rfl
@[simp] theorem State.setBit_shed (s : State) (f : Fld) (i : Nat) : (s.setBit f i).shed = s.shed := rfl
@[simp] theorem State.setBit_hedCnt (s : State) (f : Fld) (i : Nat) : (s.setBit f i).hedCnt = s.hedCnt := rfl
@[simp] theorem State.setBit_pwm (s : State) (f : Fld) (i : Nat) : (s.setBit f i).pwm = s.pwm := rfl
@[simp] theorem State.setBit_trip (s : State) (f : Fld) (i : Nat) : (s.setBit f i).trip = s.trip := rfl
@[simp] theorem State.setBit_pad (s : State) (f : Fld) (i : Nat) : (s.setBit f i).pad = s.pad := rfl
@[simp] theorem State.setBit_loomCfg (s : State) (f : Fld) (i : Nat) : (s.setBit f i).loomCfg = s.loomCfg := rfl
@[simp] theorem State.setBit_fuseLoaded (s : State) (f : Fld) (i : Nat) : (s.setBit f i).fuseLoaded = s.fuseLoaded := rfl
@[simp] theorem State.setBit_gov (s : State) (f : Fld) (i : Nat) : (s.setBit f i).gov = s.gov := rfl
@[simp] theorem State.setBit_tmr (s : State) (f : Fld) (i : Nat) : (s.setBit f i).tmr = s.tmr := rfl
@[simp] theorem State.setBit_dma (s : State) (f : Fld) (i : Nat) : (s.setBit f i).dma = s.dma := rfl
@[simp] theorem State.setBit_dmaLast (s : State) (f : Fld) (i : Nat) : (s.setBit f i).dmaLast = s.dmaLast := rfl
@[simp] theorem State.setBit_health (s : State) (f : Fld) (i : Nat) : (s.setBit f i).health = s.health := rfl
@[simp] theorem State.setBit_core (s : State) (f : Fld) (i : Nat) : (s.setBit f i).core = s.core := rfl
@[simp] theorem State.setBit_ply (s : State) (f : Fld) (i : Nat) : (s.setBit f i).ply = s.ply := rfl
@[simp] theorem State.setBit_wld (s : State) (f : Fld) (i : Nat) : (s.setBit f i).wld = s.wld := rfl
@[simp] theorem State.setBit_seq (s : State) (f : Fld) (i : Nat) : (s.setBit f i).seq = s.seq := rfl
@[simp] theorem State.setBit_vrec (s : State) (f : Fld) (i : Nat) : (s.setBit f i).vrec = s.vrec := rfl
@[simp] theorem State.setBit_warp (s : State) (f : Fld) (i : Nat) : (s.setBit f i).warp = s.warp := rfl
@[simp] theorem State.setBit_crerus (s : State) (f : Fld) (i : Nat) : (s.setBit f i).crerus = s.crerus := rfl
@[simp] theorem State.setBit_queue (s : State) (f : Fld) (i : Nat) : (s.setBit f i).queue = s.queue := rfl
@[simp] theorem State.setBit_jrnl (s : State) (f : Fld) (i : Nat) : (s.setBit f i).jrnl = s.jrnl := rfl
@[simp] theorem State.setBit_flash (s : State) (f : Fld) (i : Nat) : (s.setBit f i).flash = s.flash := rfl
@[simp] theorem State.setBit_custody (s : State) (f : Fld) (i : Nat) : (s.setBit f i).custody = s.custody := rfl
@[simp] theorem State.setBit_lc (s : State) (f : Fld) (i : Nat) : (s.setBit f i).lc = s.lc := rfl
@[simp] theorem State.setBit_fuse (s : State) (f : Fld) (i : Nat) : (s.setBit f i).fuse = s.fuse := rfl
@[simp] theorem State.setBit_shadow (s : State) (f : Fld) (i : Nat) : (s.setBit f i).shadow = s.shadow := rfl
@[simp] theorem State.setBit_pwr (s : State) (f : Fld) (i : Nat) : (s.setBit f i).pwr = s.pwr := rfl
@[simp] theorem State.setBit_rst (s : State) (f : Fld) (i : Nat) : (s.setBit f i).rst = s.rst := rfl
@[simp] theorem State.setBit_clk (s : State) (f : Fld) (i : Nat) : (s.setBit f i).clk = s.clk := rfl
@[simp] theorem State.setBit_dbg (s : State) (f : Fld) (i : Nat) : (s.setBit f i).dbg = s.dbg := rfl
@[simp] theorem State.setBit_xspi (s : State) (f : Fld) (i : Nat) : (s.setBit f i).xspi = s.xspi := rfl
@[simp] theorem State.setBit_uart (s : State) (f : Fld) (i : Nat) : (s.setBit f i).uart = s.uart := rfl
@[simp] theorem State.setBit_i2c (s : State) (f : Fld) (i : Nat) : (s.setBit f i).i2c = s.i2c := rfl
@[simp] theorem State.setBit_mem (s : State) (f : Fld) (i : Nat) : (s.setBit f i).mem = s.mem := rfl

@[simp] theorem State.clrBit_pending (s : State) (f : Fld) (i : Nat) : (s.clrBit f i).pending = s.pending := rfl
@[simp] theorem State.clrBit_free (s : State) (f : Fld) (i : Nat) : (s.clrBit f i).free = s.free := rfl
@[simp] theorem State.clrBit_resp (s : State) (f : Fld) (i : Nat) : (s.clrBit f i).resp = s.resp := rfl
@[simp] theorem State.clrBit_frozen (s : State) (f : Fld) (i : Nat) : (s.clrBit f i).frozen = s.frozen := rfl
@[simp] theorem State.clrBit_key (s : State) (f : Fld) (i : Nat) : (s.clrBit f i).key = s.key := rfl
@[simp] theorem State.clrBit_time (s : State) (f : Fld) (i : Nat) : (s.clrBit f i).time = s.time := rfl
@[simp] theorem State.clrBit_icu (s : State) (f : Fld) (i : Nat) : (s.clrBit f i).icu = s.icu := rfl
@[simp] theorem State.clrBit_adc (s : State) (f : Fld) (i : Nat) : (s.clrBit f i).adc = s.adc := rfl
@[simp] theorem State.clrBit_res (s : State) (f : Fld) (i : Nat) : (s.clrBit f i).res = s.res := rfl
@[simp] theorem State.clrBit_cmp (s : State) (f : Fld) (i : Nat) : (s.clrBit f i).cmp = s.cmp := rfl
@[simp] theorem State.clrBit_dac (s : State) (f : Fld) (i : Nat) : (s.clrBit f i).dac = s.dac := rfl
@[simp] theorem State.clrBit_rfm (s : State) (f : Fld) (i : Nat) : (s.clrBit f i).rfm = s.rfm := rfl
@[simp] theorem State.clrBit_lane (s : State) (f : Fld) (i : Nat) : (s.clrBit f i).lane = s.lane := rfl
@[simp] theorem State.clrBit_shed (s : State) (f : Fld) (i : Nat) : (s.clrBit f i).shed = s.shed := rfl
@[simp] theorem State.clrBit_hedCnt (s : State) (f : Fld) (i : Nat) : (s.clrBit f i).hedCnt = s.hedCnt := rfl
@[simp] theorem State.clrBit_pwm (s : State) (f : Fld) (i : Nat) : (s.clrBit f i).pwm = s.pwm := rfl
@[simp] theorem State.clrBit_trip (s : State) (f : Fld) (i : Nat) : (s.clrBit f i).trip = s.trip := rfl
@[simp] theorem State.clrBit_pad (s : State) (f : Fld) (i : Nat) : (s.clrBit f i).pad = s.pad := rfl
@[simp] theorem State.clrBit_loomCfg (s : State) (f : Fld) (i : Nat) : (s.clrBit f i).loomCfg = s.loomCfg := rfl
@[simp] theorem State.clrBit_fuseLoaded (s : State) (f : Fld) (i : Nat) : (s.clrBit f i).fuseLoaded = s.fuseLoaded := rfl
@[simp] theorem State.clrBit_gov (s : State) (f : Fld) (i : Nat) : (s.clrBit f i).gov = s.gov := rfl
@[simp] theorem State.clrBit_tmr (s : State) (f : Fld) (i : Nat) : (s.clrBit f i).tmr = s.tmr := rfl
@[simp] theorem State.clrBit_dma (s : State) (f : Fld) (i : Nat) : (s.clrBit f i).dma = s.dma := rfl
@[simp] theorem State.clrBit_dmaLast (s : State) (f : Fld) (i : Nat) : (s.clrBit f i).dmaLast = s.dmaLast := rfl
@[simp] theorem State.clrBit_health (s : State) (f : Fld) (i : Nat) : (s.clrBit f i).health = s.health := rfl
@[simp] theorem State.clrBit_core (s : State) (f : Fld) (i : Nat) : (s.clrBit f i).core = s.core := rfl
@[simp] theorem State.clrBit_ply (s : State) (f : Fld) (i : Nat) : (s.clrBit f i).ply = s.ply := rfl
@[simp] theorem State.clrBit_wld (s : State) (f : Fld) (i : Nat) : (s.clrBit f i).wld = s.wld := rfl
@[simp] theorem State.clrBit_seq (s : State) (f : Fld) (i : Nat) : (s.clrBit f i).seq = s.seq := rfl
@[simp] theorem State.clrBit_vrec (s : State) (f : Fld) (i : Nat) : (s.clrBit f i).vrec = s.vrec := rfl
@[simp] theorem State.clrBit_warp (s : State) (f : Fld) (i : Nat) : (s.clrBit f i).warp = s.warp := rfl
@[simp] theorem State.clrBit_crerus (s : State) (f : Fld) (i : Nat) : (s.clrBit f i).crerus = s.crerus := rfl
@[simp] theorem State.clrBit_queue (s : State) (f : Fld) (i : Nat) : (s.clrBit f i).queue = s.queue := rfl
@[simp] theorem State.clrBit_jrnl (s : State) (f : Fld) (i : Nat) : (s.clrBit f i).jrnl = s.jrnl := rfl
@[simp] theorem State.clrBit_flash (s : State) (f : Fld) (i : Nat) : (s.clrBit f i).flash = s.flash := rfl
@[simp] theorem State.clrBit_custody (s : State) (f : Fld) (i : Nat) : (s.clrBit f i).custody = s.custody := rfl
@[simp] theorem State.clrBit_lc (s : State) (f : Fld) (i : Nat) : (s.clrBit f i).lc = s.lc := rfl
@[simp] theorem State.clrBit_fuse (s : State) (f : Fld) (i : Nat) : (s.clrBit f i).fuse = s.fuse := rfl
@[simp] theorem State.clrBit_shadow (s : State) (f : Fld) (i : Nat) : (s.clrBit f i).shadow = s.shadow := rfl
@[simp] theorem State.clrBit_pwr (s : State) (f : Fld) (i : Nat) : (s.clrBit f i).pwr = s.pwr := rfl
@[simp] theorem State.clrBit_rst (s : State) (f : Fld) (i : Nat) : (s.clrBit f i).rst = s.rst := rfl
@[simp] theorem State.clrBit_clk (s : State) (f : Fld) (i : Nat) : (s.clrBit f i).clk = s.clk := rfl
@[simp] theorem State.clrBit_dbg (s : State) (f : Fld) (i : Nat) : (s.clrBit f i).dbg = s.dbg := rfl
@[simp] theorem State.clrBit_xspi (s : State) (f : Fld) (i : Nat) : (s.clrBit f i).xspi = s.xspi := rfl
@[simp] theorem State.clrBit_uart (s : State) (f : Fld) (i : Nat) : (s.clrBit f i).uart = s.uart := rfl
@[simp] theorem State.clrBit_i2c (s : State) (f : Fld) (i : Nat) : (s.clrBit f i).i2c = s.i2c := rfl
@[simp] theorem State.clrBit_mem (s : State) (f : Fld) (i : Nat) : (s.clrBit f i).mem = s.mem := rfl

@[simp] theorem State.sets_pending (s : State) (f : Fld) (x : Int) : (s.sets f x).pending = s.pending := rfl
@[simp] theorem State.sets_free (s : State) (f : Fld) (x : Int) : (s.sets f x).free = s.free := rfl
@[simp] theorem State.sets_resp (s : State) (f : Fld) (x : Int) : (s.sets f x).resp = s.resp := rfl
@[simp] theorem State.sets_frozen (s : State) (f : Fld) (x : Int) : (s.sets f x).frozen = s.frozen := rfl
@[simp] theorem State.sets_key (s : State) (f : Fld) (x : Int) : (s.sets f x).key = s.key := rfl
@[simp] theorem State.sets_time (s : State) (f : Fld) (x : Int) : (s.sets f x).time = s.time := rfl
@[simp] theorem State.sets_icu (s : State) (f : Fld) (x : Int) : (s.sets f x).icu = s.icu := rfl
@[simp] theorem State.sets_adc (s : State) (f : Fld) (x : Int) : (s.sets f x).adc = s.adc := rfl
@[simp] theorem State.sets_res (s : State) (f : Fld) (x : Int) : (s.sets f x).res = s.res := rfl
@[simp] theorem State.sets_cmp (s : State) (f : Fld) (x : Int) : (s.sets f x).cmp = s.cmp := rfl
@[simp] theorem State.sets_dac (s : State) (f : Fld) (x : Int) : (s.sets f x).dac = s.dac := rfl
@[simp] theorem State.sets_rfm (s : State) (f : Fld) (x : Int) : (s.sets f x).rfm = s.rfm := rfl
@[simp] theorem State.sets_lane (s : State) (f : Fld) (x : Int) : (s.sets f x).lane = s.lane := rfl
@[simp] theorem State.sets_shed (s : State) (f : Fld) (x : Int) : (s.sets f x).shed = s.shed := rfl
@[simp] theorem State.sets_hedCnt (s : State) (f : Fld) (x : Int) : (s.sets f x).hedCnt = s.hedCnt := rfl
@[simp] theorem State.sets_pwm (s : State) (f : Fld) (x : Int) : (s.sets f x).pwm = s.pwm := rfl
@[simp] theorem State.sets_trip (s : State) (f : Fld) (x : Int) : (s.sets f x).trip = s.trip := rfl
@[simp] theorem State.sets_pad (s : State) (f : Fld) (x : Int) : (s.sets f x).pad = s.pad := rfl
@[simp] theorem State.sets_loomCfg (s : State) (f : Fld) (x : Int) : (s.sets f x).loomCfg = s.loomCfg := rfl
@[simp] theorem State.sets_fuseLoaded (s : State) (f : Fld) (x : Int) : (s.sets f x).fuseLoaded = s.fuseLoaded := rfl
@[simp] theorem State.sets_gov (s : State) (f : Fld) (x : Int) : (s.sets f x).gov = s.gov := rfl
@[simp] theorem State.sets_tmr (s : State) (f : Fld) (x : Int) : (s.sets f x).tmr = s.tmr := rfl
@[simp] theorem State.sets_dma (s : State) (f : Fld) (x : Int) : (s.sets f x).dma = s.dma := rfl
@[simp] theorem State.sets_dmaLast (s : State) (f : Fld) (x : Int) : (s.sets f x).dmaLast = s.dmaLast := rfl
@[simp] theorem State.sets_health (s : State) (f : Fld) (x : Int) : (s.sets f x).health = s.health := rfl
@[simp] theorem State.sets_core (s : State) (f : Fld) (x : Int) : (s.sets f x).core = s.core := rfl
@[simp] theorem State.sets_ply (s : State) (f : Fld) (x : Int) : (s.sets f x).ply = s.ply := rfl
@[simp] theorem State.sets_wld (s : State) (f : Fld) (x : Int) : (s.sets f x).wld = s.wld := rfl
@[simp] theorem State.sets_seq (s : State) (f : Fld) (x : Int) : (s.sets f x).seq = s.seq := rfl
@[simp] theorem State.sets_vrec (s : State) (f : Fld) (x : Int) : (s.sets f x).vrec = s.vrec := rfl
@[simp] theorem State.sets_warp (s : State) (f : Fld) (x : Int) : (s.sets f x).warp = s.warp := rfl
@[simp] theorem State.sets_crerus (s : State) (f : Fld) (x : Int) : (s.sets f x).crerus = s.crerus := rfl
@[simp] theorem State.sets_queue (s : State) (f : Fld) (x : Int) : (s.sets f x).queue = s.queue := rfl
@[simp] theorem State.sets_jrnl (s : State) (f : Fld) (x : Int) : (s.sets f x).jrnl = s.jrnl := rfl
@[simp] theorem State.sets_flash (s : State) (f : Fld) (x : Int) : (s.sets f x).flash = s.flash := rfl
@[simp] theorem State.sets_custody (s : State) (f : Fld) (x : Int) : (s.sets f x).custody = s.custody := rfl
@[simp] theorem State.sets_lc (s : State) (f : Fld) (x : Int) : (s.sets f x).lc = s.lc := rfl
@[simp] theorem State.sets_fuse (s : State) (f : Fld) (x : Int) : (s.sets f x).fuse = s.fuse := rfl
@[simp] theorem State.sets_shadow (s : State) (f : Fld) (x : Int) : (s.sets f x).shadow = s.shadow := rfl
@[simp] theorem State.sets_pwr (s : State) (f : Fld) (x : Int) : (s.sets f x).pwr = s.pwr := rfl
@[simp] theorem State.sets_rst (s : State) (f : Fld) (x : Int) : (s.sets f x).rst = s.rst := rfl
@[simp] theorem State.sets_clk (s : State) (f : Fld) (x : Int) : (s.sets f x).clk = s.clk := rfl
@[simp] theorem State.sets_dbg (s : State) (f : Fld) (x : Int) : (s.sets f x).dbg = s.dbg := rfl
@[simp] theorem State.sets_xspi (s : State) (f : Fld) (x : Int) : (s.sets f x).xspi = s.xspi := rfl
@[simp] theorem State.sets_uart (s : State) (f : Fld) (x : Int) : (s.sets f x).uart = s.uart := rfl
@[simp] theorem State.sets_i2c (s : State) (f : Fld) (x : Int) : (s.sets f x).i2c = s.i2c := rfl
@[simp] theorem State.sets_mem (s : State) (f : Fld) (x : Int) : (s.sets f x).mem = s.mem := rfl

@[simp] theorem State.reply_pending (s : State) (q : Req) (c : RespCode) (d : Nat) : (s.reply q c d).pending = s.pending := rfl
@[simp] theorem State.reply_regs (s : State) (q : Req) (c : RespCode) (d : Nat) : (s.reply q c d).regs = s.regs := rfl
@[simp] theorem State.reply_free (s : State) (q : Req) (c : RespCode) (d : Nat) : (s.reply q c d).free = s.free := rfl
@[simp] theorem State.reply_frozen (s : State) (q : Req) (c : RespCode) (d : Nat) : (s.reply q c d).frozen = s.frozen := rfl
@[simp] theorem State.reply_key (s : State) (q : Req) (c : RespCode) (d : Nat) : (s.reply q c d).key = s.key := rfl
@[simp] theorem State.reply_time (s : State) (q : Req) (c : RespCode) (d : Nat) : (s.reply q c d).time = s.time := rfl
@[simp] theorem State.reply_icu (s : State) (q : Req) (c : RespCode) (d : Nat) : (s.reply q c d).icu = s.icu := rfl
@[simp] theorem State.reply_adc (s : State) (q : Req) (c : RespCode) (d : Nat) : (s.reply q c d).adc = s.adc := rfl
@[simp] theorem State.reply_res (s : State) (q : Req) (c : RespCode) (d : Nat) : (s.reply q c d).res = s.res := rfl
@[simp] theorem State.reply_cmp (s : State) (q : Req) (c : RespCode) (d : Nat) : (s.reply q c d).cmp = s.cmp := rfl
@[simp] theorem State.reply_dac (s : State) (q : Req) (c : RespCode) (d : Nat) : (s.reply q c d).dac = s.dac := rfl
@[simp] theorem State.reply_rfm (s : State) (q : Req) (c : RespCode) (d : Nat) : (s.reply q c d).rfm = s.rfm := rfl
@[simp] theorem State.reply_lane (s : State) (q : Req) (c : RespCode) (d : Nat) : (s.reply q c d).lane = s.lane := rfl
@[simp] theorem State.reply_shed (s : State) (q : Req) (c : RespCode) (d : Nat) : (s.reply q c d).shed = s.shed := rfl
@[simp] theorem State.reply_hedCnt (s : State) (q : Req) (c : RespCode) (d : Nat) : (s.reply q c d).hedCnt = s.hedCnt := rfl
@[simp] theorem State.reply_pwm (s : State) (q : Req) (c : RespCode) (d : Nat) : (s.reply q c d).pwm = s.pwm := rfl
@[simp] theorem State.reply_trip (s : State) (q : Req) (c : RespCode) (d : Nat) : (s.reply q c d).trip = s.trip := rfl
@[simp] theorem State.reply_pad (s : State) (q : Req) (c : RespCode) (d : Nat) : (s.reply q c d).pad = s.pad := rfl
@[simp] theorem State.reply_loomCfg (s : State) (q : Req) (c : RespCode) (d : Nat) : (s.reply q c d).loomCfg = s.loomCfg := rfl
@[simp] theorem State.reply_fuseLoaded (s : State) (q : Req) (c : RespCode) (d : Nat) : (s.reply q c d).fuseLoaded = s.fuseLoaded := rfl
@[simp] theorem State.reply_gov (s : State) (q : Req) (c : RespCode) (d : Nat) : (s.reply q c d).gov = s.gov := rfl
@[simp] theorem State.reply_tmr (s : State) (q : Req) (c : RespCode) (d : Nat) : (s.reply q c d).tmr = s.tmr := rfl
@[simp] theorem State.reply_dma (s : State) (q : Req) (c : RespCode) (d : Nat) : (s.reply q c d).dma = s.dma := rfl
@[simp] theorem State.reply_dmaLast (s : State) (q : Req) (c : RespCode) (d : Nat) : (s.reply q c d).dmaLast = s.dmaLast := rfl
@[simp] theorem State.reply_health (s : State) (q : Req) (c : RespCode) (d : Nat) : (s.reply q c d).health = s.health := rfl
@[simp] theorem State.reply_core (s : State) (q : Req) (c : RespCode) (d : Nat) : (s.reply q c d).core = s.core := rfl
@[simp] theorem State.reply_ply (s : State) (q : Req) (c : RespCode) (d : Nat) : (s.reply q c d).ply = s.ply := rfl
@[simp] theorem State.reply_wld (s : State) (q : Req) (c : RespCode) (d : Nat) : (s.reply q c d).wld = s.wld := rfl
@[simp] theorem State.reply_seq (s : State) (q : Req) (c : RespCode) (d : Nat) : (s.reply q c d).seq = s.seq := rfl
@[simp] theorem State.reply_vrec (s : State) (q : Req) (c : RespCode) (d : Nat) : (s.reply q c d).vrec = s.vrec := rfl
@[simp] theorem State.reply_warp (s : State) (q : Req) (c : RespCode) (d : Nat) : (s.reply q c d).warp = s.warp := rfl
@[simp] theorem State.reply_crerus (s : State) (q : Req) (c : RespCode) (d : Nat) : (s.reply q c d).crerus = s.crerus := rfl
@[simp] theorem State.reply_queue (s : State) (q : Req) (c : RespCode) (d : Nat) : (s.reply q c d).queue = s.queue := rfl
@[simp] theorem State.reply_jrnl (s : State) (q : Req) (c : RespCode) (d : Nat) : (s.reply q c d).jrnl = s.jrnl := rfl
@[simp] theorem State.reply_flash (s : State) (q : Req) (c : RespCode) (d : Nat) : (s.reply q c d).flash = s.flash := rfl
@[simp] theorem State.reply_custody (s : State) (q : Req) (c : RespCode) (d : Nat) : (s.reply q c d).custody = s.custody := rfl
@[simp] theorem State.reply_lc (s : State) (q : Req) (c : RespCode) (d : Nat) : (s.reply q c d).lc = s.lc := rfl
@[simp] theorem State.reply_fuse (s : State) (q : Req) (c : RespCode) (d : Nat) : (s.reply q c d).fuse = s.fuse := rfl
@[simp] theorem State.reply_shadow (s : State) (q : Req) (c : RespCode) (d : Nat) : (s.reply q c d).shadow = s.shadow := rfl
@[simp] theorem State.reply_pwr (s : State) (q : Req) (c : RespCode) (d : Nat) : (s.reply q c d).pwr = s.pwr := rfl
@[simp] theorem State.reply_rst (s : State) (q : Req) (c : RespCode) (d : Nat) : (s.reply q c d).rst = s.rst := rfl
@[simp] theorem State.reply_clk (s : State) (q : Req) (c : RespCode) (d : Nat) : (s.reply q c d).clk = s.clk := rfl
@[simp] theorem State.reply_dbg (s : State) (q : Req) (c : RespCode) (d : Nat) : (s.reply q c d).dbg = s.dbg := rfl
@[simp] theorem State.reply_xspi (s : State) (q : Req) (c : RespCode) (d : Nat) : (s.reply q c d).xspi = s.xspi := rfl
@[simp] theorem State.reply_uart (s : State) (q : Req) (c : RespCode) (d : Nat) : (s.reply q c d).uart = s.uart := rfl
@[simp] theorem State.reply_i2c (s : State) (q : Req) (c : RespCode) (d : Nat) : (s.reply q c d).i2c = s.i2c := rfl
@[simp] theorem State.reply_mem (s : State) (q : Req) (c : RespCode) (d : Nat) : (s.reply q c d).mem = s.mem := rfl

@[simp] theorem State.updCore_pending (s : State) (c : Nat) (g : Core → Core) : (s.updCore c g).pending = s.pending := rfl
@[simp] theorem State.updCore_regs (s : State) (c : Nat) (g : Core → Core) : (s.updCore c g).regs = s.regs := rfl
@[simp] theorem State.updCore_free (s : State) (c : Nat) (g : Core → Core) : (s.updCore c g).free = s.free := rfl
@[simp] theorem State.updCore_resp (s : State) (c : Nat) (g : Core → Core) : (s.updCore c g).resp = s.resp := rfl
@[simp] theorem State.updCore_frozen (s : State) (c : Nat) (g : Core → Core) : (s.updCore c g).frozen = s.frozen := rfl
@[simp] theorem State.updCore_key (s : State) (c : Nat) (g : Core → Core) : (s.updCore c g).key = s.key := rfl
@[simp] theorem State.updCore_time (s : State) (c : Nat) (g : Core → Core) : (s.updCore c g).time = s.time := rfl
@[simp] theorem State.updCore_icu (s : State) (c : Nat) (g : Core → Core) : (s.updCore c g).icu = s.icu := rfl
@[simp] theorem State.updCore_adc (s : State) (c : Nat) (g : Core → Core) : (s.updCore c g).adc = s.adc := rfl
@[simp] theorem State.updCore_res (s : State) (c : Nat) (g : Core → Core) : (s.updCore c g).res = s.res := rfl
@[simp] theorem State.updCore_cmp (s : State) (c : Nat) (g : Core → Core) : (s.updCore c g).cmp = s.cmp := rfl
@[simp] theorem State.updCore_dac (s : State) (c : Nat) (g : Core → Core) : (s.updCore c g).dac = s.dac := rfl
@[simp] theorem State.updCore_rfm (s : State) (c : Nat) (g : Core → Core) : (s.updCore c g).rfm = s.rfm := rfl
@[simp] theorem State.updCore_lane (s : State) (c : Nat) (g : Core → Core) : (s.updCore c g).lane = s.lane := rfl
@[simp] theorem State.updCore_shed (s : State) (c : Nat) (g : Core → Core) : (s.updCore c g).shed = s.shed := rfl
@[simp] theorem State.updCore_hedCnt (s : State) (c : Nat) (g : Core → Core) : (s.updCore c g).hedCnt = s.hedCnt := rfl
@[simp] theorem State.updCore_pwm (s : State) (c : Nat) (g : Core → Core) : (s.updCore c g).pwm = s.pwm := rfl
@[simp] theorem State.updCore_trip (s : State) (c : Nat) (g : Core → Core) : (s.updCore c g).trip = s.trip := rfl
@[simp] theorem State.updCore_pad (s : State) (c : Nat) (g : Core → Core) : (s.updCore c g).pad = s.pad := rfl
@[simp] theorem State.updCore_loomCfg (s : State) (c : Nat) (g : Core → Core) : (s.updCore c g).loomCfg = s.loomCfg := rfl
@[simp] theorem State.updCore_fuseLoaded (s : State) (c : Nat) (g : Core → Core) : (s.updCore c g).fuseLoaded = s.fuseLoaded := rfl
@[simp] theorem State.updCore_gov (s : State) (c : Nat) (g : Core → Core) : (s.updCore c g).gov = s.gov := rfl
@[simp] theorem State.updCore_tmr (s : State) (c : Nat) (g : Core → Core) : (s.updCore c g).tmr = s.tmr := rfl
@[simp] theorem State.updCore_dma (s : State) (c : Nat) (g : Core → Core) : (s.updCore c g).dma = s.dma := rfl
@[simp] theorem State.updCore_dmaLast (s : State) (c : Nat) (g : Core → Core) : (s.updCore c g).dmaLast = s.dmaLast := rfl
@[simp] theorem State.updCore_health (s : State) (c : Nat) (g : Core → Core) : (s.updCore c g).health = s.health := rfl
@[simp] theorem State.updCore_ply (s : State) (c : Nat) (g : Core → Core) : (s.updCore c g).ply = s.ply := rfl
@[simp] theorem State.updCore_wld (s : State) (c : Nat) (g : Core → Core) : (s.updCore c g).wld = s.wld := rfl
@[simp] theorem State.updCore_seq (s : State) (c : Nat) (g : Core → Core) : (s.updCore c g).seq = s.seq := rfl
@[simp] theorem State.updCore_vrec (s : State) (c : Nat) (g : Core → Core) : (s.updCore c g).vrec = s.vrec := rfl
@[simp] theorem State.updCore_warp (s : State) (c : Nat) (g : Core → Core) : (s.updCore c g).warp = s.warp := rfl
@[simp] theorem State.updCore_crerus (s : State) (c : Nat) (g : Core → Core) : (s.updCore c g).crerus = s.crerus := rfl
@[simp] theorem State.updCore_queue (s : State) (c : Nat) (g : Core → Core) : (s.updCore c g).queue = s.queue := rfl
@[simp] theorem State.updCore_jrnl (s : State) (c : Nat) (g : Core → Core) : (s.updCore c g).jrnl = s.jrnl := rfl
@[simp] theorem State.updCore_flash (s : State) (c : Nat) (g : Core → Core) : (s.updCore c g).flash = s.flash := rfl
@[simp] theorem State.updCore_custody (s : State) (c : Nat) (g : Core → Core) : (s.updCore c g).custody = s.custody := rfl
@[simp] theorem State.updCore_lc (s : State) (c : Nat) (g : Core → Core) : (s.updCore c g).lc = s.lc := rfl
@[simp] theorem State.updCore_fuse (s : State) (c : Nat) (g : Core → Core) : (s.updCore c g).fuse = s.fuse := rfl
@[simp] theorem State.updCore_shadow (s : State) (c : Nat) (g : Core → Core) : (s.updCore c g).shadow = s.shadow := rfl
@[simp] theorem State.updCore_pwr (s : State) (c : Nat) (g : Core → Core) : (s.updCore c g).pwr = s.pwr := rfl
@[simp] theorem State.updCore_rst (s : State) (c : Nat) (g : Core → Core) : (s.updCore c g).rst = s.rst := rfl
@[simp] theorem State.updCore_clk (s : State) (c : Nat) (g : Core → Core) : (s.updCore c g).clk = s.clk := rfl
@[simp] theorem State.updCore_dbg (s : State) (c : Nat) (g : Core → Core) : (s.updCore c g).dbg = s.dbg := rfl
@[simp] theorem State.updCore_xspi (s : State) (c : Nat) (g : Core → Core) : (s.updCore c g).xspi = s.xspi := rfl
@[simp] theorem State.updCore_uart (s : State) (c : Nat) (g : Core → Core) : (s.updCore c g).uart = s.uart := rfl
@[simp] theorem State.updCore_i2c (s : State) (c : Nat) (g : Core → Core) : (s.updCore c g).i2c = s.i2c := rfl
@[simp] theorem State.updCore_mem (s : State) (c : Nat) (g : Core → Core) : (s.updCore c g).mem = s.mem := rfl

@[simp] theorem State.setByte_pending (s : State) (a : Nat) (v : Byte) : (s.setByte a v).pending = s.pending := rfl
@[simp] theorem State.setByte_regs (s : State) (a : Nat) (v : Byte) : (s.setByte a v).regs = s.regs := rfl
@[simp] theorem State.setByte_free (s : State) (a : Nat) (v : Byte) : (s.setByte a v).free = s.free := rfl
@[simp] theorem State.setByte_resp (s : State) (a : Nat) (v : Byte) : (s.setByte a v).resp = s.resp := rfl
@[simp] theorem State.setByte_frozen (s : State) (a : Nat) (v : Byte) : (s.setByte a v).frozen = s.frozen := rfl
@[simp] theorem State.setByte_key (s : State) (a : Nat) (v : Byte) : (s.setByte a v).key = s.key := rfl
@[simp] theorem State.setByte_time (s : State) (a : Nat) (v : Byte) : (s.setByte a v).time = s.time := rfl
@[simp] theorem State.setByte_icu (s : State) (a : Nat) (v : Byte) : (s.setByte a v).icu = s.icu := rfl
@[simp] theorem State.setByte_adc (s : State) (a : Nat) (v : Byte) : (s.setByte a v).adc = s.adc := rfl
@[simp] theorem State.setByte_res (s : State) (a : Nat) (v : Byte) : (s.setByte a v).res = s.res := rfl
@[simp] theorem State.setByte_cmp (s : State) (a : Nat) (v : Byte) : (s.setByte a v).cmp = s.cmp := rfl
@[simp] theorem State.setByte_dac (s : State) (a : Nat) (v : Byte) : (s.setByte a v).dac = s.dac := rfl
@[simp] theorem State.setByte_rfm (s : State) (a : Nat) (v : Byte) : (s.setByte a v).rfm = s.rfm := rfl
@[simp] theorem State.setByte_lane (s : State) (a : Nat) (v : Byte) : (s.setByte a v).lane = s.lane := rfl
@[simp] theorem State.setByte_shed (s : State) (a : Nat) (v : Byte) : (s.setByte a v).shed = s.shed := rfl
@[simp] theorem State.setByte_hedCnt (s : State) (a : Nat) (v : Byte) : (s.setByte a v).hedCnt = s.hedCnt := rfl
@[simp] theorem State.setByte_pwm (s : State) (a : Nat) (v : Byte) : (s.setByte a v).pwm = s.pwm := rfl
@[simp] theorem State.setByte_trip (s : State) (a : Nat) (v : Byte) : (s.setByte a v).trip = s.trip := rfl
@[simp] theorem State.setByte_pad (s : State) (a : Nat) (v : Byte) : (s.setByte a v).pad = s.pad := rfl
@[simp] theorem State.setByte_loomCfg (s : State) (a : Nat) (v : Byte) : (s.setByte a v).loomCfg = s.loomCfg := rfl
@[simp] theorem State.setByte_fuseLoaded (s : State) (a : Nat) (v : Byte) : (s.setByte a v).fuseLoaded = s.fuseLoaded := rfl
@[simp] theorem State.setByte_gov (s : State) (a : Nat) (v : Byte) : (s.setByte a v).gov = s.gov := rfl
@[simp] theorem State.setByte_tmr (s : State) (a : Nat) (v : Byte) : (s.setByte a v).tmr = s.tmr := rfl
@[simp] theorem State.setByte_dma (s : State) (a : Nat) (v : Byte) : (s.setByte a v).dma = s.dma := rfl
@[simp] theorem State.setByte_dmaLast (s : State) (a : Nat) (v : Byte) : (s.setByte a v).dmaLast = s.dmaLast := rfl
@[simp] theorem State.setByte_health (s : State) (a : Nat) (v : Byte) : (s.setByte a v).health = s.health := rfl
@[simp] theorem State.setByte_core (s : State) (a : Nat) (v : Byte) : (s.setByte a v).core = s.core := rfl
@[simp] theorem State.setByte_ply (s : State) (a : Nat) (v : Byte) : (s.setByte a v).ply = s.ply := rfl
@[simp] theorem State.setByte_wld (s : State) (a : Nat) (v : Byte) : (s.setByte a v).wld = s.wld := rfl
@[simp] theorem State.setByte_seq (s : State) (a : Nat) (v : Byte) : (s.setByte a v).seq = s.seq := rfl
@[simp] theorem State.setByte_vrec (s : State) (a : Nat) (v : Byte) : (s.setByte a v).vrec = s.vrec := rfl
@[simp] theorem State.setByte_warp (s : State) (a : Nat) (v : Byte) : (s.setByte a v).warp = s.warp := rfl
@[simp] theorem State.setByte_crerus (s : State) (a : Nat) (v : Byte) : (s.setByte a v).crerus = s.crerus := rfl
@[simp] theorem State.setByte_queue (s : State) (a : Nat) (v : Byte) : (s.setByte a v).queue = s.queue := rfl
@[simp] theorem State.setByte_jrnl (s : State) (a : Nat) (v : Byte) : (s.setByte a v).jrnl = s.jrnl := rfl
@[simp] theorem State.setByte_flash (s : State) (a : Nat) (v : Byte) : (s.setByte a v).flash = s.flash := rfl
@[simp] theorem State.setByte_custody (s : State) (a : Nat) (v : Byte) : (s.setByte a v).custody = s.custody := rfl
@[simp] theorem State.setByte_lc (s : State) (a : Nat) (v : Byte) : (s.setByte a v).lc = s.lc := rfl
@[simp] theorem State.setByte_fuse (s : State) (a : Nat) (v : Byte) : (s.setByte a v).fuse = s.fuse := rfl
@[simp] theorem State.setByte_shadow (s : State) (a : Nat) (v : Byte) : (s.setByte a v).shadow = s.shadow := rfl
@[simp] theorem State.setByte_pwr (s : State) (a : Nat) (v : Byte) : (s.setByte a v).pwr = s.pwr := rfl
@[simp] theorem State.setByte_rst (s : State) (a : Nat) (v : Byte) : (s.setByte a v).rst = s.rst := rfl
@[simp] theorem State.setByte_clk (s : State) (a : Nat) (v : Byte) : (s.setByte a v).clk = s.clk := rfl
@[simp] theorem State.setByte_dbg (s : State) (a : Nat) (v : Byte) : (s.setByte a v).dbg = s.dbg := rfl
@[simp] theorem State.setByte_xspi (s : State) (a : Nat) (v : Byte) : (s.setByte a v).xspi = s.xspi := rfl
@[simp] theorem State.setByte_uart (s : State) (a : Nat) (v : Byte) : (s.setByte a v).uart = s.uart := rfl
@[simp] theorem State.setByte_i2c (s : State) (a : Nat) (v : Byte) : (s.setByte a v).i2c = s.i2c := rfl

@[simp] theorem State.wipe_pending (s : State) (lo hi : Nat) : (s.wipe lo hi).pending = s.pending := rfl
@[simp] theorem State.wipe_regs (s : State) (lo hi : Nat) : (s.wipe lo hi).regs = s.regs := rfl
@[simp] theorem State.wipe_free (s : State) (lo hi : Nat) : (s.wipe lo hi).free = s.free := rfl
@[simp] theorem State.wipe_resp (s : State) (lo hi : Nat) : (s.wipe lo hi).resp = s.resp := rfl
@[simp] theorem State.wipe_frozen (s : State) (lo hi : Nat) : (s.wipe lo hi).frozen = s.frozen := rfl
@[simp] theorem State.wipe_key (s : State) (lo hi : Nat) : (s.wipe lo hi).key = s.key := rfl
@[simp] theorem State.wipe_time (s : State) (lo hi : Nat) : (s.wipe lo hi).time = s.time := rfl
@[simp] theorem State.wipe_icu (s : State) (lo hi : Nat) : (s.wipe lo hi).icu = s.icu := rfl
@[simp] theorem State.wipe_adc (s : State) (lo hi : Nat) : (s.wipe lo hi).adc = s.adc := rfl
@[simp] theorem State.wipe_res (s : State) (lo hi : Nat) : (s.wipe lo hi).res = s.res := rfl
@[simp] theorem State.wipe_cmp (s : State) (lo hi : Nat) : (s.wipe lo hi).cmp = s.cmp := rfl
@[simp] theorem State.wipe_dac (s : State) (lo hi : Nat) : (s.wipe lo hi).dac = s.dac := rfl
@[simp] theorem State.wipe_rfm (s : State) (lo hi : Nat) : (s.wipe lo hi).rfm = s.rfm := rfl
@[simp] theorem State.wipe_lane (s : State) (lo hi : Nat) : (s.wipe lo hi).lane = s.lane := rfl
@[simp] theorem State.wipe_shed (s : State) (lo hi : Nat) : (s.wipe lo hi).shed = s.shed := rfl
@[simp] theorem State.wipe_hedCnt (s : State) (lo hi : Nat) : (s.wipe lo hi).hedCnt = s.hedCnt := rfl
@[simp] theorem State.wipe_pwm (s : State) (lo hi : Nat) : (s.wipe lo hi).pwm = s.pwm := rfl
@[simp] theorem State.wipe_trip (s : State) (lo hi : Nat) : (s.wipe lo hi).trip = s.trip := rfl
@[simp] theorem State.wipe_pad (s : State) (lo hi : Nat) : (s.wipe lo hi).pad = s.pad := rfl
@[simp] theorem State.wipe_loomCfg (s : State) (lo hi : Nat) : (s.wipe lo hi).loomCfg = s.loomCfg := rfl
@[simp] theorem State.wipe_fuseLoaded (s : State) (lo hi : Nat) : (s.wipe lo hi).fuseLoaded = s.fuseLoaded := rfl
@[simp] theorem State.wipe_gov (s : State) (lo hi : Nat) : (s.wipe lo hi).gov = s.gov := rfl
@[simp] theorem State.wipe_tmr (s : State) (lo hi : Nat) : (s.wipe lo hi).tmr = s.tmr := rfl
@[simp] theorem State.wipe_dma (s : State) (lo hi : Nat) : (s.wipe lo hi).dma = s.dma := rfl
@[simp] theorem State.wipe_dmaLast (s : State) (lo hi : Nat) : (s.wipe lo hi).dmaLast = s.dmaLast := rfl
@[simp] theorem State.wipe_health (s : State) (lo hi : Nat) : (s.wipe lo hi).health = s.health := rfl
@[simp] theorem State.wipe_core (s : State) (lo hi : Nat) : (s.wipe lo hi).core = s.core := rfl
@[simp] theorem State.wipe_ply (s : State) (lo hi : Nat) : (s.wipe lo hi).ply = s.ply := rfl
@[simp] theorem State.wipe_wld (s : State) (lo hi : Nat) : (s.wipe lo hi).wld = s.wld := rfl
@[simp] theorem State.wipe_seq (s : State) (lo hi : Nat) : (s.wipe lo hi).seq = s.seq := rfl
@[simp] theorem State.wipe_vrec (s : State) (lo hi : Nat) : (s.wipe lo hi).vrec = s.vrec := rfl
@[simp] theorem State.wipe_warp (s : State) (lo hi : Nat) : (s.wipe lo hi).warp = s.warp := rfl
@[simp] theorem State.wipe_crerus (s : State) (lo hi : Nat) : (s.wipe lo hi).crerus = s.crerus := rfl
@[simp] theorem State.wipe_queue (s : State) (lo hi : Nat) : (s.wipe lo hi).queue = s.queue := rfl
@[simp] theorem State.wipe_jrnl (s : State) (lo hi : Nat) : (s.wipe lo hi).jrnl = s.jrnl := rfl
@[simp] theorem State.wipe_flash (s : State) (lo hi : Nat) : (s.wipe lo hi).flash = s.flash := rfl
@[simp] theorem State.wipe_custody (s : State) (lo hi : Nat) : (s.wipe lo hi).custody = s.custody := rfl
@[simp] theorem State.wipe_lc (s : State) (lo hi : Nat) : (s.wipe lo hi).lc = s.lc := rfl
@[simp] theorem State.wipe_fuse (s : State) (lo hi : Nat) : (s.wipe lo hi).fuse = s.fuse := rfl
@[simp] theorem State.wipe_shadow (s : State) (lo hi : Nat) : (s.wipe lo hi).shadow = s.shadow := rfl
@[simp] theorem State.wipe_pwr (s : State) (lo hi : Nat) : (s.wipe lo hi).pwr = s.pwr := rfl
@[simp] theorem State.wipe_rst (s : State) (lo hi : Nat) : (s.wipe lo hi).rst = s.rst := rfl
@[simp] theorem State.wipe_clk (s : State) (lo hi : Nat) : (s.wipe lo hi).clk = s.clk := rfl
@[simp] theorem State.wipe_dbg (s : State) (lo hi : Nat) : (s.wipe lo hi).dbg = s.dbg := rfl
@[simp] theorem State.wipe_xspi (s : State) (lo hi : Nat) : (s.wipe lo hi).xspi = s.xspi := rfl
@[simp] theorem State.wipe_uart (s : State) (lo hi : Nat) : (s.wipe lo hi).uart = s.uart := rfl
@[simp] theorem State.wipe_i2c (s : State) (lo hi : Nat) : (s.wipe lo hi).i2c = s.i2c := rfl

@[simp] theorem State.journal_pending (s : State) (r : Nat) (l : List Nat) : (s.journal r l).pending = s.pending := rfl
@[simp] theorem State.journal_regs (s : State) (r : Nat) (l : List Nat) : (s.journal r l).regs = s.regs := rfl
@[simp] theorem State.journal_free (s : State) (r : Nat) (l : List Nat) : (s.journal r l).free = s.free := rfl
@[simp] theorem State.journal_resp (s : State) (r : Nat) (l : List Nat) : (s.journal r l).resp = s.resp := rfl
@[simp] theorem State.journal_frozen (s : State) (r : Nat) (l : List Nat) : (s.journal r l).frozen = s.frozen := rfl
@[simp] theorem State.journal_key (s : State) (r : Nat) (l : List Nat) : (s.journal r l).key = s.key := rfl
@[simp] theorem State.journal_time (s : State) (r : Nat) (l : List Nat) : (s.journal r l).time = s.time := rfl
@[simp] theorem State.journal_icu (s : State) (r : Nat) (l : List Nat) : (s.journal r l).icu = s.icu := rfl
@[simp] theorem State.journal_adc (s : State) (r : Nat) (l : List Nat) : (s.journal r l).adc = s.adc := rfl
@[simp] theorem State.journal_res (s : State) (r : Nat) (l : List Nat) : (s.journal r l).res = s.res := rfl
@[simp] theorem State.journal_cmp (s : State) (r : Nat) (l : List Nat) : (s.journal r l).cmp = s.cmp := rfl
@[simp] theorem State.journal_dac (s : State) (r : Nat) (l : List Nat) : (s.journal r l).dac = s.dac := rfl
@[simp] theorem State.journal_rfm (s : State) (r : Nat) (l : List Nat) : (s.journal r l).rfm = s.rfm := rfl
@[simp] theorem State.journal_lane (s : State) (r : Nat) (l : List Nat) : (s.journal r l).lane = s.lane := rfl
@[simp] theorem State.journal_shed (s : State) (r : Nat) (l : List Nat) : (s.journal r l).shed = s.shed := rfl
@[simp] theorem State.journal_hedCnt (s : State) (r : Nat) (l : List Nat) : (s.journal r l).hedCnt = s.hedCnt := rfl
@[simp] theorem State.journal_pwm (s : State) (r : Nat) (l : List Nat) : (s.journal r l).pwm = s.pwm := rfl
@[simp] theorem State.journal_trip (s : State) (r : Nat) (l : List Nat) : (s.journal r l).trip = s.trip := rfl
@[simp] theorem State.journal_pad (s : State) (r : Nat) (l : List Nat) : (s.journal r l).pad = s.pad := rfl
@[simp] theorem State.journal_loomCfg (s : State) (r : Nat) (l : List Nat) : (s.journal r l).loomCfg = s.loomCfg := rfl
@[simp] theorem State.journal_fuseLoaded (s : State) (r : Nat) (l : List Nat) : (s.journal r l).fuseLoaded = s.fuseLoaded := rfl
@[simp] theorem State.journal_gov (s : State) (r : Nat) (l : List Nat) : (s.journal r l).gov = s.gov := rfl
@[simp] theorem State.journal_tmr (s : State) (r : Nat) (l : List Nat) : (s.journal r l).tmr = s.tmr := rfl
@[simp] theorem State.journal_dma (s : State) (r : Nat) (l : List Nat) : (s.journal r l).dma = s.dma := rfl
@[simp] theorem State.journal_dmaLast (s : State) (r : Nat) (l : List Nat) : (s.journal r l).dmaLast = s.dmaLast := rfl
@[simp] theorem State.journal_health (s : State) (r : Nat) (l : List Nat) : (s.journal r l).health = s.health := rfl
@[simp] theorem State.journal_core (s : State) (r : Nat) (l : List Nat) : (s.journal r l).core = s.core := rfl
@[simp] theorem State.journal_ply (s : State) (r : Nat) (l : List Nat) : (s.journal r l).ply = s.ply := rfl
@[simp] theorem State.journal_wld (s : State) (r : Nat) (l : List Nat) : (s.journal r l).wld = s.wld := rfl
@[simp] theorem State.journal_seq (s : State) (r : Nat) (l : List Nat) : (s.journal r l).seq = s.seq := rfl
@[simp] theorem State.journal_warp (s : State) (r : Nat) (l : List Nat) : (s.journal r l).warp = s.warp := rfl
@[simp] theorem State.journal_crerus (s : State) (r : Nat) (l : List Nat) : (s.journal r l).crerus = s.crerus := rfl
@[simp] theorem State.journal_queue (s : State) (r : Nat) (l : List Nat) : (s.journal r l).queue = s.queue := rfl
@[simp] theorem State.journal_jrnl (s : State) (r : Nat) (l : List Nat) : (s.journal r l).jrnl = s.jrnl := rfl
@[simp] theorem State.journal_flash (s : State) (r : Nat) (l : List Nat) : (s.journal r l).flash = s.flash := rfl
@[simp] theorem State.journal_custody (s : State) (r : Nat) (l : List Nat) : (s.journal r l).custody = s.custody := rfl
@[simp] theorem State.journal_lc (s : State) (r : Nat) (l : List Nat) : (s.journal r l).lc = s.lc := rfl
@[simp] theorem State.journal_fuse (s : State) (r : Nat) (l : List Nat) : (s.journal r l).fuse = s.fuse := rfl
@[simp] theorem State.journal_shadow (s : State) (r : Nat) (l : List Nat) : (s.journal r l).shadow = s.shadow := rfl
@[simp] theorem State.journal_pwr (s : State) (r : Nat) (l : List Nat) : (s.journal r l).pwr = s.pwr := rfl
@[simp] theorem State.journal_rst (s : State) (r : Nat) (l : List Nat) : (s.journal r l).rst = s.rst := rfl
@[simp] theorem State.journal_clk (s : State) (r : Nat) (l : List Nat) : (s.journal r l).clk = s.clk := rfl
@[simp] theorem State.journal_dbg (s : State) (r : Nat) (l : List Nat) : (s.journal r l).dbg = s.dbg := rfl
@[simp] theorem State.journal_xspi (s : State) (r : Nat) (l : List Nat) : (s.journal r l).xspi = s.xspi := rfl
@[simp] theorem State.journal_uart (s : State) (r : Nat) (l : List Nat) : (s.journal r l).uart = s.uart := rfl
@[simp] theorem State.journal_i2c (s : State) (r : Nat) (l : List Nat) : (s.journal r l).i2c = s.i2c := rfl
@[simp] theorem State.journal_mem (s : State) (r : Nat) (l : List Nat) : (s.journal r l).mem = s.mem := rfl

/-! ### Events -/

@[simp] theorem State.raise_pending (s : State) (n : Nat) : (s.raise n).pending = s.pending := by
  unfold State.raise; dsimp only; (repeat' split) <;> rfl
@[simp] theorem State.raise_free (s : State) (n : Nat) : (s.raise n).free = s.free := by
  unfold State.raise; dsimp only; (repeat' split) <;> rfl
@[simp] theorem State.raise_resp (s : State) (n : Nat) : (s.raise n).resp = s.resp := by
  unfold State.raise; dsimp only; (repeat' split) <;> rfl
@[simp] theorem State.raise_frozen (s : State) (n : Nat) : (s.raise n).frozen = s.frozen := by
  unfold State.raise; dsimp only; (repeat' split) <;> rfl
@[simp] theorem State.raise_key (s : State) (n : Nat) : (s.raise n).key = s.key := by
  unfold State.raise; dsimp only; (repeat' split) <;> rfl
@[simp] theorem State.raise_time (s : State) (n : Nat) : (s.raise n).time = s.time := by
  unfold State.raise; dsimp only; (repeat' split) <;> rfl
@[simp] theorem State.raise_adc (s : State) (n : Nat) : (s.raise n).adc = s.adc := by
  unfold State.raise; dsimp only; (repeat' split) <;> rfl
@[simp] theorem State.raise_res (s : State) (n : Nat) : (s.raise n).res = s.res := by
  unfold State.raise; dsimp only; (repeat' split) <;> rfl
@[simp] theorem State.raise_cmp (s : State) (n : Nat) : (s.raise n).cmp = s.cmp := by
  unfold State.raise; dsimp only; (repeat' split) <;> rfl
@[simp] theorem State.raise_dac (s : State) (n : Nat) : (s.raise n).dac = s.dac := by
  unfold State.raise; dsimp only; (repeat' split) <;> rfl
@[simp] theorem State.raise_rfm (s : State) (n : Nat) : (s.raise n).rfm = s.rfm := by
  unfold State.raise; dsimp only; (repeat' split) <;> rfl
@[simp] theorem State.raise_lane (s : State) (n : Nat) : (s.raise n).lane = s.lane := by
  unfold State.raise; dsimp only; (repeat' split) <;> rfl
@[simp] theorem State.raise_shed (s : State) (n : Nat) : (s.raise n).shed = s.shed := by
  unfold State.raise; dsimp only; (repeat' split) <;> rfl
@[simp] theorem State.raise_hedCnt (s : State) (n : Nat) : (s.raise n).hedCnt = s.hedCnt := by
  unfold State.raise; dsimp only; (repeat' split) <;> rfl
@[simp] theorem State.raise_pwm (s : State) (n : Nat) : (s.raise n).pwm = s.pwm := by
  unfold State.raise; dsimp only; (repeat' split) <;> rfl
@[simp] theorem State.raise_trip (s : State) (n : Nat) : (s.raise n).trip = s.trip := by
  unfold State.raise; dsimp only; (repeat' split) <;> rfl
@[simp] theorem State.raise_pad (s : State) (n : Nat) : (s.raise n).pad = s.pad := by
  unfold State.raise; dsimp only; (repeat' split) <;> rfl
@[simp] theorem State.raise_loomCfg (s : State) (n : Nat) : (s.raise n).loomCfg = s.loomCfg := by
  unfold State.raise; dsimp only; (repeat' split) <;> rfl
@[simp] theorem State.raise_fuseLoaded (s : State) (n : Nat) : (s.raise n).fuseLoaded = s.fuseLoaded := by
  unfold State.raise; dsimp only; (repeat' split) <;> rfl
@[simp] theorem State.raise_gov (s : State) (n : Nat) : (s.raise n).gov = s.gov := by
  unfold State.raise; dsimp only; (repeat' split) <;> rfl
@[simp] theorem State.raise_tmr (s : State) (n : Nat) : (s.raise n).tmr = s.tmr := by
  unfold State.raise; dsimp only; (repeat' split) <;> rfl
@[simp] theorem State.raise_dma (s : State) (n : Nat) : (s.raise n).dma = s.dma := by
  unfold State.raise; dsimp only; (repeat' split) <;> rfl
@[simp] theorem State.raise_dmaLast (s : State) (n : Nat) : (s.raise n).dmaLast = s.dmaLast := by
  unfold State.raise; dsimp only; (repeat' split) <;> rfl
@[simp] theorem State.raise_health (s : State) (n : Nat) : (s.raise n).health = s.health := by
  unfold State.raise; dsimp only; (repeat' split) <;> rfl
@[simp] theorem State.raise_core (s : State) (n : Nat) : (s.raise n).core = s.core := by
  unfold State.raise; dsimp only; (repeat' split) <;> rfl
@[simp] theorem State.raise_ply (s : State) (n : Nat) : (s.raise n).ply = s.ply := by
  unfold State.raise; dsimp only; (repeat' split) <;> rfl
@[simp] theorem State.raise_wld (s : State) (n : Nat) : (s.raise n).wld = s.wld := by
  unfold State.raise; dsimp only; (repeat' split) <;> rfl
@[simp] theorem State.raise_seq (s : State) (n : Nat) : (s.raise n).seq = s.seq := by
  unfold State.raise; dsimp only; (repeat' split) <;> rfl
@[simp] theorem State.raise_vrec (s : State) (n : Nat) : (s.raise n).vrec = s.vrec := by
  unfold State.raise; dsimp only; (repeat' split) <;> rfl
@[simp] theorem State.raise_warp (s : State) (n : Nat) : (s.raise n).warp = s.warp := by
  unfold State.raise; dsimp only; (repeat' split) <;> rfl
@[simp] theorem State.raise_crerus (s : State) (n : Nat) : (s.raise n).crerus = s.crerus := by
  unfold State.raise; dsimp only; (repeat' split) <;> rfl
@[simp] theorem State.raise_queue (s : State) (n : Nat) : (s.raise n).queue = s.queue := by
  unfold State.raise; dsimp only; (repeat' split) <;> rfl
@[simp] theorem State.raise_jrnl (s : State) (n : Nat) : (s.raise n).jrnl = s.jrnl := by
  unfold State.raise; dsimp only; (repeat' split) <;> rfl
@[simp] theorem State.raise_flash (s : State) (n : Nat) : (s.raise n).flash = s.flash := by
  unfold State.raise; dsimp only; (repeat' split) <;> rfl
@[simp] theorem State.raise_custody (s : State) (n : Nat) : (s.raise n).custody = s.custody := by
  unfold State.raise; dsimp only; (repeat' split) <;> rfl
@[simp] theorem State.raise_lc (s : State) (n : Nat) : (s.raise n).lc = s.lc := by
  unfold State.raise; dsimp only; (repeat' split) <;> rfl
@[simp] theorem State.raise_fuse (s : State) (n : Nat) : (s.raise n).fuse = s.fuse := by
  unfold State.raise; dsimp only; (repeat' split) <;> rfl
@[simp] theorem State.raise_shadow (s : State) (n : Nat) : (s.raise n).shadow = s.shadow := by
  unfold State.raise; dsimp only; (repeat' split) <;> rfl
@[simp] theorem State.raise_pwr (s : State) (n : Nat) : (s.raise n).pwr = s.pwr := by
  unfold State.raise; dsimp only; (repeat' split) <;> rfl
@[simp] theorem State.raise_rst (s : State) (n : Nat) : (s.raise n).rst = s.rst := by
  unfold State.raise; dsimp only; (repeat' split) <;> rfl
@[simp] theorem State.raise_clk (s : State) (n : Nat) : (s.raise n).clk = s.clk := by
  unfold State.raise; dsimp only; (repeat' split) <;> rfl
@[simp] theorem State.raise_dbg (s : State) (n : Nat) : (s.raise n).dbg = s.dbg := by
  unfold State.raise; dsimp only; (repeat' split) <;> rfl
@[simp] theorem State.raise_xspi (s : State) (n : Nat) : (s.raise n).xspi = s.xspi := by
  unfold State.raise; dsimp only; (repeat' split) <;> rfl
@[simp] theorem State.raise_uart (s : State) (n : Nat) : (s.raise n).uart = s.uart := by
  unfold State.raise; dsimp only; (repeat' split) <;> rfl
@[simp] theorem State.raise_i2c (s : State) (n : Nat) : (s.raise n).i2c = s.i2c := by
  unfold State.raise; dsimp only; (repeat' split) <;> rfl
@[simp] theorem State.raise_mem (s : State) (n : Nat) : (s.raise n).mem = s.mem := by
  unfold State.raise; dsimp only; (repeat' split) <;> rfl

/-- An event changes its source's PEND and EVC alone (R251). -/
theorem State.get_raise_ne (s : State) (n : Nat) {f : Fld} (h : ¬ (f = R.ICU_STS_PEND n ∨ f = R.ICU_STS_EVC n)) :
    (s.raise n).get f = s.get f := by
  have h1 : R.ICU_STS_PEND n ≠ f := fun e => h (.inl e.symm)
  have h2 : R.ICU_STS_EVC n ≠ f := fun e => h (.inr e.symm)
  unfold State.raise
  dsimp only
  split
  · rfl
  · split
    · split <;> exact (State.get_inc_ne _ h2).trans (State.get_set_ne _ h1 _)
    · split <;> rfl

/-- An event outside the interrupt controller's domain changes no register. -/
theorem State.get_raise_pd (s : State) (n : Nat) {f : Fld} (h : f.pd ≠ 6) : (s.raise n).get f = s.get f :=
  State.get_raise_ne s n (by rintro (rfl | rfl) <;> exact h rfl)

end Sys2Proof.Machine
end

