-- ==== Sys2Proof/Laws/Strand.lean ====
section
/-!
SUPPORT. How an instruction of a strand that meets nothing in its way runs: the core it changes, what issue and
completion come to, and the registers it leaves.
-/

namespace Sys2Proof.Machine

theorem State.coreAt_fin (s : State) (c : Fin 3) : s.coreAt c = s.core[c] := by
  simp [State.coreAt, Vector.getD]

theorem State.coreAt_updCore (s : State) (c d : Fin 3) (f : Core → Core) :
    (s.updCore c f).coreAt d = if d = c then f (s.coreAt c) else s.coreAt d := by
  have hc := c.isLt
  simp only [State.coreAt_fin, State.updCore, Fin.getElem_fin, Vector.getElem_setIfInBounds]
  by_cases e : d = c
  · subst e; simp
  · have : (c : Nat) ≠ d := fun h => e (Fin.ext h.symm)
    simp [e, this]

theorem CoreOnly.updCore (s : State) (c : Fin 3) (f : Core → Core) : CoreOnly c s (s.updCore c f) := by
  refine ⟨⟨rfl, fun p h => ?_⟩, fun d hd => by rw [State.coreAt_updCore, if_neg hd]⟩
  cases p <;> first | rfl | exact fun _ _ => rfl | exact absurd rfl (h .core (by simp))

theorem State.updCore_updCore (s : State) (c : Fin 3) (f g : Core → Core) :
    (s.updCore c f).updCore c g = s.updCore c fun k => g (f k) := by
  rw [State.updCore, State.coreAt_updCore, if_pos rfl]
  simp only [State.updCore]
  congr 1
  ext i hi
  simp only [Vector.getElem_setIfInBounds]
  split <;> rfl

theorem State.issue_ready {s : State} {c : Fin 3} (h : s.Ready c) (n : Nat) (f : State → State) :
    s.issue c n f = f (s.updCore c fun k => { k with cycle := k.cycle + BitVec.ofNat 32 n }) := by
  have e : (if (s.coreAt c).resumed then none else s.bpMatch c (s.coreAt c).pc.toNat [0]) = none := by
    rcases h.noBreak with b | b <;> simp [b]
  have g : (decide ((s.coreAt c).pc.toNat < 0x20000) && s.tcmBad itcmKey c (s.coreAt c).pc.toNat) = false := by
    by_cases b : (s.coreAt c).pc.toNat < 0x20000
    · simp [h.sound b]
    · simp [b]
  simp only [State.issue, h.issues, e, h.fetch, g, State.fetched, State.spend, h.cached]
  simp

theorem State.complete_ready {s : State} {c : Fin 3} (dests : List (Fin 32)) (f : Core → Core)
    (h : ((s.coreAt c).retire dests f).step = false) :
    s.complete c dests f = s.updCore c fun k => k.retire dests f := by
  simp only [State.complete, State.stepEnd, State.coreAt_updCore, if_true, h]
  simp

theorem Core.rd_wr (k : Core) (r q : Fin 32) (v : Word) : (k.wr r v).rd q = if q = 0 then 0 else if q = r then v else k.rd q := by
  simp only [Core.rd, Core.wr]
  by_cases h : q = 0
  · simp [h]
  · by_cases e : q = r
    · subst e; simp [h]
    · have : (r : Nat) ≠ q := fun x => e (Fin.ext x.symm)
      by_cases z : r = 0 <;> simp [h, e, z, this]


theorem Core.rd_retire (k : Core) (rd : Fin 32) (n : Nat) (v : Word) (pc : Word) (f : Core → Core)
    (hf : f { { k with cycle := k.cycle + BitVec.ofNat 32 n } with ld := none, ldNext := none, fromEret := false, fresh := false, resumed := false }
      = { ({ { k with cycle := k.cycle + BitVec.ofNat 32 n } with ld := none, ldNext := none, fromEret := false, fresh := false, resumed := false } : Core).wr rd v with pc := pc }) :
    k.Ran (({ k with cycle := k.cycle + BitVec.ofNat 32 n } : Core).retire [rd] f) pc n ∧
      ∀ r, (({ k with cycle := k.cycle + BitVec.ofNat 32 n } : Core).retire [rd] f).rd r =
        if r = 0 then 0 else if r = rd then v else k.rest r := by
  simp only [Core.retire, hf]
  refine ⟨?_, fun r => ?_⟩
  · simp only [Core.Ran, Core.wr]
    cases h : k.ld with
    | none => by_cases z : rd = 0 <;> simp [z]
    | some x =>
      by_cases z : rd = 0 <;> by_cases y : x.1 = rd <;> by_cases w : x.1 = 0 <;> simp [z, y, w]
  · cases h : k.ld with
    | none =>
      simp only [Core.rest, h, Core.rd, Core.wr]
      by_cases z : r = 0
      · simp [z]
      · by_cases e : r = rd
        · subst e; simp [z]
        · have : (rd : Nat) ≠ r := fun x => e (Fin.ext x.symm)
          by_cases y : rd = 0 <;> simp [z, e, y, this]
    | some x =>
      obtain ⟨q, w⟩ := x
      simp only [Core.rest, h, List.mem_singleton]
      by_cases z : r = 0
      · subst z; simp [Core.rd]
      · have hq : (q : Nat) = r ↔ q = r := ⟨Fin.ext, congrArg _⟩
        have hr : (rd : Nat) = r ↔ rd = r := ⟨Fin.ext, congrArg _⟩
        have hs : (r = rd) = (rd = r) := propext eq_comm
        by_cases e : q = rd <;> by_cases y : rd = 0 <;> by_cases u : q = 0 <;> by_cases o : rd = r <;> by_cases a : q = r <;>
          simp_all [Core.rd, Core.wr]
theorem writesReg_alu {i : Instr} {s : State} {c : Fin 3} {rd : Fin 32} {v : Core → Word} {n : Nat} (h : s.Ready c)
    (e : exec i s = .next (s.alu c n rd v)) {w : Word}
    (hw : ∀ k, k.g = (s.coreAt c).g → v k = w) :
    WritesReg i s c rd w ((s.coreAt c).pc + 4) n := by
  have e1 : s.alu c n rd v = s.updCore c fun k =>
      ({ k with cycle := k.cycle + BitVec.ofNat 32 n } : Core).retire [rd] fun k => (k.wr rd (v k)).next := by
    rw [State.alu, State.issue_ready h, State.complete_ready, State.updCore_updCore]
    simp only [State.coreAt_updCore, if_true, Core.retire, Core.next, Core.wr]
    have := h.noStep
    (repeat' split) <;> simpa using this
  refine ⟨_, e, ?_⟩
  rw [e1]
  refine ⟨CoreOnly.updCore .., ?_⟩
  rw [State.coreAt_updCore, if_pos rfl]
  refine Core.rd_retire _ _ _ _ _ _ ?_
  simp only [Core.next]
  rw [hw]
  · simp only [Core.wr]; split <;> rfl
  · rfl
end Sys2Proof.Machine
end

