-- ==== Sys2Proof/WellFormed.lean ====
section
/-!
DEFINITION. Which commands are well formed: a write names a world its requester can act in, a register
write names a word, and a call that the table gives no gate names no index of a gate.
-/

namespace Sys2Proof

/-- Can the requester act in the world it names? Only a strand acts in the SEALED world (R286, R395). -/
def Who.wf (q : Who) : Bool :=
  match q.req with
  | .strandA | .strandB | .strandC => true
  | .dma | .crerus | .debug => !q.sealedW

/-- The requester of a write, with its world; none for a command of another kind. -/
def Instr.who (i : Instr) : Option Who :=
  match i with
  | .registerWrite q _ _ => some q
  | .wideValueLowRead _ _ => none
  | .wideValueLowWrite q _ => some q
  | .wideValueHighWrite q _ => some q
  | .adcSoftwareStart q _ _ => some q
  | .adcPendingSlotStart _ => none
  | .adcConversionDone _ _ _ _ => none
  | .adcAverageDone _ _ _ _ => none
  | .adcResultRead q _ _ => some q
  | .comparatorCrossing _ _ _ _ => none
  | .cmpFilterSettled _ => none
  | .cmpBlankingEnd _ => none
  | .dacWrite q _ _ => some q
  | .rfmMeasurementCycleEnd _ _ _ _ => none
  | .rfmReferenceSwitch _ => none
  | .rfmSwitchDeadline _ => none
  | .rfmHoldoffEnd => none
  | .rfmWinWrite q _ => some q
  | .lanePendingRunStart _ => none
  | .laneMaxageExpiry _ => none
  | .laneEnable q _ _ => some q
  | .laneDisable q _ _ => some q
  | .laneUpd q _ _ => some q
  | .laneHclr q _ _ => some q
  | .shedGroupEnable q _ _ => some q
  | .heddleDestinationWrite q _ _ => some q
  | .heddleSoftwareStrobe q _ => some q
  | .heddleTick => none
  | .pwmPeriodStart _ => none
  | .pwmEdgeCommit _ _ => none
  | .pwmCompareEdge _ _ => none
  | .pwmCentrePeak _ => none
  | .pwmTriggerCompare _ _ _ => none
  | .pwmCtTermination _ => none
  | .pwmDeadTimeExpiry _ _ => none
  | .adtSwitchNodeTransition _ _ _ => none
  | .adtMissTimeout _ _ => none
  | .pwmShadowWrite q _ _ _ => some q
  | .pwmGuardedWrite q _ _ _ _ => some q
  | .pwmValueLoad _ _ => none
  | .pwmEnable q _ _ => some q
  | .tripZoneInput _ _ _ => none
  | .softwareTripSet q _ _ => some q
  | .softwareTripClear q _ _ => some q
  | .tripClearRequest q _ => some q
  | .governorSample => none
  | .governorComputation => none
  | .governorCeilingTimeout => none
  | .capMeasurementTimeout => none
  | .tmrEnable q _ _ => some q
  | .tmrCompareMatch _ _ => none
  | .tmrOverflow _ => none
  | .tmrCapture _ _ _ => none
  | .tmrCaptureRead q _ => some q
  | .tmrCounterWrite q _ _ => some q
  | .tmrPinForce q _ _ => some q
  | .tbStep _ => none
  | .staggerLoad q _ _ => some q
  | .globalStartGo q => some q
  | .globalStartArm q => some q
  | .globalStartCancel q => some q
  | .globalStartRelease => none
  | .warpSuperframeSlot => none
  | .warpTimeFrame _ _ _ => none
  | .warpTimeStepFrame _ => none
  | .warpGstartFrame _ _ => none
  | .warpMsgData _ _ _ _ _ _ _ _ => none
  | .warpMsgAck _ _ _ _ => none
  | .warpMsgNakReset _ _ _ _ => none
  | .warpMsgNakBusy _ _ _ _ => none
  | .warpEnumFrame _ _ _ => none
  | .warpCalMeasureFrame _ _ _ => none
  | .warpCalResultFrame _ _ _ => none
  | .warpBypassEnterFrame _ => none
  | .warpBypassLeaveFrame _ => none
  | .warpBypassBreakFrame _ => none
  | .warpBypassHealedFrame _ => none
  | .warpBypassResetFrame _ => none
  | .warpEmptyFrame => none
  | .warpReservedFrame _ _ => none
  | .warpCrcFailure => none
  | .warpTimeEvent => none
  | .warpCalibrationTimer => none
  | .warpCalibrationRetry => none
  | .warpMsgRetryTimeout _ => none
  | .warpMsgBusyResend _ => none
  | .warpMsgDeadline _ => none
  | .warpLinkDown => none
  | .warpTimeLost => none
  | .warpRingOpen => none
  | .warpLinkRestored => none
  | .warpSyncTimeout => none
  | .warpPhaseSlewStep => none
  | .warpGlobalStartRelease => none
  | .warpSlotLoad q _ => some q
  | .plyMismatch _ _ _ => none
  | .plyResyncCopyDone => none
  | .plyResyncComplete => none
  | .plyScrub => none
  | .plySplitComplete => none
  | .plyJoinTcmCopyDone => none
  | .plyJoinComplete => none
  | .plyUnrecoverableFault _ => none
  | .plyRestartRelease => none
  | .plyWatchdogKick q _ => some q
  | .plyWatchdogWarning _ => none
  | .plyWatchdogExpiry _ => none
  | .add _ _ _ _ => none
  | .sub _ _ _ _ => none
  | .and _ _ _ _ => none
  | .or _ _ _ _ => none
  | .xor _ _ _ _ => none
  | .slt _ _ _ _ => none
  | .sltu _ _ _ _ => none
  | .sll _ _ _ _ => none
  | .srl _ _ _ _ => none
  | .sra _ _ _ _ => none
  | .slli _ _ _ _ => none
  | .srli _ _ _ _ => none
  | .srai _ _ _ _ => none
  | .min _ _ _ _ => none
  | .max _ _ _ _ => none
  | .minu _ _ _ _ => none
  | .maxu _ _ _ _ => none
  | .addi _ _ _ _ => none
  | .slti _ _ _ _ => none
  | .sltiu _ _ _ _ => none
  | .andi _ _ _ _ => none
  | .ori _ _ _ _ => none
  | .xori _ _ _ _ => none
  | .lui _ _ _ => none
  | .mul _ _ _ _ => none
  | .mulh _ _ _ _ => none
  | .mulhu _ _ _ _ => none
  | .div _ _ _ _ => none
  | .divu _ _ _ _ => none
  | .rem _ _ _ _ => none
  | .remu _ _ _ _ => none
  | .sadd _ _ _ _ => none
  | .ssub _ _ _ _ => none
  | .sabs _ _ _ => none
  | .sat _ _ _ _ => none
  | .sslli _ _ _ _ => none
  | .qmul _ _ _ _ => none
  | .qmul15 _ _ _ _ => none
  | .ldb _ _ _ _ => none
  | .ldbu _ _ _ _ => none
  | .ldh _ _ _ _ => none
  | .ldhu _ _ _ _ => none
  | .ldw _ _ _ _ => none
  | .stb _ _ _ _ => none
  | .sth _ _ _ _ => none
  | .stw _ _ _ _ => none
  | .ldx _ _ _ _ => none
  | .stx _ _ _ _ => none
  | .ldxReservationTimeout _ => none
  | .iold _ _ _ _ => none
  | .iost _ _ _ _ => none
  | .beq _ _ _ _ => none
  | .bne _ _ _ _ => none
  | .blt _ _ _ _ => none
  | .bge _ _ _ _ => none
  | .bltu _ _ _ _ => none
  | .bgeu _ _ _ _ => none
  | .j _ _ => none
  | .call _ _ => none
  | .jr _ _ => none
  | .callr _ _ => none
  | .fence _ => none
  | .wfi _ => none
  | .eret _ => none
  | .handover _ => none
  | .joinwait _ => none
  | .wret _ => none
  | .csrrd _ _ _ => none
  | .csrwr _ _ _ => none
  | .cacheInvalidate _ _ => none
  | .mpuLock _ _ => none
  | .tld _ _ _ _ _ _ => none
  | .tst _ _ _ _ _ _ => none
  | .tsave _ _ _ _ _ _ => none
  | .trest _ _ _ _ _ _ => none
  | .tmac _ _ _ => none
  | .tmacv _ _ _ _ => none
  | .adrain _ _ _ _ => none
  | .azero _ => none
  | .trel _ _ => none
  | .unassignedEncoding _ _ => none
  | .cacheLineFill _ _ => none
  | .accessRetryReissue _ => none
  | .icuSourceEvent _ => none
  | .icuCoalesceTimerExpiry _ => none
  | .icuHoldoffEnd _ => none
  | .interruptEntry _ _ => none
  | .icuCompletion _ _ => none
  | .icuActclr q _ => some q
  | .icuPendClear q _ => some q
  | .icuSgiSet q _ => some q
  | .wfiWake _ => none
  | .dmaEnable q _ _ => some q
  | .dmaDisable q _ _ => some q
  | .dmaSoftwareTrigger q _ _ => some q
  | .dmaDescriptorLoad _ => none
  | .dmaBeat => none
  | .dmaDescriptorComplete _ => none
  | .dmaNextFetch _ => none
  | .dmaRetryReissue _ => none
  | .wgateEntry _ _ => none
  | .wgateReturn _ => none
  | .wgateInfo _ => none
  | .wgateUnassigned _ _ => none
  | .sealedWatchdogExpiry => none
  | .sealedReload q _ => some q
  | .sealedLoadComplete => none
  | .xspiRead _ _ => none
  | .xspiWrite _ _ => none
  | .xspiReadStatus _ => none
  | .xspiReadId _ => none
  | .xspiResetEnable => none
  | .xspiReset => none
  | .xspiUnknownCommand _ => none
  | .xspiModeChange => none
  | .mailboxBufferWrite q _ _ _ => q
  | .mailboxDoorbell q _ => q
  | .mailboxAcknowledge q _ => q
  | .mailboxRequestTake => none
  | .requestResume => none
  | .get => none
  | .set => none
  | .apply => none
  | .commitStage => none
  | .commitWrite => none
  | .stage => none
  | .attest => none
  | .wipe => none
  | .watch => none
  | .forget => none
  | .noticeDelivery _ => none
  | .doPing => none
  | .doPowerState => none
  | .doWarpGstart => none
  | .doWarpSend => none
  | .doWarpReset => none
  | .doWarpCal => none
  | .doLcTransition => none
  | .doLcToken => none
  | .doLcScrap => none
  | .doFwVerify => none
  | .doFwActivate => none
  | .fwStatusCommit => none
  | .doDrbgRandom => none
  | .doDrbgGenerate => none
  | .doTamperClear _ => none
  | .doDraftImage => none
  | .doSeqRun => none
  | .doSeqUndo => none
  | .sequenceStep _ => none
  | .fanServiceTick _ _ _ _ => none
  | .crerusRestartComplete _ => none
  | .crerusWatchdogExpiry => none
  | .vendorFirmwareStart _ => none
  | .queueSubmit _ => none
  | .queueTake => none
  | .jappend => none
  | .jread => none
  | .kstore => none
  | .kfetch => none
  | .bwrite => none
  | .bread => none
  | .flush => none
  | .barrier => none
  | .queueCompletionPost => none
  | .queueConsume _ => none
  | .queueReset _ => none
  | .journalDeferTimeout => none
  | .journalPageDone _ => none
  | .journalScanComplete => none
  | .tamperDetection _ _ => none
  | .tamperSwitchFilterExpiry _ => none
  | .meshBitPeriod _ _ => none
  | .meshReseed => none
  | .tamperWipeComplete => none
  | .tamperJournalRecord => none
  | .entropyHealthFailure _ => none
  | .flashArm q _ => some q
  | .flashProgram q => some q
  | .flashErase q => some q
  | .flashBadcmd q _ => some q
  | .flashSequenceLapse => none
  | .flashOperationComplete _ _ => none
  | .lcRequest q _ => some q
  | .lcScrapArm q => some q
  | .lcScrapConfirm q _ => some q
  | .lcScrapTimeout => none
  | .lcTransitionStepDone => none
  | .fuseProgram q => some q
  | .fuseLockrow q => some q
  | .fuseProgramDone _ => none
  | .sysKeyWrite q _ => some q
  | .sysKeyUnlockExpiry _ => none
  | .tapReset => none
  | .jtagExtest _ => none
  | .jtagSamplePreload _ => none
  | .jtagIdcode => none
  | .jtagClamp => none
  | .jtagHighz => none
  | .jtagDbgstat => none
  | .jtagBypass => none
  | .dbgapRead _ _ => none
  | .dbgapWrite _ _ => none
  | .dbgapNop => none
  | .dbgauthReadChallenge => none
  | .dbgauthWriteCertificate _ => none
  | .dbgauthNewchal => none
  | .dbgauthSubmit => none
  | .debugCertCheckDone => none
  | .debugGrantExpiry => none
  | .debugRevoke => none
  | .debugHaltRequest _ => none
  | .debugHalt _ => none
  | .debugHaltDeferralExpiry _ => none
  | .debugResume _ => none
  | .debugStep _ => none
  | .debugRegisterAccess _ _ => none
  | .debugBurst _ => none
  | .clockMonitorWindowEnd _ _ _ _ _ => none
  | .clockReferenceLost _ => none
  | .pllRelockDone => none
  | .pllLockLoss => none
  | .pllRelockTimeout => none
  | .clockHoldoffEnd => none
  | .powerAckReady q _ => some q
  | .powerForcedStopTimeout _ => none
  | .powerEntryContinue => none
  | .domainQuiesceComplete _ => none
  | .domainPowerUpComplete _ => none
  | .domainUnplannedLoss _ => none
  | .domainRestart _ => none
  | .powerWake _ => none
  | .powerExitComplete => none
  | .pd7PowerRequest q _ => some q
  | .pd11PowerRequest q _ => some q
  | .sramBankPowerRequest q _ => some q
  | .mainSupplyLoss => none
  | .powerOnReset => none
  | .brownOut _ => none
  | .resetPin => none
  | .softwareReset q _ => some q
  | .resetRelease _ _ _ _ => none
  | .gpioInputEvent _ => none
  | .encoderCountWrite q _ => some q
  | .gpioOutputSet q _ => some q
  | .gpioOutputClear q _ => some q
  | .gpioMuxWrite q _ _ => some q
  | .uartTransmitData q _ => some q
  | .uartTransmitCharacter => none
  | .uartReceiveCharacter _ _ _ => none
  | .uartBreak => none
  | .uartReceiveTimeout => none
  | .uartReceiveDataRead q => some q
  | .i2cTransferStart q _ => some q
  | .i2cControllerByte _ _ => none
  | .i2cTransferComplete => none
  | .i2cArbitrationLost => none
  | .i2cControllerDisable q _ => some q
  | .i2cTargetAddressed _ _ => none
  | .i2cTargetByte _ _ => none
  | .i2cStop _ => none
  | .i2cStretchLimit => none
  | .i2cTransmitData q _ => some q
  | .i2cReceiveDataRead q => some q
  | .thermalSample _ => none
  | .advisoryRecord => none
  | .boardServiceSet _ => none
  | .laneApplyTimeout => none
  | .uartTransmitComplete => none
  | .i2cStartCondition => none
  | .i2cBusFree => none
  | .journalChainVerifyDone => none

/-- The requester of a command can act in the world it names. -/
def Instr.whoWf (i : Instr) : Bool :=
  match i.who with
  | some q => q.wf
  | none => true

/-- Is the operand of the command one that its row covers: a register write names a word of the register map
(R8), and the row of unassigned calls an index that no other gate row has (R296)? -/
def Instr.rowWf (i : Instr) : Bool :=
  match i with
  | .registerWrite _ a _ => decide (a.toNat % 4 = 0)
  | .wgateUnassigned _ x => decide (x.toNat ≠ 0 ∧ x.toNat ≠ 1 ∧ ¬(0x1000 ≤ x.toNat ∧ x.toNat < 0x1040))
  | _ => true

/-- The command is well formed. -/
def Instr.wf (i : Instr) : Bool := i.whoWf && i.rowWf

end Sys2Proof
end

