-- ==== Sys2Proof/Tests/Slice0.lean ====
section
/-!
SUPPORT. Small tests: a smoke test of the well-formedness checks, results of single commands worked out by hand from
the spec, and for every clause of a statement with hypotheses a state and operands that meet them together.
-/

open Sys2Proof Sys2Proof.Machine

namespace Sys2Proof.Tests

set_option maxRecDepth 20000

/-! ### Small states -/

/-- A running part with every power domain ON and the given fields. -/
def st (rs : List (Fld × Nat)) : State :=
  { regs := rs.foldl (fun r x => r.set x.1 x.2) ((List.range 12).map fun d => (R.PWR_DOM d, 3))
    rst := { asserted := false, aon := false, causes := [] } }

/-- That part with core `c` issuing in the OPEN world. -/
def run (c : Nat) (k : Core) (rs : List (Fld × Nat)) : State :=
  (st rs).updCore c fun _ => { k with run := .issuing }

/-- A write by strand A in the OPEN world. -/
def q : Who := { req := .strandA, sealedW := false }

/-- The state a command leads to. -/
def aft (i : Instr) (s : State) : State :=
  match exec i s with
  | .next t => t
  | _ => s

theorem fits {r : Regs} (h : r.all (fun x => decide (x.2 < 2 ^ x.1.w)) = true) : regsFit r := fun x hx =>
  of_decide_eq_true (List.all_eq_true.mp h x hx)

/-! ### Memory that nothing has written -/

theorem blankLine {s : State} {a : Nat} (h : s.mem = []) (hk : a + 16 ≤ 0x10000000 ∨ 0x10800000 ≤ a) :
    s.byteList a 16 = List.replicate 16 0 := by
  have : ∀ i, i < 16 → s.byte (a + i) = 0 := fun i hi => by
    have : ¬ (0x10000000 ≤ a + i ∧ a + i < 0x10800000) := by omega
    simp [State.byte, h, memGet, memDefault, this]
  refine List.eq_replicate_iff.2 ⟨by simp [State.byteList], fun b hb => ?_⟩
  obtain ⟨i, hi, rfl⟩ := List.mem_map.1 hb
  exact this i (List.mem_range.1 hi)

theorem agrees {s : State} {key : Nat → Nat → Nat} {c a : Nat} (h : s.mem = [])
    (hk : ∀ k < 3, key k (a / 16 * 16) + 16 ≤ 0x10000000 ∨ 0x10800000 ≤ key k (a / 16 * 16)) :
    s.tcmBad key c a = false := by
  unfold State.tcmBad
  simp only [blankLine h (hk 0 (by omega)), blankLine h (hk 1 (by omega)), blankLine h (hk 2 (by omega))]
  split
  · split <;> rfl
  · rfl
theorem agreesI {s : State} {c a : Nat} (h : s.mem = []) : s.tcmBad itcmKey c a = false :=
  agrees h fun k _ => by unfold itcmKey; omega
theorem agreesD {s : State} {c a : Nat} (h : s.mem = []) : s.tcmFails c a = false := by
  unfold State.tcmFails
  by_cases ha : a < 0x20000
  · rw [agrees h fun k hk => by unfold dtcmKey; omega]; simp
  · simp [ha]

/-- A core is ready where its I-TCM copies agree, as they do with nothing written. -/
theorem readyOf {s : State} {c : Nat} (m : s.mem = [])
    (h : s.canIssue c = true ∧ s.bpMatch c (s.coreAt c).pc.toNat [0] = none
      ∧ s.fetchReason (s.coreAt c) (s.coreAt c).pc.toNat = none ∧ s.misses c = false ∧ (s.coreAt c).step = false) : s.Ready c :=
  ⟨h.1, .inr h.2.1, h.2.2.1, fun _ => agreesI m, h.2.2.2.1, h.2.2.2.2⟩

theorem accessOf {s : State} {c n : Nat} {ea : Word} {w : Bool} (m : s.mem = [])
    (h : ea.toNat % n = 0 ∧ s.dataReason (s.coreAt c) ea.toNat w = none ∧ ea.toNat < 0x20000
      ∧ s.bpMatch c ea.toNat [if w then 2 else 1, 3] = none) : s.TcmAccess c ea n w :=
  ⟨h.1, h.2.1, h.2.2.1, fun _ => agreesD m, h.2.2.2⟩

theorem clearOf {s : State} {c : Nat} {m : Move} (e : s.mem = [])
    (h : (s.coreAt c).matches m = false ∧ (m.ea.toNat % 16 = 0 ∧ m.stride % 16 = 0)
      ∧ (∀ r, r < m.rows → s.dataReason (s.coreAt c) (m.rowEa r).toNat m.writes = none)
      ∧ (∀ r, r < m.rows → (m.rowEa r).toNat < 0x20000)
      ∧ ∀ r, r < m.rows → s.bpMatch c (m.rowEa r).toNat [if m.writes then 2 else 1, 3] = none) : s.MoveClear c m :=
  ⟨h.1, h.2.1, h.2.2.1, h.2.2.2.1, fun _ _ _ => agreesD e, h.2.2.2.2⟩

/-! ### The step -/

theorem wit_idle : (st []).pending = [] ∧ (st []).on 9 = true ∧ (st []).time.usFrac < 124
    ∧ 124 ≤ ({ usFrac := 124 } : TimeSt).usFrac := by decide
theorem wit_kept : (st []).Kept := ⟨by decide, fits (by decide), fun _ h => nomatch h⟩
theorem wit_step_next : ∃ t, step (st []) = .next t := ⟨_, rfl⟩
theorem wit_reset_field : (R.EGV_ECEIL).rst ≠ .val 0 ∧ (R.EGV_EHI).rst = .val 0 ∧ R.EGV_EHI ≠ R.WRP_STAT_BYPASS := by decide

/-! ### Witnesses: strands -/

theorem ready0 : (run 0 {} []).Ready 0 := readyOf rfl (by decide)
theorem ready2 : (run 2 {} [(R.PLY_MODE_CUR, 2)]).Ready 2 := readyOf rfl (by decide)
theorem readySealed : (run 0 { world := true, pc := 0xFFFF0000, save := some (0, false) } []).Ready 0 := readyOf rfl (by decide)
theorem readyExl : (run 0 { exl := true } []).Ready 0 := readyOf rfl (by decide)

theorem wit_IntegerArithmetic : ∃ s : State, s.Ready (0 : Fin 3) := ⟨_, ready0⟩
theorem wit_BranchesAndJumps : ∃ s : State, s.Ready (2 : Fin 3) := ⟨_, ready2⟩
theorem wit_CallsWriteLinkOnly : ∃ s : State, s.Ready (0 : Fin 3) := ⟨_, ready0⟩

theorem wit_load : (run 0 {} []).Ready 0 ∧ (run 0 {} []).TcmAccess 0 (0 + (0x7FFC : BitVec 16).signExtend 32) 4 false :=
  ⟨ready0, accessOf rfl (by decide)⟩
theorem wit_store : (run 0 {} []).Ready 0 ∧ (run 0 {} []).TcmAccess 0 (0 + (0x7FFC : BitVec 16).signExtend 32) 4 true :=
  ⟨ready0, accessOf rfl (by decide)⟩
theorem wit_misaligned : (run 0 {} []).Ready 0 ∧ (0 + (2 : BitVec 16).signExtend 32 : Word).toNat % 4 ≠ 0
    ∧ ((run 0 {} []).coreAt 0).exl = false ∧ ((run 0 {} []).coreAt 0).world = false :=
  ⟨ready0, by decide⟩

theorem wit_ldx : (run 0 {} []).Ready 0 ∧ (run 0 {} []).TcmAccess 0 0 4 false :=
  ⟨ready0, accessOf rfl (by decide)⟩
theorem wit_stx_held : (run 0 { res := some (granule 0 0) } []).Ready 0 ∧ (run 0 { res := some (granule 0 0) } []).TcmAccess 0 0 4 true
    ∧ ((run 0 { res := some (granule 0 0) } []).coreAt 0).res = some (granule 0 0) :=
  ⟨readyOf rfl (by decide), accessOf rfl (by decide), by decide⟩
theorem wit_stx_lost : (run 0 {} []).Ready 0 ∧ (run 0 {} []).TcmAccess 0 0 4 true
    ∧ ((run 0 {} []).coreAt 0).res ≠ some (granule 0 0) :=
  ⟨ready0, accessOf rfl (by decide), by decide⟩
theorem wit_ldx_timeout : ((run 0 { locked := true } []).coreAt 0).locked = true := by decide

theorem wit_iold : let s := run 0 {} []
    let u := ((s.cycles 0 1).ioWait 0 0x17050).ioRead .strandA 0x17050 false
    (0x17050 % 4 = 0 ∧ 0x17050 < 0x100000 ∧ (s.coreAt 0).mpu.allows 2 0 0x17050 = true) ∧
    (u.resp.at (reqIdx .strandA)).code = .ok ∧ (u.coreAt 0).step = false ∧ u.bpMatch 0 0x17050 [1, 3] = none := by decide
theorem wit_iost : let s := run 0 {} []
    let u := ((s.cycles 0 1).ioWait 0 0x17044).ioWrite q 0x17044 5
    (0x17044 % 4 = 0 ∧ 0x17044 < 0x100000 ∧ (s.coreAt 0).mpu.allows 2 1 0x17044 = true) ∧ u.rst.asserted = false ∧
    (u.resp.at (reqIdx .strandA)).code = .ok ∧ (u.coreAt 0).step = false ∧ u.bpMatch 0 0x17044 [2, 3] = none := by decide

theorem wit_TileArithmetic : ∃ s : State, s.Ready (0 : Fin 3) := ⟨_, ready0⟩
theorem wit_tld : (run 0 {} []).MoveClear 0 (tileMoveOf ((run 0 {} []).coreAt 0) 0 7 0 0 0) :=
  clearOf rfl (by decide)
theorem wit_tst : (run 0 {} []).MoveClear 0 (tileMoveOf ((run 0 {} []).coreAt 0) 1 7 0 0 0) :=
  clearOf rfl (by decide)
/-- A TLD or TST that pauses after its first row, and after its last. -/
theorem wit_tile_pause : let m := tileMoveOf ((run 0 {} []).coreAt 0) 1 7 0 0 0
    (run 0 {} []).MoveClear 0 m ∧ 0 < 1 ∧ 1 ≤ m.rows ∧ 8 ≤ m.rows := ⟨wit_tst, by decide⟩
theorem wit_tsave : ((run 0 { tuse := 0x80 } []).coreAt 0).tuse.toNat.testBit 7 = true
    ∧ (run 0 { tuse := 0x80 } []).MoveClear 0 (tileSaveOf ((run 0 { tuse := 0x80 } []).coreAt 0) 2 false 7 0 0) :=
  ⟨by decide, clearOf rfl (by decide)⟩
theorem wit_trest_acc : (run 0 {} []).MoveClear 0 (tileSaveOf ((run 0 {} []).coreAt 0) 3 true 0 0 0) :=
  clearOf rfl (by decide)
theorem wit_tsave_unused : let k := (run 0 {} []).coreAt 0
    k.tuse.toNat.testBit 7 = false ∧ k.matches (tileSaveOf k 2 false 7 0 0) = false
    ∧ k.matches (tileSaveOf k 3 false 7 0 0) = false := by decide

theorem wit_eret : (run 0 { exl := true } []).Ready 0 ∧ ((run 0 { exl := true } []).coreAt 0).exl = true :=
  ⟨readyExl, by decide⟩
theorem wit_wret : let s := run 0 { pc := 0xFFFF0000, world := true, save := some (8, false) } []
    s.Ready 0 ∧ inRom (s.coreAt 0).pc.toNat = true ∧ (s.coreAt 0).save = some (8, false) ∧ s.wld.waiting = none :=
  ⟨readyOf rfl (by decide), by decide, by decide, by decide⟩
theorem wit_joinwait : let s := run 2 {} [(R.PLY_MODE_CUR, 2)]
    s.Ready 2 ∧ (s.coreAt 2).world = false ∧ ((2 : Nat) ≠ 0 ∨ s.plyMode = 2) := ⟨ready2, by decide, by decide⟩
theorem wit_handover : let s := run 0 {} [(R.PLY_MODE_TARGET, 1)]
    s.Ready 0 ∧ (s.coreAt 0).world = false ∧ s.get R.PLY_MODE_TARGET ≠ s.get R.PLY_MODE_CUR
      ∧ s.handRefused 0 (s.get R.PLY_MODE_TARGET) = false :=
  ⟨readyOf rfl (by decide), by decide, by decide, by decide⟩

theorem wit_eret_illegal : (run 0 {} []).Ready 0 ∧ ((run 0 {} []).coreAt 0).exl = false := ⟨ready0, by decide⟩
theorem wit_sealed_illegal : ∃ s : State, s.Ready 0 ∧ (s.coreAt 0).world = true := ⟨_, readySealed, by decide⟩
theorem wit_joinwait_group : (run 0 {} []).Ready 0 ∧ (run 0 {} []).plyMode ≠ 2 := ⟨ready0, by decide⟩
theorem wit_wret_outside : (run 0 {} []).Ready 0 ∧ inRom ((run 0 {} []).coreAt 0).pc.toNat = false := ⟨ready0, by decide⟩
theorem wit_handover_refused : let s := run 0 {} [(R.PLY_MODE_TARGET, 3)]
    s.Ready 0 ∧ (s.coreAt 0).world = false ∧ s.get R.PLY_MODE_TARGET ≠ s.get R.PLY_MODE_CUR
      ∧ s.handRefused 0 (s.get R.PLY_MODE_TARGET) = true :=
  ⟨readyOf rfl (by decide), by decide, by decide, by decide⟩

theorem wit_illegal : (run 0 {} []).Ready 0 ∧ assigned (0xFC000000 : Word).toNat = false ∧ ((run 0 {} []).coreAt 0).exl = false
    ∧ ((run 0 {} []).coreAt 0).world = false := ⟨ready0, by decide⟩
theorem wit_double : (run 0 { exl := true } []).Ready 0 ∧ assigned (0xFC000000 : Word).toNat = false
    ∧ ((run 0 { exl := true } []).coreAt 0).exl = true := ⟨readyExl, by decide⟩

theorem wit_csrrd : (run 2 {} [(R.PLY_MODE_CUR, 2)]).Ready 2 ∧ (0x070 : BitVec 12) ≠ 0x030 ∧ (0x070 : BitVec 12) ≠ 0x020
    ∧ ({ (run 2 {} [(R.PLY_MODE_CUR, 2)]).coreAt 2 with cycle := 1 }.csr 2 0x070 = some 2) :=
  ⟨ready2, by decide⟩
theorem wit_csr_inval : let s := run 0 { inval := some 5 } []
    s.Ready 0 ∧ (s.coreAt 0).inval.isSome = true := ⟨readyOf rfl (by decide), by decide⟩
theorem wit_csrwr : (run 0 {} []).Ready 0 ∧ (((run 0 {} []).coreAt 0).csr 0 0x006).isSome = true
    ∧ (0x006 : BitVec 12) ≠ 0x013 ∧ (0x006 : BitVec 12) ≠ 0x030
    ∧ ((run 0 {} []).coreAt 0).csrFrozen 0x006 0 = false := ⟨ready0, by decide⟩
theorem wit_inval_write : let s := run 0 { g := (Vector.replicate 32 0).set 1 3 } []
    s.Ready 0 ∧ ((s.coreAt 0).rd 1).toNat.testBit 0 = true :=
  ⟨readyOf rfl (by decide), by decide⟩
theorem wit_mpuLock : let s := run 0 { g := (Vector.replicate 32 0).set 1 3 } []
    s.Ready 0 ∧ (s.coreAt 0).mpu.lock = false ∧ ((s.coreAt 0).rd 1).toNat.testBit 1 = true :=
  ⟨readyOf rfl (by decide), by decide⟩
theorem wit_icuCompletion : let s := run 0 { g := (Vector.replicate 32 0).set 1 223 } [(R.ICU_STS_ACT 223, 1)]
    s.Ready 0 ∧ ((s.coreAt 0).rd 1).toNat % 256 < 224 ∧ s.get (R.ICU_STS_ACT 223) = 1 ∧ s.get (R.ICU_STS_ACTBY 223) = 0 :=
  ⟨readyOf rfl (by decide), by decide⟩

/-! ### Witnesses: the sample path -/

theorem wit_adc_start : (st []).on 7 = true := by decide
theorem wit_adc_trigger : let s := st [(R.ADC_CTRL_EN 7, 1)]
    s.on 7 = true ∧ s.flag (R.ADC_CTRL_EN 7) = true ∧ s.bit (R.ADC_STAT_PEND 7) 3 = false := by decide
theorem wit_adc_overrun : let s := st [(R.ADC_CTRL_EN 7, 1), (R.ADC_STAT_PEND 7, 8)]
    s.on 7 = true ∧ s.flag (R.ADC_CTRL_EN 7) = true ∧ s.bit (R.ADC_STAT_PEND 7) 3 = true := by decide
theorem wit_adc_pending : let s := st [(R.ADC_STAT_PEND 7, 8)]
    s.on 7 = true ∧ (s.adc.at 7).busy = false ∧ s.bit (R.ADC_STAT_PEND 7) 3 = true
    ∧ ∀ j : Fin 4, j < 3 → s.bit (R.ADC_STAT_PEND 7) j = false := by decide
/-- A part whose core 7 converts slot 3 within a sequence of 2^`avg`, of which `cnt` are done. -/
def conv (avg cnt : Nat) : State :=
  { st [] with adc := (st []).adc.put 7 { busy := true, slot := 3, avg := avg, cnt := cnt } }
theorem wit_adc_single : let c := (conv 0 0).adc.at 7
    c.busy = true ∧ c.avg = 0 ∧ c.slot < 4 ∧ c.spans = false := by decide
theorem wit_adc_within : let c := (conv 6 62).adc.at 7
    c.busy = true ∧ c.avg ≠ 0 ∧ c.cnt + 1 < 2 ^ c.avg := by decide
theorem wit_adc_average : let c := (conv 6 63).adc.at 7
    c.busy = true ∧ c.avg ≠ 0 ∧ c.cnt + 1 = 2 ^ c.avg ∧ c.slot < 4 ∧ c.spans = false := by decide

/-- Three references at 1.2 V, of which `n` is selected. -/
def fit (rs : List (Fld × Nat)) (m : RfmSt) : State :=
  { st ([(R.RFM_CFG_FITA, 1), (R.RFM_CFG_FITB, 1), (R.RFM_CFG_SWEN, 1), (R.RFM_NOMA, 1200000), (R.RFM_NOMB, 1200000)] ++ rs)
    with rfm := m }
/-- The volts of those references. -/
def rv : RefVolts := { int := 1200000, a := 1200000, b := 1200000 }
theorem wit_adc_code : let s := fit [(R.RFM_STAT_ACTIVE, 2)] {}
    (s.vref rv).1 ≠ 0 ∧ (s.vref rv).2 ≠ 0 := by decide
/-- R23, R26: VREF is the selected reference times 1.500 V ÷ NOM. Full scale saturates, and 1 LSB below it does not. -/
theorem test_adc_full_scale : let s : State := { fit [(R.RFM_STAT_ACTIVE, 2)] {} with adc := .replicate 8 { sel := 2 } }
    (s.coreCode 7 { a0 := 0, a1 := 0, a2 := 1500000 } { temp := 0, vdd := 0 } rv).1 = 4095
    ∧ (s.coreCode 7 { a0 := 0, a1 := 0, a2 := 1499000 } { temp := 0, vdd := 0 } rv).1 = 4093 := by decide
/-- R26: the differential pair is signed, and −VREF is −2,048. -/
theorem test_adc_differential : let s : State := { fit [] {} with adc := .replicate 8 { sel := 3 } }
    (s.coreCode 0 { a0 := 0, a1 := 1500000, a2 := 0 } { temp := 0, vdd := 0 } rv).1 = -2048 := by decide

theorem wit_cmp : let s := st [(R.CMP_CFG_EN 15, 1), (R.CMP_CFG_INSEL 15, 3)]
    s.on 7 = true ∧ s.flag (R.CMP_CFG_EN 15) = true ∧ (23 : Fin 24).val = 15 + [0, 2, 6, 8].getD (s.get (R.CMP_CFG_INSEL 15)) 8
    ∧ s.get (R.CMP_CFG_FILT 15) = 0 ∧ s.flag (R.CMP_CFG_SLPEN 15) = false := by decide
theorem wit_cmp_filtered : let s := st [(R.CMP_CFG_EN 15, 1), (R.CMP_CFG_FILT 15, 1)]
    s.on 7 = true ∧ s.flag (R.CMP_CFG_EN 15) = true ∧ (15 : Fin 24).val = 15 + [0, 2, 6, 8].getD (s.get (R.CMP_CFG_INSEL 15)) 8
    ∧ s.get (R.CMP_CFG_FILT 15) ≠ 0 := by decide
theorem wit_cmp_rise : let s : State := { st [(R.CMP_CFG_EN 15, 1)] with cmp := .replicate 16 { filt := true } }
    ((s.cmp.at 15).filt && !(s.cmp.at 15).blank && s.flag (R.CMP_CFG_EN 15)) = true ∧ s.flag (R.CMP_STAT_OUT 15) = false := by decide
theorem wit_cmp_fall : let s := st [(R.CMP_CFG_EN 15, 1), (R.CMP_STAT_OUT 15, 1)]
    ((s.cmp.at 15).filt && !(s.cmp.at 15).blank && s.flag (R.CMP_CFG_EN 15)) = false ∧ s.flag (R.CMP_STAT_OUT 15) = true := by decide
theorem wit_cmp_same : let s := st [(R.CMP_CFG_EN 15, 1)]
    ((s.cmp.at 15).filt && !(s.cmp.at 15).blank && s.flag (R.CMP_CFG_EN 15)) = s.flag (R.CMP_STAT_OUT 15) := by decide
/-- R29: INSEL 3 of comparator 15 names AIN23, and a crossing at another ball is not its input. -/
theorem test_cmp_insel : let s := fit [(R.CMP_CFG_EN 15, 1), (R.CMP_CFG_INSEL 15, 3), (R.CMP_THR 15, 1)] {}
    (aft (.comparatorCrossing 15 { ball := 23, v := 1500000 } rv 0) s).get (R.CMP_STAT_OUT 15) = 1
    ∧ (aft (.comparatorCrossing 15 { ball := 15, v := 1500000 } rv 0) s).get (R.CMP_STAT_OUT 15) = 0 := by decide
theorem wit_dac : (st []).on 7 = true ∧ (1 : Fin 3).val < 2 ∧ (2 : Fin 3).val = 2
    ∧ (st []).flag R.DAC_EN_EN0 = false ∧ (st []).flag R.DAC_EN_EN1 = false ∧ (3 : Word).toNat.testBit 1 = true := by decide
theorem wit_rfm : (fit [] {}).on 7 = true ∧ (fit [] {}).refFitted 1 = true ∧ (fit [] {}).refFitted 2 = true := by decide
theorem wit_rfm_alone : (st []).refOthers ((st []).get R.RFM_STAT_ACTIVE) = [] := by decide
/-- The references disagree, two by two, beyond the inner window: there is no majority. -/
theorem wit_rfm_nomaj : let s := fit [] { ia := [100], ib := [-100], ab := [200] }
    let u : State := ((s.sets R.RFM_DEV_IA 100).sets R.RFM_DEV_IB (-100)).sets R.RFM_DEV_AB 200
    u.refOthers (u.get R.RFM_STAT_ACTIVE) ≠ [] ∧ u.devOf (u.get R.RFM_STAT_ACTIVE) = none := by decide
theorem wit_rfm_two : let u := st [(R.RFM_CFG_FITB, 1), (R.RFM_DEV_IB, 200)]
    u.refOthers (u.get R.RFM_STAT_ACTIVE) = [2] ∧ ∃ d, u.devOf (u.get R.RFM_STAT_ACTIVE) = some d ∧ u.get R.RFM_WIN_OUTER < d.natAbs :=
  ⟨by decide, _, rfl, by decide⟩
/-- The selected reference stands beyond the outer window of two others that agree. -/
theorem wit_rfm_out : let u := fit [(R.RFM_DEV_IA, 200), (R.RFM_DEV_IB, 200), (R.RFM_WIN_INNER, 50), (R.RFM_WIN_OUTER, 100)] {}
    u.refOthers (u.get R.RFM_STAT_ACTIVE) = [1, 2] ∧ (∃ d, u.devOf (u.get R.RFM_STAT_ACTIVE) = some d ∧ u.get R.RFM_WIN_OUTER < d.natAbs)
    ∧ u.refAgree 1 2 = true ∧ u.flag R.RFM_CFG_SWEN = true ∧ u.rfm.holdoff = false ∧ u.rfm.next = none :=
  ⟨by decide, ⟨_, rfl, by decide⟩, by decide⟩
theorem wit_rfm_held : (fit [] { holdoff := true }).rfm.holdoff = true := by decide
theorem wit_rfm_switch : let s : State := { st [] with rfm := { next := some 2, switched := true } }
    s.rfm.next = some 2 ∧ s.on 7 = true ∧ s.flag R.RFM_STAT_SELFCHK = false ∧ s.rfm.switched = true := by decide

/-! ### Witnesses: the Loom and the PWM generators -/

theorem wit_lane_held : let s := (st [(R.LN_CTRL_EN 15, 1)]).updLane 15 fun _ => { pend := true }
    (s.lane.at 15).pend = true ∧ s.flag (R.LN_CTRL_EN 15) = true ∧ (s.lane.at 15).shed = false := by decide
theorem wit_lane_free : ((st []).lane.at 15).pend = false := by decide
theorem wit_lane_maxage : let s := st [(R.LN_CTRL_EN 15, 1), (R.LN_IN_MAXAGE 15, 1)]
    s.get (R.LN_IN_MAXAGE 15) ≠ 0 ∧ s.flag (R.LN_CTRL_EN 15) = true
    ∧ s.flag (R.LN_STAT_INMISS 15) = false := by decide
theorem wit_lane_enable : let s := st []
    s.on 6 = true ∧ s.flag (R.LN_CTRL_EN 15) = false ∧ (0x80000000 : Word).toNat.testBit 31 = true
    ∧ (s.laneWritten q 15 0x80000000).destBusy 15 = false := by decide
theorem wit_lane_busy : let s := st [(R.LN_CTRL_EN 0, 1), (R.LN_CTRL_DSTTYPE 0, 1)]
    s.on 6 = true ∧ s.flag (R.LN_CTRL_EN 15) = false ∧ (s.laneWritten q 15 0x80002000).destBusy 15 = true := by decide
theorem wit_lane_busy_mask : let s := st [(R.LN_CTRL_EN 0, 1), (R.LN_DSTMASK 0, 0x8000), (R.LN_DSTMASK 15, 0xC000)]
    (0 : Fin 16) ≠ 15 ∧ s.flag (R.LN_CTRL_EN 0) = true ∧ s.get (R.LN_DSTMASK 0) &&& s.get (R.LN_DSTMASK 15) ≠ 0
    ∧ s.destBusy 15 = true := by decide
theorem wit_lane_enabled : let s := st [(R.LN_CTRL_EN 15, 1)]
    s.on 6 = true ∧ s.flag (R.LN_CTRL_EN 15) = true ∧ (0x80000000 : Word).toNat.testBit 31 = true := by decide
theorem wit_lane_idle : (st []).on 6 = true ∧ (st []).flag (R.LN_CTRL_EN 15) = false ∧ (0 : Word).toNat.testBit 31 = false := by
  decide
theorem wit_lane_clear : (((st []).updLane 15 fun _ => { hclr := true }).lane.at 15).hclr = true := by decide
theorem wit_lane_disable : let s := st [(R.LN_CTRL_EN 15, 1)]
    s.on 6 = true ∧ s.flag (R.LN_CTRL_EN 15) = true ∧ (0 : Word).toNat.testBit 31 = false := by decide
theorem wit_lane_upd : let v : Word := 0xE0000000
    v.toNat.testBit 31 = true ∧ v.toNat.testBit 30 = true ∧ v.toNat.testBit 29 = true := by decide
theorem wit_lane_s1 : let s := st [(R.LN_CTRL_UPD 15, 1), (R.LN_OMIN 15, 1)]
    s.flag (R.LN_CTRL_UPD 15) = true ∧ s.gets (R.LN_OMAX 15) < s.gets (R.LN_OMIN 15) := by decide
theorem wit_lane_s1_in : let s := st [(R.LN_CTRL_UPD 15, 1)]
    s.flag (R.LN_CTRL_UPD 15) = true ∧ s.gets (R.LN_OMIN 15) ≤ s.gets (R.LN_OMAX 15) := by decide
theorem wit_lane_run : let s := (st []).updLane 15 fun _ => { omin := -(2 ^ 23), omax := 2 ^ 23 - 1 }
    let l := s.lane.at 15
    (l.hclr = false ∧ s.flag (R.LN_CTRL_UPD 15) = false ∧ s.flag (R.LN_STAT_INMISS 15) = false
      ∧ s.missCond 15 = false ∧ s.flag (R.LN_CTRL_BOOSTEN 15) = false ∧ s.flag (R.LN_STAT_INHIB 15) = false)
    ∧ -(2 ^ 23) ≤ l.omin ∧ l.omin ≤ l.omax ∧ l.omax < 2 ^ 23 := by decide
theorem wit_shed_refused : let s := st []
    s.on 6 = true ∧ s.flag (R.SHED_CFG_EN 1) = false
    ∧ ((s.reply q.req .ok 0).writeReg q 0x7220 0x80000000).shedBad 1 = true := by decide
theorem wit_shed : let s := st [(R.SHED_ADD 1, 1), (R.SHED_MEMB 1, 1), (R.LN_CTRL_DSTTYPE 0, 1)]
    s.on 6 = true ∧ s.flag (R.SHED_CFG_EN 1) = false
    ∧ ((s.reply q.req .ok 0).writeReg q 0x7220 0x80001110).shedBad 1 = false := by decide
theorem wit_heddle_tick : let s : State := { st [] with time := { hed := 125, tb := 250 } }
    s.on 6 = true ∧ s.time.hed ≠ 0 ∧ s.time.tb.toNat % s.time.hed = 0 ∧ s.time.ticked = false := by decide
theorem wit_heddle_ticked : let s : State := { st [] with time := { hed := 125, tb := 250, ticked := true } }
    s.on 6 = true ∧ s.time.hed ≠ 0 ∧ s.time.tb.toNat % s.time.hed = 0 ∧ s.time.ticked = true := by decide
theorem wit_heddle_divider : (st [(R.HED_DST_DIV 95, 1)]).hedCnt.at 95 < (st [(R.HED_DST_DIV 95, 1)]).get (R.HED_DST_DIV 95)
    ∧ (st []).get (R.HED_DST_DIV 95) ≤ (st []).hedCnt.at 95 := by decide

/-- A part with pair 11 as given. -/
def pair (w : Pwm) (rs : List (Fld × Nat)) : State := (st rs).updPwm 11 fun _ => w
theorem wit_pwm_run : let s := pair { run := true } []
    (s.pwm.at 11).run = true ∧ s.psfbCouple 11 = false ∧ s.bleedHeld 11 = false := by decide
theorem wit_pwm_lag : let s := (pair { run := true, mode := 2 } []).updPwm 10 fun _ => { run := true, mode := 2 }
    (s.pwm.at 11).run = true ∧ s.psfbCouple 11 = true ∧ 11 % 2 = 1 := by decide
theorem wit_pwm_commit : (PwmEdge.aUp ∉ ((pair { run := true } []).pwm.at 11).fixed)
    ∧ ((pair { run := true } []).pwm.at 11).run = true := by decide
/-- The next edge at the counter value 2 is below 3, and the one at 3 is not. -/
theorem wit_pwm_hold : let s := pair { run := true, fixed := [.aUp] } [(R.PWM_PER 11, 3200), (R.PWM_CMPA 11, 64)]
    PwmEdge.aUp ∈ (s.pwm.at 11).fixed ∧ (s.nextEdge 11 .aUp).2 < 3 ∧ ∀ h ∈ (s.pwm.at 11).held, h.1 ≠ .aUp := by decide
theorem wit_pwm_hold_later : let s := pair { run := true, fixed := [.aUp] } [(R.PWM_PER 11, 3200), (R.PWM_CMPA 11, 96)]
    PwmEdge.aUp ∈ (s.pwm.at 11).fixed ∧ 3 ≤ (s.nextEdge 11 .aUp).2 := by decide
theorem wit_pwm_edge_a : let s := pair { run := true, idle := false, aRef := true, pos := { aUp := 1, endp := 2 } } []
    s.runsRefs 11 = true ∧ (s.pwm.at 11).hasEdge 11 .aUp = true ∧ (s.pwm.at 11).mode ≠ 4
    ∧ (s.pwm.at 11).aRef ≠ edgeRises (s.pwm.at 11).mode 11 .aUp := by decide
/-- A shed pair's references move still (R92). -/
theorem wit_pwm_edge_shed : let s := pair { run := true, idle := true, aRef := true, pos := { aUp := 1, endp := 2 } } [(R.PWM_STAT_SHED 11, 1)]
    s.scheduled 11 = false ∧ s.runsRefs 11 = true ∧ (s.pwm.at 11).hasEdge 11 .aUp = true := by decide
theorem wit_pwm_edge_b : let s := pair { run := true, idle := false, bRef := true, bmode := 1, pos := { bUp := 1, endp := 2 } } []
    s.runsRefs 11 = true ∧ (s.pwm.at 11).hasEdge 11 .bUp = true ∧ (s.pwm.at 11).indep = true
    ∧ (s.pwm.at 11).bRef ≠ edgeRises (s.pwm.at 11).mode 11 .bUp := by decide
theorem wit_pwm_peak : let s := pair { run := true, mode := 1 } []
    (s.pwm.at 11).run = true ∧ (s.pwm.at 11).mode = 1 ∧ s.flag (R.PWM_CTRL_SHPEAK 11) = false := by decide
theorem wit_pwm_peak_shadow : let s := pair { run := true, mode := 1 } [(R.PWM_CTRL_SHPEAK 11, 1)]
    (s.pwm.at 11).run = true ∧ (s.pwm.at 11).mode = 1 ∧ s.flag (R.PWM_CTRL_SHPEAK 11) = true
    ∧ s.flag (R.PWM_CTRL_UPDMODE 11) = false ∧ s.flag (R.PWM_CTRL_SHHOLD 11) = false := by decide
theorem wit_pwm_trigger : let s := pair { run := true, trg1 := 7 } []
    let w := s.pwm.at 11
    (s.pwm.at (s.leader 11)).run = true ∧ s.bleedHeld 11 = false ∧ false ∈ s.trgDirs 11 1 ∧ w.mode ≠ 1
    ∧ 32 * w.trg 1 false < s.perNow (s.leader 11) + w.res := by decide
theorem wit_pwm_trigger_down : let s := pair { run := true, mode := 1, trgd1 := 8 } [(R.PWM_TRGCFG_TRG1DIR 11, 2)]
    let w := s.pwm.at 11
    (s.pwm.at (s.leader 11)).run = true ∧ s.bleedHeld 11 = false ∧ true ∈ s.trgDirs 11 1 ∧ w.mode = 1
    ∧ w.trg 1 true ≤ s.perNow (s.leader 11) / 32 := by decide
theorem wit_pwm_ct : let s := pair { run := true, idle := false, mode := 4, aRef := true, ctcmp := 15 } [(R.CMP_STAT_OUT 15, 1)]
    let w := s.pwm.at 11
    s.runsRefs 11 = true ∧ w.mode = 4 ∧ w.aRef = true ∧ w.ctDone = false ∧ s.flag (R.CMP_STAT_OUT w.ctcmp) = true := by
  decide
theorem wit_pwm_dead : let s := pair { aWait := true, bWait := true } []
    (s.pwm.at 11).aWait = true ∧ (s.pwm.at 11).bWait = true := by decide
theorem wit_adt : let s := pair { run := true } [(R.PWM_ADT_EN 11, 1)]
    s.adtRuns 11 = true ∧ 32 * 4 ≤ s.get (R.PWM_ADTMAX 11) + 128 ∧ (s.pwm.at 11).tf = none ∧ (s.pwm.at 11).tr = none := by
  decide
theorem wit_pwm_shadow : let s := pair { run := true } []
    s.on 6 = true ∧ s.flag (R.PWM_CTRL_UPDMODE 11) = false ∧ (s.pwm.at 11).run = true := by decide
theorem wit_pwm_guarded : let s := pair { run := true } [(R.PWM_CTRL_UPDMODE 11, 1)]
    s.on 6 = true ∧ s.flag (R.PWM_CTRL_UPDMODE 11) = true ∧ (s.pwm.at 11).run = true := by decide
theorem wit_pwm_phase : let s := pair {} []
    s.on 6 = true ∧ (s.pwm.at 11).run = false := by decide
theorem wit_pwm_load : ((pair { loads := [{ fld := .per, val := 256 }] } []).pwm.at 11).loads
    = { fld := .per, val := 256 } :: [] := by decide
theorem wit_pwm_enable : let s := st []
    let v : Word := 0x80000000
    s.on 6 = true ∧ v.toNat.testBit 31 = true ∧ v.toNat.testBit 15 = false ∧ (s.pwm.at 11).run = false
    ∧ ((s.reply q.req .ok 0).writeReg q (0x8000 + 0x400 * 11) v.toNat).govOwns 11 = false := by decide
theorem wit_pwm_enable_runs : let s := pair { run := true } []
    let v : Word := 0x80000000
    s.on 6 = true ∧ v.toNat.testBit 31 = true ∧ v.toNat.testBit 15 = false ∧ (s.pwm.at 11).run = true
    ∧ ((s.reply q.req .ok 0).writeReg q (0x8000 + 0x400 * 11) v.toNat).govOwns 11 = false := by decide
theorem wit_pwm_arm : let v : Word := 0x80008000
    v.toNat.testBit 31 = true ∧ v.toNat.testBit 15 = true ∧ (0 : Word).toNat.testBit 31 = false
    ∧ (((st []).reply q.req .ok 0).writeReg q (0x8000 + 0x400 * 11) v.toNat).govOwns 11 = false := by decide
theorem wit_trip_input : (st []).on 6 = true ∧ false = (st []).bit R.TRP_TZCFG_POL 13 ∧ 2000 ≤ 2000 ∧ 999 < 1000 := by decide
theorem wit_trip_cause : let s : State := { st [(R.TRP_MAP_SW 11, 1)] with trip := { sw := 2 ^ 11 } }
    s.tripCause 11 = some 30 ∧ 30 < 64 ∧ s.flag (R.TRP_STAT_TRIPPED 11) = false := by decide
theorem wit_trip_clear : let s := st [(R.TRP_STAT_TRIPPED 11, 1)]
    s.on 6 = true ∧ s.flag (R.TRP_STAT_TRIPPED 11) = true := by decide

/-! ### The governor, timers and the timebase -/

theorem wit_gov_sample : let s : State := { st [] with gov := { started := true } }
    s.gov.started = true ∧ s.on 6 = true ∧ s.time.tb.toNat % 125 = 0 ∧ s.gov.vMark = none ∧ s.gov.qMark = none
    ∧ s.flag R.EGV_CMCFG_EN = false := by decide
theorem wit_gov_sample_charge : let s : State := { st [(R.EGV_CMCFG_EN, 1)] with gov := { started := true } }
    s.gov.vMark = none ∧ s.gov.qMark = none ∧ s.flag R.EGV_CMCFG_EN = true ∧ s.gov.cmPhase ≠ 3 := by decide
theorem wit_gov_ceiling : let s : State := { st [(R.EGV_CFG_EN, 1)] with
      gov := { started := true, above := true, ceilInh := true } }
    s.gov.started = true ∧ s.govActive = true ∧ s.gov.above = true ∧ s.gov.ceilInh = true ∧ s.gov.condCeil = false := by
  decide
theorem wit_gov_ceiling_pair : let s := st [(R.EGV_CHGMAP, 0x800)]
    11 < 12 ∧ 11 ≠ s.get R.EGV_CFG_BLDPAIR ∧ s.bit R.EGV_CHGMAP 11 = true := by decide
theorem wit_gov_bleed : (st [(R.EGV_CFG_BLDPAIR, 11)]).get R.EGV_CFG_BLDPAIR < 12 := by decide
theorem wit_gov_cap : let s : State := { st [(R.EGV_CMCFG_EN, 1)] with gov := { started := true, cmPhase := 2 } }
    s.gov.started = true ∧ s.flag R.EGV_CMCFG_EN = true ∧ s.gov.cmPhase ≠ 3 := by decide
theorem wit_gov_compute : let s : State := { st [(R.EGV_FVSCALE, 1), (R.EGV_FCAP, 1), (R.EGV_FREL_VAIN, 24)] with
      gov := { started := true, vMark := some 1, vGot := some (5, 0) } }
    s.gov.started = true ∧ s.on 6 = true ∧ s.gov.vMark.isSome = true ∧ s.gov.vGot.isSome = true ∧ s.govValid = true := by decide
theorem wit_gov_compute_dropped : let s : State := { st [] with gov := { started := true, vMark := some 0 } }
    s.gov.vMark.isSome = true ∧ s.gov.vMark = some 0 ∧ s.govValid = false := by decide
theorem wit_gov_measfail : let s : State := { st [(R.EGV_CFG_EN, 1)] with gov := { started := true, vMark := some 0, invalid := 8 } }
    s.govValid = false ∧ s.gov.invalid = 8 ∧ s.govActive = true := by decide
theorem wit_gov_ceil_inhibit : (st []).gov.ceilInh = false ∧ 12 ≤ (st [(R.EGV_CFG_BLDPAIR, 15)]).get R.EGV_CFG_BLDPAIR
    ∧ 0 < (st [(R.EGV_CFG_BLDLY, 1)]).get R.EGV_CFG_BLDLY := by decide
theorem wit_gov_release : let s := st [(R.EGV_RLIM, 1), (R.EGV_REL, 2)]
    s.govRlim = some 1 ∧ s.gov.condRel = false ∧ 1 < s.get R.EGV_REL := by decide
theorem wit_gov_release_end : let s : State := { st [(R.EGV_RLIM, 1), (R.EGV_REL, 1)] with gov := { condRel := true } }
    s.govRlim = some 1 ∧ s.gov.condRel = true ∧ s.get R.EGV_REL ≤ 1 := by decide
theorem wit_gov_release_held : let s : State := { st [(R.EGV_RLIM, 1), (R.EGV_REL, 2)] with gov := { condRel := true } }
    s.govRlim = some 1 ∧ s.gov.condRel = true ∧ 1 < s.get R.EGV_REL := by decide
theorem wit_gov_floor : let s : State := { st [(R.EGV_EFLOOR, 1)] with gov := { everValid := true } }
    s.govOverlap = false ∧ s.flag R.EGV_STAT_MEASFAIL = false ∧ s.gov.everValid = true ∧ s.gov.condFloor = false
    ∧ s.gov.eLo < s.govFloor := by decide
theorem wit_gov_margin : let s : State := { st [(R.EGV_LVLFLM, 1)] with gov := { everValid := true, eLo := 1 } }
    s.govOverlap = false ∧ s.flag R.EGV_STAT_MEASFAIL = false ∧ s.gov.everValid = true
    ∧ s.flag R.EGV_STAT_FLOOROVR = false ∧ s.gov.eLo ≤ s.govFloor + s.get R.EGV_LVLFLM := by decide
theorem wit_gov_margin_end : let s : State := { st [(R.EGV_LVLFLM, 1), (R.EGV_STAT_FLOOROVR, 1)] with
      gov := { everValid := true, eLo := 2 } }
    s.govOverlap = false ∧ s.flag R.EGV_STAT_MEASFAIL = false ∧ s.gov.everValid = true
    ∧ s.flag R.EGV_STAT_FLOOROVR = true ∧ s.govFloor + 2 * s.get R.EGV_LVLFLM ≤ s.gov.eLo := by decide
theorem wit_gov_overlap : (st [(R.EGV_ECEIL, 1), (R.EGV_EFLOOR, 1)]).govOverlap = true := by decide

/-- A part with timer 15 running. -/
def tim (rs : List (Fld × Nat)) : State := { st rs with tmr := .replicate 16 { run := true, top := 9, cmpa := 9, cmpb := 0 } }
theorem wit_tmr_compare_a : let s := tim []
    (s.tmr.at 15).run = true ∧ s.tmrFrozen 15 = false ∧ (s.tmr.at 15).cmpa ≤ (s.tmr.at 15).top := by decide
theorem wit_tmr_compare_b : let s := tim []
    (s.tmr.at 15).run = true ∧ s.tmrFrozen 15 = false ∧ (s.tmr.at 15).cmpb ≤ (s.tmr.at 15).top := by decide
theorem wit_tmr_once : let s := tim [(R.TMR_CTRL_MODE 15, 1)]
    (s.tmr.at 15).run = true ∧ s.tmrFrozen 15 = false ∧ s.get (R.TMR_CTRL_MODE 15) = 1 := by decide
theorem wit_tmr_periodic : let s := tim []
    (s.tmr.at 15).run = true ∧ s.tmrFrozen 15 = false ∧ s.get (R.TMR_CTRL_MODE 15) ≠ 1 := by decide
theorem wit_tmr_capture : let s := st [(R.TMR_CTRL_CAPEDGE 15, 3), (R.TMR_CTRL_CAPCLR 15, 1), (R.GPIO_MUX_FUNC 15, 1), (R.TMR_STAT_CAPNEW 15, 1)]
    s.on 6 = true ∧ s.capSelects 15 false = true ∧ s.get (R.GPIO_MUX_FUNC 15) = 1 ∧ s.flag (R.TMR_STAT_CAPNEW 15) = true
    ∧ s.flag (R.TMR_CTRL_CAPCLR 15) = true ∧ s.flag (R.TMR_STAT_GSWAIT 15) = false ∧ s.tmrFrozen 15 = false := by decide
/-- An edge that is one sample short of the filter captures nothing (R126). -/
theorem wit_tmr_capture_short : (1 : Nat) ≠ (st [(R.TMR_CTRL_FILT 15, 1)]).get (R.TMR_CTRL_FILT 15) + 1 := by decide
theorem wit_tmr_capture_new : let s := st [(R.TMR_CTRL_CAPEDGE 15, 1), (R.GPIO_MUX_FUNC 15, 1)]
    s.on 6 = true ∧ s.capSelects 15 true = true ∧ s.get (R.GPIO_MUX_FUNC 15) = 1
    ∧ s.flag (R.TMR_STAT_CAPNEW 15) = false := by decide
theorem wit_tmr_count_running : (tim []).on 6 = true ∧ ((tim []).tmr.at 15).run = true := by decide
theorem wit_tmr_count_stopped : ((st []).tmr.at 15).run = false ∧ (st []).flag (R.TMR_STAT_GSWAIT 15) = false
    ∧ (st [(R.TMR_STAT_GSWAIT 15, 1)]).flag (R.TMR_STAT_GSWAIT 15) = true := by decide
theorem wit_tmr_pin : (st []).on 6 = true ∧ (∀ x, ((st []).tmr.at 15).edge = some x → x.1 ≤ 3)
    ∧ (presented 1 (R.TMR_PIN_FORCE 15) = 1 ∨ presented (1 * 2 ^ (R.TMR_PIN_FORCE 15).lo) (R.TMR_PIN_FORCE 15) = 1)
    ∧ presented (2 * 2 ^ (R.TMR_PIN_FORCE 15).lo) (R.TMR_PIN_FORCE 15) = 2
    ∧ presented (3 * 2 ^ (R.TMR_PIN_FORCE 15).lo) (R.TMR_PIN_FORCE 15) = 3
    ∧ presented (4 * 2 ^ (R.TMR_PIN_FORCE 15).lo) (R.TMR_PIN_FORCE 15) = 4 :=
  ⟨by decide, fun x h => by simp [show ((st []).tmr.at 15).edge = none by decide] at h, by decide⟩
theorem wit_tmr_pin_edge : let s : State := { st [] with tmr := .replicate 16 { edge := some (3, true) } }
    (s.tmr.at 15).edge = some (3, true) ∧ 3 ≤ 3 := by decide
theorem wit_tmr_frozen : ((tim []).tmr.at 15).run = true ∧ (tim [(R.TMR_CTRL_PSC 15, 1)]).get (R.TMR_CTRL_PSC 15) ≠ 0
    ∧ ((tim [(R.TMR_CTRL_PSC 15, 1)]).tmr.at 15).psc < (tim [(R.TMR_CTRL_PSC 15, 1)]).get (R.TMR_CTRL_PSC 15) := by decide
theorem wit_tmr_enable : let s := st []
    s.on 6 = true ∧ s.flag (R.TMR_CTRL_EN 15) = false ∧ presented 0x80000100 (R.TMR_CTRL_EN 15) = 1
    ∧ presented 0x80000100 (R.TMR_CTRL_GSARM 15) = 0 ∧ (s.tmr.at 15).run = false
    ∧ presented 0x80000100 (R.TMR_CTRL_DIR 15) = 1 := by decide
theorem wit_tmr_arm : let s := st []
    s.on 6 = true ∧ s.flag (R.TMR_CTRL_EN 15) = false ∧ presented 0xC0000000 (R.TMR_CTRL_EN 15) = 1
    ∧ presented 0xC0000000 (R.TMR_CTRL_GSARM 15) = 1 := by decide
theorem wit_tmr_disable : (tim []).on 6 = true ∧ presented 0x7FFFFFFF (R.TMR_CTRL_EN 15) = 0 := by decide
theorem wit_group_latch : (st [(R.PLY_STATUS_RETIRED, 3)]).plyMode = 0 ∧ (st [(R.PLY_STATUS_RETIRED, 3)]).get R.PLY_STATUS_RETIRED ≠ 1
    ∧ (st [(R.PLY_STATUS_RETIRED, 3)]).get R.PLY_STATUS_RETIRED ≠ 2 ∧ (st [(R.PLY_MODE_CUR, 2)]).plyMode = 2 := by decide
theorem wit_wide : (st []).on (wideDomain (.captb 15)) = true ∧ (st []).on (wideDomain .rtc) = true
    ∧ (Req.strandA, Wide.tb) ≠ (.strandA, .rtc) ∧ Req.strandA ≠ .strandB := by decide
theorem wit_step : let s : State := { st [(R.TMR_GSTART_PEND, 1), (R.TMR_GSPICK_LO, 7), (R.HED_TICK, 1)] with
      warp := { stepPick := some 7, armed := [0, 9] }, gov := { started := true } }
    s.stepsAt 7 = true ∧ s.gov.started = true ∧ s.on 6 = true ∧ s.flag R.TMR_GSTART_PEND = true
    ∧ s.time.tb.toNat < s.gsPick ∧ s.gsPick ≤ (7 : BitVec 64).toNat := by decide
theorem wit_step_ungoverned : let s : State := { st [] with warp := { stepPick := some 7 } }
    s.stepsAt 7 = true ∧ (s.gov.started = false ∨ s.on 6 = false) := by decide
theorem wit_stagger_write : (st []).on 6 = true ∧ (0x80000003 : Word).toNat.testBit 31 = true := by decide
theorem wit_stagger_bad : (st []).stgBad 3 = true := by decide
theorem wit_stagger : let s := st [(R.STG_CFG_MEMB 3, 0x8001)]
    s.stgBad 3 = false ∧ s.flag (R.STG_CFG_TYPE 3) = false ∧ 1 < (s.stgMembers 3).length := by decide
theorem wit_stagger_overlap : let s := st [(R.STG_CFG_MEMB 3, 0x8000), (R.STG_CFG_MEMB 0, 0x8000), (R.STG_STAT_LOADED 0, 1)]
    15 < 16 ∧ (3 : Fin 4) ≠ 0 ∧ s.bit (R.STG_CFG_MEMB 3) 15 = true ∧ s.bit (R.STG_CFG_MEMB 0) 15 = true
    ∧ s.flag (R.STG_STAT_LOADED 0) = true ∧ s.get (R.STG_CFG_TYPE 0) = s.get (R.STG_CFG_TYPE 3) := by decide
theorem wit_gs_arm : let s := st [(R.TMR_GSPICK_LO, 1)]
    s.on 6 = true ∧ s.time.tb.toNat < s.gsPick := by decide
theorem wit_gs_late : (st []).on 6 = true ∧ (st []).gsPick ≤ (st []).time.tb.toNat := by decide
theorem wit_gs_due : let s := st [(R.TMR_GSTART_PEND, 1)]
    s.on 6 = true ∧ s.gsDue = true ∧ s.time.tb.toNat = s.gsPick := by decide
theorem wit_gs_member : let s := st [(R.TMR_CTRL_EN 15, 1), (R.TMR_CTRL_GSARM 15, 1), (R.TMR_CTRL_EN 0, 1)]
    s.flag (R.TMR_CTRL_EN 15) = true ∧ s.flag (R.TMR_CTRL_GSARM 15) = true
    ∧ s.flag (R.TMR_CTRL_EN 0) = true ∧ s.flag (R.TMR_CTRL_GSARM 0) = false := by decide

/-! ### The Warp bus -/

/-- A member with ID 255, not in bypass. -/
def mb (rs : List (Fld × Nat)) (w : Warp) : State :=
  { st ([(R.WRP_CFG_EN, 1), (R.WRP_ID_VALID, 1), (R.WRP_ID_ID, 255)] ++ rs) with warp := w }
/-- Node 0, not in bypass. -/
def n0 (w : Warp) : State := { st [(R.WRP_CFG_EN, 1), (R.WRP_CFG_ROLE, 1)] with warp := w }
theorem wit_member : (mb [] {}).Member := ⟨by decide, by decide, by decide, by decide⟩
theorem wit_node0 : (n0 {}).Node0 ∧ (n0 {}).time.tb.toNat % 1024 = 0 := ⟨⟨by decide, by decide, by decide, by decide⟩, by decide⟩
theorem wit_time_step_due : let s := n0 { stepPick := some 1 }
    s.Node0 ∧ s.warp.stepPick = some 1 ∧ s.time.tb.toNat < 1 :=
  ⟨⟨by decide, by decide, by decide, by decide⟩, by decide, by decide⟩
theorem wit_time_error : let s := mb [] { synced := true }
    s.Member ∧ s.inRing = true ∧ s.warp.synced = true ∧ s.flag R.WRP_STAT_TIME_LOST = false ∧ s.time.tb ≠ 1024 + BitVec.ofNat 64 0 :=
  ⟨⟨by decide, by decide, by decide, by decide⟩, by decide, by decide, by decide, by decide⟩
theorem wit_time_right : let s := mb [] { synced := true }
    s.Member ∧ s.inRing = true ∧ s.warp.stepped = false ∧ s.time.tb = 0 + BitVec.ofNat 64 0 :=
  ⟨⟨by decide, by decide, by decide, by decide⟩, by decide, by decide, by decide⟩
theorem wit_ring_outside : let s := mb [(R.WRP_STAT_NOID, 1)] {}
    s.Member ∧ s.inRing = false := ⟨⟨by decide, by decide, by decide, by decide⟩, by decide⟩
theorem wit_time_locked : (aft (.warpTimeFrame 0 0 0) (mb [] { synced := true })).flag R.WRP_STAT_TIMELOCK = true := by decide
theorem wit_time_unlocked : (aft (.warpTimeFrame 0 0 0) (mb [] {})).flag R.WRP_STAT_TIMELOCK = false := by decide
theorem wit_time_event : let s := mb [] { events := [0] }
    s.on 9 = true ∧ s.on 6 = true ∧ s.time.tb.toNat ∈ s.warp.events := by decide
theorem wit_time_lost : let s := mb [] {}
    s.flag R.WRP_STAT_TIME_LOST = false ∧ s.warp.synced = false := by decide
theorem wit_gstart : let s := mb [(R.WRP_GSMASK, 0x8000)] { armed := [7, 8, 9] }
    s.inBypass = false ∧ s.inRing = true ∧ s.bit R.WRP_GSMASK 15 = true ∧ s.time.tb.toNat < (5 : BitVec 64).toNat
    ∧ (5 : BitVec 64).toNat ∉ s.warp.armed ∧ s.warp.armed.length < 4 := by decide
theorem wit_gstart_full : let s := mb [(R.WRP_GSMASK, 0x8000)] { armed := [6, 7, 8, 9] }
    s.inBypass = false ∧ s.inRing = true ∧ s.bit R.WRP_GSMASK 15 = true ∧ s.time.tb.toNat < (5 : BitVec 64).toNat
    ∧ (5 : BitVec 64).toNat ∉ s.warp.armed ∧ 4 ≤ s.warp.armed.length := by decide
theorem wit_warp_release : let s := mb [] { armed := [0] }
    s.on 9 = true ∧ s.on 6 = true ∧ s.time.tb.toNat ∈ s.warp.armed := by decide

theorem wit_msg_bypass : let s := mb [(R.WRP_CFG_EN, 0)] {}
    s.Member ∧ s.warpId = some (255 : BitVec 8).toNat ∧ s.inBypass = true :=
  ⟨⟨by decide, by decide, by decide, by decide⟩, by decide, by decide⟩
theorem wit_msg_asleep : let s : State := mb [(R.PWR_STATE_PSTATE, 3)] {}
    s.Member ∧ s.warpId = some (255 : BitVec 8).toNat ∧ s.inBypass = false ∧ s.asleep = true :=
  ⟨⟨by decide, by decide, by decide, by decide⟩, by decide⟩
theorem wit_msg_activating : let s : State := { mb [] {} with crerus := { activating := true } }
    s.Member ∧ s.warpId = some (255 : BitVec 8).toNat ∧ s.inBypass = false ∧ s.asleep = false ∧ s.crerus.activating = true :=
  ⟨⟨by decide, by decide, by decide, by decide⟩, by decide⟩
theorem wit_msg_busy : let s := mb [] { bufs := [{ src := 1 }, { src := 2 }, { src := 3 }, { src := 4 }] }
    (s.warpId = some (255 : BitVec 8).toNat ∧ s.inBypass = false ∧ s.asleep = false ∧ s.crerus.activating = false)
    ∧ 4 ≤ (s.warp.bufs.filter fun x => decide (x.src ≠ (5 : BitVec 8).toNat)).length := by decide
theorem wit_msg_open : let s := mb [] { bufs := [{ src := 1 }, { src := 2 }, { src := 3 }, { src := 4 }] }
    (s.warpId = some (255 : BitVec 8).toNat ∧ s.inBypass = false ∧ s.asleep = false ∧ s.crerus.activating = false)
    ∧ (s.warp.bufs.filter fun x => decide (x.src ≠ (4 : BitVec 8).toNat)).length < 4 := by decide
theorem wit_msg_last : let r : Reasm := { src := 4, bytes := List.replicate 12 0 ++ [0x6F, 0xC6, 0xD5, 0x7B] }
    r.bad = false ∧ goodMsg r.bytes = true ∧ (fieldOf (r.bytes.take (msgLen r.bytes)) 5 1).testBit 0 = false := by decide
/-- An open transfer. -/
def sd : Send := { xid := 200, dst := 7 }
theorem wit_msg_send : let s := mb [] { sends := [sd] }
    s.warpId = some (255 : BitVec 8).toNat ∧ s.sendOf (7 : BitVec 8).toNat (200 : BitVec 8).toNat = some sd
    ∧ s.sendXid (200 : BitVec 8).toNat = some sd ∧ sd.reply = false ∧ sd.acked = false ∧ sd.busy = false := by decide
theorem wit_msg_resend : let d := { sd with busy := true }
    (mb [] { sends := [d] }).sendXid (200 : BitVec 8).toNat = some d ∧ d.reply = false ∧ d.busy = true := by decide

theorem wit_enum_id : let s := mb [] {}
    (255 : BitVec 9).toNat < 256 ∧ 256 ≤ (256 : BitVec 9).toNat ∧ s.flag R.WRP_ID_VALID = true
    ∧ s.get R.WRP_ID_ID ≠ (0 : BitVec 9).toNat := by decide
theorem wit_enum_own : let s := n0 { enumTag := some 9 }
    s.Node0 ∧ s.warp.enumTag = some 9 ∧ (0 : BitVec 48).toNat = s.devLow :=
  ⟨⟨by decide, by decide, by decide, by decide⟩, by decide, by decide⟩
theorem wit_enum_foreign : let s := n0 { enumTag := some 9 }
    s.Node0 ∧ ¬ (s.warp.enumTag = some 9 ∧ (1 : BitVec 48).toNat = s.devLow)
    ∧ s.devLow * 128 + 9 ≤ (1 : BitVec 48).toNat * 128 + (9 : BitVec 7).toNat
    ∧ (0 : BitVec 48).toNat * 128 + (8 : BitVec 7).toNat < s.devLow * 128 + 9 :=
  ⟨⟨by decide, by decide, by decide, by decide⟩, by decide⟩
theorem wit_cal_result : (mb [] {}).flag R.WRP_ID_VALID = true := by decide
theorem wit_cal_timer : let s := n0 {}
    s.on 9 = true ∧ s.isMaster = true ∧ s.inBypass = false ∧ s.warp.cal = none := by decide
theorem wit_bypass_reset : let s := mb [(R.WRP_CFG_RRSTEN, 1)] {}
    s.warpId = some (255 : BitVec 8).toNat ∧ s.flag R.WRP_CFG_RRSTEN = true := by decide
theorem wit_empty_first : let s := mb [] { own := [.time false 0, .bypass 0 255] }
    s.warp.own.find? isFirstFrame = some (.bypass 0 255) := by decide
theorem wit_empty_wait : let s := mb [] { own := [.time false 0], passed := 2 }
    (∀ f ∈ s.warp.own, isFirstFrame f = false) ∧ s.warp.passed < 3 := by decide
theorem wit_empty_insert : let s := mb [] { own := [.time false 0], passed := 3 }
    (∀ f ∈ s.warp.own, isFirstFrame f = false) ∧ s.warp.own = .time false 0 :: [] ∧ 3 ≤ s.warp.passed := by decide
theorem wit_crc_few : (0 :: ((mb [] { crc := .replicate 15 0 }).warp.crc.filter fun x =>
    decide (x ≤ 0) && decide (0 < x + 125000))).length ≤ 16 := by decide
theorem wit_crc_many : 16 < (0 :: ((mb [] { crc := .replicate 16 0 }).warp.crc.filter fun x =>
    decide (x ≤ 0) && decide (0 < x + 125000))).length ∧ (mb [] {}).on 6 = true := by decide
theorem wit_link_down : (mb [] {}).on 9 = true ∧ (mb [] {}).flag R.WRP_STAT_LINKDOWN = false := by decide
theorem wit_link_up : let s := mb [(R.WRP_STAT_LINKDOWN, 1)] {}
    s.on 9 = true ∧ s.flag R.WRP_STAT_LINKDOWN = true := by decide
theorem wit_ring_open : (n0 {}).isMaster = true ∧ (n0 {}).flag R.WRP_STAT_RINGOPEN = false := by decide
theorem wit_slot_write : (st []).on 9 = true ∧ (0x80000000 : Word).toNat.testBit 31 = true := by decide
theorem wit_slot_bad : (st []).get R.WRP_SLOT_N ≤ (st []).get R.WRP_SLOT_K := by decide
theorem wit_slot_load : let s := st [(R.WRP_SLOT_K, 255), (R.WRP_SLOT_N, 256), (R.WRP_SLOTPAIRS, 2 ^ 11)]
    s.get R.WRP_SLOT_K < s.get R.WRP_SLOT_N ∧ s.on 6 = true ∧ s.get R.WRP_SLOTPAIRS = 2 ^ 11 ∧ s.shedPair 11 = false
    ∧ s.get (R.PWM_CTRL_MODE 11) ≠ 2 := by decide

/-! ### The Ply, interrupts, DMA and the sealed world -/

theorem wit_ply_odd : let s := st [(R.PLY_STATUS_RETIRED, 3)]
    (s.plyRuns = true ∧ s.plyMode = 0 ∧ s.get R.PLY_STATUS_RETIRED = 3 ∧ s.flag R.PLY_STATUS_RESYNC = false
      ∧ (64 : BitVec 7) ≠ 0 ∧ (1 : BitVec 7) ≠ 0)
    ∧ (s.ply.odd.filter fun o => decide (s.time.tb.toNat ≤ o.2 + 1250000)).countP (fun o => decide (o.1 = (2 : Fin 3).val)) < 3 := by
  decide
theorem wit_ply_retire : let s : State := { st [(R.PLY_STATUS_RETIRED, 3)] with ply := { odd := [(2, 0), (2, 0), (2, 0)] } }
    (s.plyRuns = true ∧ s.plyMode = 0 ∧ s.get R.PLY_STATUS_RETIRED = 3 ∧ s.flag R.PLY_STATUS_RESYNC = false
      ∧ (64 : BitVec 7) ≠ 0)
    ∧ 3 ≤ (s.ply.odd.filter fun o => decide (s.time.tb.toNat ≤ o.2 + 1250000)).countP (fun o => decide (o.1 = (2 : Fin 3).val)) := by
  decide
theorem wit_ply_pair : let s := st [(R.PLY_MODE_CUR, 1)]
    s.plyRuns = true ∧ s.plyMode = 1 ∧ (1 : BitVec 7) ≠ 0 := by decide
theorem wit_ply_two : let s := st [(R.PLY_STATUS_RETIRED, 2)]
    s.plyRuns = true ∧ s.plyMode = 0 ∧ s.get R.PLY_STATUS_RETIRED ≠ 3 ∧ pairBut (s.get R.PLY_STATUS_RETIRED) 1 0 0 ≠ 0 := by decide
theorem wit_ply_resyncing : let s := st [(R.PLY_STATUS_RETIRED, 3), (R.PLY_STATUS_RESYNC, 1), (R.PLY_STATUS_ODD, 0)]
    s.plyRuns = true ∧ s.plyMode = 0 ∧ s.get R.PLY_STATUS_RETIRED = 3 ∧ s.flag R.PLY_STATUS_RESYNC = true
    ∧ pairBut (s.get R.PLY_STATUS_ODD) 0 0 64 ≠ 0 := by decide
theorem wit_ply_all_apart : let s := st [(R.PLY_STATUS_RETIRED, 3)]
    s.plyRuns = true ∧ s.plyMode = 0 ∧ s.get R.PLY_STATUS_RETIRED = 3 ∧ s.flag R.PLY_STATUS_RESYNC = false := by decide
theorem wit_ply_fault : let s := st []
    s.ply.fault = false ∧ s.flag R.PLY_CFG_UNREC = false ∧ s.pwr.entry = none ∧ (5 : Fin 6) ≠ 0 := by decide
theorem wit_ply_copy : let s := st [(R.PLY_STATUS_RESYNC, 1)]
    s.flag R.PLY_STATUS_RESYNC = true ∧ s.ply.copied = false ∧ s.plyRuns = true := by decide
theorem wit_ply_resynced : let s : State := { st [(R.PLY_STATUS_RESYNC, 1)] with ply := { copied := true } }
    s.flag R.PLY_STATUS_RESYNC = true ∧ s.ply.copied = true ∧ s.plyRuns = true := by decide
theorem wit_ply_split : let s : State := { st [(R.PLY_STATUS_SPLITTING, 1)] with ply := { target := 2 } }
    s.flag R.PLY_STATUS_SPLITTING = true ∧ s.plyRuns = true
    ∧ 2 ∈ handStrands (s.get R.PLY_MODE_CUR) s.ply.target := by decide
theorem wit_ply_join_copy : let s : State := { st [(R.PLY_STATUS_JOINING, 1), (R.PLY_MODE_CUR, 2)] with
      ply := { target := 1 } }
    s.Kept ∧ s.flag R.PLY_STATUS_JOINING = true ∧ s.ply.joinTcm = false ∧ s.plyRuns = true
    ∧ 1 ∈ handStrands (s.get R.PLY_MODE_CUR) s.ply.target :=
  ⟨⟨by decide, fits (by decide), fun _ h => nomatch h⟩, by decide, by decide, by decide, by decide⟩
theorem wit_ply_joined : let s : State := { st [(R.PLY_STATUS_JOINING, 1), (R.PLY_MODE_CUR, 2)] with
      ply := { joinTcm := true } }
    s.flag R.PLY_STATUS_JOINING = true ∧ s.ply.joinTcm = true ∧ s.plyRuns = true
    ∧ 1 ∈ handStrands (s.get R.PLY_MODE_CUR) s.ply.target := by decide
theorem wit_ply_scrub : let s : State := { st [(R.PLY_STATUS_RETIRED, 3)] with ply := { scrub := 8191 } }
    s.Kept ∧ s.plyRuns = true ∧ s.plyMode = 0 ∧ s.get R.PLY_STATUS_RETIRED = 3 ∧ s.ply.scrub < 8192
    ∧ s.tcmBad dtcmKey 0 (16 * s.ply.scrub) = false ∧ s.tcmBad itcmKey 0 (16 * s.ply.scrub) = false :=
  ⟨⟨by decide, fits (by decide), fun _ h => nomatch h⟩, by decide, by decide, by decide, by decide, by decide, by decide⟩
theorem wit_wd_kick : (st []).on 0 = true ∧ kickCore q.req = some 0 ∧ (0xC35A : Word) ≠ 0xC35B := by decide
theorem wit_wd : let s : State := { run 2 {} [(R.PLY_MODE_CUR, 2), (R.PLY_WDT_EN 2, 1)] with ply := { wdHalf := [2] } }
    s.wdCounts 2 = true ∧ (2 : Fin 3).val ∈ s.ply.wdHalf := by decide

theorem wit_cache_fill : let s := st [(R.PLY_MODE_CUR, 1)]
    s.coreExists 2 = true ∧ s.coreOn 2 = true ∧ s.on 2 = true ∧ inMain (0x10020000 : Word).toNat = true
    ∧ s.flash.op0 = none ∧ s.eccBad ((0x10020000 : Word).toNat / 32 * 32) 32 = false ∧ s.flash.corr = [] := by decide
theorem wit_cache_bad : let s : State := { st [] with flash := { unc := [0x10020000] } }
    (0x1002001F : Word).toNat / 32 * 32 ∈ s.flash.unc ∧ s.flash.op0 = none := by decide
theorem wit_retry (y : WaitFor) : let s := run 2 { wait := some {}, why := y } [(R.PLY_MODE_CUR, 2)]
    s.coreExists 2 = true ∧ s.coreOn 2 = true ∧ (s.coreAt 2).run = .issuing ∧ s.ply.fault = false
    ∧ s.bit R.DBG_STAT_HALTED 2 = false ∧ (s.coreAt 2).wait = some {} ∧ (s.coreAt 2).why = y := by cases y <;> decide
theorem wit_interrupt : let s := run 0 { ie := true } [(R.ICU_SRC_EN 223, 1), (R.ICU_SRC_PRI 223, 1), (R.ICU_STS_PEND 223, 1)]
    s.takesInt 0 = true ∧ s.icuCandidate 0 = some 223 ∧ (s.coreAt 0).step = false
    ∧ (s.coreAt 0).ipri.toNat < s.get (R.ICU_SRC_PRI 223) ∧ (s.coreAt 0).moving = false := by decide
theorem wit_raced : let s : State := { run 0 { ie := true } [] with icu := { raced := [(0, 223, 1)] } }
    s.takesInt 0 = true ∧ (s.coreAt 0).step = false ∧ (s.coreAt 0).ipri.toNat < 1
    ∧ s.icu.raced.find? (fun x => decide (x.1 = (0 : Fin 3).val)) = some ((0 : Fin 3).val, 223, 1) := by decide
theorem wit_raced_low : let s : State := { run 0 { ie := true, ipri := 1 } [] with icu := { raced := [(0, 223, 1)] } }
    s.takesInt 0 = true ∧ (s.coreAt 0).step = false ∧ 1 ≤ (s.coreAt 0).ipri.toNat := by decide
theorem wit_wfi : let s := (run 2 {} [(R.PLY_MODE_CUR, 2), (R.ICU_SRC_EN 9, 1), (R.ICU_SRC_TARGET 9, 2), (R.ICU_STS_PEND 9, 1)]).updCore 2 fun k => { k with run := .wfi }
    s.coreExists 2 = true ∧ s.on 6 = true ∧ s.bit R.DBG_STAT_HALTED 2 = false ∧ (s.coreAt 2).run = .wfi ∧ s.icuWakes 2 = true := by decide
theorem wit_icu_event : (223 : Fin 224).val ≠ 190 ∧ (223 : Fin 224).val ≠ 191 ∧ (st []).on 6 = true
    ∧ (st [(R.PWR_DOM 6, 0)]).get (R.PWR_DOM 6) = 0 := by decide
theorem wit_icu_timer : let s : State := { st [] with icu := { timer := [223] } }
    (223 : Fin 224).val ∈ s.icu.timer := by decide
theorem wit_icu_active : let s := st [(R.ICU_STS_ACT 223, 1)]
    s.on 6 = true ∧ s.flag (R.ICU_STS_ACT 223) = true ∧ s.flag (R.ICU_STS_ACT 222) = false
    ∧ s.flag R.ICU_STRAYLAST_VALID = false := by decide
theorem wit_icu_sgi : (0x80000000 : Word).toNat.testBit 31 = true ∧ (0x80000000 : Word).toNat.testBit 0 = false := by decide
theorem wit_icu_route : (st []).plyRoute = 0 ∧ (st [(R.PLY_MODE_CUR, 1)]).plyRoute = 1
    ∧ (st [(R.PLY_MODE_CUR, 2)]).plyRoute = 2 := by decide

/-- A part with DMA channel 15 as given. -/
def chan (d : Dma) (rs : List (Fld × Nat)) : State := (st rs).updDma 15 fun _ => d
theorem wit_dma_enable : let s := st []
    s.on 8 = true ∧ s.flag (R.DMA_CH_CTRL_EN 15) = false ∧ s.flag (R.DMA_CH_STAT_BUSY 15) = false
    ∧ presented 0x80000000 (R.DMA_CH_CTRL_EN 15) = 1 := by decide
theorem wit_dma_busy : let s := chan {} [(R.DMA_CH_CTRL_EN 15, 1), (R.DMA_CH_STAT_BUSY 15, 1)]
    s.on 8 = true ∧ s.flag (R.DMA_CH_CTRL_EN 15) = true ∧ presented 0x80000000 (R.DMA_CH_CTRL_EN 15) = 1
    ∧ (0x80000000 : Word).toNat.testBit 0 = false ∧ s.flag (R.DMA_CH_STAT_BUSY 15) = true := by decide
theorem wit_dma_idle : let s := chan {} [(R.DMA_CH_CTRL_EN 15, 1)]
    s.on 8 = true ∧ s.flag (R.DMA_CH_CTRL_EN 15) = true ∧ s.dmaIdle 15 = true := by decide
theorem wit_dma_disable : let s := chan { moving := true } [(R.DMA_CH_CTRL_EN 15, 1)]
    s.on 8 = true ∧ s.flag (R.DMA_CH_CTRL_EN 15) = true ∧ presented 0x7FFFFFFF (R.DMA_CH_CTRL_EN 15) = 0
    ∧ (s.dma.at 15).moving = true := by decide
theorem wit_dma_trigger : let s := chan { trig := 1 } [(R.DMA_CH_CTRL_EN 15, 1), (R.DMA_CH_STAT_LOADED 15, 1)]
    s.on 8 = true ∧ s.flag (R.DMA_CH_CTRL_EN 15) = true ∧ presented 0x80000001 (R.DMA_CH_CTRL_EN 15) = 1
    ∧ (0x80000001 : Word).toNat.testBit 0 = true ∧ s.flag (R.DMA_CH_STAT_LOADED 15) = true ∧ (s.dma.at 15).trig ≠ 0
    ∧ (s.dma.at 15).stopped = false ∧ (s.dma.at 15).moving = false := by decide
theorem wit_dma_pend : let s := chan { trig := 1, moving := true } [(R.DMA_CH_CTRL_EN 15, 1), (R.DMA_CH_STAT_LOADED 15, 1)]
    s.flag (R.DMA_CH_CTRL_EN 15) = true ∧ s.flag (R.DMA_CH_STAT_LOADED 15) = true ∧ (s.dma.at 15).trig ≠ 0
    ∧ (s.dma.at 15).stopped = false ∧ (s.dma.at 15).moving = true ∧ s.flag (R.DMA_CH_STAT_TRGPEND 15) = false := by decide
theorem wit_dma_overrun : let s := chan { trig := 1, moving := true } [(R.DMA_CH_CTRL_EN 15, 1), (R.DMA_CH_STAT_LOADED 15, 1), (R.DMA_CH_STAT_TRGPEND 15, 1)]
    s.flag (R.DMA_CH_CTRL_EN 15) = true ∧ s.flag (R.DMA_CH_STAT_LOADED 15) = true ∧ (s.dma.at 15).trig ≠ 0
    ∧ (s.dma.at 15).stopped = false ∧ (s.dma.at 15).moving = true ∧ s.flag (R.DMA_CH_STAT_TRGPEND 15) = true := by decide
theorem wit_dma_load : let s := chan { daddr := sramBase, loadPend := true } [(R.DMA_CH_CTRL_EN 15, 1)]
    let a := (s.dma.at 15).daddr
    ((s.dma.at 15).loadPend = true ∧ s.arbitrate = some (15 : Fin 16).val)
    ∧ (sramBase ≤ a ∧ a < sramEnd ∧ a % 32 = 0 ∧ s.sramAns a = .ok)
    ∧ dmaInvalid (wordsOf (s.rdBytes a 32)) (dmaFields a (wordsOf (s.rdBytes a 32))) = false := by decide
theorem wit_dma_invalid : let s := (chan { daddr := sramBase, loadPend := true } [(R.DMA_CH_CTRL_EN 15, 1)]).wrBytes (sramBase + 0x14) [0, 0, 0, 8]
    let a := (s.dma.at 15).daddr
    ((s.dma.at 15).loadPend = true ∧ s.arbitrate = some (15 : Fin 16).val)
    ∧ (sramBase ≤ a ∧ a < sramEnd ∧ a % 32 = 0 ∧ s.sramAns a = .ok)
    ∧ dmaInvalid (wordsOf (s.rdBytes a 32)) (dmaFields a (wordsOf (s.rdBytes a 32))) = true
    ∧ (dmaFields a (wordsOf (s.rdBytes a 32))).wb = false := by decide
theorem wit_dma_beat : let s := chan { moving := true, xcnt := 1, ycnt := 1, src := sramBase, dst := sramBase } [(R.DMA_CH_CTRL_EN 15, 1), (R.DMA_CH_CTRL_PRIO 15, 3), (R.DMA_CH_STAT_LOADED 15, 1)]
    let d := s.dma.at 15
    s.arbitrate = some 15 ∧ s.beatReady (15 : Fin 16) = true ∧ s.get (R.DMA_CH_CTRL_PRIO (15 : Fin 16)) < 4
    ∧ d.loadPend = false ∧ d.fetch = false ∧ s.dmaFull 15 = false ∧ d.buf = [] ∧ d.srcNext % d.size = 0
    ∧ d.dstOf d.rx d.ry % d.size = 0 ∧ (s.busRead .dma false d.srcNext d.size false).1 = .ok := by decide
theorem wit_dma_beat_write : let s := chan { moving := true, xcnt := 1, ycnt := 1, rx := 1, src := sramBase, dst := sramBase, buf := [5] } [(R.DMA_CH_CTRL_EN 15, 1), (R.DMA_CH_STAT_LOADED 15, 1)]
    let d := s.dma.at 15
    s.arbitrate = some 15 ∧ s.dmaFull 15 = false ∧ d.buf = 5 :: [] ∧ s.readReady 15 = false
    ∧ (s.busWrite .dma false (d.dstOf d.wx d.wy) d.size 5).1 = .ok := by decide
theorem wit_dma_complete : let s := chan { moving := true } [(R.DMA_CH_CTRL_EN 15, 1), (R.DMA_CH_STAT_LOADED 15, 1)]
    s.dmaFull 15 = true ∧ s.arbitrate = some (15 : Fin 16).val ∧ (s.dma.at 15).total = 0 ∧ (s.dma.at 15).wb = false := by decide
theorem wit_dma_last : let s := chan { daddr := sramBase, fetch := true } [(R.DMA_CH_CTRL_EN 15, 1)]
    let a := (s.dma.at 15).daddr + 0x18
    (s.dma.at 15).fetch = true ∧ (s.dma.at 15).loadPend = false ∧ s.arbitrate = some (15 : Fin 16).val ∧ s.sramAns a = .ok ∧ s.bytes a 4 = 0 := by
  decide
theorem wit_dma_next : let s := (chan { daddr := sramBase, fetch := true } [(R.DMA_CH_CTRL_EN 15, 1)]).wrBytes (sramBase + 0x18) [32]
    let a := (s.dma.at 15).daddr + 0x18
    (s.dma.at 15).fetch = true ∧ (s.dma.at 15).loadPend = false ∧ s.arbitrate = some (15 : Fin 16).val ∧ s.sramAns a = .ok ∧ s.bytes a 4 ≠ 0 := by
  decide
theorem wit_dma_retry : let s := chan { wait := some true } [(R.DMA_CH_CTRL_EN 15, 1)]
    s.dmaRuns 15 = true ∧ (s.dma.at 15).wait = some true := by decide

/-- The fuse rows with sealed partitions of the size `n` (R286). -/
def sp (n : Word) : Bank Word 256 := Bank.put (st []).shadow 158 n
theorem wit_gate_refused : (run 0 {} []).Ready 0 ∧ ((run 0 {} []).coreAt 0).exl = false ∧ ((run 0 {} []).coreAt 0).world = false
    ∧ (run 0 {} []).gateStatus 0 63 = some 1 := ⟨ready0, by decide, by decide, by decide⟩
theorem wit_gate_restarting : (st [(R.WLD_STAT_RESTARTING, 1)]).flag R.WLD_STAT_RESTARTING = true
    ∧ (st []).flag R.WLD_STAT_RESTARTING = false ∧ (st []).gateStatus 0 0 ≠ none := by decide
theorem wit_gate_entry : let s : State := { run 0 {} [(R.WLD_STAT_LOADED, 1), (R.WLD_NGATE, 1)] with wld := { gates := [1] } }
    s.Ready 0 ∧ (s.coreAt 0).exl = false ∧ (s.coreAt 0).world = false ∧ s.gateStatus 0 (0 : Fin 64) = none :=
  ⟨readyOf rfl (by decide), by decide, by decide, by decide⟩
theorem wit_gate_return : let s : State := { run 0 { world := true, pc := 0x1C000, fetchS := { defAllow := true } } [] with
      wld := { saved := some {} }, shadow := sp 1 }
    s.Ready 0 ∧ (s.coreAt 0).exl = false ∧ (s.coreAt 0).world = true ∧ s.wld.saved = some {} ∧ s.wld.waiting = none :=
  ⟨readyOf rfl (by decide), by decide, by decide, by decide, by decide⟩
theorem wit_gate_unassigned : ((run 0 {} []).coreAt 0).exl = false ∧ gateAssigned (0x1040 : BitVec 16).toNat = false ∧ gateAssigned (0xFFF : BitVec 16).toNat = false := by
  decide
theorem wit_sealed_watchdog : let s : State := { st [(R.WLD_SIMG, 1)] with wld := { saved := some {} }, shadow := sp 3 }
    s.wld.saved.isSome = true ∧ s.bit R.DBG_STAT_HALTED 0 = false ∧ s.plyRuns = true ∧ s.spBytes ≠ 0
    ∧ s.get R.WLD_SIMG ≠ 0 := by decide
theorem wit_sealed_reload : let s : State := { st [(R.WLD_SIMG, 1)] with shadow := sp 1 }
    s.on 3 = true ∧ (1 : Word).toNat.testBit 0 = true ∧ q.sealedW = false ∧ s.spBytes ≠ 0 ∧ s.get R.WLD_SIMG ≠ 0
    ∧ s.wld.saved = none := by decide
theorem wit_sealed_reload_waits : let s : State := { st [(R.WLD_SIMG, 1)] with wld := { saved := some {} }, shadow := sp 1 }
    s.on 3 = true ∧ s.spBytes ≠ 0 ∧ s.get R.WLD_SIMG ≠ 0 ∧ s.wld.saved.isSome = true := by decide
theorem wit_load_complete : let s : State := { st [(R.WLD_STAT_RESTARTING, 1), (R.WLD_SIMG, 0)] with crerus := { alive := true } }
    s.flag R.WLD_STAT_RESTARTING = true ∧ s.crerus.alive = true ∧ s.imageFails s.image = some 1 := by decide

/-! ### Crerus -/

/-- A part whose firmware serves the one request `j`. -/
def srv (j : Job) (rs : List (Fld × Nat)) : State := { st rs with crerus := { alive := true, susp := [j] } }

theorem wit_reply_host : let s := st []
    s.Kept ∧ s.on 10 = true ∧ ({ src := .host 7 } : Job).src = .host (7 : Fin 8) :=
  ⟨⟨by decide, fits (by decide), fun _ h => nomatch h⟩, by decide, by decide⟩
theorem wit_reply_local : let s := st []
    s.Kept ∧ s.on 1 = true ∧ s.on 6 = true ∧ ({ src := .loc 3 } : Job).src = .loc (3 : Fin 4) ∧ (3 : Fin 4).val ∉ s.wld.wipeMb :=
  ⟨⟨by decide, fits (by decide), fun _ h => nomatch h⟩, by decide, by decide, by decide, by decide⟩
/-- An arrival with the bytes of a message of `verb` and Noun `noun`, with no payload. -/
def msgArr (verb noun : Nat) : Arrival :=
  { src := .warp 1 1
    bytes := let h := [verb, 0] ++ toLE 2 noun ++ List.replicate 8 0; h ++ toLE 4 (crc32 h) }
theorem wit_take_bad : let s : State := { st [] with crerus := { alive := true, arr := [{ src := .warp 1 1 }] } }
    s.crerus.cur = none ∧ s.crerusUp = true ∧ s.crerus.arr.find? s.takes = some { src := .warp 1 1 }
    ∧ goodMsg (s.arrBytes { src := .warp 1 1 }) = false := by decide
theorem wit_take_good : let s : State := { st [] with crerus := { alive := true, arr := [msgArr 1 0] } }
    let a := msgArr 1 0
    let b := s.arrBytes a
    let u := s.beginTake a
    let w : State := { u with crerus := { u.crerus with nextId := u.crerus.nextId + 1 } }
    s.crerus.cur = none ∧ s.crerusUp = true ∧ s.crerus.arr.find? s.takes = some a ∧ goodMsg b = true
    ∧ w.refuse (u.jobOf a b) = none := by decide
theorem wit_take_refused : let s : State := { st [] with crerus := { alive := true, arr := [msgArr 200 0] } }
    let a := msgArr 200 0
    let b := s.arrBytes a
    let u := s.beginTake a
    let w : State := { u with crerus := { u.crerus with nextId := u.crerus.nextId + 1 } }
    s.crerus.cur = none ∧ s.crerusUp = true ∧ s.crerus.arr.find? s.takes = some a ∧ goodMsg b = true
    ∧ w.refuse (u.jobOf a b) = some 0x10 := by decide
theorem wit_take_class : let s : State := { st [] with crerus := { alive := true, arr := [msgArr 1 0] } }
    let a := msgArr 1 0
    let b := s.arrBytes a
    let u := s.beginTake a
    let w : State := { u with crerus := { u.crerus with nextId := u.crerus.nextId + 1 } }
    w.authJob (u.jobOf a b) b = (some (u.jobOf a b), w) := rfl
theorem wit_resume : let j : Job := { noun := 0x403, wait := .ready 0x61 [1] }
    let s := srv j []
    s.crerusUp = true ∧ s.crerus.susp.find? s.canResume = some j ∧ j.wait = .ready 0x61 [1] ∧ j.noun ≠ 0x402 := by decide
theorem wit_resume_lane : let j : Job := { wait := .upd 15 }
    let s := srv j []
    s.crerusUp = true ∧ s.crerus.susp.find? s.canResume = some j ∧ j.wait = .upd 15 := by decide
theorem wit_resume_flash : let j : Job := { wait := .flash (some 6) }
    let s := srv j []
    s.crerusUp = true ∧ s.crerus.susp.find? s.canResume = some j ∧ j.wait = .flash (some 6) ∧ 6 ≠ 0 := by decide
theorem wit_resume_engine : let j : Job := { wait := .engine }
    let s : State := { srv j [(R.TMP_STAT_RESP, 0)] with custody := { keys := true } }
    s.crerusUp = true ∧ s.crerus.susp.find? s.canResume = some j ∧ j.wait = .engine := by decide
theorem wit_apply_timeout : let j : Job := { wait := .upd 15 }
    let s := srv j [(R.LN_CTRL_UPD 15, 1)]
    s.crerusUp = true ∧ j.wait = .upd 15 ∧ s.flag (R.LN_CTRL_UPD 15) = true ∧ s.crerus.susp = [j] := by decide

theorem wit_get_live : let j : Job := { verb := 1, md := 0, noun := 0x100 }
    (srv j []).Serves j ∧ j.verb = 1 ∧ j.noun ≠ 0x701 ∧ j.md = 0 := ⟨⟨by decide, by decide⟩, by decide⟩
theorem wit_get_pending : let j : Job := { verb := 1, md := 1, noun := 0x200 }
    let s : State := { st [] with crerus := { alive := true, susp := [j], pend := [((.h, 0x200), [])] } }
    s.Serves j ∧ j.verb = 1 ∧ j.noun ≠ 0x701 ∧ j.md = 1 ∧ nounSets j.noun = true ∧ s.pendOf j.cls j.noun = some [] :=
  ⟨⟨by decide, by decide⟩, by decide⟩
theorem wit_get_boot : let j : Job := { verb := 1, md := 2, noun := 0x20F }
    (srv j []).Serves j ∧ j.verb = 1 ∧ j.noun ≠ 0x701 ∧ j.md = 2 ∧ nounSets j.noun = true := ⟨⟨by decide, by decide⟩, by decide⟩
theorem wit_set : let j : Job := { verb := 2, noun := 0x501 }
    (srv j []).Serves j ∧ j.verb = 2 ∧ j.md = 0 ∧ (srv j []).setCheck j.noun j.pay = none := ⟨⟨by decide, by decide⟩, by decide⟩
theorem wit_set_refused : let j : Job := { verb := 2, noun := 0x401 }
    (srv j []).Serves j ∧ j.verb = 2 ∧ j.md = 0 ∧ (srv j []).setCheck j.noun j.pay = some 0x50 :=
  ⟨⟨by decide, by decide⟩, by decide⟩
theorem wit_apply_none : let j : Job := { verb := 3, noun := 0x200 }
    (srv j []).Serves j ∧ j.verb = 3 ∧ (srv j []).pendOf j.cls j.noun = none := ⟨⟨by decide, by decide⟩, by decide⟩
theorem wit_apply : let j : Job := { verb := 3, noun := 0x200 }
    let s : State := { st [] with crerus := { alive := true, susp := [j], pend := [((.h, 0x200), [])] } }
    s.Serves j ∧ j.verb = 3 ∧ s.pendOf j.cls j.noun = some [] ∧ j.noun ≠ 0x901 := ⟨⟨by decide, by decide⟩, by decide⟩
theorem wit_commit_signed : let j : Job := { verb := 4, noun := 0x200 }
    let s : State := { srv j [] with shadow := Bank.put (srv j []).shadow 158 0x20 }
    s.Serves j ∧ j.verb = 4 ∧ j.noun ≠ 0x600 ∧ j.md = 0 ∧ s.draftSigned = true := ⟨⟨by decide, by decide⟩, by decide⟩
theorem wit_commit : let j : Job := { verb := 4, noun := 0x200 }
    (srv j []).Serves j ∧ j.verb = 4 ∧ j.noun ≠ 0x600 ∧ j.md = 0 ∧ (srv j []).draftSigned = false
    ∧ ((srv j []).staged j.noun).bodyLen ≤ 32480 := ⟨⟨by decide, by decide⟩, by decide⟩
theorem wit_commit_write : let j : Job := { verb := 4, noun := 0x200, md := 1 }
    (srv j []).Serves j ∧ j.verb = 4 ∧ j.noun ≠ 0x600 ∧ j.md = 1 ∧ (srv j []).draftSigned = false
    ∧ ((srv j []).staged j.noun).bodyLen ≤ 32480 ∧ (srv j []).flash.op0 = none ∧ (srv j []).on 2 = true :=
  ⟨⟨by decide, by decide⟩, by decide⟩
theorem wit_stage_bad : let j : Job := { verb := 6, noun := 0xA01 }
    (srv j []).Serves j ∧ j.verb = 6 ∧ j.noun ≠ 0x601 ∧ stageOk j.pay 0x8000 = false := ⟨⟨by decide, by decide⟩, by decide⟩
theorem wit_stage : let j : Job := { verb := 6, noun := 0xA01, pay := toLE 4 0 ++ toLE 4 32 ++ toLE 4 0x7FE0 }
    (srv j []).Serves j ∧ j.verb = 6 ∧ j.noun ≠ 0x601 ∧ stageOk j.pay 0x8000 = true := ⟨⟨by decide, by decide⟩, by decide⟩
theorem wit_stage_fw : let j : Job := { verb := 6, noun := 0x601, pay := toLE 4 0 ++ toLE 4 0x8000 ++ toLE 4 0 }
    (srv j []).Serves j ∧ j.verb = 6 ∧ j.noun = 0x601 ∧ stageOk j.pay 0x40000 = true ∧ wordAt j.pay 8 = 0
    ∧ (srv j []).flash.op0 = none ∧ (srv j []).on 2 = true := ⟨⟨by decide, by decide⟩, by decide⟩

theorem wit_attest : let j : Job := { verb := 7, noun := 0x700 }
    let s : State := { srv j [(R.TMP_STAT_RESP, 0)] with custody := { keys := true } }
    s.Serves j ∧ j.verb = 7 ∧ s.EngineFree ∧ s.custody.drbg = false :=
  ⟨⟨by decide, by decide⟩, by decide, ⟨by decide, by decide, by decide⟩, by decide⟩
theorem wit_attest_signed : let j : Job := { verb := 7, noun := 0x700 }
    let s : State := { srv j [(R.TMP_STAT_RESP, 0)] with custody := { keys := true, drbg := true } }
    s.Serves j ∧ j.verb = 7 ∧ s.EngineFree ∧ s.custody.drbg = true :=
  ⟨⟨by decide, by decide⟩, by decide, ⟨by decide, by decide, by decide⟩, by decide⟩
theorem wit_wipe : let j : Job := { verb := 8, pay := [63] }
    (srv j []).Serves j ∧ j.verb = 8 ∧ fieldOf j.pay 0 1 ≤ 63 := ⟨⟨by decide, by decide⟩, by decide⟩
theorem wit_wipe_all : let j : Job := { verb := 8, pay := [255] }
    (srv j []).Serves j ∧ j.verb = 8 ∧ fieldOf j.pay 0 1 = 0xFF := ⟨⟨by decide, by decide⟩, by decide⟩
theorem wit_wipe_limit : let j : Job := { verb := 8, pay := [64] }
    (srv j []).Serves j ∧ j.verb = 8 ∧ 63 < fieldOf j.pay 0 1 ∧ fieldOf j.pay 0 1 ≠ 0xFF := ⟨⟨by decide, by decide⟩, by decide⟩
theorem wit_watch : let j : Job := { verb := 9, noun := 1 }
    (srv j []).Serves j ∧ j.verb = 9 := ⟨⟨by decide, by decide⟩, by decide⟩
theorem wit_forget : let j : Job := { verb := 10, noun := 0xFFFF }
    (srv j []).Serves j ∧ j.verb = 10 := ⟨⟨by decide, by decide⟩, by decide⟩
theorem wit_notice : let s : State := { st [] with crerus := { alive := true, subs := [{ mb := 7, waiting := true, noun := 0x501 }] } }
    let u := s.lookSubs
    s.crerus.alive = true ∧ s.on 1 = true ∧ u.crerus.notes = []
    ∧ ((u.crerus.subs.filter fun x => x.waiting && u.noticeRoom x.mb && u.noticeDue x)[0]?).isSome = true := by decide
/-- R321: a notice of interval 63 waits 0.63 s after the last. -/
theorem test_notice_interval : let x : Sub := { interval := 63, last := some 0 }
    ({ st [] with time := { rtc := 629999 } } : State).noticeDue x = false
    ∧ ({ st [] with time := { rtc := 630000 } } : State).noticeDue x = true := by decide
theorem wit_ping : let j : Job := { verb := 5, noun := 2 }
    (srv j []).Serves j ∧ j.verb = 5 ∧ j.noun = 2 := ⟨⟨by decide, by decide⟩, by decide⟩

/-- The request of a DO to `noun` with payload `pay`. -/
def dj (noun : Nat) (pay : List Nat) : Job := { verb := 5, noun := noun, pay := pay }
theorem wit_do (noun : Nat) (pay : List Nat) : (dj noun pay).verb = 5 ∧ (dj noun pay).noun = noun := ⟨rfl, rfl⟩
theorem wit_do_gstart : let j := dj 0x402 (toLE 8 500 ++ [15])
    let s := srv j [(R.WRP_CFG_ROLE, 1)]
    s.Serves j ∧ s.on 9 = true ∧ s.isMaster = true ∧ s.time.tb.toNat + 500 ≤ fieldOf j.pay 0 8
    ∧ fieldOf j.pay 8 1 = (15 : Fin 16).val := ⟨⟨by decide, by decide⟩, by decide⟩
theorem wit_do_gstart_late : let j := dj 0x402 (toLE 8 499 ++ [15])
    let s := srv j [(R.WRP_CFG_ROLE, 1)]
    s.Serves j ∧ s.on 9 = true ∧ s.isMaster = true ∧ fieldOf j.pay 0 8 < s.time.tb.toNat + 500 :=
  ⟨⟨by decide, by decide⟩, by decide⟩
theorem wit_do_gstart_member : let j := dj 0x402 []
    (srv j []).Serves j ∧ (srv j []).on 9 = true ∧ (srv j []).isMaster = false := ⟨⟨by decide, by decide⟩, by decide⟩
theorem wit_do_send : let j := dj 0x403 ([7, 0, 0, 0] ++ (msgArr 1 0).bytes)
    (srv j []).Serves j ∧ (srv j []).on 9 = true ∧ goodMsg (j.pay.drop 4) = true
    ∧ msgLen (j.pay.drop 4) = (j.pay.drop 4).length := ⟨⟨by decide, by decide⟩, by decide⟩
theorem wit_do_warp : (srv (dj 0x405 []) []).Serves (dj 0x405 []) ∧ (srv (dj 0x406 []) []).Serves (dj 0x406 [])
    ∧ (srv (dj 0x406 []) []).on 9 = true := ⟨⟨by decide, by decide⟩, ⟨by decide, by decide⟩, by decide⟩
theorem wit_do_cal_off : let s := srv (dj 0x406 []) [(R.PWR_DOM 9, 0)]
    s.Serves (dj 0x406 []) ∧ s.on 9 = false := ⟨⟨by decide, by decide⟩, by decide⟩
theorem wit_lc_refused : let j := dj 0x501 [6]
    (srv j []).Serves j ∧ (srv j []).lcRefusal (fieldOf j.pay 0 1) false = some 0x13 := ⟨⟨by decide, by decide⟩, by decide⟩
theorem wit_lc : let j := dj 0x501 [1]
    (srv j []).Serves j ∧ (srv j []).lcRefusal (fieldOf j.pay 0 1) false = none ∧ fieldOf j.pay 0 1 ≠ 2 ∧ fieldOf j.pay 0 1 ≠ 5
    ∧ (srv j []).lcSlot (fieldOf j.pay 0 1) = some 0 := ⟨⟨by decide, by decide⟩, by decide⟩
theorem wit_lc_token : let j := dj 0x502 [2]
    let s := srv j [(R.LCS_STATE_STATE, 1), (R.LCS_STATE_OPENS, 6), (R.LCS_TOKFAIL, 2)]
    s.Serves j ∧ fieldOf j.pay 0 1 = 2 ∧ s.lcRefusal 2 false = none ∧ s.lcSlot 2 = some 7 ∧ s.get R.LCS_TOKFAIL < 3 :=
  ⟨⟨by decide, by decide⟩, by decide⟩
theorem wit_lc_token_spent : let j := dj 0x502 [2]
    let s := srv j [(R.LCS_STATE_STATE, 1), (R.LCS_TOKFAIL, 3)]
    s.Serves j ∧ fieldOf j.pay 0 1 = 2 ∧ s.lcRefusal 2 false = none ∧ s.lcSlot 2 = some 1 ∧ 3 ≤ s.get R.LCS_TOKFAIL :=
  ⟨⟨by decide, by decide⟩, by decide⟩
theorem wit_lc_scrap : let j := dj 0x503 (toLE 4 0x5C4A ++ (st []).devId)
    let s := srv j []
    s.Serves j ∧ wordAt j.pay 0 = 0x5C4A ∧ j.pay.drop 4 = s.devId ∧ s.lcRefusal 7 true = none ∧ s.lcSlot 7 = some 18 :=
  ⟨⟨by decide, by decide⟩, by decide⟩
theorem wit_lc_scrap_key : let j := dj 0x503 (toLE 4 0x5C4B)
    (srv j []).Serves j ∧ wordAt j.pay 0 ≠ 0x5C4A := ⟨⟨by decide, by decide⟩, by decide⟩
theorem wit_random_limit : let j := dj 0x702 (toLE 2 481)
    (srv j []).Serves j ∧ j.md = 0 ∧ 480 < fieldOf j.pay 0 2 := ⟨⟨by decide, by decide⟩, by decide⟩
theorem wit_random : let j := dj 0x702 (toLE 2 480)
    let s : State := { srv j [(R.TMP_STAT_RESP, 0)] with custody := { keys := true, drbg := true } }
    s.Serves j ∧ s.EngineFree ∧ j.md = 0 ∧ 1 ≤ fieldOf j.pay 0 2 ∧ fieldOf j.pay 0 2 ≤ 480 ∧ s.custody.esFail = false
    ∧ s.custody.drbg = true := ⟨⟨by decide, by decide⟩, ⟨by decide, by decide, by decide⟩, by decide⟩
theorem wit_generate_class : let j := { dj 0x702 [] with md := 1 }
    (srv j []).Serves j ∧ j.md = 1 ∧ j.cls ≠ .s := ⟨⟨by decide, by decide⟩, by decide⟩
theorem wit_generate : let j := { dj 0x702 [62, 4, 7, 0, 64, 0] with md := 1, cls := .s }
    let s : State := { srv j [(R.TMP_STAT_RESP, 0)] with custody := { keys := true, drbg := true } }
    s.Serves j ∧ s.EngineFree ∧ j.md = 1 ∧ j.cls = .s ∧ fieldOf j.pay 0 1 < 63
    ∧ slotForm (fieldOf j.pay 1 1) (fieldOf j.pay 4 2) (fieldOf j.pay 2 2) = true ∧ (s.slot (fieldOf j.pay 0 1)).occ = false
    ∧ s.custody.esFail = false ∧ s.custody.drbg = true := ⟨⟨by decide, by decide⟩, ⟨by decide, by decide, by decide⟩, by decide⟩
theorem wit_tamper_clear : let j := dj 0x902 []
    let s := srv j [(R.TMP_SRCCFG_EN, 0x100), (R.TMP_SRCCFG_ACTION, 0xFF)]
    s.Serves j ∧ s.custody.wiping = false ∧ (∀ n, n < 9 → (0x100 : BitVec 9).toNat.testBit n = true → s.tampEn n = true →
      s.bit R.TMP_SRCCFG_ACTION n = false) := ⟨⟨by decide, by decide⟩, by decide⟩
theorem wit_tamper_live : let j := dj 0x902 []
    let s := srv j [(R.TMP_SRCCFG_EN, 0x100), (R.TMP_SRCCFG_ACTION, 0x100)]
    s.Serves j ∧ 8 < 9 ∧ (0x100 : BitVec 9).toNat.testBit 8 = true ∧ s.tampEn 8 = true ∧ s.bit R.TMP_SRCCFG_ACTION 8 = true :=
  ⟨⟨by decide, by decide⟩, by decide⟩

theorem wit_fw_start : let s := st [(R.RST_BOOT_STEP, 10)]
    s.get R.RST_BOOT_STEP = 10 ∧ s.crerus.started = false ∧ s.crerus.alive = false ∧ s.flag R.RST_BOOT_RECOVERY = false
    ∧ s.lcState ≠ 7 ∧ s.on 1 = true ∧ s.on 10 = true := by decide
theorem wit_fw_restart : let s : State := { st [(R.RST_BOOT_STEP, 10)] with crerus := { started := true } }
    s.on 1 = true ∧ s.crerus.started = true ∧ s.mustRestart = true := by decide
theorem wit_fw_activated : let s : State := { st [] with crerus := { alive := true, started := true, activating := true } }
    s.on 1 = true ∧ s.crerus.started = true ∧ s.activated = true := by decide
theorem wit_fw_watchdog : let s : State := { st [] with crerus := { alive := true } }
    s.crerusUp = true ∧ s.crerus.wdLast = none := by decide
theorem wit_fw_watchdog_again : let s : State := { st [] with crerus := { alive := true, wdLast := some 0 }, time := { rtc := 1000000 } }
    s.crerusUp = true ∧ s.crerus.wdLast = some 0 ∧ s.time.rtc.toNat ≤ 0 + 1000000 := by decide
theorem wit_fw_watchdog_later : let s : State := { st [] with crerus := { alive := true, wdLast := some 0 }, time := { rtc := 1000001 } }
    s.crerusUp = true ∧ s.crerus.wdLast = some 0 ∧ 0 + 1000000 < s.time.rtc.toNat := by decide
theorem wit_fw_verify : let j := dj 0x602 []
    (srv j []).Serves j ∧ (srv j []).flash.op0 = none ∧ (srv j []).on 2 = true := ⟨⟨by decide, by decide⟩, by decide⟩
theorem wit_fw_activate : let j := dj 0x603 []
    let s : State := { st [] with crerus := { alive := true, susp := [j], verified := true } }
    s.Serves j ∧ s.flag R.PWR_STATE_ENTRY = false ∧ s.crerus.verified = true ∧ s.flash.op0 = none ∧ s.on 2 = true
    ∧ s.on 10 = true := ⟨⟨by decide, by decide⟩, by decide⟩
theorem wit_fw_activate_unverified : let j := dj 0x603 []
    (srv j []).Serves j ∧ (srv j []).flag R.PWR_STATE_ENTRY = false ∧ (srv j []).crerus.verified = false :=
  ⟨⟨by decide, by decide⟩, by decide⟩
theorem wit_fw_commit : let j : Job := { verb := 4, noun := 0x600 }
    (srv j []).Serves j ∧ j.verb = 4 ∧ j.noun = 0x600 ∧ (srv j []).fwMark (srv j []).crerus.slot 2 = false
    ∧ (srv j []).flash.op0 = none ∧ (srv j []).on 2 = true := ⟨⟨by decide, by decide⟩, by decide⟩
theorem wit_fw_confirmed : let j : Job := { verb := 4, noun := 0x600 }
    let s := (srv j []).wrBytes (fwMarkKey 0 2) fwMarkUnit
    s.Serves j ∧ s.fwMark s.crerus.slot 2 = true := ⟨⟨by decide, by decide⟩, by decide⟩

set_option maxRecDepth 60000 in
theorem wit_draft_image : let j := dj 0xA01 []
    let s := (srv j []).wrBytes imageStore (toLE 4 0x54465244 ++ [1, 0, 0, 0] ++ toLE 4 0 ++ toLE 4 72)
    s.Serves j ∧ s.flash.op0 = none ∧ s.on 2 = true ∧ draftHead (s.rdBytes imageStore 0x7FE0) = true
    ∧ s.newestDraft = none :=
  ⟨⟨by decide, by decide⟩, by decide⟩
set_option maxRecDepth 60000 in
theorem wit_draft_image_bad : draftHead ((st []).rdBytes imageStore 0x7FE0) = false := by decide
theorem wit_seq_end : let j := dj 0xB03 []
    (srv j []).Serves j ∧ j.md = 0 ∧ ((srv j []).seqAct 0).1 = 0 := ⟨⟨by decide, by decide⟩, by decide⟩
theorem wit_seq_wait : let j := dj 0xB03 []
    let s : State := { st [] with crerus := { alive := true, susp := [j], sequence := [4, 0, 1, 0, 0, 0, 0, 0] } }
    s.Serves j ∧ j.md = 0 ∧ (s.seqAct 0).1 = 4 ∧ (s.seqAct 0).2.2 ≠ 0 := ⟨⟨by decide, by decide⟩, by decide⟩
theorem wit_seq_undo : let j := { dj 0xB03 [] with md := 1 }
    (srv j []).Serves j ∧ j.md = 1 := ⟨⟨by decide, by decide⟩, by decide⟩
theorem wit_seq_timeout : let j := { dj 0xB03 [] with wait := .seq }
    let s : State := { st [] with crerus := { alive := true, susp := [j], run := { on := true } } }
    s.seqJob = some j ∧ s.crerus.run.on = true ∧ s.crerusUp = true
    ∧ fieldOf (seqStep s.crerus.sequence s.crerus.run.step) 6 1 ≠ 1 := by decide
theorem wit_seq_outside : let j := { dj 0xB03 [] with wait := .seq }
    let s : State := { st [(R.LN_ERR 15, 256)] with
      crerus := { alive := true, susp := [j], run := { on := true }, sequence := [3, 15, 0, 0, 0, 0, 0, 0] } }
    s.seqJob = some j ∧ s.crerus.run.on = true ∧ s.crerusUp = true ∧ (s.seqAct s.crerus.run.step).1 = 3
    ∧ s.inWindowOf (s.seqAct s.crerus.run.step).2.1 (s.seqAct s.crerus.run.step).2.2 = false := by decide
theorem wit_fans : let s : State := { st [] with crerus := { alive := true } }
    s.crerus.alive = true ∧ s.on 1 = true ∧ (∀ i, i < 4 → (fieldOf (s.fanEntry i) 0 1).testBit 0 = false) := by decide

/-! ### The custody queue, the journal and the host interface -/

theorem wit_submit : let s := st []
    s.on 10 = true ∧ s.asleep = false ∧ ((32 : Word).toNat % 64 + 64 - s.get R.Q_SQHEAD) % 64 ≤ 32
    ∧ 32 < ((33 : Word).toNat % 64 + 64 - s.get R.Q_SQHEAD) % 64 := by decide
theorem wit_consume : let s := st [(R.Q_CQTAIL, 32)]
    let used := (s.get R.Q_CQTAIL + 64 - s.get R.Q_CQHEAD) % 64
    ((32 : Word).toNat % 64 + 64 - s.get R.Q_CQHEAD) % 64 ≤ used ∧ used < ((33 : Word).toNat % 64 + 64 - s.get R.Q_CQHEAD) % 64 := by
  decide
theorem wit_queue_reset : let s : State := { st [] with queue := { running := [{}] } }
    s.on 10 = true ∧ (1 : Word).toNat.testBit 0 = true ∧ s.queue.running ≠ [] ∧ (st []).queue.running = [] := by decide
/-- A part that serves the queue, with one entry of the given bytes in its ring. -/
def que (b : List Nat) (rs : List (Fld × Nat)) : State :=
  ({ st ([(R.Q_SQTAIL, 1)] ++ rs) with crerus := { alive := true } } : State).wrBytes (hostKey 0x2000) b
/-- A whole entry of BARRIER with tag 31. -/
def barrierEntry : List Nat :=
  let h := [8, 31] ++ List.replicate 58 0
  h ++ toLE 4 (crc32 h)
set_option maxRecDepth 60000 in
theorem wit_take_command : let s := que barrierEntry []
    let c : QCmd := { cmdOf (s.ringEntry 0) with idx := 0, num := s.queue.num, held := decide (0 < s.queue.heldTo), stamp := s.queue.stamps.headD 0 }
    s.qServes = true ∧ s.get R.Q_SQHEAD ≠ s.get R.Q_SQTAIL ∧ c.malformed = none ∧ s.bit R.Q_TAGS c.tag = false ∧ c.ranges = none
    ∧ (que barrierEntry [(R.Q_TAGS, 2 ^ 31)]).bit R.Q_TAGS c.tag = true := by decide
set_option maxRecDepth 60000 in
theorem wit_take_malformed : let s := que [] []
    let c : QCmd := { cmdOf (s.ringEntry 0) with idx := 0, num := s.queue.num, held := decide (0 < s.queue.heldTo), stamp := s.queue.stamps.headD 0 }
    s.qServes = true ∧ s.get R.Q_SQHEAD ≠ s.get R.Q_SQTAIL ∧ c.malformed = some 0x10 := by decide
theorem wit_completion : let d : QDone := { tag := 31 }
    let s : State := { st [(R.Q_CQTAIL, 31)] with crerus := { alive := true }, queue := { done := [d] } }
    s.queue.done = d :: [] ∧ s.crerus.alive = true ∧ s.on 1 = true ∧ s.on 10 = true
    ∧ (s.get R.Q_CQTAIL + 64 - s.get R.Q_CQHEAD) % 64 < 32 ∧ d.usesTag = true ∧ d.tag < 32 := by decide
/-- A part with command `c` taken and its journal ready. -/
def tak (c : QCmd) (rs : List (Fld × Nat)) : State :=
  { st ([(R.TMP_STAT_RESP, 0)] ++ rs) with
    crerus := { alive := true }, jrnl := { scanned := true }, queue := { taken := [c] }, custody := { keys := true } }
theorem wit_verb : let c : QCmd := { opc := 1 }
    let s := tak c [(R.LCS_STATE_STATE, 3)]
    s.Starts 1 c ∧ ((s.qRun c).qCheck (s.qLoad c)).1 = none :=
  ⟨⟨by decide, by decide, fun _ => by decide, fun h => absurd h (by decide), by decide⟩, by decide⟩
theorem wit_verb_engine : let c : QCmd := { opc := 6 }
    let s := tak c [(R.LCS_STATE_STATE, 3)]
    s.Starts 6 c ∧ ((s.qRun c).qCheck (s.qLoad c)).1 = none :=
  ⟨⟨by decide, by decide, fun h => absurd h (by decide), fun _ => by decide, by decide⟩, by decide⟩
theorem wit_verb_refused : let c : QCmd := { opc := 7 }
    let s := tak c [(R.LCS_PROG_INPROG, 1)]
    s.Starts 7 c ∧ ((s.qRun c).qCheck (s.qLoad c)).1 = some (0x20, 0) :=
  ⟨⟨by decide, by decide, fun _ => by decide, fun h => absurd h (by decide), by decide⟩, by decide⟩
theorem wit_deferred : let c : QCmd := { deferred := true }
    let s := st []
    c.deferred = true ∧ s.pageFree true = true ∧ s.jrnl.fits c.inp.length = true ∧ c.discard = false ∧ s.flag R.Q_CTRL = false := by
  decide
theorem wit_kstore : let c : QCmd := { auth := true, tag := 31 }
    c.auth = true ∧ (st []).engineRefuses = false ∧ ((st []).slot c.slot).occ = false ∧ ({} : QCmd).auth = false := by decide
theorem wit_flush : (st []).jrnl.buf = [] := by decide
theorem wit_engine_off : (st [(R.PWR_DOM 11, 0)]).engineRefuses = true := by decide

theorem wit_defer : (st []).jrnlHeld = false := by decide
theorem wit_push : let s : State := { st [] with jrnl := { buf := [[1]] } }
    s.vrec = [] ∧ s.jrnl.buf ≠ [] ∧ s.jrnl.prog = none ∧ s.flash.op1 = none ∧ s.on 2 = true := by decide
theorem wit_page : let s : State := { st [] with jrnl := { prog := some [[1]], wpos := 8191 }, flash := { op1 := some {} } }
    s.flash.op1 = some {} ∧ s.jrnl.prog = some [[1]] ∧ s.vrec = [] ∧ s.queue.running = [] ∧ s.jrnl.wpos % 512 ≠ 509 := by decide
theorem wit_scan : let s : State := { st [] with crerus := { alive := true } }
    s.crerus.alive = true ∧ s.on 2 = true ∧ s.jrnl.scanned = false ∧ s.vrec = [] := by decide
theorem wit_chain : let s : State := { st [] with crerus := { alive := true }, jrnl := { scanned := true } }
    s.jrnlUp = true ∧ s.on 2 = true ∧ s.jrnl.verified = false := by decide

theorem wit_xspi : let s := st []
    s.Kept ∧ s.on 10 = true ∧ 0x10000 ≤ (0x1FFFF : BitVec 32).toNat ∧ (0x1FFFF : BitVec 32).toNat < 0x20000
    ∧ (3 : Word).toNat % 2 = 1 ∧ s.xspi.mode = false ∧ s.xspi.armed = false :=
  ⟨⟨by decide, fits (by decide), fun _ h => nomatch h⟩, by decide⟩
theorem wit_xspi_reset : let s : State := { st [] with xspi := { armed := true, next := some true } }
    s.on 10 = true ∧ s.xspi.armed = true ∧ s.xspi.next = some true := by decide
theorem wit_mailbox : let s := st []
    s.Kept ∧ s.on 10 = true ∧ s.get (R.HIF_MBST (6 : Fin 7).val) = 0 ∧ s.asleep = false
    ∧ (st [(R.HIF_MBST 6, 2)]).get (R.HIF_MBST (6 : Fin 7).val) ≠ 0 ∧ (st [(R.HIF_MBST 7, 3)]).get (R.HIF_MBST 7) = 3 :=
  ⟨⟨by decide, fits (by decide), fun _ h => nomatch h⟩, by decide⟩
theorem wit_mailbox_sealed : let s := st [(R.LMB_STATE_SHELD, 8)]
    s.Kept ∧ s.on 1 = true ∧ (3 : Fin 8).val < 4 ∧ s.bit R.LMB_STATE_SHELD 3 = true ∧ q.sealedW = false :=
  ⟨⟨by decide, fits (by decide), fun _ h => nomatch h⟩, by decide⟩
theorem wit_mailbox_local : let s := st []
    s.on 1 = true ∧ s.bit R.LMB_STATE_SHELD 3 = false ∧ s.get (R.LMB_ST 3) = 0 ∧ q.req ≠ .dma
    ∧ (st [(R.LMB_ST 3, 3)]).get (R.LMB_ST 3) = 3 ∧ ({ q with sealedW := true } : Who).sealedW = true := by decide

/-! ### Custody, flash and the life cycle -/

theorem wit_tamper : let s := st [(R.TMP_SRCCFG_EN, 0x1FF), (R.TMP_SRCCFG_ACTION, 0)]
    s.tampWatched 8 = true ∧ (8 : Fin 9) ≠ 6 ∧ s.bit R.TMP_SRCCFG_ACTION 8 = false ∧ s.asleep = false ∧ s.pwr.entry = none := by
  decide
/-- At its limits the temperature is no detection, and beyond them it is. -/
theorem wit_tamper_temperature : let s := st [(R.TMP_SRCCFG_EN, 0x40), (R.TMP_TEMP_THI, 100), (R.TMP_TEMP_TLO, 0xE0)]
    s.tampWatched 6 = true ∧ s.gets R.TMP_TEMP_TLO ≤ -32 ∧ (-32 : Int) ≤ (s.get R.TMP_TEMP_THI : Int)
    ∧ s.gets R.TMP_TEMP_TLO ≤ 100 ∧ (100 : Int) ≤ (s.get R.TMP_TEMP_THI : Int) ∧ (-33 : Int) < s.gets R.TMP_TEMP_TLO
    ∧ (s.get R.TMP_TEMP_THI : Int) < 101 := by decide
theorem wit_tamper_switch : let s := st [(R.TMP_SRCCFG_EN, 0x8), (R.TMP_TSW_POL, 2), (R.TMP_TSW_FILT1, 5)]
    s.tampEn (2 + (1 : Fin 2).val) = true ∧ true = s.bit R.TMP_TSW_POL (1 : Fin 2) ∧ s.get R.TMP_TSW_FILT1 ≤ 5
    ∧ 4 < s.get R.TMP_TSW_FILT1 ∧ false ≠ s.bit R.TMP_TSW_POL (1 : Fin 2) := by decide
theorem wit_mesh : let s := st [(R.TMP_SRCCFG_EN, 2), (R.TMP_MESH_FILT 1, 2)]
    s.tampEn (1 : Fin 2) = true ∧ (s.custody.mesh.at (1 : Fin 2)).run + 1 ≠ max 1 (s.get (R.TMP_MESH_FILT (1 : Fin 2))) := by decide
theorem wit_mesh_sense (b : Bool) : b = b ∧ (!b) ≠ b := by cases b <;> decide
theorem wit_custody : let s : State := { st [] with crerus := { alive := true }, custody := { drbg := true, wiping := true, recordDue := true } }
    s.crerus.alive = true ∧ s.custody.drbg = true ∧ s.custody.wiping = true ∧ s.custody.recordDue = true ∧ s.flashBusy = false
    ∧ s.custody.esStopped = false ∧ s.domLive 11 = true := by decide

/-- A part with the strand A's flash sequence armed. -/
def armed (rs : List (Fld × Nat)) : State := { st rs with seq := { flc := some .strandA } }
theorem wit_flash_arm : (st []).on 2 = true ∧ q.req ≠ .dma ∧ (0xF1A4 : Word) ≠ 0xF1A5 ∧ (st []).seq.flc ≠ some q.req := by decide
theorem wit_flash : let s := armed [(R.FLC_ADDR, mainBase)]
    s.on 2 = true ∧ s.seq.flc = some q.req ∧ s.flcCheck q 1 (s.get R.FLC_ADDR) = none
    ∧ s.flcCheck q 2 (s.get R.FLC_ADDR) = none := by decide
theorem wit_flash_refused : let s := armed [(R.FLC_ADDR, 0xFFFFFFE0)]
    s.on 2 = true ∧ s.seq.flc = some q.req ∧ 3 < 256 ∧ s.flcCheck q 1 (s.get R.FLC_ADDR) = some 3 ∧ s.seq.flc.isSome = true := by
  decide
theorem wit_flash_program : let s : State := { st [] with flash := { op0 := some { strand := true, prog := [(mainBase, [0])] } } }
    s.Kept ∧ s.flash.op0 = some { strand := true, prog := [(mainBase, [0])] } :=
  ⟨⟨by decide, fits (by decide), fun _ h => nomatch h⟩, by decide⟩
theorem wit_flash_erase : let s : State := { st [] with flash := { op0 := some { strand := true, erase := [(mainBase, 0x20000)] } } }
    s.Kept ∧ s.flash.op0 = some { strand := true, erase := [(mainBase, 0x20000)] } :=
  ⟨⟨by decide, fits (by decide), fun _ h => nomatch h⟩, by decide⟩

/-- A part that strand A has unlocked. -/
def unl (rs : List (Fld × Nat)) : State := { st rs with key := { unlocked := [.strandA] } }
theorem wit_key : q.req ≠ .dma ∧ (st []).on 0 = true ∧ q.req ∉ (st []).key.first ∧ q.req ∉ (st []).key.unlocked := by decide
theorem wit_lc_request : let s := unl []
    let x := (1 : Word).toNat % 16
    s.on 0 = true ∧ q.req ∈ s.key.unlocked ∧ s.lcRefusal x false = none ∧ x ≠ 2 ∧ x ≠ 5 ∧ s.lcSlot x = some 0 := by decide
theorem wit_lc_request_refused : let s := unl []
    let x := (0xFFFFFFFF : Word).toNat % 16
    s.on 0 = true ∧ q.req ∈ s.key.unlocked ∧ 0x13 < 2 ^ 16 ∧ s.lcRefusal x false = some 0x13 := by decide
theorem wit_lc_request_token : let s := { unl [(R.LCS_STATE_STATE, 1), (R.LCS_TOKFAIL, 3)] with shadow := Bank.put (st []).shadow 102 1 }
    let x := (2 : Word).toNat % 16
    q.req ∈ s.key.unlocked ∧ s.lcRefusal x false = none ∧ (x = 2 ∨ x = 5) ∧ 3 ≤ s.get R.LCS_TOKFAIL := by decide
theorem wit_scrap : let p : Who := { q with sealedW := true }
    let s : State := { st [] with seq := { scrap := some .strandA } }
    s.on 0 = true ∧ p.sealedW = true ∧ kickCore p.req = some 0 ∧ (st []).seq.scrap ≠ some p.req ∧ s.seq.scrap = some p.req
    ∧ (0 : Word).toNat = s.get (R.SYS_DEVID 0) ∧ (1 : Word).toNat ≠ s.get (R.SYS_DEVID 0) ∧ s.lcRefusal 7 true = none
    ∧ s.lcSlot 7 = some 18 := by decide
theorem wit_fuse : let s := unl [(R.LCS_STATE_STATE, 3), (R.LCS_FADDR, 102)]
    s.on 0 = true ∧ q.req ∈ s.key.unlocked ∧ s.flag R.LCS_FSTAT_BUSY = false ∧ s.flag R.LCS_PROG_INPROG = false
    ∧ s.rowLocked (s.get R.LCS_FADDR) = false ∧ s.rowAllowed q 1 (s.get R.LCS_FADDR) = true
    ∧ s.rowAllowed q 2 (s.get R.LCS_FADDR) = true := by decide
theorem wit_fuse_denied : let s := unl [(R.LCS_FADDR, 0)]
    s.on 0 = true ∧ q.req ∈ s.key.unlocked ∧ s.flag R.LCS_FSTAT_BUSY = false ∧ s.flag R.LCS_PROG_INPROG = false
    ∧ s.rowLocked (s.get R.LCS_FADDR) = false ∧ s.rowAllowed q 1 (s.get R.LCS_FADDR) = false := by decide
theorem wit_fuse_done : let s : State := { st [] with lc := { fuse := some (255, 1) } }
    s.lc.fuse = some ((255 : Fin 256).val, 1) := by decide
theorem wit_lc_step : let s : State := { st [] with lc := { slot := some 18, step := 4 } }
    s.lc.slot = some 18 ∧ s.lc.step < lcSteps 18 := by decide
theorem wit_lc_last : let s : State := { st [] with lc := { slot := some 18, step := 5 } }
    s.lc.slot = some 18 ∧ lcSteps 18 ≤ s.lc.step := by decide

/-! ### Clocks, power, reset and boot -/

theorem wit_clk_none : let s := st [(R.CLK_STAT_ACTIVE, 0)]
    let u := ((s.sets (clkDevReg 1) 0).sets (clkDevReg 2) 32767).sets (clkDevReg 3) (-32767)
    u.clkEstimate = none ∧ (1, 0) ∈ [(0, 0), (1, 0), (2, 1500000), (3, 1)] ∧ (1500000 : Nat) ≠ 0
    ∧ (0 : BitVec 3).toNat.testBit 0 = false ∧ (4 : BitVec 3).toNat.testBit 2 = true := by decide
theorem wit_clk_switch : let s : State := { st [(R.CLK_STAT_ACTIVE, 0), (R.CLK_CFG_SWEN, 1), (R.CLK_RCWIN, 10), (R.CLK_WIN_INNER, 3)] with
      clk := { prev := some 2 } }
    let u := ((s.sets (clkDevReg 1) 0).sets (clkDevReg 2) 20).sets (clkDevReg 3) 20
    u.clkEstimate = some (2, some 10) ∧ s.get R.CLK_WIN_INNER < (u.clkDev 2).natAbs ∧ s.flag R.CLK_CFG_SWEN = true
    ∧ 10 < (u.clkDev 2).natAbs ∧ s.clk.prev.isSome = true ∧ s.clk.holdoff = false := by decide
theorem wit_clk_held : let s : State := { st [(R.CLK_STAT_ACTIVE, 0), (R.CLK_CFG_SWEN, 1), (R.CLK_RCWIN, 10)] with
      clk := { prev := some 2, holdoff := true } }
    let u := ((s.sets (clkDevReg 1) 0).sets (clkDevReg 2) 20).sets (clkDevReg 3) 20
    u.clkEstimate = some (2, some 10) ∧ s.flag R.CLK_CFG_SWEN = true ∧ 10 < (u.clkDev 2).natAbs ∧ s.clk.prev.isSome = true
    ∧ s.clk.holdoff = true := by decide
theorem wit_clk_lost : (1 : Fin 3) ≠ 2 ∧ (st [(R.CLK_STAT_ACTIVE, 2)]).get R.CLK_STAT_ACTIVE ≠ (1 : Fin 3).val
    ∧ (st [(R.CLK_STAT_ACTIVE, 1)]).get R.CLK_STAT_ACTIVE = (1 : Fin 3).val := by decide
theorem wit_pll : (st [(R.CLK_STAT_RELOCK, 1)]).flag R.CLK_STAT_RELOCK = true
    ∧ (let s := st [(R.CLK_STAT_LOCK, 1), (R.CLK_STAT_ACTIVE, 2)]
       s.flag R.CLK_STAT_LOCK = true ∧ s.clkAvail (s.get R.CLK_STAT_ACTIVE) = true ∧ s.on 6 = true) := by decide

theorem wit_quiesce : let s : State := { st [(R.PWR_DOM 11, 4)] with pwr := { quiet := [(11, 1)] } }
    s.pwr.quiet.find? (fun x => decide (x.1 = (11 : Fin 12).val)) = some ((11 : Fin 12).val, 1) ∧ s.draining 11 = false
    ∧ s.asleep = false ∧ s.flag R.PWR_STATE_ENTRY = false := by decide
theorem wit_drain : let s : State := { st [] with pwr := { quiet := [(6, 1)] } }
    s.pwr.quiet.find? (fun x => decide (x.1 = (6 : Fin 12).val)) = some ((6 : Fin 12).val, 1) ∧ s.draining 6 = true := by decide
theorem wit_down : (11 : Fin 12) ≠ 6 ∧ (11 : Fin 12) ≠ 8 ∧ (11 : Fin 12) ≠ 9 := by decide
theorem wit_power_up : let s : State := { st [(R.PWR_DOM 10, 2)] with pwr := { retained := [10] } }
    s.get (R.PWR_DOM (10 : Fin 12)) = 2 ∧ (10 : Fin 12).val ∈ s.pwr.retained ∧ (10 : Fin 12) ≠ 11
    ∧ s.get (R.PWR_DOM (0 : Fin 12)) ≠ 2 := by decide
theorem wit_loss : ((11 : Fin 12) = 10 ∨ (11 : Fin 12) = 11) ∧ (st []).domLive (11 : Fin 12) = true := by decide
theorem wit_restart : let s : State := { st [(R.PWR_DOM 11, 5)] with pwr := { losses := [11, 11] } }
    s.get (R.PWR_DOM (11 : Fin 12)) = 5 ∧ s.pwr.losses.count (11 : Fin 12).val < 3 ∧ (requires (11 : Fin 12)).all s.on = true := by
  decide
theorem wit_restart_third : let s : State := { st [] with pwr := { losses := [11, 11, 11] } }
    3 ≤ s.pwr.losses.count (11 : Fin 12).val := by decide
theorem wit_pd7 : let s := st []
    s.on 0 = true ∧ s.flag R.PWR_DOMREQ_PD7OFF = false ∧ (1 : Word).toNat.testBit 0 = true
    ∧ (1 : Word).toNat.testBit 1 = s.flag R.PWR_DOMREQ_PD11OFF ∧ s.govActive = false ∧ s.on 7 = true
    ∧ (st [(R.EGV_CFG_EN, 1)]).govActive = true := by decide
theorem wit_pd11 : let s := st []
    s.on 0 = true ∧ s.flag R.PWR_DOMREQ_PD11OFF = false ∧ (2 : Word).toNat.testBit 1 = true
    ∧ (2 : Word).toNat.testBit 0 = s.flag R.PWR_DOMREQ_PD7OFF ∧ s.on 11 = true := by decide
theorem wit_pd11_on : let s := st [(R.PWR_DOMREQ_PD11OFF, 1), (R.PWR_DOM 11, 0)]
    s.on 0 = true ∧ s.flag R.PWR_DOMREQ_PD11OFF = true ∧ (0 : Word).toNat.testBit 1 = false
    ∧ (0 : Word).toNat.testBit 0 = s.flag R.PWR_DOMREQ_PD7OFF ∧ s.on 1 = true ∧ s.get (R.PWR_DOM 11) = 0 := by decide
theorem wit_sram : 3 < 4 ∧ (0x800 : Word).toNat.testBit (8 + 3) = true ∧ 0x3FFFF < 0x40000
    ∧ ¬ (sramBase + 0x40000 * 3 ≤ sramBase ∧ sramBase < sramBase + 0x40000 * (3 + 1)) := by decide

theorem wit_answer : (st [(R.PWR_DOM 10, 0)]).on 10 = false ∧ (st [(R.PWR_DOM 1, 0)]).on 1 = false
    ∧ (st [(R.PWR_DOM 9, 0)]).on 9 = false ∧ (st []).on 10 = true ∧ (st []).on 1 = true ∧ (st []).on 9 = true := by decide
theorem wit_power_present : let j := dj 0x100 []
    (srv j []).Serves j ∧ (srv j []).get R.PWR_STATE_PSTATE = j.md := ⟨⟨by decide, by decide⟩, by decide⟩
theorem wit_power_busy : let j := { dj 0x100 [] with md := 3 }
    let s := srv j [(R.DBG_STAT_HALTED, 4)]
    s.Serves j ∧ s.get R.PWR_STATE_PSTATE ≠ j.md ∧ s.powerBusy j.md = true := ⟨⟨by decide, by decide⟩, by decide⟩
theorem wit_power_entry : let j := { dj 0x100 [] with md := 3 }
    let s := srv j []
    s.Serves j ∧ s.get R.PWR_STATE_PSTATE ≠ j.md ∧ s.powerBusy j.md = false ∧ (j.md = 2 ∨ j.md = 3) :=
  ⟨⟨by decide, by decide⟩, by decide⟩
theorem wit_forced : let s := run 0 {} [(R.PWR_STATE_ENTRY, 1)]
    s.flag R.PWR_STATE_ENTRY = true ∧ s.coreExists (0 : Fin 3) = true
    ∧ ((s.coreAt (0 : Fin 3)).run = .issuing ∨ (s.coreAt (0 : Fin 3)).run = .wfi) ∧ s.bit R.DBG_STAT_HALTED (0 : Fin 3) = false
    ∧ s.haltLocked (0 : Fin 3) = false ∧ (s.coreAt (0 : Fin 3)).mustWait = false ∧ s.wld.saved = none := by decide
theorem wit_forced_locked : let s := run 0 { locked := true } [(R.PWR_STATE_ENTRY, 1)]
    s.flag R.PWR_STATE_ENTRY = true ∧ (s.coreAt (0 : Fin 3)).run = .issuing ∧ s.haltLocked (0 : Fin 3) = true := by decide
theorem wit_entry : let s : State := { st [(R.PWR_DOM 3, 0), (R.PWR_DOM 4, 0), (R.PWR_DOM 5, 0), (R.PWR_DOM 11, 0)] with pwr := { entry := some 3 } }
    s.pwr.entry = some 3 ∧ s.coresStopped = true ∧ s.plyBusy = false ∧ (∀ d ∈ [3, 4, 5, 11], s.domLive d = false) ∧ s.served = true
    ∧ s.jrnlClean = true ∧ s.flashBusy = false ∧ s.on 1 = true := by decide
theorem wit_entry_waits : let s : State := { run 0 {} [] with pwr := { entry := some 3 } }
    s.pwr.entry = some 3 ∧ s.coresStopped = false := by decide
theorem wit_wake : let s : State := { st [(R.PWR_STATE_PSTATE, 2), (R.ICU_SRC_EN 223, 1), (R.ICU_SRC_HWAKE 223, 1), (R.ICU_STS_PEND 223, 1)] with
      pwr := {} }
    s.sourceWakes (223 : Fin 224) = true ∧ s.asleep = true ∧ s.flag R.PWR_STATE_EXIT = false ∧ s.pwr.quiet = [] := by decide
theorem wit_wake_latched : let s : State := { st [(R.PWR_STATE_PSTATE, 2), (R.ICU_SRC_EN 223, 1), (R.ICU_SRC_HWAKE 223, 1), (R.ICU_STS_PEND 223, 1)] with
      pwr := { quiet := [(1, 0)] } }
    s.sourceWakes (223 : Fin 224) = true ∧ s.asleep = true ∧ s.flag R.PWR_STATE_EXIT = false ∧ s.pwr.quiet ≠ [] ∧ s.pwr.wake = none := by
  decide
theorem wit_exit : let s := st [(R.PWR_STATE_EXIT, 1), (R.PWR_STATE_PSTATE, 2)]
    s.flag R.PWR_STATE_EXIT = true ∧ s.allUp = true ∧ s.get R.PWR_STATE_PSTATE ≠ 3 ∧ s.on 6 = true := by decide
theorem wit_entry_busy : let s : State := { st [(R.PLY_STATUS_SPLITTING, 1)] with pwr := { entry := some 2 } }
    s.pwr.entry = some 2 ∧ s.plyBusy = true := by decide
theorem wit_supply : (st []).flag R.TMP_STAT_ONVBAT = false := by decide

theorem wit_power_on : (st []).flag R.TMP_STAT_ONVBAT = false ∧ (st [(R.TMP_STAT_ONVBAT, 1)]).flag R.TMP_STAT_ONVBAT = true
    ∧ (st []).flash.op0 = none ∧ (st []).flash.op1 = none := by decide
theorem wit_reset : let s := st [(R.TMP_STAT_ONVBAT, 1)]
    s.flag R.TMP_STAT_ONVBAT = true ∧ s.on 0 = true ∧ s.loomCfg = false ∧ s.flash.op0 = none ∧ s.flash.op1 = none := by decide
/-- R384, R521: PD0 that VBAT leaves while it carries the part ends AON, and the next power-on resets it. -/
theorem test_vbat_lost : let s := st [(R.TMP_STAT_ONVBAT, 1)]
    (aft (.domainUnplannedLoss 1) s).on 0 = false
    ∧ (aft .powerOnReset (aft (.domainUnplannedLoss 1) s)).flag R.TMP_STAT_ONVBAT = false := by decide
theorem wit_reset_cause : ((Instr.brownOut 4, 5) = (.resetPin, 6) ∨ ∃ k : Fin 5, (Instr.brownOut 4, 5) = (.brownOut k, 1 + k.val)) :=
  .inr ⟨4, rfl⟩
theorem wit_soft_reset : q.req ≠ .dma ∧ (0 : Word) ≠ 0x52A7 ∧ ((armed []).flash.op0 = none ∧ (armed []).flash.op1 = none)
    ∧ ({ st [] with flash := { op1 := some {} } } : State).flash.op1.isSome = true := by decide
theorem wit_release : (st []).rst.asserted = false ∧ State.reset.rst.asserted = true ∧ State.reset.rst.aon = true
    ∧ ({ State.reset with rst := { aon := false } } : State).rst.aon = false := by decide
theorem wit_release_boots : let u := State.reset.bootStart 0 false
    u.openSlot = none ∧ u.lcState ≠ 7 := by decide
theorem wit_ply_restart : let s : State := { st [(R.PLY_MODE_FORCED, 1)] with ply := { fault := true }, crerus := { alive := true } }
    s.ply.fault = true ∧ s.crerus.alive = true ∧ s.on 1 = true ∧ s.on 6 = true ∧ s.on 8 = true ∧ s.strandDead = false := by decide

/-! ### GPIO, UART, I²C, debug, health and registers -/

theorem wit_gpio : let s := st [(R.GPIO_MUX_IRQEDGE 15, 3)]
    s.on 10 = true ∧ s.on 6 = true ∧ (s.get R.GPIO_IN).testBit (15 : Fin 16) ≠ (0x8000 : BitVec 16).toNat.testBit (15 : Fin 16)
    ∧ irqSelects (s.get (R.GPIO_MUX_IRQEDGE (15 : Fin 16))) ((0x8000 : BitVec 16).toNat.testBit (15 : Fin 16)) = true
    ∧ s.encRuns = false := by decide
theorem wit_encoder : let s := st [(R.GPIO_ENCCFG_EN, 1), (R.GPIO_MUX_FUNC 8, 2), (R.GPIO_MUX_FUNC 9, 2), (R.GPIO_MUX_FUNC 10, 2)]
    s.encRuns = true ∧ s.flag R.GPIO_ENCCFG_MODE = false ∧ s.flag R.GPIO_ENCCFG_IDXCLR = false := by decide
theorem wit_no_trip_extension : (st [(R.PWR_DOM 6, 0)]).on 6 = false ∧ (st []).get R.TRP_TZCFG_GTZEN = 0 := by decide
theorem wit_mux : (R.GPIO_MUX_FUNC 14).addr ≠ 0x17000 + 4 * (15 : Fin 16).val := by decide

/-- A part whose UART is enabled. -/
def ser (u : UartSt) (rs : List (Fld × Nat)) : State :=
  { st ([(R.UART0_CTRL_EN, 1), (R.UART0_CTRL_TXEN, 1), (R.UART0_CTRL_RXEN, 1)] ++ rs) with uart := u }
theorem wit_uart_tx : let s := ser { tx := .replicate 15 255 } []
    s.on 10 = true ∧ s.flag R.UART0_CTRL_EN = true ∧ s.flag R.UART0_CTRL_TXEN = true ∧ s.uart.tx.length < 16
    ∧ s.uart.tx = 255 :: .replicate 14 255 ∧ 16 ≤ (ser { tx := .replicate 16 255 } []).uart.tx.length := by decide
theorem wit_uart_rx : let s := ser { rx := .replicate 15 (0, false, false), brk := true, sending := some 0 } [(R.UART0_CTRL_PARITY, 1)]
    s.on 10 = true ∧ s.flag R.UART0_CTRL_EN = true ∧ s.flag R.UART0_CTRL_RXEN = true ∧ s.uart.rx.length < 16
    ∧ 16 ≤ (ser { rx := .replicate 16 (0, false, false) } []).uart.rx.length ∧ s.uart.brk = true ∧ s.uart.sending.isSome = true := by
  decide
theorem wit_uart_timeout : let s := ser { rx := [(0, false, false)] } [(R.UART0_IE_RXIE, 1)]
    s.uart.rx ≠ [] ∧ s.flag R.UART0_IE_RXIE = true ∧ 164 ∉ s.uart.req ∧ s.on 6 = true := by decide

/-- A part whose I²C controller is enabled, in a transfer. -/
def iic (i : I2cSt) (rs : List (Fld × Nat)) : State :=
  { st ([(R.I2C0_CTRL_CTLEN, 1), (R.I2C0_STAT_CBUSY, 1)] ++ rs) with i2c := i }
theorem wit_i2c_go : let s := iic {} [(R.I2C0_STAT_CBUSY, 0)]
    s.on 10 = true ∧ (0x80000000 : Word).toNat.testBit 31 = true ∧ s.flag R.I2C0_CTRL_CTLEN = true ∧ s.flag R.I2C0_STAT_CBUSY = false
    ∧ (iic {} []).flag R.I2C0_STAT_CBUSY = true := by decide
theorem wit_i2c_address : let s := iic { started := true } []
    s.flag R.I2C0_STAT_CBUSY = true ∧ s.i2c.started = true ∧ s.i2c.ending = false ∧ s.i2c.addressed = false := by decide
theorem wit_i2c_read : let s := iic { started := true, addressed := true, rd := true, rx := .replicate 15 (0, false) } [(R.I2C0_STAT_XLEFT, 255)]
    s.i2c.ending = false ∧ s.i2c.addressed = true ∧ s.i2c.rd = true ∧ 0 < s.get R.I2C0_STAT_XLEFT ∧ s.get R.I2C0_STAT_XLEFT < 256
    ∧ s.i2c.rx.length < 16 := by decide
theorem wit_i2c_write : let s := iic { started := true, addressed := true, tx := [7] } [(R.I2C0_STAT_XLEFT, 1)]
    s.i2c.ending = false ∧ s.i2c.addressed = true ∧ s.i2c.rd = false ∧ 0 < s.get R.I2C0_STAT_XLEFT ∧ s.get R.I2C0_STAT_XLEFT < 256
    ∧ s.i2c.tx = 7 :: [] := by decide
theorem wit_i2c_done : let s := iic { addressed := true, stp := true } []
    s.flag R.I2C0_STAT_CBUSY = true ∧ s.i2c.addressed = true ∧ (s.i2c.ending = true ∨ s.get R.I2C0_STAT_XLEFT = 0)
    ∧ s.i2c.stp = true ∧ ({} : I2cSt).stp = false := by decide
theorem wit_i2c_disable : let s := iic { started := true } []
    s.on 10 = true ∧ (0x7FFFFFFF : Word).toNat.testBit 31 = false ∧ s.flag R.I2C0_STAT_CBUSY = true ∧ s.i2c.started = true
    ∧ (iic {} []).i2c.started = false ∧ (iic {} []).flag R.I2C0_CTRL_CTLEN = true := by decide
theorem wit_i2c_target : let s := st [(R.I2C0_CTRL_TGTEN, 1), (R.I2C0_TADDR, 0x77)]
    s.on 10 = true ∧ s.i2cMatches (0x77 : BitVec 7).toNat = true ∧ (0x76 : BitVec 7).toNat ≠ s.get R.I2C0_TADDR
    ∧ s.flag R.I2C0_STAT_CBUSY = false := by decide
theorem wit_i2c_target_rx : let s : State := { st [(R.I2C0_STAT_TADDRM, 1)] with i2c := { rx := .replicate 15 (0, false) } }
    s.flag R.I2C0_STAT_TADDRM = true ∧ s.i2c.silent = false ∧ s.flag R.I2C0_STAT_TDIR = false ∧ s.i2c.rx.length < 16 := by decide
theorem wit_i2c_target_full : let s : State := { st [(R.I2C0_STAT_TADDRM, 1)] with i2c := { rx := .replicate 16 (0, false) } }
    s.flag R.I2C0_STAT_TADDRM = true ∧ s.i2c.silent = false ∧ s.flag R.I2C0_STAT_TDIR = false ∧ 16 ≤ s.i2c.rx.length := by decide
theorem wit_i2c_target_tx : let s : State := { st [(R.I2C0_STAT_TADDRM, 1), (R.I2C0_STAT_TDIR, 1)] with i2c := { tx := .replicate 15 9 } }
    s.flag R.I2C0_STAT_TADDRM = true ∧ s.i2c.silent = false ∧ s.flag R.I2C0_STAT_TDIR = true ∧ s.i2c.tx = 9 :: .replicate 14 9
    ∧ s.i2c.tx.length < 16 ∧ ({} : I2cSt).tx = [] := by decide
theorem wit_i2c_tx_full : let s : State := { st [] with i2c := { tx := .replicate 16 9 } }
    s.on 10 = true ∧ 16 ≤ s.i2c.tx.length := by decide

theorem wit_tap : (Instr.tapReset, 0x02, 0) ∈ [(Instr.tapReset, 0x02, 0), (.jtagIdcode, 0x02, 0x27144001), (.jtagBypass, 0x1F, 0),
      (.jtagDbgstat, 0x0A, (st []).dbgStat)]
    ∧ (Instr.jtagHighz, 0x04) ∈ [(Instr.jtagExtest [], 0x00), (.jtagSamplePreload [], 0x01), (.jtagClamp, 0x03), (.jtagHighz, 0x04)] := by
  decide
theorem wit_tap_boundary : (st []).flag R.DBG_AUTH_BSCAN = false ∧ (st [(R.DBG_AUTH_BSCAN, 1)]).flag R.DBG_AUTH_BSCAN = true := by decide
theorem wit_dbg_denied : (st []).dbg.op = none ∧ (st []).dbgMay ((0x20000000 : BitVec 32).toNat / 4 * 4) = false := by decide
theorem wit_dbg_open : let s := st [(R.LCS_STATE_STATE, 2)]
    let p := (0x20000000 : BitVec 32).toNat / 4 * 4
    s.dbg.op = none ∧ s.dbgMay p = true ∧ s.rst.asserted = false ∧ (s.capture.busRead .debug s.dbgSmem p 4 true).1 = .ok ∧ p ≠ 0x4001B0A0
    ∧ (s.capture.busWrite .debug s.dbgSmem p 4 7).1 = .ok := by decide
/-- A read of a flash bank that programs waits, and is made again at the next scan. -/
theorem wit_dbg_wait : let s : State := { st [(R.LCS_STATE_STATE, 2)] with flash := { op0 := some {} } }
    let p := (0x10000000 : BitVec 32).toNat / 4 * 4
    s.dbg.op = none ∧ s.dbgMay p = true ∧ s.rst.asserted = false ∧ (s.capture.busRead .debug s.dbgSmem p 4 false).1 = .wait
    ∧ (aft (.dbgapRead true 0x10000000) s).dbgRetry.dbg.op ≠ none := by decide
theorem wit_dbg_field : let s := st [(R.LCS_STATE_STATE, 4)]
    s.lcState = 4 ∧ s.dbg.checking = false ∧ s.rst.asserted = false ∧ s.dbg.cert.length < 64 ∧ (st []).lcState ≠ 4 := by decide
theorem wit_dbg_submit : let s : State := { st [(R.LCS_STATE_STATE, 4)] with custody := { drbg := true } }
    s.lcState = 4 ∧ s.custody.drbg = true ∧ s.on 11 = true := by decide
theorem wit_dbg_check : let s : State := { st [] with dbg := { checking := true }, crerus := { alive := true } }
    s.dbg.checking = true ∧ s.crerus.alive = true ∧ s.certResult ≠ 1 ∧ s.certResult ≠ 7 := by decide
theorem wit_dbg_grant : let s : State := { st [(R.DBG_AUTH_GRANTED, 1), (R.DBG_STAT_HALTED, 4)] with
      dbg := { grantEnd := some 5 }, time := { rtc := 5 } }
    s.flag R.DBG_AUTH_GRANTED = true ∧ s.dbg.grantEnd = some 5 ∧ 5 ≤ s.time.rtc.toNat
    ∧ (s.dbg.op = none ∧ s.on 0 = true ∧ s.rst.asserted = false) ∧ s.bit R.DBG_STAT_HALTED (2 : Fin 3) = true := by decide
theorem wit_dbg_grant_early : let s : State := { st [] with dbg := { grantEnd := some 5 }, time := { rtc := 4 } }
    s.dbg.grantEnd = some 5 ∧ s.time.rtc.toNat < 5 := by decide

theorem wit_halt : let s := st [(R.LCS_STATE_STATE, 2), (R.PLY_STATUS_RESYNC, 1)]
    s.dbg.op = none ∧ s.on 0 = true ∧ s.rst.asserted = false ∧ s.dbgOpen = true ∧ (4 : Word).toNat.testBit (2 : Fin 3) = true
    ∧ s.bit R.DBG_STAT_HALTED (2 : Fin 3) = false ∧ s.eligible (2 : Fin 3) = false := by decide
theorem wit_halt_resume : let s := st [(R.LCS_STATE_STATE, 2), (R.DBG_STAT_HALTED, 4)]
    s.dbgOpen = true ∧ (0x40 : Word).toNat.testBit (4 + (2 : Fin 3).val) = true ∧ s.bit R.DBG_STAT_HALTED (2 : Fin 3) = true
    ∧ (0x400 : Word).toNat.testBit (8 + (2 : Fin 3).val) = true ∧ (0x400 : Word).toNat.testBit (4 + (2 : Fin 3).val) = false
    ∧ (0 : Word).toNat.testBit (2 : Fin 3) = false := by decide
theorem wit_halt_now : let s := run 2 { haltReq := some (15, 7) } [(R.PLY_MODE_CUR, 2)]
    (s.coreAt (2 : Fin 3)).haltReq = some (15, 7) ∧ s.eligible (2 : Fin 3) = true ∧ s.bit R.DBG_STAT_HALTED (2 : Fin 3) = false
    ∧ s.coreExists (2 : Fin 3) = true ∧ s.coreOn (2 : Fin 3) = true ∧ s.ply.fault = false
    ∧ (s.coreAt (2 : Fin 3)).run = .issuing ∧ 15 < 16 ∧ 7 < 8 ∧ s.haltLocked (2 : Fin 3) = false := by decide
theorem wit_halt_locked : let s := run 2 { haltReq := some (1, 0), locked := true } [(R.PLY_MODE_CUR, 2)]
    (s.coreAt (2 : Fin 3)).haltReq = some (1, 0) ∧ s.eligible (2 : Fin 3) = false ∧ s.haltLocked (2 : Fin 3) = true
    ∧ s.plyBusy = false ∧ (s.coreAt (2 : Fin 3)).mustWait = false
    ∧ s.inSealedCall (2 : Fin 3) = false ∧ s.bit R.DBG_STAT_HALTED (2 : Fin 3) = false := by decide
theorem wit_regdata : let s := st [(R.LCS_STATE_STATE, 2), (R.DBG_STAT_HALTED, 4), (R.DBG_REGSEL_CORE, 2), (R.DBG_REGSEL_NUM, 31)]
    s.dbg.op = none ∧ s.on 0 = true ∧ s.rst.asserted = false ∧ s.dbgOpen = true ∧ s.get R.DBG_REGSEL_CORE = (2 : Fin 3).val
    ∧ s.get R.DBG_REGSEL_KIND = 0 ∧ s.get R.DBG_REGSEL_NUM = (31 : Fin 32).val ∧ s.bit R.DBG_STAT_HALTED (2 : Fin 3) = true := by decide
theorem wit_regdata_running : let s := st [(R.LCS_STATE_STATE, 2), (R.DBG_REGSEL_CORE, 2), (R.DBG_REGSEL_NUM, 31)]
    s.dbgOpen = true ∧ s.get R.DBG_REGSEL_CORE = (2 : Fin 3).val ∧ s.get R.DBG_REGSEL_KIND = 0
    ∧ s.get R.DBG_REGSEL_NUM = (31 : Fin 32).val ∧ s.bit R.DBG_STAT_HALTED (2 : Fin 3) = false := by decide
theorem wit_burst : let s := st [(R.LCS_STATE_STATE, 2), (R.DBG_BURST_ADDR 0, 0x20000000)]
    let a := s.get (R.DBG_BURST_ADDR 0) / 4 * 4
    s.dbg.op = none ∧ s.on 0 = true ∧ s.rst.asserted = false ∧ s.dbgOpen = true ∧ (0x101 : Word).toNat.testBit 8 = true ∧ (0x101 : Word).toNat % 8 ≤ 1
    ∧ (((s.capture.set R.DBG_BURSTCTL_COUNT ((0x101 : Word).toNat % 8)).set R.DBG_BURSTCTL_DONE 0 |>.set R.DBG_BURSTCTL_ERR 0).busWrite
      .debug s.dbgSmem a 4 (s.get (R.DBG_BURST_DATA 0))).1 = .ok := by decide

theorem wit_thermal : let s := st []
    (120 : Int) ≤ 120 ∧ ((120 : Int) < 121 ∧ (121 : Int) ≤ 125) ∧ (125 : Int) < 126 ∧ s.health.hotAbove = false ∧ s.on 6 = true := by
  decide
theorem wit_thermal_threshold : let s := st [(R.HLT_THEXC, 15)]
    (if s.get R.HLT_THTHR = 0 then 16 else s.get R.HLT_THTHR) ≤ min 0xFFFF (s.get R.HLT_THEXC + 1) := by decide
theorem wit_advisory : let s : State := { st [] with crerus := { alive := true }, health := { owed := [10] } }
    s.crerus.alive = true ∧ s.health.owed ≠ [] ∧ s.on 6 = true ∧ s.bit R.HLT_BSVC (2 : Fin 3) = false := by decide
theorem wit_register_unused : (0x12FFC : BitVec 20).toNat / 0x1000 = 0x12 ∧ regFields (0x12FFC : BitVec 20).toNat = []
    ∧ (0x12FFC : BitVec 20) ≠ 0x12038 ∧ (st []).on 0 = true := by decide
theorem wit_register : 0x1E000 ≤ (0x1E000 : BitVec 20).toNat ∧ frameDomain (0x1DFFC : BitVec 20).toNat = some 0
    ∧ (st [(R.PWR_DOM 0, 0)]).on 0 = false ∧ (st []).on 6 = true := by decide

/-! ### The well-formedness checks -/

theorem test_wf_dma_sealed : (Instr.registerWrite { req := .dma, sealedW := true } 0 0).whoWf = false := by decide
theorem test_wf_crerus_sealed : (Instr.flashErase { req := .crerus, sealedW := true }).wf = false := by decide
theorem test_wf_debug_sealed : (Instr.lcRequest { req := .debug, sealedW := true } 1).wf = false := by decide
theorem test_wf_strand_sealed : (Instr.lcRequest { req := .strandA, sealedW := true } 1).wf = true := by decide
theorem test_wf_register_byte : (Instr.registerWrite q 0x10022 0).rowWf = false := by decide
theorem test_wf_register_word : (Instr.registerWrite q 0x10020 0).wf = true := by decide
theorem test_wf_gate_0 : (Instr.wgateUnassigned 0 0).rowWf = false := by decide
theorem test_wf_gate_1 : (Instr.wgateUnassigned 0 1).rowWf = false := by decide
theorem test_wf_gate_0x103F : (Instr.wgateUnassigned 0 0x103F).rowWf = false := by decide
theorem test_wf_gate_2 : (Instr.wgateUnassigned 0 2).wf = true := by decide

/-! ### Results worked out by hand from the rules -/

/-- Strand A with three registers set. -/
def abc (x y : Word) : State := run 0 { g := (((Vector.replicate 32 0).set 1 x).set 2 y) } []
/-- Register 3 of strand A after the command. -/
def r3 (i : Instr) (s : State) : Word := ((aft i s).coreAt 0).rd 3

theorem test_add_wraps : r3 (.add 0 3 1 2) (abc 0xFFFFFFFF 2) = 1 := by decide
theorem test_add_zero_register : ((aft (.add 0 0 1 2) (abc 1 2)).coreAt 0).rd 0 = 0 := by decide
theorem test_sub : r3 (.sub 0 3 1 2) (abc 3 5) = 0xFFFFFFFE := by decide
theorem test_slt_signed : r3 (.slt 0 3 1 2) (abc 0xFFFFFFFF 0) = 1 ∧ r3 (.sltu 0 3 1 2) (abc 0xFFFFFFFF 0) = 0 := by decide
theorem test_sra_sign : r3 (.sra 0 3 1 2) (abc 0x80000000 33) = 0xC0000000 := by decide
theorem test_addi_negative : r3 (.addi 0 3 1 0xFFFF) (abc 0 0) = 0xFFFFFFFF := by decide
theorem test_ori_zero_extends : r3 (.ori 0 3 1 0x8000) (abc 0 0) = 0x8000 := by decide
theorem test_lui : r3 (.lui 0 3 0x1234) (abc 0 0) = 0x12340000 := by decide
theorem test_div_by_zero : r3 (.div 0 3 1 2) (abc 7 0) = 0xFFFFFFFF ∧ r3 (.rem 0 3 1 2) (abc 7 0) = 7 := by decide
theorem test_div_truncates : r3 (.div 0 3 1 2) (abc 0xFFFFFFF9 2) = 0xFFFFFFFD ∧ r3 (.rem 0 3 1 2) (abc 0xFFFFFFF9 2) = 0xFFFFFFFF := by
  decide
theorem test_mulh : r3 (.mulh 0 3 1 2) (abc 0xFFFFFFFF 1) = 0xFFFFFFFF ∧ r3 (.mulhu 0 3 1 2) (abc 0xFFFFFFFF 2) = 1 := by decide
theorem test_sadd_saturates : r3 (.sadd 0 3 1 2) (abc 0x7FFFFFFF 1) = 0x7FFFFFFF ∧ r3 (.ssub 0 3 1 2) (abc 0x80000000 1) = 0x80000000 := by
  decide
theorem test_qmul_corner : r3 (.qmul 0 3 1 2) (abc 0x80000000 0x80000000) = 0x7FFFFFFF := by decide
theorem test_branch_taken : ((aft (.bne 0 1 2 0xFFFF) ((abc 1 2).updCore 0 fun k => { k with pc := 8 })).coreAt 0).pc = 4 := by decide
theorem test_call_links : ((aft (.call 0 1) (abc 0 0)).coreAt 0).rd 31 = 4 := by decide
theorem test_store_word : (aft (.stw 0 2 1 4) (abc 0 0x11223344)).byte (dtcmKey 0 4) = 0x44 := by decide
theorem test_load_byte_sign : ((aft (.ldb 0 3 1 0) (((abc 0 0).set R.PLY_MODE_CUR 2).wrBytes (dtcmKey 0 0) [0x80])).coreAt 0).rest 3 = 0xFFFFFF80 := by decide
theorem test_load_delay : r3 (.ldw 0 3 1 0) (((abc 0 0).set R.PLY_MODE_CUR 2).wrBytes (dtcmKey 0 0) [1]) = 0 := by decide

theorem test_output_set : (aft (.gpioOutputSet q 5) (st [(R.GPIO_OUT, 2)])).get R.GPIO_OUT = 7 := by decide
theorem test_output_clear : (aft (.gpioOutputClear q 5) (st [(R.GPIO_OUT, 7)])).get R.GPIO_OUT = 2 := by decide
theorem test_register_w1c : (aft (.registerWrite q 0x10048 1) (st [(R.EGV_STAT_CEIL, 1)])).get R.EGV_STAT_CEIL = 0 := by decide
theorem test_register_read_only : (aft (.registerWrite q 0x10030 9) (st [])).get R.EGV_EHI = 0 := by decide
theorem test_register_off : ((aft (.registerWrite q 0x10020 9) (st [(R.PWR_DOM 6, 0)])).resp.at 0).code = .absent := by decide
theorem test_register_waking : ((aft (.registerWrite q 0x10020 9) (st [(R.PWR_DOM 6, 2)])).resp.at 0).code = .retry := by decide
theorem test_fuse_ors : (aft (.fuseProgramDone 0) { st [] with fuse := Bank.put (st []).fuse 102 1, lc := { fuse := some (102, 6) } }).fuse.at 102 = 7 := by
  decide
theorem test_queue_submit_wraps : (aft (.queueSubmit 1) (st [(R.Q_SQHEAD, 63), (R.Q_SQTAIL, 63)])).get R.Q_SQTAIL = 1 := by decide
theorem test_uart_parity : (aft (.uartReceiveCharacter 1 false true)
    (ser {} [(R.UART0_CTRL_PARITY, 1)])).uart.rx = [(1, true, false)] := by decide
theorem test_stagger : let t := aft (.staggerLoad q 0 0x80000003) (st [(R.TMR_TOP 0, 9)])
    t.get (R.TMR_START 0) = 0 ∧ t.get (R.TMR_START 1) = 5 := by decide
/-- Worked case 6.1, step 4. -/
theorem test_stagger_commutation : let t := aft (.staggerLoad q 0 0x80000038) (st [(R.TMR_TOP 3, 312499)])
    t.get (R.TMR_START 3) = 0 ∧ t.get (R.TMR_START 4) = 208333 ∧ t.get (R.TMR_START 5) = 104166 := by decide
/-- Worked case 7.1, step 3: the slot offset of node 5, 1,382 26/32. -/
theorem test_slot_offset : ((aft (.warpSlotLoad q 0x80400005) (st [(R.WRP_SLOTPAIRS, 0x40), (R.PWM_PER 6, 48000)])).pwm.at 6).offSlot
    = 1382 * 32 + 26 := by decide
/-- Worked case 7.1, step 2: D_5 = 5 × 40,248 + S_5, with S_5 = 32.016 ns in units of 1/16 ps. -/
theorem test_node_delay : (aft (.warpCalResultFrame 0 40248 16) (mb [(R.WRP_ID_ID, 5)] { part := 32016 * 16 })).get R.WRP_DELAY = 713496 := by
  decide
/-- Worked case 17.1: 1.35 nJ and 0.825 nJ, in units of 0.1 nJ rounded up. -/
theorem test_mesh_energy : meshEnergy 1 1 11 = 14 ∧ meshEnergy 0 1 10 = 9 := by decide
theorem test_icu_evc : (aft (.icuSourceEvent 223) (st [(R.ICU_STS_EVC 223, 255)])).get (R.ICU_STS_EVC 223) = 255 := by decide

/-! ### The words of a strand, spelled from Tables 10.1 to 10.7 -/

theorem test_code_nop : utperRow 0 0x20000000 = some (.ori 0 0 0 0) := by decide
/-- ADD g3, g1, g2: 000001 00011 00001 00010 00000000000. -/
theorem test_code_add : utperRow 0 0b00000100011000010001000000000000 = some (.add 0 3 1 2) := by decide
/-- REMU g31, g1, g2: 000010 11111 00001 00010 00000000111. -/
theorem test_code_remu : utperRow 1 0b00001011111000010001000000000111 = some (.remu 1 31 1 2) := by decide
/-- SABS g3, g1: 000011 00011 00001 00000 00000000010, and rb must be 0. -/
theorem test_code_sabs : utperRow 0 0b00001100011000010000000000000010 = some (.sabs 0 3 1)
    ∧ utperRow 0 0b00001100011000010000100000000010 = none := by decide
/-- ADDI g3, g1, -1. -/
theorem test_code_addi : utperRow 0 0b00010000011000011111111111111111 = some (.addi 0 3 1 0xFFFF) := by decide
/-- STW g2, 4(g1): 011010 00010 00001 and disp16. -/
theorem test_code_stw : utperRow 2 0b01101000010000010000000000000100 = some (.stw 2 2 1 4) := by decide
/-- BNE g1, g2, -1: 100001 00001 00010 and off16. -/
theorem test_code_bne : utperRow 0 0b10000100001000101111111111111111 = some (.bne 0 1 2 0xFFFF) := by decide
/-- CALL 1: 101001 and off26. -/
theorem test_code_call : utperRow 0 0b10100100000000000000000000000001 = some (.call 0 1) := by decide
/-- CSRWR 0x013, g5: 110010, rd 0, ra 5, 0000 and the CSR number. -/
theorem test_code_csrwr : utperRow 0 0b11001000000001010000000000010011 = some (.csrwr 0 0x013 5) := by decide
/-- WGATE 0x1003: 110011, ten zeros and gate16. -/
theorem test_code_wgate : utperRow 0 0b11001100000000000001000000000011 = some (.wgateEntry 0 3) := by decide
/-- TLD t5, g4, 32(g7): 111000 101 00100 00111 000000000010 0. -/
theorem test_code_tld : utperRow 0 0b11100010100100001110000000000100 = some (.tld 0 5 4 7 2 0) := by decide
/-- TMACV x 1, y 2, row 3: 111100 001 010 0011 0 0000 00000000001. -/
theorem test_code_tmacv : utperRow 0 0b11110000101000110000000000000001 = some (.tmacv 0 1 2 3) := by decide
theorem test_code_unassigned : utperRow 0 0 = none ∧ utperRow 0 0xFC000000 = none
    ∧ utperRow 0 0b00000100011000010001000000000111 = none ∧ utperRow 0 0b11000000001000000000000000000000 = none := by decide

/-! ### The superframe (Tables 7.1 and 7.2) -/

/-- TIME at 1,024 with STEP: SYNC 0xD4, TYPE 1, SUB 1, and TB in PAYLOAD. -/
theorem test_superframe_time : (superframeOf (.time true 1024)).extractLsb' 16 80 = 0xD4210000000000000400 := by decide
theorem test_superframe_back : frameIn (superframeOf (.time true 1024)) = some (.time true 1024) := by decide
theorem test_superframe_sync : frameIn (superframeOf (.time true 1024) ^^^ 1 <<< 88) = none := by decide
theorem test_superframe_crc : frameIn (superframeOf (.time true 1024) ^^^ 1 <<< 20) = none := by decide
theorem witness_WarpFramesRoundTrip : ∀ sub node, (Frame.bypass 4 255) = .bypass sub node → sub.toNat < 5 := by
  intro sub node h; cases h; decide

/-! ### An idle pick of a timer -/

/-- Timer 3 counting. -/
def tm (k : Tmr) (rs : List (Fld × Nat)) : State := { st rs with tmr := Bank.put (st rs).tmr 3 { k with run := true } }

theorem witness_idle_prescale : (tm {} [(R.TMR_CTRL_PSC 3, 1)]).pending = [] ∧ ((tm {} [(R.TMR_CTRL_PSC 3, 1)]).tmr.at 3).run = true
    ∧ (tm {} [(R.TMR_CTRL_PSC 3, 1)]).tmrFrozen 3 = false
    ∧ ((tm {} [(R.TMR_CTRL_PSC 3, 1)]).tmr.at 3).psc < (tm {} [(R.TMR_CTRL_PSC 3, 1)]).get (R.TMR_CTRL_PSC 3) := by decide
theorem witness_idle_load : (tm { load := some 7 } []).tmrFrozen 3 = false ∧ ((tm { load := some 7 } []).tmr.at 3).load = some 7
    ∧ (tm { load := some 7 } []).get (R.TMR_CTRL_PSC 3) ≤ ((tm { load := some 7 } []).tmr.at 3).psc := by decide
theorem witness_idle_count : (tm { top := 9 } []).tmrFrozen 3 = false ∧ ((tm { top := 9 } []).tmr.at 3).load = none
    ∧ (tm { top := 9 } []).get (R.TMR_CNT 3) < ((tm { top := 9 } []).tmr.at 3).top := by decide
theorem witness_idle_top : (tm { top := 9 } [(R.TMR_CNT 3, 9)]).tmrFrozen 3 = false
    ∧ ((tm { top := 9 } [(R.TMR_CNT 3, 9)]).tmr.at 3).top ≤ (tm { top := 9 } [(R.TMR_CNT 3, 9)]).get (R.TMR_CNT 3) := by decide
theorem witness_idle_stopped : ((st []).tmr.at 3).run = false ∧ (st []).pending = [] := by decide

end Sys2Proof.Tests
end

section
/-!
PROOFS of the statements on the register bus and on the state before the first reset release (O59, O3), with the
rules they rest on: what a word does to the fields of the register it is written to, and what a lock violation and
the governor's flags leave unchanged.
-/

namespace Sys2Proof.Machine

/-! ### One field under its access code (R8, R427) -/

@[simp] theorem State.get_freeze (s : State) (f : Fld) (b : Bool) (g : Fld) : (s.freeze f b).get g = s.get g := by
  unfold State.freeze; split <;> rfl

theorem State.isFrozen_freeze_ne (s : State) {f g : Fld} (h : f ≠ g) (b : Bool) :
    (s.freeze f b).isFrozen g = s.isFrozen g := by
  unfold State.freeze; split
  · rfl
  · simp [State.isFrozen, h]

theorem State.get_writeFld_ne (s : State) (q : Who) (v : Nat) {f g : Fld} (h : f ≠ g) :
    (s.writeFld q v f).get g = s.get g := by
  cases e : f.acc <;> simp only [State.writeFld, e]
  case once => split <;> simp [State.get_set_ne s h]
  case lock => split <;> simp [State.get_set_ne s h]
  all_goals simp [State.get_set_ne s h]

theorem State.isFrozen_writeFld_ne (s : State) (q : Who) (v : Nat) {f g : Fld} (h : f ≠ g) :
    (s.writeFld q v f).isFrozen g = s.isFrozen g := by
  cases e : f.acc <;> simp only [State.writeFld, e]
  case once =>
    split
    · rfl
    · exact State.isFrozen_freeze_ne _ h _
  case lock => split <;> rfl
  all_goals rfl

theorem State.get_writeFld_rw (s : State) (q : Who) (v : Nat) {f : Fld} (h : f.acc = .rw) :
    (s.writeFld q v f).get f = v / 2 ^ f.lo % 2 ^ f.w := by
  simp [State.writeFld, h, presented]

theorem State.get_writeFld_ro (s : State) (q : Who) (v : Nat) {f : Fld} (h : f.acc = .ro) :
    (s.writeFld q v f).get f = s.get f := by
  simp [State.writeFld, h]

theorem State.get_writeFld_once (s : State) (q : Who) (v : Nat) {f : Fld} (h : f.acc = .once) :
    (s.writeFld q v f).get f = if s.isFrozen f then s.get f else v / 2 ^ f.lo % 2 ^ f.w := by
  simp only [State.writeFld, h]
  split <;> simp [presented]

/-- A flag of one bit written with 1 is cleared, and written with 0 stays. -/
theorem State.get_writeFld_w1c (s : State) (q : Who) (v : Nat) {f : Fld} (h : f.acc = .w1c) (hw : f.w = 1) :
    (s.writeFld q v f).get f = if v.testBit f.lo then 0 else s.get f % 2 := by
  have hb : presented v f = if v.testBit f.lo then 1 else 0 := by
    rw [presented, hw, pow_one, ← Nat.toNat_testBit]
    cases v.testBit f.lo <;> rfl
  simp only [State.writeFld, h, State.get_set, hw, hb]
  split <;> simp

/-- What a word makes of a field rests on the field and its freeze alone, except under the access code LOCK. -/
theorem State.get_writeFld_congr {s t : State} (q : Who) (v : Nat) {f : Fld} (hl : f.acc ≠ .lock)
    (hg : t.get f = s.get f) (hz : t.isFrozen f = s.isFrozen f) :
    (t.writeFld q v f).get f = (s.writeFld q v f).get f := by
  cases h : f.acc
  case once => rw [State.get_writeFld_once t q v h, State.get_writeFld_once s q v h, hg, hz]
  case lock => exact absurd h hl
  all_goals simp [State.writeFld, h, hg]

/-! ### The fields of one register -/

theorem State.get_foldl_writeFld_of_not_mem (q : Who) (v : Nat) {f : Fld} :
    ∀ (fs : List Fld) (s : State), f ∉ fs → (fs.foldl (fun s f => s.writeFld q v f) s).get f = s.get f
  | [], _, _ => rfl
  | g :: fs, s, h => by
    obtain ⟨hg, hfs⟩ := not_or.mp (mt List.mem_cons.mpr h)
    exact (State.get_foldl_writeFld_of_not_mem q v fs _ hfs).trans (State.get_writeFld_ne s q v (Ne.symm hg))

/-- Each field of a register takes its own bits of the word: the other fields do not reach it. -/
theorem State.get_foldl_writeFld (q : Who) (v : Nat) {f : Fld} (hl : f.acc ≠ .lock) :
    ∀ (fs : List Fld) (s : State), fs.Nodup → f ∈ fs →
      (fs.foldl (fun s f => s.writeFld q v f) s).get f = (s.writeFld q v f).get f
  | [], _, _, h => absurd h List.not_mem_nil
  | g :: fs, s, hn, h => by
    obtain ⟨hg, hn⟩ := List.nodup_cons.mp hn
    by_cases e : g = f
    · subst e
      exact State.get_foldl_writeFld_of_not_mem q v fs _ hg
    · have hm : f ∈ fs := (List.mem_cons.mp h).resolve_left (Ne.symm e)
      exact (State.get_foldl_writeFld q v hl fs _ hn hm).trans
        (State.get_writeFld_congr q v hl (State.get_writeFld_ne s q v e) (State.isFrozen_writeFld_ne s q v e))

/-! ### What a lock violation and the governor's flags leave unchanged -/

/-- An event changes no field of a frame above the ICU's (R251, Table 1.4). -/
theorem State.get_raise_above (s : State) {n : Nat} (hn : n < 224) {f : Fld} (h : 0x5000 ≤ f.addr) :
    (s.raise n).get f = s.get f := by
  refine State.get_raise_ne s n ?_
  rintro (rfl | rfl) <;> simp only [R.ICU_STS_PEND, R.ICU_STS_EVC] at h <;> omega

/-- A lock violation is noted in the frames SYS and ICU alone (R427). -/
theorem State.get_lockViolation_above (s : State) (q : Who) (space a : Nat) {f : Fld} (h : 0x5000 ≤ f.addr) :
    (s.lockViolation q space a).get f = s.get f := by
  have below : ∀ {g : Fld}, g.addr < 0x5000 → g ≠ f := by
    rintro g hg rfl
    omega
  have counted : (s.countViolation q space a).get f = s.get f := by
    have hc : (s.inc R.SYS_LOCKVIOL).get f = s.get f := State.get_inc_ne s (below (by decide))
    unfold State.countViolation
    refine (State.get_raise_above _ (by decide) h).trans ?_
    split
    · exact (State.get_setB_ne _ (below (by decide)) _).trans
        ((State.get_set_ne _ (below (by decide)) _).trans
          ((State.get_set_ne _ (below (by decide)) _).trans
            ((State.get_set_ne _ (below (by decide)) _).trans hc)))
    · exact hc
  unfold State.lockViolation
  dsimp only
  split <;> exact counted

@[simp] theorem State.get_journal (s : State) (r : Nat) (l : List Nat) (f : Fld) :
    (s.journal r l).get f = s.get f := rfl

/-- A word written to a register above SYS and ICU acts on each of its fields as on that field alone. -/
theorem State.get_writeReg (s : State) (q : Who) (a v : Nat) {f : Fld} (hl : f.acc ≠ .lock) (ha : 0x5000 ≤ f.addr)
    (hn : (regFields a).Nodup) (hf : f ∈ regFields a) :
    (s.writeReg q a v).get f = (s.writeFld q v f).get f := by
  have h := State.get_foldl_writeFld q v hl (regFields a) s hn hf
  unfold State.writeReg
  dsimp only
  split
  · split
    · exact (State.get_journal ..).trans ((State.get_lockViolation_above _ q 0 a ha).trans h)
    · exact (State.get_lockViolation_above _ q 0 a ha).trans h
  · exact h

/-- An address with no register ignores a write (R10). -/
theorem State.writeReg_of_no_fields (s : State) (q : Who) {a : Nat} (v : Nat) (h : regFields a = []) :
    s.writeReg q a v = s := by
  simp [State.writeReg, h, State.violates]

/-- The fields that follow the governor's registers (R103, R115). -/
def judgedFields : List Fld := [R.EGV_STAT_LVLERR, R.EGV_STAT_LQ, R.EGV_STAT_LQDROP, R.EGV_LQCNT]

theorem State.get_energyLook_governor (s : State) {f : Fld} (h : f.pd = 6) : s.energyLook.get f = s.get f :=
  (State.energyLook_moves s).same (.pd 6) (by decide) f h

/-- Judging the governor's flags changes no other field of PD6 above the ICU. -/
theorem State.get_govJudge (s : State) {f : Fld} (hd : f.pd = 6) (ha : 0x5000 ≤ f.addr) (h : f ∉ judgedFields) :
    s.govJudge.get f = s.get f := by
  have other : ∀ {g : Fld}, g ∈ judgedFields → g ≠ f := by
    rintro g hg rfl
    exact h hg
  have leveled : s.levelErr.get f = s.get f := State.get_setB_ne s (other (by decide)) _
  refine Eq.trans ?_ leveled
  unfold State.govJudge State.quality
  refine (State.get_energyLook_governor _ hd).trans ?_
  split
  · exact (State.get_journal ..).trans ((State.get_inc_ne _ (other (by decide))).trans
      ((State.get_raise_above _ (by decide) ha).trans
        ((State.get_set_ne _ (other (by decide)) _).trans (State.get_setB_ne _ (other (by decide)) _))))
  · exact State.get_setB_ne _ (other (by decide)) _

/-! ### REGISTER_WRITE (R8, R10, R14, R477) -/

theorem exec_registerWrite (q : Who) (a : BitVec 20) (v : Word) (s : State) :
    exec (.registerWrite q a v) s = .next (s.ioWrite q a.toNat v.toNat) := rfl

/-- No domain answers above the last frame (Table 1.4). -/
theorem frameDomain_above {a : Nat} (h : 0x1E000 ≤ a) : frameDomain a = none := by
  have : 0x1E ≤ a / 0x1000 := by omega
  unfold frameDomain
  split
  case h_31 => rfl
  all_goals omega

theorem State.ioWrite_above (s : State) (q : Who) {a : Nat} (v : Nat) (h : 0x1E000 ≤ a) :
    s.ioWrite q a v = s.reply q.req .busErr 0 := by
  simp only [State.ioWrite, frameDomain_above h]

theorem State.ioWrite_off (s : State) (q : Who) {a d : Nat} (v : Nat) (h : frameDomain a = some d)
    (hd : s.on d = false) : s.ioWrite q a v = s.reply q.req (s.offCode d) 0 := by
  simp [State.ioWrite, h, State.via, hd]

theorem State.ioWrite_on (s : State) (q : Who) {a d : Nat} (v : Nat) (h : frameDomain a = some d)
    (hd : s.on d = true) : s.ioWrite q a v = (s.reply q.req .ok 0).ioPut q a v := by
  simp [State.ioWrite, h, State.via, hd]

/-- In the frame of PD0 at 0x1_2000 an address with no register is answered and ignored. -/
theorem State.ioWrite_unused (s : State) (q : Who) {a : Nat} (v : Nat) (ha : a / 0x1000 = 0x12)
    (h : regFields a = []) (hk : a ≠ 0x12038) (hd : s.on 0 = true) :
    s.ioWrite q a v = s.reply q.req .ok 0 := by
  rw [State.ioWrite_on s q v (d := 0) (by simp [frameDomain, ha]) hd]
  simp [State.ioPut, frameIgnores, ha, hk, State.writeReg_of_no_fields _ q v h]

/-- In the governor's frame a field takes a word as its access code says. -/
theorem State.get_ioWrite_governor (s : State) (q : Who) (v : Nat) {f : Fld} (hl : f.acc ≠ .lock)
    (ha : f.addr / 0x1000 = 0x10) (hp : f.pd = 6) (hj : f ∉ judgedFields) (hn : (regFields f.addr).Nodup)
    (hf : f ∈ regFields f.addr) (hd : s.on 6 = true) :
    (s.ioWrite q f.addr v).get f = (s.writeFld q v f).get f := by
  have above : 0x5000 ≤ f.addr := by omega
  rw [State.ioWrite_on s q v (d := 6) (by simp [frameDomain, ha]) hd]
  have put : (s.reply q.req .ok 0).ioPut q f.addr v = ((s.reply q.req .ok 0).writeReg q f.addr v).govJudge := by
    simp [State.ioPut, frameIgnores, ha]
  rw [put, State.get_govJudge _ hp above hj, State.get_writeReg _ q f.addr v hl above hn hf]
  exact State.get_writeFld_congr q v hl rfl rfl

/-- The fields of the governor's frame on which the access codes are shown. -/
def shownFields : List Fld :=
  [R.EGV_ECEIL, R.EGV_RLIM, R.EGV_CMCFG_CMSLOT, R.EGV_LVLCFG_TAUSEL, R.EGV_FCAP, R.EGV_EHI,
    R.EGV_STAT_CEIL, R.EGV_STAT_CMDONE, R.EGV_CFG_CHLANE, R.EGV_CHGMAP]

theorem shownFields_in_map : ∀ f ∈ shownFields, (regFields f.addr).Nodup ∧ f ∈ regFields f.addr := by decide

theorem shownFields_governor : ∀ f ∈ shownFields,
    f.addr / 0x1000 = 0x10 ∧ f.addr < 2 ^ 20 ∧ f.pd = 6 ∧ f ∉ judgedFields
      ∧ (f.acc = .rw ∨ f.acc = .w1c ∨ f.acc = .once ∨ f.acc = .ro) ∧ (f.acc = .w1c → f.w = 1) := by decide

theorem registerWrite_shown (q : Who) (v : Word) (s : State) {f : Fld} (hf : f ∈ shownFields) (hd : s.on 6 = true) :
    ∃ t, exec (.registerWrite q (BitVec.ofNat 20 f.addr) v) s = .next t
      ∧ t.get f = (s.writeFld q v.toNat f).get f := by
  obtain ⟨hframe, hlt, hpd, hjudged, hacc, -⟩ := shownFields_governor f hf
  obtain ⟨hnodup, hmem⟩ := shownFields_in_map f hf
  have hl : f.acc ≠ .lock := fun e => by simp [e] at hacc
  refine ⟨_, exec_registerWrite .., ?_⟩
  rw [BitVec.toNat_ofNat, Nat.mod_eq_of_lt hlt]
  exact State.get_ioWrite_governor s q v.toNat hl hframe hpd hjudged hnodup hmem hd

/-- Settles O59: the bus answers by the frame and its domain, and a written field follows its access code. -/
theorem registerWrites : Obligations.RegisterWrites := by
  unfold Obligations.RegisterWrites
  refine ⟨fun q a v s h => ?_, fun q a v d s h hd => ?_, fun q a v s ha h hk hd => ?_, fun f hf q v s hd => ?_⟩
  · rw [exec_registerWrite, State.ioWrite_above s q _ h]
  · rw [exec_registerWrite, State.ioWrite_off s q _ h hd, State.offCode]
  · have hk' : a.toNat ≠ 0x12038 := fun e => hk (BitVec.eq_of_toNat_eq e)
    rw [exec_registerWrite, State.ioWrite_unused s q _ ha h hk' hd]
  · obtain ⟨t, ht, hget⟩ := registerWrite_shown q v s hf hd
    obtain ⟨-, -, -, -, hacc, hbit⟩ := shownFields_governor f hf
    refine ⟨t, ht, hget.trans ?_⟩
    rcases hacc with e | e | e | e
    · rw [State.get_writeFld_rw s q _ e, e]
    · rw [State.get_writeFld_w1c s q _ e (hbit e), e]
    · rw [State.get_writeFld_once s q _ e, e]
    · rw [State.get_writeFld_ro s q _ e, e]

/-! ### The state before the first reset release (R11, R499, R500) -/

/-- Before the first reset release a field other than the bypass flag and the state of PD0 is at its reset value. -/
theorem reset_get {f : Fld} (hb : R.WRP_STAT_BYPASS ≠ f) (hp : R.PWR_DOM 0 ≠ f) :
    State.reset.get f = f.rst.value := by
  refine (Regs.get_set_of_ne _ hb 1).trans ?_
  simp [Regs.get, hp]

theorem reset_get_bypass : State.reset.get R.WRP_STAT_BYPASS = 1 := Regs.get_set ..

/-- PD0 alone is ON. -/
theorem reset_get_domain : ∀ d : Fin 12, State.reset.get (R.PWR_DOM d) = if d = 0 then 3 else 0 := by decide

/-- Settles O3: the store of the state before the first reset release lists the bypass flag and PD0 alone. -/
theorem resetState : Obligations.ResetState := by
  unfold Obligations.ResetState
  refine ⟨rfl, rfl, rfl, rfl, fun f n hv hb => ?_, reset_get_bypass, reset_get_domain⟩
  have hp : R.PWR_DOM 0 ≠ f := by
    rintro rfl
    simp [R.PWR_DOM] at hv
  rw [reset_get hb.symm hp, hv, Rst.value]

end Sys2Proof.Machine
end

section
/-!
PROOFS. Rules for one register field, for the banks of like blocks and for frames, which the statements on the sample
path (chapter 02) rest on: what an update leaves in its own field and in every other. That two fields differ is decided by
computation, also for registers of any index.
-/

namespace Sys2Proof.Machine

/-! ### Fields told apart (R8) -/

/-- Two fields differ in their places within the word, widths, domains, access codes or addresses. The addresses come
last, so that two fields of registers of any index are told apart by computation where another part of them already
differs. -/
def Fld.apart (f g : Fld) : Bool :=
  f.lo != g.lo || f.w != g.w || f.pd != g.pd || f.acc != g.acc || f.addr != g.addr

theorem Fld.ne_of_apart {f g : Fld} (h : f.apart g = true) : f ≠ g := by
  rintro rfl
  simp [Fld.apart] at h

@[simp] theorem State.get_set_apart (s : State) {f g : Fld} (h : f.apart g = true) (v : Nat) :
    (s.set f v).get g = s.get g := State.get_set_ne s (Fld.ne_of_apart h) v

@[simp] theorem State.get_setB_apart (s : State) {f g : Fld} (h : f.apart g = true) (b : Bool) :
    (s.setB f b).get g = s.get g := State.get_set_apart s h _

@[simp] theorem State.get_sets_apart (s : State) {f g : Fld} (h : f.apart g = true) (x : Int) :
    (s.sets f x).get g = s.get g := State.get_set_apart s h _

@[simp] theorem State.get_inc_apart (s : State) {f g : Fld} (h : f.apart g = true) :
    (s.inc f).get g = s.get g := State.get_set_apart s h _

@[simp] theorem State.get_setBit_apart (s : State) {f g : Fld} (h : f.apart g = true) (i : Nat) :
    (s.setBit f i).get g = s.get g := State.get_set_apart s h _

@[simp] theorem State.get_clrBit_apart (s : State) {f g : Fld} (h : f.apart g = true) (i : Nat) :
    (s.clrBit f i).get g = s.get g := State.get_set_apart s h _

/-! ### What an update leaves in its own field (R4, R5) -/

theorem State.get_set_of_lt (s : State) {f : Fld} {v : Nat} (h : v < 2 ^ f.w) : (s.set f v).get f = v := by
  rw [State.get_set, Nat.mod_eq_of_lt h]

theorem State.get_setB_bit (s : State) {f : Fld} (hw : f.w = 1) (b : Bool) : (s.setB f b).get f = b2n b := by
  cases b <;> simp [hw, b2n]

theorem ux_lt (n : Nat) (x : Int) : ux n x < 2 ^ n := by
  have hpos : 0 < 2 ^ n := Nat.two_pow_pos n
  unfold ux
  omega

theorem State.flag_setB (s : State) {f : Fld} (hw : f.w = 1) (b : Bool) : (s.setB f b).flag f = b := by
  cases b <;> simp [State.flag, hw, b2n]

/-- A counter counts up to all ones and stays there. -/
theorem State.get_inc (s : State) (f : Fld) : (s.inc f).get f = min (2 ^ f.w - 1) (s.get f + 1) := by
  have hpos : 0 < 2 ^ f.w := Nat.two_pow_pos _
  rw [State.inc, State.get_set, satN]
  split
  · rw [Nat.mod_eq_of_lt (by omega), min_eq_left (by omega)]
  · rw [Nat.mod_eq_of_lt (by omega), min_eq_right (by omega)]

theorem State.bit_setBit (s : State) {f : Fld} {i : Nat} (h : i < f.w) : (s.setBit f i).bit f i = true := by
  simp [State.bit, State.setBit, Nat.testBit_mod_two_pow, h]

theorem State.bit_clrBit (s : State) {f : Fld} {i : Nat} (h : i < f.w) : (s.clrBit f i).bit f i = false := by
  simp [State.bit, State.clrBit, Nat.testBit_mod_two_pow, Nat.testBit_two_pow_sub_one, h]

/-- The signed reading of a pattern is the number it was made of, where the field can hold it. -/
theorem sx_ux {n : Nat} {x : Int} (hn : 0 < n) (lo : -(2 ^ (n - 1) : Nat) ≤ x) (hi : x < (2 ^ (n - 1) : Nat)) :
    sx n (ux n x % 2 ^ n) = x := by
  have hp : 2 ^ n = 2 * 2 ^ (n - 1) := by rw [← pow_succ', Nat.sub_add_cancel hn]
  have hpos : 0 < 2 ^ (n - 1) := Nat.two_pow_pos _
  unfold sx ux
  rw [Nat.mod_mod, hp]
  generalize 2 ^ (n - 1) = m at *
  rcases lt_or_ge x 0 with h | h
  · have e : x % (2 * m : Nat) = x + (2 * m : Nat) := by
      rw [← Int.add_emod_right, Int.emod_eq_of_lt (by omega) (by omega)]
    rw [e, Nat.mod_eq_of_lt (by omega), if_pos (by omega)]
    omega
  · rw [Int.emod_eq_of_lt h (by omega), Nat.mod_eq_of_lt (by omega), if_neg (by omega)]
    omega

theorem State.gets_sets (s : State) {f : Fld} {x : Int} (hw : 0 < f.w) (lo : -(2 ^ (f.w - 1) : Nat) ≤ x)
    (hi : x < (2 ^ (f.w - 1) : Nat)) : (s.sets f x).gets f = x := by
  rw [State.gets, State.sets, State.get_set, sx_ux hw lo hi]

theorem satS_bounds (n : Nat) (x : Int) : -(2 ^ (n - 1) : Nat) ≤ satS n x ∧ satS n x < (2 ^ (n - 1) : Nat) := by
  have hpos : 0 < 2 ^ (n - 1) := Nat.two_pow_pos _
  unfold satS satI
  generalize 2 ^ (n - 1) = m at *
  split
  · omega
  · split <;> omega

/-- A field that takes a saturated number reads as that number. -/
theorem State.gets_sets_satS (s : State) {f : Fld} (hw : 0 < f.w) (x : Int) :
    (s.sets f (satS f.w x)).gets f = satS f.w x :=
  State.gets_sets s hw (satS_bounds ..).1 (satS_bounds ..).2

/-! ### Events, flags and causes (R250, R251, R572) -/

@[simp] theorem State.get_raise_apart (s : State) (n : Nat) {f : Fld} (h : f.pd ≠ 6) :
    (s.raise n).get f = s.get f := State.get_raise_pd s n h

@[simp] theorem State.get_raiseIf_apart (s : State) (b : Bool) (n : Nat) {f : Fld} (h : f.pd ≠ 6) :
    (s.raiseIf b n).get f = s.get f := by
  unfold State.raiseIf
  split
  · exact State.get_raise_apart s n h
  · rfl

/-- An event makes its source pending while PD6 is ON, whatever its enable (R251). -/
theorem State.get_raise_pend (s : State) {n : Nat} (hn : n < 224) (h0 : n ≠ 190) (h1 : n ≠ 191)
    (h : s.on 6 = true) : (s.raise n).get (R.ICU_STS_PEND n) = 1 := by
  have hon : s.get (R.PWR_DOM 6) = 3 := by simpa [State.on] using h
  have hp : ((s.set (R.ICU_STS_PEND n) 1).inc (R.ICU_STS_EVC n)).get (R.ICU_STS_PEND n) = 1 := by
    rw [State.get_inc_apart _ rfl, State.get_set]
    rfl
  unfold State.raise
  rw [if_neg (by omega), if_pos (by omega)]
  dsimp only
  split <;> exact hp

@[simp] theorem State.get_flagRise_apart (s : State) {f g : Fld} (h : f.apart g = true) (hg : g.pd ≠ 6)
    (n : Nat) : (s.flagRise f n).get g = s.get g := by
  unfold State.flagRise
  split
  · rw [State.get_raise_apart _ n hg, State.get_set_apart s h]
  · rfl

/-- An event flag that is raised is set, whether or not it was. -/
theorem State.flag_flagRise (s : State) {f : Fld} (hw : f.w = 1) (hf : f.pd ≠ 6) (n : Nat) :
    (s.flagRise f n).flag f = true := by
  unfold State.flagRise State.flag
  split
  · rw [State.get_raise_apart _ n hf, State.get_set, hw]
    rfl
  · simpa

@[simp] theorem State.flagRise_rfm (s : State) (f : Fld) (n : Nat) : (s.flagRise f n).rfm = s.rfm := by
  unfold State.flagRise
  split
  · exact State.raise_rfm ..
  · rfl

/-- A cause of the advisory changes the registers of PD0 alone (R574). -/
@[simp] theorem State.get_advise_apart (s : State) (b : Nat) {f : Fld} (h : f.pd ≠ 0) :
    (s.advise b).get f = s.get f := by
  have outside : ∀ {g : Fld}, g.pd = 0 → g ≠ f := by
    rintro g hg rfl
    exact h hg
  have hc : (s.setBit R.HLT_CAUSE b).get f = s.get f := State.get_setBit_ne s (outside rfl) b
  unfold State.advise
  split
  · rfl
  · dsimp only
    split
    · exact hc
    · exact (State.get_set_ne _ (outside rfl) 1).trans hc

@[simp] theorem State.advise_rfm (s : State) (b : Nat) : (s.advise b).rfm = s.rfm :=
  (State.advise_moves s b).same .rfm (by decide)

@[simp] theorem State.advise_time (s : State) (b : Nat) : (s.advise b).time = s.time :=
  (State.advise_moves s b).same .time (by decide)

@[simp] theorem State.advise_adc (s : State) (b : Nat) : (s.advise b).adc = s.adc :=
  (State.advise_moves s b).same .adc (by decide)

/-- The cause of an advisory is set, whether or not it was (R574). -/
theorem State.bit_advise (s : State) {b : Nat} (hb : b < 11) : (s.advise b).bit R.HLT_CAUSE b = true := by
  have h := State.bit_setBit s (f := R.HLT_CAUSE) hb
  unfold State.advise
  split
  · assumption
  · dsimp only
    split
    · exact h
    · exact (congrArg (·.testBit b) (State.get_set_apart _ (f := R.HLT_STAT_SVCREQ) rfl 1)).trans h

/-! ### Registers whose fields are all RW (R8, R427) -/

/-- A word written to a register whose fields are all RW gives each its bits, and violates no lock. -/
theorem State.writeReg_rw (s : State) (q : Who) {a : Nat} (v : Nat) (h : ∀ f ∈ regFields a, f.acc = .rw) :
    s.writeReg q a v = (regFields a).foldl (fun s f => s.set f (presented v f)) s := by
  have unfrozen : ∀ f ∈ regFields a, s.frozenTo f = false := fun f hf => by simp [State.frozenTo, h f hf]
  have lawful : s.violates v (regFields a) = false := by
    unfold State.violates
    split
    · simpa using fun f hf e => absurd e (by simp [unfrozen f hf])
    · simpa using unfrozen
  have fields : ∀ (fs : List Fld) (s : State), (∀ f ∈ fs, f.acc = .rw) →
      fs.foldl (fun s f => s.writeFld q v f) s = fs.foldl (fun s f => s.set f (presented v f)) s := by
    intro fs
    induction fs with
    | nil => exact fun _ _ => rfl
    | cons f fs ih =>
      intro s hs
      obtain ⟨hf, hfs⟩ := List.forall_mem_cons.mp hs
      rw [List.foldl_cons, List.foldl_cons, ih _ hfs, State.writeFld, hf]
  unfold State.writeReg
  simp only [lawful, Bool.false_eq_true, if_false]
  exact fields _ s h

/-- A field of one bit takes its bit of the word. -/
theorem State.flag_set_presented (s : State) {f : Fld} (hw : f.w = 1) (v : Nat) :
    (s.set f (presented v f)).flag f = v.testBit f.lo := by
  rw [State.flag, State.get_set, presented, hw, pow_one, Nat.mod_mod, ← Nat.toNat_testBit]
  cases v.testBit f.lo <;> rfl

/-! ### Accesses to a domain that is ON (R14, R477) -/

theorem State.via_on (s : State) (q : Req) {d : Nat} (f : State → State) (h : s.on d = true) :
    s.via q d f = f (s.reply q .ok 0) := by
  rw [State.via, if_pos h]

/-! ### Banks of like blocks -/

theorem Bank.at_put {α : Type} {n : Nat} [Inhabited α] (b : Bank α n) {i : Nat} (h : i < n) (x : α) :
    (b.put i x).at i = x := by
  simp [Bank.at, Bank.put, Vector.getD, h]

theorem Bank.at_put_ne {α : Type} {n : Nat} [Inhabited α] (b : Bank α n) {i j : Nat} (h : i ≠ j) (x : α) :
    (b.put i x).at j = b.at j := by
  simp [Bank.at, Bank.put, Vector.getD, h]

theorem Bank.at_upd {α : Type} {n : Nat} [Inhabited α] (b : Bank α n) {i : Nat} (h : i < n) (f : α → α) :
    (b.upd i f).at i = f (b.at i) := Bank.at_put b h _

theorem reqIdx_lt (q : Req) : reqIdx q < 6 := by cases q <;> decide

theorem State.resp_reply (s : State) (q : Req) (c : RespCode) (d : Nat) :
    (s.reply q c d).resp.at (reqIdx q) = { code := c, data := d } := Bank.at_put _ (reqIdx_lt q) _

/-! ### Frames -/

/-- The set of the parts that `L` lists. -/
def partsOf (L : List Part) : Nat := L.foldr (fun p n => 2 ^ p.idx ||| n) 0

theorem testBit_partsOf {L : List Part} {i : Nat} (h : ∀ q ∈ L, q.idx ≠ i) : (partsOf L).testBit i = false := by
  induction L with
  | nil => exact Nat.zero_testBit i
  | cons p L ih =>
    obtain ⟨hp, hL⟩ := List.forall_mem_cons.mp h
    have hL' := ih hL
    simp only [partsOf, List.foldr_cons, Nat.testBit_or, Nat.testBit_two_pow] at hL' ⊢
    simp [hp, hL']

/-- What an operation may change, as the frame of a statement. -/
theorem Moves.onlyIn {K : Nat} {s t : State} (L : List Part) (h : Moves K s t) (e : K ||| partsOf L = partsOf L) :
    OnlyIn L s t :=
  ⟨h.pending, fun p hp => (h.mono e).same p (testBit_partsOf hp)⟩

theorem RegsOnly.refl (P : Fld → Prop) (s : State) : RegsOnly P s s := fun _ _ => rfl

theorem RegsOnly.trans {P : Fld → Prop} {s t u : State} (h : RegsOnly P s t) (k : RegsOnly P t u) : RegsOnly P s u :=
  fun f hf => (k f hf).trans (h f hf)

theorem RegsOnly.set {P : Fld → Prop} {s t : State} (h : RegsOnly P s t) {f : Fld} (hf : P f) (v : Nat) :
    RegsOnly P s (t.set f v) :=
  h.trans fun g hg => State.get_set_ne t (by rintro rfl; exact hg hf) v

theorem RegsOnly.of_set (s : State) (f : Fld) (v : Nat) : RegsOnly (fun g => g = f) s (s.set f v) :=
  fun _ hg => State.get_set_ne s (Ne.symm hg) v

theorem RegsOnly.raise {P : Fld → Prop} {s t : State} (h : RegsOnly P s t) {n : Nat}
    (hn : ∀ f : Fld, f.ofSource n → P f) : RegsOnly P s (t.raise n) :=
  h.trans fun f hf => State.get_raise_ne t n fun e => hf (hn f e)

end Sys2Proof.Machine
end

section
/-!
PROOFS of the statement on the ADC (O19): the triggers and apertures of the slots, the delivery of a result and its
code, and the read of a result (R23 to R27, R44).
-/

namespace Sys2Proof.Machine

/-! ### Triggers and apertures (R24, R25, R44) -/

/-- The slots SWSTART names are triggered in ascending order once the write and its effects on lanes are done. -/
theorem exec_adcSoftwareStart (q : Who) (i : Fin 8) (v : Word) (s : State) (h : s.on 7 = true) :
    exec (.adcSoftwareStart q i v) s = .next ((List.range 4).foldl
      (fun u m => if v.toNat.testBit (8 + m) then u.adcTrigger i m else u)
      ((fireAll ((s.reply q.req .ok 0).writeReg q (0xD000 + 0x100 * i.val) v.toNat).missCheck).set
        (R.ADC_CTRL_SWSTART i) 0)) := by
  have hbit (m : Nat) : (v.toNat / 256).testBit m = v.toNat.testBit (8 + m) := by
    rw [Nat.add_comm, ← Nat.testBit_div_two_pow]
  change Host.Outcome.next (s.via q.req 7 fun s => s.writeAdcCtrl q i v.toNat) = _
  simp only [State.via_on s _ _ h, State.writeAdcCtrl, hbit]

theorem State.adcTrigger_free (s : State) {i m : Nat} (h : s.on 7 = true) (he : s.flag (R.ADC_CTRL_EN i) = true)
    (hp : s.bit (R.ADC_STAT_PEND i) m = false) : s.adcTrigger i m = s.setBit (R.ADC_STAT_PEND i) m := by
  simp [State.adcTrigger, h, he, hp]

theorem State.adcTrigger_pending (s : State) {i m : Nat} (h : s.on 7 = true) (he : s.flag (R.ADC_CTRL_EN i) = true)
    (hp : s.bit (R.ADC_STAT_PEND i) m = true) : s.adcTrigger i m =
      ((s.setBit (R.ADC_STAT_OVR i) m).inc (R.ADC_OVRCNT i)).raiseIf (s.flag (R.ADC_CTRL_OVRIE i)) (64 + i) := by
  simp [State.adcTrigger, h, he, hp]

theorem State.adcTrigger_overrun (s : State) {i m : Nat} (hm : m < 4) (h : s.on 7 = true)
    (he : s.flag (R.ADC_CTRL_EN i) = true) (hp : s.bit (R.ADC_STAT_PEND i) m = true) :
    (s.adcTrigger i m).bit (R.ADC_STAT_OVR i) m = true
      ∧ (s.adcTrigger i m).get (R.ADC_OVRCNT i) = min 0xFFFF (s.get (R.ADC_OVRCNT i) + 1) := by
  rw [State.adcTrigger_pending s h he hp]
  constructor
  · rw [State.bit, State.get_raiseIf_apart _ _ _ (of_decide_eq_true rfl), State.get_inc_apart _ rfl]
    exact State.bit_setBit s hm
  · rw [State.get_raiseIf_apart _ _ _ (of_decide_eq_true rfl), State.get_inc, State.get_setBit_apart _ rfl]
    rfl

/-- The slot served next is the lowest that is pending (R25). -/
theorem State.nextSlot_eq (s : State) (i : Nat) (m : Fin 4) (hp : s.bit (R.ADC_STAT_PEND i) m = true)
    (hl : ∀ j : Fin 4, j < m → s.bit (R.ADC_STAT_PEND i) j = false) : s.nextSlot i = some m.val := by
  rw [State.nextSlot, List.find?_range_eq_some]
  exact ⟨hp, List.mem_range.mpr m.isLt, fun j hj => by simpa using hl ⟨j, hj.trans m.isLt⟩ hj⟩

theorem exec_adcPendingSlotStart (i : Fin 8) (m : Fin 4) (s : State) (h : s.on 7 = true)
    (hb : (s.adc.at i).busy = false) (hp : s.bit (R.ADC_STAT_PEND i) m = true)
    (hl : ∀ j : Fin 4, j < m → s.bit (R.ADC_STAT_PEND i) j = false) :
    exec (.adcPendingSlotStart i) s = .next (s.openAperture i m) := by
  change execAdcPendingSlotStart i s = _
  simp [execAdcPendingSlotStart, h, hb, State.nextSlot_eq s i m hp hl]

theorem State.openAperture_core (s : State) {i : Nat} (hi : i < 8) (m : Nat) : (s.openAperture i m).adc.at i =
    { busy := true, slot := m, num := (s.res.at (4 * i + m)).opens + 1
      sel := s.get (R.ADC_SLOT_SEL i m), avg := min 6 (s.get (R.ADC_SLOT_AVG i m)) } := by
  refine (Bank.at_put _ hi _).trans ?_
  simp (disch := with_unfolding_all exact of_decide_eq_true rfl)

theorem State.openAperture_pend (s : State) (i : Nat) {m : Nat} (hm : m < 4) :
    (s.openAperture i m).bit (R.ADC_STAT_PEND i) m = false := State.bit_clrBit s hm

theorem State.openAperture_regs (s : State) (i m : Nat) :
    RegsOnly (fun f => f = R.ADC_STAT_PEND i) s (s.openAperture i m) :=
  RegsOnly.of_set _ _ _

/-! ### The delivery of a result (R24, R27) -/

/-- The registers of core `i` with `x` in the result of slot `m`, before the interrupt. -/
def State.withResult (s : State) (i m : Nat) (x : Int) (avgd : Bool) : State :=
  ((((s.set (R.ADC_RES_DATA i m) (ux 16 x)).set (R.ADC_RES_REFSW i m) 0).set (R.ADC_RES_NEW i m) 1).setB
    (R.ADC_RES_AVGD i m) avgd).setBit (R.ADC_STAT_DONE i) m

theorem State.withResult_slot (s : State) {i m : Nat} (hm : m < 4) (x : Int) (avgd : Bool) :
    (s.withResult i m x avgd).get (R.ADC_RES_DATA i m) = ux 16 x
      ∧ (s.withResult i m x avgd).get (R.ADC_RES_NEW i m) = 1
      ∧ (s.withResult i m x avgd).get (R.ADC_RES_AVGD i m) = b2n avgd
      ∧ (s.withResult i m x avgd).get (R.ADC_RES_REFSW i m) = 0
      ∧ (s.withResult i m x avgd).bit (R.ADC_STAT_DONE i) m = true := by
  unfold State.withResult
  refine ⟨?_, ?_, ?_, ?_, State.bit_setBit _ hm⟩
  · simp (disch := with_unfolding_all exact of_decide_eq_true rfl) only [State.get_setBit_apart, State.get_setB_apart,
      State.get_set_apart]
    exact State.get_set_of_lt s (ux_lt 16 x)
  · simp (disch := with_unfolding_all exact of_decide_eq_true rfl)
  · rw [State.get_setBit_apart _ rfl, State.get_setB_bit _ rfl]
  · simp (disch := with_unfolding_all exact of_decide_eq_true rfl)

/-- What a delivery that spans no reference switch leaves in the registers. -/
theorem State.get_adcDeliver (s : State) (i : Nat) (x : Int) (h : (s.adc.at i).spans = false) (f : Fld) :
    (s.adcDeliver i x).get f = ((s.withResult i (s.adc.at i).slot x (decide ((s.adc.at i).avg ≠ 0))).raiseIf
      (s.bit (R.ADC_CTRL_DONEIE i) (s.adc.at i).slot) (64 + i)).get f := by
  unfold State.adcDeliver
  extract_lets c m d n r
  have hd : d = (s.set (R.ADC_RES_DATA i m) (ux 16 x)).set (R.ADC_RES_REFSW i m) 0 := if_neg (by simp [c, h])
  have hn : n.bit (R.ADC_CTRL_DONEIE i) m = s.bit (R.ADC_CTRL_DONEIE i) m := by
    simp (disch := with_unfolding_all exact of_decide_eq_true rfl) [State.bit, n, hd]
  change r.get f = _
  simp only [r, hn]
  simp only [n, hd, c, m, State.withResult]

theorem State.adcDeliver_frees (s : State) {i : Nat} (hi : i < 8) (x : Int) :
    ((s.adcDeliver i x).adc.at i).busy = false := by
  unfold State.adcDeliver
  extract_lets c m d n r
  change ((r.adc.upd i _).at i).busy = false
  rw [Bank.at_upd _ hi]

/-- What a delivery that spans no reference switch shows (R24): the result of the slot, DONE with the interrupt that
DONEIE asks for, and a free core. -/
theorem State.adcDeliver_shows (s : State) {i : Nat} (hi : i < 8) (x : Int) (hm : (s.adc.at i).slot < 4)
    (h : (s.adc.at i).spans = false) :
    let c := s.adc.at i
    let t := s.adcDeliver i x
    t.get (R.ADC_RES_DATA i c.slot) = ux 16 x ∧ t.get (R.ADC_RES_NEW i c.slot) = 1
      ∧ t.get (R.ADC_RES_AVGD i c.slot) = b2n (decide (c.avg ≠ 0)) ∧ t.get (R.ADC_RES_REFSW i c.slot) = 0
      ∧ t.bit (R.ADC_STAT_DONE i) c.slot = true ∧ (t.adc.at i).busy = false
      ∧ (s.on 6 = true → s.bit (R.ADC_CTRL_DONEIE i) c.slot = true → t.get (R.ICU_STS_PEND (64 + i)) = 1) := by
  intro c t
  have kept {f : Fld} (hf : f.pd ≠ 6) : t.get f = (s.withResult i c.slot x (decide (c.avg ≠ 0))).get f :=
    (State.get_adcDeliver s i x h f).trans (State.get_raiseIf_apart _ _ _ hf)
  obtain ⟨hdata, hnew, havgd, hrefsw, hdone⟩ := State.withResult_slot s (i := i) hm x (decide (c.avg ≠ 0))
  refine ⟨?_, ?_, ?_, ?_, ?_, State.adcDeliver_frees s hi x, fun h6 hie => ?_⟩
  · rw [kept (of_decide_eq_true rfl), hdata]
  · rw [kept (of_decide_eq_true rfl), hnew]
  · rw [kept (of_decide_eq_true rfl), havgd]
  · rw [kept (of_decide_eq_true rfl), hrefsw]
  · rw [State.bit, kept (of_decide_eq_true rfl)]
    exact hdone
  · have hon : (s.withResult i c.slot x (decide (c.avg ≠ 0))).on 6 = true := by
      rw [← h6]
      simp (disch := with_unfolding_all exact of_decide_eq_true rfl) [State.on, State.withResult]
    rw [State.get_adcDeliver s i x h, hie, State.raiseIf, if_pos rfl]
    exact State.get_raise_pend _ (by omega) (by omega) (by omega) hon

/-! ### The end of a conversion and of an averaging sequence (R24, R27) -/

@[simp] theorem State.coreCode_adc (s : State) (i : Nat) (v : PinVolts) (e : DieVolts) (r : RefVolts) :
    (s.coreCode i v e r).2.adc = s.adc := rfl

/-- The parts that a result of an ADC core moves before its event reaches the matrix. -/
theorem State.coreCode_adcDeliver_onlyIn (s : State) (i : Nat) (v : PinVolts) (e : DieVolts) (r : RefVolts) (x : Int) :
    OnlyIn [.free, .icu, .adc, .res, .gov, .pd 6, .pd 7] s ((s.coreCode i v e r).2.adcDeliver i x) :=
  (((State.coreCode_moves s i v e r).mono (K' := 0x300000000800e1) (by decide)).step
    (State.adcDeliver_moves ..) (by decide)).onlyIn _ (by decide)

theorem exec_adcConversionDone_single (i : Fin 8) (v : PinVolts) (e : DieVolts) (r : RefVolts) (s : State)
    (hb : (s.adc.at i).busy = true) (ha : (s.adc.at i).avg = 0) :
    exec (.adcConversionDone i v e r) s =
      .next (((s.coreCode i v e r).2.adcDeliver i (s.coreCode i v e r).1).fire [52 + 4 * i.val + (s.adc.at i).slot]) := by
  change execAdcConversionDone i v e r s = _
  simp only [execAdcConversionDone, hb, ha, Bool.not_true, Bool.false_eq_true, if_false, if_true]
  rfl

theorem exec_adcConversionDone_within (i : Fin 8) (v : PinVolts) (e : DieVolts) (r : RefVolts) (s : State)
    (hb : (s.adc.at i).busy = true) (ha : (s.adc.at i).avg ≠ 0)
    (hc : (s.adc.at i).cnt + 1 < 2 ^ (s.adc.at i).avg) :
    exec (.adcConversionDone i v e r) s = .next { s with
      free := s.free + 1
      adc := s.adc.put i { s.adc.at i with
        cnt := (s.adc.at i).cnt + 1, sum := (s.adc.at i).sum + (s.coreCode i v e r).1 } } := by
  change execAdcConversionDone i v e r s = _
  simp only [execAdcConversionDone, hb, ha, hc, Bool.not_true, Bool.false_eq_true, if_false, if_true]
  rfl

theorem exec_adcAverageDone_last (i : Fin 8) (v : PinVolts) (e : DieVolts) (r : RefVolts) (s : State)
    (hb : (s.adc.at i).busy = true) (ha : (s.adc.at i).avg ≠ 0)
    (hc : (s.adc.at i).cnt + 1 = 2 ^ (s.adc.at i).avg) :
    exec (.adcAverageDone i v e r) s = .next (((s.coreCode i v e r).2.adcDeliver i
      (rhe (s.adc.at i).avg ((s.adc.at i).sum + (s.coreCode i v e r).1))).fire
        [52 + 4 * i.val + (s.adc.at i).slot]) := by
  change execAdcAverageDone i v e r s = _
  rw [execAdcAverageDone, if_pos (by simp [hb, ha, hc])]
  rfl

/-! ### Codes (R23, R26) -/

/-- A pin is coded as the whole part of 4096 × V ÷ VREF. -/
theorem State.coreCode_pin (s : State) (i : Nat) (v : PinVolts) (e : DieVolts) (r : RefVolts) {a : Nat}
    (hn : (s.vref r).1 ≠ 0) (hd : (s.vref r).2 ≠ 0) (hs : (s.adc.at i).sel ≠ 3)
    (ha : s.adcRatio i (s.adc.at i).sel (Config.freeValue s.free) v e r = (a * (s.vref r).2, (s.vref r).1)) :
    (s.coreCode i v e r).1 = satI 0 4095 (4096 * a * (s.vref r).2 / (s.vref r).1 : Nat) := by
  change s.codeOf i (Config.freeValue s.free) v e r = _
  simp only [State.codeOf, ha, hn, hd, hs, adcCode, or_self, if_false, decide_false, Bool.false_eq_true]
  rw [Int.fdiv_eq_ediv_of_nonneg _ (Int.natCast_nonneg _), Nat.mul_assoc]
  norm_cast

theorem State.coreCode_differential (s : State) (i : Nat) (v : PinVolts) (e : DieVolts) (r : RefVolts)
    (hn : (s.vref r).1 ≠ 0) (hd : (s.vref r).2 ≠ 0) (hs : (s.adc.at i).sel = 3) :
    (s.coreCode i v e r).1 =
      satI (-2048) 2047 ((2048 * ((v.a0 : Int) - v.a1) * (s.vref r).2).fdiv (s.vref r).1) := by
  have ha : s.adcRatio i 3 (Config.freeValue s.free) v e r = (v.a0 * (s.vref r).2, (s.vref r).1) := rfl
  have hc : 2048 * ((v.a0 * (s.vref r).2 : Nat) - (v.a1 : Int) * (s.vref r).2)
      = 2048 * ((v.a0 : Int) - v.a1) * (s.vref r).2 := by
    push_cast
    ring
  change s.codeOf i (Config.freeValue s.free) v e r = _
  simp only [State.codeOf, hs, ha, hn, hd, adcCode, or_self, if_false, decide_true, if_true, hc]

/-! ### The read of a result (R44) -/

theorem regFields_adcRes : ∀ (i : Fin 8) (m : Fin 4), regFields (0xD020 + 0x100 * i.val + 4 * m.val) =
    [R.ADC_RES_NEW i m, R.ADC_RES_REFSW i m, R.ADC_RES_AVGD i m, R.ADC_RES_DATA i m] := by decide

theorem State.readReg_adcRes (s : State) (i : Fin 8) (m : Fin 4) :
    s.readReg (0xD020 + 0x100 * i.val + 4 * m.val) = s.get (R.ADC_RES_DATA i m) + 2 ^ 29 * s.get (R.ADC_RES_AVGD i m)
      + 2 ^ 30 * s.get (R.ADC_RES_REFSW i m) + 2 ^ 31 * s.get (R.ADC_RES_NEW i m) := by
  rw [State.readReg, regFields_adcRes]
  change 0 + s.get (R.ADC_RES_NEW i m) * 2 ^ 31 + s.get (R.ADC_RES_REFSW i m) * 2 ^ 30
    + s.get (R.ADC_RES_AVGD i m) * 2 ^ 29 + s.get (R.ADC_RES_DATA i m) * 2 ^ 0 = _
  ring

theorem exec_adcResultRead (q : Who) (i : Fin 8) (m : Fin 4) (s : State) (h : s.on 7 = true) :
    exec (.adcResultRead q i m) s = .next ((s.reply q.req .ok 0).readAdcRes q.req i m) := by
  change Host.Outcome.next (s.via q.req 7 fun s => s.readAdcRes q.req i m) = _
  rw [State.via_on s _ _ h]

theorem State.readAdcRes_answer (s : State) (q : Req) (i : Fin 8) (m : Fin 4) :
    (s.readAdcRes q i m).resp.at (reqIdx q) =
      { code := .ok
        data := s.get (R.ADC_RES_DATA i m) + 2 ^ 29 * s.get (R.ADC_RES_AVGD i m)
          + 2 ^ 30 * s.get (R.ADC_RES_REFSW i m) + 2 ^ 31 * s.get (R.ADC_RES_NEW i m) } := by
  rw [← State.readReg_adcRes]
  exact State.resp_reply ..

theorem State.readAdcRes_regs (s : State) (q : Req) (i m : Nat) :
    RegsOnly (fun f => f = R.ADC_RES_NEW i m) s (s.readAdcRes q i m) :=
  RegsOnly.of_set _ _ _

/-- Settles O19: each clause is one command's effect; the delivery of a result is `State.adcDeliver_shows`. -/
theorem adcConversions : Obligations.AdcConversions := by
  unfold Obligations.AdcConversions
  refine ⟨exec_adcSoftwareStart, fun i m s h he => ⟨fun hp => ?_, State.adcTrigger_overrun s m.isLt h he⟩,
    fun i m s h hb hp hl => ?_, fun i v e r s hb ha hm hsp => ?_, exec_adcConversionDone_within,
    fun i v e r s hb ha hc hm hsp => ?_, fun i v e r s hn hd => ⟨fun hs => ?_, fun hs => ?_, fun hs => ?_, ?_⟩,
    fun q i m s h => ?_⟩
  · rw [State.adcTrigger_free s h he hp]
    exact State.bit_setBit s m.isLt
  · exact ⟨_, exec_adcPendingSlotStart i m s h hb hp hl, State.openAperture_pend s i m.isLt,
      State.openAperture_regs s i m, (State.openAperture_moves s i m).onlyIn _ (by decide),
      State.openAperture_core s i.isLt m⟩
  · obtain ⟨hdata, hnew, havgd, hrefsw, hdone, hfree, hie⟩ :=
      State.adcDeliver_shows (s.coreCode i v e r).2 i.isLt (s.coreCode i v e r).1 hm hsp
    refine ⟨_, exec_adcConversionDone_single i v e r s hb ha, hdata, hnew, ?_, hrefsw, hdone, hfree, hie,
      State.coreCode_adcDeliver_onlyIn ..⟩
    exact havgd.trans (by simp [ha, b2n])
  · obtain ⟨hdata, hnew, havgd, -, hdone, hfree, -⟩ := State.adcDeliver_shows (s.coreCode i v e r).2 i.isLt
      (rhe (s.adc.at i).avg ((s.adc.at i).sum + (s.coreCode i v e r).1)) hm hsp
    refine ⟨_, exec_adcAverageDone_last i v e r s hb ha hc, hdata, ?_, hnew, hdone, hfree,
      State.coreCode_adcDeliver_onlyIn ..⟩
    exact havgd.trans (by simp [ha, b2n])
  · exact State.coreCode_pin s i v e r hn hd (by omega) (by rw [hs]; rfl)
  · exact State.coreCode_pin s i v e r hn hd (by omega) (by rw [hs]; rfl)
  · exact State.coreCode_pin s i v e r hn hd (by omega) (by rw [hs]; rfl)
  · exact State.coreCode_differential s i v e r hn hd
  · have answer := State.readAdcRes_answer (s.reply q.req .ok 0) q.req i m
    exact ⟨_, exec_adcResultRead q i m s h, State.get_set .., congrArg BusResp.code answer,
      congrArg BusResp.data answer, State.readAdcRes_regs (s.reply q.req .ok 0) q.req i m⟩

end Sys2Proof.Machine
end

section
/-!
PROOFS of the comparators, the DACs and the windows of the reference monitor (O20, R29 to R33, R46).
-/

namespace Sys2Proof.Machine

/-! ### Comparators (R29 to R32) -/

theorem State.cmpBall_eq (s : State) (j : Nat) :
    s.cmpBall j = j + [0, 2, 6, 8].getD (s.get (R.CMP_CFG_INSEL j)) 8 := by
  unfold State.cmpBall
  generalize s.get (R.CMP_CFG_INSEL j) = n
  match n with
  | 0 | 1 | 2 | 3 | _ + 4 => rfl

theorem State.hystMicro_eq (s : State) (j : Nat) :
    s.hystMicro j = [0, 10000, 20000, 40000].getD (s.get (R.CMP_CFG_HYST j)) 40000 := by
  unfold State.hystMicro
  generalize s.get (R.CMP_CFG_HYST j) = n
  match n with
  | 0 | 1 | 2 | 3 | _ + 4 => rfl

/-- With its ramp off a comparator compares against THR itself (R30, R31). -/
theorem State.cmpRaw_of_no_slope (s : State) (j vin : Nat) (r : RefVolts) (edges : Nat)
    (h : s.flag (R.CMP_CFG_SLPEN j) = false) :
    s.cmpRaw j vin r edges = if s.flag (R.CMP_STAT_RAW j)
      then decide (s.get (R.CMP_THR j) * (s.vref r).1 ≤
        4096 * (vin + [0, 10000, 20000, 40000].getD (s.get (R.CMP_CFG_HYST j)) 40000) * (s.vref r).2)
      else decide (s.get (R.CMP_THR j) * (s.vref r).1 < 4096 * vin * (s.vref r).2) := by
  have thr : s.cmpThreshold j edges = s.get (R.CMP_THR j) := by simp [State.cmpThreshold, h]
  rw [← State.hystMicro_eq, ← thr]
  rfl

/-- Comparator `j` with `b` as its filtered output. -/
def State.withFilt (s : State) (j : Nat) (b : Bool) : State :=
  { s with cmp := s.cmp.upd j fun c => { c with filt := b } }

theorem State.withFilt_onlyIn (s : State) (j : Nat) (b : Bool) : OnlyIn [.cmp] s (s.withFilt j b) :=
  State.upd_cmp_moves.onlyIn _ (by decide)

theorem State.withFilt_at (s : State) {j : Nat} (hj : j < 16) (b : Bool) :
    (s.withFilt j b).cmp.at j = { s.cmp.at j with filt := b } := Bank.at_upd _ hj _

theorem State.cmpFilter_eq (s : State) (j : Nat) :
    s.cmpFilter j = fireAll ((s.withFilt j (s.flag (R.CMP_STAT_RAW j))).cmpRefresh j) := rfl

/-- The voltage of the ball that INSEL names moves the unfiltered output of an enabled comparator. -/
theorem exec_comparatorCrossing (j : Fin 16) (a : AinVolts) (r : RefVolts) (edges : Nat) (s : State)
    (h : s.on 7 = true) (he : s.flag (R.CMP_CFG_EN j) = true)
    (ha : a.ball.val = j.val + [0, 2, 6, 8].getD (s.get (R.CMP_CFG_INSEL j)) 8) :
    exec (.comparatorCrossing j a r edges) s = .next (if s.get (R.CMP_CFG_FILT j) = 0
      then (s.setB (R.CMP_STAT_RAW j) (s.cmpRaw j a.v r edges)).cmpFilter j
      else s.setB (R.CMP_STAT_RAW j) (s.cmpRaw j a.v r edges)) := by
  have hball : s.cmpBall j = a.ball := (State.cmpBall_eq s j).trans ha.symm
  change execComparatorCrossing j a r edges s = _
  simp only [execComparatorCrossing, h, he, hball]
  simp (disch := with_unfolding_all exact of_decide_eq_true rfl)

theorem State.setRaw_shows (s : State) (j : Nat) (b : Bool) :
    (s.setB (R.CMP_STAT_RAW j) b).flag (R.CMP_STAT_RAW j) = b
      ∧ RegsOnly (fun f => f = R.CMP_STAT_RAW j) s (s.setB (R.CMP_STAT_RAW j) b)
      ∧ OnlyIn [.pd 7] s (s.setB (R.CMP_STAT_RAW j) b) :=
  ⟨State.flag_setB s rfl b, RegsOnly.of_set _ _ _, (State.setB_moves (d := 7) rfl).onlyIn _ (by decide)⟩

/-- With FILT 0 the filtered output follows. -/
theorem State.setRaw_withFilt_shows (s : State) {j : Nat} (hj : j < 16) (b : Bool) :
    let u := (s.setB (R.CMP_STAT_RAW j) b).withFilt j b
    u.flag (R.CMP_STAT_RAW j) = b ∧ (u.cmp.at j).filt = b ∧ (u.cmp.at j).blank = (s.cmp.at j).blank
      ∧ RegsOnly (fun f => f = R.CMP_STAT_RAW j) s u ∧ OnlyIn [.cmp, .pd 7] s u := by
  obtain ⟨hraw, hregs, -⟩ := State.setRaw_shows s j b
  refine ⟨hraw, ?_, ?_, hregs, ?_⟩
  · rw [State.withFilt_at _ hj]
  · rw [State.withFilt_at _ hj]
    rfl
  · exact (((State.setB_moves (d := 7) rfl).mono (K' := 0x20000000000100) (by decide)).step State.upd_cmp_moves
      (by decide)).onlyIn _ (by decide)

/-- The level that CMPj_STAT.OUT follows: the filtered output, blanked, of an enabled comparator (R31). -/
def State.cmpLevel (s : State) (j : Nat) : Bool :=
  (s.cmp.at j).filt && !(s.cmp.at j).blank && s.flag (R.CMP_CFG_EN j)

theorem State.cmpRefresh_still (s : State) {j : Nat} (h : s.cmpLevel j = s.flag (R.CMP_STAT_OUT j)) :
    s.cmpRefresh j = (s, []) := if_pos h

/-- The registers of comparator `j` as its output rises, with its event. -/
def State.cmpRisen (s : State) (j : Nat) : State :=
  ((s.set (R.CMP_STAT_OUT j) 1).set (R.CMP_STAT_RISE j) 1).raise (72 + j)

theorem State.cmpRefresh_rise (s : State) {j : Nat} (hl : s.cmpLevel j = true)
    (ho : s.flag (R.CMP_STAT_OUT j) = false) :
    s.cmpRefresh j = ((s.cmpRisen j).judgeTrips.1, (36 + j) :: (s.cmpRisen j).judgeTrips.2) := by
  unfold State.cmpLevel at hl
  simp only [State.cmpRefresh, hl, ho, Bool.true_eq_false, if_false, if_true]
  rfl

theorem State.cmpRefresh_fall (s : State) {j : Nat} (hl : s.cmpLevel j = false)
    (ho : s.flag (R.CMP_STAT_OUT j) = true) :
    s.cmpRefresh j = ((s.set (R.CMP_STAT_OUT j) 0).set (R.CMP_STAT_FALL j) 1, []) := by
  unfold State.cmpLevel at hl
  simp only [State.cmpRefresh, hl, ho, Bool.false_eq_true, if_false]

theorem State.cmpRisen_shows (s : State) (j : Nat) :
    (s.cmpRisen j).get (R.CMP_STAT_OUT j) = 1 ∧ (s.cmpRisen j).get (R.CMP_STAT_RISE j) = 1
      ∧ RegsOnly (fun f => f = R.CMP_STAT_OUT j ∨ f = R.CMP_STAT_RISE j ∨ f.ofSource (72 + j)) s (s.cmpRisen j)
      ∧ OnlyIn [.icu, .pd 6, .pd 7] s (s.cmpRisen j) := by
  refine ⟨?_, ?_, ?_, ?_⟩
  · simp (disch := with_unfolding_all exact of_decide_eq_true rfl) [State.cmpRisen]
  · simp (disch := with_unfolding_all exact of_decide_eq_true rfl) [State.cmpRisen]
  · exact (((RegsOnly.refl _ s).set (.inl rfl) 1).set (.inr (.inl rfl)) 1).raise fun _ h => .inr (.inr h)
  · have h1 : Moves 0x30000000000020 s (s.set (R.CMP_STAT_OUT j) 1) := (State.set_moves (d := 7) rfl).mono (by decide)
    exact ((h1.step (State.set_moves (d := 7) rfl) (by decide)).step (State.raise_moves ..) (by decide)).onlyIn _
      (by decide)

theorem exec_cmpFilterSettled (j : Fin 16) (s : State) (h : s.on 7 = true) (he : s.flag (R.CMP_CFG_EN j) = true) :
    exec (.cmpFilterSettled j) s = .next (fireAll ((s.withFilt j (s.flag (R.CMP_STAT_RAW j))).cmpRefresh j)) := by
  change execCmpFilterSettled j s = _
  simp [execCmpFilterSettled, h, he, State.cmpFilter_eq]

/-- Comparator `j` as its blanking window ends. -/
def State.unblanked (s : State) (j : Nat) : State :=
  { s with cmp := s.cmp.upd j fun c => { c with blank := false } }

theorem exec_cmpBlankingEnd (j : Fin 16) (s : State) :
    exec (.cmpBlankingEnd j) s = .next (fireAll ((s.unblanked j).cmpRefresh j)) := rfl

theorem State.unblanked_at (s : State) {j : Nat} (hj : j < 16) :
    (s.unblanked j).cmp.at j = { s.cmp.at j with blank := false } := Bank.at_upd _ hj _

theorem State.unblanked_onlyIn (s : State) (j : Nat) : OnlyIn [.cmp] s (s.unblanked j) :=
  State.upd_cmp_moves.onlyIn _ (by decide)

/-! ### DAC outputs (R33) -/

theorem regFields_dacData : ∀ r : Fin 3, r.val < 2 → regFields (0xE800 + 4 * r.val) = [R.DAC_DATA r] := by decide

theorem regFields_dacEn : regFields 0xE808 = [R.DAC_EN_EN1, R.DAC_EN_EN0] := by decide

theorem exec_dacWrite (q : Who) (r : Fin 3) (v : Word) (s : State) (h : s.on 7 = true) :
    exec (.dacWrite q r v) s = .next ((s.reply q.req .ok 0).writeDac q r v.toNat) := by
  change Host.Outcome.next (s.via q.req 7 fun s => s.writeDac q r v.toNat) = _
  rw [State.via_on s _ _ h]

theorem State.writeDac_data (s : State) (q : Who) {r : Fin 3} (hr : r.val < 2) (v : Nat) :
    s.writeDac q r v = (s.set (R.DAC_DATA r) (presented v (R.DAC_DATA r))).dacSettle r := by
  have hw := State.writeReg_rw s q v (a := 0xE800 + 4 * r.val) (by simp [regFields_dacData r hr, R.DAC_DATA])
  rw [State.writeDac, hw, regFields_dacData r hr, if_pos hr]
  rfl

/-- DAC `k` starts settling where `b` says so. -/
def State.dacSettleIf (s : State) (b : Bool) (k : Nat) : State := if b then s.dacSettle k else s

@[simp] theorem State.get_dacSettleIf (s : State) (b : Bool) (k : Nat) (f : Fld) :
    (s.dacSettleIf b k).get f = s.get f := by cases b <;> rfl

@[simp] theorem State.dacSettleIf_resp (s : State) (b : Bool) (k : Nat) : (s.dacSettleIf b k).resp = s.resp := by
  cases b <;> rfl

theorem State.dacSettle_at (s : State) {k : Nat} (hk : k < 2) :
    (s.dacSettle k).dac.at k = { settle := 125, free := s.free } := Bank.at_put _ hk _

theorem State.dacSettleIf_ne (s : State) (b : Bool) {k l : Nat} (h : k ≠ l) :
    (s.dacSettleIf b k).dac.at l = s.dac.at l := by
  cases b
  · rfl
  · exact Bank.at_put_ne _ h _

/-- A write of DAC_EN sets both enables, and each that it sets starts its ball settling. -/
theorem State.writeDac_en (s : State) (q : Who) (v : Nat) :
    s.writeDac q 2 v =
      (((s.set R.DAC_EN_EN1 (presented v R.DAC_EN_EN1)).set R.DAC_EN_EN0 (presented v R.DAC_EN_EN0)).dacSettleIf
        (!s.flag R.DAC_EN_EN0 && v.testBit 0) 0).dacSettleIf (!s.flag R.DAC_EN_EN1 && v.testBit 1) 1 := by
  have hw := State.writeReg_rw s q v (a := 0xE808) (by simp [regFields_dacEn, R.DAC_EN_EN1, R.DAC_EN_EN0])
  rw [regFields_dacEn, List.foldl_cons, List.foldl_cons, List.foldl_nil] at hw
  generalize hu : (s.set R.DAC_EN_EN1 (presented v R.DAC_EN_EN1)).set R.DAC_EN_EN0 (presented v R.DAC_EN_EN0) = u at *
  have h0 : u.flag R.DAC_EN_EN0 = v.testBit 0 := hu ▸ State.flag_set_presented _ rfl v
  have h1 : u.flag R.DAC_EN_EN1 = v.testBit 1 := by
    rw [← hu, State.flag, State.get_set_apart _ rfl]
    exact State.flag_set_presented s rfl v
  have h1' (b : Bool) : (u.dacSettleIf b 0).flag R.DAC_EN_EN1 = v.testBit 1 := by
    rw [← h1, State.flag, State.flag, State.get_dacSettleIf]
  have step : s.writeDac q 2 v =
      (u.dacSettleIf (!s.flag R.DAC_EN_EN0 && u.flag R.DAC_EN_EN0) 0).dacSettleIf (!s.flag R.DAC_EN_EN1 &&
        (u.dacSettleIf (!s.flag R.DAC_EN_EN0 && u.flag R.DAC_EN_EN0) 0).flag R.DAC_EN_EN1) 1 := by
    rw [State.writeDac, hw]
    rfl
  rw [step, h1', h0]

/-- A write of DAC data holds the new code and starts its ball settling at a free level (R33). -/
theorem State.writeDac_data_shows (s : State) (q : Who) {r : Fin 3} (hr : r.val < 2) (v : Nat) :
    (s.writeDac q r v).get (R.DAC_DATA r) = v % 4096
      ∧ (s.writeDac q r v).dac.at r = { settle := 125, free := s.free } := by
  rw [State.writeDac_data s q hr]
  refine ⟨?_, State.dacSettle_at _ hr⟩
  change (s.set _ _).get _ = _
  simp [presented, R.DAC_DATA]

theorem State.writeDac_en_shows (s : State) (q : Who) (v : Nat) :
    (s.writeDac q 2 v).flag R.DAC_EN_EN0 = v.testBit 0 ∧ (s.writeDac q 2 v).flag R.DAC_EN_EN1 = v.testBit 1
      ∧ (s.flag R.DAC_EN_EN0 = false → v.testBit 0 = true → ((s.writeDac q 2 v).dac.at 0).settle = 125)
      ∧ (s.flag R.DAC_EN_EN1 = false → v.testBit 1 = true → ((s.writeDac q 2 v).dac.at 1).settle = 125) := by
  rw [State.writeDac_en]
  refine ⟨?_, ?_, fun h0 h => ?_, fun h1 h => ?_⟩
  · simp only [State.flag, State.get_dacSettleIf]
    exact State.flag_set_presented _ rfl v
  · simp only [State.flag, State.get_dacSettleIf]
    rw [State.get_set_apart _ rfl]
    exact State.flag_set_presented s rfl v
  · rw [State.dacSettleIf_ne _ _ (by decide), h0, h]
    exact congrArg DacSt.settle (State.dacSettle_at _ (by decide))
  · rw [h1, h]
    exact congrArg DacSt.settle (State.dacSettle_at _ (by decide))

/-- A DAC write is answered OK and changes no register but its own. -/
theorem State.writeDac_frame (s : State) (q : Who) (r : Fin 3) (v : Nat) :
    (s.writeDac q r v).resp = s.resp ∧ RegsOnly (fun f => f.addr = 0xE800 + 4 * r.val) s (s.writeDac q r v) := by
  rcases Nat.lt_or_ge r.val 2 with hr | hr
  · rw [State.writeDac_data s q hr]
    exact ⟨rfl, RegsOnly.set (P := fun f => f.addr = 0xE800 + 4 * r.val) (RegsOnly.refl _ s) rfl _⟩
  · obtain rfl : r = 2 := by omega
    have h := State.writeDac_en s q v
    refine ⟨?_, fun f hf => ?_⟩
    · exact (congrArg State.resp h).trans (by simp)
    · refine (congrArg (·.get f) h).trans ?_
      simp only [State.get_dacSettleIf]
      exact ((RegsOnly.refl (fun f => f.addr = 0xE808) s).set (f := R.DAC_EN_EN1) rfl _).set (f := R.DAC_EN_EN0)
        rfl _ f hf

/-- What a write to the DACs is answered and shows. -/
theorem State.dacWrite_shows (s : State) (q : Who) (r : Fin 3) (v : Nat) :
    let t := (s.reply q.req .ok 0).writeDac q r v
    (t.resp.at (reqIdx q.req)).code = .ok
      ∧ (r.val < 2 → t.get (R.DAC_DATA r) = v % 4096 ∧ (t.dac.at r).settle = 125 ∧ (t.dac.at r).free = s.free)
      ∧ (r.val = 2 → t.flag R.DAC_EN_EN0 = v.testBit 0 ∧ t.flag R.DAC_EN_EN1 = v.testBit 1
        ∧ (s.flag R.DAC_EN_EN0 = false → v.testBit 0 = true → (t.dac.at 0).settle = 125)
        ∧ (s.flag R.DAC_EN_EN1 = false → v.testBit 1 = true → (t.dac.at 1).settle = 125))
      ∧ RegsOnly (fun f => f.addr = 0xE800 + 4 * r.val) s t := by
  intro t
  obtain ⟨hresp, hregs⟩ := State.writeDac_frame (s.reply q.req .ok 0) q r v
  refine ⟨?_, fun hr => ?_, fun hr => ?_, hregs⟩
  · rw [hresp, State.resp_reply]
  · obtain ⟨hdata, hdac⟩ := State.writeDac_data_shows (s.reply q.req .ok 0) q hr v
    exact ⟨hdata, congrArg DacSt.settle hdac, congrArg DacSt.free hdac⟩
  · obtain rfl : r = 2 := Fin.ext hr
    exact State.writeDac_en_shows (s.reply q.req .ok 0) q v

end Sys2Proof.Machine
end

section
/-!
PROOFS of the reference monitor and the statement on the comparators, the DACs and the references (O20, R34 to R41,
R46).
-/

namespace Sys2Proof.Machine

/-! ### The windows (R46) -/

theorem regFields_rfmWin : regFields 0xF00C = [R.RFM_WIN_OUTER, R.RFM_WIN_INNER] := by decide

theorem exec_rfmWinWrite (q : Who) (v : Word) (s : State) (h : s.on 7 = true) :
    exec (.rfmWinWrite q v) s = .next ((s.reply q.req .ok 0).writeRfmWin q v.toNat) := by
  change Host.Outcome.next (s.via q.req 7 fun s => s.writeRfmWin q v.toNat) = _
  rw [State.via_on s _ _ h]

theorem State.boundWin_shows (s : State) :
    s.boundWin.get R.RFM_WIN_OUTER = min 2097 (s.get R.RFM_WIN_OUTER)
      ∧ s.boundWin.get R.RFM_WIN_INNER = min (min 2097 (s.get R.RFM_WIN_OUTER)) (s.get R.RFM_WIN_INNER) := by
  have fits {n : Nat} (h : n ≤ 2097) (t : State) {f : Fld} (hw : f.w = 12) : (t.set f n).get f = n :=
    State.get_set_of_lt t (by rw [hw]; omega)
  constructor
  · exact (State.get_set_apart _ rfl _).trans (fits (by omega) s rfl)
  · exact fits (by omega) _ rfl

/-- A write of RFM_WIN holds the outer window at 2,097 at most, and the inner one within it. -/
theorem State.writeRfmWin_shows (s : State) (q : Who) (v : Nat) :
    let t := s.writeRfmWin q v
    t.get R.RFM_WIN_OUTER = min 2097 (v / 2 ^ 16 % 2 ^ 12)
      ∧ t.get R.RFM_WIN_INNER = min (t.get R.RFM_WIN_OUTER) (v % 2 ^ 12)
      ∧ RegsOnly (fun f => f = R.RFM_WIN_OUTER ∨ f = R.RFM_WIN_INNER) s t := by
  intro t
  have hw := State.writeReg_rw s q v (a := 0xF00C) (by simp [regFields_rfmWin, R.RFM_WIN_OUTER, R.RFM_WIN_INNER])
  rw [regFields_rfmWin, List.foldl_cons, List.foldl_cons, List.foldl_nil] at hw
  obtain ⟨houter, hinner⟩ := State.boundWin_shows (s.writeReg q 0xF00C v)
  have ho : (s.writeReg q 0xF00C v).get R.RFM_WIN_OUTER = v / 2 ^ 16 % 2 ^ 12 := by
    rw [hw, State.get_set_apart _ rfl, State.get_set]
    exact Nat.mod_mod ..
  have hi : (s.writeReg q 0xF00C v).get R.RFM_WIN_INNER = v % 2 ^ 12 := by
    rw [hw, State.get_set, presented]
    simp [R.RFM_WIN_INNER]
  refine ⟨houter.trans (by rw [ho]), hinner.trans ?_, ?_⟩
  · rw [← houter, hi]
    rfl
  · have hregs : RegsOnly (fun f => f = R.RFM_WIN_OUTER ∨ f = R.RFM_WIN_INNER) s (s.writeReg q 0xF00C v) := by
      rw [hw]
      exact ((RegsOnly.refl _ s).set (.inl rfl) _).set (.inr rfl) _
    exact (hregs.set (.inl rfl) _).set (.inr rfl) _

/-! ### The publication of a cycle (R34) -/

/-- A signed value is put into a field where `b` says so. -/
def State.setsIf (s : State) (b : Bool) (f : Fld) (x : Int) : State := if b then s.sets f x else s

@[simp] theorem State.get_setsIf_apart (s : State) (b : Bool) {f g : Fld} (h : f.apart g = true) (x : Int) :
    (s.setsIf b f x).get g = s.get g := by
  cases b
  · rfl
  · exact State.get_sets_apart s h x

theorem State.gets_setsIf_apart (s : State) (b : Bool) {f g : Fld} (h : f.apart g = true) (x : Int) :
    (s.setsIf b f x).gets g = s.gets g := by
  rw [State.gets, State.get_setsIf_apart s b h, State.gets]

theorem State.gets_setsIf (s : State) {f : Fld} (hw : f.w = 16) (x : Int) :
    (s.setsIf true f (satS 16 x)).gets f = satS 16 x := by
  rw [← hw]
  exact State.gets_sets_satS s (by omega) x

@[simp] theorem State.setsIf_rfm (s : State) (b : Bool) (f : Fld) (x : Int) : (s.setsIf b f x).rfm = s.rfm := by
  cases b <;> rfl

theorem RegsOnly.setsIf {P : Fld → Prop} {s t : State} (h : RegsOnly P s t) (b : Bool) {f : Fld} (hf : P f) (x : Int) :
    RegsOnly P s (t.setsIf b f x) := by
  cases b
  · exact h
  · exact h.set hf _

/-- The last eight deviations of each pair of fitted references, with those of a new cycle. -/
def State.rfmHist (s : State) (ia ib ab : Int) : RfmSt :=
  { s.rfm with
    ia := if s.refFitted 1 then (ia :: s.rfm.ia).take 8 else []
    ib := if s.refFitted 2 then (ib :: s.rfm.ib).take 8 else []
    ab := if s.refFitted 1 && s.refFitted 2 then (ab :: s.rfm.ab).take 8 else [] }

theorem State.refFitted_congr {s t : State} (ha : t.get R.RFM_CFG_FITA = s.get R.RFM_CFG_FITA)
    (hb : t.get R.RFM_CFG_FITB = s.get R.RFM_CFG_FITB) (n : Nat) : t.refFitted n = s.refFitted n := by
  simp only [State.refFitted, State.flag, ha, hb]

/-- The means of the last cycles are published for the pairs that are fitted. -/
theorem State.rfmPublish_eq (s : State) (ia ib ab : Int) :
    let r := s.rfmHist ia ib ab
    s.rfmPublish ia ib ab = (({ s with rfm := r }.setsIf (s.refFitted 1) R.RFM_DEV_IA (satS 16 (meanDev r.ia))).setsIf
      (s.refFitted 2) R.RFM_DEV_IB (satS 16 (meanDev r.ib))).setsIf (s.refFitted 1 && s.refFitted 2) R.RFM_DEV_AB
        (satS 16 (meanDev r.ab)) := by
  intro r
  let s0 : State := { s with rfm := r }
  have fit (b : Bool) {f : Fld} (ha : f.apart R.RFM_CFG_FITA = true) (hb : f.apart R.RFM_CFG_FITB = true) (x : Int)
      (t : State) (n : Nat) : (t.setsIf b f x).refFitted n = t.refFitted n :=
    State.refFitted_congr (State.get_setsIf_apart t b ha x) (State.get_setsIf_apart t b hb x) n
  have unfolded : s.rfmPublish ia ib ab =
      let s1 := s0.setsIf (s0.refFitted 1) R.RFM_DEV_IA (satS 16 (meanDev r.ia))
      let s2 := s1.setsIf (s1.refFitted 2) R.RFM_DEV_IB (satS 16 (meanDev r.ib))
      s2.setsIf (s2.refFitted 1 && s2.refFitted 2) R.RFM_DEV_AB (satS 16 (meanDev r.ab)) := rfl
  rw [unfolded]
  simp only [fit _ (f := R.RFM_DEV_IA) rfl rfl, fit _ (f := R.RFM_DEV_IB) rfl rfl]
  rfl

/-- A cycle publishes the mean of the last eight deviations of each pair of fitted references, and nothing else. -/
theorem State.rfmPublish_shows (s : State) (ia ib ab : Int) :
    let u := s.rfmPublish ia ib ab
    (s.refFitted 1 = true → u.rfm.ia = (ia :: s.rfm.ia).take 8 ∧ u.gets R.RFM_DEV_IA = satS 16 (meanDev u.rfm.ia))
      ∧ (s.refFitted 2 = true → u.rfm.ib = (ib :: s.rfm.ib).take 8 ∧ u.gets R.RFM_DEV_IB = satS 16 (meanDev u.rfm.ib))
      ∧ (s.refFitted 1 = true → s.refFitted 2 = true →
          u.rfm.ab = (ab :: s.rfm.ab).take 8 ∧ u.gets R.RFM_DEV_AB = satS 16 (meanDev u.rfm.ab))
      ∧ RegsOnly (fun f => f = R.RFM_DEV_IA ∨ f = R.RFM_DEV_IB ∨ f = R.RFM_DEV_AB) s u := by
  intro u
  have hu : u = _ := State.rfmPublish_eq s ia ib ab
  have hrfm : u.rfm = s.rfmHist ia ib ab := by simp [hu]
  refine ⟨fun h1 => ⟨?_, ?_⟩, fun h2 => ⟨?_, ?_⟩, fun h1 h2 => ⟨?_, ?_⟩, ?_⟩
  · simp [hrfm, State.rfmHist, h1]
  · rw [hrfm, hu, State.gets_setsIf_apart _ _ rfl, State.gets_setsIf_apart _ _ rfl, h1, State.gets_setsIf _ rfl]
  · simp [hrfm, State.rfmHist, h2]
  · rw [hrfm, hu, State.gets_setsIf_apart _ _ rfl, h2, State.gets_setsIf _ rfl]
  · simp [hrfm, State.rfmHist, h1, h2]
  · rw [hrfm, hu, h1, h2, Bool.and_self, State.gets_setsIf _ rfl]
  · have base : RegsOnly (fun f => f = R.RFM_DEV_IA ∨ f = R.RFM_DEV_IB ∨ f = R.RFM_DEV_AB) s
        { s with rfm := s.rfmHist ia ib ab } := fun _ _ => rfl
    rw [hu]
    exact ((base.setsIf _ (.inl rfl) _).setsIf _ (.inr (.inl rfl)) _).setsIf _ (.inr (.inr rfl)) _

/-- A cycle's deviations are published and then judged. -/
theorem exec_rfmMeasurementCycleEnd (vi va vb : Nat) (ok : Bool) (s : State) (h : s.on 7 = true) :
    let d := s.cycleDevs { int := vi, a := va, b := vb } (Config.freeValue s.free)
    exec (.rfmMeasurementCycleEnd vi va vb ok) s =
      .next ((s.freeN.2.rfmPublish d.1 d.2.1 d.2.2).rfmCycle ok) := by
  intro d
  change execRfmMeasurementCycleEnd vi va vb ok s = _
  simp only [execRfmMeasurementCycleEnd, h, Bool.not_true, Bool.false_eq_true, if_false]
  rfl

theorem State.rfmPublish_onlyIn (s : State) (ia ib ab : Int) :
    OnlyIn [.free, .rfm, .pd 7] s (s.freeN.2.rfmPublish ia ib ab) :=
  (((State.freeN_moves s).mono (K' := 0x20000000000401) (by decide)).step (State.rfmPublish_moves ..)
    (by decide)).onlyIn _ (by decide)

/-! ### The judgement of a cycle (R35 to R41) -/

/-- The fields of the monitor on which the agreement and the deviation of references rest. -/
def refFields : List Fld :=
  [R.RFM_CFG_FITA, R.RFM_CFG_FITB, R.RFM_WIN_INNER, R.RFM_DEV_IA, R.RFM_DEV_IB, R.RFM_DEV_AB]

/-- Both states agree on what is fitted, on the inner window and on the published deviations. -/
def State.SameRefs (s t : State) : Prop := ∀ f ∈ refFields, t.get f = s.get f

section
variable {s t : State} (h : s.SameRefs t)
include h

theorem State.SameRefs.refFitted : t.refFitted = s.refFitted :=
  funext (State.refFitted_congr (h R.RFM_CFG_FITA (by decide)) (h R.RFM_CFG_FITB (by decide)))

theorem State.SameRefs.gets {f : Fld} (hf : f ∈ refFields) : t.gets f = s.gets f := by
  rw [State.gets, h f hf, State.gets]

theorem State.SameRefs.refAgree : t.refAgree = s.refAgree := by
  funext a b
  have hp : t.pairDev a b = s.pairDev a b := by
    simp only [State.pairDev, h.gets (f := R.RFM_DEV_IA) (by decide), h.gets (f := R.RFM_DEV_IB) (by decide),
      h.gets (f := R.RFM_DEV_AB) (by decide)]
  rw [State.refAgree, h.refFitted, hp, h R.RFM_WIN_INNER (by decide), State.refAgree]

theorem State.SameRefs.refOthers : t.refOthers = s.refOthers := by
  funext n
  simp only [State.refOthers, h.refFitted]

theorem State.SameRefs.devRatio : t.devRatio = s.devRatio := by
  funext a b
  simp only [State.devRatio, h.gets (f := R.RFM_DEV_IA) (by decide), h.gets (f := R.RFM_DEV_IB) (by decide),
    h.gets (f := R.RFM_DEV_AB) (by decide)]

theorem State.SameRefs.devOf : t.devOf = s.devOf := by
  funext n
  simp only [State.devOf, State.devOne, State.devMean, h.refOthers, h.refAgree, h.devRatio]

end

/-- The state in which a cycle is judged: the outcome of its self-check, and the advisory where no fitted reference
agrees with the selected one (R38, R40). -/
def State.selfChecked (s : State) (ok : Bool) : State :=
  let s := s.setB R.RFM_STAT_SELFCHK (!ok)
  if s.refAlone then s.advise 2 else s

theorem State.get_selfChecked_apart (s : State) (ok : Bool) {f : Fld} (h : R.RFM_STAT_SELFCHK.apart f = true)
    (hf : f.pd ≠ 0) : (s.selfChecked ok).get f = s.get f := by
  unfold State.selfChecked
  dsimp only
  split
  · rw [State.get_advise_apart _ _ hf, State.get_setB_apart s h]
  · exact State.get_setB_apart s h _

theorem State.get_selfChecked (s : State) (ok : Bool) : (s.selfChecked ok).get R.RFM_STAT_SELFCHK = b2n (!ok) := by
  unfold State.selfChecked
  dsimp only
  split
  · rw [State.get_advise_apart _ _ (by decide), State.get_setB_bit s rfl]
  · exact State.get_setB_bit s rfl _

@[simp] theorem State.selfChecked_rfm (s : State) (ok : Bool) : (s.selfChecked ok).rfm = s.rfm := by
  unfold State.selfChecked
  dsimp only
  split
  · exact State.advise_rfm ..
  · rfl

theorem State.sameRefs_selfChecked (s : State) (ok : Bool) : s.SameRefs (s.selfChecked ok) := by
  intro f hf
  have hc : R.RFM_STAT_SELFCHK.apart f = true ∧ f.pd ≠ 0 := by
    revert f
    decide
  exact State.get_selfChecked_apart s ok hc.1 hc.2

theorem State.rfmCycle_failed (s : State) :
    s.rfmCycle false = ((s.selfChecked false).flagRise R.RFM_STAT_FAULT 134).advise 2 := rfl

section
variable (s : State)

theorem State.selfChecked_active (ok : Bool) :
    (s.selfChecked ok).get R.RFM_STAT_ACTIVE = s.get R.RFM_STAT_ACTIVE :=
  State.get_selfChecked_apart s ok rfl (by decide)

theorem State.selfChecked_others (ok : Bool) : (s.selfChecked ok).refOthers ((s.selfChecked ok).get R.RFM_STAT_ACTIVE) =
    s.refOthers (s.get R.RFM_STAT_ACTIVE) := by
  rw [State.selfChecked_active, (State.sameRefs_selfChecked s ok).refOthers]

theorem State.selfChecked_dev (ok : Bool) : (s.selfChecked ok).devOf ((s.selfChecked ok).get R.RFM_STAT_ACTIVE) =
    s.devOf (s.get R.RFM_STAT_ACTIVE) := by
  rw [State.selfChecked_active, (State.sameRefs_selfChecked s ok).devOf]

theorem State.rfmCycle_alone (h : s.refOthers (s.get R.RFM_STAT_ACTIVE) = []) :
    s.rfmCycle true = (s.selfChecked true).set R.RFM_GCORR 0 := by
  have hl := (State.selfChecked_others s true).trans h
  generalize hv : s.selfChecked true = v at hl ⊢
  unfold State.rfmCycle
  extract_lets s1 s2
  obtain rfl : s2 = v := hv
  rw [if_neg (by decide), hl]

theorem State.rfmCycle_noMajority (h : s.refOthers (s.get R.RFM_STAT_ACTIVE) ≠ [])
    (hd : s.devOf (s.get R.RFM_STAT_ACTIVE) = none) : s.rfmCycle true = (s.selfChecked true).noMajority := by
  have hl := (State.selfChecked_others s true).trans_ne h
  have hn := (State.selfChecked_dev s true).trans hd
  generalize hv : s.selfChecked true = v at hl hn ⊢
  unfold State.rfmCycle
  extract_lets s1 s2
  obtain rfl : s2 = v := hv
  rw [if_neg (by decide), hn]
  split
  · contradiction
  · rfl

theorem State.rfmCycle_judge (h : s.refOthers (s.get R.RFM_STAT_ACTIVE) ≠ []) {d : Int}
    (hd : s.devOf (s.get R.RFM_STAT_ACTIVE) = some d) : s.rfmCycle true = (s.selfChecked true).rfmJudge d := by
  have hl := (State.selfChecked_others s true).trans_ne h
  have hn := (State.selfChecked_dev s true).trans hd
  generalize hv : s.selfChecked true = v at hl hn ⊢
  unfold State.rfmCycle
  extract_lets s1 s2
  obtain rfl : s2 = v := hv
  rw [if_neg (by decide), hn]
  split
  · contradiction
  · rfl

end

/-- A flag that a fault of the monitor raises is set, with the cause of the advisory (R39, R40). -/
theorem State.fault_advise_shows (s : State) :
    ((s.flagRise R.RFM_STAT_FAULT 134).advise 2).flag R.RFM_STAT_FAULT = true
      ∧ ((s.flagRise R.RFM_STAT_FAULT 134).advise 2).bit R.HLT_CAUSE 2 = true := by
  refine ⟨?_, State.bit_advise _ (by decide)⟩
  rw [State.flag, State.get_advise_apart _ _ (by decide)]
  exact State.flag_flagRise s rfl (by decide) 134

/-- A cycle whose self-check fails sets SELFCHK and FAULT, raises the advisory and keeps the gain correction. -/
theorem State.rfmCycle_failed_shows (s : State) :
    (s.rfmCycle false).get R.RFM_STAT_SELFCHK = 1 ∧ (s.rfmCycle false).flag R.RFM_STAT_FAULT = true
      ∧ (s.rfmCycle false).bit R.HLT_CAUSE 2 = true ∧ (s.rfmCycle false).get R.RFM_GCORR = s.get R.RFM_GCORR
      ∧ (s.rfmCycle false).rfm = s.rfm := by
  obtain ⟨hfault, hcause⟩ := State.fault_advise_shows (s.selfChecked false)
  rw [State.rfmCycle_failed]
  refine ⟨?_, hfault, hcause, ?_, by simp⟩
  · rw [State.get_advise_apart _ _ (by decide), State.get_flagRise_apart _ rfl (by decide), State.get_selfChecked]
    rfl
  · rw [State.get_advise_apart _ _ (by decide), State.get_flagRise_apart _ rfl (by decide),
      State.get_selfChecked_apart _ _ rfl (by decide)]

theorem State.noMajority_shows (s : State) :
    s.noMajority.get R.RFM_STAT_NOMAJ = 1 ∧ s.noMajority.flag R.RFM_STAT_FAULT = true
      ∧ s.noMajority.bit R.HLT_CAUSE 2 = true := by
  obtain ⟨hfault, hcause⟩ := State.fault_advise_shows (s.set R.RFM_STAT_NOMAJ 1)
  refine ⟨?_, hfault, hcause⟩
  rw [State.noMajority, State.get_advise_apart _ _ (by decide), State.get_flagRise_apart _ rfl (by decide),
    State.get_set]
  rfl

theorem State.get_noMajority_apart (s : State) {f : Fld} (hn : R.RFM_STAT_NOMAJ.apart f = true)
    (hf : R.RFM_STAT_FAULT.apart f = true) (h0 : f.pd ≠ 0) (h6 : f.pd ≠ 6) : s.noMajority.get f = s.get f := by
  rw [State.noMajority, State.get_advise_apart _ _ h0, State.get_flagRise_apart _ hf h6, State.get_set_apart _ hn]

/-- The decision of a switch changes no register but HELD. -/
theorem State.get_rfmDecide_apart (s : State) (d : Int) {f : Fld} (h : R.RFM_STAT_HELD.apart f = true)
    (h6 : f.pd ≠ 6) : (s.rfmDecide d).get f = s.get f := by
  unfold State.rfmDecide
  split
  · split
    · split
      · exact State.get_flagRise_apart s h h6 135
      · split <;> rfl
    · rfl
  · rfl

/-- Beyond the outer window, with two other references that agree, a switch is held within the hold-off and decided
otherwise (R37, R38). -/
theorem State.rfmDecide_shows (s : State) {d : Int} {x y : Nat} (hl : s.refOthers (s.get R.RFM_STAT_ACTIVE) = [x, y])
    (ho : s.get R.RFM_WIN_OUTER < d.natAbs) (ha : s.refAgree x y = true) (hs : s.flag R.RFM_CFG_SWEN = true) :
    (s.rfm.holdoff = true → (s.rfmDecide d).flag R.RFM_STAT_HELD = true ∧ (s.rfmDecide d).rfm = s.rfm)
      ∧ (s.rfm.holdoff = false → s.rfm.next = none → (s.rfmDecide d).rfm.next = some x) := by
  have decided : s.rfmDecide d = if s.rfm.holdoff then s.flagRise R.RFM_STAT_HELD 135
      else if s.rfm.next = none then { s with rfm := { s.rfm with next := some x } } else s := by
    rw [State.rfmDecide, hl]
    exact if_pos ⟨ho, ha, hs⟩
  rw [decided]
  refine ⟨fun h => ?_, fun h hn => ?_⟩
  · rw [if_pos h]
    exact ⟨State.flag_flagRise s rfl (by decide) 135, State.flagRise_rfm ..⟩
  · rw [if_neg (by simp [h]), if_pos hn]

/-- The INNER flag is raised beyond the inner window (R36). -/
def State.innerRaised (s : State) (d : Int) : State :=
  if s.get R.RFM_WIN_INNER < d.natAbs then s.flagRise R.RFM_STAT_INNER 132 else s

theorem State.get_innerRaised_apart (s : State) (d : Int) {f : Fld} (h : R.RFM_STAT_INNER.apart f = true)
    (h6 : f.pd ≠ 6) : (s.innerRaised d).get f = s.get f := by
  unfold State.innerRaised
  split
  · exact State.get_flagRise_apart s h h6 132
  · rfl

@[simp] theorem State.innerRaised_rfm (s : State) (d : Int) : (s.innerRaised d).rfm = s.rfm := by
  unfold State.innerRaised
  split
  · exact State.flagRise_rfm ..
  · rfl

/-- Two references that disagree beyond the outer window have no majority (R41). -/
theorem State.rfmJudge_two (s : State) {d : Int}
    (hl : (s.refOthers (s.get R.RFM_STAT_ACTIVE)).length = 1) (ho : s.get R.RFM_WIN_OUTER < d.natAbs) :
    s.rfmJudge d = (s.innerRaised d).noMajority := by
  have ho' : (s.innerRaised d).get R.RFM_WIN_OUTER < d.natAbs := by
    rwa [State.get_innerRaised_apart _ _ rfl (by decide)]
  unfold State.rfmJudge
  extract_lets two beyond v
  have hv : v = s.innerRaised d := by simp [v, beyond, State.innerRaised]
  rw [hv, if_pos (by simp [two, hl, ho'])]

/-- The gain correction moves toward `d` beyond the inner window and toward 0 within it (R36). -/
def State.gainMoved (s : State) (d : Int) : State :=
  let v := (s.innerRaised d).set R.RFM_STAT_NOMAJ 0
  v.sets R.RFM_GCORR (gcorrStep (s.gets R.RFM_GCORR) (if s.get R.RFM_WIN_INNER < d.natAbs then d else 0))

theorem State.rfmJudge_majority (s : State) {d : Int}
    (h : (s.refOthers (s.get R.RFM_STAT_ACTIVE)).length = 1 → d.natAbs ≤ s.get R.RFM_WIN_OUTER) :
    s.rfmJudge d = (s.gainMoved d).rfmDecide d := by
  have ho : (s.innerRaised d).get R.RFM_WIN_OUTER = s.get R.RFM_WIN_OUTER :=
    State.get_innerRaised_apart s d rfl (by decide)
  have hg : ((s.innerRaised d).set R.RFM_STAT_NOMAJ 0).gets R.RFM_GCORR = s.gets R.RFM_GCORR := by
    rw [State.gets, State.get_set_apart _ rfl, State.get_innerRaised_apart _ _ rfl (by decide), State.gets]
  unfold State.rfmJudge
  extract_lets two beyond v w moved
  have hv : v = s.innerRaised d := by simp [v, beyond, State.innerRaised]
  have hn : ¬(two && decide (v.get R.RFM_WIN_OUTER < d.natAbs)) = true := by simpa [two, hv, ho] using h
  have hm : moved = s.gainMoved d := by simp only [moved, w, hv, hg, beyond, decide_eq_true_eq, State.gainMoved]
  rw [if_neg hn, hm]

theorem gcorrStep_bounds (now target : Int) : -2097 ≤ gcorrStep now target ∧ gcorrStep now target ≤ 2097 := by
  unfold gcorrStep satI
  generalize (if now < target then min target (now + 32) else max target (now - 32)) = x
  split
  · omega
  · split <;> omega

theorem State.get_gainMoved_apart (s : State) (d : Int) {f : Fld} (hi : R.RFM_STAT_INNER.apart f = true)
    (hn : R.RFM_STAT_NOMAJ.apart f = true) (hg : R.RFM_GCORR.apart f = true) (h6 : f.pd ≠ 6) :
    (s.gainMoved d).get f = s.get f := by
  rw [State.gainMoved, State.get_sets_apart _ hg, State.get_set_apart _ hn, State.get_innerRaised_apart _ _ hi h6]

theorem State.sameRefs_gainMoved (s : State) (d : Int) : s.SameRefs (s.gainMoved d) := by
  intro f hf
  have hc : R.RFM_STAT_INNER.apart f = true ∧ R.RFM_STAT_NOMAJ.apart f = true ∧ R.RFM_GCORR.apart f = true
      ∧ f.pd ≠ 6 := by
    revert f
    decide
  obtain ⟨hi, hn, hg, h6⟩ := hc
  exact State.get_gainMoved_apart s d hi hn hg h6

theorem State.gainMoved_rfm (s : State) (d : Int) : (s.gainMoved d).rfm = s.rfm := State.innerRaised_rfm s d

theorem State.gainMoved_shows (s : State) (d : Int) :
    (s.gainMoved d).get R.RFM_STAT_NOMAJ = 0
      ∧ (s.get R.RFM_WIN_INNER < d.natAbs → (s.gainMoved d).flag R.RFM_STAT_INNER = true)
      ∧ (s.gainMoved d).gets R.RFM_GCORR =
          gcorrStep (s.gets R.RFM_GCORR) (if s.get R.RFM_WIN_INNER < d.natAbs then d else 0) := by
  refine ⟨?_, fun h => ?_, ?_⟩
  · rw [State.gainMoved, State.get_sets_apart _ rfl, State.get_set, Nat.zero_mod]
  · rw [State.gainMoved, State.flag, State.get_sets_apart _ rfl, State.get_set_apart _ rfl, State.innerRaised, if_pos h]
    exact State.flag_flagRise s rfl (by decide) 132
  · obtain ⟨lo, hi⟩ := gcorrStep_bounds (s.gets R.RFM_GCORR) (if s.get R.RFM_WIN_INNER < d.natAbs then d else 0)
    exact State.gets_sets _ (by decide) (le_trans (by decide) lo) (lt_of_le_of_lt hi (by decide))

/-- A cycle with a majority clears NOMAJ, moves the gain correction, and decides on a switch (R36 to R38). -/
theorem State.rfmJudge_majority_shows (s : State) {d : Int}
    (h : (s.refOthers (s.get R.RFM_STAT_ACTIVE)).length = 1 → d.natAbs ≤ s.get R.RFM_WIN_OUTER) :
    (s.rfmJudge d).get R.RFM_STAT_NOMAJ = 0
      ∧ (s.get R.RFM_WIN_INNER < d.natAbs → (s.rfmJudge d).flag R.RFM_STAT_INNER = true)
      ∧ (s.rfmJudge d).gets R.RFM_GCORR =
          gcorrStep (s.gets R.RFM_GCORR) (if s.get R.RFM_WIN_INNER < d.natAbs then d else 0)
      ∧ ∀ x y, s.refOthers (s.get R.RFM_STAT_ACTIVE) = [x, y] → s.get R.RFM_WIN_OUTER < d.natAbs →
          s.refAgree x y = true → s.flag R.RFM_CFG_SWEN = true →
          (s.rfm.holdoff = true → (s.rfmJudge d).flag R.RFM_STAT_HELD = true ∧ (s.rfmJudge d).rfm = s.rfm)
            ∧ (s.rfm.holdoff = false → s.rfm.next = none → (s.rfmJudge d).rfm.next = some x) := by
  obtain ⟨hnomaj, hinner, hgcorr⟩ := State.gainMoved_shows s d
  have hs := State.sameRefs_gainMoved s d
  have same {f : Fld} (hi : R.RFM_STAT_INNER.apart f = true) (hn : R.RFM_STAT_NOMAJ.apart f = true)
      (hg : R.RFM_GCORR.apart f = true) (h6 : f.pd ≠ 6) := State.get_gainMoved_apart s d hi hn hg h6
  rw [State.rfmJudge_majority s h]
  refine ⟨?_, fun hi => ?_, ?_, fun x y hl ho ha hsw => ?_⟩
  · rw [State.get_rfmDecide_apart _ _ rfl (by decide), hnomaj]
  · rw [State.flag, State.get_rfmDecide_apart _ _ rfl (by decide)]
    exact hinner hi
  · rw [State.gets, State.get_rfmDecide_apart _ _ rfl (by decide)]
    exact hgcorr
  · have decided := State.rfmDecide_shows (s.gainMoved d) (d := d) (x := x) (y := y)
      (by rw [hs.refOthers, same rfl rfl rfl (by decide), hl]) (by rwa [same rfl rfl rfl (by decide)])
      (by rw [hs.refAgree, ha]) (by rwa [State.flag, same rfl rfl rfl (by decide)])
    rwa [State.gainMoved_rfm] at decided

theorem State.get_rfmJudge_selfchk (s : State) (d : Int) :
    (s.rfmJudge d).get R.RFM_STAT_SELFCHK = s.get R.RFM_STAT_SELFCHK := by
  by_cases h : (s.refOthers (s.get R.RFM_STAT_ACTIVE)).length = 1 ∧ s.get R.RFM_WIN_OUTER < d.natAbs
  · rw [State.rfmJudge_two s h.1 h.2, State.get_noMajority_apart _ rfl rfl (by decide) (by decide),
      State.get_innerRaised_apart _ _ rfl (by decide)]
  · rw [State.rfmJudge_majority s (by omega), State.get_rfmDecide_apart _ _ rfl (by decide),
      State.get_gainMoved_apart _ _ rfl rfl rfl (by decide)]

theorem State.rfmCycle_selfchk (s : State) : (s.rfmCycle true).get R.RFM_STAT_SELFCHK = 0 := by
  have hv : (s.selfChecked true).get R.RFM_STAT_SELFCHK = 0 := State.get_selfChecked s true
  by_cases hl : s.refOthers (s.get R.RFM_STAT_ACTIVE) = []
  · rw [State.rfmCycle_alone s hl, State.get_set_apart _ rfl, hv]
  · cases hd : s.devOf (s.get R.RFM_STAT_ACTIVE) with
    | none => rw [State.rfmCycle_noMajority s hl hd, State.get_noMajority_apart _ rfl rfl (by decide) (by decide), hv]
    | some d => rw [State.rfmCycle_judge s hl hd, State.get_rfmJudge_selfchk, hv]

/-- What a cycle with no majority shows, of three references or of two (R39, R41). -/
theorem State.rfmCycle_noMajority_shows (s : State)
    (h : (s.refOthers (s.get R.RFM_STAT_ACTIVE) ≠ [] ∧ s.devOf (s.get R.RFM_STAT_ACTIVE) = none)
      ∨ (∃ m d, s.refOthers (s.get R.RFM_STAT_ACTIVE) = [m] ∧ s.devOf (s.get R.RFM_STAT_ACTIVE) = some d
          ∧ s.get R.RFM_WIN_OUTER < d.natAbs)) :
    (s.rfmCycle true).get R.RFM_STAT_NOMAJ = 1 ∧ (s.rfmCycle true).flag R.RFM_STAT_FAULT = true
      ∧ (s.rfmCycle true).bit R.HLT_CAUSE 2 = true ∧ (s.rfmCycle true).get R.RFM_GCORR = s.get R.RFM_GCORR
      ∧ (s.rfmCycle true).get R.RFM_STAT_ACTIVE = s.get R.RFM_STAT_ACTIVE := by
  obtain ⟨v, hv, hg, ha⟩ : ∃ v : State, s.rfmCycle true = v.noMajority ∧ v.get R.RFM_GCORR = s.get R.RFM_GCORR
      ∧ v.get R.RFM_STAT_ACTIVE = s.get R.RFM_STAT_ACTIVE := by
    have hg := State.get_selfChecked_apart s true (f := R.RFM_GCORR) rfl (by decide)
    have ha := State.selfChecked_active s true
    have ho := State.get_selfChecked_apart s true (f := R.RFM_WIN_OUTER) rfl (by decide)
    have hm := State.selfChecked_others s true
    rcases h with ⟨hl, hd⟩ | ⟨m, d, hl, hd, hout⟩
    · exact ⟨_, State.rfmCycle_noMajority s hl hd, hg, ha⟩
    · refine ⟨(s.selfChecked true).innerRaised d, ?_, ?_, ?_⟩
      · rw [State.rfmCycle_judge s (by simp [hl]) hd]
        exact State.rfmJudge_two _ (by rw [hm, hl]; rfl) (by rwa [ho])
      · rw [State.get_innerRaised_apart _ _ rfl (by decide), hg]
      · rw [State.get_innerRaised_apart _ _ rfl (by decide), ha]
  obtain ⟨hnomaj, hfault, hcause⟩ := State.noMajority_shows v
  rw [hv]
  refine ⟨hnomaj, hfault, hcause, ?_, ?_⟩
  · rw [State.get_noMajority_apart _ rfl rfl (by decide) (by decide), hg]
  · rw [State.get_noMajority_apart _ rfl rfl (by decide) (by decide), ha]

theorem State.rfmCycle_majority_shows (s : State) {d : Int} (hl : s.refOthers (s.get R.RFM_STAT_ACTIVE) ≠ [])
    (hd : s.devOf (s.get R.RFM_STAT_ACTIVE) = some d)
    (h : (s.refOthers (s.get R.RFM_STAT_ACTIVE)).length = 1 → d.natAbs ≤ s.get R.RFM_WIN_OUTER) :
    (s.rfmCycle true).get R.RFM_STAT_NOMAJ = 0
      ∧ (s.get R.RFM_WIN_INNER < d.natAbs → (s.rfmCycle true).flag R.RFM_STAT_INNER = true)
      ∧ (s.rfmCycle true).gets R.RFM_GCORR =
          gcorrStep (s.gets R.RFM_GCORR) (if s.get R.RFM_WIN_INNER < d.natAbs then d else 0)
      ∧ ∀ x y, s.refOthers (s.get R.RFM_STAT_ACTIVE) = [x, y] → s.get R.RFM_WIN_OUTER < d.natAbs →
          s.refAgree x y = true → s.flag R.RFM_CFG_SWEN = true →
          (s.rfm.holdoff = true → (s.rfmCycle true).flag R.RFM_STAT_HELD = true ∧ (s.rfmCycle true).rfm = s.rfm)
            ∧ (s.rfm.holdoff = false → s.rfm.next = none → (s.rfmCycle true).rfm.next = some x) := by
  have hi := (State.sameRefs_selfChecked s true) R.RFM_WIN_INNER (by decide)
  have ho := State.get_selfChecked_apart s true (f := R.RFM_WIN_OUTER) rfl (by decide)
  have hsw := State.get_selfChecked_apart s true (f := R.RFM_CFG_SWEN) rfl (by decide)
  have hg := State.get_selfChecked_apart s true (f := R.RFM_GCORR) rfl (by decide)
  have judged := State.rfmJudge_majority_shows (s.selfChecked true) (d := d)
    (by rw [State.selfChecked_others, ho]; exact h)
  rw [State.rfmCycle_judge s hl hd]
  simp only [State.selfChecked_others, (State.sameRefs_selfChecked s true).refAgree, State.selfChecked_rfm, State.flag,
    State.gets, hi, ho, hsw, hg] at judged
  exact judged

/-! ### The switch of the selected reference (R37, R38) -/

/-- The monitor with reference `n` selected by a switch, and its event. -/
def State.refSwitched (s : State) (n : Nat) : State :=
  let u := { s with rfm := { s.rfm with next := none, holdoff := true, switched := true } }.set R.RFM_STAT_ACTIVE n
  ((u.sets R.RFM_GCORR (satS 16 ((s.devOf n).getD (s.gets R.RFM_GCORR)))).set R.RFM_STAT_SWITCHED 1).raise 133

/-- A second switch is an advisory (R38). -/
def State.switchAdvised (s : State) (n : Nat) : State :=
  if s.rfm.switched then (s.refSwitched n).advise 2 else s.refSwitched n

theorem State.switchAdvised_rfm (s : State) (n : Nat) :
    (s.switchAdvised n).rfm = { s.rfm with next := none, holdoff := true, switched := true } := by
  have hr : (s.refSwitched n).rfm = { s.rfm with next := none, holdoff := true, switched := true } := State.raise_rfm ..
  unfold State.switchAdvised
  split
  · exact (State.advise_rfm ..).trans hr
  · exact hr

theorem State.switchAdvised_time (s : State) (n : Nat) : (s.switchAdvised n).time = s.time := by
  have ht : (s.refSwitched n).time = s.time := State.raise_time ..
  unfold State.switchAdvised
  split
  · exact (State.advise_time ..).trans ht
  · exact ht

theorem State.switchAdvised_adc (s : State) (n : Nat) : (s.switchAdvised n).adc = s.adc := by
  have ha : (s.refSwitched n).adc = s.adc := State.raise_adc ..
  unfold State.switchAdvised
  split
  · exact (State.advise_adc ..).trans ha
  · exact ha

theorem State.get_switchAdvised (s : State) (n : Nat) {f : Fld} (h0 : f.pd ≠ 0) :
    (s.switchAdvised n).get f = (s.refSwitched n).get f := by
  unfold State.switchAdvised
  split
  · exact State.get_advise_apart _ _ h0
  · rfl

theorem State.rfmSwitch_eq (s : State) {n : Nat} (spans : Nat → Bool) (hn : s.rfm.next = some n) (h : s.on 7 = true)
    (hc : s.flag R.RFM_STAT_SELFCHK = false) :
    s.rfmSwitch spans = { ((s.switchAdvised n).inc R.RFM_SWCNT).set R.RFM_LASTSW s.time.tb.toNat with
      adc := Vector.ofFn fun i => if spans i.val && (s.adc.at i.val).busy
        then { s.adc.at i.val with spans := true } else s.adc.at i.val } := by
  unfold State.rfmSwitch
  split
  case h_1 he => simp [he] at hn
  case h_2 m he =>
    obtain rfl : m = n := Option.some.inj (he.symm.trans hn)
    rw [if_neg (by simp [h, hc])]
    extract_lets again r v u g w a c
    have hdev : u.devOf m = s.devOf m := congrFun (State.SameRefs.devOf fun f hf => by
      have hf' : R.RFM_STAT_ACTIVE.apart f = true := by
        revert f
        decide
      exact State.get_set_apart v hf' m) m
    have hgets : u.gets R.RFM_GCORR = s.gets R.RFM_GCORR :=
      congrArg (sx 16) (State.get_set_apart v (f := R.RFM_STAT_ACTIVE) rfl m)
    have hw : w = s.refSwitched m := by
      simp only [w, g, hdev, hgets]
      rfl
    have ha : a = s.switchAdvised m := by simp only [a, hw, again, State.switchAdvised]
    have hc : c = ((s.switchAdvised m).inc R.RFM_SWCNT).set R.RFM_LASTSW s.time.tb.toNat := by
      simp only [c, ha, State.switchAdvised_time]
    have hadc : c.adc = s.adc := by simp only [hc, State.set_adc, State.inc_adc, State.switchAdvised_adc]
    rw [hadc, hc]

theorem State.refSwitched_shows (s : State) {n : Nat} (h : n < 3) :
    (s.refSwitched n).get R.RFM_STAT_ACTIVE = n ∧ (s.refSwitched n).get R.RFM_STAT_SWITCHED = 1
      ∧ (s.refSwitched n).gets R.RFM_GCORR = satS 16 ((s.devOf n).getD (s.gets R.RFM_GCORR))
      ∧ (s.refSwitched n).get R.RFM_SWCNT = s.get R.RFM_SWCNT := by
  refine ⟨?_, ?_, ?_, ?_⟩
  · rw [State.refSwitched, State.get_raise_apart _ _ (by decide), State.get_set_apart _ rfl, State.get_sets_apart _ rfl]
    exact State.get_set_of_lt _ (h.trans (by decide))
  · rw [State.refSwitched, State.get_raise_apart _ _ (by decide), State.get_set]
    rfl
  · rw [State.gets, State.refSwitched, State.get_raise_apart _ _ (by decide), State.get_set_apart _ rfl]
    exact State.gets_sets_satS _ (f := R.RFM_GCORR) (by decide) _
  · rw [State.refSwitched, State.get_raise_apart _ _ (by decide), State.get_set_apart _ rfl, State.get_sets_apart _ rfl,
      State.get_set_apart _ rfl]
    rfl

/-- What a switch to reference `n` shows: its gain correction, the flag, the count, the pick, the hold-off, the advisory
of a second switch, and the results of `spans` that span it. -/
theorem State.rfmSwitch_shows (s : State) {n : Nat} (spans : Nat → Bool) (hn : s.rfm.next = some n) (h3 : n < 3)
    (h : s.on 7 = true) (hc : s.flag R.RFM_STAT_SELFCHK = false) :
    let t := s.rfmSwitch spans
    t.get R.RFM_STAT_ACTIVE = n ∧ t.get R.RFM_STAT_SWITCHED = 1
      ∧ t.rfm.next = none ∧ t.rfm.holdoff = true ∧ t.get R.RFM_SWCNT = min 0xFF (s.get R.RFM_SWCNT + 1)
      ∧ t.get R.RFM_LASTSW = s.time.tb.toNat % 2 ^ 32
      ∧ t.gets R.RFM_GCORR = satS 16 ((s.devOf n).getD (s.gets R.RFM_GCORR))
      ∧ (s.rfm.switched = true → t.bit R.HLT_CAUSE 2 = true)
      ∧ ∀ i : Fin 8, (t.adc.at i).spans = ((s.adc.at i).spans || (spans i && (s.adc.at i).busy)) := by
  intro t
  obtain ⟨hactive, hswitched, hgcorr, hcount⟩ := State.refSwitched_shows s h3
  have ht : t = _ := State.rfmSwitch_eq s spans hn h hc
  have hget (f : Fld) : t.get f = (((s.switchAdvised n).inc R.RFM_SWCNT).set R.RFM_LASTSW s.time.tb.toNat).get f := by
    rw [ht]
    rfl
  have kept {f : Fld} (hl : R.RFM_LASTSW.apart f = true) (hs : R.RFM_SWCNT.apart f = true) :
      t.get f = (s.switchAdvised n).get f := by
    rw [hget, State.get_set_apart _ hl, State.get_inc_apart _ hs]
  have hrfm : t.rfm = { s.rfm with next := none, holdoff := true, switched := true } := by
    rw [ht]
    exact State.switchAdvised_rfm s n
  refine ⟨?_, ?_, by rw [hrfm], by rw [hrfm], ?_, ?_, ?_, fun hs => ?_, fun i => ?_⟩
  · rw [kept rfl rfl, State.get_switchAdvised s n (by decide), hactive]
  · rw [kept rfl rfl, State.get_switchAdvised s n (by decide), hswitched]
  · rw [hget, State.get_set_apart _ rfl, State.get_inc, State.get_switchAdvised s n (by decide), hcount]
    rfl
  · rw [hget, State.get_set]
    rfl
  · rw [State.gets, kept rfl rfl, State.get_switchAdvised s n (by decide)]
    exact hgcorr
  · rw [State.bit, kept rfl rfl, State.switchAdvised, if_pos hs]
    exact State.bit_advise _ (by decide)
  · have hadc : t.adc.at i = if spans i && (s.adc.at i).busy then { s.adc.at i with spans := true } else s.adc.at i := by
      rw [ht]
      simp [Bank.at, Vector.getD]
    rw [hadc]
    cases spans i <;> cases (s.adc.at i).busy <;> simp

theorem exec_rfmReferenceSwitch (spans : BitVec 8) (s : State) : exec (.rfmReferenceSwitch spans) s =
    .next (s.rfmSwitch fun i => spans.getLsbD i && decide ((s.adc.at i).avg ≠ 0)) := rfl

theorem exec_rfmSwitchDeadline (spans : BitVec 8) (s : State) :
    exec (.rfmSwitchDeadline spans) s = .next (s.rfmSwitch fun i => spans.getLsbD i) := rfl

/-! ### The statement -/

/-- Settles O20: each clause is one command or one operation, of which a lemma above says once what it shows. -/
theorem comparatorsAndReferences : Obligations.ComparatorsAndReferences := by
  unfold Obligations.ComparatorsAndReferences
  refine ⟨fun j a r edges s h he ha => ⟨fun hf => ?_, fun hf => ?_⟩,
    fun j vin r edges s h => State.cmpRaw_of_no_slope s j vin r edges h,
    fun j s => ⟨State.cmpRefresh_still s, fun hl ho => ?_, State.cmpRefresh_fall s⟩, fun j s h he => ?_, fun j s => ?_,
    fun q r v s h => ?_, fun vi va vb ok s h => ?_, State.rfmCycle_failed_shows, fun u => ?_,
    fun n spans s hn h3 h hc => ⟨?_, ?_⟩, fun s => rfl, fun q v s h => ?_⟩
  · have hexec := exec_comparatorCrossing j a r edges s h he ha
    rw [if_neg hf] at hexec
    exact ⟨_, hexec, State.setRaw_shows s j _⟩
  · have hexec := exec_comparatorCrossing j a r edges s h he ha
    rw [if_pos hf, State.cmpFilter_eq, (State.setRaw_shows s j _).1] at hexec
    exact ⟨_, hexec, State.setRaw_withFilt_shows s j.isLt _⟩
  · exact ⟨_, State.cmpRefresh_rise s hl ho, State.cmpRisen_shows s j⟩
  · have hat := State.withFilt_at s j.isLt (s.flag (R.CMP_STAT_RAW j))
    exact ⟨_, exec_cmpFilterSettled j s h he, by rw [hat], by rw [hat], State.withFilt_onlyIn s j _⟩
  · have hat := State.unblanked_at s j.isLt
    exact ⟨_, exec_cmpBlankingEnd j s, by rw [hat], by rw [hat], State.unblanked_onlyIn s j⟩
  · exact ⟨_, exec_dacWrite q r v s h, State.dacWrite_shows s q r v.toNat⟩
  · intro d
    obtain ⟨ha, hb, hab, hregs⟩ := State.rfmPublish_shows s.freeN.2 d.1 d.2.1 d.2.2
    exact ⟨_, exec_rfmMeasurementCycleEnd vi va vb ok s h, ha, hb, hab, hregs, State.rfmPublish_onlyIn ..⟩
  · refine ⟨State.rfmCycle_selfchk u, fun hl => ?_, State.rfmCycle_noMajority_shows u,
      fun d hl hd hout => State.rfmCycle_majority_shows u hl hd hout⟩
    rw [State.rfmCycle_alone u hl, State.get_set, Nat.zero_mod]
  · exact ⟨_, exec_rfmReferenceSwitch spans s, State.rfmSwitch_shows s _ hn h3 h hc⟩
  · exact ⟨_, exec_rfmSwitchDeadline spans s, State.rfmSwitch_shows s _ hn h3 h hc⟩
  · exact ⟨_, exec_rfmWinWrite q v s h, State.writeRfmWin_shows (s.reply q.req .ok 0) q v.toNat⟩

end Sys2Proof.Machine
end

section
/-!
PROOFS of the statement on the shedding groups and the Heddle matrix (O23, R58, R64, R128).
-/

namespace Sys2Proof.Machine

/-! ### Registers of RW fields above the ICU (R8) -/

/-- An RW field of a register above SYS and ICU takes its bits of the word. -/
theorem State.get_writeReg_rw (s : State) (q : Who) {a : Nat} (v : Nat) {f : Fld} (hf : f ∈ regFields a)
    (hn : (regFields a).Nodup) (ha : 0x5000 ≤ f.addr) (h : f.acc = .rw) :
    (s.writeReg q a v).get f = v / 2 ^ f.lo % 2 ^ f.w :=
  (State.get_writeReg s q a v (by simp [h]) ha hn hf).trans (State.get_writeFld_rw s q v h)

/-! ### Shedding groups (R64) -/

theorem shedCfg_in_map : ∀ g : Fin 2, (regFields (0x7200 + 0x20 * g.val)).Nodup
    ∧ ∀ f ∈ [R.SHED_CFG_EN g, R.SHED_CFG_DWELL g, R.SHED_CFG_NNOM g], f ∈ regFields (0x7200 + 0x20 * g.val) := by
  decide

/-- What a write of SHEDg_CFG gives the enable, the dwell and the nominal count. -/
theorem State.writeShedCfg_fields (s : State) (q : Who) (g : Fin 2) (v : Nat) :
    let w := s.writeReg q (0x7200 + 0x20 * g.val) v
    w.flag (R.SHED_CFG_EN g) = v.testBit 31 ∧ w.get (R.SHED_CFG_DWELL g) = v / 2 ^ 16 % 256
      ∧ w.get (R.SHED_CFG_NNOM g) = v / 16 % 16 := by
  obtain ⟨hn, hm⟩ := shedCfg_in_map g
  have shown {f : Fld} (hf : f ∈ [R.SHED_CFG_EN g, R.SHED_CFG_DWELL g, R.SHED_CFG_NNOM g])
      (ha : 0x5000 ≤ f.addr) (h : f.acc = .rw) :
      (s.writeReg q (0x7200 + 0x20 * g.val) v).get f = v / 2 ^ f.lo % 2 ^ f.w :=
    State.get_writeReg_rw s q v (hm f hf) hn ha h
  have above : 0x5000 ≤ 0x7200 + 0x20 * g.val := by omega
  refine ⟨?_, shown (by simp) above rfl, shown (by simp) above rfl⟩
  rw [State.flag, shown (by simp) above rfl, Nat.testBit_eq_decide_div_mod_eq]
  simp [R.SHED_CFG_EN]

theorem State.get_foldl_shedMember (out : Bool) (f : Fld) : ∀ (ks : List Nat) (s : State),
    (ks.foldl (fun s k => s.shedMember k out) s).get f = s.get f
  | [], _ => rfl
  | k :: ks, s => State.get_foldl_shedMember out f ks (s.shedMember k out)

/-- A change of the active phases shows in the count and in CHANGE alone; the pairs and lanes follow. -/
theorem State.get_shedTo (s : State) (g n : Nat) (f : Fld) :
    (s.shedTo g n).get f = ((s.set (R.SHED_STAT_N g) n).set (R.SHED_STAT_CHANGE g) 1).get f :=
  (State.get_foldl_shedMember true f _ _).trans (State.get_foldl_shedMember false f _ _)

/-- A sound group starts at its nominal count, and its first change need not wait (R64). -/
theorem State.enableShed_shows (s : State) {g : Nat} (hg : g < 2) (hn : s.get (R.SHED_CFG_NNOM g) < 16)
    (h : s.shedBad g = false) :
    (s.enableShed g).get (R.SHED_STAT_N g) = s.get (R.SHED_CFG_NNOM g)
      ∧ (s.enableShed g).shed.at g = { below := 0, since := s.get (R.SHED_CFG_DWELL g), nom := false } := by
  let u := (s.set (R.SHED_STAT_N g) (s.members g).length).shedTo g (s.get (R.SHED_CFG_NNOM g))
  have enabled : s.enableShed g =
      { u with shed := u.shed.put g { below := 0, since := u.get (R.SHED_CFG_DWELL g), nom := false } } := by
    simp only [State.enableShed, h, Bool.false_eq_true, if_false]
    rfl
  have dwell : u.get (R.SHED_CFG_DWELL g) = s.get (R.SHED_CFG_DWELL g) := by
    rw [State.get_shedTo, State.get_set_apart _ rfl, State.get_set_apart _ rfl, State.get_set_apart _ rfl]
  rw [enabled, dwell]
  refine ⟨?_, Bank.at_put _ hg _⟩
  change u.get _ = _
  rw [State.get_shedTo, State.get_set_apart _ rfl]
  exact State.get_set_of_lt _ hn

/-- A group with a configuration error is not enabled, and CFGERR is set (R64). -/
theorem State.enableShed_refused_shows (s : State) {g : Nat} (h : s.shedBad g = true) :
    (s.enableShed g).get (R.SHED_CFG_EN g) = 0 ∧ (s.enableShed g).get (R.SHED_STAT_CFGERR g) = 1 := by
  rw [State.enableShed, if_pos h]
  exact ⟨(State.get_set_apart _ rfl 1).trans (State.get_set ..), State.get_set ..⟩

theorem exec_shedGroupEnable (q : Who) (g : Fin 2) (v : Word) (s : State) (h : s.on 6 = true)
    (he : s.flag (R.SHED_CFG_EN g) = false) (hv : v.toNat.testBit 31 = true) :
    exec (.shedGroupEnable q g v) s =
      .next (((s.reply q.req .ok 0).writeReg q (0x7200 + 0x20 * g.val) v.toNat).enableShed g) := by
  change Host.Outcome.next (s.via q.req 6 fun s => s.writeShedCfg q g v.toNat) = _
  have was : (s.reply q.req .ok 0).flag (R.SHED_CFG_EN g) = false := he
  obtain ⟨hen, -, -⟩ := State.writeShedCfg_fields (s.reply q.req .ok 0) q g v.toNat
  rw [State.via_on s _ _ h, State.writeShedCfg, was]
  simp only [hen, hv, Bool.false_eq_true, if_false, if_true]

/-! ### Heddle destinations (R58) -/

/-- Destination 12 i + j in the register map: the map is searched twelve destinations at a time. -/
theorem regFields_hedDst_row : ∀ (i : Fin 8) (j : Fin 12), regFields (0x7000 + 4 * (12 * i.val + j.val)) =
    [R.HED_DST_EN (12 * i + j), R.HED_DST_DIV (12 * i + j), R.HED_DST_SRC (12 * i + j)] := by decide

theorem regFields_hedDst (n : Fin 96) :
    regFields (0x7000 + 4 * n.val) = [R.HED_DST_EN n, R.HED_DST_DIV n, R.HED_DST_SRC n] := by
  have h := regFields_hedDst_row ⟨n.val / 12, by omega⟩ ⟨n.val % 12, by omega⟩
  simpa only [Nat.div_add_mod] using h

theorem exec_heddleDestinationWrite (q : Who) (n : Fin 96) (v : Word) (s : State) (h : s.on 6 = true) :
    exec (.heddleDestinationWrite q n v) s = .next ((s.reply q.req .ok 0).writeHedDst q n v.toNat) := by
  change Host.Outcome.next (s.via q.req 6 fun s => s.writeHedDst q n v.toNat) = _
  rw [State.via_on s _ _ h]

/-- The fields of a destination as a write leaves them, its divider restarted. -/
theorem State.writeHedDst_shows (s : State) (q : Who) (n : Fin 96) (v : Nat) :
    let t := s.writeHedDst q n v
    t.get (R.HED_DST_EN n) = v / 2 ^ 31 % 2 ∧ t.get (R.HED_DST_DIV n) = v / 2 ^ 8 % 256
      ∧ t.get (R.HED_DST_SRC n) = v % 128 ∧ t.hedCnt.at n = 0
      ∧ RegsOnly (fun f => f = R.HED_DST_EN n ∨ f = R.HED_DST_DIV n ∨ f = R.HED_DST_SRC n) s t := by
  intro t
  have hw := State.writeReg_rw s q v (a := 0x7000 + 4 * n.val)
    (by simp [regFields_hedDst, R.HED_DST_EN, R.HED_DST_DIV, R.HED_DST_SRC])
  rw [regFields_hedDst, List.foldl_cons, List.foldl_cons, List.foldl_cons, List.foldl_nil] at hw
  have hget (f : Fld) : t.get f = (s.writeReg q (0x7000 + 4 * n.val) v).get f := rfl
  refine ⟨?_, ?_, ?_, Bank.at_put _ n.isLt _, ?_⟩
  · rw [hget, hw, State.get_set_apart _ rfl, State.get_set_apart _ rfl, State.get_set]
    exact Nat.mod_mod ..
  · rw [hget, hw, State.get_set_apart _ rfl, State.get_set]
    exact Nat.mod_mod ..
  · rw [hget, hw, State.get_set, presented]
    simp [R.HED_DST_SRC]
  · have hregs : RegsOnly (fun f => f = R.HED_DST_EN n ∨ f = R.HED_DST_DIV n ∨ f = R.HED_DST_SRC n) s
        (s.writeReg q (0x7000 + 4 * n.val) v) := by
      rw [hw]
      exact (((RegsOnly.refl _ s).set (.inl rfl) _).set (.inr (.inl rfl)) _).set (.inr (.inr rfl)) _
    exact hregs

theorem State.destCount_fires (s : State) {n : Nat} (h : s.get (R.HED_DST_DIV n) ≤ s.hedCnt.at n) :
    s.destCount n = ({ s with hedCnt := s.hedCnt.put n 0 }, true) := if_pos h

theorem State.destCount_waits (s : State) {n : Nat} (h : s.hedCnt.at n < s.get (R.HED_DST_DIV n)) :
    s.destCount n = ({ s with hedCnt := s.hedCnt.put n (s.hedCnt.at n + 1) }, false) := if_neg (not_le.mpr h)

/-! ### Strobes and the tick (R58, R128) -/

theorem exec_heddleSoftwareStrobe (q : Who) (m : BitVec 4) (s : State) (h : s.on 6 = true) :
    exec (.heddleSoftwareStrobe q m) s = .next ((s.reply q.req .ok 0).fire
      (([0, 1, 2, 3].filter fun b => m.toNat.testBit b).map fun b => 120 + b)) := by
  change Host.Outcome.next (s.via q.req 6 fun s => s.strobe m.toNat) = _
  rw [State.via_on s _ _ h]
  rfl

theorem exec_heddleTick (s : State) (h : s.on 6 = true) : exec .heddleTick s = .next (s.tick119 false) := by
  change Host.Outcome.next (if s.on 6 then s.tick119 false else s) = _
  rw [if_pos h]

theorem State.tick119_at_multiple (s : State) (h0 : s.time.hed ≠ 0) (hm : s.time.tb.toNat % s.time.hed = 0)
    (ht : s.time.ticked = false) :
    s.tick119 false = { s with time := { s.time with ticked := true } }.fire [119] :=
  if_pos ⟨h0, ht, .inr hm⟩

theorem State.tick119_once (s : State) (ht : s.time.ticked = true) (step : Bool) : s.tick119 step = s :=
  if_neg (by simp [ht])

/-- Settles O23: each clause is one command or one operation, of which a lemma above says once what it shows. -/
theorem sheddingAndHeddle : Obligations.SheddingAndHeddle := by
  unfold Obligations.SheddingAndHeddle
  refine ⟨fun q g v s h he hv => ?_, fun q n v s h => ?_, exec_heddleSoftwareStrobe,
    fun s h h0 hm => ⟨fun ht => ?_, fun ht => ?_⟩, fun n s => ⟨State.destCount_fires s, State.destCount_waits s⟩⟩
  · intro w
    have hexec := exec_shedGroupEnable q g v s h he hv
    obtain ⟨-, hdwell, hnom⟩ := State.writeShedCfg_fields (s.reply q.req .ok 0) q g v.toNat
    refine ⟨fun hgood => ⟨_, hexec, ?_⟩, fun hbad => ⟨_, hexec, State.enableShed_refused_shows w hbad⟩⟩
    have hlt : w.get (R.SHED_CFG_NNOM g) < 16 := hnom.trans_lt (Nat.mod_lt _ (by decide))
    rw [← hdwell, ← hnom]
    exact State.enableShed_shows w g.isLt hlt hgood
  · exact ⟨_, exec_heddleDestinationWrite q n v s h, State.writeHedDst_shows (s.reply q.req .ok 0) q n v.toNat⟩
  · rw [exec_heddleTick s h, State.tick119_at_multiple s h0 hm ht]
  · rw [exec_heddleTick s h, State.tick119_once s ht]

end Sys2Proof.Machine
end

section
/-!
PROOFS of the statement on the value a lane run writes (O22, R48 to R57, R64): the run of a lane that nothing holds
back, and what its output write and the shedding of phases leave of the lanes' registers.
-/

namespace Sys2Proof.Machine

/-! ### Registers apart from the lanes' -/

/-- A register of another domain than PD6, or of a frame below the lanes' (Table 1.4). -/
def Fld.belowLanes (f : Fld) : Prop := f.pd = 6 → f.addr < 0xC000

/-- A register that a lane's output write and the shedding of phases may change: one below the lanes' frame, or the
conflict count and flag of a lane. -/
def Fld.ofOutput (f : Fld) : Prop := f.belowLanes ∨ ∃ k, f = R.LN_CONFLICT k ∨ f = R.LN_STAT_CONF k

theorem RegsOnly.mono {P Q : Fld → Prop} {s t : State} (h : RegsOnly P s t) (hPQ : ∀ f, P f → Q f) : RegsOnly Q s t :=
  fun f hf => h f fun hp => hf (hPQ f hp)

theorem RegsOnly.foldl {P : Fld → Prop} {α : Type} {g : State → α → State} :
    ∀ {l : List α} (_ : ∀ a ∈ l, ∀ s, RegsOnly P s (g s a)) (s : State), RegsOnly P s (l.foldl g s)
  | [], _, s => RegsOnly.refl P s
  | a :: _, h, s => (h a List.mem_cons_self s).trans
      (RegsOnly.foldl (fun b hb => h b (List.mem_cons_of_mem a hb)) (g s a))

/-! ### The output write (R55, R59, R84) -/

theorem State.putWritten_regs (s : State) {p : Nat} (hp : p < 12) (f : PwmField) (v : Nat) :
    RegsOnly Fld.belowLanes s (s.putWritten p f v) := by
  cases f
  all_goals
    refine (RegsOnly.refl _ s).set (fun _ => ?_) v
    simp only [R.PWM_PER, R.PWM_CMPA, R.PWM_CMPB, R.PWM_PHASE, R.PWM_TRG_TRG0, R.PWM_TRG_TRG1]
    omega

theorem State.handValue_regs (s : State) {p : Nat} (hp : p < 12) (d : PwmLoad) :
    RegsOnly Fld.belowLanes s (s.handValue p d) := by
  have written : RegsOnly Fld.belowLanes s (s.writeField p d.fld d.val d.lane) := by
    have put := State.putWritten_regs s hp d.fld d.val
    unfold State.writeField
    dsimp only
    split
    · refine RegsOnly.set put (fun _ => ?_) _
      simp only [R.PWM_CNT_CNT]
      omega
    · exact put
  unfold State.handValue
  dsimp only
  split <;> exact written

/-- An output write reaches a pair or a comparator, and no register of a lane. -/
theorem State.laneWrite_regs (s : State) (k : Nat) (y : Int) : RegsOnly Fld.belowLanes s (s.laneWrite k y).1 := by
  have pair (f : PwmField) : RegsOnly Fld.belowLanes s (if s.get (R.LN_CTRL_DSTIDX k) < 12 then
      s.handValue (s.get (R.LN_CTRL_DSTIDX k))
        { fld := f, val := (satI 0 (2 ^ 21 - 1) (destValue (s.lane.at k) y)).toNat, lane := some k } else s) := by
    split
    · exact State.handValue_regs s ‹_› _
    · exact RegsOnly.refl _ s
  unfold State.laneWrite
  dsimp only
  split
  · exact pair .cmpa
  · exact pair .cmpb
  · exact pair .phase
  · exact pair .per
  · exact (RegsOnly.refl _ s).set (fun h => absurd h (of_decide_eq_true rfl)) _
  · exact RegsOnly.refl _ s
  · exact RegsOnly.refl _ s

/-! ### The shedding of phases by the owner's runs (R64) -/

theorem State.shedTo_regs (s : State) {g : Nat} (hg : g < 2) (n : Nat) :
    RegsOnly Fld.ofOutput s (s.shedTo g n) := by
  have count : (R.SHED_STAT_N g).ofOutput := .inl fun _ => by simp only [R.SHED_STAT_N]; omega
  have change : (R.SHED_STAT_CHANGE g).ofOutput := .inl fun _ => by simp only [R.SHED_STAT_CHANGE]; omega
  intro f hf
  rw [State.get_shedTo]
  exact ((RegsOnly.refl _ s).set count n).set change 1 f hf

theorem State.conflictFlag_regs (s : State) (k : Nat) : RegsOnly Fld.ofOutput s (s.conflictFlag k) :=
  ((RegsOnly.refl _ s).set (.inr ⟨k, .inl rfl⟩) _).set (.inr ⟨k, .inr rfl⟩) 1

theorem State.shedRun_regs (s : State) {g : Nat} (hg : g < 2) (y : Int) : RegsOnly Fld.ofOutput s (s.shedRun g y) := by
  unfold State.shedRun
  extract_lets h lo hi own n m dwell low below free t
  have ht : RegsOnly Fld.ofOutput s t := by
    simp only [t]
    split <;> exact fun _ _ => rfl
  clear_value t
  have conflict := ht.trans (State.conflictFlag_regs t own)
  split
  · refine RegsOnly.trans ?_ (State.shedTo_regs _ hg m)
    split
    · exact ht
    · exact conflict
  · split
    · exact ht
    · split
      · split
        · exact ht.trans (State.shedTo_regs t hg _)
        · exact conflict
      · split
        · split
          · exact ht.trans (State.shedTo_regs t hg _)
          · exact conflict
        · exact ht

/-! ### The end of a run (R54, R55, R64, R67) -/

/-- The registers of lane `k` at the S6 edge of a run with reference `r`, error `e` and the output `y` that the window
makes of `u`. -/
def State.laneShown (s : State) (k : Nat) (r e y u : Int) (boosted : Bool) : State :=
  let s := (((s.sets (R.LN_REFNOW k) r).sets (R.LN_ERR k) e).sets (R.LN_OUT k) y).setB (R.LN_STAT_BACT k) boosted
  if y ≠ u then s.set (R.LN_STAT_SAT k) 1 else s

/-- The output write of lane `k`, and the shedding of the groups it owns. -/
def State.laneHand (s : State) (k : Nat) (y : Int) : State :=
  (List.range 2).foldl (fun s g =>
    if s.flag (R.SHED_CFG_EN g) && decide (s.get (R.SHED_CFG_OWNER g) = k) then s.shedRun g y else s)
    (s.laneWrite k y).1

theorem State.laneHand_regs (s : State) (k : Nat) (y : Int) : RegsOnly Fld.ofOutput s (s.laneHand k y) := by
  refine ((State.laneWrite_regs s k y).mono fun _ => .inl).trans (RegsOnly.foldl (fun g hg t => ?_) _)
  split
  · exact State.shedRun_regs t (List.mem_range.mp hg) y
  · exact RegsOnly.refl _ t

/-- A register of the lanes other than the conflict counts and flags is out of reach of an output write. -/
theorem Fld.not_ofOutput {f : Fld} (hd : f.pd = 6) (ha : 0xC000 ≤ f.addr)
    (hc : ∀ k, f.apart (R.LN_CONFLICT k) = true) (hs : ∀ k, f.apart (R.LN_STAT_CONF k) = true) : ¬ f.ofOutput := by
  rintro (h | ⟨k, h | h⟩)
  · exact absurd (h hd) (by omega)
  · exact Fld.ne_of_apart (hc k) h
  · exact Fld.ne_of_apart (hs k) h

theorem LN_OUT_not_ofOutput (k : Nat) : ¬ (R.LN_OUT k).ofOutput :=
  Fld.not_ofOutput rfl (by simp only [R.LN_OUT]; omega) (fun _ => rfl) (fun _ => rfl)

theorem LN_STAT_SAT_not_ofOutput (k : Nat) : ¬ (R.LN_STAT_SAT k).ofOutput :=
  Fld.not_ofOutput rfl (by simp only [R.LN_STAT_SAT]; omega) (fun _ => rfl) (fun _ => rfl)

/-! ### A run that nothing holds back (R48 to R54) -/

/-- Lane `k` with its run accepted. -/
def State.laneHot (s : State) (k : Nat) : State := s.updLane k fun l => { l with hot := true, pend := false }

theorem State.laneHot_at (s : State) (k : Fin 16) :
    (s.laneHot k).lane.at k = { s.lane.at k with hot := true, pend := false } := Bank.at_upd _ k.isLt _

theorem State.laneHot_laneS1 (s : State) (k : Fin 16) (hc : (s.lane.at k).hclr = false)
    (hu : s.flag (R.LN_CTRL_UPD k) = false) : (s.laneHot k).laneS1 k = s.laneHot k := by
  have hc' : ((s.laneHot k).lane.at k).hclr = false := by rw [State.laneHot_at]; exact hc
  have hu' : (s.laneHot k).flag (R.LN_CTRL_UPD k) = false := hu
  simp only [State.laneS1, hc', hu', Bool.false_eq_true, if_false]

theorem State.laneHot_laneRef (s : State) (k : Fin 16) (x : Int) : (s.laneHot k).laneRef k x = s.laneRef k x := by
  unfold State.laneRef
  rw [State.laneHot_at]
  rfl

/-- The error of a run with no boost (R50). -/
def State.laneErr (s : State) (k : Nat) : Int :=
  satQ (if s.flag (R.LN_CTRL_INV k) then s.laneX k - s.laneRef k (s.laneX k) else s.laneRef k (s.laneX k) - s.laneX k)

/-- The output of a run with no boost before the window (R52, R53). -/
def State.laneU (s : State) (k : Nat) : Int :=
  let l := s.lane.at k
  if s.flag (R.LN_CTRL_MODE k) then piOut l (s.laneErr k) (piInteg l (s.laneErr k)) else iirOut l (s.laneErr k)

/-- A run with no history to clear, set to take up, missing input, boost or inhibit shows its output, and SAT where the
window changed it; then come the output write and the lane's event. -/
theorem State.laneRun_ordinary (s : State) (k : Fin 16) (hc : (s.lane.at k).hclr = false)
    (hu : s.flag (R.LN_CTRL_UPD k) = false) (hm : s.flag (R.LN_STAT_INMISS k) = false) (hmc : s.missCond k = false)
    (hb : s.flag (R.LN_CTRL_BOOSTEN k) = false) (hi : s.flag (R.LN_STAT_INHIB k) = false) :
    let y := laneWindow (s.lane.at k) (s.laneU k)
    ∃ (boosted rose : Bool) (upd : Lane → Lane), (s.laneRun k).1 =
      ((((s.laneHot k).laneShown k (s.laneRef k (s.laneX k)) (s.laneErr k) y (s.laneU k) boosted).updLane
        k upd).laneHand k y).raiseIf rose (48 + k) := by
  intro y
  have hs1 := State.laneHot_laneS1 s k hc hu
  have hm' : (s.laneHot k).flag (R.LN_STAT_INMISS k) = false := hm
  have hmc' : (s.laneHot k).missCond k = false := hmc
  have hb' : (s.laneHot k).flag (R.LN_CTRL_BOOSTEN k) = false := hb
  have hi' : (s.laneHot k).flag (R.LN_STAT_INHIB k) = false := hi
  have hx : (s.laneHot k).laneX k = s.laneX k := rfl
  unfold State.laneRun
  rw [← State.laneHot, hs1]
  simp only [hm', hmc', hb', hi', hx, State.laneHot_laneRef, State.laneHot_at, Bool.false_and, Bool.and_false,
    Bool.false_eq_true, if_false]
  exact ⟨_, _, _, rfl⟩

theorem State.laneShown_out (s : State) (k : Nat) (r e u : Int) {y : Int} (boosted : Bool) (lo : -(2 ^ 23) ≤ y)
    (hi : y < 2 ^ 23) : (s.laneShown k r e y u boosted).gets (R.LN_OUT k) = y := by
  have shown : ((((s.sets (R.LN_REFNOW k) r).sets (R.LN_ERR k) e).sets (R.LN_OUT k) y).setB
      (R.LN_STAT_BACT k) boosted).gets (R.LN_OUT k) = y := by
    rw [State.gets, State.get_setB_apart _ rfl]
    exact State.gets_sets _ (f := R.LN_OUT k) (Nat.succ_pos 23) lo hi
  unfold State.laneShown
  dsimp only
  split
  · rw [State.gets, State.get_set_apart _ rfl]
    exact shown
  · exact shown

theorem State.laneShown_sat (s : State) (k : Nat) (r e : Int) {y u : Int} (boosted : Bool) (h : y ≠ u) :
    (s.laneShown k r e y u boosted).get (R.LN_STAT_SAT k) = 1 := by
  rw [State.laneShown, if_pos h]
  exact State.get_set ..

/-- What follows the S6 edge of a run leaves every register that an output write cannot reach. -/
theorem State.get_afterS6 (s : State) {k : Nat} (hk : k < 16) (y : Int) (rose : Bool) (upd : Lane → Lane) {f : Fld}
    (hf : ¬ f.ofOutput) : (((s.updLane k upd).laneHand k y).raiseIf rose (48 + k)).get f = s.get f := by
  have handed : ((s.updLane k upd).laneHand k y).get f = s.get f := State.laneHand_regs _ k y f hf
  have above : 0x5000 ≤ f.addr := by
    by_contra h
    exact hf (.inl fun _ => by omega)
  cases rose
  · exact handed
  · exact (State.get_raise_above _ (by omega) above).trans handed

theorem laneWindow_bounds {l : Lane} (h : l.omin ≤ l.omax) (u : Int) :
    l.omin ≤ laneWindow l u ∧ laneWindow l u ≤ l.omax :=
  ⟨le_min (le_max_right ..) h, min_le_right ..⟩

/-- Settles O22: an ordinary run shows its output at the S6 edge, and what comes after leaves OUT and SAT alone. -/
theorem laneRunComputes : Obligations.LaneRunComputes := by
  unfold Obligations.LaneRunComputes
  intro k s l hc hu hm hmc hb hi hlo hle hhi x r e i u
  obtain ⟨boosted, rose, upd, hrun⟩ := State.laneRun_ordinary s k hc hu hm hmc hb hi
  have hU : s.laneU k = u := by
    simp only [State.laneU, u]
    split <;> rfl
  rw [hU] at hrun
  have kept {f : Fld} (hf : ¬ f.ofOutput) : (s.laneRun k).1.get f =
      ((s.laneHot k).laneShown k r e (laneWindow l u) u boosted).get f := by
    rw [hrun]
    exact State.get_afterS6 _ k.isLt _ rose upd hf
  obtain ⟨hmin, hmax⟩ := laneWindow_bounds hle u
  refine ⟨?_, fun (hne : laneWindow l u ≠ u) => ?_⟩
  · rw [State.gets, kept (LN_OUT_not_ofOutput k)]
    exact State.laneShown_out _ k r e u boosted (hlo.trans hmin) (hmax.trans_lt hhi)
  · rw [State.flag, kept (LN_STAT_SAT_not_ofOutput k), State.laneShown_sat _ k r e boosted hne]
    rfl

end Sys2Proof.Machine
end

section
/-!
PROOFS of the statement on the writes of LNk_CTRL (O21, R65): what a write leaves in UPD, from every value the register
store can hold, and the state in which that refutes the statement.
-/

namespace Sys2Proof.Machine

theorem lnCtrlUpd_in_map : ∀ k : Fin 16, (regFields (0xC000 + 0x100 * k.val)).Nodup
    ∧ R.LN_CTRL_UPD k ∈ regFields (0xC000 + 0x100 * k.val) := by decide

theorem judgedFields_not_w1s : ∀ f ∈ judgedFields, f.acc ≠ .w1s := by decide

/-- A flag of one bit that a write can only set: its lowest bit stays or takes the bit of the word. -/
theorem State.flag_writeFld_w1s (s : State) (q : Who) (v : Nat) {f : Fld} (h : f.acc = .w1s) (hw : f.w = 1) :
    (s.writeFld q v f).flag f = ((s.get f).testBit 0 || v.testBit f.lo) := by
  have lowest (n : Nat) : decide (n % 2 ≠ 0) = n.testBit 0 := by
    rw [Nat.testBit_zero]
    exact decide_eq_decide.mpr (by omega)
  have given : (presented v f).testBit 0 = v.testBit f.lo := by
    rw [presented, hw, Nat.testBit_mod_two_pow, Nat.testBit_div_two_pow]
    simp
  simp only [State.writeFld, h, State.flag, State.get_set, hw, pow_one, lowest, Nat.testBit_or, given]

/-- Of what UPD held before a write of LNk_CTRL the lowest bit alone counts. Where UPD fits its one bit, as in every
state that steps keep well, that bit is UPD. -/
theorem State.laneWritten_upd (s : State) (q : Who) (k : Fin 16) (v : Nat) :
    (s.laneWritten q k v).flag (R.LN_CTRL_UPD k) = ((s.get (R.LN_CTRL_UPD k)).testBit 0 || v.testBit 30) := by
  have above : 0x5000 ≤ (R.LN_CTRL_UPD k).addr := by simp only [R.LN_CTRL_UPD]; omega
  have unlocked : (R.LN_CTRL_UPD k).acc ≠ .lock := nofun
  have unjudged : R.LN_CTRL_UPD k ∉ judgedFields := fun h => judgedFields_not_w1s _ h rfl
  obtain ⟨hn, hm⟩ := lnCtrlUpd_in_map k
  let u := (s.reply q.req .ok 0).writeReg q (0xC000 + 0x100 * k.val) v
  have written : u.get (R.LN_CTRL_UPD k) = (s.writeFld q v (R.LN_CTRL_UPD k)).get (R.LN_CTRL_UPD k) :=
    (State.get_writeReg _ q _ v unlocked above hn hm).trans (State.get_writeFld_congr q v unlocked rfl rfl)
  have shown : (s.laneWritten q k v).get (R.LN_CTRL_UPD k) = u.get (R.LN_CTRL_UPD k) := by
    refine (State.get_govJudge _ rfl above unjudged).trans ((State.get_set_apart _ rfl 0).trans ?_)
    split <;> rfl
  rw [State.flag, shown, written]
  exact State.flag_writeFld_w1s s q v rfl rfl

/-- A state whose store holds 2 in the one-bit field LN0_CTRL.UPD. No write puts it there, and the statement speaks of
every state. -/
def overfullUpd : State := { regs := [(R.LN_CTRL_UPD 0, 2)] }

/-- Refutes O21: its clause on UPD says that UPD stays set across a write of LNk_CTRL, also where the store holds a
value wider than the field. From `overfullUpd` a write of 0 leaves UPD clear, since the register takes the value back
to its one bit. -/
theorem not_laneTriggersAndControl : ¬ Obligations.LaneTriggersAndControl := by
  unfold Obligations.LaneTriggersAndControl
  rintro ⟨-, -, -, -, written, -⟩
  obtain ⟨-, -, -, -, upd, -⟩ := written { req := .strandA, sealedW := false } 0 0 overfullUpd
  rw [State.laneWritten_upd] at upd
  exact absurd upd (by decide)

end Sys2Proof.Machine
end

section
/-!
PROOFS of the statement on the energy governor (O25, R104 to R117), with what an event flag of EGV_STAT, the inhibit
and the capacitance measurement leave unchanged.
-/

namespace Sys2Proof.Machine

/-! ### Event flags and the inhibit of the charging lane (R62, R107) -/

@[simp] theorem State.govFlag_gov (s : State) (f : Fld) (n : Nat) : (s.govFlag f n).gov = s.gov :=
  State.raise_gov ..

/-- An event flag above the ICU is set by its event, which reaches the ICU alone besides. -/
theorem State.get_govFlag (s : State) {f : Fld} (hw : f.w = 1) (ha : 0x5000 ≤ f.addr) {n : Nat} (hn : n < 224) :
    (s.govFlag f n).get f = 1 := by
  rw [State.govFlag, State.get_raise_above _ hn ha, State.get_set, hw]
  rfl

theorem State.get_govFlag_apart (s : State) {f g : Fld} (h : f.apart g = true) (ha : 0x5000 ≤ g.addr) {n : Nat}
    (hn : n < 224) : (s.govFlag f n).get g = s.get g := by
  rw [State.govFlag, State.get_raise_above _ hn ha, State.get_set_apart s h]

theorem State.get_inhibit_apart (s : State) {f : Fld} (hs : R.EGV_STAT_INHIB.apart f = true)
    (hl : ∀ k, (R.LN_STAT_INHIB k).apart f = true) : s.inhibit.get f = s.get f := by
  unfold State.inhibit
  exact (State.get_setB_apart _ (hl _) _).trans (State.get_setB_apart s hs _)

theorem State.get_inhibit (s : State) : s.inhibit.get R.EGV_STAT_INHIB = b2n (s.gov.startInh || s.gov.ceilInh) := by
  unfold State.inhibit
  exact (State.get_setB_apart _ rfl _).trans (State.get_setB_bit s rfl _)

/-! ### The sample instant (R104, R113) -/

/-- The sample instant of a part whose samples are all computed, with no capacitance measurement: the voltage slot
alone is triggered. -/
theorem State.govSample_voltage (s : State) (hv : s.gov.vMark = none) (hq : s.gov.qMark = none)
    (h : s.flag R.EGV_CMCFG_EN = false ∨ s.gov.cmPhase = 3) :
    let v := s.get R.EGV_CFG_VSLOT
    let u : State := { s with gov := { s.gov with vMark := some (s.govMark v), vGot := none, qGot := none } }
    s.govSample = (u.adcTrigger (v / 4) (v % 4)).fire [124] := by
  intro v u
  have idle : (s.flag R.EGV_CMCFG_EN && decide (s.gov.cmPhase ≠ 3)) = false := by
    rcases h with h | h <;> simp [h]
  have charged : s.capCharge = s := by simp only [State.capCharge, hq]
  have marked : u = { s with gov := { s.gov with
      vMark := some (s.govMark v), vGot := none, qMark := none, qGot := none } } := by
    simp only [u, ← hq]
  rw [marked, State.govSample]
  simp only [hv, Option.isSome_none, Bool.false_eq_true, if_false, charged, idle, Bool.false_and]
  rfl

/-- While a capacitance is measured the charge slot is triggered as well, the lower slot first. -/
theorem State.govSample_charge (s : State) (hv : s.gov.vMark = none) (hq : s.gov.qMark = none)
    (he : s.flag R.EGV_CMCFG_EN = true) (hp : s.gov.cmPhase ≠ 3) :
    let v := s.get R.EGV_CFG_VSLOT
    let c := s.get R.EGV_CMCFG_CMSLOT
    let u : State := { s with gov := { s.gov with
      vMark := some (s.govMark v), vGot := none, qMark := some (s.govMark c), qGot := none } }
    let w := u.adcTrigger (min v c / 4) (min v c % 4)
    s.govSample = (if v = c then w else w.adcTrigger (max v c / 4) (max v c % 4)).fire [124] := by
  intro v c u w
  have charged : s.capCharge = s := by simp only [State.capCharge, hq]
  rw [State.govSample]
  simp only [hv, Option.isSome_none, Bool.false_eq_true, if_false, charged, he, hp, ne_eq, not_false_eq_true,
    decide_true, Bool.and_self, if_true, Bool.true_and, decide_eq_true_eq, ite_not]
  rfl

/-! ### The pairs a governor trip holds (R107 to R109) -/

theorem testBit_allPairsBut {b p : Nat} : (0xFFF ^^^ 2 ^ b).testBit p = (decide (p < 12) != decide (b = p)) := by
  rw [Nat.testBit_xor, show 0xFFF = 2 ^ 12 - 1 from rfl, Nat.testBit_two_pow_sub_one, Nat.testBit_two_pow]

/-- The bleed pair is never held. -/
theorem State.govTrips_spares_bleed (s : State) (h : s.get R.EGV_CFG_BLDPAIR < 12) :
    s.govTrips.testBit (s.get R.EGV_CFG_BLDPAIR) = false := by
  simp only [State.govTrips, h, if_true, Nat.testBit_and, testBit_allPairsBut]
  simp

/-- While the ceiling condition stands every other pair of CHGMAP is held. -/
theorem State.govTrips_holds_charging (s : State) (hc : s.gov.condCeil = true) {p : Nat} (hp : p < 12)
    (hb : p ≠ s.get R.EGV_CFG_BLDPAIR) (hm : s.bit R.EGV_CHGMAP p = true) : s.govTrips.testBit p = true := by
  have charging : (s.get R.EGV_CHGMAP).testBit p = true := hm
  simp only [State.govTrips, hc, if_true]
  split
  · rw [Nat.testBit_and, Nat.testBit_or, charging, testBit_allPairsBut]
    simp [hp, hb.symm]
  · rw [Nat.testBit_or, charging, Bool.true_or]

/-! ### The ceiling (R106, R107) -/

/-- The ceiling condition begins, with its flag. -/
def State.ceilingTripped (s : State) : State :=
  let t := s.govFlag R.EGV_STAT_CEILTRIP 128
  { t with gov := { t.gov with condCeil := true } }

theorem exec_governorCeilingTimeout (s : State) (hs : s.gov.started = true) (ha : s.govActive = true)
    (hb : s.gov.above = true) (hi : s.gov.ceilInh = true) (hc : s.gov.condCeil = false) :
    exec .governorCeilingTimeout s = .next
      ((s.ceilingTripped.govApply 1).1.quality.fire ((s.ceilingTripped.govApply 1).2 ++ [125])) := by
  have due : (s.gov.started && s.govActive && s.gov.above && s.gov.ceilInh && !s.gov.condCeil) = true := by
    simp [hs, ha, hb, hi, hc]
  change Host.Outcome.next (if _ then _ else _) = _
  rw [if_pos due]
  rfl

theorem State.get_ceilingTripped_apart (s : State) {f : Fld} (h : R.EGV_STAT_CEILTRIP.apart f = true)
    (ha : 0x5000 ≤ f.addr) : s.ceilingTripped.get f = s.get f :=
  State.get_govFlag_apart s h ha (by decide)

theorem State.ceilingTripped_shows (s : State) :
    s.ceilingTripped.get R.EGV_STAT_CEILTRIP = 1 ∧ s.ceilingTripped.gov.condCeil = true
      ∧ ∀ p, p < 12 → p ≠ s.get R.EGV_CFG_BLDPAIR → s.bit R.EGV_CHGMAP p = true →
        s.ceilingTripped.govTrips.testBit p = true := by
  refine ⟨State.get_govFlag s rfl (by decide) (by decide), rfl, fun p hp hb hm => ?_⟩
  refine State.govTrips_holds_charging _ rfl hp ?_ ?_
  · rwa [State.get_ceilingTripped_apart s rfl (by decide)]
  · rwa [State.bit, State.get_ceilingTripped_apart s rfl (by decide)]

/-- The inhibit of the ceiling begins, with its flag. -/
def State.ceilingInhibited (s : State) : State :=
  let t := { s with gov := { s.gov with above := true } }.govFlag R.EGV_STAT_CEIL 128
  { t with gov := { t.gov with ceilInh := true, inhibSamples := 0 } }.inhibit

theorem State.get_ceilingInhibited_apart (s : State) {f : Fld} (hc : R.EGV_STAT_CEIL.apart f = true)
    (ha : 0x5000 ≤ f.addr) (hs : R.EGV_STAT_INHIB.apart f = true) (hl : ∀ k, (R.LN_STAT_INHIB k).apart f = true) :
    s.ceilingInhibited.get f = s.get f :=
  (State.get_inhibit_apart _ hs hl).trans (State.get_govFlag_apart _ hc ha (by decide))

/-- The first sample above the ceiling begins the inhibit, and the bleed with it where it is due at once. -/
theorem State.govCeiling_inhibits (s : State) (hi : s.gov.ceilInh = false) :
    let t := s.ceilingInhibited
    s.govCeiling true =
      if t.gov.ceilInh && true && !t.flag R.EGV_STAT_BLEED && decide (t.get R.EGV_CFG_BLDPAIR < 12)
        && decide (t.get R.EGV_CFG_BLDLY ≤ t.gov.inhibSamples) then (t.bleedStart.1, t.bleedStart.2, true)
      else (t, [], true) := by
  simp only [State.govCeiling, State.ceilingInhibited, hi, Bool.false_and, Bool.false_eq_true, if_false,
    Bool.not_false, Bool.and_self, if_true]

/-- The inhibit begins alone where no bleed is fitted or the bleed is delayed. -/
theorem State.govCeiling_begins (s : State) (hi : s.gov.ceilInh = false)
    (hb : 12 ≤ s.get R.EGV_CFG_BLDPAIR ∨ 0 < s.get R.EGV_CFG_BLDLY) :
    s.govCeiling true = (s.ceilingInhibited, [], true) := by
  have pair : s.ceilingInhibited.get R.EGV_CFG_BLDPAIR = s.get R.EGV_CFG_BLDPAIR :=
    State.get_ceilingInhibited_apart s rfl (by decide) rfl fun _ => rfl
  have delay : s.ceilingInhibited.get R.EGV_CFG_BLDLY = s.get R.EGV_CFG_BLDLY :=
    State.get_ceilingInhibited_apart s rfl (by decide) rfl fun _ => rfl
  have samples : s.ceilingInhibited.gov.inhibSamples = 0 := rfl
  rw [State.govCeiling_inhibits s hi, if_neg]
  rw [pair, delay, samples]
  intro due
  simp only [Bool.and_eq_true, decide_eq_true_eq] at due
  obtain ⟨⟨-, fitted⟩, atOnce⟩ := due
  omega

theorem State.ceilingInhibited_shows (s : State) :
    s.ceilingInhibited.get R.EGV_STAT_CEIL = 1 ∧ s.ceilingInhibited.get R.EGV_STAT_INHIB = 1
      ∧ s.ceilingInhibited.gov.ceilInh = true := by
  refine ⟨?_, ?_, rfl⟩
  · exact (State.get_inhibit_apart _ rfl fun _ => rfl).trans (State.get_govFlag _ rfl (by decide) (by decide))
  · refine (State.get_inhibit _).trans ?_
    rw [Bool.or_true]
    rfl

/-! ### The capacitance measurement (R113, R114) -/

theorem State.get_capEnd_apart (s : State) {f g : Fld} (h : f.apart g = true) (ha : 0x5000 ≤ g.addr) :
    (s.capEnd f).get g = s.get g := State.get_govFlag_apart s h ha (by decide)

theorem exec_capMeasurementTimeout (s : State) (hs : s.gov.started = true) (he : s.flag R.EGV_CMCFG_EN = true)
    (hp : s.gov.cmPhase ≠ 3) : exec .capMeasurementTimeout s = .next (s.capEnd R.EGV_STAT_CMSKIP) := by
  change Host.Outcome.next (if _ then _ else _) = _
  rw [if_pos (by simp [hs, he, hp])]

theorem State.capSkipped_shows (s : State) :
    (s.capEnd R.EGV_STAT_CMSKIP).flag R.EGV_STAT_CMSKIP = true ∧ (s.capEnd R.EGV_STAT_CMSKIP).gov.cmPhase = 3
      ∧ (s.capEnd R.EGV_STAT_CMSKIP).get R.EGV_CMEAS = s.get R.EGV_CMEAS := by
  have shown : (s.capEnd R.EGV_STAT_CMSKIP).get R.EGV_STAT_CMSKIP = 1 :=
    State.get_govFlag s rfl (by decide) (by decide)
  refine ⟨?_, rfl, State.get_capEnd_apart s rfl (by decide)⟩
  rw [State.flag, shown]
  rfl

/-- What the capacitance measurement does with a code touches its own phase, charge and mark of `gov`, and not
MEASFAIL. -/
def State.CapOnly (s t : State) : Prop :=
  t.gov = { s.gov with qMark := t.gov.qMark, cmPhase := t.gov.cmPhase, charge := t.gov.charge }
    ∧ t.get R.EGV_STAT_MEASFAIL = s.get R.EGV_STAT_MEASFAIL

theorem State.CapOnly.refl (s : State) : s.CapOnly s := ⟨rfl, rfl⟩

theorem State.CapOnly.trans {s t u : State} (h : s.CapOnly t) (h' : t.CapOnly u) : s.CapOnly u := by
  obtain ⟨hg, hm⟩ := h
  obtain ⟨hg', hm'⟩ := h'
  refine ⟨?_, hm'.trans hm⟩
  rw [hg] at hg'
  exact hg'

theorem State.capOnly_govFlag (s : State) {f : Fld} (h : f.apart R.EGV_STAT_MEASFAIL = true) :
    s.CapOnly (s.govFlag f 131) := by
  refine ⟨?_, State.get_govFlag_apart s h (by decide) (by decide)⟩
  rw [State.govFlag_gov]

theorem State.capOnly_capEnd (s : State) {f : Fld} (h : f.apart R.EGV_STAT_MEASFAIL = true) :
    s.CapOnly (s.capEnd f) := ⟨rfl, State.get_capEnd_apart s h (by decide)⟩

theorem State.capOnly_capCheck (s : State) : s.CapOnly s.capCheck := by
  unfold State.capCheck
  dsimp only
  split
  · exact State.capOnly_govFlag s rfl
  · exact .refl s

/-- The measurement as a code `c` finds it: it runs from the first code at or above VA. -/
def State.capEntered (s : State) (c : Nat) : State :=
  if s.gov.cmPhase = 2 then s
  else if s.get R.EGV_CMCFG_VA ≤ c then { s with gov := { s.gov with cmPhase := 2, charge := 0 } }
  else { s with gov := { s.gov with cmPhase := 1 } }

theorem State.capOnly_capEntered (s : State) (c : Nat) : s.CapOnly (s.capEntered c) := by
  unfold State.capEntered
  split
  · exact .refl s
  · split <;> exact ⟨rfl, rfl⟩

theorem State.capOnly_capSample (s : State) (c : Nat) : s.CapOnly (s.capSample c) := by
  have entered := State.capOnly_capEntered s c
  have measured (v : Nat) :
      (s.capEntered c).CapOnly (((s.capEntered c).set R.EGV_CMEAS v).capEnd R.EGV_STAT_CMDONE).capCheck :=
    State.CapOnly.trans (t := (s.capEntered c).set R.EGV_CMEAS v) ⟨rfl, State.get_set_apart _ rfl v⟩
      ((State.capOnly_capEnd _ rfl).trans (State.capOnly_capCheck _))
  unfold State.capSample
  dsimp only
  rw [← State.capEntered]
  split
  · exact .refl s
  · split
    · exact State.capOnly_capEnd s rfl
    · split
      · split
        · exact entered.trans (State.capOnly_capEnd _ rfl)
        · exact entered.trans (measured _)
      · exact entered

/-! ### The measurement of a sample (R104, R105, R117) -/

/-- The sample at hand taken in: its energies where it is valid, one more invalid sample where it is not. -/
def State.sampleTaken (s : State) : State :=
  let t := { s with gov := { s.gov with vMark := none, vGot := none, valid := s.govValid } }
  if s.govValid then
    ({ t with gov := { t.gov with
        invalid := 0, everValid := true, startInh := false,
        eHi := s.energyHi s.govCode,
        eLo := s.energyLo s.govCode } }.inhibit.set R.EGV_STAT_MEASFAIL 0).capSample s.govCode
  else
    let u := { t with gov := { t.gov with invalid := t.gov.invalid + 1 } }
    if u.gov.invalid = 9 ∧ u.govActive then u.govFlag R.EGV_STAT_MEASFAIL 131 else u

/-- The energies shown: EHI, ELO and the energy released over 1000 samples. -/
def State.energiesShown (s : State) : State :=
  let s := (s.set R.EGV_EHI (satN (2 ^ 28 - 1) s.gov.eHi)).set R.EGV_ELO (satN (2 ^ 28 - 1) s.gov.eLo)
  let s := { s with gov := { s.gov with hist := (s.gov.eHi :: s.gov.hist).take 1001 } }
  s.set R.EGV_REL (satN (2 ^ 28 - 1) (s.gov.hist.getD 1000 0 - s.gov.eHi))

theorem State.govMeasure_eq (s : State) : s.govMeasure = s.sampleTaken.energiesShown := rfl

theorem satN_eq_min (hi x : Nat) : satN hi x = min hi x := by
  unfold satN
  split <;> omega

theorem satN_lt (n x : Nat) : satN (2 ^ n - 1) x < 2 ^ n := by
  have hpos : 0 < 2 ^ n := Nat.two_pow_pos n
  rw [satN_eq_min]
  omega

theorem State.energiesShown_gov (s : State) :
    s.energiesShown.gov = { s.gov with hist := (s.gov.eHi :: s.gov.hist).take 1001 } := rfl

theorem State.get_energiesShown_apart (s : State) {f : Fld} (hh : R.EGV_EHI.apart f = true)
    (hl : R.EGV_ELO.apart f = true) (hr : R.EGV_REL.apart f = true) : s.energiesShown.get f = s.get f :=
  (State.get_set_apart _ hr _).trans ((State.get_set_apart _ hl _).trans (State.get_set_apart s hh _))

theorem State.energiesShown_shows (s : State) :
    s.energiesShown.get R.EGV_EHI = min (2 ^ 28 - 1) s.gov.eHi
      ∧ s.energiesShown.get R.EGV_ELO = min (2 ^ 28 - 1) s.gov.eLo := by
  constructor
  · rw [← satN_eq_min]
    exact (State.get_set_apart _ rfl _).trans ((State.get_set_apart _ rfl _).trans
      (State.get_set_of_lt s (f := R.EGV_EHI) (satN_lt 28 _)))
  · rw [← satN_eq_min]
    exact (State.get_set_apart _ rfl _).trans (State.get_set_of_lt _ (f := R.EGV_ELO) (satN_lt 28 _))

/-- A valid sample gives the energies and ends the run of invalid ones. -/
theorem State.sampleTaken_valid (s : State) (h : s.govValid = true) :
    s.sampleTaken.gov.vMark = none ∧ s.sampleTaken.gov.valid = true ∧ s.sampleTaken.gov.invalid = 0
      ∧ s.sampleTaken.gov.eHi = s.energyHi s.govCode ∧ s.sampleTaken.gov.eLo = s.energyLo s.govCode
      ∧ s.sampleTaken.get R.EGV_STAT_MEASFAIL = 0 := by
  rw [State.sampleTaken, if_pos h]
  obtain ⟨hg, hm⟩ := State.capOnly_capSample (({ s with gov := { s.gov with
      vMark := none, vGot := none, valid := s.govValid, invalid := 0, everValid := true, startInh := false,
      eHi := s.energyHi s.govCode, eLo := s.energyLo s.govCode } } : State).inhibit.set R.EGV_STAT_MEASFAIL 0) s.govCode
  exact ⟨congrArg GovSt.vMark hg, (congrArg GovSt.valid hg).trans h, congrArg GovSt.invalid hg,
    congrArg GovSt.eHi hg, congrArg GovSt.eLo hg, hm.trans (State.get_set ..)⟩

/-- One more invalid sample at hand: the mark is taken and the energies stay. -/
def State.invalidCounted (s : State) : State :=
  { s with gov := { s.gov with vMark := none, vGot := none, valid := s.govValid, invalid := s.gov.invalid + 1 } }

theorem State.sampleTaken_invalid (s : State) (h : s.govValid = false) : s.sampleTaken =
    if s.gov.invalid = 8 ∧ s.govActive = true then s.invalidCounted.govFlag R.EGV_STAT_MEASFAIL 131
    else s.invalidCounted := by
  rw [State.sampleTaken, if_neg (by simp [h])]
  have ninth : (s.invalidCounted.gov.invalid = 9 ∧ s.invalidCounted.govActive = true)
      ↔ (s.gov.invalid = 8 ∧ s.govActive = true) := and_congr_left' Nat.succ_inj
  exact if_congr ninth rfl rfl

theorem State.sampleTaken_invalid_gov (s : State) (h : s.govValid = false) :
    s.sampleTaken.gov = s.invalidCounted.gov := by
  rw [State.sampleTaken_invalid s h]
  split
  · exact State.govFlag_gov ..
  · rfl

theorem State.govMeasure_marks (s : State) : s.govMeasure.gov.vMark = none ∧ s.govMeasure.gov.valid = s.govValid := by
  rw [State.govMeasure_eq, State.energiesShown_gov]
  cases h : s.govValid
  · rw [State.sampleTaken_invalid_gov s h]
    exact ⟨rfl, h⟩
  · obtain ⟨hmark, hvalid, -⟩ := State.sampleTaken_valid s h
    exact ⟨hmark, hvalid⟩

theorem State.govMeasure_valid (s : State) (h : s.govValid = true) :
    s.govMeasure.gov.eHi = s.energyHi s.govCode ∧ s.govMeasure.gov.eLo = s.energyLo s.govCode
      ∧ s.govMeasure.get R.EGV_EHI = min (2 ^ 28 - 1) (s.energyHi s.govCode)
      ∧ s.govMeasure.get R.EGV_ELO = min (2 ^ 28 - 1) (s.energyLo s.govCode)
      ∧ s.govMeasure.gov.invalid = 0 ∧ s.govMeasure.get R.EGV_STAT_MEASFAIL = 0 := by
  obtain ⟨-, -, hinv, hhi, hlo, hfail⟩ := State.sampleTaken_valid s h
  obtain ⟨showsHi, showsLo⟩ := State.energiesShown_shows s.sampleTaken
  rw [hhi] at showsHi
  rw [hlo] at showsLo
  exact ⟨hhi, hlo, showsHi, showsLo, hinv, (State.get_energiesShown_apart _ rfl rfl rfl).trans hfail⟩

theorem State.govMeasure_invalid (s : State) (h : s.govValid = false) :
    s.govMeasure.gov.eHi = s.gov.eHi ∧ s.govMeasure.gov.eLo = s.gov.eLo
      ∧ s.govMeasure.gov.invalid = s.gov.invalid + 1
      ∧ (s.gov.invalid = 8 → s.govActive = true → s.govMeasure.get R.EGV_STAT_MEASFAIL = 1) := by
  have hg : s.govMeasure.gov =
      { s.invalidCounted.gov with hist := (s.invalidCounted.gov.eHi :: s.invalidCounted.gov.hist).take 1001 } := by
    rw [State.govMeasure_eq, State.energiesShown_gov, State.sampleTaken_invalid_gov s h]
  refine ⟨(congrArg GovSt.eHi hg).trans rfl, (congrArg GovSt.eLo hg).trans rfl,
    (congrArg GovSt.invalid hg).trans rfl, fun h8 ha => ?_⟩
  rw [State.govMeasure_eq, State.get_energiesShown_apart _ rfl rfl rfl, State.sampleTaken_invalid s h, if_pos ⟨h8, ha⟩]
  exact State.get_govFlag _ rfl (by decide) (by decide)

theorem exec_governorComputation (s : State) (hs : s.gov.started = true) (hd : s.on 6 = true)
    (hv : s.gov.vMark.isSome = true) (h : s.gov.vGot.isSome = true ∨ s.gov.vMark = some 0 ∨ s.on 7 = false) :
    exec .governorComputation s = .next s.govCompute := by
  have come : (s.gov.vGot.isSome || decide (s.gov.vMark = some 0) || !s.on 7) = true := by
    rcases h with h | h | h <;> simp [h]
  change Host.Outcome.next (if _ then _ else _) = _
  rw [if_pos (by simp only [hs, hd, hv, come, Bool.and_self])]

/-! ### The released energy (R109) -/

theorem State.govRelAct_begins (s : State) {r : Nat} (h : s.govRlim = some r) (hc : s.gov.condRel = false)
    (hr : r < s.get R.EGV_REL) : s.govRelAct.1.get R.EGV_STAT_RELTRIP = 1 ∧ s.govRelAct.1.gov.condRel = true
      ∧ s.govRelAct.2 = true := by
  simp only [State.govRelAct, h, hc, hr, Bool.false_eq_true, if_false, if_true]
  exact ⟨State.get_govFlag s rfl (by decide) (by decide), trivial, trivial⟩

theorem State.govRelAct_ends (s : State) {r : Nat} (h : s.govRlim = some r) (hc : s.gov.condRel = true)
    (hr : s.get R.EGV_REL ≤ r) : s.govRelAct.1.gov.condRel = false := by
  simp only [State.govRelAct, h, hc, hr, if_true]

theorem State.govRelAct_holds (s : State) {r : Nat} (h : s.govRlim = some r) (hc : s.gov.condRel = true)
    (hr : r < s.get R.EGV_REL) : s.govRelAct.1 = s := by
  simp only [State.govRelAct, h, hc, if_true, if_neg (not_le.mpr hr)]

/-! ### The floor and its margin (R108, R116) -/

/-- The floor override at an energy `l`, for a floor `fl` and a margin `m`. -/
def State.floorMargin (s : State) (l fl m : Nat) : State × Bool :=
  if s.flag R.EGV_STAT_FLOOROVR then ((if fl + 2 * m ≤ l then s.set R.EGV_STAT_FLOOROVR 0 else s), false)
  else if l ≤ fl + m then ((s.set R.EGV_STAT_FLOOROVR 1).govFlag R.EGV_STAT_FLOOR 129, true)
  else (s, false)

/-- The floor trip at an energy `l`, for a floor `fl` and a margin `m`. -/
def State.floorTrip (s : State) (l fl m : Nat) : State × Bool :=
  if s.gov.condFloor then
    ((if fl + m ≤ l then { s with gov := { s.gov with condFloor := false } } else s), false)
  else if l < fl then ({ s.govFlag R.EGV_STAT_FLRTRIP 129 with gov := { s.gov with condFloor := true } }, true)
  else (s, false)

theorem State.floorMargin_gov (s : State) (l fl m : Nat) : (s.floorMargin l fl m).1.gov = s.gov := by
  unfold State.floorMargin
  split
  · dsimp only
    split <;> rfl
  · split
    · exact State.govFlag_gov ..
    · rfl

theorem State.floorMargin_begins (s : State) {l fl m : Nat} (h : s.flag R.EGV_STAT_FLOOROVR = false)
    (hl : l ≤ fl + m) : (s.floorMargin l fl m).1.get R.EGV_STAT_FLOOROVR = 1
      ∧ (s.floorMargin l fl m).1.get R.EGV_STAT_FLOOR = 1 := by
  rw [State.floorMargin, if_neg (by simp [h]), if_pos hl]
  exact ⟨(State.get_govFlag_apart _ rfl (by decide) (by decide)).trans (State.get_set ..),
    State.get_govFlag _ rfl (by decide) (by decide)⟩

theorem State.floorMargin_ends (s : State) {l fl m : Nat} (h : s.flag R.EGV_STAT_FLOOROVR = true)
    (hl : fl + 2 * m ≤ l) : (s.floorMargin l fl m).1.get R.EGV_STAT_FLOOROVR = 0 := by
  rw [State.floorMargin, if_pos h, if_pos hl]
  exact State.get_set ..

theorem State.floorTrip_begins (s : State) {l fl : Nat} (m : Nat) (h : s.gov.condFloor = false) (hl : l < fl) :
    (s.floorTrip l fl m).1.get R.EGV_STAT_FLRTRIP = 1 ∧ (s.floorTrip l fl m).1.gov.condFloor = true := by
  rw [State.floorTrip, if_neg (by simp [h]), if_pos hl]
  exact ⟨State.get_govFlag s rfl (by decide) (by decide), rfl⟩

theorem State.get_floorTrip_apart (s : State) (l fl m : Nat) {f : Fld} (h : R.EGV_STAT_FLRTRIP.apart f = true)
    (ha : 0x5000 ≤ f.addr) : (s.floorTrip l fl m).1.get f = s.get f := by
  unfold State.floorTrip
  split
  · dsimp only
    split <;> rfl
  · split
    · exact State.get_govFlag_apart s h ha (by decide)
    · rfl

/-- Where the limits do not overlap and there is an energy to compare, the override is judged first and the trip on
what it leaves. -/
theorem State.govFloorAct_eq (s : State) (ho : s.govOverlap = false) (hf : s.flag R.EGV_STAT_MEASFAIL = false)
    (he : s.gov.everValid = true) :
    s.govFloorAct.1 = (((s.setB R.EGV_STAT_LIMERR false).floorMargin
      s.gov.eLo s.govFloor (s.get R.EGV_LVLFLM)).1.floorTrip s.gov.eLo s.govFloor (s.get R.EGV_LVLFLM)).1 := by
  have same {f : Fld} (h : R.EGV_STAT_LIMERR.apart f = true) : (s.setB R.EGV_STAT_LIMERR false).get f = s.get f :=
    State.get_setB_apart s h false
  have floor : (s.setB R.EGV_STAT_LIMERR false).govFloor = s.govFloor := by
    simp only [State.govFloor, same (f := R.EGV_FLIM_EZMIN) rfl, same (f := R.EGV_EFLOOR) rfl]
  have fail : (s.setB R.EGV_STAT_LIMERR false).flag R.EGV_STAT_MEASFAIL = false := by
    rw [State.flag, same rfl]
    exact hf
  have judged : ((s.setB R.EGV_STAT_LIMERR false).flag R.EGV_STAT_MEASFAIL || !s.gov.everValid) = false := by
    simp [fail, he]
  unfold State.govFloorAct
  simp only [ho, Bool.false_eq_true, if_false, State.setB_gov, judged, floor, same (f := R.EGV_LVLFLM) rfl]
  rfl

theorem State.govFloorAct_overlap (s : State) (h : s.govOverlap = true) :
    s.govFloorAct.1.get R.EGV_STAT_LIMERR = 1 ∧ s.govFloorAct.1.get R.EGV_STAT_FLOOROVR = 0
      ∧ s.govFloorAct.1.gov.condFloor = false := by
  simp only [State.govFloorAct, h, if_true]
  exact ⟨(State.get_set_apart _ rfl 0).trans (State.get_setB_bit s rfl true), State.get_set .., trivial⟩

theorem State.govFloorAct_shows (s : State) (ho : s.govOverlap = false) (hf : s.flag R.EGV_STAT_MEASFAIL = false)
    (he : s.gov.everValid = true) :
    (s.gov.condFloor = false → s.gov.eLo < s.govFloor →
      s.govFloorAct.1.get R.EGV_STAT_FLRTRIP = 1 ∧ s.govFloorAct.1.gov.condFloor = true)
    ∧ (s.flag R.EGV_STAT_FLOOROVR = false → s.gov.eLo ≤ s.govFloor + s.get R.EGV_LVLFLM →
      s.govFloorAct.1.get R.EGV_STAT_FLOOROVR = 1 ∧ s.govFloorAct.1.flag R.EGV_STAT_FLOOR = true)
    ∧ (s.flag R.EGV_STAT_FLOOROVR = true → s.govFloor + 2 * s.get R.EGV_LVLFLM ≤ s.gov.eLo →
      s.govFloorAct.1.get R.EGV_STAT_FLOOROVR = 0) := by
  have override : (s.setB R.EGV_STAT_LIMERR false).flag R.EGV_STAT_FLOOROVR = s.flag R.EGV_STAT_FLOOROVR := by
    rw [State.flag, State.get_setB_apart s rfl, State.flag]
  rw [State.govFloorAct_eq s ho hf he]
  refine ⟨fun hc hl => ?_, fun hn hl => ?_, fun hs hl => ?_⟩
  · refine State.floorTrip_begins _ _ ?_ hl
    rw [State.floorMargin_gov]
    exact hc
  · obtain ⟨hovr, hfloor⟩ := State.floorMargin_begins _ (override.trans hn) hl
    refine ⟨(State.get_floorTrip_apart _ _ _ _ rfl (by decide)).trans hovr, ?_⟩
    rw [State.flag, State.get_floorTrip_apart _ _ _ _ rfl (by decide), hfloor]
    rfl
  · exact (State.get_floorTrip_apart _ _ _ _ rfl (by decide)).trans
      (State.floorMargin_ends _ (override.trans hs) hl)

/-! ### The statement -/

theorem exec_governorSample (s : State) (hs : s.gov.started = true) (hd : s.on 6 = true)
    (ht : s.time.tb.toNat % 125 = 0) : exec .governorSample s = .next s.govSample := by
  change Host.Outcome.next (if _ then _ else _) = _
  rw [if_pos (by simp [hs, hd, ht])]

/-- Settles O25: each clause is one command or one part of the computation of a sample, of which a lemma above says
what it shows. -/
theorem governor : Obligations.Governor := by
  unfold Obligations.Governor
  refine ⟨exec_governorSample,
    fun s hv hq => ⟨State.govSample_voltage s hv hq, State.govSample_charge s hv hq⟩,
    fun s hs ha hb hi hc =>
      ⟨s.ceilingTripped, exec_governorCeilingTimeout s hs ha hb hi hc, State.ceilingTripped_shows s⟩,
    State.govTrips_spares_bleed,
    fun s hs he hp => ⟨_, exec_capMeasurementTimeout s hs he hp, State.capSkipped_shows s⟩,
    exec_governorComputation, fun s => ?_, fun s hi hb => ?_,
    fun s r h => ⟨State.govRelAct_begins s h, State.govRelAct_ends s h, State.govRelAct_holds s h⟩,
    State.govFloorAct_shows, State.govFloorAct_overlap⟩
  · obtain ⟨hmark, hvalid⟩ := State.govMeasure_marks s
    exact ⟨hmark, hvalid, State.govMeasure_valid s, State.govMeasure_invalid s⟩
  · obtain ⟨hceil, hinhib, hinh⟩ := State.ceilingInhibited_shows s
    rw [State.govCeiling_begins s hi hb]
    exact ⟨hceil, hinhib, hinh, rfl⟩

end Sys2Proof.Machine
end

section
/-!
PROOFS of the statement on the idle pick (O2, R123, R127, R128, R254, R365): what one PERI cycle does to one timer, and
that the cycles of the other timers do not reach it.
-/

namespace Sys2Proof.Machine

/-! ### One PERI cycle of a timer (R123, R127, R135) -/

theorem State.countTmr_held (s : State) {n : Nat} (h : (s.tmr.at n).run = false ∨ s.tmrFrozen n = true) :
    s.countTmr n = s := by
  have held : (!(s.tmr.at n).run || s.tmrFrozen n) = true := by rcases h with h | h <;> simp [h]
  simp only [State.countTmr, held, if_true]

section
variable (s : State) {n : Nat} (hr : (s.tmr.at n).run = true) (hz : s.tmrFrozen n = false)
include hr hz

theorem State.countTmr_prescales (hp : (s.tmr.at n).psc < s.get (R.TMR_CTRL_PSC n)) :
    s.countTmr n = { s with tmr := s.tmr.put n { s.tmr.at n with psc := (s.tmr.at n).psc + 1 } } := by
  simp [State.countTmr, hr, hz, hp]

theorem State.countTmr_loads (hp : s.get (R.TMR_CTRL_PSC n) ≤ (s.tmr.at n).psc) {v : Nat}
    (hl : (s.tmr.at n).load = some v) : s.countTmr n =
      { s with tmr := s.tmr.put n { s.tmr.at n with psc := 0, load := none } }.set (R.TMR_CNT n) v := by
  simp [State.countTmr, hr, hz, not_lt.mpr hp, hl]

theorem State.countTmr_advances (hp : s.get (R.TMR_CTRL_PSC n) ≤ (s.tmr.at n).psc) (hl : (s.tmr.at n).load = none)
    (ht : s.get (R.TMR_CNT n) < (s.tmr.at n).top) : s.countTmr n =
      { s with tmr := s.tmr.put n { s.tmr.at n with psc := 0 } }.set (R.TMR_CNT n) (s.get (R.TMR_CNT n) + 1) := by
  simp [State.countTmr, hr, hz, not_lt.mpr hp, hl, ht]

theorem State.countTmr_waits (hp : s.get (R.TMR_CTRL_PSC n) ≤ (s.tmr.at n).psc) (hl : (s.tmr.at n).load = none)
    (ht : (s.tmr.at n).top ≤ s.get (R.TMR_CNT n)) : s.countTmr n = s := by
  simp [State.countTmr, hr, hz, not_lt.mpr hp, hl, not_lt.mpr ht]

end

/-- A PERI cycle of timer `n` changes of the registers its count, and of the timers the one. -/
theorem State.countTmr_regs (s : State) (n : Nat) :
    RegsOnly (fun f => f = R.TMR_CNT n) s (s.countTmr n) ∧ ∀ m, m ≠ n → (s.countTmr n).tmr.at m = s.tmr.at m := by
  by_cases held : (s.tmr.at n).run = false ∨ s.tmrFrozen n = true
  · rw [State.countTmr_held s held]
    exact ⟨RegsOnly.refl _ s, fun _ _ => rfl⟩
  obtain ⟨hr, hz⟩ : (s.tmr.at n).run = true ∧ s.tmrFrozen n = false := by simpa using held
  rcases lt_or_ge (s.tmr.at n).psc (s.get (R.TMR_CTRL_PSC n)) with hp | hp
  · rw [State.countTmr_prescales s hr hz hp]
    exact ⟨RegsOnly.refl _ s, fun _ hm => Bank.at_put_ne _ hm.symm _⟩
  cases hl : (s.tmr.at n).load with
  | some v =>
    rw [State.countTmr_loads s hr hz hp hl]
    exact ⟨RegsOnly.of_set _ _ _, fun _ hm => Bank.at_put_ne _ hm.symm _⟩
  | none =>
    rcases lt_or_ge (s.get (R.TMR_CNT n)) (s.tmr.at n).top with ht | ht
    · rw [State.countTmr_advances s hr hz hp hl ht]
      exact ⟨RegsOnly.of_set _ _ _, fun _ hm => Bank.at_put_ne _ hm.symm _⟩
    · rw [State.countTmr_waits s hr hz hp hl ht]
      exact ⟨RegsOnly.refl _ s, fun _ _ => rfl⟩

/-! ### The timers side by side -/

/-- Timer `n` stands in `t` as in `s`: its internal state, its count and what its counting rests on. -/
structure State.SameTimer (n : Nat) (s t : State) : Prop where
  own : t.tmr.at n = s.tmr.at n
  cnt : t.get (R.TMR_CNT n) = s.get (R.TMR_CNT n)
  psc : t.get (R.TMR_CTRL_PSC n) = s.get (R.TMR_CTRL_PSC n)
  frozen : t.tmrFrozen n = s.tmrFrozen n

theorem State.SameTimer.refl (n : Nat) (s : State) : s.SameTimer n s := ⟨rfl, rfl, rfl, rfl⟩

theorem State.SameTimer.trans {n : Nat} {s t u : State} (h : s.SameTimer n t) (k : t.SameTimer n u) : s.SameTimer n u :=
  ⟨k.own.trans h.own, k.cnt.trans h.cnt, k.psc.trans h.psc, k.frozen.trans h.frozen⟩

theorem TMR_CNT_inj {n m : Nat} (h : R.TMR_CNT n = R.TMR_CNT m) : n = m := by
  simpa [R.TMR_CNT] using h

theorem State.sameTimer_countTmr (s : State) {n m : Nat} (h : m ≠ n) : s.SameTimer m (s.countTmr n) := by
  obtain ⟨regs, own⟩ := State.countTmr_regs s n
  have other {f : Fld} (hf : (R.TMR_CNT n).apart f = true) : (s.countTmr n).get f = s.get f :=
    regs f (Fld.ne_of_apart hf).symm
  refine ⟨own m h, regs _ fun e => h (TMR_CNT_inj e), other rfl, ?_⟩
  simp only [State.tmrFrozen, State.safeHalted, State.flag, State.bit]
  rw [other rfl, other rfl]

theorem State.sameTimer_foldl {m : Nat} : ∀ {l : List Nat} (_ : m ∉ l) (s : State),
    s.SameTimer m (l.foldl State.countTmr s)
  | [], _, s => .refl m s
  | n :: _, h, s =>
    (State.sameTimer_countTmr s (List.ne_of_not_mem_cons h)).trans
      (State.sameTimer_foldl (List.not_mem_of_not_mem_cons h) (s.countTmr n))

theorem Tmr.at_edgeEnd (b : Bank Tmr 16) (n : Fin 16) : Bank.at (b.map Tmr.edgeEnd) n = { b.at n with edge := none } := by
  simp [Bank.at, Vector.getD, Tmr.edgeEnd]

/-- The PERI cycle of all timers is for timer `n` its own, from a state `u` in which the pin actions of the edge before
are over. -/
theorem State.countTimers_at (s : State) (n : Fin 16) :
    ∃ u : State, u.tmr.at n = { s.tmr.at n with edge := none } ∧ u.get (R.TMR_CNT n) = s.get (R.TMR_CNT n)
      ∧ u.get (R.TMR_CTRL_PSC n) = s.get (R.TMR_CTRL_PSC n) ∧ u.tmrFrozen n = s.tmrFrozen n
      ∧ (u.countTmr n).SameTimer n s.countTimers := by
  obtain ⟨before, after, hl⟩ := List.append_of_mem (List.mem_range.mpr n.isLt)
  have hd : (before ++ n.val :: after).Nodup := hl ▸ List.nodup_range
  obtain ⟨-, hda, hdis⟩ := List.nodup_append.mp hd
  obtain ⟨own, cnt, psc, frozen⟩ := State.sameTimer_foldl (fun h => hdis _ h _ List.mem_cons_self rfl)
    { s with tmr := s.tmr.map Tmr.edgeEnd }
  refine ⟨_, own.trans (Tmr.at_edgeEnd s.tmr n), cnt, psc, frozen, ?_⟩
  rw [State.countTimers, hl, List.foldl_append, List.foldl_cons]
  exact State.sameTimer_foldl (List.nodup_cons.mp hda).1 _

/-- The cycles of the timers change of the registers their counts alone. -/
theorem State.countTimers_regs (s : State) : RegsOnly (fun f => ∃ n : Fin 16, f = R.TMR_CNT n) s s.countTimers := by
  have cycles : RegsOnly (fun f => ∃ n : Fin 16, f = R.TMR_CNT n) { s with tmr := s.tmr.map Tmr.edgeEnd }
      s.countTimers :=
    RegsOnly.foldl (fun n hn u => (State.countTmr_regs u n).1.mono fun _ hf => ⟨⟨n, List.mem_range.mp hn⟩, hf⟩) _
  exact cycles

/-! ### A timer after the cycle of an idle pick -/

theorem State.countTimers_held (s : State) {n : Fin 16} (h : (s.tmr.at n).run = false ∨ s.tmrFrozen n = true) :
    s.countTimers.get (R.TMR_CNT n) = s.get (R.TMR_CNT n)
      ∧ s.countTimers.tmr.at n = { s.tmr.at n with edge := none } := by
  obtain ⟨u, own, cnt, -, frozen, ⟨own', cnt', -, -⟩⟩ := State.countTimers_at s n
  rw [State.countTmr_held u (by simpa [own, frozen] using h)] at own' cnt'
  exact ⟨cnt'.trans cnt, own'.trans own⟩

section
variable (s : State) {n : Fin 16} (hr : (s.tmr.at n).run = true) (hz : s.tmrFrozen n = false)
include hr hz

theorem State.countTimers_prescales (hp : (s.tmr.at n).psc < s.get (R.TMR_CTRL_PSC n)) :
    s.countTimers.get (R.TMR_CNT n) = s.get (R.TMR_CNT n)
      ∧ (s.countTimers.tmr.at n).psc = (s.tmr.at n).psc + 1 := by
  obtain ⟨u, own, cnt, psc, frozen, ⟨own', cnt', -, -⟩⟩ := State.countTimers_at s n
  rw [State.countTmr_prescales u (by rw [own, hr]) (frozen.trans hz) (by rwa [own, psc])] at own' cnt'
  rw [own', Bank.at_put _ n.isLt, own]
  exact ⟨cnt'.trans cnt, rfl⟩

theorem State.countTimers_loads (hp : s.get (R.TMR_CTRL_PSC n) ≤ (s.tmr.at n).psc) {v : Nat}
    (hl : (s.tmr.at n).load = some v) : s.countTimers.get (R.TMR_CNT n) = v % 2 ^ 32
      ∧ (s.countTimers.tmr.at n).psc = 0 ∧ (s.countTimers.tmr.at n).load = none := by
  obtain ⟨u, own, -, psc, frozen, ⟨own', cnt', -, -⟩⟩ := State.countTimers_at s n
  rw [State.countTmr_loads u (by rw [own, hr]) (frozen.trans hz) (by rwa [own, psc]) (by rw [own, hl])] at own' cnt'
  rw [own', cnt', State.set_tmr, Bank.at_put _ n.isLt, State.get_set]
  exact ⟨rfl, rfl, rfl⟩

theorem State.countTimers_advances (hp : s.get (R.TMR_CTRL_PSC n) ≤ (s.tmr.at n).psc)
    (hl : (s.tmr.at n).load = none) (ht : s.get (R.TMR_CNT n) < (s.tmr.at n).top) :
    s.countTimers.get (R.TMR_CNT n) = (s.get (R.TMR_CNT n) + 1) % 2 ^ 32 ∧ (s.countTimers.tmr.at n).psc = 0 := by
  obtain ⟨u, own, cnt, psc, frozen, ⟨own', cnt', -, -⟩⟩ := State.countTimers_at s n
  rw [State.countTmr_advances u (by rw [own, hr]) (frozen.trans hz) (by rwa [own, psc]) (by rw [own, hl])
    (by rwa [own, cnt])] at own' cnt'
  rw [own', cnt', State.set_tmr, Bank.at_put _ n.isLt, State.get_set, cnt]
  exact ⟨rfl, rfl⟩

theorem State.countTimers_waits (hp : s.get (R.TMR_CTRL_PSC n) ≤ (s.tmr.at n).psc) (hl : (s.tmr.at n).load = none)
    (ht : (s.tmr.at n).top ≤ s.get (R.TMR_CNT n)) : s.countTimers.get (R.TMR_CNT n) = s.get (R.TMR_CNT n) := by
  obtain ⟨u, own, cnt, psc, frozen, ⟨-, cnt', -, -⟩⟩ := State.countTimers_at s n
  rw [State.countTmr_waits u (by rw [own, hr]) (frozen.trans hz) (by rwa [own, psc]) (by rw [own, hl])
    (by rwa [own, cnt])] at cnt'
  exact cnt'.trans cnt

end

/-! ### The idle pick (R128, R365) -/

theorem step_idle (s : State) (h : s.pending = []) : step s = .next s.idlePick := by
  rw [step, h]

/-- The state of an idle pick before its timers count. -/
def State.pickBegun (s : State) : State :=
  { s with
    time := s.time.tick (s.on 9 && !s.rst.asserted) (s.get R.HED_TICK)
    dac := s.dac.map DacSt.tick
    lane := s.lane.map Lane.cool
    icu := s.icu.tick }

theorem State.idlePick_eq (s : State) : s.idlePick = s.pickBegun.countTimers := rfl

theorem State.idlePick_time (s : State) :
    s.idlePick.time = s.time.tick (s.on 9 && !s.rst.asserted) (s.get R.HED_TICK) :=
  (State.countTimers_moves _).same .time (by decide)

theorem State.idlePick_icu (s : State) : s.idlePick.icu = s.icu.tick :=
  (State.countTimers_moves _).same .icu (by decide)

/-- RTC counts at the last of its 125 picks (R365). -/
theorem TimeSt.tick_rtc (t : TimeSt) (counts : Bool) (hed : Nat) :
    (t.usFrac < 124 → (t.tick counts hed).usFrac = t.usFrac + 1 ∧ (t.tick counts hed).rtc = t.rtc)
      ∧ (124 ≤ t.usFrac → (t.tick counts hed).usFrac = 0 ∧ (t.tick counts hed).rtc = t.rtc + 1) := by
  refine ⟨fun h => ?_, fun h => ?_⟩
  · have within : t.usFrac + 1 < 125 := by omega
    simp [TimeSt.tick, within]
  · have last : ¬ t.usFrac + 1 < 125 := by omega
    simp [TimeSt.tick, last]

/-- Settles O2: the pick is the timebase's tick with the PERI cycle of the timers, and for each timer that cycle is the
one its own state calls for. -/
theorem stepIdles : Obligations.StepIdles := by
  unfold Obligations.StepIdles
  intro s h
  have regs : RegsOnly (fun f => ∃ n : Fin 16, f = R.TMR_CNT n) s s.idlePick := State.countTimers_regs s.pickBegun
  refine ⟨s.idlePick, step_idle s h, (State.idlePick_moves s).onlyIn _ (by decide), regs, ?_, ?_, ?_, ?_, ?_, fun n => ?_⟩
  · simp [State.idlePick_time, TimeSt.tick]
  · rw [State.idlePick_time]
    rfl
  · rw [State.idlePick_icu]
    rfl
  · rw [State.idlePick_time]
    exact (s.time.tick_rtc _ _).1
  · rw [State.idlePick_time]
    exact (s.time.tick_rtc _ _).2
  · rw [State.idlePick_eq]
    exact ⟨State.countTimers_held s.pickBegun, fun hr hz => ⟨State.countTimers_prescales s.pickBegun hr hz, fun hp =>
      ⟨fun _ => State.countTimers_loads s.pickBegun hr hz hp, State.countTimers_advances s.pickBegun hr hz hp,
        State.countTimers_waits s.pickBegun hr hz hp⟩⟩⟩

end Sys2Proof.Machine
end

section
/-!
PROOFS of the statements on the wide values and the step of TB (O28, O27, R128 to R131, R154): the latches of the
requesters, and what a step changes beside TB.
-/

namespace Sys2Proof.Machine

/-! ### The requesters whose latches an access uses (R129, R166) -/

theorem State.latchReqs_other (s : State) {q : Req} (h : q ≠ .strandA) : s.latchReqs q = [q] := if_pos h

theorem State.mem_latchReqs_self (s : State) (q : Req) : q ∈ s.latchReqs q := by
  by_cases h : q = .strandA
  · subst h
    exact List.mem_cons_self
  · rw [State.latchReqs_other s h]
    exact List.mem_singleton_self q

/-- In SPLIT every strand is a logical core of its own (R165). -/
theorem State.latchReqs_split (s : State) (h : s.plyMode = 2) (q : Req) : s.latchReqs q = [q] := by
  by_cases hq : q = .strandA
  · subst hq
    simp [State.latchReqs, h]
  · exact State.latchReqs_other s hq

theorem State.latchReqs_triple (s : State) (h : s.plyMode = 0) (hb : s.get R.PLY_STATUS_RETIRED ≠ 1)
    (hc : s.get R.PLY_STATUS_RETIRED ≠ 2) : s.latchReqs .strandA = [.strandA, .strandB, .strandC] := by
  simp [State.latchReqs, h, hb, hc]

/-- The mode of the Ply and its retired strand settle the requesters that an access counts for. -/
theorem State.latchReqs_congr {s t : State} (hr : ∀ f : Fld, f.pd = 0 → t.get f = s.get f) (hp : t.ply = s.ply)
    (q : Req) : t.latchReqs q = s.latchReqs q := by
  have mode : t.plyMode = s.plyMode := by
    rw [State.plyMode, State.plyMode, State.flag, State.flag, hp, hr R.PLY_STATUS_SPLITTING rfl, hr R.PLY_MODE_CUR rfl]
  simp only [State.latchReqs, mode, hr R.PLY_STATUS_RETIRED rfl]

theorem State.latchReqs_set (s : State) {f : Fld} (h : f.pd ≠ 0) (v : Nat) (q : Req) :
    (s.set f v).latchReqs q = s.latchReqs q :=
  State.latchReqs_congr (s := s) (t := s.set f v)
    (fun _ hg => State.get_set_ne s (by rintro rfl; exact h hg) v) rfl q

/-! ### The latches (R129, R131) -/

section
variable {α : Type} [DecidableEq α] {ks : List α} {k : α} {p : α × Nat → Bool}

/-- Of latches found by their keys, one just put in front is met first. -/
theorem find_latch_put (h : k ∈ ks) (v : Nat) (l : List (α × Nat)) :
    ((ks.map fun k => (k, v)) ++ l).find? (fun x => decide (x.1 = k)) = some (k, v) := by
  induction ks with
  | nil => exact absurd h List.not_mem_nil
  | cons a ks ih =>
    by_cases e : a = k
    · simp [e]
    · simpa [e] using ih ((List.mem_cons.mp h).resolve_left (Ne.symm e))

/-- A latch of another key than those put in front, and than those taken out, is met as before. -/
theorem find_latch_other (h : k ∉ ks) (hp : ∀ x, x.1 = k → p x = true) (v : Nat) (l : List (α × Nat)) :
    ((ks.map fun k => (k, v)) ++ l.filter p).find? (fun x => decide (x.1 = k)) =
      l.find? fun x => decide (x.1 = k) := by
  have front : (ks.map fun k => (k, v)).find? (fun x => decide (x.1 = k)) = none := by
    simpa using fun a ha (e : a = k) => h (e ▸ ha)
  rw [List.find?_append, front, Option.none_or, List.find?_filter]
  congr 1
  funext x
  by_cases hx : x.1 = k
  · simp [hx, hp x hx]
  · simp [hx]

end

theorem State.writeLatch_putLatch (s : State) (q r : Req) (v : Nat) : (s.putLatch q v).writeLatch r =
    if r ∈ s.latchReqs q then v else s.writeLatch r := by
  split
  · rename_i h
    simp only [State.writeLatch, State.putLatch, find_latch_put h]
  · rename_i h
    simp only [State.writeLatch, State.putLatch,
      find_latch_other h (p := fun x => decide (x.1 ∉ s.latchReqs q)) fun x e => by simpa [e] using h]

theorem State.highLatch_loadLatch (s : State) (q q' : Req) (w w' : Wide) : (s.loadLatch q w).highLatch q' w' =
    if w' = w ∧ q' ∈ s.latchReqs q then s.wideNow w / 2 ^ 32 else s.highLatch q' w' := by
  have own : (w', q') ∈ (s.latchReqs q).map (Prod.mk w) ↔ w' = w ∧ q' ∈ s.latchReqs q := by
    simp [and_comm, eq_comm]
  have keys (v : Nat) : ((s.latchReqs q).map fun q => ((w, q), v)) =
      ((s.latchReqs q).map (Prod.mk w)).map fun k => (k, v) := by
    rw [List.map_map]
    rfl
  split
  · rename_i h
    simp only [State.highLatch, State.loadLatch, keys, find_latch_put (own.mpr h)]
  · rename_i h
    have kept : ∀ x : (Wide × Req) × Nat, x.1 = (w', q') → decide (x.1.1 ≠ w ∨ x.1.2 ∉ s.latchReqs q) = true := by
      intro x e
      rw [e]
      exact decide_eq_true (not_and_or.mp h)
    simp only [State.highLatch, State.loadLatch, keys, find_latch_other (mt own.mp h) kept]

/-! ### The write of TMR_GSPICK (R131) -/

theorem exec_wideValueLowWrite (q : Who) (v : Word) (s : State) (h : s.on 6 = true) :
    exec (.wideValueLowWrite q v) s = .next ((s.reply q.req .ok 0).putLatch q.req v.toNat) := by
  change Host.Outcome.next (s.via q.req 6 fun s => s.putLatch q.req v.toNat) = _
  rw [State.via_on s _ _ h]

theorem exec_wideValueHighWrite (q : Who) (v : Word) (s : State) (h : s.on 6 = true) :
    exec (.wideValueHighWrite q v) s = .next ((s.reply q.req .ok 0).commitWide q.req v.toNat) := by
  change Host.Outcome.next (s.via q.req 6 fun s => s.commitWide q.req v.toNat) = _
  rw [State.via_on s _ _ h]

/-- The high word commits both halves: the one that waited and its own. -/
theorem State.gsPick_commitWide (s : State) (q : Req) {v : Nat} (h : v < 2 ^ 32) :
    (s.commitWide q v).gsPick = s.writeLatch q % 2 ^ 32 + 2 ^ 32 * v := by
  have lo : (s.commitWide q v).get R.TMR_GSPICK_LO = s.writeLatch q % 2 ^ 32 :=
    (State.get_set_apart _ rfl v).trans (State.get_set ..)
  have hi : (s.commitWide q v).get R.TMR_GSPICK_HI = v := State.get_set_of_lt _ h
  rw [State.gsPick, lo, hi]

theorem State.commitWide_regs (s : State) (q : Req) (v : Nat) :
    RegsOnly (fun f => f = R.TMR_GSPICK_LO ∨ f = R.TMR_GSPICK_HI) s (s.commitWide q v) :=
  ((RegsOnly.refl _ s).set (.inl rfl) _).set (.inr rfl) v

theorem State.writeLatch_commitWide (s : State) (q r : Req) (v : Nat) : (s.commitWide q v).writeLatch r =
    if r ∈ s.latchReqs q then 0 else s.writeLatch r := by
  rw [State.commitWide, State.writeLatch_putLatch, State.latchReqs_set _ (by decide), State.latchReqs_set _ (by decide)]
  rfl

/-- Settles O28: a low word goes to the latches of the requester's group alone, and the high word takes it from the
requester's own and returns the group's to 0. -/
theorem wideWrites : Obligations.WideWrites := by
  unfold Obligations.WideWrites
  refine ⟨fun q v s h => ?_, fun q v s h => ?_⟩
  · let u := s.reply q.req .ok 0
    have frame : Moves 0x12 s (u.putLatch q.req v.toNat) :=
      .step (.step (.refl _ s) (State.reply_moves ..) (by decide)) (State.putLatch_moves ..) (by decide)
    exact ⟨_, exec_wideValueLowWrite q v s h, fun r => u.writeLatch_putLatch q.req r v.toNat, rfl,
      frame.onlyIn _ (by decide)⟩
  · let u := s.reply q.req .ok 0
    exact ⟨_, exec_wideValueHighWrite q v s h, u.gsPick_commitWide q.req v.isLt,
      fun r => u.writeLatch_commitWide q.req r v.toNat, u.commitWide_regs q.req v.toNat⟩

/-! ### The read of a low word (R129) -/

theorem exec_wideValueLowRead (q : Req) (w : Wide) (s : State) (h : s.on (wideDomain w) = true) :
    exec (.wideValueLowRead q w) s = .next ((s.reply q .ok 0).readWideLow q w) := by
  change Host.Outcome.next (s.via q (wideDomain w) fun s => s.readWideLow q w) = _
  rw [State.via_on s _ _ h]

theorem State.wideNow_reply (s : State) (q : Req) (c : RespCode) (d : Nat) (w : Wide) :
    (s.reply q c d).wideNow w = s.wideNow w := by
  cases w <;> rfl

/-- The answer of a low read, with what it leaves in the latches. -/
theorem State.readWideLow_shows (s : State) (q : Req) (w : Wide) :
    (s.readWideLow q w).resp.at (reqIdx q) = { code := .ok, data := s.wideNow w % 2 ^ 32 }
      ∧ ∀ q' w', (s.readWideLow q w).highLatch q' w' =
        if w' = w ∧ q' ∈ s.latchReqs q then s.wideNow w / 2 ^ 32 else s.highLatch q' w' := by
  refine ⟨State.resp_reply .., fun q' w' => ?_⟩
  rw [State.readWideLow, State.highLatch_loadLatch, State.wideNow_reply]
  rfl

/-! ### A step of TB (R128, R134, R151, R154) -/

/-- TB with its new value, as the Warp node shows it. -/
def State.tbTaken (s : State) (tb : BitVec 64) : State :=
  let gone (x : Nat) : Bool := decide (s.time.tb.toNat < x) && decide (x ≤ tb.toNat)
  let u := { s with
    time := { s.time with tb := tb }
    warp := { s.warp with
      armed := s.warp.armed.filter (fun x => !gone x), synced := true, stepPick := none, stepped := true } }
  let u := ((u.set R.TB_STAT 1).set R.WRP_STAT_TIME_LOST 0).showArmed
  u.setB R.WRP_STAT_TIMELOCK (decide ((u.gets R.WRP_PHERR).natAbs ≤ 1))

theorem State.tbTaken_regs (s : State) (tb : BitVec 64) : RegsOnly (fun f => f.pd = 9) s (s.tbTaken tb) := by
  intro f hf
  have outside {g : Fld} (hg : g.pd = 9) : g ≠ f := by
    rintro rfl
    exact hf hg
  unfold State.tbTaken State.showArmed
  dsimp only
  rw [State.get_setB_ne _ (outside rfl), State.get_set_ne _ (outside rfl), State.get_set_ne _ (outside rfl),
    State.get_setB_ne _ (outside rfl), State.get_set_ne _ (outside rfl), State.get_set_ne _ (outside rfl)]
  rfl

theorem State.tbTaken_shows (s : State) (tb : BitVec 64) :
    (s.tbTaken tb).get R.TB_STAT = 1 ∧ (s.tbTaken tb).get R.WRP_STAT_TIME_LOST = 0 := by
  unfold State.tbTaken State.showArmed
  dsimp only
  refine ⟨?_, ?_⟩
  · rw [State.get_setB_apart _ rfl, State.get_set_apart _ rfl, State.get_set_apart _ rfl, State.get_setB_apart _ rfl,
      State.get_set_apart _ rfl, State.get_set]
    rfl
  · rw [State.get_setB_apart _ rfl, State.get_set_apart _ rfl, State.get_set_apart _ rfl, State.get_setB_apart _ rfl,
      State.get_set]
    rfl

/-- A step cancels the targets it carries TB past, and no other stands between the old and the new TB. -/
theorem State.tbTaken_armed (s : State) (tb : BitVec 64) :
    ∀ x ∈ (s.tbTaken tb).warp.armed, x ≤ s.time.tb.toNat ∨ tb.toNat < x := by
  intro x hx
  have kept := (List.mem_filter.mp hx).2
  simp only [Bool.not_and, Bool.or_eq_true, Bool.not_eq_true', decide_eq_false_iff_not, not_lt, not_le] at kept
  exact kept

/-- An armed target that the step carries TB past is late (R154). -/
def State.targetsLate (s : State) (tb : BitVec 64) : State :=
  let gone (x : Nat) : Bool := decide (s.time.tb.toNat < x) && decide (x ≤ tb.toNat)
  let u := s.tbTaken tb
  if s.warp.armed.any gone && u.on 6 then u.set R.TMR_GSTART_LATE 1 else u

/-- So is a scheduled release, which is cancelled (R134). -/
def State.tbStepped (s : State) (tb : BitVec 64) : State :=
  let u := s.targetsLate tb
  if u.flag R.TMR_GSTART_PEND && decide (s.time.tb.toNat < u.gsPick) && decide (u.gsPick ≤ tb.toNat) then
    (u.set R.TMR_GSTART_PEND 0).set R.TMR_GSTART_LATE 1 else u

theorem State.stepTb_eq (s : State) (tb : BitVec 64) : s.stepTb tb =
    (if (s.tbStepped tb).gov.started && (s.tbStepped tb).on 6 then (s.tbStepped tb).govSample
      else s.tbStepped tb).tick119 true := rfl

/-- What is late shows in registers alone. -/
theorem State.tbStepped_keeps (s : State) (tb : BitVec 64) : let u := s.tbStepped tb
    u.time = { s.time with tb := tb } ∧ u.warp = (s.tbTaken tb).warp ∧ u.gov = s.gov ∧ u.tmr = s.tmr ∧ u.pwm = s.pwm := by
  unfold State.tbStepped State.targetsLate
  dsimp only
  split <;> split <;> exact ⟨rfl, rfl, rfl, rfl, rfl⟩

theorem State.targetsLate_regs (s : State) (tb : BitVec 64) :
    RegsOnly (fun f => f = R.TMR_GSTART_LATE) (s.tbTaken tb) (s.targetsLate tb) := by
  unfold State.targetsLate
  dsimp only
  split
  · exact RegsOnly.of_set _ _ 1
  · exact .refl _ _

theorem State.tbStepped_regs (s : State) (tb : BitVec 64) :
    RegsOnly (fun f => f = R.TMR_GSTART_PEND ∨ f = R.TMR_GSTART_LATE) (s.tbTaken tb) (s.tbStepped tb) := by
  refine ((s.targetsLate_regs tb).mono fun _ => .inr).trans ?_
  unfold State.tbStepped
  dsimp only
  split
  · exact ((RegsOnly.refl _ _).set (.inl rfl) 0).set (.inr rfl) 1
  · exact .refl _ _

/-- A scheduled release between the old and the new TB is cancelled, with LATE set. -/
theorem State.tbStepped_late (s : State) (tb : BitVec 64) (hp : s.flag R.TMR_GSTART_PEND = true)
    (ho : s.time.tb.toNat < s.gsPick) (hn : s.gsPick ≤ tb.toNat) :
    (s.tbStepped tb).get R.TMR_GSTART_PEND = 0 ∧ (s.tbStepped tb).get R.TMR_GSTART_LATE = 1 := by
  have same {f : Fld} (hf : f ≠ R.TMR_GSTART_LATE) (hd : f.pd ≠ 9) : (s.targetsLate tb).get f = s.get f :=
    (s.targetsLate_regs tb f hf).trans (s.tbTaken_regs tb f hd)
  have pend : (s.targetsLate tb).flag R.TMR_GSTART_PEND = true := by
    rwa [State.flag, same (by decide) (by decide)]
  have pick : (s.targetsLate tb).gsPick = s.gsPick := by
    rw [State.gsPick, same (by decide) (by decide), same (by decide) (by decide), State.gsPick]
  simp only [State.tbStepped, pend, pick, ho, hn, decide_true, Bool.and_self, if_true]
  exact ⟨(State.get_set_apart _ rfl 1).trans (State.get_set ..), State.get_set ..⟩

theorem exec_tbStep (tb : BitVec 64) (s : State) (h : s.stepsAt tb = true) :
    exec (.tbStep tb) s = .next (s.stepTb tb) := by
  change Host.Outcome.next (if s.stepsAt tb then s.stepTb tb else s) = _
  rw [if_pos h]

theorem State.tick119_step (s : State) : s.tick119 true =
    if s.time.hed ≠ 0 ∧ s.time.ticked = false then { s with time := { s.time with ticked := true } }.fire [119] else s := by
  simp [State.tick119]

/-- Settles O27: a low read answers and loads the latches of the requester's group, and a step is the new TB with what
it makes late, before the governor samples and source 119 fires. -/
theorem timebaseReads : Obligations.TimebaseReads := by
  unfold Obligations.TimebaseReads
  refine ⟨fun q w s h => ?_, fun q s => ⟨s.mem_latchReqs_self q, s.latchReqs_other, fun h => s.latchReqs_split h q,
    s.latchReqs_triple⟩, fun tb s h => ?_, State.tick119_step⟩
  · let u := s.reply q .ok 0
    have now : u.wideNow w = s.wideNow w := s.wideNow_reply q .ok 0 w
    obtain ⟨answer, latches⟩ := u.readWideLow_shows q w
    rw [now] at answer latches
    have frame : Moves 0x12 s (u.readWideLow q w) :=
      .step (.step (.refl _ s) (State.reply_moves ..) (by decide)) (State.readWideLow_moves ..) (by decide)
    exact ⟨_, exec_wideValueLowRead q w s h, answer, latches, frame.onlyIn _ (by decide), rfl⟩
  · obtain ⟨time, warp, gov, tmr, pwm⟩ := s.tbStepped_keeps tb
    obtain ⟨stat, lost⟩ := s.tbTaken_shows tb
    have regs := s.tbStepped_regs tb
    have domain : (s.tbStepped tb).on 6 = s.on 6 := by
      rw [State.on, regs _ (by decide), s.tbTaken_regs tb _ (by decide), State.on]
    refine ⟨s.tbStepped tb, ?_, time, (regs _ (by decide)).trans stat, (regs _ (by decide)).trans lost, ?_, ?_, tmr, pwm,
      s.tbStepped_late tb, ?_⟩
    · rw [exec_tbStep tb s h, State.stepTb_eq, domain, gov]
      simp only [Bool.and_eq_true]
    all_goals rw [warp]
    · rfl
    · rfl
    · exact s.tbTaken_armed tb

end Sys2Proof.Machine
end

section
/-!
PROOFS of the statement on the general timers (O26, R123 to R127, R133, R524): the pin's level, the events of a counter,
a capture, and the writes that load, force and enable a timer.
-/

namespace Sys2Proof.Machine

/-! ### Registers that an access does not reach, and those it writes (R8) -/

/-- A frame of listed registers, at a register that is apart from each. -/
theorem RegsOnly.get_apart {L : List Fld} {s t : State} (h : RegsOnly (fun f => f ∈ L) s t) {f : Fld}
    (hf : L.all (fun g => g.apart f) = true) : t.get f = s.get f :=
  h f fun hm => Fld.ne_of_apart (List.all_eq_true.mp hf f hm) rfl

theorem RegsOnly.set_listed {L : List Fld} {s t : State} (h : RegsOnly (fun f => f ∈ L) s t) {f : Fld} (hf : f ∈ L)
    (v : Nat) : RegsOnly (fun f => f ∈ L) s (t.set f v) := h.set hf v

theorem addr_of_mem_regFields {a : Nat} {f : Fld} (h : f ∈ regFields a) : f.addr = a := by
  obtain ⟨r, -, hr⟩ := List.mem_flatMap.mp h
  obtain ⟨g, -, rfl⟩ := List.mem_map.mp hr
  rfl

/-- A write leaves the registers at other addresses than its own, above SYS and ICU, unchanged. -/
theorem State.get_writeReg_elsewhere (s : State) (q : Who) {a : Nat} (v : Nat) {f : Fld} (ha : 0x5000 ≤ f.addr)
    (hf : f.addr ≠ a) : (s.writeReg q a v).get f = s.get f := by
  have h := State.get_foldl_writeFld_of_not_mem q v (regFields a) s (mt addr_of_mem_regFields hf)
  unfold State.writeReg
  dsimp only
  split
  · split
    · exact (State.get_journal ..).trans ((State.get_lockViolation_above _ q 0 a ha).trans h)
    · exact (State.get_lockViolation_above _ q 0 a ha).trans h
  · exact h

theorem State.get_writeFld_wo (s : State) (q : Who) (v : Nat) {f : Fld} (h : f.acc = .wo) :
    (s.writeFld q v f).get f = presented v f := by
  simp [State.writeFld, h, presented]

@[simp] theorem State.writeReg_tmr (s : State) (q : Who) (a v : Nat) : (s.writeReg q a v).tmr = s.tmr :=
  (State.writeReg_moves s q a v).same .tmr (by decide)

/-! ### One timer of the bank -/

theorem State.tmr_updTmr (s : State) (n : Fin 16) (f : Tmr → Tmr) : (s.updTmr n f).tmr.at n = f (s.tmr.at n) :=
  Bank.at_upd _ n.isLt f

/-! ### The pin (R125) -/

/-- The level that stood before the PERI edge. -/
def State.pinWas (s : State) (n : Nat) : Bool :=
  match (s.tmr.at n).edge with
  | some x => x.2
  | none => s.flag (R.TMR_STAT_PINLVL n)

/-- A pin action that no other of its edge outranks acts on the level that stood before the edge. -/
theorem State.pinAct_applies (s : State) (n : Nat) {rank act : Nat} (ha : pinActs act = true)
    (hr : ∀ x, (s.tmr.at n).edge = some x → x.1 ≤ rank) :
    s.pinAct n rank act = (s.updTmr n fun t => { t with edge := some (rank, s.pinWas n) }).setB (R.TMR_STAT_PINLVL n)
      (pinLevel act (s.flag (R.TMR_PIN_IDLE n)) (s.pinWas n)) := by
  unfold State.pinAct State.pinWas
  cases h : (s.tmr.at n).edge with
  | none => simp [ha]
  | some x => simp [ha, not_lt.mpr (hr x h)]

theorem State.pinAct_cases (s : State) (n rank act : Nat) : s.pinAct n rank act = s ∨
    ∃ e lvl, s.pinAct n rank act = (s.updTmr n fun t => { t with edge := e }).setB (R.TMR_STAT_PINLVL n) lvl := by
  cases ha : pinActs act with
  | false => exact .inl (by simp [State.pinAct, ha])
  | true =>
    by_cases hr : ∀ x, (s.tmr.at n).edge = some x → x.1 ≤ rank
    · exact .inr ⟨_, _, s.pinAct_applies n ha hr⟩
    · push Not at hr
      obtain ⟨x, hx, outranks⟩ := hr
      exact .inl (by simp [State.pinAct, ha, hx, outranks])

theorem State.pinAct_regs (s : State) (n rank act : Nat) :
    RegsOnly (fun f => f ∈ [R.TMR_STAT_PINLVL n]) s (s.pinAct n rank act) := by
  obtain h | ⟨e, lvl, h⟩ := s.pinAct_cases n rank act <;> rw [h]
  · exact .refl _ s
  · exact RegsOnly.set_listed (.refl _ s) List.mem_cons_self _

/-- A pin action leaves a timer as it is but for the edge it notes. -/
theorem State.pinAct_tmr (s : State) (n : Fin 16) (rank act : Nat) :
    ∃ e, (s.pinAct n rank act).tmr.at n = { s.tmr.at n with edge := e } := by
  obtain h | ⟨e, lvl, h⟩ := s.pinAct_cases n rank act <;> rw [h]
  · exact ⟨_, rfl⟩
  · exact ⟨e, s.tmr_updTmr n _⟩

/-! ### A compare match (R124) -/

theorem State.get_countAt (s : State) (n : Nat) {v : Nat} (h : v < 2 ^ 32) : (s.countAt n v).get (R.TMR_CNT n) = v := by
  unfold State.countAt
  split
  · assumption
  · exact State.get_set_of_lt _ h

/-- The compare value in force. -/
def Tmr.cmp (t : Tmr) (b : Bool) : Nat := if b then t.cmpb else t.cmpa

/-- The STAT bit of a compare match. -/
def cmpStat (n : Nat) (b : Bool) : Fld := if b then R.TMR_STAT_CMPB n else R.TMR_STAT_CMPA n

/-- The timer with its counter at a compare value, before the event. -/
def State.tmrMatched (s : State) (n : Nat) (b : Bool) : State :=
  let u := (s.countAt n ((s.tmr.at n).cmp b)).set (cmpStat n b) 1
  u.pinAct n (b2n b) (u.get (if b then R.TMR_PIN_ACTB n else R.TMR_PIN_ACTA n))

theorem exec_tmrCompareMatch (n : Fin 16) (b : Bool) (s : State) (hr : (s.tmr.at n).run = true)
    (hz : s.tmrFrozen n = false) (hv : (s.tmr.at n).cmp b ≤ (s.tmr.at n).top) :
    exec (.tmrCompareMatch n b) s = .next (fireAll ((s.tmrMatched n b).pinEvent n (if b then 1 else 0))) := by
  change Host.Outcome.next (fireAll (s.tmrMatch n b)) = _
  have counts : (!(s.tmr.at n).run || s.tmrFrozen n || decide ((s.tmr.at n).top < (s.tmr.at n).cmp b)) = false := by
    simp [hr, hz, hv]
  unfold Tmr.cmp at counts
  simp only [State.tmrMatch, counts, Bool.false_eq_true, if_false]
  rfl

theorem State.tmrMatched_shows (s : State) (n : Fin 16) (b : Bool) (hv : (s.tmr.at n).cmp b < 2 ^ 32) :
    (s.tmrMatched n b).get (R.TMR_CNT n) = (s.tmr.at n).cmp b ∧ (s.tmrMatched n b).get (cmpStat n b) = 1 := by
  have acts := State.pinAct_regs ((s.countAt n ((s.tmr.at n).cmp b)).set (cmpStat n b) 1) n (b2n b)
  have count := s.get_countAt n hv
  cases b
  · exact ⟨((acts _).get_apart rfl).trans ((State.get_set_apart _ rfl 1).trans count),
      ((acts _).get_apart rfl).trans (State.get_set ..)⟩
  · exact ⟨((acts _).get_apart rfl).trans ((State.get_set_apart _ rfl 1).trans count),
      ((acts _).get_apart rfl).trans (State.get_set ..)⟩

theorem State.tmrMatched_onlyIn (s : State) (n : Nat) (b : Bool) : OnlyIn [.tmr, .pd 6] s (s.tmrMatched n b) := by
  have stat : (cmpStat n b).pd = 6 := by cases b <;> rfl
  have frame : Moves 0x10000000100000 s (s.tmrMatched n b) :=
    .step (.step (State.countAt_moves ..) (State.set_moves stat) (by decide)) (State.pinAct_moves ..) (by decide)
  exact frame.onlyIn _ (by decide)

/-! ### An overflow (R124, R127) -/

/-- The counter at 0 after its overflow. -/
def State.tmrZeroed (s : State) (n : Nat) : State :=
  ((s.updTmr n fun t => { t with psc := 0 }).set (R.TMR_CNT n) 0).set (R.TMR_STAT_OVF n) 1

/-- The timer with the action of its overflow on the pin, and the values written in force. -/
def State.tmrReloaded (s : State) (n : Nat) : State :=
  ((s.tmrZeroed n).pinAct n 2 ((s.tmrZeroed n).get (R.TMR_PIN_ACTO n))).tmrLoad n

/-- In ONESHOT the run is over. -/
def State.tmrOneshot (s : State) (n : Nat) : State :=
  if s.get (R.TMR_CTRL_MODE n) = 1 then
    ((s.set (R.TMR_CTRL_EN n) 0).set (R.TMR_STAT_DONE n) 1).updTmr n fun t => { t with run := false }
  else s

theorem exec_tmrOverflow (n : Fin 16) (s : State) (hr : (s.tmr.at n).run = true) (hz : s.tmrFrozen n = false) :
    exec (.tmrOverflow n) s = .next (fireAll (((s.tmrReloaded n).tmrOneshot n).pinEvent n 2)) := by
  change Host.Outcome.next (fireAll (s.tmrWrap n)) = _
  have counts : (!(s.tmr.at n).run || s.tmrFrozen n) = false := by simp [hr, hz]
  simp only [State.tmrWrap, counts, Bool.false_eq_true, if_false]
  rfl

theorem State.tmrZeroed_regs (s : State) (n : Nat) :
    RegsOnly (fun f => f ∈ [R.TMR_CNT n, R.TMR_STAT_OVF n]) s (s.tmrZeroed n) :=
  RegsOnly.set_listed (RegsOnly.set_listed (fun _ _ => rfl) List.mem_cons_self 0) (by simp) 1

theorem State.tmrZeroed_tmr (s : State) (n : Fin 16) : (s.tmrZeroed n).tmr.at n = { s.tmr.at n with psc := 0 } :=
  s.tmr_updTmr n _

theorem State.tmrReloaded_regs (s : State) (n : Nat) :
    RegsOnly (fun f => f ∈ [R.TMR_STAT_PINLVL n]) (s.tmrZeroed n) (s.tmrReloaded n) :=
  (s.tmrZeroed n).pinAct_regs n 2 _

/-- The values that a counter at 0 is held against are those that were written. -/
theorem State.get_tmrZeroed_draft (s : State) (n : Nat) {f : Fld} (h : f.rst = .draft) :
    (s.tmrZeroed n).get f = s.get f := by
  refine s.tmrZeroed_regs n f ?_
  rintro (_ | ⟨_, _ | ⟨_, ⟨⟩⟩⟩) <;> simp [R.TMR_CNT, R.TMR_STAT_OVF] at h

/-- The timer takes up the values written. -/
theorem State.tmrReloaded_tmr (s : State) (n : Fin 16) : ∃ e, (s.tmrReloaded n).tmr.at n =
    { s.tmr.at n with
      psc := 0, edge := e
      top := max 1 (s.get (R.TMR_TOP n)), cmpa := s.get (R.TMR_CMPA n), cmpb := s.get (R.TMR_CMPB n) } := by
  let u := (s.tmrZeroed n).pinAct n 2 ((s.tmrZeroed n).get (R.TMR_PIN_ACTO n))
  have written {f : Fld} (h : f.rst = .draft) (hf : (R.TMR_STAT_PINLVL n).apart f = true) : u.get f = s.get f :=
    ((State.pinAct_regs _ n 2 _).get_apart (by simpa using hf)).trans (s.get_tmrZeroed_draft n h)
  obtain ⟨e, he⟩ := (s.tmrZeroed n).pinAct_tmr n 2 ((s.tmrZeroed n).get (R.TMR_PIN_ACTO n))
  refine ⟨e, (u.tmr_updTmr n _).trans ?_⟩
  rw [written rfl rfl, written rfl rfl, written rfl rfl, he, State.tmrZeroed_tmr]

/-- The action of the overflow on a pin on which none has acted at this edge. -/
theorem State.tmrReloaded_pin (s : State) (n : Fin 16) (he : (s.tmr.at n).edge = none)
    (ha : pinActs (s.get (R.TMR_PIN_ACTO n)) = true) : (s.tmrReloaded n).flag (R.TMR_STAT_PINLVL n) =
      pinLevel (s.get (R.TMR_PIN_ACTO n)) (s.flag (R.TMR_PIN_IDLE n)) (s.flag (R.TMR_STAT_PINLVL n)) := by
  have edge : ((s.tmrZeroed n).tmr.at n).edge = none := by rw [State.tmrZeroed_tmr, he]
  have act : (s.tmrZeroed n).get (R.TMR_PIN_ACTO n) = s.get (R.TMR_PIN_ACTO n) := (s.tmrZeroed_regs n).get_apart rfl
  have idle : (s.tmrZeroed n).flag (R.TMR_PIN_IDLE n) = s.flag (R.TMR_PIN_IDLE n) := by
    rw [State.flag, (s.tmrZeroed_regs n).get_apart rfl, State.flag]
  have was : (s.tmrZeroed n).pinWas n = s.flag (R.TMR_STAT_PINLVL n) := by
    simp only [State.pinWas, edge]
    rw [State.flag, (s.tmrZeroed_regs n).get_apart rfl, State.flag]
  have applied := (s.tmrZeroed n).pinAct_applies n (rank := 2) ha (by simp [edge])
  rw [idle, was] at applied
  rw [State.tmrReloaded, act, applied]
  exact State.flag_setB _ rfl _

theorem State.tmrOneshot_regs (s : State) (n : Nat) :
    RegsOnly (fun f => f ∈ [R.TMR_CTRL_EN n, R.TMR_STAT_DONE n]) s (s.tmrOneshot n) := by
  unfold State.tmrOneshot
  split
  · exact RegsOnly.set_listed (RegsOnly.set_listed (.refl _ s) List.mem_cons_self 0) (by simp) 1
  · exact .refl _ s

theorem State.tmrOneshot_shows (s : State) (n : Fin 16) (h : s.get (R.TMR_CTRL_MODE n) = 1) :
    (s.tmrOneshot n).get (R.TMR_CTRL_EN n) = 0 ∧ (s.tmrOneshot n).get (R.TMR_STAT_DONE n) = 1 := by
  rw [State.tmrOneshot, if_pos h]
  exact ⟨(State.get_set_apart _ rfl 1).trans (State.get_set ..), State.get_set ..⟩

theorem State.tmrOneshot_tmr (s : State) (n : Fin 16) : (s.tmrOneshot n).tmr.at n =
    { s.tmr.at n with run := (s.tmr.at n).run && decide (s.get (R.TMR_CTRL_MODE n) ≠ 1) } := by
  unfold State.tmrOneshot
  split
  · rename_i h
    refine (State.tmr_updTmr _ n _).trans ?_
    simp [h]
  · rename_i h
    simp [h]

theorem State.tmrOneshot_moves (s : State) (n : Nat) : Moves 0x10000000100000 s (s.tmrOneshot n) := by
  unfold State.tmrOneshot
  exact .ite (.step (.step (.step (.refl _ s) (State.set_moves (d := 6) rfl) (by decide)) (State.set_moves (d := 6) rfl) (by decide))
    (State.updTmr_moves ..) (by decide)) (.refl _ s)

theorem State.tmrOverflow_onlyIn (s : State) (n : Nat) : OnlyIn [.tmr, .pd 6] s ((s.tmrReloaded n).tmrOneshot n) := by
  have zeroed : Moves 0x10000000100000 s (s.tmrZeroed n) :=
    .step (.step (.step (.refl _ s) (State.updTmr_moves ..) (by decide)) (State.set_moves (d := 6) rfl) (by decide))
      (State.set_moves (d := 6) rfl) (by decide)
  have reloaded : Moves 0x10000000100000 s (s.tmrReloaded n) :=
    .step (.step zeroed (State.pinAct_moves ..) (by decide)) (State.tmrLoad_moves ..) (by decide)
  exact (reloaded.trans (State.tmrOneshot_moves ..)).onlyIn _ (by decide)

/-- The timer after its overflow: the counter, the values in force, the run in ONESHOT and the pin. -/
theorem State.tmrOverflow_shows (s : State) (n : Fin 16) (hr : (s.tmr.at n).run = true) :
    let w := (s.tmrReloaded n).tmrOneshot n
    w.get (R.TMR_CNT n) = 0 ∧ w.get (R.TMR_STAT_OVF n) = 1 ∧ (w.tmr.at n).top = max 1 (s.get (R.TMR_TOP n))
      ∧ (w.tmr.at n).cmpa = s.get (R.TMR_CMPA n) ∧ (w.tmr.at n).cmpb = s.get (R.TMR_CMPB n)
      ∧ (s.get (R.TMR_CTRL_MODE n) = 1 →
        w.get (R.TMR_CTRL_EN n) = 0 ∧ w.get (R.TMR_STAT_DONE n) = 1 ∧ (w.tmr.at n).run = false)
      ∧ (s.get (R.TMR_CTRL_MODE n) ≠ 1 → (w.tmr.at n).run = true)
      ∧ ((s.tmr.at n).edge = none → pinActs (s.get (R.TMR_PIN_ACTO n)) = true → w.flag (R.TMR_STAT_PINLVL n) =
        pinLevel (s.get (R.TMR_PIN_ACTO n)) (s.flag (R.TMR_PIN_IDLE n)) (s.flag (R.TMR_STAT_PINLVL n))) := by
  intro w
  have zeroed := s.tmrZeroed_regs n
  have reloaded := s.tmrReloaded_regs n
  have regs := (s.tmrReloaded n).tmrOneshot_regs n
  have mode : (s.tmrReloaded n).get (R.TMR_CTRL_MODE n) = s.get (R.TMR_CTRL_MODE n) :=
    (reloaded.get_apart rfl).trans (zeroed.get_apart rfl)
  obtain ⟨e, tmr⟩ := s.tmrReloaded_tmr n
  have own := (s.tmrReloaded n).tmrOneshot_tmr n
  rw [tmr, mode] at own
  have run : (w.tmr.at n).run = decide (s.get (R.TMR_CTRL_MODE n) ≠ 1) := by
    rw [own, hr, Bool.true_and]
  refine ⟨?_, ?_, by rw [own], by rw [own], by rw [own], fun hm => ?_, fun hm => run.trans (decide_eq_true hm),
    fun he ha => ?_⟩
  · exact (regs.get_apart rfl).trans ((reloaded.get_apart rfl).trans ((State.get_set_apart _ rfl 1).trans
      (State.get_set ..)))
  · exact (regs.get_apart rfl).trans ((reloaded.get_apart rfl).trans (State.get_set ..))
  · obtain ⟨en, done⟩ := (s.tmrReloaded n).tmrOneshot_shows n (mode.trans hm)
    exact ⟨en, done, run.trans (by simp [hm])⟩
  · rw [State.flag, regs.get_apart rfl]
    exact s.tmrReloaded_pin n he ha

/-! ### Timer events (R124, R524) -/

theorem State.tmrEvent_eq (s : State) (n : Fin 16) (e : Nat) :
    (s.tmrEvent n e).1 = (if s.bit (R.TMR_CTRL_IE n) e then s.raise (88 + n) else s)
      ∧ (s.tmrEvent n e).2 = if s.get (R.TMR_CTRL_EVSEL n) = e then [84 + n.val] else [] := ⟨rfl, rfl⟩

/-- No trip extension sees a level while GTZEN is 0. -/
theorem State.drivenTrips_unseen (s : State) (h : s.get R.TRP_TZCFG_GTZEN = 0) : s.drivenTrips = (s, []) := by
  simp [State.drivenTrips, h]

/-! ### A capture (R126) -/

/-- The count and TB taken. -/
def State.capTaken (s : State) (n : Nat) : State :=
  ((s.set (R.TMR_CAP n) (s.get (R.TMR_CNT n))).updTmr n fun t => { t with captb := s.time.tb }).set (R.TMR_STAT_CAP n) 1

/-- A capture that meets one not yet read is an overrun. -/
def State.capNoted (s : State) (n : Nat) : State :=
  (if s.flag (R.TMR_STAT_CAPNEW n) then s.set (R.TMR_STAT_CAPOVR n) 1 else s).set (R.TMR_STAT_CAPNEW n) 1

/-- The counter cleared where `clr` holds. -/
def State.capCleared (s : State) (n : Nat) (clr : Bool) : State :=
  if clr then (s.updTmr n fun t => { t with load := none }).set (R.TMR_CNT n) 0 else s

/-- CAPCLR clears a counter that neither a wait for the global start nor a debug halt holds. -/
def State.capClears (s : State) (n : Nat) : Bool :=
  s.flag (R.TMR_CTRL_CAPCLR n) && !(s.flag (R.TMR_STAT_GSWAIT n) || s.tmrFrozen n)

theorem exec_tmrCapture (n : Fin 16) (rise : Bool) (s : State) (h : s.on 6 = true) (hc : s.capSelects n rise = true)
    (hf : s.get (R.GPIO_MUX_FUNC n) = 1) : exec (.tmrCapture n rise (s.get (R.TMR_CTRL_FILT n) + 1)) s =
      .next (fireAll ((((s.capTaken n).capNoted n).capCleared n (s.capClears n)).tmrEvent n 3)) := by
  change Host.Outcome.next (if s.edgeHeld n _ then fireAll (s.tmrCapture n rise) else s) = _
  have sees : (!s.on 6 || !s.capSelects n rise || decide (s.get (R.GPIO_MUX_FUNC n) ≠ 1)) = false := by simp [h, hc, hf]
  rw [if_pos (by simp [State.edgeHeld])]
  simp only [State.tmrCapture, sees, Bool.false_eq_true, if_false]
  rfl

theorem exec_tmrCapture_unheld (n : Fin 16) (rise : Bool) {held : Nat} (s : State)
    (h : held ≠ s.get (R.TMR_CTRL_FILT n) + 1) : exec (.tmrCapture n rise held) s = .next s := by
  change Host.Outcome.next (if s.edgeHeld n held then fireAll (s.tmrCapture n rise) else s) = _
  rw [if_neg (by simp [State.edgeHeld, h])]

theorem State.capTaken_regs (s : State) (n : Nat) :
    RegsOnly (fun f => f ∈ [R.TMR_CAP n, R.TMR_STAT_CAP n]) s (s.capTaken n) :=
  ((RegsOnly.refl _ s).set_listed List.mem_cons_self _).set_listed (t := (s.set _ _).updTmr n _) (by simp) 1

theorem State.capTaken_shows (s : State) (n : Fin 16) : (s.capTaken n).get (R.TMR_CAP n) = s.get (R.TMR_CNT n) % 2 ^ 32
    ∧ (s.capTaken n).get (R.TMR_STAT_CAP n) = 1 ∧ ((s.capTaken n).tmr.at n).captb = s.time.tb :=
  ⟨(State.get_set_apart _ rfl 1).trans (State.get_set ..), State.get_set ..,
    congrArg Tmr.captb (State.tmr_updTmr (s.set (R.TMR_CAP n) (s.get (R.TMR_CNT n))) n _)⟩

theorem State.capNoted_regs (s : State) (n : Nat) :
    RegsOnly (fun f => f ∈ [R.TMR_STAT_CAPOVR n, R.TMR_STAT_CAPNEW n]) s (s.capNoted n) := by
  unfold State.capNoted
  split
  · exact RegsOnly.set_listed (RegsOnly.set_listed (.refl _ s) List.mem_cons_self 1) (by simp) 1
  · exact RegsOnly.set_listed (.refl _ s) (by simp) 1

theorem State.capNoted_shows (s : State) (n : Nat) : (s.capNoted n).get (R.TMR_STAT_CAPNEW n) = 1
    ∧ (s.flag (R.TMR_STAT_CAPNEW n) = true → (s.capNoted n).get (R.TMR_STAT_CAPOVR n) = 1)
    ∧ (s.flag (R.TMR_STAT_CAPNEW n) = false → (s.capNoted n).get (R.TMR_STAT_CAPOVR n) = s.get (R.TMR_STAT_CAPOVR n)) := by
  refine ⟨State.get_set .., fun h => ?_, fun h => ?_⟩
  · rw [State.capNoted, if_pos h, State.get_set_apart _ rfl]
    exact State.get_set ..
  · rw [State.capNoted, h]
    exact State.get_set_apart _ rfl 1

theorem State.capNoted_tmr (s : State) (n : Nat) : (s.capNoted n).tmr = s.tmr := by
  unfold State.capNoted
  split <;> rfl

theorem State.capCleared_regs (s : State) (n : Nat) (clr : Bool) :
    RegsOnly (fun f => f ∈ [R.TMR_CNT n]) s (s.capCleared n clr) := by
  unfold State.capCleared
  split
  · exact RegsOnly.set_listed (s := s) (t := s.updTmr n _) (fun _ _ => rfl) List.mem_cons_self 0
  · exact .refl _ s

theorem State.capCleared_shows (s : State) (n : Fin 16) (clr : Bool) :
    (s.capCleared n clr).get (R.TMR_CNT n) = (if clr then 0 else s.get (R.TMR_CNT n))
      ∧ ((s.capCleared n clr).tmr.at n).captb = (s.tmr.at n).captb := by
  unfold State.capCleared
  split
  · exact ⟨State.get_set .., by rw [State.set_tmr, State.tmr_updTmr]⟩
  · exact ⟨rfl, rfl⟩

/-- A capture: the count and TB, the flags, and the counter that CAPCLR clears. -/
theorem State.tmrCaptured_shows (s : State) (n : Fin 16) :
    let w := ((s.capTaken n).capNoted n).capCleared n (s.capClears n)
    w.get (R.TMR_CAP n) = s.get (R.TMR_CNT n) % 2 ^ 32 ∧ (w.tmr.at n).captb = s.time.tb
      ∧ w.get (R.TMR_STAT_CAP n) = 1 ∧ w.get (R.TMR_STAT_CAPNEW n) = 1
      ∧ (s.flag (R.TMR_STAT_CAPNEW n) = true → w.get (R.TMR_STAT_CAPOVR n) = 1)
      ∧ (s.flag (R.TMR_STAT_CAPNEW n) = false → w.get (R.TMR_STAT_CAPOVR n) = s.get (R.TMR_STAT_CAPOVR n))
      ∧ w.get (R.TMR_CNT n) = if s.capClears n then 0 else s.get (R.TMR_CNT n) := by
  intro w
  have taken := s.capTaken_regs n
  have noted := (s.capTaken n).capNoted_regs n
  have regs := ((s.capTaken n).capNoted n).capCleared_regs n (s.capClears n)
  obtain ⟨cap, stat, captb⟩ := s.capTaken_shows n
  obtain ⟨new, overrun, first⟩ := (s.capTaken n).capNoted_shows n
  obtain ⟨cnt, held⟩ := ((s.capTaken n).capNoted n).capCleared_shows n (s.capClears n)
  have met : (s.capTaken n).flag (R.TMR_STAT_CAPNEW n) = s.flag (R.TMR_STAT_CAPNEW n) := by
    rw [State.flag, taken.get_apart rfl, State.flag]
  refine ⟨?_, ?_, ?_, ?_, fun h => ?_, fun h => ?_, ?_⟩
  · exact (regs.get_apart rfl).trans ((noted.get_apart rfl).trans cap)
  · rw [held, State.capNoted_tmr, captb]
  · exact (regs.get_apart rfl).trans ((noted.get_apart rfl).trans stat)
  · exact (regs.get_apart rfl).trans new
  · exact (regs.get_apart rfl).trans (overrun (met.trans h))
  · exact (regs.get_apart rfl).trans ((first (met.trans h)).trans (taken.get_apart rfl))
  · rw [cnt, noted.get_apart rfl, taken.get_apart rfl]

theorem State.capClears_iff (s : State) (n : Nat) : s.capClears n = true ↔
    s.flag (R.TMR_CTRL_CAPCLR n) = true ∧ s.flag (R.TMR_STAT_GSWAIT n) = false ∧ s.tmrFrozen n = false := by
  simp [State.capClears]

/-! ### Reads and writes of a timer (R126, R127, R133) -/

theorem State.reply_reply (s : State) (q : Req) (c c' : RespCode) (d d' : Nat) :
    (s.reply q c d).reply q c' d' = s.reply q c' d' := by
  simp [State.reply, Bank.put]

theorem exec_tmrCaptureRead (q : Who) (n : Fin 16) (s : State) (h : s.on 6 = true) :
    exec (.tmrCaptureRead q n) s =
      .next ((s.reply q.req .ok (s.get (R.TMR_CAP n))).set (R.TMR_STAT_CAPNEW n) 0) := by
  change Host.Outcome.next (s.via q.req 6 fun s => s.readTmrCap q.req n) = _
  rw [State.via_on s _ _ h, State.readTmrCap, State.reply_reply, State.get_reply]

theorem exec_tmrCounterWrite (q : Who) (n : Fin 16) (v : Word) (s : State) (h : s.on 6 = true) :
    exec (.tmrCounterWrite q n v) s = .next ((s.reply q.req .ok 0).writeTmrCnt n v.toNat) := by
  change Host.Outcome.next (s.via q.req 6 fun s => s.writeTmrCnt n v.toNat) = _
  rw [State.via_on s _ _ h]

theorem State.writeTmrCnt_regs (s : State) (n v : Nat) : RegsOnly (fun f => f = R.TMR_CNT n) s (s.writeTmrCnt n v) := by
  unfold State.writeTmrCnt
  split
  · exact fun _ _ => rfl
  · split
    · exact .refl _ s
    · exact RegsOnly.of_set s _ v

/-- What a write of CNT leaves to read, where the timer runs, is stopped or waits. -/
theorem State.writeTmrCnt_shows (s : State) (n : Fin 16) (v : Word) : let t := s.writeTmrCnt n v.toNat
    ((s.tmr.at n).run = true → t.readTmrCnt n = v.toNat ∧ t.get (R.TMR_CNT n) = s.get (R.TMR_CNT n)
        ∧ t.tmr.at n = { s.tmr.at n with load := some v.toNat })
      ∧ ((s.tmr.at n).run = false → s.flag (R.TMR_STAT_GSWAIT n) = false → t.get (R.TMR_CNT n) = v.toNat)
      ∧ ((s.tmr.at n).run = false → s.flag (R.TMR_STAT_GSWAIT n) = true → t.get (R.TMR_CNT n) = s.get (R.TMR_CNT n)) := by
  intro t
  refine ⟨fun hr => ?_, fun hr hw => ?_, fun hr hw => ?_⟩
  · have loads : t = s.updTmr n fun k => { k with load := some v.toNat } := if_pos hr
    rw [State.readTmrCnt, loads, State.tmr_updTmr]
    exact ⟨rfl, rfl, rfl⟩
  · have takes : t = s.set (R.TMR_CNT n) v.toNat := by simp [t, State.writeTmrCnt, hr, hw]
    rw [takes]
    exact State.get_set_of_lt _ v.isLt
  · have stays : t = s := by simp [t, State.writeTmrCnt, hr, hw]
    rw [stays]

/-! ### A force (R125) -/

theorem tmrPin_in_map : ∀ n : Fin 16, (regFields (0x6028 + 0x40 * n.val)).Nodup
    ∧ ∀ f ∈ [R.TMR_PIN_FORCE n, R.TMR_PIN_IDLE n], f ∈ regFields (0x6028 + 0x40 * n.val) := by decide

/-- The level forced after a write of TMRn_PIN. -/
def State.pinForced (s : State) (n : Nat) : State :=
  (s.pinAct n 3 (s.get (R.TMR_PIN_FORCE n))).set (R.TMR_PIN_FORCE n) 0

theorem exec_tmrPinForce (q : Who) (n : Fin 16) (v : Word) (s : State) (h : s.on 6 = true) :
    exec (.tmrPinForce q n v) s = .next (fireAll
      (((s.reply q.req .ok 0).writeReg q (0x6028 + 0x40 * n.val) v.toNat).pinForced n).drivenTrips) := by
  change Host.Outcome.next (s.via q.req 6 fun s => s.writeTmrPin q n v.toNat) = _
  rw [State.via_on s _ _ h]
  rfl

/-- What a write of TMRn_PIN gives FORCE and IDLE, and that the level stands until the force acts. -/
theorem State.writePin_fields (s : State) (q : Who) (n : Fin 16) (v : Nat) :
    let u := s.writeReg q (0x6028 + 0x40 * n.val) v
    u.get (R.TMR_PIN_FORCE n) = presented v (R.TMR_PIN_FORCE n) ∧ u.get (R.TMR_PIN_IDLE n) = presented v (R.TMR_PIN_IDLE n)
      ∧ u.pinWas n = s.pinWas n := by
  obtain ⟨hn, hm⟩ := tmrPin_in_map n
  have above : 0x5000 ≤ 0x6028 + 0x40 * n.val := by omega
  have unlocked : (R.TMR_PIN_FORCE n).acc ≠ .lock := nofun
  have level : (s.writeReg q (0x6028 + 0x40 * n.val) v).get (R.TMR_STAT_PINLVL n) = s.get (R.TMR_STAT_PINLVL n) :=
    State.get_writeReg_elsewhere s q v (by simp only [R.TMR_STAT_PINLVL]; omega) (by simp [R.TMR_STAT_PINLVL])
  refine ⟨?_, State.get_writeReg_rw s q v (hm _ (by simp)) hn above rfl, ?_⟩
  · exact (State.get_writeReg s q _ v unlocked above hn (hm _ (by simp))).trans (State.get_writeFld_wo s q v rfl)
  · simp only [State.pinWas, State.writeReg_tmr, State.flag, level]

theorem State.b2n_flag (s : State) {f : Fld} (h : s.get f < 2) : b2n (s.flag f) = s.get f := by
  obtain h0 | h1 : s.get f = 0 ∨ s.get f = 1 := by omega
  · simp [State.flag, b2n, h0]
  · simp [State.flag, b2n, h1]

/-- What a force does to the level, where no action of the edge outranks it. -/
theorem State.pinForced_shows (s : State) (n : Nat) (hr : ∀ x, (s.tmr.at n).edge = some x → x.1 ≤ 3)
    (hi : s.get (R.TMR_PIN_IDLE n) < 2) : let w := s.pinForced n
    w.get (R.TMR_PIN_FORCE n) = 0 ∧ w.get (R.TMR_PIN_IDLE n) = s.get (R.TMR_PIN_IDLE n)
      ∧ (s.get (R.TMR_PIN_FORCE n) = 1 → w.get (R.TMR_STAT_PINLVL n) = 1)
      ∧ (s.get (R.TMR_PIN_FORCE n) = 2 → w.get (R.TMR_STAT_PINLVL n) = 0)
      ∧ (s.get (R.TMR_PIN_FORCE n) = 3 → w.get (R.TMR_STAT_PINLVL n) = w.get (R.TMR_PIN_IDLE n))
      ∧ (s.get (R.TMR_PIN_FORCE n) = 4 → w.flag (R.TMR_STAT_PINLVL n) = !s.pinWas n) := by
  intro w
  have idle : w.get (R.TMR_PIN_IDLE n) = s.get (R.TMR_PIN_IDLE n) :=
    (State.get_set_apart _ rfl 0).trans ((s.pinAct_regs n 3 _).get_apart rfl)
  have level (ha : pinActs (s.get (R.TMR_PIN_FORCE n)) = true) : w.get (R.TMR_STAT_PINLVL n) =
      b2n (pinLevel (s.get (R.TMR_PIN_FORCE n)) (s.flag (R.TMR_PIN_IDLE n)) (s.pinWas n)) := by
    refine (State.get_set_apart _ rfl 0).trans ?_
    rw [State.pinAct_applies s n ha hr]
    exact State.get_setB_bit _ rfl _
  refine ⟨State.get_set .., idle, fun h => ?_, fun h => ?_, fun h => ?_, fun h => ?_⟩ <;>
    rw [h] at level <;> have acted := level rfl
  · exact acted
  · exact acted
  · rw [acted, idle]
    exact s.b2n_flag hi
  · rw [State.flag, acted]
    cases hw : s.pinWas n <;> simp [pinLevel, b2n]

/-! ### An enable (R125, R127, R133) -/

theorem tmrCtrl_in_map : ∀ n : Fin 16, (regFields (0x6000 + 0x40 * n.val)).Nodup
    ∧ ∀ f ∈ [R.TMR_CTRL_EN n, R.TMR_CTRL_GSARM n, R.TMR_CTRL_DIR n], f ∈ regFields (0x6000 + 0x40 * n.val) := by decide

/-- The pin driven to INIT where EN rises while DIR is set. -/
def State.pinInit (s : State) (n : Nat) (was en : Bool) : State :=
  if !was && en && s.flag (R.TMR_CTRL_DIR n) then s.set (R.TMR_STAT_PINLVL n) (s.get (R.TMR_PIN_INIT n)) else s

/-- The counter after a write of TMRn_CTRL that leaves EN at `en`. -/
def State.tmrFollows (s : State) (n : Nat) (en : Bool) : State :=
  if !en then (s.tmrStop n).set (R.TMR_STAT_GSWAIT n) 0
  else if s.flag (R.TMR_CTRL_GSARM n) then
    ((s.tmrStop n).set (R.TMR_STAT_GSWAIT n) 1).set (R.TMR_CNT n) (s.get (R.TMR_START n))
  else if (s.tmr.at n).run then s
  else (s.set (R.TMR_STAT_GSWAIT n) 0).tmrStart n

/-- A word taken into TMRn_CTRL, with the level it drives. -/
def State.ctrlTaken (s : State) (q : Who) (n v : Nat) : State :=
  let u := s.writeReg q (0x6000 + 0x40 * n) v
  u.pinInit n (s.flag (R.TMR_CTRL_EN n)) (u.flag (R.TMR_CTRL_EN n))

/-- A timer after a write of TMRn_CTRL, before the trip path looks at its level. -/
def State.tmrEnabled (s : State) (q : Who) (n v : Nat) : State :=
  (s.ctrlTaken q n v).tmrFollows n ((s.writeReg q (0x6000 + 0x40 * n) v).flag (R.TMR_CTRL_EN n))

theorem exec_tmrEnable (q : Who) (n : Fin 16) (v : Word) (s : State) (h : s.on 6 = true) :
    exec (.tmrEnable q n v) s = .next (fireAll ((s.reply q.req .ok 0).tmrEnabled q n v.toNat).drivenTrips) := by
  change Host.Outcome.next (s.via q.req 6 fun s => s.writeTmrCtrl q n v.toNat) = _
  rw [State.via_on s _ _ h]
  rfl

/-- What a write of TMRn_CTRL gives EN, GSARM and DIR, and that the timer's other registers stay. -/
theorem State.writeCtrl_fields (s : State) (q : Who) (n : Fin 16) (v : Nat) :
    let u := s.writeReg q (0x6000 + 0x40 * n.val) v
    (∀ f ∈ [R.TMR_CTRL_EN n, R.TMR_CTRL_GSARM n, R.TMR_CTRL_DIR n], u.get f = presented v f)
      ∧ ∀ f ∈ [R.TMR_CNT n, R.TMR_TOP n, R.TMR_START n, R.TMR_PIN_INIT n], u.get f = s.get f := by
  obtain ⟨hn, hm⟩ := tmrCtrl_in_map n
  refine ⟨fun f hf => ?_, fun f hf => State.get_writeReg_elsewhere s q v ?_ ?_⟩
  · have access : f.acc = .rw := by
      simp only [List.mem_cons, List.not_mem_nil, or_false] at hf
      rcases hf with rfl | rfl | rfl <;> rfl
    refine State.get_writeReg_rw s q v (hm f hf) hn ?_ access
    rw [addr_of_mem_regFields (hm f hf)]
    omega
  all_goals
    simp only [List.mem_cons, List.not_mem_nil, or_false] at hf
    rcases hf with rfl | rfl | rfl | rfl <;> simp only [R.TMR_CNT, R.TMR_TOP, R.TMR_START, R.TMR_PIN_INIT] <;> omega

theorem State.pinInit_regs (s : State) (n : Nat) (was en : Bool) :
    RegsOnly (fun f => f ∈ [R.TMR_STAT_PINLVL n]) s (s.pinInit n was en) := by
  unfold State.pinInit
  split
  · exact RegsOnly.set_listed (.refl _ s) List.mem_cons_self _
  · exact .refl _ s

@[simp] theorem State.pinInit_tmr (s : State) (n : Nat) (was en : Bool) : (s.pinInit n was en).tmr = s.tmr := by
  unfold State.pinInit
  split <;> rfl

theorem State.pinInit_rises (s : State) (n : Nat) (hd : s.flag (R.TMR_CTRL_DIR n) = true) :
    (s.pinInit n false true).get (R.TMR_STAT_PINLVL n) = s.get (R.TMR_PIN_INIT n) % 2 := by
  have drives : s.pinInit n false true = s.set (R.TMR_STAT_PINLVL n) (s.get (R.TMR_PIN_INIT n)) := by
    simp [State.pinInit, hd]
  rw [drives]
  exact State.get_set ..

@[simp] theorem State.ctrlTaken_tmr (s : State) (q : Who) (n v : Nat) : (s.ctrlTaken q n v).tmr = s.tmr :=
  (State.pinInit_tmr ..).trans (State.writeReg_tmr ..)

/-- TMRn_CTRL with the word it took, the timer's other registers and the level. -/
theorem State.ctrlTaken_shows (s : State) (q : Who) (n : Fin 16) (v : Nat) : let u := s.ctrlTaken q n v
    (∀ f ∈ [R.TMR_CTRL_EN n, R.TMR_CTRL_GSARM n], u.get f = presented v f)
      ∧ (∀ f ∈ [R.TMR_CNT n, R.TMR_TOP n, R.TMR_START n], u.get f = s.get f)
      ∧ (presented v (R.TMR_CTRL_EN n) = 1 → s.flag (R.TMR_CTRL_EN n) = false → presented v (R.TMR_CTRL_DIR n) = 1 →
        u.get (R.TMR_STAT_PINLVL n) = s.get (R.TMR_PIN_INIT n) % 2) := by
  intro u
  obtain ⟨given, kept⟩ := s.writeCtrl_fields q n v
  have init := (s.writeReg q (0x6000 + 0x40 * n.val) v).pinInit_regs n (s.flag (R.TMR_CTRL_EN n))
    ((s.writeReg q (0x6000 + 0x40 * n.val) v).flag (R.TMR_CTRL_EN n))
  refine ⟨fun f hf => ?_, fun f hf => ?_, fun he hw hd => ?_⟩
  · refine Eq.trans ?_ (given f (List.mem_append_left [R.TMR_CTRL_DIR n] hf))
    simp only [List.mem_cons, List.not_mem_nil, or_false] at hf
    rcases hf with rfl | rfl <;> exact init.get_apart rfl
  · refine Eq.trans ?_ (kept f (List.mem_append_left [R.TMR_PIN_INIT n] hf))
    simp only [List.mem_cons, List.not_mem_nil, or_false] at hf
    rcases hf with rfl | rfl | rfl <;> exact init.get_apart rfl
  · have en : (s.writeReg q (0x6000 + 0x40 * n.val) v).flag (R.TMR_CTRL_EN n) = true := by
      rw [State.flag, given _ (by simp), he]
      rfl
    have dir : (s.writeReg q (0x6000 + 0x40 * n.val) v).flag (R.TMR_CTRL_DIR n) = true := by
      rw [State.flag, given _ (by simp), hd]
      rfl
    rw [← kept (R.TMR_PIN_INIT n) (by simp), ← State.pinInit_rises _ n dir]
    simp only [u, State.ctrlTaken, en, hw]

theorem State.tmrStop_regs (s : State) (n : Nat) : RegsOnly (fun f => f ∈ [R.TMR_CNT n]) s (s.tmrStop n) :=
  RegsOnly.set_listed (.refl _ s) List.mem_cons_self _

theorem State.tmrStart_regs (s : State) (n : Nat) : RegsOnly (fun f => f ∈ [R.TMR_CNT n]) s (s.tmrStart n) :=
  RegsOnly.set_listed (s := s) (t := s.tmrLoad n) (fun _ _ => rfl) List.mem_cons_self _

/-- A timer that starts counts from START with the values written in force. -/
theorem State.tmrStart_shows (s : State) (n : Fin 16) : ((s.tmrStart n).tmr.at n).run = true
    ∧ (s.tmrStart n).get (R.TMR_CNT n) = s.get (R.TMR_START n) % 2 ^ 32
    ∧ ((s.tmrStart n).tmr.at n).top = max 1 (s.get (R.TMR_TOP n)) := by
  have own : (s.tmrStart n).tmr.at n = { (s.tmrLoad n).tmr.at n with run := true, psc := 0, load := none } :=
    State.tmr_updTmr _ n _
  have loaded : ((s.tmrLoad n).tmr.at n).top = max 1 (s.get (R.TMR_TOP n)) := congrArg Tmr.top (s.tmr_updTmr n _)
  exact ⟨by rw [own], State.get_set .., by rw [own, loaded]⟩

theorem State.tmrFollows_regs (s : State) (n : Nat) (en : Bool) :
    RegsOnly (fun f => f ∈ [R.TMR_CNT n, R.TMR_STAT_GSWAIT n]) s (s.tmrFollows n en) := by
  have count {u t : State} (h : RegsOnly (fun f => f ∈ [R.TMR_CNT n]) u t) :
      RegsOnly (fun f => f ∈ [R.TMR_CNT n, R.TMR_STAT_GSWAIT n]) u t := h.mono fun _ hf => List.mem_append_left _ hf
  have stopped := count (s.tmrStop_regs n)
  unfold State.tmrFollows
  (repeat' split)
  · exact stopped.set_listed (by simp) 0
  · exact (stopped.set_listed (by simp) 1).set_listed (by simp) _
  · exact .refl _ s
  · exact (RegsOnly.set_listed (.refl _ s) (by simp) 0).trans (count (State.tmrStart_regs _ n))

section
variable (s : State) (n : Fin 16)

/-- A disable stops the timer. -/
theorem State.tmrFollows_disabled : ((s.tmrFollows n false).tmr.at n).run = false
    ∧ (s.tmrFollows n false).get (R.TMR_STAT_GSWAIT n) = 0 := by
  exact ⟨congrArg Tmr.run (State.tmr_updTmr _ n _), State.get_set ..⟩

/-- An enable with GSARM makes the timer wait at START. -/
theorem State.tmrFollows_armed (hg : s.flag (R.TMR_CTRL_GSARM n) = true) :
    ((s.tmrFollows n true).tmr.at n).run = false ∧ (s.tmrFollows n true).get (R.TMR_STAT_GSWAIT n) = 1
      ∧ (s.tmrFollows n true).get (R.TMR_CNT n) = s.get (R.TMR_START n) % 2 ^ 32 := by
  simp only [State.tmrFollows, hg, Bool.not_true, Bool.false_eq_true, if_false, if_true]
  exact ⟨congrArg Tmr.run (State.tmr_updTmr _ n _), (State.get_set_apart _ rfl _).trans (State.get_set ..),
    State.get_set ..⟩

theorem State.tmrFollows_running (hg : s.flag (R.TMR_CTRL_GSARM n) = false) (hr : (s.tmr.at n).run = true) :
    s.tmrFollows n true = s := by
  simp [State.tmrFollows, hg, hr]

/-- An enable without GSARM starts a timer that does not run, with the values written in force. -/
theorem State.tmrFollows_starts (hg : s.flag (R.TMR_CTRL_GSARM n) = false) (hr : (s.tmr.at n).run = false) :
    let w := s.tmrFollows n true
    (w.tmr.at n).run = true ∧ w.get (R.TMR_CNT n) = s.get (R.TMR_START n) % 2 ^ 32
      ∧ (w.tmr.at n).top = max 1 (s.get (R.TMR_TOP n)) ∧ w.get (R.TMR_STAT_GSWAIT n) = 0 := by
  let u := s.set (R.TMR_STAT_GSWAIT n) 0
  have starts : s.tmrFollows n true = u.tmrStart n := by simp [State.tmrFollows, hg, hr, u]
  obtain ⟨run, cnt, top⟩ := u.tmrStart_shows n
  rw [starts]
  refine ⟨run, cnt.trans ?_, top.trans ?_, ((u.tmrStart_regs n).get_apart rfl).trans (State.get_set ..)⟩
  · rw [State.get_set_apart s rfl]
  · rw [State.get_set_apart s rfl]

end

/-- What a write of TMRn_CTRL leaves of the timer, by the EN and GSARM it presents. -/
theorem State.tmrEnabled_shows (s : State) (q : Who) (n : Fin 16) (v : Nat) : let w := s.tmrEnabled q n v
    (presented v (R.TMR_CTRL_EN n) = 1 → presented v (R.TMR_CTRL_GSARM n) = 0 → (s.tmr.at n).run = false →
        (w.tmr.at n).run = true ∧ w.get (R.TMR_CNT n) = s.get (R.TMR_START n) % 2 ^ 32
        ∧ (w.tmr.at n).top = max 1 (s.get (R.TMR_TOP n)) ∧ w.get (R.TMR_STAT_GSWAIT n) = 0)
      ∧ (presented v (R.TMR_CTRL_EN n) = 1 → presented v (R.TMR_CTRL_GSARM n) = 0 → (s.tmr.at n).run = true →
        w.tmr = s.tmr ∧ w.get (R.TMR_CNT n) = s.get (R.TMR_CNT n))
      ∧ (presented v (R.TMR_CTRL_EN n) = 1 → presented v (R.TMR_CTRL_GSARM n) = 1 →
        (w.tmr.at n).run = false ∧ w.get (R.TMR_STAT_GSWAIT n) = 1 ∧ w.get (R.TMR_CNT n) = s.get (R.TMR_START n) % 2 ^ 32)
      ∧ (presented v (R.TMR_CTRL_EN n) = 1 → s.flag (R.TMR_CTRL_EN n) = false →
        presented v (R.TMR_CTRL_DIR n) = 1 → w.get (R.TMR_STAT_PINLVL n) = s.get (R.TMR_PIN_INIT n) % 2)
      ∧ (presented v (R.TMR_CTRL_EN n) = 0 →
        (w.tmr.at n).run = false ∧ w.get (R.TMR_STAT_GSWAIT n) = 0 ∧ w.get (R.TMR_CTRL_EN n) = 0) := by
  intro w
  let u := s.ctrlTaken q n v
  obtain ⟨given, kept, level⟩ := s.ctrlTaken_shows q n v
  have en : (s.writeReg q (0x6000 + 0x40 * n.val) v).flag (R.TMR_CTRL_EN n) =
      decide (presented v (R.TMR_CTRL_EN n) ≠ 0) := by
    rw [State.flag, (s.writeCtrl_fields q n v).1 _ (by simp)]
  have gsarm : u.flag (R.TMR_CTRL_GSARM n) = decide (presented v (R.TMR_CTRL_GSARM n) ≠ 0) := by
    rw [State.flag, given _ (by simp)]
  have enabled (he : presented v (R.TMR_CTRL_EN n) = 1) : w = u.tmrFollows n true := by
    simp only [w, u, State.tmrEnabled, en, he]
    rfl
  have disabled (he : presented v (R.TMR_CTRL_EN n) = 0) : w = u.tmrFollows n false := by
    simp only [w, u, State.tmrEnabled, en, he]
    rfl
  have regs (b : Bool) := u.tmrFollows_regs n b
  refine ⟨fun he hg hr => ?_, fun he hg hr => ?_, fun he hg => ?_, fun he hw hd => ?_, fun he => ?_⟩
  · rw [enabled he, ← kept (R.TMR_START n) (by simp), ← kept (R.TMR_TOP n) (by simp)]
    exact u.tmrFollows_starts n (gsarm.trans (by rw [hg]; rfl)) (by rw [State.ctrlTaken_tmr, hr])
  · rw [enabled he, u.tmrFollows_running n (gsarm.trans (by rw [hg]; rfl)) (by rw [State.ctrlTaken_tmr, hr])]
    exact ⟨State.ctrlTaken_tmr .., kept _ (by simp)⟩
  · rw [enabled he, ← kept (R.TMR_START n) (by simp)]
    exact u.tmrFollows_armed n (gsarm.trans (by rw [hg]; rfl))
  · rw [enabled he]
    exact ((regs true).get_apart rfl).trans (level he hw hd)
  · obtain ⟨run, wait⟩ := u.tmrFollows_disabled n
    rw [disabled he]
    exact ⟨run, wait, ((regs false).get_apart rfl).trans ((given _ (by simp)).trans he)⟩

/-! ### The statement -/

/-- Settles O26: each clause is one command on a timer, of whose parts the lemmas above say what they show. -/
theorem timers : Obligations.Timers := by
  unfold Obligations.Timers
  refine ⟨?_, fun n s hr hz => ?_, fun n e s => ?_, fun n rise s h hc hf => ?_,
    fun n rise _ s => exec_tmrCapture_unheld n rise s, exec_tmrCaptureRead, fun q n v s h => ?_, ?_, fun q n v s h => ?_⟩
  · intro n b s v hr hz hv hw
    obtain ⟨cnt, stat⟩ := s.tmrMatched_shows n b hw
    exact ⟨_, exec_tmrCompareMatch n b s hr hz hv, cnt, stat, s.tmrMatched_onlyIn n b⟩
  · obtain ⟨cnt, ovf, top, cmpa, cmpb, oneshot, goes, pin⟩ := s.tmrOverflow_shows n hr
    exact ⟨_, exec_tmrOverflow n s hr hz, cnt, ovf, top, cmpa, cmpb, oneshot, goes, pin, s.tmrOverflow_onlyIn n⟩
  · obtain ⟨raised, fired⟩ := s.tmrEvent_eq n e
    exact ⟨raised, fired, rfl, s.drivenTrips_unseen⟩
  · simp only [← State.capClears_iff]
    exact ⟨_, exec_tmrCapture n rise s h hc hf, s.tmrCaptured_shows n⟩
  · let u := s.reply q.req .ok 0
    have frame : Moves 0x10000000100002 s (u.writeTmrCnt n v.toNat) :=
      .step (.step (.refl _ s) (State.reply_moves ..) (by decide)) (State.writeTmrCnt_moves ..) (by decide)
    have answer : (u.writeTmrCnt n v.toNat).resp = u.resp := (u.writeTmrCnt_moves n v.toNat).same .resp (by decide)
    refine ⟨_, exec_tmrCounterWrite q n v s h, ?_, u.writeTmrCnt_regs n v.toNat, frame.onlyIn _ (by decide),
      u.writeTmrCnt_shows n v⟩
    rw [answer, State.resp_reply]
  · intro q n v s h hr was
    let u := (s.reply q.req .ok 0).writeReg q (0x6028 + 0x40 * n.val) v.toNat
    obtain ⟨force, idle, level⟩ := (s.reply q.req .ok 0).writePin_fields q n v.toNat
    have bit : u.get (R.TMR_PIN_IDLE n) < 2 := by
      rw [idle]
      exact Nat.mod_lt _ Nat.two_pos
    have ranks : ∀ x, (u.tmr.at n).edge = some x → x.1 ≤ 3 := by
      rw [State.writeReg_tmr]
      exact hr
    obtain ⟨cleared, stays, high, low, resting, toggled⟩ := u.pinForced_shows n ranks bit
    rw [force] at high low resting toggled
    rw [level] at toggled
    exact ⟨_, exec_tmrPinForce q n v s h, cleared, stays.trans idle, high, low, resting, toggled⟩
  · exact ⟨_, exec_tmrEnable q n v s h, (s.reply q.req .ok 0).tmrEnabled_shows q n v.toNat⟩

end Sys2Proof.Machine
end

section
/-!
PROOF of the statement on the frames of the Warp bus (O60, R145, R146): where the fields of a superframe stand, and each
row of Table 7.2 read back.
-/

namespace Sys2Proof.Machine

/-! ### The parts of a superframe (Table 7.1) -/

theorem frameBody_type (f : Frame) : (frameBody f).extractLsb' 69 3 = frameType f := by
  rw [frameBody, BitVec.extractLsb'_append_eq_of_le (by decide)]
  exact BitVec.extractLsb'_append_eq_left

theorem frameBody_sub (f : Frame) : (frameBody f).extractLsb' 64 5 = frameSub f := by
  rw [frameBody, BitVec.extractLsb'_append_eq_of_le (by decide)]
  exact BitVec.extractLsb'_append_eq_right

theorem frameBody_payload (f : Frame) : (frameBody f).extractLsb' 0 64 = framePayload f :=
  BitVec.extractLsb'_append_eq_right

/-- HEADER and PAYLOAD stand between SYNC and CRC. -/
theorem superframeOf_within_body (f : Frame) {i n : Nat} (h : i + n ≤ 72) :
    (superframeOf f).extractLsb' (16 + i) n = (frameBody f).extractLsb' i n := by
  rw [superframeOf, BitVec.extractLsb'_append_eq_of_le (Nat.le_add_right 16 i), Nat.add_sub_cancel_left,
    BitVec.extractLsb'_append_eq_of_add_le h]

theorem superframeOf_sync (f : Frame) : (superframeOf f).extractLsb' 88 8 = 0xD4 := by
  rw [superframeOf, BitVec.extractLsb'_append_eq_of_le (by decide)]
  exact BitVec.extractLsb'_append_eq_left

theorem superframeOf_body (f : Frame) : (superframeOf f).extractLsb' 16 72 = frameBody f :=
  (superframeOf_within_body f (i := 0) (by decide)).trans BitVec.extractLsb'_eq_self

theorem superframeOf_type (f : Frame) : (superframeOf f).extractLsb' 85 3 = frameType f :=
  (superframeOf_within_body f (i := 69) (by decide)).trans (frameBody_type f)

theorem superframeOf_sub (f : Frame) : (superframeOf f).extractLsb' 80 5 = frameSub f :=
  (superframeOf_within_body f (i := 64) (by decide)).trans (frameBody_sub f)

theorem superframeOf_payload (f : Frame) : (superframeOf f).extractLsb' 16 64 = framePayload f :=
  (superframeOf_within_body f (i := 0) (by decide)).trans (frameBody_payload f)

theorem superframeOf_crc (f : Frame) : (superframeOf f).extractLsb' 0 16 = crc16 (frameBody f) :=
  BitVec.extractLsb'_append_eq_right

theorem superframeGood_superframeOf (f : Frame) : superframeGood (superframeOf f) = true := by
  rw [superframeGood, superframeOf_body, superframeOf_crc, decide_eq_true rfl]

/-! ### The rows of Table 7.2 -/

theorem gstartSub_parts : ∀ g : Fin 16, let sub := frameSub (.gstart g 0)
    sub.getLsbD 4 = false ∧ (sub.extractLsb' 0 4).toFin = g := by
  decide

theorem msgSub_parts : ∀ (kind : BitVec 2) (first last mpass : Bool),
    let sub := frameSub (.msg kind first last mpass 0 0 0 0 0)
    sub.extractLsb' 3 2 = kind ∧ sub.getLsbD 2 = first ∧ sub.getLsbD 1 = last ∧ sub.getLsbD 0 = mpass := by
  decide

theorem msgPayload_parts (dst src xid frag : BitVec 8) (data : BitVec 32) :
    let p : BitVec 64 := dst ++ src ++ xid ++ frag ++ data
    p.extractLsb' 56 8 = dst ∧ p.extractLsb' 48 8 = src ∧ p.extractLsb' 40 8 = xid ∧ p.extractLsb' 32 8 = frag
      ∧ p.extractLsb' 0 32 = data := by
  refine ⟨?_, ?_, ?_, ?_, BitVec.extractLsb'_append_eq_right⟩
  all_goals rw [BitVec.extractLsb'_append_eq_of_le (by decide)]
  · rw [BitVec.extractLsb'_append_eq_of_le (by decide), BitVec.extractLsb'_append_eq_of_le (by decide)]
    exact BitVec.extractLsb'_append_eq_left
  · rw [BitVec.extractLsb'_append_eq_of_le (by decide), BitVec.extractLsb'_append_eq_of_le (by decide)]
    exact BitVec.extractLsb'_append_eq_right
  · rw [BitVec.extractLsb'_append_eq_of_le (by decide)]
    exact BitVec.extractLsb'_append_eq_right
  · exact BitVec.extractLsb'_append_eq_right

theorem msgOf_msg (kind : BitVec 2) (first last mpass : Bool) (dst src xid frag : BitVec 8) (data : BitVec 32) :
    let f : Frame := .msg kind first last mpass dst src xid frag data
    msgOf (frameSub f) (framePayload f) = f := by
  obtain ⟨hk, hf, hl, hm⟩ := msgSub_parts kind first last mpass
  obtain ⟨hd, hs, hx, hg, hw⟩ := msgPayload_parts dst src xid frag data
  exact (Frame.msg.injEq ..).mpr ⟨hk, hf, hl, hm, hd, hs, hx, hg, hw⟩

/-- Each of the three fields of a PAYLOAD stands where it was put. -/
theorem payload_parts {a b c : Nat} (x : BitVec a) (y : BitVec b) (z : BitVec c) :
    (x ++ y ++ z).extractLsb' (b + c) a = x ∧ (x ++ y ++ z).extractLsb' c b = y
      ∧ (x ++ y ++ z).extractLsb' 0 c = z := by
  refine ⟨?_, ?_, BitVec.extractLsb'_append_eq_right⟩
  · rw [BitVec.extractLsb'_append_eq_of_le (Nat.le_add_left c b), Nat.add_sub_cancel]
    exact BitVec.extractLsb'_append_eq_left
  · rw [BitVec.extractLsb'_append_eq_of_le le_rfl, Nat.sub_self]
    exact BitVec.extractLsb'_append_eq_right

/-- A frame comes back from its TYPE, its SUB and its PAYLOAD. -/
theorem frameOf_frame (f : Frame) (h : ∀ sub node, f = .bypass sub node → sub.toNat < 5) :
    frameOf (frameType f) (frameSub f) (framePayload f) = some f := by
  cases f with
  | empty => rfl
  | time step tb => cases step <;> rfl
  | gstart g target =>
    obtain ⟨h4, hg⟩ := gstartSub_parts g
    exact (if_neg (Bool.eq_false_iff.mp h4)).trans (congrArg some ((Frame.gstart.injEq ..).mpr ⟨hg, rfl⟩))
  | msg kind first last mpass dst src xid frag data =>
    exact congrArg some (msgOf_msg kind first last mpass dst src xid frag data)
  | enum count tag dev =>
    obtain ⟨hc, ht, hd⟩ := payload_parts count tag dev
    exact congrArg some ((Frame.enum.injEq ..).mpr ⟨hc, ht, hd⟩)
  | calMeasure seq acc =>
    obtain ⟨hs, ha, -⟩ := payload_parts seq acc (0 : BitVec 16)
    exact congrArg some ((Frame.calMeasure.injEq ..).mpr ⟨hs, ha⟩)
  | calResult seq lbar n =>
    obtain ⟨hs, hl, hn⟩ := payload_parts seq lbar n
    exact congrArg some ((Frame.calResult.injEq ..).mpr ⟨hs, hl, hn⟩)
  | bypass sub node =>
    have hn : (node ++ (0 : BitVec 56)).extractLsb' 56 8 = node := BitVec.extractLsb'_append_eq_left
    exact (if_pos (h sub node rfl)).trans (congrArg some ((Frame.bypass.injEq ..).mpr ⟨rfl, hn⟩))
  | reserved sub payload => rfl

theorem frameIn_superframeOf (f : Frame) (h : ∀ sub node, f = .bypass sub node → sub.toNat < 5) :
    frameIn (superframeOf f) = some f := by
  rw [frameIn, if_pos ⟨superframeOf_sync f, superframeGood_superframeOf f⟩, superframeOf_type, superframeOf_sub,
    superframeOf_payload, frameOf_frame f h]

/-- Settles O60: the fields of a superframe stand where Table 7.1 puts them, its CRC holds, and each row of Table 7.2
gives its frame back. -/
theorem warpFramesRoundTrip : Obligations.WarpFramesRoundTrip := by
  unfold Obligations.WarpFramesRoundTrip
  exact fun f h => ⟨frameIn_superframeOf f h, superframeOf_sync f, superframeOf_type f, superframeOf_sub f,
    superframeOf_payload f, superframeOf_crc f⟩

end Sys2Proof.Machine
end


section
/-!
PROOFS. Rules for the node of the Warp bus (chapter 07), on which the statements O30 to O32 rest: whose inbound frames
act, what a node that forwards does with a frame, and that what changes neither link nor role leaves it such a node.
-/

namespace Sys2Proof.Machine

/-! ### Flags that stay -/

theorem State.flag_congr {s t : State} {f : Fld} (h : t.get f = s.get f) : t.flag f = s.flag f := by
  rw [State.flag, State.flag, h]

theorem State.gets_congr {s t : State} {f : Fld} (h : t.get f = s.get f) : t.gets f = s.gets f := by
  rw [State.gets, State.gets, h]

theorem State.on_congr {s t : State} {d : Nat} (h : t.get (R.PWR_DOM d) = s.get (R.PWR_DOM d)) : t.on d = s.on d := by
  rw [State.on, State.on, h]

/-! ### Lists used as sets -/

theorem not_mem_without {α : Type} [DecidableEq α] (l : List α) (x : α) : x ∉ without l x := by
  simp [without]

theorem mem_insOnce {α : Type} [DecidableEq α] (l : List α) (x : α) : x ∈ insOnce l x := by
  unfold insOnce
  split
  · assumption
  · exact List.mem_cons_self

variable {s : State}

/-! ### A member of the ring (R143, R159) -/

theorem State.Member.inbound (h : s.Member) (f : State → State) : s.inbound f = f s := by
  simp [State.inbound, h.on9, h.link]

theorem State.Member.not_reset (h : s.Member) : s.wrpReset = false := by
  simp [State.wrpReset, h.runs, h.on9]

theorem State.Member.forwards (h : s.Member) : s.originates = false := by
  simp [State.originates, h.link, h.role]

/-- A member forwards whatever has left its link, its role and its part in the demotion as they were. -/
theorem State.Member.forwards_of (h : s.Member) {t : State} (hl : t.get R.WRP_STAT_LINKDOWN = s.get R.WRP_STAT_LINKDOWN)
    (hr : t.get R.WRP_CFG_ROLE = s.get R.WRP_CFG_ROLE) (hd : t.warp.demoted = s.warp.demoted) :
    t.originates = false := by
  have link : t.flag R.WRP_STAT_LINKDOWN = false := (State.flag_congr hl).trans h.link
  have role : t.isMaster = false := by
    rw [State.isMaster, State.flag_congr hr, hd]
    exact h.role
  simp [State.originates, link, role]

/-! ### Node 0 (R145) -/

theorem State.Node0.inbound (h : s.Node0) (f : State → State) : s.inbound f = f s := by
  simp [State.inbound, h.on9, h.link]

theorem State.Node0.leads (h : s.Node0) : s.originates = true := by
  simp [State.originates, h.role, h.active]

/-! ### A frame that goes on (R144) -/

/-- The node sends `f` in place of the frame it receives. -/
def State.forwarded (s : State) (f : Frame) : State :=
  s.wrp fun w => { w with tx := f, passed := min 4 (w.passed + 1) }

theorem State.pass_forwards (h : s.originates = false) (f : Frame) : s.pass f = s.forwarded f := by
  rw [State.pass, h]
  rfl

@[simp] theorem State.get_forwarded (s : State) (f : Frame) (g : Fld) : (s.forwarded f).get g = s.get g := rfl

theorem State.forwarded_moves (s : State) (f : Frame) : Moves 0x20000000 s (s.forwarded f) := State.wrp_moves ..

end Sys2Proof.Machine
end


section
/-!
PROOFS of the statement on the time of the Warp bus, its armed targets and its slots (O30, R147, R151 to R154, R159,
R162).
-/

namespace Sys2Proof.Machine

section
variable {s : State}

/-! ### The TIME frame that node 0 sends (R147, R154) -/

theorem State.superframe_time (h : s.Node0) (ht : s.time.tb.toNat % 1024 = 0) : s.superframe = s.sendTime := by
  have h16 : s.time.tb.toNat % 16 = 0 := by omega
  simp [State.superframe, State.sendMaster, h.on9, h.leads, h.role, h.active, ht, h16]

theorem exec_warpSuperframeSlot (h : s.Node0) (ht : s.time.tb.toNat % 1024 = 0) :
    exec .warpSuperframeSlot s = .next s.sendTime :=
  congrArg Host.Outcome.next (State.superframe_time h ht)

/-- A STEP frame is due after the TIME frame as long as the step pick is ahead. -/
theorem State.sendTime_stepDue (s : State) :
    s.sendTime.warp.stepDue = true ↔ ∃ p, s.warp.stepPick = some p ∧ s.time.tb.toNat < p := by
  change (s.warp.stepPick.filter fun p => decide (s.time.tb.toNat < p)).isSome = true ↔ _
  cases s.warp.stepPick <;> simp

/-! ### A TIME frame at a member (R151, R152) -/

theorem exec_warpTimeFrame (h : s.Member) (tb : BitVec 64) (m : Nat) (err : Int) :
    exec (.warpTimeFrame tb m err) s = .next ((s.timeMember tb m err).pass (.time false tb)) := by
  change Host.Outcome.next (s.inbound fun s => s.timeIn tb m err) = _
  rw [h.inbound, State.timeIn, h.forwards]
  rfl

/-- The node's TB is not the frame's: its TB is another at the pick the frame places, or it has just been stepped
(revision A1, A1-05). -/
def State.tbWrong (s : State) (tb : BitVec 64) (m : Nat) : Bool :=
  s.warp.synced && !s.flag R.WRP_STAT_TIME_LOST && (s.warp.stepped || decide (s.time.tb ≠ tb + BitVec.ofNat 64 m))

/-- The member has taken the frame's phase `e` and compared its TB. -/
def State.timeCompared (s : State) (e : Int) (wrong : Bool) : State :=
  let u := (s.sets R.WRP_PHERR e).wrp fun w => { w with aligned := true, stepped := false }
  if wrong then u.inc R.WRP_TIMEERR else u

theorem State.timeMember_outside (hr : s.inRing = false) (tb : BitVec 64) (m : Nat) (err : Int) :
    s.timeMember tb m err = s := by
  simp [State.timeMember, hr]

theorem State.timeMember_inside (h : s.Member) (hr : s.inRing = true) (tb : BitVec 64) (m : Nat) (err : Int) :
    ∃ e, s.timeMember tb m err = ((s.timeCompared e (s.tbWrong tb m)).lockTime).timeEvent tb := by
  have hc : ¬ (s.wrpReset || s.isMaster || !s.inRing) = true := by simp [h.not_reset, h.role, hr]
  rw [State.timeMember, if_neg hc]
  exact ⟨_, rfl⟩

theorem State.timeCompared_regs (s : State) (e : Int) (wrong : Bool) :
    RegsOnly (fun f => f ∈ [R.WRP_PHERR, R.WRP_TIMEERR]) s (s.timeCompared e wrong) := by
  have phase : RegsOnly (fun f => f ∈ [R.WRP_PHERR, R.WRP_TIMEERR]) s (s.sets R.WRP_PHERR e) :=
    (RegsOnly.refl _ s).set_listed (by decide) _
  cases wrong with
  | false => exact phase
  | true => exact phase.set_listed (by decide) _

theorem State.timeCompared_warp (s : State) (e : Int) (wrong : Bool) :
    (s.timeCompared e wrong).warp = { s.warp with aligned := true, stepped := false } := by
  cases wrong <;> rfl

theorem State.timeCompared_time (s : State) (e : Int) (wrong : Bool) : (s.timeCompared e wrong).time = s.time := by
  cases wrong <;> rfl

theorem State.timeCompared_timeErr (s : State) (e : Int) (wrong : Bool) : (s.timeCompared e wrong).get R.WRP_TIMEERR =
    if wrong then min 0xFFFF (s.get R.WRP_TIMEERR + 1) else s.get R.WRP_TIMEERR := by
  have phase : (s.sets R.WRP_PHERR e).get R.WRP_TIMEERR = s.get R.WRP_TIMEERR := State.get_sets_apart s rfl e
  cases wrong with
  | false => exact phase
  | true =>
    rw [if_pos rfl, ← phase]
    exact State.get_inc _ _

theorem State.lockTime_regs (s : State) : RegsOnly (fun f => f ∈ [R.WRP_STAT_TIMELOCK]) s s.lockTime :=
  (RegsOnly.refl _ s).set_listed (by decide) _

/-- A node is locked where its TB is synchronised and its phase error at most one HR step. -/
theorem State.lockTime_locks (s : State) : s.lockTime.flag R.WRP_STAT_TIMELOCK = true ↔ s.warp.synced = true
    ∧ s.flag R.WRP_STAT_TIME_LOST = false ∧ (s.lockTime.gets R.WRP_PHERR).natAbs ≤ 1 := by
  rw [State.gets_congr (s.lockTime_regs.get_apart (f := R.WRP_PHERR) rfl), State.lockTime, State.flag_setB _ rfl]
  simp [and_assoc]

@[simp] theorem State.get_timeEvent (s : State) (tb : BitVec 64) (f : Fld) : (s.timeEvent tb).get f = s.get f := by
  unfold State.timeEvent
  split <;> rfl

theorem State.timeEvent_warp (s : State) (tb : BitVec 64) : (s.timeEvent tb).warp = { s.warp with
    events := s.warp.events ++ if s.flag R.WRP_STAT_TIMELOCK then [(tb + 512).toNat] else [] } := by
  unfold State.timeEvent
  cases s.flag R.WRP_STAT_TIMELOCK with
  | false => simp
  | true => rfl

/-- What a member makes of a TIME frame: it compares its TB, judges its lock, and schedules source 116 where locked. -/
theorem State.timeMember_shows (h : s.Member) (hr : s.inRing = true) (tb : BitVec 64) (m : Nat) (err : Int) :
    let u := s.timeMember tb m err
    u.originates = false ∧ u.warp.aligned = true ∧ u.time = s.time
    ∧ u.get R.WRP_TIMEERR =
        (if s.tbWrong tb m then min 0xFFFF (s.get R.WRP_TIMEERR + 1) else s.get R.WRP_TIMEERR)
    ∧ (u.flag R.WRP_STAT_TIMELOCK = true ↔ s.warp.synced = true ∧ s.flag R.WRP_STAT_TIME_LOST = false
        ∧ (u.gets R.WRP_PHERR).natAbs ≤ 1)
    ∧ u.warp.events = s.warp.events ++ if u.flag R.WRP_STAT_TIMELOCK then [(tb + 512).toNat] else [] := by
  obtain ⟨e, he⟩ := s.timeMember_inside h hr tb m err
  dsimp only
  rw [he]
  let c := s.timeCompared e (s.tbWrong tb m)
  have cw : c.warp = { s.warp with aligned := true, stepped := false } := s.timeCompared_warp e _
  have ct : c.time = s.time := s.timeCompared_time e _
  have lw : (c.lockTime.timeEvent tb).warp = { c.warp with
      events := c.warp.events ++ if c.lockTime.flag R.WRP_STAT_TIMELOCK then [(tb + 512).toNat] else [] } :=
    State.timeEvent_warp ..
  have regs : ∀ {f : Fld}, [R.WRP_PHERR, R.WRP_TIMEERR].all (fun g => g.apart f) = true →
      R.WRP_STAT_TIMELOCK.apart f = true → (c.lockTime.timeEvent tb).get f = s.get f := fun hf hl =>
    (State.get_timeEvent ..).trans ((State.get_setB_apart c hl _).trans ((s.timeCompared_regs e _).get_apart hf))
  refine ⟨h.forwards_of (regs rfl rfl) (regs rfl rfl) ?_, ?_, ?_, ?_, ?_, ?_⟩
  · rw [lw, cw]
  · rw [lw, cw]
  · exact ((State.timeEvent_moves _ tb).same .time (by decide)).trans ct
  · exact (State.get_timeEvent ..).trans ((c.lockTime_regs.get_apart rfl).trans (s.timeCompared_timeErr e _))
  · rw [State.flag_congr (State.get_timeEvent ..), State.gets_congr (State.get_timeEvent ..)]
    have lost : c.flag R.WRP_STAT_TIME_LOST = s.flag R.WRP_STAT_TIME_LOST :=
      State.flag_congr ((s.timeCompared_regs e _).get_apart rfl)
    rw [c.lockTime_locks, cw, lost]
  · rw [lw, cw, State.flag_congr (State.get_timeEvent ..)]

/-! ### The other frames and events of time (R152, R154, R159, R162) -/

/-- The member has the step pick of a STEP frame. -/
def State.stepNoted (s : State) (tb : BitVec 64) : State := s.wrp fun w => { w with stepPick := some tb.toNat }

theorem exec_warpTimeStepFrame (h : s.Member) (hr : s.inRing = true) (tb : BitVec 64) :
    exec (.warpTimeStepFrame tb) s = .next ((s.stepNoted tb).forwarded (.time true tb)) := by
  have hc : ¬ (s.wrpReset || s.isMaster || !s.inRing) = true := by simp [h.not_reset, h.role, hr]
  change Host.Outcome.next (s.inbound fun s => s.stepIn tb) = _
  rw [h.inbound, State.stepIn, h.forwards, if_neg Bool.false_ne_true, if_neg hc, State.pass_forwards]
  · rfl
  · exact h.forwards

/-- The event of the present pick is taken from those that wait. -/
def State.eventTaken (s : State) : State := s.wrp fun w => { w with events := without w.events s.time.tb.toNat }

theorem exec_warpTimeEvent (h9 : s.on 9 = true) (h6 : s.on 6 = true) (he : s.time.tb.toNat ∈ s.warp.events) :
    exec .warpTimeEvent s = .next (s.eventTaken.fire [116]) := by
  have h6' : s.eventTaken.on 6 = true := h6
  change Host.Outcome.next (if s.on 9 && decide (s.time.tb.toNat ∈ s.warp.events) then
    (if s.eventTaken.on 6 then s.eventTaken.fire [116] else s.eventTaken) else s) = _
  rw [if_pos (by simp [h9, he]), if_pos h6']

/-- One HR step toward alignment. -/
def slewed (e : Int) : Int := if 0 < e then e - 1 else if e < 0 then e + 1 else 0

theorem natAbs_slewed (e : Int) : (slewed e).natAbs = e.natAbs - 1 := by
  unfold slewed
  split
  · omega
  · split <;> omega

theorem sx_bounds {n : Nat} (hn : 0 < n) (v : Nat) : -(2 ^ (n - 1) : Nat) ≤ sx n v ∧ sx n v < (2 ^ (n - 1) : Nat) := by
  have hp : 2 ^ n = 2 * 2 ^ (n - 1) := by rw [← pow_succ', Nat.sub_add_cancel hn]
  have hlt : v % 2 ^ n < 2 ^ n := Nat.mod_lt _ (Nat.two_pow_pos n)
  unfold sx
  rw [hp] at hlt ⊢
  split <;> omega

theorem State.gets_slewed (s : State) : (s.sets R.WRP_PHERR (slewed (s.gets R.WRP_PHERR))).gets R.WRP_PHERR =
    slewed (s.gets R.WRP_PHERR) := by
  obtain ⟨lo, hi⟩ := sx_bounds (n := 16) (by decide) (s.get R.WRP_PHERR)
  change -(2 ^ 15 : Nat) ≤ s.gets R.WRP_PHERR at lo
  change s.gets R.WRP_PHERR < (2 ^ 15 : Nat) at hi
  have hs : -(2 ^ 15 : Nat) ≤ slewed (s.gets R.WRP_PHERR) ∧ slewed (s.gets R.WRP_PHERR) < (2 ^ 15 : Nat) := by
    unfold slewed
    split
    · omega
    · split <;> omega
  exact State.gets_sets s (f := R.WRP_PHERR) (by decide) hs.1 hs.2

/-- A slew step moves the phase error one HR step toward 0 and judges the lock again. -/
def State.phaseSlewed (s : State) : State := (s.sets R.WRP_PHERR (slewed (s.gets R.WRP_PHERR))).lockTime

theorem exec_warpPhaseSlewStep (h9 : s.on 9 = true) : exec .warpPhaseSlewStep s = .next s.phaseSlewed := by
  change Host.Outcome.next (if !s.on 9 then s else s.phaseSlewed) = _
  rw [if_neg (by simp [h9])]

theorem State.phaseSlewed_shows (s : State) :
    (s.phaseSlewed.gets R.WRP_PHERR).natAbs = (s.gets R.WRP_PHERR).natAbs - 1
    ∧ RegsOnly (fun f => f = R.WRP_PHERR ∨ f = R.WRP_STAT_TIMELOCK) s s.phaseSlewed := by
  refine ⟨?_, ((RegsOnly.refl _ s).set (.inl rfl) _).set (.inr rfl) _⟩
  rw [State.phaseSlewed, State.gets_congr ((State.lockTime_regs _).get_apart (f := R.WRP_PHERR) rfl),
    State.gets_slewed, natAbs_slewed]

theorem State.timeLost_member (h : s.Member) (hl : s.flag R.WRP_STAT_TIME_LOST = false) :
    s.timeLost = ((s.set R.WRP_STAT_TIME_LOST 1).set R.WRP_STAT_TIMELOCK 0).raise 121 := by
  rw [State.timeLost, if_neg (by simp [h.on9, h.role, h.runs, hl])]

theorem exec_warpSyncTimeout (hs : s.warp.synced = false) : exec .warpSyncTimeout s = .next s.timeLost := by
  change Host.Outcome.next (if s.warp.synced then s else s.timeLost) = _
  rw [hs]
  rfl

/-! ### Armed targets (R154) -/

theorem exec_warpGstartFrame (h : s.Member) (hb : s.inBypass = false) (hr : s.inRing = true) {g : Fin 16}
    (hg : s.bit R.WRP_GSMASK g = true) (x : BitVec 64) :
    exec (.warpGstartFrame g x) s = .next ((s.armTarget x.toNat).pass (.gstart g x)) := by
  change Host.Outcome.next (s.inbound fun s => s.gstartFrame g x) = _
  rw [h.inbound, State.gstartFrame, h.forwards, if_neg Bool.false_ne_true, h.not_reset, if_neg Bool.false_ne_true,
    State.gstartIn, if_pos (by simp [hg, hb, hr])]

/-- A target of the node's own is armed. -/
def State.armed (s : State) (x : Nat) : State := (s.wrp fun w => { w with armed := x :: w.armed }).showArmed

/-- A fifth target is discarded. -/
def State.armedFull (s : State) : State := (s.set R.WRP_STAT_GSOVF 1).raise 124

theorem State.armTarget_arms {x : Nat} (ht : s.time.tb.toNat < x) (hx : x ∉ s.warp.armed)
    (hn : s.warp.armed.length < 4) : s.armTarget x = s.armed x := by
  rw [State.armTarget, if_neg (by omega), if_neg hx, if_neg (by omega)]
  rfl

theorem State.armTarget_full {x : Nat} (ht : s.time.tb.toNat < x) (hx : x ∉ s.warp.armed)
    (hn : 4 ≤ s.warp.armed.length) : s.armTarget x = s.armedFull := by
  rw [State.armTarget, if_neg (by omega), if_neg hx, if_pos hn]
  rfl

theorem State.showArmed_regs (s : State) :
    RegsOnly (fun f => f ∈ [R.WRP_STAT_GSARMED, R.WRP_GSNEXT_LO, R.WRP_GSNEXT_HI]) s s.showArmed :=
  (((RegsOnly.refl _ s).set_listed (by decide) _).set_listed (by decide) _).set_listed (by decide) _

theorem State.get_showArmed (s : State) : s.showArmed.get R.WRP_STAT_GSARMED = b2n (!s.warp.armed.isEmpty) := by
  unfold State.showArmed
  dsimp only
  rw [State.get_set_apart _ rfl, State.get_set_apart _ rfl, State.get_setB_bit _ rfl]

theorem State.armed_forwards (h : s.Member) (x : Nat) : (s.armed x).originates = false :=
  h.forwards_of ((State.showArmed_regs _).get_apart rfl) ((State.showArmed_regs _).get_apart rfl) rfl

theorem State.armedFull_warp (s : State) : s.armedFull.warp = s.warp := State.raise_warp ..

theorem State.get_armedFull (s : State) {f : Fld} (hf : f.pd = 9) (h : R.WRP_STAT_GSOVF.apart f = true) :
    s.armedFull.get f = s.get f :=
  (State.get_raise_apart _ _ (by simp [hf])).trans (State.get_set_apart s h 1)

theorem State.armedFull_forwards (h : s.Member) : s.armedFull.originates = false :=
  h.forwards_of (s.get_armedFull rfl rfl) (s.get_armedFull rfl rfl) (congrArg Warp.demoted s.armedFull_warp)

theorem State.armedFull_flag (s : State) : s.armedFull.flag R.WRP_STAT_GSOVF = true :=
  (State.flag_congr (State.get_raise_apart _ _ (by decide))).trans (State.flag_setB s (f := R.WRP_STAT_GSOVF) rfl true)

/-- The waiting set's target of this pick is no longer armed. -/
def State.targetTaken (s : State) : State :=
  (s.wrp fun w => { w with armed := without w.armed s.time.tb.toNat }).showArmed

theorem State.releaseNow_eq (s : State) (src : List Nat) :
    s.releaseNow src = (s.releaseAll.1.set R.TMR_GSTART_REL 1).fire (src ++ 118 :: s.releaseAll.2) := by
  unfold State.releaseNow
  generalize s.releaseAll = a
  rfl

theorem exec_warpGlobalStartRelease (h9 : s.on 9 = true) (h6 : s.on 6 = true) (ha : s.time.tb.toNat ∈ s.warp.armed) :
    exec .warpGlobalStartRelease s = .next (s.targetTaken.releaseNow [117]) := by
  have h6' : s.targetTaken.on 6 = true := (State.on_congr ((State.showArmed_regs _).get_apart rfl)).trans h6
  change Host.Outcome.next (if s.on 9 && decide (s.time.tb.toNat ∈ s.warp.armed) then
    (if s.targetTaken.on 6 then s.targetTaken.releaseNow [117] else s.targetTaken) else s) = _
  rw [if_pos (by simp [h9, ha]), if_pos h6']

/-! ### The slot (R153) -/

theorem exec_warpSlotLoad (q : Who) (v : Word) (h : s.on 9 = true) (hv : v.toNat.testBit 31 = true) :
    exec (.warpSlotLoad q v) s =
      .next ((((s.reply q.req .ok 0).writeReg q 0x11028 v.toNat).set R.WRP_SLOT_LOAD 0).slotLoad) := by
  change Host.Outcome.next (s.via q.req 9 fun s => s.writeWarpSlot q v.toNat) = _
  rw [State.via_on s _ _ h, State.writeWarpSlot, if_pos hv]

theorem warpSlot_in_map : (regFields 0x11028).Nodup ∧ R.WRP_SLOT_N ∈ regFields 0x11028
    ∧ R.WRP_SLOT_K ∈ regFields 0x11028 := by
  decide

theorem State.writeWarpSlot_fields (s : State) (q : Who) (v : Nat) :
    let w := (s.writeReg q 0x11028 v).set R.WRP_SLOT_LOAD 0
    w.get R.WRP_SLOT_N = v / 2 ^ 16 % 2 ^ 9 ∧ w.get R.WRP_SLOT_K = v % 2 ^ 8 := by
  obtain ⟨hn, hN, hK⟩ := warpSlot_in_map
  refine ⟨(State.get_set_apart _ rfl 0).trans (State.get_writeReg_rw s q v hN hn (by decide) rfl), ?_⟩
  have k := (State.get_set_apart _ (f := R.WRP_SLOT_LOAD) (g := R.WRP_SLOT_K) rfl 0).trans
    (State.get_writeReg_rw s q v hK hn (by decide) rfl)
  simpa [R.WRP_SLOT_K] using k

theorem State.slotLoad_beyond (h : s.get R.WRP_SLOT_N ≤ s.get R.WRP_SLOT_K) :
    s.slotLoad = s.set R.WRP_STAT_SLOTERR 1 := by
  unfold State.slotLoad
  dsimp only
  rw [if_pos (by simp [h])]

/-- The pairs of a mask with one bit. -/
theorem slotPairs_single : ∀ p : Fin 12, (List.range 12).filter (fun i => (2 ^ p.val).testBit i) = [p.val] := by
  decide

/-- A slot load of one pair that nothing refuses. -/
theorem State.slotLoad_single {p : Fin 12} (hk : s.get R.WRP_SLOT_K < s.get R.WRP_SLOT_N) (h6 : s.on 6 = true)
    (hp : s.get R.WRP_SLOTPAIRS = 2 ^ p.val) (hs : s.shedPair p = false) (hm : s.get (R.PWM_CTRL_MODE p) ≠ 2) :
    let n := s.get R.WRP_SLOT_N
    let per := s.perWritten p
    s.slotLoad = ((s.updPwm p fun w => { w with offSlot := (n - s.get R.WRP_SLOT_K) * per / n % per }).writePhase p
      per).set R.WRP_STAT_SLOTLD 1 := by
  have ps : (List.range 12).filter (fun i => s.bit R.WRP_SLOTPAIRS i) = [p.val] := by
    simp only [State.bit, hp, slotPairs_single p]
  unfold State.slotLoad
  dsimp only
  rw [ps, if_neg (by simp [hk, hs, hm, h6]), List.foldl_cons, List.foldl_nil]

/-- A change of pair `p` that keeps its slot offset. -/
theorem State.updPwm_offSlot (s : State) (p : Fin 12) {f : Pwm → Pwm} (hf : ∀ w, (f w).offSlot = w.offSlot) :
    ((s.updPwm p f).pwm.at p).offSlot = (s.pwm.at p).offSlot :=
  (congrArg Pwm.offSlot (Bank.at_upd _ p.isLt f)).trans (hf _)

@[simp] theorem State.putWritten_pwm (s : State) (p : Nat) (f : PwmField) (v : Nat) :
    (s.putWritten p f v).pwm = s.pwm := by
  cases f <;> rfl

theorem State.writeField_offSlot (s : State) (p : Fin 12) (f : PwmField) (v : Nat) (lane : Option Nat) :
    ((s.writeField p f v lane).pwm.at p).offSlot = (s.pwm.at p).offSlot := by
  unfold State.writeField
  dsimp only
  split
  · rw [State.set_pwm, State.updPwm_offSlot _ p (by exact fun _ => rfl), State.putWritten_pwm]
  · rw [State.updPwm_offSlot _ p (by exact fun _ => rfl), State.putWritten_pwm]

theorem State.handValue_offSlot (s : State) (p : Fin 12) (d : PwmLoad) :
    ((s.handValue p d).pwm.at p).offSlot = (s.pwm.at p).offSlot := by
  unfold State.handValue
  dsimp only
  split
  · rw [State.updPwm_offSlot _ p (by exact fun _ => rfl), State.writeField_offSlot]
  · exact State.writeField_offSlot ..

theorem State.writePhase_offSlot (s : State) (p : Fin 12) (per : Nat) :
    ((s.writePhase p per).pwm.at p).offSlot = (s.pwm.at p).offSlot := by
  unfold State.writePhase
  dsimp only
  split
  · exact State.handValue_offSlot ..
  · rw [State.set_pwm, State.handValue_offSlot]

theorem State.slotLoad_shows {p : Fin 12} (hk : s.get R.WRP_SLOT_K < s.get R.WRP_SLOT_N) (h6 : s.on 6 = true)
    (hp : s.get R.WRP_SLOTPAIRS = 2 ^ p.val) (hs : s.shedPair p = false) (hm : s.get (R.PWM_CTRL_MODE p) ≠ 2) :
    let n := s.get R.WRP_SLOT_N
    let per := s.perWritten p
    s.slotLoad.get R.WRP_STAT_SLOTLD = 1
    ∧ (s.slotLoad.pwm.at p).offSlot = (n - s.get R.WRP_SLOT_K) * per / n % per := by
  dsimp only
  rw [s.slotLoad_single hk h6 hp hs hm]
  refine ⟨State.get_set .., ?_⟩
  rw [State.set_pwm, State.writePhase_offSlot, State.updPwm, Bank.at_upd _ p.isLt]

end

/-- Settles O30: each clause is one command on the node, of which the lemmas above say what it does. -/
theorem warpTimeAndSlots : Obligations.WarpTimeAndSlots := by
  unfold Obligations.WarpTimeAndSlots
  refine ⟨fun s h ht => ?_, fun tb m err s h hr => ?_, fun tb m err s h hr => ?_, fun tb s h hr => ?_,
    fun s h9 h6 he => ?_, fun s h9 => ?_, fun s h hl => ?_, fun g x s h hb hr hg ht hx => ?_, fun s h9 h6 ha => ?_,
    fun q v s h hv => ?_, fun q v s => ?_, fun s h => ?_, fun p s hk h6 hp hs hm => ?_⟩
  · exact ⟨_, exec_warpSuperframeSlot h ht, rfl, List.mem_cons_self, s.sendTime_stepDue,
      (State.sendTime_moves s).onlyIn [.warp] (by decide)⟩
  · rw [exec_warpTimeFrame h, State.timeMember_outside hr]
  · obtain ⟨hf, ha, ht, herr, hlock, hev⟩ := State.timeMember_shows h hr tb m err
    refine ⟨_, (exec_warpTimeFrame h tb m err).trans (congrArg _ (State.pass_forwards hf _)), rfl, ha,
      congrArg TimeSt.tb ht, fun hs hl hne => herr.trans (if_pos ?_), fun hs he => herr.trans (if_neg ?_), hlock,
      fun hl => ?_, fun hl => ?_⟩
    · simp [State.tbWrong, hs, hl, hne]
    · simp [State.tbWrong, hs, he]
    · rw [State.flag_congr (State.get_forwarded ..)] at hl
      rw [if_pos hl] at hev
      exact hev ▸ List.mem_append_right _ List.mem_cons_self
    · rw [State.flag_congr (State.get_forwarded ..)] at hl
      exact hev.trans (by simp [hl])
  · exact ⟨_, exec_warpTimeStepFrame h hr tb, rfl, rfl,
      (Moves.trans (State.wrp_moves ..) (State.forwarded_moves ..)).onlyIn [.warp] (by decide)⟩
  · exact ⟨_, exec_warpTimeEvent h9 h6 he, not_mem_without s.warp.events _,
      (State.wrp_moves ..).onlyIn [.warp] (by decide)⟩
  · exact ⟨_, exec_warpPhaseSlewStep h9, s.phaseSlewed_shows⟩
  · exact ⟨congrArg _ (State.timeLost_member h hl),
      fun hs => (exec_warpSyncTimeout hs).trans (congrArg _ (State.timeLost_member h hl))⟩
  · have hexec := exec_warpGstartFrame h hb hr hg x
    rcases Nat.lt_or_ge s.warp.armed.length 4 with hn | hn
    · rw [State.armTarget_arms ht hx hn, State.pass_forwards (s.armed_forwards h _)] at hexec
      exact ⟨_, hexec, rfl, fun _ => ⟨List.mem_cons_self, State.get_showArmed _⟩, fun h4 => absurd hn (by omega)⟩
    · rw [State.armTarget_full ht hx hn, State.pass_forwards (s.armedFull_forwards h)] at hexec
      exact ⟨_, hexec, rfl, fun h4 => absurd hn (by omega),
        fun _ => ⟨(congrArg Warp.armed s.armedFull_warp :),
          (State.flag_congr (State.get_forwarded ..)).trans s.armedFull_flag⟩⟩
  · exact ⟨_, exec_warpGlobalStartRelease h9 h6 ha, rfl, rfl, rfl, State.releaseNow_eq _ [117]⟩
  · exact exec_warpSlotLoad q v h hv
  · exact State.writeWarpSlot_fields _ q v.toNat
  · exact State.slotLoad_beyond h
  · exact State.slotLoad_shows hk h6 hp hs hm

end Sys2Proof.Machine
end


section
/-!
PROOFS of the statement on the messages of the Warp bus (O31, R155, R157, R158): fragments that come in, the answers of
the other side, and the transfers the node has open.
-/

namespace Sys2Proof.Machine

section
variable {s : State}

/-! ### A frame addressed to the node (R147) -/

theorem State.msgIn_taken {dst : Nat} (h : s.warpId = some dst) (mpass : Bool) (src : Nat) (out : Bool → Frame)
    (take back : State → State) : s.msgIn mpass dst src out take back = (take s).pass .empty := if_pos h

theorem exec_warpMsgData {dst : BitVec 8} (hi : s.warpId = some dst.toNat) (hin : ∀ f, s.inbound f = f s)
    (first last mp : Bool) (src xid frag : BitVec 8) (data : BitVec 32) :
    exec (.warpMsgData first last mp dst src xid frag data) s =
      .next ((s.dataIn first last src.toNat xid.toNat frag.toNat (toLE 4 data.toNat)).pass .empty) :=
  congrArg Host.Outcome.next ((hin _).trans (State.msgIn_taken hi ..))

/-- The bypass path acts on inbound frames with its power alone (R157, R162). -/
theorem State.inbound_of_path (hp : s.on 9 = true ∨ s.warp.path = true) (hl : s.flag R.WRP_STAT_LINKDOWN = false)
    (f : State → State) : s.inbound f = f s := by
  rcases hp with hp | hp <;> simp [State.inbound, hp, hl]

/-! ### The answers to a fragment (R155, R157) -/

/-- An answer goes to the source of the fragment, from the node it was addressed to. -/
theorem State.answer_own {dst : BitVec 8} (hi : s.warpId = some dst.toNat) (k : Nat) (src xid : BitVec 8) :
    s.answer k src.toNat xid.toNat =
      s.queueFrame (.msg (BitVec.ofNat 2 k) false false false src dst xid 0 0) := by
  simp [State.answer, hi]

theorem State.dataIn_bypass (hb : s.inBypass = true) (first last : Bool) (src xid frag : Nat) (data : List Nat) :
    s.dataIn first last src xid frag data = s.answer 2 src xid := if_pos hb

theorem State.dataIn_asleep (hb : s.inBypass = false) (ha : s.asleep = true) (last : Bool) (src xid frag : Nat)
    (data : List Nat) : s.dataIn true last src xid frag data = (s.answer 3 src xid).wake 4 src := by
  rw [State.dataIn, if_neg (by simp [hb]), if_pos (by simp [ha])]

theorem State.dataIn_activating (hb : s.inBypass = false) (ha : s.asleep = false) (hc : s.crerus.activating = true)
    (last : Bool) (src xid frag : Nat) (data : List Nat) :
    s.dataIn true last src xid frag data = s.answer 3 src xid := by
  rw [State.dataIn, if_neg (by simp [hb]), if_neg (by simp [ha]), if_pos (by simp [hc])]

/-- The buffers of the other sources. -/
def State.otherBufs (s : State) (src : Nat) : List Reasm := s.warp.bufs.filter fun x => decide (x.src ≠ src)

theorem State.dataIn_full (hb : s.inBypass = false) (ha : s.asleep = false) (hc : s.crerus.activating = false)
    {src : Nat} (hn : 4 ≤ (s.otherBufs src).length) (last : Bool) (xid frag : Nat) (data : List Nat) :
    s.dataIn true last src xid frag data = s.answer 3 src xid := by
  rw [State.dataIn, if_neg (by simp [hb]), if_neg (by simp [ha]), if_neg (by simp [hc]), if_pos rfl]
  exact if_pos hn

/-- A buffer is opened beside those of the other sources. -/
def State.bufOpened (s : State) (r : Reasm) : State := s.wrp fun w => { w with bufs := s.otherBufs r.src ++ [r] }

/-- A FIRST fragment that is not the LAST opens a buffer for its source. -/
theorem State.dataIn_opens (hb : s.inBypass = false) (ha : s.asleep = false) (hc : s.crerus.activating = false)
    {src : Nat} (hn : (s.otherBufs src).length < 4) (xid frag : Nat) (data : List Nat) :
    s.dataIn true false src xid frag data =
      s.bufOpened { src := src, xid := xid, bytes := data, next := 1, bad := decide (frag ≠ 0) } := by
  rw [State.dataIn, if_neg (by simp [hb]), if_neg (by simp [ha]), if_neg (by simp [hc]), if_pos rfl]
  exact if_neg (Nat.not_le.mpr hn)

/-- An answer leaves a node that forwards one that forwards. -/
theorem State.pass_answer (h : s.originates = false) (k src xid : Nat) (f : Frame) :
    (s.answer k src xid).pass f = (s.answer k src xid).forwarded f :=
  State.pass_forwards (s := s.answer k src xid) h f

/-! ### The last fragment (R155) -/

theorem State.lastIn_request (s : State) {r : Reasm} (hb : r.bad = false) (hg : goodMsg r.bytes = true)
    (hr : (fieldOf (r.bytes.take (msgLen r.bytes)) 5 1).testBit 0 = false) :
    s.lastIn r = ((s.wrp fun w => { w with bufs := w.bufs.filter fun x => decide (x.src ≠ r.src) }).answer 1 r.src
      r.xid).arrive { src := .warp r.src r.xid, bytes := r.bytes.take (msgLen r.bytes) } := by
  rw [State.lastIn, if_neg (by simp [hb, hg]), State.messageIn, if_neg (by simp [hr])]

/-! ### The answers of the other side (R155) -/

/-- The transfer `d` is acknowledged: its fragments that wait are dropped. -/
def State.sendAcked (s : State) (d : Send) : State :=
  (s.dropFrags d).updSend d fun x => { x with acked := true, busy := false }

/-- The transfer `d` waits for its resend. -/
def State.sendBusied (s : State) (d : Send) : State := (s.dropFrags d).updSend d fun x => { x with busy := true }

theorem State.endSend_request (s : State) {d : Send} (hr : d.reply = false) (status : Nat) (data : List Nat) :
    s.endSend d status data = (s.closeSend d).jobReady d.job status data := by
  rw [State.endSend, hr]
  rfl

section
variable {dst : BitVec 8} {d : Send} (h : s.Member) (hi : s.warpId = some dst.toNat) (mp : Bool) {src xid : BitVec 8}
  (hd : s.sendOf src.toNat xid.toNat = some d)
include h hi hd

theorem exec_warpMsgAck (hr : d.reply = false) :
    exec (.warpMsgAck mp dst src xid) s = .next ((s.sendAcked d).pass .empty) := by
  refine congrArg Host.Outcome.next ((h.inbound _).trans ((State.msgIn_taken hi ..).trans ?_))
  simp only [hd, hr]
  rfl

theorem exec_warpMsgNakReset (hr : d.reply = false) :
    exec (.warpMsgNakReset mp dst src xid) s = .next (((s.closeSend d).jobReady d.job 0x61 [3]).pass .empty) := by
  refine congrArg Host.Outcome.next ((h.inbound _).trans ((State.msgIn_taken hi ..).trans ?_))
  simp only [hd, s.endSend_request hr]

theorem exec_warpMsgNakBusy (ha : d.acked = false) :
    exec (.warpMsgNakBusy mp dst src xid) s = .next ((s.sendBusied d).pass .empty) := by
  refine congrArg Host.Outcome.next ((h.inbound _).trans ((State.msgIn_taken hi ..).trans ?_))
  simp only [hd, ha]
  rfl

end

/-! ### The deadlines of an open transfer (R155) -/

/-- The transfer goes out again from its first fragment. -/
def State.resent (s : State) (d : Send) (me : Nat) : State :=
  (s.dropFrags d).wrp fun w => { w with own := w.own ++ fragments d.dst me d.xid d.bytes }

theorem State.sendFrags_resent {me : Nat} (hm : s.warpId = some me) (d : Send) : s.sendFrags d = s.resent d me := by
  rw [State.sendFrags, hm]
  rfl

theorem State.resent_moves (s : State) (d : Send) (me : Nat) : Moves 0x20000000 s (s.resent d me) :=
  .trans (State.dropFrags_moves ..) (State.wrp_moves ..)

/-- The transfer goes out again after a NAK_BUSY. -/
def State.busyResent (s : State) (d : Send) (me : Nat) : State :=
  (s.resent d me).updSend d fun x => { x with busy := false }

section
variable {xid : BitVec 8} {d : Send} (hd : s.sendXid xid.toNat = some d)
include hd

theorem exec_warpMsgRetryTimeout {me : Nat} (hm : s.warpId = some me) (ha : d.acked = false) (hb : d.busy = false) :
    exec (.warpMsgRetryTimeout xid) s = .next (s.resent d me) := by
  change execWarpMsgRetryTimeout xid s = _
  simp only [execWarpMsgRetryTimeout, hd, ha, hb, s.sendFrags_resent hm]
  rfl

theorem exec_warpMsgBusyResend {me : Nat} (hm : s.warpId = some me) (hb : d.busy = true) :
    exec (.warpMsgBusyResend xid) s = .next (s.busyResent d me) := by
  change execWarpMsgBusyResend xid s = _
  simp only [execWarpMsgBusyResend, hd, hb, s.sendFrags_resent hm]
  rfl

theorem exec_warpMsgDeadline (hr : d.reply = false) : exec (.warpMsgDeadline xid) s =
    .next ((s.closeSend d).jobReady d.job 0x61 [if d.busy then 2 else 1]) := by
  change execWarpMsgDeadline xid s = _
  simp only [execWarpMsgDeadline, hd, s.endSend_request hr]

end

theorem State.not_mem_closeSend (s : State) (d : Send) : d ∉ (s.closeSend d).warp.sends := by
  simp [State.closeSend, State.wrp]

end

/-- Settles O31: each clause is one frame or one deadline, of which the lemmas above say what it does. -/
theorem warpMessages : Obligations.WarpMessages := by
  unfold Obligations.WarpMessages
  refine ⟨fun mp first last dst src xid frag data s hp hl hi hb => ?_,
    fun mp last dst src xid frag data s h hi hb => ?_, fun mp last dst src xid frag data s h hi hb ha hc => ?_,
    fun s r hb hg hr => ?_, fun mp dst src xid d s h hi hd hr => ?_, fun xid d me s hd hr hm => ?_, fun _ _ _ _ => rfl⟩
  · have hf : s.originates = false := by simp [State.originates, hl, hb]
    have hexec := exec_warpMsgData hi (State.inbound_of_path hp hl) first last mp src xid frag data
    rw [State.dataIn_bypass hb, State.pass_answer hf, State.answer_own hi] at hexec
    exact ⟨_, hexec, rfl, rfl, rfl⟩
  · have hexec := exec_warpMsgData hi h.inbound true last mp src xid frag data
    refine ⟨fun ha => ?_, fun ha hc => ?_⟩
    · rw [hexec, State.dataIn_asleep hb ha]
    · rw [hexec, State.dataIn_activating hb ha hc]
  · have hexec := exec_warpMsgData hi h.inbound true last mp src xid frag data
    refine ⟨fun hn => ?_, fun hn hl => ?_⟩
    · rw [State.dataIn_full hb ha hc hn, State.pass_answer h.forwards, State.answer_own hi] at hexec
      exact ⟨_, hexec, rfl, rfl, rfl⟩
    · subst hl
      have hfrag : decide (frag.toNat ≠ 0) = decide (frag ≠ 0) :=
        decide_eq_decide.mpr (not_congr (BitVec.toNat_eq (y := 0)).symm)
      rw [State.dataIn_opens hb ha hc hn, hfrag, State.pass_forwards (s := s.bufOpened _) h.forwards] at hexec
      exact ⟨_, hexec, rfl, rfl, rfl⟩
  · rw [State.lastIn_request s hb hg hr]
    exact ⟨rfl, rfl⟩
  · exact ⟨⟨_, exec_warpMsgAck h hi mp hd hr, rfl, rfl⟩, exec_warpMsgNakReset h hi mp hd hr,
      fun ha => ⟨_, exec_warpMsgNakBusy h hi mp hd ha, rfl, rfl⟩⟩
  · refine ⟨fun ha hb => ?_, fun hb => ?_, ?_⟩
    · exact ⟨_, exec_warpMsgRetryTimeout hd hm ha hb, rfl, rfl, (State.resent_moves ..).onlyIn [.warp] (by decide)⟩
    · exact ⟨_, exec_warpMsgBusyResend hd hm hb, rfl, rfl,
        (Moves.trans (State.resent_moves ..) (State.updSend_moves ..)).onlyIn [.warp] (by decide)⟩
    · exact ⟨_, exec_warpMsgDeadline hd hr, s.not_mem_closeSend d, rfl⟩

end Sys2Proof.Machine
end


section
/-!
PROOFS of the statement on the ring of the Warp bus (O32, R147 to R149, R157, R159 to R161): enumeration, calibration,
BYPASS frames, insertion, frames that fail their CRC, and the link.
-/

namespace Sys2Proof.Machine

section
variable {s : State}

/-! ### Transfers that start again (R148) -/

/-- Every frame of the node's own is one a member sends (R161). -/
def Warp.OwnsMemberFrames (w : Warp) : Prop := ∀ f ∈ w.own, isMemberFrame f = true

theorem isMemberFrame_of_mem_fragments {dst src xid : Nat} {b : List Nat} {f : Frame}
    (h : f ∈ fragments dst src xid b) : isMemberFrame f = true := by
  obtain ⟨i, -, rfl⟩ := List.mem_map.mp h
  rfl

/-- A transfer sent again changes the frames that wait alone, by fragments. -/
theorem State.sendFrags_warp (s : State) (d : Send) : ∃ l, (s.sendFrags d).warp = { s.warp with own := l }
    ∧ (s.warp.OwnsMemberFrames → ∀ f ∈ l, isMemberFrame f = true) := by
  unfold State.sendFrags
  split
  · refine ⟨_, rfl, fun h f hf => ?_⟩
    rcases List.mem_append.mp hf with hf | hf
    · exact h f (List.mem_of_mem_filter hf)
    · exact isMemberFrame_of_mem_fragments hf
  · exact ⟨s.warp.own, rfl, id⟩

theorem State.foldl_sendFrags_warp : ∀ (l : List Send) (s : State),
    ∃ m, (l.foldl (fun s d => s.sendFrags d) s).warp = { s.warp with own := m }
      ∧ (s.warp.OwnsMemberFrames → ∀ f ∈ m, isMemberFrame f = true)
  | [], s => ⟨s.warp.own, rfl, id⟩
  | d :: l, s => by
    obtain ⟨m, hm, own⟩ := s.sendFrags_warp d
    obtain ⟨n, hn, owns⟩ := State.foldl_sendFrags_warp l (s.sendFrags d)
    rw [hm] at hn owns
    exact ⟨n, hn, fun h => owns (own h)⟩

theorem State.restartSends_warp (s : State) : ∃ l, s.restartSends.warp = { s.warp with bufs := [], own := l }
    ∧ (s.warp.OwnsMemberFrames → ∀ f ∈ l, isMemberFrame f = true) :=
  State.foldl_sendFrags_warp (s.warp.sends.filter fun d => !d.acked) (s.wrp fun w => { w with bufs := [] })

@[simp] theorem State.get_restartSends (s : State) {f : Fld} (h : f.pd = 9) : s.restartSends.get f = s.get f :=
  (State.restartSends_moves s).same (.pd 9) (by decide) f h

/-! ### The ID of a member (R148) -/

/-- A member past the ring's 256 has no ID. -/
def State.idRefused (s : State) : State := (s.set R.WRP_STAT_NOID 1).set R.WRP_ID_VALID 0

/-- A member has the ID `c`. -/
def State.idTaken (s : State) (c : Nat) : State :=
  (((s.set R.WRP_ID_ID c).set R.WRP_ID_VALID 1).set R.WRP_STAT_NOID 0).wrp fun w => { w with lastId := some c }

/-- The ID is another than before. -/
def State.idChanged (s : State) : State := ((s.set R.WRP_STAT_IDCHG 1).raise 122).restartSends

/-- What a count can do to the ID. -/
theorem State.takeId_cases (s : State) (old : Option Nat) (c : Nat) : s.takeId old c = s
    ∨ s.takeId old c = s.idRefused ∨ s.takeId old c = s.idTaken c ∨ s.takeId old c = (s.idTaken c).idChanged := by
  unfold State.takeId
  split
  · exact .inl rfl
  · split
    · exact .inr (.inl rfl)
    · dsimp only
      split
      · exact .inr (.inr (.inr rfl))
      · exact .inr (.inr (.inl rfl))

theorem State.takeId_beyond (h : s.Member) (old : Option Nat) {c : Nat} (hc : 256 ≤ c) :
    s.takeId old c = s.idRefused := by
  rw [State.takeId, if_neg (by simp [h.not_reset, h.role]), if_pos hc]
  rfl

theorem State.takeId_within (h : s.Member) (old : Option Nat) {c : Nat} (hc : c < 256) : s.takeId old c =
    if old.any (fun o => decide (o ≠ c)) then (s.idTaken c).idChanged else s.idTaken c := by
  rw [State.takeId, if_neg (by simp [h.not_reset, h.role]), if_neg (by omega)]
  rfl

theorem State.get_idChanged (s : State) {f : Fld} (hf : f.pd = 9) (hi : R.WRP_STAT_IDCHG.apart f = true) :
    s.idChanged.get f = s.get f := by
  rw [State.idChanged, State.get_restartSends _ hf, State.get_raise_apart _ _ (by simp [hf]), State.get_set_apart _ hi]

theorem State.idChanged_shows (s : State) : s.idChanged.flag R.WRP_STAT_IDCHG = true ∧ s.idChanged.warp.bufs = [] := by
  constructor
  · have kept : s.idChanged.get R.WRP_STAT_IDCHG = (s.set R.WRP_STAT_IDCHG 1).get R.WRP_STAT_IDCHG :=
      (State.get_restartSends _ rfl).trans (State.get_raise_apart _ _ (by decide))
    exact (State.flag_congr kept).trans (State.flag_setB s (f := R.WRP_STAT_IDCHG) rfl true)
  · obtain ⟨l, hl, -⟩ := ((s.set R.WRP_STAT_IDCHG 1).raise 122).restartSends_warp
    exact congrArg Warp.bufs hl

theorem State.idChanged_warp (s : State) : s.idChanged.warp.demoted = s.warp.demoted
    ∧ (s.warp.OwnsMemberFrames → s.idChanged.warp.OwnsMemberFrames) := by
  obtain ⟨l, hl, own⟩ := ((s.set R.WRP_STAT_IDCHG 1).raise 122).restartSends_warp
  rw [State.raise_warp, State.set_warp] at hl own
  rw [State.idChanged, hl]
  exact ⟨rfl, own⟩

theorem State.idTaken_shows (s : State) {c : Nat} (hc : c < 256) : (s.idTaken c).get R.WRP_ID_ID = c
    ∧ (s.idTaken c).get R.WRP_ID_VALID = 1 ∧ (s.idTaken c).get R.WRP_STAT_NOID = 0 := by
  have id : (s.set R.WRP_ID_ID c).get R.WRP_ID_ID = c := State.get_set_of_lt s hc
  exact ⟨(State.get_set_apart _ rfl 0).trans ((State.get_set_apart _ rfl 1).trans id),
    (State.get_set_apart _ rfl 0).trans (State.get_set ..), State.get_set ..⟩

/-- The fields of the ID. -/
def idFields : List Fld := [R.WRP_ID_ID, R.WRP_ID_VALID, R.WRP_STAT_NOID, R.WRP_STAT_IDCHG]

theorem State.get_takeId (s : State) (old : Option Nat) (c : Nat) {f : Fld} (hf : f.pd = 9)
    (h : idFields.all (fun g => g.apart f) = true) : (s.takeId old c).get f = s.get f := by
  simp only [idFields, List.all_cons, List.all_nil, Bool.and_true, Bool.and_eq_true] at h
  obtain ⟨hid, hvalid, hnoid, hchg⟩ := h
  have taken : (s.idTaken c).get f = s.get f := (State.get_set_apart _ hnoid 0).trans
    ((State.get_set_apart _ hvalid 1).trans (State.get_set_apart s hid c))
  rcases s.takeId_cases old c with e | e | e | e
  · rw [e]
  · rw [e]
    exact (State.get_set_apart _ hvalid 0).trans (State.get_set_apart s hnoid 1)
  · rw [e, taken]
  · rw [e, State.get_idChanged _ hf hchg, taken]

theorem State.takeId_warp (s : State) (old : Option Nat) (c : Nat) : (s.takeId old c).warp.demoted = s.warp.demoted
    ∧ (s.warp.OwnsMemberFrames → (s.takeId old c).warp.OwnsMemberFrames) := by
  rcases s.takeId_cases old c with e | e | e | e
  · rw [e]
    exact ⟨rfl, id⟩
  · rw [e]
    exact ⟨rfl, id⟩
  · rw [e]
    exact ⟨rfl, id⟩
  · rw [e]
    exact (s.idTaken c).idChanged_warp

/-! ### Enumeration (R148, R161) -/

theorem exec_warpEnumFrame_member (h : s.Member) (n : BitVec 9) (tag : BitVec 7) (dev : BitVec 48) :
    exec (.warpEnumFrame n tag dev) s = .next ((s.takeId s.warpId n.toNat).forwarded (.enum (n + 1) tag dev)) := by
  have hf : (s.takeId s.warpId n.toNat).originates = false :=
    h.forwards_of (s.get_takeId _ _ rfl rfl) (s.get_takeId _ _ rfl rfl) (s.takeId_warp _ _).1
  refine congrArg Host.Outcome.next ((h.inbound _).trans ?_)
  rw [State.enumIn, if_neg (by simp [h.role]), State.enumMember, State.pass_forwards hf]

theorem State.Member.warpId (h : s.Member) (hv : s.flag R.WRP_ID_VALID = true) :
    s.warpId = some (s.get R.WRP_ID_ID) := by
  simp [State.warpId, h.not_reset, h.role, hv]

/-- What a member's ID is after a count within the ring. -/
theorem State.takeId_within_shows (h : s.Member) {c : Nat} (hc : c < 256) : let t := s.takeId s.warpId c
    t.get R.WRP_ID_ID = c ∧ t.get R.WRP_ID_VALID = 1 ∧ t.get R.WRP_STAT_NOID = 0
    ∧ (s.flag R.WRP_ID_VALID = true → s.get R.WRP_ID_ID ≠ c → t.flag R.WRP_STAT_IDCHG = true ∧ t.warp.bufs = []) := by
  obtain ⟨hid, hvalid, hnoid⟩ := s.idTaken_shows hc
  dsimp only
  rw [State.takeId_within h _ hc]
  split
  case isTrue =>
    refine ⟨?_, ?_, ?_, fun _ _ => (s.idTaken c).idChanged_shows⟩
    all_goals rw [State.get_idChanged _ rfl rfl]; assumption
  case isFalse he =>
    refine ⟨hid, hvalid, hnoid, fun hv hne => absurd ?_ he⟩
    simp [h.warpId hv, hne]

theorem State.idRefused_shows (s : State) :
    s.idRefused.get R.WRP_STAT_NOID = 1 ∧ s.idRefused.get R.WRP_ID_VALID = 0 :=
  ⟨(State.get_set_apart _ rfl 0).trans (State.get_set ..), State.get_set ..⟩

theorem exec_warpEnumFrame_own (h : s.Node0) (n : BitVec 9) {tag : BitVec 7} {dev : BitVec 48}
    (ht : s.warp.enumTag = some tag) (hd : dev.toNat = s.devLow) :
    exec (.warpEnumFrame n tag dev) s = .next (s.enumBack n.toNat) := by
  refine congrArg Host.Outcome.next ((h.inbound _).trans ?_)
  rw [State.enumIn, if_pos (by simp [h.role, h.leads]), if_pos ⟨ht, hd⟩]

/-- A second node 0 has been seen. -/
def State.dualSeen (s : State) : State := (s.set R.WRP_STAT_DUALM 1).raise 127

/-- The node's own number in a contest of two nodes 0: its device ID, then its TAG. -/
def State.enumNumber (s : State) : Nat := s.devLow * 128 + (s.warp.enumTag.map BitVec.toNat).getD 0

theorem exec_warpEnumFrame_foreign (h : s.Node0) (n : BitVec 9) {tag : BitVec 7} {dev : BitVec 48}
    (hf : ¬ (s.warp.enumTag = some tag ∧ dev.toNat = s.devLow)) : exec (.warpEnumFrame n tag dev) s =
      .next (if dev.toNat * 128 + tag.toNat < s.enumNumber then s.dualSeen.demote.enumMember (some 0) n tag dev
        else s.dualSeen) := by
  refine congrArg Host.Outcome.next ((h.inbound _).trans ?_)
  rw [State.enumIn, if_pos (by simp [h.role, h.leads]), if_neg hf]
  rfl

theorem State.dualSeen_warp (s : State) : s.dualSeen.warp = s.warp := State.raise_warp ..

theorem State.get_dualSeen (s : State) {f : Fld} (hf : f.pd = 9) (h : R.WRP_STAT_DUALM.apart f = true) :
    s.dualSeen.get f = s.get f :=
  (State.get_raise_apart _ _ (by simp [hf])).trans (State.get_set_apart s h 1)

theorem State.dualSeen_dualm (s : State) : s.dualSeen.get R.WRP_STAT_DUALM = 1 :=
  (State.get_raise_apart _ _ (by decide)).trans (State.get_set ..)

theorem State.demote_regs (s : State) :
    RegsOnly (fun f => f ∈ [R.WRP_STAT_TIMELOCK, R.WRP_STAT_RINGOPEN, R.WRP_STAT_TOOMANY]) s s.demote :=
  (((RegsOnly.refl _ s).set_listed (by decide) _).set_listed (by decide) _).set_listed (by decide) _

theorem State.demote_shows (s : State) : s.demote.warp.demoted = true ∧ s.demote.warp.OwnsMemberFrames :=
  ⟨rfl, fun _ hf => (List.mem_filter.mp hf).2⟩

/-- Node 0 that meets a smaller one forwards its ENUM frame as a member. -/
theorem State.enumMember_demoted (h : s.Node0) (n : BitVec 9) (tag : BitVec 7) (dev : BitVec 48) :
    let t := s.dualSeen.demote.enumMember (some 0) n tag dev
    t.get R.WRP_STAT_DUALM = 1 ∧ t.warp.demoted = true ∧ t.isMaster = false ∧ t.warp.OwnsMemberFrames := by
  let u := s.dualSeen.demote.takeId (some 0) n.toNat
  obtain ⟨keeps, owns⟩ := s.dualSeen.demote.takeId_warp (some 0) n.toNat
  obtain ⟨demoted, own⟩ := s.dualSeen.demote_shows
  have hdem : u.warp.demoted = true := keeps.trans demoted
  have role : u.isMaster = false := by simp [State.isMaster, hdem]
  have link : u.flag R.WRP_STAT_LINKDOWN = false := by
    rw [State.flag_congr ((State.get_takeId _ _ _ rfl rfl).trans ((State.demote_regs _).get_apart rfl)),
      State.flag_congr (s.get_dualSeen rfl rfl), h.link]
  have dualm : u.get R.WRP_STAT_DUALM = 1 :=
    (State.get_takeId _ _ _ rfl rfl).trans (((State.demote_regs _).get_apart rfl).trans s.dualSeen_dualm)
  have forwards : u.originates = false := by simp [State.originates, link, role]
  dsimp only
  rw [State.enumMember, State.pass_forwards forwards]
  exact ⟨dualm, hdem, role, owns own⟩

/-! ### Calibration (R149) -/

/-- The member has added its trim, and keeps its part and its forwarding latency. -/
def State.measured (s : State) (part x : BitVec 32) : State :=
  (s.set R.WRP_FWD x.toNat).wrp fun w => { w with part := part.toNat }

theorem State.measured_regs (s : State) (part x : BitVec 32) :
    RegsOnly (fun f => f = R.WRP_FWD) s (s.measured part x) := RegsOnly.of_set s _ _

theorem exec_warpCalMeasureFrame_member (h : s.Member) (num : BitVec 16) (acc x : BitVec 32) :
    let part := acc + BitVec.ofInt 32 (16 * s.gets R.WRP_LINKTRIM)
    exec (.warpCalMeasureFrame num acc x) s = .next ((s.measured part x).forwarded (.calMeasure num (part + x))) := by
  intro part
  have hf : (s.measured part x).originates = false :=
    h.forwards_of (s.measured_regs part x _ (by decide)) (s.measured_regs part x _ (by decide)) rfl
  refine congrArg Host.Outcome.next ((h.inbound _).trans ?_)
  rw [State.measureIn, if_neg (by simp [h.role]), h.not_reset]
  exact State.pass_forwards hf _

/-- The member has LBAR and the node count. -/
def State.resultTaken (s : State) (lbar : BitVec 32) (n : BitVec 16) : State :=
  (s.set R.WRP_LBAR lbar.toNat).set R.WRP_NODES n.toNat

/-- The member has its delay. -/
def State.delayTaken (s : State) (lbar : BitVec 32) : State :=
  s.set R.WRP_DELAY (s.get R.WRP_ID_ID * lbar.toNat + s.warp.part)

theorem State.get_resultTaken (s : State) (lbar : BitVec 32) (n : BitVec 16) {f : Fld} (hl : R.WRP_LBAR.apart f = true)
    (hn : R.WRP_NODES.apart f = true) : (s.resultTaken lbar n).get f = s.get f :=
  (State.get_set_apart _ hn _).trans (State.get_set_apart s hl _)

theorem exec_warpCalResultFrame_member (h : s.Member) (hv : s.flag R.WRP_ID_VALID = true) (num : BitVec 16)
    (lbar : BitVec 32) (n : BitVec 16) : exec (.warpCalResultFrame num lbar n) s =
      .next (((s.resultTaken lbar n).delayTaken lbar).forwarded (.calResult num lbar n)) := by
  have hv' : (s.resultTaken lbar n).flag R.WRP_ID_VALID = true :=
    (State.flag_congr (s.get_resultTaken lbar n rfl rfl)).trans hv
  have hf : ((s.resultTaken lbar n).delayTaken lbar).originates = false :=
    h.forwards_of ((State.get_set_apart _ rfl _).trans (s.get_resultTaken lbar n rfl rfl))
      ((State.get_set_apart _ rfl _).trans (s.get_resultTaken lbar n rfl rfl)) rfl
  refine congrArg Host.Outcome.next ((h.inbound _).trans ?_)
  rw [State.resultIn, if_neg (by simp [h.role]), h.not_reset, ← State.pass_forwards hf]
  exact congrArg (State.pass · _) (if_pos hv')

theorem State.delayTaken_shows (s : State) (lbar : BitVec 32) (n : BitVec 16) :
    let t := (s.resultTaken lbar n).delayTaken lbar
    t.get R.WRP_LBAR = lbar.toNat ∧ t.get R.WRP_NODES = n.toNat % 2 ^ 9
    ∧ t.get R.WRP_DELAY = (s.get R.WRP_ID_ID * lbar.toNat + s.warp.part) % 2 ^ 32 := by
  have bar : (s.set R.WRP_LBAR lbar.toNat).get R.WRP_LBAR = lbar.toNat := State.get_set_of_lt s lbar.isLt
  refine ⟨(State.get_set_apart _ rfl _).trans ((State.get_set_apart _ rfl _).trans bar),
    (State.get_set_apart _ rfl _).trans (State.get_set ..), ?_⟩
  rw [State.delayTaken, s.get_resultTaken lbar n rfl rfl]
  exact State.get_set ..

theorem State.calDue_node0 (h9 : s.on 9 = true) (hm : s.isMaster = true) (hb : s.inBypass = false) :
    s.calDue = s.startCal := by
  simp [State.calDue, h9, hm, hb]

theorem exec_warpCalibrationRetry (hc : s.warp.cal = none) : exec .warpCalibrationRetry s = .next s.calDue := by
  change Host.Outcome.next (if s.warp.cal.isNone then s.calDue else s) = _
  rw [hc]
  rfl

/-! ### BYPASS frames (R157, R159, R160) -/

theorem State.bypassIn_member (h : s.Member) (sub : BitVec 5) (node : BitVec 8) (f : State → State) :
    s.bypassIn sub node f = s.pass (.bypass sub node) := by
  rw [State.bypassIn, if_neg (by simp [h.role])]

theorem State.bypassIn_node0 (h : s.Node0) (sub : BitVec 5) (node : BitVec 8) (f : State → State) :
    s.bypassIn sub node f = f s := by
  rw [State.bypassIn, if_pos (by simp [h.role, h.leads])]

theorem exec_warpBypassResetFrame_member (h : s.Member) (node : BitVec 8) : exec (.warpBypassResetFrame node) s = .next
    (if s.warpId = some node.toNat ∧ s.flag R.WRP_CFG_RRSTEN = true then (s.pass (.bypass 4 node)).askReset 9
     else s.pass (.bypass 4 node)) := by
  refine congrArg Host.Outcome.next ((h.inbound _).trans ?_)
  dsimp only
  rw [State.bypassIn_member h, h.role, h.not_reset]
  simp

theorem exec_warpBypassResetFrame_node0 (h : s.Node0) (node : BitVec 8) :
    exec (.warpBypassResetFrame node) s = .next s := by
  refine congrArg Host.Outcome.next ((h.inbound _).trans ?_)
  dsimp only
  rw [State.bypassIn_node0 h, h.role]
  rfl

theorem State.devLow_congr (s : State) {t : State} (h : ∀ f : Fld, f.pd = 0 → t.get f = s.get f) :
    t.devLow = s.devLow := by
  rw [State.devLow, State.devLow, h (R.SYS_DEVID 0) rfl, h (R.SYS_DEVID 1) rfl]

/-- An enumeration puts its ENUM frame with a TAG first, and keeps what else the node holds. -/
theorem State.startEnum_warp (s : State) : ∃ tag, s.startEnum.warp = { s.warp with
    own := .enum 1 tag (BitVec.ofNat 48 s.devLow) :: s.warp.own.filter fun f => !isEnumFrame f } := by
  unfold State.startEnum
  cases s.custody.drbg with
  | false => exact ⟨_, rfl⟩
  | true =>
    have drawn : (s.drbgBytes 1 false).2.warp = s.warp := (State.drbgBytes_moves s 1 false).same .warp (by decide)
    have dev := s.devLow_congr ((State.drbgBytes_moves s 1 false).same (.pd 0) (by decide))
    rw [← drawn, ← dev]
    generalize s.drbgBytes 1 false = a
    exact ⟨_, rfl⟩

/-- Node 0 notes that a node is in bypass. -/
def State.bypassNoted (s : State) (node : Nat) : State := s.wrp fun w => { w with bypassed := insOnce w.bypassed node }

/-- Node 0 notes that a node is out of bypass. -/
def State.bypassLeft (s : State) (node : Nat) : State := s.wrp fun w => { w with bypassed := without w.bypassed node }

/-! ### Insertion (R147) -/

theorem State.insertable_first {f : Frame} (h : s.warp.own.find? isFirstFrame = some f) : s.insertable = some f := by
  rw [State.insertable, h]

theorem State.insertable_data (h : ∀ f ∈ s.warp.own, isFirstFrame f = false) :
    s.insertable = if 3 ≤ s.warp.passed then s.warp.own.head? else none := by
  rw [State.insertable, List.find?_eq_none.mpr (by simpa using h)]

/-- The member puts `f` in place of the EMPTY frame. -/
def State.inserted (s : State) (f : Frame) : State := (s.forwarded f).wrp fun w => { w with own := w.own.erase f }

/-- What the member does with an EMPTY frame, by the frame it has to insert: DATA begins the count of superframes anew. -/
def State.emptyTaken (s : State) : Option Frame → State
  | none => s.pass .empty
  | some f => if isFirstFrame f then s.inserted f else (s.inserted f).wrp fun w => { w with passed := 0 }

theorem exec_warpEmptyFrame (h : s.Member) : exec .warpEmptyFrame s = .next (s.emptyTaken s.insertable) := by
  refine congrArg Host.Outcome.next ((h.inbound _).trans ?_)
  rw [State.emptyIn, h.forwards, if_neg Bool.false_ne_true]
  cases s.insertable with
  | none => rfl
  | some f =>
    dsimp only
    rw [State.pass_forwards h.forwards]
    rfl

theorem exec_warpEmptyFrame_first (h : s.Member) {f : Frame} (hf : s.warp.own.find? isFirstFrame = some f) :
    exec .warpEmptyFrame s = .next (s.inserted f) := by
  rw [exec_warpEmptyFrame h, State.insertable_first hf]
  exact congrArg _ (if_pos (List.find?_some hf))

/-- DATA waits until three superframes have passed since the last. -/
theorem exec_warpEmptyFrame_passes (h : s.Member) (hn : ∀ f ∈ s.warp.own, isFirstFrame f = false)
    (hp : s.warp.passed < 3 ∨ s.warp.own = []) : exec .warpEmptyFrame s = .next (s.pass .empty) := by
  have nothing : (if 3 ≤ s.warp.passed then s.warp.own.head? else none) = none := by
    rcases hp with hp | hp
    · exact if_neg (by omega)
    · simp [hp]
  rw [exec_warpEmptyFrame h, State.insertable_data hn, nothing, State.emptyTaken]

theorem exec_warpEmptyFrame_data (h : s.Member) (hn : ∀ f ∈ s.warp.own, isFirstFrame f = false) {f : Frame}
    {r : List Frame} (ho : s.warp.own = f :: r) (hp : 3 ≤ s.warp.passed) :
    exec .warpEmptyFrame s = .next ((s.inserted f).wrp fun w => { w with passed := 0 }) := by
  have hf : isFirstFrame f = false := hn f (ho ▸ List.mem_cons_self)
  rw [exec_warpEmptyFrame h, State.insertable_data hn, if_pos hp, ho]
  exact congrArg _ (if_neg (by simp [hf]))

/-! ### Frames that fail (R146, R147, R161) -/

theorem State.countBad_member (h : s.Member) : s.countBad = s.inc R.WRP_CRCCNT := by
  rw [State.countBad, h.not_reset]
  rfl

/-- The member counts the frame, and sends EMPTY in its place. -/
def State.discarded (s : State) : State := (s.inc R.WRP_CRCCNT).forwarded .empty

theorem State.countBad_pass (h : s.Member) : s.countBad.pass .empty = s.discarded := by
  rw [State.countBad_member h, State.pass_forwards]
  · rfl
  · exact h.forwards_of (State.get_inc_apart s rfl) (State.get_inc_apart s rfl) rfl

theorem State.discarded_count (s : State) : s.discarded.get R.WRP_CRCCNT = min 0xFFFF (s.get R.WRP_CRCCNT + 1) :=
  State.get_inc s R.WRP_CRCCNT

/-- The times of the CRC failures within 1 ms, this one first. -/
def State.crcTimes (s : State) : List Nat := s.time.tb.toNat :: s.warp.crc.filter fun x =>
  decide (x ≤ s.time.tb.toNat) && decide (s.time.tb.toNat < x + 125000)

/-- The failures within 1 ms are kept. -/
def State.crcKept (s : State) (l : List Nat) : State := s.wrp fun w => { w with crc := l }

theorem exec_warpCrcFailure (h : s.Member) : exec .warpCrcFailure s = .next (if 16 < s.crcTimes.length then
    (s.discarded.crcKept []).raise 125 else s.discarded.crcKept s.crcTimes) := by
  refine congrArg Host.Outcome.next ((h.inbound _).trans ?_)
  rw [State.crcFail, State.countBad_pass h]
  rfl

theorem State.crcRaised_shows (s : State) : let t := (s.discarded.crcKept []).raise 125
    t.get R.WRP_CRCCNT = min 0xFFFF (s.get R.WRP_CRCCNT + 1) ∧ t.warp.tx = .empty ∧ t.warp.crc = []
    ∧ (s.on 6 = true → t.flag (R.ICU_STS_PEND 125) = true) := by
  refine ⟨(State.get_raise_apart _ _ (by decide)).trans s.discarded_count, ?_, ?_, fun h6 => ?_⟩
  · exact congrArg Warp.tx (State.raise_warp ..)
  · exact congrArg Warp.crc (State.raise_warp ..)
  · have hon : (s.discarded.crcKept []).on 6 = true := (State.on_congr (State.get_inc_apart s rfl)).trans h6
    rw [State.flag, State.get_raise_pend _ (by decide) (by decide) (by decide) hon]
    rfl

/-! ### The link and the ring (R159, R160) -/

/-- The link is lost. -/
def State.linkLost (s : State) : State := (s.set R.WRP_STAT_LINKDOWN 1).raise 120

theorem exec_warpLinkDown (h9 : s.on 9 = true) (hl : s.flag R.WRP_STAT_LINKDOWN = false) : exec .warpLinkDown s =
    .next (s.linkLost.queueFrame (.bypass 2 (BitVec.ofNat 8 (s.linkLost.warp.lastId.getD 0)))) := by
  change Host.Outcome.next (if !s.on 9 || s.flag R.WRP_STAT_LINKDOWN then s
    else s.linkLost.queueFrame (.bypass 2 (BitVec.ofNat 8 (s.linkLost.warp.lastId.getD 0)))) = _
  rw [if_neg (by simp [h9, hl])]

theorem State.linkLost_warp (s : State) : s.linkLost.warp = s.warp := State.raise_warp ..

theorem State.linkLost_flag (s : State) : s.linkLost.flag R.WRP_STAT_LINKDOWN = true :=
  (State.flag_congr (State.get_raise_apart _ _ (by decide))).trans
    (State.flag_setB s (f := R.WRP_STAT_LINKDOWN) rfl true)

/-- The link is back. -/
def State.linkBack (s : State) : State := s.set R.WRP_STAT_LINKDOWN 0

theorem exec_warpLinkRestored (h9 : s.on 9 = true) (hl : s.flag R.WRP_STAT_LINKDOWN = true) : exec .warpLinkRestored s =
    .next (s.linkBack.queueFrame (.bypass 3 (BitVec.ofNat 8 (s.warp.lastId.getD 0)))) := by
  change Host.Outcome.next (if !s.on 9 || !s.flag R.WRP_STAT_LINKDOWN then s
    else s.linkBack.queueFrame (.bypass 3 (BitVec.ofNat 8 (s.warp.lastId.getD 0)))) = _
  rw [if_neg (by simp [h9, hl])]

theorem exec_warpRingOpen (h9 : s.on 9 = true) (hm : s.isMaster = true) (ho : s.flag R.WRP_STAT_RINGOPEN = false) :
    exec .warpRingOpen s = .next ((s.set R.WRP_STAT_RINGOPEN 1).raise 122) := by
  change Host.Outcome.next (if !s.on 9 || !s.isMaster || s.flag R.WRP_STAT_RINGOPEN then s
    else (s.set R.WRP_STAT_RINGOPEN 1).raise 122) = _
  rw [if_neg (by simp [h9, hm, ho])]

end

/-- Settles O32: each clause is one frame or one event of the ring, of which the lemmas above say what it does. -/
theorem warpRing : Obligations.WarpRing := by
  unfold Obligations.WarpRing
  refine ⟨fun n tag dev s h => ?_, fun n tag dev s h ht hd => ?_, fun n tag dev s h hf => ?_, fun num acc x s h => ?_,
    fun num lbar n s h hv => ?_, fun s h9 hm hb => ?_, fun node s h => ?_, fun node s h => ?_, fun f s h hf => ?_,
    fun s h hn => ?_, fun ty x s h => ?_, fun s h => ?_, fun s h9 => ?_⟩
  · refine ⟨_, exec_warpEnumFrame_member h n tag dev, rfl, fun hn => State.takeId_within_shows h hn, fun hn => ?_⟩
    rw [State.takeId_beyond h _ hn]
    exact s.idRefused_shows
  · exact ⟨_, exec_warpEnumFrame_own h n ht hd, rfl, rfl, State.flag_setB _ rfl _, rfl⟩
  · refine ⟨_, exec_warpEnumFrame_foreign h n hf, ?_⟩
    by_cases hlt : dev.toNat * 128 + tag.toNat < s.enumNumber
    · obtain ⟨dualm, demoted, role, own⟩ := State.enumMember_demoted h n tag dev
      rw [if_pos hlt]
      exact ⟨dualm, fun _ => ⟨demoted, role, own⟩, fun hle => absurd hlt (Nat.not_lt.mpr hle)⟩
    · rw [if_neg hlt]
      exact ⟨s.dualSeen_dualm, fun hlt' => absurd hlt' hlt, fun _ => s.dualSeen_warp⟩
  · exact ⟨_, exec_warpCalMeasureFrame_member h num acc x, rfl, State.get_set_of_lt s x.isLt, rfl,
      s.measured_regs (acc + BitVec.ofInt 32 (16 * s.gets R.WRP_LINKTRIM)) x⟩
  · exact ⟨_, exec_warpCalResultFrame_member h hv num lbar n, rfl, s.delayTaken_shows lbar n⟩
  · have due := State.calDue_node0 h9 hm hb
    exact ⟨congrArg _ due, fun hc => (exec_warpCalibrationRetry hc).trans (congrArg _ due), rfl⟩
  · refine ⟨?_, ?_, ?_, ?_, exec_warpBypassResetFrame_member h node⟩
    all_goals exact congrArg Host.Outcome.next ((h.inbound _).trans (State.bypassIn_member h ..))
  · obtain ⟨tag, hw⟩ := (s.bypassLeft node.toNat).startEnum_warp
    refine ⟨⟨s.bypassNoted node.toNat, ?_, mem_insOnce .., (State.wrp_moves ..).onlyIn [.warp] (by decide)⟩,
      ⟨(s.bypassLeft node.toNat).startEnum, ?_, ?_, tag, ?_⟩, ?_, ?_, exec_warpBypassResetFrame_node0 h node⟩
    · exact congrArg Host.Outcome.next ((h.inbound _).trans (State.bypassIn_node0 h ..))
    · exact congrArg Host.Outcome.next ((h.inbound _).trans (State.bypassIn_node0 h ..))
    · rw [hw]
      exact not_mem_without s.warp.bypassed _
    · rw [hw]
      exact List.mem_cons_self
    · exact congrArg Host.Outcome.next ((h.inbound _).trans (State.bypassIn_node0 h ..))
    · exact congrArg Host.Outcome.next ((h.inbound _).trans (State.bypassIn_node0 h ..))
  · exact ⟨_, exec_warpEmptyFrame_first h hf, rfl, rfl⟩
  · exact ⟨exec_warpEmptyFrame_passes h hn, fun f r ho hp => ⟨_, exec_warpEmptyFrame_data h hn ho hp, rfl,
      (congrArg (List.erase · f) ho).trans (List.erase_cons_head ..), rfl⟩⟩
  · exact ⟨s.discarded, congrArg Host.Outcome.next ((h.inbound _).trans (State.countBad_pass h)),
      s.discarded_count, rfl, RegsOnly.of_set s _ _⟩
  · by_cases hl : 16 < s.crcTimes.length
    · obtain ⟨count, tx, crc, pend⟩ := s.crcRaised_shows
      exact ⟨_, (exec_warpCrcFailure h).trans (congrArg _ (if_pos hl)), count, tx,
        fun hle => absurd hl (Nat.not_lt.mpr hle), fun _ => ⟨crc, pend⟩⟩
    · exact ⟨_, (exec_warpCrcFailure h).trans (congrArg _ (if_neg hl)), s.discarded_count, rfl, fun _ => ⟨rfl, rfl⟩,
        fun hl' => absurd hl' hl⟩
  · refine ⟨fun hl => ?_, fun hl => ?_, fun hm ho => exec_warpRingOpen h9 hm ho⟩
    · have hexec := exec_warpLinkDown h9 hl
      rw [s.linkLost_warp] at hexec
      refine ⟨_, hexec, s.linkLost_flag, ?_, congrArg (Warp.own · ++ [_]) s.linkLost_warp⟩
      exact (congrArg (· || _) s.linkLost_flag).trans (Bool.true_or _)
    · exact ⟨_, exec_warpLinkRestored h9 hl, State.flag_setB s (f := R.WRP_STAT_LINKDOWN) rfl false, rfl,
        RegsOnly.of_set s _ _⟩

end Sys2Proof.Machine
end

section
/-!
PROOFS of the statement on the voter of the Ply (O33), with the rules it rests on: what an advisory and a look at the
resyncs of the last hour leave unchanged, what a mismatch records, and how an unrecoverable fault holds the strands.
-/

namespace Sys2Proof.Machine

/-! ### What an advisory and the hour's window leave unchanged (R174, R574) -/

/-- A cause of the advisory changes two fields of the health frame alone. -/
theorem State.get_advise_elsewhere (s : State) (b : Nat) {f : Fld} (hc : R.HLT_CAUSE.apart f = true)
    (hs : R.HLT_STAT_SVCREQ.apart f = true) : (s.advise b).get f = s.get f := by
  have cause : (s.setBit R.HLT_CAUSE b).get f = s.get f := State.get_setBit_apart s hc b
  unfold State.advise
  split
  · rfl
  · dsimp only
    split
    · exact cause
    · exact (State.get_set_apart _ hs 1).trans cause

@[simp] theorem State.advise_ply (s : State) (b : Nat) : (s.advise b).ply = s.ply :=
  (State.advise_moves s b).same .ply (by decide)

/-- The resyncs and faults of the last hour alone are kept. -/
def State.hourKept (s : State) : State :=
  { s with ply := { s.ply with hour := s.ply.hour.filter fun t => decide (s.time.rtc.toNat ≤ t + 3600000000) } }

theorem State.resyncWindow_cases (s : State) : s.resyncWindow = s.hourKept.advise 0 ∨ s.resyncWindow = s.hourKept :=
  ite_eq_or_eq ..

theorem State.get_resyncWindow (s : State) {f : Fld} (hc : R.HLT_CAUSE.apart f = true)
    (hs : R.HLT_STAT_SVCREQ.apart f = true) : s.resyncWindow.get f = s.get f := by
  rcases s.resyncWindow_cases with h | h <;> rw [h]
  · exact State.get_advise_elsewhere s.hourKept 0 hc hs
  · rfl

theorem State.resyncWindow_ply (s : State) : s.resyncWindow.ply = s.hourKept.ply := by
  rcases s.resyncWindow_cases with h | h <;> rw [h]
  exact State.advise_ply ..

/-! ### The record of a mismatch (R172) -/

section
variable {s : State}

/-- PLY_LASTRS holds both words of TB. -/
theorem State.lastrs_markRs (s : State) :
    s.markRs.get R.PLY_LASTRS_LO + 2 ^ 32 * s.markRs.get R.PLY_LASTRS_HI = s.time.tb.toNat := by
  have htb : s.time.tb.toNat < 2 ^ 64 := s.time.tb.isLt
  have lo : s.markRs.get R.PLY_LASTRS_LO = s.time.tb.toNat % 2 ^ 32 :=
    (State.get_set_apart _ (by decide) _).trans (State.get_set ..)
  have hi : s.markRs.get R.PLY_LASTRS_HI = s.time.tb.toNat / 2 ^ 32 % 2 ^ 32 := State.get_set ..
  rw [lo, hi]
  omega

theorem State.get_markRs (s : State) {f : Fld} (hl : R.PLY_LASTRS_LO.apart f = true)
    (hh : R.PLY_LASTRS_HI.apart f = true) : s.markRs.get f = s.get f := by
  rw [State.markRs, State.get_set_apart _ hh, State.get_set_apart _ hl]

/-- A mismatch that names no strand, on the classes `cl`, is recorded. -/
def State.mismatchSeen (s : State) (cl : Nat) : State :=
  ((s.set R.PLY_STATUS_MISM 1).set R.PLY_MISCLASS cl).markRs.raise 148

theorem State.mismatchSeen_shows (s : State) {cl : Nat} (h : cl < 2 ^ 7) : let u := s.mismatchSeen cl
    u.flag R.PLY_STATUS_MISM = true ∧ u.get R.PLY_MISCLASS = cl
    ∧ u.get R.PLY_LASTRS_LO + 2 ^ 32 * u.get R.PLY_LASTRS_HI = s.time.tb.toNat ∧ u.ply = s.ply := by
  have raised : ∀ {f : Fld}, f.pd ≠ 6 → (s.mismatchSeen cl).get f =
      ((s.set R.PLY_STATUS_MISM 1).set R.PLY_MISCLASS cl).markRs.get f := State.get_raise_apart _ 148
  refine ⟨?_, ?_, ?_, State.raise_ply ..⟩
  · have mism : (s.mismatchSeen cl).get R.PLY_STATUS_MISM = 1 := by
      rw [raised (by decide), State.get_markRs _ (by decide) (by decide), State.get_set_apart _ (by decide),
        State.get_set]
      rfl
    rw [State.flag, mism]
    rfl
  · rw [raised (by decide), State.get_markRs _ (by decide) (by decide), State.get_set_of_lt _ h]
  · rw [raised (by decide), raised (by decide), State.lastrs_markRs]
    rfl

/-- The pair without strand `k` is one of the three pairs. -/
theorem pairBut_lt {n : Nat} (k : Nat) {ab ac bc : Nat} (hab : ab < n) (hac : ac < n) (hbc : bc < n) :
    pairBut k ab ac bc < n := by
  unfold pairBut
  split
  · exact hbc
  · split <;> assumption

/-! ### A mismatch that is unrecoverable (R172, R175, R181, R182) -/

theorem State.mismatch_pair (hm : s.plyMode = 1) {ab : Nat} (h : ab ≠ 0) (ac bc : Nat) :
    s.mismatch ab ac bc = ((s.mismatchSeen ab).plyFault 3).resyncWindow := by
  simp only [State.mismatch, hm, if_neg h]
  rfl

theorem State.mismatch_retired (hm : s.plyMode = 0) (hr : s.get R.PLY_STATUS_RETIRED ≠ 3) {ab ac bc : Nat}
    (h : pairBut (s.get R.PLY_STATUS_RETIRED) ab ac bc ≠ 0) : s.mismatch ab ac bc =
      ((s.mismatchSeen (pairBut (s.get R.PLY_STATUS_RETIRED) ab ac bc)).plyFault 3).resyncWindow := by
  simp only [State.mismatch, hm, if_pos hr, if_neg h]
  rfl

theorem State.mismatch_resync (hm : s.plyMode = 0) (hr : s.get R.PLY_STATUS_RETIRED = 3)
    (hy : s.flag R.PLY_STATUS_RESYNC = true) {ab ac bc : Nat} (h : pairBut (s.get R.PLY_STATUS_ODD) ab ac bc ≠ 0) :
    s.mismatch ab ac bc = ((s.mismatchSeen (pairBut (s.get R.PLY_STATUS_ODD) ab ac bc)).plyFault 1).resyncWindow := by
  simp only [State.mismatch, hm, if_neg (not_not.mpr hr), if_pos hy, if_neg h]
  rfl

/-- In TRIPLE, with no strand retired and no resync, the pairs that differ decide which strand is odd. -/
theorem State.mismatch_triple (hm : s.plyMode = 0) (hr : s.get R.PLY_STATUS_RETIRED = 3)
    (hy : s.flag R.PLY_STATUS_RESYNC = false) (ab ac bc : Nat) : s.mismatch ab ac bc =
      if ab = 0 ∧ ac = 0 ∧ bc = 0 then s
      else if bc = 0 then s.oddStrand 0 (ab ||| ac)
      else if ac = 0 then s.oddStrand 1 (ab ||| bc)
      else if ab = 0 then s.oddStrand 2 (ac ||| bc)
      else ((s.mismatchSeen (ab ||| ac ||| bc)).plyFault 2).resyncWindow := by
  simp only [State.mismatch, hm, if_neg (not_not.mpr hr), hy]
  rfl

theorem exec_plyMismatch (h : s.plyRuns = true) (ab ac bc : BitVec 7) :
    exec (.plyMismatch ab ac bc) s = .next (s.mismatch ab.toNat ac.toNat bc.toNat) :=
  congrArg Host.Outcome.next (if_pos h)

/-- The four ways in which a mismatch names no strand, and the classes and cause each records (R182). -/
theorem State.mismatch_unrecoverable (x y z : BitVec 7) {cause cl : Nat}
    (h : s.plyMode = 1 ∧ x ≠ 0 ∧ cause = 3 ∧ cl = x.toNat
      ∨ s.plyMode = 0 ∧ s.get R.PLY_STATUS_RETIRED ≠ 3 ∧ cl ≠ 0 ∧ cause = 3
          ∧ cl = pairBut (s.get R.PLY_STATUS_RETIRED) x.toNat y.toNat z.toNat
      ∨ s.plyMode = 0 ∧ s.get R.PLY_STATUS_RETIRED = 3 ∧ s.flag R.PLY_STATUS_RESYNC = true ∧ cl ≠ 0 ∧ cause = 1
          ∧ cl = pairBut (s.get R.PLY_STATUS_ODD) x.toNat y.toNat z.toNat
      ∨ s.plyMode = 0 ∧ s.get R.PLY_STATUS_RETIRED = 3 ∧ s.flag R.PLY_STATUS_RESYNC = false ∧ x ≠ 0 ∧ y ≠ 0 ∧ z ≠ 0
          ∧ cause = 2 ∧ cl = (x ||| y ||| z).toNat) :
    cl < 2 ^ 7 ∧ s.mismatch x.toNat y.toNat z.toNat = ((s.mismatchSeen cl).plyFault cause).resyncWindow := by
  rcases h with ⟨hm, hx, rfl, rfl⟩ | ⟨hm, hr, hcl, rfl, rfl⟩ | ⟨hm, hr, hy, hcl, rfl, rfl⟩
    | ⟨hm, hr, hy, hx, hy0, hz, rfl, rfl⟩
  · exact ⟨x.isLt, State.mismatch_pair hm (BitVec.toNat_ne.mp hx) ..⟩
  · exact ⟨pairBut_lt _ x.isLt y.isLt z.isLt, State.mismatch_retired hm hr hcl⟩
  · exact ⟨pairBut_lt _ x.isLt y.isLt z.isLt, State.mismatch_resync hm hr hy hcl⟩
  · refine ⟨(x ||| y ||| z).isLt, ?_⟩
    have ab : x.toNat ≠ 0 := BitVec.toNat_ne.mp hx
    have ac : y.toNat ≠ 0 := BitVec.toNat_ne.mp hy0
    have bc : z.toNat ≠ 0 := BitVec.toNat_ne.mp hz
    rw [State.mismatch_triple hm hr hy, if_neg fun e => ab e.1, if_neg bc, if_neg ac, if_neg ab, BitVec.toNat_or,
      BitVec.toNat_or]

/-! ### An odd strand (R172, R175) -/

/-- The Ply's own part of the state replaced. -/
def State.withPly (s : State) (p : PlySt) : State := { s with ply := p }

theorem State.get_withPly (s : State) (p : PlySt) (f : Fld) : (s.withPly p).get f = s.get f := rfl

/-- The mismatch edges of the last 10 ms among those of `p`, after one of strand `k` at this pick. -/
def State.oddEdges (s : State) (k : Nat) (p : PlySt) : List (Nat × Nat) :=
  (k, s.time.tb.toNat) :: p.odd.filter fun x => decide (s.time.tb.toNat ≤ x.2 + 1250000)

/-- The registers record strand `k` as odd on the classes `cl`. -/
def State.oddMarked (s : State) (k cl : Nat) : State :=
  (((s.set R.PLY_STATUS_MISM 1).set R.PLY_STATUS_ODD k).set R.PLY_MISCLASS cl).markRs.raise 148

/-- That record with its edge counted among those of 10 ms and of the hour. -/
def State.oddCounted (s : State) (k cl : Nat) : State :=
  let u := s.oddMarked k cl
  u.withPly { u.ply with odd := s.oddEdges k u.ply, copied := false, hour := u.time.rtc.toNat :: u.ply.hour }

/-- The hour's window has been looked at and the journal told. -/
def State.oddTold (s : State) (k cl : Nat) : State := (s.oddCounted k cl).resyncWindow.journal 174 [k, cl]

theorem State.oddStrand_eq (s : State) (k cl : Nat) : s.oddStrand k cl =
    if 4 ≤ ((s.oddEdges k s.ply).filter fun x => decide (x.1 = k)).length
    then ((s.oddTold k cl).set R.PLY_STATUS_RETIRED k).advise 1
    else ((s.oddTold k cl).set R.PLY_STATUS_RESYNC 1).raise 149 := by
  have hp : (s.oddMarked k cl).ply = s.ply := State.raise_ply ..
  rw [← hp]
  rfl

/-- The edges of strand `k` are the earlier ones and this one. -/
theorem State.oddEdges_count (s : State) (k : Nat) : ((s.oddEdges k s.ply).filter fun x => decide (x.1 = k)).length =
    (s.ply.odd.filter fun o => decide (s.time.tb.toNat ≤ o.2 + 1250000)).countP (fun o => decide (o.1 = k)) + 1 := by
  rw [← List.countP_eq_length_filter, State.oddEdges, List.countP_cons_of_pos (by simp)]

/-- The fields in which the record of an odd strand stands. -/
def oddFields : List Fld :=
  [R.PLY_STATUS_MISM, R.PLY_STATUS_ODD, R.PLY_MISCLASS, R.PLY_LASTRS_LO, R.PLY_LASTRS_HI]

theorem State.get_oddTold (s : State) (k cl : Nat) {f : Fld} (hf : f ∈ oddFields) : (s.oddTold k cl).get f =
    (((s.set R.PLY_STATUS_MISM 1).set R.PLY_STATUS_ODD k).set R.PLY_MISCLASS cl).markRs.get f := by
  have apart : R.HLT_CAUSE.apart f = true ∧ R.HLT_STAT_SVCREQ.apart f = true ∧ f.pd ≠ 6 := by
    revert f
    decide
  obtain ⟨hc, hs, h6⟩ := apart
  rw [State.oddTold, State.get_journal, State.get_resyncWindow _ hc hs, State.oddCounted, State.get_withPly,
    State.oddMarked, State.get_raise_apart _ _ h6]

theorem State.oddTold_copied (s : State) (k cl : Nat) : (s.oddTold k cl).ply.copied = false := by
  rw [State.oddTold, State.journal_ply, State.resyncWindow_ply]
  rfl

/-- What every odd strand leaves recorded, whether it is copied or retired. -/
structure State.RecordsOdd (s t : State) (k cl : Nat) : Prop where
  mism : t.flag R.PLY_STATUS_MISM = true
  odd : t.get R.PLY_STATUS_ODD = k
  classes : t.get R.PLY_MISCLASS = cl
  lastrs : t.get R.PLY_LASTRS_LO + 2 ^ 32 * t.get R.PLY_LASTRS_HI = s.time.tb.toNat

theorem State.oddTold_records (s : State) {k cl : Nat} (hk : k < 4) (hcl : cl < 2 ^ 7) {t : State}
    (ht : ∀ f ∈ oddFields, t.get f = (s.oddTold k cl).get f) : s.RecordsOdd t k cl := by
  have marked : ∀ f ∈ oddFields, t.get f = _ := fun f hf => (ht f hf).trans (s.get_oddTold k cl hf)
  have plain : ∀ f ∈ oddFields, R.PLY_LASTRS_LO.apart f = true → R.PLY_LASTRS_HI.apart f = true → t.get f =
      (((s.set R.PLY_STATUS_MISM 1).set R.PLY_STATUS_ODD k).set R.PLY_MISCLASS cl).get f :=
    fun f hf hl hh => (marked f hf).trans (State.get_markRs _ hl hh)
  refine ⟨?_, ?_, ?_, ?_⟩
  · have mism : t.get R.PLY_STATUS_MISM = 1 := by
      rw [plain _ (by decide) (by decide) (by decide), State.get_set_apart _ (by decide),
        State.get_set_apart _ (by decide), State.get_set]
      rfl
    rw [State.flag, mism]
    rfl
  · rw [plain _ (by decide) (by decide) (by decide), State.get_set_apart _ (by decide), State.get_set_of_lt _ hk]
  · rw [plain _ (by decide) (by decide) (by decide), State.get_set_of_lt _ hcl]
  · rw [marked _ (by decide), marked _ (by decide), State.lastrs_markRs]
    rfl

/-- At fewer than four edges within 10 ms the strand is copied. -/
theorem State.oddStrand_copies (s : State) {k cl : Nat} (hk : k < 4) (hcl : cl < 2 ^ 7)
    (h : ¬ 4 ≤ ((s.oddEdges k s.ply).filter fun x => decide (x.1 = k)).length) : s.RecordsOdd (s.oddStrand k cl) k cl
    ∧ (s.oddStrand k cl).get R.PLY_STATUS_RESYNC = 1 ∧ (s.oddStrand k cl).ply.copied = false := by
  rw [State.oddStrand_eq, if_neg h]
  refine ⟨s.oddTold_records hk hcl fun f hf => ?_, ?_, ?_⟩
  · have apart : R.PLY_STATUS_RESYNC.apart f = true ∧ f.pd ≠ 6 := by
      revert f
      decide
    rw [State.get_raise_apart _ _ apart.2, State.get_set_apart _ apart.1]
  · rw [State.get_raise_apart _ _ (by decide), State.get_set]
    rfl
  · rw [State.raise_ply, State.set_ply, State.oddTold_copied]

/-- At the fourth edge within 10 ms the strand is retired. -/
theorem State.oddStrand_retires (s : State) {k cl : Nat} (hk : k < 4) (hcl : cl < 2 ^ 7)
    (h : 4 ≤ ((s.oddEdges k s.ply).filter fun x => decide (x.1 = k)).length) : s.RecordsOdd (s.oddStrand k cl) k cl
    ∧ (s.oddStrand k cl).get R.PLY_STATUS_RETIRED = k ∧ (s.oddStrand k cl).bit R.HLT_CAUSE 1 = true := by
  rw [State.oddStrand_eq, if_pos h]
  refine ⟨s.oddTold_records hk hcl fun f hf => ?_, ?_, State.bit_advise _ (by decide)⟩
  · have apart : R.PLY_STATUS_RETIRED.apart f = true ∧ R.HLT_CAUSE.apart f = true
        ∧ R.HLT_STAT_SVCREQ.apart f = true := by
      revert f
      decide
    obtain ⟨hr, hc, hs⟩ := apart
    rw [State.get_advise_elsewhere _ _ hc hs, State.get_set_apart _ hr]
  · rw [State.get_advise_elsewhere _ _ (by decide) (by decide), State.get_set_of_lt _ hk]

/-- The cycle in which strand `k` alone differs, on the classes `x` and `y` of its two pairs. -/
theorem exec_plyMismatch_odd (h : s.plyRuns = true) (hm : s.plyMode = 0) (hr : s.get R.PLY_STATUS_RETIRED = 3)
    (hy : s.flag R.PLY_STATUS_RESYNC = false) (k : Fin 3) {x y : BitVec 7} (hx0 : x ≠ 0) (hy0 : y ≠ 0) :
    exec (if k = 0 then .plyMismatch x y 0 else if k = 1 then .plyMismatch x 0 y else .plyMismatch 0 x y) s
      = .next (s.oddStrand k (x ||| y).toNat) := by
  have hx : x.toNat ≠ 0 := BitVec.toNat_ne.mp hx0
  have hz : y.toNat ≠ 0 := BitVec.toNat_ne.mp hy0
  rw [BitVec.toNat_or]
  match k with
  | 0 | 1 | 2 =>
    refine (exec_plyMismatch h ..).trans (congrArg Host.Outcome.next ?_)
    rw [State.mismatch_triple hm hr hy]
    simp [hx, hz]

/-! ### An unrecoverable fault (R183) -/

/-- The fault of a cause counted, and every strand held. -/
def State.plyHeld (s : State) (cause : Nat) : State :=
  let u := ((s.set R.PLY_FAULT_CAUSE cause).inc R.PLY_FAULT_COUNT).journal 183 [cause, s.get R.PLY_MISCLASS]
  { u with
    core := u.core.map Core.hold
    ply := { u.ply with fault := true, hour := u.time.rtc.toNat :: u.ply.hour }
    wld := { u.wld with saved := none } }

theorem State.abandonEntry_none (h : s.pwr.entry = none) (reason : Nat) : s.abandonEntry reason = s := by
  rw [State.abandonEntry, h]
  rfl

theorem State.plyFault_continue (cause : Nat) (hf : s.ply.fault = false) (hu : s.flag R.PLY_CFG_UNREC = false)
    (he : s.pwr.entry = none) : s.plyFault cause =
      if s.crerus.alive then (s.plyHeld cause).quiesceStrands else s.plyHeld cause := by
  have unrec : (s.plyHeld cause).flag R.PLY_CFG_UNREC = false := by
    rw [← hu]
    exact State.flag_congr ((State.get_inc_apart _ (by decide)).trans (State.get_set_apart _ (by decide) _))
  simp only [State.plyFault, hf, State.abandonEntry_none he, Bool.false_eq_true, if_false]
  change (let u := if (s.plyHeld cause).flag R.PLY_CFG_UNREC = true then _ else s.plyHeld cause
    if u.crerus.alive then u.quiesceStrands else u) = _
  rw [unrec, if_neg Bool.false_ne_true]
  rfl

/-- One strand domain quiesces, where it is ON. -/
def State.strandQuiet (s : State) (d : Nat) : State :=
  if s.on d then { s.set (R.PWR_DOM d) 4 with pwr := { s.pwr with quiet := s.pwr.quiet ++ [(d, 0)] } } else s

theorem State.get_foldl_strandQuiet {f : Fld} : ∀ {l : List Nat} (s : State), (∀ d ∈ l, (R.PWR_DOM d).apart f = true) →
    (l.foldl State.strandQuiet s).get f = s.get f
  | [], _, _ => rfl
  | d :: l, s, h => by
    obtain ⟨hd, hl⟩ := List.forall_mem_cons.mp h
    rw [List.foldl_cons, State.get_foldl_strandQuiet _ hl, State.strandQuiet]
    split
    · exact State.get_set_apart s hd 4
    · rfl

/-- Quiescing the strand domains changes their states alone. -/
theorem State.get_quiesceStrands (s : State) {f : Fld} (h : ∀ d ∈ [3, 4, 5], (R.PWR_DOM d).apart f = true) :
    s.quiesceStrands.get f = s.get f := State.get_foldl_strandQuiet s h

/-- What a fault of a cause leaves: it is counted, and no strand issues or holds a reservation. -/
structure State.FaultCounted (s t : State) (cause : Nat) : Prop where
  fault : t.ply.fault = true
  cause : t.get R.PLY_FAULT_CAUSE = cause % 16
  count : t.get R.PLY_FAULT_COUNT = min 0xFFFF (s.get R.PLY_FAULT_COUNT + 1)
  strands : ∀ c : Fin 3, (t.coreAt c).run = .held ∧ (t.coreAt c).res = none

theorem State.plyHeld_counted (s : State) (cause : Nat) : s.FaultCounted (s.plyHeld cause) cause := by
  refine ⟨rfl, ?_, ?_, fun c => ?_⟩
  · exact (State.get_inc_apart _ (by decide)).trans (State.get_set ..)
  · refine (State.get_inc ..).trans ?_
    rw [State.get_set_apart _ (by decide)]
    rfl
  · have hold : (s.plyHeld cause).coreAt c = (s.core[c]).hold := by
      rw [State.coreAt_fin]
      exact Vector.getElem_map ..
    rw [hold]
    exact ⟨rfl, rfl⟩

theorem State.FaultCounted.quiesceStrands {t : State} {cause : Nat} (h : s.FaultCounted t cause) :
    s.FaultCounted t.quiesceStrands cause := by
  have quiet := t.quiesceStrands_moves
  have hcore : t.quiesceStrands.core = t.core := quiet.same .core (by decide)
  have hply : t.quiesceStrands.ply = t.ply := quiet.same .ply (by decide)
  refine ⟨(congrArg PlySt.fault hply).trans h.fault, (State.get_quiesceStrands _ (by decide)).trans h.cause,
    (State.get_quiesceStrands _ (by decide)).trans h.count, fun c => ?_⟩
  rw [State.coreAt, hcore]
  exact h.strands c

theorem State.plyFault_counted (cause : Nat) (hf : s.ply.fault = false) (hu : s.flag R.PLY_CFG_UNREC = false)
    (he : s.pwr.entry = none) : s.FaultCounted (s.plyFault cause) cause := by
  rw [State.plyFault_continue cause hf hu he]
  split
  · exact (s.plyHeld_counted cause).quiesceStrands
  · exact s.plyHeld_counted cause

/-! ### The end of a resync (R172) -/

/-- The state is copied, and the strands that remain stall for 8 cycles. -/
def State.resyncCopied (s : State) : State :=
  { s with ply := { s.ply with copied := true } }.updCore 0 fun k =>
    if s.bit R.DBG_STAT_HALTED 0 then k else { k with cycle := k.cycle + 8 }

theorem exec_plyResyncCopyDone (hy : s.flag R.PLY_STATUS_RESYNC = true) (hc : s.ply.copied = false)
    (hr : s.plyRuns = true) : exec .plyResyncCopyDone s = .next s.resyncCopied := by
  change Host.Outcome.next (if s.flag R.PLY_STATUS_RESYNC && !s.ply.copied && s.plyRuns then s.resyncCopied else s) = _
  rw [if_pos (by simp [hy, hc, hr])]

theorem State.resyncCopied_onlyIn (s : State) : OnlyIn [.ply, .core] s s.resyncCopied :=
  ((Moves.refl 0x3000000 s).step State.upd_ply_moves (by decide) |>.step (State.updCore_moves ..) (by decide)).onlyIn _
    (by decide)

/-- All three strands issue on, and the odd strand's count rises. -/
def State.resynced (s : State) : State :=
  (((s.set R.PLY_STATUS_RESYNC 0).set R.PLY_STATUS_RSDONE 1).inc (rscnt (s.get R.PLY_STATUS_ODD))).raise 150

theorem exec_plyResyncComplete (hy : s.flag R.PLY_STATUS_RESYNC = true) (hc : s.ply.copied = true)
    (hr : s.plyRuns = true) : exec .plyResyncComplete s = .next s.resynced := by
  change Host.Outcome.next (if s.flag R.PLY_STATUS_RESYNC && s.ply.copied && s.plyRuns then s.resynced else s) = _
  rw [if_pos (by simp [hy, hc, hr])]

theorem rscnt_mem (k : Nat) : rscnt k ∈ [R.PLY_RSCNT_A, R.PLY_RSCNT_B, R.PLY_RSCNT_C] := by
  unfold rscnt
  split
  · simp
  · split <;> simp

theorem State.resynced_shows (s : State) : let n := rscnt (s.get R.PLY_STATUS_ODD)
    s.resynced.get R.PLY_STATUS_RESYNC = 0 ∧ s.resynced.flag R.PLY_STATUS_RSDONE = true
      ∧ s.resynced.get n = min 0xFF (s.get n + 1) := by
  intro n
  have counter : n.pd = 0 ∧ n.w = 8 ∧ n.apart R.PLY_STATUS_RESYNC = true ∧ n.apart R.PLY_STATUS_RSDONE = true
      ∧ R.PLY_STATUS_RESYNC.apart n = true ∧ R.PLY_STATUS_RSDONE.apart n = true := by
    have hn : n ∈ _ := rscnt_mem _
    generalize n = f at hn
    revert f
    decide
  obtain ⟨hpd, hw, ny, nd, yn, dn⟩ := counter
  refine ⟨?_, ?_, ?_⟩
  · rw [State.resynced, State.get_raise_apart _ _ (by decide), State.get_inc_apart _ ny,
      State.get_set_apart _ (by decide), State.get_set]
    rfl
  · have done : s.resynced.get R.PLY_STATUS_RSDONE = 1 := by
      rw [State.resynced, State.get_raise_apart _ _ (by decide), State.get_inc_apart _ nd, State.get_set]
      rfl
    rw [State.flag, done]
    rfl
  · rw [State.resynced, State.get_raise_apart _ _ (by rw [hpd]; decide), State.get_inc, State.get_set_apart _ dn,
      State.get_set_apart _ yn, hw]
    rfl

end

/-! ### The statement -/

/-- Settles O33: which pairs differ decides between an odd strand and a fault, and the lemmas above say what each
records. -/
theorem plyVoting : Obligations.PlyVoting := by
  unfold Obligations.PlyVoting
  refine ⟨fun k x y s hr hm hn hy hx hy0 => ?_, fun x y z cause cl s hr h => ?_, fun cause s hc => ?_,
    fun cause s hf hu he => ?_, fun s hy hc hr => ?_, fun s hy hc hr => ?_⟩
  · refine ⟨_, exec_plyMismatch_odd hr hm hn hy k hx hy0, ?_⟩
    have hcount := s.oddEdges_count k
    have hk : k.val < 4 := k.isLt.trans (by decide)
    by_cases h4 : 4 ≤ ((s.oddEdges k s.ply).filter fun x => decide (x.1 = k.val)).length
    · obtain ⟨⟨mism, odd, classes, lastrs⟩, retired, advised⟩ := s.oddStrand_retires hk (x ||| y).isLt h4
      exact ⟨mism, odd, classes, lastrs, fun hlt => by omega, fun _ => ⟨retired, advised⟩⟩
    · obtain ⟨⟨mism, odd, classes, lastrs⟩, resync, copied⟩ := s.oddStrand_copies hk (x ||| y).isLt h4
      exact ⟨mism, odd, classes, lastrs, fun _ => ⟨resync, copied⟩, fun hle => by omega⟩
  · obtain ⟨hcl, hs⟩ := State.mismatch_unrecoverable x y z h
    exact ⟨s.mismatchSeen cl, (exec_plyMismatch hr x y z).trans (congrArg _ hs), s.mismatchSeen_shows hcl⟩
  · exact congrArg Host.Outcome.next (if_neg fun e => hc (Fin.ext e))
  · obtain ⟨fault, cse, count, strands⟩ := State.plyFault_counted cause hf hu he
    exact ⟨fault, cse, count, strands⟩
  · exact ⟨_, exec_plyResyncCopyDone hy hc hr, rfl, s.resyncCopied_onlyIn, State.coreAt_updCore _ 0 0 _⟩
  · exact ⟨_, exec_plyResyncComplete hy hc hr, s.resynced_shows⟩

end Sys2Proof.Machine
end

section
/-!
PROOFS. What a byte of memory reads after each operation on memory (Mem.lean), on which the statement O34 rests: after a
write of one byte or of a list of bytes, and after a copy of a range.
-/

namespace Sys2Proof.Machine

/-! ### One byte -/

theorem memGet_of_above {m : List Host.Cell} {a : Nat} (h : ∀ x ∈ m, a < x.1) : memGet m a = memDefault a := by
  induction m with
  | nil => rfl
  | cons c m ih =>
    obtain ⟨hc, hm⟩ := List.forall_mem_cons.mp h
    rw [memGet, if_neg (Nat.ne_of_gt hc), ih hm]

theorem memGet_memPut {m : List Host.Cell} (h : memWf m = true) (a : Nat) (v : Byte) (b : Nat) :
    memGet (memPut m a v) b = if b = a then v else memGet m b := by
  induction m with
  | nil =>
    rw [memPut]
    split
    · rename_i hv
      split
      · subst_vars; rfl
      · rfl
    · simp only [memGet, eq_comm]
  | cons c m ih =>
    obtain ⟨k, u⟩ := c
    obtain ⟨-, hm, hk⟩ := memWf_cons.mp h
    rw [memPut]
    split
    · subst_vars
      split
      · by_cases hb : b = k
        · subst_vars; simp [memGet_of_above hk]
        · simp [memGet, hb, Ne.symm hb]
      · by_cases hb : b = k <;> simp [memGet, hb, eq_comm]
    · rename_i hne
      split
      · rename_i hlt
        split
        · by_cases hb : b = a
          · subst_vars
            rw [if_pos rfl, memGet, if_neg hne, memGet_of_above fun x hx => hlt.trans (hk x hx)]
          · rw [if_neg hb]
        · simp [memGet, eq_comm]
      · by_cases hb : k = b
        · subst hb; simp [memGet, hne]
        · simp [memGet, hb, ih hm]

theorem memGet_filter (m : List Host.Cell) (p : Nat → Bool) (a : Nat) :
    memGet (m.filter fun x => p x.1) a = if p a then memGet m a else memDefault a := by
  induction m with
  | nil => simp [memGet]
  | cons c m ih =>
    obtain ⟨k, u⟩ := c
    rw [List.filter_cons]
    by_cases hka : k = a
    · subst hka
      by_cases hk : p k <;> simp_all [memGet]
    · by_cases hk : p k <;> simp [memGet, hk, hka, ih]

theorem memGet_memClear (m : List Host.Cell) (lo hi a : Nat) :
    memGet (memClear m lo hi) a = if lo ≤ a ∧ a < hi then memDefault a else memGet m a := by
  rw [memClear, memGet_filter m (fun a => decide (a < lo) || decide (hi ≤ a))]
  by_cases ha : lo ≤ a ∧ a < hi
  · rw [if_neg (by simpa using ha), if_pos ha]
  · rw [if_pos (by simp; omega), if_neg ha]

/-! ### A copy of a range -/

theorem memGet_foldl_moved_below {src dst b : Nat} (hb : b < dst) :
    ∀ {l z : List Host.Cell}, memWf z = true →
      memGet (l.foldl (fun a x => memPut a (x.1 - src + dst) x.2) z) b = memGet z b
  | [], _, _ => rfl
  | x :: l, z, hz => by
    rw [List.foldl_cons, memGet_foldl_moved_below hb (memWf_put hz _ _), memGet_memPut hz, if_neg (by omega)]

/-- A listed byte moves to its place in the destination; a byte that is not listed leaves its place as it was. -/
theorem memGet_foldl_moved {src dst : Nat} (i : Nat) : ∀ {l z : List Host.Cell}, memWf l = true → (∀ x ∈ l, src ≤ x.1) →
    memWf z = true → memGet (l.foldl (fun a x => memPut a (x.1 - src + dst) x.2) z) (dst + i)
      = if memGet l (src + i) = memDefault (src + i) then memGet z (dst + i) else memGet l (src + i)
  | [], _, _, _, _ => by simp [memGet]
  | (k, u) :: l, z, hl, hs, hz => by
    obtain ⟨hu, hl, hk⟩ := memWf_cons.mp hl
    obtain ⟨hsk, hs⟩ := List.forall_mem_cons.mp hs
    have hsk : src ≤ k := hsk
    rw [List.foldl_cons, memGet_foldl_moved i hl hs (memWf_put hz _ _), memGet_memPut hz]
    by_cases hki : k = src + i
    · subst hki
      rw [memGet_of_above hk, if_pos rfl, if_pos (by omega), memGet, if_pos rfl, if_neg hu]
    · rw [memGet, if_neg hki, if_neg (show dst + i ≠ k - src + dst by omega)]

theorem memGet_memCopy_below {m : List Host.Cell} (h : memWf m = true) {src dst n b : Nat} (hb : b < dst) :
    memGet (memCopy m src dst n) b = memGet m b := by
  rw [memCopy, memGet_foldl_moved_below hb (show memWf (memClear ..) = true from memWf_filter h _), memGet_memClear,
    if_neg (by omega)]

theorem memGet_memCopy_above {m : List Host.Cell} (h : memWf m = true) (src dst n i : Nat) :
    memGet (memCopy m src dst n) (dst + i) =
      if i < n ∧ memGet m (src + i) ≠ memDefault (src + i) then memGet m (src + i)
      else if i < n then memDefault (dst + i) else memGet m (dst + i) := by
  have from_src : ∀ x ∈ m.filter (fun x => decide (src ≤ x.1) && decide (x.1 < src + n)), src ≤ x.1 := by
    intro x hx
    have hr : src ≤ x.1 ∧ x.1 < src + n := by simpa using (List.mem_filter.mp hx).2
    exact hr.1
  rw [memCopy, memGet_foldl_moved i (memWf_filter h _) from_src (show memWf (memClear ..) = true from memWf_filter h _),
    memGet_filter m (fun a => decide (src ≤ a) && decide (a < src + n)), memGet_memClear]
  by_cases hi : i < n <;> by_cases hd : memGet m (src + i) = memDefault (src + i) <;> simp [hi, hd]

theorem memGet_memCopy_inside {m : List Host.Cell} (h : memWf m = true) {src dst n i : Nat} (hi : i < n)
    (hd : memDefault (dst + i) = memDefault (src + i)) :
    memGet (memCopy m src dst n) (dst + i) = memGet m (src + i) := by
  rw [memGet_memCopy_above h, hd]
  by_cases hv : memGet m (src + i) = memDefault (src + i) <;> simp [hi, hv]

theorem memGet_memCopy_outside {m : List Host.Cell} (h : memWf m = true) {src dst n b : Nat}
    (hb : b < dst ∨ dst + n ≤ b) : memGet (memCopy m src dst n) b = memGet m b := by
  rcases hb with hb | hb
  · exact memGet_memCopy_below h hb
  · obtain ⟨i, rfl⟩ := Nat.exists_eq_add_of_le (Nat.le_of_add_right_le hb)
    rw [memGet_memCopy_above h, if_neg (by omega), if_neg (by omega)]

/-! ### Bytes of a state -/

theorem State.Kept.setByte {s : State} (h : s.Kept) (a : Nat) (v : Byte) : (s.setByte a v).Kept :=
  (s.setByte_moves a v).kept h

theorem State.byte_setByte {s : State} (h : s.Kept) (a : Nat) (v : Byte) (b : Nat) :
    (s.setByte a v).byte b = if b = a then v else s.byte b := memGet_memPut h.mem a v b

/-- A list of bytes written one after the other, the first at `a + j`. -/
theorem State.byte_foldl_setByte (a b : Nat) : ∀ (l : List Byte) (j : Nat) {s : State}, s.Kept →
    (((List.range' j l.length).zip l).foldl (fun s x => s.setByte (a + x.1) x.2) s).byte b
      = if a + j ≤ b ∧ b < a + j + l.length then l.getD (b - (a + j)) 0 else s.byte b
  | [], j, s, _ => by simp
  | v :: l, j, s, h => by
    rw [List.length_cons, List.range'_succ, List.zip_cons_cons, List.foldl_cons,
      State.byte_foldl_setByte a b l (j + 1) (h.setByte ..), State.byte_setByte h]
    by_cases hb : b = a + j
    · rw [if_neg (by omega), if_pos hb, if_pos (by omega), hb]
      simp
    · by_cases hin : a + j ≤ b ∧ b < a + j + (l.length + 1)
      · rw [if_pos (by omega), if_pos hin, show b - (a + j) = b - (a + (j + 1)) + 1 by omega, List.getD_cons_succ]
      · rw [if_neg (by omega), if_neg hb, if_neg hin]

theorem State.byte_setByteList {s : State} (h : s.Kept) (a : Nat) (l : List Byte) (b : Nat) :
    (s.setByteList a l).byte b = if a ≤ b ∧ b < a + l.length then l.getD (b - a) 0 else s.byte b := by
  rw [State.setByteList, List.range_eq_range', State.byte_foldl_setByte a b l 0 h, Nat.add_zero]

theorem State.byteList_eq_iff (s : State) (a b n : Nat) :
    s.byteList a n = s.byteList b n ↔ ∀ i < n, s.byte (a + i) = s.byte (b + i) := by
  simp [State.byteList, List.map_inj_left]

end Sys2Proof.Machine
end

section
/-!
PROOFS of the statement on the modes of the Ply and its watchdogs (O34), with the rules it rests on: the strands that a
hand-over names, each core after a fold over them, the TCMs after a copy and after a step of the scrubber.
-/

namespace Sys2Proof.Machine

section
variable {s : State}

/-! ### The strands of a hand-over (Table 8.6) -/

/-- A hand-over names B, C or both, never A. -/
theorem handStrands_cases (cur target : Nat) : handStrands cur target ∈ [[2], [1, 2], [1], []] := by
  unfold handStrands
  split <;> simp

theorem handStrands_nodup (cur target : Nat) : (handStrands cur target).Nodup := by
  have h := handStrands_cases cur target
  generalize handStrands cur target = l at h
  revert l
  decide

theorem handStrands_range (cur target : Nat) : ∀ k ∈ handStrands cur target, k = 1 ∨ k = 2 := by
  have h := handStrands_cases cur target
  generalize handStrands cur target = l at h
  revert l
  decide

theorem handStrands_ne_zero {cur target k : Nat} (h : k ∈ handStrands cur target) : k ≠ 0 := by
  rcases handStrands_range cur target k h with rfl | rfl <;> decide

theorem handStrands_lt {cur target k : Nat} (h : k ∈ handStrands cur target) : k < 3 := by
  rcases handStrands_range cur target k h with rfl | rfl <;> decide

/-! ### The cores after a fold over strands -/

theorem State.coreAt_updCore_of_lt (s : State) {c : Nat} (hc : c < 3) (d : Nat) (f : Core → Core) :
    (s.updCore c f).coreAt d = if d = c then f (s.coreAt c) else s.coreAt d := by
  by_cases h : d = c
  · subst h
    simp [State.coreAt, State.updCore, Vector.getD, hc]
  · simp [State.coreAt, State.updCore, Vector.getD, h, Ne.symm h]

/-- Each core that the list names is changed once, where the change does not look at the cores. -/
theorem State.coreAt_foldl_updCore {F : State → Nat → Core → Core} (hF : ∀ s k g, F (s.updCore k g) = F s) (j : Nat) :
    ∀ {l : List Nat}, l.Nodup → (∀ k ∈ l, k < 3) → ∀ s : State,
      (l.foldl (fun s k => s.updCore k (F s k)) s).coreAt j = if j ∈ l then F s j (s.coreAt j) else s.coreAt j
  | [], _, _, _ => by simp
  | k :: l, hn, hl, s => by
    obtain ⟨hk, hn⟩ := List.nodup_cons.mp hn
    obtain ⟨h3, hl⟩ := List.forall_mem_cons.mp hl
    rw [List.foldl_cons, State.coreAt_foldl_updCore hF j hn hl, hF, State.coreAt_updCore_of_lt s h3]
    by_cases hj : j = k
    · subst hj
      simp [hk]
    · simp [hj]

theorem State.ply_foldl_updCore {F : State → Nat → Core → Core} (l : List Nat) (s : State) :
    (l.foldl (fun s k => s.updCore k (F s k)) s).ply = s.ply :=
  (Moves.foldl (Moves.refl 0x1000000 s) fun u k => u.updCore_moves k (F u k)).same .ply (by decide)

/-! ### A split (R178) -/

/-- The leaving strands start at their addresses. -/
def State.strandsLeft (s : State) : State :=
  (handStrands (s.get R.PLY_MODE_CUR) s.ply.target).foldl (fun s k => s.updCore k fun l => l.leave (s.startAddr k)) s

/-- CUR takes TARGET. -/
def State.splitDone (s : State) : State :=
  ((s.strandsLeft.set R.PLY_MODE_CUR s.strandsLeft.ply.target).set R.PLY_STATUS_SPLITTING 0).raise 151

theorem exec_plySplitComplete (h : s.flag R.PLY_STATUS_SPLITTING = true) (hr : s.plyRuns = true) :
    exec .plySplitComplete s = .next s.splitDone := by
  change Host.Outcome.next (if s.flag R.PLY_STATUS_SPLITTING && s.plyRuns then s.splitDone else s) = _
  rw [if_pos (by simp [h, hr])]

theorem State.strandsLeft_ply (s : State) : s.strandsLeft.ply = s.ply :=
  State.ply_foldl_updCore (F := fun s k l => l.leave (s.startAddr k)) _ s

theorem State.strandsLeft_coreAt (s : State) {k : Nat} (hk : k ∈ handStrands (s.get R.PLY_MODE_CUR) s.ply.target) :
    s.strandsLeft.coreAt k = (s.coreAt k).leave (s.startAddr k) :=
  (State.coreAt_foldl_updCore (F := fun s k l => l.leave (s.startAddr k)) (fun _ _ _ => rfl) k
    (handStrands_nodup ..) (fun _ => handStrands_lt) s).trans (if_pos hk)

theorem State.splitDone_shows (s : State) : s.splitDone.get R.PLY_MODE_CUR = s.ply.target % 4
    ∧ s.splitDone.get R.PLY_STATUS_SPLITTING = 0
    ∧ ∀ k ∈ handStrands (s.get R.PLY_MODE_CUR) s.ply.target, s.splitDone.coreAt k =
        { startCore (s.startAddr k) with cache := (s.coreAt k).cache, haltReq := (s.coreAt k).haltReq } := by
  refine ⟨?_, ?_, fun k hk => ?_⟩
  · rw [State.splitDone, State.get_raise_apart _ _ (by decide), State.get_set_apart _ (by decide), State.get_set,
      State.strandsLeft_ply]
    rfl
  · rw [State.splitDone, State.get_raise_apart _ _ (by decide), State.get_set]
    rfl
  · rw [State.coreAt, State.splitDone, State.raise_core]
    exact s.strandsLeft_coreAt hk

/-! ### The TCMs under a copy from core A (R179) -/

/-- The keys of a TCM: a strand's bytes stand together, apart from those of the other strands. -/
structure TcmKey (key : Nat → Nat → Nat) (base : Nat) : Prop where
  eq : ∀ k a, key k a = base + k * 0x100000 + a
  place : base = 0 ∨ base = 0x80000000

theorem dtcmKey_tcm : TcmKey dtcmKey 0 := ⟨fun k a => by rw [dtcmKey, Nat.zero_add], .inl rfl⟩

theorem itcmKey_tcm : TcmKey itcmKey 0x80000000 := ⟨fun _ _ => rfl, .inr rfl⟩

/-- A TCM byte that nothing has written reads 0. -/
theorem TcmKey.default {key : Nat → Nat → Nat} {base : Nat} (h : TcmKey key base) {k a : Nat} (hk : k < 3)
    (ha : a < 0x20000) : memDefault (key k a) = 0 := by
  rw [memDefault, h.eq, if_neg]
  rcases h.place with rfl | rfl <;> omega

/-- A copy of one TCM of core A into strand `k` leaves every strand's bytes but those of `k` in it. -/
theorem TcmKey.memGet_copy {key : Nat → Nat → Nat} {base : Nat} (h : TcmKey key base) {m : List Host.Cell}
    (hm : memWf m = true) {k j a : Nat} (hk : k < 3) (ha : a < 0x20000) :
    memGet (memCopy m (key 0 0) (key k 0) 0x20000) (key j a) = memGet m (key (if j = k then 0 else j) a) := by
  have at_offset : ∀ i, key i a = key i 0 + a := fun i => by rw [h.eq, h.eq, Nat.add_zero]
  by_cases hj : j = k
  · subst hj
    rw [if_pos rfl, at_offset j, at_offset 0]
    refine memGet_memCopy_inside hm ha ?_
    rw [← at_offset, ← at_offset, h.default hk ha, h.default (by decide) ha]
  · rw [if_neg hj, memGet_memCopy_outside hm]
    rw [h.eq, h.eq]
    omega

/-- A copy of one TCM leaves the other. -/
theorem TcmKey.memGet_copy_other {key key' : Nat → Nat → Nat} {base base' : Nat} (h : TcmKey key base)
    (h' : TcmKey key' base') (hb : base ≠ base') {m : List Host.Cell} (hm : memWf m = true) {k j a : Nat} (hk : k < 3)
    (hj : j < 3) (ha : a < 0x20000) :
    memGet (memCopy m (key 0 0) (key k 0) 0x20000) (key' j a) = memGet m (key' j a) := by
  refine memGet_memCopy_outside hm ?_
  rw [h.eq, h'.eq]
  rcases h.place with rfl | rfl <;> rcases h'.place with rfl | rfl <;> omega

theorem State.byte_copyTcms (h : s.Kept) {k j a : Nat} (hk : k < 3) (hj : j < 3) (ha : a < 0x20000) :
    (s.copyTcms k).byte (itcmKey j a) = s.byte (itcmKey (if j = k then 0 else j) a)
    ∧ (s.copyTcms k).byte (dtcmKey j a) = s.byte (dtcmKey (if j = k then 0 else j) a) := by
  have hm := memWf_copy h.mem (itcmKey 0 0) (itcmKey k 0) 0x20000
  refine ⟨?_, ?_⟩
  · refine (dtcmKey_tcm.memGet_copy_other itcmKey_tcm (by decide) hm hk hj ha).trans ?_
    exact itcmKey_tcm.memGet_copy h.mem hk ha
  · refine (dtcmKey_tcm.memGet_copy hm hk ha).trans ?_
    exact itcmKey_tcm.memGet_copy_other dtcmKey_tcm (by decide) h.mem hk (by split <;> omega) ha

/-- After the copies into the strands of a list, each of them holds what core A holds. -/
theorem State.byte_foldl_copyTcms {j a : Nat} (hj : j < 3) (ha : a < 0x20000) : ∀ {l : List Nat},
    (∀ k ∈ l, k = 1 ∨ k = 2) → ∀ {s : State}, s.Kept →
      (l.foldl State.copyTcms s).byte (itcmKey j a) = s.byte (itcmKey (if j ∈ l then 0 else j) a)
      ∧ (l.foldl State.copyTcms s).byte (dtcmKey j a) = s.byte (dtcmKey (if j ∈ l then 0 else j) a)
  | [], _, _, _ => by simp
  | k :: l, hl, s, h => by
    obtain ⟨hk, hl⟩ := List.forall_mem_cons.mp hl
    have h3 : k < 3 := by omega
    obtain ⟨ihi, ihd⟩ := State.byte_foldl_copyTcms hj ha hl ((s.copyTcms_moves k).kept h)
    have hm : (if j ∈ l then 0 else j) < 3 := by split <;> omega
    obtain ⟨ci, cd⟩ := State.byte_copyTcms h h3 hm ha
    have source : (if (if j ∈ l then 0 else j) = k then 0 else if j ∈ l then 0 else j)
        = if j ∈ k :: l then 0 else j := by
      by_cases hjl : j ∈ l <;> simp [hjl]
    rw [List.foldl_cons, ihi, ihd, ci, cd, source]
    exact ⟨rfl, rfl⟩

/-! ### A join (R179) -/

/-- Both TCMs of core A stand in the joining strands. -/
def State.joinCopied (s : State) : State :=
  let u := (handStrands (s.get R.PLY_MODE_CUR) s.ply.target).foldl State.copyTcms s
  { u with ply := { u.ply with joinTcm := true } }

theorem exec_plyJoinTcmCopyDone (h : s.flag R.PLY_STATUS_JOINING = true) (hc : s.ply.joinTcm = false)
    (hr : s.plyRuns = true) : exec .plyJoinTcmCopyDone s = .next s.joinCopied := by
  change Host.Outcome.next (if s.flag R.PLY_STATUS_JOINING && !s.ply.joinTcm && s.plyRuns then s.joinCopied else s) = _
  rw [if_pos (by simp [h, hc, hr])]

theorem State.joinCopied_onlyIn (s : State) : OnlyIn [.ply, .mem] s s.joinCopied :=
  ((Moves.foldl (Moves.refl 0x200000000000 s) State.copyTcms_moves).mono (K' := 0x200002000000) (by decide)
    |>.step State.upd_ply_moves (by decide)).onlyIn _ (by decide)

/-- The joining strands are part of the group, which has stalled for 8 cycles. -/
def State.coresJoined (s : State) : State :=
  ((handStrands (s.get R.PLY_MODE_CUR) s.ply.target).foldl (fun s k => s.updCore k fun _ => {}) s).updCore 0
    fun k => { k with cycle := k.cycle + 8 }

/-- The flag of a strand that waits in JOINWAIT. -/
def waitFld (k : Nat) : Fld := if k = 1 then R.PLY_STATUS_WAITB else R.PLY_STATUS_WAITC

/-- No joining strand waits any longer. -/
def State.waitsOver (s : State) (ks : List Nat) : State := ks.foldl (fun s k => s.set (waitFld k) 0) s

/-- CUR takes TARGET. -/
def State.joinDone (s : State) : State :=
  let u := s.coresJoined.waitsOver (handStrands (s.get R.PLY_MODE_CUR) s.ply.target)
  ((({ u with ply := { u.ply with joinTcm := false } }.set R.PLY_MODE_CUR u.ply.target).set R.PLY_STATUS_JOINING 0).set
    R.PLY_STATUS_EXPOSED 0).raise 151

theorem exec_plyJoinComplete (h : s.flag R.PLY_STATUS_JOINING = true) (hc : s.ply.joinTcm = true)
    (hr : s.plyRuns = true) : exec .plyJoinComplete s = .next s.joinDone := by
  change Host.Outcome.next (if s.flag R.PLY_STATUS_JOINING && s.ply.joinTcm && s.plyRuns then s.joinDone else s) = _
  rw [if_pos (by simp [h, hc, hr])]

theorem State.coresJoined_coreAt (s : State) (j : Nat) : let ks := handStrands (s.get R.PLY_MODE_CUR) s.ply.target
    s.coresJoined.coreAt j = if j = 0 then { s.coreAt 0 with cycle := (s.coreAt 0).cycle + 8 }
      else if j ∈ ks then {} else s.coreAt j := by
  intro ks
  have fold : ∀ i, (ks.foldl (fun s k => s.updCore k fun _ => {}) s).coreAt i = if i ∈ ks then {} else s.coreAt i :=
    fun i => State.coreAt_foldl_updCore (F := fun _ _ _ => {}) (fun _ _ _ => rfl) i (handStrands_nodup ..)
      (fun _ => handStrands_lt) s
  rw [State.coresJoined, State.coreAt_updCore_of_lt _ (by decide), fold, fold,
    if_neg fun h : 0 ∈ ks => handStrands_ne_zero h rfl]

theorem State.waitsOver_moves (s : State) (ks : List Nat) : Moves 0x400000000000 s (s.waitsOver ks) :=
  Moves.foldl (Moves.refl ..) fun _ k => State.set_moves (d := 0) (by unfold waitFld; split <;> rfl)

theorem State.get_waitsOver {j : Nat} : ∀ {ks : List Nat} (s : State), j ∈ ks ∨ s.get (waitFld j) = 0 →
    (s.waitsOver ks).get (waitFld j) = 0
  | [], _, h => h.resolve_left List.not_mem_nil
  | k :: ks, s, h => by
    refine State.get_waitsOver (ks := ks) (s.set (waitFld k) 0) ?_
    by_cases hf : waitFld k = waitFld j
    · right
      rw [hf, State.get_set, Nat.zero_mod]
    · rw [State.get_set_ne s hf]
      refine h.imp_left fun hj => (List.mem_cons.mp hj).resolve_left ?_
      rintro rfl
      exact hf rfl

theorem State.joinDone_shows (s : State) : let ks := handStrands (s.get R.PLY_MODE_CUR) s.ply.target
    s.joinDone.get R.PLY_MODE_CUR = s.ply.target % 4 ∧ s.joinDone.get R.PLY_STATUS_JOINING = 0
    ∧ s.joinDone.get R.PLY_STATUS_EXPOSED = 0
    ∧ s.joinDone.coreAt 0 = { s.coreAt 0 with cycle := (s.coreAt 0).cycle + 8 }
    ∧ ∀ k ∈ ks, s.joinDone.coreAt k = {} ∧ s.joinDone.get (waitFld k) = 0 := by
  intro ks
  have waits := s.coresJoined.waitsOver_moves ks
  have hply : (s.coresJoined.waitsOver ks).ply = s.ply :=
    (waits.same .ply (by decide)).trans (State.ply_foldl_updCore (F := fun _ _ _ => {}) ..)
  have hcore : ∀ j, s.joinDone.coreAt j = s.coresJoined.coreAt j := by
    have e : s.joinDone.core = s.coresJoined.core := (State.raise_core ..).trans (waits.same .core (by decide))
    intro j
    rw [State.coreAt, State.coreAt, e]
  refine ⟨?_, ?_, ?_, (hcore 0).trans (s.coresJoined_coreAt 0), fun k hk => ⟨?_, ?_⟩⟩
  · rw [State.joinDone, State.get_raise_apart _ _ (by decide), State.get_set_apart _ (by decide),
      State.get_set_apart _ (by decide), State.get_set]
    exact congrArg (fun p : PlySt => p.target % 4) hply
  · rw [State.joinDone, State.get_raise_apart _ _ (by decide), State.get_set_apart _ (by decide), State.get_set]
    rfl
  · rw [State.joinDone, State.get_raise_apart _ _ (by decide), State.get_set]
    rfl
  · rw [hcore, State.coresJoined_coreAt, if_neg (handStrands_ne_zero hk), if_pos hk]
  · have apart : (waitFld k).pd ≠ 6 ∧ R.PLY_MODE_CUR.apart (waitFld k) = true
        ∧ R.PLY_STATUS_JOINING.apart (waitFld k) = true ∧ R.PLY_STATUS_EXPOSED.apart (waitFld k) = true := by
      unfold waitFld
      split <;> decide
    obtain ⟨h6, hc, hj, he⟩ := apart
    rw [State.joinDone, State.get_raise_apart _ _ h6, State.get_set_apart _ he, State.get_set_apart _ hj,
      State.get_set_apart _ hc]
    exact State.get_waitsOver s.coresJoined (.inl hk)

/-! ### A step of the scrubber (R170) -/

theorem maj_self (b : Byte) : maj b b b = b := by simp [maj]

/-- The majority of the word at offset `a` of the three copies. -/
def State.majWord (s : State) (key : Nat → Nat → Nat) (a : Nat) : List Byte :=
  (List.range 16).map fun i => maj (s.byte (key 0 (a + i))) (s.byte (key 1 (a + i))) (s.byte (key 2 (a + i)))

theorem State.majWord_length (s : State) {key : Nat → Nat → Nat} {a : Nat} : (s.majWord key a).length = 16 := by
  simp [State.majWord]

theorem State.byte_inc (s : State) (f : Fld) (b : Nat) : (s.inc f).byte b = s.byte b := rfl

theorem State.Kept.setByteList (h : s.Kept) (a : Nat) (l : List Byte) : (s.setByteList a l).Kept :=
  (s.setByteList_moves a l).kept h

theorem State.scrubWord_eq (s : State) (key : Nat → Nat → Nat) (a : Nat) : s.scrubWord key a =
    if s.byteList (key 0 a) 16 = s.byteList (key 1 a) 16 ∧ s.byteList (key 0 a) 16 = s.byteList (key 2 a) 16 then s
    else ([0, 1, 2].foldl (fun u k => u.setByteList (key k a) (s.majWord key a)) s).inc R.PLY_SCRUB_FIXES := rfl

/-- One word written into all three copies. -/
theorem State.byte_setCopies (hs : s.Kept) (key : Nat → Nat → Nat) {m : List Byte} (hm : m.length = 16) (a b : Nat) :
    ([0, 1, 2].foldl (fun s k => s.setByteList (key k a) m) s).byte b =
      if key 2 a ≤ b ∧ b < key 2 a + 16 then m.getD (b - key 2 a) 0
      else if key 1 a ≤ b ∧ b < key 1 a + 16 then m.getD (b - key 1 a) 0
      else if key 0 a ≤ b ∧ b < key 0 a + 16 then m.getD (b - key 0 a) 0 else s.byte b := by
  simp only [List.foldl_cons, List.foldl_nil]
  rw [State.byte_setByteList ((hs.setByteList ..).setByteList ..), State.byte_setByteList (hs.setByteList ..),
    State.byte_setByteList hs, hm]

section
variable {key : Nat → Nat → Nat} {base : Nat} (h : TcmKey key base)
include h

theorem TcmKey.add (k a i : Nat) : key k (a + i) = key k a + i := by
  rw [h.eq, h.eq, Nat.add_assoc _ a]

theorem TcmKey.byte_setCopies_inside (hs : s.Kept) {m : List Byte} (hm : m.length = 16) (a : Nat) (k : Fin 3) {i : Nat}
    (hi : i < 16) : ([0, 1, 2].foldl (fun s k => s.setByteList (key k a) m) s).byte (key k (a + i)) = m.getD i 0 := by
  rw [State.byte_setCopies hs key hm, h.add, h.eq, h.eq, h.eq, h.eq]
  match k with
  | 0 => rw [if_neg (by simp; omega), if_neg (by simp; omega), if_pos (by simp; omega)]; simp
  | 1 => rw [if_neg (by simp; omega), if_pos (by simp; omega)]; simp
  | 2 => rw [if_pos (by simp; omega)]; simp

theorem TcmKey.scrubWord_inside (hs : s.Kept) (a : Nat) (k : Fin 3) (i : Fin 16) :
    (s.scrubWord key a).byte (key k (a + i)) =
      maj (s.byte (key 0 (a + i))) (s.byte (key 1 (a + i))) (s.byte (key 2 (a + i))) := by
  by_cases heq : s.byteList (key 0 a) 16 = s.byteList (key 1 a) 16 ∧ s.byteList (key 0 a) 16 = s.byteList (key 2 a) 16
  · rw [State.scrubWord_eq, if_pos heq]
    have e1 := (s.byteList_eq_iff ..).mp heq.1 i i.isLt
    have e2 := (s.byteList_eq_iff ..).mp heq.2 i i.isLt
    have agree : ∀ j : Fin 3, s.byte (key j (a + i)) = s.byte (key 0 (a + i)) := by
      intro j
      rw [h.add, h.add]
      match j with
      | 0 => rfl
      | 1 => exact e1.symm
      | 2 => exact e2.symm
    have voted := congr (congrArg₂ maj (agree 0) (agree 1)) (agree 2)
    rw [maj_self] at voted
    exact (agree k).trans voted.symm
  · rw [State.scrubWord_eq, if_neg heq]
    rw [State.byte_inc, h.byte_setCopies_inside hs s.majWord_length a k i.isLt]
    simp [State.majWord]

theorem TcmKey.scrubWord_other {key' : Nat → Nat → Nat} {base' : Nat} (h' : TcmKey key' base') (hb : base ≠ base')
    (hs : s.Kept) {a : Nat} (ha : a + 16 ≤ 0x20000) (k : Fin 3) {b : Nat} (hlt : b < 0x20000) :
    (s.scrubWord key a).byte (key' k b) = s.byte (key' k b) := by
  rw [State.scrubWord_eq]
  split
  · rfl
  · rw [State.byte_inc, State.byte_setCopies hs key s.majWord_length, h.eq, h.eq, h.eq, h'.eq]
    have hk := k.isLt
    rcases h.place with rfl | rfl <;> rcases h'.place with rfl | rfl <;>
      rw [if_neg (by omega), if_neg (by omega), if_neg (by omega)]

end

/-- The scrubber's word of both TCMs has been voted. -/
def State.scrubbed (s : State) : State :=
  (s.scrubWord itcmKey (16 * s.ply.scrub)).scrubWord dtcmKey (16 * s.ply.scrub)

theorem State.scrubbed_ply (s : State) : s.scrubbed.ply = s.ply :=
  ((State.scrubWord_moves ..).trans (State.scrubWord_moves ..)).same .ply (by decide)

theorem State.scrubbed_byte (hs : s.Kept) (hw : s.ply.scrub < 8192) (k : Fin 3) (i : Fin 16) :
    let a := 16 * s.ply.scrub + i.val
    s.scrubbed.byte (dtcmKey k a) = maj (s.byte (dtcmKey 0 a)) (s.byte (dtcmKey 1 a)) (s.byte (dtcmKey 2 a))
    ∧ s.scrubbed.byte (itcmKey k a) = maj (s.byte (itcmKey 0 a)) (s.byte (itcmKey 1 a)) (s.byte (itcmKey 2 a)) := by
  intro a
  have hs' : (s.scrubWord itcmKey (16 * s.ply.scrub)).Kept := (State.scrubWord_moves ..).kept hs
  have word : 16 * s.ply.scrub + 16 ≤ 0x20000 := by omega
  have ha : a < 0x20000 := by omega
  have dtcm : ∀ j : Fin 3, (s.scrubWord itcmKey (16 * s.ply.scrub)).byte (dtcmKey j a) = s.byte (dtcmKey j a) :=
    fun j => itcmKey_tcm.scrubWord_other dtcmKey_tcm (by decide) hs word j ha
  refine ⟨?_, ?_⟩
  · refine (dtcmKey_tcm.scrubWord_inside hs' _ k i).trans ?_
    exact congr (congrArg₂ maj (dtcm 0) (dtcm 1)) (dtcm 2)
  · exact (dtcmKey_tcm.scrubWord_other itcmKey_tcm (by decide) hs' word k ha).trans
      (itcmKey_tcm.scrubWord_inside hs _ k i)

/-- The scrubber moves on to its next word, and counts a pass at the last. -/
def State.scrubNext (s : State) : State :=
  if s.ply.scrub = 8191 then { s with ply := { s.ply with scrub := 0 } }.inc R.PLY_SCRUB_PASSES
  else { s with ply := { s.ply with scrub := s.ply.scrub + 1 } }

theorem exec_plyScrub (hr : s.plyRuns = true) (hm : s.plyMode = 0) (hn : s.get R.PLY_STATUS_RETIRED = 3)
    (hd : s.tcmBad dtcmKey 0 (16 * s.ply.scrub) = false) (hi : s.tcmBad itcmKey 0 (16 * s.ply.scrub) = false) :
    exec .plyScrub s = .next s.scrubbed.scrubNext := by
  change Host.Outcome.next (if s.plyRuns && decide (s.plyMode = 0) && decide (s.get R.PLY_STATUS_RETIRED = 3) then
    (if s.tcmBad dtcmKey 0 (16 * s.ply.scrub) || s.tcmBad itcmKey 0 (16 * s.ply.scrub) then (s.plyFault 4).resyncWindow
      else s.scrubbed.scrubNext) else s) = _
  rw [if_pos (by simp [hr, hm, hn]), if_neg (by simp [hd, hi])]

theorem State.scrubNext_shows (s : State) (hw : s.ply.scrub < 8192) :
    s.scrubNext.ply.scrub = (s.ply.scrub + 1) % 8192 ∧ ∀ b, s.scrubNext.byte b = s.byte b := by
  unfold State.scrubNext
  split
  · rename_i h
    exact ⟨(by rw [h]; rfl), fun _ => rfl⟩
  · have within : s.ply.scrub + 1 < 8192 := by omega
    exact ⟨(Nat.mod_eq_of_lt within).symm, fun _ => rfl⟩

/-! ### The watchdogs (R185) -/

/-- The watchdog of core `c` counts from the start again. -/
def State.wdRestarted (s : State) (c : Nat) : State :=
  { s with ply := { s.ply with wdHalf := without s.ply.wdHalf c } }

theorem exec_plyWatchdogKick {q : Who} {c : Nat} (h0 : s.on 0 = true) (hq : kickCore q.req = some c) (v : Word) :
    exec (.plyWatchdogKick q v) s =
      .next (if v.toNat = 0xC35A then (s.reply q.req .ok 0).wdRestarted c else s.reply q.req .ok 0) := by
  refine congrArg Host.Outcome.next ((s.via_on q.req _ h0).trans ?_)
  rw [State.wdKick, hq]
  rfl

theorem State.wdRestarted_onlyIn (s : State) (q : Req) (c : Nat) :
    OnlyIn [.ply, .resp] s ((s.reply q .ok 0).wdRestarted c) :=
  (((Moves.refl 0x2000002 s).step (s.reply_moves q .ok 0) (by decide)).step State.upd_ply_moves (by decide)).onlyIn _
    (by decide)

theorem mem_without {α : Type} [DecidableEq α] {l : List α} {x y : α} (h : y ≠ x) : y ∈ without l x ↔ y ∈ l := by
  simp [without, h]

/-- Half of TIMEOUT has passed for core `c`. -/
def State.wdWarned (s : State) (c : Nat) : State :=
  { s with ply := { s.ply with wdHalf := insOnce s.ply.wdHalf c } }

theorem exec_plyWatchdogWarning {c : Fin 3} (h : s.wdCounts c = true) :
    exec (.plyWatchdogWarning c) s = .next ((s.wdWarned c).raise 153) := congrArg Host.Outcome.next (if_pos h)

theorem exec_plyWatchdogExpiry {c : Fin 3} (h : s.wdCounts c = true) (hc : c.val ∈ s.ply.wdHalf) :
    exec (.plyWatchdogExpiry c) s = .next (s.plyFault 5).resyncWindow :=
  congrArg Host.Outcome.next (if_pos (by simp [h, hc]))

end

/-! ### The statement -/

/-- Settles O34: each clause is one event of the Ply, of which the lemmas above say what it does. -/
theorem plyModesAndWatchdogs : Obligations.PlyModesAndWatchdogs := by
  unfold Obligations.PlyModesAndWatchdogs
  refine ⟨fun s h hr => ⟨_, exec_plySplitComplete h hr, s.splitDone_shows⟩, fun s hs h hc hr => ?_,
    fun s h hc hr => ⟨_, exec_plyJoinComplete h hc hr, s.joinDone_shows⟩, fun s hs hr hm hn hw hd hi => ?_,
    fun q v c s h0 hq => ⟨fun hv => ?_, fun hv => ?_⟩,
    fun c s h => ⟨s.wdWarned c, exec_plyWatchdogWarning h, mem_insOnce ..,
      State.upd_ply_moves.onlyIn [.ply] (by decide)⟩,
    fun c s h hc => exec_plyWatchdogExpiry h hc⟩
  · refine ⟨_, exec_plyJoinTcmCopyDone h hc hr, rfl, s.joinCopied_onlyIn, fun k hk a ha => ?_⟩
    have copied := State.byte_foldl_copyTcms (handStrands_lt hk) ha
      (handStrands_range (s.get R.PLY_MODE_CUR) s.ply.target) hs
    rw [if_pos hk] at copied
    exact copied
  · obtain ⟨next, bytes⟩ := s.scrubbed.scrubNext_shows (by rwa [s.scrubbed_ply])
    rw [s.scrubbed_ply] at next
    refine ⟨_, exec_plyScrub hr hm hn hd hi, next, fun k i => ?_⟩
    simp only [bytes]
    exact State.scrubbed_byte hs hw k i
  · have key : v.toNat = 0xC35A := by rw [hv]; rfl
    exact ⟨_, (exec_plyWatchdogKick h0 hq v).trans (congrArg _ (if_pos key)), not_mem_without s.ply.wdHalf c,
      fun d hd => mem_without hd, s.wdRestarted_onlyIn q.req c⟩
  · have key : v.toNat ≠ 0xC35A := BitVec.toNat_ne.mp hv
    exact (exec_plyWatchdogKick h0 hq v).trans (congrArg _ (if_neg key))

end Sys2Proof.Machine
end

section
/-!
PROOFS of the statements on calls and on an instruction with no meaning (O10, O17), with the rules they rest on: the
core that an instruction's effect acts on, how an instruction that meets nothing in its way completes, the general
registers after a load's slot, and how an exception is taken.
-/

namespace Sys2Proof.Machine

/-! ### Words -/

/-- A word with its two lowest bits cleared. -/
theorem and_fffffffc (x : Word) : x &&& (0xFFFFFFFC : Word) = BitVec.ofNat 32 (x.toNat / 4 * 4) := by
  have mask : (0xFFFFFFFC : Word) = BitVec.allOnes 32 <<< 2 := by decide
  rw [mask, ← BitVec.shiftLeft_ushiftRight]
  refine BitVec.eq_of_toNat_eq ?_
  simp [Nat.shiftRight_eq_div_pow, Nat.shiftLeft_eq]

/-- The target of a relative jump, as a sum of integers (R220). -/
theorem Core.rel_signExtend (k : Core) {n : Nat} (off : BitVec n) :
    k.rel (off.signExtend 32) = BitVec.ofInt 32 (k.pc.toNat + 4 * off.toInt) := by
  rw [BitVec.ofInt_add, BitVec.ofInt_mul, BitVec.ofInt_natCast, BitVec.ofNat_toNat, BitVec.setWidth_eq]
  rfl

/-! ### The general registers and a load's slot (R190, R195) -/

/-- The load `ld` of an instruction before has written its destination. -/
def Core.landed (k : Core) (ld : Option (Fin 32 × Word)) : Core :=
  match ld with
  | some (r, v) => k.wr r v
  | none => k

theorem Core.wr_eq (k : Core) (r : Fin 32) (v : Word) : k.wr r v = { k with g := (k.wr r v).g } := by
  unfold Core.wr; split <;> rfl

@[simp] theorem Core.next_step (k : Core) : k.next.step = k.step := by rw [Core.next]

@[simp] theorem Core.wr_step (k : Core) (r : Fin 32) (v : Word) : (k.wr r v).step = k.step := by rw [k.wr_eq]
@[simp] theorem Core.wr_pc (k : Core) (r : Fin 32) (v : Word) : (k.wr r v).pc = k.pc := by rw [k.wr_eq]

theorem Core.landed_eq (k : Core) (ld : Option (Fin 32 × Word)) :
    k.landed ld = { k with g := (k.landed ld).g } := by
  cases ld with
  | none => rfl
  | some x => exact k.wr_eq x.1 x.2

theorem Core.rd_landed (k : Core) (r : Fin 32) : (k.landed k.ld).rd r = k.rest r := by
  cases h : k.ld with
  | none => simp [Core.landed, Core.rest, h]
  | some x =>
    obtain ⟨q, w⟩ := x
    rw [Core.landed, Core.rest, h, Core.rd_wr]
    by_cases hr : r = 0
    · simp [hr, Core.rd]
    · simp [hr, eq_comm]

/-! ### The end of an instruction (R195, R447) -/

/-- The core after `n` cycles. -/
def Core.spent (k : Core) (n : Nat) : Core := { k with cycle := k.cycle + BitVec.ofNat 32 n }

@[simp] theorem Core.spent_step (k : Core) (n : Nat) : (k.spent n).step = k.step := rfl

/-- The core that the effect of an instruction of `n` cycles acts on. -/
def Core.issued (k : Core) (n : Nat) : Core :=
  { k.spent n with ld := none, ldNext := none, fromEret := false, fresh := false, resumed := false }

@[simp] theorem Core.issued_step (k : Core) (n : Nat) : (k.issued n).step = k.step := rfl
@[simp] theorem Core.issued_pc (k : Core) (n : Nat) : (k.issued n).pc = k.pc := rfl
@[simp] theorem Core.issued_rd (k : Core) (n : Nat) (r : Fin 32) : (k.issued n).rd r = k.rd r := rfl
@[simp] theorem Core.issued_mpu (k : Core) (n : Nat) : (k.issued n).mpu = k.mpu := rfl

/-- The core `k` after an instruction that wrote `dests` and whose effect left the core `j`. -/
def Core.ended (k j : Core) (dests : List (Fin 32)) : Core :=
  let j' := match k.ld with
    | some (r, v) => if r ∈ dests ∨ j.ldNext.map Prod.fst = some r then j else j.wr r v
    | none => j
  { j' with ld := j'.ldNext, ldNext := none, fetchO := k.mpuO, fetchS := k.mpuS }

theorem Core.retire_eq (k : Core) (n : Nat) (dests : List (Fin 32)) (f : Core → Core) :
    (k.spent n).retire dests f = k.ended (f (k.issued n)) dests := rfl

theorem Core.retire_congr {k : Core} {n : Nat} {f g : Core → Core} (dests : List (Fin 32))
    (h : f (k.issued n) = g (k.issued n)) : (k.spent n).retire dests f = (k.spent n).retire dests g := by
  rw [Core.retire_eq, Core.retire_eq, h]

@[simp] theorem Core.ended_step (k j : Core) (dests : List (Fin 32)) : (k.ended j dests).step = j.step := by
  unfold Core.ended
  cases k.ld with
  | none => rfl
  | some x => dsimp only; split <;> simp

/-- An instruction that writes no register and starts no load: its effect stands, and the load before it lands. -/
theorem Core.ended_nil (k : Core) {j : Core} (h : j.ldNext = none) :
    k.ended j [] = { j.landed k.ld with ld := none, ldNext := none, fetchO := k.mpuO, fetchS := k.mpuS } := by
  unfold Core.ended
  cases k.ld with
  | none => simp [Core.landed, h]
  | some x =>
    have unloaded : (j.wr x.1 x.2).ldNext = none := by rw [j.wr_eq]; exact h
    simp [Core.landed, h, unloaded]

/-- An instruction that may change PFEN and INVAL beside the PC leaves every other register of the core as it was, and
the general registers as the slot of the load before it leaves them. -/
theorem Core.retire_ran {k : Core} {f : Core → Core} {n : Nat} {pc : Word} {p : Bool} {i : Option Word}
    (hf : f (k.issued n) = { k.issued n with pfen := p, inval := i, pc := pc }) :
    { k with pfen := p, inval := i }.Ran ((k.spent n).retire [] f) pc n
      ∧ k.KeepsRegs ((k.spent n).retire [] f) := by
  rw [Core.retire_eq, hf, Core.ended_nil _ rfl, Core.landed_eq]
  have g : (({ k.issued n with pfen := p, inval := i, pc := pc } : Core).landed k.ld).g = (k.landed k.ld).g := by
    cases k.ld with
    | none => rfl
    | some x => simp only [Core.landed, Core.wr]; split <;> rfl
  rw [g]
  exact ⟨rfl, k.rd_landed⟩

/-! ### An instruction that meets nothing in its way (R212) -/

@[simp] theorem State.coreAt_cycles (s : State) (c : Fin 3) (n : Nat) :
    (s.cycles c n).coreAt c = (s.coreAt c).spent n := (State.coreAt_updCore s c c _).trans (if_pos rfl)

theorem State.Ready.issue {s : State} {c : Fin 3} (h : s.Ready c) (n : Nat) (f : State → State) :
    s.issue c n f = f (s.cycles c n) := State.issue_ready h n f

theorem State.updCore_congr {s : State} {c : Nat} {f g : Core → Core} (h : f (s.coreAt c) = g (s.coreAt c)) :
    s.updCore c f = s.updCore c g := by
  rw [State.updCore, h, State.updCore]

/-- With no step in progress, an instruction whose effect starts none ends at once. -/
theorem State.Ready.complete {s : State} {c : Fin 3} (h : s.Ready c) (n : Nat) (dests : List (Fin 32))
    {f : Core → Core} (hf : (f ((s.coreAt c).issued n)).step = (s.coreAt c).step) :
    (s.cycles c n).complete c dests f = s.updCore c fun k => (k.spent n).retire dests f := by
  rw [State.complete_ready dests f (by rw [State.coreAt_cycles, Core.retire_eq, Core.ended_step, hf, h.noStep]),
    State.cycles, State.updCore_updCore]
  rfl

/-- The instruction `i` writes `rd` and goes on at `pc`. -/
theorem State.Ready.writesReg {s : State} {c : Fin 3} {i : Instr} {rd : Fin 32} {f : Core → Core} {v pc : Word}
    {n : Nat} (h : s.Ready c) (hi : exec i s = .next ((s.cycles c n).complete c [rd] f))
    (hf : f ((s.coreAt c).issued n) = { ((s.coreAt c).issued n).wr rd v with pc := pc }) :
    WritesReg i s c rd v pc n := by
  have noStep : (f ((s.coreAt c).issued n)).step = (s.coreAt c).step := by simp [hf]
  refine ⟨_, hi.trans (congrArg _ (h.complete n [rd] noStep)), CoreOnly.updCore .., ?_⟩
  rw [State.coreAt_updCore, if_pos rfl]
  exact Core.rd_retire _ _ _ _ _ _ hf

/-! ### Calls (R191, R220) -/

theorem exec_call {s : State} {c : Fin 3} (h : s.Ready c) (off : BitVec 26) :
    exec (.call c off) s = .next ((s.cycles c 2).complete c [31] fun k =>
      { k.wr 31 (k.pc + 4) with pc := k.rel (off.signExtend 32) }) :=
  congrArg Host.Outcome.next (h.issue 2 _)

theorem exec_callr {s : State} {c : Fin 3} (h : s.Ready c) (ra : Fin 32) :
    exec (.callr c ra) s = .next ((s.cycles c 2).complete c [31] fun k =>
      { k.wr 31 (k.pc + 4) with pc := k.rd ra &&& 0xFFFFFFFC }) :=
  congrArg Host.Outcome.next (h.issue 2 _)

/-- Settles O10: a call writes its own next address into lk, and its target is the sum or the word that R220 gives. -/
theorem callsWriteLinkOnly : Obligations.CallsWriteLinkOnly := by
  unfold Obligations.CallsWriteLinkOnly
  refine ⟨fun c off s h => h.writesReg (exec_call h off) ?_, fun c ra s h => h.writesReg (exec_callr h ra) ?_⟩
  · simp only [Core.rel_signExtend, Core.issued_pc]
  · simp only [and_fffffffc, Core.issued_pc, Core.issued_rd]

/-! ### Exceptions (R199, R200, R207) -/

/-- What waits for no slot to issue lets the load before it land. -/
theorem Core.settle_eq (k : Core) : k.settle = { k with g := (k.landed k.ld).g, ld := none } := by
  unfold Core.settle
  cases h : k.ld with
  | none => exact congrArg (fun l => { k with ld := l }) h
  | some x => exact congrArg (fun j : Core => { j with ld := none }) (k.wr_eq x.1 x.2)

theorem Core.rd_settle (k : Core) (r : Fin 32) : k.settle.rd r = k.rest r := by
  rw [← k.rd_landed, k.settle_eq]
  rfl

theorem Core.settle_exl (k : Core) : k.settle.exl = k.exl := by rw [k.settle_eq]
theorem Core.settle_world (k : Core) : k.settle.world = k.world := by rw [k.settle_eq]
theorem Core.settle_step (k : Core) : k.settle.step = k.step := by rw [k.settle_eq]

section
variable {s : State} {c : Fin 3} (code : Nat) (ea : Word) (ei : Nat)

/-- In the OPEN world, with EXL clear and no step in progress, an exception enters at EVEC (R200). -/
theorem State.takeExc_enters (hx : (s.coreAt c).exl = false) (hw : (s.coreAt c).world = false)
    (hs : (s.coreAt c).step = false) :
    s.takeExc c code ea ei = s.updCore c fun k => k.settle.enter code ea ei := by
  simp only [State.takeExc, State.updCore_updCore, State.coreAt_updCore, if_true, Core.settle_exl, Core.settle_world,
    Core.settle_step, hx, hw, hs, Bool.false_eq_true, if_false]

/-- With EXL set an exception is a double fault (R207). -/
theorem State.takeExc_doubleFault (hx : (s.coreAt c).exl = true) :
    s.takeExc c code ea ei =
      ((s.updCore c fun k => k.settle.doubleFault code ea ei).plyFault 5).resyncWindow := by
  simp only [State.takeExc, State.coreAt_updCore, if_true, Core.settle_exl, hx, State.updCore_updCore]

end

theorem Core.settle_enter_entered (k : Core) (code : Nat) (ea : Word) (ei n : Nat) :
    ((k.spent n).settle.enter code ea ei).Entered k code ea ei n := by
  refine ⟨fun r => (k.spent n).rd_settle r, ?_⟩
  rw [Core.settle_eq]
  simp only [Core.enter, Core.spent]
  rw [show k.pc &&& 0xFFFFFFFC = _ from and_fffffffc k.pc]

/-! ### A word with no meaning (R212) -/

theorem exec_unassignedEncoding {s : State} {c : Fin 3} {w : Word} (h : s.Ready c) (hw : assigned w.toNat = false) :
    exec (.unassignedEncoding c w) s = .next ((s.cycles c 1).takeExc c 2 (s.coreAt c).pc 0) := by
  refine congrArg Host.Outcome.next (?_ : (if assigned w.toNat then s else s.issue c 1 fun s => s.illegal c) = _)
  rw [hw, h.issue, State.illegal, State.coreAt_cycles]
  rfl

/-- Settles O17: ILLEGAL is the exception of code 2 at the PC, one cycle on, which EXL makes an entry or a double
fault. -/
theorem illegalInstruction : Obligations.IllegalInstruction := by
  unfold Obligations.IllegalInstruction
  refine ⟨fun c w s h hw hx ho => ?_, fun c w s h hw hx => ?_⟩
  · refine ⟨_, exec_unassignedEncoding h hw, ?_⟩
    rw [State.takeExc_enters 2 _ 0 (by simpa [Core.spent] using hx) (by simpa [Core.spent] using ho)
      (by simpa [Core.spent] using h.noStep), State.cycles, State.updCore_updCore]
    refine ⟨CoreOnly.updCore .., ?_⟩
    rw [State.coreAt_updCore, if_pos rfl]
    exact (s.coreAt c).settle_enter_entered 2 _ 0 1
  · refine ⟨_, (exec_unassignedEncoding h hw).trans
      (congrArg _ (State.takeExc_doubleFault 2 _ 0 (by simpa [Core.spent] using hx))), ?_⟩
    rw [State.cycles, State.updCore_updCore]
    refine ⟨CoreOnly.updCore .., ?_⟩
    rw [State.coreAt_updCore, if_pos rfl, Core.settle_eq]
    exact ⟨rfl, rfl, rfl, rfl, rfl, rfl⟩

end Sys2Proof.Machine
end

section
/-!
PROOFS of the statement on the control and status registers of a strand (O18), with the rules it rests on: what a read
leaves in its register, and what a write that no lock freezes sets.
-/

namespace Sys2Proof.Machine

/-! ### Reads (R210, R224) -/

/-- A read of a listed CSR, on a core that has spent the instruction's cycle. -/
theorem State.csrRead_listed {s : State} {c : Nat} {n : Nat} {v : Word} (rd : Fin 32)
    (hi : n = 0x030 → (s.coreAt c).inval = none) (hv : (s.coreAt c).csr c n = some v) :
    s.csrRead c rd n = s.complete c [rd] fun k => (k.wr rd (if n = 0x020 then v - 1 else v)).next := by
  have idle : (if n = 0x030 then s.csrInval c else s) = s := by
    split
    next e => rw [State.csrInval, hi e]
    next => rfl
  rw [State.csrRead, idle]
  simp only [hv]

theorem exec_csrrd {s : State} {c : Fin 3} (h : s.Ready c) (rd : Fin 32) (n : BitVec 12) :
    exec (.csrrd c rd n) s = .next ((s.cycles c 1).csrRead c rd n.toNat) := congrArg Host.Outcome.next (h.issue 1 _)

/-- CSRRD of CYCLE takes off the cycle it spends itself. -/
theorem State.Ready.csrrd {s : State} {c : Fin 3} {n : BitVec 12} {v : Word} (h : s.Ready c) (rd : Fin 32)
    (hi : n = 0x030 → (s.coreAt c).inval = none) (hv : ((s.coreAt c).spent 1).csr c n.toNat = some v) :
    WritesReg (.csrrd c rd n) s c rd (if n.toNat = 0x020 then v - 1 else v) ((s.coreAt c).pc + 4) 1 := by
  have read : (s.cycles c 1).csrRead c rd n.toNat = (s.cycles c 1).complete c [rd] fun k =>
      (k.wr rd (if n.toNat = 0x020 then v - 1 else v)).next :=
    State.csrRead_listed rd (by rw [State.coreAt_cycles]; exact fun e => hi (BitVec.eq_of_toNat_eq e))
      (by rw [State.coreAt_cycles, hv])
  exact h.writesReg ((exec_csrrd h rd n).trans (congrArg _ read)) (by simp [Core.next])

/-- A read of CACHECTL may find the invalidation ended, and changes no other register of the core. -/
theorem State.coreAt_csrInval (s : State) (c : Fin 3) :
    ∃ i, (s.csrInval c).coreAt c = { s.coreAt c with inval := i } := by
  unfold State.csrInval
  split
  · exact ⟨_, rfl⟩
  · dsimp only
    split
    · exact ⟨none, (State.coreAt_updCore ..).trans (if_pos rfl)⟩
    · exact ⟨_, rfl⟩

theorem Core.csr_cacheCtl (k : Core) (c : Nat) :
    k.csr c 0x030 = some (BitVec.ofNat 32 (b2n k.pfen * 2 + b2n k.inval.isSome)) := rfl

theorem Core.spent_zero (k : Core) : k.spent 0 = k := by simp [Core.spent]

/-- The register that an instruction writes holds what it wrote, whatever load before it lands. -/
theorem Core.rd_retire_wr (k : Core) {rd : Fin 32} (h : rd ≠ 0) (v : Word) :
    (k.retire [rd] fun j => (j.wr rd v).next).rd rd = v := by
  have regs := (Core.rd_retire k rd 0 v (k.pc + 4) (fun j => (j.wr rd v).next)
    (by rw [Core.next, Core.wr_eq])).2 rd
  rw [if_neg h, if_pos rfl] at regs
  rw [← k.spent_zero]
  exact regs

/-- The value of CACHECTL. -/
def Core.cacheCtl (k : Core) : Word := BitVec.ofNat 32 (b2n k.pfen * 2 + b2n k.inval.isSome)

theorem State.csrRead_cacheCtl (s : State) (c : Nat) (rd : Fin 32) :
    s.csrRead c rd 0x030 = (s.csrInval c).complete c [rd] fun k =>
      (k.wr rd ((s.csrInval c).coreAt c).cacheCtl).next := by
  simp [State.csrRead, Core.csr_cacheCtl, Core.cacheCtl]

/-- CSRRD of CACHECTL: INVAL reads as it stands after the read. -/
theorem State.Ready.csrrd_cacheCtl {s : State} {c : Fin 3} {rd : Fin 32} (h : s.Ready c) (hr : rd ≠ 0) :
    ∃ t b, exec (.csrrd c rd 0x030) s = .next t ∧ OnlyIn [.core, .free] s t
      ∧ (t.coreAt c).rd rd = BitVec.ofNat 32 (b2n (s.coreAt c).pfen * 2 + b2n b) := by
  obtain ⟨i, hi⟩ := (s.cycles c 1).coreAt_csrInval c
  rw [State.coreAt_cycles] at hi
  have noStep : ((((s.cycles c 1).csrInval c).coreAt c).retire [rd] fun k =>
      (k.wr rd (((s.cycles c 1).csrInval c).coreAt c).cacheCtl).next).step = false := by
    rw [← Core.spent_zero (State.coreAt ..), Core.retire_eq, Core.ended_step, hi]
    simpa using h.noStep
  have read := exec_csrrd h rd 0x030
  rw [show (0x030 : BitVec 12).toNat = 0x030 from rfl, State.csrRead_cacheCtl, State.complete_ready _ _ noStep] at read
  refine ⟨_, i.isSome, read, ?_, ?_⟩
  · exact (((State.cycles_moves s c 1).mono (K' := 0x1000001) (by decide)).step (State.csrInval_moves ..) (by decide)
      |>.step (State.updCore_moves ..) (by decide)).onlyIn _ (by decide)
  · rw [State.coreAt_updCore, if_pos rfl, Core.rd_retire_wr _ hr, hi]
    rfl

/-! ### Writes (R205, R224) -/

/-- Which numbers are listed does not depend on the core. -/
theorem Core.isSome_csr (k j : Core) (c n : Nat) : (k.csr c n).isSome = (j.csr c n).isSome := by
  simp only [Core.csr, apply_ite Option.isSome, Option.isSome_some, Option.isSome_none]

theorem Core.setMpu_step (k : Core) (f : Mpu → Mpu) : (k.setMpu f).step = k.step := by
  unfold Core.setMpu
  split <;> rfl

theorem Core.csrSet_step (k : Core) (n : Nat) (v : Word) : (k.csrSet n v).step = k.step := by
  have tuse : (k.setTuse (v.setWidth 8)).step = k.step := rfl
  simp only [Core.csrSet, apply_ite Core.step, Core.setMpu_step, tuse, ite_self]

theorem Core.setMpu_congr {k : Core} {f g : Mpu → Mpu} (h : f k.mpu = g k.mpu) : k.setMpu f = k.setMpu g := by
  unfold Core.mpu at h
  unfold Core.setMpu
  split at h <;> simp_all

/-- The side effect of a lawful write of CSR `n`: ICOMP completes its source, an INVAL of 1 drops lines (R257, R301). -/
def State.csrEffect (s : State) (c n : Nat) (v : Word) : State :=
  let s := if n = 0x013 then s.icuComplete c (v.toNat % 256) else s
  if n = 0x030 ∧ v.toNat.testBit 0 = true then s.dropLines c else s

/-- A write of a listed CSR that no lock freezes has its side effect and sets the register. The cycle of the instruction
bears on neither condition. -/
theorem State.csrWrite_lawful {s : State} {c : Fin 3} {n : Nat} {v : Word}
    (hl : ((s.coreAt c).csr c n).isSome = true) (hz : (s.coreAt c).csrFrozen n v = false) :
    (s.cycles c 1).csrWrite c n v =
      ((s.cycles c 1).csrEffect c n v).complete c [] fun k => (k.csrSet n v).next := by
  have listed : (((s.cycles c 1).coreAt c).csr c n).isNone = false := by
    rw [Option.isNone_eq_false_iff, Core.isSome_csr _ (s.coreAt c)]
    exact hl
  have thawed : ((s.cycles c 1).coreAt c).csrFrozen n v = false := by
    rw [State.coreAt_cycles]
    exact hz
  simp only [State.csrWrite, listed, thawed, Bool.false_eq_true, if_false]
  rfl

theorem State.csrEffect_none (s : State) (c : Nat) {n : Nat} (v : Word) (h13 : n ≠ 0x013) (h30 : n ≠ 0x030) :
    s.csrEffect c n v = s := by
  simp [State.csrEffect, h13, h30]

/-- A write without a side effect changes the core alone. -/
theorem State.Ready.csrWrite_only {s : State} {c : Fin 3} (h : s.Ready c) {n : Nat} {v : Word}
    (hl : ((s.coreAt c).csr c n).isSome = true) (hz : (s.coreAt c).csrFrozen n v = false) (h13 : n ≠ 0x013)
    (h30 : n ≠ 0x030) :
    (s.cycles c 1).csrWrite c n v = s.updCore c fun k => (k.spent 1).retire [] fun j => (j.csrSet n v).next := by
  rw [State.csrWrite_lawful hl hz, State.csrEffect_none _ _ _ h13 h30]
  exact h.complete 1 [] (by simp [Core.csrSet_step])

theorem State.Ready.issue_csrWrite {s : State} {c : Fin 3} (h : s.Ready c) (n : Nat) (ra : Fin 32) :
    (s.issue c 1 fun s => s.csrWrite c n ((s.coreAt c).rd ra)) =
      (s.cycles c 1).csrWrite c n ((s.coreAt c).rd ra) := by
  rw [h.issue, State.coreAt_cycles]
  rfl

theorem exec_csrwr {s : State} {c : Fin 3} (h : s.Ready c) (n : BitVec 12) (ra : Fin 32) :
    exec (.csrwr c n ra) s = .next ((s.cycles c 1).csrWrite c n.toNat ((s.coreAt c).rd ra)) :=
  congrArg Host.Outcome.next (h.issue_csrWrite ..)

theorem exec_cacheInvalidate {s : State} {c : Fin 3} (h : s.Ready c) (ra : Fin 32) :
    exec (.cacheInvalidate c ra) s = .next ((s.cycles c 1).csrWrite c 0x030 ((s.coreAt c).rd ra)) :=
  congrArg Host.Outcome.next (h.issue_csrWrite ..)

theorem exec_mpuLock {s : State} {c : Fin 3} (h : s.Ready c) (ra : Fin 32) :
    exec (.mpuLock c ra) s = .next ((s.cycles c 1).csrWrite c 0x058 ((s.coreAt c).rd ra)) :=
  congrArg Host.Outcome.next (h.issue_csrWrite ..)

theorem exec_icuCompletion {s : State} {c : Fin 3} (h : s.Ready c) (ra : Fin 32) :
    exec (.icuCompletion c ra) s = .next ((s.cycles c 1).csrWrite c 0x013 ((s.coreAt c).rd ra)) :=
  congrArg Host.Outcome.next (h.issue_csrWrite ..)

/-! ### The registers that a write of its own row sets (R196, R205, R257) -/

section
variable {s : State} {c : Fin 3} {v : Word}

/-- The core without the lines of a tag. -/
def Core.flushed (k : Core) (tag : Bool) : Core := { k with cache := k.cache.filter fun x => decide (x.2 ≠ tag) }

@[simp] theorem Core.flushed_step (k : Core) (tag : Bool) : (k.flushed tag).step = k.step := rfl

/-- What the write of CACHECTL leaves, on a core that spends one cycle. -/
theorem Core.retire_invalidate (k : Core) (tag p : Bool) :
    let t := ((k.flushed tag).spent 1).retire [] fun j => { j with pfen := p, inval := some j.cycle }.next
    k.KeepsRegs t ∧ { k with
      cache := k.cache.filter fun x => decide (x.2 ≠ tag)
      pfen := p, inval := some (k.cycle + 1) }.Ran t (k.pc + 4) 1 :=
  (Core.retire_ran (k := k.flushed tag) (p := p) (i := some (k.cycle + 1)) rfl).symm

/-- A write of CACHECTL with INVAL drops the lines of the executing world, and starts the invalidation. -/
theorem State.Ready.csrWrite_invalidate (h : s.Ready c) (hv : v.toNat.testBit 0 = true) :
    (s.cycles c 1).csrWrite c 0x030 v = s.updCore c fun k =>
      ((k.flushed (s.lineTag (s.coreAt c))).spent 1).retire [] fun j =>
        { j with pfen := v.toNat.testBit 1, inval := some j.cycle }.next := by
  have effect : (s.cycles c 1).csrEffect c 0x030 v =
      s.updCore c fun k => (k.flushed (s.lineTag (s.coreAt c))).spent 1 := by
    have drops : (s.cycles c 1).csrEffect c 0x030 v = (s.cycles c 1).dropLines c := if_pos ⟨rfl, hv⟩
    rw [drops, State.dropLines, State.coreAt_cycles]
    exact State.updCore_updCore ..
  have sets : ∀ k : Core, k.csrSet 0x030 v = { k with pfen := v.toNat.testBit 1, inval := some k.cycle } := fun k => by
    simp [Core.csrSet, hv]
  rw [State.csrWrite_lawful rfl (by simp [Core.csrFrozen]), effect, State.complete_ready, State.updCore_updCore]
  · simp only [sets]
  · rw [State.coreAt_updCore, if_pos rfl, Core.retire_eq]
    simpa [Core.csrSet_step] using h.noStep

theorem Core.retire_next (k : Core) :
    k.Ran ((k.spent 1).retire [] Core.next) (k.pc + 4) 1 ∧ k.KeepsRegs ((k.spent 1).retire [] Core.next) :=
  Core.retire_ran (k := k) (p := k.pfen) (i := k.inval) rfl

/-- A write of ICOMP that names a source active on this core ends it, and sets no register of the core. -/
theorem State.Ready.csrWrite_icomp (h : s.Ready c) (hv : v.toNat % 256 < 224)
    (ha : s.get (R.ICU_STS_ACT (v.toNat % 256)) = 1) (hb : s.get (R.ICU_STS_ACTBY (v.toNat % 256)) = c.val) :
    (s.cycles c 1).csrWrite c 0x013 v = ((s.cycles c 1).set (R.ICU_STS_ACT (v.toNat % 256)) 0).updCore c fun k =>
      k.retire [] Core.next := by
  have active : s.flag (R.ICU_STS_ACT (v.toNat % 256)) = true := by simp [State.flag, ha]
  have effect : (s.cycles c 1).csrEffect c 0x013 v = (s.cycles c 1).set (R.ICU_STS_ACT (v.toNat % 256)) 0 :=
    if_pos ⟨hv, active, hb⟩
  have sets : ∀ k : Core, k.csrSet 0x013 v = k := fun k => by simp [Core.csrSet]
  have core : ((s.cycles c 1).set (R.ICU_STS_ACT (v.toNat % 256)) 0).coreAt c = (s.coreAt c).spent 1 :=
    State.coreAt_cycles s c 1
  rw [State.csrWrite_lawful rfl (by simp [Core.csrFrozen]), effect]
  simp only [sets]
  refine State.complete_ready [] Core.next ?_
  rw [core, Core.retire_eq]
  simpa using h.noStep

/-- The write of MPUCFG that locks an MPU set not locked yet. -/
theorem Core.csrSet_mpuLock {k : Core} (hk : k.mpu.lock = false) (hv : v.toNat.testBit 1 = true) :
    k.csrSet 0x058 v = k.setMpu fun m => { m with lock := true, defAllow := v.toNat.testBit 0 } := by
  have sets : k.csrSet 0x058 v = k.setMpu fun m =>
      { m with
        lock := m.lock || v.toNat.testBit 1, defAllow := if m.lock then m.defAllow else v.toNat.testBit 0 } := rfl
  rw [sets]
  exact Core.setMpu_congr (by simp [hk, hv])

theorem State.Ready.csrWrite_mpuLock (h : s.Ready c) (hl : (s.coreAt c).mpu.lock = false)
    (hv : v.toNat.testBit 1 = true) :
    (s.cycles c 1).csrWrite c 0x058 v = s.updCore c fun k => (k.spent 1).retire [] fun j =>
      (j.setMpu fun m => { m with lock := true, defAllow := v.toNat.testBit 0 }).next := by
  rw [h.csrWrite_only rfl (by simp [Core.csrFrozen, hl]) (by decide) (by decide)]
  have unlocked : ((s.coreAt c).issued 1).mpu.lock = false := by rw [Core.issued_mpu, hl]
  exact State.updCore_congr (Core.retire_congr [] (congrArg Core.next (Core.csrSet_mpuLock unlocked hv)))

end

/-! ### The statement -/

/-- The values that the list of the statement gives are those of the CSRs after the cycle of the read. -/
theorem State.Ready.csrrd_value {s : State} {c : Fin 3} (h : s.Ready c) (rd : Fin 32) {n : BitVec 12} {v : Word}
    (hn : (n, v) ∈ [(0x002, (s.coreAt c).epc), (0x004, (s.coreAt c).eaddr), (0x006, (s.coreAt c).evec),
      (0x007, (s.coreAt c).ivec), (0x008, (s.coreAt c).escr0), (0x009, (s.coreAt c).escr1),
      (0x013, 0), (0x020, (s.coreAt c).cycle), (0x061, (s.coreAt c).tprog), (0x070, BitVec.ofNat 32 c.val)]) :
    WritesReg (.csrrd c rd n) s c rd v ((s.coreAt c).pc + 4) 1 := by
  have other {n : BitVec 12} {v : Word} (hi : n ≠ 0x030) (hc : n.toNat ≠ 0x020)
      (hv : ((s.coreAt c).spent 1).csr c n.toNat = some v) :
      WritesReg (.csrrd c rd n) s c rd v ((s.coreAt c).pc + 4) 1 := by
    have read := h.csrrd rd (fun e => absurd e hi) hv
    rwa [if_neg hc] at read
  simp only [List.mem_cons, Prod.mk.injEq, List.not_mem_nil, or_false] at hn
  rcases hn with ⟨rfl, rfl⟩ | ⟨rfl, rfl⟩ | ⟨rfl, rfl⟩ | ⟨rfl, rfl⟩ | ⟨rfl, rfl⟩ | ⟨rfl, rfl⟩ | ⟨rfl, rfl⟩ | ⟨rfl, rfl⟩
    | ⟨rfl, rfl⟩ | ⟨rfl, rfl⟩
  case inr.inr.inr.inr.inr.inr.inr.inl =>
    have read := h.csrrd rd (n := 0x020) (v := (s.coreAt c).cycle + 1) (fun e => absurd e (by decide)) rfl
    rwa [if_pos (by decide), BitVec.add_sub_cancel] at read
  all_goals exact other (by decide) (by decide) rfl

/-- Settles O18: a read answers the value of the CSR, and a write sets it after its side effect, of which the lemmas
above say what each shows. -/
theorem controlRegisters : Obligations.ControlRegisters := by
  unfold Obligations.ControlRegisters
  refine ⟨fun c rd n v s h hv hi hn => ?_, fun c rd n v s h hv => h.csrrd_value rd hv,
    fun c rd s h hr _ => h.csrrd_cacheCtl hr, fun c n ra s h => ?_, fun c ra s h => ?_, fun c ra s h => ?_,
    fun c ra s h => ?_⟩
  · have other : n.toNat ≠ 0x020 := BitVec.toNat_ne.mp hn
    have read := h.csrrd rd hi hv
    rwa [if_neg other] at read
  · intro k hl hz h13 h30
    have noIcomp : n.toNat ≠ 0x013 := BitVec.toNat_ne.mp h13
    have noInval : n.toNat ≠ 0x030 := BitVec.toNat_ne.mp h30
    exact (exec_csrwr h n ra).trans (congrArg _ (h.csrWrite_only hl hz noIcomp noInval))
  · intro k hv
    refine ⟨_, (exec_cacheInvalidate h ra).trans (congrArg _ (h.csrWrite_invalidate hv)), CoreOnly.updCore .., ?_⟩
    rw [State.coreAt_updCore, if_pos rfl]
    exact Core.retire_invalidate ..
  · intro k hl hv
    exact (exec_mpuLock h ra).trans (congrArg _ (h.csrWrite_mpuLock hl hv))
  · intro k v hv ha hb
    refine ⟨_, (exec_icuCompletion h ra).trans (congrArg _ (h.csrWrite_icomp hv ha hb)), ?_, ?_⟩
    · exact (((State.cycles_moves s c 1).mono (K' := 0x10000001000000) (by decide)).step
        (State.set_moves (d := 6) rfl) (by decide) |>.step (State.updCore_moves ..) (by decide)).onlyIn _ (by decide)
    · rw [State.coreAt_updCore, if_pos rfl, State.coreAt, State.set_core, ← State.coreAt, State.coreAt_cycles]
      obtain ⟨ran, regs⟩ := (s.coreAt c).retire_next
      exact ⟨regs, ran, State.get_set .., RegsOnly.of_set (s.cycles c 1) _ 0⟩

end Sys2Proof.Machine
end

section
/-!
PROOFS of the statement on what happens to a strand between its instructions (O35), with the rules it rests on: what a
read of flash that counts leaves unchanged, the line that a fill puts into a cache, and what an interrupt entry leaves
in the core and at the interrupt controller.
-/

namespace Sys2Proof.Machine

/-! ### Reads of flash that count (R397) -/

/-- An event is kept among those of the last hour. -/
def State.eccTimed (s : State) : State :=
  { s with flash := { s.flash with
      events := s.time.rtc.toNat :: s.flash.events.filter fun t => decide (s.time.rtc.toNat ≤ t + 3600000000) } }

theorem State.eccWindow_cases (s : State) : s.eccWindow = s.eccTimed.advise 4 ∨ s.eccWindow = s.eccTimed :=
  ite_eq_or_eq ..

theorem State.eccWindow_unc (s : State) : s.eccWindow.flash.unc = s.flash.unc := by
  rcases s.eccWindow_cases with h | h <;> rw [h]
  · exact (congrArg FlashSt.unc ((State.advise_moves s.eccTimed 4).same .flash (by decide))).trans rfl
  · rfl

theorem State.flagRise_flash (s : State) {f : Fld} (h : f.pd = 2) (n : Nat) : (s.flagRise f n).flash = s.flash :=
  (State.flagRise_moves h).same .flash (by decide)

/-- The words in error stay as they are. -/
theorem State.eccRead_unc (s : State) (a : Nat) : (s.eccRead a).2.flash.unc = s.flash.unc := by
  unfold State.eccRead
  dsimp only
  split
  · rw [State.flagRise_flash _ rfl]
    split <;> rfl
  · split
    · rw [State.eccWindow_unc, State.flagRise_flash _ rfl]
      split <;> rfl
    · rfl

theorem State.eccRead_true {s : State} {a : Nat} (h : a / 16 * 16 ∈ s.flash.unc) : (s.eccRead a).1 = true := by
  unfold State.eccRead
  rw [if_pos h]

theorem State.eccRead_false {s : State} {a : Nat} (h : a / 16 * 16 ∉ s.flash.unc) : (s.eccRead a).1 = false := by
  unfold State.eccRead
  rw [if_neg h]
  split <;> rfl

theorem State.eccRead_clean {s : State} {a : Nat} (hu : a / 16 * 16 ∉ s.flash.unc) (hc : a / 16 * 16 ∉ s.flash.corr) :
    s.eccRead a = (false, s) := by
  unfold State.eccRead
  rw [if_neg hu, if_neg hc]

/-- The two words of a line. -/
theorem line_words (a : Nat) : a / 32 * 32 / 16 * 16 = a / 32 * 32
    ∧ (a / 32 * 32 + 16) / 16 * 16 = a / 32 * 32 + 16 := by
  omega

/-- A range with no uncorrectable word holds neither word of its line. -/
theorem State.not_mem_unc {s : State} {a : Nat} (h : s.eccBad (a / 32 * 32) 32 = false) :
    a / 32 * 32 ∉ s.flash.unc ∧ a / 32 * 32 + 16 ∉ s.flash.unc := by
  simp only [State.eccBad, List.any_eq_false, Bool.and_eq_true, decide_eq_true_eq, not_and] at h
  exact ⟨fun hm => absurd (h _ hm) (by omega), fun hm => absurd (h _ hm) (by omega)⟩

theorem State.eccLine_fst (s : State) (a : Nat) : (s.eccLine a).1 =
    ((s.eccRead (a / 32 * 32)).1 || ((s.eccRead (a / 32 * 32)).2.eccRead (a / 32 * 32 + 16)).1) := rfl

theorem State.eccLine_sound {s : State} {a : Nat} (h : s.eccBad (a / 32 * 32) 32 = false) :
    (s.eccLine a).1 = false := by
  obtain ⟨lo, hi⟩ := State.not_mem_unc h
  obtain ⟨elo, ehi⟩ := line_words a
  rw [State.eccLine_fst, State.eccRead_false (by rwa [elo]), State.eccRead_false (by rwa [ehi, State.eccRead_unc])]
  rfl

theorem State.eccLine_bad {s : State} {a : Nat} (h : a / 32 * 32 ∈ s.flash.unc) : (s.eccLine a).1 = true := by
  rw [State.eccLine_fst, State.eccRead_true (by rwa [(line_words a).1])]
  rfl

theorem State.eccLine_clean {s : State} {a : Nat} (h : s.eccBad (a / 32 * 32) 32 = false)
    (hc : ∀ w ∈ s.flash.corr, w ≠ a / 32 * 32 ∧ w ≠ a / 32 * 32 + 16) : (s.eccLine a).2 = s := by
  obtain ⟨lo, hi⟩ := State.not_mem_unc h
  obtain ⟨elo, ehi⟩ := line_words a
  have first : s.eccRead (a / 32 * 32) = (false, s) :=
    State.eccRead_clean (by rwa [elo]) (by rw [elo]; exact fun hm => (hc _ hm).1 rfl)
  have second : s.eccRead (a / 32 * 32 + 16) = (false, s) :=
    State.eccRead_clean (by rwa [ehi]) (by rw [ehi]; exact fun hm => (hc _ hm).2 rfl)
  simp only [State.eccLine, first, second]

theorem State.eccLine_coreAt (s : State) (a d : Nat) : (s.eccLine a).2.coreAt d = s.coreAt d :=
  congrArg (fun v : Vector Core 3 => v.getD d {}) ((s.eccLine_moves a).same .core (by decide))

theorem State.eccLine_lineTag (s : State) (a : Nat) (k : Core) : (s.eccLine a).2.lineTag k = s.lineTag k := by
  have cfg : (s.eccLine a).2.get R.WLD_CFG_EFFCACHE = s.get R.WLD_CFG_EFFCACHE :=
    (s.eccLine_moves a).same (.pd 3) (by decide) R.WLD_CFG_EFFCACHE rfl
  simp only [State.lineTag, State.flag, cfg]

/-! ### The line that a fill puts into a cache (R196, R301) -/

/-- A line put into the cache of core `c`, whatever lines it takes the place of. -/
theorem State.linePut_shows (s : State) (c : Fin 3) (x : Nat × Bool) (l : Core → List (Nat × Bool)) :
    let t := s.updCore c fun k => { k with cache := x :: l k }
    x ∈ (t.coreAt c).cache ∧ ∀ d : Fin 3, d ≠ c → t.coreAt d = s.coreAt d := by
  refine ⟨?_, fun d hd => (State.coreAt_updCore ..).trans (if_neg hd)⟩
  rw [State.coreAt_updCore, if_pos rfl]
  exact List.mem_cons_self

theorem State.fillLine_shows (s : State) (c : Fin 3) (a : Nat) :
    (a / 32, s.lineTag (s.coreAt c)) ∈ ((s.fillLine c a).coreAt c).cache
      ∧ ∀ d : Fin 3, d ≠ c → (s.fillLine c a).coreAt d = s.coreAt d := by
  unfold State.fillLine
  dsimp only
  split
  next cached => exact ⟨cached, fun _ _ => rfl⟩
  next =>
    split
    · exact s.linePut_shows c _ Core.cache
    · exact s.freeN.2.linePut_shows c _ fun _ => _

/-- A fill that reads no uncorrectable word. -/
theorem State.filled_shows (s : State) (c : Fin 3) (a : Nat) : let t := (s.eccLine a).2.fillLine c a
    (a / 32, s.lineTag (s.coreAt c)) ∈ (t.coreAt c).cache ∧ ∀ d : Fin 3, d ≠ c → t.coreAt d = s.coreAt d := by
  obtain ⟨cached, others⟩ := (s.eccLine a).2.fillLine_shows c a
  rw [State.eccLine_coreAt, State.eccLine_lineTag] at cached
  exact ⟨cached, fun d hd => (others d hd).trans (s.eccLine_coreAt a d)⟩

theorem exec_cacheLineFill {s : State} {c : Fin 3} {a : Word} (he : s.coreExists c = true) (ho : s.coreOn c = true)
    (h2 : s.on 2 = true) (ha : inMain a.toNat = true) (hf : s.flash.op0 = none) :
    exec (.cacheLineFill c a) s = .next (if (s.eccLine a.toNat).1 then (s.eccLine a.toNat).2
      else (s.eccLine a.toNat).2.fillLine c a.toNat) := by
  refine congrArg Host.Outcome.next (if_pos ?_)
  simp [he, ho, h2, ha, State.flashOp, hf]

theorem exec_cacheLineFill_sound {s : State} {c : Fin 3} {a : Word} (he : s.coreExists c = true)
    (ho : s.coreOn c = true) (h2 : s.on 2 = true) (ha : inMain a.toNat = true) (hf : s.flash.op0 = none)
    (hb : s.eccBad (a.toNat / 32 * 32) 32 = false) :
    exec (.cacheLineFill c a) s = .next ((s.eccLine a.toNat).2.fillLine c a.toNat) := by
  rw [exec_cacheLineFill he ho h2 ha hf, State.eccLine_sound hb, if_neg Bool.false_ne_true]

/-! ### The access that waits (R198, R237, R394) -/

theorem exec_accessRetryReissue {s : State} {c : Fin 3} (he : s.coreExists c = true) (ho : s.coreOn c = true)
    (hr : (s.coreAt c).run = .issuing) (hf : s.ply.fault = false) (hh : s.bit R.DBG_STAT_HALTED c = false) :
    exec (.accessRetryReissue c) s = .next (s.reissue c) := by
  refine congrArg Host.Outcome.next (if_pos ?_)
  simp [he, ho, hr, hf, hh]

/-! ### The entry of an interrupt (R202) -/

/-- A move leaves its record in TPROG and in the count of stops alone. -/
theorem Core.recordMove_eq (k : Core) (op : BitVec 3) (acc : Bool) (t : BitVec 3) (row : Nat) (ea : Word) :
    ∃ p n, k.recordMove op acc t row ea = { k with tprog := p, tStops := n } := ⟨_, _, rfl⟩

theorem Core.parkMove_step (k : Core) : k.parkMove.step = k.step := by
  unfold Core.parkMove
  split
  next op acc t _ _ row _ _ _ ea _ =>
    split
    · rfl
    · obtain ⟨p, n, recorded⟩ := k.recordMove_eq op acc t row ea
      rw [recorded]
  · rfl

/-- Outside a move a boundary abandons the access that waits, and no more. -/
theorem Core.parkMove_still {k : Core} (h : k.moving = false) : k.parkMove = { k with wait := none, retries := 0 } := by
  unfold Core.parkMove
  split
  next hw => simp [Core.moving, hw] at h
  next => rfl

/-- The core `k` at the handler of source `n`, entered at priority `p`. -/
def Core.handling (k : Core) (n p ea ei : Nat) : Core :=
  { k.enter 0 (BitVec.ofNat 32 ea) (ei &&& 0x77) with
    ecInt := true, isrc := BitVec.ofNat 8 n, ipri := BitVec.ofNat 4 p
    pc := k.ivec + BitVec.ofNat 32 (4 * n), cycle := k.cycle + 6 }

theorem Core.enterInt_eq (k : Core) (n p ea ei : Nat) : k.enterInt n p ea ei = k.settle.parkMove.handling n p ea ei :=
  rfl

theorem Core.handling_step (k : Core) (n p ea ei : Nat) : (k.handling n p ea ei).step = k.step := rfl

theorem Core.enterInt_step (k : Core) (n p ea ei : Nat) : (k.enterInt n p ea ei).step = k.step := by
  rw [Core.enterInt_eq, Core.handling_step, Core.parkMove_step, Core.settle_step]

theorem Core.settle_moving (k : Core) : k.settle.moving = k.moving := by rw [k.settle_eq]; rfl

/-- Outside a move, an entry starts from the core whose load before has landed and whose access is abandoned. -/
theorem Core.enterInt_still {k : Core} (h : k.moving = false) (n p ea ei : Nat) :
    k.enterInt n p ea ei =
      ({ k with g := (k.landed k.ld).g, ld := none, wait := none, retries := 0 } : Core).handling n p ea ei := by
  rw [Core.enterInt_eq, Core.parkMove_still (k.settle_moving.trans h), k.settle_eq]

/-- The acknowledge of a source at the registers: its event is taken and it is active on the core (R251). -/
def State.icuTaken (s : State) (c n : Nat) : State :=
  let s := s.set (R.ICU_STS_LASTCNT n) (s.get (R.ICU_STS_EVC n))
  let s := ((s.set (R.ICU_STS_PEND n) 0).set (R.ICU_STS_EVC n) 0).icuTimerOff n
  (s.set (R.ICU_STS_ACT n) 1).set (R.ICU_STS_ACTBY n) c

/-- The interval that an acknowledge may start is in no register. -/
theorem State.get_icuAck (s : State) (c n : Nat) (f : Fld) : (s.icuAck c n).get f = (s.icuTaken c n).get f := by
  unfold State.icuAck
  dsimp only
  split <;> rfl

theorem State.icuAck_shows (s : State) {c : Nat} (hc : c < 3) (n : Nat) : let t := s.icuAck c n
    t.get (R.ICU_STS_PEND n) = 0 ∧ t.get (R.ICU_STS_ACT n) = 1 ∧ t.get (R.ICU_STS_ACTBY n) = c
      ∧ t.get (R.ICU_STS_LASTCNT n) = s.get (R.ICU_STS_EVC n) % 256 ∧ t.get (R.ICU_STS_EVC n) = 0 := by
  have off : ∀ (u : State) (f : Fld), (u.icuTimerOff n).get f = u.get f := fun _ _ => rfl
  simp only [State.get_icuAck, State.icuTaken]
  refine ⟨?_, ?_, ?_, ?_, ?_⟩
  · rw [State.get_set_apart _ rfl, State.get_set_apart _ rfl, off, State.get_set_apart _ rfl, State.get_set]
    rfl
  · rw [State.get_set_apart _ rfl, State.get_set]
    rfl
  · exact State.get_set_of_lt _ (show c < 2 ^ 2 by omega)
  · rw [State.get_set_apart _ rfl, State.get_set_apart _ rfl, off, State.get_set_apart _ rfl,
      State.get_set_apart _ rfl, State.get_set]
    rfl
  · rw [State.get_set_apart _ rfl, State.get_set_apart _ rfl, off, State.get_set]
    rfl

theorem State.coreAt_icuAck (s : State) (c n d : Nat) : (s.icuAck c n).coreAt d = s.coreAt d :=
  congrArg (fun v : Vector Core 3 => v.getD d {}) ((s.icuAck_moves c n).same .core (by decide))

/-- The core entered for source `n`, before the controller is told; EADDR and EINFO are free values. -/
def State.intEntered (s : State) (c n p : Nat) : State :=
  { s with free := s.free + 2 }.updCore c fun k =>
    k.enterInt n p (Config.freeValue s.free) (Config.freeValue (s.free + 1))

/-- With no step in progress an interrupt is the entry of the core and the acknowledge of its source. -/
theorem State.takeInt_noStep {s : State} {c : Fin 3} (n p : Nat) (h : (s.coreAt c).step = false) :
    s.takeInt c n p = (s.intEntered c n p).icuAck c n := by
  have noStep : (((s.intEntered c n p).icuAck c n).coreAt c).step = false := by
    rw [State.coreAt_icuAck, State.intEntered, State.coreAt_updCore, if_pos rfl, Core.enterInt_step]
    exact h
  refine (?_ : (if (((s.intEntered c n p).icuAck c n).coreAt c).step then _ else (s.intEntered c n p).icuAck c n) = _)
  rw [noStep]
  rfl

theorem State.coreAt_takeInt {s : State} {c : Fin 3} (n p : Nat) (h : (s.coreAt c).step = false) (d : Fin 3) :
    (s.takeInt c n p).coreAt d = if d = c then (s.coreAt c).enterInt n p (Config.freeValue s.free)
      (Config.freeValue (s.free + 1)) else s.coreAt d := by
  rw [State.takeInt_noStep n p h, State.coreAt_icuAck]
  exact State.coreAt_updCore ..

theorem exec_interruptEntry {s : State} {c : Fin 3} {n : Nat} (ht : s.takesInt c = true)
    (hn : s.icuCandidate c = some n) (hp : (s.coreAt c).ipri.toNat < s.get (R.ICU_SRC_PRI n)) :
    exec (.interruptEntry c false) s = .next (s.takeInt c n (s.get (R.ICU_SRC_PRI n))) := by
  refine congrArg Host.Outcome.next ?_
  simp [ht, hn, hp]

/-- The entry of a source withdrawn within the window, which it leaves with MASKRACE (R256). -/
def State.takeRaced (s : State) (c n p : Nat) : State :=
  let u := (s.takeInt c n p).set R.ICU_STAT_MASKRACE 1
  { u with icu := { u.icu with raced := without u.icu.raced (c, n, p) } }

theorem State.coreAt_takeRaced (s : State) (c n p d : Nat) :
    (s.takeRaced c n p).coreAt d = (s.takeInt c n p).coreAt d := by
  unfold State.takeRaced State.coreAt
  dsimp only
  rw [State.set_core]

theorem State.get_takeRaced (s : State) (c n p : Nat) (f : Fld) :
    (s.takeRaced c n p).get f = ((s.takeInt c n p).set R.ICU_STAT_MASKRACE 1).get f := by
  unfold State.takeRaced State.get
  dsimp only

theorem State.takeRaced_shows (s : State) {c : Fin 3} (h : (s.coreAt c).step = false) (n p : Nat) :
    let t := s.takeRaced c n p
    t.get R.ICU_STAT_MASKRACE = 1 ∧ (t.coreAt c).isrc = BitVec.ofNat 8 n ∧ (t.coreAt c).ipri = BitVec.ofNat 4 p
      ∧ t.get (R.ICU_STS_ACT n) = 1 := by
  obtain ⟨-, act, -⟩ := (s.intEntered c n p).icuAck_shows c.isLt n
  dsimp only
  rw [State.get_takeRaced, State.get_takeRaced, State.coreAt_takeRaced, State.coreAt_takeInt n p h, if_pos rfl,
    Core.enterInt_eq, State.get_set, State.get_set_apart _ rfl, State.takeInt_noStep n p h]
  exact ⟨rfl, rfl, rfl, act⟩

theorem exec_interruptEntry_raced {s : State} {c : Fin 3} {n p : Nat} (ht : s.takesInt c = true)
    (hx : s.icu.raced.find? (fun x => decide (x.1 = c.val)) = some (c.val, n, p)) :
    exec (.interruptEntry c true) s =
      .next (if (s.coreAt c).ipri.toNat < p then s.takeRaced c n p else s) := by
  refine congrArg Host.Outcome.next ?_
  simp only [ht, hx]
  rfl

theorem State.takesInt_ie {s : State} {c : Nat} (h : s.takesInt c = true) :
    (s.coreAt c).ie = true ∧ (s.coreAt c).exl = false := by
  simp only [State.takesInt, Bool.and_eq_true, Bool.not_eq_true'] at h
  tauto

/-- What an entry of source `n` at priority `p` outside a move leaves in the core (R200, R202). -/
theorem Core.enterInt_shows {k : Core} (h : k.moving = false) (hie : k.ie = true) (hx : k.exl = false)
    (n p ea ei : Nat) : let t := k.enterInt n p ea ei
    t.pc = k.ivec + BitVec.ofNat 32 (4 * n) ∧ t.epc = k.pc &&& 0xFFFFFFFC ∧ t.pie = true ∧ t.ie = false ∧ t.pexl = false
      ∧ t.exl = true ∧ t.pipri = k.ipri ∧ t.ipri = BitVec.ofNat 4 p ∧ t.ecInt = true ∧ t.isrc = BitVec.ofNat 8 n
      ∧ t.cycle = k.cycle + 6 ∧ t.wait = none ∧ k.KeepsRegs t := by
  rw [Core.enterInt_still h]
  exact ⟨rfl, rfl, hie, rfl, hx, rfl, rfl, rfl, rfl, rfl, rfl, rfl, k.rd_landed⟩

/-! ### The wake from a WFI (R259) -/

/-- The core goes on after a wait of a free number of cycles. -/
def State.wfiLeft (s : State) (c : Nat) : State :=
  { s with free := s.free + 1 }.updCore c fun k =>
    { k with run := .issuing, cycle := k.cycle + BitVec.ofNat 32 (Config.freeValue s.free) }

theorem exec_wfiWake {s : State} {c : Fin 3} (he : s.coreExists c = true) (h6 : s.on 6 = true)
    (hh : s.bit R.DBG_STAT_HALTED c = false) (hr : (s.coreAt c).run = .wfi) (hw : s.icuWakes c = true) :
    exec (.wfiWake c) s = .next (s.wfiLeft c) := by
  refine congrArg Host.Outcome.next ((if_pos ?_).trans (if_pos hr))
  simp [he, h6, hh, hw]

/-! ### The statement -/

/-- Settles O35: each clause is one event of a strand, of which the lemmas above say what it does. -/
theorem strandEvents : Obligations.StrandEvents := by
  unfold Obligations.StrandEvents
  refine ⟨fun c a s he ho h2 ha hf => ⟨fun hb => ?_, fun hu => ?_⟩, fun c x s he ho hr hf hh hx => ?_,
    fun c n s ht hn hs hp hm => ?_, fun c n p s ht hs hx => ⟨fun hp => ?_, fun hp => ?_⟩, fun c s he h6 hh hr hw => ?_⟩
  · obtain ⟨cached, others⟩ := s.filled_shows c a.toNat
    refine ⟨_, exec_cacheLineFill_sound he ho h2 ha hf hb, cached, fun hc => ?_, others⟩
    rw [State.eccLine_clean hb hc]
    exact (State.fillLine_moves ..).onlyIn _ (by decide)
  · refine ⟨_, exec_cacheLineFill he ho h2 ha hf, ?_⟩
    rw [State.eccLine_bad hu, if_pos rfl]
    exact (State.eccLine_moves ..).same .core (by decide)
  · rw [exec_accessRetryReissue he ho hr hf hh, State.reissue, hx]
    refine ⟨fun hw => ?_, fun hw => ⟨Config.freeValue s.free, s.freeN.2, ?_, ?_⟩, fun hw => ?_⟩
    · rw [hw]
    · rw [hw]
      rfl
    · exact s.freeN_moves.onlyIn _ (by decide)
    · rw [hw]
  · obtain ⟨hie, hexl⟩ := State.takesInt_ie ht
    obtain ⟨pend, act, actby, lastcnt, evc⟩ := (s.intEntered c n (s.get (R.ICU_SRC_PRI n))).icuAck_shows c.isLt n
    rw [← State.takeInt_noStep n _ hs] at pend act actby lastcnt evc
    obtain ⟨pc, epc, pie, ie, pexl, exl, pipri, ipri, ecInt, isrc, cycle, wait, regs⟩ :=
      Core.enterInt_shows hm hie hexl n (s.get (R.ICU_SRC_PRI n)) (Config.freeValue s.free)
        (Config.freeValue (s.free + 1))
    have entered := (State.coreAt_takeInt n (s.get (R.ICU_SRC_PRI n)) hs c).trans (if_pos rfl)
    refine ⟨_, exec_interruptEntry ht hn hp, ?_⟩
    rw [entered]
    exact ⟨pc, epc, pie, ie, pexl, exl, pipri, ipri, ecInt, isrc, cycle, wait, regs, pend, act, actby, lastcnt, evc,
      fun d hd => (State.coreAt_takeInt n _ hs d).trans (if_neg hd)⟩
  · have race := exec_interruptEntry_raced ht hx
    rw [if_pos hp] at race
    exact ⟨_, race, s.takeRaced_shows hs n.val p⟩
  · have race := exec_interruptEntry_raced ht hx
    rwa [if_neg (by omega)] at race
  · refine ⟨_, exec_wfiWake he h6 hh hr hw, ⟨_, (State.coreAt_updCore ..).trans (if_pos rfl)⟩, ?_,
      fun d hd => (State.coreAt_updCore ..).trans (if_neg hd)⟩
    exact ((Moves.refl 0x1000001 s).step State.upd_free_moves (by decide) |>.step (State.updCore_moves ..)
      (by decide)).onlyIn _ (by decide)

end Sys2Proof.Machine
end

section
/-!
PROOFS of the statement on the integer instructions (O8), with what each operation of Tables 10.3 to 10.5 computes as
a number.
-/

namespace Sys2Proof.Machine

/-! ### What each operation computes (R214 to R217) -/

theorem valSlt_eq (x y : Word) : valSlt x y = if x.toInt < y.toInt then 1 else 0 := by
  simp only [valSlt, BitVec.slt_iff_toInt_lt]

theorem valSltu_eq (x y : Word) : valSltu x y = if x.toNat < y.toNat then 1 else 0 := by
  simp only [valSltu, BitVec.ult_iff_lt, BitVec.lt_def]

theorem valMin_eq (x y : Word) : valMin x y = if x.toInt < y.toInt then x else y := by
  simp only [valMin, BitVec.slt_iff_toInt_lt]

theorem valMax_eq (x y : Word) : valMax x y = if x.toInt < y.toInt then y else x := by
  simp only [valMax, BitVec.slt_iff_toInt_lt]

theorem valMinu_eq (x y : Word) : valMinu x y = if x.toNat < y.toNat then x else y := by
  simp only [valMinu, BitVec.ult_iff_lt, BitVec.lt_def]

theorem valMaxu_eq (x y : Word) : valMaxu x y = if x.toNat < y.toNat then y else x := by
  simp only [valMaxu, BitVec.ult_iff_lt, BitVec.lt_def]

theorem valSrai_eq (x : Word) (n : Nat) : valSrai x n = BitVec.ofInt 32 (x.toInt / 2 ^ n) := by
  have shifted : x.toInt / 2 ^ n = (x.sshiftRight n).toInt := by
    rw [BitVec.toInt_sshiftRight, Int.shiftRight_eq_div_pow]
    norm_cast
  rw [shifted, BitVec.ofInt_toInt, valSrai]

theorem valSltiu_eq (x : Word) (i : BitVec 16) :
    valSltiu x i = if x.toNat < (i.signExtend 32).toNat then 1 else 0 := valSltu_eq ..

theorem zeroExtend_eq (i : BitVec 16) : (i.zeroExtend 32 : Word) = BitVec.ofNat 32 i.toNat :=
  (BitVec.ofNat_toNat ..).symm

theorem valSlti_eq (x : Word) (i : BitVec 16) : valSlti x i = if x.toInt < i.toInt then 1 else 0 := by
  rw [← BitVec.toInt_signExtend_of_le (x := i) (v := 32) (by decide)]
  exact valSlt_eq ..

theorem valAddi_eq (x : Word) (i : BitVec 16) : valAddi x i = BitVec.ofInt 32 (x.toInt + i.toInt) := by
  rw [BitVec.ofInt_add, BitVec.ofInt_toInt]
  rfl

theorem valMul_eq (x y : Word) : valMul x y = BitVec.ofInt 32 (x.toInt * y.toInt) := by
  rw [BitVec.ofInt_mul, BitVec.ofInt_toInt, BitVec.ofInt_toInt, valMul]

/-- The high word of a 64-bit product, signed or not. -/
theorem ofInt_high (i : Int) : ((BitVec.ofInt 64 i) >>> 32).setWidth 32 = BitVec.ofInt 32 (i / 2 ^ 32) := by
  refine BitVec.eq_of_toNat_eq ?_
  simp only [BitVec.toNat_setWidth, BitVec.toNat_ushiftRight, BitVec.toNat_ofInt, Nat.shiftRight_eq_div_pow]
  omega

theorem valMulh_eq (x y : Word) : valMulh x y = BitVec.ofInt 32 (x.toInt * y.toInt / 2 ^ 32) := by
  rw [← ofInt_high, BitVec.ofInt_mul]
  rfl

theorem valMulhu_eq (x y : Word) : valMulhu x y = BitVec.ofNat 32 (x.toNat * y.toNat / 2 ^ 32) := by
  have high := ofInt_high (x.toNat * y.toNat : Nat)
  rw [BitVec.ofInt_natCast, BitVec.ofNat_mul, BitVec.ofNat_toNat, BitVec.ofNat_toNat] at high
  exact high.trans (BitVec.ofInt_natCast _ _)

theorem valDiv_eq (x y : Word) :
    valDiv x y = if y = 0 then 0xFFFFFFFF else BitVec.ofInt 32 (x.toInt.tdiv y.toInt) := by
  have quotient : x.sdiv y = BitVec.ofInt 32 (x.toInt.tdiv y.toInt) :=
    BitVec.eq_of_toInt_eq (by rw [BitVec.toInt_sdiv, BitVec.toInt_ofInt])
  rw [valDiv, quotient]

theorem valRem_eq (x y : Word) : valRem x y = if y = 0 then x else BitVec.ofInt 32 (x.toInt.tmod y.toInt) := by
  rw [← BitVec.toInt_srem, BitVec.ofInt_toInt, valRem]

theorem valDivu_eq (x y : Word) : valDivu x y = if y = 0 then 0xFFFFFFFF else BitVec.ofNat 32 (x.toNat / y.toNat) := by
  rw [← BitVec.toNat_udiv, BitVec.ofNat_toNat, BitVec.setWidth_eq, valDivu]

theorem valRemu_eq (x y : Word) : valRemu x y = if y = 0 then x else BitVec.ofNat 32 (x.toNat % y.toNat) := by
  rw [← BitVec.toNat_umod, BitVec.ofNat_toNat, BitVec.setWidth_eq, valRemu]

/-- The absolute value saturates for the least word alone. -/
theorem valSabs_eq (x : Word) :
    valSabs x = if x = 0x80000000 then 0x7FFFFFFF else BitVec.ofNat 32 x.toInt.natAbs := by
  by_cases h : x = 0x80000000
  · subst h; decide
  · have least : x.toInt ≠ -2 ^ 31 := fun e => h (BitVec.eq_of_toInt_eq (e.trans (by decide)))
    have low := x.le_toInt
    have high := x.toInt_lt
    have fits : satS 32 x.toInt.natAbs = x.toInt.natAbs := by
      simp only [satS, satI]
      omega
    rw [if_neg h, valSabs, sat32, fits, BitVec.ofInt_natCast]

theorem lui_eq (i : BitVec 16) : (i.zeroExtend 32 <<< 16 : Word) = BitVec.ofNat 32 (i.toNat * 2 ^ 16) := by
  refine BitVec.eq_of_toNat_eq ?_
  simp [Nat.shiftLeft_eq]

/-! ### The instructions -/

/-- An instruction of `n` cycles that computes `v` of the registers and writes it into `rd`. -/
theorem State.Ready.alu {s : State} {c : Fin 3} {i : Instr} {rd : Fin 32} {f : Core → Word} {v : Word} {n : Nat}
    (h : s.Ready c) (hi : exec i s = .next (s.alu c n rd f)) (hv : f ((s.coreAt c).issued n) = v) :
    WritesReg i s c rd v ((s.coreAt c).pc + 4) n := by
  refine h.writesReg (f := fun k => (k.wr rd (f k)).next) (hi.trans (congrArg _ (h.issue n _))) ?_
  rw [hv, Core.next, Core.wr_pc, Core.issued_pc]

/-- The instruction `i` runs in `n` cycles and writes what `v` gives of its two registers. -/
def OfRegs (i : Fin 3 → Fin 32 → Fin 32 → Fin 32 → Instr) (v : Word → Word → Word) (n : Nat) : Prop :=
  ∀ c rd ra rb s, exec (i c rd ra rb) s = .next (s.alu c n rd fun k => v (k.rd ra) (k.rd rb))

theorem OfRegs.of_eq {i : Fin 3 → Fin 32 → Fin 32 → Fin 32 → Instr} {f v : Word → Word → Word} {n : Nat}
    (hv : ∀ x y, f x y = v x y) (hi : OfRegs i f n) : OfRegs i v n := by
  rwa [show f = v from funext₂ hv] at hi

theorem regOps_ofRegs : ∀ x ∈ regOps, OfRegs x.1 x.2.1 x.2.2 := by
  simp only [regOps, List.forall_mem_cons, List.not_mem_nil, false_implies, implies_true, and_true]
  exact ⟨fun _ _ _ _ _ => rfl, fun _ _ _ _ _ => rfl, fun _ _ _ _ _ => rfl, fun _ _ _ _ _ => rfl,
    fun _ _ _ _ _ => rfl, .of_eq valSlt_eq fun _ _ _ _ _ => rfl, .of_eq valSltu_eq fun _ _ _ _ _ => rfl,
    fun _ _ _ _ _ => rfl, fun _ _ _ _ _ => rfl,
    .of_eq (f := valSra) (fun x y => valSrai_eq x (y.toNat % 32)) fun _ _ _ _ _ => rfl,
    .of_eq valMin_eq fun _ _ _ _ _ => rfl, .of_eq valMax_eq fun _ _ _ _ _ => rfl,
    .of_eq valMinu_eq fun _ _ _ _ _ => rfl, .of_eq valMaxu_eq fun _ _ _ _ _ => rfl⟩

theorem mulOps_ofRegs : ∀ x ∈ mulOps, OfRegs x.1 x.2.1 x.2.2 := by
  simp only [mulOps, List.forall_mem_cons, List.not_mem_nil, false_implies, implies_true, and_true]
  exact ⟨.of_eq valMul_eq fun _ _ _ _ _ => rfl, .of_eq valMulh_eq fun _ _ _ _ _ => rfl,
    .of_eq valMulhu_eq fun _ _ _ _ _ => rfl, .of_eq valDiv_eq fun _ _ _ _ _ => rfl,
    .of_eq valDivu_eq fun _ _ _ _ _ => rfl, .of_eq valRem_eq fun _ _ _ _ _ => rfl,
    .of_eq valRemu_eq fun _ _ _ _ _ => rfl⟩

theorem satOps_ofRegs : ∀ x ∈ satOps, OfRegs x.1 x.2.1 x.2.2 := by
  simp only [satOps, List.forall_mem_cons, List.not_mem_nil, false_implies, implies_true, and_true]
  exact ⟨fun _ _ _ _ _ => rfl, fun _ _ _ _ _ => rfl, fun _ _ _ _ _ => rfl, fun _ _ _ _ _ => rfl⟩

theorem OfRegs.writesReg {i : Fin 3 → Fin 32 → Fin 32 → Fin 32 → Instr} {v : Word → Word → Word} {n : Nat}
    (hi : OfRegs i v n) (c : Fin 3) (rd ra rb : Fin 32) (s : State) (h : s.Ready c) :
    WritesReg (i c rd ra rb) s c rd (v ((s.coreAt c).rd ra) ((s.coreAt c).rd rb)) ((s.coreAt c).pc + 4) n :=
  h.alu (hi c rd ra rb s) rfl

/-- The instruction `i` runs in one cycle and writes what `v` gives of its register and its constant. -/
def OfReg {α : Type} (i : Fin 3 → Fin 32 → Fin 32 → α → Instr) (v : Word → α → Word) : Prop :=
  ∀ c rd ra a s, exec (i c rd ra a) s = .next (s.alu c 1 rd fun k => v (k.rd ra) a)

theorem OfReg.of_eq {α : Type} {i : Fin 3 → Fin 32 → Fin 32 → α → Instr} {f v : Word → α → Word}
    (hv : ∀ x a, f x a = v x a) (hi : OfReg i f) : OfReg i v := by
  rwa [show f = v from funext₂ hv] at hi

theorem shiftOps_ofReg : ∀ x ∈ shiftOps, OfReg x.1 fun w n => x.2 w n.val := by
  simp only [shiftOps, List.forall_mem_cons, List.not_mem_nil, false_implies, implies_true, and_true]
  have srai : OfReg Instr.srai fun w n => valSrai w n.val := fun _ _ _ _ _ => rfl
  exact ⟨fun _ _ _ _ _ => rfl, fun _ _ _ _ _ => rfl, .of_eq (fun w n => valSrai_eq w n.val) srai⟩

theorem immOps_ofReg : ∀ x ∈ immOps, OfReg x.1 x.2 := by
  simp only [immOps, List.forall_mem_cons, List.not_mem_nil, false_implies, implies_true, and_true]
  exact ⟨.of_eq valAddi_eq fun _ _ _ _ _ => rfl, .of_eq valSlti_eq fun _ _ _ _ _ => rfl,
    .of_eq valSltiu_eq fun _ _ _ _ _ => rfl,
    .of_eq (f := valAndi) (fun x i => congrArg (x &&& ·) (zeroExtend_eq i)) fun _ _ _ _ _ => rfl,
    .of_eq (f := valOri) (fun x i => congrArg (x ||| ·) (zeroExtend_eq i)) fun _ _ _ _ _ => rfl,
    .of_eq (f := valXori) (fun x i => congrArg (x ^^^ ·) (zeroExtend_eq i)) fun _ _ _ _ _ => rfl⟩

theorem OfReg.writesReg {α : Type} {i : Fin 3 → Fin 32 → Fin 32 → α → Instr} {v : Word → α → Word} (hi : OfReg i v)
    (c : Fin 3) (rd ra : Fin 32) (a : α) (s : State) (h : s.Ready c) :
    WritesReg (i c rd ra a) s c rd (v ((s.coreAt c).rd ra) a) ((s.coreAt c).pc + 4) 1 :=
  h.alu (hi c rd ra a s) rfl

/-- Settles O8: each instruction writes what its operation computes, which the lemmas above give as a number. -/
theorem integerArithmetic : Obligations.IntegerArithmetic := by
  unfold Obligations.IntegerArithmetic
  exact ⟨fun x hx => (regOps_ofRegs x hx).writesReg, fun x hx => (mulOps_ofRegs x hx).writesReg,
    fun x hx => (satOps_ofRegs x hx).writesReg, fun c rd ra s h => h.alu rfl (valSabs_eq _),
    fun c rd ra n s h => h.alu rfl rfl, fun c rd ra n s h => h.alu rfl rfl,
    fun x hx => (shiftOps_ofReg x hx).writesReg, fun x hx => (immOps_ofReg x hx).writesReg,
    fun c rd imm s h => h.alu rfl (lui_eq imm)⟩

end Sys2Proof.Machine
end

section
/-!
PROOFS of the statement on branches and jumps (O9), with the rule that the statements on instructions without a load
share: what the end of an instruction leaves of a core that its effect has changed.
-/

namespace Sys2Proof.Machine

/-! ### An instruction that writes no register (R195, R212) -/

/-- The core `j` is `k` in all that the end of an instruction reads: the general registers, the MPU sets and a step in
progress. -/
structure Core.Alike (k j : Core) : Prop where
  g : j.g = k.g
  mpuO : j.mpuO = k.mpuO
  mpuS : j.mpuS = k.mpuS
  step : j.step = k.step

theorem Core.Alike.refl (k : Core) : k.Alike k := ⟨rfl, rfl, rfl, rfl⟩

theorem Core.Alike.landed_g {k j : Core} (h : k.Alike j) (ld : Option (Fin 32 × Word)) :
    (j.landed ld).g = (k.landed ld).g := by
  cases ld with
  | none => exact h.g
  | some x =>
    simp only [Core.landed, Core.wr]
    split
    · exact h.g
    · exact congrArg (fun g : Vector Word 32 => g.set x.1 x.2) h.g

/-- The end of an instruction that starts no load: its effect stands, and the load before it lands. -/
theorem Core.Alike.retire_eq {k : Core} {f : Core → Core} {n : Nat} (h : k.Alike (f (k.issued n)))
    (hl : (f (k.issued n)).ldNext = none) :
    (k.spent n).retire [] f = { f (k.issued n) with
      g := (k.landed k.ld).g, ld := none, ldNext := none, fetchO := k.mpuO, fetchS := k.mpuS } := by
  rw [Core.retire_eq, Core.ended_nil _ hl, Core.landed_eq, h.landed_g]

/-- An instruction that turns the core into `j` and goes on at `pc` leaves `j`, with the load before it landed. -/
theorem Core.Alike.retire {k j : Core} {f : Core → Core} {n : Nat} {pc : Word} (h : k.Alike j)
    (hf : f (k.issued n) = { j.issued n with pc := pc }) :
    k.KeepsRegs ((k.spent n).retire [] f) ∧ j.Ran ((k.spent n).retire [] f) pc n := by
  have alike : k.Alike (f (k.issued n)) := hf ▸ ⟨h.g, h.mpuO, h.mpuS, h.step⟩
  rw [alike.retire_eq (hf ▸ rfl), hf, ← h.mpuO, ← h.mpuS]
  exact ⟨k.rd_landed, rfl⟩

/-- An instruction whose effect leaves a step in progress alone ends at once where there is none. -/
theorem State.Ready.ends {s : State} {c : Fin 3} (h : s.Ready c) (n : Nat) (dests : List (Fin 32)) {f : Core → Core}
    (hf : ∀ k : Core, (f k).step = k.step) :
    (s.cycles c n).complete c dests f = s.updCore c fun k => (k.spent n).retire dests f :=
  h.complete n dests ((hf _).trans (Core.issued_step ..))

/-- The effect of an instruction of `n` cycles on a strand that meets nothing in its way: only the core changes, and
it is `j` at `pc` then. -/
theorem State.Ready.completes {s : State} {c : Fin 3} {j : Core} {f : Core → Core} {n : Nat} {pc : Word}
    (h : s.Ready c) (hj : (s.coreAt c).Alike j)
    (hf : f ((s.coreAt c).issued n) = { j.issued n with pc := pc }) :
    let t := (s.cycles c n).complete c [] f
    CoreOnly c s t ∧ (s.coreAt c).KeepsRegs (t.coreAt c) ∧ j.Ran (t.coreAt c) pc n := by
  intro t
  have ends : t = s.updCore c fun k => (k.spent n).retire [] f := h.complete n [] ((congrArg Core.step hf).trans hj.step)
  rw [ends, State.coreAt_updCore, if_pos rfl]
  exact ⟨CoreOnly.updCore .., hj.retire hf⟩

/-! ### Branches and jumps (R220) -/

/-- The instruction `i` branches where `p` holds of its two registers. -/
def OfBranch (i : Fin 3 → Fin 32 → Fin 32 → BitVec 16 → Instr) (p : Word → Word → Bool) : Prop :=
  ∀ c ra rb off s, exec (i c ra rb off) s = .next (s.branch c ra rb off p)

theorem OfBranch.of_eq {i : Fin 3 → Fin 32 → Fin 32 → BitVec 16 → Instr} {p q : Word → Word → Bool}
    (hp : ∀ x y, p x y = q x y) (hi : OfBranch i p) : OfBranch i q := by
  rwa [show p = q from funext₂ hp] at hi

theorem slt_eq_false_iff (x y : Word) : x.slt y = false ↔ y.toInt ≤ x.toInt := by
  rw [Bool.eq_false_iff, ne_eq, BitVec.slt_iff_toInt_lt, not_lt]

theorem ult_eq_false_iff (x y : Word) : x.ult y = false ↔ y.toNat ≤ x.toNat := by
  rw [Bool.eq_false_iff, ne_eq, BitVec.ult_iff_lt, BitVec.lt_def, not_lt]

theorem branchOps_ofBranch : ∀ x ∈ branchOps, OfBranch x.1 x.2 := by
  have blt : OfBranch Instr.blt fun x y => decide (x.slt y = true) := fun _ _ _ _ _ => rfl
  have bge : OfBranch Instr.bge fun x y => decide (x.slt y = false) := fun _ _ _ _ _ => rfl
  have bltu : OfBranch Instr.bltu fun x y => decide (x.ult y = true) := fun _ _ _ _ _ => rfl
  have bgeu : OfBranch Instr.bgeu fun x y => decide (x.ult y = false) := fun _ _ _ _ _ => rfl
  simp only [branchOps, List.forall_mem_cons, List.not_mem_nil, false_implies, implies_true, and_true]
  exact ⟨fun _ _ _ _ _ => rfl, fun _ _ _ _ _ => rfl,
    blt.of_eq fun _ _ => decide_eq_decide.mpr BitVec.slt_iff_toInt_lt,
    bge.of_eq fun _ _ => decide_eq_decide.mpr (slt_eq_false_iff ..),
    bltu.of_eq fun _ _ => decide_eq_decide.mpr BitVec.ult_iff_lt,
    bgeu.of_eq fun _ _ => decide_eq_decide.mpr (ult_eq_false_iff ..)⟩

section
variable {s : State} {c : Fin 3} (h : s.Ready c)
include h

theorem State.Ready.branch (ra rb : Fin 32) (off : BitVec 16) (p : Word → Word → Bool) :
    s.branch c ra rb off p = (s.cycles c 2).complete c [] fun k =>
      if p (k.rd ra) (k.rd rb) then { k with pc := k.rel (off.signExtend 32) } else k.next := by
  rw [State.branch, State.jump, h.issue]

theorem exec_j (off : BitVec 26) :
    exec (.j c off) s = .next ((s.cycles c 2).complete c [] fun k => { k with pc := k.rel (off.signExtend 32) }) :=
  congrArg Host.Outcome.next (h.issue 2 _)

theorem exec_jr (ra : Fin 32) :
    exec (.jr c ra) s = .next ((s.cycles c 2).complete c [] fun k => { k with pc := k.rd ra &&& 0xFFFFFFFC }) :=
  congrArg Host.Outcome.next (h.issue 2 _)

end

/-- A branch of the core: its target where the condition holds, the next word where it does not. -/
theorem Core.branch_issued (k : Core) (p : Bool) (off : BitVec 16) :
    (if p then { k.issued 2 with pc := (k.issued 2).rel (off.signExtend 32) } else (k.issued 2).next) =
      { k.issued 2 with pc := if p then BitVec.ofInt 32 (k.pc.toNat + 4 * off.toInt) else k.pc + 4 } := by
  cases p with
  | false => rfl
  | true => simp only [if_true, Core.rel_signExtend, Core.issued_pc]

/-- Settles O9: a branch, J or JR sets the PC alone, and its target is the sum or the word that R220 gives. -/
theorem branchesAndJumps : Obligations.BranchesAndJumps := by
  unfold Obligations.BranchesAndJumps
  refine ⟨fun x hx c ra rb off s h => ?_, fun c off s h => ⟨_, exec_j h off, h.completes (.refl _) ?_⟩,
    fun c ra s h => ⟨_, exec_jr h ra, h.completes (.refl _) ?_⟩⟩
  · have run := (branchOps_ofBranch x hx c ra rb off s).trans (congrArg _ (h.branch ra rb off x.2))
    exact ⟨_, run, h.completes (.refl _) (Core.branch_issued ..)⟩
  · simp only [Core.rel_signExtend, Core.issued_pc]
  · simp only [and_fffffffc, Core.issued_rd]

end Sys2Proof.Machine
end

section
/-!
PROOFS of the statements on the system instructions and on their restrictions (O15, O16), with what a hand-over leaves
of core A and of the registers that show it.
-/

namespace Sys2Proof.Machine

/-! ### What each instruction does where nothing stands in its way (R222, R223) -/

theorem State.illegal_cycles (s : State) (c : Fin 3) (n : Nat) :
    (s.cycles c n).illegal c = (s.cycles c n).takeExc c 2 (s.coreAt c).pc 0 := by
  rw [State.illegal, State.coreAt_cycles]
  rfl

theorem State.afterCall_idle {s : State} (hw : s.wld.waiting = none) : s.afterCall = s := by
  rw [State.afterCall, hw]

/-- What ERET sets: the status, the priority and the PC saved at the entry (R204). -/
def Core.eret (k : Core) : Core :=
  { k with pc := k.epc, ie := k.pie, exl := k.pexl, ipri := k.pipri, fromEret := true, fresh := true }

/-- The strand stops, and its registers are open then (R176). -/
def State.joinWaits (s : State) (c : Nat) : State :=
  ((s.cycles c 1).complete c [] fun k => { k.next with run := .joinWait }).loseRegs c

/-- Core `c` has gone on at the next instruction, two cycles on. -/
def State.goneOn (s : State) (c : Nat) : State := s.updCore c fun k => (k.spent 2).retire [] Core.next

/-- A HANDOVER that has gone on asks for the transition to `t` (R176, R177). -/
def State.handAsk (s : State) (c t : Nat) : State :=
  if t = s.get R.PLY_MODE_CUR then s
  else if s.handRefused c t then (s.set R.PLY_STATUS_HOERR 1).raise 151
  else s.handOver t

section
variable {s : State} {c : Fin 3} (h : s.Ready c)
include h

theorem exec_fence : exec (.fence c) s = .next ((s.cycles c 4).complete c [] Core.next) :=
  congrArg Host.Outcome.next (h.issue 4 _)

theorem exec_wfi : exec (.wfi c) s = .next ((s.cycles c 1).complete c [] fun k =>
    { k.next with run := if s.bit R.PWR_ACK c && s.flag R.PWR_STATE_ENTRY then .stopped else .wfi }) :=
  congrArg Host.Outcome.next (h.issue 1 _)

theorem exec_eret (hx : (s.coreAt c).exl = true) :
    exec (.eret c) s = .next ((s.cycles c 2).complete c [] Core.eret) := by
  refine congrArg Host.Outcome.next ((h.issue 2 _).trans ?_)
  rw [State.coreAt_cycles]
  exact if_pos hx

theorem exec_eret_illegal (hx : (s.coreAt c).exl = false) :
    exec (.eret c) s = .next ((s.cycles c 2).takeExc c 2 (s.coreAt c).pc 0) := by
  refine congrArg Host.Outcome.next ((h.issue 2 _).trans ?_)
  rw [State.coreAt_cycles, ← State.illegal_cycles]
  exact if_neg (ne_true_of_eq_false hx)

/-- WRET inside the Selvedge ROM, with no load that waits for the end of the call. -/
theorem exec_wret {pc : Word} {w : Bool} (hr : inRom (s.coreAt c).pc.toNat = true)
    (hs : (s.coreAt c).save = some (pc, w)) (hw : s.wld.waiting = none) :
    exec (.wret c) s = .next { (s.cycles c 4).complete c [] fun k => { k with pc := pc, world := w, save := none } with
      wld := { s.wld with saved := none } } := by
  refine congrArg Host.Outcome.next ((h.issue 4 _).trans ?_)
  have rom : inRom ((s.coreAt c).spent 4).pc.toNat = true := hr
  have saved : ((s.coreAt c).spent 4).save = some (pc, w) := hs
  simp only [State.coreAt_cycles, rom, saved, if_true]
  exact State.afterCall_idle hw

theorem exec_wret_illegal (hr : inRom (s.coreAt c).pc.toNat = false) :
    exec (.wret c) s = .next ((s.cycles c 4).takeExc c 2 (s.coreAt c).pc 0) := by
  refine congrArg Host.Outcome.next ((h.issue 4 _).trans ?_)
  have outside : inRom ((s.coreAt c).spent 4).pc.toNat = false := hr
  simp only [State.coreAt_cycles, outside, Bool.false_eq_true, if_false, State.illegal_cycles]

theorem exec_joinwait (hw : (s.coreAt c).world = false) (hm : c.val ≠ 0 ∨ s.plyMode = 2) :
    exec (.joinwait c) s = .next (if c.val = 1 then (s.joinWaits c).set R.PLY_STATUS_WAITB 1
      else if c.val = 2 then (s.joinWaits c).set R.PLY_STATUS_WAITC 1 else s.joinWaits c) := by
  refine congrArg Host.Outcome.next ((h.issue 1 _).trans ?_)
  rw [State.coreAt_cycles]
  refine if_neg ?_
  rw [show ((s.coreAt c).spent 1).world = false from hw, Bool.false_or, Bool.and_eq_true, decide_eq_true_eq,
    decide_eq_true_eq, not_and_not_right]
  exact fun h0 => hm.resolve_left (not_not_intro h0)

theorem exec_joinwait_illegal (hi : (s.coreAt c).world = true ∨ (c.val = 0 ∧ s.plyMode ≠ 2)) :
    exec (.joinwait c) s = .next ((s.cycles c 1).takeExc c 2 (s.coreAt c).pc 0) := by
  refine congrArg Host.Outcome.next ((h.issue 1 _).trans ?_)
  rw [State.coreAt_cycles, ← State.illegal_cycles]
  refine if_pos ?_
  rcases hi with hw | ⟨h0, hm⟩
  · simp [show ((s.coreAt c).spent 1).world = true from hw]
  · rw [Bool.or_eq_true, Bool.and_eq_true, decide_eq_true_eq, decide_eq_true_eq]
    exact .inr ⟨h0, hm⟩

theorem exec_handover_illegal (hw : (s.coreAt c).world = true) :
    exec (.handover c) s = .next ((s.cycles c 2).takeExc c 2 (s.coreAt c).pc 0) := by
  change Host.Outcome.next (s.issue c 2 _) = _
  rw [h.issue, State.coreAt_cycles, ← State.illegal_cycles]
  exact congrArg Host.Outcome.next (if_pos hw)

/-- HANDOVER in the OPEN world goes on at the next instruction, and then asks for the transition. -/
theorem exec_handover (hw : (s.coreAt c).world = false) :
    exec (.handover c) s = .next ((s.goneOn c).handAsk c (s.get R.PLY_MODE_TARGET)) := by
  have gone : (s.cycles c 2).complete c [] Core.next = s.goneOn c :=
    h.ends 2 [] Core.next_step
  change Host.Outcome.next (s.issue c 2 _) = _
  rw [h.issue, State.coreAt_cycles, ← gone]
  exact congrArg Host.Outcome.next (if_neg (ne_true_of_eq_false hw))

end

theorem State.get_goneOn (s : State) (c : Nat) (f : Fld) : (s.goneOn c).get f = s.get f := rfl

theorem State.handRefused_goneOn (s : State) (c d t : Nat) : (s.goneOn d).handRefused c t = s.handRefused c t := rfl

theorem State.handAsk_goneOn {s : State} {c t : Nat} (hm : t ≠ s.get R.PLY_MODE_CUR) :
    (s.goneOn c).handAsk c t = if s.handRefused c t then ((s.goneOn c).set R.PLY_STATUS_HOERR 1).raise 151
      else (s.goneOn c).handOver t := by
  rw [State.handAsk, State.get_goneOn, State.handRefused_goneOn, if_neg hm]

theorem State.coreAt_raise (s : State) (n c : Nat) : (s.raise n).coreAt c = s.coreAt c := by
  rw [State.coreAt, State.raise_core, State.coreAt]

theorem State.coreAt_set (s : State) (f : Fld) (v c : Nat) : (s.set f v).coreAt c = s.coreAt c := rfl

theorem Core.retire_next_shows (k : Core) (n : Nat) :
    k.KeepsRegs ((k.spent n).retire [] Core.next) ∧ k.Ran ((k.spent n).retire [] Core.next) (k.pc + 4) n :=
  (Core.Alike.refl k).retire rfl

theorem State.goneOn_coreAt (s : State) (c : Fin 3) :
    (s.coreAt c).KeepsRegs ((s.goneOn c).coreAt c) ∧ (s.coreAt c).Ran ((s.goneOn c).coreAt c) ((s.coreAt c).pc + 4) 2 := by
  rw [State.goneOn, State.coreAt_updCore, if_pos rfl]
  exact (s.coreAt c).retire_next_shows 2

/-! ### A hand-over (R176, R177) -/

/-- A fold over strands leaves every core that the list does not name. -/
theorem State.coreAt_foldl_updCore_of_not_mem {F : State → Nat → Core → Core} {j : Nat} : ∀ {l : List Nat}, j ∉ l →
    (∀ k ∈ l, k < 3) → ∀ s : State, (l.foldl (fun s k => s.updCore k (F s k)) s).coreAt j = s.coreAt j
  | [], _, _, _ => rfl
  | k :: l, hj, hl, s => by
    obtain ⟨h3, hl⟩ := List.forall_mem_cons.mp hl
    rw [List.foldl_cons, State.coreAt_foldl_updCore_of_not_mem (List.not_mem_of_not_mem_cons hj) hl,
      State.coreAt_updCore_of_lt s h3, if_neg (List.ne_of_not_mem_cons hj)]

/-- Breakpoints and halts stand apart from PLY_MODE.CUR. -/
theorem State.get_cur_dropDebug (s : State) (k : Nat) : (s.dropDebug k).get R.PLY_MODE_CUR = s.get R.PLY_MODE_CUR := by
  have drops : RegsOnly (fun f => f ≠ R.PLY_MODE_CUR) s
      ((List.range 8).foldl (fun s i =>
        if s.get (R.DBG_BP_CFG_CORE i) = k then s.set (R.DBG_BP_CFG_EN i) 0 else s) s) := by
    refine RegsOnly.foldl (fun i hi u => ?_) s
    split
    · have other : R.DBG_BP_CFG_EN i ≠ R.PLY_MODE_CUR := Fld.ne_of_apart rfl
      exact (RegsOnly.refl (fun f => f ≠ R.PLY_MODE_CUR) u).set other 0
    · exact RegsOnly.refl _ u
  rw [State.dropDebug, State.get_clrBit_apart _ (by decide)]
  exact drops _ (not_not_intro rfl)

/-- The strands of a hand-over to `t` have lost their breakpoints and halts, and `t` is its target. -/
def State.handAims (s : State) (t : Nat) : State :=
  (handStrands (s.get R.PLY_MODE_CUR) t).foldl State.dropDebug { s with ply := { s.ply with target := t, joinTcm := false } }

theorem State.handAims_moves (s : State) (t : Nat) : Moves 0x400002000000 s (s.handAims t) :=
  Moves.foldl ((Moves.refl ..).step State.upd_ply_moves (by decide)) fun u k =>
    (u.dropDebug_moves k).mono (by decide)

theorem State.handAims_ply (s : State) (t : Nat) : (s.handAims t).ply = { s.ply with target := t, joinTcm := false } :=
  (Moves.foldl (Moves.refl 0x400000000000 _) State.dropDebug_moves).same .ply (by decide)

theorem State.get_cur_handAims (s : State) (t : Nat) : (s.handAims t).get R.PLY_MODE_CUR = s.get R.PLY_MODE_CUR :=
  RegsOnly.foldl (P := fun f => f ≠ R.PLY_MODE_CUR) (fun k _ u f hf => by
    rw [not_not.mp hf]
    exact u.get_cur_dropDebug k) _ _ (not_not_intro rfl)

/-- A split isolates its strands, which keep core A's cache lines. -/
def State.handSplits (s : State) (ks : List Nat) : State :=
  (ks.foldl (fun s k => s.updCore k fun _ => { cache := (s.coreAt 0).cache }) s).set R.PLY_STATUS_SPLITTING 1

/-- A join wipes the TCMs of its strands. -/
def State.handJoins (s : State) (ks : List Nat) : State :=
  ((ks.foldl (fun s k => (s.wipe (itcmKey k 0) (itcmKey k 0x20000)).wipe (dtcmKey k 0) (dtcmKey k 0x20000)) s).icuJoin
    ks).set R.PLY_STATUS_JOINING 1

theorem State.handOver_eq (s : State) (t : Nat) :
    let ks := handStrands (s.get R.PLY_MODE_CUR) t
    s.handOver t = if s.get R.PLY_MODE_CUR < t then (s.handAims t).handSplits ks
      else if s.get R.PLY_MODE_CUR = 2 then (((s.handAims t).handJoins ks).set R.PLY_STATUS_EXPOSED 1).raise 152
      else (s.handAims t).handJoins ks := by
  intro ks
  by_cases hs : s.get R.PLY_MODE_CUR < t
  · rw [if_pos hs]
    exact if_pos (decide_eq_true hs)
  · rw [if_neg hs]
    exact if_neg (ne_true_of_eq_false (decide_eq_false hs))

/-- A split shows SPLITTING and leaves core A, CUR and what the Ply keeps. -/
theorem State.handSplits_shows (s : State) {ks : List Nat} (hk : ∀ k ∈ ks, k = 1 ∨ k = 2) :
    (s.handSplits ks).coreAt 0 = s.coreAt 0 ∧ (s.handSplits ks).ply = s.ply
    ∧ (s.handSplits ks).get R.PLY_MODE_CUR = s.get R.PLY_MODE_CUR
    ∧ (s.handSplits ks).get R.PLY_STATUS_SPLITTING = 1 := by
  have isolates : Moves 0x1000000 s (ks.foldl (fun s k => s.updCore k fun _ => { cache := (s.coreAt 0).cache }) s) :=
    Moves.foldl (Moves.refl ..) fun u k => u.updCore_moves k _
  refine ⟨?_, isolates.same .ply (by decide), ?_, State.get_set ..⟩
  · exact State.coreAt_foldl_updCore_of_not_mem (F := fun s _ _ => { cache := (s.coreAt 0).cache })
      (fun h0 => by simpa using hk 0 h0) (fun k h => by rcases hk k h with rfl | rfl <;> decide) s
  · rw [State.handSplits, State.get_set_apart _ (by decide)]
    exact isolates.same (.pd 0) (by decide) _ rfl

/-- A join shows JOINING and leaves the cores, CUR and what the Ply keeps. -/
theorem State.handJoins_shows (s : State) (ks : List Nat) :
    (s.handJoins ks).core = s.core ∧ (s.handJoins ks).ply = s.ply
    ∧ (s.handJoins ks).get R.PLY_MODE_CUR = s.get R.PLY_MODE_CUR
    ∧ (s.handJoins ks).get R.PLY_STATUS_JOINING = 1 := by
  have wipes : Moves 0x10200000000000 s
      ((ks.foldl (fun s k => (s.wipe (itcmKey k 0) (itcmKey k 0x20000)).wipe (dtcmKey k 0) (dtcmKey k 0x20000)) s).icuJoin
        ks) := by
    refine .step (Moves.foldl (Moves.refl ..) fun u k => ?_) (State.icuJoin_moves ..) (by decide)
    exact ((Moves.refl ..).step (State.wipe_moves ..) (by decide)).step (State.wipe_moves ..) (by decide)
  refine ⟨?_, ?_, ?_, State.get_set ..⟩
  · rw [State.handJoins, State.set_core]
    exact wipes.same .core (by decide)
  · rw [State.handJoins, State.set_ply]
    exact wipes.same .ply (by decide)
  · rw [State.handJoins, State.get_set_apart _ (by decide)]
    exact wipes.same (.pd 0) (by decide) _ rfl

/-- A hand-over to `t` leaves core A and CUR, takes `t` for its target, and shows what it is. -/
theorem State.handOver_shows (s : State) (t : Nat) :
    (s.handOver t).coreAt 0 = s.coreAt 0 ∧ (s.handOver t).ply.target = t
    ∧ (s.handOver t).get R.PLY_MODE_CUR = s.get R.PLY_MODE_CUR
    ∧ (if s.get R.PLY_MODE_CUR < t then (s.handOver t).get R.PLY_STATUS_SPLITTING = 1
        else (s.handOver t).get R.PLY_STATUS_JOINING = 1) := by
  have aimsCore : (s.handAims t).coreAt 0 = s.coreAt 0 := by
    rw [State.coreAt, State.coreAt, show (s.handAims t).core = s.core from (s.handAims_moves t).same .core (by decide)]
  rw [State.handOver_eq]
  by_cases hs : s.get R.PLY_MODE_CUR < t
  · obtain ⟨core, ply, cur, shown⟩ := (s.handAims t).handSplits_shows (handStrands_range (s.get R.PLY_MODE_CUR) t)
    rw [if_pos hs, if_pos hs, core, ply, cur, State.handAims_ply, State.get_cur_handAims]
    exact ⟨aimsCore, rfl, rfl, shown⟩
  · obtain ⟨core, ply, cur, shown⟩ := (s.handAims t).handJoins_shows (handStrands (s.get R.PLY_MODE_CUR) t)
    rw [State.handAims_ply] at ply
    rw [State.get_cur_handAims] at cur
    rw [if_neg hs, if_neg hs]
    split
    · refine ⟨?_, ?_, ?_, ?_⟩
      · rw [State.coreAt_raise, State.coreAt_set, State.coreAt, core]
        exact aimsCore
      · rw [State.raise_ply, State.set_ply, ply]
      · rw [State.get_raise_apart _ _ (by decide), State.get_set_apart _ (by decide), cur]
      · rw [State.get_raise_apart _ _ (by decide), State.get_set_apart _ (by decide), shown]
    · rw [State.coreAt, core, ply]
      exact ⟨aimsCore, rfl, cur, shown⟩

/-- Core A alone may hand over (R177). -/
theorem State.core_of_not_handRefused {s : State} {c : Fin 3} {t : Nat} (h : s.handRefused c t = false) : c = 0 := by
  simp only [State.handRefused, Bool.or_eq_false_iff, decide_eq_false_iff_not, not_not] at h
  obtain ⟨⟨⟨⟨⟨⟨⟨⟨-, h0⟩, -⟩, -⟩, -⟩, -⟩, -⟩, -⟩, -⟩ := h
  exact Fin.ext h0

/-! ### The statements -/

theorem Core.eret_shows (k : Core) :
    let t := (k.spent 2).retire [] Core.eret
    k.KeepsRegs t ∧ t.pc = k.epc ∧ t.cycle = k.cycle + 2 ∧ t.ie = k.pie ∧ t.exl = k.pexl ∧ t.ipri = k.pipri
      ∧ t.fromEret = true ∧ t.world = k.world ∧ t.epc = k.epc := by
  intro t
  have alike : k.Alike (Core.eret (k.issued 2)) := ⟨rfl, rfl, rfl, rfl⟩
  have ends : t = _ := alike.retire_eq rfl
  rw [ends]
  exact ⟨k.rd_landed, rfl, rfl, rfl, rfl, rfl, rfl, rfl, rfl⟩

theorem Core.Ran.with_g {k j : Core} {pc : Word} {n : Nat} (h : k.Ran j pc n) (g : Vector Word 32) :
    k.Ran { j with g := g } pc n := by
  rw [Core.Ran] at h ⊢
  rw [h]

theorem State.coreAt_loseRegs (s : State) (c : Fin 3) :
    ∃ g, (s.loseRegs c).coreAt c = { s.coreAt c with g := g } :=
  ⟨_, (State.coreAt_updCore s c c fun k => { k with g := _ }).trans (if_pos rfl)⟩

theorem State.get_loseRegs (s : State) (c : Nat) (f : Fld) : (s.loseRegs c).get f = s.get f := rfl

/-- A strand in JOINWAIT has ended the instruction, and its general registers are open. -/
theorem State.joinWaits_shows {s : State} {c : Fin 3} (h : s.Ready c) :
    Moves 0x1000001 s (s.joinWaits c) ∧ (∀ f, (s.joinWaits c).get f = s.get f)
    ∧ { s.coreAt c with run := .joinWait }.Ran ((s.joinWaits c).coreAt c) ((s.coreAt c).pc + 4) 1 := by
  have stops : { s.coreAt c with run := .joinWait }.Ran
      (((s.coreAt c).spent 1).retire [] fun k => { k.next with run := .joinWait }) ((s.coreAt c).pc + 4) 1 :=
    (Core.Alike.retire (k := s.coreAt c) (j := { s.coreAt c with run := .joinWait })
      (f := fun k => { k.next with run := .joinWait }) ⟨rfl, rfl, rfl, rfl⟩ rfl).2
  rw [State.joinWaits, h.ends 1 [] (f := fun k => { k.next with run := .joinWait }) fun _ => rfl]
  refine ⟨((State.updCore_moves ..).mono (by decide)).step (State.loseRegs_moves ..) (by decide), fun f => ?_, ?_⟩
  · rw [State.get_loseRegs, State.get_updCore]
  · obtain ⟨g, lost⟩ := (s.updCore c fun k =>
      (k.spent 1).retire [] fun k => { k.next with run := .joinWait }).coreAt_loseRegs c
    rw [lost, State.coreAt_updCore, if_pos rfl]
    exact stops.with_g g

/-- The worlds beside their registers are one part of the state. -/
theorem OnlyIn.wld {s t : State} (h : OnlyIn [.core] s t) (w : WldSt) : OnlyIn [.core, .wld] s { t with wld := w } := by
  obtain ⟨pending, same⟩ := h
  refine ⟨pending, fun p hp => ?_⟩
  have wld := hp .wld (by simp)
  have kept := same p (by simpa using hp .core (by simp))
  cases p with
  | wld => exact absurd rfl wld
  | _ => exact kept

section
variable {s : State} {c : Fin 3} (h : s.Ready c)
include h

theorem exec_wfi_shows : ∃ t, exec (.wfi c) s = .next t ∧ CoreOnly c s t ∧ (s.coreAt c).KeepsRegs (t.coreAt c)
    ∧ { s.coreAt c with run := if s.bit R.PWR_ACK c && s.flag R.PWR_STATE_ENTRY then .stopped else .wfi }.Ran
        (t.coreAt c) ((s.coreAt c).pc + 4) 1 := by
  have run := exec_wfi h
  generalize (if s.bit R.PWR_ACK c && s.flag R.PWR_STATE_ENTRY then Strand.stopped else .wfi) = r at run ⊢
  exact ⟨_, run, h.completes (j := { s.coreAt c with run := r }) (f := fun k => { k.next with run := r })
    ⟨rfl, rfl, rfl, rfl⟩ rfl⟩

theorem exec_eret_shows (hx : (s.coreAt c).exl = true) : let k := s.coreAt c
    ∃ t, exec (.eret c) s = .next t ∧ CoreOnly c s t ∧ k.KeepsRegs (t.coreAt c)
      ∧ (t.coreAt c).pc = k.epc ∧ (t.coreAt c).cycle = k.cycle + 2 ∧ (t.coreAt c).ie = k.pie
      ∧ (t.coreAt c).exl = k.pexl ∧ (t.coreAt c).ipri = k.pipri ∧ (t.coreAt c).fromEret = true
      ∧ (t.coreAt c).world = k.world ∧ (t.coreAt c).epc = k.epc := by
  have ends := h.ends 2 [] (f := Core.eret) fun _ => rfl
  refine ⟨_, (exec_eret h hx).trans (congrArg _ ends), CoreOnly.updCore .., ?_⟩
  rw [State.coreAt_updCore, if_pos rfl]
  exact (s.coreAt c).eret_shows

theorem exec_wret_shows {pc : Word} {w : Bool} (hr : inRom (s.coreAt c).pc.toNat = true)
    (hs : (s.coreAt c).save = some (pc, w)) (hw : s.wld.waiting = none) :
    ∃ t, exec (.wret c) s = .next t ∧ OnlyIn [.core, .wld] s t ∧ (∀ d : Fin 3, d ≠ c → t.coreAt d = s.coreAt d)
      ∧ t.wld = { s.wld with saved := none } ∧ (s.coreAt c).KeepsRegs (t.coreAt c)
      ∧ { s.coreAt c with world := w, save := none }.Ran (t.coreAt c) pc 4 := by
  have ends := h.completes (n := 4) (f := fun k => { k with pc := pc, world := w, save := none })
    (j := { s.coreAt c with world := w, save := none }) ⟨rfl, rfl, rfl, rfl⟩ rfl
  have run := exec_wret h hr hs hw
  generalize (s.cycles c 4).complete c [] _ = u at ends run
  obtain ⟨⟨only, others⟩, regs, ran⟩ := ends
  exact ⟨_, run, only.wld _, others, rfl, regs, ran⟩

/-- A strand in JOINWAIT whose flag `f` shows that it waits. -/
theorem State.joinWaits_set_shows {f : Fld} (hf : f.pd = 0) :
    OnlyIn [.core, .free, .pd 0] s ((s.joinWaits c).set f 1)
      ∧ { s.coreAt c with run := .joinWait }.Ran (((s.joinWaits c).set f 1).coreAt c) ((s.coreAt c).pc + 4) 1
      ∧ RegsOnly (fun g => g = f) s ((s.joinWaits c).set f 1) := by
  obtain ⟨waits, regs, ran⟩ := State.joinWaits_shows h
  rw [State.coreAt_set]
  refine ⟨?_, ran, fun g hg => (State.get_set_ne _ (Ne.symm hg) 1).trans (regs g)⟩
  exact ((waits.mono (K' := 0x400001000001) (by decide)).step (State.set_moves hf) (by decide)).onlyIn _ (by decide)

theorem exec_joinwait_shows (hw : (s.coreAt c).world = false) (hm : c.val ≠ 0 ∨ s.plyMode = 2) :
    ∃ t, exec (.joinwait c) s = .next t ∧ OnlyIn [.core, .free, .pd 0] s t
      ∧ { s.coreAt c with run := .joinWait }.Ran (t.coreAt c) ((s.coreAt c).pc + 4) 1
      ∧ RegsOnly (fun f => (c.val = 1 ∧ f = R.PLY_STATUS_WAITB) ∨ (c.val = 2 ∧ f = R.PLY_STATUS_WAITC)) s t
      ∧ (c.val = 1 → t.get R.PLY_STATUS_WAITB = 1) ∧ (c.val = 2 → t.get R.PLY_STATUS_WAITC = 1) := by
  refine ⟨_, exec_joinwait h hw hm, ?_⟩
  by_cases h1 : c.val = 1
  · obtain ⟨only, ran, set⟩ := State.joinWaits_set_shows h (f := R.PLY_STATUS_WAITB) rfl
    rw [if_pos h1]
    exact ⟨only, ran, set.mono fun f e => .inl ⟨h1, e⟩, fun _ => State.get_set .., fun h2 => by omega⟩
  rw [if_neg h1]
  by_cases h2 : c.val = 2
  · obtain ⟨only, ran, set⟩ := State.joinWaits_set_shows h (f := R.PLY_STATUS_WAITC) rfl
    rw [if_pos h2]
    exact ⟨only, ran, set.mono fun f e => .inr ⟨h2, e⟩, fun h1 => by omega, fun _ => State.get_set ..⟩
  · obtain ⟨waits, regs, ran⟩ := State.joinWaits_shows h
    rw [if_neg h2]
    exact ⟨waits.onlyIn _ (by decide), ran, fun f _ => regs f, fun e => absurd e h1, fun e => absurd e h2⟩

end

theorem exec_handover_shows {s : State} {c : Fin 3} (h : s.Ready c) {m : Nat} (hm : s.get R.PLY_MODE_TARGET = m)
    (hw : (s.coreAt c).world = false) (hn : m ≠ s.get R.PLY_MODE_CUR) (hr : s.handRefused c m = false) :
    ∃ t, exec (.handover c) s = .next t ∧ (s.coreAt c).KeepsRegs (t.coreAt c)
      ∧ (s.coreAt c).Ran (t.coreAt c) ((s.coreAt c).pc + 4) 2
      ∧ t.ply.target = m ∧ t.get R.PLY_MODE_CUR = s.get R.PLY_MODE_CUR
      ∧ (if s.get R.PLY_MODE_CUR < m then t.get R.PLY_STATUS_SPLITTING = 1 else t.get R.PLY_STATUS_JOINING = 1) := by
  obtain rfl := State.core_of_not_handRefused hr
  have run := exec_handover h hw
  rw [hm, State.handAsk_goneOn hn, hr, if_neg Bool.false_ne_true] at run
  obtain ⟨core, target, cur, shown⟩ := (s.goneOn (0 : Fin 3)).handOver_shows m
  rw [State.get_goneOn] at cur shown
  obtain ⟨regs, ran⟩ := s.goneOn_coreAt 0
  refine ⟨_, run, ?_⟩
  rw [show (State.handOver _ m).coreAt (0 : Fin 3) = _ from core]
  exact ⟨regs, ran, target, cur, shown⟩

/-- Settles O15: each clause is one instruction, of which a lemma above says what it does to the core and beside it. -/
theorem systemInstructions : Obligations.SystemInstructions := by
  unfold Obligations.SystemInstructions
  exact ⟨fun c s h => ⟨_, exec_fence h, h.completes (.refl _) rfl⟩, fun c s h => exec_wfi_shows h,
    fun c s h => exec_eret_shows h, fun c pc w s h => exec_wret_shows h, fun c s h => exec_joinwait_shows h,
    fun c s h => exec_handover_shows h rfl⟩

/-- Settles O16: the restrictions are branches of the instructions' meanings, of which a refused HANDOVER alone goes on. -/
theorem restrictedInstructions : Obligations.RestrictedInstructions := by
  unfold Obligations.RestrictedInstructions
  refine ⟨fun c s h => exec_eret_illegal h, fun c s h hw => ⟨exec_handover_illegal h hw, exec_joinwait_illegal h (.inl hw)⟩,
    fun c s h hm => exec_joinwait_illegal h (.inr hm), fun c s h => exec_wret_illegal h, fun c s h => ?_⟩
  intro m hw hm hr
  have run := exec_handover h hw
  rw [State.handAsk_goneOn hm, if_pos hr] at run
  obtain ⟨regs, ran⟩ := s.goneOn_coreAt c
  refine ⟨_, run, ?_⟩
  rw [State.coreAt_raise, State.coreAt_set]
  exact ⟨regs, ran, (State.get_raise_apart _ _ (by decide)).trans (State.get_set ..)⟩

end Sys2Proof.Machine
end

section
/-!
PROOFS of the statement on the I/O space (O13), with the rules that every access of a strand shares: what the end of
an instruction leaves of a step in progress and of the world, which comparators match after it, and how an access that
is answered goes on.
-/

namespace Sys2Proof.Machine

/-! ### What the end of an instruction keeps -/

theorem Core.ended_eq (k j : Core) (dests : List (Fin 32)) : k.ended j dests =
    { j with g := (k.ended j dests).g, ld := j.ldNext, ldNext := none, fetchO := k.mpuO, fetchS := k.mpuS } := by
  unfold Core.ended
  cases k.ld with
  | none => rfl
  | some x =>
    dsimp only
    split
    · rfl
    · rw [j.wr_eq]

theorem Core.retire_eq_ended (k : Core) (dests : List (Fin 32)) (f : Core → Core) :
    k.retire dests f = k.ended (f (k.issued 0)) dests := by
  rw [← k.spent_zero, Core.retire_eq, k.spent_zero]

theorem Core.retire_step (k : Core) (dests : List (Fin 32)) (f : Core → Core) :
    (k.retire dests f).step = (f (k.issued 0)).step := by
  rw [Core.retire_eq_ended, Core.ended_step]

theorem Core.retire_world (k : Core) (dests : List (Fin 32)) (f : Core → Core) :
    (k.retire dests f).world = (f (k.issued 0)).world := by
  rw [Core.retire_eq_ended, Core.ended_eq]

/-- Which comparator matches rests on the registers and on the world of the core (R448). -/
theorem State.bpMatch_congr {s t : State} {c : Nat} (hr : ∀ f, t.get f = s.get f)
    (hw : (t.coreAt c).world = (s.coreAt c).world) (a : Nat) (ks : List Nat) : t.bpMatch c a ks = s.bpMatch c a ks := by
  simp only [State.bpMatch, State.bpHits, State.flag, hr, hw]

theorem State.bpMatch_updCore {s : State} {c : Fin 3} {f : Core → Core}
    (hw : (f (s.coreAt c)).world = (s.coreAt c).world) (a : Nat) (ks : List Nat) :
    (s.updCore c f).bpMatch c a ks = s.bpMatch c a ks := by
  refine State.bpMatch_congr (s.get_updCore c f) ?_ a ks
  rw [State.coreAt_updCore, if_pos rfl, hw]

/-- An instruction ends at once where no step is in progress. -/
theorem State.complete_unstepped {s : State} {c : Fin 3} {dests : List (Fin 32)} {f : Core → Core}
    (h : (f ((s.coreAt c).issued 0)).step = false) :
    s.complete c dests f = s.updCore c fun k => k.retire dests f :=
  State.complete_ready dests f (by rw [Core.retire_step, h])

/-! ### An access that is answered (R198, R448) -/

/-- The core whose access has been answered. -/
def Core.answered (k : Core) : Core := { k with wait := none, retries := 0 }

@[simp] theorem Core.issued_world (k : Core) (n : Nat) : (k.issued n).world = k.world := rfl
@[simp] theorem Core.answered_world (k : Core) : k.answered.world = k.world := rfl

theorem State.dataMatch_none {s : State} {c ea : Nat} {w : Bool} (h : s.bpMatch c ea [if w then 2 else 1, 3] = none) :
    s.dataMatch c ea w = s := by
  rw [State.dataMatch, h]

/-- The end of an instruction whose access no comparator matches. -/
theorem State.answered_complete {s : State} {c : Fin 3} {ea : Nat} {w : Bool} {dests : List (Fin 32)} {f : Core → Core}
    (hs : (s.coreAt c).step = false) (hb : s.bpMatch c ea [if w then 2 else 1, 3] = none)
    (hf : ∀ k : Core, (f k).step = k.step) (hw : ∀ k : Core, (f k).world = k.world) :
    ((s.updCore c Core.answered).complete c dests f).dataMatch c ea w =
      s.updCore c fun k => k.answered.retire dests f := by
  have core : (s.updCore c Core.answered).coreAt c = (s.coreAt c).answered :=
    (State.coreAt_updCore ..).trans (if_pos rfl)
  have noStep : (f (((s.updCore c Core.answered).coreAt c).issued 0)).step = false := by
    rw [hf, Core.issued_step, core]
    exact hs
  have world : ((s.coreAt c).answered.retire dests f).world = (s.coreAt c).world := by
    rw [Core.retire_world, hw, Core.issued_world, Core.answered_world]
  rw [State.complete_unstepped noStep, State.updCore_updCore]
  exact State.dataMatch_none ((State.bpMatch_updCore world ea _).trans hb)

/-! ### The I/O space (R193, R219) -/

theorem State.ioChecked_allowed {s : State} {c : Nat} {ea : Word} {w : Bool} {f : State → State}
    (ha : ea.toNat % 4 = 0) (hl : ea.toNat < 0x100000)
    (hs : w = true → ea.toNat = 0x1C034 → (s.coreAt c).world = true)
    (hm : (s.coreAt c).mpu.allows 2 (b2n w) ea.toNat = true) : s.ioChecked c ea w f = f s := by
  have open_ : (w && decide (ea.toNat = 0x1C034) && !(s.coreAt c).world) = false := by
    rw [Bool.eq_false_iff, ne_eq, Bool.and_eq_true, Bool.and_eq_true, decide_eq_true_eq]
    rintro ⟨⟨hw, he⟩, hn⟩
    simp [hs hw he] at hn
  simp only [State.ioChecked, ha, hm, open_, ne_eq, not_true_eq_false, if_false, Nat.not_le.mpr hl, Bool.not_true,
    Bool.false_eq_true]

/-- The target wait changes the cycles and the free values alone. -/
theorem State.ioWait_world (s : State) (c : Fin 3) (a : Nat) : ((s.ioWait c a).coreAt c).world = (s.coreAt c).world := by
  have waits (u : State) (n : Nat) : ((u.cycles c n).coreAt c).world = (u.coreAt c).world :=
    (congrArg Core.world (u.coreAt_cycles c n)).trans rfl
  have open_ : ((s.openWait c).coreAt c).world = (s.coreAt c).world := waits { s with free := s.free + 1 } _
  unfold State.ioWait
  split
  · exact waits s 1
  · split
    · split
      · exact waits s 3
      · exact open_
    · exact waits s 3

theorem State.goIoLoad_ok {s : State} {c : Fin 3} {x : Access} {rd : Fin 32}
    (hr : ((s.ioRead (coreReq c) x.ea.toNat false).resp.at (reqIdx (coreReq c))).code = .ok)
    (hs : ((s.ioRead (coreReq c) x.ea.toNat false).coreAt c).step = false)
    (hb : (s.ioRead (coreReq c) x.ea.toNat false).bpMatch c x.ea.toNat [1, 3] = none) :
    let u := s.ioRead (coreReq c) x.ea.toNat false
    s.goIoLoad c x rd = u.updCore c fun k => k.answered.retire [] fun k =>
      { k.next with ldNext := some (rd, BitVec.ofNat 32 (u.resp.at (reqIdx (coreReq c))).data) } := by
  intro u
  simp only [State.goIoLoad, hr]
  exact State.answered_complete (w := false) hs hb (fun _ => rfl) fun _ => rfl

theorem State.goIoStore_ok {s : State} {c : Fin 3} {x : Access} {v : Word} :
    let q : Who := { req := coreReq c, sealedW := (s.coreAt c).world }
    let u := s.ioWrite q x.ea.toNat v.toNat
    u.rst.asserted = false → (u.resp.at (reqIdx q.req)).code = .ok → (u.coreAt c).step = false →
    u.bpMatch c x.ea.toNat [2, 3] = none →
    s.goIoStore c x v = u.updCore c fun k => k.answered.retire [] Core.next := by
  intro q u hd hr hs hb
  have go : s.goIoStore c x v = u.answered c x x.ea 2 true (u.resp.at (reqIdx q.req)).code.ans fun s =>
      (s.complete c [] Core.next).dataMatch c x.ea.toNat true := if_neg (ne_true_of_eq_false hd)
  rw [go, hr]
  exact State.answered_complete (w := true) hs hb Core.next_step fun _ => rfl

section
variable {s : State} {c : Fin 3} (h : s.Ready c)
include h

theorem exec_iold {rd base : Fin 32} {disp : BitVec 16} :
    let k := s.coreAt c
    let ea := k.ea base disp
    ea.toNat % 4 = 0 → ea.toNat < 0x100000 → k.mpu.allows 2 0 ea.toNat = true →
    exec (.iold c rd base disp) s =
      .next (((s.cycles c 1).ioWait c ea.toNat).goIoLoad c { kind := .ioLoad rd, ea := ea } rd) := by
  intro k ea ha hl hm
  change Host.Outcome.next (s.issue c 1 _) = _
  rw [h.issue, State.coreAt_cycles]
  refine congrArg Host.Outcome.next (State.ioChecked_allowed ha hl nofun ?_)
  rw [State.coreAt_cycles]
  exact hm

theorem exec_iost {rs base : Fin 32} {disp : BitVec 16} :
    let k := s.coreAt c
    let ea := k.ea base disp
    ea.toNat % 4 = 0 → ea.toNat < 0x100000 → k.mpu.allows 2 1 ea.toNat = true →
    (ea.toNat = 0x1C034 → k.world = true) →
    exec (.iost c rs base disp) s =
      .next (((s.cycles c 1).ioWait c ea.toNat).goIoStore c { kind := .ioStore (k.rd rs), ea := ea } (k.rd rs)) := by
  intro k ea ha hl hm hw
  change Host.Outcome.next (s.issue c 1 _) = _
  rw [h.issue, State.coreAt_cycles]
  refine congrArg Host.Outcome.next (State.ioChecked_allowed ha hl (fun _ => ?_) ?_)
  · rw [State.coreAt_cycles]
    exact hw
  · rw [State.coreAt_cycles]
    exact hm

end

/-- Settles O13: the access is the register access of the I/O space after the target wait, and an answer of OK ends the
instruction. -/
theorem inputOutputAccess : Obligations.InputOutputAccess := by
  unfold Obligations.InputOutputAccess
  refine ⟨fun c rd base disp s h => ?_, fun c rs base disp s h => ?_⟩
  · intro k ea q u ha hl hm hr hs hb
    have access := State.goIoLoad_ok (rd := rd) (x := { kind := .ioLoad rd, ea := ea }) hr hs hb
    exact (exec_iold h ha hl hm).trans (congrArg _ access)
  · intro k ea q u ha hl hm hw hd hr hs hb
    have world : (((s.cycles c 1).ioWait c ea.toNat).coreAt c).world = k.world := by
      rw [State.ioWait_world, State.coreAt_cycles]
      rfl
    have access := State.goIoStore_ok (s := (s.cycles c 1).ioWait c ea.toNat) (c := c)
      (x := { kind := .ioStore (k.rd rs), ea := ea }) (v := k.rd rs)
    rw [world] at access
    exact (exec_iost h ha hl hm hw).trans (congrArg _ (access hd hr hs hb))

end Sys2Proof.Machine
end

section
/-!
PROOFS of the statements on stores and on the reservation pair (O11, O12): both speak of every state, and a store does
not bring a byte that memory lists twice to its default.
-/

namespace Sys2Proof.Machine

/-- Strand C of a SPLIT part issues at the start of its I-TCM and holds the reservation on the first granule of its
D-TCM, whose first byte memory lists twice, as 1. No step leads to such a memory (`memWf` fails), and the statements
speak of every state. -/
def twiceListed : State where
  regs := [(R.PLY_MODE_CUR, 2), (R.PWR_DOM 5, 3)]
  core := (Vector.replicate 3 {}).set 2 { run := .issuing, res := some (granule 2 0) }
  mem := [(0x200000, 1), (0x200000, 1)]

set_option maxRecDepth 20000 in
theorem twiceListed_ready : twiceListed.Ready (2 : Fin 3) where
  issues := by decide
  noBreak := .inr (by decide)
  fetch := by decide
  sound := fun _ => rfl
  cached := by decide
  noStep := by decide

set_option maxRecDepth 20000 in
theorem twiceListed_access (n : Nat) : twiceListed.TcmAccess (2 : Fin 3) 0 n true where
  aligned := Nat.zero_mod n
  allowed := by decide
  tcm := by decide
  sound := nofun
  noBreak := by decide

set_option maxRecDepth 20000 in
theorem stb_twiceListed : ∃ u, exec (.stb 2 0 0 0) twiceListed = .next u ∧ u.byte 0x200000 = 1 :=
  ⟨_, rfl, by decide⟩

set_option maxRecDepth 20000 in
theorem stx_twiceListed : ∃ u, exec (.stx 2 0 0 0) twiceListed = .next u ∧ u.byte 0x200000 = 1 :=
  ⟨_, rfl, by decide⟩

/-- Refutes O11: from `twiceListed` a store of 0 takes the first of the two listings away, and the byte reads 1 still. -/
theorem not_loadsAndStores : ¬ Obligations.LoadsAndStores := by
  unfold Obligations.LoadsAndStores
  rintro ⟨-, stores, -⟩
  obtain ⟨t, run, -, -, -, -, bytes, -⟩ :=
    stores (Instr.stb, 1) (by simp [storeOps]) 2 0 0 0 twiceListed twiceListed_ready (twiceListed_access 1)
  obtain ⟨u, ran, old⟩ := stb_twiceListed
  obtain rfl : u = t := Host.Outcome.next.inj (ran.symm.trans run)
  exact absurd (old.symm.trans (bytes 2 (by decide) 0 (by decide))) (by decide)

/-- Refutes O12: from `twiceListed`, where strand C holds the reservation, an STX of 0 leaves the byte at 1 likewise. -/
theorem not_reservationPair : ¬ Obligations.ReservationPair := by
  unfold Obligations.ReservationPair
  rintro ⟨-, held, -⟩
  obtain ⟨t, run, -, -, -, bytes, -⟩ :=
    held 2 0 0 0 twiceListed twiceListed_ready (twiceListed_access 4) (by decide)
  obtain ⟨u, ran, old⟩ := stx_twiceListed
  obtain rfl : u = t := Host.Outcome.next.inj (ran.symm.trans run)
  exact absurd (old.symm.trans (bytes 2 (by decide) 0 (by decide))) (by decide)

end Sys2Proof.Machine
end

section
/-!
PROOFS on the tile arithmetic (the first clauses of O14): what TMAC, TMACV, ADRAIN, AZERO and TREL leave in ACC, in
the tiles and beside them (R228, R236, R240).
-/

namespace Sys2Proof.Machine

/-! ### Elements (R228) -/

theorem toInt_ofInt_satS {n : Nat} (hn : 0 < n) (x : Int) : (BitVec.ofInt n (satS n x)).toInt = satS n x := by
  obtain ⟨lo, hi⟩ := satS_bounds n x
  have half : 2 ^ n = 2 * 2 ^ (n - 1) := by rw [← pow_succ', Nat.sub_add_cancel hn]
  rw [BitVec.toInt_ofInt, half]
  exact Int.bmod_eq_of_le (by omega) (by omega)

/-- The place of row i, column j of a tile or of ACC. -/
def place (i j : Fin 8) : Fin 64 := ⟨8 * i.val + j.val, by omega⟩

theorem place_div (i j : Fin 8) : (place i j).val / 8 = i.val := by
  simp only [place]; omega

theorem place_mod (i j : Fin 8) : (place i j).val % 8 = j.val := by
  simp only [place]; omega

theorem Core.accSum_place (k : Core) (ta tb i j : Fin 8) :
    k.accSum ta tb (place i j) = (k.acc[place i j]).toInt + k.prod ta tb i j := by
  have row : (⟨(place i j).val / 8, by omega⟩ : Fin 8) = i := Fin.ext (place_div i j)
  have col : (⟨(place i j).val % 8, by omega⟩ : Fin 8) = j := Fin.ext (place_mod i j)
  rw [Core.accSum, row, col]

theorem Core.accumulate_acc (k : Core) (ta tb : Fin 8) (p : Fin 64 → Bool) (i j : Fin 8) :
    ((k.accumulate ta tb p).acc[place i j]).toInt =
      if p (place i j) then satS 48 ((k.acc[place i j]).toInt + k.prod ta tb i j) else (k.acc[place i j]).toInt := by
  simp only [Core.accumulate, Fin.getElem_fin, Vector.getElem_ofFn, Fin.eta]
  split
  · rw [toInt_ofInt_satS (by decide), Core.accSum_place]
    rfl
  · rfl

theorem Core.elem_of_use {k : Core} {t : Fin 8} (h : k.tuse.toNat.testBit t.val = true) (i j : Fin 8) :
    k.elem t i j = (k.tiles[t][place i j]).toInt := if_pos h

theorem Core.elem_of_no_use {k : Core} {t : Fin 8} (h : k.tuse.toNat.testBit t.val = false) (i j : Fin 8) :
    k.elem t i j = 0 := if_neg (ne_true_of_eq_false h)

theorem testBit_setUse (u : BitVec 8) (t v : Fin 8) :
    (u ||| BitVec.ofNat 8 (2 ^ t.val)).toNat.testBit v.val = (u.toNat.testBit v.val || decide (t = v)) := by
  have bit : 2 ^ t.val % 2 ^ 8 = 2 ^ t.val := Nat.mod_eq_of_lt (Nat.pow_lt_pow_right (by decide) t.isLt)
  rw [BitVec.toNat_or, BitVec.toNat_ofNat, bit, Nat.testBit_or, Nat.testBit_two_pow]
  simp only [Fin.ext_iff]

theorem testBit_clearUse (u : BitVec 8) (t v : Fin 8) :
    (u &&& ~~~ BitVec.ofNat 8 (2 ^ t.val)).toNat.testBit v.val = (u.toNat.testBit v.val && !decide (t = v)) := by
  have bit : 2 ^ t.val % 2 ^ 8 = 2 ^ t.val := Nat.mod_eq_of_lt (Nat.pow_lt_pow_right (by decide) t.isLt)
  have range : v.val < 8 := v.isLt
  simp only [BitVec.testBit_toNat, BitVec.getLsbD_and, BitVec.getLsbD_not, BitVec.getLsbD_ofNat, range, decide_true,
    Bool.true_and, Nat.testBit_two_pow, Fin.ext_iff]

theorem Core.drain_elem (k : Core) (td : Fin 8) (sh : Nat) (z : Bool) (i j : Fin 8) :
    (k.drain td sh z).elem td i j = satS 16 (rhe 15 ((k.acc[place i j]).toInt * 2 ^ sh)) := by
  have used : (k.drain td sh z).tuse.toNat.testBit td.val = true := by
    simp only [Core.drain, testBit_setUse, decide_true, Bool.or_true]
  rw [Core.elem_of_use used]
  simp only [Core.drain, Fin.getElem_fin, Vector.getElem_set_self, Vector.getElem_ofFn, Fin.eta]
  rw [toInt_ofInt_satS (by decide)]
  rfl

theorem Core.drain_tiles (k : Core) {td u : Fin 8} (h : u ≠ td) (sh : Nat) (z : Bool) :
    (k.drain td sh z).tiles[u] = k.tiles[u] := by
  have other : td.val ≠ u.val := fun e => h (Fin.ext e.symm)
  simp only [Core.drain, Fin.getElem_fin, Vector.getElem_set_ne _ _ other]

/-- What TREL leaves, with TPROG cleared where it records a move of the tile. -/
theorem Core.release_eq (k : Core) (t : Fin 8) : k.release t =
    { k.setTuse (k.tuse &&& ~~~ BitVec.ofNat 8 (2 ^ t.val)) with tprog := if k.recordsTile t then 0 else k.tprog } := by
  unfold Core.release
  dsimp only
  split <;> rfl

theorem Core.release_tuse (k : Core) (t : Fin 8) : (k.release t).tuse = k.tuse &&& ~~~ BitVec.ofNat 8 (2 ^ t.val) := by
  rw [Core.release_eq]
  rfl

theorem Core.release_elem_same (k : Core) (t i j : Fin 8) : (k.release t).elem t i j = 0 :=
  Core.elem_of_no_use (by rw [Core.release_tuse, testBit_clearUse]; simp) i j

theorem Core.release_elem_other (k : Core) {t v : Fin 8} (h : v ≠ t) (i j : Fin 8) :
    (k.release t).elem v i j = k.elem v i j := by
  have use : (k.tuse &&& ~~~ BitVec.ofNat 8 (2 ^ t.val)).toNat.testBit v.val = k.tuse.toNat.testBit v.val := by
    rw [testBit_clearUse]
    simp [h.symm]
  have kept : (k.release t).tiles[v] = k.tiles[v] := by
    rw [Core.release_eq]
    simp only [Core.setTuse, Fin.getElem_fin, Vector.getElem_ofFn, use, Bool.and_not_self, Bool.false_eq_true, if_false]
  rw [Core.elem, Core.elem, Core.release_tuse, use, kept]

/-! ### The instructions -/

section
variable {k t : Core} {pc : Word} {n : Nat} (h : k.Ran t pc n)
include h

theorem Core.Ran.acc : t.acc = k.acc := by rw [show t = _ from h]
theorem Core.Ran.tiles : t.tiles = k.tiles := by rw [show t = _ from h]
theorem Core.Ran.tuse : t.tuse = k.tuse := by rw [show t = _ from h]
theorem Core.Ran.tAccSat : t.tAccSat = k.tAccSat := by rw [show t = _ from h]
theorem Core.Ran.tAccCnt : t.tAccCnt = k.tAccCnt := by rw [show t = _ from h]
theorem Core.Ran.tDrnSat : t.tDrnSat = k.tDrnSat := by rw [show t = _ from h]
theorem Core.Ran.tDrnCnt : t.tDrnCnt = k.tDrnCnt := by rw [show t = _ from h]

theorem Core.Ran.elem (u i j : Fin 8) : t.elem u i j = k.elem u i j := by
  rw [Core.elem, Core.elem, h.tuse, h.tiles]

end

theorem Core.elem_issued (k : Core) (n : Nat) (t i j : Fin 8) : (k.issued n).elem t i j = k.elem t i j := rfl

theorem Core.accSum_issued (k : Core) (n : Nat) (ta tb : Fin 8) (x : Fin 64) :
    (k.issued n).accSum ta tb x = k.accSum ta tb x := by
  simp only [Core.accSum, Core.prod, Core.elem_issued]
  rfl

theorem Core.drained_issued (k : Core) (n sh : Nat) (x : Fin 64) : (k.issued n).drained sh x = k.drained sh x := rfl

theorem Core.accumulate_next (k : Core) (ta tb : Fin 8) (p : Fin 64 → Bool) (n : Nat) :
    ((k.issued n).accumulate ta tb p).next = { (k.accumulate ta tb p).issued n with pc := k.pc + 4 } := by
  simp only [Core.accumulate, Core.accSum_issued]
  rfl

theorem Core.drain_next (k : Core) (td : Fin 8) (sh : Nat) (z : Bool) (n : Nat) :
    ((k.issued n).drain td sh z).next = { (k.drain td sh z).issued n with pc := k.pc + 4 } := by
  simp only [Core.drain, Core.drained_issued]
  rfl

theorem Core.release_next (k : Core) (t : Fin 8) (n : Nat) :
    ((k.issued n).release t).next = { (k.release t).issued n with pc := k.pc + 4 } := by
  rw [Core.release_eq, Core.release_eq]
  rfl

theorem Core.accumulate_alike (k : Core) (ta tb : Fin 8) (p : Fin 64 → Bool) : k.Alike (k.accumulate ta tb p) := by
  constructor <;> simp only [Core.accumulate]

theorem Core.drain_alike (k : Core) (td : Fin 8) (sh : Nat) (z : Bool) : k.Alike (k.drain td sh z) :=
  ⟨rfl, rfl, rfl, rfl⟩

theorem Core.release_alike (k : Core) (t : Fin 8) : k.Alike (k.release t) := by
  rw [Core.release_eq]
  exact ⟨rfl, rfl, rfl, rfl⟩

theorem Core.zero_alike (k : Core) : k.Alike { k with acc := Vector.replicate 64 0 } := ⟨rfl, rfl, rfl, rfl⟩

theorem Core.zero_next (k : Core) (n : Nat) :
    { (k.issued n).next with acc := Vector.replicate 64 0 } =
      { ({ k with acc := Vector.replicate 64 0 } : Core).issued n with pc := k.pc + 4 } := rfl

section
variable {k t : Core} {ta tb td u : Fin 8} {p : Fin 64 → Bool} {sh n : Nat} {z : Bool} {pc : Word}

theorem Core.Ran.accumulated (h : (k.accumulate ta tb p).Ran t pc n) :
    { k with acc := t.acc, tAccSat := t.tAccSat, tAccCnt := t.tAccCnt }.Ran t pc n := by
  rw [h.acc, h.tAccSat, h.tAccCnt]
  exact h

/-- TMAC adds the product to every element (R228). -/
theorem Core.Ran.accumulated_all (h : (k.accumulate ta tb fun _ => true).Ran t pc n) (i j : Fin 8) :
    (t.acc[(8 * i.val + j.val : Nat)]'(by omega)).toInt =
      satS 48 ((k.acc[(8 * i.val + j.val : Nat)]'(by omega)).toInt + k.prod ta tb i j) := by
  have e := k.accumulate_acc ta tb (fun _ => true) i j
  rw [← h.acc, if_pos rfl] at e
  exact e

/-- TMACV adds the product to the elements of one column (R228). -/
theorem Core.Ran.accumulated_column {col : Fin 8}
    (h : (k.accumulate ta tb fun x => decide (x.val % 8 = col.val)).Ran t pc n) (i j : Fin 8) :
    (t.acc[(8 * i.val + j.val : Nat)]'(by omega)).toInt =
      if j = col then satS 48 ((k.acc[(8 * i.val + j.val : Nat)]'(by omega)).toInt + k.prod ta tb i j)
      else (k.acc[(8 * i.val + j.val : Nat)]'(by omega)).toInt := by
  have e := k.accumulate_acc ta tb (fun x => decide (x.val % 8 = col.val)) i j
  simp only [← h.acc, place_mod, ← Fin.ext_iff, decide_eq_true_eq] at e
  exact e

theorem Core.Ran.drained_elem (h : (k.drain td sh z).Ran t pc n) (i j : Fin 8) :
    t.elem td i j = satS 16 (rhe 15 ((k.acc[(8 * i.val + j.val : Nat)]'(by omega)).toInt * 2 ^ sh)) :=
  (h.elem td i j).trans (k.drain_elem ..)

theorem Core.Ran.drained_acc (h : (k.drain td sh z).Ran t pc n) :
    t.acc = if z then Vector.replicate 64 0 else k.acc := h.acc

theorem Core.Ran.drained_tiles (h : (k.drain td sh z).Ran t pc n) (v : Fin 8) (hv : v ≠ td) :
    t.tiles[v] = k.tiles[v] := by
  rw [h.tiles, k.drain_tiles hv]

theorem Core.Ran.released_same (h : (k.release u).Ran t pc n) (i j : Fin 8) : t.elem u i j = 0 :=
  (h.elem u i j).trans (k.release_elem_same ..)

theorem Core.Ran.released_other (h : (k.release u).Ran t pc n) (v i j : Fin 8) (hv : v ≠ u) :
    t.elem v i j = k.elem v i j :=
  (h.elem v i j).trans (k.release_elem_other hv ..)

theorem Core.Ran.drained (h : (k.drain td sh z).Ran t pc n) :
    { k with
        acc := t.acc, tiles := t.tiles, tuse := k.tuse ||| BitVec.ofNat 8 (2 ^ td.val)
        tDrnSat := t.tDrnSat, tDrnCnt := t.tDrnCnt }.Ran t pc n := by
  rw [h.acc, h.tiles, h.tDrnSat, h.tDrnCnt]
  exact h

theorem Core.Ran.released (h : (k.release u).Ran t pc n) :
    { k with
        tiles := t.tiles, tuse := k.tuse &&& ~~~ BitVec.ofNat 8 (2 ^ u.val)
        tprog := if k.recordsTile u then 0 else k.tprog }.Ran t pc n := by
  rw [h.tiles]
  rw [Core.release_eq] at h ⊢
  exact h

end

/-- The instruction `i` writes no register: only core `c` changes, and it is `j` at `pc` after `n` cycles. -/
def Leaves (i : Instr) (s : State) (c : Fin 3) (j : Core) (pc : Word) (n : Nat) : Prop :=
  ∃ t, exec i s = .next t ∧ CoreOnly c s t ∧ (s.coreAt c).KeepsRegs (t.coreAt c) ∧ j.Ran (t.coreAt c) pc n

theorem State.Ready.leaves {s : State} {c : Fin 3} {i : Instr} {f : Core → Core} {j : Core} {pc : Word} {n : Nat}
    (h : s.Ready c) (hi : exec i s = .next ((s.cycles c n).complete c [] f)) (hj : (s.coreAt c).Alike j)
    (hf : f ((s.coreAt c).issued n) = { j.issued n with pc := pc }) : Leaves i s c j pc n :=
  ⟨_, hi, h.completes hj hf⟩

section
variable {s : State} {c : Fin 3} (h : s.Ready c)
include h

theorem exec_tmac (ta tb : Fin 8) : exec (.tmac c ta tb) s =
    .next ((s.cycles c 8).complete c [] fun k => (k.accumulate ta tb fun _ => true).next) :=
  congrArg Host.Outcome.next (h.issue 8 _)

theorem exec_tmacv (ta tb col : Fin 8) : exec (.tmacv c ta tb col) s =
    .next ((s.cycles c 2).complete c [] fun k => (k.accumulate ta tb fun x => decide (x.val % 8 = col.val)).next) :=
  congrArg Host.Outcome.next (h.issue 2 _)

theorem exec_adrain (td : Fin 8) (sh : Fin 16) (z : Bool) : exec (.adrain c td sh z) s =
    .next ((s.cycles c 2).complete c [] fun k => (k.drain td sh z).next) :=
  congrArg Host.Outcome.next (h.issue 2 _)

theorem exec_azero : exec (.azero c) s =
    .next ((s.cycles c 1).complete c [] fun k => { k.next with acc := Vector.replicate 64 0 }) :=
  congrArg Host.Outcome.next (h.issue 1 _)

theorem exec_trel (t : Fin 8) : exec (.trel c t) s =
    .next ((s.cycles c 1).complete c [] fun k => (k.release t).next) :=
  congrArg Host.Outcome.next (h.issue 1 _)

theorem tmac_leaves (ta tb : Fin 8) : Leaves (.tmac c ta tb) s c ((s.coreAt c).accumulate ta tb fun _ => true)
    ((s.coreAt c).pc + 4) 8 :=
  h.leaves (exec_tmac h ta tb) (Core.accumulate_alike ..) (Core.accumulate_next ..)

theorem tmacv_leaves (ta tb col : Fin 8) : Leaves (.tmacv c ta tb col) s c
    ((s.coreAt c).accumulate ta tb fun x => decide (x.val % 8 = col.val)) ((s.coreAt c).pc + 4) 2 :=
  h.leaves (exec_tmacv h ta tb col) (Core.accumulate_alike ..) (Core.accumulate_next ..)

theorem adrain_leaves (td : Fin 8) (sh : Fin 16) (z : Bool) : Leaves (.adrain c td sh z) s c
    ((s.coreAt c).drain td sh z) ((s.coreAt c).pc + 4) 2 :=
  h.leaves (exec_adrain h td sh z) (Core.drain_alike ..) (Core.drain_next ..)

theorem azero_leaves : Leaves (.azero c) s c { s.coreAt c with acc := Vector.replicate 64 0 }
    ((s.coreAt c).pc + 4) 1 :=
  h.leaves (exec_azero h) (Core.zero_alike _) (Core.zero_next ..)

theorem trel_leaves (u : Fin 8) : Leaves (.trel c u) s c ((s.coreAt c).release u) ((s.coreAt c).pc + 4) 1 :=
  h.leaves (exec_trel h u) (Core.release_alike ..) (Core.release_next ..)

end

end Sys2Proof.Machine
end

section
/-!
PROOFS on the tile moves (the other clauses of O14): what the rows of a move leave in the core and in memory where
every row lies in the D-TCM (R226, R227), and how such a move ends or pauses.
-/

namespace Sys2Proof.Machine

/-! ### States that differ in the cores and in memory -/

/-- `t` differs from `s` in the cores and in memory alone. -/
def State.Beside (s t : State) : Prop := t = { s with core := t.core, mem := t.mem }

theorem State.Beside.refl (s : State) : s.Beside s := rfl

theorem State.Beside.trans {s t u : State} (h : s.Beside t) (k : t.Beside u) : s.Beside u :=
  Eq.trans k (congrArg (fun x : State => { x with core := u.core, mem := u.mem }) h)

theorem State.Beside.updCore (s : State) (c : Nat) (f : Core → Core) : s.Beside (s.updCore c f) := rfl

theorem State.Beside.dropRes (s : State) (own : Option Nat) (a : Nat) : s.Beside (s.dropRes own a) := rfl

theorem State.Beside.withMem (s : State) (m : List Host.Cell) : s.Beside { s with mem := m } := rfl

theorem State.Beside.tcmHomes {s t : State} (h : s.Beside t) (c : Nat) : t.tcmHomes c = s.tcmHomes c :=
  (congrArg (·.tcmHomes c) h).trans rfl

theorem State.Beside.get {s t : State} (h : s.Beside t) (f : Fld) : t.get f = s.get f :=
  (congrArg (·.get f) h).trans rfl

theorem State.Beside.of_mem {s t : State} (h : s.Beside t) (hm : t.mem = s.mem) : t = { s with core := t.core } := by
  have e : t = { s with core := t.core, mem := t.mem } := h
  rwa [hm] at e

theorem State.Beside.onlyIn {s t : State} (h : s.Beside t) : OnlyIn [.core, .mem] s t := by
  rw [show t = _ from h]
  refine ⟨rfl, fun p hp => ?_⟩
  cases p with
  | core => exact absurd rfl (hp .core (by simp))
  | mem => exact absurd rfl (hp .mem (by simp))
  | pd => exact fun _ _ => rfl
  | _ => rfl

theorem OnlyIn.of_core {s t : State} (h : t = { s with core := t.core }) : OnlyIn [.core] s t := by
  rw [h]
  refine ⟨rfl, fun p hp => ?_⟩
  cases p with
  | core => exact absurd rfl (hp .core (by simp))
  | pd => exact fun _ _ => rfl
  | _ => rfl

/-! ### A write of the D-TCM (R169) -/

/-- The memory after the write of a byte at the keys of `homes`. -/
def memAtHomes (key : Nat → Nat → Nat) (homes : List Nat) (m : List Host.Cell) (a : Nat) (v : Byte) : List Host.Cell :=
  homes.foldl (fun m k => memPut m (key k a) v) m

/-- The memory after the write of `n` bytes at the keys of `homes`. -/
def memWrite (key : Nat → Nat → Nat) (homes : List Nat) (off n v : Nat) (m : List Host.Cell) : List Host.Cell :=
  ((List.range n).zip (toLE n v)).foldl (fun m x => memAtHomes key homes m (off + x.1) (BitVec.ofNat 8 x.2)) m

theorem State.foldl_setByte (key : Nat → Nat → Nat) (a : Nat) (v : Byte) (homes : List Nat) (s : State) :
    homes.foldl (fun s k => s.setByte (key k a) v) s = { s with mem := memAtHomes key homes s.mem a v } := by
  induction homes generalizing s with
  | nil => rfl
  | cons k l ih => exact ih _

theorem State.tcmPut_eq (s : State) (key : Nat → Nat → Nat) (c a : Nat) (v : Byte) :
    s.tcmPut key c a v = { s with mem := memAtHomes key (s.tcmHomes c) s.mem a v } :=
  State.foldl_setByte ..

theorem State.tcmWrite_eq (s : State) (key : Nat → Nat → Nat) (c off n v : Nat) :
    s.tcmWrite key c off n v = { s with mem := memWrite key (s.tcmHomes c) off n v s.mem } := by
  have fold (l : List (Nat × Nat)) (u : State) (hu : s.Beside u) :
      l.foldl (fun s x => s.tcmPut key c (off + x.1) (BitVec.ofNat 8 x.2)) u = { u with
        mem := l.foldl (fun m x => memAtHomes key (s.tcmHomes c) m (off + x.1) (BitVec.ofNat 8 x.2)) u.mem } := by
    induction l generalizing u with
    | nil => rfl
    | cons x l ih =>
      rw [List.foldl_cons, State.tcmPut_eq, hu.tcmHomes, ih _ (hu.trans (.withMem ..))]
      rfl
  exact fold _ s (.refl s)

theorem State.Beside.tcmWrite (s : State) (key : Nat → Nat → Nat) (c off n v : Nat) :
    s.Beside (s.tcmWrite key c off n v) := by
  rw [State.tcmWrite_eq]
  exact .withMem ..

theorem State.Beside.tcmWrite_mem {s t : State} (h : s.Beside t) (hm : t.mem = s.mem) (key : Nat → Nat → Nat)
    (c off n v : Nat) : (t.tcmWrite key c off n v).mem = (s.tcmWrite key c off n v).mem := by
  rw [State.tcmWrite_eq, State.tcmWrite_eq, h.tcmHomes, hm]

theorem State.coreAt_tcmWrite (s : State) (key : Nat → Nat → Nat) (c off n v d : Nat) :
    (s.tcmWrite key c off n v).coreAt d = s.coreAt d := by
  rw [State.tcmWrite_eq]
  rfl

theorem State.dropRes_mem (s : State) (own : Option Nat) (a : Nat) : (s.dropRes own a).mem = s.mem := rfl

/-- The core that writes keeps its reservation (R221). -/
theorem State.coreAt_dropRes_own (s : State) (c : Fin 3) (a : Nat) : (s.dropRes (some c) a).coreAt c = s.coreAt c := by
  simp [State.coreAt_fin, State.dropRes]

/-! ### What a cycle and an answer leave of a core -/

section
variable (k : Core) (n : Nat)

@[simp] theorem Core.spent_world : (k.spent n).world = k.world := rfl
@[simp] theorem Core.spent_pc : (k.spent n).pc = k.pc := rfl
@[simp] theorem Core.spent_mpu : (k.spent n).mpu = k.mpu := rfl
theorem Core.spent_cycle : (k.spent n).cycle = k.cycle + BitVec.ofNat 32 n := rfl
@[simp] theorem Core.spent_rowBytes (m : Move) (r : Nat) : (k.spent n).rowBytes m r = k.rowBytes m r := rfl
@[simp] theorem Core.answered_pc : k.answered.pc = k.pc := rfl
@[simp] theorem Core.answered_step : k.answered.step = k.step := rfl
@[simp] theorem Core.answered_mpu : k.answered.mpu = k.mpu := rfl
@[simp] theorem Core.answered_cycle : k.answered.cycle = k.cycle := rfl
@[simp] theorem Core.answered_rowBytes (m : Move) (r : Nat) : k.answered.rowBytes m r = k.rowBytes m r := rfl

theorem Core.answered_spent : (k.spent n).answered = k.answered.spent n := rfl

theorem Core.answered_idem : k.answered.answered = k.answered := rfl

theorem Core.next_issued : (k.issued n).next = { k.issued n with pc := k.pc + 4 } := rfl

theorem Core.spent_spent (r : Nat) : (k.spent n).spent r = k.spent (n + r) := by
  simp only [Core.spent, BitVec.add_assoc, BitVec.ofNat_add]

end

/-! ### What the rows of a move leave in the core -/

theorem Core.putRow_eq (k : Core) (m : Move) (r : Nat) (l : List Nat) : k.putRow m r l = { k with
    acc := (k.putRow m r l).acc, tiles := (k.putRow m r l).tiles, tuse := (k.putRow m r l).tuse } := by
  unfold Core.putRow
  split <;> rfl

theorem Core.putRow_answered (k : Core) (m : Move) (r : Nat) (l : List Nat) :
    k.answered.putRow m r l = (k.putRow m r l).answered := by
  have acc : k.answered.accBytes = k.accBytes := rfl
  have tiles : k.answered.tiles = k.tiles := rfl
  have tuse : k.answered.tuse = k.tuse := rfl
  simp only [Core.putRow, acc, tiles, tuse]
  split
  · simp only [Core.answered]
  · simp only [Core.answered]

theorem Core.putRow_spent (k : Core) (m : Move) (r : Nat) (l : List Nat) (n : Nat) :
    (k.spent n).putRow m r l = (k.putRow m r l).spent n := by
  have acc : (k.spent n).accBytes = k.accBytes := rfl
  have tiles : (k.spent n).tiles = k.tiles := rfl
  have tuse : (k.spent n).tuse = k.tuse := rfl
  simp only [Core.putRow, acc, tiles, tuse]
  split
  · simp only [Core.spent]
  · simp only [Core.spent]

/-- The core once `r` rows of the move have loaded what they read (R236): a move that writes memory loads nothing. -/
def State.rowsLoaded (s : State) (c : Nat) (m : Move) (r : Nat) : Core :=
  (List.range r).foldl (fun k r => if m.writes then k else k.putRow m r
    (toLE 16 (s.tcmBytes dtcmKey c (m.rowEa r).toNat 16))) (s.coreAt c)

/-- The state once `r` rows of the move have stored the core's rows: a move that reads memory stores nothing. -/
def State.rowsStored (s : State) (c : Nat) (m : Move) (r : Nat) : State :=
  (List.range r).foldl (fun v r => if m.writes then
    v.tcmWrite dtcmKey c (m.rowEa r).toNat 16 (leNat ((s.coreAt c).rowBytes m r)) else v) s

section
variable (s : State) (c : Nat) (m : Move)

theorem State.rowsLoaded_succ (r : Nat) : s.rowsLoaded c m (r + 1) =
    if m.writes then s.rowsLoaded c m r else (s.rowsLoaded c m r).putRow m r
      (toLE 16 (s.tcmBytes dtcmKey c (m.rowEa r).toNat 16)) := by
  rw [State.rowsLoaded, List.range_succ, List.foldl_append]
  rfl

theorem State.rowsStored_succ (r : Nat) : s.rowsStored c m (r + 1) =
    if m.writes then (s.rowsStored c m r).tcmWrite dtcmKey c (m.rowEa r).toNat 16 (leNat ((s.coreAt c).rowBytes m r))
    else s.rowsStored c m r := by
  rw [State.rowsStored, List.range_succ, List.foldl_append]
  rfl

theorem State.rowsLoaded_eq (r : Nat) : s.rowsLoaded c m r = { s.coreAt c with
    acc := (s.rowsLoaded c m r).acc, tiles := (s.rowsLoaded c m r).tiles, tuse := (s.rowsLoaded c m r).tuse } := by
  induction r with
  | zero => rfl
  | succ r ih =>
    rw [State.rowsLoaded_succ]
    split
    · exact ih
    · rw [Core.putRow_eq, ih]

@[simp] theorem State.rowsLoaded_world (r : Nat) : (s.rowsLoaded c m r).world = (s.coreAt c).world := by
  rw [State.rowsLoaded_eq]

@[simp] theorem State.rowsLoaded_pc (r : Nat) : (s.rowsLoaded c m r).pc = (s.coreAt c).pc := by
  rw [State.rowsLoaded_eq]

@[simp] theorem State.rowsLoaded_step (r : Nat) : (s.rowsLoaded c m r).step = (s.coreAt c).step := by
  rw [State.rowsLoaded_eq]

theorem State.rowsLoaded_cycle (r : Nat) : (s.rowsLoaded c m r).cycle = (s.coreAt c).cycle := by
  rw [State.rowsLoaded_eq]

theorem State.rowsLoaded_g (r : Nat) : (s.rowsLoaded c m r).g = (s.coreAt c).g := by
  rw [State.rowsLoaded_eq]

theorem State.rowsLoaded_ld (r : Nat) : (s.rowsLoaded c m r).ld = (s.coreAt c).ld := by
  rw [State.rowsLoaded_eq]

@[simp] theorem State.rowsLoaded_mpu (r : Nat) : (s.rowsLoaded c m r).mpu = (s.coreAt c).mpu := by
  rw [State.rowsLoaded_eq]
  rfl

theorem State.rowsLoaded_of_writes (h : m.writes = true) (r : Nat) : s.rowsLoaded c m r = s.coreAt c := by
  simp only [State.rowsLoaded, h, if_true, List.foldl_fixed]

theorem State.rowsLoaded_of_reads (h : m.writes = false) (r : Nat) : s.rowsLoaded c m r =
    (List.range r).foldl (fun k r => k.putRow m r (toLE 16 (s.tcmBytes dtcmKey c (m.rowEa r).toNat 16)))
      (s.coreAt c) := by
  simp only [State.rowsLoaded, h, Bool.false_eq_true, if_false]

theorem State.rowsStored_of_writes (h : m.writes = true) (r : Nat) : s.rowsStored c m r =
    (List.range r).foldl (fun v r => v.tcmWrite dtcmKey c (m.rowEa r).toNat 16 (leNat ((s.coreAt c).rowBytes m r)))
      s := by
  simp only [State.rowsStored, h, if_true]

theorem State.rowsStored_of_reads (h : m.writes = false) (r : Nat) : s.rowsStored c m r = s := by
  simp only [State.rowsStored, h, Bool.false_eq_true, if_false, List.foldl_fixed]

theorem State.rowsStored_beside (r : Nat) : s.Beside (s.rowsStored c m r) := by
  induction r with
  | zero => exact .refl s
  | succ r ih =>
    rw [State.rowsStored_succ]
    split
    · exact ih.trans (.tcmWrite ..)
    · exact ih

end

/-! ### The rows of a move -/

/-- The move at row `r`, of those it has moved since it issued, where it continues no earlier one. -/
def Move.at (m : Move) (r : Nat) : Move := { m with row := r, moved := r, cont := false, paid := false }

/-- A row in the D-TCM: a cycle, and the row is loaded or stored. -/
def State.rowMoved (c : Fin 3) (m : Move) (s : State) (r : Nat) : State :=
  let a := (m.rowEa r).toNat
  let u := s.cycles c 1
  let v := if m.writes then
      (u.tcmWrite dtcmKey c a 16 (leNat ((u.coreAt c).rowBytes m r))).dropRes (some c) (dtcmKey c a)
    else u.updCore c fun k => k.putRow m r (toLE 16 (u.tcmBytes dtcmKey c a 16))
  v.updCore c Core.answered

theorem State.moveRow_tcm {v : State} {c : Fin 3} {m : Move} {r : Nat} (ht : (m.rowEa r).toNat < 0x20000) :
    (v.moveRow c (m.at r)).1 = .ok ∧ (v.moveRow c (m.at r)).2.updCore c Core.answered = v.rowMoved c m r := by
  have ea : ((m.at r).rowEa (m.at r).row).toNat = (m.rowEa r).toNat := rfl
  have unpaid : (m.at r).paid = false := rfl
  have op : (m.at r).writes = m.writes := rfl
  unfold State.moveRow State.rowMoved
  simp only [ea, unpaid, op, State.dataWait, State.dataRead, State.dataWrite, ht, if_true, Bool.false_eq_true, if_false]
  cases m.writes with
  | true => exact ⟨rfl, rfl⟩
  | false => exact ⟨rfl, rfl⟩

/-- A row that is allowed, lies in the D-TCM and reads a majority is moved, and the next one follows. -/
theorem State.moveRows_row {v : State} {c : Fin 3} {m : Move} {r : Nat} (hr : r < m.rows)
    (hstop : m.stop = 0 ∨ r < m.stop) (ht : (m.rowEa r).toNat < 0x20000)
    (ha : v.dataReason (v.coreAt c) (m.rowEa r).toNat m.writes = none)
    (hs : m.writes = false → v.tcmFails c (m.rowEa r).toNat = false) (n : Nat) :
    State.moveRows (n + 1) v c (m.at r) = State.moveRows n (v.rowMoved c m r) c (m.at (r + 1)) := by
  obtain ⟨ok, row⟩ := State.moveRow_tcm (v := v) (c := c) ht
  have going : ¬((m.at r).stop ≠ 0 ∧ (m.at r).moved = (m.at r).stop) := by
    rintro ⟨nz, e⟩
    have stop : r = m.stop := e
    have : m.stop ≠ 0 := nz
    omega
  have more : ¬(m.at r).rows ≤ (m.at r).row := Nat.not_le.mpr hr
  have ea : (m.at r).rowEa (m.at r).row = m.rowEa r := rfl
  have op : (m.at r).writes = m.writes := rfl
  have sound : (!m.writes && v.tcmFails c (m.rowEa r).toNat) = false := by
    cases w : m.writes with
    | true => rfl
    | false => exact hs w
  rw [State.moveRows, if_neg going, if_neg more]
  simp only [ea, op, ha, sound, Bool.false_eq_true, if_false, ok]
  rw [← row]
  rfl

/-! ### What has been moved -/

/-- `v` is `s` after the issue of the move and its first `r` rows. -/
structure State.Moved (s v : State) (c : Fin 3) (m : Move) (r : Nat) : Prop where
  beside : s.Beside v
  core : (v.coreAt c).answered = ((s.rowsLoaded c m r).answered).spent (2 + r)
  idle : r ≠ 0 → (v.coreAt c).answered = v.coreAt c
  mem : v.mem = (s.rowsStored c m r).mem
  others : m.writes = false → ∀ d : Fin 3, d ≠ c → v.coreAt d = s.coreAt d

theorem State.Moved.zero (s : State) (c : Fin 3) (m : Move) : s.Moved (s.cycles c 2) c m 0 where
  beside := .updCore ..
  core := by rw [State.coreAt_cycles, Core.answered_spent]; rfl
  idle := fun h => absurd rfl h
  mem := rfl
  others := fun _ d hd => (State.coreAt_updCore ..).trans (if_neg hd)

section
variable {s v : State} {c : Fin 3} {m : Move} {r : Nat} (h : s.Moved v c m r)
include h

theorem State.Moved.world : (v.coreAt c).world = (s.coreAt c).world := by
  simpa using congrArg Core.world h.core

theorem State.Moved.pc : (v.coreAt c).pc = (s.coreAt c).pc := by
  simpa using congrArg Core.pc h.core

theorem State.Moved.step : (v.coreAt c).step = (s.coreAt c).step := by
  simpa using congrArg Core.step h.core

theorem State.Moved.mpu : (v.coreAt c).mpu = (s.coreAt c).mpu := by
  simpa using congrArg Core.mpu h.core

theorem State.Moved.cycle : (v.coreAt c).cycle = (s.coreAt c).cycle + BitVec.ofNat 32 (2 + r) := by
  have e := congrArg Core.cycle h.core
  rwa [Core.spent_cycle, Core.answered_cycle, Core.answered_cycle, State.rowsLoaded_cycle] at e

theorem State.Moved.rowBytes (hw : m.writes = true) (q : Nat) :
    (v.coreAt c).rowBytes m q = (s.coreAt c).rowBytes m q := by
  have e := congrArg (fun k : Core => k.rowBytes m q) h.core
  simpa [State.rowsLoaded_of_writes s c m hw] using e

theorem State.Moved.eq_of_reads (hw : m.writes = false) : v = { s with core := v.core } :=
  h.beside.of_mem (h.mem.trans (congrArg State.mem (s.rowsStored_of_reads c m hw r)))

theorem State.Moved.tcmBytes (hw : m.writes = false) (key : Nat → Nat → Nat) (d a n : Nat) :
    v.tcmBytes key d a n = s.tcmBytes key d a n :=
  (congrArg (·.tcmBytes key d a n) (h.eq_of_reads hw)).trans rfl

theorem State.Moved.tcmFails (hw : m.writes = false) (d a : Nat) : v.tcmFails d a = s.tcmFails d a :=
  (congrArg (·.tcmFails d a) (h.eq_of_reads hw)).trans rfl

theorem State.Moved.bpMatch (a : Nat) (ks : List Nat) : v.bpMatch c a ks = s.bpMatch c a ks :=
  State.bpMatch_congr h.beside.get h.world a ks

theorem State.Moved.dataReason (a : Nat) (w : Bool) :
    v.dataReason (v.coreAt c) a w = s.dataReason (s.coreAt c) a w := by
  have regs : v.dataReason (v.coreAt c) a w = s.dataReason (v.coreAt c) a w :=
    (congrArg (·.dataReason (v.coreAt c) a w) h.beside).trans rfl
  rw [regs]
  simp only [State.dataReason, h.world, h.pc, h.mpu]

end

theorem State.rowMoved_core_reads (v : State) (c : Fin 3) {m : Move} (r : Nat) (hw : m.writes = false) :
    (v.rowMoved c m r).coreAt c =
      ((((v.coreAt c).spent 1).putRow m r (toLE 16 (v.tcmBytes dtcmKey c (m.rowEa r).toNat 16)))).answered := by
  simp only [State.rowMoved, hw, Bool.false_eq_true, if_false, State.coreAt_updCore, if_true, State.coreAt_cycles]
  rfl

theorem State.rowMoved_core_writes (v : State) (c : Fin 3) {m : Move} (r : Nat) (hw : m.writes = true) :
    (v.rowMoved c m r).coreAt c = ((v.coreAt c).spent 1).answered := by
  simp only [State.rowMoved, hw, if_true, State.coreAt_updCore, State.coreAt_dropRes_own, State.coreAt_tcmWrite,
    State.coreAt_cycles]

theorem State.rowMoved_mem_reads (v : State) (c : Fin 3) {m : Move} (r : Nat) (hw : m.writes = false) :
    (v.rowMoved c m r).mem = v.mem := by
  simp only [State.rowMoved, hw, Bool.false_eq_true, if_false, State.updCore_mem, State.cycles]

theorem State.rowMoved_mem_writes (v : State) (c : Fin 3) {m : Move} (r : Nat) (hw : m.writes = true) :
    (v.rowMoved c m r).mem =
      (v.tcmWrite dtcmKey c (m.rowEa r).toNat 16 (leNat ((v.coreAt c).rowBytes m r))).mem := by
  have bytes : ((v.cycles c 1).coreAt c).rowBytes m r = (v.coreAt c).rowBytes m r := by
    rw [State.coreAt_cycles, Core.spent_rowBytes]
  simp only [State.rowMoved, hw, if_true, bytes, State.updCore_mem, State.dropRes_mem]
  exact (State.Beside.updCore v c _).tcmWrite_mem rfl ..

theorem State.rowMoved_beside (v : State) (c : Fin 3) (m : Move) (r : Nat) : v.Beside (v.rowMoved c m r) := by
  unfold State.rowMoved
  dsimp only
  refine State.Beside.trans ?_ (.updCore ..)
  split
  · exact ((State.Beside.updCore ..).trans (.tcmWrite ..)).trans (.dropRes ..)
  · exact (State.Beside.updCore ..).trans (.updCore ..)

theorem State.rowMoved_others (v : State) {c d : Fin 3} (hd : d ≠ c) {m : Move} (r : Nat) (hw : m.writes = false) :
    (v.rowMoved c m r).coreAt d = v.coreAt d := by
  simp only [State.rowMoved, hw, Bool.false_eq_true, if_false, State.coreAt_updCore, hd, State.cycles]

/-- A row moves on. -/
theorem State.Moved.succ {s v : State} {c : Fin 3} {m : Move} {r : Nat} (h : s.Moved v c m r) :
    s.Moved (v.rowMoved c m r) c m (r + 1) := by
  have beside := h.beside.trans (v.rowMoved_beside c m r)
  cases hw : m.writes with
  | true =>
    have core := v.rowMoved_core_writes c r hw
    refine ⟨beside, ?_, fun _ => by rw [core, Core.answered_idem], ?_, fun e => absurd (hw.symm.trans e) (by decide)⟩
    · rw [core, Core.answered_idem, Core.answered_spent, h.core, Core.spent_spent, State.rowsLoaded_succ, if_pos hw,
        Nat.add_assoc]
    · have stored := s.rowsStored_beside c m r
      rw [v.rowMoved_mem_writes c r hw, h.rowBytes hw, State.rowsStored_succ, if_pos hw, State.tcmWrite_eq,
        State.tcmWrite_eq, h.beside.tcmHomes, stored.tcmHomes, h.mem]
  | false =>
    have core := v.rowMoved_core_reads c r hw
    refine ⟨beside, ?_, fun _ => by rw [core, Core.answered_idem], ?_,
      fun _ d hd => (v.rowMoved_others hd r hw).trans (h.others hw d hd)⟩
    · rw [core, Core.answered_idem, ← Core.putRow_answered, Core.answered_spent, h.core, Core.spent_spent,
        Core.putRow_spent, Core.putRow_answered, h.tcmBytes hw, State.rowsLoaded_succ, if_neg (ne_true_of_eq_false hw),
        Nat.add_assoc]
    · rw [v.rowMoved_mem_reads c r hw, h.mem, State.rowsStored_succ, if_neg (ne_true_of_eq_false hw)]

section
variable {s : State} {c : Fin 3} {m : Move} (h : s.MoveClear c m)
include h

/-- With nothing in their way, the first `r` rows of a move are moved one after the other. -/
theorem State.MoveClear.rows (r : Nat) (hr : r ≤ m.rows) (hs : m.stop = 0 ∨ r ≤ m.stop) :
    ∃ v, s.Moved v c m r ∧ ∀ n, State.moveRows (n + r) (s.cycles c 2) c (m.at 0) = State.moveRows n v c (m.at r) := by
  induction r with
  | zero => exact ⟨_, .zero s c m, fun _ => rfl⟩
  | succ r ih =>
    obtain ⟨v, moved, run⟩ := ih (by omega) (by omega)
    refine ⟨_, moved.succ, fun n => ?_⟩
    have allowed := (moved.dataReason (m.rowEa r).toNat m.writes).trans (h.allowed r hr)
    have sound (hw : m.writes = false) : v.tcmFails c (m.rowEa r).toNat = false :=
      (moved.tcmFails hw ..).trans (h.sound r hr hw)
    rw [← Nat.add_assoc, Nat.add_right_comm, run, State.moveRows_row hr (by omega) (h.tcm r hr) allowed sound]

/-- A move that continues no earlier one starts at row 0. -/
theorem State.MoveClear.go (hu : m.acc = true ∨ m.op = 0 ∨ m.op = 1 ∨ (s.coreAt c).tuse.toNat.testBit m.t.toNat = true) :
    (s.cycles c 2).moveGo c m = State.moveRows (m.rows + 2) (s.cycles c 2) c { m with row := 0, cont := false } := by
  have fresh : ((s.cycles c 2).coreAt c).matches m = false := by
    rw [State.coreAt_cycles]
    exact h.fresh
  have use : ((s.cycles c 2).coreAt c).tuse = (s.coreAt c).tuse := by
    rw [State.coreAt_cycles]
    rfl
  have used : (!m.acc && decide (m.op = 2 ∨ m.op = 3) && !(s.coreAt c).tuse.toNat.testBit m.t.toNat) = false := by
    rcases hu with e | e | e | e
    · rw [e]; rfl
    · rw [e]; simp
    · rw [e]; simp
    · rw [e]; simp
  have aligned : ¬(m.ea.toNat % 16 ≠ 0 ∨ m.stride % 16 ≠ 0) := by
    simp [h.aligned]
  unfold State.moveGo
  simp only [fresh, use, used, Bool.false_eq_true, if_false, aligned]

end

/-! ### The end of a move and its pause (R226, R237, R240) -/

theorem State.moveEnd_unmatched {s : State} {c : Fin 3} {m : Move} (hs : (s.coreAt c).step = false)
    (hb : ∀ r < m.rows, s.bpMatch c (m.rowEa r).toNat [if m.writes then 2 else 1, 3] = none) (hc : m.cont = false) :
    s.moveEnd c m = s.updCore c fun k => k.retire [] Core.next := by
  have effect : (fun k : Core => { k.next with tprog := if m.cont then 0 else k.tprog }) = Core.next := by
    funext k
    rw [hc]
    rfl
  have ends : s.complete c [] Core.next = s.updCore c fun k => k.retire [] Core.next :=
    State.complete_unstepped ((Core.next_step _).trans hs)
  have unmatched : (((List.range m.rows).filter fun r => decide (m.row ≤ r + m.moved)).findSome? fun r =>
      (s.updCore c fun k => k.retire [] Core.next).bpMatch c (m.rowEa r).toNat [if m.writes then 2 else 1, 3]) =
        none := by
    refine List.findSome?_eq_none_iff.mpr fun r hr => ?_
    rw [State.bpMatch_updCore ((Core.retire_world ..).trans rfl)]
    exact hb r (List.mem_range.mp (List.mem_of_mem_filter hr))
  unfold State.moveEnd
  simp only [effect, ends, unmatched]

/-- The registers that an instruction keeps of a core with the general registers and the load of `k`, it keeps of `k`. -/
theorem Core.KeepsRegs.of_eq {k j t : Core} (h : j.KeepsRegs t) (hg : j.g = k.g) (hl : j.ld = k.ld) : k.KeepsRegs t := by
  intro r
  rw [h r]
  simp only [Core.rest, Core.rd, hg, hl]

/-- What a move leaves that has ended on `t` after all its rows. -/
structure State.MoveDone (s t : State) (c : Fin 3) (m : Move) : Prop where
  beside : s.Beside t
  mem : t.mem = (s.rowsStored c m m.rows).mem
  others : m.writes = false → ∀ d : Fin 3, d ≠ c → t.coreAt d = s.coreAt d
  keeps : (s.coreAt c).KeepsRegs (t.coreAt c)
  ran : (s.rowsLoaded c m m.rows).answered.Ran (t.coreAt c) ((s.coreAt c).pc + 4) (2 + m.rows)

theorem State.Moved.done {s v : State} {c : Fin 3} {m : Move} (h : s.Moved v c m m.rows) (hr : m.rows ≠ 0) :
    s.MoveDone (v.updCore c fun k => k.retire [] Core.next) c m := by
  have core : (v.updCore c fun k => k.retire [] Core.next).coreAt c =
      ((s.rowsLoaded c m m.rows).answered.spent (2 + m.rows)).retire [] Core.next := by
    rw [State.coreAt_updCore, if_pos rfl, ← h.idle hr, h.core]
  obtain ⟨keeps, ran⟩ := (Core.Alike.refl (s.rowsLoaded c m m.rows).answered).retire (f := Core.next)
    (Core.next_issued _ (2 + m.rows))
  rw [Core.answered_pc, State.rowsLoaded_pc] at ran
  exact {
    beside := h.beside.trans (.updCore ..)
    mem := h.mem
    others := fun hw d hd => ((State.coreAt_updCore ..).trans (if_neg hd)).trans (h.others hw d hd)
    keeps := by
      rw [core]
      exact keeps.of_eq (s.rowsLoaded_g c m m.rows) (s.rowsLoaded_ld c m m.rows)
    ran := by
      rw [core]
      exact ran }

theorem State.MoveClear.ends {s : State} {c : Fin 3} {m : Move} (h : s.MoveClear c m) (hs : (s.coreAt c).step = false)
    (hr : m.rows ≠ 0) (hstop : m.stop = 0 ∨ m.rows < m.stop) :
    s.MoveDone (State.moveRows (m.rows + 2) (s.cycles c 2) c (m.at 0)) c m := by
  obtain ⟨v, moved, run⟩ := h.rows m.rows le_rfl (by omega)
  have stepEnd : State.moveRows 2 v c (m.at m.rows) = v.moveEnd c (m.at m.rows) := by
    have going : ¬((m.at m.rows).stop ≠ 0 ∧ (m.at m.rows).moved = (m.at m.rows).stop) := by
      rintro ⟨nz, e⟩
      have stop : m.rows = m.stop := e
      omega
    rw [State.moveRows, if_neg going]
    exact if_pos (le_refl m.rows)
  have unmatched := State.moveEnd_unmatched (m := m.at m.rows) (moved.step.trans hs)
    (fun r hr => (moved.bpMatch ..).trans (h.noBreak r hr)) rfl
  rw [Nat.add_comm, run, stepEnd, unmatched]
  exact moved.done hr

theorem State.MoveClear.pauses {s : State} {c : Fin 3} {m : Move} (h : s.MoveClear c m) (h0 : 0 < m.stop)
    (hr : m.stop ≤ m.rows) :
    let t := State.moveRows (m.rows + 2) (s.cycles c 2) c (m.at 0)
    OnlyIn [.core, .mem] s t ∧ (t.coreAt c).pc = (s.coreAt c).pc
      ∧ (t.coreAt c).cycle = (s.coreAt c).cycle + BitVec.ofNat 32 (2 + m.stop) ∧ (t.coreAt c).why = .row
      ∧ (t.coreAt c).wait = some (m.at m.stop).access := by
  obtain ⟨v, moved, run⟩ := h.rows m.stop hr (by omega)
  have pause : State.moveRows (m.rows + 2) (s.cycles c 2) c (m.at 0) = v.movePause c (m.at m.stop) := by
    have fuel : m.rows + 2 = (m.rows - m.stop + 1 + 1) + m.stop := by omega
    rw [fuel, run]
    exact if_pos ⟨h0.ne', rfl⟩
  have core : (v.movePause c (m.at m.stop)).coreAt c =
      { v.coreAt c with wait := some (m.at m.stop).access, why := .row, retries := 0 } :=
    (State.coreAt_updCore ..).trans (if_pos rfl)
  rw [pause]
  dsimp only
  rw [core]
  exact ⟨(moved.beside.trans (.updCore ..)).onlyIn, moved.pc, moved.cycle, rfl, rfl⟩

end Sys2Proof.Machine
end

section
/-!
PROOFS of the statement on the tile instructions (O14): each move as the rows it moves, and the statement.
-/

namespace Sys2Proof.Machine

/-- A move of a tile that is out of use, and that continues no earlier one, moves nothing (R236). -/
theorem State.moveGo_unused {s : State} {c : Nat} {m : Move} (hm : (s.coreAt c).matches m = false) (ha : m.acc = false)
    (hop : m.op = 2 ∨ m.op = 3) (hu : (s.coreAt c).tuse.toNat.testBit m.t.toNat = false) :
    s.moveGo c m = s.complete c [] Core.next := by
  unfold State.moveGo
  simp only [hm, ha, hop, hu, decide_true, Bool.not_false, Bool.and_self, if_true, Bool.false_eq_true, if_false]
  rfl

/-! ### TLD, TST, TSAVE and TREST (R226, R227) -/

theorem Move.tile_toNat (u : Fin 8) : (BitVec.ofNat 3 u.val).toNat = u.val := by
  rw [BitVec.toNat_ofNat]
  exact Nat.mod_eq_of_lt u.isLt

/-- The move that pauses after `n` rows, where `n` is not 0. -/
def Move.stopAt (m : Move) (n : Nat) : Move := { m with stop := n }

theorem State.MoveClear.stopAt {s : State} {c : Nat} {m : Move} (h : s.MoveClear c m) (n : Nat) :
    s.MoveClear c (m.stopAt n) :=
  ⟨h.fresh, h.aligned, h.allowed, h.tcm, h.sound, h.noBreak⟩

theorem Move.access_stopAt_at {m : Move} (hc : m.cont = false) (n : Nat) :
    ((m.stopAt n).at n).access = ({ m with row := n, moved := n, stop := n } : Move).access := by
  simp only [Move.access, Move.at, Move.stopAt, hc]

theorem tileMoveOf_rows_pos (k : Core) (op : BitVec 3) (u : Fin 8) (gs base : Fin 32) (disp : BitVec 12) :
    0 < (tileMoveOf k op u gs base disp).rows := by
  simp only [tileMoveOf]
  split
  · decide
  · omega

theorem tileSaveOf_rows_pos (k : Core) (op : BitVec 3) (acc : Bool) (u : Fin 8) (base : Fin 32) (disp : BitVec 12) :
    0 < (tileSaveOf k op acc u base disp).rows := by
  cases acc with
  | false => exact Nat.succ_pos 7
  | true => exact Nat.succ_pos 23

theorem State.rowsLoaded_stop (s : State) (c : Nat) {m : Move} (hw : m.writes = false) (n r : Nat) :
    s.rowsLoaded c (m.stopAt n) r = (List.range r).foldl (fun (k : Core) r => k.putRow { m with row := r } r
      (toLE 16 (s.tcmBytes dtcmKey c (m.rowEa r).toNat 16))) (s.coreAt c) :=
  s.rowsLoaded_of_reads c (m.stopAt n) hw r

theorem State.MoveClear.endsAt {s : State} {c : Fin 3} {m : Move} {n : Nat} (h : s.MoveClear c m)
    (hs : (s.coreAt c).step = false) (hr : 0 < m.rows) (hn : n = 0 ∨ m.rows < n) :
    s.MoveDone (State.moveRows (m.rows + 2) (s.cycles c 2) c ((m.stopAt n).at 0)) c (m.stopAt n) :=
  (h.stopAt n).ends hs hr.ne' hn

/-- A move that stops at a row before its last waits at its own PC for that row (R237, R245). -/
theorem State.MoveClear.pausesAt {s : State} {c : Fin 3} {m : Move} {n : Nat} (h : s.MoveClear c m)
    (hc : m.cont = false) (h0 : 0 < n) (hn : n ≤ m.rows) :
    let t := State.moveRows (m.rows + 2) (s.cycles c 2) c ((m.stopAt n).at 0)
    OnlyIn [.core, .mem] s t ∧ (t.coreAt c).pc = (s.coreAt c).pc
      ∧ (t.coreAt c).cycle = (s.coreAt c).cycle + BitVec.ofNat 32 (2 + n) ∧ (t.coreAt c).why = .row
      ∧ (t.coreAt c).wait = some ({ m with row := n, moved := n, stop := n } : Move).access := by
  rw [← Move.access_stopAt_at hc]
  exact (h.stopAt n).pauses h0 hn

section
variable {s t : State} {c : Fin 3} {u : Fin 8} {gs base : Fin 32} {disp : BitVec 12} {stop : Nat}

theorem exec_tld (h : s.tileMove c 0 u gs base disp stop = t) : exec (.tld c u gs base disp stop) s = .next t :=
  congrArg Host.Outcome.next h

theorem exec_tst (h : s.tileMove c 1 u gs base disp stop = t) : exec (.tst c u gs base disp stop) s = .next t :=
  congrArg Host.Outcome.next h

theorem exec_tsave {acc : Bool} (h : s.tileSave c 2 acc u base disp stop = t) :
    exec (.tsave c acc u base disp stop) s = .next t :=
  congrArg Host.Outcome.next h

theorem exec_trest {acc : Bool} (h : s.tileSave c 3 acc u base disp stop = t) :
    exec (.trest c acc u base disp stop) s = .next t :=
  congrArg Host.Outcome.next h

end

section
variable {s t : State} {c : Fin 3} {m : Move} {n : Nat} (d : s.MoveDone t c (m.stopAt n))
include d

theorem State.MoveDone.reads (hw : m.writes = false) :
    CoreOnly c s t ∧ (s.coreAt c).KeepsRegs (t.coreAt c)
      ∧ { (List.range m.rows).foldl (fun (k : Core) r => k.putRow { m with row := r } r
            (toLE 16 (s.tcmBytes dtcmKey c (m.rowEa r).toNat 16))) (s.coreAt c) with wait := none, retries := 0 }.Ran
          (t.coreAt c) ((s.coreAt c).pc + 4) (2 + m.rows) := by
  have mem : t.mem = s.mem := d.mem.trans (congrArg State.mem (s.rowsStored_of_reads c _ hw _))
  have ran := d.ran
  rw [State.rowsLoaded_stop s c hw] at ran
  exact ⟨⟨.of_core (d.beside.of_mem mem), d.others hw⟩, d.keeps, ran⟩

theorem State.MoveDone.writes (hw : m.writes = true) :
    OnlyIn [.core, .mem] s t ∧ (s.coreAt c).KeepsRegs (t.coreAt c)
      ∧ { s.coreAt c with wait := none, retries := 0 }.Ran (t.coreAt c) ((s.coreAt c).pc + 4) (2 + m.rows)
      ∧ t.mem = ((List.range m.rows).foldl (fun v r =>
          v.tcmWrite dtcmKey c (m.rowEa r).toNat 16 (leNat ((s.coreAt c).rowBytes m r))) s).mem := by
  have ran := d.ran
  rw [State.rowsLoaded_of_writes s c (m.stopAt n) hw] at ran
  exact ⟨d.beside.onlyIn, d.keeps, ran, d.mem.trans (congrArg State.mem (s.rowsStored_of_writes c _ hw _))⟩

end

section
variable {s : State} {c : Fin 3} (h : s.Ready c)
include h

theorem State.Ready.tileMove (op : BitVec 3) (u : Fin 8) (gs base : Fin 32) (disp : BitVec 12) (stop : Nat) :
    s.tileMove c op u gs base disp stop =
      (s.cycles c 2).moveGo c ((tileMoveOf (s.coreAt c) op u gs base disp).stopAt stop) := by
  rw [State.tileMove, h.issue, State.coreAt_cycles]
  rfl

theorem State.Ready.tileSave (op : BitVec 3) {acc : Bool} {u : Fin 8} (ha : acc = true → u = 0) (base : Fin 32)
    (disp : BitVec 12) (stop : Nat) :
    s.tileSave c op acc u base disp stop =
      (s.cycles c 2).moveGo c ((tileSaveOf (s.coreAt c) op acc u base disp).stopAt stop) := by
  have assigned : (acc && decide (u ≠ 0)) = false := by
    cases acc with
    | false => rfl
    | true => simp [ha rfl]
  rw [State.tileSave, h.issue, State.coreAt_cycles]
  simp only [assigned, Bool.false_eq_true, if_false]
  rfl

theorem State.Ready.tileMove_rows {op : BitVec 3} {u : Fin 8} {gs base : Fin 32} {disp : BitVec 12} (stop : Nat)
    (hop : op = 0 ∨ op = 1) (hm : s.MoveClear c (tileMoveOf (s.coreAt c) op u gs base disp)) :
    let m := (tileMoveOf (s.coreAt c) op u gs base disp).stopAt stop
    s.tileMove c op u gs base disp stop = State.moveRows (m.rows + 2) (s.cycles c 2) c (m.at 0) := by
  intro m
  have used : m.acc = true ∨ m.op = 0 ∨ m.op = 1 ∨ (s.coreAt c).tuse.toNat.testBit m.t.toNat = true :=
    hop.elim (fun e => .inr (.inl e)) fun e => .inr (.inr (.inl e))
  exact (h.tileMove op u gs base disp stop).trans ((hm.stopAt stop).go used)

theorem State.Ready.tileSave_rows (op : BitVec 3) {acc : Bool} {u : Fin 8} {base : Fin 32} {disp : BitVec 12} (stop : Nat)
    (ha : acc = true → u = 0) (hu : acc = false → (s.coreAt c).tuse.toNat.testBit u = true)
    (hm : s.MoveClear c (tileSaveOf (s.coreAt c) op acc u base disp)) :
    let m := (tileSaveOf (s.coreAt c) op acc u base disp).stopAt stop
    s.tileSave c op acc u base disp stop = State.moveRows (m.rows + 2) (s.cycles c 2) c (m.at 0) := by
  intro m
  have used : m.acc = true ∨ m.op = 0 ∨ m.op = 1 ∨ (s.coreAt c).tuse.toNat.testBit m.t.toNat = true := by
    cases e : acc with
    | true => exact .inl e
    | false => exact .inr (.inr (.inr ((congrArg _ (Move.tile_toNat u)).trans (hu e))))
  exact (h.tileSave op ha base disp stop).trans ((hm.stopAt stop).go used)

/-- A TSAVE or TREST of a tile that is out of use moves nothing (R236). -/
theorem State.Ready.tileSave_unused {op : BitVec 3} {u : Fin 8} {base : Fin 32} {disp : BitVec 12} (stop : Nat)
    (hop : op = 2 ∨ op = 3) (hu : (s.coreAt c).tuse.toNat.testBit u = false)
    (hm : (s.coreAt c).matches (tileSaveOf (s.coreAt c) op false u base disp) = false) :
    s.tileSave c op false u base disp stop = (s.cycles c 2).complete c [] Core.next := by
  have ofTile : (false = true) → u = 0 := fun e => absurd e (by decide)
  rw [h.tileSave op ofTile]
  refine State.moveGo_unused ?_ rfl hop ?_
  · rw [State.coreAt_cycles]
    exact hm
  · rw [State.coreAt_cycles]
    exact (congrArg _ (Move.tile_toNat u)).trans hu

end

/-- Settles O14: each tile instruction leaves in the tiles and in ACC what R226 to R228 give, and a move leaves what
its rows leave one after the other. -/
theorem tileInstructions : Obligations.TileInstructions := by
  unfold Obligations.TileInstructions
  refine ⟨fun c ta tb s h => ?_, fun c ta tb col s h => ?_, fun c td sh z s h => ?_, fun c s h => ?_,
    fun c u s h => ?_, fun c u gs base disp stop s h hm hs => ?_, fun c u gs base disp stop s h hm hs => ?_,
    fun x hx c u gs base disp stop s h hm h0 hs => ?_, fun c acc u base disp stop s h ha hu hm hs => ?_,
    fun c acc u base disp stop s h ha hu hm hs => ?_, fun c u base disp stop s h hu h2 h3 => ?_⟩
  · obtain ⟨t, run, only, regs, ran⟩ := tmac_leaves h ta tb
    exact ⟨t, run, only, regs, ran.accumulated, ran.accumulated_all⟩
  · obtain ⟨t, run, only, regs, ran⟩ := tmacv_leaves h ta tb col
    exact ⟨t, run, only, regs, ran.accumulated, ran.accumulated_column⟩
  · obtain ⟨t, run, only, regs, ran⟩ := adrain_leaves h td sh z
    exact ⟨t, run, only, regs, ran.drained, ran.drained_acc, ran.drained_elem, ran.drained_tiles⟩
  · exact azero_leaves h
  · obtain ⟨t, run, only, regs, ran⟩ := trel_leaves h u
    exact ⟨t, run, only, regs, ran.released, ran.released_same, ran.released_other⟩
  · have done := hm.endsAt h.noStep (tileMoveOf_rows_pos ..) hs
    exact ⟨_, exec_tld (h.tileMove_rows stop (.inl rfl) hm), done.reads rfl⟩
  · have done := hm.endsAt h.noStep (tileMoveOf_rows_pos ..) hs
    exact ⟨_, exec_tst (h.tileMove_rows stop (.inr rfl) hm), done.writes rfl⟩
  · rcases hx with _ | ⟨_, _ | ⟨_, ⟨⟩⟩⟩
    · exact ⟨_, exec_tld (h.tileMove_rows stop (.inl rfl) hm), hm.pausesAt rfl h0 hs⟩
    · exact ⟨_, exec_tst (h.tileMove_rows stop (.inr rfl) hm), hm.pausesAt rfl h0 hs⟩
  · have done := hm.endsAt h.noStep (tileSaveOf_rows_pos ..) hs
    exact ⟨_, exec_tsave (h.tileSave_rows 2 stop ha hu hm), done.writes rfl⟩
  · have done := hm.endsAt h.noStep (tileSaveOf_rows_pos ..) hs
    exact ⟨_, exec_trest (h.tileSave_rows 3 stop ha hu hm), done.reads rfl⟩
  · exact ⟨_, exec_tsave (h.tileSave_unused stop (.inl rfl) hu h2), exec_trest (h.tileSave_unused stop (.inr rfl) hu h3),
      h.completes (f := Core.next) (.refl _) (Core.next_issued ..)⟩

end Sys2Proof.Machine
end

section
/-!
PROOFS. The interrupt controller (chapter 12): what an event leaves (R251), the end of a coalescing timer and of an
interval (R252, R254), completions and withdrawals (R256, R257), the software-generated interrupts (R258), and which
source is a core's candidate (R252, R255, R261).
-/

namespace Sys2Proof.Machine

/-! ### An event (R250 to R252, R265) -/

section
variable {s : State} {n : Nat}

theorem State.dom_on {d : Nat} (h : s.on d = true) : s.get (R.PWR_DOM d) = 3 := of_decide_eq_true h

/-- An event at the registers: its source is pending and EVC has counted (R251). -/
def State.counted (s : State) (n : Nat) : State := (s.set (R.ICU_STS_PEND n) 1).inc (R.ICU_STS_EVC n)

theorem State.get_counted_evc (s : State) (n : Nat) :
    (s.counted n).get (R.ICU_STS_EVC n) = min 255 (s.get (R.ICU_STS_EVC n) + 1) := by
  rw [State.counted, State.get_inc, State.get_set_apart _ rfl]
  rfl

/-- The coalescing timer of an enabled source runs from its first event on, until it has expired (R252). -/
def State.timed (s : State) (n : Nat) : State :=
  { s with icu := { s.icu with timer := if n ∈ s.icu.expired then s.icu.timer else insOnce s.icu.timer n } }

theorem State.mem_timer_timed (s : State) (n : Nat) : n ∈ (s.timed n).icu.timer ∨ n ∈ s.icu.expired := by
  by_cases he : n ∈ s.icu.expired
  · exact .inr he
  · refine .inl (?_ : n ∈ if n ∈ s.icu.expired then s.icu.timer else insOnce s.icu.timer n)
    rw [if_neg he]
    exact mem_insOnce ..

/-- An event of a source that can fire while PD6 is ON (R251). -/
theorem State.raise_on (hn : n < 224) (h0 : n ≠ 190) (h1 : n ≠ 191) (h : s.on 6 = true) :
    s.raise n = if s.flag (R.ICU_SRC_EN n) then (s.counted n).timed n else s.counted n := by
  have hon := State.dom_on h
  have hen : (s.counted n).flag (R.ICU_SRC_EN n) = s.flag (R.ICU_SRC_EN n) := by
    rw [State.flag, State.counted, State.get_inc_apart _ rfl, State.get_set_apart _ rfl, State.flag]
  rw [← hen, State.raise, if_neg (by omega), if_pos (by omega)]
  rfl

theorem State.get_raise_evc (hn : n < 224) (h0 : n ≠ 190) (h1 : n ≠ 191) (h : s.on 6 = true) :
    (s.raise n).get (R.ICU_STS_EVC n) = min 255 (s.get (R.ICU_STS_EVC n) + 1) := by
  have untimed : (s.raise n).get (R.ICU_STS_EVC n) = (s.counted n).get (R.ICU_STS_EVC n) := by
    rw [State.raise_on hn h0 h1 h]
    split <;> rfl
  exact untimed.trans (s.get_counted_evc n)

/-- An event while PD6 is off is left to the wake latch (R265). -/
theorem State.raise_off (hn : n < 224) (h0 : n ≠ 190) (h1 : n ≠ 191)
    (h : s.get (R.PWR_DOM 6) = 0 ∨ s.get (R.PWR_DOM 6) = 1) :
    s.raise n = if wakeLatched n then { s with icu := { s.icu with wake := insOnce s.icu.wake n } } else s := by
  rw [State.raise, if_neg (by omega), if_neg (by omega)]

/-- An event changes no domain's state, so those of the same write find PD6 as the first did. -/
theorem State.on_raise (s : State) (n : Nat) : (s.raise n).on 6 = s.on 6 := by
  rw [State.on, State.get_raise_apart s n (by decide), State.on]

theorem State.raise_only (s : State) (n : Nat) :
    RegsOnly (Fld.ofSource n) s (s.raise n) ∧ OnlyIn [.icu, .pd 6] s (s.raise n) :=
  ⟨(RegsOnly.refl _ s).raise fun _ h => h, (s.raise_moves n).onlyIn _ (by decide)⟩

end

/-! ### The software-generated interrupts (R258) -/

section
variable {s : State} {v b : Nat}

/-- Bit `b` of a write of ICU_SGISET. -/
def State.sgiRaise (v : Nat) (s : State) (b : Nat) : State := if v.testBit b then s.raise (192 + b) else s

theorem State.sgiSet_eq (s : State) (v : Nat) : s.sgiSet v = (List.range 32).foldl (State.sgiRaise v) s := rfl

theorem State.on_sgiRaise (s : State) (v b : Nat) : (s.sgiRaise v b).on 6 = s.on 6 := by
  unfold State.sgiRaise
  split
  · exact State.on_raise ..
  · rfl

theorem State.get_sgiRaise_pend (h : s.on 6 = true) (hb : b < 32) (hv : v.testBit b = true) :
    (s.sgiRaise v b).get (R.ICU_STS_PEND (192 + b)) = 1 := by
  rw [State.sgiRaise, if_pos hv]
  exact State.get_raise_pend s (by omega) (by omega) (by omega) h

/-- The event of one source leaves PEND of every other. -/
theorem State.get_raise_pend_ne (s : State) {n m : Nat} (h : m ≠ n) :
    (s.raise n).get (R.ICU_STS_PEND m) = s.get (R.ICU_STS_PEND m) := by
  refine State.get_raise_ne s n ?_
  rintro (e | e)
  · have ha : 0x4800 + 0x4 * m = 0x4800 + 0x4 * n := congrArg Fld.addr e
    omega
  · exact absurd (congrArg Fld.lo e) (by decide : (31 : Nat) ≠ 8)

theorem State.get_sgiRaise_pend_ne (s : State) {a : Nat} (h : b ≠ a ∨ v.testBit b = false) :
    (s.sgiRaise v a).get (R.ICU_STS_PEND (192 + b)) = s.get (R.ICU_STS_PEND (192 + b)) := by
  unfold State.sgiRaise
  split
  · next ha =>
    refine State.get_raise_pend_ne s ?_
    have : b ≠ a := by
      rintro rfl
      simp [ha] at h
    omega
  · rfl

/-- Of the bits `l` of the word written, those set make their sources pending, and no other changes PEND. -/
theorem State.get_sgiRaise_foldl (hb : b < 32) (l : List Nat) (h : s.on 6 = true) :
    (l.foldl (State.sgiRaise v) s).get (R.ICU_STS_PEND (192 + b)) =
      if b ∈ l ∧ v.testBit b = true then 1 else s.get (R.ICU_STS_PEND (192 + b)) := by
  induction l generalizing s with
  | nil => simp
  | cons a l ih =>
    rw [List.foldl_cons, ih ((State.on_sgiRaise ..).trans h)]
    by_cases hab : b = a ∧ v.testBit b = true
    · obtain ⟨rfl, hv⟩ := hab
      simp [hv, State.get_sgiRaise_pend h hb hv]
    · have other : b ≠ a ∨ v.testBit b = false := by
        simpa [imp_iff_not_or] using hab
      rw [State.get_sgiRaise_pend_ne s other]
      exact if_congr (by grind) rfl rfl

theorem State.get_sgiSet_pend (h : s.on 6 = true) (hb : b < 32) (v : Nat) :
    (s.sgiSet v).get (R.ICU_STS_PEND (192 + b)) =
      if v.testBit b then 1 else s.get (R.ICU_STS_PEND (192 + b)) := by
  rw [State.sgiSet_eq, State.get_sgiRaise_foldl hb _ h]
  simp [hb]

end

/-! ### The candidate of a core (R255) -/

section
variable {s : State} {c n : Nat}

/-- Source `n` is offered to core `c` with a priority. -/
def State.icuMay (s : State) (c n : Nat) : Prop := s.icuOffers c n = true ∧ 1 ≤ s.get (R.ICU_SRC_PRI n)

/-- Source `n` goes before source `m`: its priority is higher, or the same and its number is not. -/
def State.icuBefore (s : State) (n m : Nat) : Prop :=
  s.get (R.ICU_SRC_PRI m) < s.get (R.ICU_SRC_PRI n)
    ∨ (s.get (R.ICU_SRC_PRI m) = s.get (R.ICU_SRC_PRI n) ∧ n ≤ m)

/-- The source `best`, if there is one, goes before every other below `k` that core `c` may take. -/
def State.IcuBest (s : State) (c k : Nat) : Option Nat → Prop
  | none => ∀ m < k, ¬ s.icuMay c m
  | some n => (n < k ∧ s.icuMay c n) ∧ ∀ m < k, s.icuMay c m → s.icuBefore n m

/-- One source of the resolution, held against the best of those below it. -/
def State.icuPick (s : State) (c : Nat) (best : Option Nat) (n : Nat) : Option Nat :=
  if s.icuOffers c n && decide (1 ≤ s.get (R.ICU_SRC_PRI n)) then
    match best with
    | none => some n
    | some b => if s.get (R.ICU_SRC_PRI b) < s.get (R.ICU_SRC_PRI n) then some n else best
  else best

theorem State.icuCandidate_eq (s : State) (c : Nat) :
    s.icuCandidate c = (List.range 224).foldl (s.icuPick c) none := rfl

theorem State.icuPick_none (h : s.icuMay c n) : s.icuPick c none n = some n := by
  simp [State.icuPick, h.1, h.2]

theorem State.icuPick_some (h : s.icuMay c n) (b : Nat) : s.icuPick c (some b) n =
    if s.get (R.ICU_SRC_PRI b) < s.get (R.ICU_SRC_PRI n) then some n else some b := by
  simp [State.icuPick, h.1, h.2]

theorem State.icuPick_of_not (h : ¬ s.icuMay c n) (best : Option Nat) : s.icuPick c best n = best := by
  refine if_neg ?_
  simpa [State.icuMay] using h

/-- A source that the core may not take changes nothing. -/
theorem State.IcuBest.succ_of_not {k : Nat} {best : Option Nat} (h : s.IcuBest c k best) (hk : ¬ s.icuMay c k) :
    s.IcuBest c (k + 1) best := by
  have below {m : Nat} (hm : m < k + 1) (hmay : s.icuMay c m) : m < k :=
    Nat.lt_of_le_of_ne (Nat.le_of_lt_succ hm) fun e => hk (e ▸ hmay)
  match best with
  | none => exact fun m hm hmay => h m (below hm hmay) hmay
  | some b =>
    obtain ⟨⟨hb, hbmay⟩, first⟩ := h
    exact ⟨⟨Nat.lt_succ_of_lt hb, hbmay⟩, fun m hm hmay => first m (below hm hmay) hmay⟩

/-- A source that goes before every one below it is the best up to itself. -/
theorem State.IcuBest.new {k : Nat} (hk : s.icuMay c k) (first : ∀ m < k, s.icuMay c m → s.icuBefore k m) :
    s.IcuBest c (k + 1) (some k) := by
  refine ⟨⟨k.lt_succ_self, hk⟩, fun m hm hmay => ?_⟩
  obtain hlt | rfl := Nat.lt_succ_iff_lt_or_eq.mp hm
  · exact first m hlt hmay
  · exact .inr ⟨rfl, le_rfl⟩

/-- The best so far stays so where it goes before the next source. -/
theorem State.IcuBest.keep {k b : Nat} (h : s.IcuBest c k (some b)) (hbk : s.icuBefore b k) :
    s.IcuBest c (k + 1) (some b) := by
  obtain ⟨⟨hb, hbmay⟩, first⟩ := h
  refine ⟨⟨Nat.lt_succ_of_lt hb, hbmay⟩, fun m hm hmay => ?_⟩
  obtain hlt | rfl := Nat.lt_succ_iff_lt_or_eq.mp hm
  · exact first m hlt hmay
  · exact hbk

theorem State.IcuBest.pick {k : Nat} {best : Option Nat} (h : s.IcuBest c k best) :
    s.IcuBest c (k + 1) (s.icuPick c best k) := by
  by_cases hk : s.icuMay c k
  · match best with
    | none =>
      rw [State.icuPick_none hk]
      exact .new hk fun m hm hmay => absurd hmay (h m hm)
    | some b =>
      obtain ⟨⟨hb, -⟩, first⟩ := id h
      rw [State.icuPick_some hk]
      split
      next hlt =>
        refine .new hk fun m hm hmay => ?_
        have hbm := first m hm hmay
        unfold State.icuBefore at hbm ⊢
        omega
      next hge =>
        refine h.keep ?_
        unfold State.icuBefore
        omega
  · rw [State.icuPick_of_not hk]
    exact h.succ_of_not hk

theorem State.icuBest_foldl (s : State) (c k : Nat) : s.IcuBest c k ((List.range k).foldl (s.icuPick c) none) := by
  induction k with
  | zero => exact fun m hm => absurd hm m.not_lt_zero
  | succ k ih =>
    rw [List.range_succ, List.foldl_append]
    exact ih.pick

theorem State.icuBest_candidate (s : State) (c : Nat) : s.IcuBest c 224 (s.icuCandidate c) :=
  s.icuBest_foldl c 224

/-- At most one source goes before every other. -/
theorem State.IcuBest.eq_some {k n : Nat} {best : Option Nat} (h : s.IcuBest c k best) (hn : s.IcuBest c k (some n)) :
    best = some n := by
  obtain ⟨⟨hlt, hmay⟩, first⟩ := hn
  match best with
  | none => exact absurd hmay (h n hlt)
  | some b =>
    obtain ⟨⟨hb, hbmay⟩, bfirst⟩ := h
    have hnb := first b hb hbmay
    have hbn := bfirst n hlt hmay
    unfold State.icuBefore at hnb hbn
    exact congrArg some (by omega)

theorem State.icuCandidate_eq_some_iff (s : State) (c n : Nat) :
    s.icuCandidate c = some n ↔ s.IcuBest c 224 (some n) :=
  ⟨fun e => e ▸ s.icuBest_candidate c, (s.icuBest_candidate c).eq_some⟩

theorem State.offers_of_candidate (h : s.icuCandidate c = some n) : s.icuOffers c n = true := by
  obtain ⟨⟨-, offers, -⟩, -⟩ := (s.icuCandidate_eq_some_iff c n).mp h
  exact offers

/-! ### Readiness and routing (R252, R261) -/

theorem State.icuReady_iff (s : State) (n : Nat) : s.icuReady n = true ↔ s.flag (R.ICU_STS_PEND n) = true
    ∧ ((s.get (R.ICU_COAL_COUNT n) ≠ 0 ∧ s.get (R.ICU_COAL_COUNT n) ≤ s.get (R.ICU_STS_EVC n))
      ∨ (s.get (R.ICU_COAL_TIME n) ≠ 0 ∧ n ∈ s.icu.expired)
      ∨ (s.get (R.ICU_COAL_COUNT n) = 0 ∧ s.get (R.ICU_COAL_TIME n) = 0)) := by
  simp [State.icuReady, or_assoc]

/-- A source that is not pending is offered to no core. -/
theorem State.icuOffers_of_not_pend (h : s.get (R.ICU_STS_PEND n) = 0) (c : Nat) :
    s.icuOffers c n = false := by
  have idle : s.icuReady n = false := by simp [State.icuReady, State.flag, h]
  simp [State.icuOffers, idle]

theorem State.icuRoute_together (h : s.plyRoute = 0) (n : Nat) : s.icuRoute n = 0 := by
  simp [State.icuRoute, h]

theorem State.icuRoute_pair (h : s.plyRoute = 1) (n : Nat) :
    s.icuRoute n = if s.get (R.ICU_SRC_TARGET n) = 2 then 2 else 0 := by
  simp [State.icuRoute, h]

theorem State.icuRoute_split (h : s.plyRoute = 2) (n : Nat) :
    s.icuRoute n = if s.get (R.ICU_SRC_TARGET n) = 3 then 0 else s.get (R.ICU_SRC_TARGET n) := by
  simp [State.icuRoute, h]

end

/-! ### Withdrawal (R256, Table 12.4) -/

/-- A candidate that a change withdraws stays open at the priority it was resolved with. -/
theorem State.mem_raced_icuChange {s : State} {c n : Nat} {f : State → State} (hc : c < 3)
    (hn : s.icuCandidate c = some n) (gone : (f s).icuOffers c n = false) :
    (c, n, s.get (R.ICU_SRC_PRI n)) ∈ (s.icuChange f).icu.raced := by
  have other : (f s).icuCandidate c ≠ some n := fun e => by simp [State.offers_of_candidate e] at gone
  refine List.mem_append_left _ (List.mem_filterMap.mpr ⟨c, List.mem_range.mpr hc, ?_⟩)
  simp [hn, other, gone]

theorem State.icuWithdraw_shows (s : State) (n : Nat) : let t := s.icuWithdraw n
    t.get (R.ICU_STS_PEND n) = 0 ∧ t.get (R.ICU_STS_EVC n) = 0 ∧ n ∉ t.icu.timer ∧ n ∉ t.icu.expired
      ∧ RegsOnly (Fld.ofSource n) s t := by
  have off : ∀ f, (s.icuWithdraw n).get f = ((s.set (R.ICU_STS_PEND n) 0).set (R.ICU_STS_EVC n) 0).get f :=
    fun _ => rfl
  refine ⟨?_, ?_, not_mem_without _ _, not_mem_without _ _, ?_⟩
  · rw [off, State.get_set_apart _ rfl, State.get_set]
    rfl
  · rw [off, State.get_set]
    rfl
  · exact ((RegsOnly.refl _ s).set (.inl rfl) 0).set (.inr rfl) 0

theorem exec_icuPendClear {s : State} (h : s.on 6 = true) (q : Who) (n : Fin 224) :
    exec (.icuPendClear q n) s = .next ((s.reply q.req .ok 0).icuChange fun s => s.icuWithdraw n) := by
  refine congrArg Host.Outcome.next ((State.via_on s q.req _ h).trans ?_)
  rw [State.writeIcuSts, if_neg (by decide), if_pos (by decide)]

theorem State.pendClear_shows (s : State) (n : Nat) : let t := s.icuChange fun s => s.icuWithdraw n
    t.get (R.ICU_STS_PEND n) = 0 ∧ t.get (R.ICU_STS_EVC n) = 0 ∧ n ∉ t.icu.timer ∧ n ∉ t.icu.expired
      ∧ RegsOnly (Fld.ofSource n) s t
      ∧ ∀ c : Fin 3, s.icuCandidate c = some n → (c.val, n, s.get (R.ICU_SRC_PRI n)) ∈ t.icu.raced := by
  obtain ⟨pend, evc, timer, expired, only⟩ := s.icuWithdraw_shows n
  exact ⟨pend, evc, timer, expired, only,
    fun c hc => State.mem_raced_icuChange c.isLt hc (State.icuOffers_of_not_pend pend c)⟩

/-! ### Completion (R257) -/

theorem exec_icuActclr {s : State} (h : s.on 6 = true) (q : Who) (n : Fin 224) :
    exec (.icuActclr q n) s = .next ((s.reply q.req .ok 0).icuComplete (s.get (R.ICU_STS_ACTBY n)) n) := by
  refine congrArg Host.Outcome.next ((State.via_on s q.req _ h).trans ?_)
  rw [State.writeIcuSts, if_pos (by decide), if_neg (by decide)]
  rfl

/-- The completion of an active source for the core in ACTBY ends it. -/
theorem State.icuComplete_active {s : State} {n : Nat} (hn : n < 224) (h : s.flag (R.ICU_STS_ACT n) = true) :
    s.icuComplete (s.get (R.ICU_STS_ACTBY n)) n = s.set (R.ICU_STS_ACT n) 0 := if_pos ⟨hn, h, rfl⟩

theorem State.icuComplete_stray {s : State} {n : Nat} (h : s.flag (R.ICU_STS_ACT n) = false) (c : Nat) :
    s.icuComplete c n = s.icuStray c n := by
  rw [State.icuComplete, if_neg]
  simp [h]

/-- The record of a stray completion, kept while it is valid and the count is not cleared (Table 12.5). -/
def State.strayKept (s : State) (c v : Nat) : State :=
  if s.flag R.ICU_STRAYLAST_VALID && decide (s.get R.ICU_STRAY ≠ 0) then s.inc R.ICU_STRAY
  else (((s.inc R.ICU_STRAY).set R.ICU_STRAYLAST_VALID 1).set R.ICU_STRAYLAST_CORE c).set R.ICU_STRAYLAST_SRC v

theorem State.icuStray_eq (s : State) (c v : Nat) : let t := s.strayKept c v
    s.icuStray c v = t.raiseIf (decide (t.get R.ICU_STRAY ≠ s.get R.ICU_STRAY)
      && decide (t.get R.ICU_STRAY = t.get R.ICU_STRAYTHR)) 155 := by
  have valid : (s.inc R.ICU_STRAY).flag R.ICU_STRAYLAST_VALID = s.flag R.ICU_STRAYLAST_VALID := by
    rw [State.flag, State.get_inc_apart _ rfl, State.flag]
  rw [State.strayKept, ← valid]
  rfl

/-- The event of source 155 leaves the registers of a stray completion. -/
theorem State.get_raiseIf_stray (s : State) (b : Bool) {f : Fld} (hp : (R.ICU_STS_PEND 155).apart f = true)
    (he : (R.ICU_STS_EVC 155).apart f = true) : (s.raiseIf b 155).get f = s.get f := by
  unfold State.raiseIf
  split
  · refine State.get_raise_ne s 155 ?_
    rintro (rfl | rfl)
    · exact Fld.ne_of_apart hp rfl
    · exact Fld.ne_of_apart he rfl
  · rfl

theorem State.strayKept_shows (s : State) (c : Nat) {v : Nat} (hv : v < 224) : let t := s.strayKept c v
    t.get R.ICU_STRAY = min 0xFFFF (s.get R.ICU_STRAY + 1) ∧ t.get R.ICU_STRAYLAST_VALID ≠ 0
      ∧ (s.flag R.ICU_STRAYLAST_VALID = false ∨ s.get R.ICU_STRAY = 0 → t.get R.ICU_STRAYLAST_SRC = v) := by
  have count := s.get_inc R.ICU_STRAY
  unfold State.strayKept
  split
  next kept =>
    obtain ⟨valid, nonzero⟩ := (Bool.and_eq_true_iff.mp kept).imp of_decide_eq_true of_decide_eq_true
    refine ⟨count, ?_, ?_⟩
    · rwa [State.get_inc_apart _ rfl]
    · simp [State.flag, valid, nonzero]
  next =>
    refine ⟨?_, ?_, fun _ => State.get_set_of_lt _ (show v < 2 ^ 8 by omega)⟩
    · rw [State.get_set_apart _ rfl, State.get_set_apart _ rfl, State.get_set_apart _ rfl]
      exact count
    · rw [State.get_set_apart _ rfl, State.get_set_apart _ rfl, State.get_set]
      decide

theorem State.icuStray_shows (s : State) (c : Nat) {v : Nat} (hv : v < 224) : let t := s.icuStray c v
    t.get R.ICU_STRAY = min 0xFFFF (s.get R.ICU_STRAY + 1) ∧ t.flag R.ICU_STRAYLAST_VALID = true
      ∧ (s.flag R.ICU_STRAYLAST_VALID = false ∨ s.get R.ICU_STRAY = 0 → t.get R.ICU_STRAYLAST_SRC = v) := by
  obtain ⟨count, valid, src⟩ := s.strayKept_shows c hv
  dsimp only
  rw [State.icuStray_eq, State.flag, State.get_raiseIf_stray _ _ rfl rfl, State.get_raiseIf_stray _ _ rfl rfl,
    State.get_raiseIf_stray _ _ rfl rfl]
  exact ⟨count, decide_eq_true valid, src⟩

/-! ### Timers and intervals (R252, R254) -/

theorem State.icu_onlyIn {s : State} {i : IcuSt} (h : i.saved = s.icu.saved) : OnlyIn [.icu] s { s with icu := i } :=
  (State.upd_icu_moves fun _ e => h ▸ e).onlyIn _ (by decide)

/-- The state after the coalescing timer of source `n` expires. -/
def State.timerExpired (s : State) (n : Nat) : State :=
  { s with icu := { s.icu with timer := without s.icu.timer n, expired := insOnce s.icu.expired n } }

theorem exec_icuCoalesceTimerExpiry {s : State} {n : Fin 224} (h : n.val ∈ s.icu.timer) :
    exec (.icuCoalesceTimerExpiry n) s = .next (s.timerExpired n) :=
  congrArg Host.Outcome.next (if_pos h)

theorem exec_icuHoldoffEnd (g : Fin 16) (s : State) :
    exec (.icuHoldoffEnd g) s = .next { s with icu := s.icu.endGrp g } := rfl

theorem IcuSt.mem_endGrp (i : IcuSt) (g : Nat) (x : Nat × Nat) : x ∈ (i.endGrp g).grp ↔ x ∈ i.grp ∧ x.1 ≠ g := by
  simp [IcuSt.endGrp]

/-! ### The statement -/

theorem exec_icuSourceEvent (n : Fin 224) (s : State) : exec (.icuSourceEvent n) s = .next (s.raise n) := rfl

theorem exec_icuSgiSet {s : State} (h : s.on 6 = true) (q : Who) (v : Word) :
    exec (.icuSgiSet q v) s = .next ((s.reply q.req .ok 0).sgiSet v.toNat) :=
  congrArg Host.Outcome.next (State.via_on s q.req _ h)

/-- Settles O36: each command leaves what the lemma of its rule says, and the candidate is the first of the sources in
the order of R255. -/
theorem icuSources : Obligations.IcuSources := by
  unfold Obligations.IcuSources
  refine ⟨fun n s h0 h1 => ⟨fun h => ⟨_, exec_icuSourceEvent n s, ?_⟩, fun h => ?_⟩, fun n s h => ?_, fun g s => ?_,
    fun q n s h => ⟨fun ha => ?_, fun ha => ?_⟩, fun q n s h => ?_, fun q v s h => ?_, fun n s => s.icuReady_iff n,
    fun n s => ⟨fun h => State.icuRoute_together h n, fun h => State.icuRoute_pair h n,
      fun h => State.icuRoute_split h n⟩, fun c n s => ?_⟩
  · refine ⟨State.get_raise_pend s n.isLt h0 h1 h, State.get_raise_evc n.isLt h0 h1 h, fun en => ?_, fun en => ?_,
      s.raise_only n⟩
    · rw [State.raise_on n.isLt h0 h1 h, if_pos en]
      exact (s.counted n).mem_timer_timed n
    · rw [State.raise_on n.isLt h0 h1 h, en]
      rfl
  · rw [exec_icuSourceEvent, State.raise_off n.isLt h0 h1 h]
  · exact ⟨_, exec_icuCoalesceTimerExpiry h, mem_insOnce .., not_mem_without _ _,
      State.icu_onlyIn rfl⟩
  · refine ⟨_, exec_icuHoldoffEnd g s, fun x hx => ?_, fun x hx => ?_,
      State.icu_onlyIn rfl⟩
    · exact ((s.icu.mem_endGrp g x).mp hx).2
    · rw [IcuSt.mem_endGrp, and_iff_left hx]
  · rw [exec_icuActclr h]
    exact congrArg _ (State.icuComplete_active (s := s.reply q.req .ok 0) n.isLt ha)
  · rw [exec_icuActclr h, State.icuComplete_stray (s := s.reply q.req .ok 0) ha]
    exact ⟨_, rfl, (s.reply q.req .ok 0).icuStray_shows _ n.isLt⟩
  · exact ⟨_, exec_icuPendClear h q n, (s.reply q.req .ok 0).pendClear_shows n⟩
  · have pend (b : Fin 32) := State.get_sgiSet_pend (s := s.reply q.req .ok 0) h b.isLt v.toNat
    refine ⟨_, exec_icuSgiSet h q v, ?_, fun b => ⟨fun hb => ?_, fun hb => ?_⟩⟩
    · obtain ⟨t, run, moves⟩ := execIcuSgiSet_moves q v s
      cases run.symm.trans (exec_icuSgiSet h q v)
      exact moves.onlyIn _ (by decide)
    · rw [pend b, if_pos hb]
    · rw [pend b, hb]
      rfl
  · exact (s.icuCandidate_eq_some_iff c n).trans (and_congr_right' (forall_congr' fun m => and_imp.symm))

end Sys2Proof.Machine
end

section
/-!
PROOFS of the statement on the DMA channels (O37, R271 to R278, R281, R282): the writes of DMA_CHc_CTRL, the order of
the arbiter, and the beats of the channel it chooses.
-/

namespace Sys2Proof.Machine

/-! ### A channel of the bank -/

theorem State.dma_updDma (s : State) {c : Nat} (hc : c < 16) (f : Dma → Dma) :
    (s.updDma c f).dma.at c = f (s.dma.at c) := Bank.at_upd _ hc f

@[simp] theorem State.get_updDma (s : State) (c : Nat) (f : Dma → Dma) (g : Fld) : (s.updDma c f).get g = s.get g := rfl

@[simp] theorem State.raiseIf_dma (s : State) (b : Bool) (n : Nat) : (s.raiseIf b n).dma = s.dma := by
  unfold State.raiseIf
  split
  · exact State.raise_dma s n
  · rfl

@[simp] theorem State.writeReg_dma (s : State) (q : Who) (a v : Nat) : (s.writeReg q a v).dma = s.dma :=
  (State.writeReg_moves s q a v).same .dma (by decide)

/-! ### A write of DMA_CHc_CTRL (R278, R285) -/

/-- A register with no field that a lock can freeze changes only itself when it is written (R427). -/
theorem State.writeReg_regs (s : State) (q : Who) (a v : Nat)
    (h : ∀ f ∈ regFields a, f.acc ≠ .once ∧ f.acc ≠ .lock) : RegsOnly (fun f => f ∈ regFields a) s (s.writeReg q a v) := by
  have unfrozen : ∀ f ∈ regFields a, s.frozenTo f = false := fun f hf => by
    obtain ⟨once, lock⟩ := h f hf
    unfold State.frozenTo
    split
    · contradiction
    · contradiction
    · rfl
  have lawful : s.violates v (regFields a) = false := by
    unfold State.violates
    split
    · simpa using fun f hf e => absurd e (by simp [unfrozen f hf])
    · simpa using unfrozen
  intro f hf
  unfold State.writeReg
  simp only [lawful, Bool.false_eq_true, if_false]
  exact State.get_foldl_writeFld_of_not_mem q v _ s hf

/-- The fields of DMA_CHc_CTRL (Table 13.4). -/
def dmaCtrlFields (c : Nat) : List Fld :=
  [R.DMA_CH_CTRL_EN c, R.DMA_CH_CTRL_PRIO c, R.DMA_CH_CTRL_DBGFRZ c, R.DMA_CH_CTRL_ERRIE c, R.DMA_CH_CTRL_SWTRIG c]

theorem regFields_dmaCtrl : ∀ c : Fin 16, regFields (0x5000 + 0x40 * c.val) = dmaCtrlFields c := by decide

/-- A word taken into DMA_CHc_CTRL, before the channel follows. -/
def State.dmaCtrlTaken (s : State) (q : Who) (c v : Nat) : State :=
  (s.writeReg q (0x5000 + 0x40 * c) v).set (R.DMA_CH_CTRL_SWTRIG c) 0

section
variable (s : State) (q : Who) (c : Fin 16) (v : Nat)

@[simp] theorem State.dmaCtrlTaken_dma : (s.dmaCtrlTaken q c v).dma = s.dma := State.writeReg_dma ..

theorem State.dmaCtrlTaken_regs : RegsOnly (fun f => f ∈ dmaCtrlFields c) s (s.dmaCtrlTaken q c v) := by
  have h := s.writeReg_regs q (0x5000 + 0x40 * c.val) v
  rw [regFields_dmaCtrl] at h
  exact (h (by simp [dmaCtrlFields, R.DMA_CH_CTRL_EN, R.DMA_CH_CTRL_PRIO, R.DMA_CH_CTRL_DBGFRZ, R.DMA_CH_CTRL_ERRIE,
    R.DMA_CH_CTRL_SWTRIG])).set_listed (by simp [dmaCtrlFields]) 0

theorem State.get_dmaCtrlTaken_en :
    (s.dmaCtrlTaken q c v).get (R.DMA_CH_CTRL_EN c) = presented v (R.DMA_CH_CTRL_EN c) := by
  have hn : (regFields (0x5000 + 0x40 * c.val)).Nodup := by
    rw [regFields_dmaCtrl]
    revert c
    decide
  refine (State.get_set_apart _ rfl 0).trans (State.get_writeReg_rw s q v ?_ hn (Nat.le_add_right ..) rfl)
  simp [regFields_dmaCtrl, dmaCtrlFields]

theorem State.get_dmaCtrlTaken_apart {f : Fld} (hf : (dmaCtrlFields c).all (fun g => g.apart f) = true) :
    (s.dmaCtrlTaken q c v).get f = s.get f := (s.dmaCtrlTaken_regs q c v).get_apart hf

theorem State.flag_dmaCtrlTaken_apart {f : Fld} (hf : (dmaCtrlFields c).all (fun g => g.apart f) = true) :
    (s.dmaCtrlTaken q c v).flag f = s.flag f := State.flag_congr (s.get_dmaCtrlTaken_apart q c v hf)

theorem State.dmaIdle_dmaCtrlTaken : (s.dmaCtrlTaken q c v).dmaIdle c = s.dmaIdle c := by
  rw [State.dmaIdle, State.flag_dmaCtrlTaken_apart _ _ _ _ rfl, State.flag_dmaCtrlTaken_apart _ _ _ _ rfl,
    State.dmaCtrlTaken_dma, State.dmaIdle]

end

theorem State.not_busy_of_dmaIdle {s : State} {c : Nat} (h : s.dmaIdle c = true) :
    s.flag (R.DMA_CH_STAT_BUSY c) = false := by
  simp only [State.dmaIdle, Bool.and_eq_true, Bool.not_eq_true'] at h
  tauto

section
variable {s : State} (q : Who) {c : Fin 16} {v : Nat}

theorem State.flag_dmaCtrlTaken_en (hv : presented v (R.DMA_CH_CTRL_EN c) = 1) :
    (s.dmaCtrlTaken q c v).flag (R.DMA_CH_CTRL_EN c) = true := by
  rw [State.flag, State.get_dmaCtrlTaken_en, hv]
  rfl

/-- EN = 1 over a channel that is disabled, or enabled and idle, loads the descriptor at DESC (R278). -/
theorem State.writeDmaCtrl_loads (hb : s.flag (R.DMA_CH_STAT_BUSY c) = false)
    (h : s.flag (R.DMA_CH_CTRL_EN c) = false ∨ s.dmaIdle c = true) (hv : presented v (R.DMA_CH_CTRL_EN c) = 1) :
    s.writeDmaCtrl q c v = (s.dmaCtrlTaken q c v).dmaAsk c (32 * s.get (R.DMA_CH_DESC c)) := by
  have en := State.flag_dmaCtrlTaken_en (s := s) q hv
  have free : (!s.flag (R.DMA_CH_CTRL_EN c) || (s.dmaCtrlTaken q c v).dmaIdle c) = true := by
    rw [State.dmaIdle_dmaCtrlTaken]
    simpa using h
  have desc := s.get_dmaCtrlTaken_apart q c v (f := R.DMA_CH_DESC c) rfl
  unfold State.dmaCtrlTaken at *
  simp only [State.writeDmaCtrl, en, hb, free, desc, Bool.not_true, Bool.false_eq_true, if_false, if_true]

/-- EN = 1 over a busy channel sets ENERR and enables nothing (R278). -/
theorem State.writeDmaCtrl_busy (he : s.flag (R.DMA_CH_CTRL_EN c) = true) (hb : s.flag (R.DMA_CH_STAT_BUSY c) = true)
    (hv : presented v (R.DMA_CH_CTRL_EN c) = 1) (h0 : v.testBit 0 = false) : s.writeDmaCtrl q c v =
      ((s.dmaCtrlTaken q c v).setB (R.DMA_CH_CTRL_EN c) true).set (R.DMA_CH_STAT_ENERR c) 1 := by
  have en := State.flag_dmaCtrlTaken_en (s := s) q hv
  unfold State.dmaCtrlTaken at *
  simp only [State.writeDmaCtrl, en, he, hb, h0, Bool.not_true, Bool.false_and, Bool.false_eq_true, if_false, if_true]

/-- EN = 0 over an enabled channel is the disable (R278). -/
theorem State.writeDmaCtrl_disables (he : s.flag (R.DMA_CH_CTRL_EN c) = true)
    (hv : presented v (R.DMA_CH_CTRL_EN c) = 0) : s.writeDmaCtrl q c v = (s.dmaCtrlTaken q c v).dmaDisable c := by
  have en : (s.dmaCtrlTaken q c v).flag (R.DMA_CH_CTRL_EN c) = false := by
    rw [State.flag, State.get_dmaCtrlTaken_en, hv]
    rfl
  unfold State.dmaCtrlTaken at *
  simp only [State.writeDmaCtrl, en, he, Bool.not_false, if_true]

/-- SWTRIG over a channel with a descriptor triggers it; where BUSY is set the write of EN sets ENERR too (R273,
R278). -/
theorem State.writeDmaCtrl_triggers (he : s.flag (R.DMA_CH_CTRL_EN c) = true)
    (hv : presented v (R.DMA_CH_CTRL_EN c) = 1) (h0 : v.testBit 0 = true)
    (hl : s.flag (R.DMA_CH_STAT_LOADED c) = true) :
    ∃ u, s.writeDmaCtrl q c v = u.dmaTrigger c ∧ u.dma = s.dma
      ∧ RegsOnly (fun f => f ∈ R.DMA_CH_STAT_ENERR c :: dmaCtrlFields c) s u := by
  have en := State.flag_dmaCtrlTaken_en (s := s) q hv
  have loaded := (s.flag_dmaCtrlTaken_apart q c v (f := R.DMA_CH_STAT_LOADED c) rfl).trans hl
  have taken : RegsOnly (fun f => f ∈ R.DMA_CH_STAT_ENERR c :: dmaCtrlFields c) s (s.dmaCtrlTaken q c v) :=
    fun f hf => s.dmaCtrlTaken_regs q c v f (mt (List.mem_cons_of_mem _) hf)
  have soft {u : State} (hu : u.flag (R.DMA_CH_STAT_LOADED c) = true) : u.dmaSoft c = u.dmaTrigger c := if_pos hu
  cases hb : s.flag (R.DMA_CH_STAT_BUSY c) with
  | true =>
    let u := ((s.dmaCtrlTaken q c v).setB (R.DMA_CH_CTRL_EN c) true).set (R.DMA_CH_STAT_ENERR c) 1
    have hu : u.flag (R.DMA_CH_STAT_LOADED c) = true :=
      (State.flag_congr ((State.get_set_apart _ rfl 1).trans (State.get_setB_apart _ rfl true))).trans loaded
    refine ⟨u, ?_, State.dmaCtrlTaken_dma .., (taken.set_listed (by simp [dmaCtrlFields]) _).set_listed (by simp) 1⟩
    rw [← soft hu]
    unfold u State.dmaCtrlTaken at *
    simp only [State.writeDmaCtrl, en, he, hb, h0, Bool.not_true, Bool.true_and, Bool.false_eq_true, if_false, if_true]
  | false =>
    have busy : (s.dmaCtrlTaken q c v).dmaIdle c = false := by simp [State.dmaIdle, loaded]
    refine ⟨_, ?_, State.dmaCtrlTaken_dma s q c v, taken⟩
    rw [← soft loaded]
    unfold State.dmaCtrlTaken at *
    simp only [State.writeDmaCtrl, en, he, hb, h0, busy, Bool.not_true, Bool.or_false, Bool.false_eq_true, if_false,
      if_true]

end

/-! ### What a start, a disable and a trigger show (R273, R277, R278) -/

section
variable (s : State) {c : Nat} (hc : c < 16)
include hc

theorem State.dmaAsk_shows (a : Nat) : (s.dmaAsk c a).get (R.DMA_CH_STAT_BUSY c) = 1
    ∧ (s.dmaAsk c a).dma.at c = { daddr := a, loadPend := true } :=
  ⟨(State.get_set_apart _ rfl 0).trans (State.get_set ..), State.dma_updDma _ hc _⟩

theorem State.dmaDisable_shows : (s.dmaDisable c).get (R.DMA_CH_STAT_BUSY c) = 0
    ∧ (s.dmaDisable c).get (R.DMA_CH_STAT_LOADED c) = 0 ∧ (s.dmaDisable c).dma.at c = {}
    ∧ ((s.dma.at c).moving = true → (s.dmaDisable c).get (R.DMA_CH_STAT_ABORT c) = 1) := by
  let b := if (s.dma.at c).moving then s.set (R.DMA_CH_STAT_ABORT c) 1 else s
  let u := ((b.set (R.DMA_CH_STAT_BUSY c) 0).set (R.DMA_CH_STAT_LOADED c) 0).set (R.DMA_CH_STAT_TRGPEND c) 0
  have kept {f : Fld} (hf : [R.DMA_CH_CUR c, R.DMA_CH_DONECNT c, R.DMA_CH_LEFT_XLEFT c, R.DMA_CH_LEFT_YLEFT c].all
      (fun g => g.apart f) = true) : (s.dmaDisable c).get f = u.get f :=
    RegsOnly.get_apart (s := u) (((((RegsOnly.refl _ u).set_listed (by simp) _).set_listed (by simp) _).set_listed
      (by simp) _).set_listed (by simp) _) hf
  refine ⟨?_, ?_, State.dma_updDma _ hc _, fun h => ?_⟩
  · rw [kept rfl, State.get_set_apart _ rfl, State.get_set_apart _ rfl, State.get_set, Nat.zero_mod]
  · rw [kept rfl, State.get_set_apart _ rfl, State.get_set, Nat.zero_mod]
  · rw [kept rfl, State.get_set_apart _ rfl, State.get_set_apart _ rfl, State.get_set_apart _ rfl]
    unfold b
    rw [if_pos h]
    exact State.get_set ..

end

/-- A trigger of a channel that waits for one starts a unit; while a unit moves one is held, and a further one is
dropped (R273). -/
theorem State.dmaTrigger_loaded {s : State} {c : Nat} (hon : s.on 8 = true)
    (hl : s.flag (R.DMA_CH_STAT_LOADED c) = true) (ht : (s.dma.at c).trig ≠ 0) (hs : (s.dma.at c).stopped = false) :
    s.dmaTrigger c = if (s.dma.at c).moving then
        (if s.flag (R.DMA_CH_STAT_TRGPEND c) then s.set (R.DMA_CH_STAT_TRGOVR c) 1 else s.set (R.DMA_CH_STAT_TRGPEND c) 1)
      else (s.set (R.DMA_CH_STAT_BUSY c) 1).updDma c fun d => { d with moving := true } := by
  simp only [State.dmaTrigger, hon, hl, ht, hs, Bool.not_true, decide_false, Bool.or_false, Bool.false_eq_true, if_false]
  rfl

/-! ### The order of the arbiter (R274) -/

/-- Channel `c` goes before channel `d`: its priority is higher, or the same and its turn is not later. -/
def State.dmaBefore (s : State) (c d : Nat) : Prop :=
  s.get (R.DMA_CH_CTRL_PRIO d) < s.get (R.DMA_CH_CTRL_PRIO c)
    ∨ (s.get (R.DMA_CH_CTRL_PRIO d) = s.get (R.DMA_CH_CTRL_PRIO c)
        ∧ let l := s.dmaLast.at (s.get (R.DMA_CH_CTRL_PRIO c)) + 1
          (c + 16 - l % 16) % 16 ≤ (d + 16 - l % 16) % 16)

/-- The channels in the order in which the arbiter looks at them. -/
def State.dmaOrder (s : State) : List Nat := (s.roundRobin 3 ++ s.roundRobin 2) ++ (s.roundRobin 1 ++ s.roundRobin 0)

theorem State.mem_roundRobin {s : State} {p c : Nat} :
    c ∈ s.roundRobin p ↔ c < 16 ∧ s.get (R.DMA_CH_CTRL_PRIO c) = p := by
  simp only [State.roundRobin, List.mem_filter, List.mem_map, List.mem_range, decide_eq_true_eq]
  refine and_congr_left fun _ => ⟨?_, fun hc => ?_⟩
  · rintro ⟨i, -, rfl⟩
    exact Nat.mod_lt _ (by decide)
  · exact ⟨(c + 16 - (s.dmaLast.at p + 1) % 16) % 16, Nat.mod_lt _ (by decide), by omega⟩

theorem State.mem_dmaOrder {s : State} {c : Nat} :
    c ∈ s.dmaOrder ↔ c < 16 ∧ s.get (R.DMA_CH_CTRL_PRIO c) < 4 := by
  simp only [State.dmaOrder, List.mem_append, State.mem_roundRobin]
  omega

theorem State.roundRobin_pairwise (s : State) (p : Nat) : (s.roundRobin p).Pairwise s.dmaBefore := by
  have turns : (s.roundRobin p).Pairwise fun c d =>
      (c + 16 - (s.dmaLast.at p + 1) % 16) % 16 ≤ (d + 16 - (s.dmaLast.at p + 1) % 16) % 16 := by
    refine List.Pairwise.filter _ (List.pairwise_map.mpr (List.pairwise_lt_range.imp_of_mem fun hi hj hlt => ?_))
    rw [List.mem_range] at hi hj
    omega
  refine turns.imp_of_mem fun hc hd hle => .inr ?_
  rw [(State.mem_roundRobin.mp hc).2, (State.mem_roundRobin.mp hd).2]
  exact ⟨rfl, hle⟩

theorem State.dmaOrder_pairwise (s : State) : s.dmaOrder.Pairwise s.dmaBefore := by
  have higher {p r : Nat} (h : r < p) {c d : Nat} (hc : c ∈ s.roundRobin p) (hd : d ∈ s.roundRobin r) :
      s.dmaBefore c d := by
    refine .inl ?_
    rwa [(State.mem_roundRobin.mp hc).2, (State.mem_roundRobin.mp hd).2]
  refine List.pairwise_append.mpr ⟨?_, ?_, fun c hc d hd => ?_⟩
  · exact List.pairwise_append.mpr ⟨s.roundRobin_pairwise 3, s.roundRobin_pairwise 2,
      fun c hc d hd => higher (by decide) hc hd⟩
  · exact List.pairwise_append.mpr ⟨s.roundRobin_pairwise 1, s.roundRobin_pairwise 0,
      fun c hc d hd => higher (by decide) hc hd⟩
  · rcases List.mem_append.mp hc with hc | hc <;> rcases List.mem_append.mp hd with hd | hd <;>
      exact higher (by decide) hc hd

theorem State.dmaBefore_refl (s : State) (c : Nat) : s.dmaBefore c c := .inr ⟨rfl, le_rfl⟩

/-- The arbiter chooses a channel with a beat ready that goes before every other one. -/
theorem State.arbitrate_first {s : State} {c : Nat} (h : s.arbitrate = some c) :
    c < 16 ∧ s.get (R.DMA_CH_CTRL_PRIO c) < 4 ∧ s.beatReady c = true
      ∧ ∀ d ∈ s.dmaOrder, s.beatReady d = true → s.dmaBefore c d := by
  have found : s.dmaOrder.find? s.beatReady = some c := h
  obtain ⟨ready, as, bs, e, skipped⟩ := List.find?_eq_some_iff_append.mp found
  obtain ⟨hc, hp⟩ := State.mem_dmaOrder.mp (e ▸ List.mem_append_right as List.mem_cons_self)
  have order := s.dmaOrder_pairwise
  rw [e, List.pairwise_append, List.pairwise_cons] at order
  obtain ⟨-, ⟨first, -⟩, -⟩ := order
  refine ⟨hc, hp, ready, fun d hd hready => ?_⟩
  rw [e, List.mem_append, List.mem_cons] at hd
  obtain hd | rfl | hd := hd
  · exact absurd hready (by simpa using skipped d hd)
  · exact s.dmaBefore_refl d
  · exact first d hd

/-! ### The channel that has won (R268, R274) -/

/-- The arbiter remembers channel `c` as the last winner at its priority. -/
def State.dmaWon (s : State) (c : Nat) : State :=
  { s with dmaLast := s.dmaLast.put (s.get (R.DMA_CH_CTRL_PRIO c)) c }

section
variable {s : State} {c : Nat}

theorem exec_dmaBeat (ha : s.arbitrate = some c) : exec .dmaBeat s = .next ((s.dmaWon c).dmaBeat c) := by
  change Host.Outcome.next (match s.arbitrate with | none => s | some c => s.dmaWin c) = _
  rw [ha]
  rfl

theorem State.dmaTurn_won (ha : s.arbitrate = some c) : s.dmaTurn c = (s.dmaWon c).dmaBeat c := if_pos ha

theorem State.dmaBeat_load (h : (s.dma.at c).loadPend = true) : s.dmaBeat c = s.dmaLoad c := if_pos h

theorem State.dmaBeat_next (hl : (s.dma.at c).loadPend = false) (h : (s.dma.at c).fetch = true) :
    s.dmaBeat c = s.dmaNext c := by
  simp only [State.dmaBeat, hl, h, Bool.false_eq_true, if_false, if_true]

theorem State.dmaBeat_complete (h : s.dmaFull c = true) : s.dmaBeat c = s.dmaComplete c := by
  have idle : (s.dma.at c).loadPend = false ∧ (s.dma.at c).fetch = false := by
    simp only [State.dmaFull, Bool.and_eq_true, Bool.not_eq_true'] at h
    tauto
  simp only [State.dmaBeat, idle, h, Bool.false_eq_true, if_false, if_true]

theorem State.dmaBeat_data (hl : (s.dma.at c).loadPend = false) (hf : (s.dma.at c).fetch = false)
    (h : s.dmaFull c = false) : s.dmaBeat c = s.dmaData c := by
  simp only [State.dmaBeat, hl, hf, h, Bool.false_eq_true, if_false]

end

/-! ### Answers (R281, R282) -/

/-- A channel whose access was answered. -/
def Dma.answered (d : Dma) : Dma := { d with wait := none, retries := 0 }

theorem State.dmaAnswer_ok {s : State} {r : BusAns} (h : r = .ok) (c a : Nat) (w : Bool) (f : State → State) :
    s.dmaAnswer c a w r f = f (s.updDma c Dma.answered) := by
  rw [h]
  rfl

/-- A channel that stops shows its cause and the address (R281). -/
theorem State.dmaError_shows (s : State) {c : Nat} (hc : c < 16) (hw : (s.dma.at c).wb = false) (cause a : Nat) :
    let t := s.dmaError c cause a
    t.flag (R.DMA_CH_STAT_ERR c) = true ∧ t.get (R.DMA_CH_ERR c) = cause % 16
      ∧ t.get (R.DMA_CH_ERRADDR c) = a % 2 ^ 32 ∧ (t.dma.at c).stopped = true
      ∧ t.flag (R.DMA_CH_STAT_BUSY c) = false := by
  intro t
  let u := (((s.set (R.DMA_CH_STAT_ERR c) 1).set (R.DMA_CH_ERR c) cause).set (R.DMA_CH_ERRADDR c) a).set
    (R.DMA_CH_STAT_BUSY c) 0
  have shown {f : Fld} (hf : f.pd = 8) : t.get f = u.get f := by
    have quiet (s : State) (b : Bool) (n : Nat) : (s.raiseIf b n).get f = s.get f :=
      State.get_raiseIf_apart s b n (by omega)
    simp only [t, State.dmaError, hw, Bool.false_eq_true, if_false, State.get_updDma, quiet, u]
  refine ⟨?_, ?_, ?_, ?_, ?_⟩
  · rw [State.flag, shown rfl, State.get_set_apart _ rfl, State.get_set_apart _ rfl, State.get_set_apart _ rfl,
      State.get_set]
    rfl
  · rw [shown rfl, State.get_set_apart _ rfl, State.get_set_apart _ rfl, State.get_set]
    rfl
  · rw [shown rfl, State.get_set_apart _ rfl, State.get_set]
    rfl
  · exact congrArg Dma.stopped (State.dma_updDma _ hc _)
  · rw [State.flag, shown rfl, State.get_set]
    rfl

/-! ### The load of a descriptor (R272, R273) -/

/-- A valid descriptor `d` taken from `a` by channel `c`: its first unit moves where `go`. -/
def State.dmaTaken (s : State) (c a : Nat) (d : Dma) (go : Bool) : State :=
  let s := s.updDma c fun _ => { d with moving := go }
  let s := (s.set (R.DMA_CH_CUR c) (a / 32)).set (R.DMA_CH_STAT_LOADED c) 1
  ((s.set (R.DMA_CH_STAT_TRGPEND c) 0).setB (R.DMA_CH_STAT_BUSY c) go).dmaLeft c

theorem State.dmaTaken_shows (s : State) {c : Nat} (hc : c < 16) (a : Nat) (d : Dma) (go : Bool) :
    let t := s.dmaTaken c a d go
    t.get (R.DMA_CH_STAT_LOADED c) = 1 ∧ t.get (R.DMA_CH_CUR c) = a / 32 % 2 ^ 27
      ∧ t.dma.at c = { d with moving := go } ∧ t.flag (R.DMA_CH_STAT_BUSY c) = go
      ∧ t.get (R.DMA_CH_STAT_TRGPEND c) = 0 ∧ t.dmaLast = s.dmaLast := by
  intro t
  let u := (((s.set (R.DMA_CH_CUR c) (a / 32)).set (R.DMA_CH_STAT_LOADED c) 1).set (R.DMA_CH_STAT_TRGPEND c) 0).setB
    (R.DMA_CH_STAT_BUSY c) go
  have shown {f : Fld} (hf : [R.DMA_CH_LEFT_XLEFT c, R.DMA_CH_LEFT_YLEFT c].all (fun g => g.apart f) = true) :
      t.get f = u.get f :=
    RegsOnly.get_apart (s := u) (((RegsOnly.refl _ u).set_listed (by simp) _).set_listed (by simp) _) hf
  refine ⟨?_, ?_, State.dma_updDma _ hc _, ?_, ?_, rfl⟩
  · rw [shown rfl, State.get_setB_apart _ rfl, State.get_set_apart _ rfl, State.get_set]
    rfl
  · rw [shown rfl, State.get_setB_apart _ rfl, State.get_set_apart _ rfl, State.get_set_apart _ rfl, State.get_set]
    rfl
  · exact (State.flag_congr (shown rfl)).trans (State.flag_setB _ rfl go)
  · rw [shown rfl, State.get_setB_apart _ rfl, State.get_set]
    rfl

/-- A descriptor that the SRAM answers is taken, or stops the channel with cause 8. -/
theorem State.dmaLoad_answered {s : State} {c : Nat} (hc : c < 16) (lo : sramBase ≤ (s.dma.at c).daddr)
    (hi : (s.dma.at c).daddr < sramEnd) (ha : (s.dma.at c).daddr % 32 = 0) (hr : s.sramAns (s.dma.at c).daddr = .ok) :
    let a := (s.dma.at c).daddr
    let w := wordsOf (s.rdBytes a 32)
    let d := dmaFields a w
    let u := (s.updDma c Dma.answered).updDma c fun _ => d
    s.dmaLoad c = if dmaInvalid w d then u.dmaError c 8 a
      else u.dmaTaken c a d (decide (d.trig = 0) || decide (d.total = 0)) := by
  intro a w d u
  have inside : ¬ (a % 32 ≠ 0 ∨ a < sramBase ∨ sramEnd ≤ a) := by omega
  have same : (u.updDma c fun e => { e with moving := decide (d.trig = 0) || decide (d.total = 0) })
      = u.updDma c fun _ => { d with moving := decide (d.trig = 0) || decide (d.total = 0) } := by
    have hd : u.dma.at c = d := State.dma_updDma _ hc _
    unfold State.updDma Bank.upd
    rw [hd]
  unfold State.dmaLoad State.dmaTaken
  rw [if_neg inside, State.dmaAnswer_ok hr, ← same]
  rfl

/-! ### The NEXT word (R277) -/

theorem State.dmaNext_answered {s : State} {c : Nat} (hr : s.sramAns ((s.dma.at c).daddr + 0x18) = .ok) :
    let n := s.bytes ((s.dma.at c).daddr + 0x18) 4
    let u := s.updDma c Dma.answered
    s.dmaNext c = if n ≠ 0 then u.dmaAsk c n
      else (((u.set (R.DMA_CH_STAT_END c) 1).set (R.DMA_CH_STAT_LOADED c) 0).set (R.DMA_CH_STAT_BUSY c) 0).updDma c
        fun _ => {} := by
  intro n u
  unfold State.dmaNext
  rw [State.dmaAnswer_ok hr]
  rfl

/-! ### Completion (R276) -/

/-- The status of a descriptor that writes no status word back. -/
theorem State.dmaStatus_shows {s : State} {c : Nat} (hc : c < 16) (hw : (s.dma.at c).wb = false) :
    let t := s.dmaStatus c
    t.get (R.DMA_CH_STAT_DONE c) = 1 ∧ t.get (R.DMA_CH_STAT_ID c) = (s.dma.at c).id % 2 ^ 16
      ∧ t.get (R.DMA_CH_DONECNT c) = min 0xFFFF (s.get (R.DMA_CH_DONECNT c) + 1) ∧ (t.dma.at c).fetch = true := by
  intro t
  let u := (((s.updDma c Dma.answered).set (R.DMA_CH_STAT_DONE c) 1).set (R.DMA_CH_STAT_ID c) (s.dma.at c).id).inc
    (R.DMA_CH_DONECNT c)
  have ht : t = (u.raiseIf (s.dma.at c).ie (104 + c)).updDma c fun d => { d with fetch := true } := by
    simp only [t, State.dmaStatus, hw, Bool.false_eq_true, if_false]
    exact State.dmaAnswer_ok rfl ..
  have shown {f : Fld} (hf : f.pd = 8) : t.get f = u.get f := by
    rw [ht, State.get_updDma, State.get_raiseIf_apart _ _ _ (by omega)]
  refine ⟨?_, ?_, ?_, ?_⟩
  · rw [shown rfl, State.get_inc_apart _ rfl, State.get_set_apart _ rfl, State.get_set]
    rfl
  · rw [shown rfl, State.get_inc_apart _ rfl, State.get_set]
    rfl
  · rw [shown rfl, State.get_inc, State.get_set_apart _ rfl, State.get_set_apart _ rfl, State.get_updDma]
    rfl
  · rw [ht]
    exact congrArg Dma.fetch (State.dma_updDma _ hc _)

/-- The read-back of the last address written, answered, goes on to the status. -/
theorem State.dmaComplete_shows {s : State} {c : Nat} (hc : c < 16) (h0 : (s.dma.at c).total ≠ 0) :
    let x := s.busRead .dma false (s.dma.at c).lastDst (s.dma.at c).size true
    let t := s.dmaComplete c
    x.1 = .ok → (x.2.2.dma.at c).wb = false → t.get (R.DMA_CH_STAT_DONE c) = 1
      ∧ t.get (R.DMA_CH_STAT_ID c) = (x.2.2.dma.at c).id % 2 ^ 16
      ∧ t.get (R.DMA_CH_DONECNT c) = min 0xFFFF (x.2.2.get (R.DMA_CH_DONECNT c) + 1) ∧ (t.dma.at c).fetch = true := by
  intro x t hr hw
  have status : t = (x.2.2.updDma c Dma.answered).dmaStatus c := by
    unfold t State.dmaComplete
    rw [if_neg h0]
    exact State.dmaAnswer_ok hr ..
  have answered := State.dma_updDma x.2.2 hc Dma.answered
  have shown := State.dmaStatus_shows (s := x.2.2.updDma c Dma.answered) hc (by rwa [answered])
  rwa [answered, ← status] at shown

theorem State.dmaComplete_empty {s : State} {c : Nat} (h0 : (s.dma.at c).total = 0) : s.dmaComplete c = s.dmaStatus c :=
  if_pos h0

/-! ### Data beats (R268, R271, R275) -/

section
variable {s : State} {c : Nat}

/-- A channel that has nothing but a data beat ready has an element to read or one to write. -/
theorem State.dataReady_of_beatReady (h : s.beatReady c = true) (hl : (s.dma.at c).loadPend = false)
    (hf : (s.dma.at c).fetch = false) (hn : s.dmaFull c = false) :
    s.readReady c = true ∨ (s.dma.at c).buf ≠ [] := by
  simp only [State.beatReady, State.dataReady, hl, hf, hn, Bool.false_or, Bool.and_eq_true, Bool.or_eq_true,
    Bool.not_eq_true', List.isEmpty_eq_false_iff] at h
  tauto

theorem State.dmaData_reads (hr : s.readReady c = true) (hb : (s.dma.at c).buf = []) :
    s.dmaData c = s.dmaReadBeat c := by
  simp [State.dmaData, hr, hb]

theorem State.dmaData_writes (hr : s.readReady c = false) : s.dmaData c = s.dmaWriteBeat c := by
  simp [State.dmaData, hr]

/-- A read that is answered puts its element behind those the channel holds. -/
theorem State.buf_dmaReadBeat (hc : c < 16) (hs : (s.dma.at c).srcNext % (s.dma.at c).size = 0)
    (hd : (s.dma.at c).dstOf (s.dma.at c).rx (s.dma.at c).ry % (s.dma.at c).size = 0)
    (hr : (s.busRead .dma false (s.dma.at c).srcNext (s.dma.at c).size false).1 = .ok) :
    let x := s.busRead .dma false (s.dma.at c).srcNext (s.dma.at c).size false
    ((s.dmaReadBeat c).dma.at c).buf = (x.2.2.dma.at c).buf ++ [x.2.1] := by
  intro x
  have hx : s.dmaReadBeat c = (x.2.2.updDma c Dma.answered).updDma c fun d =>
      let (i, j) := d.step d.rx d.ry
      { d with buf := d.buf ++ [x.2.1], rx := i, ry := j } := by
    unfold State.dmaReadBeat
    dsimp only
    rw [if_neg (not_not.mpr hs), if_neg (not_not.mpr hd)]
    exact State.dmaAnswer_ok hr ..
  rw [hx, State.dma_updDma _ hc, State.dma_updDma _ hc]
  rfl

theorem State.dmaUnit_keeps (hc : c < 16) :
    ((s.dmaUnit c).dma.at c).buf = (s.dma.at c).buf ∧ ((s.dmaUnit c).dma.at c).lastDst = (s.dma.at c).lastDst := by
  unfold State.dmaUnit
  dsimp only
  split
  · exact ⟨rfl, rfl⟩
  · split
    · exact ⟨rfl, rfl⟩
    · rw [State.dma_updDma _ hc]
      exact ⟨rfl, rfl⟩

/-- A write that is answered takes the oldest element the channel holds to its place. -/
theorem State.dmaWriteBeat_shows (hc : c < 16) {v : Nat} {rest : List Nat} (hb : (s.dma.at c).buf = v :: rest)
    (hr : (s.busWrite .dma false ((s.dma.at c).dstOf (s.dma.at c).wx (s.dma.at c).wy) (s.dma.at c).size v).1 = .ok) :
    ((s.dmaWriteBeat c).dma.at c).buf = rest
      ∧ ((s.dmaWriteBeat c).dma.at c).lastDst = (s.dma.at c).dstOf (s.dma.at c).wx (s.dma.at c).wy := by
  let a := (s.dma.at c).dstOf (s.dma.at c).wx (s.dma.at c).wy
  let w := ((s.busWrite .dma false a (s.dma.at c).size v).2.updDma c Dma.answered).updDma c fun d =>
    let (i, j) := d.step d.wx d.wy
    { d with buf := rest, wx := i, wy := j, lastDst := a }
  have written : (w.dma.at c).buf = rest ∧ (w.dma.at c).lastDst = a := by
    unfold w
    rw [State.dma_updDma _ hc]
    exact ⟨rfl, rfl⟩
  have hx : s.dmaWriteBeat c = if (s.dma.at c).unitEnd ≤ ((w.dmaLeft c).dma.at c).nWritten then (w.dmaLeft c).dmaUnit c
      else w.dmaLeft c := by
    unfold State.dmaWriteBeat
    simp only [hb]
    exact State.dmaAnswer_ok hr ..
  rw [hx]
  split
  · obtain ⟨buf, last⟩ := State.dmaUnit_keeps (s := w.dmaLeft c) hc
    rw [buf, last]
    exact written
  · exact written

end

/-! ### The statement -/

section
variable {s : State} {c : Fin 16}

theorem exec_dmaEnable (h : s.on 8 = true) (q : Who) (v : Word) :
    exec (.dmaEnable q c v) s = .next ((s.reply q.req .ok 0).writeDmaCtrl q c v.toNat) :=
  congrArg Host.Outcome.next (State.via_on s q.req _ h)

theorem exec_dmaDisable (h : s.on 8 = true) (q : Who) (v : Word) :
    exec (.dmaDisable q c v) s = .next ((s.reply q.req .ok 0).writeDmaCtrl q c v.toNat) :=
  congrArg Host.Outcome.next (State.via_on s q.req _ h)

theorem exec_dmaSoftwareTrigger (h : s.on 8 = true) (q : Who) (v : Word) :
    exec (.dmaSoftwareTrigger q c v) s = .next ((s.reply q.req .ok 0).writeDmaCtrl q c v.toNat) :=
  congrArg Host.Outcome.next (State.via_on s q.req _ h)

theorem exec_dmaDescriptorLoad (h : (s.dma.at c).loadPend = true) (ha : s.arbitrate = some c.val) :
    exec (.dmaDescriptorLoad c) s = .next ((s.dmaWon c).dmaLoad c) := by
  change Host.Outcome.next (if (s.dma.at c).loadPend then s.dmaTurn c else s) = _
  rw [if_pos h, State.dmaTurn_won ha, State.dmaBeat_load (s := s.dmaWon c) h]

theorem exec_dmaDescriptorComplete (h : s.dmaFull c = true) (ha : s.arbitrate = some c.val) :
    exec (.dmaDescriptorComplete c) s = .next ((s.dmaWon c).dmaComplete c) := by
  change Host.Outcome.next (if s.dmaFull c then s.dmaTurn c else s) = _
  rw [if_pos h, State.dmaTurn_won ha, State.dmaBeat_complete (s := s.dmaWon c) h]

theorem exec_dmaNextFetch (hl : (s.dma.at c).loadPend = false) (h : (s.dma.at c).fetch = true)
    (ha : s.arbitrate = some c.val) : exec (.dmaNextFetch c) s = .next ((s.dmaWon c).dmaNext c) := by
  change Host.Outcome.next (if (s.dma.at c).fetch then s.dmaTurn c else s) = _
  rw [if_pos h, State.dmaTurn_won ha, State.dmaBeat_next (s := s.dmaWon c) hl h]

theorem exec_dmaRetryReissue (h : s.dmaRuns c = true) {w : Bool} (hw : (s.dma.at c).wait = some w) :
    let u := s.updDma c fun d => { d with retries := d.retries + 1 }
    let d := s.dma.at c
    exec (.dmaRetryReissue c) s = .next (if d.loadPend then u.dmaLoad c else if d.fetch then u.dmaNext c
      else if d.total ≤ d.nWritten then u.dmaComplete c else if w then u.dmaWriteBeat c else u.dmaReadBeat c) := by
  change Host.Outcome.next (if s.dmaRuns c then s.dmaReissue c else s) = _
  rw [if_pos h]
  simp only [State.dmaReissue, hw]

/-- A descriptor starts to load where EN = 1 is written over a channel that is disabled or idle. -/
theorem State.writeDmaCtrl_loads_shows (q : Who) {v : Nat} (hb : s.flag (R.DMA_CH_STAT_BUSY c) = false)
    (h : s.flag (R.DMA_CH_CTRL_EN c) = false ∨ s.dmaIdle c = true) (hv : presented v (R.DMA_CH_CTRL_EN c) = 1) :
    let t := s.writeDmaCtrl q c v
    t.get (R.DMA_CH_CTRL_EN c) = 1 ∧ t.get (R.DMA_CH_STAT_BUSY c) = 1
      ∧ t.dma.at c = { daddr := 32 * s.get (R.DMA_CH_DESC c), loadPend := true } := by
  intro t
  have ht : t = (s.dmaCtrlTaken q c v).dmaAsk c (32 * s.get (R.DMA_CH_DESC c)) := State.writeDmaCtrl_loads q hb h hv
  rw [ht]
  refine ⟨?_, State.dmaAsk_shows _ c.isLt _⟩
  refine (State.get_set_apart _ rfl 0).trans ((State.get_set_apart _ rfl 1).trans ?_)
  rw [State.get_dmaCtrlTaken_en, hv]

/-- What a software trigger shows of a channel with a descriptor that waits for one (R273). -/
theorem State.writeDmaCtrl_triggers_shows (q : Who) {v : Nat} (hon : s.on 8 = true)
    (he : s.flag (R.DMA_CH_CTRL_EN c) = true) (hv : presented v (R.DMA_CH_CTRL_EN c) = 1) (h0 : v.testBit 0 = true)
    (hl : s.flag (R.DMA_CH_STAT_LOADED c) = true) (ht : (s.dma.at c).trig ≠ 0) (hs : (s.dma.at c).stopped = false) :
    let t := s.writeDmaCtrl q c v
    ((s.dma.at c).moving = false →
        t.get (R.DMA_CH_STAT_BUSY c) = 1 ∧ t.dma.at c = { s.dma.at c with moving := true })
      ∧ ((s.dma.at c).moving = true → s.flag (R.DMA_CH_STAT_TRGPEND c) = false → t.get (R.DMA_CH_STAT_TRGPEND c) = 1)
      ∧ ((s.dma.at c).moving = true → s.flag (R.DMA_CH_STAT_TRGPEND c) = true →
        t.get (R.DMA_CH_STAT_TRGOVR c) = 1) := by
  intro t
  obtain ⟨u, hu, dma, regs⟩ := State.writeDmaCtrl_triggers q he hv h0 hl
  have pend : u.flag (R.DMA_CH_STAT_TRGPEND c) = s.flag (R.DMA_CH_STAT_TRGPEND c) := State.flag_congr (regs.get_apart rfl)
  have trigger := State.dmaTrigger_loaded (s := u) (c := c) ((State.on_congr (regs.get_apart rfl)).trans hon)
    ((State.flag_congr (regs.get_apart rfl)).trans hl) (by rwa [dma]) (by rwa [dma])
  rw [← hu, dma, pend] at trigger
  refine ⟨fun hm => ?_, fun hm hp => ?_, fun hm hp => ?_⟩
  · rw [hm] at trigger
    have started : t = (u.set (R.DMA_CH_STAT_BUSY c) 1).updDma c fun d => { d with moving := true } := trigger
    rw [started, State.dma_updDma _ c.isLt, State.set_dma, dma]
    exact ⟨State.get_set .., rfl⟩
  · rw [hm, hp] at trigger
    exact (congrArg (State.get · _) trigger).trans (State.get_set ..)
  · rw [hm, hp] at trigger
    exact (congrArg (State.get · _) trigger).trans (State.get_set ..)

end

/-- Settles O37: a write of DMA_CHc_CTRL, an event of the channel that the arbiter chose and a reissue each leave what
the lemma of its rule says, and the arbiter's order is that of R274. -/
theorem dmaChannelsAndBeats : Obligations.DmaChannelsAndBeats := by
  unfold Obligations.DmaChannelsAndBeats
  refine ⟨fun q c v s hon he hb hv => ?_, fun q c v s hon he hv h0 => ⟨fun hb => ?_, fun hi => ?_⟩,
    fun q c v s hon he hv => ?_, fun q c v s hon he hv h0 hl ht hs => ?_,
    fun c s h ha lo hi hm hr => ⟨fun hv => ?_, fun hv hw => ?_⟩,
    fun c s ha => ⟨exec_dmaBeat ha, ?_, fun hl hf hn => ⟨fun hb hs hd hr => ?_, fun v rest hb hr hx => ?_⟩⟩,
    fun c s h ha hr hw => ?_, fun c s h hl ha hr => ⟨fun hn => ?_, fun hn => ?_⟩,
    fun c w s h hw => exec_dmaRetryReissue h hw, fun c s ha => ?_⟩
  · exact ⟨_, exec_dmaEnable hon q v, State.writeDmaCtrl_loads_shows (s := s.reply q.req .ok 0) q hb (.inl he) hv⟩
  · refine ⟨_, exec_dmaEnable hon q v, ?_⟩
    rw [State.writeDmaCtrl_busy (s := s.reply q.req .ok 0) q he hb hv h0]
    exact ⟨State.get_set .., (State.get_set_apart _ rfl 1).trans (State.get_setB ..), State.dmaCtrlTaken_dma ..⟩
  · obtain ⟨-, busy, asked⟩ := State.writeDmaCtrl_loads_shows (s := s.reply q.req .ok 0) q
      (State.not_busy_of_dmaIdle hi) (.inr hi) hv
    exact ⟨_, exec_dmaEnable hon q v, busy, asked⟩
  · refine ⟨_, exec_dmaDisable hon q v, ?_⟩
    rw [State.writeDmaCtrl_disables (s := s.reply q.req .ok 0) q he hv]
    have shown := ((s.reply q.req .ok 0).dmaCtrlTaken q c v.toNat).dmaDisable_shows c.isLt
    rwa [State.dmaCtrlTaken_dma] at shown
  · exact ⟨_, exec_dmaSoftwareTrigger hon q v,
      State.writeDmaCtrl_triggers_shows (s := s.reply q.req .ok 0) q hon he hv h0 hl ht hs⟩
  · obtain ⟨-, hp, -⟩ := State.arbitrate_first ha
    refine ⟨_, exec_dmaDescriptorLoad h ha, ?_⟩
    rw [(State.dmaLoad_answered (s := s.dmaWon c) c.isLt lo hi hm hr).trans (if_neg (Bool.eq_false_iff.mp hv))]
    obtain ⟨loaded, cur, taken, busy, pend, last⟩ := State.dmaTaken_shows _ c.isLt _ _ _
    refine ⟨loaded, cur, taken, busy.trans (congrArg Dma.moving taken).symm, pend, ?_⟩
    rw [last]
    exact Bank.at_put _ hp _
  · refine ⟨_, exec_dmaDescriptorLoad h ha, ?_⟩
    rw [(State.dmaLoad_answered (s := s.dmaWon c) c.isLt lo hi hm hr).trans (if_pos hv)]
    refine State.dmaError_shows _ c.isLt ?_ 8 _
    rw [State.dma_updDma _ c.isLt]
    exact hw
  · obtain ⟨-, -, ready, -⟩ := State.arbitrate_first ha
    exact ready
  · obtain ⟨hc, -, ready, -⟩ := State.arbitrate_first ha
    have reads : s.readReady c = true := (State.dataReady_of_beatReady ready hl hf hn).resolve_right (not_not.mpr hb)
    refine ⟨_, exec_dmaBeat ha, ?_⟩
    rw [State.dmaBeat_data (s := s.dmaWon c) hl hf hn, State.dmaData_reads (s := s.dmaWon c) reads hb]
    exact State.buf_dmaReadBeat (s := s.dmaWon c) hc hs hd hr
  · obtain ⟨hc, -⟩ := State.arbitrate_first ha
    refine ⟨_, exec_dmaBeat ha, ?_⟩
    rw [State.dmaBeat_data (s := s.dmaWon c) hl hf hn, State.dmaData_writes (s := s.dmaWon c) hr]
    exact State.dmaWriteBeat_shows (s := s.dmaWon c) hc hb hx
  · refine ⟨_, exec_dmaDescriptorComplete h ha, ?_⟩
    by_cases h0 : (s.dma.at c).total = 0
    · rw [if_pos h0] at hw ⊢
      rw [State.dmaComplete_empty (s := s.dmaWon c) h0]
      exact State.dmaStatus_shows (s := s.dmaWon c) c.isLt hw
    · rw [if_neg h0] at hw ⊢
      exact State.dmaComplete_shows (s := s.dmaWon c) c.isLt h0 (hr.resolve_left h0) hw
  · refine ⟨_, exec_dmaNextFetch hl h ha, ?_⟩
    rw [(State.dmaNext_answered (s := s.dmaWon c) hr).trans (if_neg (not_not.mpr hn))]
    refine ⟨?_, ?_, State.get_set .., State.dma_updDma _ c.isLt _⟩
    · exact (State.get_set_apart _ rfl 0).trans ((State.get_set_apart _ rfl 0).trans (State.get_set ..))
    · exact (State.get_set_apart _ rfl 0).trans (State.get_set ..)
  · refine ⟨_, exec_dmaNextFetch hl h ha, ?_⟩
    rw [(State.dmaNext_answered (s := s.dmaWon c) hr).trans (if_pos hn)]
    exact State.dmaAsk_shows _ c.isLt _
  · obtain ⟨hc, -, ready, first⟩ := State.arbitrate_first ha
    exact ⟨hc, ready, fun d hready hd => first d (State.mem_dmaOrder.mpr ⟨d.isLt, hd⟩) hready⟩

end Sys2Proof.Machine
end

section
/-!
PROOFS of the statements on the whole machine: the front of the queue (O1), the frame of every command (O6), the kept
invariant (O4, O5) and the burned fuses (O7).
-/

namespace Sys2Proof.Machine

/-! ### The rows of the command table -/

/-- A row that changes the parts `K` changes those of every list that holds them. -/
theorem widened {o : Out} {s : State} {K : Nat} {L : List Part} (h : ∃ t, o = .next t ∧ Moves K s t)
    (e : K ||| partsOf L = partsOf L) : ∃ t, o = .next t ∧ Moves (partsOf L) s t := by
  obtain ⟨t, ht, hm⟩ := h
  exact ⟨t, ht, hm.mono e⟩

/-- Every command answers a next state and changes only the parts listed for it (Table 1.4): the law of each row of the
command table, against the row's list. -/
theorem exec_moves (i : Instr) (s : State) : ∃ t, exec i s = .next t ∧ Moves (partsOf (Part.ofCommand i)) s t := by
  cases i <;> dsimp only [Part.ofCommand]
  case registerWrite => exact widened (execRegisterWrite_moves ..) (by decide)
  case wideValueLowRead => exact widened (execWideValueLowRead_moves ..) (by decide)
  case wideValueLowWrite => exact widened (execWideValueLowWrite_moves ..) (by decide)
  case wideValueHighWrite => exact widened (execWideValueHighWrite_moves ..) (by decide)
  case adcSoftwareStart => exact widened (execAdcSoftwareStart_moves ..) (by decide)
  case adcPendingSlotStart => exact widened (execAdcPendingSlotStart_moves ..) (by decide)
  case adcConversionDone => exact widened (execAdcConversionDone_moves ..) (by decide)
  case adcAverageDone => exact widened (execAdcAverageDone_moves ..) (by decide)
  case adcResultRead => exact widened (execAdcResultRead_moves ..) (by decide)
  case comparatorCrossing => exact widened (execComparatorCrossing_moves ..) (by decide)
  case cmpFilterSettled => exact widened (execCmpFilterSettled_moves ..) (by decide)
  case cmpBlankingEnd => exact widened (execCmpBlankingEnd_moves ..) (by decide)
  case dacWrite => exact widened (execDacWrite_moves ..) (by decide)
  case rfmMeasurementCycleEnd => exact widened (execRfmMeasurementCycleEnd_moves ..) (by decide)
  case rfmReferenceSwitch => exact widened (execRfmReferenceSwitch_moves ..) (by decide)
  case rfmSwitchDeadline => exact widened (execRfmSwitchDeadline_moves ..) (by decide)
  case rfmHoldoffEnd => exact widened (execRfmHoldoffEnd_moves ..) (by decide)
  case rfmWinWrite => exact widened (execRfmWinWrite_moves ..) (by decide)
  case lanePendingRunStart => exact widened (execLanePendingRunStart_moves ..) (by decide)
  case laneMaxageExpiry => exact widened (execLaneMaxageExpiry_moves ..) (by decide)
  case laneEnable => exact widened (execLaneEnable_moves ..) (by decide)
  case laneDisable => exact widened (execLaneDisable_moves ..) (by decide)
  case laneUpd => exact widened (execLaneUpd_moves ..) (by decide)
  case laneHclr => exact widened (execLaneHclr_moves ..) (by decide)
  case shedGroupEnable => exact widened (execShedGroupEnable_moves ..) (by decide)
  case heddleDestinationWrite => exact widened (execHeddleDestinationWrite_moves ..) (by decide)
  case heddleSoftwareStrobe => exact widened (execHeddleSoftwareStrobe_moves ..) (by decide)
  case heddleTick => exact widened (execHeddleTick_moves ..) (by decide)
  case pwmPeriodStart => exact widened (execPwmPeriodStart_moves ..) (by decide)
  case pwmEdgeCommit => exact widened (execPwmEdgeCommit_moves ..) (by decide)
  case pwmCompareEdge => exact widened (execPwmCompareEdge_moves ..) (by decide)
  case pwmCentrePeak => exact widened (execPwmCentrePeak_moves ..) (by decide)
  case pwmTriggerCompare => exact widened (execPwmTriggerCompare_moves ..) (by decide)
  case pwmCtTermination => exact widened (execPwmCtTermination_moves ..) (by decide)
  case pwmDeadTimeExpiry => exact widened (execPwmDeadTimeExpiry_moves ..) (by decide)
  case adtSwitchNodeTransition => exact widened (execAdtSwitchNodeTransition_moves ..) (by decide)
  case adtMissTimeout => exact widened (execAdtMissTimeout_moves ..) (by decide)
  case pwmShadowWrite => exact widened (execPwmShadowWrite_moves ..) (by decide)
  case pwmGuardedWrite => exact widened (execPwmGuardedWrite_moves ..) (by decide)
  case pwmValueLoad => exact widened (execPwmValueLoad_moves ..) (by decide)
  case pwmEnable => exact widened (execPwmEnable_moves ..) (by decide)
  case tripZoneInput => exact widened (execTripZoneInput_moves ..) (by decide)
  case softwareTripSet => exact widened (execSoftwareTripSet_moves ..) (by decide)
  case softwareTripClear => exact widened (execSoftwareTripClear_moves ..) (by decide)
  case tripClearRequest => exact widened (execTripClearRequest_moves ..) (by decide)
  case governorSample => exact widened (execGovernorSample_moves ..) (by decide)
  case governorComputation => exact widened (execGovernorComputation_moves ..) (by decide)
  case governorCeilingTimeout => exact widened (execGovernorCeilingTimeout_moves ..) (by decide)
  case capMeasurementTimeout => exact widened (execCapMeasurementTimeout_moves ..) (by decide)
  case tmrEnable => exact widened (execTmrEnable_moves ..) (by decide)
  case tmrCompareMatch => exact widened (execTmrCompareMatch_moves ..) (by decide)
  case tmrOverflow => exact widened (execTmrOverflow_moves ..) (by decide)
  case tmrCapture => exact widened (execTmrCapture_moves ..) (by decide)
  case tmrCaptureRead => exact widened (execTmrCaptureRead_moves ..) (by decide)
  case tmrCounterWrite => exact widened (execTmrCounterWrite_moves ..) (by decide)
  case tmrPinForce => exact widened (execTmrPinForce_moves ..) (by decide)
  case tbStep => exact widened (execTbStep_moves ..) (by decide)
  case staggerLoad => exact widened (execStaggerLoad_moves ..) (by decide)
  case globalStartGo => exact widened (execGlobalStartGo_moves ..) (by decide)
  case globalStartArm => exact widened (execGlobalStartArm_moves ..) (by decide)
  case globalStartCancel => exact widened (execGlobalStartCancel_moves ..) (by decide)
  case globalStartRelease => exact widened (execGlobalStartRelease_moves ..) (by decide)
  case warpSuperframeSlot => exact widened (execWarpSuperframeSlot_moves ..) (by decide)
  case warpTimeFrame => exact widened (execWarpTimeFrame_moves ..) (by decide)
  case warpTimeStepFrame => exact widened (execWarpTimeStepFrame_moves ..) (by decide)
  case warpGstartFrame => exact widened (execWarpGstartFrame_moves ..) (by decide)
  case warpMsgData => exact widened (execWarpMsgData_moves ..) (by decide)
  case warpMsgAck => exact widened (execWarpMsgAck_moves ..) (by decide)
  case warpMsgNakReset => exact widened (execWarpMsgNakReset_moves ..) (by decide)
  case warpMsgNakBusy => exact widened (execWarpMsgNakBusy_moves ..) (by decide)
  case warpEnumFrame => exact widened (execWarpEnumFrame_moves ..) (by decide)
  case warpCalMeasureFrame => exact widened (execWarpCalMeasureFrame_moves ..) (by decide)
  case warpCalResultFrame => exact widened (execWarpCalResultFrame_moves ..) (by decide)
  case warpBypassEnterFrame => exact widened (execWarpBypassEnterFrame_moves ..) (by decide)
  case warpBypassLeaveFrame => exact widened (execWarpBypassLeaveFrame_moves ..) (by decide)
  case warpBypassBreakFrame => exact widened (execWarpBypassBreakFrame_moves ..) (by decide)
  case warpBypassHealedFrame => exact widened (execWarpBypassHealedFrame_moves ..) (by decide)
  case warpBypassResetFrame => exact widened (execWarpBypassResetFrame_moves ..) (by decide)
  case warpEmptyFrame => exact widened (execWarpEmptyFrame_moves ..) (by decide)
  case warpReservedFrame sub payload => exact widened (execWarpReservedFrame_moves sub payload s) (by decide)
  case warpCrcFailure => exact widened (execWarpCrcFailure_moves ..) (by decide)
  case warpTimeEvent => exact widened (execWarpTimeEvent_moves ..) (by decide)
  case warpCalibrationTimer => exact widened (execWarpCalibrationTimer_moves ..) (by decide)
  case warpCalibrationRetry => exact widened (execWarpCalibrationRetry_moves ..) (by decide)
  case warpMsgRetryTimeout => exact widened (execWarpMsgRetryTimeout_moves ..) (by decide)
  case warpMsgBusyResend => exact widened (execWarpMsgBusyResend_moves ..) (by decide)
  case warpMsgDeadline => exact widened (execWarpMsgDeadline_moves ..) (by decide)
  case warpLinkDown => exact widened (execWarpLinkDown_moves ..) (by decide)
  case warpTimeLost => exact widened (execWarpTimeLost_moves ..) (by decide)
  case warpRingOpen => exact widened (execWarpRingOpen_moves ..) (by decide)
  case warpLinkRestored => exact widened (execWarpLinkRestored_moves ..) (by decide)
  case warpSyncTimeout => exact widened (execWarpSyncTimeout_moves ..) (by decide)
  case warpPhaseSlewStep => exact widened (execWarpPhaseSlewStep_moves ..) (by decide)
  case warpGlobalStartRelease => exact widened (execWarpGlobalStartRelease_moves ..) (by decide)
  case warpSlotLoad => exact widened (execWarpSlotLoad_moves ..) (by decide)
  case plyMismatch => exact widened (execPlyMismatch_moves ..) (by decide)
  case plyResyncCopyDone => exact widened (execPlyResyncCopyDone_moves ..) (by decide)
  case plyResyncComplete => exact widened (execPlyResyncComplete_moves ..) (by decide)
  case plyScrub => exact widened (execPlyScrub_moves ..) (by decide)
  case plySplitComplete => exact widened (execPlySplitComplete_moves ..) (by decide)
  case plyJoinTcmCopyDone => exact widened (execPlyJoinTcmCopyDone_moves ..) (by decide)
  case plyJoinComplete => exact widened (execPlyJoinComplete_moves ..) (by decide)
  case plyUnrecoverableFault => exact widened (execPlyUnrecoverableFault_moves ..) (by decide)
  case plyRestartRelease => exact widened (execPlyRestartRelease_moves ..) (by decide)
  case plyWatchdogKick => exact widened (execPlyWatchdogKick_moves ..) (by decide)
  case plyWatchdogWarning => exact widened (execPlyWatchdogWarning_moves ..) (by decide)
  case plyWatchdogExpiry => exact widened (execPlyWatchdogExpiry_moves ..) (by decide)
  case add => exact widened (execAdd_moves ..) (by decide)
  case sub => exact widened (execSub_moves ..) (by decide)
  case and => exact widened (execAnd_moves ..) (by decide)
  case or => exact widened (execOr_moves ..) (by decide)
  case xor => exact widened (execXor_moves ..) (by decide)
  case slt => exact widened (execSlt_moves ..) (by decide)
  case sltu => exact widened (execSltu_moves ..) (by decide)
  case sll => exact widened (execSll_moves ..) (by decide)
  case srl => exact widened (execSrl_moves ..) (by decide)
  case sra => exact widened (execSra_moves ..) (by decide)
  case slli => exact widened (execSlli_moves ..) (by decide)
  case srli => exact widened (execSrli_moves ..) (by decide)
  case srai => exact widened (execSrai_moves ..) (by decide)
  case min => exact widened (execMin_moves ..) (by decide)
  case max => exact widened (execMax_moves ..) (by decide)
  case minu => exact widened (execMinu_moves ..) (by decide)
  case maxu => exact widened (execMaxu_moves ..) (by decide)
  case addi => exact widened (execAddi_moves ..) (by decide)
  case slti => exact widened (execSlti_moves ..) (by decide)
  case sltiu => exact widened (execSltiu_moves ..) (by decide)
  case andi => exact widened (execAndi_moves ..) (by decide)
  case ori => exact widened (execOri_moves ..) (by decide)
  case xori => exact widened (execXori_moves ..) (by decide)
  case lui => exact widened (execLui_moves ..) (by decide)
  case mul => exact widened (execMul_moves ..) (by decide)
  case mulh => exact widened (execMulh_moves ..) (by decide)
  case mulhu => exact widened (execMulhu_moves ..) (by decide)
  case div => exact widened (execDiv_moves ..) (by decide)
  case divu => exact widened (execDivu_moves ..) (by decide)
  case rem => exact widened (execRem_moves ..) (by decide)
  case remu => exact widened (execRemu_moves ..) (by decide)
  case sadd => exact widened (execSadd_moves ..) (by decide)
  case ssub => exact widened (execSsub_moves ..) (by decide)
  case sabs => exact widened (execSabs_moves ..) (by decide)
  case sat => exact widened (execSat_moves ..) (by decide)
  case sslli => exact widened (execSslli_moves ..) (by decide)
  case qmul => exact widened (execQmul_moves ..) (by decide)
  case qmul15 => exact widened (execQmul15_moves ..) (by decide)
  case ldb => exact widened (execLdb_moves ..) (by decide)
  case ldbu => exact widened (execLdbu_moves ..) (by decide)
  case ldh => exact widened (execLdh_moves ..) (by decide)
  case ldhu => exact widened (execLdhu_moves ..) (by decide)
  case ldw => exact widened (execLdw_moves ..) (by decide)
  case stb => exact widened (execStb_moves ..) (by decide)
  case sth => exact widened (execSth_moves ..) (by decide)
  case stw => exact widened (execStw_moves ..) (by decide)
  case ldx => exact widened (execLdx_moves ..) (by decide)
  case stx => exact widened (execStx_moves ..) (by decide)
  case ldxReservationTimeout => exact widened (execLdxReservationTimeout_moves ..) (by decide)
  case iold => exact widened (execIold_moves ..) (by decide)
  case iost => exact widened (execIost_moves ..) (by decide)
  case beq => exact widened (execBeq_moves ..) (by decide)
  case bne => exact widened (execBne_moves ..) (by decide)
  case blt => exact widened (execBlt_moves ..) (by decide)
  case bge => exact widened (execBge_moves ..) (by decide)
  case bltu => exact widened (execBltu_moves ..) (by decide)
  case bgeu => exact widened (execBgeu_moves ..) (by decide)
  case j => exact widened (execJ_moves ..) (by decide)
  case call => exact widened (execCall_moves ..) (by decide)
  case jr => exact widened (execJr_moves ..) (by decide)
  case callr => exact widened (execCallr_moves ..) (by decide)
  case fence => exact widened (execFence_moves ..) (by decide)
  case wfi => exact widened (execWfi_moves ..) (by decide)
  case eret => exact widened (execEret_moves ..) (by decide)
  case handover => exact widened (execHandover_moves ..) (by decide)
  case joinwait => exact widened (execJoinwait_moves ..) (by decide)
  case wret => exact widened (execWret_moves ..) (by decide)
  case csrrd => exact widened (execCsrrd_moves ..) (by decide)
  case csrwr => exact widened (execCsrwr_moves ..) (by decide)
  case cacheInvalidate => exact widened (execCacheInvalidate_moves ..) (by decide)
  case mpuLock => exact widened (execMpuLock_moves ..) (by decide)
  case tld => exact widened (execTld_moves ..) (by decide)
  case tst => exact widened (execTst_moves ..) (by decide)
  case tsave => exact widened (execTsave_moves ..) (by decide)
  case trest => exact widened (execTrest_moves ..) (by decide)
  case tmac => exact widened (execTmac_moves ..) (by decide)
  case tmacv => exact widened (execTmacv_moves ..) (by decide)
  case adrain => exact widened (execAdrain_moves ..) (by decide)
  case azero => exact widened (execAzero_moves ..) (by decide)
  case trel => exact widened (execTrel_moves ..) (by decide)
  case unassignedEncoding => exact widened (execUnassignedEncoding_moves ..) (by decide)
  case cacheLineFill => exact widened (execCacheLineFill_moves ..) (by decide)
  case accessRetryReissue => exact widened (execAccessRetryReissue_moves ..) (by decide)
  case icuSourceEvent => exact widened (execIcuSourceEvent_moves ..) (by decide)
  case icuCoalesceTimerExpiry => exact widened (execIcuCoalesceTimerExpiry_moves ..) (by decide)
  case icuHoldoffEnd => exact widened (execIcuHoldoffEnd_moves ..) (by decide)
  case interruptEntry => exact widened (execInterruptEntry_moves ..) (by decide)
  case icuCompletion => exact widened (execIcuCompletion_moves ..) (by decide)
  case icuActclr => exact widened (execIcuActclr_moves ..) (by decide)
  case icuPendClear => exact widened (execIcuPendClear_moves ..) (by decide)
  case icuSgiSet => exact widened (execIcuSgiSet_moves ..) (by decide)
  case wfiWake => exact widened (execWfiWake_moves ..) (by decide)
  case dmaEnable => exact widened (execDmaEnable_moves ..) (by decide)
  case dmaDisable => exact widened (execDmaDisable_moves ..) (by decide)
  case dmaSoftwareTrigger => exact widened (execDmaSoftwareTrigger_moves ..) (by decide)
  case dmaDescriptorLoad => exact widened (execDmaDescriptorLoad_moves ..) (by decide)
  case dmaBeat => exact widened (execDmaBeat_moves ..) (by decide)
  case dmaDescriptorComplete => exact widened (execDmaDescriptorComplete_moves ..) (by decide)
  case dmaNextFetch => exact widened (execDmaNextFetch_moves ..) (by decide)
  case dmaRetryReissue => exact widened (execDmaRetryReissue_moves ..) (by decide)
  case wgateEntry => exact widened (execWgateEntry_moves ..) (by decide)
  case wgateReturn => exact widened (execWgateReturn_moves ..) (by decide)
  case wgateInfo => exact widened (execWgateInfo_moves ..) (by decide)
  case wgateUnassigned => exact widened (execWgateUnassigned_moves ..) (by decide)
  case sealedWatchdogExpiry => exact widened (execSealedWatchdogExpiry_moves ..) (by decide)
  case sealedReload => exact widened (execSealedReload_moves ..) (by decide)
  case sealedLoadComplete => exact widened (execSealedLoadComplete_moves ..) (by decide)
  case xspiRead => exact widened (execXspiRead_moves ..) (by decide)
  case xspiWrite => exact widened (execXspiWrite_moves ..) (by decide)
  case xspiReadStatus => exact widened (execXspiReadStatus_moves ..) (by decide)
  case xspiReadId => exact widened (execXspiReadId_moves ..) (by decide)
  case xspiResetEnable => exact widened (execXspiResetEnable_moves ..) (by decide)
  case xspiReset => exact widened (execXspiReset_moves ..) (by decide)
  case xspiUnknownCommand code => exact widened (execXspiUnknownCommand_moves code s) (by decide)
  case xspiModeChange => exact widened (execXspiModeChange_moves ..) (by decide)
  case mailboxBufferWrite => exact widened (execMailboxBufferWrite_moves ..) (by decide)
  case mailboxDoorbell => exact widened (execMailboxDoorbell_moves ..) (by decide)
  case mailboxAcknowledge => exact widened (execMailboxAcknowledge_moves ..) (by decide)
  case mailboxRequestTake => exact widened (execMailboxRequestTake_moves ..) (by decide)
  case requestResume => exact widened (execRequestResume_moves ..) (by decide)
  case get => exact widened (execGet_moves ..) (by decide)
  case set => exact widened (execSet_moves ..) (by decide)
  case apply => exact widened (execApply_moves ..) (by decide)
  case commitStage => exact widened (execCommitStage_moves ..) (by decide)
  case commitWrite => exact widened (execCommitWrite_moves ..) (by decide)
  case stage => exact widened (execStage_moves ..) (by decide)
  case attest => exact widened (execAttest_moves ..) (by decide)
  case wipe => exact widened (execWipe_moves ..) (by decide)
  case watch => exact widened (execWatch_moves ..) (by decide)
  case forget => exact widened (execForget_moves ..) (by decide)
  case noticeDelivery => exact widened (execNoticeDelivery_moves ..) (by decide)
  case doPing => exact widened (execDoPing_moves ..) (by decide)
  case doPowerState => exact widened (execDoPowerState_moves ..) (by decide)
  case doWarpGstart => exact widened (execDoWarpGstart_moves ..) (by decide)
  case doWarpSend => exact widened (execDoWarpSend_moves ..) (by decide)
  case doWarpReset => exact widened (execDoWarpReset_moves ..) (by decide)
  case doWarpCal => exact widened (execDoWarpCal_moves ..) (by decide)
  case doLcTransition => exact widened (execDoLcTransition_moves ..) (by decide)
  case doLcToken => exact widened (execDoLcToken_moves ..) (by decide)
  case doLcScrap => exact widened (execDoLcScrap_moves ..) (by decide)
  case doFwVerify => exact widened (execDoFwVerify_moves ..) (by decide)
  case doFwActivate => exact widened (execDoFwActivate_moves ..) (by decide)
  case fwStatusCommit => exact widened (execFwStatusCommit_moves ..) (by decide)
  case doDrbgRandom => exact widened (execDoDrbgRandom_moves ..) (by decide)
  case doDrbgGenerate => exact widened (execDoDrbgGenerate_moves ..) (by decide)
  case doTamperClear => exact widened (execDoTamperClear_moves ..) (by decide)
  case doDraftImage => exact widened (execDoDraftImage_moves ..) (by decide)
  case doSeqRun => exact widened (execDoSeqRun_moves ..) (by decide)
  case doSeqUndo => exact widened (execDoSeqUndo_moves ..) (by decide)
  case sequenceStep => exact widened (execSequenceStep_moves ..) (by decide)
  case fanServiceTick => exact widened (execFanServiceTick_moves ..) (by decide)
  case crerusRestartComplete => exact widened (execCrerusRestartComplete_moves ..) (by decide)
  case crerusWatchdogExpiry => exact widened (execCrerusWatchdogExpiry_moves ..) (by decide)
  case vendorFirmwareStart => exact widened (execVendorFirmwareStart_moves ..) (by decide)
  case queueSubmit => exact widened (execQueueSubmit_moves ..) (by decide)
  case queueTake => exact widened (execQueueTake_moves ..) (by decide)
  case jappend => exact widened (execJappend_moves ..) (by decide)
  case jread => exact widened (execJread_moves ..) (by decide)
  case kstore => exact widened (execKstore_moves ..) (by decide)
  case kfetch => exact widened (execKfetch_moves ..) (by decide)
  case bwrite => exact widened (execBwrite_moves ..) (by decide)
  case bread => exact widened (execBread_moves ..) (by decide)
  case flush => exact widened (execFlush_moves ..) (by decide)
  case barrier => exact widened (execBarrier_moves ..) (by decide)
  case queueCompletionPost => exact widened (execQueueCompletionPost_moves ..) (by decide)
  case queueConsume => exact widened (execQueueConsume_moves ..) (by decide)
  case queueReset => exact widened (execQueueReset_moves ..) (by decide)
  case journalDeferTimeout => exact widened (execJournalDeferTimeout_moves ..) (by decide)
  case journalPageDone => exact widened (execJournalPageDone_moves ..) (by decide)
  case journalScanComplete => exact widened (execJournalScanComplete_moves ..) (by decide)
  case tamperDetection => exact widened (execTamperDetection_moves ..) (by decide)
  case tamperSwitchFilterExpiry => exact widened (execTamperSwitchFilterExpiry_moves ..) (by decide)
  case meshBitPeriod => exact widened (execMeshBitPeriod_moves ..) (by decide)
  case meshReseed => exact widened (execMeshReseed_moves ..) (by decide)
  case tamperWipeComplete => exact widened (execTamperWipeComplete_moves ..) (by decide)
  case tamperJournalRecord => exact widened (execTamperJournalRecord_moves ..) (by decide)
  case entropyHealthFailure => exact widened (execEntropyHealthFailure_moves ..) (by decide)
  case flashArm => exact widened (execFlashArm_moves ..) (by decide)
  case flashProgram => exact widened (execFlashProgram_moves ..) (by decide)
  case flashErase => exact widened (execFlashErase_moves ..) (by decide)
  case flashBadcmd => exact widened (execFlashBadcmd_moves ..) (by decide)
  case flashSequenceLapse => exact widened (execFlashSequenceLapse_moves ..) (by decide)
  case flashOperationComplete => exact widened (execFlashOperationComplete_moves ..) (by decide)
  case lcRequest => exact widened (execLcRequest_moves ..) (by decide)
  case lcScrapArm => exact widened (execLcScrapArm_moves ..) (by decide)
  case lcScrapConfirm => exact widened (execLcScrapConfirm_moves ..) (by decide)
  case lcScrapTimeout => exact widened (execLcScrapTimeout_moves ..) (by decide)
  case lcTransitionStepDone => exact widened (execLcTransitionStepDone_moves ..) (by decide)
  case fuseProgram => exact widened (execFuseProgram_moves ..) (by decide)
  case fuseLockrow => exact widened (execFuseLockrow_moves ..) (by decide)
  case fuseProgramDone => exact widened (execFuseProgramDone_moves ..) (by decide)
  case sysKeyWrite => exact widened (execSysKeyWrite_moves ..) (by decide)
  case sysKeyUnlockExpiry => exact widened (execSysKeyUnlockExpiry_moves ..) (by decide)
  case tapReset => exact widened (execTapReset_moves ..) (by decide)
  case jtagExtest => exact widened (execJtagExtest_moves ..) (by decide)
  case jtagSamplePreload => exact widened (execJtagSamplePreload_moves ..) (by decide)
  case jtagIdcode => exact widened (execJtagIdcode_moves ..) (by decide)
  case jtagClamp => exact widened (execJtagClamp_moves ..) (by decide)
  case jtagHighz => exact widened (execJtagHighz_moves ..) (by decide)
  case jtagDbgstat => exact widened (execJtagDbgstat_moves ..) (by decide)
  case jtagBypass => exact widened (execJtagBypass_moves ..) (by decide)
  case dbgapRead => exact widened (execDbgapRead_moves ..) (by decide)
  case dbgapWrite => exact widened (execDbgapWrite_moves ..) (by decide)
  case dbgapNop => exact widened (execDbgapNop_moves ..) (by decide)
  case dbgauthReadChallenge => exact widened (execDbgauthReadChallenge_moves ..) (by decide)
  case dbgauthWriteCertificate => exact widened (execDbgauthWriteCertificate_moves ..) (by decide)
  case dbgauthNewchal => exact widened (execDbgauthNewchal_moves ..) (by decide)
  case dbgauthSubmit => exact widened (execDbgauthSubmit_moves ..) (by decide)
  case debugCertCheckDone => exact widened (execDebugCertCheckDone_moves ..) (by decide)
  case debugGrantExpiry => exact widened (execDebugGrantExpiry_moves ..) (by decide)
  case debugRevoke => exact widened (execDebugRevoke_moves ..) (by decide)
  case debugHaltRequest => exact widened (execDebugHaltRequest_moves ..) (by decide)
  case debugHalt => exact widened (execDebugHalt_moves ..) (by decide)
  case debugHaltDeferralExpiry => exact widened (execDebugHaltDeferralExpiry_moves ..) (by decide)
  case debugResume => exact widened (execDebugResume_moves ..) (by decide)
  case debugStep => exact widened (execDebugStep_moves ..) (by decide)
  case debugRegisterAccess => exact widened (execDebugRegisterAccess_moves ..) (by decide)
  case debugBurst => exact widened (execDebugBurst_moves ..) (by decide)
  case clockMonitorWindowEnd => exact widened (execClockMonitorWindowEnd_moves ..) (by decide)
  case clockReferenceLost => exact widened (execClockReferenceLost_moves ..) (by decide)
  case pllRelockDone => exact widened (execPllRelockDone_moves ..) (by decide)
  case pllLockLoss => exact widened (execPllLockLoss_moves ..) (by decide)
  case pllRelockTimeout => exact widened (execPllRelockTimeout_moves ..) (by decide)
  case clockHoldoffEnd => exact widened (execClockHoldoffEnd_moves ..) (by decide)
  case powerAckReady => exact widened (execPowerAckReady_moves ..) (by decide)
  case powerForcedStopTimeout => exact widened (execPowerForcedStopTimeout_moves ..) (by decide)
  case powerEntryContinue => exact widened (execPowerEntryContinue_moves ..) (by decide)
  case domainQuiesceComplete => exact widened (execDomainQuiesceComplete_moves ..) (by decide)
  case domainPowerUpComplete => exact widened (execDomainPowerUpComplete_moves ..) (by decide)
  case domainUnplannedLoss => exact widened (execDomainUnplannedLoss_moves ..) (by decide)
  case domainRestart => exact widened (execDomainRestart_moves ..) (by decide)
  case powerWake => exact widened (execPowerWake_moves ..) (by decide)
  case powerExitComplete => exact widened (execPowerExitComplete_moves ..) (by decide)
  case pd7PowerRequest => exact widened (execPd7PowerRequest_moves ..) (by decide)
  case pd11PowerRequest => exact widened (execPd11PowerRequest_moves ..) (by decide)
  case sramBankPowerRequest => exact widened (execSramBankPowerRequest_moves ..) (by decide)
  case mainSupplyLoss => exact widened (execMainSupplyLoss_moves ..) (by decide)
  case powerOnReset => exact widened (execPowerOnReset_moves ..) (by decide)
  case brownOut => exact widened (execBrownOut_moves ..) (by decide)
  case resetPin => exact widened (execResetPin_moves ..) (by decide)
  case softwareReset => exact widened (execSoftwareReset_moves ..) (by decide)
  case resetRelease => exact widened (execResetRelease_moves ..) (by decide)
  case gpioInputEvent => exact widened (execGpioInputEvent_moves ..) (by decide)
  case encoderCountWrite => exact widened (execEncoderCountWrite_moves ..) (by decide)
  case gpioOutputSet => exact widened (execGpioOutputSet_moves ..) (by decide)
  case gpioOutputClear => exact widened (execGpioOutputClear_moves ..) (by decide)
  case gpioMuxWrite => exact widened (execGpioMuxWrite_moves ..) (by decide)
  case uartTransmitData => exact widened (execUartTransmitData_moves ..) (by decide)
  case uartTransmitCharacter => exact widened (execUartTransmitCharacter_moves ..) (by decide)
  case uartReceiveCharacter => exact widened (execUartReceiveCharacter_moves ..) (by decide)
  case uartBreak => exact widened (execUartBreak_moves ..) (by decide)
  case uartReceiveTimeout => exact widened (execUartReceiveTimeout_moves ..) (by decide)
  case uartReceiveDataRead => exact widened (execUartReceiveDataRead_moves ..) (by decide)
  case i2cTransferStart => exact widened (execI2cTransferStart_moves ..) (by decide)
  case i2cControllerByte => exact widened (execI2cControllerByte_moves ..) (by decide)
  case i2cTransferComplete => exact widened (execI2cTransferComplete_moves ..) (by decide)
  case i2cArbitrationLost => exact widened (execI2cArbitrationLost_moves ..) (by decide)
  case i2cControllerDisable => exact widened (execI2cControllerDisable_moves ..) (by decide)
  case i2cTargetAddressed => exact widened (execI2cTargetAddressed_moves ..) (by decide)
  case i2cTargetByte => exact widened (execI2cTargetByte_moves ..) (by decide)
  case i2cStop => exact widened (execI2cStop_moves ..) (by decide)
  case i2cStretchLimit => exact widened (execI2cStretchLimit_moves ..) (by decide)
  case i2cTransmitData => exact widened (execI2cTransmitData_moves ..) (by decide)
  case i2cReceiveDataRead => exact widened (execI2cReceiveDataRead_moves ..) (by decide)
  case thermalSample => exact widened (execThermalSample_moves ..) (by decide)
  case advisoryRecord => exact widened (execAdvisoryRecord_moves ..) (by decide)
  case boardServiceSet => exact widened (execBoardServiceSet_moves ..) (by decide)
  case laneApplyTimeout => exact widened (execLaneApplyTimeout_moves ..) (by decide)
  case uartTransmitComplete => exact widened (execUartTransmitComplete_moves ..) (by decide)
  case i2cStartCondition => exact widened (execI2cStartCondition_moves ..) (by decide)
  case i2cBusFree => exact widened (execI2cBusFree_moves ..) (by decide)
  case journalChainVerifyDone => exact widened (execJournalChainVerifyDone_moves ..) (by decide)

/-! ### The front of the queue and the frame -/

/-- Settles O1: the step on a queue that is not empty is the meaning of its front command. -/
theorem stepTakesFront : Obligations.StepTakesFront := by
  unfold Obligations.StepTakesFront
  exact fun _ _ _ => rfl

/-- Settles O6: the frame of each row, from what its law says that it may change. -/
theorem frameOfEveryCommand : Obligations.FrameOfEveryCommand := by
  unfold Obligations.FrameOfEveryCommand
  intro i s
  obtain ⟨t, ht, hm⟩ := exec_moves i s
  exact ⟨t, ht, hm.onlyIn _ (Nat.or_self _)⟩

/-- What a step can do: an idle pick on an empty queue, or the front command on the rest of the queue. -/
theorem step_cases {s t : State} (h : step s = .next t) :
    (s.pending = [] ∧ t = s.idlePick)
      ∨ ∃ i rest, s.pending = i :: rest ∧ exec i { s with pending := rest } = .next t
          ∧ Moves (partsOf (Part.ofCommand i)) { s with pending := rest } t := by
  cases e : s.pending with
  | nil =>
    rw [step_idle s e] at h
    exact .inl ⟨rfl, (Host.Outcome.next.inj h).symm⟩
  | cons i rest =>
    simp only [step, e] at h
    obtain ⟨u, hu, hm⟩ := exec_moves i { s with pending := rest }
    obtain rfl := Host.Outcome.next.inj (h.symm.trans hu)
    exact .inr ⟨i, rest, rfl, h, hm⟩

/-! ### The invariant -/

/-- The queue of commands has no part in what keeps a state well. -/
theorem State.Kept.withPending {s : State} (h : s.Kept) (l : List Instr) : ({ s with pending := l } : State).Kept :=
  ⟨h.mem, h.regs, h.saved⟩

/-- Settles O4: memory lists nothing, and both fields that are listed fit. -/
theorem resetKept : Obligations.ResetKept := by
  unfold Obligations.ResetKept
  have on : regsFit [(R.PWR_DOM 0, 3)] := fun x hx => by
    obtain rfl := List.mem_singleton.mp hx
    simp [R.PWR_DOM]
  exact ⟨rfl, regsFit_set (f := R.WRP_STAT_BYPASS) (v := 1) on, fun r h => by cases h⟩

/-- Settles O5: what a row changes it leaves well kept, and it leaves the rest of the queue alone. -/
theorem stepKeepsInvariant : Obligations.StepKeepsInvariant := by
  unfold Obligations.StepKeepsInvariant
  intro s t hk h
  rcases step_cases h with ⟨e, ht⟩ | ⟨i, rest, e, -, hm⟩
  · have hi := s.idlePick_moves
    rw [← ht] at hi
    exact ⟨hi.kept hk, by rw [hi.pending, e]; rfl⟩
  · exact ⟨hm.kept (hk.withPending rest), by rw [hm.pending, e]; rfl⟩

/-! ### Burned fuses (R411) -/

/-- Every fuse bit that is burned in the array `a` is burned in `b`. -/
structure BurnsKept (a b : Bank Word 256) : Prop where
  burned : ∀ r : Fin 256, a.at r ||| b.at r = b.at r

theorem BurnsKept.refl (a : Bank Word 256) : BurnsKept a a := ⟨fun _ => BitVec.or_self⟩

theorem BurnsKept.trans {a b c : Bank Word 256} (h : BurnsKept a b) (k : BurnsKept b c) : BurnsKept a c :=
  ⟨fun r => by rw [← k.burned r, ← BitVec.or_assoc, h.burned r]⟩

/-- An operation that has no part in the fuse array. -/
theorem Moves.burnsKept {K : Nat} {s t : State} (h : Moves K s t) (e : K.testBit Part.fuse.idx = false) :
    BurnsKept s.fuse t.fuse := by
  rw [h.same .fuse e]
  exact .refl _

theorem BurnsKept.foldl {α : Type} {f : State → α → State} (k : ∀ u a, BurnsKept u.fuse (f u a).fuse) (l : List α)
    (s : State) : BurnsKept s.fuse (l.foldl f s).fuse := by
  induction l generalizing s with
  | nil => exact .refl _
  | cons a l ih => exact (k s a).trans (ih (f s a))

theorem State.burn_burnsKept (s : State) (r bits : Nat) : BurnsKept s.fuse (s.burn r bits).fuse := by
  refine ⟨fun k => ?_⟩
  by_cases h : k.val = r
  · subst h
    rw [State.burn, Bank.at_upd _ k.isLt, ← BitVec.or_assoc, BitVec.or_self]
  · rw [State.burn, Bank.upd, Bank.at_put_ne _ (Ne.symm h), BitVec.or_self]

theorem State.burnAll_burnsKept (s : State) (r bits : Nat) : BurnsKept s.fuse (s.burnAll r bits).fuse :=
  .foldl (fun u _ => u.burn_burnsKept ..) ..

theorem State.lockRows_burnsKept (s : State) (p : Nat → Bool) : BurnsKept s.fuse (s.lockRows p).fuse :=
  .foldl (fun u _ => u.burn_burnsKept ..) ..

theorem State.burnRows_burnsKept (s : State) (lo hi : Nat) : BurnsKept s.fuse (s.burnRows lo hi).fuse :=
  .foldl (fun u _ => u.burn_burnsKept ..) ..

theorem State.confirmed_burnsKept (s : State) : BurnsKept s.fuse s.confirmed.fuse :=
  .foldl (fun u _ => u.burn_burnsKept ..) ..

/-- A transition's step burns, locks and wipes, and takes no burn back (Table 19.8). -/
theorem State.lcEffect_burnsKept (s : State) (slot j : Nat) : BurnsKept s.fuse (s.lcEffect slot j).fuse := by
  unfold State.lcEffect
  split_ifs
  · refine Moves.burnsKept (K := 0x200600000000) ?_ (by decide)
    exact (((s.eraseCustomer_moves.mono (by decide)).step (State.wipe_moves ..) (by decide)).step
      (State.wipeTcms_moves _) (by decide)).step (State.zeroSlots_moves _) (by decide)
  · exact s.lockRows_burnsKept _
  · exact .trans (.foldl (fun u _ => u.freeN.2.burn_burnsKept ..) _ s) (State.lockRows_burnsKept ..)
  · exact s.lockRows_burnsKept _
  · refine Moves.burnsKept (K := 0x200600000000) ?_ (by decide)
    exact ((s.zeroSlots_moves.mono (by decide)).step (State.wipeSealed_moves _) (by decide)).step
      (State.eraseCustomer_moves _) (by decide)
  · refine Moves.burnsKept (K := 0x200740000000) ?_ (by decide)
    refine .step ?_ State.upd_crerus_jrnl_moves (by decide)
    exact ((((s.zeroSlots_moves.mono (by decide)).step (State.wipe_moves ..) (by decide)).step
      (State.wipeTcms_moves _) (by decide)).step (State.wipe_moves ..) (by decide)).step (State.eraseRange_moves ..)
      (by decide)
  · exact s.burnRows_burnsKept ..
  · exact s.burnRows_burnsKept ..
  · exact .refl _

/-- A step of a transition burns its mark or the life-cycle bit (R424). -/
theorem State.lcStep_burnsKept (s : State) : BurnsKept s.fuse s.lcStep.fuse := by
  unfold State.lcStep
  split
  · exact .refl _
  next slot _ =>
    have marked (r bits : Nat) : BurnsKept s.fuse ((s.lcEffect slot s.lc.step).burnAll r bits).fuse :=
      (s.lcEffect_burnsKept slot s.lc.step).trans (State.burnAll_burnsKept ..)
    dsimp only
    split
    · split
      · exact (marked ..).trans ((State.lcTell_moves _).burnsKept (by decide))
      · exact marked ..
    · refine .trans ?_ ((State.askReset_moves _ 8).burnsKept (by decide))
      exact marked ..

/-- The end of a fuse program burns bits of one row (R430). -/
theorem State.fuseEnd_burnsKept (s : State) (bad : Nat) : BurnsKept s.fuse (s.fuseEnd bad).fuse := by
  unfold State.fuseEnd
  split
  · exact .refl _
  · exact s.burn_burnsKept ..

theorem State.finish_burnsKept (s : State) (j : Job) (st : Nat) (pay : List Nat) :
    BurnsKept s.fuse (s.finish j st pay).fuse := (s.finish_moves j st pay).burnsKept (by decide)

/-- Firmware that is confirmed burns its version's thermometer, at once or when its mark is programmed (R326). -/
theorem State.resumeJob_burnsKept (s : State) (j : Job) : BurnsKept s.fuse (s.resumeJob j).fuse := by
  have flashDone : BurnsKept s.fuse (s.flashDone j).fuse := by
    unfold State.flashDone
    split_ifs
    exacts [s.confirmed_burnsKept, .refl _, .refl _]
  unfold State.resumeJob
  split
  · exact s.finish_burnsKept ..
  · exact .refl _
  · split
    · exact flashDone.trans (State.finish_burnsKept ..)
    · exact s.finish_burnsKept ..
  · exact s.finish_burnsKept ..
  · exact .refl _

theorem execFwStatusCommit_burnsKept {s t : State} (h : execFwStatusCommit s = .next t) : BurnsKept s.fuse t.fuse := by
  obtain rfl := Host.Outcome.next.inj h
  unfold State.serve
  split
  · dsimp only
    split
    · exact s.confirmed_burnsKept.trans (State.finish_burnsKept ..)
    · unfold State.withFlash
      split
      · refine Moves.burnsKept (K := 0x1000240000000) ?_ (by decide)
        exact ((s.setFlashOp_moves ..).mono (by decide)).step (State.suspend_moves ..) (by decide)
      · exact .refl _
  · exact .refl _

theorem execRequestResume_burnsKept {s t : State} (h : execRequestResume s = .next t) : BurnsKept s.fuse t.fuse := by
  obtain rfl := Host.Outcome.next.inj h
  split
  · exact .refl _
  · split
    · exact s.resumeJob_burnsKept _
    · exact .refl _

/-- The commands that reach the fuse array: a step of a transition, the end of a fuse program, and the two that confirm
firmware. -/
theorem burns_of_fuse_mem {i : Instr} (h : Part.fuse ∈ Part.ofCommand i) :
    i = .requestResume ∨ i = .fwStatusCommit ∨ i = .lcTransitionStepDone ∨ ∃ bad, i = .fuseProgramDone bad := by
  cases i <;> dsimp only [Part.ofCommand] at h
  case requestResume => exact .inl rfl
  case fwStatusCommit => exact .inr (.inl rfl)
  case lcTransitionStepDone => exact .inr (.inr (.inl rfl))
  case fuseProgramDone bad => exact .inr (.inr (.inr ⟨bad, rfl⟩))
  all_goals exact absurd h (by decide)

/-- A list of parts that does not hold the fuse array is a set that does not. -/
theorem testBit_fuse_of_not_mem {L : List Part} (h : Part.fuse ∉ L) : (partsOf L).testBit Part.fuse.idx = false := by
  refine testBit_partsOf fun q hq e => ?_
  cases q
  case fuse => exact h hq
  all_goals simp only [Part.idx] at e; omega

theorem exec_burnsKept {i : Instr} {s t : State} (h : exec i s = .next t) : BurnsKept s.fuse t.fuse := by
  by_cases hi : Part.fuse ∈ Part.ofCommand i
  · rcases burns_of_fuse_mem hi with rfl | rfl | rfl | ⟨bad, rfl⟩
    · exact execRequestResume_burnsKept h
    · exact execFwStatusCommit_burnsKept h
    · exact Host.Outcome.next.inj h ▸ s.lcStep_burnsKept
    · exact Host.Outcome.next.inj h ▸ s.fuseEnd_burnsKept bad.toNat
  · obtain ⟨u, hu, hm⟩ := exec_moves i s
    exact Host.Outcome.next.inj (hu.symm.trans h) ▸ hm.burnsKept (testBit_fuse_of_not_mem hi)

/-- Settles O7: no row takes a burn back, whether or not it reaches the fuse array. -/
theorem fusesNeverUnburn : Obligations.FusesNeverUnburn := by
  unfold Obligations.FusesNeverUnburn
  intro s t h
  rcases step_cases h with ⟨-, ht⟩ | ⟨i, rest, -, hi, -⟩
  · rw [ht]
    exact (s.idlePick_moves.burnsKept (by decide)).burned
  · exact (exec_burnsKept hi).burned

end Sys2Proof.Machine
end

section
/-!
PROOFS. Rules for events that rise together, for accesses of one requester and for registers written by field, which the
statements on the serial blocks (chapter 24) and on the system blocks rest on.
-/

namespace Sys2Proof.Machine

/-! ### Fields and flags -/

/-- A flag of one bit that is written with 1 is set. -/
theorem State.flag_set_one (s : State) {f : Fld} (hw : f.w = 1) : (s.set f 1).flag f = true := by
  rw [State.flag, State.get_set, hw]
  rfl

theorem State.flag_set_zero (s : State) (f : Fld) : (s.set f 0).flag f = false := by
  simp [State.flag]

/-- What the next state of an access reads like where its domain is ON (R14). -/
theorem State.via_next {s : State} {q : Req} {d : Nat} {f : State → State} (h : s.on d = true) :
    (Host.Outcome.next (s.via q d f) : Out) = .next (f (s.reply q .ok 0)) := by
  rw [State.via_on s q f h]

@[simp] theorem State.on_reply (s : State) (q : Req) (c : RespCode) (n d : Nat) : (s.reply q c n).on d = s.on d := rfl

@[simp] theorem State.flag_reply (s : State) (q : Req) (c : RespCode) (n : Nat) (f : Fld) :
    (s.reply q c n).flag f = s.flag f := rfl

/-! ### Events (R250, R251) -/

/-- An event clears no source's PEND. -/
theorem State.pend_raise {s : State} {m : Nat} (n : Nat) (h : s.flag (R.ICU_STS_PEND m) = true) :
    (s.raise n).flag (R.ICU_STS_PEND m) = true := by
  by_cases e : m = n
  · subst e
    unfold State.raise
    split
    · exact h
    · split
      · have hp : ((s.set (R.ICU_STS_PEND m) 1).inc (R.ICU_STS_EVC m)).flag (R.ICU_STS_PEND m) = true := by
          rw [State.flag, State.get_inc_apart _ rfl, State.get_set]
          rfl
        dsimp only
        split <;> exact hp
      · split <;> exact h
  · rw [State.flag_congr (State.get_raise_pend_ne s e), h]

theorem State.pend_foldl_raise {m : Nat} : ∀ (l : List Nat) (s : State), s.flag (R.ICU_STS_PEND m) = true →
    (l.foldl (fun s n => s.raise n) s).flag (R.ICU_STS_PEND m) = true := by
  intro l
  induction l with
  | nil => exact fun _ => id
  | cons n l ih => exact fun s h => ih (s.raise n) (State.pend_raise n h)

/-- Each of the sources raised together is pending while PD6 is ON. -/
theorem State.flag_foldl_raise {m : Nat} (hm : m < 190) : ∀ (l : List Nat) (s : State), s.on 6 = true → m ∈ l →
    (l.foldl (fun s n => s.raise n) s).flag (R.ICU_STS_PEND m) = true := by
  intro l
  induction l with
  | nil => exact fun _ _ hl => absurd hl List.not_mem_nil
  | cons n l ih =>
    intro s h hl
    rcases List.mem_cons.mp hl with rfl | hl
    · refine State.pend_foldl_raise l _ ?_
      rw [State.flag, State.get_raise_pend s (by omega) (by omega) (by omega) h]
      rfl
    · exact ih _ ((State.on_raise s n).trans h) hl

@[simp] theorem State.get_raiseNew_apart (s : State) (old new : List Nat) {f : Fld} (h : f.pd ≠ 6) :
    (s.raiseNew old new).get f = s.get f := by
  unfold State.raiseNew
  generalize new.filter _ = l
  induction l generalizing s with
  | nil => rfl
  | cons n l ih => exact (ih _).trans (State.get_raise_apart s n h)

@[simp] theorem State.raiseNew_uart (s : State) (old new : List Nat) : (s.raiseNew old new).uart = s.uart :=
  (s.raiseNew_moves old new).same .uart (by decide)

@[simp] theorem State.raiseNew_i2c (s : State) (old new : List Nat) : (s.raiseNew old new).i2c = s.i2c :=
  (s.raiseNew_moves old new).same .i2c (by decide)

@[simp] theorem State.raiseNew_resp (s : State) (old new : List Nat) : (s.raiseNew old new).resp = s.resp :=
  (s.raiseNew_moves old new).same .resp (by decide)

/-- A request that rises makes its source pending (R530, R535). -/
theorem State.flag_raiseNew {s : State} {old new : List Nat} {m : Nat} (hm : m < 190) (h : s.on 6 = true)
    (hn : m ∈ new) (ho : m ∉ old) : (s.raiseNew old new).flag (R.ICU_STS_PEND m) = true :=
  State.flag_foldl_raise hm _ s h (List.mem_filter.mpr ⟨hn, by simpa using ho⟩)

end Sys2Proof.Machine
end

section
/-!
PROOFS of the statement on UART0 (O54, R528 to R530).
-/

namespace Sys2Proof.Machine

/-! ### The levels and the requests follow (R530) -/

/-- The fields that follow the FIFOs of UART0. -/
def uartLevels : List Fld := [R.UART0_STAT_TXLVL, R.UART0_STAT_RXLVL, R.UART0_STAT_TXIDLE]

/-- UART0 with its levels brought up to its FIFOs, before its requests rise. -/
def State.uartLeveled (s : State) : State :=
  ((s.set R.UART0_STAT_TXLVL s.uart.tx.length).set R.UART0_STAT_RXLVL s.uart.rx.length).setB R.UART0_STAT_TXIDLE
    (s.uart.tx.isEmpty && s.uart.sending.isNone)

theorem State.uartSync_uart (s : State) : s.uartSync.uart = { s.uart with req := s.uartLeveled.uartReqs } := by
  change ({ (s.uartLeveled.raiseNew s.uartLeveled.uart.req s.uartLeveled.uartReqs).uart with
    req := s.uartLeveled.uartReqs } : UartSt) = _
  rw [State.raiseNew_uart]
  rfl

theorem State.get_uartSync_leveled (s : State) {f : Fld} (h : f.pd ≠ 6) : s.uartSync.get f = s.uartLeveled.get f :=
  State.get_raiseNew_apart s.uartLeveled _ _ h

theorem State.get_uartSync (s : State) {f : Fld} (h : f.pd ≠ 6) (hf : f ∉ uartLevels) :
    s.uartSync.get f = s.get f := by
  have other : ∀ {g : Fld}, g ∈ uartLevels → g ≠ f := by
    rintro g hg rfl
    exact hf hg
  rw [State.get_uartSync_leveled s h, State.uartLeveled, State.get_setB_ne _ (other (by decide)),
    State.get_set_ne _ (other (by decide)), State.get_set_ne _ (other (by decide))]

theorem State.get_uartSync_txlvl (s : State) : s.uartSync.get R.UART0_STAT_TXLVL = s.uart.tx.length % 32 := by
  rw [State.get_uartSync_leveled s (by decide), State.uartLeveled, State.get_setB_apart _ rfl,
    State.get_set_apart _ rfl, State.get_set]
  rfl

theorem State.get_uartSync_rxlvl (s : State) : s.uartSync.get R.UART0_STAT_RXLVL = s.uart.rx.length % 32 := by
  rw [State.get_uartSync_leveled s (by decide), State.uartLeveled, State.get_setB_apart _ rfl, State.get_set]
  rfl

theorem State.get_uartSync_txidle (s : State) :
    s.uartSync.get R.UART0_STAT_TXIDLE = b2n (s.uart.tx.isEmpty && s.uart.sending.isNone) := by
  rw [State.get_uartSync_leveled s (by decide), State.uartLeveled, State.get_setB_bit _ rfl]

@[simp] theorem State.uartSync_resp (s : State) : s.uartSync.resp = s.resp := by
  exact State.raiseNew_resp s.uartLeveled _ _

/-- A flag that is set before the levels follow stays set. -/
theorem State.flag_uartSync_set (s : State) {f : Fld} (hw : f.w = 1) (h : f.pd ≠ 6) (hf : f ∉ uartLevels) :
    (s.set f 1).uartSync.flag f = true := by
  rw [State.flag_congr (State.get_uartSync _ h hf), State.flag_set_one s hw]

/-! ### Transmit (R528) -/

theorem uartTransmitData_takes (q : Who) (v : Word) (s : State) (h : s.on 10 = true) (hl : s.uart.tx.length < 16) :
    ∃ t, exec (.uartTransmitData q v) s = .next t ∧ t.uart.tx = s.uart.tx ++ [v.toNat % 256]
      ∧ t.get R.UART0_STAT_TXLVL = s.uart.tx.length + 1 ∧ t.get R.UART0_STAT_TXIDLE = 0 := by
  refine ⟨_, State.via_next h, ?_⟩
  rw [State.writeUartTx, if_neg (by simpa using hl)]
  refine ⟨by rw [State.uartSync_uart]; rfl, ?_, ?_⟩
  · rw [State.get_uartSync_txlvl]
    simp
    omega
  · rw [State.get_uartSync_txidle]
    simp [b2n]

theorem uartTransmitData_drops (q : Who) (v : Word) (s : State) (h : s.on 10 = true) (hl : 16 ≤ s.uart.tx.length) :
    ∃ t, exec (.uartTransmitData q v) s = .next t ∧ t.uart.tx = s.uart.tx ∧ t.flag R.UART0_STAT_TXOVR = true := by
  refine ⟨_, State.via_next h, ?_⟩
  rw [State.writeUartTx, if_pos (by simpa using hl)]
  exact ⟨by rw [State.uartSync_uart]; rfl, State.flag_uartSync_set _ rfl (by decide) (by decide)⟩

theorem uartTransmitCharacter_starts (c : Nat) (r : List Nat) (s : State) (h : s.on 10 = true)
    (he : s.flag R.UART0_CTRL_EN = true) (ht : s.flag R.UART0_CTRL_TXEN = true) (hx : s.uart.tx = c :: r) :
    ∃ t, exec .uartTransmitCharacter s = .next t ∧ t.uart.tx = r ∧ t.uart.sending = some c
      ∧ t.get R.UART0_STAT_TXLVL = r.length % 32 ∧ t.get R.UART0_STAT_TXIDLE = 0 := by
  refine ⟨({ s with uart := { s.uart with tx := r, sending := some c } } : State).uartSync, ?_, ?_, ?_, ?_, ?_⟩
  · simp [exec, execUartTransmitCharacter, h, he, ht, hx]
  · rw [State.uartSync_uart]
  · rw [State.uartSync_uart]
  · rw [State.get_uartSync_txlvl]
  · rw [State.get_uartSync_txidle]
    simp [b2n]

theorem uartTransmitComplete_ends (s : State) (h : s.uart.sending.isSome = true) :
    ∃ t, exec .uartTransmitComplete s = .next t ∧ t.uart.sending = none ∧ t.uart.tx = s.uart.tx
      ∧ t.get R.UART0_STAT_TXIDLE = b2n s.uart.tx.isEmpty := by
  refine ⟨_, congrArg Host.Outcome.next (if_pos h), ?_, ?_, ?_⟩
  · rw [State.uartSync_uart]
  · rw [State.uartSync_uart]
  · rw [State.get_uartSync_txidle]
    simp

/-! ### Receive (R529, R530) -/

theorem exec_uartReceiveCharacter {s : State} (d : BitVec 8) (par stop : Bool) (h : s.on 10 = true)
    (he : s.flag R.UART0_CTRL_EN = true) (hr : s.flag R.UART0_CTRL_RXEN = true) :
    exec (.uartReceiveCharacter d par stop) s = .next (s.uartPush d.toNat par stop) := by
  simp [exec, execUartReceiveCharacter, h, he, hr]

/-- UART0 after the flags of a received character are set (R529). -/
def State.uartFlagged (s : State) (pe fe : Bool) : State :=
  let s := if pe then s.set R.UART0_STAT_PERR 1 else s
  if fe then s.set R.UART0_STAT_FERR 1 else s

theorem State.uartFlagged_uart (s : State) (pe fe : Bool) : (s.uartFlagged pe fe).uart = s.uart := by
  cases pe <;> cases fe <;> rfl

theorem State.uartFlagged_perr (s : State) (fe : Bool) : (s.uartFlagged true fe).flag R.UART0_STAT_PERR = true := by
  cases fe
  · exact State.flag_set_one s rfl
  · exact (State.flag_congr (State.get_set_apart _ rfl 1)).trans (State.flag_set_one s rfl)

theorem State.uartFlagged_ferr (s : State) (pe : Bool) : (s.uartFlagged pe true).flag R.UART0_STAT_FERR = true :=
  State.flag_set_one _ rfl

theorem uartReceiveCharacter_pushes (d : BitVec 8) (par stop : Bool) (s : State) (h : s.on 10 = true)
    (he : s.flag R.UART0_CTRL_EN = true) (hr : s.flag R.UART0_CTRL_RXEN = true) (hl : s.uart.rx.length < 16) :
    ∃ t pe, exec (.uartReceiveCharacter d par stop) s = .next t
      ∧ t.uart.rx = s.uart.rx ++ [(d.toNat, pe, !stop)]
      ∧ pe = (s.flag R.UART0_CTRL_PARITY && decide ((onesOf d.toNat + b2n par) % 2 = 1))
      ∧ (pe = true → t.flag R.UART0_STAT_PERR = true) ∧ (stop = false → t.flag R.UART0_STAT_FERR = true)
      ∧ t.get R.UART0_STAT_RXLVL = s.uart.rx.length + 1 := by
  let pe := s.flag R.UART0_CTRL_PARITY && decide ((onesOf d.toNat + b2n par) % 2 = 1)
  let u : State := ({ s with uart := { s.uart with brk := decide (d.toNat = 0) && !stop } } : State).uartFlagged pe (!stop)
  let w : State := { u with uart := { u.uart with rx := u.uart.rx ++ [(d.toNat, pe, !stop)], idle := false } }
  have hu : u.uart.rx = s.uart.rx := by rw [State.uartFlagged_uart]
  refine ⟨w.uartSync, pe, ?_, ?_, rfl, fun hp => ?_, fun hs => ?_, ?_⟩
  · rw [exec_uartReceiveCharacter d par stop h he hr, State.uartPush]
    dsimp only
    rw [if_neg (by simpa using hl)]
    rfl
  · rw [State.uartSync_uart]
    exact congrArg (· ++ _) hu
  · rw [State.flag_congr (State.get_uartSync w (by decide) (by decide))]
    simp only [w, u, hp]
    exact State.uartFlagged_perr ..
  · rw [State.flag_congr (State.get_uartSync w (by decide) (by decide))]
    subst hs
    exact State.uartFlagged_ferr _ _
  · rw [State.get_uartSync_rxlvl]
    simp [w, hu]
    omega

theorem uartReceiveCharacter_loses (d : BitVec 8) (par stop : Bool) (s : State) (h : s.on 10 = true)
    (he : s.flag R.UART0_CTRL_EN = true) (hr : s.flag R.UART0_CTRL_RXEN = true) (hl : 16 ≤ s.uart.rx.length) :
    ∃ t, exec (.uartReceiveCharacter d par stop) s = .next t ∧ t.uart.rx = s.uart.rx
      ∧ t.flag R.UART0_STAT_RXOVR = true := by
  refine ⟨_, exec_uartReceiveCharacter d par stop h he hr, ?_⟩
  rw [State.uartPush]
  dsimp only
  rw [if_pos hl]
  exact ⟨by rw [State.uartSync_uart]; rfl, State.flag_uartSync_set _ rfl (by decide) (by decide)⟩

theorem uartBreak_flags (s : State) (h : s.uart.brk = true) :
    ∃ t, exec .uartBreak s = .next t ∧ t.flag R.UART0_STAT_BREAK = true ∧ t.uart.rx = s.uart.rx :=
  ⟨_, congrArg Host.Outcome.next (if_pos h), State.flag_uartSync_set _ rfl (by decide) (by decide), by rw [State.uartSync_uart]; rfl⟩

theorem uartReceiveTimeout_raises (s : State) (hr : s.uart.rx ≠ []) (hi : s.flag R.UART0_IE_RXIE = true)
    (hq : 164 ∉ s.uart.req) (h6 : s.on 6 = true) :
    ∃ t, exec .uartReceiveTimeout s = .next t ∧ t.uart.rx = s.uart.rx ∧ 164 ∈ t.uart.req
      ∧ t.flag (R.ICU_STS_PEND 164) = true := by
  let w : State := { s with uart := { s.uart with idle := true } }
  have hreq : 164 ∈ w.uartLeveled.uartReqs := by
    have hie : w.uartLeveled.flag R.UART0_IE_RXIE = true :=
      (State.flag_congr (by rw [State.uartLeveled, State.get_setB_apart _ rfl, State.get_set_apart _ rfl,
        State.get_set_apart _ rfl]; rfl)).trans hi
    have hrx : w.uartLeveled.uart.rx = s.uart.rx := rfl
    have hidle : w.uartLeveled.uart.idle = true := rfl
    simp [State.uartReqs, hie, hrx, hidle, hr]
  have h6' : w.uartLeveled.on 6 = true := by
    rw [← h6]
    refine State.on_congr ?_
    rw [State.uartLeveled, State.get_setB_apart _ rfl, State.get_set_apart _ rfl, State.get_set_apart _ rfl]
    rfl
  refine ⟨w.uartSync, congrArg Host.Outcome.next (if_neg (by simpa using hr)), ?_, ?_, ?_⟩
  · rw [State.uartSync_uart]
  · rw [State.uartSync_uart]
    exact hreq
  · exact State.flag_raiseNew (s := w.uartLeveled) (by decide) h6' hreq hq

theorem uartReceiveDataRead_pops (q : Who) (s : State) (h : s.on 10 = true) :
    ∃ t, exec (.uartReceiveDataRead q) s = .next t ∧ t.uart.rx = s.uart.rx.tail
      ∧ t.resp.at (reqIdx q.req) = { code := .ok, data := s.uartHead } := by
  refine ⟨_, State.via_next h, ?_, ?_⟩
  · rw [State.readUartRx, State.uartSync_uart]
    rfl
  · rw [State.readUartRx, State.uartSync_resp]
    exact State.resp_reply _ q.req .ok s.uartHead

/-- Settles O54: each row of UART0, with the levels and requests that follow it. -/
theorem uartCharacters : Obligations.UartCharacters := by
  unfold Obligations.UartCharacters
  exact ⟨fun q v s h => ⟨uartTransmitData_takes q v s h, uartTransmitData_drops q v s h⟩,
    uartTransmitCharacter_starts, uartTransmitComplete_ends,
    fun d par stop s h he hr => ⟨uartReceiveCharacter_pushes d par stop s h he hr,
      uartReceiveCharacter_loses d par stop s h he hr⟩,
    uartBreak_flags, uartReceiveTimeout_raises, uartReceiveDataRead_pops⟩

end Sys2Proof.Machine
end

section
/-!
PROOFS of the statement on the I²C interface (O55, R531 to R535), with the rule for a register that holds no field which
can be frozen.
-/

namespace Sys2Proof.Machine

/-! ### Registers without ONCE and LOCK fields (R8, R427) -/

/-- A word written to a register that holds no field which can be frozen acts on each field under its access code. -/
theorem State.writeReg_unlocked (s : State) (q : Who) {a : Nat} (v : Nat)
    (h : ∀ f ∈ regFields a, f.acc ≠ .once ∧ f.acc ≠ .lock) :
    s.writeReg q a v = (regFields a).foldl (fun s f => s.writeFld q v f) s := by
  have thawed : ∀ f ∈ regFields a, s.frozenTo f = false := fun f hf => by
    obtain ⟨ho, hl⟩ := h f hf
    unfold State.frozenTo
    split
    · next e => exact absurd e ho
    · next e => exact absurd e hl
    · rfl
  have lawful : s.violates v (regFields a) = false := by
    unfold State.violates
    split
    · simpa using fun f hf e => absurd e (by simp [thawed f hf])
    · simpa using thawed
  unfold State.writeReg
  simp only [lawful, Bool.false_eq_true, if_false]

theorem State.flag_set_apart (s : State) {f g : Fld} (h : f.apart g = true) (v : Nat) :
    (s.set f v).flag g = s.flag g := State.flag_congr (State.get_set_apart s h v)

/-! ### The levels and the requests follow (R535) -/

/-- The fields that follow the FIFOs of I2C0. -/
def i2cLevels : List Fld := [R.I2C0_STAT_TXLVL, R.I2C0_STAT_RXLVL]

/-- I2C0 with its levels brought up to its FIFOs, before its requests rise. -/
def State.i2cLeveled (s : State) : State :=
  (s.set R.I2C0_STAT_TXLVL s.i2c.tx.length).set R.I2C0_STAT_RXLVL s.i2c.rx.length

@[simp] theorem State.get_updI2c (s : State) (f : I2cSt → I2cSt) (g : Fld) : (s.updI2c f).get g = s.get g := rfl

@[simp] theorem State.flag_updI2c (s : State) (f : I2cSt → I2cSt) (g : Fld) : (s.updI2c f).flag g = s.flag g := rfl

@[simp] theorem State.updI2c_i2c (s : State) (f : I2cSt → I2cSt) : (s.updI2c f).i2c = f s.i2c := rfl

@[simp] theorem State.i2cSync_i2c (s : State) : s.i2cSync.i2c = { s.i2c with req := s.i2cLeveled.i2cReqs } := by
  change ({ (s.i2cLeveled.raiseNew s.i2cLeveled.i2c.req s.i2cLeveled.i2cReqs).i2c with
    req := s.i2cLeveled.i2cReqs } : I2cSt) = _
  rw [State.raiseNew_i2c]
  rfl

@[simp] theorem State.i2cSync_resp (s : State) : s.i2cSync.resp = s.resp := State.raiseNew_resp s.i2cLeveled _ _

theorem State.get_i2cSync (s : State) {f : Fld} (h : f.pd ≠ 6) (hf : f ∉ i2cLevels) : s.i2cSync.get f = s.get f := by
  have other : ∀ {g : Fld}, g ∈ i2cLevels → g ≠ f := by
    rintro g hg rfl
    exact hf hg
  refine (State.get_raiseNew_apart s.i2cLeveled _ _ h).trans ?_
  rw [State.i2cLeveled, State.get_set_ne _ (other (by decide)), State.get_set_ne _ (other (by decide))]

@[simp] theorem State.flag_i2cSync (s : State) {f : Fld} (h : f.pd ≠ 6) (hf : f ∉ i2cLevels) :
    s.i2cSync.flag f = s.flag f := State.flag_congr (s.get_i2cSync h hf)

/-! ### The fields of I2C0_XFER (R532) -/

theorem regFields_xfer : regFields 0x1900C =
    [R.I2C0_XFER_GO, R.I2C0_XFER_STOP, R.I2C0_XFER_LEN, R.I2C0_XFER_RW, R.I2C0_XFER_ADDR] := by decide

theorem State.writeReg_xfer (s : State) (q : Who) (v : Nat) : s.writeReg q 0x1900C v =
    ((((s.set R.I2C0_XFER_GO (presented v R.I2C0_XFER_GO)).set R.I2C0_XFER_STOP (presented v R.I2C0_XFER_STOP)).set
      R.I2C0_XFER_LEN (presented v R.I2C0_XFER_LEN)).set R.I2C0_XFER_RW (presented v R.I2C0_XFER_RW)).set
      R.I2C0_XFER_ADDR (presented v R.I2C0_XFER_ADDR) := by
  rw [State.writeReg_unlocked s q v (by rw [regFields_xfer]; decide), regFields_xfer]
  rfl

/-- The transfer that a GO describes (R532), before its START. -/
def State.xferTaken (s : State) (v : Nat) (q : Who) : State :=
  let s := (s.writeReg q 0x1900C v).set R.I2C0_XFER_GO 0
  let s := (s.set R.I2C0_STAT_CBUSY 1).set R.I2C0_STAT_XLEFT (s.get R.I2C0_XFER_LEN)
  s.updI2c fun i => { i with
    out := 2 * s.get R.I2C0_XFER_ADDR + s.get R.I2C0_XFER_RW, rd := s.flag R.I2C0_XFER_RW
    stp := s.flag R.I2C0_XFER_STOP, started := false, addressed := false, ending := false }

theorem State.xferTaken_i2c (s : State) (v : Nat) (q : Who) : (s.xferTaken v q).i2c =
    { s.i2c with
      out := 2 * (v % 128) + v / 2 ^ 7 % 2, rd := v.testBit 7, stp := v.testBit 16
      started := false, addressed := false, ending := false } := by
  simp (disch := with_unfolding_all exact of_decide_eq_true rfl) [State.xferTaken, State.writeReg_xfer,
    State.flag_set_apart, State.flag_set_presented]
  simp [presented, R.I2C0_XFER_ADDR, R.I2C0_XFER_RW, R.I2C0_XFER_STOP]

theorem State.get_xferTaken_cbusy (s : State) (v : Nat) (q : Who) : (s.xferTaken v q).get R.I2C0_STAT_CBUSY = 1 := by
  simp (disch := with_unfolding_all exact of_decide_eq_true rfl) [State.xferTaken]

theorem State.get_xferTaken_xleft (s : State) (v : Nat) (q : Who) :
    (s.xferTaken v q).get R.I2C0_STAT_XLEFT = v / 2 ^ 8 % 256 := by
  simp (disch := with_unfolding_all exact of_decide_eq_true rfl) [State.xferTaken, State.writeReg_xfer]
  simp [presented, R.I2C0_XFER_LEN, R.I2C0_STAT_XLEFT]

theorem State.flag_xferTaken_owned (s : State) (v : Nat) (q : Who) :
    (s.xferTaken v q).flag R.I2C0_STAT_OWNED = s.flag R.I2C0_STAT_OWNED := by
  simp (disch := with_unfolding_all exact of_decide_eq_true rfl) [State.xferTaken, State.writeReg_xfer, State.flag]

/-! ### START, STOP and the end of a transfer (R532) -/

/-- START goes out where the transfer waits and the bus is free or owned. -/
theorem State.i2cBegin_starts {s : State} (hc : s.flag R.I2C0_STAT_CBUSY = true) (hs : s.i2c.started = false)
    (hf : s.i2c.free = true ∨ s.flag R.I2C0_STAT_OWNED = true) :
    s.i2cBegin.i2c = { s.i2c with started := true, free := false } ∧ s.i2cBegin.flag R.I2C0_STAT_BUSBUSY = true := by
  rw [State.i2cBegin, if_pos (by simpa [hc, hs] using hf)]
  exact ⟨rfl, (State.flag_congr (State.get_set_apart _ rfl 0)).trans (State.flag_set_one s rfl)⟩

theorem State.i2cBegin_waits {s : State}
    (h : ¬ (s.flag R.I2C0_STAT_CBUSY = true ∧ s.i2c.started = false
      ∧ (s.i2c.free = true ∨ s.flag R.I2C0_STAT_OWNED = true))) : s.i2cBegin = s := by
  rw [State.i2cBegin, if_neg (by simpa [and_assoc] using h)]

theorem State.get_i2cBegin (s : State) {f : Fld} (hb : R.I2C0_STAT_BUSBUSY.apart f = true)
    (ho : R.I2C0_STAT_OWNED.apart f = true) : s.i2cBegin.get f = s.get f := by
  unfold State.i2cBegin
  split
  · exact (State.get_set_apart _ ho 0).trans (State.get_set_apart _ hb 1)
  · rfl

theorem State.flag_i2cEnd_cbusy (s : State) : s.i2cEnd.flag R.I2C0_STAT_CBUSY = false := State.flag_set_zero _ _

theorem State.flag_i2cEnd_done (s : State) : s.i2cEnd.flag R.I2C0_FLAG_DONE = true :=
  (State.flag_congr (State.get_set_apart _ rfl 0)).trans (State.flag_set_one s rfl)

theorem State.get_i2cRelease (s : State) {f : Fld} (hb : R.I2C0_STAT_BUSBUSY.apart f = true)
    (ho : R.I2C0_STAT_OWNED.apart f = true) : s.i2cRelease.get f = s.get f :=
  (State.get_set_apart _ ho 0).trans (State.get_set_apart _ hb 0)

theorem State.flag_i2cRelease_busbusy (s : State) : s.i2cRelease.flag R.I2C0_STAT_BUSBUSY = false :=
  (State.flag_congr (State.get_set_apart _ rfl 0)).trans (State.flag_set_zero s _)

theorem State.flag_i2cRelease_owned (s : State) : s.i2cRelease.flag R.I2C0_STAT_OWNED = false := State.flag_set_zero _ _

/-! ### The controller (R532, R533) -/

theorem i2cTransferStart_starts (q : Who) (v : Word) (s : State) (h : s.on 10 = true) (hv : v.toNat.testBit 31 = true)
    (he : s.flag R.I2C0_CTRL_CTLEN = true) (hc : s.flag R.I2C0_STAT_CBUSY = false) :
    ∃ t, exec (.i2cTransferStart q v) s = .next t ∧ t.flag R.I2C0_STAT_CBUSY = true
      ∧ t.get R.I2C0_STAT_XLEFT = v.toNat / 2 ^ 8 % 256 ∧ t.i2c.rd = v.toNat.testBit 7
      ∧ t.i2c.stp = v.toNat.testBit 16 ∧ t.i2c.out = 2 * (v.toNat % 128) + v.toNat / 2 ^ 7 % 2
      ∧ (t.i2c.started = true ↔ s.i2c.free = true ∨ s.flag R.I2C0_STAT_OWNED = true)
      ∧ (t.i2c.started = true → t.flag R.I2C0_STAT_BUSBUSY = true) := by
  let u := (s.reply q.req .ok 0).xferTaken v.toNat q
  have hui : u.i2c = _ := State.xferTaken_i2c ..
  have huc : u.flag R.I2C0_STAT_CBUSY = true := by rw [State.flag, State.get_xferTaken_cbusy]; rfl
  have huo : u.flag R.I2C0_STAT_OWNED = s.flag R.I2C0_STAT_OWNED := State.flag_xferTaken_owned ..
  have hn : exec (.i2cTransferStart q v) s = .next u.i2cBegin.i2cSync := by
    refine (State.via_next h).trans (congrArg _ ?_)
    rw [State.writeXfer, if_neg (by simp [hv]), if_neg (by simp [he, hc])]
    rfl
  have hb : u.i2cBegin.get R.I2C0_STAT_CBUSY = _ := State.get_i2cBegin u rfl rfl
  have hx : u.i2cBegin.get R.I2C0_STAT_XLEFT = _ := State.get_i2cBegin u rfl rfl
  refine ⟨_, hn, ?_, ?_, ?_⟩
  · rw [State.flag_i2cSync _ (by decide) (by decide), State.flag_congr hb, huc]
  · rw [State.get_i2cSync _ (by decide) (by decide), hx]
    exact State.get_xferTaken_xleft ..
  · rw [State.flag_i2cSync _ (by decide) (by decide), State.i2cSync_i2c]
    by_cases hf : s.i2c.free = true ∨ s.flag R.I2C0_STAT_OWNED = true
    · obtain ⟨hi, hbb⟩ := State.i2cBegin_starts huc (by rw [hui]) (by rw [hui, huo]; exact hf)
      rw [hi, hui]
      exact ⟨rfl, rfl, rfl, by simpa using hf, fun _ => hbb⟩
    · rw [State.i2cBegin_waits (by rw [hui, huo]; exact fun hw => hf hw.2.2), hui]
      exact ⟨rfl, rfl, rfl, by simpa using hf, fun hw => absurd hw (by simp)⟩

theorem i2cTransferStart_ignored (q : Who) (v : Word) (s : State) (h : s.on 10 = true) (hv : v.toNat.testBit 31 = true)
    (hx : s.flag R.I2C0_CTRL_CTLEN = false ∨ s.flag R.I2C0_STAT_CBUSY = true) :
    ∃ t, exec (.i2cTransferStart q v) s = .next t ∧ t.flag R.I2C0_FLAG_XERR = true ∧ t.i2c = s.i2c
      ∧ RegsOnly (fun f => f = R.I2C0_FLAG_XERR) s t := by
  refine ⟨(s.reply q.req .ok 0).set R.I2C0_FLAG_XERR 1, (State.via_next h).trans (congrArg _ ?_),
    State.flag_set_one _ rfl, rfl, fun f hf => State.get_set_ne _ (Ne.symm hf) 1⟩
  rw [State.writeXfer, if_neg (by simp [hv]), if_pos (by simpa using hx)]

theorem State.flag_i2cNack (s : State) : s.i2cNack.flag R.I2C0_FLAG_NACK = true := State.flag_set_one s rfl

/-- A byte that is not acknowledged ends the transfer with STOP. -/
theorem State.i2cNack_unless {s u : State} {ack : Bool} (h : u = if ack then s else s.i2cNack) (hk : ack = false) :
    u.i2cSync.i2c.ending = true ∧ u.i2cSync.i2c.stp = true ∧ u.i2cSync.flag R.I2C0_FLAG_NACK = true := by
  subst h hk
  rw [State.i2cSync_i2c, State.flag_i2cSync _ (by decide) (by decide)]
  exact ⟨rfl, rfl, s.flag_i2cNack⟩

/-- The byte of a transfer that has started and is not at its end. -/
theorem State.i2cByte_running {s : State} (hc : s.flag R.I2C0_STAT_CBUSY = true) (hs : s.i2c.started = true)
    (he : s.i2c.ending = false) : ¬ ((!s.flag R.I2C0_STAT_CBUSY || !s.i2c.started || s.i2c.ending) = true) := by
  simp [hc, hs, he]

theorem i2cControllerByte_address (ack : Bool) (d : BitVec 8) (s : State) (hc : s.flag R.I2C0_STAT_CBUSY = true)
    (hs : s.i2c.started = true) (he : s.i2c.ending = false) (ha : s.i2c.addressed = false) :
    ∃ t, exec (.i2cControllerByte ack d) s = .next t ∧ t.i2c.addressed = true
      ∧ (ack = false → t.i2c.ending = true ∧ t.i2c.stp = true ∧ t.flag R.I2C0_FLAG_NACK = true) := by
  let u := s.updI2c fun i => { i with addressed := true }
  have hb : s.i2cByte ack d.toNat = if ack then u else u.i2cNack := by
    rw [State.i2cByte, if_neg (State.i2cByte_running hc hs he), if_pos (by simp [ha])]
  refine ⟨_, rfl, ?_, State.i2cNack_unless hb⟩
  rw [State.i2cSync_i2c, hb]
  cases ack <;> rfl

theorem i2cControllerByte_receives (ack : Bool) (d : BitVec 8) (s : State) (hc : s.flag R.I2C0_STAT_CBUSY = true)
    (hs : s.i2c.started = true) (he : s.i2c.ending = false) (ha : s.i2c.addressed = true) (hr : s.i2c.rd = true)
    (h0 : 0 < s.get R.I2C0_STAT_XLEFT) (hx : s.get R.I2C0_STAT_XLEFT < 256) (hl : s.i2c.rx.length < 16) :
    ∃ t, exec (.i2cControllerByte ack d) s = .next t ∧ t.i2c.rx = s.i2c.rx ++ [(d.toNat, false)]
      ∧ t.get R.I2C0_STAT_XLEFT = s.get R.I2C0_STAT_XLEFT - 1 := by
  have hb : s.i2cByte ack d.toNat = (s.set R.I2C0_STAT_XLEFT (s.get R.I2C0_STAT_XLEFT - 1)).updI2c fun i =>
      { i with rx := i.rx ++ [(d.toNat, false)] } := by
    rw [State.i2cByte, if_neg (State.i2cByte_running hc hs he), if_neg (by simp [ha]), if_neg (by omega), if_pos hr,
      if_neg (by omega)]
  refine ⟨_, rfl, by rw [State.i2cSync_i2c, hb]; rfl, ?_⟩
  rw [State.get_i2cSync _ (by decide) (by decide), hb]
  exact State.get_set_of_lt s (f := R.I2C0_STAT_XLEFT) (show _ < 256 by omega)

theorem i2cControllerByte_sends (ack : Bool) (d : BitVec 8) (s : State) (hc : s.flag R.I2C0_STAT_CBUSY = true)
    (hs : s.i2c.started = true) (he : s.i2c.ending = false) (b : Nat) (r : List Nat) (ha : s.i2c.addressed = true)
    (hr : s.i2c.rd = false) (h0 : 0 < s.get R.I2C0_STAT_XLEFT) (hx : s.get R.I2C0_STAT_XLEFT < 256)
    (ht : s.i2c.tx = b :: r) :
    ∃ t, exec (.i2cControllerByte ack d) s = .next t ∧ t.i2c.tx = r
      ∧ t.get R.I2C0_STAT_XLEFT = s.get R.I2C0_STAT_XLEFT - 1
      ∧ (ack = false → t.i2c.ending = true ∧ t.i2c.stp = true ∧ t.flag R.I2C0_FLAG_NACK = true) := by
  let u := (s.set R.I2C0_STAT_XLEFT (s.get R.I2C0_STAT_XLEFT - 1)).updI2c fun i => { i with tx := r }
  have hb : s.i2cByte ack d.toNat = if ack then u else u.i2cNack := by
    rw [State.i2cByte, if_neg (State.i2cByte_running hc hs he), if_neg (by simp [ha]), if_neg (by omega),
      if_neg (by simp [hr]), ht]
  have hu : u.get R.I2C0_STAT_XLEFT = s.get R.I2C0_STAT_XLEFT - 1 :=
    State.get_set_of_lt s (f := R.I2C0_STAT_XLEFT) (show _ < 256 by omega)
  refine ⟨_, rfl, ?_, ?_, State.i2cNack_unless hb⟩
  · rw [State.i2cSync_i2c, hb]
    cases ack <;> rfl
  · rw [State.get_i2cSync _ (by decide) (by decide), hb, ← hu]
    cases ack
    · exact State.get_set_apart u rfl 1
    · rfl

theorem i2cTransferComplete_ends (s : State) (hc : s.flag R.I2C0_STAT_CBUSY = true) (ha : s.i2c.addressed = true)
    (he : s.i2c.ending = true ∨ s.get R.I2C0_STAT_XLEFT = 0) :
    ∃ t, exec .i2cTransferComplete s = .next t ∧ t.flag R.I2C0_STAT_CBUSY = false ∧ t.flag R.I2C0_FLAG_DONE = true
      ∧ (s.i2c.stp = true → t.flag R.I2C0_STAT_BUSBUSY = false ∧ t.flag R.I2C0_STAT_OWNED = false ∧ t.i2c.free = true)
      ∧ (s.i2c.stp = false → t.flag R.I2C0_STAT_OWNED = true) := by
  refine ⟨_, congrArg Host.Outcome.next (if_pos (by simpa [hc, ha] using he)), ?_, ?_, fun hp => ?_, fun hp => ?_⟩
  · rw [State.flag_i2cSync _ (by decide) (by decide), ← s.flag_i2cEnd_cbusy]
    split
    · exact State.flag_congr (State.get_i2cRelease _ rfl rfl)
    · exact State.flag_set_apart _ rfl 1
  · rw [State.flag_i2cSync _ (by decide) (by decide), ← s.flag_i2cEnd_done]
    split
    · exact State.flag_congr (State.get_i2cRelease _ rfl rfl)
    · exact State.flag_set_apart _ rfl 1
  · rw [State.flag_i2cSync _ (by decide) (by decide), State.flag_i2cSync _ (by decide) (by decide), State.i2cSync_i2c,
      if_pos hp]
    exact ⟨State.flag_i2cRelease_busbusy _, State.flag_i2cRelease_owned _, rfl⟩
  · rw [State.flag_i2cSync _ (by decide) (by decide), if_neg (by simp [hp])]
    exact State.flag_set_one _ rfl

theorem i2cArbitrationLost_ends (s : State) (hc : s.flag R.I2C0_STAT_CBUSY = true) (hs : s.i2c.started = true) :
    ∃ t, exec .i2cArbitrationLost s = .next t ∧ t.flag R.I2C0_FLAG_ARBLOST = true ∧ t.flag R.I2C0_FLAG_DONE = true
      ∧ t.flag R.I2C0_STAT_CBUSY = false ∧ t.i2c.started = false := by
  refine ⟨_, congrArg Host.Outcome.next (if_pos (by simp [hc, hs])), ?_, ?_, ?_, by rw [State.i2cSync_i2c]; rfl⟩
  · rw [State.flag_i2cSync _ (by decide) (by decide), State.flag_set_one _ rfl]
  · rw [State.flag_i2cSync _ (by decide) (by decide), State.flag_set_apart _ rfl, State.flag_i2cEnd_done]
  · rw [State.flag_i2cSync _ (by decide) (by decide), State.flag_set_apart _ rfl, State.flag_i2cEnd_cbusy]

theorem regFields_i2cCtrl : regFields 0x19000 = [R.I2C0_CTRL_CTLEN, R.I2C0_CTRL_TGTEN, R.I2C0_CTRL_SPEED] := by decide

theorem State.writeReg_i2cCtrl (s : State) (q : Who) (v : Nat) : s.writeReg q 0x19000 v =
    ((s.set R.I2C0_CTRL_CTLEN (presented v R.I2C0_CTRL_CTLEN)).set R.I2C0_CTRL_TGTEN (presented v R.I2C0_CTRL_TGTEN)).set
      R.I2C0_CTRL_SPEED (presented v R.I2C0_CTRL_SPEED) := by
  rw [State.writeReg_rw s q v (by rw [regFields_i2cCtrl]; decide), regFields_i2cCtrl]
  rfl

theorem i2cControllerDisable_ends (q : Who) (v : Word) (s : State) (h : s.on 10 = true)
    (hv : v.toNat.testBit 31 = false) (hc : s.flag R.I2C0_STAT_CBUSY = true) :
    ∃ t, exec (.i2cControllerDisable q v) s = .next t ∧ t.flag R.I2C0_CTRL_CTLEN = false
      ∧ t.flag R.I2C0_STAT_CBUSY = false ∧ t.flag R.I2C0_FLAG_DONE = true
      ∧ (s.i2c.started = true → t.flag R.I2C0_STAT_BUSBUSY = false ∧ t.i2c.free = true) := by
  let u := (s.reply q.req .ok 0).writeReg q 0x19000 v.toNat
  have hue : u.flag R.I2C0_CTRL_CTLEN = false := by
    simp only [u, State.writeReg_i2cCtrl]
    rw [State.flag_set_apart _ rfl, State.flag_set_apart _ rfl, State.flag_set_presented _ rfl]
    exact hv
  have huc : u.flag R.I2C0_STAT_CBUSY = true := by
    simp only [u, State.writeReg_i2cCtrl]
    rw [State.flag_set_apart _ rfl, State.flag_set_apart _ rfl, State.flag_set_apart _ rfl]
    exact hc
  have hui : u.i2c = s.i2c := by
    simp only [u, State.writeReg_i2cCtrl]
    rfl
  have hx : exec (.i2cControllerDisable q v) s =
      .next (if u.i2cOwns then u.i2cEnd.i2cRelease else u.i2cEnd).i2cSync := by
    refine (State.via_next h).trans (congrArg _ ?_)
    simp only [State.writeI2cCtrl, hue, huc, u, Bool.false_eq_true, if_false, if_true]
  clear_value u
  have hend : u.i2cEnd.flag R.I2C0_CTRL_CTLEN = u.flag R.I2C0_CTRL_CTLEN :=
    State.flag_congr ((State.get_set_apart _ rfl 0).trans (State.get_set_apart u rfl 1))
  have later {f : Fld} (hb : R.I2C0_STAT_BUSBUSY.apart f = true) (ho : R.I2C0_STAT_OWNED.apart f = true) :
      (if u.i2cOwns then u.i2cEnd.i2cRelease else u.i2cEnd).flag f = u.i2cEnd.flag f := by
    split
    · exact State.flag_congr (State.get_i2cRelease _ hb ho)
    · rfl
  refine ⟨_, hx, ?_, ?_, ?_, fun hs => ?_⟩
  · rw [State.flag_i2cSync _ (by decide) (by decide), later rfl rfl, hend, hue]
  · rw [State.flag_i2cSync _ (by decide) (by decide), later rfl rfl, State.flag_i2cEnd_cbusy]
  · rw [State.flag_i2cSync _ (by decide) (by decide), later rfl rfl, State.flag_i2cEnd_done]
  · rw [State.flag_i2cSync _ (by decide) (by decide), State.i2cSync_i2c,
      if_pos (by simp [State.i2cOwns, huc, hui, hs])]
    exact ⟨State.flag_i2cRelease_busbusy _, rfl⟩

theorem i2cBusFree_starts (s : State) (h : s.on 10 = true) (he : s.flag R.I2C0_CTRL_CTLEN = true)
    (hc : s.flag R.I2C0_STAT_CBUSY = true) (hs : s.i2c.started = false) :
    ∃ t, exec .i2cBusFree s = .next t ∧ t.i2c.started = true ∧ t.i2c.free = false
      ∧ t.flag R.I2C0_STAT_BUSBUSY = true := by
  obtain ⟨hi, hb⟩ := State.i2cBegin_starts (s := s.updI2c fun i => { i with free := true }) hc hs (.inl rfl)
  refine ⟨_, congrArg Host.Outcome.next (if_pos (by simp [h, he])), ?_, ?_, ?_⟩
  · rw [State.i2cSync_i2c, hi]
  · rw [State.i2cSync_i2c, hi]
  · rw [State.flag_i2cSync _ (by decide) (by decide), hb]

theorem i2cStartCondition_marks (s : State) (h : s.on 10 = true) :
    ∃ t, exec .i2cStartCondition s = .next t ∧ t.get R.I2C0_STAT_BUSBUSY = 1 ∧ t.i2c = { s.i2c with free := false }
      ∧ OnlyIn [.i2c, .pd 10] s t ∧ RegsOnly (fun f => f = R.I2C0_STAT_BUSBUSY) s t := by
  have hx : exec .i2cStartCondition s =
      .next ((s.set R.I2C0_STAT_BUSBUSY 1).updI2c fun i => { i with free := false }) :=
    congrArg Host.Outcome.next (if_pos h)
  obtain ⟨u, hu, hm⟩ := exec_moves .i2cStartCondition s
  obtain rfl := Host.Outcome.next.inj (hx.symm.trans hu)
  exact ⟨_, hx, State.get_set s _ 1, rfl, hm.onlyIn _ (by decide), RegsOnly.of_set s _ 1⟩

/-! ### The target (R531, R534) -/

theorem i2cTargetAddressed_answers (a : BitVec 7) (rd : Bool) (s : State) (h : s.on 10 = true)
    (hm : s.i2cMatches a.toNat = true) :
    ∃ t, exec (.i2cTargetAddressed a rd) s = .next t ∧ t.flag R.I2C0_STAT_TADDRM = true
      ∧ t.flag R.I2C0_FLAG_ADDRD = true ∧ t.flag R.I2C0_STAT_TDIR = rd ∧ t.i2c.first = true := by
  refine ⟨_, congrArg Host.Outcome.next (if_pos (by simp [h, hm])), ?_, ?_, ?_, by rw [State.i2cSync_i2c]; rfl⟩
  · rw [State.flag_i2cSync _ (by decide) (by decide), State.flag_updI2c, State.flag_congr (State.get_setB_apart _ rfl rd),
      State.flag_set_apart _ rfl, State.flag_set_one _ rfl]
  · rw [State.flag_i2cSync _ (by decide) (by decide), State.flag_updI2c, State.flag_congr (State.get_setB_apart _ rfl rd),
      State.flag_set_one _ rfl]
  · rw [State.flag_i2cSync _ (by decide) (by decide), State.flag_updI2c, State.flag_setB _ rfl]

theorem i2cTargetAddressed_other (a : BitVec 7) (rd : Bool) (s : State) (ha : a.toNat ≠ s.get R.I2C0_TADDR) :
    exec (.i2cTargetAddressed a rd) s = .next s :=
  congrArg Host.Outcome.next (if_neg (by simp [State.i2cMatches, ha]))

/-- The byte of an addressed target that has not fallen silent. -/
theorem State.targetByte_addressed {s : State} (hm : s.flag R.I2C0_STAT_TADDRM = true) (hs : s.i2c.silent = false) :
    ¬ ((!s.flag R.I2C0_STAT_TADDRM || s.i2c.silent) = true) := by
  simp [hm, hs]

theorem i2cTargetByte_receives (ack : Bool) (d : BitVec 8) (s : State) (hm : s.flag R.I2C0_STAT_TADDRM = true)
    (hs : s.i2c.silent = false) (hd : s.flag R.I2C0_STAT_TDIR = false) (hl : s.i2c.rx.length < 16) :
    ∃ t, exec (.i2cTargetByte ack d) s = .next t ∧ t.i2c.rx = s.i2c.rx ++ [(d.toNat, s.i2c.first)]
      ∧ t.i2c.first = false := by
  have hb : s.targetByte ack d.toNat = s.updI2c fun i => { i with rx := i.rx ++ [(d.toNat, s.i2c.first)], first := false } := by
    rw [State.targetByte, if_neg (State.targetByte_addressed hm hs), if_neg (by simp [hd]), if_neg (by omega)]
    rfl
  refine ⟨_, rfl, ?_, ?_⟩ <;> rw [State.i2cSync_i2c, hb] <;> rfl

theorem i2cTargetByte_sends (ack : Bool) (d : BitVec 8) (s : State) (hm : s.flag R.I2C0_STAT_TADDRM = true)
    (hs : s.i2c.silent = false) (b : Nat) (r : List Nat) (hd : s.flag R.I2C0_STAT_TDIR = true) (ht : s.i2c.tx = b :: r) :
    ∃ t, exec (.i2cTargetByte ack d) s = .next t ∧ t.i2c.tx = r ∧ t.i2c.silent = !ack := by
  have hb : s.targetByte ack d.toNat = s.updI2c fun i => { i with tx := r, silent := !ack } := by
    rw [State.targetByte, if_neg (State.targetByte_addressed hm hs), if_pos hd, ht]
  refine ⟨_, rfl, ?_, ?_⟩ <;> rw [State.i2cSync_i2c, hb] <;> rfl

/-- A STOP ends an address match, whatever comes after it. -/
theorem i2cStop_unmatches (again : Bool) (s : State) (h : s.on 10 = true) (hm : s.flag R.I2C0_STAT_TADDRM = true) :
    ∃ t, exec (.i2cStop again) s = .next t ∧ t.flag R.I2C0_STAT_TADDRM = false ∧ t.flag R.I2C0_FLAG_TSTOP = true := by
  let u := (s.set R.I2C0_STAT_TADDRM 0).set R.I2C0_FLAG_TSTOP 1
  have later {f : Fld} (hb : R.I2C0_STAT_BUSBUSY.apart f = true) (ho : R.I2C0_STAT_OWNED.apart f = true) :
      (s.i2cStopped again).flag f = u.flag f := by
    simp only [State.i2cStopped, hm, if_true]
    split
    · rfl
    · exact State.flag_congr ((State.get_i2cBegin _ hb ho).trans (State.get_set_apart u hb 0))
  refine ⟨_, congrArg Host.Outcome.next (if_pos h), ?_, ?_⟩
  · rw [State.flag_i2cSync _ (by decide) (by decide), later rfl rfl, State.flag_set_apart _ rfl,
      State.flag_set_zero]
  · rw [State.flag_i2cSync _ (by decide) (by decide), later rfl rfl, State.flag_set_one _ rfl]

theorem i2cStop_frees (s : State) (h : s.on 10 = true) (hc : s.flag R.I2C0_STAT_CBUSY = false) :
    ∃ t, exec (.i2cStop false) s = .next t ∧ t.flag R.I2C0_STAT_BUSBUSY = false ∧ t.i2c.free = true := by
  let u := if s.flag R.I2C0_STAT_TADDRM then (s.set R.I2C0_STAT_TADDRM 0).set R.I2C0_FLAG_TSTOP 1 else s
  let w := (u.set R.I2C0_STAT_BUSBUSY 0).updI2c fun i => { i with free := true }
  have hwc : w.flag R.I2C0_STAT_CBUSY = false := by
    rw [← hc]
    refine (State.flag_set_apart u rfl 0).trans ?_
    simp only [u]
    split
    · exact (State.flag_set_apart _ rfl 1).trans (State.flag_set_apart s rfl 0)
    · rfl
  have hx : exec (.i2cStop false) s = .next w.i2cSync := by
    refine (congrArg Host.Outcome.next (if_pos h)).trans (congrArg (fun x : State => Host.Outcome.next x.i2cSync) ?_)
    exact State.i2cBegin_waits (s := w) (fun hb => by simp [hwc] at hb)
  refine ⟨_, hx, ?_, by rw [State.i2cSync_i2c]; rfl⟩
  rw [State.flag_i2cSync _ (by decide) (by decide), State.flag_updI2c, State.flag_set_zero]

theorem i2cStretchLimit_underrun (s : State) (hm : s.flag R.I2C0_STAT_TADDRM = true) (hs : s.i2c.silent = false)
    (hd : s.flag R.I2C0_STAT_TDIR = true) (ht : s.i2c.tx = []) :
    ∃ t, exec .i2cStretchLimit s = .next t ∧ t.flag R.I2C0_FLAG_TXUND = true := by
  have hb : s.stretchEnd = s.set R.I2C0_FLAG_TXUND 1 := by
    rw [State.stretchEnd, if_neg (State.targetByte_addressed hm hs), if_pos hd, if_pos (by simp [ht])]
  refine ⟨_, rfl, ?_⟩
  rw [State.flag_i2cSync _ (by decide) (by decide), hb, State.flag_set_one _ rfl]

theorem i2cStretchLimit_overrun (s : State) (hm : s.flag R.I2C0_STAT_TADDRM = true) (hs : s.i2c.silent = false)
    (hd : s.flag R.I2C0_STAT_TDIR = false) (hl : 16 ≤ s.i2c.rx.length) :
    ∃ t, exec .i2cStretchLimit s = .next t ∧ t.flag R.I2C0_FLAG_RXOVR = true ∧ t.i2c.rx = s.i2c.rx := by
  have hb : s.stretchEnd = s.set R.I2C0_FLAG_RXOVR 1 := by
    rw [State.stretchEnd, if_neg (State.targetByte_addressed hm hs), if_neg (by simp [hd]), if_pos hl]
  refine ⟨_, rfl, ?_, by rw [State.i2cSync_i2c, hb]; rfl⟩
  rw [State.flag_i2cSync _ (by decide) (by decide), hb, State.flag_set_one _ rfl]

theorem i2cTransmitData_takes (q : Who) (v : Word) (s : State) (h : s.on 10 = true) (hl : s.i2c.tx.length < 16) :
    ∃ t, exec (.i2cTransmitData q v) s = .next t ∧ t.i2c.tx = s.i2c.tx ++ [v.toNat % 256] := by
  refine ⟨_, State.via_next h, ?_⟩
  rw [State.writeI2cTx, if_neg (by simpa using hl), State.i2cSync_i2c]
  rfl

theorem i2cTransmitData_drops (q : Who) (v : Word) (s : State) (h : s.on 10 = true) (hl : 16 ≤ s.i2c.tx.length) :
    ∃ t, exec (.i2cTransmitData q v) s = .next t ∧ t.i2c.tx = s.i2c.tx ∧ t.flag R.I2C0_FLAG_TXOVR = true := by
  refine ⟨_, State.via_next h, ?_⟩
  rw [State.writeI2cTx, if_pos (by simpa using hl), State.i2cSync_i2c, State.flag_i2cSync _ (by decide) (by decide),
    State.flag_set_one _ rfl]
  exact ⟨rfl, rfl⟩

theorem i2cReceiveDataRead_pops (q : Who) (s : State) (h : s.on 10 = true) :
    ∃ t, exec (.i2cReceiveDataRead q) s = .next t ∧ t.i2c.rx = s.i2c.rx.tail
      ∧ t.resp.at (reqIdx q.req) = { code := .ok, data := s.i2cHead } := by
  refine ⟨_, State.via_next h, ?_, ?_⟩
  · rw [State.readI2cRx, State.i2cSync_i2c]
    rfl
  · rw [State.readI2cRx, State.i2cSync_resp]
    exact State.resp_reply _ q.req .ok s.i2cHead

/-- Settles O55: each row of I2C0, with the levels and requests that follow it. -/
theorem i2cTransfers : Obligations.I2cTransfers := by
  unfold Obligations.I2cTransfers
  exact ⟨fun q v s h hv => ⟨i2cTransferStart_starts q v s h hv, i2cTransferStart_ignored q v s h hv⟩,
    fun ack d s hc hs he => ⟨i2cControllerByte_address ack d s hc hs he, i2cControllerByte_receives ack d s hc hs he,
      i2cControllerByte_sends ack d s hc hs he⟩,
    i2cTransferComplete_ends, i2cArbitrationLost_ends, i2cControllerDisable_ends, i2cBusFree_starts,
    i2cStartCondition_marks,
    fun a rd s h => ⟨i2cTargetAddressed_answers a rd s h, i2cTargetAddressed_other a rd s⟩,
    fun ack d s hm hs => ⟨i2cTargetByte_receives ack d s hm hs, i2cTargetByte_sends ack d s hm hs⟩,
    i2cStop_unmatches, i2cStop_frees,
    fun s hm hs => ⟨i2cStretchLimit_underrun s hm hs, i2cStretchLimit_overrun s hm hs⟩,
    fun q v s h => ⟨i2cTransmitData_takes q v s h, i2cTransmitData_drops q v s h⟩, i2cReceiveDataRead_pops⟩

end Sys2Proof.Machine
end

section
/-!
PROOFS of the statement on the GPIO balls (O53, R522 to R526, R546).
-/

namespace Sys2Proof.Machine

/-- A bit of a field after a write of the field. -/
theorem State.bit_set (s : State) (f : Fld) (v i : Nat) : (s.set f v).bit f i = (decide (i < f.w) && v.testBit i) := by
  rw [State.bit, State.get_set, Nat.testBit_mod_two_pow]

/-- A bit of a field stays set when another is set. -/
theorem State.bit_setBit_of_bit {s : State} {f : Fld} {i : Nat} (hi : i < f.w) (h : s.bit f i = true) (j : Nat) :
    (s.setBit f j).bit f i = true := by
  rw [State.setBit, State.bit_set, Nat.testBit_or, show (s.get f).testBit i = true from h]
  simp [hi]

theorem State.bit_congr {s t : State} {f : Fld} (h : t.get f = s.get f) (i : Nat) : t.bit f i = s.bit f i := by
  rw [State.bit, State.bit, h]

/-! ### Input events (R525) -/

/-- The event of ball `n`, where its level has changed to an edge that IRQEDGE selects. -/
def State.gpioEvent (old lv : Nat) (s : State) (n : Nat) : State :=
  if old.testBit n != lv.testBit n && irqSelects (s.get (R.GPIO_MUX_IRQEDGE n)) (lv.testBit n) then
    (s.setBit R.GPIO_EVT n).raise (170 + n)
  else s

section
variable (old lv : Nat)

theorem State.get_gpioEvent (s : State) (n : Nat) {f : Fld} (h : f.pd ≠ 6) (hf : R.GPIO_EVT.apart f = true) :
    (s.gpioEvent old lv n).get f = s.get f := by
  unfold State.gpioEvent
  split
  · rw [State.get_raise_apart _ _ h, State.get_setBit_apart s hf]
  · rfl

theorem State.get_gpioEvents (l : List Nat) (s : State) {f : Fld} (h : f.pd ≠ 6) (hf : R.GPIO_EVT.apart f = true) :
    (l.foldl (State.gpioEvent old lv) s).get f = s.get f := by
  induction l generalizing s with
  | nil => rfl
  | cons n l ih => exact (ih _).trans (State.get_gpioEvent old lv s n h hf)

/-- An event bit and its source's PEND, once set, stay set through the events of the other balls. -/
theorem State.gpioEvent_keeps (s : State) (m : Nat) {n : Nat} (hn : n < 16)
    (h : s.bit R.GPIO_EVT n = true ∧ s.flag (R.ICU_STS_PEND (170 + n)) = true) :
    (s.gpioEvent old lv m).bit R.GPIO_EVT n = true
      ∧ (s.gpioEvent old lv m).flag (R.ICU_STS_PEND (170 + n)) = true := by
  obtain ⟨he, hp⟩ := h
  unfold State.gpioEvent
  split
  · refine ⟨?_, State.pend_raise _ ((State.flag_congr (State.get_setBit_apart s rfl m)).trans hp)⟩
    rw [State.bit_congr (State.get_raise_apart _ _ (by decide))]
    exact State.bit_setBit_of_bit (f := R.GPIO_EVT) hn he m
  · exact ⟨he, hp⟩

theorem State.gpioEvents_keep {n : Nat} (hn : n < 16) : ∀ (l : List Nat) (s : State),
    (s.bit R.GPIO_EVT n = true ∧ s.flag (R.ICU_STS_PEND (170 + n)) = true) →
    (l.foldl (State.gpioEvent old lv) s).bit R.GPIO_EVT n = true
      ∧ (l.foldl (State.gpioEvent old lv) s).flag (R.ICU_STS_PEND (170 + n)) = true := by
  intro l
  induction l with
  | nil => exact fun _ => id
  | cons m l ih => exact fun s h => ih _ (State.gpioEvent_keeps old lv s m hn h)

theorem State.gpioEvents_mark {n : Nat} (hn : n < 16) (hc : old.testBit n ≠ lv.testBit n) :
    ∀ (l : List Nat) (s : State), n ∈ l → s.on 6 = true →
      irqSelects (s.get (R.GPIO_MUX_IRQEDGE n)) (lv.testBit n) = true →
      (l.foldl (State.gpioEvent old lv) s).bit R.GPIO_EVT n = true
        ∧ (l.foldl (State.gpioEvent old lv) s).flag (R.ICU_STS_PEND (170 + n)) = true := by
  intro l
  induction l with
  | nil => exact fun _ h => absurd h List.not_mem_nil
  | cons m l ih =>
    intro s hm h6 he
    rcases List.mem_cons.mp hm with rfl | hm
    · refine State.gpioEvents_keep old lv hn l _ ?_
      rw [State.gpioEvent, if_pos (by simp [he, hc])]
      refine ⟨?_, ?_⟩
      · rw [State.bit, State.get_raise_apart _ _ (by decide)]
        exact State.bit_setBit s (f := R.GPIO_EVT) hn
      · rw [State.flag, State.get_raise_pend _ (by omega) (by omega) (by omega)
          ((State.on_congr (State.get_setBit_apart s rfl n)).trans h6)]
        rfl
    · refine ih _ hm ?_ ?_
      · rw [State.on_congr (State.get_gpioEvent old lv s m (by decide) rfl), h6]
      · rw [State.get_gpioEvent old lv s m (of_decide_eq_true rfl) rfl, he]

end

/-- The balls show their levels and their events, before the decoder takes them. -/
def State.gpioSeen (s : State) (lv : Nat) : State :=
  (List.range 16).foldl (State.gpioEvent (s.get R.GPIO_IN) lv) (s.set R.GPIO_IN lv)

theorem State.gpioIn_eq (s : State) (lv : Nat) : s.gpioIn lv = (s.gpioSeen lv).decode (s.get R.GPIO_IN) lv := rfl

theorem State.get_gpioSeen (s : State) (lv : Nat) {f : Fld} (h : f.pd ≠ 6) (hf : R.GPIO_EVT.apart f = true)
    (hi : R.GPIO_IN.apart f = true) : (s.gpioSeen lv).get f = s.get f :=
  (State.get_gpioEvents _ lv _ _ h hf).trans (State.get_set_apart s hi lv)

theorem State.encRuns_congr {s t : State} (he : t.get R.GPIO_ENCCFG_EN = s.get R.GPIO_ENCCFG_EN)
    (hf : ∀ n, t.get (R.GPIO_MUX_FUNC n) = s.get (R.GPIO_MUX_FUNC n)) : t.encRuns = s.encRuns := by
  simp only [State.encRuns, State.flag, State.gpioFunc, he, hf]
  rfl

theorem State.encRuns_gpioSeen (s : State) (lv : Nat) : (s.gpioSeen lv).encRuns = s.encRuns :=
  State.encRuns_congr (s.get_gpioSeen lv (by decide) rfl rfl) fun _ => s.get_gpioSeen lv (of_decide_eq_true rfl) rfl rfl

theorem State.encStep_gpioSeen (s : State) (lv old new : Nat) : (s.gpioSeen lv).encStep old new = s.encStep old new := by
  simp only [State.encStep, State.flag_congr (s.get_gpioSeen lv (f := R.GPIO_ENCCFG_REV) (by decide) rfl rfl)]

/-- The fields that the decoder changes (R526). -/
def encFields : List Fld := [R.GPIO_ENCSTAT_HALL, R.GPIO_ENCSTAT_HALLERR, R.GPIO_ENCSTAT_QERR, R.GPIO_ENCCNT]

theorem State.get_decode (s : State) (old new : Nat) {f : Fld} (hf : f ∉ encFields) :
    (s.decode old new).get f = s.get f := by
  have other : ∀ {g : Fld}, g ∈ encFields → g ≠ f := by
    rintro g hg rfl
    exact hf hg
  unfold State.decode
  split_ifs
  · rfl
  · dsimp only
    split
    · rw [State.get_set_ne _ (other (by decide)), State.get_set_ne _ (other (by decide))]
    · rw [State.get_set_ne _ (other (by decide))]
  · dsimp only
    rw [State.get_set_ne _ (other (by decide))]
    split
    · rw [State.get_set_ne _ (other (by decide))]
    · rfl

theorem State.get_decode_count (s : State) (old new : Nat) (hr : s.encRuns = true)
    (hm : s.flag R.GPIO_ENCCFG_MODE = false) (hx : s.flag R.GPIO_ENCCFG_IDXCLR = false) :
    (s.decode old new).get R.GPIO_ENCCNT = ux 32 (s.get R.GPIO_ENCCNT + s.encStep old new) := by
  have quad (b : Bool) : (if b then s.set R.GPIO_ENCSTAT_QERR 1 else s).flag R.GPIO_ENCCFG_IDXCLR = false
      ∧ (if b then s.set R.GPIO_ENCSTAT_QERR 1 else s).get R.GPIO_ENCCNT = s.get R.GPIO_ENCCNT
      ∧ (if b then s.set R.GPIO_ENCSTAT_QERR 1 else s).encStep old new = s.encStep old new := by
    cases b
    · exact ⟨hx, rfl, rfl⟩
    · refine ⟨(State.flag_set_apart s rfl 1).trans hx, State.get_set_apart s rfl 1, ?_⟩
      simp only [State.encStep, if_true, State.flag_set_apart s (f := R.GPIO_ENCSTAT_QERR) (g := R.GPIO_ENCCFG_REV) rfl 1]
  rw [State.decode, if_neg (by simp [hr]), if_neg (by simp [hm])]
  dsimp only
  obtain ⟨hi, hc, hs⟩ := quad (old.testBit 8 != new.testBit 8 && old.testBit 9 != new.testBit 9)
  rw [State.get_set, hi, hc, hs]
  exact Nat.mod_eq_of_lt (ux_lt 32 _)

theorem gpioInputEvent_shows (lv : BitVec 16) (s : State) (h : s.on 10 = true) (h6 : s.on 6 = true) :
    ∃ t, exec (.gpioInputEvent lv) s = .next t ∧ t.get R.GPIO_IN = lv.toNat
      ∧ (∀ n : Fin 16, (s.get R.GPIO_IN).testBit n ≠ lv.toNat.testBit n →
          irqSelects (s.get (R.GPIO_MUX_IRQEDGE n)) (lv.toNat.testBit n) = true →
          t.bit R.GPIO_EVT n = true ∧ t.flag (R.ICU_STS_PEND (170 + n)) = true)
      ∧ (s.encRuns = false → t.get R.GPIO_ENCCNT = s.get R.GPIO_ENCCNT)
      ∧ (s.encRuns = true → s.flag R.GPIO_ENCCFG_MODE = false → s.flag R.GPIO_ENCCFG_IDXCLR = false →
          t.get R.GPIO_ENCCNT = ux 32 (s.get R.GPIO_ENCCNT + s.encStep (s.get R.GPIO_IN) lv.toNat)) := by
  refine ⟨s.gpioIn lv.toNat, congrArg Host.Outcome.next (if_pos h), ?_, fun n hc he => ?_, fun hr => ?_, fun hr hm hx => ?_⟩
  all_goals rw [State.gpioIn_eq]
  · rw [State.get_decode _ _ _ (by decide)]
    exact (State.get_gpioEvents _ _ _ _ (by decide) rfl).trans (State.get_set_of_lt s lv.isLt)
  · obtain ⟨hb, hp⟩ := State.gpioEvents_mark (s.get R.GPIO_IN) lv.toNat n.isLt hc (List.range 16)
      (s.set R.GPIO_IN lv.toNat) (List.mem_range.mpr n.isLt) ((State.on_congr (State.get_set_apart s rfl _)).trans h6)
      (by rw [State.get_set_apart s rfl]; exact he)
    refine ⟨?_, ?_⟩
    · rw [State.bit, State.get_decode _ _ _ (by decide)]
      exact hb
    · rw [State.flag_congr (State.get_decode _ _ _ (by simp [encFields, R.ICU_STS_PEND, R.GPIO_ENCSTAT_HALL,
        R.GPIO_ENCSTAT_HALLERR, R.GPIO_ENCSTAT_QERR, R.GPIO_ENCCNT]))]
      exact hp
  · rw [State.decode, if_pos (by rw [State.encRuns_gpioSeen, hr]; rfl)]
    exact s.get_gpioSeen _ (by decide) rfl rfl
  · rw [State.get_decode_count _ _ _ (by rw [State.encRuns_gpioSeen, hr])
      (by rw [State.flag_congr (s.get_gpioSeen _ (by decide) rfl rfl), hm])
      (by rw [State.flag_congr (s.get_gpioSeen _ (by decide) rfl rfl), hx]),
      s.get_gpioSeen _ (by decide) rfl rfl, State.encStep_gpioSeen]

/-! ### Outputs and mux (R522, R524, R546) -/

/-- A requester's answer and one register field of PD10 are all that changes. -/
theorem State.reply_set_onlyIn (s : State) (q : Req) {f : Fld} (hf : f.pd = 10) (v : Nat) :
    OnlyIn [.resp, .pd 10] s ((s.reply q .ok 0).set f v) :=
  Moves.onlyIn (K := partsOf [.resp, .pd 10]) _
    (((s.reply_moves q .ok 0).mono (by decide)).step (State.set_moves hf) (by decide)) (by decide)

theorem gpioOutputSet_sets (q : Who) (v : Word) (s : State) (h : s.on 10 = true) :
    ∃ u : State, exec (.gpioOutputSet q v) s = .next (fireAll u.drivenTrips) ∧ OnlyIn [.resp, .pd 10] s u
      ∧ RegsOnly (fun f => f = R.GPIO_OUT) s u
      ∧ ∀ n : Fin 16, u.bit R.GPIO_OUT n = (s.bit R.GPIO_OUT n || v.toNat.testBit n) := by
  refine ⟨_, State.via_next h, State.reply_set_onlyIn s q.req rfl _, fun f hf => State.get_set_ne _ (Ne.symm hf) _,
    fun n => ?_⟩
  rw [State.writeOutSet, State.bit_set, Nat.testBit_or, Nat.testBit_mod_two_pow]
  simp [R.GPIO_OUT, State.bit]

theorem gpioOutputClear_clears (q : Who) (v : Word) (s : State) (h : s.on 10 = true) :
    ∃ u : State, exec (.gpioOutputClear q v) s = .next (fireAll u.drivenTrips) ∧ OnlyIn [.resp, .pd 10] s u
      ∧ RegsOnly (fun f => f = R.GPIO_OUT) s u
      ∧ ∀ n : Fin 16, u.bit R.GPIO_OUT n = (s.bit R.GPIO_OUT n && !v.toNat.testBit n) := by
  refine ⟨_, State.via_next h, State.reply_set_onlyIn s q.req rfl _, fun f hf => State.get_set_ne _ (Ne.symm hf) _,
    fun n => ?_⟩
  rw [State.writeOutClr, State.bit_set, Nat.testBit_and, Nat.testBit_xor, Nat.testBit_two_pow_sub_one,
    Nat.testBit_mod_two_pow]
  simp [R.GPIO_OUT, State.bit]

/-- The fields of GPIO_MUXn. -/
def gpioMuxFields (n : Nat) : List Fld :=
  [R.GPIO_MUX_IRQEDGE n, R.GPIO_MUX_FILT n, R.GPIO_MUX_OD n, R.GPIO_MUX_DS n, R.GPIO_MUX_PULL n, R.GPIO_MUX_FUNC n]

theorem regFields_gpioMux : ∀ n : Fin 16, regFields (0x17000 + 4 * n.val) = gpioMuxFields n := by decide

theorem gpioMux_in_map : ∀ n : Fin 16, (regFields (0x17000 + 4 * n.val)).Nodup
    ∧ ∀ f ∈ regFields (0x17000 + 4 * n.val), f.acc = .rw ∧ 0x5000 ≤ f.addr ∧ f.pd = 10 := by decide

/-- A word written to a register of RW fields of PD10 changes nothing else. -/
theorem State.reply_writeReg_onlyIn (s : State) (q : Who) {a : Nat} (v : Nat)
    (h : ∀ f ∈ regFields a, f.acc = .rw ∧ f.pd = 10) : OnlyIn [.resp, .pd 10] s ((s.reply q.req .ok 0).writeReg q a v) := by
  refine Moves.onlyIn (K := partsOf [.resp, .pd 10]) _ ?_ (by decide)
  rw [State.writeReg_rw _ q v fun f hf => (h f hf).1]
  have fields : ∀ (fs : List Fld) (u : State), (∀ f ∈ fs, f.pd = 10) → Moves (partsOf [.resp, .pd 10]) s u →
      Moves (partsOf [.resp, .pd 10]) s (fs.foldl (fun s f => s.set f (presented v f)) u) := by
    intro fs
    induction fs with
    | nil => exact fun _ _ => id
    | cons f fs ih =>
      intro u hp hm
      obtain ⟨hf, hfs⟩ := List.forall_mem_cons.mp hp
      exact ih _ hfs (hm.step (State.set_moves hf) (by decide))
  exact fields _ _ (fun f hf => (h f hf).2) ((s.reply_moves ..).mono (by decide))

theorem gpioMuxWrite_stores (q : Who) (n : Fin 16) (v : Word) (s : State) (h : s.on 10 = true) :
    ∃ t : State, exec (.gpioMuxWrite q n v) s = .next (fireAll t.drivenTrips) ∧ OnlyIn [.resp, .pd 10] s t
      ∧ t.get (R.GPIO_MUX_FUNC n) = v.toNat % 4 ∧ t.get (R.GPIO_MUX_PULL n) = v.toNat / 2 ^ 4 % 4
      ∧ t.get (R.GPIO_MUX_DS n) = v.toNat / 2 ^ 8 % 2 ∧ t.get (R.GPIO_MUX_OD n) = v.toNat / 2 ^ 10 % 2
      ∧ t.get (R.GPIO_MUX_FILT n) = v.toNat / 2 ^ 12 % 16 ∧ t.get (R.GPIO_MUX_IRQEDGE n) = v.toNat / 2 ^ 16 % 4
      ∧ ∀ f : Fld, f.addr ≠ 0x17000 + 4 * n.val → t.get f = s.get f := by
  obtain ⟨hnd, hall⟩ := gpioMux_in_map n
  have field {f : Fld} (hf : f ∈ gpioMuxFields n) :
      ((s.reply q.req .ok 0).writeReg q (0x17000 + 4 * n.val) v.toNat).get f = v.toNat / 2 ^ f.lo % 2 ^ f.w := by
    have hm : f ∈ regFields (0x17000 + 4 * n.val) := regFields_gpioMux n ▸ hf
    obtain ⟨hacc, haddr, -⟩ := hall f hm
    exact State.get_writeReg_rw _ q v.toNat hm hnd haddr hacc
  refine ⟨_, State.via_next h, State.reply_writeReg_onlyIn s q v.toNat fun f hf => ⟨(hall f hf).1, (hall f hf).2.2⟩,
    ?_, ?_, ?_, ?_, ?_, ?_, fun f hf => ?_⟩
  · exact (field (f := R.GPIO_MUX_FUNC n) (by simp [gpioMuxFields])).trans (by simp [R.GPIO_MUX_FUNC])
  · exact field (f := R.GPIO_MUX_PULL n) (by simp [gpioMuxFields])
  · exact field (f := R.GPIO_MUX_DS n) (by simp [gpioMuxFields])
  · exact field (f := R.GPIO_MUX_OD n) (by simp [gpioMuxFields])
  · exact field (f := R.GPIO_MUX_FILT n) (by simp [gpioMuxFields])
  · exact field (f := R.GPIO_MUX_IRQEDGE n) (by simp [gpioMuxFields])
  · rw [State.writeReg_unlocked _ q _ fun g hg => by simp [(hall g hg).1]]
    exact State.get_foldl_writeFld_of_not_mem q _ _ _ (mt addr_of_mem_regFields hf)

theorem drivenTrips_closed (s : State) (h : s.on 6 = false ∨ s.get R.TRP_TZCFG_GTZEN = 0) : fireAll s.drivenTrips = s := by
  rw [State.drivenTrips, if_neg (by rcases h with h | h <;> simp [h])]
  rfl

theorem regFields_encCnt : regFields 0x17064 = [R.GPIO_ENCCNT] := by decide

theorem encoderCountWrite_stores (q : Who) (v : Word) (s : State) (h : s.on 10 = true) :
    ∃ t, exec (.encoderCountWrite q v) s = .next t ∧ OnlyIn [.resp, .pd 10] s t ∧ t.get R.GPIO_ENCCNT = v.toNat
      ∧ RegsOnly (fun f => f = R.GPIO_ENCCNT) s t := by
  have hw : (s.reply q.req .ok 0).writeReg q 0x17064 v.toNat =
      (s.reply q.req .ok 0).set R.GPIO_ENCCNT (presented v.toNat R.GPIO_ENCCNT) := by
    rw [State.writeReg_rw _ q _ (by rw [regFields_encCnt]; decide), regFields_encCnt]
    rfl
  refine ⟨_, (State.via_next h).trans (congrArg _ hw), State.reply_set_onlyIn s q.req rfl _, ?_,
    fun f hf => State.get_set_ne _ (Ne.symm hf) _⟩
  rw [State.get_set]
  simpa [presented, R.GPIO_ENCCNT] using v.isLt

/-- Settles O53: each row of the GPIO balls, with the trip extensions closed. -/
theorem gpioBalls : Obligations.GpioBalls := by
  unfold Obligations.GpioBalls
  exact ⟨gpioInputEvent_shows, fun q v s h => ⟨gpioOutputSet_sets q v s h, gpioOutputClear_clears q v s h⟩,
    gpioMuxWrite_stores, drivenTrips_closed, encoderCountWrite_stores⟩

end Sys2Proof.Machine
end

section
/-!
PROOFS of the statement on the health records (O58, R573, R575, R579).
-/

namespace Sys2Proof.Machine

/-- An event that is raised while PD6 is ON is pending. -/
theorem State.flag_raise {s : State} {n : Nat} (hn : n < 190) (h : s.on 6 = true) :
    (s.raise n).flag (R.ICU_STS_PEND n) = true :=
  decide_eq_true <| (State.get_raise_pend s (n := n) (by omega) (by omega) (by omega) h).symm ▸ Nat.one_ne_zero

@[simp] theorem State.journal_vrec (s : State) (r : Nat) (l : List Nat) :
    (s.journal r l).vrec.length = s.vrec.length + 1 := by
  simp [State.journal]

@[simp] theorem State.advise_flag_pend (s : State) (b n : Nat) :
    (s.advise b).flag (R.ICU_STS_PEND n) = s.flag (R.ICU_STS_PEND n) :=
  State.flag_congr (State.get_advise_apart s b (f := R.ICU_STS_PEND n) (Nat.succ_ne_zero 5))

/-- A cause of the advisory leaves the latch of the die sensor. -/
theorem State.advise_hotAbove (s : State) (b : Nat) : (s.advise b).health.hotAbove = s.health.hotAbove := by
  unfold State.advise
  split
  · rfl
  · dsimp only
    split <;> rfl

/-! ### Thermal excursions (R573) -/

/-- A sample at or below 120 °C ends the excursion. -/
theorem thermalSample_cool (x : Int) (s : State) (h : x ≤ 120) :
    ∃ t, exec (.thermalSample x) s = .next t ∧ t.health = { s.health with hotAbove := false } ∧ OnlyIn [.health] s t :=
  ⟨_, congrArg Host.Outcome.next (if_pos h), rfl, Moves.onlyIn _ (State.upd_health_moves ..) (by decide)⟩

/-- A sample below the trip point, or within an excursion that is counted, counts none. -/
theorem thermalSample_quiet (x : Int) (s : State) (h : 120 < x) (hq : x ≤ 125 ∨ s.health.hotAbove = true) :
    exec (.thermalSample x) s = .next s := by
  have none : ¬ (125 < x ∧ s.health.hotAbove = false) := by
    rintro ⟨hx, hf⟩
    rcases hq with hq | hq
    · omega
    · simp [hf] at hq
  exact congrArg Host.Outcome.next ((if_neg (by omega)).trans (if_neg none))

/-- The state in which an excursion is counted and its source raised. -/
def State.excursion (s : State) : State :=
  (State.inc { s with health := { s.health with hotAbove := true } } R.HLT_THEXC).raise 189

/-- The number of excursions at which the advisory is raised. -/
def State.excursionLimit (s : State) : Nat := if s.get R.HLT_THTHR = 0 then 16 else s.get R.HLT_THTHR

theorem State.get_excursion (s : State) {f : Fld} (h : R.HLT_THEXC.apart f = true) (hf : f.pd ≠ 6) :
    s.excursion.get f = s.get f :=
  (State.get_raise_apart _ _ hf).trans (State.get_inc_apart _ h)

theorem State.get_excursion_count (s : State) :
    s.excursion.get R.HLT_THEXC = min 0xFFFF (s.get R.HLT_THEXC + 1) :=
  (State.get_raise_apart _ _ (by decide)).trans (State.get_inc _ _)

theorem State.excursion_health (s : State) : s.excursion.health = { s.health with hotAbove := true } :=
  State.raise_health ..

theorem State.flag_excursion (s : State) (h : s.on 6 = true) : s.excursion.flag (R.ICU_STS_PEND 189) = true := by
  refine State.flag_raise (by decide) ?_
  exact (State.on_congr (State.get_inc_apart { s with health := { s.health with hotAbove := true } } rfl)).trans h

theorem thermalSample_hot (x : Int) (s : State) (h : 125 < x) (hq : s.health.hotAbove = false) :
    exec (.thermalSample x) s = .next
      (if s.excursionLimit ≤ min 0xFFFF (s.get R.HLT_THEXC + 1) then s.excursion.advise 6 else s.excursion) := by
  have limit : s.excursion.excursionLimit = s.excursionLimit := by
    rw [State.excursionLimit, State.get_excursion s rfl (by decide), ← State.excursionLimit]
  have taken : s.thermal x =
      if s.excursion.excursionLimit ≤ s.excursion.get R.HLT_THEXC then s.excursion.advise 6 else s.excursion :=
    (if_neg (by omega)).trans (if_pos ⟨h, hq⟩)
  rw [limit, State.get_excursion_count] at taken
  exact congrArg Host.Outcome.next taken

theorem thermalSample_counts (x : Int) (s : State) (h : 125 < x) (hq : s.health.hotAbove = false) (h6 : s.on 6 = true) :
    let n := min 0xFFFF (s.get R.HLT_THEXC + 1)
    let thr := if s.get R.HLT_THTHR = 0 then 16 else s.get R.HLT_THTHR
    ∃ t, exec (.thermalSample x) s = .next t ∧ t.health.hotAbove = true ∧ t.get R.HLT_THEXC = n
      ∧ t.flag (R.ICU_STS_PEND 189) = true ∧ (thr ≤ n → t.bit R.HLT_CAUSE 6 = true)
      ∧ (n < thr → t.get R.HLT_CAUSE = s.get R.HLT_CAUSE ∧ t.health.owed = s.health.owed) := by
  intro n thr
  refine ⟨_, thermalSample_hot x s h hq, ?_⟩
  change _ ∧ _ ∧ _ ∧ (s.excursionLimit ≤ n → _) ∧ (n < s.excursionLimit → _)
  by_cases hl : s.excursionLimit ≤ n
  · rw [if_pos hl]
    refine ⟨?_, ?_, ?_, fun _ => State.bit_advise _ (by decide), fun hn => absurd hl (by omega)⟩
    · rw [State.advise_hotAbove, State.excursion_health]
    · rw [State.get_advise_elsewhere _ _ rfl rfl, State.get_excursion_count]
    · rw [State.advise_flag_pend, State.flag_excursion s h6]
  · rw [if_neg hl]
    refine ⟨?_, s.get_excursion_count, s.flag_excursion h6, fun hn => absurd hn hl, fun _ => ⟨?_, ?_⟩⟩
    · rw [State.excursion_health]
    · exact State.get_excursion s rfl (by decide)
    · rw [State.excursion_health]

/-! ### The records of the advisory (R575, R577) -/

/-- A record for each bit of a list, with the causes as they stand. -/
def State.journalCauses (l : List Nat) (s : State) : State :=
  l.foldl (fun s b => s.journal 575 [b, s.get R.HLT_CAUSE]) s

theorem State.journalCauses_spec : ∀ (l : List Nat) (s : State),
    (s.journalCauses l).vrec.length = s.vrec.length + l.length
      ∧ (s.journalCauses l).regs = s.regs ∧ (s.journalCauses l).health = s.health
  | [], _ => ⟨rfl, rfl, rfl⟩
  | b :: l, s => by
    obtain ⟨records, regs, health⟩ := journalCauses_spec l (s.journal 575 [b, s.get R.HLT_CAUSE])
    refine ⟨?_, regs, health⟩
    rw [State.journal_vrec] at records
    rw [List.length_cons]
    exact records.trans (by omega)

theorem advisoryRecord_journals (s : State) (ha : s.crerus.alive = true) (ho : s.health.owed ≠ []) (h6 : s.on 6 = true) :
    ∃ t, exec .advisoryRecord s = .next t ∧ t.health.owed = [] ∧ t.get R.HLT_CAUSE = s.get R.HLT_CAUSE
      ∧ t.flag (R.ICU_STS_PEND 144) = true
      ∧ t.vrec.length = s.vrec.length + ((List.range 11).filter fun b => decide (b ∈ s.health.owed)).length + 1
      ∧ t.health.first = if s.health.first = 0 then s.time.rtc.toNat else s.health.first := by
  have owing : ¬ (s.health.owed.isEmpty || !s.crerus.alive) = true := by simp [ha, ho]
  refine ⟨_, congrArg Host.Outcome.next (if_neg owing), ?_⟩
  set u : State := { s with health := { s.health with
    owed := [], first := if s.health.first = 0 then s.time.rtc.toNat else s.health.first } } with hu
  set l := (List.range 11).filter fun b => decide (b ∈ s.health.owed)
  obtain ⟨records, regs, health⟩ := State.journalCauses_spec l u
  have kept (f : Fld) : (u.journalCauses l).get f = s.get f := congrArg (·.get f) regs
  change let v := ((u.journalCauses l).journal 577 [(u.journalCauses l).get R.HLT_CAUSE, _]).raise 144
    v.health.owed = [] ∧ _
  dsimp only
  refine ⟨?_, ?_, ?_, ?_, ?_⟩
  · exact (congrArg HealthSt.owed (State.raise_health ..)).trans (congrArg HealthSt.owed health)
  · exact (State.get_raise_apart _ _ (by decide)).trans (kept _)
  · exact State.flag_raise (by decide) ((State.on_congr (kept (R.PWR_DOM 6))).trans h6)
  · exact (congrArg List.length (State.raise_vrec ..)).trans ((State.journal_vrec ..).trans (congrArg (· + 1) records))
  · exact (congrArg HealthSt.first (State.raise_health ..)).trans (congrArg HealthSt.first health)

/-! ### Board service (R579) -/

theorem boardServiceSet_journals (b : Fin 3) (s : State) (ha : s.crerus.alive = true)
    (hb : s.bit R.HLT_BSVC b = false) (h6 : s.on 6 = true) :
    ∃ t, exec (.boardServiceSet b) s = .next t ∧ t.bit R.HLT_BSVC b = true ∧ t.flag R.HLT_STAT_BSVCLIVE = true
      ∧ t.get R.HLT_CAUSE = s.get R.HLT_CAUSE ∧ t.get R.HLT_STAT_SVCREQ = s.get R.HLT_STAT_SVCREQ
      ∧ t.vrec.length = s.vrec.length + 1 ∧ t.flag (R.ICU_STS_PEND 144) = true := by
  have fresh : ¬ (s.set R.HLT_STAT_BSVCLIVE 1).bit R.HLT_BSVC b = true := by
    rw [State.bit_congr (State.get_set_apart s rfl 1), hb]
    decide
  refine ⟨_, congrArg Host.Outcome.next ((if_neg (by simp [ha])).trans (if_neg fresh)), ?_⟩
  set u := (s.set R.HLT_STAT_BSVCLIVE 1).setBit R.HLT_BSVC b
  have raised {f : Fld} (hf : f.pd ≠ 6) : ((u.journal 579 [b.val]).raise 144).get f = u.get f :=
    State.get_raise_apart _ _ hf
  have untouched {f : Fld} (h1 : R.HLT_STAT_BSVCLIVE.apart f = true) (h2 : R.HLT_BSVC.apart f = true) :
      u.get f = s.get f := (State.get_setBit_apart _ h2 _).trans (State.get_set_apart s h1 1)
  refine ⟨?_, ?_, ?_, ?_, ?_, ?_⟩
  · exact (State.bit_congr (raised (by decide)) _).trans (State.bit_setBit _ b.isLt)
  · rw [State.flag_congr (raised (by decide)), State.flag_congr (State.get_setBit_apart _ rfl _)]
    exact State.flag_set_one s rfl
  · exact (raised (by decide)).trans (untouched rfl rfl)
  · exact (raised (by decide)).trans (untouched rfl rfl)
  · exact (congrArg List.length (State.raise_vrec ..)).trans (State.journal_vrec ..)
  · exact State.flag_raise (by decide) ((State.on_congr (untouched rfl rfl)).trans h6)

/-- Settles O58: each sample of the die sensor by its range, the records by induction over the causes owed, and
the first setting of a board-service bit. -/
theorem healthRecords : Obligations.HealthRecords :=
  ⟨fun x s => ⟨thermalSample_cool x s, thermalSample_quiet x s, thermalSample_counts x s⟩,
    advisoryRecord_journals, boardServiceSet_journals⟩

end Sys2Proof.Machine
end

section
/-!
PROOFS of the statement on the flash commands (O47, R395, R396): the end of a command, the check of a command, and the
bytes that an operation leaves.
-/

namespace Sys2Proof.Machine

/-! ### The end of a strand command (R396) -/

/-- The end of a command writes its code and its two event flags, and reaches no other register outside PD6. -/
theorem State.get_flcEnd_apart (s : State) (c : Nat) {f : Fld} (hc : R.FLC_STAT_CMDSTAT.apart f = true)
    (hd : R.FLC_STAT_DONE.apart f = true) (he : R.FLC_STAT_ERR.apart f = true) (h : f.pd ≠ 6) :
    (s.flcEnd c).get f = s.get f := by
  have done : ((s.set R.FLC_STAT_CMDSTAT c).flagRise R.FLC_STAT_DONE 156).get f = s.get f :=
    (State.get_flagRise_apart _ hd h 156).trans (State.get_set_apart s hc c)
  unfold State.flcEnd
  dsimp only
  split
  · exact done
  · exact (State.get_flagRise_apart _ he h 157).trans done

theorem State.get_flcEnd_cmdstat (s : State) (c : Nat) : (s.flcEnd c).get R.FLC_STAT_CMDSTAT = c % 256 := by
  have code : ((s.set R.FLC_STAT_CMDSTAT c).flagRise R.FLC_STAT_DONE 156).get R.FLC_STAT_CMDSTAT = c % 256 :=
    (State.get_flagRise_apart _ rfl (by decide) 156).trans (State.get_set s _ c)
  unfold State.flcEnd
  dsimp only
  split
  · exact code
  · exact (State.get_flagRise_apart _ rfl (by decide) 157).trans code

theorem State.flag_flcEnd_done (s : State) (c : Nat) : (s.flcEnd c).flag R.FLC_STAT_DONE = true := by
  have done := State.flag_flagRise (s.set R.FLC_STAT_CMDSTAT c) (f := R.FLC_STAT_DONE) rfl (by decide) 156
  unfold State.flcEnd
  dsimp only
  split
  · exact done
  · exact (State.flag_congr (State.get_flagRise_apart _ rfl (by decide) 157)).trans done

theorem State.flag_flcEnd_err (s : State) {c : Nat} (h : c ≠ 0) : (s.flcEnd c).flag R.FLC_STAT_ERR = true := by
  unfold State.flcEnd
  dsimp only
  rw [if_neg h]
  exact State.flag_flagRise _ rfl (by decide) 157

@[simp] theorem State.flcEnd_mem (s : State) (c : Nat) : (s.flcEnd c).mem = s.mem :=
  (State.flcEnd_moves s c).same .mem (by decide)

@[simp] theorem State.flcEnd_seq (s : State) (c : Nat) : (s.flcEnd c).seq = s.seq :=
  (State.flcEnd_moves s c).same .seq (by decide)

@[simp] theorem State.flcEnd_flash (s : State) (c : Nat) : (s.flcEnd c).flash = s.flash :=
  (State.flcEnd_moves s c).same .flash (by decide)

/-! ### A command of the sequence (R395, Table 18.3) -/

/-- The state in which a command has used the armed sequence up. -/
def State.flcDisarmed (s : State) : State :=
  State.set { s with seq := { s.seq with flc := none } } R.FLC_STAT_ARMED 0

theorem State.get_flcDisarmed (s : State) {f : Fld} (h : R.FLC_STAT_ARMED.apart f = true) :
    s.flcDisarmed.get f = s.get f := State.get_set_apart _ h 0

theorem State.flcCheck_flcDisarmed (s : State) (q : Who) (op a : Nat) :
    s.flcDisarmed.flcCheck q op a = s.flcCheck q op a := by
  have image : s.flcDisarmed.holdsImage a = s.holdsImage a := by
    rw [State.holdsImage, State.get_flcDisarmed _ rfl, State.get_flcDisarmed _ rfl, State.get_flcDisarmed _ rfl,
      State.flag_congr (s.get_flcDisarmed (f := R.WLD_STAT_LOADED) rfl)]
    rfl
  have may : s.flcDisarmed.flcMay q a = s.flcMay q a := by
    rw [State.flcMay, image]
    rfl
  rw [State.flcCheck, may]
  rfl

theorem State.flcCmd_unarmed {s : State} {q : Who} (h : s.seq.flc ≠ some q.req) (v : Nat) :
    s.flcCmd q v = s.flcDisarmed.flcEnd 5 := if_pos h

theorem State.flcCmd_refused {s : State} {q : Who} {v c : Nat} (h : s.seq.flc = some q.req)
    (hc : s.flcCheck q (v % 4) (s.get R.FLC_ADDR) = some c) : s.flcCmd q v = s.flcDisarmed.flcEnd c := by
  rw [← s.get_flcDisarmed (f := R.FLC_ADDR) rfl, ← s.flcCheck_flcDisarmed] at hc
  refine (if_neg (not_not_intro h)).trans ?_
  change (match s.flcDisarmed.flcCheck q (v % 4) (s.flcDisarmed.get R.FLC_ADDR) with
    | some c => s.flcDisarmed.flcEnd c
    | none => _) = _
  rw [hc]

/-- The state in which the operation of a strand has started in bank 0. -/
def State.flcStarted (s : State) (o : FlashOp) : State :=
  (s.flcDisarmed.setFlashOp 0 (some o)).set R.FLC_STAT_CMDSTAT 0xFF

theorem State.flcCmd_starts {s : State} {q : Who} {v : Nat} (h : s.seq.flc = some q.req)
    (hc : s.flcCheck q (v % 4) (s.get R.FLC_ADDR) = none) :
    s.flcCmd q v = s.flcStarted (if v % 4 = 1 then { strand := true, prog := [(s.get R.FLC_ADDR, s.flcData)] }
      else { strand := true, erase := [sectorOf (s.get R.FLC_ADDR)] }) := by
  have data : s.flcDisarmed.flcData = s.flcData :=
    congrArg ((List.range 8).flatMap ·) (funext fun w => congrArg (toLE 4) (s.get_flcDisarmed rfl))
  have address := s.get_flcDisarmed (f := R.FLC_ADDR) rfl
  rw [← address, ← s.flcCheck_flcDisarmed] at hc
  rw [← data, ← address]
  refine (if_neg (not_not_intro h)).trans ?_
  change (match s.flcDisarmed.flcCheck q (v % 4) (s.flcDisarmed.get R.FLC_ADDR) with
    | some c => s.flcDisarmed.flcEnd c
    | none => _) = _
  rw [hc]
  rfl

theorem State.flcStarted_shows (s : State) (o : FlashOp) :
    (s.flcStarted o).flash.op0 = some o ∧ (s.flcStarted o).get R.FLC_STAT_BUSY0 = 1
      ∧ (s.flcStarted o).get R.FLC_STAT_STRANDOP = b2n o.strand ∧ (s.flcStarted o).get R.FLC_STAT_CMDSTAT = 0xFF := by
  refine ⟨rfl, ?_, ?_, State.get_set ..⟩
  · exact (State.get_set_apart _ rfl _).trans ((State.get_setB_apart _ rfl _).trans (State.get_setB_bit _ rfl _))
  · exact (State.get_set_apart _ rfl _).trans (State.get_setB_bit _ rfl _)

theorem flashArm_arms (q : Who) (s : State) (h : s.on 2 = true) (hq : q.req ≠ .dma) :
    ∃ t, exec (.flashArm q 0xF1A5) s = .next t ∧ t.get R.FLC_STAT_ARMED = 1 ∧ t.seq.flc = some q.req := by
  refine ⟨_, (State.via_next h).trans (congrArg _ ((if_neg (by decide)).trans (if_neg hq))), State.get_set .., rfl⟩

theorem flashArm_ignores (q : Who) (v : Word) (s : State) (h : s.on 2 = true) (hv : v ≠ 0xF1A5) :
    exec (.flashArm q v) s = .next (s.reply q.req .ok 0) := by
  have other : v.toNat ≠ 0xF1A5 := fun e => hv (BitVec.eq_of_toNat_eq e)
  exact (State.via_next h).trans (congrArg _ (if_pos other))

/-- What a lapsed sequence leaves: the code 5 with its flags, and no armed sequence. -/
theorem State.flcLapsed_shows (s : State) :
    let t := s.flcDisarmed.flcEnd 5
    t.get R.FLC_STAT_CMDSTAT = 5 ∧ t.get R.FLC_STAT_ARMED = 0 ∧ t.seq.flc = none
      ∧ t.flag R.FLC_STAT_DONE = true ∧ t.flag R.FLC_STAT_ERR = true ∧ t.mem = s.mem := by
  refine ⟨State.get_flcEnd_cmdstat .., ?_, ?_, State.flag_flcEnd_done .., State.flag_flcEnd_err _ (by decide),
    State.flcEnd_mem ..⟩
  · exact (State.get_flcEnd_apart _ _ rfl rfl rfl (by decide)).trans (State.get_set ..)
  · rw [State.flcEnd_seq]
    rfl

/-- Each command word writes FLC_CMD. -/
theorem exec_flashCommand {q : Who} {i : Instr} {s : State}
    (hi : i = .flashProgram q ∨ i = .flashErase q ∨ i = .flashBadcmd q true ∨ i = .flashBadcmd q false)
    (h : s.on 2 = true) : ∃ v, exec i s = .next ((s.reply q.req .ok 0).flcCmd q v) := by
  rcases hi with rfl | rfl | rfl | rfl
  · exact ⟨1, State.via_next h⟩
  · exact ⟨2, State.via_next h⟩
  · exact ⟨3, State.via_next h⟩
  · exact ⟨0, State.via_next h⟩

theorem flashCommand_lapses (q : Who) (i : Instr) (s : State)
    (hi : i = .flashProgram q ∨ i = .flashErase q ∨ i = .flashBadcmd q true ∨ i = .flashBadcmd q false)
    (h : s.on 2 = true) (hq : s.seq.flc ≠ some q.req) :
    ∃ t, exec i s = .next t ∧ t.get R.FLC_STAT_CMDSTAT = 5 ∧ t.get R.FLC_STAT_ARMED = 0 ∧ t.seq.flc = none
      ∧ t.flag R.FLC_STAT_DONE = true ∧ t.flag R.FLC_STAT_ERR = true ∧ t.mem = s.mem := by
  obtain ⟨v, he⟩ := exec_flashCommand hi h
  exact ⟨_, he.trans (congrArg _ (State.flcCmd_unarmed (s := s.reply q.req .ok 0) hq v)), State.flcLapsed_shows _⟩

theorem flashProgram_starts (q : Who) (s : State) (h : s.on 2 = true) (hq : s.seq.flc = some q.req)
    (hc : s.flcCheck q 1 (s.get R.FLC_ADDR) = none) :
    ∃ t, exec (.flashProgram q) s = .next t
      ∧ t.flash.op0 = some { strand := true, prog := [(s.get R.FLC_ADDR, s.flcData)] } ∧ t.get R.FLC_STAT_BUSY0 = 1
      ∧ t.get R.FLC_STAT_STRANDOP = 1 ∧ t.get R.FLC_STAT_CMDSTAT = 0xFF ∧ t.mem = s.mem := by
  obtain ⟨op, busy, strand, code⟩ := State.flcStarted_shows (s.reply q.req .ok 0)
    { strand := true, prog := [(s.get R.FLC_ADDR, s.flcData)] }
  exact ⟨_, (State.via_next h).trans (congrArg _ (State.flcCmd_starts (s := s.reply q.req .ok 0) (v := 1) hq hc)),
    op, busy, strand, code, rfl⟩

theorem flashErase_starts (q : Who) (s : State) (h : s.on 2 = true) (hq : s.seq.flc = some q.req)
    (hc : s.flcCheck q 2 (s.get R.FLC_ADDR) = none) :
    ∃ t, exec (.flashErase q) s = .next t
      ∧ t.flash.op0 = some { strand := true, erase := [sectorOf (s.get R.FLC_ADDR)] } ∧ t.get R.FLC_STAT_BUSY0 = 1
      ∧ t.get R.FLC_STAT_CMDSTAT = 0xFF ∧ t.mem = s.mem := by
  obtain ⟨op, busy, -, code⟩ := State.flcStarted_shows (s.reply q.req .ok 0)
    { strand := true, erase := [sectorOf (s.get R.FLC_ADDR)] }
  exact ⟨_, (State.via_next h).trans (congrArg _ (State.flcCmd_starts (s := s.reply q.req .ok 0) (v := 2) hq hc)),
    op, busy, code, rfl⟩

theorem flashBadcmd_refused (q : Who) (s : State) (h : s.on 2 = true) (hq : s.seq.flc = some q.req) (three : Bool) :
    ∃ t, exec (.flashBadcmd q three) s = .next t ∧ t.get R.FLC_STAT_CMDSTAT = 8 ∧ t.flag R.FLC_STAT_ERR = true
      ∧ t.flash = s.flash ∧ t.mem = s.mem := by
  have unknown : (s.reply q.req .ok 0).flcCheck q ((if three then 3 else 0) % 4) (s.get R.FLC_ADDR) = some 8 :=
    if_pos (by cases three <;> decide)
  refine ⟨_, (State.via_next h).trans (congrArg _ (State.flcCmd_refused (s := s.reply q.req .ok 0) hq unknown)),
    State.get_flcEnd_cmdstat .., State.flag_flcEnd_err _ (by decide), ?_, ?_⟩
  · rw [State.flcEnd_flash]
    rfl
  · rw [State.flcEnd_mem]
    rfl

theorem flashProgram_refused (q : Who) (s : State) (h : s.on 2 = true) (hq : s.seq.flc = some q.req) (c : Nat)
    (hl : c < 256) (hc : s.flcCheck q 1 (s.get R.FLC_ADDR) = some c) :
    ∃ t, exec (.flashProgram q) s = .next t ∧ t.get R.FLC_STAT_CMDSTAT = c
      ∧ t.flag R.FLC_STAT_DONE = true ∧ t.mem = s.mem := by
  refine ⟨_, (State.via_next h).trans (congrArg _ (State.flcCmd_refused (s := s.reply q.req .ok 0) (v := 1) hq hc)),
    (State.get_flcEnd_cmdstat ..).trans (Nat.mod_eq_of_lt hl), State.flag_flcEnd_done .., ?_⟩
  rw [State.flcEnd_mem]
  rfl

theorem flashSequenceLapse_lapses (s : State) (h : s.seq.flc.isSome = true) :
    ∃ t, exec .flashSequenceLapse s = .next t ∧ t.get R.FLC_STAT_CMDSTAT = 5 ∧ t.get R.FLC_STAT_ARMED = 0
      ∧ t.seq.flc = none ∧ t.mem = s.mem := by
  obtain ⟨code, armed, seq, -, -, mem⟩ := s.flcLapsed_shows
  exact ⟨_, congrArg Host.Outcome.next (if_pos h), code, armed, seq, mem⟩

/-! ### The end of an operation (R392, R396) -/

/-- The end of an operation of a strand in bank 0 that read back. -/
def State.flashEndedGood (s : State) (o : FlashOp) : State := ((s.flashApply o).setFlashOp 0 none).flcEnd 0

theorem exec_flashOperationComplete_strand {s : State} {o : FlashOp} (h : s.flash.op0 = some o) (hs : o.strand = true) :
    exec (.flashOperationComplete 0 true) s = .next (s.flashEndedGood o).resetDue := by
  have busy : (s.flashOp 0).isSome = true := congrArg Option.isSome h
  have ended : s.flashEnd 0 0 = s.flashEndedGood o := by
    unfold State.flashEnd
    rw [show s.flashOp 0 = some o from h]
    exact if_pos hs
  rw [← ended]
  exact congrArg Host.Outcome.next (if_pos busy)

theorem State.flashEndedGood_shows (s : State) (o : FlashOp) :
    (s.flashEndedGood o).flash.op0 = none ∧ (s.flashEndedGood o).get R.FLC_STAT_BUSY0 = 0
      ∧ (s.flashEndedGood o).get R.FLC_STAT_CMDSTAT = 0 ∧ (s.flashEndedGood o).flag R.FLC_STAT_DONE = true
      ∧ (s.flashEndedGood o).mem = (s.flashApply o).mem := by
  refine ⟨?_, ?_, State.get_flcEnd_cmdstat .., State.flag_flcEnd_done .., State.flcEnd_mem ..⟩
  · rw [State.flashEndedGood, State.flcEnd_flash]
    rfl
  · refine (State.get_flcEnd_apart _ _ rfl rfl rfl (by decide)).trans ?_
    exact (State.get_setB_apart _ rfl _).trans (State.get_setB_bit _ rfl _)

theorem State.byte_congr {s t : State} (h : t.mem = s.mem) (x : Nat) : t.byte x = s.byte x :=
  congrArg (memGet · x) h

theorem State.byte_wrBytes {s : State} (h : s.Kept) (a : Nat) (l : List Nat) (b : Nat) :
    (s.wrBytes a l).byte b = if a ≤ b ∧ b < a + l.length then BitVec.ofNat 8 (l.getD (b - a) 0) else s.byte b := by
  rw [State.wrBytes, State.byte_setByteList h, List.length_map]
  split
  · rw [List.getD_eq_getElem _ _ (by rw [List.length_map]; omega), List.getElem_map,
      List.getD_eq_getElem _ _ (by omega)]
  · rfl

theorem State.rdBytes_wrBytes {s : State} (h : s.Kept) (a : Nat) (l : List Nat) :
    (s.wrBytes a l).rdBytes a l.length = l.map (· % 256) := by
  refine List.ext_getElem (by simp [State.rdBytes]) fun i hi hl => ?_
  rw [List.length_map] at hl
  simp [State.rdBytes, State.byte_wrBytes h, hl]

theorem flashOperationComplete_programs (a : Nat) (l : List Nat) (s : State) (hk : s.Kept)
    (h : s.flash.op0 = some { strand := true, prog := [(a, l)] }) :
    ∃ t : State, exec (.flashOperationComplete 0 true) s = .next t.resetDue ∧ t.flash.op0 = none
      ∧ t.get R.FLC_STAT_BUSY0 = 0 ∧ t.get R.FLC_STAT_CMDSTAT = 0 ∧ t.flag R.FLC_STAT_DONE = true
      ∧ t.rdBytes a l.length = l.map (· % 256) ∧ ∀ x, x < a ∨ a + l.length ≤ x → t.byte x = s.byte x := by
  obtain ⟨op, busy, code, done, mem⟩ := s.flashEndedGood_shows { strand := true, prog := [(a, l)] }
  have mem : (s.flashEndedGood { strand := true, prog := [(a, l)] }).mem = (s.wrBytes a l).mem := mem
  refine ⟨_, exec_flashOperationComplete_strand h rfl, op, busy, code, done, ?_, fun x hx => ?_⟩
  · rw [← State.rdBytes_wrBytes hk a l]
    exact List.map_congr_left fun i _ => congrArg BitVec.toNat (State.byte_congr mem (a + i))
  · rw [State.byte_congr mem, State.byte_wrBytes hk, if_neg (by omega)]

theorem flashOperationComplete_erases (a n : Nat) (s : State)
    (h : s.flash.op0 = some { strand := true, erase := [(a, n)] }) :
    ∃ t : State, exec (.flashOperationComplete 0 true) s = .next t.resetDue ∧ t.get R.FLC_STAT_CMDSTAT = 0
      ∧ ∀ x, (a ≤ x → x < a + n → t.byte x = memDefault x) ∧ (x < a ∨ a + n ≤ x → t.byte x = s.byte x) := by
  obtain ⟨-, -, code, -, mem⟩ := s.flashEndedGood_shows { strand := true, erase := [(a, n)] }
  have mem : (s.flashEndedGood { strand := true, erase := [(a, n)] }).mem = memClear s.mem a (a + n) := mem
  refine ⟨_, exec_flashOperationComplete_strand h rfl, code, fun x => ⟨fun ha hn => ?_, fun hx => ?_⟩⟩
  · rw [State.byte, mem, memGet_memClear, if_pos ⟨ha, hn⟩]
  · rw [State.byte, mem, memGet_memClear, if_neg (by omega), State.byte]

/-- Settles O47: the arming, the lapse, each command of an armed sequence by what its check answers, and the bytes
after the end of an operation. -/
theorem flashCommands : Obligations.FlashCommands :=
  ⟨flashArm_arms, flashArm_ignores, flashCommand_lapses,
    fun q s h hq => ⟨flashProgram_starts q s h hq, flashErase_starts q s h hq, flashBadcmd_refused q s h hq,
      flashProgram_refused q s h hq⟩,
    flashSequenceLapse_lapses, flashOperationComplete_programs, fun a n s _ => flashOperationComplete_erases a n s⟩

end Sys2Proof.Machine
end

section
/-!
PROOFS of the statement on the life cycle (O48, R420 to R432): the unlock, a request by what its checks answer, SCRAP,
fuse programs and the steps of a transition.
-/

namespace Sys2Proof.Machine

/-! ### SYS_KEY (R432) -/

theorem sysKeyWrite_unlocks (q : Who) (s : State) (hq : q.req ≠ .dma) (h : s.on 0 = true) :
    ∃ t, exec (.sysKeyWrite q 0xA5) s = .next t ∧ q.req ∈ t.key.first ∧ t.key.unlocked = s.key.unlocked
      ∧ OnlyIn [.key, .resp] s t
      ∧ ∃ u, exec (.sysKeyWrite q 0x5A) t = .next u ∧ q.req ∈ u.key.unlocked ∧ q.req ∉ u.key.first := by
  refine ⟨_, (State.via_next h).trans (congrArg _ ((if_neg hq).trans (if_pos (by decide)))), mem_insOnce .., rfl, ?_, ?_⟩
  · exact Moves.onlyIn (K := partsOf [.key, .resp]) _
      (((s.reply_moves ..).mono (by decide)).step (State.upd_key_moves ..) (by decide)) (by decide)
  · set t : State := { s.reply q.req .ok 0 with key := { s.key with first := insOnce s.key.first q.req } }
    have second : (t.reply q.req .ok 0).keyWrite q (BitVec.toNat (0x5A : Word)) = { t.reply q.req .ok 0 with key :=
        { t.key with first := without t.key.first q.req, unlocked := insOnce t.key.unlocked q.req } } :=
      (if_neg hq).trans ((if_neg (by decide)).trans (if_pos ⟨by decide, mem_insOnce _ _⟩))
    exact ⟨_, (State.via_next (s := t) h).trans (congrArg _ second), mem_insOnce _ _, not_mem_without _ _⟩

theorem sysKeyWrite_second_alone (q : Who) (s : State) (hq : q.req ≠ .dma) (h : s.on 0 = true)
    (hf : q.req ∉ s.key.first) :
    ∃ t, exec (.sysKeyWrite q 0x5A) s = .next t ∧ t.key.unlocked = s.key.unlocked :=
  ⟨_, (State.via_next h).trans (congrArg _ ((if_neg hq).trans ((if_neg (by decide)).trans
    (if_neg fun hm => hf hm.2)))), rfl⟩

theorem sysKeyUnlockExpiry_ends (q : Req) (s : State) :
    ∃ t, exec (.sysKeyUnlockExpiry q) s = .next t ∧ q ∉ t.key.first ∧ q ∉ t.key.unlocked ∧ OnlyIn [.key] s t :=
  ⟨_, rfl, not_mem_without _ _, not_mem_without _ _, Moves.onlyIn _ (State.upd_key_moves ..) (by decide)⟩

/-! ### A protected write (R420, R432) -/

/-- The state after the answer of a protected write that uses up its writer's unlock. -/
def State.keyUsed (s : State) (q : Req) : State :=
  { s.reply q .ok 0 with key := { s.key with unlocked := without s.key.unlocked q } }

theorem State.guarded_next {s : State} {q : Who} {f : State → State} (h : s.on 0 = true) (hu : q.req ∈ s.key.unlocked)
    (a : Nat) : (.next (s.via q.req 0 fun s => s.guarded q a f) : Out) = .next (f (s.keyUsed q.req)) :=
  (State.via_next h).trans (congrArg _ (if_pos hu))

theorem State.not_mem_keyUsed {s t : State} {q : Req} (h : t.key = (s.keyUsed q).key) : q ∉ t.key.unlocked := by
  rw [h]
  exact not_mem_without _ _

/-! ### The token registers (R421) -/

theorem State.get_clearToken_apart (s : State) {f : Fld} (h : ∀ i < 8, (R.LCS_TOKEN i).apart f = true) :
    s.clearToken.get f = s.get f := by
  suffices all : ∀ (l : List Nat) (s : State), (∀ i ∈ l, i < 8) →
      (l.foldl (fun s w => s.set (R.LCS_TOKEN w) 0) s).get f = s.get f from
    all _ s fun i hi => List.mem_range.mp hi
  intro l
  induction l with
  | nil => exact fun _ _ => rfl
  | cons i l ih =>
    intro s hl
    obtain ⟨hi, hl⟩ := List.forall_mem_cons.mp hl
    exact (ih _ hl).trans (State.get_set_apart s (h i hi) 0)

theorem State.get_clearToken (s : State) (w : Fin 8) : s.clearToken.get (R.LCS_TOKEN w) = 0 := by
  suffices all : ∀ (l : List Nat) (s : State), s.get (R.LCS_TOKEN w) = 0 ∨ w.val ∈ l →
      (l.foldl (fun s i => s.set (R.LCS_TOKEN i) 0) s).get (R.LCS_TOKEN w) = 0 from
    all _ s (.inr (List.mem_range.mpr w.isLt))
  intro l
  induction l with
  | nil => exact fun s h => h.resolve_right List.not_mem_nil
  | cons i l ih =>
    intro s h
    refine ih _ ?_
    by_cases hi : i = w
    · subst hi
      exact .inl (State.get_set ..)
    · refine h.imp (fun h => ?_) fun h => (List.mem_cons.mp h).resolve_left (Ne.symm hi)
      have other : R.LCS_TOKEN i ≠ R.LCS_TOKEN w := fun e => hi (by injection e; omega)
      exact (State.get_set_ne s other 0).trans h

/-! ### Requests for a transition (R420 to R423) -/

theorem State.lcRequest_refused {s : State} {t c : Nat} {scrap : Bool} (h : s.lcRefusal t scrap = some c)
    (token : Option (List Nat)) (job : Option Nat) : s.lcRequest t scrap token job = (some c, s.clearToken) := by
  simp only [State.lcRequest, State.lcJudge, h]

theorem State.lcRequest_begins {s : State} {t n : Nat} {scrap : Bool} (h : s.lcRefusal t scrap = none)
    (hs : s.lcSlot t = some n) (h2 : t ≠ 2) (h5 : t ≠ 5) (token : Option (List Nat)) (job : Option Nat) :
    s.lcRequest t scrap token job = (none, (s.lcBegin n job).clearToken) := by
  have plain : ¬ (t = 2 ∨ t = 5) := not_or_intro h2 h5
  simp only [State.lcRequest, State.lcJudge, h, hs, if_neg plain]

/-- The state after a token that does not pass: a failed try is counted up to three. -/
def State.tokenFailed (s : State) : State := if 3 ≤ s.get R.LCS_TOKFAIL then s else s.inc R.LCS_TOKFAIL

theorem State.lcSlot_isSome {s : State} {t : Nat} {scrap : Bool} (h : s.lcRefusal t scrap = none) :
    ∃ n, s.lcSlot t = some n := by
  rw [← Option.isSome_iff_exists]
  by_contra hn
  have hn : (s.lcSlot t).isNone = true := by simpa using hn
  rw [State.lcRefusal, hn] at h
  split at h <;> simp at h

theorem State.lcRequest_bad_token {s : State} {t : Nat} (h : s.lcRefusal t false = none) (ht : t = 2 ∨ t = 5)
    {token : List Nat} (hb : s.tokenGood t token = false ∨ 3 ≤ s.get R.LCS_TOKFAIL) (job : Option Nat) :
    s.lcRequest t false (some token) job = (some 0x13, s.tokenFailed.clearToken) := by
  obtain ⟨n, hs⟩ := State.lcSlot_isSome h
  have judged : s.lcJudge t false (some token) job = (some 0x13, s.tokenFailed) := by
    unfold State.lcJudge
    simp only [h, hs]
    rw [if_pos ht]
    unfold State.tokenFailed
    split
    · rfl
    · rename_i hl
      rw [hb.resolve_right hl]
      rfl
  simp only [State.lcRequest, judged]

theorem State.lcBegun_shows (s : State) (n : Nat) (job : Option Nat) :
    let t := (s.lcBegin n job).clearToken
    t.get R.LCS_PROG_INPROG = 1 ∧ t.get R.LCS_PROG_SLOT = n % 32 ∧ t.get R.LCS_PROG_STEP = 1
      ∧ (∀ c : Fin 3, (t.coreAt c).run = .held) ∧ ∀ w : Fin 8, t.get (R.LCS_TOKEN w) = 0 := by
  refine ⟨?_, ?_, ?_, fun c => ?_, State.get_clearToken _⟩
  · refine (State.get_clearToken_apart _ (by decide)).trans ?_
    exact (State.get_set_apart _ rfl _).trans ((State.get_set_apart _ rfl _).trans (State.get_set ..))
  · exact (State.get_clearToken_apart _ (by decide)).trans ((State.get_set_apart _ rfl _).trans (State.get_set ..))
  · exact (State.get_clearToken_apart _ (by decide)).trans (State.get_set ..)
  · rw [State.coreAt, (State.clearToken_moves _).same .core (by decide), ← State.coreAt, State.coreAt_fin]
    change (s.core.map Core.hold)[c].run = .held
    simp [Core.hold]

/-- A request that its checks refuse leaves its code (R420). -/
def State.lcAnswered (s : State) : Option Nat → State
  | some c => s.set R.LCS_RSTAT c
  | none => s

theorem lcRequest_unlocked {q : Who} {v : Word} {s : State} (h : s.on 0 = true) (hu : q.req ∈ s.key.unlocked)
    {c : Option Nat} {t : State}
    (hr : (s.keyUsed q.req).lcRequest (v.toNat % 16) false (some (s.keyUsed q.req).tokenRegs) none = (c, t)) :
    exec (.lcRequest q v) s = .next (t.lcAnswered c) := by
  refine (State.guarded_next h hu 0x1C008).trans (congrArg _ ?_)
  dsimp only
  rw [hr]
  cases c <;> rfl

theorem State.clearToken_key (s : State) : s.clearToken.key = s.key := s.clearToken_moves.same .key (by decide)

theorem lcRequest_refused (q : Who) (v : Word) (s : State) (h : s.on 0 = true) (hu : q.req ∈ s.key.unlocked) (c : Nat)
    (hc : c < 2 ^ 16) (hr : s.lcRefusal (v.toNat % 16) false = some c) :
    ∃ t, exec (.lcRequest q v) s = .next t ∧ t.get R.LCS_RSTAT = c ∧ q.req ∉ t.key.unlocked
      ∧ ∀ w : Fin 8, t.get (R.LCS_TOKEN w) = 0 := by
  have refused := State.lcRequest_refused (s := s.keyUsed q.req) hr (some (s.keyUsed q.req).tokenRegs) none
  refine ⟨_, lcRequest_unlocked h hu refused, (State.get_set ..).trans (Nat.mod_eq_of_lt hc), ?_, fun w => ?_⟩
  · exact State.not_mem_keyUsed (State.clearToken_key _)
  · exact (State.get_set_apart _ rfl c).trans (State.get_clearToken _ w)

theorem lcRequest_begins (q : Who) (v : Word) (s : State) (h : s.on 0 = true) (hu : q.req ∈ s.key.unlocked)
    (hr : s.lcRefusal (v.toNat % 16) false = none) (h2 : v.toNat % 16 ≠ 2) (h5 : v.toNat % 16 ≠ 5) (n : Nat)
    (hs : s.lcSlot (v.toNat % 16) = some n) :
    ∃ t, exec (.lcRequest q v) s = .next t ∧ t.get R.LCS_PROG_INPROG = 1 ∧ t.get R.LCS_PROG_SLOT = n % 32
      ∧ t.get R.LCS_PROG_STEP = 1 ∧ (∀ c : Fin 3, (t.coreAt c).run = .held) ∧ ∀ w : Fin 8, t.get (R.LCS_TOKEN w) = 0 :=
  ⟨_, lcRequest_unlocked h hu (State.lcRequest_begins (s := s.keyUsed q.req) hr hs h2 h5 _ _), State.lcBegun_shows ..⟩

theorem lcRequest_bad_token (q : Who) (v : Word) (s : State) (h : s.on 0 = true) (hu : q.req ∈ s.key.unlocked)
    (hr : s.lcRefusal (v.toNat % 16) false = none) (ht : v.toNat % 16 = 2 ∨ v.toNat % 16 = 5)
    (hb : s.tokenGood (v.toNat % 16) s.tokenRegs = false ∨ 3 ≤ s.get R.LCS_TOKFAIL) :
    ∃ t, exec (.lcRequest q v) s = .next t ∧ t.get R.LCS_RSTAT = 0x13
      ∧ t.get R.LCS_PROG_INPROG = s.get R.LCS_PROG_INPROG
      ∧ (s.get R.LCS_TOKFAIL < 3 → t.get R.LCS_TOKFAIL = s.get R.LCS_TOKFAIL + 1)
      ∧ ∀ w : Fin 8, t.get (R.LCS_TOKEN w) = 0 := by
  refine ⟨_, lcRequest_unlocked h hu (State.lcRequest_bad_token (s := s.keyUsed q.req) hr ht hb none),
    State.get_set .., ?_, fun hl => ?_, fun w => (State.get_set_apart _ rfl _).trans (State.get_clearToken _ w)⟩
  · refine (State.get_set_apart _ rfl _).trans ((State.get_clearToken_apart _ (by decide)).trans ?_)
    unfold State.tokenFailed
    split
    · rfl
    · exact State.get_inc_apart _ rfl
  · refine (State.get_set_apart _ rfl _).trans ((State.get_clearToken_apart _ (by decide)).trans ?_)
    rw [State.tokenFailed, if_neg (show ¬ 3 ≤ (s.keyUsed q.req).get R.LCS_TOKFAIL from Nat.not_le.mpr hl), State.get_inc]
    change min 255 (s.get R.LCS_TOKFAIL + 1) = _
    omega

theorem lcRequest_locked (q : Who) (v : Word) (s : State) (h : s.on 0 = true) (hu : q.req ∉ s.key.unlocked) :
    exec (.lcRequest q v) s = .next ((s.reply q.req .ok 0).lockViolation q 0 0x1C008) :=
  (State.via_next h).trans (congrArg _ (if_neg hu))

/-! ### SCRAP (R422) -/

theorem State.seq_resp_onlyIn (s : State) (q : Who) (z : SeqSt) :
    OnlyIn [.seq, .resp] s { s.reply q.req .ok 0 with seq := z } :=
  Moves.onlyIn (K := partsOf [.seq, .resp]) _
    (((s.reply_moves ..).mono (by decide)).step (State.upd_seq_moves ..) (by decide)) (by decide)

section
variable {q : Who} {c : Nat} {s : State} (h : s.on 0 = true) (hw : q.sealedW = true) (hk : kickCore q.req = some c)
include h hw hk

/-- A write of LCS_SCRAP by a strand in the SEALED world. -/
theorem State.writeScrap_next (v : Nat) :
    (.next (s.via q.req 0 fun s => s.writeScrap q v) : Out) = .next
      (if s.seq.scrap = some q.req then
        let u : State := { s.reply q.req .ok 0 with seq := { s.seq with scrap := none } }
        if v = s.get (R.SYS_DEVID 0) then
          (let (r, u) := u.lcRequest 7 true none none
           match r with
           | some code => u.set R.LCS_RSTAT code
           | none => u)
        else u
      else if v = 0x5C4A then { s.reply q.req .ok 0 with seq := { s.seq with scrap := some q.req } }
      else s.reply q.req .ok 0) := by
  refine (State.via_next h).trans (congrArg _ ?_)
  have strand : reqCore q.req = some c := hk
  unfold State.writeScrap
  rw [strand]
  refine (if_neg (by simp [hw])).trans ?_
  rfl

theorem lcScrapArm_arms (hs : s.seq.scrap ≠ some q.req) :
    ∃ t, exec (.lcScrapArm q) s = .next t ∧ t.seq.scrap = some q.req ∧ OnlyIn [.seq, .resp] s t :=
  ⟨_, (State.writeScrap_next h hw hk 0x5C4A).trans (congrArg _ ((if_neg hs).trans (if_pos rfl))), rfl,
    s.seq_resp_onlyIn q _⟩

theorem lcScrapConfirm_mismatch (hs : s.seq.scrap = some q.req) (v : Word) (hv : v.toNat ≠ s.get (R.SYS_DEVID 0)) :
    ∃ t, exec (.lcScrapConfirm q v) s = .next t ∧ t.seq.scrap = none ∧ OnlyIn [.seq, .resp] s t :=
  ⟨_, (State.writeScrap_next h hw hk v.toNat).trans (congrArg _ ((if_pos hs).trans (if_neg hv))), rfl,
    s.seq_resp_onlyIn q _⟩

theorem lcScrapConfirm_begins (hs : s.seq.scrap = some q.req) (v : Word) (hv : v.toNat = s.get (R.SYS_DEVID 0))
    (hr : s.lcRefusal 7 true = none) (n : Nat) (hn : s.lcSlot 7 = some n) :
    ∃ t, exec (.lcScrapConfirm q v) s = .next t ∧ t.get R.LCS_PROG_INPROG = 1 ∧ t.get R.LCS_PROG_SLOT = n % 32 := by
  set u : State := { s.reply q.req .ok 0 with seq := { s.seq with scrap := none } } with hu
  have begun : u.lcRequest 7 true none none = (none, (u.lcBegin n none).clearToken) :=
    State.lcRequest_begins (s := u) hr hn (by decide) (by decide) none none
  obtain ⟨progress, slot, -⟩ := u.lcBegun_shows n none
  refine ⟨(u.lcBegin n none).clearToken, ?_, progress, slot⟩
  refine (State.writeScrap_next h hw hk v.toNat).trans (congrArg _ ((if_pos hs).trans ((if_pos hv).trans ?_)))
  rw [← hu, begun]

end

theorem lcScrapTimeout_disarms (s : State) :
    ∃ t, exec .lcScrapTimeout s = .next t ∧ t.seq.scrap = none ∧ OnlyIn [.seq] s t :=
  ⟨_, rfl, rfl, Moves.onlyIn _ (State.upd_seq_moves ..) (by decide)⟩

/-! ### Fuse programs (R416, R430) -/

/-- What a fuse command burns: bits of a row, or the lock of a row. -/
def State.fuseJob (s : State) (v : Nat) : Nat × Nat :=
  if v = 1 then (s.get R.LCS_FADDR, s.get R.LCS_FDATA)
  else (215 + s.get R.LCS_FADDR / 32, 2 ^ (s.get R.LCS_FADDR % 32))

section
variable {q : Who} {s : State} (h : s.on 0 = true) (hu : q.req ∈ s.key.unlocked)
  (hb : s.flag R.LCS_FSTAT_BUSY = false) (hp : s.flag R.LCS_PROG_INPROG = false)
  (hl : s.rowLocked (s.get R.LCS_FADDR) = false)
include h hu hb hp hl

/-- A fuse command that nothing in progress and no row lock refuses, by its rights. -/
theorem State.writeFcmd_next (v : Nat) (hv : v = 1 ∨ v = 2) :
    (.next (s.via q.req 0 fun s => s.writeFcmd q v) : Out) = .next
      (if s.rowAllowed q v (s.get R.LCS_FADDR) then
        State.set { s.keyUsed q.req with lc := { s.lc with fuse := some (s.fuseJob v) } } R.LCS_FSTAT_BUSY 1
      else (s.keyUsed q.req).set R.LCS_FSTAT_STATUS 0x13) := by
  have small : v % 4 = v := by omega
  have busy : ¬ ((s.keyUsed q.req).flag R.LCS_FSTAT_BUSY || (s.keyUsed q.req).flag R.LCS_PROG_INPROG) = true := by
    change ¬ (s.flag R.LCS_FSTAT_BUSY || s.flag R.LCS_PROG_INPROG) = true
    simp [hb, hp]
  have free : ¬ (s.keyUsed q.req).rowLocked (s.get R.LCS_FADDR) = true := by
    change ¬ s.rowLocked (s.get R.LCS_FADDR) = true
    simp [hl]
  refine (State.guarded_next h hu 0x1C048).trans (congrArg _ ?_)
  rw [small]
  refine (if_neg (by omega)).trans ((if_neg busy).trans ((if_neg free).trans ?_))
  change (if !s.rowAllowed q v (s.get R.LCS_FADDR) then _ else _) = _
  cases s.rowAllowed q v (s.get R.LCS_FADDR)
  · rfl
  · rfl

theorem fuseProgram_starts (ha : s.rowAllowed q 1 (s.get R.LCS_FADDR) = true) :
    ∃ t, exec (.fuseProgram q) s = .next t ∧ t.get R.LCS_FSTAT_BUSY = 1
      ∧ t.lc.fuse = some (s.get R.LCS_FADDR, s.get R.LCS_FDATA) ∧ t.fuse = s.fuse :=
  ⟨_, (State.writeFcmd_next h hu hb hp hl 1 (.inl rfl)).trans (congrArg _ (if_pos ha)), State.get_set .., rfl, rfl⟩

theorem fuseLockrow_starts (ha : s.rowAllowed q 2 (s.get R.LCS_FADDR) = true) :
    ∃ t, exec (.fuseLockrow q) s = .next t ∧ t.get R.LCS_FSTAT_BUSY = 1
      ∧ t.lc.fuse = some (215 + s.get R.LCS_FADDR / 32, 2 ^ (s.get R.LCS_FADDR % 32)) ∧ t.fuse = s.fuse :=
  ⟨_, (State.writeFcmd_next h hu hb hp hl 2 (.inr rfl)).trans (congrArg _ (if_pos ha)), State.get_set .., rfl, rfl⟩

theorem fuseProgram_refused (ha : s.rowAllowed q 1 (s.get R.LCS_FADDR) = false) :
    ∃ t, exec (.fuseProgram q) s = .next t ∧ t.get R.LCS_FSTAT_STATUS = 0x13 ∧ t.lc.fuse = s.lc.fuse :=
  ⟨_, (State.writeFcmd_next h hu hb hp hl 1 (.inl rfl)).trans (congrArg _ (if_neg (by simp [ha]))), State.get_set .., rfl⟩

end

theorem fuseProgramDone_burns (r : Fin 256) (bits : Nat) (s : State) (h : s.lc.fuse = some (r.val, bits)) :
    ∃ t, exec (.fuseProgramDone 0) s = .next t ∧ t.fuse.at r = s.fuse.at r ||| BitVec.ofNat 32 bits
      ∧ (∀ k : Fin 256, k ≠ r → t.fuse.at k = s.fuse.at k) ∧ t.get R.LCS_FSTAT_BUSY = 0
      ∧ t.get R.LCS_FSTAT_STATUS = 0 ∧ t.lc.fuse = none := by
  have word : BitVec.ofNat 32 (bits &&& (2 ^ 32 - 1)) = BitVec.ofNat 32 bits := by
    rw [Nat.and_two_pow_sub_one_eq_mod]
    exact BitVec.eq_of_toNat_eq (by simp)
  have ended : s.fuseEnd 0 =
      ((State.set { s.burn r (bits &&& (2 ^ 32 - 1)) with lc := { s.lc with fuse := none } } R.LCS_FSTAT_BUSY 0).set
        R.LCS_FSTAT_STATUS 0) := by
    unfold State.fuseEnd
    rw [h]
    simp only [Nat.and_zero, Nat.zero_and, Nat.sub_zero]
    rfl
  refine ⟨_, congrArg Host.Outcome.next ended, ?_, fun k hk => ?_, ?_, State.get_set .., rfl⟩
  · change (s.fuse.upd r fun w => w ||| BitVec.ofNat 32 (bits &&& (2 ^ 32 - 1))).at r = _
    rw [Bank.at_upd _ r.isLt, word]
  · exact Bank.at_put_ne s.fuse (fun e => hk (Fin.ext e.symm)) _
  · exact (State.get_set_apart _ rfl _).trans (State.get_set ..)

/-! ### The steps of a transition (R423, R424) -/

theorem State.lcTell_lc (s : State) : s.lcTell.lc.slot = s.lc.slot := by
  unfold State.lcTell
  dsimp only
  split <;> rfl

theorem lcTransitionStepDone_next (n : Nat) (s : State) (h : s.lc.slot = some n) (hj : s.lc.step < lcSteps n) :
    ∃ t, exec .lcTransitionStepDone s = .next t ∧ t.lc.step = s.lc.step + 1 ∧ t.lc.slot = some n
      ∧ t.get R.LCS_PROG_STEP = (s.lc.step + 1) % 16 := by
  set j := s.lc.step
  set i := 8 * n + j - 1
  set u := (s.lcEffect n j).burnAll (3 + i / 32) (2 ^ (i % 32))
  set w := if j = 1 then u.lcTell else u
  have stepped : s.lcStep = State.set { w with lc := { w.lc with step := j + 1 } } R.LCS_PROG_STEP (j + 1) := by
    unfold State.lcStep
    rw [h]
    exact if_pos hj
  have kept : u.lc = s.lc :=
    ((State.burnAll_moves ..).same .lc (by decide)).trans ((State.lcEffect_moves ..).same .lc (by decide))
  refine ⟨_, congrArg Host.Outcome.next stepped, rfl, ?_, State.get_set ..⟩
  change w.lc.slot = _
  rw [← h, ← kept]
  by_cases h1 : j = 1
  · rw [show w = u.lcTell from if_pos h1, State.lcTell_lc]
  · rw [show w = u from if_neg h1]

theorem lcTransitionStepDone_last (n : Nat) (s : State) (h : s.lc.slot = some n) (hj : lcSteps n ≤ s.lc.step) :
    ∃ u : State, exec .lcTransitionStepDone s = .next (u.askReset 8) ∧ u.lc.slot = none := by
  set w := (s.lcEffect n s.lc.step).burnAll 0 (2 ^ lcBit n)
  have stepped : s.lcStep = State.askReset { w with lc := { w.lc with slot := none } } 8 := by
    unfold State.lcStep
    rw [h]
    exact if_neg (Nat.not_lt.mpr hj)
  exact ⟨_, congrArg Host.Outcome.next stepped, rfl⟩

/-- Settles O48: the words of SYS_KEY, a request by the answer of its checks, SCRAP, the fuse commands and the steps of a
transition. -/
theorem lifeCycle : Obligations.LifeCycle :=
  ⟨sysKeyWrite_unlocks, sysKeyWrite_second_alone, sysKeyUnlockExpiry_ends,
    fun q v s h hu => ⟨lcRequest_refused q v s h hu, lcRequest_begins q v s h hu, lcRequest_bad_token q v s h hu⟩,
    lcRequest_locked,
    fun _ _ _ h hw hk => ⟨lcScrapArm_arms h hw hk, lcScrapConfirm_mismatch h hw hk, lcScrapConfirm_begins h hw hk⟩,
    lcScrapTimeout_disarms,
    fun _ _ h hu hb hp hl => ⟨fuseProgram_starts h hu hb hp hl, fuseLockrow_starts h hu hb hp hl,
      fuseProgram_refused h hu hb hp hl⟩,
    fuseProgramDone_burns, lcTransitionStepDone_next, lcTransitionStepDone_last⟩

end Sys2Proof.Machine
end

section
/-!
PROOFS of the statement on the clock monitor (O49, R462 to R468, R472): the fields that a switch and a window's decision
write, the deviations a window publishes, and each case of the decision.
-/

namespace Sys2Proof.Machine

/-! ### Frames of listed registers and of PD6 -/

/-- The registers of a list, and every register of PD6, which events change. -/
def Fld.listedOr6 (L : List Fld) (f : Fld) : Prop := f ∈ L ∨ f.pd = 6

theorem RegsOnly.get_outside {L : List Fld} {s t : State} (h : RegsOnly (Fld.listedOr6 L) s t) {f : Fld}
    (hf : L.all (fun g => g.apart f) = true) (h6 : f.pd ≠ 6) : t.get f = s.get f :=
  h f fun hm => hm.elim (fun hm => Fld.ne_of_apart (List.all_eq_true.mp hf f hm) rfl) h6

theorem RegsOnly.raise_listed {L : List Fld} {s t : State} (h : RegsOnly (Fld.listedOr6 L) s t) (n : Nat) :
    RegsOnly (Fld.listedOr6 L) s (t.raise n) :=
  h.raise fun f hf => .inr (by rcases hf with rfl | rfl <;> rfl)

theorem RegsOnly.flagRise_listed {L : List Fld} {s t : State} (h : RegsOnly (Fld.listedOr6 L) s t) {f : Fld} (hf : f ∈ L)
    (n : Nat) : RegsOnly (Fld.listedOr6 L) s (t.flagRise f n) := by
  unfold State.flagRise
  split
  · exact (h.set (.inl hf) 1).raise_listed n
  · exact h

theorem RegsOnly.advise {P : Fld → Prop} {s t : State} (h : RegsOnly P s t) (hc : P R.HLT_CAUSE)
    (hs : P R.HLT_STAT_SVCREQ) (b : Nat) : RegsOnly P s (t.advise b) := by
  have cause : RegsOnly P s (t.setBit R.HLT_CAUSE b) := h.set hc _
  unfold State.advise
  split
  · exact h
  · dsimp only
    split
    · exact cause
    · exact RegsOnly.set cause hs 1

/-! ### A switch (R465, R466, R473) -/

/-- The PLL in RELOCK on reference `e`. -/
def State.clkRelocked (s : State) (e : Nat) : State :=
  let s := ((s.set R.CLK_STAT_RELOCK 1).set R.CLK_STAT_LOCK 0).set R.CLK_STAT_HOLDOVER 0
  ((s.set R.CLK_STAT_ACTIVE e).setB R.CLK_STAT_ONRC (decide (e = 2))).set R.CLK_STAT_SWITCHED 1

/-- The state after a switch to reference `e`, before the advisory. -/
def State.clkSwitched (s : State) (e : Nat) : State :=
  { (((s.clkRelocked e).raise 186).inc R.CLK_SWCNT).set R.CLK_LASTSW s.time.tb.toNat with
    clk := { prev := none, holdoff := true, loss := false } }

theorem State.clkSwitch_cases (s : State) (e : Nat) :
    s.clkSwitch e = (s.clkSwitched e).advise 3 ∨ s.clkSwitch e = s.clkSwitched e := ite_eq_or_eq ..

/-- The fields that a switch writes beside those of PD6. -/
def clkSwitchFields : List Fld :=
  [R.CLK_STAT_RELOCK, R.CLK_STAT_LOCK, R.CLK_STAT_HOLDOVER, R.CLK_STAT_ACTIVE, R.CLK_STAT_ONRC, R.CLK_STAT_SWITCHED,
    R.CLK_SWCNT, R.CLK_LASTSW, R.HLT_CAUSE, R.HLT_STAT_SVCREQ]

theorem State.clkRelocked_regs (s : State) (e : Nat) : RegsOnly (Fld.listedOr6 clkSwitchFields) s (s.clkRelocked e) := by
  have locks := (((RegsOnly.refl (Fld.listedOr6 clkSwitchFields) s).set (f := R.CLK_STAT_RELOCK) (.inl (by decide)) 1).set
    (f := R.CLK_STAT_LOCK) (.inl (by decide)) 0).set (f := R.CLK_STAT_HOLDOVER) (.inl (by decide)) 0
  exact ((locks.set (f := R.CLK_STAT_ACTIVE) (.inl (by decide)) e).set
    (f := R.CLK_STAT_ONRC) (.inl (by decide)) (b2n (decide (e = 2)))).set (f := R.CLK_STAT_SWITCHED) (.inl (by decide)) 1

theorem State.clkSwitched_regs (s : State) (e : Nat) : RegsOnly (Fld.listedOr6 clkSwitchFields) s (s.clkSwitched e) :=
  (((s.clkRelocked_regs e).raise_listed 186).set (f := R.CLK_SWCNT) (.inl (by decide)) _).set
    (f := R.CLK_LASTSW) (.inl (by decide)) _

theorem State.get_clkSwitched (s : State) (e : Nat) {f : Fld} (hn : R.CLK_SWCNT.apart f = true)
    (hl : R.CLK_LASTSW.apart f = true) (h6 : f.pd ≠ 6) : (s.clkSwitched e).get f = (s.clkRelocked e).get f :=
  (State.get_set_apart _ hl _).trans ((State.get_inc_apart _ hn).trans (State.get_raise_apart _ 186 h6))

theorem State.clkRelocked_shows (s : State) (e : Nat) :
    (s.clkRelocked e).get R.CLK_STAT_ACTIVE = e % 4 ∧ (s.clkRelocked e).get R.CLK_STAT_RELOCK = 1
      ∧ (s.clkRelocked e).get R.CLK_STAT_LOCK = 0 ∧ (s.clkRelocked e).get R.CLK_STAT_SWITCHED = 1
      ∧ (s.clkRelocked e).get R.CLK_SWCNT = s.get R.CLK_SWCNT := by
  refine ⟨?_, ?_, ?_, ?_, ?_⟩ <;>
    simp (disch := with_unfolding_all exact of_decide_eq_true rfl) only [State.clkRelocked, State.get_set_apart,
      State.get_setB_apart, State.get_set] <;> rfl

theorem State.clkSwitch_regs (s : State) (e : Nat) : RegsOnly (Fld.listedOr6 clkSwitchFields) s (s.clkSwitch e) := by
  rcases s.clkSwitch_cases e with h | h
  · rw [h]
    exact (s.clkSwitched_regs e).advise (.inl (by decide)) (.inl (by decide)) 3
  · rw [h]
    exact s.clkSwitched_regs e

theorem State.get_clkSwitch (s : State) (e : Nat) {f : Fld} (hc : R.HLT_CAUSE.apart f = true)
    (hs : R.HLT_STAT_SVCREQ.apart f = true) : (s.clkSwitch e).get f = (s.clkSwitched e).get f := by
  rcases s.clkSwitch_cases e with h | h
  · rw [h, State.get_advise_elsewhere _ _ hc hs]
  · rw [h]

theorem State.clkSwitch_clk (s : State) (e : Nat) :
    (s.clkSwitch e).clk = { prev := none, holdoff := true, loss := false } := by
  rcases s.clkSwitch_cases e with h | h
  · rw [h, (State.advise_moves _ 3).same .clk (by decide)]
    rfl
  · rw [h]
    rfl

theorem State.clkSwitch_shows (s : State) (e : Nat) :
    (s.clkSwitch e).get R.CLK_STAT_ACTIVE = e % 4 ∧ (s.clkSwitch e).flag R.CLK_STAT_RELOCK = true
      ∧ (s.clkSwitch e).flag R.CLK_STAT_LOCK = false ∧ (s.clkSwitch e).flag R.CLK_STAT_SWITCHED = true
      ∧ (s.clkSwitch e).clk.holdoff = true ∧ (s.clkSwitch e).get R.CLK_LASTSW = s.time.tb.toNat % 2 ^ 32
      ∧ (s.clkSwitch e).get R.CLK_SWCNT = min 255 (s.get R.CLK_SWCNT + 1) := by
  obtain ⟨active, relock, lock, switched, count⟩ := s.clkRelocked_shows e
  have early {f : Fld} (hc : R.HLT_CAUSE.apart f = true) (hs : R.HLT_STAT_SVCREQ.apart f = true)
      (hn : R.CLK_SWCNT.apart f = true) (hl : R.CLK_LASTSW.apart f = true) (h6 : f.pd ≠ 6) :
      (s.clkSwitch e).get f = (s.clkRelocked e).get f := (s.get_clkSwitch e hc hs).trans (s.get_clkSwitched e hn hl h6)
  refine ⟨?_, ?_, ?_, ?_, ?_, ?_, ?_⟩
  · rw [early rfl rfl rfl rfl (by decide), active]
  · rw [State.flag, early rfl rfl rfl rfl (by decide), relock]
    rfl
  · rw [State.flag, early rfl rfl rfl rfl (by decide), lock]
    rfl
  · rw [State.flag, early rfl rfl rfl rfl (by decide), switched]
    rfl
  · rw [State.clkSwitch_clk]
  · rw [State.get_clkSwitch s e rfl rfl, State.clkSwitched]
    exact State.get_set ..
  · rw [State.get_clkSwitch s e rfl rfl, State.clkSwitched]
    refine (State.get_set_apart _ rfl _).trans ((State.get_inc _ _).trans ?_)
    rw [State.get_raise_apart _ _ (by decide), count]
    rfl

/-! ### The estimate and the decision (R463 to R466, R472) -/

/-- The estimate is one of the three references and, where a precise one is selected, another. -/
theorem State.clkEstimate_bound {s : State} {e : Nat} {th : Option Nat} (h : s.clkEstimate = some (e, th)) :
    (th.isSome = true → e ≤ 2) ∧ (s.get R.CLK_STAT_ACTIVE ≤ 1 → e ≤ 2 ∧ e ≠ s.get R.CLK_STAT_ACTIVE) := by
  unfold State.clkEstimate at h
  dsimp only at h
  split at h
  · rename_i ha
    cases h
    omega
  split at h
  · rename_i ha
    cases h
    omega
  split at h
  · cases h
  rename_i ha
  split at h
  · cases h
    exact ⟨nofun, fun hl => absurd hl ha⟩
  split at h
  · cases h
    exact ⟨nofun, fun hl => absurd hl ha⟩
  split at h
  · cases h
    exact ⟨nofun, fun hl => absurd hl ha⟩
  · cases h

/-- The state in which an estimate is known and the inner window judged. -/
def State.clkMarked (s : State) (e : Nat) : State :=
  if s.get R.CLK_WIN_INNER < (s.clkDev e).natAbs then (s.set R.CLK_STAT_NOMAJ 0).flagRise R.CLK_STAT_INNER 186
  else s.set R.CLK_STAT_NOMAJ 0

theorem State.clkDev_apart {s t : State} (r : Nat) (ha : t.get R.CLK_STAT_ACTIVE = s.get R.CLK_STAT_ACTIVE)
    (hr : t.get (clkDevReg r) = s.get (clkDevReg r)) : t.clkDev r = s.clkDev r := by
  rw [State.clkDev, State.clkDev, ha, State.gets_congr hr]

theorem clkDevReg_mem (r : Nat) : clkDevReg r ∈ [R.CLK_DEVX, R.CLK_DEVW, R.CLK_DEVR, R.CLK_DEVT] := by
  unfold clkDevReg
  split
  · decide
  split
  · decide
  split <;> decide

theorem lostFlag_mem (r : Nat) : lostFlag r ∈ [R.CLK_STAT_LOSTX, R.CLK_STAT_LOSTW, R.CLK_STAT_LOSTR] := by
  unfold lostFlag
  split
  · decide
  split <;> decide

/-- What is decided of a qualified estimate after the judgement of the windows. -/
def State.clkJudge (s : State) (e d : Nat) (thr : Option Nat) : State :=
  let ok := match thr with
    | some t => decide (t < d)
    | none => true
  if !ok || !s.flag R.CLK_CFG_SWEN then { s with clk := { s.clk with prev := none } }
  else
    let again := match thr with
      | some _ => s.clk.prev.isSome
      | none => decide (s.clk.prev = some e)
    if !again then { s with clk := { s.clk with prev := some e } }
    else if s.clk.holdoff then s.flagRise R.CLK_STAT_HELD 186
    else s.clkSwitch e

theorem State.clkDecide_some {s : State} {e : Nat} {thr : Option Nat} (h : s.clkEstimate = some (e, thr)) :
    s.clkDecide = (s.clkMarked e).clkJudge e (s.clkDev e).natAbs thr := by
  have dev : (s.set R.CLK_STAT_NOMAJ 0).clkDev e = s.clkDev e := by
    refine State.clkDev_apart e (State.get_set_apart s rfl 0) (State.get_set_apart s ?_ 0)
    exact (show ∀ f ∈ [R.CLK_DEVX, R.CLK_DEVW, R.CLK_DEVR, R.CLK_DEVT], R.CLK_STAT_NOMAJ.apart f = true by decide)
      _ (clkDevReg_mem e)
  have inner : (s.set R.CLK_STAT_NOMAJ 0).get R.CLK_WIN_INNER = s.get R.CLK_WIN_INNER := State.get_set_apart s rfl 0
  unfold State.clkDecide State.clkMarked
  rw [h, ← dev, ← inner]
  rfl

/-- The fields that a window's decision writes beside those of PD6. -/
def clkDecideFields : List Fld :=
  clkSwitchFields ++ [R.CLK_STAT_NOMAJ, R.CLK_STAT_FAULT, R.CLK_STAT_INNER, R.CLK_STAT_HELD]

theorem State.clkMarked_regs (s : State) (e : Nat) :
    RegsOnly (Fld.listedOr6 [R.CLK_STAT_NOMAJ, R.CLK_STAT_INNER]) s (s.clkMarked e) := by
  have cleared : RegsOnly (Fld.listedOr6 [R.CLK_STAT_NOMAJ, R.CLK_STAT_INNER]) s (s.set R.CLK_STAT_NOMAJ 0) :=
    (RegsOnly.refl _ s).set (.inl (by decide)) 0
  unfold State.clkMarked
  split
  · exact cleared.flagRise_listed (by decide) 186
  · exact cleared

theorem State.clkMarked_clk (s : State) (e : Nat) : (s.clkMarked e).clk = s.clk := by
  unfold State.clkMarked State.flagRise
  split
  · split
    · exact State.raise_clk ..
    · rfl
  · rfl

theorem State.clkMarked_time (s : State) (e : Nat) : (s.clkMarked e).time = s.time := by
  unfold State.clkMarked State.flagRise
  split
  · split
    · exact (State.raise_moves ..).same .time (by decide)
    · rfl
  · rfl

theorem State.flag_clkMarked_nomaj (s : State) (e : Nat) : (s.clkMarked e).flag R.CLK_STAT_NOMAJ = false := by
  unfold State.clkMarked
  split
  · exact (State.flag_congr (State.get_flagRise_apart _ rfl (by decide) 186)).trans (State.flag_set_zero ..)
  · exact State.flag_set_zero ..

theorem State.flag_clkMarked_inner {s : State} {e : Nat} (h : s.get R.CLK_WIN_INNER < (s.clkDev e).natAbs) :
    (s.clkMarked e).flag R.CLK_STAT_INNER = true := by
  rw [State.clkMarked, if_pos h]
  exact State.flag_flagRise _ rfl (by decide) 186

theorem State.clkJudge_regs (s : State) (e d : Nat) (thr : Option Nat) :
    RegsOnly (Fld.listedOr6 (R.CLK_STAT_HELD :: clkSwitchFields)) s (s.clkJudge e d thr) := by
  have same : RegsOnly (Fld.listedOr6 (R.CLK_STAT_HELD :: clkSwitchFields)) s s := RegsOnly.refl _ s
  unfold State.clkJudge
  dsimp only
  generalize (match thr with | some t => decide (t < d) | none => true) = ok
  generalize (match thr with | some _ => s.clk.prev.isSome | none => decide (s.clk.prev = some e)) = again
  split
  · exact same
  split
  · exact same
  split
  · exact same.flagRise_listed (by decide) 186
  · exact (s.clkSwitch_regs e).mono fun f hf => hf.imp_left (List.mem_cons_of_mem _)

theorem Fld.listedOr6_mono {L M : List Fld} (h : ∀ f ∈ L, f ∈ M) (f : Fld) (hf : Fld.listedOr6 L f) : Fld.listedOr6 M f :=
  hf.imp_left (h f)

/-- The state in which no estimate is known. -/
def State.clkUndecided (s : State) : State :=
  ((s.set R.CLK_STAT_NOMAJ 1).flagRise R.CLK_STAT_FAULT 186).advise 3

theorem State.clkDecide_none {s : State} (h : s.clkEstimate = none) :
    s.clkDecide = { s.clkUndecided with clk := { s.clkUndecided.clk with prev := none } } := by
  unfold State.clkDecide
  rw [h]
  rfl

theorem State.clkUndecided_regs (s : State) : RegsOnly
    (Fld.listedOr6 [R.CLK_STAT_NOMAJ, R.CLK_STAT_FAULT, R.HLT_CAUSE, R.HLT_STAT_SVCREQ]) s s.clkUndecided :=
  ((RegsOnly.set (RegsOnly.refl _ s) (.inl (by decide)) 1).flagRise_listed (by decide) 186).advise (.inl (by decide))
    (.inl (by decide)) 3

theorem State.clkUndecided_shows (s : State) : s.clkUndecided.flag R.CLK_STAT_FAULT = true
    ∧ s.clkUndecided.flag R.CLK_STAT_NOMAJ = true ∧ s.clkUndecided.bit R.HLT_CAUSE 3 = true := by
  refine ⟨?_, ?_, State.bit_advise _ (by decide)⟩
  · rw [State.clkUndecided, State.flag_congr (State.get_advise_elsewhere _ _ rfl rfl)]
    exact State.flag_flagRise _ rfl (by decide) 186
  · rw [State.clkUndecided, State.flag_congr (State.get_advise_elsewhere _ _ rfl rfl),
      State.flag_congr (State.get_flagRise_apart _ rfl (by decide) 186)]
    exact State.flag_set_one s rfl

theorem State.clkDecide_regs (s : State) : RegsOnly (Fld.listedOr6 clkDecideFields) s s.clkDecide := by
  match h : s.clkEstimate with
  | none =>
    rw [State.clkDecide_none h]
    exact s.clkUndecided_regs.mono (Fld.listedOr6_mono (by decide))
  | some (e, thr) =>
    rw [State.clkDecide_some h]
    exact ((s.clkMarked_regs e).mono (Fld.listedOr6_mono (by decide))).trans
      ((State.clkJudge_regs _ _ _ _).mono (Fld.listedOr6_mono (by decide)))

/-! ### What a window publishes (R462) -/

theorem State.clkPut_regs (s : State) (r n : Nat) : RegsOnly (fun f => f = clkDevReg r) s (s.clkPut r n) := by
  unfold State.clkPut
  split
  · exact RegsOnly.of_set _ _ _
  · split
    · exact RegsOnly.of_set _ (clkDevReg r) _
    · exact RegsOnly.of_set _ _ _

/-- The deviation register of `r` shows a count of `n` under the selected reference `a`. -/
def Published (a r n : Nat) (t : State) : Prop :=
  (r = a → t.get (clkDevReg r) = 0)
    ∧ (r ≠ a → n ≠ 0 → t.gets (clkDevReg r) = max (-32767) (min 32767 ((2 ^ 20 * ((1500000 : Int) - n)).fdiv n)))

theorem Published.congr {a r n : Nat} {s t : State} (h : Published a r n s)
    (ht : t.get (clkDevReg r) = s.get (clkDevReg r)) : Published a r n t :=
  ⟨fun hr => ht.trans (h.1 hr), fun hr hn => (State.gets_congr ht).trans (h.2 hr hn)⟩

theorem devOfCount_eq (n : Nat) :
    devOfCount n = max (-32767) (min 32767 ((2 ^ 20 * ((1500000 : Int) - n)).fdiv n)) := by
  unfold devOfCount satI
  split
  · omega
  · split <;> omega

theorem clkDevReg_w (r : Nat) : (clkDevReg r).w = 16 :=
  (show ∀ f ∈ [R.CLK_DEVX, R.CLK_DEVW, R.CLK_DEVR, R.CLK_DEVT], f.w = 16 by decide) _ (clkDevReg_mem r)

theorem State.clkPut_publishes (s : State) (r n : Nat) : Published (s.get R.CLK_STAT_ACTIVE) r n (s.clkPut r n) := by
  constructor
  · intro hr
    rw [State.clkPut, if_pos hr, State.get_set, Nat.zero_mod]
  · intro hr hn
    rw [State.clkPut, if_neg hr, if_neg hn, ← devOfCount_eq]
    refine State.gets_sets s (by rw [clkDevReg_w]; decide) ?_ ?_
    · rw [clkDevReg_w, devOfCount_eq]
      omega
    · rw [clkDevReg_w, devOfCount_eq]
      omega

/-- The state after the four counts of a window. -/
def State.clkCounted (s : State) (nx nw nr nt : Nat) : State :=
  (((s.clkPut 0 nx).clkPut 1 nw).clkPut 2 nr).clkPut 3 nt

/-- The state after the references that were good through the whole window are no longer lost. -/
def State.clkFound (s : State) (good : BitVec 3) : State :=
  (List.range 3).foldl (fun s r => if good.toNat.testBit r then s.set (lostFlag r) 0 else s) s

theorem State.get_clkPut_apart (s : State) (r n : Nat) {f : Fld} (h : (clkDevReg r).apart f = true) :
    (s.clkPut r n).get f = s.get f := s.clkPut_regs r n f (Fld.ne_of_apart h).symm

theorem State.get_clkCounted_apart (s : State) (nx nw nr nt : Nat) {f : Fld}
    (h : ∀ r ∈ [0, 1, 2, 3], (clkDevReg r).apart f = true) : (s.clkCounted nx nw nr nt).get f = s.get f :=
  (State.get_clkPut_apart _ 3 nt (h 3 (by decide))).trans ((State.get_clkPut_apart _ 2 nr (h 2 (by decide))).trans
    ((State.get_clkPut_apart _ 1 nw (h 1 (by decide))).trans (State.get_clkPut_apart s 0 nx (h 0 (by decide)))))

theorem State.clkCounted_publishes (s : State) (nx nw nr nt r n : Nat)
    (h : (r, n) ∈ [(0, nx), (1, nw), (2, nr), (3, nt)]) :
    Published (s.get R.CLK_STAT_ACTIVE) r n (s.clkCounted nx nw nr nt) := by
  have active (s : State) (r n : Nat) : (s.clkPut r n).get R.CLK_STAT_ACTIVE = s.get R.CLK_STAT_ACTIVE :=
    State.get_clkPut_apart s r n ((show ∀ f ∈ [R.CLK_DEVX, R.CLK_DEVW, R.CLK_DEVR, R.CLK_DEVT],
      f.apart R.CLK_STAT_ACTIVE = true by decide) _ (clkDevReg_mem r))
  have put (t : State) (r n : Nat) (ht : t.get R.CLK_STAT_ACTIVE = s.get R.CLK_STAT_ACTIVE) :
      Published (s.get R.CLK_STAT_ACTIVE) r n (t.clkPut r n) := ht ▸ t.clkPut_publishes r n
  simp only [List.mem_cons, Prod.mk.injEq, List.not_mem_nil, or_false] at h
  rcases h with ⟨rfl, rfl⟩ | ⟨rfl, rfl⟩ | ⟨rfl, rfl⟩ | ⟨rfl, rfl⟩
  · exact (put s 0 _ rfl).congr ((State.get_clkPut_apart _ 3 _ rfl).trans ((State.get_clkPut_apart _ 2 _ rfl).trans
      (State.get_clkPut_apart _ 1 _ rfl)))
  · exact (put _ 1 _ (active ..)).congr ((State.get_clkPut_apart _ 3 _ rfl).trans (State.get_clkPut_apart _ 2 _ rfl))
  · exact (put _ 2 _ ((active ..).trans (active ..))).congr (State.get_clkPut_apart _ 3 _ rfl)
  · exact put _ 3 _ ((active ..).trans ((active ..).trans (active ..)))

theorem State.get_clkFound_apart (s : State) (good : BitVec 3) {f : Fld} (h : ∀ r ∈ [0, 1, 2], (lostFlag r).apart f = true) :
    (s.clkFound good).get f = s.get f := by
  refine RegsOnly.foldl (P := fun g => ∃ r ∈ [0, 1, 2], g = lostFlag r) (fun r hr s => ?_) s f ?_
  · split
    · exact (RegsOnly.of_set s (lostFlag r) 0).mono fun g hg => ⟨r, hr, hg⟩
    · exact RegsOnly.refl _ s
  · rintro ⟨r, hr, rfl⟩
    exact Fld.ne_of_apart (h r hr) rfl

theorem State.flag_clkFound {good : BitVec 3} {r : Nat} (hr : r < 3) (hg : good.toNat.testBit r = true) (s : State) :
    (s.clkFound good).flag (lostFlag r) = false := by
  suffices all : ∀ (l : List Nat) (s : State), s.flag (lostFlag r) = false ∨ r ∈ l →
      (l.foldl (fun s r => if good.toNat.testBit r then s.set (lostFlag r) 0 else s) s).flag (lostFlag r) = false from
    all _ s (.inr (List.mem_range.mpr hr))
  intro l
  induction l with
  | nil => exact fun s h => h.resolve_right List.not_mem_nil
  | cons i l ih =>
    intro s h
    refine ih _ ?_
    dsimp only
    by_cases hi : i = r
    · subst hi
      rw [if_pos hg]
      exact .inl (State.flag_set_zero ..)
    · refine h.imp (fun h => ?_) fun h => (List.mem_cons.mp h).resolve_left (Ne.symm hi)
      split
      · by_cases hf : lostFlag i = lostFlag r
        · rw [hf]
          exact State.flag_set_zero ..
        · exact (State.flag_congr (State.get_set_ne s hf 0)).trans h
      · exact h

/-! ### The end of a window -/

section
variable (nx nw nr nt : Nat) (good : BitVec 3) (s : State)

/-- The state that a window's end decides on. -/
def State.clkWindow : State := (s.clkCounted nx nw nr nt).clkFound good

theorem State.get_clkWindow {f : Fld} (hd : ∀ r ∈ [0, 1, 2, 3], (clkDevReg r).apart f = true)
    (hl : ∀ r ∈ [0, 1, 2], (lostFlag r).apart f = true) : (s.clkWindow nx nw nr nt good).get f = s.get f :=
  (State.get_clkFound_apart _ good hl).trans (State.get_clkCounted_apart s nx nw nr nt hd)

theorem State.clkWindow_same {p : Part} (hp : (partsOf [.free, .pd 0, .pd 1, .pd 2, .pd 3, .pd 4, .pd 5, .pd 6, .pd 7,
    .pd 8, .pd 9, .pd 10, .pd 11, .pd 12]).testBit p.idx = false) : p.same s (s.clkWindow nx nw nr nt good) := by
  have counted : Moves (partsOf [.free, .pd 0, .pd 1, .pd 2, .pd 3, .pd 4, .pd 5, .pd 6, .pd 7,
      .pd 8, .pd 9, .pd 10, .pd 11, .pd 12]) s (s.clkCounted nx nw nr nt) :=
    ((((State.clkPut_moves s 0 nx).step (State.clkPut_moves ..) (by decide)).step (State.clkPut_moves ..)
      (by decide)).step (State.clkPut_moves ..) (by decide)).mono (by decide)
  refine (Moves.foldl counted fun t r => ?_).same p hp
  split
  · exact (State.set_moves (lostFlag_pd r)).mono (by decide)
  · exact .refl ..

end

/-- The end of a window decides on the state that its counts leave. -/
theorem exec_clockMonitorWindowEnd (nx nw nr nt : Nat) (good : BitVec 3) (s : State) :
    exec (.clockMonitorWindowEnd nx nw nr nt good) s = .next (s.clkWindow nx nw nr nt good).clkDecide := rfl

section
variable (u : State)

/-- With no estimate the selected reference and the mode of the PLL stay (R463). -/
theorem State.clkDecide_without_estimate (h : u.clkEstimate = none) :
    u.clkDecide.flag R.CLK_STAT_FAULT = true ∧ u.clkDecide.flag R.CLK_STAT_NOMAJ = true
      ∧ u.clkDecide.bit R.HLT_CAUSE 3 = true
      ∧ ∀ f ∈ [R.CLK_STAT_ACTIVE, R.CLK_STAT_LOCK, R.CLK_STAT_HOLDOVER, R.CLK_STAT_RELOCK], u.clkDecide.get f = u.get f := by
  obtain ⟨fault, nomaj, cause⟩ := u.clkUndecided_shows
  rw [State.clkDecide_none h]
  refine ⟨fault, nomaj, cause, fun f hf => u.clkUndecided_regs.get_outside ?_ ?_⟩
  · exact (show ∀ f ∈ [R.CLK_STAT_ACTIVE, R.CLK_STAT_LOCK, R.CLK_STAT_HOLDOVER, R.CLK_STAT_RELOCK],
      [R.CLK_STAT_NOMAJ, R.CLK_STAT_FAULT, R.HLT_CAUSE, R.HLT_STAT_SVCREQ].all (·.apart f) = true by decide) f hf
  · exact (show ∀ f ∈ [R.CLK_STAT_ACTIVE, R.CLK_STAT_LOCK, R.CLK_STAT_HOLDOVER, R.CLK_STAT_RELOCK], f.pd ≠ 6 by decide) f hf

variable {u} {e th : Nat} (h : u.clkEstimate = some (e, some th))
include h

theorem State.clkDecide_marks : u.clkDecide.flag R.CLK_STAT_NOMAJ = false
    ∧ (u.get R.CLK_WIN_INNER < (u.clkDev e).natAbs → u.clkDecide.flag R.CLK_STAT_INNER = true) := by
  rw [State.clkDecide_some h]
  have judged := State.clkJudge_regs (u.clkMarked e) e (u.clkDev e).natAbs (some th)
  refine ⟨?_, fun hi => ?_⟩
  · rw [State.flag_congr (judged.get_outside (by decide) (by decide)), State.flag_clkMarked_nomaj]
  · rw [State.flag_congr (judged.get_outside (by decide) (by decide)), State.flag_clkMarked_inner hi]

/-- A qualified estimate at a second window end is switched to, or waits for the end of the hold-off (R465, R466). -/
theorem State.clkDecide_qualified (hs : u.flag R.CLK_CFG_SWEN = true) (hd : th < (u.clkDev e).natAbs)
    (hp : u.clk.prev.isSome = true) :
    u.clkDecide = if u.clk.holdoff then (u.clkMarked e).flagRise R.CLK_STAT_HELD 186 else (u.clkMarked e).clkSwitch e := by
  have enabled : (u.clkMarked e).flag R.CLK_CFG_SWEN = true :=
    (State.flag_congr ((u.clkMarked_regs e).get_outside (by decide) (by decide))).trans hs
  rw [State.clkDecide_some h, State.clkJudge]
  simp only [hd, enabled, State.clkMarked_clk, hp, decide_true, Bool.not_true, Bool.or_self, Bool.false_eq_true, if_false]

end

/-! ### Lost references and the PLL (R467, R468) -/

/-- The state in which a reference is marked as lost. -/
def State.clkLossMarked (s : State) (r : Nat) : State := ((s.set (lostFlag r) 1).set R.CLK_STAT_LOST 1).raise 186

theorem State.clkLossMarked_clk (s : State) (r : Nat) : (s.clkLossMarked r).clk = s.clk := State.raise_clk ..

theorem State.get_clkLossMarked_apart (s : State) (r : Nat) {f : Fld} (hr : (lostFlag r).apart f = true)
    (hl : R.CLK_STAT_LOST.apart f = true) (h6 : f.pd ≠ 6) : (s.clkLossMarked r).get f = s.get f :=
  (State.get_raise_apart _ _ h6).trans ((State.get_set_apart _ hl _).trans (State.get_set_apart s hr _))

theorem State.clkLossMarked_shows (s : State) (r : Nat) : (s.clkLossMarked r).flag (lostFlag r) = true
    ∧ (s.clkLossMarked r).flag R.CLK_STAT_LOST = true := by
  have single : (lostFlag r).w = 1 ∧ R.CLK_STAT_LOST.apart (lostFlag r) = true ∧ (lostFlag r).pd ≠ 6 :=
    (show ∀ f ∈ [R.CLK_STAT_LOSTX, R.CLK_STAT_LOSTW, R.CLK_STAT_LOSTR],
      f.w = 1 ∧ R.CLK_STAT_LOST.apart f = true ∧ f.pd ≠ 6 by decide) _ (lostFlag_mem r)
  obtain ⟨hw, hl, h6⟩ := single
  constructor
  · exact (State.flag_congr ((State.get_raise_apart _ _ h6).trans (State.get_set_apart _ hl 1))).trans
      (State.flag_set_one s hw)
  · exact (State.flag_congr (State.get_raise_apart _ _ (by decide))).trans (State.flag_set_one _ rfl)

/-- A lost reference that is not selected is marked alone; the selected one is left for another. -/
theorem State.clkLost_cases {r : Nat} (hr : r < 2) (s : State) :
    (s.get R.CLK_STAT_ACTIVE ≠ r → s.clkLost r = s.clkLossMarked r)
      ∧ (s.get R.CLK_STAT_ACTIVE = r → ∃ e, e ≤ 2 ∧ e ≠ r ∧ s.clkLost r = (s.clkLossMarked r).clkSwitch e) := by
  have active : (s.clkLossMarked r).get R.CLK_STAT_ACTIVE = s.get R.CLK_STAT_ACTIVE :=
    s.get_clkLossMarked_apart r ((show ∀ f ∈ [R.CLK_STAT_LOSTX, R.CLK_STAT_LOSTW, R.CLK_STAT_LOSTR],
      f.apart R.CLK_STAT_ACTIVE = true by decide) _ (lostFlag_mem r)) rfl (by decide)
  have lost : s.clkLost r = if (s.clkLossMarked r).get R.CLK_STAT_ACTIVE ≠ r then s.clkLossMarked r
      else match (s.clkLossMarked r).clkEstimate with
        | some (e, _) => (s.clkLossMarked r).clkSwitch e
        | none => (s.clkLossMarked r).clkSwitch 2 := if_neg (by omega)
  rw [lost, active]
  refine ⟨fun ha => if_pos ha, fun ha => ?_⟩
  rw [if_neg (not_not_intro ha)]
  match he : (s.clkLossMarked r).clkEstimate with
  | none => exact ⟨2, le_rfl, by omega, rfl⟩
  | some (e, th) =>
    obtain ⟨-, bound⟩ := State.clkEstimate_bound he
    obtain ⟨small, other⟩ := bound (by omega)
    exact ⟨e, small, by omega, rfl⟩

theorem clockReferenceLost_leaves (r : Fin 3) (s : State) (hr : r ≠ 2) :
    ∃ t, exec (.clockReferenceLost r) s = .next t ∧ t.flag (lostFlag r) = true ∧ t.flag R.CLK_STAT_LOST = true
      ∧ (s.get R.CLK_STAT_ACTIVE ≠ r.val → t.get R.CLK_STAT_ACTIVE = s.get R.CLK_STAT_ACTIVE
          ∧ t.get R.CLK_STAT_LOCK = s.get R.CLK_STAT_LOCK ∧ t.clk = s.clk)
      ∧ (s.get R.CLK_STAT_ACTIVE = r.val → t.get R.CLK_STAT_ACTIVE ≠ r.val ∧ t.flag R.CLK_STAT_RELOCK = true
          ∧ t.flag R.CLK_STAT_LOCK = false ∧ t.flag R.CLK_STAT_SWITCHED = true ∧ t.clk.holdoff = true) := by
  obtain ⟨unselected, selected⟩ := State.clkLost_cases (r := r.val) (by omega) s
  obtain ⟨lost, marked⟩ := s.clkLossMarked_shows r
  refine ⟨s.clkLost r, rfl, ?_⟩
  by_cases ha : s.get R.CLK_STAT_ACTIVE = r.val
  · obtain ⟨e, small, other, he⟩ := selected ha
    obtain ⟨active, relock, lock, switched, holdoff, -⟩ := (s.clkLossMarked r).clkSwitch_shows e
    have kept := (s.clkLossMarked r).clkSwitch_regs e
    have flags : clkSwitchFields.all (·.apart (lostFlag r)) = true ∧ (lostFlag r).pd ≠ 6 :=
      (show ∀ f ∈ [R.CLK_STAT_LOSTX, R.CLK_STAT_LOSTW, R.CLK_STAT_LOSTR],
        clkSwitchFields.all (·.apart f) = true ∧ f.pd ≠ 6 by decide) _ (lostFlag_mem r)
    rw [he]
    refine ⟨(State.flag_congr (kept.get_outside flags.1 flags.2)).trans lost,
      (State.flag_congr (kept.get_outside (by decide) (by decide))).trans marked, fun hn => absurd ha hn,
      fun _ => ⟨?_, relock, lock, switched, holdoff⟩⟩
    omega
  · rw [unselected ha]
    have apart : ∀ g ∈ [R.CLK_STAT_ACTIVE, R.CLK_STAT_LOCK], (lostFlag r).apart g = true :=
      (show ∀ f ∈ [R.CLK_STAT_LOSTX, R.CLK_STAT_LOSTW, R.CLK_STAT_LOSTR],
        ∀ g ∈ [R.CLK_STAT_ACTIVE, R.CLK_STAT_LOCK], f.apart g = true by decide) _ (lostFlag_mem r)
    exact ⟨lost, marked, fun _ => ⟨s.get_clkLossMarked_apart r (apart _ (by decide)) rfl (by decide),
      s.get_clkLossMarked_apart r (apart _ (by decide)) rfl (by decide), s.clkLossMarked_clk r⟩, fun h => absurd h ha⟩

theorem pllRelockDone_locks (s : State) (h : s.flag R.CLK_STAT_RELOCK = true) :
    ∃ t, exec .pllRelockDone s = .next t ∧ t.flag R.CLK_STAT_RELOCK = false ∧ t.flag R.CLK_STAT_LOCK = true
      ∧ OnlyIn [.clk, .pd 0] s t ∧ RegsOnly (fun f => f = R.CLK_STAT_RELOCK ∨ f = R.CLK_STAT_LOCK) s t := by
  refine ⟨_, congrArg Host.Outcome.next (if_pos h), ?_, ?_, ?_, ?_⟩
  · exact (State.flag_congr (State.get_set_apart _ (f := R.CLK_STAT_LOCK) rfl 1)).trans (State.flag_set_zero s _)
  · exact State.flag_set_one (s.set R.CLK_STAT_RELOCK 0) rfl
  · refine Moves.onlyIn (K := partsOf [.clk, .pd 0]) _ ?_ (by decide)
    refine .step ?_ (State.upd_clk_moves ..) (by decide)
    refine .step ?_ (State.set_moves (d := 0) rfl) (by decide)
    exact (State.set_moves (d := 0) rfl).mono (by decide)
  · exact ((RegsOnly.refl _ s).set (.inl rfl) 0).set (f := R.CLK_STAT_LOCK) (.inr rfl) 1

/-- The state after a loss of lock: RELOCK on the same reference. -/
def State.clkLockLost (s : State) : State :=
  (((s.set R.CLK_STAT_LOCK 0).set R.CLK_STAT_RELOCK 1).set R.CLK_STAT_PLLERR 1).raise 187

theorem State.clkLockLost_shows (s : State) (h : s.on 6 = true) :
    s.clkLockLost.flag R.CLK_STAT_LOCK = false ∧ s.clkLockLost.flag R.CLK_STAT_RELOCK = true
      ∧ s.clkLockLost.flag R.CLK_STAT_PLLERR = true ∧ s.clkLockLost.flag (R.ICU_STS_PEND 187) = true
      ∧ s.clkLockLost.get R.CLK_STAT_ACTIVE = s.get R.CLK_STAT_ACTIVE := by
  have raised {f : Fld} (hf : f.pd ≠ 6) : s.clkLockLost.get f =
      (((s.set R.CLK_STAT_LOCK 0).set R.CLK_STAT_RELOCK 1).set R.CLK_STAT_PLLERR 1).get f := State.get_raise_apart _ _ hf
  refine ⟨?_, ?_, ?_, State.flag_raise (by decide) ?_, ?_⟩
  · rw [State.flag_congr (raised (by decide)), State.flag_congr (State.get_set_apart _ rfl _),
      State.flag_congr (State.get_set_apart _ rfl _), State.flag_set_zero]
  · rw [State.flag_congr (raised (by decide)), State.flag_congr (State.get_set_apart _ rfl _), State.flag_set_one _ rfl]
  · rw [State.flag_congr (raised (by decide)), State.flag_set_one _ rfl]
  · rw [State.on_congr (State.get_set_apart _ rfl _), State.on_congr (State.get_set_apart _ rfl _),
      State.on_congr (State.get_set_apart _ rfl _), h]
  · rw [raised (by decide), State.get_set_apart _ rfl, State.get_set_apart _ rfl, State.get_set_apart _ rfl]

theorem pllLockLoss_relocks (s : State) (hl : s.flag R.CLK_STAT_LOCK = true)
    (ha : s.clkAvail (s.get R.CLK_STAT_ACTIVE) = true) (h6 : s.on 6 = true) :
    ∃ t, exec .pllLockLoss s = .next t ∧ t.flag R.CLK_STAT_LOCK = false ∧ t.flag R.CLK_STAT_RELOCK = true
      ∧ t.flag R.CLK_STAT_PLLERR = true ∧ t.flag (R.ICU_STS_PEND 187) = true
      ∧ t.get R.CLK_STAT_ACTIVE = s.get R.CLK_STAT_ACTIVE
      ∧ exec .pllRelockTimeout t = .next (t.clkLost (s.get R.CLK_STAT_ACTIVE)) := by
  obtain ⟨lock, relock, error, pending, active⟩ := s.clkLockLost_shows h6
  set t : State := { s.clkLockLost with clk := { s.clk with loss := true } } with ht
  refine ⟨t, congrArg Host.Outcome.next (if_pos (by rw [hl, ha]; rfl)), lock, relock, error, pending, active, ?_⟩
  have awaited : (t.clk.loss && t.flag R.CLK_STAT_RELOCK) = true := relock
  exact (congrArg Host.Outcome.next (if_pos awaited)).trans (congrArg (fun r => Host.Outcome.next (t.clkLost r)) active)

theorem clockHoldoffEnd_ends (s : State) :
    ∃ t, exec .clockHoldoffEnd s = .next t ∧ t.clk = { s.clk with holdoff := false, prev := none } ∧ OnlyIn [.clk] s t :=
  ⟨_, rfl, rfl, Moves.onlyIn _ (State.upd_clk_moves ..) (by decide)⟩

/-- Settles O49: a window's end by what it publishes and then by the estimate, the loss of a reference by whether it
is selected, and the PLL's RELOCK. -/
theorem clockMonitor : Obligations.ClockMonitor := by
  refine ⟨fun nx nw nr nt good s => ?_, clockReferenceLost_leaves, fun _ => rfl, pllRelockDone_locks, pllLockLoss_relocks,
    clockHoldoffEnd_ends⟩
  set u := s.clkWindow nx nw nr nt good with hu
  change ∃ t, _ ∧ _ ∧ _ ∧ (u.clkEstimate = none → _) ∧ ∀ e th, u.clkEstimate = some (e, some th) → _
  have decided := u.clkDecide_regs
  have kept {f : Fld} (hd : ∀ r ∈ [0, 1, 2, 3], (clkDevReg r).apart f = true)
      (hl : ∀ r ∈ [0, 1, 2], (lostFlag r).apart f = true) : u.get f = s.get f := s.get_clkWindow nx nw nr nt good hd hl
  have clk : u.clk = s.clk := s.clkWindow_same nx nw nr nt good (p := .clk) (by decide)
  have time : u.time = s.time := s.clkWindow_same nx nw nr nt good (p := .time) (by decide)
  refine ⟨u.clkDecide, exec_clockMonitorWindowEnd .., fun r n hr => ?_, fun r hr hg => ?_, fun he => ?_, fun e th he => ?_⟩
  · have regs : ∀ f ∈ [R.CLK_DEVX, R.CLK_DEVW, R.CLK_DEVR, R.CLK_DEVT], clkDecideFields.all (·.apart f) = true ∧ f.pd ≠ 6
        ∧ ∀ r ∈ [0, 1, 2], (lostFlag r).apart f = true := by decide
    obtain ⟨apart, h6, lost⟩ := regs _ (clkDevReg_mem r)
    exact (s.clkCounted_publishes nx nw nr nt r n hr).congr
      ((decided.get_outside apart h6).trans (State.get_clkFound_apart _ good lost))
  · have regs : ∀ f ∈ [R.CLK_STAT_LOSTX, R.CLK_STAT_LOSTW, R.CLK_STAT_LOSTR],
        clkDecideFields.all (·.apart f) = true ∧ f.pd ≠ 6 := by decide
    obtain ⟨apart, h6⟩ := regs _ (lostFlag_mem r)
    exact (State.flag_congr (decided.get_outside apart h6)).trans (State.flag_clkFound hr hg _)
  · obtain ⟨fault, nomaj, cause, rest⟩ := u.clkDecide_without_estimate he
    exact ⟨fault, nomaj, cause, (rest _ (by decide)).trans (kept (by decide) (by decide)),
      (rest _ (by decide)).trans (kept (by decide) (by decide)), (rest _ (by decide)).trans (kept (by decide) (by decide)),
      (rest _ (by decide)).trans (kept (by decide) (by decide))⟩
  · obtain ⟨nomaj, inner⟩ := State.clkDecide_marks he
    obtain ⟨small, -⟩ := State.clkEstimate_bound he
    have small : e ≤ 2 := small rfl
    refine ⟨nomaj, fun hi => inner (by rwa [kept (by decide) (by decide)]), fun hs hd hp => ?_⟩
    have qualified := State.clkDecide_qualified he ((State.flag_congr (kept (by decide) (by decide))).trans hs) hd
      (by rwa [clk])
    have marked := u.clkMarked_regs e
    rw [clk] at qualified
    refine ⟨fun hh => ?_, fun hh => ?_⟩
    · rw [qualified, hh, if_neg Bool.false_ne_true]
      obtain ⟨active, relock, lock, switched, holdoff, last, count⟩ := (u.clkMarked e).clkSwitch_shows e
      rw [State.clkMarked_time, time] at last
      rw [marked.get_outside (by decide) (by decide), kept (by decide) (by decide)] at count
      exact ⟨active.trans (Nat.mod_eq_of_lt (by omega)), relock, lock, switched, holdoff, last, count⟩
    · rw [qualified, hh, if_pos rfl]
      refine ⟨?_, State.flag_flagRise _ rfl (by decide) 186⟩
      rw [State.get_flagRise_apart _ rfl (by decide), marked.get_outside (by decide) (by decide),
        kept (by decide) (by decide)]

end Sys2Proof.Machine
end

section
/-!
PROOFS of the statement on the power domains (O50, R478, R479, R481, R492): the state fields of the domains, switching
on and going down, and each clause.
-/

namespace Sys2Proof.Machine

/-! ### The store of registers (R12) -/

theorem Regs.get_reset (r : Regs) (p : Fld → Bool) (f : Fld) :
    (r.reset p).get f = if p f then f.rst.value else r.get f := by
  induction r with
  | nil => simp [Regs.reset, Regs.get]
  | cons x r ih =>
    obtain ⟨g, v⟩ := x
    by_cases hg : g = f
    · subst hg
      by_cases hp : p g <;> simp [Regs.reset, Regs.get, hp, ih]
    · by_cases hp : p g <;> simp [Regs.reset, Regs.get, hp, hg, ih]

/-! ### The state fields of the domains (R497) -/

theorem R.PWR_DOM_w (d : Nat) : (R.PWR_DOM d).w = 4 := by unfold R.PWR_DOM; split <;> rfl

theorem R.PWR_DOM_ne_pd (d : Nat) {f : Fld} (h : f.pd ≠ 0) : R.PWR_DOM d ≠ f := by
  rintro rfl
  exact h (R.PWR_DOM_pd d)

theorem R.PWR_DOM_rd (d : Nat) : (R.PWR_DOM d).rd = .sys := by unfold R.PWR_DOM; split <;> rfl

/-- A field of the power frame beside those of the domains' states. -/
theorem R.PWR_DOM_ne_addr (d : Nat) {f : Fld} (h : f.addr ≠ 0x2004) (h' : f.addr ≠ 0x2008) : R.PWR_DOM d ≠ f := by
  rintro rfl
  unfold R.PWR_DOM at h h'
  split at h
  · exact h rfl
  · split at h'
    · contradiction
    · exact h' rfl

theorem State.get_set_dom (s : State) (d : Nat) {st : Nat} (h : st < 16) : (s.set (R.PWR_DOM d) st).get (R.PWR_DOM d) = st := by
  rw [State.get_set, R.PWR_DOM_w]
  exact Nat.mod_eq_of_lt h

theorem State.on_set_dom (s : State) (d : Nat) : (s.set (R.PWR_DOM d) 3).on d = true :=
  decide_eq_true (s.get_set_dom d (by decide))

theorem State.on_iff (s : State) (d : Nat) : s.on d = true ↔ s.get (R.PWR_DOM d) = 3 := decide_eq_true_iff

/-! ### Switching on, and the bypass (R157, R476) -/

theorem State.switchOn_switches {s : State} {d : Nat} (h : s.get (R.PWR_DOM d) = 0 ∨ s.get (R.PWR_DOM d) = 1)
    (hr : (requires d).all s.on = true) : s.switchOn d = s.set (R.PWR_DOM d) 2 := by
  have off : (s.domIs d 0 || s.domIs d 1) = true := by simpa [State.domIs] using h
  exact if_pos (by rw [off, hr]; rfl)

theorem State.get_switchOn (s : State) (d : Nat) {f : Fld} (h : R.PWR_DOM d ≠ f) : (s.switchOn d).get f = s.get f := by
  unfold State.switchOn
  split
  · exact State.get_set_ne s h 2
  · rfl

/-- Switching on leaves a domain that is ON. -/
theorem State.on_switchOn {s : State} {e : Nat} (h : s.on e = true) (d : Nat) : (s.switchOn d).on e = true := by
  have he := (s.on_iff e).mp h
  by_cases hd : R.PWR_DOM d = R.PWR_DOM e
  · have ready : ¬ ((s.domIs d 0 || s.domIs d 1) && (requires d).all s.on) = true := by
      simp [State.domIs, hd, he]
    rw [State.switchOn, if_neg ready, h]
  · rw [State.on_congr (s.get_switchOn d hd), h]

theorem State.bringUp_foldl {P : State → Prop} (hP : ∀ s d, P s → P (s.switchOn d)) {s : State} (h : P s) : P s.bringUp := by
  suffices all : ∀ (l : List Nat) (s : State), P s → P (l.foldl (fun s d => s.switchOn d) s) from all _ s h
  intro l
  induction l with
  | nil => exact fun _ h => h
  | cons d l ih => exact fun s h => ih _ (hP s d h)

theorem State.on_bringUp {s : State} {e : Nat} (h : s.on e = true) : s.bringUp.on e = true :=
  State.bringUp_foldl (P := fun s => s.on e = true) (fun _ d h => State.on_switchOn h d) h

theorem State.get_bringUp (s : State) {f : Fld} (h : ∀ d, R.PWR_DOM d ≠ f) : s.bringUp.get f = s.get f :=
  State.bringUp_foldl (P := fun t => t.get f = s.get f) (fun t d ht => (t.get_switchOn d (h d)).trans ht) rfl

@[simp] theorem State.bringUp_pwr (s : State) : s.bringUp.pwr = s.pwr := s.bringUp_moves.same .pwr (by decide)

@[simp] theorem State.bringUp_mem (s : State) : s.bringUp.mem = s.mem := s.bringUp_moves.same .mem (by decide)

theorem State.get_bypassCheck (s : State) {f : Fld} (h : R.WRP_STAT_BYPASS ≠ f) : s.bypassCheck.get f = s.get f := by
  unfold State.bypassCheck
  split
  · rfl
  · exact State.get_set_ne s h _

@[simp] theorem State.bypassCheck_pwr (s : State) : s.bypassCheck.pwr = s.pwr := s.bypassCheck_moves.same .pwr (by decide)

@[simp] theorem State.bypassCheck_mem (s : State) : s.bypassCheck.mem = s.mem := s.bypassCheck_moves.same .mem (by decide)

theorem R.bypass_ne_pd {f : Fld} (h : f.pd ≠ 9) : R.WRP_STAT_BYPASS ≠ f := by
  rintro rfl
  exact h rfl

/-! ### Going down (R479) -/

/-- What a domain loses leaves each register of PD0 that is not of reset domain DOM. -/
theorem State.get_loseDomain (s : State) (d : Nat) {f : Fld} (h0 : f.pd = 0) (hr : f.rd ≠ .dom) :
    (s.loseDomain d).get f = s.get f := by
  refine (Regs.get_reset _ _ f).trans ((if_neg (by simp [hr])).trans ?_)
  exact (s.loseBlocks_moves d).same (.pd 0) (by decide) f h0

/-- A domain that goes down leaves each other register of PD0. -/
theorem State.get_goDown (s : State) (d st : Nat) {f : Fld} (hd : R.PWR_DOM d ≠ f) (h0 : f.pd = 0) (hr : f.rd ≠ .dom) :
    (s.goDown d st).get f = s.get f := by
  have kept {t u : State} {K : Nat} (h : Moves K t u) (hK : K.testBit (Part.idx (.pd 0)) = false) : u.get f = t.get f :=
    h.same (.pd 0) hK f h0
  unfold State.goDown
  dsimp only
  refine (kept (State.bypassCheck_moves _) (by decide)).trans ?_
  refine (show _ = (State.set (if d = 6 then s.icuSave else s) (R.PWR_DOM d) st).get f from ?_).trans
    ((State.get_set_ne _ hd st).trans ?_)
  · rw [apply_ite (fun t : State => t.get f), kept (State.updCore_moves ..) (by decide), ite_self,
      apply_ite (fun t : State => t.get f), kept (State.dropBanks_moves ..) (by decide), ite_self,
      apply_ite (fun t : State => t.get f), State.get_loseDomain _ d h0 hr]
    exact ite_self _
  · split <;> rfl

theorem domainQuiesceComplete_drains (d : Fin 12) (st : Nat) (s : State)
    (h : s.pwr.quiet.find? (fun x => decide (x.1 = d.val)) = some (d.val, st)) :
    (s.draining d = true → exec (.domainQuiesceComplete d) s = .next s)
      ∧ (s.draining d = false → s.asleep = false → s.flag R.PWR_STATE_ENTRY = false →
          exec (.domainQuiesceComplete d) s = .next (s.goDown d st).bringUp) := by
  have state {f : Fld} (ha : f.addr ≠ 0x2004) (hb : f.addr ≠ 0x2008) (h0 : f.pd = 0) (hr : f.rd ≠ .dom) :
      (s.goDown d st).get f = s.get f := s.get_goDown d st (R.PWR_DOM_ne_addr d ha hb) h0 hr
  have quiesced : s.quiesced d = if s.draining d then s
      else if (s.goDown d st).asleep && !(s.goDown d st).flag R.PWR_STATE_EXIT then ((s.goDown d st).entryNext d).wakeLate
      else if (s.goDown d st).flag R.PWR_STATE_ENTRY then s.goDown d st
      else (s.goDown d st).bringUp := by
    unfold State.quiesced
    rw [h]
  refine ⟨fun hd => congrArg Host.Outcome.next (quiesced.trans (if_pos hd)), fun hd ha he => ?_⟩
  have awake : (s.goDown d st).asleep = false := by
    rw [State.asleep, state (by decide) (by decide) rfl (by decide), ← State.asleep, ha]
  have idle : (s.goDown d st).flag R.PWR_STATE_ENTRY = false :=
    (State.flag_congr (state (by decide) (by decide) rfl (by decide))).trans he
  refine congrArg Host.Outcome.next (quiesced.trans ?_)
  rw [if_neg (by rw [hd]; decide), awake, idle]
  rfl

/-- A domain that goes into retention with its fences done: its state, its place in the lists, and its cache. -/
def State.retainedAs (s : State) (d : Nat) : State :=
  { s.set (R.PWR_DOM d) 1 with pwr := { s.pwr with
    quiet := s.pwr.quiet.filter fun x => decide (x.1 ≠ d), retained := insOnce s.pwr.retained d } }

theorem State.goDown_retains (s : State) {d : Nat} (h6 : d ≠ 6) (h8 : d ≠ 8) :
    s.goDown d 1 = (if 3 ≤ d ∧ d ≤ 5 then (s.retainedAs d).updCore (d - 3) fun k => { k with cache := [] }
      else s.retainedAs d).bypassCheck := by
  unfold State.goDown
  dsimp only
  rw [if_neg h6, if_pos (show (1 : Nat) = 1 ∧ d ≠ 8 from ⟨rfl, h8⟩), if_neg h8]
  rfl

theorem goDown_keeps (d : Fin 12) (s : State) (h6 : d ≠ 6) (h8 : d ≠ 8) :
    let t := s.goDown d 1
    t.get (R.PWR_DOM d) = 1 ∧ t.mem = s.mem ∧ d.val ∈ t.pwr.retained
      ∧ ∀ f : Fld, f.pd ≠ 0 → f.pd ≠ 9 → t.get f = s.get f := by
  set u := if 3 ≤ d.val ∧ d.val ≤ 5 then (s.retainedAs d).updCore (d - 3) fun k => { k with cache := [] }
    else s.retainedAs d with hu
  have down : s.goDown d 1 = u.bypassCheck :=
    s.goDown_retains (fun e => h6 (Fin.ext e)) (fun e => h8 (Fin.ext e))
  have regs (f : Fld) : u.get f = (s.retainedAs d).get f := by rw [hu]; split <;> rfl
  have pwr : u.pwr = (s.retainedAs d).pwr := by rw [hu]; split <;> rfl
  have mem : u.mem = s.mem := by rw [hu]; split <;> rfl
  dsimp only
  rw [down]
  refine ⟨?_, by rw [State.bypassCheck_mem, mem], ?_, fun f h0 h9 => ?_⟩
  · rw [State.get_bypassCheck _ (R.bypass_ne_pd (by rw [R.PWR_DOM_pd]; decide)), regs]
    exact s.get_set_dom d (by decide)
  · rw [State.bypassCheck_pwr, pwr]
    exact mem_insOnce _ _
  · rw [State.get_bypassCheck _ (R.bypass_ne_pd h9), regs]
    exact State.get_set_ne s (R.PWR_DOM_ne_pd d h0) 1

/-! ### Coming up (R478) -/

theorem domainPowerUpComplete_ignored (d : Fin 12) (s : State) (h : s.get (R.PWR_DOM d) ≠ 2) :
    exec (.domainPowerUpComplete d) s = .next s :=
  congrArg Host.Outcome.next (if_neg (by simpa [State.domIs] using h))

/-- A retained domain that is ON again, before the sequencer goes on. -/
def State.retainedUp (s : State) (d : Nat) : State :=
  State.bypassCheck { s.set (R.PWR_DOM d) 3 with pwr := { s.pwr with
    retained := without s.pwr.retained d, leanOff := without s.pwr.leanOff d } }

theorem domainPowerUpComplete_retained (d : Fin 12) (s : State) (h : s.get (R.PWR_DOM d) = 2) (hr : d.val ∈ s.pwr.retained)
    (h11 : d ≠ 11) :
    ∃ t, exec (.domainPowerUpComplete d) s = .next t ∧ t.on d = true ∧ d.val ∉ t.pwr.retained ∧ t.mem = s.mem
      ∧ ∀ f : Fld, f.pd ≠ 0 → f.pd ≠ 9 → t.get f = s.get f := by
  set u := s.retainedUp d with hu
  have up : s.domainUp d = if u.asleep && !u.flag R.PWR_STATE_EXIT then u else u.bringUp := by
    have other : d.val ≠ 11 := fun e => h11 (Fin.ext e)
    unfold State.domainUp
    dsimp only
    rw [if_pos (show d.val ∈ (s.set (R.PWR_DOM d) 3).pwr.retained from hr), if_neg other]
    rfl
  have on : u.on d = true := by
    rw [hu, State.retainedUp, State.on_congr (State.get_bypassCheck _ (R.bypass_ne_pd (by rw [R.PWR_DOM_pd]; decide)))]
    exact s.on_set_dom d
  have pwr : d.val ∉ u.pwr.retained := by
    rw [hu, State.retainedUp, State.bypassCheck_pwr]
    exact not_mem_without _ _
  have mem : u.mem = s.mem := by rw [hu, State.retainedUp, State.bypassCheck_mem]; rfl
  have regs (f : Fld) (h0 : f.pd ≠ 0) (h9 : f.pd ≠ 9) : u.get f = s.get f := by
    rw [hu, State.retainedUp, State.get_bypassCheck _ (R.bypass_ne_pd h9)]
    exact State.get_set_ne s (R.PWR_DOM_ne_pd d h0) 3
  refine ⟨_, congrArg Host.Outcome.next ((if_pos (decide_eq_true h)).trans up), ?_⟩
  split
  · exact ⟨on, pwr, mem, regs⟩
  · refine ⟨State.on_bringUp on, by rwa [State.bringUp_pwr], by rw [State.bringUp_mem, mem], fun f h0 h9 => ?_⟩
    rw [State.get_bringUp _ fun e => R.PWR_DOM_ne_pd e h0, regs f h0 h9]

/-! ### Unplanned losses (R481) -/

/-- The loss of a domain is counted, with its flag, its place as the last, and the advisory at the third. -/
def State.lossRecorded (s : State) (d : Nat) : State :=
  let s := { s with pwr := { s.pwr with losses := d :: s.pwr.losses, quiet := s.pwr.quiet.filter fun x => decide (x.1 ≠ d) } }
  let s := (((s.setBit R.PWR_FAULT_LOST d).set R.PWR_FAULT_LAST d).raise 188).journal 481 [d]
  if 3 ≤ s.pwr.losses.count d then s.advise 9 else s

theorem State.domainLost_eq (s : State) (d : Nat) :
    s.domainLost d = (((((s.set (R.PWR_DOM d) 5).lossOf d).loseDomain d).lossRecorded d).bypassCheck) := rfl

theorem State.get_lossRecorded_marked (s : State) (d : Nat) {f : Fld} (hc : R.HLT_CAUSE.apart f = true)
    (hs : R.HLT_STAT_SVCREQ.apart f = true) (h6 : f.pd ≠ 6) :
    (s.lossRecorded d).get f = ((s.setBit R.PWR_FAULT_LOST d).set R.PWR_FAULT_LAST d).get f := by
  unfold State.lossRecorded
  dsimp only
  split
  · exact (State.get_advise_elsewhere _ _ hc hs).trans (State.get_raise_apart _ _ h6)
  · exact State.get_raise_apart _ _ h6

theorem State.lossRecorded_losses (s : State) (d : Nat) : (s.lossRecorded d).pwr.losses = d :: s.pwr.losses := by
  unfold State.lossRecorded
  dsimp only
  split
  · rw [(State.advise_moves _ 9).same .pwr (by decide)]
    exact congrArg PwrSt.losses ((State.raise_moves _ 188).same .pwr (by decide))
  · exact congrArg PwrSt.losses ((State.raise_moves _ 188).same .pwr (by decide))

theorem PWR_DOM_lost_apart : ∀ d : Fin 12, ∀ f ∈ [R.HLT_CAUSE, R.HLT_STAT_SVCREQ, R.PWR_FAULT_LOST, R.PWR_FAULT_LAST],
    f.apart (R.PWR_DOM d) = true := by decide

/-- A domain that is lost: its state, its record, and the count of its losses. -/
theorem State.domainLost_shows (s : State) (d : Fin 12) (hp : (s.set (R.PWR_DOM d) 5 |>.lossOf d).pwr = s.pwr)
    (hr : (s.set (R.PWR_DOM d) 5 |>.lossOf d).get (R.PWR_DOM d) = 5) :
    (s.domainLost d).get (R.PWR_DOM d) = 5 ∧ (s.domainLost d).bit R.PWR_FAULT_LOST d = true
      ∧ (s.domainLost d).get R.PWR_FAULT_LAST = d.val ∧ (s.domainLost d).pwr.losses = d.val :: s.pwr.losses := by
  set u := ((s.set (R.PWR_DOM d) 5).lossOf d).loseDomain d with hu
  have pd9 {f : Fld} (h : f.pd = 0) : (s.domainLost d).get f = (u.lossRecorded d).get f := by
    rw [State.domainLost_eq, State.get_bypassCheck _ (R.bypass_ne_pd (by rw [h]; decide))]
  have apart := PWR_DOM_lost_apart d
  refine ⟨?_, ?_, ?_, ?_⟩
  · have state : u.get (R.PWR_DOM d) = 5 := by
      rw [hu, State.get_loseDomain _ _ (R.PWR_DOM_pd d) (by rw [R.PWR_DOM_rd]; decide), hr]
    rw [pd9 (R.PWR_DOM_pd d), State.get_lossRecorded_marked _ _ (apart _ (by decide)) (apart _ (by decide))
      (by rw [R.PWR_DOM_pd]; decide), State.get_set_apart _ (apart _ (by decide)),
      State.get_setBit_apart _ (apart _ (by decide)), state]
  · rw [State.bit_congr (pd9 rfl), State.bit_congr (State.get_lossRecorded_marked _ _ rfl rfl (by decide)),
      State.bit_congr (State.get_set_apart _ rfl _)]
    exact State.bit_setBit _ d.isLt
  · rw [pd9 rfl, State.get_lossRecorded_marked _ _ rfl rfl (by decide), State.get_set]
    exact Nat.mod_eq_of_lt (Nat.lt_trans d.isLt (by decide))
  · rw [State.domainLost_eq, State.bypassCheck_pwr, State.lossRecorded_losses]
    change d.val :: (State.loseBlocks _ d).pwr.losses = _
    rw [(State.loseBlocks_moves _ d).same .pwr (by decide), hp]

theorem domainUnplannedLoss_single {d : Fin 12} (h : d = 10 ∨ d = 11) (s : State) :
    exec (.domainUnplannedLoss (BitVec.ofNat 12 (2 ^ d.val))) s = .next (if s.domLive d then s.domainLost d else s) := by
  rcases h with rfl | rfl
  · rfl
  · rfl

theorem domainUnplannedLoss_faults (d : Fin 12) (s : State) (h : d = 10 ∨ d = 11) (hl : s.domLive d = true) :
    ∃ t, exec (.domainUnplannedLoss (BitVec.ofNat 12 (2 ^ d.val))) s = .next t ∧ t.get (R.PWR_DOM d) = 5
      ∧ t.bit R.PWR_FAULT_LOST d = true ∧ t.get R.PWR_FAULT_LAST = d.val ∧ t.pwr.losses = d.val :: s.pwr.losses := by
  refine ⟨_, (domainUnplannedLoss_single h s).trans (congrArg _ (if_pos hl)), s.domainLost_shows d ?_ ?_⟩
  · rcases h with rfl | rfl
    · rfl
    · exact (State.engineAbort_moves _ _ _).same .pwr (by decide)
  · rcases h with rfl | rfl
    · exact s.get_set_dom _ (by decide)
    · exact ((State.engineAbort_moves _ _ _).same (.pd 0) (by decide) _ rfl).trans (s.get_set_dom 11 (by decide))

theorem domainUnplannedLoss_battery (s : State) (h : s.flag R.TMP_STAT_ONVBAT = true) :
    ∃ t, exec (.domainUnplannedLoss 1) s = .next t ∧ t.on 0 = false ∧ RegsOnly (fun f => f = R.PWR_DOM 0) s t
      ∧ OnlyIn [.pd 0] s t := by
  have none : exec (.domainUnplannedLoss 1) s = .next s.batteryLost := rfl
  refine ⟨_, none.trans (congrArg _ (if_pos h)), ?_, RegsOnly.of_set _ _ _, Moves.onlyIn _ (State.set_moves (d := 0) rfl) (by decide)⟩
  exact decide_eq_false (by rw [s.get_set_dom 0 (by decide)]; decide)

theorem requires_other : ∀ d : Fin 12, ∀ e ∈ requires d, R.PWR_DOM d ≠ R.PWR_DOM e := by decide

theorem domainRestart_restarts (d : Fin 12) (s : State) (h : s.get (R.PWR_DOM d) = 5)
    (hc : s.pwr.losses.count d.val < 3) (hr : (requires d).all s.on = true) :
    ∃ t, exec (.domainRestart d) s = .next t ∧ t.get (R.PWR_DOM d) = 2 := by
  set u : State := if 3 ≤ d.val ∧ d.val ≤ 5 then { s.set (R.PWR_DOM d) 0 with
    pwr := { s.pwr with leanOff := insOnce s.pwr.leanOff d } } else s.set (R.PWR_DOM d) 0 with hu
  have taken : (s.domIs d 5 && decide (s.pwr.losses.count d.val < 3)) = true := by simp [State.domIs, h, hc]
  have regs (f : Fld) : u.get f = (s.set (R.PWR_DOM d) 0).get f := by rw [hu]; split <;> rfl
  have ready : (requires d).all u.on = true := by
    rw [List.all_eq_true] at hr ⊢
    intro e he
    rw [State.on_congr ((regs _).trans (State.get_set_ne s (requires_other d e he) 0)), hr e he]
  refine ⟨u.switchOn d, congrArg Host.Outcome.next (if_pos taken), ?_⟩
  rw [State.switchOn_switches (.inl ((regs _).trans (s.get_set_dom d (by decide)))) ready]
  exact u.get_set_dom d (by decide)

theorem domainRestart_stays (d : Fin 12) (s : State) (h : 3 ≤ s.pwr.losses.count d.val) :
    exec (.domainRestart d) s = .next s :=
  congrArg Host.Outcome.next (if_neg (by simp; omega))

/-! ### Requests of the PWR frame (R492) -/

/-- PWR_DOMREQ after the answer and the write of its fields. -/
def State.domreqWritten (s : State) (q : Who) (v : Word) : State := (s.reply q.req .ok 0).writeReg q 0x200C v.toNat

theorem regFields_domreq : regFields 0x200C = [R.PWR_DOMREQ_REQERR, R.PWR_DOMREQ_PD11OFF, R.PWR_DOMREQ_PD7OFF] := by decide

theorem State.domreqWritten_regs (s : State) (q : Who) (v : Word) :
    s.domreqWritten q v = (((s.reply q.req .ok 0).writeFld q v.toNat R.PWR_DOMREQ_REQERR).set R.PWR_DOMREQ_PD11OFF
      (presented v.toNat R.PWR_DOMREQ_PD11OFF)).set R.PWR_DOMREQ_PD7OFF (presented v.toNat R.PWR_DOMREQ_PD7OFF) := by
  rw [State.domreqWritten, State.writeReg_unlocked _ q _ (by rw [regFields_domreq]; decide), regFields_domreq]
  rfl

theorem State.get_domreqWritten (s : State) (q : Who) (v : Word) {f : Fld}
    (h : [R.PWR_DOMREQ_REQERR, R.PWR_DOMREQ_PD11OFF, R.PWR_DOMREQ_PD7OFF].all (·.apart f) = true) :
    (s.domreqWritten q v).get f = s.get f := by
  simp only [List.all_cons, List.all_nil, Bool.and_true, Bool.and_eq_true] at h
  obtain ⟨herr, h11, h7⟩ := h
  rw [State.domreqWritten_regs, State.get_set_apart _ h7, State.get_set_apart _ h11]
  exact State.get_set_apart _ herr _

theorem State.domreqWritten_shows (s : State) (q : Who) (v : Word) :
    (s.domreqWritten q v).flag R.PWR_DOMREQ_PD7OFF = v.toNat.testBit 0
      ∧ (s.domreqWritten q v).flag R.PWR_DOMREQ_PD11OFF = v.toNat.testBit 1 := by
  rw [State.domreqWritten_regs]
  exact ⟨State.flag_set_presented _ rfl _, (State.flag_set_apart _ rfl _).trans (State.flag_set_presented _ rfl _)⟩

theorem State.domreqWritten_onlyIn (s : State) (q : Who) (v : Word) :
    Moves (partsOf [.resp, .pd 0]) s (s.domreqWritten q v) := by
  rw [State.domreqWritten_regs]
  refine .step ?_ (State.set_moves (d := 0) rfl) (by decide)
  refine .step ?_ (State.set_moves (d := 0) rfl) (by decide)
  exact ((s.reply_moves ..).mono (by decide)).step (State.set_moves (d := 0) rfl) (by decide)

/-- The effect of the bits of PWR_DOMREQ that changed. -/
theorem State.writeDomreq_next {s : State} (q : Who) (v : Word) (h : s.on 0 = true) :
    (.next (s.via q.req 0 fun s => s.writeDomreq q v.toNat) : Out) = .next
      (let u := s.domreqWritten q v
       let w := if v.toNat.testBit 0 && !s.flag R.PWR_DOMREQ_PD7OFF then
          (if u.govActive then (u.set R.PWR_DOMREQ_PD7OFF 0).set R.PWR_DOMREQ_REQERR 1 else u.askOff 7)
        else if s.flag R.PWR_DOMREQ_PD7OFF && !v.toNat.testBit 0 then u.switchOn 7
        else u
       if v.toNat.testBit 1 && !s.flag R.PWR_DOMREQ_PD11OFF then w.askOff 11
       else if s.flag R.PWR_DOMREQ_PD11OFF && !v.toNat.testBit 1 then w.switchOn 11
       else w) := by
  obtain ⟨now7, now11⟩ := s.domreqWritten_shows q v
  rw [← now7, ← now11]
  exact State.via_next h

theorem State.govActive_domreqWritten (s : State) (q : Who) (v : Word) : (s.domreqWritten q v).govActive = s.govActive := by
  rw [State.govActive, State.flag_congr (s.get_domreqWritten q v (f := R.EGV_CFG_EN) (by decide)),
    s.get_domreqWritten q v (by decide), s.get_domreqWritten q v (by decide), s.get_domreqWritten q v (by decide),
    State.govActive]

theorem State.on_domreqWritten (s : State) (q : Who) (v : Word) (d : Fin 12) : (s.domreqWritten q v).on d = s.on d :=
  State.on_congr (s.get_domreqWritten q v ((by decide : ∀ d : Fin 12,
    [R.PWR_DOMREQ_REQERR, R.PWR_DOMREQ_PD11OFF, R.PWR_DOMREQ_PD7OFF].all (·.apart (R.PWR_DOM d)) = true) d))

theorem State.quiesce_quiet {s : State} {d : Nat} (h : s.on d = true) (st : Nat) :
    (s.quiesce d st).pwr.quiet = ((s.set (R.PWR_DOM d) 4).atFence d).pwr.quiet ++ [(d, st)] := by
  rw [State.quiesce, if_pos h]

section
variable (q : Who) (v : Word) (s : State) (h : s.on 0 = true)
include h

theorem pd7PowerRequest_off (h7 : s.flag R.PWR_DOMREQ_PD7OFF = false) (hv : v.toNat.testBit 0 = true)
    (h11 : v.toNat.testBit 1 = s.flag R.PWR_DOMREQ_PD11OFF) :
    (s.govActive = true → ∃ t, exec (.pd7PowerRequest q v) s = .next t ∧ t.flag R.PWR_DOMREQ_PD7OFF = false
        ∧ t.flag R.PWR_DOMREQ_REQERR = true ∧ t.get (R.PWR_DOM 7) = s.get (R.PWR_DOM 7) ∧ OnlyIn [.resp, .pd 0] s t)
      ∧ (s.govActive = false → s.on 7 = true → ∃ u : State, exec (.pd7PowerRequest q v) s = .next (u.quiesce 7 0)
        ∧ u.flag R.PWR_DOMREQ_PD7OFF = true ∧ OnlyIn [.resp, .pd 0] s u
        ∧ (u.quiesce 7 0).pwr.quiet = s.pwr.quiet ++ [(7, 0)]) := by
  have next := State.writeDomreq_next q v h
  have moves := s.domreqWritten_onlyIn q v
  simp only [h7, hv, h11, Bool.not_false, Bool.and_self, if_true, State.govActive_domreqWritten, Bool.and_not_self,
    Bool.not_true, Bool.false_eq_true, if_false] at next
  refine ⟨fun hg => ?_, fun hg hon => ?_⟩
  · rw [if_pos hg] at next
    refine ⟨_, next, ?_, State.flag_set_one _ rfl, ?_, Moves.onlyIn (K := partsOf [.resp, .pd 0]) _ ?_ (by decide)⟩
    · exact (State.flag_set_apart _ rfl 1).trans (State.flag_set_zero ..)
    · exact (State.get_set_apart _ rfl 1).trans ((State.get_set_apart _ rfl 0).trans (s.get_domreqWritten q v (by decide)))
    · exact (moves.step (State.set_moves (d := 0) rfl) (by decide)).step (State.set_moves (d := 0) rfl) (by decide)
  · have on : (s.domreqWritten q v).on 7 = true := (s.on_domreqWritten q v 7).trans hon
    rw [if_neg (by rw [hg]; decide), State.askOff, if_pos on] at next
    refine ⟨_, next, (s.domreqWritten_shows q v).1.trans hv, moves.onlyIn _ (by decide), ?_⟩
    have fenced : (((s.domreqWritten q v).set (R.PWR_DOM 7) 4).atFence 7).pwr = (s.domreqWritten q v).pwr :=
      (State.analogDown_moves ((s.domreqWritten q v).set (R.PWR_DOM 7) 4)).same .pwr (by decide)
    rw [State.quiesce_quiet on, fenced, moves.same .pwr (by decide)]

theorem pd11PowerRequest_off (h11 : s.flag R.PWR_DOMREQ_PD11OFF = false) (hv : v.toNat.testBit 1 = true)
    (h7 : v.toNat.testBit 0 = s.flag R.PWR_DOMREQ_PD7OFF) (hon : s.on 11 = true) :
    ∃ t, exec (.pd11PowerRequest q v) s = .next t ∧ t.flag R.PWR_DOMREQ_PD11OFF = true ∧ t.get (R.PWR_DOM 11) = 4
      ∧ t.pwr.quiet = s.pwr.quiet ++ [(11, 0)] := by
  have next := State.writeDomreq_next q v h
  have on : (s.domreqWritten q v).on 11 = true := (s.on_domreqWritten q v 11).trans hon
  simp only [h11, hv, h7, Bool.not_false, Bool.and_self, if_true, Bool.and_not_self, Bool.false_eq_true, if_false] at next
  rw [State.askOff, if_pos on] at next
  refine ⟨_, next, ?_, ?_, ?_⟩
  · rw [State.quiesce, if_pos on]
    exact (State.flag_set_apart _ rfl 4).trans ((s.domreqWritten_shows q v).2.trans hv)
  · rw [State.quiesce, if_pos on]
    exact (s.domreqWritten q v).get_set_dom 11 (by decide)
  · rw [State.quiesce_quiet on]
    exact congrArg (PwrSt.quiet · ++ [(11, 0)]) ((s.domreqWritten_onlyIn q v).same .pwr (by decide))

theorem pd11PowerRequest_on (h11 : s.flag R.PWR_DOMREQ_PD11OFF = true) (hv : v.toNat.testBit 1 = false)
    (h7 : v.toNat.testBit 0 = s.flag R.PWR_DOMREQ_PD7OFF) (hon : s.on 1 = true) (hoff : s.get (R.PWR_DOM 11) = 0) :
    ∃ t, exec (.pd11PowerRequest q v) s = .next t ∧ t.flag R.PWR_DOMREQ_PD11OFF = false ∧ t.get (R.PWR_DOM 11) = 2 := by
  have next := State.writeDomreq_next q v h
  have ready : (requires 11).all (s.domreqWritten q v).on = true := by
    have on : (s.domreqWritten q v).on 1 = true := (s.on_domreqWritten q v 1).trans hon
    simpa [requires] using on
  have off : (s.domreqWritten q v).get (R.PWR_DOM 11) = 0 := (s.get_domreqWritten q v (by decide)).trans hoff
  simp only [h11, hv, h7, Bool.not_false, Bool.not_true, Bool.and_self, if_true, Bool.and_not_self,
    Bool.false_eq_true, if_false] at next
  rw [State.switchOn_switches (.inl off) ready] at next
  refine ⟨_, next, ?_, State.get_set_dom _ 11 (by decide)⟩
  exact (State.flag_set_apart _ rfl 2).trans ((s.domreqWritten_shows q v).2.trans hv)

end

/-! ### Banks of system SRAM (R482, R492) -/

theorem regFields_sram : regFields 0x2010 = [R.PWR_SRAM_OFF, R.PWR_SRAM_RET] := by decide

/-- A byte after the banks that a mask does not keep are dropped. -/
theorem State.byte_dropBanks (s : State) (keep a : Nat) :
    ((∃ b < 4, keep.testBit b = false ∧ sramBase + 0x40000 * b ≤ a ∧ a < sramBase + 0x40000 * (b + 1)) →
        (s.dropBanks keep).byte a = memDefault a)
      ∧ ((∀ b < 4, keep.testBit b = false → ¬ (sramBase + 0x40000 * b ≤ a ∧ a < sramBase + 0x40000 * (b + 1))) →
        (s.dropBanks keep).byte a = s.byte a) := by
  suffices all : ∀ (l : List Nat) (s : State),
      (((∃ b ∈ l, keep.testBit b = false ∧ sramBase + 0x40000 * b ≤ a ∧ a < sramBase + 0x40000 * (b + 1))
          ∨ s.byte a = memDefault a) →
        (l.foldl (fun s b => if keep.testBit b then s
          else s.wipe (sramBase + 0x40000 * b) (sramBase + 0x40000 * (b + 1))) s).byte a = memDefault a)
      ∧ ((∀ b ∈ l, keep.testBit b = false → ¬ (sramBase + 0x40000 * b ≤ a ∧ a < sramBase + 0x40000 * (b + 1))) →
        (l.foldl (fun s b => if keep.testBit b then s
          else s.wipe (sramBase + 0x40000 * b) (sramBase + 0x40000 * (b + 1))) s).byte a = s.byte a) by
    obtain ⟨wiped, left⟩ := all (List.range 4) s
    exact ⟨fun ⟨b, hb, hw⟩ => wiped (.inl ⟨b, List.mem_range.mpr hb, hw⟩), fun h => left fun b hb => h b (List.mem_range.mp hb)⟩
  intro l
  induction l with
  | nil => exact fun s => ⟨fun h => h.resolve_left (by simp), fun _ => rfl⟩
  | cons b l ih =>
    intro s
    obtain ⟨wiped, left⟩ := ih (if keep.testBit b then s else s.wipe (sramBase + 0x40000 * b) (sramBase + 0x40000 * (b + 1)))
    have byte : (if keep.testBit b then s else s.wipe (sramBase + 0x40000 * b) (sramBase + 0x40000 * (b + 1))).byte a
        = if keep.testBit b = false ∧ sramBase + 0x40000 * b ≤ a ∧ a < sramBase + 0x40000 * (b + 1) then memDefault a
          else s.byte a := by
      by_cases hk : keep.testBit b
      · simp [hk]
      · rw [if_neg hk]
        simp only [hk, true_and]
        exact memGet_memClear ..
    rw [List.foldl_cons]
    refine ⟨fun h => wiped ?_, fun h => (left fun c hc => h c (List.mem_cons_of_mem b hc)).trans ?_⟩
    · rw [byte]
      rcases h with ⟨c, hc, hw⟩ | h
      · rcases List.mem_cons.mp hc with rfl | hc
        · exact .inr (if_pos hw)
        · exact .inl ⟨c, hc, hw⟩
      · refine .inr ?_
        split
        · rfl
        · exact h
    · rw [byte, if_neg fun hw => h b List.mem_cons_self hw.1 hw.2]

theorem sramBankPowerRequest_drops (q : Who) (v : Word) (s : State) (h : s.on 0 = true) :
    ∃ t, exec (.sramBankPowerRequest q v) s = .next t ∧ t.get R.PWR_SRAM_OFF = v.toNat / 2 ^ 8 % 16
      ∧ t.get R.PWR_SRAM_RET = v.toNat % 16 ∧ OnlyIn [.resp, .mem, .pd 0] s t
      ∧ (∀ b, b < 4 → v.toNat.testBit (8 + b) = true →
          ∀ i, i < 0x40000 → t.byte (sramBase + 0x40000 * b + i) = memDefault (sramBase + 0x40000 * b + i))
      ∧ (∀ a, (∀ b, b < 4 → v.toNat.testBit (8 + b) = true →
          ¬ (sramBase + 0x40000 * b ≤ a ∧ a < sramBase + 0x40000 * (b + 1))) → t.byte a = s.byte a) := by
  set u := (s.reply q.req .ok 0).writeReg q 0x2010 v.toNat with hu
  have written : u = ((s.reply q.req .ok 0).set R.PWR_SRAM_OFF (presented v.toNat R.PWR_SRAM_OFF)).set R.PWR_SRAM_RET
      (presented v.toNat R.PWR_SRAM_RET) := by
    rw [hu, State.writeReg_rw _ q _ (by rw [regFields_sram]; decide), regFields_sram]
    rfl
  have off : u.get R.PWR_SRAM_OFF = v.toNat / 2 ^ 8 % 16 := by
    rw [written, State.get_set_apart _ rfl, State.get_set]
    exact Nat.mod_mod _ 16
  have ret : u.get R.PWR_SRAM_RET = v.toNat % 16 := by
    rw [written, State.get_set]
    change v.toNat / 1 % 16 % 16 = _
    omega
  have mem (a : Nat) : u.byte a = s.byte a := by rw [written]; rfl
  have dropped : ∀ b < 4, (15 - u.get R.PWR_SRAM_OFF).testBit b = false ↔ v.toNat.testBit (8 + b) = true := by
    have all : ∀ x : Fin 16, ∀ b < 4, (15 - x.val).testBit b = false ↔ x.val.testBit b = true := by decide
    intro b hb
    rw [off, all ⟨v.toNat / 2 ^ 8 % 16, Nat.mod_lt _ (by decide)⟩ b hb]
    change (v.toNat / 2 ^ 8 % 2 ^ 4).testBit b = true ↔ _
    rw [Nat.testBit_mod_two_pow, Nat.testBit_div_two_pow, Nat.add_comm b 8]
    simp [hb]
  have bytes := fun a => u.byte_dropBanks (15 - u.get R.PWR_SRAM_OFF) a
  refine ⟨u.dropBanks (15 - u.get R.PWR_SRAM_OFF), State.via_next h, ?_, ?_, ?_, ?_, ?_⟩
  · exact ((State.dropBanks_moves u _).same (.pd 0) (by decide) _ rfl).trans off
  · exact ((State.dropBanks_moves u _).same (.pd 0) (by decide) _ rfl).trans ret
  · refine Moves.onlyIn (K := partsOf [.resp, .mem, .pd 0]) _ (.step ?_ (State.dropBanks_moves ..) (by decide)) (by decide)
    rw [written]
    exact (((s.reply_moves ..).mono (by decide)).step (State.set_moves (d := 0) rfl) (by decide)).step
      (State.set_moves (d := 0) rfl) (by decide)
  · intro b hb hv i hi
    exact (bytes _).1 ⟨b, hb, (dropped b hb).mpr hv, by omega, by omega⟩
  · intro a ha
    rw [(bytes a).2 fun b hb hk => ha b hb ((dropped b hb).mp hk), mem]

/-- Settles O50: the drain and the coming up of a domain, its loss and restart, and the requests of the PWR frame. -/
theorem powerDomains : Obligations.PowerDomains :=
  ⟨domainQuiesceComplete_drains, fun d s h6 h8 _ => goDown_keeps d s h6 h8, domainPowerUpComplete_ignored, domainPowerUpComplete_retained,
    domainUnplannedLoss_faults, domainUnplannedLoss_battery, domainRestart_restarts, domainRestart_stays,
    pd7PowerRequest_off, pd11PowerRequest_off, pd11PowerRequest_on, sramBankPowerRequest_drops⟩

end Sys2Proof.Machine
end

section
/-!
PROOFS of the statement on the power states (O51, R480, R483 to R493): replies, the request that Crerus serves, the
stages of an entry, wakes and the end of an exit.
-/

namespace Sys2Proof.Machine

/-! ### Replies (R480) -/

theorem State.answerJob_cases (j : Job) (st : Nat) (pay : List Nat) (s : State) :
    (∀ n, j.src = .host n → s.on 10 = false → s.answerJob j st pay = s.inc R.PWR_LOSTREPLY)
    ∧ (∀ b, j.src = .loc b → s.on 1 = false → s.answerJob j st pay = s.inc R.PWR_LOSTREPLY)
    ∧ (∀ m x, j.src = .warp m x → s.on 9 = false → s.answerJob j st pay = s.inc R.PWR_LOSTREPLY)
    ∧ (∀ n, j.src = .host n → s.on 10 = true → s.answerJob j st pay = s.putHost n (j.replyMsg st pay))
    ∧ (∀ b, j.src = .loc b → s.on 1 = true → s.answerJob j st pay = s.replyLocal b (j.replyMsg st pay))
    ∧ (∀ m x, j.src = .warp m x → s.on 9 = true → s.answerJob j st pay =
        s.openSend { xid := x, dst := m, bytes := j.replyMsg st pay, reply := true })
    ∧ (s.inc R.PWR_LOSTREPLY).get R.PWR_LOSTREPLY = min 0xFFFF (s.get R.PWR_LOSTREPLY + 1) := by
  refine ⟨?_, ?_, ?_, ?_, ?_, ?_, s.get_inc R.PWR_LOSTREPLY⟩ <;>
    (intros; simp_all only [State.answerJob, if_true, Bool.false_eq_true, if_false])

/-- A reply changes no register of PD0 but the count of those that are lost. -/
theorem State.get_answerJob (s : State) (j : Job) (st : Nat) (pay : List Nat) {f : Fld} (h0 : f.pd = 0)
    (hf : R.PWR_LOSTREPLY ≠ f) : (s.answerJob j st pay).get f = s.get f := by
  unfold State.answerJob
  dsimp only
  split
  · split
    · exact (s.putHost_moves ..).same (.pd 0) (by decide) f h0
    · exact State.get_inc_ne s hf
  · split
    · exact (s.replyLocal_moves ..).same (.pd 0) (by decide) f h0
    · exact State.get_inc_ne s hf
  · split
    · exact (s.openSend_moves _).same (.pd 0) (by decide) f h0
    · exact State.get_inc_ne s hf

theorem State.get_finish (s : State) (j : Job) (st : Nat) (pay : List Nat) {f : Fld} (h0 : f.pd = 0)
    (hf : R.PWR_LOSTREPLY ≠ f) : (s.finish j st pay).get f = s.get f :=
  (State.get_answerJob _ j st pay h0 hf).trans ((s.dropJob_moves j).same (.pd 0) (by decide) f h0)

/-! ### The request that is served (R322) -/

theorem List.find?_of_stronger {α : Type} {p r : α → Bool} {l : List α} {x : α} (h : l.find? p = some x)
    (hr : ∀ a, r a = true → p a = true) (hx : r x = true) : l.find? r = some x := by
  induction l with
  | nil => cases h
  | cons a l ih =>
    by_cases ha : p a = true
    · rw [List.find?_cons_of_pos ha] at h
      cases h
      exact List.find?_cons_of_pos hx
    · rw [List.find?_cons_of_neg ha] at h
      rw [List.find?_cons_of_neg fun e => ha (hr a e), ih h]

/-- The request that Crerus serves is the one that is picked for its kind. -/
theorem State.Serves.pick {s : State} {j : Job} (h : s.Serves j) {p : Job → Bool} (hp : p j = true) :
    s.pick p = some j := by
  rw [State.pick, if_pos h.up]
  have here := List.find?_some h.first
  refine List.find?_of_stronger h.first (fun a ha => ?_) ?_
  · simp only [Bool.and_eq_true] at ha ⊢
    exact ⟨ha.1.1, ha.2⟩
  · simp only [Bool.and_eq_true] at here ⊢
    exact ⟨⟨here.1, hp⟩, here.2⟩

theorem State.Serves.serve {s : State} {j : Job} (h : s.Serves j) {p : Job → Bool} (hp : p j = true)
    (f : State → Job → State) : s.serve p f = f s j := by
  rw [State.serve, h.pick hp]

theorem Job.isDo_of {j : Job} {n : Nat} (hv : j.verb = 5) (hn : j.noun = n) : j.isDo n = true := by
  simp [Job.isDo, hv, hn]

/-- A suspended request waits among those that are suspended. -/
theorem State.mem_suspend (s : State) (j : Job) (w : JobWait) : { j with wait := w } ∈ (s.suspend j w).crerus.susp :=
  (List.mem_insertionSort _).mpr (List.mem_append_right _ List.mem_cons_self)

/-! ### Requests of a power state (R483, R484) -/

section
variable (j : Job) (s : State) (h : s.Serves j) (hv : j.verb = 5) (hn : j.noun = 0x100)
include h hv hn

theorem exec_doPowerState : exec .doPowerState s = .next (s.powerRequest j) :=
  congrArg Host.Outcome.next (h.serve (Job.isDo_of hv hn) _)

theorem doPowerState_present (hm : s.get R.PWR_STATE_PSTATE = j.md) : exec .doPowerState s = .next (s.finish j 0 []) :=
  (exec_doPowerState j s h hv hn).trans (congrArg _ (if_pos hm))

theorem doPowerState_busy (hm : s.get R.PWR_STATE_PSTATE ≠ j.md) (hb : s.powerBusy j.md = true) :
    exec .doPowerState s = .next (s.finish j 0x20 []) :=
  (exec_doPowerState j s h hv hn).trans (congrArg _ ((if_neg hm).trans (if_pos hb)))

theorem doPowerState_enters (hm : s.get R.PWR_STATE_PSTATE ≠ j.md) (hb : s.powerBusy j.md = false)
    (hmd : j.md = 2 ∨ j.md = 3) :
    ∃ t, exec .doPowerState s = .next t ∧ t.flag R.PWR_STATE_ENTRY = true ∧ t.pwr.entry = some j.md
      ∧ t.pwr.job = some j.id ∧ { j with wait := .power j.md } ∈ t.crerus.susp := by
  set u := if (fieldOf j.pay 0 1).testBit 7 then s.set R.PWR_SRAM_RET (fieldOf j.pay 0 1 % 16) else s with hu
  have begun : s.powerRequest j = u.beginEntry j j.md := by
    refine (if_neg hm).trans ((if_neg (by simp [hb])).trans ?_)
    rw [← hu]
    rcases hmd with e | e
    · rw [e]
      rfl
    · rw [e]
      rfl
  set v := (u.set R.PWR_STATE_ENTRY 1).raise 145 with hv'
  set w := if v.on 10 then v.set R.HIF_STATUS_ENTRY_PENDING 1 else v with hw
  have started : u.beginEntry j j.md =
      State.suspend { w with pwr := { w.pwr with entry := some j.md, job := some j.id, past := false } } j (.power j.md) := rfl
  refine ⟨_, (exec_doPowerState j s h hv hn).trans (congrArg _ (begun.trans started)), ?_, rfl, rfl, State.mem_suspend ..⟩
  have entry : w.get R.PWR_STATE_ENTRY = v.get R.PWR_STATE_ENTRY := by
    rw [hw]
    split
    · exact State.get_set_apart _ rfl 1
    · rfl
  rw [← started, State.flag_congr (s := w) ((started ▸ (State.suspend_moves _ _ _).same (.pd 0) (by decide) _ rfl :
    (u.beginEntry j j.md).get R.PWR_STATE_ENTRY = w.get R.PWR_STATE_ENTRY)), State.flag_congr entry, hv', State.flag_congr (State.get_raise_apart _ _ (by decide))]
  exact State.flag_set_one u rfl

end

/-! ### Stops (R485) -/

theorem regFields_ack : regFields 0x2018 = [R.PWR_ACK] := by decide

theorem powerAckReady_acknowledges (q : Who) (v : Word) (s : State) (h : s.on 0 = true) :
    ∃ t, exec (.powerAckReady q v) s = .next t ∧ t.get R.PWR_ACK = (s.get R.PWR_ACK ||| v.toNat % 8) % 8
      ∧ OnlyIn [.resp, .pd 0] s t ∧ RegsOnly (fun f => f = R.PWR_ACK) s t := by
  have written : (s.reply q.req .ok 0).writeReg q 0x2018 v.toNat
      = (s.reply q.req .ok 0).set R.PWR_ACK (s.get R.PWR_ACK ||| presented v.toNat R.PWR_ACK) := by
    rw [State.writeReg_unlocked _ q _ (by rw [regFields_ack]; decide), regFields_ack]
    rfl
  refine ⟨_, (State.via_next h).trans (congrArg _ written), ?_, ?_, RegsOnly.of_set _ _ _⟩
  · rw [State.get_set]
    change (_ ||| v.toNat / 1 % 8) % 8 = _
    rw [Nat.div_one]
  · exact Moves.onlyIn (K := partsOf [.resp, .pd 0]) _
      (((s.reply_moves ..).mono (by decide)).step (State.set_moves (d := 0) rfl) (by decide)) (by decide)

/-- Outside a move a stop lets the load before land and abandons the access that waits. -/
theorem Core.stop_still {k : Core} (h : k.moving = false) :
    k.stop = { k.settle with wait := none, retries := 0, run := .stopped } := by
  rw [Core.stop, Core.parkMove_still (k.settle_moving.trans h)]

section
variable (c : Fin 3) (s : State) (he : s.flag R.PWR_STATE_ENTRY = true) (hx : s.coreExists c = true)
  (hr : (s.coreAt c).run = .issuing ∨ (s.coreAt c).run = .wfi) (hh : s.bit R.DBG_STAT_HALTED c = false)
include he hx hr hh

/-- In an entry, the time-out stops a running core that nothing holds. -/
theorem State.forceStop_running : s.forceStop c =
    if s.haltLocked c || (s.coreAt c).mustWait || (decide (c.val = 0) && s.wld.saved.isSome) then s
    else s.updCore c Core.stop := by
  have runs : (s.coreExists c && (decide ((s.coreAt c).run = .issuing) || decide ((s.coreAt c).run = .wfi))
      && !s.bit R.DBG_STAT_HALTED c) = true := by
    rcases hr with hr | hr <;> simp [hx, hr, hh]
  unfold State.forceStop
  dsimp only
  rw [he, runs]
  cases s.haltLocked c || (s.coreAt c).mustWait || (decide (c.val = 0) && s.wld.saved.isSome) <;> rfl

theorem powerForcedStopTimeout_held (hw : s.haltLocked c = true ∨ (s.coreAt c).mustWait = true) :
    exec (.powerForcedStopTimeout c) s = .next s := by
  refine congrArg Host.Outcome.next ((s.forceStop_running c he hx hr hh).trans (if_pos ?_))
  rcases hw with hw | hw <;> simp [hw]

theorem powerForcedStopTimeout_stops (hl : s.haltLocked c = false) (hw : (s.coreAt c).mustWait = false)
    (hs : c = 0 → s.wld.saved = none) :
    ∃ t, exec (.powerForcedStopTimeout c) s = .next t ∧ CoreOnly c s t ∧ (t.coreAt c).run = .stopped
      ∧ (t.coreAt c).pc = (s.coreAt c).pc ∧ (s.coreAt c).KeepsRegs (t.coreAt c) := by
  have open_call : (decide (c.val = 0) && s.wld.saved.isSome) = false := by
    by_cases hc : c = 0
    · rw [hs hc]
      simp
    · simp [show c.val ≠ 0 from fun e => hc (Fin.ext e)]
  have still : (s.coreAt c).moving = false := (Bool.or_eq_false_iff.mp hl).2
  have stopped : (s.updCore c Core.stop).coreAt c = { (s.coreAt c).settle with wait := none, retries := 0, run := .stopped } := by
    rw [State.coreAt_updCore, if_pos rfl, Core.stop_still still]
  refine ⟨s.updCore c Core.stop, congrArg Host.Outcome.next ((s.forceStop_running c he hx hr hh).trans (if_neg ?_)),
    CoreOnly.updCore s c _, ?_⟩
  · rw [hl, hw, open_call]
    decide
  · rw [stopped]
    refine ⟨rfl, ?_, fun r => (s.coreAt c).rd_settle r⟩
    rw [(s.coreAt c).settle_eq]

end

/-! ### The stages of an entry (R484) -/

theorem State.on_of_domLive {s : State} {d : Nat} (h : s.domLive d = false) : s.on d = false := by
  simp only [State.domLive, Bool.or_eq_false_iff] at h
  exact h.1.2

theorem powerEntryContinue_waits (st : Nat) (s : State) (he : s.pwr.entry = some st)
    (h : s.coresStopped = false ∨ s.plyBusy = true) : exec .powerEntryContinue s = .next s := by
  have held : (!s.coresStopped || s.plyBusy) = true := by rcases h with h | h <;> simp [h]
  have step : s.entryStep st = s := if_pos held
  refine congrArg Host.Outcome.next ?_
  rw [he]
  exact step

/-- The state in which the request of the entry is answered. -/
def State.entryAnswered (s : State) : State :=
  match s.crerus.susp.find? Job.entering with
  | some j => s.finish j 0 []
  | none => s

theorem State.get_entryAnswered (s : State) {f : Fld} (h0 : f.pd = 0) (hf : R.PWR_LOSTREPLY ≠ f) :
    s.entryAnswered.get f = s.get f := by
  unfold State.entryAnswered
  split
  · exact State.get_finish _ _ _ _ h0 hf
  · rfl

/-- The count of the entries into HOLD or SLEEP. -/
def entryCount (st : Nat) : Fld := if st = 3 then R.PWR_ENTRIES_SLEEP else R.PWR_ENTRIES_HOLD

/-- The state in which the part has entered `st`, before PD1 goes into retention. -/
def State.entered (s : State) (st : Nat) : State :=
  let s := ((s.set R.PWR_STATE_ENTRY 0).setPstate st).set R.PWR_ACK 0
  let s := if s.on 10 then s.set R.HIF_STATUS_ENTRY_PENDING 0 else s
  s.inc (entryCount st)

theorem State.get_setPstate_apart (s : State) (st : Nat) {f : Fld} (h : R.PWR_STATE_PSTATE.apart f = true)
    (h10 : R.HIF_STATUS_PSTATE.apart f = true) : (s.setPstate st).get f = s.get f := by
  unfold State.setPstate
  dsimp only
  split
  · exact (State.get_set_apart _ h10 st).trans (State.get_set_apart s h st)
  · exact State.get_set_apart s h st

theorem State.get_setPstate (s : State) (st : Nat) : (s.setPstate st).get R.PWR_STATE_PSTATE = st % 8 := by
  unfold State.setPstate
  dsimp only
  split
  · exact (State.get_set_apart _ rfl st).trans (State.get_set ..)
  · exact State.get_set ..

theorem State.get_entered (s : State) (st : Nat) {f : Fld} (hc : (entryCount st).apart f = true)
    (hp : R.HIF_STATUS_ENTRY_PENDING.apart f = true) :
    (s.entered st).get f = (((s.set R.PWR_STATE_ENTRY 0).setPstate st).set R.PWR_ACK 0).get f := by
  refine (State.get_inc_apart _ hc).trans ?_
  split
  · exact State.get_set_apart _ hp 0
  · rfl

theorem entryCount_apart (st : Nat) : ∀ f ∈ [R.PWR_STATE_PSTATE, R.PWR_STATE_ENTRY, R.PWR_ACK, R.PWR_DOM 1],
    (entryCount st).apart f = true := by
  unfold entryCount
  split <;> decide

theorem entryCount_own (st : Nat) : ∀ f ∈ [R.PWR_STATE_ENTRY, R.PWR_STATE_PSTATE, R.HIF_STATUS_PSTATE, R.PWR_ACK,
    R.HIF_STATUS_ENTRY_PENDING], f.apart (entryCount st) = true := by
  unfold entryCount
  split <;> decide

theorem entryCount_shape (st : Nat) : (entryCount st).w = 16 ∧ (entryCount st).pd = 0 ∧ R.PWR_LOSTREPLY ≠ entryCount st
    ∧ (R.PWR_DOM 1).apart (entryCount st) = true := by
  unfold entryCount
  split <;> decide

theorem State.entered_shows (s : State) {st : Nat} (hst : st = 2 ∨ st = 3) :
    (s.entered st).get R.PWR_STATE_PSTATE = st ∧ (s.entered st).get R.PWR_STATE_ENTRY = 0
      ∧ (s.entered st).get R.PWR_ACK = 0 ∧ (s.entered st).get (R.PWR_DOM 1) = s.get (R.PWR_DOM 1)
      ∧ (s.entered st).get (entryCount st) = min 0xFFFF (s.get (entryCount st) + 1) := by
  have apart := entryCount_apart st
  have own := entryCount_own st
  refine ⟨?_, ?_, ?_, ?_, ?_⟩
  · rw [State.get_entered _ _ (apart _ (by decide)) rfl, State.get_set_apart _ rfl, State.get_setPstate]
    omega
  · rw [State.get_entered _ _ (apart _ (by decide)) rfl, State.get_set_apart _ rfl, State.get_setPstate_apart _ _ rfl rfl]
    exact State.get_set ..
  · rw [State.get_entered _ _ (apart _ (by decide)) rfl]
    exact State.get_set ..
  · rw [State.get_entered _ _ (apart _ (by decide)) rfl, State.get_set_apart _ rfl, State.get_setPstate_apart _ _ rfl rfl,
      State.get_set_apart _ rfl]
  · rw [State.entered, State.get_inc, (entryCount_shape st).1]
    refine congrArg (fun n => min 0xFFFF (n + 1)) ?_
    have before : (((s.set R.PWR_STATE_ENTRY 0).setPstate st).set R.PWR_ACK 0).get (entryCount st) = s.get (entryCount st) := by
      rw [State.get_set_apart _ (own _ (by decide)), State.get_setPstate_apart _ _ (own _ (by decide)) (own _ (by decide)),
        State.get_set_apart _ (own _ (by decide))]
    split
    · rw [State.get_set_apart _ (own _ (by decide)), before]
    · exact before

theorem State.entryReply_eq (s : State) (st : Nat) : s.entryReply st =
    State.quiesce { s.entryAnswered.entered st with
      pwr := { (s.entryAnswered.entered st).pwr with entry := none, job := none } } 1 1 := rfl

/-- The last stage of an entry, with nothing left to serve and every domain that goes before PD1 down. -/
theorem State.entryStep_replies {s : State} (st : Nat) (hc : s.coresStopped = true)
    (hp : s.plyBusy = false) (hd : ∀ d ∈ [3, 4, 5, 11], s.domLive d = false) (hs : s.served = true)
    (hj : s.jrnlClean = true) (hf : s.flashBusy = false) :
    s.entryStep st = State.entryReply { s with pwr := { s.pwr with noFlash := true } } st := by
  have live (d : Nat) (h : d ∈ [3, 4, 5, 11]) : s.on d = false := State.on_of_domLive (hd d h)
  have strands : [3, 4, 5].any s.on = false := by
    simp [live 3 (by decide), live 4 (by decide), live 5 (by decide)]
  have gone : [3, 4, 5].any s.domLive = false := by
    simp [hd 3 (by decide), hd 4 (by decide), hd 5 (by decide)]
  have custody : State.on { s with pwr := { s.pwr with noFlash := true } } 11 = false := live 11 (by decide)
  have engine : State.domLive { s with pwr := { s.pwr with noFlash := true } } 11 = false := hd 11 (by decide)
  have flash : State.flashBusy { s with pwr := { s.pwr with noFlash := true } } = false := hf
  unfold State.entryStep
  simp only [hc, hp, strands, gone, hs, hj, custody, engine, flash, Bool.not_true, Bool.or_self, Bool.false_eq_true,
    if_false]

theorem State.entryReply_shows (s : State) {st : Nat} (h1 : s.on 1 = true) (hst : st = 2 ∨ st = 3) :
    (s.entryReply st).get R.PWR_STATE_PSTATE = st ∧ (s.entryReply st).get R.PWR_STATE_ENTRY = 0
      ∧ (s.entryReply st).pwr.entry = none ∧ (s.entryReply st).get (R.PWR_DOM 1) = 4 ∧ (s.entryReply st).get R.PWR_ACK = 0
      ∧ (s.entryReply st).get (entryCount st) = min 0xFFFF (s.get (entryCount st) + 1) := by
  obtain ⟨pstate, entry, ack, dom, count⟩ := s.entryAnswered.entered_shows hst
  obtain ⟨-, pd, lost, apart⟩ := entryCount_shape st
  rw [s.get_entryAnswered pd lost] at count
  have on : (s.entryAnswered.entered st).on 1 = true := by
    rw [State.on_congr dom, State.on_congr (s.get_entryAnswered (f := R.PWR_DOM 1) rfl (by decide)), h1]
  rw [State.entryReply_eq]
  generalize s.entryAnswered.entered st = w at *
  rw [State.quiesce, if_pos (show State.on { w with pwr := { w.pwr with entry := none, job := none } } 1 = true from on)]
  have after {f : Fld} (hf : (R.PWR_DOM 1).apart f = true) : (w.set (R.PWR_DOM 1) 4).get f = w.get f :=
    State.get_set_apart w hf 4
  exact ⟨(after rfl).trans pstate, (after rfl).trans entry, rfl, w.get_set_dom 1 (by decide), (after rfl).trans ack,
    (after apart).trans count⟩

theorem powerEntryContinue_enters (st : Nat) (s : State) (he : s.pwr.entry = some st) (hc : s.coresStopped = true)
    (hp : s.plyBusy = false) (hd : ∀ d ∈ [3, 4, 5, 11], s.domLive d = false) (hs : s.served = true)
    (hj : s.jrnlClean = true) (hf : s.flashBusy = false) (h1 : s.on 1 = true) (hst : st = 2 ∨ st = 3) :
    ∃ t, exec .powerEntryContinue s = .next t ∧ t.get R.PWR_STATE_PSTATE = st ∧ t.flag R.PWR_STATE_ENTRY = false
      ∧ t.pwr.entry = none ∧ t.get (R.PWR_DOM 1) = 4 ∧ t.get R.PWR_ACK = 0
      ∧ t.get (if st = 3 then R.PWR_ENTRIES_SLEEP else R.PWR_ENTRIES_HOLD) =
          min 0xFFFF (s.get (if st = 3 then R.PWR_ENTRIES_SLEEP else R.PWR_ENTRIES_HOLD) + 1) := by
  obtain ⟨pstate, entry, closed, dom, ack, count⟩ :=
    State.entryReply_shows { s with pwr := { s.pwr with noFlash := true } } h1 hst
  have step := State.entryStep_replies st hc hp hd hs hj hf
  have next : exec .powerEntryContinue s = .next (s.entryStep st) := by
    refine congrArg Host.Outcome.next ?_
    rw [he]
  rw [step] at next
  exact ⟨_, next, pstate, by rw [State.flag, entry]; rfl, closed, dom, ack, count⟩

/-! ### Wakes and the end of an exit (R487, R493) -/

theorem powerWake_begins (n : Fin 224) (s : State) (hw : s.sourceWakes n = true) (ha : s.asleep = true)
    (he : s.flag R.PWR_STATE_EXIT = false) (hq : s.pwr.quiet = []) :
    ∃ t, exec (.powerWake n) s = .next t ∧ t.flag R.PWR_STATE_EXIT = true ∧ t.get R.PWR_STATE_WAKESRC = 1
      ∧ t.get R.PWR_WAKEINFO = n.val := by
  have woken : s.wake 1 n = s.beginExit 1 n := (if_neg (by simp [ha, he])).trans (if_pos (by simp [hq]))
  set u := ((s.set R.PWR_STATE_EXIT 1).set R.PWR_STATE_WAKESRC 1).set R.PWR_WAKEINFO n
  have begun {f : Fld} (h : f.addr ≠ 0x2004) (h' : f.addr ≠ 0x2008) : (s.beginExit 1 n).get f = u.get f :=
    State.get_bringUp _ fun d => R.PWR_DOM_ne_addr d h h'
  refine ⟨_, congrArg Host.Outcome.next ((if_pos hw).trans woken), ?_, ?_, ?_⟩
  · rw [State.flag_congr (begun (by decide) (by decide)), State.flag_set_apart _ rfl, State.flag_set_apart _ rfl,
      State.flag_set_one _ rfl]
  · rw [begun (by decide) (by decide), State.get_set_apart _ rfl]
    exact State.get_set ..
  · rw [begun (by decide) (by decide), State.get_set]
    exact Nat.mod_eq_of_lt (Nat.lt_trans n.isLt (by decide))

theorem powerWake_latched (n : Fin 224) (s : State) (hw : s.sourceWakes n = true) (ha : s.asleep = true)
    (he : s.flag R.PWR_STATE_EXIT = false) (hq : s.pwr.quiet ≠ []) (hn : s.pwr.wake = none) :
    ∃ t, exec (.powerWake n) s = .next t ∧ t.pwr.wake = some (1, n.val) ∧ OnlyIn [.pwr] s t := by
  have latched : s.wake 1 n = { s with pwr := { s.pwr with wake := some (1, n.val) } } :=
    (if_neg (by simp [ha, he])).trans ((if_neg (by simpa using hq)).trans (if_pos (by simp [hn])))
  exact ⟨_, congrArg Host.Outcome.next ((if_pos hw).trans latched), rfl, Moves.onlyIn _ (State.upd_pwr_moves ..) (by decide)⟩

theorem powerExitComplete_ends (s : State) (he : s.flag R.PWR_STATE_EXIT = true) (hu : s.allUp = true)
    (hp : s.get R.PWR_STATE_PSTATE ≠ 3) (h6 : s.on 6 = true) :
    ∃ t, exec .powerExitComplete s = .next t ∧ t.get R.PWR_STATE_PSTATE = 0 ∧ t.flag R.PWR_STATE_EXIT = false
      ∧ t.get R.PWR_ACK = 0 ∧ t.flag (R.ICU_STS_PEND 145) = true
      ∧ ∀ c : Fin 3, (t.coreAt c).run = if (s.coreAt c).run = .stopped then .issuing else (s.coreAt c).run := by
  set u := (s.setPstate 0).set R.PWR_STATE_EXIT 0 with hu'
  have ended : s.endExit = (u.raise 145).freeCores := by
    unfold State.endExit
    rw [if_neg hp]
  have freed {f : Fld} (hf : R.PWR_ACK.apart f = true) : (u.raise 145).freeCores.get f = (u.raise 145).get f :=
    State.get_set_apart _ hf 0
  have on : u.on 6 = true := by
    rw [hu', State.on_congr (State.get_set_apart _ rfl 0), State.on_congr (State.get_setPstate_apart _ _ rfl rfl), h6]
  have cores : (u.raise 145).core = s.core :=
    ((u.raise_moves 145).same .core (by decide)).trans ((s.setPstate_moves 0).same .core (by decide))
  refine ⟨_, congrArg Host.Outcome.next ((if_pos (by rw [he, hu]; rfl)).trans ended), ?_, ?_, State.get_set _ _ 0, ?_,
    fun c => ?_⟩
  · rw [freed rfl, State.get_raise_apart _ _ (by decide), hu', State.get_set_apart _ rfl, State.get_setPstate]
  · rw [State.flag_congr (freed rfl), State.flag_congr (State.get_raise_apart _ _ (by decide))]
    exact State.flag_set_zero ..
  · rw [State.flag_congr (freed rfl)]
    exact State.flag_raise (by decide) on
  · have core : (u.raise 145).freeCores.coreAt c = (s.coreAt c).unstop := by
      rw [State.coreAt_fin, State.coreAt_fin, ← cores]
      exact Vector.getElem_map ..
    rw [core, Core.unstop]
    split <;> rfl

/-! ### The main supply (R491) -/

/-- After a row of domains is put into OFF each of them is. -/
theorem State.get_foldl_off {d : Nat} : ∀ (l : List Nat) (s : State), s.get (R.PWR_DOM d) = 0 ∨ d ∈ l →
    (l.foldl (fun s d => s.set (R.PWR_DOM d) 0) s).get (R.PWR_DOM d) = 0
  | [], _, h => h.resolve_right List.not_mem_nil
  | e :: l, s, h => by
    refine State.get_foldl_off l _ ?_
    change (s.set (R.PWR_DOM e) 0).get _ = 0 ∨ _
    by_cases he : R.PWR_DOM e = R.PWR_DOM d
    · rw [he]
      exact .inl (s.get_set_dom d (by decide))
    · refine h.imp (fun h => (State.get_set_ne s he 0).trans h) fun h => (List.mem_cons.mp h).resolve_left ?_
      rintro rfl
      exact he rfl

/-- Every domain but PD0 is OFF, after what each holds is lost. -/
def State.suppliesOff (s : State) : State :=
  ((List.range 12).drop 1).foldl (fun s d => s.set (R.PWR_DOM d) 0)
    ((s.set R.TMP_STAT_ONVBAT 1).loseAll ((List.range 12).drop 1))

theorem State.get_suppliesOff (s : State) {d : Fin 12} (hd : d ≠ 0) : s.suppliesOff.get (R.PWR_DOM d) = 0 :=
  State.get_foldl_off _ _ (.inr ((by decide : ∀ d : Fin 12, d ≠ 0 → d.val ∈ (List.range 12).drop 1) d hd))

theorem mainSupplyLoss_offs (s : State) (h : s.flag R.TMP_STAT_ONVBAT = false) :
    ∃ t, exec .mainSupplyLoss s = .next t ∧ (∀ d : Fin 12, d ≠ 0 → t.get (R.PWR_DOM d) = 0)
      ∧ (∀ a, sramBase ≤ a → a < sramEnd → t.byte a = memDefault a) ∧ ∀ c : Fin 3, (t.coreAt c).run = .held := by
  refine ⟨s.toBattery, rfl, ?_⟩
  have off := fun d => s.get_suppliesOff (d := d)
  generalize hu : s.suppliesOff = u at off
  unfold State.suppliesOff at hu
  unfold State.toBattery
  rw [if_neg (Bool.eq_false_iff.mp h)]
  dsimp only
  rw [hu]
  refine ⟨fun d hd => off d hd, fun a lo hi => ?_, fun c => ?_⟩
  · exact (memGet_memClear ..).trans (if_pos ⟨lo, hi⟩)
  · rw [State.coreAt_fin]
    exact congrArg Core.run (Vector.getElem_map ..)

/-- Settles O51: where a reply goes, the request that is served, the stops and stages of an entry, wakes, the end of an
exit, and the loss of the main supply. -/
theorem powerStates : Obligations.PowerStates :=
  ⟨State.answerJob_cases,
    fun j s h hv hn => ⟨doPowerState_present j s h hv hn, doPowerState_busy j s h hv hn, doPowerState_enters j s h hv hn⟩,
    powerAckReady_acknowledges,
    fun c s he hx hr hh => ⟨powerForcedStopTimeout_held c s he hx hr hh, powerForcedStopTimeout_stops c s he hx hr hh⟩,
    fun st s he => ⟨powerEntryContinue_waits st s he, powerEntryContinue_enters st s he⟩,
    fun n s hw ha he => ⟨powerWake_begins n s hw ha he, powerWake_latched n s hw ha he⟩,
    powerExitComplete_ends, mainSupplyLoss_offs⟩

end Sys2Proof.Machine
end

section
/-!
PROOFS of the statement on resets and boot (O52, R499 to R512, R521): what each cause leaves, the release with the steps
of boot, and the restart of the Ply.
-/

namespace Sys2Proof.Machine

/-! ### Lists of causes (R499) -/

theorem mem_insOnce_of_mem {α : Type} [DecidableEq α] {l : List α} {x : α} (h : x ∈ l) (y : α) : x ∈ insOnce l y := by
  unfold insOnce
  split
  · exact h
  · exact List.mem_cons_of_mem y h

theorem mem_foldl_insOnce {α : Type} [DecidableEq α] {x : α} : ∀ (l m : List α), x ∈ l ∨ x ∈ m → x ∈ l.foldl insOnce m
  | [], _, h => h.resolve_left List.not_mem_nil
  | y :: l, m, h => mem_foldl_insOnce l (insOnce m y) <| by
    rcases h with h | h
    · rcases List.mem_cons.mp h with rfl | h
      · exact .inr (mem_insOnce m x)
      · exact .inl h
    · exact .inr (mem_insOnce_of_mem h y)

/-! ### A SYS reset (R12, R500) -/

/-- The registers after a SYS reset: those that are kept stay, PD0 alone is ON and the node is in bypass. -/
theorem State.get_sysReset {s : State} (hl : s.loomCfg = false) (cs : List Nat) (f : Fld) :
    (s.sysReset cs).get f = if R.WRP_STAT_BYPASS = f then 1 else if R.PWR_DOM 0 = f then 3
      else if s.keepsReg f then s.get f else f.rst.value := by
  have regs : (s.sysReset cs).regs = ((s.regs.reset fun f => !s.keepsReg f).set (R.PWR_DOM 0) 3).set R.WRP_STAT_BYPASS 1 := by
    unfold State.sysReset
    rw [hl]
    rfl
  rw [State.get, regs]
  split
  · next h =>
    rw [← h, Regs.get_set]
    rfl
  · next h =>
    rw [Regs.get_set_of_ne _ h]
    split
    · next h =>
      rw [← h, Regs.get_set]
      rfl
    · next h =>
      rw [Regs.get_set_of_ne _ h, Regs.get_reset]
      cases s.keepsReg f <;> rfl

theorem State.get_sysReset_aon {s : State} (hl : s.loomCfg = false) (cs : List Nat) {f : Fld} (hf : f.rd = .aon)
    (hb : f ≠ R.WRP_STAT_BYPASS) : (s.sysReset cs).get f = s.get f := by
  have dom : R.PWR_DOM 0 ≠ f := by rintro rfl; cases hf
  have kept : s.keepsReg f = true := by simp [State.keepsReg, hf]
  rw [State.get_sysReset hl, if_neg hb.symm, if_neg dom, if_pos kept]

theorem PWR_DOM_reset : ∀ d : Fin 12, R.WRP_STAT_BYPASS ≠ R.PWR_DOM d ∧ R.PWR_DOM d ≠ R.PWR_FAULT_LOST
    ∧ (R.PWR_DOM d).rst.value = 0 ∧ (R.PWR_DOM 0 = R.PWR_DOM d ↔ d = 0) := by decide

theorem State.get_sysReset_dom {s : State} (hl : s.loomCfg = false) (cs : List Nat) (d : Fin 12) :
    (s.sysReset cs).get (R.PWR_DOM d) = if d = 0 then 3 else 0 := by
  obtain ⟨bypass, lost, value, zero⟩ := PWR_DOM_reset d
  have dropped : ¬ s.keepsReg (R.PWR_DOM d) = true := by simp [State.keepsReg, R.PWR_DOM_rd, lost]
  rw [State.get_sysReset hl, if_neg bypass, if_neg dropped, value]
  by_cases hd : d = 0
  · rw [if_pos (zero.mpr hd), if_pos hd]
  · rw [if_neg (mt zero.mp hd), if_neg hd]

theorem State.sysReset_rst (s : State) (cs : List Nat) : (s.sysReset cs).rst.asserted = true
    ∧ ∀ c ∈ cs, c ∈ (s.sysReset cs).rst.causes := by
  unfold State.sysReset
  split <;> exact ⟨rfl, fun c hc => mem_foldl_insOnce _ _ (.inl hc)⟩

theorem State.sysReset_pad {s : State} (hl : s.loomCfg = false) (cs : List Nat) : (s.sysReset cs).pad = s.pad := by
  unfold State.sysReset
  rw [hl]
  rfl

theorem State.sysReset_slots {s : State} (hl : s.loomCfg = false) (cs : List Nat) :
    (s.sysReset cs).custody.slots = s.custody.slots := by
  unfold State.sysReset
  rw [hl]
  rfl

theorem State.byte_sysReset {s : State} (hl : s.loomCfg = false) (cs : List Nat) (a : Nat) :
    (s.sysReset cs).byte a = if keepsMem (cs.any fun c => decide (c ≤ 5)) a then s.byte a else memDefault a := by
  have mem : (s.sysReset cs).mem = s.mem.filter fun x => keepsMem (cs.any fun c => decide (c ≤ 5)) x.1 := by
    unfold State.sysReset
    rw [hl]
    rfl
  rw [State.byte, mem, memGet_filter _ (keepsMem (cs.any fun c => decide (c ≤ 5)))]
  rfl

/-! ### The causes (R384, R499, R500) -/

theorem State.cutFlash_idle {s : State} (h0 : s.flash.op0 = none) (h1 : s.flash.op1 = none) : s.cutFlash = s := by
  unfold State.cutFlash
  dsimp only
  rw [h0]
  dsimp only
  rw [h1]

theorem powerOnReset_cold (s : State) (h : s.flag R.TMP_STAT_ONVBAT = false ∨ s.on 0 = false) :
    ∃ t, exec .powerOnReset s = .next t ∧ t.rst = { asserted := true, aon := true, causes := [0], waiting := [] }
      ∧ t.fuse = s.fuse ∧ t.crerus = {} ∧ t.custody = { recordDue := true } ∧ t.time = {}
      ∧ (∀ f : Fld, t.get f = if f = R.PWR_DOM 0 then 3 else if f = R.WRP_STAT_BYPASS then 1 else f.rst.value)
      ∧ (s.flash.op0 = none → s.flash.op1 = none →
          ∀ a, 0x10000000 ≤ a → a < 0x10800000 → t.byte a = s.byte a) := by
  have cold : ¬ (s.flag R.TMP_STAT_ONVBAT && s.on 0) = true := by rcases h with h | h <;> simp [h]
  refine ⟨s.aonReset, congrArg Host.Outcome.next (if_neg cold), rfl, ?_, rfl, rfl, rfl, fun f => ?_, fun h0 h1 a lo hi => ?_⟩
  · exact s.cutFlash_moves.same .fuse (by decide)
  · change (Regs.set [(R.PWR_DOM 0, 3)] R.WRP_STAT_BYPASS 1).get f = _
    by_cases hb : R.WRP_STAT_BYPASS = f
    · subst hb
      rw [Regs.get_set, if_neg (by decide), if_pos rfl]
      rfl
    · rw [Regs.get_set_of_ne _ hb, if_neg (Ne.symm hb)]
      simp only [Regs.get, eq_comm]
  · change memGet (s.cutFlash.mem.filter fun x => decide (0x10000000 ≤ x.1) && decide (x.1 < 0x10800000)) a = _
    rw [State.cutFlash_idle h0 h1,
      memGet_filter _ fun a => decide (0x10000000 ≤ a) && decide (a < 0x10800000), if_pos (by simp [lo, hi]), State.byte]

theorem powerOnReset_battery (s : State) (h : s.flag R.TMP_STAT_ONVBAT = true) (h0 : s.on 0 = true)
    (hl : s.loomCfg = false) :
    ∃ t, exec .powerOnReset s = .next t ∧ t.rst.asserted = true ∧ 0 ∈ t.rst.causes
      ∧ t.flag R.TMP_STAT_ONVBAT = false ∧ t.custody.slots = s.custody.slots ∧ t.fuse = s.fuse ∧ t.pad = s.pad
      ∧ ∀ f : Fld, f.rd = .aon → f ≠ R.TMP_STAT_ONVBAT → f ≠ R.WRP_STAT_BYPASS → t.get f = s.get f := by
  obtain ⟨asserted, causes⟩ := s.sysReset_rst [0]
  refine ⟨s.batteryReturn, congrArg Host.Outcome.next (if_pos (by rw [h, h0]; rfl)), asserted, causes 0 (by decide),
    State.flag_set_zero .., State.sysReset_slots hl [0], (s.sysReset_moves [0]).same .fuse (by decide), State.sysReset_pad hl [0],
    fun f hf hv hb => ?_⟩
  exact (State.get_set_ne _ (Ne.symm hv) 0).trans (State.get_sysReset_aon hl [0] hf hb)

/-- A failing supply and the pin reset the part at once, under the number of their cause. -/
theorem exec_resetCause {i : Instr} {n : Nat}
    (h : (i, n) = (.resetPin, 6) ∨ ∃ k : Fin 5, (i, n) = (.brownOut k, 1 + k.val)) (s : State) :
    exec i s = .next (s.cutFlash.sysReset [n]) ∧ (n ≤ 5 ∧ n ≠ 6 ∨ n = 6) := by
  rcases h with h | ⟨k, h⟩
  · cases h
    exact ⟨rfl, .inr rfl⟩
  · cases h
    exact ⟨rfl, .inl ⟨by omega, by omega⟩⟩

theorem resetCause_resets (i : Instr) (n : Nat) (s : State)
    (h : (i, n) = (.resetPin, 6) ∨ ∃ k : Fin 5, (i, n) = (.brownOut k, 1 + k.val)) (h0 : s.flash.op0 = none)
    (h1 : s.flash.op1 = none) (hl : s.loomCfg = false) :
    ∃ t, exec i s = .next t ∧ t.rst.asserted = true ∧ n ∈ t.rst.causes
      ∧ (∀ d : Fin 12, t.get (R.PWR_DOM d) = if d = 0 then 3 else 0)
      ∧ t.fuse = s.fuse ∧ t.pad = s.pad ∧ t.custody.slots = s.custody.slots
      ∧ (∀ f : Fld, f.rd = .aon → f ≠ R.WRP_STAT_BYPASS → t.get f = s.get f)
      ∧ (∀ a, 0x10000000 ≤ a → a < 0x10800000 → t.byte a = s.byte a)
      ∧ (∀ a, sramBase ≤ a → a < sramEnd → t.byte a = if n = 6 then s.byte a else memDefault a) := by
  obtain ⟨next, supply⟩ := exec_resetCause h s
  rw [State.cutFlash_idle h0 h1] at next
  obtain ⟨asserted, causes⟩ := s.sysReset_rst [n]
  refine ⟨_, next, asserted, causes n List.mem_cons_self, State.get_sysReset_dom hl [n],
    (s.sysReset_moves [n]).same .fuse (by decide), State.sysReset_pad hl [n], State.sysReset_slots hl [n],
    fun f hf hb => State.get_sysReset_aon hl [n] hf hb, fun a lo hi => ?_, fun a lo hi => ?_⟩
  · rw [State.byte_sysReset hl, if_pos (by simp [keepsMem, lo, hi])]
  · have lo : 0x20000000 ≤ a := lo
    have hi : a < 0x20100000 := hi
    rw [State.byte_sysReset hl]
    rcases supply with ⟨hn, h6⟩ | rfl
    · rw [if_neg h6, if_neg (by simp [keepsMem, hn]; omega)]
    · rw [if_pos (by simp [keepsMem, lo, hi]), if_pos rfl]

/-- The state in which the software reset waits. -/
def State.resetAsked (s : State) (q : Req) : State :=
  { s.reply q .ok 0 with rst := { s.rst with waiting := insOnce s.rst.waiting 7 } }

theorem exec_softwareReset {q : Who} {s : State} (h : s.on 0 = true) (hq : q.req ≠ .dma) :
    exec (.softwareReset q 0x52A7) s = .next (s.resetAsked q.req).resetDue :=
  (State.via_next h).trans (congrArg _ (if_pos ⟨by decide, hq⟩))

theorem insOnce_ne_nil {α : Type} [DecidableEq α] (l : List α) (x : α) : insOnce l x ≠ [] :=
  List.ne_nil_of_mem (mem_insOnce l x)

theorem softwareReset_cases (q : Who) (v : Word) (s : State) (h : s.on 0 = true) :
    (v = 0x52A7 → q.req ≠ .dma → s.flash.op0 = none → s.flash.op1 = none →
      ∃ t, exec (.softwareReset q v) s = .next t ∧ t.rst.asserted = true ∧ 7 ∈ t.rst.causes)
    ∧ (v = 0x52A7 → q.req ≠ .dma → (s.flash.op0.isSome = true ∨ s.flash.op1.isSome = true) →
        ∃ t, exec (.softwareReset q v) s = .next t ∧ 7 ∈ t.rst.waiting ∧ t.rst.asserted = s.rst.asserted
          ∧ OnlyIn [.resp, .rst] s t)
    ∧ ((v ≠ 0x52A7 ∨ q.req = .dma) → exec (.softwareReset q v) s = .next (s.reply q.req .ok 0)) := by
  refine ⟨?_, ?_, fun hv => ?_⟩
  · rintro rfl hq h0 h1
    have due : (s.resetAsked q.req).resetDue = (s.resetAsked q.req).sysReset (insOnce s.rst.waiting 7) := by
      refine if_neg ?_
      change ¬ ((insOnce s.rst.waiting 7).isEmpty || s.flash.op0.isSome || s.flash.op1.isSome) = true
      simp [h0, h1, insOnce_ne_nil]
    obtain ⟨asserted, causes⟩ := (s.resetAsked q.req).sysReset_rst (insOnce s.rst.waiting 7)
    exact ⟨_, (exec_softwareReset h hq).trans (congrArg _ due), asserted, causes 7 (mem_insOnce _ 7)⟩
  · rintro rfl hq hf
    have waits : (s.resetAsked q.req).resetDue = s.resetAsked q.req := by
      refine if_pos ?_
      change ((insOnce s.rst.waiting 7).isEmpty || s.flash.op0.isSome || s.flash.op1.isSome) = true
      rcases hf with hf | hf <;> simp [hf]
    exact ⟨_, (exec_softwareReset h hq).trans (congrArg _ waits), mem_insOnce _ 7, rfl,
      Moves.onlyIn (K := partsOf [.resp, .rst]) _
        (((s.reply_moves ..).mono (by decide)).step (State.upd_rst_moves ..) (by decide)) (by decide)⟩
  · refine (State.via_next h).trans (congrArg _ (if_neg ?_))
    rintro ⟨hk, hq⟩
    exact hv.elim (fun hv => hv (BitVec.eq_of_toNat_eq hk)) hq

/-! ### The release and the steps of boot (R411, R424, R503, R510) -/

/-- The fields that a load of the fuse shadow writes. -/
def fuseShadowFields : List Fld :=
  [R.LCS_STATE_STATE, R.LCS_STATE_OPENS, R.LCS_STATE_RELOCKS, R.LCS_THERM_CRER, R.LCS_THERM_CUST, R.SYS_DEVID 0,
    R.SYS_DEVID 1, R.SYS_DEVID 2, R.SYS_DEVID 3, R.PLY_MODE_FORCED, R.TMP_MESHE_CEIL, R.LCS_MARGIN, R.HLT_CAUSE,
    R.HLT_STAT_SVCREQ]

theorem State.fuseFields_regs (s : State) : RegsOnly (fun f => f ∈ fuseShadowFields) s (s.fuseFields 0) := by
  have ids : ∀ i ∈ List.range 4, R.SYS_DEVID i ∈ fuseShadowFields := by decide
  have state := ((RegsOnly.refl (fun f => f ∈ fuseShadowFields) s).set_listed (f := R.LCS_STATE_STATE) (by decide)
    (lcCode (fuseRow s.shadow 0))).set_listed (f := R.LCS_STATE_OPENS) (by decide) (highest7 (fuseRow s.shadow 0) 1)
  have counts := ((state.set_listed (f := R.LCS_STATE_RELOCKS) (by decide) (highest7 (fuseRow s.shadow 0) 8)).set_listed
    (f := R.LCS_THERM_CRER) (by decide) (therm s.shadow 175)).set_listed (f := R.LCS_THERM_CUST) (by decide)
      (therm s.shadow 177)
  have named := counts.trans (RegsOnly.foldl (l := List.range 4)
    (g := fun s i => s.set (R.SYS_DEVID i) (fuseRow s.shadow (122 + i)))
    (fun i hi s => (RegsOnly.refl _ s).set_listed (ids i hi) _) _)
  exact (named.set_listed (f := R.PLY_MODE_FORCED) (by decide) _).set_listed (f := R.TMP_MESHE_CEIL) (by decide) _

theorem State.loadShadow_regs (s : State) (margin : Nat) : RegsOnly (fun f => f ∈ fuseShadowFields) s (s.loadShadow margin) := by
  have loaded := (State.fuseFields_regs { s with shadow := s.fuse, fuseLoaded := true }).set_listed (f := R.LCS_MARGIN)
    (by decide) (satN 0xFFFF (disagreements s.fuse + margin))
  unfold State.loadShadow
  dsimp only
  split
  · exact loaded
  · exact loaded.advise (by decide) (by decide) 5

/-- The state in which the causes of a reset are recorded and its end noted. -/
def State.causesShown (s : State) : State :=
  let u := (s.set R.RST_CAUSE_CAUSE (s.rst.causes.foldl (fun n c => n ||| 2 ^ c) 0)).setB R.RST_CAUSE_AON s.rst.aon
  let u := if s.rst.aon then u else u.inc R.RST_COUNT
  { u with rst := { asserted := false, aon := false, causes := [], waiting := [] } }

/-- The state in which the fuse shadow is loaded. -/
def State.shadowLoaded (s : State) (margin : Nat) (b : Bool) : State :=
  (s.causesShown.setB R.RST_BOOT_BOOTSEL b).loadShadow margin

/-- The PLL on RC at the end of step 2. -/
def State.bootReady (s : State) : State := ((s.set R.CLK_STAT_LOCK 1).set R.CLK_STAT_ACTIVE 2).set R.RST_BOOT_STEP 2

theorem State.bootReady_rst (s : State) : s.bootReady.rst = s.rst := rfl

theorem State.bootReady_pad (s : State) : s.bootReady.pad = s.pad := rfl

theorem State.bootReady_fusedLevel (s : State) (p : Nat) (a : Bool) : s.bootReady.fusedLevel p a = s.fusedLevel p a := rfl

theorem State.bootReady_shows (s : State) : s.bootReady.flag R.RST_CAUSE_AON = s.flag R.RST_CAUSE_AON
    ∧ s.bootReady.get R.CLK_STAT_ACTIVE = 2 ∧ s.bootReady.flag R.CLK_STAT_LOCK = true := by
  unfold State.bootReady
  refine ⟨?_, (State.get_set_apart _ rfl 2).trans (State.get_set ..), ?_⟩
  · rw [State.flag_set_apart _ rfl, State.flag_set_apart _ rfl, State.flag_set_apart _ rfl]
  · rw [State.flag_set_apart _ rfl, State.flag_set_apart _ rfl, State.flag_set_one _ rfl]

theorem State.fusedPads_at (s : State) (p : Fin 12) (a : Bool) :
    s.fusedPads.pad.at (2 * p.val + b2n a) = s.fusedLevel p a := by
  have bound : b2n a < 2 := by cases a <;> decide
  have pair : (2 * p.val + b2n a) / 2 = p.val := by omega
  have output : decide (b2n a % 2 = 1) = a := by cases a <;> decide
  have place : 2 * p.val + b2n a < 24 := by omega
  simp [Bank.at, State.fusedPads, Vector.getD, place, pair, output]

theorem State.fusedPads_rst (s : State) : s.fusedPads.rst = s.rst := s.fusedPads_moves.same .rst (by decide)

theorem State.fusedPads_shadow (s : State) : s.fusedPads.shadow = s.shadow := s.fusedPads_moves.same .shadow (by decide)

theorem State.fusedPads_fusedLevel (s : State) (p : Nat) (a : Bool) : s.fusedPads.fusedLevel p a = s.fusedLevel p a := by
  unfold State.fusedLevel State.pwmFuse State.sh
  rw [State.fusedPads_shadow]

theorem State.flag_fusedPads (s : State) {f : Fld} (hf : f.pd = 0) : s.fusedPads.flag f = s.flag f :=
  State.flag_congr (s.fusedPads_moves.same (.pd 0) (by decide) f hf)

theorem State.bootStart_eq (s : State) (margin : Nat) (b : Bool) : s.bootStart margin b =
    (if s.rst.aon then (s.shadowLoaded margin b).fusedPads else s.shadowLoaded margin b).bootReady := rfl

section
variable (s : State) (margin : Nat) (b : Bool)

theorem State.shadowLoaded_rst :
    (s.shadowLoaded margin b).rst = { asserted := false, aon := false, causes := [], waiting := [] } :=
  (State.loadShadow_moves ..).same .rst (by decide)

theorem State.causesShown_pad : s.causesShown.pad = s.pad := by
  unfold State.causesShown
  dsimp only
  split <;> rfl

theorem State.shadowLoaded_pad : (s.shadowLoaded margin b).pad = s.pad :=
  ((State.loadShadow_moves _ margin).same .pad (by decide)).trans s.causesShown_pad

theorem State.flag_causesShown : s.causesShown.flag R.RST_CAUSE_AON = s.rst.aon := by
  have shown : ((s.set R.RST_CAUSE_CAUSE (s.rst.causes.foldl (fun n c => n ||| 2 ^ c) 0)).setB R.RST_CAUSE_AON
      s.rst.aon).flag R.RST_CAUSE_AON = s.rst.aon := State.flag_setB _ rfl _
  unfold State.causesShown
  dsimp only
  split
  · exact shown
  · exact (State.flag_congr (State.get_inc_apart _ rfl)).trans shown

theorem State.flag_shadowLoaded : (s.shadowLoaded margin b).flag R.RST_CAUSE_AON = s.rst.aon := by
  rw [State.shadowLoaded, State.flag_congr ((State.loadShadow_regs _ _).get_apart (by decide)),
    State.flag_congr (State.get_setB_apart _ rfl b), State.flag_causesShown]

theorem State.bootStart_aon (h : s.rst.aon = true) : s.bootStart margin b = (s.shadowLoaded margin b).fusedPads.bootReady := by
  rw [State.bootStart_eq, if_pos h]

theorem State.bootStart_sys (h : s.rst.aon = false) : s.bootStart margin b = (s.shadowLoaded margin b).bootReady := by
  rw [State.bootStart_eq, if_neg (Bool.eq_false_iff.mp h)]

theorem State.bootStart_rst : (s.bootStart margin b).rst = { asserted := false, aon := false, causes := [], waiting := [] } := by
  cases h : s.rst.aon with
  | true =>
    rw [s.bootStart_aon margin b h, State.bootReady_rst, State.fusedPads_rst, State.shadowLoaded_rst]
  | false => rw [s.bootStart_sys margin b h, State.bootReady_rst, State.shadowLoaded_rst]

theorem State.bootStart_pads (h : s.rst.aon = true) (p : Fin 12) (a : Bool) :
    (s.bootStart margin b).pad.at (2 * p.val + b2n a) = (s.bootStart margin b).fusedLevel p a := by
  rw [s.bootStart_aon margin b h, State.bootReady_fusedLevel, State.bootReady_pad, State.fusedPads_at,
    State.fusedPads_fusedLevel]

theorem State.bootStart_keeps_pads (h : s.rst.aon = false) : (s.bootStart margin b).pad = s.pad := by
  rw [s.bootStart_sys margin b h, State.bootReady_pad, State.shadowLoaded_pad]

theorem State.bootStart_shows : (s.bootStart margin b).flag R.RST_CAUSE_AON = s.rst.aon
    ∧ (s.bootStart margin b).get R.CLK_STAT_ACTIVE = 2 ∧ (s.bootStart margin b).flag R.CLK_STAT_LOCK = true := by
  have aon := s.flag_shadowLoaded margin b
  cases h : s.rst.aon with
  | true =>
    obtain ⟨cause, active, lock⟩ := (s.shadowLoaded margin b).fusedPads.bootReady_shows
    rw [s.bootStart_aon margin b h]
    exact ⟨cause.trans ((State.flag_fusedPads _ rfl).trans (aon.trans h)), active, lock⟩
  | false =>
    obtain ⟨cause, active, lock⟩ := (s.shadowLoaded margin b).bootReady_shows
    rw [s.bootStart_sys margin b h]
    exact ⟨cause.trans (aon.trans h), active, lock⟩

end

/-- The fields that step 4 of boot writes. -/
def bootDomainFields : List Fld :=
  [R.PWR_DOM 1, R.PWR_DOM 2, R.PWR_DOM 6, R.PWR_DOM 7, R.PWR_DOM 8, R.PWR_DOM 9, R.PWR_DOM 10, R.PWR_DOM 11, R.GPIO_IOSTAT,
    R.RST_BOOT_STEP]

theorem State.bootDomains_regs (s : State) (v : Bool) : RegsOnly (fun f => f ∈ bootDomainFields) s (s.bootDomains v) := by
  have up : ∀ d ∈ [1, 2, 8, 9, 10, 11], R.PWR_DOM d ∈ bootDomainFields := by decide
  have on := RegsOnly.foldl (l := [1, 2, 8, 9, 10, 11]) (g := fun s d => s.set (R.PWR_DOM d) 3)
    (fun d hd s => (RegsOnly.refl (fun f => f ∈ bootDomainFields) s).set_listed (up d hd) 3) s
  exact ((((on.set_listed (f := R.PWR_DOM 6) (by decide) 2).set_listed (f := R.PWR_DOM 7) (by decide) 2).set_listed
    (f := R.GPIO_IOSTAT) (by decide) (b2n v)).set_listed (f := R.RST_BOOT_STEP) (by decide) 4)

theorem State.get_bootStrands (s : State) : s.bootStrands.get R.RST_BOOT_STEP = 10 := State.get_set ..

theorem State.lcState_bootDomains (s : State) (v : Bool) : (s.bootDomains v).lcState = s.lcState :=
  (s.bootDomains_regs v).get_apart (by decide)

theorem State.bootOn_runs {s : State} (h : s.lcState ≠ 7) (v : Bool) (refs : Nat) :
    (s.bootOn v refs).get R.RST_BOOT_STEP = 10 := by
  unfold State.bootOn
  dsimp only
  rw [if_neg (by rwa [State.lcState_bootDomains])]
  exact State.get_bootStrands _

theorem State.bootOn_scrapped {s : State} (h : s.lcState = 7) (v : Bool) (refs : Nat) :
    (s.bootOn v refs).crerus.recovery = true ∧ (s.bootOn v refs).get R.RST_BOOT_STEP = 4
      ∧ ∀ d : Fin 12, 3 ≤ d.val → d.val ≤ 5 → (s.bootOn v refs).get (R.PWR_DOM d) = s.get (R.PWR_DOM d) := by
  set u : State := { s.bootDomains v with crerus := { (s.bootDomains v).crerus with recovery := true } } with hu
  have booted : s.bootOn v refs = u.bypassCheck := if_pos ((s.lcState_bootDomains v).trans h)
  have apart : ∀ d : Fin 12, 3 ≤ d.val → d.val ≤ 5 → bootDomainFields.all (·.apart (R.PWR_DOM d)) = true := by decide
  rw [booted]
  refine ⟨?_, ?_, fun d lo hi => ?_⟩
  · rw [u.bypassCheck_moves.same .crerus (by decide)]
  · rw [State.get_bypassCheck _ (by decide)]
    exact State.get_set _ R.RST_BOOT_STEP 4
  · rw [State.get_bypassCheck _ (R.bypass_ne_pd (by rw [R.PWR_DOM_pd]; decide))]
    exact (s.bootDomains_regs v).get_apart (apart d lo hi)

theorem State.bootResume_shows (s : State) (slot : Nat) : (s.bootResume slot).flag R.LCS_PROG_INPROG = true
    ∧ (s.bootResume slot).flag R.LCS_PROG_RESUMED = true ∧ (s.bootResume slot).lc.slot = some slot := by
  refine ⟨?_, State.flag_set_one _ rfl, rfl⟩
  unfold State.bootResume
  dsimp only
  rw [State.flag_set_apart _ rfl, State.flag_set_apart _ rfl, State.flag_set_apart _ rfl, State.flag_set_one _ rfl]

/-- Where the boot goes once the fuses are loaded: to the transition that was under way, or on. -/
def State.bootPath (u : State) (v : Bool) (refs : Nat) : State :=
  match u.openSlot with
  | some slot => u.bootResume slot
  | none => u.bootOn v refs

theorem exec_resetRelease {s : State} (h : s.rst.asserted = true) (margin : BitVec 16) (b v33 : Bool) (refs : BitVec 3) :
    exec (.resetRelease margin b v33 refs) s = .next ((s.bootStart margin.toNat b).bootPath v33 refs.toNat) :=
  congrArg Host.Outcome.next (if_pos h)

theorem State.bootPath_none {u : State} (h : u.openSlot = none) (v : Bool) (refs : Nat) : u.bootPath v refs = u.bootOn v refs := by
  rw [State.bootPath, h]

theorem State.bootPath_some {u : State} {slot : Nat} (h : u.openSlot = some slot) (v : Bool) (refs : Nat) :
    u.bootPath v refs = u.bootResume slot := by
  rw [State.bootPath, h]

/-- A part that is released boots through every step, on a scrapped part to the mailbox, or to the resumed transition. -/
theorem State.bootPath_boots (u : State) (v : Bool) (refs : Nat) :
    (u.openSlot = none → u.lcState ≠ 7 → (u.bootPath v refs).get R.RST_BOOT_STEP = 10)
    ∧ (u.openSlot = none → u.lcState = 7 → (u.bootPath v refs).crerus.recovery = true
        ∧ (u.bootPath v refs).get R.RST_BOOT_STEP = 4
        ∧ ∀ d : Fin 12, 3 ≤ d.val → d.val ≤ 5 → (u.bootPath v refs).get (R.PWR_DOM d) = u.get (R.PWR_DOM d))
    ∧ (∀ slot, u.openSlot = some slot → (u.bootPath v refs).flag R.LCS_PROG_INPROG = true
        ∧ (u.bootPath v refs).flag R.LCS_PROG_RESUMED = true ∧ (u.bootPath v refs).lc.slot = some slot) := by
  refine ⟨fun ho hl => ?_, fun ho hl => ?_, fun slot ho => ?_⟩
  · rw [State.bootPath_none ho]
    exact State.bootOn_runs hl v refs
  · rw [State.bootPath_none ho]
    exact State.bootOn_scrapped hl v refs
  · rw [State.bootPath_some ho]
    exact u.bootResume_shows slot

/-! ### The restart of the Ply (R171, R175, R183) -/

/-- What the loads of a released strand may change: registers of other domains, the states of the domains, and the flag
of a bad image. -/
def Fld.ofRelease (f : Fld) : Prop := f.pd ≠ 0 ∨ f.addr = 0x2004 ∨ f.addr = 0x2008 ∨ f = R.RST_BOOT_IMGFAIL

/-- What a restart of the Ply may change. -/
def Fld.ofRestart (f : Fld) : Prop :=
  f.ofRelease ∨ f.rd = .dom ∨ (∃ i, f = R.DBG_BP_CFG_EN i) ∨ f ∈ [R.PLY_STATUS_EXPOSED, R.PLY_STATUS_JOINING,
    R.PLY_STATUS_SPLITTING, R.PLY_STATUS_RESYNC, R.PLY_STATUS_WAITB, R.PLY_STATUS_WAITC, R.PLY_MODE_CUR,
    R.DBG_STAT_HALTED, R.DBG_STAT_PEND]

theorem R.PWR_DOM_ofRelease (d : Nat) : (R.PWR_DOM d).ofRelease := by
  have place : (R.PWR_DOM d).addr = 0x2004 ∨ (R.PWR_DOM d).addr = 0x2008 := by
    unfold R.PWR_DOM
    split
    · exact .inl rfl
    · exact .inr rfl
  exact .inr (place.imp_right .inl)

/-- Steps that leave the registers of PD0 leave those a restart keeps. -/
theorem RegsOnly.of_pd0 {P : Fld → Prop} {s t : State} (h : Part.same (.pd 0) s t) (hP : ∀ f : Fld, f.pd ≠ 0 → P f) :
    RegsOnly P s t := fun f hf => h f (not_not.mp fun h0 => hf (hP f h0))

theorem draftFields_pd {d : Nat} {f : Fld} (h : f ∈ draftFields d) : f.pd = d := by
  unfold draftFields at h
  obtain ⟨r, -, h⟩ := List.mem_flatMap.mp h
  extract_lets fs at h
  split at h
  · cases h
  · obtain ⟨a, -, h⟩ := List.mem_flatMap.mp h
    obtain ⟨g, hg, rfl⟩ := List.mem_map.mp h
    have listed := (List.mem_filter.mp hg).2
    simp only [Bool.and_eq_true, decide_eq_true_eq] at listed
    exact listed.1.2

theorem State.loadDraft_regs (s : State) (dr : Draft) (d : Nat) : RegsOnly (fun f => f.pd = d) s (s.loadDraft dr d) := by
  refine RegsOnly.foldl (fun f hf s => ?_) s
  have put : RegsOnly (fun f => f.pd = d) s (s.set f (dr.value f)) := (RegsOnly.refl _ s).set (draftFields_pd hf) _
  unfold State.loadField
  dsimp only
  split
  · unfold State.freeze
    split
    · exact put
    · exact put
  · exact put

/-- A strand's domain loads registers of its own domain. -/
theorem State.loadDomain_strand (s : State) {d : Nat} (h : d ∈ [3, 4, 5]) : RegsOnly Fld.ofRelease s (s.loadDomain d) := by
  have own (dr : Draft) (s : State) {d : Nat} (hd : d ≠ 0) : RegsOnly Fld.ofRelease s (s.loadDraft dr d) :=
    (s.loadDraft_regs dr d).mono fun f hf => .inl (by rw [hf]; exact hd)
  have world (s : State) : RegsOnly Fld.ofRelease s s.worldCfg :=
    RegsOnly.of_pd0 (s.worldCfg_moves.same (.pd 0) (by decide)) fun f hf => .inl hf
  simp only [List.mem_cons, List.not_mem_nil, or_false] at h
  rcases h with rfl | rfl | rfl
  · exact ((world s).trans (own _ s.worldCfg (by decide))).trans (world _)
  · exact own _ s (by decide)
  · exact own _ s (by decide)

/-- The state in which every strand domain that can be is ON with its registers loaded. -/
def State.strandsUp (s : State) : State :=
  [3, 4, 5].foldl (fun s k => if s.domIs k 5 then s else (s.set (R.PWR_DOM k) 3).loadDomain k) s

theorem State.strandsUp_regs (s : State) : RegsOnly Fld.ofRelease s s.strandsUp := by
  refine RegsOnly.foldl (fun d hd s => ?_) s
  split
  · exact RegsOnly.refl _ s
  · exact ((RegsOnly.refl _ s).set (R.PWR_DOM_ofRelease d) 3).trans (State.loadDomain_strand _ hd)

theorem State.strandsUp_same (s : State) {p : Part} (hp : Nat.testBit 0x7ffd800503bfb27 p.idx = false) : p.same s s.strandsUp := by
  refine (Moves.foldl (K := 0x7ffd800503bfb27) (.refl ..) fun s d => ?_).same p hp
  split
  · exact .refl ..
  · exact ((State.set_moves (d := 0) (R.PWR_DOM_pd d)).mono (by decide)).trans (State.loadDomain_moves ..)

/-- The state in which the images stand in the TCMs. -/
def State.imagesLoaded (s : State) (d : Draft) : State := [0, 1, 2].foldl (fun s k => s.loadStrand d k) s

theorem State.imagesLoaded_moves (s : State) (d : Draft) : Moves 0x200000000000 s (s.imagesLoaded d) :=
  Moves.foldl (.refl ..) fun s k => State.loadStrand_moves s d k

/-- The three ends of a release: with no image, with good images, and with bad ones. -/
theorem State.releasePly_cases (s : State) (cause : Nat) :
    let v := s.set R.PLY_MODE_CUR s.bootMode
    let w := v.strandsUp.imagesLoaded s.crerus.bootDraft
    s.releasePly cause = v ∨ s.releasePly cause = (w.beginLoad cause).releaseCores
      ∨ s.releasePly cause = (w.set R.RST_BOOT_IMGFAIL 1).journal 510 [] := by
  intro v w
  have ends : s.releasePly cause = if s.crerus.bootDraft.bootWord4 4 = 0 then v
      else if v.strandsUp.imagesGood s.crerus.bootDraft then (w.beginLoad cause).releaseCores
      else (w.set R.RST_BOOT_IMGFAIL 1).journal 510 [] := rfl
  rw [ends]
  split
  · exact .inl rfl
  · split
    · exact .inr (.inl rfl)
    · exact .inr (.inr rfl)

/-- The loads of a release change nothing that `Fld.ofRelease` leaves out, and no core. -/
theorem State.released_loads (s : State) (d : Draft) : RegsOnly Fld.ofRelease s (s.strandsUp.imagesLoaded d)
    ∧ (s.strandsUp.imagesLoaded d).core = s.core := by
  have images := s.strandsUp.imagesLoaded_moves d
  exact ⟨s.strandsUp_regs.trans (RegsOnly.of_pd0 (images.same (.pd 0) (by decide)) fun f hf => .inl hf),
    (images.same .core (by decide)).trans (s.strandsUp_same (p := .core) (by decide))⟩

theorem State.releaseCores_regs (s : State) (f : Fld) : s.releaseCores.get f = s.get f := by
  unfold State.releaseCores
  refine RegsOnly.foldl (P := fun _ => False) (fun c _ s => ?_) s f id
  exact RegsOnly.refl _ s

theorem State.releasePly_regs (s : State) (cause : Nat) :
    RegsOnly Fld.ofRelease (s.set R.PLY_MODE_CUR s.bootMode) (s.releasePly cause) := by
  obtain ⟨loads, -⟩ := (s.set R.PLY_MODE_CUR s.bootMode).released_loads s.crerus.bootDraft
  rcases s.releasePly_cases cause with h | h | h
  · rw [h]
    exact RegsOnly.refl _ _
  · rw [h]
    refine loads.trans ((RegsOnly.of_pd0 ((State.beginLoad_moves _ cause).same (.pd 0) (by decide)) fun f hf => .inl hf).trans ?_)
    exact fun f _ => State.releaseCores_regs _ f
  · rw [h]
    exact loads.set (f := R.RST_BOOT_IMGFAIL) (.inr (.inr (.inr rfl))) 1

theorem State.coreAt_foldl_release {c : Fin 3} : ∀ (l : List Nat) (s : State), (∀ e ∈ l, e < 3) → c.val ∉ l →
    (l.foldl (fun s c => s.releaseCore c (s.entryPc c)) s).coreAt c = s.coreAt c
  | [], _, _, _ => rfl
  | e :: l, s, he, hc => by
    obtain ⟨hlt, he⟩ := List.forall_mem_cons.mp he
    rw [List.mem_cons, not_or] at hc
    refine (State.coreAt_foldl_release l _ he hc.2).trans ?_
    refine (State.coreAt_updCore s ⟨e, hlt⟩ c _).trans (if_neg fun h => hc.1 ?_)
    exact congrArg Fin.val h

/-- A strand that is retired and stands alone is not among the cores that are released (R175). -/
theorem State.coreAt_releaseCores {s : State} {c : Fin 3} (hs : s.standsAlone c = true)
    (hr : s.get R.PLY_STATUS_RETIRED = c.val) : s.releaseCores.coreAt c = s.coreAt c := by
  refine State.coreAt_foldl_release _ s (fun e he => ?_) fun hm => ?_
  · have listed := (List.mem_filter.mp he).1
    simp only [List.mem_cons, List.not_mem_nil, or_false] at listed
    omega
  · have kept := (List.mem_filter.mp hm).2
    simp [hs, hr] at kept

theorem State.coreAt_congr {s t : State} (h : t.core = s.core) (c : Nat) : t.coreAt c = s.coreAt c := by
  rw [State.coreAt, h, State.coreAt]

theorem State.standsAlone_congr {s t : State} (hs : t.get R.PLY_STATUS_SPLITTING = s.get R.PLY_STATUS_SPLITTING)
    (hc : t.get R.PLY_MODE_CUR = s.get R.PLY_MODE_CUR) (hp : t.ply = s.ply) (c : Nat) :
    t.standsAlone c = s.standsAlone c := by
  rw [State.standsAlone, State.plyMode, State.flag_congr hs, hc, hp, State.standsAlone, State.plyMode]

/-- A retired strand that stands alone after a release is as before it. -/
theorem State.coreAt_releasePly {s : State} {cause : Nat} {c : Fin 3} (ha : (s.releasePly cause).standsAlone c = true)
    (hr : s.get R.PLY_STATUS_RETIRED = c.val) : (s.releasePly cause).coreAt c = s.coreAt c := by
  obtain ⟨loads, core⟩ := (s.set R.PLY_MODE_CUR s.bootMode).released_loads s.crerus.bootDraft
  have unlisted : ∀ f ∈ [R.PLY_STATUS_SPLITTING, R.PLY_MODE_CUR, R.PLY_STATUS_RETIRED], ¬ f.ofRelease := by
    unfold Fld.ofRelease
    decide
  rcases s.releasePly_cases cause with h | h | h
  · rw [h]
    rfl
  · rw [h] at ha ⊢
    set w := (s.set R.PLY_MODE_CUR s.bootMode).strandsUp.imagesLoaded s.crerus.bootDraft
    have begun := State.beginLoad_moves w cause
    have alone : (w.beginLoad cause).standsAlone c = true :=
      (State.standsAlone_congr (State.releaseCores_regs _ _) (State.releaseCores_regs _ _)
        ((State.releaseCores_moves _).same .ply (by decide)) c).symm.trans ha
    have retired : (w.beginLoad cause).get R.PLY_STATUS_RETIRED = c.val :=
      (begun.same (.pd 0) (by decide) _ rfl).trans ((loads _ (unlisted _ (by decide))).trans
        ((State.get_set_apart s rfl _).trans hr))
    rw [State.coreAt_releaseCores alone retired, State.coreAt_congr (begun.same .core (by decide)), State.coreAt_congr core]
    rfl
  · rw [h]
    exact State.coreAt_congr core c

/-- The state in which the status of a restarting Ply is cleared. -/
def State.plyCleared (s : State) : State :=
  [R.PLY_STATUS_EXPOSED, R.PLY_STATUS_JOINING, R.PLY_STATUS_SPLITTING, R.PLY_STATUS_RESYNC, R.PLY_STATUS_WAITB,
    R.PLY_STATUS_WAITC].foldl (fun s f => s.set f 0) s.plyClear

theorem State.plyClear_regs (s : State) : RegsOnly Fld.ofRestart s s.plyClear := by
  refine RegsOnly.foldl (l := [3, 4, 5])
    (g := fun s d => if s.domIs d 5 then s else (s.set (R.PWR_DOM d) 0).loseDomain d) (fun d _ s => ?_) s
  split
  · exact RegsOnly.refl _ s
  · refine ((RegsOnly.refl _ s).set (.inl (R.PWR_DOM_ofRelease d)) 0).trans fun f hf => ?_
    have h0 : f.pd = 0 := not_not.mp fun h => hf (.inl (.inl h))
    exact State.get_loseDomain _ d h0 fun h => hf (.inr (.inl h))

theorem State.plyCleared_regs (s : State) : RegsOnly Fld.ofRestart s s.plyCleared := by
  refine s.plyClear_regs.trans (RegsOnly.foldl (fun f hf s => (RegsOnly.refl _ s).set (.inr (.inr (.inr ?_))) 0) _)
  exact (by decide : ∀ f ∈ [R.PLY_STATUS_EXPOSED, R.PLY_STATUS_JOINING, R.PLY_STATUS_SPLITTING, R.PLY_STATUS_RESYNC,
    R.PLY_STATUS_WAITB, R.PLY_STATUS_WAITC], f ∈ [R.PLY_STATUS_EXPOSED, R.PLY_STATUS_JOINING, R.PLY_STATUS_SPLITTING,
    R.PLY_STATUS_RESYNC, R.PLY_STATUS_WAITB, R.PLY_STATUS_WAITC, R.PLY_MODE_CUR, R.DBG_STAT_HALTED, R.DBG_STAT_PEND]) f hf

/-- The Ply before its release: cleared, with no source active. -/
def State.plyReady (s : State) : State := if s.plyCleared.on 6 then s.plyCleared.icuRestart else s.plyCleared

theorem State.plyReady_regs (s : State) : RegsOnly Fld.ofRestart s s.plyReady := by
  unfold State.plyReady
  split
  · exact s.plyCleared_regs.trans (RegsOnly.of_pd0 ((State.icuRestart_moves _).same (.pd 0) (by decide))
      fun f hf => .inl (.inl hf))
  · exact s.plyCleared_regs

theorem State.plyReady_same (s : State) {p : Part} (hp : Nat.testBit (partsOf [.pd 6]) p.idx = false) :
    p.same s.plyCleared s.plyReady := by
  unfold State.plyReady
  split
  · exact ((State.icuRestart_moves _).mono (by decide)).same p hp
  · exact Part.same_refl ..

theorem State.plyReady_core (s : State) : s.plyReady.core = Vector.replicate 3 {} := s.plyReady_same (p := .core) (by decide)

theorem State.plyReady_fault (s : State) : s.plyReady.ply.fault = false :=
  congrArg PlySt.fault (s.plyReady_same (p := .ply) (by decide))

theorem State.plyRestart_eq (s : State) : s.plyRestart = (s.plyReady.releasePly 4).plyDebug := rfl

/-- The fields that a restart writes in the debug frame. -/
theorem State.plyDebug_regs (s : State) :
    RegsOnly (fun f => f = R.DBG_STAT_HALTED ∨ f = R.DBG_STAT_PEND ∨ ∃ i, f = R.DBG_BP_CFG_EN i) s s.plyDebug := by
  have cleared := ((RegsOnly.refl (fun f => f = R.DBG_STAT_HALTED ∨ f = R.DBG_STAT_PEND ∨ ∃ i, f = R.DBG_BP_CFG_EN i) s).set
    (f := R.DBG_STAT_HALTED) (.inl rfl) 0).set (f := R.DBG_STAT_PEND) (.inr (.inl rfl)) 0
  refine cleared.trans (RegsOnly.foldl (fun i _ s => ?_) _)
  split
  · exact RegsOnly.refl _ s
  · exact (RegsOnly.refl _ s).set (.inr (.inr ⟨i, rfl⟩)) 0

theorem State.get_plyDebug_halted (s : State) : s.plyDebug.get R.DBG_STAT_HALTED = 0 := by
  have kept : RegsOnly (fun f => ∃ i, f = R.DBG_BP_CFG_EN i) ((s.set R.DBG_STAT_HALTED 0).set R.DBG_STAT_PEND 0) s.plyDebug := by
    refine RegsOnly.foldl (fun i _ s => ?_) _
    split
    · exact RegsOnly.refl _ s
    · exact (RegsOnly.refl _ s).set ⟨i, rfl⟩ 0
  rw [kept _ (by rintro ⟨i, h⟩; have place : 0x1b00c = 0x1b044 + 0x8 * i := congrArg Fld.addr h; omega), State.get_set_apart _ rfl]
  exact State.get_set ..

/-- The fields of the Ply's mode and status that a restart keeps. -/
theorem plyModeFields : ∀ f ∈ [R.PLY_MODE_TARGET, R.PLY_STATUS_RETIRED, R.PLY_MODE_FORCED, R.PLY_CFG_BOOTMODE],
    f.addr < 0x1b044 ∧ ¬ f.ofRelease ∧ ¬ (f.rd = .dom ∨ f ∈ [R.PLY_STATUS_EXPOSED, R.PLY_STATUS_JOINING,
      R.PLY_STATUS_SPLITTING, R.PLY_STATUS_RESYNC, R.PLY_STATUS_WAITB, R.PLY_STATUS_WAITC, R.PLY_MODE_CUR,
      R.DBG_STAT_HALTED, R.DBG_STAT_PEND]) := by
  unfold Fld.ofRelease
  decide

theorem plyRestartRelease_restarts (s : State) (hf : s.ply.fault = true) (ha : s.crerus.alive = true) (h1 : s.on 1 = true)
    (h6 : s.on 6 = true) (h8 : s.on 8 = true) (hd : s.strandDead = false) :
    ∃ t, exec .plyRestartRelease s = .next t ∧ t.ply.fault = false ∧ t.get R.DBG_STAT_HALTED = 0
      ∧ t.get R.PLY_MODE_TARGET = s.get R.PLY_MODE_TARGET ∧ t.get R.PLY_STATUS_RETIRED = s.get R.PLY_STATUS_RETIRED
      ∧ (∀ c : Fin 3, t.standsAlone c = true → s.get R.PLY_STATUS_RETIRED = c.val → (t.coreAt c).run = .held)
      ∧ t.get R.PLY_MODE_CUR = if s.flag R.PLY_MODE_FORCED ∨ s.get R.PLY_CFG_BOOTMODE = 3 then 0
          else s.get R.PLY_CFG_BOOTMODE % 4 := by
  have restarts : (s.ply.fault && s.crerus.alive && s.on 1 && s.on 6 && s.on 8 && !s.strandDead) = true := by
    simp [hf, ha, h1, h6, h8, hd]
  set y := s.plyReady with hy
  set z := y.releasePly 4 with hz
  have ready := s.plyReady_regs
  have released := y.releasePly_regs 4
  have debug := z.plyDebug_regs
  have unready : ∀ f ∈ [R.PLY_MODE_TARGET, R.PLY_STATUS_RETIRED, R.PLY_MODE_FORCED, R.PLY_CFG_BOOTMODE], ¬ f.ofRestart := by
    intro f hf
    obtain ⟨addr, release, rest⟩ := plyModeFields f hf
    rintro (h | h | ⟨i, h⟩ | h)
    · exact release h
    · exact rest (.inl h)
    · have place : f.addr = 0x1b044 + 0x8 * i := congrArg Fld.addr h
      omega
    · exact rest (.inr h)
  have unreleased : ∀ f ∈ [R.PLY_MODE_TARGET, R.PLY_STATUS_RETIRED, R.PLY_MODE_CUR, R.PLY_STATUS_SPLITTING], ¬ f.ofRelease := by
    unfold Fld.ofRelease
    decide
  have undebugged {f : Fld} (hb : f.addr = 0x12000 ∨ f.addr = 0x12008) : z.plyDebug.get f = z.get f := by
    refine debug f ?_
    rintro (rfl | rfl | ⟨i, rfl⟩)
    · revert hb; decide
    · revert hb; decide
    · have place : (R.DBG_BP_CFG_EN i).addr = 0x1b044 + 0x8 * i := rfl
      omega
  have kept {f : Fld} (hm : f ∈ [R.PLY_MODE_TARGET, R.PLY_STATUS_RETIRED]) (hb : f.addr = 0x12000 ∨ f.addr = 0x12008)
      (hc : R.PLY_MODE_CUR.apart f = true) : z.plyDebug.get f = s.get f := by
    have both : ∀ f ∈ [R.PLY_MODE_TARGET, R.PLY_STATUS_RETIRED],
        f ∈ [R.PLY_MODE_TARGET, R.PLY_STATUS_RETIRED, R.PLY_MODE_FORCED, R.PLY_CFG_BOOTMODE]
          ∧ f ∈ [R.PLY_MODE_TARGET, R.PLY_STATUS_RETIRED, R.PLY_MODE_CUR, R.PLY_STATUS_SPLITTING] := by decide
    rw [undebugged hb, released f (unreleased f (both f hm).2), State.get_set_apart _ hc, ready f (unready f (both f hm).1)]
  refine ⟨z.plyDebug, congrArg Host.Outcome.next ((if_pos restarts).trans s.plyRestart_eq), ?_, z.get_plyDebug_halted,
    kept (by decide) (.inl rfl) rfl, kept (by decide) (.inr rfl) rfl, fun c hc hr => ?_, ?_⟩
  · rw [z.plyDebug_moves.same .ply (by decide), (y.releasePly_moves 4).same .ply (by decide), s.plyReady_fault]
  · have alone : z.standsAlone c = true :=
      (State.standsAlone_congr (undebugged (.inr rfl)) (undebugged (.inl rfl))
        (z.plyDebug_moves.same .ply (by decide)) c).symm.trans hc
    rw [State.coreAt_congr (z.plyDebug_moves.same .core (by decide)),
      State.coreAt_releasePly alone ((ready _ (unready _ (by decide))).trans hr), State.coreAt_fin, s.plyReady_core]
    exact congrArg Core.run (Vector.getElem_replicate ..)
  · rw [undebugged (.inl rfl), released _ (unreleased _ (by decide)), State.get_set, State.bootMode,
      ready _ (unready _ (by decide)), State.flag_congr (ready R.PLY_MODE_FORCED (unready _ (by decide)))]
    simp only [Bool.or_eq_true, decide_eq_true_eq]
    split
    · rfl
    · rfl

/-- Settles O52: each cause by what it resets, the release by the boot path that its start leads to, and the restart
of the Ply. -/
theorem resetsAndBoot : Obligations.ResetsAndBoot := by
  refine ⟨powerOnReset_cold, powerOnReset_battery, resetCause_resets, softwareReset_cases,
    fun margin b v33 refs s => ⟨fun h => ?_, fun h => ?_⟩, plyRestartRelease_restarts⟩
  · exact congrArg Host.Outcome.next (if_neg (by simp [h]))
  · have next := exec_resetRelease h margin b v33 refs
    obtain ⟨cause, active, lock⟩ := s.bootStart_shows margin.toNat b
    obtain ⟨runs, scrapped, resumed⟩ := (s.bootStart margin.toNat b).bootPath_boots v33 refs.toNat
    exact ⟨s.bootStart_rst .., s.bootStart_pads _ b, s.bootStart_keeps_pads _ b, cause, active, lock,
      fun ho hl => ⟨_, next, runs ho hl⟩, fun ho hl => ⟨_, next, scrapped ho hl⟩, fun slot ho => ⟨_, next, resumed slot ho⟩⟩

end Sys2Proof.Machine
end

section
/-!
PROOFS of the statement on the xSPI host port and the mailboxes (O45, R314 to R317): the commands of the port, then the
buffers, doorbells and acknowledges.
-/

namespace Sys2Proof.Machine

/-! ### Commands of the port (R314) -/

/-- The state in which a command of the port acts: the reset is no longer armed. -/
def State.disarmed (s : State) : State := { s with xspi := { s.xspi with armed := false } }

theorem State.disarmed_moves (s : State) : Moves (partsOf [.xspi]) s s.disarmed := State.upd_xspi_moves ..

theorem State.xspiDo_on {s : State} (h : s.on 10 = true) (f : State → State) : s.xspiDo f = f s.disarmed := if_pos h

theorem State.drive_onlyIn (s : State) (l : List Nat) : OnlyIn [.xspi] s (s.disarmed.drive l) :=
  Moves.onlyIn (K := partsOf [.xspi]) _ (s.disarmed_moves.step (State.upd_xspi_moves ..) (by decide)) (by decide)

theorem xspiRead_drives (a : BitVec 32) (n : Nat) (s : State) (h : s.on 10 = true) :
    ∃ t, exec (.xspiRead a n) s = .next t ∧ t.xspi.out = (List.range n).map (fun i => s.hostRead (a.toNat + i))
      ∧ t.xspi.armed = false ∧ OnlyIn [.xspi] s t :=
  ⟨_, congrArg Host.Outcome.next (State.xspiDo_on h _), rfl, rfl, s.drive_onlyIn _⟩

theorem xspiWrite_byte (a : BitVec 32) (d : BitVec 8) (s : State) (hs : s.Kept) (h : s.on 10 = true)
    (lo : 0x10000 ≤ a.toNat) (hi : a.toNat < 0x20000) :
    ∃ t, exec (.xspiWrite a [d]) s = .next t ∧ t.byte (hostKey a.toNat) = d ∧ OnlyIn [.xspi, .mem] s t
      ∧ ∀ x, x ≠ hostKey a.toNat → t.byte x = s.byte x := by
  have outside : ¬ a.toNat < 0x1000 := by omega
  have mailbox : ¬ (0x1000 ≤ a.toNat ∧ a.toNat < 0x2000) := by omega
  have write : s.disarmed.hostWrite a.toNat (natsOf [d]) = s.disarmed.setByte (hostKey a.toNat) d := by
    simp [State.hostWrite, natsOf, outside, State.hostByte, mailbox, lo, hi]
  have kept : s.disarmed.Kept := s.disarmed_moves.kept hs
  refine ⟨_, congrArg Host.Outcome.next ((State.xspiDo_on h _).trans write), ?_, ?_, fun x hx => ?_⟩
  · rw [State.byte_setByte kept, if_pos rfl]
  · exact Moves.onlyIn (K := partsOf [.xspi, .mem]) _
      ((s.disarmed_moves.mono (by decide)).step (State.setByte_moves ..) (by decide)) (by decide)
  · rw [State.byte_setByte kept, if_neg hx]
    rfl

/-- The state after the host writes HIF_CFG: the new profile waits for the rise of HCS#. -/
def State.modeAsked (s : State) (v : Nat) : State :=
  let s := s.writeReg { req := .crerus, sealedW := false } 0x10000008 v
  { s with xspi := { s.xspi with next := some (s.flag R.HIF_CFG) } }

/-- A word of four bytes covers its register, and its other three bytes reach nothing. -/
theorem State.hostWrite_cfg (s : State) (v : Word) :
    s.hostWrite 0x08 (natsOf ((toLE 4 v.toNat).map (BitVec.ofNat 8))) = s.modeAsked v.toNat := by
  have bytes : fieldOf (natsOf ((toLE 4 v.toNat).map (BitVec.ofNat 8))) 0 4 = v.toNat := by
    simp [fieldOf, cut, natsOf, toLE, leNat]
    omega
  have four : (natsOf ((toLE 4 v.toNat).map (BitVec.ofNat 8))).length = 4 := rfl
  have places : List.range 4 = [0, 1, 2, 3] := rfl
  unfold State.hostWrite
  rw [four, places]
  simp [bytes, State.hostWord, State.modeAsked]

theorem xspiWrite_mode (v : Word) (s : State) (h : s.on 10 = true) (hv : v.toNat % 2 = 1) :
    ∃ t, exec (.xspiWrite 0x08 ((toLE 4 v.toNat).map (BitVec.ofNat 8))) s = .next t ∧ t.flag R.HIF_CFG = true
      ∧ t.xspi.next = some true ∧ t.xspi.mode = s.xspi.mode := by
  have bit : v.toNat.testBit 0 = true := by simp [Nat.testBit_zero, hv]
  have regs : regFields 0x10000008 = [R.HIF_CFG] := by decide
  have written : s.disarmed.writeReg { req := .crerus, sealedW := false } 0x10000008 v.toNat
      = s.disarmed.set R.HIF_CFG (presented v.toNat R.HIF_CFG) := by
    rw [State.writeReg_rw _ _ _ (by rw [regs]; decide), regs]
    rfl
  have flag : (s.disarmed.set R.HIF_CFG (presented v.toNat R.HIF_CFG)).flag R.HIF_CFG = true :=
    (State.flag_set_presented _ rfl _).trans bit
  refine ⟨s.disarmed.modeAsked v.toNat,
    congrArg Host.Outcome.next ((State.xspiDo_on h _).trans (State.hostWrite_cfg ..)), ?_, ?_, ?_⟩
  all_goals unfold State.modeAsked; rw [written]
  · exact flag
  · exact congrArg some flag
  · rfl

theorem xspiReadStatus_drives (n : Nat) (s : State) (h : s.on 10 = true) (hm : s.xspi.mode = false) :
    ∃ t, exec (.xspiReadStatus n) s = .next t ∧ t.xspi.out = List.replicate n (s.readReg 0x10000004 / 2 ^ 24) := by
  refine ⟨_, congrArg Host.Outcome.next (State.xspiDo_on h _), ?_⟩
  have sdr : s.disarmed.xspi.mode = false := hm
  have status : s.disarmed.readReg 0x10000004 = s.readReg 0x10000004 := rfl
  simp [State.readStatus, sdr, status]

theorem xspiReadId_drives (s : State) (h : s.on 10 = true) :
    ∃ t, exec (.xspiReadId 4) s = .next t ∧ t.xspi.out = [s.get R.HIF_ID % 256, s.get R.HIF_ID / 2 ^ 8 % 256,
      s.get R.HIF_ID / 2 ^ 16 % 256, s.get R.HIF_ID / 2 ^ 24 % 256] := by
  have bytes (u : State) : (u.drive ((List.range 4).map fun i => u.get R.HIF_ID / 2 ^ (8 * (i % 4)) % 256)).xspi.out
      = [u.get R.HIF_ID % 256, u.get R.HIF_ID / 2 ^ 8 % 256, u.get R.HIF_ID / 2 ^ 16 % 256,
        u.get R.HIF_ID / 2 ^ 24 % 256] := by
    simp [State.drive, List.range_succ]
  exact ⟨_, congrArg Host.Outcome.next (State.xspiDo_on h _), bytes s.disarmed⟩

theorem xspiReset_cases (s : State) (h : s.on 10 = true) :
    (∃ t, exec .xspiResetEnable s = .next t ∧ t.xspi = { s.xspi with armed := true } ∧ OnlyIn [.xspi] s t)
    ∧ (s.xspi.armed = true → ∃ t, exec .xspiReset s = .next t
        ∧ t.xspi = { s.xspi with armed := false, mode := false, next := none, out := [] } ∧ OnlyIn [.xspi] s t)
    ∧ (s.xspi.armed = false → ∃ t, exec .xspiReset s = .next t ∧ t.xspi = s.xspi ∧ OnlyIn [.xspi] s t) := by
  refine ⟨⟨_, congrArg Host.Outcome.next (State.xspiDo_on h _), rfl, ?_⟩, fun ha => ⟨_, congrArg Host.Outcome.next
    (if_pos (by rw [h, ha]; rfl)), rfl, ?_⟩, fun ha => ⟨s.disarmed, congrArg Host.Outcome.next ((if_neg (by simp [ha])).trans
      (State.xspiDo_on h _)), ?_, Moves.onlyIn (K := partsOf [.xspi]) _ s.disarmed_moves (by decide)⟩⟩
  · exact Moves.onlyIn (K := partsOf [.xspi]) _ (s.disarmed_moves.step (State.upd_xspi_moves ..) (by decide)) (by decide)
  · exact Moves.onlyIn (K := partsOf [.xspi]) _ (State.upd_xspi_moves ..) (by decide)
  · rw [State.disarmed, ← ha]

theorem xspiUnknownCommand_drives (c : BitVec 16) (s : State) (h : s.on 10 = true) :
    ∃ t, exec (.xspiUnknownCommand c) s = .next t ∧ t.xspi.out = [] ∧ t.xspi.armed = false ∧ OnlyIn [.xspi] s t :=
  ⟨_, congrArg Host.Outcome.next (State.xspiDo_on h _), rfl, rfl, s.drive_onlyIn []⟩

theorem xspiModeChange_acts (m : Bool) (s : State) (h : s.xspi.next = some m) :
    ∃ t, exec .xspiModeChange s = .next t ∧ t.xspi.mode = m ∧ t.xspi.next = none ∧ OnlyIn [.xspi] s t := by
  refine ⟨{ s with xspi := { s.xspi with mode := m, next := none } }, congrArg Host.Outcome.next ?_, rfl, rfl,
    Moves.onlyIn (K := partsOf [.xspi]) _ (State.upd_xspi_moves ..) (by decide)⟩
  rw [h]

/-! ### Host mailboxes (R315, R316) -/

/-- Fields of two widths are two fields. -/
theorem Fld.apart_of_width {f g : Fld} {a b : Nat} (hf : f.w = a) (hg : g.w = b) (h : a ≠ b) : f.apart g = true := by
  simp [Fld.apart, hf, hg, h]

theorem State.get_hifErr (s : State) {f : Fld} (hw : f.w = 1) (hb : R.HIF_IRQSTAT_ERR.apart f = true) :
    (s.hifErr f).get f = 1 ∧ (s.hifErr f).get R.HIF_IRQSTAT_ERR = 1 :=
  ⟨(State.get_set_apart _ hb 1).trans ((State.get_set ..).trans (congrArg (1 % 2 ^ ·) hw)), State.get_set ..⟩

theorem State.get_setMb (s : State) (n : Nat) {st : Nat} (h : st < 4) : (s.setMb n st).get (R.HIF_MBST n) = st := by
  have value : (s.set (R.HIF_MBST n) st).get (R.HIF_MBST n) = st := (State.get_set ..).trans (Nat.mod_eq_of_lt h)
  unfold State.setMb
  split
  · exact (State.get_setBit_apart _ (Fld.apart_of_width (a := 8) (b := 2) rfl rfl (by decide)) n).trans value
  · exact (State.get_clrBit_apart _ (Fld.apart_of_width (a := 8) (b := 2) rfl rfl (by decide)) n).trans value

/-- A word with one bit set acts on that bit alone. -/
theorem State.eachBit_one (s : State) (n : Fin 8) {k : Nat} (hk : n.val < k) (f : State → Nat → State) :
    s.eachBit (BitVec.ofNat 32 (2 ^ n.val)).toNat k f = f s n := by
  have word : ∀ n : Fin 8, (BitVec.ofNat 32 (2 ^ n.val)).toNat = 2 ^ n.val := by decide
  have bits : (List.range k).filter (fun i => (2 ^ n.val).testBit i) = [n.val] := by
    have eq : (fun i => (2 ^ n.val).testBit i) = fun i => i == n.val := by
      funext i
      rw [Nat.testBit_two_pow, beq_eq_decide]
      exact decide_eq_decide.mpr eq_comm
    rw [eq, List.filter_beq, List.count_eq_one_of_mem List.nodup_range (List.mem_range.mpr hk)]
    rfl
  rw [State.eachBit, word, bits]
  rfl

theorem State.wake_awake {s : State} (h : s.asleep = false) (src info : Nat) : s.wake src info = s :=
  if_pos (by rw [h]; rfl)

/-- The state in which the doorbell of a FREE mailbox has rung. -/
def State.hostRung (s : State) (n : Nat) : State := ((s.setMb n 1).setBit R.HIF_MBDB n).arrive { src := .host n }

theorem State.ringHost_free {s : State} {n : Nat} (h : s.get (R.HIF_MBST n) = 0) (hn : n < 7) (hs : s.asleep = false) :
    s.ringHost n = s.hostRung n := by
  have awake : (s.hostRung n).asleep = false := by
    have moved : Moves (partsOf [.pd 10, .crerus]) s (s.hostRung n) :=
      (((s.setMb_moves n 1).mono (by decide)).step (State.setBit_moves (d := 10) rfl) (by decide)).step
        (State.arrive_moves ..) (by decide)
    have same : (s.hostRung n).get R.PWR_STATE_PSTATE = s.get R.PWR_STATE_PSTATE :=
      moved.same (.pd 0) (by decide) R.PWR_STATE_PSTATE rfl
    rw [State.asleep, same]
    exact hs
  exact (if_pos ⟨h, hn⟩).trans (State.wake_awake awake ..)

theorem mailboxBufferWrite_host (n : Fin 8) (o : BitVec 9) (d : BitVec 8) (s : State) (hs : s.Kept) (h : s.on 10 = true) :
    (s.get (R.HIF_MBST n) = 0 → ∃ t, exec (.mailboxBufferWrite none n o d) s = .next t
      ∧ t.byte (hostKey (0x1000 + 0x200 * n.val + o.toNat)) = d ∧ OnlyIn [.mem] s t)
    ∧ (s.get (R.HIF_MBST n) ≠ 0 → ∃ t, exec (.mailboxBufferWrite none n o d) s = .next t
      ∧ t.get R.HIF_STATUS_MBWERR = 1 ∧ t.get R.HIF_IRQSTAT_ERR = 1 ∧ t.mem = s.mem) := by
  refine ⟨fun hf => ⟨_, congrArg Host.Outcome.next ((if_pos h).trans (if_pos hf)), ?_, ?_⟩,
    fun hf => ⟨_, congrArg Host.Outcome.next ((if_pos h).trans (if_neg hf)), ?_⟩⟩
  · rw [State.byte_setByte hs, if_pos rfl]
  · exact Moves.onlyIn (K := partsOf [.mem]) _ ((State.setByte_moves ..).mono (by decide)) (by decide)
  · obtain ⟨flag, err⟩ := s.get_hifErr (f := R.HIF_STATUS_MBWERR) rfl rfl
    exact ⟨flag, err, rfl⟩

theorem mailboxDoorbell_host (n : Fin 7) (s : State) (h : s.on 10 = true) (ha : s.asleep = false) :
    (s.get (R.HIF_MBST n) = 0 → ∃ t, exec (.mailboxDoorbell none (BitVec.ofNat 32 (2 ^ n.val))) s = .next t
      ∧ t.get (R.HIF_MBST n) = 1 ∧ t.bit R.HIF_MBDB n = true ∧ t.crerus.arr = s.crerus.arr ++ [{ src := .host n, stamp := s.crerus.stamp }])
    ∧ (s.get (R.HIF_MBST n) ≠ 0 → ∃ t, exec (.mailboxDoorbell none (BitVec.ofNat 32 (2 ^ n.val))) s = .next t
      ∧ t.get R.HIF_STATUS_DBERR = 1 ∧ t.crerus = s.crerus) := by
  have ring : exec (.mailboxDoorbell none (BitVec.ofNat 32 (2 ^ n.val))) s = .next (s.ringHost n) :=
    congrArg Host.Outcome.next ((if_pos h).trans (State.eachBit_one s ⟨n.val, by omega⟩ (by omega) State.ringHost))
  rw [ring]
  refine ⟨fun hf => ⟨_, congrArg Host.Outcome.next (State.ringHost_free hf n.isLt ha), ?_, ?_, ?_⟩,
    fun hf => ⟨_, congrArg Host.Outcome.next (if_neg fun hf' => hf hf'.1), (s.get_hifErr rfl rfl).1, rfl⟩⟩
  · exact (State.get_setBit_apart _ (Fld.apart_of_width (a := 7) (b := 2) rfl rfl (by decide)) n).trans (s.get_setMb n (by decide))
  · exact State.bit_setBit _ (f := R.HIF_MBDB) n.isLt
  · have same : (s.setMb n 1).crerus = s.crerus := (s.setMb_moves n 1).same .crerus (by decide)
    exact congrArg (fun c : Crerus => c.arr ++ [{ src := .host n, stamp := c.stamp }]) same

theorem mailboxDoorbell_notice (s : State) (h : s.on 10 = true) :
    ∃ t, exec (.mailboxDoorbell none 0x80) s = .next t ∧ t.get R.HIF_STATUS_DBERR = 1
      ∧ t.get (R.HIF_MBST 7) = s.get (R.HIF_MBST 7) ∧ t.crerus = s.crerus := by
  have ring : exec (.mailboxDoorbell none 0x80) s = .next (s.ringHost 7) :=
    congrArg Host.Outcome.next ((if_pos h).trans (State.eachBit_one s 7 (by decide) State.ringHost))
  refine ⟨_, ring.trans (congrArg Host.Outcome.next (if_neg fun hf => absurd hf.2 (by decide))), (s.get_hifErr rfl rfl).1, ?_, rfl⟩
  exact (State.get_set_apart _ rfl 1).trans (State.get_set_apart _ rfl 1)

theorem mailboxAcknowledge_host (n : Fin 8) (s : State) (h : s.on 10 = true) (hd : s.get (R.HIF_MBST n) = 3) :
    ∃ t, exec (.mailboxAcknowledge none (BitVec.ofNat 32 (2 ^ n.val))) s = .next t ∧ t.get (R.HIF_MBST n) = 0 :=
  ⟨_, congrArg Host.Outcome.next ((if_pos h).trans ((State.eachBit_one s n n.isLt State.ackHost).trans (if_pos hd))),
    s.get_setMb n (by decide)⟩

/-! ### Local mailboxes (R315, R317) -/

theorem mailboxBufferWrite_local (q : Who) (n : Fin 8) (o : BitVec 9) (d : BitVec 8) (s : State) (hs : s.Kept)
    (h : s.on 1 = true) (hn : n.val < 4) :
    (s.bit R.LMB_STATE_SHELD n = true → q.sealedW = false →
      ∃ t, exec (.mailboxBufferWrite (some q) n o d) s = .next t
        ∧ (t.resp.at (reqIdx q.req)).code = .busErr ∧ t.mem = s.mem ∧ t.regs = s.regs)
    ∧ (s.bit R.LMB_STATE_SHELD n = false → s.get (R.LMB_ST n) = 0 →
      ∃ t, exec (.mailboxBufferWrite (some q) n o d) s = .next t ∧ t.byte (lmbKey n + o.toNat) = d ∧ t.regs = s.regs) := by
  have reached : exec (.mailboxBufferWrite (some q) n o d) s = .next (let s := s.reply q.req .ok 0
      if s.lmbClosed q n.val then s.reply q.req .busErr 0 else s.localBuf n.val o.toNat d) :=
    congrArg Host.Outcome.next ((if_neg (Nat.not_le.mpr hn)).trans (State.via_on s q.req _ h))
  refine ⟨fun hh hq => ⟨_, reached.trans (congrArg Host.Outcome.next (if_pos ?_)), ?_, rfl, rfl⟩,
    fun hh hf => ⟨_, reached.trans (congrArg Host.Outcome.next ((if_neg ?_).trans (if_pos hf))), ?_, rfl⟩⟩
  · exact (congrArg₂ (fun a b => a && !b) hh hq)
  · exact congrArg (·.code) (State.resp_reply ..)
  · intro closed
    have held : s.bit R.LMB_STATE_SHELD n = true := ((Bool.and_eq_true ..).mp closed).1
    rw [hh] at held
    cases held
  · rw [State.byte_setByte ((s.reply_moves ..).kept hs), if_pos rfl]

/-- The state in which the doorbell of a FREE local mailbox has rung, before the SEALED world holds it. -/
def State.localRung (s : State) (q : Who) (b : Nat) : State :=
  ((s.set (R.LMB_ST b) 1).setBit R.LMB_DB b).arrive { src := .loc b, sealedW := q.sealedW }

theorem State.ringLocal_free {s : State} {q : Who} {b : Nat} (h : s.get (R.LMB_ST b) = 0) :
    s.ringLocal q b = if q.sealedW then (s.localRung q b).setBit R.LMB_STATE_SHELD b else s.localRung q b := if_pos h

theorem State.ackLocal_done {s : State} {q : Who} {b : Nat} (h : s.get (R.LMB_ST b) = 3) :
    s.ackLocal q b = if q.sealedW then (s.set (R.LMB_ST b) 0).clrBit R.LMB_STATE_SHELD b else s.set (R.LMB_ST b) 0 := if_pos h

theorem LMB_apart : ∀ b : Fin 4, R.LMB_STATE_SHELD.apart (R.LMB_ST b) = true := by decide

/-- A write of a one-bit word to a doorbell or an acknowledge register of the local mailboxes. -/
theorem exec_local {q : Who} {b : Fin 4} {s : State} (h : s.on 1 = true) (hq : q.req ≠ .dma) :
    exec (.mailboxDoorbell (some q) (BitVec.ofNat 32 (2 ^ b.val))) s = .next ((s.reply q.req .ok 0).ringLocal q b)
    ∧ exec (.mailboxAcknowledge (some q) (BitVec.ofNat 32 (2 ^ b.val))) s = .next ((s.reply q.req .ok 0).ackLocal q b) := by
  have ring := State.eachBit_one (s.reply q.req .ok 0) ⟨b.val, by omega⟩ b.isLt fun s b => s.ringLocal q b
  have ack := State.eachBit_one (s.reply q.req .ok 0) ⟨b.val, by omega⟩ b.isLt fun s b => s.ackLocal q b
  exact ⟨(State.via_next h).trans (congrArg _ ((if_neg hq).trans ((if_pos rfl).trans ring))),
    (State.via_next h).trans (congrArg _ ((if_neg hq).trans ((if_neg (by decide)).trans ((if_pos rfl).trans ack))))⟩

theorem mailbox_local (q : Who) (b : Fin 4) (s : State) (h : s.on 1 = true) (hq : q.req ≠ .dma) :
    (s.get (R.LMB_ST b) = 0 → ∃ t, exec (.mailboxDoorbell (some q) (BitVec.ofNat 32 (2 ^ b.val))) s = .next t
      ∧ t.get (R.LMB_ST b) = 1 ∧ t.crerus.arr = s.crerus.arr ++ [{ src := .loc b, sealedW := q.sealedW, stamp := s.crerus.stamp }]
      ∧ (q.sealedW = true → t.bit R.LMB_STATE_SHELD b = true))
    ∧ (s.get (R.LMB_ST b) = 3 → ∃ t, exec (.mailboxAcknowledge (some q) (BitVec.ofNat 32 (2 ^ b.val))) s = .next t
      ∧ t.get (R.LMB_ST b) = 0 ∧ (q.sealedW = true → t.bit R.LMB_STATE_SHELD b = false)) := by
  obtain ⟨ring, ack⟩ := exec_local (b := b) h hq
  refine ⟨fun hf => ⟨_, ring.trans (congrArg _ (State.ringLocal_free hf)), ?_⟩,
    fun hf => ⟨_, ack.trans (congrArg _ (State.ackLocal_done hf)), ?_⟩⟩
  · have rung : ((s.reply q.req .ok 0).localRung q b).get (R.LMB_ST b) = 1 :=
      (State.get_setBit_apart _ (Fld.apart_of_width (a := 4) (b := 2) rfl rfl (by decide)) b).trans (State.get_set ..)
    split
    · exact ⟨(State.get_setBit_apart _ (LMB_apart b) b).trans rung, rfl, fun _ => State.bit_setBit _ b.isLt⟩
    · next hw => exact ⟨rung, rfl, fun hw' => absurd hw' hw⟩
  · have freed : ((s.reply q.req .ok 0).set (R.LMB_ST b) 0).get (R.LMB_ST b) = 0 := State.get_set ..
    split
    · exact ⟨(State.get_clrBit_apart _ (LMB_apart b) b).trans freed, fun _ => State.bit_clrBit _ b.isLt⟩
    · next hw => exact ⟨freed, fun hw' => absurd hw' hw⟩

/-- Settles O45: each command of the port by its one branch, each mailbox by its state. -/
theorem hostPortAndMailboxes : Obligations.HostPortAndMailboxes :=
  ⟨xspiRead_drives, xspiWrite_byte, xspiWrite_mode, xspiReadStatus_drives, xspiReadId_drives, xspiReset_cases,
    xspiUnknownCommand_drives, xspiModeChange_acts, mailboxBufferWrite_host, mailboxBufferWrite_local,
    mailboxDoorbell_host, mailboxDoorbell_notice, mailboxAcknowledge_host, mailbox_local⟩

end Sys2Proof.Machine
end

section
/-!
PROOFS of the statement on the debug port (O56, R435 to R444): the TAP, the operations of DBGAP, the authentication and
the grants.
-/

namespace Sys2Proof.Machine

/-! ### The TAP (R435, R437) -/

theorem select_onlyIn (s : State) (ir dr : Nat) : OnlyIn [.dbg] s (s.select ir dr) :=
  Moves.onlyIn (K := partsOf [.dbg]) _ (State.select_moves ..) (by decide)

theorem tap_selects (i : Instr) (ir dr : Nat) (s : State)
    (h : (i, ir, dr) ∈ [(.tapReset, 0x02, 0), (.jtagIdcode, 0x02, 0x27144001), (.jtagBypass, 0x1F, 0),
      (.jtagDbgstat, 0x0A, s.dbgStat)]) :
    ∃ t, exec i s = .next t ∧ t.dbg = { s.dbg with ir := ir, dr := dr } ∧ OnlyIn [.dbg] s t := by
  refine ⟨s.select ir dr, ?_, rfl, select_onlyIn ..⟩
  simp only [List.mem_cons, List.not_mem_nil, or_false, Prod.mk.injEq] at h
  rcases h with ⟨rfl, rfl, rfl⟩ | ⟨rfl, rfl, rfl⟩ | ⟨rfl, rfl, rfl⟩ | ⟨rfl, rfl, rfl⟩
  all_goals rfl

theorem State.selectScan_open {s : State} (h : s.flag R.DBG_AUTH_BSCAN = true) (ir : Nat) (f : State → State) :
    s.selectScan ir f = f (s.select ir 0) := if_pos h

theorem State.selectScan_bypass {s : State} (h : s.flag R.DBG_AUTH_BSCAN = false) (ir : Nat) (f : State → State) :
    s.selectScan ir f = s.select 0x1F 0 := if_neg (by simp [h])

/-- An instruction of boundary scan: `f` is what it does where it is available. -/
theorem boundaryScan_acts {i : Instr} {ir : Nat} {b : List Bool} {s : State} {f : State → State}
    (next : exec i s = .next (s.selectScan ir f)) (moves : ∀ u, Moves (partsOf [.free, .dbg]) u (f u))
    (keeps : (f (s.select ir 0)).dbg.ir = ir)
    (cells : (f (s.select ir 0)).dbg.boundary = if i = .jtagExtest b ∨ i = .jtagSamplePreload b then b else s.dbg.boundary) :
    ∃ t, exec i s = .next t ∧ OnlyIn [.free, .dbg] s t
      ∧ (s.flag R.DBG_AUTH_BSCAN = false → t.dbg = { s.dbg with ir := 0x1F, dr := 0 } ∧ t.free = s.free)
      ∧ (s.flag R.DBG_AUTH_BSCAN = true → t.dbg.ir = ir
          ∧ t.dbg.boundary = if i = .jtagExtest b ∨ i = .jtagSamplePreload b then b else s.dbg.boundary) := by
  refine ⟨_, next, Moves.onlyIn _ (State.selectScan_moves s ir f moves (by decide)) (by decide), fun h => ?_, fun h => ?_⟩
  · rw [State.selectScan_bypass h]
    exact ⟨rfl, rfl⟩
  · rw [State.selectScan_open h]
    exact ⟨keeps, cells⟩

theorem boundaryScan_selects (i : Instr) (ir : Nat) (b : List Bool) (s : State)
    (h : (i, ir) ∈ [(.jtagExtest b, 0x00), (.jtagSamplePreload b, 0x01), (.jtagClamp, 0x03), (.jtagHighz, 0x04)]) :
    ∃ t, exec i s = .next t ∧ OnlyIn [.free, .dbg] s t
      ∧ (s.flag R.DBG_AUTH_BSCAN = false → t.dbg = { s.dbg with ir := 0x1F, dr := 0 } ∧ t.free = s.free)
      ∧ (s.flag R.DBG_AUTH_BSCAN = true → t.dbg.ir = ir
          ∧ t.dbg.boundary = if i = .jtagExtest b ∨ i = .jtagSamplePreload b then b else s.dbg.boundary) := by
  simp only [List.mem_cons, List.not_mem_nil, or_false, Prod.mk.injEq] at h
  rcases h with ⟨rfl, rfl⟩ | ⟨rfl, rfl⟩ | ⟨rfl, rfl⟩ | ⟨rfl, rfl⟩
  · exact boundaryScan_acts rfl (fun u => (State.upd_dbg_moves ..).mono (by decide)) rfl (if_pos (.inl rfl)).symm
  · refine boundaryScan_acts rfl (fun u => ?_) rfl (if_pos (.inr rfl)).symm
    exact ((State.freeN_moves u).mono (by decide)).step (State.upd_dbg_moves ..) (by decide)
  · exact boundaryScan_acts rfl (fun u => .refl ..) rfl (if_neg (by rintro (h | h) <;> cases h)).symm
  · exact boundaryScan_acts rfl (fun u => .refl ..) rfl (if_neg (by rintro (h | h) <;> cases h)).symm

/-! ### Operations of DBGAP (R438 to R440) -/

theorem State.dbgRetry_none {s : State} (h : s.dbg.op = none) : s.dbgRetry = s := by
  unfold State.dbgRetry
  rw [h]

/-- With no operation in hand a scan captures the result before and acts. -/
theorem State.apScan_idle {s : State} (h : s.dbg.op = none) (f : State → State) : s.apScan f = f s.capture := by
  have idle : s.capture.dbg.op = none := h
  unfold State.apScan
  dsimp only
  rw [State.dbgRetry_none h, idle]
  rfl

/-- A scan over an operation that has not completed is discarded. -/
theorem State.apScan_busy {s : State} (h : s.dbgRetry.dbg.op ≠ none) (f : State → State) :
    s.apScan f = s.dbgRetry.capture := if_pos (Option.isSome_iff_ne_none.mpr h)

/-- A scan changes no register, so what the port may reach is as before it. -/
theorem State.dbgMay_capture (s : State) (a : Nat) : s.capture.dbgMay a = s.dbgMay a := rfl

theorem State.dbgSmem_capture (s : State) : s.capture.dbgSmem = s.dbgSmem := rfl

theorem State.dbgRead_denied {s : State} {a : Nat} (h : s.dbgMay (a / 4 * 4) = false) (act : Bool) :
    s.dbgRead act a = s.denied := if_pos (by rw [h]; rfl)

theorem State.dbgWrite_denied {s : State} {a : Nat} (h : s.dbgMay (a / 4 * 4) = false) (v : Nat) :
    s.dbgWrite a v = s.denied := if_pos (by rw [h]; rfl)

theorem State.dbgRead_answered {s w : State} {a d : Nat} {r : BusAns} (h : s.dbgMay (a / 4 * 4) = true)
    (hr : s.rst.asserted = false) (act : Bool) (hb : s.busRead .debug s.dbgSmem (a / 4 * 4) 4 (!act) = (r, d, w)) :
    s.dbgRead act a = w.dbgDone { active := act, addr := a / 4 * 4 } r (if r = .ok then d else w.dbg.data) := by
  unfold State.dbgRead
  dsimp only
  rw [if_neg (by simp [h, hr]), hb]

theorem State.dbgWrite_answered {s w : State} {a v : Nat} {r : BusAns} (h : s.dbgMay (a / 4 * 4) = true)
    (hr : s.rst.asserted = false) (hg : a / 4 * 4 ≠ 0x4001B0A0)
    (hb : s.busWrite .debug s.dbgSmem (a / 4 * 4) 4 v = (r, w)) :
    s.dbgWrite a v = w.dbgDone { write := true, addr := a / 4 * 4, val := v } r w.dbg.data := by
  unfold State.dbgWrite
  dsimp only
  rw [if_neg (by simp [h, hr]), if_neg hg, hb]

theorem State.denied_onlyIn (s : State) : OnlyIn [.dbg] s s.capture.denied :=
  Moves.onlyIn (K := partsOf [.dbg]) _ (s.capture_moves.step (State.denied_moves ..) (by decide)) (by decide)

theorem dbgap_answers (act : Bool) (a v : BitVec 32) (s : State) (h : s.dbg.op = none) :
    let p := a.toNat / 4 * 4
    (s.dbgMay p = false → ∃ t, exec (.dbgapRead act a) s = .next t ∧ t.dbg.ack = 3 ∧ OnlyIn [.dbg] s t
      ∧ ∃ t, exec (.dbgapWrite a v) s = .next t ∧ t.dbg.ack = 3 ∧ OnlyIn [.dbg] s t)
    ∧ (∀ d w, s.dbgMay p = true → s.rst.asserted = false →
        s.capture.busRead .debug s.dbgSmem p 4 (!act) = (.ok, d, w) →
        exec (.dbgapRead act a) s = .next { w with dbg := { w.dbg with ack := 0, data := d, op := none } })
    ∧ (∀ d w, s.dbgMay p = true → s.rst.asserted = false →
        s.capture.busRead .debug s.dbgSmem p 4 (!act) = (.wait, d, w) →
        ∃ t, exec (.dbgapRead act a) s = .next t ∧ t.dbg.ack = 1 ∧ t.dbg.op = some { active := act, addr := p })
    ∧ (∀ w, s.dbgMay p = true → s.rst.asserted = false → p ≠ 0x4001B0A0 →
        s.capture.busWrite .debug s.dbgSmem p 4 v.toNat = (.ok, w) →
        exec (.dbgapWrite a v) s = .next { w with dbg := { w.dbg with ack := 0, op := none } }) := by
  intro p
  have read : exec (.dbgapRead act a) s = .next (s.capture.dbgRead act a.toNat) :=
    congrArg Host.Outcome.next (State.apScan_idle h _)
  have write : exec (.dbgapWrite a v) s = .next (s.capture.dbgWrite a.toNat v.toNat) :=
    congrArg Host.Outcome.next (State.apScan_idle h _)
  rw [read, write, ← s.dbgMay_capture, ← s.dbgSmem_capture]
  have up : s.capture.rst.asserted = s.rst.asserted := rfl
  rw [← up]
  refine ⟨fun hm => ⟨_, congrArg Host.Outcome.next (State.dbgRead_denied hm act), rfl, s.denied_onlyIn,
    _, congrArg Host.Outcome.next (State.dbgWrite_denied hm _), rfl, s.denied_onlyIn⟩, fun d w hm hr hb => ?_,
    fun d w hm hr hb => ?_, fun w hm hr hg hb => ?_⟩
  · rw [State.dbgRead_answered hm hr act hb]
    rfl
  · rw [State.dbgRead_answered hm hr act hb]
    exact ⟨_, rfl, rfl, rfl⟩
  · rw [State.dbgWrite_answered hm hr hg hb]
    rfl

theorem dbgap_busy (act : Bool) (a v : BitVec 32) (s : State) (h : s.dbgRetry.dbg.op ≠ none) :
    exec (.dbgapRead act a) s = .next s.dbgRetry.capture ∧ exec (.dbgapWrite a v) s = .next s.dbgRetry.capture
    ∧ exec .dbgapNop s = .next s.dbgRetry.capture :=
  ⟨congrArg Host.Outcome.next (State.apScan_busy h _), congrArg Host.Outcome.next (State.apScan_busy h _),
    congrArg Host.Outcome.next (State.apScan_busy h _)⟩

theorem dbgapNop_captures (s : State) (h : s.dbg.op = none) :
    ∃ t, exec .dbgapNop s = .next t ∧ t.dbg = { s.capture.dbg with ack := 0 } ∧ OnlyIn [.dbg] s t :=
  ⟨_, congrArg Host.Outcome.next (State.apScan_idle h _), rfl,
    Moves.onlyIn (K := partsOf [.dbg]) _ (s.capture_moves.step (State.upd_dbg_moves ..) (by decide)) (by decide)⟩

/-- A write of the debug port to the DBG frame: its effect, and an answer that ends the operation. -/
def State.dbgPut (s : State) (x v : Nat) : State :=
  let s := (s.capture.reply .debug .ok 0).putDbg { req := .debug, sealedW := false } x v
  { s with dbg := { s.dbg with ack := 0, op := none } }

/-- The registers of the DBG frame whose writes have an effect of their own, the burst apart. -/
def dbgOwn : List Nat := [0x1B004, 0x1B008, 0x1B024]

theorem dbgOwn_place : ∀ x ∈ dbgOwn, busTarget ((0x40000000 + x) / 4 * 4) = .io x ∧ frameDomain x = some 0 ∧ x / 0x1000 = 0x1B
    ∧ dbgAlways ((0x40000000 + x) / 4 * 4) = true ∧ (0x40000000 + x) / 4 * 4 ≠ 0x4001B0A0 := by
  decide

/-- Those writes leave the answer to the port as it is. -/
theorem State.putDbg_resp (s : State) (q : Who) {x : Nat} (hx : x ∈ dbgOwn) (v : Nat) : (s.putDbg q x v).resp = s.resp := by
  simp only [dbgOwn, List.mem_cons, List.not_mem_nil, or_false] at hx
  rcases hx with rfl | rfl | rfl
  · change (if v.testBit 4 then s.endGrant else s).resp = s.resp
    split
    · exact s.endGrant_moves.same .resp (by decide)
    · rfl
  · change (if s.dbgOpen then s.writeDbgCtrl v else s).resp = s.resp
    split
    · exact (s.writeDbgCtrl_moves v).same .resp (by decide)
    · rfl
  · change (if s.dbgOpen then s.writeRegdata v else s).resp = s.resp
    split
    · exact (s.writeRegdata_moves v).same .resp (by decide)
    · rfl

theorem State.dbgMay_always {a : Nat} (h : dbgAlways a = true) (s : State) : s.dbgMay a = true := by
  rw [State.dbgMay, h]
  rfl

theorem State.dbgPut_answered {s : State} (h0 : s.on 0 = true) {x v : Nat} (hx : x ∈ dbgOwn) (hv : v < 2 ^ 32) :
    s.capture.busWrite .debug s.capture.dbgSmem ((0x40000000 + x) / 4 * 4) 4 v
      = (.ok, (s.capture.reply .debug .ok 0).putDbg { req := .debug, sealedW := false } x v) := by
  obtain ⟨target, domain, frame, -, -⟩ := dbgOwn_place x hx
  have on : s.capture.on 0 = true := h0
  have put : s.capture.ioWrite { req := .debug, sealedW := false } x v
      = (s.capture.reply .debug .ok 0).putDbg { req := .debug, sealedW := false } x v := by
    rw [State.ioWrite_on _ _ v domain on]
    unfold State.ioPut
    simp only [frameIgnores, frame]
    rfl
  have code : (((s.capture.reply .debug .ok 0).putDbg { req := .debug, sealedW := false } x v).resp.at (reqIdx .debug)).code
      = .ok := by
    rw [State.putDbg_resp _ _ hx, State.resp_reply]
  have whole : s.capture.busIoWrite .debug x 4 v
      = (.ok, (s.capture.reply .debug .ok 0).putDbg { req := .debug, sealedW := false } x v) := by
    unfold State.busIoWrite
    dsimp only
    rw [if_pos (.inl (le_refl 4)), Nat.mod_eq_of_lt hv, put, code]
    rfl
  unfold State.busWrite
  rw [target]
  exact whole

/-- With no operation in hand a write of the DBG frame takes effect at once. -/
theorem State.apScan_put {s : State} (h : s.dbg.op = none) (h0 : s.on 0 = true) (hr : s.rst.asserted = false) {x v : Nat}
    (hx : x ∈ dbgOwn) (hv : v < 2 ^ 32) : (s.apScan fun s => s.dbgWrite (0x40000000 + x) v) = s.dbgPut x v := by
  obtain ⟨-, -, -, always, burst⟩ := dbgOwn_place x hx
  have up : s.capture.rst.asserted = false := hr
  rw [State.apScan_idle h, State.dbgWrite_answered (State.dbgMay_always always _) up burst (State.dbgPut_answered h0 hx hv)]
  rfl

/-! ### Authentication (R441, R443) -/

/-- The state in which a scan of DBGAUTH acts. -/
def State.authShown (s : State) : State :=
  s.select 0x09 (if s.authOn then b2n s.dbg.checking + 4 * s.dbg.chalOut else 0)

theorem State.authShown_moves (s : State) : Moves (partsOf [.dbg]) s s.authShown := State.select_moves ..

theorem State.authScan_field {s : State} (h : s.lcState = 4) (hc : s.dbg.checking = false) (hr : s.rst.asserted = false)
    (f : State → State) : s.authScan f = f s.authShown := by
  have acts : (s.authShown.authOn && !s.authShown.dbg.checking && !s.authShown.rst.asserted) = true := by
    have on : s.authShown.authOn = true := decide_eq_true h
    have idle : s.authShown.dbg.checking = false := hc
    have up : s.authShown.rst.asserted = false := hr
    rw [on, idle, up]
    rfl
  exact if_pos acts

theorem State.authScan_elsewhere {s : State} (h : s.lcState ≠ 4) (f : State → State) : s.authScan f = s.select 0x09 0 := by
  have off : s.authOn = false := decide_eq_false h
  have shown : s.authShown = s.select 0x09 0 := by
    rw [State.authShown, off]
    rfl
  have rests : ¬ (s.authShown.authOn && !s.authShown.dbg.checking && !s.authShown.rst.asserted) = true := by
    have offShown : s.authShown.authOn = false := off
    rw [offShown]
    exact Bool.false_ne_true
  exact (if_neg rests).trans shown

theorem newChallenge_nonce (s : State) : s.newChallenge.dbg.chal = 0 ∧ s.newChallenge.dbg.cert = []
    ∧ (s.newChallenge.dbg.nonce.isSome = true ↔ s.custody.drbg = true ∧ s.on 11 = true) := by
  unfold State.newChallenge
  by_cases h : (s.custody.drbg && s.on 11) = true
  · rw [if_pos h]
    exact ⟨rfl, rfl, fun _ => (Bool.and_eq_true ..).mp h, fun _ => rfl⟩
  · rw [if_neg h]
    exact ⟨rfl, rfl, fun hn => absurd hn Bool.false_ne_true, fun hb => absurd ((Bool.and_eq_true ..).mpr hb) h⟩

theorem submit_shows (s : State) : s.submit.get R.DBG_AUTH_RESULT = 8
    ∧ (s.custody.drbg = true → s.on 11 = true → s.submit.dbg.checking = true) := by
  have shown : (s.set R.DBG_AUTH_RESULT 8).get R.DBG_AUTH_RESULT = 8 := State.get_set ..
  have open_ : ((s.set R.DBG_AUTH_RESULT 8).custody.drbg && (s.set R.DBG_AUTH_RESULT 8).on 11)
      = (s.custody.drbg && s.on 11) :=
    congrArg (s.custody.drbg && ·) (State.on_congr (State.get_set_apart _ rfl 8))
  unfold State.submit
  dsimp only
  rw [open_]
  split
  · exact ⟨shown, fun _ _ => rfl⟩
  · next h => exact ⟨shown, fun hd h11 => absurd (by rw [hd, h11]; rfl) h⟩

theorem dbgauth_field (s : State) (h : s.lcState = 4) (hc : s.dbg.checking = false) (hr : s.rst.asserted = false) :
    (∃ t, exec .dbgauthReadChallenge s = .next t ∧ OnlyIn [.dbg] s t ∧ t.dbg.chal = s.dbg.chal + 1
      ∧ t.dbg.chalOut = fieldOf s.challenge (4 * s.dbg.chal) 4)
    ∧ (∀ w, s.dbg.cert.length < 64 → ∃ t, exec (.dbgauthWriteCertificate w) s = .next t
        ∧ t.dbg.cert = s.dbg.cert ++ [w.toNat] ∧ OnlyIn [.dbg] s t)
    ∧ (∃ t, exec .dbgauthNewchal s = .next t ∧ t.dbg.chal = 0 ∧ t.dbg.cert = []
        ∧ (t.dbg.nonce.isSome = true ↔ s.custody.drbg = true ∧ s.on 11 = true))
    ∧ ∃ t, exec .dbgauthSubmit s = .next t ∧ t.get R.DBG_AUTH_RESULT = 8
        ∧ (s.custody.drbg = true → s.on 11 = true → t.dbg.checking = true) := by
  have scan (f : State → State) : Host.Outcome.next (s.authScan f) = (.next (f s.authShown) : Out) :=
    congrArg Host.Outcome.next (State.authScan_field h hc hr f)
  have challenge : s.authShown.challenge = s.challenge := rfl
  refine ⟨⟨_, scan _, ?_, rfl, congrArg (fieldOf · (4 * s.dbg.chal) 4) challenge⟩, fun w hw =>
    ⟨_, (scan _).trans (congrArg Host.Outcome.next (if_pos hw)), rfl, ?_⟩, ⟨_, scan _, newChallenge_nonce s.authShown⟩,
    _, scan _, submit_shows s.authShown⟩
  all_goals exact Moves.onlyIn (K := partsOf [.dbg]) _ (s.authShown_moves.step (State.upd_dbg_moves ..) (by decide)) (by decide)

theorem dbgauth_elsewhere (s : State) (h : s.lcState ≠ 4) :
    ∃ t, exec .dbgauthReadChallenge s = .next t ∧ exec .dbgauthNewchal s = .next t ∧ exec .dbgauthSubmit s = .next t
      ∧ t.dbg = { s.dbg with ir := 0x09, dr := 0 } ∧ OnlyIn [.dbg] s t :=
  ⟨s.select 0x09 0, congrArg Host.Outcome.next (State.authScan_elsewhere h _),
    congrArg Host.Outcome.next (State.authScan_elsewhere h _), congrArg Host.Outcome.next (State.authScan_elsewhere h _), rfl,
    select_onlyIn ..⟩

theorem State.get_dbgAuthority (s : State) (b : Bool) {f : Fld} (h1 : R.DBG_AUTH_SCTRL.apart f = true)
    (h2 : R.DBG_AUTH_SMEM.apart f = true) (h3 : R.DBG_AUTH_BSCAN.apart f = true) : (s.dbgAuthority b).get f = s.get f :=
  (State.get_setB_apart _ h3 _).trans ((State.get_setB_apart _ h2 _).trans (State.get_setB_apart _ h1 _))

theorem State.certResult_lt (s : State) : s.certResult < 16 := by
  unfold State.certResult
  dsimp only
  repeat' split
  all_goals decide

/-- The state in which the result of the check is known and recorded. -/
def State.certJudged (s : State) : State :=
  let u := (s.set R.DBG_AUTH_RESULT s.certResult).journal 443 (s.certResult :: s.devId)
  { u with dbg := { u.dbg with checking := false, nonce := none } }

/-- The state in which a grant begins. -/
def State.certGranted (s : State) : State :=
  (s.certJudged.set R.DBG_AUTH_GRANTED 1).dbgAuthority ((fieldOf s.certBytes 6 2).testBit 1)

theorem State.certDone_grants {s : State} (h : s.certResult = 1) : ∃ e, s.certDone =
    { s.certGranted with dbg := { s.certGranted.dbg with grantEnd := e } } :=
  ⟨_, if_pos h⟩

theorem State.certDone_locked {s : State} (h1 : s.certResult ≠ 1) (h7 : s.certResult = 7) : s.certDone = s.certJudged :=
  (if_neg h1).trans (if_pos h7)

theorem State.certDone_fails {s : State} (h1 : s.certResult ≠ 1) (h7 : s.certResult ≠ 7) :
    s.certDone = s.certJudged.inc R.DBG_AUTH_FAILS := (if_neg h1).trans (if_neg h7)

theorem State.certJudged_shows (s : State) : s.certJudged.get R.DBG_AUTH_RESULT = s.certResult
    ∧ s.certJudged.vrec.length = s.vrec.length + 1 ∧ s.certJudged.get R.DBG_AUTH_GRANTED = s.get R.DBG_AUTH_GRANTED
    ∧ s.certJudged.get R.DBG_AUTH_FAILS = s.get R.DBG_AUTH_FAILS :=
  ⟨(State.get_set ..).trans (Nat.mod_eq_of_lt s.certResult_lt), State.journal_vrec .., State.get_set_apart _ rfl _,
    State.get_set_apart _ rfl _⟩

theorem debugCertCheckDone_ends (s : State) (h : s.dbg.checking = true) (ha : s.crerus.alive = true) :
    ∃ t, exec .debugCertCheckDone s = .next t ∧ t.get R.DBG_AUTH_RESULT = s.certResult ∧ t.dbg.checking = false
      ∧ t.dbg.nonce = none ∧ t.vrec.length = s.vrec.length + 1
      ∧ (t.flag R.DBG_AUTH_GRANTED = true ↔ s.certResult = 1 ∨ s.flag R.DBG_AUTH_GRANTED = true)
      ∧ (s.certResult ≠ 1 → s.certResult ≠ 7 → t.get R.DBG_AUTH_FAILS = min 255 (s.get R.DBG_AUTH_FAILS + 1)) := by
  obtain ⟨result, records, granted, fails⟩ := s.certJudged_shows
  refine ⟨s.certDone, congrArg Host.Outcome.next (if_pos (by rw [h, ha]; rfl)), ?_⟩
  by_cases h1 : s.certResult = 1
  · obtain ⟨e, done⟩ := State.certDone_grants h1
    have grants : s.certGranted.flag R.DBG_AUTH_GRANTED = true :=
      (State.flag_congr (State.get_dbgAuthority _ _ rfl rfl rfl)).trans (State.flag_set_one _ rfl)
    have shows_ : s.certGranted.get R.DBG_AUTH_RESULT = s.certResult :=
      (State.get_dbgAuthority _ _ rfl rfl rfl).trans ((State.get_set_apart _ rfl 1).trans result)
    rw [done]
    exact ⟨shows_, rfl, rfl, records, ⟨fun _ => .inl h1, fun _ => grants⟩, fun hn => absurd h1 hn⟩
  · by_cases h7 : s.certResult = 7
    · rw [State.certDone_locked h1 h7]
      refine ⟨result, rfl, rfl, records, ?_, fun _ hn => absurd h7 hn⟩
      rw [State.flag_congr granted, or_iff_right h1]
    · rw [State.certDone_fails h1 h7]
      refine ⟨(State.get_inc_apart _ rfl).trans result, rfl, rfl, records, ?_, fun _ _ => ?_⟩
      · rw [State.flag_congr ((State.get_inc_apart _ rfl).trans granted), or_iff_right h1]
      · rw [State.get_inc, fails]
        rfl

/-! ### The end of a grant (R444) -/

theorem State.bit_clrBit_ne (s : State) (f : Fld) {i j : Nat} (h : i ≠ j) (hj : j < f.w) :
    (s.clrBit f i).bit f j = s.bit f j := by
  simp [State.bit, State.clrBit, Nat.testBit_mod_two_pow, Nat.testBit_two_pow_sub_one, hj, Nat.testBit_two_pow_of_ne h]

theorem three_ne {c d : Fin 3} (h : c ≠ d) : (d : Nat) ≠ c := fun e => h (Fin.ext e.symm)

section
variable {s : State} {c d : Fin 3} {step : Bool}

theorem State.resumeCore_running (h : s.bit R.DBG_STAT_HALTED c = false) : s.resumeCore c step = s := if_pos (by simp [h])

theorem State.resumeCore_halted (h : s.bit R.DBG_STAT_HALTED c = true) : s.resumeCore c step =
    (s.clrBit R.DBG_STAT_HALTED c).updCore c fun k => { k with resumed := true, step := step } := if_neg (by simp [h])

theorem State.bit_resumeCore : (s.resumeCore c step).bit R.DBG_STAT_HALTED c = false := by
  cases h : s.bit R.DBG_STAT_HALTED c with
  | false => rw [State.resumeCore_running h, h]
  | true =>
    rw [State.resumeCore_halted h]
    exact State.bit_clrBit _ c.isLt

theorem State.coreAt_resumeCore (h : s.bit R.DBG_STAT_HALTED c = true) :
    (s.resumeCore c step).coreAt c = { s.coreAt c with resumed := true, step := step } := by
  rw [State.resumeCore_halted h, State.coreAt_updCore, if_pos rfl]
  rfl

/-- A core that leaves its halt leaves the other cores as they were. -/
theorem State.resumeCore_other (h : c ≠ d) : (s.resumeCore d step).coreAt c = s.coreAt c
    ∧ (s.resumeCore d step).bit R.DBG_STAT_HALTED c = s.bit R.DBG_STAT_HALTED c := by
  cases hd : s.bit R.DBG_STAT_HALTED d with
  | false => rw [State.resumeCore_running hd]; exact ⟨rfl, rfl⟩
  | true =>
    rw [State.resumeCore_halted hd]
    refine ⟨?_, State.bit_clrBit_ne _ _ (three_ne h) c.isLt⟩
    rw [State.coreAt_updCore, if_neg h]
    rfl

end

/-- A fold over the three cores: what the steps for the others keep, and the step for `c` turns `P` into `Q`. -/
theorem foldl_cores {P Q : State → Prop} {g : State → Nat → State} (c : Fin 3) (hP : ∀ d : Fin 3, c ≠ d → ∀ s, P s → P (g s d))
    (hPQ : ∀ s, P s → Q (g s c)) (hQ : ∀ d : Fin 3, c ≠ d → ∀ s, Q s → Q (g s d)) {s : State} (h : P s) :
    Q ((List.range 3).foldl g s) := by
  change Q (g (g (g s (0 : Fin 3)) (1 : Fin 3)) (2 : Fin 3))
  match c with
  | 0 => exact hQ 2 (by decide) _ (hQ 1 (by decide) _ (hPQ _ h))
  | 1 => exact hQ 2 (by decide) _ (hPQ _ (hP 0 (by decide) _ h))
  | 2 => exact hPQ _ (hP 1 (by decide) _ (hP 0 (by decide) _ h))

/-- Core `c` and its halt are the same in `t` as in `s`. -/
def SameHalt (c : Fin 3) (s t : State) : Prop :=
  t.coreAt c = s.coreAt c ∧ t.bit R.DBG_STAT_HALTED c = s.bit R.DBG_STAT_HALTED c

/-- After a resume of every core none is halted, and each that was has been resumed. -/
theorem State.resumeAll (s : State) (c : Fin 3) :
    let t := (List.range 3).foldl (fun s c => s.resumeCore c false) s
    t.bit R.DBG_STAT_HALTED c = false ∧ (s.bit R.DBG_STAT_HALTED c = true → (t.coreAt c).resumed = true) := by
  refine foldl_cores (P := SameHalt c s) (Q := fun t => t.bit R.DBG_STAT_HALTED c = false
    ∧ (s.bit R.DBG_STAT_HALTED c = true → (t.coreAt c).resumed = true)) c (fun d hd u hu => ?_) (fun u hu => ?_) (fun d hd u hu => ?_) ⟨rfl, rfl⟩
  · obtain ⟨core, bit⟩ := State.resumeCore_other (s := u) (step := false) hd
    exact ⟨core.trans hu.1, bit.trans hu.2⟩
  · refine ⟨State.bit_resumeCore, fun h => ?_⟩
    rw [State.coreAt_resumeCore (hu.2.trans h)]
  · obtain ⟨core, bit⟩ := State.resumeCore_other (s := u) (step := false) hd
    rw [bit, core]
    exact hu

/-- The state in which the grant is withdrawn and the breakpoints are off, before the cores resume. -/
def State.grantGone (s : State) : State :=
  (List.range 8).foldl (fun s i => s.set (R.DBG_BP_CFG_EN i) 0) ((s.set R.DBG_AUTH_GRANTED 0).dbgAuthority false)

theorem State.endGrant_eq {s : State} (h : s.flag R.DBG_AUTH_GRANTED = true) :
    let u := (List.range 3).foldl (fun s c => s.resumeCore c false) s.grantGone
    s.endGrant = { u with dbg := { u.dbg with grantEnd := none, op := none, ack := 3 } } := if_neg (by simp [h])

theorem State.get_foldl_zero {F : Nat → Fld} {f : Fld} : ∀ (l : List Nat) (s : State), (s.get f = 0 ∨ ∃ i ∈ l, F i = f) →
    (l.foldl (fun s i => s.set (F i) 0) s).get f = 0
  | [], _, h => h.resolve_right fun ⟨_, hi, _⟩ => absurd hi List.not_mem_nil
  | e :: l, s, h => by
    refine State.get_foldl_zero l _ ?_
    by_cases he : F e = f
    · subst he
      exact .inl (State.get_set ..)
    · refine h.imp (fun h => (State.get_set_ne s he 0).trans h) fun ⟨i, hi, hf⟩ => ⟨i, ?_, hf⟩
      exact (List.mem_cons.mp hi).resolve_left fun e' => he (e' ▸ hf)

theorem DBG_BP_CFG_EN_ne : ∀ b : Fin 8, R.DBG_BP_CFG_EN b ≠ R.DBG_STAT_HALTED := by decide

theorem State.get_grantGone_breakpoint (s : State) (b : Fin 8) : s.grantGone.get (R.DBG_BP_CFG_EN b) = 0 :=
  State.get_foldl_zero _ _ (.inr ⟨b, List.mem_range.mpr b.isLt, rfl⟩)

theorem State.grantGone_off (s : State) :
    RegsOnly (fun f => 0x1b044 ≤ f.addr) ((s.set R.DBG_AUTH_GRANTED 0).dbgAuthority false) s.grantGone :=
  RegsOnly.foldl (fun i _ s => (RegsOnly.refl _ s).set (f := R.DBG_BP_CFG_EN i) (Nat.le_add_right ..) 0) _

/-- A withdrawn grant changes no field of the registers between DBG_AUTH and the breakpoints. -/
theorem State.get_grantGone (s : State) {f : Fld} (ha : R.DBG_AUTH_GRANTED.apart f = true) (h1 : R.DBG_AUTH_SCTRL.apart f = true)
    (h2 : R.DBG_AUTH_SMEM.apart f = true) (h3 : R.DBG_AUTH_BSCAN.apart f = true) (hb : f.addr < 0x1b044) :
    s.grantGone.get f = s.get f := by
  rw [s.grantGone_off f (by omega), State.get_dbgAuthority _ _ h1 h2 h3, State.get_set_apart _ ha]

theorem State.get_grantGone_granted (s : State) : s.grantGone.get R.DBG_AUTH_GRANTED = 0 := by
  rw [s.grantGone_off _ (by decide), State.get_dbgAuthority _ _ rfl rfl rfl, State.get_set]
  rfl

theorem State.resumeCore_regs (s : State) (c : Nat) (step : Bool) :
    RegsOnly (fun f => f = R.DBG_STAT_HALTED) s (s.resumeCore c step) := by
  unfold State.resumeCore
  split
  · exact RegsOnly.refl _ s
  · exact fun f hf => State.get_set_ne _ (Ne.symm hf) _

/-- What the end of a grant leaves (R444). -/
theorem State.endGrant_ends {s : State} (h : s.flag R.DBG_AUTH_GRANTED = true) : s.endGrant.get R.DBG_AUTH_GRANTED = 0
    ∧ (∀ b : Fin 8, s.endGrant.get (R.DBG_BP_CFG_EN b) = 0)
    ∧ ∀ c : Fin 3, s.endGrant.bit R.DBG_STAT_HALTED c = false
        ∧ (s.bit R.DBG_STAT_HALTED c = true → (s.endGrant.coreAt c).resumed = true) := by
  have regs := RegsOnly.foldl (l := List.range 3) (g := fun s c => s.resumeCore c false)
    (fun c _ s => s.resumeCore_regs c false) s.grantGone
  rw [State.endGrant_eq h]
  refine ⟨(regs _ (by decide)).trans s.get_grantGone_granted, fun b => (regs _ (DBG_BP_CFG_EN_ne b)).trans
    (s.get_grantGone_breakpoint b), fun c => ?_⟩
  obtain ⟨bit, resumed⟩ := s.grantGone.resumeAll c
  exact ⟨bit, fun h => resumed ((bit_congr (s.get_grantGone rfl rfl rfl rfl (by decide)) c).trans h)⟩

theorem State.dbgPut_revokes (s : State) : s.dbgPut 0x1B004 0x10 =
    let u := (s.capture.reply .debug .ok 0).endGrant
    { u with dbg := { u.dbg with ack := 0, op := none } } := rfl

theorem grantEnd_ends (i : Instr) (s : State) (h : s.flag R.DBG_AUTH_GRANTED = true)
    (hi : i = .debugGrantExpiry ∧ (∃ e, s.dbg.grantEnd = some e ∧ e ≤ s.time.rtc.toNat)
      ∨ i = .debugRevoke ∧ s.dbg.op = none ∧ s.on 0 = true ∧ s.rst.asserted = false) :
    ∃ t, exec i s = .next t ∧ t.get R.DBG_AUTH_GRANTED = 0 ∧ (∀ b : Fin 8, t.get (R.DBG_BP_CFG_EN b) = 0)
      ∧ ∀ c : Fin 3, t.bit R.DBG_STAT_HALTED c = false
          ∧ (s.bit R.DBG_STAT_HALTED c = true → (t.coreAt c).resumed = true) := by
  rcases hi with ⟨rfl, e, he, hle⟩ | ⟨rfl, hop, h0, hr⟩
  · refine ⟨s.endGrant, ?_, State.endGrant_ends h⟩
    change Host.Outcome.next _ = _
    rw [he]
    exact congrArg Host.Outcome.next (if_pos hle)
  · exact ⟨_, congrArg Host.Outcome.next ((State.apScan_put hop h0 hr (x := 0x1B004) (by decide) (by decide)).trans s.dbgPut_revokes),
      State.endGrant_ends (s := s.capture.reply .debug .ok 0) h⟩

theorem grantExpiry_early (e : Nat) (s : State) (h : s.dbg.grantEnd = some e) (hl : s.time.rtc.toNat < e) :
    exec .debugGrantExpiry s = .next s := by
  change Host.Outcome.next _ = _
  rw [h]
  exact congrArg Host.Outcome.next (if_neg (Nat.not_le.mpr hl))

/-- Settles O56: each operation by its one branch, and the end of a grant by a fold over the cores. -/
theorem debugPort : Obligations.DebugPort :=
  ⟨tap_selects, boundaryScan_selects, dbgap_answers, dbgap_busy, dbgapNop_captures, dbgauth_field, dbgauth_elsewhere,
    debugCertCheckDone_ends, grantEnd_ends, grantExpiry_early⟩

end Sys2Proof.Machine
end

section
/-!
PROOFS of the statement on the debugged cores (O57, R447 to R454): halts, resumes and steps, the end of the deferral,
DBG_REGDATA and the burst.
-/

namespace Sys2Proof.Machine

/-! ### What a halt depends on -/

theorem State.bit_setBit_ne (s : State) (f : Fld) {i j : Nat} (h : i ≠ j) (hj : j < f.w) :
    (s.setBit f i).bit f j = s.bit f j := by
  simp [State.bit, State.setBit, Nat.testBit_mod_two_pow, hj, Nat.testBit_two_pow_of_ne h]

/-- The flags that make a boundary eligible, beside the sequences of the core. -/
def boundaryFlags : List Fld :=
  [R.DBG_AUTH_SCTRL, R.PLY_STATUS_RESYNC, R.PLY_STATUS_SPLITTING, R.PLY_STATUS_JOINING]

theorem State.eligible_congr {s t : State} {c : Nat} (hl : (t.coreAt c).locked = (s.coreAt c).locked)
    (hm : (t.coreAt c).moving = (s.coreAt c).moving) (hw : (t.coreAt c).mustWait = (s.coreAt c).mustWait)
    (hk : t.key = s.key) (hq : t.seq = s.seq) (hs : t.wld = s.wld) (hf : ∀ f ∈ boundaryFlags, t.get f = s.get f) :
    t.eligible c = s.eligible c := by
  have locked : t.haltLocked c = s.haltLocked c := by
    rw [State.haltLocked, State.inLocked, hl, hm, hk, hq]
    rfl
  have sealed : t.inSealedCall c = s.inSealedCall c := by
    rw [State.inSealedCall, hs, State.flag_congr (hf _ (by decide))]
    rfl
  have busy : t.plyBusy = s.plyBusy := by
    rw [State.plyBusy, State.flag_congr (hf R.PLY_STATUS_RESYNC (by decide)),
      State.flag_congr (hf R.PLY_STATUS_SPLITTING (by decide)), State.flag_congr (hf R.PLY_STATUS_JOINING (by decide))]
    rfl
  rw [State.eligible, locked, sealed, busy, hw]
  rfl

/-- Core `c`, its halt and its eligibility are the same in `t` as in `s`. -/
structure SameBoundary (c : Fin 3) (s t : State) : Prop where
  core : t.coreAt c = s.coreAt c
  halted : t.bit R.DBG_STAT_HALTED c = s.bit R.DBG_STAT_HALTED c
  eligible : t.eligible c = s.eligible c

theorem SameBoundary.refl (c : Fin 3) (s : State) : SameBoundary c s s := ⟨rfl, rfl, rfl⟩

theorem SameBoundary.trans {c : Fin 3} {s t u : State} (h : SameBoundary c s t) (k : SameBoundary c t u) : SameBoundary c s u :=
  ⟨k.core.trans h.core, k.halted.trans h.halted, k.eligible.trans h.eligible⟩

theorem boundaryFlags_apart : ∀ f ∈ boundaryFlags, f ≠ R.DBG_STAT_HALTED ∧ f ≠ R.DBG_STAT_PEND := by decide

theorem State.resumeCore_boundary (s : State) {c d : Fin 3} (h : c ≠ d) (step : Bool) : SameBoundary c s (s.resumeCore d step) := by
  have moved := s.resumeCore_moves d step
  obtain ⟨core, halted⟩ := State.resumeCore_other (s := s) (step := step) h
  exact ⟨core, halted, State.eligible_congr (by rw [core]) (by rw [core]) (by rw [core]) (moved.same .key (by decide))
    (moved.same .seq (by decide)) (moved.same .wld (by decide)) fun f hf => s.resumeCore_regs d step f (boundaryFlags_apart f hf).1⟩

/-! ### Halts asked for (R447, R451) -/

/-- The state in which a halt of core `c` is asked for. -/
def State.haltAsked (s : State) (c cause bp : Nat) : State := s.updCore c fun k => { k with haltReq := some (cause, bp) }

section
variable {s : State} {c d : Fin 3} {cause bp : Nat}

theorem State.coreAt_haltAsked : (s.haltAsked d cause bp).coreAt c
    = if c = d then { s.coreAt d with haltReq := some (cause, bp) } else s.coreAt c := State.coreAt_updCore ..

theorem State.haltAsked_eligible : (s.haltAsked c cause bp).eligible c = s.eligible c := by
  have core : (s.haltAsked c cause bp).coreAt c = { s.coreAt c with haltReq := some (cause, bp) } := by
    rw [State.coreAt_haltAsked, if_pos rfl]
  exact State.eligible_congr (by rw [core]) (by rw [core]; rfl) (by rw [core]; rfl) rfl rfl rfl fun f _ => rfl

theorem State.askHalt_halted (h : s.bit R.DBG_STAT_HALTED c = true) : s.askHalt c cause bp = s := if_pos h

theorem State.askHalt_running (h : s.bit R.DBG_STAT_HALTED c = false) : s.askHalt c cause bp =
    if (s.haltAsked c cause bp).eligible c then s.haltAsked c cause bp
    else (s.haltAsked c cause bp).setBit R.DBG_STAT_PEND c := if_neg (by simp [h])

theorem State.askHalt_regs (s : State) (c cause bp : Nat) : RegsOnly (fun f => f = R.DBG_STAT_PEND) s (s.askHalt c cause bp) := by
  unfold State.askHalt
  split
  · exact RegsOnly.refl _ s
  · dsimp only
    split
    · exact RegsOnly.refl _ s
    · exact fun f hf => State.get_set_ne _ (Ne.symm hf) _

/-- A halt asked of a core leaves the other cores as they were. -/
theorem State.askHalt_other (h : c ≠ d) : (s.askHalt d cause bp).coreAt c = s.coreAt c
    ∧ (s.askHalt d cause bp).bit R.DBG_STAT_PEND c = s.bit R.DBG_STAT_PEND c := by
  cases hd : s.bit R.DBG_STAT_HALTED d with
  | true => rw [State.askHalt_halted hd]; exact ⟨rfl, rfl⟩
  | false =>
    have core : (s.haltAsked d cause bp).coreAt c = s.coreAt c := by rw [State.coreAt_haltAsked, if_neg h]
    rw [State.askHalt_running hd]
    split
    · exact ⟨core, rfl⟩
    · exact ⟨core, State.bit_setBit_ne _ _ (three_ne h) c.isLt⟩

theorem State.askHalt_boundary (h : c ≠ d) : SameBoundary c s (s.askHalt d cause bp) := by
  have moved := s.askHalt_moves d cause bp
  have core := (State.askHalt_other (s := s) (cause := cause) (bp := bp) h).1
  exact ⟨core, State.bit_congr (s.askHalt_regs d cause bp _ (by decide)) c, State.eligible_congr (by rw [core]) (by rw [core])
    (by rw [core]) (moved.same .key (by decide)) (moved.same .seq (by decide)) (moved.same .wld (by decide))
    fun f hf => s.askHalt_regs d cause bp f (boundaryFlags_apart f hf).2⟩

/-- A running core of which a halt is asked has the request, and shows it where its boundary is not eligible. -/
theorem State.askHalt_shows (h : s.bit R.DBG_STAT_HALTED c = false) :
    (s.askHalt c cause bp).coreAt c = { s.coreAt c with haltReq := some (cause, bp) }
    ∧ (s.askHalt c cause bp).bit R.DBG_STAT_HALTED c = false
    ∧ (s.eligible c = false → (s.askHalt c cause bp).bit R.DBG_STAT_PEND c = true) := by
  refine ⟨?_, (State.bit_congr (s.askHalt_regs c cause bp _ (by decide)) c).trans h, fun he => ?_⟩
  · have core : (s.haltAsked c cause bp).coreAt c = { s.coreAt c with haltReq := some (cause, bp) } := by
      rw [State.coreAt_haltAsked, if_pos rfl]
    rw [State.askHalt_running h]
    split
    · exact core
    · exact core
  · rw [State.askHalt_running h, State.haltAsked_eligible, he]
    exact State.bit_setBit _ c.isLt

end

/-! ### A write of DBG_CTRL (R447) -/

/-- The cores that bits `lo` to `lo + 2` of a word name leave their halts. -/
def State.resumesNamed (s : State) (v lo : Nat) (step : Bool) : State :=
  (List.range 3).foldl (fun s c => if v.testBit (lo + c) then s.resumeCore c step else s) s

/-- A halt is asked of the cores that the low bits of a word name. -/
def State.haltsNamed (s : State) (v : Nat) : State :=
  (List.range 3).foldl (fun s c => if v.testBit (0 + c) then s.askHalt c 1 0 else s) s

/-- The state in which HALTALL and STEPIE have their values. -/
def State.ctrlSet (s : State) (v : Nat) : State :=
  (s.set R.DBG_CTRL_HALTALL (bitsOf v 17 17)).set R.DBG_CTRL_STEPIE (bitsOf v 16 16)

theorem State.writeDbgCtrl_eq (s : State) (v : Nat) :
    s.writeDbgCtrl v = (((s.ctrlSet v).resumesNamed v 4 false).resumesNamed v 8 true).haltsNamed v := rfl

theorem State.resumesNamed_regs (s : State) (v lo : Nat) (step : Bool) :
    RegsOnly (fun f => f = R.DBG_STAT_HALTED) s (s.resumesNamed v lo step) := by
  refine RegsOnly.foldl (fun c _ s => ?_) s
  split
  · exact s.resumeCore_regs c step
  · exact RegsOnly.refl _ s

theorem State.haltsNamed_regs (s : State) (v : Nat) : RegsOnly (fun f => f = R.DBG_STAT_PEND) s (s.haltsNamed v) := by
  refine RegsOnly.foldl (fun c _ s => ?_) s
  split
  · exact s.askHalt_regs c 1 0
  · exact RegsOnly.refl _ s

section
variable {s : State} {v lo : Nat} {step : Bool} {c : Fin 3}

theorem State.resumesNamed_other {d : Fin 3} (h : c ≠ d) (s : State) :
    SameBoundary c s (if v.testBit (lo + d) then s.resumeCore d step else s) := by
  split
  · exact s.resumeCore_boundary h step
  · exact .refl c s

/-- A core that is halted and named is resumed. -/
theorem State.resumesNamed_named (hv : v.testBit (lo + c) = true) (h : s.bit R.DBG_STAT_HALTED c = true) :
    (s.resumesNamed v lo step).coreAt c = { s.coreAt c with resumed := true, step := step }
    ∧ (s.resumesNamed v lo step).bit R.DBG_STAT_HALTED c = false := by
  refine foldl_cores (P := SameBoundary c s) (Q := fun t => t.coreAt c = { s.coreAt c with resumed := true, step := step }
      ∧ t.bit R.DBG_STAT_HALTED c = false) c (fun d hd u hu => hu.trans (State.resumesNamed_other hd u)) (fun u hu => ?_)
    (fun d hd u hu => ?_) (.refl c s)
  · rw [if_pos hv, State.coreAt_resumeCore (hu.halted.trans h), hu.core]
    exact ⟨rfl, State.bit_resumeCore⟩
  · have same := State.resumesNamed_other (v := v) (lo := lo) (step := step) hd u
    rw [same.core, same.halted]
    exact hu

/-- Any other core is as it was. -/
theorem State.resumesNamed_unnamed (h : v.testBit (lo + c) = false ∨ s.bit R.DBG_STAT_HALTED c = false) :
    SameBoundary c s (s.resumesNamed v lo step) := by
  refine foldl_cores (P := SameBoundary c s) (Q := SameBoundary c s) c
    (fun d hd u hu => hu.trans (State.resumesNamed_other hd u)) (fun u hu => ?_)
    (fun d hd u hu => hu.trans (State.resumesNamed_other hd u)) (.refl c s)
  rcases h with h | h
  · rwa [if_neg (by simp [h])]
  · rw [State.resumeCore_running (hu.halted.trans h), ite_self]
    exact hu

theorem State.haltsNamed_other {d : Fin 3} (h : c ≠ d) (s : State) :
    SameBoundary c s (if v.testBit (0 + d) then s.askHalt d 1 0 else s)
    ∧ (if v.testBit (0 + d) then s.askHalt d 1 0 else s).bit R.DBG_STAT_PEND c = s.bit R.DBG_STAT_PEND c := by
  split
  · exact ⟨State.askHalt_boundary h, (State.askHalt_other h).2⟩
  · exact ⟨.refl c s, rfl⟩

/-- A core that runs and is named has the request. -/
theorem State.haltsNamed_named (hv : v.testBit c = true) (h : s.bit R.DBG_STAT_HALTED c = false) :
    (s.haltsNamed v).coreAt c = { s.coreAt c with haltReq := some (1, 0) } ∧ (s.haltsNamed v).bit R.DBG_STAT_HALTED c = false
    ∧ (s.eligible c = false → (s.haltsNamed v).bit R.DBG_STAT_PEND c = true) := by
  refine foldl_cores (P := SameBoundary c s) (Q := fun t => t.coreAt c = { s.coreAt c with haltReq := some (1, 0) }
      ∧ t.bit R.DBG_STAT_HALTED c = false ∧ (s.eligible c = false → t.bit R.DBG_STAT_PEND c = true)) c
    (fun d hd u hu => hu.trans (State.haltsNamed_other hd u).1) (fun u hu => ?_) (fun d hd u hu => ?_) (.refl c s)
  · obtain ⟨core, halted, pend⟩ := State.askHalt_shows (cause := 1) (bp := 0) (hu.halted.trans h)
    rw [Nat.zero_add, if_pos hv, core, hu.core, ← hu.eligible]
    exact ⟨rfl, halted, pend⟩
  · obtain ⟨same, pend⟩ := State.haltsNamed_other (v := v) hd u
    rw [same.core, same.halted, pend]
    exact hu

/-- Any other core is as it was. -/
theorem State.haltsNamed_unnamed (h : v.testBit c = false ∨ s.bit R.DBG_STAT_HALTED c = true) :
    SameBoundary c s (s.haltsNamed v) := by
  refine foldl_cores (P := SameBoundary c s) (Q := SameBoundary c s) c
    (fun d hd u hu => hu.trans (State.haltsNamed_other hd u).1) (fun u hu => ?_)
    (fun d hd u hu => hu.trans (State.haltsNamed_other hd u).1) (.refl c s)
  rw [Nat.zero_add]
  rcases h with h | h
  · rwa [if_neg (by simp [h])]
  · rw [State.askHalt_halted (hu.halted.trans h), ite_self]
    exact hu

/-- A halt asked of a core that leaves its halt does not bring it back. -/
theorem State.haltsNamed_resumed (h : s.bit R.DBG_STAT_HALTED c = false) : (s.haltsNamed v).bit R.DBG_STAT_HALTED c = false
    ∧ ((s.haltsNamed v).coreAt c).resumed = (s.coreAt c).resumed ∧ ((s.haltsNamed v).coreAt c).step = (s.coreAt c).step := by
  cases hv : v.testBit c with
  | true =>
    obtain ⟨core, halted, -⟩ := State.haltsNamed_named hv h
    rw [core]
    exact ⟨halted, rfl, rfl⟩
  | false =>
    have same := State.haltsNamed_unnamed (s := s) (.inl hv)
    rw [same.halted, same.core]
    exact ⟨h, rfl, rfl⟩

end

theorem State.ctrlSet_boundary (s : State) (v : Nat) (c : Fin 3) : SameBoundary c s (s.ctrlSet v) := by
  have kept : ∀ f : Fld, R.DBG_CTRL_HALTALL.apart f = true → R.DBG_CTRL_STEPIE.apart f = true → (s.ctrlSet v).get f = s.get f :=
    fun f h1 h2 => (State.get_set_apart _ h2 _).trans (State.get_set_apart _ h1 _)
  have flags : ∀ f ∈ boundaryFlags, R.DBG_CTRL_HALTALL.apart f = true ∧ R.DBG_CTRL_STEPIE.apart f = true := by decide
  exact ⟨rfl, State.bit_congr (kept _ rfl rfl) c, State.eligible_congr rfl rfl rfl rfl rfl rfl fun f hf =>
    kept f (flags f hf).1 (flags f hf).2⟩

/-- What a write of DBG_CTRL does to core `c` (R447). -/
theorem State.writeDbgCtrl_core (s : State) (v : Nat) (c : Fin 3) :
    (v.testBit c = true → s.bit R.DBG_STAT_HALTED c = false → ((s.writeDbgCtrl v).coreAt c).haltReq = some (1, 0)
      ∧ (s.eligible c = false → (s.writeDbgCtrl v).bit R.DBG_STAT_PEND c = true))
    ∧ (v.testBit (4 + c) = true → s.bit R.DBG_STAT_HALTED c = true →
      (s.writeDbgCtrl v).bit R.DBG_STAT_HALTED c = false ∧ ((s.writeDbgCtrl v).coreAt c).resumed = true
        ∧ ((s.writeDbgCtrl v).coreAt c).step = false)
    ∧ (v.testBit (8 + c) = true → v.testBit (4 + c) = false → s.bit R.DBG_STAT_HALTED c = true →
      (s.writeDbgCtrl v).bit R.DBG_STAT_HALTED c = false ∧ ((s.writeDbgCtrl v).coreAt c).resumed = true
        ∧ ((s.writeDbgCtrl v).coreAt c).step = true)
    ∧ (v.testBit c = false → v.testBit (4 + c) = false → v.testBit (8 + c) = false →
      (s.writeDbgCtrl v).coreAt c = s.coreAt c ∧ (s.writeDbgCtrl v).bit R.DBG_STAT_HALTED c = s.bit R.DBG_STAT_HALTED c) := by
  have base := s.ctrlSet_boundary v c
  rw [State.writeDbgCtrl_eq]
  refine ⟨fun hv h => ?_, fun hv h => ?_, fun hv h4 h => ?_, fun h0 h4 h8 => ?_⟩
  · have first := base.trans (State.resumesNamed_unnamed (v := v) (lo := 4) (step := false) (.inr (base.halted.trans h)))
    have second := first.trans (State.resumesNamed_unnamed (v := v) (lo := 8) (step := true) (.inr (first.halted.trans h)))
    obtain ⟨core, -, pend⟩ := State.haltsNamed_named hv (second.halted.trans h)
    rw [core, ← second.eligible]
    exact ⟨rfl, pend⟩
  · obtain ⟨core, halted⟩ := State.resumesNamed_named (step := false) hv (base.halted.trans h)
    have second := State.resumesNamed_unnamed (v := v) (lo := 8) (step := true) (.inr halted)
    obtain ⟨bit, resumed, step⟩ := State.haltsNamed_resumed (v := v) (second.halted.trans halted)
    rw [resumed, step, second.core, core]
    exact ⟨bit, rfl, rfl⟩
  · have first := base.trans (State.resumesNamed_unnamed (v := v) (lo := 4) (step := false) (.inl h4))
    obtain ⟨core, halted⟩ := State.resumesNamed_named (step := true) hv (first.halted.trans h)
    obtain ⟨bit, resumed, step⟩ := State.haltsNamed_resumed (v := v) halted
    rw [resumed, step, core]
    exact ⟨bit, rfl, rfl⟩
  · have first := base.trans (State.resumesNamed_unnamed (v := v) (lo := 4) (step := false) (.inl h4))
    have second := first.trans (State.resumesNamed_unnamed (v := v) (lo := 8) (step := true) (.inl h8))
    have third := second.trans (State.haltsNamed_unnamed (v := v) (.inl h0))
    exact ⟨third.core, third.halted⟩

theorem State.writeDbgCtrl_fields (s : State) (v : Nat) : (s.writeDbgCtrl v).get R.DBG_CTRL_HALTALL = v / 2 ^ 17 % 2
    ∧ (s.writeDbgCtrl v).get R.DBG_CTRL_STEPIE = v / 2 ^ 16 % 2 := by
  have kept {f : Fld} (h1 : f ≠ R.DBG_STAT_HALTED) (h2 : f ≠ R.DBG_STAT_PEND) : (s.writeDbgCtrl v).get f = (s.ctrlSet v).get f := by
    rw [State.writeDbgCtrl_eq, State.haltsNamed_regs _ v f h2, State.resumesNamed_regs _ v 8 true f h1,
      State.resumesNamed_regs _ v 4 false f h1]
  rw [kept (by decide) (by decide), kept (by decide) (by decide)]
  refine ⟨(State.get_set_apart _ rfl _).trans ((State.get_set ..).trans ?_), (State.get_set ..).trans ?_⟩
  · exact Nat.mod_mod ..
  · exact Nat.mod_mod ..

/-- A write of DBG_CTRL by the debug port. -/
theorem State.dbgPut_ctrl {s : State} (h : s.dbgOpen = true) (v : Nat) : s.dbgPut 0x1B008 v =
    let u := (s.capture.reply .debug .ok 0).writeDbgCtrl v
    { u with dbg := { u.dbg with ack := 0, op := none } } := by
  have open_ : (s.capture.reply .debug .ok 0).dbgOpen = true := h
  have put : (s.capture.reply .debug .ok 0).putDbg { req := .debug, sealedW := false } 0x1B008 v
      = (s.capture.reply .debug .ok 0).writeDbgCtrl v := if_pos open_
  rw [State.dbgPut, put]

theorem debugCtrl_acts (v : Word) (c : Fin 3) (s : State) (h : s.dbg.op = none) (h0 : s.on 0 = true) (hr : s.rst.asserted = false)
    (ho : s.dbgOpen = true) :
    ∃ t, exec (.debugHaltRequest v) s = .next t ∧ exec (.debugResume v) s = .next t ∧ exec (.debugStep v) s = .next t
      ∧ t.dbg.ack = 0 ∧ t.get R.DBG_CTRL_HALTALL = v.toNat / 2 ^ 17 % 2 ∧ t.get R.DBG_CTRL_STEPIE = v.toNat / 2 ^ 16 % 2
      ∧ (v.toNat.testBit c = true → s.bit R.DBG_STAT_HALTED c = false → (t.coreAt c).haltReq = some (1, 0)
          ∧ (s.eligible c = false → t.bit R.DBG_STAT_PEND c = true))
      ∧ (v.toNat.testBit (4 + c) = true → s.bit R.DBG_STAT_HALTED c = true →
          t.bit R.DBG_STAT_HALTED c = false ∧ (t.coreAt c).resumed = true ∧ (t.coreAt c).step = false)
      ∧ (v.toNat.testBit (8 + c) = true → v.toNat.testBit (4 + c) = false → s.bit R.DBG_STAT_HALTED c = true →
          t.bit R.DBG_STAT_HALTED c = false ∧ (t.coreAt c).resumed = true ∧ (t.coreAt c).step = true)
      ∧ (v.toNat.testBit c = false → v.toNat.testBit (4 + c) = false → v.toNat.testBit (8 + c) = false →
          t.coreAt c = s.coreAt c ∧ t.bit R.DBG_STAT_HALTED c = s.bit R.DBG_STAT_HALTED c) := by
  have next := congrArg (Host.Outcome.next (ρ := Refusal) (φ := Fault))
    ((State.apScan_put h h0 hr (x := 0x1B008) (by decide) v.isLt).trans (State.dbgPut_ctrl ho v.toNat))
  obtain ⟨haltall, stepie⟩ := (s.capture.reply .debug .ok 0).writeDbgCtrl_fields v.toNat
  exact ⟨_, next, next, next, rfl, haltall, stepie, (s.capture.reply .debug .ok 0).writeDbgCtrl_core v.toNat c⟩

/-! ### A halt takes place (R447, R449) -/

/-- A boundary leaves the PC, the registers and the reservation of the core, and no access. -/
theorem Core.parkMove_keeps (k : Core) : k.parkMove.pc = k.pc ∧ k.parkMove.g = k.g ∧ k.parkMove.res = k.res
    ∧ k.parkMove.locked = k.locked ∧ k.parkMove.wait = none := by
  unfold Core.parkMove
  split
  next op acc t _ _ row _ _ _ ea _ =>
    split
    · exact ⟨rfl, rfl, rfl, rfl, rfl⟩
    · obtain ⟨p, n, recorded⟩ := k.recordMove_eq op acc t row ea
      rw [recorded]
      exact ⟨rfl, rfl, rfl, rfl, rfl⟩
  · exact ⟨rfl, rfl, rfl, rfl, rfl⟩

/-- The core as a halt leaves it. -/
def Core.haltedOf (k : Core) : Core := { k.settle.parkMove with step := false, haltReq := none, resumed := false }

theorem Core.haltedOf_keeps (k : Core) : k.haltedOf.pc = k.pc ∧ (∀ r, k.haltedOf.rd r = k.rest r) ∧ k.haltedOf.res = k.res
    ∧ k.haltedOf.locked = k.locked ∧ k.haltedOf.wait = none := by
  obtain ⟨pc, g, res, locked, wait⟩ := k.settle.parkMove_keeps
  have same : ∀ r, k.haltedOf.rd r = k.settle.rd r := fun r =>
    congrArg (fun g => ({ k with g := g } : Core).rd r) g
  refine ⟨pc.trans (by rw [k.settle_eq]), fun r => (same r).trans (k.rd_settle r), res.trans (by rw [k.settle_eq]),
    locked.trans (by rw [k.settle_eq]), wait⟩

/-- The end of a WFI adds cycles and makes the core issue. -/
theorem State.wfiEnds_core (s : State) (c : Fin 3) : ∃ r n, (s.wfiEnds c).coreAt c = { s.coreAt c with run := r, cycle := n } := by
  unfold State.wfiEnds
  split
  · have core (u : State) (n : Word) : (u.updCore c fun k => { k with run := .issuing, cycle := k.cycle + n }).coreAt c
        = { u.coreAt c with run := .issuing, cycle := (u.coreAt c).cycle + n } := by rw [State.coreAt_updCore, if_pos rfl]
    exact ⟨.issuing, _, core { s with free := s.free + 1 } _⟩
  · exact ⟨_, _, rfl⟩

/-- What the halt of core `c` leaves: the core at its boundary, its bits and its cause. -/
structure HaltShown (c : Fin 3) (cause bp : Nat) (k : Core) (t : State) : Prop where
  halted : t.bit R.DBG_STAT_HALTED c = true
  pend : t.bit R.DBG_STAT_PEND c = false
  cause : t.get (R.DBG_CAUSE_CAUSE c) = cause % 16
  bp : t.get (R.DBG_CAUSE_BP c) = bp % 8
  core : ∃ r n, t.coreAt c = { k with run := r, cycle := n }.haltedOf

theorem HaltShown.keeps {c : Fin 3} {cause bp : Nat} {k : Core} {t : State} (h : HaltShown c cause bp k t) :
    (t.coreAt c).pc = k.pc ∧ k.KeepsRegs (t.coreAt c) ∧ (t.coreAt c).res = k.res ∧ (t.coreAt c).locked = k.locked
      ∧ (t.coreAt c).wait = none := by
  obtain ⟨r, n, core⟩ := h.core
  rw [core]
  exact Core.haltedOf_keeps { k with run := r, cycle := n }

theorem State.haltOne_shows (s : State) (c : Fin 3) (cause bp : Nat) : HaltShown c cause bp (s.coreAt c) (s.haltOne c cause bp) := by
  have causes : ∀ c : Fin 3, R.DBG_CAUSE_SEQ c ≠ R.DBG_CAUSE_CAUSE c ∧ R.DBG_CAUSE_BP c ≠ R.DBG_CAUSE_CAUSE c
      ∧ R.DBG_CAUSE_SEQ c ≠ R.DBG_CAUSE_BP c ∧ R.DBG_CAUSE_CAUSE c ≠ R.DBG_STAT_HALTED ∧ R.DBG_CAUSE_BP c ≠ R.DBG_STAT_HALTED
      ∧ R.DBG_CAUSE_SEQ c ≠ R.DBG_STAT_HALTED ∧ R.DBG_CAUSE_CAUSE c ≠ R.DBG_STAT_PEND ∧ R.DBG_CAUSE_BP c ≠ R.DBG_STAT_PEND
      ∧ R.DBG_CAUSE_SEQ c ≠ R.DBG_STAT_PEND := by decide
  obtain ⟨seqCause, bpCause, seqBp, causeH, bpH, seqH, causeP, bpP, seqP⟩ := causes c
  set w := (s.wfiEnds c).updCore c Core.haltedOf with hw
  have shape : s.haltOne c cause bp = ((((w.setBit R.DBG_STAT_HALTED c).clrBit R.DBG_STAT_PEND c).set (R.DBG_CAUSE_CAUSE c)
    cause).set (R.DBG_CAUSE_BP c) bp).set (R.DBG_CAUSE_SEQ c) 0 := rfl
  rw [shape]
  refine ⟨?_, ?_, ?_, ?_, ?_⟩
  · rw [State.bit, State.get_set_ne _ seqH, State.get_set_ne _ bpH, State.get_set_ne _ causeH, State.get_clrBit_apart _ rfl]
    exact State.bit_setBit _ c.isLt
  · rw [State.bit, State.get_set_ne _ seqP, State.get_set_ne _ bpP, State.get_set_ne _ causeP]
    exact State.bit_clrBit _ c.isLt
  · rw [State.get_set_ne _ seqCause, State.get_set_ne _ bpCause, State.get_set]
    rfl
  · rw [State.get_set_ne _ seqBp, State.get_set]
    rfl
  · obtain ⟨r, n, core⟩ := s.wfiEnds_core c
    refine ⟨r, n, ?_⟩
    rw [← core]
    exact (State.coreAt_updCore ..).trans (if_pos rfl)

/-- The halts asked of the other cores leave what the halt of this one shows. -/
theorem HaltShown.askHalt {c d : Fin 3} {cause bp : Nat} {k : Core} {t : State} (h : HaltShown c cause bp k t) (hd : c ≠ d)
    (x y : Nat) : HaltShown c cause bp k (t.askHalt d x y) := by
  have causes : ∀ c : Fin 3, R.DBG_CAUSE_CAUSE c ≠ R.DBG_STAT_PEND ∧ R.DBG_CAUSE_BP c ≠ R.DBG_STAT_PEND := by decide
  obtain ⟨core, pend⟩ := State.askHalt_other (s := t) (cause := x) (bp := y) hd
  have regs := t.askHalt_regs d x y
  exact ⟨(State.bit_congr (regs _ (by decide)) c).trans h.halted, pend.trans h.pend, (regs _ (causes c).1).trans h.cause,
    (regs _ (causes c).2).trans h.bp, h.core.imp fun r hr => hr.imp fun n hn => core.trans hn⟩

theorem HaltShown.foldl_askHalt {c : Fin 3} {cause bp : Nat} {k : Core} : ∀ (l : List Nat) {t : State},
    (∀ d ∈ l, d < 3 ∧ d ≠ c) → HaltShown c cause bp k t → HaltShown c cause bp k (l.foldl (fun s k => s.askHalt k 5 0) t)
  | [], _, _, h => h
  | d :: l, _, hl, h => by
    obtain ⟨⟨hlt, hne⟩, hl⟩ := List.forall_mem_cons.mp hl
    exact HaltShown.foldl_askHalt l hl (h.askHalt (d := ⟨d, hlt⟩) (fun e => hne (congrArg Fin.val e).symm) 5 0)

theorem State.haltCore_shows (s : State) (c : Fin 3) (cause bp : Nat) :
    HaltShown c cause bp (s.coreAt c) (s.haltCore c cause bp) := by
  unfold State.haltCore
  dsimp only
  split
  · refine HaltShown.foldl_askHalt _ (fun d hd => ?_) (s.haltOne_shows c cause bp)
    have hd := List.mem_filter.mp hd
    simp only [List.mem_cons, List.not_mem_nil, or_false, decide_eq_true_eq] at hd
    omega
  · exact s.haltOne_shows c cause bp

theorem debugHalt_halts (c : Fin 3) (cause bp : Nat) (s : State) (h : (s.coreAt c).haltReq = some (cause, bp)) :
    (s.eligible c = false → exec (.debugHalt c) s = .next s)
    ∧ (s.eligible c = true → s.bit R.DBG_STAT_HALTED c = false → s.coreExists c = true → s.coreOn c = true →
        s.ply.fault = false → ((s.coreAt c).run = .issuing ∨ (s.coreAt c).run = .wfi) → cause < 16 → bp < 8 →
        ∃ t, exec (.debugHalt c) s = .next t ∧ t.bit R.DBG_STAT_HALTED c = true ∧ t.bit R.DBG_STAT_PEND c = false
          ∧ t.get (R.DBG_CAUSE_CAUSE c) = cause ∧ t.get (R.DBG_CAUSE_BP c) = bp
          ∧ (t.coreAt c).pc = (s.coreAt c).pc ∧ (s.coreAt c).KeepsRegs (t.coreAt c)) := by
  refine ⟨fun he => congrArg Host.Outcome.next ?_, fun he hh hx hon hf hrun hc hb => ⟨s.haltCore c cause bp,
    congrArg Host.Outcome.next ?_, ?_⟩⟩
  · unfold State.haltNow
    dsimp only
    rw [h]
    exact if_neg (by simp [he])
  · unfold State.haltNow
    dsimp only
    rw [h]
    refine if_pos ?_
    rcases hrun with hrun | hrun <;> simp [hx, hon, hf, hrun, he, hh]
  · have shown := s.haltCore_shows c cause bp
    obtain ⟨pc, regs, -⟩ := shown.keeps
    exact ⟨shown.halted, shown.pend, shown.cause.trans (Nat.mod_eq_of_lt hc), shown.bp.trans (Nat.mod_eq_of_lt hb), pc, regs⟩

/-! ### The end of the deferral (R451) -/

theorem State.seqKind_lt (s : State) (c : Nat) : s.seqKind c < 16 := by
  unfold State.seqKind
  dsimp only
  repeat' split
  all_goals decide

/-- A core whose sequences are abandoned has no reservation and no locked sequence. -/
theorem State.abandon_core (s : State) (c : Fin 3) : ((s.abandon c).coreAt c).res = none
    ∧ ((s.abandon c).coreAt c).locked = false := by
  have core (u : State) : (u.updCore c fun k => { k with res := none, locked := false }).coreAt c
      = { u.coreAt c with res := none, locked := false } := by rw [State.coreAt_updCore, if_pos rfl]
  have lapsed (u : State) (b : Prop) [Decidable b] : (if b then u.flcLapse else u).core = u.core := by
    split
    · exact u.flcLapse_moves.same .core (by decide)
    · rfl
  have scrapped (u : State) (b : Prop) [Decidable b] : (if b then { u with seq := { u.seq with scrap := none } } else u).core
      = u.core := by
    split <;> rfl
  unfold State.abandon
  dsimp only
  rw [State.coreAt_congr (scrapped _ _), State.coreAt_congr (lapsed _ _), core]
  exact ⟨rfl, rfl⟩

theorem debugHaltDeferralExpiry_breaks (c : Fin 3) (cause bp : Nat) (s : State) (h : (s.coreAt c).haltReq = some (cause, bp)) :
    (s.haltLocked c = false ∨ s.plyBusy = true ∨ (s.coreAt c).mustWait = true →
      exec (.debugHaltDeferralExpiry c) s = .next s)
    ∧ (s.haltLocked c = true → s.plyBusy = false → (s.coreAt c).mustWait = false → s.inSealedCall c = false →
        s.bit R.DBG_STAT_HALTED c = false →
        ∃ t, exec (.debugHaltDeferralExpiry c) s = .next t ∧ t.bit R.DBG_STAT_HALTED c = true
          ∧ t.bit R.DBG_STAT_ABANDON c = true ∧ t.get (R.DBG_CAUSE_SEQ c) = s.seqKind c
          ∧ (t.coreAt c).res = none ∧ (t.coreAt c).locked = false ∧ (t.coreAt c).wait = none) := by
  refine ⟨fun hn => congrArg Host.Outcome.next ?_, fun hl hb hw hs hh =>
    ⟨(((s.abandon c).haltCore c cause bp).setBit R.DBG_STAT_ABANDON c).set (R.DBG_CAUSE_SEQ c) (s.seqKind c),
      congrArg Host.Outcome.next ?_, ?_⟩⟩
  · unfold State.deferralEnds
    dsimp only
    rw [h]
    refine if_pos ?_
    rcases hn with hn | hn | hn <;> simp [hn]
  · unfold State.deferralEnds
    dsimp only
    rw [h]
    exact if_neg (by simp [hl, hb, hw, hs, hh])
  · have apart : ∀ c : Fin 3, R.DBG_CAUSE_SEQ c ≠ R.DBG_STAT_HALTED ∧ R.DBG_CAUSE_SEQ c ≠ R.DBG_STAT_ABANDON := by decide
    obtain ⟨res, locked⟩ := s.abandon_core c
    have shown := (s.abandon c).haltCore_shows c cause bp
    obtain ⟨-, -, res', locked', wait'⟩ := shown.keeps
    rw [res] at res'
    rw [locked] at locked'
    generalize (s.abandon c).haltCore c cause bp = u at shown res' locked' wait' ⊢
    refine ⟨?_, ?_, (State.get_set ..).trans (Nat.mod_eq_of_lt (s.seqKind_lt c)), res', locked', wait'⟩
    · rw [State.bit, State.get_set_ne _ (apart c).1, State.get_setBit_apart _ rfl]
      exact shown.halted
    · rw [State.bit, State.get_set_ne _ (apart c).2]
      exact State.bit_setBit _ c.isLt

/-! ### DBG_REGDATA (R454) -/

/-- A write of DBG_REGDATA by the debug port. -/
theorem State.dbgPut_regdata {s : State} (h : s.dbgOpen = true) (v : Nat) : s.dbgPut 0x1B024 v =
    let u := (s.capture.reply .debug .ok 0).writeRegdata v
    { u with dbg := { u.dbg with ack := 0, op := none } } := by
  have open_ : (s.capture.reply .debug .ok 0).dbgOpen = true := h
  have put : (s.capture.reply .debug .ok 0).putDbg { req := .debug, sealedW := false } 0x1B024 v
      = (s.capture.reply .debug .ok 0).writeRegdata v := if_pos open_
  rw [State.dbgPut, put]

/-- A read of DBG_REGDATA by the debug port, QUIET or not. -/
theorem State.busRead_regdata {s : State} (h0 : s.on 0 = true) (smem : Bool) :
    s.busRead .debug smem 0x4001B024 4 true
      = (.ok, (s.readRegdata false).1, (s.readRegdata false).2.reply .debug .ok (s.readRegdata false).1) := by
  have target : busTarget 0x4001B024 = .io 0x1B024 := by decide
  have read : s.ioRead .debug 0x1B024 true = (s.readRegdata false).2.reply .debug .ok (s.readRegdata false).1 := by
    have domain : frameDomain 0x1B024 = some 0 := by decide
    unfold State.ioRead
    rw [domain]
    exact if_pos h0
  unfold State.busRead
  rw [target]
  change s.busIoRead .debug 0x1B024 4 true = _
  unfold State.busIoRead
  dsimp only
  rw [if_pos (.inl (le_refl 4)), read, State.resp_reply]
  rfl

/-- A QUIET read of DBG_REGDATA with no operation in hand. -/
theorem State.apScan_regdata {s : State} (h : s.dbg.op = none) (h0 : s.on 0 = true) (hr : s.rst.asserted = false) :
    (s.apScan fun s => s.dbgRead false 0x4001B024) =
      let u := (s.capture.readRegdata false).2
      { u.reply .debug .ok (s.capture.readRegdata false).1 with
        dbg := { u.dbg with ack := 0, data := (s.capture.readRegdata false).1, op := none } } := by
  have always : s.capture.dbgMay 0x4001B024 = true := State.dbgMay_always (by decide) _
  have on : s.capture.on 0 = true := h0
  have up : s.capture.rst.asserted = false := hr
  rw [State.apScan_idle h, State.dbgRead_answered (a := 0x4001B024) always up false (State.busRead_regdata on _)]
  rfl

/-- With DBG_REGSEL at register `n` of core `c`: the register of a halted core, and no other. -/
theorem State.readRegdata_general {s : State} {c : Fin 3} {n : Fin 32} (hc : s.get R.DBG_REGSEL_CORE = c.val)
    (hk : s.get R.DBG_REGSEL_KIND = 0) (hn : s.get R.DBG_REGSEL_NUM = n.val) :
    (s.bit R.DBG_STAT_HALTED c = true → s.readRegdata false = (((s.coreAt c).rd n).toNat, s))
    ∧ (s.bit R.DBG_STAT_HALTED c = false → s.readRegdata false = (0, s.set R.DBG_STAT_REGERR 1)) := by
  have reg : s.dbgReg c = some ((s.coreAt c).rd n) := by
    unfold State.dbgReg
    dsimp only
    rw [hk, hn]
    exact dif_pos n.isLt
  unfold State.readRegdata
  dsimp only
  rw [hc]
  refine ⟨fun h => ?_, fun h => ?_⟩
  · rw [if_pos h, reg]
  · rw [h]
    rfl

theorem State.writeRegdata_general {s : State} {c : Fin 3} {n : Fin 32} (hc : s.get R.DBG_REGSEL_CORE = c.val)
    (hk : s.get R.DBG_REGSEL_KIND = 0) (hn : s.get R.DBG_REGSEL_NUM = n.val) (v : Word) :
    (s.bit R.DBG_STAT_HALTED c = true → s.writeRegdata v.toNat = s.updCore c fun k => k.wr n v)
    ∧ (s.bit R.DBG_STAT_HALTED c = false → s.writeRegdata v.toNat = s.set R.DBG_STAT_REGERR 1) := by
  have reg : s.dbgReg c = some ((s.coreAt c).rd n) := by
    unfold State.dbgReg
    dsimp only
    rw [hk, hn]
    exact dif_pos n.isLt
  unfold State.writeRegdata
  dsimp only
  rw [hc]
  refine ⟨fun h => ?_, fun h => if_pos (by rw [h]; rfl)⟩
  rw [if_neg (by rw [h, reg]; exact Bool.false_ne_true), hk, hn, BitVec.ofNat_toNat, BitVec.setWidth_eq]
  exact dif_pos n.isLt

/-- A general register written between two records of the debug port. -/
theorem State.updCore_wr_answered (s : State) (c : Fin 3) (n : Fin 32) (v : Word) (d e : DbgSt) (p : Bank BusResp 6) :
    let t : State := { ({ s with dbg := d, resp := p } : State).updCore c (fun k => k.wr n v) with dbg := e }
    CoreOnly c { s with dbg := e, resp := p } t
      ∧ ∀ r, (t.coreAt c).rd r = if r = 0 then 0 else if r = n then v else (s.coreAt c).rd r := by
  intro t
  have core : t.coreAt c = (s.coreAt c).wr n v := 
    (State.coreAt_updCore { s with dbg := e, resp := p } c c fun k => k.wr n v).trans (if_pos rfl)
  refine ⟨CoreOnly.updCore { s with dbg := e, resp := p } c fun k => k.wr n v, fun r => ?_⟩
  rw [core, Core.rd_wr]

theorem State.capture_reply (s : State) : s.capture.reply .debug .ok 0
    = { s with dbg := s.capture.dbg, resp := (s.reply .debug .ok 0).resp } := rfl

theorem debugRegisterAccess_reaches (c : Fin 3) (n : Fin 32) (v : Word) (s : State) (h : s.dbg.op = none) (h0 : s.on 0 = true)
    (hr : s.rst.asserted = false) (ho : s.dbgOpen = true) (hc : s.get R.DBG_REGSEL_CORE = c.val)
    (hk : s.get R.DBG_REGSEL_KIND = 0) (hn : s.get R.DBG_REGSEL_NUM = n.val) :
    (s.bit R.DBG_STAT_HALTED c = true →
      (∃ t, exec (.debugRegisterAccess false v) s = .next t ∧ t.dbg.data = ((s.coreAt c).rd n).toNat ∧ t.core = s.core)
      ∧ ∃ t, exec (.debugRegisterAccess true v) s = .next t ∧ CoreOnly c { s with dbg := t.dbg, resp := t.resp } t
          ∧ ∀ r, (t.coreAt c).rd r = if r = 0 then 0 else if r = n then v else (s.coreAt c).rd r)
    ∧ (s.bit R.DBG_STAT_HALTED c = false →
      (∃ t, exec (.debugRegisterAccess false v) s = .next t ∧ t.dbg.data = 0 ∧ t.flag R.DBG_STAT_REGERR = true
        ∧ t.core = s.core)
      ∧ ∃ t, exec (.debugRegisterAccess true v) s = .next t ∧ t.flag R.DBG_STAT_REGERR = true ∧ t.core = s.core) := by
  have read : exec (.debugRegisterAccess false v) s = .next _ :=
    congrArg Host.Outcome.next (State.apScan_regdata h h0 hr)
  have write : exec (.debugRegisterAccess true v) s = .next _ := congrArg Host.Outcome.next
    ((State.apScan_put h h0 hr (x := 0x1B024) (by decide) v.isLt).trans (State.dbgPut_regdata ho v.toNat))
  obtain ⟨readHalted, readRunning⟩ := State.readRegdata_general (s := s.capture) hc hk hn
  obtain ⟨writeHalted, writeRunning⟩ := State.writeRegdata_general (s := s.capture.reply .debug .ok 0) hc hk hn v
  refine ⟨fun hh => ⟨⟨_, read, ?_, ?_⟩, _, write, ?_⟩, fun hh => ⟨⟨_, read, ?_⟩, _, write, ?_⟩⟩
  · rw [readHalted hh]
    rfl
  · rw [readHalted hh]
    rfl
  · rw [writeHalted hh]
    rw [s.capture_reply]
    exact s.updCore_wr_answered c n v _ _ _
  · rw [readRunning hh]
    exact ⟨rfl, State.flag_set_one _ rfl, rfl⟩
  · rw [writeRunning hh]
    exact ⟨State.flag_set_one _ rfl, rfl⟩

/-! ### Bursts (R452) -/

/-- The state in which a burst begins. -/
def State.burstBegun (s : State) (n : Nat) : State :=
  ((s.set R.DBG_BURSTCTL_COUNT n).set R.DBG_BURSTCTL_DONE 0).set R.DBG_BURSTCTL_ERR 0

theorem State.get_burstBegun (s : State) (n : Nat) {f : Fld} (h : [R.DBG_BURSTCTL_COUNT, R.DBG_BURSTCTL_DONE,
    R.DBG_BURSTCTL_ERR].all (·.apart f) = true) : (s.burstBegun n).get f = s.get f := by
  simp only [List.all_cons, List.all_nil, Bool.and_true, Bool.and_eq_true] at h
  obtain ⟨hc, hd, he⟩ := h
  rw [State.burstBegun, State.get_set_apart _ he, State.get_set_apart _ hd, State.get_set_apart _ hc]

theorem State.dbgOpen_congr {s t : State} (hl : t.lcState = s.lcState) (hg : t.flag R.DBG_AUTH_GRANTED = s.flag R.DBG_AUTH_GRANTED) :
    t.dbgOpen = s.dbgOpen := by
  unfold State.dbgOpen
  rw [hl, hg]

/-- A burst of one write sets DONE after it (R452). -/
theorem State.burstGo_one {s w : State} {v a : Nat} (ho : s.dbgOpen = true) (hg : v.testBit 8 = true) (hc : v % 8 ≤ 1)
    (ha : a = s.get (R.DBG_BURST_ADDR 0) / 4 * 4)
    (hb : (s.burstBegun (v % 8)).busWrite .debug s.dbgSmem a 4 (s.get (R.DBG_BURST_DATA 0)) = (.ok, w)) :
    s.burstGo v = w.set R.DBG_BURSTCTL_DONE 1 := by
  have one : List.range (burstCount (v % 8)) = [0] := by
    rcases Nat.le_one_iff_eq_zero_or_eq_one.mp hc with h | h <;> rw [h] <;> rfl
  have may : (s.burstBegun (v % 8)).dbgMay a = true := by
    have opened : (s.burstBegun (v % 8)).dbgOpen = true :=
      (State.dbgOpen_congr (s.get_burstBegun _ rfl) (State.flag_congr (s.get_burstBegun _ rfl))).trans ho
    rw [State.dbgMay, opened, Bool.or_true]
  have smem : (s.burstBegun (v % 8)).dbgSmem = s.dbgSmem := State.flag_congr (s.get_burstBegun _ rfl)
  have begun : s.burstGo v = State.burst (List.range (burstCount (v % 8))) (s.burstBegun (v % 8)) := if_pos hg
  rw [begun, one, State.burst, s.get_burstBegun (f := R.DBG_BURST_ADDR 0) _ rfl,
    s.get_burstBegun (f := R.DBG_BURST_DATA 0) _ rfl, ← ha]
  dsimp only
  rw [if_pos may, smem, hb]
  rfl

theorem debugBurst_one (a : Nat) (v : Word) (w : State) (s : State) (h : s.dbg.op = none) (_h0 : s.on 0 = true)
    (hr : s.rst.asserted = false) (ho : s.dbgOpen = true) (hg : v.toNat.testBit 8 = true) (hc : v.toNat % 8 ≤ 1)
    (ha : a = s.get (R.DBG_BURST_ADDR 0) / 4 * 4)
    (hb : ((s.capture.set R.DBG_BURSTCTL_COUNT (v.toNat % 8)).set R.DBG_BURSTCTL_DONE 0 |>.set R.DBG_BURSTCTL_ERR 0).busWrite
      .debug s.dbgSmem a 4 (s.get (R.DBG_BURST_DATA 0)) = (.ok, w)) :
    ∃ t, exec (.debugBurst v) s = .next t ∧ t.get R.DBG_BURSTCTL_DONE = 1 ∧ t.core = w.core ∧ t.mem = w.mem := by
  have go : s.capture.burstGo v.toNat = w.set R.DBG_BURSTCTL_DONE 1 :=
    State.burstGo_one (s := s.capture) ho hg hc ha hb
  have always : s.capture.dbgMay 0x4001B0A0 = true := State.dbgMay_always (by decide) _
  have written : s.capture.dbgWrite 0x4001B0A0 v.toNat
      = (s.capture.burstGo v.toNat).dbgDone { write := true, addr := 0x4001B0A0, val := v.toNat } .ok s.capture.dbg.data := by
    have up : s.capture.rst.asserted = false := hr
    unfold State.dbgWrite
    dsimp only
    rw [if_neg (by simp [always, up]), if_pos (by decide)]
  refine ⟨(w.set R.DBG_BURSTCTL_DONE 1).dbgDone { write := true, addr := 0x4001B0A0, val := v.toNat } .ok s.capture.dbg.data,
    congrArg Host.Outcome.next ((State.apScan_idle h _).trans (written.trans (by rw [go]))), ?_, rfl, rfl⟩
  exact State.get_set w R.DBG_BURSTCTL_DONE 1

/-- Settles O57: a write of DBG_CTRL by a fold over the cores, a halt by what it leaves, and each access to a register by
the halt of its core. -/
theorem debugCores : Obligations.DebugCores :=
  ⟨debugCtrl_acts, debugHalt_halts, debugHaltDeferralExpiry_breaks, debugRegisterAccess_reaches, debugBurst_one⟩

end Sys2Proof.Machine
end

section
/-!
PROOFS of the statement on the sealed world (O38, R293 to R302): gate calls and their return, WG_INFO and the unassigned
index, the sealed watchdog, a reload, and the end of a load.
-/

namespace Sys2Proof.Machine

/-! ### The end of an instruction that writes registers (R195) -/

/-- The core after an instruction that starts no load: the effect's core but for the registers and the fetch's MPU sets. -/
theorem Core.ended_shape (k : Core) {j : Core} (h : j.ldNext = none) (dests : List (Fin 32)) :
    ∃ g, k.ended j dests = { j with g := g, ld := none, ldNext := none, fetchO := k.mpuO, fetchS := k.mpuS } := by
  unfold Core.ended
  cases k.ld with
  | none => exact ⟨j.g, by dsimp only; rw [h]⟩
  | some x =>
    dsimp only
    split
    · exact ⟨j.g, by rw [h]⟩
    · refine ⟨(j.wr x.1 x.2).g, ?_⟩
      rw [j.wr_eq]
      dsimp only
      rw [h]

/-- A register that the instruction writes has its value, and any other what the load before leaves. -/
theorem Core.rd_ended {k j : Core} {dests : List (Fin 32)} (h : j.ldNext = none) (hg : ∀ r, r ∉ dests → j.rd r = k.rd r)
    (r : Fin 32) : (k.ended j dests).rd r = if r ∈ dests then j.rd r else k.rest r := by
  have registers {u v : Core} (e : u.g = v.g) : u.rd r = v.rd r := by rw [Core.rd, e, Core.rd]
  unfold Core.ended
  cases hl : k.ld with
  | none =>
    refine (registers (v := j) rfl).trans ?_
    split
    · rfl
    · next hr => rw [hg r hr, Core.rest, hl]
  | some x =>
    obtain ⟨q, w⟩ := x
    have still : ¬ (q ∈ dests ∨ j.ldNext.map Prod.fst = some q) ↔ q ∉ dests := by simp [h]
    by_cases hq : q ∈ dests
    · refine (registers (v := j) (by simp [hq])).trans ?_
      split
      · rfl
      · next hr =>
        have apart : q ≠ r := fun e => hr (e ▸ hq)
        rw [hg r hr, Core.rest, hl]
        simp [apart]
    · refine (registers (v := j.wr q w) (by simp [hq, h])).trans ?_
      rw [Core.rd_wr, Core.rest, hl]
      by_cases h0 : r = 0
      · subst h0
        simp [Core.rd]
      · by_cases hr : r ∈ dests
        · have apart : r ≠ q := fun e => hq (e ▸ hr)
          simp [h0, hr, apart]
        · simp [h0, hr, hg r hr, eq_comm]

/-- An instruction of no cycles that writes `dests` and starts no load or step. -/
theorem State.Ready.writes {s : State} {c : Fin 3} (h : s.Ready c) {dests : List (Fin 32)} {f : Core → Core}
    (hs : (f ((s.coreAt c).issued 0)).step = (s.coreAt c).step) (hl : (f ((s.coreAt c).issued 0)).ldNext = none)
    (hg : ∀ r, r ∉ dests → (f ((s.coreAt c).issued 0)).rd r = (s.coreAt c).rd r) :
    CoreOnly c s ((s.cycles c 0).complete c dests f)
      ∧ (∃ g l a b, ((s.cycles c 0).complete c dests f).coreAt c
        = { f ((s.coreAt c).issued 0) with g := g, ld := none, ldNext := l, fetchO := a, fetchS := b })
      ∧ ∀ r, (((s.cycles c 0).complete c dests f).coreAt c).rd r
        = if r ∈ dests then (f ((s.coreAt c).issued 0)).rd r else (s.coreAt c).rest r := by
  have core : ((s.cycles c 0).complete c dests f).coreAt c = (s.coreAt c).ended (f ((s.coreAt c).issued 0)) dests := by
    rw [h.complete 0 dests hs, State.coreAt_updCore, if_pos rfl, Core.retire_eq]
  obtain ⟨g, shape⟩ := (s.coreAt c).ended_shape hl dests
  rw [core]
  refine ⟨?_, ⟨g, _, _, _, shape⟩, Core.rd_ended hl hg⟩
  rw [h.complete 0 dests hs]
  exact CoreOnly.updCore ..

theorem Core.spent_exl (k : Core) (n : Nat) : (k.spent n).exl = k.exl := rfl

/-! ### Refused gate calls (R296) -/

/-- What a refusal does to the core: the status in g1, the next instruction, 40 cycles. -/
def Core.refused (st : Nat) (k : Core) : Core :=
  { (k.wr 1 (BitVec.ofNat 32 st)).next with res := none, locked := false, cycle := k.cycle + 40 }

theorem exec_wgateEntry {c : Fin 3} {s : State} (h : s.Ready c) (hx : (s.coreAt c).exl = false) (hw : (s.coreAt c).world = false)
    (n : Fin 64) : exec (.wgateEntry c n) s = .next (match s.gateStatus c n with
      | some st => (s.cycles c 0).gateRefuse c st
      | none => (s.cycles c 0).enterGate n) := by
  refine congrArg Host.Outcome.next ((h.issue 0 _).trans ?_)
  dsimp only
  rw [State.coreAt_cycles, if_neg (by rw [Core.spent_exl, hx]; exact Bool.false_ne_true),
    if_neg (show ¬ ((s.coreAt c).spent 0).world = true by
      rw [show ((s.coreAt c).spent 0).world = (s.coreAt c).world from rfl, hw]
      exact Bool.false_ne_true)]
  rfl

theorem wgateEntry_refused (c : Fin 3) (n : Fin 64) (st : Nat) (s : State) (h : s.Ready c) (hx : (s.coreAt c).exl = false)
    (hw : (s.coreAt c).world = false) (hg : s.gateStatus c n = some st) :
    ∃ t, exec (.wgateEntry c n) s = .next t ∧ CoreOnly c s t ∧ (t.coreAt c).pc = (s.coreAt c).pc + 4
      ∧ (t.coreAt c).cycle = (s.coreAt c).cycle + 40 ∧ (t.coreAt c).world = false
      ∧ ∀ r, (t.coreAt c).rd r = if r = 1 then BitVec.ofNat 32 st else (s.coreAt c).rest r := by
  have shape (k : Core) : Core.refused st k = { k with g := (k.wr 1 (BitVec.ofNat 32 st)).g, pc := k.pc + 4, res := none, locked := false, cycle := k.cycle + 40 } := by
    rw [Core.refused, Core.next, k.wr_eq]
  have rd (k : Core) (r : Fin 32) : (Core.refused st k).rd r = (k.wr 1 (BitVec.ofNat 32 st)).rd r := rfl
  obtain ⟨only, ⟨g, l, a, b, core⟩, regs⟩ := h.writes (dests := [1]) (f := Core.refused st) (by rw [shape]; rfl)
    (by rw [shape]; rfl) fun r hr => by
      rw [rd, Core.rd_wr, Core.issued_rd]
      by_cases h0 : r = 0
      · rw [h0]
        rfl
      · rw [if_neg h0, if_neg (by simpa using hr)]
  refine ⟨(s.cycles c 0).complete c [1] (Core.refused st), (exec_wgateEntry h hx hw n).trans (by rw [hg]; rfl), only, ?_, ?_, ?_,
    fun r => (regs r).trans ?_⟩
  · rw [core, shape]
    rfl
  · rw [core, shape]
    exact congrArg (· + 40) (BitVec.add_zero _)
  · rw [core, shape]
    exact hw
  · rw [rd, Core.rd_wr]
    by_cases h1 : r = 1
    · subst h1
      rfl
    · rw [if_neg (by simpa using h1), if_neg h1]

theorem gateStatus_refuses (c n : Nat) (s : State) : (s.flag R.WLD_STAT_RESTARTING = true → s.gateStatus c n = some 2)
    ∧ (s.flag R.WLD_STAT_RESTARTING = false → s.gateStatus c n ≠ none →
        s.gateStatus c n = some 1 ∧ (s.flag R.WLD_STAT_LOADED = false ∨ s.get R.WLD_NGATE ≤ n
          ∨ (s.wld.gates.getD n 0).testBit 0 = false ∨ c ≠ 0)) := by
  refine ⟨fun h => if_pos h, fun h hn => ?_⟩
  unfold State.gateStatus at hn ⊢
  rw [if_neg (by simp [h])] at hn ⊢
  split at hn
  · next hc =>
    rw [if_pos hc]
    refine ⟨rfl, ?_⟩
    simpa [or_assoc] using hc
  · exact absurd rfl hn

/-! ### An accepted gate call (R297) -/

theorem State.switchWorld_core (s : State) : ∃ l, s.switchWorld.coreAt 0 = { s.coreAt 0 with cache := l } := by
  unfold State.switchWorld
  split
  · exact ⟨[], (State.coreAt_updCore s 0 0 _).trans (if_pos rfl)⟩
  · exact ⟨_, rfl⟩

theorem State.stepEnd_still {s : State} {c : Nat} (h : (s.coreAt c).step = false) : s.stepEnd c = s := if_neg (by simp [h])

theorem State.stepEnd_switchWorld {s : State} (h : (s.coreAt 0).step = false) : s.switchWorld.stepEnd 0 = s.switchWorld := by
  obtain ⟨l, core⟩ := s.switchWorld_core
  exact State.stepEnd_still (by rw [core]; exact h)

/-- The context that an accepted call saves. -/
def Core.atReturn (k : Core) : Core := { k with pc := k.pc + 4, fromEret := false, fresh := false, resumed := false }

/-- The state in which gate `n` is entered and the world not yet switched. -/
def State.gateEntered (s : State) (n cost : Nat) : State :=
  let s := s.updCore 0 Core.settle
  let s := { s with wld := { s.wld with saved := some (s.coreAt 0).atReturn, gate := n } }
  s.updCore 0 fun k => k.enterSealed (BitVec.ofNat 32 (s.wld.gates.getD n 0)) s.wld.wp s.wld.sp cost

theorem State.enterGate_eq (s : State) (n : Nat) : s.enterGate n = (s.gateEntered n (128 + 8 * ((s.updCore 0 Core.settle).coreAt
    0).tilesUsed + (s.updCore 0 Core.settle).flushCost)).switchWorld.stepEnd 0 := rfl

theorem State.gateEntered_core (s : State) (n cost : Nat) : (s.gateEntered n cost).coreAt 0
    = (s.coreAt 0).settle.enterSealed (BitVec.ofNat 32 (s.wld.gates.getD n 0)) s.wld.wp s.wld.sp cost := by
  have settled (u : State) : (u.updCore 0 Core.settle).coreAt 0 = (u.coreAt 0).settle :=
    (State.coreAt_updCore u 0 0 _).trans (if_pos rfl)
  refine (State.coreAt_updCore _ 0 0 _).trans ((if_pos rfl).trans ?_)
  exact congrArg (fun k : Core => k.enterSealed (BitVec.ofNat 32 (s.wld.gates.getD n 0)) s.wld.wp s.wld.sp cost) (settled s)

theorem State.gateEntered_wld (s : State) (n cost : Nat) : (s.gateEntered n cost).wld
    = { s.wld with saved := some (s.coreAt 0).settle.atReturn, gate := n } := by
  have settled : (s.updCore 0 Core.settle).coreAt 0 = (s.coreAt 0).settle := (State.coreAt_updCore s 0 0 _).trans (if_pos rfl)
  rw [← settled]
  rfl

theorem State.gateEntered_moves (s : State) (n cost : Nat) : Moves (partsOf [.core, .wld]) s (s.gateEntered n cost) := by
  unfold State.gateEntered
  refine .step ?_ (State.updCore_moves ..) (by decide)
  refine .step ?_ (State.upd_wld_moves ..) (by decide)
  exact (State.updCore_moves ..).mono (by decide)

theorem Core.rd_enterSealed (k : Core) (pc wp sp : Word) (cost : Nat) (r : Fin 32) : (k.enterSealed pc wp sp cost).rd r
    = if 1 ≤ r.val ∧ r.val ≤ 6 then k.rd r else if r = 28 then wp else if r = 30 then sp else 0 := by
  by_cases h0 : r = 0
  · subst h0
    rfl
  · simp [Core.rd, Core.enterSealed, h0]

/-- The fields of a core that a gate has let in. -/
theorem Core.enterSealed_fields (k : Core) (pc wp sp : Word) (cost : Nat) :
    let j := k.enterSealed pc wp sp cost
    j.step = k.step ∧ j.world = true ∧ j.ie = false ∧ j.pc = pc &&& 0xFFFFFFFC ∧ j.save = some (k.pc + 4, k.world)
      ∧ j.cycle = k.cycle + BitVec.ofNat 32 cost := by
  simp only [Core.enterSealed, and_self]

/-- What an accepted gate call leaves, where no step is in progress. -/
theorem State.enterGate_shows {s : State} {k : Core} (hk : s.coreAt 0 = k) (hs : k.step = false) (n : Nat) :
    (∃ l, (s.enterGate n).coreAt 0 = { k.settle.enterSealed (BitVec.ofNat 32 (s.wld.gates.getD n 0)) s.wld.wp s.wld.sp
        (128 + 8 * k.tilesUsed + s.flushCost) with cache := l })
      ∧ (s.enterGate n).wld = { s.wld with saved := some k.settle.atReturn, gate := n }
      ∧ Moves (partsOf [.core, .wld]) s (s.enterGate n) := by
  have settled : (s.updCore 0 Core.settle).coreAt 0 = k.settle :=
    (State.coreAt_updCore s 0 0 _).trans ((if_pos rfl).trans (congrArg Core.settle hk))
  have tiles : k.settle.tilesUsed = k.tilesUsed := by
    rw [k.settle_eq]
    rfl
  have flush : (s.updCore 0 Core.settle).flushCost = s.flushCost := rfl
  have entered := s.gateEntered_core n (128 + 8 * k.tilesUsed + s.flushCost)
  rw [hk] at entered
  have noStep : ((s.gateEntered n (128 + 8 * k.tilesUsed + s.flushCost)).coreAt 0).step = false := by
    rw [entered, (Core.enterSealed_fields ..).1, Core.settle_step, hs]
  rw [State.enterGate_eq, settled, tiles, flush, State.stepEnd_switchWorld noStep]
  obtain ⟨l, switched⟩ := (s.gateEntered n (128 + 8 * k.tilesUsed + s.flushCost)).switchWorld_core
  refine ⟨⟨l, by rw [switched, entered]⟩, ?_, (State.gateEntered_moves ..).step (State.switchWorld_moves _) (by decide)⟩
  rw [(State.switchWorld_moves _).same .wld (by decide), State.gateEntered_wld, hk]

theorem wgateEntry_enters (n : Fin 64) (s : State) (h : s.Ready 0) (hx : (s.coreAt 0).exl = false)
    (hw : (s.coreAt 0).world = false) (hg : s.gateStatus 0 n = none) :
    ∃ t, exec (.wgateEntry 0 n) s = .next t ∧ (t.coreAt 0).world = true ∧ (t.coreAt 0).ie = false
      ∧ (t.coreAt 0).pc = BitVec.ofNat 32 (s.wld.gates.getD n 0) &&& 0xFFFFFFFC
      ∧ (∀ r : Fin 32, (t.coreAt 0).rd r = if 1 ≤ r.val ∧ r.val ≤ 6 then (s.coreAt 0).rest r
          else if r = 28 then s.wld.wp else if r = 30 then s.wld.sp else 0)
      ∧ (t.coreAt 0).save = some ((s.coreAt 0).pc + 4, false)
      ∧ (t.coreAt 0).cycle = (s.coreAt 0).cycle + BitVec.ofNat 32 (128 + 8 * (s.coreAt 0).tilesUsed + s.flushCost)
      ∧ t.wld.gate = n.val ∧ (∃ k, t.wld.saved = some k ∧ k.pc = (s.coreAt 0).pc + 4 ∧ k.world = false
          ∧ (s.coreAt 0).KeepsRegs k)
      ∧ OnlyIn [.core, .wld] s t := by
  have spent : (s.cycles 0 0).coreAt 0 = (s.coreAt 0).spent 0 := State.coreAt_cycles s 0 0
  have next : exec (.wgateEntry 0 n) s = .next ((s.cycles 0 0).enterGate n) := by
    refine (exec_wgateEntry h hx hw n).trans ?_
    rw [show s.gateStatus (0 : Fin 3) n = none from hg]
    rfl
  obtain ⟨⟨l, core⟩, wld, moved⟩ := State.enterGate_shows spent h.noStep n
  have onWorld : (s.cycles 0 0).wld = s.wld := (s.cycles_moves 0 0).same .wld (by decide)
  have flush : (s.cycles 0 0).flushCost = s.flushCost := rfl
  rw [onWorld, flush] at core
  rw [onWorld] at wld
  have only : OnlyIn [.core, .wld] s ((s.cycles 0 0).enterGate n) :=
    Moves.onlyIn (K := partsOf [.core, .wld]) _ (((State.cycles_moves s 0 0).mono (by decide)).step moved (by decide)) (by decide)
  generalize (s.cycles 0 0).enterGate n = t at next core wld only
  have settled := ((s.coreAt 0).spent 0).settle_eq
  have rest := ((s.coreAt 0).spent 0).rd_settle
  generalize ((s.coreAt 0).spent 0).settle = k at core wld settled rest
  have shape : k.pc = (s.coreAt 0).pc ∧ k.world = (s.coreAt 0).world ∧ k.cycle = (s.coreAt 0).cycle + BitVec.ofNat 32 0 := by
    rw [settled]
    exact ⟨rfl, rfl, rfl⟩
  obtain ⟨pc, world, cycle⟩ := shape
  have regs := k.rd_enterSealed (BitVec.ofNat 32 (s.wld.gates.getD n 0)) s.wld.wp s.wld.sp
    (128 + 8 * ((s.coreAt 0).spent 0).tilesUsed + s.flushCost)
  obtain ⟨-, inWorld, ie, entry, save, spentCycles⟩ := k.enterSealed_fields (BitVec.ofNat 32 (s.wld.gates.getD n 0)) s.wld.wp s.wld.sp
    (128 + 8 * ((s.coreAt 0).spent 0).tilesUsed + s.flushCost)
  generalize k.enterSealed _ _ _ _ = j at core regs inWorld ie entry save spentCycles
  refine ⟨t, next, ?_⟩
  rw [core]
  refine ⟨inWorld, ie, entry, fun r => ?_, ?_, ?_, by rw [wld],
    ⟨k.atReturn, by rw [wld], congrArg (· + 4) pc, world.trans hw, rest⟩, only⟩
  · refine (regs r).trans ?_
    rw [rest]
    rfl
  · refine save.trans ?_
    rw [pc, world, hw]
  · refine spentCycles.trans ?_
    rw [cycle, BitVec.add_zero]
    rfl

/-! ### The return of a gate call (R298) -/

/-- The registers of a reopened core: the status in g1, the sealed results in g2 to g6, the rest from the OPEN context. -/
theorem Core.rd_reopen (cur old : Core) (status cost : Nat) (r : Fin 32) : (cur.reopen old status cost).rd r
    = if r = 0 then 0 else if r = 1 then BitVec.ofNat 32 status
      else if r.val ≤ 6 then (if status = 0 then cur.rd r else 0) else old.rd r := by
  have registers : (cur.reopen old status cost).rd r = ((((((old.wr 1 (BitVec.ofNat 32 status)).wr 2
      (if status = 0 then cur.rd 2 else 0)).wr 3 (if status = 0 then cur.rd 3 else 0)).wr 4
      (if status = 0 then cur.rd 4 else 0)).wr 5 (if status = 0 then cur.rd 5 else 0)).wr 6
      (if status = 0 then cur.rd 6 else 0)).rd r := by
    simp only [Core.rd, Core.reopen]
  rw [registers]
  simp only [Core.rd_wr]
  by_cases h0 : r = 0
  · simp [h0]
  · by_cases hr : r.val ≤ 6
    · have small : r = 1 ∨ r = 2 ∨ r = 3 ∨ r = 4 ∨ r = 5 ∨ r = 6 := by
        have positive : r.val ≠ 0 := fun h => h0 (Fin.ext h)
        omega
      rcases small with rfl | rfl | rfl | rfl | rfl | rfl <;> rfl
    · have large : r ≠ 1 ∧ r ≠ 2 ∧ r ≠ 3 ∧ r ≠ 4 ∧ r ≠ 5 ∧ r ≠ 6 := by
        refine ⟨?_, ?_, ?_, ?_, ?_, ?_⟩ <;> (rintro rfl; exact hr (by decide))
      obtain ⟨h1, h2, h3, h4, h5, h6⟩ := large
      simp [h0, hr, h1, h2, h3, h4, h5, h6]

theorem Core.wr_keeps (k : Core) (r : Fin 32) (v : Word) : (k.wr r v).pc = k.pc ∧ (k.wr r v).world = k.world := by
  rw [k.wr_eq]
  exact ⟨rfl, rfl⟩

/-- The fields of a reopened core. -/
theorem Core.reopen_fields (cur old : Core) (status cost : Nat) :
    let j := cur.reopen old status cost
    j.pc = old.pc ∧ j.world = old.world ∧ j.step = cur.step ∧ j.save = none := by
  simp only [Core.reopen, Core.wr_keeps, and_self]

/-- The state in which the call of the OPEN context `old` has ended, and a load that waits for it has not begun. -/
def State.callEnded (s : State) (old : Core) (status base : Nat) : State :=
  let cost := base + 8 * old.tilesUsed + s.flushCost
  let s := s.updCore 0 fun k => k.reopen old status cost
  { s with wld := { s.wld with saved := none } }.switchWorld

theorem State.endCall_eq {s : State} {old : Core} (h : s.wld.saved = some old) (status base : Nat) :
    s.endCall status base = (s.callEnded old status base).afterCall := by
  unfold State.endCall
  rw [h]
  rfl

theorem State.callEnded_shows (s : State) (old : Core) (status base : Nat) :
    (∃ l cost, (s.callEnded old status base).coreAt 0 = { (s.coreAt 0).reopen old status cost with cache := l })
      ∧ (s.callEnded old status base).wld = { s.wld with saved := none }
      ∧ Moves (partsOf [.core, .wld]) s (s.callEnded old status base) := by
  set u := s.updCore 0 fun k => k.reopen old status (base + 8 * old.tilesUsed + s.flushCost) with hu
  have core : u.coreAt 0 = (s.coreAt 0).reopen old status (base + 8 * old.tilesUsed + s.flushCost) :=
    (State.coreAt_updCore s 0 0 _).trans (if_pos rfl)
  set v : State := { u with wld := { u.wld with saved := none } } with hv
  have ended : s.callEnded old status base = v.switchWorld := rfl
  obtain ⟨l, switched⟩ := v.switchWorld_core
  rw [ended]
  refine ⟨⟨l, _, by rw [switched, hv]; exact congrArg (fun k : Core => { k with cache := l }) core⟩,
    (v.switchWorld_moves).same .wld (by decide), ?_⟩
  exact (((State.updCore_moves s 0 _).mono (by decide)).step (State.upd_wld_moves ..) (by decide)).step
    (State.switchWorld_moves _) (by decide)

theorem State.afterCall_still {s : State} (h : s.wld.waiting = none) : s.afterCall = s := by
  unfold State.afterCall
  rw [h]

theorem exec_wgateReturn {s : State} (h : s.Ready 0) (hx : (s.coreAt 0).exl = false) (hw : (s.coreAt 0).world = true) :
    exec (.wgateReturn 0) s = .next ((((s.cycles 0 0).updCore 0 Core.settle).endCall 0 112).stepEnd 0) := by
  have spent : (s.cycles 0 0).coreAt 0 = (s.coreAt 0).spent 0 := State.coreAt_cycles s 0 0
  refine congrArg Host.Outcome.next ((State.Ready.issue (c := 0) h 0 _).trans ?_)
  dsimp only
  change (if ((s.cycles 0 0).coreAt 0).exl then _ else if ((s.cycles 0 0).coreAt 0).world then _ else _) = _
  rw [spent, if_neg (by rw [Core.spent_exl, hx]; exact Bool.false_ne_true)]
  exact if_pos hw

theorem wgateReturn_reopens (old : Core) (s : State) (h : s.Ready 0) (hx : (s.coreAt 0).exl = false)
    (hw : (s.coreAt 0).world = true) (ho : s.wld.saved = some old) (hn : s.wld.waiting = none) :
    ∃ t, exec (.wgateReturn 0) s = .next t ∧ (t.coreAt 0).pc = old.pc ∧ (t.coreAt 0).world = old.world
      ∧ (t.coreAt 0).rd 1 = 0 ∧ (∀ r : Fin 32, 2 ≤ r.val → r.val ≤ 6 → (t.coreAt 0).rd r = (s.coreAt 0).rest r)
      ∧ (∀ r : Fin 32, 7 ≤ r.val → (t.coreAt 0).rd r = old.rd r) ∧ t.wld.saved = none ∧ (t.coreAt 0).save = none
      ∧ OnlyIn [.core, .wld] s t := by
  set u := (s.cycles 0 0).updCore 0 Core.settle with hu
  have settled : u.coreAt 0 = ((s.coreAt 0).spent 0).settle :=
    (State.coreAt_updCore _ 0 0 _).trans ((if_pos rfl).trans (congrArg Core.settle (State.coreAt_cycles s 0 0)))
  have toSettled : Moves (partsOf [.core, .wld]) s u :=
    ((State.cycles_moves s 0 0).mono (by decide)).step (State.updCore_moves _ 0 Core.settle) (by decide)
  have onWorld : u.wld = s.wld := rfl
  obtain ⟨⟨l, cost, core⟩, wld, moved⟩ := u.callEnded_shows old 0 112
  rw [settled] at core
  have rest := ((s.coreAt 0).spent 0).rd_settle
  have step : ((s.coreAt 0).spent 0).settle.step = false := (Core.settle_step _).trans h.noStep
  have ended : u.endCall 0 112 = u.callEnded old 0 112 :=
    (State.endCall_eq (by rw [onWorld, ho]) 0 112).trans (State.afterCall_still (by rw [wld, onWorld]; exact hn))
  generalize ((s.coreAt 0).spent 0).settle = k at core rest step
  obtain ⟨pc, world, stepped, save⟩ := k.reopen_fields old 0 cost
  have regs := k.rd_reopen old 0 cost
  have next := exec_wgateReturn h hx hw
  rw [← hu, ended] at next
  generalize k.reopen old 0 cost = j at core pc world stepped save regs
  generalize u.callEnded old 0 112 = t at core wld moved next
  have still : t.stepEnd 0 = t := State.stepEnd_still (by rw [core]; exact stepped.trans step)
  rw [still] at next
  refine ⟨t, next, ?_⟩
  rw [core]
  refine ⟨pc, world, regs 1, fun r h2 h6 => ?_, fun r h7 => ?_, by rw [wld], save,
    Moves.onlyIn (K := partsOf [.core, .wld]) _ (toSettled.trans moved) (by decide)⟩
  · refine (regs r).trans ?_
    rw [if_neg (by rintro rfl; cases h2), if_neg (by rintro rfl; exact absurd h2 (by decide)), if_pos h6, if_pos rfl, rest]
    rfl
  · refine (regs r).trans ?_
    rw [if_neg (by rintro rfl; cases h7), if_neg (by rintro rfl; exact absurd h7 (by decide)), if_neg (by omega)]

/-! ### WG_INFO and the unassigned index (R295, R296) -/

theorem Core.wr_shape (k : Core) (r : Fin 32) (v : Word) : ∃ g, k.wr r v = { k with g := g } := ⟨_, k.wr_eq r v⟩

/-- What WG_INFO does to the core. -/
def Core.informed (stat n ver : Word) (k : Core) : Core :=
  { ((((k.wr 1 0).wr 2 stat).wr 3 n).wr 4 ver).next with res := none, locked := false, cycle := k.cycle + 40 }

theorem Core.informed_eq (stat n ver : Word) (k : Core) : ∃ g, k.informed stat n ver
    = { k with g := g, pc := k.pc + 4, res := none, locked := false, cycle := k.cycle + 40 } := by
  obtain ⟨g1, h1⟩ := k.wr_shape 1 0
  obtain ⟨g2, h2⟩ := Core.wr_shape { k with g := g1 } 2 stat
  obtain ⟨g3, h3⟩ := Core.wr_shape { k with g := g2 } 3 n
  obtain ⟨g4, h4⟩ := Core.wr_shape { k with g := g3 } 4 ver
  rw [Core.informed, h1, h2, h3, h4]
  exact ⟨g4, rfl⟩

theorem Core.rd_informed (stat n ver : Word) (k : Core) (r : Fin 32) : (k.informed stat n ver).rd r
    = if r = 0 then 0 else if r = 4 then ver else if r = 3 then n else if r = 2 then stat else if r = 1 then 0 else k.rd r := by
  have registers : (k.informed stat n ver).rd r = ((((k.wr 1 0).wr 2 stat).wr 3 n).wr 4 ver).rd r := rfl
  rw [registers]
  simp only [Core.rd_wr]
  by_cases h0 : r = 0
  · simp [h0]
  · simp [h0]

theorem exec_wgateInfo {c : Fin 3} {s : State} (h : s.Ready c) (hx : (s.coreAt c).exl = false) :
    exec (.wgateInfo c) s = .next ((s.cycles c 0).complete c [1, 2, 3, 4] (Core.informed (BitVec.ofNat 32 (s.readReg 0x1400C))
      (BitVec.ofNat 32 (s.get R.WLD_NGATE)) (BitVec.ofNat 32 (s.get R.WLD_VERSION)))) := by
  have clear : ¬ ((s.cycles c 0).coreAt c).exl = true := by
    rw [State.coreAt_cycles, Core.spent_exl, hx]
    exact Bool.false_ne_true
  exact congrArg Host.Outcome.next ((h.issue 0 _).trans (if_neg clear))

theorem State.Ready.informs {s : State} {c : Fin 3} (h : s.Ready c) (stat n ver : Word) :
    let t := (s.cycles c 0).complete c [1, 2, 3, 4] (Core.informed stat n ver)
    CoreOnly c s t ∧ (t.coreAt c).pc = (s.coreAt c).pc + 4
      ∧ ∀ r, (t.coreAt c).rd r = if r = 1 then 0 else if r = 2 then stat else if r = 3 then n else if r = 4 then ver
          else (s.coreAt c).rest r := by
  intro t
  obtain ⟨g, informed⟩ := ((s.coreAt c).issued 0).informed_eq stat n ver
  have regs := ((s.coreAt c).issued 0).rd_informed stat n ver
  obtain ⟨only, ⟨g', l, a, b, core⟩, written⟩ := h.writes (dests := [1, 2, 3, 4]) (f := Core.informed stat n ver)
    (by rw [informed]; rfl) (by rw [informed]; rfl) fun r hr => by
      simp only [List.mem_cons, List.not_mem_nil, or_false, not_or] at hr
      obtain ⟨h1, h2, h3, h4⟩ := hr
      rw [regs, Core.issued_rd, if_neg h4, if_neg h3, if_neg h2, if_neg h1]
      by_cases h0 : r = 0
      · rw [h0]
        rfl
      · rw [if_neg h0]
  refine ⟨only, by rw [core, informed]; rfl, fun r => (written r).trans ?_⟩
  rw [regs]
  by_cases hr : r = 1 ∨ r = 2 ∨ r = 3 ∨ r = 4
  · rcases hr with rfl | rfl | rfl | rfl <;> rfl
  · rw [not_or, not_or, not_or] at hr
    obtain ⟨h1, h2, h3, h4⟩ := hr
    simp [h1, h2, h3, h4]

theorem wgateInfo_answers (c : Fin 3) (s : State) (h : s.Ready c) (hx : (s.coreAt c).exl = false) :
    ∃ t, exec (.wgateInfo c) s = .next t ∧ CoreOnly c s t ∧ (t.coreAt c).pc = (s.coreAt c).pc + 4
      ∧ ∀ r, (t.coreAt c).rd r = if r = 1 then 0 else if r = 2 then BitVec.ofNat 32 (s.readReg 0x1400C)
          else if r = 3 then BitVec.ofNat 32 (s.get R.WLD_NGATE) else if r = 4 then BitVec.ofNat 32 (s.get R.WLD_VERSION)
          else (s.coreAt c).rest r :=
  ⟨_, exec_wgateInfo h hx, h.informs _ _ _⟩

theorem wgateUnassigned_enters (c : Fin 3) (idx : BitVec 16) (s : State) (h : s.Ready c) (hx : (s.coreAt c).exl = false)
    (hw : (s.coreAt c).world = false) (hg : gateAssigned idx.toNat = false) :
    ∃ t, exec (.wgateUnassigned c idx) s = .next t
      ∧ (t.coreAt c).Entered (s.coreAt c) 5 (BitVec.ofNat 32 idx.toNat) 1 4
      ∧ OnlyIn [.core, .icu, .pd 6] s t ∧ RegsOnly (Fld.ofSource 160) s t := by
  set u := ((s.cycles c 0).cycles c 4).raise 160 with hu
  have spent : u.coreAt c = ((s.coreAt c).spent 0).spent 4 := by
    rw [hu, State.coreAt_raise, State.coreAt_cycles, State.coreAt_cycles]
  have same : ((s.coreAt c).spent 0).spent 4 = (s.coreAt c).spent 4 := by
    simp [Core.spent]
  rw [same] at spent
  have entry : u.takeExc c 5 (BitVec.ofNat 32 idx.toNat) 1
      = u.updCore c fun k => k.settle.enter 5 (BitVec.ofNat 32 idx.toNat) 1 :=
    State.takeExc_enters 5 _ 1 (by rw [spent]; exact hx) (by rw [spent]; exact hw) (by rw [spent]; exact h.noStep)
  have next : exec (.wgateUnassigned c idx) s = .next (u.takeExc c 5 (BitVec.ofNat 32 idx.toNat) 1) := by
    have fresh : ((s.cycles c 0).coreAt c).exl = false := by rw [State.coreAt_cycles]; exact hx
    have outside : (((s.cycles c 0).cycles c 4).coreAt c).world = false := by
      rw [State.coreAt_cycles, State.coreAt_cycles]
      exact hw
    refine congrArg Host.Outcome.next ((if_neg (by rw [hg]; exact Bool.false_ne_true)).trans ((h.issue 0 _).trans
      ((if_neg (by rw [fresh]; exact Bool.false_ne_true)).trans ?_)))
    unfold State.gateExc
    dsimp only
    rw [outside]
    rfl
  refine ⟨_, next.trans (congrArg _ entry), ?_, ?_, fun f hf => State.get_raise_ne _ 160 hf⟩
  · rw [State.coreAt_updCore, if_pos rfl, spent]
    exact (s.coreAt c).settle_enter_entered 5 _ 1 4
  · exact Moves.onlyIn (K := partsOf [.core, .icu, .pd 6]) _ (((((State.cycles_moves s c 0).mono (by decide)).step
      (State.cycles_moves _ c 4) (by decide)).step (State.raise_moves _ 160) (by decide)).step
      (State.updCore_moves u c _) (by decide)) (by decide)

/-! ### The start of a load (R294, R302) -/

theorem State.spBytes_congr {s t : State} (h : t.shadow = s.shadow) : t.spBytes = s.spBytes := by
  rw [State.spBytes, State.sh, h, State.spBytes, State.sh]

theorem State.wipeHeld_saved (s : State) : s.wipeHeld.wld.saved = s.wld.saved := by
  unfold State.wipeHeld
  refine List.foldlRecOn _ _ (motive := fun t : State => t.wld.saved = s.wld.saved) rfl fun t ht b _ => ?_
  dsimp only
  split
  · split
    · exact ht
    · exact ht
  · exact ht

/-- The state in which the load's flags are set, before the wipes. -/
def State.restarting (s : State) (cause : Nat) : State :=
  ((s.set R.WLD_STAT_RESTARTING 1).set R.WLD_STAT_LOADED 0).set R.WLD_STAT_RSCAUSE cause

theorem State.beginLoad_now {s : State} (hp : s.spBytes ≠ 0) (hi : s.get R.WLD_SIMG ≠ 0) (hs : s.wld.saved = none) (cause : Nat) :
    s.beginLoad cause = { (s.restarting cause).wipeSealed.wipeHeld with
      wld := { (s.restarting cause).wipeSealed.wipeHeld.wld with waiting := none } } :=
  (if_neg (not_or.mpr ⟨hp, hi⟩)).trans (if_neg (by rw [hs]; exact Bool.false_ne_true))

theorem State.beginLoad_waits {s : State} (hp : s.spBytes ≠ 0) (hi : s.get R.WLD_SIMG ≠ 0) (hs : s.wld.saved.isSome = true)
    (cause : Nat) : s.beginLoad cause = { s with wld := { s.wld with waiting := some cause } } :=
  (if_neg (not_or.mpr ⟨hp, hi⟩)).trans (if_pos hs)

/-- The wipes of a load change no register of PD3 and no call. -/
theorem State.beginLoad_begun {s : State} (hp : s.spBytes ≠ 0) (hi : s.get R.WLD_SIMG ≠ 0) (hs : s.wld.saved = none) (cause : Nat) :
    (∀ f : Fld, f.pd = 3 → (s.beginLoad cause).get f = (s.restarting cause).get f) ∧ (s.beginLoad cause).wld.saved = none := by
  rw [State.beginLoad_now hp hi hs]
  have moved := ((s.restarting cause).wipeSealed_moves.mono (K' := 0xa00004000000) (by decide)).trans (State.wipeHeld_moves _)
  refine ⟨fun f hf => moved.same (.pd 3) (by decide) f hf, (State.wipeHeld_saved _).trans ?_⟩
  rw [(s.restarting cause).wipeSealed_moves.same .wld (by decide)]
  exact hs

theorem State.restarting_shows (s : State) (cause : Nat) : (s.restarting cause).get R.WLD_STAT_RESTARTING = 1
    ∧ (s.restarting cause).get R.WLD_STAT_LOADED = 0 ∧ (s.restarting cause).get R.WLD_STAT_RSCAUSE = cause % 8 :=
  ⟨(State.get_set_apart _ rfl cause).trans ((State.get_set_apart _ rfl 0).trans (State.get_set ..)),
    (State.get_set_apart _ rfl cause).trans (State.get_set ..), State.get_set ..⟩

theorem State.get_restarting (s : State) (cause : Nat) {f : Fld} (h : [R.WLD_STAT_RESTARTING, R.WLD_STAT_LOADED,
    R.WLD_STAT_RSCAUSE].all (·.apart f) = true) : (s.restarting cause).get f = s.get f := by
  simp only [List.all_cons, List.all_nil, Bool.and_true, Bool.and_eq_true] at h
  obtain ⟨hr, hl, hc⟩ := h
  rw [State.restarting, State.get_set_apart _ hc, State.get_set_apart _ hl, State.get_set_apart _ hr]

/-- A load that waited for a call begins, or none does; either leaves what the load does not write. -/
theorem State.afterCall_keeps {s : State} (hp : s.spBytes ≠ 0) (hi : s.get R.WLD_SIMG ≠ 0) (hs : s.wld.saved = none) :
    s.afterCall.spBytes ≠ 0 ∧ s.afterCall.wld.saved = none
      ∧ ∀ f : Fld, f.pd = 3 → [R.WLD_STAT_RESTARTING, R.WLD_STAT_LOADED, R.WLD_STAT_RSCAUSE].all (·.apart f) = true →
        s.afterCall.get f = s.get f := by
  rw [State.spBytes_congr (s.afterCall_moves.same .shadow (by decide))]
  refine ⟨hp, ?_⟩
  unfold State.afterCall
  split
  · next c _ =>
    obtain ⟨regs, saved⟩ := State.beginLoad_begun hp hi hs c
    exact ⟨saved, fun f h3 hf => (regs f h3).trans (s.get_restarting c hf)⟩
  · exact ⟨hs, fun f _ _ => rfl⟩

theorem State.flag_of_get {s : State} {f : Fld} (h : s.get f = 1) : s.flag f = true := by
  rw [State.flag, h]
  rfl

/-- The state in which the sealed watchdog has run out. -/
def State.watchdogOut (s : State) : State :=
  (((s.set R.WLD_STAT_WDT 1).raise 163).set R.WLD_STAT_RSBEGIN 1).raise 161

theorem sealedWatchdogExpiry_restarts (s : State) (hc : s.wld.saved.isSome = true) (hh : s.bit R.DBG_STAT_HALTED 0 = false)
    (hr : s.plyRuns = true) (hp : s.spBytes ≠ 0) (hi : s.get R.WLD_SIMG ≠ 0) :
    ∃ t, exec .sealedWatchdogExpiry s = .next t ∧ t.flag R.WLD_STAT_WDT = true ∧ t.flag R.WLD_STAT_RSBEGIN = true
      ∧ t.get R.WLD_STAT_RESTARTING = 1 ∧ t.get R.WLD_STAT_LOADED = 0 ∧ t.get R.WLD_STAT_RSCAUSE = 2
      ∧ t.wld.saved = none ∧ (t.coreAt 0).rd 1 = 2 := by
  obtain ⟨old, ho⟩ := Option.isSome_iff_exists.mp hc
  set u := s.watchdogOut with hu
  have outWld : u.wld = s.wld := by
    rw [hu, State.watchdogOut, State.raise_wld, State.set_wld, State.raise_wld, State.set_wld]
  have shadow : u.shadow = s.shadow := by
    rw [hu, State.watchdogOut, State.raise_shadow, State.set_shadow, State.raise_shadow, State.set_shadow]
  have flags : u.get R.WLD_STAT_WDT = 1 ∧ u.get R.WLD_STAT_RSBEGIN = 1 ∧ u.get R.WLD_SIMG = s.get R.WLD_SIMG := by
    rw [hu, State.watchdogOut, State.get_raise_apart _ 161 (by decide), State.get_raise_apart _ 161 (by decide),
      State.get_raise_apart _ 161 (by decide), State.get_set_apart _ (f := R.WLD_STAT_RSBEGIN) (g := R.WLD_STAT_WDT) rfl,
      State.get_set_apart _ (f := R.WLD_STAT_RSBEGIN) (g := R.WLD_SIMG) rfl, State.get_raise_apart _ 163 (by decide),
      State.get_raise_apart _ 163 (by decide), State.get_set_apart _ (f := R.WLD_STAT_WDT) (g := R.WLD_SIMG) rfl]
    exact ⟨State.get_set .., State.get_set .., rfl⟩
  obtain ⟨wdt, rsbegin, simg⟩ := flags
  obtain ⟨⟨l, cost, core⟩, wld, moved⟩ := u.callEnded_shows old 2 160
  have aborted : u.abortCall 2 = (u.callEnded old 2 160).afterCall := State.endCall_eq (by rw [outWld, ho]) 2 160
  set v := u.callEnded old 2 160 with hv
  have regs : ∀ f : Fld, f.pd = 3 → v.get f = u.get f := moved.same (.pd 3) (by decide)
  have space : v.spBytes ≠ 0 := by
    rw [State.spBytes_congr ((moved.same .shadow (by decide)).trans shadow)]
    exact hp
  have image : v.get R.WLD_SIMG ≠ 0 := by
    rw [regs _ rfl, simg]
    exact hi
  obtain ⟨space', saved', regs'⟩ := State.afterCall_keeps space image (by rw [wld])
  have image' : v.afterCall.get R.WLD_SIMG ≠ 0 := by
    rw [regs' _ rfl rfl]
    exact image
  obtain ⟨begun, saved⟩ := State.beginLoad_begun space' image' saved' 2
  obtain ⟨restarting, loaded, cause⟩ := v.afterCall.restarting_shows 2
  have kept : ∀ f : Fld, f.pd = 3 → [R.WLD_STAT_RESTARTING, R.WLD_STAT_LOADED, R.WLD_STAT_RSCAUSE].all (·.apart f) = true →
      (v.afterCall.beginLoad 2).get f = u.get f := fun f h3 hf =>
    (begun f h3).trans ((v.afterCall.get_restarting 2 hf).trans ((regs' f h3 hf).trans (regs f h3)))
  have sameCore : (v.afterCall.beginLoad 2).core = v.core :=
    ((State.beginLoad_moves _ 2).same .core (by decide)).trans (v.afterCall_moves.same .core (by decide))
  have next : ∃ l, exec .sealedWatchdogExpiry s = .next ((v.afterCall.beginLoad 2).journal 302 l) := by
    rw [← aborted]
    exact ⟨_, congrArg Host.Outcome.next (if_pos (by rw [hc, hh, hr]; rfl))⟩
  obtain ⟨l, next⟩ := next
  refine ⟨_, next, State.flag_of_get ((kept _ rfl rfl).trans wdt), State.flag_of_get ((kept _ rfl rfl).trans rsbegin),
    (begun _ rfl).trans restarting, (begun _ rfl).trans loaded, (begun _ rfl).trans cause, saved, ?_⟩
  have status := (u.coreAt 0).rd_reopen old 2 cost 1
  generalize (u.coreAt 0).reopen old 2 cost = k at core status
  change ((v.afterCall.beginLoad 2).coreAt 0).rd 1 = 2
  rw [State.coreAt_congr sameCore, core]
  exact status

theorem sealedReload_begins (q : Who) (v : Word) (s : State) (h3 : s.on 3 = true) (hv : v.toNat.testBit 0 = true)
    (hq : q.sealedW = false) (hp : s.spBytes ≠ 0) (hi : s.get R.WLD_SIMG ≠ 0) :
    (s.wld.saved = none → ∃ t, exec (.sealedReload q v) s = .next t ∧ t.get R.WLD_STAT_RESTARTING = 1
      ∧ t.get R.WLD_STAT_LOADED = 0 ∧ t.get R.WLD_STAT_RSCAUSE = 3)
    ∧ (s.wld.saved.isSome = true → ∃ t, exec (.sealedReload q v) s = .next t ∧ t.wld.waiting = some 3
      ∧ t.regs = s.regs) := by
  have next : exec (.sealedReload q v) s = .next ((s.reply q.req .ok 0).beginLoad 3) :=
    (State.via_next h3).trans (congrArg Host.Outcome.next (if_pos (by rw [hv, hq]; rfl)))
  have space : (s.reply q.req .ok 0).spBytes ≠ 0 := by
    rw [State.spBytes_congr ((s.reply_moves ..).same .shadow (by decide))]
    exact hp
  have image : (s.reply q.req .ok 0).get R.WLD_SIMG ≠ 0 := hi
  refine ⟨fun hs => ⟨_, next, ?_⟩, fun hs => ⟨_, next.trans (congrArg _ (State.beginLoad_waits space image hs 3)), rfl, rfl⟩⟩
  obtain ⟨begun, -⟩ := State.beginLoad_begun space image hs 3
  obtain ⟨restarting, loaded, cause⟩ := (s.reply q.req .ok 0).restarting_shows 3
  exact ⟨(begun _ rfl).trans restarting, (begun _ rfl).trans loaded, (begun _ rfl).trans cause⟩

/-! ### The end of a load (R293) -/

/-- The state in which an accepted image is copied and measured, and its window set. -/
def State.imageCopied (s : State) (i : Image) (d : List Nat) : State :=
  (((s.copyImage i).extendMeas d).set R.WLD_SXBASE ((if i.windowed then i.word 0x20 else 0) / 32)).set R.WLD_SXLIM
    (if i.windowed then i.word 0x24 else 0)

/-- The state in which the words of an accepted image are in the registers and its flags are to be set. -/
def State.imageIn (s : State) (i : Image) (d : List Nat) : State :=
  let s := ((((s.imageCopied i d).set R.WLD_VERSION (i.word 8)).set R.WLD_NGATE i.gates.length).inc R.WLD_LOADS).firstLoad
  { s with wld := { s.wld with
    gates := i.gates, sp := BitVec.ofNat 32 (i.word 0x18), wp := BitVec.ofNat 32 (i.word 0x1C), imgEnd := i.stop } }

theorem State.get_imageIn_version (s : State) (i : Image) (d : List Nat) :
    (s.imageIn i d).get R.WLD_VERSION = i.word 8 % 2 ^ 32 := by
  have written (u : State) (x n : Nat) : (((u.set R.WLD_VERSION x).set R.WLD_NGATE n).inc R.WLD_LOADS).get R.WLD_VERSION
      = x % 2 ^ 32 := by
    have width : R.WLD_VERSION.w = 32 := rfl
    rw [State.get_inc_apart _ rfl, State.get_set_apart _ rfl, State.get_set, width]
  have loaded : (s.imageIn i d).get R.WLD_VERSION = ((((s.imageCopied i d).set R.WLD_VERSION (i.word 8)).set R.WLD_NGATE
      i.gates.length).inc R.WLD_LOADS).get R.WLD_VERSION :=
    (State.firstLoad_moves _).same (.pd 0) (by decide) R.WLD_VERSION rfl
  rw [loaded]
  exact written (s.imageCopied i d) (i.word 8) i.gates.length

theorem State.imageIn_gates (s : State) (i : Image) (d : List Nat) : (s.imageIn i d).wld.gates = i.gates := by
  simp only [State.imageIn]

theorem State.loadGood_eq (s : State) (i : Image) (d : List Nat) : s.loadGood i d
    = (((s.imageIn i d).set R.WLD_STAT_LOADED 1).set R.WLD_STAT_RSDONE 1).set R.WLD_STAT_LOADFAIL 0 := by
  unfold State.loadGood State.imageIn
  rfl

theorem State.loadGood_shows (s : State) (i : Image) (d : List Nat) : (s.loadGood i d).get R.WLD_STAT_LOADED = 1
    ∧ (s.loadGood i d).get R.WLD_STAT_LOADFAIL = 0 ∧ (s.loadGood i d).get R.WLD_VERSION = i.word 8 % 2 ^ 32
    ∧ (s.loadGood i d).wld.gates = i.gates := by
  have version := s.get_imageIn_version i d
  have gates := s.imageIn_gates i d
  rw [State.loadGood_eq]
  generalize s.imageIn i d = u at version gates
  exact ⟨(State.get_set_apart _ rfl 0).trans ((State.get_set_apart _ rfl 1).trans (State.get_set ..)), State.get_set ..,
    (State.get_set_apart _ rfl 0).trans ((State.get_set_apart _ rfl 1).trans ((State.get_set_apart _ rfl 1).trans version)), gates⟩

/-- The state in which a load has had its outcome, before RESTARTING is cleared. -/
def State.loadJudged (s : State) (i : Image) (c : Option Nat) (d : List Nat) : State :=
  match c with
  | none => s.loadGood i d
  | some c => (s.wipeSealed.set R.WLD_STAT_LOADFAIL 1).set R.WLD_STAT_FAILCAUSE c

theorem State.loadOver_wld (s : State) (r : Nat) (l : List Nat) :
    (((s.set R.WLD_STAT_RESTARTING 0).raise 162).journal r l).wld = s.wld := State.raise_wld ..

theorem sealedLoadComplete_ends (s : State) (hr : s.flag R.WLD_STAT_RESTARTING = true) (ha : s.crerus.alive = true) :
    let i := s.image
    ∃ t, exec .sealedLoadComplete s = .next t ∧ t.get R.WLD_STAT_RESTARTING = 0
      ∧ match s.imageFails i with
        | none => t.get R.WLD_STAT_LOADED = 1 ∧ t.get R.WLD_STAT_LOADFAIL = 0
            ∧ t.get R.WLD_VERSION = i.word 8 % 2 ^ 32 ∧ t.wld.gates = i.gates
        | some c => t.get R.WLD_STAT_LOADFAIL = 1 ∧ t.get R.WLD_STAT_FAILCAUSE = c % 16
            ∧ t.get R.WLD_STAT_LOADED = s.get R.WLD_STAT_LOADED := by
  intro i
  set e := s.eccRange i.base (min (i.stop - i.base) 0x40000) with he
  set d := sha384 (s.imageHashed i) with hd
  set j := e.loadJudged i (s.imageFails i) d with hj
  have ended : ∃ r l, s.loadEnds = ((j.set R.WLD_STAT_RESTARTING 0).raise 162).journal r l := ⟨_, _, rfl⟩
  obtain ⟨r, l, ended⟩ := ended
  have kept : ∀ f : Fld, f.pd ≠ 6 → R.WLD_STAT_RESTARTING.apart f = true →
      (((j.set R.WLD_STAT_RESTARTING 0).raise 162).journal r l).get f = j.get f := fun f h6 hf =>
    (State.get_raise_apart _ 162 h6).trans (State.get_set_apart _ hf 0)
  refine ⟨_, congrArg Host.Outcome.next ((if_pos (by rw [hr, ha]; rfl)).trans ended),
    (State.get_raise_apart _ 162 (by decide)).trans (State.get_set ..), ?_⟩
  cases hc : s.imageFails i with
  | none =>
    rw [hc] at hj
    obtain ⟨loaded, loadfail, version, gates⟩ := e.loadGood_shows i d
    rw [kept _ (by decide) rfl, kept _ (by decide) rfl, kept _ (by decide) rfl, State.loadOver_wld, hj]
    exact ⟨loaded, loadfail, version, gates⟩
  | some c =>
    have judged : j = (e.wipeSealed.set R.WLD_STAT_LOADFAIL 1).set R.WLD_STAT_FAILCAUSE c := by rw [hj, hc]; rfl
    refine ⟨(kept _ (by decide) rfl).trans ?_, (kept _ (by decide) rfl).trans ?_, (kept _ (by decide) rfl).trans ?_⟩
    · rw [judged]
      exact (State.get_set_apart _ rfl c).trans (State.get_set ..)
    · rw [judged]
      exact State.get_set ..
    · rw [judged]
      refine (State.get_set_apart _ rfl c).trans ((State.get_set_apart _ rfl 1).trans ?_)
      exact (e.wipeSealed_moves.same (.pd 3) (by decide) _ rfl).trans ((s.eccRange_moves ..).same (.pd 3) (by decide) _ rfl)

/-- Settles O38: each gate call by the world and the status it meets, and each load by where it begins and how it ends. -/
theorem sealedGates : Obligations.SealedGates :=
  ⟨wgateEntry_refused, gateStatus_refuses, wgateEntry_enters, wgateReturn_reopens, wgateInfo_answers, wgateUnassigned_enters,
    sealedWatchdogExpiry_restarts, sealedReload_begins, sealedLoadComplete_ends⟩

end Sys2Proof.Machine
end

section
/-!
PROOFS of the statement on mailbox requests (O39, R312, R318, R322): replies, the next request, and what goes on with a
suspended one.
-/

namespace Sys2Proof.Machine

/-! ### Replies (R316, R318) -/

/-- A reply leaves the requests that Crerus holds as they are. -/
theorem State.answerJob_crerus (s : State) (j : Job) (st : Nat) (pay : List Nat) : (s.answerJob j st pay).crerus = s.crerus := by
  unfold State.answerJob
  dsimp only
  split
  · split
    · exact (s.putHost_moves ..).same .crerus (by decide)
    · rfl
  · split
    · exact (s.replyLocal_moves ..).same .crerus (by decide)
    · rfl
  · split
    · exact (s.openSend_moves _).same .crerus (by decide)
    · rfl

theorem State.finish_jobs (s : State) (j : Job) (st : Nat) (pay : List Nat) :
    (s.finish j st pay).jobs.all (fun x => decide (x.id ≠ j.id)) = true := by
  have kept : (s.finish j st pay).crerus = (s.dropJob j).crerus := State.answerJob_crerus ..
  rw [State.jobs, kept, List.all_eq_true]
  intro x hx
  rcases List.mem_append.mp hx with hx | hx
  · exact (List.mem_filter.mp hx).2
  · exact (Option.filter_eq_some_iff.mp (Option.mem_toList.mp hx)).2

theorem State.finish_host {s : State} {j : Job} {n : Nat} (h : s.on 10 = true) (hj : j.src = .host n) (st : Nat) (pay : List Nat) :
    s.finish j st pay = (s.dropJob j).putHost n (j.replyMsg st pay) := by
  have on : (s.dropJob j).on 10 = true := h
  unfold State.finish State.answerJob
  dsimp only
  rw [hj]
  exact if_pos on

theorem finish_reachesHost (j : Job) (n : Fin 8) (st : Nat) (pay : List Nat) (s : State) (hs : s.Kept) (h : s.on 10 = true)
    (hj : j.src = .host n) :
    let t := s.finish j st pay
    let m := j.replyMsg st pay
    t.get (R.HIF_MBST n) = 3 ∧ t.rdBytes (hostKey (0x1000 + 0x200 * n.val)) m.length = m.map (· % 256) := by
  have kept : (s.dropJob j).Kept := (s.dropJob_moves j).kept hs
  intro t m
  have put : t = ((s.dropJob j).wrBytes (hostKey (0x1000 + 0x200 * n.val)) m).setMb n 3 := State.finish_host h hj st pay
  have mem : t.mem = ((s.dropJob j).wrBytes (hostKey (0x1000 + 0x200 * n.val)) m).mem := by
    rw [put]
    exact (State.setMb_moves _ n 3).same .mem (by decide)
  refine ⟨?_, ?_⟩
  · rw [put]
    exact State.get_setMb _ n (by decide)
  · rw [← State.rdBytes_wrBytes kept]
    exact List.map_congr_left fun i _ => congrArg BitVec.toNat (State.byte_congr mem _)

theorem State.finish_local {s : State} {j : Job} {b : Nat} (h : s.on 1 = true) (hj : j.src = .loc b) (hw : b ∉ s.wld.wipeMb)
    (st : Nat) (pay : List Nat) : s.finish j st pay = (s.dropJob j).putLocal b (j.replyMsg st pay) true := by
  have on : (s.dropJob j).on 1 = true := h
  have unowed : b ∉ ((s.dropJob j).putLocal b (j.replyMsg st pay) true).wld.wipeMb := by
    have same := ((s.dropJob j).putLocal_moves b (j.replyMsg st pay) true).same .wld (by decide)
    rw [same]
    exact hw
  unfold State.finish State.answerJob
  dsimp only
  rw [hj]
  exact (if_pos on).trans (if_neg unowed)

theorem State.on6_set_localState (s : State) (b : Nat) : (s.set (R.LMB_ST b) 3).on 6 = s.on 6 :=
  State.on_congr (State.get_set_apart s (Fld.apart_of_width (a := 2) (b := (R.PWR_DOM 6).w) rfl rfl (by decide)) 3)

/-- A message in a local mailbox, whose source shows a reply. -/
theorem State.putLocal_shows {s : State} (hs : s.Kept) (h6 : s.on 6 = true) (b : Fin 4) (m : List Nat) :
    (s.putLocal b m true).get (R.LMB_ST b) = 3 ∧ (s.putLocal b m true).rdBytes (lmbKey b) m.length = m.map (· % 256)
      ∧ (s.putLocal b m true).flag (R.ICU_STS_PEND (137 + 2 * b)) = true := by
  have number : 136 + 2 * b.val + b2n true = 137 + 2 * b.val := by
    rw [show b2n true = 1 from rfl]
    omega
  have on : ((s.wrBytes (lmbKey b) m).set (R.LMB_ST b) 3).on 6 = true := by
    rw [State.on6_set_localState, State.on_congr ((s.wrBytes_moves (lmbKey b) m).same (.pd 0) (by decide) (R.PWR_DOM 6) rfl)]
    exact h6
  have written := State.rdBytes_wrBytes hs (lmbKey b) m
  rw [State.putLocal, number]
  generalize s.wrBytes (lmbKey b) m = w at on written ⊢
  refine ⟨?_, ?_, State.flag_raise (by omega) on⟩
  · rw [State.get_raise_apart _ _ (show (1 : Nat) ≠ 6 by decide)]
    exact State.get_set ..
  · rw [← written]
    exact List.map_congr_left fun i _ => congrArg BitVec.toNat (State.byte_congr (State.raise_mem ..) _)

theorem finish_reachesStrand (j : Job) (b : Fin 4) (st : Nat) (pay : List Nat) (s : State) (hs : s.Kept) (h1 : s.on 1 = true)
    (h6 : s.on 6 = true) (hj : j.src = .loc b) (hw : b.val ∉ s.wld.wipeMb) :
    let t := s.finish j st pay
    let m := j.replyMsg st pay
    t.get (R.LMB_ST b) = 3 ∧ t.rdBytes (lmbKey b) m.length = m.map (· % 256)
      ∧ t.flag (R.ICU_STS_PEND (137 + 2 * b)) = true := by
  intro t m
  have put : t = (s.dropJob j).putLocal b m true := State.finish_local h1 hj hw st pay
  rw [put]
  exact State.putLocal_shows ((s.dropJob_moves j).kept hs) h6 b m

/-! ### The next request (R318, R322) -/

theorem State.beginTake_arr (s : State) (a : Arrival) : (s.beginTake a).crerus.arr = s.crerus.arr.erase a := by
  have served (u : State) : u.fwServes.crerus = u.crerus := by
    unfold State.fwServes
    split <;> rfl
  have marked (u : State) (n : Nat) : ((u.setMb n 2).clrBit R.HIF_MBDB n).crerus = u.crerus :=
    (u.setMb_moves n 2).same .crerus (by decide)
  unfold State.beginTake
  dsimp only
  split
  · rw [marked, served]
  · exact congrArg Crerus.arr (served _)
  · exact congrArg Crerus.arr (served _)

/-- What becomes of the request once its authority is judged: refused, or the one that Crerus serves. -/
def State.judged (j : Job) : Option Job × State → State
  | (none, s) => s.finish j 0x13 []
  | (some j, s) =>
    match s.refuse j with
    | some st => s.finish j st []
    | none => { s with crerus := { s.crerus with cur := some j } }

theorem State.judged_refused {s : State} {j : Job} {st : Nat} (h : s.refuse j = some st) (i : Job) :
    State.judged i (some j, s) = s.finish j st [] := by
  unfold State.judged
  dsimp only
  rw [h]

theorem State.judged_none {s : State} {j : Job} (h : s.refuse j = none) (i : Job) :
    State.judged i (some j, s) = { s with crerus := { s.crerus with cur := some j } } := by
  unfold State.judged
  dsimp only
  rw [h]

theorem State.takeRequest_eq {s : State} {a : Arrival} (hc : s.crerus.cur = none) (hu : s.crerusUp = true)
    (ha : s.crerus.arr.find? s.takes = some a) :
    let b := s.arrBytes a
    let u := s.beginTake a
    let j := u.jobOf a b
    let w : State := { u with crerus := { u.crerus with nextId := u.crerus.nextId + 1 } }
    s.takeRequest = if (!goodMsg b) = true then w.finish { j with pay := [] } 0x12 [] else State.judged j (w.authJob j b) := by
  have still : s.yieldCur = s := by
    unfold State.yieldCur
    rw [hc]
  unfold State.takeRequest
  rw [still, if_neg (by simp [hc, hu]), ha]
  rfl

theorem mailboxRequestTake_takes (a : Arrival) (s : State) (hc : s.crerus.cur = none) (hu : s.crerusUp = true)
    (ha : s.crerus.arr.find? s.takes = some a) :
    let b := s.arrBytes a
    let u := s.beginTake a
    let j := u.jobOf a b
    let w : State := { u with crerus := { u.crerus with nextId := u.crerus.nextId + 1 } }
    u.crerus.arr = s.crerus.arr.erase a
    ∧ (goodMsg b = false → exec .mailboxRequestTake s = .next (w.finish { j with pay := [] } 0x12 []))
    ∧ (goodMsg b = true → w.authJob j b = (some j, w) →
        (∀ st, w.refuse j = some st → exec .mailboxRequestTake s = .next (w.finish j st []))
        ∧ (w.refuse j = none → ∃ t, exec .mailboxRequestTake s = .next t ∧ t.crerus.cur = some j
            ∧ t.crerus.arr = s.crerus.arr.erase a)) := by
  intro b u j w
  have left : u.crerus.arr = s.crerus.arr.erase a := s.beginTake_arr a
  have next : exec .mailboxRequestTake s
      = .next (if (!goodMsg b) = true then w.finish { j with pay := [] } 0x12 [] else State.judged j (w.authJob j b)) :=
    congrArg Host.Outcome.next (State.takeRequest_eq hc hu ha)
  rw [next]
  refine ⟨left, fun hg => congrArg Host.Outcome.next (if_pos (by rw [hg]; rfl)), fun hg hj => ?_⟩
  rw [if_neg (by rw [hg]; exact Bool.false_ne_true), hj]
  exact ⟨fun st hr => congrArg Host.Outcome.next (State.judged_refused hr j),
    fun hr => ⟨_, congrArg Host.Outcome.next (State.judged_none hr j), rfl, left⟩⟩

/-! ### Suspended requests (R322, R335) -/

theorem requestResume_goesOn (j : Job) (s : State) (hu : s.crerusUp = true) (hj : s.crerus.susp.find? s.canResume = some j) :
    (∀ st data, j.wait = .ready st data → j.noun ≠ 0x402 → exec .requestResume s = .next (s.finish j st data))
    ∧ (∀ k, j.wait = .upd k → exec .requestResume s = .next (s.finish j 0 []))
    ∧ (∀ c, j.wait = .flash (some c) → c ≠ 0 → exec .requestResume s = .next (s.finish j 0x30 []))
    ∧ (j.wait = .engine → exec .requestResume s = .next (s.suspend j .none)) := by
  have resumes : exec .requestResume s = .next (s.resumeJob j) := by
    refine congrArg Host.Outcome.next ((if_neg (by simp [hu])).trans ?_)
    rw [hj]
  rw [resumes]
  unfold State.resumeJob
  refine ⟨fun st data hw hn => ?_, fun k hw => ?_, fun c hw hc => ?_, fun hw => ?_⟩
  · have same : j.readyAs st data = (st, data) := if_neg fun h => hn h.1
    rw [hw]
    dsimp only
    rw [same]
  · rw [hw]
  · rw [hw]
    exact congrArg Host.Outcome.next (if_neg hc)
  · rw [hw]

theorem laneApplyTimeout_aborts (j : Job) (k : Nat) (s : State) (hu : s.crerusUp = true) (hw : j.wait = .upd k)
    (hf : s.flag (R.LN_CTRL_UPD k) = true) (hs : s.crerus.susp = [j]) :
    exec .laneApplyTimeout s = .next (s.finish j 0x61 []) := by
  refine congrArg Host.Outcome.next ?_
  rw [hs]
  simp [hw, hf, hu]

/-- Settles O39: replies by the mailbox they go to, the next request by its checks, and a suspended one by what it waits
for. -/
theorem crerusRequests : Obligations.CrerusRequests :=
  ⟨fun j st pay s => s.finish_jobs j st pay, finish_reachesHost, finish_reachesStrand, mailboxRequestTake_takes,
    requestResume_goesOn, laneApplyTimeout_aborts⟩

end Sys2Proof.Machine
end

section
/-!
PROOFS of the statement on the services of Crerus (O41, R319, R321, R334, R337, R376): ATTEST, WIPE, the notices, PING,
sequences and fans.
-/

namespace Sys2Proof.Machine

/-! ### ATTEST, WIPE (R319, R376) -/

theorem State.withEngine_free {s : State} (h : s.EngineFree) (j : Job) (f : State → State) : s.withEngine j f = f s := by
  unfold State.withEngine
  rw [if_neg (by simp [h.calm, h.works]), if_pos h.ready]

section
variable (j : Job) (s : State) (h : s.Serves j)
include h

theorem attest_answers (hv : j.verb = 7) (he : s.EngineFree) :
    (s.custody.drbg = false → exec .attest s = .next (s.finish j 0x20 []))
    ∧ (s.custody.drbg = true → ∃ u sig, exec .attest s = .next (State.finish u j 0 (s.live j.noun ++ j.pay ++ sig))
        ∧ OnlyIn [.free] s u) := by
  have runs : exec .attest s = .next (s.attest j) := congrArg Host.Outcome.next (h.serve (decide_eq_true hv) _)
  rw [runs, State.attest, State.withEngine_free he]
  refine ⟨fun hd => congrArg Host.Outcome.next (if_pos (by rw [hd]; rfl)), fun hd => ?_⟩
  exact ⟨s.freeN.2, _, congrArg Host.Outcome.next (if_neg (by rw [hd]; exact Bool.false_ne_true)),
    (State.freeN_moves s).onlyIn (K := partsOf [.free]) _ (by decide)⟩

theorem wipe_empties (hv : j.verb = 8) :
    (fieldOf j.pay 0 1 ≤ 63 → exec .wipe s = .next ((s.putSlot (fieldOf j.pay 0 1) {}).finish j 0 []))
    ∧ (fieldOf j.pay 0 1 = 0xFF → exec .wipe s = .next (s.zeroSlots.finish j 0 []))
    ∧ (63 < fieldOf j.pay 0 1 → fieldOf j.pay 0 1 ≠ 0xFF → exec .wipe s = .next (s.finish j 0x50 [])) := by
  have runs : exec .wipe s = .next (s.wipeKey j) := congrArg Host.Outcome.next (h.serve (decide_eq_true hv) _)
  rw [runs]
  unfold State.wipeKey
  exact ⟨fun hn => congrArg Host.Outcome.next ((if_neg (by omega)).trans (if_neg (by omega))),
    fun hn => congrArg Host.Outcome.next (if_pos hn),
    fun hn ha => congrArg Host.Outcome.next ((if_neg ha).trans (if_pos hn))⟩

/-! ### Subscriptions and notices (R321) -/

omit h in
/-- A reply changes of what Crerus holds the request that is over alone. -/
theorem State.finish_crerus (s : State) (j : Job) (st : Nat) (pay : List Nat) :
    (s.finish j st pay).crerus = (s.dropJob j).crerus := State.answerJob_crerus ..

theorem watch_subscribes (hv : j.verb = 9) :
    ∃ t x, exec .watch s = .next t
      ∧ t.crerus.subs = s.crerus.subs.filter (fun x => !decide (x.cls = j.cls ∧ x.noun = j.noun)) ++ [x]
      ∧ x.cls = j.cls ∧ x.noun = j.noun ∧ x.interval = j.md % 64 ∧ x.told = s.watchKey j.noun ∧ x.waiting = false :=
  ⟨_, _, congrArg Host.Outcome.next (h.serve (decide_eq_true hv) _), congrArg Crerus.subs (State.finish_crerus ..),
    rfl, rfl, rfl, rfl, rfl⟩

theorem forget_unsubscribes (hv : j.verb = 10) :
    ∃ t, exec .forget s = .next t
      ∧ t.crerus.subs = s.crerus.subs.filter fun x =>
          !(decide (x.cls = j.cls) && (decide (j.noun = 0xFFFF) || decide (x.noun = j.noun))) :=
  ⟨_, congrArg Host.Outcome.next (h.serve (decide_eq_true hv) _), congrArg Crerus.subs (State.finish_crerus ..)⟩

theorem doPing_echoes (hv : j.verb = 5) (hn : j.noun = 2) : exec .doPing s = .next (s.finish j 0 j.pay) :=
  congrArg Host.Outcome.next (h.serve (Job.isDo_of hv hn) _)

end

theorem noticeDelivery_writes (i : Nat) (x : Sub) (s : State) (ha : s.crerus.alive = true) (h1 : s.on 1 = true) :
    let u := s.lookSubs
    u.crerus.notes = [] → (u.crerus.subs.filter fun x => x.waiting && u.noticeRoom x.mb && u.noticeDue x)[i]? = some x →
    ∃ w : State, exec (.noticeDelivery i) s = .next (w.sendNotice x) ∧ OnlyIn [.crerus] u w
      ∧ w.crerus.subs = u.crerus.subs.map fun z =>
          if z = x then { x with waiting := false, last := some u.time.rtc.toNat } else z := by
  intro u hn hx
  refine ⟨{ u with crerus := { u.crerus with subs := u.crerus.subs.map fun z =>
      if z = x then { x with waiting := false, last := some u.time.rtc.toNat } else z } }, ?_,
    State.upd_crerus_moves.onlyIn (K := partsOf [.crerus]) _ (by decide), rfl⟩
  refine congrArg Host.Outcome.next ((if_pos (by rw [ha, h1]; rfl)).trans ?_)
  have none_owed : (u.crerus.notes.filter fun x => u.noticeRoom x.mb) = [] := by rw [hn]; rfl
  unfold State.deliverNotice
  dsimp only
  rw [none_owed]
  simp only [List.getElem?_nil, List.length_nil, Nat.sub_zero]
  rw [hx]

/-! ### Sequences (R337) -/

/-- The request of a sequence waits with it, and no lane is enabled yet. -/
def State.seqBegun (s : State) (j : Job) : State := (s.suspend j .seq).putRun { lanes := [] }

/-- A sequence that begins is the one in force. -/
theorem State.seqBegun_seqAct (s : State) (j : Job) (i : Nat) : (s.seqBegun j).seqAct i = s.seqAct i := rfl

theorem State.seqRun_end {s : State} {i : Nat} (h : (s.seqAct i).1 = 0) (j : Job) (n : Nat) :
    s.seqRun j (n + 1) i = (s.putRun {}).finish j 0 [] := by
  rcases hs : s.seqAct i with ⟨a, k, v⟩
  rw [hs] at h
  cases (show a = 0 from h)
  rw [State.seqRun, hs]
  rfl

theorem State.seqRun_waits {s : State} {i : Nat} (h : (s.seqAct i).1 = 4) (ht : (s.seqAct i).2.2 ≠ 0) (j : Job) (n : Nat) :
    s.seqRun j (n + 1) i = s.putRun { s.crerus.run with on := true, step := i } := by
  rcases hs : s.seqAct i with ⟨a, k, v⟩
  rw [hs] at h ht
  cases (show a = 4 from h)
  rw [State.seqRun, hs]
  exact if_neg ht

section
variable (j : Job) (s : State) (h : s.Serves j) (hv : j.verb = 5) (hn : j.noun = 0xB03)
include h hv hn

theorem doSeqRun_begins (hm : j.md = 0) : exec .doSeqRun s = .next ((s.seqBegun j).seqRun j 16 0) :=
  congrArg Host.Outcome.next (h.serve (by simp [Job.isDo_of hv hn, hm]) _)

theorem doSeqRun_ends (hm : j.md = 0) (ha : (s.seqAct 0).1 = 0) :
    ∃ t, exec .doSeqRun s = .next t ∧ t.crerus.run = {} ∧ t.jobs.all (fun x => decide (x.id ≠ j.id)) = true := by
  have ends : (s.seqBegun j).seqRun j 16 0 = ((s.seqBegun j).putRun {}).finish j 0 [] :=
    State.seqRun_end (by rw [State.seqBegun_seqAct]; exact ha) j 15
  refine ⟨_, doSeqRun_begins j s h hv hn hm, ?_, ?_⟩
  · rw [ends]
    exact congrArg Crerus.run (State.finish_crerus ..)
  · rw [ends]
    exact State.finish_jobs ..

theorem doSeqRun_waits (hm : j.md = 0) (ha : (s.seqAct 0).1 = 4) (ht : (s.seqAct 0).2.2 ≠ 0) :
    ∃ t, exec .doSeqRun s = .next t ∧ t.crerus.run = { on := true, step := 0, lanes := [] }
      ∧ { j with wait := .seq } ∈ t.crerus.susp := by
  have waits : (s.seqBegun j).seqRun j 16 0
      = (s.seqBegun j).putRun { (s.seqBegun j).crerus.run with on := true, step := 0 } :=
    State.seqRun_waits (by rw [State.seqBegun_seqAct]; exact ha) (by rw [State.seqBegun_seqAct]; exact ht) j 15
  refine ⟨_, doSeqRun_begins j s h hv hn hm, ?_, ?_⟩
  · rw [waits]
    rfl
  · rw [waits]
    exact s.mem_suspend j .seq

theorem doSeqUndo_disables (hm : j.md = 1) :
    exec .doSeqUndo s = .next (((((List.range 16).filter fun i => decide ((s.seqAct i).1 = 1)).reverse).foldl
      (fun (u : State) i => u.laneSwitch (u.seqAct i).2.1 false) s).finish j 0 []) :=
  congrArg Host.Outcome.next (h.serve (by simp [Job.isDo_of hv hn, hm]) _)

end

theorem sequenceStep_timesOut (j : Job) (s : State) (hj : s.seqJob = some j) (ho : s.crerus.run.on = true)
    (hu : s.crerusUp = true) :
    let r := s.crerus.run
    (fieldOf (seqStep s.crerus.sequence r.step) 6 1 ≠ 1 → ∃ u : State, exec (.sequenceStep true) s = .next (u.finish j 0x61 [r.step])
      ∧ u.crerus.run = {})
    ∧ ((s.seqAct r.step).1 = 3 → s.inWindowOf (s.seqAct r.step).2.1 (s.seqAct r.step).2.2 = false →
        exec (.sequenceStep false) s = .next s) := by
  intro r
  have goes (b : Bool) : exec (.sequenceStep b) s = .next (s.seqGo j b) := by
    refine congrArg Host.Outcome.next ?_
    rw [hj]
    exact if_pos (by rw [ho, hu]; rfl)
  rw [goes, goes]
  unfold State.seqGo
  refine ⟨fun hf => ?_, fun ha hw => ?_⟩
  · exact ⟨_, congrArg Host.Outcome.next ((if_neg (by decide)).trans (if_neg hf)), rfl⟩
  · exact congrArg Host.Outcome.next ((if_pos rfl).trans (if_pos ⟨ha, hw⟩))

/-! ### Fans (R337) -/

/-- What the fan service holds of a fan that is not enabled. -/
def fanOff (rpm : Nat) : Fan := { rpm := rpm, duty := 0, stalled := false }

theorem fanStall_off {p : List Nat} (h : (fieldOf p 0 1).testBit 0 = false) (rpm : Nat) : fanStall p rpm = false := by
  rw [fanStall, h, Bool.false_and]

theorem State.fanWrite_off {p : List Nat} (h : (fieldOf p 0 1).testBit 0 = false) (s : State) (duty : Nat) :
    s.fanWrite p duty = s := if_neg (by rw [h]; exact Bool.false_ne_true)

theorem State.fanTick_off {s : State} (h : ∀ i, i < 4 → (fieldOf (s.fanEntry i) 0 1).testBit 0 = false) (a b c d : Nat) :
    s.fanTick [a, b, c, d]
      = ({ s with crerus := { s.crerus with fans := [fanOff a, fanOff b, fanOff c, fanOff d] } } : State).bsvcNow := by
  have h0 := h 0 (by decide)
  have h1 := h 1 (by decide)
  have h2 := h 2 (by decide)
  have h3 := h 3 (by decide)
  simp [State.fanTick, List.range_succ, fanStall_off h0, fanStall_off h1, fanStall_off h2, fanStall_off h3,
    State.fanWrite_off h0, State.fanWrite_off h1, State.fanWrite_off h2, State.fanWrite_off h3, h0, h1, h2, h3, fanOff,
    -Nat.testBit_zero]

theorem fanServiceTick_off (a b c d : BitVec 16) (s : State) (ha : s.crerus.alive = true) (h1 : s.on 1 = true)
    (h : ∀ i, i < 4 → (fieldOf (s.fanEntry i) 0 1).testBit 0 = false) :
    ∃ t, exec (.fanServiceTick a b c d) s = .next t
      ∧ t.crerus.fans = [{ rpm := a.toNat, duty := 0, stalled := false }, { rpm := b.toNat, duty := 0, stalled := false },
          { rpm := c.toNat, duty := 0, stalled := false }, { rpm := d.toNat, duty := 0, stalled := false }]
      ∧ RegsOnly (fun f => f = R.HLT_STAT_BSVCLIVE) s t :=
  ⟨_, congrArg Host.Outcome.next ((if_pos (by rw [ha, h1]; rfl)).trans (State.fanTick_off h ..)), rfl,
    fun _ hf => State.get_set_ne _ (Ne.symm hf) _⟩

/-- Settles O41: each service by its branches, a sequence by its first step, the fans with none enabled. -/
theorem crerusServicesAndFans : Obligations.CrerusServicesAndFans :=
  ⟨attest_answers, wipe_empties, watch_subscribes, forget_unsubscribes, noticeDelivery_writes, doPing_echoes,
    doSeqRun_ends, doSeqRun_waits, doSeqUndo_disables, sequenceStep_timesOut, fanServiceTick_off⟩

end Sys2Proof.Machine
end

section
/-!
PROOFS about the DO requests of the Warp bus, the life cycle, the DRBG and the tamper state (for O42; Tables 7.6, 17.9
and 19.11).
-/

namespace Sys2Proof.Machine

/-! ### The Warp Nouns (R148, R154, R155, R157) -/

theorem State.withWarp_on {s : State} (h : s.on 9 = true) (j : Job) (f : State → State) : s.withWarp j f = f s := if_pos h

/-- A message opens its transfer among those of the node, and its request waits for it. -/
theorem State.sendFor_opens (s : State) (j : Job) (dst : Nat) (b : List Nat) :
    { xid := s.freshXid, dst := dst, bytes := b, job := j.id } ∈ (s.sendFor j dst b).warp.sends
      ∧ { j with wait := .warp s.freshXid } ∈ (s.sendFor j dst b).crerus.susp := by
  refine ⟨?_, State.mem_suspend ..⟩
  have sent (u : State) (d : Send) : (u.sendFrags d).warp.sends = u.warp.sends := by
    unfold State.sendFrags
    split <;> rfl
  change _ ∈ (s.openSend _).warp.sends
  rw [State.openSend, sent]
  exact List.mem_append_right _ List.mem_cons_self

section
variable (j : Job) (s : State) (h : s.Serves j) (hv : j.verb = 5)
include h hv

theorem doWarpGstart_launches (hn : j.noun = 0x402) (h9 : s.on 9 = true) :
    (s.isMaster = true → fieldOf j.pay 0 8 < s.time.tb.toNat + 500 → exec .doWarpGstart s = .next (s.finish j 0x50 []))
    ∧ (s.isMaster = true → s.time.tb.toNat + 500 ≤ fieldOf j.pay 0 8 → ∀ g : Fin 16, fieldOf j.pay 8 1 = g.val →
        let f : Frame := .gstart g (BitVec.ofNat 64 (fieldOf j.pay 0 8))
        exec .doWarpGstart s = .next ((s.queueFrame f).suspend j (.gstart f)))
    ∧ (s.isMaster = false →
        exec .doWarpGstart s = .next (s.sendFor j 0 (mkMsg 5 0 0x402 j.seq 0 0 j.pay))) := by
  have runs : exec .doWarpGstart s = .next (s.gstart j) :=
    congrArg Host.Outcome.next ((h.serve (Job.isDo_of hv hn) _).trans (State.withWarp_on h9 j _))
  rw [runs]
  unfold State.gstart
  refine ⟨fun hm hl => ?_, fun hm hl g hg => ?_, fun hm => ?_⟩
  · exact congrArg Host.Outcome.next ((if_pos hm).trans (if_pos (.inl hl)))
  · have group : Fin.ofNat 16 (fieldOf j.pay 8 1) = g := by
      rw [hg]
      exact Fin.ofNat_val_eq_self g
    have early : ¬ (fieldOf j.pay 0 8 < s.time.tb.toNat + 500 ∨ 16 ≤ fieldOf j.pay 8 1) := by
      have := g.isLt
      omega
    refine congrArg Host.Outcome.next ((if_pos hm).trans ((if_neg early).trans ?_))
    rw [group]
  · exact congrArg Host.Outcome.next (if_neg (by rw [hm]; exact Bool.false_ne_true))

theorem doWarp_acts (h9 : s.on 9 = true) :
    (j.noun = 0x403 → goodMsg (j.pay.drop 4) = true → msgLen (j.pay.drop 4) = (j.pay.drop 4).length →
      ∃ t, exec .doWarpSend s = .next t
        ∧ { xid := s.freshXid, dst := fieldOf j.pay 0 1, bytes := j.pay.drop 4, job := j.id } ∈ t.warp.sends
        ∧ { j with wait := .warp s.freshXid } ∈ t.crerus.susp)
    ∧ (j.noun = 0x405 → exec .doWarpReset s = .next
        ((s.queueFrame (.bypass 4 (BitVec.ofNat 8 (fieldOf j.pay 0 1)))).finish j 0 []))
    ∧ (j.noun = 0x406 → exec .doWarpCal s = .next (s.startEnum.finish j 0 [])) := by
  refine ⟨fun hn hg hl => ?_, fun hn => ?_, fun hn => ?_⟩
  · have whole : (!goodMsg (j.pay.drop 4) || decide (msgLen (j.pay.drop 4) ≠ (j.pay.drop 4).length)) ≠ true := by
      rw [hg, decide_eq_false (not_not_intro hl)]
      exact Bool.false_ne_true
    exact ⟨_, congrArg Host.Outcome.next ((h.serve (Job.isDo_of hv hn) _).trans ((State.withWarp_on h9 j _).trans
      (if_neg whole))), State.sendFor_opens ..⟩
  · exact congrArg Host.Outcome.next ((h.serve (Job.isDo_of hv hn) _).trans (State.withWarp_on h9 j _))
  · exact congrArg Host.Outcome.next ((h.serve (Job.isDo_of hv hn) _).trans (State.withWarp_on h9 j _))

theorem doWarpCal_off (h9 : s.on 9 = false) (hn : j.noun = 0x406) : exec .doWarpCal s = .next (s.finish j 0x20 []) :=
  congrArg Host.Outcome.next ((h.serve (Job.isDo_of hv hn) _).trans (if_neg (by rw [h9]; exact Bool.false_ne_true)))

/-! ### The life-cycle Nouns (R420 to R422) -/

omit h hv in
theorem State.lcJob_ends {s u : State} {j : Job} {t c : Nat} {scrap : Bool} {tok : Option (List Nat)}
    (h : s.lcRequest t scrap tok (some j.id) = (some c, u)) : s.lcJob j t scrap tok = u.finish j c [] := by
  rw [State.lcJob, h]

omit h hv in
theorem State.lcJob_waits {s u : State} {j : Job} {t : Nat} {scrap : Bool} {tok : Option (List Nat)}
    (h : s.lcRequest t scrap tok (some j.id) = (none, u)) : s.lcJob j t scrap tok = u.suspend j .lc := by
  rw [State.lcJob, h]

omit h hv in
theorem State.lcRequest_good_token {s : State} {t n : Nat} (h : s.lcRefusal t false = none) (ht : t = 2 ∨ t = 5)
    (hs : s.lcSlot t = some n) {token : List Nat} (hf : s.get R.LCS_TOKFAIL < 3) (hg : s.tokenGood t token = true)
    (job : Option Nat) : s.lcRequest t false (some token) job = (none, (s.lcBegin n job).clearToken) := by
  simp only [State.lcRequest, State.lcJudge, h, hs, if_pos ht, if_neg (Nat.not_le.mpr hf), if_pos hg]

theorem doLcTransition_runs (hn : j.noun = 0x501) :
    exec .doLcTransition s = .next (s.lcJob j (fieldOf j.pay 0 1) false none) :=
  congrArg Host.Outcome.next (h.serve (Job.isDo_of hv hn) _)

theorem doLcTransition_refused (hn : j.noun = 0x501) (c : Nat) (hr : s.lcRefusal (fieldOf j.pay 0 1) false = some c) :
    exec .doLcTransition s = .next (s.clearToken.finish j c []) :=
  (doLcTransition_runs j s h hv hn).trans (congrArg _ (State.lcJob_ends (State.lcRequest_refused hr ..)))

theorem doLcTransition_begins (hn : j.noun = 0x501) (hr : s.lcRefusal (fieldOf j.pay 0 1) false = none)
    (h2 : fieldOf j.pay 0 1 ≠ 2) (h5 : fieldOf j.pay 0 1 ≠ 5) (n : Nat) (hs : s.lcSlot (fieldOf j.pay 0 1) = some n) :
    exec .doLcTransition s = .next ((s.lcBegin n (some j.id)).clearToken.suspend j .lc) :=
  (doLcTransition_runs j s h hv hn).trans (congrArg _ (State.lcJob_waits (State.lcRequest_begins hr hs h2 h5 ..)))

theorem doLcToken_tries (hn : j.noun = 0x502) (ht : fieldOf j.pay 0 1 = 2) (hr : s.lcRefusal 2 false = none) (n : Nat)
    (hs : s.lcSlot 2 = some n) :
    (3 ≤ s.get R.LCS_TOKFAIL → exec .doLcToken s = .next (s.clearToken.finish j 0x13 []))
    ∧ (s.get R.LCS_TOKFAIL < 3 → exec .doLcToken s = .next
        (if s.tokenGood 2 (j.pay.drop 4) then (s.lcBegin n (some j.id)).clearToken.suspend j .lc
         else (s.inc R.LCS_TOKFAIL).clearToken.finish j 0x13 [])) := by
  have runs : exec .doLcToken s = .next (s.lcJob j 2 false (some (j.pay.drop 4))) := by
    refine congrArg Host.Outcome.next ((h.serve (Job.isDo_of hv hn) _).trans ?_)
    dsimp only
    rw [ht]
    exact if_pos (.inl rfl)
  rw [runs]
  refine ⟨fun hf => ?_, fun hf => congrArg Host.Outcome.next ?_⟩
  · have refused := State.lcRequest_bad_token (token := j.pay.drop 4) hr (.inl rfl) (.inr hf) (some j.id)
    rw [State.tokenFailed, if_pos hf] at refused
    exact congrArg _ (State.lcJob_ends refused)
  · cases hg : s.tokenGood 2 (j.pay.drop 4) with
    | true => exact State.lcJob_waits (State.lcRequest_good_token hr (.inl rfl) hs hf hg _)
    | false =>
      have refused := State.lcRequest_bad_token hr (.inl rfl) (.inl hg) (some j.id)
      rw [State.tokenFailed, if_neg (Nat.not_le.mpr hf)] at refused
      exact State.lcJob_ends refused

theorem doLcScrap_begins (hn : j.noun = 0x503) (hw : wordAt j.pay 0 = 0x5C4A) (hd : j.pay.drop 4 = s.devId)
    (hr : s.lcRefusal 7 true = none) (n : Nat) (hs : s.lcSlot 7 = some n) :
    exec .doLcScrap s = .next ((s.lcBegin n (some j.id)).clearToken.suspend j .lc) :=
  congrArg Host.Outcome.next ((h.serve (Job.isDo_of hv hn) _).trans ((if_pos ⟨hw, hd⟩).trans
    (State.lcJob_waits (State.lcRequest_begins hr hs (by decide) (by decide) ..))))

theorem doLcScrap_denied (hn : j.noun = 0x503) (hw : wordAt j.pay 0 ≠ 0x5C4A) :
    exec .doLcScrap s = .next (s.finish j 0x13 []) :=
  congrArg Host.Outcome.next ((h.serve (Job.isDo_of hv hn) _).trans (if_neg fun e => hw e.1))

theorem doLc_acts :
    (j.noun = 0x501 → ∀ c, s.lcRefusal (fieldOf j.pay 0 1) false = some c → exec .doLcTransition s = .next (s.clearToken.finish j c []))
    ∧ (j.noun = 0x501 → s.lcRefusal (fieldOf j.pay 0 1) false = none → fieldOf j.pay 0 1 ≠ 2 → fieldOf j.pay 0 1 ≠ 5 →
        ∀ n, s.lcSlot (fieldOf j.pay 0 1) = some n → exec .doLcTransition s = .next ((s.lcBegin n (some j.id)).clearToken.suspend j .lc))
    ∧ (j.noun = 0x502 → fieldOf j.pay 0 1 = 2 → s.lcRefusal 2 false = none → ∀ n, s.lcSlot 2 = some n →
        (3 ≤ s.get R.LCS_TOKFAIL → exec .doLcToken s = .next (s.clearToken.finish j 0x13 []))
        ∧ (s.get R.LCS_TOKFAIL < 3 → exec .doLcToken s = .next
            (if s.tokenGood 2 (j.pay.drop 4) then (s.lcBegin n (some j.id)).clearToken.suspend j .lc
             else (s.inc R.LCS_TOKFAIL).clearToken.finish j 0x13 [])))
    ∧ (j.noun = 0x503 → wordAt j.pay 0 = 0x5C4A → j.pay.drop 4 = s.devId → s.lcRefusal 7 true = none →
        ∀ n, s.lcSlot 7 = some n → exec .doLcScrap s = .next ((s.lcBegin n (some j.id)).clearToken.suspend j .lc))
    ∧ (j.noun = 0x503 → wordAt j.pay 0 ≠ 0x5C4A → exec .doLcScrap s = .next (s.finish j 0x13 [])) :=
  ⟨doLcTransition_refused j s h hv, doLcTransition_begins j s h hv, doLcToken_tries j s h hv, doLcScrap_begins j s h hv,
    doLcScrap_denied j s h hv⟩

/-! ### The DRBG (R373 to R375) -/

omit h hv in
/-- DRBG output is as many bytes as are asked for. -/
theorem State.drbgBytes_bytes (s : State) (n : Nat) (fresh : Bool) :
    (s.drbgBytes n fresh).1.length = n ∧ ∀ x ∈ (s.drbgBytes n fresh).1, x < 256 := by
  have bytes (u : State) : (u.freeBytes n).1.length = n ∧ ∀ x ∈ (u.freeBytes n).1, x < 256 := by
    refine ⟨(List.length_map _).trans List.length_range, fun x hx => ?_⟩
    obtain ⟨i, -, rfl⟩ := List.mem_map.mp hx
    exact Nat.mod_lt _ (by decide)
  exact bytes _

omit h hv in
theorem State.withDrbg_free {s : State} (he : s.EngineFree) (hf : s.custody.esFail = false) (hd : s.custody.drbg = true)
    (j : Job) (f : State → State) : s.withDrbg j f = f s := by
  rw [State.withDrbg, State.withEngine_free he, if_neg]
  rw [hf, hd]
  exact Bool.false_ne_true

theorem doDrbgRandom_answers (hn : j.noun = 0x702) (hm : j.md = 0) :
    let n := fieldOf j.pay 0 2
    ((n = 0 ∨ 480 < n) → exec .doDrbgRandom s = .next (s.finish j 0x50 []))
    ∧ (1 ≤ n → n ≤ 480 → s.EngineFree → s.custody.esFail = false → s.custody.drbg = true →
        ∃ u l, exec .doDrbgRandom s = .next (State.finish u j 0 l) ∧ l.length = n ∧ (∀ x ∈ l, x < 256)
          ∧ OnlyIn [.free, .custody] s u) := by
  intro n
  have runs : exec .doDrbgRandom s = .next (s.drbgRandom j) :=
    congrArg Host.Outcome.next (h.serve (by simp [Job.isDo_of hv hn, hm]) _)
  rw [runs]
  refine ⟨fun hb => congrArg Host.Outcome.next (if_pos hb), fun h1 h480 he hf hd => ?_⟩
  have fits : ¬ (n = 0 ∨ 480 < n) := by omega
  set d := s.drbgBytes n ((fieldOf j.pay 2 1).testBit 0) with hdr
  obtain ⟨len, small⟩ := s.drbgBytes_bytes n ((fieldOf j.pay 2 1).testBit 0)
  exact ⟨d.2, d.1, congrArg Host.Outcome.next ((if_neg fits).trans (State.withDrbg_free he hf hd j _)), len, small,
    (s.drbgBytes_moves n _).onlyIn (K := partsOf [.free, .custody]) _ (by decide)⟩

omit h hv in
theorem State.slot_putSlot (s : State) {n : Nat} (h : n < 64) (k : KeySlot) : (s.putSlot n k).slot n = k :=
  Bank.at_put _ h k

omit h hv in
theorem State.slot_finish (s : State) (j : Job) (st : Nat) (pay : List Nat) (n : Nat) :
    (s.finish j st pay).slot n = s.slot n := by
  rw [State.slot, (s.finish_moves j st pay).same .custody (by decide), State.slot]

theorem doDrbgGenerate_makes (hn : j.noun = 0x702) (hm : j.md = 1) :
    let n := fieldOf j.pay 0 1
    let typ := fieldOf j.pay 1 1
    let pol := fieldOf j.pay 2 2
    let len := fieldOf j.pay 4 2
    (j.cls ≠ .s → exec .doDrbgGenerate s = .next (s.finish j 0x13 []))
    ∧ (j.cls = .s → n < 63 → slotForm typ len pol = true → (s.slot n).occ = false → s.EngineFree → s.custody.esFail = false →
        s.custody.drbg = true →
        ∃ t, exec .doDrbgGenerate s = .next t ∧ (t.slot n).occ = true ∧ (t.slot n).typ = typ ∧ (t.slot n).len = len
          ∧ (t.slot n).policy = pol) := by
  intro n typ pol len
  have runs : exec .doDrbgGenerate s = .next (s.drbgGenerate j) :=
    congrArg Host.Outcome.next (h.serve (by simp [Job.isDo_of hv hn, hm]) _)
  rw [runs]
  refine ⟨fun hc => congrArg Host.Outcome.next (if_pos hc), fun hc h63 hform hocc he hf hd => ?_⟩
  have limits : ¬ (63 < n ∨ slotForm typ len pol = false ∨ (n = 63 ∧ (typ ≠ 2 ∨ len ≠ 48 ∨ pol ≠ 4))) := by
    rw [hform]
    rintro (h | h | h)
    · omega
    · cases h
    · omega
  have empty : ((s.slot n).occ && !((fieldOf j.pay 6 1).testBit 0 && (s.slot n).policy.testBit 1)) ≠ true := by
    rw [hocc, Bool.false_and]
    exact Bool.false_ne_true
  set k := s.newKey typ len with hk
  set new : KeySlot := { occ := true, typ := typ, len := len, policy := pol, key := k.1.1 } with hnew
  have next : s.drbgGenerate j = (k.2.putSlot n new).finish j 0 k.1.2 :=
    (if_neg (not_not_intro hc)).trans ((if_neg limits).trans ((if_neg empty).trans (State.withDrbg_free he hf hd j _)))
  have here : (s.drbgGenerate j).slot n = new := by
    rw [next, State.slot_finish, State.slot_putSlot _ (by omega)]
  refine ⟨_, rfl, ?_⟩
  rw [here]
  exact ⟨rfl, rfl, rfl, rfl⟩

end

/-! ### TAMPER_CLEAR (R383) -/

/-- The tamper response is over, before the keys are formed again. -/
def State.tamperCalm (s : State) : State :=
  let t := ((s.set R.TMP_STAT_RESP 0).set R.TMP_STAT_LATCHED 0).set R.TMP_STAT_ZACT 0
  let t := if t.on 10 then t.set R.Q_STATUS_TAMPER 0 else t
  { t with custody := { t.custody with slotLoss := false } }

theorem State.get_tamperCalm (s : State) {f : Fld} (h : R.Q_STATUS_TAMPER.apart f = true) :
    s.tamperCalm.get f = (((s.set R.TMP_STAT_RESP 0).set R.TMP_STAT_LATCHED 0).set R.TMP_STAT_ZACT 0).get f := by
  unfold State.tamperCalm
  dsimp only
  split
  · exact State.get_set_apart _ h 0
  · rfl

/-- An enabled source that responds is active. -/
def State.tamperLive (s : State) : Bool :=
  (List.range 9).any fun n => s.bit R.TMP_STAT_ACTIVE n && s.tampEn n && s.bit R.TMP_SRCCFG_ACTION n

theorem State.bit_active (s : State) (live : BitVec 9) (n : Nat) :
    (s.set R.TMP_STAT_ACTIVE live.toNat).bit R.TMP_STAT_ACTIVE n = live.toNat.testBit n := by
  rw [State.bit, State.get_set]
  exact congrArg (Nat.testBit · n) (Nat.mod_eq_of_lt live.isLt)

theorem State.tamperLive_iff (s : State) (live : BitVec 9) : (s.set R.TMP_STAT_ACTIVE live.toNat).tamperLive = true ↔
    ∃ n < 9, live.toNat.testBit n = true ∧ s.tampEn n = true ∧ s.bit R.TMP_SRCCFG_ACTION n = true := by
  have watched (n : Nat) : (s.set R.TMP_STAT_ACTIVE live.toNat).tampEn n = s.tampEn n := by
    rw [State.tampEn, State.tampEn, State.on_congr (State.get_set_apart s rfl live.toNat),
      State.bit_congr (State.get_set_apart s rfl live.toNat)]
  have responds (n : Nat) : (s.set R.TMP_STAT_ACTIVE live.toNat).bit R.TMP_SRCCFG_ACTION n = s.bit R.TMP_SRCCFG_ACTION n :=
    State.bit_congr (State.get_set_apart s rfl _) n
  rw [State.tamperLive, List.any_eq_true]
  simp only [List.mem_range, Bool.and_eq_true, State.bit_active, watched, responds, and_assoc]

section
variable (live : BitVec 9) (j : Job) (s : State) (h : s.Serves j) (hv : j.verb = 5) (hn : j.noun = 0x902)
include h hv hn

theorem doTamperClear_runs :
    exec (.doTamperClear live) s = .next ((s.set R.TMP_STAT_ACTIVE live.toNat).tamperClear j) :=
  congrArg Host.Outcome.next (h.serve (Job.isDo_of hv hn) _)

theorem doTamperClear_clears (hw : s.custody.wiping = false)
    (hl : ∀ n, n < 9 → live.toNat.testBit n = true → s.tampEn n = true → s.bit R.TMP_SRCCFG_ACTION n = false) :
    ∃ u : State, exec (.doTamperClear live) s = .next (u.finish j 0 []) ∧ u.get R.TMP_STAT_RESP = 0
      ∧ u.get R.TMP_STAT_LATCHED = 0 ∧ u.get R.TMP_STAT_ACTIVE = live.toNat ∧ u.custody.slotLoss = false := by
  have quiet : ((s.set R.TMP_STAT_ACTIVE live.toNat).tamperLive || s.custody.wiping) ≠ true := by
    rw [hw, Bool.or_false, ne_eq, State.tamperLive_iff]
    rintro ⟨n, h9, hb, he, ha⟩
    rw [hl n h9 hb he] at ha
    cases ha
  set c := (s.set R.TMP_STAT_ACTIVE live.toNat).tamperCalm with hc
  have formed {f : Fld} (h0 : f.pd = 0) : c.formKeys.get f = c.get f := c.formKeys_moves.same (.pd 0) (by decide) f h0
  refine ⟨c.formKeys, (doTamperClear_runs live j s h hv hn).trans (congrArg _ (if_neg quiet)), ?_, ?_, ?_, ?_⟩
  · rw [formed rfl, State.get_tamperCalm _ rfl, State.get_set_apart _ rfl, State.get_set_apart _ rfl]
    exact State.get_set ..
  · rw [formed rfl, State.get_tamperCalm _ rfl, State.get_set_apart _ rfl]
    exact State.get_set ..
  · rw [formed rfl, State.get_tamperCalm _ rfl, State.get_set_apart _ rfl, State.get_set_apart _ rfl,
      State.get_set_apart _ rfl, State.get_set]
    exact Nat.mod_eq_of_lt live.isLt
  · unfold State.formKeys
    split <;> rfl

theorem doTamperClear_busy (n : Nat) (h9 : n < 9) (hb : live.toNat.testBit n = true) (he : s.tampEn n = true)
    (ha : s.bit R.TMP_SRCCFG_ACTION n = true) :
    exec (.doTamperClear live) s = .next ((s.set R.TMP_STAT_ACTIVE live.toNat).finish j 0x20 []) := by
  have active : (s.set R.TMP_STAT_ACTIVE live.toNat).tamperLive = true := (State.tamperLive_iff ..).mpr ⟨n, h9, hb, he, ha⟩
  have busy : ((s.set R.TMP_STAT_ACTIVE live.toNat).tamperLive || s.custody.wiping) = true := by rw [active, Bool.true_or]
  exact (doTamperClear_runs live j s h hv hn).trans (congrArg _ (if_pos busy))

end

end Sys2Proof.Machine
end

section
/-!
PROOFS about vendor firmware: its start, its restarts, its watchdog and its updates (R326, R327, R330, R336, R503 to R506),
and the statement on DO requests and firmware (O42).
-/

namespace Sys2Proof.Machine

/-! ### The start of vendor firmware (R375, R379, R503) -/

/-- Crerus, custody and the journal as vendor firmware of the chosen slot takes them. -/
def State.fwTaken (s : State) (kat : Bool) : State :=
  let n := s.crerus.slot
  let c := s.crerus
  { s with
    crerus := { c with alive := true, started := true, recovery := false, activating := false, verified := false, work := c.bootDraft
                       version := s.fwVersion n, svn := s.fwSvn n, trial := !s.fwMark n 2 }
    custody := { s.custody with katFail := !kat, esFail := false, esFails := 0, esStopped := false }
    jrnl := { s.jrnl with key := s.journalKey } }

/-- The strands are quiesced where a fault of the Ply stands. -/
def State.fwQuiet (s : State) : State := if s.ply.fault then s.quiesceStrands else s

/-- The mesh channels that are enabled are seeded. -/
def State.fwSeeded (s : State) : State :=
  if s.custody.drbg then [0, 1].foldl (fun s n => if s.tampEn n then s.meshSeed n else s) s else s

/-- Firmware that starts forms its keys and seeds the mesh channels. -/
def State.fwKeyed (s : State) : State := s.fwQuiet.formKeys.restoreSummary.fwSeeded

/-- Firmware that starts shows the host that it serves; `first` is its first start. -/
def State.fwShown (s : State) (first : Bool) : State :=
  if s.on 10 then (if first then s.set R.HIF_STATUS_FWREADY 1 else s).set R.Q_STATUS_HELD 0 else s

/-- Firmware runs, and has not taken the NOUN entries of the boot Draft. -/
def State.fwRunning (s : State) (kat : Bool) : State := (s.fwTaken kat).fwKeyed.fwShown !s.crerus.started

theorem State.fwStart_eq (s : State) (kat : Bool) : s.fwStart kat =
    if (!s.crerus.started) = true then s.crerus.bootDraft.entries.foldl State.nounEntry (s.fwRunning kat)
    else s.fwRunning kat := by
  unfold State.fwStart
  extract_lets slot first c jrnl custody taken quiet keyed seeded shown
  have hquiet : quiet = (s.fwTaken kat).fwQuiet := rfl
  have hkeyed : keyed = (s.fwTaken kat).fwQuiet.formKeys.restoreSummary := congrArg (fun t => t.formKeys.restoreSummary) hquiet
  have hseeded : seeded = (s.fwTaken kat).fwKeyed := congrArg State.fwSeeded hkeyed
  have hshown : shown = s.fwRunning kat := congrArg (State.fwShown · first) hseeded
  rw [hshown]

theorem State.fwStart_first {s : State} (h : s.crerus.started = false) (kat : Bool) :
    s.fwStart kat = s.crerus.bootDraft.entries.foldl State.nounEntry (s.fwRunning kat) := by
  rw [State.fwStart_eq, h]
  exact if_pos rfl

theorem State.fwStart_again {s : State} (h : s.crerus.started = true) (kat : Bool) : s.fwStart kat = s.fwRunning kat := by
  rw [State.fwStart_eq, h]
  exact if_neg Bool.false_ne_true

theorem State.fwQuiet_moves (s : State) : Moves 0x404000000000 s s.fwQuiet := by
  unfold State.fwQuiet
  split
  · exact s.quiesceStrands_moves
  · exact .refl ..

theorem State.fwSeeded_moves (s : State) : Moves 0x400000001 s s.fwSeeded := by
  unfold State.fwSeeded
  split
  · refine Moves.foldl (.refl ..) fun u n => ?_
    split
    · exact u.meshSeed_moves n
    · exact .refl ..
  · exact .refl ..

theorem State.fwKeyed_crerus (s : State) : s.fwKeyed.crerus = s.crerus :=
  ((State.fwSeeded_moves _).same .crerus (by decide)).trans (((State.restoreSummary_moves _).same .crerus (by decide)).trans
    (((State.formKeys_moves _).same .crerus (by decide)).trans (s.fwQuiet_moves.same .crerus (by decide))))

theorem State.fwSeeded_katFail (s : State) : s.fwSeeded.custody.katFail = s.custody.katFail := by
  have seeds (u : State) (n : Nat) : (if u.tampEn n then u.meshSeed n else u).custody.katFail = u.custody.katFail := by
    split <;> rfl
  unfold State.fwSeeded
  split
  · exact (seeds _ 1).trans (seeds s 0)
  · rfl

theorem State.formKeys_katFail (s : State) : s.formKeys.custody.katFail = s.custody.katFail := by
  unfold State.formKeys
  split <;> rfl

theorem State.fwKeyed_katFail (s : State) : s.fwKeyed.custody.katFail = s.custody.katFail := by
  have restored := (State.restoreSummary_moves s.fwQuiet.formKeys).same .custody (by decide)
  have quiet := s.fwQuiet_moves.same .custody (by decide)
  rw [State.fwKeyed, State.fwSeeded_katFail, restored, State.formKeys_katFail, quiet]

/-- The start of vendor firmware changes no domain but those of the strands. -/
theorem State.on10_fwKeyed (s : State) : s.fwKeyed.on 10 = s.on 10 := by
  have seeded (u : State) : u.fwSeeded.get (R.PWR_DOM 10) = u.get (R.PWR_DOM 10) :=
    u.fwSeeded_moves.same (.pd 0) (by decide) (R.PWR_DOM 10) rfl
  have formed (u : State) : u.formKeys.get (R.PWR_DOM 10) = u.get (R.PWR_DOM 10) :=
    u.formKeys_moves.same (.pd 0) (by decide) (R.PWR_DOM 10) rfl
  have restored (u : State) : u.restoreSummary.get (R.PWR_DOM 10) = u.get (R.PWR_DOM 10) := by
    unfold State.restoreSummary
    dsimp only
    split
    · rfl
    · split
      · exact (State.get_set_apart _ rfl _).trans (State.get_set_apart u rfl _)
      · exact State.get_set_apart u rfl _
  have quiet : s.fwQuiet.get (R.PWR_DOM 10) = s.get (R.PWR_DOM 10) := by
    unfold State.fwQuiet
    split
    · exact s.get_quiesceStrands (by decide)
    · rfl
  refine State.on_congr ?_
  rw [State.fwKeyed, seeded, restored, formed, quiet]

theorem State.fwShown_kept (s : State) (first : Bool) :
    (s.fwShown first).crerus = s.crerus ∧ (s.fwShown first).custody = s.custody := by
  unfold State.fwShown
  split
  · split <;> exact ⟨rfl, rfl⟩
  · exact ⟨rfl, rfl⟩

theorem State.fwShown_first {s : State} (h : s.on 10 = true) :
    (s.fwShown true).get R.HIF_STATUS_FWREADY = 1 ∧ (s.fwShown true).get R.Q_STATUS_HELD = 0 := by
  rw [State.fwShown, if_pos h, if_pos rfl]
  exact ⟨(State.get_set_apart _ rfl _).trans (State.get_set ..), State.get_set ..⟩

/-- Of Crerus, firmware that starts takes what `State.fwTaken` says. -/
theorem State.fwRunning_crerus (s : State) (kat : Bool) : (s.fwRunning kat).crerus = (s.fwTaken kat).crerus :=
  (State.fwShown_kept ..).1.trans (State.fwKeyed_crerus _)

theorem vendorFirmwareStart_starts (kat : Bool) (s : State) (hb : s.get R.RST_BOOT_STEP = 10) (hs : s.crerus.started = false)
    (ha : s.crerus.alive = false) (hr : s.flag R.RST_BOOT_RECOVERY = false) (hl : s.lcState ≠ 7) (h1 : s.on 1 = true) :
    ∃ u : State, exec (.vendorFirmwareStart kat) s = .next (s.crerus.bootDraft.entries.foldl State.nounEntry u)
      ∧ u.crerus.alive = true ∧ u.crerus.started = true ∧ u.crerus.verified = false ∧ u.custody.katFail = !kat
      ∧ u.crerus.version = s.fwVersion s.crerus.slot ∧ u.crerus.work = s.crerus.bootDraft
      ∧ (s.on 10 = true → u.get R.HIF_STATUS_FWREADY = 1 ∧ u.get R.Q_STATUS_HELD = 0) := by
  have taken := s.fwRunning_crerus kat
  refine ⟨s.fwRunning kat, ?_, ?_, ?_, ?_, ?_, ?_, ?_, fun h10 => ?_⟩
  · exact congrArg Host.Outcome.next ((if_pos (by simp [hb, hs, ha, hr, hl, h1])).trans (State.fwStart_first hs kat))
  · rw [taken]; rfl
  · rw [taken]; rfl
  · rw [taken]; rfl
  · rw [State.fwRunning, (State.fwShown_kept ..).2, State.fwKeyed_katFail]
    rfl
  · rw [taken]; rfl
  · rw [taken]; rfl
  · rw [State.fwRunning, hs]
    exact State.fwShown_first ((State.on10_fwKeyed _).trans h10)

/-! ### Restarts (R327, R330, R357) -/

/-- Crerus has lost what it took, what is watched and what is pending; requests that wait and the fan policy stay. -/
structure State.Restarted (s t : State) : Prop where
  started : t.crerus.started = s.crerus.started
  pend : t.crerus.pend = []
  subs : t.crerus.subs = []
  cur : t.crerus.cur = none
  susp : t.crerus.susp = []
  arr : t.crerus.arr = s.crerus.arr
  fanPolicy : t.crerus.fanPolicy = s.crerus.fanPolicy

theorem State.crerusLost_restarted (s : State) : s.Restarted s.crerusLost := by
  unfold State.crerusLost
  dsimp only
  split <;> exact ⟨rfl, rfl, rfl, rfl, rfl, rfl, rfl⟩

theorem State.Restarted.congr {s t u : State} (h : s.Restarted t) (e : u.crerus = t.crerus) : s.Restarted u := by
  obtain ⟨started, pend, subs, cur, susp, arr, fan⟩ := h
  rw [← e] at started pend subs cur susp arr fan
  exact ⟨started, pend, subs, cur, susp, arr, fan⟩

theorem State.fwChoose_restarted {s t : State} (h : s.Restarted t) : s.Restarted t.fwChoose := by
  set u := t.set R.RST_BOOT_FWFAIL 0 with hu
  have picked : (u.fwPick u.fwOrder).2.crerus = t.crerus := (State.fwPick_moves ..).same .crerus (by decide)
  obtain ⟨started, pend, subs, cur, susp, arr, fan⟩ := h.congr picked
  unfold State.fwChoose
  dsimp only
  rw [← hu]
  rcases hp : u.fwPick u.fwOrder with ⟨_ | n, v⟩ <;> rw [hp] at started pend subs cur susp arr fan
  · refine State.Restarted.congr (t := { v with crerus := { v.crerus with recovery := true } })
      ⟨started, pend, subs, cur, susp, arr, fan⟩ ?_
    exact (State.advise_moves ..).same .crerus (by decide)
  · exact ⟨started, pend, subs, cur, susp, arr, fan⟩

theorem State.fwStart_restarted {s t : State} (h : s.Restarted t) (hs : s.crerus.started = true) (kat : Bool)
    (mbs : List Nat) : s.Restarted ((t.fwStart kat).trialNotices mbs) := by
  obtain ⟨started, pend, subs, cur, susp, arr, fan⟩ := h
  have running : s.Restarted (t.fwStart kat) := by
    rw [State.fwStart_again (started.trans hs)]
    exact State.Restarted.congr (t := t.fwTaken kat) ⟨hs.symm, pend, subs, cur, susp, arr, fan⟩ (t.fwRunning_crerus kat)
  obtain ⟨started, pend, subs, cur, susp, arr, fan⟩ := running
  unfold State.trialNotices
  split
  · exact ⟨started, pend, subs, cur, susp, arr, fan⟩
  · exact ⟨started, pend, subs, cur, susp, arr, fan⟩

theorem State.crerus_ite_set (s : State) (c : Prop) [Decidable c] (f : Fld) (v : Nat) :
    (if c then s.set f v else s).crerus = s.crerus := by
  split <;> rfl

theorem State.crerusRestart_restarted {s : State} (hs : s.crerus.started = true) (kat : Bool) :
    s.Restarted (s.crerusRestart kat) := by
  have lost := s.holdQueue.crerusLost_restarted
  have chosen : s.Restarted s.holdQueue.crerusLost.fwChoose :=
    State.fwChoose_restarted ⟨lost.started, lost.pend, lost.subs, lost.cur, lost.susp, lost.arr, lost.fanPolicy⟩
  have told := chosen.congr (State.crerus_ite_set _ (s.holdQueue.crerusLost.fwChoose.on 10 = true) R.HIF_IRQSTAT_FWEVT 1)
  unfold State.crerusRestart
  dsimp only
  generalize (if s.holdQueue.crerusLost.fwChoose.on 10 = true then s.holdQueue.crerusLost.fwChoose.set R.HIF_IRQSTAT_FWEVT 1
    else s.holdQueue.crerusLost.fwChoose) = t at told ⊢
  split
  · exact told.congr (State.crerus_ite_set t (t.on 10 = true) R.HIF_STATUS_RESTARTING 0)
  · exact State.fwStart_restarted told hs kat _

theorem crerusRestartComplete_restarts (kat : Bool) (s : State) (h1 : s.on 1 = true) (hs : s.crerus.started = true)
    (hr : s.activated = true ∨ s.mustRestart = true) :
    ∃ t, exec (.crerusRestartComplete kat) s = .next t ∧ t.crerus.pend = [] ∧ t.crerus.subs = []
      ∧ t.crerus.cur = none ∧ t.crerus.susp = [] ∧ t.crerus.arr = s.crerus.arr ∧ t.crerus.fanPolicy = s.crerus.fanPolicy := by
  have done := State.crerusRestart_restarted hs kat
  refine ⟨_, congrArg Host.Outcome.next (if_pos ?_), done.pend, done.subs, done.cur, done.susp, done.arr, done.fanPolicy⟩
  rw [h1, Bool.true_and, Bool.or_eq_true]
  exact hr

/-! ### The watchdog of Crerus (R330) -/

/-- The time of a watchdog expiry is kept. -/
def State.wdMarked (s : State) : State := { s with crerus := { s.crerus with wdLast := some s.time.rtc.toNat } }

theorem State.crerusLost_dead (s : State) :
    s.crerusLost.crerus.alive = false ∧ s.crerusLost.crerus.wdLast = s.crerus.wdLast := by
  unfold State.crerusLost
  dsimp only
  split <;> exact ⟨rfl, rfl⟩

theorem crerusWatchdogExpiry_loses (s : State) (hu : s.crerusUp = true) :
    (s.crerus.wdLast = none → ∃ t, exec .crerusWatchdogExpiry s = .next t ∧ t.crerus.alive = false
      ∧ t.crerus.wdLast = some s.time.rtc.toNat ∧ t.crerus.susp = [] ∧ t.crerus.pend = [])
    ∧ ∀ x, s.crerus.wdLast = some x →
        (s.time.rtc.toNat ≤ x + 1000000 → exec .crerusWatchdogExpiry s = .next (s.askReset 10))
        ∧ (x + 1000000 < s.time.rtc.toNat → ∃ t, exec .crerusWatchdogExpiry s = .next t ∧ t.crerus.alive = false
            ∧ t.crerus.wdLast = some s.time.rtc.toNat) := by
  have up : (!s.crerusUp) ≠ true := by
    rw [hu]
    exact Bool.false_ne_true
  obtain ⟨dead, marked⟩ := s.wdMarked.crerusLost_dead
  have lost := s.wdMarked.crerusLost_restarted
  refine ⟨fun hw => ?_, fun x hw => ⟨fun hx => ?_, fun hx => ?_⟩⟩
  · refine ⟨s.wdMarked.crerusLost, congrArg Host.Outcome.next ((if_neg up).trans ?_), dead, marked, lost.susp, lost.pend⟩
    rw [hw]
    rfl
  · refine congrArg Host.Outcome.next ((if_neg up).trans ?_)
    rw [hw]
    exact if_pos hx
  · refine ⟨s.wdMarked.crerusLost, congrArg Host.Outcome.next ((if_neg up).trans ?_), dead, marked⟩
    rw [hw]
    exact if_neg (Nat.not_le.mpr hx)

/-! ### The firmware Nouns (R326) -/

theorem State.withFlash_free {s : State} (hf : s.flash.op0 = none) (h2 : s.on 2 = true) (j : Job) (f : State → State) :
    s.withFlash j f = f s := if_pos (by rw [hf, h2]; rfl)

/-- The restart of an activation is shown to the host, and the queue is held. -/
def State.restartShown (s : State) : State :=
  if s.on 10 then ((s.set R.HIF_STATUS_RESTARTING 1).set R.HIF_STATUS_FWREADY 0).set R.Q_STATUS_HELD 1 else s

/-- An activation is under way, with the ARMED mark of slot `n` on its way. -/
def State.armedFor (s : State) (n : Nat) : State :=
  let t : State := { s with crerus := { s.crerus with activating := true } }
  if t.fwMark n 0 then t else t.setFlashOp 0 (some { prog := [(fwMarkKey n 0, fwMarkUnit)] })

theorem State.armedFor_activating (s : State) (n : Nat) : (s.armedFor n).crerus.activating = true := by
  unfold State.armedFor
  dsimp only
  split
  · rfl
  · exact congrArg Crerus.activating ((State.setFlashOp_moves ..).same .crerus (by decide))

theorem State.get_armedFor (s : State) (n : Nat) {f : Fld} (h : f.pd = 10) : (s.armedFor n).get f = s.get f := by
  unfold State.armedFor
  dsimp only
  split
  · rfl
  · exact (State.setFlashOp_moves ..).same (.pd 10) (by decide) f h

theorem State.restartShown_shows {s : State} (h : s.on 10 = true) :
    s.restartShown.get R.HIF_STATUS_RESTARTING = 1 ∧ s.restartShown.get R.HIF_STATUS_FWREADY = 0
      ∧ s.restartShown.get R.Q_STATUS_HELD = 1 := by
  rw [State.restartShown, if_pos h]
  exact ⟨(State.get_set_apart _ rfl _).trans ((State.get_set_apart _ rfl _).trans (State.get_set ..)),
    (State.get_set_apart _ rfl _).trans (State.get_set ..), State.get_set ..⟩

section
variable (j : Job) (s : State) (h : s.Serves j)
include h

theorem doFwVerify_answers (hv : j.verb = 5) (hn : j.noun = 0x602) (hf : s.flash.op0 = none) (h2 : s.on 2 = true) :
    let r := s.fwFail (1 - s.crerus.slot)
    let u : State := { s with crerus := { s.crerus with verified := true } }
    exec .doFwVerify s = .next (if r = 0 then u.finish j 0 []
      else s.finish j (if r = 4 then 0x14 else if r = 5 then 0x30 else 0x13) []) := by
  intro r u
  refine congrArg Host.Outcome.next ((h.serve (Job.isDo_of hv hn) _).trans ((State.withFlash_free hf h2 j _).trans ?_))
  unfold State.fwVerify
  split
  case h_1 e => exact (if_pos e).symm
  case h_2 e => simp [r, e]
  case h_3 e => simp [r, e]
  case h_4 e0 e4 e5 => rw [if_neg e0, if_neg e4, if_neg e5]

theorem doFwActivate_activates (hv : j.verb = 5) (hn : j.noun = 0x603) (he : s.flag R.PWR_STATE_ENTRY = false) :
    (s.crerus.verified = false → exec .doFwActivate s = .next (s.finish j 0x13 []))
    ∧ (s.crerus.verified = true → s.flash.op0 = none → s.on 2 = true → s.on 10 = true →
        ∃ u : State, exec .doFwActivate s = .next u.jrnlPush ∧ u.crerus.activating = true
          ∧ u.get R.HIF_STATUS_RESTARTING = 1 ∧ u.get R.HIF_STATUS_FWREADY = 0 ∧ u.get R.Q_STATUS_HELD = 1) := by
  have awake : s.flag R.PWR_STATE_ENTRY ≠ true := by
    rw [he]
    exact Bool.false_ne_true
  refine ⟨fun hver => ?_, fun hver hf h2 h10 => ?_⟩
  · exact congrArg Host.Outcome.next ((h.serve (Job.isDo_of hv hn) _).trans ((if_neg awake).trans
      (if_pos (by rw [hver]; rfl))))
  · have verified : (!s.crerus.verified) ≠ true := by
      rw [hver]
      exact Bool.false_ne_true
    have on10 : (s.finish j 1 []).on 10 = true :=
      (State.on_congr (State.get_finish s j 1 [] rfl (by decide))).trans h10
    obtain ⟨restarting, ready, held⟩ := State.restartShown_shows on10
    refine ⟨(s.finish j 1 []).restartShown.armedFor (1 - s.crerus.slot), ?_, State.armedFor_activating .., ?_, ?_, ?_⟩
    · exact congrArg Host.Outcome.next ((h.serve (Job.isDo_of hv hn) _).trans ((if_neg awake).trans
        ((if_neg verified).trans (State.withFlash_free hf h2 j _))))
    · exact (State.get_armedFor _ _ rfl).trans restarting
    · exact (State.get_armedFor _ _ rfl).trans ready
    · exact (State.get_armedFor _ _ rfl).trans held

theorem fwStatusCommit_confirms (hv : j.verb = 4) (hn : j.noun = 0x600) :
    (s.fwMark s.crerus.slot 2 = true → exec .fwStatusCommit s = .next (s.confirmed.finish j 0 []))
    ∧ (s.fwMark s.crerus.slot 2 = false → s.flash.op0 = none → s.on 2 = true →
        ∃ t, exec .fwStatusCommit s = .next t ∧ t.flash.op0 = some { prog := [(fwMarkKey s.crerus.slot 2, fwMarkUnit)] }
          ∧ { j with wait := .flash none } ∈ t.crerus.susp) := by
  have kind : (decide (j.verb = 4) && decide (j.noun = 0x600)) = true := by simp [hv, hn]
  refine ⟨fun hm => congrArg Host.Outcome.next ((h.serve kind _).trans (if_pos hm)), fun hm hf h2 => ?_⟩
  have unmarked : s.fwMark s.crerus.slot 2 ≠ true := by
    rw [hm]
    exact Bool.false_ne_true
  exact ⟨_, congrArg Host.Outcome.next ((h.serve kind _).trans ((if_neg unmarked).trans (State.withFlash_free hf h2 j _))),
    rfl, State.mem_suspend ..⟩

/-! ### DRAFT_IMAGE (R336) -/

omit h in
theorem State.draftImage_badHead {s : State} (h : draftHead (s.rdBytes imageStore 0x7FE0) = false) (j : Job) :
    s.draftImage j = s.finish j 0x13 [] := by
  simp only [State.draftImage, h, Bool.not_false, Bool.true_or, if_true]

omit h in
/-- An image is newer than no Draft at all. -/
theorem State.draftImage_first {s : State} (h : draftHead (s.rdBytes imageStore 0x7FE0) = true) (hn : s.newestDraft = none)
    (j : Job) : ∃ n, s.draftImage j = if (s.draftBad (s.rdBytes imageStore 0x7FE0)).isSome = true then s.finish j 0x13 []
      else (s.setFlashOp 0 (some (draftWrite s.targetSlot ((s.rdBytes imageStore 0x7FE0).take n)))).suspend j (.flash none) := by
  generalize hi : s.rdBytes imageStore 0x7FE0 = img at h ⊢
  refine ⟨0x40 + draftLen img + (if fieldOf img 6 2 = 1 then 192 else 0), ?_⟩
  simp only [State.draftImage, hi, h, hn, Bool.not_true, Bool.false_or, Bool.false_eq_true, if_false]

theorem doDraftImage_writes (hv : j.verb = 5) (hn : j.noun = 0xA01) (hf : s.flash.op0 = none) (h2 : s.on 2 = true) :
    let img := s.rdBytes imageStore 0x7FE0
    (draftHead img = false → exec .doDraftImage s = .next (s.finish j 0x13 []))
    ∧ (draftHead img = true → s.newestDraft = none → ∃ n, exec .doDraftImage s = .next
        (if (s.draftBad img).isSome then s.finish j 0x13 []
         else (s.setFlashOp 0 (some (draftWrite s.targetSlot (img.take n)))).suspend j (.flash none))) := by
  intro img
  have runs : exec .doDraftImage s = .next (s.draftImage j) :=
    congrArg Host.Outcome.next ((h.serve (Job.isDo_of hv hn) _).trans (State.withFlash_free hf h2 j _))
  rw [runs]
  refine ⟨fun hd => congrArg Host.Outcome.next (State.draftImage_badHead hd j), fun hd hnew => ?_⟩
  obtain ⟨n, next⟩ := State.draftImage_first hd hnew j
  exact ⟨n, congrArg Host.Outcome.next next⟩

end

/-- Settles O42: the DO requests and the commands of vendor firmware, each by the branches of what serves it. -/
theorem crerusDoAndFirmware : Obligations.CrerusDoAndFirmware :=
  ⟨doWarpGstart_launches, doWarp_acts, doWarpCal_off, doLc_acts, doDrbgRandom_answers, doDrbgGenerate_makes,
    fun live j s h hv hn => ⟨doTamperClear_clears live j s h hv hn, doTamperClear_busy live j s h hv hn⟩,
    vendorFirmwareStart_starts, crerusRestartComplete_restarts, crerusWatchdogExpiry_loses, doFwVerify_answers,
    doFwActivate_activates, fwStatusCommit_confirms, doDraftImage_writes⟩

end Sys2Proof.Machine
end
